-- ==== Sys2Proof/Word.lean ====
section
/-! DEFINITION. The word types of the module and the ranges of its unit numbers. -/

namespace Sys2Proof

/-- A byte. -/
abbrev Byte := BitVec 8

/-- A 64-bit register or tally word. -/
abbrev Word := BitVec 64

/-- A field of the wafer, 0–79 (R20). -/
abbrev FieldId := Fin 80

/-- A Verne link V00–V71 (R424). -/
abbrev LinkId := Fin 72

/-- A parish, 0–31 (R168). -/
abbrev ParishId := Fin 32

/-- A hardware thread of a field, crofter × 8 + slot (R101). -/
abbrev ThreadId := Fin 128

/-- A crofter of a field (R101). -/
abbrev CrofterId := Fin 16

/-- A tally of a field (R143). -/
abbrev TallyId := Fin 4096

/-- A ring of a parish (R168). -/
abbrev RingId := Fin 64

/-- A muster entry (R168). -/
abbrev MusterId := Fin 64

/-- A port, 0–51 (R438). -/
abbrev PortId := Fin 52

/-- A rack-local wafer number (R57). -/
abbrev WaferId := Fin 16

/-- An integer or floating-point register of a crofter thread. -/
abbrev XReg := Fin 32

/-- A host function: 0 the physical function, `p + 1` the virtual function of parish `p` (R169). -/
abbrev FnId := Fin 33

end Sys2Proof
end

