-- ==== Sys2Proof/Syntax.lean ====
section
/-! DEFINITION. The commands of the block: one constructor of `Instr` per row of the opcode table,
with the operands the row's rules need.  Commands that stand for an instruction of a crofter or a
sieve carry the instruction's decoded operands; measured quantities and data that arrive from
outside the module are operands of the command they arrive with. -/

namespace Sys2Proof

/-! ## Operands of crofter instructions -/

/-- The length of the instruction in memory, by which pc advances. -/
inductive InstrLen where
  | two | four
  deriving DecidableEq, Repr

/-- Sizes of a crofter memory access. -/
inductive MemSize where
  | b | h | w | d
  deriving DecidableEq, Repr

/-- A decoded load: `fp` selects flw and fld, `uns` lbu, lhu and lwu. -/
structure LoadArgs where
  len : InstrLen
  size : MemSize
  uns : Bool
  fp : Bool
  rd : XReg
  rs1 : XReg
  imm : BitVec 12
  deriving DecidableEq, Repr

/-- A decoded store: `fp` selects fsw and fsd. -/
structure StoreArgs where
  len : InstrLen
  size : MemSize
  fp : Bool
  rs1 : XReg
  rs2 : XReg
  imm : BitVec 12
  deriving DecidableEq, Repr

/-- The read-modify-write operations of RV64A and of the Xolt commons atomics (R122). -/
inductive AmoOp where
  | swap | add | xor | and | or | min | max | minu | maxu
  | faddS | faddBf2 | addSatD | casD
  deriving DecidableEq, Repr

/-- A decoded atomic; `rs3` is used by `casD` only. `wide` is the 8-byte form. -/
structure AmoArgs where
  op : AmoOp
  wide : Bool
  aq : Bool
  rl : Bool
  rd : XReg
  rs1 : XReg
  rs2 : XReg
  rs3 : XReg
  deriving DecidableEq, Repr

/-- A decoded load-reserved or store-conditional (`rs2` is used by the store). -/
structure ResArgs where
  wide : Bool
  aq : Bool
  rl : Bool
  rd : XReg
  rs1 : XReg
  rs2 : XReg
  deriving DecidableEq, Repr

/-- Integer register-register operations of RV64I, M, Zba and Zbb (R102). -/
inductive AluOp where
  | add | sub | sll | slt | sltu | xor | srl | sra | or | and
  | addw | subw | sllw | srlw | sraw
  | mul | mulh | mulhsu | mulhu | div | divu | rem | remu
  | mulw | divw | divuw | remw | remuw
  | adduw | sh1add | sh1adduw | sh2add | sh2adduw | sh3add | sh3adduw
  | andn | orn | xnor | max | maxu | min | minu | rol | ror | rolw | rorw
  deriving DecidableEq, Repr

/-- Integer register-immediate operations with a 12-bit immediate. -/
inductive AluImmOp where
  | addi | slti | sltiu | xori | ori | andi | addiw
  deriving DecidableEq, Repr

/-- Shifts by an immediate. -/
inductive ShiftImmOp where
  | slli | srli | srai | slliw | srliw | sraiw | rori | roriw | slliuw
  deriving DecidableEq, Repr

/-- One-operand integer operations of Zbb. -/
inductive UnaryOp where
  | clz | clzw | ctz | ctzw | cpop | cpopw | sextb | sexth | zexth | orcb | rev8
  deriving DecidableEq, Repr

/-- Branch conditions. -/
inductive BranchOp where
  | eq | ne | lt | ge | ltu | geu
  deriving DecidableEq, Repr

/-- The rounding-mode field of a floating-point instruction; `dyn` takes fcsr.frm. -/
inductive RmField where
  | rne | rtz | rdn | rup | rmm | dyn | reserved
  deriving DecidableEq, Repr

/-- Floating-point widths of F and D. -/
inductive FpW where
  | s | d
  deriving DecidableEq, Repr

/-- Floating-point register operations of F and D that write a floating-point register. -/
inductive FpOp where
  | add | sub | mul | div | sqrt | sgnj | sgnjn | sgnjx | min | max
  deriving DecidableEq, Repr

/-- Fused multiply-add operations. -/
inductive FmaOp where
  | fmadd | fmsub | fnmsub | fnmadd
  deriving DecidableEq, Repr

/-- Floating-point comparisons. -/
inductive FpCmp where
  | eq | lt | le
  deriving DecidableEq, Repr

/-- Integer widths of the floating-point conversions. -/
inductive IntW where
  | w | wu | l | lu
  deriving DecidableEq, Repr

/-- A decoded standard instruction that has no row of its own (R102).  Compressed forms carry the
operands of the instruction they stand for. -/
inductive RvInstr where
  | alu (op : AluOp) (rd rs1 rs2 : XReg)
  | aluImm (op : AluImmOp) (rd rs1 : XReg) (imm : BitVec 12)
  | shiftImm (op : ShiftImmOp) (rd rs1 : XReg) (shamt : BitVec 6)
  | unary (op : UnaryOp) (rd rs1 : XReg)
  | lui (rd : XReg) (imm : BitVec 20)
  | auipc (rd : XReg) (imm : BitVec 20)
  | jal (rd : XReg) (off : BitVec 21)
  | jalr (rd rs1 : XReg) (imm : BitVec 12)
  | branch (op : BranchOp) (rs1 rs2 : XReg) (off : BitVec 13)
  | fp (op : FpOp) (w : FpW) (rm : RmField) (rd rs1 rs2 : XReg)
  | fma (op : FmaOp) (w : FpW) (rm : RmField) (rd rs1 rs2 rs3 : XReg)
  | fcmp (op : FpCmp) (w : FpW) (rd rs1 rs2 : XReg)
  | fclass (w : FpW) (rd rs1 : XReg)
  | fcvtInt (w : FpW) (i : IntW) (rm : RmField) (rd rs1 : XReg)
  | fcvtFromInt (w : FpW) (i : IntW) (rm : RmField) (rd rs1 : XReg)
  | fcvtSD (rm : RmField) (rd rs1 : XReg)
  | fcvtDS (rd rs1 : XReg)
  | fmvToX (w : FpW) (rd rs1 : XReg)
  | fmvFromX (w : FpW) (rd rs1 : XReg)
  | wfi
  | illegal (raw : BitVec 32)
  | fetchFault (status : BitVec 4)
  deriving DecidableEq, Repr

/-- The six CSR instructions of Zicsr. -/
inductive CsrOp where
  | rw | rs | rc
  deriving DecidableEq, Repr

/-- A decoded CSR instruction; `imm` selects the zero-extended 5-bit immediate in `src`. -/
structure CsrArgs where
  op : CsrOp
  imm : Bool
  rd : XReg
  src : XReg
  csr : BitVec 12
  deriving DecidableEq, Repr

/-- Register operands of an Xolt instruction (R119); `aq` and `rl` are the AMO bits. -/
structure XtArgs where
  rd : XReg
  rs1 : XReg
  rs2 : XReg
  rs3 : XReg
  aq : Bool
  rl : Bool
  deriving DecidableEq, Repr

/-! ## Accesses -/

/-- The source of a commons access or tally operation (R69, R92): its wafer, its field unless it is
the host, its parish unless it is the physical function, and its unit as numbered in the field's
ring stops. -/
structure Source where
  wafer : WaferId
  field : Option FieldId
  parish : Option ParishId
  host : Bool
  unit : BitVec 7
  deriving DecidableEq, Repr

/-- What an access does at its target. -/
inductive AccessKind where
  | read (size : Nat)
  | write (data : List Byte) (poisoned : Bool)
  | amo (op : AmoOp) (wide : Bool) (operand expected : Word)
  deriving DecidableEq, Repr

/-- An access status code as a response carries it (R90). -/
abbrev AccStatusCode := BitVec 4

/-- Who commands a register or a management command (R693). -/
inductive CmdSource where
  | pf | vf (p : ParishId) | crier | smbus | tap | reeve | wctl | field (f : FieldId)
  deriving DecidableEq, Repr

/-- The transaction id a tally operation carries away from its source field (R158). -/
structure TxId where
  source : FieldId
  id : BitVec 16
  deriving DecidableEq, Repr

/-- The scopes of a reset command (R619). -/
inductive EngineClass where
  | quern | sieve | scree | cairn | loom
  deriving DecidableEq, Repr

/-- The operations that a tally instruction, a host or an engine applies to a tally (R146). -/
inductive TallyOp where
  | read
  | set (v : Word)
  | add (v : Word)
  | clearFlags
  | cas (new expected : Word)
  | wait (threshold : BitVec 48)
  | arm (threshold : BitVec 48)
  | chain (threshold : BitVec 48) (skipErr : Bool) (desc : List Byte)
  deriving DecidableEq, Repr

/-- A descriptor that reaches its target field: one this wafer's issue ports forwarded, by its id, or
one that another wafer's thread sent. -/
inductive IssueRef where
  | own (id : Nat)
  | foreign (src : Source) (field : FieldId) (desc : List Byte)
  deriving DecidableEq, Repr

/-- What a holder asks of a pool agent (R292, R309): its free slots, slots, or the release of slots. -/
inductive PoolOp where
  | query
  | alloc (n : Nat)
  | release (slots : List Nat)
  deriving DecidableEq, Repr

/-- A request at a pool agent: a query of a cairn of this wafer by its id, or a request of a holder on
another wafer. -/
inductive PoolRef where
  | own (id : Nat)
  | foreign (src : Source) (holder : FieldId) (op : PoolOp)
  deriving DecidableEq, Repr

/-- A pool's answer to a query: that of a pool of this wafer is the one its agent gave; another wafer
answers with its free slots, its pool's base and its size, or refuses. -/
inductive PoolAnswer where
  | own
  | denied
  | foreign (free base slots : Nat)
  deriving DecidableEq, Repr

/-- A frame as the decode pipe finishes it: what the codec's own specification makes of the bitstream.
`picture` is the decoded frame (the PATCH result for a damaged one): luma samples row by row, then
interleaved chroma, of one byte each, or two at 10 bits. -/
structure DecFrame where
  offset : Nat            -- byte offset of the frame in the buffer
  consumed : Nat          -- bytes of the buffer consumed after it
  cause : Fin 11          -- CAUSE of R371
  hidden : Bool
  refDamaged : Bool
  area : BitVec 16        -- damaged area in 1/65,536
  width : Nat
  height : Nat
  rejects : Nat           -- sequences rejected since the last frame
  cycles : Nat
  picture : List Byte
  deriving DecidableEq, Repr

/-- A frame as the encode pipe finishes it: the input it stands for, its type, average QP and bytes. -/
structure EncFrame where
  input : Nat
  type : Fin 4
  qp : BitVec 8
  cycles : Nat
  data : List Byte
  deriving DecidableEq, Repr

/-- A finished frame of either pipe. -/
inductive FrameOut where
  | dec (x : DecFrame)
  | enc (x : EncFrame)
  deriving DecidableEq, Repr

/-- What a tracked request of another wafer asks of its destination field (R432, R443). -/
inductive TrackedReq where
  | write (addr : BitVec 57) (data : List Byte) (poison : Bool)
  | amo (addr : BitVec 57) (op : AmoOp) (wide : Bool) (operand expected : Word)
  | issue (desc : List Byte)
  | tally (t : TallyId) (op : TallyOp)
  | send (addr : BitVec 57) (data : List Byte)
  deriving DecidableEq, Repr

/-- Causes a retirement can be decided for (R44, R45), beside those the wafer control finds itself. -/
inductive RetireCause where
  | bodySelfcheck | spineSelfcheck | bodyRail | spineRail | escalation (spineOk : Bool)
  deriving DecidableEq, Repr


/-- A unit that detects an internal fault (R616); a quern by its physical number. -/
inductive FaultUnit where
  | engine (cls : EngineClass) (n : BitVec 4)
  | crofter (c : CrofterId)
  deriving DecidableEq, Repr

/-- A configuration register of a function of H0, by what PCIe names it (R496, R502); `other` is any
register the spec says nothing of, by its offset. -/
inductive CfgReg where
  | classCode | totalVfs | firstVfOffset | vfStride | vfEnable | numVfs
  | memEnable | vfMemEnable | powerState | ats | msixMask
  | bar2Size (vf : Bool)
  | other (offset : BitVec 12)
  deriving DecidableEq, Repr

/-- What the host answers to a read of the module. -/
inductive HostAnswer where
  | data (bytes : List Byte)
  | unsupported
  | poison
  | refused          -- ATS refused the translation
  deriving DecidableEq, Repr

/-- The events a field counted for one account in an estimator interval (R534): the sheaf whose work they
were, or none for work that carries no tag, and whether they were suspect replay (R541).  Engine counts
are cycles of the unit classes. -/
structure Activity where
  field : FieldId
  sheaf : Option Nat
  replay : Bool
  quern : Nat
  sieve : Nat
  scree : Nat
  loom : Nat
  cairn : Nat
  instrs : Nat
  hbm : Nat
  hops : Nat
  tally : Nat
  deriving DecidableEq, Repr

/-- The sources of Reeve mailbox commands (R576). -/
inductive MbxSource where
  | pf | smbus | tap
  deriving DecidableEq, Repr

/-- What a signed command carries beside its operands (R577): the nonce, the unit identity, and whether
the signature of the key or keys that the command requires holds. -/
structure Signed where
  nonce : BitVec 128
  unit : Word
  ok : Bool
  deriving DecidableEq, Repr

/-- Who signed a lifecycle transition (R583). -/
inductive Signer where
  | owner | steundevo
  deriving DecidableEq, Repr

/-- A fault a self-test detects (R673): its kind, its place (seam index, stack, cell or link), the
direction or pseudo-channel, the wire or bump, a bridge partner, and whether the wire is the forwarded
clock or the freeze wire of a seam. -/
structure BistFault where
  kind : Fin 8
  place : Fin 442
  sub : BitVec 5
  wire : BitVec 13
  partner : BitVec 13
  special : Bool
  deriving DecidableEq, Repr

/-- The sidebands that carry commands of R694: the crier mailbox and SMBus. -/
inductive Sideband where
  | crier | smbus
  deriving DecidableEq, Repr

/-- The sources of a GPIO lock sequence (R699). -/
inductive GpioSource where
  | pf | crier | smbus
  deriving DecidableEq, Repr

/-- What a field's self-check found wrong (R717): its spine, a body unit other than a quern or the loom,
the physical querns that failed, its loom. -/
structure SelfFail where
  field : FieldId
  spine : Bool
  body : Bool
  querns : BitVec 9
  loom : Bool
  deriving DecidableEq, Repr

/-- A stack that failed to train (R716): loss code RETRAIN or LANE, with the pseudo-channel and lane. -/
structure StackFail where
  field : FieldId
  retrain : Bool
  pc : BitVec 5
  lane : BitVec 8
  deriving DecidableEq, Repr

/-! ## Register accesses -/

/-- A page slot: of a field's region 2 (R745), or of the wafer area of BAR0 (R747, R753). -/
inductive RegPlace where
  | field (f : FieldId) (slot : Fin 64)
  | wafer (slot : Fin 1024)
  deriving DecidableEq, Repr

/-- How a register access reaches the module: through BAR0 or BAR4 of a function, or from the Reeve or
the wafer control, which name a page and an offset. -/
inductive RegPath where
  | bar0 (fn : FnId) (offset : BitVec 26)
  | bar4 (fn : FnId) (offset : BitVec 24)
  | reeve (place : RegPlace) (offset : BitVec 12)
  | wctl (place : RegPlace) (offset : BitVec 12)
  deriving DecidableEq, Repr

/-- A read of so many bytes, or a write of bytes, as a host's TLP or a register access carries it. -/
inductive RegOp where
  | read (n : Nat)
  | write (bytes : List Byte)
  deriving DecidableEq, Repr

/-! ## The commands -/

/-- The commands, in the opcode table's order. -/
inductive Instr where
  /-- POWER_UP, R710: VIN first reaches 46 V, or the 100 ms qualification after a save ends, and
      power-up starts at t0. -/
  | powerUp
  /-- VIN_QUALIFIED, R565: After a save, VIN has stayed within 46–58 V for 100 ms (after a
      commanded off, it must first stay below 40 V for 100 ms), and power-up may begin. -/
  | vinQualified (low : Bool)
  /-- HEARTH_ALIVE, R713: The hearth firmware runs from ROM, the crier and SMBus answer and the
      mirror roll begins, within 5 ms of t0. -/
  | hearthAlive (strap : BitVec 3)
  /-- PLANE_CHARGED, R787: The 54 V plane and the hold-up capacitor have charged to within 2 V of
      VIN, and the hold-up check starts. -/
  | planeCharged
  /-- HOLDUP_CHECK_DONE, R559: The 200 µs hold-up discharge measurement ends, HRT_HOLDUP is
      recorded with HOLDUP_LOW if needed, and the Reeve starts. -/
  | holdupCheckDone (cap : BitVec 16)
  /-- REEVE_BOOT_DONE, R714: Images are verified, measured and loaded, the persistent store is
      read, the epoch is advanced and the ledger is scanned; the links start training and stage 2
      begins. -/
  | reeveBootDone (badA : Option (Fin 5)) (badB : Option (Fin 5)) (crcOk : Bool)
  /-- CLOCK_STAGE_DONE, R715: Every reachable field has locked to the forwarded clock with its
      cycle stamp loaded; unclockable fields are marked for retirement. -/
  | clockStageDone (unclocked : List FieldId)
  /-- HBM_GROUP_TRAINED, R716: One row group of stacks finishes training, mapping spare rows or
      failing, and the next group starts. -/
  | hbmGroupTrained (failed : List StackFail) (spares : List (FieldId × BitVec 24))
  /-- SEAMS_TRAINED, R717: Every seam has mapped its spares and trained UP or DOWN, and self-check
      starts. -/
  | seamsTrained (failed : List (FieldId × Fin 4)) (spares : List (FieldId × Fin 4 × BitVec 4))
  /-- SELFCHECK_DONE, R717: Every field has run its spine and body self-check; querns are enabled,
      the spare is chosen, failing fields retire, and routes are computed. -/
  | selfcheckDone (l : List SelfFail)
  /-- IMAGES_LOADED, R719: The monitor and engine microcode are loaded into every in-service field,
      CRF_MON_STATUS.READY is set, and the fabric stage begins. -/
  | imagesLoaded
  /-- FABRIC_STAGE_TIMEOUT, R720: Stage 7 ends after 10 s without JOINED or SOLO, and
      FABRIC_TIMEOUT is reported. -/
  | fabricStageTimeout
  /-- BOOT_READY, R721: At READY the default spread formation loads, the sequencer starts fetching,
      READY and LED0 are set and MODE_DONE is sent. -/
  | bootReady
  /-- HEARTH_FW_REPORT_TIMEOUT, R728: Verified hearth firmware fails to report its start within 10
      ms, a HEARTH_FW wafer fault. -/
  | hearthFwReportTimeout
  /-- HEARTH_WATCHDOG_EXPIRE, R728: The hearth watchdog expires before READY, the hearth falls back
      to ROM services and bring-up halts with HEARTH_FW. -/
  | hearthWatchdogExpire
  /-- PERST_DEASSERT, R723: PERST_N is released and H0 starts toward readiness. -/
  | perstDeassert
  /-- PERST_ASSERT, R499: PERST_N is asserted, or hot reset is received, and the PF FLR effects are
      applied to H0. -/
  | perstAssert (hot : Bool)
  /-- H0_READY, R723: H0 stops answering Configuration Request Retry Status and serves
      configuration and BAR0 accesses. -/
  | h0Ready (width : Fin 4) (speed : Fin 6)
  /-- H0_LINK_DOWN, R499: The H0 link goes down, which acts as a PF FLR, and the link then
      retrains. -/
  | h0LinkDown
  /-- H0_CONFIG_REQUEST, R497: A PCIe configuration request reaches H0; it is answered with CRS
      until H0 is ready. -/
  | h0ConfigRequest (fn : FnId) (reg : CfgReg) (write : Option (BitVec 32))
  /-- VF_FLR, R172: A VF function-level reset cancels the parish without receipts, disables its DMA
      queues and resets its ring and HST_FN registers. -/
  | vfFlr (p : ParishId)
  /-- PF_FLR, R499: A PF function-level reset applies the VF FLR to every VF, clears VF Enable and
      resets the PF's HST_FN page. -/
  | pfFlr
  /-- FLR_COMPLETE, R499: A function-level reset finishes, within 100 ms. -/
  | flrComplete (fn : FnId)
  /-- PWR_FAIL_ASSERT, R555: PWR_FAIL_N stays low for 200 ns while PIN_EN is set, and a save is
      triggered. -/
  | pwrFailAssert
  /-- VIN_SAG_DETECT, R555: The comparator sees VIN fall below 44 V, and a save is triggered. -/
  | vinSagDetect
  /-- REEVE_SECTION_HANDOVER, R564: The Reeve hands its section 5 to the save engine. -/
  | reeveSectionHandover (bytes : Fin 8193)
  /-- REEVE_HANDOVER_TIMEOUT, R564: The Reeve has not handed over section 5 within 2 ms, and
      REEVE_ABSENT is set. -/
  | reeveHandoverTimeout
  /-- RECORD_COMMIT, R564: The save engine writes the header, CRC and COMMIT word of the ledger
      record, and the hearth and Reeve halt. -/
  | recordCommit
  /-- MOD_TARGET_ACTIVE, R524: A module command to M-active is taken from M-drowsy or M-standby. -/
  | modTargetActive (src : Fin 3)
  /-- MOD_TARGET_DROWSY, R525: A DROWSY module command stops dispatch and waits for every field to
      idle. -/
  | modTargetDrowsy (src : Fin 3)
  /-- MOD_TARGET_STANDBY, R526: A STANDBY module command turns every field off, puts HBM in
      self-refresh and takes links and H0 down. -/
  | modTargetStandby (src : Fin 3)
  /-- MOD_TARGET_OFF, R528: An OFF module command turns off every rail except the supply monitor.
      -/
  | modTargetOff (src : Fin 3)
  /-- DROWSY_DRAIN_DONE, R525: Every field is idle, every field enters F-idle, and the module
      reaches M-drowsy. -/
  | drowsyDrainDone
  /-- DRAIN_MS_EXPIRE, R525: Work is still running when DRAIN_MS expires, so the DROWSY command
      fails with CMD_ERR and dispatch resumes. -/
  | drainMsExpire
  /-- MOD_TRANSITION_DONE, R523: A module transition completes, and PWR_EVENT.MODE_DONE and PF
      entry 3 are raised. -/
  | modTransitionDone
  /-- WAKE_EDGE, R527: A qualifying edge on an armed GP0–GP7 input in M-standby acts as a command
      to the wake target. -/
  | wakeEdge (n : Fin 8) (rising : Bool)
  /-- FLD_TARGET_ON, R529: A field state command to F-on is taken. -/
  | fldTargetOn (f : FieldId)
  /-- FLD_TARGET_IDLE, R529: A field state command to F-idle is taken, or fails with CMD_ERR while
      work runs. -/
  | fldTargetIdle (f : FieldId)
  /-- FLD_TARGET_RETAIN, R529: A field state command to F-retain is taken. -/
  | fldTargetRetain (f : FieldId)
  /-- FLD_TARGET_OFF, R529: A field state command to F-off is taken. -/
  | fldTargetOff (f : FieldId)
  /-- FLD_TRANSITION_DONE, R529: A field state transition completes; a return from F-off includes a
      field reset. -/
  | fldTransitionDone (f : FieldId)
  /-- PSTATE_WRITE, R532: A write of PWR_PSTATE.TARGET starts or redirects a P-state transition, or
      records it for later. -/
  | pstateWrite (v : BitVec 3)
  /-- PSTATE_CLOCK_SWITCH, R532: All fields switch mill and crofter clocks to the target P-state,
      which completes the transition for R16. -/
  | pstateClockSwitch
  /-- PSTATE_RAIL_SETTLED, R532: Every field rail settles within 10 mV of the target nominal, and
      PWR_PSTATE.BUSY clears. -/
  | pstateRailSettled
  /-- ESTIMATOR_INTERVAL, R534: At the end of each 2 µs interval, the activity estimates are formed
      and energy is attributed to accounts. -/
  | estimatorInterval (acts : List Activity)
  /-- CALIBRATION_PERIOD, R535: Every 100 ms, gains and static terms are fitted to the
      regulator-measured energy. -/
  | calibrationPeriod (watts : BitVec 16)
  /-- DROOP_DETECT, R539: A field rail falls 45 mV below nominal, and its mill and crofter clocks
      stretch to twice their period. -/
  | droopDetect (f : FieldId)
  /-- DROOP_RELEASE, R539: The rail has stayed within 30 mV of nominal for 64 mill cycles, and the
      stretch ends. -/
  | droopRelease (f : FieldId) (cycles : Nat)
  /-- DROOP_WINDOW_EXPIRE, R539: Stretched cycles pass PWR_FLD_DROOP_THRESH within a 100 ms window,
      and PWR_EVENT.DROOP is set. -/
  | droopWindowExpire (f : FieldId) (cycles : Nat)
  /-- THERM_WARN_CROSS, R543: A field die temperature crosses PWR_THERM_CTL.WARN, and THERM_WARN is
      set. -/
  | thermWarnCross (f : FieldId) (celsius : BitVec 8)
  /-- THERMAL_TRIP, R543: A sensor reaches its trip threshold, and the wafer halts all issue. -/
  | thermalTrip (kind : Fin 3) (field : BitVec 7)
  /-- THERM_RESUME, R544: A write of PWR_THERM_CTL.RESUME ends a thermal halt when every sensor is
      at least 15 °C below trip, or sets CMD_ERR. -/
  | thermResume (cool : Bool)
  /-- PARENT_LOSS, R41: A field's clock receiver detects the loss of its parent and holds its PLLs
      in HOLDOVER. -/
  | parentLoss (f : FieldId)
  /-- CLOCK_REPARENT, R41: The field chooses a new parent under R38, and STATE becomes SWITCHING.
      -/
  | clockReparent (f : FieldId)
  /-- CLOCK_RELOCK, R41: The field's PLLs realign to the new parent and lock, and STATE becomes
      LOCKED. -/
  | clockRelock (f : FieldId)
  /-- SEAM_ECC_ERROR, R30: A seam word has a SEC-DED error: a corrected error is counted, and an
      uncorrectable one poisons its flit. -/
  | seamEccError (f : FieldId) (n : Fin 4) (uncorrectable : Bool) (victim : Option Nat)
  /-- SEAM_UE_LIMIT, R30: A seam passes 16 uncorrectable errors in 1 s and is taken DOWN, which
      starts a route rebuild. -/
  | seamUeLimit (f : FieldId) (n : Fin 4)
  /-- SEAM_SAT_WINDOW, R50: Zero-credit cycles of a seam direction pass FLD_SEAM_SAT_THRESH in a
      100 µs window, and FLD_SEAM_EVENT is set. -/
  | seamSatWindow (f : FieldId) (n : Fin 4) (cycles : Nat)
  /-- ROUTE_REBUILD, R32: The wafer control recomputes routes and the seam cost table, with
      WFR_SEAM_GEN odd, and releases held traffic. -/
  | routeRebuild
  /-- FIELD_RETIRE, R48: The wafer control decides a retirement, isolates the body, and takes seams
      DOWN for a hole. -/
  | fieldRetire (f : FieldId) (cause : RetireCause)
  /-- DAMAGE_SCAN_DONE, R319: A holder's damage scan ends within its bound, and SCAN_BUSY clears.
      -/
  | damageScanDone (f : FieldId)
  /-- RETIRED_TASK_STATUS, R137: Within 60 µs, a pass-through's spine writes the status records and
      completion tallies of the tasks it held. -/
  | retiredTaskStatus (f : FieldId)
  /-- FIELD_RETIRED_POST, R763: A field-retirement record is written to the field event ring and
      entry 1 is raised. -/
  | fieldRetiredPost
  /-- UNIT_FENCED_POST, R763: A unit-fenced record is written to the field event ring. -/
  | unitFencedPost
  /-- SPARE_ENABLED_POST, R763: A spare-quern-enabled record is written to the field event ring. -/
  | spareEnabledPost
  /-- COMMONS_ACCESS, R69: A commons request reaches its target field and is checked, resolved and
      performed. -/
  | commonsAccess (src : Source) (addr : BitVec 57) (kind : AccessKind) (tag : Nat)
  /-- FRESH_FILL_DONE, R86: A fill ends, its fresh bit clears, and waiting accesses run in arrival
      order. -/
  | freshFillDone (f : FieldId) (g : BitVec 19)
  /-- FRESH_MAP_FAULT, R88: Both copies of a fresh-map word are uncorrectable, and the controller
      starts zeroing its 64 granules. -/
  | freshMapFault (f : FieldId) (word : BitVec 13)
  /-- FRESH_FAULT_ZERO_DONE, R88: The zeroing ends, the granules are marked written and waiting
      accesses proceed. -/
  | freshFaultZeroDone (f : FieldId) (word : BitVec 13)
  /-- COMMONS_RESPONSE, R90: A response reaches its requester and completes the request with an
      access status. -/
  | commonsResponse (id : Nat) (status : AccStatusCode) (fresh : Bool) (data : List Byte)
  /-- REQUEST_TIMEOUT, R90: A request has had no response within the request timeout and completes
      with TIMEOUT. -/
  | requestTimeout (id : Nat)
  /-- LATE_RESPONSE, R94: A response arrives for a request already completed in error, and is
      discarded and counted. -/
  | lateResponse (f : FieldId) (id : Nat)
  /-- SPREAD_ENABLE, R768: A write setting WFR_SPREAD_CTL.ENABLE enables the window if every check
      passes, or sets WRITE_ERR. -/
  | spreadEnable
  /-- SPREAD_DISABLE, R66: Clearing ENABLE stops new spread accesses, and BUSY holds while resolved
      ones finish. -/
  | spreadDisable
  /-- SPREAD_DRAINED, R66: Every spread access resolved before the disable has completed, and BUSY
      clears. -/
  | spreadDrained
  /-- SPREAD_SLOT_WRITE, R768: A slot entry is written while disabled, which clears its LOST bit.
      -/
  | spreadSlotWrite (k : Fin 80) (entry : BitVec 16)
  /-- SPREAD_MARK_LOST, R68: The slot of a retired field is marked LOST, with WFR_SPREAD_GEN odd
      then even. -/
  | spreadMarkLost (f : FieldId)
  /-- SRO_WINDOW_WRITE, R71: A write to an SRO window starts its copy to the parish's fields, with
      WFR_SRO_GEN odd. -/
  | sroWindowWrite (p : ParishId) (w : Fin 16) (limit : Bool) (v : Word)
  /-- SRO_COPY_DONE, R71: The windows are copied to every field of the parish, and WFR_SRO_GEN
      becomes even. -/
  | sroCopyDone (p : ParishId)
  /-- THREAD_START, R109: A received thread starts on the lowest free hardware thread with its
      initial registers. -/
  | threadStart (f : FieldId)
  /-- RV_INSTRUCTION, R102: A crofter issues a standard RV64GC instruction not given its own row.
      -/
  | rvInstruction (f : FieldId) (t : ThreadId) (len : InstrLen) (i : RvInstr)
  /-- LOAD, R132: A load executes; a non-OK status faults or, with QUIET_LOADS, returns zero. -/
  | load (f : FieldId) (t : ThreadId) (a : LoadArgs)
  /-- STORE, R133: A store retires before its acknowledgement. -/
  | store (f : FieldId) (t : ThreadId) (a : StoreArgs)
  /-- STORE_ACK, R133: A store acknowledgement arrives; a non-OK status arms the imprecise
      STORE_ERROR fault. -/
  | storeAck (id : Nat)
  /-- AMO, R82: An RV64A AMO is performed at the home field. -/
  | amo (f : FieldId) (t : ThreadId) (a : AmoArgs)
  /-- LR, R82: An LR reads and reserves only addresses of the thread's own field. -/
  | lr (f : FieldId) (t : ThreadId) (a : ResArgs)
  /-- SC, R82: An SC stores if the reservation holds, and fails otherwise. -/
  | sc (f : FieldId) (t : ThreadId) (a : ResArgs)
  /-- FENCE, R78: A FENCE waits until earlier writes are acknowledged and earlier reads have
      returned. -/
  | fence (f : FieldId) (t : ThreadId) (pred : BitVec 4) (succ : BitVec 4)
  /-- FENCE_I, R117: FENCE.I invalidates the executing crofter's L1I. -/
  | fenceI (f : FieldId) (t : ThreadId)
  /-- ECALL, R810: An ecall from U mode traps, and the monitor returns a0 = −1 and resumes. -/
  | ecall (f : FieldId) (t : ThreadId)
  /-- EBREAK, R810: A breakpoint traps, and the monitor ends the thread with code 3. -/
  | ebreak (f : FieldId) (t : ThreadId)
  /-- MRET, R116: The monitor resumes a trapped thread. -/
  | mret (f : FieldId) (t : ThreadId)
  /-- CSR_ACCESS, R105: A CSR instruction accesses a standard or Xolt CSR. -/
  | csrAccess (f : FieldId) (t : ThreadId) (a : CsrArgs)
  /-- XT_ISSUE, R126: xt.issue releases, snapshots the descriptor and forwards it to the target
      engine. -/
  | xtIssue (f : FieldId) (t : ThreadId) (a : XtArgs)
  /-- XT_ISSUE_W, R135: xt.issue.w issues and waits while the queue is FULL. -/
  | xtIssueW (f : FieldId) (t : ThreadId) (a : XtArgs)
  /-- ISSUE_W_RETRY, R135: A waiting xt.issue.w tries again when queue space may be free. -/
  | issueWRetry (id : Nat)
  /-- ISSUE_STATUS_RETURN, R130: The issue status arrives and is written to rd. -/
  | issueStatusReturn (id : Nat) (remote : BitVec 32)
  /-- TASK_ENQUEUE, R127: A forwarded descriptor reaches the target field and is parish-checked,
      placed on a unit and enqueued or refused. -/
  | taskEnqueue (ref : IssueRef)
  /-- XT_TADD, R121: xt.tadd adds a signed value to a tally. -/
  | xtTadd (f : FieldId) (t : ThreadId) (a : XtArgs)
  /-- XT_TSET, R121: xt.tset sets a tally's count. -/
  | xtTset (f : FieldId) (t : ThreadId) (a : XtArgs)
  /-- XT_TWAIT, R123: xt.twait waits until the count meets the threshold. -/
  | xtTwait (f : FieldId) (t : ThreadId) (a : XtArgs)
  /-- XT_TARM, R121: xt.tarm arms a signal at a threshold. -/
  | xtTarm (f : FieldId) (t : ThreadId) (a : XtArgs)
  /-- XT_TREAD, R121: xt.tread reads a tally word. -/
  | xtTread (f : FieldId) (t : ThreadId) (a : XtArgs)
  /-- XT_TCAS, R121: xt.tcas compares and swaps a tally count. -/
  | xtTcas (f : FieldId) (t : ThreadId) (a : XtArgs)
  /-- XT_TCHAIN, R156: xt.tchain snapshots a descriptor and places a chain at a threshold. -/
  | xtTchain (f : FieldId) (t : ThreadId) (a : XtArgs)
  /-- XT_AMOFADD_S, R122: An FP32 atomic add is performed at the home field. -/
  | xtAmofaddS (f : FieldId) (t : ThreadId) (a : XtArgs)
  /-- XT_AMOFADD_BF2, R122: Two packed BF16 atomic adds are performed at the home field. -/
  | xtAmofaddBf2 (f : FieldId) (t : ThreadId) (a : XtArgs)
  /-- XT_AMOADD_SAT_D, R122: A saturating signed 64-bit atomic add is performed. -/
  | xtAmoaddSatD (f : FieldId) (t : ThreadId) (a : XtArgs)
  /-- XT_AMOCAS_D, R122: A 64-bit atomic compare-and-swap is performed. -/
  | xtAmocasD (f : FieldId) (t : ThreadId) (a : XtArgs)
  /-- XT_PAUSE, R123: xt.pause yields its thread for a number of crofter cycles. -/
  | xtPause (f : FieldId) (t : ThreadId) (a : XtArgs)
  /-- PAUSE_EXPIRE, R123: The xt.pause count runs out, and the thread is READY again. -/
  | pauseExpire (f : FieldId) (t : ThreadId)
  /-- XT_EXIT, R113: xt.exit ends the thread normally with an exit code. -/
  | xtExit (f : FieldId) (t : ThreadId) (a : XtArgs)
  /-- XT_BELL, R124: xt.bell rings the field's bell. -/
  | xtBell (f : FieldId) (t : ThreadId) (a : XtArgs)
  /-- XT_KILL, R113: xt.kill, in M mode, ends the thread as faulted with a code. -/
  | xtKill (f : FieldId) (t : ThreadId) (a : XtArgs)
  /-- SRO_INV_START, R118: A write of CRF_SRO_INV.START invalidates the field's SRO lines. -/
  | sroInvStart (f : FieldId)
  /-- SRO_INV_DONE, R118: The SRO invalidation ends, and BUSY clears. -/
  | sroInvDone (f : FieldId)
  /-- TALLY_OP_READ, R146: A read is applied at the tally's home. -/
  | tallyOpRead (home : FieldId) (t : TallyId) (src : Source)
  /-- TALLY_OP_SET, R146: A set is applied at the home, clearing ERR and OVF. -/
  | tallyOpSet (home : FieldId) (t : TallyId) (src : Source) (tx : Option TxId) (v : Word)
  /-- TALLY_OP_ADD, R148: An add is applied at the home, saturating with OVF, and waiters are
      re-evaluated. -/
  | tallyOpAdd (home : FieldId) (t : TallyId) (src : Source) (tx : Option TxId) (v : Word)
  /-- TALLY_OP_CLEAR_FLAGS, R146: A clear-flags store clears ERR and OVF. -/
  | tallyOpClearFlags (home : FieldId) (t : TallyId) (src : Source) (tx : Option TxId)
  /-- TALLY_OP_CAS, R147: A CAS compares COUNT and writes it on a match. -/
  | tallyOpCas (home : FieldId) (t : TallyId) (src : Source) (tx : Option TxId) (new : Word)
      (expected : Word)
  /-- TALLY_OP_WAIT, R153: A wait is satisfied at once, parks at the home, or is REFUSED. -/
  | tallyOpWait (home : FieldId) (t : TallyId) (src : Source) (tx : Option TxId) (threshold :
      BitVec 48)
  /-- TALLY_OP_ARM, R150: An arm places or replaces a signal threshold, or is REFUSED. -/
  | tallyOpArm (home : FieldId) (t : TallyId) (src : Source) (tx : Option TxId) (threshold : BitVec
      48)
  /-- TALLY_OP_CHAIN, R156: A chain is placed at the home with its descriptor snapshot. -/
  | tallyOpChain (home : FieldId) (t : TallyId) (src : Source) (tx : Option TxId) (threshold :
      BitVec 48) (skipErr : Bool) (desc : List Byte)
  /-- TALLY_ENGINE_COMPLETION, R131: An engine completion adds 1 with release and sets ERR on a
      non-OK status. -/
  | tallyEngineCompletion (home : FieldId) (t : TallyId) (src : Source) (tx : Option TxId) (ok :
      Bool)
  /-- TALLY_RECEIPT_UPDATE, R181: A receipt update adds 1 with release and sets ERR on a non-OK
      status. -/
  | tallyReceiptUpdate (home : FieldId) (t : TallyId) (src : Source) (tx : Option TxId) (ok : Bool)
  /-- WAITER_SATISFY, R151: One selected waiter is satisfied per tally cycle, in creation order. -/
  | waiterSatisfy (f : FieldId)
  /-- CHAIN_ISSUE_RETRY, R157: A chained issue that found its queue FULL is tried again until it is
      enqueued. -/
  | chainIssueRetry (f : FieldId)
  /-- TALLY_PARKED, R153: A PARKED response reaches the requester, which stops timing the wait. -/
  | tallyParked (id : Nat)
  /-- TALLY_REISSUE, R159: A tally request that lost its route is reissued with the same id once
      WFR_SEAM_GEN is even. -/
  | tallyReissue (id : Nat)
  /-- TLY_SIG_ENABLE, R155: Setting TLY_SIG_CTL.ENABLE checks the ring, or captures RING_CONFIG. -/
  | tlySigEnable (f : FieldId) (size : BitVec 4) (vector : BitVec 12)
  /-- TLY_SIG_TAIL_WRITE, R155: Software advances TLY_SIG_TAIL, letting pending signals write their
      records. -/
  | tlySigTailWrite (f : FieldId) (tail : BitVec 12)
  /-- TLY_USE_READ, R167: A read of TLY_USE returns and clears the peak waiter count. -/
  | tlyUseRead (f : FieldId)
  /-- PARISH_FIELDS_WRITE, R170: The PF writes a parish field set, or sets SET_ERR on a conflict.
      -/
  | parishFieldsWrite (p : ParishId) (hi : Bool) (v : Word)
  /-- PARISH_ENABLE, R170: Setting ENABLE takes effect once the Reeve has verified every field,
      with BLOCKED set meanwhile. -/
  | parishEnable (p : ParishId)
  /-- PARISH_UNBLOCK, R587: Every field of the set is verified and the key is loaded, so BLOCKED
      clears. -/
  | parishUnblock (p : ParishId)
  /-- PARISH_DISABLE, R171: Clearing ENABLE cancels the parish's work. -/
  | parishDisable (p : ParishId)
  /-- PARISH_CANCEL, R171: WFR_PAR_CANCEL.GO cancels every sheaf of the parish. -/
  | parishCancel (p : ParishId)
  /-- PARISH_CANCEL_DONE, R171: Every cancel receipt has been written, BUSY clears and the rings
      are disabled. -/
  | parishCancelDone (p : ParishId)
  /-- RING_DOORBELL, R174: A doorbell write sets a ring's submission tail, or stops the ring with
      ERR. -/
  | ringDoorbell (p : ParishId) (r : RingId) (v : BitVec 16)
  /-- SHEAF_FETCH, R179: The sequencer fetches and checks a sheaf and places its dependency waits.
      -/
  | sheafFetch (p : ParishId) (r : RingId) (hostData : List Byte) (hostStatus : AccStatusCode)
  /-- DEP_WAIT_RETRY, R180: A REFUSED dependency wait is placed again after 10 µs. -/
  | depWaitRetry (serial : Nat) (d : Fin 4)
  /-- DEP_SATISFIED, R180: A dependency wait returns satisfied or aborted, or fails. -/
  | depSatisfied
  /-- SHEAF_DISPATCH, R175: The sequencer dispatches a ready sheaf under ring order and weighted
      round-robin. -/
  | sheafDispatch
  /-- COPY_BURST_ACK, R178: A COPY burst is acknowledged, and the next burst is issued. -/
  | copyBurstAck (serial : Nat)
  /-- SEND_BURST_ACK, R189: A SEND burst is acknowledged by the receiving member. -/
  | sendBurstAck (serial : Nat) (result : Fin 4)
  /-- SEND_RECEIVE, R189: A member's receive window takes a SEND burst, or rejects it past RX_SIZE.
      -/
  | sendReceive (m : MusterId) (rack : BitVec 7) (wafer : WaferId) (serial : BitVec 64) (offset :
      BitVec 57) (data : List Byte) (last : Bool)
  /-- SHEAF_COMPLETE, R181: A sheaf completes, and its receipt, completion tally and MSI-X are
      written in order. -/
  | sheafComplete (serial : Nat)
  /-- RING_ENABLE, R197: A ring is enabled in WFR_RINGr_CTL. -/
  | ringEnable (p : ParishId) (r : RingId) (v : Word)
  /-- RING_DISABLE, R190: Disabling a ring cancels its undispatched sheaves. -/
  | ringDisable (p : ParishId) (r : RingId)
  /-- RING_RQ_HEAD_WRITE, R176: Software returns receipt slots, which may unblock dispatch. -/
  | ringRqHeadWrite (p : ParishId) (r : RingId) (v : BitVec 16)
  /-- MUSTER_GO, R186: GO reads the member list, computes the digest and starts sending offers. -/
  | musterGo (m : MusterId) (v : Word)
  /-- MUSTER_FREE, R187: Clearing GO frees a muster entry. -/
  | musterFree (m : MusterId)
  /-- MUSTER_OFFER_RECEIVE, R483: A MUSTER_OFFER arrives and may form or refuse the muster. -/
  | musterOfferReceive (rack : BitVec 7) (wafer : WaferId) (epoch : BitVec 16) (handle : BitVec 16)
      (index : BitVec 11) (digest : Word)
  /-- MUSTER_OFFER_REPEAT, R483: The member repeats its offer every 1 ms while FORMING. -/
  | musterOfferRepeat (m : MusterId)
  /-- MUSTER_FORM_TIMEOUT, R483: Offers are still missing 100 ms after GO, and the entry becomes
      REFUSED. -/
  | musterFormTimeout (m : MusterId)
  /-- QRN_NOP, R226: A quern NOP completes without work. -/
  | qrnNop (f : FieldId) (q : Fin 9) (cycles : Nat)
  /-- QRN_MATMUL, R232: A quern starts an array-mode MATMUL task. -/
  | qrnMatmul (f : FieldId) (q : Fin 9)
  /-- ARRAY_HOLD_EXIT, R244: The row and column links reach their thresholds, and the array
      resumes. -/
  | arrayHoldExit (f : FieldId) (q : Fin 9) (col : Bool) (index : Fin 256) (length : Nat)
  /-- QRN_HOLD_WINDOW, R245: Hold cycles in a 100 µs window pass QRN_HOLD_THRESH, and
      QRN_EVENT.HOLD is set. -/
  | qrnHoldWindow (f : FieldId) (q : Fin 9)
  /-- QRN_MATMUL_CPLX, R237: A quern starts a four-pass complex MATMUL task. -/
  | qrnMatmulCplx (f : FieldId) (q : Fin 9)
  /-- QRN_MATMUL_WIDE, R238: A quern starts a two-pass 32-bit-weight MATMUL task. -/
  | qrnMatmulWide (f : FieldId) (q : Fin 9)
  /-- QRN_LANE_MV, R241: A quern starts a lane-mode LANE_MV task. -/
  | qrnLaneMv (f : FieldId) (q : Fin 9)
  /-- QRN_TASK_COMPLETE, R247: Every output write of a quern task is acknowledged, and R131 is
      performed. -/
  | qrnTaskComplete (f : FieldId) (q : Fin 9) (cycles : Nat) (rows : Nat) (cols : Nat)
  /-- UNIT_FAULT, R616: A unit detects an internal fault, poisons outputs, is fenced at once and
      ends its tasks. -/
  | unitFault (f : FieldId) (x : FaultUnit)
  /-- SIV_NOP_TASK, R262: A sieve NOP task completes. -/
  | sivNopTask (f : FieldId) (n : Fin 2) (cycles : Nat)
  /-- SIV_RUN, R259: A RUN task starts in a free context with its window and reads its parameter
      block. -/
  | sivRun (f : FieldId) (n : Fin 2)
  /-- SIV_TABLE_IMAGE, R275: A preloaded table image is loaded with the sieve otherwise idle. -/
  | sivTableImage (f : FieldId) (n : Fin 2)
  /-- SIV_TABLE_LOAD, R275: A table image is loaded from memory with the sieve otherwise idle. -/
  | sivTableLoad (f : FieldId) (n : Fin 2)
  /-- SIV_TASK_COMPLETE, R278: Every iteration has ended and every store is acknowledged, and R131
      is performed. -/
  | sivTaskComplete (f : FieldId) (n : Fin 2) (slot : Fin 8) (cycles : Nat) (idle : Nat)
  /-- SIV_INSTR_NOP, R266: A sieve NOP instruction issues. -/
  | sivInstrNop (f : FieldId) (n : Fin 2) (slot : Fin 8)
  /-- SIV_LD, R268: LD reads a tile from a stream and converts it to CF. -/
  | sivLd (f : FieldId) (n : Fin 2) (slot : Fin 8)
  /-- SIV_LD_DATA, R268: An LD's memory data arrives and its destination tile is written. -/
  | sivLdData (f : FieldId) (n : Fin 2) (slot : Fin 8) (tile : Fin 64)
  /-- SIV_ST, R268: ST captures a tile and writes it to a stream in FMT. -/
  | sivSt (f : FieldId) (n : Fin 2) (slot : Fin 8)
  /-- SIV_FILL, R266: FILL sets every element to an immediate. -/
  | sivFill (f : FieldId) (n : Fin 2) (slot : Fin 8)
  /-- SIV_ARG, R266: ARG sets every element to a task argument. -/
  | sivArg (f : FieldId) (n : Fin 2) (slot : Fin 8)
  /-- SIV_ADD, R269: Element-wise add. -/
  | sivAdd (f : FieldId) (n : Fin 2) (slot : Fin 8)
  /-- SIV_SUB, R269: Element-wise subtract. -/
  | sivSub (f : FieldId) (n : Fin 2) (slot : Fin 8)
  /-- SIV_MUL, R269: Element-wise multiply. -/
  | sivMul (f : FieldId) (n : Fin 2) (slot : Fin 8)
  /-- SIV_FMA, R269: Element-wise fused multiply-add. -/
  | sivFma (f : FieldId) (n : Fin 2) (slot : Fin 8)
  /-- SIV_MAX, R269: Element-wise maximum. -/
  | sivMax (f : FieldId) (n : Fin 2) (slot : Fin 8)
  /-- SIV_MIN, R269: Element-wise minimum. -/
  | sivMin (f : FieldId) (n : Fin 2) (slot : Fin 8)
  /-- SIV_ABS, R266: Element-wise absolute value. -/
  | sivAbs (f : FieldId) (n : Fin 2) (slot : Fin 8)
  /-- SIV_NEG, R266: Element-wise negation. -/
  | sivNeg (f : FieldId) (n : Fin 2) (slot : Fin 8)
  /-- SIV_RCP, R269: Element-wise reciprocal. -/
  | sivRcp (f : FieldId) (n : Fin 2) (slot : Fin 8)
  /-- SIV_DIV, R269: Element-wise divide. -/
  | sivDiv (f : FieldId) (n : Fin 2) (slot : Fin 8)
  /-- SIV_SQRT, R269: Element-wise square root. -/
  | sivSqrt (f : FieldId) (n : Fin 2) (slot : Fin 8)
  /-- SIV_CMPLT, R266: Element-wise less-than compare. -/
  | sivCmplt (f : FieldId) (n : Fin 2) (slot : Fin 8)
  /-- SIV_CMPLE, R266: Element-wise less-or-equal compare. -/
  | sivCmple (f : FieldId) (n : Fin 2) (slot : Fin 8)
  /-- SIV_CMPEQ, R266: Element-wise equality compare. -/
  | sivCmpeq (f : FieldId) (n : Fin 2) (slot : Fin 8)
  /-- SIV_SELECT, R266: Element-wise select on SC. -/
  | sivSelect (f : FieldId) (n : Fin 2) (slot : Fin 8)
  /-- SIV_AND, R266: Bitwise AND. -/
  | sivAnd (f : FieldId) (n : Fin 2) (slot : Fin 8)
  /-- SIV_OR, R266: Bitwise OR. -/
  | sivOr (f : FieldId) (n : Fin 2) (slot : Fin 8)
  /-- SIV_XOR, R266: Bitwise XOR. -/
  | sivXor (f : FieldId) (n : Fin 2) (slot : Fin 8)
  /-- SIV_SHL, R266: Shift left. -/
  | sivShl (f : FieldId) (n : Fin 2) (slot : Fin 8)
  /-- SIV_SHRA, R266: Arithmetic shift right. -/
  | sivShra (f : FieldId) (n : Fin 2) (slot : Fin 8)
  /-- SIV_SHRL, R266: Logical shift right. -/
  | sivShrl (f : FieldId) (n : Fin 2) (slot : Fin 8)
  /-- SIV_CVTN, R266: Narrowing conversion from two 32-bit tiles. -/
  | sivCvtn (f : FieldId) (n : Fin 2) (slot : Fin 8)
  /-- SIV_CVTW, R266: Widening conversion from half of a 16-bit tile. -/
  | sivCvtw (f : FieldId) (n : Fin 2) (slot : Fin 8)
  /-- SIV_LUT, R273: Table look-up of f(u) with optional offset and prescale. -/
  | sivLut (f : FieldId) (n : Fin 2) (slot : Fin 8)
  /-- SIV_RROW, R271: Reduce each row into column 0. -/
  | sivRrow (f : FieldId) (n : Fin 2) (slot : Fin 8)
  /-- SIV_RCOL, R271: Reduce each column into row 0. -/
  | sivRcol (f : FieldId) (n : Fin 2) (slot : Fin 8)
  /-- SIV_SHFL, R272: XOR-distance lane shuffle. -/
  | sivShfl (f : FieldId) (n : Fin 2) (slot : Fin 8)
  /-- SIV_PERM, R266: Arbitrary lane permutation by an index tile. -/
  | sivPerm (f : FieldId) (n : Fin 2) (slot : Fin 8)
  /-- CRN_ENABLE, R294: Setting CRN_CTL.ENABLE checks the cairn configuration, or sets CFG_ERR. -/
  | crnEnable (f : FieldId)
  /-- CRN_DISABLE, R294: Clearing ENABLE takes effect only with no open record. -/
  | crnDisable (f : FieldId)
  /-- CRN_NOP, R299: A cairn NOP task completes. -/
  | crnNop (f : FieldId)
  /-- CRN_OPEN, R301: OPEN takes a free record and allocates the sequence's tables. -/
  | crnOpen (f : FieldId)
  /-- CRN_CLOSE, R304: CLOSE drops references, frees blocks and advances the generation. -/
  | crnClose (f : FieldId)
  /-- CRN_FORK, R302: FORK opens a child that shares the parent's prefix pages. -/
  | crnFork (f : FieldId)
  /-- CRN_STEP, R309: STEP validates its entries and queries the pools for admission. -/
  | crnStep (f : FieldId)
  /-- POOL_QUERY_REPLY, R309: A pool's reply reaches a STEP, which then allocates and commits or
      rejects. -/
  | poolQueryReply (f : FieldId) (w : WaferId) (g : FieldId) (a : PoolAnswer)
  /-- POOL_AGENT_REQUEST, R292: A pool agent serves a query, allocation or free at once, in arrival
      order. -/
  | poolAgentRequest (f : FieldId) (r : PoolRef)
  /-- CRN_APPEND, R311: APPEND writes new keys and values and fixes scales. -/
  | crnAppend (f : FieldId)
  /-- CRN_GATHER, R314: GATHER writes gather lists or a sieve stream entry. -/
  | crnGather (f : FieldId)
  /-- CRN_TRUNCATE, R305: TRUNCATE shortens a sequence and frees pages. -/
  | crnTruncate (f : FieldId)
  /-- CRN_SPILL, R317: SPILL starts moving page pairs to the granary. -/
  | crnSpill (f : FieldId)
  /-- GRANARY_WRITE_ACK, R317: A granary write is acknowledged, and its pair is freed and marked
      SPILLED. -/
  | granaryWriteAck (f : FieldId) (pair : BitVec 32) (bad : Bool)
  /-- CRN_RECALL, R318: RECALL allocates slots and starts reading pairs back. -/
  | crnRecall (f : FieldId)
  /-- GRANARY_READ_DONE, R318: A granary read returns, and the pair clears SPILLED or becomes LOST.
      -/
  | granaryReadDone (f : FieldId) (pair : BitVec 32) (data : List Byte) (bad : Bool)
  /-- GRANARY_TIMEOUT, R414: A granary access has no completion in time, and the task ends with
      GRANARY. -/
  | granaryTimeout (f : FieldId) (pair : BitVec 32)
  /-- CRN_TASK_COMPLETE, R131: A cairn task completes and performs R131. -/
  | crnTaskComplete (f : FieldId) (cycles : Nat)
  /-- CRN_RECLAIM_GO, R321: CRN_RECLAIM.GO starts freeing slots tagged with a lost holder. -/
  | crnReclaimGo (f : FieldId) (w : WaferId) (g : BitVec 7)
  /-- CRN_RECLAIM_DONE, R321: The orphan slots are freed and counted, and BUSY clears. -/
  | crnReclaimDone (f : FieldId)
  /-- SCR_NOP, R333: A scree NOP task completes. -/
  | scrNop (f : FieldId)
  /-- VOXELIZE, R336: VOXELIZE quantises points and writes a site list, kept features and an index
      map. -/
  | voxelize (f : FieldId)
  /-- RULEBOOK, R340: RULEBOOK builds a rule book and any output site list. -/
  | rulebook (f : FieldId)
  /-- SCR_GATHER, R344: GATHER copies the rows of one offset's pairs into a dense block. -/
  | scrGather (f : FieldId)
  /-- SCATTER, R346: SCATTER adds partial rows into output rows. -/
  | scatter (f : FieldId)
  /-- SCR_TASK_COMPLETE, R347: A scree task's writes are acknowledged, and R131 is performed. -/
  | scrTaskComplete (f : FieldId) (cycles : Nat)
  /-- LOM_NOP, R363: A loom NOP completes at once. -/
  | lomNop (f : FieldId) (cycles : Nat)
  /-- SESSION_INIT, R364: SESSION_INIT writes a fresh session block. -/
  | sessionInit (f : FieldId) (enc : Bool)
  /-- DECODE, R368: A DECODE job starts on the decode pipe. -/
  | decode (f : FieldId)
  /-- ENCODE, R372: An ENCODE job starts on the encode pipe. -/
  | encode (f : FieldId)
  /-- CONVERT, R370: CONVERT scales and converts a list of surfaces. -/
  | convert (f : FieldId)
  /-- FRAME_BUDGET_EXPIRE, R378: A frame's budget runs out, parsing stops and the frame is
      concealed. -/
  | frameBudgetExpire (f : FieldId) (nonframe : Bool)
  /-- FRAME_COMMIT, R366: A frame's writes are acknowledged, and the session commits. -/
  | frameCommit (f : FieldId) (r : FrameOut)
  /-- LOOM_JOB_COMPLETE, R383: A loom job's writes are acknowledged, and R131 is performed. -/
  | loomJobComplete (f : FieldId) (enc : Bool) (consumed : Nat) (cycles : Nat)
  /-- HBM_ECC_ERROR, R398: A sector read has an ECC error, which is corrected or poisoned. -/
  | hbmEccError (f : FieldId) (off : BitVec 35) (kind : Fin 3) (pc : BitVec 5) (bitPos : BitVec 9)
  /-- STACK_LOSS, R405: A stack loss cause is met, outstanding accesses fail and the field retires.
      -/
  | stackLoss (f : FieldId) (cause : Fin 5) (pc : BitVec 5) (lane : BitVec 8)
  /-- PATROL_STEP, R400: Patrol reads and checks written sectors. -/
  | patrolStep (f : FieldId)
  /-- REFRESH, R401: The controller issues a per-bank refresh. -/
  | refresh (f : FieldId) (bank : Nat)
  /-- HBM_TEMP_CROSS, R401: Die temperature crosses 85 °C, and the refresh rate changes. -/
  | hbmTempCross (f : FieldId) (temp : BitVec 8)
  /-- SCRUB_MARK, R408: A MARK scrub GO sets the range's fresh bits. -/
  | scrubMark (f : FieldId)
  /-- SCRUB_OVERWRITE, R408: An OVERWRITE scrub GO zeroes the range, then marks it fresh. -/
  | scrubOverwrite (f : FieldId)
  /-- SCRUB_DONE, R408: A scrub ends, BUSY clears and DONE_GEN advances. -/
  | scrubDone (f : FieldId) (verified : Bool)
  /-- GRANARY_ENABLE, R511: Setting HBM_GRAN_CTL.ENABLE starts enumerating S0. -/
  | granaryEnable
  /-- GRANARY_DISABLE, R511: Clearing ENABLE stops issue and shuts S0 down. -/
  | granaryDisable
  /-- S0_ENUM_DONE, R511: S0 enumeration reaches READY or FAILED. -/
  | s0EnumDone (cause : Fin 6) (width : BitVec 4) (speed : BitVec 3)
  /-- S0_LINK_DOWN, R514: The S0 link goes down, and granary access fails. -/
  | s0LinkDown
  /-- LINK_TARGET_DOWN, R427: A TARGET of DOWN takes a link DOWN with cause COMMAND. -/
  | linkTargetDown (k : LinkId)
  /-- LINK_TARGET_UP, R427: A TARGET of UP starts DETECT, or a wake from QUIET. -/
  | linkTargetUp (k : LinkId)
  /-- LINK_TARGET_QUIET, R447: A TARGET of QUIET moves the link's buckets and starts QUIET entry.
      -/
  | linkTargetQuiet (k : LinkId)
  /-- LINK_TARGET_TEST, R450: A TARGET of TEST requests pattern test mode. -/
  | linkTargetTest (k : LinkId)
  /-- LINK_SIGNAL_DETECT, R427: A signal from the partner moves the link to PHY_TRAIN. -/
  | linkSignalDetect (k : LinkId)
  /-- LINK_PHY_TRAINED, R427: The equaliser has converged with FEC lock for 1 ms, and the link
      moves to IDENT. -/
  | linkPhyTrained (k : LinkId)
  /-- LINK_TRAIN_TIMEOUT, R427: PHY_TRAIN expires, and the link goes DOWN with TRAIN_FAIL. -/
  | linkTrainTimeout (k : LinkId)
  /-- IDENT_SEND, R428: An IDENT CTRL flit is sent every 1 µs. -/
  | identSend (k : LinkId)
  /-- IDENT_RECEIVE, R428: An IDENT flit is received and the round trip is measured. -/
  | identReceive (k : LinkId) (stamp : BitVec 32) (echo : BitVec 32) (hold : BitVec 32) (block :
      List Byte)
  /-- IDENT_TIMEOUT, R427: IDENT expires after 10 ms, and the link goes DOWN. -/
  | identTimeout (k : LinkId)
  /-- LOSS_OF_SIGNAL, R437: Loss of signal takes a link DOWN. -/
  | lossOfSignal (k : LinkId)
  /-- FEC_LOCK_LOST, R437: FEC codeword lock is lost, and the link goes DOWN. -/
  | fecLockLost (k : LinkId)
  /-- UCW_LIMIT_EXCEEDED, R437: Uncorrectable codewords pass the limit in 1 ms, and the link goes
      DOWN. -/
  | ucwLimitExceeded (k : LinkId) (n : Nat)
  /-- DATA_FLIT_RECEIVE, R434: A DATA flit is received and is delivered, discarded or NAKed. -/
  | dataFlitReceive (k : LinkId) (raw : List Byte)
  /-- ACK_FLIT_RECEIVE, R433: An ACK, NAK or credit return is applied. -/
  | ackFlitReceive (k : LinkId) (ack : BitVec 16) (valid : Bool) (nak : Bool) (freed0 : BitVec 12)
      (freed1 : BitVec 12) (freed2 : BitVec 12) (freed3 : BitVec 12)
  /-- QUIET_REQ_RECEIVE, R447: A QUIET_REQ is received, and the partner drains and answers. -/
  | quietReqReceive (k : LinkId)
  /-- QUIET_ACK_RECEIVE, R447: A QUIET_ACK is received, and the link enters electrical idle. -/
  | quietAckReceive (k : LinkId)
  /-- WAKE_RECEIVE, R447: A WAKE is received, and electrical idle ends. -/
  | wakeReceive (k : LinkId)
  /-- DOWN_NOTICE_RECEIVE, R437: A DOWN_NOTICE takes the link DOWN with cause COMMAND. -/
  | downNoticeReceive (k : LinkId)
  /-- TEST_REQ_RECEIVE, R450: A TEST_REQ is received. -/
  | testReqReceive (k : LinkId)
  /-- TEST_ACK_RECEIVE, R450: A TEST_ACK is received, and the link enters TEST. -/
  | testAckReceive (k : LinkId)
  /-- CTRL_REPEAT, R430: An unanswered CTRL request is repeated after 1 µs, up to 16 times. -/
  | ctrlRepeat (k : LinkId)
  /-- ACK_DUE, R435: After 64 flits or 200 ns, the receiver reports a cumulative ACK. -/
  | ackDue (k : LinkId)
  /-- REPLAY_TIMEOUT, R436: The oldest held flit is unacknowledged 4 µs after it was due, and the
      buffer is replayed. -/
  | replayTimeout (k : LinkId)
  /-- FLIT_TRANSMIT, R431: A DATA flit is sent once a credit and replay space are held. -/
  | flitTransmit (k : LinkId) (cls : Fin 4) (wafer : WaferId) (rack : BitVec 7) (body : List Byte)
  /-- BUCKET_RETURN, R442: A bucket moves back to a returned member once its flits are
      acknowledged. -/
  | bucketReturn (p : PortId) (b : Fin 64)
  /-- E2E_TRACKED_REQUEST, R443: A cross-wafer tracked request is checked against the filter, then
      applied, answered or discarded. -/
  | e2eTrackedRequest (f : FieldId) (rack : BitVec 7) (src : Source) (txseq : BitVec 24) (tOrig :
      BitVec 32) (req : TrackedReq)
  /-- E2E_FILTER_RELEASE, R444: A filter entry ages out, and a held tracked request proceeds. -/
  | e2eFilterRelease (f : FieldId)
  /-- QUIET_REPLAY_EMPTY, R447: The link's replay buffer empties during QUIET entry, and QUIET_REQ
      is sent. -/
  | quietReplayEmpty (k : LinkId)
  /-- LINK_WAKE_DONE, R447: The link returns to UP after a wake, and its buckets return. -/
  | linkWakeDone (k : LinkId)
  /-- LINK_TX_WRITE, R448: A VRN_LNK_TX write starts stepping swing and taps. -/
  | linkTxWrite (k : LinkId) (swing : BitVec 6) (pre : BitVec 6) (post : BitVec 6)
  /-- SWING_STEP, R448: Every 100 ns, one of 16 swing steps is applied, and BUSY clears at the
      last. -/
  | swingStep (k : LinkId)
  /-- PRBS_CTL_WRITE, R450: A VRN_PRBS_CTL write selects the pattern and enables the generator or
      checker. -/
  | prbsCtlWrite (k : LinkId) (side : Bool) (v : BitVec 8)
  /-- PRBS_CLEAR, R451: A write of CLEAR resets the checker counters. -/
  | prbsClear (k : LinkId)
  /-- PRBS_LOCK, R451: The checker locks to the pattern and starts counting. -/
  | prbsLock (k : LinkId)
  /-- PRBS_LOCK_LOSS, R451: The checker loses lock, and its counters stop. -/
  | prbsLockLoss (k : LinkId)
  /-- PRBS_BER_UPDATE, R451: Every 1 ms, VRN_PRBS_BER is updated. -/
  | prbsBerUpdate (k : LinkId) (errs : Nat) (units : Nat)
  /-- PORT_CTL_WRITE, R438: A VRN_PORTp_CTL write sets a member mask, or sets CFG_ERR. -/
  | portCtlWrite (p : PortId) (mask : BitVec 56) (enable : Bool)
  /-- DISC_SEND, R466: FAB_DISC_CTL.SEND sends the staged DISC message from the anchor. -/
  | discSend
  /-- DISC_ANSWER_RECEIVE, R466: A DISC answer reaches the anchor's FAB_DISC_RX. -/
  | discAnswerReceive (words : List Nat)
  /-- DISC_RX_RELEASE, R466: A write of RX_VALID releases the received answer. -/
  | discRxRelease
  /-- HELLO_RECEIVE, R469: A HELLO is received, and the wafer enters WAIT and answers REPORT. -/
  | helloReceive (src : WaferId) (tag : BitVec 16) (session : BitVec 32) (target : Word) (anchor :
      Word)
  /-- MAP_RECEIVE, R469: A MAP is received and persisted. -/
  | mapReceive (src : WaferId) (tag : BitVec 16) (session : BitVec 32) (target : Word) (part :
      BitVec 8) (parts : BitVec 8) (gen : BitVec 32) (records : List Nat)
  /-- ASSIGN_RECEIVE, R470: An ASSIGN sets the rack-local number, or is refused. -/
  | assignReceive (src : WaferId) (tag : BitVec 16) (session : BitVec 32) (target : Word) (rack :
      BitVec 7) (number : WaferId) (policy : BitVec 2)
  /-- JOIN_RECEIVE, R469: A JOIN records member epochs, starts fabric time and opens the commons.
      -/
  | joinReceive (src : WaferId) (tag : BitVec 16) (session : BitVec 32) (target : Word) (mask :
      BitVec 16) (master : WaferId) (epochs : List Nat)
  /-- FM_WAIT_EXPIRE, R467: No HELLO arrives within FM_WAIT_MS, and the wafer becomes SOLO. -/
  | fmWaitExpire
  /-- REACH_RECEIVE, R471: A FABRIC REACH updates a port's reach vector and rebuilds spread
      entries. -/
  | reachReceive (k : LinkId) (vector : BitVec 16)
  /-- SPREAD_ENTRY_MOVE, R473: A spread entry moves once its outstanding requests on the old port
      complete. -/
  | spreadEntryMove (d : WaferId) (e : Fin 64)
  /-- WITHDRAW_RECEIVE, R477: A WITHDRAW removes a member and completes its requests. -/
  | withdrawReceive (n : WaferId) (epoch : BitVec 16) (cause : BitVec 8)
  /-- AUTO_WITHDRAW_EXPIRE, R477: A member is unreachable for WITHDRAW_US, and it is withdrawn and
      WITHDRAW is sent. -/
  | autoWithdrawExpire (n : WaferId)
  /-- TIME_SYNC_SEND, R479: Every 100 µs, the master sends TIME on every live port. -/
  | timeSyncSend
  /-- TIME_SYNC_RECEIVE, R480: A SYNC yields an offset that disciplines fabric time and the time
      state. -/
  | timeSyncReceive (k : LinkId) (tTx : Word) (corr : BitVec 32) (master : WaferId)
  /-- SYNC_MISSING, R480: Three SYNC intervals pass without a SYNC while LOCKED, and the wafer
      enters HOLDOVER. -/
  | syncMissing
  /-- HOLDOVER_EXPIRE, R480: Holdover lasts 10 ms, and the wafer enters ACQUIRING. -/
  | holdoverExpire
  /-- PPS_EDGE, R481: A PPS_IN rising edge aligns the master's time and loads FAB_TIME_SET. -/
  | ppsEdge
  /-- BAR2_ACCESS, R501: A host BAR2 TLP becomes commons accesses at WIN_BASE plus the offset. -/
  | bar2Access (fn : FnId) (offset : BitVec 36) (op : RegOp)
  /-- BAR_READ_DEADLINE, R504: A BAR read has not completed after 3 ms, and zero data with TIMEOUT
      is returned. -/
  | barReadDeadline (id : Nat)
  /-- DMA_DOORBELL, R506: A DMA queue doorbell sets its tail, or stops the queue with ERR. -/
  | dmaDoorbell (fn : FnId) (q : Fin 2) (v : BitVec 16)
  /-- DMA_DESC_FETCH, R506: A DMA descriptor is fetched, and its transfer starts. -/
  | dmaDescFetch (fn : FnId) (q : Fin 2) (a : HostAnswer) (refused : Bool)
  /-- DMA_DESC_COMPLETE, R507: A descriptor completes, and CODE, DONE, the tally and the vector are
      written in order. -/
  | dmaDescComplete (fn : FnId) (q : Fin 2)
  /-- HOST_COMPLETION_TIMEOUT, R507: A host completion is missing after CTO_MS, and the request
      ends with HOST_TIMEOUT. -/
  | hostCompletionTimeout (tag : BitVec 10)
  /-- HOST_COMPLETION_ARRIVE, R516: A host completion arrives, and it is discarded if its tag was
      abandoned. -/
  | hostCompletionArrive (tag : BitVec 10) (a : HostAnswer)
  /-- TAG_DRAIN_EXPIRE, R516: After 1 ms of draining for a scrub, outstanding tags are abandoned.
      -/
  | tagDrainExpire (fn : FnId)
  /-- MSIX_UNMASK, R510: Unmasking an entry sends its pending message. -/
  | msixUnmask (fn : FnId) (entry : Fin 64) (mask : Bool)
  /-- SHEAF_TIMEOUT, R606: A driver-mode sheaf passes its timeout, and a hang is declared. -/
  | sheafTimeout (serial : Nat)
  /-- BELL_INTERVAL_END, R607: A 10 ms bell interval ends and updates the miss count. -/
  | bellIntervalEnd (f : FieldId)
  /-- RECOVERY_GO, R608: WFR_RCV_CMD.GO starts recovery of the captured hang. -/
  | recoveryGo
  /-- RECOVERY_START, R610: Recovery scans the scope and attributes the hang. -/
  | recoveryStart (engines : List (FieldId × Fin 32)) (crofters : List (FieldId × CrofterId))
  /-- SUSPECT_REPLAY_START, R614: The next suspect is replayed from its checkpoint alone on the
      engine. -/
  | suspectReplayStart (f : FieldId) (u : Fin 32)
  /-- SUSPECT_CHECKPOINT, R614: A replayed suspect reaches its checkpoint within its bound and is
      innocent. -/
  | suspectCheckpoint (f : FieldId) (u : Fin 32)
  /-- REPLAY_BOUND_EXPIRE, R614: A suspect exceeds its replay bound and is guilty. -/
  | replayBoundExpire (f : FieldId) (u : Fin 32) (cycles : Nat)
  /-- RESET_ENGINE, R619: An engine reset is commanded. -/
  | resetEngine (f : FieldId) (cls : EngineClass) (unit : BitVec 4)
  /-- RESET_CROFTER, R619: A crofter reset is commanded. -/
  | resetCrofter (f : FieldId) (c : CrofterId)
  /-- RESET_FIELD, R619: A field reset is commanded. -/
  | resetField (f : FieldId)
  /-- RESET_PARISH, R619: A parish reset is commanded. -/
  | resetParish (p : ParishId)
  /-- RESET_WAFER_WARM, R619: A wafer warm reset is commanded with KEY. -/
  | resetWaferWarm (key : BitVec 16)
  /-- RESET_WAFER_COLD, R724: A wafer cold reset is commanded with KEY and reruns bring-up. -/
  | resetWaferCold (key : BitVec 16)
  /-- RESET_DONE, R619: A reset completes, and BUSY clears. -/
  | resetDone (spine : BitVec 80) (lost : List (FieldId × BitVec 39))
  /-- ABORT_RECEIVE, R628: An abort wave is received, forwarded and acted on. -/
  | abortReceive (handle : BitVec 16) (wafer : WaferId) (rack : BitVec 7) (status : BitVec 8)
      (epoch : BitVec 16) (wave : BitVec 32)
  /-- REEVE_GET_STATUS, R576: The GET_STATUS command returns Reeve state. -/
  | reeveGetStatus (src : MbxSource)
  /-- REEVE_GET_NONCE, R577: The GET_NONCE command returns a single-use nonce. -/
  | reeveGetNonce (src : MbxSource)
  /-- TENANT_BIND, R588: TENANT_BIND binds a tenant to a parish and scrubs its fields. -/
  | tenantBind (src : MbxSource) (p : ParishId) (tag : Word) (epoch : BitVec 32) (physical : Bool)
      (digest : Option (List Byte))
  /-- TENANT_RELEASE, R589: TENANT_RELEASE scrubs the parish's fields and clears its binding. -/
  | tenantRelease (src : MbxSource) (p : ParishId) (physical : Bool)
  /-- FIELD_CLEAR_DONE, R591: The field clear zeroes and reads back its storage, and the scrub
      proceeds to HBM. -/
  | fieldClearDone (f : FieldId) (zeroOk : Bool)
  /-- ASSAY_GRANT, R593: A signed ASSAY_GRANT allows read-out of a parish. -/
  | assayGrant (src : MbxSource) (p : ParishId) (sg : Signed)
  /-- ASSAY_REVOKE, R593: ASSAY_REVOKE ends a grant. -/
  | assayRevoke (src : MbxSource) (p : ParishId)
  /-- FW_STAGE, R580: FW_STAGE verifies and writes an image to the inactive slot. -/
  | fwStage (src : MbxSource) (cls : Fin 5) (version : BitVec 5) (imageOk : Bool) (sg : Signed)
  /-- FW_ACTIVATE, R580: FW_ACTIVATE selects the staged slot, or confirms it and advances the fuse
      counter. -/
  | fwActivate (src : MbxSource)
  /-- LIFECYCLE, R583: The LIFECYCLE command performs a signed lifecycle transition. -/
  | lifecycle (src : MbxSource) (target : Fin 6) (who : Signer) (ownerKey : List Byte) (sg :
      Signed)
  /-- DEBUG_UNLOCK, R585: DEBUG_UNLOCK grants full read-out until the next cold reset. -/
  | debugUnlock (src : MbxSource) (sg : Signed)
  /-- RETURN_TO_SERVICE, R586: RETURN_TO_SERVICE clears the out-of-service mark at the next cold
      reset. -/
  | returnToService (src : MbxSource) (sg : Signed)
  /-- SPDM_GET_VERSION, R581: SPDM GET_VERSION is answered. -/
  | spdmGetVersion (src : MbxSource)
  /-- SPDM_GET_CAPABILITIES, R581: SPDM GET_CAPABILITIES is answered. -/
  | spdmGetCapabilities (src : MbxSource)
  /-- SPDM_NEGOTIATE_ALGORITHMS, R581: SPDM NEGOTIATE_ALGORITHMS is answered. -/
  | spdmNegotiateAlgorithms (src : MbxSource) (asym : BitVec 32) (hash : BitVec 32)
  /-- SPDM_GET_DIGESTS, R581: SPDM GET_DIGESTS is answered. -/
  | spdmGetDigests (src : MbxSource)
  /-- SPDM_GET_CERTIFICATE, R581: SPDM GET_CERTIFICATE returns a certificate chain. -/
  | spdmGetCertificate (src : MbxSource) (slot : Fin 8) (offset : BitVec 16) (length : BitVec 16)
  /-- SPDM_CHALLENGE, R581: SPDM CHALLENGE is answered with a signature. -/
  | spdmChallenge (src : MbxSource) (slot : Fin 8) (nonce : BitVec 256)
  /-- SPDM_GET_MEASUREMENTS, R582: SPDM GET_MEASUREMENTS returns signed measurements. -/
  | spdmGetMeasurements (src : MbxSource) (index : BitVec 8) (nonce : BitVec 256)
  /-- ENTROPY_STARTUP_DONE, R595: The start-up health test passes, the DRBG is seeded and entropy
      is ready. -/
  | entropyStartupDone
  /-- ENTROPY_HEALTH_FAIL, R597: A health test fails, the DRBG stops and the start-up test reruns.
      -/
  | entropyHealthFail
  /-- DRBG_RESEED, R595: The DRBG reseeds after 2^16 requests or 1 s. -/
  | drbgReseed
  /-- NONCE_EXPIRE, R577: A nonce expires after 10 s. -/
  | nonceExpire
  /-- REEVE_WATCHDOG_RESTART, R601: The Reeve watchdog restarts it and reruns any scrub from its
      clear step. -/
  | reeveWatchdogRestart
  /-- RNG_DATA_READ, R604: A read of RVE_RNG_DATA consumes DRBG output. -/
  | rngDataRead
  /-- FREEZE_PIN, R639: A FREEZE_N falling edge held low 20 ns triggers a freeze. -/
  | freezePin
  /-- FREEZE_REGISTER, R640: A write of ASY_FRZ_CTL.FREEZE triggers a freeze. -/
  | freezeRegister
  /-- FREEZE_MESSAGE_RECEIVE, R641: A fabric FREEZE message is accepted or discarded. -/
  | freezeMessageReceive (wafer : WaferId) (id : BitVec 16) (epoch : BitVec 16)
  /-- FREEZE_ARRIVE, R643: The freeze reaches a field and is passed to its children. -/
  | freezeArrive (f : FieldId)
  /-- FREEZE_COMPLETE, R644: Every reachable field has reported, and STATE becomes FROZEN. -/
  | freezeComplete
  /-- THAW_REGISTER, R653: A write of ASY_FRZ_CTL.THAW chooses and sends a resume stamp. -/
  | thawRegister
  /-- THAW_MESSAGE_RECEIVE, R642: A fabric THAW with the matching id thaws the wafer. -/
  | thawMessageReceive (wafer : WaferId) (id : BitVec 16) (epoch : BitVec 16)
  /-- FIELD_RESUME, R653: A field reaches the resume stamp and resumes its classes. -/
  | fieldResume (f : FieldId)
  /-- WINDOW_GO, R651: An Assay window GO starts a chain or memory read. -/
  | windowGo (field : BitVec 7) (chain : BitVec 7) (kind : Fin 4)
  /-- WINDOW_READ_DONE, R651: ASY_WIN_DATA is filled, and BUSY clears. -/
  | windowReadDone
  /-- TAP_RESET, R684: TRST_N holds the TAP in Test-Logic-Reset. -/
  | tapReset
  /-- TAP_BYPASS, R650: BYPASS or an unknown instruction acts as a 1-bit bypass. -/
  | tapBypass (data : List Bool)
  /-- TAP_IDCODE, R650: IDCODE reads 0x14F1_AB47. -/
  | tapIdcode
  /-- TAP_SAMPLE_PRELOAD, R669: SAMPLE/PRELOAD captures and loads the boundary register. -/
  | tapSamplePreload (load : BitVec 442) (captured : BitVec 442)
  /-- TAP_FREEZE, R650: The TAP FREEZE instruction writes ASY_FRZ_CTL.FREEZE. -/
  | tapFreeze (update : Bool)
  /-- TAP_THAW, R650: The TAP THAW instruction writes ASY_FRZ_CTL.THAW. -/
  | tapThaw (update : Bool)
  /-- TAP_SEL, R650: TAP SEL selects a chain or memory. -/
  | tapSel (v : BitVec 32)
  /-- TAP_CHAIN, R650: TAP CHAIN rotates the selected chain in full. -/
  | tapChain
  /-- TAP_MEM, R650: TAP MEM reads memory by address. -/
  | tapMem (addr : BitVec 64)
  /-- TAP_STAT, R650: TAP STAT reads ASY_FRZ_STAT. -/
  | tapStat
  /-- TAP_MBX, R650: TAP MBX exchanges with the Reeve mailbox. -/
  | tapMbx
  /-- TAP_EXTEST, R669: EXTEST drives and captures pins. -/
  | tapExtest (load : BitVec 442) (captured : BitVec 442)
  /-- TAP_CLAMP, R669: CLAMP holds the outputs. -/
  | tapClamp (data : List Bool)
  /-- TAP_HIGHZ, R669: HIGHZ floats the outputs. -/
  | tapHighz (data : List Bool)
  /-- TAP_EXTEST_PULSE, R669: EXTEST_PULSE drives AC test pulses. -/
  | tapExtestPulse (load : BitVec 442) (captured : BitVec 442)
  /-- TAP_EXTEST_TRAIN, R669: EXTEST_TRAIN drives AC test trains. -/
  | tapExtestTrain (load : BitVec 442) (captured : BitVec 442)
  /-- TAP_BISCTL, R669: BISCTL writes BIS_CTL and captures BIS_STAT. -/
  | tapBisctl (v : BitVec 32)
  /-- BIST_GO, R663: BIS_CTL.GO starts the self-test suite, or sets CMD_ERR. -/
  | bistGo (origin : Fin 3) (suite : BitVec 4) (h0Loop : Bool) (fixture : Bool) (extLoop : Bool)
  /-- BIST_ABORT, R679: BIS_CTL.ABORT ends the suite at the next pattern boundary. -/
  | bistAbort
  /-- BIST_SETUP_DONE, R664: Suite set-up ends, and the first selected test starts. -/
  | bistSetupDone
  /-- BIST_TEST_DONE, R673: A test ends with its result, and the next test starts. -/
  | bistTestDone (faults : List BistFault)
  /-- BIST_RESTORE_DONE, R665: Restore resets the fields and retrains, and BIS_STAT reads DONE. -/
  | bistRestoreDone (failing : List FieldId)
  /-- CRIER_READ, R687: A crier read is served from the mirror, latching groups. -/
  | crierRead (addr : BitVec 12)
  /-- CRIER_WRITE, R689: A crier write is sampled into the mailbox window, or counted as bad. -/
  | crierWrite (addr : BitVec 12) (data : BitVec 16) (rdLow : Bool)
  /-- CRIER_MAILBOX_POST, R693: A write to 0xF07 posts the command to the hearth queue. -/
  | crierMailboxPost (data : BitVec 16)
  /-- MIRROR_POST, R690: An owner posts changed values to the hearth. -/
  | mirrorPost (g : Fin 1024)
  /-- MIRROR_ROLL, R690: Every 10 µs, the hearth copies the groups into the mirror and advances
      ROLL_SEQ. -/
  | mirrorRoll
  /-- SB_SET_MODULE, R694: The sideband SET_MODULE writes PWR_MOD_CTL. -/
  | sbSetModule (src : Sideband) (tag : BitVec 16) (arg0 : BitVec 16) (arg1 : BitVec 16) (data :
      Word)
  /-- SB_SET_PSTATE, R694: The sideband SET_PSTATE writes PWR_PSTATE.TARGET. -/
  | sbSetPstate (src : Sideband) (tag : BitVec 16) (arg0 : BitVec 16) (arg1 : BitVec 16) (data :
      Word)
  /-- SB_SET_FIELD, R694: The sideband SET_FIELD writes a PWR_FLD_CTL. -/
  | sbSetField (src : Sideband) (tag : BitVec 16) (arg0 : BitVec 16) (arg1 : BitVec 16) (data :
      Word)
  /-- SB_SET_CAP_WAFER, R694: The sideband SET_CAP_WAFER writes the wafer cap. -/
  | sbSetCapWafer (src : Sideband) (tag : BitVec 16) (arg0 : BitVec 16) (arg1 : BitVec 16) (data :
      Word)
  /-- SB_SET_CAP_PARISH, R694: The sideband SET_CAP_PARISH writes a parish cap. -/
  | sbSetCapParish (src : Sideband) (tag : BitVec 16) (arg0 : BitVec 16) (arg1 : BitVec 16) (data :
      Word)
  /-- SB_SET_WAKE_ARM, R694: The sideband SET_WAKE_ARM writes PWR_WAKE_ARM. -/
  | sbSetWakeArm (src : Sideband) (tag : BitVec 16) (arg0 : BitVec 16) (arg1 : BitVec 16) (data :
      Word)
  /-- SB_THERM_RESUME, R694: The sideband THERM_RESUME writes RESUME. -/
  | sbThermResume (src : Sideband) (tag : BitVec 16) (arg0 : BitVec 16) (arg1 : BitVec 16) (data :
      Word) (cool : Bool)
  /-- SB_GPIO_WRITE, R777: The sideband GPIO_WRITE writes a GPIO register by selector. -/
  | sbGpioWrite (src : Sideband) (tag : BitVec 16) (arg0 : BitVec 16) (arg1 : BitVec 16) (data :
      Word)
  /-- GPIO_IRQ_DETECT, R698: A pin edge or level detection sets GPIO_IRQ_STAT. -/
  | gpioIrqDetect (n : Fin 32) (level : Bool)
  /-- GPIO_OUT_SET, R696: A GPIO_OUT_SET write sets output bits. -/
  | gpioOutSet (m : BitVec 32)
  /-- GPIO_OUT_CLR, R696: A GPIO_OUT_CLR write clears output bits. -/
  | gpioOutClr (m : BitVec 32)
  /-- GPIO_LOCK_KEY_WRITE, R699: A GPIO_LOCK_KEY write advances or resets the source's lock
      sequence. -/
  | gpioLockKeyWrite (src : GpioSource) (key : BitVec 16)
  /-- GPIO_LOCK_SET_WRITE, R699: A GPIO_LOCK_SET write adds locks once armed, or sets LOCK_ERR. -/
  | gpioLockSetWrite (src : GpioSource) (mask : BitVec 32)
  /-- I2C_GO, R708: GPIO_I2Cn.GO starts an I2C transfer, or sets CMD_ERR while busy. -/
  | i2cGo (n : Fin 2) (addr : BitVec 7) (read : Bool) (len : BitVec 3)
  /-- I2C_DONE, R708: An I2C transfer ends, with NACK if refused. -/
  | i2cDone (n : Fin 2) (nack : Bool) (data : Word)
  /-- TACH_UPDATE, R709: Every 1 s, the fan tach RPM is updated. -/
  | tachUpdate (k : Fin 4) (rpm : BitVec 16)
  /-- MCTP_SET_ENDPOINT_ID, R701: The MCTP Set Endpoint ID command assigns the EID. -/
  | mctpSetEndpointId (pec : Bool) (eid : BitVec 8)
  /-- MCTP_GET_ENDPOINT_ID, R701: The MCTP Get Endpoint ID command returns the EID. -/
  | mctpGetEndpointId (pec : Bool)
  /-- MCTP_GET_ENDPOINT_UUID, R701: The MCTP Get Endpoint UUID command returns the UUID with the
      unit identity. -/
  | mctpGetEndpointUuid (pec : Bool)
  /-- MCTP_GET_VERSION_SUPPORT, R701: The MCTP Get Version Support command is answered. -/
  | mctpGetVersionSupport (pec : Bool)
  /-- MCTP_GET_MSG_TYPE_SUPPORT, R701: The MCTP Get Message Type Support command is answered. -/
  | mctpGetMsgTypeSupport (pec : Bool)
  /-- MCTP_GET_VENDOR_SUPPORT, R701: The MCTP Get Vendor Defined Message Support command is
      answered. -/
  | mctpGetVendorSupport (pec : Bool)
  /-- PLDM_GET_TID, R702: The PLDM GetTID command is answered. -/
  | pldmGetTid (pec : Bool)
  /-- PLDM_SET_TID, R702: The PLDM SetTID command sets the TID. -/
  | pldmSetTid (pec : Bool) (tid : BitVec 8)
  /-- PLDM_GET_VERSION, R702: The PLDM GetPLDMVersion command is answered. -/
  | pldmGetVersion (pec : Bool) (type_ : BitVec 8)
  /-- PLDM_GET_TYPES, R702: The PLDM GetPLDMTypes command is answered. -/
  | pldmGetTypes (pec : Bool)
  /-- PLDM_GET_COMMANDS, R702: The PLDM GetPLDMCommands command is answered. -/
  | pldmGetCommands (pec : Bool) (type_ : BitVec 8)
  /-- PLDM_GET_PDR_REPO_INFO, R702: The PLDM GetPDRRepositoryInfo command is answered. -/
  | pldmGetPdrRepoInfo (pec : Bool)
  /-- PLDM_GET_PDR, R702: The PLDM GetPDR command returns a record. -/
  | pldmGetPdr (pec : Bool) (record : BitVec 32)
  /-- PLDM_GET_SENSOR_READING, R702: The PLDM GetSensorReading command returns a numeric sensor
      from the mirror. -/
  | pldmGetSensorReading (pec : Bool) (id : BitVec 16)
  /-- PLDM_GET_STATE_SENSORS, R702: The PLDM GetStateSensorReadings command returns state sensors.
      -/
  | pldmGetStateSensors (pec : Bool) (id : BitVec 16)
  /-- PLDM_GET_FRU_METADATA, R702: The PLDM GetFRURecordTableMetadata command is answered. -/
  | pldmGetFruMetadata (pec : Bool)
  /-- PLDM_GET_FRU_TABLE, R702: The PLDM GetFRURecordTable command returns the FRU record. -/
  | pldmGetFruTable (pec : Bool)
  /-- IRQ_LINE_RISE, R751: An unmasked page line rises, and PF entry 0 is sent subject to holdoff.
      -/
  | irqLineRise (place : RegPlace)
  /-- IRQ_HOLDOFF_EXPIRE, R751: The holdoff ends, and one message is sent if the wafer line is
      still 1. -/
  | irqHoldoffExpire
  /-- IRQ_REARM, R751: WFR_IRQ_CTL.REARM sends entry 0 at once if the wafer line is 1. -/
  | irqRearm
  /-- ERR_CAPTURE_CLEAR, R739: A write of 1 to VALID clears and re-arms a first-error capture. -/
  | errCaptureClear (place : RegPlace) (writeErr : Bool) (more : Bool)
  /-- REGISTER_WRITE, R736: A write to a register without a row of its own takes effect or is
      ignored and recorded. -/
  | registerWrite (path : RegPath) (op : RegOp)
  /-- CMD_ADDR_PARITY_ERROR, R405: A command or address parity error on a pseudo-channel is
      captured in HBM_ERR_STATUS with KIND 3 as it occurs. -/
  | cmdAddrParityError (f : FieldId) (pc : BitVec 5)
  /-- HOLDUP_EXHAUSTED, R565: The hold-up capacitor runs out before COMMIT is written, leaving an
      uncommitted record and the module unpowered. -/
  | holdupExhausted
  /-- WAFER_FAULT, R40: Field 4's root rail or clock entry fails in service, and the wafer halts as
      a wafer fault. -/
  | waferFault (clockEntry : Bool)
  /-- PWR_FAIL_GLITCH, R573: A PWR_FAIL_N low pulse shorter than the 200 ns filter is counted in
      HRT_PWRFAIL_GLITCH. -/
  | pwrFailGlitch
  /-- ATS_INVALIDATE_REQUEST, R496: An ATS invalidation request from the host is honoured once
      in-flight uses of the translation have been issued. -/
  | atsInvalidateRequest (fn : FnId)
  /-- ESCALATION_WINDOW_SLIDE, R622: An old reset ages out of its sliding escalation window, and
      the counts in QRN_RESETS, WFR_RCV_FRSTk and WFR_RCV_WARM fall. -/
  | escalationWindowSlide
  /-- PPS_OUT_EDGE, R695: PPS_OUT rises at each whole second of fabric time and falls 1 ms later
      while time is LOCKED, HOLDOVER or master. -/
  | ppsOutEdge
  deriving DecidableEq, Repr

end Sys2Proof
end

