-- ==== Sys2Proof/WellFormed.lean ====
section
/-! DEFINITION. Which commands are well formed: a record an operand carries as bytes has the length the spec
gives that record. -/

namespace Sys2Proof

/-- Bytes of a sheaf (R174). -/
def sheafBytes : Nat := 128

/-- Bytes of a task descriptor (R126). -/
def descBytes : Nat := 64

/-- Bytes of a host DMA descriptor (R506). -/
def dmaDescBytes : Nat := 32

/-- Bytes of a link's identity block (R428). -/
def identBytes : Nat := 64

/-- Bytes of a flit and of its body (R429). -/
def flitBytes : Nat := 256
def flitBodyBytes : Nat := 240

/-- A tally operation's descriptor. -/
def TallyOp.wellFormed : TallyOp → Bool
  | .chain _ _ d => decide (d.length = descBytes)
  | _ => true

/-- A tracked request's record. -/
def TrackedReq.wellFormed : TrackedReq → Bool
  | .issue d => decide (d.length = descBytes)
  | .tally _ op => op.wellFormed
  | _ => true

def IssueRef.wellFormed : IssueRef → Bool
  | .own _ => true
  | .foreign _ _ d => decide (d.length = descBytes)

def HostAnswer.wellFormed (n : Nat) : HostAnswer → Bool
  | .data d => decide (d.length = n)
  | _ => true

/-- The well-formed commands. (Mark: DESIGN CHOICE, log 5.) -/
def Instr.wellFormed : Instr → Bool
  | .sheafFetch _ _ d _ => decide (d.length = sheafBytes)
  | .tallyOpChain _ _ _ _ _ _ d => decide (d.length = descBytes)
  | .taskEnqueue r => r.wellFormed
  | .e2eTrackedRequest _ _ _ _ _ q => q.wellFormed
  | .identReceive _ _ _ _ d => decide (d.length = identBytes)
  | .dataFlitReceive _ d => decide (d.length = flitBytes)
  | .flitTransmit _ _ _ _ d => decide (d.length = flitBodyBytes)
  | .dmaDescFetch _ _ a _ => a.wellFormed dmaDescBytes
  | _ => true

end Sys2Proof
end

