-- ==== Sys2Proof/Decode.lean ====
section
/-! DEFINITION. What a word spells by the table's bits.  No row of the opcode table gives bits: a command
reaches the module as an access, a message or an event, never as an instruction word. -/

namespace Sys2Proof

/-- The command an instruction word spells: none. -/
def decodeTableWord (_nbits _w : Nat) : Option Instr := none

end Sys2Proof
end

