-- ==== Sys2Proof/Machine/Bits.lean ====
section
/-! DEFINITION. Bit fields, sign extension, byte order and the counting rules of the page tables
(saturating and wrapping counters). -/

namespace Sys2Proof.Machine

/-- Bits `lo` to `lo + w - 1` of a number. -/
def nbits (v lo w : Nat) : Nat := v / 2 ^ lo % 2 ^ w

/-- Bits `lo` to `lo + w - 1` of a register, as a number. -/
def bits (v : Word) (lo w : Nat) : Nat := nbits v.toNat lo w

/-- One bit of a register. -/
def bit (v : Word) (lo : Nat) : Bool := v.getLsbD lo

/-- A register with bits `lo` to `lo + w - 1` replaced by `x`. -/
def putBits (v : Word) (lo w x : Nat) : Word :=
  let m : Word := BitVec.ofNat 64 ((2 ^ w - 1) * 2 ^ lo)
  (v &&& ~~~m) ||| (BitVec.ofNat 64 (x * 2 ^ lo) &&& m)

/-- A truth value as a bit. -/
def b2n (b : Bool) : Nat := if b then 1 else 0

/-- A truth value as a word. -/
def b2w (b : Bool) : Word := if b then 1#64 else 0#64

/-- `x` read as a two's-complement number of `w` bits. -/
def sint (w x : Nat) : Int :=
  let m := x % 2 ^ w
  if w ≠ 0 ∧ 2 ^ (w - 1) ≤ m then (m : Int) - (2 ^ w : Nat) else (m : Int)

/-- The two's-complement code of `i` in `w` bits. -/
def tcode (w : Nat) (i : Int) : Nat := (i % ((2 ^ w : Nat) : Int)).toNat

/-- A counter of `w` bits that stops at its largest value. -/
def satAdd (w c n : Nat) : Nat := if c + n < 2 ^ w then c + n else 2 ^ w - 1

/-- A counter of `w` bits that wraps. -/
def wrapAdd (w c n : Nat) : Nat := (c + n) % 2 ^ w

/-- A number from its bytes, least significant first. -/
def leNat : List Byte → Nat
  | [] => 0
  | b :: r => b.toNat + 256 * leNat r

/-- The `n` bytes of a number, least significant first. -/
def leBytes : Nat → Nat → List Byte
  | 0, _ => []
  | n + 1, v => BitVec.ofNat 8 v :: leBytes n (v / 256)

/-- The bytes of a list of 64-bit words, each least significant byte first. -/
def wordsBytes (l : List Word) : List Byte := l.flatMap (fun w => leBytes 8 w.toNat)

/-- `n` bytes of a byte list from byte `o`, as a number. -/
def leField (l : List Byte) (o n : Nat) : Nat := leNat ((l.drop o).take n)

/-- `n` bits of a byte list from bit `lo`, as a number. -/
def bitField (l : List Byte) (lo n : Nat) : Nat :=
  nbits (leNat ((l.drop (lo / 8)).take ((lo % 8 + n + 7) / 8))) (lo % 8) n

/-- Round up to a multiple of `a`. -/
def roundUp (x a : Nat) : Nat := (x + a - 1) / a * a

/-- Quotient rounded up. -/
def ceilDiv (x a : Nat) : Nat := (x + a - 1) / a

/-- Is bit `i` of the mask set? -/
def inMask (m i : Nat) : Bool := m.testBit i

/-- The numbers below `n` whose mask bit is set, ascending. -/
def maskList (m n : Nat) : List Nat := (List.range n).filter (fun i => m.testBit i)

/-- The mask of a list of numbers. -/
def listMask (l : List Nat) : Nat := l.foldl (fun m i => m ||| 2 ^ i) 0

end Sys2Proof.Machine
end

