-- ==== Sys2Proof/Machine/Num.lean ====
section
/-! DEFINITION. Number formats and conversions: the floating-point formats of R201, rounding by
R203 and R204, the weight and activation formats of R205–R211, and the drain of R214. -/

namespace Sys2Proof.Machine

/-- A floating-point format: exponent and significand widths, bias, whether it has infinities, the
code of its largest finite magnitude and its canonical NaN (R201, R202). -/
structure Fmt where
  ew : Nat
  mw : Nat
  bias : Nat
  inf : Bool
  maxCode : Nat
  nan : Nat
  deriving DecidableEq, Repr

def fp64 : Fmt := ⟨11, 52, 1023, true, 0x7FEFFFFFFFFFFFFF, 0x7FF8000000000000⟩
def fp32 : Fmt := ⟨8, 23, 127, true, 0x7F7FFFFF, 0x7FC00000⟩
def bf16 : Fmt := ⟨8, 7, 127, true, 0x7F7F, 0x7FC0⟩
def fp16 : Fmt := ⟨5, 10, 15, true, 0x7BFF, 0x7E00⟩
def e4m3 : Fmt := ⟨4, 3, 7, false, 0x7E, 0x7F⟩
def e5m2 : Fmt := ⟨5, 2, 15, true, 0x7B, 0x7E⟩

/-- Width of a format in bits. -/
def Fmt.width (f : Fmt) : Nat := 1 + f.ew + f.mw

/-- A value: NaN, an infinity, or the exact number `(-1)^neg × m × 2^e`. -/
inductive Val where
  | nan
  | inf (neg : Bool)
  | fin (neg : Bool) (m : Nat) (e : Int)
  deriving DecidableEq, Repr

/-- The value a code stands for. -/
def Fmt.unpack (f : Fmt) (c : Nat) : Val :=
  let neg := c.testBit (f.ew + f.mw)
  let ex := nbits c f.mw f.ew
  let fr := nbits c 0 f.mw
  if ex = 2 ^ f.ew - 1 ∧ (f.inf ∨ fr = 2 ^ f.mw - 1) then
    if f.inf ∧ fr = 0 then .inf neg else .nan
  else if ex = 0 then .fin neg fr (1 - (f.bias : Int) - f.mw)
  else .fin neg (2 ^ f.mw + fr) ((ex : Int) - f.bias - f.mw)

/-- Rounding modes; the engines use `rne` only (R203). -/
inductive RMode where
  | rne | rtz | rdn | rup | rmm
  deriving DecidableEq, Repr

/-- Round `m / 2^d` to an integer. -/
def roundShift (mode : RMode) (neg : Bool) (m d : Nat) : Nat :=
  let q := m / 2 ^ d
  let r := m % 2 ^ d
  let up : Bool := match mode with
    | .rne => decide (2 * r > 2 ^ d) || (decide (2 * r = 2 ^ d) && decide (q % 2 = 1))
    | .rtz => false
    | .rdn => neg && decide (r ≠ 0)
    | .rup => !neg && decide (r ≠ 0)
    | .rmm => decide (2 * r ≥ 2 ^ d)
  if r ≠ 0 ∧ up then q + 1 else q

/-- A rounded code with the exceptions its rounding meets. -/
structure Rounded where
  code : Nat
  nx : Bool
  of : Bool
  uf : Bool
  deriving DecidableEq, Repr

/-- The quantum exponent at which a nonzero `m × 2^e` rounds in the format. -/
def Fmt.quantum (f : Fmt) (m : Nat) (e : Int) : Int :=
  max ((Nat.log2 m : Int) + e - f.mw) (1 - (f.bias : Int) - f.mw)

/-- Round the exact number `(-1)^neg × m × 2^e`.  An overflow gives what the mode asks for: `sat`
selects the largest finite value, and a format without infinities always saturates (R203). -/
def Fmt.round (f : Fmt) (mode : RMode) (sat : Bool) (neg : Bool) (m : Nat) (e : Int) : Rounded :=
  let sgn := b2n neg * 2 ^ (f.ew + f.mw)
  if m = 0 then ⟨sgn, false, false, false⟩
  else
    let q := f.quantum m e
    let d := (q - e).toNat
    let mm := if q ≤ e then m * 2 ^ (e - q).toNat else m
    let M := roundShift mode neg mm d
    let nx := decide (mm % 2 ^ d ≠ 0)
    let biased := q + f.mw + f.bias
    let code := ((biased - 1) * (2 ^ f.mw : Nat) + M).toNat
    if code > f.maxCode then
      let toMax : Bool := sat || !f.inf || (match mode with
        | .rtz => true | .rdn => !neg | .rup => neg | _ => false)
      ⟨sgn + (if toMax then f.maxCode else (2 ^ f.ew - 1) * 2 ^ f.mw), true, true, false⟩
    else
      let L := (Nat.log2 m : Int) + e
      let emin : Int := 1 - (f.bias : Int)
      let d' := (L - f.mw - e).toNat
      let m' := if L - f.mw ≤ e then m * 2 ^ (e - (L - f.mw)).toNat else m
      let up := roundShift mode neg m' d' = 2 ^ (f.mw + 1)
      let tiny := decide (L < emin) && !(decide up && decide (L + 1 = emin))
      ⟨sgn + code, nx, false, nx && tiny⟩

/-- Pack a value by R203: RNE, canonical NaN, infinities kept where the format has them. -/
def Fmt.pack (f : Fmt) (sat : Bool) : Val → Nat
  | .nan => f.nan
  | .inf neg => if f.inf then b2n neg * 2 ^ (f.ew + f.mw) + (2 ^ f.ew - 1) * 2 ^ f.mw else f.nan
  | .fin neg m e => (f.round .rne sat neg m e).code

/-- An overflow that R203 replaces (saturation of a conversion). -/
def Fmt.overflows (f : Fmt) : Val → Bool
  | .fin neg m e => (f.round .rne true neg m e).of
  | _ => false

/-! ### Exact arithmetic on values -/

/-- The exact signed significand of a finite value at exponent `e0 ≤ e`. -/
def alignTo (e0 : Int) (neg : Bool) (m : Nat) (e : Int) : Int :=
  let k : Int := (m * 2 ^ (e - e0).toNat : Nat)
  if neg then -k else k

def Val.neg : Val → Val
  | .nan => .nan
  | .inf n => .inf (!n)
  | .fin n m e => .fin (!n) m e

def Val.abs : Val → Val
  | .nan => .nan
  | .inf _ => .inf false
  | .fin _ m e => .fin false m e

def Val.isNaN : Val → Bool
  | .nan => true
  | _ => false

def Val.isInf : Val → Bool
  | .inf _ => true
  | _ => false

def Val.finite : Val → Bool
  | .fin _ _ _ => true
  | _ => false

def Val.isZero : Val → Bool
  | .fin _ 0 _ => true
  | _ => false

/-- Exact sum; a zero sum is +0 unless both are −0 (`rdn` gives −0 unless both are +0). -/
def Val.add (mode : RMode) : Val → Val → Val
  | .nan, _ => .nan
  | _, .nan => .nan
  | .inf a, .inf b => if a = b then .inf a else .nan
  | .inf a, _ => .inf a
  | _, .inf b => .inf b
  | .fin n1 m1 e1, .fin n2 m2 e2 =>
    let e0 := min e1 e2
    let t := alignTo e0 n1 m1 e1 + alignTo e0 n2 m2 e2
    if t = 0 then
      let neg := if m1 = 0 ∧ m2 = 0 ∧ n1 = n2 then n1 else decide (mode = .rdn)
      .fin neg 0 e0
    else .fin (decide (t < 0)) t.natAbs e0

/-- Exact product. -/
def Val.mul : Val → Val → Val
  | .nan, _ => .nan
  | _, .nan => .nan
  | .inf a, .inf b => .inf (a != b)
  | .inf a, .fin b m _ => if m = 0 then .nan else .inf (a != b)
  | .fin a m _, .inf b => if m = 0 then .nan else .inf (a != b)
  | .fin n1 m1 e1, .fin n2 m2 e2 => .fin (n1 != n2) (m1 * m2) (e1 + e2)

/-- Integer square root, by `k` binary digits. -/
def isqrtAux (n : Nat) : Nat → Nat → Nat
  | 0, r => r
  | k + 1, r =>
    let t := r + 2 ^ k
    isqrtAux n k (if t * t ≤ n then t else r)

def isqrt (n : Nat) : Nat := isqrtAux n (Nat.log2 n / 2 + 1) 0

/-- Quotient carried far enough, with a sticky last bit, that one rounding to any format of at most
53 significant bits is the rounding of the exact quotient. -/
def Val.div : Val → Val → Val
  | .nan, _ => .nan
  | _, .nan => .nan
  | .inf _, .inf _ => .nan
  | .inf a, .fin b _ _ => .inf (a != b)
  | .fin a _ _, .inf b => .fin (a != b) 0 0
  | .fin n1 m1 e1, .fin n2 m2 e2 =>
    if m2 = 0 then (if m1 = 0 then .nan else .inf (n1 != n2))
    else
      let k := 120 + Nat.log2 m2 + 1
      let num := m1 * 2 ^ k
      let q := num / m2
      let st := b2n (decide (num % m2 ≠ 0))
      .fin (n1 != n2) (2 * q + st) (e1 - e2 - k - 1)

/-- Square root carried with a sticky last bit, as `Val.div`. -/
def Val.sqrt : Val → Val
  | .nan => .nan
  | .inf neg => if neg then .nan else .inf false
  | .fin neg m e =>
    if m = 0 then .fin neg 0 0
    else if neg then .nan
    else
      let odd := decide (e % 2 ≠ 0)
      let m1 := if odd then 2 * m else m
      let e1 := if odd then e - 1 else e
      let big := m1 * 2 ^ 240
      let r := isqrt big
      let st := b2n (decide (r * r ≠ big))
      .fin false (2 * r + st) (e1 / 2 - 120 - 1)

/-- Strictly less, on values that are not NaN (−0 equals +0). -/
def Val.lt : Val → Val → Bool
  | .nan, _ => false
  | _, .nan => false
  | .inf a, .inf b => a && !b
  | .inf a, .fin _ _ _ => a
  | .fin _ _ _, .inf b => !b
  | .fin n1 m1 e1, .fin n2 m2 e2 =>
    let e0 := min e1 e2
    decide (alignTo e0 n1 m1 e1 < alignTo e0 n2 m2 e2)

/-- Equal, on values that are not NaN. -/
def Val.eqv : Val → Val → Bool
  | .nan, _ => false
  | _, .nan => false
  | .inf a, .inf b => a == b
  | .inf _, .fin _ _ _ => false
  | .fin _ _ _, .inf _ => false
  | .fin n1 m1 e1, .fin n2 m2 e2 =>
    let e0 := min e1 e2
    decide (alignTo e0 n1 m1 e1 = alignTo e0 n2 m2 e2)

/-- Round a finite value to an integer. -/
def Val.toInt (mode : RMode) : Val → Int
  | .fin neg m e =>
    let k := if 0 ≤ e then m * 2 ^ e.toNat else roundShift mode neg m (-e).toNat
    if neg then -(k : Int) else (k : Int)
  | _ => 0

/-- Is the value an integer? -/
def Val.isInt : Val → Bool
  | .fin _ m e => decide (0 ≤ e) || decide (m % 2 ^ (-e).toNat = 0)
  | _ => false

/-- An integer as a value. -/
def Val.ofInt (i : Int) : Val := .fin (decide (i < 0)) i.natAbs 0

/-- Clamp to the two's-complement range of `w` bits. -/
def clampInt (w : Nat) (i : Int) : Int :=
  max (-((2 ^ (w - 1) : Nat) : Int)) (min i ((2 ^ (w - 1) : Nat) - 1))

/-- Conversion of a floating-point value to an integer of `w` bits by R204. -/
def Val.toIntSat (w : Nat) : Val → Int
  | .nan => 0
  | .inf neg => if neg then -((2 ^ (w - 1) : Nat) : Int) else (2 ^ (w - 1) : Nat) - 1
  | v => clampInt w (v.toInt .rne)

/-- The exponent of a nonzero finite value (the value exponent for subnormals, R211). -/
def Val.exponent : Val → Int
  | .fin _ m e => (Nat.log2 m : Int) + e
  | _ => 0

/-- Multiply by a power of two. -/
def Val.scale (k : Int) : Val → Val
  | .fin neg m e => .fin neg m (e + k)
  | v => v

/-! ### Atomics of R122 -/

/-- FP32 add, RNE, canonical NaN. -/
def addF32 (a b : Nat) : Nat := fp32.pack false (Val.add .rne (fp32.unpack a) (fp32.unpack b))

/-- BF16 add, RNE, canonical NaN. -/
def addBf16 (a b : Nat) : Nat := bf16.pack false (Val.add .rne (bf16.unpack a) (bf16.unpack b))

/-! ### Blocks -/

/-- An activation block: 32 signed integers and the exponent byte (R210); `none` marks a block that
holds a non-finite input (X = 255). -/
structure BaiBlock where
  x : Nat
  m : List Int
  deriving DecidableEq, Repr

/-- One BAI element of `b` bits: rounded at exponent `x`. -/
def baiElem (x : Nat) (v : Val) : Int := (v.scale (127 - (x : Int))).toInt .rne

/-- The feeder's conversion of a block to BAI of `b` bits, R211. -/
def toBai (b : Nat) (l : List Val) : BaiBlock :=
  if l.all Val.isZero then ⟨0, l.map (fun _ => 0)⟩
  else if l.any (fun v => !v.finite) then ⟨255, l.map (fun _ => 0)⟩
  else
    let es := (l.filter (fun v => !v.isZero)).map Val.exponent
    let emax := es.foldl max (es.headD 0)
    let x := (max 1 (min 254 (emax - ((b : Int) - 2) + 127))).toNat
    let ms := l.map (baiElem x)
    if ms.any (fun i => decide (i.natAbs = 2 ^ (b - 1))) then ⟨x + 1, l.map (baiElem (x + 1))⟩
    else ⟨x, ms⟩

/-- Rounding of a block of 32 E4M3 or E5M2 elements to MXINT8, R209: the scale byte and the
elements; `none` where the block holds a NaN or an infinity. -/
def toMxInt8 (l : List Val) : Option (Nat × List Int) :=
  if l.any (fun v => !v.finite) then none
  else if l.all Val.isZero then some (0, l.map (fun _ => 0))
  else
    let es := (l.filter (fun v => !v.isZero)).map Val.exponent
    let emax := es.foldl max (es.headD 0)
    some ((emax + 127).toNat, l.map (fun v => (v.scale (6 - emax)).toInt .rne))

/-- The value of an E8M0 scale byte: 2^(S−127), 0xFF is NaN (R206). -/
def e8m0 (s : Nat) : Val := if s = 255 then .nan else .fin false 1 ((s : Int) - 127)

/-- The exact block value of R214: `sum × wscale × 2^(X−127)`, with the extra power of two of the
weight format; a zero scale or a zero block contributes +0 and a non-finite input or scale NaN
(R218). -/
def blockValue (sum : Int) (wscale : Val) (x : Nat) (extra : Int) : Val :=
  if x = 255 ∨ !wscale.finite then .nan
  else if x = 0 ∨ wscale.isZero then .fin false 0 0
  else ((Val.ofInt sum).mul wscale).scale ((x : Int) - 127 + extra)

/-- One step of the drain, R214: `acc = rne(acc + rne(v))` with +0 for an exact zero. -/
def drainStep (acc : Nat) (v : Val) : Nat :=
  let t := fp32.pack false v
  let r := fp32.pack false (Val.add .rne (fp32.unpack acc) (fp32.unpack t))
  if (fp32.unpack r).isZero then 0 else r

/-- The drain over the blocks of one column, ascending, R214. -/
def drain (acc : Nat) (vs : List Val) : Nat := vs.foldl drainStep acc

end Sys2Proof.Machine
end

