-- ==== Sys2Proof/Config.lean ====
section
/-! DEFINITION. What an implementation fixes and what the spec leaves open: constants without a
body, so that no proof can see their value. -/

namespace Sys2Proof

/-- A free byte: the content of an output the spec calls undefined, by the serial of the event that
left it undefined and the byte's address. (Mark: DESIGN CHOICE, log 6.) -/
opaque Config.freeByte : Nat → Nat → Byte

/-- A free 64-bit value by serial and index: a value the spec does not state. (Mark: DESIGN CHOICE, log 6.) -/
opaque Config.freeWord : Nat → Nat → Word

/-- A free choice by serial and index: whether one of two outcomes the spec allows came about. -/
opaque Config.freeBool : Nat → Nat → Bool

/-- A free number by serial and index; where the spec sets a bound the model reduces it by the bound. -/
opaque Config.freeNat : Nat → Nat → Nat

/-- The module's fused unit identity (WFR_ID_UNIT, FAB_UNIT; R760). (Mark: DESIGN CHOICE, log 15.) -/
opaque Config.unitIdentity : Word

/-- The fused silicon revision of WFR_ID_PART (R760). (Mark: DESIGN CHOICE, log 15.) -/
opaque Config.siliconRevision : BitVec 4

/-- Fields in service at final production test, WFR_ID_SHIP (R760). -/
opaque Config.shippedFields : BitVec 7

/-- The vendor code of a field's HBM stack (HBM_ID). -/
opaque Config.stackVendor : Nat → BitVec 8

/-- The FP32 words of the preloadable sieve tables: image, segment, and whether the slope is meant
(R276 gives their error bounds only). (Mark: DESIGN CHOICE, log 77.) -/
opaque Config.imageWord : Nat → Nat → Bool → BitVec 32

end Sys2Proof
end

