-- ==== Sys2Proof/Machine/Reg.lean ====
section
/-! DEFINITION. The page types of the page directory (R753) and the registers of every page, one
constructor each under the spec's own name.  A name with a lower-case index letter (`n`, `k`, `p`, …)
stands for the whole row of registers; the index is the key's `idx`. -/

namespace Sys2Proof.Machine

/-- The page types of the page directory, R753. -/
inductive Page where
  | FLD_SPINE
  | FLD_COMMONS
  | FLD_IRQ
  | CRF
  | TLY
  | CRN
  | SCR
  | LOM
  | HBM
  | PWR_FLD
  | ASY_FLD
  | QRN
  | SIV
  | WFR_ID
  | WFR_IRQ
  | WFR_FIELDS
  | WFR_SPREAD
  | WFR_SEAMCOST
  | WFR_BOOT
  | RVE_MBX
  | RVE
  | HRT_SYS
  | HRT_SAVE
  | CRI
  | GPIO
  | PWR
  | WFR_RCV
  | WFR_MUSTER
  | ASY
  | BIS
  | FAB
  | VRN_PORTS
  | HST_PORT
  | HBM_GRANARY
  | WFR_PARISH
  | WFR_SRO
  | HST_FN
  | VRN_LINK
  deriving DecidableEq, Repr

/-- Every register of every page table of the spec. -/
inductive Reg where
  /-- R55, 01_field_map.md: FLD_SPINE +0x040. -/
  | FLD_SPINE_ID
  /-- R55, 01_field_map.md: FLD_SPINE +0x048. -/
  | FLD_CLK_STATUS
  /-- R55, 01_field_map.md: FLD_SPINE +0x050. -/
  | FLD_SEAMn_STATE
  /-- R55, 01_field_map.md: FLD_SPINE +0x058. -/
  | FLD_SEAMn_ECC
  /-- R55, 01_field_map.md: FLD_SPINE +0x060. -/
  | FLD_SEAMn_SAT
  /-- R55, 01_field_map.md: FLD_SPINE +0x068. -/
  | FLD_SEAMn_TRAFFIC
  /-- R55, 01_field_map.md: FLD_SPINE +0x0d0. -/
  | FLD_SEAM_SAT_THRESH
  /-- R55, 01_field_map.md: FLD_SPINE +0x0d8. -/
  | FLD_SEAM_EVENT
  /-- R100, 02_commons.md: FLD_COMMONS +0x040. -/
  | FLD_CMN_ERR_STATUS
  /-- R100, 02_commons.md: FLD_COMMONS +0x048. -/
  | FLD_CMN_ERR_ADDR
  /-- R100, 02_commons.md: FLD_COMMONS +0x050. -/
  | FLD_CMN_ERR_SOURCE
  /-- R100, 02_commons.md: FLD_COMMONS +0x058. -/
  | FLD_CMN_LATE_RSP
  /-- R100, 02_commons.md: FLD_COMMONS +0x060. -/
  | FLD_CMN_FRESH_READS
  /-- R100, 02_commons.md: FLD_COMMONS +0x068. -/
  | FLD_CMN_FRESH_FILLS
  /-- R100, 02_commons.md: FLD_COMMONS +0x070. -/
  | FLD_CMN_FRESH_FAULT
  /-- R100, 02_commons.md: FLD_COMMONS +0x078. -/
  | FLD_CMN_DENIED
  /-- R100, 02_commons.md: WFR_SRO +0x040. -/
  | WFR_SROw_BASE
  /-- R100, 02_commons.md: WFR_SRO +0x048. -/
  | WFR_SROw_LIMIT
  /-- R100, 02_commons.md: WFR_SRO +0x140. -/
  | WFR_SRO_GEN
  /-- R142, 03_crofters.md: CRF +0x040. -/
  | CRF_ID
  /-- R142, 03_crofters.md: CRF +0x048. -/
  | CRF_MON_STATUS
  /-- R142, 03_crofters.md: CRF +0x050. -/
  | CRF_STACK_BASE
  /-- R142, 03_crofters.md: CRF +0x058. -/
  | CRF_STACK_SLOT
  /-- R142, 03_crofters.md: CRF +0x060. -/
  | CRF_SRO_INV
  /-- R142, 03_crofters.md: CRF +0x068. -/
  | CRF_INST_COUNT
  /-- R142, 03_crofters.md: CRF +0x070. -/
  | CRF_ISSUE_COUNT
  /-- R142, 03_crofters.md: CRF +0x078. -/
  | CRF_BELL_COUNT
  /-- R142, 03_crofters.md: CRF +0x080. -/
  | CRF_THREAD_STATEn
  /-- R142, 03_crofters.md: CRF +0x0c0. -/
  | CRF_FAULT_HEAD
  /-- R142, 03_crofters.md: CRF +0x100. -/
  | CRF_FAULTk
  /-- R167, 04_tallies.md: TLY +0x040. -/
  | TLY_ID
  /-- R167, 04_tallies.md: TLY +0x048. -/
  | TLY_USE
  /-- R167, 04_tallies.md: TLY +0x050. -/
  | TLY_SIG_BASE
  /-- R167, 04_tallies.md: TLY +0x058. -/
  | TLY_SIG_CTL
  /-- R167, 04_tallies.md: TLY +0x060. -/
  | TLY_SIG_HEAD
  /-- R167, 04_tallies.md: TLY +0x068. -/
  | TLY_SIG_TAIL
  /-- R167, 04_tallies.md: TLY +0x070. -/
  | TLY_ERR_STATUS
  /-- R167, 04_tallies.md: TLY +0x078. -/
  | TLY_REFUSED
  /-- R167, 04_tallies.md: TLY +0x080. -/
  | TLY_DUP_COUNT
  /-- R167, 04_tallies.md: TLY +0x088. -/
  | TLY_OPS
  /-- R167, 04_tallies.md: TLY +0x090. -/
  | TLY_ABORTS
  /-- R197, 05_sheaves.md: WFR_PARISH +0x040. -/
  | WFR_PAR_CTL
  /-- R197, 05_sheaves.md: WFR_PARISH +0x048. -/
  | WFR_PAR_FIELDS_LO
  /-- R197, 05_sheaves.md: WFR_PARISH +0x050. -/
  | WFR_PAR_FIELDS_HI
  /-- R197, 05_sheaves.md: WFR_PARISH +0x058. -/
  | WFR_PAR_CANCEL
  /-- R197, 05_sheaves.md: WFR_PARISH +0x060. -/
  | WFR_PAR_INFLIGHT
  /-- R197, 05_sheaves.md: WFR_PARISH +0x100. -/
  | WFR_RINGr_SQ_BASE
  /-- R197, 05_sheaves.md: WFR_PARISH +0x108. -/
  | WFR_RINGr_RQ_BASE
  /-- R197, 05_sheaves.md: WFR_PARISH +0x110. -/
  | WFR_RINGr_CTL
  /-- R197, 05_sheaves.md: WFR_PARISH +0x118. -/
  | WFR_RINGr_SQ_PTR
  /-- R197, 05_sheaves.md: WFR_PARISH +0x120. -/
  | WFR_RINGr_RQ_PTR
  /-- R197, 05_sheaves.md: WFR_PARISH +0x128. -/
  | WFR_RINGr_STAT
  /-- R198, 05_sheaves.md: WFR_MUSTER +0x040. -/
  | WFR_MUSm_CTL
  /-- R198, 05_sheaves.md: WFR_MUSTER +0x048. -/
  | WFR_MUSm_LIST
  /-- R198, 05_sheaves.md: WFR_MUSTER +0x050. -/
  | WFR_MUSm_RX
  /-- R198, 05_sheaves.md: WFR_MUSTER +0x058. -/
  | WFR_MUSm_RXT
  /-- R257, 07_quern.md: QRN +0x040. -/
  | QRN_ID
  /-- R257, 07_quern.md: QRN +0x048. -/
  | QRN_QUEUE
  /-- R257, 07_quern.md: QRN +0x050. -/
  | QRN_TASKS
  /-- R257, 07_quern.md: QRN +0x058. -/
  | QRN_BUSY_CYCLES
  /-- R257, 07_quern.md: QRN +0x060. -/
  | QRN_MODE_SWITCHES
  /-- R257, 07_quern.md: QRN +0x068. -/
  | QRN_ROW_STALL
  /-- R257, 07_quern.md: QRN +0x070. -/
  | QRN_COL_STALL
  /-- R257, 07_quern.md: QRN +0x078. -/
  | QRN_HOLD_COUNT
  /-- R257, 07_quern.md: QRN +0x080. -/
  | QRN_HOLD_CYCLES
  /-- R257, 07_quern.md: QRN +0x088. -/
  | QRN_HOLD_LAST
  /-- R257, 07_quern.md: QRN +0x090. -/
  | QRN_HOLD_THRESH
  /-- R257, 07_quern.md: QRN +0x098. -/
  | QRN_EVENT
  /-- R257, 07_quern.md: QRN +0x0a0. -/
  | QRN_NONFINITE
  /-- R257, 07_quern.md: QRN +0x0a8. -/
  | QRN_SAT
  /-- R257, 07_quern.md: QRN +0x0b0. -/
  | QRN_ERR_STATUS
  /-- R257, 07_quern.md: QRN +0x0b8. -/
  | QRN_GATED_CYCLES
  /-- R257, 07_quern.md: QRN +0x0c0. -/
  | QRN_RESETS
  /-- R289, 08_sieve.md: SIV +0x040. -/
  | SIV_ID
  /-- R289, 08_sieve.md: SIV +0x048. -/
  | SIV_QUEUE
  /-- R289, 08_sieve.md: SIV +0x050. -/
  | SIV_WINDOWS
  /-- R289, 08_sieve.md: SIV +0x058. -/
  | SIV_TASKS
  /-- R289, 08_sieve.md: SIV +0x060. -/
  | SIV_ISSUE_CYCLES
  /-- R289, 08_sieve.md: SIV +0x068. -/
  | SIV_EMPTY_CYCLES
  /-- R289, 08_sieve.md: SIV +0x070. -/
  | SIV_RD_BYTES
  /-- R289, 08_sieve.md: SIV +0x078. -/
  | SIV_WR_BYTES
  /-- R289, 08_sieve.md: SIV +0x080. -/
  | SIV_TABLE_STATE
  /-- R289, 08_sieve.md: SIV +0x088. -/
  | SIV_SAT
  /-- R289, 08_sieve.md: SIV +0x090. -/
  | SIV_ERR_STATUS
  /-- R289, 08_sieve.md: SIV +0x098. -/
  | SIV_EVENT
  /-- R289, 08_sieve.md: SIV +0x0a0. -/
  | SIV_GATED_CYCLES
  /-- R289, 08_sieve.md: SIV +0x0a8. -/
  | SIV_RESETS
  /-- R331, 09_cairn.md: CRN +0x040. -/
  | CRN_CTL
  /-- R331, 09_cairn.md: CRN +0x048. -/
  | CRN_GEOM
  /-- R331, 09_cairn.md: CRN +0x050. -/
  | CRN_POOL_BASE
  /-- R331, 09_cairn.md: CRN +0x058. -/
  | CRN_POOL_SLOTS
  /-- R331, 09_cairn.md: CRN +0x060. -/
  | CRN_PT_BASE
  /-- R331, 09_cairn.md: CRN +0x068. -/
  | CRN_PT_BLOCKS
  /-- R331, 09_cairn.md: CRN +0x070. -/
  | CRN_GRAN_BASE
  /-- R331, 09_cairn.md: CRN +0x078. -/
  | CRN_GRAN_PAIRS
  /-- R331, 09_cairn.md: CRN +0x080. -/
  | CRN_FREE
  /-- R331, 09_cairn.md: CRN +0x088. -/
  | CRN_SEQS
  /-- R331, 09_cairn.md: CRN +0x090. -/
  | CRN_ADMIT
  /-- R331, 09_cairn.md: CRN +0x098. -/
  | CRN_CLAMPS
  /-- R331, 09_cairn.md: CRN +0x0a0. -/
  | CRN_RECLAIM
  /-- R331, 09_cairn.md: CRN +0x0a8. -/
  | CRN_ORPHAN_FREED
  /-- R331, 09_cairn.md: CRN +0x0b0. -/
  | CRN_ERR_STATUS
  /-- R331, 09_cairn.md: CRN +0x0b8. -/
  | CRN_RESETS
  /-- R355, 10_scree.md: SCR +0x040. -/
  | SCR_ID
  /-- R355, 10_scree.md: SCR +0x048. -/
  | SCR_QUEUE
  /-- R355, 10_scree.md: SCR +0x050. -/
  | SCR_TASKS
  /-- R355, 10_scree.md: SCR +0x058. -/
  | SCR_BUSY_CYCLES
  /-- R355, 10_scree.md: SCR +0x060. -/
  | SCR_POINTS
  /-- R355, 10_scree.md: SCR +0x068. -/
  | SCR_CULLED
  /-- R355, 10_scree.md: SCR +0x070. -/
  | SCR_PAIRS
  /-- R355, 10_scree.md: SCR +0x078. -/
  | SCR_TAG
  /-- R355, 10_scree.md: SCR +0x080. -/
  | SCR_ERR_STATUS
  /-- R355, 10_scree.md: SCR +0x088. -/
  | SCR_EVENT
  /-- R355, 10_scree.md: SCR +0x090. -/
  | SCR_GATED_CYCLES
  /-- R355, 10_scree.md: SCR +0x098. -/
  | SCR_RESETS
  /-- R390, 11_loom.md: LOM +0x040. -/
  | LOM_ID
  /-- R390, 11_loom.md: LOM +0x048. -/
  | LOM_QUEUE
  /-- R390, 11_loom.md: LOM +0x050. -/
  | LOM_JOBS
  /-- R390, 11_loom.md: LOM +0x058. -/
  | LOM_DEC_PIXELS
  /-- R390, 11_loom.md: LOM +0x060. -/
  | LOM_ENC_PIXELS
  /-- R390, 11_loom.md: LOM +0x068. -/
  | LOM_CONCEALED
  /-- R390, 11_loom.md: LOM +0x070. -/
  | LOM_BUDGET_HITS
  /-- R390, 11_loom.md: LOM +0x078. -/
  | LOM_REJECTS
  /-- R390, 11_loom.md: LOM +0x080. -/
  | LOM_ENC_SKIPS
  /-- R390, 11_loom.md: LOM +0x088. -/
  | LOM_BS_BYTES
  /-- R390, 11_loom.md: LOM +0x090. -/
  | LOM_ERR_STATUS
  /-- R390, 11_loom.md: LOM +0x098. -/
  | LOM_EVENT
  /-- R390, 11_loom.md: LOM +0x0a0. -/
  | LOM_GATED_CYCLES
  /-- R390, 11_loom.md: LOM +0x0a8. -/
  | LOM_RESETS
  /-- R421, 12_hbm_granary.md: HBM +0x040. -/
  | HBM_ID
  /-- R421, 12_hbm_granary.md: HBM +0x048. -/
  | HBM_TRAIN
  /-- R421, 12_hbm_granary.md: HBM +0x050. -/
  | HBM_ODECC
  /-- R421, 12_hbm_granary.md: HBM +0x058. -/
  | HBM_CE_COUNT
  /-- R421, 12_hbm_granary.md: HBM +0x060. -/
  | HBM_UE_COUNT
  /-- R421, 12_hbm_granary.md: HBM +0x068. -/
  | HBM_UE_LIMIT
  /-- R421, 12_hbm_granary.md: HBM +0x070. -/
  | HBM_ERR_STATUS
  /-- R421, 12_hbm_granary.md: HBM +0x078. -/
  | HBM_ERR_ADDR
  /-- R421, 12_hbm_granary.md: HBM +0x080. -/
  | HBM_LOSS
  /-- R421, 12_hbm_granary.md: HBM +0x088. -/
  | HBM_PATROL
  /-- R421, 12_hbm_granary.md: HBM +0x090. -/
  | HBM_TEMP
  /-- R421, 12_hbm_granary.md: HBM +0x098. -/
  | HBM_RD_BYTES
  /-- R421, 12_hbm_granary.md: HBM +0x0a0. -/
  | HBM_WR_BYTES
  /-- R421, 12_hbm_granary.md: HBM +0x0a8. -/
  | HBM_SCRUB_CTL
  /-- R421, 12_hbm_granary.md: HBM +0x0b0. -/
  | HBM_SCRUB_START
  /-- R421, 12_hbm_granary.md: HBM +0x0b8. -/
  | HBM_SCRUB_COUNT
  /-- R422, 12_hbm_granary.md: HBM_GRANARY +0x040. -/
  | HBM_GRAN_CTL
  /-- R422, 12_hbm_granary.md: HBM_GRANARY +0x048. -/
  | HBM_GRAN_ORIGIN
  /-- R422, 12_hbm_granary.md: HBM_GRANARY +0x050. -/
  | HBM_GRAN_PAIR
  /-- R422, 12_hbm_granary.md: HBM_GRANARY +0x058. -/
  | HBM_GRAN_PAIRS
  /-- R422, 12_hbm_granary.md: HBM_GRANARY +0x060. -/
  | HBM_GRAN_NSID
  /-- R422, 12_hbm_granary.md: HBM_GRANARY +0x068. -/
  | HBM_GRAN_MOVED
  /-- R422, 12_hbm_granary.md: HBM_GRANARY +0x070. -/
  | HBM_GRAN_ERR
  /-- R457, 13_verne.md: VRN_LINK +0x040. -/
  | VRN_LNK_ID
  /-- R457, 13_verne.md: VRN_LINK +0x048. -/
  | VRN_LNK_CTL
  /-- R457, 13_verne.md: VRN_LINK +0x050. -/
  | VRN_LNK_STATE
  /-- R457, 13_verne.md: VRN_LINK +0x058. -/
  | VRN_LNK_TX
  /-- R457, 13_verne.md: VRN_LINK +0x060. -/
  | VRN_LNK_NBR
  /-- R457, 13_verne.md: VRN_LINK +0x068. -/
  | VRN_LNK_NBR_PORT
  /-- R457, 13_verne.md: VRN_LINK +0x070. -/
  | VRN_LNK_RTT
  /-- R457, 13_verne.md: VRN_LINK +0x078. -/
  | VRN_LNK_REPLAY
  /-- R457, 13_verne.md: VRN_LINK +0x080. -/
  | VRN_LNK_CRC
  /-- R457, 13_verne.md: VRN_LINK +0x088. -/
  | VRN_LNK_DUP
  /-- R457, 13_verne.md: VRN_LINK +0x090. -/
  | VRN_LNK_PROTO
  /-- R457, 13_verne.md: VRN_LINK +0x098. -/
  | VRN_LNK_FEC_CORR
  /-- R457, 13_verne.md: VRN_LINK +0x0a0. -/
  | VRN_LNK_FEC_UNC
  /-- R457, 13_verne.md: VRN_LINK +0x0a8. -/
  | VRN_LNK_UCW_LIMIT
  /-- R457, 13_verne.md: VRN_LINK +0x0b0. -/
  | VRN_LNK_FLITS
  /-- R457, 13_verne.md: VRN_LINK +0x0b8. -/
  | VRN_PRBS_CTL
  /-- R457, 13_verne.md: VRN_LINK +0x0c0. -/
  | VRN_PRBS_ERR
  /-- R457, 13_verne.md: VRN_LINK +0x0c8. -/
  | VRN_PRBS_BITS
  /-- R457, 13_verne.md: VRN_LINK +0x0d0. -/
  | VRN_PRBS_BER
  /-- R457, 13_verne.md: VRN_PORTS +0x040. -/
  | VRN_E2E_DUP
  /-- R457, 13_verne.md: VRN_PORTS +0x048. -/
  | VRN_E2E_STALE
  /-- R457, 13_verne.md: VRN_PORTS +0x050. -/
  | VRN_E2E_WAIT
  /-- R457, 13_verne.md: VRN_PORTS +0x100. -/
  | VRN_PORTp_CTL
  /-- R457, 13_verne.md: VRN_PORTS +0x108. -/
  | VRN_PORTp_STATE
  /-- R494, 14_rack_fabric.md: FAB +0x040. -/
  | FAB_UNIT
  /-- R494, 14_rack_fabric.md: FAB +0x048. -/
  | FAB_NUM
  /-- R494, 14_rack_fabric.md: FAB +0x050. -/
  | FAB_CTL
  /-- R494, 14_rack_fabric.md: FAB +0x058. -/
  | FAB_STATE
  /-- R494, 14_rack_fabric.md: FAB +0x060. -/
  | FAB_MEMBERS
  /-- R494, 14_rack_fabric.md: FAB +0x068. -/
  | FAB_MAP_GEN
  /-- R494, 14_rack_fabric.md: FAB +0x070. -/
  | FAB_FM
  /-- R494, 14_rack_fabric.md: FAB +0x080. -/
  | FAB_TIME_CTL
  /-- R494, 14_rack_fabric.md: FAB +0x088. -/
  | FAB_TIME_OFFSET
  /-- R494, 14_rack_fabric.md: FAB +0x090. -/
  | FAB_TIME_SET
  /-- R494, 14_rack_fabric.md: FAB +0x098. -/
  | FAB_NUMCFG
  /-- R494, 14_rack_fabric.md: FAB +0x0a0. -/
  | FAB_STALE_EPOCH
  /-- R494, 14_rack_fabric.md: FAB +0x0a8. -/
  | FAB_HELD
  /-- R494, 14_rack_fabric.md: FAB +0x0b0. -/
  | FAB_QUAR
  /-- R494, 14_rack_fabric.md: FAB +0x0b8. -/
  | FAB_REISSUE
  /-- R494, 14_rack_fabric.md: FAB +0x0c0. -/
  | FAB_NO_FAR
  /-- R494, 14_rack_fabric.md: FAB +0x0c8. -/
  | FAB_EVENT
  /-- R494, 14_rack_fabric.md: FAB +0x100. -/
  | FAB_EPOCHn
  /-- R494, 14_rack_fabric.md: FAB +0x180. -/
  | FAB_REACHp
  /-- R494, 14_rack_fabric.md: FAB +0x320. -/
  | FAB_MAPp
  /-- R494, 14_rack_fabric.md: FAB +0x660. -/
  | FAB_FARr
  /-- R494, 14_rack_fabric.md: FAB +0xa60. -/
  | FAB_DISC_CTL
  /-- R494, 14_rack_fabric.md: FAB +0xb00. -/
  | FAB_DISC_TX
  /-- R494, 14_rack_fabric.md: FAB +0xc00. -/
  | FAB_DISC_RX
  /-- R519, 15_host_storage.md: HST_FN +0x040. -/
  | HST_FN_WIN_BASE
  /-- R519, 15_host_storage.md: HST_FN +0x048. -/
  | HST_FN_WIN_ERR
  /-- R519, 15_host_storage.md: HST_FN +0x050. -/
  | HST_FN_CTL
  /-- R519, 15_host_storage.md: HST_FN +0x058. -/
  | HST_FN_PASID
  /-- R519, 15_host_storage.md: HST_FN +0x060. -/
  | HST_FN_DMAq_BASE
  /-- R519, 15_host_storage.md: HST_FN +0x068. -/
  | HST_FN_DMAq_CTL
  /-- R519, 15_host_storage.md: HST_FN +0x070. -/
  | HST_FN_DMAq_BYTES
  /-- R520, 15_host_storage.md: HST_PORT +0x040. -/
  | HST_PORT_H0
  /-- R520, 15_host_storage.md: HST_PORT +0x048. -/
  | HST_PORT_CTL
  /-- R520, 15_host_storage.md: HST_PORT +0x050. -/
  | HST_PORT_MSIX_DROP
  /-- R520, 15_host_storage.md: HST_PORT +0x058. -/
  | HST_PORT_TAGS
  /-- R520, 15_host_storage.md: HST_PORT +0x060. -/
  | HST_S0_STATE
  /-- R520, 15_host_storage.md: HST_PORT +0x068. -/
  | HST_PORT_EVENT
  /-- R552, 16_power.md: PWR +0x040. -/
  | PWR_MOD_CTL
  /-- R552, 16_power.md: PWR +0x048. -/
  | PWR_MOD_STAT
  /-- R552, 16_power.md: PWR +0x050. -/
  | PWR_PSTATE
  /-- R552, 16_power.md: PWR +0x058. -/
  | PWR_CAP_WAFER
  /-- R552, 16_power.md: PWR +0x060. -/
  | PWR_CAP_CTL
  /-- R552, 16_power.md: PWR +0x068. -/
  | PWR_GATE
  /-- R552, 16_power.md: PWR +0x070. -/
  | PWR_EST
  /-- R552, 16_power.md: PWR +0x078. -/
  | PWR_CAL
  /-- R552, 16_power.md: PWR +0x080. -/
  | PWR_THERM_CTL
  /-- R552, 16_power.md: PWR +0x088. -/
  | PWR_WAKE_ARM
  /-- R552, 16_power.md: PWR +0x090. -/
  | PWR_EVENT
  /-- R552, 16_power.md: PWR +0x098. -/
  | PWR_ENERGY_TOTAL
  /-- R552, 16_power.md: PWR +0x0a0. -/
  | PWR_ENERGY_RECOVERY
  /-- R552, 16_power.md: PWR +0x0a8. -/
  | PWR_ENERGY_OVERHEAD
  /-- R552, 16_power.md: PWR +0x100. -/
  | PWR_PARn_CAP
  /-- R552, 16_power.md: PWR +0x108. -/
  | PWR_PARn_ENERGY
  /-- R553, 16_power.md: PWR_FLD +0x040. -/
  | PWR_FLD_CTL
  /-- R553, 16_power.md: PWR_FLD +0x048. -/
  | PWR_FLD_STAT
  /-- R553, 16_power.md: PWR_FLD +0x050. -/
  | PWR_FLD_EST
  /-- R553, 16_power.md: PWR_FLD +0x058. -/
  | PWR_FLD_GAIN
  /-- R553, 16_power.md: PWR_FLD +0x060. -/
  | PWR_FLD_VOLT
  /-- R553, 16_power.md: PWR_FLD +0x068. -/
  | PWR_FLD_DROOP
  /-- R553, 16_power.md: PWR_FLD +0x070. -/
  | PWR_FLD_STRETCH
  /-- R553, 16_power.md: PWR_FLD +0x078. -/
  | PWR_FLD_DROOP_THRESH
  /-- R553, 16_power.md: PWR_FLD +0x080. -/
  | PWR_FLD_TEMP
  /-- R553, 16_power.md: PWR_FLD +0x088. -/
  | PWR_FLD_ENERGY
  /-- R573, 17_hearth_save.md: HRT_SAVE +0x040. -/
  | HRT_SAG_CTL
  /-- R573, 17_hearth_save.md: HRT_SAVE +0x048. -/
  | HRT_VIN
  /-- R573, 17_hearth_save.md: HRT_SAVE +0x050. -/
  | HRT_HOLDUP
  /-- R573, 17_hearth_save.md: HRT_SAVE +0x058. -/
  | HRT_SHADOW_STAT
  /-- R573, 17_hearth_save.md: HRT_SAVE +0x060. -/
  | HRT_LEDGER_LAST
  /-- R573, 17_hearth_save.md: HRT_SAVE +0x068. -/
  | HRT_LEDGER_UNREAD
  /-- R573, 17_hearth_save.md: HRT_SAVE +0x070. -/
  | HRT_LEDGER_WIN
  /-- R573, 17_hearth_save.md: HRT_SAVE +0x078. -/
  | HRT_PWRFAIL_GLITCH
  /-- R573, 17_hearth_save.md: HRT_SAVE +0x800. -/
  | HRT_LEDGER_DATA
  /-- R604, 18_reeve.md: RVE +0x040. -/
  | RVE_LIFECYCLE
  /-- R604, 18_reeve.md: RVE +0x048. -/
  | RVE_IMAGES
  /-- R604, 18_reeve.md: RVE +0x050. -/
  | RVE_RNG_DATA
  /-- R604, 18_reeve.md: RVE +0x058. -/
  | RVE_RNG_STAT
  /-- R604, 18_reeve.md: RVE +0x060. -/
  | RVE_SCRUB
  /-- R604, 18_reeve.md: RVE +0x100. -/
  | RVE_FLDf_OWNER
  /-- R604, 18_reeve.md: RVE +0x400. -/
  | RVE_PARp_TAG
  /-- R604, 18_reeve.md: RVE +0x408. -/
  | RVE_PARp_BIND
  /-- R637, 19_recovery.md: WFR_RCV +0x040. -/
  | WFR_RCV_CTL
  /-- R637, 19_recovery.md: WFR_RCV +0x048. -/
  | WFR_RCV_STALL
  /-- R637, 19_recovery.md: WFR_RCV +0x050. -/
  | WFR_RCV_RESET
  /-- R637, 19_recovery.md: WFR_RCV +0x058. -/
  | WFR_RCV_CMD
  /-- R637, 19_recovery.md: WFR_RCV +0x060. -/
  | WFR_RCV_HANG
  /-- R637, 19_recovery.md: WFR_RCV +0x068. -/
  | WFR_RCV_HANG_SHEAF
  /-- R637, 19_recovery.md: WFR_RCV +0x070. -/
  | WFR_RCV_COUNTS
  /-- R637, 19_recovery.md: WFR_RCV +0x078. -/
  | WFR_RCV_EVENT
  /-- R637, 19_recovery.md: WFR_RCV +0x080. -/
  | WFR_RCV_ABORT
  /-- R637, 19_recovery.md: WFR_RCV +0x088. -/
  | WFR_RCV_WARM
  /-- R637, 19_recovery.md: WFR_RCV +0x100. -/
  | WFR_RCV_FRSTk
  /-- R660, 20_freeze_assay.md: ASY +0x040. -/
  | ASY_FRZ_CTL
  /-- R660, 20_freeze_assay.md: ASY +0x048. -/
  | ASY_FRZ_STAT
  /-- R660, 20_freeze_assay.md: ASY +0x050. -/
  | ASY_FRZ_FTIME
  /-- R660, 20_freeze_assay.md: ASY +0x058. -/
  | ASY_FRZ_UNREACHED_LO
  /-- R660, 20_freeze_assay.md: ASY +0x060. -/
  | ASY_FRZ_UNREACHED_HI
  /-- R660, 20_freeze_assay.md: ASY +0x068. -/
  | ASY_FRZ_IGNORED
  /-- R660, 20_freeze_assay.md: ASY +0x070. -/
  | ASY_WIN_CTL
  /-- R660, 20_freeze_assay.md: ASY +0x078. -/
  | ASY_WIN_ADDR
  /-- R660, 20_freeze_assay.md: ASY +0x080. -/
  | ASY_WIN_LEN
  /-- R660, 20_freeze_assay.md: ASY +0x800. -/
  | ASY_WIN_DATA
  /-- R660, 20_freeze_assay.md: ASY_FLD +0x040. -/
  | ASY_FLD_STAT
  /-- R660, 20_freeze_assay.md: ASY_FLD +0x048. -/
  | ASY_FLD_ARRIVE
  /-- R660, 20_freeze_assay.md: ASY_FLD +0x050. -/
  | ASY_FLD_STOP
  /-- R660, 20_freeze_assay.md: ASY_FLD +0x058. -/
  | ASY_FLD_MILL
  /-- R660, 20_freeze_assay.md: ASY_FLD +0x060. -/
  | ASY_FLD_CROF
  /-- R660, 20_freeze_assay.md: ASY_FLD +0x068. -/
  | ASY_FLD_STAMP
  /-- R682, 21_selftest.md: BIS +0x040. -/
  | BIS_CTL
  /-- R682, 21_selftest.md: BIS +0x048. -/
  | BIS_STAT
  /-- R682, 21_selftest.md: BIS +0x050. -/
  | BIS_RESULTt
  /-- R682, 21_selftest.md: BIS +0x070. -/
  | BIS_SEAM_FAILk
  /-- R682, 21_selftest.md: BIS +0x088. -/
  | BIS_SEAM_REPk
  /-- R682, 21_selftest.md: BIS +0x0a0. -/
  | BIS_BUMP_FAIL_LO
  /-- R682, 21_selftest.md: BIS +0x0a8. -/
  | BIS_BUMP_FAIL_HI
  /-- R682, 21_selftest.md: BIS +0x0b0. -/
  | BIS_LOOP_FAIL_LO
  /-- R682, 21_selftest.md: BIS +0x0b8. -/
  | BIS_LOOP_FAIL_HI
  /-- R682, 21_selftest.md: BIS +0x0c0. -/
  | BIS_LOOP_SKIP_LO
  /-- R682, 21_selftest.md: BIS +0x0c8. -/
  | BIS_LOOP_SKIP_HI
  /-- R682, 21_selftest.md: BIS +0x0d0. -/
  | BIS_PIN_FAIL
  /-- R682, 21_selftest.md: BIS +0x0e0. -/
  | BIS_LOG_HEAD
  /-- R682, 21_selftest.md: BIS +0x100. -/
  | BIS_LOGk
  /-- R734, 24_register_conventions.md: HDR +0x000. -/
  | HDR_ID
  /-- R734, 24_register_conventions.md: HDR +0x008. -/
  | HDR_CAP
  /-- R734, 24_register_conventions.md: HDR +0x010. -/
  | HDR_IRQ_STAT
  /-- R734, 24_register_conventions.md: HDR +0x018. -/
  | HDR_IRQ_EN
  /-- R734, 24_register_conventions.md: HDR +0x020. -/
  | HDR_ERR_TIME
  /-- R734, 24_register_conventions.md: HDR +0x028. -/
  | HDR_SCRATCH
  /-- R734, 24_register_conventions.md: HDR +0x030. -/
  | HDR_WRITE_ERR
  /-- R758, 24_register_conventions.md: FLD_IRQ +0x040. -/
  | FLD_IRQ_STAT
  /-- R758, 24_register_conventions.md: FLD_IRQ +0x048. -/
  | FLD_IRQ_MASK
  /-- R758, 24_register_conventions.md: FLD_IRQ +0x050. -/
  | FLD_IRQ_SUM
  /-- R758, 24_register_conventions.md: WFR_IRQ +0x040. -/
  | WFR_IRQ_CTL
  /-- R758, 24_register_conventions.md: WFR_IRQ +0x048. -/
  | WFR_IRQ_SUM
  /-- R758, 24_register_conventions.md: WFR_IRQ +0x050. -/
  | WFR_IRQ_FLD_LO
  /-- R758, 24_register_conventions.md: WFR_IRQ +0x058. -/
  | WFR_IRQ_FLD_HI
  /-- R758, 24_register_conventions.md: WFR_IRQ +0x060. -/
  | WFR_IRQ_FMASK_LO
  /-- R758, 24_register_conventions.md: WFR_IRQ +0x068. -/
  | WFR_IRQ_FMASK_HI
  /-- R758, 24_register_conventions.md: WFR_IRQ +0x080. -/
  | WFR_IRQ_PAGEk
  /-- R758, 24_register_conventions.md: WFR_IRQ +0x0c0. -/
  | WFR_IRQ_PMASKk
  /-- R758, 24_register_conventions.md: WFR_IRQ +0x100. -/
  | WFR_IRQ_SENT
  /-- R760, 25_management_pages.md: WFR_ID +0x040. -/
  | WFR_ID_PART
  /-- R760, 25_management_pages.md: WFR_ID +0x048. -/
  | WFR_ID_UNIT
  /-- R760, 25_management_pages.md: WFR_ID +0x050. -/
  | WFR_ID_ARRAY
  /-- R760, 25_management_pages.md: WFR_ID +0x058. -/
  | WFR_ID_MEM
  /-- R760, 25_management_pages.md: WFR_ID +0x060. -/
  | WFR_ID_LINKS
  /-- R760, 25_management_pages.md: WFR_ID +0x068. -/
  | WFR_ID_VERSIONS
  /-- R760, 25_management_pages.md: WFR_ID +0x070. -/
  | WFR_ID_CODECS
  /-- R760, 25_management_pages.md: WFR_ID +0x078. -/
  | WFR_ID_CLOCKS
  /-- R760, 25_management_pages.md: WFR_ID +0x080. -/
  | WFR_ID_SHIP
  /-- R761, 25_management_pages.md: WFR_FIELDS +0x040. -/
  | WFR_FLD_COUNT
  /-- R761, 25_management_pages.md: WFR_FIELDS +0x048. -/
  | WFR_FLD_INSVC_LO
  /-- R761, 25_management_pages.md: WFR_FIELDS +0x050. -/
  | WFR_FLD_INSVC_HI
  /-- R761, 25_management_pages.md: WFR_FIELDS +0x058. -/
  | WFR_FLD_HOLE_LO
  /-- R761, 25_management_pages.md: WFR_FIELDS +0x060. -/
  | WFR_FLD_HOLE_HI
  /-- R761, 25_management_pages.md: WFR_FIELDS +0x068. -/
  | WFR_SEAM_GEN
  /-- R761, 25_management_pages.md: WFR_FIELDS +0x070. -/
  | WFR_FLD_EVENT
  /-- R761, 25_management_pages.md: WFR_FIELDS +0x078. -/
  | WFR_FLD_EVT_HEAD
  /-- R761, 25_management_pages.md: WFR_FIELDS +0x080. -/
  | WFR_FLD_EVT_TAIL
  /-- R761, 25_management_pages.md: WFR_FIELDS +0x088. -/
  | WFR_FLD_EVT_LOST
  /-- R761, 25_management_pages.md: WFR_FIELDS +0x090. -/
  | WFR_FLD_CAPACITY
  /-- R761, 25_management_pages.md: WFR_FIELDS +0x100. -/
  | WFR_FLDf_STATUS
  /-- R761, 25_management_pages.md: WFR_FIELDS +0x400. -/
  | WFR_FLD_EVTk
  /-- R767, 25_management_pages.md: WFR_SPREAD +0x040. -/
  | WFR_SPREAD_CTL
  /-- R767, 25_management_pages.md: WFR_SPREAD +0x048. -/
  | WFR_SPREAD_SLOTS
  /-- R767, 25_management_pages.md: WFR_SPREAD +0x050. -/
  | WFR_SPREAD_BASE
  /-- R767, 25_management_pages.md: WFR_SPREAD +0x058. -/
  | WFR_SPREAD_SIZE
  /-- R767, 25_management_pages.md: WFR_SPREAD +0x060. -/
  | WFR_SPREAD_GEN
  /-- R767, 25_management_pages.md: WFR_SPREAD +0x068. -/
  | WFR_SPREAD_LOST_LO
  /-- R767, 25_management_pages.md: WFR_SPREAD +0x070. -/
  | WFR_SPREAD_LOST_HI
  /-- R767, 25_management_pages.md: WFR_SPREAD +0x080. -/
  | WFR_SPREAD_SLOTk
  /-- R771, 25_management_pages.md: RVE_MBX +0x040. -/
  | RVE_MBX_CMD
  /-- R771, 25_management_pages.md: RVE_MBX +0x048. -/
  | RVE_MBX_STAT
  /-- R771, 25_management_pages.md: RVE_MBX +0x050. -/
  | RVE_MBX_WIN
  /-- R771, 25_management_pages.md: RVE_MBX +0x058. -/
  | RVE_MBX_EVENT
  /-- R771, 25_management_pages.md: RVE_MBX +0x800. -/
  | RVE_MBX_DATA
  /-- R774, 25_management_pages.md: HRT_SYS +0x040. -/
  | HRT_SYS_ID
  /-- R774, 25_management_pages.md: HRT_SYS +0x048. -/
  | HRT_SYS_STATE
  /-- R774, 25_management_pages.md: HRT_SYS +0x050. -/
  | HRT_SYS_UPTIME
  /-- R774, 25_management_pages.md: HRT_SYS +0x058. -/
  | HRT_SMB_STAT
  /-- R774, 25_management_pages.md: HRT_SYS +0x060. -/
  | HRT_PSTORE_STAT
  /-- R775, 25_management_pages.md: CRI +0x040. -/
  | CRI_STAT
  /-- R775, 25_management_pages.md: CRI +0x048. -/
  | CRI_READS
  /-- R775, 25_management_pages.md: CRI +0x050. -/
  | CRI_CTL
  /-- R775, 25_management_pages.md: CRI +0x058. -/
  | CRI_ROLL
  /-- R775, 25_management_pages.md: CRI +0x060. -/
  | CRI_WIN
  /-- R775, 25_management_pages.md: CRI +0x800. -/
  | CRI_MIRROR
  /-- R709, 22_module_pins.md: GPIO +0x040. -/
  | GPIO_FUNC
  /-- R709, 22_module_pins.md: GPIO +0x048. -/
  | GPIO_DIR
  /-- R709, 22_module_pins.md: GPIO +0x050. -/
  | GPIO_OD
  /-- R709, 22_module_pins.md: GPIO +0x058. -/
  | GPIO_PULL_LO
  /-- R709, 22_module_pins.md: GPIO +0x060. -/
  | GPIO_PULL_HI
  /-- R709, 22_module_pins.md: GPIO +0x068. -/
  | GPIO_OUT
  /-- R709, 22_module_pins.md: GPIO +0x070. -/
  | GPIO_OUT_SET
  /-- R709, 22_module_pins.md: GPIO +0x078. -/
  | GPIO_OUT_CLR
  /-- R709, 22_module_pins.md: GPIO +0x080. -/
  | GPIO_IRQ_MODE_LO
  /-- R709, 22_module_pins.md: GPIO +0x088. -/
  | GPIO_IRQ_MODE_HI
  /-- R709, 22_module_pins.md: GPIO +0x090. -/
  | GPIO_IRQ_STAT
  /-- R709, 22_module_pins.md: GPIO +0x098. -/
  | GPIO_LOCK_KEY
  /-- R709, 22_module_pins.md: GPIO +0x0a0. -/
  | GPIO_LOCK_SET
  /-- R709, 22_module_pins.md: GPIO +0x0a8. -/
  | GPIO_PWMk
  /-- R709, 22_module_pins.md: GPIO +0x0c8. -/
  | GPIO_I2Cn
  /-- R709, 22_module_pins.md: GPIO +0x0d0. -/
  | GPIO_I2Cn_DATA
  /-- R709, 22_module_pins.md: GPIO +0x0e8. -/
  | GPIO_IN
  /-- R709, 22_module_pins.md: GPIO +0x0f0. -/
  | GPIO_LOCKED
  /-- R709, 22_module_pins.md: GPIO +0x0f8. -/
  | GPIO_TACHk
  /-- R709, 22_module_pins.md: GPIO +0x118. -/
  | GPIO_STAT
  /-- R770, 25_management_pages.md: WFR_BOOT +0x040. -/
  | WFR_BOOT_STATUS
  deriving DecidableEq, Repr

/-- One register: its name, the instance of its page (R745, R753) and its index within the row. -/
structure RKey where
  reg : Reg
  inst : Fin 65536
  idx : Fin 4096
  deriving DecidableEq, Repr

end Sys2Proof.Machine
end

