-- ==== Sys2Proof/Machine/RegTable.lean ====
section
/-! DEFINITION. The page tables of the spec: for every register its page, offset, strides, access
marks and reset value, and a name for every field.  Made from the register tables of the chapters. -/

namespace Sys2Proof.Machine

/-- The access marks of R736.  `rw1cBits` is a field of independent write-one-to-clear bits,
`rw1c` a single bit or a counter that any written 1 clears whole. -/
inductive Acc where
  | ro | rw | rw1c | rw1cBits | w1 | wo
  deriving DecidableEq, Repr

/-- Who may write (R736 marks, R753 writers). -/
inductive WriterMark where
  | any | pfOnly | reeveOnly
  deriving DecidableEq, Repr

/-- A field of a register: lowest bit, width, access. -/
structure FieldInfo where
  lo : Nat
  w : Nat
  acc : Acc
  deriving DecidableEq, Repr

/-- A row of a page table. -/
structure RegInfo where
  page : Option Page
  base : Nat
  dims : List (Nat × Nat)
  mark : WriterMark
  fields : List FieldInfo
  reset : BitVec 64
  deriving DecidableEq, Repr

/-- The writers abbreviated by the page directory, R753. -/
inductive PageWriters where
  | parish | pf | pfSideband | reeve | pfTap | pfSidebandTap | pfRings | pfFunction | nobody
  deriving DecidableEq, Repr

/-- The reset domains abbreviated by the page directory, R753. -/
inductive ResetDomain where
  | engine | field | warm | cold | hearth | flr | fused
  deriving DecidableEq, Repr

/-- A row of the page directory, R753, with the header's capability bits (R734). -/
structure PageInfo where
  code : Nat
  isField : Bool
  slot : Nat
  count : Nat
  writers : PageWriters
  domain : ResetDomain
  errReg : Option Reg
  eventReg : Option Reg
  alive : Bool
  spine : Bool
  vf : Bool
  deriving DecidableEq, Repr

/-- The page directory, R753 and R745. -/
def Page.info : Page → PageInfo
  | .FLD_SPINE => ⟨0x001, true, 0, 80, .parish, .field, none, (some .FLD_SEAM_EVENT), true, true, false⟩
  | .FLD_COMMONS => ⟨0x002, true, 1, 80, .parish, .field, (some .FLD_CMN_ERR_STATUS), none, false, false, false⟩
  | .FLD_IRQ => ⟨0x003, true, 2, 80, .pf, .field, none, none, false, true, false⟩
  | .CRF => ⟨0x004, true, 3, 80, .parish, .field, none, none, false, false, false⟩
  | .TLY => ⟨0x005, true, 4, 80, .parish, .field, (some .TLY_ERR_STATUS), none, false, false, false⟩
  | .CRN => ⟨0x006, true, 5, 80, .parish, .field, (some .CRN_ERR_STATUS), none, false, false, false⟩
  | .SCR => ⟨0x007, true, 6, 80, .parish, .engine, (some .SCR_ERR_STATUS), (some .SCR_EVENT), false, false, false⟩
  | .LOM => ⟨0x008, true, 7, 40, .parish, .engine, (some .LOM_ERR_STATUS), (some .LOM_EVENT), false, false, false⟩
  | .HBM => ⟨0x009, true, 8, 80, .pf, .hearth, (some .HBM_ERR_STATUS), none, false, true, false⟩
  | .PWR_FLD => ⟨0x00a, true, 9, 80, .pf, .cold, none, none, true, true, false⟩
  | .ASY_FLD => ⟨0x00b, true, 10, 80, .nobody, .cold, none, none, true, true, false⟩
  | .QRN => ⟨0x00c, true, 16, 720, .parish, .engine, (some .QRN_ERR_STATUS), (some .QRN_EVENT), false, false, false⟩
  | .SIV => ⟨0x00d, true, 25, 160, .parish, .engine, (some .SIV_ERR_STATUS), (some .SIV_EVENT), false, false, false⟩
  | .WFR_ID => ⟨0x040, false, 0, 1, .nobody, .fused, none, none, true, false, false⟩
  | .WFR_IRQ => ⟨0x041, false, 1, 1, .pf, .cold, none, none, false, false, false⟩
  | .WFR_FIELDS => ⟨0x042, false, 2, 1, .pf, .cold, none, (some .WFR_FLD_EVENT), false, false, false⟩
  | .WFR_SPREAD => ⟨0x043, false, 3, 1, .pf, .cold, none, none, false, false, false⟩
  | .WFR_SEAMCOST => ⟨0x044, false, 4, 7, .nobody, .cold, none, none, false, false, false⟩
  | .WFR_BOOT => ⟨0x045, false, 11, 1, .nobody, .cold, none, none, true, false, false⟩
  | .RVE_MBX => ⟨0x046, false, 12, 1, .pf, .cold, none, (some .RVE_MBX_EVENT), true, false, false⟩
  | .RVE => ⟨0x047, false, 13, 1, .reeve, .cold, none, none, true, false, false⟩
  | .HRT_SYS => ⟨0x048, false, 14, 1, .pfSideband, .hearth, none, none, true, false, false⟩
  | .HRT_SAVE => ⟨0x049, false, 15, 1, .pf, .hearth, none, none, true, false, false⟩
  | .CRI => ⟨0x04a, false, 16, 1, .pfSideband, .hearth, none, none, true, false, false⟩
  | .GPIO => ⟨0x04b, false, 17, 1, .pfSideband, .hearth, none, (some .GPIO_IRQ_STAT), true, false, false⟩
  | .PWR => ⟨0x04c, false, 18, 1, .pfSideband, .hearth, none, (some .PWR_EVENT), true, false, false⟩
  | .WFR_RCV => ⟨0x04d, false, 19, 1, .pf, .cold, none, (some .WFR_RCV_EVENT), false, false, false⟩
  | .WFR_MUSTER => ⟨0x04e, false, 20, 1, .pf, .warm, none, none, false, false, false⟩
  | .ASY => ⟨0x04f, false, 21, 1, .pfTap, .cold, none, none, true, false, false⟩
  | .BIS => ⟨0x050, false, 22, 1, .pfSidebandTap, .cold, none, none, false, false, false⟩
  | .FAB => ⟨0x051, false, 23, 1, .pf, .cold, none, (some .FAB_EVENT), false, false, false⟩
  | .VRN_PORTS => ⟨0x052, false, 24, 1, .pf, .cold, none, none, false, false, false⟩
  | .HST_PORT => ⟨0x053, false, 25, 1, .pf, .cold, none, (some .HST_PORT_EVENT), true, false, false⟩
  | .HBM_GRANARY => ⟨0x054, false, 26, 1, .pf, .cold, (some .HBM_GRAN_ERR), none, false, false, false⟩
  | .WFR_PARISH => ⟨0x055, false, 32, 32, .pfRings, .flr, none, none, false, false, true⟩
  | .WFR_SRO => ⟨0x056, false, 64, 32, .pf, .flr, none, none, false, false, true⟩
  | .HST_FN => ⟨0x057, false, 96, 33, .pfFunction, .flr, (some .HST_FN_WIN_ERR), none, true, false, true⟩
  | .VRN_LINK => ⟨0x058, false, 256, 72, .pf, .cold, none, none, false, false, false⟩

/-- Every page table row. `page = none` marks the common header of R734.
(Marks: DESIGN CHOICE, log 14; DEDUCED, log 16.) -/
def Reg.info : Reg → RegInfo
  | .FLD_SPINE_ID => ⟨some .FLD_SPINE, 0x040, [], .any, [⟨0, 7, .ro⟩, ⟨7, 4, .ro⟩, ⟨11, 3, .ro⟩, ⟨14, 1, .ro⟩, ⟨15, 2, .ro⟩], 0x0⟩
  | .FLD_CLK_STATUS => ⟨some .FLD_SPINE, 0x048, [], .any, [⟨0, 7, .ro⟩, ⟨7, 1, .ro⟩, ⟨8, 5, .ro⟩, ⟨13, 2, .ro⟩, ⟨16, 16, .ro⟩], 0x0⟩
  | .FLD_SEAMn_STATE => ⟨some .FLD_SPINE, 0x050, [(32, 4)], .any, [⟨0, 2, .ro⟩, ⟨2, 4, .ro⟩, ⟨6, 7, .ro⟩], 0x0⟩
  | .FLD_SEAMn_ECC => ⟨some .FLD_SPINE, 0x058, [(32, 4)], .any, [⟨0, 32, .rw1c⟩, ⟨32, 16, .rw1c⟩], 0x0⟩
  | .FLD_SEAMn_SAT => ⟨some .FLD_SPINE, 0x060, [(32, 4)], .any, [⟨0, 48, .rw1c⟩], 0x0⟩
  | .FLD_SEAMn_TRAFFIC => ⟨some .FLD_SPINE, 0x068, [(32, 4)], .any, [⟨0, 48, .ro⟩], 0x0⟩
  | .FLD_SEAM_SAT_THRESH => ⟨some .FLD_SPINE, 0x0d0, [], .any, [⟨0, 10, .rw⟩], 0x3cc⟩
  | .FLD_SEAM_EVENT => ⟨some .FLD_SPINE, 0x0d8, [], .any, [⟨0, 4, .rw1cBits⟩], 0x0⟩
  | .FLD_CMN_ERR_STATUS => ⟨some .FLD_COMMONS, 0x040, [], .any, [⟨0, 4, .rw1c⟩, ⟨4, 1, .rw1c⟩, ⟨5, 1, .rw1c⟩, ⟨6, 1, .rw1c⟩, ⟨7, 1, .rw1c⟩, ⟨8, 1, .rw1c⟩], 0x0⟩
  | .FLD_CMN_ERR_ADDR => ⟨some .FLD_COMMONS, 0x048, [], .any, [⟨0, 57, .ro⟩], 0x0⟩
  | .FLD_CMN_ERR_SOURCE => ⟨some .FLD_COMMONS, 0x050, [], .any, [⟨0, 4, .ro⟩, ⟨4, 7, .ro⟩, ⟨11, 5, .ro⟩, ⟨16, 1, .ro⟩, ⟨17, 7, .ro⟩], 0x0⟩
  | .FLD_CMN_LATE_RSP => ⟨some .FLD_COMMONS, 0x058, [], .any, [⟨0, 32, .rw1c⟩], 0x0⟩
  | .FLD_CMN_FRESH_READS => ⟨some .FLD_COMMONS, 0x060, [], .any, [⟨0, 48, .ro⟩], 0x0⟩
  | .FLD_CMN_FRESH_FILLS => ⟨some .FLD_COMMONS, 0x068, [], .any, [⟨0, 48, .ro⟩], 0x0⟩
  | .FLD_CMN_FRESH_FAULT => ⟨some .FLD_COMMONS, 0x070, [], .any, [⟨0, 13, .rw1c⟩, ⟨13, 1, .rw1c⟩, ⟨16, 16, .rw1c⟩], 0x0⟩
  | .FLD_CMN_DENIED => ⟨some .FLD_COMMONS, 0x078, [], .any, [⟨0, 32, .rw1c⟩], 0x0⟩
  | .WFR_SROw_BASE => ⟨some .WFR_SRO, 0x040, [(16, 16)], .any, [⟨0, 1, .rw⟩, ⟨16, 41, .rw⟩], 0x0⟩
  | .WFR_SROw_LIMIT => ⟨some .WFR_SRO, 0x048, [(16, 16)], .any, [⟨16, 41, .rw⟩], 0x0⟩
  | .WFR_SRO_GEN => ⟨some .WFR_SRO, 0x140, [], .any, [⟨0, 32, .ro⟩], 0x0⟩
  | .CRF_ID => ⟨some .CRF, 0x040, [], .any, [⟨0, 5, .ro⟩, ⟨5, 5, .ro⟩, ⟨10, 16, .ro⟩], 0x10⟩
  | .CRF_MON_STATUS => ⟨some .CRF, 0x048, [], .any, [⟨0, 1, .ro⟩, ⟨8, 8, .ro⟩], 0x0⟩
  | .CRF_STACK_BASE => ⟨some .CRF, 0x050, [], .any, [⟨12, 45, .rw⟩], 0x0⟩
  | .CRF_STACK_SLOT => ⟨some .CRF, 0x058, [], .any, [⟨12, 12, .rw⟩], 0x10000⟩
  | .CRF_SRO_INV => ⟨some .CRF, 0x060, [], .any, [⟨0, 1, .w1⟩, ⟨1, 1, .ro⟩], 0x0⟩
  | .CRF_INST_COUNT => ⟨some .CRF, 0x068, [], .any, [⟨0, 48, .ro⟩], 0x0⟩
  | .CRF_ISSUE_COUNT => ⟨some .CRF, 0x070, [], .any, [⟨0, 32, .ro⟩, ⟨32, 32, .ro⟩], 0x0⟩
  | .CRF_BELL_COUNT => ⟨some .CRF, 0x078, [], .any, [⟨0, 32, .ro⟩], 0x0⟩
  | .CRF_THREAD_STATEn => ⟨some .CRF, 0x080, [(8, 8)], .any, [⟨0, 64, .ro⟩], 0x0⟩
  | .CRF_FAULT_HEAD => ⟨some .CRF, 0x0c0, [], .any, [⟨0, 4, .ro⟩, ⟨4, 1, .rw1c⟩, ⟨5, 16, .rw1c⟩], 0x0⟩
  | .CRF_FAULTk => ⟨some .CRF, 0x100, [(32, 16), (8, 4)], .any, [⟨0, 64, .ro⟩], 0x0⟩
  | .TLY_ID => ⟨some .TLY, 0x040, [], .any, [⟨0, 13, .ro⟩, ⟨13, 14, .ro⟩, ⟨27, 12, .ro⟩], 0x4004001000⟩
  | .TLY_USE => ⟨some .TLY, 0x048, [], .any, [⟨0, 14, .ro⟩, ⟨14, 12, .ro⟩, ⟨26, 12, .ro⟩], 0x0⟩
  | .TLY_SIG_BASE => ⟨some .TLY, 0x050, [], .any, [⟨4, 53, .rw⟩], 0x0⟩
  | .TLY_SIG_CTL => ⟨some .TLY, 0x058, [], .any, [⟨0, 4, .rw⟩, ⟨4, 12, .rw⟩, ⟨31, 1, .rw⟩], 0x0⟩
  | .TLY_SIG_HEAD => ⟨some .TLY, 0x060, [], .any, [⟨0, 12, .ro⟩], 0x0⟩
  | .TLY_SIG_TAIL => ⟨some .TLY, 0x068, [], .any, [⟨0, 12, .rw⟩], 0x0⟩
  | .TLY_ERR_STATUS => ⟨some .TLY, 0x070, [], .any, [⟨0, 12, .rw1c⟩, ⟨12, 3, .rw1c⟩, ⟨15, 1, .rw1c⟩, ⟨16, 1, .rw1c⟩], 0x0⟩
  | .TLY_REFUSED => ⟨some .TLY, 0x078, [], .any, [⟨0, 32, .rw1c⟩], 0x0⟩
  | .TLY_DUP_COUNT => ⟨some .TLY, 0x080, [], .any, [⟨0, 32, .rw1c⟩], 0x0⟩
  | .TLY_OPS => ⟨some .TLY, 0x088, [], .any, [⟨0, 48, .ro⟩], 0x0⟩
  | .TLY_ABORTS => ⟨some .TLY, 0x090, [], .any, [⟨0, 32, .rw1c⟩], 0x0⟩
  | .WFR_PAR_CTL => ⟨some .WFR_PARISH, 0x040, [], .pfOnly, [⟨0, 1, .rw⟩, ⟨1, 1, .ro⟩, ⟨2, 1, .rw1c⟩, ⟨3, 1, .rw⟩, ⟨16, 16, .rw⟩], 0x7d00000⟩
  | .WFR_PAR_FIELDS_LO => ⟨some .WFR_PARISH, 0x048, [], .pfOnly, [⟨0, 64, .rw⟩], 0x0⟩
  | .WFR_PAR_FIELDS_HI => ⟨some .WFR_PARISH, 0x050, [], .pfOnly, [⟨0, 16, .rw⟩], 0x0⟩
  | .WFR_PAR_CANCEL => ⟨some .WFR_PARISH, 0x058, [], .any, [⟨0, 1, .w1⟩, ⟨1, 1, .ro⟩], 0x0⟩
  | .WFR_PAR_INFLIGHT => ⟨some .WFR_PARISH, 0x060, [], .any, [⟨0, 14, .ro⟩], 0x0⟩
  | .WFR_RINGr_SQ_BASE => ⟨some .WFR_PARISH, 0x100, [(48, 64)], .any, [⟨12, 52, .rw⟩], 0x0⟩
  | .WFR_RINGr_RQ_BASE => ⟨some .WFR_PARISH, 0x108, [(48, 64)], .any, [⟨12, 52, .rw⟩], 0x0⟩
  | .WFR_RINGr_CTL => ⟨some .WFR_PARISH, 0x110, [(48, 64)], .any, [⟨0, 1, .rw⟩, ⟨1, 1, .rw⟩, ⟨2, 4, .rw⟩, ⟨6, 4, .rw⟩, ⟨10, 1, .rw⟩, ⟨16, 11, .rw⟩], 0x40⟩
  | .WFR_RINGr_SQ_PTR => ⟨some .WFR_PARISH, 0x118, [(48, 64)], .any, [⟨0, 16, .ro⟩, ⟨16, 16, .ro⟩], 0x0⟩
  | .WFR_RINGr_RQ_PTR => ⟨some .WFR_PARISH, 0x120, [(48, 64)], .any, [⟨0, 16, .ro⟩, ⟨16, 16, .rw⟩, ⟨32, 1, .ro⟩], 0x100000000⟩
  | .WFR_RINGr_STAT => ⟨some .WFR_PARISH, 0x128, [(48, 64)], .any, [⟨0, 1, .rw1c⟩, ⟨1, 1, .rw1c⟩, ⟨2, 4, .rw1c⟩], 0x0⟩
  | .WFR_MUSm_CTL => ⟨some .WFR_MUSTER, 0x040, [(32, 64)], .any, [⟨0, 16, .rw⟩, ⟨16, 1, .rw⟩, ⟨17, 5, .rw⟩, ⟨22, 1, .rw⟩, ⟨23, 3, .ro⟩, ⟨26, 12, .rw⟩, ⟨48, 16, .ro⟩], 0x0⟩
  | .WFR_MUSm_LIST => ⟨some .WFR_MUSTER, 0x048, [(32, 64)], .any, [⟨4, 53, .rw⟩], 0x0⟩
  | .WFR_MUSm_RX => ⟨some .WFR_MUSTER, 0x050, [(32, 64)], .any, [⟨12, 45, .rw⟩, ⟨60, 4, .rw⟩], 0x0⟩
  | .WFR_MUSm_RXT => ⟨some .WFR_MUSTER, 0x058, [(32, 64)], .any, [⟨0, 7, .rw⟩, ⟨7, 12, .rw⟩], 0x0⟩
  | .QRN_ID => ⟨some .QRN, 0x040, [], .any, [⟨0, 4, .ro⟩, ⟨4, 4, .ro⟩, ⟨8, 1, .ro⟩, ⟨9, 1, .ro⟩, ⟨10, 1, .ro⟩, ⟨11, 1, .ro⟩], 0x0⟩
  | .QRN_QUEUE => ⟨some .QRN, 0x048, [], .any, [⟨0, 6, .ro⟩, ⟨6, 16, .ro⟩, ⟨22, 1, .ro⟩], 0x0⟩
  | .QRN_TASKS => ⟨some .QRN, 0x050, [], .any, [⟨0, 32, .ro⟩, ⟨32, 32, .ro⟩], 0x0⟩
  | .QRN_BUSY_CYCLES => ⟨some .QRN, 0x058, [], .any, [⟨0, 48, .ro⟩], 0x0⟩
  | .QRN_MODE_SWITCHES => ⟨some .QRN, 0x060, [], .any, [⟨0, 32, .ro⟩], 0x0⟩
  | .QRN_ROW_STALL => ⟨some .QRN, 0x068, [], .any, [⟨0, 48, .ro⟩], 0x0⟩
  | .QRN_COL_STALL => ⟨some .QRN, 0x070, [], .any, [⟨0, 48, .ro⟩], 0x0⟩
  | .QRN_HOLD_COUNT => ⟨some .QRN, 0x078, [], .any, [⟨0, 32, .rw1c⟩], 0x0⟩
  | .QRN_HOLD_CYCLES => ⟨some .QRN, 0x080, [], .any, [⟨0, 48, .rw1c⟩], 0x0⟩
  | .QRN_HOLD_LAST => ⟨some .QRN, 0x088, [], .any, [⟨0, 1, .ro⟩, ⟨1, 8, .ro⟩, ⟨16, 24, .ro⟩], 0x0⟩
  | .QRN_HOLD_THRESH => ⟨some .QRN, 0x090, [], .any, [⟨0, 18, .rw⟩], 0x3a98⟩
  | .QRN_EVENT => ⟨some .QRN, 0x098, [], .any, [⟨0, 1, .rw1c⟩, ⟨1, 1, .rw1c⟩, ⟨2, 1, .rw1c⟩], 0x0⟩
  | .QRN_NONFINITE => ⟨some .QRN, 0x0a0, [], .any, [⟨0, 32, .rw1c⟩], 0x0⟩
  | .QRN_SAT => ⟨some .QRN, 0x0a8, [], .any, [⟨0, 32, .rw1c⟩], 0x0⟩
  | .QRN_ERR_STATUS => ⟨some .QRN, 0x0b0, [], .any, [⟨0, 8, .rw1c⟩, ⟨8, 16, .rw1c⟩, ⟨24, 1, .rw1c⟩, ⟨25, 1, .rw1c⟩], 0x0⟩
  | .QRN_GATED_CYCLES => ⟨some .QRN, 0x0b8, [], .any, [⟨0, 48, .ro⟩], 0x0⟩
  | .QRN_RESETS => ⟨some .QRN, 0x0c0, [], .any, [⟨0, 8, .ro⟩], 0x0⟩
  | .SIV_ID => ⟨some .SIV, 0x040, [], .any, [⟨0, 1, .ro⟩, ⟨1, 1, .ro⟩, ⟨2, 4, .ro⟩], 0x20⟩
  | .SIV_QUEUE => ⟨some .SIV, 0x048, [], .any, [⟨0, 6, .ro⟩, ⟨6, 16, .ro⟩, ⟨22, 4, .ro⟩], 0x0⟩
  | .SIV_WINDOWS => ⟨some .SIV, 0x050, [], .any, [⟨0, 64, .ro⟩], 0x0⟩
  | .SIV_TASKS => ⟨some .SIV, 0x058, [], .any, [⟨0, 32, .ro⟩, ⟨32, 32, .ro⟩], 0x0⟩
  | .SIV_ISSUE_CYCLES => ⟨some .SIV, 0x060, [], .any, [⟨0, 48, .ro⟩], 0x0⟩
  | .SIV_EMPTY_CYCLES => ⟨some .SIV, 0x068, [], .any, [⟨0, 48, .ro⟩], 0x0⟩
  | .SIV_RD_BYTES => ⟨some .SIV, 0x070, [], .any, [⟨0, 48, .ro⟩], 0x0⟩
  | .SIV_WR_BYTES => ⟨some .SIV, 0x078, [], .any, [⟨0, 48, .ro⟩], 0x0⟩
  | .SIV_TABLE_STATE => ⟨some .SIV, 0x080, [], .any, [⟨0, 32, .ro⟩], 0x0⟩
  | .SIV_SAT => ⟨some .SIV, 0x088, [], .any, [⟨0, 32, .rw1c⟩], 0x0⟩
  | .SIV_ERR_STATUS => ⟨some .SIV, 0x090, [], .any, [⟨0, 8, .rw1c⟩, ⟨8, 16, .rw1c⟩, ⟨24, 1, .rw1c⟩, ⟨25, 1, .rw1c⟩], 0x0⟩
  | .SIV_EVENT => ⟨some .SIV, 0x098, [], .any, [⟨0, 1, .rw1c⟩, ⟨1, 1, .rw1c⟩], 0x0⟩
  | .SIV_GATED_CYCLES => ⟨some .SIV, 0x0a0, [], .any, [⟨0, 48, .ro⟩], 0x0⟩
  | .SIV_RESETS => ⟨some .SIV, 0x0a8, [], .any, [⟨0, 8, .ro⟩], 0x0⟩
  | .CRN_CTL => ⟨some .CRN, 0x040, [], .any, [⟨0, 1, .rw⟩, ⟨1, 1, .rw1c⟩, ⟨2, 1, .ro⟩], 0x0⟩
  | .CRN_GEOM => ⟨some .CRN, 0x048, [], .any, [⟨0, 8, .rw⟩, ⟨8, 4, .rw⟩, ⟨12, 3, .rw⟩, ⟨15, 6, .rw⟩, ⟨32, 16, .rw⟩], 0x400000000000⟩
  | .CRN_POOL_BASE => ⟨some .CRN, 0x050, [], .any, [⟨16, 19, .rw⟩], 0x0⟩
  | .CRN_POOL_SLOTS => ⟨some .CRN, 0x058, [], .any, [⟨0, 21, .rw⟩], 0x0⟩
  | .CRN_PT_BASE => ⟨some .CRN, 0x060, [], .any, [⟨16, 19, .rw⟩], 0x0⟩
  | .CRN_PT_BLOCKS => ⟨some .CRN, 0x068, [], .any, [⟨0, 21, .rw⟩], 0x0⟩
  | .CRN_GRAN_BASE => ⟨some .CRN, 0x070, [], .any, [⟨0, 32, .rw⟩], 0x0⟩
  | .CRN_GRAN_PAIRS => ⟨some .CRN, 0x078, [], .any, [⟨0, 32, .rw⟩], 0x0⟩
  | .CRN_FREE => ⟨some .CRN, 0x080, [], .any, [⟨0, 21, .ro⟩, ⟨21, 21, .ro⟩], 0x0⟩
  | .CRN_SEQS => ⟨some .CRN, 0x088, [], .any, [⟨0, 11, .ro⟩, ⟨11, 11, .ro⟩], 0x0⟩
  | .CRN_ADMIT => ⟨some .CRN, 0x090, [], .any, [⟨0, 32, .ro⟩, ⟨32, 32, .ro⟩], 0x0⟩
  | .CRN_CLAMPS => ⟨some .CRN, 0x098, [], .any, [⟨0, 32, .rw1c⟩, ⟨32, 32, .rw1c⟩], 0x0⟩
  | .CRN_RECLAIM => ⟨some .CRN, 0x0a0, [], .any, [⟨0, 4, .rw⟩, ⟨4, 7, .rw⟩, ⟨11, 1, .w1⟩, ⟨12, 1, .ro⟩], 0x0⟩
  | .CRN_ORPHAN_FREED => ⟨some .CRN, 0x0a8, [], .any, [⟨0, 32, .rw1c⟩], 0x0⟩
  | .CRN_ERR_STATUS => ⟨some .CRN, 0x0b0, [], .any, [⟨0, 8, .rw1c⟩, ⟨8, 16, .rw1c⟩, ⟨24, 1, .rw1c⟩, ⟨25, 1, .rw1c⟩], 0x0⟩
  | .CRN_RESETS => ⟨some .CRN, 0x0b8, [], .any, [⟨0, 8, .ro⟩], 0x0⟩
  | .SCR_ID => ⟨some .SCR, 0x040, [], .any, [⟨0, 1, .ro⟩, ⟨1, 5, .ro⟩], 0x2a⟩
  | .SCR_QUEUE => ⟨some .SCR, 0x048, [], .any, [⟨0, 6, .ro⟩, ⟨6, 16, .ro⟩, ⟨22, 1, .ro⟩], 0x0⟩
  | .SCR_TASKS => ⟨some .SCR, 0x050, [], .any, [⟨0, 32, .ro⟩, ⟨32, 32, .ro⟩], 0x0⟩
  | .SCR_BUSY_CYCLES => ⟨some .SCR, 0x058, [], .any, [⟨0, 48, .ro⟩], 0x0⟩
  | .SCR_POINTS => ⟨some .SCR, 0x060, [], .any, [⟨0, 48, .ro⟩], 0x0⟩
  | .SCR_CULLED => ⟨some .SCR, 0x068, [], .any, [⟨0, 32, .rw1c⟩], 0x0⟩
  | .SCR_PAIRS => ⟨some .SCR, 0x070, [], .any, [⟨0, 48, .ro⟩], 0x0⟩
  | .SCR_TAG => ⟨some .SCR, 0x078, [], .any, [⟨0, 25, .ro⟩], 0x0⟩
  | .SCR_ERR_STATUS => ⟨some .SCR, 0x080, [], .any, [⟨0, 8, .rw1c⟩, ⟨8, 16, .rw1c⟩, ⟨24, 1, .rw1c⟩, ⟨25, 1, .rw1c⟩], 0x0⟩
  | .SCR_EVENT => ⟨some .SCR, 0x088, [], .any, [⟨0, 1, .rw1c⟩, ⟨1, 1, .rw1c⟩], 0x0⟩
  | .SCR_GATED_CYCLES => ⟨some .SCR, 0x090, [], .any, [⟨0, 48, .ro⟩], 0x0⟩
  | .SCR_RESETS => ⟨some .SCR, 0x098, [], .any, [⟨0, 8, .ro⟩], 0x0⟩
  | .LOM_ID => ⟨some .LOM, 0x040, [], .any, [⟨0, 1, .ro⟩, ⟨1, 1, .ro⟩, ⟨2, 1, .ro⟩], 0x0⟩
  | .LOM_QUEUE => ⟨some .LOM, 0x048, [], .any, [⟨0, 6, .ro⟩, ⟨6, 16, .ro⟩], 0x0⟩
  | .LOM_JOBS => ⟨some .LOM, 0x050, [], .any, [⟨0, 32, .ro⟩, ⟨32, 32, .ro⟩], 0x0⟩
  | .LOM_DEC_PIXELS => ⟨some .LOM, 0x058, [], .any, [⟨0, 48, .ro⟩], 0x0⟩
  | .LOM_ENC_PIXELS => ⟨some .LOM, 0x060, [], .any, [⟨0, 48, .ro⟩], 0x0⟩
  | .LOM_CONCEALED => ⟨some .LOM, 0x068, [], .any, [⟨0, 32, .rw1c⟩, ⟨32, 32, .rw1c⟩], 0x0⟩
  | .LOM_BUDGET_HITS => ⟨some .LOM, 0x070, [], .any, [⟨0, 32, .rw1c⟩], 0x0⟩
  | .LOM_REJECTS => ⟨some .LOM, 0x078, [], .any, [⟨0, 32, .rw1c⟩], 0x0⟩
  | .LOM_ENC_SKIPS => ⟨some .LOM, 0x080, [], .any, [⟨0, 32, .rw1c⟩], 0x0⟩
  | .LOM_BS_BYTES => ⟨some .LOM, 0x088, [], .any, [⟨0, 48, .ro⟩], 0x0⟩
  | .LOM_ERR_STATUS => ⟨some .LOM, 0x090, [], .any, [⟨0, 8, .rw1c⟩, ⟨8, 16, .rw1c⟩, ⟨24, 1, .rw1c⟩, ⟨25, 1, .rw1c⟩], 0x0⟩
  | .LOM_EVENT => ⟨some .LOM, 0x098, [], .any, [⟨0, 1, .rw1c⟩, ⟨1, 1, .rw1c⟩, ⟨2, 1, .rw1c⟩], 0x0⟩
  | .LOM_GATED_CYCLES => ⟨some .LOM, 0x0a0, [], .any, [⟨0, 48, .ro⟩], 0x0⟩
  | .LOM_RESETS => ⟨some .LOM, 0x0a8, [], .any, [⟨0, 8, .ro⟩], 0x0⟩
  | .HBM_ID => ⟨some .HBM, 0x040, [], .any, [⟨0, 3, .ro⟩, ⟨4, 4, .ro⟩, ⟨8, 8, .ro⟩], 0xc0⟩
  | .HBM_TRAIN => ⟨some .HBM, 0x048, [], .any, [⟨0, 24, .ro⟩, ⟨24, 1, .ro⟩], 0x0⟩
  | .HBM_ODECC => ⟨some .HBM, 0x050, [], .any, [⟨0, 32, .rw1c⟩], 0x0⟩
  | .HBM_CE_COUNT => ⟨some .HBM, 0x058, [], .any, [⟨0, 32, .rw1c⟩], 0x0⟩
  | .HBM_UE_COUNT => ⟨some .HBM, 0x060, [], .any, [⟨0, 32, .rw1c⟩], 0x0⟩
  | .HBM_UE_LIMIT => ⟨some .HBM, 0x068, [], .any, [⟨0, 16, .rw⟩], 0x100⟩
  | .HBM_ERR_STATUS => ⟨some .HBM, 0x070, [], .any, [⟨0, 2, .rw1c⟩, ⟨2, 5, .rw1c⟩, ⟨7, 9, .rw1c⟩, ⟨16, 1, .rw1c⟩, ⟨17, 1, .rw1c⟩], 0x0⟩
  | .HBM_ERR_ADDR => ⟨some .HBM, 0x078, [], .any, [⟨0, 35, .ro⟩], 0x0⟩
  | .HBM_LOSS => ⟨some .HBM, 0x080, [], .any, [⟨0, 3, .ro⟩, ⟨3, 5, .ro⟩, ⟨8, 8, .ro⟩], 0x0⟩
  | .HBM_PATROL => ⟨some .HBM, 0x088, [], .any, [⟨0, 32, .ro⟩, ⟨32, 19, .ro⟩], 0x0⟩
  | .HBM_TEMP => ⟨some .HBM, 0x090, [], .any, [⟨0, 8, .ro⟩, ⟨8, 1, .ro⟩], 0x0⟩
  | .HBM_RD_BYTES => ⟨some .HBM, 0x098, [], .any, [⟨0, 48, .ro⟩], 0x0⟩
  | .HBM_WR_BYTES => ⟨some .HBM, 0x0a0, [], .any, [⟨0, 48, .ro⟩], 0x0⟩
  | .HBM_SCRUB_CTL => ⟨some .HBM, 0x0a8, [], .reeveOnly, [⟨0, 1, .rw⟩, ⟨1, 1, .w1⟩, ⟨2, 1, .ro⟩, ⟨3, 1, .rw1c⟩, ⟨16, 16, .ro⟩], 0x0⟩
  | .HBM_SCRUB_START => ⟨some .HBM, 0x0b0, [], .reeveOnly, [⟨0, 19, .rw⟩], 0x0⟩
  | .HBM_SCRUB_COUNT => ⟨some .HBM, 0x0b8, [], .reeveOnly, [⟨0, 20, .rw⟩], 0x0⟩
  | .HBM_GRAN_CTL => ⟨some .HBM_GRANARY, 0x040, [], .any, [⟨0, 2, .rw⟩, ⟨2, 1, .rw⟩, ⟨3, 1, .ro⟩, ⟨4, 1, .ro⟩], 0x0⟩
  | .HBM_GRAN_ORIGIN => ⟨some .HBM_GRANARY, 0x048, [], .any, [⟨0, 64, .rw⟩], 0x0⟩
  | .HBM_GRAN_PAIR => ⟨some .HBM_GRANARY, 0x050, [], .any, [⟨0, 9, .rw⟩], 0x0⟩
  | .HBM_GRAN_PAIRS => ⟨some .HBM_GRANARY, 0x058, [], .any, [⟨0, 32, .rw⟩], 0x0⟩
  | .HBM_GRAN_NSID => ⟨some .HBM_GRANARY, 0x060, [], .any, [⟨0, 32, .rw⟩], 0x0⟩
  | .HBM_GRAN_MOVED => ⟨some .HBM_GRANARY, 0x068, [], .any, [⟨0, 32, .ro⟩, ⟨32, 32, .ro⟩], 0x0⟩
  | .HBM_GRAN_ERR => ⟨some .HBM_GRANARY, 0x070, [], .any, [⟨0, 4, .rw1c⟩, ⟨4, 32, .rw1c⟩, ⟨36, 1, .rw1c⟩, ⟨37, 1, .rw1c⟩], 0x0⟩
  | .VRN_LNK_ID => ⟨some .VRN_LINK, 0x040, [], .any, [⟨0, 7, .ro⟩, ⟨7, 4, .ro⟩, ⟨11, 2, .ro⟩], 0x0⟩
  | .VRN_LNK_CTL => ⟨some .VRN_LINK, 0x048, [], .any, [⟨0, 2, .rw⟩, ⟨2, 2, .rw⟩], 0x0⟩
  | .VRN_LNK_STATE => ⟨some .VRN_LINK, 0x050, [], .any, [⟨0, 4, .ro⟩, ⟨4, 4, .ro⟩, ⟨8, 1, .rw1c⟩, ⟨16, 16, .ro⟩], 0x0⟩
  | .VRN_LNK_TX => ⟨some .VRN_LINK, 0x058, [], .any, [⟨0, 6, .rw⟩, ⟨6, 6, .rw⟩, ⟨12, 6, .rw⟩, ⟨31, 1, .ro⟩], 0x20⟩
  | .VRN_LNK_NBR => ⟨some .VRN_LINK, 0x060, [], .any, [⟨0, 64, .ro⟩], 0x0⟩
  | .VRN_LNK_NBR_PORT => ⟨some .VRN_LINK, 0x068, [], .any, [⟨0, 8, .ro⟩, ⟨8, 8, .ro⟩, ⟨16, 8, .ro⟩, ⟨24, 1, .ro⟩], 0x0⟩
  | .VRN_LNK_RTT => ⟨some .VRN_LINK, 0x070, [], .any, [⟨0, 16, .ro⟩], 0x0⟩
  | .VRN_LNK_REPLAY => ⟨some .VRN_LINK, 0x078, [], .any, [⟨0, 32, .rw1c⟩, ⟨32, 32, .rw1c⟩], 0x0⟩
  | .VRN_LNK_CRC => ⟨some .VRN_LINK, 0x080, [], .any, [⟨0, 32, .rw1c⟩, ⟨32, 32, .rw1c⟩], 0x0⟩
  | .VRN_LNK_DUP => ⟨some .VRN_LINK, 0x088, [], .any, [⟨0, 32, .rw1c⟩], 0x0⟩
  | .VRN_LNK_PROTO => ⟨some .VRN_LINK, 0x090, [], .any, [⟨0, 32, .rw1c⟩], 0x0⟩
  | .VRN_LNK_FEC_CORR => ⟨some .VRN_LINK, 0x098, [], .any, [⟨0, 48, .ro⟩], 0x0⟩
  | .VRN_LNK_FEC_UNC => ⟨some .VRN_LINK, 0x0a0, [], .any, [⟨0, 32, .rw1c⟩], 0x0⟩
  | .VRN_LNK_UCW_LIMIT => ⟨some .VRN_LINK, 0x0a8, [], .any, [⟨0, 16, .rw⟩], 0x10⟩
  | .VRN_LNK_FLITS => ⟨some .VRN_LINK, 0x0b0, [], .any, [⟨0, 48, .ro⟩], 0x0⟩
  | .VRN_PRBS_CTL => ⟨some .VRN_LINK, 0x0b8, [], .any, [⟨0, 3, .rw⟩, ⟨3, 1, .rw⟩, ⟨4, 1, .rw⟩, ⟨5, 1, .rw⟩, ⟨6, 1, .ro⟩, ⟨7, 1, .w1⟩], 0x0⟩
  | .VRN_PRBS_ERR => ⟨some .VRN_LINK, 0x0c0, [], .any, [⟨0, 48, .ro⟩], 0x0⟩
  | .VRN_PRBS_BITS => ⟨some .VRN_LINK, 0x0c8, [], .any, [⟨0, 48, .ro⟩], 0x0⟩
  | .VRN_PRBS_BER => ⟨some .VRN_LINK, 0x0d0, [], .any, [⟨0, 32, .ro⟩], 0x0⟩
  | .VRN_E2E_DUP => ⟨some .VRN_PORTS, 0x040, [], .any, [⟨0, 32, .rw1c⟩], 0x0⟩
  | .VRN_E2E_STALE => ⟨some .VRN_PORTS, 0x048, [], .any, [⟨0, 32, .rw1c⟩], 0x0⟩
  | .VRN_E2E_WAIT => ⟨some .VRN_PORTS, 0x050, [], .any, [⟨0, 48, .ro⟩], 0x0⟩
  | .VRN_PORTp_CTL => ⟨some .VRN_PORTS, 0x100, [(16, 52)], .any, [⟨0, 56, .rw⟩, ⟨56, 1, .rw⟩, ⟨57, 1, .rw1c⟩], 0x0⟩
  | .VRN_PORTp_STATE => ⟨some .VRN_PORTS, 0x108, [(16, 52)], .any, [⟨0, 5, .ro⟩, ⟨5, 1, .ro⟩, ⟨16, 16, .ro⟩], 0x0⟩
  | .FAB_UNIT => ⟨some .FAB, 0x040, [], .any, [⟨0, 64, .ro⟩], 0x0⟩
  | .FAB_NUM => ⟨some .FAB, 0x048, [], .any, [⟨0, 4, .ro⟩, ⟨4, 1, .ro⟩, ⟨5, 7, .ro⟩, ⟨12, 1, .ro⟩, ⟨16, 16, .ro⟩, ⟨32, 8, .ro⟩], 0x1000000000⟩
  | .FAB_CTL => ⟨some .FAB, 0x050, [], .any, [⟨0, 2, .rw⟩, ⟨2, 1, .rw⟩, ⟨8, 8, .rw⟩, ⟨16, 16, .rw⟩], 0x13880a05⟩
  | .FAB_STATE => ⟨some .FAB, 0x058, [], .any, [⟨0, 2, .ro⟩], 0x0⟩
  | .FAB_MEMBERS => ⟨some .FAB, 0x060, [], .any, [⟨0, 16, .ro⟩, ⟨16, 16, .ro⟩, ⟨32, 16, .ro⟩], 0x0⟩
  | .FAB_MAP_GEN => ⟨some .FAB, 0x068, [], .any, [⟨0, 32, .ro⟩], 0x0⟩
  | .FAB_FM => ⟨some .FAB, 0x070, [(8, 2)], .any, [⟨0, 64, .ro⟩], 0x0⟩
  | .FAB_TIME_CTL => ⟨some .FAB, 0x080, [], .any, [⟨0, 4, .ro⟩, ⟨4, 1, .ro⟩, ⟨5, 1, .rw⟩, ⟨6, 1, .rw⟩, ⟨7, 1, .ro⟩, ⟨8, 3, .ro⟩], 0x40⟩
  | .FAB_TIME_OFFSET => ⟨some .FAB, 0x088, [], .any, [⟨0, 32, .ro⟩], 0x0⟩
  | .FAB_TIME_SET => ⟨some .FAB, 0x090, [], .any, [⟨0, 64, .rw⟩], 0x0⟩
  | .FAB_NUMCFG => ⟨some .FAB, 0x098, [], .any, [⟨0, 8, .ro⟩, ⟨8, 8, .ro⟩], 0x101⟩
  | .FAB_STALE_EPOCH => ⟨some .FAB, 0x0a0, [], .any, [⟨0, 32, .rw1c⟩], 0x0⟩
  | .FAB_HELD => ⟨some .FAB, 0x0a8, [], .any, [⟨0, 56, .ro⟩], 0x0⟩
  | .FAB_QUAR => ⟨some .FAB, 0x0b0, [], .any, [⟨0, 56, .ro⟩], 0x0⟩
  | .FAB_REISSUE => ⟨some .FAB, 0x0b8, [], .any, [⟨0, 32, .rw1c⟩, ⟨32, 32, .rw1c⟩], 0x0⟩
  | .FAB_NO_FAR => ⟨some .FAB, 0x0c0, [], .any, [⟨0, 32, .rw1c⟩], 0x0⟩
  | .FAB_EVENT => ⟨some .FAB, 0x0c8, [], .any, [⟨0, 1, .rw1c⟩, ⟨1, 1, .rw1c⟩, ⟨2, 1, .rw1c⟩, ⟨3, 1, .rw1c⟩, ⟨4, 1, .rw1c⟩], 0x0⟩
  | .FAB_EPOCHn => ⟨some .FAB, 0x100, [(8, 16)], .any, [⟨0, 16, .ro⟩, ⟨16, 1, .ro⟩], 0x0⟩
  | .FAB_REACHp => ⟨some .FAB, 0x180, [(8, 52)], .any, [⟨0, 16, .ro⟩], 0x0⟩
  | .FAB_MAPp => ⟨some .FAB, 0x320, [(16, 52), (8, 2)], .any, [⟨0, 64, .rw⟩], 0x0⟩
  | .FAB_FARr => ⟨some .FAB, 0x660, [(8, 128)], .any, [⟨0, 8, .rw⟩], 0xff⟩
  | .FAB_DISC_CTL => ⟨some .FAB, 0xa60, [], .any, [⟨0, 1, .w1⟩, ⟨1, 1, .ro⟩, ⟨2, 1, .rw1c⟩], 0x0⟩
  | .FAB_DISC_TX => ⟨some .FAB, 0xb00, [(8, 32)], .any, [⟨0, 64, .rw⟩], 0x0⟩
  | .FAB_DISC_RX => ⟨some .FAB, 0xc00, [(8, 32)], .any, [⟨0, 64, .ro⟩], 0x0⟩
  | .HST_FN_WIN_BASE => ⟨some .HST_FN, 0x040, [], .any, [⟨16, 41, .rw⟩], 0x0⟩
  | .HST_FN_WIN_ERR => ⟨some .HST_FN, 0x048, [], .any, [⟨0, 4, .rw1c⟩, ⟨4, 1, .rw1c⟩, ⟨5, 1, .rw1c⟩, ⟨6, 1, .rw1c⟩, ⟨7, 1, .rw1c⟩, ⟨8, 1, .rw1c⟩, ⟨28, 36, .rw1c⟩], 0x0⟩
  | .HST_FN_CTL => ⟨some .HST_FN, 0x050, [], .any, [⟨0, 6, .rw⟩], 0x0⟩
  | .HST_FN_PASID => ⟨some .HST_FN, 0x058, [], .pfOnly, [⟨0, 20, .rw⟩, ⟨31, 1, .rw⟩], 0x0⟩
  | .HST_FN_DMAq_BASE => ⟨some .HST_FN, 0x060, [(24, 2)], .any, [⟨12, 52, .rw⟩], 0x0⟩
  | .HST_FN_DMAq_CTL => ⟨some .HST_FN, 0x068, [(24, 2)], .any, [⟨0, 1, .rw⟩, ⟨1, 1, .rw1c⟩, ⟨2, 4, .rw⟩, ⟨6, 6, .rw⟩, ⟨16, 12, .ro⟩], 0x0⟩
  | .HST_FN_DMAq_BYTES => ⟨some .HST_FN, 0x070, [(24, 2)], .any, [⟨0, 48, .ro⟩], 0x0⟩
  | .HST_PORT_H0 => ⟨some .HST_PORT, 0x040, [], .any, [⟨0, 4, .ro⟩, ⟨4, 3, .ro⟩, ⟨7, 1, .ro⟩, ⟨8, 1, .ro⟩, ⟨16, 16, .ro⟩], 0x0⟩
  | .HST_PORT_CTL => ⟨some .HST_PORT, 0x048, [], .any, [⟨0, 8, .rw⟩], 0x32⟩
  | .HST_PORT_MSIX_DROP => ⟨some .HST_PORT, 0x050, [], .any, [⟨0, 32, .rw1c⟩], 0x0⟩
  | .HST_PORT_TAGS => ⟨some .HST_PORT, 0x058, [], .any, [⟨0, 10, .ro⟩, ⟨10, 10, .ro⟩], 0x0⟩
  | .HST_S0_STATE => ⟨some .HST_PORT, 0x060, [], .any, [⟨0, 3, .ro⟩, ⟨4, 4, .ro⟩, ⟨8, 4, .ro⟩, ⟨12, 3, .ro⟩, ⟨15, 1, .ro⟩], 0x0⟩
  | .HST_PORT_EVENT => ⟨some .HST_PORT, 0x068, [], .any, [⟨0, 1, .rw1c⟩, ⟨1, 1, .rw1c⟩, ⟨2, 1, .rw1c⟩], 0x0⟩
  | .PWR_MOD_CTL => ⟨some .PWR, 0x040, [], .any, [⟨0, 2, .rw⟩, ⟨2, 1, .w1⟩, ⟨8, 8, .rw⟩], 0xa00⟩
  | .PWR_MOD_STAT => ⟨some .PWR, 0x048, [], .any, [⟨0, 3, .ro⟩, ⟨3, 1, .ro⟩, ⟨4, 1, .rw1c⟩, ⟨5, 2, .ro⟩], 0x0⟩
  | .PWR_PSTATE => ⟨some .PWR, 0x050, [], .any, [⟨0, 3, .rw⟩, ⟨3, 3, .ro⟩, ⟨6, 1, .ro⟩], 0x0⟩
  | .PWR_CAP_WAFER => ⟨some .PWR, 0x058, [], .any, [⟨0, 15, .rw⟩], 0x6590⟩
  | .PWR_CAP_CTL => ⟨some .PWR, 0x060, [], .any, [⟨0, 1, .rw⟩, ⟨1, 5, .rw⟩], 0x9⟩
  | .PWR_GATE => ⟨some .PWR, 0x068, [], .any, [⟨0, 6, .ro⟩], 0x0⟩
  | .PWR_EST => ⟨some .PWR, 0x070, [], .any, [⟨0, 16, .ro⟩, ⟨16, 16, .ro⟩], 0x0⟩
  | .PWR_CAL => ⟨some .PWR, 0x078, [], .any, [⟨0, 1, .ro⟩, ⟨16, 16, .ro⟩, ⟨32, 32, .ro⟩], 0x0⟩
  | .PWR_THERM_CTL => ⟨some .PWR, 0x080, [], .any, [⟨0, 8, .rw⟩, ⟨8, 1, .w1⟩, ⟨9, 1, .ro⟩, ⟨10, 7, .ro⟩, ⟨17, 2, .ro⟩], 0x5f⟩
  | .PWR_WAKE_ARM => ⟨some .PWR, 0x088, [], .any, [⟨0, 8, .rw⟩, ⟨8, 1, .rw⟩], 0x0⟩
  | .PWR_EVENT => ⟨some .PWR, 0x090, [], .any, [⟨0, 1, .rw1c⟩, ⟨1, 1, .rw1c⟩, ⟨2, 1, .rw1c⟩, ⟨3, 1, .rw1c⟩, ⟨4, 1, .rw1c⟩, ⟨5, 1, .rw1c⟩, ⟨6, 1, .rw1c⟩, ⟨7, 1, .rw1c⟩, ⟨8, 1, .rw1c⟩], 0x0⟩
  | .PWR_ENERGY_TOTAL => ⟨some .PWR, 0x098, [], .any, [⟨0, 64, .ro⟩], 0x0⟩
  | .PWR_ENERGY_RECOVERY => ⟨some .PWR, 0x0a0, [], .any, [⟨0, 64, .ro⟩], 0x0⟩
  | .PWR_ENERGY_OVERHEAD => ⟨some .PWR, 0x0a8, [], .any, [⟨0, 64, .ro⟩], 0x0⟩
  | .PWR_PARn_CAP => ⟨some .PWR, 0x100, [(16, 32)], .any, [⟨0, 15, .rw⟩, ⟨16, 6, .ro⟩], 0x0⟩
  | .PWR_PARn_ENERGY => ⟨some .PWR, 0x108, [(16, 32)], .any, [⟨0, 64, .ro⟩], 0x0⟩
  | .PWR_FLD_CTL => ⟨some .PWR_FLD, 0x040, [], .any, [⟨0, 2, .rw⟩], 0x0⟩
  | .PWR_FLD_STAT => ⟨some .PWR_FLD, 0x048, [], .any, [⟨0, 2, .ro⟩, ⟨2, 1, .ro⟩, ⟨3, 1, .rw1c⟩, ⟨4, 6, .ro⟩, ⟨10, 1, .ro⟩], 0x0⟩
  | .PWR_FLD_EST => ⟨some .PWR_FLD, 0x050, [], .any, [⟨0, 12, .ro⟩, ⟨12, 12, .ro⟩], 0x0⟩
  | .PWR_FLD_GAIN => ⟨some .PWR_FLD, 0x058, [], .any, [⟨0, 16, .ro⟩, ⟨16, 12, .ro⟩], 0x4000⟩
  | .PWR_FLD_VOLT => ⟨some .PWR_FLD, 0x060, [], .any, [⟨0, 12, .ro⟩, ⟨12, 12, .ro⟩], 0x0⟩
  | .PWR_FLD_DROOP => ⟨some .PWR_FLD, 0x068, [], .any, [⟨0, 32, .rw1c⟩], 0x0⟩
  | .PWR_FLD_STRETCH => ⟨some .PWR_FLD, 0x070, [], .any, [⟨0, 48, .ro⟩], 0x0⟩
  | .PWR_FLD_DROOP_THRESH => ⟨some .PWR_FLD, 0x078, [], .any, [⟨0, 24, .rw⟩], 0x2710⟩
  | .PWR_FLD_TEMP => ⟨some .PWR_FLD, 0x080, [], .any, [⟨0, 8, .ro⟩, ⟨8, 8, .ro⟩, ⟨16, 8, .ro⟩], 0x0⟩
  | .PWR_FLD_ENERGY => ⟨some .PWR_FLD, 0x088, [], .any, [⟨0, 64, .ro⟩], 0x0⟩
  | .HRT_SAG_CTL => ⟨some .HRT_SAVE, 0x040, [], .any, [⟨0, 1, .rw⟩], 0x1⟩
  | .HRT_VIN => ⟨some .HRT_SAVE, 0x048, [], .any, [⟨0, 16, .ro⟩, ⟨16, 16, .ro⟩], 0x0⟩
  | .HRT_HOLDUP => ⟨some .HRT_SAVE, 0x050, [], .any, [⟨0, 16, .ro⟩, ⟨16, 1, .ro⟩, ⟨17, 1, .ro⟩], 0x0⟩
  | .HRT_SHADOW_STAT => ⟨some .HRT_SAVE, 0x058, [], .any, [⟨0, 1, .ro⟩, ⟨16, 16, .ro⟩], 0x0⟩
  | .HRT_LEDGER_LAST => ⟨some .HRT_SAVE, 0x060, [], .any, [⟨0, 4, .ro⟩, ⟨4, 3, .ro⟩, ⟨8, 8, .ro⟩, ⟨16, 32, .ro⟩], 0x0⟩
  | .HRT_LEDGER_UNREAD => ⟨some .HRT_SAVE, 0x068, [], .any, [⟨0, 16, .rw1cBits⟩], 0x0⟩
  | .HRT_LEDGER_WIN => ⟨some .HRT_SAVE, 0x070, [], .any, [⟨0, 4, .rw⟩, ⟨11, 8, .rw⟩], 0x0⟩
  | .HRT_PWRFAIL_GLITCH => ⟨some .HRT_SAVE, 0x078, [], .any, [⟨0, 32, .rw1c⟩], 0x0⟩
  | .HRT_LEDGER_DATA => ⟨some .HRT_SAVE, 0x800, [(8, 256)], .any, [⟨0, 64, .ro⟩], 0x0⟩
  | .RVE_LIFECYCLE => ⟨some .RVE, 0x040, [], .any, [⟨0, 3, .ro⟩, ⟨3, 2, .ro⟩, ⟨5, 1, .ro⟩, ⟨6, 1, .ro⟩, ⟨7, 1, .ro⟩], 0x0⟩
  | .RVE_IMAGES => ⟨some .RVE, 0x048, [], .any, [⟨0, 1, .ro⟩, ⟨1, 1, .ro⟩, ⟨2, 1, .ro⟩, ⟨8, 32, .ro⟩], 0x0⟩
  | .RVE_RNG_DATA => ⟨some .RVE, 0x050, [], .any, [⟨0, 32, .ro⟩, ⟨32, 1, .ro⟩, ⟨33, 1, .ro⟩, ⟨34, 1, .ro⟩], 0x200000000⟩
  | .RVE_RNG_STAT => ⟨some .RVE, 0x058, [], .any, [⟨0, 2, .ro⟩, ⟨2, 2, .ro⟩, ⟨16, 16, .ro⟩], 0x0⟩
  | .RVE_SCRUB => ⟨some .RVE, 0x060, [], .any, [⟨0, 32, .ro⟩, ⟨32, 32, .ro⟩], 0x0⟩
  | .RVE_FLDf_OWNER => ⟨some .RVE, 0x100, [(8, 80)], .any, [⟨0, 5, .ro⟩, ⟨5, 1, .ro⟩, ⟨6, 1, .ro⟩, ⟨7, 1, .ro⟩, ⟨32, 32, .ro⟩], 0x0⟩
  | .RVE_PARp_TAG => ⟨some .RVE, 0x400, [(16, 32)], .any, [⟨0, 64, .ro⟩], 0x0⟩
  | .RVE_PARp_BIND => ⟨some .RVE, 0x408, [(16, 32)], .any, [⟨0, 32, .ro⟩, ⟨32, 1, .ro⟩, ⟨33, 1, .ro⟩, ⟨34, 1, .ro⟩, ⟨35, 1, .ro⟩], 0x0⟩
  | .WFR_RCV_CTL => ⟨some .WFR_RCV, 0x040, [], .any, [⟨0, 32, .rw⟩], 0x0⟩
  | .WFR_RCV_STALL => ⟨some .WFR_RCV, 0x048, [], .any, [⟨0, 16, .rw⟩], 0x32⟩
  | .WFR_RCV_RESET => ⟨some .WFR_RCV, 0x050, [], .any, [⟨0, 3, .rw⟩, ⟨3, 7, .rw⟩, ⟨10, 4, .rw⟩, ⟨14, 4, .rw⟩, ⟨18, 5, .rw⟩, ⟨31, 1, .w1⟩, ⟨32, 1, .ro⟩, ⟨33, 1, .rw1c⟩, ⟨48, 16, .wo⟩], 0x0⟩
  | .WFR_RCV_CMD => ⟨some .WFR_RCV, 0x058, [], .any, [⟨0, 1, .w1⟩], 0x0⟩
  | .WFR_RCV_HANG => ⟨some .WFR_RCV, 0x060, [], .any, [⟨0, 1, .rw1c⟩, ⟨1, 1, .rw1c⟩, ⟨2, 5, .rw1c⟩, ⟨7, 7, .rw1c⟩, ⟨14, 3, .ro⟩, ⟨17, 4, .ro⟩, ⟨21, 1, .rw1c⟩], 0x0⟩
  | .WFR_RCV_HANG_SHEAF => ⟨some .WFR_RCV, 0x068, [], .any, [⟨0, 64, .ro⟩], 0x0⟩
  | .WFR_RCV_COUNTS => ⟨some .WFR_RCV, 0x070, [], .any, [⟨0, 16, .ro⟩, ⟨16, 16, .ro⟩, ⟨32, 16, .ro⟩, ⟨48, 16, .ro⟩], 0x0⟩
  | .WFR_RCV_EVENT => ⟨some .WFR_RCV, 0x078, [], .any, [⟨0, 1, .rw1c⟩, ⟨1, 1, .rw1c⟩, ⟨2, 1, .rw1c⟩, ⟨3, 1, .rw1c⟩, ⟨4, 1, .rw1c⟩, ⟨5, 1, .rw1c⟩, ⟨6, 1, .rw1c⟩], 0x0⟩
  | .WFR_RCV_ABORT => ⟨some .WFR_RCV, 0x080, [], .any, [⟨0, 16, .ro⟩, ⟨16, 4, .ro⟩, ⟨20, 7, .ro⟩, ⟨27, 8, .ro⟩, ⟨35, 1, .ro⟩], 0x0⟩
  | .WFR_RCV_WARM => ⟨some .WFR_RCV, 0x088, [], .any, [⟨0, 2, .ro⟩], 0x0⟩
  | .WFR_RCV_FRSTk => ⟨some .WFR_RCV, 0x100, [(8, 10)], .any, [⟨0, 64, .ro⟩], 0x0⟩
  | .ASY_FRZ_CTL => ⟨some .ASY, 0x040, [], .any, [⟨0, 1, .w1⟩, ⟨1, 1, .w1⟩, ⟨2, 1, .rw⟩, ⟨3, 1, .rw⟩, ⟨4, 1, .rw⟩], 0x4⟩
  | .ASY_FRZ_STAT => ⟨some .ASY, 0x048, [], .any, [⟨0, 2, .ro⟩, ⟨2, 2, .ro⟩, ⟨4, 1, .ro⟩, ⟨5, 1, .rw1c⟩, ⟨6, 16, .ro⟩, ⟨22, 4, .ro⟩], 0x0⟩
  | .ASY_FRZ_FTIME => ⟨some .ASY, 0x050, [], .any, [⟨0, 64, .ro⟩], 0x0⟩
  | .ASY_FRZ_UNREACHED_LO => ⟨some .ASY, 0x058, [], .any, [⟨0, 64, .ro⟩], 0x0⟩
  | .ASY_FRZ_UNREACHED_HI => ⟨some .ASY, 0x060, [], .any, [⟨0, 16, .ro⟩], 0x0⟩
  | .ASY_FRZ_IGNORED => ⟨some .ASY, 0x068, [], .any, [⟨0, 32, .rw1c⟩], 0x0⟩
  | .ASY_WIN_CTL => ⟨some .ASY, 0x070, [], .any, [⟨0, 7, .rw⟩, ⟨7, 7, .rw⟩, ⟨14, 2, .rw⟩, ⟨16, 1, .w1⟩, ⟨17, 1, .ro⟩, ⟨18, 1, .rw1c⟩], 0x0⟩
  | .ASY_WIN_ADDR => ⟨some .ASY, 0x078, [], .any, [⟨0, 64, .rw⟩], 0x0⟩
  | .ASY_WIN_LEN => ⟨some .ASY, 0x080, [], .any, [⟨0, 12, .rw⟩], 0x0⟩
  | .ASY_WIN_DATA => ⟨some .ASY, 0x800, [(8, 256)], .any, [⟨0, 64, .ro⟩], 0x0⟩
  | .ASY_FLD_STAT => ⟨some .ASY_FLD, 0x040, [], .any, [⟨0, 1, .ro⟩, ⟨1, 1, .ro⟩, ⟨2, 1, .ro⟩], 0x0⟩
  | .ASY_FLD_ARRIVE => ⟨some .ASY_FLD, 0x048, [], .any, [⟨0, 64, .ro⟩], 0x0⟩
  | .ASY_FLD_STOP => ⟨some .ASY_FLD, 0x050, [], .any, [⟨0, 64, .ro⟩], 0x0⟩
  | .ASY_FLD_MILL => ⟨some .ASY_FLD, 0x058, [], .any, [⟨0, 64, .ro⟩], 0x0⟩
  | .ASY_FLD_CROF => ⟨some .ASY_FLD, 0x060, [], .any, [⟨0, 64, .ro⟩], 0x0⟩
  | .ASY_FLD_STAMP => ⟨some .ASY_FLD, 0x068, [], .any, [⟨0, 64, .ro⟩], 0x0⟩
  | .BIS_CTL => ⟨some .BIS, 0x040, [], .any, [⟨0, 4, .rw⟩, ⟨4, 1, .w1⟩, ⟨5, 1, .w1⟩, ⟨6, 1, .rw⟩, ⟨7, 1, .rw⟩, ⟨8, 1, .rw⟩], 0x0⟩
  | .BIS_STAT => ⟨some .BIS, 0x048, [], .any, [⟨0, 3, .ro⟩, ⟨3, 3, .ro⟩, ⟨6, 1, .rw1c⟩, ⟨7, 2, .ro⟩, ⟨16, 16, .ro⟩], 0x0⟩
  | .BIS_RESULTt => ⟨some .BIS, 0x050, [(8, 4)], .any, [⟨0, 3, .ro⟩, ⟨16, 16, .ro⟩, ⟨32, 32, .ro⟩], 0x0⟩
  | .BIS_SEAM_FAILk => ⟨some .BIS, 0x070, [(8, 3)], .any, [⟨0, 64, .ro⟩], 0x0⟩
  | .BIS_SEAM_REPk => ⟨some .BIS, 0x088, [(8, 3)], .any, [⟨0, 64, .ro⟩], 0x0⟩
  | .BIS_BUMP_FAIL_LO => ⟨some .BIS, 0x0a0, [], .any, [⟨0, 64, .ro⟩], 0x0⟩
  | .BIS_BUMP_FAIL_HI => ⟨some .BIS, 0x0a8, [], .any, [⟨0, 64, .ro⟩], 0x0⟩
  | .BIS_LOOP_FAIL_LO => ⟨some .BIS, 0x0b0, [], .any, [⟨0, 64, .ro⟩], 0x0⟩
  | .BIS_LOOP_FAIL_HI => ⟨some .BIS, 0x0b8, [], .any, [⟨0, 64, .ro⟩], 0x0⟩
  | .BIS_LOOP_SKIP_LO => ⟨some .BIS, 0x0c0, [], .any, [⟨0, 64, .ro⟩], 0x0⟩
  | .BIS_LOOP_SKIP_HI => ⟨some .BIS, 0x0c8, [], .any, [⟨0, 64, .ro⟩], 0x0⟩
  | .BIS_PIN_FAIL => ⟨some .BIS, 0x0d0, [], .any, [⟨0, 9, .ro⟩, ⟨9, 9, .ro⟩], 0x0⟩
  | .BIS_LOG_HEAD => ⟨some .BIS, 0x0e0, [], .any, [⟨0, 7, .ro⟩, ⟨7, 1, .ro⟩, ⟨16, 16, .ro⟩], 0x0⟩
  | .BIS_LOGk => ⟨some .BIS, 0x100, [(16, 64), (8, 2)], .any, [⟨0, 64, .ro⟩], 0x0⟩
  | .HDR_ID => ⟨none, 0x000, [], .any, [⟨0, 12, .ro⟩, ⟨12, 8, .ro⟩, ⟨20, 7, .ro⟩, ⟨28, 4, .ro⟩], 0x0⟩
  | .HDR_CAP => ⟨none, 0x008, [], .any, [⟨0, 1, .ro⟩, ⟨1, 1, .ro⟩, ⟨2, 1, .ro⟩, ⟨3, 1, .ro⟩, ⟨4, 1, .ro⟩], 0x0⟩
  | .HDR_IRQ_STAT => ⟨none, 0x010, [], .any, [⟨0, 1, .ro⟩, ⟨1, 1, .ro⟩, ⟨2, 1, .ro⟩], 0x0⟩
  | .HDR_IRQ_EN => ⟨none, 0x018, [], .any, [⟨0, 1, .rw⟩, ⟨1, 1, .rw⟩, ⟨2, 1, .rw⟩], 0x3⟩
  | .HDR_ERR_TIME => ⟨none, 0x020, [], .any, [⟨0, 64, .ro⟩], 0x0⟩
  | .HDR_SCRATCH => ⟨none, 0x028, [], .any, [⟨0, 64, .rw⟩], 0x0⟩
  | .HDR_WRITE_ERR => ⟨none, 0x030, [], .any, [⟨0, 12, .rw1c⟩, ⟨12, 2, .rw1c⟩, ⟨14, 1, .rw1c⟩, ⟨15, 1, .rw1c⟩], 0x0⟩
  | .FLD_IRQ_STAT => ⟨some .FLD_IRQ, 0x040, [], .any, [⟨0, 64, .ro⟩], 0x0⟩
  | .FLD_IRQ_MASK => ⟨some .FLD_IRQ, 0x048, [], .any, [⟨0, 64, .rw⟩], 0x0⟩
  | .FLD_IRQ_SUM => ⟨some .FLD_IRQ, 0x050, [], .any, [⟨0, 1, .ro⟩], 0x0⟩
  | .WFR_IRQ_CTL => ⟨some .WFR_IRQ, 0x040, [], .any, [⟨0, 16, .rw⟩, ⟨16, 1, .w1⟩], 0x4⟩
  | .WFR_IRQ_SUM => ⟨some .WFR_IRQ, 0x048, [], .any, [⟨0, 1, .ro⟩, ⟨1, 1, .ro⟩], 0x0⟩
  | .WFR_IRQ_FLD_LO => ⟨some .WFR_IRQ, 0x050, [], .any, [⟨0, 64, .ro⟩], 0x0⟩
  | .WFR_IRQ_FLD_HI => ⟨some .WFR_IRQ, 0x058, [], .any, [⟨0, 16, .ro⟩], 0x0⟩
  | .WFR_IRQ_FMASK_LO => ⟨some .WFR_IRQ, 0x060, [], .any, [⟨0, 64, .rw⟩], 0x0⟩
  | .WFR_IRQ_FMASK_HI => ⟨some .WFR_IRQ, 0x068, [], .any, [⟨0, 16, .rw⟩], 0x0⟩
  | .WFR_IRQ_PAGEk => ⟨some .WFR_IRQ, 0x080, [(8, 6)], .any, [⟨0, 64, .ro⟩], 0x0⟩
  | .WFR_IRQ_PMASKk => ⟨some .WFR_IRQ, 0x0c0, [(8, 6)], .any, [⟨0, 64, .rw⟩], 0x0⟩
  | .WFR_IRQ_SENT => ⟨some .WFR_IRQ, 0x100, [], .any, [⟨0, 32, .ro⟩, ⟨32, 32, .ro⟩], 0x0⟩
  | .WFR_ID_PART => ⟨some .WFR_ID, 0x040, [], .any, [⟨0, 16, .ro⟩, ⟨16, 4, .ro⟩, ⟨20, 4, .ro⟩], 0x0⟩
  | .WFR_ID_UNIT => ⟨some .WFR_ID, 0x048, [], .any, [⟨0, 64, .ro⟩], 0x0⟩
  | .WFR_ID_ARRAY => ⟨some .WFR_ID, 0x050, [], .any, [⟨0, 64, .ro⟩], 0x9a740022144d08a⟩
  | .WFR_ID_MEM => ⟨some .WFR_ID, 0x058, [], .any, [⟨0, 64, .ro⟩], 0x2580240c2030⟩
  | .WFR_ID_LINKS => ⟨some .WFR_ID, 0x060, [], .any, [⟨0, 64, .ro⟩], 0xc421848⟩
  | .WFR_ID_VERSIONS => ⟨some .WFR_ID, 0x068, [], .any, [⟨0, 64, .ro⟩], 0x101001010⟩
  | .WFR_ID_CODECS => ⟨some .WFR_ID, 0x070, [], .any, [⟨0, 64, .ro⟩], 0x70f⟩
  | .WFR_ID_CLOCKS => ⟨some .WFR_ID, 0x078, [], .any, [⟨0, 64, .ro⟩], 0x67087d05dc⟩
  | .WFR_ID_SHIP => ⟨some .WFR_ID, 0x080, [], .any, [⟨0, 7, .ro⟩], 0x0⟩
  | .WFR_FLD_COUNT => ⟨some .WFR_FIELDS, 0x040, [], .any, [⟨0, 7, .ro⟩, ⟨7, 1, .ro⟩, ⟨8, 7, .ro⟩, ⟨15, 7, .ro⟩, ⟨22, 7, .ro⟩], 0x0⟩
  | .WFR_FLD_INSVC_LO => ⟨some .WFR_FIELDS, 0x048, [], .any, [⟨0, 64, .ro⟩], 0x0⟩
  | .WFR_FLD_INSVC_HI => ⟨some .WFR_FIELDS, 0x050, [], .any, [⟨0, 16, .ro⟩], 0x0⟩
  | .WFR_FLD_HOLE_LO => ⟨some .WFR_FIELDS, 0x058, [], .any, [⟨0, 64, .ro⟩], 0x0⟩
  | .WFR_FLD_HOLE_HI => ⟨some .WFR_FIELDS, 0x060, [], .any, [⟨0, 16, .ro⟩], 0x0⟩
  | .WFR_SEAM_GEN => ⟨some .WFR_FIELDS, 0x068, [], .any, [⟨0, 32, .ro⟩], 0x0⟩
  | .WFR_FLD_EVENT => ⟨some .WFR_FIELDS, 0x070, [], .any, [⟨0, 1, .rw1c⟩, ⟨1, 1, .rw1c⟩, ⟨2, 1, .rw1c⟩, ⟨3, 1, .rw1c⟩, ⟨4, 1, .rw1c⟩], 0x0⟩
  | .WFR_FLD_EVT_HEAD => ⟨some .WFR_FIELDS, 0x078, [], .any, [⟨0, 5, .ro⟩], 0x0⟩
  | .WFR_FLD_EVT_TAIL => ⟨some .WFR_FIELDS, 0x080, [], .any, [⟨0, 5, .rw⟩], 0x0⟩
  | .WFR_FLD_EVT_LOST => ⟨some .WFR_FIELDS, 0x088, [], .any, [⟨0, 32, .rw1c⟩], 0x0⟩
  | .WFR_FLD_CAPACITY => ⟨some .WFR_FIELDS, 0x090, [], .any, [⟨0, 10, .ro⟩, ⟨10, 8, .ro⟩, ⟨18, 11, .ro⟩, ⟨29, 7, .ro⟩, ⟨36, 7, .ro⟩, ⟨43, 6, .ro⟩], 0x0⟩
  | .WFR_FLDf_STATUS => ⟨some .WFR_FIELDS, 0x100, [(8, 80)], .any, [⟨0, 2, .ro⟩, ⟨2, 4, .ro⟩, ⟨6, 3, .ro⟩, ⟨9, 1, .ro⟩, ⟨10, 9, .ro⟩, ⟨19, 1, .ro⟩, ⟨20, 2, .ro⟩, ⟨22, 1, .ro⟩, ⟨23, 1, .ro⟩, ⟨24, 1, .ro⟩, ⟨25, 1, .ro⟩, ⟨26, 5, .ro⟩, ⟨31, 1, .ro⟩, ⟨32, 16, .ro⟩], 0x0⟩
  | .WFR_FLD_EVTk => ⟨some .WFR_FIELDS, 0x400, [(32, 32), (8, 4)], .any, [⟨0, 64, .ro⟩], 0x0⟩
  | .WFR_SPREAD_CTL => ⟨some .WFR_SPREAD, 0x040, [], .any, [⟨0, 1, .rw⟩, ⟨1, 1, .ro⟩, ⟨2, 1, .rw1c⟩, ⟨8, 6, .rw⟩], 0x3f00⟩
  | .WFR_SPREAD_SLOTS => ⟨some .WFR_SPREAD, 0x048, [], .any, [⟨0, 7, .rw⟩], 0x0⟩
  | .WFR_SPREAD_BASE => ⟨some .WFR_SPREAD, 0x050, [], .any, [⟨16, 19, .rw⟩], 0x0⟩
  | .WFR_SPREAD_SIZE => ⟨some .WFR_SPREAD, 0x058, [], .any, [⟨16, 20, .rw⟩], 0x0⟩
  | .WFR_SPREAD_GEN => ⟨some .WFR_SPREAD, 0x060, [], .any, [⟨0, 32, .ro⟩], 0x0⟩
  | .WFR_SPREAD_LOST_LO => ⟨some .WFR_SPREAD, 0x068, [], .any, [⟨0, 64, .ro⟩], 0x0⟩
  | .WFR_SPREAD_LOST_HI => ⟨some .WFR_SPREAD, 0x070, [], .any, [⟨0, 16, .ro⟩], 0x0⟩
  | .WFR_SPREAD_SLOTk => ⟨some .WFR_SPREAD, 0x080, [(8, 20)], .any, [⟨0, 7, .rw⟩, ⟨7, 1, .ro⟩, ⟨15, 1, .rw⟩, ⟨16, 7, .rw⟩, ⟨23, 1, .ro⟩, ⟨31, 1, .rw⟩, ⟨32, 7, .rw⟩, ⟨39, 1, .ro⟩, ⟨47, 1, .rw⟩, ⟨48, 7, .rw⟩, ⟨55, 1, .ro⟩, ⟨63, 1, .rw⟩], 0x0⟩
  | .RVE_MBX_CMD => ⟨some .RVE_MBX, 0x040, [], .any, [⟨0, 8, .rw⟩, ⟨8, 13, .rw⟩, ⟨31, 1, .w1⟩], 0x0⟩
  | .RVE_MBX_STAT => ⟨some .RVE_MBX, 0x048, [], .any, [⟨0, 1, .ro⟩, ⟨8, 8, .ro⟩, ⟨16, 13, .ro⟩, ⟨32, 32, .ro⟩], 0x0⟩
  | .RVE_MBX_WIN => ⟨some .RVE_MBX, 0x050, [], .any, [⟨0, 1, .rw⟩, ⟨1, 1, .rw⟩], 0x0⟩
  | .RVE_MBX_EVENT => ⟨some .RVE_MBX, 0x058, [], .any, [⟨0, 1, .rw1c⟩, ⟨1, 1, .rw1c⟩], 0x0⟩
  | .RVE_MBX_DATA => ⟨some .RVE_MBX, 0x800, [(8, 256)], .any, [⟨0, 64, .rw⟩], 0x0⟩
  | .HRT_SYS_ID => ⟨some .HRT_SYS, 0x040, [], .any, [⟨0, 16, .ro⟩, ⟨16, 32, .ro⟩], 0x0⟩
  | .HRT_SYS_STATE => ⟨some .HRT_SYS, 0x048, [], .any, [⟨0, 10, .ro⟩, ⟨32, 32, .ro⟩], 0x0⟩
  | .HRT_SYS_UPTIME => ⟨some .HRT_SYS, 0x050, [], .any, [⟨0, 64, .ro⟩], 0x0⟩
  | .HRT_SMB_STAT => ⟨some .HRT_SYS, 0x058, [], .any, [⟨0, 16, .rw1c⟩, ⟨16, 16, .rw1c⟩, ⟨32, 8, .ro⟩], 0x0⟩
  | .HRT_PSTORE_STAT => ⟨some .HRT_SYS, 0x060, [], .any, [⟨0, 16, .ro⟩, ⟨16, 1, .ro⟩, ⟨24, 8, .ro⟩], 0x0⟩
  | .CRI_STAT => ⟨some .CRI, 0x040, [], .any, [⟨0, 16, .rw1c⟩, ⟨16, 16, .rw1c⟩, ⟨32, 16, .rw1c⟩], 0x0⟩
  | .CRI_READS => ⟨some .CRI, 0x048, [], .any, [⟨0, 48, .ro⟩], 0x0⟩
  | .CRI_CTL => ⟨some .CRI, 0x050, [], .any, [⟨0, 1, .rw⟩, ⟨1, 1, .rw⟩], 0x3⟩
  | .CRI_ROLL => ⟨some .CRI, 0x058, [], .any, [⟨0, 32, .ro⟩, ⟨32, 10, .ro⟩], 0x0⟩
  | .CRI_WIN => ⟨some .CRI, 0x060, [], .any, [⟨0, 2, .rw⟩], 0x0⟩
  | .CRI_MIRROR => ⟨some .CRI, 0x800, [(8, 256)], .any, [⟨0, 64, .ro⟩], 0x0⟩
  | .GPIO_FUNC => ⟨some .GPIO, 0x040, [], .any, [⟨0, 32, .rw⟩], 0xefff000⟩
  | .GPIO_DIR => ⟨some .GPIO, 0x048, [], .any, [⟨0, 32, .rw⟩], 0x0⟩
  | .GPIO_OD => ⟨some .GPIO, 0x050, [], .any, [⟨0, 32, .rw⟩], 0x0⟩
  | .GPIO_PULL_LO => ⟨some .GPIO, 0x058, [], .any, [⟨0, 32, .rw⟩], 0xaaaa⟩
  | .GPIO_PULL_HI => ⟨some .GPIO, 0x060, [], .any, [⟨0, 32, .rw⟩], 0xaa020000⟩
  | .GPIO_OUT => ⟨some .GPIO, 0x068, [], .any, [⟨0, 32, .rw⟩], 0x0⟩
  | .GPIO_OUT_SET => ⟨some .GPIO, 0x070, [], .any, [⟨0, 32, .wo⟩], 0x0⟩
  | .GPIO_OUT_CLR => ⟨some .GPIO, 0x078, [], .any, [⟨0, 32, .wo⟩], 0x0⟩
  | .GPIO_IRQ_MODE_LO => ⟨some .GPIO, 0x080, [], .any, [⟨0, 48, .rw⟩], 0x0⟩
  | .GPIO_IRQ_MODE_HI => ⟨some .GPIO, 0x088, [], .any, [⟨0, 48, .rw⟩], 0x0⟩
  | .GPIO_IRQ_STAT => ⟨some .GPIO, 0x090, [], .any, [⟨0, 32, .rw1cBits⟩], 0x0⟩
  | .GPIO_LOCK_KEY => ⟨some .GPIO, 0x098, [], .any, [⟨0, 16, .wo⟩], 0x0⟩
  | .GPIO_LOCK_SET => ⟨some .GPIO, 0x0a0, [], .any, [⟨0, 32, .wo⟩], 0x0⟩
  | .GPIO_PWMk => ⟨some .GPIO, 0x0a8, [(8, 4)], .any, [⟨0, 9, .rw⟩], 0x100⟩
  | .GPIO_I2Cn => ⟨some .GPIO, 0x0c8, [(16, 2)], .any, [⟨0, 7, .rw⟩, ⟨7, 1, .rw⟩, ⟨8, 3, .rw⟩, ⟨11, 1, .w1⟩, ⟨12, 1, .ro⟩, ⟨13, 1, .rw1c⟩], 0x0⟩
  | .GPIO_I2Cn_DATA => ⟨some .GPIO, 0x0d0, [(16, 2)], .any, [⟨0, 64, .rw⟩], 0x0⟩
  | .GPIO_IN => ⟨some .GPIO, 0x0e8, [], .any, [⟨0, 32, .ro⟩], 0x0⟩
  | .GPIO_LOCKED => ⟨some .GPIO, 0x0f0, [], .any, [⟨0, 32, .ro⟩], 0x0⟩
  | .GPIO_TACHk => ⟨some .GPIO, 0x0f8, [(8, 4)], .any, [⟨0, 16, .ro⟩], 0x0⟩
  | .GPIO_STAT => ⟨some .GPIO, 0x118, [], .any, [⟨0, 1, .rw1c⟩, ⟨1, 1, .rw1c⟩, ⟨4, 7, .ro⟩], 0x0⟩
  | .WFR_BOOT_STATUS => ⟨some .WFR_BOOT, 0x040, [(8, 14)], .any, [⟨0, 64, .ro⟩], 0x0⟩

/-- The registers of the common header (R734). -/
def headerRegs : List Reg :=
  [.HDR_ID, .HDR_CAP, .HDR_IRQ_STAT, .HDR_IRQ_EN, .HDR_ERR_TIME, .HDR_SCRATCH, .HDR_WRITE_ERR]

/-- The registers each page type holds after its header. -/
def Page.regs : Page → List Reg
    | .FLD_SPINE => [.FLD_SPINE_ID, .FLD_CLK_STATUS, .FLD_SEAMn_STATE, .FLD_SEAMn_ECC,
      .FLD_SEAMn_SAT, .FLD_SEAMn_TRAFFIC, .FLD_SEAM_SAT_THRESH, .FLD_SEAM_EVENT]
    | .FLD_COMMONS => [.FLD_CMN_ERR_STATUS, .FLD_CMN_ERR_ADDR, .FLD_CMN_ERR_SOURCE,
      .FLD_CMN_LATE_RSP, .FLD_CMN_FRESH_READS, .FLD_CMN_FRESH_FILLS, .FLD_CMN_FRESH_FAULT,
      .FLD_CMN_DENIED]
    | .FLD_IRQ => [.FLD_IRQ_STAT, .FLD_IRQ_MASK, .FLD_IRQ_SUM]
    | .CRF => [.CRF_ID, .CRF_MON_STATUS, .CRF_STACK_BASE, .CRF_STACK_SLOT, .CRF_SRO_INV,
      .CRF_INST_COUNT, .CRF_ISSUE_COUNT, .CRF_BELL_COUNT, .CRF_THREAD_STATEn, .CRF_FAULT_HEAD,
      .CRF_FAULTk]
    | .TLY => [.TLY_ID, .TLY_USE, .TLY_SIG_BASE, .TLY_SIG_CTL, .TLY_SIG_HEAD, .TLY_SIG_TAIL,
      .TLY_ERR_STATUS, .TLY_REFUSED, .TLY_DUP_COUNT, .TLY_OPS, .TLY_ABORTS]
    | .CRN => [.CRN_CTL, .CRN_GEOM, .CRN_POOL_BASE, .CRN_POOL_SLOTS, .CRN_PT_BASE, .CRN_PT_BLOCKS,
      .CRN_GRAN_BASE, .CRN_GRAN_PAIRS, .CRN_FREE, .CRN_SEQS, .CRN_ADMIT, .CRN_CLAMPS, .CRN_RECLAIM,
      .CRN_ORPHAN_FREED, .CRN_ERR_STATUS, .CRN_RESETS]
    | .SCR => [.SCR_ID, .SCR_QUEUE, .SCR_TASKS, .SCR_BUSY_CYCLES, .SCR_POINTS, .SCR_CULLED,
      .SCR_PAIRS, .SCR_TAG, .SCR_ERR_STATUS, .SCR_EVENT, .SCR_GATED_CYCLES, .SCR_RESETS]
    | .LOM => [.LOM_ID, .LOM_QUEUE, .LOM_JOBS, .LOM_DEC_PIXELS, .LOM_ENC_PIXELS, .LOM_CONCEALED,
      .LOM_BUDGET_HITS, .LOM_REJECTS, .LOM_ENC_SKIPS, .LOM_BS_BYTES, .LOM_ERR_STATUS, .LOM_EVENT,
      .LOM_GATED_CYCLES, .LOM_RESETS]
    | .HBM => [.HBM_ID, .HBM_TRAIN, .HBM_ODECC, .HBM_CE_COUNT, .HBM_UE_COUNT, .HBM_UE_LIMIT,
      .HBM_ERR_STATUS, .HBM_ERR_ADDR, .HBM_LOSS, .HBM_PATROL, .HBM_TEMP, .HBM_RD_BYTES, .HBM_WR_BYTES,
      .HBM_SCRUB_CTL, .HBM_SCRUB_START, .HBM_SCRUB_COUNT]
    | .PWR_FLD => [.PWR_FLD_CTL, .PWR_FLD_STAT, .PWR_FLD_EST, .PWR_FLD_GAIN, .PWR_FLD_VOLT,
      .PWR_FLD_DROOP, .PWR_FLD_STRETCH, .PWR_FLD_DROOP_THRESH, .PWR_FLD_TEMP, .PWR_FLD_ENERGY]
    | .ASY_FLD => [.ASY_FLD_STAT, .ASY_FLD_ARRIVE, .ASY_FLD_STOP, .ASY_FLD_MILL, .ASY_FLD_CROF,
      .ASY_FLD_STAMP]
    | .QRN => [.QRN_ID, .QRN_QUEUE, .QRN_TASKS, .QRN_BUSY_CYCLES, .QRN_MODE_SWITCHES,
      .QRN_ROW_STALL, .QRN_COL_STALL, .QRN_HOLD_COUNT, .QRN_HOLD_CYCLES, .QRN_HOLD_LAST,
      .QRN_HOLD_THRESH, .QRN_EVENT, .QRN_NONFINITE, .QRN_SAT, .QRN_ERR_STATUS, .QRN_GATED_CYCLES,
      .QRN_RESETS]
    | .SIV => [.SIV_ID, .SIV_QUEUE, .SIV_WINDOWS, .SIV_TASKS, .SIV_ISSUE_CYCLES,
      .SIV_EMPTY_CYCLES, .SIV_RD_BYTES, .SIV_WR_BYTES, .SIV_TABLE_STATE, .SIV_SAT, .SIV_ERR_STATUS,
      .SIV_EVENT, .SIV_GATED_CYCLES, .SIV_RESETS]
    | .WFR_ID => [.WFR_ID_PART, .WFR_ID_UNIT, .WFR_ID_ARRAY, .WFR_ID_MEM, .WFR_ID_LINKS,
      .WFR_ID_VERSIONS, .WFR_ID_CODECS, .WFR_ID_CLOCKS, .WFR_ID_SHIP]
    | .WFR_IRQ => [.WFR_IRQ_CTL, .WFR_IRQ_SUM, .WFR_IRQ_FLD_LO, .WFR_IRQ_FLD_HI,
      .WFR_IRQ_FMASK_LO, .WFR_IRQ_FMASK_HI, .WFR_IRQ_PAGEk, .WFR_IRQ_PMASKk, .WFR_IRQ_SENT]
    | .WFR_FIELDS => [.WFR_FLD_COUNT, .WFR_FLD_INSVC_LO, .WFR_FLD_INSVC_HI, .WFR_FLD_HOLE_LO,
      .WFR_FLD_HOLE_HI, .WFR_SEAM_GEN, .WFR_FLD_EVENT, .WFR_FLD_EVT_HEAD, .WFR_FLD_EVT_TAIL,
      .WFR_FLD_EVT_LOST, .WFR_FLD_CAPACITY, .WFR_FLDf_STATUS, .WFR_FLD_EVTk]
    | .WFR_SPREAD => [.WFR_SPREAD_CTL, .WFR_SPREAD_SLOTS, .WFR_SPREAD_BASE, .WFR_SPREAD_SIZE,
      .WFR_SPREAD_GEN, .WFR_SPREAD_LOST_LO, .WFR_SPREAD_LOST_HI, .WFR_SPREAD_SLOTk]
    | .WFR_SEAMCOST => []
    | .WFR_BOOT => [.WFR_BOOT_STATUS]
    | .RVE_MBX => [.RVE_MBX_CMD, .RVE_MBX_STAT, .RVE_MBX_WIN, .RVE_MBX_EVENT, .RVE_MBX_DATA]
    | .RVE => [.RVE_LIFECYCLE, .RVE_IMAGES, .RVE_RNG_DATA, .RVE_RNG_STAT, .RVE_SCRUB,
      .RVE_FLDf_OWNER, .RVE_PARp_TAG, .RVE_PARp_BIND]
    | .HRT_SYS => [.HRT_SYS_ID, .HRT_SYS_STATE, .HRT_SYS_UPTIME, .HRT_SMB_STAT, .HRT_PSTORE_STAT]
    | .HRT_SAVE => [.HRT_SAG_CTL, .HRT_VIN, .HRT_HOLDUP, .HRT_SHADOW_STAT, .HRT_LEDGER_LAST,
      .HRT_LEDGER_UNREAD, .HRT_LEDGER_WIN, .HRT_PWRFAIL_GLITCH, .HRT_LEDGER_DATA]
    | .CRI => [.CRI_STAT, .CRI_READS, .CRI_CTL, .CRI_ROLL, .CRI_WIN, .CRI_MIRROR]
    | .GPIO => [.GPIO_FUNC, .GPIO_DIR, .GPIO_OD, .GPIO_PULL_LO, .GPIO_PULL_HI, .GPIO_OUT,
      .GPIO_OUT_SET, .GPIO_OUT_CLR, .GPIO_IRQ_MODE_LO, .GPIO_IRQ_MODE_HI, .GPIO_IRQ_STAT,
      .GPIO_LOCK_KEY, .GPIO_LOCK_SET, .GPIO_PWMk, .GPIO_I2Cn, .GPIO_I2Cn_DATA, .GPIO_IN, .GPIO_LOCKED,
      .GPIO_TACHk, .GPIO_STAT]
    | .PWR => [.PWR_MOD_CTL, .PWR_MOD_STAT, .PWR_PSTATE, .PWR_CAP_WAFER, .PWR_CAP_CTL, .PWR_GATE,
      .PWR_EST, .PWR_CAL, .PWR_THERM_CTL, .PWR_WAKE_ARM, .PWR_EVENT, .PWR_ENERGY_TOTAL,
      .PWR_ENERGY_RECOVERY, .PWR_ENERGY_OVERHEAD, .PWR_PARn_CAP, .PWR_PARn_ENERGY]
    | .WFR_RCV => [.WFR_RCV_CTL, .WFR_RCV_STALL, .WFR_RCV_RESET, .WFR_RCV_CMD, .WFR_RCV_HANG,
      .WFR_RCV_HANG_SHEAF, .WFR_RCV_COUNTS, .WFR_RCV_EVENT, .WFR_RCV_ABORT, .WFR_RCV_WARM,
      .WFR_RCV_FRSTk]
    | .WFR_MUSTER => [.WFR_MUSm_CTL, .WFR_MUSm_LIST, .WFR_MUSm_RX, .WFR_MUSm_RXT]
    | .ASY => [.ASY_FRZ_CTL, .ASY_FRZ_STAT, .ASY_FRZ_FTIME, .ASY_FRZ_UNREACHED_LO,
      .ASY_FRZ_UNREACHED_HI, .ASY_FRZ_IGNORED, .ASY_WIN_CTL, .ASY_WIN_ADDR, .ASY_WIN_LEN, .ASY_WIN_DATA]
    | .BIS => [.BIS_CTL, .BIS_STAT, .BIS_RESULTt, .BIS_SEAM_FAILk, .BIS_SEAM_REPk,
      .BIS_BUMP_FAIL_LO, .BIS_BUMP_FAIL_HI, .BIS_LOOP_FAIL_LO, .BIS_LOOP_FAIL_HI, .BIS_LOOP_SKIP_LO,
      .BIS_LOOP_SKIP_HI, .BIS_PIN_FAIL, .BIS_LOG_HEAD, .BIS_LOGk]
    | .FAB => [.FAB_UNIT, .FAB_NUM, .FAB_CTL, .FAB_STATE, .FAB_MEMBERS, .FAB_MAP_GEN, .FAB_FM,
      .FAB_TIME_CTL, .FAB_TIME_OFFSET, .FAB_TIME_SET, .FAB_NUMCFG, .FAB_STALE_EPOCH, .FAB_HELD,
      .FAB_QUAR, .FAB_REISSUE, .FAB_NO_FAR, .FAB_EVENT, .FAB_EPOCHn, .FAB_REACHp, .FAB_MAPp, .FAB_FARr,
      .FAB_DISC_CTL, .FAB_DISC_TX, .FAB_DISC_RX]
    | .VRN_PORTS => [.VRN_E2E_DUP, .VRN_E2E_STALE, .VRN_E2E_WAIT, .VRN_PORTp_CTL,
      .VRN_PORTp_STATE]
    | .HST_PORT => [.HST_PORT_H0, .HST_PORT_CTL, .HST_PORT_MSIX_DROP, .HST_PORT_TAGS,
      .HST_S0_STATE, .HST_PORT_EVENT]
    | .HBM_GRANARY => [.HBM_GRAN_CTL, .HBM_GRAN_ORIGIN, .HBM_GRAN_PAIR, .HBM_GRAN_PAIRS,
      .HBM_GRAN_NSID, .HBM_GRAN_MOVED, .HBM_GRAN_ERR]
    | .WFR_PARISH => [.WFR_PAR_CTL, .WFR_PAR_FIELDS_LO, .WFR_PAR_FIELDS_HI, .WFR_PAR_CANCEL,
      .WFR_PAR_INFLIGHT, .WFR_RINGr_SQ_BASE, .WFR_RINGr_RQ_BASE, .WFR_RINGr_CTL, .WFR_RINGr_SQ_PTR,
      .WFR_RINGr_RQ_PTR, .WFR_RINGr_STAT]
    | .WFR_SRO => [.WFR_SROw_BASE, .WFR_SROw_LIMIT, .WFR_SRO_GEN]
    | .HST_FN => [.HST_FN_WIN_BASE, .HST_FN_WIN_ERR, .HST_FN_CTL, .HST_FN_PASID,
      .HST_FN_DMAq_BASE, .HST_FN_DMAq_CTL, .HST_FN_DMAq_BYTES]
    | .VRN_LINK => [.VRN_LNK_ID, .VRN_LNK_CTL, .VRN_LNK_STATE, .VRN_LNK_TX, .VRN_LNK_NBR,
      .VRN_LNK_NBR_PORT, .VRN_LNK_RTT, .VRN_LNK_REPLAY, .VRN_LNK_CRC, .VRN_LNK_DUP, .VRN_LNK_PROTO,
      .VRN_LNK_FEC_CORR, .VRN_LNK_FEC_UNC, .VRN_LNK_UCW_LIMIT, .VRN_LNK_FLITS, .VRN_PRBS_CTL,
      .VRN_PRBS_ERR, .VRN_PRBS_BITS, .VRN_PRBS_BER]

/-- Every page type. -/
def Page.all : List Page :=
  [.FLD_SPINE, .FLD_COMMONS, .FLD_IRQ, .CRF, .TLY, .CRN, .SCR, .LOM,
   .HBM, .PWR_FLD, .ASY_FLD, .QRN, .SIV, .WFR_ID, .WFR_IRQ, .WFR_FIELDS,
   .WFR_SPREAD, .WFR_SEAMCOST, .WFR_BOOT, .RVE_MBX, .RVE, .HRT_SYS, .HRT_SAVE, .CRI,
   .GPIO, .PWR, .WFR_RCV, .WFR_MUSTER, .ASY, .BIS, .FAB, .VRN_PORTS,
   .HST_PORT, .HBM_GRANARY, .WFR_PARISH, .WFR_SRO, .HST_FN, .VRN_LINK]

end Sys2Proof.Machine
end

