-- ==== Sys2Proof/Machine/RegFields.lean ====
section
/-! DEFINITION. A name for every field of every register, as the page tables name it
(`RF.<register>_<field>`). -/

namespace Sys2Proof.Machine

/-- A named field of a register. -/
structure RF where
  reg : Reg
  lo : Nat
  w : Nat
  deriving DecidableEq, Repr

abbrev RF.FLD_SPINE_ID_FIELD_ID : RF := ⟨.FLD_SPINE_ID, 0, 7⟩
abbrev RF.FLD_SPINE_ID_COLUMN : RF := ⟨.FLD_SPINE_ID, 7, 4⟩
abbrev RF.FLD_SPINE_ID_ROW : RF := ⟨.FLD_SPINE_ID, 11, 3⟩
abbrev RF.FLD_SPINE_ID_LOOM_PRESENT : RF := ⟨.FLD_SPINE_ID, 14, 1⟩
abbrev RF.FLD_SPINE_ID_MODE : RF := ⟨.FLD_SPINE_ID, 15, 2⟩
abbrev RF.FLD_CLK_STATUS_PARENT : RF := ⟨.FLD_CLK_STATUS, 0, 7⟩
abbrev RF.FLD_CLK_STATUS_ROOT : RF := ⟨.FLD_CLK_STATUS, 7, 1⟩
abbrev RF.FLD_CLK_STATUS_DEPTH : RF := ⟨.FLD_CLK_STATUS, 8, 5⟩
abbrev RF.FLD_CLK_STATUS_STATE : RF := ⟨.FLD_CLK_STATUS, 13, 2⟩
abbrev RF.FLD_CLK_STATUS_SWITCH_COUNT : RF := ⟨.FLD_CLK_STATUS, 16, 16⟩
abbrev RF.FLD_SEAMn_STATE_STATE : RF := ⟨.FLD_SEAMn_STATE, 0, 2⟩
abbrev RF.FLD_SEAMn_STATE_SPARES_USED : RF := ⟨.FLD_SEAMn_STATE, 2, 4⟩
abbrev RF.FLD_SEAMn_STATE_NEIGHBOUR : RF := ⟨.FLD_SEAMn_STATE, 6, 7⟩
abbrev RF.FLD_SEAMn_ECC_CORRECTED : RF := ⟨.FLD_SEAMn_ECC, 0, 32⟩
abbrev RF.FLD_SEAMn_ECC_UNCORRECTED : RF := ⟨.FLD_SEAMn_ECC, 32, 16⟩
abbrev RF.FLD_SEAMn_SAT_CYCLES : RF := ⟨.FLD_SEAMn_SAT, 0, 48⟩
abbrev RF.FLD_SEAMn_TRAFFIC_FLITS : RF := ⟨.FLD_SEAMn_TRAFFIC, 0, 48⟩
abbrev RF.FLD_SEAM_SAT_THRESH_THRESH : RF := ⟨.FLD_SEAM_SAT_THRESH, 0, 10⟩
abbrev RF.FLD_SEAM_EVENT_EDGE : RF := ⟨.FLD_SEAM_EVENT, 0, 4⟩
abbrev RF.FLD_CMN_ERR_STATUS_CODE : RF := ⟨.FLD_CMN_ERR_STATUS, 0, 4⟩
abbrev RF.FLD_CMN_ERR_STATUS_FRESH : RF := ⟨.FLD_CMN_ERR_STATUS, 4, 1⟩
abbrev RF.FLD_CMN_ERR_STATUS_WRITE : RF := ⟨.FLD_CMN_ERR_STATUS, 5, 1⟩
abbrev RF.FLD_CMN_ERR_STATUS_VALID : RF := ⟨.FLD_CMN_ERR_STATUS, 6, 1⟩
abbrev RF.FLD_CMN_ERR_STATUS_OVERFLOW : RF := ⟨.FLD_CMN_ERR_STATUS, 7, 1⟩
abbrev RF.FLD_CMN_ERR_STATUS_SOURCE_SIDE : RF := ⟨.FLD_CMN_ERR_STATUS, 8, 1⟩
abbrev RF.FLD_CMN_ERR_ADDR_ADDR : RF := ⟨.FLD_CMN_ERR_ADDR, 0, 57⟩
abbrev RF.FLD_CMN_ERR_SOURCE_WAFER : RF := ⟨.FLD_CMN_ERR_SOURCE, 0, 4⟩
abbrev RF.FLD_CMN_ERR_SOURCE_FIELD : RF := ⟨.FLD_CMN_ERR_SOURCE, 4, 7⟩
abbrev RF.FLD_CMN_ERR_SOURCE_PARISH : RF := ⟨.FLD_CMN_ERR_SOURCE, 11, 5⟩
abbrev RF.FLD_CMN_ERR_SOURCE_HOST : RF := ⟨.FLD_CMN_ERR_SOURCE, 16, 1⟩
abbrev RF.FLD_CMN_ERR_SOURCE_UNIT : RF := ⟨.FLD_CMN_ERR_SOURCE, 17, 7⟩
abbrev RF.FLD_CMN_LATE_RSP_COUNT : RF := ⟨.FLD_CMN_LATE_RSP, 0, 32⟩
abbrev RF.FLD_CMN_FRESH_READS_COUNT : RF := ⟨.FLD_CMN_FRESH_READS, 0, 48⟩
abbrev RF.FLD_CMN_FRESH_FILLS_COUNT : RF := ⟨.FLD_CMN_FRESH_FILLS, 0, 48⟩
abbrev RF.FLD_CMN_FRESH_FAULT_WORD : RF := ⟨.FLD_CMN_FRESH_FAULT, 0, 13⟩
abbrev RF.FLD_CMN_FRESH_FAULT_VALID : RF := ⟨.FLD_CMN_FRESH_FAULT, 13, 1⟩
abbrev RF.FLD_CMN_FRESH_FAULT_COUNT : RF := ⟨.FLD_CMN_FRESH_FAULT, 16, 16⟩
abbrev RF.FLD_CMN_DENIED_COUNT : RF := ⟨.FLD_CMN_DENIED, 0, 32⟩
abbrev RF.WFR_SROw_BASE_ENABLE : RF := ⟨.WFR_SROw_BASE, 0, 1⟩
abbrev RF.WFR_SROw_BASE_BASE : RF := ⟨.WFR_SROw_BASE, 16, 41⟩
abbrev RF.WFR_SROw_LIMIT_LIMIT : RF := ⟨.WFR_SROw_LIMIT, 16, 41⟩
abbrev RF.WFR_SRO_GEN_GEN : RF := ⟨.WFR_SRO_GEN, 0, 32⟩
abbrev RF.CRF_ID_BUILT : RF := ⟨.CRF_ID, 0, 5⟩
abbrev RF.CRF_ID_IN_SERVICE : RF := ⟨.CRF_ID, 5, 5⟩
abbrev RF.CRF_ID_FENCED : RF := ⟨.CRF_ID, 10, 16⟩
abbrev RF.CRF_MON_STATUS_READY : RF := ⟨.CRF_MON_STATUS, 0, 1⟩
abbrev RF.CRF_MON_STATUS_VERSION : RF := ⟨.CRF_MON_STATUS, 8, 8⟩
abbrev RF.CRF_STACK_BASE_BASE : RF := ⟨.CRF_STACK_BASE, 12, 45⟩
abbrev RF.CRF_STACK_SLOT_SLOT : RF := ⟨.CRF_STACK_SLOT, 12, 12⟩
abbrev RF.CRF_SRO_INV_START : RF := ⟨.CRF_SRO_INV, 0, 1⟩
abbrev RF.CRF_SRO_INV_BUSY : RF := ⟨.CRF_SRO_INV, 1, 1⟩
abbrev RF.CRF_INST_COUNT_COUNT : RF := ⟨.CRF_INST_COUNT, 0, 48⟩
abbrev RF.CRF_ISSUE_COUNT_ACCEPTED : RF := ⟨.CRF_ISSUE_COUNT, 0, 32⟩
abbrev RF.CRF_ISSUE_COUNT_REFUSED : RF := ⟨.CRF_ISSUE_COUNT, 32, 32⟩
abbrev RF.CRF_BELL_COUNT_COUNT : RF := ⟨.CRF_BELL_COUNT, 0, 32⟩
abbrev RF.CRF_THREAD_STATEn_STATES : RF := ⟨.CRF_THREAD_STATEn, 0, 64⟩
abbrev RF.CRF_FAULT_HEAD_HEAD : RF := ⟨.CRF_FAULT_HEAD, 0, 4⟩
abbrev RF.CRF_FAULT_HEAD_OVERFLOW : RF := ⟨.CRF_FAULT_HEAD, 4, 1⟩
abbrev RF.CRF_FAULT_HEAD_WRITTEN : RF := ⟨.CRF_FAULT_HEAD, 5, 16⟩
abbrev RF.CRF_FAULTk_WORD : RF := ⟨.CRF_FAULTk, 0, 64⟩
abbrev RF.TLY_ID_TALLIES : RF := ⟨.TLY_ID, 0, 13⟩
abbrev RF.TLY_ID_WAITERS : RF := ⟨.TLY_ID, 13, 14⟩
abbrev RF.TLY_ID_CHAINS : RF := ⟨.TLY_ID, 27, 12⟩
abbrev RF.TLY_USE_WAITERS : RF := ⟨.TLY_USE, 0, 14⟩
abbrev RF.TLY_USE_CHAINS : RF := ⟨.TLY_USE, 14, 12⟩
abbrev RF.TLY_USE_PEAK : RF := ⟨.TLY_USE, 26, 12⟩
abbrev RF.TLY_SIG_BASE_BASE : RF := ⟨.TLY_SIG_BASE, 4, 53⟩
abbrev RF.TLY_SIG_CTL_SIZE : RF := ⟨.TLY_SIG_CTL, 0, 4⟩
abbrev RF.TLY_SIG_CTL_VECTOR : RF := ⟨.TLY_SIG_CTL, 4, 12⟩
abbrev RF.TLY_SIG_CTL_ENABLE : RF := ⟨.TLY_SIG_CTL, 31, 1⟩
abbrev RF.TLY_SIG_HEAD_HEAD : RF := ⟨.TLY_SIG_HEAD, 0, 12⟩
abbrev RF.TLY_SIG_TAIL_TAIL : RF := ⟨.TLY_SIG_TAIL, 0, 12⟩
abbrev RF.TLY_ERR_STATUS_TALLY : RF := ⟨.TLY_ERR_STATUS, 0, 12⟩
abbrev RF.TLY_ERR_STATUS_CAUSE : RF := ⟨.TLY_ERR_STATUS, 12, 3⟩
abbrev RF.TLY_ERR_STATUS_VALID : RF := ⟨.TLY_ERR_STATUS, 15, 1⟩
abbrev RF.TLY_ERR_STATUS_MORE : RF := ⟨.TLY_ERR_STATUS, 16, 1⟩
abbrev RF.TLY_REFUSED_COUNT : RF := ⟨.TLY_REFUSED, 0, 32⟩
abbrev RF.TLY_DUP_COUNT_COUNT : RF := ⟨.TLY_DUP_COUNT, 0, 32⟩
abbrev RF.TLY_OPS_COUNT : RF := ⟨.TLY_OPS, 0, 48⟩
abbrev RF.TLY_ABORTS_COUNT : RF := ⟨.TLY_ABORTS, 0, 32⟩
abbrev RF.WFR_PAR_CTL_ENABLE : RF := ⟨.WFR_PAR_CTL, 0, 1⟩
abbrev RF.WFR_PAR_CTL_BLOCKED : RF := ⟨.WFR_PAR_CTL, 1, 1⟩
abbrev RF.WFR_PAR_CTL_SET_ERR : RF := ⟨.WFR_PAR_CTL, 2, 1⟩
abbrev RF.WFR_PAR_CTL_HANG_MODE : RF := ⟨.WFR_PAR_CTL, 3, 1⟩
abbrev RF.WFR_PAR_CTL_DEFAULT_TIMEOUT_MS : RF := ⟨.WFR_PAR_CTL, 16, 16⟩
abbrev RF.WFR_PAR_FIELDS_LO_FIELDS : RF := ⟨.WFR_PAR_FIELDS_LO, 0, 64⟩
abbrev RF.WFR_PAR_FIELDS_HI_FIELDS : RF := ⟨.WFR_PAR_FIELDS_HI, 0, 16⟩
abbrev RF.WFR_PAR_CANCEL_GO : RF := ⟨.WFR_PAR_CANCEL, 0, 1⟩
abbrev RF.WFR_PAR_CANCEL_BUSY : RF := ⟨.WFR_PAR_CANCEL, 1, 1⟩
abbrev RF.WFR_PAR_INFLIGHT_COUNT : RF := ⟨.WFR_PAR_INFLIGHT, 0, 14⟩
abbrev RF.WFR_RINGr_SQ_BASE_BASE : RF := ⟨.WFR_RINGr_SQ_BASE, 12, 52⟩
abbrev RF.WFR_RINGr_RQ_BASE_BASE : RF := ⟨.WFR_RINGr_RQ_BASE, 12, 52⟩
abbrev RF.WFR_RINGr_CTL_ENABLE : RF := ⟨.WFR_RINGr_CTL, 0, 1⟩
abbrev RF.WFR_RINGr_CTL_LOC : RF := ⟨.WFR_RINGr_CTL, 1, 1⟩
abbrev RF.WFR_RINGr_CTL_SIZE : RF := ⟨.WFR_RINGr_CTL, 2, 4⟩
abbrev RF.WFR_RINGr_CTL_WEIGHT : RF := ⟨.WFR_RINGr_CTL, 6, 4⟩
abbrev RF.WFR_RINGr_CTL_IRQ : RF := ⟨.WFR_RINGr_CTL, 10, 1⟩
abbrev RF.WFR_RINGr_CTL_VECTOR : RF := ⟨.WFR_RINGr_CTL, 16, 11⟩
abbrev RF.WFR_RINGr_SQ_PTR_SQ_HEAD : RF := ⟨.WFR_RINGr_SQ_PTR, 0, 16⟩
abbrev RF.WFR_RINGr_SQ_PTR_SQ_TAIL : RF := ⟨.WFR_RINGr_SQ_PTR, 16, 16⟩
abbrev RF.WFR_RINGr_RQ_PTR_RQ_TAIL : RF := ⟨.WFR_RINGr_RQ_PTR, 0, 16⟩
abbrev RF.WFR_RINGr_RQ_PTR_RQ_HEAD : RF := ⟨.WFR_RINGr_RQ_PTR, 16, 16⟩
abbrev RF.WFR_RINGr_RQ_PTR_PHASE : RF := ⟨.WFR_RINGr_RQ_PTR, 32, 1⟩
abbrev RF.WFR_RINGr_STAT_ERR : RF := ⟨.WFR_RINGr_STAT, 0, 1⟩
abbrev RF.WFR_RINGr_STAT_FETCH_FAULT : RF := ⟨.WFR_RINGr_STAT, 1, 1⟩
abbrev RF.WFR_RINGr_STAT_FAULT_STATUS : RF := ⟨.WFR_RINGr_STAT, 2, 4⟩
abbrev RF.WFR_MUSm_CTL_HANDLE : RF := ⟨.WFR_MUSm_CTL, 0, 16⟩
abbrev RF.WFR_MUSm_CTL_KIND : RF := ⟨.WFR_MUSm_CTL, 16, 1⟩
abbrev RF.WFR_MUSm_CTL_PARISH : RF := ⟨.WFR_MUSm_CTL, 17, 5⟩
abbrev RF.WFR_MUSm_CTL_GO : RF := ⟨.WFR_MUSm_CTL, 22, 1⟩
abbrev RF.WFR_MUSm_CTL_STATE : RF := ⟨.WFR_MUSm_CTL, 23, 3⟩
abbrev RF.WFR_MUSm_CTL_MEMBERS : RF := ⟨.WFR_MUSm_CTL, 26, 12⟩
abbrev RF.WFR_MUSm_CTL_EPOCH : RF := ⟨.WFR_MUSm_CTL, 48, 16⟩
abbrev RF.WFR_MUSm_LIST_LIST : RF := ⟨.WFR_MUSm_LIST, 4, 53⟩
abbrev RF.WFR_MUSm_RX_RX_BASE : RF := ⟨.WFR_MUSm_RX, 12, 45⟩
abbrev RF.WFR_MUSm_RX_RX_SIZE : RF := ⟨.WFR_MUSm_RX, 60, 4⟩
abbrev RF.WFR_MUSm_RXT_FIELD : RF := ⟨.WFR_MUSm_RXT, 0, 7⟩
abbrev RF.WFR_MUSm_RXT_INDEX : RF := ⟨.WFR_MUSm_RXT, 7, 12⟩
abbrev RF.QRN_ID_PHYS : RF := ⟨.QRN_ID, 0, 4⟩
abbrev RF.QRN_ID_LOGICAL : RF := ⟨.QRN_ID, 4, 4⟩
abbrev RF.QRN_ID_ENABLED : RF := ⟨.QRN_ID, 8, 1⟩
abbrev RF.QRN_ID_SPARE : RF := ⟨.QRN_ID, 9, 1⟩
abbrev RF.QRN_ID_FENCED : RF := ⟨.QRN_ID, 10, 1⟩
abbrev RF.QRN_ID_MODE : RF := ⟨.QRN_ID, 11, 1⟩
abbrev RF.QRN_QUEUE_QUEUED : RF := ⟨.QRN_QUEUE, 0, 6⟩
abbrev RF.QRN_QUEUE_NEXT_TAG : RF := ⟨.QRN_QUEUE, 6, 16⟩
abbrev RF.QRN_QUEUE_BUSY : RF := ⟨.QRN_QUEUE, 22, 1⟩
abbrev RF.QRN_TASKS_COMPLETED : RF := ⟨.QRN_TASKS, 0, 32⟩
abbrev RF.QRN_TASKS_NON_OK : RF := ⟨.QRN_TASKS, 32, 32⟩
abbrev RF.QRN_BUSY_CYCLES_COUNT : RF := ⟨.QRN_BUSY_CYCLES, 0, 48⟩
abbrev RF.QRN_MODE_SWITCHES_COUNT : RF := ⟨.QRN_MODE_SWITCHES, 0, 32⟩
abbrev RF.QRN_ROW_STALL_COUNT : RF := ⟨.QRN_ROW_STALL, 0, 48⟩
abbrev RF.QRN_COL_STALL_COUNT : RF := ⟨.QRN_COL_STALL, 0, 48⟩
abbrev RF.QRN_HOLD_COUNT_COUNT : RF := ⟨.QRN_HOLD_COUNT, 0, 32⟩
abbrev RF.QRN_HOLD_CYCLES_COUNT : RF := ⟨.QRN_HOLD_CYCLES, 0, 48⟩
abbrev RF.QRN_HOLD_LAST_SIDE : RF := ⟨.QRN_HOLD_LAST, 0, 1⟩
abbrev RF.QRN_HOLD_LAST_INDEX : RF := ⟨.QRN_HOLD_LAST, 1, 8⟩
abbrev RF.QRN_HOLD_LAST_LENGTH : RF := ⟨.QRN_HOLD_LAST, 16, 24⟩
abbrev RF.QRN_HOLD_THRESH_THRESH : RF := ⟨.QRN_HOLD_THRESH, 0, 18⟩
abbrev RF.QRN_EVENT_HOLD : RF := ⟨.QRN_EVENT, 0, 1⟩
abbrev RF.QRN_EVENT_NONFINITE : RF := ⟨.QRN_EVENT, 1, 1⟩
abbrev RF.QRN_EVENT_TASK_ERR : RF := ⟨.QRN_EVENT, 2, 1⟩
abbrev RF.QRN_NONFINITE_COUNT : RF := ⟨.QRN_NONFINITE, 0, 32⟩
abbrev RF.QRN_SAT_COUNT : RF := ⟨.QRN_SAT, 0, 32⟩
abbrev RF.QRN_ERR_STATUS_STATUS : RF := ⟨.QRN_ERR_STATUS, 0, 8⟩
abbrev RF.QRN_ERR_STATUS_TAG : RF := ⟨.QRN_ERR_STATUS, 8, 16⟩
abbrev RF.QRN_ERR_STATUS_VALID : RF := ⟨.QRN_ERR_STATUS, 24, 1⟩
abbrev RF.QRN_ERR_STATUS_MORE : RF := ⟨.QRN_ERR_STATUS, 25, 1⟩
abbrev RF.QRN_GATED_CYCLES_COUNT : RF := ⟨.QRN_GATED_CYCLES, 0, 48⟩
abbrev RF.QRN_RESETS_COUNT : RF := ⟨.QRN_RESETS, 0, 8⟩
abbrev RF.SIV_ID_UNIT : RF := ⟨.SIV_ID, 0, 1⟩
abbrev RF.SIV_ID_FENCED : RF := ⟨.SIV_ID, 1, 1⟩
abbrev RF.SIV_ID_CONTEXTS : RF := ⟨.SIV_ID, 2, 4⟩
abbrev RF.SIV_QUEUE_QUEUED : RF := ⟨.SIV_QUEUE, 0, 6⟩
abbrev RF.SIV_QUEUE_NEXT_TAG : RF := ⟨.SIV_QUEUE, 6, 16⟩
abbrev RF.SIV_QUEUE_RUNNING : RF := ⟨.SIV_QUEUE, 22, 4⟩
abbrev RF.SIV_WINDOWS_TILES : RF := ⟨.SIV_WINDOWS, 0, 64⟩
abbrev RF.SIV_TASKS_COMPLETED : RF := ⟨.SIV_TASKS, 0, 32⟩
abbrev RF.SIV_TASKS_NON_OK : RF := ⟨.SIV_TASKS, 32, 32⟩
abbrev RF.SIV_ISSUE_CYCLES_COUNT : RF := ⟨.SIV_ISSUE_CYCLES, 0, 48⟩
abbrev RF.SIV_EMPTY_CYCLES_COUNT : RF := ⟨.SIV_EMPTY_CYCLES, 0, 48⟩
abbrev RF.SIV_RD_BYTES_COUNT : RF := ⟨.SIV_RD_BYTES, 0, 48⟩
abbrev RF.SIV_WR_BYTES_COUNT : RF := ⟨.SIV_WR_BYTES, 0, 48⟩
abbrev RF.SIV_TABLE_STATE_STATES : RF := ⟨.SIV_TABLE_STATE, 0, 32⟩
abbrev RF.SIV_SAT_COUNT : RF := ⟨.SIV_SAT, 0, 32⟩
abbrev RF.SIV_ERR_STATUS_STATUS : RF := ⟨.SIV_ERR_STATUS, 0, 8⟩
abbrev RF.SIV_ERR_STATUS_TAG : RF := ⟨.SIV_ERR_STATUS, 8, 16⟩
abbrev RF.SIV_ERR_STATUS_VALID : RF := ⟨.SIV_ERR_STATUS, 24, 1⟩
abbrev RF.SIV_ERR_STATUS_MORE : RF := ⟨.SIV_ERR_STATUS, 25, 1⟩
abbrev RF.SIV_EVENT_TASK_ERR : RF := ⟨.SIV_EVENT, 0, 1⟩
abbrev RF.SIV_EVENT_SAT : RF := ⟨.SIV_EVENT, 1, 1⟩
abbrev RF.SIV_GATED_CYCLES_COUNT : RF := ⟨.SIV_GATED_CYCLES, 0, 48⟩
abbrev RF.SIV_RESETS_COUNT : RF := ⟨.SIV_RESETS, 0, 8⟩
abbrev RF.CRN_CTL_ENABLE : RF := ⟨.CRN_CTL, 0, 1⟩
abbrev RF.CRN_CTL_CFG_ERR : RF := ⟨.CRN_CTL, 1, 1⟩
abbrev RF.CRN_CTL_SCAN_BUSY : RF := ⟨.CRN_CTL, 2, 1⟩
abbrev RF.CRN_GEOM_LAYERS : RF := ⟨.CRN_GEOM, 0, 8⟩
abbrev RF.CRN_GEOM_HEADS : RF := ⟨.CRN_GEOM, 8, 4⟩
abbrev RF.CRN_GEOM_DIM : RF := ⟨.CRN_GEOM, 12, 3⟩
abbrev RF.CRN_GEOM_FORMAT : RF := ⟨.CRN_GEOM, 15, 6⟩
abbrev RF.CRN_GEOM_HEADROOM : RF := ⟨.CRN_GEOM, 32, 16⟩
abbrev RF.CRN_POOL_BASE_BASE : RF := ⟨.CRN_POOL_BASE, 16, 19⟩
abbrev RF.CRN_POOL_SLOTS_SLOTS : RF := ⟨.CRN_POOL_SLOTS, 0, 21⟩
abbrev RF.CRN_PT_BASE_BASE : RF := ⟨.CRN_PT_BASE, 16, 19⟩
abbrev RF.CRN_PT_BLOCKS_BLOCKS : RF := ⟨.CRN_PT_BLOCKS, 0, 21⟩
abbrev RF.CRN_GRAN_BASE_PAIR : RF := ⟨.CRN_GRAN_BASE, 0, 32⟩
abbrev RF.CRN_GRAN_PAIRS_PAIRS : RF := ⟨.CRN_GRAN_PAIRS, 0, 32⟩
abbrev RF.CRN_FREE_SLOTS : RF := ⟨.CRN_FREE, 0, 21⟩
abbrev RF.CRN_FREE_BLOCKS : RF := ⟨.CRN_FREE, 21, 21⟩
abbrev RF.CRN_SEQS_OPEN : RF := ⟨.CRN_SEQS, 0, 11⟩
abbrev RF.CRN_SEQS_DAMAGED : RF := ⟨.CRN_SEQS, 11, 11⟩
abbrev RF.CRN_ADMIT_ADMITTED : RF := ⟨.CRN_ADMIT, 0, 32⟩
abbrev RF.CRN_ADMIT_REJECTED : RF := ⟨.CRN_ADMIT, 32, 32⟩
abbrev RF.CRN_CLAMPS_CLAMPS : RF := ⟨.CRN_CLAMPS, 0, 32⟩
abbrev RF.CRN_CLAMPS_NONFINITE : RF := ⟨.CRN_CLAMPS, 32, 32⟩
abbrev RF.CRN_RECLAIM_WAFER : RF := ⟨.CRN_RECLAIM, 0, 4⟩
abbrev RF.CRN_RECLAIM_FIELD : RF := ⟨.CRN_RECLAIM, 4, 7⟩
abbrev RF.CRN_RECLAIM_GO : RF := ⟨.CRN_RECLAIM, 11, 1⟩
abbrev RF.CRN_RECLAIM_BUSY : RF := ⟨.CRN_RECLAIM, 12, 1⟩
abbrev RF.CRN_ORPHAN_FREED_COUNT : RF := ⟨.CRN_ORPHAN_FREED, 0, 32⟩
abbrev RF.CRN_ERR_STATUS_STATUS : RF := ⟨.CRN_ERR_STATUS, 0, 8⟩
abbrev RF.CRN_ERR_STATUS_TAG : RF := ⟨.CRN_ERR_STATUS, 8, 16⟩
abbrev RF.CRN_ERR_STATUS_VALID : RF := ⟨.CRN_ERR_STATUS, 24, 1⟩
abbrev RF.CRN_ERR_STATUS_MORE : RF := ⟨.CRN_ERR_STATUS, 25, 1⟩
abbrev RF.CRN_RESETS_COUNT : RF := ⟨.CRN_RESETS, 0, 8⟩
abbrev RF.SCR_ID_FENCED : RF := ⟨.SCR_ID, 0, 1⟩
abbrev RF.SCR_ID_LEVELS : RF := ⟨.SCR_ID, 1, 5⟩
abbrev RF.SCR_QUEUE_QUEUED : RF := ⟨.SCR_QUEUE, 0, 6⟩
abbrev RF.SCR_QUEUE_NEXT_TAG : RF := ⟨.SCR_QUEUE, 6, 16⟩
abbrev RF.SCR_QUEUE_BUSY : RF := ⟨.SCR_QUEUE, 22, 1⟩
abbrev RF.SCR_TASKS_COMPLETED : RF := ⟨.SCR_TASKS, 0, 32⟩
abbrev RF.SCR_TASKS_NON_OK : RF := ⟨.SCR_TASKS, 32, 32⟩
abbrev RF.SCR_BUSY_CYCLES_COUNT : RF := ⟨.SCR_BUSY_CYCLES, 0, 48⟩
abbrev RF.SCR_POINTS_COUNT : RF := ⟨.SCR_POINTS, 0, 48⟩
abbrev RF.SCR_CULLED_COUNT : RF := ⟨.SCR_CULLED, 0, 32⟩
abbrev RF.SCR_PAIRS_COUNT : RF := ⟨.SCR_PAIRS, 0, 48⟩
abbrev RF.SCR_TAG_TAG : RF := ⟨.SCR_TAG, 0, 25⟩
abbrev RF.SCR_ERR_STATUS_STATUS : RF := ⟨.SCR_ERR_STATUS, 0, 8⟩
abbrev RF.SCR_ERR_STATUS_TAG : RF := ⟨.SCR_ERR_STATUS, 8, 16⟩
abbrev RF.SCR_ERR_STATUS_VALID : RF := ⟨.SCR_ERR_STATUS, 24, 1⟩
abbrev RF.SCR_ERR_STATUS_MORE : RF := ⟨.SCR_ERR_STATUS, 25, 1⟩
abbrev RF.SCR_EVENT_TASK_ERR : RF := ⟨.SCR_EVENT, 0, 1⟩
abbrev RF.SCR_EVENT_CULLED : RF := ⟨.SCR_EVENT, 1, 1⟩
abbrev RF.SCR_GATED_CYCLES_COUNT : RF := ⟨.SCR_GATED_CYCLES, 0, 48⟩
abbrev RF.SCR_RESETS_COUNT : RF := ⟨.SCR_RESETS, 0, 8⟩
abbrev RF.LOM_ID_FENCED : RF := ⟨.LOM_ID, 0, 1⟩
abbrev RF.LOM_ID_DEC_BUSY : RF := ⟨.LOM_ID, 1, 1⟩
abbrev RF.LOM_ID_ENC_BUSY : RF := ⟨.LOM_ID, 2, 1⟩
abbrev RF.LOM_QUEUE_QUEUED : RF := ⟨.LOM_QUEUE, 0, 6⟩
abbrev RF.LOM_QUEUE_NEXT_TAG : RF := ⟨.LOM_QUEUE, 6, 16⟩
abbrev RF.LOM_JOBS_COMPLETED : RF := ⟨.LOM_JOBS, 0, 32⟩
abbrev RF.LOM_JOBS_NON_OK : RF := ⟨.LOM_JOBS, 32, 32⟩
abbrev RF.LOM_DEC_PIXELS_COUNT : RF := ⟨.LOM_DEC_PIXELS, 0, 48⟩
abbrev RF.LOM_ENC_PIXELS_COUNT : RF := ⟨.LOM_ENC_PIXELS, 0, 48⟩
abbrev RF.LOM_CONCEALED_CONCEALED : RF := ⟨.LOM_CONCEALED, 0, 32⟩
abbrev RF.LOM_CONCEALED_DROPPED : RF := ⟨.LOM_CONCEALED, 32, 32⟩
abbrev RF.LOM_BUDGET_HITS_COUNT : RF := ⟨.LOM_BUDGET_HITS, 0, 32⟩
abbrev RF.LOM_REJECTS_COUNT : RF := ⟨.LOM_REJECTS, 0, 32⟩
abbrev RF.LOM_ENC_SKIPS_COUNT : RF := ⟨.LOM_ENC_SKIPS, 0, 32⟩
abbrev RF.LOM_BS_BYTES_COUNT : RF := ⟨.LOM_BS_BYTES, 0, 48⟩
abbrev RF.LOM_ERR_STATUS_STATUS : RF := ⟨.LOM_ERR_STATUS, 0, 8⟩
abbrev RF.LOM_ERR_STATUS_TAG : RF := ⟨.LOM_ERR_STATUS, 8, 16⟩
abbrev RF.LOM_ERR_STATUS_VALID : RF := ⟨.LOM_ERR_STATUS, 24, 1⟩
abbrev RF.LOM_ERR_STATUS_MORE : RF := ⟨.LOM_ERR_STATUS, 25, 1⟩
abbrev RF.LOM_EVENT_TASK_ERR : RF := ⟨.LOM_EVENT, 0, 1⟩
abbrev RF.LOM_EVENT_BUDGET : RF := ⟨.LOM_EVENT, 1, 1⟩
abbrev RF.LOM_EVENT_REJECT : RF := ⟨.LOM_EVENT, 2, 1⟩
abbrev RF.LOM_GATED_CYCLES_COUNT : RF := ⟨.LOM_GATED_CYCLES, 0, 48⟩
abbrev RF.LOM_RESETS_COUNT : RF := ⟨.LOM_RESETS, 0, 8⟩
abbrev RF.HBM_ID_STATE : RF := ⟨.HBM_ID, 0, 3⟩
abbrev RF.HBM_ID_HEIGHT : RF := ⟨.HBM_ID, 4, 4⟩
abbrev RF.HBM_ID_VENDOR : RF := ⟨.HBM_ID, 8, 8⟩
abbrev RF.HBM_TRAIN_SPARES : RF := ⟨.HBM_TRAIN, 0, 24⟩
abbrev RF.HBM_TRAIN_PASS : RF := ⟨.HBM_TRAIN, 24, 1⟩
abbrev RF.HBM_ODECC_COUNT : RF := ⟨.HBM_ODECC, 0, 32⟩
abbrev RF.HBM_CE_COUNT_COUNT : RF := ⟨.HBM_CE_COUNT, 0, 32⟩
abbrev RF.HBM_UE_COUNT_COUNT : RF := ⟨.HBM_UE_COUNT, 0, 32⟩
abbrev RF.HBM_UE_LIMIT_LIMIT : RF := ⟨.HBM_UE_LIMIT, 0, 16⟩
abbrev RF.HBM_ERR_STATUS_KIND : RF := ⟨.HBM_ERR_STATUS, 0, 2⟩
abbrev RF.HBM_ERR_STATUS_PSEUDO_CHANNEL : RF := ⟨.HBM_ERR_STATUS, 2, 5⟩
abbrev RF.HBM_ERR_STATUS_BIT_POSITION : RF := ⟨.HBM_ERR_STATUS, 7, 9⟩
abbrev RF.HBM_ERR_STATUS_VALID : RF := ⟨.HBM_ERR_STATUS, 16, 1⟩
abbrev RF.HBM_ERR_STATUS_MORE : RF := ⟨.HBM_ERR_STATUS, 17, 1⟩
abbrev RF.HBM_ERR_ADDR_ADDR : RF := ⟨.HBM_ERR_ADDR, 0, 35⟩
abbrev RF.HBM_LOSS_CAUSE : RF := ⟨.HBM_LOSS, 0, 3⟩
abbrev RF.HBM_LOSS_PSEUDO_CHANNEL : RF := ⟨.HBM_LOSS, 3, 5⟩
abbrev RF.HBM_LOSS_LANE : RF := ⟨.HBM_LOSS, 8, 8⟩
abbrev RF.HBM_PATROL_PASSES : RF := ⟨.HBM_PATROL, 0, 32⟩
abbrev RF.HBM_PATROL_POSITION : RF := ⟨.HBM_PATROL, 32, 19⟩
abbrev RF.HBM_TEMP_TEMP : RF := ⟨.HBM_TEMP, 0, 8⟩
abbrev RF.HBM_TEMP_DOUBLE : RF := ⟨.HBM_TEMP, 8, 1⟩
abbrev RF.HBM_RD_BYTES_COUNT : RF := ⟨.HBM_RD_BYTES, 0, 48⟩
abbrev RF.HBM_WR_BYTES_COUNT : RF := ⟨.HBM_WR_BYTES, 0, 48⟩
abbrev RF.HBM_SCRUB_CTL_MODE : RF := ⟨.HBM_SCRUB_CTL, 0, 1⟩
abbrev RF.HBM_SCRUB_CTL_GO : RF := ⟨.HBM_SCRUB_CTL, 1, 1⟩
abbrev RF.HBM_SCRUB_CTL_BUSY : RF := ⟨.HBM_SCRUB_CTL, 2, 1⟩
abbrev RF.HBM_SCRUB_CTL_ERR : RF := ⟨.HBM_SCRUB_CTL, 3, 1⟩
abbrev RF.HBM_SCRUB_CTL_DONE_GEN : RF := ⟨.HBM_SCRUB_CTL, 16, 16⟩
abbrev RF.HBM_SCRUB_START_START : RF := ⟨.HBM_SCRUB_START, 0, 19⟩
abbrev RF.HBM_SCRUB_COUNT_GRANULES : RF := ⟨.HBM_SCRUB_COUNT, 0, 20⟩
abbrev RF.HBM_GRAN_CTL_MODE : RF := ⟨.HBM_GRAN_CTL, 0, 2⟩
abbrev RF.HBM_GRAN_CTL_ENABLE : RF := ⟨.HBM_GRAN_CTL, 2, 1⟩
abbrev RF.HBM_GRAN_CTL_READY : RF := ⟨.HBM_GRAN_CTL, 3, 1⟩
abbrev RF.HBM_GRAN_CTL_LINK_UP : RF := ⟨.HBM_GRAN_CTL, 4, 1⟩
abbrev RF.HBM_GRAN_ORIGIN_ORIGIN : RF := ⟨.HBM_GRAN_ORIGIN, 0, 64⟩
abbrev RF.HBM_GRAN_PAIR_PAIR_BYTES : RF := ⟨.HBM_GRAN_PAIR, 0, 9⟩
abbrev RF.HBM_GRAN_PAIRS_PAIRS : RF := ⟨.HBM_GRAN_PAIRS, 0, 32⟩
abbrev RF.HBM_GRAN_NSID_NSID : RF := ⟨.HBM_GRAN_NSID, 0, 32⟩
abbrev RF.HBM_GRAN_MOVED_SPILLED : RF := ⟨.HBM_GRAN_MOVED, 0, 32⟩
abbrev RF.HBM_GRAN_MOVED_RECALLED : RF := ⟨.HBM_GRAN_MOVED, 32, 32⟩
abbrev RF.HBM_GRAN_ERR_STATUS : RF := ⟨.HBM_GRAN_ERR, 0, 4⟩
abbrev RF.HBM_GRAN_ERR_PAIR : RF := ⟨.HBM_GRAN_ERR, 4, 32⟩
abbrev RF.HBM_GRAN_ERR_VALID : RF := ⟨.HBM_GRAN_ERR, 36, 1⟩
abbrev RF.HBM_GRAN_ERR_MORE : RF := ⟨.HBM_GRAN_ERR, 37, 1⟩
abbrev RF.VRN_LNK_ID_LINK : RF := ⟨.VRN_LNK_ID, 0, 7⟩
abbrev RF.VRN_LNK_ID_BRIDGE : RF := ⟨.VRN_LNK_ID, 7, 4⟩
abbrev RF.VRN_LNK_ID_USE : RF := ⟨.VRN_LNK_ID, 11, 2⟩
abbrev RF.VRN_LNK_CTL_TARGET : RF := ⟨.VRN_LNK_CTL, 0, 2⟩
abbrev RF.VRN_LNK_CTL_CLASS : RF := ⟨.VRN_LNK_CTL, 2, 2⟩
abbrev RF.VRN_LNK_STATE_STATE : RF := ⟨.VRN_LNK_STATE, 0, 4⟩
abbrev RF.VRN_LNK_STATE_CAUSE : RF := ⟨.VRN_LNK_STATE, 4, 4⟩
abbrev RF.VRN_LNK_STATE_CMD_ERR : RF := ⟨.VRN_LNK_STATE, 8, 1⟩
abbrev RF.VRN_LNK_STATE_DOWNS : RF := ⟨.VRN_LNK_STATE, 16, 16⟩
abbrev RF.VRN_LNK_TX_SWING : RF := ⟨.VRN_LNK_TX, 0, 6⟩
abbrev RF.VRN_LNK_TX_PRE : RF := ⟨.VRN_LNK_TX, 6, 6⟩
abbrev RF.VRN_LNK_TX_POST : RF := ⟨.VRN_LNK_TX, 12, 6⟩
abbrev RF.VRN_LNK_TX_BUSY : RF := ⟨.VRN_LNK_TX, 31, 1⟩
abbrev RF.VRN_LNK_NBR_UNIT : RF := ⟨.VRN_LNK_NBR, 0, 64⟩
abbrev RF.VRN_LNK_NBR_PORT_PORT : RF := ⟨.VRN_LNK_NBR_PORT, 0, 8⟩
abbrev RF.VRN_LNK_NBR_PORT_LINK : RF := ⟨.VRN_LNK_NBR_PORT, 8, 8⟩
abbrev RF.VRN_LNK_NBR_PORT_VERSION : RF := ⟨.VRN_LNK_NBR_PORT, 16, 8⟩
abbrev RF.VRN_LNK_NBR_PORT_VALID : RF := ⟨.VRN_LNK_NBR_PORT, 24, 1⟩
abbrev RF.VRN_LNK_RTT_RTT : RF := ⟨.VRN_LNK_RTT, 0, 16⟩
abbrev RF.VRN_LNK_REPLAY_REPLAYS : RF := ⟨.VRN_LNK_REPLAY, 0, 32⟩
abbrev RF.VRN_LNK_REPLAY_TIMEOUTS : RF := ⟨.VRN_LNK_REPLAY, 32, 32⟩
abbrev RF.VRN_LNK_CRC_FAILED : RF := ⟨.VRN_LNK_CRC, 0, 32⟩
abbrev RF.VRN_LNK_CRC_NAKS : RF := ⟨.VRN_LNK_CRC, 32, 32⟩
abbrev RF.VRN_LNK_DUP_COUNT : RF := ⟨.VRN_LNK_DUP, 0, 32⟩
abbrev RF.VRN_LNK_PROTO_COUNT : RF := ⟨.VRN_LNK_PROTO, 0, 32⟩
abbrev RF.VRN_LNK_FEC_CORR_COUNT : RF := ⟨.VRN_LNK_FEC_CORR, 0, 48⟩
abbrev RF.VRN_LNK_FEC_UNC_COUNT : RF := ⟨.VRN_LNK_FEC_UNC, 0, 32⟩
abbrev RF.VRN_LNK_UCW_LIMIT_LIMIT : RF := ⟨.VRN_LNK_UCW_LIMIT, 0, 16⟩
abbrev RF.VRN_LNK_FLITS_COUNT : RF := ⟨.VRN_LNK_FLITS, 0, 48⟩
abbrev RF.VRN_PRBS_CTL_PATTERN : RF := ⟨.VRN_PRBS_CTL, 0, 3⟩
abbrev RF.VRN_PRBS_CTL_GEN_EN : RF := ⟨.VRN_PRBS_CTL, 3, 1⟩
abbrev RF.VRN_PRBS_CTL_CHK_EN : RF := ⟨.VRN_PRBS_CTL, 4, 1⟩
abbrev RF.VRN_PRBS_CTL_FORCE : RF := ⟨.VRN_PRBS_CTL, 5, 1⟩
abbrev RF.VRN_PRBS_CTL_LOCKED : RF := ⟨.VRN_PRBS_CTL, 6, 1⟩
abbrev RF.VRN_PRBS_CTL_CLEAR : RF := ⟨.VRN_PRBS_CTL, 7, 1⟩
abbrev RF.VRN_PRBS_ERR_COUNT : RF := ⟨.VRN_PRBS_ERR, 0, 48⟩
abbrev RF.VRN_PRBS_BITS_COUNT : RF := ⟨.VRN_PRBS_BITS, 0, 48⟩
abbrev RF.VRN_PRBS_BER_BER : RF := ⟨.VRN_PRBS_BER, 0, 32⟩
abbrev RF.VRN_E2E_DUP_COUNT : RF := ⟨.VRN_E2E_DUP, 0, 32⟩
abbrev RF.VRN_E2E_STALE_COUNT : RF := ⟨.VRN_E2E_STALE, 0, 32⟩
abbrev RF.VRN_E2E_WAIT_COUNT : RF := ⟨.VRN_E2E_WAIT, 0, 48⟩
abbrev RF.VRN_PORTp_CTL_MEMBERS : RF := ⟨.VRN_PORTp_CTL, 0, 56⟩
abbrev RF.VRN_PORTp_CTL_ENABLE : RF := ⟨.VRN_PORTp_CTL, 56, 1⟩
abbrev RF.VRN_PORTp_CTL_CFG_ERR : RF := ⟨.VRN_PORTp_CTL, 57, 1⟩
abbrev RF.VRN_PORTp_STATE_LIVE : RF := ⟨.VRN_PORTp_STATE, 0, 5⟩
abbrev RF.VRN_PORTp_STATE_NARROWED : RF := ⟨.VRN_PORTp_STATE, 5, 1⟩
abbrev RF.VRN_PORTp_STATE_NARROWINGS : RF := ⟨.VRN_PORTp_STATE, 16, 16⟩
abbrev RF.FAB_UNIT_UNIT : RF := ⟨.FAB_UNIT, 0, 64⟩
abbrev RF.FAB_NUM_NUM : RF := ⟨.FAB_NUM, 0, 4⟩
abbrev RF.FAB_NUM_ASSIGNED : RF := ⟨.FAB_NUM, 4, 1⟩
abbrev RF.FAB_NUM_RACK : RF := ⟨.FAB_NUM, 5, 7⟩
abbrev RF.FAB_NUM_RACK_ASSIGNED : RF := ⟨.FAB_NUM, 12, 1⟩
abbrev RF.FAB_NUM_EPOCH : RF := ⟨.FAB_NUM, 16, 16⟩
abbrev RF.FAB_NUM_VERSION : RF := ⟨.FAB_NUM, 32, 8⟩
abbrev RF.FAB_CTL_POLICY : RF := ⟨.FAB_CTL, 0, 2⟩
abbrev RF.FAB_CTL_AUTO_WITHDRAW : RF := ⟨.FAB_CTL, 2, 1⟩
abbrev RF.FAB_CTL_WITHDRAW_US : RF := ⟨.FAB_CTL, 8, 8⟩
abbrev RF.FAB_CTL_FM_WAIT_MS : RF := ⟨.FAB_CTL, 16, 16⟩
abbrev RF.FAB_STATE_STATE : RF := ⟨.FAB_STATE, 0, 2⟩
abbrev RF.FAB_MEMBERS_JOINED : RF := ⟨.FAB_MEMBERS, 0, 16⟩
abbrev RF.FAB_MEMBERS_WITHDRAWN : RF := ⟨.FAB_MEMBERS, 16, 16⟩
abbrev RF.FAB_MEMBERS_REACHABLE : RF := ⟨.FAB_MEMBERS, 32, 16⟩
abbrev RF.FAB_MAP_GEN_GEN : RF := ⟨.FAB_MAP_GEN, 0, 32⟩
abbrev RF.FAB_FM_WORD : RF := ⟨.FAB_FM, 0, 64⟩
abbrev RF.FAB_TIME_CTL_MASTER : RF := ⟨.FAB_TIME_CTL, 0, 4⟩
abbrev RF.FAB_TIME_CTL_IS_MASTER : RF := ⟨.FAB_TIME_CTL, 4, 1⟩
abbrev RF.FAB_TIME_CTL_PPS_EN : RF := ⟨.FAB_TIME_CTL, 5, 1⟩
abbrev RF.FAB_TIME_CTL_STEP_EN : RF := ⟨.FAB_TIME_CTL, 6, 1⟩
abbrev RF.FAB_TIME_CTL_PPS_LOCK : RF := ⟨.FAB_TIME_CTL, 7, 1⟩
abbrev RF.FAB_TIME_CTL_TSTATE : RF := ⟨.FAB_TIME_CTL, 8, 3⟩
abbrev RF.FAB_TIME_OFFSET_OFFSET : RF := ⟨.FAB_TIME_OFFSET, 0, 32⟩
abbrev RF.FAB_TIME_SET_VALUE : RF := ⟨.FAB_TIME_SET, 0, 64⟩
abbrev RF.FAB_NUMCFG_NUMERICS : RF := ⟨.FAB_NUMCFG, 0, 8⟩
abbrev RF.FAB_NUMCFG_TABLES : RF := ⟨.FAB_NUMCFG, 8, 8⟩
abbrev RF.FAB_STALE_EPOCH_COUNT : RF := ⟨.FAB_STALE_EPOCH, 0, 32⟩
abbrev RF.FAB_HELD_LINKS : RF := ⟨.FAB_HELD, 0, 56⟩
abbrev RF.FAB_QUAR_LINKS : RF := ⟨.FAB_QUAR, 0, 56⟩
abbrev RF.FAB_REISSUE_REISSUED : RF := ⟨.FAB_REISSUE, 0, 32⟩
abbrev RF.FAB_REISSUE_TOO_OLD : RF := ⟨.FAB_REISSUE, 32, 32⟩
abbrev RF.FAB_NO_FAR_COUNT : RF := ⟨.FAB_NO_FAR, 0, 32⟩
abbrev RF.FAB_EVENT_LINK_HELD : RF := ⟨.FAB_EVENT, 0, 1⟩
abbrev RF.FAB_EVENT_QUARANTINE : RF := ⟨.FAB_EVENT, 1, 1⟩
abbrev RF.FAB_EVENT_MEMBER_CHANGE : RF := ⟨.FAB_EVENT, 2, 1⟩
abbrev RF.FAB_EVENT_TIME_STATE : RF := ⟨.FAB_EVENT, 3, 1⟩
abbrev RF.FAB_EVENT_FM_HELLO : RF := ⟨.FAB_EVENT, 4, 1⟩
abbrev RF.FAB_EPOCHn_EPOCH : RF := ⟨.FAB_EPOCHn, 0, 16⟩
abbrev RF.FAB_EPOCHn_VALID : RF := ⟨.FAB_EPOCHn, 16, 1⟩
abbrev RF.FAB_REACHp_REACH : RF := ⟨.FAB_REACHp, 0, 16⟩
abbrev RF.FAB_MAPp_WORD : RF := ⟨.FAB_MAPp, 0, 64⟩
abbrev RF.FAB_FARr_PORT : RF := ⟨.FAB_FARr, 0, 8⟩
abbrev RF.FAB_DISC_CTL_SEND : RF := ⟨.FAB_DISC_CTL, 0, 1⟩
abbrev RF.FAB_DISC_CTL_TX_BUSY : RF := ⟨.FAB_DISC_CTL, 1, 1⟩
abbrev RF.FAB_DISC_CTL_RX_VALID : RF := ⟨.FAB_DISC_CTL, 2, 1⟩
abbrev RF.FAB_DISC_TX_WORD : RF := ⟨.FAB_DISC_TX, 0, 64⟩
abbrev RF.FAB_DISC_RX_WORD : RF := ⟨.FAB_DISC_RX, 0, 64⟩
abbrev RF.HST_FN_WIN_BASE_BASE : RF := ⟨.HST_FN_WIN_BASE, 16, 41⟩
abbrev RF.HST_FN_WIN_ERR_CODE : RF := ⟨.HST_FN_WIN_ERR, 0, 4⟩
abbrev RF.HST_FN_WIN_ERR_WRITE : RF := ⟨.HST_FN_WIN_ERR, 4, 1⟩
abbrev RF.HST_FN_WIN_ERR_FROZEN : RF := ⟨.HST_FN_WIN_ERR, 5, 1⟩
abbrev RF.HST_FN_WIN_ERR_CFG : RF := ⟨.HST_FN_WIN_ERR, 6, 1⟩
abbrev RF.HST_FN_WIN_ERR_VALID : RF := ⟨.HST_FN_WIN_ERR, 7, 1⟩
abbrev RF.HST_FN_WIN_ERR_MORE : RF := ⟨.HST_FN_WIN_ERR, 8, 1⟩
abbrev RF.HST_FN_WIN_ERR_OFFSET : RF := ⟨.HST_FN_WIN_ERR, 28, 36⟩
abbrev RF.HST_FN_CTL_ERR_VECTOR : RF := ⟨.HST_FN_CTL, 0, 6⟩
abbrev RF.HST_FN_PASID_PASID : RF := ⟨.HST_FN_PASID, 0, 20⟩
abbrev RF.HST_FN_PASID_ENABLE : RF := ⟨.HST_FN_PASID, 31, 1⟩
abbrev RF.HST_FN_DMAq_BASE_BASE : RF := ⟨.HST_FN_DMAq_BASE, 12, 52⟩
abbrev RF.HST_FN_DMAq_CTL_ENABLE : RF := ⟨.HST_FN_DMAq_CTL, 0, 1⟩
abbrev RF.HST_FN_DMAq_CTL_ERR : RF := ⟨.HST_FN_DMAq_CTL, 1, 1⟩
abbrev RF.HST_FN_DMAq_CTL_SIZE : RF := ⟨.HST_FN_DMAq_CTL, 2, 4⟩
abbrev RF.HST_FN_DMAq_CTL_VECTOR : RF := ⟨.HST_FN_DMAq_CTL, 6, 6⟩
abbrev RF.HST_FN_DMAq_CTL_HEAD : RF := ⟨.HST_FN_DMAq_CTL, 16, 12⟩
abbrev RF.HST_FN_DMAq_BYTES_COUNT : RF := ⟨.HST_FN_DMAq_BYTES, 0, 48⟩
abbrev RF.HST_PORT_H0_WIDTH : RF := ⟨.HST_PORT_H0, 0, 4⟩
abbrev RF.HST_PORT_H0_SPEED : RF := ⟨.HST_PORT_H0, 4, 3⟩
abbrev RF.HST_PORT_H0_FLIT : RF := ⟨.HST_PORT_H0, 7, 1⟩
abbrev RF.HST_PORT_H0_UP : RF := ⟨.HST_PORT_H0, 8, 1⟩
abbrev RF.HST_PORT_H0_DOWNS : RF := ⟨.HST_PORT_H0, 16, 16⟩
abbrev RF.HST_PORT_CTL_CTO_MS : RF := ⟨.HST_PORT_CTL, 0, 8⟩
abbrev RF.HST_PORT_MSIX_DROP_COUNT : RF := ⟨.HST_PORT_MSIX_DROP, 0, 32⟩
abbrev RF.HST_PORT_TAGS_OUTSTANDING : RF := ⟨.HST_PORT_TAGS, 0, 10⟩
abbrev RF.HST_PORT_TAGS_QUARANTINED : RF := ⟨.HST_PORT_TAGS, 10, 10⟩
abbrev RF.HST_S0_STATE_STATE : RF := ⟨.HST_S0_STATE, 0, 3⟩
abbrev RF.HST_S0_STATE_CAUSE : RF := ⟨.HST_S0_STATE, 4, 4⟩
abbrev RF.HST_S0_STATE_WIDTH : RF := ⟨.HST_S0_STATE, 8, 4⟩
abbrev RF.HST_S0_STATE_SPEED : RF := ⟨.HST_S0_STATE, 12, 3⟩
abbrev RF.HST_S0_STATE_CXL : RF := ⟨.HST_S0_STATE, 15, 1⟩
abbrev RF.HST_PORT_EVENT_H0_LINK : RF := ⟨.HST_PORT_EVENT, 0, 1⟩
abbrev RF.HST_PORT_EVENT_S0_STATE : RF := ⟨.HST_PORT_EVENT, 1, 1⟩
abbrev RF.HST_PORT_EVENT_MSIX_DROP : RF := ⟨.HST_PORT_EVENT, 2, 1⟩
abbrev RF.PWR_MOD_CTL_TARGET : RF := ⟨.PWR_MOD_CTL, 0, 2⟩
abbrev RF.PWR_MOD_CTL_GO : RF := ⟨.PWR_MOD_CTL, 2, 1⟩
abbrev RF.PWR_MOD_CTL_DRAIN_MS : RF := ⟨.PWR_MOD_CTL, 8, 8⟩
abbrev RF.PWR_MOD_STAT_STATE : RF := ⟨.PWR_MOD_STAT, 0, 3⟩
abbrev RF.PWR_MOD_STAT_HALTED : RF := ⟨.PWR_MOD_STAT, 3, 1⟩
abbrev RF.PWR_MOD_STAT_CMD_ERR : RF := ⟨.PWR_MOD_STAT, 4, 1⟩
abbrev RF.PWR_MOD_STAT_SOURCE : RF := ⟨.PWR_MOD_STAT, 5, 2⟩
abbrev RF.PWR_PSTATE_TARGET : RF := ⟨.PWR_PSTATE, 0, 3⟩
abbrev RF.PWR_PSTATE_CURRENT : RF := ⟨.PWR_PSTATE, 3, 3⟩
abbrev RF.PWR_PSTATE_BUSY : RF := ⟨.PWR_PSTATE, 6, 1⟩
abbrev RF.PWR_CAP_WAFER_CAP : RF := ⟨.PWR_CAP_WAFER, 0, 15⟩
abbrev RF.PWR_CAP_CTL_ENABLE : RF := ⟨.PWR_CAP_CTL, 0, 1⟩
abbrev RF.PWR_CAP_CTL_HYST : RF := ⟨.PWR_CAP_CTL, 1, 5⟩
abbrev RF.PWR_GATE_GATE : RF := ⟨.PWR_GATE, 0, 6⟩
abbrev RF.PWR_EST_LAST : RF := ⟨.PWR_EST, 0, 16⟩
abbrev RF.PWR_EST_MEAN : RF := ⟨.PWR_EST, 16, 16⟩
abbrev RF.PWR_CAL_CALIBRATED : RF := ⟨.PWR_CAL, 0, 1⟩
abbrev RF.PWR_CAL_MEASURED : RF := ⟨.PWR_CAL, 16, 16⟩
abbrev RF.PWR_CAL_COUNT : RF := ⟨.PWR_CAL, 32, 32⟩
abbrev RF.PWR_THERM_CTL_WARN : RF := ⟨.PWR_THERM_CTL, 0, 8⟩
abbrev RF.PWR_THERM_CTL_RESUME : RF := ⟨.PWR_THERM_CTL, 8, 1⟩
abbrev RF.PWR_THERM_CTL_TRIPPED : RF := ⟨.PWR_THERM_CTL, 9, 1⟩
abbrev RF.PWR_THERM_CTL_SENSOR_FIELD : RF := ⟨.PWR_THERM_CTL, 10, 7⟩
abbrev RF.PWR_THERM_CTL_SENSOR_KIND : RF := ⟨.PWR_THERM_CTL, 17, 2⟩
abbrev RF.PWR_WAKE_ARM_MASK : RF := ⟨.PWR_WAKE_ARM, 0, 8⟩
abbrev RF.PWR_WAKE_ARM_TARGET : RF := ⟨.PWR_WAKE_ARM, 8, 1⟩
abbrev RF.PWR_EVENT_MODE_DONE : RF := ⟨.PWR_EVENT, 0, 1⟩
abbrev RF.PWR_EVENT_PSTATE_DONE : RF := ⟨.PWR_EVENT, 1, 1⟩
abbrev RF.PWR_EVENT_WORK_PENDING : RF := ⟨.PWR_EVENT, 2, 1⟩
abbrev RF.PWR_EVENT_CAP_UNMET : RF := ⟨.PWR_EVENT, 3, 1⟩
abbrev RF.PWR_EVENT_DROOP : RF := ⟨.PWR_EVENT, 4, 1⟩
abbrev RF.PWR_EVENT_THERM_WARN : RF := ⟨.PWR_EVENT, 5, 1⟩
abbrev RF.PWR_EVENT_THERM_TRIP : RF := ⟨.PWR_EVENT, 6, 1⟩
abbrev RF.PWR_EVENT_WAKE : RF := ⟨.PWR_EVENT, 7, 1⟩
abbrev RF.PWR_EVENT_CAL_FAULT : RF := ⟨.PWR_EVENT, 8, 1⟩
abbrev RF.PWR_ENERGY_TOTAL_UJ : RF := ⟨.PWR_ENERGY_TOTAL, 0, 64⟩
abbrev RF.PWR_ENERGY_RECOVERY_UJ : RF := ⟨.PWR_ENERGY_RECOVERY, 0, 64⟩
abbrev RF.PWR_ENERGY_OVERHEAD_UJ : RF := ⟨.PWR_ENERGY_OVERHEAD, 0, 64⟩
abbrev RF.PWR_PARn_CAP_CAP : RF := ⟨.PWR_PARn_CAP, 0, 15⟩
abbrev RF.PWR_PARn_CAP_GATE : RF := ⟨.PWR_PARn_CAP, 16, 6⟩
abbrev RF.PWR_PARn_ENERGY_UJ : RF := ⟨.PWR_PARn_ENERGY, 0, 64⟩
abbrev RF.PWR_FLD_CTL_TARGET : RF := ⟨.PWR_FLD_CTL, 0, 2⟩
abbrev RF.PWR_FLD_STAT_STATE : RF := ⟨.PWR_FLD_STAT, 0, 2⟩
abbrev RF.PWR_FLD_STAT_BUSY : RF := ⟨.PWR_FLD_STAT, 2, 1⟩
abbrev RF.PWR_FLD_STAT_CMD_ERR : RF := ⟨.PWR_FLD_STAT, 3, 1⟩
abbrev RF.PWR_FLD_STAT_GATE : RF := ⟨.PWR_FLD_STAT, 4, 6⟩
abbrev RF.PWR_FLD_STAT_STRETCHING : RF := ⟨.PWR_FLD_STAT, 10, 1⟩
abbrev RF.PWR_FLD_EST_LAST : RF := ⟨.PWR_FLD_EST, 0, 12⟩
abbrev RF.PWR_FLD_EST_STATIC : RF := ⟨.PWR_FLD_EST, 12, 12⟩
abbrev RF.PWR_FLD_GAIN_GAIN : RF := ⟨.PWR_FLD_GAIN, 0, 16⟩
abbrev RF.PWR_FLD_GAIN_STATIC : RF := ⟨.PWR_FLD_GAIN, 16, 12⟩
abbrev RF.PWR_FLD_VOLT_MEASURED : RF := ⟨.PWR_FLD_VOLT, 0, 12⟩
abbrev RF.PWR_FLD_VOLT_NOMINAL : RF := ⟨.PWR_FLD_VOLT, 12, 12⟩
abbrev RF.PWR_FLD_DROOP_COUNT : RF := ⟨.PWR_FLD_DROOP, 0, 32⟩
abbrev RF.PWR_FLD_STRETCH_COUNT : RF := ⟨.PWR_FLD_STRETCH, 0, 48⟩
abbrev RF.PWR_FLD_DROOP_THRESH_THRESH : RF := ⟨.PWR_FLD_DROOP_THRESH, 0, 24⟩
abbrev RF.PWR_FLD_TEMP_DIE : RF := ⟨.PWR_FLD_TEMP, 0, 8⟩
abbrev RF.PWR_FLD_TEMP_SENSOR : RF := ⟨.PWR_FLD_TEMP, 8, 8⟩
abbrev RF.PWR_FLD_TEMP_HBM : RF := ⟨.PWR_FLD_TEMP, 16, 8⟩
abbrev RF.PWR_FLD_ENERGY_UJ : RF := ⟨.PWR_FLD_ENERGY, 0, 64⟩
abbrev RF.HRT_SAG_CTL_PIN_EN : RF := ⟨.HRT_SAG_CTL, 0, 1⟩
abbrev RF.HRT_VIN_VIN : RF := ⟨.HRT_VIN, 0, 16⟩
abbrev RF.HRT_VIN_PLANE : RF := ⟨.HRT_VIN, 16, 16⟩
abbrev RF.HRT_HOLDUP_CAPACITANCE : RF := ⟨.HRT_HOLDUP, 0, 16⟩
abbrev RF.HRT_HOLDUP_HOLDUP_LOW : RF := ⟨.HRT_HOLDUP, 16, 1⟩
abbrev RF.HRT_HOLDUP_CHECKED : RF := ⟨.HRT_HOLDUP, 17, 1⟩
abbrev RF.HRT_SHADOW_STAT_VALID : RF := ⟨.HRT_SHADOW_STAT, 0, 1⟩
abbrev RF.HRT_SHADOW_STAT_OPEN : RF := ⟨.HRT_SHADOW_STAT, 16, 16⟩
abbrev RF.HRT_LEDGER_LAST_SLOT : RF := ⟨.HRT_LEDGER_LAST, 0, 4⟩
abbrev RF.HRT_LEDGER_LAST_STATUS : RF := ⟨.HRT_LEDGER_LAST, 4, 3⟩
abbrev RF.HRT_LEDGER_LAST_CAUSE : RF := ⟨.HRT_LEDGER_LAST, 8, 8⟩
abbrev RF.HRT_LEDGER_LAST_SEQ : RF := ⟨.HRT_LEDGER_LAST, 16, 32⟩
abbrev RF.HRT_LEDGER_UNREAD_SLOTS : RF := ⟨.HRT_LEDGER_UNREAD, 0, 16⟩
abbrev RF.HRT_LEDGER_WIN_SLOT : RF := ⟨.HRT_LEDGER_WIN, 0, 4⟩
abbrev RF.HRT_LEDGER_WIN_OFFSET : RF := ⟨.HRT_LEDGER_WIN, 11, 8⟩
abbrev RF.HRT_PWRFAIL_GLITCH_COUNT : RF := ⟨.HRT_PWRFAIL_GLITCH, 0, 32⟩
abbrev RF.HRT_LEDGER_DATA_WORD : RF := ⟨.HRT_LEDGER_DATA, 0, 64⟩
abbrev RF.RVE_LIFECYCLE_STATE : RF := ⟨.RVE_LIFECYCLE, 0, 3⟩
abbrev RF.RVE_LIFECYCLE_REFURB : RF := ⟨.RVE_LIFECYCLE, 3, 2⟩
abbrev RF.RVE_LIFECYCLE_DEBUG_UNLOCKED : RF := ⟨.RVE_LIFECYCLE, 5, 1⟩
abbrev RF.RVE_LIFECYCLE_OUT_OF_SERVICE : RF := ⟨.RVE_LIFECYCLE, 6, 1⟩
abbrev RF.RVE_LIFECYCLE_RECOVERY_MODE : RF := ⟨.RVE_LIFECYCLE, 7, 1⟩
abbrev RF.RVE_IMAGES_BOOTED : RF := ⟨.RVE_IMAGES, 0, 1⟩
abbrev RF.RVE_IMAGES_STAGED : RF := ⟨.RVE_IMAGES, 1, 1⟩
abbrev RF.RVE_IMAGES_CONFIRM : RF := ⟨.RVE_IMAGES, 2, 1⟩
abbrev RF.RVE_IMAGES_VERSIONS : RF := ⟨.RVE_IMAGES, 8, 32⟩
abbrev RF.RVE_RNG_DATA_DATA : RF := ⟨.RVE_RNG_DATA, 0, 32⟩
abbrev RF.RVE_RNG_DATA_VALID : RF := ⟨.RVE_RNG_DATA, 32, 1⟩
abbrev RF.RVE_RNG_DATA_ENTROPY_PENDING : RF := ⟨.RVE_RNG_DATA, 33, 1⟩
abbrev RF.RVE_RNG_DATA_FAULT : RF := ⟨.RVE_RNG_DATA, 34, 1⟩
abbrev RF.RVE_RNG_STAT_STATE : RF := ⟨.RVE_RNG_STAT, 0, 2⟩
abbrev RF.RVE_RNG_STAT_RERUNS : RF := ⟨.RVE_RNG_STAT, 2, 2⟩
abbrev RF.RVE_RNG_STAT_FAILURES : RF := ⟨.RVE_RNG_STAT, 16, 16⟩
abbrev RF.RVE_SCRUB_IN_PROGRESS : RF := ⟨.RVE_SCRUB, 0, 32⟩
abbrev RF.RVE_SCRUB_BLOCKED : RF := ⟨.RVE_SCRUB, 32, 32⟩
abbrev RF.RVE_FLDf_OWNER_PARISH : RF := ⟨.RVE_FLDf_OWNER, 0, 5⟩
abbrev RF.RVE_FLDf_OWNER_OWNED : RF := ⟨.RVE_FLDf_OWNER, 5, 1⟩
abbrev RF.RVE_FLDf_OWNER_SCRUBBING : RF := ⟨.RVE_FLDf_OWNER, 6, 1⟩
abbrev RF.RVE_FLDf_OWNER_VERIFY_FAIL : RF := ⟨.RVE_FLDf_OWNER, 7, 1⟩
abbrev RF.RVE_FLDf_OWNER_KEY_EPOCH : RF := ⟨.RVE_FLDf_OWNER, 32, 32⟩
abbrev RF.RVE_PARp_TAG_TAG : RF := ⟨.RVE_PARp_TAG, 0, 64⟩
abbrev RF.RVE_PARp_BIND_KEY_EPOCH : RF := ⟨.RVE_PARp_BIND, 0, 32⟩
abbrev RF.RVE_PARp_BIND_BOUND : RF := ⟨.RVE_PARp_BIND, 32, 1⟩
abbrev RF.RVE_PARp_BIND_KEY_LOADED : RF := ⟨.RVE_PARp_BIND, 33, 1⟩
abbrev RF.RVE_PARp_BIND_TENANT_KEY : RF := ⟨.RVE_PARp_BIND, 34, 1⟩
abbrev RF.RVE_PARp_BIND_ASSAY_GRANTED : RF := ⟨.RVE_PARp_BIND, 35, 1⟩
abbrev RF.WFR_RCV_CTL_AUTO : RF := ⟨.WFR_RCV_CTL, 0, 32⟩
abbrev RF.WFR_RCV_STALL_STALL : RF := ⟨.WFR_RCV_STALL, 0, 16⟩
abbrev RF.WFR_RCV_RESET_SCOPE : RF := ⟨.WFR_RCV_RESET, 0, 3⟩
abbrev RF.WFR_RCV_RESET_FIELD : RF := ⟨.WFR_RCV_RESET, 3, 7⟩
abbrev RF.WFR_RCV_RESET_CLASS : RF := ⟨.WFR_RCV_RESET, 10, 4⟩
abbrev RF.WFR_RCV_RESET_UNIT : RF := ⟨.WFR_RCV_RESET, 14, 4⟩
abbrev RF.WFR_RCV_RESET_PARISH : RF := ⟨.WFR_RCV_RESET, 18, 5⟩
abbrev RF.WFR_RCV_RESET_GO : RF := ⟨.WFR_RCV_RESET, 31, 1⟩
abbrev RF.WFR_RCV_RESET_BUSY : RF := ⟨.WFR_RCV_RESET, 32, 1⟩
abbrev RF.WFR_RCV_RESET_CMD_ERR : RF := ⟨.WFR_RCV_RESET, 33, 1⟩
abbrev RF.WFR_RCV_RESET_KEY : RF := ⟨.WFR_RCV_RESET, 48, 16⟩
abbrev RF.WFR_RCV_CMD_GO : RF := ⟨.WFR_RCV_CMD, 0, 1⟩
abbrev RF.WFR_RCV_HANG_VALID : RF := ⟨.WFR_RCV_HANG, 0, 1⟩
abbrev RF.WFR_RCV_HANG_MODE : RF := ⟨.WFR_RCV_HANG, 1, 1⟩
abbrev RF.WFR_RCV_HANG_PARISH : RF := ⟨.WFR_RCV_HANG, 2, 5⟩
abbrev RF.WFR_RCV_HANG_FIELD : RF := ⟨.WFR_RCV_HANG, 7, 7⟩
abbrev RF.WFR_RCV_HANG_STATE : RF := ⟨.WFR_RCV_HANG, 14, 3⟩
abbrev RF.WFR_RCV_HANG_SUSPECTS : RF := ⟨.WFR_RCV_HANG, 17, 4⟩
abbrev RF.WFR_RCV_HANG_MORE : RF := ⟨.WFR_RCV_HANG, 21, 1⟩
abbrev RF.WFR_RCV_HANG_SHEAF_SHEAF : RF := ⟨.WFR_RCV_HANG_SHEAF, 0, 64⟩
abbrev RF.WFR_RCV_COUNTS_RECOVERIES : RF := ⟨.WFR_RCV_COUNTS, 0, 16⟩
abbrev RF.WFR_RCV_COUNTS_INNOCENT : RF := ⟨.WFR_RCV_COUNTS, 16, 16⟩
abbrev RF.WFR_RCV_COUNTS_GUILTY : RF := ⟨.WFR_RCV_COUNTS, 32, 16⟩
abbrev RF.WFR_RCV_COUNTS_UNREPLAYED : RF := ⟨.WFR_RCV_COUNTS, 48, 16⟩
abbrev RF.WFR_RCV_EVENT_HANG : RF := ⟨.WFR_RCV_EVENT, 0, 1⟩
abbrev RF.WFR_RCV_EVENT_GUILTY : RF := ⟨.WFR_RCV_EVENT, 1, 1⟩
abbrev RF.WFR_RCV_EVENT_FENCE : RF := ⟨.WFR_RCV_EVENT, 2, 1⟩
abbrev RF.WFR_RCV_EVENT_FIELD_RETIRE : RF := ⟨.WFR_RCV_EVENT, 3, 1⟩
abbrev RF.WFR_RCV_EVENT_OUT_OF_SERVICE : RF := ⟨.WFR_RCV_EVENT, 4, 1⟩
abbrev RF.WFR_RCV_EVENT_ABORT_SENT : RF := ⟨.WFR_RCV_EVENT, 5, 1⟩
abbrev RF.WFR_RCV_EVENT_ABORT_RECEIVED : RF := ⟨.WFR_RCV_EVENT, 6, 1⟩
abbrev RF.WFR_RCV_ABORT_HANDLE : RF := ⟨.WFR_RCV_ABORT, 0, 16⟩
abbrev RF.WFR_RCV_ABORT_WAFER : RF := ⟨.WFR_RCV_ABORT, 16, 4⟩
abbrev RF.WFR_RCV_ABORT_RACK : RF := ⟨.WFR_RCV_ABORT, 20, 7⟩
abbrev RF.WFR_RCV_ABORT_STATUS : RF := ⟨.WFR_RCV_ABORT, 27, 8⟩
abbrev RF.WFR_RCV_ABORT_VALID : RF := ⟨.WFR_RCV_ABORT, 35, 1⟩
abbrev RF.WFR_RCV_WARM_COUNT : RF := ⟨.WFR_RCV_WARM, 0, 2⟩
abbrev RF.WFR_RCV_FRSTk_COUNTS : RF := ⟨.WFR_RCV_FRSTk, 0, 64⟩
abbrev RF.ASY_FRZ_CTL_FREEZE : RF := ⟨.ASY_FRZ_CTL, 0, 1⟩
abbrev RF.ASY_FRZ_CTL_THAW : RF := ⟨.ASY_FRZ_CTL, 1, 1⟩
abbrev RF.ASY_FRZ_CTL_PIN_EN : RF := ⟨.ASY_FRZ_CTL, 2, 1⟩
abbrev RF.ASY_FRZ_CTL_FABRIC_EN : RF := ⟨.ASY_FRZ_CTL, 3, 1⟩
abbrev RF.ASY_FRZ_CTL_BROADCAST : RF := ⟨.ASY_FRZ_CTL, 4, 1⟩
abbrev RF.ASY_FRZ_STAT_STATE : RF := ⟨.ASY_FRZ_STAT, 0, 2⟩
abbrev RF.ASY_FRZ_STAT_SOURCE : RF := ⟨.ASY_FRZ_STAT, 2, 2⟩
abbrev RF.ASY_FRZ_STAT_VIA_TAP : RF := ⟨.ASY_FRZ_STAT, 4, 1⟩
abbrev RF.ASY_FRZ_STAT_MORE : RF := ⟨.ASY_FRZ_STAT, 5, 1⟩
abbrev RF.ASY_FRZ_STAT_FREEZE_ID : RF := ⟨.ASY_FRZ_STAT, 6, 16⟩
abbrev RF.ASY_FRZ_STAT_ORIGIN : RF := ⟨.ASY_FRZ_STAT, 22, 4⟩
abbrev RF.ASY_FRZ_FTIME_TIME : RF := ⟨.ASY_FRZ_FTIME, 0, 64⟩
abbrev RF.ASY_FRZ_UNREACHED_LO_FIELDS : RF := ⟨.ASY_FRZ_UNREACHED_LO, 0, 64⟩
abbrev RF.ASY_FRZ_UNREACHED_HI_FIELDS : RF := ⟨.ASY_FRZ_UNREACHED_HI, 0, 16⟩
abbrev RF.ASY_FRZ_IGNORED_COUNT : RF := ⟨.ASY_FRZ_IGNORED, 0, 32⟩
abbrev RF.ASY_WIN_CTL_FIELD : RF := ⟨.ASY_WIN_CTL, 0, 7⟩
abbrev RF.ASY_WIN_CTL_CHAIN : RF := ⟨.ASY_WIN_CTL, 7, 7⟩
abbrev RF.ASY_WIN_CTL_KIND : RF := ⟨.ASY_WIN_CTL, 14, 2⟩
abbrev RF.ASY_WIN_CTL_GO : RF := ⟨.ASY_WIN_CTL, 16, 1⟩
abbrev RF.ASY_WIN_CTL_BUSY : RF := ⟨.ASY_WIN_CTL, 17, 1⟩
abbrev RF.ASY_WIN_CTL_DENIED : RF := ⟨.ASY_WIN_CTL, 18, 1⟩
abbrev RF.ASY_WIN_ADDR_ADDR : RF := ⟨.ASY_WIN_ADDR, 0, 64⟩
abbrev RF.ASY_WIN_LEN_LEN : RF := ⟨.ASY_WIN_LEN, 0, 12⟩
abbrev RF.ASY_WIN_DATA_WORD : RF := ⟨.ASY_WIN_DATA, 0, 64⟩
abbrev RF.ASY_FLD_STAT_STOPPED : RF := ⟨.ASY_FLD_STAT, 0, 1⟩
abbrev RF.ASY_FLD_STAT_DEFERRED : RF := ⟨.ASY_FLD_STAT, 1, 1⟩
abbrev RF.ASY_FLD_STAT_PASS_THROUGH : RF := ⟨.ASY_FLD_STAT, 2, 1⟩
abbrev RF.ASY_FLD_ARRIVE_STAMP : RF := ⟨.ASY_FLD_ARRIVE, 0, 64⟩
abbrev RF.ASY_FLD_STOP_STAMP : RF := ⟨.ASY_FLD_STOP, 0, 64⟩
abbrev RF.ASY_FLD_MILL_CYCLES : RF := ⟨.ASY_FLD_MILL, 0, 64⟩
abbrev RF.ASY_FLD_CROF_CYCLES : RF := ⟨.ASY_FLD_CROF, 0, 64⟩
abbrev RF.ASY_FLD_STAMP_STAMP : RF := ⟨.ASY_FLD_STAMP, 0, 64⟩
abbrev RF.BIS_CTL_SUITE : RF := ⟨.BIS_CTL, 0, 4⟩
abbrev RF.BIS_CTL_GO : RF := ⟨.BIS_CTL, 4, 1⟩
abbrev RF.BIS_CTL_ABORT : RF := ⟨.BIS_CTL, 5, 1⟩
abbrev RF.BIS_CTL_H0_LOOP : RF := ⟨.BIS_CTL, 6, 1⟩
abbrev RF.BIS_CTL_FIXTURE : RF := ⟨.BIS_CTL, 7, 1⟩
abbrev RF.BIS_CTL_EXT_LOOP : RF := ⟨.BIS_CTL, 8, 1⟩
abbrev RF.BIS_STAT_STATE : RF := ⟨.BIS_STAT, 0, 3⟩
abbrev RF.BIS_STAT_TEST : RF := ⟨.BIS_STAT, 3, 3⟩
abbrev RF.BIS_STAT_CMD_ERR : RF := ⟨.BIS_STAT, 6, 1⟩
abbrev RF.BIS_STAT_ORIGIN : RF := ⟨.BIS_STAT, 7, 2⟩
abbrev RF.BIS_STAT_ELAPSED_MS : RF := ⟨.BIS_STAT, 16, 16⟩
abbrev RF.BIS_RESULTt_CODE : RF := ⟨.BIS_RESULTt, 0, 3⟩
abbrev RF.BIS_RESULTt_FAULTS : RF := ⟨.BIS_RESULTt, 16, 16⟩
abbrev RF.BIS_RESULTt_DURATION_US : RF := ⟨.BIS_RESULTt, 32, 32⟩
abbrev RF.BIS_SEAM_FAILk_BITS : RF := ⟨.BIS_SEAM_FAILk, 0, 64⟩
abbrev RF.BIS_SEAM_REPk_BITS : RF := ⟨.BIS_SEAM_REPk, 0, 64⟩
abbrev RF.BIS_BUMP_FAIL_LO_BITS : RF := ⟨.BIS_BUMP_FAIL_LO, 0, 64⟩
abbrev RF.BIS_BUMP_FAIL_HI_BITS : RF := ⟨.BIS_BUMP_FAIL_HI, 0, 64⟩
abbrev RF.BIS_LOOP_FAIL_LO_BITS : RF := ⟨.BIS_LOOP_FAIL_LO, 0, 64⟩
abbrev RF.BIS_LOOP_FAIL_HI_BITS : RF := ⟨.BIS_LOOP_FAIL_HI, 0, 64⟩
abbrev RF.BIS_LOOP_SKIP_LO_BITS : RF := ⟨.BIS_LOOP_SKIP_LO, 0, 64⟩
abbrev RF.BIS_LOOP_SKIP_HI_BITS : RF := ⟨.BIS_LOOP_SKIP_HI, 0, 64⟩
abbrev RF.BIS_PIN_FAIL_COUNT : RF := ⟨.BIS_PIN_FAIL, 0, 9⟩
abbrev RF.BIS_PIN_FAIL_FIRST : RF := ⟨.BIS_PIN_FAIL, 9, 9⟩
abbrev RF.BIS_LOG_HEAD_RECORDS : RF := ⟨.BIS_LOG_HEAD, 0, 7⟩
abbrev RF.BIS_LOG_HEAD_OVERFLOW : RF := ⟨.BIS_LOG_HEAD, 7, 1⟩
abbrev RF.BIS_LOG_HEAD_FAULTS : RF := ⟨.BIS_LOG_HEAD, 16, 16⟩
abbrev RF.BIS_LOGk_WORD : RF := ⟨.BIS_LOGk, 0, 64⟩
abbrev RF.HDR_ID_TYPE : RF := ⟨.HDR_ID, 0, 12⟩
abbrev RF.HDR_ID_INSTANCE : RF := ⟨.HDR_ID, 12, 8⟩
abbrev RF.HDR_ID_FIELD : RF := ⟨.HDR_ID, 20, 7⟩
abbrev RF.HDR_ID_REVISION : RF := ⟨.HDR_ID, 28, 4⟩
abbrev RF.HDR_CAP_ERR_SRC : RF := ⟨.HDR_CAP, 0, 1⟩
abbrev RF.HDR_CAP_EVENT_SRC : RF := ⟨.HDR_CAP, 1, 1⟩
abbrev RF.HDR_CAP_FREEZE_ALIVE : RF := ⟨.HDR_CAP, 2, 1⟩
abbrev RF.HDR_CAP_SPINE_HOSTED : RF := ⟨.HDR_CAP, 3, 1⟩
abbrev RF.HDR_CAP_VF_VISIBLE : RF := ⟨.HDR_CAP, 4, 1⟩
abbrev RF.HDR_IRQ_STAT_ERR : RF := ⟨.HDR_IRQ_STAT, 0, 1⟩
abbrev RF.HDR_IRQ_STAT_EVENT : RF := ⟨.HDR_IRQ_STAT, 1, 1⟩
abbrev RF.HDR_IRQ_STAT_WRITE : RF := ⟨.HDR_IRQ_STAT, 2, 1⟩
abbrev RF.HDR_IRQ_EN_ERR_EN : RF := ⟨.HDR_IRQ_EN, 0, 1⟩
abbrev RF.HDR_IRQ_EN_EVENT_EN : RF := ⟨.HDR_IRQ_EN, 1, 1⟩
abbrev RF.HDR_IRQ_EN_WRITE_EN : RF := ⟨.HDR_IRQ_EN, 2, 1⟩
abbrev RF.HDR_ERR_TIME_TIME : RF := ⟨.HDR_ERR_TIME, 0, 64⟩
abbrev RF.HDR_SCRATCH_SCRATCH : RF := ⟨.HDR_SCRATCH, 0, 64⟩
abbrev RF.HDR_WRITE_ERR_OFFSET : RF := ⟨.HDR_WRITE_ERR, 0, 12⟩
abbrev RF.HDR_WRITE_ERR_CAUSE : RF := ⟨.HDR_WRITE_ERR, 12, 2⟩
abbrev RF.HDR_WRITE_ERR_VALID : RF := ⟨.HDR_WRITE_ERR, 14, 1⟩
abbrev RF.HDR_WRITE_ERR_MORE : RF := ⟨.HDR_WRITE_ERR, 15, 1⟩
abbrev RF.FLD_IRQ_STAT_LINES : RF := ⟨.FLD_IRQ_STAT, 0, 64⟩
abbrev RF.FLD_IRQ_MASK_MASK : RF := ⟨.FLD_IRQ_MASK, 0, 64⟩
abbrev RF.FLD_IRQ_SUM_LINE : RF := ⟨.FLD_IRQ_SUM, 0, 1⟩
abbrev RF.WFR_IRQ_CTL_HOLDOFF : RF := ⟨.WFR_IRQ_CTL, 0, 16⟩
abbrev RF.WFR_IRQ_CTL_REARM : RF := ⟨.WFR_IRQ_CTL, 16, 1⟩
abbrev RF.WFR_IRQ_SUM_LINE : RF := ⟨.WFR_IRQ_SUM, 0, 1⟩
abbrev RF.WFR_IRQ_SUM_PENDING : RF := ⟨.WFR_IRQ_SUM, 1, 1⟩
abbrev RF.WFR_IRQ_FLD_LO_LINES : RF := ⟨.WFR_IRQ_FLD_LO, 0, 64⟩
abbrev RF.WFR_IRQ_FLD_HI_LINES : RF := ⟨.WFR_IRQ_FLD_HI, 0, 16⟩
abbrev RF.WFR_IRQ_FMASK_LO_MASK : RF := ⟨.WFR_IRQ_FMASK_LO, 0, 64⟩
abbrev RF.WFR_IRQ_FMASK_HI_MASK : RF := ⟨.WFR_IRQ_FMASK_HI, 0, 16⟩
abbrev RF.WFR_IRQ_PAGEk_LINES : RF := ⟨.WFR_IRQ_PAGEk, 0, 64⟩
abbrev RF.WFR_IRQ_PMASKk_MASK : RF := ⟨.WFR_IRQ_PMASKk, 0, 64⟩
abbrev RF.WFR_IRQ_SENT_SENT : RF := ⟨.WFR_IRQ_SENT, 0, 32⟩
abbrev RF.WFR_IRQ_SENT_COALESCED : RF := ⟨.WFR_IRQ_SENT, 32, 32⟩
abbrev RF.WFR_ID_PART_PART : RF := ⟨.WFR_ID_PART, 0, 16⟩
abbrev RF.WFR_ID_PART_SILICON : RF := ⟨.WFR_ID_PART, 16, 4⟩
abbrev RF.WFR_ID_PART_LAYOUT : RF := ⟨.WFR_ID_PART, 20, 4⟩
abbrev RF.WFR_ID_UNIT_UNIT : RF := ⟨.WFR_ID_UNIT, 0, 64⟩
abbrev RF.WFR_ID_ARRAY_WORD : RF := ⟨.WFR_ID_ARRAY, 0, 64⟩
abbrev RF.WFR_ID_MEM_WORD : RF := ⟨.WFR_ID_MEM, 0, 64⟩
abbrev RF.WFR_ID_LINKS_WORD : RF := ⟨.WFR_ID_LINKS, 0, 64⟩
abbrev RF.WFR_ID_VERSIONS_WORD : RF := ⟨.WFR_ID_VERSIONS, 0, 64⟩
abbrev RF.WFR_ID_CODECS_WORD : RF := ⟨.WFR_ID_CODECS, 0, 64⟩
abbrev RF.WFR_ID_CLOCKS_WORD : RF := ⟨.WFR_ID_CLOCKS, 0, 64⟩
abbrev RF.WFR_ID_SHIP_SHIPPED : RF := ⟨.WFR_ID_SHIP, 0, 7⟩
abbrev RF.WFR_FLD_COUNT_IN_SERVICE : RF := ⟨.WFR_FLD_COUNT, 0, 7⟩
abbrev RF.WFR_FLD_COUNT_BELOW_RATED : RF := ⟨.WFR_FLD_COUNT, 7, 1⟩
abbrev RF.WFR_FLD_COUNT_PASS_THROUGH : RF := ⟨.WFR_FLD_COUNT, 8, 7⟩
abbrev RF.WFR_FLD_COUNT_HOLES : RF := ⟨.WFR_FLD_COUNT, 15, 7⟩
abbrev RF.WFR_FLD_COUNT_AT_BOOT : RF := ⟨.WFR_FLD_COUNT, 22, 7⟩
abbrev RF.WFR_FLD_INSVC_LO_FIELDS : RF := ⟨.WFR_FLD_INSVC_LO, 0, 64⟩
abbrev RF.WFR_FLD_INSVC_HI_FIELDS : RF := ⟨.WFR_FLD_INSVC_HI, 0, 16⟩
abbrev RF.WFR_FLD_HOLE_LO_FIELDS : RF := ⟨.WFR_FLD_HOLE_LO, 0, 64⟩
abbrev RF.WFR_FLD_HOLE_HI_FIELDS : RF := ⟨.WFR_FLD_HOLE_HI, 0, 16⟩
abbrev RF.WFR_SEAM_GEN_GEN : RF := ⟨.WFR_SEAM_GEN, 0, 32⟩
abbrev RF.WFR_FLD_EVENT_RETIRE : RF := ⟨.WFR_FLD_EVENT, 0, 1⟩
abbrev RF.WFR_FLD_EVENT_FENCE : RF := ⟨.WFR_FLD_EVENT, 1, 1⟩
abbrev RF.WFR_FLD_EVENT_SPARE : RF := ⟨.WFR_FLD_EVENT, 2, 1⟩
abbrev RF.WFR_FLD_EVENT_BELOW_RATED : RF := ⟨.WFR_FLD_EVENT, 3, 1⟩
abbrev RF.WFR_FLD_EVENT_OVERFLOW : RF := ⟨.WFR_FLD_EVENT, 4, 1⟩
abbrev RF.WFR_FLD_EVT_HEAD_HEAD : RF := ⟨.WFR_FLD_EVT_HEAD, 0, 5⟩
abbrev RF.WFR_FLD_EVT_TAIL_TAIL : RF := ⟨.WFR_FLD_EVT_TAIL, 0, 5⟩
abbrev RF.WFR_FLD_EVT_LOST_COUNT : RF := ⟨.WFR_FLD_EVT_LOST, 0, 32⟩
abbrev RF.WFR_FLD_CAPACITY_QUERNS : RF := ⟨.WFR_FLD_CAPACITY, 0, 10⟩
abbrev RF.WFR_FLD_CAPACITY_SIEVES : RF := ⟨.WFR_FLD_CAPACITY, 10, 8⟩
abbrev RF.WFR_FLD_CAPACITY_CROFTERS : RF := ⟨.WFR_FLD_CAPACITY, 18, 11⟩
abbrev RF.WFR_FLD_CAPACITY_SCREES : RF := ⟨.WFR_FLD_CAPACITY, 29, 7⟩
abbrev RF.WFR_FLD_CAPACITY_CAIRNS : RF := ⟨.WFR_FLD_CAPACITY, 36, 7⟩
abbrev RF.WFR_FLD_CAPACITY_LOOMS : RF := ⟨.WFR_FLD_CAPACITY, 43, 6⟩
abbrev RF.WFR_FLDf_STATUS_STATE : RF := ⟨.WFR_FLDf_STATUS, 0, 2⟩
abbrev RF.WFR_FLDf_STATUS_CAUSE : RF := ⟨.WFR_FLDf_STATUS, 2, 4⟩
abbrev RF.WFR_FLDf_STATUS_HBM_LOSS : RF := ⟨.WFR_FLDf_STATUS, 6, 3⟩
abbrev RF.WFR_FLDf_STATUS_AT_BOOT : RF := ⟨.WFR_FLDf_STATUS, 9, 1⟩
abbrev RF.WFR_FLDf_STATUS_QRN_FENCED : RF := ⟨.WFR_FLDf_STATUS, 10, 9⟩
abbrev RF.WFR_FLDf_STATUS_SPARE_IN_USE : RF := ⟨.WFR_FLDf_STATUS, 19, 1⟩
abbrev RF.WFR_FLDf_STATUS_SIV_FENCED : RF := ⟨.WFR_FLDf_STATUS, 20, 2⟩
abbrev RF.WFR_FLDf_STATUS_SCR_FENCED : RF := ⟨.WFR_FLDf_STATUS, 22, 1⟩
abbrev RF.WFR_FLDf_STATUS_CRN_FENCED : RF := ⟨.WFR_FLDf_STATUS, 23, 1⟩
abbrev RF.WFR_FLDf_STATUS_LOM_PRESENT : RF := ⟨.WFR_FLDf_STATUS, 24, 1⟩
abbrev RF.WFR_FLDf_STATUS_LOM_FENCED : RF := ⟨.WFR_FLDf_STATUS, 25, 1⟩
abbrev RF.WFR_FLDf_STATUS_PARISH : RF := ⟨.WFR_FLDf_STATUS, 26, 5⟩
abbrev RF.WFR_FLDf_STATUS_IN_PARISH : RF := ⟨.WFR_FLDf_STATUS, 31, 1⟩
abbrev RF.WFR_FLDf_STATUS_CRF_FENCED : RF := ⟨.WFR_FLDf_STATUS, 32, 16⟩
abbrev RF.WFR_FLD_EVTk_WORD : RF := ⟨.WFR_FLD_EVTk, 0, 64⟩
abbrev RF.WFR_SPREAD_CTL_ENABLE : RF := ⟨.WFR_SPREAD_CTL, 0, 1⟩
abbrev RF.WFR_SPREAD_CTL_BUSY : RF := ⟨.WFR_SPREAD_CTL, 1, 1⟩
abbrev RF.WFR_SPREAD_CTL_WRITE_ERR : RF := ⟨.WFR_SPREAD_CTL, 2, 1⟩
abbrev RF.WFR_SPREAD_CTL_OWNER : RF := ⟨.WFR_SPREAD_CTL, 8, 6⟩
abbrev RF.WFR_SPREAD_SLOTS_S : RF := ⟨.WFR_SPREAD_SLOTS, 0, 7⟩
abbrev RF.WFR_SPREAD_BASE_BASE : RF := ⟨.WFR_SPREAD_BASE, 16, 19⟩
abbrev RF.WFR_SPREAD_SIZE_SIZE : RF := ⟨.WFR_SPREAD_SIZE, 16, 20⟩
abbrev RF.WFR_SPREAD_GEN_GEN : RF := ⟨.WFR_SPREAD_GEN, 0, 32⟩
abbrev RF.WFR_SPREAD_LOST_LO_LOST : RF := ⟨.WFR_SPREAD_LOST_LO, 0, 64⟩
abbrev RF.WFR_SPREAD_LOST_HI_LOST : RF := ⟨.WFR_SPREAD_LOST_HI, 0, 16⟩
abbrev RF.WFR_SPREAD_SLOTk_FIELD0 : RF := ⟨.WFR_SPREAD_SLOTk, 0, 7⟩
abbrev RF.WFR_SPREAD_SLOTk_LOST0 : RF := ⟨.WFR_SPREAD_SLOTk, 7, 1⟩
abbrev RF.WFR_SPREAD_SLOTk_VALID0 : RF := ⟨.WFR_SPREAD_SLOTk, 15, 1⟩
abbrev RF.WFR_SPREAD_SLOTk_FIELD1 : RF := ⟨.WFR_SPREAD_SLOTk, 16, 7⟩
abbrev RF.WFR_SPREAD_SLOTk_LOST1 : RF := ⟨.WFR_SPREAD_SLOTk, 23, 1⟩
abbrev RF.WFR_SPREAD_SLOTk_VALID1 : RF := ⟨.WFR_SPREAD_SLOTk, 31, 1⟩
abbrev RF.WFR_SPREAD_SLOTk_FIELD2 : RF := ⟨.WFR_SPREAD_SLOTk, 32, 7⟩
abbrev RF.WFR_SPREAD_SLOTk_LOST2 : RF := ⟨.WFR_SPREAD_SLOTk, 39, 1⟩
abbrev RF.WFR_SPREAD_SLOTk_VALID2 : RF := ⟨.WFR_SPREAD_SLOTk, 47, 1⟩
abbrev RF.WFR_SPREAD_SLOTk_FIELD3 : RF := ⟨.WFR_SPREAD_SLOTk, 48, 7⟩
abbrev RF.WFR_SPREAD_SLOTk_LOST3 : RF := ⟨.WFR_SPREAD_SLOTk, 55, 1⟩
abbrev RF.WFR_SPREAD_SLOTk_VALID3 : RF := ⟨.WFR_SPREAD_SLOTk, 63, 1⟩
abbrev RF.RVE_MBX_CMD_CODE : RF := ⟨.RVE_MBX_CMD, 0, 8⟩
abbrev RF.RVE_MBX_CMD_LENGTH : RF := ⟨.RVE_MBX_CMD, 8, 13⟩
abbrev RF.RVE_MBX_CMD_GO : RF := ⟨.RVE_MBX_CMD, 31, 1⟩
abbrev RF.RVE_MBX_STAT_BUSY : RF := ⟨.RVE_MBX_STAT, 0, 1⟩
abbrev RF.RVE_MBX_STAT_RESULT : RF := ⟨.RVE_MBX_STAT, 8, 8⟩
abbrev RF.RVE_MBX_STAT_RESP_LENGTH : RF := ⟨.RVE_MBX_STAT, 16, 13⟩
abbrev RF.RVE_MBX_STAT_COMPLETED : RF := ⟨.RVE_MBX_STAT, 32, 32⟩
abbrev RF.RVE_MBX_WIN_HALF : RF := ⟨.RVE_MBX_WIN, 0, 1⟩
abbrev RF.RVE_MBX_WIN_BUF : RF := ⟨.RVE_MBX_WIN, 1, 1⟩
abbrev RF.RVE_MBX_EVENT_DONE : RF := ⟨.RVE_MBX_EVENT, 0, 1⟩
abbrev RF.RVE_MBX_EVENT_REJECTED : RF := ⟨.RVE_MBX_EVENT, 1, 1⟩
abbrev RF.RVE_MBX_DATA_WORD : RF := ⟨.RVE_MBX_DATA, 0, 64⟩
abbrev RF.HRT_SYS_ID_FW_VERSION : RF := ⟨.HRT_SYS_ID, 0, 16⟩
abbrev RF.HRT_SYS_ID_BUILD : RF := ⟨.HRT_SYS_ID, 16, 32⟩
abbrev RF.HRT_SYS_STATE_HEARTH_STATE : RF := ⟨.HRT_SYS_STATE, 0, 10⟩
abbrev RF.HRT_SYS_STATE_POWER_UPS : RF := ⟨.HRT_SYS_STATE, 32, 32⟩
abbrev RF.HRT_SYS_UPTIME_CYCLES : RF := ⟨.HRT_SYS_UPTIME, 0, 64⟩
abbrev RF.HRT_SMB_STAT_PEC : RF := ⟨.HRT_SMB_STAT, 0, 16⟩
abbrev RF.HRT_SMB_STAT_MALFORMED : RF := ⟨.HRT_SMB_STAT, 16, 16⟩
abbrev RF.HRT_SMB_STAT_EID : RF := ⟨.HRT_SMB_STAT, 32, 8⟩
abbrev RF.HRT_PSTORE_STAT_COMMITTED : RF := ⟨.HRT_PSTORE_STAT, 0, 16⟩
abbrev RF.HRT_PSTORE_STAT_TORN : RF := ⟨.HRT_PSTORE_STAT, 16, 1⟩
abbrev RF.HRT_PSTORE_STAT_ITEMS : RF := ⟨.HRT_PSTORE_STAT, 24, 8⟩
abbrev RF.CRI_STAT_BAD_WRITE : RF := ⟨.CRI_STAT, 0, 16⟩
abbrev RF.CRI_STAT_BAD_CYCLE : RF := ⟨.CRI_STAT, 16, 16⟩
abbrev RF.CRI_STAT_DROPPED : RF := ⟨.CRI_STAT, 32, 16⟩
abbrev RF.CRI_READS_COUNT : RF := ⟨.CRI_READS, 0, 48⟩
abbrev RF.CRI_CTL_BUS_EN : RF := ⟨.CRI_CTL, 0, 1⟩
abbrev RF.CRI_CTL_MBX_EN : RF := ⟨.CRI_CTL, 1, 1⟩
abbrev RF.CRI_ROLL_SEQ : RF := ⟨.CRI_ROLL, 0, 32⟩
abbrev RF.CRI_ROLL_VALID : RF := ⟨.CRI_ROLL, 32, 10⟩
abbrev RF.CRI_WIN_QUARTER : RF := ⟨.CRI_WIN, 0, 2⟩
abbrev RF.CRI_MIRROR_WORD : RF := ⟨.CRI_MIRROR, 0, 64⟩
abbrev RF.GPIO_FUNC_FUNC : RF := ⟨.GPIO_FUNC, 0, 32⟩
abbrev RF.GPIO_DIR_DIR : RF := ⟨.GPIO_DIR, 0, 32⟩
abbrev RF.GPIO_OD_OD : RF := ⟨.GPIO_OD, 0, 32⟩
abbrev RF.GPIO_PULL_LO_PULL : RF := ⟨.GPIO_PULL_LO, 0, 32⟩
abbrev RF.GPIO_PULL_HI_PULL : RF := ⟨.GPIO_PULL_HI, 0, 32⟩
abbrev RF.GPIO_OUT_OUT : RF := ⟨.GPIO_OUT, 0, 32⟩
abbrev RF.GPIO_OUT_SET_SET : RF := ⟨.GPIO_OUT_SET, 0, 32⟩
abbrev RF.GPIO_OUT_CLR_CLR : RF := ⟨.GPIO_OUT_CLR, 0, 32⟩
abbrev RF.GPIO_IRQ_MODE_LO_MODE : RF := ⟨.GPIO_IRQ_MODE_LO, 0, 48⟩
abbrev RF.GPIO_IRQ_MODE_HI_MODE : RF := ⟨.GPIO_IRQ_MODE_HI, 0, 48⟩
abbrev RF.GPIO_IRQ_STAT_STAT : RF := ⟨.GPIO_IRQ_STAT, 0, 32⟩
abbrev RF.GPIO_LOCK_KEY_KEY : RF := ⟨.GPIO_LOCK_KEY, 0, 16⟩
abbrev RF.GPIO_LOCK_SET_MASK : RF := ⟨.GPIO_LOCK_SET, 0, 32⟩
abbrev RF.GPIO_PWMk_DUTY : RF := ⟨.GPIO_PWMk, 0, 9⟩
abbrev RF.GPIO_I2Cn_ADDRESS : RF := ⟨.GPIO_I2Cn, 0, 7⟩
abbrev RF.GPIO_I2Cn_READ : RF := ⟨.GPIO_I2Cn, 7, 1⟩
abbrev RF.GPIO_I2Cn_LENGTH : RF := ⟨.GPIO_I2Cn, 8, 3⟩
abbrev RF.GPIO_I2Cn_GO : RF := ⟨.GPIO_I2Cn, 11, 1⟩
abbrev RF.GPIO_I2Cn_BUSY : RF := ⟨.GPIO_I2Cn, 12, 1⟩
abbrev RF.GPIO_I2Cn_NACK : RF := ⟨.GPIO_I2Cn, 13, 1⟩
abbrev RF.GPIO_I2Cn_DATA_DATA : RF := ⟨.GPIO_I2Cn_DATA, 0, 64⟩
abbrev RF.GPIO_IN_LEVEL : RF := ⟨.GPIO_IN, 0, 32⟩
abbrev RF.GPIO_LOCKED_LOCKED : RF := ⟨.GPIO_LOCKED, 0, 32⟩
abbrev RF.GPIO_TACHk_RPM : RF := ⟨.GPIO_TACHk, 0, 16⟩
abbrev RF.GPIO_STAT_LOCK_ERR : RF := ⟨.GPIO_STAT, 0, 1⟩
abbrev RF.GPIO_STAT_CMD_ERR : RF := ⟨.GPIO_STAT, 1, 1⟩
abbrev RF.GPIO_STAT_SMB_ADDR : RF := ⟨.GPIO_STAT, 4, 7⟩
abbrev RF.WFR_BOOT_STATUS_WORD : RF := ⟨.WFR_BOOT_STATUS, 0, 64⟩

end Sys2Proof.Machine
end

