-- ==== Sys2Proof/Machine/Map.lean ====
section
/-! DEFINITION. Sparse tables as plain data: lists of key and value pairs in one canonical form,
keys strictly rising and no entry equal to what an unlisted key reads as. -/

namespace Sys2Proof.Machine

/-- What key `k` reads as; `d` gives the value of an unlisted key. -/
def mapGet {K V : Type} [DecidableEq K] (d : K → V) (k : K) : List (K × V) → V
  | [] => d k
  | (k', v) :: r => if k' = k then v else mapGet d k r

/-- Remove every entry of `k`. -/
def mapErase {K V : Type} [DecidableEq K] (k : K) : List (K × V) → List (K × V)
  | [] => []
  | (k', v) :: r => if k' = k then mapErase k r else (k', v) :: mapErase k r

/-- Put an entry at its place in the rising order of `ord`. -/
def mapInsert {K V : Type} [DecidableEq K] (ord : K → Nat) (k : K) (v : V) :
    List (K × V) → List (K × V)
  | [] => [(k, v)]
  | (k', v') :: r =>
    if k' = k then (k, v) :: r
    else if ord k < ord k' then (k, v) :: (k', v') :: r
    else (k', v') :: mapInsert ord k v r

/-- Write a key: the default value is stored by not listing the key. -/
def mapSet {K V : Type} [DecidableEq K] [DecidableEq V] (ord : K → Nat) (d : K → V)
    (k : K) (v : V) (m : List (K × V)) : List (K × V) :=
  if v = d k then mapErase k m else mapInsert ord k v m

/-- The canonical form: keys strictly rising, no default value listed. -/
def mapWf {K V : Type} [DecidableEq V] (ord : K → Nat) (d : K → V) : List (K × V) → Bool
  | [] => true
  | (k, v) :: r =>
    decide (v ≠ d k) && r.all (fun e => decide (ord k < ord e.1)) && mapWf ord d r

/-- A table keyed by numbers. -/
abbrev NMap (V : Type) := List (Nat × V)

/-- Read a number-keyed table whose unlisted keys read `d`. -/
def NMap.look {V : Type} (m : NMap V) (d : V) (k : Nat) : V := mapGet (fun _ => d) k m

/-- Write a number-keyed table whose unlisted keys read `d`. -/
def NMap.put {V : Type} [DecidableEq V] (m : NMap V) (d : V) (k : Nat) (v : V) : NMap V :=
  mapSet id (fun _ => d) k v m

/-- Forget every key of the range `lo` to `hi - 1`. -/
def NMap.forget {V : Type} (m : NMap V) (lo hi : Nat) : NMap V :=
  m.filter (fun e => !(decide (lo ≤ e.1) && decide (e.1 < hi)))

/-- Put a number into a rising list without repeats. -/
def setInsert (k : Nat) : List Nat → List Nat
  | [] => [k]
  | a :: r => if a = k then a :: r else if k < a then k :: a :: r else a :: setInsert k r

/-- Add the numbers `lo`, …, `lo + n - 1` to a rising list. -/
def setInsertRange (lo : Nat) : Nat → List Nat → List Nat
  | 0, l => l
  | n + 1, l => setInsertRange lo n (setInsert (lo + n) l)

end Sys2Proof.Machine
end

