-- ==== Sys2Proof/Machine/State.lean ====
section
/-! DEFINITION. The state of the module as plain data: every register (sparse, by name), memory,
queues, trackers and modes the spec gives it, the queue of waiting commands, and the state after
reset. -/

namespace Sys2Proof.Machine

/-- Why a step can stop with a fault. (Mark: DESIGN CHOICE, log 5.) -/
inductive Fault where
  /-- Raised by a command whose byte-list operand does not have the length its record has in the
  spec (a 128-byte sheaf, a 64-byte descriptor, …): no such record can reach the module.  Safe: the
  model stops where the hardware has no such event. -/
  | malformedOperand (mnemonic : String)
  deriving DecidableEq, Repr

/-- Why a step can be refused. -/
inductive Refusal where
  /-- Raised by an arm of the dispatch whose command has no meaning yet.  Safe. -/
  | notModelled (mnemonic : String)
  deriving DecidableEq, Repr

/-! ## Commons -/

/-- Access status codes of R90 (FRESH is kept beside the code). -/
inductive AccStatus where
  | ok | poison | fieldInvalid | addrInvalid | fieldRetired | routeLoss | waferAbsent
  | spreadLost | spreadRange | spreadDisabled | accessDenied | sroWrite | align | timeout
  deriving DecidableEq, Repr

/-- Where a load writes its data. -/
inductive LoadDst where
  | x (rd : XReg) (size : MemSize) (uns : Bool)
  | f (rd : XReg) (size : MemSize)
  deriving DecidableEq, Repr

/-- Who waits for the response of a commons request. -/
inductive Sink where
  | load (f : FieldId) (t : ThreadId) (dst : LoadDst) (lr : Bool)
  | store (f : FieldId) (t : ThreadId)
  | amo (f : FieldId) (t : ThreadId) (rd : XReg)
  | sc (f : FieldId) (t : ThreadId) (rd : XReg)
  | ended (sheaf : Option Nat)     -- of a thread that has ended
  | engine (f : FieldId) (unit : Nat)
  | bar (fn : FnId) (write : Bool) (offset : Nat)
  | remote (wafer : WaferId) (tag : Nat) (filter : Option (Nat × Nat × Nat))  -- its E2E entry (R443)
  | none
  deriving DecidableEq, Repr

/-- The answer to a request: status, FRESH, and data. -/
structure Reply where
  status : AccStatus
  fresh : Bool
  data : List Byte
  deriving DecidableEq, Repr

/-- A commons request between its issue and its response. -/
structure Request where
  id : Nat
  group : Nat              -- id of the first part of a split access (R81)
  src : Source
  addr : Nat
  kind : AccessKind
  sink : Sink
  issued : Nat
  held : Bool
  reply : Option Reply
  deriving DecidableEq, Repr

/-- A first-write fill in progress (R86): the granule, the write that started it, and the accesses
that wait for its end, in arrival order. -/
structure Fill where
  field : Nat
  granule : Nat
  opener : Request
  waiting : List Request
  deriving DecidableEq, Repr

/-- Memory of the wafer: the bytes of SRAM and HBM keyed by `(field × 8 + region) × 2^42 + offset`,
the HBM granules written since they were last fresh, the poisoned 32-byte sectors, and the bytes
left undefined by an event (with that event's serial). (Mark: DESIGN CHOICE, log 20.) -/
structure Memory where
  cells : List Host.Cell
  written : List Nat
  poison : List Nat
  undef : NMap Nat
  deriving DecidableEq, Repr

/-- A field event record before it is posted (R763). -/
structure FieldPost where
  kind : Nat                -- 1 FIELD_RETIRED, 2 UNIT_FENCED, 3 SPARE_ENABLED
  field : Nat
  outcome : Nat
  cause : Nat
  loss : Nat
  cls : Nat
  unit : Nat
  slot : Nat
  inService : Nat
  below : Bool              -- the decision took the count below 78
  time : Nat
  seq : Nat
  parish : Option ParishId
  signals : Nat
  chains : Nat              -- chains placed by the field's parish
  others : Nat              -- chains placed by threads of other parishes
  deriving DecidableEq, Repr

/-- What a pass-through's spine keeps of a task it held, until it writes the task's status (R137). -/
structure KeptTask where
  field : Nat
  unit : Nat
  cls : Nat
  num : Nat
  tag : Nat
  desc : List Byte
  parish : Option ParishId
  status : Nat
  detail : Nat
  deriving DecidableEq, Repr

/-- The commons machinery. -/
structure Commons where
  nextReq : Nat
  reqs : List Request
  fills : List Fill
  faulting : List (Nat × Nat)   -- field and fresh-map word under zeroing (R88)
  spreadDrain : List Nat        -- spread requests resolved before ENABLE was cleared (R66)
  spreadMarks : List Nat        -- retired fields whose slots wait to be marked LOST (R68)
  sroCopy : List Nat            -- parishes whose SRO windows are being copied (R71)
  sroOld : NMap Word            -- their windows before the copy, parish × 32 + 2 × window (+ 1: limit)
  sroInv : List Nat             -- fields whose SRO lines are being invalidated (R118)
  seamCost : NMap Nat           -- the seam cost table, entry s × 80 + d (R34)
  routes : NMap (List Nat)      -- routes loaded, key s × 80 + d: the fields passed, d last (R31)
  seamDirty : Bool              -- a route rebuild is due (R51)
  seamUe : NMap (List Nat)      -- times of uncorrectable errors per field × 4 + edge (R30)
  posts : List FieldPost        -- decisions whose field event record is due (R763)
  evtSeq : Nat                  -- decisions taken since reset, as SEQ counts them
  kept : List KeptTask          -- tasks of pass-through fields whose status is due (R137)
  deriving DecidableEq, Repr

/-! ## Crofters -/

/-- The states of CRF_THREAD_STATEn (R142); M mode is `priv = m` in a ready thread. -/
inductive ThreadSt where
  | free | ready | waitMem | waitTally | waitIssue | paused | fenced
  deriving DecidableEq, Repr

/-- Privilege modes (R102). -/
inductive Priv where
  | u | m
  deriving DecidableEq, Repr

/-- A hardware thread. -/
structure Thread where
  st : ThreadSt
  priv : Priv
  pc : Word
  x : NMap Word
  f : NMap Word
  csr : NMap Word
  reservation : Option (Nat × Nat)     -- reserved memory key and size of an LR (R82)
  storeFaults : List (Nat × Nat)       -- status and address of failed stores, acknowledgement order
  sheaf : Option Nat                   -- serial of the sheaf it runs
  index : Nat                          -- thread index within the sheaf
  pause : Nat                          -- crofter cycles left of xt.pause
  waitRd : Nat                         -- rd of the operation it waits for
  waitLen : Nat                        -- length of the instruction it waits in
  fencing : Bool                       -- it waits in a FENCE (R78)
  waitDesc : List Byte                 -- descriptor of a waiting xt.issue.w
  deriving DecidableEq, Repr

/-- Threads a field's launch unit has received and not yet started (R109). -/
structure Launch where
  field : Nat
  sheaf : Nat
  parish : Option ParishId
  next : Nat
  last : Nat           -- one past the last index of this field
  total : Nat
  image : Nat
  entry : Nat
  gp : Nat
  arg : Nat
  stackBytes : Nat
  tlsBytes : Nat
  deriving DecidableEq, Repr

/-- A task issue between the issue port and the return of its status (R126–R130). -/
structure IssueReq where
  id : Nat
  field : Nat
  thread : Nat
  rd : Nat
  desc : List Byte
  parish : Option ParishId
  status : Option Nat      -- the value rd receives, once known
  wait : Bool              -- xt.issue.w
  issued : Nat
  deriving DecidableEq, Repr

/-- Hang detection of a field in bell mode (R607): the present interval and the misses in a row. -/
structure Bell where
  rang : Bool
  ran : Bool       -- some thread ran in the interval
  gap : Bool       -- at some time of the interval no thread ran
  missed : Nat
  deriving DecidableEq, Repr

structure Crofters where
  threads : NMap Thread
  launches : List Launch
  issues : List IssueReq
  bells : NMap Bell
  deriving DecidableEq, Repr

/-! ## Tallies -/

/-- The stored part of a tally word (R144). -/
structure Tally where
  count : Nat
  err : Bool
  ovf : Bool
  deriving DecidableEq, Repr

/-- Who waits in a parked tally wait. -/
inductive WaitOwner where
  | thread (f : FieldId) (t : ThreadId) (rd : XReg)
  | dep (sheaf : Nat) (dep : Nat)
  | remote (wafer : WaferId) (id : Nat)
  deriving DecidableEq, Repr

/-- The three kinds of waiter (R149). -/
inductive WaiterKind where
  | wait (owner : WaitOwner)
  | arm
  | chain (desc : List Byte) (skipErr : Bool) (issuer : FieldId) (parish : Option ParishId)
  deriving DecidableEq, Repr

/-- A waiter entry: home tally (field × 4096 + index), threshold and kind. -/
structure Waiter where
  serial : Nat
  tally : Nat
  threshold : Nat
  kind : WaiterKind
  tx : Option TxId
  deriving DecidableEq, Repr

/-- A waiter an update has selected, with the word as it stood after that update (R151). -/
structure Selected where
  waiter : Waiter
  word : Word
  deriving DecidableEq, Repr

/-- A tally request of this wafer that waits at its source: its route is being rebuilt (R48, R159) or
its home lies on another wafer. -/
structure TallyReq where
  id : Nat
  tally : Nat
  wafer : Nat
  op : TallyOp
  owner : WaitOwner
  tx : TxId
  parked : Bool
  issued : Nat
  deriving DecidableEq, Repr

structure Tallies where
  words : NMap Tally
  waiters : List Waiter
  selected : List Selected
  chainIssues : List Selected    -- chains whose issue found the queue FULL (R157)
  signals : List Selected        -- signals that wait for ring space or ENABLE (R155)
  heldAdds : List (Nat × Bool)   -- completion updates held at a field in reset, with their ERR
  dup : NMap (List (Nat × Word)) -- key home × 80 + source: last 16 ids with their results (R158)
  reqs : List TallyReq
  peaks : NMap Nat               -- per field, most waiters on one tally since TLY_USE was read
  nextSerial : Nat
  nextTx : NMap Nat              -- per source field, next transaction id
  deriving DecidableEq, Repr

/-! ## Engines -/

/-- A task in an engine. -/
structure EngTask where
  serial : Nat
  tag : Nat
  desc : List Byte
  parish : Option ParishId
  issuer : Nat                -- issuing field
  sheaf : Option Nat          -- sheaf of the issuing thread
  start : Option Nat          -- time at which it started
  outputs : List (Nat × Nat)  -- address ranges its outputs have reached
  status : Option Nat         -- status once decided, before completion
  detail : Nat
  nonfinite : Bool            -- an input held a non-finite value (R247)
  deriving DecidableEq, Repr

/-- An engine unit: quern, sieve, scree, cairn or loom. -/
structure Engine where
  queue : List EngTask
  running : List EngTask
  nextTag : Nat
  inReset : Bool
  holdWindow : Nat              -- the 100 µs window the hold cycles below belong to (R245)
  holdCycles : Nat              -- hold cycles of that window
  stepTimes : NMap Nat          -- recorded step time per opcode (R613)
  resets : List Nat             -- times of the resets in the escalation window (R622)
  lastProgress : Nat
  suspects : List EngTask       -- suspects of a recovery, still to be replayed
  replaying : Bool
  deriving DecidableEq, Repr

/-- A load of a sieve between its issue and the arrival of its data: the destination tile register,
the tile's words, and a failed access. -/
structure SieveLoad where
  tile : Nat
  words : List Nat
  fail : Option (Nat × AccStatus)
  deriving DecidableEq, Repr

/-- A context of a sieve with the task that runs in it (R259): its window, its parameter block as
read, the iteration and the next instruction.  A table task runs with an empty window. -/
structure SieveCtx where
  slot : Nat
  task : Nat
  base : Nat
  count : Nat
  params : List Byte
  iter : Nat
  pc : Nat
  loads : List SieveLoad
  deriving DecidableEq, Repr

/-- A sieve beside its registers: tile registers by tile × 512 + word, the images of CUSTOM tables,
and the contexts in use. -/
structure Sieve where
  tiles : NMap Nat
  tables : NMap (List Byte)
  ctxs : List SieveCtx
  deriving DecidableEq, Repr

/-- A page pair a cairn task moves or allocates: where its entry lies, the pool and the handles
granted, its granary index, whether it comes back from the granary, and the data read. -/
structure CairnPair where
  record : Nat
  layer : Nat
  page : Nat
  pool : Nat            -- wafer + field × 16
  k : Nat
  v : Nat
  gran : Nat
  back : Bool
  data : Option (List Byte)
  deriving DecidableEq, Repr

/-- A cairn task between its start and its decision: the step table, the pools whose answers are due,
the free slots they gave, and the pairs in hand. -/
structure CairnJob where
  task : Nat
  table : List Byte
  waiting : List Nat
  avail : NMap Nat
  pairs : List CairnPair
  deriving DecidableEq, Repr

/-- A query waiting at a pool agent, or answered and on its way back. -/
structure PoolReq where
  id : Nat
  holder : Nat
  pool : Nat
  src : Source
  answer : Option Nat
  deriving DecidableEq, Repr

/-- A cairn beside its registers and its tables in memory: table blocks and granary pairs in use, the
metadata of spilled pairs, the sequences of the step results it wrote, and the task it works on.
(Mark: DEDUCED, log 83.) -/
structure Cairn where
  blocks : List Nat
  gran : List Nat
  spillMeta : NMap (List Byte)
  results : NMap (List Nat)
  job : Option CairnJob
  deriving DecidableEq, Repr

/-- The cairns of the wafer. -/
structure Cairns where
  units : NMap Cairn
  reqs : List PoolReq
  nextReq : Nat
  scans : List (Nat × Bool × Nat)   -- damage scans due: holder, whole wafer or pool, which (R319)
  remote : NMap (Nat × Nat)   -- base and slots of pools of other wafers, as they answered
  deriving DecidableEq, Repr

/-- A loom job between its start and its completion (R364–R376). -/
structure LoomJob where
  task : Nat
  job : List Byte             -- job block
  session : List Byte         -- session block as last committed
  a : List (List Byte)        -- surface descriptors A, or the inputs of an ENCODE
  b : List (List Byte)        -- surface descriptors B
  records : Nat
  bad : Nat                   -- frames concealed or dropped
  out : Nat                   -- bytes written by an ENCODE
  consumed : Nat              -- bytes of the buffer consumed
  budget : Bool               -- the present frame's budget has run out
  deriving DecidableEq, Repr

/-- A loom: the job of each pipe, and the last output picture of each session, by its address. -/
structure Loom where
  dec : Option LoomJob
  enc : Option LoomJob
  last : NMap (List Byte)
  deriving DecidableEq, Repr

/-! ## The sequencer -/

/-- Where a sheaf stands between its fetch and its receipt. -/
inductive SheafPhase where
  | waiting | dispatched | ending
  deriving DecidableEq, Repr

/-- The failure a sheaf reports: receipt status, subcause, detail (R184). (Mark: DEDUCED, log 59.) -/
structure SheafFail where
  status : Nat
  sub : Nat
  detail : Nat
  deriving DecidableEq, Repr

/-- A sheaf the sequencer has fetched. -/
structure Sheaf where
  serial : Nat
  parish : Nat
  ring : Nat
  raw : List Byte
  phase : SheafPhase
  depsMet : List Nat
  depsRefused : List Nat
  fieldSet : Nat
  fail : Option SheafFail
  unitFault : Option SheafFail -- a unit that failed under its threads' tasks (R616)
  threadsLeft : Nat
  threadsFailed : Nat
  exitCode : Nat
  moved : Nat                  -- bytes of a COPY or SEND acknowledged
  tDispatch : Nat
  timerBase : Nat              -- start of the driver-mode timeout
  energy : Nat                 -- charges in 10 pJ (R542)
  replayed : Bool
  deriving DecidableEq, Repr

/-- A member of a muster's list (R186). -/
structure MusterMember where
  unit : Nat
  rack : Nat
  wafer : Nat
  parish : Nat
  deriving DecidableEq, Repr

/-- A muster entry beside its registers: member list, own index, offers received, and the abort
waves remembered (R628). -/
structure Muster where
  members : List MusterMember
  self : Nat
  digest : Nat
  offers : List (Nat × Nat)
  disagree : List Nat
  goTime : Nat
  waves : List (Nat × Nat)
  wave : Option (Nat × Nat × Nat)   -- origin wafer, origin rack, origin status
  sentWaves : Nat
  deriving DecidableEq, Repr

structure Sequencer where
  sheaves : List Sheaf
  nextSerial : Nat
  doorbells : List (Nat × Nat × Nat)   -- parish, ring, tail: held before READY and while frozen
  musters : NMap Muster
  cancelling : List Nat                -- parishes with a cancel in progress
  disabling : List Nat                 -- rings (parish × 64 + ring) draining after a disable
  depReturns : List (Nat × Nat × Word) -- dependency waits returned: sheaf, dependency, word
  turn : Nat                           -- next parish of the round-robin
  ringTurn : NMap Nat                  -- per parish, ring slot of the weighted round-robin
  deriving DecidableEq, Repr

/-! ## Bring-up and resets -/

/-- The boot stages of R710; `off` before power-up. -/
inductive BootStage where
  | off | hearth | reeve | clock | hbm | seams | selfcheck | images | fabric | ready
  | recovery | halted
  deriving DecidableEq, Repr

/-- Bring-up (R710–R732). -/
structure Boot where
  stage : BootStage
  t0 : Nat
  stageStart : Nat
  cold : Bool              -- a wafer cold reset, not a power-up
  hearthAlive : Bool
  planeCharged : Bool
  h0Ready : Bool
  perst : Bool             -- PERST_N asserted
  groupsDone : Nat         -- row groups of stacks trained (R716)
  deriving DecidableEq, Repr

/-- A decision of the wafer control. -/
inductive Decision where
  | retire (field cause : Nat) (hole : Bool)
  | fence (field unit : Nat)
  | fenceCrofter (field crofter : Nat)
  | outOfService
  deriving DecidableEq, Repr

/-- A declared hang (R608): mode 0 driver with its sheaf, mode 1 bell.  `go` permits its recovery. -/
structure Hang where
  mode : Nat
  parish : Nat
  field : Nat
  sheaf : Nat
  go : Bool
  deriving DecidableEq, Repr

/-- Suspect replay on one stalled engine (R614): the task being replayed, when its replay started, the
recorded step time that bounds it (R613), and for a loom the job as it stood then. -/
structure Replay where
  field : Nat
  unit : Nat
  current : Option Nat
  since : Nat
  step : Option Nat
  mark : Option LoomJob
  deriving DecidableEq, Repr

/-- A recovery in progress (R610, R614): its hang, the fields of its scope, the stalled engines under
replay, and the sheaves whose expired timers restart at its end (R634). -/
structure Recovery where
  hang : Hang
  fields : List Nat
  engines : List Replay
  timers : List Nat
  deriving DecidableEq, Repr

/-- Resets in progress and the escalation windows (R617–R625). -/
structure Resets where
  fields : List Nat              -- fields in reset
  crofters : List (Nat × Nat)    -- crofters in reset
  running : List (Nat × Nat × Nat)  -- scope of R637, target, start time
  waiting : List (Nat × Nat)     -- commanded while frozen or halted (R630)
  fieldTimes : NMap (List Nat)   -- field reset times of the last 10 min
  crofterTimes : NMap (List Nat) -- crofter reset times (field × 16 + crofter) of the last 60 s
  warmTimes : List Nat           -- warm resets of the last hour, persistent
  deferred : List Decision       -- fences and retirements waiting for a recovery's end or a thaw
  hangs : List Hang              -- hangs declared and not yet taken up (R608, R631)
  hung : List Nat                -- sheaves whose timer has declared a hang (R608)
  recoveries : List Recovery
  deriving DecidableEq, Repr

/-! ## Verne links -/

/-- A message a link carries, its slots as bytes, with the time the link layer first sent it. -/
structure LinkMsg where
  raw : List Byte
  sent : Nat
  deriving DecidableEq, Repr

/-- A DATA flit in a replay buffer (R433). -/
structure HeldFlit where
  seq : Nat
  cls : Nat
  wafer : Nat
  rack : Nat
  resent : Bool
  msgs : List LinkMsg
  sent : Nat
  replays : Nat
  deriving DecidableEq, Repr

/-- A message waiting to be resent on a link (R441). -/
structure Resend where
  cls : Nat
  wafer : Nat
  rack : Nat
  msg : LinkMsg
  deriving DecidableEq, Repr

/-- A message a flit brought: link, class, source, and its slots. -/
structure Inbound where
  link : Nat
  cls : Nat
  wafer : Nat
  rack : Nat
  raw : List Byte
  deriving DecidableEq, Repr

/-- A Verne link beside its registers. (Mark: DEDUCED, log 112.) -/
structure Link where
  seq : Nat                    -- next SEQ to send
  held : List HeldFlit         -- replay buffer, oldest first
  expected : Nat               -- next SEQ to receive
  naked : Bool                 -- the NAK for `expected` has been sent
  unacked : Nat                -- flits received and not yet acknowledged
  ackFrom : Nat                -- when the oldest of them arrived
  used : NMap Nat              -- credits in use, per class
  seen : NMap Nat              -- the partner's freed counters as last received
  freed : NMap Nat             -- own counters of buffers freed
  rx : List Inbound            -- held in the receive buffers while the wafer is frozen (R452): destination wafer
                               -- and rack in a byte each, then the flit's messages
  since : Nat                  -- when the present state was entered
  ctrl : Option (Nat × Nat)    -- CTRL request without an answer, and its repeats
  kind : Nat                   -- KIND of the neighbour's identity
  ident : List Byte            -- identity block last received
  identCount : Nat
  echoed : Bool
  stamp : Nat                  -- the partner's last timestamp, and when it arrived
  stampAt : Nat
  peerQuiet : Bool             -- the partner asked for QUIET
  swing : Option (Nat × Nat)   -- settings a swing change started from, steps done
  resend : List Resend
  deriving DecidableEq, Repr

/-- A tracked request of another wafer as it arrives (R443). -/
structure E2eHeld where
  field : Nat
  rack : Nat
  src : Source
  txseq : Nat
  tOrig : Nat
  req : TrackedReq
  deriving DecidableEq, Repr

/-- An end-to-end filter entry: source field, TXSEQ, the time it was applied, the answer it got. -/
structure E2eEntry where
  srcField : Nat
  txseq : Nat
  time : Nat
  answer : Option Reply
  deriving DecidableEq, Repr

/-- Links, ports and the end-to-end filters. -/
structure Verne where
  links : NMap Link
  buckets : NMap Nat             -- link + 1 of bucket p × 64 + b (R439)
  filters : NMap (List E2eEntry) -- per field × 2048 + source wafer and rack
  resetEnd : NMap Nat            -- per field, one past the time its last reset ended (R446)
  waiting : List E2eHeld         -- tracked requests held by a full filter (R444)
  inbox : List Inbound           -- messages delivered, in order
  deriving DecidableEq, Repr

/-- The rack fabric beside its registers. -/
structure Fabric where
  spread : NMap Nat              -- port + 1 of spread entry d × 64 + s (R471)
  answers : List (Nat × List (List Nat))  -- DISC answers given, by request (R468)
  discRx : List (List Nat)       -- DISC answers behind the one FAB_DISC_RX shows
  linkUpAt : Nat                 -- one past the time the first fabric link came UP (FM_WAIT)
  lost : NMap Nat                -- per member, one past the time it became unreachable (R477)
  good : Nat                     -- SYNCs in a row with |offset| ≤ 500 ns (R480)
  lastSync : Nat
  holdover : Nat                 -- when HOLDOVER was entered
  syncSeq : Nat
  syncSent : Nat
  ppsGood : Nat                  -- PPS edges in a row within 1 µs (R481)
  timeSet : Bool                 -- FAB_TIME_SET waits for the next edge
  slew : Int                     -- offset still to be slewed out
  deriving DecidableEq, Repr

/-! ## HBM -/

/-- HBM beside its registers: how far a running scrub has come, and the times of uncorrectable sectors
within the last second. -/
structure Hbm where
  scrubNext : NMap Nat
  ueTimes : NMap (List Nat)
  deriving DecidableEq, Repr

/-! ## Host and storage ports -/

/-- A host DMA descriptor in progress (R506, R507). -/
structure DmaJob where
  desc : List Byte
  next : Nat             -- bytes whose requests have been sent
  moved : Nat            -- bytes acknowledged
  code : Option Nat      -- the CODE of its first failure
  deriving DecidableEq, Repr

/-- A host DMA queue beside its registers: the tail of its doorbell and the descriptor it runs. -/
structure DmaQ where
  tail : Nat
  job : Option DmaJob
  deriving DecidableEq, Repr

/-- An outstanding host read: its tag, function and queue, the bytes of the descriptor it reads, and
when it was sent. -/
structure HostTag where
  tag : Nat
  fn : Nat
  queue : Nat
  offset : Nat
  size : Nat
  since : Nat
  deriving DecidableEq, Repr

/-- A BAR read whose completion is due (R504). -/
structure BarRead where
  id : Nat
  fn : Nat
  offset : Nat
  size : Nat
  parts : List (Nat × Option (List Byte))   -- request id and data of each line of the TLP
  poison : Bool                             -- a line answered POISON
  since : Nat
  deriving DecidableEq, Repr

/-- A write H0 holds while the wafer is frozen (R515). (Mark: DEDUCED, log 132.) -/
inductive HeldWrite where
  | ring (p : ParishId) (r : RingId) (v : Nat)
  | dma (fn : FnId) (q : Nat) (v : Nat)
  | bar2 (fn : FnId) (offset addr : Nat) (data : List Byte)
  | bar0 (fn : FnId) (offset : Nat) (data : List Byte)
  deriving DecidableEq, Repr

/-- H0: readiness, the configuration state that the module's behaviour depends on, queues, tags. -/
structure HostPort where
  ready : Bool
  vfEnable : Bool
  numVfs : Nat
  config : NMap Nat            -- key function × 4: memory enable, VF memory enable, D-state
  bar2Pf : Nat                 -- log2 of the BAR2 size of the physical function
  bar2Vf : Nat
  ats : List Nat               -- functions with ATS enabled
  dma : NMap DmaQ              -- key function × 2 + queue
  doorbells : NMap Nat         -- last value written: ring parish × 64 + ring; 2^16 + function × 2 + queue
  tags : List HostTag
  quarantine : List (Nat × Nat)  -- abandoned tags, and when they were abandoned (R516)
  flr : List Nat               -- functions in a function-level reset
  drain : List Nat             -- functions whose requests are stopped for a scrub
  reads : List BarRead
  held : List HeldWrite
  msixTable : NMap Nat         -- message address and data × 2^64 of an entry, function × 2048 + entry
  msixOpen : List Nat          -- unmasked MSI-X entries, function × 2048 + entry
  msixPending : List Nat       -- pending bits of masked entries
  msixFnMask : List Nat        -- functions with their function mask set
  deriving DecidableEq, Repr

/-! ## The Reeve -/

/-- Where a field stands in a scrub (R590): waiting for the clear, HBM ranges still to be scrubbed, or
finished. -/
inductive ScrubPhase where
  | clearing | scrubbing | done | failed
  deriving DecidableEq, Repr

/-- A field of a scrub: whether it is cleared or only has a spread area scrubbed, its HBM ranges (first
granule and count) with those still to do, and whether it is in its second attempt (R592). -/
structure ScrubField where
  field : Nat
  clear : Bool
  ranges : List (Nat × Nat)
  left : List (Nat × Nat)
  phase : ScrubPhase
  second : Bool
  gen : Nat                -- DONE_GEN when the present range started
  deriving DecidableEq, Repr

/-- A TENANT_BIND or TENANT_RELEASE in its scrub (R588–R592). -/
structure Scrub where
  parish : Nat
  release : Bool
  newKey : Bool            -- other tag or epoch than the current binding
  tag : Nat
  epoch : Nat
  physical : Bool
  digest : Option (List Byte)
  fields : List ScrubField
  deriving DecidableEq, Repr

/-- The Reeve beside its registers. (Mark: DESIGN CHOICE, log 12.) -/
structure Reeve where
  owners : NMap (Option (Nat × Nat))      -- per field: tenant tag and key epoch (R587)
  tenantKeys : NMap (List Byte)           -- per parish: digest of the tenant's key (R588)
  nonces : List (MbxSource × BitVec 128 × Nat)  -- issued and unused, with their times (R577)
  scrubs : List Scrub
  posted : Option Nat                     -- code of the physical function's command that waits to run
  operands : NMap Nat                     -- operand buffer of the mailbox, by byte
  response : List Byte
  fuses : List Nat                        -- fuse counter of each image class (R578)
  slots : List (List Nat)                 -- security versions of the images in slots A and B
  selected : Nat                          -- slot the ROM boots
  activated : Bool                        -- FW_ACTIVATE waits for a wafer cold reset
  ownerKey : List Byte                    -- owner key digest, as fused
  returnPending : Bool                    -- RETURN_TO_SERVICE waits for a wafer cold reset
  crashed : Bool                          -- a crash context is kept for the ledger (R601)
  startedAt : Nat
  seededAt : Nat
  requests : Nat                          -- generate requests since the last seed (R595)
  deriving DecidableEq, Repr

/-! ## Power -/

/-- The power machinery beside its registers (R521–R553). -/
structure Power where
  target : Option Nat            -- module state a transition in progress goes to
  since : Nat                    -- when its command was taken
  asleep : Bool                  -- from the STANDBY command to the end of the exit from M-standby
  waiting : List (Nat × Nat)     -- module commands that wait for a P-state transition: target, source
  fldTarget : NMap Nat           -- one past the state a field transition goes to
  fldBefore : NMap Nat           -- field states before the module left M-active
  switched : Bool                -- clock switch of the P-state transition in progress has happened
  settled : Bool                 -- its rails have settled
  recorded : Bool                -- a P-state command waits for READY, or for a module transition's end
  haltedAt : Nat
  frozenAt : Nat
  estLog : List Nat              -- wafer estimates of the last 100 ms, W
  unmet : NMap Nat               -- intervals in a row over the cap at gate 56: 0 wafer, 1 + parish
  accounts : NMap Nat            -- charges in 10 pJ: 0 RECOVERY, 1 OVERHEAD, 2 total, 32 + parish, 64 + field
  stretched : List Nat           -- fields that stretched in the present interval
  calDirty : Bool                -- the present calibration period is not used (R535)
  deriving DecidableEq, Repr

/-! ## Freeze, Assay read-out and self-test -/

/-- A read of the Assay window (R651): a chain or memory, and whether its gate denied it (R652). -/
structure AssayRead where
  field : Nat
  chain : Nat
  kind : Nat               -- 0 STATUS, 1 CONTROL, 2 DATA, 3 MEMORY
  addr : Nat
  len : Nat
  denied : Bool
  deriving DecidableEq, Repr

/-- A freeze trigger: source (1 pin, 2 register, 3 fabric), through the TAP, freeze id, origin. -/
structure FreezeReq where
  source : Nat
  tap : Bool
  id : Nat
  wafer : Nat
  deriving DecidableEq, Repr

/-- Freeze and the Assay beside their registers (R638–R659, R669). -/
structure Assay where
  stampBase : Nat                  -- cycle stamp of the wafer control at time 0 (R648)
  arrived : List Nat               -- fields the freeze in progress has reached
  thawHeld : Bool                  -- a thaw received during FREEZING (R654)
  freezeHeld : Option FreezeReq    -- a freeze received during THAWING
  bcast : Bool                     -- the freeze was sent to the members (R642)
  nextId : Nat
  reading : Option AssayRead       -- the window read in progress
  mode : Nat                       -- what drives the pins: 0 functions, else the boundary register
  sel : Nat                        -- SEL of the TAP
  cells : Nat                      -- boundary register
  deriving DecidableEq, Repr

/-- The BIST engine beside its registers: when the suite and its running test began (R661). -/
structure Bist where
  began : Nat
  testBegan : Nat
  deriving DecidableEq, Repr

/-! ## The hearth, its ledger and the sidebands -/

/-- A ledger record (R562): sequence number, cause, flags, whether its COMMIT was written, the serial of
its free bytes, and its sections: the values of STATE in the table's order, MUSTERS, SHEAVES, ERRORS,
ENERGY, and the length of REEVE. -/
structure LedgerRecord where
  seq : Nat
  cause : Nat
  flags : Nat
  committed : Bool
  serial : Nat
  state : List Nat
  musters : List (List Nat)
  sheaves : List (List Nat)
  errors : List (List Nat)
  energy : List Nat
  reeve : Nat
  deriving DecidableEq, Repr

/-- A save in progress (R564): the record under construction, whether section 5 is settled, whether the
Reeve had started, and the time of the trigger. -/
structure Save where
  draft : LedgerRecord
  settled : Bool
  started : Bool
  time : Nat
  deriving DecidableEq, Repr

/-- The hearth: a save in progress, the cause that holds the next power-up until VIN has qualified
(R565), the record ring by slot, and whether the port membership was ever loaded (R459). -/
structure Hearth where
  save : Option Save
  restart : Option Nat
  qualified : Bool
  started : Nat            -- when the hearth last started
  slots : List (Nat × LedgerRecord)
  portsLoaded : Bool
  deriving DecidableEq, Repr

/-- The management pins beside their registers (R683–R709). -/
structure Pins where
  window : NMap Nat              -- mailbox window, words 0 to 7
  queue : List (List Nat)        -- posted commands, words 0 to 7 each
  lastTag : Nat
  lastOp : Nat
  lastResult : Nat
  executed : Nat
  posted : NMap (List Nat)       -- groups their owners have posted
  mirror : NMap (List Nat)       -- groups as the last roll copied them
  latch : Option (Nat × List Nat)  -- group of the most recent low-word read, with its words
  lockArm : NMap Nat             -- stage of the lock sequence: 0 PF, 1 crier, 2 SMBus (R699)
  pads : Nat                     -- synchronised levels of GP0–GP31
  tid : Nat                      -- PLDM terminus id
  ppsOut : Bool
  deriving DecidableEq, Repr

/-- The wafer's interrupt aggregation beside its registers (R750, R751): the unmasked page lines seen high, by
header instance, whether a rise waits in the holdoff, and when the present holdoff began. -/
structure Irq where
  lines : List Nat
  pending : Bool
  holdoff : Option Nat
  deriving DecidableEq, Repr

/-- What the module sends: messages to the host, to links, to other wafers and to the sidebands, in
the order it sends them.  The model's own record of outbound traffic. -/
inductive OutMsg where
  | msix (fn : FnId) (entry addr data : Nat)
  | hostWrite (fn : FnId) (pasid : Option Nat) (addr : Nat) (data : List Byte)
  | hostRead (fn : FnId) (pasid : Option Nat) (addr size : Nat)
  | regRead (value : Word)
  | accessReply (status : AccStatus)
  | issueStatus (wafer : WaferId) (status : Nat)
  | barReply (fn : FnId) (status : Nat) (data : List Byte)
  | cfgReply (status : Nat) (value : Word)   -- 0 success, 1 unsupported request, 2 retry
  | atsDone (fn : FnId)
  | commons (wafer : WaferId) (id : Nat) (addr : Nat) (kind : AccessKind) (src : Source)
  | commonsReply (wafer : WaferId) (id : Nat) (status : AccStatus) (data : List Byte)
  | tally (wafer : WaferId) (addr : Nat) (op : Nat) (word : Word) (id : Nat)
  | tallyReply (wafer : WaferId) (id : Nat) (word : Word)
  | tallyParked (wafer : WaferId) (id : Nat)
  | issue (wafer : WaferId) (desc : List Byte)
  | link (k : LinkId) (kind : Nat) (payload : List Nat)
  | fabric (wafer : Nat) (op : Nat) (payload : List Nat)
  | loose (rack wafer : Nat) (op : Nat) (payload : List Nat)
  | pool (wafer field : Nat) (op : Nat) (args : List Nat)
  | granary (write : Bool) (pair : Nat) (data : List Byte)
  | sideband (result : Nat)
  | smbus (data : List Byte)
  | mailbox (src : MbxSource) (result : Nat) (data : List Byte)
  | spdm (src : MbxSource) (kind : Nat) (fields : List Nat)
  | crier (word : Option Nat)
  | tap (bits : List Nat)
  | pin (name : Nat) (level : Bool)
  | i2c (n : Nat) (addr : Nat) (data : List Byte)
  deriving DecidableEq, Repr

/-- The state of the module. -/
structure State where
  now : Nat
  serial : Nat
  pending : List Instr
  regs : List (RKey × BitVec 64)
  mem : Memory
  commons : Commons
  crofters : Crofters
  tallies : Tallies
  engines : NMap Engine
  sieves : NMap Sieve          -- by field × 2 + sieve
  cairns : Cairns
  looms : NMap Loom            -- by field
  seq : Sequencer
  boot : Boot
  resets : Resets
  verne : Verne
  fabric : Fabric
  hbm : Hbm
  host : HostPort
  reeve : Reeve
  power : Power
  assay : Assay
  bist : Bist
  hearth : Hearth
  pins : Pins
  irq : Irq
  timeOffset : Int
  out : List OutMsg
  deriving DecidableEq, Repr

/-! ## The state after reset -/

/-- The lifecycle fuses of a module in the field: DEPLOYED.  DESIGN CHOICE; the fuses have no reset
value (R583, R604). (Mark: DESIGN CHOICE, log 11.) -/
def lifecycleAtReset : Nat := 3

/-- The module before its first power-up (R710): nothing runs until VIN arrives.
(Marks: DEDUCED, log 10; DESIGN CHOICE, log 11; DESIGN CHOICE, log 12; DESIGN CHOICE, log 13; DESIGN CHOICE, log 18.) -/
def State.reset : State :=
  { now := 0, serial := 0, pending := []
    regs := [(⟨.RVE_LIFECYCLE, 0, 0⟩, BitVec.ofNat 64 lifecycleAtReset)]
    mem := ⟨[], [], [], []⟩
    commons := {
      nextReq := 0, reqs := [], fills := [], faulting := [], spreadDrain := [], spreadMarks := []
      sroCopy := [], sroOld := [], sroInv := [], seamCost := [], routes := [], seamDirty := false, seamUe := []
      posts := [], evtSeq := 0, kept := [] }
    crofters := ⟨[], [], [], []⟩
    tallies := {
      words := [], waiters := [], selected := [], chainIssues := [], signals := [], heldAdds := []
      dup := [], reqs := [], peaks := [], nextSerial := 0, nextTx := [] }
    engines := [], sieves := []
    cairns := ⟨[], [], 0, [], []⟩
    looms := []
    seq := {
      sheaves := [], nextSerial := 0, doorbells := [], musters := [], cancelling := [], disabling := []
      depReturns := [], turn := 0, ringTurn := [] }
    boot := {
      stage := .off, t0 := 0, stageStart := 0, cold := false, hearthAlive := false, planeCharged := false
      h0Ready := false, perst := true, groupsDone := 0 }
    resets := {
      fields := [], crofters := [], running := [], waiting := [], fieldTimes := [], crofterTimes := []
      warmTimes := [], deferred := [], hangs := [], hung := [], recoveries := [] }
    verne := ⟨[], [], [], [], [], []⟩
    fabric := {
      spread := [], answers := [], discRx := [], linkUpAt := 0, lost := [], good := 0
      lastSync := 0, holdover := 0, syncSeq := 0, syncSent := 0, ppsGood := 0, timeSet := false, slew := 0 }
    hbm := ⟨[], []⟩
    host := {
      ready := false, vfEnable := false, numVfs := 0, config := [], bar2Pf := 28, bar2Vf := 28, ats := []
      dma := [], doorbells := [], tags := [], quarantine := [], flr := [], drain := [], reads := []
      held := [], msixTable := [], msixOpen := [], msixPending := [], msixFnMask := [] }
    reeve := {
      owners := [], tenantKeys := [], nonces := [], scrubs := [], posted := none, operands := []
      response := [], fuses := [0, 0, 0, 0, 0], slots := [[0, 0, 0, 0, 0], [0, 0, 0, 0, 0]], selected := 0
      activated := false, ownerKey := List.replicate 48 0#8, returnPending := false, crashed := false
      startedAt := 0, seededAt := 0, requests := 0 }
    power := {
      target := none, since := 0, asleep := false, waiting := [], fldTarget := [], fldBefore := []
      switched := false, settled := false, recorded := false, haltedAt := 0, frozenAt := 0, estLog := []
      unmet := [], accounts := [], stretched := [], calDirty := false }
    assay := {
      stampBase := 0, arrived := [], thawHeld := false, freezeHeld := none, bcast := false, nextId := 0
      reading := none, mode := 0, sel := 0, cells := 0 }
    bist := ⟨0, 0⟩
    hearth := { save := none, restart := none, qualified := false, started := 0, slots := [], portsLoaded := false }
    pins := {
      window := [], queue := [], lastTag := 0, lastOp := 0, lastResult := 0, executed := 0, posted := []
      mirror := [], latch := none, lockArm := [], pads := 0, tid := 0, ppsOut := false }
    irq := ⟨[], false, none⟩
    timeOffset := 0
    out := [] }

end Sys2Proof.Machine
end

