-- ==== Sys2Proof/Machine/Ops.lean ====
section
/-! DEFINITION. The named operations over registers, counters, events, message-signalled interrupts
and memory that every meaning is written with. -/

namespace Sys2Proof.Machine

/-- What a command answers. -/
abbrev Out := Host.Outcome State Fault Refusal

/-! ### Register reset values -/

/-- The neighbour of field `f` across edge `n` (N, E, S, W; R21). -/
def neighbour (f n : Nat) : Option Nat :=
  match n with
  | 0 => if f + 10 < 80 then some (f + 10) else none
  | 1 => if f % 10 < 9 then some (f + 1) else none
  | 2 => if 10 ≤ f then some (f - 10) else none
  | _ => if 0 < f % 10 then some (f - 1) else none

/-- The bridge attached to an outward edge of a field (R36). -/
def bridgeAt (f n : Nat) : Option Nat :=
  match n with
  | 3 => if f = 10 ∨ f = 20 then some 0 else if f = 30 ∨ f = 40 then some 1
         else if f = 50 ∨ f = 60 then some 2 else none
  | 1 => if f = 19 ∨ f = 29 then some 3 else if f = 39 ∨ f = 49 then some 4
         else if f = 59 ∨ f = 69 then some 5 else none
  | 0 => if f = 74 ∨ f = 75 then some 6 else none
  | _ => if f = 4 ∨ f = 5 then some 7 else if f = 3 ∨ f = 6 then some 8 else none

/-- FLD_SEAMn_STATE before seam training: OUTWARD or BRIDGE where there is no neighbour (R55), DOWN
on the other edges until they train (R29). -/
def seamReset (f n : Nat) : Nat :=
  match neighbour f n with
  | some g => 1 + g * 64
  | none => (if (bridgeAt f n).isSome then 3 else 2) + 0x7F * 64

/-- The use of link Vk in VRN_LNK_ID (R457). -/
def linkUse (k : Nat) : Nat := if k < 48 then 0 else if k < 56 then 1 else if k < 64 then 2 else 3

/-- The page that a common-header key belongs to. -/
def pageOfIdx (n : Nat) : Option Page := Page.all[n]?

/-- HDR_ID of a page (R734): an instance of a field page is named by its field. -/
def hdrId (p : Page) (inst : Nat) : Word :=
  let i := p.info
  let per := i.count / 80
  let inField := if per = 0 then 0 else inst % per
  let field := if i.isField then (if p = .LOM then inst else inst / per) else 0x7F
  BitVec.ofNat 64 (i.code + (if i.isField then inField else inst) % 256 * 2 ^ 12 +
    field * 2 ^ 20 + 2 ^ 28)

/-- HDR_CAP of a page (R734). -/
def hdrCap (p : Page) : Word :=
  let i := p.info
  BitVec.ofNat 64 (b2n i.errReg.isSome + 2 * b2n i.eventReg.isSome + 4 * b2n i.alive +
    8 * b2n i.spine + 16 * b2n i.vf)

/-- The reset value of a register; the values that depend on the instance are computed.
(Marks: DEDUCED, log 10; DESIGN CHOICE, log 14; DEDUCED, log 16.) -/
def RKey.reset (k : RKey) : Word :=
  let i := k.inst.val
  match k.reg with
  | .FLD_SPINE_ID => BitVec.ofNat 64 (i + i % 10 * 2 ^ 7 + i / 10 * 2 ^ 11 + (1 - i % 2) * 2 ^ 14)
  | .FLD_CLK_STATUS => if i = 4 then 0xFF#64 else 0#64
  | .FLD_SEAMn_STATE => BitVec.ofNat 64 (seamReset i k.idx.val)
  | .QRN_ID => BitVec.ofNat 64 (i % 9 + 0xF0)
  | .SIV_ID => BitVec.ofNat 64 (i % 2 + 8 * 4)
  | .VRN_LNK_ID => BitVec.ofNat 64 (i + i / 8 * 2 ^ 7 + linkUse i * 2 ^ 11)
  | .VRN_LNK_CTL => if i < 48 then 0x09#64 else if i < 56 then 0x0D#64 else 0#64
  | .WFR_ID_PART => BitVec.ofNat 64 (0x4F1A + Config.siliconRevision.toNat * 2 ^ 16 + 2 ^ 20)
  | .WFR_ID_UNIT => Config.unitIdentity
  | .WFR_ID_SHIP => BitVec.ofNat 64 Config.shippedFields.toNat
  | .FAB_UNIT => Config.unitIdentity
  | .HDR_ID => match pageOfIdx (i / 1024) with
    | some p => hdrId p (i % 1024)
    | none => 0#64
  | .HDR_CAP => match pageOfIdx (i / 1024) with
    | some p => hdrCap p
    | none => 0#64
  | r => r.info.reset

/-- The order of the register file. -/
def RKey.ord (k : RKey) : Nat := k.reg.ctorIdx * 2 ^ 28 + k.inst.val * 2 ^ 12 + k.idx.val

/-- The key of a register; instances and indices stay within the key's ranges on every page. -/
def rkey (r : Reg) (inst idx : Nat) : RKey := ⟨r, Fin.ofNat 65536 inst, Fin.ofNat 4096 idx⟩

/-! ### Reading and writing registers -/

/-- Read a register as stored. -/
def State.rd (s : State) (r : Reg) (inst idx : Nat) : Word :=
  mapGet RKey.reset (rkey r inst idx) s.regs

/-- Write a register as hardware does, whole. -/
def State.wr (s : State) (r : Reg) (inst idx : Nat) (v : Word) : State :=
  { s with regs := mapSet RKey.ord RKey.reset (rkey r inst idx) v s.regs }

/-- Read a field of a register. -/
def State.getF (s : State) (f : RF) (inst idx : Nat) : Nat := bits (s.rd f.reg inst idx) f.lo f.w

/-- Write a field of a register. -/
def State.setF (s : State) (f : RF) (inst idx v : Nat) : State :=
  s.wr f.reg inst idx (putBits (s.rd f.reg inst idx) f.lo f.w v)

/-- Read a one-bit field. -/
def State.flag (s : State) (f : RF) (inst idx : Nat) : Bool := s.getF f inst idx == 1

/-- Write a one-bit field. -/
def State.setFlag (s : State) (f : RF) (inst idx : Nat) (b : Bool) : State :=
  s.setF f inst idx (b2n b)

/-- Advance a saturating counter field. -/
def State.addSat (s : State) (f : RF) (inst idx n : Nat) : State :=
  s.setF f inst idx (satAdd f.w (s.getF f inst idx) n)

/-- Advance a wrapping counter field. -/
def State.addWrap (s : State) (f : RF) (inst idx n : Nat) : State :=
  s.setF f inst idx (wrapAdd f.w (s.getF f inst idx) n)

/-- Drop stored values of every register that `p` selects, which returns them to reset. -/
def State.resetRegs (s : State) (p : RKey → Bool) : State :=
  { s with regs := s.regs.filter (fun e => !p e.1) }

/-- The header instance of a page. -/
def hdrInst (p : Page) (inst : Nat) : Nat := p.ctorIdx * 1024 + inst

/-- Is a key a register of the page instance (its header included)? -/
def onPage (p : Page) (inst : Nat) (k : RKey) : Bool :=
  match k.reg.info.page with
  | some q => decide (q = p) && decide (k.inst.val = inst)
  | none => decide (k.inst.val = hdrInst p inst)

/-- A reset of one page: registers, first-error capture and header (R743, R757). -/
def State.resetPage (s : State) (p : Page) (inst : Nat) : State := s.resetRegs (onPage p inst)

/-! ### Time -/

/-- Fabric time in ns (R479): the module's own time and the offset the fabric gave it.
(Mark: DESIGN CHOICE, log 124.) -/
def State.fabricTime (s : State) : Nat := ((s.now : Int) + s.timeOffset).toNat

/-- A fresh serial number for events and free values. -/
def State.fresh (s : State) : Nat × State := (s.serial, { s with serial := s.serial + 1 })

/-- Send a message. (Mark: DESIGN CHOICE, log 7.) -/
def State.send (s : State) (m : OutMsg) : State := { s with out := s.out ++ [m] }

/-! ### Interrupt messages -/

/-- Does the host let the module act for a function (R498)? -/
def State.fnOn (s : State) (fn : Nat) : Bool :=
  decide (fn = 0) || (s.host.vfEnable && decide (fn ≤ s.host.numVfs))

/-- Entries of a function's MSI-X table (R495). -/
def msixEntries (fn : Nat) : Nat := if fn = 0 then 64 else 62

/-- The message of an entry, with the address and data its table entry holds (R509). -/
def State.msixMsg (s : State) (k : Nat) : OutMsg :=
  let e := s.host.msixTable.look 0 k
  .msix (Fin.ofNat 33 (k / 2048)) (k % 2048) (e % 2 ^ 64) (e / 2 ^ 64)

/-- Send an entry the table holds; a masked one keeps it pending (R510). -/
def State.msixNow (s : State) (fn : FnId) (entry : Nat) : State :=
  let k := fn.val * 2048 + entry
  if !s.host.msixOpen.contains k || s.host.msixFnMask.contains fn.val then
    { s with host := { s.host with msixPending := setInsert k s.host.msixPending } }
  else s.send (s.msixMsg k)

/-- The PASID that a function's requests carry, where it is enabled (R496). -/
def State.pasid (s : State) (fn : Nat) : Option Nat :=
  if s.flag RF.HST_FN_PASID_ENABLE fn 0 then some (s.getF RF.HST_FN_PASID_PASID fn 0) else none

/-- A dropped message (R498, R510): counted, with HST_PORT_EVENT.MSIX_DROP and physical-function
entry 5. -/
def State.msixDrop (s : State) : State :=
  let s1 := s.addSat RF.HST_PORT_MSIX_DROP_COUNT 0 0 1
  let was := s1.flag RF.HST_PORT_EVENT_MSIX_DROP 0 0
  let s2 := s1.setFlag RF.HST_PORT_EVENT_MSIX_DROP 0 0 true
  if was || !s2.flag RF.HDR_IRQ_EN_EVENT_EN (hdrInst .HST_PORT 0) 0 then s2 else s2.msixNow 0 5

/-- Send an MSI-X entry of a function (R498, R509, R510); with H0 down nothing is sent (R523).
(Mark: DEDUCED, log 135.) -/
def State.sendMsix (s : State) (fn : FnId) (entry : Nat) : State :=
  if !s.flag RF.HST_PORT_H0_UP 0 0 then s
  else if !s.fnOn fn.val || decide (msixEntries fn.val ≤ entry) then s.msixDrop else s.msixNow fn entry

/-- The fixed physical-function entry of a page's event register (R752). -/
def fixedEntry : Reg → Option Nat
  | .WFR_FLD_EVENT => some 1
  | .FAB_EVENT => some 2
  | .PWR_EVENT => some 3
  | .RVE_MBX_EVENT => some 4
  | .HST_PORT_EVENT => some 5
  | _ => none

/-- Send the fixed entry of a page when an event bit rises, gated by EVENT_EN (R752). -/
def State.sendFixed (s : State) (r : Reg) : State :=
  match fixedEntry r, r.info.page with
  | some e, some p => if s.flag RF.HDR_IRQ_EN_EVENT_EN (hdrInst p 0) 0 then s.sendMsix 0 e else s
  | _, _ => s

/-- Set an event bit; its rise sends the page's fixed entry (R752). -/
def State.raise (s : State) (f : RF) (inst : Nat) : State :=
  let was := s.flag f inst 0
  let s1 := s.setFlag f inst 0 true
  if was then s1 else s1.sendFixed f.reg

/-- Set several event bits of one register in one cycle, which sends at most one message (R752). -/
def State.raiseAll (s : State) (l : List RF) (inst : Nat) : State :=
  match l with
  | [] => s
  | f :: _ =>
    let rose := l.any (fun g => !s.flag g inst 0)
    let s1 := l.foldl (fun t g => t.setFlag g inst 0 true) s
    if rose then s1.sendFixed f.reg else s1

/-- Take a first-error capture (R739): the first error fills the captured fields and loads
HDR_ERR_TIME; while VALID is set a later error only sets MORE.  WFR_RCV_HANG, which is captured the
same way, is no page's first-error capture (R735). -/
def State.capture (s : State) (valid more : RF) (inst : Nat) (fill : State → State) : State :=
  if s.flag valid inst 0 then s.setFlag more inst 0 true
  else
    let s1 := (fill s).setFlag valid inst 0 true
    match valid.reg.info.page with
    | some p =>
      if p.info.errReg = some valid.reg then
        s1.wr .HDR_ERR_TIME (hdrInst p inst) 0 (BitVec.ofNat 64 s1.fabricTime)
      else s1
    | none => s1

/-- Record an ignored write in HDR_WRITE_ERR (R734, R736): the first one, MORE afterwards. -/
def State.writeErr (s : State) (p : Page) (inst off cause : Nat) : State :=
  let h := hdrInst p inst
  if s.flag RF.HDR_WRITE_ERR_VALID h 0 then s.setFlag RF.HDR_WRITE_ERR_MORE h 0 true
  else s.setF RF.HDR_WRITE_ERR_OFFSET h 0 off |>.setF RF.HDR_WRITE_ERR_CAUSE h 0 cause
    |>.setFlag RF.HDR_WRITE_ERR_VALID h 0 true

/-! ### Fields -/

/-- Field state of WFR_FLDf_STATUS (R762): 0 in service, 1 pass-through, 2 hole. -/
def State.fieldMode (s : State) (f : Nat) : Nat := s.getF RF.WFR_FLDf_STATUS_STATE 0 f

def State.inService (s : State) (f : Nat) : Bool := s.fieldMode f == 0

/-- Is the field's body being reset? -/
def State.inReset (s : State) (f : Nat) : Bool := s.resets.fields.contains f

/-- Has the freeze stopped the field (R644)? -/
def State.stopped (s : State) (f : Nat) : Bool := s.flag RF.ASY_FLD_STAT_STOPPED f 0

/-- Is the wafer frozen (ASY_FRZ_STAT.STATE FROZEN, or THAWING until its last field has resumed)?
(Mark: DEDUCED, log 169.) -/
def State.frozen (s : State) : Bool := decide (2 ≤ s.getF RF.ASY_FRZ_STAT_STATE 0 0)

/-- Is an interconnect test suite under way (R664, R680)? -/
def State.bistBusy (s : State) : Bool :=
  let x := s.getF RF.BIS_STAT_STATE 0 0
  x == 1 || x == 2 || x == 3

/-- Does H0 hold writes and queues as R515 says: frozen, or under a suite (R664)? -/
def State.h0Frozen (s : State) : Bool := s.frozen || s.bistBusy

/-- Has a thermal trip halted all issue (R543)? -/
def State.halted (s : State) : Bool := s.flag RF.PWR_MOD_STAT_HALTED 0 0

/-- Power state of a field: 0 ON, 1 IDLE, 2 RETAIN, 3 OFF (R529). -/
def State.fieldPower (s : State) (f : Nat) : Nat := s.getF RF.PWR_FLD_STAT_STATE f 0

/-- Does a scrub hold the field (R590)? -/
def State.scrubbing (s : State) (f : Nat) : Bool := s.flag RF.RVE_FLDf_OWNER_SCRUBBING 0 f

/-- Do the units of field `f` issue and complete work now? -/
def State.fieldRuns (s : State) (f : Nat) : Bool :=
  decide (s.boot.stage = .ready) && s.inService f && !s.inReset f && !s.stopped f &&
    !s.halted && decide (s.fieldPower f ≤ 1) && !s.scrubbing f && !s.bistBusy

/-- Does field `f` hold the accesses that reach it (R89, R529, R98)? -/
def State.fieldHolds (s : State) (f : Nat) : Bool :=
  s.inReset f || s.stopped f || decide (2 ≤ s.fieldPower f) || s.scrubbing f

/-- Have the images been loaded into the fields (R719)?  Until then memory accesses are held. -/
def State.fieldsUp (s : State) : Bool := decide (s.boot.stage = .fabric) || decide (s.boot.stage = .ready)

/-- The fields of a parish as a mask. -/
def State.parishMask (s : State) (p : Nat) : Nat :=
  s.getF RF.WFR_PAR_FIELDS_LO_FIELDS p 0 + s.getF RF.WFR_PAR_FIELDS_HI_FIELDS p 0 * 2 ^ 64

/-- Does the parish exist (R169)?  A parish whose ENABLE has been cleared keeps its fields until its
cancel has ended (R171). -/
def State.parishOn (s : State) (p : Nat) : Bool :=
  s.flag RF.WFR_PAR_CTL_ENABLE p 0 || s.seq.cancelling.contains p

/-- The enabled parish a field belongs to (R69, R170). -/
def State.parishOf (s : State) (f : Nat) : Option ParishId :=
  (List.finRange 32).find? (fun p => s.parishOn p.val && (s.parishMask p.val).testBit f)

/-- The wafer's own rack-local number; 0 while none is assigned (R60). -/
def State.ownWafer (s : State) : Nat :=
  if s.flag RF.FAB_NUM_ASSIGNED 0 0 then s.getF RF.FAB_NUM_NUM 0 0 else 0

/-! ### Memory -/

/-- The key of a byte of the wafer's memory. -/
def cellKey (f region off : Nat) : Nat := (f * 8 + region) * 2 ^ 42 + off

/-- Granule of a byte of a field's HBM (R84). -/
def granuleKey (f off : Nat) : Nat := f * 524288 + off / 65536

/-- Is the HBM granule fresh (R84)? SRAM is never fresh. (Mark: DESIGN CHOICE, log 19.) -/
def Memory.fresh (m : Memory) (f region off : Nat) : Bool :=
  decide (region = 0) && !m.written.contains (granuleKey f off)

/-- One stored byte; a byte an event left undefined reads as a free byte. (Mark: DESIGN CHOICE, log 19.) -/
def Memory.byte (m : Memory) (k : Nat) : Byte :=
  match m.undef.look 0 k with
  | 0 => NMap.look m.cells 0#8 k
  | n + 1 => Config.freeByte n k

/-- One byte as a read sees it: fresh granules read zero (R85). -/
def Memory.read (m : Memory) (f region off : Nat) : Byte :=
  if m.fresh f region off then 0#8 else m.byte (cellKey f region off)

def Memory.readN (m : Memory) (f region off : Nat) : Nat → List Byte
  | 0 => []
  | n + 1 => m.read f region off :: m.readN f region (off + 1) n

/-- Does the range touch a poisoned sector of written memory (R97)? -/
def Memory.poisoned (m : Memory) (f region off n : Nat) : Bool :=
  decide (n ≠ 0) && (List.range ((off + n - 1) / 32 - off / 32 + 1)).any fun i =>
    m.poison.contains (cellKey f region (off / 32 * 32 + 32 * i) / 32) &&
      !m.fresh f region (off / 32 * 32 + 32 * i)

/-- Does the range touch a fresh granule? -/
def Memory.touchesFresh (m : Memory) (f region off n : Nat) : Bool :=
  m.fresh f region off || (decide (0 < n) && m.fresh f region (off + n - 1))

/-- Store one byte. -/
def Memory.put (m : Memory) (k : Nat) (b : Byte) : Memory :=
  { m with cells := NMap.put m.cells 0#8 k b, undef := m.undef.put 0 k 0 }

def Memory.putList (m : Memory) (k : Nat) : List Byte → Memory
  | [] => m
  | b :: r => (m.put k b).putList (k + 1) r

/-- The 32-byte sectors a byte range touches. -/
def sectorsOf (k n : Nat) : List Nat :=
  if n = 0 then [] else (List.range ((k + n - 1) / 32 - k / 32 + 1)).map (k / 32 + ·)

/-- The 32-byte sectors a byte range covers whole. -/
def sectorsIn (k n : Nat) : List Nat :=
  (sectorsOf k n).filter (fun q => decide (k ≤ q * 32) && decide (q * 32 + 32 ≤ k + n))

/-- Write bytes to written memory: whole sectors lose their poison, and poisoned data poisons every
sector it touches (R97). -/
def Memory.write (m : Memory) (f region off : Nat) (data : List Byte) (bad : Bool) : Memory :=
  let k := cellKey f region off
  let m1 := m.putList k data
  let p1 := m1.poison.filter (fun q => !(sectorsIn k data.length).contains q)
  { m1 with poison := if bad then (sectorsOf k data.length).foldl (fun l q => setInsert q l) p1
                      else p1 }

/-- Zero a key range: contents, poison and undefined bytes. -/
def Memory.zeroRange (m : Memory) (lo n : Nat) : Memory :=
  { m with cells := NMap.forget m.cells lo (lo + n), undef := m.undef.forget lo (lo + n),
           poison := m.poison.filter (fun q => !(decide (lo ≤ q * 32) && decide (q * 32 < lo + n))) }

/-- The end of a fill (R86): the granule holds zeros and is written. -/
def Memory.fillGranule (m : Memory) (f g : Nat) : Memory :=
  let m1 := m.zeroRange (cellKey f 0 (g * 65536)) 65536
  { m1 with written := setInsert (f * 524288 + g) m1.written }

/-- Mark a granule fresh (R87). -/
def Memory.markFresh (m : Memory) (f g : Nat) : Memory :=
  { m with written := m.written.filter (fun q => !decide (q = f * 524288 + g)) }

/-- Leave a byte range undefined: each byte becomes a free byte of the given serial. -/
def Memory.leaveUndef (m : Memory) (serial k : Nat) : Nat → Memory
  | 0 => m
  | n + 1 =>
    Memory.leaveUndef { m with cells := NMap.put m.cells 0#8 k 0#8, undef := m.undef.put 0 k (serial + 1) }
      serial (k + 1) n

/-- The canonical form of memory: every list rising, no zero byte and no unused mark listed.
(Mark: DESIGN CHOICE, log 20.) -/
def Memory.wf (m : Memory) : Bool :=
  mapWf id (fun _ => 0#8) m.cells && mapWf id (fun _ => (0 : Nat)) m.undef &&
    decide (m.written.Pairwise (· < ·)) && decide (m.poison.Pairwise (· < ·))

/-- A write ends every reservation of a thread of the home field whose bytes it meets (R82). -/
def State.breakRes (s : State) (f k n : Nat) : State :=
  { s with crofters := { s.crofters with
      threads := s.crofters.threads.map (fun e =>
        if e.1 / 128 = f then
          match e.2.reservation with
          | some (a, m) =>
            if k < a + m ∧ a < k + n then (e.1, { e.2 with reservation := none }) else e
          | none => e
        else e) } }

/-- Write bytes at a place, filling fresh granules first (R86). -/
def State.memWrite (s : State) (f region off : Nat) (data : List Byte) (bad : Bool) : State :=
  let gs := if region = 0 ∧ data.length ≠ 0 then
      (List.range ((off + data.length - 1) / 65536 - off / 65536 + 1)).map (off / 65536 + ·)
    else []
  let need := gs.filter (fun g => s.mem.fresh f 0 (g * 65536))
  let m1 := need.foldl (fun m g => m.fillGranule f g) s.mem
  let s1 := { s with mem := m1.write f region off data bad }.breakRes f (cellKey f region off)
    data.length
  if need = [] then s1 else s1.addWrap RF.FLD_CMN_FRESH_FILLS_COUNT f 0 need.length

/-- Read bytes at a place. -/
def State.memRead (s : State) (f region off n : Nat) : List Byte := s.mem.readN f region off n

end Sys2Proof.Machine
end

