-- ==== Sys2Proof/Machine/Operands.lean ====
section
/-! DEFINITION. Operand forms: commons addresses and how they resolve (R57–R64), spread and SRO
windows, admission (R69), and the task descriptor header (R125). -/

namespace Sys2Proof.Machine

/-! ### Addresses -/

/-- A decoded direct address, R57. -/
structure Direct where
  wafer : Nat
  field : Nat
  region : Nat
  off : Nat
  deriving DecidableEq, Repr

/-- Decode a direct address, R57. -/
def Direct.of (a : Nat) : Direct :=
  ⟨nbits a 52 4, nbits a 45 7, nbits a 42 3, nbits a 0 42⟩

/-- A[56], the SPREAD bit (R57). -/
def isSpread (a : Nat) : Bool := a.testBit 56

/-- The direct address of a place. -/
def directAddr (wafer field region off : Nat) : Nat :=
  wafer * 2 ^ 52 + field * 2 ^ 45 + region * 2 ^ 42 + off

/-! ### The spread window -/

/-- Entry `k` of the spread table, 16 bits (R100). -/
def State.slotEntry (s : State) (k : Nat) : Nat :=
  bits (s.rd .WFR_SPREAD_SLOTk 0 (k / 4)) (16 * (k % 4)) 16

def State.setSlotEntry (s : State) (k v : Nat) : State :=
  s.wr .WFR_SPREAD_SLOTk 0 (k / 4)
    (putBits (s.rd .WFR_SPREAD_SLOTk 0 (k / 4)) (16 * (k % 4)) 16 v)

def slotField (e : Nat) : Nat := nbits e 0 7
def slotLost (e : Nat) : Bool := e.testBit 7
def slotValid (e : Nat) : Bool := e.testBit 15

def State.spreadSlots (s : State) : Nat := s.getF RF.WFR_SPREAD_SLOTS_S 0 0
def State.spreadBase (s : State) : Nat := s.getF RF.WFR_SPREAD_BASE_BASE 0 0 * 65536
def State.spreadSize (s : State) : Nat := s.getF RF.WFR_SPREAD_SIZE_SIZE 0 0 * 65536

/-- Resolution of a spread offset, R63, with SPREAD_DISABLED (R66) and invalid slots (R100). -/
def State.resolveSpread (s : State) (o : Nat) : Except AccStatus (Nat × Nat) :=
  if !s.flag RF.WFR_SPREAD_CTL_ENABLE 0 0 then .error .spreadDisabled
  else
    let n := s.spreadSlots
    let g := o / 4096
    let e := s.slotEntry (g % n)
    if n = 0 ∨ n * s.spreadSize ≤ o then .error .spreadRange
    else if slotLost e then .error .spreadLost
    else if !slotValid e then .error .spreadRange
    else .ok (slotField e, s.spreadBase + g / n * 4096 + o % 4096)

/-- Is field `f` slotted: named by a VALID entry among slots 0 to S − 1 (R67)? -/
def State.slotted (s : State) (f : Nat) : Bool :=
  (List.range s.spreadSlots).any (fun k =>
    slotValid (s.slotEntry k) && decide (slotField (s.slotEntry k) = f))

/-- Does the byte range lie, wholly or partly, in the field's spread area (R67)? -/
def State.inSpreadArea (s : State) (f region off n : Nat) : Bool :=
  decide (region = 0) && decide (s.spreadSize ≠ 0) && s.slotted f &&
    decide (off < s.spreadBase + s.spreadSize) && decide (s.spreadBase < off + n)

/-! ### SRO windows -/

/-- Does an address fall in a window with these registers: base ≤ address ≤ limit + 0xFFFF (R71)? -/
def sroHit (base limit : Word) (a : Nat) : Bool :=
  bit base 0 && decide (bits base 16 41 * 65536 ≤ a) && decide (a ≤ bits limit 16 41 * 65536 + 0xFFFF)

/-- Does the address, as issued, fall in an SRO window of the parish (R71, R99)?  While the windows are
copied, a field holds the old ones or the new ones: where they differ, which it is is a free choice.
(Mark: DEDUCED, log 26.) -/
def State.inSro (s : State) (p : Option ParishId) (a : Nat) : Bool :=
  match p with
  | none => false
  | some q =>
    let new := (List.range 16).any fun w =>
      sroHit (s.rd .WFR_SROw_BASE q.val w) (s.rd .WFR_SROw_LIMIT q.val w) a
    if s.commons.sroCopy.contains q.val then
      let old := (List.range 16).any fun w => sroHit (s.commons.sroOld.look 0#64 (q.val * 32 + 2 * w))
        (s.commons.sroOld.look 0#64 (q.val * 32 + 2 * w + 1)) a
      if old = new then new else Config.freeBool s.commons.nextReq 0
    else new

/-! ### Admission -/

/-- Are a wafer's parish and a local parish members of one formed tight muster (R69, R188)? -/
def State.musterLinked (s : State) (wafer parish : Nat) (local_ : Nat) : Bool :=
  (List.range 64).any fun m =>
    let ctl := s.rd .WFR_MUSm_CTL 0 m
    decide (bits ctl 23 3 = 2) && decide (bits ctl 16 1 = 0) && decide (bits ctl 17 5 = local_) &&
      match s.seq.musters.find? (fun e => e.1 == m) with
      | some e => e.2.members.any (fun x => decide (x.wafer = wafer) && decide (x.parish = parish))
      | none => false

/-- The access check of R69 at the target field. -/
def State.admits (s : State) (src : Source) (f region off n : Nat) : Bool :=
  match src.parish with
  | none => true
  | some p =>
    if s.inSpreadArea f region off n then
      decide (s.getF RF.WFR_SPREAD_CTL_OWNER 0 0 = p.val)
    else if decide (region = 2 ∧ f = 4 ∧ 32 * 4096 ≤ off ∧ off < 39 * 4096) then true
    else if src.wafer.val = s.ownWafer then s.parishOf f == some p
    else match s.parishOf f with
      | some q => s.musterLinked src.wafer.val p.val q.val
      | none => false

/-! ### Regions -/

/-- Region-0 offset behind a region-4 offset, where it is backed (R58, R296). -/
def State.ptBacking (s : State) (f off : Nat) : Option Nat :=
  if off < s.getF RF.CRN_PT_BLOCKS_BLOCKS f 0 * 4096 then
    some (s.getF RF.CRN_PT_BASE_BASE f 0 * 65536 + off)
  else none

/-- Is the access legal in its region (R58): region, offset and size? -/
def State.regionOk (s : State) (f region off n : Nat) : Bool :=
  match region with
  | 0 => decide (1 ≤ n) && decide (n ≤ 4096) && decide (off + n ≤ 2 ^ 35)
  | 1 => decide (1 ≤ n) && decide (n ≤ 4096) && decide (off + n ≤ 0x3000000)
  | 2 => (decide (n = 4) || decide (n = 8)) && decide (off + n ≤ 0x40000)
  | 3 => decide (n = 8) && decide (off + n ≤ 0x40000)
  | 4 => (decide (n = 8) || decide (n = 16)) && (s.ptBacking f (off + n - 1)).isSome
  | _ => false

/-- Regions in which an access must be naturally aligned (R58). -/
def needsAlign (region : Nat) : Bool := decide (region = 2 ∨ region = 3 ∨ region = 4)

/-! ### Task descriptors -/

def descClass (d : List Byte) : Nat := bitField d 0 4
def descUnit (d : List Byte) : Nat := bitField d 4 4
def descOpcode (d : List Byte) : Nat := bitField d 8 8
def descTgtWafer (d : List Byte) : Nat := bitField d 16 4
def descTgtField (d : List Byte) : Nat := bitField d 20 7
def descTgtSelf (d : List Byte) : Bool := bitField d 27 1 == 1
def descCtWafer (d : List Byte) : Nat := bitField d 32 4
def descCtField (d : List Byte) : Nat := bitField d 36 7
def descCtIndex (d : List Byte) : Nat := bitField d 43 12
def descCtEn (d : List Byte) : Bool := bitField d 55 1 == 1
def descStatusPtr (d : List Byte) : Nat := bitField d 64 57
def descStatusEn (d : List Byte) : Bool := bitField d 121 1 == 1

/-- Units of a class in one field (R125). -/
def classUnits (c : Nat) : Nat := if c = 0 then 8 else if c = 1 then 2 else 1

/-- The header check of the issue port, DESC_INVALID of R129. -/
def descHeaderOk (d : List Byte) : Bool :=
  decide (bitField d 28 4 = 0) && decide (bitField d 56 8 = 0) && decide (bitField d 122 6 = 0) &&
    decide (descClass d ≤ 4) &&
    (decide (descUnit d = 15) || decide (descUnit d < classUnits (descClass d))) &&
    (!descStatusEn d || decide (descStatusPtr d % 16 = 0))

/-- The key of an engine unit: 0–8 physical querns, 16–17 sieves, 20 scree, 21 cairn, 22 loom. -/
def unitKey (f u : Nat) : Nat := f * 32 + u

def unitSieve (n : Nat) : Nat := 16 + n
def unitScree : Nat := 20
def unitCairn : Nat := 21
def unitLoom : Nat := 22

/-- An engine with nothing queued. -/
def idleEngine : Engine :=
  { queue := [], running := [], nextTag := 0, inReset := false, holdWindow := 0, holdCycles := 0,
    stepTimes := [], resets := [], lastProgress := 0, suspects := [], replaying := false }

def State.engine (s : State) (f u : Nat) : Engine := s.engines.look idleEngine (unitKey f u)

def State.setEngine (s : State) (f u : Nat) (e : Engine) : State :=
  { s with engines := s.engines.put idleEngine (unitKey f u) e }

def State.modEngine (s : State) (f u : Nat) (g : Engine → Engine) : State :=
  s.setEngine f u (g (s.engine f u))

/-- The ring stop of a unit as numbered for FLD_CMN_ERR_SOURCE.UNIT (R25, R92). -/
def unitStop (u : Nat) : Nat :=
  if u ≤ 4 then 4 else if u ≤ 8 then 5 else if u = 16 then 4 else if u = 17 then 5 else 7

/-- The physical quern behind a logical number: the numbering QRN_ID.LOGICAL holds, fixed at each
field reset (R223). -/
def State.quernPhys (s : State) (f logical : Nat) : Option Nat :=
  (List.range 9).find? (fun q => s.flag RF.QRN_ID_ENABLED (f * 9 + q) 0 &&
    decide (s.getF RF.QRN_ID_LOGICAL (f * 9 + q) 0 = logical))

/-- The logical number of a physical quern, 0xF for a spare (R257). -/
def State.quernLogical (s : State) (f phys : Nat) : Nat := s.getF RF.QRN_ID_LOGICAL (f * 9 + phys) 0

/-- Is a unit fenced (WFR_FLDf_STATUS, R762)? -/
def State.fenced (s : State) (f u : Nat) : Bool :=
  let w := s.rd .WFR_FLDf_STATUS 0 f
  if u ≤ 8 then bit w (10 + u)
  else if u = 16 ∨ u = 17 then bit w (20 + (u - 16))
  else if u = unitScree then bit w 22
  else if u = unitCairn then bit w 23
  else bit w 25

/-- The unit that a logical number of a class names in a field; `none` where it is absent: a loom of
an odd field (R23), a quern that is not enabled. -/
def State.unitOf (s : State) (f cls n : Nat) : Option Nat :=
  match cls with
  | 0 => s.quernPhys f n
  | 1 => if n < 2 then some (unitSieve n) else none
  | 2 => if n = 0 then some unitScree else none
  | 3 => if n = 0 then some unitCairn else none
  | 4 => if n = 0 ∧ f % 2 = 0 then some unitLoom else none
  | _ => none

/-- Class and logical number of a unit, as the task status record gives them. -/
def State.unitName (s : State) (f u : Nat) : Nat × Nat :=
  if u ≤ 8 then (0, s.quernLogical f u)
  else if u = 16 ∨ u = 17 then (1, u - 16)
  else if u = unitScree then (2, 0)
  else if u = unitCairn then (3, 0)
  else (4, 0)

end Sys2Proof.Machine
end

