-- ==== Sys2Proof/Machine/Flags.lean ====
section
/-! DEFINITION. Status codes and every flag computation of accesses: the codes of R90, the order in
which checks report (R95), and the capture of access errors (R92). -/

namespace Sys2Proof.Machine

/-- The code of an access status, R90. -/
def AccStatus.code : AccStatus → Nat
  | .ok => 0
  | .poison => 1
  | .fieldInvalid => 2
  | .addrInvalid => 3
  | .fieldRetired => 4
  | .routeLoss => 5
  | .waferAbsent => 6
  | .spreadLost => 7
  | .spreadRange => 8
  | .spreadDisabled => 9
  | .accessDenied => 0xA
  | .sroWrite => 0xB
  | .align => 0xC
  | .timeout => 0xD

/-- The status a code names (0xE and 0xF are never returned, R90). -/
def AccStatus.ofCode : Nat → AccStatus
  | 0 => .ok
  | 1 => .poison
  | 2 => .fieldInvalid
  | 3 => .addrInvalid
  | 4 => .fieldRetired
  | 5 => .routeLoss
  | 6 => .waferAbsent
  | 7 => .spreadLost
  | 8 => .spreadRange
  | 9 => .spreadDisabled
  | 0xA => .accessDenied
  | 0xB => .sroWrite
  | 0xC => .align
  | _ => .timeout

/-- Is the status reported by the target (R90, R92)? -/
def AccStatus.atTarget : AccStatus → Bool
  | .poison | .addrInvalid | .accessDenied => true
  | _ => false

/-- Capture an access error in the FLD_COMMONS page of field `f` (R92, R739). -/
def State.captureAccess (s : State) (f : Nat) (st : AccStatus) (fresh isWrite sourceSide : Bool)
    (addr : Nat) (src : Source) : State :=
  let s1 := s.capture RF.FLD_CMN_ERR_STATUS_VALID RF.FLD_CMN_ERR_STATUS_OVERFLOW f fun t =>
    let t1 := t.wr .FLD_CMN_ERR_STATUS f 0
      (BitVec.ofNat 64 (st.code + b2n fresh * 2 ^ 4 + b2n isWrite * 2 ^ 5 +
        b2n sourceSide * 2 ^ 8))
    let t2 := t1.wr .FLD_CMN_ERR_ADDR f 0 (BitVec.ofNat 64 (addr % 2 ^ 57))
    t2.wr .FLD_CMN_ERR_SOURCE f 0
      (BitVec.ofNat 64 (src.wafer.val + (match src.field with | some g => g.val | none => 0) * 2 ^ 4
        + (match src.parish with | some p => p.val | none => 0) * 2 ^ 11
        + b2n src.host * 2 ^ 16 + src.unit.toNat * 2 ^ 17))
  s1

/-- Capture an error in the page R92 chooses: the target field for the errors it reports, the source
field otherwise; a host access has no source field. (Mark: DEDUCED, log 30.) -/
def State.noteAccess (s : State) (target : Option Nat) (st : AccStatus) (fresh isWrite : Bool)
    (addr : Nat) (src : Source) : State :=
  match st with
  | .ok => s
  | _ =>
    let place : Option (Nat × Bool) :=
      if st.atTarget then target.map (fun f => (f, false))
      else match src.field with
        | some f => if src.wafer.val = s.ownWafer then some (f.val, true) else none
        | none => none
    let s1 := match place with
      | some (f, side) => s.captureAccess f st fresh isWrite side addr src
      | none => s
    match st, target, src.field with
    | .accessDenied, some f, _ => s1.addSat RF.FLD_CMN_DENIED_COUNT f 0 1
    | .sroWrite, _, some f => s1.addSat RF.FLD_CMN_DENIED_COUNT f.val 0 1
    | _, _, _ => s1

/-- Where a request stands after its checks. -/
inductive Verdict where
  | fail (st : AccStatus) (target : Option Nat)
  | remote (wafer : Nat)
  | hold (field : Nat)
  | at (field region off : Nat)
  deriving DecidableEq, Repr

/-- The fabric members reachable in the commons: own wafer, and joined members (R94, R60). -/
def State.memberHere (s : State) (w : Nat) : Bool :=
  decide (w = s.ownWafer) ||
    (s.flag RF.FAB_NUM_ASSIGNED 0 0 && (s.getF RF.FAB_MEMBERS_JOINED 0 0).testBit w)

/-! ### Ports toward other wafers -/

def State.portMask (s : State) (p : Nat) : Nat := s.getF RF.VRN_PORTp_CTL_MEMBERS 0 p
def State.portOn (s : State) (p : Nat) : Bool := s.flag RF.VRN_PORTp_CTL_ENABLE 0 p

/-- Live members of a port: those in UP (R439). -/
def State.liveLinks (s : State) (p : Nat) : List Nat :=
  (maskList (s.portMask p) 56).filter (fun k => decide (s.getF RF.VRN_LNK_STATE_STATE k 0 = 6))

/-- A port one of whose members is held carries no bucket and no spread entry (R464). -/
def State.portHeld (s : State) (p : Nat) : Bool :=
  decide (s.portMask p &&& s.getF RF.FAB_HELD_LINKS 0 0 ≠ 0)

/-- Is port `p` live for destination `d` (R471)? -/
def State.portFor (s : State) (d p : Nat) : Bool :=
  s.portOn p && !(s.liveLinks p).isEmpty && !s.portHeld p &&
    (s.getF RF.FAB_REACHp_REACH 0 p).testBit d

/-- The fabric ports live for a destination, ascending. -/
def State.portsTo (s : State) (d : Nat) : List Nat := (List.range 48).filter (s.portFor d)

/-- The port whose cumulative interval contains `x` (R471). -/
def pickPort (x c : Nat) : List (Nat × Nat) → Option Nat
  | [] => none
  | (p, m) :: r => if x < c + m then some p else pickPort x (c + m) r

/-- The port R471 gives spread entry `e` of destination `d`. -/
def State.entryTarget (s : State) (d e : Nat) : Option Nat :=
  let l := (s.portsTo d).map (fun p => (p, (s.liveLinks p).length))
  let w := (l.map (·.2)).sum
  pickPort (e * w / 64) 0 l

/-- The port a spread entry maps to now. -/
def State.entryPort (s : State) (d e : Nat) : Option Nat :=
  match s.fabric.spread.look 0 (d * 64 + e) with
  | 0 => none
  | n + 1 => some n

/-- The spread entry of an address (R472). -/
def entryOf (addr : Nat) : Nat :=
  [12, 18, 24, 30, 36, 42, 48].foldl (fun x b => x ^^^ nbits addr b 6) (nbits addr 54 3)

/-- Does the entry wait to move while its port is still live (R473)? -/
def State.entryMoving (s : State) (d e : Nat) : Bool :=
  match s.entryPort d e with
  | some p => s.portFor d p && decide (s.entryTarget d e ≠ some p)
  | none => false

/-! ### Seams and routes -/

/-- Is the seam on an edge UP, with a live router behind it (R29, R47)? -/
def State.seamUp (s : State) (f n : Nat) : Bool :=
  match neighbour f n with
  | some g => decide (s.getF RF.FLD_SEAMn_STATE_STATE f n = 0) && decide (s.fieldMode f ≠ 2) &&
      decide (s.fieldMode g ≠ 2)
  | none => false

/-- The edge of `a` that leads to `b`. -/
def edgeTo (a b : Nat) : Nat :=
  if b = a + 10 then 0 else if b = a + 1 then 1 else if b + 10 = a then 2 else 3

/-- Does every hop of a path cross an UP seam? -/
def State.pathUp (s : State) (a : Nat) : List Nat → Bool
  | [] => true
  | b :: r => s.seamUp a (edgeTo a b) && s.pathUp b r

/-- The route loaded for an ordered pair. -/
def State.routeOf (s : State) (a b : Nat) : List Nat := s.commons.routes.look [] (a * 80 + b)

/-- While routes are being rebuilt, traffic whose route is cut waits at its source router (R48, R51). -/
def State.routeCut (s : State) (src : Source) (f : Nat) : Bool :=
  decide (s.getF RF.WFR_SEAM_GEN_GEN 0 0 % 2 = 1) &&
    match src.field with
    | some g => !s.pathUp g.val (s.routeOf g.val f)
    | none => false

/-- Checks decided before a request leaves its source, lowest code first (R90, R95): FIELD_INVALID,
WAFER_ABSENT, SRO_WRITE, ALIGN. -/
def State.sourceCheck (s : State) (src : Source) (addr n : Nat) (isWrite atomic : Bool) :
    Option AccStatus :=
  let d := Direct.of addr
  if !isSpread addr && decide (80 ≤ d.field) then some .fieldInvalid
  else if !s.memberHere d.wafer || (decide (d.wafer ≠ s.ownWafer) && (s.portsTo d.wafer).isEmpty) then
    some .waferAbsent
  else if isWrite && s.inSro src.parish addr then some .sroWrite
  else if (atomic || (!isSpread addr && needsAlign d.region)) && decide (addr % n ≠ 0) then
    some .align
  else none

/-- The offsets of a tally slot that an access may address: a load 0x00, a store 0x00, 0x08 or 0x10
(R146). -/
def tallySlotOk (off : Nat) (isWrite : Bool) : Bool :=
  decide (off % 64 = 0) || (isWrite && decide (off % 64 = 8 ∨ off % 64 = 16))

/-- Resolve and check a request of this wafer's commons (R57–R69, R93, R95): the source's checks,
resolution of a spread address, retirement, the held states of the target, then region and
admission, lowest code first. (Mark: DEDUCED, log 48.) -/
def State.locate (s : State) (src : Source) (addr n : Nat) (isWrite atomic : Bool) : Verdict :=
  match s.sourceCheck src addr n isWrite atomic with
  | some st => .fail st none
  | none =>
    let d := Direct.of addr
    if d.wafer ≠ s.ownWafer then .remote d.wafer
    else
      let place : Except AccStatus (Nat × Nat × Nat) :=
        if isSpread addr then
          match s.resolveSpread (nbits addr 0 52) with
          | .ok (f, o) => .ok (f, 0, o)
          | .error e => .error e
        else .ok (d.field, d.region, d.off)
      match place with
      | .error st => .fail st none
      | .ok (f, region, off) =>
        if s.fieldMode f = 2 then .fail .routeLoss (some f)
        else if s.fieldMode f = 1 ∧
            !(decide (region = 2) && (decide (off / 4096 ∈ [0, 2, 8, 9, 10]) ||
              (decide (f = 4) && decide (32 ≤ off / 4096 ∧ off / 4096 ≤ 38)))) then
          .fail .fieldRetired (some f)
        else if s.routeCut src f then .hold f
        else if decide (region ≠ 2) && (s.fieldHolds f || !s.fieldsUp) then .hold f
        else if decide (region = 2) && decide (off / 4096 ∉ [0, 2, 8, 9, 10]) &&
            s.fieldHolds f then .hold f
        else if !s.regionOk f region off n || (atomic && decide (2 ≤ region)) ||
            (decide (region = 3) && !tallySlotOk off isWrite) then
          .fail .addrInvalid (some f)
        else if !s.admits src f region off n || (isWrite && decide (region = 4)) then
          .fail .accessDenied (some f)
        else .at f region off

/-- The result of an atomic on the old value (RV64A and R122), `wide` for 8 bytes. -/
def amoCompute (op : AmoOp) (wide : Bool) (old operand expected : Word) : Word :=
  let w := if wide then 64 else 32
  let a := old.toNat % 2 ^ w
  let b := operand.toNat % 2 ^ w
  let r : Nat := match op with
    | .swap => b
    | .add => a + b
    | .xor => (old ^^^ operand).toNat
    | .and => (old &&& operand).toNat
    | .or => (old ||| operand).toNat
    | .min => if sint w a ≤ sint w b then a else b
    | .max => if sint w a ≤ sint w b then b else a
    | .minu => min a b
    | .maxu => max a b
    | .faddS => addF32 a b
    | .faddBf2 => addBf16 (a % 65536) (b % 65536) + addBf16 (a / 65536) (b / 65536) * 65536
    | .addSatD => tcode 64 (clampInt 64 (sint 64 a + sint 64 b))
    | .casD => if a = expected.toNat % 2 ^ w then b else a
  BitVec.ofNat 64 (r % 2 ^ w)

end Sys2Proof.Machine
end

