-- ==== Sys2Proof/Machine/Mem.lean ====
section
/-! DEFINITION. Commons requests: performing an access on memory, first-write fills (R86), held and
cross-wafer requests, and the accesses the engines make (R69, R90–R97). -/

namespace Sys2Proof

/-- Bytes an access touches. -/
def AccessKind.size : AccessKind → Nat
  | .read n => n
  | .write d _ => d.length
  | .amo _ wide _ _ => if wide then 8 else 4

/-- Does the access write? -/
def AccessKind.writes : AccessKind → Bool
  | .read _ => false
  | _ => true

def AccessKind.atomic : AccessKind → Bool
  | .amo _ _ _ _ => true
  | _ => false

end Sys2Proof

namespace Sys2Proof.Machine

/-- A failed reply: zero data with its status (R91). -/
def Reply.failed (st : AccStatus) (n : Nat) : Reply := ⟨st, false, List.replicate n 0#8⟩

/-- Perform an access on memory: region 0, 1, or the region-0 backing of region 4.  A read of
poisoned data reports POISON with zero data (R91, R97); a read of a fresh granule sets FRESH (R85);
a write fills the fresh granules it meets (R86). -/
def State.perform (s : State) (f region off : Nat) (kind : AccessKind) : State × Reply :=
  let n := kind.size
  let fresh := s.mem.touchesFresh f region off n
  match kind with
  | .read _ =>
    if s.mem.poisoned f region off n then (s, .failed .poison n)
    else
      let s1 := if fresh then s.addWrap RF.FLD_CMN_FRESH_READS_COUNT f 0 1 else s
      (s1, ⟨.ok, fresh, s.memRead f region off n⟩)
  | .write data bad => (s.memWrite f region off data bad, ⟨.ok, false, []⟩)
  | .amo op wide operand expected =>
    if s.mem.poisoned f region off n then (s, .failed .poison n)
    else
      let old := s.memRead f region off n
      let v := amoCompute op wide (BitVec.ofNat 64 (leNat old)) operand expected
      (s.memWrite f region off (leBytes n v.toNat) false, ⟨.ok, fresh, old⟩)

/-- The fill in progress that the byte range meets (R86). (Mark: DESIGN CHOICE, log 29.) -/
def State.fillAt (s : State) (f region off n : Nat) : Option Fill :=
  if region = 0 then
    s.commons.fills.find? (fun x => decide (x.field = f) &&
      decide (off / 65536 ≤ x.granule) && decide (x.granule ≤ (off + n - 1) / 65536))
  else none

/-- Does a fresh-map word under zeroing cover the byte range (R88)? -/
def State.zeroing (s : State) (f region off : Nat) : Bool :=
  decide (region = 0) && s.commons.faulting.contains (f, off / 65536 / 64)

/-- Region and offset an access of region 4 reaches (R296). -/
def State.backing (s : State) (f region off : Nat) : Nat × Nat :=
  if region = 4 then (0, (s.ptBacking f off).getD 0) else (region, off)

/-- Put a request into the wafer's list of outstanding requests. -/
def State.pushReq (s : State) (r : Request) : State :=
  { s with commons := { s.commons with reqs := s.commons.reqs ++ [r] } }

/-- An access that reached its place.  A granule under fill or under zeroing makes it wait; the first
write to a fresh granule starts a fill and waits for its end (R86, R88); otherwise it is performed.
The answer is `none` where the access waits. -/
def State.arrive (s : State) (r : Request) (f region off : Nat) : State × Option Reply :=
  let (rg, o) := s.backing f region off
  let n := r.kind.size
  match s.fillAt f rg o n with
  | some fl =>
    let fills := s.commons.fills.map (fun x =>
      if x.field = fl.field ∧ x.granule = fl.granule then { x with waiting := x.waiting ++ [r] }
      else x)
    ({ s with commons := { s.commons with fills := fills } }, none)
  | none =>
    if s.zeroing f rg o then (s.pushReq { r with held := true }, none)
    else if r.kind.writes && s.mem.touchesFresh f rg o n then
      let g := if s.mem.fresh f rg o then o / 65536 else (o + n - 1) / 65536
      let fl : Fill := ⟨f, g, r, []⟩
      ({ s with commons := { s.commons with fills := s.commons.fills ++ [fl] } }, none)
    else
      let (s1, rep) := s.perform f rg o r.kind
      (s1.noteAccess (some f) rep.status rep.fresh r.kind.writes r.addr r.src, some rep)

/-- What a request to register pages or tally space answers: given by the caller. -/
abbrev DeviceAccess := State → Source → Nat → Nat → Nat → AccessKind → State × Reply

/-- For atomics and writes to memory, which reach no register page and no tally space. -/
def noDevice : DeviceAccess := fun s _ _ _ _ k => (s, .failed .addrInvalid k.size)

/-- Where a request lies, whatever the window's ENABLE: a spread access resolved before the window was
disabled goes on (R66). -/
def State.placeAnyway (s : State) (a : Nat) : Nat × Nat × Nat :=
  if isSpread a then
    let o := nbits a 0 52
    let n := s.spreadSlots
    (slotField (s.slotEntry (o / 4096 % n)), 0, s.spreadBase + o / 4096 / n * 4096 + o % 4096)
  else
    let d := Direct.of a
    (d.field, d.region, d.off)

/-- The address that a request's checks start from: a spread access that was resolved before its window
was disabled keeps the place it resolved to (R64, R66). -/
def State.checkAddr (s : State) (r : Request) : Nat :=
  if s.commons.spreadDrain.contains r.id then
    let (f, rg, o) := s.placeAnyway r.addr
    directAddr s.ownWafer f rg o
  else r.addr

/-- Take a request through its checks to its target.  The answer is `none` while it is outstanding:
held at a router, waiting for a fill, or on its way to another wafer. (Mark: DEDUCED, log 30.) -/
def State.deliver (dev : DeviceAccess) (s : State) (r : Request) : State × Option Reply :=
  let n := r.kind.size
  match s.locate r.src (s.checkAddr r) n r.kind.writes r.kind.atomic with
  | .fail st tgt =>
    (s.noteAccess tgt st false r.kind.writes r.addr r.src, some (.failed st n))
  | .remote w =>
    if s.entryMoving w (entryOf r.addr) then (s.pushReq { r with held := true }, none)
    else ((s.send (.commons (Fin.ofNat 16 w) r.id r.addr r.kind r.src)).pushReq
      { r with held := false }, none)
  | .hold _ => (s.pushReq { r with held := true }, none)
  | .at f region off =>
    if region = 2 ∨ region = 3 then
      let (s1, rep) := dev s r.src f region off r.kind
      (s1.noteAccess (some f) rep.status rep.fresh r.kind.writes r.addr r.src, some rep)
    else s.arrive r f region off

/-- Issue a new request: it gets an id and is delivered; while it has no answer it stands in the list
of outstanding requests, unless a router or a fill already holds it. (Mark: DESIGN CHOICE, log 31.) -/
def State.request (dev : DeviceAccess) (s : State) (src : Source) (addr : Nat) (kind : AccessKind)
    (sink : Sink) : State × Nat × Option Reply :=
  let id := s.commons.nextReq
  let r : Request := ⟨id, id, src, addr, kind, sink, s.now, false, none⟩
  let s1 := { s with commons := { s.commons with nextReq := id + 1 } }
  let (s2, rep) := s1.deliver dev r
  (s2, id, rep)

/-- Issue the next part of a split access (R81): as `request`, in the group of the first part. -/
def State.requestPart (dev : DeviceAccess) (s : State) (src : Source) (addr : Nat) (kind : AccessKind)
    (sink : Sink) (group : Nat) : State × Request × Option Reply :=
  let id := s.commons.nextReq
  let r : Request := ⟨id, group, src, addr, kind, sink, s.now, false, none⟩
  let s1 := { s with commons := { s.commons with nextReq := id + 1 } }
  let (s2, rep) := s1.deliver dev r
  (s2, r, rep)

/-! ### Engine accesses -/

/-- The source of the accesses of a unit of field `f` working for a parish. -/
def State.engineSource (s : State) (f : Nat) (p : Option ParishId) (unit : Nat) : Source :=
  ⟨Fin.ofNat 16 s.ownWafer, some (Fin.ofNat 80 f), p, false, BitVec.ofNat 7 unit⟩

/-- The answer of another wafer to an engine's access: what that wafer answers is outside the module,
so its status and data are free values (of a fresh serial). (Mark: DESIGN CHOICE, log 32.) -/
def State.foreignReply (s : State) (addr n : Nat) : State × Reply :=
  let (k, s1) := s.fresh
  let st := AccStatus.ofCode (Config.freeNat k 0 % 14)
  (s1, ⟨st, false, (List.range n).map (fun i =>
    match st with
    | .ok => Config.freeByte k (addr + i)
    | _ => 0#8)⟩)

/-- A read that a unit makes within its task.  A target that holds its accesses answers TIMEOUT.  What a
register page or a tally reads to a unit in the middle of its task is a free value.
(Mark: DESIGN CHOICE, log 32.) -/
def State.engRead (s : State) (src : Source) (addr n : Nat) : State × Reply :=
  match s.locate src addr n false false with
  | .fail st tgt => (s.noteAccess tgt st false false addr src, .failed st n)
  | .remote w =>
    (s.send (.commons (Fin.ofNat 16 w) s.commons.nextReq addr (.read n) src)).foreignReply addr n
  | .hold _ => (s, .failed .timeout n)
  | .at f region off =>
    if region = 2 ∨ region = 3 then
      let (k, s1) := s.fresh
      (s1, ⟨.ok, false, (List.range n).map (fun i => Config.freeByte k (addr + i))⟩)
    else
      let (rg, o) := s.backing f region off
      let (s1, rep) := s.perform f rg o (.read n)
      (s1.noteAccess (some f) rep.status rep.fresh false addr src, rep)

/-- A write that a unit makes within its task, one piece.  One to a register page or to tally space stays
under way and takes effect at the next tick. -/
def State.engWrite (s : State) (src : Source) (addr : Nat) (data : List Byte) (bad : Bool) :
    State × AccStatus :=
  match s.locate src addr data.length true false with
  | .fail st tgt => (s.noteAccess tgt st false true addr src, st)
  | .remote w =>
    let (s1, rep) := (s.send (.commons (Fin.ofNat 16 w) s.commons.nextReq addr
      (.write data bad) src)).foreignReply addr 0
    (s1, rep.status)
  | .hold _ => (s, .timeout)
  | .at f region off =>
    if region = 2 ∨ region = 3 then
      let id := s.commons.nextReq
      let r : Request := ⟨id, id, src, addr, .write data bad, .engine (Fin.ofNat 80 f) src.unit.toNat,
        s.now, true, none⟩
      ({ s with commons := { s.commons with nextReq := id + 1 } }.pushReq r, .ok)
    else
      let (rg, o) := s.backing f region off
      (s.memWrite f rg o data bad, .ok)

/-- The pieces of a byte range between 4 KiB boundaries (R81). -/
def burstsAux : Nat → Nat → Nat → List (Nat × Nat)
  | 0, _, _ => []
  | fuel + 1, a, n =>
    if n = 0 then []
    else
      let m := min n (4096 - a % 4096)
      (a, m) :: burstsAux fuel (a + m) (n - m)

def bursts (a n : Nat) : List (Nat × Nat) := burstsAux (n / 4096 + 2) a n

/-- The result of a bulk read: bytes, or the first failing address with its status. -/
structure Bulk where
  data : List Byte
  fail : Option (Nat × AccStatus)
  deriving DecidableEq, Repr

/-- Read a byte range in bursts; the first failure ends it. -/
def State.bulkReadL (s : State) (src : Source) : List (Nat × Nat) → State × Bulk
  | [] => (s, ⟨[], none⟩)
  | (a, m) :: r =>
    let (s1, rep) := s.engRead src a m
    match rep.status with
    | .ok =>
      let (s2, b) := s1.bulkReadL src r
      (s2, ⟨rep.data ++ b.data, b.fail⟩)
    | st => (s1, ⟨[], some (a, st)⟩)

/-- (Mark: DESIGN CHOICE, log 68.) -/
def State.bulkRead (s : State) (src : Source) (a n : Nat) : State × Bulk :=
  s.bulkReadL src (bursts a n)

/-- Write a byte range in bursts; the first failure ends it. -/
def State.bulkWriteL (s : State) (src : Source) (data : List Byte) (base : Nat) :
    List (Nat × Nat) → State × Option (Nat × AccStatus)
  | [] => (s, none)
  | (a, m) :: r =>
    let (s1, st) := s.engWrite src a ((data.drop (a - base)).take m) false
    match st with
    | .ok => s1.bulkWriteL src data base r
    | st => (s1, some (a, st))

def State.bulkWrite (s : State) (src : Source) (a : Nat) (data : List Byte) :
    State × Option (Nat × AccStatus) :=
  s.bulkWriteL src data a (bursts a data.length)

/-- Poison the sectors of an output range, as stop logic does (R614, R616). -/
def State.poisonOut (s : State) (src : Source) (a n : Nat) : State :=
  (bursts a n).foldl (fun t b =>
    match t.locate src b.1 b.2 true false with
    | .at f region off =>
      let k := cellKey f region off
      { t with mem := { t.mem with
        poison := (sectorsOf k b.2).foldl (fun l q => setInsert q l) t.mem.poison } }
    | _ => t) s

/-- A single write that a unit makes for its own bookkeeping (status records, signal records,
receipts): a piece of at most 64 bytes.  Where the target holds it or lies on another wafer, it goes
on as an outstanding request. -/
def State.postWrite (s : State) (src : Source) (addr : Nat) (data : List Byte) :
    State × Option AccStatus :=
  let (s1, _, rep) := s.request noDevice src addr (.write data false) .none
  (s1, rep.map (·.status))

end Sys2Proof.Machine
end

