-- ==== Sys2Proof/Machine/TallyOps.lean ====
section
/-! DEFINITION. The operations of a tally at its home (R144–R152, R158): the word, add, set,
compare-and-swap, clear flags, waits, arms and chains, and the duplicate filter. -/

namespace Sys2Proof.Machine

/-- A tally after a field reset (R145). -/
def zeroTally : Tally := ⟨0, false, false⟩

/-- The key of tally `t` of field `f`. -/
def tallyKey (f t : Nat) : Nat := f * 4096 + t

def State.tally (s : State) (k : Nat) : Tally := s.tallies.words.look zeroTally k

def State.setTally (s : State) (k : Nat) (t : Tally) : State :=
  { s with tallies := { s.tallies with words := s.tallies.words.put zeroTally k t } }

def WaiterKind.isArm : WaiterKind → Bool
  | .arm => true
  | _ => false

def WaiterKind.isChain : WaiterKind → Bool
  | .chain _ _ _ _ => true
  | _ => false

/-- Every waiter entry in use: pending, selected, and chains whose issue is retried (R149, R157). -/
def State.entries (s : State) : List Waiter :=
  s.tallies.waiters ++ s.tallies.selected.map (·.waiter) ++ s.tallies.chainIssues.map (·.waiter) ++
    s.tallies.signals.map (·.waiter)

/-- The tally word, R144; ARMED and CHAINED follow from the waiters. -/
def State.tallyWord (s : State) (k : Nat) : Word :=
  let t := s.tally k
  let mine := s.entries.filter (fun w => w.tally == k)
  BitVec.ofNat 64 (t.count + b2n t.err * 2 ^ 48 + b2n t.ovf * 2 ^ 49 +
    b2n (mine.any (fun w => w.kind.isArm)) * 2 ^ 50 +
    b2n (mine.any (fun w => w.kind.isChain)) * 2 ^ 51)

/-- REFUSED and ABORTED, returned only (R144). -/
def refusedBit : Word := BitVec.ofNat 64 (2 ^ 63)
def abortedBit : Word := BitVec.ofNat 64 (2 ^ 62)

/-- Count an applied operation (TLY_OPS). -/
def State.countOp (s : State) (k : Nat) : State := s.addWrap RF.TLY_OPS_COUNT (k / 4096) 0 1

/-- Select every waiter whose threshold the count meets, in creation order, with the word as it
stands after the update (R151). (Mark: DESIGN CHOICE, log 51.) -/
def State.evalWaiters (s : State) (k : Nat) : State :=
  let c := (s.tally k).count
  let w := s.tallyWord k
  let met := s.tallies.waiters.filter (fun x => x.tally == k && decide (x.threshold ≤ c))
  let rest := s.tallies.waiters.filter (fun x => !(x.tally == k && decide (x.threshold ≤ c)))
  { s with tallies := { s.tallies with
      waiters := rest, selected := s.tallies.selected ++ met.map (fun x => ⟨x, w⟩) } }

/-- The saturating add of R148: the new count and whether it saturated, up or down. -/
def tallySum (c : Nat) (operand : Word) : Nat × Bool × Bool :=
  let v : Int := (c : Int) + sint 48 operand.toNat
  if v < 0 then (0, false, true)
  else if v ≥ (2 ^ 48 : Nat) then (2 ^ 48 - 1, true, false)
  else (v.toNat, false, false)

/-- Capture a tally error (TLY_ERR_STATUS): cause 1 overflow, 2 underflow, 3 ring full, 4 ring
configuration (R148, R155). -/
def State.tallyError (s : State) (f idx cause : Nat) : State :=
  s.capture RF.TLY_ERR_STATUS_VALID RF.TLY_ERR_STATUS_MORE f fun t =>
    t.setF RF.TLY_ERR_STATUS_TALLY f 0 idx |>.setF RF.TLY_ERR_STATUS_CAUSE f 0 cause

/-- Add to a tally (R146–R148); `err` also sets ERR, as a completion with a non-OK status does
(R131, R181).  Answers the word as it stood before. -/
def State.tallyAdd (s : State) (k : Nat) (operand : Word) (err : Bool) : State × Word :=
  let old := s.tallyWord k
  let t := s.tally k
  let (c, up, down) := tallySum t.count operand
  let s1 := (s.countOp k).setTally k ⟨c, t.err || err, t.ovf || up || down⟩
  let s2 := if up then s1.tallyError (k / 4096) (k % 4096) 1
            else if down then s1.tallyError (k / 4096) (k % 4096) 2 else s1
  (s2.evalWaiters k, old)

/-- Set a tally, clearing ERR and OVF (R146). -/
def State.tallySet (s : State) (k : Nat) (operand : Word) : State × Word :=
  let old := s.tallyWord k
  (((s.countOp k).setTally k ⟨bits operand 0 48, false, false⟩).evalWaiters k, old)

/-- Clear ERR and OVF (R146). -/
def State.tallyClear (s : State) (k : Nat) : State × Word :=
  let old := s.tallyWord k
  ((s.countOp k).setTally k { s.tally k with err := false, ovf := false }, old)

/-- Compare COUNT and swap it, leaving every flag (R147). -/
def State.tallyCas (s : State) (k : Nat) (new expected : Word) : State × Word :=
  let old := s.tallyWord k
  let s1 := s.countOp k
  if (s.tally k).count = bits expected 0 48 then
    ((s1.setTally k { s.tally k with count := bits new 0 48 }).evalWaiters k, old)
  else (s1, old)

/-- Read a tally (R146). -/
def State.tallyRead (s : State) (k : Nat) : State × Word := (s.countOp k, s.tallyWord k)

/-- Is there no room for one more waiter of tally `k` (R149)? -/
def State.noRoom (s : State) (k : Nat) (chain : Bool) : Bool :=
  let e := s.entries
  let f := k / 4096
  decide (256 ≤ (e.filter (fun w => w.tally == k)).length) ||
    decide (8192 ≤ (e.filter (fun w => w.tally / 4096 == f)).length) ||
    (chain && decide (2048 ≤ (e.filter (fun w => w.tally / 4096 == f && w.kind.isChain)).length))

/-- Create a waiter entry. -/
def State.addWaiter (s : State) (k threshold : Nat) (kind : WaiterKind) (tx : Option TxId) : State :=
  let w : Waiter := ⟨s.tallies.nextSerial, k, threshold, kind, tx⟩
  let s1 := { s with tallies := { s.tallies with
    waiters := s.tallies.waiters ++ [w], nextSerial := s.tallies.nextSerial + 1 } }
  let n := (s1.entries.filter (fun x => x.tally == k)).length
  let f := k / 4096
  { s1 with tallies := { s1.tallies with
    peaks := s1.tallies.peaks.put 0 f (max n (s1.tallies.peaks.look 0 f)) } }

/-- The answer of a wait, arm or chain. -/
inductive TallyAns where
  | word (w : Word)
  | parked
  deriving DecidableEq, Repr

/-- A refused operation: the word with REFUSED, counted (R149). -/
def State.tallyRefuse (s : State) (k : Nat) : State × TallyAns :=
  (s.addSat RF.TLY_REFUSED_COUNT (k / 4096) 0 1, .word (s.tallyWord k ||| refusedBit))

/-- A wait (R150, R151, R153): satisfied at once, refused, or parked at the home. -/
def State.tallyWait (s : State) (k threshold : Nat) (owner : WaitOwner) (tx : Option TxId) :
    State × TallyAns :=
  let s1 := s.countOp k
  if threshold ≤ (s.tally k).count then (s1, .word (s.tallyWord k))
  else if s.noRoom k false then s1.tallyRefuse k
  else (s1.addWaiter k threshold (.wait owner) tx, .parked)

/-- Arm a signal (R150): satisfied at once, replacing an armed threshold, refused, or created.  A
signal satisfied at once is selected for its record. -/
def State.tallyArm (s : State) (k threshold : Nat) (tx : Option TxId) : State × TallyAns :=
  let s1 := s.countOp k
  let old := s.tallyWord k
  if threshold ≤ (s.tally k).count then
    let w : Waiter := ⟨s.tallies.nextSerial, k, threshold, .arm, tx⟩
    ({ s1 with tallies := { s1.tallies with
        waiters := s1.tallies.waiters.filter (fun x => !(x.tally == k && x.kind.isArm)),
        selected := s1.tallies.selected ++ [⟨w, old⟩],
        nextSerial := s.tallies.nextSerial + 1 } }, .word old)
  else if s.tallies.waiters.any (fun x => x.tally == k && x.kind.isArm) then
    ({ s1 with tallies := { s1.tallies with
        waiters := s1.tallies.waiters.map (fun x =>
          if x.tally == k && x.kind.isArm then { x with threshold := threshold } else x) } },
      .word old)
  else if s.noRoom k false then s1.tallyRefuse k
  else (s1.addWaiter k threshold .arm tx, .word old)

/-- Place a chain (R150, R156): satisfied at once, refused, or created. -/
def State.tallyChain (s : State) (k threshold : Nat) (desc : List Byte) (skipErr : Bool)
    (issuer : FieldId) (parish : Option ParishId) (tx : Option TxId) : State × TallyAns :=
  let s1 := s.countOp k
  let old := s.tallyWord k
  let kind := WaiterKind.chain desc skipErr issuer parish
  if threshold ≤ (s.tally k).count then
    let w : Waiter := ⟨s.tallies.nextSerial, k, threshold, kind, tx⟩
    ({ s1 with tallies := { s1.tallies with
        selected := s1.tallies.selected ++ [⟨w, old⟩],
        nextSerial := s.tallies.nextSerial + 1 } }, .word old)
  else if s.noRoom k true then s1.tallyRefuse k
  else (s1.addWaiter k threshold kind tx, .word old)

/-! ### The duplicate filter (R158) -/

/-- The ids the home field keeps for a source field. -/
def State.dupIds (s : State) (home source : Nat) : List (Nat × Word) :=
  s.tallies.dup.look [] (home * 80 + source)

/-- The recorded result of a transaction id, if the home still keeps it. (Mark: DEDUCED, log 50.) -/
def State.dupResult (s : State) (home : Nat) (tx : Option TxId) : Option Word :=
  match tx with
  | none => none
  | some t => ((s.dupIds home t.source.val).find? (fun e => e.1 == t.id.toNat)).map (·.2)

/-- Record a result: the home keeps the last 16 ids of each source field. -/
def State.dupRecord (s : State) (home : Nat) (tx : Option TxId) (w : Word) : State :=
  match tx with
  | none => s
  | some t =>
    let l := s.dupIds home t.source.val ++ [(t.id.toNat, w)]
    { s with tallies := { s.tallies with
        dup := s.tallies.dup.put [] (home * 80 + t.source.val) (l.drop (l.length - 16)) } }

/-- Apply an operation through the filter: a duplicate is answered with the recorded result and
counted, and applies nothing. (Mark: DEDUCED, log 50.) -/
def State.dedup (s : State) (home : Nat) (tx : Option TxId) (op : State → State × Word) :
    State × Word :=
  match s.dupResult home tx with
  | some w => (s.addSat RF.TLY_DUP_COUNT_COUNT home 0 1, w)
  | none =>
    let (s1, w) := op s
    (s1.dupRecord home tx w, w)

/-- A wait, arm or chain through the filter; a duplicate of a wait that is still parked is joined to
it. -/
def State.dedupAns (s : State) (home : Nat) (tx : Option TxId) (op : State → State × TallyAns) :
    State × TallyAns :=
  match s.dupResult home tx with
  | some w => (s.addSat RF.TLY_DUP_COUNT_COUNT home 0 1, .word w)
  | none =>
    if tx.isSome && s.entries.any (fun x => x.tx == tx && decide (x.tally / 4096 = home)) then
      (s.addSat RF.TLY_DUP_COUNT_COUNT home 0 1, .parked)
    else
      match op s with
      | (s1, .word w) => (s1.dupRecord home tx w, .word w)
      | (s1, .parked) => (s1, .parked)

/-- Abort every waiter of a field's tallies (R159): the entries that were pending. -/
def State.dropWaiters (s : State) (p : Waiter → Bool) : State :=
  { s with tallies := { s.tallies with
      waiters := s.tallies.waiters.filter (fun w => !p w)
      selected := s.tallies.selected.filter (fun x => !p x.waiter)
      chainIssues := s.tallies.chainIssues.filter (fun x => !p x.waiter)
      signals := s.tallies.signals.filter (fun x => !p x.waiter) } }

/-- Apply any operation of R146 at the home, through the duplicate filter. (Mark: DESIGN CHOICE, log 51.) -/
def State.tallyApply (s : State) (k : Nat) (op : TallyOp) (owner : WaitOwner) (issuer : FieldId)
    (parish : Option ParishId) (tx : Option TxId) : State × TallyAns :=
  let h := k / 4096
  let plain := fun (p : State × Word) => (p.1, TallyAns.word p.2)
  match op with
  | .read => plain (s.tallyRead k)
  | .set v => plain (s.dedup h tx (fun t => t.tallySet k v))
  | .add v => plain (s.dedup h tx (fun t => t.tallyAdd k v false))
  | .clearFlags => plain (s.dedup h tx (fun t => t.tallyClear k))
  | .cas n e => plain (s.dedup h tx (fun t => t.tallyCas k n e))
  | .wait th => s.dedupAns h tx (fun t => t.tallyWait k th.toNat owner tx)
  | .arm th => s.dedupAns h tx (fun t => t.tallyArm k th.toNat tx)
  | .chain th se d =>
    -- a chain whose descriptor did not validate places nothing and returns ABORTED (R156)
    if d.length ≠ 64 then
      let (s1, w) := s.tallyRead k
      (s1, .word (w ||| abortedBit))
    else s.dedupAns h tx (fun t => t.tallyChain k th.toNat d se issuer parish tx)

end Sys2Proof.Machine
end

