-- ==== Sys2Proof/Machine/Issue.lean ====
section
/-! DEFINITION. Task issue and task completion, shared by every engine: enqueueing a descriptor
(R127–R129), the status record and completion tally (R131, R165), cancelling queued work (R137,
R811), and the failures a sheaf records (R185). -/

namespace Sys2Proof.Machine

/-! ### Sheaf failures -/

def State.modSheaf (s : State) (serial : Nat) (g : Sheaf → Sheaf) : State :=
  { s with seq := { s.seq with
      sheaves := s.seq.sheaves.map (fun x => if x.serial = serial then g x else x) } }

/-- Record a failure of a sheaf; the first one recorded stands (R185). (Mark: DEDUCED, log 59.) -/
def State.failSheaf (s : State) (serial status sub detail : Nat) : State :=
  s.modSheaf serial fun x => match x.fail with
    | some _ => x
    | none => { x with fail := some ⟨status, sub, detail⟩ }

def State.failSheafOpt (s : State) (serial : Option Nat) (status sub detail : Nat) : State :=
  match serial with
  | some n => s.failSheaf n status sub detail
  | none => s

/-! ### Enqueueing -/

/-- Issue status codes, R129. -/
def issueAccepted : Nat := 0
def issueFull : Nat := 1
def issueDescInvalid : Nat := 2
def issueNoUnit : Nat := 3
def issueUnitFenced : Nat := 4
def issueDescAlign : Nat := 5
def issueAccess (st : AccStatus) : Nat := 0x20 + st.code

/-- Has a unit room for one more task (R101)?  A unit in reset answers FULL (R621). -/
def State.unitRoom (s : State) (f u : Nat) : Bool :=
  let e := s.engine f u
  !e.inReset && decide (e.queue.length < 32) && !e.replaying && !s.inReset f

/-- Put a task into a unit's queue; answers its tag. -/
def State.pushTask (s : State) (f u : Nat) (desc : List Byte) (parish : Option ParishId)
    (issuer : Nat) (sheaf : Option Nat) : State × Nat :=
  let e := s.engine f u
  let t : EngTask := ⟨s.serial, e.nextTag, desc, parish, issuer, sheaf, none, [], none, 0, false⟩
  ({ s with serial := s.serial + 1 }.setEngine f u
    { e with queue := e.queue ++ [t], nextTag := (e.nextTag + 1) % 65536 }, e.nextTag)

/-- The units UNIT = 0xF may select, in logical order (R127). -/
def State.candidates (s : State) (f cls : Nat) : List Nat :=
  (List.range (classUnits cls)).filterMap (fun n => s.unitOf f cls n)

/-- A forwarded descriptor at its target field (R127–R129, R69, R530): the issue status and, when
accepted, the tag in [31:16]. -/
def State.enqueueAt (s : State) (f : Nat) (desc : List Byte) (src : Source) (issuer : Nat)
    (sheaf : Option Nat) : State × Nat :=
  let cls := descClass desc
  if s.fieldMode f = 2 then (s, issueAccess .routeLoss)
  else if s.fieldMode f = 1 then (s, issueAccess .fieldRetired)
  else if !s.admits src f 0 0 0 then
    ((s.noteAccess (some f) .accessDenied false true (directAddr s.ownWafer f 0 0) src),
      issueAccess .accessDenied)
  else if s.fieldPower f ≠ 0 then (s, issueNoUnit)
  else if descUnit desc = 15 then
    let cs := (s.candidates f cls).filter (fun u => !s.fenced f u)
    match cs with
    | [] => (s, issueNoUnit)
    | _ :: _ =>
      match cs.find? (fun u => s.unitRoom f u) with
      | none => (s, issueFull)
      | some u =>
        let (s1, tag) := s.pushTask f u desc src.parish issuer sheaf
        (s1, tag * 65536)
  else
    match s.unitOf f cls (descUnit desc) with
    | none => (s, issueNoUnit)
    | some u =>
      if s.fenced f u then (s, issueUnitFenced)
      else if !s.unitRoom f u then (s, issueFull)
      else
        let (s1, tag) := s.pushTask f u desc src.parish issuer sheaf
        (s1, tag * 65536)

/-- Count an issue (CRF_ISSUE_COUNT). -/
def State.countIssue (s : State) (f code : Nat) : State :=
  if code % 256 = 0 then s.addWrap RF.CRF_ISSUE_COUNT_ACCEPTED f 0 1
  else s.addWrap RF.CRF_ISSUE_COUNT_REFUSED f 0 1

/-- The target field of a descriptor issued in field `f` (R125). -/
def descTarget (s : State) (f : Nat) (desc : List Byte) : Nat × Nat :=
  if descTgtSelf desc then (s.ownWafer, f) else (descTgtWafer desc, descTgtField desc)

/-- Forward a descriptor to its target (R127, R128): the status is known at once within the wafer,
and `none` where another wafer answers. -/
def State.forward (s : State) (f : Nat) (desc : List Byte) (src : Source) (sheaf : Option Nat) :
    State × Option Nat :=
  let (w, g) := descTarget s f desc
  if 80 ≤ g then (s, some (issueAccess .fieldInvalid))
  else if !s.memberHere w then (s, some (issueAccess .waferAbsent))
  else if w ≠ s.ownWafer then (s.send (.issue (Fin.ofNat 16 w) desc), none)
  else
    let (s1, st) := s.enqueueAt g desc src f sheaf
    (s1, some st)

/-! ### Completion -/

/-- Task status codes of R131. -/
def stOk : Nat := 0
def stInputPoison : Nat := 1
def stUnitFailed : Nat := 2
def stCancelled : Nat := 3
def stBodyInvalid : Nat := 4
def stOperandAccess : Nat := 5

/-- The 16-byte status record, R131. -/
def statusRecord (tag status cls unit cycles detail : Nat) : List Byte :=
  leBytes 8 (tag % 65536 + status % 256 * 2 ^ 16 + cls % 16 * 2 ^ 24 + unit % 16 * 2 ^ 28 +
    min cycles (2 ^ 32 - 1) * 2 ^ 32) ++ leBytes 8 detail

/-- DETAIL of OPERAND_ACCESS: address and access status (R131). (Mark: DEDUCED, log 67.) -/
def accessDetail (addr : Nat) (st : AccStatus) : Nat := addr % 2 ^ 57 + st.code * 2 ^ 57

/-- The address of a completion tally slot. -/
def ctAddr (desc : List Byte) : Nat :=
  directAddr (descCtWafer desc) (descCtField desc) 3 (descCtIndex desc * 64)

/-- The tally index of a slot address. -/
def descIndexOf (addr : Nat) : Nat := nbits addr 6 12

/-- Add one to a tally by address, with ERR on a non-OK status: an engine completion or a receipt
update (R146).  Answers the status the requester learns; an update to another wafer is sent. -/
def State.tallyBump (s : State) (src : Source) (addr : Nat) (err : Bool) (tx : Option TxId) :
    State × AccStatus :=
  match s.locate src addr 8 true false with
  | .fail st tgt => (s.noteAccess tgt st false true addr src, st)
  | .remote w => (s.send (.tally (Fin.ofNat 16 w) addr (if err then 9 else 8) 1#64 s.serial), .ok)
  | .hold f =>
    -- the update waits at the router of a field in reset and is applied when the hold ends
    ({ s with tallies := { s.tallies with
        heldAdds := s.tallies.heldAdds ++ [(tallyKey f (descIndexOf addr), err)] } }, .ok)
  | .at f region off =>
    if region = 3 then
      let (s1, _) := s.dedup f tx (fun t => t.tallyAdd (tallyKey f (off / 64)) 1#64 err)
      (s1, .ok)
    else (s, .addrInvalid)

/-- R131 and R165: write the status record, then update the completion tally with release; a denied
update rewrites the record with OPERAND_ACCESS.  Answers whether the task counts as non-OK. -/
def State.finishDesc (s : State) (src : Source) (desc : List Byte)
    (tag status cls unit cycles detail : Nat) : State × Bool :=
  let s1 := if descStatusEn desc then
      (s.postWrite src (descStatusPtr desc) (statusRecord tag status cls unit cycles detail)).1
    else s
  if descCtEn desc then
    let (s2, st) := s1.tallyBump src (ctAddr desc) (decide (status ≠ stOk)) none
    match st with
    | .accessDenied =>
      if descStatusEn desc then
        ((s2.postWrite src (descStatusPtr desc) (statusRecord tag stOperandAccess cls unit cycles
          (accessDetail (ctAddr desc) .accessDenied))).1, true)
      else (s2, true)
    | _ => (s2, decide (status ≠ stOk))
  else (s1, decide (status ≠ stOk))

/-- The source of a unit's own accesses for a task. -/
def State.taskSource (s : State) (f u : Nat) (t : EngTask) : Source :=
  s.engineSource f t.parish (unitStop u)

/-- The registers in which a unit counts its tasks and captures their first error. -/
structure TaskPage where
  inst : Nat
  done : Option RF
  nonOk : Option RF
  status : RF
  tag : RF
  valid : RF
  more : RF
  event : Option RF

/-- The page of a unit, and its counters (R257, R289, R331, R357, R396). -/
def taskPage (f u : Nat) : TaskPage :=
  if u ≤ 8 then ⟨f * 9 + u, some RF.QRN_TASKS_COMPLETED, some RF.QRN_TASKS_NON_OK,
    RF.QRN_ERR_STATUS_STATUS, RF.QRN_ERR_STATUS_TAG, RF.QRN_ERR_STATUS_VALID,
    RF.QRN_ERR_STATUS_MORE, some RF.QRN_EVENT_TASK_ERR⟩
  else if u = 16 ∨ u = 17 then ⟨f * 2 + (u - 16), some RF.SIV_TASKS_COMPLETED,
    some RF.SIV_TASKS_NON_OK, RF.SIV_ERR_STATUS_STATUS, RF.SIV_ERR_STATUS_TAG,
    RF.SIV_ERR_STATUS_VALID, RF.SIV_ERR_STATUS_MORE, some RF.SIV_EVENT_TASK_ERR⟩
  else if u = unitScree then ⟨f, some RF.SCR_TASKS_COMPLETED, some RF.SCR_TASKS_NON_OK,
    RF.SCR_ERR_STATUS_STATUS, RF.SCR_ERR_STATUS_TAG, RF.SCR_ERR_STATUS_VALID,
    RF.SCR_ERR_STATUS_MORE, some RF.SCR_EVENT_TASK_ERR⟩
  else if u = unitCairn then ⟨f, none, none, RF.CRN_ERR_STATUS_STATUS, RF.CRN_ERR_STATUS_TAG,
    RF.CRN_ERR_STATUS_VALID, RF.CRN_ERR_STATUS_MORE, none⟩
  else ⟨f, some RF.LOM_JOBS_COMPLETED, some RF.LOM_JOBS_NON_OK, RF.LOM_ERR_STATUS_STATUS,
    RF.LOM_ERR_STATUS_TAG, RF.LOM_ERR_STATUS_VALID, RF.LOM_ERR_STATUS_MORE,
    some RF.LOM_EVENT_TASK_ERR⟩

def State.addWrapOpt (s : State) (f : Option RF) (inst : Nat) : State :=
  match f with
  | some g => s.addWrap g inst 0 1
  | none => s

/-- Count a completed task; the first non-OK status is captured (R739). -/
def State.countTask (s : State) (f u tag status : Nat) (bad : Bool) : State :=
  let p := taskPage f u
  let s1 := s.addWrapOpt p.done p.inst
  if bad then
    let s2 := (s1.addWrapOpt p.nonOk p.inst).capture p.valid p.more p.inst fun t =>
      t.setF p.status p.inst 0 status |>.setF p.tag p.inst 0 tag
    match p.event with
    | some e => s2.raise e p.inst
    | none => s2
  else s1

/-- Complete a task of a unit with a status: R131, and the unit's counters.
(Marks: DESIGN CHOICE, log 65; DEDUCED, log 67.) -/
def State.finishTask (s : State) (f u : Nat) (t : EngTask) (status detail cycles : Nat) : State :=
  let (cls, n) := s.unitName f u
  let (s1, bad) := s.finishDesc (s.taskSource f u t) t.desc t.tag status cls n cycles detail
  s1.countTask f u t.tag status bad

/-- Leave byte ranges of a task undefined: each byte it may have written becomes a free byte.  Whether
a fresh granule was written is free too. (Mark: DESIGN CHOICE, log 66.) -/
def State.undefOutputs (s : State) (src : Source) (outs : List (Nat × Nat)) : State :=
  outs.foldl (fun t o => (bursts o.1 o.2).foldl (fun t b =>
    match t.locate src b.1 b.2 true false with
    | .at f region off =>
      if region = 0 ∨ region = 1 then
        let (k, t1) := t.fresh
        let m1 := if t1.mem.fresh f region off && Config.freeBool k 0 then
            t1.mem.fillGranule f (off / 65536) else t1.mem
        { t1 with mem := m1.leaveUndef k (cellKey f region off) b.2 }
      else t
    | _ => t) t) s

/-- Complete tasks one after another with one status and detail.  A cancelled task leaves its outputs
undefined (R249, R281). -/
def State.finishAll (s : State) (f u : Nat) (status detail : Nat) : List EngTask → State
  | [] => s
  | t :: r =>
    let s1 := if status = stCancelled then s.undefOutputs (s.taskSource f u t) t.outputs else s
    (s1.finishTask f u t status detail 0).finishAll f u status detail r

/-- Cancel every queued task of a unit with DETAIL code `code` (R137, R811). -/
def State.cancelQueue (s : State) (f u code : Nat) : State :=
  let q := (s.engine f u).queue
  (s.modEngine f u (fun e => { e with queue := [] })).finishAll f u stCancelled code q

/-- End every running task of a unit. -/
def State.endRunning (s : State) (f u status code : Nat) : State :=
  let q := (s.engine f u).running
  (s.modEngine f u (fun e => { e with running := [] })).finishAll f u status code q

/-- Take tasks of a parish or sheaf out of a unit and complete them CANCELLED (R171); a replay of one of
them is abandoned (R629). -/
def State.cancelWhere (s : State) (f u code : Nat) (p : EngTask → Bool) : State :=
  let e := s.engine f u
  let l := e.running.filter p ++ e.queue.filter p ++ e.suspects.filter p
  let gone := l.map (·.serial)
  let drop := fun (x : Replay) => if x.current.any (fun n => gone.contains n) then
    { x with current := none } else x
  let s1 := s.modEngine f u (fun x => { x with
    queue := x.queue.filter (fun t => !p t)
    running := x.running.filter (fun t => !p t)
    suspects := x.suspects.filter (fun t => !p t) })
  let s2 := { s1 with resets := { s1.resets with
    recoveries := s1.resets.recoveries.map (fun (x : Recovery) => { x with
      engines := x.engines.map drop }) } }
  s2.finishAll f u stCancelled code l

/-- The unit keys of a field. -/
def fieldUnits : List Nat := [0, 1, 2, 3, 4, 5, 6, 7, 8, 16, 17, 20, 21, 22]

/-- Start the head task of a unit's queue: it moves to the running list. (Mark: DESIGN CHOICE, log 64.) -/
def State.startTask (s : State) (f u : Nat) : Option (EngTask × State) :=
  let e := s.engine f u
  match e.queue with
  | [] => none
  | t :: r =>
    let t' := { t with start := some s.now }
    some (t', s.setEngine f u { e with queue := r, running := e.running ++ [t'], lastProgress := s.now })

/-- Replace a running task. -/
def State.modTask (s : State) (f u serial : Nat) (g : EngTask → EngTask) : State :=
  s.modEngine f u (fun e => { e with
    running := e.running.map (fun t => if t.serial = serial then g t else t) })

/-- Decide a running task's status before its completion. (Mark: DESIGN CHOICE, log 64.) -/
def State.settle (s : State) (f u serial status detail : Nat) : State :=
  s.modTask f u serial (fun t => match t.status with
    | some _ => t
    | none => { t with status := some status, detail := detail })

/-- Note the output range a task may have written. -/
def State.noteOutput (s : State) (f u serial addr n : Nat) : State :=
  s.modTask f u serial (fun t => { t with outputs := t.outputs ++ [(addr, n)] })

/-- Poison every output sector a task may have written (R248, R616). (Mark: DESIGN CHOICE, log 66.) -/
def State.poisonTask (s : State) (f u : Nat) (t : EngTask) : State :=
  t.outputs.foldl (fun x o => x.poisonOut (s.taskSource f u t) o.1 o.2) s

/-- Record the step time of a task that completed OK, or of a committed frame (R613). -/
def State.noteStep (s : State) (f u key status cycles : Nat) : State :=
  if status = stOk then s.modEngine f u (fun e => { e with stepTimes := e.stepTimes.put 0 key cycles })
  else s

/-- The key of the step time of a loom's pipe. -/
def pipeKey (enc : Bool) : Nat := 256 + b2n enc

/-- Complete the oldest running task whose status is decided, after `cycles` cycles (R131). -/
def State.completeOldest (s : State) (f u cycles : Nat) : Option (EngTask × Nat × State) :=
  match (s.engine f u).running with
  | [] => none
  | t :: r =>
    match t.status with
    | none => none
    | some st =>
      let s1 := (s.modEngine f u (fun e => { e with running := r, lastProgress := s.now })).noteStep
        f u (descOpcode t.desc) st cycles
      some (t, st, s1.finishTask f u t st t.detail cycles)

/-- May a unit start work now? -/
def State.unitRuns (s : State) (f u : Nat) : Bool :=
  s.fieldRuns f && !(s.engine f u).inReset && !s.fenced f u

/-- The memory keys of the bytes that address ranges reach. -/
def State.keysOf (s : State) (src : Source) (l : List (Nat × Nat)) : List (Nat × Nat) :=
  (l.flatMap (fun o => bursts o.1 o.2)).filterMap (fun b =>
    match s.locate src b.1 b.2 false false with
    | .at f region off =>
      let (rg, o) := s.backing f region off
      some (cellKey f rg o, b.2)
    | _ => none)

/-- Do two lists of key ranges share a byte? -/
def keysMeet (a b : List (Nat × Nat)) : Bool :=
  a.any (fun x => b.any (fun y => decide (x.1 < y.1 + y.2) && decide (y.1 < x.1 + x.2)))

/-- Settle a task with a status for which the spec names no DETAIL: it is a free value. -/
def State.settleOpen (s : State) (f u serial status : Nat) : State :=
  let (k, s1) := s.fresh
  s1.settle f u serial status (Config.freeWord k 0).toNat

/-- Settle a task that an operand or output access ended: R219, R247. -/
def State.settleAccess (s : State) (f u serial addr : Nat) (st : AccStatus) : State :=
  match st with
  | .poison => s.settleOpen f u serial stInputPoison
  | _ => s.settle f u serial stOperandAccess (accessDetail addr st)

end Sys2Proof.Machine
end

