-- ==== Sys2Proof/Machine/Quern.lean ====
section
/-! DEFINITION. The querns (R222–R257): the checks of a task descriptor, operand layouts, gathered KV
operands, the products of array and lane mode, the drain, holds and completion. -/

namespace Sys2Proof.Machine

/-! ### The descriptor, R225 -/

def qA (d : List Byte) : Nat := bitField d 128 57
def qW (d : List Byte) : Nat := bitField d 192 57
def qGather (d : List Byte) : Bool := bitField d 249 1 == 1
def qTrans (d : List Byte) : Bool := bitField d 250 1 == 1
def qO (d : List Byte) : Nat := bitField d 256 57
def qAccum (d : List Byte) : Bool := bitField d 313 1 == 1
def qSat (d : List Byte) : Bool := bitField d 314 1 == 1
def qM (d : List Byte) : Nat := bitField d 320 16 + 1
def qK (d : List Byte) : Nat := bitField d 336 20 + 1
def qN (d : List Byte) : Nat := bitField d 356 20 + 1
def qAFmt (d : List Byte) : Nat := bitField d 384 6
def qWFmt (d : List Byte) : Nat := bitField d 390 6
def qOFmt (d : List Byte) : Nat := bitField d 396 6
def qAux (d : List Byte) : Nat := bitField d 408 40
def qAStride (d : List Byte) : Nat := bitField d 448 32
def qOStride (d : List Byte) : Nat := bitField d 480 32

/-- Are the reserved bits of R225 zero? -/
def qReservedOk (d : List Byte) : Bool :=
  decide (bitField d 185 7 = 0) && decide (bitField d 251 5 = 0) && decide (bitField d 315 5 = 0) &&
    decide (bitField d 376 8 = 0) && decide (bitField d 402 6 = 0)

/-- Opcodes of R226. -/
def qopNop : Nat := 0
def qopMatmul : Nat := 1
def qopCplx : Nat := 2
def qopWide : Nat := 3
def qopLane : Nat := 0x10

/-- Bits of a BAI format, 0 for any other (R200). -/
def baiBits (fmt : Nat) : Nat := if fmt = 8 then 8 else if fmt = 9 then 12 else if fmt = 10 then 16 else 0

/-- Bytes of an element of the formats 0x00–0x07 (R200). -/
def elemBytes (fmt : Nat) : Nat :=
  if fmt = 0 ∨ fmt = 7 then 4 else if fmt = 1 ∨ fmt = 2 ∨ fmt = 6 then 2 else 1

/-- Bytes of a row of `n` elements (R228, R230). -/
def rowBytes (fmt n : Nat) : Nat :=
  if baiBits fmt = 0 then n * elemBytes fmt else ceilDiv n 32 * (4 * baiBits fmt + 1)

/-- The floating-point format of a code. -/
def fmtOf (fmt : Nat) : Fmt :=
  if fmt = 0 then fp32 else if fmt = 1 then bf16 else if fmt = 2 then fp16 else if fmt = 3 then e4m3
  else e5m2

/-- Rows of activations and of outputs (R228, R237). -/
def qRows (d : List Byte) : Nat := if descOpcode d = qopCplx then 2 * qM d else qM d

/-- Bytes of a 32-weight block, R229. -/
def wBlockBytes (fmt : Nat) : Nat :=
  if fmt = 0x0B then 32 else if fmt = 0x0C then 16 else 4 * (fmt % 16 + 1)

/-- Bytes of one weight scale, R229. -/
def wScaleBytes (fmt : Nat) : Nat := if fmt = 0x0B ∨ fmt = 0x0C then 1 else 2

/-- Blocks of the weight matrix. -/
def qBlocks (d : List Byte) : Nat := qN d * ceilDiv (qK d) 32

/-- Bytes of the planes of a weight tensor. -/
def planeBytes (d : List Byte) (fmt : Nat) : Nat := qBlocks d * wBlockBytes fmt

/-- Bytes of a weight tensor with its scale array (R229). -/
def weightBytes (d : List Byte) (fmt : Nat) : Nat :=
  roundUp (planeBytes d fmt) 64 + qBlocks d * wScaleBytes fmt

/-- The byte ranges of the ungathered weight operands (R229, R237, R238). -/
def qWeightRanges (d : List Byte) : List (Nat × Nat) :=
  let w := (qW d, weightBytes d (qWFmt d))
  if descOpcode d = qopCplx then [w, (qW d + qAux d, weightBytes d (qWFmt d))]
  else if descOpcode d = qopWide then [w, (qW d + qAux d, planeBytes d 0x2F)]
  else [w]

/-- The byte ranges of rows. -/
def rowRanges (base stride rows len : Nat) : List (Nat × Nat) :=
  (List.range rows).map (fun r => (base + r * stride, len))

def qARanges (d : List Byte) : List (Nat × Nat) :=
  rowRanges (qA d) (qAStride d) (qRows d) (rowBytes (qAFmt d) (qK d))

def qORanges (d : List Byte) : List (Nat × Nat) :=
  rowRanges (qO d) (qOStride d) (qRows d) (rowBytes (qOFmt d) (qN d))

/-- Does every range lie below the top of the commons space? -/
def rangesFit (l : List (Nat × Nat)) : Bool := l.all (fun x => decide (x.1 + x.2 ≤ 2 ^ 57))

/-- Are the format codes allowed by R227? (Mark: DEDUCED, log 71.) -/
def qFormatsOk (d : List Byte) : Bool :=
  let a := qAFmt d
  let w := qWFmt d
  let o := qOFmt d
  let aOk := decide (a ∈ [1, 2, 3, 4, 8, 9, 10])
  let wOk :=
    if qGather d then decide (w ∈ [0x30, 0x31, 1, 3])
    else if descOpcode d = qopWide then decide (w = 0x1F)
    else decide (w = 0x0B ∨ w = 0x0C ∨ (0x10 ≤ w ∧ w < 0x30))
  aOk && wOk && decide (o ≤ 10)

/-- The lowest BODY_INVALID reason that applies, 0 for none (R231).
(Marks: DEDUCED, log 69; DEDUCED, log 71.) -/
def qBodyReason (d : List Byte) : Nat :=
  let op := descOpcode d
  let multi := decide (1 < qRows d)
  let two := decide (op = qopCplx ∨ op = qopWide)
  let bai := decide (baiBits (qOFmt d) ≠ 0)
  if !qReservedOk d || !decide (op ∈ [qopNop, qopMatmul, qopCplx, qopWide, qopLane]) then 1
  else if op = qopNop then 0
  else if !qFormatsOk d then 2
  else if op = qopLane ∧ 16 < qM d then 3
  else if qA d % 64 ≠ 0 ∨ qW d % 64 ≠ 0 ∨ qO d % 64 ≠ 0 ∨ qAux d % 64 ≠ 0 ∨
      (multi ∧ (qAStride d % 64 ≠ 0 ∨ qOStride d % 64 ≠ 0)) then 4
  else if multi ∧ (qAStride d < rowBytes (qAFmt d) (qK d) ∨ qOStride d < rowBytes (qOFmt d) (qN d))
    then 5
  else if (qTrans d && !qGather d) || (qGather d && (two || decide (op = qopLane))) then 6
  else if qAccum d ∧ qOFmt d ≠ 0 then 7
  else if bai ∧ (qN d % 32 ≠ 0 ∨ qGather d) then 8
  else if two = decide (qAux d = 0) then 9
  else if !rangesFit (qARanges d) || !rangesFit (qORanges d) ||
      (!qGather d && !rangesFit (qWeightRanges d)) then 0xA
  else 0

/-! ### Operands -/

/-- Element `i` of a byte list that holds `b`-bit codes packed from bit 0. -/
def packed (l : List Byte) (b i : Nat) : Nat := bitField l (b * i) b

/-- The blocks of an activation row as the feeder gives them (R210, R211, R228). -/
def actBlocks (fmt k : Nat) (row : List Byte) : List BaiBlock :=
  let nb := ceilDiv k 32
  let b := baiBits fmt
  (List.range nb).map fun j =>
    if b ≠ 0 then
      ⟨leField row (nb * 4 * b + j) 1,
        (List.range 32).map (fun i =>
          if 32 * j + i < k then sint b (packed (row.drop (4 * b * j)) b i) else 0)⟩
    else
      toBai (if fmt = 1 ∨ fmt = 2 then 16 else 8) ((List.range 32).map (fun i =>
        if 32 * j + i < k then
          (fmtOf fmt).unpack (leField row ((32 * j + i) * elemBytes fmt) (elemBytes fmt))
        else .fin false 0 0))

/-- A weight block: 32 integers, a scale, and the format's extra power of two. -/
structure WBlock where
  m : List Int
  scale : Val
  extra : Int
  deriving DecidableEq, Repr

/-- Element `i` of a block of `n` planes (R205). -/
def planeElem (n : Nat) (signed : Bool) (l : List Byte) (i : Nat) : Int :=
  let v := listMask ((List.range n).filter (fun j => (leField l (4 * j) 4).testBit i))
  if signed then sint n v else (v : Int)

/-- Twice the value of an E2M1 code (R207). -/
def e2m1x2 (c : Nat) : Int :=
  let mag : Int := if c % 8 = 5 then 6 else if c % 8 = 6 then 8 else if c % 8 = 7 then 12
    else if c % 8 ≤ 4 then c % 8 else 0
  if c % 16 < 8 then mag else -mag

/-- The integers of an ungathered weight block (R205–R207). -/
def wInts (fmt : Nat) (l : List Byte) : List Int :=
  (List.range 32).map fun i =>
    if fmt = 0x0B then sint 8 (leField l i 1)
    else if fmt = 0x0C then e2m1x2 (packed l 4 i)
    else planeElem (fmt % 16 + 1) (decide (fmt < 0x20)) l i

/-- Block `i` of an ungathered weight tensor held in `l` (R229). -/
def wBlock (d : List Byte) (fmt : Nat) (l : List Byte) (i : Nat) : WBlock :=
  let ints := wInts fmt ((l.drop (i * wBlockBytes fmt)).take (wBlockBytes fmt))
  let sc := leField l (roundUp (planeBytes d fmt) 64 + i * wScaleBytes fmt) (wScaleBytes fmt)
  if fmt = 0x0B then ⟨ints, e8m0 sc, -6⟩
  else if fmt = 0x0C then ⟨ints, e8m0 sc, -1⟩
  else ⟨ints, bf16.unpack sc, 0⟩

/-- The blocks of column `n`. -/
def wColumn (d : List Byte) (fmt : Nat) (l : List Byte) (n : Nat) : List WBlock :=
  let nb := ceilDiv (qK d) 32
  (List.range nb).map (fun k => wBlock d fmt l (n * nb + k))

/-! ### Gathered operands, R239 -/

/-- Bytes of `n` KV elements of a page format (R291). -/
def kvBytes (fmt n : Nat) : Nat := if fmt = 1 then 2 * n else if fmt = 0x31 then n / 2 else n

/-- The value of an element of a 32-element KV block, by its code. -/
def kvCode (fmt : Nat) (l : List Byte) (i : Nat) : Nat :=
  if fmt = 1 then leField l (2 * i) 2 else if fmt = 0x31 then packed l 4 i else leField l i 1

/-- The conversion of a block of KV elements, given as codes, by the weight loader (R217). -/
def kvBlock (fmt : Nat) (scale : Val) (codes : List (Option Nat)) : WBlock :=
  if fmt = 0x30 then ⟨codes.map (fun c => sint 8 (c.getD 0)), scale, 0⟩
  else if fmt = 0x31 then ⟨codes.map (fun c => sint 4 (c.getD 0)), scale, 0⟩
  else if fmt = 3 then
    match toMxInt8 (codes.map (fun c => e4m3.unpack (c.getD 0))) with
    | some (x, m) => ⟨m, if x = 0 then .fin false 0 0 else .fin false 1 ((x : Int) - 127), -6⟩
    | none => ⟨codes.map (fun _ => 0), .nan, 0⟩
  else
    let b := toBai 16 (codes.map (fun c => bf16.unpack (c.getD 0)))
    if b.x = 255 then ⟨b.m, .nan, 0⟩
    else if b.x = 0 then ⟨b.m, .fin false 0 0, 0⟩
    else ⟨b.m, .fin false 1 ((b.x : Int) - 127), 0⟩

/-- An entry of a gather list (R314). -/
structure GatherEntry where
  addr : Nat
  fill : Nat
  scale : Nat
  reserved : Nat
  deriving DecidableEq, Repr

def gatherEntry (l : List Byte) (i : Nat) : GatherEntry :=
  let e := (l.drop (64 + 16 * i)).take 16
  ⟨bitField e 0 57, bitField e 57 7, bitField e 64 32, bitField e 96 32⟩

/-- Is a gather entry well formed (R249, cause 2)? -/
def GatherEntry.ok (e : GatherEntry) : Bool :=
  decide (e.reserved = 0) && decide (e.fill ≤ 64) &&
    match fp32.unpack e.scale with
    | .fin neg m _ => !neg && decide (m ≠ 0)
    | _ => false

def glEntries (h : List Byte) : Nat := bitField h 32 32
def glRowStride (h : List Byte) : Nat := bitField h 64 32

/-- Is the header of a gather list valid for the task (R249, cause 1)? -/
def glHeaderOk (d h : List Byte) : Bool :=
  decide (bitField h 0 6 = qWFmt d) && decide (bitField h 22 10 = 0) &&
    decide (bitField h 96 416 = 0) && decide (bitField h 6 4 ≤ bitField h 10 4)

/-- GATHER_INVALID of R249, with its DETAIL. -/
def stGatherInvalid : Nat := 0x80

/-- The first check of R249 that a gather list fails, as DETAIL. -/
def glCheck (d l : List Byte) : Option Nat :=
  let n := glEntries l
  if !glHeaderOk d l then some (0xFFFF + 2 ^ 16)
  else
    match (List.range n).find? (fun i => !(gatherEntry l i).ok) with
    | some i => some (i % 65536 + 2 * 2 ^ 16)
    | none =>
      if 64 * n < (if qTrans d then qK d else qN d) then some (n % 65536 + 3 * 2 ^ 16) else none

/-- Is token `p` of the list written? -/
def glWritten (l : List Byte) (p : Nat) : Bool := decide (p % 64 < (gatherEntry l (p / 64)).fill)

/-- Address of the head's row of token `p`. -/
def glRow (l : List Byte) (p : Nat) : Nat :=
  (gatherEntry l (p / 64)).addr + p % 64 * glRowStride l

def glScale (l : List Byte) (p : Nat) : Val := fp32.unpack (gatherEntry l (p / 64)).scale

/-- The rows a gathered task reads: the written tokens, in order. -/
def glRows (d l : List Byte) : List (Nat × Nat) :=
  let tokens := if qTrans d then qK d else qN d
  let width := if qTrans d then qN d else qK d
  ((List.range tokens).filter (glWritten l)).map (fun p => (glRow l p, kvBytes (qWFmt d) width))

/-- The weight column `n` of a gathered task; `rows` holds the bytes of each token's row, empty for
a masked token.  `none` is a masked output column. -/
def glColumn (d l : List Byte) (rows : List (List Byte)) (n : Nat) : Option (List WBlock) :=
  let fmt := qWFmt d
  let k := qK d
  let blocks := List.range (ceilDiv k 32)
  if qTrans d then
    some (blocks.map fun j => kvBlock fmt (glScale l (32 * j)) ((List.range 32).map (fun i =>
      let p := 32 * j + i
      if p < k && glWritten l p then some (kvCode fmt (rows.getD p []) n) else none)))
  else if glWritten l n then
    some (blocks.map fun j => kvBlock fmt (glScale l n) ((List.range 32).map (fun i =>
      if 32 * j + i < k then some (kvCode fmt (rows.getD n []) (32 * j + i)) else none)))
  else none

/-! ### Products -/

/-- The exact sum of one block (R213). -/
def blockSum : List Int → List Int → Int
  | a :: r, b :: q => a * b + blockSum r q
  | _, _ => 0

/-- The value of one block of an activation row against a weight block (R214, R218). -/
def blockVal (a : BaiBlock) (w : WBlock) : Val := blockValue (blockSum a.m w.m) w.scale a.x w.extra

/-- Block values of a row against a column. -/
def rowVals (a : List BaiBlock) (w : List WBlock) : List Val := List.zipWith blockVal a w

/-- Does a row or a column hold a non-finite input (R218)? -/
def nonfiniteIn (a : List BaiBlock) (w : List WBlock) : Bool :=
  a.any (fun x => decide (x.x = 255)) || w.any (fun x => !x.scale.finite)

/-- Block values of MATMUL_WIDE (R238): the sum is formed exactly from both halves. -/
def wideVals (a : List BaiBlock) (hi : List WBlock) (lo : List (List Int)) : List Val :=
  List.zipWith (fun (x : BaiBlock) (w : WBlock × List Int) =>
    blockValue (blockSum x.m w.1.m * 65536 + blockSum x.m w.2) w.1.scale x.x 0) a (List.zip hi lo)

/-- One FP32 result, or a masked column (R239). -/
inductive QResult where
  | val (code : Nat)
  | masked
  deriving DecidableEq, Repr

/-- Is the FP32-to-`fmt` conversion of a value a saturation (R203, R204, R246)? -/
def saturates (sat : Bool) (fmt : Nat) (v : Val) : Bool :=
  if fmt = 5 ∨ fmt = 6 ∨ fmt = 7 then
    let w := 8 * elemBytes fmt
    match v with
    | .nan => false
    | .inf _ => true
    | .fin _ _ _ => decide (v.toInt .rne ≠ v.toIntSat w)
  else (sat || decide (fmt = 3)) && (fmtOf fmt).overflows v

/-- The code of a value in one of the formats 0x00–0x07 (R203, R204). -/
def convCode (sat : Bool) (fmt : Nat) (v : Val) : Nat :=
  if fmt = 5 ∨ fmt = 6 ∨ fmt = 7 then tcode (8 * elemBytes fmt) (v.toIntSat (8 * elemBytes fmt))
  else (fmtOf fmt).pack sat v

/-- The code of a masked column: −∞, or the most negative finite value (R239). -/
def maskedCode (fmt : Nat) : Nat :=
  if fmt = 5 ∨ fmt = 6 ∨ fmt = 7 then 2 ^ (8 * elemBytes fmt - 1)
  else if fmt = 3 then 0xFE
  else (fmtOf fmt).pack false (.inf true)

/-- The bytes of an output row (R230, R246). -/
def outRow (d : List Byte) (row : List QResult) : List Byte :=
  let fmt := qOFmt d
  let b := baiBits fmt
  if b = 0 then row.flatMap (fun r => match r with
    | .val c => leBytes (elemBytes fmt) (convCode (qSat d) fmt (fp32.unpack c))
    | .masked => leBytes (elemBytes fmt) (maskedCode fmt))
  else
    let blocks := (List.range (row.length / 32)).map fun j =>
      toBai b (((row.drop (32 * j)).take 32).map (fun r => match r with
        | .val c => fp32.unpack c
        | .masked => .nan))
    blocks.flatMap (fun x => leBytes (4 * b)
      (leNatBits b (x.m.map (fun i => tcode b i)))) ++ blocks.map (fun x => BitVec.ofNat 8 x.x)
where
  /-- Codes of `b` bits packed from bit 0. -/
  leNatBits (b : Nat) : List Nat → Nat
    | [] => 0
    | c :: r => c + 2 ^ b * leNatBits b r

/-- Saturated conversions of an output row. -/
def rowSats (d : List Byte) (row : List QResult) : Nat :=
  if baiBits (qOFmt d) ≠ 0 then 0
  else (row.filter (fun r => match r with
    | .val c => saturates (qSat d) (qOFmt d) (fp32.unpack c)
    | .masked => false)).length

/-- The operands of a task as read. -/
structure QInputs where
  acts : List (List BaiBlock)
  cols : List (Option (List WBlock))
  second : List (List WBlock)       -- imaginary weights of MATMUL_CPLX
  low : List (List (List Int))      -- low halves of MATMUL_WIDE
  accum : List (List Nat)           -- FP32 codes at the output, with ACCUM
  deriving DecidableEq, Repr

/-- The accumulator's first value (R246). -/
def QInputs.acc0 (q : QInputs) (r n : Nat) : Nat := (q.accum.getD r []).getD n 0

/-- Exact sum of two block values, one of them negated where `neg`. (Mark: DEDUCED, log 70.) -/
def combine (neg : Bool) (a b : Val) : Val := Val.add .rne a (if neg then b.neg else b)

/-- The results of row `r`, in column order (R214, R237, R238, R246). (Mark: DEDUCED, log 70.) -/
def QInputs.row (q : QInputs) (op n r : Nat) : List QResult :=
  (List.range n).map fun c =>
    match q.cols.getD c none with
    | none => .masked
    | some w =>
      if op = qopCplx then
        let ar := q.acts.getD (r / 2 * 2) []
        let ai := q.acts.getD (r / 2 * 2 + 1) []
        let wi := q.second.getD c []
        let vs := if r % 2 = 0 then List.zipWith (combine true) (rowVals ar w) (rowVals ai wi)
          else List.zipWith (combine false) (rowVals ar wi) (rowVals ai w)
        .val (drain (q.acc0 r c) vs)
      else if op = qopWide then
        .val (drain (q.acc0 r c) (wideVals (q.acts.getD r []) w (q.low.getD c [])))
      else .val (drain (q.acc0 r c) (rowVals (q.acts.getD r []) w))

/-- Does any output take a non-finite input (R218)? -/
def QInputs.nonfinite (q : QInputs) : Bool :=
  q.acts.any (fun a => nonfiniteIn a []) ||
    q.cols.any (fun c => match c with | some w => nonfiniteIn [] w | none => false) ||
    q.second.any (fun w => nonfiniteIn [] w)

/-! ### Reading and writing -/

/-- Read byte ranges one after another; the first failure ends it. (Mark: DESIGN CHOICE, log 68.) -/
def State.readAll (s : State) (src : Source) :
    List (Nat × Nat) → State × Except (Nat × AccStatus) (List (List Byte))
  | [] => (s, .ok [])
  | (a, n) :: r =>
    match s.bulkRead src a n with
    | (s1, ⟨b, none⟩) =>
      match s1.readAll src r with
      | (s2, .ok l) => (s2, .ok (b :: l))
      | (s2, .error e) => (s2, .error e)
    | (s1, ⟨_, some e⟩) => (s1, .error e)

/-- Write byte strings one after another; the first failure ends it. -/
def State.writeAll (s : State) (src : Source) :
    List (Nat × List Byte) → State × Option (Nat × AccStatus)
  | [] => (s, none)
  | (a, b) :: r =>
    match s.bulkWrite src a b with
    | (s1, none) => s1.writeAll src r
    | (s1, some e) => (s1, some e)

/-- Place the rows read for the written tokens at their positions. -/
def placeRows (l : List Byte) : Nat → Nat → List (List Byte) → List (List Byte)
  | 0, _, _ => []
  | n + 1, p, rows =>
    if glWritten l p then rows.headD [] :: placeRows l n (p + 1) rows.tail
    else [] :: placeRows l n (p + 1) rows

/-- The gather list of a task: its header, then its entries (R239, R249). -/
def State.readList (s : State) (src : Source) (d : List Byte) :
    State × Except (Nat × AccStatus) (List Byte) :=
  match s.bulkRead src (qW d) 64 with
  | (s1, ⟨_, some e⟩) => (s1, .error e)
  | (s1, ⟨h, none⟩) =>
    if !glHeaderOk d h then (s1, .ok h)
    else
      match s1.bulkRead src (qW d + 64) (16 * glEntries h) with
      | (s2, ⟨_, some e⟩) => (s2, .error e)
      | (s2, ⟨b, none⟩) => (s2, .ok (h ++ b))

/-- The column blocks of the ungathered weights. -/
def plainCols (d : List Byte) (fmt : Nat) (l : List Byte) : List (List WBlock) :=
  (List.range (qN d)).map (wColumn d fmt l)

/-- The low halves of MATMUL_WIDE by column and block (R238). -/
def lowCols (d l : List Byte) : List (List (List Int)) :=
  let nb := ceilDiv (qK d) 32
  (List.range (qN d)).map (fun n => (List.range nb).map (fun k =>
    wInts 0x2F ((l.drop ((n * nb + k) * 64)).take 64)))

/-- FP32 codes of rows read for ACCUM. -/
def accumCodes (d : List Byte) (rows : List (List Byte)) : List (List Nat) :=
  rows.map (fun r => (List.range (qN d)).map (fun n => leField r (4 * n) 4))

/-- Assemble a task's inputs from what was read: activations, weights, and ACCUM rows. -/
def qInputs (d gl : List Byte) (a w acc : List (List Byte)) : QInputs :=
  let acts := a.map (actBlocks (qAFmt d) (qK d))
  if qGather d then
    let rows := placeRows gl (if qTrans d then qK d else qN d) 0 w
    ⟨acts, (List.range (qN d)).map (glColumn d gl rows), [], [], accumCodes d acc⟩
  else
    let w0 := w.headD []
    let w1 := w.tail.headD []
    ⟨acts, (plainCols d (qWFmt d) w0).map some,
      if descOpcode d = qopCplx then plainCols d (qWFmt d) w1 else [],
      if descOpcode d = qopWide then lowCols d w1 else [], accumCodes d acc⟩

/-- The output rows of a task. -/
def qResults (d : List Byte) (q : QInputs) : List (List QResult) :=
  (List.range (qRows d)).map (q.row (descOpcode d) (qN d))

/-- The product of a checked task: reads, computation, writes, and the status it will end with. -/
def State.qProduct (s : State) (f u : Nat) (t : EngTask) (gl : List Byte) : State :=
  let d := t.desc
  let src := s.taskSource f u t
  let wr := if qGather d then glRows d gl else qWeightRanges d
  let outs := qORanges d
  let accs := if qAccum d then outs else []
  let s0 := outs.foldl (fun x o => x.noteOutput f u t.serial o.1 o.2) s
  let stop (x : State) (e : Nat × AccStatus) : State :=
    (x.undefOutputs src outs).settleAccess f u t.serial e.1 e.2
  match s0.readAll src (qARanges d) with
  | (s1, .error e) => stop s1 e
  | (s1, .ok a) =>
    match s1.readAll src wr with
    | (s2, .error e) => stop s2 e
    | (s2, .ok w) =>
      match s2.readAll src accs with
      | (s3, .error e) => stop s3 e
      | (s3, .ok acc) =>
        let q := qInputs d gl a w acc
        let rows := qResults d q
        let inst := f * 9 + u
        let s4 := s3.addSat RF.QRN_SAT_COUNT inst 0 ((rows.map (rowSats d)).sum)
        match s4.writeAll src (List.zip (outs.map (·.1)) (rows.map (outRow d))) with
        | (s5, some e) => stop s5 e
        | (s5, none) =>
          let operands := qARanges d ++ wr ++ (if qGather d then [(qW d, gl.length)] else [])
          let s6 := if keysMeet (s5.keysOf src outs) (s5.keysOf src operands) then
              s5.undefOutputs src outs else s5
          (s6.settleOpen f u t.serial stOk).modTask f u t.serial
            (fun x => { x with nonfinite := q.nonfinite })

/-- Run a checked task; a gathered one reads and checks its list first (R239, R249). -/
def State.qRun (s : State) (f u : Nat) (t : EngTask) : State :=
  let d := t.desc
  if qGather d then
    match s.readList (s.taskSource f u t) d with
    | (s1, .error e) => s1.settleAccess f u t.serial e.1 e.2
    | (s1, .ok l) =>
      match glCheck d l with
      | some detail => s1.settle f u t.serial stGatherInvalid detail
      | none => s1.qProduct f u t l
  else s.qProduct f u t []

/-- The mode an opcode runs in: lane, array, or none (R226). -/
def qLane (op : Nat) : Bool := decide (op = qopLane)

/-- The mode switch at the start of a task (R242); a switch is counted. (Mark: DEDUCED, log 73.) -/
def State.qSwitch (s : State) (f u op : Nat) : State :=
  let inst := f * 9 + u
  if s.flag RF.QRN_ID_MODE inst 0 = qLane op then s
  else (s.setFlag RF.QRN_ID_MODE inst 0 (qLane op)).addWrap RF.QRN_MODE_SWITCHES_COUNT inst 0 1

/-- May a quern start the task at the head of its queue: an opcode that `ok` admits, after the
preceding task has written its last output (R224)? (Mark: DEDUCED, log 73.) -/
def State.qMayStart (s : State) (f u : Nat) (ok : Nat → Bool) : Bool :=
  let e := s.engine f u
  s.unitRuns f u && e.running.all (fun t => t.status.isSome) &&
    match e.queue with
    | [] => false
    | t :: _ => ok (descOpcode t.desc)

/-- Start the task at the head of a quern's queue (R224, R231, R242). -/
def State.qStart (s : State) (f u : Nat) (ok : Nat → Bool) : State :=
  if !s.qMayStart f u ok then s
  else
    match s.startTask f u with
    | none => s
    | some (t, s1) =>
      match qBodyReason t.desc with
      | 0 => (s1.qSwitch f u (descOpcode t.desc)).qRun f u t
      | r => s1.settle f u t.serial stBodyInvalid r

/-! ### The commands -/

/-- QRN_NOP (R226): a NOP starts and completes without work, `cycles` mill cycles later.  It does not
change the mode; its reserved bits are checked (R231). -/
def execQrnNop (f : FieldId) (q : Fin 9) (cycles : Nat) (s : State) : Out :=
  .next (
    if !s.qMayStart f.val q.val (fun op => decide (op = qopNop)) ||
        !(s.engine f.val q.val).running.isEmpty then s
    else
      match s.startTask f.val q.val with
      | none => s
      | some (t, s1) =>
        let s2 := match qBodyReason t.desc with
          | 0 => s1.settleOpen f.val q.val t.serial stOk
          | r => s1.settle f.val q.val t.serial stBodyInvalid r
        match s2.completeOldest f.val q.val cycles with
        | some (_, _, s3) => s3.addWrap RF.QRN_BUSY_CYCLES_COUNT (f.val * 9 + q.val) 0 cycles
        | none => s2)

/-- QRN_MATMUL (R232): the head task starts in array mode.  A reserved opcode ends here with
BODY_INVALID (R226). -/
def execQrnMatmul (f : FieldId) (q : Fin 9) (s : State) : Out :=
  .next (s.qStart f.val q.val
    (fun op => !decide (op ∈ [qopNop, qopCplx, qopWide, qopLane])))

/-- QRN_MATMUL_CPLX (R237). -/
def execQrnMatmulCplx (f : FieldId) (q : Fin 9) (s : State) : Out :=
  .next (s.qStart f.val q.val (fun op => decide (op = qopCplx)))

/-- QRN_MATMUL_WIDE (R238). -/
def execQrnMatmulWide (f : FieldId) (q : Fin 9) (s : State) : Out :=
  .next (s.qStart f.val q.val (fun op => decide (op = qopWide)))

/-- QRN_LANE_MV (R240, R241). -/
def execQrnLaneMv (f : FieldId) (q : Fin 9) (s : State) : Out :=
  .next (s.qStart f.val q.val (fun op => decide (op = qopLane)))

/-- ARRAY_HOLD_EXIT (R244, R245): a hold of `length` cycles ends; it is counted with its cause: the
side (`col`) and the row or column index. (Mark: DESIGN CHOICE, log 72.) -/
def execArrayHoldExit (f : FieldId) (q : Fin 9) (col : Bool) (index : Fin 256) (length : Nat)
    (s : State) : Out :=
  .next (
    let inst := f.val * 9 + q.val
    if !s.unitRuns f.val q.val || (s.engine f.val q.val).running.isEmpty then s
    else
      let s1 := s.addSat RF.QRN_HOLD_COUNT_COUNT inst 0 1 |>.addSat RF.QRN_HOLD_CYCLES_COUNT inst 0 length
      let s2 := s1.setF RF.QRN_HOLD_LAST_SIDE inst 0 (b2n col)
        |>.setF RF.QRN_HOLD_LAST_INDEX inst 0 index.val
        |>.setF RF.QRN_HOLD_LAST_LENGTH inst 0 (min length (2 ^ 24 - 1))
      let w := s.now / 100000
      s2.modEngine f.val q.val (fun e =>
        if e.holdWindow = w then { e with holdCycles := e.holdCycles + length }
        else { e with holdWindow := w, holdCycles := length }))

/-- QRN_HOLD_WINDOW (R245): the hold cycles of the present 100 µs window exceed QRN_HOLD_THRESH.
(Mark: DESIGN CHOICE, log 72.) -/
def execQrnHoldWindow (f : FieldId) (q : Fin 9) (s : State) : Out :=
  .next (
    let inst := f.val * 9 + q.val
    let e := s.engine f.val q.val
    if e.holdWindow = s.now / 100000 ∧ s.getF RF.QRN_HOLD_THRESH_THRESH inst 0 < e.holdCycles then
      s.raise RF.QRN_EVENT_HOLD inst
    else s)

/-- QRN_TASK_COMPLETE (R247): the oldest started task has every output write acknowledged.  `cycles`
is its length, `rows` and `cols` the stalled row-cycles and column-cycles counted in it.
(Mark: DESIGN CHOICE, log 65.) -/
def execQrnTaskComplete (f : FieldId) (q : Fin 9) (cycles rows cols : Nat) (s : State) : Out :=
  .next (
    let inst := f.val * 9 + q.val
    if !s.unitRuns f.val q.val then s
    else
      match s.completeOldest f.val q.val cycles with
      | none => s
      | some (t, st, s1) =>
        let s2 := s1.addWrap RF.QRN_BUSY_CYCLES_COUNT inst 0 cycles
          |>.addWrap RF.QRN_ROW_STALL_COUNT inst 0 rows
          |>.addWrap RF.QRN_COL_STALL_COUNT inst 0 cols
        if st = stOk ∧ t.nonfinite then
          (s2.addSat RF.QRN_NONFINITE_COUNT inst 0 1).raise RF.QRN_EVENT_NONFINITE inst
        else s2)

end Sys2Proof.Machine
end

