-- ==== Sys2Proof/Machine/Sieve.lean ====
section
/-! DEFINITION. The sieves (R258–R289): contexts and tile registers, the parameter block and its
checks, every instruction, table look-up, and completion. -/

namespace Sys2Proof.Machine

/-! ### Tiles and contexts -/

def idleSieve : Sieve := { tiles := [], tables := [], ctxs := [] }

def State.sieve (s : State) (f n : Nat) : Sieve := s.sieves.look idleSieve (f * 2 + n)

def State.modSieve (s : State) (f n : Nat) (g : Sieve → Sieve) : State :=
  { s with sieves := s.sieves.put idleSieve (f * 2 + n) (g (s.sieve f n)) }

/-- Tile registers read zero and tables are empty after an engine reset, a field reset or a
reassignment clear (R260, R275). -/
def State.clearSieve (s : State) (f n : Nat) : State :=
  (s.modSieve f n (fun _ => idleSieve)).wr .SIV_TABLE_STATE (f * 2 + n) 0 0#64

/-- The 512 words of a tile register. -/
def Sieve.tile (x : Sieve) (t : Nat) : List Nat :=
  (List.range 512).map (fun i => x.tiles.look 0 (t * 512 + i))

def putTileAux (m : NMap Nat) (k : Nat) : List Nat → NMap Nat
  | [] => m
  | w :: r => putTileAux (m.put 0 k w) (k + 1) r

/-- Write the words of a tile register. -/
def Sieve.setTile (x : Sieve) (t : Nat) (words : List Nat) : Sieve :=
  { x with tiles := putTileAux x.tiles (t * 512) words }

/-- The context in a slot. -/
def Sieve.ctx (x : Sieve) (slot : Nat) : Option SieveCtx := x.ctxs.find? (fun c => c.slot == slot)

def Sieve.setCtx (x : Sieve) (c : SieveCtx) : Sieve :=
  { x with ctxs := x.ctxs.map (fun d => if d.slot = c.slot then c else d) }

/-- The tile registers of the windows in use, SIV_WINDOWS (R289). -/
def Sieve.windows (x : Sieve) : Nat :=
  listMask (x.ctxs.flatMap (fun c => (List.range c.count).map (c.base + ·)))

/-! ### Compute formats -/

/-- Is the compute format 32 bits wide (R260)? -/
def cfWide (cf : Nat) : Bool := decide (cf = 0 ∨ cf = 3)

def cfFloat (cf : Nat) : Bool := decide (cf ≤ 2)

/-- The format code of a compute format (R265, R200). -/
def cfCode (cf : Nat) : Nat := if cf = 3 then 7 else if cf = 4 then 6 else cf

/-- Columns of a tile in a compute format. -/
def tileCols (wide : Bool) : Nat := if wide then 32 else 64

def lanesOf (wide : Bool) : Nat := 16 * tileCols wide

def cfBits (wide : Bool) : Nat := if wide then 32 else 16

/-- The elements of a tile. -/
def tileElems (wide : Bool) (words : List Nat) : List Nat :=
  if wide then words else words.flatMap (fun w => [w % 65536, w / 65536 % 65536])

def pairWords : List Nat → List Nat
  | a :: b :: r => (a + b * 65536) :: pairWords r
  | _ => []

/-- The words of a tile from its elements. -/
def tileWords (wide : Bool) (elems : List Nat) : List Nat := if wide then elems else pairWords elems

/-- An element of a tile as read: a float, or an integer. -/
inductive SNum where
  | f (v : Val)
  | i (v : Int)
  deriving DecidableEq, Repr

/-- Read a code of one of the formats 0x00–0x07. -/
def numOf (fmt c : Nat) : SNum :=
  if fmt = 5 then .i (sint 8 c) else if fmt = 6 then .i (sint 16 c) else if fmt = 7 then .i (sint 32 c)
  else .f ((fmtOf fmt).unpack c)

/-- A result: a code, and whether it saturated. -/
structure SRes where
  code : Nat
  sat : Bool
  deriving DecidableEq, Repr

/-- Is the format an integer format? -/
def intFmt (fmt : Nat) : Bool := decide (fmt = 5 ∨ fmt = 6 ∨ fmt = 7)

/-- Convert to one of the formats 0x00–0x07 (R203, R204, R268). -/
def convNum (sat : Bool) (fmt : Nat) : SNum → SRes
  | .f v => ⟨convCode sat fmt v, saturates sat fmt v⟩
  | .i v =>
    if intFmt fmt then
      let w := 8 * elemBytes fmt
      ⟨tcode w (clampInt w v), decide (clampInt w v ≠ v)⟩
    else ⟨(fmtOf fmt).pack sat (Val.ofInt v), saturates sat fmt (Val.ofInt v)⟩

/-- An exact arithmetic result in the compute format: floats are rounded once, integers wrap, or
saturate where the instruction asks for it (R215, R269). -/
def cfResult (cf : Nat) (sat : Bool) : SNum → SRes
  | .f v => ⟨(fmtOf (cfCode cf)).pack false v, false⟩
  | .i v =>
    let w := cfBits (cfWide cf)
    if sat then ⟨tcode w (clampInt w v), decide (clampInt w v ≠ v)⟩ else ⟨tcode w v, false⟩

/-! ### The instruction word, R265 -/

def iOp (w : Nat) : Nat := nbits w 0 8
def iDt (w : Nat) : Nat := nbits w 8 6
def iSa (w : Nat) : Nat := nbits w 14 6
def iSb (w : Nat) : Nat := nbits w 20 6
def iSc (w : Nat) : Nat := nbits w 26 6
def iTable (w : Nat) : Nat := nbits w 26 4
def iOfs (w : Nat) : Bool := w.testBit 30
def iCf (w : Nat) : Nat := nbits w 32 3
def iBc (w : Nat) : Nat := nbits w 35 2
def iSelRow (w : Nat) : Nat := nbits w 37 4
def iSelCol (w : Nat) : Nat := nbits w 41 6
def iSat (w : Nat) : Bool := w.testBit 47
def iImm (w : Nat) : Nat := nbits w 48 16
def iImm32 (w : Nat) : Nat := nbits w 32 32

/-- Operands of an opcode: DT, SA, SB, SC (R266). -/
structure OpShape where
  dt : Bool
  a : Bool
  b : Bool
  c : Bool
  occ : Nat
  deriving DecidableEq, Repr

/-- The opcodes of R266 with their operands and occupancy; `none` is reserved. -/
def opShape (w : Nat) : Option OpShape :=
  let op := iOp w
  if op = 0 then some ⟨false, false, false, false, 1⟩
  else if op = 1 then some ⟨true, false, false, false, 1⟩
  else if op = 2 then some ⟨false, true, false, false, 1⟩
  else if op = 3 ∨ op = 4 then some ⟨true, false, false, false, 1⟩
  else if op = 0x0B then some ⟨true, true, true, true, 1⟩
  else if 8 ≤ op ∧ op ≤ 0x0D then some ⟨true, true, true, false, 1⟩
  else if op = 0x0E ∨ op = 0x0F then some ⟨true, true, false, false, 1⟩
  else if op = 0x10 ∨ op = 0x12 then some ⟨true, true, false, false, 4⟩
  else if op = 0x11 then some ⟨true, true, true, false, 4⟩
  else if 0x18 ≤ op ∧ op ≤ 0x1A then some ⟨true, true, true, false, 1⟩
  else if op = 0x1B then some ⟨true, true, true, true, 1⟩
  else if 0x20 ≤ op ∧ op ≤ 0x25 then some ⟨true, true, true, false, 1⟩
  else if op = 0x28 then some ⟨true, true, true, false, 1⟩
  else if op = 0x29 then some ⟨true, true, false, false, 1⟩
  else if op = 0x30 then some ⟨true, true, iOfs w, false, if cfWide (iCf w) then 2 else 4⟩
  else if op = 0x38 ∨ op = 0x39 then some ⟨true, true, false, false, 2⟩
  else if op = 0x3C then some ⟨true, true, false, false, 1⟩
  else if op = 0x3D then some ⟨true, true, true, false, 2⟩
  else none

/-- The compute format an instruction names; FILL's immediate covers the bits of CF, so it takes the
word as a 32-bit element. -/
def effCf (w : Nat) : Nat := if iOp w = 3 then 3 else iCf w

/-! ### The parameter block, R263 and R264 -/

def pbStreams (p : List Byte) : Nat := leField p 0 1
def pbInstrs (p : List Byte) : Nat := leField p 1 1

/-- Bytes of a stream entry. -/
def pbStream (p : List Byte) (i : Nat) : List Byte := (p.drop (64 + 32 * i)).take 32

def stBase (e : List Byte) : Nat := bitField e 0 57
def stFmt (e : List Byte) : Nat := bitField e 57 6
def stStore (e : List Byte) : Bool := bitField e 63 1 == 1
def stRowStride (e : List Byte) : Nat := bitField e 64 32
def stTileStride (e : List Byte) : Nat := bitField e 96 32
def stIterStride (e : List Byte) : Int := sint 40 (bitField e 128 40)
def stLen (e : List Byte) : Nat := bitField e 192 20
def stRows (e : List Byte) : Nat := bitField e 212 4
def stPadInf (e : List Byte) : Bool := bitField e 216 1 == 1
def stSat (e : List Byte) : Bool := bitField e 217 1 == 1

/-- Are the reserved bits of a stream entry zero? -/
def stReservedOk (e : List Byte) : Bool :=
  decide (bitField e 168 24 = 0) && decide (bitField e 218 38 = 0)

/-- Instruction `i` of a parameter block. -/
def pbInstr (p : List Byte) (i : Nat) : Nat := leField p (64 + 32 * pbStreams p + 8 * i) 8

def sParam (d : List Byte) : Nat := bitField d 128 57
def sTable (d : List Byte) : Nat := bitField d 128 4
def sImage (d : List Byte) : Nat := bitField d 132 4
def sIterBase (d : List Byte) : Nat := bitField d 192 20
def sIterCount (d : List Byte) : Nat := bitField d 212 20
def sSrc (d : List Byte) : Nat := bitField d 192 57
def sTileBase (d : List Byte) : Nat := bitField d 232 6
def sTileCount (d : List Byte) : Nat := bitField d 238 7
def sArg (d : List Byte) (i : Nat) : Nat := bitField d (256 + 32 * i) 32

/-- The reserved bits of a sieve descriptor body, by opcode (R261). -/
def sReservedOk (d : List Byte) : Bool :=
  if descOpcode d = 1 then
    decide (bitField d 185 7 = 0) && decide (bitField d 245 11 = 0) && decide (bitField d 384 128 = 0)
  else
    decide (bitField d 136 56 = 0) && decide (bitField d 249 263 = 0)

/-- The lowest reason an instruction breaks (R279): 0x02, 0x06–0x09, or 0. -/
def instrReason (p : List Byte) (count w : Nat) : Nat :=
  let op := iOp w
  let cf := effCf w
  let imm := iImm w
  match opShape w with
  | none => 6
  | some sh =>
    let badFmt := (decide (op = 0x28) && !decide (imm % 64 = 0 ∨ imm % 64 = 7)) ||
      (decide (op = 0x29) && !decide (imm % 64 = 1 ∨ imm % 64 = 2 ∨ imm % 64 = 6))
    let badTile := (sh.dt && decide (count ≤ iDt w)) || (sh.a && decide (count ≤ iSa w)) ||
      (sh.b && decide (count ≤ iSb w)) || (sh.c && decide (count ≤ iSc w))
    let badSel := sh.b && decide (2 ≤ iBc w) && cfWide cf && decide (32 ≤ iSelCol w)
    let st := pbStream p (imm % 8)
    let badStream := (decide (op = 1) && (decide (pbStreams p ≤ imm % 8) || stStore st)) ||
      (decide (op = 2) && (decide (pbStreams p ≤ imm % 8) || !stStore st))
    let badCf := (decide (0x20 ≤ op ∧ op ≤ 0x25) && cfFloat cf) ||
      (decide ((0x10 ≤ op ∧ op ≤ 0x12) ∨ op = 0x30) && !cfFloat cf) ||
      (decide (op = 0x28) && cfWide cf) || (decide (op = 0x29) && !cfWide cf)
    if badFmt then 2
    else if 4 < cf ∨ (op = 0x30 ∧ w.testBit 31) ∨ ((op = 0x38 ∨ op = 0x39) ∧ imm % 4 = 3) then 6
    else if badTile || badSel then 7
    else if badStream then 8
    else if badCf then 9
    else 0

/-- The first of the lowest reasons of a list of (reason, index), 0 counting as none. -/
def lowestReason (l : List (Nat × Nat)) : Nat × Nat :=
  l.foldl (fun b x => if x.1 ≠ 0 ∧ (b.1 = 0 ∨ x.1 < b.1) then x else b) (0, 0)

/-- The reasons of one stream entry (R279). -/
def streamReason (e : List Byte) : Nat :=
  if !stReservedOk e then 1
  else if 7 < stFmt e then 2
  else if stBase e % 32 ≠ 0 ∨ stRowStride e % 32 ≠ 0 ∨ stTileStride e % 32 ≠ 0 ∨
      stIterStride e % 32 ≠ 0 then 4
  else 0

/-- The reasons a RUN descriptor breaks on its own (R261, R262, R279). (Mark: DEDUCED, log 69.) -/
def runDescReason (d : List Byte) : Nat :=
  if !sReservedOk d then 1
  else if sTileCount d = 0 ∨ 64 < sTileCount d ∨ 64 < sTileBase d + sTileCount d ∨
      2 ^ 20 < sIterBase d + sIterCount d + 1 then 3
  else if sParam d % 64 ≠ 0 then 4
  else 0

/-- The reason of the parameter block's header. -/
def headerReason (p : List Byte) : Nat :=
  if bitField p 16 496 ≠ 0 then 1 else if 8 < pbStreams p ∨ pbInstrs p = 0 then 5 else 0

/-- The lowest reason of a whole parameter block with the descriptor (R279). -/
def blockReason (d p : List Byte) : Nat × Nat :=
  lowestReason ([(runDescReason d, 0), (headerReason p, 0)] ++
    (List.range (pbStreams p)).map (fun i => (streamReason (pbStream p i), 0)) ++
    (List.range (pbInstrs p)).map (fun i => (instrReason p (sTileCount d) (pbInstr p i), i)))

/-! ### Starting tasks -/

/-- End a sieve task with BODY_INVALID (R279). -/
def State.sBadBody (s : State) (f u serial : Nat) (r : Nat × Nat) : State :=
  s.settle f u serial stBodyInvalid (r.1 + r.2 * 256)

/-- The lowest free context, where the sieve can start a task whose window is `base`, `count`
(R259). (Mark: DEDUCED, log 74.) -/
def Sieve.freeSlot (x : Sieve) (base count : Nat) : Option Nat :=
  if x.ctxs.any (fun c => decide (base < c.base + c.count) && decide (c.base < base + count)) then none
  else (List.range 8).find? (fun k => (x.ctx k).isNone)

/-- Is a table task running (R275, R282)? -/
def State.tableTask (s : State) (f u : Nat) : Bool :=
  (s.engine f u).running.any (fun t => decide (descOpcode t.desc ≠ 1))

/-- May the sieve start the task at the head of its queue? -/
def State.sMayStart (s : State) (f n : Nat) (ok : Nat → Bool) : Bool :=
  let u := unitSieve n
  s.unitRuns f u && !s.tableTask f u &&
    match (s.engine f u).queue with
    | [] => false
    | t :: _ => ok (descOpcode t.desc)

/-- Drop the contexts whose task is no longer running (it was cancelled or ended otherwise). -/
def State.pruneCtxs (s : State) (f n : Nat) : State :=
  let l := (s.engine f (unitSieve n)).running
  s.modSieve f n (fun x => { x with ctxs := x.ctxs.filter (fun c =>
    l.any (fun t => t.serial == c.task)) })

/-- Put a context of a started task in place. (Mark: DEDUCED, log 74.) -/
def State.openCtx (s : State) (f n : Nat) (c : SieveCtx) : State :=
  s.modSieve f n (fun x => { x with ctxs := x.ctxs ++ [c] })

/-- Read a parameter block: header, then streams and program (R263). -/
def State.readParams (s : State) (src : Source) (d : List Byte) :
    State × Except (Nat × AccStatus) (List Byte) :=
  match s.bulkRead src (sParam d) 64 with
  | (s1, ⟨_, some e⟩) => (s1, .error e)
  | (s1, ⟨h, none⟩) =>
    if headerReason h ≠ 0 then (s1, .ok h)
    else
      match s1.bulkRead src (sParam d + 64) (32 * pbStreams h + 8 * pbInstrs h) with
      | (s2, ⟨_, some e⟩) => (s2, .error e)
      | (s2, ⟨b, none⟩) => (s2, .ok (h ++ b))

/-- Start a RUN task in context `slot` (R259, R263, R279). -/
def State.sRunStart (s : State) (f n slot : Nat) (t : EngTask) : State :=
  let u := unitSieve n
  let d := t.desc
  let ctx (p : List Byte) : SieveCtx := ⟨slot, t.serial, sTileBase d, sTileCount d, p, 0, 0, []⟩
  let dr := runDescReason d
  if dr = 1 ∨ sParam d % 64 ≠ 0 then
    (s.openCtx f n { ctx [] with count := 0 }).sBadBody f u t.serial (dr, 0)
  else
    match s.readParams (s.taskSource f u t) d with
    | (s1, .error e) =>
      let s2 := s1.openCtx f n { ctx [] with count := 0 }
      if dr ≠ 0 then s2.sBadBody f u t.serial (dr, 0) else s2.settleAccess f u t.serial e.1 e.2
    | (s1, .ok p) =>
      match blockReason d p with
      | (0, _) => s1.openCtx f n (ctx p)
      | r => (s1.openCtx f n { ctx [] with count := 0 }).sBadBody f u t.serial r

/-- The header of a table image is valid (R275). -/
def tableHeaderOk (h : List Byte) : Bool :=
  let lo := fp32.unpack (leField h 0 4)
  let hi := fp32.unpack (leField h 4 4)
  decide (bitField h 194 2 ≠ 3) && decide (bitField h 196 2 ≠ 3) && decide (bitField h 198 314 = 0) &&
    (decide (bitField h 192 2 ≠ 0) || (lo.finite && hi.finite && Val.lt lo hi))

/-- SIV_TABLE_STATE of one table. -/
def State.tableState (s : State) (f n t : Nat) : Nat := bits (s.rd .SIV_TABLE_STATE (f * 2 + n) 0) (4 * t) 4

def State.setTableState (s : State) (f n t v : Nat) : State :=
  s.wr .SIV_TABLE_STATE (f * 2 + n) 0 (putBits (s.rd .SIV_TABLE_STATE (f * 2 + n) 0) (4 * t) 4 v)

/-! ### Issuing an instruction -/

/-- End a task while it runs: its stores are undefined (R280). -/
def State.sStop (s : State) (f n serial : Nat) (settle : State → State) : State :=
  let u := unitSieve n
  match (s.engine f u).running.find? (fun t => t.serial == serial) with
  | some t => settle (s.undefOutputs (s.taskSource f u t) t.outputs)
  | none => settle s

/-- Advance a context past its instruction; the last iteration's end settles the task (R267, R278). -/
def State.sNext (s : State) (f n slot : Nat) : State :=
  match (s.sieve f n).ctx slot with
  | none => s
  | some c =>
    let c' := if c.pc + 1 < pbInstrs c.params then { c with pc := c.pc + 1 }
      else { c with pc := 0, iter := c.iter + 1 }
    s.modSieve f n (fun x => x.setCtx c')

/-- The running task of a context that may issue: its iterations are not over and nothing has ended
it. -/
def State.sTask (s : State) (f n : Nat) (c : SieveCtx) : Option EngTask :=
  (s.engine f (unitSieve n)).running.find? (fun t => t.serial == c.task && t.status.isNone &&
    decide (descOpcode t.desc = 1) && decide (c.iter ≤ sIterCount t.desc))

/-- Do an instruction's tiles wait for a load (R267)? -/
def tilesPending (c : SieveCtx) (w : Nat) : Bool :=
  match opShape w with
  | none => false
  | some sh =>
    let l := (if sh.dt then [iDt w] else []) ++ (if sh.a then [iSa w] else []) ++
      (if sh.b then [iSb w] else []) ++ (if sh.c then [iSc w] else [])
    l.any (fun t => c.loads.any (fun d => decide (d.tile = c.base + t)))

/-- Issue the next instruction of a context, where its opcode is `op` and no tile of it waits
(R267); its occupancy is counted. -/
def State.sIssue (s : State) (f n slot op : Nat)
    (run : SieveCtx → EngTask → Nat → State → State) : State :=
  match (s.sieve f n).ctx slot with
  | none => s
  | some c =>
    match s.sTask f n c with
    | none => s
    | some t =>
      let w := pbInstr c.params c.pc
      if !s.unitRuns f (unitSieve n) || decide (iOp w ≠ op) || tilesPending c w then s
      else
        let occ := match opShape w with | some sh => sh.occ | none => 1
        run c t w ((s.addWrap RF.SIV_ISSUE_CYCLES_COUNT (f * 2 + n) 0 occ).sNext f n slot)

/-- Count saturations (R269). -/
def State.sCountSat (s : State) (f n k : Nat) : State :=
  if k = 0 then s
  else (s.addSat RF.SIV_SAT_COUNT (f * 2 + n) 0 k).raise RF.SIV_EVENT_SAT (f * 2 + n)

/-- Write a destination tile from results. -/
def State.sWrite (s : State) (f n : Nat) (c : SieveCtx) (wide : Bool) (dt : Nat) (l : List SRes) :
    State :=
  (s.modSieve f n (fun x => x.setTile (c.base + dt) (tileWords wide (l.map (·.code))))).sCountSat f n
    ((l.filter (·.sat)).length)

/-- Elements of a source tile. -/
def State.sElems (s : State) (f n : Nat) (c : SieveCtx) (wide : Bool) (t : Nat) : List Nat :=
  tileElems wide ((s.sieve f n).tile (c.base + t))

/-- Source B after its broadcast (R270). -/
def broadcast (wide : Bool) (w : Nat) (l : List Nat) : List Nat :=
  let cols := tileCols wide
  (List.range (lanesOf wide)).map fun i =>
    match iBc w with
    | 0 => l.getD i 0
    | 1 => l.getD (iSelRow w * cols + i % cols) 0
    | 2 => l.getD (i / cols * cols + iSelCol w % cols) 0
    | _ => l.getD (iSelRow w * cols + iSelCol w % cols) 0

/-- An element-wise instruction on SA, SB (broadcast) and SC, given lane by lane. -/
def State.sMap (s : State) (f n slot op : Nat) (g : Nat → Nat → Nat → Nat → Nat → Nat → SRes) : State :=
  s.sIssue f n slot op fun c _ w s1 =>
    let wide := cfWide (iCf w)
    let (k, s2) := s1.fresh
    let a := s2.sElems f n c wide (iSa w)
    let b := broadcast wide w (s2.sElems f n c wide (iSb w))
    let d := s2.sElems f n c wide (iSc w)
    s2.sWrite f n c wide (iDt w) ((List.range (lanesOf wide)).map (fun i =>
      g w k i (a.getD i 0) (b.getD i 0) (d.getD i 0)))

/-! ### Element-wise arithmetic -/

/-- A binary operation on floats and integers in the compute format. -/
def arith2 (ff : Val → Val → Val) (gi : Int → Int → Int) (w _k _i a b _c : Nat) : SRes :=
  let cf := iCf w
  match numOf (cfCode cf) a, numOf (cfCode cf) b with
  | .f x, .f y => cfResult cf false (.f (ff x y))
  | .i x, .i y => cfResult cf (iSat w) (.i (gi x y))
  | _, _ => ⟨0, false⟩

def faddV (a b : Val) : Val := Val.add .rne a b
def fsubV (a b : Val) : Val := Val.add .rne a b.neg

/-- Fused multiply-add, rounded once (R215). -/
def arithFma (w _k _i a b c : Nat) : SRes :=
  let cf := iCf w
  match numOf (cfCode cf) a, numOf (cfCode cf) b, numOf (cfCode cf) c with
  | .f x, .f y, .f z => cfResult cf false (.f (Val.add .rne (x.mul y) z))
  | .i x, .i y, .i z => cfResult cf (iSat w) (.i (x * y + z))
  | _, _, _ => ⟨0, false⟩

/-- MAX and MIN; NaN gives NaN, and of a +0 and a −0 either is a free choice (R269). -/
def arithPick (big : Bool) (w k i a b _c : Nat) : SRes :=
  let cf := iCf w
  match numOf (cfCode cf) a, numOf (cfCode cf) b with
  | .f x, .f y =>
    if x.isNaN || y.isNaN then cfResult cf false (.f .nan)
    else if Val.eqv x y then ⟨if (Config.freeByte k i).getLsbD 0 then a else b, false⟩
    else ⟨if Val.lt x y = big then b else a, false⟩
  | .i x, .i y => ⟨if decide (x < y) = big then b else a, false⟩
  | _, _ => ⟨0, false⟩

/-- ABS and NEG. -/
def arith1 (ff : Val → Val) (gi : Int → Int) (w _k _i a _b _c : Nat) : SRes :=
  let cf := iCf w
  match numOf (cfCode cf) a with
  | .f x => cfResult cf false (.f (ff x))
  | .i x => cfResult cf (iSat w) (.i (gi x))

/-- A comparison: all ones where it holds (R266, R269). -/
def arithCmp (ff : Val → Val → Bool) (gi : Int → Int → Bool) (w _k _i a b _c : Nat) : SRes :=
  let cf := iCf w
  let r := match numOf (cfCode cf) a, numOf (cfCode cf) b with
    | .f x, .f y => !x.isNaN && !y.isNaN && ff x y
    | .i x, .i y => gi x y
    | _, _ => false
  ⟨if r then 2 ^ cfBits (cfWide cf) - 1 else 0, false⟩

/-- SELECT: SC ≠ 0 in the compute format picks SA. -/
def arithSelect (w _k _i a b c : Nat) : SRes :=
  let nz := match numOf (cfCode (iCf w)) c with
    | .f x => !x.isZero
    | .i x => decide (x ≠ 0)
  ⟨if nz then a else b, false⟩

/-- Bitwise operations and shifts on integer codes (R266). -/
def arithBits (g : Nat → Nat → Nat → Nat) (w _k _i a b _c : Nat) : SRes :=
  let n := cfBits (cfWide (iCf w))
  ⟨g n a b % 2 ^ n, false⟩

/-! ### Reductions -/

/-- One level of the pairwise tree of R271. -/
def pairUp {T : Type} (g : T → T → T) : List T → List T
  | a :: b :: r => g a b :: pairUp g r
  | l => l

/-- The fixed tree over a list of `2 ^ n` elements. -/
def treeReduce {T : Type} (g : T → T → T) : Nat → List T → List T
  | 0, l => l
  | n + 1, l => treeReduce g n (pairUp g l)

/-- The reduction of a list of elements in the compute format (R271). -/
def reduceElems (w k i : Nat) (l : List Nat) : SRes :=
  let cf := iCf w
  let depth := Nat.log2 l.length
  match iImm w % 4 with
  | 0 =>
    if cfFloat cf then
      let f := fmtOf (cfCode cf)
      let part := treeReduce addF32 depth (l.map (fun c => fp32.pack false (f.unpack c)))
      ⟨f.pack false (fp32.unpack (part.headD 0)), false⟩
    else
      cfResult cf (iSat w) (.i ((l.map (sint (cfBits (cfWide cf)))).sum))
  | m =>
    let pick (a b : Nat) : Nat := (arithPick (decide (m = 1)) w k i a b 0).code
    ⟨(treeReduce pick depth l).headD 0, false⟩

/-- RROW or RCOL. -/
def State.sReduce (s : State) (f n slot op : Nat) : State :=
  s.sIssue f n slot op fun c _ w s1 =>
    let wide := cfWide (iCf w)
    let cols := tileCols wide
    let (k, s2) := s1.fresh
    let a := s2.sElems f n c wide (iSa w)
    let rows := op == 0x38
    s2.sWrite f n c wide (iDt w) ((List.range (lanesOf wide)).map (fun i =>
      if rows then
        if i % cols = 0 then reduceElems w k i ((a.drop i).take cols) else ⟨0, false⟩
      else
        if i < cols then reduceElems w k i ((List.range 16).map (fun r => a.getD (r * cols + i) 0))
        else ⟨0, false⟩))

/-! ### Table look-up, R273 and R274 -/

/-- A table as the look-up uses it. -/
structure LutTable where
  lo : Val
  hi : Val
  pre : Val
  post : Val
  belowVal : Nat
  aboveVal : Nat
  mode : Nat
  below : Nat
  above : Nat

/-- The header of a CUSTOM table (R275). -/
def customTable (h : List Byte) : LutTable :=
  ⟨fp32.unpack (leField h 0 4), fp32.unpack (leField h 4 4), fp32.unpack (leField h 8 4),
    fp32.unpack (leField h 12 4), leField h 16 4, leField h 20 4, bitField h 192 2, bitField h 194 2,
    bitField h 196 2⟩

/-- The table parameters of an image (R276): modes, domains, prescale log2 e and postscale ln 2 as
FP32, and the constants below and above the domain. (Mark: DESIGN CHOICE, log 77.) -/
def imageTable (k : Nat) : LutTable :=
  let one := fp32.unpack 0x3F800000
  let lin (d : Nat) (above : Nat) : LutTable :=
    ⟨.fin true d 0, .fin false d 0, one, one, 0, 0x3F800000, 0, 0, above⟩
  match k with
  | 0 => ⟨.fin false 0 0, one, fp32.unpack 0x3FB8AA3B, one, 0, 0, 1, 0, 0⟩
  | 1 => ⟨one, one, one, fp32.unpack 0x3F317218, 0, 0, 2, 0, 0⟩
  | 2 => lin 16 0
  | 3 => lin 12 2
  | 4 => lin 8 2
  | 5 => lin 16 2
  | _ => ⟨one, one, one, one, 0, 0, 3, 0, 0⟩

/-- Base or slope of a segment of a table. -/
def State.lutWord (s : State) (f n t i : Nat) (slope : Bool) : Nat :=
  let st := s.tableState f n t
  if st = 8 then leField (NMap.look (s.sieve f n).tables [] t) (64 + 8 * i + (if slope then 4 else 0)) 4
  else (Config.imageWord (st - 1) i slope).toNat

def State.lutTable (s : State) (f n t : Nat) : LutTable :=
  let st := s.tableState f n t
  if st = 8 then customTable (NMap.look (s.sieve f n).tables [] t) else imageTable (st - 1)

/-- The floor of a quotient of exact values, `num / den` with `den` positive. -/
def floorDiv (num den : Val) : Int :=
  match num, den with
  | .fin n1 m1 e1, .fin n2 m2 e2 =>
    let e0 := min e1 e2
    alignTo e0 n1 m1 e1 / alignTo e0 n2 m2 e2
  | _, _ => 0

/-- Round a value to FP32. -/
def rne32 (v : Val) : Val := fp32.unpack (fp32.pack false v)

/-- The linear segment: `y = base[i] + slope[i] × t` with `t = v − (lo + i × (hi − lo) / 256)`,
evaluated in FP32. (Mark: DEDUCED, log 76.) -/
def State.segment (s : State) (f n t : Nat) (lo hi v : Val) (i : Nat) : Val :=
  let step := (Val.ofInt i).mul (Val.add .rne hi lo.neg) |>.scale (-8)
  let d := rne32 (Val.add .rne v (Val.add .rne lo step).neg)
  rne32 (Val.add .rne (fp32.unpack (s.lutWord f n t i false))
    ((fp32.unpack (s.lutWord f n t i true)).mul d))

/-- The segment index of `v` over `[lo, hi)`. (Mark: DEDUCED, log 76.) -/
def segIndex (lo hi v : Val) : Nat :=
  (floorDiv ((Val.add .rne v lo.neg).scale 8) (Val.add .rne hi lo.neg)).toNat

/-- The action outside a LINEAR table's domain (R274). -/
def State.lutOutside (s : State) (f n t : Nat) (T : LutTable) (v : Val) (high : Bool) : Val :=
  match (if high then T.above else T.below) with
  | 0 => fp32.unpack (if high then T.aboveVal else T.belowVal)
  | 1 => s.segment f n t T.lo T.hi v (if high then 255 else 0)
  | _ => v

/-- The result of a table for `u` (R273, R274).  The look-up of +∞ in LOG2 and RSQRT has no stated
result: a free value. -/
def State.lutEval (s : State) (f n t k i : Nat) (u : Val) : Val :=
  let T := s.lutTable f n t
  let v := rne32 (u.mul T.pre)
  let one := Val.fin false 1 0
  let free := fp32.unpack (leNat ((List.range 4).map (fun j => Config.freeByte k (4 * i + j))))
  if v.isNaN then .nan
  else
    match T.mode with
    | 0 =>
      if Val.lt v T.lo then s.lutOutside f n t T v false
      else if !Val.lt v T.hi then s.lutOutside f n t T v true
      else s.segment f n t T.lo T.hi v (segIndex T.lo T.hi v)
    | 1 =>
      match v with
      | .inf neg => if neg then .fin false 0 0 else .inf false
      | _ =>
        let fl := floorDiv v one
        let g := Val.add .rne v (Val.ofInt (-fl))
        (s.segment f n t (.fin false 0 0) one g (segIndex (.fin false 0 0) one g)).scale fl
    | 2 =>
      match v with
      | .fin neg m e =>
        if m = 0 then .inf true
        else if neg then .nan
        else
          let n' := (Nat.log2 m : Int) + e
          let mm := v.scale (-n')
          Val.add .rne (s.segment f n t one (.fin false 2 0) mm (segIndex one (.fin false 2 0) mm))
            ((Val.ofInt n').mul T.post)
      | .inf neg => if neg then .nan else free
      | .nan => .nan
    | _ =>
      match v with
      | .fin neg m e =>
        if m = 0 then .inf false
        else if neg then .nan
        else
          let h := ((Nat.log2 m : Int) + e) / 2
          let mm := v.scale (-(2 * h))
          let four := Val.fin false 4 0
          (s.segment f n t one four mm (segIndex one four mm)).scale (-h)
      | .inf neg => if neg then .nan else free
      | .nan => .nan

/-- LUT: prescale, offset, look-up (R273); an empty table ends the task (R274, R280). -/
def State.sLut (s : State) (f n slot : Nat) : State :=
  s.sIssue f n slot 0x30 fun c t w s1 =>
    let tb := iTable w
    if s1.tableState f n tb = 0 then
      s1.sStop f n t.serial (fun x => x.settle f (unitSieve n) t.serial 0x80 (tb + c.pc * 256))
    else
      let wide := cfWide (iCf w)
      let fm := fmtOf (cfCode (iCf w))
      let (k, s2) := s1.fresh
      let a := s2.sElems f n c wide (iSa w)
      let b := broadcast wide w (s2.sElems f n c wide (iSb w))
      let pre := if iImm w = 0 then Val.fin false 1 0 else bf16.unpack (iImm w)
      s2.sWrite f n c wide (iDt w) ((List.range (lanesOf wide)).map (fun i =>
        let x := fm.unpack (a.getD i 0)
        let d := if iOfs w then rne32 (Val.add .rne x (fm.unpack (b.getD i 0)).neg) else x
        ⟨fm.pack false (s2.lutEval f n tb k i (rne32 (d.mul pre))), false⟩))

/-! ### Loads and stores -/

/-- Address of row `r` of tile offset `k` at iteration `j` (R264). -/
def streamAddr (e : List Byte) (iterBase j r k : Nat) : Nat :=
  (((stBase e : Int) + ((iterBase + j : Nat) : Int) * stIterStride e + (r * stRowStride e : Nat) +
    (k * stTileStride e : Nat)) % (2 ^ 57 : Nat)).toNat

/-- Valid elements of a row of tile offset `k` (R264). -/
def streamCols (e : List Byte) (wide : Bool) (k : Nat) : Nat :=
  min (tileCols wide) (stLen e + 1 - k * tileCols wide)

/-- The valid rows of a tile offset with their byte ranges. -/
def streamRows (e : List Byte) (wide : Bool) (iterBase j k : Nat) : List (Nat × Nat) :=
  let n := streamCols e wide k * elemBytes (stFmt e)
  if n = 0 then [] else
    (List.range (stRows e + 1)).map (fun r => (streamAddr e iterBase j r k, n))

/-- Port bytes of a set of rows, in 32-byte sectors (R268). -/
def portBytes (l : List (Nat × Nat)) : Nat := (l.map (fun x => roundUp x.2 32)).sum

/-- The padding element of a load (R264). -/
def padCode (e : List Byte) (cf : Nat) : Nat :=
  if !stPadInf e then 0
  else if cfFloat cf then (fmtOf (cfCode cf)).pack false (.inf true)
  else 2 ^ (cfBits (cfWide cf) - 1)

/-- SIV_LD's issue: memory is read, and the data waits for its arrival. -/
def State.sLd (s : State) (f n slot : Nat) : State :=
  s.sIssue f n slot 1 fun c t w s1 =>
    let e := pbStream c.params (iImm w % 8)
    let k := iImm w / 8
    let cf := iCf w
    let wide := cfWide cf
    let cols := tileCols wide
    let rows := streamRows e wide (sIterBase t.desc) c.iter k
    let valid := streamCols e wide k
    match s1.readAll (s1.taskSource f (unitSieve n) t) rows with
    | (s2, .error x) =>
      s2.modSieve f n (fun y => match y.ctx slot with
        | some d => y.setCtx { d with loads := d.loads ++ [⟨c.base + iDt w, [], some x⟩] }
        | none => y)
    | (s2, .ok data) =>
      let res := (List.range (lanesOf wide)).map (fun i =>
        if i / cols < data.length ∧ i % cols < valid then
          convNum false (cfCode cf) (numOf (stFmt e)
            (leField (data.getD (i / cols) []) (i % cols * elemBytes (stFmt e)) (elemBytes (stFmt e))))
        else ⟨padCode e cf, false⟩)
      let s3 := (s2.addWrap RF.SIV_RD_BYTES_COUNT (f * 2 + n) 0 (portBytes rows)).sCountSat f n
        ((res.filter (·.sat)).length)
      let words := tileWords wide (res.map (·.code))
      s3.modSieve f n (fun y => match y.ctx slot with
        | some d => y.setCtx { d with loads := d.loads ++ [⟨c.base + iDt w, words, none⟩] }
        | none => y)

/-- SIV_ST: the source tile is captured at issue and written in the stream's format (R267, R268). -/
def State.sSt (s : State) (f n slot : Nat) : State :=
  s.sIssue f n slot 2 fun c t w s1 =>
    let u := unitSieve n
    let e := pbStream c.params (iImm w % 8)
    let k := iImm w / 8
    let cf := iCf w
    let wide := cfWide cf
    let cols := tileCols wide
    let rows := streamRows e wide (sIterBase t.desc) c.iter k
    let valid := streamCols e wide k
    let a := s1.sElems f n c wide (iSa w)
    let row (r : Nat) : List SRes := (List.range valid).map (fun i =>
      convNum (stSat e) (stFmt e) (numOf (cfCode cf) (a.getD (r * cols + i) 0)))
    let data := (List.range rows.length).map row
    let s2 := rows.foldl (fun x o => x.noteOutput f u t.serial o.1 o.2) s1
    let s3 := (s2.addWrap RF.SIV_WR_BYTES_COUNT (f * 2 + n) 0 (portBytes rows)).sCountSat f n
      ((data.flatten.filter (·.sat)).length)
    match s3.writeAll (s3.taskSource f u t) (List.zip (rows.map (·.1)) (data.map (fun l =>
        l.flatMap (fun x => leBytes (elemBytes (stFmt e)) x.code)))) with
    | (s4, none) => s4
    | (s4, some x) => s4.sStop f n t.serial (fun y => y.settleAccess f u t.serial x.1 x.2)

/-! ### The commands: tasks -/

/-- SIV_NOP_TASK (R262): a NOP starts in order and completes. -/
def execSivNopTask (f : FieldId) (n : Fin 2) (cycles : Nat) (s : State) : Out :=
  .next (
    let u := unitSieve n.val
    if !s.sMayStart f.val n.val (fun op => decide (op = 0)) then s
    else
      match s.startTask f.val u with
      | none => s
      | some (t, s1) =>
        let (k, s2) := s1.fresh
        (s2.modEngine f.val u (fun e => { e with
          running := e.running.filter (fun x => x.serial != t.serial) })).finishTask f.val u t stOk
          (Config.freeWord k 0).toNat cycles)

/-- SIV_RUN (R259, R263): the head task starts in a free context with its window.  A reserved opcode
ends here (R262). -/
def execSivRun (f : FieldId) (n : Fin 2) (s : State) : Out :=
  .next (
    let u := unitSieve n.val
    if !s.sMayStart f.val n.val (fun op => decide (op ≠ 0 ∧ op ≠ 2 ∧ op ≠ 3)) then s
    else
      match (s.engine f.val u).queue with
      | [] => s
      | h :: _ =>
        let run := decide (descOpcode h.desc = 1)
        match ((s.pruneCtxs f.val n.val).sieve f.val n.val).freeSlot (if run then sTileBase h.desc else 0)
            (if run then sTileCount h.desc else 0) with
        | none => s
        | some slot =>
          match (s.pruneCtxs f.val n.val).startTask f.val u with
          | none => s
          | some (t, s1) =>
            if run then s1.sRunStart f.val n.val slot t
            else (s1.openCtx f.val n.val ⟨slot, t.serial, 0, 0, [], 0, 0, []⟩).sBadBody f.val u
              t.serial (1, 0))

/-- Start a table task with the sieve otherwise idle (R275, R282). -/
def State.sTableStart (s : State) (f n op : Nat) (run : EngTask → State → State) : State :=
  let u := unitSieve n
  if !s.sMayStart f n (fun o => decide (o = op)) || !(s.engine f u).running.isEmpty then s
  else
    match (s.pruneCtxs f n).startTask f u with
    | none => s
    | some (t, s1) =>
      let s2 := s1.openCtx f n ⟨0, t.serial, 0, 0, [], 0, 0, []⟩
      if !sReservedOk t.desc then s2.sBadBody f u t.serial (1, 0) else run t s2

/-- SIV_TABLE_IMAGE (R275, R276). -/
def execSivTableImage (f : FieldId) (n : Fin 2) (s : State) : Out :=
  .next (s.sTableStart f.val n.val 2 (fun t s1 =>
    let u := unitSieve n.val
    if 6 < sImage t.desc then s1.sBadBody f.val u t.serial (0xA, 0)
    else (s1.setTableState f.val n.val (sTable t.desc) (sImage t.desc + 1)).settleOpen f.val u
      t.serial stOk))

/-- SIV_TABLE_LOAD (R275). -/
def execSivTableLoad (f : FieldId) (n : Fin 2) (s : State) : Out :=
  .next (s.sTableStart f.val n.val 3 (fun t s1 =>
    let u := unitSieve n.val
    let src := s1.taskSource f.val u t
    if sSrc t.desc % 64 ≠ 0 then s1.sBadBody f.val u t.serial (4, 0)
    else
      match s1.bulkRead src (sSrc t.desc) 64 with
      | (s2, ⟨_, some e⟩) => s2.settleAccess f.val u t.serial e.1 e.2
      | (s2, ⟨h, none⟩) =>
        if !tableHeaderOk h then s2.sBadBody f.val u t.serial (0xA, 0)
        else
          match s2.bulkRead src (sSrc t.desc + 64) 2048 with
          | (s3, ⟨_, some e⟩) => s3.settleAccess f.val u t.serial e.1 e.2
          | (s3, ⟨b, none⟩) =>
            ((s3.modSieve f.val n.val (fun x => { x with
              tables := x.tables.put [] (sTable t.desc) (h ++ b) })).setTableState f.val n.val
              (sTable t.desc) 8).settleOpen f.val u t.serial stOk))

/-- Has a running task ended: something settled it, or its last iteration is over and no load is
outstanding (R278)? -/
def State.sEnded (s : State) (f n : Nat) (c : SieveCtx) : Option EngTask :=
  (s.engine f (unitSieve n)).running.find? (fun t => t.serial == c.task &&
    (t.status.isSome || (decide (sIterCount t.desc < c.iter) && c.loads.isEmpty)))

/-- SIV_TASK_COMPLETE (R278): the task of context `slot` has every store acknowledged.  `cycles` is
its length, `idle` the cycles in which nothing was ready since the last completion. -/
def execSivTaskComplete (f : FieldId) (n : Fin 2) (slot : Fin 8) (cycles idle : Nat) (s : State) :
    Out :=
  .next (
    let u := unitSieve n.val
    match (s.sieve f.val n.val).ctx slot.val with
    | none => s
    | some c =>
      if !s.unitRuns f.val u then s
      else
        match s.sEnded f.val n.val c with
        | none => s
        | some t =>
          let (k, s0) := s.fresh
          let s1 := s0.modEngine f.val u (fun e => { e with
            running := e.running.filter (fun x => x.serial != t.serial), lastProgress := s.now })
          let s2 := s1.modSieve f.val n.val (fun x => { x with
            ctxs := x.ctxs.filter (fun d => d.slot != slot.val) })
          let s3 := (s2.addWrap RF.SIV_EMPTY_CYCLES_COUNT (f.val * 2 + n.val) 0 idle).noteStep f.val u
            (descOpcode t.desc) (t.status.getD stOk) cycles
          match t.status with
          | some st => s3.finishTask f.val u t st t.detail cycles
          | none => s3.finishTask f.val u t stOk (Config.freeWord k 0).toNat cycles)

/-! ### The commands: instructions -/

/-- SIV_INSTR_NOP (R266). -/
def execSivInstrNop (f : FieldId) (n : Fin 2) (slot : Fin 8) (s : State) : Out :=
  .next (s.sIssue f.val n.val slot.val 0 (fun _ _ _ s1 => s1))

/-- SIV_LD (R268). (Mark: DEDUCED, log 79.) -/
def execSivLd (f : FieldId) (n : Fin 2) (slot : Fin 8) (s : State) : Out :=
  .next (s.sLd f.val n.val slot.val)

/-- SIV_LD_DATA (R268): the data of a load of context `slot` to tile register `tile` arrives.
(Mark: DEDUCED, log 79.) -/
def execSivLdData (f : FieldId) (n : Fin 2) (slot : Fin 8) (tile : Fin 64) (s : State) : Out :=
  .next (
    match (s.sieve f.val n.val).ctx slot.val with
    | none => s
    | some c =>
      match c.loads.find? (fun l => l.tile == tile.val) with
      | none => s
      | some l =>
        if !s.unitRuns f.val (unitSieve n.val) then s
        else
          let c' := { c with loads := c.loads.filter (fun x => x.tile != tile.val) }
          let s1 := s.modSieve f.val n.val (fun x => x.setCtx c')
          match l.fail with
          | none => s1.modSieve f.val n.val (fun x => x.setTile tile.val l.words)
          | some (a, st) =>
            s1.sStop f.val n.val c.task (fun x => x.settleAccess f.val (unitSieve n.val) c.task a st))

/-- SIV_ST (R268). -/
def execSivSt (f : FieldId) (n : Fin 2) (slot : Fin 8) (s : State) : Out :=
  .next (s.sSt f.val n.val slot.val)

/-- SIV_FILL (R266). (Mark: DEDUCED, log 78.) -/
def execSivFill (f : FieldId) (n : Fin 2) (slot : Fin 8) (s : State) : Out :=
  .next (s.sIssue f.val n.val slot.val 3 (fun c _ w s1 =>
    s1.sWrite f.val n.val c true (iDt w) (List.replicate 512 ⟨iImm32 w, false⟩)))

/-- SIV_ARG (R266): a 16-bit element takes the low half of the argument. (Mark: DEDUCED, log 78.) -/
def execSivArg (f : FieldId) (n : Fin 2) (slot : Fin 8) (s : State) : Out :=
  .next (s.sIssue f.val n.val slot.val 4 (fun c t w s1 =>
    let wide := cfWide (iCf w)
    s1.sWrite f.val n.val c wide (iDt w)
      (List.replicate (lanesOf wide) ⟨sArg t.desc (iImm w % 4) % 2 ^ cfBits wide, false⟩)))

/-- SIV_ADD (R269). -/
def execSivAdd (f : FieldId) (n : Fin 2) (slot : Fin 8) (s : State) : Out :=
  .next (s.sMap f.val n.val slot.val 0x08 (arith2 faddV (· + ·)))

/-- SIV_SUB (R269). -/
def execSivSub (f : FieldId) (n : Fin 2) (slot : Fin 8) (s : State) : Out :=
  .next (s.sMap f.val n.val slot.val 0x09 (arith2 fsubV (· - ·)))

/-- SIV_MUL (R269). -/
def execSivMul (f : FieldId) (n : Fin 2) (slot : Fin 8) (s : State) : Out :=
  .next (s.sMap f.val n.val slot.val 0x0A (arith2 Val.mul (· * ·)))

/-- SIV_FMA (R269). -/
def execSivFma (f : FieldId) (n : Fin 2) (slot : Fin 8) (s : State) : Out :=
  .next (s.sMap f.val n.val slot.val 0x0B arithFma)

/-- SIV_MAX (R269). (Mark: DESIGN CHOICE, log 75.) -/
def execSivMax (f : FieldId) (n : Fin 2) (slot : Fin 8) (s : State) : Out :=
  .next (s.sMap f.val n.val slot.val 0x0C (arithPick true))

/-- SIV_MIN (R269). (Mark: DESIGN CHOICE, log 75.) -/
def execSivMin (f : FieldId) (n : Fin 2) (slot : Fin 8) (s : State) : Out :=
  .next (s.sMap f.val n.val slot.val 0x0D (arithPick false))

/-- SIV_ABS (R266). -/
def execSivAbs (f : FieldId) (n : Fin 2) (slot : Fin 8) (s : State) : Out :=
  .next (s.sMap f.val n.val slot.val 0x0E (arith1 Val.abs (fun x => (x.natAbs : Int))))

/-- SIV_NEG (R266). -/
def execSivNeg (f : FieldId) (n : Fin 2) (slot : Fin 8) (s : State) : Out :=
  .next (s.sMap f.val n.val slot.val 0x0F (arith1 Val.neg (fun x => -x)))

/-- SIV_RCP (R269). -/
def execSivRcp (f : FieldId) (n : Fin 2) (slot : Fin 8) (s : State) : Out :=
  .next (s.sMap f.val n.val slot.val 0x10 (arith1 (Val.div (.fin false 1 0)) id))

/-- SIV_DIV (R269). -/
def execSivDiv (f : FieldId) (n : Fin 2) (slot : Fin 8) (s : State) : Out :=
  .next (s.sMap f.val n.val slot.val 0x11 (arith2 Val.div (fun x _ => x)))

/-- SIV_SQRT (R269). -/
def execSivSqrt (f : FieldId) (n : Fin 2) (slot : Fin 8) (s : State) : Out :=
  .next (s.sMap f.val n.val slot.val 0x12 (arith1 Val.sqrt id))

/-- SIV_CMPLT (R266). -/
def execSivCmplt (f : FieldId) (n : Fin 2) (slot : Fin 8) (s : State) : Out :=
  .next (s.sMap f.val n.val slot.val 0x18 (arithCmp Val.lt (fun x y => decide (x < y))))

/-- SIV_CMPLE (R266). -/
def execSivCmple (f : FieldId) (n : Fin 2) (slot : Fin 8) (s : State) : Out :=
  .next (s.sMap f.val n.val slot.val 0x19 (arithCmp (fun x y => Val.lt x y || Val.eqv x y)
    (fun x y => decide (x ≤ y))))

/-- SIV_CMPEQ (R266). -/
def execSivCmpeq (f : FieldId) (n : Fin 2) (slot : Fin 8) (s : State) : Out :=
  .next (s.sMap f.val n.val slot.val 0x1A (arithCmp Val.eqv (fun x y => decide (x = y))))

/-- SIV_SELECT (R266). -/
def execSivSelect (f : FieldId) (n : Fin 2) (slot : Fin 8) (s : State) : Out :=
  .next (s.sMap f.val n.val slot.val 0x1B arithSelect)

/-- SIV_AND (R266). -/
def execSivAnd (f : FieldId) (n : Fin 2) (slot : Fin 8) (s : State) : Out :=
  .next (s.sMap f.val n.val slot.val 0x20 (arithBits (fun _ a b => a &&& b)))

/-- SIV_OR (R266). -/
def execSivOr (f : FieldId) (n : Fin 2) (slot : Fin 8) (s : State) : Out :=
  .next (s.sMap f.val n.val slot.val 0x21 (arithBits (fun _ a b => a ||| b)))

/-- SIV_XOR (R266). -/
def execSivXor (f : FieldId) (n : Fin 2) (slot : Fin 8) (s : State) : Out :=
  .next (s.sMap f.val n.val slot.val 0x22 (arithBits (fun _ a b => a ^^^ b)))

/-- SIV_SHL (R266). -/
def execSivShl (f : FieldId) (n : Fin 2) (slot : Fin 8) (s : State) : Out :=
  .next (s.sMap f.val n.val slot.val 0x23 (arithBits (fun w a b => a * 2 ^ (b % w))))

/-- SIV_SHRA (R266). -/
def execSivShra (f : FieldId) (n : Fin 2) (slot : Fin 8) (s : State) : Out :=
  .next (s.sMap f.val n.val slot.val 0x24
    (arithBits (fun w a b => tcode w (sint w a / ((2 ^ (b % w) : Nat) : Int)))))

/-- SIV_SHRL (R266). -/
def execSivShrl (f : FieldId) (n : Fin 2) (slot : Fin 8) (s : State) : Out :=
  .next (s.sMap f.val n.val slot.val 0x25 (arithBits (fun w a b => a / 2 ^ (b % w))))

/-- SIV_CVTN (R266): columns 0–31 from SA, 32–63 from SB, both read in a 32-bit format. -/
def execSivCvtn (f : FieldId) (n : Fin 2) (slot : Fin 8) (s : State) : Out :=
  .next (s.sIssue f.val n.val slot.val 0x28 (fun c _ w s1 =>
    let a := s1.sElems f.val n.val c true (iSa w)
    let b := broadcast true w (s1.sElems f.val n.val c true (iSb w))
    s1.sWrite f.val n.val c false (iDt w) ((List.range 1024).map (fun i =>
      let r := i / 64
      let x := if i % 64 < 32 then a.getD (r * 32 + i % 64) 0 else b.getD (r * 32 + i % 64 - 32) 0
      convNum (iSat w) (cfCode (iCf w)) (numOf (iImm w % 64) x)))))

/-- SIV_CVTW (R266): the half that IMM16[6] selects, read in a 16-bit format. -/
def execSivCvtw (f : FieldId) (n : Fin 2) (slot : Fin 8) (s : State) : Out :=
  .next (s.sIssue f.val n.val slot.val 0x29 (fun c _ w s1 =>
    let a := s1.sElems f.val n.val c false (iSa w)
    let half := if (iImm w).testBit 6 then 32 else 0
    s1.sWrite f.val n.val c true (iDt w) ((List.range 512).map (fun i =>
      convNum (iSat w) (cfCode (iCf w)) (numOf (iImm w % 64) (a.getD (i / 32 * 64 + half + i % 32) 0))))))

/-- SIV_LUT (R273). -/
def execSivLut (f : FieldId) (n : Fin 2) (slot : Fin 8) (s : State) : Out :=
  .next (s.sLut f.val n.val slot.val)

/-- SIV_RROW (R271). -/
def execSivRrow (f : FieldId) (n : Fin 2) (slot : Fin 8) (s : State) : Out :=
  .next (s.sReduce f.val n.val slot.val 0x38)

/-- SIV_RCOL (R271). -/
def execSivRcol (f : FieldId) (n : Fin 2) (slot : Fin 8) (s : State) : Out :=
  .next (s.sReduce f.val n.val slot.val 0x39)

/-- SIV_SHFL (R272).  A distance beyond the lanes has no stated source: a free element. -/
def execSivShfl (f : FieldId) (n : Fin 2) (slot : Fin 8) (s : State) : Out :=
  .next (s.sIssue f.val n.val slot.val 0x3C (fun c _ w s1 =>
    let wide := cfWide (iCf w)
    let (k, s2) := s1.fresh
    let a := s2.sElems f.val n.val c wide (iSa w)
    s2.sWrite f.val n.val c wide (iDt w) ((List.range (lanesOf wide)).map (fun i =>
      let j := i ^^^ (iImm w % 1024)
      if j < lanesOf wide then ⟨a.getD j 0, false⟩
      else ⟨leNat ((List.range 4).map (fun m => Config.freeByte k (4 * i + m))) % 2 ^ cfBits wide,
        false⟩))))

/-- SIV_PERM (R266). -/
def execSivPerm (f : FieldId) (n : Fin 2) (slot : Fin 8) (s : State) : Out :=
  .next (s.sIssue f.val n.val slot.val 0x3D (fun c _ w s1 =>
    let wide := cfWide (iCf w)
    let a := s1.sElems f.val n.val c wide (iSa w)
    let b := broadcast wide w (s1.sElems f.val n.val c wide (iSb w))
    s1.sWrite f.val n.val c wide (iDt w) ((List.range (lanesOf wide)).map (fun i =>
      ⟨a.getD (b.getD i 0 % lanesOf wide) 0, false⟩))))

end Sys2Proof.Machine
end

