-- ==== Sys2Proof/Machine/Cairn.lean ====
section
/-! DEFINITION. The cairns (R290–R331): the pool and its agent, page tables in region 4, sequences,
steps and their admission, appends, gathers, spill and recall, and the loss of pools. -/

namespace Sys2Proof.Machine

/-! ### Geometry, R291 and R292 -/

def State.crnL (s : State) (f : Nat) : Nat := s.getF RF.CRN_GEOM_LAYERS f 0 + 1
def State.crnH (s : State) (f : Nat) : Nat := s.getF RF.CRN_GEOM_HEADS f 0 + 1
def State.crnD (s : State) (f : Nat) : Nat := 32 * (s.getF RF.CRN_GEOM_DIM f 0 + 1)
def State.crnF (s : State) (f : Nat) : Nat := s.getF RF.CRN_GEOM_FORMAT f 0

/-- Bytes of the row of one position: H × D elements. -/
def State.crnRow (s : State) (f : Nat) : Nat := kvBytes (s.crnF f) (s.crnH f * s.crnD f)

/-- Bytes of a slot (R291). -/
def State.slotSize (s : State) (f : Nat) : Nat := roundUp (64 * s.crnRow f) 4096

def noHandle : Nat := 0xFFFFFFFF

def handleWafer (h : Nat) : Nat := nbits h 0 4
def handleField (h : Nat) : Nat := nbits h 4 7
def handleSlot (h : Nat) : Nat := nbits h 11 21
def mkHandle (w f slot : Nat) : Nat := w + f * 16 + slot * 2048

/-- A pool's name: wafer and field. -/
def poolName (w f : Nat) : Nat := w + f * 16
def poolWafer (p : Nat) : Nat := p % 16
def poolField (p : Nat) : Nat := p / 16

/-- Region-0 base and slots of a pool: of this wafer from its registers, of another as it answered. -/
def State.poolOf (s : State) (p : Nat) : Nat × Nat :=
  if poolWafer p = s.ownWafer then
    (s.getF RF.CRN_POOL_BASE_BASE (poolField p) 0 * 65536,
      s.getF RF.CRN_POOL_SLOTS_SLOTS (poolField p) 0)
  else s.cairns.remote.look (0, 0) p

/-- Region-0 offset of a slot of a pool, slot size taken from the holder's geometry. -/
def State.slotOff (s : State) (f h : Nat) : Nat :=
  (s.poolOf (poolName (handleWafer h) (handleField h))).1 + handleSlot h * s.slotSize f

/-- The commons address of a slot. -/
def State.slotAddr (s : State) (f h : Nat) : Nat :=
  directAddr (handleWafer h) (handleField h) 0 (s.slotOff f h)

/-- The commons address of a slot's metadata (R292). -/
def State.metaAddr (s : State) (f h : Nat) : Nat :=
  let (base, slots) := s.poolOf (poolName (handleWafer h) (handleField h))
  directAddr (handleWafer h) (handleField h) 0 (base + slots * s.slotSize f + handleSlot h * 128)

/-! ### The cairn's own state -/

def idleCairn : Cairn := { blocks := [], gran := [], spillMeta := [], results := [], job := none }

def State.cairn (s : State) (f : Nat) : Cairn := s.cairns.units.look idleCairn f

def State.modCairn (s : State) (f : Nat) (g : Cairn → Cairn) : State :=
  { s with cairns := { s.cairns with units := s.cairns.units.put idleCairn f (g (s.cairn f)) } }

/-- Free a granary index with the metadata kept for it. -/
def State.dropGran (s : State) (f g : Nat) : State :=
  s.modCairn f (fun c =>
    { c with gran := c.gran.filter (fun x => x != g), spillMeta := c.spillMeta.put [] g [] })

/-- Pick one of a nonempty list; which one the cairn takes is a free choice. (Mark: DESIGN CHOICE, log 80.) -/
def pickFree (k : Nat) (l : List Nat) : Nat := l.getD (Config.freeNat k 0 % l.length) 0

/-! ### The pool agent, on this wafer -/

/-- REFS of a slot of a local pool. -/
def State.slotRefs (s : State) (g slot : Nat) : Nat :=
  let (base, slots) := s.poolOf (poolName s.ownWafer g)
  leNat (s.memRead g 0 (base + slots * s.slotSize g + slot * 128) 2)

/-- Write bytes of a slot's metadata in a local pool. -/
def State.metaPut (s : State) (g slot off : Nat) (b : List Byte) : State :=
  let (base, slots) := s.poolOf (poolName s.ownWafer g)
  s.memWrite g 0 (base + slots * s.slotSize g + slot * 128 + off) b false

/-- The free slots of a local pool; a pool that is lost or not enabled has none. -/
def State.freeSlots (s : State) (g : Nat) : List Nat :=
  if s.inService g && s.flag RF.CRN_CTL_ENABLE g 0 then
    (List.range (s.getF RF.CRN_POOL_SLOTS_SLOTS g 0)).filter (fun i => decide (s.slotRefs g i = 0))
  else []

/-- May a holder's parish be given slots of pool field `g` (R293)? -/
def State.poolAdmits (s : State) (src : Source) (g : Nat) : Bool := s.admits src g 0 0 1

/-- Allocate one slot of a local pool to a holder: REFS 1, the holder's tag, SCALED 0.
(Mark: DESIGN CHOICE, log 80.) -/
def State.allocSlot (s : State) (g hw hf : Nat) : Option (Nat × State) :=
  match s.freeSlots g with
  | [] => none
  | l =>
    let (k, s1) := s.fresh
    let slot := pickFree k l
    some (slot, s1.metaPut g slot 0 (leBytes 2 1 ++ leBytes 2 (hw + hf * 16) ++
      List.replicate 124 0#8))

/-- Allocate `n` slots of a local pool, all or none. -/
def State.allocSlots (s : State) (g hw hf : Nat) : Nat → Option (List Nat × State)
  | 0 => some ([], s)
  | n + 1 =>
    match s.allocSlot g hw hf with
    | none => none
    | some (slot, s1) =>
      match s1.allocSlots g hw hf n with
      | none => none
      | some (l, s2) => some (slot :: l, s2)

/-- Lower REFS of a slot by handle; a slot at 0 is free (R304).  A lost pool gets no message; a pool
on another wafer gets one. -/
def State.dropRef (s : State) (h : Nat) : State :=
  if h = noHandle then s
  else if handleWafer h = s.ownWafer then
    if s.inService (handleField h) then
      s.metaPut (handleField h) (handleSlot h) 0
        (leBytes 2 (s.slotRefs (handleField h) (handleSlot h) - 1))
    else s
  else if s.memberHere (handleWafer h) then
    s.send (.pool (handleWafer h) (handleField h) 3 [handleSlot h])
  else s

def State.dropRefs (s : State) (l : List Nat) : State := l.foldl State.dropRef s

/-- A pair of slots of one pool; a pool on another wafer answers with slots of its own choice, or
refuses, and both are free. (Mark: DESIGN CHOICE, log 82.) -/
def State.allocPair (s : State) (f : Nat) (src : Source) (pool : Nat) : Option (Nat × Nat × State) :=
  if poolWafer pool = s.ownWafer then
    if !s.poolAdmits src (poolField pool) then none
    else
      match s.allocSlots (poolField pool) s.ownWafer f 2 with
      | some ([a, b], s1) =>
        some (mkHandle (poolWafer pool) (poolField pool) a,
          mkHandle (poolWafer pool) (poolField pool) b, s1)
      | _ => none
  else
    let (k, s1) := s.fresh
    let s2 := s1.send (.pool (poolWafer pool) (poolField pool) 2 [2])
    if Config.freeBool k 0 then
      some (mkHandle (poolWafer pool) (poolField pool) (Config.freeNat k 0 % 2 ^ 21),
        mkHandle (poolWafer pool) (poolField pool) (Config.freeNat k 1 % 2 ^ 21),
        { s2 with serial := s2.serial + 1 })
    else none

/-- Allocate the handles of a list of planned pairs, all or none (R309). -/
def State.allocPairs (s : State) (f : Nat) (src : Source) :
    List CairnPair → Option (List CairnPair × State)
  | [] => some ([], s)
  | p :: r =>
    match s.allocPair f src p.pool with
    | none => none
    | some (a, b, s1) =>
      match s1.allocPairs f src r with
      | none => none
      | some (l, s2) => some ({ p with k := a, v := b } :: l, s2)

/-! ### Page tables, R296 and R297 -/

/-- Region-0 offset of a region-4 offset. -/
def State.ptOff (s : State) (f o : Nat) : Nat := s.getF RF.CRN_PT_BASE_BASE f 0 * 65536 + o

def State.ptRead (s : State) (f o n : Nat) : List Byte := s.memRead f 0 (s.ptOff f o) n

def State.ptWrite (s : State) (f o : Nat) (b : List Byte) : State :=
  s.memWrite f 0 (s.ptOff f o) b false

/-- A sequence record. -/
structure SeqRec where
  isOpen : Bool
  damaged : Bool
  gen : Nat
  len : Nat
  maxTokens : Nat
  layerTable : Nat
  pools : List Nat
  roundRobin : Bool
  deriving DecidableEq, Repr

/-- The pools a record or an open block lists. -/
def poolList (b : List Byte) (n : Nat) : List Nat :=
  (List.range n).map (fun i => poolName (bitField b (16 * i) 4) (bitField b (16 * i + 4) 7))

def State.seqRec (s : State) (f r : Nat) : SeqRec :=
  let b := s.ptRead f (64 * r) 64
  ⟨bitField b 0 1 == 1, bitField b 1 1 == 1, bitField b 3 11, leField b 4 4, leField b 8 4,
    leField b 12 4, poolList (b.drop 24) (leField b 16 1), leField b 17 1 == 1⟩

/-- Change a record's STATE word. -/
def State.setSeqState (s : State) (f r : Nat) (g : Nat → Nat) : State :=
  s.ptWrite f (64 * r) (leBytes 4 (g (leNat (s.ptRead f (64 * r) 4))))

def setBitN (i : Nat) (b : Bool) (v : Nat) : Nat :=
  if v.testBit i = b then v else if b then v + 2 ^ i else v - 2 ^ i

def State.setDamaged (s : State) (f r : Nat) (b : Bool) : State := s.setSeqState f r (setBitN 1 b)

def State.setSeqLen (s : State) (f r n : Nat) : State := s.ptWrite f (64 * r + 4) (leBytes 4 n)

/-- The open records of a cairn. -/
def State.openRecs (s : State) (f : Nat) : List Nat :=
  if s.flag RF.CRN_CTL_ENABLE f 0 then
    (List.range 1024).filter (fun r => (s.seqRec f r).isOpen)
  else []

/-- Open sequences of the wafer (R290, R301). -/
def State.openWafer (s : State) : Nat :=
  ((List.range 80).map (fun f => (s.openRecs f).length)).sum

/-- A page-list entry (R297). -/
structure PageEntry where
  k : Nat
  v : Nat
  fill : Nat
  shared : Bool
  spilled : Bool
  lost : Bool
  gran : Nat
  deriving DecidableEq, Repr

def PageEntry.of (b : List Byte) : PageEntry :=
  ⟨leField b 0 4, leField b 4 4, bitField b 64 7, bitField b 71 1 == 1, bitField b 72 1 == 1,
    bitField b 73 1 == 1, leField b 12 4⟩

def PageEntry.bytes (e : PageEntry) : List Byte :=
  leBytes 4 e.k ++ leBytes 4 e.v ++
    leBytes 4 (e.fill + b2n e.shared * 2 ^ 7 + b2n e.spilled * 2 ^ 8 + b2n e.lost * 2 ^ 9) ++
    leBytes 4 e.gran

def PageEntry.none : PageEntry := ⟨noHandle, noHandle, 0, false, false, false, 0⟩

/-- Region-4 offset of the directory of a layer. -/
def State.dirOff (s : State) (f r l : Nat) : Nat :=
  leNat (s.ptRead f ((s.seqRec f r).layerTable + 16 * l) 4)

/-- Region-4 offset of a directory entry. -/
def State.dirEntry (s : State) (f r l i : Nat) : Nat := s.dirOff f r l + 16 * i

/-- The chunk of a page, if the directory names one. -/
def State.chunkOf (s : State) (f r l page : Nat) : Option Nat :=
  let c := leNat (s.ptRead f (s.dirEntry f r l (page / 256)) 4)
  if c = noHandle then none else some c

def State.pageEntry (s : State) (f r l page : Nat) : PageEntry :=
  match s.chunkOf f r l page with
  | none => PageEntry.none
  | some c => PageEntry.of (s.ptRead f (c + 16 * (page % 256)) 16)

def State.setPageEntry (s : State) (f r l page : Nat) (e : PageEntry) : State :=
  match s.chunkOf f r l page with
  | none => s
  | some c => s.ptWrite f (c + 16 * (page % 256)) e.bytes

/-- Pages that `n` positions need. -/
def pagesOf (n : Nat) : Nat := ceilDiv n 64

/-- Chunks per layer that `n` positions need. -/
def chunksOf (n : Nat) : Nat := ceilDiv n 16384

/-- Every (layer, page) pair of a sequence. -/
def State.pairsOf (s : State) (f r : Nat) : List (Nat × Nat) :=
  (List.range (s.crnL f)).flatMap (fun l =>
    (List.range (pagesOf (s.seqRec f r).len)).map (fun p => (l, p)))

/-- The written length W of a layer (R298): the written positions are a prefix. -/
def State.writtenLen (s : State) (f r l : Nat) : Nat :=
  ((List.range (pagesOf (s.seqRec f r).len)).map (fun p => (s.pageEntry f r l p).fill)).sum

/-- SPILLED_ANY follows the entries (R318). (Mark: DEDUCED, log 83.) -/
def State.noteSpilled (s : State) (f r : Nat) : State :=
  s.setSeqState f r (setBitN 2 ((s.pairsOf f r).any (fun p => (s.pageEntry f r p.1 p.2).spilled)))

/-- The first lost page of a sequence. -/
def State.firstLost (s : State) (f r : Nat) : Nat :=
  (((List.range (pagesOf (s.seqRec f r).len)).find? (fun p =>
    (List.range (s.crnL f)).any (fun l => (s.pageEntry f r l p).lost))).getD 0)

/-! ### Table blocks -/

def State.freeBlocks (s : State) (f : Nat) : List Nat :=
  ((List.range (s.getF RF.CRN_PT_BLOCKS_BLOCKS f 0)).drop 32).filter
    (fun b => !(s.cairn f).blocks.contains b)

/-- Allocate a run of `n` consecutive blocks; answers its region-4 offset. (Mark: DEDUCED, log 81.) -/
def State.allocRun (s : State) (f n : Nat) : Option (Nat × State) :=
  let free := s.freeBlocks f
  match free.filter (fun b => (List.range n).all (fun i => free.contains (b + i))) with
  | [] => none
  | l =>
    let (k, s1) := s.fresh
    let b := pickFree k l
    some (4096 * b, s1.modCairn f (fun c => { c with blocks := setInsertRange b n c.blocks }))

/-- Fill a range of entries with "none" and zeros. -/
def emptyEntries (n : Nat) : List Byte := (List.range n).flatMap (fun _ => PageEntry.none.bytes)

/-- Directory entries that read none (R301). -/
def emptyDirs (n : Nat) : List Byte :=
  (List.range n).flatMap (fun _ => leBytes 4 noHandle ++ List.replicate 12 0#8)

/-- Allocate directories for layers `l`, `l + 1`, …: `d` entries each. (Mark: DEDUCED, log 81.) -/
def State.allocDirs (s : State) (f lt d : Nat) : Nat → Nat → Option State
  | 0, _ => some s
  | n + 1, l =>
    match s.allocRun f (ceilDiv d 256) with
    | none => none
    | some (o, s1) =>
      ((s1.ptWrite f o (emptyDirs (ceilDiv d 256 * 256))).ptWrite f (lt + 16 * l)
        (leBytes 4 o ++ leBytes 4 0 ++ leBytes 8 0) |>.ptWrite f (lt + 16 * l + 4)
        (leBytes 4 (d - 1))).allocDirs f lt d n (l + 1)

/-- Give a page of a layer its chunk, where the directory names none. -/
def State.needChunk (s : State) (f r l page : Nat) : Option State :=
  match s.chunkOf f r l page with
  | some _ => some s
  | none =>
    match s.allocRun f 1 with
    | none => none
    | some (o, s1) =>
      some ((s1.ptWrite f o (emptyEntries 256)).ptWrite f (s1.dirEntry f r l (page / 256)) (leBytes 4 o))

/-- Put pairs into the tables, allocating chunks; entries start at FILL 0 (R309). -/
def State.placePairs (s : State) (f : Nat) : List CairnPair → Option State
  | [] => some s
  | p :: r =>
    match s.needChunk f p.record p.layer p.page with
    | none => none
    | some s1 =>
      (s1.setPageEntry f p.record p.layer p.page
        { PageEntry.none with k := p.k, v := p.v }).placePairs f r

/-- The blocks of a sequence: its layer table, directories and chunks. -/
def State.seqBlocks (s : State) (f r : Nat) : List Nat :=
  let q := s.seqRec f r
  let d := chunksOf q.maxTokens
  q.layerTable / 4096 ::
    (List.range (s.crnL f)).flatMap (fun l =>
      (List.range (ceilDiv d 256)).map (fun i => s.dirOff f r l / 4096 + i) ++
      (List.range d).filterMap (fun i => (s.chunkOf f r l (256 * i)).map (· / 4096)))

def State.freeBlockList (s : State) (f : Nat) (l : List Nat) : State :=
  s.modCairn f (fun c => { c with blocks := c.blocks.filter (fun b => !l.contains b) })

/-! ### Configuration, R294 -/

/-- Do two byte ranges meet? -/
def meets (a n b m : Nat) : Bool := decide (0 < n) && decide (0 < m) && decide (a < b + m) && decide (b < a + n)

/-- The check of R294. -/
def State.crnConfigOk (s : State) (f : Nat) : Bool :=
  let base := s.getF RF.CRN_POOL_BASE_BASE f 0 * 65536
  let slots := s.getF RF.CRN_POOL_SLOTS_SLOTS f 0
  let pool := slots * (s.slotSize f + 128)
  let pt := s.getF RF.CRN_PT_BASE_BASE f 0 * 65536
  let ptN := s.getF RF.CRN_PT_BLOCKS_BLOCKS f 0 * 4096
  let h := s.getF RF.CRN_GEOM_HEADROOM f 0
  decide (base + pool ≤ 2 ^ 35) && decide (pt + ptN ≤ 2 ^ 35) && decide (32 * 4096 ≤ ptN) &&
    !meets base pool pt ptN &&
    !(s.slotted f && (meets base pool s.spreadBase s.spreadSize || meets pt ptN s.spreadBase s.spreadSize)) &&
    decide (s.crnF f ∈ [1, 3, 0x30, 0x31]) &&
    (decide (s.crnF f ∉ [0x30, 0x31]) || (decide (0x3F80 ≤ h) && decide (h < 0x7F80)))

/-- Setting ENABLE (R294). -/
def State.crnEnable (s : State) (f : Nat) : State :=
  if s.flag RF.CRN_CTL_ENABLE f 0 then s
  else if s.crnConfigOk f then s.setFlag RF.CRN_CTL_ENABLE f 0 true
  else s.setFlag RF.CRN_CTL_CFG_ERR f 0 true

/-- Clearing ENABLE (R294). (Mark: DEDUCED, log 87.) -/
def State.crnDisable (s : State) (f : Nat) : State :=
  if (s.openRecs f).isEmpty then s.setFlag RF.CRN_CTL_ENABLE f 0 false else s

/-! ### Losses, R319 -/

/-- Mark the entries of a cairn that `bad` selects LOST, and their sequences DAMAGED. -/
def State.markLost (s : State) (f : Nat) (bad : PageEntry → Bool) : State :=
  (s.openRecs f).foldl (fun t r =>
    let l := (t.pairsOf f r).filter (fun p => bad (t.pageEntry f r p.1 p.2))
    if l.isEmpty then t
    else (l.foldl (fun x p => x.setPageEntry f r p.1 p.2
      { x.pageEntry f r p.1 p.2 with lost := true, spilled := false }) t).setDamaged f r true) s

/-- Does the entry lie in a lost pool, or in a pool of a lost wafer? -/
def lostEntry (whole : Bool) (which : Nat) (e : PageEntry) : Bool :=
  !e.spilled && [e.k, e.v].any (fun h => decide (h ≠ noHandle) &&
    (if whole then decide (h % 16 = which) else decide (h % 2048 = which)))

/-- Start a damage scan on every holder of this wafer whose sequences have pairs in what was lost, a pool
or every pool of a wafer (R319). -/
def State.startScan (s : State) (whole : Bool) (which : Nat) : State :=
  (List.range 80).foldl (fun (t : State) f =>
    if t.inService f && t.flag RF.CRN_CTL_ENABLE f 0 && (t.openRecs f).any (fun r =>
        (t.pairsOf f r).any (fun p => lostEntry whole which (t.pageEntry f r p.1 p.2))) then
      let t1 := t.setFlag RF.CRN_CTL_SCAN_BUSY f 0 true
      { t1 with cairns := { t1.cairns with scans := t1.cairns.scans ++ [(f, whole, which)] } }
    else t) s

/-- The damage scans of a holder end: what they found is LOST (R319). -/
def State.endScans (s : State) (f : Nat) : State :=
  let l := s.cairns.scans.filter (fun x => decide (x.1 = f))
  let s1 := l.foldl (fun (t : State) x => t.markLost f (lostEntry x.2.1 x.2.2)) s
  { s1 with cairns := { s1.cairns with
    scans := s1.cairns.scans.filter (fun x => !decide (x.1 = f)) } }.setFlag RF.CRN_CTL_SCAN_BUSY f 0
    false

/-- The end of a cold reset: every spilled pair is lost (R413). -/
def State.loseSpilled (s : State) : State :=
  (List.range 80).foldl (fun t f => t.markLost f (fun e => e.spilled)) s

/-- The reassignment clear of a cairn (R327): every record closes and its pool is freed; for holders
elsewhere it is a pool loss. -/
def State.cairnClear (s : State) (f : Nat) : State :=
  let s1 := (s.openRecs f).foldl (fun t r =>
    t.setSeqState f r (fun v => nbits (nbits v 3 11 + 1) 0 11 * 8)) s
  let slots := s1.getF RF.CRN_POOL_SLOTS_SLOTS f 0
  let used := (List.range slots).filter (fun i => decide (s1.slotRefs f i ≠ 0))
  let s2 := used.foldl (fun t i => t.metaPut f i 0 (leBytes 2 0)) s1
  (s2.modCairn f (fun _ => idleCairn)).startScan false (poolName s.ownWafer f)

/-! ### Task bodies, R299 -/

def cSeq (d : List Byte) : Nat := bitField d 128 32
def cAddr (d : List Byte) : Nat := bitField d 160 57
def cAddr2 (d : List Byte) : Nat := bitField d 224 57
def cCount (d : List Byte) : Nat := bitField d 288 24
def cLayer (d : List Byte) : Nat := bitField d 312 8
def cArg (d : List Byte) : Nat := bitField d 320 32

def seqWafer (q : Nat) : Nat := nbits q 0 4
def seqField (q : Nat) : Nat := nbits q 4 7
def seqRecord (q : Nat) : Nat := nbits q 11 10
def seqGen (q : Nat) : Nat := nbits q 21 11
def mkSeq (w f r g : Nat) : Nat := w + f * 16 + r * 2 ^ 11 + g * 2 ^ 21

/-- Fields marked "—" are zero, and no reserved bit is set (R299): `u` names the used fields SEQ,
ADDR, ADDR2, COUNT, LAYER in bits 0 to 4, `argBits` the used bits of ARG. -/
def cReservedOk (d : List Byte) (u argBits : Nat) : Bool :=
  decide (bitField d 217 7 = 0) && decide (bitField d 281 7 = 0) && decide (bitField d 352 160 = 0) &&
    (u.testBit 0 || decide (cSeq d = 0)) && (u.testBit 1 || decide (cAddr d = 0)) &&
    (u.testBit 2 || decide (cAddr2 d = 0)) && (u.testBit 3 || decide (cCount d = 0)) &&
    (u.testBit 4 || decide (cLayer d = 0)) && decide (cArg d < 2 ^ argBits)

/-- Used fields and ARG bits of an opcode (R299). -/
def cUses (op : Nat) : Nat × Nat :=
  match op with
  | 1 => (0x02, 0)
  | 2 => (0x01, 0)
  | 3 => (0x03, 25)
  | 4 => (0x0E, 0)
  | 5 => (0x16, 6)
  | 6 => (0x17, 7)
  | 7 => (0x01, 25)
  | 8 => (0x19, 18)
  | 9 => (0x19, 18)
  | _ => (0, 0)

/-- The lowest BODY_INVALID reason of R330 that does not need the open block. -/
def State.cBodyReason (s : State) (f : Nat) (d : List Byte) : Nat :=
  let op := descOpcode d
  let (u, argBits) := cUses op
  let l := s.crnL f
  if 9 < op ∨ !cReservedOk d u argBits then 1
  else if cAddr d % 64 ≠ 0 ∨ cAddr2 d % 64 ≠ 0 then 2
  else if (op = 5 ∨ op = 6) ∧ l ≤ cLayer d then 3
  else if (op = 8 ∨ op = 9) ∧ l ≤ cLayer d ∧ cLayer d ≠ 0xFF then 3
  else if op = 6 ∧ !(cArg d).testBit 6 ∧ s.crnH f ≤ cArg d % 16 then 4
  else if op = 5 ∧ 1 < cArg d then 5
  else if op = 4 ∧ (cCount d = 0 ∨ 4096 < cCount d) then 7
  else if (op = 8 ∨ op = 9) ∧ cCount d = 0 then 7
  else 0

/-- Is an open block valid (R300)?  `own` restricts its pools to the holder's (R303). -/
def openBlockOk (b : List Byte) (own : Option Nat) : Bool :=
  let n := leField b 4 1
  let mt := leField b 0 4
  decide (1 ≤ mt) && decide (mt ≤ 2 ^ 24) && decide (1 ≤ n) && decide (n ≤ 16) &&
    decide (leField b 5 1 ≤ 1) && decide (leField b 6 2 = 0) && decide (leField b 40 24 = 0) &&
    (List.range 16).all (fun i =>
      let e := leField b (8 + 2 * i) 2
      if i < n then
        decide (nbits e 4 7 < 80) && decide (nbits e 11 4 = 0) && e.testBit 15 &&
          (match own with | some p => decide (e % 2048 = p) | none => true)
      else decide (e = 0))

/-! ### Cairn statuses, R330 -/

def stNoRoom : Nat := 0x80
def stStepInvalid : Nat := 0x81
def stSeqStale : Nat := 0x82
def stSeqDamaged : Nat := 0x83
def stSpilled : Nat := 0x84
def stSharedPage : Nat := 0x85
def stRange : Nat := 0x86
def stRefcountFull : Nat := 0x87
def stGranary : Nat := 0x88
def stNotReady : Nat := 0x89

/-- DETAIL of NO_ROOM (R309, R330). -/
def noRoomDetail (slots blocks pool : Nat) (limit : Bool) : Nat :=
  min slots (2 ^ 22 - 1) + min blocks (2 ^ 20 - 1) * 2 ^ 22 + pool * 2 ^ 42 + b2n limit * 2 ^ 53

def idPage (id page : Nat) : Nat := id + page * 2 ^ 32

/-- Does the id name an open record of this cairn? -/
def State.seqLive (s : State) (f id : Nat) : Bool :=
  let q := s.seqRec f (seqRecord id)
  decide (seqWafer id = s.ownWafer) && decide (seqField id = f) && q.isOpen && decide (q.gen = seqGen id)

/-! ### Starting tasks -/

/-- May the cairn start the task at the head of its queue (R323)? -/
def State.cMayStart (s : State) (f : Nat) (ok : Nat → Bool) : Bool :=
  s.unitRuns f unitCairn && (s.engine f unitCairn).running.isEmpty &&
    match (s.engine f unitCairn).queue with
    | [] => false
    | t :: _ => ok (descOpcode t.desc)

/-- Start a task of one opcode: NOT_READY while ENABLE is 0, then the body checks (R294, R299). -/
def State.cStart (s : State) (f : Nat) (ok : Nat → Bool) (run : EngTask → State → State) : State :=
  if !s.cMayStart f ok then s
  else
    match s.startTask f unitCairn with
    | none => s
    | some (t, s1) =>
      if !s1.flag RF.CRN_CTL_ENABLE f 0 then s1.settleOpen f unitCairn t.serial stNotReady
      else
        match s1.cBodyReason f t.desc with
        | 0 => run t s1
        | r => s1.settle f unitCairn t.serial stBodyInvalid r

def State.cSettle (s : State) (f : Nat) (t : EngTask) (status detail : Nat) : State :=
  s.settle f unitCairn t.serial status detail

def State.cOk (s : State) (f : Nat) (t : EngTask) : State := s.settleOpen f unitCairn t.serial stOk

def State.cFail (s : State) (f : Nat) (t : EngTask) (e : Nat × AccStatus) : State :=
  s.settleAccess f unitCairn t.serial e.1 e.2

/-- A task on a sequence: the id must name an open record of this cairn. -/
def State.onSeq (s : State) (f : Nat) (t : EngTask) (run : Nat → State → State) : State :=
  let id := cSeq t.desc
  if s.seqLive f id then run (seqRecord id) s else s.cSettle f t stSeqStale id

/-! ### OPEN, CLOSE, FORK, TRUNCATE -/

/-- Write a new record (R301). -/
def State.writeRec (s : State) (f r len lt : Nat) (b : List Byte) : State :=
  let gen := (s.seqRec f r).gen
  s.ptWrite f (64 * r) (leBytes 4 (1 + gen * 8) ++ leBytes 4 len ++ b.take 4 ++ leBytes 4 lt ++
    (b.drop 4).take 1 ++ (b.drop 5).take 1 ++ List.replicate 6 0#8 ++ (b.drop 8).take 32 ++
    List.replicate 8 0#8)

/-- Open a record with its layer table and directories; `extra` chunk blocks and `slots` must be had
too.  Answers the record, or the NO_ROOM detail. -/
def State.openSeq (s : State) (f len : Nat) (b : List Byte) (extra slots : Nat) :
    Except Nat (Nat × State) :=
  let d := chunksOf (leField b 0 4)
  let need := 1 + s.crnL f * ceilDiv d 256 + extra
  let have_ := (s.freeBlocks f).length
  let blocksShort := need - have_
  let slotsHave := (s.freeSlots f).length
  let slotsShort := slots - slotsHave
  let recs := (List.range 1024).filter (fun r => !(s.seqRec f r).isOpen)
  let limit := recs.isEmpty || decide (65536 ≤ s.openWafer)
  let (k, s1) := s.fresh
  let pool := if slotsShort ≠ 0 then poolName s.ownWafer f
    else if blocksShort ≠ 0 then 0x7FF else Config.freeNat k 0 % 2048
  if limit ∨ blocksShort ≠ 0 ∨ slotsShort ≠ 0 then
    .error (noRoomDetail slotsShort blocksShort pool limit)
  else
    let r := pickFree k recs
    match s1.allocRun f 1 with
    | none => .error (noRoomDetail 0 1 0x7FF false)
    | some (lt, s2) =>
      match s2.allocDirs f lt d (s2.crnL f) 0 with
      | none => .error (noRoomDetail 0 1 0x7FF false)
      | some s3 => .ok (r, s3.writeRec f r len lt b)

/-- The id of a record. -/
def State.seqId (s : State) (f r : Nat) : Nat := mkSeq s.ownWafer f r (s.seqRec f r).gen

/-- OPEN (R301). -/
def State.cOpen (s : State) (f : Nat) (t : EngTask) : State :=
  match s.bulkRead (s.taskSource f unitCairn t) (cAddr t.desc) 64 with
  | (s1, ⟨_, some e⟩) => s1.cFail f t e
  | (s1, ⟨b, none⟩) =>
    if !openBlockOk b none then s1.cSettle f t stBodyInvalid 6
    else
      match s1.openSeq f 0 b 0 0 with
      | .error d => s1.cSettle f t stNoRoom d
      | .ok (r, s2) => s2.cSettle f t stOk (s2.seqId f r)

/-- Free what the entries of a sequence's pages from `page` on hold: references and granary
indices; the entries read none. (Mark: DEDUCED, log 84.) -/
def State.freePages (s : State) (f r page : Nat) : State :=
  ((s.pairsOf f r).filter (fun p => decide (page ≤ p.2))).foldl (fun t p =>
    let e := t.pageEntry f r p.1 p.2
    let t1 := t.dropRefs [e.k, e.v]
    let t2 := if e.spilled then t1.dropGran f e.gran else t1
    t2.setPageEntry f r p.1 p.2 PageEntry.none) s

/-- Close a record: references, granary indices and blocks go, and the generation advances (R304). -/
def State.closeSeq (s : State) (f r : Nat) : State :=
  let s1 := s.freePages f r 0
  let s2 := s1.freeBlockList f (s1.seqBlocks f r)
  s2.setSeqState f r (fun v => nbits (nbits v 3 11 + 1) 0 11 * 8)

/-- TRUNCATE (R305). (Mark: DEDUCED, log 84.) -/
def State.cTruncate (s : State) (f : Nat) (t : EngTask) : State :=
  s.onSeq f t fun r s1 =>
    let id := cSeq t.desc
    let n := cArg t.desc
    let q := s1.seqRec f r
    let page := n / 64
    let layers := List.range (s1.crnL f)
    if q.len < n then s1.cSettle f t stRange (idPage id n)
    else if n % 64 ≠ 0 ∧ layers.any (fun l => (s1.pageEntry f r l page).shared) then
      s1.cSettle f t stSharedPage (idPage id page)
    else
      let lost := s1.firstLost f r
      let s2 := s1.freePages f r (pagesOf n)
      let s3 := if n % 64 = 0 then s2 else layers.foldl (fun x l =>
        let e := x.pageEntry f r l page
        x.setPageEntry f r l page { e with fill := min e.fill (n % 64) }) s2
      let dead := layers.flatMap (fun l => ((List.range (chunksOf q.len)).drop (chunksOf n)).filterMap
        (fun i => (s3.chunkOf f r l (256 * i)).map (· / 4096)))
      let s4 := layers.foldl (fun x l => ((List.range (chunksOf q.len)).drop (chunksOf n)).foldl
        (fun y i => y.ptWrite f (y.dirEntry f r l i) (leBytes 4 noHandle)) x) s3
      let s5 := ((s4.freeBlockList f dead).setSeqLen f r n).noteSpilled f r
      let s6 := if q.damaged ∧ n ≤ 64 * lost then s5.setDamaged f r false else s5
      s6.cOk f t

/-- The pairs a FORK shares: full pages below the prefix. -/
def State.forkPairs (s : State) (f p : Nat) : List (Nat × Nat) :=
  (List.range (s.crnL f)).flatMap (fun l => (List.range (p / 64)).map (fun g => (l, g)))

/-- Raise REFS of a slot; a slot of another wafer's pool gets a message. -/
def State.addRef (s : State) (h : Nat) : State :=
  if h = noHandle then s
  else if handleWafer h = s.ownWafer then
    s.metaPut (handleField h) (handleSlot h) 0
      (leBytes 2 (s.slotRefs (handleField h) (handleSlot h) + 1))
  else s.send (.pool (handleWafer h) (handleField h) 4 [handleSlot h])

/-- A handle at 65,535 references; on another wafer the agent's answer is free. -/
def State.refFull (s : State) (k h : Nat) : Bool :=
  if handleWafer h = s.ownWafer then decide (s.slotRefs (handleField h) (handleSlot h) = 65535)
  else Config.freeBool k h

/-- Copy slots: data and metadata scales of each page that holds the prefix's end (R302). -/
def State.copyPairs (s : State) (f : Nat) (src : Source) (child fill page : Nat) :
    List (PageEntry × Nat) → State × Option (Nat × AccStatus)
  | [] => (s, none)
  | (e, l) :: r =>
    match s.allocPair f src (poolName s.ownWafer f) with
    | none => (s, none)
    | some (a, b, s1) =>
      match s1.readAll src [(s1.slotAddr f e.k, s1.slotSize f), (s1.slotAddr f e.v, s1.slotSize f),
          (s1.metaAddr f e.k + 4, 124), (s1.metaAddr f e.v + 4, 124)] with
      | (s2, .error x) => (s2, some x)
      | (s2, .ok d) =>
        let s3 := (s2.bulkWrite src (s2.slotAddr f a) (d.getD 0 [])).1
        let s4 := (s3.bulkWrite src (s3.slotAddr f b) (d.getD 1 [])).1
        let s5 := (s4.metaPut f (handleSlot a) 4 (d.getD 2 [])).metaPut f (handleSlot b) 4 (d.getD 3 [])
        match s5.needChunk f child l page with
        | none => (s5, none)
        | some s6 => (s6.setPageEntry f child l page
            ⟨a, b, fill, false, false, false, 0⟩).copyPairs f src child fill page r

/-- FORK (R302, R303). -/
def State.cFork (s : State) (f : Nat) (t : EngTask) : State :=
  let src := s.taskSource f unitCairn t
  s.onSeq f t fun r s0 =>
    match s0.bulkRead src (cAddr t.desc) 64 with
    | (s1, ⟨_, some e⟩) => s1.cFail f t e
    | (s1, ⟨b, none⟩) =>
      let id := cSeq t.desc
      let p := cArg t.desc
      let layers := List.range (s1.crnL f)
      let w := layers.foldl (fun m l => min m (s1.writtenLen f r l)) (s1.seqRec f r).len
      let shared := s1.forkPairs f p
      let tail := if p % 64 = 0 then [] else layers.map (fun l => (s1.pageEntry f r l (p / 64), l))
      let (k, s2) := s1.fresh
      if !openBlockOk b (some (poolName s.ownWafer f)) then s1.cSettle f t stBodyInvalid 6
      else if (s1.seqRec f r).damaged then s1.cSettle f t stSeqDamaged (idPage id (s1.firstLost f r))
      else if w < p ∨ leField b 0 4 < p then s1.cSettle f t stRange (idPage id p)
      else
        match (shared ++ layers.filterMap (fun l =>
            if p % 64 = 0 then none else some (l, p / 64))).find? (fun x =>
              (s1.pageEntry f r x.1 x.2).spilled) with
        | some x => s1.cSettle f t stSpilled (idPage id x.2)
        | none =>
          match (shared.flatMap (fun x => [(s1.pageEntry f r x.1 x.2).k,
              (s1.pageEntry f r x.1 x.2).v])).find? (s1.refFull k) with
          | some h => s1.cSettle f t stRefcountFull h
          | none =>
            match s2.openSeq f p b (layers.length * chunksOf p) (2 * tail.length) with
            | .error d => s2.cSettle f t stNoRoom d
            | .ok (c, s3) =>
              let s4 := shared.foldl (fun x q =>
                let e := { x.pageEntry f r q.1 q.2 with shared := true }
                let x1 := (x.setPageEntry f r q.1 q.2 e).addRef e.k |>.addRef e.v
                match x1.needChunk f c q.1 q.2 with
                | none => x1
                | some x2 => x2.setPageEntry f c q.1 q.2 e) s3
              match s4.copyPairs f src c (p % 64) (p / 64) tail with
              | (s5, some e) => (s5.closeSeq f c).cFail f t e
              | (s5, none) => s5.cSettle f t stOk (s5.seqId f c)

/-! ### STEP, R306–R310 -/

/-- Entry `i` of a step table. -/
def stepEntry (tbl : List Byte) (i : Nat) : List Byte := (tbl.drop (32 * i)).take 32

def seSeq (e : List Byte) : Nat := bitField e 0 32
def seNew (e : List Byte) : Nat := bitField e 32 17
def seRecall (e : List Byte) : Bool := bitField e 64 1 == 1

/-- The reason an entry is invalid (R307, R330), 0 for none. -/
def State.stepReason (s : State) (f : Nat) (tbl : List Byte) (i : Nat) : Nat :=
  let e := stepEntry tbl i
  let id := seSeq e
  let q := s.seqRec f (seqRecord id)
  let other := decide (seqWafer id ≠ s.ownWafer) || decide (seqField id ≠ f)
  if !other && !s.seqLive f id then 1
  else if other then 2
  else if (List.range i).any (fun j => decide (seSeq (stepEntry tbl j) = id)) then 3
  else if 65536 < seNew e ∨ q.maxTokens < q.len + seNew e then 4
  else if bitField e 49 15 ≠ 0 ∨ bitField e 65 63 ≠ 0 then 5
  else 0

/-- The spilled pairs an entry recalls, in ascending page and layer. -/
def State.recallPairs (s : State) (f r : Nat) : List (Nat × Nat) :=
  (List.range (pagesOf (s.seqRec f r).len)).flatMap (fun p =>
    (List.range (s.crnL f)).filterMap (fun l =>
      if (s.pageEntry f r l p).spilled then some (l, p) else none))

/-- The new pairs of an entry, in ascending page and layer. -/
def newPairs (layers n0 k : Nat) : List (Nat × Nat) :=
  ((List.range (pagesOf (n0 + k))).drop (pagesOf n0)).flatMap (fun p =>
    (List.range layers).map (fun l => (l, p)))

/-- The pairs an entry needs, with no pool yet (R308, R309). -/
def State.entryPairs (s : State) (f : Nat) (e : List Byte) : List CairnPair :=
  let r := seqRecord (seSeq e)
  let q := s.seqRec f r
  if q.damaged then []
  else
    (if seRecall e then (s.recallPairs f r).map (fun x =>
        ⟨r, x.1, x.2, 0, 0, 0, (s.pageEntry f r x.1 x.2).gran, true, none⟩) else []) ++
      (newPairs (s.crnL f) q.len (seNew e)).map (fun x => ⟨r, x.1, x.2, 0, 0, 0, 0, false, none⟩)

/-- Chunk blocks an entry needs (R308). -/
def State.entryBlocks (s : State) (f : Nat) (e : List Byte) : Nat :=
  let q := s.seqRec f (seqRecord (seSeq e))
  if q.damaged then 0 else s.crnL f * (chunksOf (q.len + seNew e) - chunksOf q.len)

/-- The outcome of a plan: pairs with pools, pairs left over, and the first pool that was short. -/
structure Plan where
  pairs : List CairnPair
  short : Nat
  pool : Option Nat
  avail : NMap Nat

/-- Assign one pair under the sequence's policy (R309). -/
def planPair (q : SeqRec) (p : CairnPair) (x : Plan) : Plan :=
  let pick : Option Nat :=
    if q.roundRobin then
      match q.pools[p.page % q.pools.length]? with
      | some g => if 2 ≤ x.avail.look 0 g then some g else none
      | none => none
    else q.pools.find? (fun g => decide (2 ≤ x.avail.look 0 g))
  let blame := if q.roundRobin then q.pools.getD (p.page % q.pools.length) 0
    else q.pools.getLastD 0
  match pick with
  | some g => { x with pairs := x.pairs ++ [{ p with pool := g }],
                       avail := x.avail.put 0 g (x.avail.look 0 g - 2) }
  | none => { x with short := x.short + 2, pool := some (x.pool.getD blame) }

def State.planPairs (s : State) (f : Nat) (avail : NMap Nat) (l : List CairnPair) : Plan :=
  l.foldl (fun x p => planPair (s.seqRec f p.record) p x) ⟨[], 0, none, avail⟩

def stepEntries (tbl : List Byte) : List (List Byte) :=
  (List.range (tbl.length / 32)).map (stepEntry tbl)

/-- Slots the step needs, A. -/
def State.stepSlots (s : State) (f : Nat) (tbl : List Byte) : Nat :=
  ((stepEntries tbl).map (fun e => 2 * (s.entryPairs f e).length)).sum

/-- Blocks the step needs, C. -/
def State.stepBlocks (s : State) (f : Nat) (tbl : List Byte) : Nat :=
  ((stepEntries tbl).map (s.entryBlocks f)).sum

/-- The step result (R310), made from the state before the admission. (Mark: DESIGN CHOICE, log 86.) -/
def State.stepResult (s : State) (f : Nat) (tbl : List Byte) (status slotsShort blocksShort : Nat) :
    List Byte :=
  let es := stepEntries tbl
  leBytes 2 status ++ leBytes 2 es.length ++ leBytes 4 (s.stepSlots f tbl) ++ leBytes 4 slotsShort ++
    leBytes 4 (s.stepBlocks f tbl) ++ leBytes 4 blocksShort ++ List.replicate 44 0#8 ++
    es.flatMap (fun e =>
      let q := s.seqRec f (seqRecord (seSeq e))
      let code := if q.damaged then 1 else if status = stOk then 0 else 2
      leBytes 16 (q.len + (if code = 0 then q.len + seNew e else q.len) * 2 ^ 25 + code * 2 ^ 50 +
        2 * (s.entryPairs f e).length * 2 ^ 52 + s.entryBlocks f e * 2 ^ 74) ++ (e.drop 16).take 16)

/-- Write the step result, then settle (R310). -/
def State.stepEnd (s : State) (f : Nat) (t : EngTask) (res : List Byte) (status detail : Nat) : State :=
  let s1 := s.modCairn f (fun c => { c with job := none })
  match s1.bulkWrite (s1.taskSource f unitCairn t) (cAddr2 t.desc) res with
  | (s2, none) => s2.cSettle f t status detail
  | (s2, some e) => s2.cFail f t e

/-- Reject a step: nothing changed but the result and the count (R309). (Mark: DEDUCED, log 85.) -/
def State.stepReject (s : State) (f : Nat) (t : EngTask) (tbl : List Byte) (slots blocks pool : Nat) :
    State :=
  (s.addWrap RF.CRN_ADMIT_REJECTED f 0 1).stepEnd f t (s.stepResult f tbl stNoRoom slots blocks)
    stNoRoom (noRoomDetail slots blocks pool false)

/-- Free the slots granted to pairs. -/
def State.freeGrants (s : State) (l : List CairnPair) : State :=
  s.dropRefs (l.flatMap (fun p => [p.k, p.v]))

/-- The bytes of a pair in the granary: both pages. -/
def State.pairBytes (s : State) (f : Nat) : Nat := s.slotSize f

/-- Bring recalled pairs back: data into the new slots, metadata, and the entry (R318). -/
def State.recallPlace (s : State) (f : Nat) (src : Source) (p : CairnPair) : State :=
  let n := s.slotSize f
  let d := p.data.getD []
  let s1 := (s.bulkWrite src (s.slotAddr f p.k) (d.take n)).1
  let s2 := (s1.bulkWrite src (s1.slotAddr f p.v) ((d.drop n).take n)).1
  let m := NMap.look (s2.cairn f).spillMeta [] p.gran
  let s3 := if handleWafer p.k = s2.ownWafer then
      (s2.metaPut (handleField p.k) (handleSlot p.k) 4 (m.take 124)).metaPut (handleField p.v)
        (handleSlot p.v) 4 (m.drop 124)
    else s2
  let e := s3.pageEntry f p.record p.layer p.page
  let s4 := s3.setPageEntry f p.record p.layer p.page
    { e with k := p.k, v := p.v, spilled := false, gran := 0 }
  ((s4.dropGran f p.gran).addWrap RF.HBM_GRAN_MOVED_RECALLED 0 0 1).noteSpilled
    f p.record

/-- Commit an admitted step: entries, recalls, lengths (R309). -/
def State.stepCommit (s : State) (f : Nat) (t : EngTask) (tbl : List Byte) (pairs : List CairnPair) :
    State :=
  let res := s.stepResult f tbl stOk 0 0
  let a := s.stepSlots f tbl
  let c := s.stepBlocks f tbl
  let src := s.taskSource f unitCairn t
  match s.placePairs f (pairs.filter (fun p => !p.back)) with
  | none => (s.freeGrants pairs).stepReject f t tbl 0 1 0x7FF
  | some s1 =>
    let s2 := (pairs.filter (·.back)).foldl (fun x p => x.recallPlace f src p) s1
    let s3 := (stepEntries tbl).foldl (fun x e =>
      let r := seqRecord (seSeq e)
      let q := x.seqRec f r
      if q.damaged then x else x.setSeqLen f r (q.len + seNew e)) s2
    let s4 := s3.modCairn f (fun x => { x with
      results := x.results.put [] (cAddr2 t.desc) ((stepEntries tbl).map seSeq) })
    (s4.addWrap RF.CRN_ADMIT_ADMITTED f 0 1).stepEnd f t res stOk (a + c * 2 ^ 32)

/-- The first reason a granary access fails at once (R414). -/
def State.granBlocked (s : State) (pair : Nat) : Option AccStatus :=
  if s.getF RF.HBM_GRAN_CTL_MODE 0 0 = 0 ∨ !s.flag RF.HBM_GRAN_CTL_READY 0 0 ∨
      s.getF RF.HBM_GRAN_PAIRS_PAIRS 0 0 ≤ pair then some .addrInvalid
  else if !s.flag RF.HBM_GRAN_CTL_LINK_UP 0 0 then some .routeLoss
  else none

/-- Undo what a task in hand holds: slots granted to pairs that have no entry yet, and granary indices
of pairs not yet spilled (R317, R318, R326). (Mark: DEDUCED, log 85.) -/
def State.cairnRollback (s : State) (f : Nat) : State :=
  match (s.cairn f).job with
  | none => s
  | some j =>
    let grants := j.pairs.filter (fun p => p.back || !j.table.isEmpty)
    let spills := j.pairs.filter (fun p => !p.back && j.table.isEmpty)
    let s1 := spills.foldl (fun t p => t.dropGran f p.gran) (s.freeGrants grants)
    s1.modCairn f (fun c => { c with job := none })

/-- A granary failure ends the task with GRANARY and is captured (R414, R422). -/
def State.granFail (s : State) (f : Nat) (t : EngTask) (st : AccStatus) (pair : Nat) : State :=
  let s2 := (s.cairnRollback f).capture RF.HBM_GRAN_ERR_VALID RF.HBM_GRAN_ERR_MORE 0 fun x =>
    x.setF RF.HBM_GRAN_ERR_STATUS 0 0 st.code |>.setF RF.HBM_GRAN_ERR_PAIR 0 0 pair
  s2.cSettle f t stGranary (st.code + pair * 256)

/-- Start the granary reads of granted recall pairs; with none the step commits at once. -/
def State.startRecall (s : State) (f : Nat) (t : EngTask) (tbl : List Byte) (pairs : List CairnPair) :
    State :=
  let l := pairs.filter (·.back)
  let s1 := s.modCairn f (fun c => { c with job := some ⟨t.serial, tbl, [], [], pairs⟩ })
  match l.find? (fun p => (s1.granBlocked p.gran).isSome) with
  | some p => s1.granFail f t ((s1.granBlocked p.gran).getD .ok) p.gran
  | none => l.foldl (fun x p => x.send (.granary false p.gran [])) s1

/-- Plan, allocate and commit or reject, once every pool has answered (R309). -/
def State.stepDecide (s : State) (f : Nat) (t : EngTask) (tbl : List Byte) (avail : NMap Nat) : State :=
  let src := s.taskSource f unitCairn t
  let plan := s.planPairs f avail ((stepEntries tbl).flatMap (s.entryPairs f))
  let blocksShort := s.stepBlocks f tbl - (s.freeBlocks f).length
  match plan.pool with
  | some g => s.stepReject f t tbl plan.short blocksShort g
  | none =>
    if blocksShort ≠ 0 then s.stepReject f t tbl 0 blocksShort 0x7FF
    else
      match s.allocPairs f src plan.pairs with
      | none =>
        let g := ((plan.pairs.map (·.pool)).find? (fun g =>
          decide (poolWafer g ≠ s.ownWafer) || !s.poolAdmits src (poolField g) ||
            decide ((s.freeSlots (poolField g)).length <
              2 * (plan.pairs.filter (fun p => p.pool == g)).length))).getD 0x7FF
        s.stepReject f t tbl (2 * (plan.pairs.filter (fun p => p.pool == g)).length) 0 g
      | some (l, s1) =>
        if l.any (·.back) then s1.startRecall f t tbl l else s1.stepCommit f t tbl l

/-- The pools named by entries with a need. -/
def State.stepPools (s : State) (f : Nat) (tbl : List Byte) : List Nat :=
  (((stepEntries tbl).filter (fun e => !(s.entryPairs f e).isEmpty)).flatMap (fun e =>
    (s.seqRec f (seqRecord (seSeq e))).pools)).dedup

/-- Ask a pool for its free slots (R309). -/
def State.queryPool (s : State) (f : Nat) (src : Source) (pool : Nat) : State :=
  if poolWafer pool = s.ownWafer then
    let c := s.cairns
    { s with cairns := { c with reqs := c.reqs ++ [⟨c.nextReq, f, pool, src, none⟩],
                                nextReq := c.nextReq + 1 } }
  else s.send (.pool (poolWafer pool) (poolField pool) 1 [])

/-- STEP (R307–R309): validation, then the queries. -/
def State.cStep (s : State) (f : Nat) (t : EngTask) : State :=
  let src := s.taskSource f unitCairn t
  match s.bulkRead src (cAddr t.desc) (32 * cCount t.desc) with
  | (s1, ⟨_, some e⟩) => s1.cFail f t e
  | (s1, ⟨tbl, none⟩) =>
    match (List.range (cCount t.desc)).find? (fun i => decide (s1.stepReason f tbl i ≠ 0)) with
    | some i => s1.cSettle f t stStepInvalid (i + s1.stepReason f tbl i * 2 ^ 12)
    | none =>
      match s1.stepPools f tbl with
      | [] => s1.stepDecide f t tbl []
      | pools =>
        let s2 := s1.modCairn f (fun c => { c with job := some ⟨t.serial, tbl, pools, [], []⟩ })
        pools.foldl (fun x p => x.queryPool f src p) s2

/-! ### APPEND, R311–R313 -/

/-- Entry `i` of a step result: START, LEN and whether it was admitted. -/
def resEntry (res : List Byte) (i : Nat) : Nat × Nat × Bool :=
  let e := (res.drop (64 + 32 * i)).take 32
  (bitField e 0 25, bitField e 25 25, bitField e 50 2 == 0)

/-- The first reason one entry of an APPEND is refused: status and detail. -/
def State.appendCheck (s : State) (f l id start len : Nat) : Option (Nat × Nat) :=
  let r := seqRecord id
  if !s.seqLive f id then some (stSeqStale, id)
  else if (s.seqRec f r).damaged then some (stSeqDamaged, idPage id (s.firstLost f r))
  else if s.writtenLen f r l < start then some (stRange, idPage id start)
  else
    let pages := (List.range (pagesOf len)).drop (start / 64)
    match pages.find? (fun p => (s.pageEntry f r l p).shared) with
    | some p => some (stSharedPage, idPage id p)
    | none =>
      match pages.find? (fun p => (s.pageEntry f r l p).spilled) with
      | some p => some (stSpilled, idPage id p)
      | none => none

/-- The scale a first APPEND fixes for a head (R312), with whether it was adjusted. -/
def headScale (q : Nat) (headroom : Val) (m : Val) : Nat × Bool :=
  let x := if m.isZero then Val.fin false 1 0 else m
  let c := fp32.pack false ((x.mul headroom).div (Val.ofInt q))
  if !(fp32.unpack c).finite then (0x7F7FFFFF, true)
  else if c < 0x00800000 then (0x00800000, true)
  else (c, false)

/-- The largest finite magnitude of a list of values. -/
def maxAbs (l : List Val) : Val :=
  l.foldl (fun m v => if v.finite && Val.lt m v.abs then v.abs else m) (.fin false 0 0)

/-- Elements a page stores, with clamps and non-finite stores (R216). -/
structure Stored where
  code : Nat
  clamp : Bool
  nonfinite : Bool

def storeElem (fmt : Nat) (scale : Val) (v : Val) : Stored :=
  if fmt = 1 then ⟨bf16.pack false (rne32 v), false, false⟩
  else if fmt = 3 then ⟨e4m3.pack false (rne32 v), false, false⟩
  else
    let q : Int := if fmt = 0x30 then 127 else 7
    if !v.finite then ⟨0, false, true⟩
    else
      let i := (v.div scale).toInt .rne
      let c := max (-q) (min i q)
      ⟨tcode (if fmt = 0x30 then 8 else 4) c, decide (c ≠ i), false⟩

/-- The bytes of a row of stored elements. -/
def storedBytes (fmt : Nat) : List Stored → List Byte
  | a :: b :: r =>
    if fmt = 0x31 then leBytes 1 (a.code + 16 * b.code) ++ storedBytes fmt r
    else
      let n := if fmt = 1 then 2 else 1
      leBytes n a.code ++ leBytes n b.code ++ storedBytes fmt r
  | [a] => leBytes (if fmt = 1 then 2 else 1) a.code
  | [] => []

/-- Write the rows `rows` (each H × D values) of positions from `pos` in the slot's page, fixing the
scales of an unscaled slot first (R312). -/
def State.writeSlot (s : State) (f : Nat) (src : Source) (h pos : Nat) (rows : List (List Val)) :
    State × Option (Nat × AccStatus) :=
  let fmt := s.crnF f
  let dim := s.crnD f
  let heads := s.crnH f
  let kvInt := decide (fmt = 0x30 ∨ fmt = 0x31)
  match s.bulkRead src (s.metaAddr f h) 128 with
  | (s1, ⟨_, some e⟩) => (s1, some e)
  | (s1, ⟨m, none⟩) =>
    let scaled := bitField m 32 1 == 1
    let headroom := bf16.unpack (s1.getF RF.CRN_GEOM_HEADROOM f 0)
    let fresh := (List.range heads).map (fun hd =>
      headScale (if fmt = 0x30 then 127 else 7) headroom
        (maxAbs (rows.flatMap (fun r => (r.drop (hd * dim)).take dim))))
    let scales := if scaled then (List.range heads).map (fun hd => (leField m (64 + 4 * hd) 4, false))
      else fresh
    let (s2, err) := if kvInt ∧ !scaled then
        let (x, e1) := s1.bulkWrite src (s1.metaAddr f h + 64) (fresh.flatMap (fun c => leBytes 4 c.1))
        match e1 with
        | some e => (x, some e)
        | none => x.bulkWrite src (x.metaAddr f h + 4) [1#8]
      else (s1, none)
    match err with
    | some e => (s2, some e)
    | none =>
      let cells := rows.map (fun r => (List.range r.length).map (fun i =>
        storeElem fmt (fp32.unpack ((scales.getD (i / dim) (0, false)).1)) (r.getD i .nan)))
      let adjusted := if kvInt ∧ !scaled then (scales.filter (·.2)).length else 0
      let s3 := s2.addSat RF.CRN_CLAMPS_CLAMPS f 0 ((cells.flatten.filter (·.clamp)).length + adjusted)
        |>.addSat RF.CRN_CLAMPS_NONFINITE f 0 ((cells.flatten.filter (·.nonfinite)).length)
      s3.bulkWrite src (s3.slotAddr f h + pos % 64 * s3.crnRow f) (cells.flatMap (storedBytes fmt))

/-- Write positions `pos` to `len - 1` page by page; FILL rises to what was written. -/
def State.appendPages (s : State) (f : Nat) (src : Source) (r l len : Nat) :
    Nat → Nat → List (List Val) → List (List Val) → State × Option (Nat × AccStatus)
  | 0, _, _, _ => (s, none)
  | fuel + 1, pos, ks, vs =>
    if len ≤ pos then (s, none)
    else
      let page := pos / 64
      let n := min (64 - pos % 64) (len - pos)
      let e := s.pageEntry f r l page
      match s.writeSlot f src e.k pos (ks.take n) with
      | (s1, some x) => (s1, some x)
      | (s1, none) =>
        match s1.writeSlot f src e.v pos (vs.take n) with
        | (s2, some x) => (s2, some x)
        | (s2, none) =>
          let s3 := s2.setPageEntry f r l page { e with fill := max e.fill (pos % 64 + n) }
          s3.appendPages f src r l len fuel (pos + n) (ks.drop n) (vs.drop n)

/-- Write every admitted entry. -/
def State.appendAll (s : State) (f : Nat) (src : Source) (l : Nat) :
    List (Nat × Nat × Nat) → List (List Val) → List (List Val) → State × Option (Nat × AccStatus)
  | [], _, _ => (s, none)
  | (id, start, len) :: r, ks, vs =>
    let n := len - start
    match s.appendPages f src (seqRecord id) l len (n + 1) start (ks.take n) (vs.take n) with
    | (s1, some e) => (s1, some e)
    | (s1, none) => s1.appendAll f src l r (ks.drop n) (vs.drop n)

/-- Staging rows as values. -/
def stagingRows (fmt width n : Nat) (b : List Byte) : List (List Val) :=
  let w := elemBytes fmt
  (List.range n).map (fun i => (List.range width).map (fun j =>
    (fmtOf fmt).unpack (leField b ((i * width + j) * w) w)))

/-- The entries of a result with the sequences the cairn remembers for it. -/
def admitted (res : List Byte) (ids : List Nat) : List (Nat × Nat × Nat) :=
  (List.range (bitField res 16 16)).filterMap (fun i =>
    let (a, b, ok) := resEntry res i
    if ok then some (ids.getD i 0, a, b) else none)

/-- APPEND (R311). -/
def State.cAppend (s : State) (f : Nat) (t : EngTask) : State :=
  let src := s.taskSource f unitCairn t
  let d := t.desc
  let l := cLayer d
  match s.bulkRead src (cAddr d) 64 with
  | (s1, ⟨_, some e⟩) => s1.cFail f t e
  | (s1, ⟨h, none⟩) =>
    match s1.bulkRead src (cAddr d + 64) (32 * bitField h 16 16) with
    | (s2, ⟨_, some e⟩) => s2.cFail f t e
    | (s2, ⟨b, none⟩) =>
      let es := admitted (h ++ b) (NMap.look (s2.cairn f).results [] (cAddr d))
      match es.findSome? (fun e => s2.appendCheck f l e.1 e.2.1 e.2.2) with
      | some x => s2.cSettle f t x.1 x.2
      | none =>
        let n := (es.map (fun e => e.2.2 - e.2.1)).sum
        let width := s2.crnH f * s2.crnD f
        let bytes := n * width * elemBytes (cArg d)
        match s2.readAll src [(cAddr2 d, bytes), (cAddr2 d + bytes, bytes)] with
        | (s3, .error e) => s3.cFail f t e
        | (s3, .ok kv) =>
          match s3.appendAll f src l es (stagingRows (cArg d) width n (kv.getD 0 []))
              (stagingRows (cArg d) width n (kv.getD 1 [])) with
          | (s4, some e) => s4.cFail f t e
          | (s4, none) => s4.cOk f t

/-! ### GATHER, R314–R316 -/

/-- The gather list of one head. -/
def State.gatherList (s : State) (f : Nat) (src : Source) (k r l head : Nat) (isV : Bool) :
    State × Except (Nat × AccStatus) (List Byte) :=
  let pages := List.range (pagesOf (s.seqRec f r).len)
  let fmt := s.crnF f
  let hb := kvBytes fmt (head * s.crnD f)
  let kvInt := decide (fmt = 0x30 ∨ fmt = 0x31)
  let header := leBytes 4 (fmt + head * 2 ^ 6 + (s.crnH f - 1) * 2 ^ 10 +
    (s.crnD f / 32 - 1) * 2 ^ 14) ++ leBytes 4 pages.length ++ leBytes 4 (s.crnRow f) ++
    List.replicate 52 0#8
  let handles := pages.map (fun p => let e := s.pageEntry f r l p; if isV then e.v else e.k)
  let metas := if kvInt then handles.map (fun h => (s.metaAddr f h, 128)) else []
  match s.readAll src metas with
  | (s1, .error e) => (s1, .error e)
  | (s1, .ok ms) =>
    (s1, .ok (header ++ pages.flatMap (fun p =>
      let e := s1.pageEntry f r l p
      let h := handles.getD p noHandle
      let m := ms.getD p []
      let scale := if !kvInt then 0x3F800000
        else if bitField m 32 1 = 1 then leField m (64 + 4 * head) 4
        else (Config.freeWord k p).toNat % 2 ^ 32
      leBytes 8 (s1.slotAddr f h + hb + e.fill * 2 ^ 57) ++ leBytes 4 scale ++ leBytes 4 0)))

/-- The lists of several heads, back to back, each padded to 64 bytes; the padding is not stated. -/
def State.gatherLists (s : State) (f : Nat) (src : Source) (r l : Nat) (isV : Bool) :
    List Nat → State × Except (Nat × AccStatus) (List Byte)
  | [] => (s, .ok [])
  | h :: rest =>
    let (k, s0) := s.fresh
    match s0.gatherList f src k r l h isV with
    | (s1, .error e) => (s1, .error e)
    | (s1, .ok b) =>
      match s1.gatherLists f src r l isV rest with
      | (s2, .error e) => (s2, .error e)
      | (s2, .ok q) =>
        (s2, .ok (b ++ (List.range (roundUp b.length 64 - b.length)).map (Config.freeByte k) ++ q))

/-- GATHER (R314–R316). (Mark: DESIGN CHOICE, log 86.) -/
def State.cGather (s : State) (f : Nat) (t : EngTask) : State :=
  let src := s.taskSource f unitCairn t
  let d := t.desc
  let l := cLayer d
  let id := cSeq d
  s.onSeq f t fun r s0 =>
    let pages := List.range (pagesOf (s0.seqRec f r).len)
    if (s0.seqRec f r).damaged then s0.cSettle f t stSeqDamaged (idPage id (s0.firstLost f r))
    else
      match pages.find? (fun p => (s0.pageEntry f r l p).spilled || (s0.pageEntry f r l p).lost) with
      | some p =>
        s0.cSettle f t (if (s0.pageEntry f r l p).spilled then stSpilled else stSeqDamaged) (idPage id p)
      | none =>
        if (cArg d).testBit 5 then
          let w := s0.writtenLen f r l
          if w = 0 then s0.cSettle f t stRange id
          else
            match s0.bulkRead src (cAddr2 d) 32 with
            | (s1, ⟨_, some e⟩) => s1.cFail f t e
            | (s1, ⟨e, none⟩) =>
              let v := leField e 24 3
              let e' := e.take 24 ++ leBytes 3 (v - v % 2 ^ 20 + (min w (2 ^ 20) - 1)) ++ e.drop 27
              match s1.bulkWrite src (cAddr d) e' with
              | (s2, some x) => s2.cFail f t x
              | (s2, none) => s2.cOk f t
        else
          let heads := if (cArg d).testBit 6 then List.range (s0.crnH f) else [cArg d % 16]
          match s0.gatherLists f src r l ((cArg d).testBit 4) heads with
          | (s1, .error x) => s1.cFail f t x
          | (s1, .ok b) =>
            match s1.bulkWrite src (cAddr d) b with
            | (s2, some x) => s2.cFail f t x
            | (s2, none) => s2.cOk f t

/-! ### SPILL and RECALL, R317 and R318 -/

/-- The pairs a SPILL or RECALL names, in ascending page and layer. -/
def State.namedPairs (s : State) (f : Nat) (d : List Byte) : List (Nat × Nat) :=
  let layers := if cLayer d = 0xFF then List.range (s.crnL f) else [cLayer d]
  ((List.range (cCount d)).map (cArg d + ·)).flatMap (fun p => layers.map (fun l => (l, p)))

/-- Granary indices of a cairn not in use. -/
def State.freeGran (s : State) (f : Nat) : List Nat :=
  ((List.range (s.getF RF.CRN_GRAN_PAIRS_PAIRS f 0)).map (s.getF RF.CRN_GRAN_BASE_PAIR f 0 + ·)).filter
    (fun g => !(s.cairn f).gran.contains g)

/-- The first check a SPILL fails (R317). -/
def State.spillCheck (s : State) (f r id : Nat) (l : List (Nat × Nat)) : Option (Nat × Nat) :=
  l.findSome? (fun x =>
    let e := s.pageEntry f r x.1 x.2
    if pagesOf (s.seqRec f r).len ≤ x.2 then some (stRange, idPage id (64 * x.2))
    else if e.lost then some (stSeqDamaged, idPage id x.2)
    else if e.spilled then some (stSpilled, idPage id x.2)
    else if e.shared then some (stSharedPage, idPage id x.2)
    else if e.fill < 64 then some (stRange, idPage id (64 * x.2 + e.fill))
    else none)

/-- Read the pairs of a SPILL and send their writes; each takes a granary index. -/
def State.spillSend (s : State) (f : Nat) (t : EngTask) (r : Nat) (src : Source) :
    List (Nat × Nat) → State
  | [] => s
  | x :: rest =>
    let e := s.pageEntry f r x.1 x.2
    match s.freeGran f with
    | [] =>
      s.granFail f t .addrInvalid (s.getF RF.CRN_GRAN_BASE_PAIR f 0 + s.getF RF.CRN_GRAN_PAIRS_PAIRS f 0)
    | l =>
      let (k, s1) := s.fresh
      let g := pickFree k l
      match s1.granBlocked g with
      | some st => s1.granFail f t st g
      | none =>
        match s1.readAll src [(s1.slotAddr f e.k, s1.slotSize f), (s1.slotAddr f e.v, s1.slotSize f),
            (s1.metaAddr f e.k + 4, 124), (s1.metaAddr f e.v + 4, 124)] with
        | (s2, .error y) => (s2.cairnRollback f).cFail f t y
        | (s2, .ok b) =>
          let p : CairnPair := ⟨r, x.1, x.2, 0, e.k, e.v, g, false, none⟩
          let s3 := s2.modCairn f (fun c => { c with
            gran := setInsert g c.gran,
            spillMeta := c.spillMeta.put [] g (b.getD 2 [] ++ b.getD 3 []),
            job := c.job.map (fun j => { j with pairs := j.pairs ++ [p] }) })
          (s3.send (.granary true g (b.getD 0 [] ++ b.getD 1 []))).spillSend f t r src rest

/-- SPILL (R317); a replay starts from the first pair not yet moved (R612). -/
def State.cSpill (s : State) (f : Nat) (t : EngTask) : State :=
  let id := cSeq t.desc
  s.onSeq f t fun r s0 =>
    let named := s0.namedPairs f t.desc
    let l := if (s0.engine f unitCairn).replaying then
      named.filter (fun x => !(s0.pageEntry f r x.1 x.2).spilled) else named
    if (s0.seqRec f r).damaged then s0.cSettle f t stSeqDamaged (idPage id (s0.firstLost f r))
    else
      match s0.spillCheck f r id l with
      | some x => s0.cSettle f t x.1 x.2
      | none => (s0.modCairn f (fun c => { c with job := some ⟨t.serial, [], [], [], []⟩ })).spillSend f t
          r (s0.taskSource f unitCairn t) l

/-- RECALL (R318). -/
def State.cRecall (s : State) (f : Nat) (t : EngTask) : State :=
  let id := cSeq t.desc
  let src := s.taskSource f unitCairn t
  s.onSeq f t fun r s0 =>
    let l := s0.namedPairs f t.desc
    if (s0.seqRec f r).damaged then s0.cSettle f t stSeqDamaged (idPage id (s0.firstLost f r))
    else
      match l.find? (fun x => decide (pagesOf (s0.seqRec f r).len ≤ x.2)) with
      | some x => s0.cSettle f t stRange (idPage id (64 * x.2))
      | none =>
        let want : List CairnPair := (l.filter (fun x => (s0.pageEntry f r x.1 x.2).spilled)).map
          (fun x => ⟨r, x.1, x.2, 0, 0, 0, (s0.pageEntry f r x.1 x.2).gran, true, none⟩)
        let (k, s1) := s0.fresh
        let avail := (s1.seqRec f r).pools.foldl (fun m p => NMap.put m 0 p
          (if poolWafer p = s1.ownWafer then
            (if s1.poolAdmits src (poolField p) then (s1.freeSlots (poolField p)).length else 0)
          else Config.freeNat k p)) []
        let plan := s1.planPairs f avail want
        match plan.pool with
        | some g => s1.cSettle f t stNoRoom (noRoomDetail plan.short 0 g false)
        | none =>
          match s1.allocPairs f src plan.pairs with
          | none => s1.cSettle f t stNoRoom (noRoomDetail (2 * want.length) 0
              ((want.map (·.pool)).headD 0) false)
          | some ([], s2) => s2.cOk f t
          | some (pairs, s2) => s2.startRecall f t [] pairs

/-! ### The commands -/

/-- CRN_ENABLE (R294). -/
def execCrnEnable (f : FieldId) (s : State) : Out := .next (s.crnEnable f.val)

/-- CRN_DISABLE (R294). -/
def execCrnDisable (f : FieldId) (s : State) : Out := .next (s.crnDisable f.val)

/-- CRN_NOP (R299): a NOP, or a reserved opcode, whose body is checked; only a NOP runs while ENABLE
is 0. -/
def execCrnNop (f : FieldId) (s : State) : Out :=
  .next (
    if !s.cMayStart f.val (fun op => decide (op = 0 ∨ 9 < op)) then s
    else
      match s.startTask f.val unitCairn with
      | none => s
      | some (t, s1) =>
        if descOpcode t.desc ≠ 0 ∧ !s1.flag RF.CRN_CTL_ENABLE f.val 0 then
          s1.settleOpen f.val unitCairn t.serial stNotReady
        else
          match s1.cBodyReason f.val t.desc with
          | 0 => s1.cOk f.val t
          | r => s1.cSettle f.val t stBodyInvalid r)

/-- CRN_OPEN (R301). -/
def execCrnOpen (f : FieldId) (s : State) : Out :=
  .next (s.cStart f.val (fun op => decide (op = 1)) (fun t s1 => s1.cOpen f.val t))

/-- CRN_CLOSE (R304). -/
def execCrnClose (f : FieldId) (s : State) : Out :=
  .next (s.cStart f.val (fun op => decide (op = 2)) (fun t s1 =>
    s1.onSeq f.val t (fun r s2 => (s2.closeSeq f.val r).cOk f.val t)))

/-- CRN_FORK (R302). -/
def execCrnFork (f : FieldId) (s : State) : Out :=
  .next (s.cStart f.val (fun op => decide (op = 3)) (fun t s1 => s1.cFork f.val t))

/-- CRN_STEP (R307–R309). -/
def execCrnStep (f : FieldId) (s : State) : Out :=
  .next (s.cStart f.val (fun op => decide (op = 4)) (fun t s1 => s1.cStep f.val t))

/-- POOL_QUERY_REPLY (R309): the answer of the pool of field `g` on wafer `w` reaches the STEP of
cairn `f`; with the last one the step allocates and commits or rejects. (Mark: DESIGN CHOICE, log 82.) -/
def execPoolQueryReply (f : FieldId) (w : WaferId) (g : FieldId) (a : PoolAnswer) (s : State) : Out :=
  .next (
    let pool := poolName w.val g.val
    match (s.cairn f.val).job, (s.engine f.val unitCairn).running with
    | some j, t :: _ =>
      if !s.unitRuns f.val unitCairn || !j.waiting.contains pool || decide (j.task ≠ t.serial) then s
      else
        let own := s.cairns.reqs.find? (fun q =>
          q.holder == f.val && q.pool == pool && q.answer.isSome)
        let ans : Option (Nat × State) := match a, own with
          | .own, some q => if w.val = s.ownWafer then
              some (q.answer.getD 0, { s with cairns := { s.cairns with
                reqs := s.cairns.reqs.filter (fun x => x.id != q.id) } }) else none
          | .own, none => none
          | .denied, _ => if w.val = s.ownWafer then none else some (0, s)
          | .foreign n base slots, _ => if w.val = s.ownWafer then none else
              some (n, { s with cairns := { s.cairns with
                remote := s.cairns.remote.put (0, 0) pool (base, slots) } })
        match ans with
        | none => s
        | some (n, s1) =>
          let left := j.waiting.filter (fun p => p != pool)
          let avail := j.avail.put 0 pool n
          if left.isEmpty then s1.stepDecide f.val t j.table avail
          else s1.modCairn f.val (fun c => { c with
            job := some { j with waiting := left, avail := avail } })
    | _, _ => s)

/-- POOL_AGENT_REQUEST (R292, R293): the agent of field `f` serves one request at once: the oldest
unanswered query of a cairn of this wafer, or a request of a holder elsewhere. -/
def execPoolAgentRequest (f : FieldId) (r : PoolRef) (s : State) : Out :=
  .next (
    let here := poolName s.ownWafer f.val
    if s.stopped f.val || s.halted then s
    else
      match r with
      | .own id =>
        match s.cairns.reqs.find? (fun q => q.pool == here && q.answer.isNone) with
        | none => s
        | some q =>
          if q.id ≠ id then s
          else
            let n := if s.poolAdmits q.src f.val then (s.freeSlots f.val).length else 0
            let l := s.cairns.reqs.map (fun (x : PoolReq) =>
              if x.id = id then { x with answer := some n } else x)
            { s with cairns := { s.cairns with reqs := l } }
      | .foreign src holder op =>
        let w := src.wafer.val
        if w = s.ownWafer then s
        else if !s.poolAdmits src f.val then s.send (.pool w holder.val 0x10 [AccStatus.accessDenied.code])
        else
          match op with
          | .query => s.send (.pool w holder.val 0x11 [(s.freeSlots f.val).length,
              s.getF RF.CRN_POOL_BASE_BASE f.val 0 * 65536, s.getF RF.CRN_POOL_SLOTS_SLOTS f.val 0])
          | .alloc n =>
            match s.allocSlots f.val w holder.val n with
            | none => s.send (.pool w holder.val 0x12 [])
            | some (l, s1) => s1.send (.pool w holder.val 0x12 l)
          | .release l => l.foldl (fun t i => t.dropRef (mkHandle t.ownWafer f.val i)) s)

/-- CRN_APPEND (R311). -/
def execCrnAppend (f : FieldId) (s : State) : Out :=
  .next (s.cStart f.val (fun op => decide (op = 5)) (fun t s1 => s1.cAppend f.val t))

/-- CRN_GATHER (R314). -/
def execCrnGather (f : FieldId) (s : State) : Out :=
  .next (s.cStart f.val (fun op => decide (op = 6)) (fun t s1 => s1.cGather f.val t))

/-- CRN_TRUNCATE (R305). -/
def execCrnTruncate (f : FieldId) (s : State) : Out :=
  .next (s.cStart f.val (fun op => decide (op = 7)) (fun t s1 => s1.cTruncate f.val t))

/-- CRN_SPILL (R317). -/
def execCrnSpill (f : FieldId) (s : State) : Out :=
  .next (s.cStart f.val (fun op => decide (op = 8)) (fun t s1 => s1.cSpill f.val t))

/-- The job and task of a cairn that waits for the granary on pair `pair`. -/
def State.granJob (s : State) (f pair : Nat) : Option (EngTask × CairnJob × CairnPair) :=
  match (s.cairn f).job, (s.engine f unitCairn).running with
  | some j, t :: _ =>
    if j.task = t.serial ∧ t.status.isNone then
      match j.pairs.find? (fun p => p.gran == pair && p.data.isNone &&
          (p.back || descOpcode t.desc == 8)) with
      | some p => some (t, j, p)
      | none => none
    else none
  | _, _ => none

/-- GRANARY_WRITE_ACK (R317): the write of a pair is acknowledged, or failed with POISON. -/
def execGranaryWriteAck (f : FieldId) (pair : BitVec 32) (bad : Bool) (s : State) : Out :=
  .next (
    match s.granJob f.val pair.toNat with
    | none => s
    | some (t, j, p) =>
      if !s.unitRuns f.val unitCairn || decide (descOpcode t.desc ≠ 8) then s
      else if bad then s.granFail f.val t .poison p.gran
      else
        let e := s.pageEntry f.val p.record p.layer p.page
        let s1 := (s.dropRefs [p.k, p.v]).setPageEntry f.val p.record p.layer p.page
          { e with k := noHandle, v := noHandle, spilled := true, gran := p.gran }
        let s2 := (s1.noteSpilled f.val p.record).addWrap RF.HBM_GRAN_MOVED_SPILLED 0 0 1
        let left := j.pairs.filter (fun x => x.gran != p.gran)
        if left.isEmpty then (s2.modCairn f.val (fun c => { c with job := none })).cOk f.val t
        else s2.modCairn f.val (fun c => { c with job := some { j with pairs := left } }))

/-- CRN_RECALL (R318). -/
def execCrnRecall (f : FieldId) (s : State) : Out :=
  .next (s.cStart f.val (fun op => decide (op = 9)) (fun t s1 => s1.cRecall f.val t))

/-- A pair that reads back poisoned becomes LOST, its sequence DAMAGED, and the task ends (R318,
R414). -/
def State.recallPoison (s : State) (f : Nat) (t : EngTask) (p : CairnPair) : State :=
  let s1 := s.granFail f t .poison p.gran
  let e := s1.pageEntry f p.record p.layer p.page
  ((s1.setPageEntry f p.record p.layer p.page { e with spilled := false, lost := true }).setDamaged f
    p.record true).noteSpilled f p.record

/-- GRANARY_READ_DONE (R318): the data of a pair returns, or it reads back poisoned.  When every pair
has returned, the pairs take their places and the task goes on. -/
def execGranaryReadDone (f : FieldId) (pair : BitVec 32) (data : List Byte) (bad : Bool) (s : State) :
    Out :=
  if !bad && decide (data.length ≠ 2 * s.slotSize f.val) then .fault (.malformedOperand "GRANARY_READ_DONE")
  else .next (
    match s.granJob f.val pair.toNat with
    | none => s
    | some (t, j, p) =>
      if !s.unitRuns f.val unitCairn || decide (descOpcode t.desc = 8) then s
      else if bad then s.recallPoison f.val t p
      else
        let pairs := j.pairs.map (fun x => if x.gran = p.gran ∧ x.back then
          { x with data := some data } else x)
        if pairs.all (fun x => !x.back || x.data.isSome) then
          if descOpcode t.desc = 4 then s.stepCommit f.val t j.table pairs
          else
            let src := s.taskSource f.val unitCairn t
            ((pairs.foldl (fun x q => x.recallPlace f.val src q) s).modCairn f.val
              (fun c => { c with job := none })).cOk f.val t
        else s.modCairn f.val (fun c => { c with job := some { j with pairs := pairs } }))

/-- GRANARY_TIMEOUT (R414): no completion in time; the task ends with GRANARY. -/
def execGranaryTimeout (f : FieldId) (pair : BitVec 32) (s : State) : Out :=
  .next (
    match s.granJob f.val pair.toNat with
    | none => s
    | some (t, _, p) =>
      if !s.unitRuns f.val unitCairn then s else s.granFail f.val t .timeout p.gran)

/-- CRN_TASK_COMPLETE (R131): the task whose outcome is decided completes. -/
def execCrnTaskComplete (f : FieldId) (cycles : Nat) (s : State) : Out :=
  .next (
    if !s.unitRuns f.val unitCairn then s
    else
      match s.completeOldest f.val unitCairn cycles with
      | none => s
      | some (_, _, s1) => s1)

/-- CRN_RECLAIM.GO (R321). -/
def State.reclaimGo (s : State) (f w g : Nat) : State :=
  if s.flag RF.CRN_RECLAIM_BUSY f 0 then s
  else s.setF RF.CRN_RECLAIM_WAFER f 0 w |>.setF RF.CRN_RECLAIM_FIELD f 0 g
    |>.setFlag RF.CRN_RECLAIM_BUSY f 0 true

/-- CRN_RECLAIM_GO (R321). -/
def execCrnReclaimGo (f : FieldId) (w : WaferId) (g : BitVec 7) (s : State) : Out :=
  .next (s.reclaimGo f.val w.val g.toNat)

/-- CRN_RECLAIM_DONE (R321): every slot tagged with the lost holder is freed and counted. -/
def execCrnReclaimDone (f : FieldId) (s : State) : Out :=
  .next (
    if !s.flag RF.CRN_RECLAIM_BUSY f.val 0 || s.stopped f.val then s
    else
      let tag := s.getF RF.CRN_RECLAIM_WAFER f.val 0 + s.getF RF.CRN_RECLAIM_FIELD f.val 0 * 16
      let (base, slots) := s.poolOf (poolName s.ownWafer f.val)
      let l := (List.range slots).filter (fun i => decide (s.slotRefs f.val i ≠ 0) &&
        decide (leNat (s.memRead f.val 0 (base + slots * s.slotSize f.val + i * 128 + 2) 2) % 2048 = tag))
      let s1 := l.foldl (fun t i => t.metaPut f.val i 0 (leBytes 2 0)) s
      (s1.addSat RF.CRN_ORPHAN_FREED_COUNT f.val 0 l.length).setFlag RF.CRN_RECLAIM_BUSY f.val 0 false)

end Sys2Proof.Machine
end

