-- ==== Sys2Proof/Machine/Thread.lean ====
section
/-! DEFINITION. Hardware threads: registers and CSRs, traps and the fault log (R116, R134), PMP
(R102), the end of a thread (R113), and the answers a waiting thread receives. -/

namespace Sys2Proof.Machine

/-- A free hardware thread. (Mark: DESIGN CHOICE, log 17.) -/
def freeThread : Thread :=
  { st := .free, priv := .u, pc := 0#64, x := [], f := [], csr := [], reservation := none,
    storeFaults := [], sheaf := none, index := 0, pause := 0, waitRd := 0, waitLen := 4,
    fencing := false, waitDesc := [] }

def threadKey (f t : Nat) : Nat := f * 128 + t

/-- (Mark: DESIGN CHOICE, log 17.) -/
def State.thread (s : State) (f t : Nat) : Thread := s.crofters.threads.look freeThread (threadKey f t)

def State.setThread (s : State) (f t : Nat) (x : Thread) : State :=
  { s with crofters := { s.crofters with
      threads := s.crofters.threads.put freeThread (threadKey f t) x } }

def State.modThread (s : State) (f t : Nat) (g : Thread → Thread) : State :=
  s.setThread f t (g (s.thread f t))

/-- x0 reads zero. -/
def Thread.xr (t : Thread) (r : XReg) : Word := if r.val = 0 then 0#64 else t.x.look 0#64 r.val

/-- A write of x0 is discarded. -/
def Thread.setX (t : Thread) (r : XReg) (v : Word) : Thread :=
  if r.val = 0 then t else { t with x := t.x.put 0#64 r.val v }

def Thread.fr (t : Thread) (r : XReg) : Word := t.f.look 0#64 r.val

def Thread.setFr (t : Thread) (r : XReg) (v : Word) : Thread := { t with f := t.f.put 0#64 r.val v }

def Thread.csrv (t : Thread) (n : Nat) : Word := t.csr.look 0#64 n

def Thread.setCsr (t : Thread) (n : Nat) (v : Word) : Thread :=
  { t with csr := t.csr.put 0#64 n v }

def lenBytes : InstrLen → Nat
  | .two => 2
  | .four => 4

/-- pc past an instruction. -/
def Thread.advance (t : Thread) (n : Nat) : Thread := { t with pc := t.pc + BitVec.ofNat 64 n }

/-! ### CSR numbers -/

def csrFcsr : Nat := 0x003
def csrMstatus : Nat := 0x300
def csrMtvec : Nat := 0x305
def csrMepc : Nat := 0x341
def csrMcause : Nat := 0x342
def csrMtval : Nat := 0x343
def csrPmpcfg0 : Nat := 0x3A0
def csrPmpaddr (n : Nat) : Nat := 0x3B0 + n
def csrXtastat : Nat := 0x8C0
def csrXtctl : Nat := 0x8C1
def csrInstret : Nat := 0xB02

/-- Does the thread issue now?  Its field runs (R139), its crofter is in service, and it is READY. -/
def State.threadRuns (s : State) (f t : Nat) : Bool :=
  s.fieldRuns f && decide ((s.thread f t).st = .ready) &&
    !s.resets.crofters.contains (f, t / 8)

/-- One more instruction retired (CRF_INST_COUNT, instret). (Mark: PRESUMED, log 40.) -/
def State.retire (s : State) (f t : Nat) : State :=
  (s.addWrap RF.CRF_INST_COUNT_COUNT f 0 1).modThread f t
    (fun x => x.setCsr csrInstret (x.csrv csrInstret + 1#64))

/-- Retire an instruction of length `n` that wrote the thread by `g`. (Mark: PRESUMED, log 40.) -/
def State.retireWith (s : State) (f t n : Nat) (g : Thread → Thread) : State :=
  (s.modThread f t (fun x => (g x).advance n)).retire f t

/-! ### Traps -/

/-- xtastat on a non-OK access status: FAIL and CODE, MORE when FAIL was set (R105, R132). -/
def Thread.noteFail (t : Thread) (code : Nat) : Thread :=
  let v := t.csrv csrXtastat
  let more := if bit v 5 then putBits v 6 1 1 else v
  t.setCsr csrXtastat (putBits (putBits more 5 1 1) 0 4 code)

/-- FRESH is sticky (R105, R106). -/
def Thread.noteFresh (t : Thread) (fresh : Bool) : Thread :=
  if fresh then t.setCsr csrXtastat (putBits (t.csrv csrXtastat) 4 1 1) else t

/-- The sheaf id of a thread's sheaf, 0 without one. -/
def State.sheafIdOf (s : State) (serial : Option Nat) : Nat :=
  match serial with
  | none => 0
  | some n => match s.seq.sheaves.find? (fun x => x.serial == n) with
    | some x => leField x.raw 0 8
    | none => 0

/-- Write a record to the field's fault log (R134, R142). -/
def State.faultLog (s : State) (f t cause : Nat) (tval : Word) : State :=
  let x := s.thread f t
  let k := s.getF RF.CRF_FAULT_HEAD_HEAD f 0
  let s1 := if bit (s.rd .CRF_FAULTk f (k * 4)) 25 then s.setFlag RF.CRF_FAULT_HEAD_OVERFLOW f 0 true
            else s
  let par := match s.parishOf f with | some p => p.val | none => 0
  let w0 := t % 128 + par * 2 ^ 7 + cause % 64 * 2 ^ 12 + bits (x.csrv csrXtastat) 0 7 * 2 ^ 18 +
    2 ^ 25 + s.sheafIdOf x.sheaf % 2 ^ 32 * 2 ^ 32
  let w3 := x.index % 2 ^ 32 + s.fabricTime % 2 ^ 32 * 2 ^ 32
  s1.wr .CRF_FAULTk f (k * 4) (BitVec.ofNat 64 w0) |>.wr .CRF_FAULTk f (k * 4 + 1) x.pc
    |>.wr .CRF_FAULTk f (k * 4 + 2) tval |>.wr .CRF_FAULTk f (k * 4 + 3) (BitVec.ofNat 64 w3)
    |>.setF RF.CRF_FAULT_HEAD_HEAD f 0 ((k + 1) % 16) |>.addSat RF.CRF_FAULT_HEAD_WRITTEN f 0 1

/-- Enter M mode at mtvec (R116): mepc, mcause, mtval and mstatus save the trap; a U-mode trap other
than ecall and breakpoint is logged first (R134). (Marks: DESIGN CHOICE, log 39; DEDUCED, log 44.) -/
def State.trap (s : State) (f t cause : Nat) (tval : Word) : State :=
  let x := s.thread f t
  let s1 := if x.priv = .u ∧ cause ≠ 8 ∧ cause ≠ 3 then s.faultLog f t cause tval else s
  s1.modThread f t fun y =>
    let ms := y.csrv csrMstatus
    let ms1 := putBits ms 7 1 (bits ms 3 1)
    let ms2 := putBits ms1 3 1 0
    let ms3 := putBits ms2 11 2 (if y.priv = .m then 3 else 0)
    let y1 := y.setCsr csrMepc y.pc |>.setCsr csrMcause (BitVec.ofNat 64 cause)
      |>.setCsr csrMtval tval |>.setCsr csrMstatus ms3
    { y1 with priv := .m, st := .ready, pc := (y.csrv csrMtvec) &&& ~~~3#64 }

/-- Causes of the standard exceptions used. -/
def causeFetchAccess : Nat := 1
def causeIllegal : Nat := 2
def causeBreak : Nat := 3
def causeLoadAlign : Nat := 4
def causeLoadAccess : Nat := 5
def causeStoreAlign : Nat := 6
def causeStoreAccess : Nat := 7
def causeEcallU : Nat := 8
def causeEcallM : Nat := 11
def causeStoreError : Nat := 24

/-- Illegal instruction. (Mark: DESIGN CHOICE, log 39.) -/
def State.illegal (s : State) (f t : Nat) (raw : Word) : State := s.trap f t causeIllegal raw

/-- A non-OK access of an instruction: xtastat records it and the thread traps (R132). -/
def State.accessTrap (s : State) (f t cause : Nat) (st : AccStatus) (addr : Word) : State :=
  (s.modThread f t (fun x => x.noteFail st.code)).trap f t cause addr

/-! ### PMP -/

/-- The range of PMP entry `i` in bytes, by its address mode; pmpaddr holds address bits [56:2]
(R102). -/
def Thread.pmpRange (t : Thread) (i : Nat) : Option (Nat × Nat) :=
  let cfg := bits (t.csrv csrPmpcfg0) (8 * i) 8
  let a := nbits (t.csrv (csrPmpaddr i)).toNat 0 55
  match nbits cfg 3 2 with
  | 0 => none
  | 1 =>
    let lo := if i = 0 then 0 else nbits (t.csrv (csrPmpaddr (i - 1))).toNat 0 55 * 4
    some (lo, a * 4)
  | 2 => some (a * 4, a * 4 + 4)
  | _ =>
    let ones := ((List.range 55).takeWhile (fun b => a.testBit b)).length
    let size := 2 ^ (ones + 3)
    some (a * 4 / size * size, a * 4 / size * size + size)

/-- Does PMP admit an access (`need` 1 read, 2 write, 4 execute)?  The lowest matching entry decides;
M mode passes entries that are not locked; U mode needs a match (R102, R810). -/
def Thread.pmpOk (t : Thread) (addr n need : Nat) : Bool :=
  let hit := (List.range 8).find? (fun i => match t.pmpRange i with
    | some (lo, hi) => decide (addr < hi) && decide (lo < addr + n)
    | none => false)
  match hit with
  | none => decide (t.priv = .m)
  | some i =>
    let cfg := bits (t.csrv csrPmpcfg0) (8 * i) 8
    let inside := match t.pmpRange i with
      | some (lo, hi) => decide (lo ≤ addr) && decide (addr + n ≤ hi)
      | none => false
    inside && ((decide (t.priv = .m) && !cfg.testBit 7) ||
      (List.range 3).all (fun b => !need.testBit b || cfg.testBit b))

/-- Effective addresses are 57 bits (R103). -/
def wideAddr (a : Word) : Bool := decide (bits a 57 7 ≠ 0)

/-! ### The end of a thread -/

/-- Account the end of one thread of a sheaf (R113, R185): its exit code, or its failure. -/
def State.threadEnded (s : State) (serial : Option Nat) (index exitCode : Nat)
    (failure : Option SheafFail) (lost : Bool) : State :=
  match serial with
  | none => s
  | some n =>
    s.modSheaf n fun x =>
      let left := x.threadsLeft - 1
      let own : Option SheafFail := match failure with
        | some y => some y
        | none => if exitCode ≠ 0 then some ⟨1, 0, index⟩ else none
      let fail := match x.fail, own with
        | some y, _ => some y
        | none, some y => if y.status ≤ 2 then some (x.unitFault.getD y) else some y
        | none, none => none
      { x with
        threadsLeft := left
        threadsFailed := x.threadsFailed + b2n lost
        exitCode := if x.exitCode = 0 then exitCode else x.exitCode
        fail := fail
        phase := if left = 0 then .ending else x.phase }

/-- A bell interval with nothing in it. -/
def quietBell : Bell := ⟨false, false, true, 0⟩

def State.modBell (s : State) (f : Nat) (g : Bell → Bell) : State :=
  { s with crofters := { s.crofters with
      bells := s.crofters.bells.put quietBell f (g (s.crofters.bells.look quietBell f)) } }

/-- Is the sink that of the thread? -/
def Sink.ofThread (k : Sink) (f t : Nat) : Bool :=
  match k with
  | .load g u _ _ => decide (g.val = f ∧ u.val = t)
  | .store g u => decide (g.val = f ∧ u.val = t)
  | .amo g u _ => decide (g.val = f ∧ u.val = t)
  | .sc g u _ => decide (g.val = f ∧ u.val = t)
  | _ => false

def WaitOwner.ofThread (w : WaitOwner) (f t : Nat) : Bool :=
  match w with
  | .thread g u _ => decide (g.val = f ∧ u.val = t)
  | _ => false

def WaiterKind.ofThread (w : WaiterKind) (f t : Nat) : Bool :=
  match w with
  | .wait o => o.ofThread f t
  | _ => false

/-- What a thread that ends leaves behind: its accesses stay outstanding for its sheaf, its waits and
its issues are withdrawn. -/
def State.detach (s : State) (f t : Nat) : State :=
  let sheaf := (s.thread f t).sheaf
  let fix := fun (r : Request) => if r.sink.ofThread f t then { r with sink := .ended sheaf } else r
  let s1 := { s with commons := { s.commons with
    reqs := s.commons.reqs.map fix,
    fills := s.commons.fills.map (fun (x : Fill) => { x with
      opener := fix x.opener, waiting := x.waiting.map fix }) } }
  let s2 := s1.dropWaiters (fun w => w.kind.ofThread f t)
  { s2 with
    tallies := { s2.tallies with reqs := s2.tallies.reqs.filter (fun r => !r.owner.ofThread f t) }
    crofters := { s2.crofters with
      issues := s2.crofters.issues.filter (fun r => !decide (r.field = f ∧ r.thread = t)) } }

/-- Free a hardware thread; its M-mode CSRs stay with the hardware thread. -/
def State.freeHw (s : State) (f t : Nat) : State :=
  let s1 := (s.detach f t).setThread f t { freeThread with csr := (s.thread f t).csr }
  if (List.range 128).any (fun u => decide ((s1.thread f u).st ≠ .free)) then s1
  else s1.modBell f (fun b => { b with gap := true })

/-- End a thread normally with an exit code (R113). -/
def State.endThread (s : State) (f t exitCode : Nat) : State :=
  let x := s.thread f t
  (s.threadEnded x.sheaf x.index exitCode none false).freeHw f t

/-- End a thread as faulted with a code (xt.kill, R113): the receipt names the hardware thread, the
field and the cause (R184). -/
def State.killThread (s : State) (f t code : Nat) : State :=
  let x := s.thread f t
  let detail := t + f * 2 ^ 7 + bits (x.csrv csrMcause) 0 6 * 2 ^ 14
  (s.threadEnded x.sheaf x.index code (some ⟨2, 0, detail⟩) true).freeHw f t

/-- End a thread for a reason of its sheaf or unit; `counted` says whether THREADS_FAILED counts it
(R182, R619). -/
def State.cutThread (s : State) (f t : Nat) (failure : Option SheafFail) (counted : Bool) : State :=
  let x := s.thread f t
  (s.threadEnded x.sheaf x.index 0 failure counted).freeHw f t

/-- Threads of a field in use. -/
def State.liveThreads (s : State) (f : Nat) : List Nat :=
  (List.range 128).filter (fun t => decide ((s.thread f t).st ≠ .free ∧ (s.thread f t).st ≠ .fenced))

/-! ### Answers to waiting threads -/

/-- A satisfied, aborted or refused wait returns: rd takes the word and the instruction retires. -/
def State.answerTally (s : State) (f t : Nat) (rd : XReg) (w : Word) : State :=
  (s.modThread f t (fun x => { x with st := .ready })).retireWith f t 4 (fun x => x.setX rd w)

/-- Deliver the word of a wait to its owner (R151, R159). -/
def State.answerWait (s : State) (owner : WaitOwner) (w : Word) : State :=
  match owner with
  | .thread f t rd =>
    if (s.thread f.val t.val).st = .waitTally then s.answerTally f.val t.val rd w else s
  | .dep sheaf d =>
    { s with seq := { s.seq with depReturns := s.seq.depReturns ++ [(sheaf, d, w)] } }
  | .remote wf id => s.send (.tallyReply wf id w)

end Sys2Proof.Machine
end

