-- ==== Sys2Proof/Machine/RvInt.lean ====
section
/-! DEFINITION. The standard integer instructions of a crofter: RV64I, M, Zba, Zbb and control flow
(R102). -/

namespace Sys2Proof.Machine

/-- Sign-extend the low 32 bits. -/
def sextw (n : Nat) : Word := BitVec.ofInt 64 (sint 32 n)

/-- Register-register operations. -/
def aluOp (op : AluOp) (a b : Word) : Word :=
  let wa := a.toNat % 2 ^ 32
  let wb := b.toNat % 2 ^ 32
  let sa := a.toInt
  let sb := b.toInt
  let swa := sint 32 wa
  let swb := sint 32 wb
  match op with
  | .add => a + b
  | .sub => a - b
  | .sll => a <<< (b.toNat % 64)
  | .slt => b2w (decide (sa < sb))
  | .sltu => b2w (decide (a.toNat < b.toNat))
  | .xor => a ^^^ b
  | .srl => a >>> (b.toNat % 64)
  | .sra => a.sshiftRight (b.toNat % 64)
  | .or => a ||| b
  | .and => a &&& b
  | .addw => sextw (wa + wb)
  | .subw => sextw (wa + (2 ^ 32 - wb))
  | .sllw => sextw (wa * 2 ^ (b.toNat % 32))
  | .srlw => sextw (wa / 2 ^ (b.toNat % 32))
  | .sraw => BitVec.ofInt 64 (swa / ((2 ^ (b.toNat % 32) : Nat) : Int))
  | .mul => a * b
  | .mulh => BitVec.ofInt 64 (sa * sb / ((2 ^ 64 : Nat) : Int))
  | .mulhsu => BitVec.ofInt 64 (sa * (b.toNat : Int) / ((2 ^ 64 : Nat) : Int))
  | .mulhu => BitVec.ofNat 64 (a.toNat * b.toNat / 2 ^ 64)
  | .div => if sb = 0 then BitVec.ofInt 64 (-1) else BitVec.ofInt 64 (sa.tdiv sb)
  | .divu => if b.toNat = 0 then BitVec.ofInt 64 (-1) else BitVec.ofNat 64 (a.toNat / b.toNat)
  | .rem => if sb = 0 then a else BitVec.ofInt 64 (sa.tmod sb)
  | .remu => if b.toNat = 0 then a else BitVec.ofNat 64 (a.toNat % b.toNat)
  | .mulw => sextw (wa * wb)
  | .divw => if swb = 0 then BitVec.ofInt 64 (-1) else sextw (tcode 32 (swa.tdiv swb))
  | .divuw => if wb = 0 then BitVec.ofInt 64 (-1) else sextw (wa / wb)
  | .remw => if swb = 0 then sextw wa else sextw (tcode 32 (swa.tmod swb))
  | .remuw => if wb = 0 then sextw wa else sextw (wa % wb)
  | .adduw => BitVec.ofNat 64 wa + b
  | .sh1add => (a <<< 1) + b
  | .sh1adduw => BitVec.ofNat 64 (wa * 2) + b
  | .sh2add => (a <<< 2) + b
  | .sh2adduw => BitVec.ofNat 64 (wa * 4) + b
  | .sh3add => (a <<< 3) + b
  | .sh3adduw => BitVec.ofNat 64 (wa * 8) + b
  | .andn => a &&& ~~~b
  | .orn => a ||| ~~~b
  | .xnor => ~~~(a ^^^ b)
  | .max => if sa < sb then b else a
  | .maxu => if a.toNat < b.toNat then b else a
  | .min => if sa < sb then a else b
  | .minu => if a.toNat < b.toNat then a else b
  | .rol => a.rotateLeft (b.toNat % 64)
  | .ror => a.rotateRight (b.toNat % 64)
  | .rolw => sextw ((BitVec.ofNat 32 wa).rotateLeft (b.toNat % 32)).toNat
  | .rorw => sextw ((BitVec.ofNat 32 wa).rotateRight (b.toNat % 32)).toNat

/-- Register-immediate operations. -/
def aluImmOp (op : AluImmOp) (a : Word) (imm : BitVec 12) : Word :=
  let i : Word := imm.signExtend 64
  match op with
  | .addi => a + i
  | .slti => b2w (decide (a.toInt < i.toInt))
  | .sltiu => b2w (decide (a.toNat < i.toNat))
  | .xori => a ^^^ i
  | .ori => a ||| i
  | .andi => a &&& i
  | .addiw => sextw (a + i).toNat

/-- Shifts by an immediate; the 32-bit forms use its low five bits. -/
def shiftImmOp (op : ShiftImmOp) (a : Word) (sh : BitVec 6) : Word :=
  let n := sh.toNat
  let wa := a.toNat % 2 ^ 32
  match op with
  | .slli => a <<< n
  | .srli => a >>> n
  | .srai => a.sshiftRight n
  | .slliw => sextw (wa * 2 ^ (n % 32))
  | .srliw => sextw (wa / 2 ^ (n % 32))
  | .sraiw => BitVec.ofInt 64 (sint 32 wa / ((2 ^ (n % 32) : Nat) : Int))
  | .rori => a.rotateRight n
  | .roriw => sextw ((BitVec.ofNat 32 wa).rotateRight (n % 32)).toNat
  | .slliuw => BitVec.ofNat 64 wa <<< n

/-- Leading zeros of a `w`-bit number. -/
def clzN (w n : Nat) : Nat := if n % 2 ^ w = 0 then w else w - 1 - Nat.log2 (n % 2 ^ w)

/-- Trailing zeros of a `w`-bit number. -/
def ctzN (w n : Nat) : Nat := ((List.range w).takeWhile (fun i => !n.testBit i)).length

/-- One bits of a `w`-bit number. -/
def popN (w n : Nat) : Nat := ((List.range w).filter (fun i => n.testBit i)).length

/-- One-operand operations of Zbb. -/
def unaryOp (op : UnaryOp) (a : Word) : Word :=
  let n := a.toNat
  match op with
  | .clz => BitVec.ofNat 64 (clzN 64 n)
  | .clzw => BitVec.ofNat 64 (clzN 32 n)
  | .ctz => BitVec.ofNat 64 (ctzN 64 n)
  | .ctzw => BitVec.ofNat 64 (ctzN 32 n)
  | .cpop => BitVec.ofNat 64 (popN 64 n)
  | .cpopw => BitVec.ofNat 64 (popN 32 n)
  | .sextb => BitVec.ofInt 64 (sint 8 n)
  | .sexth => BitVec.ofInt 64 (sint 16 n)
  | .zexth => BitVec.ofNat 64 (n % 65536)
  | .orcb => BitVec.ofNat 64
      (leNat ((leBytes 8 n).map (fun b => if b = 0#8 then 0#8 else 0xFF#8)))
  | .rev8 => BitVec.ofNat 64 (leNat (leBytes 8 n).reverse)

/-- Branch conditions. -/
def branchTaken (op : BranchOp) (a b : Word) : Bool :=
  match op with
  | .eq => decide (a = b)
  | .ne => decide (a ≠ b)
  | .lt => decide (a.toInt < b.toInt)
  | .ge => decide (b.toInt ≤ a.toInt)
  | .ltu => decide (a.toNat < b.toNat)
  | .geu => decide (b.toNat ≤ a.toNat)

/-- Set pc, retiring a control transfer. -/
def State.jumpTo (s : State) (f t : Nat) (target : Word) (g : Thread → Thread) : State :=
  (s.modThread f t (fun x => { g x with pc := target })).retire f t

end Sys2Proof.Machine
end

