-- ==== Sys2Proof/Machine/RvFloat.lean ====
section
/-! DEFINITION. The F and D instructions of a crofter (R102): operands, rounding modes, results and
the accrued exception flags of fcsr. -/

namespace Sys2Proof.Machine

def fpFmtOf : FpW → Fmt
  | .s => fp32
  | .d => fp64

/-- A register read as a single: a value that is not NaN-boxed reads as the canonical NaN. -/
def fpRead (w : FpW) (v : Word) : Nat :=
  match w with
  | .d => v.toNat
  | .s => if bits v 32 32 = 2 ^ 32 - 1 then bits v 0 32 else fp32.nan

/-- A single is written NaN-boxed. -/
def fpBox (w : FpW) (c : Nat) : Word :=
  match w with
  | .d => BitVec.ofNat 64 c
  | .s => BitVec.ofNat 64 (c % 2 ^ 32 + (2 ^ 32 - 1) * 2 ^ 32)

/-- A signaling NaN. -/
def isSNaN (f : Fmt) (c : Nat) : Bool := (f.unpack c).isNaN && !c.testBit (f.mw - 1)

/-- The rounding mode of an instruction, with frm for `dyn`; `none` where it is invalid. -/
def rmOf (rm : RmField) (fcsr : Word) : Option RMode :=
  match rm with
  | .rne => some .rne
  | .rtz => some .rtz
  | .rdn => some .rdn
  | .rup => some .rup
  | .rmm => some .rmm
  | .reserved => none
  | .dyn => match bits fcsr 5 3 with
    | 0 => some .rne
    | 1 => some .rtz
    | 2 => some .rdn
    | 3 => some .rup
    | 4 => some .rmm
    | _ => none

/-- Accrued exceptions: NX bit 0, UF 1, OF 2, DZ 3, NV 4. -/
structure FFlags where
  nv : Bool
  dz : Bool
  of : Bool
  uf : Bool
  nx : Bool
  deriving DecidableEq, Repr

def FFlags.none : FFlags := ⟨false, false, false, false, false⟩

def FFlags.toNat (x : FFlags) : Nat :=
  b2n x.nx + 2 * b2n x.uf + 4 * b2n x.of + 8 * b2n x.dz + 16 * b2n x.nv

/-- Round a value to a format with its exceptions. -/
def finish (f : Fmt) (mode : RMode) (v : Val) : Nat × FFlags :=
  match v with
  | .fin neg m e =>
    let r := f.round mode false neg m e
    (r.code, ⟨false, false, r.of, r.uf, r.nx⟩)
  | v => (f.pack false v, .none)

/-- Arithmetic with two operands (square root uses the first). -/
def fpArith (op : FpOp) (f : Fmt) (mode : RMode) (a b : Nat) : Nat × FFlags :=
  let va := f.unpack a
  let vb := f.unpack b
  let sn := isSNaN f a || isSNaN f b
  let mk := fun (v : Val) (dz : Bool) =>
    let (c, x) := finish f mode v
    let inNaN := va.isNaN || vb.isNaN
    (c, { x with nv := sn || (v.isNaN && !inNaN), dz := dz })
  let sgn := 2 ^ (f.ew + f.mw)
  let mag := fun (n : Nat) => n % sgn
  match op with
  | .add => mk (Val.add mode va vb) false
  | .sub => mk (Val.add mode va vb.neg) false
  | .mul => mk (Val.mul va vb) false
  | .div => mk (Val.div va vb) (va.finite && !va.isZero && vb.isZero)
  | .sqrt =>
    let v := va.sqrt
    let (c, x) := finish f mode v
    (c, { x with nv := isSNaN f a || (v.isNaN && !va.isNaN) })
  | .sgnj => (mag a + b2n (b.testBit (f.ew + f.mw)) * sgn, .none)
  | .sgnjn => (mag a + b2n (!b.testBit (f.ew + f.mw)) * sgn, .none)
  | .sgnjx => (mag a + b2n (a.testBit (f.ew + f.mw) != b.testBit (f.ew + f.mw)) * sgn, .none)
  | .min =>
    let fl : FFlags := { FFlags.none with nv := sn }
    if va.isNaN && vb.isNaN then (f.nan, fl)
    else if va.isNaN then (b, fl) else if vb.isNaN then (a, fl)
    else if va.lt vb || (va.eqv vb && a.testBit (f.ew + f.mw)) then (a, fl) else (b, fl)
  | .max =>
    let fl : FFlags := { FFlags.none with nv := sn }
    if va.isNaN && vb.isNaN then (f.nan, fl)
    else if va.isNaN then (b, fl) else if vb.isNaN then (a, fl)
    else if vb.lt va || (va.eqv vb && !a.testBit (f.ew + f.mw)) then (a, fl) else (b, fl)

/-- Fused multiply-add with one rounding. -/
def fpFma (op : FmaOp) (f : Fmt) (mode : RMode) (a b c : Nat) : Nat × FFlags :=
  let va := f.unpack a
  let vb := f.unpack b
  let vc := f.unpack c
  let p := Val.mul va vb
  let p' := match op with | .fmadd | .fmsub => p | .fnmsub | .fnmadd => p.neg
  let c' := match op with | .fmadd | .fnmsub => vc | .fmsub | .fnmadd => vc.neg
  let v := Val.add mode p' c'
  let (r, x) := finish f mode v
  let badMul := p.isNaN && !va.isNaN && !vb.isNaN
  let inNaN := va.isNaN || vb.isNaN || vc.isNaN
  (r, { x with nv := isSNaN f a || isSNaN f b || isSNaN f c || badMul || (v.isNaN && !inNaN) })

/-- Comparisons: eq is quiet, lt and le signal on any NaN. -/
def fpCompare (op : FpCmp) (f : Fmt) (a b : Nat) : Bool × FFlags :=
  let va := f.unpack a
  let vb := f.unpack b
  let anyNaN := va.isNaN || vb.isNaN
  let sn := isSNaN f a || isSNaN f b
  match op with
  | .eq => (va.eqv vb, { FFlags.none with nv := sn })
  | .lt => (va.lt vb, { FFlags.none with nv := anyNaN })
  | .le => (va.lt vb || va.eqv vb, { FFlags.none with nv := anyNaN })

/-- The class mask of fclass. -/
def fpClass (f : Fmt) (a : Nat) : Nat :=
  let neg := a.testBit (f.ew + f.mw)
  match f.unpack a with
  | .nan => if isSNaN f a then 2 ^ 8 else 2 ^ 9
  | .inf n => if n then 1 else 2 ^ 7
  | .fin _ m _ =>
    if m = 0 then (if neg then 2 ^ 3 else 2 ^ 4)
    else if m < 2 ^ f.mw then (if neg then 2 ^ 2 else 2 ^ 5)
    else (if neg then 2 else 2 ^ 6)

def intRange : IntW → Int × Int
  | .w => (-((2 ^ 31 : Nat) : Int), ((2 ^ 31 : Nat) : Int) - 1)
  | .wu => (0, ((2 ^ 32 : Nat) : Int) - 1)
  | .l => (-((2 ^ 63 : Nat) : Int), ((2 ^ 63 : Nat) : Int) - 1)
  | .lu => (0, ((2 ^ 64 : Nat) : Int) - 1)

/-- An integer result as a register: 32-bit results are sign-extended. -/
def intBox (w : IntW) (i : Int) : Word :=
  match w with
  | .w | .wu => sextw (tcode 32 i)
  | .l | .lu => BitVec.ofInt 64 i

/-- Conversion to an integer, with the saturation and NV of the standard. -/
def fpToInt (w : IntW) (f : Fmt) (mode : RMode) (a : Nat) : Word × FFlags :=
  let (lo, hi) := intRange w
  let bad : FFlags := { FFlags.none with nv := true }
  match f.unpack a with
  | .nan => (intBox w hi, bad)
  | .inf n => (intBox w (if n then lo else hi), bad)
  | v =>
    let i := v.toInt mode
    if i < lo then (intBox w lo, bad)
    else if hi < i then (intBox w hi, bad)
    else (intBox w i, { FFlags.none with nx := !v.isInt })

/-- Conversion from an integer. -/
def fpFromInt (w : IntW) (f : Fmt) (mode : RMode) (x : Word) : Nat × FFlags :=
  let i : Int := match w with
    | .w => sint 32 x.toNat
    | .wu => (x.toNat % 2 ^ 32 : Nat)
    | .l => x.toInt
    | .lu => (x.toNat : Nat)
  finish f mode (Val.ofInt i)

/-- Conversion between single and double. -/
def fpCvt (src dst : Fmt) (mode : RMode) (a : Nat) : Nat × FFlags :=
  let (c, x) := finish dst mode (src.unpack a)
  (c, { x with nv := isSNaN src a })

/-- Accrue flags in fcsr. -/
def Thread.accrue (t : Thread) (x : FFlags) : Thread :=
  t.setCsr csrFcsr (t.csrv csrFcsr ||| BitVec.ofNat 64 x.toNat)

/-- Write a floating-point result with its flags. -/
def Thread.fpWrite (t : Thread) (w : FpW) (rd : XReg) (r : Nat × FFlags) : Thread :=
  (t.setFr rd (fpBox w r.1)).accrue r.2

end Sys2Proof.Machine
end

