-- ==== Sys2Proof/Machine/Tallies.lean ====
section
/-! DEFINITION. The commands of the tally units: operations applied at a home (R146–R153), waiters
satisfied (R151, R154, R157), signals and chains, requests that wait at their source (R159). -/

namespace Sys2Proof.Machine

/-- The function of a field's parish, the physical function where none owns it (R154, R169). -/
def State.fnOfField (s : State) (f : Nat) : FnId :=
  match s.parishOf f with
  | some p => Fin.ofNat 33 (p.val + 1)
  | none => 0

/-! ### Operations applied at the home -/

/-- Apply an operation that arrived at its home from `src`; the answer goes back to the source.  The
check of R69 comes first; a field that does not run applies nothing (R163). -/
def State.tallyArrive (s : State) (f t : Nat) (src : Source) (tx : Option TxId) (op : TallyOp) :
    State :=
  if !s.fieldRuns f then s
  else if !s.admits src f 3 (t * 64) 8 then
    (s.noteAccess (some f) .accessDenied false true (directAddr s.ownWafer f 3 (t * 64)) src).send
      (.accessReply .accessDenied)
  else
    let id := match tx with | some x => x.id.toNat | none => 0
    let issuer := match src.field with | some g => g | none => 0
    match s.tallyApply (tallyKey f t) op (.remote src.wafer id) issuer src.parish tx with
    | (s1, .word w) => s1.send (.tallyReply src.wafer id w)
    | (s1, .parked) => s1.send (.tallyParked src.wafer id)

/-- TALLY_OP_READ, R146: the word is returned. -/
def execTallyOpRead (home : FieldId) (t : TallyId) (src : Source) (s : State) : Out :=
  .next (s.tallyArrive home.val t.val src none .read)

/-- TALLY_OP_SET, R146. -/
def execTallyOpSet (home : FieldId) (t : TallyId) (src : Source) (tx : Option TxId) (v : Word)
    (s : State) : Out :=
  .next (s.tallyArrive home.val t.val src tx (.set v))

/-- TALLY_OP_ADD, R148. -/
def execTallyOpAdd (home : FieldId) (t : TallyId) (src : Source) (tx : Option TxId) (v : Word)
    (s : State) : Out :=
  .next (s.tallyArrive home.val t.val src tx (.add v))

/-- TALLY_OP_CLEAR_FLAGS, R146. -/
def execTallyOpClearFlags (home : FieldId) (t : TallyId) (src : Source) (tx : Option TxId)
    (s : State) : Out :=
  .next (s.tallyArrive home.val t.val src tx .clearFlags)

/-- TALLY_OP_CAS, R147. -/
def execTallyOpCas (home : FieldId) (t : TallyId) (src : Source) (tx : Option TxId)
    (new expected : Word) (s : State) : Out :=
  .next (s.tallyArrive home.val t.val src tx (.cas new expected))

/-- TALLY_OP_WAIT, R153: satisfied at once, parked at the home (a PARKED response is sent), or
REFUSED. -/
def execTallyOpWait (home : FieldId) (t : TallyId) (src : Source) (tx : Option TxId)
    (threshold : BitVec 48) (s : State) : Out :=
  .next (s.tallyArrive home.val t.val src tx (.wait threshold))

/-- TALLY_OP_ARM, R150. -/
def execTallyOpArm (home : FieldId) (t : TallyId) (src : Source) (tx : Option TxId)
    (threshold : BitVec 48) (s : State) : Out :=
  .next (s.tallyArrive home.val t.val src tx (.arm threshold))

/-- TALLY_OP_CHAIN, R156: placed with its 64-byte descriptor snapshot. -/
def execTallyOpChain (home : FieldId) (t : TallyId) (src : Source) (tx : Option TxId)
    (threshold : BitVec 48) (skipErr : Bool) (desc : List Byte) (s : State) : Out :=
  if desc.length ≠ 64 then .fault (.malformedOperand "TALLY_OP_CHAIN")
  else .next (s.tallyArrive home.val t.val src tx (.chain threshold skipErr desc))

/-- A completion or receipt update at its home: add 1 with release, ERR on a non-OK status. -/
def State.completionArrive (s : State) (f t : Nat) (src : Source) (tx : Option TxId) (ok : Bool) :
    State :=
  if !s.fieldRuns f then s
  else if !s.admits src f 3 (t * 64) 8 then
    (s.noteAccess (some f) .accessDenied false true (directAddr s.ownWafer f 3 (t * 64)) src).send
      (.accessReply .accessDenied)
  else (s.dedup f tx (fun x => x.tallyAdd (tallyKey f t) 1#64 (!ok))).1

/-- TALLY_ENGINE_COMPLETION, R131, R165. -/
def execTallyEngineCompletion (home : FieldId) (t : TallyId) (src : Source) (tx : Option TxId)
    (ok : Bool) (s : State) : Out :=
  .next (s.completionArrive home.val t.val src tx ok)

/-- TALLY_RECEIPT_UPDATE, R181. -/
def execTallyReceiptUpdate (home : FieldId) (t : TallyId) (src : Source) (tx : Option TxId)
    (ok : Bool) (s : State) : Out :=
  .next (s.completionArrive home.val t.val src tx ok)

/-! ### Signals -/

/-- Records of a field's signal ring: 2^(SIZE+4) (R167). -/
def State.ringRecords (s : State) (f : Nat) : Nat := 2 ^ (s.getF RF.TLY_SIG_CTL_SIZE f 0 + 4)

/-- HEAD + 1 = TAIL modulo the ring size (R167). -/
def State.signalRingFull (s : State) (f : Nat) : Bool :=
  decide ((s.getF RF.TLY_SIG_HEAD_HEAD f 0 + 1) % s.ringRecords f =
    s.getF RF.TLY_SIG_TAIL_TAIL f 0 % s.ringRecords f)

/-- The 16-byte signal record, R154. -/
def signalRecord (word : Word) (idx time : Nat) : List Byte :=
  leBytes 8 (bits word 0 50 + idx * 2 ^ 52) ++ leBytes 8 time

/-- Where record `h` of the ring lies: the ring is in region 0 or 1 of the field (R155). -/
def State.signalSlot (s : State) (f h : Nat) : Direct :=
  Direct.of (s.getF RF.TLY_SIG_BASE_BASE f 0 * 16 + h * 16)

/-- Write the record of a satisfied signal, advance HEAD and send the vector (R154). -/
def State.signalWrite (s : State) (x : Selected) : State :=
  let f := x.waiter.tally / 4096
  let h := s.getF RF.TLY_SIG_HEAD_HEAD f 0
  let d := s.signalSlot f h
  let s1 := s.memWrite f d.region d.off (signalRecord x.word (x.waiter.tally % 4096) s.fabricTime)
    false
  (s1.setF RF.TLY_SIG_HEAD_HEAD f 0 ((h + 1) % s.ringRecords f)).sendMsix (s.fnOfField f)
    (s.getF RF.TLY_SIG_CTL_VECTOR f 0)

/-- Can a signal of field `f` write its record now? -/
def State.signalReady (s : State) (f : Nat) : Bool :=
  s.flag RF.TLY_SIG_CTL_ENABLE f 0 && !s.signalRingFull f

/-- A satisfied signal: its record is written, or it stays pending with its entry; a full ring is
captured as RING_FULL (R155). (Mark: DEDUCED, log 52.) -/
def State.signalTake (s : State) (x : Selected) : State :=
  let f := x.waiter.tally / 4096
  if s.signalReady f then s.signalWrite x
  else
    let s1 := { s with tallies := { s.tallies with signals := s.tallies.signals ++ [x] } }
    if s.flag RF.TLY_SIG_CTL_ENABLE f 0 then s1.tallyError f (x.waiter.tally % 4096) 3 else s1

/-- Let the pending signals of a field write their records while the ring has room.
(Mark: DEDUCED, log 52.) -/
def State.signalFlush (s : State) (f : Nat) : Nat → State
  | 0 => s
  | n + 1 =>
    if s.signalReady f then
      match s.tallies.signals.find? (fun x => decide (x.waiter.tally / 4096 = f)) with
      | none => s
      | some x =>
        let s1 := { s with tallies := { s.tallies with
          signals := s.tallies.signals.filter (fun y => y.waiter.serial != x.waiter.serial) } }
        (s1.signalWrite x).signalFlush f n
    else s

/-- TLY_SIG_ENABLE, R155: a write of TLY_SIG_CTL that sets ENABLE.  Every record slot must lie in
region 0 or 1 of this field; a ring that fails leaves ENABLE 0 and captures RING_CONFIG.  SIZE keeps
its value while ENABLE is 1, and values 9–15 are ignored (R167). -/
def State.signalEnable (s : State) (f : Nat) (size : Nat) (vector : Nat) : State :=
  if s.flag RF.TLY_SIG_CTL_ENABLE f 0 then s.setF RF.TLY_SIG_CTL_VECTOR f 0 vector
  else
    let s1 := (if size ≤ 8 then s.setF RF.TLY_SIG_CTL_SIZE f 0 size else s).setF
      RF.TLY_SIG_CTL_VECTOR f 0 vector
    let base := s1.getF RF.TLY_SIG_BASE_BASE f 0 * 16
    let d := Direct.of base
    let bytes := 16 * s1.ringRecords f
    let ok := !isSpread base && decide (d.wafer = s1.ownWafer) && decide (d.field = f) &&
      ((decide (d.region = 0) && decide (d.off + bytes ≤ 2 ^ 35)) ||
        (decide (d.region = 1) && decide (d.off + bytes ≤ 0x3000000)))
    if ok then (s1.setFlag RF.TLY_SIG_CTL_ENABLE f 0 true).signalFlush f s1.tallies.signals.length
    else s1.tallyError f 0 4

def execTlySigEnable (f : FieldId) (size : BitVec 4) (vector : BitVec 12) (s : State) : Out :=
  .next (s.signalEnable f.val size.toNat vector.toNat)

/-- TLY_SIG_TAIL_WRITE, R155: pending signals write their records as room appears. -/
def State.signalTail (s : State) (f tail : Nat) : State :=
  (s.setF RF.TLY_SIG_TAIL_TAIL f 0 tail).signalFlush f s.tallies.signals.length

def execTlySigTailWrite (f : FieldId) (tail : BitVec 12) (s : State) : Out :=
  .next (s.signalTail f.val tail.toNat)

/-- The value TLY_USE reads (R167). (Mark: DESIGN CHOICE, log 53.) -/
def State.tlyUse (s : State) (f : Nat) : Word :=
  let e := s.entries.filter (fun w => decide (w.tally / 4096 = f))
  BitVec.ofNat 64 (e.length % 2 ^ 14 +
    (e.filter (fun w => w.kind.isChain)).length % 2 ^ 12 * 2 ^ 14 +
    s.tallies.peaks.look 0 f % 2 ^ 12 * 2 ^ 26)

/-- TLY_USE_READ, R167: the read returns and clears the peak. (Mark: DESIGN CHOICE, log 53.) -/
def State.tlyUseRead (s : State) (f : Nat) : State × Word :=
  ({ s with tallies := { s.tallies with peaks := s.tallies.peaks.put 0 f 0 } }, s.tlyUse f)

def execTlyUseRead (f : FieldId) (s : State) : Out :=
  let (s1, w) := s.tlyUseRead f.val
  .next (s1.send (.regRead w))

/-! ### Satisfying waiters -/

/-- The source of a chained issue and of its CANCELLED completion (R156, R157). -/
def State.chainSource (s : State) (home : Nat) (parish : Option ParishId) : Source :=
  s.engineSource home parish 7

/-- Complete a chain's descriptor as CANCELLED (R157). -/
def State.chainCancel (s : State) (home : Nat) (desc : List Byte) (parish : Option ParishId)
    (code : Nat) : State :=
  (s.finishDesc (s.chainSource home parish) desc 0 stCancelled (descClass desc) (descUnit desc) 0
    code).1

/-- A satisfied chain (R157): cancelled where SKIP_ERR meets ERR; otherwise issued from the home, kept
for a retry while the queue is FULL, and cancelled on any other status. -/
def State.chainTake (s : State) (x : Selected) : State :=
  match x.waiter.kind with
  | .chain desc skipErr issuer parish =>
    let home := x.waiter.tally / 4096
    if skipErr && bit x.word 48 then s.chainCancel home desc parish 0xFF
    else
      let (s1, st) := s.forward issuer.val desc (s.chainSource home parish) none
      match st with
      | none => s1
      | some c =>
        if c % 256 = issueAccepted then s1
        else if c % 256 = issueFull then
          { s1 with tallies := { s1.tallies with chainIssues := s1.tallies.chainIssues ++ [x] } }
        else s1.chainCancel home desc parish (c % 256)
  | _ => s

/-- Satisfy one selected waiter. (Mark: DEDUCED, log 49.) -/
def State.satisfy (s : State) (x : Selected) : State :=
  match x.waiter.kind with
  | .wait owner =>
    (s.dupRecord (x.waiter.tally / 4096) x.waiter.tx x.word).answerWait owner x.word
  | .arm => s.signalTake x
  | .chain _ _ _ _ => s.chainTake x

/-- WAITER_SATISFY, R151: the first selected waiter of the field, in creation order.
(Mark: DEDUCED, log 49.) -/
def execWaiterSatisfy (f : FieldId) (s : State) : Out :=
  if !s.fieldRuns f.val then .next s
  else
    match s.tallies.selected.find? (fun x => decide (x.waiter.tally / 4096 = f.val)) with
    | none => .next s
    | some x =>
      let s1 := { s with tallies := { s.tallies with
        selected := s.tallies.selected.filter (fun y => y.waiter.serial != x.waiter.serial) } }
      .next (s1.satisfy x)

/-- CHAIN_ISSUE_RETRY, R157: the first chain of the field that found the queue FULL. -/
def execChainIssueRetry (f : FieldId) (s : State) : Out :=
  if !s.fieldRuns f.val then .next s
  else
    match s.tallies.chainIssues.find? (fun x => decide (x.waiter.tally / 4096 = f.val)) with
    | none => .next s
    | some x =>
      let s1 := { s with tallies := { s.tallies with
        chainIssues := s.tallies.chainIssues.filter
          (fun y => y.waiter.serial != x.waiter.serial) } }
      .next (s1.chainTake x)

/-! ### Requests that wait at their source -/

/-- TALLY_PARKED, R153: the requester stops timing the wait. -/
def execTallyParked (id : Nat) (s : State) : Out :=
  .next { s with tallies := { s.tallies with
    reqs := s.tallies.reqs.map (fun r => if r.id = id then { r with parked := true } else r) } }

/-- Apply a request of this wafer at its home and deliver the answer to its owner. -/
def State.tallyRedo (s : State) (r : TallyReq) : State :=
  let (issuer, parish) : FieldId × Option ParishId := match r.owner with
    | .thread f _ _ => (f, s.parishOf f.val)
    | _ => (r.tx.source, s.parishOf r.tx.source.val)
  match s.tallyApply r.tally r.op r.owner issuer parish (some r.tx) with
  | (s1, .word w) => s1.answerWait r.owner w
  | (s1, .parked) => s1

/-- The thread whose tally request failed takes the access fault at its instruction (R138). -/
def State.tallyFail (s : State) (owner : WaitOwner) (st : AccStatus) (addr : Nat) : State :=
  match owner with
  | .thread f t _ =>
    if (s.thread f.val t.val).st = .waitTally then
      (s.modThread f.val t.val (fun x => { x with st := .ready })).accessTrap f.val t.val
        causeStoreAccess st (BitVec.ofNat 64 addr)
    else s
  | .dep sheaf d =>
    { s with seq := { s.seq with depReturns := s.seq.depReturns ++
      [(sheaf, d, BitVec.ofNat 64 (2 ^ 61 + st.code))] } }
  | .remote _ _ => s.send (.accessReply st)

/-- TALLY_REISSUE, R159: once WFR_SEAM_GEN is even a request that lost its route is sent again with
its id; a home that is no longer in service completes it in error (R138, R160).
(Mark: DESIGN CHOICE, log 3.) -/
def execTallyReissue (id : Nat) (s : State) : Out :=
  match s.tallies.reqs.find? (fun r => decide (r.id = id)) with
  | none => .next s
  | some r =>
    if s.getF RF.WFR_SEAM_GEN_GEN 0 0 % 2 = 1 ∨ r.wafer ≠ s.ownWafer then .next s
    else
      let s1 := { s with tallies := { s.tallies with
        reqs := s.tallies.reqs.filter (fun q => !decide (q.id = id)) } }
      let f := r.tally / 4096
      let a := directAddr r.wafer f 3 (r.tally % 4096 * 64)
      if s.fieldMode f = 1 then .next (s1.tallyFail r.owner .fieldRetired a)
      else if s.fieldMode f = 2 then .next (s1.tallyFail r.owner .routeLoss a)
      else if s.fieldHolds f then .next s
      else .next (s1.tallyRedo r)

end Sys2Proof.Machine
end

