-- ==== Sys2Proof/Machine/Xolt.lean ====
section
/-! DEFINITION. The Xolt instructions and task issue of the crofters (R109–R141): tally instructions,
commons atomics, issue, pause, exit, bell, kill, the start of threads and the invalidation of
shared-read-only lines. -/

namespace Sys2Proof.Machine

/-! ### The gate of every instruction -/

/-- The source of a thread's accesses: ring stop 6 of its field (R69, R92). -/
def State.threadSource (s : State) (f : Nat) : Source := s.engineSource f (s.parishOf f) 6

/-- What comes before an instruction: the thread must issue (R114, R139), a failed store raises its
imprecise fault first (R133), and the fetch must be admitted (R103, R116). (Mark: DEDUCED, log 44.) -/
def State.gate (s : State) (f t : Nat) (run : State) : State :=
  let x := s.thread f t
  if !s.threadRuns f t then s
  else
    match x.storeFaults with
    | (code, addr) :: r =>
      (s.modThread f t (fun y => { y with storeFaults := r })).accessTrap f t causeStoreError
        (AccStatus.ofCode code) (BitVec.ofNat 64 addr)
    | [] =>
      if wideAddr x.pc || !x.pmpOk x.pc.toNat 2 4 then s.trap f t causeFetchAccess x.pc
      else run

/-- The outstanding requests that answer to a thread, those that wait for a fill included. -/
def State.threadReqs (s : State) (f t : Nat) : List Request :=
  (s.commons.reqs ++ s.commons.fills.flatMap (fun x => x.opener :: x.waiting)).filter
    (fun r => r.sink.ofThread f t)

/-- Has the thread an access that is not yet globally performed? A release waits for it (R79, R126). -/
def State.unperformed (s : State) (f t : Nat) : Bool :=
  (s.threadReqs f t).any (fun r => r.reply.isNone)

/-- The check of an effective address: 57 bits (R103) and the thread's PMP, in the mode that
mstatus.MPRV selects. (Mark: DEDUCED, log 43.) -/
def State.eaBad (s : State) (f t : Nat) (ea : Word) (n need : Nat) : Bool :=
  let x := s.thread f t
  let y := if x.priv = .m ∧ bit (x.csrv csrMstatus) 17 then
      { x with priv := if bits (x.csrv csrMstatus) 11 2 = 3 then .m else .u } else x
  wideAddr ea || !y.pmpOk ea.toNat n need

/-- A misaligned access: decided by the crofter, captured at the source field, raised precisely
(R92, R132). -/
def State.alignFault (s : State) (f t cause : Nat) (ea : Word) (isWrite : Bool) : State :=
  (s.noteAccess none .align false isWrite ea.toNat (s.threadSource f)).accessTrap f t cause .align ea

/-! ### Atomics -/

/-- The answer of an atomic (R122, R132): rd takes the old value, sign-extended. -/
def State.amoDone (s : State) (f t : Nat) (rd : XReg) (wide : Bool) (addr : Nat) (r : Reply) : State :=
  let s0 := s.modThread f t (fun x => { x with st := .ready })
  match r.status with
  | .ok =>
    let old := leNat r.data
    s0.retireWith f t 4 (fun x => x.setX rd
      (BitVec.ofInt 64 (if wide then sint 64 old else sint 32 old)))
  | st => s0.accessTrap f t causeStoreAccess st (BitVec.ofNat 64 addr)

/-- Execute an atomic at its home (R82, R122).  `rl` waits for the thread's earlier accesses. -/
def State.amoRun (s : State) (f : FieldId) (t : ThreadId) (op : AmoOp) (wide rl : Bool) (rd : XReg)
    (ea operand expected : Word) : State :=
  let n := if wide then 8 else 4
  if rl && s.unperformed f.val t.val then s
  else if s.eaBad f.val t.val ea n 3 then s.trap f.val t.val causeStoreAccess ea
  else if ea.toNat % n ≠ 0 then s.alignFault f.val t.val causeStoreAlign ea true
  else
    match s.request noDevice (s.threadSource f.val) ea.toNat (.amo op wide operand expected)
        (.amo f t rd) with
    | (s1, _, none) => s1.modThread f.val t.val (fun x => { x with st := .waitMem })
    | (s1, _, some r) => s1.amoDone f.val t.val rd wide ea.toNat r

/-- An Xolt atomic: an operand that its form does not use must be x0 (R120). -/
def State.xtAmo (s : State) (f : FieldId) (t : ThreadId) (op : AmoOp) (wide r4 : Bool) (a : XtArgs) :
    State :=
  let x := s.thread f.val t.val
  s.gate f.val t.val
    (if !r4 && decide (a.rs3.val ≠ 0) then s.illegal f.val t.val 0#64
     else s.amoRun f t op wide a.rl a.rd (x.xr a.rs1) (x.xr a.rs2) (x.xr a.rs3))

/-- XT_AMOFADD_S, R122: FP32 add at a 4-byte word. -/
def execXtAmofaddS (f : FieldId) (t : ThreadId) (a : XtArgs) (s : State) : Out :=
  .next (s.xtAmo f t .faddS false false a)

/-- XT_AMOFADD_BF2, R122: two packed BF16 adds. -/
def execXtAmofaddBf2 (f : FieldId) (t : ThreadId) (a : XtArgs) (s : State) : Out :=
  .next (s.xtAmo f t .faddBf2 false false a)

/-- XT_AMOADD_SAT_D, R122: signed 64-bit add, saturating. -/
def execXtAmoaddSatD (f : FieldId) (t : ThreadId) (a : XtArgs) (s : State) : Out :=
  .next (s.xtAmo f t .addSatD true false a)

/-- XT_AMOCAS_D, R122: 64-bit compare-and-swap, expected rs3, new rs2, acquire and release. -/
def execXtAmocasD (f : FieldId) (t : ThreadId) (a : XtArgs) (s : State) : Out :=
  .next (s.xtAmo f t .casD true true { a with rl := true })

/-! ### Tally instructions -/

/-- A request id shared by commons requests and tally requests. -/
def State.newReqId (s : State) : Nat × State :=
  (s.commons.nextReq, { s with commons := { s.commons with nextReq := s.commons.nextReq + 1 } })

/-- The next transaction id of a source field (R158). -/
def State.newTx (s : State) (f : Nat) : TxId × State :=
  let n := s.tallies.nextTx.look 0 f
  (⟨Fin.ofNat 80 f, BitVec.ofNat 16 n⟩,
    { s with tallies := { s.tallies with nextTx := s.tallies.nextTx.put 0 f ((n + 1) % 65536) } })

/-- Does the operation carry a transaction id (R158)? -/
def tallyTracked (o : TallyOp) : Bool :=
  match o with
  | .read => false
  | _ => true

/-- Park a tally request of this wafer at its source: its home is on another wafer, holds its
accesses, or its route is being rebuilt (R158, R159). -/
def State.tallyWaitAtSource (s : State) (f : FieldId) (t : ThreadId) (rd : XReg) (ea wafer : Nat)
    (op : TallyOp) (remote : Bool) : State :=
  let (id, s1) := s.newReqId
  let (tx, s2) := s1.newTx f.val
  let d := Direct.of ea
  let r : TallyReq := ⟨id, tallyKey d.field (d.off / 64), wafer, op, .thread f t rd, tx, false, s.now⟩
  let s3 := { s2 with tallies := { s2.tallies with reqs := s2.tallies.reqs ++ [r] } }
  let s4 := if remote then s3.send (.tally (Fin.ofNat 16 wafer) ea 0 0#64 id) else s3
  s4.modThread f.val t.val (fun x => { x with st := .waitTally, waitRd := rd.val })

/-- A tally instruction after its operands (R121, R132, R146): the address check, the access check,
and the operation at the home. -/
def State.tallyGo (s : State) (f : FieldId) (t : ThreadId) (rd : XReg) (ea : Word) (isWrite : Bool)
    (op : TallyOp) : State :=
  let a := ea.toNat
  let src := s.threadSource f.val
  if a % 8 ≠ 0 then s.alignFault f.val t.val causeStoreAlign ea isWrite
  else
    match s.locate src a 8 false false with
    | .fail st tgt =>
      (s.noteAccess tgt st false isWrite a src).accessTrap f.val t.val causeStoreAccess st ea
    | .remote w => s.tallyWaitAtSource f t rd a w op true
    | .hold _ => s.tallyWaitAtSource f t rd a s.ownWafer op false
    | .at g region off =>
      if region ≠ 3 ∨ off % 64 ≠ 0 then
        (s.noteAccess (some g) .addrInvalid false isWrite a src).accessTrap f.val t.val
          causeStoreAccess .addrInvalid ea
      else if g ≠ f.val ∧ s.getF RF.WFR_SEAM_GEN_GEN 0 0 % 2 = 1 then
        s.tallyWaitAtSource f t rd a s.ownWafer op false
      else
        let (tx, s1) : Option TxId × State :=
          if g ≠ f.val ∧ tallyTracked op then
            let (y, s1) := s.newTx f.val
            (some y, s1)
          else (none, s)
        match s1.tallyApply (tallyKey g (off / 64)) op (.thread f t rd) f src.parish tx with
        | (s2, .word w) => s2.retireWith f.val t.val 4 (fun x => x.setX rd w)
        | (s2, .parked) => s2.modThread f.val t.val (fun x => { x with st := .waitTally, waitRd := rd.val })

/-- A tally instruction of the R-type form: `useRs2` says whether the form has rs2 (R120).
(Mark: DEDUCED, log 48.) -/
def State.xtTally (s : State) (f : FieldId) (t : ThreadId) (a : XtArgs) (useRs2 useRs3 release : Bool)
    (need : Nat) (isWrite : Bool) (op : Thread → TallyOp) : State :=
  let x := s.thread f.val t.val
  s.gate f.val t.val
    (if (!useRs2 && decide (a.rs2.val ≠ 0)) || (!useRs3 && decide (a.rs3.val ≠ 0)) then
       s.illegal f.val t.val 0#64
     else if release && s.unperformed f.val t.val then s
     else if s.eaBad f.val t.val (x.xr a.rs1) 8 need then
       s.trap f.val t.val causeStoreAccess (x.xr a.rs1)
     else s.tallyGo f t a.rd (x.xr a.rs1) isWrite (op x))

/-- XT_TADD, R121: add signed rs2; rd = old value. -/
def execXtTadd (f : FieldId) (t : ThreadId) (a : XtArgs) (s : State) : Out :=
  .next (s.xtTally f t a true false a.rl 3 true (fun x => .add (x.xr a.rs2)))

/-- XT_TSET, R121. -/
def execXtTset (f : FieldId) (t : ThreadId) (a : XtArgs) (s : State) : Out :=
  .next (s.xtTally f t a true false a.rl 3 true (fun x => .set (x.xr a.rs2)))

/-- XT_TWAIT, R123: the thread waits until the count meets rs2; rd = value observed. -/
def execXtTwait (f : FieldId) (t : ThreadId) (a : XtArgs) (s : State) : Out :=
  .next (s.xtTally f t a true false a.rl 1 false
    (fun x => .wait (BitVec.ofNat 48 (x.xr a.rs2).toNat)))

/-- XT_TARM, R121: arm a signal at threshold rs2; rd = old value. -/
def execXtTarm (f : FieldId) (t : ThreadId) (a : XtArgs) (s : State) : Out :=
  .next (s.xtTally f t a true false a.rl 3 true
    (fun x => .arm (BitVec.ofNat 48 (x.xr a.rs2).toNat)))

/-- XT_TREAD, R121: rd = tally value. -/
def execXtTread (f : FieldId) (t : ThreadId) (a : XtArgs) (s : State) : Out :=
  .next (s.xtTally f t a false false a.rl 1 false (fun _ => .read))

/-- XT_TCAS, R121: acquire and release; if the count equals rs3 it becomes rs2. -/
def execXtTcas (f : FieldId) (t : ThreadId) (a : XtArgs) (s : State) : Out :=
  .next (s.xtTally f t a true true true 3 true (fun x => .cas (x.xr a.rs2) (x.xr a.rs3)))

/-! ### Descriptors of a thread -/

/-- The place an address of this wafer names, before any check of it. -/
def State.placeOf (s : State) (a : Nat) : Option (Nat × Nat × Nat) :=
  if isSpread a then
    match s.resolveSpread (nbits a 0 52) with
    | .ok (g, o) => if nbits a 52 4 = s.ownWafer then some (g, 0, o) else none
    | .error _ => none
  else
    let d := Direct.of a
    if d.wafer = s.ownWafer then some (d.field, d.region, d.off) else none

/-- Is the address 64-byte aligned and in region 0 or 1 of the issuer's own field (R125)? -/
def State.descPlaceOk (s : State) (f a : Nat) : Bool :=
  decide (a % 64 = 0) &&
    match s.placeOf a with
    | some (g, r, o) => decide (g = f) && decide (r ≤ 1) && s.regionOk g r o 64
    | none => false

/-- What reading a descriptor gives: its 64 bytes, or the issue status that ends the issue (R126,
R129): DESC_ALIGN, ACCESS_c, DESC_INVALID. -/
def State.readDesc (s : State) (f a : Nat) : State × Except Nat (List Byte) :=
  if !s.descPlaceOk f a then (s, .error issueDescAlign)
  else
    let (s1, rep) := s.engRead (s.threadSource f) a 64
    match rep.status with
    | .ok => if descHeaderOk rep.data then (s1, .ok rep.data) else (s1, .error issueDescInvalid)
    | st => (s1, .error (issueAccess st))

/-- XT_TCHAIN, R156: at threshold rs2 issue the descriptor at rs3, with SKIP_ERR in rs2[63].  A
descriptor that is misplaced, unreadable or invalid places no chain and returns ABORTED. -/
def State.xtTchain (s : State) (f : FieldId) (t : ThreadId) (a : XtArgs) : State :=
  let x := s.thread f.val t.val
  let th := x.xr a.rs2
  let da := x.xr a.rs3
  s.gate f.val t.val
    (if s.unperformed f.val t.val then s
     else if s.eaBad f.val t.val (x.xr a.rs1) 8 3 then
       s.trap f.val t.val causeStoreAccess (x.xr a.rs1)
     else if s.eaBad f.val t.val da 64 1 then s.trap f.val t.val causeStoreAccess da
     else
       let (s1, d) := s.readDesc f.val da.toNat
       let desc := match d with
         | .ok l => l
         | .error _ => []
       s1.tallyGo f t a.rd (x.xr a.rs1) true (.chain (BitVec.ofNat 48 th.toNat) (bit th 63) desc))

def execXtTchain (f : FieldId) (t : ThreadId) (a : XtArgs) (s : State) : Out :=
  .next (s.xtTchain f t a)

/-! ### Issue -/

/-- An issue that ends with its status: rd takes it and the instruction retires. (Mark: DEDUCED, log 46.) -/
def State.issueEnd (s : State) (f t : Nat) (rd : XReg) (code : Nat) : State :=
  (s.countIssue f code).retireWith f t 4 (fun x => x.setX rd (BitVec.ofNat 64 code))

/-- The issue port (R126–R129): the thread's earlier accesses are performed, the descriptor is read
as one snapshot and validated, and it is forwarded to its target; the thread waits for the status.
Errors of the source give rd their code at once. (Mark: DEDUCED, log 46.) -/
def State.xtIssue (s : State) (f : FieldId) (t : ThreadId) (a : XtArgs) (wait : Bool) : State :=
  let x := s.thread f.val t.val
  let ea := x.xr a.rs1
  s.gate f.val t.val
    (if decide (a.rs2.val ≠ 0 ∨ a.rs3.val ≠ 0) || a.aq || a.rl then s.illegal f.val t.val 0#64
     else if s.unperformed f.val t.val then s
     else if s.eaBad f.val t.val ea 64 1 then s.trap f.val t.val causeStoreAccess ea
     else
       match s.readDesc f.val ea.toNat with
       | (s1, .error code) => s1.issueEnd f.val t.val a.rd code
       | (s1, .ok desc) =>
         let (w, g) := descTarget s1 f.val desc
         if 80 ≤ g then s1.issueEnd f.val t.val a.rd (issueAccess .fieldInvalid)
         else if !s1.memberHere w then s1.issueEnd f.val t.val a.rd (issueAccess .waferAbsent)
         else
           let (id, s2) := s1.newReqId
           let r : IssueReq := ⟨id, f.val, t.val, a.rd.val, desc, s1.parishOf f.val, none, wait, s.now⟩
           let s3 := { s2 with crofters := { s2.crofters with issues := s2.crofters.issues ++ [r] } }
           let s4 := if w ≠ s1.ownWafer then s3.send (.issue (Fin.ofNat 16 w) desc) else s3
           s4.modThread f.val t.val (fun y => { y with st := .waitIssue, waitRd := a.rd.val, waitDesc := desc }))

/-- XT_ISSUE, R126. -/
def execXtIssue (f : FieldId) (t : ThreadId) (a : XtArgs) (s : State) : Out :=
  .next (s.xtIssue f t a false)

/-- XT_ISSUE_W, R135: as xt.issue, but the thread waits while the answer is FULL. -/
def execXtIssueW (f : FieldId) (t : ThreadId) (a : XtArgs) (s : State) : Out :=
  .next (s.xtIssue f t a true)

def State.modIssue (s : State) (id : Nat) (g : IssueReq → IssueReq) : State :=
  { s with crofters := { s.crofters with
      issues := s.crofters.issues.map (fun r => if r.id = id then g r else r) } }

/-- Offer a request's descriptor to its target field on this wafer; the status stays with the request
until it returns to the thread. -/
def State.offer (s : State) (r : IssueReq) : State :=
  let (w, g) := descTarget s r.field r.desc
  if w ≠ s.ownWafer ∨ s.stopped g ∨ s.halted then s
  else
    let sheaf := (s.thread r.field r.thread).sheaf
    let src := s.engineSource r.field r.parish 6
    let (s1, code) := s.enqueueAt g r.desc src r.field sheaf
    s1.modIssue r.id (fun q => { q with status := some code })

/-- TASK_ENQUEUE, R127: a forwarded descriptor reaches its target field, from this wafer or, under
R128, from another one; the target checks the parish and enqueues it. -/
def execTaskEnqueue (ref : IssueRef) (s : State) : Out :=
  match ref with
  | .own id =>
    match s.crofters.issues.find? (fun r => decide (r.id = id) && r.status.isNone) with
    | none => .next s
    | some r => .next (s.offer r)
  | .foreign src g desc =>
    if desc.length ≠ 64 then .fault (.malformedOperand "TASK_ENQUEUE")
    else if s.stopped g.val || s.halted then .next s
    else
      let issuer := match src.field with | some h => h.val | none => g.val
      let (s1, code) := s.enqueueAt g.val desc src issuer none
      .next (s1.send (.issueStatus src.wafer code))

/-- Does the target of a request lie on this wafer? -/
def State.issueLocal (s : State) (r : IssueReq) : Bool :=
  decide ((descTarget s r.field r.desc).1 = s.ownWafer)

/-- ISSUE_STATUS_RETURN, R130: rd takes the issue status.  The operand is the status another wafer
returned; an issue within this wafer returns the one its target decided.  FULL keeps a thread in
xt.issue.w waiting (R135). -/
def execIssueStatusReturn (id : Nat) (remote : BitVec 32) (s : State) : Out :=
  match s.crofters.issues.find? (fun r => decide (r.id = id)) with
  | none => .next s
  | some r =>
    if s.stopped r.field || s.halted then .next s
    else
      let st := if s.issueLocal r then r.status else some remote.toNat
      match st with
      | none => .next s
      | some code =>
        if r.wait && decide (code % 256 = issueFull) then
          .next (s.modIssue id (fun q => { q with status := some code }))
        else
          let s1 := { s with crofters := { s.crofters with
            issues := s.crofters.issues.filter (fun q => !decide (q.id = id)) } }
          let s2 := s1.modThread r.field r.thread (fun x => { x with st := .ready, waitDesc := [] })
          .next (s2.issueEnd r.field r.thread (Fin.ofNat 32 r.rd) code)

/-- ISSUE_W_RETRY, R135: a thread that waits in xt.issue.w tries again; each attempt is a forwarding
request of its own. -/
def execIssueWRetry (id : Nat) (s : State) : Out :=
  match s.crofters.issues.find? (fun r => decide (r.id = id)) with
  | none => .next s
  | some r =>
    if !r.wait || s.stopped r.field || s.halted then .next s
    else
      match r.status with
      | none => .next s
      | some code =>
        if code % 256 ≠ issueFull then .next s
        else
          let s1 := s.modIssue id (fun q => { q with status := none })
          if s.issueLocal r then .next (s1.offer r)
          else .next (s1.send (.issue (Fin.ofNat 16 (descTarget s r.field r.desc).1) r.desc))

/-! ### Pause, exit, bell, kill -/

/-- XT_PAUSE, R123: the thread leaves READY for rs1[15:0] crofter cycles. -/
def execXtPause (f : FieldId) (t : ThreadId) (a : XtArgs) (s : State) : Out :=
  let x := s.thread f.val t.val
  let n := bits (x.xr a.rs1) 0 16
  .next (s.gate f.val t.val
    (if decide (a.rd.val ≠ 0 ∨ a.rs2.val ≠ 0 ∨ a.rs3.val ≠ 0) || a.aq || a.rl then
       s.illegal f.val t.val 0#64
     else if n = 0 then s.retireWith f.val t.val 4 id
     else s.retireWith f.val t.val 4 (fun y => { y with st := .paused, pause := n })))

/-- PAUSE_EXPIRE, R123: the cycles of a pause have run and the thread is READY.  Counts do not
advance while the wafer is frozen (R139). -/
def execPauseExpire (f : FieldId) (t : ThreadId) (s : State) : Out :=
  let x := s.thread f.val t.val
  if !s.fieldRuns f.val || decide (x.st ≠ .paused) then .next s
  else .next (s.setThread f.val t.val { x with st := .ready, pause := 0 })

/-- XT_EXIT, R113: end the thread with exit code rs1[31:0]. -/
def execXtExit (f : FieldId) (t : ThreadId) (a : XtArgs) (s : State) : Out :=
  let x := s.thread f.val t.val
  .next (s.gate f.val t.val
    (if decide (a.rd.val ≠ 0 ∨ a.rs2.val ≠ 0 ∨ a.rs3.val ≠ 0) || a.aq || a.rl then
       s.illegal f.val t.val 0#64
     else (s.retire f.val t.val).endThread f.val t.val (bits (x.xr a.rs1) 0 32)))

/-- XT_BELL, R124: ring the field's bell (R607); it is counted in every mode. -/
def execXtBell (f : FieldId) (t : ThreadId) (a : XtArgs) (s : State) : Out :=
  .next (s.gate f.val t.val
    (if decide (a.rd.val ≠ 0 ∨ a.rs1.val ≠ 0 ∨ a.rs2.val ≠ 0 ∨ a.rs3.val ≠ 0) || a.aq || a.rl then
       s.illegal f.val t.val 0#64
     else
       ((s.addWrap RF.CRF_BELL_COUNT_COUNT f.val 0 1).modBell f.val (fun b => { b with rang := true })
         ).retireWith f.val t.val 4 id))

/-- XT_KILL, R113, R120: in M mode, end the thread as faulted with code rs1[31:0]; illegal in U
mode. -/
def execXtKill (f : FieldId) (t : ThreadId) (a : XtArgs) (s : State) : Out :=
  let x := s.thread f.val t.val
  .next (s.gate f.val t.val
    (if decide (x.priv = .u) ||
         decide (a.rd.val ≠ 0 ∨ a.rs2.val ≠ 0 ∨ a.rs3.val ≠ 0) || a.aq || a.rl then
       s.illegal f.val t.val 0#64
     else (s.retire f.val t.val).killThread f.val t.val (bits (x.xr a.rs1) 0 32)))

/-! ### Thread start -/

/-- Crofters of a field that take threads: not fenced and not in reset (R109, R137). -/
def State.crofterRuns (s : State) (f c : Nat) : Bool :=
  !(s.getF RF.WFR_FLDf_STATUS_CRF_FENCED 0 f).testBit c && !s.resets.crofters.contains (f, c)

/-- The lowest-numbered free hardware thread of an in-service crofter (R109). (Mark: DEDUCED, log 35.) -/
def State.freeSlot (s : State) (f : Nat) : Option Nat :=
  (List.range 128).find? (fun t => decide ((s.thread f t).st = .free) && s.crofterRuns f (t / 8))

/-- CRF_STACK_SLOT in bytes. -/
def State.slotBytes (s : State) (f : Nat) : Nat := s.getF RF.CRF_STACK_SLOT_SLOT f 0 * 4096

/-- The PMP that the monitor programs at a thread start (R810): entry 0 guards the 4 KiB block below
the stack where it lies wholly above the TLS area, entry 1 grants U mode the whole commons.
(Mark: DEDUCED, log 36.) -/
def monitorPmp (slotLo slotHi stack tls : Nat) : NMap Word :=
  let block := (slotHi - stack) / 4096 * 4096 - 4096
  let guard := decide (4096 ≤ (slotHi - stack) / 4096 * 4096) && decide (slotLo + tls ≤ block)
  let m0 : NMap Word := []
  let m1 := if guard then
      (m0.put 0#64 csrPmpcfg0 (BitVec.ofNat 64 (0x18 + 0x1F * 256))).put 0#64 (csrPmpaddr 0)
        (BitVec.ofNat 64 (block / 4 + 511))
    else m0.put 0#64 csrPmpcfg0 (BitVec.ofNat 64 (0x1F * 256))
  m1.put 0#64 (csrPmpaddr 1) (BitVec.ofNat 64 (2 ^ 54 - 1))

/-- A thread as it starts, R111. (Mark: DEDUCED, log 36.) -/
def startedThread (csr : NMap Word) (l : Launch) (idx k slotLo slotHi : Nat) : Thread :=
  let x0 : Thread := { freeThread with st := .ready, priv := .u, sheaf := some l.sheaf, index := idx,
                                       pc := BitVec.ofNat 64 (l.image + l.entry) }
  let x1 := ((((((x0.setX 10 (BitVec.ofNat 64 idx)).setX 11 (BitVec.ofNat 64 l.total)).setX 12
    (BitVec.ofNat 64 l.arg)).setX 13 (BitVec.ofNat 64 k)).setX 2 (BitVec.ofNat 64 slotHi)).setX 4
    (BitVec.ofNat 64 slotLo)).setX 3 (BitVec.ofNat 64 (l.image + l.gp))
  let kept := csr.filter (fun e => decide (e.1 < 0x3A0 ∨ e.1 = csrInstret) &&
    decide (e.1 ≠ csrFcsr))
  let all := (monitorPmp slotLo slotHi l.stackBytes l.tlsBytes).foldl
    (fun (m : NMap Word) e => m.put 0#64 e.1 e.2) kept
  { x1 with csr := all }

/-- THREAD_START, R109–R111: the field starts its next received thread, in ascending order, on the
lowest-numbered free hardware thread; sheaves are served in the order in which they arrived.
(Mark: DEDUCED, log 35.) -/
def State.threadStart (s : State) (f : Nat) : State :=
  if !s.fieldRuns f || decide (s.fieldPower f ≠ 0) then s
  else
    match s.crofters.launches.find? (fun l => decide (l.field = f) && decide (l.next < l.last)) with
    | none => s
    | some l =>
      match s.freeSlot f with
      | none => s
      | some k =>
        let slot := s.slotBytes f
        let lo := s.getF RF.CRF_STACK_BASE_BASE f 0 * 4096 + k * slot
        let th := startedThread (s.thread f k).csr l l.next k lo (lo + slot)
        let ls := s.crofters.launches.map (fun y =>
          if y.field = f ∧ y.sheaf = l.sheaf then { y with next := y.next + 1 } else y)
        let s1 := { s with crofters := { s.crofters with
          launches := ls.filter (fun y => decide (y.next < y.last)) } }
        (s1.setThread f k th).modBell f (fun b => { b with ran := true })

def execThreadStart (f : FieldId) (s : State) : Out := .next (s.threadStart f.val)

/-! ### Shared-read-only invalidation -/

/-- SRO_INV_START, R118: a write of 1 to CRF_SRO_INV.START. -/
def State.sroInvStart (s : State) (f : Nat) : State :=
  { s with commons := { s.commons with sroInv := setInsert f s.commons.sroInv } }.setFlag
    RF.CRF_SRO_INV_BUSY f 0 true

def execSroInvStart (f : FieldId) (s : State) : Out :=
  if s.inService f.val then .next (s.sroInvStart f.val) else .next s

/-- SRO_INV_DONE, R118: the invalidation completes and BUSY reads 0. -/
def execSroInvDone (f : FieldId) (s : State) : Out :=
  if s.commons.sroInv.contains f.val then
    .next ({ s with commons := { s.commons with sroInv := s.commons.sroInv.filter (· != f.val) }
      }.setFlag RF.CRF_SRO_INV_BUSY f.val 0 false)
  else .next s

end Sys2Proof.Machine
end

