-- ==== Sys2Proof/Machine/RvExec.lean ====
section
/-! DEFINITION. The standard instructions of a crofter (R102–R106, R116): integer, control flow,
floating point, atomics, reservations, fences, CSRs, traps and their return. -/

namespace Sys2Proof.Machine

/-! ### RV_INSTRUCTION -/

/-- A floating-point result under the rounding mode of the instruction; an invalid mode is an illegal
instruction. -/
def State.fpRound (s : State) (f t n : Nat) (rm : RmField) (g : RMode → Thread → Thread) : State :=
  match rmOf rm ((s.thread f t).csrv csrFcsr) with
  | none => s.illegal f t 0#64
  | some m => s.retireWith f t n (g m)

/-- Execute a decoded standard instruction that makes no memory access (R102). -/
def State.rvRun (s : State) (f t n : Nat) (i : RvInstr) : State :=
  let x := s.thread f t
  match i with
  | .alu op rd a b => s.retireWith f t n (fun y => y.setX rd (aluOp op (x.xr a) (x.xr b)))
  | .aluImm op rd a imm => s.retireWith f t n (fun y => y.setX rd (aluImmOp op (x.xr a) imm))
  | .shiftImm op rd a sh => s.retireWith f t n (fun y => y.setX rd (shiftImmOp op (x.xr a) sh))
  | .unary op rd a => s.retireWith f t n (fun y => y.setX rd (unaryOp op (x.xr a)))
  | .lui rd imm => s.retireWith f t n (fun y => y.setX rd (sextw (imm.toNat * 4096)))
  | .auipc rd imm => s.retireWith f t n (fun y => y.setX rd (x.pc + sextw (imm.toNat * 4096)))
  | .jal rd off => s.jumpTo f t (x.pc + off.signExtend 64)
      (fun y => y.setX rd (x.pc + BitVec.ofNat 64 n))
  | .jalr rd a imm => s.jumpTo f t ((x.xr a + imm.signExtend 64) &&& ~~~1#64)
      (fun y => y.setX rd (x.pc + BitVec.ofNat 64 n))
  | .branch op a b off =>
    if branchTaken op (x.xr a) (x.xr b) then s.jumpTo f t (x.pc + off.signExtend 64) id
    else s.retireWith f t n id
  | .fp op w rm rd a b =>
    match op with
    | .sgnj | .sgnjn | .sgnjx | .min | .max =>
      s.retireWith f t n (fun y => y.fpWrite w rd
        (fpArith op (fpFmtOf w) .rne (fpRead w (x.fr a)) (fpRead w (x.fr b))))
    | _ => s.fpRound f t n rm (fun m y => y.fpWrite w rd
        (fpArith op (fpFmtOf w) m (fpRead w (x.fr a)) (fpRead w (x.fr b))))
  | .fma op w rm rd a b c => s.fpRound f t n rm (fun m y => y.fpWrite w rd
      (fpFma op (fpFmtOf w) m (fpRead w (x.fr a)) (fpRead w (x.fr b)) (fpRead w (x.fr c))))
  | .fcmp op w rd a b =>
    let (r, fl) := fpCompare op (fpFmtOf w) (fpRead w (x.fr a)) (fpRead w (x.fr b))
    s.retireWith f t n (fun y => (y.setX rd (b2w r)).accrue fl)
  | .fclass w rd a => s.retireWith f t n (fun y =>
      y.setX rd (BitVec.ofNat 64 (fpClass (fpFmtOf w) (fpRead w (x.fr a)))))
  | .fcvtInt w iw rm rd a => s.fpRound f t n rm (fun m y =>
      let (r, fl) := fpToInt iw (fpFmtOf w) m (fpRead w (x.fr a))
      (y.setX rd r).accrue fl)
  | .fcvtFromInt w iw rm rd a => s.fpRound f t n rm (fun m y =>
      y.fpWrite w rd (fpFromInt iw (fpFmtOf w) m (x.xr a)))
  | .fcvtSD rm rd a => s.fpRound f t n rm (fun m y =>
      y.fpWrite .s rd (fpCvt fp64 fp32 m (x.fr a).toNat))
  | .fcvtDS rd a => s.retireWith f t n (fun y =>
      y.fpWrite .d rd (fpCvt fp32 fp64 .rne (fpRead .s (x.fr a))))
  | .fmvToX w rd a => s.retireWith f t n (fun y => y.setX rd (match w with
      | .s => sextw (bits (x.fr a) 0 32)
      | .d => x.fr a))
  | .fmvFromX w rd a => s.retireWith f t n (fun y => y.setFr rd (match w with
      | .s => fpBox .s (bits (x.xr a) 0 32)
      | .d => x.xr a))
  | .wfi => s.retireWith f t n id
  | .illegal raw => s.illegal f t (raw.setWidth 64)
  | .fetchFault st => s.accessTrap f t causeFetchAccess (AccStatus.ofCode st.toNat) x.pc

/-- RV_INSTRUCTION, R102. (Marks: PRESUMED, log 37; PRESUMED, log 41.) -/
def execRvInstruction (f : FieldId) (t : ThreadId) (len : InstrLen) (i : RvInstr) (s : State) : Out :=
  .next (s.gate f.val t.val (s.rvRun f.val t.val (lenBytes len) i))

/-! ### CSRs -/

/-- xtid, R105. (Mark: DEDUCED, log 47.) -/
def State.xtid (s : State) (f t : Nat) : Nat :=
  t + f * 2 ^ 7 + s.ownWafer * 2 ^ 14 +
    (match s.parishOf f with | some p => p.val | none => 0) * 2 ^ 18 + 1 * 2 ^ 27

/-- misa: RV64 with A, C, D, F, I, M, U and non-standard extensions (R102). -/
def misaValue : Nat := 2 ^ 63 + (2 ^ 0 + 2 ^ 2 + 2 ^ 3 + 2 ^ 5 + 2 ^ 8 + 2 ^ 12 + 2 ^ 20 + 2 ^ 23)

/-- Standard machine-level CSRs that read as zero and discard writes: mie, mip, mcountinhibit,
mvendorid, marchid, mimpid, mconfigptr, menvcfg and the unused performance counters. -/
def csrZero (n : Nat) : Bool :=
  decide (n ∈ [0x304, 0x344, 0x320, 0x30A, 0xF11, 0xF12, 0xF13, 0xF15]) ||
    decide (0xB03 ≤ n ∧ n ≤ 0xB1F) || decide (0x323 ≤ n ∧ n ≤ 0x33F)

/-- The value of a CSR; `none` where the number is not implemented.  The cycle counters are free
values: the spec gives no cycle a command takes. (Marks: PRESUMED, log 38; DESIGN CHOICE, log 42.) -/
def State.csrRead (s : State) (f t n : Nat) : Option Word :=
  let x := s.thread f t
  if n = 0x001 then some (BitVec.ofNat 64 (bits (x.csrv csrFcsr) 0 5))
  else if n = 0x002 then some (BitVec.ofNat 64 (bits (x.csrv csrFcsr) 5 3))
  else if n = 0x003 then some (BitVec.ofNat 64 (bits (x.csrv csrFcsr) 0 8))
  else if n = 0xC00 ∨ n = 0xB00 then some (Config.freeWord s.serial 0)
  else if n = 0xC01 then some (BitVec.ofNat 64 s.fabricTime)
  else if n = 0xC02 ∨ n = 0xB02 then some (x.csrv csrInstret)
  else if n = 0xCC0 then some (BitVec.ofNat 64 (s.xtid f t))
  else if n = 0x301 then some (BitVec.ofNat 64 misaValue)
  else if n = 0x306 then some 7#64
  else if n = 0xF14 then some (BitVec.ofNat 64 (f * 128 + t))
  else if n = csrXtastat ∨ n = csrXtctl ∨ n = csrMstatus ∨ n = csrMtvec ∨ n = 0x340 ∨
      n = csrMepc ∨ n = csrMcause ∨ n = csrMtval ∨ n = csrPmpcfg0 then some (x.csrv n)
  else if 0x3B0 ≤ n ∧ n ≤ 0x3B7 then some (x.csrv n)
  else if csrZero n then some 0#64
  else none

/-- A write of pmpcfg0: a locked entry keeps its byte, reserved bits read zero, and W without R is
not taken. -/
def pmpcfgWrite (old v : Word) : Word :=
  (List.range 8).foldl (fun (w : Word) i =>
    let o := bits old (8 * i) 8
    let b := bits v (8 * i) 8 &&& 0x9F
    let b1 := if b % 4 = 2 then b - 2 else b
    putBits w (8 * i) 8 (if o.testBit 7 then o else b1)) 0#64

/-- Is a pmpaddr register locked, by its own entry or by a locked TOR entry above it? -/
def pmpaddrLocked (cfg : Word) (i : Nat) : Bool :=
  bit cfg (8 * i + 7) ||
    (decide (i < 7) && bit cfg (8 * (i + 1) + 7) && decide (bits cfg (8 * (i + 1) + 3) 2 = 1))

/-- Write a CSR: only the writable bits change (R102, R105). (Mark: PRESUMED, log 38.) -/
def Thread.csrWrite (x : Thread) (n : Nat) (v : Word) : Thread :=
  let fc := x.csrv csrFcsr
  if n = 0x001 then x.setCsr csrFcsr (putBits fc 0 5 (bits v 0 5))
  else if n = 0x002 then x.setCsr csrFcsr (putBits fc 5 3 (bits v 0 3))
  else if n = 0x003 then x.setCsr csrFcsr (BitVec.ofNat 64 (bits v 0 8))
  else if n = 0xB02 then x.setCsr csrInstret (v - 1#64)
  else if n = csrXtastat then x.setCsr n (BitVec.ofNat 64 (bits v 0 7))
  else if n = csrXtctl then x.setCsr n (BitVec.ofNat 64 (bits v 0 1))
  else if n = csrMstatus then
    let mpp := if bits v 11 2 = 3 then 3 else 0
    let w := putBits (putBits (putBits 0#64 3 1 (bits v 3 1)) 7 1 (bits v 7 1)) 11 2 mpp
    x.setCsr n (putBits (putBits w 17 1 (bits v 17 1)) 21 1 (bits v 21 1))
  else if n = csrMtvec then x.setCsr n (v &&& ~~~2#64)
  else if n = csrMepc then x.setCsr n (v &&& ~~~1#64)
  else if n = 0x340 ∨ n = csrMcause ∨ n = csrMtval then x.setCsr n v
  else if n = csrPmpcfg0 then x.setCsr n (pmpcfgWrite (x.csrv n) v)
  else if 0x3B0 ≤ n ∧ n ≤ 0x3B7 then
    if pmpaddrLocked (x.csrv csrPmpcfg0) (n - 0x3B0) then x
    else x.setCsr n (BitVec.ofNat 64 (bits v 0 55))
  else x

/-- CSR_ACCESS, R105: csrrw, csrrs and csrrc with a register or an immediate source.  An absent
number, a privilege too low and a write of a read-only number are illegal instructions. -/
def State.csrAccess (s : State) (f t : Nat) (a : CsrArgs) : State :=
  let x := s.thread f t
  let n := a.csr.toNat
  let src : Word := if a.imm then BitVec.ofNat 64 a.src.val else x.xr a.src
  let writes : Bool := match a.op with
    | .rw => true
    | _ => decide (a.src.val ≠ 0)
  let needM := decide (nbits n 8 2 = 3)
  let ro := decide (nbits n 10 2 = 3)
  match s.csrRead f t n with
  | none => s.illegal f t 0#64
  | some old =>
    if (needM && decide (x.priv = .u)) || (writes && ro) || decide (nbits n 8 2 = 1 ∨ nbits n 8 2 = 2) then
      s.illegal f t 0#64
    else
      let new : Word := match a.op with
        | .rw => src
        | .rs => old ||| src
        | .rc => old &&& ~~~src
      let s1 := { s with serial := s.serial + 1 }
      s1.retireWith f t 4 (fun y => (if writes then y.csrWrite n new else y).setX a.rd old)

/-- (Mark: PRESUMED, log 37.) -/
def execCsrAccess (f : FieldId) (t : ThreadId) (a : CsrArgs) (s : State) : Out :=
  .next (s.gate f.val t.val (s.csrAccess f.val t.val a))

/-! ### Traps and their return -/

/-- The return of mret: mode and interrupt enable from mstatus, pc from mepc (R116). -/
def Thread.mret (x : Thread) : Thread :=
  let ms := x.csrv csrMstatus
  let ms1 := putBits (putBits (putBits ms 3 1 (bits ms 7 1)) 7 1 1) 11 2 0
  let mode := if bits ms 11 2 = 3 then Priv.m else Priv.u
  let ms2 := if mode = .u then putBits ms1 17 1 0 else ms1
  { x.setCsr csrMstatus ms2 with priv := mode, pc := x.csrv csrMepc }

/-- MRET, R116: illegal in U mode. -/
def execMret (f : FieldId) (t : ThreadId) (s : State) : Out :=
  let x := s.thread f.val t.val
  .next (s.gate f.val t.val
    (match x.priv with
     | .u => s.illegal f.val t.val 0#64
     | .m => (s.setThread f.val t.val x.mret).retire f.val t.val))

/-- ECALL, R810: from U the trap enters the monitor, which provides no service: a0 = −1, pc = mepc + 4,
and the thread resumes.  From M the trap enters mtvec. -/
def execEcall (f : FieldId) (t : ThreadId) (s : State) : Out :=
  let x := s.thread f.val t.val
  .next (s.gate f.val t.val
    (match x.priv with
     | .m => s.trap f.val t.val causeEcallM 0#64
     | .u => (s.trap f.val t.val causeEcallU 0#64).modThread f.val t.val (fun y =>
         ((y.setX 10 (BitVec.ofInt 64 (-1))).setCsr csrMepc (y.csrv csrMepc + 4#64)).mret)))

/-- EBREAK, R810: from U the monitor ends the thread by xt.kill with code 3; from M the trap enters
mtvec. -/
def execEbreak (f : FieldId) (t : ThreadId) (s : State) : Out :=
  let x := s.thread f.val t.val
  .next (s.gate f.val t.val
    (match x.priv with
     | .m => s.trap f.val t.val causeBreak x.pc
     | .u => (s.trap f.val t.val causeBreak x.pc).killThread f.val t.val 3))

/-! ### Fences -/

/-- FENCE_I, R117: the executing crofter's L1I is invalidated; the model keeps no stale line.
(Mark: DESIGN CHOICE, log 21.) -/
def execFenceI (f : FieldId) (t : ThreadId) (s : State) : Out :=
  .next (s.gate f.val t.val (s.retireWith f.val t.val 4 id))

/-- FENCE, R78: with writes in the predecessor set (`pred` bits i, o, r, w) the thread waits until
every earlier write is acknowledged; earlier reads have returned their data before it issues.
(Mark: DESIGN CHOICE, log 21.) -/
def execFence (f : FieldId) (t : ThreadId) (pred succ : BitVec 4) (s : State) : Out :=
  let w := pred.getLsbD 0 || pred.getLsbD 2
  let _ := succ
  .next (s.gate f.val t.val
    (if w && !(s.threadReqs f.val t.val).isEmpty then
       s.modThread f.val t.val (fun x => { x with st := .waitMem, fencing := true, waitLen := 4 })
     else s.retireWith f.val t.val 4 id))

/-! ### Loads, atomics and reservations -/

/-- A loaded value as its register receives it (R102). -/
def loadValue (size : MemSize) (uns : Bool) (data : List Byte) : Word :=
  let v := leNat data
  let w := match size with | .b => 8 | .h => 16 | .w => 32 | .d => 64
  if uns then BitVec.ofNat 64 v else BitVec.ofInt 64 (sint w v)

/-- Write the destination of a load. -/
def Thread.loadTo (x : Thread) (d : LoadDst) (data : List Byte) : Thread :=
  match d with
  | .x rd size uns => x.setX rd (loadValue size uns data)
  | .f rd size => x.setFr rd (match size with
    | .w => fpBox .s (leNat data)
    | _ => BitVec.ofNat 64 (leNat data))

/-- The reservation an LR takes: only where the home is the thread's own field (R82). -/
def State.reserveAt (s : State) (f a n : Nat) : Option (Nat × Nat) :=
  match s.placeOf a with
  | some (g, r, o) => if g = f ∧ r ≤ 1 then some (cellKey g r o, n) else none
  | none => none

/-- The answer of a load (R106, R132): data and FRESH, a load access fault, or zero data with
QUIET_LOADS. -/
def State.loadDone (s : State) (f t n addr : Nat) (dst : LoadDst) (lr : Bool) (size : Nat) (r : Reply) :
    State :=
  let s0 := s.modThread f t (fun x => { x with st := .ready })
  match r.status with
  | .ok =>
    let res := s.reserveAt f addr size
    s0.retireWith f t n (fun x =>
      let y := (x.loadTo dst r.data).noteFresh r.fresh
      if lr then { y with reservation := res } else y)
  | st =>
    if bit ((s.thread f t).csrv csrXtctl) 0 then
      s0.retireWith f t n (fun x =>
        let y := (x.loadTo dst (List.replicate size 0#8)).noteFail st.code
        if lr then { y with reservation := none } else y)
    else s0.accessTrap f t causeLoadAccess st (BitVec.ofNat 64 addr)

/-- AMO, R82: the read-modify-write instructions of RV64A, performed at the home field. -/
def execAmo (f : FieldId) (t : ThreadId) (a : AmoArgs) (s : State) : Out :=
  let x := s.thread f.val t.val
  .next (s.gate f.val t.val
    (match a.op with
     | .faddS | .faddBf2 | .addSatD | .casD => s.illegal f.val t.val 0#64
     | op => s.amoRun f t op a.wide a.rl a.rd (x.xr a.rs1) (x.xr a.rs2) 0#64))

/-- LR, R82: a load that reserves its address when its home is the thread's own field.
(Mark: PRESUMED, log 45.) -/
def execLr (f : FieldId) (t : ThreadId) (a : ResArgs) (s : State) : Out :=
  let x := s.thread f.val t.val
  let ea := x.xr a.rs1
  let n := if a.wide then 8 else 4
  let dst := LoadDst.x a.rd (if a.wide then .d else .w) false
  let src := s.threadSource f.val
  .next (s.gate f.val t.val
    (if a.rl && s.unperformed f.val t.val then s
     else if s.eaBad f.val t.val ea n 1 then s.trap f.val t.val causeLoadAccess ea
     else if ea.toNat % n ≠ 0 then s.alignFault f.val t.val causeLoadAlign ea false
     else
       match s.locate src ea.toNat n false true with
       | .fail st tgt =>
         (s.noteAccess tgt st false false ea.toNat src).loadDone f.val t.val 4 ea.toNat dst true n
           (.failed st n)
       | _ =>
         match s.request noDevice src ea.toNat (.read n) (.load f t dst true) with
         | (s1, _, none) =>
           s1.modThread f.val t.val (fun y => { y with st := .waitMem, waitLen := 4 })
         | (s1, _, some r) => s1.loadDone f.val t.val 4 ea.toNat dst true n r))

/-- The answer of an SC that stored (R82, R132). -/
def State.scDone (s : State) (f t addr : Nat) (rd : XReg) (r : Reply) : State :=
  let s0 := s.modThread f t (fun x => { x with st := .ready })
  match r.status with
  | .ok => s0.retireWith f t 4 (fun x => x.setX rd 0#64)
  | st => s0.accessTrap f t causeStoreAccess st (BitVec.ofNat 64 addr)

/-- SC, R82: without a reservation of the same bytes, or with a home other than the thread's own
field, it fails and writes a nonzero code; every SC ends the reservation. (Mark: PRESUMED, log 45.) -/
def execSc (f : FieldId) (t : ThreadId) (a : ResArgs) (s : State) : Out :=
  let x := s.thread f.val t.val
  let ea := x.xr a.rs1
  let n := if a.wide then 8 else 4
  let res := s.reserveAt f.val ea.toNat n
  .next (s.gate f.val t.val
    (if a.rl && s.unperformed f.val t.val then s
     else if s.eaBad f.val t.val ea n 2 then s.trap f.val t.val causeStoreAccess ea
     else if ea.toNat % n ≠ 0 then s.alignFault f.val t.val causeStoreAlign ea true
     else if res.isNone || decide (x.reservation ≠ res) then
       s.retireWith f.val t.val 4 (fun y => ({ y with reservation := none } : Thread).setX a.rd 1#64)
     else
       let s0 := s.modThread f.val t.val (fun y => { y with reservation := none })
       match s0.request noDevice (s.threadSource f.val) ea.toNat
           (.write (leBytes n (x.xr a.rs2).toNat) false) (.sc f t a.rd) with
       | (s1, _, none) => s1.modThread f.val t.val (fun y => { y with st := .waitMem })
       | (s1, _, some r) => s1.scDone f.val t.val ea.toNat a.rd r))

end Sys2Proof.Machine
end

