-- ==== Sys2Proof/Machine/Complete.lean ====
section
/-! DEFINITION. The end of a commons request: its answer reaches whoever waits for it (R78, R90, R91,
R133, R503), fills end (R86), and held requests go on. -/

namespace Sys2Proof.Machine

/-! ### Host reads and writes through the BARs -/

/-- An error of a BAR access of a function: captured in HST_FN_WIN_ERR, and its ERR_VECTOR is sent
(R503). -/
def State.winErr (s : State) (fn code : Nat) (isWrite : Bool) (off : Nat) : State :=
  let s1 := s.capture RF.HST_FN_WIN_ERR_VALID RF.HST_FN_WIN_ERR_MORE fn fun t =>
    t.setF RF.HST_FN_WIN_ERR_CODE fn 0 code |>.setFlag RF.HST_FN_WIN_ERR_WRITE fn 0 isWrite
      |>.setF RF.HST_FN_WIN_ERR_OFFSET fn 0 off
  s1.sendMsix (Fin.ofNat 33 fn) (s1.getF RF.HST_FN_CTL_ERR_VECTOR fn 0)

/-- Fill in one line of the BAR reads that wait for a request. -/
def BarRead.fill (x : BarRead) (id : Nat) (bad : Bool) (data : List Byte) : BarRead :=
  if x.parts.any (fun p => p.1 == id) then
    { x with poison := x.poison || bad,
             parts := x.parts.map (fun p => if p.1 = id then (p.1, some data) else p) }
  else x

def BarRead.done (x : BarRead) : Bool := x.parts.all (fun p => p.2.isSome)

/-- Send the completions of the BAR reads that have all their lines; a POISON answer of any line makes
the completion poisoned (R503). -/
def State.barFlush (s : State) : State :=
  let l := s.host.reads.filter BarRead.done
  l.foldl (fun (t : State) x => t.send (.barReply (Fin.ofNat 33 x.fn) (b2n x.poison)
      (x.parts.flatMap (fun p => p.2.getD []))))
    { s with host := { s.host with reads := s.host.reads.filter (fun x => !x.done) } }

/-- The answer of one line of a BAR access (R503). (Mark: DEDUCED, log 130.) -/
def State.barAnswer (s : State) (fn : Nat) (isWrite : Bool) (off id : Nat) (rep : Reply) : State :=
  let s1 := match rep.status with
    | .ok => s
    | st => s.winErr fn st.code isWrite off
  if isWrite then s1
  else
    let bad := match rep.status with
      | .poison => true
      | _ => false
    let reads := s1.host.reads.map (fun (x : BarRead) => x.fill id bad rep.data)
    { s1 with host := { s1.host with reads := reads } }.barFlush

/-! ### Answers -/

/-- Every commons request of the wafer, those that wait for a fill included. -/
def State.allReqs (s : State) : List Request :=
  s.commons.reqs ++ s.commons.fills.flatMap (fun x => x.opener :: x.waiting)

/-- Take a request out of every list. -/
def State.dropReq (s : State) (id : Nat) : State :=
  { s with commons := { s.commons with
      reqs := s.commons.reqs.filter (fun r => r.id != id)
      fills := s.commons.fills.map (fun (x : Fill) =>
        { x with waiting := x.waiting.filter (fun r => r.id != id) }) } }

/-- The parts of a split access in the order of their addresses. -/
def insertPart (r : Request) : List Request → List Request
  | [] => [r]
  | a :: l => if r.id < a.id then r :: a :: l else a :: insertPart r l

def sortParts (l : List Request) : List Request := l.foldl (fun m r => insertPart r m) []

/-- The answer of an access from those of its parts: the status of the failing part with the lowest
address, or the data of all of them (R81, R132, R133). -/
def joinParts (l : List Request) : Reply :=
  let reps := l.filterMap (·.reply)
  match reps.find? (fun r => decide (r.status ≠ .ok)) with
  | some r => ⟨r.status, reps.any (·.fresh), List.replicate ((l.map (fun q => q.kind.size)).sum) 0#8⟩
  | none => ⟨.ok, reps.any (·.fresh), reps.flatMap (·.data)⟩

/-- A thread in a FENCE goes on once no store of it is outstanding; a failed store raises its fault
there (R78, R133). -/
def State.fenceWake (s : State) (f t : Nat) : State :=
  let x := s.thread f t
  if x.fencing && (s.threadReqs f t).isEmpty then
    let s1 := s.modThread f t (fun y => { y with st := .ready, fencing := false })
    match x.storeFaults with
    | (code, addr) :: r =>
      (s1.modThread f t (fun y => { y with storeFaults := r })).accessTrap f t causeStoreError
        (AccStatus.ofCode code) (BitVec.ofNat 64 addr)
    | [] => s1.retireWith f t x.waitLen id
  else s

/-- Record the answer a tracked request got in its filter entry (R443). -/
def State.e2eAnswer (s : State) (e : Nat × Nat × Nat) (rep : Reply) : State :=
  let l := (s.verne.filters.look [] e.1).map (fun (x : E2eEntry) =>
    if x.srcField = e.2.1 ∧ x.txseq = e.2.2 then { x with answer := some rep } else x)
  { s with verne := { s.verne with filters := s.verne.filters.put [] e.1 l } }

/-- Give a finished access its answer. -/
def State.finishAccess (s : State) (r : Request) (n : Nat) (rep : Reply) : State :=
  match r.sink with
  | .load f t dst lr => s.loadDone f t (s.thread f t).waitLen r.addr dst lr n rep
  | .store f t =>
    let s1 := match rep.status with
      | .ok => s
      | st => s.modThread f t (fun x => { x with storeFaults := x.storeFaults ++ [(st.code, r.addr)] })
    s1.fenceWake f t
  | .amo f t rd => s.amoDone f t rd (decide (n = 8)) r.addr rep
  | .sc f t rd => s.scDone f t r.addr rd rep
  | .bar fn w off => s.barAnswer fn.val w off r.id rep
  | .remote w tag filter =>
    let s1 := match filter with
      | some e => s.e2eAnswer e rep
      | none => s
    s1.send (.commonsReply w tag rep.status rep.data)
  | .ended _ => s
  | .engine _ _ => s
  | .none => s

/-- A request completes with an answer: once every part of its access has one, the access ends (R81,
R90). -/
def State.answer (s : State) (r : Request) (rep : Reply) : State :=
  let s1 := (s.dropReq r.id).pushReq { r with reply := some rep, held := false }
  if s1.allReqs.any (fun q => decide (q.group = r.group) && q.reply.isNone) then s1
  else
    let parts := sortParts (s1.commons.reqs.filter (fun q => decide (q.group = r.group)))
    let s2 := { s1 with commons := { s1.commons with
      reqs := s1.commons.reqs.filter (fun q => q.group != r.group) } }
    match parts with
    | [] => s2
    | p :: _ => s2.finishAccess p ((parts.map (fun q => q.kind.size)).sum) (joinParts parts)

/-- A request completes in error; the error is captured where R92 says. -/
def State.failReq (s : State) (target : Option Nat) (r : Request) (st : AccStatus) : State :=
  (s.noteAccess target st false r.kind.writes r.addr r.src).answer r (.failed st r.kind.size)

/-- Complete every outstanding request that `p` selects with one status. -/
def State.failReqs (s : State) (target : Option Nat) (st : AccStatus) (p : Request → Bool) : State :=
  (s.commons.reqs.filter (fun r => r.reply.isNone && p r)).foldl
    (fun (t : State) r => t.failReq target r st) s

/-! ### Fills -/

/-- A request that waited in its field goes on. -/
def State.resumeReq (s : State) (r : Request) : State :=
  let (f, rg, o) := s.placeAnyway r.addr
  match (s.dropReq r.id).arrive { r with held := false } f rg o with
  | (s1, some rep) => s1.answer r rep
  | (s1, none) => s1

/-- The end of a fill (R86): the granule holds zeros and is written, its fresh bit clears, the write
that started the fill is performed, and the accesses that waited follow in arrival order. -/
def State.fillDone (s : State) (x : Fill) : State :=
  let s1 := { s with
    mem := s.mem.fillGranule x.field x.granule
    commons := { s.commons with
      fills := s.commons.fills.filter (fun y => !decide (y.field = x.field ∧ y.granule = x.granule)) } }
  (x.opener :: x.waiting).foldl (fun (t : State) r => t.resumeReq r)
    (s1.addWrap RF.FLD_CMN_FRESH_FILLS_COUNT x.field 0 1)

/-- End every fill of a field normally (R93: what reached the body completes). -/
def State.endFills (s : State) (f : Nat) : Nat → State
  | 0 => s
  | n + 1 =>
    match s.commons.fills.find? (fun x => decide (x.field = f)) with
    | none => s
    | some x => (s.fillDone x).endFills f n

/-- Fail every access that waits in a field's fills, and the fills with it. -/
def State.failFills (s : State) (f : Nat) (st : AccStatus) : State :=
  let l := s.commons.fills.filter (fun x => decide (x.field = f))
  let s1 := { s with commons := { s.commons with
    fills := s.commons.fills.filter (fun x => !decide (x.field = f)) } }
  (l.flatMap (fun x => x.opener :: x.waiting)).foldl (fun (t : State) r => t.failReq (some f) r st) s1

/-- Deliver the requests held at a field's router, in arrival order, once it accepts accesses again
(R89). -/
def State.releaseHeld (dev : DeviceAccess) (s : State) (p : Request → Bool) : State :=
  (s.commons.reqs.filter (fun r => r.held && r.reply.isNone && p r)).foldl (fun (t : State) r =>
    match (t.dropReq r.id).deliver dev { r with held := false, issued := t.now } with
    | (t1, some rep) => t1.answer r rep
    | (t1, none) => t1) s

end Sys2Proof.Machine
end

