-- ==== Sys2Proof/Machine/Scree.lean ====
section
/-! DEFINITION. The screes (R332–R355): voxelisation, rule books, and the gather and scatter of rows. -/

namespace Sys2Proof.Machine

/-! ### Descriptors, R333 -/

def scSlot (d : List Byte) (i : Nat) : Nat := bitField d (128 + 64 * i) 64
def scWord (d : List Byte) (i : Nat) : Nat := bitField d (384 + 32 * i) 32

/-- Statuses of R348. -/
def stSiteOverflow : Nat := 0x80
def stRulebookFull : Nat := 0x81
def stRulebookMismatch : Nat := 0x82
def stPairRange : Nat := 0x83

/-- Are the blank slots and reserved bits of an opcode zero (R333)? -/
def scReservedOk (d : List Byte) : Bool :=
  let s := scSlot d
  let w := scWord d
  match descOpcode d with
  | 0 => (List.range 4).all (fun i => decide (s i = 0) && decide (w i = 0))
  | 1 => (List.range 4).all (fun i => decide (s i < 2 ^ 57)) && decide (w 1 = 0 ∧ w 2 = 0 ∧ w 3 = 0)
  | 2 => (List.range 4).all (fun i => decide (s i < 2 ^ 57)) && decide (w 0 < 16 ∧ w 3 = 0)
  | 3 => (List.range 3).all (fun i => decide (s i < 2 ^ 57)) && decide (w 2 < 2 ^ 15)
  | 4 => (List.range 3).all (fun i => decide (s i < 2 ^ 57)) && decide (w 2 < 2 ^ 20)
  | _ => false

def scMode (d : List Byte) : Nat := nbits (scWord d 0) 0 2
def scKs (d : List Byte) : Nat := nbits (scWord d 0) 2 2
def scFirst (d : List Byte) : Nat := scWord d 0
def scPairs (d : List Byte) : Nat := scWord d 1 + 1
def scK (d : List Byte) : Nat := nbits (scWord d 2) 0 7
def scInvert (d : List Byte) : Bool := (scWord d 2).testBit 7
def scRowUnits (d : List Byte) : Nat := nbits (scWord d 2) 8 7
def scInit (d : List Byte) : Bool := (scWord d 2).testBit 8
def scC (d : List Byte) : Nat := nbits (scWord d 2) 9 11 + 1
def scRows (d : List Byte) : Nat := scWord d 3
def scStrideA (d : List Byte) : Nat := nbits (scSlot d 3) 0 32
def scStrideB (d : List Byte) : Nat := nbits (scSlot d 3) 32 32

/-- Bytes of a moved row. -/
def scRowBytes (d : List Byte) : Nat := if descOpcode d = 3 then 32 * scRowUnits d else 4 * scC d

/-- The lowest reason of R349 that the descriptor alone shows. -/
def scDescReason (d : List Byte) : Nat :=
  let s := scSlot d
  let mis : Bool := match descOpcode d with
    | 1 => decide (s 0 % 64 ≠ 0 ∨ s 1 % 4096 ≠ 0 ∨ s 2 % 64 ≠ 0 ∨ s 3 % 64 ≠ 0)
    | 2 => decide (s 0 % 4096 ≠ 0 ∨ s 1 % 4096 ≠ 0 ∨ s 2 % 4096 ≠ 0 ∨ s 3 % 64 ≠ 0)
    | 3 => decide (s 0 % 4096 ≠ 0 ∨ s 1 % 64 ≠ 0 ∨ s 2 % 64 ≠ 0 ∨ scStrideA d % 64 ≠ 0 ∨ scStrideB d % 64 ≠ 0)
    | 4 => decide (s 0 % 4096 ≠ 0 ∨ s 1 % 64 ≠ 0 ∨ s 2 % 64 ≠ 0 ∨ scStrideA d % 64 ≠ 0 ∨ scStrideB d % 64 ≠ 0)
    | _ => false
  if !scReservedOk d then 1
  else if mis then 2
  else if descOpcode d = 2 ∧ (scMode d = 3 ∨ scKs d = 3 ∨ (scMode d = 2) ≠ (scKs d = 0)) then 6
  else if descOpcode d = 1 ∧ 2 ^ 26 < scWord d 0 + 1 then 7
  else if (descOpcode d = 2 ∧ scMode d = 0 ∧ s 1 ≠ 0) ∨
      ((descOpcode d = 3 ∨ descOpcode d = 4) ∧ (scRowBytes d = 0 ∨ scStrideA d < scRowBytes d ∨
        scStrideB d < scRowBytes d)) then 8
  else 0

/-! ### Tasks -/

def State.scSettle (s : State) (f : Nat) (t : EngTask) (status detail : Nat) : State :=
  s.settle f unitScree t.serial status detail

/-- End a task on a failed access: its outputs are undefined (R347). -/
def State.scFail (s : State) (f : Nat) (t : EngTask) (outs : List (Nat × Nat)) (e : Nat × AccStatus) :
    State :=
  (s.undefOutputs (s.taskSource f unitScree t) outs).settleAccess f unitScree t.serial e.1 e.2

/-- May the scree start the task at the head of its queue? -/
def State.scMayStart (s : State) (f : Nat) (ok : Nat → Bool) : Bool :=
  s.unitRuns f unitScree && (s.engine f unitScree).running.isEmpty &&
    match (s.engine f unitScree).queue with
    | [] => false
    | t :: _ => ok (descOpcode t.desc)

/-- Start a task of the opcodes `ok` admits, after the descriptor's checks (R349). -/
def State.scStart (s : State) (f : Nat) (ok : Nat → Bool) (run : EngTask → State → State) : State :=
  if !s.scMayStart f ok then s
  else
    match s.startTask f unitScree with
    | none => s
    | some (t, s1) =>
      match scDescReason t.desc with
      | 0 => run t s1
      | r => s1.scSettle f t stBodyInvalid r

/-- Write output ranges, note them, and end the task: OK, the access that failed, or, where an output
meets an operand or another output, undefined values (R334). -/
def State.scWrite (s : State) (f : Nat) (t : EngTask) (operands scratch : List (Nat × Nat))
    (outs : List (Nat × List Byte)) : State :=
  let src := s.taskSource f unitScree t
  let ranges := outs.map (fun o => (o.1, o.2.length))
  let s1 := (ranges ++ scratch).foldl (fun x o => x.noteOutput f unitScree t.serial o.1 o.2) s
  let s2 := s1.undefOutputs src scratch
  match s2.writeAll src outs with
  | (s3, some e) => s3.scFail f t ranges e
  | (s3, none) =>
    let keys := ranges.map (fun o => s3.keysOf src [o])
    let others := s3.keysOf src (operands ++ scratch)
    let clash := (List.range keys.length).any (fun i =>
      keysMeet (keys.getD i []) others ||
        (List.range i).any (fun j => keysMeet (keys.getD i []) (keys.getD j [])))
    (if clash then s3.undefOutputs src ranges else s3).settleOpen f unitScree t.serial stOk

/-! ### Site lists -/

/-- Interleave a coordinate's bits into a Morton code (R338). -/
def mortonPart (x j : Nat) : Nat :=
  ((List.range 21).map (fun b => if x.testBit b then 2 ^ (3 * b + j) else 0)).sum

def morton (q : Nat × Nat × Nat) : Nat := mortonPart q.1 0 + mortonPart q.2.1 1 + mortonPart q.2.2 2

def unmortonPart (c j : Nat) : Nat :=
  ((List.range 21).map (fun b => if c.testBit (3 * b + j) then 2 ^ b else 0)).sum

def unmorton (c : Nat) : Nat × Nat × Nat := (unmortonPart c 0, unmortonPart c 1, unmortonPart c 2)

/-- The bytes of a site list (R338). (Mark: DEDUCED, log 89.) -/
def siteList (tag level : Nat) (codes : List Nat) : List Byte :=
  leBytes 4 codes.length ++ leBytes 4 tag ++ leBytes 1 level ++ List.replicate 55 0#8 ++
    codes.flatMap (leBytes 8)

/-- The tag of the next site list, and the state after it is taken (R338). (Mark: DEDUCED, log 89.) -/
def State.takeTag (s : State) (f : Nat) : Nat × State :=
  (f + s.getF RF.SCR_TAG_TAG f 0 * 128, s.addWrap RF.SCR_TAG_TAG f 0 1)

/-! ### VOXELIZE, R335–R339 -/

def pbRecord (p : List Byte) : Nat := leField p 24 1
def pbFeat (p : List Byte) : Nat := leField p 25 1
def pbRule (p : List Byte) : Nat := bitField p 208 2
def pbChOff (p : List Byte) : Nat := leField p 27 1
def pbChFmt (p : List Byte) : Nat := leField p 28 1
def pbMap (p : List Byte) : Nat := leField p 32 8
def pbScratch (p : List Byte) : Nat := leField p 40 8
def pbStride (p : List Byte) : Nat := leField p 48 4
def pbCap (p : List Byte) : Nat := leField p 52 4

/-- Bytes of a MAXFEAT channel; 0 for a format that is not allowed (R335). -/
def chBytes (fmt : Nat) : Nat :=
  if fmt = 5 ∨ fmt = 0x27 then 1 else if fmt = 6 ∨ fmt = 2 ∨ fmt = 1 then 2 else if fmt = 0 then 4 else 0

/-- The lowest reason a VOXELIZE parameter block breaks (R335, R349). -/
def voxReason (p : List Byte) : Nat :=
  let rec_ := pbRecord p
  let feat := pbFeat p
  let org := (List.range 3).map (fun i => fp32.unpack (leField p (4 * i) 4))
  let inv := (List.range 3).map (fun i => fp32.unpack (leField p (12 + 4 * i) 4))
  let pos (v : Val) : Bool := match v with | .fin neg m _ => !neg && decide (m ≠ 0) | _ => false
  if leField p 29 3 ≠ 0 ∨ leField p 56 8 ≠ 0 ∨ bitField p 210 6 ≠ 0 ∨ 2 ^ 57 ≤ pbMap p ∨
      2 ^ 57 ≤ pbScratch p then 1
  else if pbMap p % 4 ≠ 0 ∨ pbScratch p % 64 ≠ 0 then 2
  else if rec_ < 12 ∨ 76 < rec_ ∨ rec_ % 4 ≠ 0 ∨ 64 < feat ∨ rec_ < feat + 12 ∨ pbStride p % 32 ≠ 0 ∨
      pbStride p < feat then 3
  else if pbRule p = 3 ∨ (pbRule p = 2 ∧ (chBytes (pbChFmt p) = 0 ∨
      feat < pbChOff p + chBytes (pbChFmt p))) then 4
  else if org.any (fun v => !v.finite) || inv.any (fun v => !pos v) then 5
  else if pbCap p = 0 ∨ 4194304 < pbCap p then 7
  else 0

/-- A point that was not culled: its voxel, the fractions u − q of its axes, and its record. -/
structure Point where
  idx : Nat
  q : Nat × Nat × Nat
  u : List Val
  rec_ : List Byte

/-- Quantise one axis (R336). -/
def quantise (org inv c : Nat) : Option (Nat × Val) :=
  let x := fp32.unpack c
  let u := rne32 ((rne32 (Val.add .rne x (fp32.unpack org).neg)).mul (fp32.unpack inv))
  match u with
  | .fin _ _ _ =>
    let q := floorDiv u (.fin false 1 0)
    if x.finite ∧ 0 ≤ q ∧ q < 2 ^ 21 then some (q.toNat, u) else none
  | _ => none

/-- Quantise a record (R336). -/
def toPoint (p : List Byte) (i : Nat) (r : List Byte) : Option Point :=
  match quantise (leField p 0 4) (leField p 12 4) (leField r 0 4),
      quantise (leField p 4 4) (leField p 16 4) (leField r 4 4),
      quantise (leField p 8 4) (leField p 20 4) (leField r 8 4) with
  | some x, some y, some z => some ⟨i, (x.1, y.1, z.1), [x.2, y.2, z.2], r⟩
  | _, _, _ => none

/-- The distance of NEAREST (R337), as an FP32 value. -/
def Point.dist (x : Point) : Val :=
  let half := Val.fin true 1 (-1)
  let term (u : Val) (q : Nat) : Val :=
    let d := Val.add .rne (Val.add .rne u (Val.ofInt (-(q : Int)))) half
    rne32 (d.mul d)
  let tx := term (x.u.getD 0 .nan) x.q.1
  let ty := term (x.u.getD 1 .nan) x.q.2.1
  let tz := term (x.u.getD 2 .nan) x.q.2.2
  rne32 (Val.add .rne (rne32 (Val.add .rne tx ty)) tz)

/-- The MAXFEAT channel of a point. -/
def Point.chan (p : List Byte) (x : Point) : Val :=
  let fmt := pbChFmt p
  let c := leField x.rec_ (12 + pbChOff p) (chBytes fmt)
  if fmt = 5 then Val.ofInt (sint 8 c) else if fmt = 0x27 then Val.ofInt c
  else if fmt = 6 then Val.ofInt (sint 16 c) else (fmtOf fmt).unpack c

/-- Does `b`, later in input order, replace the kept point `a` (R337)? -/
def replaces (p : List Byte) (a b : Point) : Bool :=
  match pbRule p with
  | 0 => false
  | 1 => Val.lt b.dist a.dist
  | _ => if (a.chan p).isNaN then !(b.chan p).isNaN else Val.lt (a.chan p) (b.chan p)

/-- The kept point of a voxel whose points are listed in input order. -/
def keepPoint (p : List Byte) : Point → List Point → Point
  | a, [] => a
  | a, b :: r => keepPoint p (if replaces p a b then b else a) r

/-- The occupied voxels as ascending Morton codes. -/
def siteCodes (l : List (Nat × Nat × Nat)) : List Nat := l.foldl (fun m q => setInsert (morton q) m) []

/-- VOXELIZE on its parameter block and records. -/
def State.voxRun (s : State) (f : Nat) (t : EngTask) (p : List Byte) (raw : List Byte) : State :=
  let d := t.desc
  let n := scWord d 0 + 1
  let rb := pbRecord p
  let recs := (List.range n).map (fun i => (raw.drop (i * rb)).take rb)
  let pts := (List.range n).map (fun i => toPoint p i (recs.getD i []))
  let kept := pts.filterMap id
  let culled := n - kept.length
  let codes := siteCodes (kept.map (·.q))
  let s1 := (s.addWrap RF.SCR_POINTS_COUNT f 0 n).addSat RF.SCR_CULLED_COUNT f 0 culled
  let s2 := if culled = 0 then s1 else s1.raise RF.SCR_EVENT_CULLED f
  if pbCap p < codes.length then
    let (k, s3) := s2.fresh
    let outs := [(scSlot d 1, 64 + 8 * pbCap p), (scSlot d 2, pbCap p * pbStride p)] ++
      (if pbMap p = 0 then [] else [(pbMap p, 4 * n)]) ++ [(pbScratch p, 16 * n)]
    (s3.undefOutputs (s3.taskSource f unitScree t) outs).scSettle f t stSiteOverflow
      (pbCap p + 1 + Config.freeNat k 0 % (codes.length - pbCap p))
  else
    let (tag, s3) := s2.takeTag f
    let sites := codes.filterMap (fun c =>
      match kept.filter (fun x => decide (morton x.q = c)) with
      | a :: r => some (keepPoint p a r)
      | [] => none)
    let feats := (List.range sites.length).map (fun i =>
      (scSlot d 2 + i * pbStride p, ((sites.map (·.rec_)).getD i []).drop 12 |>.take (pbFeat p)))
    let index := pts.flatMap (fun o => leBytes 4 (match o with
      | some x => (codes.findIdx (fun c => decide (c = morton x.q)))
      | none => 0xFFFFFFFF))
    s3.scWrite f t [(scSlot d 0, raw.length), (scSlot d 3, 64)] [(pbScratch p, 16 * n)]
      ([(scSlot d 1, siteList tag 0 codes)] ++ feats ++
        (if pbMap p = 0 then [] else [(pbMap p, index)]))

/-! ### RULEBOOK, R340–R342 -/

/-- Width of a kernel. -/
def kWidth (ks : Nat) : Nat := if ks = 0 then 2 else if ks = 1 then 3 else 5

/-- Radius of a kernel; 0 for DOWN. -/
def kRadius (ks : Nat) : Nat := if ks = 0 then 0 else if ks = 1 then 1 else 2

/-- The offsets of a kernel in the order of k (R340). -/
def kOffsets (ks : Nat) : List (Int × Int × Int) :=
  let w := kWidth ks
  let r : Int := kRadius ks
  (List.range (w * w * w)).map (fun k =>
    (((k % w : Nat) : Int) - r, ((k / w % w : Nat) : Int) - r, ((k / (w * w) : Nat) : Int) - r))

abbrev Site := Int × Int × Int

def siteOf (c : Nat) : Site := let q := unmorton c; (q.1, q.2.1, q.2.2)

def Site.plus (a b : Site) : Site := (a.1 + b.1, a.2.1 + b.2.1, a.2.2 + b.2.2)

/-- Is a site inside the grid of a level? -/
def Site.inside (a : Site) (level : Nat) : Bool :=
  let n : Int := (2 ^ (21 - level) : Nat)
  decide (0 ≤ a.1 ∧ a.1 < n ∧ 0 ≤ a.2.1 ∧ a.2.1 < n ∧ 0 ≤ a.2.2 ∧ a.2.2 < n)

def Site.code (a : Site) : Nat := morton (a.1.toNat, a.2.1.toNat, a.2.2.toNat)

/-- The output sites of a rule book, as ascending codes (R340). -/
def outSites (mode ks level : Nat) (ins : List Nat) : List Nat :=
  if mode = 0 then ins
  else if mode = 1 then
    (ins.flatMap (fun c => ((kOffsets ks).map (fun o =>
      (siteOf c).plus (-o.1, -o.2.1, -o.2.2))).filter (fun a => Site.inside a level))).foldl
      (fun m a => setInsert (Site.code a) m) []
  else ins.foldl (fun m c =>
    let a := siteOf c
    setInsert (Site.code (a.1 / 2, a.2.1 / 2, a.2.2 / 2)) m) []

/-- The pairs of one offset, ascending in output index (R340, R341). -/
def offsetPairs (mode : Nat) (ins outs : List Nat) (o : Int × Int × Int) : List (Nat × Nat) :=
  (List.range outs.length).filterMap (fun j =>
    let a := siteOf (outs.getD j 0)
    let b : Site := if mode = 2 then (2 * a.1 + o.1, 2 * a.2.1 + o.2.1, 2 * a.2.2 + o.2.2)
      else a.plus o
    if 0 ≤ b.1 ∧ 0 ≤ b.2.1 ∧ 0 ≤ b.2.2 then
      match ins.findIdx? (fun c => decide (siteOf c = b)) with
      | some i => some (i, j)
      | none => none
    else none)

/-- Place pair arrays one after another, each 64-byte aligned. -/
def placeArrays (o : Nat) : List (List (Nat × Nat)) → List (Nat × List (Nat × Nat))
  | [] => []
  | l :: r => (o, l) :: placeArrays (roundUp (o + 8 * l.length) 64) r

/-- The pieces of a rule book: header with directory, and the arrays (R341). -/
def ruleBook (base mode ks inCount outCount inTag outTag : Nat) (arrays : List (List (Nat × Nat))) :
    List (Nat × List Byte) × Nat :=
  let k3 := arrays.length
  let placed := placeArrays (roundUp (64 + 16 * k3) 64) arrays
  let total := (arrays.map List.length).sum
  let header := leBytes 4 0x4B425253 ++ leBytes 4 inCount ++ leBytes 4 outCount ++
    leBytes 4 (mode + ks * 4 + k3 * 256) ++ leBytes 4 inTag ++ leBytes 4 outTag ++ leBytes 8 total ++
    List.replicate 32 0#8
  let dir := placed.flatMap (fun x => leBytes 4 x.2.length ++ leBytes 8 x.1 ++ leBytes 4 0)
  let bytes := (placed.map (fun x => x.1 + 8 * x.2.length)).foldl max (64 + 16 * k3)
  ((base, header ++ dir) :: placed.map (fun x =>
    (base + x.1, x.2.flatMap (fun p => leBytes 4 p.1 ++ leBytes 4 p.2))), bytes)

/-- RULEBOOK on its input site list. (Mark: DESIGN CHOICE, log 88.) -/
def State.ruleRun (s : State) (f : Nat) (t : EngTask) (h raw : List Byte) : State :=
  let d := t.desc
  let mode := scMode d
  let ks := scKs d
  let level := leField h 8 1
  let ins := (List.range (leField h 0 4)).map (fun i => leField raw (8 * i) 8)
  let outs := outSites mode ks level ins
  let cap := min (scWord d 1) 4194304
  let k3 := (kOffsets ks).length
  let scratch := [(scSlot d 3, 8 * ins.length * k3)]
  let src := s.taskSource f unitScree t
  let undef (x : State) : State := x.undefOutputs src
    ((if mode = 0 then [] else [(scSlot d 1, 64 + 8 * cap)]) ++ [(scSlot d 2, 4096 * scWord d 2)] ++ scratch)
  if mode = 2 ∧ level = 20 then s.scSettle f t stBodyInvalid 6
  else if cap < outs.length then
    let (k, s1) := s.fresh
    (undef s1).scSettle f t stSiteOverflow (cap + 1 + Config.freeNat k 0 % (outs.length - cap))
  else
    let arrays := (kOffsets ks).map (offsetPairs mode ins outs)
    let inTag := leField h 4 4
    let outTag := if mode = 0 then inTag else (s.takeTag f).1
    let (pieces, bytes) := ruleBook (scSlot d 2) mode ks ins.length outs.length inTag outTag arrays
    let units := ceilDiv bytes 4096
    if scWord d 2 < units then (undef s).scSettle f t stRulebookFull units
    else
      let s1 := if mode = 0 then s else (s.takeTag f).2
      s1.scWrite f t [(scSlot d 0, 64 + raw.length)] scratch
        ((if mode = 0 then [] else
          [(scSlot d 1, siteList outTag (if mode = 2 then level + 1 else level) outs)]) ++ pieces)

/-! ### GATHER and SCATTER, R344–R346 -/

/-- The check of a rule book for GATHER or SCATTER (R345): the cause, 0 for none.  `h` is the header,
`e` the directory entry of offset k. -/
def bookCause (d h e : List Byte) : Nat :=
  let inSide := decide (descOpcode d = 3) != scInvert d
  let rows := if inSide then bitField h 32 32 else bitField h 64 32
  if bitField h 0 32 ≠ 0x4B425253 then 1
  else if bitField h 104 24 ≤ scK d then 2
  else if scRows d ≠ rows then 3
  else if bitField e 0 32 < scFirst d + scPairs d then 4
  else 0

/-- Read the pairs a task names after the checks of R345. -/
def State.readPairs (s : State) (f : Nat) (t : EngTask) :
    State × Option (List Byte × List (Nat × Nat)) :=
  let d := t.desc
  let src := s.taskSource f unitScree t
  match s.bulkRead src (scSlot d 0) 64 with
  | (s1, ⟨_, some e⟩) => (s1.scFail f t [] e, none)
  | (s1, ⟨h, none⟩) =>
    let c0 := bookCause d h (List.replicate 16 0xFF#8)
    if c0 ≠ 0 then (s1.scSettle f t stRulebookMismatch c0, none)
    else
      match s1.bulkRead src (scSlot d 0 + 64 + 16 * scK d) 16 with
      | (s2, ⟨_, some e⟩) => (s2.scFail f t [] e, none)
      | (s2, ⟨e, none⟩) =>
        let c := bookCause d h e
        if c ≠ 0 then (s2.scSettle f t stRulebookMismatch c, none)
        else
          match s2.bulkRead src (scSlot d 0 + bitField e 32 64 + 8 * scFirst d) (8 * scPairs d) with
          | (s3, ⟨_, some x⟩) => (s3.scFail f t [] x, none)
          | (s3, ⟨b, none⟩) =>
            (s3, some (h, (List.range (scPairs d)).map (fun j => (leField b (8 * j) 4, leField b (8 * j + 4) 4))))

/-- Move rows one pair after another (R344, R346). -/
def State.movePairs (s : State) (f : Nat) (t : EngTask) (h : List Byte) :
    Nat → List (Nat × Nat) → State
  | _, [] => s.settleOpen f unitScree t.serial stOk
  | j, (i, o) :: r =>
    let d := t.desc
    let src := s.taskSource f unitScree t
    let n := scRowBytes d
    let outs := (s.engine f unitScree).running.flatMap (·.outputs)
    let a := if scInvert d then o else i
    let b := if scInvert d then i else o
    if bitField h 32 32 ≤ i ∨ bitField h 64 32 ≤ o then
      (s.undefOutputs src outs).scSettle f t stPairRange (scFirst d + j)
    else if descOpcode d = 3 then
      let dst := scSlot d 2 + j * scStrideB d
      match s.bulkRead src (scSlot d 1 + a * scStrideA d) n with
      | (s1, ⟨_, some e⟩) => s1.scFail f t outs e
      | (s1, ⟨row, none⟩) =>
        match (s1.noteOutput f unitScree t.serial dst n).bulkWrite src dst row with
        | (s2, some e) => s2.scFail f t (outs ++ [(dst, n)]) e
        | (s2, none) => (s2.addWrap RF.SCR_PAIRS_COUNT f 0 1).movePairs f t h (j + 1) r
    else
      let dst := scSlot d 2 + b * scStrideB d
      match s.readAll src [(scSlot d 1 + j * scStrideA d, n), (dst, n)] with
      | (s1, .error e) => s1.scFail f t outs e
      | (s1, .ok l) =>
        let row := (List.range (scC d)).flatMap (fun c =>
          leBytes 4 (addF32 (leField (l.getD 1 []) (4 * c) 4) (leField (l.getD 0 []) (4 * c) 4)))
        match (s1.noteOutput f unitScree t.serial dst n).bulkWrite src dst row with
        | (s2, some e) => s2.scFail f t (outs ++ [(dst, n)]) e
        | (s2, none) => (s2.addWrap RF.SCR_PAIRS_COUNT f 0 1).movePairs f t h (j + 1) r

/-- The operands and outputs of a GATHER or SCATTER, for the overlap rule of R334. -/
def moveRanges (d h : List Byte) (l : List (Nat × Nat)) : List (Nat × Nat) × List (Nat × Nat) :=
  let n := scRowBytes d
  let a (p : Nat × Nat) : Nat := if scInvert d then p.2 else p.1
  let b (p : Nat × Nat) : Nat := if scInvert d then p.1 else p.2
  let book := (scSlot d 0, 64 + 16 * bitField h 104 24)
  if descOpcode d = 3 then
    (book :: l.map (fun p => (scSlot d 1 + a p * scStrideA d, n)),
      (List.range l.length).map (fun j => (scSlot d 2 + j * scStrideB d, n)))
  else
    (book :: (List.range l.length).map (fun j => (scSlot d 1 + j * scStrideA d, n)),
      if scInit d then (List.range (scRows d)).map (fun r => (scSlot d 2 + r * scStrideB d, n))
      else l.map (fun p => (scSlot d 2 + b p * scStrideB d, n)))

/-- Leave the outputs undefined where they meet the operands (R334). -/
def State.moveClash (s : State) (f : Nat) (t : EngTask) (h : List Byte) (l : List (Nat × Nat)) : State :=
  let src := s.taskSource f unitScree t
  let (ins, outs) := moveRanges t.desc h l
  if keysMeet (s.keysOf src ins) (s.keysOf src outs) then s.undefOutputs src outs else s

/-! ### The commands -/

/-- SCR_NOP (R333): a NOP, or a reserved opcode, whose body is checked. -/
def execScrNop (f : FieldId) (s : State) : Out :=
  .next (s.scStart f.val (fun op => decide (op = 0 ∨ 4 < op))
    (fun t s1 => s1.settleOpen f.val unitScree t.serial stOk))

/-- VOXELIZE (R336–R339). (Mark: DESIGN CHOICE, log 88.) -/
def execVoxelize (f : FieldId) (s : State) : Out :=
  .next (s.scStart f.val (fun op => decide (op = 1)) (fun t s1 =>
    let src := s1.taskSource f.val unitScree t
    match s1.bulkRead src (scSlot t.desc 3) 64 with
    | (s2, ⟨_, some e⟩) => s2.scFail f.val t [] e
    | (s2, ⟨p, none⟩) =>
      match voxReason p with
      | 0 =>
        match s2.bulkRead src (scSlot t.desc 0) ((scWord t.desc 0 + 1) * pbRecord p) with
        | (s3, ⟨_, some e⟩) => s3.scFail f.val t [] e
        | (s3, ⟨raw, none⟩) => s3.voxRun f.val t p raw
      | r => s2.scSettle f.val t stBodyInvalid r))

/-- RULEBOOK (R340–R342). -/
def execRulebook (f : FieldId) (s : State) : Out :=
  .next (s.scStart f.val (fun op => decide (op = 2)) (fun t s1 =>
    let src := s1.taskSource f.val unitScree t
    match s1.bulkRead src (scSlot t.desc 0) 64 with
    | (s2, ⟨_, some e⟩) => s2.scFail f.val t [] e
    | (s2, ⟨h, none⟩) =>
      match s2.bulkRead src (scSlot t.desc 0 + 64) (8 * leField h 0 4) with
      | (s3, ⟨_, some e⟩) => s3.scFail f.val t [] e
      | (s3, ⟨raw, none⟩) => s3.ruleRun f.val t h raw))

/-- SCR_GATHER (R344). -/
def execScrGather (f : FieldId) (s : State) : Out :=
  .next (s.scStart f.val (fun op => decide (op = 3)) (fun t s1 =>
    match s1.readPairs f.val t with
    | (s2, none) => s2
    | (s2, some (h, l)) => (s2.movePairs f.val t h 0 l).moveClash f.val t h l))

/-- SCATTER (R346): with INIT, every output row is first set to +0.0. -/
def execScatter (f : FieldId) (s : State) : Out :=
  .next (s.scStart f.val (fun op => decide (op = 4)) (fun t s1 =>
    match s1.readPairs f.val t with
    | (s2, none) => s2
    | (s2, some (h, l)) =>
      let d := t.desc
      let n := scRowBytes d
      let rows := if scInit d then (List.range (scRows d)).map (fun r =>
          (scSlot d 2 + r * scStrideB d, List.replicate n 0#8)) else []
      let s3 := rows.foldl (fun x o => x.noteOutput f.val unitScree t.serial o.1 n) s2
      match s3.writeAll (s3.taskSource f.val unitScree t) rows with
      | (s4, some e) => s4.scFail f.val t (rows.map (fun o => (o.1, n))) e
      | (s4, none) => (s4.movePairs f.val t h 0 l).moveClash f.val t h l))

/-- SCR_TASK_COMPLETE (R347). -/
def execScrTaskComplete (f : FieldId) (cycles : Nat) (s : State) : Out :=
  .next (
    if !s.unitRuns f.val unitScree then s
    else
      match s.completeOldest f.val unitScree cycles with
      | none => s
      | some (_, _, s1) => s1.addWrap RF.SCR_BUSY_CYCLES_COUNT f.val 0 cycles)

end Sys2Proof.Machine
end

