-- ==== Sys2Proof/Machine/Loom.lean ====
section
/-! DEFINITION. The looms (R356–R390): job checks, sessions and their commits, output surfaces, records
and completion.  What a codec's own specification makes of a bitstream arrives with the frame. -/

namespace Sys2Proof.Machine

def idleLoom : Loom := { dec := none, enc := none, last := [] }

def State.loom (s : State) (f : Nat) : Loom := s.looms.look idleLoom f

def State.modLoom (s : State) (f : Nat) (g : Loom → Loom) : State :=
  { s with looms := s.looms.put idleLoom f (g (s.loom f)) }

/-! ### Blocks -/

def lJob (d : List Byte) : Nat := bitField d 128 57
def lSession (d : List Byte) : Nat := bitField d 192 57

/-- Reserved bits and alignment of a loom descriptor (R362). -/
def lDescReason (d : List Byte) : Nat :=
  let op := descOpcode d
  if bitField d 185 7 ≠ 0 ∨ bitField d 249 263 ≠ 0 ∨ 4 < op then 1
  else if op ≠ 0 ∧ (lJob d % 64 ≠ 0 ∨ (op ≠ 4 ∧ lSession d % 4096 ≠ 0)) then 2
  else 0

/-! ### Surfaces, R361 -/

def sfAddr (e : List Byte) : Nat := bitField e 0 57
def sfFmt (e : List Byte) : Nat := bitField e 64 4
def sfW (e : List Byte) : Nat := bitField e 80 16
def sfH (e : List Byte) : Nat := bitField e 96 16
def sfPitch (e : List Byte) : Nat := bitField e 112 32

/-- Bytes of a sample. -/
def sfSample (fmt : Nat) : Nat := if fmt = 1 ∨ fmt = 3 then 2 else 1

/-- Is a surface descriptor valid (R361)? -/
def surfaceOk (e : List Byte) : Bool :=
  decide (bitField e 57 7 = 0) && decide (sfFmt e ≤ 3) && decide (bitField e 68 12 = 0) &&
    decide (bitField e 144 112 = 0) && decide (sfAddr e % 256 = 0) && decide (16 ≤ sfW e) &&
    decide (sfW e ≤ 16384) && decide (16 ≤ sfH e) && decide (sfH e ≤ 16384) &&
    decide (sfPitch e % 256 = 0) && decide (sfW e * sfSample (sfFmt e) ≤ sfPitch e)

/-- Bytes of a surface (R361). -/
def surfaceBytes (e : List Byte) : Nat :=
  if sfFmt e ≤ 1 then sfPitch e * roundUp (sfH e) 16 * 3 / 2 else 3 * sfPitch e * sfH e

/-- The rows of a w × h picture of `b`-byte samples placed in an NV12 or P010 surface. -/
def surfaceRows (e : List Byte) (w h : Nat) (pic : List Byte) : List (Nat × List Byte) :=
  let b := sfSample (sfFmt e)
  let cw := (w + 1) / 2 * 2
  let luma := (List.range h).map (fun r =>
    (sfAddr e + r * sfPitch e, (pic.drop (r * w * b)).take (w * b)))
  let chroma := (List.range ((h + 1) / 2)).map (fun r =>
    (sfAddr e + (roundUp (sfH e) 16 + r) * sfPitch e,
      (pic.drop (w * h * b + r * cw * b)).take (cw * b)))
  luma ++ chroma

/-- Bytes of a w × h 4:2:0 picture. -/
def pictureBytes (w h b : Nat) : Nat := (w * h + (w + 1) / 2 * 2 * ((h + 1) / 2)) * b

/-- Samples of a picture. -/
def samplesOf (b : Nat) (pic : List Byte) : List Nat :=
  (List.range (pic.length / b)).map (fun i => leField pic (b * i) b)

/-- Change 8-bit samples into P010 samples and back (R370). -/
def toFmt (src dst : Nat) (pic : List Byte) : List Byte :=
  if src = dst then pic
  else if dst = 1 then (samplesOf 1 pic).flatMap (fun v => leBytes 2 (v * 4 * 64))
  else (samplesOf 2 pic).flatMap (fun v => leBytes 1 (min 255 (roundShift .rne false (v / 64) 2)))

/-! ### Sessions, R364–R366 -/

def ibDir (b : List Byte) : Nat := leField b 0 1
def ibCodec (b : List Byte) : Nat := leField b 1 1
def ibDepth (b : List Byte) : Nat := leField b 2 1
def ibSlots (b : List Byte) : Nat := leField b 3 1
def ibW (b : List Byte) : Nat := leField b 4 2
def ibH (b : List Byte) : Nat := leField b 6 2
def ibDpb (b : List Byte) : Nat := leField b 8 8
def ibSlotBytes (b : List Byte) : Nat := leField b 16 4
def ibProfile (b : List Byte) : Nat := leField b 20 1
def ibLevel (b : List Byte) : Nat := leField b 21 1
def ibMinigop (b : List Byte) : Nat := leField b 24 1
def ibRefs (b : List Byte) : Nat := leField b 25 1
def ibFraming (b : List Byte) : Nat := leField b 26 1

/-- Bytes a reference slot needs (R365). (Mark: DESIGN CHOICE, log 94.) -/
def slotNeed (b : List Byte) : Nat :=
  let p := roundUp (ibW b * (if ibDepth b = 10 then 2 else 1)) 256
  roundUp (p * roundUp (ibH b) 16 * 3 / 2 + 16 * ceilDiv (ibW b) 16 * ceilDiv (ibH b) 16) 4096

/-- Slot configuration of R364 and R365. -/
def slotsOk (b : List Byte) : Bool :=
  decide (1 ≤ ibSlots b) && decide (ibSlots b ≤ 17) && decide (ibSlotBytes b % 4096 = 0) &&
    decide (slotNeed b ≤ ibSlotBytes b) &&
    (decide (ibDir b = 0) || decide (ibRefs b + 2 ^ ibMinigop b + 1 ≤ ibSlots b))

/-- Is the codec, profile and level of an init block in scope (R357, R358)? -/
def codecOk (b : List Byte) : Bool :=
  let enc := decide (ibDir b = 1)
  decide (ibDir b ≤ 1) && decide (ibCodec b ≤ 3) && decide (ibDepth b = 8 ∨ ibDepth b = 10) &&
    (!enc ||
      (decide (ibCodec b ≠ 3) && decide (ibLevel b ≤ 51) && decide (ibW b ≤ 4096) &&
        decide (ibH b ≤ 2304) &&
        (if ibCodec b = 0 then decide (ibProfile b = 0)
         else if ibCodec b = 1 then decide (ibProfile b = (if ibDepth b = 10 then 2 else 1))
         else decide (ibProfile b = 100) && decide (ibDepth b = 8))))

/-- The lowest reason an init block breaks (R364, R384). -/
def initReason (b : List Byte) : Nat :=
  if (b.drop 27).any (fun x => x != 0#8) ∨ 2 ^ 57 ≤ ibDpb b ∨ 1 < ibFraming b then 1
  else if ibDpb b % 4096 ≠ 0 then 2
  else if !codecOk b then 3
  else if !slotsOk b then 4
  else if ibDir b = 1 ∧ (3 < ibMinigop b ∨ ibRefs b = 0 ∨ 4 < ibRefs b) then 5
  else 0

/-- One byte of a CRC-32 with the reflected polynomial 0xEDB88320. (Mark: PRESUMED, log 92.) -/
def crcBits : Nat → Nat → Nat
  | 0, c => c
  | n + 1, c => crcBits n (if c % 2 = 1 then (c / 2) ^^^ 0xEDB88320 else c / 2)

/-- CRC-32 of a byte list. (Marks: PRESUMED, log 92; PRESUMED, log 107.) -/
def crc32 (l : List Byte) : Nat :=
  (l.foldl (fun c b => crcBits 8 (c ^^^ b.toNat)) 0xFFFFFFFF) ^^^ 0xFFFFFFFF

def loomMagic : Nat := 0x4D4F4F4C

/-- A session block from its parts.  The private part is the model's own layout: the init block at
byte 64, the rate-control block at byte 128, and five counters at byte 192. (Mark: DEDUCED, log 91.) -/
def sessionBlock (frames bytes w h : Nat) (init rc : List Byte) (counters : List Nat) : List Byte :=
  let rest := leBytes 4 frames ++ leBytes 4 bytes ++ leBytes 2 w ++ leBytes 2 h ++
    List.replicate 44 0#8 ++ init ++ rc ++ counters.flatMap (leBytes 4) ++
    List.replicate (3904 - 4 * counters.length) 0#8
  leBytes 4 loomMagic ++ leBytes 4 (crc32 rest) ++ rest

def ssFrames (b : List Byte) : Nat := leField b 8 4
def ssBytes (b : List Byte) : Nat := leField b 12 4
def ssInit (b : List Byte) : List Byte := (b.drop 64).take 64
def ssRc (b : List Byte) : List Byte := (b.drop 128).take 64
/-- Counters of a session: 0 next DEC_INDEX, 1 next OUT_INDEX, 2 next B output, 3 inputs supplied,
4 frames encoded. -/
def ssCounter (b : List Byte) (i : Nat) : Nat := leField b (192 + 4 * i) 4
def ssCounters (b : List Byte) : List Nat := (List.range 5).map (ssCounter b)

/-- SESSION_INVALID detail of a block for a direction, 0 for none (R366, R384). (Mark: DEDUCED, log 91.) -/
def sessionReason (b : List Byte) (enc : Bool) : Nat :=
  if leField b 0 4 ≠ loomMagic ∨ leField b 4 4 ≠ crc32 (b.drop 8) then 1
  else if ibDir (ssInit b) ≠ b2n enc ∨ (enc ∧ ibCodec (ssInit b) = 3) then 2
  else if !slotsOk (ssInit b) then 3
  else 0

def stStreamStopped : Nat := 0x80
def stSessionInvalid : Nat := 0x81
def stOutFull : Nat := 0x82

/-! ### Starting jobs -/

/-- The pipe a task runs on, by its opcode and, for SESSION_INIT, its init block: `true` is encode. -/
def State.lPipe (s : State) (f : Nat) (t : EngTask) : Bool :=
  match descOpcode t.desc with
  | 3 => true
  | 1 => decide (leNat (s.engRead (s.taskSource f unitLoom t) (lJob t.desc) 1).2.data = 1)
  | _ => false

/-- Is a pipe busy: a running task of it is not complete? -/
def State.lBusy (s : State) (f : Nat) (enc : Bool) : Bool :=
  (s.engine f unitLoom).running.any (fun t => s.lPipe f t == enc)

/-- The first queued task of a pipe (R363): tasks of the other pipe may be passed. -/
def State.lHead (s : State) (f : Nat) (enc : Bool) : Option EngTask :=
  (s.engine f unitLoom).queue.find? (fun t => s.lPipe f t == enc)

/-- Start a task of a pipe: out of the queue, into the running list. -/
def State.lTake (s : State) (f : Nat) (t : EngTask) : State :=
  s.modEngine f unitLoom (fun e => { e with
    queue := e.queue.filter (fun x => x.serial != t.serial),
    running := e.running ++ [{ t with start := some s.now }], lastProgress := s.now })

def State.lSettle (s : State) (f : Nat) (t : EngTask) (status detail : Nat) : State :=
  s.settle f unitLoom t.serial status detail

def State.lFail (s : State) (f : Nat) (t : EngTask) (e : Nat × AccStatus) : State :=
  s.settleAccess f unitLoom t.serial e.1 e.2

/-- Start the head task of a pipe where its opcode is admitted, after the descriptor's checks. -/
def State.lStart (s : State) (f : Nat) (enc : Bool) (ok : Nat → Bool) (run : EngTask → State → State) :
    State :=
  if !s.unitRuns f unitLoom || s.lBusy f enc then s
  else
    match s.lHead f enc with
    | none => s
    | some t =>
      if !ok (descOpcode t.desc) then s
      else
        let s1 := s.lTake f t
        match lDescReason t.desc with
        | 0 => run t s1
        | r => s1.lSettle f t stBodyInvalid r

/-- Read `n` surface descriptors. -/
def State.readSurfaces (s : State) (src : Source) (a n : Nat) :
    State × Except (Nat × AccStatus) (List (List Byte)) :=
  match s.bulkRead src a (32 * n) with
  | (s1, ⟨_, some e⟩) => (s1, .error e)
  | (s1, ⟨b, none⟩) => (s1, .ok ((List.range n).map (fun i => (b.drop (32 * i)).take 32)))

/-- The lowest reason a decode job block breaks, short of its surfaces (R368, R384). -/
def decJobReason (b : List Byte) : Nat :=
  let aEn := bitField b 112 1 == 1
  let bEn := leField b 13 1 ≠ 0
  if bitField b 114 6 ≠ 0 ∨ 3 < leField b 12 1 ∨ leField b 58 6 ≠ 0 ∨ (b.drop 88).any (fun x => x != 0#8) ∨
      2 ^ 57 ≤ leField b 0 8 then 1
  else if leField b 24 8 % 32 ≠ 0 ∨ leField b 32 8 % 32 ≠ 0 ∨ leField b 40 8 % 32 ≠ 0 then 2
  else if leField b 8 4 = 0 ∨ 2 ^ 31 < leField b 8 4 ∨ leField b 16 4 = 0 ∨ 65536 < leField b 16 4 ∨
      (aEn ∧ leField b 22 1 = 0) ∨ (bEn ∧ leField b 23 1 = 0) then 5
  else if 1 < leField b 15 1 ∨ 3 < leField b 56 1 ∨ 2 < leField b 57 1 then 6
  else 0

/-- Is the rate-control block valid (R373)? -/
def rcOk (b : List Byte) : Bool :=
  let mode := leField b 0 1
  decide (mode ≤ 3) && decide (leField b 4 1 ≤ 63) && decide (leField b 5 1 ≤ 48) &&
    (decide (mode = 2) || decide (leField b 5 1 = 0)) && decide (leField b 6 1 ≤ leField b 7 1) &&
    (decide (mode ≤ 1) || (decide (leField b 24 4 ≠ 0) && decide (leField b 28 4 ≠ 0)))

/-- The lowest reason an encode job block breaks, short of its surfaces (R372, R384). -/
def encJobReason (b sess : List Byte) : Nat :=
  let apply := bitField b 97 1 == 1
  if bitField b 99 5 ≠ 0 then 1
  else if leField b 0 8 % 32 ≠ 0 ∨ leField b 32 8 % 32 ≠ 0 then 2
  else if 65536 < leField b 8 4 ∨ leField b 40 4 < leField b 8 4 + 48 then 5
  else if (apply ∧ !rcOk ((b.drop 64).take 64)) ∨ (!apply ∧ ssCounter sess 3 = 0 ∧ ssFrames sess = 0) then 7
  else 0

/-- The FMT a bit depth asks for. -/
def depthFmt (depth : Nat) : Nat := if depth = 10 then 1 else 0

/-- Read a job's session and check it (R366). -/
def State.openSession (s : State) (f : Nat) (t : EngTask) (enc : Bool)
    (run : List Byte → State → State) : State :=
  match s.bulkRead (s.taskSource f unitLoom t) (lSession t.desc) 4096 with
  | (s1, ⟨_, some e⟩) => s1.lFail f t e
  | (s1, ⟨b, none⟩) =>
    match sessionReason b enc with
    | 0 => run b s1
    | r => s1.lSettle f t stSessionInvalid r

/-- Start a DECODE job (R366, R368). -/
def State.decStart (s : State) (f : Nat) (t : EngTask) : State :=
  let src := s.taskSource f unitLoom t
  match s.bulkRead src (lJob t.desc) 128 with
  | (s1, ⟨_, some e⟩) => s1.lFail f t e
  | (s1, ⟨j, none⟩) =>
    match decJobReason j with
    | 0 =>
      let na := if bitField j 112 1 = 1 then leField j 22 1 else 0
      let nb := if leField j 13 1 = 0 then 0 else leField j 23 1
      match s1.readSurfaces src (leField j 32 8) na with
      | (s2, .error e) => s2.lFail f t e
      | (s2, .ok a) =>
        match s2.readSurfaces src (leField j 40 8) nb with
        | (s3, .error e) => s3.lFail f t e
        | (s3, .ok b) =>
          if !(a ++ b).all surfaceOk then s3.lSettle f t stBodyInvalid 8
          else s3.openSession f t false (fun ss s4 =>
            if a.any (fun e => decide (sfFmt e ≠ depthFmt (ibDepth (ssInit ss)))) then
              s4.lSettle f t stBodyInvalid 8
            else s4.modLoom f (fun x => { x with
              dec := some ⟨t.serial, j, ss, a, b, 0, 0, 0, 0, false⟩ }))
    | r => s1.lSettle f t stBodyInvalid r

/-- Rebuild a session block with changed counters and rate control. -/
def resession (ss rc : List Byte) (frames bytes w h : Nat) (counters : List Nat) : List Byte :=
  sessionBlock frames bytes w h (ssInit ss) rc counters

/-- Start an ENCODE job (R372, R375): its inputs join those the session holds. -/
def State.encStart (s : State) (f : Nat) (t : EngTask) : State :=
  let src := s.taskSource f unitLoom t
  match s.bulkRead src (lJob t.desc) 128 with
  | (s1, ⟨_, some e⟩) => s1.lFail f t e
  | (s1, ⟨j, none⟩) =>
    s1.openSession f t true (fun ss s2 =>
      match encJobReason j ss with
      | 0 =>
        match s2.readSurfaces src (leField j 0 8) (leField j 8 4) with
        | (s3, .error e) => s3.lFail f t e
        | (s3, .ok a) =>
          let init := ssInit ss
          if a.any (fun e => !surfaceOk e || decide (sfFmt e ≠ depthFmt (ibDepth init) ∨
              sfW e ≠ ibW init ∨ sfH e ≠ ibH init)) then s3.lSettle f t stBodyInvalid 8
          else
            let rc := if bitField j 97 1 = 1 then (j.drop 64).take 64 else ssRc ss
            let c := (ssCounters ss).set 3 (ssCounter ss 3 + a.length)
            let ss' := resession ss rc (ssFrames ss) (ssBytes ss) (ibW init) (ibH init) c
            let s4 := s3.modLoom f (fun x => { x with
              enc := some ⟨t.serial, j, ss', a, [], 0, 0, 0, 0, false⟩ })
            if a.isEmpty ∧ bitField j 96 1 = 0 then s4.lSettle f t stOk 0 else s4
      | r => s2.lSettle f t stBodyInvalid r)

/-! ### Output surfaces, R369 and R370 -/

/-- A crop of a frame: its corner, width and height. -/
structure Crop where
  x : Nat
  y : Nat
  w : Nat
  h : Nat
  deriving DecidableEq, Repr

/-- The crop of B's source, clipped to the frame (R368, R370). (Mark: DESIGN CHOICE, log 93.) -/
def cropOf (j : List Byte) (w h : Nat) : Crop :=
  let cw := leField j 52 2
  if cw = 0 then ⟨0, 0, w, h⟩
  else
    let x := leField j 48 2
    let y := leField j 50 2
    ⟨x, y, min cw (w - x), min (leField j 54 2) (h - y)⟩

/-- The part of a w × h 4:2:0 picture with `b` bytes a sample that a crop with an even corner keeps. -/
def cropPicture (b w h : Nat) (c : Crop) (pic : List Byte) : List Byte :=
  let cwid := (w + 1) / 2 * 2
  let luma := (List.range c.h).flatMap (fun q => (pic.drop (((c.y + q) * w + c.x) * b)).take (c.w * b))
  let chroma := (List.range ((c.h + 1) / 2)).flatMap (fun q =>
    (pic.drop ((w * h + (c.y / 2 + q) * cwid + c.x) * b)).take ((c.w + 1) / 2 * 2 * b))
  luma ++ chroma

/-- Is a scaling ratio within 1/8 to 2 (R370)? -/
def ratioOk (src dst : Nat) : Bool := decide (src ≤ 8 * dst) && decide (dst ≤ 2 * src) && decide (0 < src)

/-- Write one copy of a picture to a B surface: exact where neither scaling nor colour conversion is
needed and the crop's corner is even; the samples of a scaler or a colour matrix are not stated, so they
are free bytes. (Mark: DESIGN CHOICE, log 93.) -/
def State.writeCopy (s : State) (src : Source) (e : List Byte) (srcFmt w h : Nat) (c : Crop)
    (pic : List Byte) : State × Option (Nat × AccStatus) :=
  if srcFmt ≤ 1 ∧ sfFmt e ≤ 1 ∧ c.w = sfW e ∧ c.h = sfH e ∧ c.x % 2 = 0 ∧ c.y % 2 = 0 then
    s.writeAll src (surfaceRows e c.w c.h
      (toFmt srcFmt (sfFmt e) (cropPicture (sfSample srcFmt) w h c pic)))
  else (s.undefOutputs src [(sfAddr e, surfaceBytes e)], none)

/-! ### Frames -/

/-- Store a session block in memory (R366). (Mark: DESIGN CHOICE, log 94.) -/
def State.commitSession (s : State) (f : Nat) (t : EngTask) (ss : List Byte) : State × Option (Nat × AccStatus) :=
  s.bulkWrite (s.taskSource f unitLoom t) (lSession t.desc) ss

/-- The bytes of a decode frame record (R371). -/
def decRecord (decIdx outIdx status cause : Nat) (refDam bWritten : Bool) (x : DecFrame) (ai bi : Nat) :
    List Byte :=
  leBytes 4 decIdx ++ leBytes 4 outIdx ++
    leBytes 2 (status + b2n refDam * 8 + b2n bWritten * 16 + cause * 256) ++ leBytes 2 x.area.toNat ++
    leBytes 4 x.offset ++ leBytes 4 x.cycles ++
    leBytes 4 (x.width % 2 ^ 15 + x.height % 2 ^ 15 * 2 ^ 15) ++ leBytes 1 ai ++ leBytes 1 bi ++
    List.replicate 6 0#8

/-- What becomes of a decoded frame under the CONCEAL policy (R371, R379, R380): STATUS, and whether
the frame, the previous frame, or nothing is output. -/
inductive Emit where
  | frame | previous | nothing
  deriving DecidableEq, Repr

def framePolicy (conceal cause : Nat) (hidden : Bool) : Nat × Emit :=
  if cause = 5 ∨ cause = 6 ∨ cause = 7 then (2, .nothing)
  else if hidden then (3, .nothing)
  else if cause = 0 ∨ cause = 8 ∨ cause = 9 then (0, .frame)
  else
    match conceal with
    | 0 => (2, .nothing)
    | 1 => (1, .previous)
    | 2 => (1, .frame)
    | _ => (2, .nothing)

/-- The A copy: the surface index and its rows, or OUT_SMALL (R369, R380). -/
def aCopy (j : LoomJob) (k w h : Nat) (pic : List Byte) : Option (Nat × List (Nat × List Byte)) :=
  match j.a[k % j.a.length]? with
  | none => none
  | some e => if sfW e < w ∨ sfH e < h then none else some (k % j.a.length, surfaceRows e w h pic)

/-- Commit a decoded frame (R366, R369–R371, R379). (Mark: DESIGN CHOICE, log 90.) -/
def State.decFrame (s : State) (f : Nat) (t : EngTask) (j : LoomJob) (x : DecFrame) : State :=
  let src := s.taskSource f unitLoom t
  let ss := j.session
  let init := ssInit ss
  let fmt := depthFmt (ibDepth init)
  let cause0 := if j.budget then 4 else x.cause.val
  let (status, emit) := framePolicy (leField j.job 12 1) cause0 x.hidden
  let k := ssCounter ss 1
  let outs := decide (emit ≠ .nothing)
  let pic := match emit with
    | .previous => NMap.look (s.loom f).last x.picture (lSession t.desc)
    | _ => x.picture
  let a := if outs then aCopy j k x.width x.height pic else none
  let n := leField j.job 13 1
  let wantB := outs && decide (n ≠ 0) && decide ((k + 1) % n = 0)
  let jb := ssCounter ss 2
  let crop := cropOf j.job x.width x.height
  let be := j.b.getD (jb % j.b.length) []
  let scaleOk := ratioOk crop.w (sfW be) && ratioOk crop.h (sfH be)
  let bDone := wantB && scaleOk
  let cause := if cause0 ≠ 0 then cause0
    else if outs ∧ !j.a.isEmpty ∧ a.isNone then 8 else if wantB ∧ !scaleOk then 9 else 0
  let rec_ := decRecord (ssCounter ss 0) (if outs then k else 0xFFFFFFFF) status cause x.refDamaged bDone x
    (match a with | some p => p.1 | none => 0xFF) (if bDone then jb % j.b.length else 0xFF)
  let counters := [ssCounter ss 0 + 1, k + b2n outs, jb + b2n bDone, 0, 0]
  let ss' := resession ss (ssRc ss) (ssFrames ss + 1) (ssBytes ss + (x.consumed - j.consumed)) x.width
    x.height counters
  let recAddr := leField j.job 24 8 + 32 * j.records
  let rows := (match a with | some p => p.2 | none => []) ++ [(recAddr, rec_)]
  let stop (y : State) (e : Nat × AccStatus) : State := y.lFail f t e
  match s.readAll src [(leField j.job 0 8 + j.consumed, x.consumed - j.consumed)] with
  | (s1, .error e) => stop s1 e
  | (s1, .ok _) =>
    match (if bDone then s1.writeCopy src be fmt x.width x.height crop pic else (s1, none)) with
    | (s2, some e) => stop s2 e
    | (s2, none) =>
      match (s2.undefOutputs src [(ibDpb init, ibSlots init * ibSlotBytes init)]).writeAll src rows with
      | (s3, some e) => stop s3 e
      | (s3, none) =>
        match s3.commitSession f t ss' with
        | (s4, some e) => stop s4 e
        | (s4, none) =>
          let s5 := s4.addWrap RF.LOM_DEC_PIXELS_COUNT f 0 (x.width * x.height)
            |>.addWrap RF.LOM_BS_BYTES_COUNT f 0 (x.consumed - j.consumed)
            |>.addSat RF.LOM_CONCEALED_CONCEALED f 0 (b2n (decide (status = 1)))
            |>.addSat RF.LOM_CONCEALED_DROPPED f 0 (b2n (decide (status = 2)))
            |>.addSat RF.LOM_REJECTS_COUNT f 0 x.rejects
          let s6 := if x.rejects = 0 then s5 else s5.raise RF.LOM_EVENT_REJECT f
          let j' : LoomJob := ⟨j.task, j.job, ss', j.a, j.b, j.records + 1,
            j.bad + b2n (decide (status = 1 ∨ status = 2)), j.out, x.consumed, false⟩
          let s7 := (s6.noteStep f unitLoom (pipeKey false) stOk x.cycles).modLoom f (fun y =>
            let last' := if outs then NMap.put y.last [] (lSession t.desc) pic else y.last
            { y with dec := some j', last := last' })
          if leField j.job 12 1 = 3 ∧ (cause0 = 10 ∨ (1 ≤ cause0 ∧ cause0 ≤ 4)) ∧ status = 2 then
            s7.lSettle f t stStreamStopped (ssCounter ss 0 + cause0 * 2 ^ 32)
          else s7

/-- Inputs an ENCODE job may still encode: those with the look-ahead behind them, or all with FLUSH
(R375). -/
def encReady (j : LoomJob) : Nat :=
  let ss := j.session
  let look := if bitField j.job 96 1 = 1 then 0 else leField (ssRc ss) 5 1
  ssCounter ss 3 - look - ssCounter ss 4

/-- DETAIL of an ENCODE: bytes written and frames encoded (R383). -/
def encDetail (j : LoomJob) : Nat := j.out + j.records * 2 ^ 32

/-- Commit an encoded frame (R366, R375, R376). -/
def State.encFrame (s : State) (f : Nat) (t : EngTask) (j : LoomJob) (x : EncFrame) : State :=
  let src := s.taskSource f unitLoom t
  let ss := j.session
  if encReady j = 0 then s
  else if leField j.job 24 4 < j.out + x.data.length then s.lSettle f t stOutFull (encDetail j)
  else
    let rec_ := leBytes 4 x.input ++ leBytes 1 x.type.val ++ leBytes 1 x.qp.toNat ++ leBytes 2 0 ++
      leBytes 4 j.out ++ leBytes 4 x.data.length ++ leBytes 4 x.cycles ++ List.replicate 12 0#8
    let c := (ssCounters ss).set 4 (ssCounter ss 4 + 1)
    let init := ssInit ss
    let ss' := resession ss (ssRc ss) (ssFrames ss + 1) (ssCounter ss 4 + 1) (ibW init) (ibH init) c
    match (s.undefOutputs src [(ibDpb init, ibSlots init * ibSlotBytes init)]).writeAll src
        [(leField j.job 16 8 + j.out, x.data), (leField j.job 32 8 + 32 * j.records, rec_)] with
    | (s1, some e) => s1.lFail f t e
    | (s1, none) =>
      match s1.commitSession f t ss' with
      | (s2, some e) => s2.lFail f t e
      | (s2, none) =>
        let j' : LoomJob := ⟨j.task, j.job, ss', j.a, j.b, j.records + 1, j.bad,
          j.out + x.data.length, j.consumed, false⟩
        (s2.addWrap RF.LOM_ENC_PIXELS_COUNT f 0 (ibW init * ibH init)
          |>.addWrap RF.LOM_BS_BYTES_COUNT f 0 x.data.length
          |>.addSat RF.LOM_ENC_SKIPS_COUNT f 0 (b2n (decide (x.type.val = 3)))
          |>.noteStep f unitLoom (pipeKey true) stOk x.cycles).modLoom f
          (fun y => { y with enc := some j' })

/-- The task and job of a pipe, while nothing has ended it. -/
def State.lJobOf (s : State) (f : Nat) (enc : Bool) : Option (EngTask × LoomJob) :=
  match (if enc then (s.loom f).enc else (s.loom f).dec) with
  | none => none
  | some j =>
    match (s.engine f unitLoom).running.find? (fun t => t.serial == j.task && t.status.isNone) with
    | some t => some (t, j)
    | none => none

/-! ### CONVERT -/

/-- Convert the pairs of a surface list one after another (R370). -/
def State.convertAll (s : State) (src : Source) (job : List Byte) :
    List (List Byte × List Byte) → State × Option (Nat × AccStatus)
  | [] => (s, none)
  | (i, o) :: r =>
    let w := sfW i
    let h := sfH i
    let b := sfSample (sfFmt i)
    let crop := cropOf job w h
    let plain := decide (sfFmt i ≤ 1)
    let cwid := (w + 1) / 2 * 2
    let rows := if plain then
        (List.range h).map (fun q => (sfAddr i + q * sfPitch i, w * b)) ++
        (List.range ((h + 1) / 2)).map (fun q =>
          (sfAddr i + (roundUp h 16 + q) * sfPitch i, cwid * b))
      else [(sfAddr i, surfaceBytes i)]
    match s.readAll src rows with
    | (s1, .error e) => (s1, some e)
    | (s1, .ok d) =>
      if !ratioOk crop.w (sfW o) || !ratioOk crop.h (sfH o) then s1.convertAll src job r
      else
        match s1.writeCopy src o (sfFmt i) w h crop d.flatten with
        | (s2, some e) => (s2, some e)
        | (s2, none) => s2.convertAll src job r

/-- The lowest reason a CONVERT job block breaks. -/
def convReason (j : List Byte) : Nat :=
  if leField j 0 8 % 32 ≠ 0 ∨ leField j 8 8 % 32 ≠ 0 then 2
  else if leField j 16 4 = 0 then 5
  else if 3 < leField j 56 1 ∨ 2 < leField j 57 1 then 6
  else 0

/-! ### The commands -/

/-- LOM_NOP (R363): a NOP, or a reserved opcode, completes at once; `enc` is the pipe that takes it. -/
def execLomNop (f : FieldId) (cycles : Nat) (s : State) : Out :=
  .next (
    if !s.unitRuns f.val unitLoom then s
    else
      match (s.engine f.val unitLoom).queue.find? (fun t =>
          descOpcode t.desc == 0 || decide (4 < descOpcode t.desc)) with
      | none => s
      | some t =>
        let (k, s0) := s.fresh
        let s1 := s0.modEngine f.val unitLoom (fun e => { e with
          queue := e.queue.filter (fun x => x.serial != t.serial) })
        match lDescReason t.desc with
        | 0 => s1.finishTask f.val unitLoom t stOk (Config.freeWord k 0).toNat cycles
        | r => s1.finishTask f.val unitLoom t stBodyInvalid r cycles)

/-- SESSION_INIT (R364): a fresh session block is written. -/
def execSessionInit (f : FieldId) (enc : Bool) (s : State) : Out :=
  .next (s.lStart f.val enc (fun op => decide (op = 1)) (fun t s1 =>
    let src := s1.taskSource f.val unitLoom t
    match s1.bulkRead src (lJob t.desc) 64 with
    | (s2, ⟨_, some e⟩) => s2.lFail f.val t e
    | (s2, ⟨b, none⟩) =>
      match initReason b with
      | 0 =>
        let e := decide (ibDir b = 1)
        match s2.bulkWrite src (lSession t.desc) (sessionBlock 0 0 (if e then ibW b else 0)
            (if e then ibH b else 0) b (List.replicate 64 0#8) [0, 0, 0, 0, 0]) with
        | (s3, some x) => s3.lFail f.val t x
        | (s3, none) => s3.settleOpen f.val unitLoom t.serial stOk
      | r => s2.lSettle f.val t stBodyInvalid r))

/-- DECODE (R368). -/
def execDecode (f : FieldId) (s : State) : Out :=
  .next (s.lStart f.val false (fun op => decide (op = 2)) (fun t s1 => s1.decStart f.val t))

/-- ENCODE (R372). -/
def execEncode (f : FieldId) (s : State) : Out :=
  .next (s.lStart f.val true (fun op => decide (op = 3)) (fun t s1 => s1.encStart f.val t))

/-- CONVERT (R370). -/
def execConvert (f : FieldId) (s : State) : Out :=
  .next (s.lStart f.val false (fun op => decide (op = 4)) (fun t s1 =>
    let src := s1.taskSource f.val unitLoom t
    match s1.bulkRead src (lJob t.desc) 128 with
    | (s2, ⟨_, some e⟩) => s2.lFail f.val t e
    | (s2, ⟨j, none⟩) =>
      match convReason j with
      | 0 =>
        match s2.readSurfaces src (leField j 0 8) (leField j 16 4) with
        | (s3, .error e) => s3.lFail f.val t e
        | (s3, .ok a) =>
          match s3.readSurfaces src (leField j 8 8) (leField j 16 4) with
          | (s4, .error e) => s4.lFail f.val t e
          | (s4, .ok b) =>
            if !(a ++ b).all surfaceOk then s4.lSettle f.val t stBodyInvalid 8
            else
              let s5 := b.foldl (fun x o => x.noteOutput f.val unitLoom t.serial (sfAddr o)
                (surfaceBytes o)) s4
              match s5.convertAll src j (List.zip a b) with
              | (s6, some e) => s6.lFail f.val t e
              | (s6, none) => s6.settleOpen f.val unitLoom t.serial stOk
      | r => s2.lSettle f.val t stBodyInvalid r))

/-- FRAME_BUDGET_EXPIRE (R378): parsing stops; the frame is concealed with cause BUDGET when it
commits, or, with `nonframe`, the buffer ended before another frame and no record is written. -/
def execFrameBudgetExpire (f : FieldId) (nonframe : Bool) (s : State) : Out :=
  .next (
    match s.lJobOf f.val false with
    | none => s
    | some (_, j) =>
      if !s.unitRuns f.val unitLoom then s
      else ((s.addSat RF.LOM_BUDGET_HITS_COUNT f.val 0 1).raise RF.LOM_EVENT_BUDGET f.val).modLoom f.val
        (fun x => { x with dec := some { j with budget := !nonframe } }))

/-- FRAME_COMMIT (R366): a frame's writes are acknowledged, and the session commits.
(Mark: DESIGN CHOICE, log 90.) -/
def execFrameCommit (f : FieldId) (r : FrameOut) (s : State) : Out :=
  match r with
  | .dec x =>
    match s.lJobOf f.val false with
    | none => .next s
    | some (t, j) =>
      let b := if ibDepth (ssInit j.session) = 10 then 2 else 1
      if x.picture.length ≠ pictureBytes x.width x.height b ∨ x.consumed < j.consumed ∨
          leField j.job 8 4 < x.consumed then .fault (.malformedOperand "FRAME_COMMIT")
      else if !s.unitRuns f.val unitLoom || decide (leField j.job 16 4 ≤ j.records) then .next s
      else .next (s.decFrame f.val t j x)
  | .enc x =>
    match s.lJobOf f.val true with
    | none => .next s
    | some (t, j) => if !s.unitRuns f.val unitLoom then .next s else .next (s.encFrame f.val t j x)

/-- LOOM_JOB_COMPLETE (R383): the job of a pipe has every write acknowledged.  A DECODE job that
nothing else ended has reached the end of its buffer, with `consumed` bytes consumed, or RECORD_CAP
records; an ENCODE job has encoded every input it may. -/
def execLoomJobComplete (f : FieldId) (enc : Bool) (consumed cycles : Nat) (s : State) : Out :=
  .next (
    match (s.engine f.val unitLoom).running.find? (fun t => s.lPipe f.val t == enc) with
    | none => s
    | some t =>
      let job := if enc then (s.loom f.val).enc else (s.loom f.val).dec
      let ended : Option (Nat × Nat) := match t.status with
        | some st => some (st, t.detail)
        | none =>
          match job with
          | none => none
          | some j =>
            if j.task ≠ t.serial then none
            else if enc then (if encReady j = 0 then some (stOk, encDetail j) else none)
            else some (stOk, max j.consumed (min consumed (leField j.job 8 4)) % 2 ^ 32 +
              j.records % 2 ^ 16 * 2 ^ 32 + j.bad % 2 ^ 16 * 2 ^ 48)
      match ended with
      | none => s
      | some (st, detail) =>
        if !s.unitRuns f.val unitLoom then s
        else
          let s1 := s.modEngine f.val unitLoom (fun e => { e with
            running := e.running.filter (fun x => x.serial != t.serial), lastProgress := s.now })
          (s1.modLoom f.val (fun x => if enc then { x with enc := none } else { x with dec := none })
            ).finishTask f.val unitLoom t st detail cycles)

end Sys2Proof.Machine
end

