-- ==== Sys2Proof/Machine/Links.lean ====
section
/-! DEFINITION. Verne links and ports (R424–R457): link states and training, flits, sequence numbers,
replay, buckets, narrowing and resending, link power and swing, pattern generators. -/

namespace Sys2Proof.Machine

/-- A link that has just entered DOWN at time `now`. -/
def idleLink : Link :=
  { seq := 0, held := [], expected := 0, naked := false, unacked := 0, ackFrom := 0, used := [],
    seen := [], freed := [], rx := [], since := 0, ctrl := none, kind := 0, ident := [],
    identCount := 0, echoed := false, stamp := 0, stampAt := 0, peerQuiet := false, swing := none,
    resend := [] }

def State.link (s : State) (k : Nat) : Link := s.verne.links.look idleLink k

def State.setLink (s : State) (k : Nat) (x : Link) : State :=
  { s with verne := { s.verne with links := s.verne.links.put idleLink k x } }

def State.modLink (s : State) (k : Nat) (g : Link → Link) : State := s.setLink k (g (s.link k))

/-! ### Link states (VRN_LNK_STATE) -/

def lsDown : Nat := 0
def lsDetect : Nat := 1
def lsPhyTrain : Nat := 2
def lsIdent : Nat := 3
def lsHeld : Nat := 4
def lsQuarantine : Nat := 5
def lsUp : Nat := 6
def lsQuietEntry : Nat := 7
def lsQuiet : Nat := 8
def lsWake : Nat := 9
def lsTest : Nat := 10
def lsPcie : Nat := 11

def State.linkState (s : State) (k : Nat) : Nat := s.getF RF.VRN_LNK_STATE_STATE k 0

/-- Enter a link state. -/
def State.enterState (s : State) (k st : Nat) : State :=
  (s.setF RF.VRN_LNK_STATE_STATE k 0 st).modLink k (fun x => { x with since := s.now })

def State.linkTarget (s : State) (k : Nat) : Nat := s.getF RF.VRN_LNK_CTL_TARGET k 0

/-- The reach class of a link: far links are class O whatever is written (R425). -/
def State.linkClass (s : State) (k : Nat) : Nat :=
  if 48 ≤ k then 3 else s.getF RF.VRN_LNK_CTL_CLASS k 0

/-! ### Sending flits -/

/-- CTRL codes of R430. -/
def ctrlIdent : Nat := 1
def ctrlQuietReq : Nat := 2
def ctrlQuietAck : Nat := 3
def ctrlWake : Nat := 4
def ctrlDownNotice : Nat := 5
def ctrlTestReq : Nat := 6
def ctrlTestAck : Nat := 7

/-- Send a CTRL flit: its code and operands. -/
def State.sendCtrl (s : State) (k code : Nat) (args : List Nat) : State :=
  s.send (.link (Fin.ofNat 72 k) 2 (code :: args))

/-- Send a CTRL request and wait for its answer. (Mark: DEDUCED, log 102.) -/
def State.ctrlRequest (s : State) (k code : Nat) : State :=
  (s.sendCtrl k code []).modLink k (fun x => { x with ctrl := some (code, 0) })

/-- The cumulative ACK a link sends. -/
def Link.ack (x : Link) : Nat := (x.expected + 65535) % 65536

/-- Send an ACK flit: ACK, NAK, and the four freed counters; what was received is now reported. -/
def State.sendAck (s : State) (k : Nat) (nak : Bool) : State :=
  let x := s.link k
  let s1 := s.send (.link (Fin.ofNat 72 k) 1
    ([x.ack, b2n nak] ++ (List.range 4).map (fun c => x.freed.look 0 c % 4096)))
  s1.modLink k (fun y => { y with unacked := 0 })

/-- NAK once per expected value (R434). -/
def State.sendNak (s : State) (k : Nat) : State :=
  if (s.link k).naked then s
  else ((s.sendAck k true).modLink k (fun x => { x with naked := true })).addSat
    RF.VRN_LNK_CRC_NAKS k 0 1

/-- The 256 bytes of a DATA flit (R429): header, CRC over bytes 0–11 and the body, body. -/
def State.flitBytes (s : State) (k : Nat) (fl : HeldFlit) (body : List Byte) : List Byte :=
  let w0 := fl.seq % 2 ^ 16 + (s.link k).ack * 2 ^ 16 + 2 ^ 32 + fl.cls % 4 * 2 ^ 36 +
    fl.wafer % 16 * 2 ^ 38 + s.ownWafer * 2 ^ 42 + fl.rack % 128 * 2 ^ 46 +
    s.getF RF.FAB_NUM_RACK 0 0 * 2 ^ 53 + b2n fl.resent * 2 ^ 60
  let h := leBytes 8 w0 ++ leBytes 4 (s.getF RF.FAB_NUM_EPOCH 0 0)
  h ++ leBytes 4 (crc32 (h ++ body)) ++ body

/-- Pad message slots to the 240 bytes of a body. -/
def flitBody (msgs : List LinkMsg) : List Byte :=
  let l := msgs.flatMap (·.raw)
  (l ++ List.replicate (240 - l.length) 0#8).take 240

/-- Put a DATA flit on the wire. -/
def State.wire (s : State) (k : Nat) (fl : HeldFlit) : State :=
  let s1 := s.send (.link (Fin.ofNat 72 k) 0 ((s.flitBytes k fl (flitBody fl.msgs)).map (·.toNat)))
  s1.modLink k (fun x => { x with unacked := 0 })

/-! ### Messages -/

/-- (Mark: DESIGN CHOICE, log 126.) -/
def msgOp (m : List Byte) : Nat := bitField m 0 5
/-- (Mark: DESIGN CHOICE, log 126.) -/
def msgSlots (m : List Byte) : Nat := bitField m 5 4
def msgTracked (m : List Byte) : Bool := bitField m 28 1 == 1
def msgAddr (m : List Byte) : Nat := bitField m 32 57
def msgTOrig (m : List Byte) : Nat := bitField m (128 + 32) 32

/-- The operations of R432. -/
def knownOps : List Nat := [1, 2, 3, 4, 5, 6, 8, 9, 0xA, 0xB, 0x10, 0x11, 0x12, 0x13, 0x14]

/-- Operations a class-O link carries (R426). -/
def looseOps : List Nat := [5, 9, 0x10, 0x11, 0x12, 0x14]

/-- Are the message's reserved bits 0, its operation known, and its slots within the limits? -/
def msgOk (m : List Byte) : Bool :=
  decide (msgOp m ∈ knownOps) && decide (bitField m 30 2 = 0) && decide (bitField m 122 6 = 0) &&
    decide (msgSlots m ≤ (if msgTracked m then 13 else 14))

/-- The messages of a body (R432), up to PAD; the flag says that a message is bad, which discards the
rest of the flit. -/
def parseBody : Nat → List Byte → List (List Byte) × Bool
  | 0, _ => ([], false)
  | n + 1, l =>
    if l.length < 16 ∨ msgOp l = 0 then ([], false)
    else
      let bytes := 16 * (1 + b2n (msgTracked l) + msgSlots l)
      if !msgOk l || decide (l.length < bytes) then ([], true)
      else
        let (r, bad) := parseBody n (l.drop bytes)
        (l.take bytes :: r, bad)

/-- The bucket of a message (R439): the XOR of the 6-bit fields of ADDR[59:6]. -/
def bucketOf (addr : Nat) : Nat :=
  [12, 18, 24, 30, 36, 42, 48, 54].foldl (fun x b => x ^^^ nbits addr b 6) (nbits addr 6 6)

/-- Age of a message in ns when a resend of it would start (R441). -/
def State.msgAge (s : State) (m : LinkMsg) : Nat :=
  if msgTracked m.raw then (s.fabricTime + 2 ^ 32 - msgTOrig m.raw) % 2 ^ 32 else s.now - m.sent

/-! ### Ports and buckets -/

/-- The port whose mask names link `k`. -/
def State.portOfLink (s : State) (k : Nat) : Option Nat :=
  (List.range 52).find? (fun p => (s.portMask p).testBit k)

def State.bucketLink (s : State) (p b : Nat) : Option Nat :=
  match s.verne.buckets.look 0 (p * 64 + b) with
  | 0 => none
  | n + 1 => some n

def State.setBucket (s : State) (p b : Nat) (k : Option Nat) : State :=
  let v := match k with
    | some n => n + 1
    | none => 0
  { s with verne := { s.verne with buckets := s.verne.buckets.put 0 (p * 64 + b) v } }

/-- The link R439 gives bucket `b` of a port. -/
def State.bucketHome (s : State) (p b : Nat) : Option Nat :=
  let l := s.liveLinks p
  l[b % l.length]?

/-- A port comes up: every bucket takes its link of R439. -/
def State.mapBuckets (s : State) (p : Nat) : State :=
  (List.range 64).foldl (fun (t : State) b => t.setBucket p b (t.bucketHome p b)) s

/-- Reassign the buckets of link `k` round-robin to the surviving members, ascending (R441); no other
bucket moves.  A port without a live member carries none. -/
def State.moveBuckets (s : State) (p k : Nat) : State :=
  let mine := (List.range 64).filter (fun b => decide (s.bucketLink p b = some k))
  let l := (s.liveLinks p).filter (· != k)
  let s1 := mine.zipIdx.foldl (fun (t : State) (b, i) => t.setBucket p b (l[i % l.length]?)) s
  s1.addSat RF.VRN_PORTp_STATE_NARROWINGS 0 p 1

/-! ### Routes between wafers -/

/-- Send an outstanding request of another wafer's commons again. -/
def State.resendReq (s : State) (w : Nat) (r : Request) : State :=
  (s.send (.commons (Fin.ofNat 16 w) r.id r.addr r.kind r.src)).addSat RF.FAB_REISSUE_REISSUED 0 0 1

/-- R474 for a commons request: reissued with its id while it is at most 25 µs old and the entry has a
new port, otherwise completed with ROUTE_LOSS. -/
def State.reissueReq (s : State) (w : Nat) (r : Request) (again : Bool) : State :=
  let young := decide (s.now - r.issued ≤ 25000)
  if again && young then s.resendReq w r
  else
    let s1 := if young then s else s.addSat RF.FAB_REISSUE_TOO_OLD 0 0 1
    s1.failReq none r .routeLoss

/-- The address of a tally request of another wafer. -/
def TallyReq.addr (r : TallyReq) : Nat :=
  directAddr r.wafer (r.tally / 4096) 3 (r.tally % 4096 * 64)

/-- R474 for a tally request; a parked wait parks again at its home (R159). -/
def State.reissueTally (s : State) (r : TallyReq) (again : Bool) : State :=
  let young := r.parked || decide (s.now - r.issued ≤ 25000)
  if again && young then
    (s.send (.tally (Fin.ofNat 16 r.wafer) r.addr 0 0#64 r.id)).addSat RF.FAB_REISSUE_REISSUED 0 0 1
  else
    let s0 := if young then s else s.addSat RF.FAB_REISSUE_TOO_OLD 0 0 1
    let s1 := { s0 with tallies := { s0.tallies with
      reqs := s0.tallies.reqs.filter (fun q => q.id != r.id) } }
    s1.tallyFail r.owner .routeLoss r.addr

/-- R474 for a task issue to another wafer: an issue message has no address, so it takes entry 0's
place, the lowest live port (R472). -/
def State.reissueIssue (s : State) (w : Nat) (r : IssueReq) (again : Bool) : State :=
  let young := decide (s.now - r.issued ≤ 25000)
  if again && young then
    (s.send (.issue (Fin.ofNat 16 w) r.desc)).addSat RF.FAB_REISSUE_REISSUED 0 0 1
  else
    let s1 := if young then s else s.addSat RF.FAB_REISSUE_TOO_OLD 0 0 1
    s1.modIssue r.id (fun q => { q with status := some (issueAccess .routeLoss) })

def State.setEntry (s : State) (d e : Nat) (p : Option Nat) : State :=
  let v := match p with
    | some n => n + 1
    | none => 0
  { s with fabric := { s.fabric with spread := s.fabric.spread.put 0 (d * 64 + e) v } }

/-- Outstanding requests of a spread entry that have been sent (R473, R474). -/
def State.entryReqs (s : State) (d e : Nat) : List Request :=
  s.commons.reqs.filter (fun r => r.reply.isNone && !r.held && decide (nbits r.addr 52 4 = d) &&
    decide (d ≠ s.ownWafer) && decide (entryOf r.addr = e))

def State.entryTallies (s : State) (d e : Nat) : List TallyReq :=
  s.tallies.reqs.filter (fun r => decide (r.wafer = d) && decide (d ≠ s.ownWafer) &&
    decide (entryOf r.addr = e))

/-- Move one spread entry at a rebuild: at once when its port has stopped being live for the
destination, and its requests are reissued; one without a port takes one; otherwise it stays until
SPREAD_ENTRY_MOVE (R473, R474). (Mark: DEDUCED, log 110.) -/
def State.rebuildEntry (s : State) (d e : Nat) : State :=
  let new := s.entryTarget d e
  match s.entryPort d e with
  | none => s.setEntry d e new
  | some p =>
    if s.portFor d p then s
    else
      let s1 := s.setEntry d e new
      let s2 := (s.entryReqs d e).foldl (fun (t : State) r => t.reissueReq d r new.isSome) s1
      (s.entryTallies d e).foldl (fun (t : State) r => t.reissueTally r new.isSome) s2

/-- Rebuild every spread entry of a destination, and note when it became unreachable (R473, R477).
(Mark: DEDUCED, log 115.) -/
def State.rebuildDest (s : State) (d : Nat) : State :=
  if d = s.ownWafer then s
  else
    let had := !(s.fabric.spread.filter (fun x => decide (x.1 / 64 = d))).isEmpty
    let s1 := (List.range 64).foldl (fun (t : State) e => t.rebuildEntry d e) s
    let has := !(s1.portsTo d).isEmpty
    let s2 := if had && !has then
        (s1.crofters.issues.filter (fun r =>
          r.status.isNone && decide ((descTarget s1 r.field r.desc).1 = d))).foldl
          (fun (t : State) r => t.reissueIssue d r false) s1
      else s1
    let mask := s2.getF RF.FAB_MEMBERS_REACHABLE 0 0
    let bit := 2 ^ d
    let s3 := s2.setF RF.FAB_MEMBERS_REACHABLE 0 0
      (if has then mask ||| bit else mask &&& (65535 - bit))
    let lost := if has then 0
      else if s3.fabric.lost.look 0 d = 0 then s3.now + 1 else s3.fabric.lost.look 0 d
    { s3 with fabric := { s3.fabric with lost := s3.fabric.lost.put 0 d lost } }

/-- The rebuild of R473 after any event that changes a live port. (Mark: DEDUCED, log 115.) -/
def State.rebuildFabric (s : State) : State :=
  (List.range 16).foldl (fun (t : State) d => t.rebuildDest d) s

/-! ### Resending -/

/-- Queue a message of a lost flit on its new link, unless it came from or goes to another rack (R441). -/
def State.requeue (s : State) (p : Nat) (r : Resend) : State :=
  let b := bucketOf (msgAddr r.msg.raw)
  let port := if (s.liveLinks p).isEmpty then
      (if r.wafer = s.ownWafer then none else s.entryTarget r.wafer (entryOf (msgAddr r.msg.raw)))
    else some p
  match port with
  | none => s
  | some q =>
    match (match s.bucketLink q b with
      | some k => some k
      | none => s.bucketHome q b) with
    | none => s
    | some k => s.modLink k (fun x => { x with resend := x.resend ++ [r] })

/-- The messages a link has not had acknowledged, with those it still had to resend. -/
def Link.pendingMsgs (x : Link) : List Resend :=
  x.held.flatMap (fun fl => fl.msgs.map (fun m => ⟨fl.cls, fl.wafer, fl.rack, m⟩)) ++ x.resend

/-- Resend the unacknowledged messages of link `k` of port `p` on the buckets' new links: never on a
far port, never traffic of another rack (R441). (Mark: DEDUCED, log 110.) -/
def State.resendAll (s : State) (p k : Nat) : State :=
  if 48 ≤ k then s
  else
    ((s.link k).pendingMsgs.filter (fun r =>
      decide (r.rack = s.getF RF.FAB_NUM_RACK 0 0))).foldl (fun (t : State) r => t.requeue p r) s

/-! ### Going down, coming up -/

/-- A link leaves the live members of its port: its buckets move and its unacknowledged messages are
resent (R441). -/
def State.leavePort (s : State) (k : Nat) : State :=
  match s.portOfLink k with
  | none => s
  | some p => ((s.moveBuckets p k).resendAll p k)

/-- Clear a link's bit of FAB_HELD and FAB_QUAR. (Mark: DEDUCED, log 105.) -/
def State.unhold (s : State) (k : Nat) : State :=
  let drop := fun (m : Nat) => m &&& (2 ^ 56 - 1 - 2 ^ k % 2 ^ 56)
  s.setF RF.FAB_HELD_LINKS 0 0 (drop (s.getF RF.FAB_HELD_LINKS 0 0))
    |>.setF RF.FAB_QUAR_LINKS 0 0 (drop (s.getF RF.FAB_QUAR_LINKS 0 0))

/-- A link goes DOWN with a cause (R437, R449): a swing change ends with the target kept, the port
narrows, and the wafer's spread entries are rebuilt. -/
def State.linkDown (s : State) (k cause : Nat) : State :=
  let st := s.linkState k
  if st = lsDown ∨ st = lsPcie then s
  else
    let s1 := s.setF RF.VRN_LNK_STATE_STATE k 0 lsDown |>.setF RF.VRN_LNK_STATE_CAUSE k 0 cause
      |>.addSat RF.VRN_LNK_STATE_DOWNS k 0 1 |>.setFlag RF.VRN_LNK_TX_BUSY k 0 false
    let s2 := s1.unhold k
    let s3 := if st = lsUp then s2.leavePort k
      else if st = lsQuietEntry then
        match s2.portOfLink k with
        | some p => s2.resendAll p k
        | none => s2
      else s2
    (s3.setLink k { idleLink with since := s.now }).rebuildFabric

/-- A QUIET command that takes effect: the buckets move and QUIET entry begins (R447). -/
def State.quietStart (s : State) (k : Nat) : State :=
  match s.portOfLink k with
  | none => s.enterState k lsQuietEntry
  | some p => ((s.enterState k lsQuietEntry).moveBuckets p k).rebuildFabric

/-- Is the link the last live member of a port (R447)? -/
def State.lastMember (s : State) (k : Nat) : Bool :=
  match s.portOfLink k with
  | none => false
  | some p => decide (s.liveLinks p = [k])

/-- A QUIET target on a link in UP: the last live member of a port ignores it with CMD_ERR. -/
def State.quietTarget (s : State) (k : Nat) : State :=
  if s.lastMember k then s.setFlag RF.VRN_LNK_STATE_CMD_ERR k 0 true else s.quietStart k

/-- Enter TEST: the link leaves its port. -/
def State.enterTest (s : State) (k : Nat) : State :=
  let st := s.linkState k
  let s1 := (s.enterState k lsTest).unhold k
  let s2 := if st = lsUp then s1.leavePort k else s1
  (s2.modLink k (fun x => { x with ctrl := none, held := [], resend := [] })).rebuildFabric

/-- A TEST target on a link that carries CTRL flits: TEST_REQ, or at once for a fixture with FORCE
(R450). -/
def State.testTarget (s : State) (k : Nat) : State :=
  if decide ((s.link k).kind = 3) && s.flag RF.VRN_PRBS_CTL_FORCE k 0 then s.enterTest k
  else s.ctrlRequest k ctrlTestReq

/-- A link is accepted (R463): UP; its port maps its buckets when it comes up, and the targets QUIET and
TEST act now (R454). -/
def State.linkUp (s : State) (k : Nat) : State :=
  let s1 := (s.enterState k lsUp).unhold k
  let s2 := match s1.portOfLink k with
    | some p => if s1.liveLinks p = [k] then s1.mapBuckets p else s1
    | none => s1
  let s3 := if k < 48 ∧ s2.fabric.linkUpAt = 0 then
      { s2 with fabric := { s2.fabric with linkUpAt := s2.now + 1 } } else s2
  let s4 := s3.rebuildFabric
  if s4.linkTarget k = 2 then s4.quietTarget k
  else if s4.linkTarget k = 3 then s4.testTarget k
  else s4

/-- Hold a link (R463, R464): it carries no bucket and no spread entry. -/
def State.holdLink (s : State) (k : Nat) : State :=
  let st := s.linkState k
  let s1 := s.enterState k lsHeld
  let s2 := s1.setF RF.FAB_HELD_LINKS 0 0 (s1.getF RF.FAB_HELD_LINKS 0 0 ||| 2 ^ k % 2 ^ 56)
  let s3 := if st = lsUp then s2.leavePort k else s2
  (s3.raise RF.FAB_EVENT_LINK_HELD 0).rebuildFabric

def State.quarantineLink (s : State) (k : Nat) : State :=
  let s1 := s.enterState k lsQuarantine
  let s2 := s1.setF RF.FAB_QUAR_LINKS 0 0 (s1.getF RF.FAB_QUAR_LINKS 0 0 ||| 2 ^ k % 2 ^ 56)
  s2.raise RF.FAB_EVENT_QUARANTINE 0

/-! ### Commands on TARGET -/

/-- May links train now?  The links train from bring-up stage 2 on (R714), while the module is in
M-active or M-drowsy (R437 cause 9). -/
def State.linksPowered (s : State) : Bool :=
  decide (s.boot.stage ≠ .off ∧ s.boot.stage ≠ .hearth ∧ s.boot.stage ≠ .reeve ∧
    s.boot.stage ≠ .halted ∧ s.power.asleep = false)

/-- Is the link under the LOOP test (R664, R672)? -/
def State.underLoop (s : State) (k : Nat) : Bool :=
  decide (s.getF RF.BIS_STAT_STATE 0 0 = 2) && decide (s.getF RF.BIS_STAT_TEST 0 0 = 3) &&
    !(s.getF RF.BIS_LOOP_SKIP_LO_BITS 0 0 + s.getF RF.BIS_LOOP_SKIP_HI_BITS 0 0 * 2 ^ 64).testBit k

/-- From DOWN a target other than DOWN leads to DETECT (R427). -/
def State.fromDown (s : State) (k : Nat) : State :=
  if s.linkState k = lsDown ∧ s.linksPowered ∧ s.underLoop k = false then s.enterState k lsDetect else s

/-- A write of VRN_LNK_CTL.TARGET (R427, R447, R450); H0 and S0 links ignore it (R457).
(Mark: DEDUCED, log 103.) -/
def State.setTarget (s : State) (k v : Nat) : State :=
  if 56 ≤ k then s
  else
    let st := s.linkState k
    let s1 := s.setF RF.VRN_LNK_CTL_TARGET k 0 v
    match v with
    | 0 =>
      let s2 := if 3 ≤ st ∧ st ≤ 10 then s1.sendCtrl k ctrlDownNotice [] else s1
      s2.linkDown k 6
    | 1 =>
      if st = lsQuiet then (s1.enterState k lsWake).ctrlRequest k ctrlWake
      else if st = lsQuietEntry then s1.linkUp k
      else s1.fromDown k
    | 2 =>
      if st = lsUp then
        (if s.lastMember k then s.setFlag RF.VRN_LNK_STATE_CMD_ERR k 0 true else s1.quietStart k)
      else s1.fromDown k
    | _ =>
      if st = lsUp ∨ st = lsHeld ∨ st = lsQuarantine then s1.testTarget k
      else s1.fromDown k

/-- LINK_TARGET_DOWN, R427. -/
def execLinkTargetDown (k : LinkId) (s : State) : Out := .next (s.setTarget k.val 0)

/-- LINK_TARGET_UP, R427: DETECT from DOWN, a wake from QUIET. (Mark: DEDUCED, log 103.) -/
def execLinkTargetUp (k : LinkId) (s : State) : Out := .next (s.setTarget k.val 1)

/-- LINK_TARGET_QUIET, R447. -/
def execLinkTargetQuiet (k : LinkId) (s : State) : Out := .next (s.setTarget k.val 2)

/-- LINK_TARGET_TEST, R450. -/
def execLinkTargetTest (k : LinkId) (s : State) : Out := .next (s.setTarget k.val 3)

/-! ### Training -/

/-- LINK_SIGNAL_DETECT, R427: a link in DETECT, or one that went down with another target than DOWN,
finds a signal from the partner. -/
def execLinkSignalDetect (k : LinkId) (s : State) : Out :=
  let n := k.val
  let st := s.linkState n
  if n < 56 ∧ s.linksPowered ∧ s.underLoop n = false ∧ (st = lsDetect ∨ (st = lsDown ∧ s.linkTarget n ≠ 0)) then
    .next (s.enterState n lsPhyTrain)
  else .next s

/-- LINK_PHY_TRAINED, R427: the equaliser converged and FEC lock held for 1 ms. -/
def execLinkPhyTrained (k : LinkId) (s : State) : Out :=
  if s.linkState k.val = lsPhyTrain then
    .next ((s.enterState k.val lsIdent).modLink k.val (fun x => { x with
      ident := [], identCount := 0, echoed := false, stamp := 0, stampAt := 0 }))
  else .next s

/-- LINK_TRAIN_TIMEOUT, R427: 100 ms, or 500 ms on a class-O link. -/
def execLinkTrainTimeout (k : LinkId) (s : State) : Out :=
  let bound := if s.linkClass k.val = 3 then 500000000 else 100000000
  if s.linkState k.val = lsPhyTrain ∧ bound ≤ s.now - (s.link k.val).since then
    .next (s.linkDown k.val 7)
  else .next s

/-- The wafer's identity block on a link (R462). (Mark: DEDUCED, log 113.) -/
def State.identBlock (s : State) (k : Nat) : List Byte :=
  let num := s.rd .FAB_NUM 0 0
  leBytes 8 (s.rd .FAB_UNIT 0 0).toNat ++ [1#8] ++ leBytes 1 (s.getF RF.FAB_NUM_VERSION 0 0) ++
    leBytes 1 (if bit num 12 then s.getF RF.FAB_NUM_RACK 0 0 else 0xFF) ++
    leBytes 1 (if bit num 4 then s.getF RF.FAB_NUM_NUM 0 0 else 0xFF) ++
    leBytes 1 ((s.portOfLink k).getD 0xFF) ++ leBytes 1 k ++ leBytes 1 (s.linkClass k) ++
    leBytes 1 (b2n (decide (s.rd .FAB_FM 0 0 = s.rd .FAB_UNIT 0 0)) +
      2 * b2n (s.flag RF.FAB_TIME_CTL_IS_MASTER 0 0)) ++
    leBytes 2 (s.getF RF.FAB_NUM_EPOCH 0 0) ++ leBytes 2 0 ++
    leBytes 4 (s.getF RF.FAB_MAP_GEN_GEN 0 0) ++ leBytes 4 (s.getF RF.HRT_SYS_ID_BUILD 0 0) ++
    List.replicate 36 0#8

/-- IDENT_SEND, R428: timestamp, echo of the partner's last one, hold time, identity block.
(Mark: DEDUCED, log 113.) -/
def execIdentSend (k : LinkId) (s : State) : Out :=
  let n := k.val
  if s.linkState n = lsIdent then
    let x := s.link n
    let body := leBytes 3 0 ++ leBytes 4 s.fabricTime ++ leBytes 4 x.stamp ++
      leBytes 4 (if x.stamp = 0 then 0 else s.now - x.stampAt) ++ s.identBlock n
    .next (s.sendCtrl n ctrlIdent (body.map (·.toNat)))
  else .next s

/-- Neighbour fields of an identity block. -/
def idUnit (b : List Byte) : Nat := leField b 0 8
def idKind (b : List Byte) : Nat := leField b 8 1
def idVersion (b : List Byte) : Nat := leField b 9 1
def idRack (b : List Byte) : Nat := leField b 10 1
def idPort (b : List Byte) : Nat := leField b 12 1
def idLink (b : List Byte) : Nat := leField b 13 1

/-- Versions whose major numbers agree and whose minor numbers differ by at most one (R463). -/
def versionsMeet (a b : Nat) : Bool :=
  decide (a / 16 = b / 16) && decide (a % 16 ≤ b % 16 + 1) && decide (b % 16 ≤ a % 16 + 1)

/-- Does a valid FAB_MAP entry name this neighbour? -/
def State.mapNames (s : State) (p : Option Nat) (b : List Byte) : Bool :=
  match p with
  | none => false
  | some q => bit (s.rd .FAB_MAPp 0 (2 * q + 1)) 8 &&
      decide ((s.rd .FAB_MAPp 0 (2 * q)).toNat = idUnit b) &&
      decide (bits (s.rd .FAB_MAPp 0 (2 * q + 1)) 0 8 = idPort b)

/-- Other members of the link's port that have learned another neighbour. -/
def State.otherNeighbour (s : State) (k : Nat) (p : Option Nat) (b : List Byte) : Bool :=
  match p with
  | none => false
  | some q => (maskList (s.portMask q) 56).any (fun j => decide (j ≠ k) &&
      s.flag RF.VRN_LNK_NBR_PORT_VALID j 0 && decide (3 < s.linkState j) &&
      decide (s.linkState j ≠ lsPcie) && decide (s.getF RF.VRN_LNK_NBR_UNIT j 0 ≠ idUnit b))

/-- Write a learned identity to FAB_MAP; MAP_GEN advances (R463). -/
def State.learn (s : State) (p : Option Nat) (b : List Byte) : State :=
  match p with
  | none => s
  | some q => (s.wr .FAB_MAPp 0 (2 * q) (BitVec.ofNat 64 (idUnit b))
      |>.wr .FAB_MAPp 0 (2 * q + 1) (BitVec.ofNat 64 (idPort b + 256))
      |>.addWrap RF.FAB_MAP_GEN_GEN 0 0 1)

/-- The rows of R463 that hold a link whatever FAB_MAP says (R485 for a far link).
(Mark: DEDUCED, log 104.) -/
def State.heldByRule (s : State) (k : Nat) (b : List Byte) : Bool :=
  let num := s.rd .FAB_NUM 0 0
  if k < 48 then
    (decide (idKind b ≠ 2) && decide (idKind b ≠ 3)) ||
      (bit num 4 && decide (idPort b ≠ s.getF RF.FAB_NUM_NUM 0 0))
  else (decide (idKind b ≠ 1) && decide (idKind b ≠ 2)) ||
    (bit num 12 && decide (idRack b = s.getF RF.FAB_NUM_RACK 0 0))

/-- Link acceptance, R463: the first row that applies decides. (Mark: DEDUCED, log 104.) -/
def State.acceptLink (s : State) (k : Nat) (b : List Byte) : State :=
  let p := s.portOfLink k
  if !versionsMeet (s.getF RF.FAB_NUM_VERSION 0 0) (idVersion b) then s.quarantineLink k
  else if s.heldByRule k b then s.holdLink k
  else if s.otherNeighbour k p b then
    let ups := match p with
      | some q => s.liveLinks q
      | none => []
    ups.foldl (fun (t : State) j => t.holdLink j) (s.holdLink k)
  else if s.mapNames p b then s.linkUp k
  else if s.getF RF.FAB_CTL_POLICY 0 0 = 1 then (s.learn p b).linkUp k
  else s.holdLink k

/-- A FAB_MAP entry has been written: a HELD link of its port whose neighbour it names becomes UP, unless
a rule that no entry changes holds it (R464, R465). (Mark: DEDUCED, log 105.) -/
def State.recheckPort (s : State) (p : Nat) : State :=
  (maskList (s.portMask p) 56).foldl (fun (t : State) k =>
    let b := (t.link k).ident
    if t.linkState k = lsHeld ∧ t.mapNames (some p) b ∧ ¬ t.heldByRule k b ∧
        ¬ t.otherNeighbour k (some p) b then t.linkUp k else t) s

/-- IDENT_RECEIVE, R428: the round trip is measured from the echo; IDENT ends after three identical
blocks and an echo of the own timestamp. -/
def execIdentReceive (k : LinkId) (stamp echo hold : BitVec 32) (block : List Byte) (s : State) : Out :=
  let n := k.val
  if block.length ≠ 64 then .fault (.malformedOperand "IDENT_RECEIVE")
  else if s.linkState n ≠ lsIdent then .next s
  else
    let x := s.link n
    let count := if x.ident = block then x.identCount + 1 else 1
    let seen := x.echoed || decide (echo ≠ 0#32)
    let s1 := s.modLink n (fun y => { y with
      ident := block, identCount := count, echoed := seen, stamp := stamp.toNat,
      stampAt := s.now, kind := idKind block })
    let rtt := (s.fabricTime + 2 ^ 33 - echo.toNat - hold.toNat) % 2 ^ 32
    let s2 := if echo = 0#32 then s1 else s1.setF RF.VRN_LNK_RTT_RTT n 0 (min rtt 65535)
    if 3 ≤ count ∧ seen then
      let s3 := s2.setF RF.VRN_LNK_NBR_UNIT n 0 (idUnit block)
        |>.setF RF.VRN_LNK_NBR_PORT_PORT n 0 (idPort block)
        |>.setF RF.VRN_LNK_NBR_PORT_LINK n 0 (idLink block)
        |>.setF RF.VRN_LNK_NBR_PORT_VERSION n 0 (idVersion block)
        |>.setFlag RF.VRN_LNK_NBR_PORT_VALID n 0 true
      .next (s3.acceptLink n block)
    else .next s2

/-- IDENT_TIMEOUT, R427. -/
def execIdentTimeout (k : LinkId) (s : State) : Out :=
  if s.linkState k.val = lsIdent ∧ 10000000 ≤ s.now - (s.link k.val).since then
    .next (s.linkDown k.val 8)
  else .next s

/-! ### Down causes -/

/-- LOSS_OF_SIGNAL, R437, R449: in QUIET it is found only at the wake. (Mark: DEDUCED, log 106.) -/
def execLossOfSignal (k : LinkId) (s : State) : Out :=
  let st := s.linkState k.val
  if st = lsQuiet ∨ st = lsDetect then .next s else .next (s.linkDown k.val 1)

/-- Link states with FEC codeword lock. -/
def locked (st : Nat) : Bool := decide (lsIdent ≤ st ∧ st ≤ lsQuietEntry) || decide (st = lsTest)

/-- FEC_LOCK_LOST, R437. -/
def execFecLockLost (k : LinkId) (s : State) : Out :=
  if locked (s.linkState k.val) then .next (s.linkDown k.val 2) else .next s

/-- UCW_LIMIT_EXCEEDED, R437: `n` uncorrectable codewords within 1 ms are counted; above the limit the
link goes DOWN. -/
def execUcwLimitExceeded (k : LinkId) (n : Nat) (s : State) : Out :=
  if locked (s.linkState k.val) then
    let s1 := s.addSat RF.VRN_LNK_FEC_UNC_COUNT k.val 0 n
    if s.getF RF.VRN_LNK_UCW_LIMIT_LIMIT k.val 0 < n then .next (s1.linkDown k.val 3) else .next s1
  else .next s

/-- DOWN_NOTICE_RECEIVE, R437: DOWN with cause COMMAND. -/
def execDownNoticeReceive (k : LinkId) (s : State) : Out :=
  if lsIdent ≤ s.linkState k.val then .next (s.linkDown k.val 6) else .next s

/-! ### Acknowledgement and replay -/

/-- Replay every held flit from the oldest (R436); after four replays without progress the link goes
DOWN with REPLAY_LIMIT (R437). -/
def State.replay (s : State) (k : Nat) : State :=
  match (s.link k).held with
  | [] => s
  | x :: _ =>
    if 4 ≤ x.replays then s.linkDown k 4
    else
      let s1 := s.modLink k (fun y => { y with
        held := y.held.map (fun (h : HeldFlit) => { h with replays := h.replays + 1, sent := s.now }) })
      let s2 := s1.addSat RF.VRN_LNK_REPLAY_REPLAYS k 0 1
      (s2.link k).held.foldl (fun (t : State) h => t.wire k h) s2

/-- Apply a cumulative ACK (R433): it covers the held flits up to itself; one that names a sequence
number not yet sent takes the link DOWN with PROTOCOL. -/
def State.applyAck (s : State) (k a : Nat) (nak : Bool) : State :=
  let x := s.link k
  let oldest := match x.held with
    | h :: _ => h.seq
    | [] => x.seq
  let d := (a + 1 + 65536 - oldest) % 65536
  if d ≤ x.held.length then
    let s1 := if d = 0 then s else s.modLink k (fun y => { y with
      held := (y.held.drop d).map (fun (h : HeldFlit) => { h with replays := 0 }) })
    if nak then s1.replay k else s1
  else if (a + 65536 - x.seq) % 65536 < 32768 then s.linkDown k 5
  else s

/-- Apply the freed counters of an ACK flit: the difference from the last value returns as credits. -/
def State.applyCredits (s : State) (k : Nat) (c : List Nat) : State :=
  s.modLink k (fun x => (List.range 4).foldl (fun (y : Link) i =>
    let v := c.getD i 0 % 4096
    let diff := (v + 4096 - y.seen.look 0 i) % 4096
    { y with seen := y.seen.put 0 i v, used := y.used.put 0 i (y.used.look 0 i - diff) }) x)

/-- Link states that carry DATA and ACK flits. -/
def carries (st : Nat) : Bool := decide (st = lsUp ∨ st = lsQuietEntry)

/-- ACK_FLIT_RECEIVE, R433: ACK, NAK and credits of a good ACK flit. -/
def execAckFlitReceive (k : LinkId) (ack : BitVec 16) (valid nak : Bool)
    (freed0 freed1 freed2 freed3 : BitVec 12) (s : State) : Out :=
  if !carries (s.linkState k.val) then .next s
  else
    let s1 := s.applyCredits k.val [freed0.toNat, freed1.toNat, freed2.toNat, freed3.toNat]
    if valid then .next (s1.applyAck k.val ack.toNat nak) else .next s1

/-- CTRL_REPEAT, R430: an unanswered CTRL request is repeated, up to 16 times. (Mark: DEDUCED, log 102.) -/
def execCtrlRepeat (k : LinkId) (s : State) : Out :=
  match (s.link k.val).ctrl with
  | none => .next s
  | some (code, n) =>
    if n < 16 then
      .next ((s.sendCtrl k.val code []).modLink k.val (fun x => { x with ctrl := some (code, n + 1) }))
    else .next (s.modLink k.val (fun x => { x with ctrl := none }))

/-- ACK_DUE, R435: 64 flits received, or 200 ns since the oldest one not acknowledged. -/
def execAckDue (k : LinkId) (s : State) : Out :=
  let x := s.link k.val
  if carries (s.linkState k.val) ∧ 0 < x.unacked ∧ (64 ≤ x.unacked ∨ 200 ≤ s.now - x.ackFrom) then
    .next (s.sendAck k.val false)
  else .next s

/-- REPLAY_TIMEOUT, R436: the oldest held flit is unacknowledged 4 µs after its acknowledgement was
due, at its send time plus the round trip. -/
def execReplayTimeout (k : LinkId) (s : State) : Out :=
  match (s.link k.val).held with
  | [] => .next s
  | h :: _ =>
    if carries (s.linkState k.val) ∧ h.sent + s.getF RF.VRN_LNK_RTT_RTT k.val 0 + 4000 ≤ s.now then
      .next ((s.addSat RF.VRN_LNK_REPLAY_TIMEOUTS k.val 0 1).replay k.val)
    else .next s

/-! ### Transmitting -/

/-- Receive buffers of a link's partner per class (R423). -/
def classBuffers (k : Nat) : Nat := if 48 ≤ k then 1024 else 256

/-- Send a new DATA flit: it takes a credit and replay space, and the next sequence number. -/
def State.transmit (s : State) (k cls wafer rack : Nat) (resent : Bool) (msgs : List LinkMsg) : State :=
  let x := s.link k
  let fl : HeldFlit := ⟨x.seq, cls, wafer, rack, resent, msgs, s.now, 0⟩
  let s1 := s.modLink k (fun y => { y with
    seq := (y.seq + 1) % 65536
    held := y.held ++ [fl]
    used := y.used.put 0 cls (y.used.look 0 cls + 1) })
  (s1.wire k fl).addWrap RF.VRN_LNK_FLITS_COUNT k 0 1

/-- May a flit of the class be sent (R431, R433, R452)? -/
def State.mayTransmit (s : State) (k cls : Nat) : Bool :=
  let x := s.link k
  decide (s.linkState k = lsUp) && decide (x.held.length < 1024) &&
    decide (x.used.look 0 cls < classBuffers k) && (!s.frozen || decide (cls = 3))

/-- The first messages waiting to be resent that fit one flit: of one class, to one destination. -/
def packResend (cls wafer rack : Nat) : Nat → List Resend → List LinkMsg × List Resend
  | _, [] => ([], [])
  | room, r :: l =>
    if r.cls = cls ∧ r.wafer = wafer ∧ r.rack = rack ∧ r.msg.raw.length ≤ room then
      let (a, b) := packResend cls wafer rack (room - r.msg.raw.length) l
      (r.msg :: a, b)
    else ([], r :: l)

/-- Resend the oldest messages that wait, dropping those that have grown older than 25 µs (R441). -/
def State.resendNext (s : State) (k : Nat) : State :=
  let l := (s.link k).resend.filter (fun r => decide (s.msgAge r.msg ≤ 25000))
  let s1 := s.modLink k (fun x => { x with resend := l })
  match l with
  | [] => s1
  | r :: _ =>
    if s1.mayTransmit k r.cls then
      let (msgs, rest) := packResend r.cls r.wafer r.rack 240 l
      (s1.modLink k (fun x => { x with resend := rest })).transmit k r.cls r.wafer r.rack true msgs
    else s1

/-- FLIT_TRANSMIT, R431: messages that wait to be resent go first; otherwise a flit with the given body
is sent, whose messages have their bucket on this link (R439), which a class-O link may carry (R426)
and which the neighbour takes (R463). (Mark: DESIGN CHOICE, log 101.) -/
def execFlitTransmit (k : LinkId) (cls : Fin 4) (wafer : WaferId) (rack : BitVec 7) (body : List Byte)
    (s : State) : Out :=
  if body.length ≠ 240 then .fault (.malformedOperand "FLIT_TRANSMIT")
  else
    let n := k.val
    if (s.link n).resend.any (fun r => decide (s.msgAge r.msg ≤ 25000)) then .next (s.resendNext n)
    else
      let (msgs, bad) := parseBody 15 body
      let here := msgs.all (fun m => match s.portOfLink n with
        | some p => decide (s.bucketLink p (bucketOf (msgAddr m)) = some n)
        | none => false)
      let legal := decide (s.linkClass n ≠ 3) || msgs.all (fun m => decide (msgOp m ∈ looseOps))
      if bad || msgs.isEmpty || !here || !legal || decide ((s.link n).kind = 3) ||
          !s.mayTransmit n cls.val then .next s
      else .next (s.transmit n cls.val wafer.val rack.toNat false (msgs.map (fun m => ⟨m, s.now⟩)))

/-- BUCKET_RETURN, R442: a bucket goes back to the member R439 gives it, once its present link has had
every flit of it acknowledged. -/
def execBucketReturn (p : PortId) (b : Fin 64) (s : State) : Out :=
  match s.bucketLink p.val b.val, s.bucketHome p.val b.val with
  | some c, some h =>
    let busy := (s.link c).held.any (fun fl => fl.msgs.any (fun m =>
      decide (bucketOf (msgAddr m.raw) = b.val)))
    if c = h ∨ busy then .next s else .next (s.setBucket p.val b.val (some h))
  | _, _ => .next s

/-! ### QUIET and TEST -/

/-- Electrical idle: both sides have drained. -/
def State.goQuiet (s : State) (k : Nat) : State :=
  (s.enterState k lsQuiet).modLink k (fun x => { x with ctrl := none, peerQuiet := false })

/-- QUIET_REPLAY_EMPTY, R447: the replay buffer has emptied during QUIET entry; QUIET_REQ is sent, or
QUIET_ACK where the partner asked. -/
def execQuietReplayEmpty (k : LinkId) (s : State) : Out :=
  let x := s.link k.val
  if s.linkState k.val ≠ lsQuietEntry ∨ x.held ≠ [] ∨ x.ctrl.isSome then .next s
  else if x.peerQuiet then .next ((s.sendCtrl k.val ctrlQuietAck []).goQuiet k.val)
  else .next (s.ctrlRequest k.val ctrlQuietReq)

/-- QUIET_REQ_RECEIVE, R447: the partner of a link moves its buckets, drains and answers. -/
def execQuietReqReceive (k : LinkId) (s : State) : Out :=
  let n := k.val
  let st := s.linkState n
  let s1 := if st = lsUp then s.quietStart n else s
  if st = lsUp ∨ st = lsQuietEntry then
    if (s1.link n).held = [] then .next ((s1.sendCtrl n ctrlQuietAck []).goQuiet n)
    else .next (s1.modLink n (fun x => { x with peerQuiet := true }))
  else .next s

/-- QUIET_ACK_RECEIVE, R447. -/
def execQuietAckReceive (k : LinkId) (s : State) : Out :=
  if s.linkState k.val = lsQuietEntry ∧ (s.link k.val).ctrl.map (·.1) = some ctrlQuietReq then
    .next (s.goQuiet k.val)
  else .next s

/-- WAKE_RECEIVE, R447: electrical idle ends. -/
def execWakeReceive (k : LinkId) (s : State) : Out :=
  if s.linkState k.val = lsQuiet then .next (s.enterState k.val lsWake) else .next s

/-- LINK_WAKE_DONE, R447: UP again without retraining; its buckets return under R442. -/
def execLinkWakeDone (k : LinkId) (s : State) : Out :=
  if s.linkState k.val = lsWake then
    .next ((s.modLink k.val (fun x => { x with ctrl := none })).linkUp k.val)
  else .next s

/-- TEST_REQ_RECEIVE, R450: a link that carries CTRL flits answers TEST_ACK and enters TEST. -/
def execTestReqReceive (k : LinkId) (s : State) : Out :=
  let st := s.linkState k.val
  if st = lsUp ∨ st = lsHeld ∨ st = lsQuarantine then
    .next ((s.sendCtrl k.val ctrlTestAck []).enterTest k.val)
  else .next s

/-- TEST_ACK_RECEIVE, R450. -/
def execTestAckReceive (k : LinkId) (s : State) : Out :=
  if (s.link k.val).ctrl.map (·.1) = some ctrlTestReq then .next (s.enterTest k.val) else .next s

/-! ### Swing -/

/-- A write of VRN_LNK_TX (R448): stepped while the link is UP, taken at once otherwise; H0 and S0 links
ignore it (R457). -/
def State.linkTx (s : State) (k swing pre post : Nat) : State :=
  if 56 ≤ k then s
  else
    let old := bits (s.rd .VRN_LNK_TX k 0) 0 18
    let s1 := s.setF RF.VRN_LNK_TX_SWING k 0 swing |>.setF RF.VRN_LNK_TX_PRE k 0 pre
      |>.setF RF.VRN_LNK_TX_POST k 0 post
    if s.linkState k = lsUp then
      (s1.setFlag RF.VRN_LNK_TX_BUSY k 0 true).modLink k (fun x => { x with swing := some (old, 0) })
    else s1

/-- LINK_TX_WRITE, R448. -/
def execLinkTxWrite (k : LinkId) (swing pre post : BitVec 6) (s : State) : Out :=
  .next (s.linkTx k.val swing.toNat pre.toNat post.toNat)

/-- SWING_STEP, R448: one of 16 steps of 100 ns; BUSY clears at the last. -/
def execSwingStep (k : LinkId) (s : State) : Out :=
  match (s.link k.val).swing with
  | none => .next s
  | some (old, n) =>
    if n + 1 < 16 then .next (s.modLink k.val (fun x => { x with swing := some (old, n + 1) }))
    else .next ((s.modLink k.val (fun x => { x with swing := none })).setFlag RF.VRN_LNK_TX_BUSY k.val 0
      false)

/-! ### Pattern generators and checkers -/

/-- Does the module's lifecycle state allow the generators (R450)?  SCRAPPED does not. -/
def State.prbsAllowed (s : State) : Bool := decide (s.getF RF.RVE_LIFECYCLE_STATE 0 0 ≠ 4)

/-- Reset the checker's counters. -/
def State.prbsClear (s : State) (k : Nat) : State :=
  s.setF RF.VRN_PRBS_ERR_COUNT k 0 0 |>.setF RF.VRN_PRBS_BITS_COUNT k 0 0

/-- A write of VRN_PRBS_CTL (R450, R451): reserved patterns leave PATTERN; a link of H0 or S0 starts only
through the TAP or the sideband; CLEAR resets the counters. -/
def State.prbsCtl (s : State) (k : Nat) (side : Bool) (v : Nat) : State :=
  if !s.prbsAllowed || (decide (56 ≤ k) && !side) || s.underLoop k then s
  else
    let s1 := if nbits v 0 3 ≤ 4 then s.setF RF.VRN_PRBS_CTL_PATTERN k 0 (nbits v 0 3) else s
    let s2 := s1.setF RF.VRN_PRBS_CTL_GEN_EN k 0 (nbits v 3 1)
      |>.setF RF.VRN_PRBS_CTL_CHK_EN k 0 (nbits v 4 1)
      |>.setF RF.VRN_PRBS_CTL_FORCE k 0 (nbits v 5 1)
    let s3 := if nbits v 4 1 = 0 then s2.setFlag RF.VRN_PRBS_CTL_LOCKED k 0 false else s2
    if nbits v 7 1 = 1 then s3.prbsClear k else s3

/-- PRBS_CTL_WRITE, R450: `side` says that it comes through the TAP or the sideband. -/
def execPrbsCtlWrite (k : LinkId) (side : Bool) (v : BitVec 8) (s : State) : Out :=
  .next (s.prbsCtl k.val side v.toNat)

/-- PRBS_CLEAR, R451. -/
def execPrbsClear (k : LinkId) (s : State) : Out := .next (if s.underLoop k.val then s else s.prbsClear k.val)

/-- Does the link run its pattern checker (R450)? -/
def State.prbsRuns (s : State) (k : Nat) : Bool :=
  s.flag RF.VRN_PRBS_CTL_CHK_EN k 0 && (decide (s.linkState k = lsTest) || decide (56 ≤ k))

/-- PRBS_LOCK, R451. -/
def execPrbsLock (k : LinkId) (s : State) : Out :=
  if s.prbsRuns k.val then .next (s.setFlag RF.VRN_PRBS_CTL_LOCKED k.val 0 true) else .next s

/-- PRBS_LOCK_LOSS, R451: LOCKED clears and the counters stop. -/
def execPrbsLockLoss (k : LinkId) (s : State) : Out :=
  .next (s.setFlag RF.VRN_PRBS_CTL_LOCKED k.val 0 false)

/-- The FP32 ratio of errors to bits checked; with no bit checked the spec states no value.
(Mark: DESIGN CHOICE, log 111.) -/
def State.berOf (s : State) (errs units : Nat) : State × Nat :=
  if units = 0 then
    let (n, s1) := s.fresh
    (s1, (Config.freeWord n 0).toNat % 2 ^ 32)
  else (s, fp32.pack false (Val.div (.fin false errs 0) (.fin false (units * 1024) 0)))

/-- PRBS_BER_UPDATE, R451: each 1 ms; `errs` bit errors and `units` of 1,024 bits came in since the last
one, counted while LOCKED. (Mark: DESIGN CHOICE, log 111.) -/
def execPrbsBerUpdate (k : LinkId) (errs units : Nat) (s : State) : Out :=
  let n := k.val
  let s1 := if s.flag RF.VRN_PRBS_CTL_LOCKED n 0 then
      (s.addSat RF.VRN_PRBS_ERR_COUNT n 0 errs).addSat RF.VRN_PRBS_BITS_COUNT n 0 units else s
  let (s2, v) := s1.berOf (s1.getF RF.VRN_PRBS_ERR_COUNT n 0) (s1.getF RF.VRN_PRBS_BITS_COUNT n 0)
  .next (s2.setF RF.VRN_PRBS_BER_BER n 0 v)

/-! ### Port membership -/

/-- Is a member mask allowed for port `p` (R438)? (Mark: DEDUCED, log 109.) -/
def State.maskOk (s : State) (p mask : Nat) : Bool :=
  let l := maskList mask 56
  let n := l.length
  (if p < 48 then l.all (fun k => decide (k < 48)) && decide (n ∈ [1, 2, 4, 8, 16])
   else (l.all (fun k => decide (48 ≤ k ∧ k < 52)) || l.all (fun k => decide (52 ≤ k ∧ k < 56))) &&
     decide (n ∈ [1, 2, 4])) &&
    (List.range 52).all (fun q => decide (q = p) || decide (s.portMask q &&& mask = 0))

/-- A write of VRN_PORTp_CTL (R438, R457): a mask that breaks the rules, or a change of the mask while a
member is not DOWN, is ignored with CFG_ERR. (Mark: DEDUCED, log 109.) -/
def State.portCtl (s : State) (p : Nat) (mask : Nat) (enable clearErr : Bool) : State :=
  let old := s.portMask p
  let s1 := if clearErr then s.setFlag RF.VRN_PORTp_CTL_CFG_ERR 0 p false else s
  if mask = old then (s1.setFlag RF.VRN_PORTp_CTL_ENABLE 0 p enable).rebuildFabric
  else if !s.maskOk p mask ||
      !(maskList (old ||| mask) 56).all (fun k => decide (s.linkState k = lsDown)) then
    s1.setFlag RF.VRN_PORTp_CTL_CFG_ERR 0 p true
  else s1.setF RF.VRN_PORTp_CTL_MEMBERS 0 p mask |>.setFlag RF.VRN_PORTp_CTL_ENABLE 0 p enable

/-- PORT_CTL_WRITE, R438. -/
def execPortCtlWrite (p : PortId) (mask : BitVec 56) (enable : Bool) (s : State) : Out :=
  .next (s.portCtl p.val mask.toNat enable false)

end Sys2Proof.Machine
end

