-- ==== Sys2Proof/Machine/Sequencer.lean ====
section
/-! DEFINITION. Parishes, rings and sheaves (R168–R197): the binding of fields, the rings, the fetch
check, dependencies, dispatch, copies and sends, completion and receipts, cancels. -/

namespace Sys2Proof.Machine

/-! ### Parishes -/

/-- The granary key and the binding of a parish are in place (R587). -/
def State.bound (s : State) (p : Nat) : Bool :=
  s.flag RF.RVE_PARp_BIND_BOUND 0 p && s.flag RF.RVE_PARp_BIND_KEY_LOADED 0 p

/-- The current binding of a parish: tenant tag and key epoch. -/
def State.binding (s : State) (p : Nat) : Option (Nat × Nat) :=
  if s.flag RF.RVE_PARp_BIND_BOUND 0 p then
    some (s.getF RF.RVE_PARp_TAG_TAG 0 p, s.getF RF.RVE_PARp_BIND_KEY_EPOCH 0 p)
  else none

def State.owner (s : State) (f : Nat) : Option (Nat × Nat) := s.reeve.owners.look none f

/-- Is field `f` verified for parish `p` (R587)? -/
def State.fieldVerified (s : State) (p f : Nat) : Bool :=
  (decide (s.owner f = none) && !s.flag RF.RVE_FLDf_OWNER_VERIFY_FAIL 0 f) ||
    (decide (s.owner f ≠ none) && decide (s.owner f = s.binding p))

/-- BLOCKED reads 0 only while every in-service field of the set is verified and the key is loaded
(R170, R587), from READY on (R722), in DEPLOYED (R584). -/
def State.verified (s : State) (p : Nat) : Bool :=
  decide (s.boot.stage = .ready) && decide (s.getF RF.RVE_LIFECYCLE_STATE 0 0 = 3) && s.bound p &&
    !(s.getF RF.RVE_SCRUB_IN_PROGRESS 0 0).testBit p &&
    (maskList (s.parishMask p) 80).all (fun f => !s.inService f || s.fieldVerified p f)

/-- Has the ENABLE of the parish taken effect (R170)? -/
def State.parishEffective (s : State) (p : Nat) : Bool :=
  s.flag RF.WFR_PAR_CTL_ENABLE p 0 && s.verified p

/-- Record a field's owner in the Reeve and in its register. -/
def State.setOwner (s : State) (f p : Nat) (o : Option (Nat × Nat)) : State :=
  let s1 := { s with reeve := { s.reeve with owners := s.reeve.owners.put none f o } }
  match o with
  | some (_, e) => s1.setF RF.RVE_FLDf_OWNER_PARISH 0 f p |>.setFlag RF.RVE_FLDf_OWNER_OWNED 0 f true
    |>.setF RF.RVE_FLDf_OWNER_KEY_EPOCH 0 f e
  | none => s1.setF RF.RVE_FLDf_OWNER_PARISH 0 f 0 |>.setFlag RF.RVE_FLDf_OWNER_OWNED 0 f false
    |>.setF RF.RVE_FLDf_OWNER_KEY_EPOCH 0 f 0

/-- ENABLE takes effect (R170, R587): the in-service fields of the set take the parish's binding as
their owner, and bell intervals count from here (R607). -/
def State.takeEffect (s : State) (p : Nat) : State :=
  (maskList (s.parishMask p) 80).foldl (fun (t : State) f =>
    if t.inService f then (t.setOwner f p (t.binding p)).modBell f (fun _ => quietBell) else t) s

/-- Does another enabled parish hold a field of the mask (R170)? -/
def State.setConflict (s : State) (p mask : Nat) : Bool :=
  (List.range 32).any (fun q => decide (q ≠ p) && s.parishOn q && decide (s.parishMask q &&& mask ≠ 0))

/-- A write of half of a parish's field set (R170): taken only while ENABLE is 0 and no named field
belongs to another enabled parish, which otherwise sets SET_ERR. -/
def State.parishFieldsWrite (s : State) (p : Nat) (hi : Bool) (v : Word) : State :=
  if s.parishOn p then s
  else
    let mask := if hi then bits v 0 16 * 2 ^ 64 else v.toNat
    if s.setConflict p mask then s.setFlag RF.WFR_PAR_CTL_SET_ERR p 0 true
    else if hi then s.setF RF.WFR_PAR_FIELDS_HI_FIELDS p 0 (bits v 0 16)
    else s.setF RF.WFR_PAR_FIELDS_LO_FIELDS p 0 v.toNat

/-- PARISH_FIELDS_WRITE, R170. -/
def execParishFieldsWrite (p : ParishId) (hi : Bool) (v : Word) (s : State) : Out :=
  .next (s.parishFieldsWrite p.val hi v)

/-- Setting WFR_PAR_CTL.ENABLE (R170): it is stored, and takes effect at once where the Reeve has
verified every field.  An out-of-service wafer enables no parish (R624); a set that meets another
enabled parish's fields is refused with SET_ERR. (Mark: DEDUCED, log 54.) -/
def State.parishEnable (s : State) (p : Nat) : State :=
  if s.parishOn p || s.flag RF.RVE_LIFECYCLE_OUT_OF_SERVICE 0 0 then s
  else if s.setConflict p (s.parishMask p) then s.setFlag RF.WFR_PAR_CTL_SET_ERR p 0 true
  else
    let s1 := s.setFlag RF.WFR_PAR_CTL_ENABLE p 0 true
    if s1.verified p then s1.takeEffect p else s1

/-- PARISH_ENABLE, R170. (Mark: DEDUCED, log 54.) -/
def execParishEnable (p : ParishId) (s : State) : Out := .next (s.parishEnable p.val)

/-- PARISH_UNBLOCK, R587: every field of the set is verified and the key is loaded, so a waiting
ENABLE takes effect. -/
def execParishUnblock (p : ParishId) (s : State) : Out :=
  if s.parishEffective p.val then .next (s.takeEffect p.val) else .next s

/-! ### Ending a sheaf's work -/

/-- The threads of a sheaf, as field and hardware thread. -/
def State.sheafThreads (s : State) (serial : Nat) : List (Nat × Nat) :=
  (s.crofters.threads.filter (fun e => decide (e.2.sheaf = some serial) && decide (e.2.st ≠ .free))).map
    (fun e => (e.1 / 128, e.1 % 128))

/-- End every thread of a sheaf, with those it has not started yet; THREADS_FAILED counts none. -/
def State.endSheafThreads (s : State) (serial : Nat) : State :=
  let s1 := (s.sheafThreads serial).foldl (fun (t : State) x => t.cutThread x.1 x.2 none false) s
  let left := (s1.crofters.launches.filter (fun l => l.sheaf == serial)).foldl
    (fun n l => n + (l.last - l.next)) 0
  let s2 := { s1 with crofters := { s1.crofters with
    launches := s1.crofters.launches.filter (fun l => l.sheaf != serial) } }
  s2.modSheaf serial (fun x => { x with threadsLeft := x.threadsLeft - left })

/-- Every unit of the wafer that holds a task. -/
def State.busyUnits (s : State) : List (Nat × Nat) :=
  (s.engines.filter (fun e => !e.2.queue.isEmpty || !e.2.running.isEmpty ||
    !e.2.suspects.isEmpty)).map
    (fun e => (e.1 / 32, e.1 % 32))

/-- Cancel the engine tasks that `p` selects, everywhere on the wafer (R171, R811). -/
def State.cancelTasks (s : State) (code : Nat) (p : EngTask → Bool) : State :=
  s.busyUnits.foldl (fun (t : State) u => t.cancelWhere u.1 u.2 code p) s

/-- Withdraw the dependency waits of a sheaf (R194). -/
def State.withdrawDeps (s : State) (serial : Nat) : State :=
  let mine := fun (o : WaitOwner) => match o with
    | .dep n _ => decide (n = serial)
    | _ => false
  let s1 := s.dropWaiters (fun w => match w.kind with
    | .wait o => mine o
    | _ => false)
  { s1 with
    tallies := { s1.tallies with reqs := s1.tallies.reqs.filter (fun r => !mine r.owner) }
    seq := { s1.seq with depReturns := s1.seq.depReturns.filter (fun d => d.1 != serial) } }

/-- Move a sheaf to its end. -/
def State.endPhase (s : State) (serial : Nat) : State :=
  (s.withdrawDeps serial).modSheaf serial (fun x => { x with phase := .ending })

/-- End a sheaf by a failure: its threads end, its engine tasks are cancelled, and it completes with
the failure unless one was recorded before (R171, R185). -/
def State.endSheaf (s : State) (serial : Nat) (fail : SheafFail) : State :=
  let s1 := s.failSheaf serial fail.status fail.sub fail.detail
  let s2 := (s1.endSheafThreads serial).cancelTasks 0xFA (fun t => decide (t.sheaf = some serial))
  s2.endPhase serial

/-- Receipt status CANCELLED. -/
def failCancelled : SheafFail := ⟨0x0B, 0, 0⟩

/-- The cancel of R171: every sheaf of the parish ends with CANCELLED, and every task of the parish is
cancelled. (Mark: DEDUCED, log 55.) -/
def State.parishCancel (s : State) (p : Nat) : State :=
  if s.flag RF.WFR_PAR_CANCEL_BUSY p 0 then s
  else
    let mine := s.seq.sheaves.filter (fun x => decide (x.parish = p))
    let s1 := mine.foldl (fun (t : State) x => t.endSheaf x.serial failCancelled) s
    let s2 := s1.cancelTasks 0xFA (fun t => match t.parish with
      | some q => decide (q.val = p)
      | none => false)
    { s2 with seq := { s2.seq with cancelling := setInsert p s2.seq.cancelling } }.setFlag
      RF.WFR_PAR_CANCEL_BUSY p 0 true

/-- PARISH_CANCEL, R171: by the physical function or the parish's own virtual function (R169).
(Mark: DEDUCED, log 55.) -/
def execParishCancel (p : ParishId) (s : State) : Out := .next (s.parishCancel p.val)

/-- PARISH_DISABLE, R171: ENABLE reads 0 and the parish's work is cancelled. -/
def State.parishDisable (s : State) (p : Nat) : State :=
  if s.flag RF.WFR_PAR_CTL_ENABLE p 0 then
    (s.parishCancel p).setFlag RF.WFR_PAR_CTL_ENABLE p 0 false
  else s

def execParishDisable (p : ParishId) (s : State) : Out := .next (s.parishDisable p.val)

/-- Disable every ring of a parish. -/
def State.ringsOff (s : State) (p : Nat) : State :=
  (List.range 64).foldl (fun (t : State) r => t.setFlag RF.WFR_RINGr_CTL_ENABLE p r false) s

/-- PARISH_CANCEL_DONE, R171: every receipt of the cancel has been written; BUSY clears and the rings
are disabled. -/
def execParishCancelDone (p : ParishId) (s : State) : Out :=
  if !s.flag RF.WFR_PAR_CANCEL_BUSY p.val 0 || s.seq.sheaves.any (fun x => decide (x.parish = p.val)) then
    .next s
  else
    let s1 := { s with seq := { s.seq with cancelling := s.seq.cancelling.filter (· != p.val) } }
    .next ((s1.setFlag RF.WFR_PAR_CANCEL_BUSY p.val 0 false).ringsOff p.val)

/-! ### Rings -/

/-- Entries of a ring (R197). -/
def State.ringEntries (s : State) (p r : Nat) : Nat := 2 ^ (s.getF RF.WFR_RINGr_CTL_SIZE p r + 4)

/-- Is a wafer reset in progress? -/
def State.waferInReset (s : State) : Bool := s.resets.running.any (fun x => decide (4 ≤ x.1))

/-- Does the ring sequencer run: READY, not frozen (R192), not halted, not in a wafer reset, not under a
suite (R664)? -/
def State.seqActive (s : State) : Bool :=
  decide (s.boot.stage = .ready) && !s.stopped 4 && !s.halted && !s.waferInReset && !s.bistBusy

/-- A doorbell (R174): held before READY and while frozen (R192), ignored in a function-level reset of
its function (R517); a value at or beyond the entry count stops the ring. -/
def State.doorbell (s : State) (p r v : Nat) : State :=
  if s.host.flr.contains (p + 1) then s
  else if decide (s.boot.stage ≠ .ready) || s.stopped 4 || s.halted then
    { s with seq := { s.seq with doorbells := s.seq.doorbells ++ [(p, r, v)] } }
  else
    let s1 := s.setF RF.WFR_RINGr_SQ_PTR_SQ_TAIL p r v
    if s.ringEntries p r ≤ v then s1.setFlag RF.WFR_RINGr_STAT_ERR p r true else s1

/-- Hold a write that reaches H0 while the wafer is frozen; with 256 held, H0 takes no more (R515). -/
def State.holdWrite (s : State) (h : HeldWrite) : State :=
  if s.host.held.length < 256 then { s with host := { s.host with held := s.host.held ++ [h] } } else s

/-- A write of a ring's doorbell reaches H0 (R174, R515); a read of it returns the last value written
(R505). (Mark: DEDUCED, log 60.) -/
def State.ringDoorbell (s : State) (p : ParishId) (r : RingId) (v : Nat) : State :=
  let s1 := { s with host := { s.host with
    doorbells := s.host.doorbells.put 0 (p.val * 64 + r.val) v } }
  if s1.h0Frozen then s1.holdWrite (.ring p r v) else s1.doorbell p.val r.val v

/-- RING_DOORBELL, R174. -/
def execRingDoorbell (p : ParishId) (r : RingId) (v : BitVec 16) (s : State) : Out :=
  .next (s.ringDoorbell p r v.toNat)

/-- Process the doorbells held, in arrival order (R192). (Mark: DEDUCED, log 60.) -/
def State.releaseDoorbells (s : State) : State :=
  let l := s.seq.doorbells
  l.foldl (fun (t : State) d => t.doorbell d.1 d.2.1 d.2.2) { s with seq := { s.seq with doorbells := [] } }

/-- A write of WFR_RINGr_CTL while the ring is disabled: SIZE 13–15 is ignored, WEIGHT 0 is taken as
1 (R197). -/
def State.ringCtlWrite (s : State) (p r : Nat) (v : Word) : State :=
  let w0 := s.rd .WFR_RINGr_CTL p r
  let w1 := putBits w0 1 1 (bits v 1 1)
  let w2 := if bits v 2 4 ≤ 12 then putBits w1 2 4 (bits v 2 4) else w1
  let w3 := putBits w2 6 4 (max 1 (bits v 6 4))
  let w4 := putBits (putBits w3 10 1 (bits v 10 1)) 16 11 (bits v 16 11)
  s.wr .WFR_RINGr_CTL p r (putBits w4 0 1 (bits v 0 1))

/-- RING_ENABLE, R197: a write of WFR_RINGr_CTL that sets ENABLE of a disabled ring. -/
def execRingEnable (p : ParishId) (r : RingId) (v : Word) (s : State) : Out :=
  if s.flag RF.WFR_RINGr_CTL_ENABLE p.val r.val || !bit v 0 then .next s
  else .next (s.ringCtlWrite p.val r.val v)

/-- Disabling a ring (R190): its sheaves that are not dispatched end with CANCELLED; every other CTL
field keeps its value. -/
def State.ringDisable (s : State) (p r : Nat) : State :=
  if !s.flag RF.WFR_RINGr_CTL_ENABLE p r then s
  else
    let l := s.seq.sheaves.filter (fun x => decide (x.parish = p ∧ x.ring = r ∧ x.phase = .waiting))
    let s1 := l.foldl (fun (t : State) x => t.endSheaf x.serial failCancelled) s
    s1.setFlag RF.WFR_RINGr_CTL_ENABLE p r false

/-- RING_DISABLE, R190. -/
def execRingDisable (p : ParishId) (r : RingId) (s : State) : Out := .next (s.ringDisable p.val r.val)

/-- RING_RQ_HEAD_WRITE, R176: software returns receipt slots at any time (R197). (Mark: DEDUCED, log 57.) -/
def execRingRqHeadWrite (p : ParishId) (r : RingId) (v : BitVec 16) (s : State) : Out :=
  .next (s.setF RF.WFR_RINGr_RQ_PTR_RQ_HEAD p.val r.val v.toNat)

/-! ### Sheaf fields (R177) -/

def Sheaf.id (x : Sheaf) : Nat := leField x.raw 0 8
def Sheaf.kind (x : Sheaf) : Nat := bitField x.raw 64 4
def Sheaf.isSerial (x : Sheaf) : Bool := bitField x.raw 68 1 == 1
def Sheaf.shrink (x : Sheaf) : Bool := bitField x.raw 69 1 == 1
def Sheaf.handle (x : Sheaf) : Nat := leField x.raw 10 2
def Sheaf.timeoutMs (x : Sheaf) : Nat := leField x.raw 12 2
def Sheaf.addrA (x : Sheaf) : Nat := bitField x.raw 128 57
def Sheaf.addrB (x : Sheaf) : Nat := bitField x.raw 192 57
def Sheaf.count (x : Sheaf) : Nat := bitField x.raw 256 40
def Sheaf.setMask (x : Sheaf) : Nat := bitField x.raw 320 80
def Sheaf.depCount (x : Sheaf) : Nat := bitField x.raw 400 3
def Sheaf.member (x : Sheaf) : Nat := bitField x.raw 405 11
def Sheaf.ctEn (x : Sheaf) : Bool := bitField x.raw 471 1 == 1
def Sheaf.ctAddr (x : Sheaf) : Nat :=
  directAddr (bitField x.raw 448 4) (bitField x.raw 452 7) 3 (bitField x.raw 459 12 * 64)
def Sheaf.depTally (x : Sheaf) (d : Nat) : Nat := bitField x.raw (512 + 128 * d) 57
def Sheaf.depThreshold (x : Sheaf) (d : Nat) : Nat := bitField x.raw (576 + 128 * d) 48
def Sheaf.depErrFails (x : Sheaf) (d : Nat) : Bool := bitField x.raw (624 + 128 * d) 1 == 1

def State.sheaf? (s : State) (serial : Nat) : Option Sheaf :=
  s.seq.sheaves.find? (fun x => decide (x.serial = serial))

/-- The source of the wafer control's accesses for a parish: field 4, its router (R178). -/
def State.parishSource (s : State) (p : Nat) : Source :=
  s.engineSource 4 (some (Fin.ofNat 32 p)) 0

/-! ### Musters of a sheaf -/

def State.muster (s : State) (m : Nat) : Option Muster := (s.seq.musters.find? (fun e => e.1 == m)).map (·.2)

/-- STATE of a muster entry: 0 FREE, 1 FORMING, 2 FORMED, 3 REFUSED, 4 ABORTED (R198). -/
def State.musterState (s : State) (m : Nat) : Nat := s.getF RF.WFR_MUSm_CTL_STATE 0 m

/-- The entry a handle of a parish names (R177, R187). -/
def State.musterOf (s : State) (p handle : Nat) : Option Nat :=
  (List.range 64).find? (fun m => decide (s.musterState m ≠ 0) &&
    decide (s.getF RF.WFR_MUSm_CTL_HANDLE 0 m = handle) &&
    decide (s.getF RF.WFR_MUSm_CTL_PARISH 0 m = p))

def State.memberCount (s : State) (m : Nat) : Nat := s.getF RF.WFR_MUSm_CTL_MEMBERS 0 m + 1

/-- DETAIL of a MUSTER_REFUSED receipt (R187). -/
def State.refusedDetail (s : State) (m : Nat) : Nat :=
  let l := match s.muster m with | some x => x.disagree | none => []
  if s.getF RF.WFR_MUSm_CTL_KIND 0 m = 0 then listMask (l.filter (fun i => decide (i < 16)))
  else l.headD 0 % 2 ^ 11 + l.length % 2 ^ 11 * 2 ^ 32

/-- The failure of a sheaf whose muster is REFUSED or ABORTED (R184, R187). -/
def State.musterFail (s : State) (m : Nat) : Option SheafFail :=
  match s.musterState m with
  | 3 => some ⟨0x0C, 0, s.refusedDetail m⟩
  | 4 =>
    let (w, r, c) := match s.muster m with
      | some x => x.wave.getD (0, 0, 0)
      | none => (0, 0, 0)
    some ⟨0x0D, 0, w % 16 + r % 128 * 2 ^ 4 + c % 256 * 2 ^ 16⟩
  | _ => none

/-! ### Fetch -/

/-- Reserved bits of a sheaf (R177). (Mark: DEDUCED, log 56.) -/
def Sheaf.reservedZero (x : Sheaf) : Bool :=
  decide (bitField x.raw 70 10 = 0) && decide (bitField x.raw 112 16 = 0) &&
    decide (bitField x.raw 185 7 = 0) && decide (bitField x.raw 249 7 = 0) &&
    decide (bitField x.raw 296 24 = 0) && decide (bitField x.raw 403 2 = 0) &&
    decide (bitField x.raw 416 32 = 0) && decide (bitField x.raw 472 40 = 0) &&
    (List.range 4).all (fun d => decide (bitField x.raw (512 + 128 * d + 57) 7 = 0) &&
      decide (bitField x.raw (512 + 128 * d + 113) 15 = 0))

/-- Is a dependency's TALLY the first word of a slot in region 3 (R177)? -/
def depAddrOk (a : Nat) : Bool :=
  let d := Direct.of a
  !isSpread a && decide (d.field < 80) && decide (d.region = 3) && decide (d.off < 0x40000) &&
    decide (d.off % 64 = 0)

/-- The failures of the fetch check (R179, R184), as status, subcause and detail. (Mark: DEDUCED, log 56.) -/
def State.sheafCheck (s : State) (p : Nat) (x : Sheaf) : List SheafFail :=
  let launch := decide (x.kind = 0)
  let entry := s.musterOf p x.handle
  let subs : List (Bool × Nat) :=
    [(!x.reservedZero, 1),
     (decide (3 < x.kind), 2),
     ((launch && decide (x.count = 0 ∨ 1048576 < x.count)) ||
       (decide (x.kind = 1 ∨ x.kind = 2) && decide (x.count = 0 ∨ 2 ^ 32 < x.count)), 3),
     (launch && decide (x.setMask = 0), 4),
     (decide (4 < x.depCount) ||
       (List.range (min 4 x.depCount)).any (fun d => !depAddrOk (x.depTally d)), 5),
     ((decide (x.handle ≠ 0) && entry.isNone) || (decide (x.kind = 2) && match entry with
       | some m => decide (x.handle = 0) || decide (s.getF RF.WFR_MUSm_CTL_KIND 0 m = 0)
       | none => true), 6),
     (decide (x.kind = 2) && match entry with
       | some m => decide (s.memberCount m ≤ x.member)
       | none => false, 7)]
  let inval := match subs.find? (·.1) with
    | some (_, n) => [SheafFail.mk 0x10 n 0]
    | none => []
  let outside := (maskList x.setMask 80).filter (fun f => !(s.parishMask p).testBit f)
  let retired := (maskList x.setMask 80).filter (fun f => !s.inService f)
  let owned := match launch, outside with
    | true, f :: _ => [SheafFail.mk 0x11 0 f]
    | _, _ => []
  let gone := match launch, retired with
    | true, f :: r =>
      if x.shrink && decide ((f :: r).length < (maskList x.setMask 80).length) then []
      else [SheafFail.mk 0x0A 0 f]
    | _, _ => []
  let mus := match entry with
    | some m => if x.handle = 0 then [] else (s.musterFail m).toList
    | none => []
  inval ++ owned ++ gone ++ mus

/-- Of failures recorded in one cycle the highest code is reported (R185). -/
def worstFail : List SheafFail → Option SheafFail
  | [] => none
  | a :: r => match worstFail r with
    | none => some a
    | some b => if a.status < b.status then some b else some a

/-- Return a dependency wait's word to the sequencer. -/
def State.depReturn (s : State) (serial d : Nat) (w : Word) : State :=
  { s with seq := { s.seq with depReturns := s.seq.depReturns ++ [(serial, d, w)] } }

/-- Place the wait of one dependency at its tally's home (R180). -/
def State.placeDep (s : State) (x : Sheaf) (d : Nat) : State :=
  let a := x.depTally d
  let src := s.parishSource x.parish
  let op := TallyOp.wait (BitVec.ofNat 48 (x.depThreshold d))
  let owner := WaitOwner.dep x.serial d
  let da := Direct.of a
  let (id, s0) := ((s.commons.nextReq, { s with commons := { s.commons with
    nextReq := s.commons.nextReq + 1 } }) : Nat × State)
  let n := s0.tallies.nextTx.look 0 4
  let tx : TxId := ⟨4, BitVec.ofNat 16 n⟩
  let s1 := { s0 with tallies := { s0.tallies with
    nextTx := s0.tallies.nextTx.put 0 4 ((n + 1) % 65536) } }
  let req := fun (w : Nat) => TallyReq.mk id (tallyKey da.field (da.off / 64)) w op owner tx false s.now
  match s.locate src a 8 false false with
  | .fail st tgt =>
    (s1.noteAccess tgt st false false a src).depReturn x.serial d
      (BitVec.ofNat 64 (2 ^ 61 + st.code))
  | .remote w =>
    { s1 with tallies := { s1.tallies with reqs := s1.tallies.reqs ++ [req w] } }.send
      (.tally (Fin.ofNat 16 w) a 5 (BitVec.ofNat 64 (x.depThreshold d)) id)
  | .hold _ => { s1 with tallies := { s1.tallies with reqs := s1.tallies.reqs ++ [req s.ownWafer] } }
  | .at f _ off =>
    match s1.tallyApply (tallyKey f (off / 64)) op owner 4 src.parish
        (if f = 4 then none else some tx) with
    | (s2, .word w) =>
      if bit w 63 then s2.modSheaf x.serial (fun y => { y with depsRefused := setInsert d y.depsRefused })
      else s2.depReturn x.serial d w
    | (s2, .parked) => s2

/-- A sheaf as fetched. -/
def newSheaf (serial p r : Nat) (raw : List Byte) (now : Nat) : Sheaf :=
  { serial := serial, parish := p, ring := r, raw := raw, phase := .waiting, depsMet := [],
    depsRefused := [], fieldSet := bitField raw 320 80, fail := none, unitFault := none, threadsLeft := 0,
    threadsFailed := 0, exitCode := 0, moved := 0, tDispatch := 0, timerBase := now, energy := 0,
    replayed := false }

/-- May the ring's next sheaf be fetched (R174, R175, R197)? -/
def State.canFetch (s : State) (p r : Nat) : Bool :=
  s.seqActive && s.flag RF.WFR_RINGr_CTL_ENABLE p r && !s.flag RF.WFR_RINGr_STAT_ERR p r &&
    !s.flag RF.WFR_RINGr_STAT_FETCH_FAULT p r && s.parishEffective p &&
    !s.seq.cancelling.contains p &&
    decide (s.getF RF.WFR_RINGr_SQ_PTR_SQ_HEAD p r ≠ s.getF RF.WFR_RINGr_SQ_PTR_SQ_TAIL p r) &&
    decide (s.getF RF.WFR_RINGr_SQ_PTR_SQ_TAIL p r < s.ringEntries p r) &&
    decide (s.seq.sheaves.length < 16384)

/-- A faulting fetch stops the ring (R197). -/
def State.fetchFault (s : State) (p r : Nat) (st : AccStatus) : State :=
  s.setFlag RF.WFR_RINGr_STAT_FETCH_FAULT p r true |>.setF RF.WFR_RINGr_STAT_FAULT_STATUS p r st.code

/-- The fetched snapshot: SQ_HEAD advances, the sheaf is checked, and its dependency waits are placed
(R175, R179, R180).  In M-drowsy it is held and sets WORK_PENDING (R525). -/
def State.takeSheaf (s : State) (p r : Nat) (raw : List Byte) : State :=
  let head := s.getF RF.WFR_RINGr_SQ_PTR_SQ_HEAD p r
  let s1 := s.setF RF.WFR_RINGr_SQ_PTR_SQ_HEAD p r ((head + 1) % s.ringEntries p r)
  let n := s1.seq.nextSerial
  let x := newSheaf n p r raw s1.now
  let s2 := { s1 with seq := { s1.seq with sheaves := s1.seq.sheaves ++ [x], nextSerial := n + 1 } }
  let s3 := if s2.getF RF.PWR_MOD_STAT_STATE 0 0 = 1 then s2.raise RF.PWR_EVENT_WORK_PENDING 0 else s2
  match worstFail (s.sheafCheck p x) with
  | some fl => (s3.failSheaf n fl.status fl.sub fl.detail).endPhase n
  | none => (List.range x.depCount).foldl (fun (t : State) d => t.placeDep x d) s3

/-- SHEAF_FETCH, R179.  For a ring in host memory the operands are what the host answered: its bytes
and the status of the read; a ring in the commons is read there as the parish (R173). -/
def execSheafFetch (p : ParishId) (r : RingId) (hostData : List Byte) (hostStatus : AccStatusCode)
    (s : State) : Out :=
  if hostData.length ≠ 128 then .fault (.malformedOperand "SHEAF_FETCH")
  else if !s.canFetch p.val r.val then .next s
  else
    let a := s.getF RF.WFR_RINGr_SQ_BASE_BASE p.val r.val * 4096 +
      s.getF RF.WFR_RINGr_SQ_PTR_SQ_HEAD p.val r.val * 128
    if s.flag RF.WFR_RINGr_CTL_LOC p.val r.val then
      match s.bulkRead (s.parishSource p.val) (a % 2 ^ 57) 128 with
      | (s1, ⟨_, some (_, st)⟩) => .next (s1.fetchFault p.val r.val st)
      | (s1, ⟨data, none⟩) => .next (s1.takeSheaf p.val r.val data)
    else if !s.fnOn (p.val + 1) then .next (s.fetchFault p.val r.val .addrInvalid)
    else
      let s1 := s.send (.hostRead (Fin.ofNat 33 (p.val + 1)) (s.pasid (p.val + 1)) a 128)
      match AccStatus.ofCode hostStatus.toNat with
      | .ok => .next (s1.takeSheaf p.val r.val hostData)
      | st => .next (s1.fetchFault p.val r.val st)

/-! ### Dependencies -/

/-- DEP_WAIT_RETRY, R180: a REFUSED wait is placed again. -/
def execDepWaitRetry (serial : Nat) (d : Fin 4) (s : State) : Out :=
  match s.sheaf? serial with
  | none => .next s
  | some x =>
    if !s.seqActive || !x.depsRefused.contains d.val || decide (x.phase ≠ .waiting) then .next s
    else
      .next ((s.modSheaf serial (fun y => { y with depsRefused := y.depsRefused.filter (· != d.val) })
        ).placeDep x d.val)

/-- DEP_SATISFIED, R180: the first dependency wait that has returned.  ABORTED places it again, a lost
home ends the sheaf with DEP_LOST, ERR with ERR_FAILS ends it with DEP_ERROR (R196). -/
def execDepSatisfied (s : State) : Out :=
  match s.seq.depReturns with
  | [] => .next s
  | (serial, d, w) :: r =>
    if !s.seqActive then .next s
    else
      let s1 := { s with seq := { s.seq with depReturns := r } }
      match s1.sheaf? serial with
      | none => .next s1
      | some x =>
        if x.phase ≠ .waiting then .next s1
        else if bit w 61 then
          .next ((s1.failSheaf serial 0x09 d (bits w 0 4)).endPhase serial)
        else if bit w 62 then .next (s1.placeDep x d)
        else if bit w 63 then
          .next (s1.modSheaf serial (fun y => { y with depsRefused := setInsert d y.depsRefused }))
        else if bit w 48 && x.depErrFails d then
          .next ((s1.failSheaf serial 0x03 d 0).endPhase serial)
        else .next (s1.modSheaf serial (fun y => { y with depsMet := setInsert d y.depsMet }))

/-! ### Dispatch -/

/-- Free entries of the receipt queue: RQ_HEAD = RQ_TAIL is empty, so one entry stays unused.
(Mark: DEDUCED, log 57.) -/
def State.rqFree (s : State) (p r : Nat) : Nat :=
  let n := s.ringEntries p r
  let t := s.getF RF.WFR_RINGr_RQ_PTR_RQ_TAIL p r
  let h := s.getF RF.WFR_RINGr_RQ_PTR_RQ_HEAD p r
  n - 1 - (t + n - h % n) % n

/-- The next sheaf of a ring: the oldest one not dispatched (R175). -/
def State.ringHead (s : State) (p r : Nat) : Option Sheaf :=
  s.seq.sheaves.find? (fun x => decide (x.parish = p ∧ x.ring = r ∧ x.phase = .waiting))

/-- Fields of a LAUNCH that are not F-on (R530). -/
def State.sleeping (s : State) (mask : Nat) : Bool :=
  (maskList mask 80).any (fun f => s.inService f && decide (s.fieldPower f ≠ 0))

/-- May the ring's head sheaf be dispatched now (R175, R176, R177, R187, R525, R530)? -/
def State.ringReady (s : State) (p r : Nat) : Bool :=
  match s.ringHead p r with
  | none => false
  | some x =>
    decide (x.depsMet.length = x.depCount) &&
      (match s.musterOf p x.handle with
       | some m => decide (x.handle = 0) || decide (s.musterState m = 2)
       | none => decide (x.handle = 0)) &&
      (!x.isSerial || !s.seq.sheaves.any (fun y =>
        decide (y.parish = p ∧ y.ring = r ∧ y.serial < x.serial))) &&
      decide ((s.seq.sheaves.filter (fun y =>
        decide (y.parish = p ∧ y.ring = r ∧ y.phase ≠ .waiting))).length < s.rqFree p r) &&
      !(decide (x.kind = 0) && s.sleeping x.setMask)

/-- The ring a parish serves next: WEIGHT slots per round (R175). (Mark: DESIGN CHOICE, log 58.) -/
def State.pickRing (s : State) (p : Nat) : Option (Nat × Nat) :=
  let cur := s.seq.ringTurn.look 0 p
  let c := cur / 16
  let used := cur % 16
  if s.ringReady p c && decide (used < max 1 (s.getF RF.WFR_RINGr_CTL_WEIGHT p c)) then
    some (c, used + 1)
  else
    ((List.range 64).map (fun i => (c + 1 + i) % 64)).findSome? (fun r =>
      if s.ringReady p r then some (r, 1) else none)

/-- The parish and ring served next: parishes round-robin (R175). (Mark: DESIGN CHOICE, log 58.) -/
def State.pickNext (s : State) : Option (Nat × Nat × Nat) :=
  ((List.range 32).map (fun i => (s.seq.turn + i) % 32)).findSome? (fun p =>
    if s.parishEffective p then (s.pickRing p).map (fun (r, u) => (p, r, u)) else none)

/-- The image header of R107 passes its check. -/
def headerOk (addr : Nat) (h : List Byte) : Bool :=
  decide (addr % 64 = 0) && decide (leField h 0 4 = 0x58544B31) && decide (leField h 4 1 = 0) &&
    decide (leField h 5 1 = 1) && decide (leField h 6 2 = 0) && decide (leField h 8 8 % 2 = 0) &&
    decide (leField h 24 4 % 16 = 0) && decide (leField h 28 4 % 64 = 0) &&
    (h.drop 32).all (fun b => decide (b = 0#8))

/-- Do the 128 slots of a field lie inside region 0 or 1 of the field (R112)? -/
def State.slotsFit (s : State) (f : Nat) : Bool :=
  let a := s.getF RF.CRF_STACK_BASE_BASE f 0 * 4096
  let n := 128 * (s.getF RF.CRF_STACK_SLOT_SLOT f 0 * 4096)
  let d := Direct.of a
  !isSpread a && decide (d.wafer = s.ownWafer) && decide (d.field = f) &&
    ((decide (d.region = 0) && decide (d.off + n ≤ 2 ^ 35)) ||
      (decide (d.region = 1) && decide (d.off + n ≤ 0x3000000)))

/-- The subcause of a launch that fails, the lowest that applies (R112, R184). -/
def State.launchSub (s : State) (addr : Nat) (h : List Byte) (fields : List Nat) : Option Nat :=
  if !headerOk addr h then some 1
  else if fields.any (fun f => decide (s.getF RF.CRF_STACK_SLOT_SLOT f 0 * 4096 <
      leField h 24 4 + leField h 28 4)) then some 2
  else if fields.any (fun f => !s.slotsFit f) then some 3
  else if fields.any (fun f => !s.flag RF.CRF_MON_STATUS_READY f 0) then some 4
  else none

/-- The threads each field receives (R108). -/
def launchPieces (x : Sheaf) (h : List Byte) (fields : List Nat) : List Launch :=
  let n := x.count
  let q := ceilDiv n fields.length
  (fields.zipIdx.map (fun (f, i) =>
    ({ field := f, sheaf := x.serial, parish := some (Fin.ofNat 32 x.parish), next := min n (i * q),
       last := min n ((i + 1) * q), total := n, image := x.addrA, entry := leField h 8 8,
       gp := leField h 16 8, arg := x.addrB, stackBytes := leField h 24 4,
       tlsBytes := leField h 28 4 } : Launch))).filter (fun l => decide (l.next < l.last))

/-- Mark a sheaf dispatched (R182). -/
def State.markDispatched (s : State) (serial : Nat) : State :=
  s.modSheaf serial (fun y => { y with phase := .dispatched, tDispatch := s.fabricTime,
                                       timerBase := s.now })

/-- Dispatch a LAUNCH (R107, R108, R112, R179). -/
def State.dispatchLaunch (s : State) (x : Sheaf) : State :=
  let all := maskList x.setMask 80
  let fields := all.filter (fun f => s.inService f)
  let gone := all.filter (fun f => !s.inService f)
  let lost := match gone with
    | [] => none
    | f :: _ => if x.shrink && !fields.isEmpty then none else some f
  match lost with
  | some f => (s.failSheaf x.serial 0x0A 0 f).endPhase x.serial
  | none =>
    match s.bulkRead (s.parishSource x.parish) x.addrA 64 with
    | (s1, ⟨_, some (a, st)⟩) => (s1.failSheaf x.serial 0x04 0 (accessDetail a st)).endPhase x.serial
    | (s1, ⟨h, none⟩) =>
      match s1.launchSub x.addrA h fields with
      | some sub => (s1.failSheaf x.serial 0x12 sub 0).endPhase x.serial
      | none =>
        let s2 := s1.modSheaf x.serial (fun y => { y with threadsLeft := x.count,
                                                          fieldSet := listMask fields })
        { s2 with crofters := { s2.crofters with
            launches := s2.crofters.launches ++ launchPieces x h fields } }

/-- The member a SEND goes to. -/
def State.sendTarget (s : State) (x : Sheaf) : Option (Nat × MusterMember) :=
  match s.musterOf x.parish x.handle with
  | none => none
  | some m => match s.muster m with
    | none => none
    | some e => (e.members[x.member]?).map (fun k => (m, k))

/-- Send the next burst of a SEND to its member (R178, R189). -/
def State.sendBurst (s : State) (x : Sheaf) : State :=
  let n := min (4096 - (x.addrA + x.moved) % 4096) (x.count - x.moved)
  match s.sendTarget x with
  | none => (s.failSheaf x.serial 0x08 3 0).endPhase x.serial
  | some (_, k) =>
    match s.bulkRead (s.parishSource x.parish) (x.addrA + x.moved) n with
    | (s1, ⟨_, some (a, st)⟩) => (s1.failSheaf x.serial 0x04 0 (accessDetail a st)).endPhase x.serial
    | (s1, ⟨data, none⟩) =>
      s1.send (.loose k.rack k.wafer 0x05 ([x.serial, x.handle, k.parish, x.addrB + x.moved,
        b2n (decide (x.moved + n = x.count))] ++ data.map (·.toNat)))

/-- Dispatch by kind (R178). -/
def State.dispatch (s : State) (x : Sheaf) : State :=
  let s1 := s.markDispatched x.serial
  match x.kind with
  | 0 => s1.dispatchLaunch x
  | 1 => s1
  | 2 => s1.sendBurst x
  | _ => s1.endPhase x.serial

/-- SHEAF_DISPATCH, R175.  A module that is not M-active dispatches nothing (R525); a LAUNCH held for
a field that is not F-on sets WORK_PENDING (R530). -/
def execSheafDispatch (s : State) : Out :=
  if !s.seqActive || decide (s.getF RF.PWR_MOD_STAT_STATE 0 0 ≠ 0) then .next s
  else
    let held := s.seq.sheaves.any (fun x => decide (x.phase = .waiting ∧ x.kind = 0) &&
      decide (x.depsMet.length = x.depCount) && s.sleeping x.setMask)
    let s0 := if held then s.raise RF.PWR_EVENT_WORK_PENDING 0 else s
    match s0.pickNext with
    | none => .next s0
    | some (p, r, used) =>
      let s1 := { s0 with seq := { s0.seq with turn := (p + 1) % 32,
                                               ringTurn := s0.seq.ringTurn.put 0 p (r * 16 + used) } }
      match s1.ringHead p r with
      | none => .next s1
      | some x => .next (s1.dispatch x)

/-! ### Copies and sends -/

/-- COPY_BURST_ACK, R178: one burst of a COPY, read and written as accesses of the parish, is
acknowledged; after the last one the sheaf ends. -/
def execCopyBurstAck (serial : Nat) (s : State) : Out :=
  match s.sheaf? serial with
  | none => .next s
  | some x =>
    if !s.seqActive || decide (x.phase ≠ .dispatched) || decide (x.kind ≠ 1) then .next s
    else
      let a := x.addrA + x.moved
      let b := x.addrB + x.moved
      let n := min (min (4096 - a % 4096) (4096 - b % 4096)) (x.count - x.moved)
      let src := s.parishSource x.parish
      let stop := fun (t : State) (ad : Nat) (st : AccStatus) =>
        (t.failSheaf serial 0x04 0 (accessDetail ad st)).endPhase serial
      match s.bulkRead src a n with
      | (s1, ⟨_, some (ad, st)⟩) => .next (stop s1 ad st)
      | (s1, ⟨data, none⟩) =>
        match s1.bulkWrite src b data with
        | (s2, some (ad, st)) => .next (stop s2 ad st)
        | (s2, none) =>
          let s3 := s2.modSheaf serial (fun y => { y with moved := y.moved + n })
          if x.moved + n = x.count then .next (s3.endPhase serial) else .next s3

/-- What the receiving member answered to a SEND burst (R184 PEER_UNREACHABLE). -/
def sendSub (result : Nat) : Nat := if result = 1 then 1 else if result = 2 then 2 else 3

/-- SEND_BURST_ACK, R189: the member acknowledged the burst (`result` 0), or it was not delivered:
1 link, 2 window range, 3 member left. -/
def execSendBurstAck (serial : Nat) (result : Fin 4) (s : State) : Out :=
  match s.sheaf? serial with
  | none => .next s
  | some x =>
    if !s.seqActive || decide (x.phase ≠ .dispatched) || decide (x.kind ≠ 2) then .next s
    else if result.val ≠ 0 then
      .next ((s.failSheaf serial 0x08 (sendSub result.val) 0).endPhase serial)
    else
      let n := min (4096 - (x.addrA + x.moved) % 4096) (x.count - x.moved)
      let y := { x with moved := x.moved + n }
      let s1 := s.modSheaf serial (fun _ => y)
      if y.moved = x.count then .next (s1.endPhase serial) else .next (s1.sendBurst y)

/-- SEND_RECEIVE, R189: a burst for a receive window of this wafer.  Past RX_SIZE it is rejected;
otherwise it is written in the member parish's fields, and after the last byte RX_TALLY gets 1 added
with release. -/
def execSendReceive (m : MusterId) (rack : BitVec 7) (wafer : WaferId) (serial : BitVec 64)
    (offset : BitVec 57) (data : List Byte) (last : Bool) (s : State) : Out :=
  let reply := fun (t : State) (res : Nat) =>
    t.send (.loose rack.toNat wafer.val 0x09 [serial.toNat, res])
  if s.musterState m.val ≠ 2 ∨ s.getF RF.WFR_MUSm_CTL_KIND 0 m.val ≠ 1 then .next (reply s 3)
  else
    let base := s.getF RF.WFR_MUSm_RX_RX_BASE 0 m.val * 4096
    let size := 2 ^ (s.getF RF.WFR_MUSm_RX_RX_SIZE 0 m.val + 20)
    if size < offset.toNat + data.length then .next (reply s 2)
    else
      let p := s.getF RF.WFR_MUSm_CTL_PARISH 0 m.val
      let src := s.parishSource p
      match s.bulkWrite src (base + offset.toNat) data with
      | (s1, some _) => .next (reply s1 2)
      | (s1, none) =>
        if last then
          let ta := directAddr s.ownWafer (s.getF RF.WFR_MUSm_RXT_FIELD 0 m.val) 3
            (s.getF RF.WFR_MUSm_RXT_INDEX 0 m.val * 64)
          .next (reply (s1.tallyBump src ta false none).1 0)
        else .next (reply s1 0)

/-! ### Abort waves (R626, R627) -/

/-- Slot 0 of an ABORT message. (Mark: DEDUCED, log 62.) -/
def abortSlot (handle wafer rack status epoch wave : Nat) : Nat :=
  handle % 2 ^ 16 + wafer % 16 * 2 ^ 16 + rack % 128 * 2 ^ 20 + status % 256 * 2 ^ 27 +
    epoch % 2 ^ 16 * 2 ^ 48 + wave % 2 ^ 32 * 2 ^ 64

/-- Send a message to every other member of an entry: tight members over the rack fabric, loose ones
over far routes. (Mark: DEDUCED, log 136.) -/
def State.tellMembers (s : State) (m op : Nat) (slots : List Nat) : State :=
  match s.muster m with
  | none => s
  | some e =>
    e.members.zipIdx.foldl (fun (t : State) (k, i) =>
      if i = e.self then t
      else if s.getF RF.WFR_MUSm_CTL_KIND 0 m = 0 then t.send (.fabric k.wafer op slots)
      else t.send (.loose k.rack k.wafer op slots)) s

/-- The entry of muster `m` beside its registers. -/
def State.modMuster (s : State) (m : Nat) (g : Muster → Muster) : State :=
  { s with seq := { s.seq with
      musters := s.seq.musters.map (fun e => if e.1 = m then (e.1, g e.2) else e) } }

/-- The sheaves that name an entry. -/
def State.musterSheaves (s : State) (m : Nat) : List Sheaf :=
  s.seq.sheaves.filter (fun x => decide (x.handle ≠ 0 ∧ s.musterOf x.parish x.handle = some m))

/-- Move an entry to ABORTED with its first wave; the sheaves that `p` selects end MUSTER_ABORTED. -/
def State.abortEntry (s : State) (m wafer rack status : Nat) (p : Sheaf → Bool) : State :=
  let s1 := (s.setF RF.WFR_MUSm_CTL_STATE 0 m 4).modMuster m (fun e =>
    { e with wave := match e.wave with
        | some w => some w
        | none => some (wafer, rack, status) })
  match s1.musterFail m with
  | none => s1
  | some fl => ((s.musterSheaves m).filter p).foldl (fun (t : State) x => t.endSheaf x.serial fl) s1

/-- A fatal error of a muster that arises on this wafer (R626): the entry is ABORTED and a wave goes
to every other member; the sheaves not dispatched end MUSTER_ABORTED, the dispatched ones end with
their own status (R628). -/
def State.abortSend (s : State) (m status : Nat) : State :=
  if s.musterState m ≠ 1 ∧ s.musterState m ≠ 2 then s
  else
    let own := s.ownWafer
    let rack := s.getF RF.FAB_NUM_RACK 0 0
    let n := match s.muster m with | some e => e.sentWaves | none => 0
    let slot := abortSlot (s.getF RF.WFR_MUSm_CTL_HANDLE 0 m) own rack status
      (s.getF RF.FAB_NUM_EPOCH 0 0) n
    let s1 := (s.tellMembers m 0x10 [slot]).modMuster m (fun e => { e with sentWaves := n + 1 })
    (s1.abortEntry m own rack status (fun x => decide (x.phase = .waiting))).raise
      RF.WFR_RCV_EVENT_ABORT_SENT 0

/-! ### Completion -/

/-- The 64-byte receipt, R182. -/
def receipt (x : Sheaf) (phase : Bool) (time : Nat) : List Byte :=
  let fl := x.fail.getD ⟨0, 0, 0⟩
  leBytes 8 x.id ++ leBytes 1 fl.status ++ leBytes 1 fl.sub ++
    leBytes 1 (x.ring % 64 + b2n phase * 128) ++ leBytes 1 (x.parish % 32) ++
    leBytes 4 x.exitCode ++ leBytes 8 (x.energy / 100000) ++ leBytes 8 x.tDispatch ++ leBytes 8 time ++
    leBytes 8 fl.detail ++ leBytes 4 x.threadsFailed ++ leBytes 2 x.handle ++
    leBytes 1 (b2n x.replayed) ++ leBytes 9 0

/-- Has the sheaf accesses that are not globally performed (R181)? -/
def State.sheafUnperformed (s : State) (serial : Nat) : Bool :=
  (s.commons.reqs ++ s.commons.fills.flatMap (fun x => x.opener :: x.waiting)).any (fun r =>
    r.reply.isNone && decide (r.sink = .ended (some serial)))

/-- Write a receipt into the receipt queue (R176, R182). -/
def State.receiptWrite (s : State) (x : Sheaf) : State :=
  let p := x.parish
  let r := x.ring
  let t := s.getF RF.WFR_RINGr_RQ_PTR_RQ_TAIL p r
  let ph := s.flag RF.WFR_RINGr_RQ_PTR_PHASE p r
  let a := s.getF RF.WFR_RINGr_RQ_BASE_BASE p r * 4096 + t * 64
  let data := receipt x ph s.fabricTime
  let s1 :=
    if s.flag RF.WFR_RINGr_CTL_LOC p r then
      match s.bulkWrite (s.parishSource p) (a % 2 ^ 57) data with
      | (s1, some (_, st)) => s1.fetchFault p r st
      | (s1, none) => s1
    else if s.fnOn (p + 1) then s.send (.hostWrite (Fin.ofNat 33 (p + 1)) (s.pasid (p + 1)) a data)
    else s.fetchFault p r .addrInvalid
  let n := s.ringEntries p r
  let s2 := s1.setF RF.WFR_RINGr_RQ_PTR_RQ_TAIL p r ((t + 1) % n)
  if t + 1 = n then s2.setFlag RF.WFR_RINGr_RQ_PTR_PHASE p r (!ph) else s2

/-- Is the end of the sheaf a fatal error of its muster (R626)? -/
def Sheaf.fatal (x : Sheaf) : Bool :=
  match x.fail with
  | none => false
  | some fl => decide (x.handle ≠ 0) && decide (fl.status ≠ 0x01) && decide (fl.status ≠ 0x0D)

/-- The steps of a completion in their order (R181): receipt, completion tally, MSI-X. -/
def State.completeSheaf (s : State) (x : Sheaf) : State :=
  let s1 := s.receiptWrite x
  let s2 := if x.ctEn then
      (s1.tallyBump (s1.parishSource x.parish) x.ctAddr x.fail.isSome none).1 else s1
  let s3 := if s2.flag RF.WFR_RINGr_CTL_IRQ x.parish x.ring then
      s2.sendMsix (Fin.ofNat 33 (x.parish + 1)) (s2.getF RF.WFR_RINGr_CTL_VECTOR x.parish x.ring)
    else s2
  let s4 := { s3 with seq := { s3.seq with
    sheaves := s3.seq.sheaves.filter (fun y => y.serial != x.serial) } }
  match s.musterOf x.parish x.handle with
  | some m => if x.fatal then s4.abortSend m ((x.fail.map (·.status)).getD 0) else s4
  | none => s4

/-- May the sheaf's receipt be written now? -/
def State.canComplete (s : State) (x : Sheaf) : Bool :=
  s.seqActive && decide (x.phase = .ending) && !s.sheafUnperformed x.serial &&
    decide (0 < s.rqFree x.parish x.ring)

/-- SHEAF_COMPLETE, R181. -/
def execSheafComplete (serial : Nat) (s : State) : Out :=
  match s.sheaf? serial with
  | none => .next s
  | some x => if s.canComplete x then .next (s.completeSheaf x) else .next s

end Sys2Proof.Machine
end

