-- ==== Sys2Proof/Machine/Muster.lean ====
section
/-! DEFINITION. Musters (R186, R187, R482–R484): the member list, the digest, offers, formation,
refusal, release, and abort waves received (R628, R635). -/

namespace Sys2Proof.Machine

/-- A member list entry, R186. -/
def memberOf (l : List Byte) : MusterMember :=
  ⟨leField l 0 8, bitField l 64 7, bitField l 71 4, bitField l 75 5⟩

/-- The entries of a member list. -/
def membersOf : Nat → List Byte → List MusterMember
  | 0, _ => []
  | n + 1, l => memberOf (l.take 16) :: membersOf n (l.drop 16)

/-- Does a list repeat a number? -/
def hasDup : List Nat → Bool
  | [] => false
  | a :: r => r.contains a || hasDup r

/-- Is the list malformed (R186)? -/
def State.listMalformed (s : State) (tight : Bool) (l : List MusterMember) : Bool :=
  let unit := s.getF RF.FAB_UNIT_UNIT 0 0
  let rack := s.getF RF.FAB_NUM_RACK 0 0
  let mine := l.filter (fun k => decide (k.unit = unit))
  decide (mine.length ≠ 1) || hasDup (l.map (·.unit)) ||
    mine.any (fun k => decide (k.rack ≠ rack) || decide (k.wafer ≠ s.getF RF.FAB_NUM_NUM 0 0)) ||
    (tight && (l.any (fun k => decide (k.rack ≠ rack)) || decide (16 < l.length)))

/-- Does the wafer's time state allow timed functions (R480)?  The master is LOCKED by definition. -/
def State.timedOk (s : State) : Bool :=
  s.flag RF.FAB_TIME_CTL_IS_MASTER 0 0 || decide (s.getF RF.FAB_TIME_CTL_TSTATE 0 0 = 2) ||
    decide (s.getF RF.FAB_TIME_CTL_TSTATE 0 0 = 3)

/-- The geometries of the parish's enabled cairns, CRN_GEOM[20:0]. -/
def State.geometries (s : State) (p : Nat) : List Nat :=
  ((maskList (s.parishMask p) 80).filter (fun f => s.inService f && s.flag RF.CRN_CTL_ENABLE f 0)).map
    (fun f => bits (s.rd .CRN_GEOM f 0) 0 21)

/-- The digest input block, R482. (Mark: PRESUMED, log 63.) -/
def State.digestBlock (s : State) (m : Nat) (raw : List Byte) : List Byte :=
  let p := s.getF RF.WFR_MUSm_CTL_PARISH 0 m
  leBytes 1 (s.getF RF.FAB_NUM_VERSION 0 0) ++ leBytes 3 0 ++
    leBytes 4 (bits (s.rd .FAB_NUMCFG 0 0) 0 32) ++ leBytes 4 ((s.geometries p).headD 0) ++
    leBytes 4 (s.getF RF.RVE_PARp_BIND_KEY_EPOCH 0 p) ++
    leBytes 2 (s.getF RF.WFR_MUSm_CTL_HANDLE 0 m) ++ leBytes 1 (s.getF RF.WFR_MUSm_CTL_KIND 0 m) ++
    leBytes 1 0 ++ leBytes 4 (s.memberCount m) ++ sha256 raw ++ leBytes 8 0

/-- The muster digest, R482: 0 in the cases listed there, and never 0 otherwise.  Whether another
wafer, the rack's master, has PPS_LOCK is a free value. -/
def State.musterDigest (s : State) (m : Nat) (raw : List Byte) (malformed : Bool) : Nat :=
  let tight := decide (s.getF RF.WFR_MUSm_CTL_KIND 0 m = 0)
  let pps := if s.flag RF.FAB_TIME_CTL_IS_MASTER 0 0 then s.flag RF.FAB_TIME_CTL_PPS_LOCK 0 0
    else Config.freeBool s.serial 0
  let g := s.geometries (s.getF RF.WFR_MUSm_CTL_PARISH 0 m)
  let differ := g.any (fun x => decide (x ≠ g.headD 0))
  if malformed || !s.timedOk || (!tight && !pps) || differ ||
      (tight && decide (s.getF RF.FAB_STATE_STATE 0 0 ≠ 3)) then 0
  else
    let d := leField (sha256 (s.digestBlock m raw)) 0 8
    if d = 0 then 1 else d

/-- A MUSTER_OFFER, data slot 0 (R478 table, FTYPE 0x03). -/
def State.offerSlot (s : State) (m : Nat) (e : Muster) : Nat :=
  0x03 + s.getF RF.WFR_MUSm_CTL_HANDLE 0 m * 2 ^ 16 + e.self % 2 ^ 11 * 2 ^ 32 +
    s.getF RF.FAB_NUM_EPOCH 0 0 * 2 ^ 48 + e.digest * 2 ^ 64

/-- Send the wafer's offer to every other member (R483). -/
def State.sendOffers (s : State) (m : Nat) : State :=
  match s.muster m with
  | none => s
  | some e => s.tellMembers m 0x14 [s.offerSlot m e]

/-- Refuse an entry (R187, R483): its sheaves that wait end with MUSTER_REFUSED. -/
def State.musterRefuse (s : State) (m : Nat) (disagree : List Nat) : State :=
  let s1 := (s.setF RF.WFR_MUSm_CTL_STATE 0 m 3).modMuster m (fun e => { e with disagree := disagree })
  match s1.musterFail m with
  | none => s1
  | some fl => (s.musterSheaves m).foldl (fun (t : State) x => t.endSheaf x.serial fl) s1

/-- Members whose offer differs or is missing, and the wafer itself when its digest is 0 (R483). -/
def Muster.disagreeing (e : Muster) : List Nat :=
  (List.range e.members.length).filter (fun i =>
    if i = e.self then decide (e.digest = 0)
    else match e.offers.find? (fun o => o.1 == i) with
      | some o => decide (o.2 ≠ e.digest) || decide (e.digest = 0)
      | none => true)

/-- FORMED once an offer of every other member has arrived and equals the own nonzero digest; REFUSED
at once when one differs (R483). (Mark: DEDUCED, log 61.) -/
def State.musterTry (s : State) (m : Nat) : State :=
  match s.muster m with
  | none => s
  | some e =>
    if s.musterState m ≠ 1 then s
    else if e.offers.any (fun o => decide (o.2 ≠ e.digest) || decide (e.digest = 0)) then
      s.musterRefuse m e.disagreeing
    else if decide (e.digest ≠ 0) && decide (e.offers.length + 1 = e.members.length) then
      s.setF RF.WFR_MUSm_CTL_STATE 0 m 2
    else s

/-- A write of WFR_MUSm_CTL with GO (R186, R198): ignored while the entry is not FREE, with handle 0 or
with the handle of another entry in use. (Mark: DEDUCED, log 61.) -/
def State.musterGo (s : State) (m : Nat) (v : Word) : State :=
  let h := bits v 0 16
  let taken := (List.range 64).any (fun k => decide (k ≠ m) && decide (s.musterState k ≠ 0) &&
    decide (s.getF RF.WFR_MUSm_CTL_HANDLE 0 k = h))
  if s.musterState m ≠ 0 ∨ h = 0 ∨ taken ∨ !bit v 22 then s
  else
    let w := putBits (putBits (putBits (putBits 0#64 0 23 (bits v 0 23)) 23 3 1) 26 12 (bits v 26 12))
      48 16 (s.getF RF.FAB_NUM_EPOCH 0 0)
    let s1 := s.wr .WFR_MUSm_CTL 0 m w
    let p := bits v 17 5
    let n := bits v 26 12 + 1
    let (s2, b) := s1.bulkRead (s1.parishSource p) (s1.getF RF.WFR_MUSm_LIST_LIST 0 m * 16) (16 * n)
    let members := membersOf n b.data
    let bad := b.fail.isSome || s2.listMalformed (!bit v 16) members
    let self := (members.zipIdx.find? (fun x => decide (x.1.unit = s2.getF RF.FAB_UNIT_UNIT 0 0))).map (·.2)
    let e : Muster := { members := members, self := self.getD 0, digest := s2.musterDigest m b.data bad,
                        offers := [], disagree := [], goTime := s2.now, waves := [], wave := none,
                        sentWaves := 0 }
    let s3 := { s2 with
      serial := s2.serial + 1
      seq := { s2.seq with musters := s2.seq.musters.filter (fun x => x.1 != m) ++ [(m, e)] } }
    if bad then s3.musterRefuse m (List.range n)
    else if s3.stopped 4 then s3 else (s3.sendOffers m).musterTry m

/-- MUSTER_GO, R186. -/
def execMusterGo (m : MusterId) (v : Word) (s : State) : Out := .next (s.musterGo m.val v)

/-- Clearing GO (R187): an entry that was FORMED sends an abort wave first (R626); the origin status of
that wave is a free value. -/
def State.musterFree (s : State) (m : Nat) : State :=
  if s.musterState m = 0 then s
  else
    let s1 := if s.musterState m = 2 then
        { s.abortSend m (Config.freeNat s.serial 0 % 256) with serial := s.serial + 1 } else s
    let s2 := { s1 with seq := { s1.seq with musters := s1.seq.musters.filter (fun x => x.1 != m) } }
    (s2.setF RF.WFR_MUSm_CTL_STATE 0 m 0).setFlag RF.WFR_MUSm_CTL_GO 0 m false

/-- MUSTER_FREE, R187. -/
def execMusterFree (m : MusterId) (s : State) : Out := .next (s.musterFree m.val)

/-- Is epoch `e` older than `f` in serial-number order (R475)? (Mark: DEDUCED, log 118.) -/
def epochOlder (e f : Nat) : Bool :=
  let d := (f + 65536 - e % 65536) % 65536
  decide (1 ≤ d ∧ d ≤ 32767)

/-- MUSTER_OFFER_RECEIVE, R483: an offer of the member with this index.  An offer with an older epoch
than the sender's recorded one is discarded (R476), as is one that does not come from the member the
list names. -/
def execMusterOfferReceive (rack : BitVec 7) (wafer : WaferId) (epoch : BitVec 16) (handle : BitVec 16)
    (index : BitVec 11) (digest : Word) (s : State) : Out :=
  match (List.range 64).find? (fun m => decide (s.musterState m = 1) &&
      decide (s.getF RF.WFR_MUSm_CTL_HANDLE 0 m = handle.toNat)) with
  | none => .next s
  | some m =>
    match s.muster m with
    | none => .next s
    | some e =>
      match e.members[index.toNat]? with
      | none => .next s
      | some k =>
        let old := decide (rack.toNat = s.getF RF.FAB_NUM_RACK 0 0) &&
          s.flag RF.FAB_EPOCHn_VALID 0 wafer.val &&
          epochOlder epoch.toNat (s.getF RF.FAB_EPOCHn_EPOCH 0 wafer.val)
        if old || decide (k.wafer ≠ wafer.val) || decide (k.rack ≠ rack.toNat) ||
            decide (index.toNat = e.self) then .next s
        else
          .next ((s.modMuster m (fun x => { x with
            offers := x.offers.filter (fun o => o.1 != index.toNat) ++
              [(index.toNat, digest.toNat)] })).musterTry m)

/-- MUSTER_OFFER_REPEAT, R483: the offer is sent again while the entry is FORMING; a frozen wafer sends
none (R490). -/
def execMusterOfferRepeat (m : MusterId) (s : State) : Out :=
  if s.musterState m.val = 1 ∧ ¬ s.stopped 4 then .next (s.sendOffers m.val) else .next s

/-- MUSTER_FORM_TIMEOUT, R483: 100 ms after GO offers are still missing. -/
def execMusterFormTimeout (m : MusterId) (s : State) : Out :=
  match s.muster m.val with
  | none => .next s
  | some e =>
    if s.musterState m.val = 1 then .next (s.musterRefuse m.val e.disagreeing) else .next s

/-- ABORT_RECEIVE, R628, R635: a wave already among the 8 remembered ones is discarded; otherwise it is
forwarded once to every member, the first wave moves the entry to ABORTED, and its sheaves end
MUSTER_ABORTED. (Mark: DEDUCED, log 62.) -/
def execAbortReceive (handle : BitVec 16) (wafer : WaferId) (rack : BitVec 7) (status : BitVec 8)
    (epoch : BitVec 16) (wave : BitVec 32) (s : State) : Out :=
  match (List.range 64).find? (fun m => decide (s.musterState m ≠ 0) &&
      decide (s.getF RF.WFR_MUSm_CTL_HANDLE 0 m = handle.toNat)) with
  | none => .next s
  | some m =>
    match s.muster m with
    | none => .next s
    | some e =>
      let key := (wafer.val + 16 * rack.toNat, wave.toNat)
      if e.waves.contains key then .next s
      else
        let l := e.waves ++ [key]
        let slot := abortSlot handle.toNat wafer.val rack.toNat status.toNat epoch.toNat wave.toNat
        let s1 := (s.tellMembers m 0x10 [slot]).modMuster m (fun x =>
          { x with waves := l.drop (l.length - 8) })
        let s2 := s1.raise RF.WFR_RCV_EVENT_ABORT_RECEIVED 0
        if s.musterState m = 1 ∨ s.musterState m = 2 then
          let s3 := s2.abortEntry m wafer.val rack.toNat status.toNat (fun _ => true)
          let ab := handle.toNat + wafer.val * 2 ^ 16 + rack.toNat * 2 ^ 20 + status.toNat * 2 ^ 27 +
            2 ^ 35
          .next (s3.wr .WFR_RCV_ABORT 0 0 (BitVec.ofNat 64 ab))
        else .next s2

end Sys2Proof.Machine
end

