-- ==== Sys2Proof/Machine/Fabric.lean ====
section
/-! DEFINITION. The rack fabric (R458–R494): what a DATA flit delivers, discovery, membership and
withdrawal, reach and spread entries, fabric time. -/

namespace Sys2Proof.Machine

/-! ### Membership and withdrawal -/

def State.joined (s : State) (n : Nat) : Bool := (s.getF RF.FAB_MEMBERS_JOINED 0 0).testBit n

def State.fabState (s : State) : Nat := s.getF RF.FAB_STATE_STATE 0 0

def fsWait : Nat := 0
def fsSolo : Nat := 1
def fsAssigned : Nat := 2
def fsJoined : Nat := 3

/-- Time states, R480. -/
def tsFree : Nat := 0
def tsAcquiring : Nat := 1
def tsLocked : Nat := 2
def tsHoldover : Nat := 3
def tsExcluded : Nat := 4

def State.timeState (s : State) : Nat := s.getF RF.FAB_TIME_CTL_TSTATE 0 0

def State.setTimeState (s : State) (v : Nat) : State :=
  if s.timeState = v then s
  else (s.setF RF.FAB_TIME_CTL_TSTATE 0 0 v).raise RF.FAB_EVENT_TIME_STATE 0

/-- The time master is `n` (R479): the master is LOCKED; an EXCLUDED wafer does not become master
(R480); one that was in HOLDOVER goes on from its own time (R489). -/
def State.setMaster (s : State) (n : Nat) : State :=
  let mine := decide (n = s.ownWafer) && decide (s.timeState ≠ tsExcluded)
  let s1 := s.setF RF.FAB_TIME_CTL_MASTER 0 0 n |>.setFlag RF.FAB_TIME_CTL_IS_MASTER 0 0 mine
  if mine then s1.setTimeState tsLocked else s1

/-- Complete every outstanding request to wafer `n` with WAFER_ABSENT (R94, R160). -/
def State.absentReqs (s : State) (n : Nat) : State :=
  let s1 := s.failReqs none .waferAbsent (fun r => decide (nbits r.addr 52 4 = n))
  let l := s1.tallies.reqs.filter (fun r => decide (r.wafer = n))
  let s2 := { s1 with tallies := { s1.tallies with
    reqs := s1.tallies.reqs.filter (fun r => !decide (r.wafer = n)) } }
  let s3 := l.foldl (fun (t : State) r => t.tallyFail r.owner .waferAbsent r.addr) s2
  (s3.crofters.issues.filter (fun r =>
    r.status.isNone && decide ((descTarget s3 r.field r.desc).1 = n))).foldl
    (fun (t : State) r => t.modIssue r.id (fun q =>
      { q with status := some (issueAccess .waferAbsent) })) s3

/-- A fatal error of a muster whose origin is another wafer (R477, R626): the entry is ABORTED, a wave
goes out with that origin, and every sheaf of it ends MUSTER_ABORTED. -/
def State.abortFrom (s : State) (m wafer rack status epoch : Nat) : State :=
  let n := match s.muster m with
    | some e => e.sentWaves
    | none => 0
  let slot := abortSlot (s.getF RF.WFR_MUSm_CTL_HANDLE 0 m) wafer rack status epoch n
  let s1 := (s.tellMembers m 0x10 [slot]).modMuster m (fun e => { e with sentWaves := n + 1 })
  (s1.abortEntry m wafer rack status (fun _ => true)).raise RF.WFR_RCV_EVENT_ABORT_SENT 0

/-- What a withdrawal does to one muster entry that names the wafer (R477, R483). -/
def State.musterWithdraw (s : State) (n m : Nat) : State :=
  match s.muster m with
  | none => s
  | some e =>
    let rack := s.getF RF.FAB_NUM_RACK 0 0
    if e.members.any (fun k => decide (k.wafer = n) && decide (k.rack = rack)) then
      if s.musterState m = 1 then s.musterRefuse m e.disagreeing
      else if s.musterState m = 2 ∧ s.getF RF.WFR_MUSm_CTL_KIND 0 m = 0 then
        s.abortFrom m n rack 0xF0 (s.getF RF.FAB_EPOCHn_EPOCH 0 n)
      else s
    else s

/-- Withdraw member `n` (R477): its requests complete, its pools are lost, its tight musters abort, and
time goes to the lowest remaining member when it was the master (R479). -/
def State.withdraw (s : State) (n : Nat) : State :=
  if !s.joined n || decide (n = s.ownWafer) then s
  else
    let mem := s.getF RF.FAB_MEMBERS_JOINED 0 0 &&& (65535 - 2 ^ n)
    let s1 := s.setF RF.FAB_MEMBERS_JOINED 0 0 mem
      |>.setF RF.FAB_MEMBERS_WITHDRAWN 0 0 (s.getF RF.FAB_MEMBERS_WITHDRAWN 0 0 ||| 2 ^ n)
    let s2 := (s1.raise RF.FAB_EVENT_MEMBER_CHANGE 0).absentReqs n
    let s3 := s2.startScan true n
    let s4 := { s3 with cairns := { s3.cairns with
      remote := s3.cairns.remote.filter (fun e => !decide (e.1 % 16 = n)) } }
    let s5 := (List.range 64).foldl (fun (t : State) m => t.musterWithdraw n m) s4
    if s5.getF RF.FAB_TIME_CTL_MASTER 0 0 = n then
      match maskList mem 16 with
      | [] => s5
      | l :: _ => s5.setMaster l
    else s5

/-- A FABRIC WITHDRAW, data slot 0. -/
def withdrawSlot (n epoch cause : Nat) : Nat := 2 + n * 2 ^ 8 + epoch * 2 ^ 16 + cause * 2 ^ 32

/-- WITHDRAW_RECEIVE, R477, R478: it names `n` with its recorded epoch or a newer one.  The epoch it
names is recorded, so that only a JOIN with a newer one readmits the wafer. -/
def execWithdrawReceive (n : WaferId) (epoch : BitVec 16) (cause : BitVec 8) (s : State) : Out :=
  let rec_ := s.getF RF.FAB_EPOCHn_EPOCH 0 n.val
  if cause ≠ 0#8 ∧ n.val ≠ s.ownWafer ∧ s.flag RF.FAB_EPOCHn_VALID 0 n.val ∧
      ¬ epochOlder epoch.toNat rec_ then
    .next ((s.withdraw n.val).setF RF.FAB_EPOCHn_EPOCH 0 n.val epoch.toNat)
  else .next s

/-- AUTO_WITHDRAW_EXPIRE, R477: no port has been live for the member for WITHDRAW_US. -/
def execAutoWithdrawExpire (n : WaferId) (s : State) : Out :=
  let since := s.fabric.lost.look 0 n.val
  if s.flag RF.FAB_CTL_AUTO_WITHDRAW 0 0 ∧ s.joined n.val ∧ n.val ≠ s.ownWafer ∧ since ≠ 0 ∧
      since - 1 + s.getF RF.FAB_CTL_WITHDRAW_US 0 0 * 10000 ≤ s.now then
    let s1 := s.withdraw n.val
    let slot := withdrawSlot n.val (s.getF RF.FAB_EPOCHn_EPOCH 0 n.val) 1
    .next (((maskList (s1.getF RF.FAB_MEMBERS_JOINED 0 0) 16).filter (· != s.ownWafer)).foldl
      (fun (t : State) w => t.send (.fabric w 0x14 [slot])) s1)
  else .next s

/-! ### What a flit delivers -/

/-- Messages that do not depend on membership: TIME, DISC, FABRIC. -/
def fabricOps : List Nat := [0x11, 0x12, 0x14]

/-- Fields of a DATA flit. -/
structure FlitHead where
  seq : Nat
  ack : Nat
  ackValid : Bool
  nak : Bool
  kind : Nat
  cls : Nat
  dstWafer : Nat
  srcWafer : Nat
  dstRack : Nat
  srcRack : Nat
  epoch : Nat
  deriving DecidableEq, Repr

/-- The header of a flit, R429. -/
def flitHead (b : List Byte) : FlitHead :=
  ⟨bitField b 0 16, bitField b 16 16, bitField b 32 1 == 1, bitField b 33 1 == 1, bitField b 34 2,
   bitField b 36 2, bitField b 38 4, bitField b 42 4, bitField b 46 7, bitField b 53 7,
   bitField b 64 16⟩

/-- (Mark: PRESUMED, log 107.) -/
def flitCrcOk (b : List Byte) : Bool :=
  decide (leField b 12 4 = crc32 (b.take 12 ++ b.drop 16))

/-- The far route of a loose message (R486): to a far port, or through this rack to the wafer that has
one; a message without a route is counted. (Mark: DEDUCED, log 125.) -/
def State.routeLoose (s : State) (h : FlitHead) (m : List Byte) : State :=
  let out := fun (t : State) => t.send (.loose h.dstRack h.dstWafer (msgOp m) (m.map (·.toNat)))
  if s.flag RF.FAB_NUM_RACK_ASSIGNED 0 0 && decide (h.dstRack = s.getF RF.FAB_NUM_RACK 0 0) then
    s.send (.fabric h.dstWafer (msgOp m) (m.map (·.toNat)))
  else
    let e := s.getF RF.FAB_FARr_PORT 0 h.dstRack
    if 48 ≤ e ∧ e ≤ 51 then
      if (s.liveLinks e).isEmpty || !s.portOn e then s else out s
    else if 0x80 ≤ e ∧ e < 0x90 then out s
    else s.addSat RF.FAB_NO_FAR_COUNT 0 0 1

/-- Does the message end at this wafer? -/
def State.forMe (s : State) (h : FlitHead) : Bool :=
  (!s.flag RF.FAB_NUM_RACK_ASSIGNED 0 0 || decide (h.dstRack = s.getF RF.FAB_NUM_RACK 0 0)) &&
    (!s.flag RF.FAB_NUM_ASSIGNED 0 0 || decide (h.dstWafer = s.getF RF.FAB_NUM_NUM 0 0))

/-- One message of a flit: refused on a class-O link unless loose (R426), forwarded when it is another
wafer's (R486), and delivered otherwise. -/
def State.takeMsg (s : State) (k : Nat) (h : FlitHead) (m : List Byte) : State :=
  if s.linkClass k = 3 ∧ msgOp m ∉ looseOps then s.addSat RF.VRN_LNK_PROTO_COUNT k 0 1
  else if !s.forMe h then
    if msgOp m ∈ looseOps then s.routeLoose h m else s
  else { s with verne := { s.verne with
    inbox := s.verne.inbox ++ [⟨k, h.cls, h.srcWafer, h.srcRack, m⟩] } }

/-- The membership check of R453, R467 and R476: the messages of a flit of wafer `n` of the own rack that
go on, and the state after a member with a newer epoch has been withdrawn. (Mark: DEDUCED, log 125.) -/
def State.memberFilter (s : State) (h : FlitHead) (l : List (List Byte)) : State × List (List Byte) :=
  let n := h.srcWafer
  if h.srcRack ≠ s.getF RF.FAB_NUM_RACK 0 0 ∨ n = s.ownWafer ∨ s.fabState ≠ fsJoined then
    (s, if s.fabState ≠ fsJoined ∧ h.srcRack = s.getF RF.FAB_NUM_RACK 0 0 then
        l.filter (fun m => decide (msgOp m ∈ fabricOps)) else l)
  else
    let rec_ := s.getF RF.FAB_EPOCHn_EPOCH 0 n
    if s.joined n && epochOlder h.epoch rec_ then (s.addSat RF.FAB_STALE_EPOCH_COUNT 0 0 1, [])
    else
      let s1 := if s.joined n && epochOlder rec_ h.epoch then s.withdraw n else s
      (s1, if s1.joined n then l else l.filter (fun m => decide (msgOp m ∈ fabricOps)))

/-- Free one receive buffer of the class; the next ACK flit returns the credit (R430).
(Mark: DEDUCED, log 108.) -/
def State.freeBuffer (s : State) (k cls : Nat) : State :=
  s.modLink k (fun x => { x with freed := x.freed.put 0 cls ((x.freed.look 0 cls + 1) % 4096) })

/-- A flit in sequence: its messages are delivered; a bad message ends it (R432).  A frozen wafer keeps
what is not MGMT in the receive buffer (R452). (Mark: DEDUCED, log 108.) -/
def State.deliverFlit (s : State) (k : Nat) (h : FlitHead) (body : List Byte) : State :=
  let (msgs, bad) := parseBody 15 body
  let s1 := if bad then s.addSat RF.VRN_LNK_PROTO_COUNT k 0 1 else s
  let (s2, l) := s1.memberFilter h msgs
  if s2.frozen && decide (h.cls ≠ 3) then
    s2.modLink k (fun x => { x with
      rx := x.rx ++ [⟨k, h.cls, h.srcWafer, h.srcRack,
        BitVec.ofNat 8 h.dstWafer :: BitVec.ofNat 8 h.dstRack :: l.flatMap id⟩] })
  else (l.foldl (fun (t : State) m => t.takeMsg k h m) s2).freeBuffer k h.cls

/-- DATA_FLIT_RECEIVE, R434: CRC, acknowledgement and credits, then the sequence rules.
(Mark: DESIGN CHOICE, log 101.) -/
def execDataFlitReceive (k : LinkId) (raw : List Byte) (s : State) : Out :=
  let n := k.val
  if raw.length ≠ 256 then .fault (.malformedOperand "DATA_FLIT_RECEIVE")
  else if !carries (s.linkState n) then .next s
  else if !flitCrcOk raw then
    .next ((s.addSat RF.VRN_LNK_CRC_FAILED n 0 1).sendNak n)
  else
    let h := flitHead raw
    if h.kind ≠ 0 then
      .next (if h.kind = 3 then s.addSat RF.VRN_LNK_PROTO_COUNT n 0 1 else s)
    else
      let s1 := if h.ackValid then s.applyAck n h.ack h.nak else s
      if !carries (s1.linkState n) then .next s1
      else
        let x := s1.link n
        let back := (x.expected + 65536 - h.seq) % 65536
        if h.seq = x.expected then
          let s2 := s1.modLink n (fun y => { y with
            expected := (y.expected + 1) % 65536
            naked := false
            unacked := y.unacked + 1
            ackFrom := if y.unacked = 0 then s.now else y.ackFrom })
          .next (s2.deliverFlit n h (raw.drop 16))
        else if 1 ≤ back ∧ back ≤ 1024 then
          .next ((s1.addSat RF.VRN_LNK_DUP_COUNT n 0 1).sendAck n false)
        else .next (s1.sendNak n)

/-! ### Reach and spread entries -/

/-- REACH_RECEIVE, R471. -/
def execReachReceive (k : LinkId) (vector : BitVec 16) (s : State) : Out :=
  match s.portOfLink k.val with
  | none => .next s
  | some p => .next ((s.setF RF.FAB_REACHp_REACH 0 p vector.toNat).rebuildFabric)

/-- SPREAD_ENTRY_MOVE, R473: once every request of the entry sent on its present port has completed, the
entry moves and the requests held for it go on in order. -/
def execSpreadEntryMove (d : WaferId) (e : Fin 64) (s : State) : Out :=
  if s.entryMoving d.val e.val ∧ s.entryReqs d.val e.val = [] ∧
      (s.entryTallies d.val e.val).all (·.parked) then
    .next ((s.setEntry d.val e.val (s.entryTarget d.val e.val)).releaseHeld noDevice (fun r =>
      decide (nbits r.addr 52 4 = d.val) && decide (d.val ≠ s.ownWafer) &&
        decide (entryOf r.addr = e.val)))
  else .next s

/-! ### Discovery -/

/-- What every DISC message carries beside its payload (R468): the sender, the tag, the session and the
unit it addresses. -/
structure DiscHead where
  src : Nat
  tag : Nat
  session : Nat
  target : Nat

/-- Does a DISC request act: the wafer is not frozen (R490) and is the one addressed? -/
def State.discMine (s : State) (target : Word) : Bool :=
  !s.frozen && (decide (target = 0#64) || decide (target = s.rd .FAB_UNIT 0 0))

/-- The key of a request among the answers given. -/
def discKey (dtype tag session : Nat) : Nat := tag + session * 2 ^ 16 + dtype * 2 ^ 48

/-- Data slot 0 of a DISC message. -/
def discSlot (dtype part parts session target : Nat) : Nat :=
  dtype + part * 2 ^ 8 + (parts - 1) * 2 ^ 16 + session * 2 ^ 32 + target * 2 ^ 64

/-- Send the parts of an answer and remember them. (Mark: DEDUCED, log 116.) -/
def State.discAnswer (s : State) (src key tag : Nat) (parts : List (List Nat)) : State :=
  let s1 := parts.foldl (fun (t : State) l => t.send (.fabric src 0x12 (tag :: l))) s
  { s1 with fabric := { s1.fabric with answers := s1.fabric.answers ++ [(key, parts)] } }

/-- Handle a DISC request: a repeated one gets the answer it got before (R468). (Mark: DEDUCED, log 116.) -/
def State.discRequest (s : State) (src dtype tag session : Nat) (target : Word)
    (act : State → State × List (List Nat)) : State :=
  if !s.discMine target then s
  else
    let key := discKey dtype tag session
    match s.fabric.answers.find? (fun a => a.1 == key) with
    | some a => a.2.foldl (fun (t : State) l => t.send (.fabric src 0x12 (tag :: l))) s
    | none =>
      let (s1, parts) := act s
      s1.discAnswer src key tag parts

/-- An ACK (DTYPE 0x06). -/
def State.ackSlots (s : State) (session dtype result : Nat) : List (List Nat) :=
  [[discSlot 6 0 1 session (s.rd .FAB_FM 0 0).toNat, dtype + result * 2 ^ 8]]

def rackOk : Nat := 0
def rackOutOfService : Nat := 1
def rackState : Nat := 2
def rackMalformed : Nat := 3

/-- The state of a port in a REPORT. -/
def State.portReport (s : State) (p : Nat) : Nat :=
  let l := maskList (s.portMask p) 56
  if l.any (fun k => decide (s.linkState k = lsUp)) then 0
  else if l.any (fun k => decide (s.linkState k = lsHeld)) then 1
  else if l.any (fun k => decide (s.linkState k = lsQuarantine)) then 2
  else 3

/-- The port record of a REPORT. -/
def State.portRecord (s : State) (p : Nat) : Nat :=
  let l := (maskList (s.portMask p) 56).filter (fun k => s.flag RF.VRN_LNK_NBR_PORT_VALID k 0)
  let k := l.headD 0
  let known := fun (v : Nat) => if l.isEmpty then 0 else v
  known (s.getF RF.VRN_LNK_NBR_UNIT k 0) + p * 2 ^ 64 +
    known (s.getF RF.VRN_LNK_NBR_PORT_PORT k 0) * 2 ^ 72 + (s.liveLinks p).length * 2 ^ 80 +
    s.portReport p * 2 ^ 85 + known (s.getF RF.VRN_LNK_NBR_PORT_VERSION k 0) * 2 ^ 88

/-- Fields in service. -/
def State.fieldsInService (s : State) : Nat := ((List.range 80).filter s.inService).length

/-- Data slot 1 of a REPORT. -/
def State.reportSlot (s : State) : Nat :=
  s.getF RF.FAB_UNIT_UNIT 0 0 + s.getF RF.FAB_NUM_RACK 0 0 * 2 ^ 64 +
    s.getF RF.FAB_NUM_NUM 0 0 * 2 ^ 71 + s.getF RF.FAB_NUM_ASSIGNED 0 0 * 2 ^ 75 +
    s.getF RF.FAB_NUM_EPOCH 0 0 * 2 ^ 80 + s.getF RF.FAB_NUM_VERSION 0 0 * 2 ^ 96 +
    s.fieldsInService * 2 ^ 104 + s.getF RF.RVE_LIFECYCLE_OUT_OF_SERVICE 0 0 * 2 ^ 111 +
    s.getF RF.RVE_LIFECYCLE_STATE 0 0 * 2 ^ 112 + s.timeState * 2 ^ 116

/-- The REPORT: a part for every twelve enabled ports. -/
def State.report (s : State) (session : Nat) : List (List Nat) :=
  let ps := (List.range 52).filter s.portOn
  let n := max 1 (ceilDiv ps.length 12)
  (List.range n).map (fun i =>
    [discSlot 2 i n session (s.rd .FAB_FM 0 0).toNat, s.reportSlot] ++
      ((ps.drop (12 * i)).take 12).map s.portRecord)

/-- HELLO_RECEIVE, R469: SOLO returns to WAIT; the answer is REPORT.  Another session changes nothing of
a JOINED wafer (R488). -/
def execHelloReceive (src : WaferId) (tag : BitVec 16) (session : BitVec 32) (target anchor : Word)
    (s : State) : Out :=
  .next (s.discRequest src.val 1 tag.toNat session.toNat target (fun t =>
    let t1 := t.wr .FAB_FM 0 0 anchor |>.wr .FAB_FM 0 1 (BitVec.ofNat 64 session.toNat)
      |>.raise RF.FAB_EVENT_FM_HELLO 0
    let t2 := if t1.fabState = fsSolo then t1.setF RF.FAB_STATE_STATE 0 0 fsWait else t1
    (t2, t2.report session.toNat)))

/-- Write one map record (R468). (Mark: DEDUCED, log 121.) -/
def State.mapRecord (s : State) (rec_ : Nat) : State :=
  let p := nbits rec_ 64 6
  if 52 ≤ p then s
  else
    let s1 := s.wr .FAB_MAPp 0 (2 * p) (BitVec.ofNat 64 rec_)
      |>.wr .FAB_MAPp 0 (2 * p + 1) (BitVec.ofNat 64 (nbits rec_ 72 8 + nbits rec_ 80 1 * 256))
    s1.recheckPort p

/-- MAP_RECEIVE, R469: the records of one part; the last part sets the generation in force.
(Mark: DEDUCED, log 121.) -/
def execMapReceive (src : WaferId) (tag : BitVec 16) (session : BitVec 32) (target : Word)
    (part parts : BitVec 8) (gen : BitVec 32) (records : List Nat) (s : State) : Out :=
  .next (s.discRequest src.val 3 tag.toNat session.toNat target (fun t =>
    if 12 < records.length ∨ parts.toNat < part.toNat then
      (t, t.ackSlots session.toNat 3 rackMalformed)
    else
      let t1 := records.foldl (fun (u : State) r => u.mapRecord r) t
      let t2 := if part = parts then t1.setF RF.FAB_MAP_GEN_GEN 0 0 gen.toNat else t1
      (t2, t2.ackSlots session.toNat 3 rackOk)))

/-- ASSIGN_RECEIVE, R469, R470, R624: rack, number and policy are persisted. -/
def execAssignReceive (src : WaferId) (tag : BitVec 16) (session : BitVec 32) (target : Word)
    (rack : BitVec 7) (number : WaferId) (policy : BitVec 2) (s : State) : Out :=
  .next (s.discRequest src.val 4 tag.toNat session.toNat target (fun t =>
    let ack := fun (u : State) r => (u, u.ackSlots session.toNat 4 r)
    if t.flag RF.RVE_LIFECYCLE_OUT_OF_SERVICE 0 0 then ack t rackOutOfService
    else if t.fabState = fsJoined then ack t rackState
    else if 2 ≤ policy.toNat then ack t rackMalformed
    else
      ack (t.setF RF.FAB_NUM_NUM 0 0 number.val |>.setFlag RF.FAB_NUM_ASSIGNED 0 0 true
        |>.setF RF.FAB_NUM_RACK 0 0 rack.toNat |>.setFlag RF.FAB_NUM_RACK_ASSIGNED 0 0 true
        |>.setF RF.FAB_CTL_POLICY 0 0 policy.toNat
        |>.setF RF.FAB_STATE_STATE 0 0 fsAssigned) rackOk))

/-- May a JOIN admit wafer `n` with epoch `e`?  A wafer withdrawn at that epoch or a newer one stays
withdrawn (R477, R478). (Mark: DEDUCED, log 118.) -/
def State.admissible (s : State) (n e : Nat) : Bool :=
  s.joined n || !s.flag RF.FAB_EPOCHn_VALID 0 n || epochOlder (s.getF RF.FAB_EPOCHn_EPOCH 0 n) e

/-- Record one member of a JOIN. (Mark: DEDUCED, log 117.) -/
def State.joinMember (s : State) (mask : Nat) (epochs : List Nat) (n : Nat) : State :=
  let e := epochs.getD n 0 % 65536
  if !mask.testBit n then s.withdraw n
  else if n = s.ownWafer ∨ s.admissible n e then
    s.setF RF.FAB_MEMBERS_JOINED 0 0 (s.getF RF.FAB_MEMBERS_JOINED 0 0 ||| 2 ^ n)
      |>.setF RF.FAB_EPOCHn_EPOCH 0 n e |>.setFlag RF.FAB_EPOCHn_VALID 0 n true
  else s

/-- An accepted JOIN: members, epochs, time (R469, R479, R480); the spread entries are rebuilt.
(Mark: DEDUCED, log 117.) -/
def State.join (s : State) (mask master : Nat) (epochs : List Nat) : State :=
  let s1 := (List.range 16).foldl (fun (t : State) n => t.joinMember mask epochs n) s
  let s2 := s1.setF RF.FAB_MEMBERS_WITHDRAWN 0 0 0 |>.setF RF.FAB_STATE_STATE 0 0 fsJoined
    |>.raise RF.FAB_EVENT_MEMBER_CHANGE 0
  let s3 := { s2 with fabric := { s2.fabric with good := 0 } }
  ((s3.setTimeState tsAcquiring).setMaster master).rebuildFabric

/-- JOIN_RECEIVE, R469, R492: one that does not name this wafer with its current epoch, or comes before an
ASSIGN, is answered STATE; `epochs` are those of members 0 to 15. -/
def execJoinReceive (src : WaferId) (tag : BitVec 16) (session : BitVec 32) (target : Word)
    (mask : BitVec 16) (master : WaferId) (epochs : List Nat) (s : State) : Out :=
  .next (s.discRequest src.val 5 tag.toNat session.toNat target (fun t =>
    let own := t.ownWafer
    let ack := fun (u : State) r => (u, u.ackSlots session.toNat 5 r)
    if epochs.length ≠ 16 ∨ ¬ mask.toNat.testBit master.val then ack t rackMalformed
    else if t.flag RF.RVE_LIFECYCLE_OUT_OF_SERVICE 0 0 then ack t rackOutOfService
    else if (t.fabState ≠ fsAssigned ∧ t.fabState ≠ fsJoined) ∨ ¬ mask.toNat.testBit own ∨
        epochs.getD own 0 ≠ t.getF RF.FAB_NUM_EPOCH 0 0 then ack t rackState
    else ack (t.join mask.toNat master.val epochs) rackOk))

/-- FM_WAIT_EXPIRE, R467: no HELLO within FM_WAIT_MS of the first fabric link UP, or no fabric link UP. -/
def execFmWaitExpire (s : State) : Out :=
  let since := s.fabric.linkUpAt
  let up := (List.range 48).any (fun k => decide (s.linkState k = lsUp))
  if s.fabState = fsWait ∧ s.rd .FAB_FM 0 0 = 0#64 ∧ (s.boot.stage = .fabric ∨ s.boot.stage = .ready) ∧
      (¬ up ∨ since - 1 + s.getF RF.FAB_CTL_FM_WAIT_MS 0 0 * 1000000 ≤ s.now) then
    .next (s.setF RF.FAB_STATE_STATE 0 0 fsSolo)
  else .next s

/-! ### The mailbox of the anchor -/

/-- Is this the anchor wafer (R466)?  Before any HELLO every wafer may be. (Mark: DEDUCED, log 119.) -/
def State.isAnchor (s : State) : Bool :=
  decide (s.rd .FAB_FM 0 0 = 0#64) || decide (s.rd .FAB_FM 0 0 = s.rd .FAB_UNIT 0 0)

/-- Send the staged DISC message (R466): header slot, then its data slots.  Which bundle it goes to is a
free value. (Mark: DESIGN CHOICE, log 120.) -/
def State.discSend (s : State) : State :=
  if !s.isAnchor then s
  else
    let (k, s1) := s.fresh
    let words := (List.range 32).map (fun i => (s1.rd .FAB_DISC_TX 0 i).toNat)
    let n := nbits (words.headD 0) 5 4
    s1.send (.fabric (Config.freeNat k 0 % 16) 0x12 (words.take (2 * (1 + n))))

/-- DISC_SEND, R466. (Mark: DESIGN CHOICE, log 120.) -/
def execDiscSend (s : State) : Out := .next s.discSend

/-- Show a DISC answer in FAB_DISC_RX. -/
def State.showDisc (s : State) (l : List Nat) : State :=
  ((List.range 32).foldl (fun (t : State) i =>
    t.wr .FAB_DISC_RX 0 i (BitVec.ofNat 64 (l.getD i 0))) s).setFlag RF.FAB_DISC_CTL_RX_VALID 0 0 true

/-- DISC_ANSWER_RECEIVE, R466: the register shows the oldest answer. -/
def execDiscAnswerReceive (words : List Nat) (s : State) : Out :=
  if !s.isAnchor then .next s
  else if s.flag RF.FAB_DISC_CTL_RX_VALID 0 0 then
    .next { s with fabric := { s.fabric with discRx := s.fabric.discRx ++ [words] } }
  else .next (s.showDisc words)

/-- Release the answer shown; the next one takes its place. -/
def State.discRelease (s : State) : State :=
  if !s.isAnchor then s
  else
    let s1 := s.setFlag RF.FAB_DISC_CTL_RX_VALID 0 0 false
    match s1.fabric.discRx with
    | [] => s1
    | l :: r => { s1 with fabric := { s1.fabric with discRx := r } }.showDisc l

/-- DISC_RX_RELEASE, R466. -/
def execDiscRxRelease (s : State) : Out := .next s.discRelease

/-! ### Fabric time -/

/-- Is a tight muster FORMED (R480)? -/
def State.tightFormed (s : State) : Bool :=
  (List.range 64).any (fun m => decide (s.musterState m = 2) &&
    decide (s.getF RF.WFR_MUSm_CTL_KIND 0 m = 0))

/-- Correct the time by `off` ns: a step where R480 allows one, a slew otherwise. (Mark: DEDUCED, log 122.) -/
def State.correct (s : State) (off : Int) : State :=
  if s.flag RF.FAB_TIME_CTL_STEP_EN 0 0 && !s.tightFormed && decide (500 < off.natAbs) then
    { s with timeOffset := s.timeOffset + off, fabric := { s.fabric with slew := 0 } }
  else { s with fabric := { s.fabric with slew := off } }

/-- TIME_SYNC_SEND, R479: each 100 µs the master sends TIME on every live fabric port: T_TX, CORR, its
number and the sequence number. -/
def execTimeSyncSend (s : State) : Out :=
  if s.fabState = fsJoined ∧ s.flag RF.FAB_TIME_CTL_IS_MASTER 0 0 ∧
      100000 ≤ s.now - s.fabric.syncSent then
    let s1 := (List.range 48).foldl (fun (t : State) p =>
      match t.liveLinks p with
      | k :: _ => if t.portOn p && !t.portHeld p then
          t.send (.link (Fin.ofNat 72 k) 0x11 [t.fabricTime, t.getF RF.VRN_LNK_RTT_RTT k 0 / 2,
            t.ownWafer, t.fabric.syncSeq]) else t
      | [] => t) s
    .next { s1 with fabric := { s1.fabric with
      syncSeq := (s1.fabric.syncSeq + 1) % 65536, syncSent := s1.now } }
  else .next s

/-- The state an offset leads to, and the good SYNCs in a row (R480). -/
def timeNext (cur good : Nat) (off : Int) : Nat × Nat :=
  if 50000 < off.natAbs then (tsExcluded, 0)
  else if 500 < off.natAbs then (tsAcquiring, 0)
  else (if 3 ≤ good + 1 then tsLocked else cur, good + 1)

/-- TIME_SYNC_RECEIVE, R479, R480: the SYNC of the lowest live port for the master.
(Mark: DEDUCED, log 122.) -/
def execTimeSyncReceive (k : LinkId) (tTx : Word) (corr : BitVec 32) (master : WaferId) (s : State) :
    Out :=
  let m := s.getF RF.FAB_TIME_CTL_MASTER 0 0
  if s.fabState = fsJoined ∧ ¬ s.flag RF.FAB_TIME_CTL_IS_MASTER 0 0 ∧ master.val = m ∧
      s.portOfLink k.val = (s.portsTo m).head? ∧ (s.portOfLink k.val).isSome then
    let off : Int := (tTx.toNat : Int) + corr.toNat + (s.getF RF.VRN_LNK_RTT_RTT k.val 0 / 2 : Nat) -
      s.fabricTime
    let (st, good) := timeNext s.timeState s.fabric.good off
    let s1 := s.setF RF.FAB_TIME_OFFSET_OFFSET 0 0 (tcode 32 (clampInt 32 off))
    let s2 := { s1 with fabric := { s1.fabric with good := good, lastSync := s1.now } }
    .next ((s2.correct off).setTimeState st)
  else .next s

/-- SYNC_MISSING, R480. -/
def execSyncMissing (s : State) : Out :=
  if s.timeState = tsLocked ∧ ¬ s.flag RF.FAB_TIME_CTL_IS_MASTER 0 0 ∧
      300000 ≤ s.now - s.fabric.lastSync then
    .next ({ s with fabric := { s.fabric with holdover := s.now, good := 0 } }.setTimeState tsHoldover)
  else .next s

/-- HOLDOVER_EXPIRE, R480. -/
def execHoldoverExpire (s : State) : Out :=
  if s.timeState = tsHoldover ∧ 10000000 ≤ s.now - s.fabric.holdover then
    .next (s.setTimeState tsAcquiring)
  else .next s

/-- Distance of the fabric time to the nearest whole second. (Mark: DEDUCED, log 123.) -/
def State.secondError (s : State) : Int :=
  let e := s.fabricTime % 1000000000
  if e < 500000000 then -(e : Int) else 1000000000 - (e : Int)

/-- PPS_EDGE, R481: on the master with PPS_EN, a value written to FAB_TIME_SET is loaded, or the time is
aligned to a whole second; three edges within 1 µs set PPS_LOCK. (Mark: DEDUCED, log 123.) -/
def execPpsEdge (s : State) : Out :=
  if s.flag RF.FAB_TIME_CTL_PPS_EN 0 0 ∧ s.flag RF.FAB_TIME_CTL_IS_MASTER 0 0 then
    let s1 := if s.fabric.timeSet then
        let v : Int := (s.rd .FAB_TIME_SET 0 0).toNat
        { s with timeOffset := v - s.now, fabric := { s.fabric with timeSet := false, slew := 0 } }
      else s
    let err := s1.secondError
    let good := if err.natAbs ≤ 1000 then s1.fabric.ppsGood + 1 else 0
    let s2 := { s1 with fabric := { s1.fabric with ppsGood := min good 3 } }
    .next ((s2.setFlag RF.FAB_TIME_CTL_PPS_LOCK 0 0 (decide (3 ≤ good))).correct err)
  else .next s

end Sys2Proof.Machine
end

