-- ==== Sys2Proof/Machine/FieldMap.lean ====
section
/-! DEFINITION. The field map in service (R28–R55, R761–R766): routes and the seam cost table, clock
re-parenting, seam errors, retirement and its event records. -/

namespace Sys2Proof.Machine

/-! ### Routes -/

def colOf (f : Nat) : Nat := f % 10
def rowOf (f : Nat) : Nat := f / 10

/-- The edge a leg takes next: along the row first, then along the column (R31). -/
def legEdge (a b : Nat) : Nat :=
  if colOf a < colOf b then 1 else if colOf b < colOf a then 3 else if rowOf a < rowOf b then 0 else 2

/-- The fields a leg from `a` to `b` enters, if every seam on it is UP. -/
def State.leg (s : State) (b : Nat) : Nat → Nat → Option (List Nat)
  | 0, _ => none
  | n + 1, a =>
    if a = b then some []
    else if s.seamUp a (legEdge a b) then
      match neighbour a (legEdge a b) with
      | some g => (s.leg b n g).map (g :: ·)
      | none => none
    else none

/-- The fields that a route through the given turning points enters. -/
def State.legs (s : State) : Nat → List Nat → Option (List Nat)
  | _, [] => some []
  | a, b :: r => do
    let x ← s.leg b 20 a
    let y ← s.legs b r
    pure (x ++ y)

/-- A route: its fields and its number of legs. -/
structure Route where
  path : List Nat
  legs : Nat
  deriving DecidableEq, Repr

/-- The shorter of two candidates, the earlier one on a tie. -/
def shorter (x : Option Route) (y : Option Route) : Option Route :=
  match x, y with
  | none, y => y
  | some a, some b => if b.path.length < a.path.length then some b else some a
  | some a, none => some a

/-- A candidate through turning points. -/
def State.via (s : State) (a : Nat) (pts : List Nat) : Option Route :=
  (s.legs a pts).map (fun p => ⟨p, pts.length⟩)

/-- Intermediate fields with a live router. -/
def State.relays (s : State) (a b : Nat) : List Nat :=
  (List.range 80).filter (fun m => decide (s.fieldMode m ≠ 2) && decide (m ≠ a) && decide (m ≠ b))

/-- The route of an ordered pair: the fewest seams, in the order of R31. -/
def State.findRoute (s : State) (a b : Nat) : Option Route :=
  if a = b then some ⟨[], 0⟩
  else
    let l := s.relays a b
    let yx := rowOf b * 10 + colOf a
    let c1 := s.via a [b]
    let c2 := shorter c1 (if yx = a ∨ yx = b then none else s.via a [yx, b])
    let c3 := l.foldl (fun x m => shorter x (s.via a [m, b])) c2
    l.foldl (fun x m => l.foldl (fun x k =>
      if m = k then x else shorter x (s.via a [m, k, b])) x) c3

/-- Every ordered pair of fields. -/
def fieldPairs : List (Nat × Nat) :=
  (List.range 80).flatMap (fun a => (List.range 80).map (fun b => (a, b)))

/-- The seam cost entry of an ordered pair, R34. -/
def State.costEntry (s : State) (a b : Nat) : Nat :=
  let ret := if s.fieldMode b = 1 then 2 ^ 30 else 0
  if s.fieldMode b = 2 ∨ s.fieldMode a = 2 then 2 ^ 31
  else
    match s.findRoute a b with
    | none => ret + 2 ^ 31
    | some r =>
      let seams := r.path.length
      ret + seams + (seams - 1) * 2 ^ 7 + r.legs * 2 ^ 14 +
        (18 * seams + 12 * (seams - 1)) * 2 ^ 16

/-- Is there a route for the ordered pair? -/
def State.reaches (s : State) (a b : Nat) : Bool := (s.findRoute a b).isSome

/-- The ordered pairs a field lacks toward the other in-service fields and field 4's router (R32). -/
def State.lacking (s : State) (f : Nat) : Nat :=
  ((List.range 80).filter (fun g => decide (g ≠ f) && (s.inService g || decide (g = 4)))).foldl
    (fun n g => n + b2n (!s.reaches f g) + b2n (!s.reaches g f)) 0

/-- The field R32 isolates next: the most routes lacking, the highest id on a tie. -/
def State.worstField (s : State) : Option Nat :=
  ((List.range 80).filter (fun f => s.inService f && decide (f ≠ 4))).foldl (fun best f =>
    let n := s.lacking f
    match best with
    | none => if n = 0 then none else some f
    | some g => if s.lacking g ≤ n then some f else some g) none

/-- Traffic rules change: WFR_SEAM_GEN is odd until the rebuild (R35, R51). -/
def State.routesDirty (s : State) : State :=
  let s1 := if s.getF RF.WFR_SEAM_GEN_GEN 0 0 % 2 = 0 then s.addWrap RF.WFR_SEAM_GEN_GEN 0 0 1 else s
  { s1 with commons := { s1.commons with seamDirty := true } }

/-- Both sides of a seam read DOWN. -/
def State.seamDown (s : State) (f n : Nat) : State :=
  match neighbour f n with
  | some g => (s.setF RF.FLD_SEAMn_STATE_STATE f n 1).setF RF.FLD_SEAMn_STATE_STATE g ((n + 2) % 4) 1
  | none => s

/-! ### Field events (R763) -/

/-- Note a decision: its record is due.  SEQ advances with every decision. (Mark: DEDUCED, log 192.) -/
def State.postDecision (s : State) (p : FieldPost) : State :=
  let n := (s.commons.evtSeq + 1) % 2 ^ 32
  { s with commons := { s.commons with posts := s.commons.posts ++ [{ p with seq := n }],
                                       evtSeq := n } }

/-- The four words of a record. -/
def eventWords (p : FieldPost) : List Nat :=
  [p.kind + p.field * 2 ^ 8 + p.outcome * 2 ^ 16 + p.cause * 2 ^ 18 + p.loss * 2 ^ 22 +
     p.cls * 2 ^ 28 + p.unit * 2 ^ 32 + p.slot * 2 ^ 39 + p.inService * 2 ^ 48 +
     b2n (decide (p.inService < 78)) * 2 ^ 55,
   p.time,
   p.seq + (match p.parish with
     | some q => q.val * 2 ^ 32 + 2 ^ 37
     | none => 0) + min p.signals 65535 * 2 ^ 48,
   min p.chains 65535 + min p.others 65535 * 2 ^ 16]

/-- The event bit of a kind. -/
def kindBit (k : Nat) : RF :=
  if k = 1 then RF.WFR_FLD_EVENT_RETIRE else if k = 2 then RF.WFR_FLD_EVENT_FENCE
  else RF.WFR_FLD_EVENT_SPARE

/-- Write a record to the event ring, or count it when the ring is full (R763, R764). -/
def State.writeRecord (s : State) (p : FieldPost) : State :=
  let h := s.getF RF.WFR_FLD_EVT_HEAD_HEAD 0 0
  if (h + 1) % 32 = s.getF RF.WFR_FLD_EVT_TAIL_TAIL 0 0 then
    (s.addSat RF.WFR_FLD_EVT_LOST_COUNT 0 0 1).raise RF.WFR_FLD_EVENT_OVERFLOW 0
  else
    let s1 := (eventWords p).zipIdx.foldl (fun (t : State) (w, i) =>
      t.wr .WFR_FLD_EVTk 0 (4 * h + i) (BitVec.ofNat 64 w)) s
    let s2 := s1.setF RF.WFR_FLD_EVT_HEAD_HEAD 0 0 ((h + 1) % 32)
    s2.raiseAll (if p.below then [kindBit p.kind, RF.WFR_FLD_EVENT_BELOW_RATED] else [kindBit p.kind]) 0

/-- Post the oldest decision of a kind. (Mark: DEDUCED, log 192.) -/
def State.postNext (s : State) (k : Nat) : State :=
  match s.commons.posts.find? (fun p => decide (p.kind = k)) with
  | none => s
  | some p => ({ s with commons := { s.commons with
      posts := s.commons.posts.filter (fun q => q.seq != p.seq) } }).writeRecord p

/-- FIELD_RETIRED_POST, R763. -/
def execFieldRetiredPost (s : State) : Out := .next (s.postNext 1)

/-- UNIT_FENCED_POST, R763. -/
def execUnitFencedPost (s : State) : Out := .next (s.postNext 2)

/-- SPARE_ENABLED_POST, R763. -/
def execSpareEnabledPost (s : State) : Out := .next (s.postNext 3)

/-! ### Retirement -/

def causeBody : Nat := 1
def causeSpine : Nat := 2
def causeHbm : Nat := 3
def causeEscalation : Nat := 4
def causeIsolated : Nat := 5
def causeUnclocked : Nat := 6
def causeBodyRail : Nat := 7
def causeSpineRail : Nat := 8

/-- Signals, chains of the field's parish, and chains of others that are discarded with a field. -/
def State.lostWaiters (s : State) (f : Nat) : Nat × Nat × Nat :=
  let l := s.tallies.waiters ++ s.tallies.selected.map (·.waiter) ++
    s.tallies.chainIssues.map (·.waiter) ++ s.tallies.signals.map (·.waiter)
  let p := s.parishOf f
  (l.filter (fun w => decide (w.tally / 4096 = f))).foldl (fun (a, b, c) w =>
    match w.kind with
    | .arm => (a + 1, b, c)
    | .chain _ _ _ q => if q = p then (a, b + 1, c) else (a, b, c + 1)
    | .wait _ => (a, b, c)) (0, 0, 0)

/-- The waits parked at a field end with its error; its signals and chains are discarded (R160). -/
def State.loseTallies (s : State) (f : Nat) (st : AccStatus) : State :=
  let here := fun (w : Waiter) => decide (w.tally / 4096 = f)
  let l := (s.tallies.waiters ++ s.tallies.selected.map (·.waiter)).filter here
  let s1 := s.dropWaiters here
  let s2 := { s1 with tallies := { s1.tallies with
    heldAdds := s1.tallies.heldAdds.filter (fun x => !decide (x.1 / 4096 = f)) } }
  l.foldl (fun (t : State) w => match w.kind with
    | .wait o => t.tallyFail o st (directAddr t.ownWafer f 3 (w.tally % 4096 * 64))
    | _ => t) s2

/-- The threads of a retired field end and are counted as lost; so are those it had received and not
started (R193). -/
def State.loseThreads (s : State) (f : Nat) : State :=
  let fail : SheafFail := ⟨0x0A, 0, f⟩
  let s1 := (s.liveThreads f).foldl (fun (t : State) i => t.cutThread f i (some fail) true) s
  let mine := s1.crofters.launches.filter (fun l => decide (l.field = f))
  let s2 := { s1 with crofters := { s1.crofters with
    launches := s1.crofters.launches.filter (fun l => !decide (l.field = f)) } }
  mine.foldl (fun (t : State) l =>
    if l.next < l.last then
      (t.failSheaf l.sheaf fail.status fail.sub fail.detail).modSheaf l.sheaf (fun x => { x with
        threadsLeft := x.threadsLeft - (l.last - l.next)
        threadsFailed := x.threadsFailed + (l.last - l.next) })
    else t) s2

/-- A task that ends with its field: a cairn task leaves SEQUENCE_LOST with its issuing sheaf (R322); a
pass-through's spine keeps it (R137). -/
def State.loseTask (s : State) (f u : Nat) (keep : Bool) (status detail : Nat) (t : EngTask) : State :=
  let (cls, n) := s.unitName f u
  let s1 := if u = unitCairn ∧ descOpcode t.desc ≠ 1 then
      s.failSheafOpt t.sheaf 0x07 0 (cSeq t.desc) else s
  let s2 := s1.undefOutputs (s1.taskSource f u t) t.outputs
  if keep then
    { s2 with commons := { s2.commons with kept := s2.commons.kept ++
      [⟨f, n, cls, t.serial, t.tag, t.desc, t.parish, status, detail⟩] } }
  else s2

/-- Every task of a retired field ends (R137); suspects of a recovery end with their sheaves (R632). -/
def State.loseTasks (s : State) (f : Nat) (keep : Bool) : State :=
  let s1 := fieldUnits.foldl (fun (t : State) u =>
    let e := t.engine f u
    let t1 := e.queue.foldl (fun (x : State) k => x.loseTask f u keep stCancelled 0xFB k) t
    let (k, t2) := t1.fresh
    let t3 := e.running.foldl (fun (x : State) q =>
      x.loseTask f u keep stUnitFailed (Config.freeWord k q.serial).toNat q) t2
    e.suspects.foldl (fun (x : State) q => x.failSheafOpt q.sheaf 0x0A 0 f) t3) s
  { s1 with engines := s1.engines.filter (fun e => !decide (e.1 / 32 = f)) }

/-- Engine state of a retired field is gone; a cairn's pool is lost to every holder (R319, R321). -/
def State.loseEngines (s : State) (f : Nat) : State :=
  let s1 := ((s.clearSieve f 0).clearSieve f 1).modCairn f (fun _ => idleCairn)
  let s2 := { s1 with looms := s1.looms.filter (fun e => !decide (e.1 = f)) }
  let s3 := { s2 with cairns := { s2.cairns with
    scans := s2.cairns.scans.filter (fun x => !decide (x.1 = f)) } }
  s3.startScan false (poolName s3.ownWafer f)

/-- May the route of a request have passed through field `h` (R49)?  A request to another wafer leaves by
one of the bridge attachments; which one is open. (Mark: DEDUCED, log 193.) -/
def State.crosses (s : State) (h : Nat) (r : Request) (tgt : Option Nat) : Bool :=
  match r.src.field, tgt with
  | some a, some b => decide (h ∈ s.routeOf a.val b) || decide (h ∈ s.routeOf b a.val)
  | some a, none =>
    ([10, 20, 30, 40, 50, 60, 19, 29, 39, 49, 59, 69].any (fun b => decide (h ∈ s.routeOf a.val b))) &&
      Config.freeBool s.serial r.id
  | none, _ => false

/-- The field a request of this wafer goes to. -/
def State.reqTarget (s : State) (r : Request) : Option Nat :=
  if nbits r.addr 52 4 = s.ownWafer then some (s.placeAnyway r.addr).1 else none

/-! ### The S0 link (R514) -/

/-- The S0 state changes; HST_PORT_EVENT.S0_STATE is set when it does. -/
def State.s0State (s : State) (st cause : Nat) : State :=
  (s.setF RF.HST_S0_STATE_STATE 0 0 st |>.setF RF.HST_S0_STATE_CAUSE 0 0 cause).raise
    RF.HST_PORT_EVENT_S0_STATE 0

/-- A cairn that waits for the granary ends its task with GRANARY. -/
def State.granAbort (s : State) (f : Nat) (st : AccStatus) : State :=
  match (s.cairn f).job with
  | none => s
  | some j =>
    match j.pairs.findSome? (fun p => s.granJob f p.gran) with
    | some (t, _, p) => s.granFail f t st p.gran
    | none => s

/-- The S0 link goes down: granary transfers fail with ROUTE_LOSS (R414, R418, R514).
(Mark: DEDUCED, log 100.) -/
def State.s0Down (s : State) : State :=
  if s.flag RF.HBM_GRAN_CTL_LINK_UP 0 0 then
    (List.range 80).foldl (fun (t : State) f => t.granAbort f .routeLoss)
      ((s.setFlag RF.HBM_GRAN_CTL_LINK_UP 0 0 false).s0State 4 1)
  else s

/-- What a new hole does to the mesh (R47, R49, R53): its seams are DOWN, requests whose route passed
through it fail, and a bridge without an attachment has its links down.
(Marks: DEDUCED, log 114; DEDUCED, log 193.) -/
def State.makeHole (s : State) (f : Nat) : State :=
  let lost := s.commons.reqs.filter (fun r =>
    r.reply.isNone && s.crosses f r (s.reqTarget r))
  let s1 := (List.range 4).foldl (fun (t : State) n => t.seamDown f n) s
  let s2 := lost.foldl (fun (t : State) r => t.failReq none r .routeLoss)
    { s1 with serial := s1.serial + 1 }
  let filled := (s2.commons.fills.flatMap (·.waiting)).filter (fun r =>
    s.crosses f r (s.reqTarget r))
  let s3 := filled.foldl (fun (t : State) r => t.failReq none r .routeLoss) s2
  (List.range 4).foldl (fun (t : State) n =>
    match bridgeAt f n with
    | none => t
    | some b =>
      let dead := (List.range 80).all (fun g => (List.range 4).all (fun m =>
        decide (bridgeAt g m ≠ some b) || decide (t.fieldMode g = 2)))
      if dead then
        let (k, t1) := t.fresh
        let t2 := if b = 8 then t1.s0Down else t1
        (List.range 8).foldl (fun (x : State) i =>
          if x.linkState (8 * b + i) = lsPcie then x.enterState (8 * b + i) lsDown
          else x.linkDown (8 * b + i) (Config.freeNat k i % 16)) t2
      else t) s3

/-- The body of a field is isolated (R48, R93, R137): what reached it completes, later requests fail,
its threads and tasks end, and its waits and pool are lost. -/
def State.isolateBody (s : State) (f : Nat) (hole stackLost : Bool) : State :=
  let st : AccStatus := if hole then .routeLoss else .fieldRetired
  let s1 := if stackLost then s.failFills f .fieldRetired
    else s.endFills f s.commons.fills.length
  let s2 := s1.failReqs none st (fun r => r.held && decide (s.reqTarget r = some f))
  let s3 := ((s2.loseThreads f).loseTasks f (!hole)).loseTallies f st
  let s4 := s3.loseEngines f
  { s4 with
    resets := { s4.resets with
      fields := s4.resets.fields.filter (· != f)
      crofters := s4.resets.crofters.filter (fun c => c.1 != f)
      recoveries := s4.resets.recoveries.map (fun (x : Recovery) => { x with
        fields := x.fields.filter (· != f), engines := x.engines.filter (fun e => e.field != f) }) }
    commons := { s4.commons with
      sroInv := s4.commons.sroInv.filter (· != f)
      faulting := s4.commons.faulting.filter (fun x => x.1 != f) } }

/-- The spread slot of a field, 0x7F if none (R763). -/
def State.slotOf (s : State) (f : Nat) : Nat :=
  ((List.range s.spreadSlots).find? (fun k =>
    slotValid (s.slotEntry k) && !slotLost (s.slotEntry k) &&
      decide (slotField (s.slotEntry k) = f))).getD 0x7F

/-- The slot of a retired field waits to be marked LOST (R68). -/
def State.spreadLoss (s : State) (f : Nat) : State :=
  if s.flag RF.WFR_SPREAD_CTL_ENABLE 0 0 && decide (s.slotOf f ≠ 0x7F) then
    let s1 := if s.getF RF.WFR_SPREAD_GEN_GEN 0 0 % 2 = 0 then s.addWrap RF.WFR_SPREAD_GEN_GEN 0 0 1
      else s
    { s1 with commons := { s1.commons with spreadMarks := setInsert f s1.commons.spreadMarks } }
  else s

/-- A retirement that takes effect now: status, record, isolation, and a route rebuild (R44–R49, R68,
R763).  `hole` leaves a hole, and a pass-through can still become one. -/
def State.retireNow (s : State) (f cause loss : Nat) (hole boot : Bool) : State :=
  let was := s.inService f
  let before := s.fieldsInService
  let (sig, ch, oth) := s.lostWaiters f
  let par := s.parishOf f
  let slot := if s.flag RF.WFR_SPREAD_CTL_ENABLE 0 0 then s.slotOf f else 0x7F
  let s1 := s.setF RF.WFR_FLDf_STATUS_STATE 0 f (if hole then 2 else 1)
    |>.setF RF.WFR_FLDf_STATUS_CAUSE 0 f cause |>.setF RF.WFR_FLDf_STATUS_HBM_LOSS 0 f loss
    |>.setF RF.FLD_SPINE_ID_MODE f 0 1
  let s2 := if boot then s1.setFlag RF.WFR_FLDf_STATUS_AT_BOOT 0 f true
    else
      let p : FieldPost :=
        { kind := 1, field := f, outcome := if hole then 2 else 1, cause := cause, loss := loss,
          cls := 0xF, unit := 0xF, slot := slot, inService := s1.fieldsInService,
          below := decide (78 ≤ before) && decide (s1.fieldsInService < 78), time := s.fabricTime,
          seq := 0, parish := par, signals := sig, chains := ch, others := oth }
      (s1.postDecision p).raise RF.WFR_RCV_EVENT_FIELD_RETIRE 0
  let s3 := if was then s2.isolateBody f hole (decide (cause = causeHbm))
    else { s2 with commons := { s2.commons with
      kept := s2.commons.kept.filter (fun k => !decide (k.field = f)) } }
  let s4 := if hole then s3.makeHole f else s3
  (s4.spreadLoss f).routesDirty

/-- Does a recovery hold the field (R623)? -/
def State.inRecovery (s : State) (f : Nat) : Bool :=
  s.resets.recoveries.any (fun x => !x.engines.isEmpty && decide (f ∈ x.fields))

/-- Decide a retirement (R44, R45): deferred while the wafer is frozen (R52), and, where escalation
reaches it during a recovery, to that recovery's end (R623).  A spine or root-rail failure of field 4
retires nothing: it is a wafer fault (R40). -/
def State.retireField (s : State) (f cause loss : Nat) (hole boot : Bool) : State :=
  if s.fieldMode f = 2 ∨ (s.fieldMode f = 1 ∧ ¬ hole) ∨ (f = 4 ∧ hole) then s
  else if s.frozen || (decide (cause = causeEscalation) && s.inRecovery f) then
    { s with resets := { s.resets with deferred := s.resets.deferred ++ [.retire f cause hole] } }
  else s.retireNow f cause loss hole boot

/-- Cause code and outcome of a failure, R45. -/
def retireOutcome : RetireCause → Nat × Bool
  | .bodySelfcheck => (causeBody, false)
  | .spineSelfcheck => (causeSpine, true)
  | .bodyRail => (causeBodyRail, false)
  | .spineRail => (causeSpineRail, true)
  | .escalation ok => (causeEscalation, !ok)

/-- FIELD_RETIRE, R48. -/
def execFieldRetire (f : FieldId) (cause : RetireCause) (s : State) : Out :=
  let (c, hole) := retireOutcome cause
  .next (s.retireField f.val c 0 hole false)

/-- DAMAGE_SCAN_DONE, R319. -/
def execDamageScanDone (f : FieldId) (s : State) : Out := .next (s.endScans f.val)

/-- RETIRED_TASK_STATUS, R137: the spine of a pass-through writes the status records and updates the
completion tallies of the tasks it kept, as accesses of their parishes. -/
def execRetiredTaskStatus (f : FieldId) (s : State) : Out :=
  let l := s.commons.kept.filter (fun k => decide (k.field = f.val))
  let s1 := { s with commons := { s.commons with
    kept := s.commons.kept.filter (fun k => !decide (k.field = f.val)) } }
  .next (l.foldl (fun (t : State) k =>
    (t.finishDesc (t.engineSource f.val k.parish 0) k.desc k.tag k.status k.cls k.unit 0 k.detail).1) s1)

/-! ### Route rebuild -/

/-- The isolation loop of R32. -/
def State.isolateLoop (s : State) : Nat → State
  | 0 => s
  | n + 1 =>
    match s.worstField with
    | none => s
    | some f => (s.retireNow f causeIsolated 0 true (decide (s.boot.stage ≠ .ready))).isolateLoop n

/-- Load the routes and write the entries of the seam cost table that change (R31, R766). -/
def State.loadRoutes (s : State) : State :=
  fieldPairs.foldl (fun (t : State) (a, b) =>
    let k := a * 80 + b
    { t with commons := { t.commons with
        routes := t.commons.routes.put [] k (((s.findRoute a b).map (·.path)).getD [])
        seamCost := t.commons.seamCost.put 0 k (s.costEntry a b) } }) s

/-- The whole rebuild (R32, R35): isolation, routes, table, and an even generation. -/
def State.routeRebuild (s : State) : State :=
  let s1 := (s.isolateLoop 80).loadRoutes
  let s2 := if s1.getF RF.WFR_SEAM_GEN_GEN 0 0 % 2 = 1 then s1.addWrap RF.WFR_SEAM_GEN_GEN 0 0 1 else s1
  { s2 with commons := { s2.commons with seamDirty := false } }

/-! ### Seams -/

/-- Poison what a flit of an outstanding request or response carries (R30). -/
def poisonReq (r : Request) : Request :=
  match r.reply, r.kind with
  | none, .write d _ => { r with kind := .write d true }
  | some rep, .read n => if rep.status = .ok then { r with reply := some (.failed .poison n) } else r
  | _, _ => r

/-- SEAM_ECC_ERROR, R30: `victim` names the request, if any, whose flit an uncorrectable error hits. -/
def execSeamEccError (f : FieldId) (n : Fin 4) (uncorrectable : Bool) (victim : Option Nat) (s : State) :
    Out :=
  if !s.seamUp f.val n.val then .next s
  else if !uncorrectable then .next (s.addSat RF.FLD_SEAMn_ECC_CORRECTED f.val n.val 1)
  else
    let k := f.val * 4 + n.val
    let times := (s.commons.seamUe.look [] k).filter (fun t => decide (s.now - t < 1000000000))
    let s1 := s.addSat RF.FLD_SEAMn_ECC_UNCORRECTED f.val n.val 1
    let hit := fun (r : Request) => if victim = some r.id then poisonReq r else r
    .next { s1 with commons := { s1.commons with
      seamUe := s1.commons.seamUe.put [] k (times ++ [s.now])
      reqs := s1.commons.reqs.map hit } }

/-- SEAM_UE_LIMIT, R30: more than 16 uncorrectable errors in 1 s take the seam DOWN. -/
def execSeamUeLimit (f : FieldId) (n : Fin 4) (s : State) : Out :=
  let times := (s.commons.seamUe.look [] (f.val * 4 + n.val)).filter
    (fun t => decide (s.now - t < 1000000000))
  if 16 < times.length ∧ s.seamUp f.val n.val then .next ((s.seamDown f.val n.val).routesDirty)
  else .next s

/-- SEAM_SAT_WINDOW, R50: the zero-credit mesh cycles of an edge in a 100 µs window of 180,000 cycles.
(Mark: DEDUCED, log 195.) -/
def execSeamSatWindow (f : FieldId) (n : Fin 4) (cycles : Nat) (s : State) : Out :=
  let s1 := s.addSat RF.FLD_SEAMn_SAT_CYCLES f.val n.val cycles
  if s.getF RF.FLD_SEAM_SAT_THRESH_THRESH f.val 0 * 180000 < cycles * 1024 then
    .next (s1.raise ⟨.FLD_SEAM_EVENT, n.val, 1⟩ f.val)
  else .next s1

/-! ### The clock tree -/

/-- One round of the breadth-first search from field 4 (R38): the fields at the next distance. -/
def State.clockRound (s : State) (dist : NMap Nat) (front : List Nat) (d : Nat) : NMap Nat × List Nat :=
  front.foldl (fun (m, nx) f => (List.range 4).foldl (fun (m, nx) n =>
    match neighbour f n with
    | some g => if s.seamUp f n && decide (g ≠ 4) && decide (NMap.look m 0 g = 0) then
        (NMap.put m 0 g d, nx ++ [g]) else (m, nx)
    | none => (m, nx)) (m, nx)) (dist, [])

def State.clockDists (s : State) : Nat → Nat → NMap Nat → List Nat → NMap Nat
  | 0, _, m, _ => m
  | n + 1, d, m, front =>
    let (m1, nx) := s.clockRound m front d
    s.clockDists n (d + 1) m1 nx

/-- The distance of a field from field 4 over live forwarders and UP seams; none beyond 24 (R39). -/
def State.clockDist (s : State) (f : Nat) : Option Nat :=
  if f = 4 then some 0
  else match NMap.look (s.clockDists 24 1 [] [4]) 0 f with
    | 0 => none
    | d => some d

/-- The neighbours of a field in the order of R38: south, nearer column 4, the other, north. -/
def parentOrder (f : Nat) : List Nat := if colOf f < 4 then [2, 1, 3, 0] else [2, 3, 1, 0]

/-- The parent R38 gives a field, with its depth. -/
def State.newParent (s : State) (f : Nat) : Option (Nat × Nat) :=
  match s.clockDist f with
  | none => none
  | some d =>
    match (parentOrder f).findSome? (fun n => match neighbour f n with
      | some g => if s.seamUp f n && decide (s.clockDist g = some (d - 1)) then some g else none
      | none => none) with
    | some g => some (g, d)
    | none => none

def State.clockParent (s : State) (f : Nat) : Nat := s.getF RF.FLD_CLK_STATUS_PARENT f 0

/-- The length of the chain of parents from a field to field 4 over live seams. -/
def State.chain (s : State) : Nat → Nat → Option Nat
  | 0, _ => none
  | n + 1, f =>
    if f = 4 then some 0
    else
      let p := s.clockParent f
      if s.seamUp f (edgeTo f p) then (s.chain n p).map (· + 1) else none

/-- DEPTH follows the chain of parents (R41). -/
def State.refreshDepths (s : State) : State :=
  (List.range 80).foldl (fun (t : State) f => match t.chain 80 f with
    | some d => t.setF RF.FLD_CLK_STATUS_DEPTH f 0 d
    | none => t) s

/-- Has the field lost its parent: it is a hole or behind a seam that is DOWN, or it lies in the cut
subtree and is no longer nearer to field 4? (Mark: DEDUCED, log 194.) -/
def State.parentLost (s : State) (f : Nat) : Bool :=
  let p := s.clockParent f
  decide (f ≠ 4) && decide (s.fieldMode f ≠ 2) &&
    (!s.seamUp f (edgeTo f p) ||
      ((s.chain 80 f).isNone && decide ((s.clockDist p).map (· + 1) ≠ s.clockDist f)))

/-- PARENT_LOSS, R41: HOLDOVER; a field with no path of at most 24 is retired UNCLOCKED (R39).
(Mark: DEDUCED, log 194.) -/
def execParentLoss (f : FieldId) (s : State) : Out :=
  if s.parentLost f.val ∧ s.getF RF.FLD_CLK_STATUS_STATE f.val 0 = 0 then
    let s1 := s.setF RF.FLD_CLK_STATUS_STATE f.val 0 1
    if (s1.newParent f.val).isNone then .next (s1.retireField f.val causeUnclocked 0 true false)
    else .next s1
  else .next s

/-- CLOCK_REPARENT, R41: PARENT and DEPTH change, SWITCH_COUNT advances, STATE is SWITCHING. -/
def execClockReparent (f : FieldId) (s : State) : Out :=
  if s.getF RF.FLD_CLK_STATUS_STATE f.val 0 = 1 then
    match s.newParent f.val with
    | none => .next (s.retireField f.val causeUnclocked 0 true false)
    | some (p, d) =>
      let s1 := s.setF RF.FLD_CLK_STATUS_PARENT f.val 0 p |>.setF RF.FLD_CLK_STATUS_DEPTH f.val 0 d
        |>.setF RF.FLD_CLK_STATUS_STATE f.val 0 2 |>.addSat RF.FLD_CLK_STATUS_SWITCH_COUNT f.val 0 1
      .next s1.refreshDepths
  else .next s

/-- CLOCK_RELOCK, R41. -/
def execClockRelock (f : FieldId) (s : State) : Out :=
  if s.getF RF.FLD_CLK_STATUS_STATE f.val 0 = 2 then .next (s.setF RF.FLD_CLK_STATUS_STATE f.val 0 0)
  else .next s

end Sys2Proof.Machine
end

