-- ==== Sys2Proof/Machine/Hbm.lean ====
section
/-! DEFINITION. HBM stacks and the granary's link (R390–R422, R511–R514): sector errors, loss of a
stack, patrol, scrub, and enumeration of S0. -/

namespace Sys2Proof.Machine

/-- HBM_ID.STATE (R421). -/
def hbmTraining : Nat := 0
def hbmUp : Nat := 1
def hbmPowerdown : Nat := 2
def hbmSelfRefresh : Nat := 3
def hbmLost : Nat := 4

def State.hbmState (s : State) (f : Nat) : Nat := s.getF RF.HBM_ID_STATE f 0

/-! ### Errors -/

/-- The first-error capture of the stack's page (R398, R405, R421). -/
def State.hbmCapture (s : State) (f kind pc bit off : Nat) : State :=
  s.capture RF.HBM_ERR_STATUS_VALID RF.HBM_ERR_STATUS_MORE f fun t =>
    t.setF RF.HBM_ERR_STATUS_KIND f 0 kind |>.setF RF.HBM_ERR_STATUS_PSEUDO_CHANNEL f 0 pc
      |>.setF RF.HBM_ERR_STATUS_BIT_POSITION f 0 bit |>.setF RF.HBM_ERR_ADDR_ADDR f 0 off

/-- Times of uncorrectable sectors of the last second. (Mark: DEDUCED, log 96.) -/
def State.ueRecent (s : State) (f : Nat) : List Nat :=
  (s.hbm.ueTimes.look [] f).filter (fun t => decide (s.now - t < 1000000000))

/-- HBM_ECC_ERROR, R397, R398: `kind` 0 is a correction the stack reports, 1 a corrected sector, 2 an
uncorrectable one, which is written back poisoned.  Fresh granules raise nothing (R85).
(Mark: DEDUCED, log 96.) -/
def execHbmEccError (f : FieldId) (off : BitVec 35) (kind : Fin 3) (pc : BitVec 5) (bitPos : BitVec 9)
    (s : State) : Out :=
  let n := f.val
  let o := off.toNat / 32 * 32
  if s.hbmState n = hbmLost ∨ s.fieldMode n ≠ 0 ∨ s.mem.fresh n 0 o then .next s
  else if kind.val = 0 then .next (s.addSat RF.HBM_ODECC_COUNT n 0 1)
  else if kind.val = 1 then
    .next ((s.addSat RF.HBM_CE_COUNT_COUNT n 0 1).hbmCapture n 1 pc.toNat bitPos.toNat o)
  else
    let s1 := (s.addSat RF.HBM_UE_COUNT_COUNT n 0 1).hbmCapture n 2 pc.toNat bitPos.toNat o
    .next { s1 with
      mem := { s1.mem with poison := setInsert (cellKey n 0 o / 32) s1.mem.poison }
      hbm := { s1.hbm with ueTimes := s1.hbm.ueTimes.put [] n (s.ueRecent n ++ [s.now]) } }

/-- CMD_ADDR_PARITY_ERROR, R405: captured with KIND 3, bit position 0 and address 0. -/
def execCmdAddrParityError (f : FieldId) (pc : BitVec 5) (s : State) : Out :=
  .next (s.hbmCapture f.val 3 pc.toNat 0 0)

/-- A scrub ends with ERR (R408, R410). -/
def State.scrubErr (s : State) (f : Nat) : State :=
  s.setFlag RF.HBM_SCRUB_CTL_BUSY f 0 false |>.setFlag RF.HBM_SCRUB_CTL_ERR f 0 true

/-- Is the module in M-standby, or on its way in or out of it? -/
def State.inStandby (s : State) : Bool := s.power.asleep

/-- A stack is lost (R405, R406): HBM_LOSS, a running scrub, and the retirement of its field; in
M-standby the field retires when the module wakes (R416). -/
def State.stackLoss (s : State) (f cause pc lane : Nat) (boot : Bool) : State :=
  let s1 := s.setF RF.HBM_LOSS_CAUSE f 0 cause |>.setF RF.HBM_LOSS_PSEUDO_CHANNEL f 0 pc
    |>.setF RF.HBM_LOSS_LANE f 0 lane |>.setF RF.HBM_ID_STATE f 0 hbmLost
  let s2 := if s1.flag RF.HBM_SCRUB_CTL_BUSY f 0 then s1.scrubErr f else s1
  if s2.inStandby then
    { s2 with resets := { s2.resets with deferred := s2.resets.deferred ++ [.retire f causeHbm false] } }
  else s2.retireField f causeHbm cause false boot

/-- STACK_LOSS, R405: causes 1 to 5; UE_RATE is met when the uncorrectable sectors of the last second
exceed HBM_UE_LIMIT. -/
def execStackLoss (f : FieldId) (cause : Fin 5) (pc : BitVec 5) (lane : BitVec 8) (s : State) : Out :=
  let n := f.val
  let c := cause.val + 1
  if s.hbmState n = hbmLost ∨ s.fieldMode n ≠ 0 ∨
      (c = 3 ∧ (s.ueRecent n).length ≤ s.getF RF.HBM_UE_LIMIT_LIMIT n 0) then .next s
  else .next (s.stackLoss n c pc.toNat lane.toNat false)

/-! ### Patrol, refresh, temperature -/

/-- Does a running OVERWRITE cover the granule (R409)? -/
def State.inScrub (s : State) (f g : Nat) : Bool :=
  s.flag RF.HBM_SCRUB_CTL_BUSY f 0 && decide (s.getF RF.HBM_SCRUB_CTL_MODE f 0 = 1) &&
    decide (s.getF RF.HBM_SCRUB_START_START f 0 ≤ g) &&
    decide (g < s.getF RF.HBM_SCRUB_START_START f 0 + s.getF RF.HBM_SCRUB_COUNT_GRANULES f 0)

/-- The written granules of a field that patrol visits. -/
def State.patrolled (s : State) (f : Nat) : List Nat :=
  (s.mem.written.filter (fun k => decide (k / 524288 = f))).map (· % 524288) |>.filter
    (fun g => !s.inScrub f g)

/-- PATROL_STEP, R400: patrol moves to the next written granule, and past the last one it has completed a
pass; it stops while the wafer is frozen and in M-standby. (Mark: DESIGN CHOICE, log 97.) -/
def execPatrolStep (f : FieldId) (s : State) : Out :=
  let n := f.val
  if s.frozen || s.inStandby || decide (s.hbmState n ≠ hbmUp) || decide (s.fieldMode n ≠ 0) then .next s
  else
    let pos := s.getF RF.HBM_PATROL_POSITION n 0
    match (s.patrolled n).find? (fun g => decide (pos < g)) with
    | some g => .next (s.setF RF.HBM_PATROL_POSITION n 0 g)
    | none => .next ((s.setF RF.HBM_PATROL_POSITION n 0 ((s.patrolled n).headD 0)).addWrap
        RF.HBM_PATROL_PASSES n 0 1)

/-- REFRESH, R401: no state that software sees. (Mark: DESIGN CHOICE, log 97.) -/
def execRefresh (_f : FieldId) (_bank : Nat) (s : State) : Out := .next s

/-- HBM_TEMP_CROSS, R401: the temperature, and twice the rate above 85 °C. -/
def execHbmTempCross (f : FieldId) (temp : BitVec 8) (s : State) : Out :=
  .next (s.setF RF.HBM_TEMP_TEMP f.val 0 temp.toNat |>.setFlag RF.HBM_TEMP_DOUBLE f.val 0
    (decide (85 < temp.toNat)))

/-! ### Scrub -/

/-- Scrub `n` granules from `g`: OVERWRITE zeroes them; both set their fresh bits (R87, R408). -/
def Memory.scrub (m : Memory) (f g n : Nat) (zeros : Bool) : Memory :=
  let m1 := if zeros then m.zeroRange (cellKey f 0 (g * 65536)) (n * 65536) else m
  { m1 with written := m1.written.filter (fun k =>
      !(decide (f * 524288 + g ≤ k) && decide (k < f * 524288 + g + n))) }

/-- Granules of a range from its start up to the first one with a fill in progress.
(Mark: DESIGN CHOICE, log 98.) -/
def State.scrubbable (s : State) (f g n : Nat) : Nat :=
  ((s.commons.fills.filter (fun x => decide (x.field = f) && decide (g ≤ x.granule) &&
    decide (x.granule < g + n))).map (fun x => x.granule - g)).foldl min n

/-- HBM_SCRUB_CTL.GO (R408): how far the scrub has come by the next access is a free value; the rest is
done when it ends. (Mark: DESIGN CHOICE, log 98.) -/
def State.scrubGo (s : State) (f : Nat) (zeros : Bool) : State :=
  let g := s.getF RF.HBM_SCRUB_START_START f 0
  let n := s.getF RF.HBM_SCRUB_COUNT_GRANULES f 0
  if s.flag RF.HBM_SCRUB_CTL_BUSY f 0 then s
  else
    let s1 := s.setF RF.HBM_SCRUB_CTL_MODE f 0 (b2n zeros)
    if s1.hbmState f = hbmLost ∨ 524288 < g + n then s1.scrubErr f
    else
      let (k, s2) := (s1.setFlag RF.HBM_SCRUB_CTL_BUSY f 0 true).fresh
      let done := Config.freeNat k 0 % (s2.scrubbable f g n + 1)
      { s2 with mem := s2.mem.scrub f g done zeros,
                hbm := { s2.hbm with scrubNext := s2.hbm.scrubNext.put 0 f done } }

/-- SCRUB_MARK, R408. -/
def execScrubMark (f : FieldId) (s : State) : Out := .next (s.scrubGo f.val false)

/-- SCRUB_OVERWRITE, R408. -/
def execScrubOverwrite (f : FieldId) (s : State) : Out := .next (s.scrubGo f.val true)

/-- The end of a scrub: its last granules are done, BUSY clears and DONE_GEN advances; it waits for fills
in its range, and stops while the wafer is frozen (R408, R415). -/
def State.scrubEnd (s : State) (f : Nat) : State :=
  let g := s.getF RF.HBM_SCRUB_START_START f 0
  let n := s.getF RF.HBM_SCRUB_COUNT_GRANULES f 0
  let i := s.hbm.scrubNext.look 0 f
  if !s.flag RF.HBM_SCRUB_CTL_BUSY f 0 || s.frozen || decide (s.scrubbable f (g + i) (n - i) ≠ n - i) then
    s
  else
    let m := s.mem.scrub f (g + i) (n - i) (decide (s.getF RF.HBM_SCRUB_CTL_MODE f 0 = 1))
    { s with mem := m, hbm := { s.hbm with scrubNext := s.hbm.scrubNext.put 0 f 0 } }.setFlag
      RF.HBM_SCRUB_CTL_BUSY f 0 false |>.addWrap RF.HBM_SCRUB_CTL_DONE_GEN f 0 1

/-! ### The granary's link -/

/-- Does the agent hold the keys of the enabled parishes, with entropy ready (R413)? -/
def State.granKeys (s : State) : Bool :=
  decide (s.getF RF.RVE_RNG_STAT_STATE 0 0 = 1) && (List.range 32).all (fun p =>
    !s.flag RF.WFR_PAR_CTL_ENABLE p 0 || s.flag RF.RVE_PARp_BIND_KEY_LOADED 0 p)

/-- READY of the granary follows the device and the keys (R413). -/
def State.granRefresh (s : State) : State :=
  s.setFlag RF.HBM_GRAN_CTL_READY 0 0
    (s.flag RF.HBM_GRAN_CTL_READY 0 0 && decide (s.getF RF.HST_S0_STATE_STATE 0 0 = 4) ||
      (decide (s.getF RF.HST_S0_STATE_STATE 0 0 = 3) && s.granKeys))

/-- Setting ENABLE starts the enumeration of S0 in the mode MODE selects (R411, R511).
(Mark: DEDUCED, log 99.) -/
def State.granEnable (s : State) : State :=
  if s.flag RF.HBM_GRAN_CTL_ENABLE 0 0 then s
  else
    let s1 := s.setFlag RF.HBM_GRAN_CTL_ENABLE 0 0 true
    let mode := s.getF RF.HBM_GRAN_CTL_MODE 0 0
    if mode = 1 ∨ mode = 2 then
      (s1.setFlag RF.HST_S0_STATE_CXL 0 0 (decide (mode = 1))).s0State 1 0
    else s1

/-- GRANARY_ENABLE, R511. -/
def execGranaryEnable (s : State) : Out := .next s.granEnable

/-- Clearing ENABLE shuts S0 down (R511). -/
def State.granDisable (s : State) : State :=
  if s.flag RF.HBM_GRAN_CTL_ENABLE 0 0 then
    (s.setFlag RF.HBM_GRAN_CTL_ENABLE 0 0 false |>.setFlag RF.HBM_GRAN_CTL_READY 0 0 false
      |>.setFlag RF.HBM_GRAN_CTL_LINK_UP 0 0 false |>.setF RF.HST_S0_STATE_WIDTH 0 0 0
      |>.setF RF.HST_S0_STATE_SPEED 0 0 0).s0State 0 0
  else s

/-- GRANARY_DISABLE, R511. -/
def execGranaryDisable (s : State) : Out := .next s.granDisable

/-- Does a CXL granary fit in 8 TiB (R513)? -/
def State.granFits (s : State) : Bool :=
  decide (s.getF RF.HBM_GRAN_CTL_MODE 0 0 ≠ 1) ||
    decide (s.getF RF.HBM_GRAN_ORIGIN_ORIGIN 0 0 + s.getF RF.HBM_GRAN_PAIRS_PAIRS 0 0 *
      (s.getF RF.HBM_GRAN_PAIR_PAIR_BYTES 0 0 * 4096) ≤ 2 ^ 43)

/-- S0_ENUM_DONE, R511–R514: `cause` 0 is success. -/
def execS0EnumDone (cause : Fin 6) (width : BitVec 4) (speed : BitVec 3) (s : State) : Out :=
  let st := s.getF RF.HST_S0_STATE_STATE 0 0
  if st ≠ 1 ∧ st ≠ 2 then .next s
  else if cause.val ≠ 0 then .next (s.s0State 4 cause.val)
  else if !s.granFits then .next (s.s0State 4 4)
  else
    .next ((s.setF RF.HST_S0_STATE_WIDTH 0 0 width.toNat |>.setF RF.HST_S0_STATE_SPEED 0 0 speed.toNat
      |>.setFlag RF.HBM_GRAN_CTL_LINK_UP 0 0 true).s0State 3 0).granRefresh

/-- S0_LINK_DOWN, R514. (Mark: DEDUCED, log 100.) -/
def execS0LinkDown (s : State) : Out := .next s.s0Down

end Sys2Proof.Machine
end

