-- ==== Sys2Proof/Machine/Recovery.lean ====
section
/-! DEFINITION. Hangs, resets and recovery (R605–R637): hang detection, attribution, suspect replay,
unit failures and fences, the reset domains below the wafer, and escalation. -/

namespace Sys2Proof.Machine

/-! ### Windows -/

def sec60 : Nat := 60000000000
def min10 : Nat := 600000000000
def hour1 : Nat := 3600000000000

/-- The times of a sliding window that still count. -/
def State.recent (s : State) (w : Nat) (l : List Nat) : List Nat := l.filter (fun t => decide (s.now - t < w))

/-- Count a reset of an engine (R622). (Mark: DEDUCED, log 162.) -/
def State.countEngine (s : State) (f u : Nat) : State :=
  s.modEngine f u (fun e => { e with resets := s.recent sec60 e.resets ++ [s.now] })

/-- Count a reset of a crofter. -/
def State.countCrofter (s : State) (f c : Nat) : State :=
  let k := f * 16 + c
  let l := s.recent sec60 (s.resets.crofterTimes.look [] k) ++ [s.now]
  { s with resets := { s.resets with crofterTimes := s.resets.crofterTimes.put [] k l } }

/-- Count a field reset of R620. (Mark: DEDUCED, log 162.) -/
def State.countField (s : State) (f : Nat) : State :=
  let l := s.recent min10 (s.resets.fieldTimes.look [] f) ++ [s.now]
  { s with resets := { s.resets with fieldTimes := s.resets.fieldTimes.put [] f l } }

/-- ESCALATION_WINDOW_SLIDE, R622: old resets age out of every window. (Mark: DESIGN CHOICE, log 4.) -/
def execEscalationWindowSlide (s : State) : Out :=
  .next { s with
    engines := s.engines.map (fun e => (e.1, { e.2 with resets := s.recent sec60 e.2.resets }))
    resets := { s.resets with
      fieldTimes := (s.resets.fieldTimes.map (fun e => (e.1, s.recent min10 e.2))).filter
        (fun e => !e.2.isEmpty)
      crofterTimes := (s.resets.crofterTimes.map (fun e => (e.1, s.recent sec60 e.2))).filter
        (fun e => !e.2.isEmpty)
      warmTimes := s.recent hour1 s.resets.warmTimes } }

/-! ### Fences -/

/-- The status bit of a fenced unit (R759). -/
def fenceBit (u : Nat) : Nat :=
  if u ≤ 8 then 10 + u
  else if u = 16 ∨ u = 17 then 20 + (u - 16)
  else if u = unitScree then 22
  else if u = unitCairn then 23
  else 25

/-- The event record of a fence; `unit` is a physical number (R763). -/
def State.fencePost (s : State) (f cls unit : Nat) : State :=
  let p : FieldPost :=
    { kind := 2, field := f, outcome := 0, cause := 0, loss := 0, cls := cls, unit := unit,
      slot := 0x7F, inService := s.fieldsInService, below := false, time := s.fabricTime, seq := 0,
      parish := s.parishOf f, signals := 0, chains := 0, others := 0 }
  (s.postDecision p).raise RF.WFR_RCV_EVENT_FENCE 0

/-- The sequences of a fenced cairn end as for a lost holder (R321): its records close, and the pairs it
spilled are lost. -/
def State.cairnHolderLost (s : State) (f : Nat) : State :=
  ((s.openRecs f).foldl (fun t r => t.setSeqState f r (fun v => nbits (nbits v 3 11 + 1) 0 11 * 8)) s
    ).modCairn f (fun _ => idleCairn)

/-- Fence an engine now: its queue is cancelled (R255, R622). -/
def State.fenceNow (s : State) (f u : Nat) : State :=
  if s.fenced f u then s
  else
    let s1 := s.wr .WFR_FLDf_STATUS 0 f (putBits (s.rd .WFR_FLDf_STATUS 0 f) (fenceBit u) 1 1)
    let (cls, n) := s1.unitName f u
    let s2 := (s1.fencePost f cls (if u ≤ 8 then u else n)).cancelQueue f u 0xFD
    if u = unitCairn then s2.cairnHolderLost f else s2

/-- Fence a crofter now: the threads it holds end, and it starts none (R137, R616). -/
def State.fenceCrofterNow (s : State) (f c : Nat) : State :=
  let w := s.rd .WFR_FLDf_STATUS 0 f
  if bit w (32 + c) then s
  else
    let fail : SheafFail := ⟨6, 0, f + 8 * 2 ^ 7 + c * 2 ^ 11⟩
    let s1 := (s.wr .WFR_FLDf_STATUS 0 f (putBits w (32 + c) 1 1)).fencePost f 8 c
    let s2 := ((s1.liveThreads f).filter (fun t => t / 8 == c)).foldl
      (fun (x : State) t => x.cutThread f t (some fail) true) s1
    (List.range 8).foldl (fun (x : State) i =>
      x.setThread f (c * 8 + i) { freeThread with st := .fenced }) s2

def State.outOfServiceNow (s : State) : State :=
  (s.setFlag RF.RVE_LIFECYCLE_OUT_OF_SERVICE 0 0 true).raise RF.WFR_RCV_EVENT_OUT_OF_SERVICE 0

/-- Must a decision about a field wait (R52, R623)? -/
def State.decisionWaits (s : State) : Decision → Bool
  | .retire f cause _ => s.frozen || s.inStandby || (decide (cause = causeEscalation) && s.inRecovery f)
  | .fence f _ => s.frozen || s.inRecovery f
  | .fenceCrofter f _ => s.frozen || s.inRecovery f
  | .outOfService => s.frozen

def State.applyDecision (s : State) (d : Decision) : State :=
  match d with
  | .retire f cause hole =>
    if s.fieldMode f = 2 ∨ (s.fieldMode f = 1 ∧ ¬ hole) then s
    else s.retireNow f cause (if cause = causeHbm then s.getF RF.HBM_LOSS_CAUSE f 0 else 0) hole false
  | .fence f u => s.fenceNow f u
  | .fenceCrofter f c => s.fenceCrofterNow f c
  | .outOfService => s.outOfServiceNow

/-- Take a decision, or keep it until the recovery ends or the wafer thaws. -/
def State.takeDecision (s : State) (d : Decision) : State :=
  if s.decisionWaits d then
    { s with resets := { s.resets with deferred := s.resets.deferred ++ [d] } }
  else s.applyDecision d

/-- Apply the decisions that no longer wait, in their order. -/
def State.runDeferred (s : State) : State :=
  let l := s.resets.deferred
  let go := l.filter (fun d => !s.decisionWaits d)
  let stay := l.filter (fun d => s.decisionWaits d)
  go.foldl (fun (t : State) d => t.applyDecision d)
    { s with resets := { s.resets with deferred := stay } }

/-- The escalation of an engine (R622): 8 resets in 60 s fence it. -/
def State.escalateEngine (s : State) (f u : Nat) : State :=
  if 8 ≤ (s.recent sec60 (s.engine f u).resets).length ∧ !s.fenced f u then s.takeDecision (.fence f u) else s

/-- The escalation of a crofter. -/
def State.escalateCrofter (s : State) (f c : Nat) : State :=
  if 8 ≤ (s.recent sec60 (s.resets.crofterTimes.look [] (f * 16 + c))).length then
    s.takeDecision (.fenceCrofter f c)
  else s

/-! ### Engine and crofter resets -/

/-- Engine state that an engine reset clears: tile registers, tables, pipes; a cairn rolls back. -/
def State.engineClear (s : State) (f u : Nat) : State :=
  if u = 16 ∨ u = 17 then s.clearSieve f (u - 16)
  else if u = unitCairn then s.cairnRollback f
  else if u = unitLoom then s.modLoom f (fun _ => idleLoom)
  else s

/-- End the running tasks of a unit at an engine reset (R137, R354): a scree's with UNIT_FAILED and
poisoned outputs, every other's CANCELLED. -/
def State.resetRunning (s : State) (f u code : Nat) : State :=
  let l := (s.engine f u).running
  let s0 := if u = unitCairn then s.cairnRollback f else s
  if u = unitScree ∧ code = 0 then
    let s1 := (l.foldl (fun (t : State) k => t.poisonTask f u k) s0).modEngine f u
      (fun e => { e with running := [] })
    let (k, s2) := s1.fresh
    l.foldl (fun (t : State) q => t.finishTask f u q stUnitFailed (Config.freeWord k q.serial).toNat 0) s2
  else s0.endRunning f u stCancelled code

/-- Reset an engine (R137, R619): its tasks end and its buffers clear. -/
def State.engineReset (s : State) (f u : Nat) : State :=
  ((s.resetRunning f u 0).cancelQueue f u 0xFD).engineClear f u

/-- Reset a crofter (R610, R619): its threads end and are counted, its registers clear. -/
def State.crofterReset (s : State) (f c : Nat) : State :=
  let fail : SheafFail := ⟨6, 0, f + 8 * 2 ^ 7 + c * 2 ^ 11⟩
  let s1 := ((s.liveThreads f).filter (fun t => t / 8 == c)).foldl
    (fun (x : State) t => x.cutThread f t (some fail) true) s
  (List.range 8).foldl (fun (x : State) i =>
    if (x.thread f (c * 8 + i)).st = .fenced then x else x.setThread f (c * 8 + i) freeThread) s1

/-! ### Field reset -/

/-- A launch whose threads a field reset takes away counts them as failed. -/
def State.dropLaunches (s : State) (f : Nat) (fail : SheafFail) : State :=
  let mine := s.crofters.launches.filter (fun l => decide (l.field = f))
  mine.foldl (fun (t : State) l =>
    if l.next < l.last then
      (t.failSheaf l.sheaf fail.status fail.sub fail.detail).modSheaf l.sheaf (fun x => { x with
        threadsLeft := x.threadsLeft - (l.last - l.next)
        threadsFailed := x.threadsFailed + (l.last - l.next)
        phase := if x.threadsLeft - (l.last - l.next) = 0 then .ending else x.phase })
    else t)
    { s with crofters := { s.crofters with
      launches := s.crofters.launches.filter (fun l => !decide (l.field = f)) } }

/-- Abort every waiter of a field's tallies (R159): waits return with ABORTED, chains complete
CANCELLED; TLY_ABORTS counts them. -/
def State.abortWaiters (s : State) (f : Nat) : State :=
  let here := fun (w : Waiter) => decide (w.tally / 4096 = f)
  let l := s.entries.filter here
  let words := l.map (fun w => (w, s.tallyWord w.tally))
  let s1 := (s.dropWaiters here).addSat RF.TLY_ABORTS_COUNT f 0 l.length
  words.foldl (fun (t : State) x => match x.1.kind with
    | .wait o => t.answerWait o (x.2 ||| abortedBit)
    | .chain desc _ _ parish => t.chainCancel f desc parish 0xFE
    | .arm => t) s1

/-- The registers of a field's pages that a field reset leaves: identity, clock and seam state, unit
names, the monitor, and the waiters aborted (R24, R223, R164). -/
def keptInFieldReset : Reg → Bool
  | .FLD_SPINE_ID => true
  | .FLD_CLK_STATUS => true
  | .FLD_SEAMn_STATE => true
  | .QRN_ID => true
  | .CRF_MON_STATUS => true
  | .LOM_ID => true
  | .TLY_ABORTS => true
  | _ => false

/-- Pages and instances that a field reset clears (R743, R753). -/
def fieldPages (f : Nat) : List (Page × Nat) :=
  [(.FLD_SPINE, f), (.FLD_COMMONS, f), (.FLD_IRQ, f), (.CRF, f), (.TLY, f), (.CRN, f), (.SCR, f),
    (.LOM, f), (.SIV, f * 2), (.SIV, f * 2 + 1)] ++ (List.range 9).map (fun q => (Page.QRN, f * 9 + q))

/-- The registers of a field take their reset values. -/
def State.fieldRegs (s : State) (f : Nat) : State :=
  s.resetRegs (fun k => !keptInFieldReset k.reg && (fieldPages f).any (fun p => onPage p.1 p.2 k))

/-- What a field reset clears (R89, R145, R159, R326, R446, R619): threads, tasks, tallies, SRAM, filters
and registers.  HBM, cairn tables, membership, retirement and fences stay. (Mark: DEDUCED, log 161.) -/
def State.fieldClear (s : State) (f : Nat) : State :=
  let (k, s0) := s.fresh
  let fail := fun (c : Nat) => (⟨6, 0, f + 8 * 2 ^ 7 + c * 2 ^ 11⟩ : SheafFail)
  let s1 := (s0.liveThreads f).foldl (fun (t : State) i => t.cutThread f i (some (fail (i / 8))) true) s0
  let s2 := s1.dropLaunches f (fail (Config.freeNat k 0 % 16))
  let s3 := fieldUnits.foldl (fun (t : State) u =>
    let x := if u = unitCairn then t.cairnRollback f else t
    let sus := (x.engine f u).suspects
    ((x.endRunning f u stCancelled 0xFE).cancelQueue f u 0xFE).finishAll f u stCancelled 0xFE sus) s2
  let s4 := (s3.abortWaiters f).endFills f s3.commons.fills.length
  let s5 := ((s4.clearSieve f 0).clearSieve f 1).cairnRollback f
  let keep := fun (t : Nat) => decide ((s5.thread f t).st = .fenced)
  let s6 := { s5 with
    mem := s5.mem.zeroRange (cellKey f 1 0) (2 ^ 42)
    engines := s5.engines.forget (f * 32) (f * 32 + 32)
    looms := s5.looms.forget f (f + 1)
    tallies := { s5.tallies with
      words := s5.tallies.words.forget (f * 4096) (f * 4096 + 4096)
      dup := s5.tallies.dup.forget (f * 80) (f * 80 + 80)
      peaks := s5.tallies.peaks.forget f (f + 1) }
    crofters := { s5.crofters with
      threads := s5.crofters.threads.filter (fun e => e.1 / 128 != f || keep (e.1 % 128))
      bells := s5.crofters.bells.forget f (f + 1) }
    verne := { s5.verne with filters := s5.verne.filters.forget (f * 2048) (f * 2048 + 2048) }
    commons := { s5.commons with sroInv := s5.commons.sroInv.filter (· != f) }
    resets := { s5.resets with
      crofters := s5.resets.crofters.filter (fun c => c.1 != f)
      crofterTimes := s5.resets.crofterTimes.forget (f * 16) (f * 16 + 16)
      recoveries := s5.resets.recoveries.map (fun (x : Recovery) => { x with
        engines := x.engines.filter (fun e => e.field != f) }) } }
  s6.fieldRegs f

/-- A field reset starts (R89, R619): the field is held in reset until it ends. (Mark: DEDUCED, log 161.) -/
def State.fieldReset (s : State) (f : Nat) : State :=
  if s.fieldMode f ≠ 0 then s
  else
    let s1 := { s with resets := { s.resets with fields := setInsert f s.resets.fields } }
    s1.fieldClear f

/-- Logical numbers of the enabled, unfenced querns of a field, in physical order (R223). -/
def State.renumberQuerns (s : State) (f : Nat) : State :=
  let l := (List.range 9).filter (fun q => s.flag RF.QRN_ID_ENABLED (f * 9 + q) 0 && !s.fenced f q)
  ((List.range l.length).foldl (fun (t : State) i =>
    t.setF RF.QRN_ID_LOGICAL (f * 9 + l.getD i 0) 0 i)
    ((List.range 9).foldl (fun (t : State) q => t.setF RF.QRN_ID_LOGICAL (f * 9 + q) 0 0xF) s))

/-- Enable a usable spare at a field reset, in place of a fenced quern (R24, R622). -/
def State.enableSpare (s : State) (f : Nat) : State :=
  let lost := (List.range 9).any (fun q => s.flag RF.QRN_ID_ENABLED (f * 9 + q) 0 && s.fenced f q)
  let spare := (List.range 9).find? (fun q => s.flag RF.QRN_ID_SPARE (f * 9 + q) 0 &&
    !s.flag RF.QRN_ID_ENABLED (f * 9 + q) 0 && !s.fenced f q)
  match lost, spare with
  | true, some q =>
    let s1 := (s.setFlag RF.QRN_ID_ENABLED (f * 9 + q) 0 true).setFlag
      RF.WFR_FLDf_STATUS_SPARE_IN_USE 0 f true
    let p : FieldPost :=
      { kind := 3, field := f, outcome := 0, cause := 0, loss := 0, cls := 0, unit := q,
        slot := 0x7F, inService := s1.fieldsInService, below := false, time := s1.fabricTime, seq := 0,
        parish := s1.parishOf f, signals := 0, chains := 0, others := 0 }
    s1.postDecision p
  | _, _ => s

/-- The end of a field's reset: spare and numbering, the completion updates held at the field, and the
staleness limit of its filters (R24, R145, R223, R446). -/
def State.fieldResetEnd (s : State) (f : Nat) : State :=
  let mine := s.tallies.heldAdds.filter (fun x => decide (x.1 / 4096 = f))
  let s1 := { s with
    resets := { s.resets with fields := s.resets.fields.filter (· != f) }
    tallies := { s.tallies with
      heldAdds := s.tallies.heldAdds.filter (fun x => !decide (x.1 / 4096 = f)) }
    verne := { s.verne with resetEnd := s.verne.resetEnd.put 0 f (s.fabricTime + 1) } }
  let s2 := (s1.enableSpare f).renumberQuerns f
  mine.foldl (fun (t : State) x => (t.tallyAdd x.1 1#64 x.2).1) s2

/-! ### Commanded resets -/

def engineUnit (f : Nat) (cls : EngineClass) (n : Nat) : Option Nat :=
  match cls with
  | .quern => if n < 9 then some n else none
  | .sieve => if n < 2 then some (unitSieve n) else none
  | .scree => if n = 0 then some unitScree else none
  | .cairn => if n = 0 then some unitCairn else none
  | .loom => if n = 0 ∧ f % 2 = 0 then some unitLoom else none

def classCode : EngineClass → Nat
  | .quern => 0
  | .sieve => 1
  | .scree => 2
  | .cairn => 3
  | .loom => 4

/-- Start a reset of scope 0–3 (R619). -/
def State.startReset (s : State) (scope target : Nat) : State :=
  let s0 := { s with resets := { s.resets with running := s.resets.running ++ [(scope, target, s.now)] } }
  match scope with
  | 0 =>
    let f := target / 32
    let u := target % 32
    ((s0.engineReset f u).countEngine f u).modEngine f u (fun e => { e with inReset := true })
  | 1 =>
    let f := target / 16
    let c := target % 16
    let s1 := (s0.crofterReset f c).countCrofter f c
    { s1 with resets := { s1.resets with crofters := s1.resets.crofters ++ [(f, c)] } }
  | 2 => (s0.countField target).fieldReset target
  | 3 =>
    let s1 := s0.parishCancel target
    ((maskList (s1.parishMask target) 80).filter s1.inService).foldl
      (fun (t : State) f => (t.countField f).fieldReset f) s1
  | _ => s0

/-- (Mark: DEDUCED, log 159.) -/
def State.resetCmdErr (s : State) : State := s.setFlag RF.WFR_RCV_RESET_CMD_ERR 0 0 true

/-- WFR_RCV_RESET.GO for a scope below the wafer (R617): a bad target, or a reset in progress, sets
CMD_ERR; a frozen or halted wafer starts it later (R630). (Mark: DEDUCED, log 159.) -/
def State.resetGo (s : State) (scope : Nat) (target : Option Nat) : State :=
  match target with
  | none => s.resetCmdErr
  | some k =>
    if s.flag RF.WFR_RCV_RESET_BUSY 0 0 || s.bistBusy then s.resetCmdErr
    else
      let s1 := s.setFlag RF.WFR_RCV_RESET_BUSY 0 0 true
      if s1.frozen || s1.halted then
        { s1 with resets := { s1.resets with waiting := s1.resets.waiting ++ [(scope, k)] } }
      else s1.startReset scope k

/-- The fields a write of WFR_RCV_RESET leaves. (Mark: DEDUCED, log 158.) -/
def State.resetWrite (s : State) (scope field cls unit parish : Nat) : State :=
  s.setF RF.WFR_RCV_RESET_SCOPE 0 0 scope |>.setF RF.WFR_RCV_RESET_FIELD 0 0 field
    |>.setF RF.WFR_RCV_RESET_CLASS 0 0 cls |>.setF RF.WFR_RCV_RESET_UNIT 0 0 unit
    |>.setF RF.WFR_RCV_RESET_PARISH 0 0 parish

/-- Start the resets that waited for a thaw or for RESUME (R630). (Mark: DEDUCED, log 158.) -/
def State.startWaiting (s : State) : State :=
  s.resets.waiting.foldl (fun (t : State) x => t.startReset x.1 x.2)
    { s with resets := { s.resets with waiting := [] } }

/-- RESET_ENGINE, R619; querns are named by physical number. -/
def execResetEngine (f : FieldId) (cls : EngineClass) (unit : BitVec 4) (s : State) : Out :=
  let s1 := s.resetWrite 0 f.val (classCode cls) unit.toNat (s.getF RF.WFR_RCV_RESET_PARISH 0 0)
  .next (s1.resetGo 0 (if s.inService f.val then
    (engineUnit f.val cls unit.toNat).map (unitKey f.val) else none))

/-- RESET_CROFTER, R619. -/
def execResetCrofter (f : FieldId) (c : CrofterId) (s : State) : Out :=
  let s1 := s.resetWrite 1 f.val (s.getF RF.WFR_RCV_RESET_CLASS 0 0) c.val
    (s.getF RF.WFR_RCV_RESET_PARISH 0 0)
  .next (s1.resetGo 1 (if s.inService f.val then some (f.val * 16 + c.val) else none))

/-- RESET_FIELD, R619. -/
def execResetField (f : FieldId) (s : State) : Out :=
  let s1 := s.resetWrite 2 f.val (s.getF RF.WFR_RCV_RESET_CLASS 0 0) (s.getF RF.WFR_RCV_RESET_UNIT 0 0)
    (s.getF RF.WFR_RCV_RESET_PARISH 0 0)
  .next (s1.resetGo 2 (if s.inService f.val then some f.val else none))

/-- RESET_PARISH, R619. -/
def execResetParish (p : ParishId) (s : State) : Out :=
  let s1 := s.resetWrite 3 (s.getF RF.WFR_RCV_RESET_FIELD 0 0) (s.getF RF.WFR_RCV_RESET_CLASS 0 0)
    (s.getF RF.WFR_RCV_RESET_UNIT 0 0) p.val
  .next (s1.resetGo 3 (some p.val))

/-! ### Replay -/

/-- The span of addresses a stream of a RUN covers (R612): its lowest and highest byte. -/
def streamSpan (p : List Byte) (d : List Byte) (i : Nat) : Nat × Nat :=
  let e := pbStream p i
  let its := [sIterBase d, sIterBase d + (sIterCount d - 1)]
  let bytes := (stLen e + 1) * elemBytes (stFmt e)
  let starts := its.flatMap (fun j => [0, stRows e].map (fun r => streamAddr e j 0 r 0))
  let lo := starts.foldl min (starts.headD 0)
  let hi := starts.foldl max 0
  (lo, hi + bytes + stTileStride e * (ceilDiv (stLen e + 1) 32 - 1))

/-- Does a store stream of a RUN meet a load stream (R612)? -/
def runInPlace (p d : List Byte) : Bool :=
  let l := (List.range (pbStreams p)).map (fun i => (stStore (pbStream p i), streamSpan p d i))
  (l.filter (·.1)).any (fun a => (l.filter (fun b => !b.1)).any (fun b =>
    decide (a.2.1 < b.2.2) && decide (b.2.1 < a.2.2)))

/-- Is a suspect replayable (R612)? -/
def State.replayable (s : State) (f u : Nat) (t : EngTask) : Bool :=
  let wrote := !t.outputs.isEmpty
  if u ≤ 8 then !(qAccum t.desc && wrote)
  else if u = 16 ∨ u = 17 then
    match (s.sieve f (u - 16)).ctxs.find? (fun c => c.task == t.serial) with
    | some c => !(descOpcode t.desc == 1 && wrote && runInPlace c.params t.desc)
    | none => true
  else if u = unitScree then !(descOpcode t.desc == 4 && !scInit t.desc && wrote)
  else if u = unitCairn then descOpcode t.desc != 4
  else true

/-- The task as it goes back to its checkpoint: a quern, sieve or scree task, and a task of any unit
whose outcome is not yet decided, starts again. -/
def rewound (u : Nat) (t : EngTask) : EngTask :=
  if u = unitLoom ∨ (u = unitCairn ∧ t.status.isSome) then t
  else { t with start := none, outputs := [], status := none, detail := 0, nonfinite := false }

/-- Steps 1 and 2 of R614 on one stalled engine. -/
def State.stallReset (s : State) (f u : Nat) : State :=
  let l := (s.engine f u).running
  let good := l.filter (fun t => s.replayable f u t)
  let bad := l.filter (fun t => !s.replayable f u t)
  let s0 := if u = unitCairn then s.cairnRollback f else s
  let s1 := s0.modEngine f u (fun e => { e with
    running := [], suspects := good.map (rewound u), replaying := true })
  let s2 := bad.foldl (fun (t : State) k =>
    (((t.poisonTask f u k).finishTask f u k stCancelled 0xFC 0)).addWrap
      RF.WFR_RCV_COUNTS_UNREPLAYED 0 0 1) s1
  let s3 := s2.cancelQueue f u 0xFD
  let s4 := if u = 16 ∨ u = 17 then s3.clearSieve f (u - 16) else s3
  s4.countEngine f u

/-- Is a unit stalled (R609)?  The scan reports what it saw; a task must run, and no command may have
moved it on since. -/
def State.stalled (s : State) (f u : Nat) : Bool :=
  let e := s.engine f u
  s.unitRuns f u && !e.running.isEmpty && !e.replaying &&
    decide (s.getF RF.WFR_RCV_STALL_STALL 0 0 * 100000 ≤ s.now - e.lastProgress)

/-- Has a crofter a READY thread? -/
def State.crofterReady (s : State) (f c : Nat) : Bool :=
  s.fieldRuns f && !s.resets.crofters.contains (f, c) &&
    (List.range 8).any (fun i => decide ((s.thread f (c * 8 + i)).st = .ready))

/-- The sheaves a software hang ends (R610). -/
def State.hangSheaves (s : State) (h : Hang) : List Nat :=
  if h.mode = 0 then [h.sheaf]
  else (s.seq.sheaves.filter (fun x =>
    (s.sheafThreads x.serial).any (fun t => decide (t.1 = h.field)))).map (·.serial)

/-- Record the state of the recovery of the captured hang. -/
def State.hangState (s : State) (h : Hang) (st left : Nat) : State :=
  if s.flag RF.WFR_RCV_HANG_VALID 0 0 && decide (s.getF RF.WFR_RCV_HANG_FIELD 0 0 = h.field) &&
      decide (s.getF RF.WFR_RCV_HANG_PARISH 0 0 = h.parish) then
    s.setF RF.WFR_RCV_HANG_STATE 0 0 st |>.setF RF.WFR_RCV_HANG_SUSPECTS 0 0 (min left 15)
  else s

/-- Suspects of a recovery still to be treated. -/
def State.suspectsLeft (s : State) (x : Recovery) : Nat :=
  x.engines.foldl (fun n e => n + (s.engine e.field e.unit).suspects.length +
    (if e.current.isSome then 1 else 0)) 0

/-- The end of a recovery (R614, R623, R634): timers restart, and what waited for it is decided.
(Mark: DEDUCED, log 165.) -/
def State.endRecovery (s : State) (x : Recovery) : State :=
  let restart := if x.hang.mode = 0 then setInsert x.hang.sheaf x.timers else x.timers
  let s1 := { s with resets := { s.resets with
    recoveries := s.resets.recoveries.filter (fun r => decide (r.hang ≠ x.hang))
    hung := s.resets.hung.filter (fun n => !(x.hang.mode == 0 && n == x.hang.sheaf)) } }
  let s2 := restart.foldl (fun (t : State) n => t.modSheaf n (fun y => { y with timerBase := s.now })) s1
  let s3 := s2.hangState x.hang 4 0
  let s4 := x.engines.foldl (fun (t : State) e => t.escalateEngine e.field e.unit) s3
  s4.runDeferred

/-- End the recoveries whose engines have all left them, by a reset or the loss of their field. -/
def State.pruneRecoveries (s : State) : State :=
  (s.resets.recoveries.filter (fun x => x.engines.isEmpty)).foldl (fun (t : State) x => t.endRecovery x) s

/-- Which hang a recovery takes up (R610, R631): the first one permitted whose fields no recovery
holds. -/
def State.hangFields (s : State) (h : Hang) : List Nat :=
  if h.mode = 0 then
    match s.sheaf? h.sheaf with
    | some x => (maskList x.fieldSet 80).filter s.inService
    | none => []
  else [h.field]

def State.nextHang (s : State) : Option Hang :=
  s.resets.hangs.find? (fun h => h.go && (s.hangFields h).all (fun f => !s.inRecovery f))

/-- RECOVERY_START, R610: the scan of the hang's scope and its attribution.  `engines` and `crofters` are
the units that made no progress for WFR_RCV_STALL as the scan finds them. (Mark: DEDUCED, log 163.) -/
def execRecoveryStart (engines : List (FieldId × Fin 32)) (crofters : List (FieldId × CrofterId))
    (s00 : State) : Out :=
  let s := s00.pruneRecoveries
  match s.nextHang with
  | none => .next s
  | some h =>
    if s.frozen || s.halted || decide (16 ≤ s.resets.recoveries.length) then .next s
    else
      let fields := s.hangFields h
      let s1 := { s with resets := { s.resets with hangs := s.resets.hangs.erase h } }
      let s2 := s1.addWrap RF.WFR_RCV_COUNTS_RECOVERIES 0 0 1
      let hit := (engines.map (fun e => (e.1.val, e.2.val))).dedup.filter (fun e =>
        decide (e.1 ∈ fields) && s.stalled e.1 e.2)
      let stuck := (crofters.map (fun c => (c.1.val, c.2.val))).dedup.filter (fun c =>
        decide (c.1 ∈ fields) && s.crofterReady c.1 c.2)
      if !hit.isEmpty then
        let s3 := hit.foldl (fun (t : State) e => t.stallReset e.1 e.2) s2
        let x : Recovery := ⟨h, fields, hit.map (fun e => ⟨e.1, e.2, none, 0, none, none⟩), []⟩
        let s4 := { s3 with resets := { s3.resets with recoveries := s3.resets.recoveries ++ [x] } }
        .next (s4.hangState h 2 (s4.suspectsLeft x))
      else if !stuck.isEmpty then
        let s3 := stuck.foldl (fun (t : State) c =>
          ((t.crofterReset c.1 c.2).countCrofter c.1 c.2).escalateCrofter c.1 c.2) s2
        .next (s3.endRecovery ⟨h, fields, [], []⟩)
      else
        let fail : SheafFail := ⟨5, 0, h.field + 9 * 2 ^ 7⟩
        let s3 := (s2.hangSheaves h).foldl (fun (t : State) n => t.endSheaf n fail) s2
        .next (s3.endRecovery ⟨h, fields, [], []⟩)

/-- The recovery that treats a unit, with the unit's replay. -/
def State.replayOf (s : State) (f u : Nat) : Option (Recovery × Replay) :=
  s.resets.recoveries.findSome? (fun x =>
    (x.engines.find? (fun e => e.field == f && e.unit == u)).map (fun e => (x, e)))

def State.setReplay (s : State) (r : Replay) : State :=
  { s with resets := { s.resets with
      recoveries := s.resets.recoveries.map (fun (x : Recovery) => { x with
        engines := x.engines.map (fun e => if e.field = r.field ∧ e.unit = r.unit then r else e) }) } }

/-- Step 6 of R614: an engine without suspects accepts tasks again; with its last engine the recovery
ends. -/
def State.replayNext (s : State) (f u : Nat) : State :=
  match s.replayOf f u with
  | none => s
  | some (x, e) =>
    let left := s.suspectsLeft x
    if (s.engine f u).suspects.isEmpty && e.current.isNone then
      let s1 := s.modEngine f u (fun y => { y with replaying := false })
      if x.engines.all (fun y => !(s1.engine y.field y.unit).replaying) then s1.endRecovery x
      else s1.hangState x.hang 3 left
    else s.hangState x.hang 3 left

/-- The key of a task's recorded step time. -/
def stepKey (u : Nat) (t : EngTask) : Nat :=
  if u = unitLoom then pipeKey (descOpcode t.desc == 3) else descOpcode t.desc

def State.pipeJob (s : State) (f : Nat) (serial : Nat) : Option LoomJob :=
  match (s.loom f).dec, (s.loom f).enc with
  | some j, e => if j.task = serial then some j else (match e with
    | some k => if k.task = serial then some k else none
    | none => none)
  | none, some k => if k.task = serial then some k else none
  | none, none => none

/-- SUSPECT_REPLAY_START, R614 step 3: the next suspect goes back to its checkpoint, alone on the
engine. (Mark: DEDUCED, log 164.) -/
def execSuspectReplayStart (f : FieldId) (u : Fin 32) (s : State) : Out :=
  match s.replayOf f.val u.val with
  | none => .next s
  | some (_, r) =>
    let e := s.engine f.val u.val
    if r.current.isSome || !e.running.isEmpty || !e.queue.isEmpty || !s.fieldRuns f.val then .next s
    else
      match e.suspects with
      | [] => .next (s.replayNext f.val u.val)
      | t :: rest =>
        let back := decide (u.val = unitLoom) || t.status.isSome
        let s1 := s.setEngine f.val u.val { e with
          suspects := rest
          running := if back then [t] else []
          queue := if back then [] else [t]
          lastProgress := s.now }
        let s2 := s1.setReplay { r with
          current := some t.serial, since := s.now
          step := if NMap.look e.stepTimes 0 (stepKey u.val t) = 0 then none
            else some (NMap.look e.stepTimes 0 (stepKey u.val t))
          mark := s.pipeJob f.val t.serial }
        .next (match t.sheaf with
          | some n => (s2.modSheaf n (fun y => { y with replayed := true })).replayNext f.val u.val
          | none => s2.replayNext f.val u.val)

/-- Has the suspect reached its checkpoint (R613): completion, or for a loom also its next commit?
(Mark: DEDUCED, log 95.) -/
def State.atCheckpoint (s : State) (f u serial : Nat) (mark : Option LoomJob) : Bool :=
  let e := s.engine f u
  !(e.running ++ e.queue).any (fun t => t.serial == serial) ||
    (decide (u = unitLoom) && decide (s.pipeJob f serial ≠ mark))

/-- SUSPECT_CHECKPOINT, R614 step 4: the suspect is innocent. (Mark: DEDUCED, log 95.) -/
def execSuspectCheckpoint (f : FieldId) (u : Fin 32) (s : State) : Out :=
  match s.replayOf f.val u.val with
  | none => .next s
  | some (_, r) =>
    match r.current with
    | none => .next s
    | some n =>
      if s.atCheckpoint f.val u.val n r.mark then
        let s1 := (s.addWrap RF.WFR_RCV_COUNTS_INNOCENT 0 0 1).setReplay { r with current := none }
        .next (s1.replayNext f.val u.val)
      else .next s

/-- Has a replay passed its bound (R613)?  `cycles` are its mill cycles. -/
def State.overBound (s : State) (r : Replay) (cycles : Nat) : Bool :=
  match r.step with
  | none => decide (50000000 < s.now - r.since)
  | some n => decide (4 * n < cycles) && decide (1000000 < s.now - r.since)

/-- REPLAY_BOUND_EXPIRE, R614 step 5: the suspect is guilty. (Mark: DEDUCED, log 164.) -/
def execReplayBoundExpire (f : FieldId) (u : Fin 32) (cycles : Nat) (s : State) : Out :=
  match s.replayOf f.val u.val with
  | none => .next s
  | some (_, r) =>
    match r.current with
    | none => .next s
    | some n =>
      let e := s.engine f.val u.val
      match (e.running ++ e.queue).find? (fun t => t.serial == n) with
      | none => .next s
      | some t =>
        if !s.overBound r cycles || s.atCheckpoint f.val u.val n r.mark then .next s
        else
          let (cls, k) := s.unitName f.val u.val
          let s0 := (s.poisonTask f.val u.val t).modEngine f.val u.val (fun y => { y with
            running := [], queue := [] })
          let s1 := s0.setReplay { r with current := none }
          let s2 := (s1.finishTask f.val u.val t stCancelled 0 0).engineClear f.val u.val
          let s3 := (s2.addWrap RF.WFR_RCV_COUNTS_GUILTY 0 0 1).raise RF.WFR_RCV_EVENT_GUILTY 0
          let s4 := match t.sheaf with
            | some m => s3.endSheaf m ⟨5, 0, f.val + cls * 2 ^ 7 + k * 2 ^ 11⟩
            | none => s3
          .next (s4.replayNext f.val u.val)

/-! ### Detection -/

/-- Declare a hang (R608): it is captured, the event is raised, and AUTO lets its recovery start. -/
def State.declareHang (s : State) (mode parish field sheaf : Nat) : State :=
  let id := s.sheafIdOf (if mode = 0 then some sheaf else none)
  let s1 := s.capture RF.WFR_RCV_HANG_VALID RF.WFR_RCV_HANG_MORE 0 fun t =>
    let t1 := t.setF RF.WFR_RCV_HANG_MODE 0 0 mode |>.setF RF.WFR_RCV_HANG_PARISH 0 0 parish
      |>.setF RF.WFR_RCV_HANG_FIELD 0 0 field |>.setF RF.WFR_RCV_HANG_STATE 0 0 0
      |>.setF RF.WFR_RCV_HANG_SUSPECTS 0 0 0
    t1.wr .WFR_RCV_HANG_SHEAF 0 0 (BitVec.ofNat 64 (if mode = 0 then id else 0))
  let h : Hang := ⟨mode, parish, field, sheaf, (s.getF RF.WFR_RCV_CTL_AUTO 0 0).testBit parish⟩
  let s2 := s1.raise RF.WFR_RCV_EVENT_HANG 0
  { s2 with resets := { s2.resets with hangs := s2.resets.hangs ++ [h] } }

/-- The timeout of a sheaf in ns (R606). -/
def State.sheafTimeout (s : State) (x : Sheaf) : Nat :=
  (if x.timeoutMs = 0 then s.getF RF.WFR_PAR_CTL_DEFAULT_TIMEOUT_MS x.parish 0 else x.timeoutMs) * 1000000

/-- Does a recovery replay work of the sheaf under another declaration (R634)? -/
def State.replays (s : State) (x : Recovery) (serial : Nat) : Bool :=
  (x.hang.mode != 0 || x.hang.sheaf != serial) &&
    x.engines.any (fun e =>
      ((s.engine e.field e.unit).suspects ++ (s.engine e.field e.unit).running ++
        (s.engine e.field e.unit).queue).any (fun t => decide (t.sheaf = some serial)))

/-- SHEAF_TIMEOUT, R606. (Mark: DEDUCED, log 165.) -/
def execSheafTimeout (serial : Nat) (s0 : State) : Out :=
  let s := s0.pruneRecoveries
  match s.sheaf? serial with
  | none => .next s
  | some x =>
    if decide (x.phase ≠ .dispatched) || s.flag RF.WFR_PAR_CTL_HANG_MODE x.parish 0 ||
        decide (s.now - x.timerBase < s.sheafTimeout x) || s.resets.hung.contains serial ||
        s.frozen || s.halted then .next s
    else if s.resets.recoveries.any (fun r => s.replays r serial) then
      .next { s with resets := { s.resets with
        recoveries := s.resets.recoveries.map (fun (r : Recovery) =>
          if s.replays r serial then { r with timers := setInsert serial r.timers } else r) } }
    else
      let f := ((maskList x.fieldSet 80).head?).getD 0
      let s1 := s.declareHang 0 x.parish f serial
      .next { s1 with resets := { s1.resets with hung := setInsert serial s1.resets.hung } }

/-- Is a bell hang of the field declared and not yet recovered? -/
def State.bellPending (s : State) (f : Nat) : Bool :=
  s.resets.hangs.any (fun h => decide (h.mode = 1 ∧ h.field = f)) ||
    s.resets.recoveries.any (fun r => decide (r.hang.mode = 1 ∧ r.hang.field = f))

/-- BELL_INTERVAL_END, R607: a missed interval counts, and the third in a row declares a hang. -/
def execBellIntervalEnd (f : FieldId) (s0 : State) : Out :=
  let s := s0.pruneRecoveries
  match s.parishOf f.val with
  | none => .next s
  | some p =>
    if !s.parishOn p.val || !s.flag RF.WFR_PAR_CTL_HANG_MODE p.val 0 || !s.inService f.val ||
        s.frozen || s.halted || s.bellPending f.val then .next s
    else
      let b := s.crofters.bells.look quietBell f.val
      let running := (s.liveThreads f.val).any (fun _ => true)
      let missed := if !b.gap && !b.rang then b.missed + 1 else 0
      let next : Bell := ⟨false, running, !running, if missed = 3 then 0 else missed⟩
      let s1 := s.modBell f.val (fun _ => next)
      .next (if missed = 3 then s1.declareHang 1 p.val f.val 0 else s1)

/-- RECOVERY_GO, R608: the captured hang may be recovered. (Mark: DEDUCED, log 163.) -/
def State.recoveryGo (s : State) : State :=
  let rec go : List Hang → List Hang
    | [] => []
    | h :: r => if h.go then h :: go r else { h with go := true } :: r
  { s with resets := { s.resets with hangs := go s.resets.hangs } }

def execRecoveryGo (s : State) : Out := .next s.recoveryGo

/-! ### Unit failure -/

/-- Note the failed unit against the sheaves whose threads issued the tasks (R616).
(Mark: DEDUCED, log 166.) -/
def State.noteUnitFault (s : State) (f u : Nat) (l : List EngTask) : State :=
  let (cls, k) := s.unitName f u
  l.foldl (fun (t : State) x => match x.sheaf with
    | some n => t.modSheaf n (fun y => { y with
        unitFault := some (y.unitFault.getD ⟨6, 0, f + cls * 2 ^ 7 + k * 2 ^ 11⟩) })
    | none => t) s

/-- An engine fails (R248, R281, R348, R384, R616): running tasks end UNIT_FAILED with their outputs
poisoned, queued ones are cancelled, and the engine is fenced. (Mark: DEDUCED, log 166.) -/
def State.engineFault (s : State) (f u : Nat) : State :=
  let e := s.engine f u
  let s0 := if u = unitCairn then s.cairnRollback f else s
  let hit := e.running ++ e.suspects
  let s1 := (s0.noteUnitFault f u (hit ++ e.queue)).modEngine f u (fun y => { y with
    running := [], suspects := [], replaying := false })
  let s2 := hit.foldl (fun (t : State) k => t.poisonTask f u k) s1
  let (k, s3) := s2.fresh
  let s4 := ((hit.foldl (fun (t : State) q =>
    t.finishTask f u q stUnitFailed (Config.freeWord k q.serial).toNat 0) s3).cancelQueue f u 0xFD).engineClear f u
  let s5 := match s4.replayOf f u with
    | some (_, r) => (s4.setReplay { r with current := none }).replayNext f u
    | none => s4
  s5.takeDecision (.fence f u)

/-- UNIT_FAULT, R616. -/
def execUnitFault (f : FieldId) (x : FaultUnit) (s : State) : Out :=
  if !s.inService f.val then .next s
  else
    match x with
    | .crofter c => .next ((s.crofterReset f.val c.val).takeDecision (.fenceCrofter f.val c.val))
    | .engine cls n =>
      match engineUnit f.val cls n.toNat with
      | none => .next s
      | some u => if s.fenced f.val u then .next s else .next (s.engineFault f.val u)

end Sys2Proof.Machine
end

