-- ==== Sys2Proof/Machine/Host.lean ====
section
/-! DEFINITION. The host port H0 (R495–R520): readiness, configuration, resets of functions, DMA queues,
host tags, and MSI-X masks. -/

namespace Sys2Proof.Machine

def State.modHost (s : State) (g : HostPort → HostPort) : State := { s with host := g s.host }

/-- The source of a function's commons accesses (R69, R70, R507). -/
def State.fnSource (s : State) (fn : Nat) : Source :=
  ⟨Fin.ofNat 16 s.ownWafer, none, if fn = 0 then none else some (Fin.ofNat 32 (fn - 1)), true, 0⟩

/-! ### Readiness and resets of functions -/

/-- HST_PORT_H0.UP changes (R520). (Mark: DEDUCED, log 135.) -/
def State.h0Up (s : State) (up : Bool) : State :=
  if s.flag RF.HST_PORT_H0_UP 0 0 = up then s
  else
    let s1 := (s.setFlag RF.HST_PORT_H0_UP 0 0 up).raise RF.HST_PORT_EVENT_H0_LINK 0
    if up then s1 else s1.addSat RF.HST_PORT_H0_DOWNS 0 0 1

/-- The ring registers of a parish (R172). -/
def ringReg : Reg → Bool
  | .WFR_RINGr_SQ_BASE => true
  | .WFR_RINGr_RQ_BASE => true
  | .WFR_RINGr_CTL => true
  | .WFR_RINGr_SQ_PTR => true
  | .WFR_RINGr_RQ_PTR => true
  | .WFR_RINGr_STAT => true
  | _ => false

/-- The reset of a function's own registers, queues and vectors (R499): running descriptors end with no
DONE write. -/
def State.fnReset (s : State) (fn : Nat) : State :=
  let mine := fun (k : Nat) => decide (k / 2048 = fn)
  let s1 := s.modHost (fun h => { h with
    dma := h.dma.forget (fn * 2) (fn * 2 + 2)
    doorbells := h.doorbells.forget (2 ^ 16 + fn * 2) (2 ^ 16 + fn * 2 + 2)
    tags := h.tags.filter (fun t => t.fn != fn)
    reads := h.reads.filter (fun r => r.fn != fn)
    config := h.config.forget (fn * 4) (fn * 4 + 4)
    ats := h.ats.filter (· != fn)
    msixTable := h.msixTable.forget (fn * 2048) (fn * 2048 + 2048)
    msixOpen := h.msixOpen.filter (fun k => !mine k)
    msixPending := h.msixPending.filter (fun k => !mine k)
    msixFnMask := h.msixFnMask.filter (· != fn) })
  s1.resetPage .HST_FN fn

/-- The pages WFR_PARISH and WFR_SRO of a parish take their reset values at an FLR of its function; the
field set, ENABLE and a cancel in progress stay (R172, R499, R743, R753). (Mark: DEDUCED, log 137.) -/
def State.parishPages (s : State) (p : Nat) : State :=
  let on := bits (s.rd .WFR_PAR_CTL p 0) 0 1
  let s1 := s.resetRegs (fun k => (ringReg k.reg && decide (k.inst.val = p)) ||
    onPage .WFR_SRO p k || (k.reg.info.page.isNone && decide (k.inst.val = hdrInst .WFR_PARISH p)))
  let s2 := (s1.wr .WFR_PAR_CTL p 0 (RKey.reset (rkey .WFR_PAR_CTL p 0))).setF RF.WFR_PAR_CTL_ENABLE p 0 on
  { s2 with commons := { s2.commons with
    sroCopy := s2.commons.sroCopy.filter (· != p)
    sroOld := s2.commons.sroOld.forget (p * 32) (p * 32 + 32) } }

/-- A VF function-level reset (R172): the cancel of its parish without receipts, and its parish and
function pages reset. (Marks: DEDUCED, log 136; DEDUCED, log 137.) -/
def State.vfFlr (s : State) (p : Nat) : State :=
  let mine := s.seq.sheaves.filter (fun x => decide (x.parish = p))
  let s1 := mine.foldl (fun (t : State) x => t.endSheaf x.serial failCancelled) s
  let s2 := s1.cancelTasks 0xFA (fun t => match t.parish with
    | some q => decide (q.val = p)
    | none => false)
  let s3 := { s2 with seq := { s2.seq with
    sheaves := s2.seq.sheaves.filter (fun x => !decide (x.parish = p))
    doorbells := s2.seq.doorbells.filter (fun d => d.1 != p)
    disabling := s2.seq.disabling.filter (fun k => !decide (k / 64 = p)) } }
  let s4 := s3.parishPages p
  let s5 := s4.modHost (fun h => { h with doorbells := h.doorbells.forget (p * 64) (p * 64 + 64) })
  let ms := mine.filterMap (fun x => if x.handle = 0 then none else s.musterOf p x.handle)
  ms.dedup.foldl (fun (t : State) m => t.abortSend m 0x0B) (s5.fnReset (p + 1))

/-- The effects of a PF function-level reset (R499). (Mark: DEDUCED, log 128.) -/
def State.pfFlr (s : State) : State :=
  (((List.range 32).foldl (fun (t : State) p => t.vfFlr p) s).modHost (fun h => { h with
    vfEnable := false })).fnReset 0

/-- H0 resets as a whole (R499): as a PF FLR, and it answers CRS until it is ready.
(Mark: DEDUCED, log 128.) -/
def State.h0Reset (s : State) : State :=
  (s.pfFlr.modHost (fun h => { h with ready := false, flr := [], held := [] })).h0Up false

/-- VF_FLR, R172. -/
def execVfFlr (p : ParishId) (s : State) : Out :=
  if !s.host.ready || !s.fnOn (p.val + 1) then .next s
  else .next ((s.vfFlr p.val).modHost (fun h => { h with flr := setInsert (p.val + 1) h.flr }))

/-- PF_FLR, R499. -/
def execPfFlr (s : State) : Out :=
  if !s.host.ready then .next s
  else .next (s.pfFlr.modHost (fun h => { h with flr := setInsertRange 0 33 h.flr }))

/-- FLR_COMPLETE, R499. -/
def execFlrComplete (fn : FnId) (s : State) : Out :=
  .next (s.modHost (fun h => { h with flr := h.flr.filter (· != fn.val) }))

/-- PERST_DEASSERT, R723. (Mark: DESIGN CHOICE, log 13.) -/
def execPerstDeassert (s : State) : Out := .next { s with boot := { s.boot with perst := false } }

/-- PERST_ASSERT, R499: PERST_N, or a hot reset, which is over at once. -/
def execPerstAssert (hot : Bool) (s : State) : Out :=
  let s1 := s.h0Reset
  .next (if hot then s1 else { s1 with boot := { s1.boot with perst := true } })

/-- H0_LINK_DOWN, R499. -/
def execH0LinkDown (s : State) : Out := .next s.h0Reset

/-- Has bridge `b` an attachment that is no hole (R53)? -/
def State.bridgeAlive (s : State) (b : Nat) : Bool :=
  (List.range 80).any (fun f => (List.range 4).any (fun n =>
    decide (bridgeAt f n = some b) && decide (s.fieldMode f ≠ 2)))

/-- May H0 become ready (R526, R723)? -/
def State.h0MayStart (s : State) : Bool :=
  !s.boot.perst && decide (s.boot.stage ≠ .off) && decide (s.boot.stage ≠ .hearth) &&
    !s.power.asleep && s.bridgeAlive 7

/-- A field of the boot status record (R725). -/
def bootF (lo w : Nat) : RF := ⟨.WFR_BOOT_STATUS, lo, w⟩

/-- A word of the boot status record as it reads (R725): word 0 follows OUT_OF_SERVICE, and in service the
fields in service. -/
def State.bootWord (s : State) (w : Nat) : Word :=
  let v := s.rd .WFR_BOOT_STATUS 0 w
  if w = 0 then
    let v1 := putBits v 14 1 (s.getF RF.RVE_LIFECYCLE_OUT_OF_SERVICE 0 0)
    if s.boot.stage = .ready then putBits v1 24 7 s.fieldsInService else v1
  else v

/-- A quotient whose rounding the spec leaves open: down or up. (Mark: DESIGN CHOICE, log 23.) -/
def roundOpen (k i n d : Nat) : Nat :=
  if n % d = 0 then n / d else n / d + b2n (Config.freeBool k i)

/-- Milliseconds since a time, rounded as the spec leaves open. (Mark: DESIGN CHOICE, log 23.) -/
def State.msSince (s : State) (t : Nat) : Nat × State :=
  let (k, s1) := s.fresh
  (roundOpen k 0 (s.now - t) 1000000, s1)

/-- H0_READY, R723: H0 serves requests; its link is up at the width and speed given, and the boot
status record takes the time (R725). -/
def execH0Ready (width : Fin 4) (speed : Fin 6) (s : State) : Out :=
  if !s.h0MayStart || s.host.ready then .next s
  else
    let s1 := s.modHost (fun h => { h with ready := true })
    let s2 := s1.setF RF.HST_PORT_H0_WIDTH 0 0 (2 ^ width.val)
      |>.setF RF.HST_PORT_H0_SPEED 0 0 (speed.val + 1)
      |>.setFlag RF.HST_PORT_H0_FLIT 0 0 (decide (speed.val = 5))
    let (ms, s3) := s2.msSince s2.boot.t0
    let s4 := if s3.getF (bootF 16 16) 0 3 = 0 then s3.setF (bootF 16 16) 0 3 (min 0xFFFF ms) else s3
    .next (s4.h0Up true)

/-! ### Configuration -/

/-- What a configuration register reads (R496, R502); the rest of PCIe configuration space is open.
(Mark: PRESUMED, log 127.) -/
def State.cfgRead (s : State) (fn : Nat) (r : CfgReg) : Word :=
  let n := match r with
    | .classCode => 0x120000
    | .totalVfs => 32
    | .firstVfOffset => 1
    | .vfStride => 1
    | .vfEnable => b2n s.host.vfEnable
    | .numVfs => s.host.numVfs
    | .memEnable => s.host.config.look 0 (fn * 4)
    | .vfMemEnable => s.host.config.look 0 (fn * 4 + 1)
    | .powerState => s.host.config.look 0 (fn * 4 + 2)
    | .ats => b2n (s.host.ats.contains fn)
    | .msixMask => b2n (s.host.msixFnMask.contains fn)
    | .bar2Size vf => if vf then s.host.bar2Vf else s.host.bar2Pf
    | .other _ => (Config.freeWord s.serial 0).toNat % 2 ^ 32
  BitVec.ofNat 64 n

/-- Send the pending messages of the entries that are masked no more (R510). -/
def State.msixFlush (s : State) (p : Nat → Bool) : State :=
  let l := s.host.msixPending.filter (fun k => p k && s.host.msixOpen.contains k &&
    !s.host.msixFnMask.contains (k / 2048))
  let s1 := s.modHost (fun h => { h with msixPending := h.msixPending.filter (fun k => !l.contains k) })
  l.foldl (fun (t : State) k => t.send (t.msixMsg k)) s1

/-- (Mark: PRESUMED, log 127.) -/
def State.cfgWrite (s : State) (fn : Nat) (r : CfgReg) (v : Nat) : State :=
  let pf := decide (fn = 0)
  match r with
  | .vfEnable => if pf then s.modHost (fun h => { h with vfEnable := decide (v % 2 = 1) }) else s
  | .numVfs => if pf && !s.host.vfEnable && decide (v ≤ 32) then
      s.modHost (fun h => { h with numVfs := v }) else s
  | .memEnable => s.modHost (fun h => { h with config := h.config.put 0 (fn * 4) (v % 2) })
  | .vfMemEnable => if pf then s.modHost (fun h => { h with
      config := h.config.put 0 (fn * 4 + 1) (v % 2) }) else s
  | .powerState => if v % 4 = 0 ∨ v % 4 = 3 then s.modHost (fun h => { h with
      config := h.config.put 0 (fn * 4 + 2) (v % 4) }) else s
  | .ats => s.modHost (fun h => { h with
      ats := if v % 2 = 1 then setInsert fn h.ats else h.ats.filter (· != fn) })
  | .msixMask =>
    let s1 := s.modHost (fun h => { h with
      msixFnMask := if v % 2 = 1 then setInsert fn h.msixFnMask else h.msixFnMask.filter (· != fn) })
    s1.msixFlush (fun k => decide (k / 2048 = fn))
  | .bar2Size vf =>
    if !pf || decide (v < 28) || decide (36 < v) ||
        decide (s.host.config.look 0 (if vf then 1 else 0) = 1) then s
    else s.modHost (fun h => if vf then { h with bar2Vf := v } else { h with bar2Pf := v })
  | _ => s

/-- H0_CONFIG_REQUEST, R497: before H0 is ready it answers with Configuration Request Retry Status. -/
def execH0ConfigRequest (fn : FnId) (reg : CfgReg) (write : Option (BitVec 32)) (s : State) : Out :=
  if !s.host.ready then .next (s.send (.cfgReply 2 0#64))
  else if !s.fnOn fn.val then .next (s.send (.cfgReply 1 0#64))
  else
    match write with
    | none =>
      let v := s.cfgRead fn.val reg
      .next (({ s with serial := s.serial + 1 }).send (.cfgReply 0 v))
    | some v => .next ((s.cfgWrite fn.val reg v.toNat).send (.cfgReply 0 0#64))

/-- ATS_INVALIDATE_REQUEST, R496: every use of the translation in flight has been issued, so the
invalidation is honoured at once. -/
def execAtsInvalidateRequest (fn : FnId) (s : State) : Out :=
  if s.host.ready && s.fnOn fn.val && s.host.ats.contains fn.val then .next (s.send (.atsDone fn))
  else .next s

/-- MSIX_UNMASK, R510: a write of an entry's mask bit; unmasking sends its pending message. -/
def execMsixUnmask (fn : FnId) (entry : Fin 64) (mask : Bool) (s : State) : Out :=
  let k := fn.val * 2048 + entry.val
  if !s.host.ready || !s.fnOn fn.val || decide (msixEntries fn.val ≤ entry.val) then .next s
  else if mask then .next (s.modHost (fun h => { h with msixOpen := h.msixOpen.filter (· != k) }))
  else .next ((s.modHost (fun h => { h with msixOpen := setInsert k h.msixOpen })).msixFlush (· == k))

/-! ### DMA queues -/

def dHost (d : List Byte) : Nat := leField d 0 8
def dCommons (d : List Byte) : Nat := bitField d 64 57
def dLength (d : List Byte) : Nat := leField d 16 4 + 1
def dOut (d : List Byte) : Bool := bitField d 160 1 == 1
def dIrq (d : List Byte) : Bool := bitField d 161 1 == 1
def dCtEn (d : List Byte) : Bool := bitField d 207 1 == 1
def dCtAddr (d : List Byte) : Nat :=
  directAddr (bitField d 184 4) (bitField d 188 7) 3 (bitField d 195 12 * 64)

/-- Are the reserved bits zero, and does neither range wrap (R507, R518)? -/
def dmaOk (d : List Byte) : Bool :=
  decide (bitField d 121 7 = 0) && decide (bitField d 162 22 = 0) && decide (bitField d 208 16 = 0) &&
    decide (bitField d 232 23 = 0) && decide (dHost d + dLength d ≤ 2 ^ 64) &&
    decide (dCommons d + dLength d ≤ 2 ^ 57)

def idleDma : DmaQ := ⟨0, none⟩

def State.dmaQ (s : State) (fn q : Nat) : DmaQ := s.host.dma.look idleDma (fn * 2 + q)

def State.setDmaQ (s : State) (fn q : Nat) (x : DmaQ) : State :=
  s.modHost (fun h => { h with dma := h.dma.put idleDma (fn * 2 + q) x })

def State.modJob (s : State) (fn q : Nat) (g : DmaJob → DmaJob) : State :=
  let x := s.dmaQ fn q
  s.setDmaQ fn q { x with job := x.job.map g }

def State.dmaEntries (s : State) (fn q : Nat) : Nat := 2 ^ (s.getF RF.HST_FN_DMAq_CTL_SIZE fn q + 4)

/-- DMA_DOORBELL (R506): the tail, or ERR for a tail at or beyond the entry count. -/
def State.dmaDoorbell (s : State) (fn q v : Nat) : State :=
  if s.host.flr.contains fn then s
  else if s.dmaEntries fn q ≤ v then s.setFlag RF.HST_FN_DMAq_CTL_ERR fn q true
  else s.setDmaQ fn q { s.dmaQ fn q with tail := v }

/-- A write of a queue's doorbell reaches H0 (R506, R515). -/
def State.dmaDoorbellWrite (s : State) (fn : FnId) (q v : Nat) : State :=
  let s1 := s.modHost (fun h => { h with doorbells := h.doorbells.put 0 (2 ^ 16 + fn.val * 2 + q) v })
  if s1.h0Frozen then s1.holdWrite (.dma fn q v) else s1.dmaDoorbell fn.val q v

/-- DMA_DOORBELL, R506. -/
def execDmaDoorbell (fn : FnId) (q : Fin 2) (v : BitVec 16) (s : State) : Out :=
  if !s.host.ready || !s.fnOn fn.val then .next s else .next (s.dmaDoorbellWrite fn q.val v.toNat)

/-- HST_PORT_CTL.CTO_MS in ns. -/
def State.cto (s : State) : Nat := s.getF RF.HST_PORT_CTL_CTO_MS 0 0 * 1000000

/-- Tags H0 may use (R495, R516). (Mark: DESIGN CHOICE, log 133.) -/
def State.freeTags (s : State) : List Nat :=
  let busy := s.host.tags.map (·.tag) ++
    (s.host.quarantine.filter (fun x => decide (s.now - x.2 < s.cto))).map (·.1)
  ((List.range 768).map (· + 256)).filter (fun t => !busy.contains t)

/-- May a function send requests to the host now? -/
def State.fnSends (s : State) (fn : Nat) : Bool :=
  s.host.ready && s.fnOn fn && !s.h0Frozen && !s.host.flr.contains fn && !s.host.drain.contains fn

/-- Send the next host reads of a descriptor, each within a 4 KiB page, while tags are free.
(Mark: DESIGN CHOICE, log 133.) -/
def State.dmaIssue (s : State) (fn q : Nat) : Nat → State
  | 0 => s
  | n + 1 =>
    match (s.dmaQ fn q).job with
    | none => s
    | some j =>
      let left := dLength j.desc - j.next
      let addr := dHost j.desc + j.next
      let size := min left (4096 - addr % 4096)
      let free := s.freeTags
      if left = 0 ∨ free.isEmpty ∨ j.code.isSome ∨ !s.fnSends fn then s
      else
        let (k, s1) := s.fresh
        let x : HostTag :=
          { tag := pickFree k free, fn := fn, queue := q, offset := j.next, size := size,
            since := s.now }
        let s2 := (s1.modHost (fun h => { h with tags := h.tags ++ [x] })).modJob fn q (fun y => { y with
          next := y.next + size })
        (s2.send (.hostRead (Fin.ofNat 33 fn) (s2.pasid fn) addr size)).dmaIssue fn q n

/-- Move a descriptor's data to the host, burst by burst, until an access fails (R506, R507). -/
def State.dmaOut (s : State) (fn q : Nat) (d : List Byte) : List (Nat × Nat) → State
  | [] => s
  | b :: rest =>
    match s.bulkRead (s.fnSource fn) b.1 b.2 with
    | (s1, ⟨_, some (_, st)⟩) => s1.modJob fn q (fun y => { y with code := some st.code })
    | (s1, ⟨data, none⟩) =>
      ((s1.send (.hostWrite (Fin.ofNat 33 fn) (s1.pasid fn) (dHost d + (b.1 - dCommons d)) data)).modJob fn q
        (fun y => { y with next := y.next + b.2, moved := y.moved + b.2 })).dmaOut fn q d rest

/-- Start a descriptor. -/
def State.dmaStart (s : State) (fn q : Nat) (d : List Byte) (refused : Bool) : State :=
  let s1 := s.setDmaQ fn q { s.dmaQ fn q with job := some ⟨d, 0, 0, none⟩ }
  if !dmaOk d then s1.modJob fn q (fun y => { y with code := some 0x15 })
  else if refused && s.host.ats.contains fn then s1.modJob fn q (fun y => { y with code := some 0x13 })
  else if dOut d then s1.dmaOut fn q d (bursts (dCommons d) (dLength d))
  else s1.dmaIssue fn q 768

/-- Has the queue a descriptor to run? -/
def State.dmaReady (s : State) (fn q : Nat) : Bool :=
  s.fnSends fn && s.flag RF.HST_FN_DMAq_CTL_ENABLE fn q && !s.flag RF.HST_FN_DMAq_CTL_ERR fn q &&
    (s.dmaQ fn q).job.isNone &&
    decide (s.getF RF.HST_FN_DMAq_CTL_HEAD fn q ≠ (s.dmaQ fn q).tail)

/-- DMA_DESC_FETCH (R506): the host's answer to the read of the descriptor at HEAD; a fetch that fails
stops the queue.  `refused` says that ATS refused the host address of a descriptor's data. -/
def execDmaDescFetch (fn : FnId) (q : Fin 2) (a : HostAnswer) (refused : Bool) (s : State) : Out :=
  if !s.dmaReady fn.val q.val then .next s
  else
    let addr := s.getF RF.HST_FN_DMAq_BASE_BASE fn.val q.val * 4096 +
      s.getF RF.HST_FN_DMAq_CTL_HEAD fn.val q.val * 32
    let s1 := s.send (.hostRead fn (s.pasid fn.val) addr 32)
    match a with
    | .data d =>
      if d.length ≠ 32 then .fault (.malformedOperand "DMA_DESC_FETCH")
      else .next (s1.dmaStart fn.val q.val d refused)
    | _ => .next (s1.setFlag RF.HST_FN_DMAq_CTL_ERR fn.val q.val true)

/-- Has a descriptor nothing left in flight, and is it at its end (R507)? (Mark: DEDUCED, log 134.) -/
def State.dmaDone (s : State) (fn q : Nat) : Option (DmaJob × Nat) :=
  match (s.dmaQ fn q).job with
  | none => none
  | some j =>
    if s.host.tags.any (fun t => t.fn == fn && t.queue == q) then none
    else match j.code with
      | some c => some (j, c)
      | none => if j.moved = dLength j.desc then some (j, 0) else none

/-- DMA_DESC_COMPLETE (R507): CODE and DONE, then the tally, then the vector. (Mark: DEDUCED, log 134.) -/
def execDmaDescComplete (fn : FnId) (q : Fin 2) (s : State) : Out :=
  match s.dmaDone fn.val q.val with
  | none => .next s
  | some (j, code) =>
    if !s.fnOn fn.val || !s.host.ready || s.h0Frozen then .next s
    else
      let h := s.getF RF.HST_FN_DMAq_CTL_HEAD fn.val q.val
      let addr := s.getF RF.HST_FN_DMAq_BASE_BASE fn.val q.val * 4096 + h * 32 + 28
      let s1 := s.send (.hostWrite fn (s.pasid fn.val) addr (leBytes 4 (code + 2 ^ 31)))
      let s2 := if dCtEn j.desc then
          (s1.tallyBump (s1.fnSource fn.val) (dCtAddr j.desc) (decide (code ≠ 0)) none).1 else s1
      let s3 := if dIrq j.desc then
          s2.sendMsix fn (s2.getF RF.HST_FN_DMAq_CTL_VECTOR fn.val q.val) else s2
      let s4 := s3.setDmaQ fn.val q.val { s3.dmaQ fn.val q.val with job := none }
      let s5 := s4.setF RF.HST_FN_DMAq_CTL_HEAD fn.val q.val ((h + 1) % s4.dmaEntries fn.val q.val)
        |>.addWrap RF.HST_FN_DMAq_BYTES_COUNT fn.val q.val j.moved
      .next (if code = 0 then s5 else s5.setFlag RF.HST_FN_DMAq_CTL_ERR fn.val q.val true)

/-- A descriptor's first failure is its CODE. -/
def DmaJob.fail (j : DmaJob) (code : Nat) : DmaJob :=
  match j.code with
  | some _ => j
  | none => { j with code := some code }

/-- HOST_COMPLETION_ARRIVE (R508, R516): the host answers a read; an abandoned or unknown tag's
completion is discarded. -/
def execHostCompletionArrive (tag : BitVec 10) (a : HostAnswer) (s : State) : Out :=
  match s.host.tags.find? (fun t => t.tag == tag.toNat) with
  | none => .next s
  | some t =>
    let s1 := s.modHost (fun h => { h with tags := h.tags.filter (fun x => x.tag != t.tag) })
    match a, (s1.dmaQ t.fn t.queue).job with
    | _, none => .next s1
    | .data bytes, some j =>
      if bytes.length ≠ t.size then .fault (.malformedOperand "HOST_COMPLETION_ARRIVE")
      else
        match s1.bulkWrite (s1.fnSource t.fn) (dCommons j.desc + t.offset) bytes with
        | (s2, some (_, st)) => .next (s2.modJob t.fn t.queue (fun y => y.fail st.code))
        | (s2, none) => .next ((s2.modJob t.fn t.queue (fun y => { y with
            moved := y.moved + t.size })).dmaIssue t.fn t.queue 768)
    | .unsupported, some _ => .next (s1.modJob t.fn t.queue (fun y => y.fail 0x10))
    | .poison, some _ => .next (s1.modJob t.fn t.queue (fun y => y.fail 0x12))
    | .refused, some _ => .next (s1.modJob t.fn t.queue (fun y =>
        if s.host.ats.contains t.fn then y.fail 0x13 else y.fail 0x10))

/-- HOST_COMPLETION_TIMEOUT (R507): no completion within CTO_MS. -/
def execHostCompletionTimeout (tag : BitVec 10) (s : State) : Out :=
  match s.host.tags.find? (fun t => t.tag == tag.toNat) with
  | none => .next s
  | some t =>
    if s.now - t.since < s.cto then .next s
    else
      let s1 := s.modHost (fun h => { h with tags := h.tags.filter (fun x => x.tag != t.tag) })
      .next (s1.modJob t.fn t.queue (fun y => y.fail 0x11))

/-- Abandon the outstanding tags of a function (R516). -/
def State.abandonTags (s : State) (fn : Nat) : State :=
  let l := s.host.tags.filter (fun t => t.fn == fn)
  let s1 := s.modHost (fun h => { h with
    tags := h.tags.filter (fun t => t.fn != fn)
    quarantine := h.quarantine ++ l.map (fun t => (t.tag, s.now)) })
  l.foldl (fun (t : State) x => t.modJob x.fn x.queue (fun y => y.fail 0x14)) s1

/-- TAG_DRAIN_EXPIRE, R516: 1 ms into the drain of a scrub. -/
def execTagDrainExpire (fn : FnId) (s : State) : Out :=
  if s.host.drain.contains fn.val then .next (s.abandonTags fn.val) else .next s

/-- BAR_READ_DEADLINE, R504: a BAR read not completed within 3 ms returns zeros. -/
def execBarReadDeadline (id : Nat) (s : State) : Out :=
  match s.host.reads.find? (fun x => x.id == id) with
  | none => .next s
  | some x =>
    if s.now - x.since < 3000000 then .next s
    else
      let s1 := (s.winErr x.fn (AccStatus.code .timeout) false x.offset).modHost (fun h => { h with
        reads := h.reads.filter (fun y => y.id != id) })
      .next (s1.send (.barReply (Fin.ofNat 33 x.fn) 0 (List.replicate x.size 0#8)))

end Sys2Proof.Machine
end

