-- ==== Sys2Proof/Machine/Power.lean ====
section
/-! DEFINITION. Power states, caps and energy (R521–R553): module, field and performance states, the
estimator, gates and accounts, droop, and the thermal halt. -/

namespace Sys2Proof.Machine

/-! ### Shared -/

def State.modState (s : State) : Nat := s.getF RF.PWR_MOD_STAT_STATE 0 0

def State.modPower (s : State) (g : Power → Power) : State := { s with power := g s.power }

/-- CMD_ERR of the module, with PWR_EVENT (R522). -/
def State.pwrErr (s : State) : State :=
  (s.setFlag RF.PWR_MOD_STAT_CMD_ERR 0 0 true).raise RF.PWR_EVENT_MODE_DONE 0

/-- A wafer fault stops bring-up (R728): STAGE 15, WAFER_FAULT and its cause. -/
def State.waferFault (s : State) (cause : Nat) : State :=
  if s.boot.stage = .ready ∨ s.boot.stage = .off ∨ s.boot.stage = .halted then s
  else
    let s1 := { s with boot := { s.boot with stage := .halted } }
    s1.setF (bootF 0 4) 0 0 15 |>.setFlag (bootF 5 1) 0 0 true |>.setF (bootF 6 4) 0 0 cause

/-- Move every time that a freeze or a thermal halt does not count (R98, R544, R605, R710) by the time it
lasted. (Mark: DESIGN CHOICE, log 167.) -/
def State.shiftTimes (s : State) (d : Nat) : State :=
  let up := fun (l : List Nat) => l.map (· + d)
  let req := fun (r : Request) => { r with issued := r.issued + d }
  { s with
    commons := { s.commons with
      reqs := s.commons.reqs.map req
      fills := s.commons.fills.map (fun (x : Fill) => { x with
        opener := req x.opener, waiting := x.waiting.map req }) }
    crofters := { s.crofters with
      issues := s.crofters.issues.map (fun (x : IssueReq) => { x with issued := x.issued + d }) }
    tallies := { s.tallies with
      reqs := s.tallies.reqs.map (fun (x : TallyReq) => { x with issued := x.issued + d }) }
    engines := s.engines.map (fun e => (e.1, { e.2 with
      resets := up e.2.resets, lastProgress := e.2.lastProgress + d }))
    seq := { s.seq with
      sheaves := s.seq.sheaves.map (fun (x : Sheaf) => { x with timerBase := x.timerBase + d }) }
    boot := { s.boot with stageStart := s.boot.stageStart + d }
    resets := { s.resets with
      fieldTimes := s.resets.fieldTimes.map (fun e => (e.1, up e.2))
      crofterTimes := s.resets.crofterTimes.map (fun e => (e.1, up e.2))
      warmTimes := up s.resets.warmTimes
      recoveries := s.resets.recoveries.map (fun (x : Recovery) => { x with
        engines := x.engines.map (fun (e : Replay) => { e with since := e.since + d }) }) } }

/-! ### HBM by module and field state (R402) -/

/-- The stack state of a field: the deeper of the two that its module and its field call for. -/
def State.stackWant (s : State) (f : Nat) : Nat :=
  let m := if s.power.asleep then hbmSelfRefresh else if s.modState = 1 then hbmPowerdown else hbmUp
  let p := s.fieldPower f
  let g := if p = 0 then hbmUp else if p = 3 then hbmSelfRefresh else hbmPowerdown
  max m g

def State.stackFollow (s : State) (f : Nat) : State :=
  let st := s.hbmState f
  if st = hbmUp ∨ st = hbmPowerdown ∨ st = hbmSelfRefresh then
    s.setF RF.HBM_ID_STATE f 0 (s.stackWant f)
  else s

def State.stacksFollow (s : State) : State := (List.range 80).foldl (fun (t : State) f => t.stackFollow f) s

/-! ### Field states -/

/-- Has a field no running thread and no queued or running task (R525)? -/
def State.fieldIdle (s : State) (f : Nat) : Bool :=
  (s.liveThreads f).isEmpty && s.crofters.launches.all (fun l => decide (l.field ≠ f)) &&
    fieldUnits.all (fun u => (s.engine f u).queue.isEmpty && (s.engine f u).running.isEmpty &&
      (s.engine f u).suspects.isEmpty)

def State.fldErr (s : State) (f : Nat) : State :=
  (s.setFlag RF.PWR_FLD_STAT_CMD_ERR f 0 true).raise RF.PWR_EVENT_MODE_DONE 0

def State.setFieldPower (s : State) (f st : Nat) : State :=
  (s.setF RF.PWR_FLD_STAT_STATE f 0 st).stackFollow f

/-- Does R529's table permit the transition? -/
def State.fieldMay (s : State) (f target : Nat) : Bool :=
  match s.fieldPower f, target with
  | 0, 1 => s.fieldIdle f
  | 1, 0 => true
  | 1, 2 => true
  | 2, 0 => true
  | 2, 1 => true
  | 1, 3 => true
  | 2, 3 => true
  | 3, 0 => true
  | 3, 1 => true
  | _, _ => false

/-- A field state command (R529, R549): a deeper state is entered at once, with BUSY until it is
reached; a return shows when it is complete. -/
def State.fieldTarget (s : State) (f target : Nat) : State :=
  let s1 := s.setF RF.PWR_FLD_CTL_TARGET f 0 target
  if decide (s.boot.stage ≠ .ready) || !s.inService f || decide (s.modState ≠ 0) ||
      s.flag RF.PWR_FLD_STAT_BUSY f 0 || s.halted || !s.fieldMay f target then s1.fldErr f
  else
    let s2 := (s1.setFlag RF.PWR_FLD_STAT_BUSY f 0 true).modPower (fun p => { p with
      fldTarget := p.fldTarget.put 0 f (target + 1) })
    if s.fieldPower f < target then s2.setFieldPower f target else s2

/-- FLD_TARGET_ON, R529. -/
def execFldTargetOn (f : FieldId) (s : State) : Out := .next (s.fieldTarget f.val 0)

/-- FLD_TARGET_IDLE, R529. -/
def execFldTargetIdle (f : FieldId) (s : State) : Out := .next (s.fieldTarget f.val 1)

/-- FLD_TARGET_RETAIN, R529. -/
def execFldTargetRetain (f : FieldId) (s : State) : Out := .next (s.fieldTarget f.val 2)

/-- FLD_TARGET_OFF, R529. -/
def execFldTargetOff (f : FieldId) (s : State) : Out := .next (s.fieldTarget f.val 3)

/-- A return from F-off or from M-standby resets the field (R526, R529); it does not count (R620). -/
def State.wakeField (s : State) (f : Nat) : State := (s.fieldReset f).fieldResetEnd f

/-- A field transition completes. -/
def State.fieldDone (s : State) (f : Nat) : State :=
  match s.power.fldTarget.look 0 f with
  | 0 => s
  | n + 1 =>
    let s1 := (s.setFlag RF.PWR_FLD_STAT_BUSY f 0 false).modPower (fun p => { p with
      fldTarget := p.fldTarget.put 0 f 0 })
    let s2 := if s.fieldPower f = 3 ∧ n < 3 then s1.wakeField f else s1
    (s2.setFieldPower f n).raise RF.PWR_EVENT_MODE_DONE 0

/-! ### Performance states -/

/-- Core rail nominal of a P-state, mV (R521). -/
def railOf : Nat → Nat
  | 0 => 850
  | 1 => 800
  | 2 => 760
  | 3 => 700
  | 4 => 640
  | _ => 580

def State.pTarget (s : State) : Nat := s.getF RF.PWR_PSTATE_TARGET 0 0
def State.pCurrent (s : State) : Nat := s.getF RF.PWR_PSTATE_CURRENT 0 0
def State.pBusy (s : State) : Bool := s.flag RF.PWR_PSTATE_BUSY 0 0

/-- Every field's nominal follows. -/
def State.setNominal (s : State) (p : Nat) : State :=
  (List.range 80).foldl (fun (t : State) f => t.setF RF.PWR_FLD_VOLT_NOMINAL f 0 (railOf p)) s

/-- Start a transition toward TARGET (R532); upward, the rails ramp first. -/
def State.pStart (s : State) : State :=
  if s.pTarget = s.pCurrent then s
  else
    let s1 := (s.setFlag RF.PWR_PSTATE_BUSY 0 0 true).modPower (fun p => { p with
      switched := false, settled := false, recorded := false })
    if s.pTarget < s.pCurrent then s1.setNominal s.pTarget else s1

/-- Is the module between two states, so that a P-state command waits (R545)? -/
def State.modBusy (s : State) : Bool := decide (3 ≤ s.modState)

/-- A P-state command (R532, R533, R545). -/
def State.pstateWrite (s : State) (v : Nat) : State :=
  if 5 < v then s
  else
    let s1 := s.setF RF.PWR_PSTATE_TARGET 0 0 v
    if s.boot.stage = .off then s
    else if s.boot.stage ≠ .ready ∨ s.modBusy then s1.modPower (fun p => { p with recorded := true })
    else if s.modState = 2 then
      (s1.setF RF.PWR_PSTATE_CURRENT 0 0 v).modPower (fun p => { p with recorded := true })
    else if s.pBusy then
      if s.power.switched then s1
      else
        let s2 := s1.modPower (fun p => { p with settled := false })
        if v < s.pCurrent then s2.setNominal v else s2.setNominal s.pCurrent
    else s1.pStart

/-- PSTATE_WRITE, R532. -/
def execPstateWrite (v : BitVec 3) (s : State) : Out := .next (s.pstateWrite v.toNat)

/-! ### Module states -/

/-- Is every field idle, and every DMA descriptor at its end (R525)? -/
def State.allIdle (s : State) : Bool :=
  (List.range 80).all (fun f => !s.inService f || s.fieldIdle f) &&
    s.host.dma.all (fun e => e.2.job.isNone)

/-- Field states of M-drowsy: F-idle or lower (R529). -/
def State.drowsyFields (s : State) : State :=
  (List.range 80).foldl (fun (t : State) f =>
    if t.inService f ∧ t.fieldPower f = 0 then t.setFieldPower f 1 else t) s

/-- Remember the field states of M-active (R529). -/
def State.saveFields (s : State) : State :=
  s.modPower (fun p => { p with
    fldBefore := (List.range 80).foldl (fun m f => NMap.put m 0 f (s.fieldPower f)) [] })

/-- Give every in-service field the state it held before the module left M-active. -/
def State.restoreFields (s : State) : State :=
  (List.range 80).foldl (fun (t : State) f =>
    if t.inService f then t.setFieldPower f (s.power.fldBefore.look 0 f) else t) s

/-- A module transition completes (R523, R526, R529): what waited for it is applied. -/
def State.modArrive (s : State) (target : Nat) : State :=
  let wake := s.power.asleep && decide (target ≠ 2)
  let s1 := (s.setF RF.PWR_MOD_STAT_STATE 0 0 target).modPower (fun p => { p with
    target := none, asleep := decide (target = 2), calDirty := true })
  let s2 := if wake then
      let w := (List.range 80).foldl (fun (t : State) f =>
        if t.inService f then t.wakeField f else t) s1
      let x := (List.range 16).foldl (fun (t : State) i => t.enterState (56 + i) lsPcie) w
      (x.wr .PWR_WAKE_ARM 0 0 0#64).runDeferred
    else s1
  let s3 := if target = 0 then s2.restoreFields
    else if target = 1 then s2.restoreFields.drowsyFields else s2
  let s4 := (s3.stacksFollow).raise RF.PWR_EVENT_MODE_DONE 0
  if s4.power.recorded && decide (target ≠ 2) then
    if wake then (s4.setNominal s4.pCurrent).modPower (fun p => { p with recorded := false })
    else (s4.modPower (fun p => { p with recorded := false })).pStart
  else s4

/-- Enter M-standby (R526): fields off, stacks in self-refresh, links and H0 down. -/
def State.sleepNow (s : State) : State :=
  let s1 := s.modPower (fun p => { p with asleep := true })
  let s2 := (List.range 80).foldl (fun (t : State) f =>
    if t.inService f then t.setF RF.PWR_FLD_STAT_STATE f 0 3 else t) s1
  let s3 := (List.range 56).foldl (fun (t : State) k => t.linkDown k 9) s2
  let s4 := (List.range 16).foldl (fun (t : State) i => t.enterState (56 + i) lsDown) s3
  (s4.h0Reset.s0Down).stacksFollow

/-- Take a module command other than OFF now (R522, R524). (Mark: DEDUCED, log 138.) -/
def State.modCommandNow (s : State) (target src : Nat) : State :=
  let s0 := s.setF RF.PWR_MOD_STAT_SOURCE 0 0 src
  let go := fun (st : Nat) (t : State) =>
    (t.setF RF.PWR_MOD_STAT_STATE 0 0 st).modPower (fun p => { p with
      target := some target, since := s.now, calDirty := true })
  if s.boot.stage ≠ .ready ∨ s.halted then s0.pwrErr
  else match s.modState, target with
    | 0, 1 => go 3 s0.saveFields
    | 1, 0 => go 4 s0
    | 1, 2 => if s.seq.sheaves.isEmpty then (go 3 s0).sleepNow else s0.pwrErr
    | 2, 0 => go 4 s0
    | 2, 1 => go 4 s0
    | _, _ => s0.pwrErr

/-- A module command; it waits for a P-state transition in progress (R545). (Mark: DEDUCED, log 138.) -/
def State.modCommand (s : State) (target src : Nat) : State :=
  let s1 := s.setF RF.PWR_MOD_CTL_TARGET 0 0 target
  if s.pBusy then s1.modPower (fun p => { p with waiting := p.waiting ++ [(target, src)] })
  else s1.modCommandNow target src

/-- MOD_TARGET_ACTIVE, R524; `src` is the path: 0 H0, 1 crier, 2 SMBus. -/
def execModTargetActive (src : Fin 3) (s : State) : Out := .next (s.modCommand 0 src.val)

/-- MOD_TARGET_DROWSY, R525. -/
def execModTargetDrowsy (src : Fin 3) (s : State) : Out := .next (s.modCommand 1 src.val)

/-- MOD_TARGET_STANDBY, R526. -/
def execModTargetStandby (src : Fin 3) (s : State) : Out := .next (s.modCommand 2 src.val)

/-- DROWSY_DRAIN_DONE, R525. -/
def execDrowsyDrainDone (s : State) : Out :=
  if s.power.target = some 1 ∧ s.modState = 3 ∧ s.allIdle then .next (s.modArrive 1) else .next s

/-- DRAIN_MS_EXPIRE, R525: the DROWSY command fails and dispatch resumes. -/
def execDrainMsExpire (s : State) : Out :=
  let ms := max 1 (s.getF RF.PWR_MOD_CTL_DRAIN_MS 0 0)
  if s.power.target = some 1 ∧ s.modState = 3 ∧ ms * 1000000 ≤ s.now - s.power.since ∧ ¬ s.allIdle then
    .next ((s.setF RF.PWR_MOD_STAT_STATE 0 0 0).modPower (fun p => { p with target := none })).pwrErr
  else .next s

/-- Does an edge qualify under GPIO_IRQ_MODE (R527, R698)? -/
def State.edgeQualifies (s : State) (n : Nat) (rising : Bool) : Bool :=
  let m := if n < 16 then bits (s.rd .GPIO_IRQ_MODE_LO 0 0) (3 * n) 3
    else bits (s.rd .GPIO_IRQ_MODE_HI 0 0) (3 * (n - 16)) 3
  if rising then m == 1 || m == 3 || m == 4 else m == 2 || m == 3 || m == 5

/-- WAKE_EDGE, R527. -/
def execWakeEdge (n : Fin 8) (rising : Bool) (s : State) : Out :=
  if s.modState = 2 ∧ (s.getF RF.PWR_WAKE_ARM_MASK 0 0).testBit n.val ∧ s.edgeQualifies n.val rising then
    let t := s.getF RF.PWR_WAKE_ARM_TARGET 0 0
    .next ((s.raise RF.PWR_EVENT_WAKE 0).modCommand t 3)
  else .next s

/-! ### The estimator, gates and accounts -/

/-- Σ (count × weight) of R534, in 10 pJ. (Mark: DESIGN CHOICE, log 140.) -/
def activitySum (a : Activity) : Nat :=
  a.quern * 1300 + a.sieve * 500 + a.scree * 300 + a.loom * 400 + a.cairn * 200 + a.instrs * 12 +
    a.hbm * 190 + a.hops * 30 + a.tally * 5

/-- Dynamic energy of an account in an interval, in 10 pJ (R534). -/
def State.dynEnergy (s : State) (k i : Nat) (a : Activity) : Nat :=
  let f := a.field.val
  let v := s.getF RF.PWR_FLD_VOLT_NOMINAL f 0
  roundOpen k (4 * i + 1) (s.getF RF.PWR_FLD_GAIN_GAIN f 0 * v * v * activitySum a) (2 ^ 14 * 850 * 850)

/-- Static energy of a field in an interval, in 10 pJ. -/
def State.staticEnergy (s : State) (f : Nat) : Nat := s.getF RF.PWR_FLD_GAIN_STATIC f 0 * 200000

/-- One charge of an interval: the account it goes to, its parish, its field, and its energy.
(Mark: DEDUCED, log 144.) -/
structure Charge where
  sheaf : Option Nat
  account : Nat
  field : Nat
  energy : Nat
  deriving DecidableEq, Repr

def acRecovery : Nat := 0
def acOverhead : Nat := 1
def acTotal : Nat := 2
def acParish (p : Nat) : Nat := 32 + p
def acField (f : Nat) : Nat := 64 + f
def noField : Nat := 80

/-- The charge of dynamic energy (R541). (Mark: DEDUCED, log 144.) -/
def State.dynCharge (s : State) (k i : Nat) (a : Activity) : Charge :=
  let e := s.dynEnergy k i a
  if a.replay then ⟨none, acRecovery, a.field.val, e⟩
  else match a.sheaf with
    | some n => match s.sheaf? n with
      | some x => ⟨some n, acParish x.parish, a.field.val, e⟩
      | none => match s.parishOf a.field.val with
        | some p => ⟨none, acParish p.val, a.field.val, e⟩
        | none => ⟨none, acOverhead, a.field.val, e⟩
    | none => ⟨none, acOverhead, a.field.val, e⟩

/-- The charges of a field's static energy (R541, R544). -/
def State.staticCharges (s : State) (k f : Nat) (dyn : List Charge) : List Charge :=
  let e := s.staticEnergy f
  let mine := dyn.filter (fun c => decide (c.field = f) && c.sheaf.isSome && decide (0 < c.energy))
  let sum := (mine.map (·.energy)).sum
  if e = 0 then []
  else if s.halted then [⟨none, acOverhead, f, e⟩]
  else if sum ≠ 0 then mine.zipIdx.map (fun x =>
    { x.1 with energy := roundOpen k (4 * (f + 80 * x.2) + 2) (e * x.1.energy) sum })
  else match s.parishOf f with
    | some p => [⟨none, acParish p.val, f, e⟩]
    | none => [⟨none, acOverhead, f, e⟩]

/-- Non-field energy of an interval, in 10 pJ (R534). -/
def State.nonField (s : State) : Nat :=
  ((List.range 56).filter (fun k => decide (s.linkState k = lsUp))).length * 500000 + 94 * 200000

def State.addAccount (s : State) (a e : Nat) : State :=
  s.modPower (fun p => { p with accounts := p.accounts.put 0 a (p.accounts.look 0 a + e) })

/-- Enter a charge in its accounts. -/
def State.charge (s : State) (c : Charge) : State :=
  let s1 := (s.addAccount c.account c.energy).addAccount acTotal c.energy
  let s2 := if c.field < 80 then s1.addAccount (acField c.field) c.energy else s1
  match c.sheaf with
  | some n => s2.modSheaf n (fun x => { x with energy := x.energy + c.energy })
  | none => s2

/-- The counters show their accounts in µJ (R552, R553). -/
def State.showAccounts (s : State) : State :=
  let uj := fun (a : Nat) => BitVec.ofNat 64 (s.power.accounts.look 0 a / 100000)
  let s1 := s.wr .PWR_ENERGY_RECOVERY 0 0 (uj acRecovery) |>.wr .PWR_ENERGY_OVERHEAD 0 0 (uj acOverhead)
    |>.wr .PWR_ENERGY_TOTAL 0 0 (uj acTotal)
  let s2 := (List.range 32).foldl (fun (t : State) p => t.wr .PWR_PARn_ENERGY 0 p (uj (acParish p))) s1
  (List.range 80).foldl (fun (t : State) f => t.wr .PWR_FLD_ENERGY f 0 (uj (acField f))) s2

/-- A gate after an interval (R536, R540, R551). (Mark: DEDUCED, log 142.) -/
def nextGate (d : Nat) (above below stretched : Bool) : Nat :=
  if above then min 56 (d + 1) else if below && !stretched then d - 1 else d

/-- Compare energy of an interval with a cap of `w` watts (R536): above it, and below it by HYST. -/
def State.capOver (_s : State) (e w : Nat) : Bool := decide (w * 200000 < e)
def State.capBelow (s : State) (e w : Nat) : Bool :=
  decide (e * 200 < w * 200000 * (200 - s.getF RF.PWR_CAP_CTL_HYST 0 0))

/-- Count intervals above a cap at gate 56; the 64th in a row sets CAP_UNMET (R537). -/
def State.noteUnmet (s : State) (key : Nat) (bad : Bool) : State :=
  let n := if bad then s.power.unmet.look 0 key + 1 else 0
  let s1 := s.modPower (fun p => { p with unmet := p.unmet.put 0 key n })
  if n = 64 then s1.raise RF.PWR_EVENT_CAP_UNMET 0 else s1

/-- The wafer gate at the end of an interval. -/
def State.waferGate (s : State) (e : Nat) : State :=
  let d := s.getF RF.PWR_GATE_GATE 0 0
  let on := s.flag RF.PWR_CAP_CTL_ENABLE 0 0
  let w := s.getF RF.PWR_CAP_WAFER_CAP 0 0
  let above := on && s.capOver e w
  let d1 := nextGate d above (!on || s.capBelow e w) (!s.power.stretched.isEmpty)
  (s.setF RF.PWR_GATE_GATE 0 0 d1).noteUnmet 0 (above && decide (d1 = 56))

/-- A parish's gate at the end of an interval. -/
def State.parishGate (s : State) (p e : Nat) : State :=
  let d := s.getF RF.PWR_PARn_CAP_GATE 0 p
  let w := s.getF RF.PWR_PARn_CAP_CAP 0 p
  let on := s.flag RF.PWR_CAP_CTL_ENABLE 0 0 && decide (w ≠ 0)
  let above := on && s.capOver e w
  let str := s.power.stretched.any (fun f => decide (s.parishOf f = some (Fin.ofNat 32 p)))
  let d1 := nextGate d above (!on || s.capBelow e w) str
  (s.setF RF.PWR_PARn_CAP_GATE 0 p d1).noteUnmet (p + 1) (above && decide (d1 = 56))

/-- The gate in force in every field is the larger of the wafer's and its parish's (R536). -/
def State.fieldGates (s : State) : State :=
  let w := s.getF RF.PWR_GATE_GATE 0 0
  (List.range 80).foldl (fun (t : State) f =>
    let p := match t.parishOf f with
      | some q => t.getF RF.PWR_PARn_CAP_GATE 0 q.val
      | none => 0
    t.setF RF.PWR_FLD_STAT_GATE f 0 (max w p)) s

/-- ESTIMATOR_INTERVAL, R534, R536, R541: the activity of every account in the last 2 µs.
(Mark: DESIGN CHOICE, log 140.) -/
def execEstimatorInterval (acts : List Activity) (s : State) : Out :=
  if s.frozen || decide (s.boot.stage ≠ .ready) || s.power.asleep then .next s
  else
    let (k, s0) := s.fresh
    let live := acts.filter (fun a => s.inService a.field.val)
    let dyn := (live.zip (List.range live.length)).map (fun x => s.dynCharge k x.2 x.1)
    let stat := (List.range 80).flatMap (fun f =>
      if s.inService f then s.staticCharges k f dyn else [])
    let other : Charge := ⟨none, acOverhead, noField, s.nonField⟩
    let all := dyn ++ stat ++ [other]
    let total := (all.map (·.energy)).sum
    let s1 := (all.foldl (fun (t : State) c => t.charge c) s0).showAccounts
    let s2 := (List.range 80).foldl (fun (t : State) f =>
      if s.inService f then
        let e := ((all.filter (fun c => decide (c.field = f))).map (·.energy)).sum
        t.setF RF.PWR_FLD_EST_LAST f 0 (min 4095 (roundOpen k (4 * f + 3) e 200000))
          |>.setF RF.PWR_FLD_EST_STATIC f 0 (s.getF RF.PWR_FLD_GAIN_STATIC f 0)
      else t) s1
    let w := min 65535 (roundOpen k 0 total 200000)
    let log := (s.power.estLog ++ [w]).drop (s.power.estLog.length + 1 - 50000)
    let s3 := s2.setF RF.PWR_EST_LAST 0 0 w
      |>.setF RF.PWR_EST_MEAN 0 0 (roundOpen k 4 log.sum log.length)
    let s4 := (s3.modPower (fun p => { p with estLog := log })).waferGate total
    let s5 := (List.range 32).foldl (fun (t : State) p =>
      t.parishGate p ((all.filter (fun c => decide (c.account = acParish p))).map (·.energy)).sum) s4
    let s6 := s5.fieldGates
    .next (s6.modPower (fun p => { p with
      stretched := p.stretched.filter (fun f => s6.flag RF.PWR_FLD_STAT_STRETCHING f 0) }))

/-- CALIBRATION_PERIOD, R535: the gains and static terms fitted to the measured energy.  The fit itself
is not stated, so its results are free; `watts` is the measured input. (Mark: DESIGN CHOICE, log 141.) -/
def execCalibrationPeriod (watts : BitVec 16) (s : State) : Out :=
  if s.boot.stage ≠ .ready ∨ s.power.asleep then .next s
  else if s.power.calDirty || s.frozen || s.halted then
    .next (s.modPower (fun p => { p with calDirty := false }))
  else
    let (k, s0) := s.fresh
    let s1 := (List.range 80).foldl (fun (t : State) f =>
      if !t.inService f then t
      else
        let g := Config.freeNat k (2 * f)
        if 12288 ≤ g ∧ g ≤ 20480 then
          t.setF RF.PWR_FLD_GAIN_GAIN f 0 g
            |>.setF RF.PWR_FLD_GAIN_STATIC f 0 (Config.freeNat k (2 * f + 1) % 4096)
        else t.raise RF.PWR_EVENT_CAL_FAULT 0) s0
    .next (s1.setFlag RF.PWR_CAL_CALIBRATED 0 0 true |>.setF RF.PWR_CAL_MEASURED 0 0 watts.toNat
      |>.addWrap RF.PWR_CAL_COUNT 0 0 1)

/-! ### Droop -/

/-- DROOP_DETECT, R539: the field's clocks stretch. (Mark: DESIGN CHOICE, log 143.) -/
def execDroopDetect (f : FieldId) (s : State) : Out :=
  if !s.inService f.val || s.flag RF.PWR_FLD_STAT_STRETCHING f.val 0 then .next s
  else
    let s1 := (s.setFlag RF.PWR_FLD_STAT_STRETCHING f.val 0 true).addSat RF.PWR_FLD_DROOP_COUNT f.val 0 1
    .next (s1.modPower (fun p => { p with stretched := setInsert f.val p.stretched }))

/-- DROOP_RELEASE, R539: the stretch ends after `cycles` stretched mill cycles. -/
def execDroopRelease (f : FieldId) (cycles : Nat) (s : State) : Out :=
  if !s.flag RF.PWR_FLD_STAT_STRETCHING f.val 0 then .next s
  else .next ((s.setFlag RF.PWR_FLD_STAT_STRETCHING f.val 0 false).addWrap
    RF.PWR_FLD_STRETCH_COUNT f.val 0 cycles)

/-- DROOP_WINDOW_EXPIRE, R539: `cycles` stretched cycles within a 100 ms window. -/
def execDroopWindowExpire (f : FieldId) (cycles : Nat) (s : State) : Out :=
  if s.getF RF.PWR_FLD_DROOP_THRESH_THRESH f.val 0 < cycles then .next (s.raise RF.PWR_EVENT_DROOP 0)
  else .next s

/-! ### Thermal -/

/-- THERM_WARN_CROSS, R543: a field's die temperature, in °C, crosses the warning threshold.
(Mark: DESIGN CHOICE, log 143.) -/
def execThermWarnCross (_f : FieldId) (celsius : BitVec 8) (s : State) : Out :=
  if s.getF RF.PWR_THERM_CTL_WARN 0 0 ≤ celsius.toNat ∧ s.boot.stage ≠ .off then
    .next (s.raise RF.PWR_EVENT_THERM_WARN 0)
  else .next s

/-- A freeze or a thermal trip ends a self-test suite (R676, R677), and so does ABORT (R679): the running
test is ABORTED, later tests keep NOT_RUN, and the restore is due. -/
def State.bistStop (s : State) : State :=
  let st := s.getF RF.BIS_STAT_STATE 0 0
  let t := s.getF RF.BIS_STAT_TEST 0 0
  if st = 1 then s.setF RF.BIS_STAT_STATE 0 0 3
  else if st = 2 then
    (s.setF RF.BIS_RESULTt_CODE 0 t 4).setF RF.BIS_RESULTt_DURATION_US 0 t ((s.now - s.bist.testBegan) / 1000)
      |>.setF RF.BIS_STAT_STATE 0 0 3
  else s

/-- THERMAL_TRIP, R543: the sensor is recorded and the wafer halts; before the end of stage 3 it is a
wafer fault (R728).  `kind` is 0 die, 1 HBM, 2 bridge. -/
def execThermalTrip (kind : Fin 3) (field : BitVec 7) (s : State) : Out :=
  if s.halted ∨ s.boot.stage = .off ∨ s.boot.stage = .halted then .next s
  else
    let s1 := s.setFlag RF.PWR_THERM_CTL_TRIPPED 0 0 true
      |>.setF RF.PWR_THERM_CTL_SENSOR_FIELD 0 0 field.toNat
      |>.setF RF.PWR_THERM_CTL_SENSOR_KIND 0 0 kind.val
    if s.boot.stage = .hearth ∨ s.boot.stage = .reeve ∨ s.boot.stage = .clock ∨ s.boot.stage = .hbm then
      .next (s1.waferFault 3)
    else
      let s2 := (s1.setFlag RF.PWR_MOD_STAT_HALTED 0 0 true).modPower (fun p => { p with
        haltedAt := s.now, calDirty := true })
      .next (s2.bistStop.raise RF.PWR_EVENT_THERM_TRIP 0)

/-- The end of a halt (R544, R630): times go on, held doorbells and waiting resets run. -/
def State.endHalt (s : State) : State :=
  if !s.halted then s
  else
    let s1 := (s.setFlag RF.PWR_MOD_STAT_HALTED 0 0 false).setFlag RF.PWR_THERM_CTL_TRIPPED 0 0 false
    let s2 := s1.shiftTimes ((if s.frozen then s.power.frozenAt else s.now) - s.power.haltedAt)
    if s2.frozen then s2 else s2.releaseDoorbells.startWaiting

/-- THERM_RESUME, R544: `cool` says that every sensor is at least 15 °C below its trip threshold. -/
def State.thermResume (s : State) (cool : Bool) : State :=
  if !s.halted then s
  else if cool then s.endHalt
  else s.setFlag RF.PWR_MOD_STAT_CMD_ERR 0 0 true |>.raise RF.PWR_EVENT_MODE_DONE 0

def execThermResume (cool : Bool) (s : State) : Out := .next (s.thermResume cool)

end Sys2Proof.Machine
end

