-- ==== Sys2Proof/Machine/Hearth.lean ====
section
/-! DEFINITION. Supply sag and the hearth ledger (R554–R573): the triggers, the record built from the
save shadow, load shedding, the commit, M-off (R528), and the end of a P-state transition. -/

namespace Sys2Proof.Machine

def State.modHearth (s : State) (g : Hearth → Hearth) : State := { s with hearth := g s.hearth }

/-- Is a save in progress (R556)? -/
def State.saving (s : State) : Bool := s.hearth.save.isSome

/-! ### What survives a loss of power -/

/-- Registers whose values the ledger or the fuses hold (R457, R459, R461, R566, R573, R604, R774). -/
def keptInLedger : Reg → Bool
  | .FAB_NUM => true
  | .FAB_CTL => true
  | .FAB_MAP_GEN => true
  | .FAB_MAPp => true
  | .FAB_FARr => true
  | .VRN_LNK_CTL => true
  | .VRN_PORTp_CTL => true
  | .HRT_SAG_CTL => true
  | .HRT_LEDGER_UNREAD => true
  | .RVE_LIFECYCLE => true
  | .RVE_IMAGES => true
  | .HRT_SYS_STATE => true
  | _ => false

/-- A TARGET of QUIET or TEST is persisted as UP (R457). -/
def State.storedTargets (s : State) : State :=
  (List.range 56).foldl (fun (t : State) k =>
    if 2 ≤ t.getF RF.VRN_LNK_CTL_TARGET k 0 then t.setF RF.VRN_LNK_CTL_TARGET k 0 1 else t) s

/-- The module without power: the ledger, the fuses and boot flash are what is left (R419, R565, R599,
R618).  The queue, the time and the record of what was sent are the model's own. (Mark: DEDUCED, log 198.) -/
def State.powerLost (s : State) : State :=
  let s1 : State := { State.reset with
    now := s.now, serial := s.serial, pending := s.pending, out := s.out
    regs := s.regs.filter (fun e => keptInLedger e.1.reg)
    resets := { State.reset.resets with warmTimes := s.resets.warmTimes }
    reeve := { State.reset.reeve with
      fuses := s.reeve.fuses, slots := s.reeve.slots, selected := s.reeve.selected
      activated := s.reeve.activated, ownerKey := s.reeve.ownerKey
      returnPending := s.reeve.returnPending, crashed := s.reeve.crashed }
    boot := { State.reset.boot with perst := s.boot.perst }
    hearth := { s.hearth with save := none, qualified := false }
    pins := { State.reset.pins with pads := s.pins.pads } }
  (s1.setFlag RF.RVE_LIFECYCLE_DEBUG_UNLOCKED 0 0 false).setFlag RF.RVE_LIFECYCLE_RECOVERY_MODE 0 0 false
    |>.storedTargets

/-! ### The record, R560–R563 -/

def causePin : Nat := 0x01
def causeVin : Nat := 0x02
def causeBoth : Nat := 0x03
def causeOff : Nat := 0x10

/-- The first-error captures of the pages, with the place of their VALID bit (R509, R562). -/
def captureRegs : List (Reg × Nat) :=
  [(.FLD_CMN_ERR_STATUS, 6), (.TLY_ERR_STATUS, 15), (.QRN_ERR_STATUS, 24), (.SIV_ERR_STATUS, 24),
    (.CRN_ERR_STATUS, 24), (.SCR_ERR_STATUS, 24), (.LOM_ERR_STATUS, 24), (.HBM_ERR_STATUS, 16),
    (.HBM_GRAN_ERR, 36), (.HST_FN_WIN_ERR, 7)]

/-- One entry per first-error capture: page code with instance, register offset, value, fabric time. -/
def State.captures (s : State) : List (List Nat) :=
  s.regs.filterMap (fun e =>
    match captureRegs.find? (fun c => decide (c.1 = e.1.reg)), e.1.reg.info.page with
    | some c, some p =>
      if e.2.getLsbD c.2 then
        some [p.info.code + e.1.inst.val * 65536, e.1.reg.info.base, e.2.toNat,
          (s.rd .HDR_ERR_TIME (hdrInst p e.1.inst.val) 0).toNat]
      else none
    | _, _ => none)

/-- Section 0 in the order of the table of R562; the rail reached during a transition is a free value.
(Marks: DESIGN CHOICE, log 147; DEDUCED, log 197.) -/
def State.saveState (s : State) (k : Nat) : List Nat :=
  let up := decide (s.pTarget < s.pCurrent)
  let phase := if !s.pBusy then 0 else if s.power.switched then 2 else if up then 1 else 0
  let frz := s.getF RF.ASY_FRZ_STAT_STATE 0 0
  [s.fabricTime, s.getF RF.FAB_TIME_CTL_TSTATE 0 0, s.modState, (s.power.target.map (· + 1)).getD 0,
    s.pCurrent, s.pTarget, b2n s.pBusy, phase, Config.freeNat k 0 % 1001,
    (List.range 80).foldl (fun n f => n + s.fieldPower f * 4 ^ f) 0,
    listMask ((List.range 80).filter s.inService),
    (if frz = 0 then 0 else 1 + 2 * s.getF RF.ASY_FRZ_STAT_SOURCE 0 0 + 8),
    b2n s.halted, s.getF RF.FAB_NUM_EPOCH 0 0, s.now / 10]

/-- The record at the trigger, from the save shadow (R560). -/
def State.draftRecord (s : State) (cause : Nat) : LedgerRecord × State :=
  let (k, s1) := s.fresh
  let flags := 8 * b2n (!s.flag RF.HRT_SHADOW_STAT_VALID 0 0) + 32 * b2n (s.flag RF.HRT_HOLDUP_HOLDUP_LOW 0 0)
  let open_ := s.seq.sheaves.filter (fun x => decide (x.phase ≠ .waiting))
  ({ seq := (s.hearth.slots.map (fun x => x.2.seq + 1)).foldl max 0
     cause := cause, flags := flags, committed := false, serial := k
     state := s.saveState k
     musters := (List.range 64).map (fun m =>
       [s.getF RF.WFR_MUSm_CTL_HANDLE 0 m, s.getF RF.WFR_MUSm_CTL_KIND 0 m,
         s.getF RF.WFR_MUSm_CTL_PARISH 0 m, s.getF RF.WFR_MUSm_CTL_STATE 0 m,
         s.getF RF.WFR_MUSm_CTL_EPOCH 0 m])
     sheaves := open_.map (fun x => [s.sheafIdOf (some x.serial), x.ring, x.parish, 1])
     errors := s.captures
     energy := [s.getF RF.PWR_ENERGY_TOTAL_UJ 0 0, s.getF RF.PWR_ENERGY_RECOVERY_UJ 0 0,
       s.getF RF.PWR_ENERGY_OVERHEAD_UJ 0 0] ++
       (List.range 32).map (fun p => s.getF RF.PWR_PARn_ENERGY_UJ 0 p) ++
       (List.range 80).map (fun f => s.getF RF.PWR_FLD_ENERGY_UJ f 0)
     reeve := 0 }, s1)

/-! ### Triggers -/

def setRecordFlag (r : LedgerRecord) (b : Nat) : LedgerRecord := { r with flags := r.flags ||| 2 ^ b }

/-- A second trigger is recorded (R555): in the hearth cycle of the first, both causes; during a commanded
off, SAG_DURING_OFF (R564). -/
def secondTrigger (x : Save) (now cause : Nat) : Save :=
  if x.draft.cause = causeOff then { x with draft := setRecordFlag x.draft 1 }
  else if (x.draft.cause = causePin ∧ cause = causeVin ∨ x.draft.cause = causeVin ∧ cause = causePin) ∧
      now / 10 = x.time / 10 then { x with draft := { x.draft with cause := causeBoth } }
  else { x with draft := setRecordFlag x.draft 0 }

/-- A trigger (R555–R557, R564): the shadow is frozen into a record, and the load is shed.  Before the
hearth is alive nothing is saved; before the Reeve has started REEVE_ABSENT is set (R570).
(Mark: DEDUCED, log 145.) -/
def State.saveTrigger (s : State) (cause : Nat) : State :=
  match s.hearth.save with
  | some x => s.modHearth (fun h => { h with save := some (secondTrigger x s.now cause) })
  | none =>
    if s.boot.stage = .off then s
    else if !s.boot.hearthAlive then s.powerLost
    else
      let (r, s1) := s.draftRecord cause
      let started := decide (s.boot.stage ≠ .hearth)
      let r1 := if started then r else setRecordFlag r 4
      s1.powerLost.modHearth (fun h => { h with
        save := some ⟨r1, !started, started, s.now⟩ })

/-- PWR_FAIL_ASSERT, R555; a PIN test cuts the pin from its function (R671). (Mark: DEDUCED, log 145.) -/
def execPwrFailAssert (s : State) : Out :=
  if !s.flag RF.HRT_SAG_CTL_PIN_EN 0 0 ||
      (decide (s.getF RF.BIS_STAT_STATE 0 0 = 2) && decide (s.getF RF.BIS_STAT_TEST 0 0 = 2)) then .next s
  else .next (s.saveTrigger causePin)

/-- VIN_SAG_DETECT, R555. -/
def execVinSagDetect (s : State) : Out := .next (s.saveTrigger causeVin)

/-- PWR_FAIL_GLITCH, R573. -/
def execPwrFailGlitch (s : State) : Out :=
  .next (if s.boot.hearthAlive then s.addSat RF.HRT_PWRFAIL_GLITCH_COUNT 0 0 1 else s)

/-- A freeze request at or after the trigger: section 0 records it with its source (R567). -/
def State.noteFreeze (s : State) (source : Nat) : State :=
  s.modHearth (fun h => { h with save := h.save.map (fun (x : Save) => { x with
    draft := { x.draft with state := x.draft.state.set 11 ((x.draft.state.getD 11 0 / 8) * 8 + 1 + 2 * source) } }) })

/-! ### The save -/

/-- REEVE_SECTION_HANDOVER, R564: section 5, of at most 8,192 bytes. -/
def execReeveSectionHandover (bytes : Fin 8193) (s : State) : Out :=
  match s.hearth.save with
  | none => .next s
  | some x =>
    if x.settled then .next s
    else .next (s.modHearth (fun h => { h with
      save := some { x with settled := true, draft := { x.draft with reeve := bytes.val } } }))

/-- REEVE_HANDOVER_TIMEOUT, R564: REEVE_ABSENT. -/
def execReeveHandoverTimeout (s : State) : Out :=
  match s.hearth.save with
  | none => .next s
  | some x =>
    if x.settled then .next s
    else .next (s.modHearth (fun h => { h with
      save := some { x with settled := true, draft := setRecordFlag x.draft 4 } }))

/-- The slot with the highest SEQ that `p` selects. -/
def newestSlot (l : List (Nat × LedgerRecord)) (p : LedgerRecord → Bool) : Option (Nat × LedgerRecord) :=
  (l.filter (fun x => p x.2)).foldl (fun a x => match a with
    | some y => if y.2.seq ≤ x.2.seq then some x else some y
    | none => some x) none

/-- The slot the next record takes (R561). -/
def State.nextSlot (s : State) : Nat :=
  match newestSlot s.hearth.slots (fun r => r.committed) with
  | some x => (x.1 + 1) % 16
  | none => 0

/-- Write the record into its slot and stop (R561, R565): a record that was never acknowledged is
overwritten with OVERWROTE. -/
def State.endSave (s : State) (x : Save) (committed : Bool) : State :=
  let k := s.nextSlot
  let lost := (s.hearth.slots.any (fun y => decide (y.1 = k) && y.2.committed)) &&
    (s.getF RF.HRT_LEDGER_UNREAD_SLOTS 0 0).testBit k
  let r := { (if lost then setRecordFlag x.draft 2 else x.draft) with committed := committed }
  let s1 := s.modHearth (fun h => { h with
    save := none, restart := some x.draft.cause, qualified := false
    slots := (h.slots.filter (fun y => decide (y.1 ≠ k))) ++ [(k, r)] })
  let unread := s.getF RF.HRT_LEDGER_UNREAD_SLOTS 0 0
  { s1.setF RF.HRT_LEDGER_UNREAD_SLOTS 0 0
      (if committed then unread ||| 2 ^ k else unread &&& (65535 - 2 ^ k)) with
    reeve := { s1.reeve with crashed := if committed then false else s1.reeve.crashed } }

/-- RECORD_COMMIT, R564: section 5, header, CRC and COMMIT are written; hearth and Reeve halt.
(Mark: DEDUCED, log 148.) -/
def execRecordCommit (s : State) : Out :=
  match s.hearth.save with
  | none => .next s
  | some x => if x.settled then .next (s.endSave x true) else .next s

/-- HOLDUP_EXHAUSTED, R565: the record has no COMMIT. (Mark: DESIGN CHOICE, log 147.) -/
def execHoldupExhausted (s : State) : Out :=
  match s.hearth.save with
  | none => .next s
  | some x => .next (s.endSave x false)

/-- VIN_QUALIFIED, R565: `low` says that VIN stayed below 40 V for 100 ms before; after a commanded off
that must come first. -/
def execVinQualified (low : Bool) (s : State) : Out :=
  match s.hearth.restart with
  | none => .next s
  | some c =>
    if s.saving || decide (s.boot.stage ≠ .off) || (decide (c = causeOff) && !low) then .next s
    else .next (s.modHearth (fun h => { h with qualified := true }))

/-! ### M-off, R528, and the end of a P-state transition -/

/-- A commanded OFF (R524, R528, R722): the record is written on command, with its own cause. -/
def State.modOffNow (s : State) (src : Nat) : State :=
  let s0 := s.setF RF.PWR_MOD_STAT_SOURCE 0 0 src
  if s.boot.stage = .off then s
  else if 2 < s.modState ∨ s.power.target.isSome then s0.pwrErr
  else s0.saveTrigger causeOff

/-- A module command of any target, taken now. -/
def State.modAnyNow (s : State) (target src : Nat) : State :=
  if target = 3 then s.modOffNow src else s.modCommandNow target src

/-- PWR_MOD_CTL with GO (R522, R545): a module command waits for a P-state transition in progress. -/
def State.modAny (s : State) (target src : Nat) : State :=
  if target ≠ 3 then s.modCommand target src
  else
    let s1 := s.setF RF.PWR_MOD_CTL_TARGET 0 0 3
    if s.boot.stage = .off then s
    else if s.pBusy then s1.modPower (fun p => { p with waiting := p.waiting ++ [(3, src)] })
    else s1.modOffNow src

/-- MOD_TARGET_OFF, R528. (Mark: DEDUCED, log 148.) -/
def execModTargetOff (src : Fin 3) (s : State) : Out := .next (s.modAny 3 src.val)

/-- The transition's clocks have switched and its rails have settled: BUSY clears, a later target starts
its own transition (R533), and the module commands that waited run (R545). -/
def State.pSettle (s : State) : State :=
  if !s.pBusy || !s.power.switched || !s.power.settled then s
  else
    let s1 := s.setFlag RF.PWR_PSTATE_BUSY 0 0 false
    if s1.pTarget ≠ s1.pCurrent then s1.pStart
    else s.power.waiting.foldl (fun (t : State) c => t.modAnyNow c.1 c.2)
      (s1.modPower (fun p => { p with waiting := [] }))

/-- PSTATE_CLOCK_SWITCH, R532: all fields switch, which completes the transition; not while frozen or
halted (R546, R547). (Mark: DEDUCED, log 139.) -/
def execPstateClockSwitch (s : State) : Out :=
  if !s.pBusy || s.power.switched || s.frozen || s.halted then .next s
  else
    let t := s.pTarget
    let s1 := (s.setF RF.PWR_PSTATE_CURRENT 0 0 t).setNominal t
    let s2 := (s1.modPower (fun p => { p with switched := true })).raise RF.PWR_EVENT_PSTATE_DONE 0
    .next s2.pSettle

/-- PSTATE_RAIL_SETTLED, R532: every rail is within 10 mV of the target's nominal.
(Mark: DEDUCED, log 139.) -/
def execPstateRailSettled (s : State) : Out :=
  if !s.pBusy || (!s.power.switched && decide (s.pCurrent ≤ s.pTarget)) then .next s
  else .next (s.modPower (fun p => { p with settled := true })).pSettle

end Sys2Proof.Machine
end

