-- ==== Sys2Proof/Machine/Reeve.lean ====
section
/-! DEFINITION. The Reeve (R574–R604, R771–R773, R812): the mailbox, nonces and signed commands,
tenant binding and the scrub, firmware and lifecycle, attestation, entropy. -/

namespace Sys2Proof.Machine

def State.modReeve (s : State) (g : Reeve → Reeve) : State := { s with reeve := g s.reeve }

/-- RVE_LIFECYCLE.STATE (R604). -/
def State.lifecycle (s : State) : Nat := s.getF RF.RVE_LIFECYCLE_STATE 0 0

def lcBlank : Nat := 0
def lcManufacture : Nat := 1
def lcProvisioned : Nat := 2
def lcDeployed : Nat := 3
def lcReturn : Nat := 4
def lcScrapped : Nat := 5

/-! ### Mailbox, R576, R771–R773 -/

def mbxOk : Nat := 0x00
def mbxBusy : Nat := 0x01
def mbxState : Nat := 0x02
def mbxSignature : Nat := 0x03
def mbxNonce : Nat := 0x04
def mbxMalformed : Nat := 0x05
def mbxEntropy : Nat := 0x06
def mbxSpread : Nat := 0x07
def mbxEpoch : Nat := 0x08
def mbxVerifyFail : Nat := 0x09
def mbxDenied : Nat := 0x0A
def mbxRollback : Nat := 0x0B

/-- Free response data: its length and its bytes are not stated. (Mark: DESIGN CHOICE, log 151.) -/
def State.freeData (s : State) : List Byte × State :=
  let (k, s1) := s.fresh
  ((List.range (Config.freeNat k 0 % 4097)).map (Config.freeByte k), s1)

/-- The Reeve posts a result (R772): for the physical function the result, the response and DONE
become valid together; the other sources receive a message. -/
def State.mbxPost (s : State) (src : MbxSource) (result : Nat) (data : List Byte) : State :=
  if src = .pf then
    (((s.setF RF.RVE_MBX_STAT_RESULT 0 0 result).setF RF.RVE_MBX_STAT_RESP_LENGTH 0 0 data.length).setFlag
      RF.RVE_MBX_STAT_BUSY 0 0 false |>.addWrap RF.RVE_MBX_STAT_COMPLETED 0 0 1
      |>.modReeve (fun r => { r with response := data })).raise RF.RVE_MBX_EVENT_DONE 0
  else s.send (.mailbox src result data)

/-- Post a result without data. -/
def State.mbxEnd (s : State) (src : MbxSource) (result : Nat) : State := s.mbxPost src result []

/-- Has stage 1 not ended yet (R722)? -/
def State.beforeReeve (s : State) : Bool :=
  decide (s.boot.stage = .hearth) || decide (s.boot.stage = .reeve)

/-- May a command run in the present lifecycle and boot state (R579, R582)? (Mark: DEDUCED, log 149.) -/
def State.mbxServes (s : State) (code : Nat) : Bool :=
  decide (code = 0x40) ||
    (decide (s.lifecycle ≠ lcScrapped) &&
      (!s.flag RF.RVE_LIFECYCLE_RECOVERY_MODE 0 0 ||
        [0x01, 0x02, 0x20, 0x21].contains code))

/-- Take a mailbox command of a code and its permitted sources (R576, R772): a GO of the physical
function while BUSY is rejected, and before the end of stage 1 every command but GET_STATUS waits.
`run` performs it. (Mark: DEDUCED, log 149.) -/
def State.mailbox (s : State) (src : MbxSource) (code : Nat) (allowed : List MbxSource)
    (run : State → State) : State :=
  let serve := fun (t : State) =>
    if !allowed.contains src then t.mbxEnd src mbxDenied
    else if !t.mbxServes code then t.mbxEnd src mbxState
    else run t
  if s.boot.stage = .off then s
  else if src = .pf then
    if s.flag RF.RVE_MBX_STAT_BUSY 0 0 && decide (s.reeve.posted ≠ some code) then
      s.raise RF.RVE_MBX_EVENT_REJECTED 0
    else
      let s1 := s.setFlag RF.RVE_MBX_STAT_BUSY 0 0 true
      if s.beforeReeve && decide (code ≠ 0x01) then s1.modReeve (fun r => { r with posted := some code })
      else serve (s1.modReeve (fun r => { r with posted := none }))
  else if s.beforeReeve && decide (code ≠ 0x01) then s
  else serve s

/-! ### Entropy, R595–R597 -/

/-- Is entropy ready? -/
def State.entropyReady (s : State) : Bool := decide (s.getF RF.RVE_RNG_STAT_STATE 0 0 = 1)

/-- One generate request of the DRBG. (Mark: DESIGN CHOICE, log 153.) -/
def State.drbgRequest (s : State) : State := s.modReeve (fun r => { r with requests := r.requests + 1 })

/-- Seed the DRBG (R595). -/
def State.drbgSeed (s : State) : State :=
  s.modReeve (fun r => { r with seededAt := s.now, requests := 0 })

/-- The next DRBG output in RVE_RNG_DATA: whether it is ready at once is a free choice, and its value is
free; without entropy it reads zero (R596, R597, R604). (Mark: DESIGN CHOICE, log 152.) -/
def State.rngNext (s : State) : State :=
  let (k, s1) := s.fresh
  if s1.entropyReady && Config.freeBool k 0 then
    (s1.drbgRequest.wr .RVE_RNG_DATA 0 0 (BitVec.ofNat 64 ((Config.freeWord k 0).toNat % 2 ^ 32))).setFlag
      RF.RVE_RNG_DATA_VALID 0 0 true
  else
    ((s1.wr .RVE_RNG_DATA 0 0 0#64).setFlag RF.RVE_RNG_DATA_ENTROPY_PENDING 0 0
      (decide (s1.getF RF.RVE_RNG_STAT_STATE 0 0 = 0))).setFlag RF.RVE_RNG_DATA_FAULT 0 0
      (decide (2 ≤ s1.getF RF.RVE_RNG_STAT_STATE 0 0))

/-- Derive and load the granary key of a parish, after a reseed (R595, R413). -/
def State.deriveKey (s : State) (p : Nat) : State :=
  (s.drbgSeed.drbgRequest).setFlag RF.RVE_PARp_BIND_KEY_LOADED 0 p true

/-- ENTROPY_STARTUP_DONE, R595–R597, R711: the start-up test has passed and the DRBG is seeded; bound
parishes without a key receive one (R724). -/
def execEntropyStartupDone (s : State) : Out :=
  let st := s.getF RF.RVE_RNG_STAT_STATE 0 0
  if s.boot.stage = .off ∨ s.boot.stage = .hearth ∨ (st ≠ 0 ∧ st ≠ 2) then .next s
  else
    let s1 := ((s.setF RF.RVE_RNG_STAT_STATE 0 0 1).drbgSeed).rngNext
    let s2 := if st = 0 then
        (s1.setFlag (bootF 10 1) 0 0 false).setF (bootF 0 16) 0 3
          (min 0xFFFE ((s.now - s.reeve.startedAt) / 1000000))
      else s1
    let s3 := (List.range 32).foldl (fun (t : State) p =>
      if t.flag RF.RVE_PARp_BIND_BOUND 0 p && !t.flag RF.RVE_PARp_BIND_KEY_LOADED 0 p then t.deriveKey p
      else t) s2
    .next s3.granRefresh

/-- ENTROPY_HEALTH_FAIL, R597: after the first seed the DRBG stops and the start-up test reruns, up to
3 times; the third failed rerun leaves FAULT. -/
def execEntropyHealthFail (s : State) : Out :=
  let st := s.getF RF.RVE_RNG_STAT_STATE 0 0
  if s.boot.stage = .off ∨ s.boot.stage = .hearth then .next s
  else
    let s1 := s.addSat RF.RVE_RNG_STAT_FAILURES 0 0 1
    let s2 := match st with
      | 0 => s1
      | 1 => (s1.setF RF.RVE_RNG_STAT_STATE 0 0 2).setF RF.RVE_RNG_STAT_RERUNS 0 0 1
      | 2 => if s1.getF RF.RVE_RNG_STAT_RERUNS 0 0 = 3 then s1.setF RF.RVE_RNG_STAT_STATE 0 0 3
             else s1.setF RF.RVE_RNG_STAT_RERUNS 0 0 (s1.getF RF.RVE_RNG_STAT_RERUNS 0 0 + 1)
      | _ => s1
    .next s2.rngNext.granRefresh

/-- DRBG_RESEED, R595: after 2^16 generate requests or 1 s. -/
def execDrbgReseed (s : State) : Out :=
  if s.entropyReady && (decide (65536 ≤ s.reeve.requests) || decide (1000000000 ≤ s.now - s.reeve.seededAt))
  then .next s.drbgSeed
  else .next s

/-- RNG_DATA_READ, R604: the read consumes a valid output. (Mark: DESIGN CHOICE, log 152.) -/
def State.rngRead (s : State) : Word × State :=
  let v := s.rd .RVE_RNG_DATA 0 0
  (v, s.rngNext)

def execRngDataRead (s : State) : Out :=
  .next (s.rngRead.2.send (.regRead s.rngRead.1))

/-! ### Nonces and signed commands, R577 -/

def nonceLife : Nat := 10000000000

/-- Consume a command's nonce: OK, NONCE, or SIGNATURE for a signature that does not hold or that names
another unit.  The nonce is checked before the signature. (Mark: DEDUCED, log 150.) -/
def State.checkSigned (s : State) (src : MbxSource) (x : Signed) : Nat × State :=
  let live := s.reeve.nonces.any (fun n => decide (n.1 = src ∧ n.2.1 = x.nonce) &&
    decide (s.now - n.2.2 < nonceLife))
  let s1 := s.modReeve (fun r => { r with
    nonces := r.nonces.filter (fun n => !decide (n.1 = src ∧ n.2.1 = x.nonce)) })
  if !live then (mbxNonce, s1)
  else if decide (x.unit ≠ Config.unitIdentity) || !x.ok then (mbxSignature, s1)
  else (mbxOk, s1)

/-- REEVE_GET_STATUS, R576: its response data have no stated layout. (Mark: DESIGN CHOICE, log 151.) -/
def execReeveGetStatus (src : MbxSource) (s : State) : Out :=
  .next (s.mailbox src 0x01 [.pf, .smbus, .tap] (fun t =>
    let (d, t1) := t.freeData
    t1.mbxPost src mbxOk d))

/-- REEVE_GET_NONCE, R577: a 16-byte nonce of the DRBG. (Mark: DESIGN CHOICE, log 153.) -/
def execReeveGetNonce (src : MbxSource) (s : State) : Out :=
  .next (s.mailbox src 0x02 [.pf, .smbus, .tap] (fun t =>
    if !t.entropyReady then t.mbxEnd src mbxEntropy
    else
      let (k, t1) := t.drbgRequest.fresh
      let d := (List.range 16).map (Config.freeByte k)
      (t1.modReeve (fun r => { r with
        nonces := r.nonces ++ [(src, BitVec.ofNat 128 (leNat d), t.now)] })).mbxPost src mbxOk d))

/-- NONCE_EXPIRE, R577: nonces older than 10 s are gone. -/
def execNonceExpire (s : State) : Out :=
  .next (s.modReeve (fun r => { r with
    nonces := r.nonces.filter (fun n => decide (s.now - n.2.2 < nonceLife)) }))

/-! ### The scrub, R590–R592 -/

/-- First granule and number of granules of the spread area. -/
def State.spreadArea (s : State) : Nat × Nat := (s.spreadBase / 65536, s.spreadSize / 65536)

/-- The granules a scrub for parish `p` covers in a field (R590 step 4): all of them, but for a spread
area that another parish owns. -/
def State.scrubRanges (s : State) (p f : Nat) : List (Nat × Nat) :=
  let owner := s.getF RF.WFR_SPREAD_CTL_OWNER 0 0
  if s.slotted f && decide (owner ≠ p) && decide (owner < 32) then
    let (b, n) := s.spreadArea
    [(0, b), (b + n, 524288 - (b + n))].filter (fun r => decide (r.2 ≠ 0))
  else [(0, 524288)]

/-- Does some scrub hold the field? -/
def State.inSomeScrub (s : State) (f : Nat) : Bool :=
  s.reeve.scrubs.any (fun x => x.fields.any (fun y => decide (y.field = f)))

/-- SCRUBBING of every field follows the scrubs. -/
def State.showScrubs (s : State) (l : List Nat) : State :=
  l.foldl (fun (t : State) f => t.setFlag RF.RVE_FLDf_OWNER_SCRUBBING 0 f (t.inSomeScrub f)) s

/-- The end of a binding or a release (R588–R590, steps 6 and 7): keys, binding and owner records; the
held accesses are released and the result is posted. -/
def State.scrubFinish (dev : DeviceAccess) (s : State) (x : Scrub) : State :=
  let p := x.parish
  let bad := x.fields.filter (fun y => decide (y.phase = .failed))
  let s1 := x.fields.foldl (fun (t : State) y =>
    if y.clear && decide (y.phase = .done) then t.setOwner y.field 0 none else t) s
  let s2 :=
    if x.release then
      ((s1.wr .RVE_PARp_TAG 0 p 0#64).wr .RVE_PARp_BIND 0 p 0#64).modReeve (fun r => { r with
        tenantKeys := r.tenantKeys.put [] p [] })
    else
      let s3 := ((s1.wr .RVE_PARp_TAG 0 p (BitVec.ofNat 64 x.tag)).setF RF.RVE_PARp_BIND_KEY_EPOCH 0 p
          x.epoch).setFlag RF.RVE_PARp_BIND_BOUND 0 p true
      let s4 := (s3.setFlag RF.RVE_PARp_BIND_TENANT_KEY 0 p x.digest.isSome).modReeve (fun r => { r with
        tenantKeys := r.tenantKeys.put [] p (x.digest.getD []) })
      if !x.newKey then s4
      else if s4.entropyReady then s4.deriveKey p
      else s4.setFlag RF.RVE_PARp_BIND_KEY_LOADED 0 p false
  let s5 := ((s2.modReeve (fun r => { r with scrubs := r.scrubs.filter (fun y => y.parish != p) })).setF
    RF.RVE_SCRUB_IN_PROGRESS 0 0 (s2.getF RF.RVE_SCRUB_IN_PROGRESS 0 0 &&& (2 ^ 32 - 1 - 2 ^ p))).showScrubs
    (x.fields.map (·.field))
  let s6 := s5.modHost (fun h => { h with drain := h.drain.filter (· != p + 1) })
  let s7 := s6.granRefresh.releaseHeld dev (fun r =>
    x.fields.any (fun y => decide (y.field = (s6.placeAnyway r.addr).1)))
  let s8 := ((s7.dmaIssue (p + 1) 0 768).dmaIssue (p + 1) 1 768)
  let s9 := if s8.parishEffective p then s8.takeEffect p else s8
  if !bad.isEmpty then s9.mbxPost .pf mbxVerifyFail (bad.map (fun y => BitVec.ofNat 8 y.field))
  else if !x.release && !s9.flag RF.RVE_PARp_BIND_KEY_LOADED 0 p then s9.mbxEnd .pf mbxEntropy
  else s9.mbxEnd .pf mbxOk

/-- Drop the retired fields of every scrub (R600), and finish the scrubs whose fields are all done. -/
def State.settleScrubs (dev : DeviceAccess) (s : State) : State :=
  let gone := (s.reeve.scrubs.flatMap (fun x => x.fields)).filter (fun y => !s.inService y.field)
  let s1 := (s.modReeve (fun r => { r with
    scrubs := r.scrubs.map (fun (x : Scrub) => { x with
      fields := x.fields.filter (fun y => s.inService y.field) }) })).showScrubs (gone.map (·.field))
  (s1.reeve.scrubs.filter (fun x => x.fields.all (fun y =>
    decide (y.phase = .done) || decide (y.phase = .failed)))).foldl
      (fun (t : State) x => t.scrubFinish dev x) s1

/-- Start a scrub (R590 steps 1 and 2): accesses to the fields are held, the host tags of the parish's
function drain, and a grant ends (R593). -/
def State.scrubStart (dev : DeviceAccess) (s : State) (x : Scrub) : State :=
  let p := x.parish
  let s1 := (s.setFlag RF.RVE_PARp_BIND_ASSAY_GRANTED 0 p false).modReeve (fun r => { r with
    scrubs := r.scrubs ++ [x] })
  if x.fields.isEmpty then s1.scrubFinish dev x
  else
    ((s1.setF RF.RVE_SCRUB_IN_PROGRESS 0 0 (s1.getF RF.RVE_SCRUB_IN_PROGRESS 0 0 ||| 2 ^ p)).showScrubs
      (x.fields.map (·.field))).modHost (fun h => { h with drain := setInsert (p + 1) h.drain })

def State.scrubField (s : State) (p f : Nat) (clear : Bool) : ScrubField :=
  let l := if clear then s.scrubRanges p f else [s.spreadArea]
  { field := f, clear := clear, ranges := l, left := l, phase := .clearing, second := false, gen := 0 }

/-- May a binding of the parish change now (R588, R589)? (Mark: DEDUCED, log 154.) -/
def State.bindRefusal (s : State) (p : Nat) : Nat :=
  if (s.getF RF.RVE_SCRUB_IN_PROGRESS 0 0).testBit p then mbxBusy
  else if s.flag RF.WFR_PAR_CTL_ENABLE p 0 || s.flag RF.WFR_PAR_CANCEL_BUSY p 0 ||
      decide (s.lifecycle ≠ lcDeployed) then mbxState
  else if decide (s.getF RF.WFR_SPREAD_CTL_OWNER 0 0 = p) && s.flag RF.WFR_SPREAD_CTL_ENABLE 0 0 then mbxSpread
  else mbxOk

/-- Is epoch `f` newer than `e` in serial-number order (R475, R588)? -/
def epochNewer (e f : Nat) : Bool :=
  let d := (f + 2 ^ 32 - e % 2 ^ 32) % 2 ^ 32
  decide (1 ≤ d) && decide (d < 2 ^ 31)

/-- The in-service fields of a parish's set. -/
def State.parishFields (s : State) (p : Nat) : List Nat := (maskList (s.parishMask p) 80).filter s.inService

/-- TENANT_BIND, R588. (Mark: DEDUCED, log 154.) -/
def State.tenantBind (dev : DeviceAccess) (s : State) (p tag epoch : Nat) (physical : Bool)
    (digest : Option (List Byte)) : State :=
  let r := s.bindRefusal p
  if (match digest with
      | some d => decide (d.length ≠ 48)
      | none => false) then s.mbxEnd .pf mbxMalformed
  else if r ≠ mbxOk then s.mbxEnd .pf r
  else if s.flag RF.RVE_LIFECYCLE_DEBUG_UNLOCKED 0 0 then s.mbxEnd .pf mbxState
  else if !s.entropyReady then s.mbxEnd .pf mbxEntropy
  else
    let same := decide (s.binding p = some (tag, epoch))
    if !same && s.flag RF.RVE_PARp_BIND_BOUND 0 p &&
        !epochNewer (s.getF RF.RVE_PARp_BIND_KEY_EPOCH 0 p) epoch then s.mbxEnd .pf mbxEpoch
    else
      let clears := (s.parishFields p).filter (fun f =>
        if same then !s.fieldVerified p f else decide (s.owner f ≠ none))
      let areas :=
        if !same && decide (s.getF RF.WFR_SPREAD_CTL_OWNER 0 0 = p) then
          (List.range 80).filter (fun f => s.slotted f && decide (s.spreadSize ≠ 0) && s.inService f &&
            !clears.contains f)
        else []
      s.scrubStart dev {
        parish := p, release := false, newKey := !same, tag := tag, epoch := epoch
        physical := physical, digest := digest
        fields := clears.map (fun f => s.scrubField p f true) ++ areas.map (fun f => s.scrubField p f false) }

/-- TENANT_RELEASE, R589. -/
def State.tenantRelease (dev : DeviceAccess) (s : State) (p : Nat) (physical : Bool) : State :=
  let r := s.bindRefusal p
  if r ≠ mbxOk then s.mbxEnd .pf r
  else
    let l := (s.parishFields p).filter (fun f => decide (s.owner f ≠ none) && decide (s.owner f = s.binding p))
    s.scrubStart dev {
      parish := p, release := true, newKey := false, tag := 0, epoch := 0
      physical := physical, digest := none, fields := l.map (fun f => s.scrubField p f true) }

/-- TENANT_BIND, R588: its operands as the physical function gave them. -/
def execTenantBind (src : MbxSource) (p : ParishId) (tag : Word) (epoch : BitVec 32) (physical : Bool)
    (digest : Option (List Byte)) (s : State) : Out :=
  .next (s.mailbox src 0x10 [.pf] (fun t =>
    t.tenantBind noDevice p.val tag.toNat epoch.toNat physical digest))

/-- TENANT_RELEASE, R589, with the scrub mode it asks for. -/
def execTenantRelease (src : MbxSource) (p : ParishId) (physical : Bool) (s : State) : Out :=
  .next (s.mailbox src 0x11 [.pf] (fun t => t.tenantRelease noDevice p.val physical))

/-- The scrub that works on a field, with its entry. -/
def State.scrubOf (s : State) (f : Nat) : Option (Scrub × ScrubField) :=
  s.reeve.scrubs.findSome? (fun x => (x.fields.find? (fun y => decide (y.field = f))).map (fun y => (x, y)))

def State.setScrubField (s : State) (p : Nat) (y : ScrubField) : State :=
  s.modReeve (fun r => { r with scrubs := r.scrubs.map (fun (x : Scrub) =>
    if x.parish = p then
      { x with fields := x.fields.map (fun z => if z.field = y.field then y else z) }
    else x) })

/-- The field clear (R591, R145, R327): every storage of the field but HBM is zero, and nothing waits. -/
def State.fieldWipe (s : State) (f : Nat) : State :=
  let here := fun (w : Waiter) => decide (w.tally / 4096 = f)
  let waits := s.entries.filter here
  let s1 := waits.foldl (fun (t : State) w => match w.kind with
    | .wait o => t.answerWait o (t.tallyWord w.tally ||| abortedBit)
    | _ => t) (s.dropWaiters here)
  let s2 := ((s1.endFills f s1.commons.fills.length).clearSieve f 0).clearSieve f 1
  let s3 := (s2.modCairn f (fun _ => idleCairn)).cairnClear f
  let s4 := { s3 with
    mem := s3.mem.zeroRange (cellKey f 1 0) (2 ^ 42)
    engines := s3.engines.map (fun (e : Nat × Engine) => if e.1 / 32 = f then
      (e.1, { e.2 with queue := [], running := [], suspects := [], nextTag := 0, replaying := false }) else e)
    looms := s3.looms.forget f (f + 1)
    tallies := { s3.tallies with
      words := s3.tallies.words.forget (f * 4096) (f * 4096 + 4096)
      heldAdds := s3.tallies.heldAdds.filter (fun x => !decide (x.1 / 4096 = f))
      dup := s3.tallies.dup.forget (f * 80) (f * 80 + 80)
      peaks := s3.tallies.peaks.forget f (f + 1) }
    crofters := { s3.crofters with
      threads := s3.crofters.threads.filter (fun e => e.1 / 128 != f || decide (e.2.st = ThreadSt.fenced))
      launches := s3.crofters.launches.filter (fun l => l.field != f)
      issues := s3.crofters.issues.filter (fun i => i.field != f)
      bells := s3.crofters.bells.forget f (f + 1) } }
  s4.resetRegs (fun k => decide (k.inst.val = f) &&
    (decide (k.reg = Reg.CRF_FAULT_HEAD) || decide (k.reg = Reg.CRF_FAULTk) ||
      decide (k.reg = Reg.SCR_TAG)))

/-- Start the scrub of the next range of a field's HBM (R590 step 4). -/
def State.scrubRange (s : State) (x : Scrub) (y : ScrubField) : State :=
  match y.left with
  | [] => s
  | (g, n) :: _ =>
    let f := y.field
    ((s.setF RF.HBM_SCRUB_START_START f 0 g).setF RF.HBM_SCRUB_COUNT_GRANULES f 0 n).setScrubField x.parish
      { y with phase := .scrubbing, gen := s.getF RF.HBM_SCRUB_CTL_DONE_GEN f 0 }
      |>.scrubGo f (x.physical || y.second)

/-- A field failed its verification (R592): once more in PHYSICAL mode, then VERIFY_FAIL. -/
def State.scrubFailed (s : State) (x : Scrub) (y : ScrubField) : State :=
  if y.second then
    (s.setScrubField x.parish { y with phase := .failed }).setFlag RF.RVE_FLDf_OWNER_VERIFY_FAIL 0 y.field true
  else s.setScrubField x.parish { y with phase := .clearing, second := true, left := y.ranges }

/-- The field clear of a scrub ends, with ZERO_OK of every element or not (R590 steps 3 and 4, R591). -/
def State.fieldClearDone (dev : DeviceAccess) (s : State) (f : Nat) (zeroOk : Bool) : State :=
  let s0 := s.settleScrubs dev
  match s0.scrubOf f with
  | none => s0
  | some (x, y) =>
    if decide (y.phase ≠ .clearing) || s0.frozen || decide (s0.boot.stage ≠ .ready) || s0.inReset f ||
        s0.host.tags.any (fun t => t.fn == x.parish + 1) then s0
    else
      let s1 := if y.clear then s0.fieldWipe f else s0
      if zeroOk then s1.scrubRange x y else (s1.scrubFailed x y).settleScrubs dev

/-- A running HBM scrub of the field ends; `verified` says whether the checks of R592 hold then. -/
def State.scrubDone (dev : DeviceAccess) (s : State) (f : Nat) (verified : Bool) : State :=
  let s1 := (s.scrubEnd f).settleScrubs dev
  match s1.scrubOf f with
  | none => s1
  | some (x, y) =>
    if decide (y.phase ≠ .scrubbing) || s1.flag RF.HBM_SCRUB_CTL_BUSY f 0 || s1.frozen then s1
    else
      let good := decide (s1.getF RF.HBM_SCRUB_CTL_DONE_GEN f 0 ≠ y.gen) &&
        !s1.flag RF.HBM_SCRUB_CTL_ERR f 0 && !s1.flag RF.RVE_FLDf_OWNER_VERIFY_FAIL 0 f
      let left := y.left.drop 1
      if !good then (s1.scrubFailed x y).settleScrubs dev
      else if !left.isEmpty then s1.scrubRange x { y with left := left }
      else if !verified then (s1.scrubFailed x y).settleScrubs dev
      else (s1.setScrubField x.parish { y with phase := .done, left := [] }).settleScrubs dev

/-- REEVE_WATCHDOG_RESTART, R601: every scrub is rerun from its clear, with accesses still held.
(Mark: DEDUCED, log 155.) -/
def execReeveWatchdogRestart (s : State) : Out :=
  if s.boot.stage = .off ∨ s.boot.stage = .hearth then .next s
  else
    .next (s.modReeve (fun r => { r with
      crashed := true
      scrubs := r.scrubs.map (fun (x : Scrub) => { x with
        fields := x.fields.map (fun y => { y with phase := .clearing, second := false, left := y.ranges }) }) }))

/-! ### Assay grants, R593 -/

/-- ASSAY_GRANT, R593. (Mark: DEDUCED, log 150.) -/
def execAssayGrant (src : MbxSource) (p : ParishId) (sg : Signed) (s : State) : Out :=
  .next (s.mailbox src 0x12 [.pf] (fun t =>
    let (r, t1) := t.checkSigned src sg
    if !t1.flag RF.RVE_PARp_BIND_TENANT_KEY 0 p.val || !t1.flag RF.RVE_PARp_BIND_BOUND 0 p.val ||
        decide (t1.lifecycle ≠ lcDeployed) then t1.mbxEnd src mbxState
    else if r ≠ mbxOk then t1.mbxEnd src r
    else (t1.setFlag RF.RVE_PARp_BIND_ASSAY_GRANTED 0 p.val true).mbxEnd src mbxOk))

/-- ASSAY_REVOKE, R593. -/
def execAssayRevoke (src : MbxSource) (p : ParishId) (s : State) : Out :=
  .next (s.mailbox src 0x13 [.pf] (fun t =>
    (t.setFlag RF.RVE_PARp_BIND_ASSAY_GRANTED 0 p.val false).mbxEnd src mbxOk))

/-! ### Firmware, R578–R580 -/

/-- The slot that is not booted. -/
def State.idleSlot (s : State) : Nat := 1 - s.getF RF.RVE_IMAGES_BOOTED 0 0

/-- FW_STAGE, R580: an image of a class with its security version; `imageOk` says whether it passes the
signature check of R578. (Mark: DEDUCED, log 156.) -/
def execFwStage (src : MbxSource) (cls : Fin 5) (version : BitVec 5) (imageOk : Bool) (sg : Signed)
    (s : State) : Out :=
  .next (s.mailbox src 0x20 [.pf, .smbus] (fun t =>
    let (r, t1) := t.checkSigned src sg
    if t1.lifecycle = lcBlank then t1.mbxEnd src mbxState
    else if r ≠ mbxOk then t1.mbxEnd src r
    else if !imageOk then t1.mbxEnd src mbxSignature
    else if version.toNat < t1.reeve.fuses.getD cls.val 0 then t1.mbxEnd src mbxRollback
    else
      ((t1.modReeve (fun v => { v with
        slots := v.slots.set t1.idleSlot ((v.slots.getD t1.idleSlot []).set cls.val version.toNat) })).setFlag
          RF.RVE_IMAGES_STAGED 0 0 true).mbxEnd src mbxOk))

/-- FW_ACTIVATE, R580: it confirms the images that have booted, which advances the fuse counters, or
selects the staged slot for the next wafer cold reset. (Mark: DEDUCED, log 156.) -/
def execFwActivate (src : MbxSource) (s : State) : Out :=
  .next (s.mailbox src 0x21 [.pf, .smbus] (fun t =>
    if t.flag RF.RVE_IMAGES_CONFIRM 0 0 then
      let booted := t.reeve.slots.getD (t.getF RF.RVE_IMAGES_BOOTED 0 0) []
      ((t.modReeve (fun v => { v with
        fuses := (List.range 5).map (fun c => max (v.fuses.getD c 0) (booted.getD c 0)) })).setFlag
          RF.RVE_IMAGES_CONFIRM 0 0 false).mbxEnd src mbxOk
    else if t.flag RF.RVE_IMAGES_STAGED 0 0 then
      (t.modReeve (fun v => { v with activated := true })).mbxEnd src mbxOk
    else t.mbxEnd src mbxState))

/-! ### Lifecycle, R583–R586 -/

/-- Every key of the wafer is destroyed, with the bindings they served (R594). -/
def State.destroyKeys (s : State) : State :=
  ((List.range 32).foldl (fun (t : State) p =>
    ((t.parishDisable p).wr .RVE_PARp_TAG 0 p 0#64).wr .RVE_PARp_BIND 0 p 0#64) s).modReeve (fun r => { r with
      tenantKeys := [], nonces := [] }) |>.granRefresh

/-- Is the transition one of the table of R583, and who may sign it? (Mark: DEDUCED, log 157.) -/
def transition (src dst : Nat) (by_ : Signer) : Bool × Bool :=
  if src = lcBlank ∧ dst = lcManufacture then (true, by_ == .steundevo)
  else if src = lcManufacture ∧ dst = lcProvisioned then (true, by_ == .steundevo)
  else if src = lcProvisioned ∧ dst = lcDeployed then (true, by_ == .owner)
  else if src = lcDeployed ∧ dst = lcReturn then (true, by_ == .owner)
  else if src = lcReturn ∧ dst = lcProvisioned then (true, by_ == .steundevo)
  else if src ≠ lcScrapped ∧ dst = lcScrapped then (true, true)
  else (false, false)

/-- What entry to a lifecycle state performs (R583). (Mark: DEDUCED, log 157.) -/
def State.lifecycleEnter (s : State) (src dst : Nat) (ownerKey : List Byte) : State :=
  let s1 := s.setF RF.RVE_LIFECYCLE_STATE 0 0 dst
  if dst = lcProvisioned then
    (if src = lcReturn then s1.setF RF.RVE_LIFECYCLE_REFURB 0 0 (s1.getF RF.RVE_LIFECYCLE_REFURB 0 0 + 1)
     else s1).modReeve (fun r => { r with ownerKey := ownerKey })
  else if dst = lcReturn then
    let s2 := s1.destroyKeys.modReeve (fun r => { r with ownerKey := [] })
    ((List.range 80).filter s2.inService).foldl (fun (t : State) f =>
      ((t.setF RF.HBM_SCRUB_START_START f 0 0).setF RF.HBM_SCRUB_COUNT_GRANULES f 0 524288).scrubGo f true) s2
  else if dst = lcScrapped then
    let s2 := s1.destroyKeys.modReeve (fun r => { r with ownerKey := [] })
    let s3 := (List.range 80).foldl (fun (t : State) f => t.setF RF.PWR_FLD_STAT_STATE f 0 3) s2
    { s3 with boot := { s3.boot with stage := .halted } }
  else s1

/-- LIFECYCLE, R583, R680. -/
def execLifecycle (src : MbxSource) (target : Fin 6) (who : Signer) (ownerKey : List Byte) (sg : Signed)
    (s : State) : Out :=
  .next (s.mailbox src 0x30 [.pf, .smbus, .tap] (fun t =>
    let (r, t1) := t.checkSigned src sg
    let now := t1.lifecycle
    let (known, signer) := transition now target.val who
    if target.val = lcProvisioned ∧ ownerKey.length ≠ 48 then t1.mbxEnd src mbxMalformed
    else if t1.bistBusy || !known ||
        (decide (now = lcReturn) && decide (target.val = lcProvisioned) &&
          decide (t1.getF RF.RVE_LIFECYCLE_REFURB 0 0 = 3)) then t1.mbxEnd src mbxState
    else if r ≠ mbxOk then t1.mbxEnd src r
    else if !signer then t1.mbxEnd src mbxSignature
    else (t1.lifecycleEnter now target.val ownerKey).mbxEnd src mbxOk))

/-- DEBUG_UNLOCK, R585, R680. -/
def execDebugUnlock (src : MbxSource) (sg : Signed) (s : State) : Out :=
  .next (s.mailbox src 0x31 [.pf, .tap] (fun t =>
    let (r, t1) := t.checkSigned src sg
    if t1.bistBusy || decide (t1.lifecycle = lcBlank) then t1.mbxEnd src mbxState
    else if t1.lifecycle ≠ lcDeployed then t1.mbxEnd src mbxOk
    else if (List.range 32).any (fun p => t1.flag RF.RVE_PARp_BIND_BOUND 0 p) then t1.mbxEnd src mbxState
    else if r ≠ mbxOk then t1.mbxEnd src r
    else (t1.setFlag RF.RVE_LIFECYCLE_DEBUG_UNLOCKED 0 0 true).mbxEnd src mbxOk))

/-- RETURN_TO_SERVICE, R586: the mark is cleared at the next wafer cold reset. -/
def execReturnToService (src : MbxSource) (sg : Signed) (s : State) : Out :=
  .next (s.mailbox src 0x32 [.pf, .smbus] (fun t =>
    let (r, t1) := t.checkSigned src sg
    if r ≠ mbxOk then t1.mbxEnd src r
    else (t1.modReeve (fun v => { v with returnPending := true })).mbxEnd src mbxOk))

/-! ### Attestation, R581, R582 -/

/-- Answer one SPDM request: the response code with its fields; in the mailbox also the result, whose
data are the response's bytes, not modelled. -/
def State.spdmAnswer (s : State) (src : MbxSource) (kind : Nat) (fields : List Nat) : State :=
  let (d, s1) := s.freeData
  (s1.send (.spdm src kind fields)).mbxPost src mbxOk (if src = .pf then d else [])

def State.spdm (s : State) (src : MbxSource) (kind : Nat) (fields : State → List Nat) : State :=
  s.mailbox src 0x40 [.pf, .smbus] (fun t => t.spdmAnswer src kind (fields t))

/-- SPDM_GET_VERSION, R581: SPDM 1.2. -/
def execSpdmGetVersion (src : MbxSource) (s : State) : Out := .next (s.spdm src 0x04 (fun _ => [0x12]))

/-- SPDM_GET_CAPABILITIES, R581: certificates, challenge, and measurements with signature; no key
exchange, no mutual authentication, no CSR. -/
def execSpdmGetCapabilities (src : MbxSource) (s : State) : Out :=
  .next (s.spdm src 0x61 (fun _ => [0x16]))

/-- SPDM_NEGOTIATE_ALGORITHMS, R581: ECDSA P-384 and SHA-384 only; the requester's offers. -/
def execSpdmNegotiateAlgorithms (src : MbxSource) (asym hash : BitVec 32) (s : State) : Out :=
  .next (s.spdm src 0x63 (fun _ => [asym.toNat &&& 0x80, hash.toNat &&& 0x02]))

/-- The certificate slots that hold a chain (R581): slot 0, and slot 1 once PROVISIONED. -/
def State.certSlots (s : State) : Nat := if s.reeve.ownerKey.isEmpty then 1 else 3

/-- SPDM_GET_DIGESTS, R581: the mask of the slots with a chain. -/
def execSpdmGetDigests (src : MbxSource) (s : State) : Out :=
  .next (s.spdm src 0x01 (fun t => [t.certSlots]))

/-- SPDM_GET_CERTIFICATE, R581: an error for a slot without a chain. -/
def execSpdmGetCertificate (src : MbxSource) (slot : Fin 8) (offset length : BitVec 16) (s : State) : Out :=
  .next (s.mailbox src 0x40 [.pf, .smbus] (fun t =>
    if t.certSlots.testBit slot.val then t.spdmAnswer src 0x02 [slot.val, offset.toNat, length.toNat]
    else t.spdmAnswer src 0x7F [0x01]))

/-- SPDM_CHALLENGE, R581: signed with the device identity key. -/
def execSpdmChallenge (src : MbxSource) (slot : Fin 8) (nonce : BitVec 256) (s : State) : Out :=
  .next (s.mailbox src 0x40 [.pf, .smbus] (fun t =>
    if t.certSlots.testBit slot.val then t.spdmAnswer src 0x03 [slot.val, nonce.toNat]
    else t.spdmAnswer src 0x7F [0x01]))

/-- Measurement 7: lifecycle state and debug unlock (R578, R582). -/
def State.measurement7 (s : State) : Nat :=
  s.lifecycle + 8 * s.getF RF.RVE_LIFECYCLE_DEBUG_UNLOCKED 0 0

/-- The measurement blocks a request names (R578): 0xFF all of them; in BLANK only the ROM is measured
(R584), in SCRAPPED the lifecycle is reported (R582).  Measurement 7 is always reported. -/
def State.measured (s : State) (index : Nat) : List Nat :=
  let known := if s.lifecycle = lcBlank then [1, 7] else [1, 2, 3, 4, 5, 6, 7, 8]
  known.filter (fun i => decide (index = 0xFF) || decide (i = index) || decide (i = 7))

/-- SPDM_GET_MEASUREMENTS, R581, R582: the nonce, the blocks reported, and the value of measurement 7;
the digests are free. -/
def execSpdmGetMeasurements (src : MbxSource) (index : BitVec 8) (nonce : BitVec 256) (s : State) : Out :=
  .next (s.spdm src 0x60 (fun t => nonce.toNat :: t.measurement7 :: t.measured index.toNat))

end Sys2Proof.Machine
end

