-- ==== Sys2Proof/Machine/Bist.lean ====
section
/-! DEFINITION. The interconnect self-test (R661–R682): the suite, its tests and their results. -/

namespace Sys2Proof.Machine

def testSeam : Nat := 0
def testBump : Nat := 1
def testPin : Nat := 2
def testLoop : Nat := 3

/-- May the engine run (R662)? -/
def State.bistOpen (s : State) : Bool := decide (s.lifecycle = lcManufacture) || decide (s.lifecycle = lcReturn)

/-- The conditions of a GO (R663, R722). -/
def State.bistMay (s : State) : Bool :=
  decide (s.boot.stage = .ready) && decide (s.modState = 0) && s.power.target.isNone &&
    (List.range 80).all (fun f => !s.inService f || s.fieldIdle f) && s.seq.sheaves.isEmpty &&
    decide (s.getF RF.ASY_FRZ_STAT_STATE 0 0 = 0) && !s.halted && s.resets.running.isEmpty &&
    s.resets.waiting.isEmpty && s.resets.fields.isEmpty && s.resets.recoveries.isEmpty

/-- Registers that a new GO clears (R674). -/
def bistResults : Reg → Bool
  | .BIS_RESULTt => true
  | .BIS_SEAM_FAILk => true
  | .BIS_SEAM_REPk => true
  | .BIS_BUMP_FAIL_LO => true
  | .BIS_BUMP_FAIL_HI => true
  | .BIS_LOOP_FAIL_LO => true
  | .BIS_LOOP_FAIL_HI => true
  | .BIS_LOOP_SKIP_LO => true
  | .BIS_LOOP_SKIP_HI => true
  | .BIS_PIN_FAIL => true
  | .BIS_LOG_HEAD => true
  | .BIS_LOGk => true
  | _ => false

/-- The whole milliseconds since the suite began. -/
def State.bistElapsed (s : State) : State :=
  s.setF RF.BIS_STAT_ELAPSED_MS 0 0 (min 65535 ((s.now - s.bist.began) / 1000000))

/-- BIS_CTL.GO (R663, R681): the suite starts in SETUP, or CMD_ERR is set. -/
def State.bistGo (s : State) (origin : Nat) : State :=
  if s.bistBusy || !s.bistMay then s.setFlag RF.BIS_STAT_CMD_ERR 0 0 true
  else
    let s1 := s.resetRegs (fun k => bistResults k.reg)
    { s1.setF RF.BIS_STAT_STATE 0 0 1 |>.setF RF.BIS_STAT_TEST 0 0 0 |>.setF RF.BIS_STAT_ORIGIN 0 0 origin
        |>.setF RF.BIS_STAT_ELAPSED_MS 0 0 0 with bist := ⟨s.now, s.now⟩ }

/-- BIS_CTL.ABORT, R679: the suite ends at the next pattern boundary, with its restore to come. -/
def State.bistAbort (s : State) : State := s.bistStop.bistElapsed

/-- A write of BIS_CTL from the physical function (0), the TAP (1) or the sideband (2), which MANUFACTURE
and RETURN alone permit (R662, R663, R682). -/
def State.bistWrite (s : State) (origin v : Nat) : State :=
  if !s.bistOpen then s
  else
    let go := nbits v 4 1 = 1
    let s1 := if s.bistBusy then s
      else s.setF RF.BIS_CTL_SUITE 0 0 (nbits v 0 4) |>.setF RF.BIS_CTL_H0_LOOP 0 0 (nbits v 6 1)
        |>.setF RF.BIS_CTL_FIXTURE 0 0 (nbits v 7 1) |>.setF RF.BIS_CTL_EXT_LOOP 0 0 (nbits v 8 1)
    let s2 := if nbits v 5 1 = 1 then s1.bistAbort else s1
    if go then s2.bistGo origin else s2

/-- BIST_GO, R663. -/
def execBistGo (origin : Fin 3) (suite : BitVec 4) (h0Loop fixture extLoop : Bool) (s : State) : Out :=
  .next (s.bistWrite origin.val
    (suite.toNat + 16 + b2n h0Loop * 64 + b2n fixture * 128 + b2n extLoop * 256))

/-- BIST_ABORT, R679. -/
def execBistAbort (s : State) : Out := .next (if s.bistOpen then s.bistAbort else s)

/-- Links the LOOP test leaves out: those of H0, unless H0_LOOP is set and the suite came through the TAP
or the sideband (R672). -/
def State.loopSkip (s : State) : Nat :=
  if s.flag RF.BIS_CTL_H0_LOOP 0 0 && decide (s.getF RF.BIS_STAT_ORIGIN 0 0 ≠ 0) then 0
  else 255 * 2 ^ 56

/-- A test starts: the links of LOOP go DOWN with cause COMMAND (R664). -/
def State.testStart (s : State) (t : Nat) : State :=
  let s1 := { s.setF RF.BIS_STAT_STATE 0 0 2 |>.setF RF.BIS_STAT_TEST 0 0 t with
    bist := { s.bist with testBegan := s.now } }
  if t = testLoop then
    let skip := s.loopSkip
    let s2 := (s1.wr .BIS_LOOP_SKIP_LO 0 0 (BitVec.ofNat 64 skip)).setF RF.BIS_LOOP_SKIP_HI_BITS 0 0
      (skip / 2 ^ 64)
    ((List.range 72).filter (fun k => !skip.testBit k)).foldl (fun (x : State) k => x.linkDown k 6) s2
  else s1

/-- The next selected test from number `t` on; past the last one the restore begins.  Tests that are not
selected are SKIPPED (R664, R673). -/
def State.testFrom (s : State) : Nat → State
  | t =>
    let suite := s.getF RF.BIS_CTL_SUITE 0 0
    let next := ((List.range 4).filter (fun i => decide (t ≤ i) && suite.testBit i)).head?
    let upTo := next.getD 4
    let s1 := ((List.range 4).filter (fun i => decide (t ≤ i) && decide (i < upTo))).foldl
      (fun (x : State) i => x.setF RF.BIS_RESULTt_CODE 0 i 5) s
    match next with
    | some i => s1.testStart i
    | none => s1.setF RF.BIS_STAT_STATE 0 0 3

/-- BIST_SETUP_DONE, R664: the stacks are in self-refresh and the first selected test starts. -/
def execBistSetupDone (s : State) : Out :=
  if s.getF RF.BIS_STAT_STATE 0 0 ≠ 1 then .next s
  else
    let s1 := (List.range 80).foldl (fun (t : State) f =>
      if t.hbmState f = hbmUp ∨ t.hbmState f = hbmPowerdown then
        t.setF RF.HBM_ID_STATE f 0 hbmSelfRefresh else t) s
    .next (s1.bistElapsed.testFrom 0)

/-! ### Results, R666–R674 -/

def attachmentFields : List Nat := [10, 20, 30, 40, 50, 60, 19, 29, 39, 49, 59, 69, 74, 75, 4, 5, 3, 6]

/-- The fields at the ends of a seam index (R666). -/
def seamEnds (i : Nat) : List Nat :=
  if i < 72 then [i / 9 * 10 + i % 9, i / 9 * 10 + i % 9 + 1]
  else if i < 142 then [i - 72, i - 62]
  else [attachmentFields.getD (i - 142) 0]

/-- One fault as the suite logs it: kind, place, direction or pseudo-channel, wire, partner, and whether
it is within the spares. -/
structure LoggedFault where
  kind : Nat
  place : Nat
  sub : Nat
  wire : Nat
  partner : Nat
  spared : Bool
  deriving DecidableEq, Repr

/-- The result of a seam from its faults (R667): 1 PASS, 2 PASS_REPAIRED, 3 FAIL. -/
def seamResult (l : List BistFault) (reached : Bool) : Nat :=
  let wires := fun (d : Nat) =>
    ((l.filter (fun x => decide (x.sub.toNat % 2 = d) && decide (x.wire.toNat < 8064))).map
      (fun x => x.wire.toNat)).dedup.length
  if !reached then 3
  else if l.isEmpty then 1
  else if l.any (fun x => x.special) then 3
  else if wires 0 ≤ 15 ∧ wires 1 ≤ 15 then 2
  else 3

/-- A log record (R673): a cell is split into its low five bits and the bits above them. -/
def logWord (t : Nat) (x : LoggedFault) : Nat :=
  let (place, sub) := if t = testPin then (x.place / 32, x.place % 32) else (x.place, x.sub)
  t + x.kind * 2 ^ 3 + place % 256 * 2 ^ 6 + sub * 2 ^ 14 + x.wire * 2 ^ 19 + x.partner * 2 ^ 32 +
    b2n x.spared * 2 ^ 45

/-- Append a fault to the log: past 64 records it is only counted (R673).  A wafer whose time is FREE
stamps the cycle count of the engine. -/
def State.logFault (s : State) (t : Nat) (x : LoggedFault) : State :=
  let n := s.getF RF.BIS_LOG_HEAD_RECORDS 0 0
  let s1 := s.addSat RF.BIS_LOG_HEAD_FAULTS 0 0 1
  if 64 ≤ n then s1.setFlag RF.BIS_LOG_HEAD_OVERFLOW 0 0 true
  else
    let time := if s.getF RF.FAB_TIME_CTL_TSTATE 0 0 = 0 then (s.now - s.bist.began) / 5 else s.fabricTime
    s1.wr .BIS_LOGk 0 (2 * n) (BitVec.ofNat 64 (logWord t x))
      |>.wr .BIS_LOGk 0 (2 * n + 1) (BitVec.ofNat 64 time)
      |>.setF RF.BIS_LOG_HEAD_RECORDS 0 0 (n + 1)

def plainFault (x : BistFault) (spared : Bool) : LoggedFault :=
  ⟨x.kind.val, x.place.val, x.sub.toNat, x.wire.toNat, x.partner.toNat, spared⟩

/-- The seams with a hole at an end, which the engine does not reach (R667, R681). -/
def State.seamReached (s : State) (i : Nat) : Bool := (seamEnds i).all (fun f => decide (s.fieldMode f ≠ 2))

/-- The outcome of a test from the faults detected: result code, faults to log, and its registers.
(Mark: DESIGN CHOICE, log 175.) -/
def State.testOutcome (s : State) (t : Nat) (faults : List BistFault) : Nat × List LoggedFault × State :=
  let places := fun (n : Nat) => (List.range n).filter (fun i => faults.any (fun x => decide (x.place.val = i)))
  if t = testSeam then
    let at_ := fun (i : Nat) => faults.filter (fun x => decide (x.place.val = i) && decide (x.kind.val ≠ 6))
    let res := fun (i : Nat) => seamResult (at_ i) (s.seamReached i)
    let all := List.range 160
    let fails := all.filter (fun i => decide (res i = 3))
    let reps := all.filter (fun i => decide (res i = 2))
    let logged := (faults.filter (fun x => decide (x.place.val < 160) && decide (x.kind.val ≠ 6) &&
        s.seamReached x.place.val)).map (fun x => plainFault x (decide (res x.place.val = 2))) ++
      (all.filter (fun i => !s.seamReached i)).map (fun i => ⟨6, i, 0, 0, 0, false⟩)
    let put := fun (r : Reg) (m : Nat) (x : State) => (List.range 3).foldl
      (fun (y : State) k => y.wr r 0 k (BitVec.ofNat 64 (m / 2 ^ (64 * k)))) x
    (if !fails.isEmpty then 3 else if !reps.isEmpty then 2 else 1, logged,
      put .BIS_SEAM_REPk (listMask reps) (put .BIS_SEAM_FAILk (listMask fails) s))
  else if t = testBump then
    let bad := places 80
    (if bad.isEmpty then 1 else 3, (faults.filter (fun x => decide (x.place.val < 80))).map
      (fun x => plainFault x false),
      (s.wr .BIS_BUMP_FAIL_LO 0 0 (BitVec.ofNat 64 (listMask bad))).setF RF.BIS_BUMP_FAIL_HI_BITS 0 0
        (listMask bad / 2 ^ 64))
  else if t = testPin then
    let bad := places 442
    (if bad.isEmpty then 1 else 3, faults.map (fun x => plainFault x false),
      (s.setF RF.BIS_PIN_FAIL_COUNT 0 0 bad.length).setF RF.BIS_PIN_FAIL_FIRST 0 0 (bad.headD 0))
  else
    let bad := (places 72).filter (fun k => s.underLoop k)
    (if bad.isEmpty then 1 else 3, (faults.filter (fun x => decide (x.place.val < 72) &&
        s.underLoop x.place.val)).map (fun x => plainFault x false),
      (s.wr .BIS_LOOP_FAIL_LO 0 0 (BitVec.ofNat 64 (listMask bad))).setF RF.BIS_LOOP_FAIL_HI_BITS 0 0
        (listMask bad / 2 ^ 64))

/-- BIST_TEST_DONE, R666–R673: the running test ends with the faults it detected, and the next one
starts. (Mark: DESIGN CHOICE, log 175.) -/
def execBistTestDone (faults : List BistFault) (s : State) : Out :=
  if s.getF RF.BIS_STAT_STATE 0 0 ≠ 2 then .next s
  else
    let t := s.getF RF.BIS_STAT_TEST 0 0
    let (code, logged, s1) := s.testOutcome t faults
    let s2 := logged.foldl (fun (x : State) f => x.logFault t f) s1
    let s3 := s2.setF RF.BIS_RESULTt_CODE 0 t code
      |>.setF RF.BIS_RESULTt_FAULTS 0 t (min 65535 logged.length)
      |>.setF RF.BIS_RESULTt_DURATION_US 0 t ((s.now - s.bist.testBegan) / 1000)
    .next (s3.bistElapsed.testFrom (t + 1))

/-- Suite restore (R665): every field with a powered spine is reset, the stacks retrain, the tested links
return to DETECT, and BIS_STAT reads DONE; it waits for a thaw or RESUME (R676, R677).  `failing` are the
stacks whose retraining fails. -/
def State.bistRestore (s : State) (failing : List Nat) : State :=
  if s.getF RF.BIS_STAT_STATE 0 0 ≠ 3 ∨ s.frozen ∨ s.getF RF.ASY_FRZ_STAT_STATE 0 0 ≠ 0 ∨ s.halted then s
  else
    let s1 := ((List.range 80).filter s.inService).foldl (fun (t : State) f =>
      (t.fieldReset f).fieldResetEnd f) (s.bistElapsed.setF RF.BIS_STAT_STATE 0 0 4)
    let s2 := (failing.filter s1.inService).foldl (fun (t : State) f => t.stackLoss f 5 0 0 false)
      s1.stacksFollow
    (List.range 72).foldl (fun (t : State) k => if t.linkTarget k = 0 then t else t.fromDown k) s2

end Sys2Proof.Machine
end

