-- ==== Sys2Proof/Machine/Assay.lean ====
section
/-! DEFINITION. Freeze and Assay read-out (R638–R660), and the instructions of the Assay TAP
(R650, R669): triggers, the wavefront, the thaw, the gates of a read-out, boundary scan. -/

namespace Sys2Proof.Machine

def State.modAssay (s : State) (g : Assay → Assay) : State := { s with assay := g s.assay }

/-! ### Cycle stamps, R648 -/

/-- The stamp of the wafer control: mesh cycles of 1.8 GHz from a free base.
(Mark: DESIGN CHOICE, log 170.) -/
def State.stamp (s : State) : Nat := s.assay.stampBase + s.now * 9 / 5

/-- The stamp of a field, which differs by at most 2 cycles: a free choice within the bound.
(Mark: DESIGN CHOICE, log 170.) -/
def State.fieldStamp (s : State) (k : Nat) : Nat := s.stamp + Config.freeNat k 0 % 5 - 2

/-! ### Triggers, R639–R642 -/

/-- Members a broadcast reaches (R642). -/
def State.otherMembers (s : State) : List Nat :=
  (maskList (s.getF RF.FAB_MEMBERS_JOINED 0 0) 16).filter (· != s.ownWafer)

/-- A FREEZE message's data slot (R641): kind 1 FREEZE, 2 THAW. -/
def State.freezeSlot (s : State) (kind id : Nat) : Nat :=
  kind + id % 65536 * 2 ^ 8 + s.ownWafer % 16 * 2 ^ 24 + s.getF RF.FAB_NUM_EPOCH 0 0 * 2 ^ 28

def State.freezeSend (s : State) (kind id : Nat) : State :=
  s.otherMembers.foldl (fun (t : State) w => t.send (.fabric w 0x13 [s.freezeSlot kind id])) s

/-- Count an ignored trigger or a discarded message. -/
def State.freezeIgnored (s : State) : State := s.addSat RF.ASY_FRZ_IGNORED_COUNT 0 0 1

/-- Mask of the holes. -/
def State.holes (s : State) : Nat := listMask ((List.range 80).filter (fun f => decide (s.fieldMode f = 2)))

/-- Injection at field 4's wafer control (R643, R645, R648, R642). (Mark: DEDUCED, log 168.) -/
def State.freezeInject (s : State) (q : FreezeReq) : State :=
  let local_ := decide (q.source ≠ 3)
  let id := if local_ then s.assay.nextId % 65536 else q.id
  let s1 := s.bistStop.setF RF.ASY_FRZ_STAT_STATE 0 0 1 |>.setF RF.ASY_FRZ_STAT_SOURCE 0 0 q.source
    |>.setFlag RF.ASY_FRZ_STAT_VIA_TAP 0 0 q.tap |>.setF RF.ASY_FRZ_STAT_FREEZE_ID 0 0 id
    |>.setF RF.ASY_FRZ_STAT_ORIGIN 0 0 (if local_ then s.ownWafer else q.wafer)
    |>.wr .ASY_FRZ_FTIME 0 0 (BitVec.ofNat 64 s.fabricTime)
    |>.wr .ASY_FRZ_UNREACHED_LO 0 0 (BitVec.ofNat 64 s.holes)
    |>.setF RF.ASY_FRZ_UNREACHED_HI_FIELDS 0 0 (s.holes / 2 ^ 64)
  let s2 := (List.range 80).foldl (fun (t : State) f => t.wr .ASY_FLD_STAT f 0 0#64) s1
  let cast := local_ && s.flag RF.ASY_FRZ_CTL_BROADCAST 0 0
  let s3 := s2.modAssay (fun a => { a with
    arrived := [], thawHeld := false, bcast := cast,
    nextId := if local_ then (id + 1) % 65536 else a.nextId })
  if cast then s3.freezeSend 1 id else s3

/-- Has stage 2 not ended yet (R722)? -/
def State.beforeClocks (s : State) : Bool :=
  decide (s.boot.stage = .hearth) || decide (s.boot.stage = .reeve) || decide (s.boot.stage = .clock)

/-- A freeze trigger: ignored before the end of stage 2 (R722), without effect while a freeze stands
(R658), and taken as a new freeze after a thaw in progress (R654). (Mark: DEDUCED, log 168.) -/
def State.freezeTrigger (s : State) (q : FreezeReq) : State :=
  if s.boot.stage = .off then s
  else if s.beforeClocks then s.freezeIgnored
  else
    match s.getF RF.ASY_FRZ_STAT_STATE 0 0 with
    | 0 => s.freezeInject q
    | 3 =>
      if s.assay.freezeHeld.isSome then (s.setFlag RF.ASY_FRZ_STAT_MORE 0 0 true).freezeIgnored
      else s.modAssay (fun a => { a with freezeHeld := some q })
    | _ => (s.setFlag RF.ASY_FRZ_STAT_MORE 0 0 true).freezeIgnored

/-- FREEZE_PIN, R639: a falling edge held for 20 ns; a PIN test cuts the pin from its function
(R671). -/
def execFreezePin (s : State) : Out :=
  if s.saving then .next (s.noteFreeze 1)
  else if s.boot.stage = .off || !s.flag RF.ASY_FRZ_CTL_PIN_EN 0 0 ||
      (decide (s.getF RF.BIS_STAT_STATE 0 0 = 2) && decide (s.getF RF.BIS_STAT_TEST 0 0 = 2)) then .next s
  else .next (s.freezeTrigger ⟨1, false, 0, 0⟩)

/-- FREEZE_REGISTER, R640. -/
def execFreezeRegister (s : State) : Out := .next (s.freezeTrigger ⟨2, false, 0, 0⟩)

/-- Is a FREEZE message taken (R641): FABRIC_EN, a JOINED member, its present epoch? -/
def State.freezeMsgOk (s : State) (wafer epoch : Nat) : Bool :=
  s.flag RF.ASY_FRZ_CTL_FABRIC_EN 0 0 && (s.getF RF.FAB_MEMBERS_JOINED 0 0).testBit wafer &&
    s.flag RF.FAB_EPOCHn_VALID 0 wafer && decide (s.getF RF.FAB_EPOCHn_EPOCH 0 wafer = epoch)

/-- FREEZE_MESSAGE_RECEIVE, R641. -/
def execFreezeMessageReceive (wafer : WaferId) (id epoch : BitVec 16) (s : State) : Out :=
  if s.freezeMsgOk wafer.val epoch.toNat then
    .next (s.freezeTrigger ⟨3, false, id.toNat, wafer.val⟩)
  else if s.boot.stage = .off then .next s
  else .next s.freezeIgnored

/-! ### The wavefront, R643–R648 -/

/-- Does the freeze reach the field now: from field 4's wafer control, from its clock parent, or, in
holdover or switching, from any live seam neighbour (R42)? -/
def State.freezeReaches (s : State) (f : Nat) : Bool :=
  decide (f = 4) || s.assay.arrived.contains (s.getF RF.FLD_CLK_STATUS_PARENT f 0) ||
    (decide (s.getF RF.FLD_CLK_STATUS_STATE f 0 ≠ 0) && (List.range 4).any (fun n =>
      match neighbour f n with
      | some g => s.assay.arrived.contains g && decide (s.fieldMode g ≠ 2)
      | none => false))

/-- The field stops its classes and records its stamps (R644, R645, R648): the counts of its clocks
since its reset depend on its P-states and are free. -/
def State.fieldStop (s : State) (f : Nat) : State :=
  let (a, s1) := s.fresh
  let (b, s2) := s1.fresh
  s2.setFlag RF.ASY_FLD_STAT_STOPPED f 0 true
    |>.setFlag RF.ASY_FLD_STAT_PASS_THROUGH f 0 (decide (s.fieldMode f = 1))
    |>.wr .ASY_FLD_STOP f 0 (BitVec.ofNat 64 (s.fieldStamp a))
    |>.wr .ASY_FLD_MILL f 0 (Config.freeWord a 0) |>.wr .ASY_FLD_CROF f 0 (Config.freeWord b 0)

/-- FREEZE_ARRIVE, R643–R645, R648: a field in a reset completes it before it stops.
(Mark: DEDUCED, log 169.) -/
def execFreezeArrive (f : FieldId) (s : State) : Out :=
  let n := f.val
  if s.getF RF.ASY_FRZ_STAT_STATE 0 0 ≠ 1 ∨ s.fieldMode n = 2 ∨ s.assay.arrived.contains n = true ∨
      s.freezeReaches n = false then .next s
  else
    let (k, s1) := s.fresh
    let s2 := (s1.modAssay (fun a => { a with arrived := setInsert n a.arrived })).wr .ASY_FLD_ARRIVE n 0
      (BitVec.ofNat 64 (s1.fieldStamp k))
    if s2.inReset n then .next (s2.setFlag RF.ASY_FLD_STAT_DEFERRED n 0 true)
    else .next (s2.fieldStop n)

/-- A deferred stop takes place once the field's reset has ended (R645). -/
def State.deferredStop (s : State) (f : Nat) : State :=
  if s.getF RF.ASY_FRZ_STAT_STATE 0 0 = 1 ∧ s.flag RF.ASY_FLD_STAT_DEFERRED f 0 ∧ !s.stopped f then
    s.fieldStop f
  else s

/-! ### Thaw, R653, R654 -/

/-- The wafer control chooses the resume stamp, after a chain rotation in progress; a freeze that was
broadcast is ended for the members too. -/
def State.thawStart (s : State) : State :=
  let s1 := (s.setF RF.ASY_FRZ_STAT_STATE 0 0 3).modAssay (fun a => { a with thawHeld := false })
  if s.assay.bcast then s1.freezeSend 2 (s.getF RF.ASY_FRZ_STAT_FREEZE_ID 0 0) else s1

/-- A thaw request: held during FREEZING until FROZEN (R654). -/
def State.thaw (s : State) : State :=
  match s.getF RF.ASY_FRZ_STAT_STATE 0 0 with
  | 1 => s.modAssay (fun a => { a with thawHeld := true })
  | 2 => s.thawStart
  | _ => s

/-- THAW_REGISTER, R653. -/
def execThawRegister (s : State) : Out := .next s.thaw

/-- THAW_MESSAGE_RECEIVE, R642: a fabric THAW ends a freeze only with the id that froze the wafer. -/
def execThawMessageReceive (wafer : WaferId) (id epoch : BitVec 16) (s : State) : Out :=
  if s.boot.stage = .off then .next s
  else if s.freezeMsgOk wafer.val epoch.toNat && decide (s.getF RF.ASY_FRZ_STAT_STATE 0 0 ≠ 0) &&
      decide (s.getF RF.ASY_FRZ_STAT_FREEZE_ID 0 0 = id.toNat) then .next s.thaw
  else .next s.freezeIgnored

/-- FREEZE_COMPLETE, R644: every reachable field has reported. -/
def execFreezeComplete (s : State) : Out :=
  if s.getF RF.ASY_FRZ_STAT_STATE 0 0 = 1 ∧
      (List.range 80).all (fun f => decide (s.fieldMode f = 2) || s.stopped f) = true then
    let s1 := (s.setF RF.ASY_FRZ_STAT_STATE 0 0 2).modPower (fun p => { p with
      frozenAt := s.now, calDirty := true })
    .next (if s1.assay.thawHeld then s1.thawStart else s1)
  else .next s

/-! ### Read-out, R649–R652 -/

/-- The field a memory address names. -/
def memField (addr : Nat) : Nat := (Direct.of addr).field

/-- Is a read denied (R652, R584)?  The field of a memory read is the one its address names. -/
def State.readDenied (s : State) (field kind addr : Nat) : Bool :=
  let f := if kind = 3 then memField addr else field
  if s.lifecycle = lcManufacture ∨ s.lifecycle = lcProvisioned ∨ s.lifecycle = lcReturn then false
  else if s.lifecycle = lcDeployed then
    decide (2 ≤ kind) && decide (s.owner f ≠ none) && !s.flag RF.RVE_LIFECYCLE_DEBUG_UNLOCKED 0 0 &&
      !s.flag RF.RVE_PARp_BIND_ASSAY_GRANTED 0 (s.getF RF.RVE_FLDf_OWNER_PARISH 0 f)
  else true

/-- ASY_WIN_CTL.GO (R651): the read starts under the gate in force now; a GO while BUSY has no
effect. (Mark: DEDUCED, log 173.) -/
def State.windowGo (s : State) (field chain kind : Nat) : State :=
  if s.flag RF.ASY_WIN_CTL_BUSY 0 0 then s
  else
    let addr := s.getF RF.ASY_WIN_ADDR_ADDR 0 0
    let len := min 2048 (s.getF RF.ASY_WIN_LEN_LEN 0 0 + 1)
    (s.setF RF.ASY_WIN_CTL_FIELD 0 0 field |>.setF RF.ASY_WIN_CTL_CHAIN 0 0 chain
      |>.setF RF.ASY_WIN_CTL_KIND 0 0 kind |>.setFlag RF.ASY_WIN_CTL_BUSY 0 0 true).modAssay (fun a => { a with
        reading := some ⟨field, chain, kind, addr, len, s.readDenied field kind addr⟩ })

/-- WINDOW_GO, R651. -/
def execWindowGo (field chain : BitVec 7) (kind : Fin 4) (s : State) : Out :=
  .next (s.windowGo field.toNat chain.toNat kind.val)

/-! ### The TAP, R650, R669 -/

/-- The low `n` bits of a number, first bit shifted out first. -/
def bitsOf (n v : Nat) : List Nat := (List.range n).map (fun i => v / 2 ^ i % 2)

/-- Free bits of a free length: a chain's contents have no stated layout. -/
def State.freeBits (s : State) : List Nat × State :=
  let (k, s1) := s.fresh
  ((List.range (Config.freeNat k 0)).map (fun i => (Config.freeByte k i).toNat % 2), s1)

/-- BYPASS: a 1-bit register that captures 0 delays the data by one bit. -/
def State.tapBypass (s : State) (data : List Nat) : State := s.send (.tap (0 :: data.dropLast))

/-- Do the TAP's instructions beyond IDCODE, BYPASS and MBX answer (R652)? -/
def State.tapOpen (s : State) : Bool := decide (s.lifecycle ≠ lcBlank) && decide (s.lifecycle ≠ lcScrapped)

/-- Does boundary scan answer (R669, R662)? (Mark: DESIGN CHOICE, log 174.) -/
def State.tapScan (s : State) : Bool := decide (s.lifecycle = lcManufacture) || decide (s.lifecycle = lcReturn)

def State.tapMode (s : State) (m : Nat) : State := s.modAssay (fun a => { a with mode := m })

/-- TAP_RESET, R684: Test-Logic-Reset; the pins return to their functions. -/
def execTapReset (s : State) : Out := .next (s.tapMode 0)

/-- TAP_BYPASS, R650: BYPASS and every unknown code. -/
def execTapBypass (data : List Bool) (s : State) : Out :=
  .next ((s.tapMode 0).tapBypass (data.map b2n))

/-- TAP_IDCODE, R650. -/
def execTapIdcode (s : State) : Out := .next ((s.tapMode 0).send (.tap (bitsOf 32 0x14F1AB47)))

/-- An instruction that acts as BYPASS where the gate is shut. -/
def State.tapGate (s : State) (ok : Bool) (data : List Nat) (g : State → State) : State :=
  if ok then g s else (s.tapMode 0).tapBypass data

/-- TAP_SAMPLE_PRELOAD, R669: `captured` is what the 442 cells sample. -/
def execTapSamplePreload (load captured : BitVec 442) (s : State) : Out :=
  .next (s.tapGate s.tapOpen (bitsOf 442 load.toNat) (fun t =>
    ((t.tapMode 0).modAssay (fun a => { a with cells := load.toNat })).send
      (.tap (bitsOf 442 captured.toNat))))

/-- TAP_FREEZE, R650: an update of 1 writes ASY_FRZ_CTL.FREEZE. -/
def execTapFreeze (update : Bool) (s : State) : Out :=
  .next (s.tapGate s.tapOpen [b2n update] (fun t =>
    if update then (t.tapMode 0).freezeTrigger ⟨2, true, 0, 0⟩ else t.tapMode 0))

/-- TAP_THAW, R650. -/
def execTapThaw (update : Bool) (s : State) : Out :=
  .next (s.tapGate s.tapOpen [b2n update] (fun t => if update then (t.tapMode 0).thaw else t.tapMode 0))

/-- TAP_SEL, R650: the selection in the layout of ASY_WIN_CTL. -/
def execTapSel (v : BitVec 32) (s : State) : Out :=
  .next (s.tapGate s.tapOpen (bitsOf 32 v.toNat) (fun t =>
    (t.tapMode 0).modAssay (fun a => { a with sel := v.toNat })))

/-- TAP_CHAIN, R650, R652: the chain keeps its state; a denied read gives zeros and sets DENIED.  While
the window holds the read-out engine the TAP waits (R651). -/
def execTapChain (s : State) : Out :=
  .next (s.tapGate s.tapOpen [] (fun t =>
    let x := t.assay.sel
    let (l, t1) := (t.tapMode 0).freeBits
    if t.assay.reading.isSome then t
    else if t.readDenied (nbits x 0 7) (min 2 (nbits x 14 2)) 0 then
      (t1.setFlag RF.ASY_WIN_CTL_DENIED 0 0 true).send (.tap (l.map (fun _ => 0)))
    else t1.send (.tap l)))

/-- TAP_STAT, R650. -/
def execTapStat (s : State) : Out :=
  .next (s.tapGate s.tapOpen (bitsOf 64 0) (fun t =>
    (t.tapMode 0).send (.tap (bitsOf 64 (t.rd .ASY_FRZ_STAT 0 0).toNat))))

/-- TAP_MBX, R650: the exchange carries the commands and answers of the mailbox, which have rows of
their own; its layout is not stated. -/
def execTapMbx (s : State) : Out :=
  let (l, s1) := (s.tapMode 0).freeBits
  .next (s1.send (.tap l))

/-- EXTEST, R669, and the other instructions that drive the pins from the boundary register.
(Mark: DESIGN CHOICE, log 174.) -/
def State.tapDrive (s : State) (mode : Nat) (load captured : Nat) : State :=
  s.tapGate s.tapScan (bitsOf 442 load) (fun t =>
    ((t.tapMode mode).modAssay (fun a => { a with cells := load })).send (.tap (bitsOf 442 captured)))

/-- TAP_EXTEST, R669. -/
def execTapExtest (load captured : BitVec 442) (s : State) : Out :=
  .next (s.tapDrive 1 load.toNat captured.toNat)

/-- TAP_CLAMP, R669: the outputs keep the boundary register's values, and BYPASS is shifted. -/
def execTapClamp (data : List Bool) (s : State) : Out :=
  .next (s.tapGate s.tapScan (data.map b2n) (fun t => (t.tapMode 2).tapBypass (data.map b2n)))

/-- TAP_HIGHZ, R669: the outputs float, and BYPASS is shifted. -/
def execTapHighz (data : List Bool) (s : State) : Out :=
  .next (s.tapGate s.tapScan (data.map b2n) (fun t => (t.tapMode 3).tapBypass (data.map b2n)))

/-- TAP_EXTEST_PULSE, R669. -/
def execTapExtestPulse (load captured : BitVec 442) (s : State) : Out :=
  .next (s.tapDrive 4 load.toNat captured.toNat)

/-- TAP_EXTEST_TRAIN, R669. -/
def execTapExtestTrain (load captured : BitVec 442) (s : State) : Out :=
  .next (s.tapDrive 5 load.toNat captured.toNat)

/-- TAP_BISCTL, R669: the update writes BIS_CTL[15:0], the capture returns BIS_STAT[31:0]. -/
def execTapBisctl (v : BitVec 32) (s : State) : Out :=
  .next (s.tapGate s.tapScan (bitsOf 32 v.toNat) (fun t =>
    ((t.tapMode 0).bistWrite 1 (v.toNat % 65536)).send (.tap (bitsOf 32 (t.rd .BIS_STAT 0 0).toNat))))

end Sys2Proof.Machine
end

