-- ==== Sys2Proof/Machine/Pins.lean ====
section
/-! DEFINITION. The management pins (R683–R709, R774–R778): the crier bus and its mirror, the mailbox
and the sideband commands, GPIO, I2C, MCTP and PLDM, PPS_OUT. -/

namespace Sys2Proof.Machine

def State.modPins (s : State) (g : Pins → Pins) : State := { s with pins := g s.pins }

/-- Does the hearth serve the pins (R683, R700, R703)? -/
def State.hearthUp (s : State) : Bool := s.boot.hearthAlive

/-- Does a PIN test suspend GPIO functions, crier and SMBus (R704)? -/
def State.pinTest (s : State) : Bool :=
  decide (s.getF RF.BIS_STAT_STATE 0 0 = 2) && decide (s.getF RF.BIS_STAT_TEST 0 0 = 2)

def State.pinsServe (s : State) : Bool := s.hearthUp && !s.pinTest

/-- Is LED `n` lit (R695): READY; a fence, retirement or out-of-service mark that WFR_RCV_EVENT still shows; a
thermal trip, a failed boot or a weak hold-up? -/
def State.ledLit (s : State) (n : Nat) : Bool :=
  match n with
  | 0 => decide (s.boot.stage = .ready)
  | 1 => s.flag RF.WFR_RCV_EVENT_FENCE 0 0 || s.flag RF.WFR_RCV_EVENT_FIELD_RETIRE 0 0 ||
      s.flag RF.WFR_RCV_EVENT_OUT_OF_SERVICE 0 0
  | _ => s.flag RF.PWR_THERM_CTL_TRIPPED 0 0 || decide (s.boot.stage = .recovery) ||
      decide (s.boot.stage = .halted) || s.flag RF.HRT_HOLDUP_HOLDUP_LOW 0 0

/-- The pad levels as read (R697): GP25–GP27 sink their pads while their LEDs are lit. -/
def State.padsIn (s : State) : Nat :=
  (List.range 3).foldl (fun n i =>
    if (s.getF RF.GPIO_FUNC_FUNC 0 0).testBit (25 + i) && s.ledLit i && n.testBit (25 + i) then n - 2 ^ (25 + i)
    else n) s.pins.pads

/-! ### Mirror groups, R692 -/

def words16 (n v : Nat) : List Nat := (List.range n).map (fun i => v / 2 ^ (16 * i) % 65536)

/-- HEARTH_STATE (R692). -/
def State.hearthState (s : State) : Nat :=
  b2n s.frozen + s.modState % 8 * 2 + s.pCurrent % 8 * 16 + b2n (s.flag RF.HST_PORT_H0_UP 0 0) * 128 +
    b2n (decide (s.boot.stage = .ready)) * 256 + b2n s.halted * 512

/-- Is the link's port narrowed? -/
def State.linkNarrowed (s : State) (k : Nat) : Bool :=
  match s.portOfLink k with
  | some p => decide ((s.liveLinks p).length < (maskList (s.portMask p) 56).length)
  | none => false

/-- The status word of a link in the mirror. -/
def State.linkWord (s : State) (k : Nat) : Nat :=
  s.getF RF.VRN_LNK_STATE_STATE k 0 + s.getF RF.VRN_LNK_STATE_CAUSE k 0 * 16 +
    b2n (s.linkNarrowed k) * 256

/-- The group of a field (R692); temperatures are measured values, free here.
(Mark: DESIGN CHOICE, log 180.) -/
def State.fieldGroup (s : State) (k f : Nat) : List Nat :=
  let fen := fun (l : List Nat) => b2n (l.any (fun u => s.fenced f u))
  [s.fieldPower f + b2n (s.inService f) * 4 + b2n (decide (s.fieldMode f = 1)) * 8 +
      b2n (decide (s.fieldMode f = 2)) * 16 + b2n (s.flag RF.PWR_FLD_STAT_STRETCHING f 0) * 32,
    s.getF RF.PWR_FLD_EST_LAST f 0, Config.freeNat k 0 % 65536,
    s.getF RF.HBM_ID_STATE f 0 + s.getF RF.HBM_LOSS_CAUSE f 0 * 8 + (fen (List.range 9)) * 2 ^ 8 +
      fen [unitSieve 0, unitSieve 1] * 2 ^ 9 + fen [unitScree] * 2 ^ 10 + fen [unitCairn] * 2 ^ 11 +
      fen [unitLoom] * 2 ^ 12]

def low16 (w : Word) : Nat := w.toNat % 65536

/-- The four words of a group as its owner would post them now; none for a reserved group.  Measured
voltages and temperatures are free values of serial `k`. (Mark: DESIGN CHOICE, log 180.) -/
def State.groupNow (s : State) (k g : Nat) : Option (List Nat) :=
  let measured := fun (i : Nat) => Config.freeNat k i % 65536
  if g = 0 then
    some [s.getF RF.CRI_ROLL_SEQ 0 0 % 65536, s.getF RF.CRI_ROLL_SEQ 0 0 / 65536, 0x0100, s.hearthState]
  else if g = 1 then some (words16 4 (s.rd .FAB_UNIT 0 0).toNat)
  else if g = 2 then some (words16 4 s.fabricTime)
  else if g = 3 then
    some [s.pins.lastTag, s.pins.lastResult + s.pins.lastOp * 256,
      s.pins.queue.length % 16 + min 255 (s.getF RF.CRI_STAT_DROPPED 0 0) * 256, s.pins.executed % 65536]
  else if g = 0x20 then
    some [low16 (s.rd .PWR_MOD_STAT 0 0), low16 (s.rd .PWR_PSTATE 0 0), low16 (s.rd .PWR_GATE 0 0),
      low16 (s.rd .PWR_EVENT 0 0)]
  else if g = 0x21 then
    some [s.getF RF.PWR_EST_LAST 0 0, s.getF RF.PWR_EST_MEAN 0 0, s.getF RF.PWR_CAP_WAFER_CAP 0 0,
      low16 (s.rd .PWR_CAP_CTL 0 0)]
  else if g = 0x22 then
    some [measured 0, measured 1, s.getF RF.HRT_HOLDUP_CAPACITANCE 0 0,
      s.getF RF.HRT_HOLDUP_HOLDUP_LOW 0 0 + 2 * s.getF RF.HRT_HOLDUP_CHECKED 0 0]
  else if g = 0x23 then
    some [measured 0 % 32768, measured 1 % 32768, measured 2 % 256, bits (s.rd .PWR_THERM_CTL 0 0) 8 11]
  else if g = 0x24 then some (words16 4 (s.rd .PWR_ENERGY_TOTAL 0 0).toNat)
  else if g = 0x25 then
    some [(s.rd .RVE_LIFECYCLE 0 0).toNat % 256, (s.rd .RVE_RNG_STAT 0 0).toNat % 16,
      low16 (s.rd .HRT_LEDGER_LAST 0 0), low16 (s.bootWord 0)]
  else if g = 0x26 then some (words16 4 (listMask ((List.range 64).filter s.inService)))
  else if g = 0x27 then
    some [listMask ((List.range 80).filter s.inService) / 2 ^ 64, s.fieldsInService, 0, 0]
  else if g = 0x28 then
    some [low16 (s.rd .FAB_NUM 0 0), low16 (s.rd .FAB_STATE 0 0), s.getF RF.FAB_TIME_CTL_TSTATE 0 0,
      low16 (s.rd .FAB_MEMBERS 0 0)]
  else if g = 0x29 then
    some [low16 (s.rd .ASY_FRZ_STAT 0 0), low16 (s.rd .BIS_STAT 0 0), low16 (s.rd .WFR_RCV_EVENT 0 0),
      bits (s.rd .HST_PORT_H0 0 0) 0 9]
  else if 0x40 ≤ g ∧ g < 0x40 + 80 then some (s.fieldGroup k (g - 0x40))
  else if g = 0xC0 then
    some (words16 2 s.padsIn ++ words16 2 (s.getF RF.GPIO_IRQ_STAT_STAT 0 0))
  else if 0xE0 ≤ g ∧ g < 0xE0 + 18 then
    some ((List.range 4).map (fun i => s.linkWord ((g - 0xE0) * 4 + i)))
  else none

/-- Is the owner of a group up, and may its group change now (R690, R710)? -/
def State.ownerUp (s : State) (g : Nat) : Bool :=
  if 0x40 ≤ g ∧ g < 0x40 + 80 then
    !s.beforeClocks && decide (s.boot.stage ≠ .off) && !s.frozen && decide (s.fieldMode (g - 0x40) ≠ 2)
  else if (0x26 ≤ g ∧ g ≤ 0x29) ∨ g = 2 then !s.beforeClocks && decide (s.boot.stage ≠ .off)
  else if g = 0x25 ∨ (0xE0 ≤ g ∧ g < 0xE0 + 18) then decide (s.boot.stage ≠ .hearth)
  else true

/-- Post a group. (Mark: DEDUCED, log 177.) -/
def State.postGroup (s : State) (g : Nat) : State :=
  let (k, s1) := s.fresh
  match s1.groupNow k g with
  | some l => if s.ownerUp g then s1.modPins (fun p => { p with posted := p.posted.put [] g l }) else s
  | none => s

/-- MIRROR_POST, R690. -/
def execMirrorPost (g : Fin 1024) (s : State) : Out :=
  .next (if s.hearthUp then s.postGroup g.val else s)

/-- The validity bitmap as groups 16 to 31. -/
def validWords (valid : List Nat) (g : Nat) : List Nat :=
  (List.range 4).map (fun i => listMask ((List.range 16).filter (fun b =>
    valid.contains (((g - 16) * 4 + i) * 16 + b))))

/-- MIRROR_ROLL, R690, R691: the hearth posts its own groups and copies every posted group. -/
def execMirrorRoll (s : State) : Out :=
  if !s.hearthUp then .next s
  else
    let s1 := s.addWrap RF.CRI_ROLL_SEQ 0 0 1
    let s2 := ((s1.postGroup 0).postGroup 2).postGroup 3
    let own := (List.range 16).map (· + 16)
    let valid := s2.pins.posted.map (·.1) ++ own
    let m := own.foldl (fun (m : NMap (List Nat)) g => m.put [] g (validWords valid g)) s2.pins.posted
    .next ((s2.modPins (fun p => { p with mirror := m })).setF RF.CRI_ROLL_VALID 0 0 valid.length)

/-- A word of the mirror; a group that is not valid reads zero. -/
def State.mirrorWord (s : State) (w : Nat) : Nat := (s.pins.mirror.look [] (w / 4)).getD (w % 4) 0

/-! ### Crier bus, R686–R689 -/

/-- A crier read (R687, R688): the low word of a group latches the group. -/
def State.crierRead (s : State) (w : Nat) : State :=
  let g := w / 4
  let s1 := s.addWrap RF.CRI_READS_COUNT 0 0 1
  let live := (List.range 4).map (fun i => s.mirrorWord (4 * g + i))
  let s2 := if w % 4 = 0 then s1.modPins (fun p => { p with latch := some (g, live) }) else s1
  let v := match s2.pins.latch with
    | some (h, l) => if h = g then l.getD (w % 4) 0 else s.mirrorWord w
    | none => s.mirrorWord w
  s2.send (.crier (if s.flag RF.CRI_CTL_BUS_EN 0 0 then some v else none))

/-- CRIER_READ, R687. -/
def execCrierRead (addr : BitVec 12) (s : State) : Out :=
  .next (if s.pinsServe then s.crierRead addr.toNat else s.send (.crier none))

/-- Has word 0 a known OP and are the reserved bits of the command zero (R694)? (Mark: DEDUCED, log 176.) -/
def sbWellFormed (w : List Nat) : Bool :=
  let x := fun (i : Nat) => w.getD i 0
  let arg0 := x 2
  let arg1 := x 3
  let data := x 4 + x 5 * 2 ^ 16 + x 6 * 2 ^ 32 + x 7 * 2 ^ 48
  decide (x 0 < 256) && match x 0 with
  | 0x01 => decide (arg0 / 4 % 64 = 0) && decide (arg1 = 0) && decide (data = 0)
  | 0x02 => decide (arg0 < 8) && decide (arg1 = 0) && decide (data = 0)
  | 0x03 => decide (arg0 < 80) && decide (arg1 < 4) && decide (data = 0)
  | 0x04 => decide (arg0 < 64) && decide (arg1 = 0) && decide (data < 32768)
  | 0x05 => decide (arg0 < 32) && decide (arg1 = 0) && decide (data < 32768)
  | 0x06 => decide (arg0 < 512) && decide (arg1 = 0) && decide (data = 0)
  | 0x07 => decide (arg0 = 0) && decide (arg1 = 0) && decide (data = 0)
  | 0x10 => decide (arg0 < 28) && decide (arg1 = 0)
  | _ => false

def sbOk : Nat := 0x00
def sbMalformed : Nat := 0x01
def sbCmdErr : Nat := 0x02
def sbLocked : Nat := 0x03

/-- Post the result of a sideband command (R693). (Mark: DEDUCED, log 177.) -/
def State.sbResult (s : State) (w : List Nat) (r : Nat) : State :=
  s.modPins (fun p => { p with
    lastTag := w.getD 1 0, lastOp := w.getD 0 0 % 256, lastResult := r, executed := (p.executed + 1) % 65536 })

/-- Do sideband commands execute now: from the end of stage 1 on, but not once the hearth has fallen back
to its ROM (R713, R728)? (Mark: DEDUCED, log 176.) -/
def State.sbRuns (s : State) : Bool :=
  s.hearthUp && !s.pinTest && decide (s.boot.stage ≠ .hearth) && decide (s.boot.stage ≠ .reeve) &&
    !(decide (s.boot.stage = .halted) && decide (s.getF (bootF 6 4) 0 0 = 2))

/-- Malformed commands at the head of the queue end with MALFORMED. -/
def State.sbFlush (s : State) : Nat → State
  | 0 => s
  | n + 1 =>
    match s.pins.queue with
    | w :: r =>
      if sbWellFormed w || !s.sbRuns then s
      else ((s.modPins (fun p => { p with queue := r })).sbResult w sbMalformed).sbFlush n
    | [] => s

/-- A write to 0xF07 posts the command; a full queue drops it (R693). -/
def State.mailboxPost (s : State) (data : Nat) : State :=
  let s1 := s.modPins (fun p => { p with window := p.window.put 0 7 data })
  if 8 ≤ s1.pins.queue.length then s1.addSat RF.CRI_STAT_DROPPED 0 0 1
  else
    let w := (List.range 8).map (fun i => s1.pins.window.look 0 i)
    (s1.modPins (fun p => { p with queue := p.queue ++ [w] })).sbFlush 8

/-- A crier write (R689, R775). -/
def State.crierWrite (s : State) (w data : Nat) : State :=
  if w < 0xF00 ∨ 0xF07 < w ∨ s.flag RF.CRI_CTL_MBX_EN 0 0 = false then s.addSat RF.CRI_STAT_BAD_WRITE 0 0 1
  else if w = 0xF07 then s.mailboxPost data
  else s.modPins (fun p => { p with window := p.window.put 0 (w - 0xF00) data })

/-- CRIER_WRITE, R689: with CR_RD_N low as well the cycle is served as a read, and counted. -/
def execCrierWrite (addr : BitVec 12) (data : BitVec 16) (rdLow : Bool) (s : State) : Out :=
  if !s.pinsServe then .next s
  else if rdLow then .next ((s.crierRead addr.toNat).addSat RF.CRI_STAT_BAD_CYCLE 0 0 1)
  else .next (s.crierWrite addr.toNat data.toNat)

/-- CRIER_MAILBOX_POST, R693. -/
def execCrierMailboxPost (data : BitVec 16) (s : State) : Out :=
  .next (if s.pinsServe then s.crierWrite 0xF07 data.toNat else s)

/-! ### GPIO, R695–R699 -/

/-- GPIO_IRQ_MODE of a pin. -/
def State.irqMode (s : State) (n : Nat) : Nat :=
  if n < 16 then bits (s.rd .GPIO_IRQ_MODE_LO 0 0) (3 * n) 3
  else bits (s.rd .GPIO_IRQ_MODE_HI 0 0) (3 * (n - 16)) 3

def State.setIrq (s : State) (n : Nat) : State :=
  s.setF RF.GPIO_IRQ_STAT_STAT 0 0 (s.getF RF.GPIO_IRQ_STAT_STAT 0 0 ||| 2 ^ n)

/-- A level-mode pin whose level stands sets its bit (R698). -/
def State.gpioLevels (s : State) : State :=
  (List.range 32).foldl (fun (t : State) n =>
    let high := t.pins.pads.testBit n
    if (t.irqMode n = 4 ∧ high) ∨ (t.irqMode n = 5 ∧ !high) then t.setIrq n else t) s

/-- The synchronised level of a pin is now `level`: edges and levels are detected (R697, R698). -/
def State.padSet (s : State) (n : Nat) (level : Bool) : State :=
  let was := s.pins.pads.testBit n
  let s1 := if was = level then s
    else s.modPins (fun p => { p with
      pads := if level then p.pads ||| 2 ^ n else p.pads &&& (2 ^ 32 - 1 - 2 ^ n) })
  let m := s.irqMode n
  let edge := decide (was ≠ level) && ((level && decide (m = 1 ∨ m = 3)) || (!level && decide (m = 2 ∨ m = 3)))
  if edge || (decide (m = 4) && level) || (decide (m = 5) && !level) then s1.setIrq n else s1

/-- GPIO_IRQ_DETECT, R698. -/
def execGpioIrqDetect (n : Fin 32) (level : Bool) (s : State) : Out :=
  .next (if s.pinsServe then s.padSet n.val level else s)

/-- The level a function-0 output drives: none while an open-drain output is released (R696).
(Mark: DESIGN CHOICE, log 182.) -/
def State.driven (s : State) (n : Nat) : Option Bool :=
  let out := (s.getF RF.GPIO_OUT_OUT 0 0).testBit n
  if (s.getF RF.GPIO_FUNC_FUNC 0 0).testBit n || !(s.getF RF.GPIO_DIR_DIR 0 0).testBit n then none
  else if (s.getF RF.GPIO_OD_OD 0 0).testBit n && out then none
  else some out

/-- The pads follow the outputs, and what they drive is read back and detected; an edge of its own output
wakes the module (R697, R707). -/
def State.drivePads (s : State) : State :=
  (List.range 32).foldl (fun (t : State) n =>
    match t.driven n with
    | none => t
    | some v =>
      if t.pins.pads.testBit n = v then t
      else
        let t1 := (t.padSet n v).send (.pin n v)
        if n < 8 ∧ t.modState = 2 ∧ (t.getF RF.PWR_WAKE_ARM_MASK 0 0).testBit n ∧ t.edgeQualifies n v then
          (t1.raise RF.PWR_EVENT_WAKE 0).modCommand (t.getF RF.PWR_WAKE_ARM_TARGET 0 0) 3
        else t1) s

/-- (Mark: DEDUCED, log 178.) -/
def State.lockErr (s : State) : State := s.setFlag RF.GPIO_STAT_LOCK_ERR 0 0 true
def State.gpioErr (s : State) : State := s.setFlag RF.GPIO_STAT_CMD_ERR 0 0 true

/-- The pins of a register field array that are locked, as a bit mask of fields `w` wide from pin `lo`. -/
def State.lockBits (s : State) (lo n w : Nat) : Nat :=
  (List.range n).foldl (fun m i =>
    if (s.getF RF.GPIO_LOCKED_LOCKED 0 0).testBit (lo + i) then m + (2 ^ w - 1) * 2 ^ (w * i) else m) 0

/-- Write a configuration register of pins `lo` to `lo + n - 1`, `w` bits each: locked pins keep their
fields with LOCK_ERR (R699), values from `top` on are ignored with CMD_ERR (R698, R709).
(Mark: DEDUCED, log 178.) -/
def State.pinConfig (s : State) (f : RF) (lo n w top v : Nat) : State × Nat :=
  let old := s.getF f 0 0
  let pick := fun (i : Nat) =>
    let x := nbits v (w * i) w
    if (s.getF RF.GPIO_LOCKED_LOCKED 0 0).testBit (lo + i) ∨ top ≤ x then nbits old (w * i) w else x
  let new := (List.range n).foldl (fun m i => m + pick i * 2 ^ (w * i)) 0
  let locked := decide (s.lockBits lo n w ≠ 0)
  let bad := (List.range n).any (fun i => decide (top ≤ nbits v (w * i) w))
  let s1 := s.setF f 0 0 new
  let s2 := if locked then s1.lockErr else s1
  let s3 := if bad then s2.gpioErr else s2
  (s3.drivePads, if locked then sbLocked else if bad then sbCmdErr else sbOk)

/-- GPIO_OUT, by whole value (R696). -/
def State.gpioOut (s : State) (v : Nat) : State := (s.setF RF.GPIO_OUT_OUT 0 0 (v % 2 ^ 32)).drivePads

def State.gpioSet (s : State) (m : Nat) : State := s.gpioOut (s.getF RF.GPIO_OUT_OUT 0 0 ||| m)

def State.gpioClr (s : State) (m : Nat) : State :=
  s.gpioOut (s.getF RF.GPIO_OUT_OUT 0 0 &&& (2 ^ 32 - 1 - m % 2 ^ 32))

/-- GPIO_OUT_SET, R696. -/
def execGpioOutSet (m : BitVec 32) (s : State) : Out :=
  .next (if s.pinsServe then s.gpioSet m.toNat else s)

/-- GPIO_OUT_CLR, R696. -/
def execGpioOutClr (m : BitVec 32) (s : State) : Out :=
  .next (if s.pinsServe then s.gpioClr m.toNat else s)

/-- The number of a lock source. -/
def lockSource : GpioSource → Nat
  | .pf => 0
  | .crier => 1
  | .smbus => 2

/-- A write of GPIO_LOCK_KEY (R699). -/
def State.lockKey (s : State) (src key : Nat) : State :=
  let st := s.pins.lockArm.look 0 src
  let next := if st = 1 ∧ key = 0xA5A5 then 2 else if st = 0 ∧ key = 0x5A5A then 1 else 0
  s.modPins (fun p => { p with lockArm := p.lockArm.put 0 src next })

/-- GPIO_LOCK_KEY_WRITE, R699. -/
def execGpioLockKeyWrite (src : GpioSource) (key : BitVec 16) (s : State) : Out :=
  .next (if s.hearthUp then s.lockKey (lockSource src) key.toNat else s)

/-- A write of GPIO_LOCK_SET (R699): the mask is added once the second stage is armed; otherwise the write
is ignored with LOCK_ERR. -/
def State.lockSet (s : State) (src mask : Nat) : State :=
  if s.pins.lockArm.look 0 src = 2 then
    (s.setF RF.GPIO_LOCKED_LOCKED 0 0 (s.getF RF.GPIO_LOCKED_LOCKED 0 0 ||| mask % 2 ^ 32)).modPins (fun p =>
      { p with lockArm := p.lockArm.put 0 src 0 })
  else s.lockErr

/-- GPIO_LOCK_SET_WRITE, R699. -/
def execGpioLockSetWrite (src : GpioSource) (mask : BitVec 32) (s : State) : Out :=
  .next (if s.hearthUp then s.lockSet (lockSource src) mask.toNat else s)

/-- GPIO_I2Cn.GO (R708): the address with its direction and the bytes written; a busy controller ignores
it with CMD_ERR. -/
def State.i2cGo (s : State) (n addr : Nat) (read : Bool) (len : Nat) : State :=
  if s.flag RF.GPIO_I2Cn_BUSY 0 n then s.gpioErr
  else
    let bytes := (leBytes 8 (s.rd .GPIO_I2Cn_DATA 0 n).toNat).take (len + 1)
    ((s.setF RF.GPIO_I2Cn_ADDRESS 0 n addr).setFlag RF.GPIO_I2Cn_READ 0 n read
      |>.setF RF.GPIO_I2Cn_LENGTH 0 n len |>.setFlag RF.GPIO_I2Cn_BUSY 0 n true).send
        (.i2c n (addr * 2 + b2n read) (if read then [] else bytes))

/-- I2C_GO, R708. -/
def execI2cGo (n : Fin 2) (addr : BitVec 7) (read : Bool) (len : BitVec 3) (s : State) : Out :=
  .next (if s.pinsServe then s.i2cGo n.val addr.toNat read len.toNat else s)

/-- I2C_DONE, R708: a refused transfer sets NACK and moves no further bytes. -/
def execI2cDone (n : Fin 2) (nack : Bool) (data : Word) (s : State) : Out :=
  if !s.flag RF.GPIO_I2Cn_BUSY 0 n.val then .next s
  else
    let s1 := s.setFlag RF.GPIO_I2Cn_BUSY 0 n.val false
    if nack then .next (s1.setFlag RF.GPIO_I2Cn_NACK 0 n.val true)
    else if s.flag RF.GPIO_I2Cn_READ 0 n.val then
      let len := s.getF RF.GPIO_I2Cn_LENGTH 0 n.val + 1
      .next (s1.wr .GPIO_I2Cn_DATA 0 n.val (putBits (s.rd .GPIO_I2Cn_DATA 0 n.val) 0 (8 * len)
        (data.toNat % 2 ^ (8 * len))))
    else .next s1

/-- A write of a GPIO register by its selector (R777), with the result a sideband command gets; one of a
read-only register is recorded (R779). -/
def State.gpioWrite (s : State) (src sel : Nat) (v : Word) : State × Nat :=
  let n := v.toNat
  match sel with
  | 0 => s.pinConfig RF.GPIO_FUNC_FUNC 0 32 1 2 n
  | 1 => s.pinConfig RF.GPIO_DIR_DIR 0 32 1 2 n
  | 2 => s.pinConfig RF.GPIO_OD_OD 0 32 1 2 n
  | 3 => s.pinConfig RF.GPIO_PULL_LO_PULL 0 16 2 3 n
  | 4 => s.pinConfig RF.GPIO_PULL_HI_PULL 16 16 2 3 n
  | 5 => (s.gpioOut n, sbOk)
  | 6 => (s.gpioSet (n % 2 ^ 32), sbOk)
  | 7 => (s.gpioClr n, sbOk)
  | 8 => let (t, r) := s.pinConfig RF.GPIO_IRQ_MODE_LO_MODE 0 16 3 6 n; (t.gpioLevels, r)
  | 9 => let (t, r) := s.pinConfig RF.GPIO_IRQ_MODE_HI_MODE 16 16 3 6 n; (t.gpioLevels, r)
  | 10 => ((s.setF RF.GPIO_IRQ_STAT_STAT 0 0
      (s.getF RF.GPIO_IRQ_STAT_STAT 0 0 &&& (2 ^ 32 - 1 - n % 2 ^ 32))).gpioLevels, sbOk)
  | 11 => (s.lockKey src (n % 65536), sbOk)
  | 12 => (s.lockSet src n, if s.pins.lockArm.look 0 src = 2 then sbOk else sbLocked)
  | 13 | 14 | 15 | 16 =>
    if n % 512 ≤ 256 then (s.setF RF.GPIO_PWMk_DUTY 0 (sel - 13) (n % 512), sbOk) else (s, sbCmdErr)
  | 17 | 19 =>
    let i := (sel - 17) / 2
    let s1 := if nbits n 13 1 = 1 then s.setFlag RF.GPIO_I2Cn_NACK 0 i false else s
    if nbits n 11 1 = 1 then
      (s1.i2cGo i (nbits n 0 7) (decide (nbits n 7 1 = 1)) (nbits n 8 3),
        if s1.flag RF.GPIO_I2Cn_BUSY 0 i then sbCmdErr else sbOk)
    else if s1.flag RF.GPIO_I2Cn_BUSY 0 i then (s1, sbOk)
    else
      ((s1.setF RF.GPIO_I2Cn_ADDRESS 0 i (nbits n 0 7)).setF RF.GPIO_I2Cn_READ 0 i (nbits n 7 1)
        |>.setF RF.GPIO_I2Cn_LENGTH 0 i (nbits n 8 3), sbOk)
  | 18 | 20 => (s.wr .GPIO_I2Cn_DATA 0 ((sel - 18) / 2) v, sbOk)
  | 27 =>
    let s1 := if nbits n 0 1 = 1 then s.setFlag RF.GPIO_STAT_LOCK_ERR 0 0 false else s
    (if nbits n 1 1 = 1 then s1.setFlag RF.GPIO_STAT_CMD_ERR 0 0 false else s1, sbOk)
  | 21 | 22 | 23 | 24 | 25 | 26 => (s.writeErr .GPIO 0 (0x40 + 8 * sel) 2, sbCmdErr)
  | _ => (s, sbCmdErr)

/-- TACH_UPDATE, R709. -/
def execTachUpdate (k : Fin 4) (rpm : BitVec 16) (s : State) : Out :=
  .next (if s.pinsServe && (s.getF RF.GPIO_FUNC_FUNC 0 0).testBit (16 + k.val) then
    s.setF RF.GPIO_TACHk_RPM 0 k.val rpm.toNat else s)

/-- Does PPS_OUT run (R695)? -/
def State.ppsRuns (s : State) : Bool :=
  let t := s.getF RF.FAB_TIME_CTL_TSTATE 0 0
  s.pinsServe && (s.getF RF.GPIO_FUNC_FUNC 0 0).testBit 24 && decide (s.modState ≠ 2) && !s.power.asleep &&
    (decide (t = tsLocked) || decide (t = tsHoldover) || s.flag RF.FAB_TIME_CTL_IS_MASTER 0 0)

/-- PPS_OUT_EDGE, R695: high for 1 ms from each whole second of fabric time. -/
def execPpsOutEdge (s : State) : Out :=
  let level := s.ppsRuns && decide (s.fabricTime % 1000000000 < 1000000)
  if s.pins.ppsOut = level then .next s
  else .next ((s.modPins (fun p => { p with ppsOut := level })).send (.pin 24 level))

/-! ### Sideband commands, R693, R694 -/

/-- A cap of the wafer with its control (R694): values outside the ranges are ignored with CMD_ERR.
(Mark: DEDUCED, log 179.) -/
def State.capWafer (s : State) (w : Nat) : State :=
  if 6000 ≤ w ∧ w ≤ 26000 then s.setF RF.PWR_CAP_WAFER_CAP 0 0 w else s.pwrErr

/-- (Marks: DEDUCED, log 142; DEDUCED, log 179.) -/
def State.capCtl (s : State) (v : Nat) : State :=
  let s1 := s.setF RF.PWR_CAP_CTL_ENABLE 0 0 (v % 2)
  let s2 := if v % 2 = 0 then
      (List.range 32).foldl (fun (t : State) p => t.setF RF.PWR_PARn_CAP_GATE 0 p 0)
        (s1.setF RF.PWR_GATE_GATE 0 0 0) else s1
  if 1 ≤ v / 2 % 32 ∧ v / 2 % 32 ≤ 20 then s2.setF RF.PWR_CAP_CTL_HYST 0 0 (v / 2 % 32) else s2

def State.capParish (s : State) (p w : Nat) : State :=
  if w = 0 ∨ (100 ≤ w ∧ w ≤ 26000) then s.setF RF.PWR_PARn_CAP_CAP 0 p w else s.pwrErr

/-- The data word of a sideband command. -/
def sbData (w : List Nat) : Nat :=
  w.getD 4 0 + w.getD 5 0 * 2 ^ 16 + w.getD 6 0 * 2 ^ 32 + w.getD 7 0 * 2 ^ 48

/-- Run a command of the power page and see whether it set CMD_ERR. -/
def State.withModErr (s : State) (g : State → State) : State × Nat :=
  let was := s.flag RF.PWR_MOD_STAT_CMD_ERR 0 0
  let t := g (s.setFlag RF.PWR_MOD_STAT_CMD_ERR 0 0 false)
  let err := t.flag RF.PWR_MOD_STAT_CMD_ERR 0 0
  (if was then t.setFlag RF.PWR_MOD_STAT_CMD_ERR 0 0 true else t, if err then sbCmdErr else sbOk)

/-- Run one well-formed sideband command; `src` is 1 for the crier and 2 for SMBus, `cool` the sensors'
state for RESUME. -/
def State.sbExec (s : State) (src : Nat) (w : List Nat) (cool : Bool) : State × Nat :=
  let arg0 := w.getD 2 0
  let arg1 := w.getD 3 0
  match w.getD 0 0 with
  | 0x01 => s.withModErr (fun t =>
      (t.setF RF.PWR_MOD_CTL_DRAIN_MS 0 0 (max 1 (arg0 / 256))).modAny (arg0 % 4) src)
  | 0x02 =>
    if 5 < arg0 then (s, sbCmdErr)
    else ((s.setF RF.PWR_MOD_STAT_SOURCE 0 0 src).pstateWrite arg0, sbOk)
  | 0x03 =>
    let was := s.flag RF.PWR_FLD_STAT_CMD_ERR arg0 0
    let t := ((s.setF RF.PWR_MOD_STAT_SOURCE 0 0 src).setFlag RF.PWR_FLD_STAT_CMD_ERR arg0 0
      false).fieldTarget arg0 arg1
    let err := t.flag RF.PWR_FLD_STAT_CMD_ERR arg0 0
    (if was then t.setFlag RF.PWR_FLD_STAT_CMD_ERR arg0 0 true else t, if err then sbCmdErr else sbOk)
  | 0x04 =>
    let (t, r) := s.withModErr (fun t => t.capWafer (sbData w))
    (t.capCtl arg0, if 1 ≤ arg0 / 2 ∧ arg0 / 2 ≤ 20 then r else sbCmdErr)
  | 0x05 => s.withModErr (fun t => t.capParish arg0 (sbData w))
  | 0x06 => ((s.setF RF.PWR_WAKE_ARM_MASK 0 0 (arg0 % 256)).setF RF.PWR_WAKE_ARM_TARGET 0 0 (arg0 / 256), sbOk)
  | 0x07 => s.withModErr (fun t => t.thermResume cool)
  | _ => s.gpioWrite src arg0 (BitVec.ofNat 64 (sbData w))

/-- The words of a command (R694). -/
def sbWords (op : Nat) (tag arg0 arg1 : BitVec 16) (data : Word) : List Nat :=
  [op, tag.toNat, arg0.toNat, arg1.toNat] ++ words16 4 data.toNat

/-- Execute a sideband command: from the crier it is the one at the head of the queue (R693); SMBus gets
its result code in the response (R701). -/
def State.sbRun (s : State) (src : Sideband) (w : List Nat) (cool : Bool) : State :=
  if !s.sbRuns then s
  else match src with
  | .crier =>
    match s.pins.queue with
    | h :: r =>
      if h = w then
        let (t, res) := (s.modPins (fun p => { p with queue := r })).sbExec 1 w cool
        (t.sbResult w res).sbFlush 8
      else s
    | [] => s
  | .smbus =>
    if sbWellFormed w then
      let (t, res) := s.sbExec 2 w cool
      (t.sbResult w res).send (.sideband res)
    else (s.sbResult w sbMalformed).send (.sideband sbMalformed)

/-- SB_SET_MODULE, R694. -/
def execSbSetModule (src : Sideband) (tag arg0 arg1 : BitVec 16) (data : Word) (s : State) : Out :=
  .next (s.sbRun src (sbWords 0x01 tag arg0 arg1 data) false)

/-- SB_SET_PSTATE, R694, R705. -/
def execSbSetPstate (src : Sideband) (tag arg0 arg1 : BitVec 16) (data : Word) (s : State) : Out :=
  .next (s.sbRun src (sbWords 0x02 tag arg0 arg1 data) false)

/-- SB_SET_FIELD, R694. -/
def execSbSetField (src : Sideband) (tag arg0 arg1 : BitVec 16) (data : Word) (s : State) : Out :=
  .next (s.sbRun src (sbWords 0x03 tag arg0 arg1 data) false)

/-- SB_SET_CAP_WAFER, R694. -/
def execSbSetCapWafer (src : Sideband) (tag arg0 arg1 : BitVec 16) (data : Word) (s : State) : Out :=
  .next (s.sbRun src (sbWords 0x04 tag arg0 arg1 data) false)

/-- SB_SET_CAP_PARISH, R694. -/
def execSbSetCapParish (src : Sideband) (tag arg0 arg1 : BitVec 16) (data : Word) (s : State) : Out :=
  .next (s.sbRun src (sbWords 0x05 tag arg0 arg1 data) false)

/-- SB_SET_WAKE_ARM, R694. -/
def execSbSetWakeArm (src : Sideband) (tag arg0 arg1 : BitVec 16) (data : Word) (s : State) : Out :=
  .next (s.sbRun src (sbWords 0x06 tag arg0 arg1 data) false)

/-- SB_THERM_RESUME, R694, R544: `cool` as in THERM_RESUME. -/
def execSbThermResume (src : Sideband) (tag arg0 arg1 : BitVec 16) (data : Word) (cool : Bool) (s : State) :
    Out :=
  .next (s.sbRun src (sbWords 0x07 tag arg0 arg1 data) cool)

/-- SB_GPIO_WRITE, R694, R777. -/
def execSbGpioWrite (src : Sideband) (tag arg0 arg1 : BitVec 16) (data : Word) (s : State) : Out :=
  .next (s.sbRun src (sbWords 0x10 tag arg0 arg1 data) false)

/-! ### MCTP and PLDM, R700–R702 -/

/-- Answer one MCTP packet; one without a good PEC is counted and dropped (R700).
(Mark: PRESUMED, log 181.) -/
def State.mctp (s : State) (pec : Bool) (g : State → State × List Nat) : State :=
  if !s.pinsServe then s
  else if !pec then s.addSat RF.HRT_SMB_STAT_PEC 0 0 1
  else
    let (t, l) := g s
    t.send (.smbus (l.map (fun x => BitVec.ofNat 8 x)))

/-- MCTP_SET_ENDPOINT_ID, R701: the null and the broadcast EID are refused. -/
def execMctpSetEndpointId (pec : Bool) (eid : BitVec 8) (s : State) : Out :=
  .next (s.mctp pec (fun t =>
    if eid = 0#8 ∨ eid = 0xFF#8 then (t.addSat RF.HRT_SMB_STAT_MALFORMED 0 0 1, [0x02])
    else (t.setF RF.HRT_SMB_STAT_EID 0 0 eid.toNat, [0x00, eid.toNat])))

/-- MCTP_GET_ENDPOINT_ID, R701. (Mark: PRESUMED, log 181.) -/
def execMctpGetEndpointId (pec : Bool) (s : State) : Out :=
  .next (s.mctp pec (fun t => (t, [0x00, t.getF RF.HRT_SMB_STAT_EID 0 0])))

/-- MCTP_GET_ENDPOINT_UUID, R701: the last 8 bytes are the unit identity, the first 8 are not stated. -/
def execMctpGetEndpointUuid (pec : Bool) (s : State) : Out :=
  .next (s.mctp pec (fun t =>
    let (k, t1) := t.fresh
    (t1, 0x00 :: (List.range 8).map (fun i => (Config.freeByte k i).toNat) ++
      (leBytes 8 Config.unitIdentity.toNat).map (·.toNat))))

/-- MCTP_GET_VERSION_SUPPORT, R701: base specification 1.3. -/
def execMctpGetVersionSupport (pec : Bool) (s : State) : Out :=
  .next (s.mctp pec (fun t => (t, [0x00, 1, 0xF1, 0xF3, 0xFF, 0x00])))

/-- MCTP_GET_MSG_TYPE_SUPPORT, R701: PLDM, SPDM, vendor-defined; control is implied. -/
def execMctpGetMsgTypeSupport (pec : Bool) (s : State) : Out :=
  .next (s.mctp pec (fun t => (t, [0x00, 4, 0x00, 0x01, 0x05, 0x7F])))

/-- MCTP_GET_VENDOR_SUPPORT, R701: enterprise number 0x0000_E437. -/
def execMctpGetVendorSupport (pec : Bool) (s : State) : Out :=
  .next (s.mctp pec (fun t => (t, [0x00, 0xFF, 0x01, 0x00, 0x00, 0xE4, 0x37])))

/-- PLDM_GET_TID, R702. -/
def execPldmGetTid (pec : Bool) (s : State) : Out :=
  .next (s.mctp pec (fun t => (t, [0x00, t.pins.tid])))

/-- PLDM_SET_TID, R702. -/
def execPldmSetTid (pec : Bool) (tid : BitVec 8) (s : State) : Out :=
  .next (s.mctp pec (fun t => (t.modPins (fun p => { p with tid := tid.toNat }), [0x00])))

/-- The PLDM types supported (R702). -/
def pldmType (n : Nat) : Bool := decide (n = 0) || decide (n = 2) || decide (n = 4)

/-- PLDM_GET_VERSION, R702: the version of a supported type is not stated; another type is refused. -/
def execPldmGetVersion (pec : Bool) (type_ : BitVec 8) (s : State) : Out :=
  .next (s.mctp pec (fun t =>
    let (k, t1) := t.fresh
    if pldmType type_.toNat then (t1, 0x00 :: (List.range 4).map (fun i => (Config.freeByte k i).toNat))
    else (t1, [0x83])))

/-- PLDM_GET_TYPES, R702: types 0, 2 and 4. -/
def execPldmGetTypes (pec : Bool) (s : State) : Out :=
  .next (s.mctp pec (fun t => (t, [0x00, 0x15, 0, 0, 0, 0, 0, 0, 0])))

/-- The command codes supported of a type (R702). -/
def pldmCommands : Nat → List Nat
  | 0 => [0x01, 0x02, 0x03, 0x04, 0x05]
  | 2 => [0x11, 0x21, 0x50, 0x51]
  | 4 => [0x01, 0x02]
  | _ => []

/-- PLDM_GET_COMMANDS, R702: one bit per command code. -/
def execPldmGetCommands (pec : Bool) (type_ : BitVec 8) (s : State) : Out :=
  .next (s.mctp pec (fun t =>
    if pldmType type_.toNat then
      (t, 0x00 :: (leBytes 32 (listMask (pldmCommands type_.toNat))).map (·.toNat))
    else (t, [0x83])))

/-- The numeric sensors of R702: the mirror group and the value of each; none for an id outside the
table. -/
def State.sensor (s : State) : Nat → Option (Nat × Nat)
  | 1 => some (0x22, s.mirrorWord 0x088)
  | 2 => some (0x21, s.mirrorWord 0x085)
  | 3 => some (0x23, s.mirrorWord 0x08C % 256)
  | 4 => some (0x23, s.mirrorWord 0x08D % 256)
  | 5 => some (0x23, s.mirrorWord 0x08E % 256)
  | 6 => some (0x24, (s.mirrorWord 0x090 + s.mirrorWord 0x091 * 2 ^ 16 + s.mirrorWord 0x092 * 2 ^ 32 +
      s.mirrorWord 0x093 * 2 ^ 48) / 1000000)
  | 7 => some (0x27, s.mirrorWord 0x09D)
  | 8 => some (0x22, s.mirrorWord 0x08A * 10)
  | _ => none

/-- The state sensors of R702. -/
def State.stateSensor (s : State) : Nat → Option (Nat × Nat)
  | 20 => some (0, s.mirrorWord 0x003 / 2 % 8)
  | 21 => some (0, s.mirrorWord 0x003 / 16 % 8)
  | 22 => some (0x25, s.mirrorWord 0x094 % 8)
  | 23 => some (0x28, s.mirrorWord 0x0A2 % 8)
  | 24 => some (0x23, s.mirrorWord 0x08F / 2 % 2)
  | 25 => some (0x29, s.mirrorWord 0x0A4 % 4)
  | _ => none

/-- Is a group valid in the mirror (R691)? -/
def State.groupValid (s : State) (g : Nat) : Bool := s.pins.mirror.any (fun e => decide (e.1 = g))

/-- A sensor's answer: its value, or unavailable while its group is not valid (R702). -/
def State.sensorAnswer (s : State) (x : Option (Nat × Nat)) : List Nat :=
  match x with
  | none => [0x80]
  | some (g, v) => if s.groupValid g then 0x00 :: (leBytes 8 v).map (·.toNat) else [0x00, 0x02]

/-- PLDM_GET_SENSOR_READING, R702. -/
def execPldmGetSensorReading (pec : Bool) (id : BitVec 16) (s : State) : Out :=
  .next (s.mctp pec (fun t => (t, t.sensorAnswer (t.sensor id.toNat))))

/-- PLDM_GET_STATE_SENSORS, R702. -/
def execPldmGetStateSensors (pec : Bool) (id : BitVec 16) (s : State) : Out :=
  .next (s.mctp pec (fun t => (t, t.sensorAnswer (t.stateSensor id.toNat))))

/-- A PLDM answer whose contents the spec leaves to PLDM: a free list. -/
def State.pldmFree (s : State) : State × List Nat :=
  let (d, s1) := s.freeData
  (s1, 0x00 :: d.map (·.toNat))

/-- PLDM_GET_PDR_REPO_INFO, R702. -/
def execPldmGetPdrRepoInfo (pec : Bool) (s : State) : Out := .next (s.mctp pec (fun t => t.pldmFree))

/-- PLDM_GET_PDR, R702. -/
def execPldmGetPdr (pec : Bool) (_record : BitVec 32) (s : State) : Out :=
  .next (s.mctp pec (fun t => t.pldmFree))

/-- PLDM_GET_FRU_METADATA, R702. -/
def execPldmGetFruMetadata (pec : Bool) (s : State) : Out := .next (s.mctp pec (fun t => t.pldmFree))

/-- PLDM_GET_FRU_TABLE, R702: unit identity, part name "Horusk", lifecycle state, firmware build. -/
def execPldmGetFruTable (pec : Bool) (s : State) : Out :=
  .next (s.mctp pec (fun t => (t, 0x00 :: (leBytes 8 Config.unitIdentity.toNat).map (·.toNat) ++
    [0x48, 0x6F, 0x72, 0x75, 0x73, 0x6B, t.lifecycle] ++
    (leBytes 4 (t.getF RF.HRT_SYS_ID_BUILD 0 0)).map (·.toNat))))

end Sys2Proof.Machine
end

