-- ==== Sys2Proof/Machine/Bringup.lean ====
section
/-! DEFINITION. Power-up and bring-up (R710–R732): the stages, the boot status record, wafer faults, and
the wafer warm and cold resets (R617–R625, R724). -/

namespace Sys2Proof.Machine

def State.modBoot (s : State) (g : Boot → Boot) : State := { s with boot := g s.boot }

/-! ### Stages and the boot status record, R710, R725 -/

def stageCode : BootStage → Nat
  | .off => 0
  | .hearth => 0
  | .reeve => 1
  | .clock => 2
  | .hbm => 3
  | .seams => 4
  | .selfcheck => 5
  | .images => 6
  | .fabric => 7
  | .ready => 8
  | .recovery => 14
  | .halted => 15

/-- STAGE and the time of its start. -/
def State.stageBegin (s : State) (st : BootStage) : State :=
  let (ms, s1) := s.msSince s.boot.t0
  ((s1.setF (bootF 0 4) 0 0 (stageCode st)).setF (bootF 32 32) 0 0 ms).modBoot (fun b => { b with
    stage := st, stageStart := s.now })

/-- The present stage ends, with its duration recorded, and the next begins. -/
def State.nextStage (s : State) (st : BootStage) : State :=
  let n := stageCode s.boot.stage
  let (ms, s1) := s.msSince s.boot.stageStart
  (s1.setF (bootF (16 * (n % 4)) 16) 0 (1 + n / 4) (min 0xFFFF ms)).stageBegin st

/-- The byte of a field in words 4 to 13.  NOT_REACHED of an UNCLOCKED field is a free value: the spec does
not say which of them it marks. (Mark: DEDUCED, log 184.) -/
def State.bootByte (s : State) (k f : Nat) : Nat :=
  let c := s.getF RF.WFR_FLDf_STATUS_CAUSE 0 f
  let res := if s.inService f then 0
    else if c = causeBody then 1
    else if c = causeHbm then 2
    else if c = causeSpine then 3
    else if c = causeUnclocked then 4
    else if c = causeIsolated then 5
    else 0
  res + 8 * b2n (decide (s.fieldMode f = 2)) + 16 * s.getF RF.WFR_FLDf_STATUS_SPARE_IN_USE 0 f +
    32 * s.getF RF.WFR_FLDf_STATUS_LOM_FENCED 0 f + 64 * b2n (decide (res = 4) && Config.freeBool k f)

/-- Words 4 to 13 and the fields in service. (Mark: DEDUCED, log 184.) -/
def State.bootFields (s : State) : State :=
  let (k, s1) := s.fresh
  let s2 := (List.range 80).foldl (fun (t : State) f =>
    t.setF (bootF (8 * (f % 8)) 8) 0 (4 + f / 8) (s.bootByte k f)) s1
  s2.setF (bootF 24 7) 0 0 s2.fieldsInService

/-- A wafer fault in any stage (R40, R728): in service READY clears, and the wafer halts.
(Mark: DEDUCED, log 188.) -/
def State.faultNow (s : State) (cause : Nat) : State :=
  if s.boot.stage = .ready then
    ((s.setFlag (bootF 4 1) 0 0 false).modBoot (fun b => { b with stage := .halted })).setF (bootF 0 4) 0 0 15
      |>.setFlag (bootF 5 1) 0 0 true |>.setF (bootF 6 4) 0 0 cause
  else s.waferFault cause

/-! ### Stage 0 -/

/-- POWER_UP, R710: t0, at once or after the qualification that follows a save. -/
def execPowerUp (s : State) : Out :=
  if decide (s.boot.stage ≠ .off) || s.saving || (s.hearth.restart.isSome && !s.hearth.qualified) then .next s
  else
    let s1 := s.modBoot (fun b => { b with
      stage := .hearth, t0 := s.now, stageStart := s.now, cold := false, hearthAlive := false
      planeCharged := false })
    let s2 := (s1.modHearth (fun h => { h with restart := none, qualified := false, started := s.now })).addWrap
      RF.HRT_SYS_STATE_POWER_UPS 0 0 1
    .next ((s2.setFlag (bootF 10 1) 0 0 true).setF (bootF 0 16) 0 3 0xFFFF)

/-- HEARTH_ALIVE, R713; the address pins give the SMBus address (R683). -/
def execHearthAlive (strap : BitVec 3) (s : State) : Out :=
  if decide (s.boot.stage ≠ .hearth) || s.boot.hearthAlive then .next s
  else .next ((s.modBoot (fun b => { b with hearthAlive := true })).setF RF.GPIO_STAT_SMB_ADDR 0 0
    (0x58 + strap.toNat))

/-- PLANE_CHARGED, R787. -/
def execPlaneCharged (s : State) : Out :=
  if decide (s.boot.stage ≠ .hearth) || !s.boot.hearthAlive then .next s
  else .next (s.modBoot (fun b => { b with planeCharged := true }))

/-- HOLDUP_CHECK_DONE, R559: the estimate in 10 µF units; the Reeve starts. -/
def execHoldupCheckDone (cap : BitVec 16) (s : State) : Out :=
  if decide (s.boot.stage ≠ .hearth) || !s.boot.planeCharged then .next s
  else
    let low := decide (cap.toNat < 680)
    let s1 := ((s.setF RF.HRT_HOLDUP_CAPACITANCE 0 0 cap.toNat).setFlag RF.HRT_HOLDUP_HOLDUP_LOW 0 0 low).setFlag
      RF.HRT_HOLDUP_CHECKED 0 0 true
    let s2 := (s1.setFlag (bootF 11 1) 0 0 low).nextStage .reeve
    .next (s2.modReeve (fun r => { r with startedAt := s.now }))

/-! ### Stage 1, R578, R579, R714 -/

/-- The first class of a slot whose image fails R578: `bad` is the first whose signature fails. -/
def State.slotFails (s : State) (slot : Nat) (bad : Option (Fin 5)) : Option Nat :=
  (List.range 5).find? (fun c =>
    decide (bad.map (·.val) = some c) ||
      decide ((s.reeve.slots.getD slot []).getD c 0 < s.reeve.fuses.getD c 0))

/-- The ROM has loaded a slot: BOOTED, the versions, and what an activation leaves (R580). -/
def State.bootSlot (s : State) (slot : Nat) : State :=
  let tried := s.boot.cold && s.reeve.activated
  let fresh := tried && decide (slot ≠ s.getF RF.RVE_IMAGES_BOOTED 0 0)
  let v := (s.reeve.slots.getD slot []).zipIdx.foldl (fun n x => n + x.1 % 32 * 32 ^ x.2) 0
  let s1 := (s.setF RF.RVE_IMAGES_BOOTED 0 0 slot).setF RF.RVE_IMAGES_VERSIONS 0 0 v
  let s2 := if tried then (s1.setFlag RF.RVE_IMAGES_STAGED 0 0 false).setFlag RF.RVE_IMAGES_CONFIRM 0 0 fresh
    else s1
  s2.modReeve (fun r => { r with selected := slot, activated := r.activated && !tried })

/-- Recovery mode (R579, R726): words 0 and 3 are kept up, with the class and slot that failed last. -/
def State.recoveryMode (s : State) (slot cls : Nat) : State :=
  ((s.setFlag RF.RVE_LIFECYCLE_RECOVERY_MODE 0 0 true).setFlag (bootF 12 1) 0 0 true |>.setF (bootF 16 3) 0 0 cls
    |>.setF (bootF 19 1) 0 0 slot).stageBegin .recovery

/-- The port membership of the first boot (R459). -/
def State.defaultPorts (s : State) : State :=
  let one := fun (t : State) (p mask : Nat) =>
    (t.setF RF.VRN_PORTp_CTL_MEMBERS 0 p mask).setFlag RF.VRN_PORTp_CTL_ENABLE 0 p true
  let s1 := (List.range 6).foldl (fun (t : State) p => one t p (255 * 2 ^ (8 * p))) s
  one (one s1 48 (15 * 2 ^ 48)) 49 (15 * 2 ^ 52)

/-- The scan of the record ring (R566): the newest record; `crcOk` is the check of its CRC. -/
def State.ledgerScan (s : State) (crcOk : Bool) : State :=
  let s1 := match newestSlot s.hearth.slots (fun _ => true) with
    | none => s.wr .HRT_LEDGER_LAST 0 0 0#64
    | some (k, r) =>
      s.setF RF.HRT_LEDGER_LAST_SLOT 0 0 k
        |>.setF RF.HRT_LEDGER_LAST_STATUS 0 0 (if !r.committed then 2 else if crcOk then 1 else 3)
        |>.setF RF.HRT_LEDGER_LAST_CAUSE 0 0 r.cause |>.setF RF.HRT_LEDGER_LAST_SEQ 0 0 r.seq
  s1.setF (bootF 32 16) 0 3 (bits (s1.rd .HRT_LEDGER_LAST 0 0) 0 16)

/-- The links whose TARGET is not DOWN start training (R427, R714); H0 and S0 links run PCIe. -/
def State.linksStart (s : State) : State :=
  let s1 := (List.range 16).foldl (fun (t : State) i => t.enterState (56 + i) lsPcie) s
  (List.range 56).foldl (fun (t : State) k => if t.linkTarget k = 0 then t else t.fromDown k) s1

/-- What stage 1 loads once the images have booted (R459, R461, R475, R566, R774). -/
def State.reeveLoads (s : State) (crcOk : Bool) : State :=
  let (k, s1) := s.fresh
  let s2 := if s.boot.cold then s1
    else s1.setF RF.HRT_SYS_ID_FW_VERSION 0 0 (Config.freeNat k 0) |>.setF RF.HRT_SYS_ID_BUILD 0 0
      (Config.freeWord k 0).toNat
  let s3 := if s2.hearth.portsLoaded then s2
    else s2.defaultPorts.modHearth (fun h => { h with portsLoaded := true })
  (s3.addWrap RF.FAB_NUM_EPOCH 0 0 1).ledgerScan crcOk

/-- REEVE_BOOT_DONE, R578, R579, R714: the first class of each slot whose signature fails, and the CRC check
of the newest ledger record.  A wafer that is BLANK or SCRAPPED goes no further (R583, R584). -/
def execReeveBootDone (badA badB : Option (Fin 5)) (crcOk : Bool) (s : State) : Out :=
  if s.boot.stage ≠ .reeve then .next s
  else
    let first := if s.boot.cold && s.reeve.activated then s.idleSlot else s.reeve.selected
    let second := 1 - first
    let fails := fun (k : Nat) => s.slotFails k (if k = 0 then badA else badB)
    let good := match fails first, fails second with
      | none, _ => some first
      | _, none => some second
      | _, _ => none
    match good with
    | none => .next (s.recoveryMode second ((fails second).getD 0))
    | some slot =>
      let s1 := (s.bootSlot slot).reeveLoads crcOk
      if s1.lifecycle = lcBlank ∨ s1.lifecycle = lcScrapped then .next (s1.stageBegin .halted)
      else .next (s1.nextStage .clock).linksStart

/-! ### Stages 2 to 4 -/

/-- The wafer with every seam between live routers taken as UP: the clock is forwarded before the seams
train. (Mark: DEDUCED, log 185.) -/
def State.seamsOpen (s : State) : State :=
  (List.range 80).foldl (fun (t : State) f => (List.range 4).foldl (fun (x : State) n =>
    match neighbour f n with
    | some g => if x.fieldMode f = 2 ∨ x.fieldMode g = 2 then x else x.setF RF.FLD_SEAMn_STATE_STATE f n 0
    | none => x) t) s

/-- The clock tree of R38; a field with no path of at most 24 is a hole (R39). (Mark: DEDUCED, log 185.) -/
def State.clockTree (s : State) : State :=
  let o := s.seamsOpen
  (List.range 80).foldl (fun (t : State) f =>
    if f = 4 ∨ t.fieldMode f = 2 then t
    else match o.newParent f with
      | some (p, d) => (t.setF RF.FLD_CLK_STATUS_PARENT f 0 p).setF RF.FLD_CLK_STATUS_DEPTH f 0 d
      | none => t.retireField f causeUnclocked 0 true true) s

/-- CLOCK_STAGE_DONE, R715: the fields that could not be clocked; field 4's clock entry is a wafer fault.
(Mark: DEDUCED, log 197.) -/
def execClockStageDone (unclocked : List FieldId) (s : State) : Out :=
  if s.boot.stage ≠ .clock then .next s
  else if unclocked.any (fun f => f.val == 4) then .next (s.waferFault 1)
  else
    let (k, s0) := s.fresh
    let s1 := unclocked.foldl (fun (t : State) f => t.retireField f.val causeUnclocked 0 true true) s0
    let s2 := s1.clockTree.modAssay (fun a => { a with stampBase := Config.freeNat k 0 })
    .next ((s2.setFlag RF.HRT_SHADOW_STAT_VALID 0 0 true).modBoot (fun b => { b with
      groupsDone := 0 }) |>.nextStage .hbm)

/-- HBM_GROUP_TRAINED, R716: the stacks of the next row with the spare rows they mapped; the ones that failed
retire their fields. -/
def execHbmGroupTrained (failed : List StackFail) (spares : List (FieldId × BitVec 24)) (s : State) : Out :=
  if decide (s.boot.stage ≠ .hbm) || s.frozen then .next s
  else
    let row := s.boot.groupsDone
    let s1 := (List.range 10).foldl (fun (t : State) c =>
      let f := 10 * row + c
      if t.fieldMode f = 2 then t
      else match failed.find? (fun x => decide (x.field.val = f)) with
        | some x => t.stackLoss f (if x.retrain then 5 else 1) x.pc.toNat x.lane.toNat true
        | none =>
          let t1 := (t.setF RF.HBM_ID_STATE f 0 hbmUp).setFlag RF.HBM_TRAIN_PASS f 0 true
          match spares.find? (fun x => decide (x.1.val = f)) with
          | some x => t1.setF RF.HBM_TRAIN_SPARES f 0 x.2.toNat
          | none => t1) s
    let s2 := s1.modBoot (fun b => { b with groupsDone := row + 1 })
    .next (if row = 7 then s2.nextStage .seams else s2)

/-- SEAMS_TRAINED, R717: the seams that trained DOWN, and the spare wires each edge uses. -/
def execSeamsTrained (failed : List (FieldId × Fin 4)) (spares : List (FieldId × Fin 4 × BitVec 4))
    (s : State) : Out :=
  if decide (s.boot.stage ≠ .seams) || s.frozen then .next s
  else
    let s1 := spares.foldl (fun (t : State) x =>
      if (neighbour x.1.val x.2.1.val).isSome then
        t.setF RF.FLD_SEAMn_STATE_SPARES_USED x.1.val x.2.1.val x.2.2.toNat
      else t) s.seamsOpen
    let s2 := failed.foldl (fun (t : State) x => t.seamDown x.1.val x.2.val) s1
    .next (s2.nextStage .selfcheck)

/-! ### Stages 5 to 8 -/

/-- The querns of a field (R717): the eight lowest that pass are enabled, the one left is the spare, usable
if it passed. -/
def State.checkQuerns (s : State) (f bad : Nat) : State :=
  let good := (List.range 9).filter (fun q => !bad.testBit q)
  let on := good.take 8
  ((List.range 9).foldl (fun (t : State) q =>
    (t.setFlag RF.QRN_ID_ENABLED (f * 9 + q) 0 (decide (q ∈ on))).setFlag RF.QRN_ID_SPARE (f * 9 + q) 0
      (decide (q ∉ on) && decide (q ∈ good))) s).renumberQuerns f

/-- The outcome of a field's self-check (R717). -/
def State.selfcheckField (s : State) (x : SelfFail) : State :=
  let f := x.field.val
  let few := decide (((List.range 9).filter (fun q => !x.querns.toNat.testBit q)).length < 8)
  if s.fieldMode f = 2 then s
  else if x.spine then s.retireField f causeSpine 0 true true
  else if !s.inService f then s
  else if x.body || few then s.retireField f causeBody 0 false true
  else
    let s1 := s.checkQuerns f x.querns.toNat
    if x.loom && decide (f % 2 = 0) then s1.setFlag RF.WFR_FLDf_STATUS_LOM_FENCED 0 f true else s1

/-- A field that passes everything. -/
def passes (f : Nat) : SelfFail := ⟨Fin.ofNat 80 f, false, false, 0, false⟩

/-- SELFCHECK_DONE, R717, R718, R730: what failed, by field; then the routes and the record's bytes.  Field
4's spine is a wafer fault; with no field in service bring-up ends. -/
def execSelfcheckDone (l : List SelfFail) (s : State) : Out :=
  if decide (s.boot.stage ≠ .selfcheck) || s.frozen then .next s
  else if l.any (fun x => decide (x.field.val = 4) && x.spine) then .next (s.waferFault 4)
  else
    let s1 := (List.range 80).foldl (fun (t : State) f =>
      t.selfcheckField ((l.find? (fun x => decide (x.field.val = f))).getD (passes f))) s
    let s2 := s1.routeRebuild.bootFields
    if s2.fieldsInService = 0 then .next (s2.stageBegin .halted)
    else .next (s2.nextStage .images)

/-- The images of classes 3 and 4 are in every in-service field (R719, R720). -/
def State.imagesLoaded (s : State) : State :=
  let (k, s1) := s.fresh
  let s2 := (List.range 80).foldl (fun (t : State) f =>
    if t.inService f then
      (t.setFlag RF.CRF_MON_STATUS_READY f 0 true).setF RF.CRF_MON_STATUS_VERSION f 0 (Config.freeNat k 0)
    else t) s1
  let s3 := s2.setF RF.FAB_STATE_STATE 0 0 fsWait
  let s4 := { s3 with fabric := { s3.fabric with
    linkUpAt := if s3.fabric.linkUpAt = 0 then 0 else s.now + 1 } }
  s4.nextStage .fabric

/-- FABRIC_STAGE_TIMEOUT, R720. -/
def execFabricStageTimeout (s : State) : Out :=
  if decide (s.boot.stage ≠ .fabric) || s.frozen || decide (s.fabState = fsJoined) || decide (s.fabState = fsSolo)
  then .next s
  else .next (s.setFlag (bootF 15 1) 0 0 true)

/-- The default spread formation (R65). -/
def State.defaultSpread (s : State) : State :=
  let l := (List.range 80).filter s.inService
  let s1 := (List.range 80).foldl (fun (t : State) k =>
    t.setSlotEntry k (match l[k]? with
      | some f => f + 2 ^ 15
      | none => 0)) s
  ((s1.setF RF.WFR_SPREAD_SLOTS_S 0 0 l.length).wr .WFR_SPREAD_BASE 0 0 0#64).wr .WFR_SPREAD_SIZE 0 0 0#64

/-- READY (R721): the module is M-active at P0, and a recorded P-state command is taken (R533). -/
def State.readyNow (s : State) : State :=
  let s1 := if s.boot.cold then s.loseSpilled else s
  let s2 := (s1.defaultSpread.setFlag (bootF 4 1) 0 0 true).nextStage .ready
  let s3 := (s2.setF RF.PWR_MOD_STAT_STATE 0 0 0).raise RF.PWR_EVENT_MODE_DONE 0
  let s4 := if s3.power.recorded then (s3.modPower (fun p => { p with recorded := false })).pStart else s3
  ((List.range 32).foldl (fun (t : State) p => if t.parishEffective p then t.takeEffect p else t)
    s4).releaseDoorbells

/-- BOOT_READY, R720, R721: JOINED, SOLO, or 10 s without either. -/
def execBootReady (s : State) : Out :=
  if s.boot.stage = .fabric ∧ !s.frozen ∧ !s.halted ∧
      (s.fabState = fsJoined ∨ s.fabState = fsSolo ∨ s.flag (bootF 15 1) 0 0) then .next s.readyNow
  else .next s

/-! ### Wafer faults, R728 -/

/-- HEARTH_FW_REPORT_TIMEOUT, R728. -/
def execHearthFwReportTimeout (s : State) : Out :=
  if s.boot.stage = .hearth then .next s else .next (s.waferFault 2)

/-- HEARTH_WATCHDOG_EXPIRE, R728. -/
def execHearthWatchdogExpire (s : State) : Out := .next (s.waferFault 2)

/-- WAFER_FAULT, R40: field 4's clock entry, or its root rail, fails. -/
def execWaferFault (clockEntry : Bool) (s : State) : Out :=
  .next (s.faultNow (if clockEntry then 1 else 4))

/-! ### Wafer warm and cold resets -/

def keyReset : Nat := 0x5EED

/-- The members and the time state that a new JOIN gives (R467, R479). (Mark: DEDUCED, log 114.) -/
def State.leaveRack (s : State) : State :=
  let (k, s0) := s.fresh
  let s1 := (maskList (s0.getF RF.FAB_MEMBERS_JOINED 0 0) 16).foldl (fun (t : State) n =>
    if n = s0.ownWafer then t else t.absentReqs n) s0
  let s2 := (List.range 56).foldl (fun (t : State) i => t.linkDown i (Config.freeNat k i % 16)) s1
  let s3 := s2.resetRegs (fun (x : RKey) => decide (x.reg = Reg.FAB_MEMBERS) || decide (x.reg = Reg.FAB_EPOCHn) ||
    decide (x.reg = Reg.FAB_FM))
  let s4 := ((s3.setF RF.FAB_TIME_CTL_MASTER 0 0 0).setFlag RF.FAB_TIME_CTL_IS_MASTER 0 0 false).setF
    RF.FAB_TIME_CTL_TSTATE 0 0 tsFree
  ({ s4 with fabric := { State.reset.fabric with spread := s4.fabric.spread } }).setF RF.FAB_STATE_STATE 0 0 fsWait

/-- A freeze, its records, a halt, a suite and every recovery end with a wafer reset (R544, R657, R680).
(Mark: DEDUCED, log 188.) -/
def State.endStops (s : State) : State :=
  let s1 := if s.bistBusy then (s.bistStop).setF RF.BIS_STAT_STATE 0 0 4 else s
  let s2 := s1.resetRegs (fun (x : RKey) => decide (x.reg = Reg.ASY_FRZ_STAT) || decide (x.reg = Reg.ASY_FRZ_FTIME) ||
    decide (x.reg.info.page = some Page.ASY_FLD))
  let s3 := (s2.setFlag RF.PWR_MOD_STAT_HALTED 0 0 false).setFlag RF.PWR_THERM_CTL_TRIPPED 0 0 false
  let d := max (if s.frozen then s.now - s.power.frozenAt else 0) (if s.halted then s.now - s.power.haltedAt else 0)
  let s4 := (s3.modAssay (fun a => { a with
    arrived := [], thawHeld := false, freezeHeld := none, bcast := false, reading := none })).modHost (fun h =>
      { h with held := [] })
  let s5 := s4.shiftTimes d
  { s5 with resets := { s5.resets with
      running := [], waiting := [], hangs := [], hung := [], recoveries := [], crofters := [] } }

/-- What both wafer resets clear (R191, R619, R626): musters, fields, rings and links.  The sheaves that
were dispatched keep their place and end with WAFER_RESET. -/
def State.waferClear (s : State) : State :=
  let opened : List Nat := (s.seq.sheaves.filter (fun x => decide (x.phase ≠ .waiting))).map (·.serial)
  let s1 := (List.range 64).foldl (fun (t : State) m => t.abortSend m 0xF1) s.endStops
  let s2 := ((List.range 80).filter s1.inService).foldl (fun (t : State) f => t.fieldReset f) s1
  let s3 := (List.range 32).foldl (fun (t : State) p => t.ringsOff p) s2
  let s4 := { s3 with
    seq := { s3.seq with
      sheaves := (s3.seq.sheaves.filter (fun (x : Sheaf) => opened.contains x.serial)).map (fun (x : Sheaf) => { x with
        phase := .ending, fail := some ⟨0x0E, 0, 0⟩, unitFault := none })
      doorbells := [], musters := [], disabling := [], depReturns := [], turn := 0, ringTurn := [] }
    tallies := { s3.tallies with selected := [], chainIssues := [], signals := [], reqs := [] }
    crofters := { s3.crofters with launches := [], issues := [] }
    commons := { s3.commons with kept := [], sroInv := [], faulting := [] } }
  ((s4.resetPage .WFR_MUSTER 0).leaveRack).addWrap RF.FAB_NUM_EPOCH 0 0 1

/-- A warm reset counts toward escalation (R622), and so does a cold one before READY (R731). -/
def State.countWarm (s : State) : State :=
  { s with resets := { s.resets with warmTimes := s.recent hour1 s.resets.warmTimes ++ [s.now] } }

/-- The wafer warm reset begins (R619). -/
def State.warmNow (s : State) : State :=
  let s1 := s.waferClear
  { s1.setFlag RF.WFR_RCV_RESET_BUSY 0 0 true with
    resets := { s1.resets with running := [(4, 0, s.now)] } } |>.linksStart |>.runDeferred

/-- Pages that a wafer cold reset does not reset (R743, R753): fused, reset at hearth start, or at FLR. -/
def keptInCold (p : Page) : Bool :=
  match p.info.domain with
  | .fused | .hearth | .flr => true
  | _ => false

/-- Registers that keep their values through a wafer cold reset although their page does not: the ledger and
the fuses, owner records and bindings, and the state of the H0 link (R619, R724). -/
def keptRegInCold (r : Reg) : Bool :=
  keptInLedger r || decide (r = .RVE_FLDf_OWNER) || decide (r = .RVE_PARp_TAG) || decide (r = .RVE_PARp_BIND) ||
    decide (r = .HST_PORT_H0)

def keyPage (k : RKey) : Option Page :=
  match k.reg.info.page with
  | some p => some p
  | none => pageOfIdx (k.inst.val / 1024)

/-- The registers after a cold reset. (Mark: DEDUCED, log 186.) -/
def State.coldRegs (s : State) : State :=
  let s1 := s.storedTargets.resetRegs (fun k => !keptRegInCold k.reg && (match keyPage k with
    | some p => !keptInCold p
    | none => true))
  let s2 := (List.range 80).foldl (fun (t : State) f =>
    ((t.setFlag RF.RVE_FLDf_OWNER_SCRUBBING 0 f false).setF RF.HBM_ID_STATE f 0 hbmTraining).wr
      .HBM_LOSS f 0 0#64 |>.setFlag RF.HBM_TRAIN_PASS f 0 false) s1
  let s3 := (List.range 32).foldl (fun (t : State) p =>
    (t.setFlag RF.RVE_PARp_BIND_KEY_LOADED 0 p false).setFlag RF.RVE_PARp_BIND_ASSAY_GRANTED 0 p false) s2
  (s3.setFlag RF.RVE_LIFECYCLE_DEBUG_UNLOCKED 0 0 false).setFlag RF.RVE_LIFECYCLE_RECOVERY_MODE 0 0 false
    |>.setFlag RF.HRT_SHADOW_STAT_VALID 0 0 false |>.setF RF.PWR_MOD_STAT_STATE 0 0 0
    |>.setF RF.PWR_PSTATE_CURRENT 0 0 0 |>.setF RF.PWR_PSTATE_TARGET 0 0 0 |>.setFlag RF.PWR_PSTATE_BUSY 0 0 false
    |>.setFlag (bootF 10 1) 0 0 true |>.setF (bootF 0 16) 0 3 0xFFFF |>.setF (bootF 16 16) 0 3
      (s.getF (bootF 16 16) 0 3)
    |>.setFlag (bootF 11 1) 0 0 (s.flag RF.HRT_HOLDUP_HOLDUP_LOW 0 0)

/-- A scrub of HBM that runs when a cold reset begins ends with ERR (R410, R812). -/
def State.scrubsEnd (s : State) : State :=
  (List.range 80).foldl (fun (t : State) f =>
    if t.flag RF.HBM_SCRUB_CTL_BUSY f 0 then t.scrubErr f else t) s

/-- The wafer cold reset (R619, R724): everything but HBM, the Reeve's records, the hearth and what the
ledger holds; bring-up goes on from stage 1. (Mark: DEDUCED, log 186.) -/
def State.coldNow (s : State) (cold : Bool) : State :=
  let s1 := s.waferClear.scrubsEnd.coldRegs
  let mark := s.reeve.returnPending
  let s2 : State := { s1 with
    commons := { State.reset.commons with
      nextReq := s1.commons.nextReq
      reqs := s1.commons.reqs.filter (fun r => match r.sink with
        | .bar _ _ _ => true
        | _ => false) }
    crofters := State.reset.crofters
    tallies := { State.reset.tallies with nextSerial := s1.tallies.nextSerial, nextTx := s1.tallies.nextTx }
    engines := [], sieves := [], looms := []
    cairns := { s1.cairns with reqs := [], scans := [], remote := [] }
    resets := { State.reset.resets with warmTimes := if mark then [] else s1.resets.warmTimes }
    verne := { State.reset.verne with
      resetEnd := (List.range 80).foldl (fun m f => NMap.put m 0 f (s1.fabricTime + 1)) [] }
    fabric := State.reset.fabric
    hbm := State.reset.hbm
    host := { s1.host with drain := [] }
    reeve := { s1.reeve with
      nonces := [], scrubs := [], posted := none, operands := [], response := []
      returnPending := false, startedAt := s.now, seededAt := 0, requests := 0 }
    power := { State.reset.power with accounts := s1.power.accounts }
    assay := State.reset.assay
    bist := State.reset.bist }
  let s3 := if mark then s2.setFlag RF.RVE_LIFECYCLE_OUT_OF_SERVICE 0 0 false else s2
  let s4 := s3.modBoot (fun b => { b with t0 := s.now, cold := cold, groupsDone := 0 })
  ({ s4 with irq := State.reset.irq }.setFlag (bootF 13 1) 0 0 cold).granRefresh.stageBegin .reeve

/-- Is a wafer reset refused: without power, or while one is in progress (R617)? (Mark: DEDUCED, log 187.) -/
def State.waferResetRefused (s : State) : Bool :=
  decide (s.boot.stage = .off) || decide (s.boot.stage = .hearth) || s.waferInReset

/-- WFR_RCV_RESET.GO for a wafer reset (R617, R630, R731): without KEY it sets CMD_ERR and does nothing;
before READY both restart bring-up at stage 1. (Marks: DEDUCED, log 187; DEDUCED, log 198.) -/
def State.waferReset (s : State) (cold : Bool) (key : Nat) : State :=
  let s1 := s.resetWrite (if cold then 5 else 4) (s.getF RF.WFR_RCV_RESET_FIELD 0 0)
    (s.getF RF.WFR_RCV_RESET_CLASS 0 0) (s.getF RF.WFR_RCV_RESET_UNIT 0 0) (s.getF RF.WFR_RCV_RESET_PARISH 0 0)
  if key ≠ keyReset ∨ s.waferResetRefused then s1.resetCmdErr
  else if s.boot.stage ≠ .ready then s1.countWarm.coldNow (cold || s.boot.cold)
  else if cold then s1.coldNow true
  else s1.countWarm.warmNow

/-- RESET_WAFER_WARM, R617, R619. -/
def execResetWaferWarm (key : BitVec 16) (s : State) : Out := .next (s.waferReset false key.toNat)

/-- RESET_WAFER_COLD, R617, R724. -/
def execResetWaferCold (key : BitVec 16) (s : State) : Out := .next (s.waferReset true key.toNat)

end Sys2Proof.Machine
end

