-- ==== Sys2Proof/Machine/View.lean ====
section
/-! DEFINITION. What register pages read: the pages of every slot, which of them answer, the interrupt
lines that follow from their registers, and the registers whose value follows from other state
(R733–R784). -/

namespace Sys2Proof.Machine

def w64 (n : Nat) : Word := BitVec.ofNat 64 n

/-! ### Pages and their slots -/

/-- The field of a field page's instance. -/
def pageField (p : Page) (inst : Nat) : Nat :=
  match p with
  | .QRN => inst / 9
  | .SIV => inst / 2
  | _ => inst

/-- The page of a field slot (R745). -/
def fieldSlot (f slot : Nat) : Option (Page × Nat) :=
  match slot with
  | 0 => some (.FLD_SPINE, f)
  | 1 => some (.FLD_COMMONS, f)
  | 2 => some (.FLD_IRQ, f)
  | 3 => some (.CRF, f)
  | 4 => some (.TLY, f)
  | 5 => some (.CRN, f)
  | 6 => some (.SCR, f)
  | 7 => if f % 2 = 0 then some (.LOM, f) else none
  | 8 => some (.HBM, f)
  | 9 => some (.PWR_FLD, f)
  | 10 => some (.ASY_FLD, f)
  | n =>
    if 16 ≤ n ∧ n < 25 then some (.QRN, f * 9 + (n - 16))
    else if n = 25 ∨ n = 26 then some (.SIV, f * 2 + (n - 25))
    else none

/-- The page of a wafer slot (R753); the seam cost slots have no header and are no pages here (R748). -/
def waferSlot (w : Nat) : Option (Page × Nat) :=
  match Page.all.find? (fun (p : Page) => !p.info.isField && decide (p ≠ .WFR_SEAMCOST) &&
    decide (p.info.slot ≤ w) && decide (w < p.info.slot + p.info.count)) with
  | some p => some (p, w - p.info.slot)
  | none => none

/-- How far bring-up has come (R710). (Mark: DEDUCED, log 183.) -/
def stageRank : BootStage → Nat
  | .off => 0
  | .hearth => 1
  | .reeve => 2
  | .recovery => 2
  | .halted => 2
  | .clock => 3
  | .hbm => 4
  | .seams => 5
  | .selfcheck => 6
  | .images => 7
  | .fabric => 8
  | .ready => 9

/-- Is the seam cost table up (R784)? -/
def State.seamCostUp (s : State) : Bool := decide (7 ≤ stageRank s.boot.stage)

/-- Does a page answer (R722, R744, R784)?  Before that it reads 0 and ignores writes.
(Mark: DEDUCED, log 183.) -/
def State.pageUp (s : State) (p : Page) : Bool :=
  let r := stageRank s.boot.stage
  if p.info.alive then s.boot.h0Ready || decide (4 ≤ r)
  else match p with
    | .WFR_FIELDS | .WFR_SPREAD => decide (r = 9)
    | .WFR_SEAMCOST => s.seamCostUp
    | .FLD_IRQ => decide (4 ≤ r)
    | .HBM => decide (5 ≤ r)
    | .FLD_COMMONS | .CRF | .TLY | .CRN | .SCR | .LOM | .QRN | .SIV => decide (8 ≤ r)
    | _ => decide (3 ≤ r)

/-! ### Interrupt lines, R735, R750 -/

/-- Pages whose EVENT bit is excluded from aggregation (R752). -/
def eventExcluded : Page → Bool
  | .WFR_FIELDS | .FAB | .PWR | .RVE_MBX | .HST_PORT => true
  | _ => false

/-- Does the page hold a captured error? -/
def State.pageErr (s : State) (p : Page) (inst : Nat) : Bool :=
  match p.info.errReg with
  | none => false
  | some r => captureRegs.any (fun c => decide (c.1 = r) && bit (s.rd r inst 0) c.2)

/-- Is a bit of the page's event register set? -/
def State.pageEvent (s : State) (p : Page) (inst : Nat) : Bool :=
  match p.info.eventReg with
  | none => false
  | some r => decide (s.rd r inst 0 ≠ 0#64)

def State.pageWriteErr (s : State) (p : Page) (inst : Nat) : Bool :=
  s.flag RF.HDR_WRITE_ERR_VALID (hdrInst p inst) 0

/-- HDR_IRQ_STAT. -/
def State.irqStat (s : State) (p : Page) (inst : Nat) : Nat :=
  b2n (s.pageErr p inst) + 2 * b2n (s.pageEvent p inst) + 4 * b2n (s.pageWriteErr p inst)

/-- The page's interrupt line: HDR_IRQ_STAT under HDR_IRQ_EN, without an excluded EVENT. -/
def State.pageLine (s : State) (p : Page) (inst : Nat) : Bool :=
  let en := fun (i : Nat) => bit (s.rd .HDR_IRQ_EN (hdrInst p inst) 0) i
  s.pageUp p && ((s.pageErr p inst && en 0) || (s.pageEvent p inst && en 1 && !eventExcluded p) ||
    (s.pageWriteErr p inst && en 2))

/-- FLD_IRQ_STAT: the lines of a field's slots; only spine-hosted pages of a pass-through have one. -/
def State.fieldIrq (s : State) (f : Nat) : Nat :=
  listMask ((List.range 27).filter (fun n => match fieldSlot f n with
    | some (p, i) => (p.info.spine || s.inService f) && s.pageLine p i
    | none => false))

/-- The lines of a field's slots that FLD_IRQ_MASK leaves. -/
def State.fieldIrqOpen (s : State) (f : Nat) : List Nat :=
  if s.fieldMode f = 2 then []
  else maskList (s.fieldIrq f) 27 |>.filter (fun n => !(s.getF RF.FLD_IRQ_MASK_MASK f 0).testBit n)

def State.fieldLine (s : State) (f : Nat) : Bool := !(s.fieldIrqOpen f).isEmpty

/-- The field lines as a mask of 80 bits (R750). -/
def State.fieldLines (s : State) : Nat := listMask ((List.range 80).filter s.fieldLine)

/-- The mask of field lines, WFR_IRQ_FMASK. -/
def State.fieldMasked (s : State) (f : Nat) : Bool :=
  if f < 64 then (s.getF RF.WFR_IRQ_FMASK_LO_MASK 0 0).testBit f
  else (s.getF RF.WFR_IRQ_FMASK_HI_MASK 0 0).testBit (f - 64)

/-- The line of a wafer slot. -/
def State.slotLine (s : State) (w : Nat) : Bool :=
  match waferSlot w with
  | some (p, i) => s.pageLine p i
  | none => false

/-- The slots of a register WFR_IRQ_PAGEk. -/
def State.slotLines (s : State) (k : Nat) : Nat :=
  listMask ((List.range 64).filter (fun i => s.slotLine (64 * k + i)))

def State.slotMasked (s : State) (w : Nat) : Bool :=
  (s.getF RF.WFR_IRQ_PMASKk_MASK 0 (w / 64)).testBit (w % 64)

/-- The unmasked page lines that are 1, by header instance (R751). -/
def State.highLines (s : State) : List Nat :=
  let key := fun (x : Option (Page × Nat)) => match x with
    | some (p, i) => some (hdrInst p i)
    | none => none
  ((List.range 80).filter (fun f => !s.fieldMasked f)).flatMap (fun f =>
      (s.fieldIrqOpen f).filterMap (fun n => key (fieldSlot f n))) ++
    ((List.range 384).filter (fun w => !s.slotMasked w && s.slotLine w)).filterMap (fun w =>
      key (waferSlot w))

/-- The wafer line (R750). -/
def State.waferLine (s : State) : Bool := !s.highLines.isEmpty

/-! ### The ledger window, R562, R573 -/

/-- The sections of a record as bytes; the bytes that the spec does not lay out are free values. -/
def LedgerRecord.sections (r : LedgerRecord) : List (Nat × Option (List Byte)) :=
  [(512, none), (1024, none),
    (16 * r.sheaves.length, some (r.sheaves.flatMap (fun x =>
      leBytes 16 (x.getD 0 0 + x.getD 1 0 * 2 ^ 64 + x.getD 2 0 * 2 ^ 72 + x.getD 3 0 * 2 ^ 77)))),
    (32 * r.errors.length, some (r.errors.flatMap (fun x => x.flatMap (fun v => leBytes 8 v)))),
    (920, some (r.energy.flatMap (fun v => leBytes 8 v))),
    (r.reeve, none)]

/-- The directory: each section's offset and length, consecutive behind header and directory. -/
def sectionDir : Nat → List (Nat × Option (List Byte)) → List Byte
  | _, [] => []
  | o, x :: l => leBytes 4 (if x.1 = 0 then 0 else o) ++ leBytes 4 x.1 ++ sectionDir (o + x.1) l

/-- The byte of a section list at offset `i`. (Mark: DESIGN CHOICE, log 146.) -/
def sectionByte (serial : Nat) (off : Nat) : Nat → List (Nat × Option (List Byte)) → Byte
  | _, [] => Config.freeByte serial off
  | i, x :: l =>
    if i < x.1 then match x.2 with
      | some b => b.getD i 0#8
      | none => Config.freeByte serial off
    else sectionByte serial off (i - x.1) l

/-- The header of a record. -/
def LedgerRecord.header (r : LedgerRecord) : List Byte :=
  let n := 128 + (r.sections.map (·.1)).sum
  leBytes 4 0x4C444752 ++ leBytes 4 r.seq ++ leBytes 1 r.cause ++ leBytes 1 r.flags ++
    leBytes 2 ((r.sections.filter (fun x => decide (x.1 ≠ 0))).length) ++ leBytes 4 n ++
    ((List.range 4).map (fun i => Config.freeByte r.serial (16 + i))) ++ List.replicate 40 0#8 ++
    (if r.committed then leBytes 4 0xC0DE5AFE else (List.range 4).map (fun i => Config.freeByte r.serial (60 + i)))

/-- A byte of a slot of the record ring. (Mark: DESIGN CHOICE, log 146.) -/
def State.ledgerByte (s : State) (slot off : Nat) : Byte :=
  match s.hearth.slots.find? (fun x => decide (x.1 = slot)) with
  | none => Config.freeByte slot off
  | some (_, r) =>
    if off < 64 then r.header.getD off 0#8
    else if off < 128 then ((sectionDir 128 r.sections) ++ List.replicate 16 0#8).getD (off - 64) 0#8
    else sectionByte r.serial off (off - 128) r.sections

/-! ### Registers whose value follows from other state -/

/-- The code of a thread in CRF_THREAD_STATEn (R142). -/
def Thread.code (t : Thread) : Nat :=
  match t.st, t.priv with
  | .free, _ => 0
  | .ready, .m => 6
  | .ready, .u => 1
  | .waitMem, _ => 2
  | .waitTally, _ => 3
  | .waitIssue, _ => 4
  | .paused, _ => 5
  | .fenced, _ => 7

/-- The unit whose page it is. -/
def pageUnit (p : Page) (inst : Nat) : Nat :=
  match p with
  | .QRN => inst % 9
  | .SIV => unitSieve (inst % 2)
  | .SCR => unitScree
  | .CRN => unitCairn
  | _ => unitLoom

/-- The queue register of an engine: tasks queued, next tag, tasks running. -/
def Engine.queueWord (e : Engine) (running : Nat) : Word :=
  w64 (min 63 e.queue.length + e.nextTag % 65536 * 2 ^ 6 + running * 2 ^ 22)

/-- Escalation counts, saturating at a byte (R622). -/
def State.countIn (s : State) (w : Nat) (l : List Nat) : Nat := min 255 (s.recent w l).length

/-- The units in service, unfenced and enabled (R761). -/
def State.capacity (s : State) : Nat :=
  let fs := (List.range 80).filter s.inService
  let units := fun (l : List Nat) => (fs.map (fun f => (l.filter (fun u => !s.fenced f u)).length)).sum
  let querns := (fs.map (fun f => ((List.range 9).filter (fun q =>
    s.flag RF.QRN_ID_ENABLED (f * 9 + q) 0 && !s.fenced f q)).length)).sum
  let crofters := (fs.map (fun f => ((List.range 16).filter (fun c =>
    !(s.getF RF.WFR_FLDf_STATUS_CRF_FENCED 0 f).testBit c)).length)).sum
  let looms := (fs.filter (fun f => decide (f % 2 = 0) && !s.fenced f unitLoom)).length
  querns + units [unitSieve 0, unitSieve 1] * 2 ^ 10 + crofters * 2 ^ 18 + units [unitScree] * 2 ^ 29 +
    units [unitCairn] * 2 ^ 36 + looms * 2 ^ 43

/-- Fields that `p` selects, as a mask. -/
def fieldMask (p : Nat → Bool) : Nat := listMask ((List.range 80).filter p)

/-- WFR_FLD_COUNT. -/
def State.fieldCounts (s : State) : Nat :=
  let n := fun (p : Nat → Bool) => ((List.range 80).filter p).length
  s.fieldsInService + b2n (decide (s.fieldsInService < 78)) * 2 ^ 7 +
    n (fun f => decide (s.fieldMode f = 1)) * 2 ^ 8 + n (fun f => decide (s.fieldMode f = 2)) * 2 ^ 15 +
    n (fun f => decide (s.fieldMode f ≠ 0) && s.flag RF.WFR_FLDf_STATUS_AT_BOOT 0 f) * 2 ^ 22

/-- WFR_FLDf_STATUS with the parish and the loom of the field. -/
def State.fieldStatus (s : State) (f : Nat) : Word :=
  let w := putBits (s.rd .WFR_FLDf_STATUS 0 f) 24 1 (1 - f % 2)
  match s.parishOf f with
  | some p => putBits (putBits w 26 5 p.val) 31 1 1
  | none => putBits w 26 6 0

/-- The LOST bits of the spread slots. -/
def State.lostSlots (s : State) : Nat := listMask ((List.range 80).filter (fun k => slotLost (s.slotEntry k)))

/-- A seam cost entry, R34. -/
def State.seamCostWord (s : State) (i : Nat) : Nat :=
  if i < 6400 then s.commons.seamCost.look 0 i
  else if i = 6400 then s.getF RF.WFR_SEAM_GEN_GEN 0 0
  else 0

/-- A byte of the mailbox buffer that RVE_MBX_WIN selects (R771, R772). -/
def State.mbxByte (s : State) (i : Nat) : Nat :=
  let o := s.getF RF.RVE_MBX_WIN_HALF 0 0 * 2048 + i
  if s.flag RF.RVE_MBX_WIN_BUF 0 0 then (s.reeve.response.getD o 0#8).toNat else s.reeve.operands.look 0 o

/-- The parishes that a field with VERIFY_FAIL blocks (R592). -/
def State.blockedParishes (s : State) : Nat :=
  listMask ((List.range 32).filter (fun p => (maskList (s.parishMask p) 80).any (fun f =>
    s.flag RF.RVE_FLDf_OWNER_VERIFY_FAIL 0 f)))

/-- BIS_STAT: GATED in the lifecycle states that take no suite (R662), and the time elapsed. -/
def State.bistStat (s : State) : Word :=
  let w := if s.bistBusy then (s.bistElapsed).rd .BIS_STAT 0 0 else s.rd .BIS_STAT 0 0
  if s.bistOpen then w else putBits w 0 3 5

/-- What a register reads; measured quantities are free values of serial `k`, of the width of their field.
(Marks: DEDUCED, log 22; DESIGN CHOICE, log 24; DEDUCED, log 87.) -/
def State.view (s : State) (k : Nat) (r : Reg) (inst idx : Nat) : Word :=
  let stored := s.rd r inst idx
  let free := fun (w : Nat) => w64 (Config.freeNat k 0 % 2 ^ w)
  match r with
  | .HDR_IRQ_STAT => match pageOfIdx (inst / 1024) with
    | some p => w64 (s.irqStat p (inst % 1024))
    | none => 0#64
  | .FLD_SEAMn_TRAFFIC | .VRN_LNK_FEC_CORR | .VRN_E2E_WAIT | .HBM_RD_BYTES | .HBM_WR_BYTES |
    .QRN_GATED_CYCLES | .SIV_GATED_CYCLES | .SCR_GATED_CYCLES | .LOM_GATED_CYCLES => free 48
  | .PWR_FLD_TEMP => free 24
  | .HRT_VIN => free 32
  | .HRT_PSTORE_STAT => putBits (free 32) 17 7 0
  | .PWR_FLD_VOLT => putBits stored 0 12 (Config.freeNat k 0)
  | .HBM_ID => putBits stored 8 8 (Config.stackVendor inst).toNat
  | .FLD_IRQ_STAT => w64 (s.fieldIrq inst)
  | .FLD_IRQ_SUM => b2w (s.fieldLine inst)
  | .WFR_IRQ_SUM => w64 (b2n s.waferLine + 2 * b2n s.irq.pending)
  | .WFR_IRQ_FLD_LO => w64 s.fieldLines
  | .WFR_IRQ_FLD_HI => w64 (s.fieldLines / 2 ^ 64)
  | .WFR_IRQ_PAGEk => w64 (s.slotLines idx)
  | .CRF_ID =>
    let m := s.getF RF.WFR_FLDf_STATUS_CRF_FENCED 0 inst
    w64 (16 + (16 - (maskList m 16).length) * 2 ^ 5 + m * 2 ^ 10)
  | .CRF_THREAD_STATEn => w64 ((List.range 16).foldl (fun n i =>
      n + (s.thread inst (16 * idx + i)).code * 16 ^ i) 0)
  | .TLY_USE => s.tlyUse inst
  | .QRN_ID => putBits stored 10 1 (b2n (s.fenced (inst / 9) (inst % 9)))
  | .SIV_ID => putBits stored 1 1 (b2n (s.fenced (inst / 2) (unitSieve (inst % 2))))
  | .SCR_ID => putBits stored 0 1 (b2n (s.fenced inst unitScree))
  | .LOM_ID => w64 (b2n (s.fenced inst unitLoom) + 2 * b2n (s.loom inst).dec.isSome +
      4 * b2n (s.loom inst).enc.isSome)
  | .QRN_QUEUE =>
    let e := s.engine (inst / 9) (inst % 9)
    e.queueWord (b2n (!e.running.isEmpty))
  | .SIV_QUEUE =>
    let e := s.engine (inst / 2) (unitSieve (inst % 2))
    e.queueWord e.running.length
  | .SCR_QUEUE =>
    let e := s.engine inst unitScree
    e.queueWord (b2n (!e.running.isEmpty))
  | .LOM_QUEUE => (s.engine inst unitLoom).queueWord 0
  | .QRN_RESETS => w64 (s.countIn sec60 (s.engine (inst / 9) (inst % 9)).resets)
  | .SIV_RESETS => w64 (s.countIn sec60 (s.engine (inst / 2) (unitSieve (inst % 2))).resets)
  | .SCR_RESETS => w64 (s.countIn sec60 (s.engine inst unitScree).resets)
  | .CRN_RESETS => w64 (s.countIn sec60 (s.engine inst unitCairn).resets)
  | .LOM_RESETS => w64 (s.countIn sec60 (s.engine inst unitLoom).resets)
  | .SIV_WINDOWS => w64 (listMask ((s.sieve (inst / 2) (inst % 2)).ctxs.flatMap (fun c =>
      (List.range c.count).map (· + c.base))))
  | .CRN_FREE =>
    if s.flag RF.CRN_CTL_ENABLE inst 0 then
      w64 ((s.freeSlots inst).length % 2 ^ 21 + (s.freeBlocks inst).length % 2 ^ 21 * 2 ^ 21)
    else 0#64
  | .CRN_SEQS =>
    let l := s.openRecs inst
    w64 (l.length % 2 ^ 11 + (l.filter (fun x => (s.seqRec inst x).damaged)).length % 2 ^ 11 * 2 ^ 11)
  | .WFR_PAR_CTL => putBits stored 1 1 (b2n (!s.verified inst))
  | .WFR_PAR_INFLIGHT => w64 ((s.seq.sheaves.filter (fun x => decide (x.parish = inst) &&
      decide (x.phase ≠ .waiting))).length % 2 ^ 14)
  | .WFR_FLD_COUNT => w64 s.fieldCounts
  | .WFR_FLD_INSVC_LO => w64 (fieldMask s.inService)
  | .WFR_FLD_INSVC_HI => w64 (fieldMask s.inService / 2 ^ 64)
  | .WFR_FLD_HOLE_LO => w64 (fieldMask (fun f => decide (s.fieldMode f = 2)))
  | .WFR_FLD_HOLE_HI => w64 (fieldMask (fun f => decide (s.fieldMode f = 2)) / 2 ^ 64)
  | .WFR_FLD_CAPACITY => w64 s.capacity
  | .WFR_FLDf_STATUS => s.fieldStatus idx
  | .WFR_SPREAD_LOST_LO => w64 s.lostSlots
  | .WFR_SPREAD_LOST_HI => w64 (s.lostSlots / 2 ^ 64)
  | .VRN_PORTp_STATE =>
    let n := (s.liveLinks idx).length
    putBits (putBits stored 0 5 n) 5 1 (b2n (decide (n < (maskList (s.portMask idx) 56).length)))
  | .HST_PORT_TAGS => w64 (s.host.tags.length % 2 ^ 10 + s.host.quarantine.length % 2 ^ 10 * 2 ^ 10)
  | .WFR_RCV_WARM => w64 (min 3 (s.recent hour1 s.resets.warmTimes).length)
  | .WFR_RCV_FRSTk => w64 ((List.range 8).foldl (fun n i =>
      n + s.countIn min10 (s.resets.fieldTimes.look [] (8 * idx + i)) * 256 ^ i) 0)
  | .HRT_SYS_STATE => putBits stored 0 10 s.hearthState
  | .HRT_SYS_UPTIME => w64 (if s.boot.hearthAlive then (s.now - s.hearth.started) / 10 else 0)
  | .HRT_SHADOW_STAT => putBits stored 16 16 ((s.seq.sheaves.filter (fun x =>
      decide (x.phase ≠ .waiting))).length)
  | .HRT_LEDGER_DATA =>
    let slot := s.getF RF.HRT_LEDGER_WIN_SLOT 0 0
    let off := s.getF RF.HRT_LEDGER_WIN_OFFSET 0 0 * 2048 + 8 * idx
    w64 (leNat ((List.range 8).map (fun i => s.ledgerByte slot (off + i))))
  | .ASY_FLD_STAMP => w64 (s.fieldStamp k)
  | .CRI_MIRROR => w64 ((List.range 4).foldl (fun n i =>
      n + s.mirrorWord (1024 * s.getF RF.CRI_WIN_QUARTER 0 0 + 4 * idx + i) * 65536 ^ i) 0)
  | .RVE_MBX_DATA => w64 ((List.range 8).foldl (fun n i => n + s.mbxByte (8 * idx + i) * 256 ^ i) 0)
  | .RVE_SCRUB => putBits stored 32 32 s.blockedParishes
  | .BIS_STAT => s.bistStat
  | .GPIO_IN => w64 s.padsIn
  | .WFR_BOOT_STATUS => s.bootWord idx
  | _ => stored

/-! ### Reading -/

/-- Indices of the outer and inner rows that an offset meets. -/
def rowIndex (off : Nat) : List (Nat × Nat) → Option Nat
  | [] => if off = 0 then some 0 else none
  | [(st, n)] => if off % st = 0 ∧ off / st < n then some (off / st) else none
  | (st, n) :: l =>
    if off / st < n then match rowIndex (off % st) l with
      | some i => some (off / st * (l.map (·.2)).prod + i)
      | none => none
    else none

/-- The index of a register at a page offset. -/
def Reg.at (r : Reg) (off : Nat) : Option Nat :=
  if r.info.base ≤ off then rowIndex (off - r.info.base) r.info.dims else none

/-- The register at an offset of a page, its key instance and its index (R734). -/
def regAt (p : Page) (inst off : Nat) : Option (Reg × Nat × Nat) :=
  if off < 0x40 then
    (headerRegs.find? (fun r => decide (r.info.base = off))).map (fun r => (r, hdrInst p inst, 0))
  else match p.regs.find? (fun r => (r.at off).isSome) with
    | some r => (r.at off).map (fun i => (r, inst, i))
    | none => none

/-- The effect of a read that includes byte 0 (R740). -/
def State.readEffect (s : State) (r : Reg) (inst : Nat) : State :=
  match r with
  | .RVE_RNG_DATA => s.rngRead.2
  | .TLY_USE => (s.tlyUseRead inst).1
  | _ => s

/-- Fields that read 0 whatever was written (R736). -/
def maskWriteOnly (v : Word) (l : List FieldInfo) : Word :=
  l.foldl (fun w x => match x.acc with
    | .w1 | .wo => putBits w x.lo x.w 0
    | _ => w) v

/-- Read the 8-byte register at `off` of a page; `side` says that the read includes byte 0.
(Mark: DEDUCED, log 22.) -/
def State.readWord (s : State) (p : Page) (inst off : Nat) (side : Bool) : State × Word :=
  if !s.pageUp p then (s, 0#64)
  else match regAt p inst off with
    | none => (s, 0#64)
    | some (r, i, n) =>
      let (k, s1) := s.fresh
      let v := maskWriteOnly (s1.view k r i n) r.info.fields
      (if side then s1.readEffect r i else s1, v)

/-- A read of 4 or 8 bytes within a page (R740). -/
def State.readPage (s : State) (p : Page) (inst off n : Nat) : State × List Byte :=
  let (s1, v) := s.readWord p inst (off / 8 * 8) (decide (off % 8 = 0))
  (s1, (leBytes 8 v.toNat).drop (off % 8) |>.take n)

/-- The bytes of the seam cost table and its view (R748, R749): `view` holds WFR_SEAM_GEN behind the
entries. -/
def State.seamCostRead (s : State) (view : Bool) (off n : Nat) : List Byte :=
  if !s.seamCostUp then List.replicate n 0#8
  else
    let word := fun (i : Nat) => if i < 6400 ∨ view then s.seamCostWord i else 0
    ((leBytes 4 (word (off / 8 * 2)) ++ leBytes 4 (word (off / 8 * 2 + 1))).drop (off % 8)).take n

end Sys2Proof.Machine
end

