-- ==== Sys2Proof/Machine/RegWrite.lean ====
section
/-! DEFINITION. Writes of register pages (R736–R742): who may write, what a write does to each register,
first-error captures, and the interrupt aggregation of R750–R752. -/

namespace Sys2Proof.Machine

/-! ### Interrupt aggregation -/

/-- Is the line of a page, named by its header instance, 1 and unmasked (R750)? -/
def State.lineHigh (s : State) (key : Nat) : Bool :=
  match pageOfIdx (key / 1024) with
  | none => false
  | some p =>
    let i := key % 1024
    if p.info.isField then
      let f := pageField p i
      let n := p.info.slot + (match p with
        | .QRN => i % 9
        | .SIV => i % 2
        | _ => 0)
      decide (s.fieldMode f ≠ 2) && (p.info.spine || s.inService f) &&
        !(s.getF RF.FLD_IRQ_MASK_MASK f 0).testBit n && !s.fieldMasked f && s.pageLine p i
    else !s.slotMasked (p.info.slot + i) && s.pageLine p i

/-- The lines seen high that have fallen or been masked since are seen no more (R756). -/
def State.dropLines (s : State) : State :=
  { s with irq := { s.irq with lines := s.irq.lines.filter s.lineHigh } }

/-- Send entry 0 of the physical function; a new holdoff begins and absorbs what waits (R751). -/
def State.irqSend (s : State) : State :=
  { (s.sendMsix 0 0).addWrap RF.WFR_IRQ_SENT_SENT 0 0 1 with
    irq := { s.irq with pending := false, holdoff := some s.now } }

/-- Is a message sent less than HOLDOFF µs ago (R751)? -/
def State.irqHeld (s : State) : Bool :=
  match s.irq.holdoff with
  | some t => decide (s.now < t + s.getF RF.WFR_IRQ_CTL_HOLDOFF 0 0 * 1000)
  | none => false

/-- The function whose ERR_VECTOR a VF_VISIBLE page's rise sends too (R750).  An error that HST_FN_WIN_ERR
captured has sent it already (R503), so a function's own page sends it for its HDR_WRITE_ERR. -/
def State.lineFn (s : State) (p : Page) (inst : Nat) : Option Nat :=
  match p with
  | .WFR_PARISH | .WFR_SRO => some (inst + 1)
  | .HST_FN =>
    if s.pageWriteErr p inst && s.flag RF.HDR_IRQ_EN_WRITE_EN (hdrInst p inst) 0 then some inst else none
  | _ => none

/-- An unmasked line rises (R751). -/
def State.lineRise (s : State) (p : Page) (inst : Nat) : State :=
  let key := hdrInst p inst
  let s0 := s.dropLines
  if !s0.lineHigh key || s0.irq.lines.contains key || (s0.h0Frozen && !p.info.alive) then s0
  else
    let s1 := { s0 with irq := { s0.irq with lines := setInsert key s0.irq.lines } }
    let s2 := if s1.irqHeld then
        { s1.addWrap RF.WFR_IRQ_SENT_COALESCED 0 0 1 with irq := { s1.irq with pending := true } }
      else s1.irqSend
    match s0.lineFn p inst with
    | some fn => s2.sendMsix (Fin.ofNat 33 fn) (s2.getF RF.HST_FN_CTL_ERR_VECTOR fn 0)
    | none => s2

/-- WFR_IRQ_CTL.REARM (R751). (Mark: DEDUCED, log 191.) -/
def State.irqRearm (s : State) : State := if s.waferLine then s.irqSend else s

/-- The page a place names. -/
def placePage : RegPlace → Option (Page × Nat)
  | .field f n => fieldSlot f.val n.val
  | .wafer w => waferSlot w.val

/-- IRQ_LINE_RISE, R751. -/
def execIrqLineRise (place : RegPlace) (s : State) : Out :=
  match placePage place with
  | some (p, i) => .next (s.lineRise p i)
  | none => .next s

/-- IRQ_HOLDOFF_EXPIRE, R751: rises were coalesced, and the wafer line is still 1. -/
def execIrqHoldoffExpire (s : State) : Out :=
  if s.irq.pending && s.waferLine then .next s.irqSend
  else .next { s with irq := { s.irq with pending := false, holdoff := none } }

/-- IRQ_REARM, R751. -/
def execIrqRearm (s : State) : Out := .next s.irqRearm

/-! ### First-error captures, R739 -/

/-- A page's error time is loaded with its capture and cleared with it. -/
def State.clearErrTime (s : State) (r : Reg) (inst : Nat) : State :=
  match r.info.page with
  | some p => if p.info.errReg = some r then s.wr .HDR_ERR_TIME (hdrInst p inst) 0 0#64 else s
  | none => s

/-- The read-only registers that hold the rest of a capture. -/
def State.clearRest (s : State) (r : Reg) (inst : Nat) : State :=
  match r with
  | .FLD_CMN_ERR_STATUS => (s.wr .FLD_CMN_ERR_ADDR inst 0 0#64).wr .FLD_CMN_ERR_SOURCE inst 0 0#64
  | .HBM_ERR_STATUS => s.wr .HBM_ERR_ADDR inst 0 0#64
  | _ => s

/-- FROZEN and CFG of HST_FN_WIN_ERR are no part of the capture. (Mark: DEDUCED, log 131.) -/
def captureKeep (r : Reg) (w v : Word) : Word :=
  if r = .HST_FN_WIN_ERR then w &&& 0x60#64 &&& ~~~v else 0#64

/-- A write of a capture whose VALID is bit `b` and whose MORE is the next bit: 1 to VALID clears and
re-arms it, 1 to MORE alone clears MORE. (Mark: DEDUCED, log 190.) -/
def State.captureWrite (s : State) (r : Reg) (b inst : Nat) (v : Word) : State :=
  let w := s.rd r inst 0
  if bit v b then ((s.wr r inst 0 (captureKeep r w v)).clearRest r inst).clearErrTime r inst
  else
    let w1 := if bit v (b + 1) then putBits w (b + 1) 1 0 else w
    s.wr r inst 0 (if r = .HST_FN_WIN_ERR then putBits w1 5 2 (bits (w1 &&& ~~~v) 5 2) else w1)

/-- HDR_WRITE_ERR is cleared in the same way: VALID is bit 14, MORE bit 15. (Mark: DEDUCED, log 190.) -/
def State.writeErrClear (s : State) (inst : Nat) (v : Word) : State := s.captureWrite .HDR_WRITE_ERR 14 inst v

/-- ERR_CAPTURE_CLEAR, R739: of the page's capture, or of its HDR_WRITE_ERR; `more` writes MORE alone. -/
def execErrCaptureClear (place : RegPlace) (writeErr more : Bool) (s : State) : Out :=
  match placePage place with
  | none => .next s
  | some (p, i) =>
    let one := fun (b : Nat) => w64 (2 ^ (if more then b + 1 else b))
    if !s.pageUp p then .next s
    else if writeErr then .next (s.writeErrClear (hdrInst p i) (one 14)).dropLines
    else match p.info.errReg with
      | none => .next s
      | some r => match captureRegs.find? (fun c => decide (c.1 = r)) with
        | some (_, b) => .next (s.captureWrite r b i (one b)).dropLines
        | none => .next s

/-! ### Fields of a register -/

/-- One field's part of a write (R736). -/
def writeField (v w : Word) (x : FieldInfo) : Word :=
  match x.acc with
  | .rw => putBits w x.lo x.w (bits v x.lo x.w)
  | .rw1c => if bits v x.lo x.w = 0 then w else putBits w x.lo x.w 0
  | .rw1cBits => putBits w x.lo x.w (bits (w &&& ~~~v) x.lo x.w)
  | _ => w

/-- A write by the marks of the register's fields alone (R736, R738). -/
def State.writeFields (s : State) (r : Reg) (inst idx : Nat) (v : Word) : State :=
  s.wr r inst idx (r.info.fields.foldl (writeField v) (s.rd r inst idx))

/-- The value of a register's RW fields, zeros elsewhere. -/
def rwPart (r : Reg) (w : Word) : Word :=
  r.info.fields.foldl (fun a x => match x.acc with
    | .rw => putBits a x.lo x.w (bits w x.lo x.w)
    | _ => a) 0#64

/-- The 8-byte value of a write of 4 or 8 bytes (R740). -/
def State.writeWord (s : State) (r : Reg) (inst idx off : Nat) (data : List Byte) : Word :=
  let v := leNat data
  let cur := rwPart r (if r = .RVE_MBX_DATA then s.view 0 r inst idx else s.rd r inst idx)
  if data.length = 4 then putBits cur (if off % 8 = 0 then 0 else 32) 32 v else w64 v

/-! ### Writes with an effect of their own -/

/-- A write that a register takes only where `ok` holds. -/
def State.writeIf (s : State) (ok : Bool) (r : Reg) (inst idx : Nat) (v : Word) : State :=
  if ok then s.writeFields r inst idx v else s

/-- HDR_IRQ_EN: setting EVENT_EN while an event bit is set sends the page's fixed entry (R752).
(Mark: DEDUCED, log 191.) -/
def State.irqEnWrite (s : State) (inst : Nat) (v : Word) : State :=
  let s1 := s.writeFields .HDR_IRQ_EN inst 0 v
  match pageOfIdx (inst / 1024) with
  | some p =>
    if eventExcluded p && s.pageEvent p (inst % 1024) && !s.flag RF.HDR_IRQ_EN_EVENT_EN inst 0 &&
        s1.flag RF.HDR_IRQ_EN_EVENT_EN inst 0 then
      match p.info.eventReg with
      | some r => s1.sendFixed r
      | none => s1
    else s1
  | none => s1

/-- TLY_SIG_CTL (R155, R167). -/
def State.sigCtlWrite (s : State) (f : Nat) (v : Word) : State :=
  if bit v 31 then s.signalEnable f (bits v 0 4) (bits v 4 12)
  else
    let s1 := s.setF RF.TLY_SIG_CTL_VECTOR f 0 (bits v 4 12)
    if s.flag RF.TLY_SIG_CTL_ENABLE f 0 then s1.setFlag RF.TLY_SIG_CTL_ENABLE f 0 false
    else if bits v 0 4 ≤ 8 then s1.setF RF.TLY_SIG_CTL_SIZE f 0 (bits v 0 4) else s1

/-- WFR_PAR_CTL (R170, R171, R198). -/
def State.parCtlWrite (s : State) (p : Nat) (v : Word) : State :=
  let s1 := if bit v 2 then s.setFlag RF.WFR_PAR_CTL_SET_ERR p 0 false else s
  let s2 := s1.setF RF.WFR_PAR_CTL_HANG_MODE p 0 (bits v 3 1)
    |>.setF RF.WFR_PAR_CTL_DEFAULT_TIMEOUT_MS p 0 (bits v 16 16)
  if bit v 0 then s2.parishEnable p else s2.parishDisable p

/-- WFR_RINGr_CTL (R190, R197): while ENABLE is 1 only clearing it has an effect. -/
def State.ringCtl (s : State) (p r : Nat) (v : Word) : State :=
  if s.flag RF.WFR_RINGr_CTL_ENABLE p r then (if bit v 0 then s else s.ringDisable p r)
  else s.ringCtlWrite p r v

/-- WFR_MUSm_CTL (R186, R187, R198). -/
def State.musCtlWrite (s : State) (m : Nat) (v : Word) : State :=
  if s.musterState m ≠ 0 then (if bit v 22 then s else s.musterFree m)
  else if bit v 22 then s.musterGo m v
  else s.setF RF.WFR_MUSm_CTL_HANDLE 0 m (bits v 0 16) |>.setF RF.WFR_MUSm_CTL_KIND 0 m (bits v 16 1)
    |>.setF RF.WFR_MUSm_CTL_PARISH 0 m (bits v 17 5) |>.setF RF.WFR_MUSm_CTL_MEMBERS 0 m (bits v 26 12)

/-- CRN_CTL (R294). -/
def State.crnCtlWrite (s : State) (f : Nat) (v : Word) : State :=
  let s1 := if bit v 1 then s.setFlag RF.CRN_CTL_CFG_ERR f 0 false else s
  if bit v 0 then s1.crnEnable f else s1.crnDisable f

/-- CRN_RECLAIM (R321). -/
def State.crnReclaimWrite (s : State) (f : Nat) (v : Word) : State :=
  if bit v 11 then s.reclaimGo f (bits v 0 4) (bits v 4 7)
  else s.writeIf (!s.flag RF.CRN_RECLAIM_BUSY f 0) .CRN_RECLAIM f 0 v

/-- HBM_SCRUB_CTL (R408). -/
def State.scrubCtlWrite (s : State) (f : Nat) (v : Word) : State :=
  let s1 := if bit v 3 then s.setFlag RF.HBM_SCRUB_CTL_ERR f 0 false else s
  if bit v 1 then s1.scrubGo f (bit v 0)
  else if s.flag RF.HBM_SCRUB_CTL_BUSY f 0 then s1 else s1.setF RF.HBM_SCRUB_CTL_MODE f 0 (bits v 0 1)

/-- HBM_GRAN_CTL (R411, R511): while ENABLE is 1 only clearing it has an effect. (Mark: DEDUCED, log 99.) -/
def State.granCtlWrite (s : State) (v : Word) : State :=
  if s.flag RF.HBM_GRAN_CTL_ENABLE 0 0 then (if bit v 2 then s else s.granDisable)
  else
    let s1 := if bits v 0 2 ≤ 2 then s.setF RF.HBM_GRAN_CTL_MODE 0 0 (bits v 0 2) else s
    if bit v 2 then s1.granEnable else s1

/-- VRN_LNK_CTL (R427, R457): H0 and S0 links ignore it. -/
def State.lnkCtlWrite (s : State) (k : Nat) (v : Word) : State :=
  if 56 ≤ k then s
  else
    let s1 := s.setF RF.VRN_LNK_CTL_CLASS k 0 (bits v 2 2)
    if bits v 0 2 = 0 ∧ s.linkState k = lsDown then s1.setF RF.VRN_LNK_CTL_TARGET k 0 0
    else s1.setTarget k (bits v 0 2)

/-- FAB_CTL (R494): reserved policies leave POLICY, and WITHDRAW_US 0 is taken as 1. -/
def State.fabCtlWrite (s : State) (v : Word) : State :=
  let s1 := if bits v 0 2 ≤ 1 then s.setF RF.FAB_CTL_POLICY 0 0 (bits v 0 2) else s
  s1.setF RF.FAB_CTL_AUTO_WITHDRAW 0 0 (bits v 2 1)
    |>.setF RF.FAB_CTL_WITHDRAW_US 0 0 (max 1 (bits v 8 8)) |>.setF RF.FAB_CTL_FM_WAIT_MS 0 0 (bits v 16 16)

/-- FAB_DISC_CTL (R466), on the anchor. (Mark: DEDUCED, log 119.) -/
def State.discCtlWrite (s : State) (v : Word) : State :=
  let s1 := if bit v 2 && s.flag RF.FAB_DISC_CTL_RX_VALID 0 0 then s.discRelease else s
  if bit v 0 then s1.discSend else s1

/-- HST_FN_WIN_BASE (R501). -/
def State.winBaseWrite (s : State) (fn : Nat) (v : Word) : State :=
  let size := 2 ^ (if fn = 0 then s.host.bar2Pf else s.host.bar2Vf)
  if 2 ^ 57 < bits v 16 41 * 65536 + size then s.setFlag RF.HST_FN_WIN_ERR_CFG fn 0 true
  else s.writeFields .HST_FN_WIN_BASE fn 0 v

/-- HST_FN_DMAq_CTL (R519): while the queue is enabled only ENABLE is taken. -/
def State.dmaCtlWrite (s : State) (fn q : Nat) (v : Word) : State :=
  if s.flag RF.HST_FN_DMAq_CTL_ENABLE fn q then s.setF RF.HST_FN_DMAq_CTL_ENABLE fn q (bits v 0 1)
  else
    let s1 := if bit v 1 then s.setFlag RF.HST_FN_DMAq_CTL_ERR fn q false else s
    let s2 := if bits v 2 4 ≤ 8 then s1.setF RF.HST_FN_DMAq_CTL_SIZE fn q (bits v 2 4) else s1
    s2.setF RF.HST_FN_DMAq_CTL_VECTOR fn q (bits v 6 6) |>.setF RF.HST_FN_DMAq_CTL_ENABLE fn q (bits v 0 1)

/-- PWR_MOD_CTL (R522, R553): DRAIN_MS 0 is taken as 1. -/
def State.modCtlWrite (s : State) (v : Word) : State :=
  let s1 := s.setF RF.PWR_MOD_CTL_DRAIN_MS 0 0 (max 1 (bits v 8 8))
  if bit v 2 then s1.modAny (bits v 0 2) 0 else s1.setF RF.PWR_MOD_CTL_TARGET 0 0 (bits v 0 2)

/-- PWR_THERM_CTL (R543, R544): whether the sensors have cooled enough for RESUME is a free value. -/
def State.thermCtlWrite (s : State) (v : Word) : State :=
  let s1 := s.setF RF.PWR_THERM_CTL_WARN 0 0 (bits v 0 8)
  if bit v 8 then
    let (k, s2) := s1.fresh
    s2.thermResume (Config.freeBool k 0)
  else s1

/-- HRT_LEDGER_WIN (R573): an offset beyond the slot is ignored. -/
def State.ledgerWinWrite (s : State) (v : Word) : State :=
  let s1 := s.setF RF.HRT_LEDGER_WIN_SLOT 0 0 (bits v 0 4)
  if bits v 11 8 ≤ 223 then s1.setF RF.HRT_LEDGER_WIN_OFFSET 0 0 (bits v 11 8) else s1

/-- The class a code of WFR_RCV_RESET names. -/
def engineClass : Nat → Option EngineClass
  | 0 => some .quern
  | 1 => some .sieve
  | 2 => some .scree
  | 3 => some .cairn
  | 4 => some .loom
  | _ => none

/-- The target of a commanded reset (R617, R637). -/
def State.resetTarget (s : State) (scope f cls unit p : Nat) : Option Nat :=
  let up := decide (f < 80) && s.inService f
  match scope with
  | 0 => if up then ((engineClass cls).bind (fun c => engineUnit f c unit)).map (unitKey f) else none
  | 1 => if up then some (f * 16 + unit) else none
  | 2 => if up then some f else none
  | 3 => some p
  | _ => none

/-- WFR_RCV_RESET (R617, R637). -/
def State.rcvResetWrite (s : State) (v : Word) : State :=
  let s1 := if bit v 33 then s.setFlag RF.WFR_RCV_RESET_CMD_ERR 0 0 false else s
  let scope := bits v 0 3
  let s2 := s1.resetWrite scope (bits v 3 7) (bits v 10 4) (bits v 14 4) (bits v 18 5)
  if !bit v 31 then s2
  else if scope = 4 ∨ scope = 5 then s2.waferReset (decide (scope = 5)) (bits v 48 16)
  else s2.resetGo scope (s.resetTarget scope (bits v 3 7) (bits v 10 4) (bits v 14 4) (bits v 18 5))

/-- ASY_FRZ_CTL (R640, R653, R660). -/
def State.frzCtlWrite (s : State) (v : Word) : State :=
  let s1 := s.setF RF.ASY_FRZ_CTL_PIN_EN 0 0 (bits v 2 1) |>.setF RF.ASY_FRZ_CTL_FABRIC_EN 0 0 (bits v 3 1)
    |>.setF RF.ASY_FRZ_CTL_BROADCAST 0 0 (bits v 4 1)
  let s2 := if bit v 0 then s1.freezeTrigger ⟨2, false, 0, 0⟩ else s1
  if bit v 1 then s2.thaw else s2

/-- ASY_WIN_CTL (R651, R660). -/
def State.winCtlWrite (s : State) (v : Word) : State :=
  let s1 := if bit v 18 then s.setFlag RF.ASY_WIN_CTL_DENIED 0 0 false else s
  if bit v 16 then s1.windowGo (bits v 0 7) (bits v 7 7) (bits v 14 2)
  else s1.writeIf (!s.flag RF.ASY_WIN_CTL_BUSY 0 0) .ASY_WIN_CTL 0 0 v

/-- WFR_IRQ_CTL (R751, R758). -/
def State.irqCtlWrite (s : State) (v : Word) : State :=
  let s1 := s.setF RF.WFR_IRQ_CTL_HOLDOFF 0 0 (bits v 0 16)
  if bit v 16 then s1.irqRearm else s1

/-- WFR_FLD_EVT_TAIL (R761, R764): a tail beyond HEAD is taken as HEAD. -/
def State.evtTailWrite (s : State) (v : Word) : State :=
  let h := s.getF RF.WFR_FLD_EVT_HEAD_HEAD 0 0
  let dist := fun (t : Nat) => (h + 32 - t) % 32
  s.setF RF.WFR_FLD_EVT_TAIL_TAIL 0 0
    (if dist (bits v 0 5) ≤ dist (s.getF RF.WFR_FLD_EVT_TAIL_TAIL 0 0) then bits v 0 5 else h)

/-! ### The spread table, R65–R67, R768 -/

def State.spreadOn (s : State) : Bool := s.flag RF.WFR_SPREAD_CTL_ENABLE 0 0

def State.spreadErr (s : State) : State := s.setFlag RF.WFR_SPREAD_CTL_WRITE_ERR 0 0 true

/-- Does a field's enabled cairn use memory of the spread area (R294, R768)? -/
def State.cairnMeets (s : State) (f : Nat) : Bool :=
  let (base, slots) := s.poolOf (poolName s.ownWafer f)
  s.flag RF.CRN_CTL_ENABLE f 0 &&
    (meets base (slots * s.slotSize f + slots * 128) s.spreadBase s.spreadSize ||
      meets (s.getF RF.CRN_PT_BASE_BASE f 0 * 65536) (s.getF RF.CRN_PT_BLOCKS_BLOCKS f 0 * 4096)
        s.spreadBase s.spreadSize)

/-- The checks of R768. -/
def State.spreadOk (s : State) : Bool :=
  let slots := (List.range s.spreadSlots).map s.slotEntry
  let fields := slots.map slotField
  decide (s.spreadSize ≠ 0) && decide (s.spreadBase + s.spreadSize ≤ 2 ^ 35) && slots.all slotValid &&
    fields.all (fun f => decide (f < 80) && s.inService f) && decide fields.Nodup &&
    fields.all (fun f => !s.cairnMeets f)

/-- Setting ENABLE (R768). -/
def State.spreadEnable (s : State) : State :=
  if s.spreadOn then s
  else if s.spreadOk then s.setFlag RF.WFR_SPREAD_CTL_ENABLE 0 0 true else s.spreadErr

/-- Spread accesses to this wafer that have resolved and not completed (R66). -/
def State.spreadOpen (s : State) : List Nat :=
  (s.allReqs.filter (fun r => isSpread r.addr && decide (nbits r.addr 52 4 = s.ownWafer) &&
    r.reply.isNone)).map (·.id)

/-- Clearing ENABLE (R66): BUSY stays 1 until the accesses resolved before it have completed. -/
def State.spreadDisable (s : State) : State :=
  if !s.spreadOn then s
  else
    { s with commons := { s.commons with spreadDrain := s.spreadOpen } }.setFlag
      RF.WFR_SPREAD_CTL_ENABLE 0 0 false |>.setFlag RF.WFR_SPREAD_CTL_BUSY 0 0 true

/-- OWNER takes 0–31 or 0x3F. -/
def ownerOk (o : Nat) : Bool := decide (o < 32) || decide (o = 63)

/-- WFR_SPREAD_CTL (R65–R67, R768). (Mark: DEDUCED, log 27.) -/
def State.spreadCtlWrite (s : State) (v : Word) : State :=
  let s1 := if bit v 2 then s.setFlag RF.WFR_SPREAD_CTL_WRITE_ERR 0 0 false else s
  let o := bits v 8 6
  if s.spreadOn then
    let s2 := if o = s.getF RF.WFR_SPREAD_CTL_OWNER 0 0 then s1 else s1.spreadErr
    if bit v 0 then s2 else s2.spreadDisable
  else if bit v 0 && !s.spreadOk then s1.spreadErr
  else
    let s2 := if ownerOk o then s1.setF RF.WFR_SPREAD_CTL_OWNER 0 0 o else s1
    if bit v 0 then s2.spreadEnable else s2

/-- WFR_SPREAD_SLOTS (R65, R100). (Mark: DEDUCED, log 27.) -/
def State.spreadSlotsWrite (s : State) (n : Nat) : State :=
  if s.spreadOn ∨ n = 0 ∨ 80 < n then s.spreadErr else s.setF RF.WFR_SPREAD_SLOTS_S 0 0 n

/-- A slot entry (R65, R100, R768): FIELD and VALID are taken and LOST clears. -/
def State.spreadSlotWrite (s : State) (k e : Nat) : State :=
  if s.spreadOn then s.spreadErr else s.setSlotEntry k (nbits e 0 7 + nbits e 15 1 * 2 ^ 15)

/-- The four slot entries of a register WFR_SPREAD_SLOTk. -/
def State.spreadSlotsOf (s : State) (k : Nat) (v : Word) : State :=
  (List.range 4).foldl (fun (t : State) j => t.spreadSlotWrite (4 * k + j) (bits v (16 * j) 16)) s

/-- A register of the spread table that keeps its value while ENABLE is 1 (R65). -/
def State.spreadAreaWrite (s : State) (r : Reg) (v : Word) : State :=
  if s.spreadOn then s.spreadErr else s.writeFields r 0 0 v

/-! ### Shared-read-only windows, R71 -/

/-- A write to a window of a parish starts its copy to the parish's fields, with WFR_SRO_GEN odd. -/
def State.sroWrite (s : State) (limit : Bool) (p w : Nat) (v : Word) : State :=
  let s1 := if s.commons.sroCopy.contains p then s
    else
      let old := (List.range 16).foldl (fun m i => NMap.put (NMap.put m 0#64 (p * 32 + 2 * i)
        (s.rd .WFR_SROw_BASE p i)) 0#64 (p * 32 + 2 * i + 1) (s.rd .WFR_SROw_LIMIT p i)) s.commons.sroOld
      { s with commons := { s.commons with
        sroCopy := setInsert p s.commons.sroCopy, sroOld := old } }.addWrap RF.WFR_SRO_GEN_GEN p 0 1
  s1.writeFields (if limit then .WFR_SROw_LIMIT else .WFR_SROw_BASE) p w v

/-- The copy ends and WFR_SRO_GEN becomes even. -/
def State.sroDone (s : State) (p : Nat) : State :=
  if s.commons.sroCopy.contains p then
    { s with commons := { s.commons with
      sroCopy := s.commons.sroCopy.filter (· != p)
      sroOld := s.commons.sroOld.forget (p * 32) (p * 32 + 32) } }.addWrap RF.WFR_SRO_GEN_GEN p 0 1
  else s

/-! ### The Reeve's mailbox page, R771–R773 -/

/-- The codes of R576. -/
def mbxCodes : List Nat := [0x01, 0x02, 0x10, 0x11, 0x12, 0x13, 0x20, 0x21, 0x30, 0x31, 0x32, 0x40]

/-- RVE_MBX_CMD (R772): an accepted command waits in the mailbox until the Reeve runs it. -/
def State.mbxCmdWrite (s : State) (v : Word) : State :=
  let code := bits v 0 8
  let n := bits v 8 13
  let s1 := s.setF RF.RVE_MBX_CMD_CODE 0 0 code |>.setF RF.RVE_MBX_CMD_LENGTH 0 0 n
  if !bit v 31 then s1
  else if s.flag RF.RVE_MBX_STAT_BUSY 0 0 then s.raise RF.RVE_MBX_EVENT_REJECTED 0
  else
    let s2 := s1.setFlag RF.RVE_MBX_STAT_BUSY 0 0 true
    if 4096 < n ∨ mbxCodes.contains code = false then s2.mbxEnd .pf mbxMalformed
    else s2.modReeve (fun r => { r with posted := some code })

/-- RVE_MBX_DATA: the operand buffer; ignored writes have cause 2 (R772). -/
def State.mbxDataWrite (s : State) (idx : Nat) (v : Word) : State × Nat :=
  if s.flag RF.RVE_MBX_STAT_BUSY 0 0 || s.flag RF.RVE_MBX_WIN_BUF 0 0 then (s, 2)
  else
    let o := s.getF RF.RVE_MBX_WIN_HALF 0 0 * 2048 + 8 * idx
    (s.modReeve (fun r => { r with
      operands := (List.range 8).foldl (fun m i => NMap.put m 0 (o + i) (bits v (8 * i) 8)) r.operands }), 0)

/-! ### What a write does -/

/-- Registers of field pages whose writes do more than their marks say. -/
def State.fieldEffect (s : State) (r : Reg) (f : Nat) (v : Word) : Option State :=
  match r with
  | .TLY_SIG_BASE => some (s.writeIf (!s.flag RF.TLY_SIG_CTL_ENABLE f 0) r f 0 v)
  | .TLY_SIG_CTL => some (s.sigCtlWrite f v)
  | .TLY_SIG_TAIL => some (s.signalTail f (bits v 0 12))
  | .CRF_STACK_SLOT => some (s.writeIf (decide (bits v 12 12 ≠ 0)) r f 0 v)
  | .CRF_SRO_INV => some (if bit v 0 then s.sroInvStart f else s)
  | .CRN_CTL => some (s.crnCtlWrite f v)
  | .CRN_GEOM | .CRN_POOL_BASE | .CRN_POOL_SLOTS | .CRN_PT_BASE | .CRN_PT_BLOCKS =>
    some (s.writeIf (!s.flag RF.CRN_CTL_ENABLE f 0) r f 0 v)
  | .CRN_RECLAIM => some (s.crnReclaimWrite f v)
  | .HBM_SCRUB_CTL => some (s.scrubCtlWrite f v)
  | .HBM_SCRUB_START => some (s.writeIf (!s.flag RF.HBM_SCRUB_CTL_BUSY f 0) r f 0 v)
  | .HBM_SCRUB_COUNT => some (s.writeIf (!s.flag RF.HBM_SCRUB_CTL_BUSY f 0 && decide (bits v 0 20 ≠ 0)) r f 0 v)
  | .PWR_FLD_CTL => some (s.fieldTarget f (bits v 0 2))
  | _ => none

/-- Registers of the parish, muster and SRO pages. -/
def State.parishEffect (s : State) (r : Reg) (inst idx : Nat) (v : Word) : Option State :=
  let free := decide (s.musterState idx = 0)
  match r with
  | .WFR_PAR_CTL => some (s.parCtlWrite inst v)
  | .WFR_PAR_FIELDS_LO => some (s.parishFieldsWrite inst false v)
  | .WFR_PAR_FIELDS_HI => some (s.parishFieldsWrite inst true v)
  | .WFR_PAR_CANCEL => some (if bit v 0 then s.parishCancel inst else s)
  | .WFR_RINGr_SQ_BASE | .WFR_RINGr_RQ_BASE =>
    some (s.writeIf (!s.flag RF.WFR_RINGr_CTL_ENABLE inst idx) r inst idx v)
  | .WFR_RINGr_CTL => some (s.ringCtl inst idx v)
  | .WFR_MUSm_CTL => some (s.musCtlWrite idx v)
  | .WFR_MUSm_LIST | .WFR_MUSm_RX | .WFR_MUSm_RXT => some (s.writeIf free r 0 idx v)
  | .WFR_SROw_BASE => some (s.sroWrite false inst idx v)
  | .WFR_SROw_LIMIT => some (s.sroWrite true inst idx v)
  | _ => none

/-- Registers of links, ports, fabric, host and granary. -/
def State.portEffect (s : State) (r : Reg) (inst idx : Nat) (v : Word) : Option State :=
  match r with
  | .HBM_GRAN_CTL => some (s.granCtlWrite v)
  | .HBM_GRAN_ORIGIN | .HBM_GRAN_PAIR | .HBM_GRAN_PAIRS | .HBM_GRAN_NSID =>
    some (s.writeIf (!s.flag RF.HBM_GRAN_CTL_ENABLE 0 0) r 0 0 v)
  | .VRN_LNK_CTL => some (s.lnkCtlWrite inst v)
  | .VRN_LNK_TX => some (s.linkTx inst (bits v 0 6) (bits v 6 6) (bits v 12 6))
  | .VRN_PRBS_CTL => some (s.prbsCtl inst false v.toNat)
  | .VRN_PORTp_CTL => some (s.portCtl idx (bits v 0 56) (bit v 56) (bit v 57))
  | .FAB_CTL => some (s.fabCtlWrite v)
  | .FAB_TIME_SET =>
    let s1 := s.writeFields r 0 0 v
    some { s1 with fabric := { s1.fabric with timeSet := true } }
  | .FAB_MAPp => some ((s.writeFields r 0 idx v).recheckPort (idx / 2))
  | .FAB_DISC_CTL => some (s.discCtlWrite v)
  | .FAB_DISC_TX => some (s.writeIf s.isAnchor r 0 idx v)
  | .HST_FN_WIN_BASE => some (s.winBaseWrite inst v)
  | .HST_FN_DMAq_BASE => some (s.writeIf (!s.flag RF.HST_FN_DMAq_CTL_ENABLE inst idx) r inst idx v)
  | .HST_FN_DMAq_CTL => some (s.dmaCtlWrite inst idx v)
  | .HST_PORT_CTL => some (s.setF RF.HST_PORT_CTL_CTO_MS 0 0 (max 1 (bits v 0 8)))
  | _ => none

/-- Registers of the management pages. -/
def State.waferEffect (s : State) (r : Reg) (idx : Nat) (v : Word) : Option State :=
  match r with
  | .PWR_MOD_CTL => some (s.modCtlWrite v)
  | .PWR_PSTATE => some (s.pstateWrite (bits v 0 3))
  | .PWR_CAP_WAFER => some (s.capWafer (bits v 0 15))
  | .PWR_CAP_CTL => some (s.capCtl (bits v 0 6))
  | .PWR_PARn_CAP => some (s.capParish idx (bits v 0 15))
  | .PWR_THERM_CTL => some (s.thermCtlWrite v)
  | .HRT_LEDGER_WIN => some (s.ledgerWinWrite v)
  | .WFR_RCV_STALL => some (s.setF RF.WFR_RCV_STALL_STALL 0 0 (max 1 (bits v 0 16)))
  | .WFR_RCV_RESET => some (s.rcvResetWrite v)
  | .WFR_RCV_CMD => some (if bit v 0 then s.recoveryGo else s)
  | .ASY_FRZ_CTL => some (s.frzCtlWrite v)
  | .ASY_WIN_CTL => some (s.winCtlWrite v)
  | .BIS_CTL => some (s.bistWrite 0 v.toNat)
  | .WFR_IRQ_CTL => some (s.irqCtlWrite v)
  | .WFR_FLD_EVT_TAIL => some (s.evtTailWrite v)
  | .WFR_SPREAD_CTL => some (s.spreadCtlWrite v)
  | .WFR_SPREAD_SLOTS => some (s.spreadSlotsWrite (bits v 0 7))
  | .WFR_SPREAD_BASE | .WFR_SPREAD_SIZE => some (s.spreadAreaWrite r v)
  | .WFR_SPREAD_SLOTk => some (s.spreadSlotsOf idx v)
  | .RVE_MBX_CMD => some (s.mbxCmdWrite v)
  | _ => none

/-- The effect of a permitted write on a register, and the cause with which it was ignored, or 0. -/
def State.regEffect (s : State) (r : Reg) (inst idx : Nat) (v : Word) : State × Nat :=
  match r with
  | .HDR_IRQ_EN => (s.irqEnWrite inst v, 0)
  | .HDR_WRITE_ERR => (s.writeErrClear inst v, 0)
  | .RVE_MBX_DATA => s.mbxDataWrite idx v
  | _ =>
    if r.info.page = some .GPIO then ((s.gpioWrite 0 ((r.info.base - 0x40 + (r.info.dims.map (·.1)).sum * idx) / 8) v).1, 0)
    else match captureRegs.find? (fun c => decide (c.1 = r)) with
      | some (_, b) => (s.captureWrite r b inst v, 0)
      | none =>
        let x := (s.fieldEffect r inst v).orElse (fun _ => (s.parishEffect r inst idx v).orElse (fun _ =>
          (s.portEffect r inst idx v).orElse (fun _ => s.waferEffect r idx v)))
        (x.getD (s.writeFields r inst idx v), 0)

/-! ### Writers, R736, R737, R753 -/

/-- Who writes: the physical function, a parish of this wafer, a parish of another wafer, the Reeve, the
wafer control. -/
inductive Writer where
  | pf
  | parish (p : Nat)
  | foreign
  | reeve
  | wctl
  deriving DecidableEq, Repr

/-- The writer behind a commons source (R69, R170). -/
def State.writerOf (s : State) (src : Source) : Writer :=
  match src.parish with
  | none => .pf
  | some p => if src.wafer.val = s.ownWafer then .parish p.val else .foreign

/-- May a source write pages of a type (R737)? -/
def State.pageWriter (s : State) (w : Writer) (p : Page) (inst : Nat) : Bool :=
  match w, p.info.writers with
  | .wctl, _ => true
  | .reeve, .reeve => true
  | .pf, .reeve => false
  | .pf, .nobody => false
  | .pf, _ => true
  | .parish q, .parish => decide ((s.parishOf (pageField p inst)).map (·.val) = some q)
  | .parish q, .pfFunction => decide (inst = q + 1)
  | _, _ => false

/-- May a source write a register (R736, R737, R172, R408)? (Mark: DEDUCED, log 189.) -/
def State.regWriter (s : State) (w : Writer) (p : Page) (inst : Nat) (r : Reg) : Bool :=
  match w, r.info.mark with
  | .wctl, _ => true
  | .reeve, .reeveOnly => true
  | _, .reeveOnly => false
  | .pf, .pfOnly => s.pageWriter .pf p inst
  | _, .pfOnly => false
  | .parish q, .any =>
    if p = .WFR_PARISH then decide (inst = q) && (ringReg r || decide (r = .WFR_PAR_CANCEL))
    else s.pageWriter w p inst
  | _, _ => s.pageWriter w p inst

/-- A write of 4 or 8 bytes at an offset of a page (R734, R736–R740, R744): a page that is not up ignores
it, a writer that is not permitted has cause 3, an offset that nothing names cause 1, a register without
a writable field cause 2. (Mark: DEDUCED, log 189.) -/
def State.pageWrite (s : State) (w : Writer) (p : Page) (inst off : Nat) (data : List Byte) : State :=
  if !s.pageUp p then s
  else match regAt p inst (off / 8 * 8) with
    | none => s.writeErr p inst off (if s.pageWriter w p inst then 1 else 3)
    | some (r, i, n) =>
      if !s.regWriter w p inst r then s.writeErr p inst off 3
      else if r.info.fields.all (fun x => decide (x.acc = .ro)) then s.writeErr p inst off 2
      else
        let (s1, c) := s.regEffect r i n (s.writeWord r i n off data)
        (if c = 0 then s1 else s1.writeErr p inst off c).dropLines

end Sys2Proof.Machine
end

