-- ==== Sys2Proof/Machine/Access.lean ====
section
/-! DEFINITION. Accesses that reach register pages and tally space (R58, R146, R736), the BARs of the host
port (R500–R505, R515), loads and stores (R132, R133), requests and their answers (R69, R86–R94), the
spread table and SRO commands (R65–R71), and the end-to-end filters (R443–R446). -/

namespace Sys2Proof.Machine

/-! ### Register pages and tally space -/

/-- A plain access to a slot of tally space (R146). -/
def State.tallyAccess (s : State) (f off : Nat) (kind : AccessKind) : State × Reply :=
  let k := tallyKey f (off / 64)
  match kind with
  | .read n =>
    let (s1, w) := s.tallyRead k
    (s1, ⟨.ok, false, leBytes n w.toNat⟩)
  | .write data _ =>
    let v := w64 (leNat data)
    let s1 :=
      if off % 64 = 0 then (s.tallySet k v).1
      else if off % 64 = 8 then (s.tallyAdd k v false).1
      else (s.tallyClear k).1
    (s1, ⟨.ok, false, []⟩)
  | .amo _ _ _ _ => (s, .failed .addrInvalid kind.size)

/-- An access to a register page of a field, or to the seam cost view (R736–R745, R749).
(Mark: DESIGN CHOICE, log 8.) -/
def State.slotAccess (s : State) (src : Source) (f off : Nat) (kind : AccessKind) : State × Reply :=
  let slot := off / 4096
  let o := off % 4096
  let page := fieldSlot f slot
  match kind with
  | .read n =>
    if f = 4 ∧ 32 ≤ slot ∧ slot ≤ 38 then
      (s, ⟨.ok, false, s.seamCostRead true ((slot - 32) * 4096 + o) n⟩)
    else match page with
      | some (p, i) =>
        let (s1, d) := s.readPage p i o n
        (s1, ⟨.ok, false, d⟩)
      | none => (s, ⟨.ok, false, List.replicate n 0#8⟩)
  | .write data _ =>
    match page with
    | some (p, i) => (s.pageWrite (s.writerOf src) p i o data, ⟨.ok, false, []⟩)
    | none => (s, ⟨.ok, false, []⟩)
  | .amo _ _ _ _ => (s, .failed .addrInvalid kind.size)

/-- What answers in regions 2 and 3. -/
def device : DeviceAccess := fun s src f region off kind =>
  if region = 3 then s.tallyAccess f off kind else s.slotAccess src f off kind

/-! ### Host accesses through the BARs -/

/-- A TLP's pieces between 64-byte lines (R81, R501): offset within the TLP and size. -/
def linePieces : Nat → Nat → Nat → Nat → List (Nat × Nat)
  | 0, _, _, _ => []
  | fuel + 1, a, d, n =>
    if n = 0 then []
    else
      let m := min n (64 - (a + d) % 64)
      (d, m) :: linePieces fuel a (d + m) (n - m)

def linesOf (a n : Nat) : List (Nat × Nat) := linePieces (n / 64 + 2) a 0 n

/-- Issue the pieces of a host write. -/
def State.barWrites (s : State) (fn : FnId) (off addr : Nat) (data : List Byte) : List (Nat × Nat) → State
  | [] => s
  | (d, m) :: l =>
    let kind := AccessKind.write ((data.drop d).take m) false
    match s.request device (s.fnSource fn.val) (addr + d) kind (.bar fn true (off + d)) with
    | (s1, id, some rep) => (s1.barAnswer fn.val true (off + d) id rep).barWrites fn off addr data l
    | (s1, _, none) => s1.barWrites fn off addr data l

/-- Issue the pieces of a host read; those answered at once fill in their lines. -/
def State.barReads (s : State) (fn : FnId) (off addr : Nat) :
    List (Nat × Nat) → State × List (Nat × Option Reply × Nat)
  | [] => (s, [])
  | (d, m) :: l =>
    let (s1, id, rep) := s.request device (s.fnSource fn.val) (addr + d) (.read m) (.bar fn false (off + d))
    let (s2, r) := s1.barReads fn off addr l
    (s2, (id, rep, off + d) :: r)

/-- A host access becomes commons accesses (R500, R501, R503). (Mark: DEDUCED, log 130.) -/
def State.barRequest (s : State) (fn : FnId) (off addr : Nat) (op : RegOp) : State :=
  match op with
  | .write data => s.barWrites fn off addr data (linesOf addr data.length)
  | .read n =>
    let id := s.commons.nextReq
    let (s1, parts) := s.barReads fn off addr (linesOf addr n)
    let x : BarRead :=
      { id := id, fn := fn.val, offset := off, size := n, parts := parts.map (fun p => (p.1, none)),
        poison := false, since := s.now }
    let s2 := (s1.modHost (fun h => { h with reads := h.reads ++ [x] })).barFlush
    parts.foldl (fun (t : State) p => match p.2.1 with
      | some rep => t.barAnswer fn.val false p.2.2 p.1 rep
      | none => t) s2

/-- A read while the wafer is frozen (R515): zero data at once, with FROZEN. (Mark: DEDUCED, log 131.) -/
def State.frozenRead (s : State) (fn : FnId) (n : Nat) : State :=
  (s.setFlag RF.HST_FN_WIN_ERR_FROZEN fn.val 0 true).send (.barReply fn 0 (List.replicate n 0#8))

/-- Is a page answered while the wafer is frozen (R660, R754)? -/
def aliveSlot (page : Option (Page × Nat)) : Bool :=
  match page with
  | some (p, _) => p.info.alive
  | none => false

/-- Does an address name an alive page of this wafer? -/
def State.aliveAddr (s : State) (addr : Nat) : Bool :=
  let d := Direct.of addr
  !isSpread addr && decide (d.wafer = s.ownWafer) && decide (d.region = 2) &&
    aliveSlot (fieldSlot d.field (d.off / 4096))

/-- A host access to the commons; while the wafer is frozen a write to other than an alive page is held,
and a read gives zeros (R515). -/
def State.barCommons (s : State) (fn : FnId) (off addr : Nat) (op : RegOp) (held : HeldWrite) : State :=
  if s.h0Frozen && !s.aliveAddr addr then
    match op with
    | .read n => s.frozenRead fn n
    | .write _ => s.holdWrite held
  else s.barRequest fn off addr op

/-- An access to a wafer-level page: 4 or 8 bytes, naturally aligned (R740); its errors are reported as
R503 says. -/
def State.waferPage (s : State) (fn : FnId) (w : Writer) (off o : Nat) (page : Page × Nat) (op : RegOp) :
    State :=
  let n := match op with
    | .read n => n
    | .write d => d.length
  let bad : Option AccStatus :=
    if n ≠ 4 ∧ n ≠ 8 then some .addrInvalid else if o % n ≠ 0 then some .align else none
  match op, bad with
  | .read n, some st =>
    (s.winErr fn.val st.code false off).send (.barReply fn 0 (List.replicate n 0#8))
  | .write _, some st => s.winErr fn.val st.code true off
  | .read n, none =>
    let (s1, d) := s.readPage page.1 page.2 o n
    s1.send (.barReply fn 0 d)
  | .write d, none => s.pageWrite w page.1 page.2 o d

/-- An access that meets no page: it reads 0 and ignores writes. -/
def State.emptyAccess (s : State) (fn : FnId) (op : RegOp) : State :=
  match op with
  | .read n => s.send (.barReply fn 0 (List.replicate n 0#8))
  | .write _ => s

/-- A wafer-level page, or none, under R515. -/
def State.waferSlotAccess (s : State) (fn : FnId) (w : Writer) (off o : Nat) (page : Option (Page × Nat))
    (op : RegOp) : State :=
  if s.h0Frozen && !aliveSlot page then
    match op with
    | .read n => s.frozenRead fn n
    | .write d => s.holdWrite (.bar0 fn off d)
  else match page with
    | some p => s.waferPage fn w off o p op
    | none => s.emptyAccess fn op

/-- BAR0 of a function (R500, R747, R748). (Mark: PRESUMED, log 129.) -/
def State.bar0Access (s : State) (fn : FnId) (off : Nat) (op : RegOp) : State :=
  let data := match op with
    | .read _ => []
    | .write d => d
  if fn.val ≠ 0 then
    let page := match off / 4096 with
      | 0 => some (Page.WFR_PARISH, fn.val - 1)
      | 1 => some (Page.WFR_SRO, fn.val - 1)
      | 2 => some (Page.HST_FN, fn.val)
      | _ => none
    s.waferSlotAccess fn (.parish (fn.val - 1)) off (off % 4096) page op
  else if off < 0x1400000 then
    s.barCommons fn off (directAddr s.ownWafer (off / 0x40000) 2 (off % 0x40000)) op (.bar0 fn off data)
  else if off < 0x1800000 then
    let w := (off - 0x1400000) / 4096
    if 4 ≤ w ∧ w ≤ 10 then
      match op with
      | .read n =>
        if s.h0Frozen && !Page.WFR_SEAMCOST.info.alive then s.frozenRead fn n
        else s.send (.barReply fn 0 (s.seamCostRead false (off - 0x1404000) n))
      | .write _ => s
    else s.waferSlotAccess fn .pf off (off % 4096) (waferSlot w) op
  else s.emptyAccess fn op

/-! ### BAR4 -/

/-- What a BAR4 offset of a function names (R505). -/
inductive Bar4 where
  | ring (p : ParishId) (r : RingId)
  | dma (q : Nat)
  | table (entry byte : Nat)
  | pba (byte : Nat)
  | none
  deriving DecidableEq, Repr

/-- The MSI-X table holds 16 bytes per entry and the pending-bit array one bit per entry, as PCIe lays them
out. -/
def bar4Of (fn off : Nat) : Bar4 :=
  let dma := if fn = 0 then 0x800000 else 0x40000
  let table := if fn = 0 then 0xFF0000 else 0x70000
  let n := msixEntries fn
  if table ≤ off ∧ off < table + 16 * n then .table ((off - table) / 16) ((off - table) % 16)
  else if table + 0x8000 ≤ off ∧ off < table + 0x8008 then .pba (off - table - 0x8000)
  else if off % 4096 ≠ 0 then .none
  else if off = dma ∨ off = dma + 4096 then .dma ((off - dma) / 4096)
  else
    let k := off / 4096
    if fn = 0 ∧ k < 2048 then .ring (Fin.ofNat 32 (k / 64)) (Fin.ofNat 64 (k % 64))
    else if fn ≠ 0 ∧ k < 64 then .ring (Fin.ofNat 32 (fn - 1)) (Fin.ofNat 64 k)
    else .none

/-- An MSI-X table entry as a number: address, data, vector control with its mask bit. -/
def State.msixEntry (s : State) (k : Nat) : Nat :=
  s.host.msixTable.look 0 k + (if s.host.msixOpen.contains k then 0 else 2 ^ 96)

/-- Write bytes of an MSI-X table entry; unmasking sends its pending message (R510). -/
def State.msixWrite (s : State) (k byte : Nat) (data : List Byte) : State :=
  let old := leBytes 16 (s.msixEntry k)
  let v := leNat ((old.take byte ++ data ++ old.drop (byte + data.length)).take 16)
  let s1 := s.modHost (fun h => { h with
    msixTable := h.msixTable.put 0 k (v % 2 ^ 96)
    msixOpen := if nbits v 96 1 = 1 then h.msixOpen.filter (· != k) else setInsert k h.msixOpen })
  s1.msixFlush (· == k)

/-- BAR4 of a function (R505): writes of 4 or 8 bytes. -/
def State.bar4Access (s : State) (fn : FnId) (off : Nat) (op : RegOp) : State :=
  let word := fun (v n : Nat) => OutMsg.barReply fn 0 (leBytes n v)
  let last := fun (k : Nat) => s.host.doorbells.look 0 k
  match bar4Of fn.val off, op with
  | .ring p r, .read n => s.send (word (last (p.val * 64 + r.val)) n)
  | .dma q, .read n => s.send (word (last (2 ^ 16 + fn.val * 2 + q)) n)
  | .table e b, .read n => s.send (word (s.msixEntry (fn.val * 2048 + e) / 256 ^ b) n)
  | .pba b, .read n => s.send (word (listMask ((s.host.msixPending.filter (fun k =>
      decide (k / 2048 = fn.val))).map (· % 2048)) / 256 ^ b) n)
  | .none, .read n => s.send (word 0 n)
  | x, .write d =>
    if d.length ≠ 4 ∧ d.length ≠ 8 then s
    else match x with
      | .ring p r => s.ringDoorbell p r (leNat d % 65536)
      | .dma q => s.dmaDoorbellWrite fn q (leNat d % 65536)
      | .table e b => s.msixWrite (fn.val * 2048 + e) b d
      | _ => s

/-! ### The rows of host accesses -/

/-- The size of a function's BAR2 (R502). (Mark: DESIGN CHOICE, log 18.) -/
def State.bar2Bytes (s : State) (fn : Nat) : Nat := 2 ^ (if fn = 0 then s.host.bar2Pf else s.host.bar2Vf)

/-- BAR2_ACCESS, R501. (Mark: PRESUMED, log 129.) -/
def execBar2Access (fn : FnId) (offset : BitVec 36) (op : RegOp) (s : State) : Out :=
  let off := offset.toNat
  if !s.host.ready || !s.fnOn fn.val || decide (s.bar2Bytes fn.val ≤ off) then .next s
  else
    let addr := s.getF RF.HST_FN_WIN_BASE_BASE fn.val 0 * 65536 + off
    let data := match op with
      | .read _ => []
      | .write d => d
    .next (s.barCommons fn off addr op (.bar2 fn off addr data))

/-- An access of the Reeve or the wafer control to a page. -/
def State.innerAccess (s : State) (w : Writer) (place : RegPlace) (off : Nat) (op : RegOp) : State :=
  match placePage place, op with
  | some (p, i), .read n =>
    let (s1, d) := s.readPage p i off n
    s1.send (.regRead (w64 (leNat d)))
  | none, .read _ => s.send (.regRead 0#64)
  | some (p, i), .write d =>
    if (d.length = 4 ∨ d.length = 8) ∧ off % d.length = 0 then s.pageWrite w p i off d else s
  | none, .write _ => s

/-- REGISTER_WRITE, R736: an access to a register, by any path to its page; a read is carried by the same
command. (Mark: DESIGN CHOICE, log 8.) -/
def execRegisterWrite (path : RegPath) (op : RegOp) (s : State) : Out :=
  match path with
  | .bar0 fn off =>
    if s.host.ready && s.fnOn fn.val then .next (s.bar0Access fn off.toNat op) else .next s
  | .bar4 fn off =>
    if s.host.ready && s.fnOn fn.val then .next (s.bar4Access fn off.toNat op) else .next s
  | .reeve place off => .next (s.innerAccess .reeve place off.toNat op)
  | .wctl place off => .next (s.innerAccess .wctl place off.toNat op)

/-- Apply a write that H0 held (R515). (Mark: DEDUCED, log 132.) -/
def State.applyHeld (s : State) (h : HeldWrite) : State :=
  match h with
  | .ring p r v => s.doorbell p.val r.val v
  | .dma fn q v => s.dmaDoorbell fn.val q v
  | .bar2 fn off addr d => s.barRequest fn off addr (.write d)
  | .bar0 fn off d => s.bar0Access fn off (.write d)

/-- Apply every held write, in arrival order. -/
def State.applyHelds (s : State) : State :=
  s.host.held.foldl (fun (t : State) h => t.applyHeld h) (s.modHost (fun h => { h with held := [] }))

/-! ### Loads and stores, R132, R133 -/

/-- The bytes of an access. -/
def memBytes : MemSize → Nat
  | .b => 1
  | .h => 2
  | .w => 4
  | .d => 8

/-- Must the access be naturally aligned (R58, R132)? -/
def eaAligned (ea n : Nat) : Bool :=
  decide (ea % n = 0) || isSpread ea || !needsAlign (Direct.of ea).region

/-- Issue the parts of an access; a part that is answered at once keeps its answer in the list until the
whole access ends. (Mark: DESIGN CHOICE, log 28.) -/
def State.issueParts (s : State) (src : Source) (ea : Nat) (kind : Nat → Nat → AccessKind) (sink : Sink)
    (group : Nat) : List (Nat × Nat) → State
  | [] => s
  | (d, m) :: l =>
    match s.requestPart device src (ea + d) (kind d m) sink group with
    | (s1, r, some rep) => (s1.pushReq { r with reply := some rep }).issueParts src ea kind sink group l
    | (s1, _, none) => s1.issueParts src ea kind sink group l

/-- The parts of an access, once every one of them has its answer. (Mark: DESIGN CHOICE, log 28.) -/
def State.groupDone (s : State) (group : Nat) : Option (List Request) :=
  let l := s.allReqs.filter (fun r => decide (r.group = group))
  if l.isEmpty || l.any (fun r => r.reply.isNone) then none else some (sortParts l)

/-- Take an access out of the list of outstanding requests. -/
def State.dropGroup (s : State) (group : Nat) : State :=
  { s with commons := { s.commons with reqs := s.commons.reqs.filter (fun r => r.group != group) } }

def loadDst (a : LoadArgs) : LoadDst := if a.fp then .f a.rd a.size else .x a.rd a.size a.uns

/-- LOAD, R132: the data, a fault, or zeros with QUIET_LOADS; a load whose answer is due leaves its thread
waiting. (Marks: DESIGN CHOICE, log 25; DEDUCED, log 43.) -/
def execLoad (f : FieldId) (t : ThreadId) (a : LoadArgs) (s : State) : Out :=
  let x := s.thread f.val t.val
  let ea := x.xr a.rs1 + a.imm.signExtend 64
  let n := memBytes a.size
  let g := s.commons.nextReq
  .next (s.gate f.val t.val
    (if s.eaBad f.val t.val ea n 1 then s.trap f.val t.val causeLoadAccess ea
     else if !eaAligned ea.toNat n then s.alignFault f.val t.val causeLoadAlign ea false
     else
       let s1 := s.issueParts (s.threadSource f.val) ea.toNat (fun _ m => .read m) (.load f t (loadDst a) false) g
         (linesOf ea.toNat n)
       match s1.groupDone g with
       | some l => (s1.dropGroup g).loadDone f.val t.val (lenBytes a.len) ea.toNat (loadDst a) false n (joinParts l)
       | none => s1.modThread f.val t.val (fun y => { y with st := .waitMem, waitLen := lenBytes a.len })))

/-- The value a store writes. -/
def Thread.storeValue (x : Thread) (a : StoreArgs) : Nat :=
  (if a.fp then x.fr a.rs2 else x.xr a.rs2).toNat

/-- STORE, R133: it retires before its acknowledgement. (Mark: DESIGN CHOICE, log 25.) -/
def execStore (f : FieldId) (t : ThreadId) (a : StoreArgs) (s : State) : Out :=
  let x := s.thread f.val t.val
  let ea := x.xr a.rs1 + a.imm.signExtend 64
  let n := memBytes a.size
  let data := leBytes n (x.storeValue a)
  let g := s.commons.nextReq
  .next (s.gate f.val t.val
    (if s.eaBad f.val t.val ea n 2 then s.trap f.val t.val causeStoreAccess ea
     else if !eaAligned ea.toNat n then s.alignFault f.val t.val causeStoreAlign ea true
     else (s.issueParts (s.threadSource f.val) ea.toNat
       (fun d m => .write ((data.drop d).take m) false) (.store f t) g (linesOf ea.toNat n)).retireWith
         f.val t.val (lenBytes a.len) id))

/-- STORE_ACK, R133: the acknowledgement of the store whose first request has this id. -/
def execStoreAck (id : Nat) (s : State) : Out :=
  match s.groupDone id with
  | none => .next s
  | some l =>
    match l with
    | [] => .next s
    | r :: _ =>
      let stopped := match r.src.field with
        | some g => s.stopped g.val
        | none => false
      if stopped || s.halted then .next s
      else match r.sink with
        | .store f t => .next ((s.dropGroup id).finishAccess ⟨r.id, r.group, r.src, r.addr, r.kind, .store f t,
            r.issued, r.held, r.reply⟩ ((l.map (fun q => q.kind.size)).sum) (joinParts l))
        | _ => .next s

/-! ### Requests and their answers -/

/-- COMMONS_ACCESS, R69: a request, of this wafer or of another one, is checked, resolved and performed; a
requester elsewhere gets its answer by its tag. -/
def execCommonsAccess (src : Source) (addr : BitVec 57) (kind : AccessKind) (tag : Nat) (s : State) : Out :=
  let own := decide (src.wafer.val = s.ownWafer)
  match s.request device src addr.toNat kind (if own then .none else .remote src.wafer tag none) with
  | (s1, _, none) => .next s1
  | (s1, _, some rep) =>
    .next (s1.send (if own then .accessReply rep.status else .commonsReply src.wafer tag rep.status rep.data))

/-- FRESH_FILL_DONE, R86. (Mark: DESIGN CHOICE, log 29.) -/
def execFreshFillDone (f : FieldId) (g : BitVec 19) (s : State) : Out :=
  match s.commons.fills.find? (fun x => decide (x.field = f.val ∧ x.granule = g.toNat)) with
  | none => .next s
  | some x => if s.stopped f.val then .next s else .next (s.fillDone x)

/-- FRESH_MAP_FAULT, R88: the word is recorded and its granules' accesses wait. -/
def execFreshMapFault (f : FieldId) (word : BitVec 13) (s : State) : Out :=
  if !s.inService f.val || s.stopped f.val then .next s
  else
    let s1 := s.setF RF.FLD_CMN_FRESH_FAULT_WORD f.val 0 word.toNat
      |>.setFlag RF.FLD_CMN_FRESH_FAULT_VALID f.val 0 true |>.addSat RF.FLD_CMN_FRESH_FAULT_COUNT f.val 0 1
    if s1.commons.faulting.contains (f.val, word.toNat) then .next s1
    else .next { s1 with commons := { s1.commons with
      faulting := s1.commons.faulting ++ [(f.val, word.toNat)] } }

/-- Does a waiting request lie in the granules of a fresh-map word? -/
def State.inWord (s : State) (f word : Nat) (r : Request) : Bool :=
  let (g, rg, o) := s.placeAnyway r.addr
  let (rg1, o1) := s.backing g rg o
  decide (g = f) && decide (rg1 = 0) && decide (o1 / 65536 / 64 = word)

/-- FRESH_FAULT_ZERO_DONE, R88: the 64 granules hold zeros and are written; what waited goes on. -/
def execFreshFaultZeroDone (f : FieldId) (word : BitVec 13) (s : State) : Out :=
  if !s.commons.faulting.contains (f.val, word.toNat) || s.stopped f.val then .next s
  else
    let m := (List.range 64).foldl (fun (m : Memory) i => m.fillGranule f.val (word.toNat * 64 + i)) s.mem
    let s1 := { s with mem := m, commons := { s.commons with
      faulting := s.commons.faulting.filter (· != (f.val, word.toNat)) } }
    .next (s1.releaseHeld device (fun r => s1.inWord f.val word.toNat r))

/-- May the answer of a request reach its requester now (R98, R544)? -/
def State.answers (s : State) : Bool := !s.frozen && !s.halted

/-- COMMONS_RESPONSE, R90: another wafer answers a request of this one.
(Marks: DESIGN CHOICE, log 3; DESIGN CHOICE, log 31.) -/
def execCommonsResponse (id : Nat) (status : AccStatusCode) (fresh : Bool) (data : List Byte) (s : State) :
    Out :=
  match s.commons.reqs.find? (fun r => decide (r.id = id) && r.reply.isNone && !r.held) with
  | none => .next s
  | some r =>
    if !s.answers then .next s
    else match AccStatus.ofCode status.toNat with
      | .ok =>
        let want := match r.kind with
          | .write _ _ => 0
          | k => k.size
        if data.length ≠ want then .fault (.malformedOperand "COMMONS_RESPONSE")
        else .next (s.answer r ⟨.ok, fresh, data⟩)
      | st => .next (s.failReq none r st)

/-- The time a request may take (R56). -/
def State.reqLimit (s : State) (r : Request) : Nat :=
  if nbits r.addr 52 4 = s.ownWafer then 200000 else 2000000

/-- Is the request held for a scrub, which no timeout ends (R590)? -/
def State.scrubHeld (s : State) (r : Request) : Bool :=
  r.held && decide (nbits r.addr 52 4 = s.ownWafer) && s.scrubbing (s.placeAnyway r.addr).1

/-- REQUEST_TIMEOUT, R90: no response within the request timeout. (Mark: DESIGN CHOICE, log 4.) -/
def execRequestTimeout (id : Nat) (s : State) : Out :=
  match s.commons.reqs.find? (fun r => decide (r.id = id) && r.reply.isNone) with
  | none => .next s
  | some r =>
    if !s.answers || decide (r.src.wafer.val ≠ s.ownWafer) || s.scrubHeld r ||
        decide (s.now < r.issued + s.reqLimit r) then .next s
    else .next (s.failReq none r .timeout)

/-- LATE_RESPONSE, R94: a response to a request of field `f` that has completed in error. -/
def execLateResponse (f : FieldId) (id : Nat) (s : State) : Out :=
  if s.allReqs.any (fun r => decide (r.id = id) && r.reply.isNone) || !s.inService f.val then .next s
  else .next (s.addSat RF.FLD_CMN_LATE_RSP_COUNT f.val 0 1)

/-- ROUTE_REBUILD, R32, R48: routes and the seam cost table are computed anew and the held traffic goes on;
not while the wafer is frozen (R52). -/
def execRouteRebuild (s : State) : Out :=
  if !s.commons.seamDirty || s.frozen then .next s
  else .next (s.routeRebuild.releaseHeld device (fun _ => true))

/-! ### Spread window and SRO windows -/

/-- SPREAD_ENABLE, R768. -/
def execSpreadEnable (s : State) : Out := .next s.spreadEnable

/-- SPREAD_DISABLE, R66. -/
def execSpreadDisable (s : State) : Out := .next s.spreadDisable

/-- SPREAD_DRAINED, R66. -/
def execSpreadDrained (s : State) : Out :=
  if !s.flag RF.WFR_SPREAD_CTL_BUSY 0 0 ||
      s.allReqs.any (fun r => s.commons.spreadDrain.contains r.id && r.reply.isNone) then .next s
  else .next ({ s with commons := { s.commons with spreadDrain := [] } }.setFlag
    RF.WFR_SPREAD_CTL_BUSY 0 0 false)

/-- SPREAD_SLOT_WRITE, R768. -/
def execSpreadSlotWrite (k : Fin 80) (entry : BitVec 16) (s : State) : Out :=
  .next (s.spreadSlotWrite k.val entry.toNat)

/-- SPREAD_MARK_LOST, R68: the slot of a retired field; WFR_SPREAD_GEN becomes even after the last one. -/
def execSpreadMarkLost (f : FieldId) (s : State) : Out :=
  if !s.commons.spreadMarks.contains f.val || s.frozen then .next s
  else
    let k := s.slotOf f.val
    let s1 := if k = 0x7F then s else s.setSlotEntry k (s.slotEntry k ||| 128)
    let left := s.commons.spreadMarks.filter (· != f.val)
    let s2 := { s1 with commons := { s1.commons with spreadMarks := left } }
    .next (if left.isEmpty ∧ s2.getF RF.WFR_SPREAD_GEN_GEN 0 0 % 2 = 1 then
      s2.addWrap RF.WFR_SPREAD_GEN_GEN 0 0 1 else s2)

/-- SRO_WINDOW_WRITE, R71. (Mark: DEDUCED, log 26.) -/
def execSroWindowWrite (p : ParishId) (w : Fin 16) (limit : Bool) (v : Word) (s : State) : Out :=
  .next (s.sroWrite limit p.val w.val v)

/-- SRO_COPY_DONE, R71. -/
def execSroCopyDone (p : ParishId) (s : State) : Out := .next (s.sroDone p.val)

/-! ### Tracked requests of other wafers, R443–R446 -/

/-- The filter of a field for a source wafer. -/
def E2eHeld.key (x : E2eHeld) : Nat := x.field * 2048 + x.src.wafer.val + 16 * x.rack

def E2eHeld.source (x : E2eHeld) : Nat := match x.src.field with
  | some g => g.val
  | none => 0

/-- How long before now, in 32-bit fabric time, a time lies; negative in the future. -/
def since32 (now t : Nat) : Int :=
  let d : Nat := (now % 4294967296 + 4294967296 - t % 4294967296) % 4294967296
  if d < 2147483648 then Int.ofNat d else Int.ofNat d - 4294967296

/-- Is a tracked request stale (R443, R446)?  Requests of another rack never are. -/
def State.stale (s : State) (x : E2eHeld) : Bool :=
  let age := since32 s.fabricTime x.tOrig
  let cut := match s.verne.resetEnd.look 0 x.field with
    | 0 => false
    | e + 1 => decide (s.fabricTime < e + 40000) && decide (0 < since32 e x.tOrig)
  decide (x.rack = s.getF RF.FAB_NUM_RACK 0 0) && (decide (30000 < age) || decide (age < -5000) || cut)

/-- The answer to a tracked request, by its TXSEQ. (Mark: DEDUCED, log 34.) -/
def State.e2eReply (s : State) (x : E2eHeld) (rep : Reply) : State :=
  s.send (.commonsReply x.src.wafer x.txseq rep.status rep.data)

/-- Enter a request in its filter; with 4,096 entries the oldest one leaves (R443, R444).
(Mark: DEDUCED, log 33.) -/
def State.e2eEnter (s : State) (x : E2eHeld) : State :=
  let l := s.verne.filters.look [] x.key
  let l1 := (l ++ [(⟨x.source, x.txseq, s.now, none⟩ : E2eEntry)]).drop (l.length + 1 - 4096)
  { s with verne := { s.verne with filters := s.verne.filters.put [] x.key l1 } }

/-- Note the answer in the filter and send it. (Mark: DEDUCED, log 34.) -/
def State.e2eDone (s : State) (x : E2eHeld) (rep : Reply) : State :=
  (s.e2eAnswer (x.key, x.source, x.txseq) rep).e2eReply x rep

/-- Apply a tracked request at its destination field. -/
def State.e2eApply (s : State) (x : E2eHeld) : State :=
  let sink := Sink.remote x.src.wafer x.txseq (some (x.key, x.source, x.txseq))
  let access := fun (addr : Nat) (kind : AccessKind) =>
    match s.request device x.src addr kind sink with
    | (s1, _, some rep) => s1.e2eDone x rep
    | (s1, _, none) => s1
  match x.req with
  | .write addr data bad => access addr.toNat (.write data bad)
  | .send addr data => access addr.toNat (.write data false)
  | .amo addr op wide operand expected => access addr.toNat (.amo op wide operand expected)
  | .issue desc =>
    let (s1, code) := s.enqueueAt x.field desc x.src x.source none
    s1.e2eDone x ⟨.ok, false, leBytes 4 code⟩
  | .tally t op =>
    if !s.admits x.src x.field 3 (t.val * 64) 8 then
      (s.noteAccess (some x.field) .accessDenied false true
        (directAddr s.ownWafer x.field 3 (t.val * 64)) x.src).e2eDone x (.failed .accessDenied 0)
    else
      match s.tallyApply (tallyKey x.field t.val) op (.remote x.src.wafer x.txseq)
          (x.src.field.getD 0) x.src.parish none with
      | (s1, .word w) =>
        (s1.e2eAnswer (x.key, x.source, x.txseq) ⟨.ok, false, leBytes 8 w.toNat⟩).send
          (.tallyReply x.src.wafer x.txseq w)
      | (s1, .parked) => s1.send (.tallyParked x.src.wafer x.txseq)

/-- Is every entry of a full filter younger than 40 µs (R444)? -/
def State.e2eFull (s : State) (x : E2eHeld) : Bool :=
  let l := s.verne.filters.look [] x.key
  decide (4096 ≤ l.length) && l.all (fun e => decide (s.now < e.time + 40000))

/-- Apply a request now, or hold it at the field's router while its filter is full or the field holds what
reaches it. (Mark: DEDUCED, log 33.) -/
def State.e2eGo (s : State) (x : E2eHeld) : State :=
  if s.fieldHolds x.field || !s.fieldsUp || s.e2eFull x then
    { s with verne := { s.verne with waiting := s.verne.waiting ++ [x] } }
  else (s.e2eEnter x).e2eApply x

/-- A tracked request meets its destination field's filter (R443). -/
def State.e2eArrive (s : State) (x : E2eHeld) : State :=
  match s.fieldMode x.field with
  | 0 =>
    match (s.verne.filters.look [] x.key).find? (fun e => decide (e.srcField = x.source ∧ e.txseq = x.txseq)) with
    | some e =>
      let s1 := s.addSat RF.VRN_E2E_DUP_COUNT 0 0 1
      match e.answer with
      | some rep => s1.e2eReply x rep
      | none => s1
    | none => if s.stale x then s.addSat RF.VRN_E2E_STALE_COUNT 0 0 1 else s.e2eGo x
  | 1 => s.e2eReply x (.failed .fieldRetired 0)
  | _ => s.e2eReply x (.failed .routeLoss 0)

/-- E2E_TRACKED_REQUEST, R443: a tracked request of another wafer reaches field `f`. -/
def execE2eTrackedRequest (f : FieldId) (rack : BitVec 7) (src : Source) (txseq : BitVec 24)
    (tOrig : BitVec 32) (req : TrackedReq) (s : State) : Out :=
  let bad := match req with
    | .issue d => decide (d.length ≠ 64)
    | .tally _ (.chain _ _ d) => decide (d.length ≠ 64)
    | _ => false
  if bad then .fault (.malformedOperand "E2E_TRACKED_REQUEST")
  else .next (s.e2eArrive ⟨f.val, rack.toNat, src, txseq.toNat, tOrig.toNat, req⟩)

/-- E2E_FILTER_RELEASE, R444: the field's first held request that may go on is applied. -/
def execE2eFilterRelease (f : FieldId) (s : State) : Out :=
  match s.verne.waiting.find? (fun x => decide (x.field = f.val)) with
  | none => .next s
  | some x =>
    if s.fieldHolds f.val || !s.fieldsUp || s.e2eFull x then .next s
    else
      let rest := s.verne.waiting.eraseP (fun y => decide (y.field = f.val))
      .next (({ s with verne := { s.verne with waiting := rest } }.e2eEnter x).e2eApply x)

end Sys2Proof.Machine
end

