-- ==== Sys2Proof/Machine/Late.lean ====
section
/-! DEFINITION. What ends a wait: images loaded, power transitions, scrubs, resets, the thaw, the reads of
the Assay, the end of a suite; and the time that passes while no command waits. -/

namespace Sys2Proof.Machine

/-- Deliver every held request whose field accepts accesses now (R89, R529). -/
def State.releaseAll (s : State) : State := s.releaseHeld device (fun _ => true)

/-- IMAGES_LOADED, R719: the fields take accesses from now on. (Mark: DEDUCED, log 196.) -/
def execImagesLoaded (s : State) : Out :=
  if decide (s.boot.stage ≠ .images) || s.frozen then .next s
  else .next s.imagesLoaded.releaseAll

/-- MOD_TRANSITION_DONE, R523: the drain of a DROWSY command ends in rows of its own.
(Mark: DEDUCED, log 196.) -/
def execModTransitionDone (s : State) : Out :=
  match s.power.target with
  | none => .next s
  | some t =>
    if s.frozen || s.halted || (decide (t = 1) && decide (s.modState = 3)) then .next s
    else .next (s.modArrive t).releaseAll

/-- FLD_TRANSITION_DONE, R529: accesses held at the field's router go on once it is in F-on or F-idle. -/
def execFldTransitionDone (f : FieldId) (s : State) : Out :=
  if s.power.fldTarget.look 0 f.val = 0 ∨ s.stopped f.val = true ∨ s.halted = true then .next s
  else .next (s.fieldDone f.val).releaseAll

/-- SCRUB_DONE, R408: `verified` says whether the checks of R592 hold for a scrub of the Reeve. -/
def execScrubDone (f : FieldId) (verified : Bool) (s : State) : Out :=
  .next (s.scrubDone device f.val verified)

/-- FIELD_CLEAR_DONE, R591: `zeroOk` says whether every element reads back zero. -/
def execFieldClearDone (f : FieldId) (zeroOk : Bool) (s : State) : Out :=
  .next (s.fieldClearDone device f.val zeroOk)

/-! ### The end of a reset -/

/-- Sectors of a field's dirty L2 lines that did not reach HBM are poisoned there (R619).
(Mark: DESIGN CHOICE, log 160.) -/
def State.loseSectors (s : State) (f : Nat) (l : List Nat) : State :=
  { s with mem := { s.mem with
      poison := l.foldl (fun (p : List Nat) o => setInsert (cellKey f 0 o / 32) p) s.mem.poison } }

/-- The end of a commanded or escalated field reset (R619, R620, R622): the spine self-check, and the fourth
reset in 10 min, retire the field. -/
def State.fieldResetJudge (s : State) (f : Nat) (spineBad : Bool) (lost : List Nat) : State :=
  let s1 := (s.loseSectors f lost).fieldResetEnd f
  let many := decide (4 ≤ (s1.recent min10 (s1.resets.fieldTimes.look [] f)).length)
  let s2 := if spineBad && decide (f = 4) then s1.faultNow 4
    else if many then s1.retireField f causeEscalation 0 spineBad false
    else if spineBad then s1.retireField f causeSpine 0 true false
    else s1
  s2.deferredStop f

/-- The end of one running reset, by its scope. -/
def State.resetEnd (s : State) (scope target : Nat) (spine : Nat) (lost : Nat → List Nat) : State :=
  match scope with
  | 0 =>
    let s1 := s.modEngine (target / 32) (target % 32) (fun e => { e with inReset := false })
    s1.escalateEngine (target / 32) (target % 32)
  | 1 =>
    let s1 := { s with resets := { s.resets with
      crofters := s.resets.crofters.filter (fun c => c != (target / 16, target % 16)) } }
    s1.escalateCrofter (target / 16) (target % 16)
  | 2 => s.fieldResetJudge target (spine.testBit target) (lost target)
  | 3 => (s.resets.fields.filter (fun f => (s.parishMask target).testBit f)).foldl
      (fun (t : State) f => t.fieldResetJudge f (spine.testBit f) (lost f)) s
  | _ =>
    let s1 := s.resets.fields.foldl (fun (t : State) f =>
      (((t.loseSectors f (lost f)).fieldResetEnd f).deferredStop f)) s
    if 3 ≤ (s1.recent hour1 s1.resets.warmTimes).length then s1.takeDecision .outOfService else s1

/-- RESET_DONE, R619: the oldest reset in progress completes.  `spine` marks the fields whose spine
self-check fails (R620); `lost` are the sectors, by field and offset, that were dirty in an L2 that did not
answer. (Mark: DESIGN CHOICE, log 160.) -/
def execResetDone (spine : BitVec 80) (lost : List (FieldId × BitVec 39)) (s : State) : Out :=
  match s.resets.running with
  | [] => .next s
  | (scope, target, _) :: rest =>
    let at_ := fun (f : Nat) => (lost.filter (fun x => decide (x.1.val = f))).map (·.2.toNat)
    let s1 := ({ s with resets := { s.resets with running := rest } }).resetEnd scope target spine.toNat at_
    let s2 := if s1.resets.running.isEmpty && s1.resets.waiting.isEmpty then
      s1.setFlag RF.WFR_RCV_RESET_BUSY 0 0 false else s1
    .next s2.releaseAll

/-! ### The thaw -/

/-- Deliver the flits that the receive buffers of a link held (R452). (Mark: DEDUCED, log 112.) -/
def State.releaseRx (s : State) (k : Nat) : State :=
  let l := (s.link k).rx
  l.foldl (fun (t : State) x =>
    let h : FlitHead := { seq := 0, ack := 0, ackValid := false, nak := false, kind := 0, cls := x.cls,
                          dstWafer := leNat (x.raw.take 1), srcWafer := x.wafer,
                          dstRack := leNat ((x.raw.drop 1).take 1), srcRack := x.rack, epoch := 0 }
    ((parseBody 15 (x.raw.drop 2)).1.foldl (fun (u : State) m => u.takeMsg k h m) t).freeBuffer k x.cls)
    (s.modLink k (fun x => { x with rx := [] }))

/-- The wafer runs again (R653, R515, R192, R656): the frozen time does not count, and what was held goes on;
a freeze received meanwhile is taken as a new one (R654).
(Marks: DESIGN CHOICE, log 167; DEDUCED, log 171.) -/
def State.thawEnd (s : State) : State :=
  let d := (if s.halted then s.power.haltedAt else s.now) - s.power.frozenAt
  let s1 := (s.setF RF.ASY_FRZ_STAT_STATE 0 0 0).shiftTimes d
  let s2 := if s1.bistBusy then s1 else s1.applyHelds
  let s3 := s2.releaseDoorbells.runDeferred
  let s4 := if s3.halted then s3 else s3.startWaiting
  let s5 := (List.range 72).foldl (fun (t : State) k => t.releaseRx k) s4
  let s6 := s5.releaseAll.pSettle
  match s6.assay.freezeHeld with
  | none => s6
  | some q => (s6.modAssay (fun a => { a with freezeHeld := none })).freezeTrigger q

/-- FIELD_RESUME, R653. (Mark: DEDUCED, log 171.) -/
def execFieldResume (f : FieldId) (s : State) : Out :=
  if s.getF RF.ASY_FRZ_STAT_STATE 0 0 ≠ 3 ∨ s.stopped f.val = false then .next s
  else
    let s1 := s.setFlag RF.ASY_FLD_STAT_STOPPED f.val 0 false
    let s2 := s1.releaseAll
    if (List.range 80).any (fun g => s2.stopped g) then .next s2
    else .next s2.thawEnd

/-! ### Reads of the Assay -/

/-- A memory read of the Assay (R649): SRAM, HBM and tallies; other places have no stated contents here.
(Mark: DESIGN CHOICE, log 172.) -/
def State.assayMemory (s : State) (addr n : Nat) : List Byte :=
  let d := Direct.of addr
  let open_ := (List.range n).map (fun i => Config.freeByte (s.serial + 1) i)
  if d.wafer ≠ s.ownWafer ∨ s.getF RF.ASY_FRZ_STAT_STATE 0 0 ≠ 2 then open_
  else match d.region with
    | 0 => s.memRead d.field 0 d.off n
    | 1 => s.memRead d.field 1 d.off n
    | 3 => ((List.range (n / 64 + 2)).flatMap (fun i =>
        leBytes 64 (s.tallyWord (tallyKey d.field (d.off / 64 + i))).toNat)).drop (d.off % 64) |>.take n
    | _ => open_

/-- The data of an Assay read: a chain's contents have no stated layout. (Mark: DESIGN CHOICE, log 172.) -/
def State.assayData (s : State) (x : AssayRead) : List Byte :=
  if x.denied then List.replicate x.len 0#8
  else if x.kind = 3 then s.assayMemory x.addr x.len
  else (List.range x.len).map (fun i => Config.freeByte s.serial i)

/-- WINDOW_READ_DONE, R651: ASY_WIN_DATA fills, and BUSY clears; a denied read gives zeros and sets
DENIED. -/
def execWindowReadDone (s : State) : Out :=
  match s.assay.reading with
  | none => .next s
  | some x =>
    let d := s.assayData x
    let s1 := (List.range 256).foldl (fun (t : State) i =>
      if 8 * i < x.len then t.wr .ASY_WIN_DATA 0 i (BitVec.ofNat 64 (leNat ((d.drop (8 * i)).take 8))) else t)
      { s with serial := s.serial + 2 }
    .next (((if x.denied then s1.setFlag RF.ASY_WIN_CTL_DENIED 0 0 true else s1).setFlag
      RF.ASY_WIN_CTL_BUSY 0 0 false).modAssay
      (fun a => { a with reading := none }))

/-- TAP_MEM, R650, R652: a 64-bit address in, 32 bits of data out; it waits while the window holds the
read-out engine (R651). (Mark: DEDUCED, log 173.) -/
def execTapMem (addr : BitVec 64) (s : State) : Out :=
  .next (s.tapGate s.tapOpen (bitsOf 64 addr.toNat) (fun t =>
    if t.assay.reading.isSome then t
    else
      let u := t.tapMode 0
      if u.readDenied 0 3 addr.toNat then
        (u.setFlag RF.ASY_WIN_CTL_DENIED 0 0 true).send (.tap (bitsOf 32 0))
      else ({ u with serial := u.serial + 2 }).send (.tap (bitsOf 32 (leNat (u.assayMemory addr.toNat 4))))))

/-- BIST_RESTORE_DONE, R665: the suite ends, and what H0 held under it is applied (R664). -/
def execBistRestoreDone (failing : List FieldId) (s : State) : Out :=
  let s1 := s.bistRestore (failing.map (·.val))
  .next (if s.bistBusy && !s1.bistBusy then (s1.applyHelds.releaseDoorbells.startWaiting).releaseAll else s1)

/-! ### Time -/

/-- One nanosecond passes (R479, R480): fabric time advances, and slews at most 100 ppm.
(Marks: DESIGN CHOICE, log 9; DESIGN CHOICE, log 124.) -/
def State.advance (s : State) : State :=
  let n := s.now + 1
  let k := s.fabric.slew
  let one : Int := if n % 10000 ≠ 0 then 0 else if 0 < k then 1 else if k < 0 then -1 else 0
  { s with now := n, timeOffset := s.timeOffset + one, fabric := { s.fabric with slew := k - one } }

/-- What happens while no command waits: time passes, scrubs whose fields have all ended are finished, and
the writes of engines to register pages and tally space arrive. (Mark: DESIGN CHOICE, log 2.) -/
def tick (s : State) : Out :=
  .next ((s.advance.settleScrubs device).releaseHeld device (fun r => match r.sink with
    | .engine _ _ => true
    | _ => false))

end Sys2Proof.Machine
end

