-- ==== Sys2Proof/Machine/Dispatch.lean ====
section
/-! DEFINITION. The dispatch: one arm per command, each one call of its meaning. -/

namespace Sys2Proof.Machine

def exec (i : Instr) (s : State) : Host.Outcome State Fault Refusal :=
  match i with
  | .powerUp => Sys2Proof.Machine.execPowerUp s
  | .vinQualified low => Sys2Proof.Machine.execVinQualified low s
  | .hearthAlive strap => Sys2Proof.Machine.execHearthAlive strap s
  | .planeCharged => Sys2Proof.Machine.execPlaneCharged s
  | .holdupCheckDone cap => Sys2Proof.Machine.execHoldupCheckDone cap s
  | .reeveBootDone badA badB crcOk => Sys2Proof.Machine.execReeveBootDone badA badB crcOk s
  | .clockStageDone unclocked => Sys2Proof.Machine.execClockStageDone unclocked s
  | .hbmGroupTrained failed spares => Sys2Proof.Machine.execHbmGroupTrained failed spares s
  | .seamsTrained failed spares => Sys2Proof.Machine.execSeamsTrained failed spares s
  | .selfcheckDone l => Sys2Proof.Machine.execSelfcheckDone l s
  | .imagesLoaded => Sys2Proof.Machine.execImagesLoaded s
  | .fabricStageTimeout => Sys2Proof.Machine.execFabricStageTimeout s
  | .bootReady => Sys2Proof.Machine.execBootReady s
  | .hearthFwReportTimeout => Sys2Proof.Machine.execHearthFwReportTimeout s
  | .hearthWatchdogExpire => Sys2Proof.Machine.execHearthWatchdogExpire s
  | .perstDeassert => Sys2Proof.Machine.execPerstDeassert s
  | .perstAssert hot => Sys2Proof.Machine.execPerstAssert hot s
  | .h0Ready width speed => Sys2Proof.Machine.execH0Ready width speed s
  | .h0LinkDown => Sys2Proof.Machine.execH0LinkDown s
  | .h0ConfigRequest fn reg write => Sys2Proof.Machine.execH0ConfigRequest fn reg write s
  | .vfFlr p => Sys2Proof.Machine.execVfFlr p s
  | .pfFlr => Sys2Proof.Machine.execPfFlr s
  | .flrComplete fn => Sys2Proof.Machine.execFlrComplete fn s
  | .pwrFailAssert => Sys2Proof.Machine.execPwrFailAssert s
  | .vinSagDetect => Sys2Proof.Machine.execVinSagDetect s
  | .reeveSectionHandover bytes => Sys2Proof.Machine.execReeveSectionHandover bytes s
  | .reeveHandoverTimeout => Sys2Proof.Machine.execReeveHandoverTimeout s
  | .recordCommit => Sys2Proof.Machine.execRecordCommit s
  | .modTargetActive src => Sys2Proof.Machine.execModTargetActive src s
  | .modTargetDrowsy src => Sys2Proof.Machine.execModTargetDrowsy src s
  | .modTargetStandby src => Sys2Proof.Machine.execModTargetStandby src s
  | .modTargetOff src => Sys2Proof.Machine.execModTargetOff src s
  | .drowsyDrainDone => Sys2Proof.Machine.execDrowsyDrainDone s
  | .drainMsExpire => Sys2Proof.Machine.execDrainMsExpire s
  | .modTransitionDone => Sys2Proof.Machine.execModTransitionDone s
  | .wakeEdge n rising => Sys2Proof.Machine.execWakeEdge n rising s
  | .fldTargetOn f => Sys2Proof.Machine.execFldTargetOn f s
  | .fldTargetIdle f => Sys2Proof.Machine.execFldTargetIdle f s
  | .fldTargetRetain f => Sys2Proof.Machine.execFldTargetRetain f s
  | .fldTargetOff f => Sys2Proof.Machine.execFldTargetOff f s
  | .fldTransitionDone f => Sys2Proof.Machine.execFldTransitionDone f s
  | .pstateWrite v => Sys2Proof.Machine.execPstateWrite v s
  | .pstateClockSwitch => Sys2Proof.Machine.execPstateClockSwitch s
  | .pstateRailSettled => Sys2Proof.Machine.execPstateRailSettled s
  | .estimatorInterval acts => Sys2Proof.Machine.execEstimatorInterval acts s
  | .calibrationPeriod watts => Sys2Proof.Machine.execCalibrationPeriod watts s
  | .droopDetect f => Sys2Proof.Machine.execDroopDetect f s
  | .droopRelease f cycles => Sys2Proof.Machine.execDroopRelease f cycles s
  | .droopWindowExpire f cycles => Sys2Proof.Machine.execDroopWindowExpire f cycles s
  | .thermWarnCross f celsius => Sys2Proof.Machine.execThermWarnCross f celsius s
  | .thermalTrip kind field => Sys2Proof.Machine.execThermalTrip kind field s
  | .thermResume cool => Sys2Proof.Machine.execThermResume cool s
  | .parentLoss f => Sys2Proof.Machine.execParentLoss f s
  | .clockReparent f => Sys2Proof.Machine.execClockReparent f s
  | .clockRelock f => Sys2Proof.Machine.execClockRelock f s
  | .seamEccError f n uncorrectable victim => Sys2Proof.Machine.execSeamEccError f n uncorrectable victim s
  | .seamUeLimit f n => Sys2Proof.Machine.execSeamUeLimit f n s
  | .seamSatWindow f n cycles => Sys2Proof.Machine.execSeamSatWindow f n cycles s
  | .routeRebuild => Sys2Proof.Machine.execRouteRebuild s
  | .fieldRetire f cause => Sys2Proof.Machine.execFieldRetire f cause s
  | .damageScanDone f => Sys2Proof.Machine.execDamageScanDone f s
  | .retiredTaskStatus f => Sys2Proof.Machine.execRetiredTaskStatus f s
  | .fieldRetiredPost => Sys2Proof.Machine.execFieldRetiredPost s
  | .unitFencedPost => Sys2Proof.Machine.execUnitFencedPost s
  | .spareEnabledPost => Sys2Proof.Machine.execSpareEnabledPost s
  | .commonsAccess src addr kind tag => Sys2Proof.Machine.execCommonsAccess src addr kind tag s
  | .freshFillDone f g => Sys2Proof.Machine.execFreshFillDone f g s
  | .freshMapFault f word => Sys2Proof.Machine.execFreshMapFault f word s
  | .freshFaultZeroDone f word => Sys2Proof.Machine.execFreshFaultZeroDone f word s
  | .commonsResponse id status fresh data => Sys2Proof.Machine.execCommonsResponse id status fresh data s
  | .requestTimeout id => Sys2Proof.Machine.execRequestTimeout id s
  | .lateResponse f id => Sys2Proof.Machine.execLateResponse f id s
  | .spreadEnable => Sys2Proof.Machine.execSpreadEnable s
  | .spreadDisable => Sys2Proof.Machine.execSpreadDisable s
  | .spreadDrained => Sys2Proof.Machine.execSpreadDrained s
  | .spreadSlotWrite k entry => Sys2Proof.Machine.execSpreadSlotWrite k entry s
  | .spreadMarkLost f => Sys2Proof.Machine.execSpreadMarkLost f s
  | .sroWindowWrite p w limit v => Sys2Proof.Machine.execSroWindowWrite p w limit v s
  | .sroCopyDone p => Sys2Proof.Machine.execSroCopyDone p s
  | .threadStart f => Sys2Proof.Machine.execThreadStart f s
  | .rvInstruction f t len a4 => Sys2Proof.Machine.execRvInstruction f t len a4 s
  | .load f t a => Sys2Proof.Machine.execLoad f t a s
  | .store f t a => Sys2Proof.Machine.execStore f t a s
  | .storeAck id => Sys2Proof.Machine.execStoreAck id s
  | .amo f t a => Sys2Proof.Machine.execAmo f t a s
  | .lr f t a => Sys2Proof.Machine.execLr f t a s
  | .sc f t a => Sys2Proof.Machine.execSc f t a s
  | .fence f t pred succ => Sys2Proof.Machine.execFence f t pred succ s
  | .fenceI f t => Sys2Proof.Machine.execFenceI f t s
  | .ecall f t => Sys2Proof.Machine.execEcall f t s
  | .ebreak f t => Sys2Proof.Machine.execEbreak f t s
  | .mret f t => Sys2Proof.Machine.execMret f t s
  | .csrAccess f t a => Sys2Proof.Machine.execCsrAccess f t a s
  | .xtIssue f t a => Sys2Proof.Machine.execXtIssue f t a s
  | .xtIssueW f t a => Sys2Proof.Machine.execXtIssueW f t a s
  | .issueWRetry id => Sys2Proof.Machine.execIssueWRetry id s
  | .issueStatusReturn id remote => Sys2Proof.Machine.execIssueStatusReturn id remote s
  | .taskEnqueue ref => Sys2Proof.Machine.execTaskEnqueue ref s
  | .xtTadd f t a => Sys2Proof.Machine.execXtTadd f t a s
  | .xtTset f t a => Sys2Proof.Machine.execXtTset f t a s
  | .xtTwait f t a => Sys2Proof.Machine.execXtTwait f t a s
  | .xtTarm f t a => Sys2Proof.Machine.execXtTarm f t a s
  | .xtTread f t a => Sys2Proof.Machine.execXtTread f t a s
  | .xtTcas f t a => Sys2Proof.Machine.execXtTcas f t a s
  | .xtTchain f t a => Sys2Proof.Machine.execXtTchain f t a s
  | .xtAmofaddS f t a => Sys2Proof.Machine.execXtAmofaddS f t a s
  | .xtAmofaddBf2 f t a => Sys2Proof.Machine.execXtAmofaddBf2 f t a s
  | .xtAmoaddSatD f t a => Sys2Proof.Machine.execXtAmoaddSatD f t a s
  | .xtAmocasD f t a => Sys2Proof.Machine.execXtAmocasD f t a s
  | .xtPause f t a => Sys2Proof.Machine.execXtPause f t a s
  | .pauseExpire f t => Sys2Proof.Machine.execPauseExpire f t s
  | .xtExit f t a => Sys2Proof.Machine.execXtExit f t a s
  | .xtBell f t a => Sys2Proof.Machine.execXtBell f t a s
  | .xtKill f t a => Sys2Proof.Machine.execXtKill f t a s
  | .sroInvStart f => Sys2Proof.Machine.execSroInvStart f s
  | .sroInvDone f => Sys2Proof.Machine.execSroInvDone f s
  | .tallyOpRead home t src => Sys2Proof.Machine.execTallyOpRead home t src s
  | .tallyOpSet home t src tx v => Sys2Proof.Machine.execTallyOpSet home t src tx v s
  | .tallyOpAdd home t src tx v => Sys2Proof.Machine.execTallyOpAdd home t src tx v s
  | .tallyOpClearFlags home t src tx => Sys2Proof.Machine.execTallyOpClearFlags home t src tx s
  | .tallyOpCas home t src tx new expected => Sys2Proof.Machine.execTallyOpCas home t src tx new expected s
  | .tallyOpWait home t src tx threshold => Sys2Proof.Machine.execTallyOpWait home t src tx threshold s
  | .tallyOpArm home t src tx threshold => Sys2Proof.Machine.execTallyOpArm home t src tx threshold s
  | .tallyOpChain home t src tx threshold skipErr desc => Sys2Proof.Machine.execTallyOpChain home t src tx threshold skipErr desc s
  | .tallyEngineCompletion home t src tx ok => Sys2Proof.Machine.execTallyEngineCompletion home t src tx ok s
  | .tallyReceiptUpdate home t src tx ok => Sys2Proof.Machine.execTallyReceiptUpdate home t src tx ok s
  | .waiterSatisfy f => Sys2Proof.Machine.execWaiterSatisfy f s
  | .chainIssueRetry f => Sys2Proof.Machine.execChainIssueRetry f s
  | .tallyParked id => Sys2Proof.Machine.execTallyParked id s
  | .tallyReissue id => Sys2Proof.Machine.execTallyReissue id s
  | .tlySigEnable f size vector => Sys2Proof.Machine.execTlySigEnable f size vector s
  | .tlySigTailWrite f tail => Sys2Proof.Machine.execTlySigTailWrite f tail s
  | .tlyUseRead f => Sys2Proof.Machine.execTlyUseRead f s
  | .parishFieldsWrite p hi v => Sys2Proof.Machine.execParishFieldsWrite p hi v s
  | .parishEnable p => Sys2Proof.Machine.execParishEnable p s
  | .parishUnblock p => Sys2Proof.Machine.execParishUnblock p s
  | .parishDisable p => Sys2Proof.Machine.execParishDisable p s
  | .parishCancel p => Sys2Proof.Machine.execParishCancel p s
  | .parishCancelDone p => Sys2Proof.Machine.execParishCancelDone p s
  | .ringDoorbell p r v => Sys2Proof.Machine.execRingDoorbell p r v s
  | .sheafFetch p r hostData hostStatus => Sys2Proof.Machine.execSheafFetch p r hostData hostStatus s
  | .depWaitRetry serial d => Sys2Proof.Machine.execDepWaitRetry serial d s
  | .depSatisfied => Sys2Proof.Machine.execDepSatisfied s
  | .sheafDispatch => Sys2Proof.Machine.execSheafDispatch s
  | .copyBurstAck serial => Sys2Proof.Machine.execCopyBurstAck serial s
  | .sendBurstAck serial result => Sys2Proof.Machine.execSendBurstAck serial result s
  | .sendReceive m rack wafer serial offset data last => Sys2Proof.Machine.execSendReceive m rack wafer serial offset data last s
  | .sheafComplete serial => Sys2Proof.Machine.execSheafComplete serial s
  | .ringEnable p r v => Sys2Proof.Machine.execRingEnable p r v s
  | .ringDisable p r => Sys2Proof.Machine.execRingDisable p r s
  | .ringRqHeadWrite p r v => Sys2Proof.Machine.execRingRqHeadWrite p r v s
  | .musterGo m v => Sys2Proof.Machine.execMusterGo m v s
  | .musterFree m => Sys2Proof.Machine.execMusterFree m s
  | .musterOfferReceive rack wafer epoch handle index digest => Sys2Proof.Machine.execMusterOfferReceive rack wafer epoch handle index digest s
  | .musterOfferRepeat m => Sys2Proof.Machine.execMusterOfferRepeat m s
  | .musterFormTimeout m => Sys2Proof.Machine.execMusterFormTimeout m s
  | .qrnNop f q cycles => Sys2Proof.Machine.execQrnNop f q cycles s
  | .qrnMatmul f q => Sys2Proof.Machine.execQrnMatmul f q s
  | .arrayHoldExit f q col index length => Sys2Proof.Machine.execArrayHoldExit f q col index length s
  | .qrnHoldWindow f q => Sys2Proof.Machine.execQrnHoldWindow f q s
  | .qrnMatmulCplx f q => Sys2Proof.Machine.execQrnMatmulCplx f q s
  | .qrnMatmulWide f q => Sys2Proof.Machine.execQrnMatmulWide f q s
  | .qrnLaneMv f q => Sys2Proof.Machine.execQrnLaneMv f q s
  | .qrnTaskComplete f q cycles rows cols => Sys2Proof.Machine.execQrnTaskComplete f q cycles rows cols s
  | .unitFault f x => Sys2Proof.Machine.execUnitFault f x s
  | .sivNopTask f n cycles => Sys2Proof.Machine.execSivNopTask f n cycles s
  | .sivRun f n => Sys2Proof.Machine.execSivRun f n s
  | .sivTableImage f n => Sys2Proof.Machine.execSivTableImage f n s
  | .sivTableLoad f n => Sys2Proof.Machine.execSivTableLoad f n s
  | .sivTaskComplete f n slot cycles idle => Sys2Proof.Machine.execSivTaskComplete f n slot cycles idle s
  | .sivInstrNop f n slot => Sys2Proof.Machine.execSivInstrNop f n slot s
  | .sivLd f n slot => Sys2Proof.Machine.execSivLd f n slot s
  | .sivLdData f n slot tile => Sys2Proof.Machine.execSivLdData f n slot tile s
  | .sivSt f n slot => Sys2Proof.Machine.execSivSt f n slot s
  | .sivFill f n slot => Sys2Proof.Machine.execSivFill f n slot s
  | .sivArg f n slot => Sys2Proof.Machine.execSivArg f n slot s
  | .sivAdd f n slot => Sys2Proof.Machine.execSivAdd f n slot s
  | .sivSub f n slot => Sys2Proof.Machine.execSivSub f n slot s
  | .sivMul f n slot => Sys2Proof.Machine.execSivMul f n slot s
  | .sivFma f n slot => Sys2Proof.Machine.execSivFma f n slot s
  | .sivMax f n slot => Sys2Proof.Machine.execSivMax f n slot s
  | .sivMin f n slot => Sys2Proof.Machine.execSivMin f n slot s
  | .sivAbs f n slot => Sys2Proof.Machine.execSivAbs f n slot s
  | .sivNeg f n slot => Sys2Proof.Machine.execSivNeg f n slot s
  | .sivRcp f n slot => Sys2Proof.Machine.execSivRcp f n slot s
  | .sivDiv f n slot => Sys2Proof.Machine.execSivDiv f n slot s
  | .sivSqrt f n slot => Sys2Proof.Machine.execSivSqrt f n slot s
  | .sivCmplt f n slot => Sys2Proof.Machine.execSivCmplt f n slot s
  | .sivCmple f n slot => Sys2Proof.Machine.execSivCmple f n slot s
  | .sivCmpeq f n slot => Sys2Proof.Machine.execSivCmpeq f n slot s
  | .sivSelect f n slot => Sys2Proof.Machine.execSivSelect f n slot s
  | .sivAnd f n slot => Sys2Proof.Machine.execSivAnd f n slot s
  | .sivOr f n slot => Sys2Proof.Machine.execSivOr f n slot s
  | .sivXor f n slot => Sys2Proof.Machine.execSivXor f n slot s
  | .sivShl f n slot => Sys2Proof.Machine.execSivShl f n slot s
  | .sivShra f n slot => Sys2Proof.Machine.execSivShra f n slot s
  | .sivShrl f n slot => Sys2Proof.Machine.execSivShrl f n slot s
  | .sivCvtn f n slot => Sys2Proof.Machine.execSivCvtn f n slot s
  | .sivCvtw f n slot => Sys2Proof.Machine.execSivCvtw f n slot s
  | .sivLut f n slot => Sys2Proof.Machine.execSivLut f n slot s
  | .sivRrow f n slot => Sys2Proof.Machine.execSivRrow f n slot s
  | .sivRcol f n slot => Sys2Proof.Machine.execSivRcol f n slot s
  | .sivShfl f n slot => Sys2Proof.Machine.execSivShfl f n slot s
  | .sivPerm f n slot => Sys2Proof.Machine.execSivPerm f n slot s
  | .crnEnable f => Sys2Proof.Machine.execCrnEnable f s
  | .crnDisable f => Sys2Proof.Machine.execCrnDisable f s
  | .crnNop f => Sys2Proof.Machine.execCrnNop f s
  | .crnOpen f => Sys2Proof.Machine.execCrnOpen f s
  | .crnClose f => Sys2Proof.Machine.execCrnClose f s
  | .crnFork f => Sys2Proof.Machine.execCrnFork f s
  | .crnStep f => Sys2Proof.Machine.execCrnStep f s
  | .poolQueryReply f w g a => Sys2Proof.Machine.execPoolQueryReply f w g a s
  | .poolAgentRequest f r => Sys2Proof.Machine.execPoolAgentRequest f r s
  | .crnAppend f => Sys2Proof.Machine.execCrnAppend f s
  | .crnGather f => Sys2Proof.Machine.execCrnGather f s
  | .crnTruncate f => Sys2Proof.Machine.execCrnTruncate f s
  | .crnSpill f => Sys2Proof.Machine.execCrnSpill f s
  | .granaryWriteAck f pair bad => Sys2Proof.Machine.execGranaryWriteAck f pair bad s
  | .crnRecall f => Sys2Proof.Machine.execCrnRecall f s
  | .granaryReadDone f pair data bad => Sys2Proof.Machine.execGranaryReadDone f pair data bad s
  | .granaryTimeout f pair => Sys2Proof.Machine.execGranaryTimeout f pair s
  | .crnTaskComplete f cycles => Sys2Proof.Machine.execCrnTaskComplete f cycles s
  | .crnReclaimGo f w g => Sys2Proof.Machine.execCrnReclaimGo f w g s
  | .crnReclaimDone f => Sys2Proof.Machine.execCrnReclaimDone f s
  | .scrNop f => Sys2Proof.Machine.execScrNop f s
  | .voxelize f => Sys2Proof.Machine.execVoxelize f s
  | .rulebook f => Sys2Proof.Machine.execRulebook f s
  | .scrGather f => Sys2Proof.Machine.execScrGather f s
  | .scatter f => Sys2Proof.Machine.execScatter f s
  | .scrTaskComplete f cycles => Sys2Proof.Machine.execScrTaskComplete f cycles s
  | .lomNop f cycles => Sys2Proof.Machine.execLomNop f cycles s
  | .sessionInit f enc => Sys2Proof.Machine.execSessionInit f enc s
  | .decode f => Sys2Proof.Machine.execDecode f s
  | .encode f => Sys2Proof.Machine.execEncode f s
  | .convert f => Sys2Proof.Machine.execConvert f s
  | .frameBudgetExpire f nonframe => Sys2Proof.Machine.execFrameBudgetExpire f nonframe s
  | .frameCommit f r => Sys2Proof.Machine.execFrameCommit f r s
  | .loomJobComplete f enc consumed cycles => Sys2Proof.Machine.execLoomJobComplete f enc consumed cycles s
  | .hbmEccError f off kind pc bitPos => Sys2Proof.Machine.execHbmEccError f off kind pc bitPos s
  | .stackLoss f cause pc lane => Sys2Proof.Machine.execStackLoss f cause pc lane s
  | .patrolStep f => Sys2Proof.Machine.execPatrolStep f s
  | .refresh f bank => Sys2Proof.Machine.execRefresh f bank s
  | .hbmTempCross f temp => Sys2Proof.Machine.execHbmTempCross f temp s
  | .scrubMark f => Sys2Proof.Machine.execScrubMark f s
  | .scrubOverwrite f => Sys2Proof.Machine.execScrubOverwrite f s
  | .scrubDone f verified => Sys2Proof.Machine.execScrubDone f verified s
  | .granaryEnable => Sys2Proof.Machine.execGranaryEnable s
  | .granaryDisable => Sys2Proof.Machine.execGranaryDisable s
  | .s0EnumDone cause width speed => Sys2Proof.Machine.execS0EnumDone cause width speed s
  | .s0LinkDown => Sys2Proof.Machine.execS0LinkDown s
  | .linkTargetDown k => Sys2Proof.Machine.execLinkTargetDown k s
  | .linkTargetUp k => Sys2Proof.Machine.execLinkTargetUp k s
  | .linkTargetQuiet k => Sys2Proof.Machine.execLinkTargetQuiet k s
  | .linkTargetTest k => Sys2Proof.Machine.execLinkTargetTest k s
  | .linkSignalDetect k => Sys2Proof.Machine.execLinkSignalDetect k s
  | .linkPhyTrained k => Sys2Proof.Machine.execLinkPhyTrained k s
  | .linkTrainTimeout k => Sys2Proof.Machine.execLinkTrainTimeout k s
  | .identSend k => Sys2Proof.Machine.execIdentSend k s
  | .identReceive k stamp echo hold block => Sys2Proof.Machine.execIdentReceive k stamp echo hold block s
  | .identTimeout k => Sys2Proof.Machine.execIdentTimeout k s
  | .lossOfSignal k => Sys2Proof.Machine.execLossOfSignal k s
  | .fecLockLost k => Sys2Proof.Machine.execFecLockLost k s
  | .ucwLimitExceeded k n => Sys2Proof.Machine.execUcwLimitExceeded k n s
  | .dataFlitReceive k raw => Sys2Proof.Machine.execDataFlitReceive k raw s
  | .ackFlitReceive k ack valid nak freed0 freed1 freed2 freed3 => Sys2Proof.Machine.execAckFlitReceive k ack valid nak freed0 freed1 freed2 freed3 s
  | .quietReqReceive k => Sys2Proof.Machine.execQuietReqReceive k s
  | .quietAckReceive k => Sys2Proof.Machine.execQuietAckReceive k s
  | .wakeReceive k => Sys2Proof.Machine.execWakeReceive k s
  | .downNoticeReceive k => Sys2Proof.Machine.execDownNoticeReceive k s
  | .testReqReceive k => Sys2Proof.Machine.execTestReqReceive k s
  | .testAckReceive k => Sys2Proof.Machine.execTestAckReceive k s
  | .ctrlRepeat k => Sys2Proof.Machine.execCtrlRepeat k s
  | .ackDue k => Sys2Proof.Machine.execAckDue k s
  | .replayTimeout k => Sys2Proof.Machine.execReplayTimeout k s
  | .flitTransmit k cls wafer rack body => Sys2Proof.Machine.execFlitTransmit k cls wafer rack body s
  | .bucketReturn p b => Sys2Proof.Machine.execBucketReturn p b s
  | .e2eTrackedRequest f rack src txseq tOrig req => Sys2Proof.Machine.execE2eTrackedRequest f rack src txseq tOrig req s
  | .e2eFilterRelease f => Sys2Proof.Machine.execE2eFilterRelease f s
  | .quietReplayEmpty k => Sys2Proof.Machine.execQuietReplayEmpty k s
  | .linkWakeDone k => Sys2Proof.Machine.execLinkWakeDone k s
  | .linkTxWrite k swing pre post => Sys2Proof.Machine.execLinkTxWrite k swing pre post s
  | .swingStep k => Sys2Proof.Machine.execSwingStep k s
  | .prbsCtlWrite k side v => Sys2Proof.Machine.execPrbsCtlWrite k side v s
  | .prbsClear k => Sys2Proof.Machine.execPrbsClear k s
  | .prbsLock k => Sys2Proof.Machine.execPrbsLock k s
  | .prbsLockLoss k => Sys2Proof.Machine.execPrbsLockLoss k s
  | .prbsBerUpdate k errs units => Sys2Proof.Machine.execPrbsBerUpdate k errs units s
  | .portCtlWrite p mask enable => Sys2Proof.Machine.execPortCtlWrite p mask enable s
  | .discSend => Sys2Proof.Machine.execDiscSend s
  | .discAnswerReceive words => Sys2Proof.Machine.execDiscAnswerReceive words s
  | .discRxRelease => Sys2Proof.Machine.execDiscRxRelease s
  | .helloReceive src tag session target anchor => Sys2Proof.Machine.execHelloReceive src tag session target anchor s
  | .mapReceive src tag session target part parts gen records => Sys2Proof.Machine.execMapReceive src tag session target part parts gen records s
  | .assignReceive src tag session target rack number policy => Sys2Proof.Machine.execAssignReceive src tag session target rack number policy s
  | .joinReceive src tag session target mask master epochs => Sys2Proof.Machine.execJoinReceive src tag session target mask master epochs s
  | .fmWaitExpire => Sys2Proof.Machine.execFmWaitExpire s
  | .reachReceive k vector => Sys2Proof.Machine.execReachReceive k vector s
  | .spreadEntryMove d e => Sys2Proof.Machine.execSpreadEntryMove d e s
  | .withdrawReceive n epoch cause => Sys2Proof.Machine.execWithdrawReceive n epoch cause s
  | .autoWithdrawExpire n => Sys2Proof.Machine.execAutoWithdrawExpire n s
  | .timeSyncSend => Sys2Proof.Machine.execTimeSyncSend s
  | .timeSyncReceive k tTx corr master => Sys2Proof.Machine.execTimeSyncReceive k tTx corr master s
  | .syncMissing => Sys2Proof.Machine.execSyncMissing s
  | .holdoverExpire => Sys2Proof.Machine.execHoldoverExpire s
  | .ppsEdge => Sys2Proof.Machine.execPpsEdge s
  | .bar2Access fn offset op => Sys2Proof.Machine.execBar2Access fn offset op s
  | .barReadDeadline id => Sys2Proof.Machine.execBarReadDeadline id s
  | .dmaDoorbell fn q v => Sys2Proof.Machine.execDmaDoorbell fn q v s
  | .dmaDescFetch fn q a refused => Sys2Proof.Machine.execDmaDescFetch fn q a refused s
  | .dmaDescComplete fn q => Sys2Proof.Machine.execDmaDescComplete fn q s
  | .hostCompletionTimeout tag => Sys2Proof.Machine.execHostCompletionTimeout tag s
  | .hostCompletionArrive tag a => Sys2Proof.Machine.execHostCompletionArrive tag a s
  | .tagDrainExpire fn => Sys2Proof.Machine.execTagDrainExpire fn s
  | .msixUnmask fn entry mask => Sys2Proof.Machine.execMsixUnmask fn entry mask s
  | .sheafTimeout serial => Sys2Proof.Machine.execSheafTimeout serial s
  | .bellIntervalEnd f => Sys2Proof.Machine.execBellIntervalEnd f s
  | .recoveryGo => Sys2Proof.Machine.execRecoveryGo s
  | .recoveryStart engines crofters => Sys2Proof.Machine.execRecoveryStart engines crofters s
  | .suspectReplayStart f u => Sys2Proof.Machine.execSuspectReplayStart f u s
  | .suspectCheckpoint f u => Sys2Proof.Machine.execSuspectCheckpoint f u s
  | .replayBoundExpire f u cycles => Sys2Proof.Machine.execReplayBoundExpire f u cycles s
  | .resetEngine f cls unit => Sys2Proof.Machine.execResetEngine f cls unit s
  | .resetCrofter f c => Sys2Proof.Machine.execResetCrofter f c s
  | .resetField f => Sys2Proof.Machine.execResetField f s
  | .resetParish p => Sys2Proof.Machine.execResetParish p s
  | .resetWaferWarm key => Sys2Proof.Machine.execResetWaferWarm key s
  | .resetWaferCold key => Sys2Proof.Machine.execResetWaferCold key s
  | .resetDone spine lost => Sys2Proof.Machine.execResetDone spine lost s
  | .abortReceive handle wafer rack status epoch wave => Sys2Proof.Machine.execAbortReceive handle wafer rack status epoch wave s
  | .reeveGetStatus src => Sys2Proof.Machine.execReeveGetStatus src s
  | .reeveGetNonce src => Sys2Proof.Machine.execReeveGetNonce src s
  | .tenantBind src p tag epoch physical digest => Sys2Proof.Machine.execTenantBind src p tag epoch physical digest s
  | .tenantRelease src p physical => Sys2Proof.Machine.execTenantRelease src p physical s
  | .fieldClearDone f zeroOk => Sys2Proof.Machine.execFieldClearDone f zeroOk s
  | .assayGrant src p sg => Sys2Proof.Machine.execAssayGrant src p sg s
  | .assayRevoke src p => Sys2Proof.Machine.execAssayRevoke src p s
  | .fwStage src cls version imageOk sg => Sys2Proof.Machine.execFwStage src cls version imageOk sg s
  | .fwActivate src => Sys2Proof.Machine.execFwActivate src s
  | .lifecycle src target who ownerKey sg => Sys2Proof.Machine.execLifecycle src target who ownerKey sg s
  | .debugUnlock src sg => Sys2Proof.Machine.execDebugUnlock src sg s
  | .returnToService src sg => Sys2Proof.Machine.execReturnToService src sg s
  | .spdmGetVersion src => Sys2Proof.Machine.execSpdmGetVersion src s
  | .spdmGetCapabilities src => Sys2Proof.Machine.execSpdmGetCapabilities src s
  | .spdmNegotiateAlgorithms src asym hash => Sys2Proof.Machine.execSpdmNegotiateAlgorithms src asym hash s
  | .spdmGetDigests src => Sys2Proof.Machine.execSpdmGetDigests src s
  | .spdmGetCertificate src slot offset length => Sys2Proof.Machine.execSpdmGetCertificate src slot offset length s
  | .spdmChallenge src slot nonce => Sys2Proof.Machine.execSpdmChallenge src slot nonce s
  | .spdmGetMeasurements src index nonce => Sys2Proof.Machine.execSpdmGetMeasurements src index nonce s
  | .entropyStartupDone => Sys2Proof.Machine.execEntropyStartupDone s
  | .entropyHealthFail => Sys2Proof.Machine.execEntropyHealthFail s
  | .drbgReseed => Sys2Proof.Machine.execDrbgReseed s
  | .nonceExpire => Sys2Proof.Machine.execNonceExpire s
  | .reeveWatchdogRestart => Sys2Proof.Machine.execReeveWatchdogRestart s
  | .rngDataRead => Sys2Proof.Machine.execRngDataRead s
  | .freezePin => Sys2Proof.Machine.execFreezePin s
  | .freezeRegister => Sys2Proof.Machine.execFreezeRegister s
  | .freezeMessageReceive wafer id epoch => Sys2Proof.Machine.execFreezeMessageReceive wafer id epoch s
  | .freezeArrive f => Sys2Proof.Machine.execFreezeArrive f s
  | .freezeComplete => Sys2Proof.Machine.execFreezeComplete s
  | .thawRegister => Sys2Proof.Machine.execThawRegister s
  | .thawMessageReceive wafer id epoch => Sys2Proof.Machine.execThawMessageReceive wafer id epoch s
  | .fieldResume f => Sys2Proof.Machine.execFieldResume f s
  | .windowGo field chain kind => Sys2Proof.Machine.execWindowGo field chain kind s
  | .windowReadDone => Sys2Proof.Machine.execWindowReadDone s
  | .tapReset => Sys2Proof.Machine.execTapReset s
  | .tapBypass data => Sys2Proof.Machine.execTapBypass data s
  | .tapIdcode => Sys2Proof.Machine.execTapIdcode s
  | .tapSamplePreload load captured => Sys2Proof.Machine.execTapSamplePreload load captured s
  | .tapFreeze update => Sys2Proof.Machine.execTapFreeze update s
  | .tapThaw update => Sys2Proof.Machine.execTapThaw update s
  | .tapSel v => Sys2Proof.Machine.execTapSel v s
  | .tapChain => Sys2Proof.Machine.execTapChain s
  | .tapMem addr => Sys2Proof.Machine.execTapMem addr s
  | .tapStat => Sys2Proof.Machine.execTapStat s
  | .tapMbx => Sys2Proof.Machine.execTapMbx s
  | .tapExtest load captured => Sys2Proof.Machine.execTapExtest load captured s
  | .tapClamp data => Sys2Proof.Machine.execTapClamp data s
  | .tapHighz data => Sys2Proof.Machine.execTapHighz data s
  | .tapExtestPulse load captured => Sys2Proof.Machine.execTapExtestPulse load captured s
  | .tapExtestTrain load captured => Sys2Proof.Machine.execTapExtestTrain load captured s
  | .tapBisctl v => Sys2Proof.Machine.execTapBisctl v s
  | .bistGo origin suite h0Loop fixture extLoop => Sys2Proof.Machine.execBistGo origin suite h0Loop fixture extLoop s
  | .bistAbort => Sys2Proof.Machine.execBistAbort s
  | .bistSetupDone => Sys2Proof.Machine.execBistSetupDone s
  | .bistTestDone faults => Sys2Proof.Machine.execBistTestDone faults s
  | .bistRestoreDone failing => Sys2Proof.Machine.execBistRestoreDone failing s
  | .crierRead addr => Sys2Proof.Machine.execCrierRead addr s
  | .crierWrite addr data rdLow => Sys2Proof.Machine.execCrierWrite addr data rdLow s
  | .crierMailboxPost data => Sys2Proof.Machine.execCrierMailboxPost data s
  | .mirrorPost g => Sys2Proof.Machine.execMirrorPost g s
  | .mirrorRoll => Sys2Proof.Machine.execMirrorRoll s
  | .sbSetModule src tag arg0 arg1 data => Sys2Proof.Machine.execSbSetModule src tag arg0 arg1 data s
  | .sbSetPstate src tag arg0 arg1 data => Sys2Proof.Machine.execSbSetPstate src tag arg0 arg1 data s
  | .sbSetField src tag arg0 arg1 data => Sys2Proof.Machine.execSbSetField src tag arg0 arg1 data s
  | .sbSetCapWafer src tag arg0 arg1 data => Sys2Proof.Machine.execSbSetCapWafer src tag arg0 arg1 data s
  | .sbSetCapParish src tag arg0 arg1 data => Sys2Proof.Machine.execSbSetCapParish src tag arg0 arg1 data s
  | .sbSetWakeArm src tag arg0 arg1 data => Sys2Proof.Machine.execSbSetWakeArm src tag arg0 arg1 data s
  | .sbThermResume src tag arg0 arg1 data cool => Sys2Proof.Machine.execSbThermResume src tag arg0 arg1 data cool s
  | .sbGpioWrite src tag arg0 arg1 data => Sys2Proof.Machine.execSbGpioWrite src tag arg0 arg1 data s
  | .gpioIrqDetect n level => Sys2Proof.Machine.execGpioIrqDetect n level s
  | .gpioOutSet m => Sys2Proof.Machine.execGpioOutSet m s
  | .gpioOutClr m => Sys2Proof.Machine.execGpioOutClr m s
  | .gpioLockKeyWrite src key => Sys2Proof.Machine.execGpioLockKeyWrite src key s
  | .gpioLockSetWrite src mask => Sys2Proof.Machine.execGpioLockSetWrite src mask s
  | .i2cGo n addr read len => Sys2Proof.Machine.execI2cGo n addr read len s
  | .i2cDone n nack data => Sys2Proof.Machine.execI2cDone n nack data s
  | .tachUpdate k rpm => Sys2Proof.Machine.execTachUpdate k rpm s
  | .mctpSetEndpointId pec eid => Sys2Proof.Machine.execMctpSetEndpointId pec eid s
  | .mctpGetEndpointId pec => Sys2Proof.Machine.execMctpGetEndpointId pec s
  | .mctpGetEndpointUuid pec => Sys2Proof.Machine.execMctpGetEndpointUuid pec s
  | .mctpGetVersionSupport pec => Sys2Proof.Machine.execMctpGetVersionSupport pec s
  | .mctpGetMsgTypeSupport pec => Sys2Proof.Machine.execMctpGetMsgTypeSupport pec s
  | .mctpGetVendorSupport pec => Sys2Proof.Machine.execMctpGetVendorSupport pec s
  | .pldmGetTid pec => Sys2Proof.Machine.execPldmGetTid pec s
  | .pldmSetTid pec tid => Sys2Proof.Machine.execPldmSetTid pec tid s
  | .pldmGetVersion pec type_ => Sys2Proof.Machine.execPldmGetVersion pec type_ s
  | .pldmGetTypes pec => Sys2Proof.Machine.execPldmGetTypes pec s
  | .pldmGetCommands pec type_ => Sys2Proof.Machine.execPldmGetCommands pec type_ s
  | .pldmGetPdrRepoInfo pec => Sys2Proof.Machine.execPldmGetPdrRepoInfo pec s
  | .pldmGetPdr pec record => Sys2Proof.Machine.execPldmGetPdr pec record s
  | .pldmGetSensorReading pec id => Sys2Proof.Machine.execPldmGetSensorReading pec id s
  | .pldmGetStateSensors pec id => Sys2Proof.Machine.execPldmGetStateSensors pec id s
  | .pldmGetFruMetadata pec => Sys2Proof.Machine.execPldmGetFruMetadata pec s
  | .pldmGetFruTable pec => Sys2Proof.Machine.execPldmGetFruTable pec s
  | .irqLineRise place => Sys2Proof.Machine.execIrqLineRise place s
  | .irqHoldoffExpire => Sys2Proof.Machine.execIrqHoldoffExpire s
  | .irqRearm => Sys2Proof.Machine.execIrqRearm s
  | .errCaptureClear place writeErr more => Sys2Proof.Machine.execErrCaptureClear place writeErr more s
  | .registerWrite path op => Sys2Proof.Machine.execRegisterWrite path op s
  | .cmdAddrParityError f pc => Sys2Proof.Machine.execCmdAddrParityError f pc s
  | .holdupExhausted => Sys2Proof.Machine.execHoldupExhausted s
  | .waferFault clockEntry => Sys2Proof.Machine.execWaferFault clockEntry s
  | .pwrFailGlitch => Sys2Proof.Machine.execPwrFailGlitch s
  | .atsInvalidateRequest fn => Sys2Proof.Machine.execAtsInvalidateRequest fn s
  | .escalationWindowSlide => Sys2Proof.Machine.execEscalationWindowSlide s
  | .ppsOutEdge => Sys2Proof.Machine.execPpsOutEdge s

end Sys2Proof.Machine
end

