-- ==== Sys2Proof/Safety.lean ====
section
/-! DEFINITION. What statements about the module are said in: which registers a command leaves, when a hardware
thread may run its next instruction, the canonical form of the state, and a safe run. -/

namespace Sys2Proof.Machine

/-- No register outside the list differs between two states. -/
def State.onlyRegs (l : List Reg) (s t : State) : Prop :=
  ∀ (r : Reg) (i n : Nat), r ∉ l → t.rd r i n = s.rd r i n

/-- The next instruction of a thread runs: the thread issues, no failed store waits to be reported, and its
fetch is admitted (R102, R103, R132, R139). -/
def State.mayRun (s : State) (f t : Nat) : Bool :=
  s.threadRuns f t && decide ((s.thread f t).storeFaults = []) && !wideAddr (s.thread f t).pc &&
    (s.thread f t).pmpOk (s.thread f t).pc.toNat 2 4

/-- No hardware thread but one differs between two states. -/
def State.onlyThread (f t : Nat) (s s' : State) : Prop :=
  ∀ g u : Nat, threadKey g u ≠ threadKey f t → s'.thread g u = s.thread g u

/-- One more instruction retired (instret, R105). -/
def Thread.counted (x : Thread) : Thread := x.setCsr csrInstret (x.csrv csrInstret + 1#64)

/-- The thread past an instruction of `n` bytes that retired. -/
def Thread.retired (x : Thread) (n : Nat) : Thread := (x.advance n).counted

/-- An access of `n` bytes is admitted to a place in SRAM or HBM and performed there at once: no router, no fill
and no zeroing holds it, and it meets no poison; a write meets no fresh granule (R58, R69, R86, R88, R97). -/
def State.reachesPlain (s : State) (src : Source) (addr n : Nat) (isWrite atomic : Bool) (g region off : Nat) :
    Bool :=
  decide (s.locate src addr n isWrite atomic = .at g region off) && decide (region ≤ 1) &&
    !s.commons.spreadDrain.contains s.commons.nextReq && (s.fillAt g region off n).isNone &&
    !s.zeroing g region off && (!isWrite || !s.mem.touchesFresh g region off n) && !s.mem.poisoned g region off n

/-- An atomic or a store-conditional of a thread may be performed at its home now (R79, R92, R102, R103). -/
def State.atomicReady (s : State) (f t : Nat) (ea : Word) (n need : Nat) (rl : Bool) : Bool :=
  s.mayRun f t && !(rl && s.unperformed f t) && !s.eaBad f t ea n need && decide (ea.toNat % n = 0)

/-- A tally instruction of a thread of field `f` reaches tally `k` now, and no earlier request of its
transaction id is remembered there (R48, R58, R69, R146, R158). -/
def State.tallyReady (s : State) (f t : Nat) (ea : Word) (need k : Nat) (tracked : Bool) : Bool :=
  s.mayRun f t && !s.eaBad f t ea 8 need && decide (ea.toNat % 8 = 0) &&
    (match s.locate (s.threadSource f) ea.toNat 8 false false with
      | .at g region off =>
        decide (region = 3) && decide (off % 64 = 0) && decide (k = tallyKey g (off / 64)) &&
          decide (g < 80) && decide (off / 64 < 4096) &&
          (decide (g = f) || (decide (s.getF RF.WFR_SEAM_GEN_GEN 0 0 % 2 = 0) &&
            (!tracked || ((s.dupResult g (some (s.newTx f).1)).isNone &&
              s.entries.all (fun x => x.tx != some (s.newTx f).1)))))
      | _ => false)

/-- A descriptor offered to a field is accepted into the queue of unit `u`: the field is in service, powered and
admits the source, and the unit it names, or for UNIT 0xF the first unit in logical order, is not fenced and has
room (R127, R129, R530). -/
def State.enqueueReady (s : State) (f : Nat) (desc : List Byte) (src : Source) (u : Nat) : Bool :=
  s.inService f && s.admits src f 0 0 0 && decide (s.fieldPower f = 0) &&
    (if descUnit desc = 15 then
      decide (((s.candidates f (descClass desc)).filter (fun v => !s.fenced f v)).find? (fun v => s.unitRoom f v) =
        some u)
    else decide (s.unitOf f (descClass desc) (descUnit desc) = some u) && !s.fenced f u && s.unitRoom f u)

/-- A context past the instruction it issued (R267). -/
def SieveCtx.advanced (c : SieveCtx) : SieveCtx :=
  if c.pc + 1 < pbInstrs c.params then { c with pc := c.pc + 1 } else { c with pc := 0, iter := c.iter + 1 }

/-- Context `c` of a sieve, in slot `slot` and running task `t`, issues its next instruction `w`, whose opcode is
`op`: the unit runs and no tile of the instruction waits for a load (R267). -/
def State.sieveIssues (s : State) (f n slot op : Nat) (c : SieveCtx) (t : EngTask) (w : Nat) : Bool :=
  decide ((s.sieve f n).ctx slot = some c) && decide (s.sTask f n c = some t) &&
    decide (w = pbInstr c.params c.pc) && decide (iOp w = op) && s.unitRuns f (unitSieve n) && !tilesPending c w

/-- The codes of an element-wise instruction: `g` on the elements of SA, of SB after its broadcast and of SC. -/
def State.laneCodes (s : State) (f n : Nat) (c : SieveCtx) (w : Nat)
    (g : Nat → Nat → Nat → Nat → Nat → Nat → SRes) : List Nat :=
  let wide := cfWide (iCf w)
  let a := s.sElems f n c wide (iSa w)
  let b := broadcast wide w (s.sElems f n c wide (iSb w))
  let d := s.sElems f n c wide (iSc w)
  (List.range (lanesOf wide)).map (fun i => (g w s.serial i (a.getD i 0) (b.getD i 0) (d.getD i 0)).code)

/-- After an instruction of a sieve's context: its destination tile holds the codes, the context is past the
instruction, and the issue cycles counted its occupancy. -/
def State.sieveWrote (s : State) (f n slot : Nat) (c : SieveCtx) (w occ : Nat) (wide : Bool) (codes : List Nat)
    (s' : State) : Bool :=
  decide ((s'.sieve f n).tile (c.base + iDt w) = tileWords wide codes) &&
    decide ((s'.sieve f n).ctx slot = some c.advanced) &&
    decide (s'.getF RF.SIV_ISSUE_CYCLES_COUNT (f * 2 + n) 0 =
      wrapAdd RF.SIV_ISSUE_CYCLES_COUNT.w (s.getF RF.SIV_ISSUE_CYCLES_COUNT (f * 2 + n) 0) occ)

/-- No tile register of a sieve but one differs between two states. -/
def State.onlyTile (f n t : Nat) (s s' : State) : Prop :=
  ∀ u, u ≠ t → (s'.sieve f n).tile u = (s.sieve f n).tile u

/-- Unit `u` of a field, with nothing running, may start the task `h` at the head of its queue, whose opcode is `op`
and whose outcome is open; `rest` is the queue behind it. -/
def State.headStarts (s : State) (f u op : Nat) (h : EngTask) (rest : List EngTask) : Bool :=
  s.unitRuns f u && decide ((s.engine f u).running = []) && decide ((s.engine f u).queue = h :: rest) &&
    decide (descOpcode h.desc = op) && decide (h.status = none)

/-- Exactly that task runs now, started at `now`, and the queue is what stood behind it. -/
def State.startedAlone (s' : State) (f u now : Nat) (h : EngTask) (rest : List EngTask) : Bool :=
  decide ((s'.engine f u).queue = rest) &&
    decide ((s'.engine f u).running.map (fun t => (t.serial, t.start)) = [(h.serial, some now)])

/-- A running task of a unit is settled with a status and a DETAIL. -/
def State.settledAs (s' : State) (f u serial st d : Nat) : Bool :=
  (s'.engine f u).running.any (fun t => t.serial == serial && t.status == some st && t.detail == d)

/-- Every running task of a unit is settled. -/
def State.allSettled (s' : State) (f u : Nat) : Bool := (s'.engine f u).running.all (fun t => t.status.isSome)

/-- What the start of a cairn task does in every case: NOT_READY while ENABLE is 0, BODY_INVALID with the lowest
reason, and, for a task on a sequence (`live`), SEQ_STALE where the sequence is not open (R294, R299, R301). -/
def State.cairnStarted (s : State) (f : Nat) (h : EngTask) (rest : List EngTask) (live : Bool) (s' : State) : Bool :=
  s'.startedAlone f unitCairn s.now h rest &&
    (if s.flag RF.CRN_CTL_ENABLE f 0 = false then
      (s'.engine f unitCairn).running.all (fun t => t.status == some stNotReady)
    else if s.cBodyReason f h.desc ≠ 0 then
      s'.settledAs f unitCairn h.serial stBodyInvalid (s.cBodyReason f h.desc)
    else if live && !s.seqLive f (cSeq h.desc) then
      s'.settledAs f unitCairn h.serial stSeqStale (cSeq h.desc)
    else true)

/-- The body checks of a cairn task are met: ENABLE, the body, and a live sequence (R294, R299). -/
def State.cairnReady (s : State) (f : Nat) (h : EngTask) (live : Bool) : Bool :=
  s.flag RF.CRN_CTL_ENABLE f 0 && decide (s.cBodyReason f h.desc = 0) && (!live || s.seqLive f (cSeq h.desc))

/-- What the start of a scree task does: BODY_INVALID with the lowest reason, and in every case the task is settled
when its work is computed (R349). -/
def State.screeStarted (s : State) (f : Nat) (h : EngTask) (rest : List EngTask) (s' : State) : Bool :=
  s'.startedAlone f unitScree s.now h rest && s'.allSettled f unitScree &&
    (decide (scDescReason h.desc = 0) || s'.settledAs f unitScree h.serial stBodyInvalid (scDescReason h.desc))

/-- The first task of a pipe of the loom may start: the pipe is free, the opcode is `op` (R363). -/
def State.pipeStarts (s : State) (f op : Nat) (enc : Bool) (t : EngTask) : Bool :=
  s.unitRuns f unitLoom && !s.lBusy f enc && decide (s.lHead f enc = some t) && decide (descOpcode t.desc = op) &&
    decide (t.status = none)

/-- That task has left the queue and runs last; with an invalid body it is settled so (R384). -/
def State.pipeStarted (s : State) (f : Nat) (t : EngTask) (s' : State) : Bool :=
  decide ((s'.engine f unitLoom).queue = (s.engine f unitLoom).queue.filter (fun x => x.serial != t.serial)) &&
    decide ((s'.engine f unitLoom).running.map (·.serial) =
      (s.engine f unitLoom).running.map (·.serial) ++ [t.serial]) &&
    (decide (lDescReason t.desc = 0) ||
      s'.settledAs f unitLoom t.serial stBodyInvalid (lDescReason t.desc))

/-- The running task with a serial is settled. -/
def State.settledTask (s' : State) (f u serial : Nat) : Bool :=
  (s'.engine f u).running.any (fun t => t.serial == serial && t.status.isSome)

/-- A link is DOWN with a cause, its buffers empty and its counters fresh (R437, R449). -/
def State.wentDown (s : State) (k cause : Nat) (s' : State) : Bool :=
  decide (s'.linkState k = lsDown) && decide (s'.getF RF.VRN_LNK_STATE_CAUSE k 0 = cause) &&
    decide (s'.link k = { idleLink with since := s.now }) && !s'.flag RF.VRN_LNK_TX_BUSY k 0 &&
    decide (s'.getF RF.VRN_LNK_STATE_DOWNS k 0 =
      min (s.getF RF.VRN_LNK_STATE_DOWNS k 0 + 1) (2 ^ RF.VRN_LNK_STATE_DOWNS.w - 1))

/-- A body that a link may put into a new DATA flit: nothing waits to be resent, every message has its bucket on the
link and may use it, and a credit and replay space are there (R426, R431, R439, R463). -/
def State.bodyGoes (s : State) (k cls : Nat) (body : List Byte) (msgs : List (List Byte)) : Bool :=
  decide (body.length = 240) && !(s.link k).resend.any (fun r => decide (s.msgAge r.msg ≤ 25000)) &&
    decide (parseBody 15 body = (msgs, false)) && !msgs.isEmpty &&
    msgs.all (fun m => match s.portOfLink k with
      | some p => decide (s.bucketLink p (bucketOf (msgAddr m)) = some k)
      | none => false) &&
    (decide (s.linkClass k ≠ 3) || msgs.all (fun m => decide (msgOp m ∈ looseOps))) &&
    decide ((s.link k).kind ≠ 3) && s.mayTransmit k cls

/-- A field with no work: no thread lives, no launch, task, waiter or fill is under way, and its cairn moves
nothing. -/
def State.quietField (s : State) (f : Nat) : Bool :=
  decide (s.liveThreads f = []) && decide (s.crofters.launches = []) && decide (s.entries = []) &&
    decide (s.commons.fills = []) && decide ((s.cairn f).job = none) &&
    fieldUnits.all (fun u => decide ((s.engine f u).running = []) && decide ((s.engine f u).queue = []) &&
      decide ((s.engine f u).suspects = []))

/-- No reset is in progress and none is held back (R617, R630, R680). -/
def State.resetFree (s : State) : Bool :=
  !s.flag RF.WFR_RCV_RESET_BUSY 0 0 && !s.bistBusy && !s.frozen && !s.halted

/-- A field may be asked for progress now: it belongs to enabled parish `p` watched by bells, is in service, and no
bell hang of it is open (R607). -/
def State.bellWatched (s : State) (f : Nat) (p : ParishId) : Bool :=
  decide (s.parishOf f = some p) && s.parishOn p.val && s.flag RF.WFR_PAR_CTL_HANG_MODE p.val 0 && s.inService f &&
    !s.frozen && !s.halted && !s.bellPending f

/-- The timer of a dispatched sheaf has run out (R606). -/
def State.sheafLate (s : State) (x : Sheaf) : Bool :=
  decide (x.phase = .dispatched) && !s.flag RF.WFR_PAR_CTL_HANG_MODE x.parish 0 &&
    decide (s.sheafTimeout x ≤ s.now - x.timerBase) && !s.resets.hung.contains x.serial && !s.frozen && !s.halted

/-- A field state command is permitted now (R529). -/
def State.fieldCommand (s : State) (f target : Nat) : Bool :=
  decide (s.boot.stage = .ready) && s.inService f && decide (s.modState = 0) && !s.flag RF.PWR_FLD_STAT_BUSY f 0 &&
    !s.halted && s.fieldMay f target

/-- A module command other than OFF may be taken now (R522, R545). -/
def State.modReady (s : State) : Bool := decide (s.boot.stage = .ready) && !s.halted && !s.pBusy

/-- A module command is in progress: the state it shows and the state it goes to (R523). -/
def State.modGoes (s s' : State) (st target : Nat) : Bool :=
  decide (s'.modState = st) && decide (s'.power.target = some target) && decide (s'.power.since = s.now)

/-- A module command was refused (R522). -/
def State.modRefused (s s' : State) : Bool :=
  s'.flag RF.PWR_MOD_STAT_CMD_ERR 0 0 && s'.flag RF.PWR_EVENT_MODE_DONE 0 0 && decide (s'.modState = s.modState) &&
    decide (s'.power = s.power)

/-- Every charge of an estimator interval (R534, R541): dynamic, static, and what is no field's. -/
def State.intervalCharges (s : State) (acts : List Activity) : List Charge :=
  let live := acts.filter (fun a => s.inService a.field.val)
  let dyn := (live.zip (List.range live.length)).map (fun x => s.dynCharge s.serial x.2 x.1)
  dyn ++ (List.range 80).flatMap (fun f =>
    if s.inService f then s.staticCharges s.serial f dyn else []) ++ [⟨none, acOverhead, noField, s.nonField⟩]

/-- The Reeve takes the command `code` of `src` now and runs it (R576, R579, R582, R772). -/
def State.mbxTakes (s : State) (src : MbxSource) (code : Nat) (allowed : List MbxSource) : Bool :=
  decide (s.boot.stage ≠ .off) && (decide (code = 0x01) || !s.beforeReeve) && allowed.contains src &&
    s.mbxServes code &&
    (decide (src ≠ .pf) || !s.flag RF.RVE_MBX_STAT_BUSY 0 0 || decide (s.reeve.posted = some code))

/-- The Reeve has answered a command with a result (R772): in the mailbox registers for the physical function, by
a message for the other sources. -/
def State.mbxAnswered (s : State) (src : MbxSource) (result : Nat) (s' : State) : Bool :=
  if src = .pf then
    decide (s'.getF RF.RVE_MBX_STAT_RESULT 0 0 = result) && !s'.flag RF.RVE_MBX_STAT_BUSY 0 0 &&
      decide (s'.getF RF.RVE_MBX_STAT_COMPLETED 0 0 =
        wrapAdd RF.RVE_MBX_STAT_COMPLETED.w (s.getF RF.RVE_MBX_STAT_COMPLETED 0 0) 1) &&
      s'.flag RF.RVE_MBX_EVENT_DONE 0 0 && decide (s'.reeve.posted = none)
  else match s'.out.getLast? with
    | some (.mailbox x r _) => decide (x = src) && decide (r = result)
    | _ => false

/-- An SPDM request has been answered with a response code and its fields (R581). -/
def State.spdmAnswered (s : State) (src : MbxSource) (kind : Nat) (fields : List Nat) (s' : State) : Bool :=
  decide ((s'.out.drop s.out.length).head? = some (.spdm src kind fields)) && s.mbxAnswered src mbxOk s'

/-- The nonces that are left once the command with a signature has used its own (R577). -/
def State.noncesLeft (s : State) (src : MbxSource) (x : Signed) : List (MbxSource × BitVec 128 × Nat) :=
  s.reeve.nonces.filter (fun n => !decide (n.1 = src ∧ n.2.1 = x.nonce))

/-- A freeze has begun with a source, id and origin: no field is stopped yet, and the holes are named (R643, R645,
R648). -/
def State.freezeBegun (s : State) (source : Nat) (tap : Bool) (id origin : Nat) (s' : State) : Bool :=
  decide (s'.getF RF.ASY_FRZ_STAT_STATE 0 0 = 1) && decide (s'.getF RF.ASY_FRZ_STAT_SOURCE 0 0 = source) &&
    decide (s'.flag RF.ASY_FRZ_STAT_VIA_TAP 0 0 = tap) && decide (s'.getF RF.ASY_FRZ_STAT_FREEZE_ID 0 0 = id) &&
    decide (s'.getF RF.ASY_FRZ_STAT_ORIGIN 0 0 = origin) && decide (s'.assay.arrived = []) && !s'.assay.thawHeld &&
    decide (s'.rd .ASY_FRZ_FTIME 0 0 = BitVec.ofNat 64 s.fabricTime) &&
    decide (s'.rd .ASY_FRZ_UNREACHED_LO 0 0 = BitVec.ofNat 64 s.holes) &&
    (List.range 80).all (fun f => decide (s'.rd .ASY_FLD_STAT f 0 = 0#64))

/-- A trigger was counted and had no other effect than MORE where `more` (R642, R658). -/
def State.freezeCounted (s : State) (more : Bool) (s' : State) : Bool :=
  decide (s'.getF RF.ASY_FRZ_IGNORED_COUNT 0 0 = min (s.getF RF.ASY_FRZ_IGNORED_COUNT 0 0 + 1) (2 ^ 32 - 1)) &&
    decide (s'.getF RF.ASY_FRZ_STAT_STATE 0 0 = s.getF RF.ASY_FRZ_STAT_STATE 0 0) &&
    (!more || s'.flag RF.ASY_FRZ_STAT_MORE 0 0) && decide (s'.assay = s.assay) && decide (s'.out = s.out)

/-- The TAP answered with bits and is in a mode (R650, R669). -/
def State.tapAnswered (s : State) (mode : Nat) (l : List Nat) (s' : State) : Bool :=
  decide (s'.assay.mode = mode) && decide (s'.out = s.out ++ [.tap l])

/-- A test ended with a result code and a count of faults, and its duration is recorded (R673, R674). -/
def State.testEnded (s : State) (t code faults : Nat) (s' : State) : Bool :=
  decide (s'.getF RF.BIS_RESULTt_CODE 0 t = code) && decide (s'.getF RF.BIS_RESULTt_FAULTS 0 t = faults) &&
    decide (s'.getF RF.BIS_RESULTt_DURATION_US 0 t = (s.now - s.bist.testBegan) / 1000 % 2 ^ 32)

/-- The sideband command at hand has ended with a result (R693): the crier finds it in the mirror's group 3, and SMBus
gets it in its answer. -/
def State.sbEnded (s : State) (src : Sideband) (op tag result : Nat) (s' : State) : Bool :=
  decide (s'.pins.lastTag = tag) && decide (s'.pins.lastOp = op) && decide (s'.pins.lastResult = result) &&
    decide (s'.pins.executed = (s.pins.executed + 1) % 65536) &&
    (decide (src = .crier) || decide (s'.out.getLast? = some (.sideband result)))

/-- A sideband command is next: SMBus carries it well formed, or it is the only one in the crier's queue (R693,
R701). -/
def State.sbNext (s : State) (src : Sideband) (w : List Nat) : Bool :=
  s.sbRuns && sbWellFormed w && (decide (src = .smbus) || decide (s.pins.queue = [w]))

/-- MCTP served a good packet with an answer (R700). -/
def State.mctpAnswered (s : State) (l : List Nat) (s' : State) : Bool :=
  decide (s'.out = s.out ++ [.smbus (l.map (fun x => BitVec.ofNat 8 x))])

/-- A write of this register has no effect but that of its fields' marks (R736). -/
def State.plainWrite (s : State) (r : Reg) (inst idx : Nat) (v : Word) : Bool :=
  decide (r ≠ .HDR_IRQ_EN) && decide (r ≠ .HDR_WRITE_ERR) && decide (r ≠ .RVE_MBX_DATA) &&
    decide (r.info.page ≠ some .GPIO) && captureRegs.all (fun c => decide (c.1 ≠ r)) &&
    (s.fieldEffect r inst v).isNone && (s.parishEffect r inst idx v).isNone &&
    (s.portEffect r inst idx v).isNone && (s.waferEffect r idx v).isNone

/-- What a write does to one field by its mark (R736): an RW field takes its bits, a field that a 1 clears is cleared
where it is written with one, and any other keeps its value. -/
def fieldAfter (x : FieldInfo) (old v new : Word) : Bool :=
  match x.acc with
  | .rw => decide (bits new x.lo x.w = bits v x.lo x.w)
  | .rw1c => decide (bits new x.lo x.w = if bits v x.lo x.w = 0 then bits old x.lo x.w else 0)
  | .rw1cBits => decide (bits new x.lo x.w = bits (old &&& ~~~v) x.lo x.w)
  | _ => decide (bits new x.lo x.w = bits old x.lo x.w)

/-- HDR_WRITE_ERR of a page holds an ignored write: the first one with its offset and cause, MORE for a later one
(R734, R736). -/
def State.writeIgnored (s : State) (p : Page) (inst off cause : Nat) (s' : State) : Bool :=
  let h := hdrInst p inst
  s'.flag RF.HDR_WRITE_ERR_VALID h 0 &&
    (if s.flag RF.HDR_WRITE_ERR_VALID h 0 then s'.flag RF.HDR_WRITE_ERR_MORE h 0
    else decide (s'.getF RF.HDR_WRITE_ERR_OFFSET h 0 = off) && decide (s'.getF RF.HDR_WRITE_ERR_CAUSE h 0 = cause))

/-- The wafer's interrupt message has been sent and a new holdoff runs (R751). -/
def State.irqWasSent (s s' : State) : Bool :=
  decide (s'.getF RF.WFR_IRQ_SENT_SENT 0 0 = wrapAdd RF.WFR_IRQ_SENT_SENT.w (s.getF RF.WFR_IRQ_SENT_SENT 0 0) 1) &&
    !s'.irq.pending && decide (s'.irq.holdoff = some s.now) && decide (s'.out = (s.sendMsix 0 0).out)

/-- Commands whose operand's length depends on the state: what was asked for decides how many bytes are due. -/
def lengthDue : Instr → Bool
  | .commonsResponse .. => true
  | .granaryReadDone .. => true
  | .hostCompletionArrive .. => true
  | .frameCommit .. => true
  | _ => false

/-- A freeze trigger while FREEZING or FROZEN (R658): the trigger is counted, MORE is set, and nothing else
changes. -/
def State.secondTrigger (s s' : State) : Prop :=
  s'.flag RF.ASY_FRZ_STAT_MORE 0 0 = true ∧
    s'.getF RF.ASY_FRZ_IGNORED_COUNT 0 0 = min (s.getF RF.ASY_FRZ_IGNORED_COUNT 0 0 + 1) (2 ^ 32 - 1) ∧
    s'.getF RF.ASY_FRZ_STAT_STATE 0 0 = s.getF RF.ASY_FRZ_STAT_STATE 0 0 ∧
    s'.getF RF.ASY_FRZ_STAT_SOURCE 0 0 = s.getF RF.ASY_FRZ_STAT_SOURCE 0 0 ∧
    s'.flag RF.ASY_FRZ_STAT_VIA_TAP 0 0 = s.flag RF.ASY_FRZ_STAT_VIA_TAP 0 0 ∧
    s'.getF RF.ASY_FRZ_STAT_FREEZE_ID 0 0 = s.getF RF.ASY_FRZ_STAT_FREEZE_ID 0 0 ∧
    s'.getF RF.ASY_FRZ_STAT_ORIGIN 0 0 = s.getF RF.ASY_FRZ_STAT_ORIGIN 0 0 ∧
    s.onlyRegs [.ASY_FRZ_STAT, .ASY_FRZ_IGNORED] s' ∧ s' = { s with regs := s'.regs }

/-- The state is in canonical form: memory and the register file list every key once, in rising order, and
nothing that reads as it does unlisted. -/
def State.canonical (s : State) : Prop :=
  s.mem.wf = true ∧ mapWf RKey.ord RKey.reset s.regs = true

/-- A run of `n` steps that never stops. -/
def SafeRun (n : Nat) (s : State) : Prop :=
  ∃ t, Sys2Proof.core.run n s = .next t

/-- Every command of a queue is well formed. -/
def State.queueWellFormed (s : State) : Prop := ∀ c ∈ s.pending, c.wellFormed = true

end Sys2Proof.Machine
end

