-- ==== Sys2Proof/Certificates/Slice0/Obligations.lean ====
section
/-! DEFINITION. The statements: what each command does when it completes, and what holds of the whole module. -/

open Sys2Proof Sys2Proof.Machine

/-- For every state in the stage a command of bring-up ends, that command completes: power-up starts the hearth
  stage, and each end of a stage puts bring-up into the next stage of R710, with what the stage records; what the
  command leaves alone is unchanged. -/
def Obligations.BringupStagesAdvance : Prop :=
  (∀ (s : State), s.boot.stage = .off ∧ s.saving = false ∧ s.hearth.restart = none →
    ∃ s', exec .powerUp s = .next s' ∧
      (s'.boot.stage = .hearth ∧ s'.boot.t0 = s.now ∧ s'.boot.hearthAlive = false) ∧
      s' = { s with regs := s'.regs, boot := s'.boot, hearth := s'.hearth }) ∧
  (∀ (strap : BitVec 3) (s : State), s.boot.stage = .hearth ∧ s.boot.hearthAlive = false →
    ∃ s', exec (.hearthAlive strap) s = .next s' ∧
      (s'.boot = { s.boot with hearthAlive := true } ∧ s'.getF RF.GPIO_STAT_SMB_ADDR 0 0 = 0x58 + strap.toNat) ∧
      s' = { s with regs := s'.regs, boot := s'.boot } ∧
      s.onlyRegs [.GPIO_STAT] s') ∧
  (∀ (s : State), s.boot.stage = .hearth ∧ s.boot.hearthAlive = true →
    ∃ s', exec .planeCharged s = .next s' ∧
      (s'.boot = { s.boot with planeCharged := true }) ∧
      s' = { s with boot := s'.boot }) ∧
  (∀ (cap : BitVec 16) (s : State), s.boot.stage = .hearth ∧ s.boot.planeCharged = true →
    ∃ s', exec (.holdupCheckDone cap) s = .next s' ∧
      (s'.boot.stage = .reeve ∧ s'.getF RF.HRT_HOLDUP_CAPACITANCE 0 0 = cap.toNat ∧
  s'.flag RF.HRT_HOLDUP_HOLDUP_LOW 0 0 = decide (cap.toNat < 680) ∧ s'.reeve = { s.reeve with startedAt := s.now }) ∧
      s' = { s with serial := s'.serial, regs := s'.regs, boot := s'.boot, reeve := s'.reeve }) ∧
  (∀ (badA : Option (Fin 5)) (badB : Option (Fin 5)) (crcOk : Bool) (s : State), s.boot.stage = .reeve ∧ s.boot.cold
        = false ∧ s.lifecycle = lcDeployed ∧ s.reeve.selected = 0 ∧
  s.slotFails 0 badA = none →
    ∃ s', exec (.reeveBootDone badA badB crcOk) s = .next s' ∧
      (s'.boot.stage = .clock ∧ s'.getF RF.RVE_IMAGES_BOOTED 0 0 = 0 ∧ s'.hearth.portsLoaded = true) ∧
      s' = { s with
          serial := s'.serial, regs := s'.regs, boot := s'.boot, verne := s'.verne, reeve := s'.reeve,
          hearth := s'.hearth }) ∧
  (∀ (unclocked : List FieldId) (s : State), s.boot.stage = .clock ∧ unclocked.any (fun f => f.val == 4) = false →
    ∃ s', exec (.clockStageDone unclocked) s = .next s' ∧
      (s'.boot.stage = .hbm ∧ s'.flag RF.HRT_SHADOW_STAT_VALID 0 0 = true)) ∧
  (∀ (failed : List StackFail) (spares : List (FieldId × BitVec 24)) (s : State), s.boot.stage = .hbm ∧ s.frozen =
        false →
    ∃ s', exec (.hbmGroupTrained failed spares) s = .next s' ∧
      (s'.boot.groupsDone = s.boot.groupsDone + 1 ∧ s'.boot.stage = (if s.boot.groupsDone = 7 then .seams else
        .hbm))) ∧
  (∀ (failed : List (FieldId × Fin 4)) (spares : List (FieldId × Fin 4 × BitVec 4)) (s : State), s.boot.stage =
        .seams ∧ s.frozen = false →
    ∃ s', exec (.seamsTrained failed spares) s = .next s' ∧
      (s'.boot.stage = .selfcheck) ∧
      s' = { s with serial := s'.serial, regs := s'.regs, boot := s'.boot }) ∧
  (∀ (l : List SelfFail) (s : State), s.boot.stage = .selfcheck ∧ s.frozen = false ∧ l.any (fun x => decide
        (x.field.val = 4) && x.spine) = false →
    ∃ s', exec (.selfcheckDone l) s = .next s' ∧
      (s'.boot.stage = (if s'.fieldsInService = 0 then .halted else .images))) ∧
  (∀ (s : State), s.boot.stage = .images ∧ s.frozen = false ∧ s.commons.reqs = [] →
    ∃ s', exec .imagesLoaded s = .next s' ∧
      (s'.boot.stage = .fabric ∧ s'.fabState = fsWait ∧
  (∀ f < 80, s.inService f = true → s'.flag RF.CRF_MON_STATUS_READY f 0 = true))) ∧
  (∀ (s : State), s.boot.stage = .fabric ∧ s.frozen = false ∧ s.fabState ≠ fsJoined ∧ s.fabState ≠ fsSolo →
    ∃ s', exec .fabricStageTimeout s = .next s' ∧
      (s'.flag (bootF 15 1) 0 0 = true) ∧
      s' = { s with regs := s'.regs }) ∧
  (∀ (s : State), (s.boot.stage = .fabric ∧ s.frozen = false ∧ s.halted = false ∧ (s.fabState = fsJoined ∨ s.fabState
        = fsSolo)) →
    ∃ s', exec .bootReady s = .next s' ∧
      (s'.boot.stage = .ready) ∧
      s' = { s with
          serial := s'.serial, regs := s'.regs, mem := s'.mem, crofters := s'.crofters, seq := s'.seq,
          boot := s'.boot, host := s'.host, reeve := s'.reeve, power := s'.power, out := s'.out })

/-- A hearth report timeout, a hearth watchdog expiry and a failure of field 4 stop bring-up as a wafer fault with
  its cause; without the key a wafer reset of either kind does nothing but set CMD_ERR; with the key a warm reset is
  in progress and counted, and a cold reset goes back to stage 1. -/
def Obligations.BringupFaultsHalt : Prop :=
  (∀ (s : State), (s.boot.stage = .reeve ∨ s.boot.stage = .clock) →
    ∃ s', exec .hearthFwReportTimeout s = .next s' ∧
      (s'.boot.stage = .halted ∧ s'.getF (bootF 6 4) 0 0 = 2 ∧ s'.flag (bootF 5 1) 0 0 = true) ∧
      s' = { s with regs := s'.regs, boot := s'.boot }) ∧
  (∀ (s : State), (s.boot.stage = .reeve ∨ s.boot.stage = .hbm) →
    ∃ s', exec .hearthWatchdogExpire s = .next s' ∧
      (s'.boot.stage = .halted ∧ s'.getF (bootF 6 4) 0 0 = 2 ∧ s'.flag (bootF 5 1) 0 0 = true) ∧
      s' = { s with regs := s'.regs, boot := s'.boot }) ∧
  (∀ (clockEntry : Bool) (s : State), s.boot.stage = .ready →
    ∃ s', exec (.waferFault clockEntry) s = .next s' ∧
      (s'.boot.stage = .halted ∧ s'.flag (bootF 4 1) 0 0 = false ∧ s'.flag (bootF 5 1) 0 0 = true ∧
  s'.getF (bootF 6 4) 0 0 = (if clockEntry then 1 else 4)) ∧
      s' = { s with regs := s'.regs, boot := s'.boot }) ∧
  (∀ (key : BitVec 16) (s : State), key.toNat = keyReset ∧ s.boot.stage = .ready ∧ s.waferInReset = false ∧
        s.seq.sheaves = [] →
    ∃ s', exec (.resetWaferWarm key) s = .next s' ∧
      (s'.resets.running = [(4, 0, s.now)] ∧ s'.flag RF.WFR_RCV_RESET_BUSY 0 0 = true ∧ s'.reeve.owners =
        s.reeve.owners)) ∧
  (∀ (key : BitVec 16) (s : State), key.toNat = keyReset ∧ s.boot.stage = .ready ∧ s.waferInReset = false →
    ∃ s', exec (.resetWaferCold key) s = .next s' ∧
      (s'.boot.stage = .reeve ∧ s'.mem.cells = s.mem.cells))

/-- With the hearth alive and no save in progress a sag and a power failure (its pin enabled) start a save and leave
  the module without power; the Reeve's section or its absence settles the save; the commit writes the record, marks
  its slot unread and arms the restart; hold-up exhaustion leaves the record uncommitted; after a save VIN qualifies
  the next power-up; a short pulse is only counted. -/
def Obligations.SupplySagSaves : Prop :=
  (∀ (s : State), s.flag RF.HRT_SAG_CTL_PIN_EN 0 0 = true ∧ s.getF RF.BIS_STAT_STATE 0 0 ≠ 2 ∧ s.hearth.save = none ∧
  s.boot.stage = .ready ∧ s.boot.hearthAlive = true →
    ∃ s', exec .pwrFailAssert s = .next s' ∧
      (s'.boot.stage = .off ∧ s'.saving = true ∧ s'.mem = State.reset.mem ∧ s'.pending = s.pending ∧ s'.now = s.now) ∧
      s.onlyRegs [.RVE_LIFECYCLE, .VRN_LNK_CTL] s') ∧
  (∀ (s : State), s.hearth.save = none ∧ s.boot.stage = .ready ∧ s.boot.hearthAlive = true →
    ∃ s', exec .vinSagDetect s = .next s' ∧
      (s'.boot.stage = .off ∧ s'.saving = true ∧ s'.mem = State.reset.mem ∧ s'.pending = s.pending ∧ s'.now = s.now) ∧
      s.onlyRegs [.RVE_LIFECYCLE, .VRN_LNK_CTL] s') ∧
  (∀ (s : State), s.boot.hearthAlive = true →
    ∃ s', exec .pwrFailGlitch s = .next s' ∧
      (s'.getF RF.HRT_PWRFAIL_GLITCH_COUNT 0 0 =
    satAdd RF.HRT_PWRFAIL_GLITCH_COUNT.w (s.getF RF.HRT_PWRFAIL_GLITCH_COUNT 0 0) 1) ∧
      s' = { s with regs := s'.regs } ∧
      s.onlyRegs [.HRT_PWRFAIL_GLITCH] s') ∧
  (∀ (bytes : Fin 8193) (s : State), (∃ x, s.hearth.save = some x ∧ x.settled = false) →
    ∃ s', exec (.reeveSectionHandover bytes) s = .next s' ∧
      ((∃ y, s'.hearth.save = some y ∧ y.settled = true ∧ y.draft.reeve = bytes.val)) ∧
      s' = { s with hearth := s'.hearth }) ∧
  (∀ (s : State), (∃ x, s.hearth.save = some x ∧ x.settled = false) →
    ∃ s', exec .reeveHandoverTimeout s = .next s' ∧
      ((∃ y, s'.hearth.save = some y ∧ y.settled = true ∧ y.draft.flags.testBit 4 = true)) ∧
      s' = { s with hearth := s'.hearth }) ∧
  (∀ (s : State), (∃ x, s.hearth.save = some x ∧ x.settled = true) →
    ∃ s', exec .recordCommit s = .next s' ∧
      (s'.hearth.save = none ∧ s'.hearth.qualified = false ∧ s'.hearth.restart.isSome = true ∧
  s'.hearth.slots.any (fun y => y.1 == s.nextSlot && y.2.committed) = true ∧
  (s'.getF RF.HRT_LEDGER_UNREAD_SLOTS 0 0).testBit s.nextSlot = true) ∧
      s' = { s with regs := s'.regs, reeve := s'.reeve, hearth := s'.hearth } ∧
      s.onlyRegs [.HRT_LEDGER_UNREAD] s') ∧
  (∀ (s : State), s.saving = true →
    ∃ s', exec .holdupExhausted s = .next s' ∧
      (s'.hearth.save = none ∧ s'.hearth.slots.any (fun y => y.1 == s.nextSlot && !y.2.committed) = true ∧
  (s'.getF RF.HRT_LEDGER_UNREAD_SLOTS 0 0).testBit s.nextSlot = false) ∧
      s' = { s with regs := s'.regs, reeve := s'.reeve, hearth := s'.hearth } ∧
      s.onlyRegs [.HRT_LEDGER_UNREAD] s') ∧
  (∀ (low : Bool) (s : State), s.hearth.restart = some causePin ∧ s.saving = false ∧ s.boot.stage = .off →
    ∃ s', exec (.vinQualified low) s = .next s' ∧
      (s'.hearth = { s.hearth with qualified := true }) ∧
      s' = { s with hearth := s'.hearth }) ∧
  (∀ (src : Fin 3) (s : State), s.boot.stage = .ready ∧ s.boot.hearthAlive = true ∧ s.pBusy = false ∧ s.modState ≤ 2
        ∧ s.power.target = none ∧
  s.hearth.save = none →
    ∃ s', exec (.modTargetOff src) s = .next s' ∧
      (s'.boot.stage = .off ∧ s'.saving = true ∧ s'.mem = State.reset.mem ∧ s'.pending = s.pending ∧ s'.now = s.now))

/-- For every home field that runs, every source it admits and every operation its duplicate filter does not hold: a
  read returns the word; a set, an add, a clear of the flags, a compare-and-swap, an engine completion and a receipt
  update leave the tally as R146 to R148 and R131 say and answer the word as it stood before; no other tally's word,
  no byte of memory and no thread changes. -/
def Obligations.TallyOperationsApply : Prop :=
  (∀ (home : FieldId) (t : TallyId) (src : Source) (s : State), s.fieldRuns home.val = true ∧ s.admits src home.val 3
        (t.val * 64) 8 = true →
    ∃ s', exec (.tallyOpRead home t src) s = .next s' ∧
      ((∀ k, s'.tally k = s.tally k) ∧ s'.out = s.out ++ [.tallyReply src.wafer 0 (s.tallyWord (tallyKey home.val
        t.val))] ∧
  s'.getF RF.TLY_OPS_COUNT home.val 0 = wrapAdd RF.TLY_OPS_COUNT.w (s.getF RF.TLY_OPS_COUNT home.val 0) 1) ∧
      s' = { s with regs := s'.regs, tallies := s'.tallies, out := s'.out } ∧
      s.onlyRegs [.FLD_CMN_DENIED, .FLD_CMN_ERR_ADDR, .FLD_CMN_ERR_SOURCE, .FLD_CMN_ERR_STATUS, .TLY_DUP_COUNT,
        .TLY_ERR_STATUS, .TLY_OPS, .TLY_REFUSED] s') ∧
  (∀ (home : FieldId) (t : TallyId) (src : Source) (tx : Option TxId) (v : Word) (s : State), s.fieldRuns home.val =
        true ∧ s.admits src home.val 3 (t.val * 64) 8 = true ∧ s.dupResult home.val tx = none →
    ∃ s', exec (.tallyOpSet home t src tx v) s = .next s' ∧
      (s'.tally (tallyKey home.val t.val) = ⟨bits v 0 48, false, false⟩ ∧
  (∀ k, k ≠ tallyKey home.val t.val → s'.tally k = s.tally k) ∧
  s'.out = s.out ++ [.tallyReply src.wafer (tx.elim 0 (fun x => x.id.toNat)) (s.tallyWord (tallyKey home.val
        t.val))]) ∧
      s' = { s with regs := s'.regs, tallies := s'.tallies, out := s'.out } ∧
      s.onlyRegs [.FLD_CMN_DENIED, .FLD_CMN_ERR_ADDR, .FLD_CMN_ERR_SOURCE, .FLD_CMN_ERR_STATUS, .TLY_DUP_COUNT,
        .TLY_ERR_STATUS, .TLY_OPS, .TLY_REFUSED] s') ∧
  (∀ (home : FieldId) (t : TallyId) (src : Source) (tx : Option TxId) (v : Word) (s : State), s.fieldRuns home.val =
        true ∧ s.admits src home.val 3 (t.val * 64) 8 = true ∧ s.dupResult home.val tx = none →
    ∃ s', exec (.tallyOpAdd home t src tx v) s = .next s' ∧
      (s'.tally (tallyKey home.val t.val) = ⟨(tallySum (s.tally (tallyKey home.val t.val)).count v).1,
    (s.tally (tallyKey home.val t.val)).err, (s.tally (tallyKey home.val t.val)).ovf ||
    (tallySum (s.tally (tallyKey home.val t.val)).count v).2.1 ||
    (tallySum (s.tally (tallyKey home.val t.val)).count v).2.2⟩ ∧
  (∀ k, k ≠ tallyKey home.val t.val → s'.tally k = s.tally k) ∧
  s'.out = s.out ++ [.tallyReply src.wafer (tx.elim 0 (fun x => x.id.toNat)) (s.tallyWord (tallyKey home.val
        t.val))]) ∧
      s' = { s with regs := s'.regs, tallies := s'.tallies, out := s'.out } ∧
      s.onlyRegs [.FLD_CMN_DENIED, .FLD_CMN_ERR_ADDR, .FLD_CMN_ERR_SOURCE, .FLD_CMN_ERR_STATUS, .TLY_DUP_COUNT,
        .TLY_ERR_STATUS, .TLY_OPS, .TLY_REFUSED] s') ∧
  (∀ (home : FieldId) (t : TallyId) (src : Source) (tx : Option TxId) (s : State), s.fieldRuns home.val = true ∧
        s.admits src home.val 3 (t.val * 64) 8 = true ∧ s.dupResult home.val tx = none →
    ∃ s', exec (.tallyOpClearFlags home t src tx) s = .next s' ∧
      (s'.tally (tallyKey home.val t.val) = ⟨(s.tally (tallyKey home.val t.val)).count, false, false⟩ ∧
  (∀ k, k ≠ tallyKey home.val t.val → s'.tally k = s.tally k) ∧
  s'.out = s.out ++ [.tallyReply src.wafer (tx.elim 0 (fun x => x.id.toNat)) (s.tallyWord (tallyKey home.val
        t.val))]) ∧
      s' = { s with regs := s'.regs, tallies := s'.tallies, out := s'.out } ∧
      s.onlyRegs [.FLD_CMN_DENIED, .FLD_CMN_ERR_ADDR, .FLD_CMN_ERR_SOURCE, .FLD_CMN_ERR_STATUS, .TLY_DUP_COUNT,
        .TLY_ERR_STATUS, .TLY_OPS, .TLY_REFUSED] s') ∧
  (∀ (home : FieldId) (t : TallyId) (src : Source) (tx : Option TxId) (new : Word) (expected : Word) (s : State),
        s.fieldRuns home.val = true ∧ s.admits src home.val 3 (t.val * 64) 8 = true ∧ s.dupResult home.val tx = none →
    ∃ s', exec (.tallyOpCas home t src tx new expected) s = .next s' ∧
      (s'.tally (tallyKey home.val t.val) = ⟨if (s.tally (tallyKey home.val t.val)).count = bits expected 0 48 then
    bits new 0 48 else (s.tally (tallyKey home.val t.val)).count, (s.tally (tallyKey home.val t.val)).err,
    (s.tally (tallyKey home.val t.val)).ovf⟩ ∧
  (∀ k, k ≠ tallyKey home.val t.val → s'.tally k = s.tally k) ∧
  s'.out = s.out ++ [.tallyReply src.wafer (tx.elim 0 (fun x => x.id.toNat)) (s.tallyWord (tallyKey home.val
        t.val))]) ∧
      s' = { s with regs := s'.regs, tallies := s'.tallies, out := s'.out } ∧
      s.onlyRegs [.FLD_CMN_DENIED, .FLD_CMN_ERR_ADDR, .FLD_CMN_ERR_SOURCE, .FLD_CMN_ERR_STATUS, .TLY_DUP_COUNT,
        .TLY_ERR_STATUS, .TLY_OPS, .TLY_REFUSED] s') ∧
  (∀ (home : FieldId) (t : TallyId) (src : Source) (tx : Option TxId) (ok : Bool) (s : State), s.fieldRuns home.val =
        true ∧ s.admits src home.val 3 (t.val * 64) 8 = true ∧ s.dupResult home.val tx = none →
    ∃ s', exec (.tallyEngineCompletion home t src tx ok) s = .next s' ∧
      (s'.tally (tallyKey home.val t.val) = ⟨(tallySum (s.tally (tallyKey home.val t.val)).count 1#64).1,
    (s.tally (tallyKey home.val t.val)).err || !ok, (s.tally (tallyKey home.val t.val)).ovf ||
    (tallySum (s.tally (tallyKey home.val t.val)).count 1#64).2.1⟩ ∧
  (∀ k, k ≠ tallyKey home.val t.val → s'.tally k = s.tally k) ∧ s'.out = s.out) ∧
      s' = { s with regs := s'.regs, tallies := s'.tallies, out := s'.out } ∧
      s.onlyRegs [.FLD_CMN_DENIED, .FLD_CMN_ERR_ADDR, .FLD_CMN_ERR_SOURCE, .FLD_CMN_ERR_STATUS, .TLY_DUP_COUNT,
        .TLY_ERR_STATUS, .TLY_OPS] s') ∧
  (∀ (home : FieldId) (t : TallyId) (src : Source) (tx : Option TxId) (ok : Bool) (s : State), s.fieldRuns home.val =
        true ∧ s.admits src home.val 3 (t.val * 64) 8 = true ∧ s.dupResult home.val tx = none →
    ∃ s', exec (.tallyReceiptUpdate home t src tx ok) s = .next s' ∧
      (s'.tally (tallyKey home.val t.val) = ⟨(tallySum (s.tally (tallyKey home.val t.val)).count 1#64).1,
    (s.tally (tallyKey home.val t.val)).err || !ok, (s.tally (tallyKey home.val t.val)).ovf ||
    (tallySum (s.tally (tallyKey home.val t.val)).count 1#64).2.1⟩ ∧
  (∀ k, k ≠ tallyKey home.val t.val → s'.tally k = s.tally k) ∧ s'.out = s.out) ∧
      s' = { s with regs := s'.regs, tallies := s'.tallies, out := s'.out } ∧
      s.onlyRegs [.FLD_CMN_DENIED, .FLD_CMN_ERR_ADDR, .FLD_CMN_ERR_SOURCE, .FLD_CMN_ERR_STATUS, .TLY_DUP_COUNT,
        .TLY_ERR_STATUS, .TLY_OPS] s')

/-- At a home that runs and admits the source, with nothing in the duplicate filter: a wait whose threshold the count
  meets returns the word, one without room returns the word with REFUSED, any other is entered last among the waiters
  and answered PARKED; an arm and a chain answer the word and, with the threshold above the count, no arm standing
  and room, enter a waiter; a parked request is marked so; a request of this wafer whose route is back is applied
  with its id at a home that runs. -/
def Obligations.TallyWaitersParkAndReturn : Prop :=
  (∀ (home : FieldId) (t : TallyId) (src : Source) (tx : Option TxId) (threshold : BitVec 48) (s : State),
        s.fieldRuns home.val = true ∧ s.admits src home.val 3 (t.val * 64) 8 = true ∧ s.dupResult home.val tx = none ∧
  s.entries.any (fun x => x.tx == tx && x.tx.isSome) = false →
    ∃ s', exec (.tallyOpWait home t src tx threshold) s = .next s' ∧
      ((threshold.toNat ≤ (s.tally (tallyKey home.val t.val)).count → s'.tallies.waiters = s.tallies.waiters ∧
    s'.out = s.out ++ [.tallyReply src.wafer (tx.elim 0 (fun x => x.id.toNat)) (s.tallyWord (tallyKey home.val
        t.val))]) ∧
  ((s.tally (tallyKey home.val t.val)).count < threshold.toNat → s.noRoom (tallyKey home.val t.val) false = true →
    s'.tallies.waiters = s.tallies.waiters ∧
    s'.out = s.out ++ [.tallyReply src.wafer (tx.elim 0 (fun x => x.id.toNat))
      (s.tallyWord (tallyKey home.val t.val) ||| refusedBit)]) ∧
  ((s.tally (tallyKey home.val t.val)).count < threshold.toNat → s.noRoom (tallyKey home.val t.val) false = false →
    s'.tallies.waiters = s.tallies.waiters ++ [⟨s.tallies.nextSerial, tallyKey home.val t.val, threshold.toNat,
      .wait (.remote src.wafer (tx.elim 0 (fun x => x.id.toNat))), tx⟩] ∧
    s'.out = s.out ++ [.tallyParked src.wafer (tx.elim 0 (fun x => x.id.toNat))]) ∧
  (∀ k, s'.tally k = s.tally k)) ∧
      s' = { s with regs := s'.regs, tallies := s'.tallies, out := s'.out } ∧
      s.onlyRegs [.FLD_CMN_DENIED, .FLD_CMN_ERR_ADDR, .FLD_CMN_ERR_SOURCE, .FLD_CMN_ERR_STATUS, .TLY_DUP_COUNT,
        .TLY_ERR_STATUS, .TLY_OPS, .TLY_REFUSED] s') ∧
  (∀ (home : FieldId) (t : TallyId) (src : Source) (tx : Option TxId) (threshold : BitVec 48) (s : State),
        s.fieldRuns home.val = true ∧ s.admits src home.val 3 (t.val * 64) 8 = true ∧ s.dupResult home.val tx = none ∧
  s.entries.any (fun x => x.tx == tx && x.tx.isSome) = false ∧
  (s.tally (tallyKey home.val t.val)).count < threshold.toNat ∧ s.noRoom (tallyKey home.val t.val) false = false ∧
  s.tallies.waiters.any (fun x => x.tally == tallyKey home.val t.val && x.kind.isArm) = false →
    ∃ s', exec (.tallyOpArm home t src tx threshold) s = .next s' ∧
      (s'.tallies.waiters = s.tallies.waiters ++
    [⟨s.tallies.nextSerial, tallyKey home.val t.val, threshold.toNat, .arm, tx⟩] ∧
  s'.out = s.out ++ [.tallyReply src.wafer (tx.elim 0 (fun x => x.id.toNat)) (s.tallyWord (tallyKey home.val t.val))]
        ∧
  (∀ k, s'.tally k = s.tally k)) ∧
      s' = { s with regs := s'.regs, tallies := s'.tallies, out := s'.out } ∧
      s.onlyRegs [.FLD_CMN_DENIED, .FLD_CMN_ERR_ADDR, .FLD_CMN_ERR_SOURCE, .FLD_CMN_ERR_STATUS, .TLY_DUP_COUNT,
        .TLY_ERR_STATUS, .TLY_OPS, .TLY_REFUSED] s') ∧
  (∀ (home : FieldId) (t : TallyId) (src : Source) (tx : Option TxId) (threshold : BitVec 48) (skipErr : Bool) (desc
        : List Byte) (s : State), desc.length = 64 ∧ s.fieldRuns home.val = true ∧ s.admits src home.val 3 (t.val *
        64) 8 = true ∧
  s.dupResult home.val tx = none ∧ s.entries.any (fun x => x.tx == tx && x.tx.isSome) = false ∧
  (s.tally (tallyKey home.val t.val)).count < threshold.toNat ∧ s.noRoom (tallyKey home.val t.val) true = false →
    ∃ s', exec (.tallyOpChain home t src tx threshold skipErr desc) s = .next s' ∧
      (s'.tallies.waiters = s.tallies.waiters ++ [⟨s.tallies.nextSerial, tallyKey home.val t.val, threshold.toNat,
    .chain desc skipErr (src.field.elim 0 id) src.parish, tx⟩] ∧
  s'.out = s.out ++ [.tallyReply src.wafer (tx.elim 0 (fun x => x.id.toNat)) (s.tallyWord (tallyKey home.val t.val))]
        ∧
  (∀ k, s'.tally k = s.tally k)) ∧
      s' = { s with regs := s'.regs, tallies := s'.tallies, out := s'.out } ∧
      s.onlyRegs [.FLD_CMN_DENIED, .FLD_CMN_ERR_ADDR, .FLD_CMN_ERR_SOURCE, .FLD_CMN_ERR_STATUS, .TLY_DUP_COUNT,
        .TLY_ERR_STATUS, .TLY_OPS, .TLY_REFUSED] s') ∧
  (∀ (id : Nat) (s : State), ∃ s', exec (.tallyParked id) s = .next s' ∧
      (s'.tallies.reqs = s.tallies.reqs.map (fun r => if r.id = id then { r with parked := true } else r) ∧
  (∀ k, s'.tally k = s.tally k)) ∧
      s' = { s with tallies := s'.tallies }) ∧
  (∀ (id : Nat) (r : TallyReq) (v : Word) (s : State), s.tallies.reqs.find? (fun r => decide (r.id = id)) = some r ∧
        s.getF RF.WFR_SEAM_GEN_GEN 0 0 % 2 = 0 ∧
  r.wafer = s.ownWafer ∧ s.inService (r.tally / 4096) = true ∧ s.fieldHolds (r.tally / 4096) = false ∧
  r.op = .set v ∧ s.dupResult (r.tally / 4096) (some r.tx) = none →
    ∃ s', exec (.tallyReissue id) s = .next s' ∧
      ((∀ q ∈ s'.tallies.reqs, q.id ≠ id) ∧ s'.tally r.tally = ⟨bits v 0 48, false, false⟩ ∧
  (∀ k, k ≠ r.tally → s'.tally k = s.tally k)) ∧
      s' = { s with
          regs := s'.regs, crofters := s'.crofters, tallies := s'.tallies, seq := s'.seq, out := s'.out } ∧
      s.onlyRegs [.CRF_FAULT_HEAD, .CRF_FAULTk, .CRF_INST_COUNT, .TLY_DUP_COUNT, .TLY_ERR_STATUS, .TLY_OPS,
        .TLY_REFUSED] s')

/-- At a field that runs, the first selected waiter is taken: a thread waiting on the tally returns with the word in
  rd; an armed signal writes its 16-byte record into the ring and advances HEAD where the ring is enabled and has
  room; a chain that found its queue FULL enters the queue once a unit accepts it. Enabling a ring that lies in
  region 0 or 1 of its field sets ENABLE, and one that does not captures RING_CONFIG; a tail write makes room; a read
  of TLY_USE returns it and clears the peak. -/
def Obligations.SatisfiedWaitersServed : Prop :=
  (∀ (f : FieldId) (x : Selected) (g : FieldId) (t : ThreadId) (rd : XReg) (s : State), s.fieldRuns f.val = true ∧
  s.tallies.selected.find? (fun x => decide (x.waiter.tally / 4096 = f.val)) = some x ∧
  x.waiter.kind = .wait (.thread g t rd) ∧ (s.thread g.val t.val).st = .waitTally →
    ∃ s', exec (.waiterSatisfy f) s = .next s' ∧
      (s'.thread g.val t.val = (({ s.thread g.val t.val with st := .ready } : Thread).setX rd x.word).retired 4 ∧
  s.onlyThread g.val t.val s' ∧
  s'.tallies.selected = s.tallies.selected.filter (fun y => y.waiter.serial != x.waiter.serial) ∧ s'.mem = s.mem ∧
  (∀ k, s'.tally k = s.tally k)) ∧
      s' = { s with
          serial := s'.serial, regs := s'.regs, mem := s'.mem, commons := s'.commons,
          crofters := s'.crofters, tallies := s'.tallies, engines := s'.engines, seq := s'.seq,
          host := s'.host, out := s'.out } ∧
      s.onlyRegs [.CRF_INST_COUNT, .FLD_CMN_DENIED, .FLD_CMN_ERR_ADDR, .FLD_CMN_ERR_SOURCE, .FLD_CMN_ERR_STATUS,
        .FLD_CMN_FRESH_FILLS, .FLD_CMN_FRESH_READS, .HST_PORT_EVENT, .HST_PORT_MSIX_DROP, .TLY_DUP_COUNT,
        .TLY_ERR_STATUS, .TLY_OPS, .TLY_SIG_HEAD] s') ∧
  (∀ (f : FieldId) (x : Selected) (s : State), s.fieldRuns f.val = true ∧
  s.tallies.selected.find? (fun x => decide (x.waiter.tally / 4096 = f.val)) = some x ∧ x.waiter.kind = .arm ∧
  s.signalReady f.val = true ∧ s.getF RF.TLY_SIG_CTL_SIZE f.val 0 ≤ 8 →
    ∃ s', exec (.waiterSatisfy f) s = .next s' ∧
      (s'.mem = (s.memWrite f.val (s.signalSlot f.val (s.getF RF.TLY_SIG_HEAD_HEAD f.val 0)).region
    (s.signalSlot f.val (s.getF RF.TLY_SIG_HEAD_HEAD f.val 0)).off
    (signalRecord x.word (x.waiter.tally % 4096) s.fabricTime) false).mem ∧
  s'.getF RF.TLY_SIG_HEAD_HEAD f.val 0 = (s.getF RF.TLY_SIG_HEAD_HEAD f.val 0 + 1) % s.ringRecords f.val) ∧
      s' = { s with
          serial := s'.serial, regs := s'.regs, mem := s'.mem, commons := s'.commons,
          crofters := s'.crofters, tallies := s'.tallies, engines := s'.engines, seq := s'.seq,
          host := s'.host, out := s'.out } ∧
      s.onlyRegs [.CRF_INST_COUNT, .FLD_CMN_DENIED, .FLD_CMN_ERR_ADDR, .FLD_CMN_ERR_SOURCE, .FLD_CMN_ERR_STATUS,
        .FLD_CMN_FRESH_FILLS, .FLD_CMN_FRESH_READS, .HST_PORT_EVENT, .HST_PORT_MSIX_DROP, .TLY_DUP_COUNT,
        .TLY_ERR_STATUS, .TLY_OPS, .TLY_SIG_HEAD] s') ∧
  (∀ (f : FieldId) (x : Selected) (desc : List Byte) (skip : Bool) (issuer : FieldId) (p : Option ParishId) (u : Nat)
        (s : State), s.fieldRuns f.val = true ∧
  s.tallies.chainIssues.find? (fun x => decide (x.waiter.tally / 4096 = f.val)) = some x ∧
  x.waiter.kind = .chain desc skip issuer p ∧ (skip && bit x.word 48) = false ∧ descTgtSelf desc = true ∧
  s.enqueueReady issuer.val desc (s.chainSource f.val p) u = true →
    ∃ s', exec (.chainIssueRetry f) s = .next s' ∧
      (s'.tallies.chainIssues = s.tallies.chainIssues.filter (fun y => y.waiter.serial != x.waiter.serial) ∧
  (s'.engine issuer.val u).queue.map (·.desc) = (s.engine issuer.val u).queue.map (·.desc) ++ [desc] ∧ s'.mem =
        s.mem) ∧
      s' = { s with
          serial := s'.serial, regs := s'.regs, mem := s'.mem, commons := s'.commons,
          crofters := s'.crofters, tallies := s'.tallies, engines := s'.engines, out := s'.out } ∧
      s.onlyRegs [.FLD_CMN_DENIED, .FLD_CMN_ERR_ADDR, .FLD_CMN_ERR_SOURCE, .FLD_CMN_ERR_STATUS, .FLD_CMN_FRESH_FILLS,
        .FLD_CMN_FRESH_READS, .TLY_DUP_COUNT, .TLY_ERR_STATUS, .TLY_OPS] s') ∧
  (∀ (f : FieldId) (size : BitVec 4) (vector : BitVec 12) (s : State), s.flag RF.TLY_SIG_CTL_ENABLE f.val 0 = false ∧
        s.tallies.signals = [] →
    ∃ s', exec (.tlySigEnable f size vector) s = .next s' ∧
      (s'.getF RF.TLY_SIG_CTL_VECTOR f.val 0 = vector.toNat ∧
  (size.toNat ≤ 8 → s'.getF RF.TLY_SIG_CTL_SIZE f.val 0 = size.toNat) ∧
  (8 < size.toNat → s'.getF RF.TLY_SIG_CTL_SIZE f.val 0 = s.getF RF.TLY_SIG_CTL_SIZE f.val 0) ∧
  (isSpread (s.getF RF.TLY_SIG_BASE_BASE f.val 0 * 16) = true → s'.flag RF.TLY_SIG_CTL_ENABLE f.val 0 = false)) ∧
      s' = { s with
          regs := s'.regs, mem := s'.mem, crofters := s'.crofters, tallies := s'.tallies, host := s'.host,
          out := s'.out } ∧
      s.onlyRegs [.FLD_CMN_FRESH_FILLS, .HST_PORT_EVENT, .HST_PORT_MSIX_DROP, .TLY_ERR_STATUS, .TLY_SIG_CTL,
        .TLY_SIG_HEAD] s') ∧
  (∀ (f : FieldId) (tail : BitVec 12) (s : State), s.tallies.signals = [] →
    ∃ s', exec (.tlySigTailWrite f tail) s = .next s' ∧
      (s'.getF RF.TLY_SIG_TAIL_TAIL f.val 0 = tail.toNat ∧ (∀ k, s'.tally k = s.tally k)) ∧
      s' = { s with
          regs := s'.regs, mem := s'.mem, crofters := s'.crofters, tallies := s'.tallies, host := s'.host,
          out := s'.out } ∧
      s.onlyRegs [.FLD_CMN_FRESH_FILLS, .HST_PORT_EVENT, .HST_PORT_MSIX_DROP, .TLY_SIG_HEAD, .TLY_SIG_TAIL] s') ∧
  (∀ (f : FieldId) (s : State), ∃ s', exec (.tlyUseRead f) s = .next s' ∧
      (s'.out = s.out ++ [.regRead (s.tlyUse f.val)] ∧ s'.tallies.peaks = s.tallies.peaks.put 0 f.val 0) ∧
      s' = { s with tallies := s'.tallies, out := s'.out })

/-- For every thread that may run its next instruction and whose aligned address is admitted to memory that performs
  the access at once: each atomic of Xolt and of RV64A returns the old value sign-extended in rd, leaves in memory
  what its operation gives, and passes the instruction; an LR reserves its bytes where the home is the thread's own
  field; an SC whose reservation stands stores and writes 0 to rd, and one without it stores nothing and writes 1. -/
def Obligations.AtomicsAtHome : Prop :=
  (∀ (f : FieldId) (t : ThreadId) (a : XtArgs) (g r o : Nat) (s : State), a.rs3.val = 0 ∧ s.atomicReady f.val t.val
        ((s.thread f.val t.val).xr a.rs1) 4 3 a.rl = true ∧
  s.reachesPlain (s.threadSource f.val) ((s.thread f.val t.val).xr a.rs1).toNat 4 true true g r o = true →
    ∃ s', exec (.xtAmofaddS f t a) s = .next s' ∧
      ((s'.thread f.val t.val).xr a.rd = (if a.rd.val = 0 then 0#64 else
    BitVec.ofInt 64 (sint 32 (leNat (s.memRead g r o 4)))) ∧
  (s'.thread f.val t.val).pc = (s.thread f.val t.val).pc + 4#64 ∧
  s'.mem = (s.memWrite g r o (leBytes 4 (amoCompute .faddS false (BitVec.ofNat 64 (leNat (s.memRead g r o 4)))
    ((s.thread f.val t.val).xr a.rs2) ((s.thread f.val t.val).xr a.rs3)).toNat) false).mem) ∧
      s' = { s with
          regs := s'.regs, mem := s'.mem, commons := s'.commons, crofters := s'.crofters, out := s'.out } ∧
      s.onlyRegs [.CRF_FAULT_HEAD, .CRF_FAULTk, .CRF_INST_COUNT, .FLD_CMN_DENIED, .FLD_CMN_ERR_ADDR,
        .FLD_CMN_ERR_SOURCE, .FLD_CMN_ERR_STATUS, .FLD_CMN_FRESH_FILLS, .FLD_CMN_FRESH_READS] s') ∧
  (∀ (f : FieldId) (t : ThreadId) (a : XtArgs) (g r o : Nat) (s : State), a.rs3.val = 0 ∧ s.atomicReady f.val t.val
        ((s.thread f.val t.val).xr a.rs1) 4 3 a.rl = true ∧
  s.reachesPlain (s.threadSource f.val) ((s.thread f.val t.val).xr a.rs1).toNat 4 true true g r o = true →
    ∃ s', exec (.xtAmofaddBf2 f t a) s = .next s' ∧
      ((s'.thread f.val t.val).xr a.rd = (if a.rd.val = 0 then 0#64 else
    BitVec.ofInt 64 (sint 32 (leNat (s.memRead g r o 4)))) ∧
  (s'.thread f.val t.val).pc = (s.thread f.val t.val).pc + 4#64 ∧
  s'.mem = (s.memWrite g r o (leBytes 4 (amoCompute .faddBf2 false (BitVec.ofNat 64 (leNat (s.memRead g r o 4)))
    ((s.thread f.val t.val).xr a.rs2) ((s.thread f.val t.val).xr a.rs3)).toNat) false).mem) ∧
      s' = { s with
          regs := s'.regs, mem := s'.mem, commons := s'.commons, crofters := s'.crofters, out := s'.out } ∧
      s.onlyRegs [.CRF_FAULT_HEAD, .CRF_FAULTk, .CRF_INST_COUNT, .FLD_CMN_DENIED, .FLD_CMN_ERR_ADDR,
        .FLD_CMN_ERR_SOURCE, .FLD_CMN_ERR_STATUS, .FLD_CMN_FRESH_FILLS, .FLD_CMN_FRESH_READS] s') ∧
  (∀ (f : FieldId) (t : ThreadId) (a : XtArgs) (g r o : Nat) (s : State), a.rs3.val = 0 ∧ s.atomicReady f.val t.val
        ((s.thread f.val t.val).xr a.rs1) 8 3 a.rl = true ∧
  s.reachesPlain (s.threadSource f.val) ((s.thread f.val t.val).xr a.rs1).toNat 8 true true g r o = true →
    ∃ s', exec (.xtAmoaddSatD f t a) s = .next s' ∧
      ((s'.thread f.val t.val).xr a.rd = (if a.rd.val = 0 then 0#64 else
    BitVec.ofInt 64 (sint 64 (leNat (s.memRead g r o 8)))) ∧
  (s'.thread f.val t.val).pc = (s.thread f.val t.val).pc + 4#64 ∧
  s'.mem = (s.memWrite g r o (leBytes 8 (amoCompute .addSatD true (BitVec.ofNat 64 (leNat (s.memRead g r o 8)))
    ((s.thread f.val t.val).xr a.rs2) ((s.thread f.val t.val).xr a.rs3)).toNat) false).mem) ∧
      s' = { s with
          regs := s'.regs, mem := s'.mem, commons := s'.commons, crofters := s'.crofters, out := s'.out } ∧
      s.onlyRegs [.CRF_FAULT_HEAD, .CRF_FAULTk, .CRF_INST_COUNT, .FLD_CMN_DENIED, .FLD_CMN_ERR_ADDR,
        .FLD_CMN_ERR_SOURCE, .FLD_CMN_ERR_STATUS, .FLD_CMN_FRESH_FILLS, .FLD_CMN_FRESH_READS] s') ∧
  (∀ (f : FieldId) (t : ThreadId) (a : XtArgs) (g r o : Nat) (s : State), s.atomicReady f.val t.val ((s.thread f.val
        t.val).xr a.rs1) 8 3 true = true ∧
  s.reachesPlain (s.threadSource f.val) ((s.thread f.val t.val).xr a.rs1).toNat 8 true true g r o = true →
    ∃ s', exec (.xtAmocasD f t a) s = .next s' ∧
      ((s'.thread f.val t.val).xr a.rd = (if a.rd.val = 0 then 0#64 else
    BitVec.ofInt 64 (sint 64 (leNat (s.memRead g r o 8)))) ∧
  (s'.thread f.val t.val).pc = (s.thread f.val t.val).pc + 4#64 ∧
  s'.mem = (s.memWrite g r o (leBytes 8 (amoCompute .casD true (BitVec.ofNat 64 (leNat (s.memRead g r o 8)))
    ((s.thread f.val t.val).xr a.rs2) ((s.thread f.val t.val).xr a.rs3)).toNat) false).mem) ∧
      s' = { s with
          regs := s'.regs, mem := s'.mem, commons := s'.commons, crofters := s'.crofters, out := s'.out } ∧
      s.onlyRegs [.CRF_FAULT_HEAD, .CRF_FAULTk, .CRF_INST_COUNT, .FLD_CMN_DENIED, .FLD_CMN_ERR_ADDR,
        .FLD_CMN_ERR_SOURCE, .FLD_CMN_ERR_STATUS, .FLD_CMN_FRESH_FILLS, .FLD_CMN_FRESH_READS] s') ∧
  (∀ (f : FieldId) (t : ThreadId) (a : AmoArgs) (g r o n : Nat) (s : State), a.op ∉ [AmoOp.faddS, .faddBf2, .addSatD,
        .casD] ∧ n = (if a.wide then 8 else 4) ∧
  s.atomicReady f.val t.val ((s.thread f.val t.val).xr a.rs1) n 3 a.rl = true ∧
  s.reachesPlain (s.threadSource f.val) ((s.thread f.val t.val).xr a.rs1).toNat n true true g r o = true →
    ∃ s', exec (.amo f t a) s = .next s' ∧
      ((s'.thread f.val t.val).xr a.rd = (if a.rd.val = 0 then 0#64 else
    BitVec.ofInt 64 (sint (8 * n) (leNat (s.memRead g r o n)))) ∧
  (s'.thread f.val t.val).pc = (s.thread f.val t.val).pc + 4#64 ∧
  s'.mem = (s.memWrite g r o (leBytes n (amoCompute a.op a.wide (BitVec.ofNat 64 (leNat (s.memRead g r o n)))
    ((s.thread f.val t.val).xr a.rs2) 0#64).toNat) false).mem) ∧
      s' = { s with
          regs := s'.regs, mem := s'.mem, commons := s'.commons, crofters := s'.crofters, out := s'.out } ∧
      s.onlyRegs [.CRF_FAULT_HEAD, .CRF_FAULTk, .CRF_INST_COUNT, .FLD_CMN_DENIED, .FLD_CMN_ERR_ADDR,
        .FLD_CMN_ERR_SOURCE, .FLD_CMN_ERR_STATUS, .FLD_CMN_FRESH_FILLS, .FLD_CMN_FRESH_READS] s') ∧
  (∀ (f : FieldId) (t : ThreadId) (a : ResArgs) (g r o n : Nat) (s : State), n = (if a.wide then 8 else 4) ∧
        s.atomicReady f.val t.val ((s.thread f.val t.val).xr a.rs1) n 1 a.rl = true ∧
  s.locate (s.threadSource f.val) ((s.thread f.val t.val).xr a.rs1).toNat n false true = .at g r o ∧
  s.reachesPlain (s.threadSource f.val) ((s.thread f.val t.val).xr a.rs1).toNat n false false g r o = true →
    ∃ s', exec (.lr f t a) s = .next s' ∧
      ((s'.thread f.val t.val).xr a.rd = (if a.rd.val = 0 then 0#64 else
    BitVec.ofInt 64 (sint (8 * n) (leNat (s.memRead g r o n)))) ∧
  (s'.thread f.val t.val).pc = (s.thread f.val t.val).pc + 4#64 ∧
  (s'.thread f.val t.val).reservation = s.reserveAt f.val ((s.thread f.val t.val).xr a.rs1).toNat n ∧ s'.mem = s.mem)
        ∧
      s' = { s with
          regs := s'.regs, mem := s'.mem, commons := s'.commons, crofters := s'.crofters, out := s'.out } ∧
      s.onlyRegs [.CRF_FAULT_HEAD, .CRF_FAULTk, .CRF_INST_COUNT, .FLD_CMN_DENIED, .FLD_CMN_ERR_ADDR,
        .FLD_CMN_ERR_SOURCE, .FLD_CMN_ERR_STATUS, .FLD_CMN_FRESH_FILLS, .FLD_CMN_FRESH_READS] s') ∧
  (∀ (f : FieldId) (t : ThreadId) (a : ResArgs) (g r o n : Nat) (s : State), n = (if a.wide then 8 else 4) ∧
        s.atomicReady f.val t.val ((s.thread f.val t.val).xr a.rs1) n 2 a.rl = true ∧
  (s.reserveAt f.val ((s.thread f.val t.val).xr a.rs1).toNat n).isSome = true ∧
  (s.thread f.val t.val).reservation = s.reserveAt f.val ((s.thread f.val t.val).xr a.rs1).toNat n ∧
  s.reachesPlain (s.threadSource f.val) ((s.thread f.val t.val).xr a.rs1).toNat n true false g r o = true →
    ∃ s', exec (.sc f t a) s = .next s' ∧
      ((s'.thread f.val t.val).xr a.rd = 0#64 ∧ (s'.thread f.val t.val).pc = (s.thread f.val t.val).pc + 4#64 ∧
  (s'.thread f.val t.val).reservation = none ∧
  s'.mem = (s.memWrite g r o (leBytes n ((s.thread f.val t.val).xr a.rs2).toNat) false).mem) ∧
      s' = { s with
          regs := s'.regs, mem := s'.mem, commons := s'.commons, crofters := s'.crofters, out := s'.out } ∧
      s.onlyRegs [.CRF_FAULT_HEAD, .CRF_FAULTk, .CRF_INST_COUNT, .FLD_CMN_DENIED, .FLD_CMN_ERR_ADDR,
        .FLD_CMN_ERR_SOURCE, .FLD_CMN_ERR_STATUS, .FLD_CMN_FRESH_FILLS, .FLD_CMN_FRESH_READS] s') ∧
  (∀ (f : FieldId) (t : ThreadId) (a : ResArgs) (n : Nat) (s : State), n = (if a.wide then 8 else 4) ∧ s.atomicReady
        f.val t.val ((s.thread f.val t.val).xr a.rs1) n 2 a.rl = true ∧
  (s.reserveAt f.val ((s.thread f.val t.val).xr a.rs1).toNat n = none ∨
    (s.thread f.val t.val).reservation ≠ s.reserveAt f.val ((s.thread f.val t.val).xr a.rs1).toNat n) →
    ∃ s', exec (.sc f t a) s = .next s' ∧
      (s'.thread f.val t.val = (({ (s.thread f.val t.val) with reservation := none } : Thread).setX a.rd
        1#64).retired 4 ∧
  s.onlyThread f.val t.val s' ∧ s'.mem = s.mem) ∧
      s' = { s with
          regs := s'.regs, mem := s'.mem, commons := s'.commons, crofters := s'.crofters, out := s'.out } ∧
      s.onlyRegs [.CRF_FAULT_HEAD, .CRF_FAULTk, .CRF_INST_COUNT, .FLD_CMN_DENIED, .FLD_CMN_ERR_ADDR,
        .FLD_CMN_ERR_SOURCE, .FLD_CMN_ERR_STATUS, .FLD_CMN_FRESH_FILLS, .FLD_CMN_FRESH_READS] s')

/-- For every thread that may run its next instruction and whose access lies in one line of memory that performs it
  at once: a load writes its destination register with the bytes read and retires; a store writes its bytes and
  retires at once, its acknowledgement following; an answer from another wafer completes the load that waits for it;
  the acknowledgement of a store takes it off the list; a request whose time is over fails with TIMEOUT; a late
  response is counted. -/
def Obligations.LoadsAndStores : Prop :=
  (∀ (f : FieldId) (t : ThreadId) (a : LoadArgs) (g r o n : Nat) (ea : Word) (s : State), n = memBytes a.size ∧ ea =
        (s.thread f.val t.val).xr a.rs1 + a.imm.signExtend 64 ∧ s.mayRun f.val t.val = true ∧
  s.eaBad f.val t.val ea n 1 = false ∧ eaAligned ea.toNat n = true ∧ linesOf ea.toNat n = [(0, n)] ∧
  s.reachesPlain (s.threadSource f.val) ea.toNat n false false g r o = true ∧
  s.allReqs.all (fun q => q.group != s.commons.nextReq) = true →
    ∃ s', exec (.load f t a) s = .next s' ∧
      (s'.thread f.val t.val = (((({ (s.thread f.val t.val) with st := .ready } : Thread).loadTo (loadDst a)
        (s.memRead g r o n)).noteFresh
    (s.mem.touchesFresh g r o n)).retired (lenBytes a.len)) ∧ s.onlyThread f.val t.val s' ∧ s'.mem = s.mem)) ∧
  (∀ (f : FieldId) (t : ThreadId) (a : StoreArgs) (g r o n : Nat) (ea : Word) (s : State), n = memBytes a.size ∧ ea =
        (s.thread f.val t.val).xr a.rs1 + a.imm.signExtend 64 ∧ s.mayRun f.val t.val = true ∧
  s.eaBad f.val t.val ea n 2 = false ∧ eaAligned ea.toNat n = true ∧ linesOf ea.toNat n = [(0, n)] ∧
  s.reachesPlain (s.threadSource f.val) ea.toNat n true false g r o = true →
    ∃ s', exec (.store f t a) s = .next s' ∧
      (s'.mem = (s.memWrite g r o (leBytes n ((s.thread f.val t.val).storeValue a)) false).mem ∧
  (s'.thread f.val t.val).pc = (s.thread f.val t.val).pc + BitVec.ofNat 64 (lenBytes a.len) ∧
  (∀ q, (s'.thread f.val t.val).xr q = (s.thread f.val t.val).xr q))) ∧
  (∀ (id : Nat) (r : Request) (f : FieldId) (t : ThreadId) (s : State), s.groupDone id = some [r] ∧ r.sink = .store f
        t ∧ r.src.field = none ∧ s.halted = false ∧
  r.reply = some ⟨.ok, false, []⟩ ∧ (s.thread f.val t.val).fencing = false →
    ∃ s', exec (.storeAck id) s = .next s' ∧
      ((∀ q ∈ s'.commons.reqs, q.group ≠ id) ∧ (s'.thread f.val t.val).pc = (s.thread f.val t.val).pc ∧ s'.mem =
        s.mem) ∧
      s' = { s with
          regs := s'.regs, commons := s'.commons, crofters := s'.crofters, verne := s'.verne,
          host := s'.host, out := s'.out } ∧
      s.onlyRegs [.CRF_FAULT_HEAD, .CRF_FAULTk, .CRF_INST_COUNT, .HST_FN_WIN_ERR, .HST_PORT_EVENT,
        .HST_PORT_MSIX_DROP] s') ∧
  (∀ (id : Nat) (status : AccStatusCode) (fresh : Bool) (data : List Byte) (r : Request) (f : FieldId) (t : ThreadId)
        (dst : LoadDst) (n : Nat) (s : State), s.commons.reqs.find? (fun r => decide (r.id = id) && r.reply.isNone &&
        !r.held) = some r ∧ s.frozen = false ∧
  s.halted = false ∧ AccStatus.ofCode status.toNat = .ok ∧ r.kind = .read n ∧ data.length = n ∧
  r.sink = .load f t dst false ∧ s.allReqs.filter (fun q => decide (q.group = r.group)) = [r] ∧
  (s.thread f.val t.val).st = .waitMem →
    ∃ s', exec (.commonsResponse id status fresh data) s = .next s' ∧
      (s'.thread f.val t.val = ((({ s.thread f.val t.val with st := .ready } : Thread).loadTo dst data).noteFresh
    fresh).retired (s.thread f.val t.val).waitLen ∧ s'.mem = s.mem) ∧
      s' = { s with
          regs := s'.regs, commons := s'.commons, crofters := s'.crofters, verne := s'.verne,
          host := s'.host, out := s'.out } ∧
      s.onlyRegs [.CRF_FAULT_HEAD, .CRF_FAULTk, .CRF_INST_COUNT, .FLD_CMN_DENIED, .FLD_CMN_ERR_ADDR,
        .FLD_CMN_ERR_SOURCE, .FLD_CMN_ERR_STATUS, .HST_FN_WIN_ERR, .HST_PORT_EVENT, .HST_PORT_MSIX_DROP] s') ∧
  (∀ (id : Nat) (r : Request) (s : State), s.commons.reqs.find? (fun r => decide (r.id = id) && r.reply.isNone) =
        some r ∧ s.frozen = false ∧
  s.halted = false ∧ r.src.wafer.val = s.ownWafer ∧ s.scrubHeld r = false ∧ r.issued + s.reqLimit r ≤ s.now ∧
  r.sink = .none ∧ s.commons.fills = [] ∧ s.allReqs.filter (fun q => decide (q.group = r.group)) = [r] ∧
  r.src.field = none →
    ∃ s', exec (.requestTimeout id) s = .next s' ∧
      ((∀ q ∈ s'.commons.reqs, q.id ≠ id) ∧ s'.mem = s.mem) ∧
      s' = { s with
          regs := s'.regs, commons := s'.commons, crofters := s'.crofters, verne := s'.verne,
          host := s'.host, out := s'.out } ∧
      s.onlyRegs [.CRF_FAULT_HEAD, .CRF_FAULTk, .CRF_INST_COUNT, .FLD_CMN_DENIED, .FLD_CMN_ERR_ADDR,
        .FLD_CMN_ERR_SOURCE, .FLD_CMN_ERR_STATUS, .HST_FN_WIN_ERR, .HST_PORT_EVENT, .HST_PORT_MSIX_DROP] s') ∧
  (∀ (f : FieldId) (id : Nat) (s : State), s.inService f.val = true ∧ s.allReqs.any (fun r => decide (r.id = id) &&
        r.reply.isNone) = false →
    ∃ s', exec (.lateResponse f id) s = .next s' ∧
      (s'.getF RF.FLD_CMN_LATE_RSP_COUNT f.val 0 =
    satAdd RF.FLD_CMN_LATE_RSP_COUNT.w (s.getF RF.FLD_CMN_LATE_RSP_COUNT f.val 0) 1) ∧
      s' = { s with regs := s'.regs } ∧
      s.onlyRegs [.FLD_CMN_LATE_RSP] s')

/-- For every thread that may run its next instruction: each integer and floating-point instruction, CSR access,
  mret, ecall, ebreak, fence, fence.i, pause, bell, exit and kill ends as its rule says: the thread holds the result,
  has passed the instruction (or taken the trap the instruction is) and has counted it; no other thread and no byte
  of memory changes. -/
def Obligations.InstructionsRetire : Prop :=
  (∀ (f : FieldId) (t : ThreadId) (len : InstrLen) (i : RvInstr) (s : State), s.mayRun f.val t.val = true →
    ∃ s', exec (.rvInstruction f t len i) s = .next s' ∧
      ((∀ op rd a b, i = .alu op rd a b →
    s'.thread f.val t.val = ((s.thread f.val t.val).setX rd (aluOp op ((s.thread f.val t.val).xr a) ((s.thread f.val
        t.val).xr b))).retired (lenBytes len)) ∧
  (∀ op rd a imm, i = .aluImm op rd a imm →
    s'.thread f.val t.val = ((s.thread f.val t.val).setX rd (aluImmOp op ((s.thread f.val t.val).xr a) imm)).retired
        (lenBytes len)) ∧
  (∀ op rd a sh, i = .shiftImm op rd a sh →
    s'.thread f.val t.val = ((s.thread f.val t.val).setX rd (shiftImmOp op ((s.thread f.val t.val).xr a) sh)).retired
        (lenBytes len)) ∧
  (∀ op rd a, i = .unary op rd a →
    s'.thread f.val t.val = ((s.thread f.val t.val).setX rd (unaryOp op ((s.thread f.val t.val).xr a))).retired
        (lenBytes len)) ∧
  (∀ rd imm, i = .lui rd imm →
    s'.thread f.val t.val = ((s.thread f.val t.val).setX rd (sextw (imm.toNat * 4096))).retired (lenBytes len)) ∧
  (∀ rd imm, i = .auipc rd imm →
    s'.thread f.val t.val = ((s.thread f.val t.val).setX rd ((s.thread f.val t.val).pc + sextw (imm.toNat *
        4096))).retired (lenBytes len)) ∧
  (∀ rd off, i = .jal rd off → s'.thread f.val t.val =
    ({ (s.thread f.val t.val).setX rd ((s.thread f.val t.val).pc + BitVec.ofNat 64 (lenBytes len)) with pc := (s.thread f.val t.val).pc + off.signExtend 64 } : Thread).counted) ∧
  (∀ rd a imm, i = .jalr rd a imm → s'.thread f.val t.val =
    ({ (s.thread f.val t.val).setX rd ((s.thread f.val t.val).pc + BitVec.ofNat 64 (lenBytes len)) with
      pc := ((s.thread f.val t.val).xr a + imm.signExtend 64) &&& ~~~1#64 } : Thread).counted) ∧
  (∀ op a b off, i = .branch op a b off → s'.thread f.val t.val =
    if branchTaken op ((s.thread f.val t.val).xr a) ((s.thread f.val t.val).xr b) then
        ({ (s.thread f.val t.val) with pc := (s.thread f.val t.val).pc + off.signExtend 64 } : Thread).counted
    else (s.thread f.val t.val).retired (lenBytes len)) ∧
  (∀ w rd a b, i = .fcmp .lt w rd a b → (s'.thread f.val t.val).xr rd = if rd.val = 0 then 0#64 else
    b2w (fpCompare .lt (fpFmtOf w) (fpRead w ((s.thread f.val t.val).fr a)) (fpRead w ((s.thread f.val t.val).fr
        b))).1) ∧
  (∀ op w rm m rd a b, i = .fp op w rm rd a b → op ∈ [FpOp.add, .sub, .mul, .div, .sqrt] →
    rmOf rm ((s.thread f.val t.val).csrv csrFcsr) = some m → s'.thread f.val t.val = ((s.thread f.val t.val).fpWrite
        w rd
      (fpArith op (fpFmtOf w) m (fpRead w ((s.thread f.val t.val).fr a)) (fpRead w ((s.thread f.val t.val).fr
        b)))).retired (lenBytes len)) ∧
  (∀ op w rm m rd a b c, i = .fma op w rm rd a b c → rmOf rm ((s.thread f.val t.val).csrv csrFcsr) = some m →
    s'.thread f.val t.val = ((s.thread f.val t.val).fpWrite w rd (fpFma op (fpFmtOf w) m (fpRead w ((s.thread f.val
        t.val).fr a)) (fpRead w ((s.thread f.val t.val).fr b))
      (fpRead w ((s.thread f.val t.val).fr c)))).retired (lenBytes len)) ∧
  (∀ w iw rm m rd a, i = .fcvtFromInt w iw rm rd a → rmOf rm ((s.thread f.val t.val).csrv csrFcsr) = some m →
    s'.thread f.val t.val = ((s.thread f.val t.val).fpWrite w rd (fpFromInt iw (fpFmtOf w) m ((s.thread f.val
        t.val).xr a))).retired (lenBytes len)) ∧
  (∀ w iw rm m rd a, i = .fcvtInt w iw rm rd a → rmOf rm ((s.thread f.val t.val).csrv csrFcsr) = some m →
    (s'.thread f.val t.val).xr rd = if rd.val = 0 then 0#64 else (fpToInt iw (fpFmtOf w) m (fpRead w ((s.thread f.val
        t.val).fr a))).1) ∧
  (∀ w rd a, i = .fclass w rd a → s'.thread f.val t.val =
    ((s.thread f.val t.val).setX rd (BitVec.ofNat 64 (fpClass (fpFmtOf w) (fpRead w ((s.thread f.val t.val).fr
        a))))).retired (lenBytes len)) ∧
  (∀ rd a, i = .fmvToX .d rd a → s'.thread f.val t.val = ((s.thread f.val t.val).setX rd ((s.thread f.val t.val).fr
        a)).retired (lenBytes len)) ∧
  (∀ rd a, i = .fmvFromX .d rd a → s'.thread f.val t.val = ((s.thread f.val t.val).setFr rd ((s.thread f.val
        t.val).xr a)).retired (lenBytes len)) ∧
  (i = .wfi → s'.thread f.val t.val = (s.thread f.val t.val).retired (lenBytes len)) ∧ s.onlyThread f.val t.val s') ∧
      s' = { s with regs := s'.regs, crofters := s'.crofters } ∧
      s.onlyRegs [.CRF_FAULT_HEAD, .CRF_FAULTk, .CRF_INST_COUNT] s') ∧
  (∀ (f : FieldId) (t : ThreadId) (a : CsrArgs) (old v : Word) (s : State), s.mayRun f.val t.val = true ∧ s.csrRead
        f.val t.val a.csr.toNat = some old ∧
  v = (if a.imm then BitVec.ofNat 64 a.src.val else (s.thread f.val t.val).xr a.src) ∧
  nbits a.csr.toNat 8 2 ≠ 1 ∧ nbits a.csr.toNat 8 2 ≠ 2 ∧ (nbits a.csr.toNat 8 2 = 3 → (s.thread f.val t.val).priv =
        .m) ∧
  (nbits a.csr.toNat 10 2 = 3 → a.op ≠ .rw ∧ a.src.val = 0) →
    ∃ s', exec (.csrAccess f t a) s = .next s' ∧
      ((a.op = .rw →
    s'.thread f.val t.val = (((s.thread f.val t.val).csrWrite a.csr.toNat v).setX a.rd old).retired 4) ∧
  (a.op = .rs → s'.thread f.val t.val =
    ((if a.src.val = 0 then (s.thread f.val t.val) else (s.thread f.val t.val).csrWrite a.csr.toNat (old ||| v)).setX
        a.rd old).retired 4) ∧
  (a.op = .rc → s'.thread f.val t.val =
    ((if a.src.val = 0 then (s.thread f.val t.val) else (s.thread f.val t.val).csrWrite a.csr.toNat (old &&&
        ~~~v)).setX a.rd old).retired 4) ∧
  s.onlyThread f.val t.val s') ∧
      s' = { s with serial := s'.serial, regs := s'.regs, crofters := s'.crofters } ∧
      s.onlyRegs [.CRF_FAULT_HEAD, .CRF_FAULTk, .CRF_INST_COUNT] s') ∧
  (∀ (f : FieldId) (t : ThreadId) (s : State), s.mayRun f.val t.val = true ∧ (s.thread f.val t.val).priv = .m →
    ∃ s', exec (.mret f t) s = .next s' ∧
      (s'.thread f.val t.val = (s.thread f.val t.val).mret.counted ∧ s.onlyThread f.val t.val s') ∧
      s' = { s with regs := s'.regs, crofters := s'.crofters } ∧
      s.onlyRegs [.CRF_FAULT_HEAD, .CRF_FAULTk, .CRF_INST_COUNT] s') ∧
  (∀ (f : FieldId) (t : ThreadId) (s : State), s.mayRun f.val t.val = true →
    ∃ s', exec (.ecall f t) s = .next s' ∧
      (((s.thread f.val t.val).priv = .u → (s'.thread f.val t.val).xr 10 = BitVec.ofInt 64 (-1) ∧
    (s'.thread f.val t.val).pc = (s.thread f.val t.val).pc + 4#64 ∧ (s'.thread f.val t.val).priv = .u) ∧
  ((s.thread f.val t.val).priv = .m → (s'.thread f.val t.val).csrv csrMepc = (s.thread f.val t.val).pc ∧
    (s'.thread f.val t.val).csrv csrMcause = 11#64 ∧ (s'.thread f.val t.val).priv = .m ∧
    (s'.thread f.val t.val).pc = (s.thread f.val t.val).csrv csrMtvec &&& ~~~3#64) ∧ s.onlyThread f.val t.val s') ∧
      s' = { s with regs := s'.regs, crofters := s'.crofters } ∧
      s.onlyRegs [.CRF_FAULT_HEAD, .CRF_FAULTk] s') ∧
  (∀ (f : FieldId) (t : ThreadId) (s : State), s.mayRun f.val t.val = true →
    ∃ s', exec (.ebreak f t) s = .next s' ∧
      (((s.thread f.val t.val).priv = .u → (s'.thread f.val t.val).st = .free ∧ (s'.thread f.val t.val).sheaf = none)
        ∧
  ((s.thread f.val t.val).priv = .m → (s'.thread f.val t.val).csrv csrMepc = (s.thread f.val t.val).pc ∧
    (s'.thread f.val t.val).csrv csrMcause = 3#64 ∧ (s'.thread f.val t.val).priv = .m ∧
    (s'.thread f.val t.val).pc = (s.thread f.val t.val).csrv csrMtvec &&& ~~~3#64) ∧ s.onlyThread f.val t.val s') ∧
      s' = { s with
          regs := s'.regs, commons := s'.commons, crofters := s'.crofters, tallies := s'.tallies,
          seq := s'.seq } ∧
      s.onlyRegs [.CRF_FAULT_HEAD, .CRF_FAULTk] s') ∧
  (∀ (f : FieldId) (t : ThreadId) (s : State), s.mayRun f.val t.val = true →
    ∃ s', exec (.fenceI f t) s = .next s' ∧
      (s'.thread f.val t.val = (s.thread f.val t.val).retired 4 ∧ s.onlyThread f.val t.val s') ∧
      s' = { s with regs := s'.regs, crofters := s'.crofters } ∧
      s.onlyRegs [.CRF_FAULT_HEAD, .CRF_FAULTk, .CRF_INST_COUNT] s') ∧
  (∀ (f : FieldId) (t : ThreadId) (pred : BitVec 4) (succ : BitVec 4) (s : State), s.mayRun f.val t.val = true →
    ∃ s', exec (.fence f t pred succ) s = .next s' ∧
      (((s.threadReqs f.val t.val = [] ∨ (pred.getLsbD 0 = false ∧ pred.getLsbD 2 = false)) →
    s'.thread f.val t.val = (s.thread f.val t.val).retired 4) ∧
  ((s.threadReqs f.val t.val ≠ [] ∧ (pred.getLsbD 0 = true ∨ pred.getLsbD 2 = true)) →
    s'.thread f.val t.val = { (s.thread f.val t.val) with st := .waitMem, fencing := true, waitLen := 4 }) ∧
        s.onlyThread f.val t.val s') ∧
      s' = { s with regs := s'.regs, crofters := s'.crofters } ∧
      s.onlyRegs [.CRF_FAULT_HEAD, .CRF_FAULTk, .CRF_INST_COUNT] s') ∧
  (∀ (f : FieldId) (t : ThreadId) (a : XtArgs) (s : State), s.mayRun f.val t.val = true ∧ a.rd.val = 0 ∧ a.rs2.val =
        0 ∧ a.rs3.val = 0 ∧ a.aq = false ∧ a.rl = false →
    ∃ s', exec (.xtPause f t a) s = .next s' ∧
      ((bits ((s.thread f.val t.val).xr a.rs1) 0 16 = 0 → s'.thread f.val t.val = (s.thread f.val t.val).retired 4) ∧
  (bits ((s.thread f.val t.val).xr a.rs1) 0 16 ≠ 0 → s'.thread f.val t.val =
    ({ (s.thread f.val t.val) with st := .paused, pause := bits ((s.thread f.val t.val).xr a.rs1) 0 16 } :
        Thread).retired 4) ∧ s.onlyThread f.val t.val s') ∧
      s' = { s with regs := s'.regs, crofters := s'.crofters } ∧
      s.onlyRegs [.CRF_FAULT_HEAD, .CRF_FAULTk, .CRF_INST_COUNT] s') ∧
  (∀ (f : FieldId) (t : ThreadId) (s : State), s.fieldRuns f.val = true ∧ (s.thread f.val t.val).st = .paused →
    ∃ s', exec (.pauseExpire f t) s = .next s' ∧
      (s'.thread f.val t.val = { (s.thread f.val t.val) with st := .ready, pause := 0 } ∧ s.onlyThread f.val t.val
        s') ∧
      s' = { s with crofters := s'.crofters }) ∧
  (∀ (f : FieldId) (t : ThreadId) (a : XtArgs) (s : State), s.mayRun f.val t.val = true ∧ a.rd.val = 0 ∧ a.rs2.val =
        0 ∧ a.rs3.val = 0 ∧ a.aq = false ∧ a.rl = false →
    ∃ s', exec (.xtExit f t a) s = .next s' ∧
      ((s'.thread f.val t.val).st = .free ∧ (s'.thread f.val t.val).sheaf = none ∧ s.onlyThread f.val t.val s' ∧
  (∀ x ∈ s.seq.sheaves, (s.thread f.val t.val).sheaf ≠ some x.serial → x ∈ s'.seq.sheaves) ∧
  (∀ x ∈ s.seq.sheaves, (s.thread f.val t.val).sheaf = some x.serial → ∃ y ∈ s'.seq.sheaves, y.serial = x.serial ∧
    y.threadsLeft = x.threadsLeft - 1)) ∧
      s' = { s with
          regs := s'.regs, commons := s'.commons, crofters := s'.crofters, tallies := s'.tallies,
          seq := s'.seq } ∧
      s.onlyRegs [.CRF_FAULT_HEAD, .CRF_FAULTk, .CRF_INST_COUNT] s') ∧
  (∀ (f : FieldId) (t : ThreadId) (a : XtArgs) (s : State), s.mayRun f.val t.val = true ∧ a.rd.val = 0 ∧ a.rs1.val =
        0 ∧ a.rs2.val = 0 ∧ a.rs3.val = 0 ∧ a.aq = false ∧
  a.rl = false →
    ∃ s', exec (.xtBell f t a) s = .next s' ∧
      (s'.thread f.val t.val = (s.thread f.val t.val).retired 4 ∧ s.onlyThread f.val t.val s' ∧
  s'.getF RF.CRF_BELL_COUNT_COUNT f.val 0 = wrapAdd RF.CRF_BELL_COUNT_COUNT.w (s.getF RF.CRF_BELL_COUNT_COUNT f.val
        0) 1 ∧
  (s'.crofters.bells.look quietBell f.val).rang = true) ∧
      s' = { s with regs := s'.regs, crofters := s'.crofters } ∧
      s.onlyRegs [.CRF_BELL_COUNT, .CRF_FAULT_HEAD, .CRF_FAULTk, .CRF_INST_COUNT] s') ∧
  (∀ (f : FieldId) (t : ThreadId) (a : XtArgs) (s : State), s.mayRun f.val t.val = true ∧ (s.thread f.val t.val).priv
        = .m ∧ a.rd.val = 0 ∧ a.rs2.val = 0 ∧ a.rs3.val = 0 ∧ a.aq = false ∧
  a.rl = false →
    ∃ s', exec (.xtKill f t a) s = .next s' ∧
      ((s'.thread f.val t.val).st = .free ∧ (s'.thread f.val t.val).sheaf = none ∧ s.onlyThread f.val t.val s' ∧
  (∀ x ∈ s.seq.sheaves, (s.thread f.val t.val).sheaf = some x.serial → ∃ y ∈ s'.seq.sheaves, y.serial = x.serial ∧
    y.threadsFailed = x.threadsFailed + 1)) ∧
      s' = { s with
          regs := s'.regs, commons := s'.commons, crofters := s'.crofters, tallies := s'.tallies,
          seq := s'.seq } ∧
      s.onlyRegs [.CRF_FAULT_HEAD, .CRF_FAULTk, .CRF_INST_COUNT] s')

/-- For every thread that may run its next instruction and whose address reaches a tally of a field in service:
  xt.tread, xt.tadd, xt.tset and xt.tcas return the word as it stood before and leave the tally as R146 to R148 say;
  xt.twait returns the word at once or parks the thread; xt.tarm and xt.tchain enter a waiter and return the word; an
  issue of a readable, valid descriptor for a field of the own wafer leaves the thread waiting for its status, the
  enqueue puts the task into the unit's queue, and the status returns in rd. -/
def Obligations.TallyInstructions : Prop :=
  (∀ (f : FieldId) (t : ThreadId) (a : XtArgs) (k : Nat) (s : State), a.rs2.val = 0 ∧ a.rs3.val = 0 ∧ (a.rl &&
        s.unperformed f.val t.val) = false ∧ s.tallyReady f.val t.val ((s.thread f.val t.val).xr a.rs1) 1 k false =
        true →
    ∃ s', exec (.xtTread f t a) s = .next s' ∧
      (s'.thread f.val t.val = ((s.thread f.val t.val).setX a.rd (s.tallyWord k)).retired 4 ∧ s'.tally k = s.tally k
        ∧ s.onlyThread f.val t.val s' ∧ (∀ j, j ≠ k → s'.tally j = s.tally j)) ∧
      s' = { s with
          regs := s'.regs, commons := s'.commons, crofters := s'.crofters, tallies := s'.tallies,
          out := s'.out } ∧
      s.onlyRegs [.CRF_FAULT_HEAD, .CRF_FAULTk, .CRF_INST_COUNT, .FLD_CMN_DENIED, .FLD_CMN_ERR_ADDR,
        .FLD_CMN_ERR_SOURCE, .FLD_CMN_ERR_STATUS, .TLY_DUP_COUNT, .TLY_ERR_STATUS, .TLY_OPS, .TLY_REFUSED] s') ∧
  (∀ (f : FieldId) (t : ThreadId) (a : XtArgs) (k : Nat) (s : State), a.rs3.val = 0 ∧ (a.rl && s.unperformed f.val
        t.val) = false ∧ s.tallyReady f.val t.val ((s.thread f.val t.val).xr a.rs1) 3 k true = true →
    ∃ s', exec (.xtTadd f t a) s = .next s' ∧
      (s'.thread f.val t.val = ((s.thread f.val t.val).setX a.rd (s.tallyWord k)).retired 4 ∧
  s'.tally k = ⟨(tallySum (s.tally k).count ((s.thread f.val t.val).xr a.rs2)).1, (s.tally k).err, (s.tally k).ovf ||
    (tallySum (s.tally k).count ((s.thread f.val t.val).xr a.rs2)).2.1 || (tallySum (s.tally k).count ((s.thread
        f.val t.val).xr a.rs2)).2.2⟩ ∧ s.onlyThread f.val t.val s' ∧ (∀ j, j ≠ k → s'.tally j = s.tally j)) ∧
      s' = { s with
          regs := s'.regs, commons := s'.commons, crofters := s'.crofters, tallies := s'.tallies,
          out := s'.out } ∧
      s.onlyRegs [.CRF_FAULT_HEAD, .CRF_FAULTk, .CRF_INST_COUNT, .FLD_CMN_DENIED, .FLD_CMN_ERR_ADDR,
        .FLD_CMN_ERR_SOURCE, .FLD_CMN_ERR_STATUS, .TLY_DUP_COUNT, .TLY_ERR_STATUS, .TLY_OPS, .TLY_REFUSED] s') ∧
  (∀ (f : FieldId) (t : ThreadId) (a : XtArgs) (k : Nat) (s : State), a.rs3.val = 0 ∧ (a.rl && s.unperformed f.val
        t.val) = false ∧ s.tallyReady f.val t.val ((s.thread f.val t.val).xr a.rs1) 3 k true = true →
    ∃ s', exec (.xtTset f t a) s = .next s' ∧
      (s'.thread f.val t.val = ((s.thread f.val t.val).setX a.rd (s.tallyWord k)).retired 4 ∧
  s'.tally k = ⟨bits ((s.thread f.val t.val).xr a.rs2) 0 48, false, false⟩ ∧ s.onlyThread f.val t.val s' ∧ (∀ j, j ≠
        k → s'.tally j = s.tally j)) ∧
      s' = { s with
          regs := s'.regs, commons := s'.commons, crofters := s'.crofters, tallies := s'.tallies,
          out := s'.out } ∧
      s.onlyRegs [.CRF_FAULT_HEAD, .CRF_FAULTk, .CRF_INST_COUNT, .FLD_CMN_DENIED, .FLD_CMN_ERR_ADDR,
        .FLD_CMN_ERR_SOURCE, .FLD_CMN_ERR_STATUS, .TLY_DUP_COUNT, .TLY_ERR_STATUS, .TLY_OPS, .TLY_REFUSED] s') ∧
  (∀ (f : FieldId) (t : ThreadId) (a : XtArgs) (k : Nat) (s : State), s.unperformed f.val t.val = false ∧
        s.tallyReady f.val t.val ((s.thread f.val t.val).xr a.rs1) 3 k true = true →
    ∃ s', exec (.xtTcas f t a) s = .next s' ∧
      (s'.thread f.val t.val = ((s.thread f.val t.val).setX a.rd (s.tallyWord k)).retired 4 ∧
  s'.tally k = ⟨if (s.tally k).count = bits ((s.thread f.val t.val).xr a.rs3) 0 48 then bits ((s.thread f.val
        t.val).xr a.rs2) 0 48 else (s.tally k).count, (s.tally k).err, (s.tally k).ovf⟩ ∧ s.onlyThread f.val t.val s'
        ∧ (∀ j, j ≠ k → s'.tally j = s.tally j)) ∧
      s' = { s with
          regs := s'.regs, commons := s'.commons, crofters := s'.crofters, tallies := s'.tallies,
          out := s'.out } ∧
      s.onlyRegs [.CRF_FAULT_HEAD, .CRF_FAULTk, .CRF_INST_COUNT, .FLD_CMN_DENIED, .FLD_CMN_ERR_ADDR,
        .FLD_CMN_ERR_SOURCE, .FLD_CMN_ERR_STATUS, .TLY_DUP_COUNT, .TLY_ERR_STATUS, .TLY_OPS, .TLY_REFUSED] s') ∧
  (∀ (f : FieldId) (t : ThreadId) (a : XtArgs) (k : Nat) (s : State), a.rs3.val = 0 ∧ (a.rl && s.unperformed f.val
        t.val) = false ∧ s.tallyReady f.val t.val ((s.thread f.val t.val).xr a.rs1) 1 k true = true →
    ∃ s', exec (.xtTwait f t a) s = .next s' ∧
      ((bits ((s.thread f.val t.val).xr a.rs2) 0 48 ≤ (s.tally k).count →
    s'.thread f.val t.val = ((s.thread f.val t.val).setX a.rd (s.tallyWord k)).retired 4) ∧
  ((s.tally k).count < bits ((s.thread f.val t.val).xr a.rs2) 0 48 → s.noRoom k false = false →
    s'.thread f.val t.val = { (s.thread f.val t.val) with st := .waitTally, waitRd := a.rd.val }) ∧ s'.tally k =
        s.tally k ∧ s.onlyThread f.val t.val s' ∧ (∀ j, j ≠ k → s'.tally j = s.tally j)) ∧
      s' = { s with
          regs := s'.regs, commons := s'.commons, crofters := s'.crofters, tallies := s'.tallies,
          out := s'.out } ∧
      s.onlyRegs [.CRF_FAULT_HEAD, .CRF_FAULTk, .CRF_INST_COUNT, .FLD_CMN_DENIED, .FLD_CMN_ERR_ADDR,
        .FLD_CMN_ERR_SOURCE, .FLD_CMN_ERR_STATUS, .TLY_DUP_COUNT, .TLY_ERR_STATUS, .TLY_OPS, .TLY_REFUSED] s') ∧
  (∀ (f : FieldId) (t : ThreadId) (a : XtArgs) (k : Nat) (s : State), a.rs3.val = 0 ∧ (a.rl && s.unperformed f.val
        t.val) = false ∧ (s.tally k).count < bits ((s.thread f.val t.val).xr a.rs2) 0 48 ∧ s.noRoom k false = false ∧
  s.tallies.waiters.any (fun x => x.tally == k && x.kind.isArm) = false ∧ s.tallyReady f.val t.val ((s.thread f.val
        t.val).xr a.rs1) 3 k true = true →
    ∃ s', exec (.xtTarm f t a) s = .next s' ∧
      (s'.thread f.val t.val = ((s.thread f.val t.val).setX a.rd (s.tallyWord k)).retired 4 ∧
  (∃ w, s'.tallies.waiters = s.tallies.waiters ++ [w] ∧ w.tally = k ∧ w.kind = .arm ∧
    w.threshold = bits ((s.thread f.val t.val).xr a.rs2) 0 48) ∧ s'.tally k = s.tally k ∧ s.onlyThread f.val t.val s'
        ∧ (∀ j, j ≠ k → s'.tally j = s.tally j)) ∧
      s' = { s with
          regs := s'.regs, commons := s'.commons, crofters := s'.crofters, tallies := s'.tallies,
          out := s'.out } ∧
      s.onlyRegs [.CRF_FAULT_HEAD, .CRF_FAULTk, .CRF_INST_COUNT, .FLD_CMN_DENIED, .FLD_CMN_ERR_ADDR,
        .FLD_CMN_ERR_SOURCE, .FLD_CMN_ERR_STATUS, .TLY_DUP_COUNT, .TLY_ERR_STATUS, .TLY_OPS, .TLY_REFUSED] s') ∧
  (∀ (f : FieldId) (t : ThreadId) (a : XtArgs) (k : Nat) (desc : List Byte) (s : State), s.unperformed f.val t.val =
        false ∧ s.eaBad f.val t.val ((s.thread f.val t.val).xr a.rs3) 64 1 = false ∧
  s.readDesc f.val ((s.thread f.val t.val).xr a.rs3).toNat = (s, .ok desc) ∧ desc.length = 64 ∧
  (s.tally k).count < bits ((s.thread f.val t.val).xr a.rs2) 0 48 ∧ s.noRoom k true = false ∧
  s.tallyReady f.val t.val ((s.thread f.val t.val).xr a.rs1) 3 k true = true →
    ∃ s', exec (.xtTchain f t a) s = .next s' ∧
      (s'.thread f.val t.val = ((s.thread f.val t.val).setX a.rd (s.tallyWord k)).retired 4 ∧
  (∃ w, s'.tallies.waiters = s.tallies.waiters ++ [w] ∧ w.tally = k ∧ w.threshold = bits ((s.thread f.val t.val).xr
        a.rs2) 0 48 ∧
    w.kind = .chain desc (bit ((s.thread f.val t.val).xr a.rs2) 63) f (s.parishOf f.val)) ∧ s'.tally k = s.tally k) ∧
      s' = { s with
          serial := s'.serial, regs := s'.regs, mem := s'.mem, commons := s'.commons,
          crofters := s'.crofters, tallies := s'.tallies, out := s'.out } ∧
      s.onlyRegs [.CRF_FAULT_HEAD, .CRF_FAULTk, .CRF_INST_COUNT, .FLD_CMN_DENIED, .FLD_CMN_ERR_ADDR,
        .FLD_CMN_ERR_SOURCE, .FLD_CMN_ERR_STATUS, .FLD_CMN_FRESH_FILLS, .FLD_CMN_FRESH_READS, .TLY_DUP_COUNT,
        .TLY_ERR_STATUS, .TLY_OPS, .TLY_REFUSED] s') ∧
  (∀ (f : FieldId) (t : ThreadId) (a : XtArgs) (desc : List Byte) (s : State), s.mayRun f.val t.val = true ∧
        a.rs2.val = 0 ∧ a.rs3.val = 0 ∧ a.aq = false ∧ a.rl = false ∧
  s.unperformed f.val t.val = false ∧ s.eaBad f.val t.val ((s.thread f.val t.val).xr a.rs1) 64 1 = false ∧
  s.readDesc f.val ((s.thread f.val t.val).xr a.rs1).toNat = (s, .ok desc) ∧ (descTarget s f.val desc).1 = s.ownWafer
        ∧
  (descTarget s f.val desc).2 < 80 →
    ∃ s', exec (.xtIssue f t a) s = .next s' ∧
      (s'.thread f.val t.val = { (s.thread f.val t.val) with st := .waitIssue, waitRd := a.rd.val, waitDesc := desc }
        ∧
  s'.crofters.issues = s.crofters.issues ++ [⟨s.commons.nextReq, f.val, t.val, a.rd.val, desc, s.parishOf f.val, none,
    false, s.now⟩] ∧ s.onlyThread f.val t.val s' ∧ s'.mem = s.mem) ∧
      s' = { s with
          serial := s'.serial, regs := s'.regs, mem := s'.mem, commons := s'.commons,
          crofters := s'.crofters, out := s'.out } ∧
      s.onlyRegs [.CRF_FAULT_HEAD, .CRF_FAULTk, .CRF_INST_COUNT, .CRF_ISSUE_COUNT, .FLD_CMN_DENIED,
        .FLD_CMN_ERR_ADDR, .FLD_CMN_ERR_SOURCE, .FLD_CMN_ERR_STATUS, .FLD_CMN_FRESH_FILLS, .FLD_CMN_FRESH_READS] s') ∧
  (∀ (f : FieldId) (t : ThreadId) (a : XtArgs) (desc : List Byte) (s : State), s.mayRun f.val t.val = true ∧
        a.rs2.val = 0 ∧ a.rs3.val = 0 ∧ a.aq = false ∧ a.rl = false ∧
  s.unperformed f.val t.val = false ∧ s.eaBad f.val t.val ((s.thread f.val t.val).xr a.rs1) 64 1 = false ∧
  s.readDesc f.val ((s.thread f.val t.val).xr a.rs1).toNat = (s, .ok desc) ∧ (descTarget s f.val desc).1 = s.ownWafer
        ∧
  (descTarget s f.val desc).2 < 80 →
    ∃ s', exec (.xtIssueW f t a) s = .next s' ∧
      (s'.thread f.val t.val = { (s.thread f.val t.val) with st := .waitIssue, waitRd := a.rd.val, waitDesc := desc }
        ∧
  s'.crofters.issues = s.crofters.issues ++ [⟨s.commons.nextReq, f.val, t.val, a.rd.val, desc, s.parishOf f.val, none,
    true, s.now⟩] ∧ s.onlyThread f.val t.val s' ∧ s'.mem = s.mem) ∧
      s' = { s with
          serial := s'.serial, regs := s'.regs, mem := s'.mem, commons := s'.commons,
          crofters := s'.crofters, out := s'.out } ∧
      s.onlyRegs [.CRF_FAULT_HEAD, .CRF_FAULTk, .CRF_INST_COUNT, .CRF_ISSUE_COUNT, .FLD_CMN_DENIED,
        .FLD_CMN_ERR_ADDR, .FLD_CMN_ERR_SOURCE, .FLD_CMN_ERR_STATUS, .FLD_CMN_FRESH_FILLS, .FLD_CMN_FRESH_READS] s') ∧
  (∀ (ref : IssueRef) (id : Nat) (r : IssueReq) (u : Nat) (s : State), ref = .own id ∧ s.crofters.issues.find? (fun r
        => decide (r.id = id) && r.status.isNone) = some r ∧
  (descTarget s r.field r.desc).1 = s.ownWafer ∧ s.stopped (descTarget s r.field r.desc).2 = false ∧
  s.halted = false ∧
  s.enqueueReady (descTarget s r.field r.desc).2 r.desc (s.engineSource r.field r.parish 6) u = true →
    ∃ s', exec (.taskEnqueue ref) s = .next s' ∧
      ((s'.engine (descTarget s r.field r.desc).2 u).queue.map (·.desc) =
    (s.engine (descTarget s r.field r.desc).2 u).queue.map (·.desc) ++ [r.desc] ∧
  (∀ q ∈ s'.crofters.issues, q.id = id → q.status = some ((s.engine (descTarget s r.field r.desc).2 u).nextTag *
        65536))) ∧
      s' = { s with
          serial := s'.serial, regs := s'.regs, crofters := s'.crofters, engines := s'.engines,
          out := s'.out } ∧
      s.onlyRegs [.FLD_CMN_DENIED, .FLD_CMN_ERR_ADDR, .FLD_CMN_ERR_SOURCE, .FLD_CMN_ERR_STATUS] s') ∧
  (∀ (id : Nat) (remote : BitVec 32) (r : IssueReq) (code : Nat) (s : State), s.crofters.issues.find? (fun r =>
        decide (r.id = id)) = some r ∧ s.stopped r.field = false ∧ s.halted = false ∧
  (if s.issueLocal r then r.status else some remote.toNat) = some code ∧ (r.wait && decide (code % 256 = issueFull))
        = false →
    ∃ s', exec (.issueStatusReturn id remote) s = .next s' ∧
      (s'.thread r.field r.thread = ((({ s.thread r.field r.thread with st := .ready, waitDesc := [] } : Thread).setX
    (Fin.ofNat 32 r.rd) (BitVec.ofNat 64 code)).retired 4) ∧ (∀ q ∈ s'.crofters.issues, q.id ≠ id)) ∧
      s' = { s with regs := s'.regs, crofters := s'.crofters } ∧
      s.onlyRegs [.CRF_INST_COUNT, .CRF_ISSUE_COUNT] s') ∧
  (∀ (id : Nat) (r : IssueReq) (code u : Nat) (s : State), s.crofters.issues.find? (fun r => decide (r.id = id)) =
        some r ∧ r.wait = true ∧ s.stopped r.field = false ∧
  s.halted = false ∧ r.status = some code ∧ code % 256 = issueFull ∧ s.issueLocal r = true ∧
  s.stopped (descTarget s r.field r.desc).2 = false ∧
  s.enqueueReady (descTarget s r.field r.desc).2 r.desc (s.engineSource r.field r.parish 6) u = true →
    ∃ s', exec (.issueWRetry id) s = .next s' ∧
      ((s'.engine (descTarget s r.field r.desc).2 u).queue.map (·.desc) =
    (s.engine (descTarget s r.field r.desc).2 u).queue.map (·.desc) ++ [r.desc] ∧
  (∀ q ∈ s'.crofters.issues, q.id = id → q.status = some ((s.engine (descTarget s r.field r.desc).2 u).nextTag *
        65536))) ∧
      s' = { s with
          serial := s'.serial, regs := s'.regs, crofters := s'.crofters, engines := s'.engines,
          out := s'.out } ∧
      s.onlyRegs [.FLD_CMN_DENIED, .FLD_CMN_ERR_ADDR, .FLD_CMN_ERR_SOURCE, .FLD_CMN_ERR_STATUS] s')

/-- A write of a disabled parish's field set that meets no other enabled parish's fields is taken; an ENABLE without
  such a conflict is stored and, once every field is verified, gives the set's in-service fields the parish's binding
  as owner; a cancel and a disable make the parish's cancel BUSY, and the end of the cancel clears it and every
  ring's ENABLE; a write of a ring's CTL with ENABLE takes LOC, SIZE up to 12, WEIGHT at least 1, IRQ and VECTOR; a
  doorbell sets SQ_TAIL and a value beyond the ring ERR; disabling clears ENABLE; RQ_HEAD takes what is written. -/
def Obligations.ParishesAndRings : Prop :=
  (∀ (p : ParishId) (hi : Bool) (v : Word) (s : State), s.parishOn p.val = false ∧ s.setConflict p.val (if hi then
        bits v 0 16 * 2 ^ 64 else v.toNat) = false →
    ∃ s', exec (.parishFieldsWrite p hi v) s = .next s' ∧
      ((hi = true → s'.getF RF.WFR_PAR_FIELDS_HI_FIELDS p.val 0 = bits v 0 16) ∧
  (hi = false → s'.getF RF.WFR_PAR_FIELDS_LO_FIELDS p.val 0 = v.toNat)) ∧
      s' = { s with regs := s'.regs } ∧
      s.onlyRegs [.WFR_PAR_CTL, .WFR_PAR_FIELDS_HI, .WFR_PAR_FIELDS_LO] s') ∧
  (∀ (p : ParishId) (hi : Bool) (v : Word) (s : State), s.parishOn p.val = false ∧ s.setConflict p.val (if hi then
        bits v 0 16 * 2 ^ 64 else v.toNat) = true →
    ∃ s', exec (.parishFieldsWrite p hi v) s = .next s' ∧
      (s'.flag RF.WFR_PAR_CTL_SET_ERR p.val 0 = true ∧ s'.parishMask p.val = s.parishMask p.val) ∧
      s' = { s with regs := s'.regs } ∧
      s.onlyRegs [.WFR_PAR_CTL, .WFR_PAR_FIELDS_HI, .WFR_PAR_FIELDS_LO] s') ∧
  (∀ (p : ParishId) (s : State), s.parishOn p.val = false ∧ s.flag RF.RVE_LIFECYCLE_OUT_OF_SERVICE 0 0 = false ∧
  s.setConflict p.val (s.parishMask p.val) = false →
    ∃ s', exec (.parishEnable p) s = .next s' ∧
      (s'.flag RF.WFR_PAR_CTL_ENABLE p.val 0 = true ∧
  ((s.setFlag RF.WFR_PAR_CTL_ENABLE p.val 0 true).verified p.val = true →
    ∀ f : Nat, f < 80 → (s.parishMask p.val).testBit f = true → s.inService f = true → s'.owner f = s.binding p.val))
        ∧
      s' = { s with regs := s'.regs, crofters := s'.crofters, reeve := s'.reeve } ∧
      s.onlyRegs [.RVE_FLDf_OWNER, .WFR_PAR_CTL] s') ∧
  (∀ (p : ParishId) (s : State), s.parishEffective p.val = true →
    ∃ s', exec (.parishUnblock p) s = .next s' ∧
      (∀ f : Nat, f < 80 → (s.parishMask p.val).testBit f = true → s.inService f = true → s'.owner f = s.binding
        p.val) ∧
      s' = { s with regs := s'.regs, crofters := s'.crofters, reeve := s'.reeve } ∧
      s.onlyRegs [.RVE_FLDf_OWNER] s') ∧
  (∀ (p : ParishId) (s : State), s.flag RF.WFR_PAR_CANCEL_BUSY p.val 0 = false →
    ∃ s', exec (.parishCancel p) s = .next s' ∧
      (s'.flag RF.WFR_PAR_CANCEL_BUSY p.val 0 = true ∧ p.val ∈ s'.seq.cancelling) ∧
      s' = { s with
          serial := s'.serial, regs := s'.regs, mem := s'.mem, commons := s'.commons,
          crofters := s'.crofters, tallies := s'.tallies, engines := s'.engines, seq := s'.seq,
          resets := s'.resets, host := s'.host, out := s'.out }) ∧
  (∀ (p : ParishId) (s : State), s.flag RF.WFR_PAR_CTL_ENABLE p.val 0 = true →
    ∃ s', exec (.parishDisable p) s = .next s' ∧
      (s'.flag RF.WFR_PAR_CTL_ENABLE p.val 0 = false ∧ s'.flag RF.WFR_PAR_CANCEL_BUSY p.val 0 = true) ∧
      s' = { s with
          serial := s'.serial, regs := s'.regs, mem := s'.mem, commons := s'.commons,
          crofters := s'.crofters, tallies := s'.tallies, engines := s'.engines, seq := s'.seq,
          resets := s'.resets, host := s'.host, out := s'.out }) ∧
  (∀ (p : ParishId) (s : State), s.flag RF.WFR_PAR_CANCEL_BUSY p.val 0 = true ∧ s.seq.sheaves.any (fun x => decide
        (x.parish = p.val)) = false →
    ∃ s', exec (.parishCancelDone p) s = .next s' ∧
      (s'.flag RF.WFR_PAR_CANCEL_BUSY p.val 0 = false ∧ p.val ∉ s'.seq.cancelling ∧
  (∀ r : Nat, r < 64 → s'.flag RF.WFR_RINGr_CTL_ENABLE p.val r = false)) ∧
      s' = { s with regs := s'.regs, seq := s'.seq } ∧
      s.onlyRegs [.WFR_PAR_CANCEL, .WFR_RINGr_CTL] s') ∧
  (∀ (p : ParishId) (r : RingId) (v : BitVec 16) (s : State), s.h0Frozen = false ∧ s.host.flr.contains (p.val + 1) =
        false ∧ s.boot.stage = .ready ∧ s.stopped 4 = false ∧
  s.halted = false →
    ∃ s', exec (.ringDoorbell p r v) s = .next s' ∧
      (s'.getF RF.WFR_RINGr_SQ_PTR_SQ_TAIL p.val r.val = v.toNat ∧
  (s.ringEntries p.val r.val ≤ v.toNat → s'.flag RF.WFR_RINGr_STAT_ERR p.val r.val = true) ∧
  (v.toNat < s.ringEntries p.val r.val → s'.rd .WFR_RINGr_STAT p.val r.val = s.rd .WFR_RINGr_STAT p.val r.val)) ∧
      s' = { s with regs := s'.regs, seq := s'.seq, host := s'.host } ∧
      s.onlyRegs [.WFR_RINGr_SQ_PTR, .WFR_RINGr_STAT] s') ∧
  (∀ (p : ParishId) (r : RingId) (v : Word) (s : State), s.flag RF.WFR_RINGr_CTL_ENABLE p.val r.val = false ∧ bit v 0
        = true →
    ∃ s', exec (.ringEnable p r v) s = .next s' ∧
      (s'.flag RF.WFR_RINGr_CTL_ENABLE p.val r.val = true ∧ s'.getF RF.WFR_RINGr_CTL_LOC p.val r.val = bits v 1 1 ∧
  s'.getF RF.WFR_RINGr_CTL_SIZE p.val r.val =
    (if bits v 2 4 ≤ 12 then bits v 2 4 else s.getF RF.WFR_RINGr_CTL_SIZE p.val r.val) ∧
  s'.getF RF.WFR_RINGr_CTL_WEIGHT p.val r.val = max 1 (bits v 6 4) ∧
  s'.getF RF.WFR_RINGr_CTL_IRQ p.val r.val = bits v 10 1 ∧ s'.getF RF.WFR_RINGr_CTL_VECTOR p.val r.val = bits v 16
        11) ∧
      s' = { s with regs := s'.regs } ∧
      s.onlyRegs [.WFR_RINGr_CTL] s') ∧
  (∀ (p : ParishId) (r : RingId) (s : State), s.flag RF.WFR_RINGr_CTL_ENABLE p.val r.val = true →
    ∃ s', exec (.ringDisable p r) s = .next s' ∧
      (s'.flag RF.WFR_RINGr_CTL_ENABLE p.val r.val = false) ∧
      s' = { s with
          serial := s'.serial, regs := s'.regs, mem := s'.mem, commons := s'.commons,
          crofters := s'.crofters, tallies := s'.tallies, engines := s'.engines, seq := s'.seq,
          resets := s'.resets, host := s'.host, out := s'.out }) ∧
  (∀ (p : ParishId) (r : RingId) (v : BitVec 16) (s : State), ∃ s', exec (.ringRqHeadWrite p r v) s = .next s' ∧
      (s'.getF RF.WFR_RINGr_RQ_PTR_RQ_HEAD p.val r.val = v.toNat) ∧
      s' = { s with regs := s'.regs } ∧
      s.onlyRegs [.WFR_RINGr_RQ_PTR] s')

/-- A ring that may fetch takes the sheaf the host returned as the next sheaf and advances SQ_HEAD; a refused
  dependency wait is placed again at its tally; a dependency that returns without error is met; the sheaf picked next
  leaves waiting and the turn moves on; each acknowledged burst of a COPY or SEND counts its bytes and the last one
  ends the sheaf; a burst received for a formed loose muster is written and answered; a completing sheaf's receipt
  goes to the host, RQ_TAIL advances, PHASE flips on the wrap, and the sheaf leaves the list. -/
def Obligations.SheavesRunToTheirReceipts : Prop :=
  (∀ (p : ParishId) (r : RingId) (hostData : List Byte) (hostStatus : AccStatusCode) (s : State), hostData.length =
        128 ∧ s.canFetch p.val r.val = true ∧ s.flag RF.WFR_RINGr_CTL_LOC p.val r.val = false ∧
  s.fnOn (p.val + 1) = true ∧ AccStatus.ofCode hostStatus.toNat = .ok ∧ s.getF RF.WFR_RINGr_CTL_SIZE p.val r.val ≤ 12
        →
    ∃ s', exec (.sheafFetch p r hostData hostStatus) s = .next s' ∧
      (s'.seq.sheaves.map (·.raw) = s.seq.sheaves.map (·.raw) ++ [hostData] ∧
  s'.seq.nextSerial = s.seq.nextSerial + 1 ∧ s'.getF RF.WFR_RINGr_SQ_PTR_SQ_HEAD p.val r.val =
    (s.getF RF.WFR_RINGr_SQ_PTR_SQ_HEAD p.val r.val + 1) % s.ringEntries p.val r.val) ∧
      s' = { s with
          serial := s'.serial, regs := s'.regs, mem := s'.mem, commons := s'.commons,
          crofters := s'.crofters, tallies := s'.tallies, seq := s'.seq, host := s'.host, out := s'.out } ∧
      s.onlyRegs [.FLD_CMN_DENIED, .FLD_CMN_ERR_ADDR, .FLD_CMN_ERR_SOURCE, .FLD_CMN_ERR_STATUS, .FLD_CMN_FRESH_FILLS,
        .FLD_CMN_FRESH_READS, .HST_PORT_EVENT, .HST_PORT_MSIX_DROP, .PWR_EVENT, .TLY_DUP_COUNT, .TLY_ERR_STATUS,
        .TLY_OPS, .TLY_REFUSED, .WFR_RINGr_SQ_PTR, .WFR_RINGr_STAT] s') ∧
  (∀ (serial : Nat) (d : Fin 4) (x : Sheaf) (g off : Nat) (tx : TxId) (s : State), s.sheaf? serial = some x ∧
        s.seqActive = true ∧ x.depsRefused.contains d.val = true ∧ x.phase = .waiting ∧
  s.locate (s.parishSource x.parish) (x.depTally d.val) 8 false false = .at g 3 off ∧ off < 0x40000 ∧
  (s.tally (tallyKey g (off / 64))).count < x.depThreshold d.val ∧ s.noRoom (tallyKey g (off / 64)) false = false ∧
  tx = ⟨4, BitVec.ofNat 16 (s.tallies.nextTx.look 0 4)⟩ ∧
  (g ≠ 4 → s.dupResult g (some tx) = none ∧ s.entries.any (fun y => y.tx == some tx) = false) →
    ∃ s', exec (.depWaitRetry serial d) s = .next s' ∧
      ((∃ w, s'.tallies.waiters = s.tallies.waiters ++ [w] ∧ w.tally = tallyKey g (off / 64) ∧
    w.threshold = x.depThreshold d.val ∧ w.kind = .wait (.dep serial d.val))) ∧
      s' = { s with
          regs := s'.regs, commons := s'.commons, tallies := s'.tallies, seq := s'.seq, out := s'.out } ∧
      s.onlyRegs [.FLD_CMN_DENIED, .FLD_CMN_ERR_ADDR, .FLD_CMN_ERR_SOURCE, .FLD_CMN_ERR_STATUS, .TLY_DUP_COUNT,
        .TLY_ERR_STATUS, .TLY_OPS, .TLY_REFUSED] s') ∧
  (∀ (serial d : Nat) (w : Word) (l : List (Nat × Nat × Word)) (x : Sheaf) (s : State), s.seq.depReturns = (serial,
        d, w) :: l ∧ s.seqActive = true ∧ s.sheaf? serial = some x ∧ x.phase = .waiting ∧
  bit w 61 = false ∧ bit w 62 = false ∧ bit w 63 = false ∧ (bit w 48 && x.depErrFails d) = false →
    ∃ s', exec .depSatisfied s = .next s' ∧
      (s'.seq.depReturns = l ∧ (∀ y ∈ s'.seq.sheaves, y.serial = serial → d ∈ y.depsMet ∧ y.phase = .waiting)) ∧
      s' = { s with
          regs := s'.regs, commons := s'.commons, tallies := s'.tallies, seq := s'.seq, out := s'.out } ∧
      s.onlyRegs [.FLD_CMN_DENIED, .FLD_CMN_ERR_ADDR, .FLD_CMN_ERR_SOURCE, .FLD_CMN_ERR_STATUS, .TLY_DUP_COUNT,
        .TLY_ERR_STATUS, .TLY_OPS, .TLY_REFUSED] s') ∧
  (∀ (p r used : Nat) (x : Sheaf) (s : State), s.seqActive = true ∧ s.getF RF.PWR_MOD_STAT_STATE 0 0 = 0 ∧ s.pickNext
        = some (p, r, used) ∧
  s.ringHead p r = some x ∧ s.seq.sheaves.any (fun x => decide (x.phase = .waiting ∧ x.kind = 0) &&
    decide (x.depsMet.length = x.depCount) && s.sleeping x.setMask) = false →
    ∃ s', exec .sheafDispatch s = .next s' ∧
      (s'.seq.turn = (p + 1) % 32 ∧ (∀ y ∈ s'.seq.sheaves, y.serial = x.serial → y.phase ≠ .waiting) ∧
  (x.kind = 1 → ∀ y ∈ s'.seq.sheaves, y.serial = x.serial → y.phase = .dispatched ∧ y.tDispatch = s.fabricTime)) ∧
      s' = { s with
          serial := s'.serial, regs := s'.regs, mem := s'.mem, crofters := s'.crofters,
          tallies := s'.tallies, seq := s'.seq, host := s'.host, out := s'.out } ∧
      s.onlyRegs [.FLD_CMN_DENIED, .FLD_CMN_ERR_ADDR, .FLD_CMN_ERR_SOURCE, .FLD_CMN_ERR_STATUS, .FLD_CMN_FRESH_FILLS,
        .FLD_CMN_FRESH_READS, .HST_PORT_EVENT, .HST_PORT_MSIX_DROP, .PWR_EVENT] s') ∧
  (∀ (serial : Nat) (x : Sheaf) (n : Nat) (data : List Byte) (s1 s2 : State) (s : State), s.sheaf? serial = some x ∧
        s.seqActive = true ∧ x.phase = .dispatched ∧ x.kind = 1 ∧
  n = min (min (4096 - (x.addrA + x.moved) % 4096) (4096 - (x.addrB + x.moved) % 4096)) (x.count - x.moved) ∧
  s.bulkRead (s.parishSource x.parish) (x.addrA + x.moved) n = (s1, ⟨data, none⟩) ∧
  s1.bulkWrite (s.parishSource x.parish) (x.addrB + x.moved) data = (s2, none) →
    ∃ s', exec (.copyBurstAck serial) s = .next s' ∧
      (s'.mem = s2.mem ∧ (∀ y ∈ s'.seq.sheaves, y.serial = serial → y.moved = x.moved + n ∧
    (x.moved + n = x.count → y.phase = .ending) ∧ (x.moved + n ≠ x.count → y.phase = .dispatched))) ∧
      s' = { s with
          serial := s'.serial, regs := s'.regs, mem := s'.mem, commons := s'.commons,
          crofters := s'.crofters, tallies := s'.tallies, seq := s'.seq, out := s'.out } ∧
      s.onlyRegs [.FLD_CMN_DENIED, .FLD_CMN_ERR_ADDR, .FLD_CMN_ERR_SOURCE, .FLD_CMN_ERR_STATUS, .FLD_CMN_FRESH_FILLS,
        .FLD_CMN_FRESH_READS] s') ∧
  (∀ (serial : Nat) (result : Fin 4) (x : Sheaf) (n : Nat) (s : State), s.sheaf? serial = some x ∧ s.seqActive = true
        ∧ x.phase = .dispatched ∧ x.kind = 2 ∧
  n = min (4096 - (x.addrA + x.moved) % 4096) (x.count - x.moved) ∧ (result.val = 0 → x.moved + n = x.count) ∧
  x.fail = none →
    ∃ s', exec (.sendBurstAck serial result) s = .next s' ∧
      ((∀ y ∈ s'.seq.sheaves, y.serial = serial → y.phase = .ending ∧
    (result.val = 0 → y.moved = x.moved + n) ∧
    (result.val ≠ 0 → y.fail = some ⟨0x08, if result.val = 1 then 1 else if result.val = 2 then 2 else 3, 0⟩))) ∧
      s' = { s with
          serial := s'.serial, regs := s'.regs, mem := s'.mem, crofters := s'.crofters,
          tallies := s'.tallies, seq := s'.seq, out := s'.out } ∧
      s.onlyRegs [.FLD_CMN_DENIED, .FLD_CMN_ERR_ADDR, .FLD_CMN_ERR_SOURCE, .FLD_CMN_ERR_STATUS, .FLD_CMN_FRESH_FILLS,
        .FLD_CMN_FRESH_READS] s') ∧
  (∀ (m : MusterId) (rack : BitVec 7) (wafer : WaferId) (serial : BitVec 64) (offset : BitVec 57) (data : List Byte)
        (last : Bool) (s1 : State) (s : State), s.musterState m.val = 2 ∧ s.getF RF.WFR_MUSm_CTL_KIND 0 m.val = 1 ∧
  offset.toNat + data.length ≤ 2 ^ (s.getF RF.WFR_MUSm_RX_RX_SIZE 0 m.val + 20) ∧
  s.bulkWrite (s.parishSource (s.getF RF.WFR_MUSm_CTL_PARISH 0 m.val))
    (s.getF RF.WFR_MUSm_RX_RX_BASE 0 m.val * 4096 + offset.toNat) data = (s1, none) →
    ∃ s', exec (.sendReceive m rack wafer serial offset data last) s = .next s' ∧
      (s'.mem = s1.mem ∧ (last = false → s'.out = s1.out ++ [.loose rack.toNat wafer.val 0x09 [serial.toNat, 0]])) ∧
      s' = { s with
          serial := s'.serial, regs := s'.regs, mem := s'.mem, commons := s'.commons,
          crofters := s'.crofters, tallies := s'.tallies, out := s'.out } ∧
      s.onlyRegs [.FLD_CMN_DENIED, .FLD_CMN_ERR_ADDR, .FLD_CMN_ERR_SOURCE, .FLD_CMN_ERR_STATUS, .FLD_CMN_FRESH_FILLS,
        .TLY_DUP_COUNT, .TLY_ERR_STATUS, .TLY_OPS] s') ∧
  (∀ (serial : Nat) (x : Sheaf) (s : State), s.sheaf? serial = some x ∧ s.canComplete x = true ∧ x.fatal = false ∧
  s.flag RF.WFR_RINGr_CTL_LOC x.parish x.ring = false ∧ s.fnOn (x.parish + 1) = true ∧
  s.getF RF.WFR_RINGr_CTL_SIZE x.parish x.ring ≤ 12 →
    ∃ s', exec (.sheafComplete serial) s = .next s' ∧
      ((∀ y ∈ s'.seq.sheaves, y.serial ≠ serial) ∧
  s'.getF RF.WFR_RINGr_RQ_PTR_RQ_TAIL x.parish x.ring =
    (s.getF RF.WFR_RINGr_RQ_PTR_RQ_TAIL x.parish x.ring + 1) % s.ringEntries x.parish x.ring ∧
  s'.flag RF.WFR_RINGr_RQ_PTR_PHASE x.parish x.ring =
    (s.flag RF.WFR_RINGr_RQ_PTR_PHASE x.parish x.ring ^^
      decide (s.getF RF.WFR_RINGr_RQ_PTR_RQ_TAIL x.parish x.ring + 1 = s.ringEntries x.parish x.ring)) ∧
  (∃ l, s'.out = s.out ++ .hostWrite (Fin.ofNat 33 (x.parish + 1)) (s.pasid (x.parish + 1))
    (s.getF RF.WFR_RINGr_RQ_BASE_BASE x.parish x.ring * 4096 + s.getF RF.WFR_RINGr_RQ_PTR_RQ_TAIL x.parish x.ring *
        64)
    (receipt x (s.flag RF.WFR_RINGr_RQ_PTR_PHASE x.parish x.ring) s.fabricTime) :: l)) ∧
      s' = { s with
          serial := s'.serial, regs := s'.regs, mem := s'.mem, commons := s'.commons,
          crofters := s'.crofters, tallies := s'.tallies, engines := s'.engines, seq := s'.seq,
          resets := s'.resets, host := s'.host, out := s'.out })

/-- A GO with a free handle on a free entry creates the entry with its handle; clearing GO frees it; an offer that
  matches the own digest is recorded and the last one forms the entry; the offer is repeated to every other member
  while the entry forms; at the timeout an entry with no sheaf is refused with the members that disagree; a new abort
  wave moves the entry to ABORTED, is remembered, raises ABORT_RECEIVED and is recorded in WFR_RCV_ABORT. -/
def Obligations.MustersFormAndAbort : Prop :=
  (∀ (m : MusterId) (v : Word) (s : State), s.musterState m.val = 0 ∧ bits v 0 16 ≠ 0 ∧ bit v 22 = true ∧
        s.seq.sheaves = [] ∧
  (List.range 64).any (fun k => decide (k ≠ m.val) && decide (s.musterState k ≠ 0) &&
    decide (s.getF RF.WFR_MUSm_CTL_HANDLE 0 k = bits v 0 16)) = false →
    ∃ s', exec (.musterGo m v) s = .next s' ∧
      ((s'.muster m.val).isSome = true ∧ s'.getF RF.WFR_MUSm_CTL_HANDLE 0 m.val = bits v 0 16 ∧
  s'.getF RF.WFR_MUSm_CTL_PARISH 0 m.val = bits v 17 5 ∧ 1 ≤ s'.musterState m.val ∧ s'.musterState m.val ≤ 3) ∧
      s' = { s with
          serial := s'.serial, regs := s'.regs, mem := s'.mem, commons := s'.commons,
          crofters := s'.crofters, tallies := s'.tallies, engines := s'.engines, seq := s'.seq,
          resets := s'.resets, host := s'.host, out := s'.out }) ∧
  (∀ (m : MusterId) (s : State), s.musterState m.val ≠ 0 →
    ∃ s', exec (.musterFree m) s = .next s' ∧
      (s'.musterState m.val = 0 ∧ s'.flag RF.WFR_MUSm_CTL_GO 0 m.val = false ∧ s'.muster m.val = none) ∧
      s' = { s with
          serial := s'.serial, regs := s'.regs, mem := s'.mem, commons := s'.commons,
          crofters := s'.crofters, tallies := s'.tallies, engines := s'.engines, seq := s'.seq,
          resets := s'.resets, host := s'.host, out := s'.out }) ∧
  (∀ (rack : BitVec 7) (wafer : WaferId) (epoch : BitVec 16) (handle : BitVec 16) (index : BitVec 11) (digest : Word)
        (m : Nat) (e : Muster) (k : MusterMember) (s : State), (List.range 64).find? (fun m => decide (s.musterState
        m = 1) &&
    decide (s.getF RF.WFR_MUSm_CTL_HANDLE 0 m = handle.toNat)) = some m ∧ s.muster m = some e ∧
  e.members[index.toNat]? = some k ∧ k.wafer = wafer.val ∧ k.rack = rack.toNat ∧ index.toNat ≠ e.self ∧
  s.flag RF.FAB_EPOCHn_VALID 0 wafer.val = false ∧ digest.toNat = e.digest ∧ e.digest ≠ 0 ∧
  e.offers.all (fun o => o.2 == e.digest) = true →
    ∃ s', exec (.musterOfferReceive rack wafer epoch handle index digest) s = .next s' ∧
      ((s'.muster m).map (·.offers) =
    some (e.offers.filter (fun o => o.1 != index.toNat) ++ [(index.toNat, digest.toNat)]) ∧
  s'.musterState m =
    if (e.offers.filter (fun o => o.1 != index.toNat)).length + 2 = e.members.length then 2 else 1) ∧
      s' = { s with
          serial := s'.serial, regs := s'.regs, mem := s'.mem, commons := s'.commons,
          crofters := s'.crofters, tallies := s'.tallies, engines := s'.engines, seq := s'.seq,
          resets := s'.resets, host := s'.host, out := s'.out }) ∧
  (∀ (m : MusterId) (e : Muster) (s : State), s.musterState m.val = 1 ∧ s.stopped 4 = false ∧ s.muster m.val = some e
        →
    ∃ s', exec (.musterOfferRepeat m) s = .next s' ∧
      (s'.out.length = s.out.length + (e.members.zipIdx.filter (fun x => decide (x.2 ≠ e.self))).length) ∧
      s' = { s with out := s'.out }) ∧
  (∀ (m : MusterId) (e : Muster) (s : State), s.musterState m.val = 1 ∧ s.muster m.val = some e ∧ s.seq.sheaves = [] →
    ∃ s', exec (.musterFormTimeout m) s = .next s' ∧
      (s'.musterState m.val = 3 ∧ (s'.muster m.val).map (·.disagree) = some e.disagreeing) ∧
      s' = { s with
          serial := s'.serial, regs := s'.regs, mem := s'.mem, commons := s'.commons,
          crofters := s'.crofters, tallies := s'.tallies, engines := s'.engines, seq := s'.seq,
          resets := s'.resets, host := s'.host, out := s'.out }) ∧
  (∀ (handle : BitVec 16) (wafer : WaferId) (rack : BitVec 7) (status : BitVec 8) (epoch : BitVec 16) (wave : BitVec
        32) (m : Nat) (e : Muster) (s : State), ((List.range 64).find? (fun m => decide (s.musterState m ≠ 0) &&
    decide (s.getF RF.WFR_MUSm_CTL_HANDLE 0 m = handle.toNat)) = some m ∧ s.muster m = some e ∧
  e.waves.contains (wafer.val + 16 * rack.toNat, wave.toNat) = false ∧
  (s.musterState m = 1 ∨ s.musterState m = 2) ∧ s.seq.sheaves = []) →
    ∃ s', exec (.abortReceive handle wafer rack status epoch wave) s = .next s' ∧
      (s'.musterState m = 4 ∧
  (s'.muster m).any (fun x => x.waves.contains (wafer.val + 16 * rack.toNat, wave.toNat)) = true ∧
  s'.flag RF.WFR_RCV_EVENT_ABORT_RECEIVED 0 0 = true ∧
  s'.rd .WFR_RCV_ABORT 0 0 = BitVec.ofNat 64 (handle.toNat + wafer.val * 2 ^ 16 + rack.toNat * 2 ^ 20 +
    status.toNat * 2 ^ 27 + 2 ^ 35)) ∧
      s' = { s with
          serial := s'.serial, regs := s'.regs, mem := s'.mem, commons := s'.commons,
          crofters := s'.crofters, tallies := s'.tallies, engines := s'.engines, seq := s'.seq,
          resets := s'.resets, host := s'.host, out := s'.out })

/-- At a quern that runs, whose earlier tasks are settled, the head of the queue starts: a NOP completes at once,
  QRN_BUSY_CYCLES growing by its length; a product leaves the queue, joins the running tasks with its start time and
  is settled, with BODY_INVALID and the lowest reason where its body is invalid, and otherwise with the mode of its
  opcode in QRN_ID.MODE. The oldest settled task completes and the counters grow; a hold is counted with its cause;
  more hold cycles in a window than QRN_HOLD_THRESH raise HOLD. -/
def Obligations.QuernTasksStartAndComplete : Prop :=
  (∀ (f : FieldId) (q : Fin 9) (cycles : Nat) (h : EngTask) (rest : List EngTask) (s : State), s.qMayStart f.val
        q.val (fun op => decide (op = qopNop)) = true ∧ (s.engine f.val q.val).running = [] ∧
  (s.engine f.val q.val).queue = h :: rest →
    ∃ s', exec (.qrnNop f q cycles) s = .next s' ∧
      ((s'.engine f.val q.val).queue = rest ∧ (s'.engine f.val q.val).running = [] ∧
  s'.getF RF.QRN_BUSY_CYCLES_COUNT (f.val * 9 + q.val) 0 =
    wrapAdd RF.QRN_BUSY_CYCLES_COUNT.w (s.getF RF.QRN_BUSY_CYCLES_COUNT (f.val * 9 + q.val) 0) cycles ∧
  s'.getF RF.QRN_TASKS_COMPLETED (f.val * 9 + q.val) 0 =
    wrapAdd RF.QRN_TASKS_COMPLETED.w (s.getF RF.QRN_TASKS_COMPLETED (f.val * 9 + q.val) 0) 1) ∧
      s' = { s with
          serial := s'.serial, regs := s'.regs, mem := s'.mem, commons := s'.commons,
          crofters := s'.crofters, tallies := s'.tallies, engines := s'.engines, host := s'.host,
          out := s'.out }) ∧
  (∀ (f : FieldId) (q : Fin 9) (h : EngTask) (rest : List EngTask) (s : State), s.qMayStart f.val q.val (fun op =>
        !decide (op ∈ [qopNop, qopCplx, qopWide, qopLane])) = true ∧
  (s.engine f.val q.val).queue = h :: rest ∧ h.status = none →
    ∃ s', exec (.qrnMatmul f q) s = .next s' ∧
      ((s'.engine f.val q.val).queue = rest ∧
  (s'.engine f.val q.val).running.length = (s.engine f.val q.val).running.length + 1 ∧
  (∀ t ∈ (s'.engine f.val q.val).running.getLast?, t.serial = h.serial ∧ t.start = some s.now ∧ t.status.isSome =
        true ∧
    (qBodyReason h.desc ≠ 0 → t.status = some stBodyInvalid ∧ t.detail = qBodyReason h.desc)) ∧
  (qBodyReason h.desc = 0 → s'.flag RF.QRN_ID_MODE (f.val * 9 + q.val) 0 = qLane (descOpcode h.desc))) ∧
      s' = { s with
          serial := s'.serial, regs := s'.regs, mem := s'.mem, commons := s'.commons,
          crofters := s'.crofters, engines := s'.engines, out := s'.out } ∧
      s.onlyRegs [.FLD_CMN_DENIED, .FLD_CMN_ERR_ADDR, .FLD_CMN_ERR_SOURCE, .FLD_CMN_ERR_STATUS, .FLD_CMN_FRESH_FILLS,
        .FLD_CMN_FRESH_READS, .QRN_ID, .QRN_MODE_SWITCHES, .QRN_SAT] s') ∧
  (∀ (f : FieldId) (q : Fin 9) (h : EngTask) (rest : List EngTask) (s : State), s.qMayStart f.val q.val (fun op =>
        decide (op = qopCplx)) = true ∧
  (s.engine f.val q.val).queue = h :: rest ∧ h.status = none →
    ∃ s', exec (.qrnMatmulCplx f q) s = .next s' ∧
      ((s'.engine f.val q.val).queue = rest ∧
  (s'.engine f.val q.val).running.length = (s.engine f.val q.val).running.length + 1 ∧
  (∀ t ∈ (s'.engine f.val q.val).running.getLast?, t.serial = h.serial ∧ t.start = some s.now ∧ t.status.isSome =
        true ∧
    (qBodyReason h.desc ≠ 0 → t.status = some stBodyInvalid ∧ t.detail = qBodyReason h.desc)) ∧
  (qBodyReason h.desc = 0 → s'.flag RF.QRN_ID_MODE (f.val * 9 + q.val) 0 = qLane (descOpcode h.desc))) ∧
      s' = { s with
          serial := s'.serial, regs := s'.regs, mem := s'.mem, commons := s'.commons,
          crofters := s'.crofters, engines := s'.engines, out := s'.out } ∧
      s.onlyRegs [.FLD_CMN_DENIED, .FLD_CMN_ERR_ADDR, .FLD_CMN_ERR_SOURCE, .FLD_CMN_ERR_STATUS, .FLD_CMN_FRESH_FILLS,
        .FLD_CMN_FRESH_READS, .QRN_ID, .QRN_MODE_SWITCHES, .QRN_SAT] s') ∧
  (∀ (f : FieldId) (q : Fin 9) (h : EngTask) (rest : List EngTask) (s : State), s.qMayStart f.val q.val (fun op =>
        decide (op = qopWide)) = true ∧
  (s.engine f.val q.val).queue = h :: rest ∧ h.status = none →
    ∃ s', exec (.qrnMatmulWide f q) s = .next s' ∧
      ((s'.engine f.val q.val).queue = rest ∧
  (s'.engine f.val q.val).running.length = (s.engine f.val q.val).running.length + 1 ∧
  (∀ t ∈ (s'.engine f.val q.val).running.getLast?, t.serial = h.serial ∧ t.start = some s.now ∧ t.status.isSome =
        true ∧
    (qBodyReason h.desc ≠ 0 → t.status = some stBodyInvalid ∧ t.detail = qBodyReason h.desc)) ∧
  (qBodyReason h.desc = 0 → s'.flag RF.QRN_ID_MODE (f.val * 9 + q.val) 0 = qLane (descOpcode h.desc))) ∧
      s' = { s with
          serial := s'.serial, regs := s'.regs, mem := s'.mem, commons := s'.commons,
          crofters := s'.crofters, engines := s'.engines, out := s'.out } ∧
      s.onlyRegs [.FLD_CMN_DENIED, .FLD_CMN_ERR_ADDR, .FLD_CMN_ERR_SOURCE, .FLD_CMN_ERR_STATUS, .FLD_CMN_FRESH_FILLS,
        .FLD_CMN_FRESH_READS, .QRN_ID, .QRN_MODE_SWITCHES, .QRN_SAT] s') ∧
  (∀ (f : FieldId) (q : Fin 9) (h : EngTask) (rest : List EngTask) (s : State), s.qMayStart f.val q.val (fun op =>
        decide (op = qopLane)) = true ∧
  (s.engine f.val q.val).queue = h :: rest ∧ h.status = none →
    ∃ s', exec (.qrnLaneMv f q) s = .next s' ∧
      ((s'.engine f.val q.val).queue = rest ∧
  (s'.engine f.val q.val).running.length = (s.engine f.val q.val).running.length + 1 ∧
  (∀ t ∈ (s'.engine f.val q.val).running.getLast?, t.serial = h.serial ∧ t.start = some s.now ∧ t.status.isSome =
        true ∧
    (qBodyReason h.desc ≠ 0 → t.status = some stBodyInvalid ∧ t.detail = qBodyReason h.desc)) ∧
  (qBodyReason h.desc = 0 → s'.flag RF.QRN_ID_MODE (f.val * 9 + q.val) 0 = qLane (descOpcode h.desc))) ∧
      s' = { s with
          serial := s'.serial, regs := s'.regs, mem := s'.mem, commons := s'.commons,
          crofters := s'.crofters, engines := s'.engines, out := s'.out } ∧
      s.onlyRegs [.FLD_CMN_DENIED, .FLD_CMN_ERR_ADDR, .FLD_CMN_ERR_SOURCE, .FLD_CMN_ERR_STATUS, .FLD_CMN_FRESH_FILLS,
        .FLD_CMN_FRESH_READS, .QRN_ID, .QRN_MODE_SWITCHES, .QRN_SAT] s') ∧
  (∀ (f : FieldId) (q : Fin 9) (col : Bool) (index : Fin 256) (length : Nat) (s : State), s.unitRuns f.val q.val =
        true ∧ (s.engine f.val q.val).running ≠ [] →
    ∃ s', exec (.arrayHoldExit f q col index length) s = .next s' ∧
      (s'.getF RF.QRN_HOLD_COUNT_COUNT (f.val * 9 + q.val) 0 =
    min (s.getF RF.QRN_HOLD_COUNT_COUNT (f.val * 9 + q.val) 0 + 1) (2 ^ RF.QRN_HOLD_COUNT_COUNT.w - 1) ∧
  s'.getF RF.QRN_HOLD_CYCLES_COUNT (f.val * 9 + q.val) 0 =
    min (s.getF RF.QRN_HOLD_CYCLES_COUNT (f.val * 9 + q.val) 0 + length) (2 ^ RF.QRN_HOLD_CYCLES_COUNT.w - 1) ∧
  s'.getF RF.QRN_HOLD_LAST_SIDE (f.val * 9 + q.val) 0 = b2n col ∧
  s'.getF RF.QRN_HOLD_LAST_INDEX (f.val * 9 + q.val) 0 = index.val ∧
  s'.getF RF.QRN_HOLD_LAST_LENGTH (f.val * 9 + q.val) 0 = min length (2 ^ 24 - 1)) ∧
      s' = { s with regs := s'.regs, engines := s'.engines } ∧
      s.onlyRegs [.QRN_HOLD_COUNT, .QRN_HOLD_CYCLES, .QRN_HOLD_LAST] s') ∧
  (∀ (f : FieldId) (q : Fin 9) (s : State), (s.engine f.val q.val).holdWindow = s.now / 100000 ∧
  s.getF RF.QRN_HOLD_THRESH_THRESH (f.val * 9 + q.val) 0 < (s.engine f.val q.val).holdCycles →
    ∃ s', exec (.qrnHoldWindow f q) s = .next s' ∧
      (s'.flag RF.QRN_EVENT_HOLD (f.val * 9 + q.val) 0 = true) ∧
      s' = { s with regs := s'.regs, host := s'.host, out := s'.out } ∧
      s.onlyRegs [.HST_PORT_EVENT, .HST_PORT_MSIX_DROP, .QRN_EVENT] s') ∧
  (∀ (f : FieldId) (q : Fin 9) (cycles : Nat) (rows : Nat) (cols : Nat) (t : EngTask) (rest : List EngTask) (st :
        Nat) (s : State), s.unitRuns f.val q.val = true ∧ (s.engine f.val q.val).running = t :: rest ∧ t.status =
        some st →
    ∃ s', exec (.qrnTaskComplete f q cycles rows cols) s = .next s' ∧
      ((s'.engine f.val q.val).running = rest ∧ (s'.engine f.val q.val).queue = (s.engine f.val q.val).queue ∧
  s'.getF RF.QRN_BUSY_CYCLES_COUNT (f.val * 9 + q.val) 0 =
    wrapAdd RF.QRN_BUSY_CYCLES_COUNT.w (s.getF RF.QRN_BUSY_CYCLES_COUNT (f.val * 9 + q.val) 0) cycles ∧
  s'.getF RF.QRN_ROW_STALL_COUNT (f.val * 9 + q.val) 0 =
    wrapAdd RF.QRN_ROW_STALL_COUNT.w (s.getF RF.QRN_ROW_STALL_COUNT (f.val * 9 + q.val) 0) rows ∧
  s'.getF RF.QRN_TASKS_COMPLETED (f.val * 9 + q.val) 0 =
    wrapAdd RF.QRN_TASKS_COMPLETED.w (s.getF RF.QRN_TASKS_COMPLETED (f.val * 9 + q.val) 0) 1 ∧
  (st = stOk ∧ t.nonfinite = true → s'.flag RF.QRN_EVENT_NONFINITE (f.val * 9 + q.val) 0 = true)) ∧
      s' = { s with
          regs := s'.regs, mem := s'.mem, commons := s'.commons, crofters := s'.crofters,
          tallies := s'.tallies, engines := s'.engines, host := s'.host, out := s'.out })

/-- At a sieve that runs and whose head task has the opcode: a NOP starts and completes; a RUN takes the lowest free
  context when its window is free; a table task starts with the sieve otherwise idle, and a TABLE_IMAGE of an image 0
  to 6 puts the image's number plus one into SIV_TABLE_STATE, while another image ends it with BODY_INVALID; a
  TABLE_LOAD settles. A context whose task has ended is freed, its task completes, and the idle cycles are counted. -/
def Obligations.SieveTasksStartAndComplete : Prop :=
  (∀ (f : FieldId) (n : Fin 2) (cycles : Nat) (h : EngTask) (rest : List EngTask) (s : State), s.sMayStart f.val
        n.val (fun op => decide (op = 0)) = true ∧ (s.engine f.val (unitSieve n.val)).queue = h :: rest →
    ∃ s', exec (.sivNopTask f n cycles) s = .next s' ∧
      ((s'.engine f.val (unitSieve n.val)).queue = rest ∧
  (s'.engine f.val (unitSieve n.val)).running =
    (s.engine f.val (unitSieve n.val)).running.filter (fun x => x.serial != h.serial) ∧
  s'.getF RF.SIV_TASKS_COMPLETED (f.val * 2 + n.val) 0 =
    wrapAdd RF.SIV_TASKS_COMPLETED.w (s.getF RF.SIV_TASKS_COMPLETED (f.val * 2 + n.val) 0) 1) ∧
      s' = { s with
          serial := s'.serial, regs := s'.regs, mem := s'.mem, commons := s'.commons,
          crofters := s'.crofters, tallies := s'.tallies, engines := s'.engines, host := s'.host,
          out := s'.out }) ∧
  (∀ (f : FieldId) (n : Fin 2) (h : EngTask) (rest : List EngTask) (slot : Nat) (s : State), s.sMayStart f.val n.val
        (fun op => decide (op = 1)) = true ∧ (s.engine f.val (unitSieve n.val)).queue = h :: rest ∧
  ((s.pruneCtxs f.val n.val).sieve f.val n.val).freeSlot (sTileBase h.desc) (sTileCount h.desc) = some slot →
    ∃ s', exec (.sivRun f n) s = .next s' ∧
      ((s'.engine f.val (unitSieve n.val)).queue = rest ∧
  (s'.engine f.val (unitSieve n.val)).running.map (·.serial) =
    (s.engine f.val (unitSieve n.val)).running.map (·.serial) ++ [h.serial] ∧
  ((s'.sieve f.val n.val).ctx slot).map (fun c => (c.task, c.pc, c.iter)) = some (h.serial, 0, 0)) ∧
      s' = { s with
          serial := s'.serial, regs := s'.regs, mem := s'.mem, crofters := s'.crofters,
          engines := s'.engines, sieves := s'.sieves, out := s'.out } ∧
      s.onlyRegs [.FLD_CMN_DENIED, .FLD_CMN_ERR_ADDR, .FLD_CMN_ERR_SOURCE, .FLD_CMN_ERR_STATUS, .FLD_CMN_FRESH_FILLS,
        .FLD_CMN_FRESH_READS] s') ∧
  (∀ (f : FieldId) (n : Fin 2) (h : EngTask) (rest : List EngTask) (s : State), s.sMayStart f.val n.val (fun op =>
        decide (op = 2)) = true ∧ (s.engine f.val (unitSieve n.val)).queue = h :: rest ∧
  (s.engine f.val (unitSieve n.val)).running = [] ∧ sReservedOk h.desc = true ∧ h.status = none →
    ∃ s', exec (.sivTableImage f n) s = .next s' ∧
      ((s'.engine f.val (unitSieve n.val)).queue = rest ∧
  (sImage h.desc ≤ 6 → s'.tableState f.val n.val (sTable h.desc) = sImage h.desc + 1 ∧
    (s'.engine f.val (unitSieve n.val)).running.map (fun t => (t.serial, t.status)) = [(h.serial, some stOk)]) ∧
  (6 < sImage h.desc → s'.regs = s.regs ∧ (s'.engine f.val (unitSieve n.val)).running.map (fun t =>
    (t.serial, t.status, t.detail)) = [(h.serial, some stBodyInvalid, 0xA)])) ∧
      s' = { s with serial := s'.serial, regs := s'.regs, engines := s'.engines, sieves := s'.sieves } ∧
      s.onlyRegs [.SIV_TABLE_STATE] s') ∧
  (∀ (f : FieldId) (n : Fin 2) (h : EngTask) (rest : List EngTask) (s : State), s.sMayStart f.val n.val (fun op =>
        decide (op = 3)) = true ∧ (s.engine f.val (unitSieve n.val)).queue = h :: rest ∧
  (s.engine f.val (unitSieve n.val)).running = [] →
    ∃ s', exec (.sivTableLoad f n) s = .next s' ∧
      ((s'.engine f.val (unitSieve n.val)).queue = rest ∧
  (s'.engine f.val (unitSieve n.val)).running.map (fun t => (t.serial, t.start, t.status.isSome)) =
    [(h.serial, some s.now, true)]) ∧
      s' = { s with
          serial := s'.serial, regs := s'.regs, mem := s'.mem, crofters := s'.crofters,
          engines := s'.engines, sieves := s'.sieves, out := s'.out } ∧
      s.onlyRegs [.FLD_CMN_DENIED, .FLD_CMN_ERR_ADDR, .FLD_CMN_ERR_SOURCE, .FLD_CMN_ERR_STATUS, .FLD_CMN_FRESH_FILLS,
        .FLD_CMN_FRESH_READS, .SIV_TABLE_STATE] s') ∧
  (∀ (f : FieldId) (n : Fin 2) (slot : Fin 8) (cycles : Nat) (idle : Nat) (c : SieveCtx) (t : EngTask) (s : State),
        (s.sieve f.val n.val).ctx slot.val = some c ∧ s.unitRuns f.val (unitSieve n.val) = true ∧
  s.sEnded f.val n.val c = some t →
    ∃ s', exec (.sivTaskComplete f n slot cycles idle) s = .next s' ∧
      ((s'.sieve f.val n.val).ctx slot.val = none ∧
  (s'.engine f.val (unitSieve n.val)).running =
    (s.engine f.val (unitSieve n.val)).running.filter (fun x => x.serial != t.serial) ∧
  s'.getF RF.SIV_EMPTY_CYCLES_COUNT (f.val * 2 + n.val) 0 =
    wrapAdd RF.SIV_EMPTY_CYCLES_COUNT.w (s.getF RF.SIV_EMPTY_CYCLES_COUNT (f.val * 2 + n.val) 0) idle ∧
  s'.getF RF.SIV_TASKS_COMPLETED (f.val * 2 + n.val) 0 =
    wrapAdd RF.SIV_TASKS_COMPLETED.w (s.getF RF.SIV_TASKS_COMPLETED (f.val * 2 + n.val) 0) 1) ∧
      s' = { s with
          serial := s'.serial, regs := s'.regs, mem := s'.mem, commons := s'.commons,
          crofters := s'.crofters, tallies := s'.tallies, engines := s'.engines, sieves := s'.sieves,
          host := s'.host, out := s'.out })

/-- For every context of a sieve that issues the instruction, its destination tile takes, lane by lane, the codes of
  the instruction's operation on SA, on SB after its broadcast and on SC, in the compute format; no other tile
  register changes, the context goes to its next instruction, and SIV_ISSUE_CYCLES grows by the instruction's
  occupancy. -/
def Obligations.SieveArithmeticWritesItsTile : Prop :=
  (∀ (f : FieldId) (n : Fin 2) (slot : Fin 8) (c : SieveCtx) (t : EngTask) (w : Nat) (s : State), s.sieveIssues f.val
        n.val slot.val 0x08 c t w = true →
    ∃ s', exec (.sivAdd f n slot) s = .next s' ∧
      (s.sieveWrote f.val n.val slot.val c w 1 (cfWide (iCf w))
    (s.laneCodes f.val n.val c w (arith2 faddV (· + ·))) s' = true ∧ s.onlyTile f.val n.val (c.base + iDt w) s') ∧
      s' = { s with
          serial := s'.serial, regs := s'.regs, sieves := s'.sieves, host := s'.host, out := s'.out } ∧
      s.onlyRegs [.HST_PORT_EVENT, .HST_PORT_MSIX_DROP, .SIV_EVENT, .SIV_ISSUE_CYCLES, .SIV_SAT] s') ∧
  (∀ (f : FieldId) (n : Fin 2) (slot : Fin 8) (c : SieveCtx) (t : EngTask) (w : Nat) (s : State), s.sieveIssues f.val
        n.val slot.val 0x09 c t w = true →
    ∃ s', exec (.sivSub f n slot) s = .next s' ∧
      (s.sieveWrote f.val n.val slot.val c w 1 (cfWide (iCf w))
    (s.laneCodes f.val n.val c w (arith2 fsubV (· - ·))) s' = true ∧ s.onlyTile f.val n.val (c.base + iDt w) s') ∧
      s' = { s with
          serial := s'.serial, regs := s'.regs, sieves := s'.sieves, host := s'.host, out := s'.out } ∧
      s.onlyRegs [.HST_PORT_EVENT, .HST_PORT_MSIX_DROP, .SIV_EVENT, .SIV_ISSUE_CYCLES, .SIV_SAT] s') ∧
  (∀ (f : FieldId) (n : Fin 2) (slot : Fin 8) (c : SieveCtx) (t : EngTask) (w : Nat) (s : State), s.sieveIssues f.val
        n.val slot.val 0x0A c t w = true →
    ∃ s', exec (.sivMul f n slot) s = .next s' ∧
      (s.sieveWrote f.val n.val slot.val c w 1 (cfWide (iCf w))
    (s.laneCodes f.val n.val c w (arith2 Val.mul (· * ·))) s' = true ∧ s.onlyTile f.val n.val (c.base + iDt w) s') ∧
      s' = { s with
          serial := s'.serial, regs := s'.regs, sieves := s'.sieves, host := s'.host, out := s'.out } ∧
      s.onlyRegs [.HST_PORT_EVENT, .HST_PORT_MSIX_DROP, .SIV_EVENT, .SIV_ISSUE_CYCLES, .SIV_SAT] s') ∧
  (∀ (f : FieldId) (n : Fin 2) (slot : Fin 8) (c : SieveCtx) (t : EngTask) (w : Nat) (s : State), s.sieveIssues f.val
        n.val slot.val 0x0B c t w = true →
    ∃ s', exec (.sivFma f n slot) s = .next s' ∧
      (s.sieveWrote f.val n.val slot.val c w 1 (cfWide (iCf w))
    (s.laneCodes f.val n.val c w (arithFma)) s' = true ∧ s.onlyTile f.val n.val (c.base + iDt w) s') ∧
      s' = { s with
          serial := s'.serial, regs := s'.regs, sieves := s'.sieves, host := s'.host, out := s'.out } ∧
      s.onlyRegs [.HST_PORT_EVENT, .HST_PORT_MSIX_DROP, .SIV_EVENT, .SIV_ISSUE_CYCLES, .SIV_SAT] s') ∧
  (∀ (f : FieldId) (n : Fin 2) (slot : Fin 8) (c : SieveCtx) (t : EngTask) (w : Nat) (s : State), s.sieveIssues f.val
        n.val slot.val 0x0C c t w = true →
    ∃ s', exec (.sivMax f n slot) s = .next s' ∧
      (s.sieveWrote f.val n.val slot.val c w 1 (cfWide (iCf w))
    (s.laneCodes f.val n.val c w (arithPick true)) s' = true ∧ s.onlyTile f.val n.val (c.base + iDt w) s') ∧
      s' = { s with
          serial := s'.serial, regs := s'.regs, sieves := s'.sieves, host := s'.host, out := s'.out } ∧
      s.onlyRegs [.HST_PORT_EVENT, .HST_PORT_MSIX_DROP, .SIV_EVENT, .SIV_ISSUE_CYCLES, .SIV_SAT] s') ∧
  (∀ (f : FieldId) (n : Fin 2) (slot : Fin 8) (c : SieveCtx) (t : EngTask) (w : Nat) (s : State), s.sieveIssues f.val
        n.val slot.val 0x0D c t w = true →
    ∃ s', exec (.sivMin f n slot) s = .next s' ∧
      (s.sieveWrote f.val n.val slot.val c w 1 (cfWide (iCf w))
    (s.laneCodes f.val n.val c w (arithPick false)) s' = true ∧ s.onlyTile f.val n.val (c.base + iDt w) s') ∧
      s' = { s with
          serial := s'.serial, regs := s'.regs, sieves := s'.sieves, host := s'.host, out := s'.out } ∧
      s.onlyRegs [.HST_PORT_EVENT, .HST_PORT_MSIX_DROP, .SIV_EVENT, .SIV_ISSUE_CYCLES, .SIV_SAT] s') ∧
  (∀ (f : FieldId) (n : Fin 2) (slot : Fin 8) (c : SieveCtx) (t : EngTask) (w : Nat) (s : State), s.sieveIssues f.val
        n.val slot.val 0x0E c t w = true →
    ∃ s', exec (.sivAbs f n slot) s = .next s' ∧
      (s.sieveWrote f.val n.val slot.val c w 1 (cfWide (iCf w))
    (s.laneCodes f.val n.val c w (arith1 Val.abs (fun x => (x.natAbs : Int)))) s' = true ∧ s.onlyTile f.val n.val
        (c.base + iDt w) s') ∧
      s' = { s with
          serial := s'.serial, regs := s'.regs, sieves := s'.sieves, host := s'.host, out := s'.out } ∧
      s.onlyRegs [.HST_PORT_EVENT, .HST_PORT_MSIX_DROP, .SIV_EVENT, .SIV_ISSUE_CYCLES, .SIV_SAT] s') ∧
  (∀ (f : FieldId) (n : Fin 2) (slot : Fin 8) (c : SieveCtx) (t : EngTask) (w : Nat) (s : State), s.sieveIssues f.val
        n.val slot.val 0x0F c t w = true →
    ∃ s', exec (.sivNeg f n slot) s = .next s' ∧
      (s.sieveWrote f.val n.val slot.val c w 1 (cfWide (iCf w))
    (s.laneCodes f.val n.val c w (arith1 Val.neg (fun x => -x))) s' = true ∧ s.onlyTile f.val n.val (c.base + iDt w)
        s') ∧
      s' = { s with
          serial := s'.serial, regs := s'.regs, sieves := s'.sieves, host := s'.host, out := s'.out } ∧
      s.onlyRegs [.HST_PORT_EVENT, .HST_PORT_MSIX_DROP, .SIV_EVENT, .SIV_ISSUE_CYCLES, .SIV_SAT] s') ∧
  (∀ (f : FieldId) (n : Fin 2) (slot : Fin 8) (c : SieveCtx) (t : EngTask) (w : Nat) (s : State), s.sieveIssues f.val
        n.val slot.val 0x10 c t w = true →
    ∃ s', exec (.sivRcp f n slot) s = .next s' ∧
      (s.sieveWrote f.val n.val slot.val c w 4 (cfWide (iCf w))
    (s.laneCodes f.val n.val c w (arith1 (Val.div (.fin false 1 0)) id)) s' = true ∧ s.onlyTile f.val n.val (c.base +
        iDt w) s') ∧
      s' = { s with
          serial := s'.serial, regs := s'.regs, sieves := s'.sieves, host := s'.host, out := s'.out } ∧
      s.onlyRegs [.HST_PORT_EVENT, .HST_PORT_MSIX_DROP, .SIV_EVENT, .SIV_ISSUE_CYCLES, .SIV_SAT] s') ∧
  (∀ (f : FieldId) (n : Fin 2) (slot : Fin 8) (c : SieveCtx) (t : EngTask) (w : Nat) (s : State), s.sieveIssues f.val
        n.val slot.val 0x11 c t w = true →
    ∃ s', exec (.sivDiv f n slot) s = .next s' ∧
      (s.sieveWrote f.val n.val slot.val c w 4 (cfWide (iCf w))
    (s.laneCodes f.val n.val c w (arith2 Val.div (fun x _ => x))) s' = true ∧ s.onlyTile f.val n.val (c.base + iDt w)
        s') ∧
      s' = { s with
          serial := s'.serial, regs := s'.regs, sieves := s'.sieves, host := s'.host, out := s'.out } ∧
      s.onlyRegs [.HST_PORT_EVENT, .HST_PORT_MSIX_DROP, .SIV_EVENT, .SIV_ISSUE_CYCLES, .SIV_SAT] s') ∧
  (∀ (f : FieldId) (n : Fin 2) (slot : Fin 8) (c : SieveCtx) (t : EngTask) (w : Nat) (s : State), s.sieveIssues f.val
        n.val slot.val 0x12 c t w = true →
    ∃ s', exec (.sivSqrt f n slot) s = .next s' ∧
      (s.sieveWrote f.val n.val slot.val c w 4 (cfWide (iCf w))
    (s.laneCodes f.val n.val c w (arith1 Val.sqrt id)) s' = true ∧ s.onlyTile f.val n.val (c.base + iDt w) s') ∧
      s' = { s with
          serial := s'.serial, regs := s'.regs, sieves := s'.sieves, host := s'.host, out := s'.out } ∧
      s.onlyRegs [.HST_PORT_EVENT, .HST_PORT_MSIX_DROP, .SIV_EVENT, .SIV_ISSUE_CYCLES, .SIV_SAT] s')

/-- For every context of a sieve that issues the instruction: comparisons give all ones or zero, SELECT takes SA
  where SC is not zero, bit operations and shifts work on the codes with the shift amount modulo the element width;
  the codes enter the destination tile and nothing but it, the context and the counters changes among the tiles. -/
def Obligations.SieveLogicWritesItsTile : Prop :=
  (∀ (f : FieldId) (n : Fin 2) (slot : Fin 8) (c : SieveCtx) (t : EngTask) (w : Nat) (s : State), s.sieveIssues f.val
        n.val slot.val 0x18 c t w = true →
    ∃ s', exec (.sivCmplt f n slot) s = .next s' ∧
      (s.sieveWrote f.val n.val slot.val c w 1 (cfWide (iCf w))
    (s.laneCodes f.val n.val c w (arithCmp Val.lt (fun x y => decide (x < y)))) s' = true ∧ s.onlyTile f.val n.val
        (c.base + iDt w) s') ∧
      s' = { s with
          serial := s'.serial, regs := s'.regs, sieves := s'.sieves, host := s'.host, out := s'.out } ∧
      s.onlyRegs [.HST_PORT_EVENT, .HST_PORT_MSIX_DROP, .SIV_EVENT, .SIV_ISSUE_CYCLES, .SIV_SAT] s') ∧
  (∀ (f : FieldId) (n : Fin 2) (slot : Fin 8) (c : SieveCtx) (t : EngTask) (w : Nat) (s : State), s.sieveIssues f.val
        n.val slot.val 0x19 c t w = true →
    ∃ s', exec (.sivCmple f n slot) s = .next s' ∧
      (s.sieveWrote f.val n.val slot.val c w 1 (cfWide (iCf w))
    (s.laneCodes f.val n.val c w (arithCmp (fun x y => Val.lt x y || Val.eqv x y) (fun x y => decide (x ≤ y)))) s' =
        true ∧ s.onlyTile f.val n.val (c.base + iDt w) s') ∧
      s' = { s with
          serial := s'.serial, regs := s'.regs, sieves := s'.sieves, host := s'.host, out := s'.out } ∧
      s.onlyRegs [.HST_PORT_EVENT, .HST_PORT_MSIX_DROP, .SIV_EVENT, .SIV_ISSUE_CYCLES, .SIV_SAT] s') ∧
  (∀ (f : FieldId) (n : Fin 2) (slot : Fin 8) (c : SieveCtx) (t : EngTask) (w : Nat) (s : State), s.sieveIssues f.val
        n.val slot.val 0x1A c t w = true →
    ∃ s', exec (.sivCmpeq f n slot) s = .next s' ∧
      (s.sieveWrote f.val n.val slot.val c w 1 (cfWide (iCf w))
    (s.laneCodes f.val n.val c w (arithCmp Val.eqv (fun x y => decide (x = y)))) s' = true ∧ s.onlyTile f.val n.val
        (c.base + iDt w) s') ∧
      s' = { s with
          serial := s'.serial, regs := s'.regs, sieves := s'.sieves, host := s'.host, out := s'.out } ∧
      s.onlyRegs [.HST_PORT_EVENT, .HST_PORT_MSIX_DROP, .SIV_EVENT, .SIV_ISSUE_CYCLES, .SIV_SAT] s') ∧
  (∀ (f : FieldId) (n : Fin 2) (slot : Fin 8) (c : SieveCtx) (t : EngTask) (w : Nat) (s : State), s.sieveIssues f.val
        n.val slot.val 0x1B c t w = true →
    ∃ s', exec (.sivSelect f n slot) s = .next s' ∧
      (s.sieveWrote f.val n.val slot.val c w 1 (cfWide (iCf w))
    (s.laneCodes f.val n.val c w (arithSelect)) s' = true ∧ s.onlyTile f.val n.val (c.base + iDt w) s') ∧
      s' = { s with
          serial := s'.serial, regs := s'.regs, sieves := s'.sieves, host := s'.host, out := s'.out } ∧
      s.onlyRegs [.HST_PORT_EVENT, .HST_PORT_MSIX_DROP, .SIV_EVENT, .SIV_ISSUE_CYCLES, .SIV_SAT] s') ∧
  (∀ (f : FieldId) (n : Fin 2) (slot : Fin 8) (c : SieveCtx) (t : EngTask) (w : Nat) (s : State), s.sieveIssues f.val
        n.val slot.val 0x20 c t w = true →
    ∃ s', exec (.sivAnd f n slot) s = .next s' ∧
      (s.sieveWrote f.val n.val slot.val c w 1 (cfWide (iCf w))
    (s.laneCodes f.val n.val c w (arithBits (fun _ a b => a &&& b))) s' = true ∧ s.onlyTile f.val n.val (c.base + iDt
        w) s') ∧
      s' = { s with
          serial := s'.serial, regs := s'.regs, sieves := s'.sieves, host := s'.host, out := s'.out } ∧
      s.onlyRegs [.HST_PORT_EVENT, .HST_PORT_MSIX_DROP, .SIV_EVENT, .SIV_ISSUE_CYCLES, .SIV_SAT] s') ∧
  (∀ (f : FieldId) (n : Fin 2) (slot : Fin 8) (c : SieveCtx) (t : EngTask) (w : Nat) (s : State), s.sieveIssues f.val
        n.val slot.val 0x21 c t w = true →
    ∃ s', exec (.sivOr f n slot) s = .next s' ∧
      (s.sieveWrote f.val n.val slot.val c w 1 (cfWide (iCf w))
    (s.laneCodes f.val n.val c w (arithBits (fun _ a b => a ||| b))) s' = true ∧ s.onlyTile f.val n.val (c.base + iDt
        w) s') ∧
      s' = { s with
          serial := s'.serial, regs := s'.regs, sieves := s'.sieves, host := s'.host, out := s'.out } ∧
      s.onlyRegs [.HST_PORT_EVENT, .HST_PORT_MSIX_DROP, .SIV_EVENT, .SIV_ISSUE_CYCLES, .SIV_SAT] s') ∧
  (∀ (f : FieldId) (n : Fin 2) (slot : Fin 8) (c : SieveCtx) (t : EngTask) (w : Nat) (s : State), s.sieveIssues f.val
        n.val slot.val 0x22 c t w = true →
    ∃ s', exec (.sivXor f n slot) s = .next s' ∧
      (s.sieveWrote f.val n.val slot.val c w 1 (cfWide (iCf w))
    (s.laneCodes f.val n.val c w (arithBits (fun _ a b => a ^^^ b))) s' = true ∧ s.onlyTile f.val n.val (c.base + iDt
        w) s') ∧
      s' = { s with
          serial := s'.serial, regs := s'.regs, sieves := s'.sieves, host := s'.host, out := s'.out } ∧
      s.onlyRegs [.HST_PORT_EVENT, .HST_PORT_MSIX_DROP, .SIV_EVENT, .SIV_ISSUE_CYCLES, .SIV_SAT] s') ∧
  (∀ (f : FieldId) (n : Fin 2) (slot : Fin 8) (c : SieveCtx) (t : EngTask) (w : Nat) (s : State), s.sieveIssues f.val
        n.val slot.val 0x23 c t w = true →
    ∃ s', exec (.sivShl f n slot) s = .next s' ∧
      (s.sieveWrote f.val n.val slot.val c w 1 (cfWide (iCf w))
    (s.laneCodes f.val n.val c w (arithBits (fun w a b => a * 2 ^ (b % w)))) s' = true ∧ s.onlyTile f.val n.val
        (c.base + iDt w) s') ∧
      s' = { s with
          serial := s'.serial, regs := s'.regs, sieves := s'.sieves, host := s'.host, out := s'.out } ∧
      s.onlyRegs [.HST_PORT_EVENT, .HST_PORT_MSIX_DROP, .SIV_EVENT, .SIV_ISSUE_CYCLES, .SIV_SAT] s') ∧
  (∀ (f : FieldId) (n : Fin 2) (slot : Fin 8) (c : SieveCtx) (t : EngTask) (w : Nat) (s : State), s.sieveIssues f.val
        n.val slot.val 0x24 c t w = true →
    ∃ s', exec (.sivShra f n slot) s = .next s' ∧
      (s.sieveWrote f.val n.val slot.val c w 1 (cfWide (iCf w))
    (s.laneCodes f.val n.val c w (arithBits (fun w a b => tcode w (sint w a / ((2 ^ (b % w) : Nat) : Int))))) s' =
        true ∧ s.onlyTile f.val n.val (c.base + iDt w) s') ∧
      s' = { s with
          serial := s'.serial, regs := s'.regs, sieves := s'.sieves, host := s'.host, out := s'.out } ∧
      s.onlyRegs [.HST_PORT_EVENT, .HST_PORT_MSIX_DROP, .SIV_EVENT, .SIV_ISSUE_CYCLES, .SIV_SAT] s') ∧
  (∀ (f : FieldId) (n : Fin 2) (slot : Fin 8) (c : SieveCtx) (t : EngTask) (w : Nat) (s : State), s.sieveIssues f.val
        n.val slot.val 0x25 c t w = true →
    ∃ s', exec (.sivShrl f n slot) s = .next s' ∧
      (s.sieveWrote f.val n.val slot.val c w 1 (cfWide (iCf w))
    (s.laneCodes f.val n.val c w (arithBits (fun w a b => a / 2 ^ (b % w)))) s' = true ∧ s.onlyTile f.val n.val
        (c.base + iDt w) s') ∧
      s' = { s with
          serial := s'.serial, regs := s'.regs, sieves := s'.sieves, host := s'.host, out := s'.out } ∧
      s.onlyRegs [.HST_PORT_EVENT, .HST_PORT_MSIX_DROP, .SIV_EVENT, .SIV_ISSUE_CYCLES, .SIV_SAT] s')

/-- For every context of a sieve that issues the instruction: FILL and ARG broadcast a constant and an argument; CVTN
  and CVTW convert between the 32-bit and 16-bit formats; LUT looks up a table that is not empty and an empty one
  ends the task with status 0x80; RROW and RCOL reduce rows and columns; SHFL and PERM move elements; a LD waits for
  its data, which then enters its tile; NOP and ST change no tile. -/
def Obligations.SieveMovesAndReductions : Prop :=
  (∀ (f : FieldId) (n : Fin 2) (slot : Fin 8) (c : SieveCtx) (t : EngTask) (w : Nat) (s : State), s.sieveIssues f.val
        n.val slot.val 0 c t w = true →
    ∃ s', exec (.sivInstrNop f n slot) s = .next s' ∧
      ((s'.sieve f.val n.val).ctx slot.val = some c.advanced ∧ (∀ u, (s'.sieve f.val n.val).tile u = (s.sieve f.val
        n.val).tile u) ∧
  s'.getF RF.SIV_ISSUE_CYCLES_COUNT (f.val * 2 + n.val) 0 =
    wrapAdd RF.SIV_ISSUE_CYCLES_COUNT.w (s.getF RF.SIV_ISSUE_CYCLES_COUNT (f.val * 2 + n.val) 0) 1) ∧
      s' = { s with regs := s'.regs, sieves := s'.sieves } ∧
      s.onlyRegs [.SIV_ISSUE_CYCLES] s') ∧
  (∀ (f : FieldId) (n : Fin 2) (slot : Fin 8) (c : SieveCtx) (t : EngTask) (w : Nat) (s : State), s.sieveIssues f.val
        n.val slot.val 2 c t w = true →
    ∃ s', exec (.sivSt f n slot) s = .next s' ∧
      ((s'.sieve f.val n.val).ctx slot.val = some c.advanced ∧ (∀ u, (s'.sieve f.val n.val).tile u = (s.sieve f.val
        n.val).tile u) ∧
  s'.getF RF.SIV_ISSUE_CYCLES_COUNT (f.val * 2 + n.val) 0 =
    wrapAdd RF.SIV_ISSUE_CYCLES_COUNT.w (s.getF RF.SIV_ISSUE_CYCLES_COUNT (f.val * 2 + n.val) 0) 1) ∧
      s' = { s with
          serial := s'.serial, regs := s'.regs, mem := s'.mem, commons := s'.commons,
          crofters := s'.crofters, engines := s'.engines, sieves := s'.sieves, host := s'.host,
          out := s'.out } ∧
      s.onlyRegs [.FLD_CMN_DENIED, .FLD_CMN_ERR_ADDR, .FLD_CMN_ERR_SOURCE, .FLD_CMN_ERR_STATUS, .FLD_CMN_FRESH_FILLS,
        .HST_PORT_EVENT, .HST_PORT_MSIX_DROP, .SIV_EVENT, .SIV_ISSUE_CYCLES, .SIV_SAT, .SIV_WR_BYTES] s') ∧
  (∀ (f : FieldId) (n : Fin 2) (slot : Fin 8) (c : SieveCtx) (t : EngTask) (w : Nat) (s : State), s.sieveIssues f.val
        n.val slot.val 1 c t w = true →
    ∃ s', exec (.sivLd f n slot) s = .next s' ∧
      (((s'.sieve f.val n.val).ctx slot.val).map (fun d => (d.pc, d.iter, d.loads.map (·.tile))) =
    some (c.advanced.pc, c.advanced.iter, c.loads.map (·.tile) ++ [c.base + iDt w]) ∧
  (∀ u, (s'.sieve f.val n.val).tile u = (s.sieve f.val n.val).tile u)) ∧
      s' = { s with
          serial := s'.serial, regs := s'.regs, mem := s'.mem, crofters := s'.crofters, sieves := s'.sieves,
          host := s'.host, out := s'.out } ∧
      s.onlyRegs [.FLD_CMN_DENIED, .FLD_CMN_ERR_ADDR, .FLD_CMN_ERR_SOURCE, .FLD_CMN_ERR_STATUS, .FLD_CMN_FRESH_FILLS,
        .FLD_CMN_FRESH_READS, .HST_PORT_EVENT, .HST_PORT_MSIX_DROP, .SIV_EVENT, .SIV_ISSUE_CYCLES, .SIV_RD_BYTES,
        .SIV_SAT] s') ∧
  (∀ (f : FieldId) (n : Fin 2) (slot : Fin 8) (tile : Fin 64) (c : SieveCtx) (l : SieveLoad) (s : State), (s.sieve
        f.val n.val).ctx slot.val = some c ∧ c.loads.find? (fun l => l.tile == tile.val) = some l ∧
  s.unitRuns f.val (unitSieve n.val) = true ∧ l.fail = none ∧ l.words.length = 512 →
    ∃ s', exec (.sivLdData f n slot tile) s = .next s' ∧
      ((s'.sieve f.val n.val).tile tile.val = l.words ∧
  (s'.sieve f.val n.val).ctx slot.val = some { c with loads := c.loads.filter (fun x => x.tile != tile.val) } ∧
  s.onlyTile f.val n.val tile.val s') ∧
      s' = { s with serial := s'.serial, mem := s'.mem, engines := s'.engines, sieves := s'.sieves }) ∧
  (∀ (f : FieldId) (n : Fin 2) (slot : Fin 8) (c : SieveCtx) (t : EngTask) (w : Nat) (s : State), s.sieveIssues f.val
        n.val slot.val 3 c t w = true →
    ∃ s', exec (.sivFill f n slot) s = .next s' ∧
      (s.sieveWrote f.val n.val slot.val c w 1 true
    (List.replicate 512 (iImm32 w)) s' = true ∧ s.onlyTile f.val n.val (c.base + iDt w) s') ∧
      s' = { s with regs := s'.regs, sieves := s'.sieves, host := s'.host, out := s'.out } ∧
      s.onlyRegs [.HST_PORT_EVENT, .HST_PORT_MSIX_DROP, .SIV_EVENT, .SIV_ISSUE_CYCLES, .SIV_SAT] s') ∧
  (∀ (f : FieldId) (n : Fin 2) (slot : Fin 8) (c : SieveCtx) (t : EngTask) (w : Nat) (s : State), s.sieveIssues f.val
        n.val slot.val 4 c t w = true →
    ∃ s', exec (.sivArg f n slot) s = .next s' ∧
      (s.sieveWrote f.val n.val slot.val c w 1 (cfWide (iCf w))
    (List.replicate (lanesOf (cfWide (iCf w))) (sArg t.desc (iImm w % 4) % 2 ^ cfBits (cfWide (iCf w)))) s' = true ∧
        s.onlyTile f.val n.val (c.base + iDt w) s') ∧
      s' = { s with regs := s'.regs, sieves := s'.sieves, host := s'.host, out := s'.out } ∧
      s.onlyRegs [.HST_PORT_EVENT, .HST_PORT_MSIX_DROP, .SIV_EVENT, .SIV_ISSUE_CYCLES, .SIV_SAT] s') ∧
  (∀ (f : FieldId) (n : Fin 2) (slot : Fin 8) (c : SieveCtx) (t : EngTask) (w : Nat) (s : State), s.sieveIssues f.val
        n.val slot.val 0x28 c t w = true →
    ∃ s', exec (.sivCvtn f n slot) s = .next s' ∧
      (s.sieveWrote f.val n.val slot.val c w 1 false
    ((List.range 1024).map (fun i => (convNum (iSat w) (cfCode (iCf w)) (numOf (iImm w % 64)
      (if i % 64 < 32 then (s.sElems f.val n.val c true (iSa w)).getD (i / 64 * 32 + i % 64) 0
        else (broadcast true w (s.sElems f.val n.val c true (iSb w))).getD (i / 64 * 32 + i % 64 - 32) 0))).code)) s'
        = true ∧ s.onlyTile f.val n.val (c.base + iDt w) s') ∧
      s' = { s with regs := s'.regs, sieves := s'.sieves, host := s'.host, out := s'.out } ∧
      s.onlyRegs [.HST_PORT_EVENT, .HST_PORT_MSIX_DROP, .SIV_EVENT, .SIV_ISSUE_CYCLES, .SIV_SAT] s') ∧
  (∀ (f : FieldId) (n : Fin 2) (slot : Fin 8) (c : SieveCtx) (t : EngTask) (w : Nat) (s : State), s.sieveIssues f.val
        n.val slot.val 0x29 c t w = true →
    ∃ s', exec (.sivCvtw f n slot) s = .next s' ∧
      (s.sieveWrote f.val n.val slot.val c w 1 true
    ((List.range 512).map (fun i => (convNum (iSat w) (cfCode (iCf w)) (numOf (iImm w % 64)
      ((s.sElems f.val n.val c false (iSa w)).getD
        (i / 32 * 64 + (if (iImm w).testBit 6 then 32 else 0) + i % 32) 0))).code)) s' = true ∧ s.onlyTile f.val
        n.val (c.base + iDt w) s') ∧
      s' = { s with regs := s'.regs, sieves := s'.sieves, host := s'.host, out := s'.out } ∧
      s.onlyRegs [.HST_PORT_EVENT, .HST_PORT_MSIX_DROP, .SIV_EVENT, .SIV_ISSUE_CYCLES, .SIV_SAT] s') ∧
  (∀ (f : FieldId) (n : Fin 2) (slot : Fin 8) (c : SieveCtx) (t : EngTask) (w : Nat) (s : State), s.sieveIssues f.val
        n.val slot.val 0x30 c t w = true ∧ s.tableState f.val n.val (iTable w) ≠ 0 →
    ∃ s', exec (.sivLut f n slot) s = .next s' ∧
      (s.sieveWrote f.val n.val slot.val c w (if cfWide (iCf w) then 2 else 4) (cfWide (iCf w))
    (s.laneCodes f.val n.val c w (fun w k i a b _ =>
      ⟨(fmtOf (cfCode (iCf w))).pack false (s.lutEval f.val n.val (iTable w) k i (rne32 ((if iOfs w then
        rne32 (Val.add .rne ((fmtOf (cfCode (iCf w))).unpack a) ((fmtOf (cfCode (iCf w))).unpack b).neg)
        else (fmtOf (cfCode (iCf w))).unpack a).mul (if iImm w = 0 then Val.fin false 1 0 else bf16.unpack (iImm
        w))))),
        false⟩)) s' = true ∧ s.onlyTile f.val n.val (c.base + iDt w) s') ∧
      s' = { s with
          serial := s'.serial, regs := s'.regs, mem := s'.mem, engines := s'.engines, sieves := s'.sieves,
          host := s'.host, out := s'.out } ∧
      s.onlyRegs [.HST_PORT_EVENT, .HST_PORT_MSIX_DROP, .SIV_EVENT, .SIV_ISSUE_CYCLES, .SIV_SAT] s') ∧
  (∀ (f : FieldId) (n : Fin 2) (slot : Fin 8) (c : SieveCtx) (t : EngTask) (w : Nat) (s : State), s.sieveIssues f.val
        n.val slot.val 0x30 c t w = true ∧ s.tableState f.val n.val (iTable w) = 0 →
    ∃ s', exec (.sivLut f n slot) s = .next s' ∧
      ((s'.engine f.val (unitSieve n.val)).running.any (fun x => x.serial == t.serial && x.status == some 0x80 &&
  x.detail == iTable w + c.pc * 256) = true ∧ (∀ u, (s'.sieve f.val n.val).tile u = (s.sieve f.val n.val).tile u)) ∧
      s' = { s with
          serial := s'.serial, regs := s'.regs, mem := s'.mem, engines := s'.engines, sieves := s'.sieves,
          host := s'.host, out := s'.out } ∧
      s.onlyRegs [.HST_PORT_EVENT, .HST_PORT_MSIX_DROP, .SIV_EVENT, .SIV_ISSUE_CYCLES, .SIV_SAT] s') ∧
  (∀ (f : FieldId) (n : Fin 2) (slot : Fin 8) (c : SieveCtx) (t : EngTask) (w : Nat) (s : State), s.sieveIssues f.val
        n.val slot.val 0x38 c t w = true →
    ∃ s', exec (.sivRrow f n slot) s = .next s' ∧
      (s.sieveWrote f.val n.val slot.val c w 2 (cfWide (iCf w))
    ((List.range (lanesOf (cfWide (iCf w)))).map (fun i => if i % tileCols (cfWide (iCf w)) = 0 then
      (reduceElems w s.serial i (((s.sElems f.val n.val c (cfWide (iCf w)) (iSa w)).drop i).take
        (tileCols (cfWide (iCf w))))).code else 0)) s' = true ∧ s.onlyTile f.val n.val (c.base + iDt w) s') ∧
      s' = { s with
          serial := s'.serial, regs := s'.regs, sieves := s'.sieves, host := s'.host, out := s'.out } ∧
      s.onlyRegs [.HST_PORT_EVENT, .HST_PORT_MSIX_DROP, .SIV_EVENT, .SIV_ISSUE_CYCLES, .SIV_SAT] s') ∧
  (∀ (f : FieldId) (n : Fin 2) (slot : Fin 8) (c : SieveCtx) (t : EngTask) (w : Nat) (s : State), s.sieveIssues f.val
        n.val slot.val 0x39 c t w = true →
    ∃ s', exec (.sivRcol f n slot) s = .next s' ∧
      (s.sieveWrote f.val n.val slot.val c w 2 (cfWide (iCf w))
    ((List.range (lanesOf (cfWide (iCf w)))).map (fun i => if i < tileCols (cfWide (iCf w)) then
      (reduceElems w s.serial i ((List.range 16).map (fun r =>
        (s.sElems f.val n.val c (cfWide (iCf w)) (iSa w)).getD (r * tileCols (cfWide (iCf w)) + i) 0))).code else 0))
        s' = true ∧ s.onlyTile f.val n.val (c.base + iDt w) s') ∧
      s' = { s with
          serial := s'.serial, regs := s'.regs, sieves := s'.sieves, host := s'.host, out := s'.out } ∧
      s.onlyRegs [.HST_PORT_EVENT, .HST_PORT_MSIX_DROP, .SIV_EVENT, .SIV_ISSUE_CYCLES, .SIV_SAT] s') ∧
  (∀ (f : FieldId) (n : Fin 2) (slot : Fin 8) (c : SieveCtx) (t : EngTask) (w : Nat) (s : State), s.sieveIssues f.val
        n.val slot.val 0x3C c t w = true ∧ iImm w % 1024 < lanesOf (cfWide (iCf w)) →
    ∃ s', exec (.sivShfl f n slot) s = .next s' ∧
      (s.sieveWrote f.val n.val slot.val c w 1 (cfWide (iCf w))
    ((List.range (lanesOf (cfWide (iCf w)))).map (fun i =>
      (s.sElems f.val n.val c (cfWide (iCf w)) (iSa w)).getD (i ^^^ (iImm w % 1024)) 0)) s' = true ∧
  s.onlyTile f.val n.val (c.base + iDt w) s') ∧
      s' = { s with
          serial := s'.serial, regs := s'.regs, sieves := s'.sieves, host := s'.host, out := s'.out } ∧
      s.onlyRegs [.HST_PORT_EVENT, .HST_PORT_MSIX_DROP, .SIV_EVENT, .SIV_ISSUE_CYCLES, .SIV_SAT] s') ∧
  (∀ (f : FieldId) (n : Fin 2) (slot : Fin 8) (c : SieveCtx) (t : EngTask) (w : Nat) (s : State), s.sieveIssues f.val
        n.val slot.val 0x3D c t w = true →
    ∃ s', exec (.sivPerm f n slot) s = .next s' ∧
      (s.sieveWrote f.val n.val slot.val c w 2 (cfWide (iCf w))
    ((List.range (lanesOf (cfWide (iCf w)))).map (fun i =>
      (s.sElems f.val n.val c (cfWide (iCf w)) (iSa w)).getD
        ((broadcast (cfWide (iCf w)) w (s.sElems f.val n.val c (cfWide (iCf w)) (iSb w))).getD i 0 %
          lanesOf (cfWide (iCf w))) 0)) s' = true ∧ s.onlyTile f.val n.val (c.base + iDt w) s') ∧
      s' = { s with regs := s'.regs, sieves := s'.sieves, host := s'.host, out := s'.out } ∧
      s.onlyRegs [.HST_PORT_EVENT, .HST_PORT_MSIX_DROP, .SIV_EVENT, .SIV_ISSUE_CYCLES, .SIV_SAT] s')

/-- At a cairn that runs with nothing running, the head of the queue starts alone: while ENABLE is 0 it ends with
  NOT_READY, an invalid body ends it with BODY_INVALID and the lowest reason, a sequence that is not open with
  SEQ_STALE and its id; otherwise a CLOSE ends OK, a TRUNCATE beyond the length with RANGE, a SPILL that fails a
  check with that check, and OPEN, FORK, APPEND, GATHER and TRUNCATE are settled. ENABLE is set where the
  configuration is valid, CFG_ERR otherwise, and cleared only with no sequence open. -/
def Obligations.CairnTasksStart : Prop :=
  (∀ (f : FieldId) (s : State), s.flag RF.CRN_CTL_ENABLE f.val 0 = false →
    ∃ s', exec (.crnEnable f) s = .next s' ∧
      (s'.flag RF.CRN_CTL_ENABLE f.val 0 = s.crnConfigOk f.val ∧
  (s.crnConfigOk f.val = false → s'.flag RF.CRN_CTL_CFG_ERR f.val 0 = true)) ∧
      s' = { s with regs := s'.regs } ∧
      s.onlyRegs [.CRN_CTL] s') ∧
  (∀ (f : FieldId) (s : State), s.openRecs f.val = [] →
    ∃ s', exec (.crnDisable f) s = .next s' ∧
      (s'.flag RF.CRN_CTL_ENABLE f.val 0 = false) ∧
      s' = { s with regs := s'.regs } ∧
      s.onlyRegs [.CRN_CTL] s') ∧
  (∀ (f : FieldId) (h : EngTask) (rest : List EngTask) (s : State), s.headStarts f.val unitCairn 0 h rest = true →
    ∃ s', exec (.crnNop f) s = .next s' ∧
      (s'.startedAlone f.val unitCairn s.now h rest = true ∧ s'.allSettled f.val unitCairn = true ∧
  (s.cBodyReason f.val h.desc = 0 → (s'.engine f.val unitCairn).running.map (·.status) = [some stOk]) ∧
  (s.cBodyReason f.val h.desc ≠ 0 → s'.settledAs f.val unitCairn h.serial stBodyInvalid (s.cBodyReason f.val h.desc)
        = true)) ∧
      s' = { s with serial := s'.serial, engines := s'.engines }) ∧
  (∀ (f : FieldId) (h : EngTask) (rest : List EngTask) (s : State), s.headStarts f.val unitCairn 1 h rest = true →
    ∃ s', exec (.crnOpen f) s = .next s' ∧
      (s.cairnStarted f.val h rest false s' = true ∧ s'.allSettled f.val unitCairn = true) ∧
      s' = { s with
          serial := s'.serial, regs := s'.regs, mem := s'.mem, crofters := s'.crofters,
          engines := s'.engines, cairns := s'.cairns, out := s'.out } ∧
      s.onlyRegs [.FLD_CMN_DENIED, .FLD_CMN_ERR_ADDR, .FLD_CMN_ERR_SOURCE, .FLD_CMN_ERR_STATUS, .FLD_CMN_FRESH_FILLS,
        .FLD_CMN_FRESH_READS] s') ∧
  (∀ (f : FieldId) (h : EngTask) (rest : List EngTask) (s : State), s.headStarts f.val unitCairn 2 h rest = true →
    ∃ s', exec (.crnClose f) s = .next s' ∧
      (s.cairnStarted f.val h rest true s' = true ∧ s'.allSettled f.val unitCairn = true ∧
  (s.cairnReady f.val h true = true → (s'.engine f.val unitCairn).running.map (·.status) = [some stOk])) ∧
      s' = { s with
          serial := s'.serial, regs := s'.regs, mem := s'.mem, crofters := s'.crofters,
          engines := s'.engines, cairns := s'.cairns, out := s'.out } ∧
      s.onlyRegs [.FLD_CMN_FRESH_FILLS] s') ∧
  (∀ (f : FieldId) (h : EngTask) (rest : List EngTask) (s : State), s.headStarts f.val unitCairn 3 h rest = true →
    ∃ s', exec (.crnFork f) s = .next s' ∧
      (s.cairnStarted f.val h rest true s' = true ∧ s'.allSettled f.val unitCairn = true) ∧
      s' = { s with
          serial := s'.serial, regs := s'.regs, mem := s'.mem, commons := s'.commons,
          crofters := s'.crofters, engines := s'.engines, cairns := s'.cairns, out := s'.out } ∧
      s.onlyRegs [.FLD_CMN_DENIED, .FLD_CMN_ERR_ADDR, .FLD_CMN_ERR_SOURCE, .FLD_CMN_ERR_STATUS, .FLD_CMN_FRESH_FILLS,
        .FLD_CMN_FRESH_READS] s') ∧
  (∀ (f : FieldId) (h : EngTask) (rest : List EngTask) (s : State), s.headStarts f.val unitCairn 4 h rest = true →
    ∃ s', exec (.crnStep f) s = .next s' ∧
      (s.cairnStarted f.val h rest false s' = true) ∧
      s' = { s with
          serial := s'.serial, regs := s'.regs, mem := s'.mem, commons := s'.commons,
          crofters := s'.crofters, engines := s'.engines, cairns := s'.cairns, out := s'.out } ∧
      s.onlyRegs [.CRN_ADMIT, .FLD_CMN_DENIED, .FLD_CMN_ERR_ADDR, .FLD_CMN_ERR_SOURCE, .FLD_CMN_ERR_STATUS,
        .FLD_CMN_FRESH_FILLS, .FLD_CMN_FRESH_READS, .HBM_GRAN_ERR, .HBM_GRAN_MOVED] s') ∧
  (∀ (f : FieldId) (h : EngTask) (rest : List EngTask) (s : State), s.headStarts f.val unitCairn 5 h rest = true →
    ∃ s', exec (.crnAppend f) s = .next s' ∧
      (s.cairnStarted f.val h rest false s' = true ∧ s'.allSettled f.val unitCairn = true) ∧
      s' = { s with
          serial := s'.serial, regs := s'.regs, mem := s'.mem, commons := s'.commons,
          crofters := s'.crofters, engines := s'.engines, out := s'.out } ∧
      s.onlyRegs [.CRN_CLAMPS, .FLD_CMN_DENIED, .FLD_CMN_ERR_ADDR, .FLD_CMN_ERR_SOURCE, .FLD_CMN_ERR_STATUS,
        .FLD_CMN_FRESH_FILLS, .FLD_CMN_FRESH_READS] s') ∧
  (∀ (f : FieldId) (h : EngTask) (rest : List EngTask) (s : State), s.headStarts f.val unitCairn 6 h rest = true →
    ∃ s', exec (.crnGather f) s = .next s' ∧
      (s.cairnStarted f.val h rest true s' = true ∧ s'.allSettled f.val unitCairn = true) ∧
      s' = { s with
          serial := s'.serial, regs := s'.regs, mem := s'.mem, commons := s'.commons,
          crofters := s'.crofters, engines := s'.engines, out := s'.out } ∧
      s.onlyRegs [.FLD_CMN_DENIED, .FLD_CMN_ERR_ADDR, .FLD_CMN_ERR_SOURCE, .FLD_CMN_ERR_STATUS, .FLD_CMN_FRESH_FILLS,
        .FLD_CMN_FRESH_READS] s') ∧
  (∀ (f : FieldId) (h : EngTask) (rest : List EngTask) (s : State), s.headStarts f.val unitCairn 7 h rest = true →
    ∃ s', exec (.crnTruncate f) s = .next s' ∧
      (s.cairnStarted f.val h rest true s' = true ∧ s'.allSettled f.val unitCairn = true ∧
  (s.cairnReady f.val h true = true → (s.seqRec f.val (seqRecord (cSeq h.desc))).len < cArg h.desc →
    s'.settledAs f.val unitCairn h.serial stRange (idPage (cSeq h.desc) (cArg h.desc)) = true)) ∧
      s' = { s with
          serial := s'.serial, regs := s'.regs, mem := s'.mem, crofters := s'.crofters,
          engines := s'.engines, cairns := s'.cairns, out := s'.out } ∧
      s.onlyRegs [.FLD_CMN_FRESH_FILLS] s') ∧
  (∀ (f : FieldId) (h : EngTask) (rest : List EngTask) (s : State), s.headStarts f.val unitCairn 8 h rest = true →
    ∃ s', exec (.crnSpill f) s = .next s' ∧
      (s.cairnStarted f.val h rest true s' = true ∧
  (s.cairnReady f.val h true = true → (s.seqRec f.val (seqRecord (cSeq h.desc))).damaged = true →
    s'.settledAs f.val unitCairn h.serial stSeqDamaged
      (idPage (cSeq h.desc) (s.firstLost f.val (seqRecord (cSeq h.desc)))) = true)) ∧
      s' = { s with
          serial := s'.serial, regs := s'.regs, mem := s'.mem, crofters := s'.crofters,
          engines := s'.engines, cairns := s'.cairns, out := s'.out } ∧
      s.onlyRegs [.FLD_CMN_DENIED, .FLD_CMN_ERR_ADDR, .FLD_CMN_ERR_SOURCE, .FLD_CMN_ERR_STATUS, .FLD_CMN_FRESH_FILLS,
        .FLD_CMN_FRESH_READS, .HBM_GRAN_ERR] s') ∧
  (∀ (f : FieldId) (h : EngTask) (rest : List EngTask) (s : State), s.headStarts f.val unitCairn 9 h rest = true →
    ∃ s', exec (.crnRecall f) s = .next s' ∧
      (s.cairnStarted f.val h rest true s' = true ∧
  (s.cairnReady f.val h true = true → (s.seqRec f.val (seqRecord (cSeq h.desc))).damaged = true →
    s'.settledAs f.val unitCairn h.serial stSeqDamaged
      (idPage (cSeq h.desc) (s.firstLost f.val (seqRecord (cSeq h.desc)))) = true)) ∧
      s' = { s with
          serial := s'.serial, regs := s'.regs, mem := s'.mem, crofters := s'.crofters,
          engines := s'.engines, cairns := s'.cairns, out := s'.out } ∧
      s.onlyRegs [.FLD_CMN_FRESH_FILLS, .HBM_GRAN_ERR] s')

/-- A granary write that is acknowledged takes its pair out of the task's job and counts it, a failed one ends the
  task with GRANARY and POISON; data read back joins its pair while others wait; a timeout ends the task with GRANARY
  and TIMEOUT and drops the job; the pool's agent answers its oldest query with its free slots, or zero where the
  parish is not admitted; an answer leaves the step waiting for the others; the oldest settled task completes; a
  reclaim is BUSY with its holder until it is done. -/
def Obligations.CairnPairsPoolsAndReclaim : Prop :=
  (∀ (f : FieldId) (pair : BitVec 32) (bad : Bool) (t : EngTask) (j : CairnJob) (p : CairnPair) (s : State),
        s.granJob f.val pair.toNat = some (t, j, p) ∧ s.unitRuns f.val unitCairn = true ∧ descOpcode t.desc = 8 ∧ bad
        = false →
    ∃ s', exec (.granaryWriteAck f pair bad) s = .next s' ∧
      (s'.getF RF.HBM_GRAN_MOVED_SPILLED 0 0 =
    wrapAdd RF.HBM_GRAN_MOVED_SPILLED.w (s.getF RF.HBM_GRAN_MOVED_SPILLED 0 0) 1 ∧
  (j.pairs.filter (fun x => x.gran != p.gran) = [] → (s'.cairn f.val).job = none ∧
    s'.settledTask f.val unitCairn t.serial = true) ∧
  (j.pairs.filter (fun x => x.gran != p.gran) ≠ [] → (s'.cairn f.val).job =
    some { j with pairs := j.pairs.filter (fun x => x.gran != p.gran) })) ∧
      s' = { s with
          serial := s'.serial, regs := s'.regs, mem := s'.mem, crofters := s'.crofters,
          engines := s'.engines, cairns := s'.cairns, out := s'.out } ∧
      s.onlyRegs [.FLD_CMN_FRESH_FILLS, .HBM_GRAN_ERR, .HBM_GRAN_MOVED] s') ∧
  (∀ (f : FieldId) (pair : BitVec 32) (bad : Bool) (t : EngTask) (j : CairnJob) (p : CairnPair) (s : State),
        s.granJob f.val pair.toNat = some (t, j, p) ∧ s.unitRuns f.val unitCairn = true ∧ descOpcode t.desc = 8 ∧ bad
        = true →
    ∃ s', exec (.granaryWriteAck f pair bad) s = .next s' ∧
      (s'.settledAs f.val unitCairn t.serial stGranary (AccStatus.poison.code + p.gran * 256) = true ∧
  (s'.cairn f.val).job = none ∧ s'.flag RF.HBM_GRAN_ERR_VALID 0 0 = true) ∧
      s' = { s with
          serial := s'.serial, regs := s'.regs, mem := s'.mem, crofters := s'.crofters,
          engines := s'.engines, cairns := s'.cairns, out := s'.out } ∧
      s.onlyRegs [.FLD_CMN_FRESH_FILLS, .HBM_GRAN_ERR, .HBM_GRAN_MOVED] s') ∧
  (∀ (f : FieldId) (pair : BitVec 32) (data : List Byte) (bad : Bool) (t : EngTask) (j : CairnJob) (p : CairnPair) (s
        : State), data.length = 2 * s.slotSize f.val ∧ bad = false ∧ s.granJob f.val pair.toNat = some (t, j, p) ∧
  s.unitRuns f.val unitCairn = true ∧ descOpcode t.desc = 9 ∧
  (j.pairs.map (fun x => if x.gran = p.gran ∧ x.back then { x with data := some data } else x)).all
    (fun x => !x.back || x.data.isSome) = false →
    ∃ s', exec (.granaryReadDone f pair data bad) s = .next s' ∧
      ((s'.cairn f.val).job = some { j with pairs := j.pairs.map (fun x =>
    if x.gran = p.gran ∧ x.back then { x with data := some data } else x) } ∧ s'.mem = s.mem ∧ s'.regs = s.regs) ∧
      s' = { s with
          serial := s'.serial, regs := s'.regs, mem := s'.mem, commons := s'.commons,
          crofters := s'.crofters, engines := s'.engines, cairns := s'.cairns, out := s'.out } ∧
      s.onlyRegs [.CRN_ADMIT, .FLD_CMN_DENIED, .FLD_CMN_ERR_ADDR, .FLD_CMN_ERR_SOURCE, .FLD_CMN_ERR_STATUS,
        .FLD_CMN_FRESH_FILLS, .HBM_GRAN_ERR, .HBM_GRAN_MOVED] s') ∧
  (∀ (f : FieldId) (pair : BitVec 32) (data : List Byte) (bad : Bool) (t : EngTask) (j : CairnJob) (p : CairnPair) (s
        : State), s.granJob f.val pair.toNat = some (t, j, p) ∧ s.unitRuns f.val unitCairn = true ∧ descOpcode t.desc
        ≠ 8 ∧ bad = true →
    ∃ s', exec (.granaryReadDone f pair data bad) s = .next s' ∧
      (s'.settledAs f.val unitCairn t.serial stGranary (AccStatus.poison.code + p.gran * 256) = true ∧
  (s'.cairn f.val).job = none ∧ s'.flag RF.HBM_GRAN_ERR_VALID 0 0 = true) ∧
      s' = { s with
          serial := s'.serial, regs := s'.regs, mem := s'.mem, commons := s'.commons,
          crofters := s'.crofters, engines := s'.engines, cairns := s'.cairns, out := s'.out } ∧
      s.onlyRegs [.CRN_ADMIT, .FLD_CMN_DENIED, .FLD_CMN_ERR_ADDR, .FLD_CMN_ERR_SOURCE, .FLD_CMN_ERR_STATUS,
        .FLD_CMN_FRESH_FILLS, .HBM_GRAN_ERR, .HBM_GRAN_MOVED] s') ∧
  (∀ (f : FieldId) (pair : BitVec 32) (t : EngTask) (j : CairnJob) (p : CairnPair) (s : State), s.granJob f.val
        pair.toNat = some (t, j, p) ∧ s.unitRuns f.val unitCairn = true →
    ∃ s', exec (.granaryTimeout f pair) s = .next s' ∧
      (s'.settledAs f.val unitCairn t.serial stGranary (AccStatus.timeout.code + p.gran * 256) = true ∧
  (s'.cairn f.val).job = none ∧ s'.flag RF.HBM_GRAN_ERR_VALID 0 0 = true) ∧
      s' = { s with
          regs := s'.regs, mem := s'.mem, crofters := s'.crofters, engines := s'.engines,
          cairns := s'.cairns, out := s'.out } ∧
      s.onlyRegs [.FLD_CMN_FRESH_FILLS, .HBM_GRAN_ERR] s') ∧
  (∀ (f : FieldId) (cycles : Nat) (t : EngTask) (rest : List EngTask) (st : Nat) (s : State), s.unitRuns f.val
        unitCairn = true ∧ (s.engine f.val unitCairn).running = t :: rest ∧ t.status = some st →
    ∃ s', exec (.crnTaskComplete f cycles) s = .next s' ∧
      ((s'.engine f.val unitCairn).running = rest ∧ (s'.engine f.val unitCairn).queue = (s.engine f.val
        unitCairn).queue) ∧
      s' = { s with
          regs := s'.regs, mem := s'.mem, commons := s'.commons, crofters := s'.crofters,
          tallies := s'.tallies, engines := s'.engines, host := s'.host, out := s'.out }) ∧
  (∀ (f : FieldId) (w : WaferId) (g : BitVec 7) (s : State), s.flag RF.CRN_RECLAIM_BUSY f.val 0 = false →
    ∃ s', exec (.crnReclaimGo f w g) s = .next s' ∧
      (s'.flag RF.CRN_RECLAIM_BUSY f.val 0 = true ∧ s'.getF RF.CRN_RECLAIM_WAFER f.val 0 = w.val ∧
  s'.getF RF.CRN_RECLAIM_FIELD f.val 0 = g.toNat) ∧
      s' = { s with regs := s'.regs } ∧
      s.onlyRegs [.CRN_RECLAIM] s') ∧
  (∀ (f : FieldId) (s : State), s.flag RF.CRN_RECLAIM_BUSY f.val 0 = true ∧ s.stopped f.val = false →
    ∃ s', exec (.crnReclaimDone f) s = .next s' ∧
      (s'.flag RF.CRN_RECLAIM_BUSY f.val 0 = false) ∧
      s' = { s with regs := s'.regs, mem := s'.mem, crofters := s'.crofters } ∧
      s.onlyRegs [.CRN_ORPHAN_FREED, .CRN_RECLAIM, .FLD_CMN_FRESH_FILLS] s') ∧
  (∀ (f : FieldId) (w : WaferId) (g : FieldId) (a : PoolAnswer) (j : CairnJob) (t : EngTask) (l : List EngTask) (q :
        PoolReq) (n : Nat) (s : State), a = .own ∧ w.val = s.ownWafer ∧ (s.cairn f.val).job = some j ∧ (s.engine
        f.val unitCairn).running = t :: l ∧
  s.unitRuns f.val unitCairn = true ∧ j.waiting.contains (poolName w.val g.val) = true ∧ j.task = t.serial ∧
  s.cairns.reqs.find? (fun q => q.holder == f.val && q.pool == poolName w.val g.val && q.answer.isSome) = some q ∧
  q.answer = some n ∧ j.waiting.filter (fun p => p != poolName w.val g.val) ≠ [] →
    ∃ s', exec (.poolQueryReply f w g a) s = .next s' ∧
      ((s'.cairn f.val).job = some
        { j with waiting := j.waiting.filter (fun p => p != poolName w.val g.val), avail := j.avail.put 0 (poolName w.val g.val) n } ∧
  s'.cairns.reqs = s.cairns.reqs.filter (fun x => x.id != q.id) ∧ s'.mem = s.mem ∧ s'.engines = s.engines) ∧
      s' = { s with
          serial := s'.serial, regs := s'.regs, mem := s'.mem, commons := s'.commons,
          crofters := s'.crofters, engines := s'.engines, cairns := s'.cairns, out := s'.out } ∧
      s.onlyRegs [.CRN_ADMIT, .FLD_CMN_DENIED, .FLD_CMN_ERR_ADDR, .FLD_CMN_ERR_SOURCE, .FLD_CMN_ERR_STATUS,
        .FLD_CMN_FRESH_FILLS, .HBM_GRAN_ERR, .HBM_GRAN_MOVED] s') ∧
  (∀ (f : FieldId) (r : PoolRef) (id : Nat) (q : PoolReq) (k : Nat) (s : State), s.stopped f.val = false ∧ s.halted =
        false ∧ r = .own id ∧
  s.cairns.reqs.find? (fun q => q.pool == poolName s.ownWafer f.val && q.answer.isNone) = some q ∧ q.id = id ∧
  k = (if s.poolAdmits q.src f.val then (s.freeSlots f.val).length else 0) →
    ∃ s', exec (.poolAgentRequest f r) s = .next s' ∧
      (s'.cairns.reqs = s.cairns.reqs.map (fun x => if x.id = id then { x with answer := some k } else x) ∧ s'.mem =
        s.mem ∧ s'.regs = s.regs) ∧
      s' = { s with
          serial := s'.serial, regs := s'.regs, mem := s'.mem, crofters := s'.crofters, cairns := s'.cairns,
          out := s'.out } ∧
      s.onlyRegs [.FLD_CMN_FRESH_FILLS] s') ∧
  (∀ (f : FieldId) (r : PoolRef) (src : Source) (holder : FieldId) (s : State), s.stopped f.val = false ∧ s.halted =
        false ∧ r = .foreign src holder .query ∧ src.wafer.val ≠ s.ownWafer →
    ∃ s', exec (.poolAgentRequest f r) s = .next s' ∧
      (s'.out = s.out ++ [if s.poolAdmits src f.val then OutMsg.pool src.wafer.val holder.val 0x11
      [(s.freeSlots f.val).length, s.getF RF.CRN_POOL_BASE_BASE f.val 0 * 65536,
        s.getF RF.CRN_POOL_SLOTS_SLOTS f.val 0]
    else OutMsg.pool src.wafer.val holder.val 0x10 [AccStatus.accessDenied.code]] ∧ s'.mem = s.mem ∧ s'.regs =
        s.regs) ∧
      s' = { s with
          serial := s'.serial, regs := s'.regs, mem := s'.mem, crofters := s'.crofters, cairns := s'.cairns,
          out := s'.out } ∧
      s.onlyRegs [.FLD_CMN_FRESH_FILLS] s')

/-- At a scree or loom that runs, the task at the head, or at the head of its pipe, starts: an invalid descriptor
  ends it with BODY_INVALID and the lowest reason; a scree task, SESSION_INIT and CONVERT are settled, a DECODE or
  ENCODE is settled or becomes its pipe's job; a NOP of the loom completes at once. A frame budget that runs out is
  counted, raises BUDGET and marks the job; a frame that does not fit ends its ENCODE with OUT_FULL; settled tasks
  complete and are counted, and a completed job leaves its pipe. -/
def Obligations.ScreeAndLoomTasksRun : Prop :=
  (∀ (f : FieldId) (h : EngTask) (rest : List EngTask) (s : State), s.headStarts f.val unitScree 0 h rest = true →
    ∃ s', exec (.scrNop f) s = .next s' ∧
      (s.screeStarted f.val h rest s' = true) ∧
      s' = { s with serial := s'.serial, engines := s'.engines }) ∧
  (∀ (f : FieldId) (h : EngTask) (rest : List EngTask) (s : State), s.headStarts f.val unitScree 1 h rest = true →
    ∃ s', exec (.voxelize f) s = .next s' ∧
      (s.screeStarted f.val h rest s' = true) ∧
      s' = { s with
          serial := s'.serial, regs := s'.regs, mem := s'.mem, commons := s'.commons,
          crofters := s'.crofters, engines := s'.engines, host := s'.host, out := s'.out } ∧
      s.onlyRegs [.FLD_CMN_DENIED, .FLD_CMN_ERR_ADDR, .FLD_CMN_ERR_SOURCE, .FLD_CMN_ERR_STATUS, .FLD_CMN_FRESH_FILLS,
        .FLD_CMN_FRESH_READS, .HST_PORT_EVENT, .HST_PORT_MSIX_DROP, .SCR_CULLED, .SCR_EVENT, .SCR_POINTS, .SCR_TAG]
        s') ∧
  (∀ (f : FieldId) (h : EngTask) (rest : List EngTask) (s : State), s.headStarts f.val unitScree 2 h rest = true →
    ∃ s', exec (.rulebook f) s = .next s' ∧
      (s.screeStarted f.val h rest s' = true) ∧
      s' = { s with
          serial := s'.serial, regs := s'.regs, mem := s'.mem, commons := s'.commons,
          crofters := s'.crofters, engines := s'.engines, out := s'.out } ∧
      s.onlyRegs [.FLD_CMN_DENIED, .FLD_CMN_ERR_ADDR, .FLD_CMN_ERR_SOURCE, .FLD_CMN_ERR_STATUS, .FLD_CMN_FRESH_FILLS,
        .FLD_CMN_FRESH_READS, .SCR_TAG] s') ∧
  (∀ (f : FieldId) (h : EngTask) (rest : List EngTask) (s : State), s.headStarts f.val unitScree 3 h rest = true →
    ∃ s', exec (.scrGather f) s = .next s' ∧
      (s.screeStarted f.val h rest s' = true) ∧
      s' = { s with
          serial := s'.serial, regs := s'.regs, mem := s'.mem, commons := s'.commons,
          crofters := s'.crofters, engines := s'.engines, out := s'.out } ∧
      s.onlyRegs [.FLD_CMN_DENIED, .FLD_CMN_ERR_ADDR, .FLD_CMN_ERR_SOURCE, .FLD_CMN_ERR_STATUS, .FLD_CMN_FRESH_FILLS,
        .FLD_CMN_FRESH_READS, .SCR_PAIRS] s') ∧
  (∀ (f : FieldId) (h : EngTask) (rest : List EngTask) (s : State), s.headStarts f.val unitScree 4 h rest = true →
    ∃ s', exec (.scatter f) s = .next s' ∧
      (s.screeStarted f.val h rest s' = true) ∧
      s' = { s with
          serial := s'.serial, regs := s'.regs, mem := s'.mem, commons := s'.commons,
          crofters := s'.crofters, engines := s'.engines, out := s'.out } ∧
      s.onlyRegs [.FLD_CMN_DENIED, .FLD_CMN_ERR_ADDR, .FLD_CMN_ERR_SOURCE, .FLD_CMN_ERR_STATUS, .FLD_CMN_FRESH_FILLS,
        .FLD_CMN_FRESH_READS, .SCR_PAIRS] s') ∧
  (∀ (f : FieldId) (cycles : Nat) (t : EngTask) (rest : List EngTask) (st : Nat) (s : State), s.unitRuns f.val
        unitScree = true ∧ (s.engine f.val unitScree).running = t :: rest ∧ t.status = some st →
    ∃ s', exec (.scrTaskComplete f cycles) s = .next s' ∧
      ((s'.engine f.val unitScree).running = rest ∧ (s'.engine f.val unitScree).queue = (s.engine f.val
        unitScree).queue ∧
  s'.getF RF.SCR_BUSY_CYCLES_COUNT f.val 0 =
    wrapAdd RF.SCR_BUSY_CYCLES_COUNT.w (s.getF RF.SCR_BUSY_CYCLES_COUNT f.val 0) cycles ∧
  s'.getF RF.SCR_TASKS_COMPLETED f.val 0 = wrapAdd RF.SCR_TASKS_COMPLETED.w (s.getF RF.SCR_TASKS_COMPLETED f.val 0)
        1) ∧
      s' = { s with
          regs := s'.regs, mem := s'.mem, commons := s'.commons, crofters := s'.crofters,
          tallies := s'.tallies, engines := s'.engines, host := s'.host, out := s'.out }) ∧
  (∀ (f : FieldId) (cycles : Nat) (t : EngTask) (s : State), s.unitRuns f.val unitLoom = true ∧ (s.engine f.val
        unitLoom).queue.find? (fun t =>
  descOpcode t.desc == 0 || decide (4 < descOpcode t.desc)) = some t →
    ∃ s', exec (.lomNop f cycles) s = .next s' ∧
      ((s'.engine f.val unitLoom).queue = (s.engine f.val unitLoom).queue.filter (fun x => x.serial != t.serial) ∧
  (s'.engine f.val unitLoom).running = (s.engine f.val unitLoom).running ∧
  s'.getF RF.LOM_JOBS_COMPLETED f.val 0 = wrapAdd RF.LOM_JOBS_COMPLETED.w (s.getF RF.LOM_JOBS_COMPLETED f.val 0) 1) ∧
      s' = { s with
          serial := s'.serial, regs := s'.regs, mem := s'.mem, commons := s'.commons,
          crofters := s'.crofters, tallies := s'.tallies, engines := s'.engines, host := s'.host,
          out := s'.out }) ∧
  (∀ (f : FieldId) (enc : Bool) (t : EngTask) (s : State), s.pipeStarts f.val 1 enc t = true →
    ∃ s', exec (.sessionInit f enc) s = .next s' ∧
      (s.pipeStarted f.val t s' = true ∧ s'.settledTask f.val unitLoom t.serial = true) ∧
      s' = { s with
          serial := s'.serial, regs := s'.regs, mem := s'.mem, commons := s'.commons,
          crofters := s'.crofters, engines := s'.engines, out := s'.out } ∧
      s.onlyRegs [.FLD_CMN_DENIED, .FLD_CMN_ERR_ADDR, .FLD_CMN_ERR_SOURCE, .FLD_CMN_ERR_STATUS, .FLD_CMN_FRESH_FILLS,
        .FLD_CMN_FRESH_READS] s') ∧
  (∀ (f : FieldId) (t : EngTask) (s : State), s.pipeStarts f.val 2 false t = true →
    ∃ s', exec (.decode f) s = .next s' ∧
      (s.pipeStarted f.val t s' = true ∧ (s'.settledTask f.val unitLoom t.serial = true ∨ (s'.loom f.val).dec.map
        (·.task) = some t.serial)) ∧
      s' = { s with
          serial := s'.serial, regs := s'.regs, mem := s'.mem, crofters := s'.crofters,
          engines := s'.engines, looms := s'.looms, out := s'.out } ∧
      s.onlyRegs [.FLD_CMN_DENIED, .FLD_CMN_ERR_ADDR, .FLD_CMN_ERR_SOURCE, .FLD_CMN_ERR_STATUS, .FLD_CMN_FRESH_FILLS,
        .FLD_CMN_FRESH_READS] s') ∧
  (∀ (f : FieldId) (t : EngTask) (s : State), s.pipeStarts f.val 3 true t = true →
    ∃ s', exec (.encode f) s = .next s' ∧
      (s.pipeStarted f.val t s' = true ∧ (s'.settledTask f.val unitLoom t.serial = true ∨ (s'.loom f.val).enc.map
        (·.task) = some t.serial)) ∧
      s' = { s with
          serial := s'.serial, regs := s'.regs, mem := s'.mem, crofters := s'.crofters,
          engines := s'.engines, looms := s'.looms, out := s'.out } ∧
      s.onlyRegs [.FLD_CMN_DENIED, .FLD_CMN_ERR_ADDR, .FLD_CMN_ERR_SOURCE, .FLD_CMN_ERR_STATUS, .FLD_CMN_FRESH_FILLS,
        .FLD_CMN_FRESH_READS] s') ∧
  (∀ (f : FieldId) (t : EngTask) (s : State), s.pipeStarts f.val 4 false t = true →
    ∃ s', exec (.convert f) s = .next s' ∧
      (s.pipeStarted f.val t s' = true ∧ s'.settledTask f.val unitLoom t.serial = true) ∧
      s' = { s with
          serial := s'.serial, regs := s'.regs, mem := s'.mem, commons := s'.commons,
          crofters := s'.crofters, engines := s'.engines, out := s'.out } ∧
      s.onlyRegs [.FLD_CMN_DENIED, .FLD_CMN_ERR_ADDR, .FLD_CMN_ERR_SOURCE, .FLD_CMN_ERR_STATUS, .FLD_CMN_FRESH_FILLS,
        .FLD_CMN_FRESH_READS] s') ∧
  (∀ (f : FieldId) (nonframe : Bool) (t : EngTask) (j : LoomJob) (s : State), s.lJobOf f.val false = some (t, j) ∧
        s.unitRuns f.val unitLoom = true →
    ∃ s', exec (.frameBudgetExpire f nonframe) s = .next s' ∧
      ((s'.loom f.val).dec = some { j with budget := !nonframe } ∧ s'.flag RF.LOM_EVENT_BUDGET f.val 0 = true ∧
  s'.getF RF.LOM_BUDGET_HITS_COUNT f.val 0 =
    min (s.getF RF.LOM_BUDGET_HITS_COUNT f.val 0 + 1) (2 ^ RF.LOM_BUDGET_HITS_COUNT.w - 1)) ∧
      s' = { s with regs := s'.regs, looms := s'.looms, host := s'.host, out := s'.out } ∧
      s.onlyRegs [.HST_PORT_EVENT, .HST_PORT_MSIX_DROP, .LOM_BUDGET_HITS, .LOM_EVENT] s') ∧
  (∀ (f : FieldId) (r : FrameOut) (x : EncFrame) (t : EngTask) (j : LoomJob) (s : State), r = .enc x ∧ s.lJobOf f.val
        true = some (t, j) ∧ s.unitRuns f.val unitLoom = true ∧ encReady j ≠ 0 ∧
  leField j.job 24 4 < j.out + x.data.length →
    ∃ s', exec (.frameCommit f r) s = .next s' ∧
      (s'.settledAs f.val unitLoom t.serial stOutFull (encDetail j) = true ∧ s'.mem = s.mem ∧ s'.looms = s.looms) ∧
      s' = { s with
          serial := s'.serial, regs := s'.regs, mem := s'.mem, commons := s'.commons,
          crofters := s'.crofters, engines := s'.engines, looms := s'.looms, host := s'.host, out := s'.out } ∧
      s.onlyRegs [.FLD_CMN_DENIED, .FLD_CMN_ERR_ADDR, .FLD_CMN_ERR_SOURCE, .FLD_CMN_ERR_STATUS, .FLD_CMN_FRESH_FILLS,
        .FLD_CMN_FRESH_READS, .HST_PORT_EVENT, .HST_PORT_MSIX_DROP, .LOM_BS_BYTES, .LOM_CONCEALED, .LOM_DEC_PIXELS,
        .LOM_ENC_PIXELS, .LOM_ENC_SKIPS, .LOM_EVENT, .LOM_REJECTS] s') ∧
  (∀ (f : FieldId) (r : FrameOut) (x : EncFrame) (t : EngTask) (j : LoomJob) (s : State), r = .enc x ∧ s.lJobOf f.val
        true = some (t, j) ∧ s.unitRuns f.val unitLoom = true ∧ encReady j ≠ 0 ∧
  j.out + x.data.length ≤ leField j.job 24 4 →
    ∃ s', exec (.frameCommit f r) s = .next s' ∧
      (s'.settledTask f.val unitLoom t.serial = true ∨
  (s'.loom f.val).enc.map (fun k => (k.records, k.out)) = some (j.records + 1, j.out + x.data.length)) ∧
      s' = { s with
          serial := s'.serial, regs := s'.regs, mem := s'.mem, commons := s'.commons,
          crofters := s'.crofters, engines := s'.engines, looms := s'.looms, host := s'.host, out := s'.out } ∧
      s.onlyRegs [.FLD_CMN_DENIED, .FLD_CMN_ERR_ADDR, .FLD_CMN_ERR_SOURCE, .FLD_CMN_ERR_STATUS, .FLD_CMN_FRESH_FILLS,
        .FLD_CMN_FRESH_READS, .HST_PORT_EVENT, .HST_PORT_MSIX_DROP, .LOM_BS_BYTES, .LOM_CONCEALED, .LOM_DEC_PIXELS,
        .LOM_ENC_PIXELS, .LOM_ENC_SKIPS, .LOM_EVENT, .LOM_REJECTS] s') ∧
  (∀ (f : FieldId) (enc : Bool) (consumed : Nat) (cycles : Nat) (t : EngTask) (st : Nat) (s : State), (s.engine f.val
        unitLoom).running.find? (fun t => s.lPipe f.val t == enc) = some t ∧ t.status = some st ∧
  s.unitRuns f.val unitLoom = true →
    ∃ s', exec (.loomJobComplete f enc consumed cycles) s = .next s' ∧
      ((s'.engine f.val unitLoom).running = (s.engine f.val unitLoom).running.filter (fun x => x.serial != t.serial) ∧
  (if enc then (s'.loom f.val).enc else (s'.loom f.val).dec) = none ∧
  s'.getF RF.LOM_JOBS_COMPLETED f.val 0 = wrapAdd RF.LOM_JOBS_COMPLETED.w (s.getF RF.LOM_JOBS_COMPLETED f.val 0) 1) ∧
      s' = { s with
          serial := s'.serial, regs := s'.regs, mem := s'.mem, commons := s'.commons,
          crofters := s'.crofters, tallies := s'.tallies, engines := s'.engines, looms := s'.looms,
          host := s'.host, out := s'.out })

/-- For every fabric link: a target DOWN, a notice of the partner, the loss of signal or lock, too many uncorrectable
  codewords and the timeouts take it DOWN with their cause, its buffers emptied and DOWNS counted; a target UP leads
  from DOWN to DETECT, QUIET from UP to QUIET_ENTRY unless it is the last live member, TEST sends TEST_REQ; a signal
  leads to PHY_TRAIN, the lock to IDENT; identity blocks are sent and received, three identical ones with an echo
  fill the neighbour registers, and a version that does not meet puts the link into QUARANTINE. -/
def Obligations.LinksTrainAndGoDown : Prop :=
  (∀ (k : LinkId) (s : State), k.val < 56 ∧ s.linkState k.val ≠ lsDown ∧ s.linkState k.val ≠ lsPcie →
    ∃ s', exec (.linkTargetDown k) s = .next s' ∧
      (s.wentDown k.val 6 s' = true ∧ s'.linkTarget k.val = 0) ∧
      s' = { s with
          regs := s'.regs, commons := s'.commons, crofters := s'.crofters, tallies := s'.tallies,
          seq := s'.seq, verne := s'.verne, fabric := s'.fabric, host := s'.host, out := s'.out } ∧
      s.onlyRegs [.CRF_FAULT_HEAD, .CRF_FAULTk, .CRF_INST_COUNT, .FAB_HELD, .FAB_MEMBERS, .FAB_QUAR, .FAB_REISSUE,
        .FLD_CMN_DENIED, .FLD_CMN_ERR_ADDR, .FLD_CMN_ERR_SOURCE, .FLD_CMN_ERR_STATUS, .HST_FN_WIN_ERR,
        .HST_PORT_EVENT, .HST_PORT_MSIX_DROP, .VRN_LNK_CTL, .VRN_LNK_STATE, .VRN_LNK_TX, .VRN_PORTp_STATE] s') ∧
  (∀ (k : LinkId) (s : State), k.val < 56 ∧ s.linkState k.val = lsDown ∧ s.linksPowered = true ∧ s.underLoop k.val =
        false →
    ∃ s', exec (.linkTargetUp k) s = .next s' ∧
      (s'.linkState k.val = lsDetect ∧ s'.linkTarget k.val = 1) ∧
      s' = { s with
          regs := s'.regs, commons := s'.commons, crofters := s'.crofters, tallies := s'.tallies,
          seq := s'.seq, verne := s'.verne, fabric := s'.fabric, host := s'.host, out := s'.out } ∧
      s.onlyRegs [.CRF_FAULT_HEAD, .CRF_FAULTk, .CRF_INST_COUNT, .FAB_HELD, .FAB_MEMBERS, .FAB_QUAR, .FAB_REISSUE,
        .FLD_CMN_DENIED, .FLD_CMN_ERR_ADDR, .FLD_CMN_ERR_SOURCE, .FLD_CMN_ERR_STATUS, .HST_FN_WIN_ERR,
        .HST_PORT_EVENT, .HST_PORT_MSIX_DROP, .VRN_LNK_CTL, .VRN_LNK_STATE, .VRN_LNK_TX, .VRN_PORTp_STATE] s') ∧
  (∀ (k : LinkId) (s : State), k.val < 56 ∧ s.linkState k.val = lsQuiet →
    ∃ s', exec (.linkTargetUp k) s = .next s' ∧
      (s'.linkState k.val = lsWake ∧ s'.linkTarget k.val = 1 ∧ (s'.link k.val).ctrl = some (ctrlWake, 0)) ∧
      s' = { s with
          regs := s'.regs, commons := s'.commons, crofters := s'.crofters, tallies := s'.tallies,
          seq := s'.seq, verne := s'.verne, fabric := s'.fabric, host := s'.host, out := s'.out } ∧
      s.onlyRegs [.CRF_FAULT_HEAD, .CRF_FAULTk, .CRF_INST_COUNT, .FAB_HELD, .FAB_MEMBERS, .FAB_QUAR, .FAB_REISSUE,
        .FLD_CMN_DENIED, .FLD_CMN_ERR_ADDR, .FLD_CMN_ERR_SOURCE, .FLD_CMN_ERR_STATUS, .HST_FN_WIN_ERR,
        .HST_PORT_EVENT, .HST_PORT_MSIX_DROP, .VRN_LNK_CTL, .VRN_LNK_STATE, .VRN_LNK_TX, .VRN_PORTp_STATE] s') ∧
  (∀ (k : LinkId) (s : State), k.val < 56 ∧ s.linkState k.val = lsUp →
    ∃ s', exec (.linkTargetQuiet k) s = .next s' ∧
      (s'.linkTarget k.val = 2 ∧
  (s.lastMember k.val = false → s'.linkState k.val = lsQuietEntry) ∧
  (s.lastMember k.val = true → s'.linkState k.val = lsUp ∧ s'.flag RF.VRN_LNK_STATE_CMD_ERR k.val 0 = true)) ∧
      s' = { s with
          regs := s'.regs, commons := s'.commons, crofters := s'.crofters, tallies := s'.tallies,
          seq := s'.seq, verne := s'.verne, fabric := s'.fabric, host := s'.host, out := s'.out } ∧
      s.onlyRegs [.CRF_FAULT_HEAD, .CRF_FAULTk, .CRF_INST_COUNT, .FAB_HELD, .FAB_MEMBERS, .FAB_QUAR, .FAB_REISSUE,
        .FLD_CMN_DENIED, .FLD_CMN_ERR_ADDR, .FLD_CMN_ERR_SOURCE, .FLD_CMN_ERR_STATUS, .HST_FN_WIN_ERR,
        .HST_PORT_EVENT, .HST_PORT_MSIX_DROP, .VRN_LNK_CTL, .VRN_LNK_STATE, .VRN_LNK_TX, .VRN_PORTp_STATE] s') ∧
  (∀ (k : LinkId) (s : State), k.val < 56 ∧ s.linkState k.val = lsUp ∧ (s.link k.val).kind ≠ 3 →
    ∃ s', exec (.linkTargetTest k) s = .next s' ∧
      (s'.linkTarget k.val = 3 ∧ s'.linkState k.val = lsUp ∧ (s'.link k.val).ctrl = some (ctrlTestReq, 0) ∧
  s'.out = s.out ++ [.link (Fin.ofNat 72 k.val) 2 [ctrlTestReq]]) ∧
      s' = { s with
          regs := s'.regs, commons := s'.commons, crofters := s'.crofters, tallies := s'.tallies,
          seq := s'.seq, verne := s'.verne, fabric := s'.fabric, host := s'.host, out := s'.out } ∧
      s.onlyRegs [.CRF_FAULT_HEAD, .CRF_FAULTk, .CRF_INST_COUNT, .FAB_HELD, .FAB_MEMBERS, .FAB_QUAR, .FAB_REISSUE,
        .FLD_CMN_DENIED, .FLD_CMN_ERR_ADDR, .FLD_CMN_ERR_SOURCE, .FLD_CMN_ERR_STATUS, .HST_FN_WIN_ERR,
        .HST_PORT_EVENT, .HST_PORT_MSIX_DROP, .VRN_LNK_CTL, .VRN_LNK_STATE, .VRN_LNK_TX, .VRN_PORTp_STATE] s') ∧
  (∀ (k : LinkId) (s : State), k.val < 56 ∧ s.linksPowered = true ∧ s.underLoop k.val = false ∧ s.linkState k.val =
        lsDetect →
    ∃ s', exec (.linkSignalDetect k) s = .next s' ∧
      (s'.linkState k.val = lsPhyTrain ∧ (s'.link k.val).since = s.now) ∧
      s' = { s with regs := s'.regs, verne := s'.verne } ∧
      s.onlyRegs [.VRN_LNK_STATE] s') ∧
  (∀ (k : LinkId) (s : State), s.linkState k.val = lsPhyTrain →
    ∃ s', exec (.linkPhyTrained k) s = .next s' ∧
      (s'.linkState k.val = lsIdent ∧ (s'.link k.val).since = s.now ∧ (s'.link k.val).identCount = 0) ∧
      s' = { s with regs := s'.regs, verne := s'.verne } ∧
      s.onlyRegs [.VRN_LNK_STATE] s') ∧
  (∀ (k : LinkId) (s : State), s.linkState k.val = lsPhyTrain ∧
  (if s.linkClass k.val = 3 then 500000000 else 100000000) ≤ s.now - (s.link k.val).since →
    ∃ s', exec (.linkTrainTimeout k) s = .next s' ∧
      (s.wentDown k.val 7 s' = true) ∧
      s' = { s with
          regs := s'.regs, commons := s'.commons, crofters := s'.crofters, tallies := s'.tallies,
          seq := s'.seq, verne := s'.verne, fabric := s'.fabric, host := s'.host, out := s'.out } ∧
      s.onlyRegs [.CRF_FAULT_HEAD, .CRF_FAULTk, .CRF_INST_COUNT, .FAB_HELD, .FAB_MEMBERS, .FAB_QUAR, .FAB_REISSUE,
        .FLD_CMN_DENIED, .FLD_CMN_ERR_ADDR, .FLD_CMN_ERR_SOURCE, .FLD_CMN_ERR_STATUS, .HST_FN_WIN_ERR,
        .HST_PORT_EVENT, .HST_PORT_MSIX_DROP, .VRN_LNK_STATE, .VRN_LNK_TX, .VRN_PORTp_STATE] s') ∧
  (∀ (k : LinkId) (s : State), s.linkState k.val = lsIdent →
    ∃ s', exec (.identSend k) s = .next s' ∧
      (s'.out = s.out ++ [.link (Fin.ofNat 72 k.val) 2 (ctrlIdent :: ((leBytes 3 0 ++ leBytes 4 s.fabricTime ++
    leBytes 4 (s.link k.val).stamp ++ leBytes 4 (if (s.link k.val).stamp = 0 then 0 else s.now - (s.link
        k.val).stampAt) ++
    s.identBlock k.val).map (·.toNat)))]) ∧
      s' = { s with out := s'.out }) ∧
  (∀ (k : LinkId) (stamp : BitVec 32) (echo : BitVec 32) (hold : BitVec 32) (block : List Byte) (s : State),
        block.length = 64 ∧ s.linkState k.val = lsIdent ∧ (s.link k.val).ident ≠ block →
    ∃ s', exec (.identReceive k stamp echo hold block) s = .next s' ∧
      ((s'.link k.val).ident = block ∧ (s'.link k.val).identCount = 1 ∧ (s'.link k.val).stamp = stamp.toNat ∧
  (s'.link k.val).stampAt = s.now ∧ s'.linkState k.val = lsIdent) ∧
      s' = { s with
          regs := s'.regs, commons := s'.commons, crofters := s'.crofters, tallies := s'.tallies,
          seq := s'.seq, verne := s'.verne, fabric := s'.fabric, host := s'.host, out := s'.out } ∧
      s.onlyRegs [.CRF_FAULT_HEAD, .CRF_FAULTk, .CRF_INST_COUNT, .FAB_EVENT, .FAB_HELD, .FAB_MAP_GEN, .FAB_MAPp,
        .FAB_MEMBERS, .FAB_QUAR, .FAB_REISSUE, .FLD_CMN_DENIED, .FLD_CMN_ERR_ADDR, .FLD_CMN_ERR_SOURCE,
        .FLD_CMN_ERR_STATUS, .HST_FN_WIN_ERR, .HST_PORT_EVENT, .HST_PORT_MSIX_DROP, .VRN_LNK_NBR, .VRN_LNK_NBR_PORT,
        .VRN_LNK_RTT, .VRN_LNK_STATE, .VRN_PORTp_STATE] s') ∧
  (∀ (k : LinkId) (stamp : BitVec 32) (echo : BitVec 32) (hold : BitVec 32) (block : List Byte) (s : State),
        block.length = 64 ∧ s.linkState k.val = lsIdent ∧ (s.link k.val).ident = block ∧ 2 ≤ (s.link
        k.val).identCount ∧
  (s.link k.val).echoed = true →
    ∃ s', exec (.identReceive k stamp echo hold block) s = .next s' ∧
      (s'.flag RF.VRN_LNK_NBR_PORT_VALID k.val 0 = true ∧ s'.getF RF.VRN_LNK_NBR_UNIT k.val 0 = idUnit block ∧
  s'.getF RF.VRN_LNK_NBR_PORT_PORT k.val 0 = idPort block % 2 ^ RF.VRN_LNK_NBR_PORT_PORT.w ∧
  (versionsMeet (s.getF RF.FAB_NUM_VERSION 0 0) (idVersion block) = false →
    s'.linkState k.val = lsQuarantine ∧ s'.flag RF.FAB_EVENT_QUARANTINE 0 0 = true)) ∧
      s' = { s with
          regs := s'.regs, commons := s'.commons, crofters := s'.crofters, tallies := s'.tallies,
          seq := s'.seq, verne := s'.verne, fabric := s'.fabric, host := s'.host, out := s'.out } ∧
      s.onlyRegs [.CRF_FAULT_HEAD, .CRF_FAULTk, .CRF_INST_COUNT, .FAB_EVENT, .FAB_HELD, .FAB_MAP_GEN, .FAB_MAPp,
        .FAB_MEMBERS, .FAB_QUAR, .FAB_REISSUE, .FLD_CMN_DENIED, .FLD_CMN_ERR_ADDR, .FLD_CMN_ERR_SOURCE,
        .FLD_CMN_ERR_STATUS, .HST_FN_WIN_ERR, .HST_PORT_EVENT, .HST_PORT_MSIX_DROP, .VRN_LNK_NBR, .VRN_LNK_NBR_PORT,
        .VRN_LNK_RTT, .VRN_LNK_STATE, .VRN_PORTp_STATE] s') ∧
  (∀ (k : LinkId) (s : State), s.linkState k.val = lsIdent ∧ 10000000 ≤ s.now - (s.link k.val).since →
    ∃ s', exec (.identTimeout k) s = .next s' ∧
      (s.wentDown k.val 8 s' = true) ∧
      s' = { s with
          regs := s'.regs, commons := s'.commons, crofters := s'.crofters, tallies := s'.tallies,
          seq := s'.seq, verne := s'.verne, fabric := s'.fabric, host := s'.host, out := s'.out } ∧
      s.onlyRegs [.CRF_FAULT_HEAD, .CRF_FAULTk, .CRF_INST_COUNT, .FAB_HELD, .FAB_MEMBERS, .FAB_QUAR, .FAB_REISSUE,
        .FLD_CMN_DENIED, .FLD_CMN_ERR_ADDR, .FLD_CMN_ERR_SOURCE, .FLD_CMN_ERR_STATUS, .HST_FN_WIN_ERR,
        .HST_PORT_EVENT, .HST_PORT_MSIX_DROP, .VRN_LNK_STATE, .VRN_LNK_TX, .VRN_PORTp_STATE] s') ∧
  (∀ (k : LinkId) (s : State), s.linkState k.val ≠ lsQuiet ∧ s.linkState k.val ≠ lsDetect ∧ s.linkState k.val ≠
        lsDown ∧ s.linkState k.val ≠ lsPcie →
    ∃ s', exec (.lossOfSignal k) s = .next s' ∧
      (s.wentDown k.val 1 s' = true) ∧
      s' = { s with
          regs := s'.regs, commons := s'.commons, crofters := s'.crofters, tallies := s'.tallies,
          seq := s'.seq, verne := s'.verne, fabric := s'.fabric, host := s'.host, out := s'.out } ∧
      s.onlyRegs [.CRF_FAULT_HEAD, .CRF_FAULTk, .CRF_INST_COUNT, .FAB_HELD, .FAB_MEMBERS, .FAB_QUAR, .FAB_REISSUE,
        .FLD_CMN_DENIED, .FLD_CMN_ERR_ADDR, .FLD_CMN_ERR_SOURCE, .FLD_CMN_ERR_STATUS, .HST_FN_WIN_ERR,
        .HST_PORT_EVENT, .HST_PORT_MSIX_DROP, .VRN_LNK_STATE, .VRN_LNK_TX, .VRN_PORTp_STATE] s') ∧
  (∀ (k : LinkId) (s : State), locked (s.linkState k.val) = true →
    ∃ s', exec (.fecLockLost k) s = .next s' ∧
      (s.wentDown k.val 2 s' = true) ∧
      s' = { s with
          regs := s'.regs, commons := s'.commons, crofters := s'.crofters, tallies := s'.tallies,
          seq := s'.seq, verne := s'.verne, fabric := s'.fabric, host := s'.host, out := s'.out } ∧
      s.onlyRegs [.CRF_FAULT_HEAD, .CRF_FAULTk, .CRF_INST_COUNT, .FAB_HELD, .FAB_MEMBERS, .FAB_QUAR, .FAB_REISSUE,
        .FLD_CMN_DENIED, .FLD_CMN_ERR_ADDR, .FLD_CMN_ERR_SOURCE, .FLD_CMN_ERR_STATUS, .HST_FN_WIN_ERR,
        .HST_PORT_EVENT, .HST_PORT_MSIX_DROP, .VRN_LNK_STATE, .VRN_LNK_TX, .VRN_PORTp_STATE] s') ∧
  (∀ (k : LinkId) (n : Nat) (s : State), locked (s.linkState k.val) = true ∧ s.getF RF.VRN_LNK_UCW_LIMIT_LIMIT k.val
        0 < n →
    ∃ s', exec (.ucwLimitExceeded k n) s = .next s' ∧
      (s.wentDown k.val 3 s' = true ∧
  s'.getF RF.VRN_LNK_FEC_UNC_COUNT k.val 0 =
    min (s.getF RF.VRN_LNK_FEC_UNC_COUNT k.val 0 + n) (2 ^ RF.VRN_LNK_FEC_UNC_COUNT.w - 1)) ∧
      s' = { s with
          regs := s'.regs, commons := s'.commons, crofters := s'.crofters, tallies := s'.tallies,
          seq := s'.seq, verne := s'.verne, fabric := s'.fabric, host := s'.host, out := s'.out } ∧
      s.onlyRegs [.CRF_FAULT_HEAD, .CRF_FAULTk, .CRF_INST_COUNT, .FAB_HELD, .FAB_MEMBERS, .FAB_QUAR, .FAB_REISSUE,
        .FLD_CMN_DENIED, .FLD_CMN_ERR_ADDR, .FLD_CMN_ERR_SOURCE, .FLD_CMN_ERR_STATUS, .HST_FN_WIN_ERR,
        .HST_PORT_EVENT, .HST_PORT_MSIX_DROP, .VRN_LNK_FEC_UNC, .VRN_LNK_STATE, .VRN_LNK_TX, .VRN_PORTp_STATE] s') ∧
  (∀ (k : LinkId) (s : State), lsIdent ≤ s.linkState k.val ∧ s.linkState k.val ≠ lsPcie →
    ∃ s', exec (.downNoticeReceive k) s = .next s' ∧
      (s.wentDown k.val 6 s' = true) ∧
      s' = { s with
          regs := s'.regs, commons := s'.commons, crofters := s'.crofters, tallies := s'.tallies,
          seq := s'.seq, verne := s'.verne, fabric := s'.fabric, host := s'.host, out := s'.out } ∧
      s.onlyRegs [.CRF_FAULT_HEAD, .CRF_FAULTk, .CRF_INST_COUNT, .FAB_HELD, .FAB_MEMBERS, .FAB_QUAR, .FAB_REISSUE,
        .FLD_CMN_DENIED, .FLD_CMN_ERR_ADDR, .FLD_CMN_ERR_SOURCE, .FLD_CMN_ERR_STATUS, .HST_FN_WIN_ERR,
        .HST_PORT_EVENT, .HST_PORT_MSIX_DROP, .VRN_LNK_STATE, .VRN_LNK_TX, .VRN_PORTp_STATE] s')

/-- For every link that carries DATA flits: an ACK drops the flits it covers and the freed counters return credits;
  an ACK flit is sent when due; a replay timeout is counted and replays up to four times; a new flit takes the next
  sequence number, a credit and a place in the replay buffer; a bucket returns to the link R439 gives it. A CTRL
  request is repeated up to 16 times; the QUIET handshake ends in QUIET, its wake in UP, and TEST_REQ and TEST_ACK in
  TEST. -/
def Obligations.LinkFlowAndStates : Prop :=
  (∀ (k : LinkId) (ack : BitVec 16) (valid : Bool) (nak : Bool) (freed0 : BitVec 12) (freed1 : BitVec 12) (freed2 :
        BitVec 12) (freed3 : BitVec 12) (s : State), carries (s.linkState k.val) = true ∧ valid = false →
    ∃ s', exec (.ackFlitReceive k ack valid nak freed0 freed1 freed2 freed3) s = .next s' ∧
      ((∀ i : Fin 4, (s'.link k.val).seen.look 0 i.val = [freed0.toNat, freed1.toNat, freed2.toNat,
        freed3.toNat].getD i.val 0 ∧
    (s'.link k.val).used.look 0 i.val = (s.link k.val).used.look 0 i.val -
      ([freed0.toNat, freed1.toNat, freed2.toNat, freed3.toNat].getD i.val 0 + 4096 - (s.link k.val).seen.look 0
        i.val) % 4096) ∧
  (s'.link k.val).held = (s.link k.val).held ∧ s'.regs = s.regs) ∧
      s' = { s with
          regs := s'.regs, commons := s'.commons, crofters := s'.crofters, tallies := s'.tallies,
          seq := s'.seq, verne := s'.verne, fabric := s'.fabric, host := s'.host, out := s'.out } ∧
      s.onlyRegs [.CRF_FAULT_HEAD, .CRF_FAULTk, .CRF_INST_COUNT, .FAB_HELD, .FAB_MEMBERS, .FAB_QUAR, .FAB_REISSUE,
        .FLD_CMN_DENIED, .FLD_CMN_ERR_ADDR, .FLD_CMN_ERR_SOURCE, .FLD_CMN_ERR_STATUS, .HST_FN_WIN_ERR,
        .HST_PORT_EVENT, .HST_PORT_MSIX_DROP, .VRN_LNK_REPLAY, .VRN_LNK_STATE, .VRN_LNK_TX, .VRN_PORTp_STATE] s') ∧
  (∀ (k : LinkId) (ack : BitVec 16) (valid : Bool) (nak : Bool) (freed0 : BitVec 12) (freed1 : BitVec 12) (freed2 :
        BitVec 12) (freed3 : BitVec 12) (h : HeldFlit) (rest : List HeldFlit) (d : Nat) (s : State), carries
        (s.linkState k.val) = true ∧ valid = true ∧ nak = false ∧ (s.link k.val).held = h :: rest ∧
  d = (ack.toNat + 65537 - h.seq) % 65536 ∧ 0 < d ∧ d ≤ (h :: rest).length →
    ∃ s', exec (.ackFlitReceive k ack valid nak freed0 freed1 freed2 freed3) s = .next s' ∧
      ((s'.link k.val).held = ((h :: rest).drop d).map (fun x => { x with replays := 0 }) ∧ s'.regs = s.regs) ∧
      s' = { s with
          regs := s'.regs, commons := s'.commons, crofters := s'.crofters, tallies := s'.tallies,
          seq := s'.seq, verne := s'.verne, fabric := s'.fabric, host := s'.host, out := s'.out } ∧
      s.onlyRegs [.CRF_FAULT_HEAD, .CRF_FAULTk, .CRF_INST_COUNT, .FAB_HELD, .FAB_MEMBERS, .FAB_QUAR, .FAB_REISSUE,
        .FLD_CMN_DENIED, .FLD_CMN_ERR_ADDR, .FLD_CMN_ERR_SOURCE, .FLD_CMN_ERR_STATUS, .HST_FN_WIN_ERR,
        .HST_PORT_EVENT, .HST_PORT_MSIX_DROP, .VRN_LNK_REPLAY, .VRN_LNK_STATE, .VRN_LNK_TX, .VRN_PORTp_STATE] s') ∧
  (∀ (k : LinkId) (code n : Nat) (s : State), (s.link k.val).ctrl = some (code, n) →
    ∃ s', exec (.ctrlRepeat k) s = .next s' ∧
      ((n < 16 → (s'.link k.val).ctrl = some (code, n + 1) ∧ s'.out = s.out ++ [.link (Fin.ofNat 72 k.val) 2 [code]])
        ∧
  (16 ≤ n → (s'.link k.val).ctrl = none ∧ s'.out = s.out)) ∧
      s' = { s with verne := s'.verne, out := s'.out }) ∧
  (∀ (k : LinkId) (s : State), (carries (s.linkState k.val) = true ∧ 0 < (s.link k.val).unacked ∧
  (64 ≤ (s.link k.val).unacked ∨ 200 ≤ s.now - (s.link k.val).ackFrom)) →
    ∃ s', exec (.ackDue k) s = .next s' ∧
      ((s'.link k.val).unacked = 0 ∧ s'.out = s.out ++ [.link (Fin.ofNat 72 k.val) 1
    ([(s.link k.val).ack, 0] ++ (List.range 4).map (fun c => (s.link k.val).freed.look 0 c % 4096))]) ∧
      s' = { s with verne := s'.verne, out := s'.out }) ∧
  (∀ (k : LinkId) (h : HeldFlit) (rest : List HeldFlit) (s : State), carries (s.linkState k.val) = true ∧ (s.link
        k.val).held = h :: rest ∧
  h.sent + s.getF RF.VRN_LNK_RTT_RTT k.val 0 + 4000 ≤ s.now →
    ∃ s', exec (.replayTimeout k) s = .next s' ∧
      (s'.getF RF.VRN_LNK_REPLAY_TIMEOUTS k.val 0 =
    min (s.getF RF.VRN_LNK_REPLAY_TIMEOUTS k.val 0 + 1) (2 ^ RF.VRN_LNK_REPLAY_TIMEOUTS.w - 1) ∧
  (h.replays < 4 → (s'.link k.val).held.map (·.replays) = (h :: rest).map (·.replays + 1) ∧
    (s'.link k.val).held.map (·.seq) = (h :: rest).map (·.seq) ∧ s'.out.length = s.out.length + (h :: rest).length) ∧
  (4 ≤ h.replays → s.wentDown k.val 4 s' = true)) ∧
      s' = { s with
          regs := s'.regs, commons := s'.commons, crofters := s'.crofters, tallies := s'.tallies,
          seq := s'.seq, verne := s'.verne, fabric := s'.fabric, host := s'.host, out := s'.out } ∧
      s.onlyRegs [.CRF_FAULT_HEAD, .CRF_FAULTk, .CRF_INST_COUNT, .FAB_HELD, .FAB_MEMBERS, .FAB_QUAR, .FAB_REISSUE,
        .FLD_CMN_DENIED, .FLD_CMN_ERR_ADDR, .FLD_CMN_ERR_SOURCE, .FLD_CMN_ERR_STATUS, .HST_FN_WIN_ERR,
        .HST_PORT_EVENT, .HST_PORT_MSIX_DROP, .VRN_LNK_REPLAY, .VRN_LNK_STATE, .VRN_LNK_TX, .VRN_PORTp_STATE] s') ∧
  (∀ (k : LinkId) (cls : Fin 4) (wafer : WaferId) (rack : BitVec 7) (body : List Byte) (msgs : List (List Byte)) (s :
        State), s.bodyGoes k.val cls.val body msgs = true →
    ∃ s', exec (.flitTransmit k cls wafer rack body) s = .next s' ∧
      ((s'.link k.val).seq = ((s.link k.val).seq + 1) % 65536 ∧
  (s'.link k.val).held = (s.link k.val).held ++ [⟨(s.link k.val).seq, cls.val, wafer.val, rack.toNat, false,
    msgs.map (fun m => ⟨m, s.now⟩), s.now, 0⟩] ∧
  (s'.link k.val).used.look 0 cls.val = (s.link k.val).used.look 0 cls.val + 1 ∧
  s'.getF RF.VRN_LNK_FLITS_COUNT k.val 0 =
    wrapAdd RF.VRN_LNK_FLITS_COUNT.w (s.getF RF.VRN_LNK_FLITS_COUNT k.val 0) 1 ∧ s'.out.length = s.out.length + 1) ∧
      s' = { s with regs := s'.regs, verne := s'.verne, out := s'.out } ∧
      s.onlyRegs [.VRN_LNK_FLITS] s') ∧
  (∀ (p : PortId) (b : Fin 64) (c h : Nat) (s : State), s.bucketLink p.val b.val = some c ∧ s.bucketHome p.val b.val
        = some h ∧ c ≠ h ∧
  (s.link c).held.any (fun fl => fl.msgs.any (fun m => decide (bucketOf (msgAddr m.raw) = b.val))) = false →
    ∃ s', exec (.bucketReturn p b) s = .next s' ∧
      (s'.bucketLink p.val b.val = some h ∧ (∀ q e : Nat, q * 64 + e ≠ p.val * 64 + b.val → s'.bucketLink q e =
        s.bucketLink q e)) ∧
      s' = { s with verne := s'.verne }) ∧
  (∀ (k : LinkId) (s : State), s.linkState k.val = lsQuietEntry ∧ (s.link k.val).held = [] ∧ (s.link k.val).ctrl =
        none →
    ∃ s', exec (.quietReplayEmpty k) s = .next s' ∧
      (((s.link k.val).peerQuiet = false → (s'.link k.val).ctrl = some (ctrlQuietReq, 0) ∧
    s'.out = s.out ++ [.link (Fin.ofNat 72 k.val) 2 [ctrlQuietReq]]) ∧
  ((s.link k.val).peerQuiet = true → s'.linkState k.val = lsQuiet ∧
    s'.out = s.out ++ [.link (Fin.ofNat 72 k.val) 2 [ctrlQuietAck]])) ∧
      s' = { s with regs := s'.regs, verne := s'.verne, out := s'.out } ∧
      s.onlyRegs [.VRN_LNK_STATE] s') ∧
  (∀ (k : LinkId) (s : State), s.linkState k.val = lsQuietEntry ∧ (s.link k.val).held = [] →
    ∃ s', exec (.quietReqReceive k) s = .next s' ∧
      (s'.linkState k.val = lsQuiet ∧ s'.out = s.out ++ [.link (Fin.ofNat 72 k.val) 2 [ctrlQuietAck]]) ∧
      s' = { s with
          regs := s'.regs, commons := s'.commons, crofters := s'.crofters, tallies := s'.tallies,
          seq := s'.seq, verne := s'.verne, fabric := s'.fabric, host := s'.host, out := s'.out } ∧
      s.onlyRegs [.CRF_FAULT_HEAD, .CRF_FAULTk, .CRF_INST_COUNT, .FAB_MEMBERS, .FAB_REISSUE, .FLD_CMN_DENIED,
        .FLD_CMN_ERR_ADDR, .FLD_CMN_ERR_SOURCE, .FLD_CMN_ERR_STATUS, .HST_FN_WIN_ERR, .HST_PORT_EVENT,
        .HST_PORT_MSIX_DROP, .VRN_LNK_STATE, .VRN_PORTp_STATE] s') ∧
  (∀ (k : LinkId) (s : State), s.linkState k.val = lsQuietEntry ∧ (s.link k.val).ctrl.map (·.1) = some ctrlQuietReq →
    ∃ s', exec (.quietAckReceive k) s = .next s' ∧
      (s'.linkState k.val = lsQuiet ∧ (s'.link k.val).ctrl = none) ∧
      s' = { s with regs := s'.regs, verne := s'.verne } ∧
      s.onlyRegs [.VRN_LNK_STATE] s') ∧
  (∀ (k : LinkId) (s : State), s.linkState k.val = lsQuiet →
    ∃ s', exec (.wakeReceive k) s = .next s' ∧
      (s'.linkState k.val = lsWake) ∧
      s' = { s with regs := s'.regs, verne := s'.verne } ∧
      s.onlyRegs [.VRN_LNK_STATE] s') ∧
  (∀ (k : LinkId) (s : State), s.linkState k.val = lsWake ∧ s.linkTarget k.val = 1 →
    ∃ s', exec (.linkWakeDone k) s = .next s' ∧
      (s'.linkState k.val = lsUp ∧ (s'.link k.val).ctrl = none) ∧
      s' = { s with
          regs := s'.regs, commons := s'.commons, crofters := s'.crofters, tallies := s'.tallies,
          seq := s'.seq, verne := s'.verne, fabric := s'.fabric, host := s'.host, out := s'.out } ∧
      s.onlyRegs [.CRF_FAULT_HEAD, .CRF_FAULTk, .CRF_INST_COUNT, .FAB_HELD, .FAB_MEMBERS, .FAB_QUAR, .FAB_REISSUE,
        .FLD_CMN_DENIED, .FLD_CMN_ERR_ADDR, .FLD_CMN_ERR_SOURCE, .FLD_CMN_ERR_STATUS, .HST_FN_WIN_ERR,
        .HST_PORT_EVENT, .HST_PORT_MSIX_DROP, .VRN_LNK_STATE, .VRN_PORTp_STATE] s') ∧
  (∀ (k : LinkId) (s : State), (s.linkState k.val = lsUp ∨ s.linkState k.val = lsHeld ∨ s.linkState k.val =
        lsQuarantine) →
    ∃ s', exec (.testReqReceive k) s = .next s' ∧
      (s'.linkState k.val = lsTest ∧ (s'.link k.val).held = [] ∧ (s'.link k.val).ctrl = none) ∧
      s' = { s with
          regs := s'.regs, commons := s'.commons, crofters := s'.crofters, tallies := s'.tallies,
          seq := s'.seq, verne := s'.verne, fabric := s'.fabric, host := s'.host, out := s'.out } ∧
      s.onlyRegs [.CRF_FAULT_HEAD, .CRF_FAULTk, .CRF_INST_COUNT, .FAB_HELD, .FAB_MEMBERS, .FAB_QUAR, .FAB_REISSUE,
        .FLD_CMN_DENIED, .FLD_CMN_ERR_ADDR, .FLD_CMN_ERR_SOURCE, .FLD_CMN_ERR_STATUS, .HST_FN_WIN_ERR,
        .HST_PORT_EVENT, .HST_PORT_MSIX_DROP, .VRN_LNK_STATE, .VRN_PORTp_STATE] s') ∧
  (∀ (k : LinkId) (s : State), (s.link k.val).ctrl.map (·.1) = some ctrlTestReq →
    ∃ s', exec (.testAckReceive k) s = .next s' ∧
      (s'.linkState k.val = lsTest ∧ (s'.link k.val).held = [] ∧ (s'.link k.val).ctrl = none) ∧
      s' = { s with
          regs := s'.regs, commons := s'.commons, crofters := s'.crofters, tallies := s'.tallies,
          seq := s'.seq, verne := s'.verne, fabric := s'.fabric, host := s'.host, out := s'.out } ∧
      s.onlyRegs [.CRF_FAULT_HEAD, .CRF_FAULTk, .CRF_INST_COUNT, .FAB_HELD, .FAB_MEMBERS, .FAB_QUAR, .FAB_REISSUE,
        .FLD_CMN_DENIED, .FLD_CMN_ERR_ADDR, .FLD_CMN_ERR_SOURCE, .FLD_CMN_ERR_STATUS, .HST_FN_WIN_ERR,
        .HST_PORT_EVENT, .HST_PORT_MSIX_DROP, .VRN_LNK_STATE, .VRN_PORTp_STATE] s')

/-- A write of the transmit settings of a fabric link is taken at once, and while the link is UP in 16 steps with
  BUSY set until the last; a write of VRN_PRBS_CTL sets the generator and checker where they are allowed, CLEAR
  resets the counters, the lock sets and its loss clears LOCKED, and while LOCKED the errors and bits of 1 ms are
  added; a port's mask that does not change only sets ENABLE, one that breaks the rules or meets a link that is not
  DOWN is ignored with CFG_ERR, and another is taken. -/
def Obligations.LinkSettingsAndPatterns : Prop :=
  (∀ (k : LinkId) (swing : BitVec 6) (pre : BitVec 6) (post : BitVec 6) (s : State), k.val < 56 →
    ∃ s', exec (.linkTxWrite k swing pre post) s = .next s' ∧
      (s'.getF RF.VRN_LNK_TX_SWING k.val 0 = swing.toNat ∧ s'.getF RF.VRN_LNK_TX_PRE k.val 0 = pre.toNat ∧
  s'.getF RF.VRN_LNK_TX_POST k.val 0 = post.toNat ∧
  (s.linkState k.val = lsUp → s'.flag RF.VRN_LNK_TX_BUSY k.val 0 = true ∧
    (s'.link k.val).swing = some (bits (s.rd .VRN_LNK_TX k.val 0) 0 18, 0)) ∧
  (s.linkState k.val ≠ lsUp → s'.verne = s.verne)) ∧
      s' = { s with regs := s'.regs, verne := s'.verne } ∧
      s.onlyRegs [.VRN_LNK_TX] s') ∧
  (∀ (k : LinkId) (old n : Nat) (s : State), (s.link k.val).swing = some (old, n) →
    ∃ s', exec (.swingStep k) s = .next s' ∧
      ((n + 1 < 16 → (s'.link k.val).swing = some (old, n + 1) ∧ s'.regs = s.regs) ∧
  (16 ≤ n + 1 → (s'.link k.val).swing = none ∧ s'.flag RF.VRN_LNK_TX_BUSY k.val 0 = false)) ∧
      s' = { s with regs := s'.regs, verne := s'.verne } ∧
      s.onlyRegs [.VRN_LNK_TX] s') ∧
  (∀ (k : LinkId) (side : Bool) (v : BitVec 8) (s : State), (s.prbsAllowed = true ∧ (k.val < 56 ∨ side = true) ∧
        s.underLoop k.val = false) →
    ∃ s', exec (.prbsCtlWrite k side v) s = .next s' ∧
      (s'.getF RF.VRN_PRBS_CTL_GEN_EN k.val 0 = nbits v.toNat 3 1 ∧ s'.getF RF.VRN_PRBS_CTL_CHK_EN k.val 0 = nbits
        v.toNat 4 1 ∧
  s'.getF RF.VRN_PRBS_CTL_FORCE k.val 0 = nbits v.toNat 5 1 ∧
  s'.getF RF.VRN_PRBS_CTL_PATTERN k.val 0 =
    (if nbits v.toNat 0 3 ≤ 4 then nbits v.toNat 0 3 else s.getF RF.VRN_PRBS_CTL_PATTERN k.val 0) ∧
  (nbits v.toNat 7 1 = 1 → s'.getF RF.VRN_PRBS_ERR_COUNT k.val 0 = 0 ∧ s'.getF RF.VRN_PRBS_BITS_COUNT k.val 0 = 0)) ∧
      s' = { s with regs := s'.regs } ∧
      s.onlyRegs [.VRN_PRBS_BITS, .VRN_PRBS_CTL, .VRN_PRBS_ERR] s') ∧
  (∀ (k : LinkId) (s : State), s.underLoop k.val = false →
    ∃ s', exec (.prbsClear k) s = .next s' ∧
      (s'.getF RF.VRN_PRBS_ERR_COUNT k.val 0 = 0 ∧ s'.getF RF.VRN_PRBS_BITS_COUNT k.val 0 = 0) ∧
      s' = { s with regs := s'.regs } ∧
      s.onlyRegs [.VRN_PRBS_BITS, .VRN_PRBS_ERR] s') ∧
  (∀ (k : LinkId) (s : State), s.prbsRuns k.val = true →
    ∃ s', exec (.prbsLock k) s = .next s' ∧
      (s'.flag RF.VRN_PRBS_CTL_LOCKED k.val 0 = true) ∧
      s' = { s with regs := s'.regs } ∧
      s.onlyRegs [.VRN_PRBS_CTL] s') ∧
  (∀ (k : LinkId) (s : State), ∃ s', exec (.prbsLockLoss k) s = .next s' ∧
      (s'.flag RF.VRN_PRBS_CTL_LOCKED k.val 0 = false) ∧
      s' = { s with regs := s'.regs } ∧
      s.onlyRegs [.VRN_PRBS_CTL] s') ∧
  (∀ (k : LinkId) (errs : Nat) (units : Nat) (e u : Nat) (s : State), s.flag RF.VRN_PRBS_CTL_LOCKED k.val 0 = true ∧
  e = min (s.getF RF.VRN_PRBS_ERR_COUNT k.val 0 + errs) (2 ^ RF.VRN_PRBS_ERR_COUNT.w - 1) ∧
  u = min (s.getF RF.VRN_PRBS_BITS_COUNT k.val 0 + units) (2 ^ RF.VRN_PRBS_BITS_COUNT.w - 1) ∧ u ≠ 0 →
    ∃ s', exec (.prbsBerUpdate k errs units) s = .next s' ∧
      (s'.getF RF.VRN_PRBS_ERR_COUNT k.val 0 = e ∧ s'.getF RF.VRN_PRBS_BITS_COUNT k.val 0 = u ∧
  s'.getF RF.VRN_PRBS_BER_BER k.val 0 =
    fp32.pack false (Val.div (.fin false e 0) (.fin false (u * 1024) 0)) % 2 ^ RF.VRN_PRBS_BER_BER.w) ∧
      s' = { s with serial := s'.serial, regs := s'.regs } ∧
      s.onlyRegs [.VRN_PRBS_BER, .VRN_PRBS_BITS, .VRN_PRBS_ERR] s') ∧
  (∀ (p : PortId) (mask : BitVec 56) (enable : Bool) (s : State), mask.toNat = s.portMask p.val →
    ∃ s', exec (.portCtlWrite p mask enable) s = .next s' ∧
      (s'.flag RF.VRN_PORTp_CTL_ENABLE 0 p.val = enable ∧ s'.portMask p.val = s.portMask p.val) ∧
      s' = { s with
          regs := s'.regs, commons := s'.commons, crofters := s'.crofters, tallies := s'.tallies,
          seq := s'.seq, verne := s'.verne, fabric := s'.fabric, host := s'.host, out := s'.out } ∧
      s.onlyRegs [.CRF_FAULT_HEAD, .CRF_FAULTk, .CRF_INST_COUNT, .FAB_MEMBERS, .FAB_REISSUE, .FLD_CMN_DENIED,
        .FLD_CMN_ERR_ADDR, .FLD_CMN_ERR_SOURCE, .FLD_CMN_ERR_STATUS, .HST_FN_WIN_ERR, .HST_PORT_EVENT,
        .HST_PORT_MSIX_DROP, .VRN_PORTp_CTL] s') ∧
  (∀ (p : PortId) (mask : BitVec 56) (enable : Bool) (ok : Bool) (s : State), mask.toNat ≠ s.portMask p.val ∧
        (s.maskOk p.val mask.toNat &&
  (maskList (s.portMask p.val ||| mask.toNat) 56).all (fun k => decide (s.linkState k = lsDown))) = ok →
    ∃ s', exec (.portCtlWrite p mask enable) s = .next s' ∧
      ((ok = true → s'.portMask p.val = mask.toNat ∧ s'.flag RF.VRN_PORTp_CTL_ENABLE 0 p.val = enable) ∧
  (ok = false → s'.portMask p.val = s.portMask p.val ∧ s'.flag RF.VRN_PORTp_CTL_CFG_ERR 0 p.val = true)) ∧
      s' = { s with
          regs := s'.regs, commons := s'.commons, crofters := s'.crofters, tallies := s'.tallies,
          seq := s'.seq, verne := s'.verne, fabric := s'.fabric, host := s'.host, out := s'.out } ∧
      s.onlyRegs [.CRF_FAULT_HEAD, .CRF_FAULTk, .CRF_INST_COUNT, .FAB_MEMBERS, .FAB_REISSUE, .FLD_CMN_DENIED,
        .FLD_CMN_ERR_ADDR, .FLD_CMN_ERR_SOURCE, .FLD_CMN_ERR_STATUS, .HST_FN_WIN_ERR, .HST_PORT_EVENT,
        .HST_PORT_MSIX_DROP, .VRN_PORTp_CTL] s')

/-- A withdrawal that names a joined member with its recorded epoch or a newer one, or the loss of every port to it,
  takes it out of FAB_MEMBERS; a request that is addressed to this wafer and new has its effect: HELLO records anchor
  and session and returns SOLO to WAIT, MAP writes its record and with its last part the generation, ASSIGN the
  number and rack, JOIN the members it names and the master; without a manager the wait ends in SOLO; the anchor
  sends, shows and releases discovery messages; a REACH vector is recorded, an entry moves when its requests are
  done, and a member that is not named by a JOIN is none. -/
def Obligations.MembershipAndManager : Prop :=
  (∀ (n : WaferId) (epoch : BitVec 16) (cause : BitVec 8) (s : State), cause ≠ 0#8 ∧ n.val ≠ s.ownWafer ∧ s.flag
        RF.FAB_EPOCHn_VALID 0 n.val = true ∧ s.joined n.val = true ∧
  epochOlder epoch.toNat (s.getF RF.FAB_EPOCHn_EPOCH 0 n.val) = false →
    ∃ s', exec (.withdrawReceive n epoch cause) s = .next s' ∧
      (s'.joined n.val = false ∧ s'.getF RF.FAB_EPOCHn_EPOCH 0 n.val = epoch.toNat ∧
  s'.flag RF.FAB_EVENT_MEMBER_CHANGE 0 0 = true)) ∧
  (∀ (n : WaferId) (s : State), s.flag RF.FAB_CTL_AUTO_WITHDRAW 0 0 = true ∧ s.joined n.val = true ∧ n.val ≠
        s.ownWafer ∧
  s.fabric.lost.look 0 n.val ≠ 0 ∧ s.fabric.lost.look 0 n.val - 1 + s.getF RF.FAB_CTL_WITHDRAW_US 0 0 * 10000 ≤ s.now
        →
    ∃ s', exec (.autoWithdrawExpire n) s = .next s' ∧
      (s'.joined n.val = false ∧ s'.flag RF.FAB_EVENT_MEMBER_CHANGE 0 0 = true)) ∧
  (∀ (k : LinkId) (vector : BitVec 16) (p : Nat) (s : State), s.portOfLink k.val = some p →
    ∃ s', exec (.reachReceive k vector) s = .next s' ∧
      (s'.getF RF.FAB_REACHp_REACH 0 p = vector.toNat) ∧
      s' = { s with
          regs := s'.regs, commons := s'.commons, crofters := s'.crofters, tallies := s'.tallies,
          seq := s'.seq, verne := s'.verne, fabric := s'.fabric, host := s'.host, out := s'.out } ∧
      s.onlyRegs [.CRF_FAULT_HEAD, .CRF_FAULTk, .CRF_INST_COUNT, .FAB_MEMBERS, .FAB_REACHp, .FAB_REISSUE,
        .FLD_CMN_DENIED, .FLD_CMN_ERR_ADDR, .FLD_CMN_ERR_SOURCE, .FLD_CMN_ERR_STATUS, .HST_FN_WIN_ERR,
        .HST_PORT_EVENT, .HST_PORT_MSIX_DROP] s') ∧
  (∀ (d : WaferId) (e : Fin 64) (s : State), s.entryMoving d.val e.val = true ∧ s.entryReqs d.val e.val = [] ∧
  (s.entryTallies d.val e.val).all (·.parked) = true ∧ s.commons.reqs = [] →
    ∃ s', exec (.spreadEntryMove d e) s = .next s' ∧
      (s'.entryPort d.val e.val = s.entryTarget d.val e.val ∧ s'.mem = s.mem ∧ s'.regs = s.regs) ∧
      s' = { s with
          regs := s'.regs, mem := s'.mem, commons := s'.commons, crofters := s'.crofters, verne := s'.verne,
          fabric := s'.fabric, host := s'.host, out := s'.out } ∧
      s.onlyRegs [.CRF_FAULT_HEAD, .CRF_FAULTk, .CRF_INST_COUNT, .FLD_CMN_DENIED, .FLD_CMN_ERR_ADDR,
        .FLD_CMN_ERR_SOURCE, .FLD_CMN_ERR_STATUS, .FLD_CMN_FRESH_FILLS, .FLD_CMN_FRESH_READS, .HST_FN_WIN_ERR,
        .HST_PORT_EVENT, .HST_PORT_MSIX_DROP] s') ∧
  (∀ (src : WaferId) (tag : BitVec 16) (session : BitVec 32) (target : Word) (anchor : Word) (s : State), s.discMine
        target = true ∧ s.fabric.answers.find? (fun a => a.1 == discKey 1 tag.toNat session.toNat) = none →
    ∃ s', exec (.helloReceive src tag session target anchor) s = .next s' ∧
      (s'.rd .FAB_FM 0 0 = anchor ∧ s'.rd .FAB_FM 0 1 = BitVec.ofNat 64 session.toNat ∧
  s'.flag RF.FAB_EVENT_FM_HELLO 0 0 = true ∧
  s'.fabState = (if s.fabState = fsSolo then fsWait else s.fabState)) ∧
      s' = { s with regs := s'.regs, fabric := s'.fabric, host := s'.host, out := s'.out } ∧
      s.onlyRegs [.FAB_EVENT, .FAB_FM, .FAB_STATE, .HST_PORT_EVENT, .HST_PORT_MSIX_DROP] s') ∧
  (∀ (src : WaferId) (tag : BitVec 16) (session : BitVec 32) (target : Word) (part : BitVec 8) (parts : BitVec 8)
        (gen : BitVec 32) (records : List Nat) (r : Nat) (s : State), s.discMine target = true ∧
        s.fabric.answers.find? (fun a => a.1 == discKey 3 tag.toNat session.toNat) = none ∧ records = [r] ∧ nbits r
        64 6 < 52 ∧ part = parts →
    ∃ s', exec (.mapReceive src tag session target part parts gen records) s = .next s' ∧
      (s'.rd .FAB_MAPp 0 (2 * nbits r 64 6) = BitVec.ofNat 64 r ∧
  s'.rd .FAB_MAPp 0 (2 * nbits r 64 6 + 1) = BitVec.ofNat 64 (nbits r 72 8 + nbits r 80 1 * 256) ∧
  s'.getF RF.FAB_MAP_GEN_GEN 0 0 = gen.toNat) ∧
      s' = { s with
          regs := s'.regs, commons := s'.commons, crofters := s'.crofters, tallies := s'.tallies,
          seq := s'.seq, verne := s'.verne, fabric := s'.fabric, host := s'.host, out := s'.out } ∧
      s.onlyRegs [.CRF_FAULT_HEAD, .CRF_FAULTk, .CRF_INST_COUNT, .FAB_HELD, .FAB_MAP_GEN, .FAB_MAPp, .FAB_MEMBERS,
        .FAB_QUAR, .FAB_REISSUE, .FLD_CMN_DENIED, .FLD_CMN_ERR_ADDR, .FLD_CMN_ERR_SOURCE, .FLD_CMN_ERR_STATUS,
        .HST_FN_WIN_ERR, .HST_PORT_EVENT, .HST_PORT_MSIX_DROP, .VRN_LNK_STATE, .VRN_PORTp_STATE] s') ∧
  (∀ (src : WaferId) (tag : BitVec 16) (session : BitVec 32) (target : Word) (rack : BitVec 7) (number : WaferId)
        (policy : BitVec 2) (s : State), s.discMine target = true ∧ s.fabric.answers.find? (fun a => a.1 == discKey 4
        tag.toNat session.toNat) = none ∧
  s.flag RF.RVE_LIFECYCLE_OUT_OF_SERVICE 0 0 = false ∧ s.fabState ≠ fsJoined ∧ policy.toNat < 2 →
    ∃ s', exec (.assignReceive src tag session target rack number policy) s = .next s' ∧
      (s'.getF RF.FAB_NUM_NUM 0 0 = number.val ∧ s'.flag RF.FAB_NUM_ASSIGNED 0 0 = true ∧
  s'.getF RF.FAB_NUM_RACK 0 0 = rack.toNat ∧ s'.flag RF.FAB_NUM_RACK_ASSIGNED 0 0 = true ∧
  s'.getF RF.FAB_CTL_POLICY 0 0 = policy.toNat ∧ s'.fabState = fsAssigned) ∧
      s' = { s with regs := s'.regs, fabric := s'.fabric, out := s'.out } ∧
      s.onlyRegs [.FAB_CTL, .FAB_NUM, .FAB_STATE] s') ∧
  (∀ (src : WaferId) (tag : BitVec 16) (session : BitVec 32) (target : Word) (mask : BitVec 16) (master : WaferId)
        (epochs : List Nat) (s : State), (s.discMine target = true ∧ s.fabric.answers.find? (fun a => a.1 == discKey
        5 tag.toNat session.toNat) = none ∧
  s.flag RF.RVE_LIFECYCLE_OUT_OF_SERVICE 0 0 = false ∧ epochs.length = 16 ∧ mask.toNat.testBit master.val = true ∧
  (s.fabState = fsAssigned ∨ s.fabState = fsJoined) ∧ mask.toNat.testBit s.ownWafer = true ∧
  epochs.getD s.ownWafer 0 = s.getF RF.FAB_NUM_EPOCH 0 0) →
    ∃ s', exec (.joinReceive src tag session target mask master epochs) s = .next s' ∧
      (s'.fabState = fsJoined ∧ s'.getF RF.FAB_TIME_CTL_MASTER 0 0 = master.val ∧ s'.joined s.ownWafer = true ∧
  (∀ n : WaferId, mask.toNat.testBit n.val = false → s'.joined n.val = false) ∧
  s'.flag RF.FAB_EVENT_MEMBER_CHANGE 0 0 = true)) ∧
  (∀ (s : State), s.fabState = fsWait ∧ s.rd .FAB_FM 0 0 = 0#64 ∧ s.boot.stage = .ready ∧
  s.fabric.linkUpAt - 1 + s.getF RF.FAB_CTL_FM_WAIT_MS 0 0 * 1000000 ≤ s.now →
    ∃ s', exec .fmWaitExpire s = .next s' ∧
      (s'.fabState = fsSolo) ∧
      s' = { s with regs := s'.regs } ∧
      s.onlyRegs [.FAB_STATE] s') ∧
  (∀ (s : State), s.isAnchor = true →
    ∃ s', exec .discSend s = .next s' ∧
      (s'.out.length = s.out.length + 1 ∧ s'.out.take s.out.length = s.out) ∧
      s' = { s with serial := s'.serial, out := s'.out }) ∧
  (∀ (words : List Nat) (s : State), s.isAnchor = true →
    ∃ s', exec (.discAnswerReceive words) s = .next s' ∧
      ((s.flag RF.FAB_DISC_CTL_RX_VALID 0 0 = false → s'.flag RF.FAB_DISC_CTL_RX_VALID 0 0 = true ∧
    (∀ i : Fin 32, s'.rd .FAB_DISC_RX 0 i.val = BitVec.ofNat 64 (words.getD i.val 0))) ∧
  (s.flag RF.FAB_DISC_CTL_RX_VALID 0 0 = true → s'.fabric.discRx = s.fabric.discRx ++ [words] ∧ s'.regs = s.regs)) ∧
      s' = { s with regs := s'.regs, fabric := s'.fabric } ∧
      s.onlyRegs [.FAB_DISC_CTL, .FAB_DISC_RX] s') ∧
  (∀ (s : State), s.isAnchor = true →
    ∃ s', exec .discRxRelease s = .next s' ∧
      ((s.fabric.discRx = [] → s'.flag RF.FAB_DISC_CTL_RX_VALID 0 0 = false) ∧
  (∀ l r, s.fabric.discRx = l :: r → s'.fabric.discRx = r ∧ s'.flag RF.FAB_DISC_CTL_RX_VALID 0 0 = true ∧
    (∀ i : Fin 32, s'.rd .FAB_DISC_RX 0 i.val = BitVec.ofNat 64 (l.getD i.val 0)))) ∧
      s' = { s with regs := s'.regs, fabric := s'.fabric } ∧
      s.onlyRegs [.FAB_DISC_CTL, .FAB_DISC_RX] s')

/-- A DATA flit with a bad CRC is counted, a duplicate is counted and acknowledged, one in sequence delivers its
  messages, advances the expected number and frees a buffer. The master sends SYNC each 100 microseconds; a SYNC of
  the lowest port for the master sets the offset and the time state, three missing ones lead to HOLDOVER, ten
  milliseconds of that to ACQUIRING; a pulse edge sets PPS_LOCK after three within a microsecond and slews the time.
  -/
def Obligations.FlitsAndFabricTime : Prop :=
  (∀ (k : LinkId) (raw : List Byte) (s : State), raw.length = 256 ∧ carries (s.linkState k.val) = true ∧ flitCrcOk
        raw = false →
    ∃ s', exec (.dataFlitReceive k raw) s = .next s' ∧
      (s'.getF RF.VRN_LNK_CRC_FAILED k.val 0 =
    min (s.getF RF.VRN_LNK_CRC_FAILED k.val 0 + 1) (2 ^ RF.VRN_LNK_CRC_FAILED.w - 1) ∧
  (s'.link k.val).expected = (s.link k.val).expected ∧ (s'.link k.val).naked = true)) ∧
  (∀ (k : LinkId) (raw : List Byte) (h : FlitHead) (s : State), raw.length = 256 ∧ carries (s.linkState k.val) = true
        ∧ flitCrcOk raw = true ∧ h = flitHead raw ∧ h.kind = 0 ∧
  h.ackValid = false ∧ h.seq ≠ (s.link k.val).expected ∧
  1 ≤ ((s.link k.val).expected + 65536 - h.seq) % 65536 ∧ ((s.link k.val).expected + 65536 - h.seq) % 65536 ≤ 1024 →
    ∃ s', exec (.dataFlitReceive k raw) s = .next s' ∧
      (s'.getF RF.VRN_LNK_DUP_COUNT k.val 0 =
    min (s.getF RF.VRN_LNK_DUP_COUNT k.val 0 + 1) (2 ^ RF.VRN_LNK_DUP_COUNT.w - 1) ∧
  (s'.link k.val).expected = (s.link k.val).expected ∧ s'.out.length = s.out.length + 1 ∧ s'.verne.inbox =
        s.verne.inbox)) ∧
  (∀ (k : LinkId) (raw : List Byte) (h : FlitHead) (msgs : List (List Byte)) (s : State), raw.length = 256 ∧ carries
        (s.linkState k.val) = true ∧ flitCrcOk raw = true ∧ h = flitHead raw ∧ h.kind = 0 ∧
  h.ackValid = false ∧ h.seq = (s.link k.val).expected ∧ h.srcRack ≠ s.getF RF.FAB_NUM_RACK 0 0 ∧ s.frozen = false ∧
  s.forMe h = true ∧ s.linkClass k.val ≠ 3 ∧ parseBody 15 (raw.drop 16) = (msgs, false) →
    ∃ s', exec (.dataFlitReceive k raw) s = .next s' ∧
      ((s'.link k.val).expected = ((s.link k.val).expected + 1) % 65536 ∧ (s'.link k.val).naked = false ∧
  (s'.link k.val).unacked = (s.link k.val).unacked + 1 ∧
  (s'.link k.val).freed.look 0 h.cls = ((s.link k.val).freed.look 0 h.cls + 1) % 4096 ∧
  s'.verne.inbox = s.verne.inbox ++ msgs.map (fun m => ⟨k.val, h.cls, h.srcWafer, h.srcRack, m⟩) ∧ s'.regs = s.regs))
        ∧
  (∀ (s : State), s.fabState = fsJoined ∧ s.flag RF.FAB_TIME_CTL_IS_MASTER 0 0 = true ∧ 100000 ≤ s.now -
        s.fabric.syncSent →
    ∃ s', exec .timeSyncSend s = .next s' ∧
      (s'.fabric = { s.fabric with syncSeq := (s.fabric.syncSeq + 1) % 65536, syncSent := s.now }) ∧
      s' = { s with fabric := s'.fabric, out := s'.out }) ∧
  (∀ (k : LinkId) (tTx : Word) (corr : BitVec 32) (master : WaferId) (p : Nat) (off : Int) (s : State), s.fabState =
        fsJoined ∧ s.flag RF.FAB_TIME_CTL_IS_MASTER 0 0 = false ∧ master.val = s.getF RF.FAB_TIME_CTL_MASTER 0 0 ∧
  s.portOfLink k.val = some p ∧ (s.portsTo (s.getF RF.FAB_TIME_CTL_MASTER 0 0)).head? = some p ∧
  off = (tTx.toNat : Int) + corr.toNat + (s.getF RF.VRN_LNK_RTT_RTT k.val 0 / 2 : Nat) - s.fabricTime →
    ∃ s', exec (.timeSyncReceive k tTx corr master) s = .next s' ∧
      (s'.getF RF.FAB_TIME_OFFSET_OFFSET 0 0 = tcode 32 (clampInt 32 off) ∧ s'.fabric.lastSync = s.now ∧
  s'.fabric.good = (timeNext s.timeState s.fabric.good off).2 ∧
  s'.timeState = (timeNext s.timeState s.fabric.good off).1 % 2 ^ RF.FAB_TIME_CTL_TSTATE.w) ∧
      s' = { s with
          regs := s'.regs, fabric := s'.fabric, host := s'.host, timeOffset := s'.timeOffset, out := s'.out } ∧
      s.onlyRegs [.FAB_EVENT, .FAB_TIME_CTL, .FAB_TIME_OFFSET, .HST_PORT_EVENT, .HST_PORT_MSIX_DROP] s') ∧
  (∀ (s : State), s.timeState = tsLocked ∧ s.flag RF.FAB_TIME_CTL_IS_MASTER 0 0 = false ∧ 300000 ≤ s.now -
        s.fabric.lastSync →
    ∃ s', exec .syncMissing s = .next s' ∧
      (s'.timeState = tsHoldover ∧ s'.fabric = { s.fabric with holdover := s.now, good := 0 } ∧
  s'.flag RF.FAB_EVENT_TIME_STATE 0 0 = true) ∧
      s' = { s with regs := s'.regs, fabric := s'.fabric, host := s'.host, out := s'.out } ∧
      s.onlyRegs [.FAB_EVENT, .FAB_TIME_CTL, .HST_PORT_EVENT, .HST_PORT_MSIX_DROP] s') ∧
  (∀ (s : State), s.timeState = tsHoldover ∧ 10000000 ≤ s.now - s.fabric.holdover →
    ∃ s', exec .holdoverExpire s = .next s' ∧
      (s'.timeState = tsAcquiring ∧ s'.flag RF.FAB_EVENT_TIME_STATE 0 0 = true) ∧
      s' = { s with regs := s'.regs, host := s'.host, out := s'.out } ∧
      s.onlyRegs [.FAB_EVENT, .FAB_TIME_CTL, .HST_PORT_EVENT, .HST_PORT_MSIX_DROP] s') ∧
  (∀ (good : Nat) (s : State), s.flag RF.FAB_TIME_CTL_PPS_EN 0 0 = true ∧ s.flag RF.FAB_TIME_CTL_IS_MASTER 0 0 = true
        ∧ s.fabric.timeSet = false ∧
  s.flag RF.FAB_TIME_CTL_STEP_EN 0 0 = false ∧
  good = (if s.secondError.natAbs ≤ 1000 then s.fabric.ppsGood + 1 else 0) →
    ∃ s', exec .ppsEdge s = .next s' ∧
      (s'.flag RF.FAB_TIME_CTL_PPS_LOCK 0 0 = decide (3 ≤ good) ∧
  s'.fabric = { s.fabric with ppsGood := min good 3, slew := s.secondError } ∧ s'.timeOffset = s.timeOffset) ∧
      s' = { s with regs := s'.regs, fabric := s'.fabric, timeOffset := s'.timeOffset } ∧
      s.onlyRegs [.FAB_TIME_CTL] s')

/-- A failure of a field in service retires it: its status names the outcome and cause, the seam generation turns odd
  and FIELD_RETIRE is set; while the wafer is frozen the decision waits. The oldest decision of a kind is posted as
  four words of the event ring, or counted as lost with the ring full. Seam errors are counted and too many take the
  seam DOWN; a saturated edge sets its event; a field that loses its parent goes to HOLDOVER, takes a new parent and
  locks again. -/
def Obligations.FieldsRetireAndReport : Prop :=
  (∀ (p : FieldPost) (h : Nat) (s : State), s.commons.posts.find? (fun p => decide (p.kind = 1)) = some p ∧ h =
        s.getF RF.WFR_FLD_EVT_HEAD_HEAD 0 0 →
    ∃ s', exec .fieldRetiredPost s = .next s' ∧
      (s'.commons.posts = s.commons.posts.filter (fun q => q.seq != p.seq) ∧
  ((h + 1) % 32 ≠ s.getF RF.WFR_FLD_EVT_TAIL_TAIL 0 0 → s'.getF RF.WFR_FLD_EVT_HEAD_HEAD 0 0 = (h + 1) % 32 ∧
    s'.flag RF.WFR_FLD_EVENT_RETIRE 0 0 = true ∧
    (∀ i : Fin 4, s'.rd .WFR_FLD_EVTk 0 (4 * h + i.val) = BitVec.ofNat 64 ((eventWords p).getD i.val 0))) ∧
  ((h + 1) % 32 = s.getF RF.WFR_FLD_EVT_TAIL_TAIL 0 0 → s'.flag RF.WFR_FLD_EVENT_OVERFLOW 0 0 = true ∧
    s'.getF RF.WFR_FLD_EVT_HEAD_HEAD 0 0 = h)) ∧
      s' = { s with regs := s'.regs, commons := s'.commons, host := s'.host, out := s'.out }) ∧
  (∀ (p : FieldPost) (h : Nat) (s : State), s.commons.posts.find? (fun p => decide (p.kind = 2)) = some p ∧ h =
        s.getF RF.WFR_FLD_EVT_HEAD_HEAD 0 0 →
    ∃ s', exec .unitFencedPost s = .next s' ∧
      (s'.commons.posts = s.commons.posts.filter (fun q => q.seq != p.seq) ∧
  ((h + 1) % 32 ≠ s.getF RF.WFR_FLD_EVT_TAIL_TAIL 0 0 → s'.getF RF.WFR_FLD_EVT_HEAD_HEAD 0 0 = (h + 1) % 32 ∧
    s'.flag RF.WFR_FLD_EVENT_FENCE 0 0 = true ∧
    (∀ i : Fin 4, s'.rd .WFR_FLD_EVTk 0 (4 * h + i.val) = BitVec.ofNat 64 ((eventWords p).getD i.val 0))) ∧
  ((h + 1) % 32 = s.getF RF.WFR_FLD_EVT_TAIL_TAIL 0 0 → s'.flag RF.WFR_FLD_EVENT_OVERFLOW 0 0 = true ∧
    s'.getF RF.WFR_FLD_EVT_HEAD_HEAD 0 0 = h)) ∧
      s' = { s with regs := s'.regs, commons := s'.commons, host := s'.host, out := s'.out }) ∧
  (∀ (p : FieldPost) (h : Nat) (s : State), s.commons.posts.find? (fun p => decide (p.kind = 3)) = some p ∧ h =
        s.getF RF.WFR_FLD_EVT_HEAD_HEAD 0 0 →
    ∃ s', exec .spareEnabledPost s = .next s' ∧
      (s'.commons.posts = s.commons.posts.filter (fun q => q.seq != p.seq) ∧
  ((h + 1) % 32 ≠ s.getF RF.WFR_FLD_EVT_TAIL_TAIL 0 0 → s'.getF RF.WFR_FLD_EVT_HEAD_HEAD 0 0 = (h + 1) % 32 ∧
    s'.flag RF.WFR_FLD_EVENT_SPARE 0 0 = true ∧
    (∀ i : Fin 4, s'.rd .WFR_FLD_EVTk 0 (4 * h + i.val) = BitVec.ofNat 64 ((eventWords p).getD i.val 0))) ∧
  ((h + 1) % 32 = s.getF RF.WFR_FLD_EVT_TAIL_TAIL 0 0 → s'.flag RF.WFR_FLD_EVENT_OVERFLOW 0 0 = true ∧
    s'.getF RF.WFR_FLD_EVT_HEAD_HEAD 0 0 = h)) ∧
      s' = { s with regs := s'.regs, commons := s'.commons, host := s'.host, out := s'.out }) ∧
  (∀ (f : FieldId) (cause : RetireCause) (c : Nat) (hole : Bool) (s : State), retireOutcome cause = (c, hole) ∧
        s.fieldMode f.val = 0 ∧ f.val ≠ 4 ∧ s.frozen = false ∧ c ≠ causeEscalation →
    ∃ s', exec (.fieldRetire f cause) s = .next s' ∧
      (s'.getF RF.WFR_FLDf_STATUS_STATE 0 f.val = (if hole then 2 else 1) ∧ s'.getF RF.WFR_FLDf_STATUS_CAUSE 0 f.val
        = c ∧
  s'.getF RF.WFR_SEAM_GEN_GEN 0 0 % 2 = 1 ∧ s'.commons.seamDirty = true ∧ s'.flag RF.WFR_RCV_EVENT_FIELD_RETIRE 0 0 =
        true)) ∧
  (∀ (f : FieldId) (cause : RetireCause) (c : Nat) (hole : Bool) (s : State), retireOutcome cause = (c, hole) ∧
        s.fieldMode f.val = 0 ∧ f.val ≠ 4 ∧ s.frozen = true →
    ∃ s', exec (.fieldRetire f cause) s = .next s' ∧
      (s'.resets.deferred = s.resets.deferred ++ [.retire f.val c hole] ∧ s'.regs = s.regs ∧ s'.commons = s.commons))
        ∧
  (∀ (f : FieldId) (s : State), ∃ s', exec (.damageScanDone f) s = .next s' ∧
      (s'.cairns.scans = s.cairns.scans.filter (fun x => !decide (x.1 = f.val)) ∧
  s'.flag RF.CRN_CTL_SCAN_BUSY f.val 0 = false) ∧
      s' = { s with regs := s'.regs, mem := s'.mem, crofters := s'.crofters, cairns := s'.cairns } ∧
      s.onlyRegs [.CRN_CTL, .FLD_CMN_FRESH_FILLS] s') ∧
  (∀ (f : FieldId) (s : State), ∃ s', exec (.retiredTaskStatus f) s = .next s' ∧
      (s'.commons.kept = s.commons.kept.filter (fun k => !decide (k.field = f.val))) ∧
      s' = { s with
          regs := s'.regs, mem := s'.mem, commons := s'.commons, crofters := s'.crofters,
          tallies := s'.tallies, out := s'.out } ∧
      s.onlyRegs [.FLD_CMN_DENIED, .FLD_CMN_ERR_ADDR, .FLD_CMN_ERR_SOURCE, .FLD_CMN_ERR_STATUS, .FLD_CMN_FRESH_FILLS,
        .FLD_CMN_FRESH_READS, .TLY_DUP_COUNT, .TLY_ERR_STATUS, .TLY_OPS] s') ∧
  (∀ (f : FieldId) (n : Fin 4) (uncorrectable : Bool) (victim : Option Nat) (s : State), s.seamUp f.val n.val = true →
    ∃ s', exec (.seamEccError f n uncorrectable victim) s = .next s' ∧
      ((uncorrectable = false → s'.getF RF.FLD_SEAMn_ECC_CORRECTED f.val n.val =
    min (s.getF RF.FLD_SEAMn_ECC_CORRECTED f.val n.val + 1) (2 ^ RF.FLD_SEAMn_ECC_CORRECTED.w - 1)) ∧
  (uncorrectable = true → s'.getF RF.FLD_SEAMn_ECC_UNCORRECTED f.val n.val =
    min (s.getF RF.FLD_SEAMn_ECC_UNCORRECTED f.val n.val + 1) (2 ^ RF.FLD_SEAMn_ECC_UNCORRECTED.w - 1) ∧
    s'.commons.reqs = s.commons.reqs.map (fun r => if victim = some r.id then poisonReq r else r))) ∧
      s' = { s with regs := s'.regs, commons := s'.commons } ∧
      s.onlyRegs [.FLD_SEAMn_ECC] s') ∧
  (∀ (f : FieldId) (n : Fin 4) (g : Nat) (s : State), 16 < ((s.commons.seamUe.look [] (f.val * 4 + n.val)).filter
        (fun t => decide (s.now - t < 1000000000))).length ∧
  s.seamUp f.val n.val = true ∧ neighbour f.val n.val = some g →
    ∃ s', exec (.seamUeLimit f n) s = .next s' ∧
      (s'.getF RF.FLD_SEAMn_STATE_STATE f.val n.val = 1 ∧ s'.getF RF.FLD_SEAMn_STATE_STATE g ((n.val + 2) % 4) = 1 ∧
  s'.getF RF.WFR_SEAM_GEN_GEN 0 0 % 2 = 1 ∧ s'.commons.seamDirty = true) ∧
      s' = { s with regs := s'.regs, commons := s'.commons } ∧
      s.onlyRegs [.FLD_SEAMn_STATE, .WFR_SEAM_GEN] s') ∧
  (∀ (f : FieldId) (n : Fin 4) (cycles : Nat) (s : State), ∃ s', exec (.seamSatWindow f n cycles) s = .next s' ∧
      (s'.getF RF.FLD_SEAMn_SAT_CYCLES f.val n.val =
    min (s.getF RF.FLD_SEAMn_SAT_CYCLES f.val n.val + cycles) (2 ^ RF.FLD_SEAMn_SAT_CYCLES.w - 1) ∧
  (s.getF RF.FLD_SEAM_SAT_THRESH_THRESH f.val 0 * 180000 < cycles * 1024 →
    s'.flag ⟨.FLD_SEAM_EVENT, n.val, 1⟩ f.val 0 = true)) ∧
      s' = { s with regs := s'.regs, host := s'.host, out := s'.out } ∧
      s.onlyRegs [.FLD_SEAM_EVENT, .FLD_SEAMn_SAT, .HST_PORT_EVENT, .HST_PORT_MSIX_DROP] s') ∧
  (∀ (f : FieldId) (s : State), s.parentLost f.val = true ∧ s.getF RF.FLD_CLK_STATUS_STATE f.val 0 = 0 ∧
  ((s.setF RF.FLD_CLK_STATUS_STATE f.val 0 1).newParent f.val).isSome = true →
    ∃ s', exec (.parentLoss f) s = .next s' ∧
      (s' = s.setF RF.FLD_CLK_STATUS_STATE f.val 0 1)) ∧
  (∀ (f : FieldId) (p d : Nat) (s : State), s.getF RF.FLD_CLK_STATUS_STATE f.val 0 = 1 ∧ s.newParent f.val = some (p,
        d) →
    ∃ s', exec (.clockReparent f) s = .next s' ∧
      (s'.getF RF.FLD_CLK_STATUS_PARENT f.val 0 = p ∧ s'.getF RF.FLD_CLK_STATUS_STATE f.val 0 = 2 ∧
  s'.getF RF.FLD_CLK_STATUS_SWITCH_COUNT f.val 0 =
    min (s.getF RF.FLD_CLK_STATUS_SWITCH_COUNT f.val 0 + 1) (2 ^ RF.FLD_CLK_STATUS_SWITCH_COUNT.w - 1) ∧ s'.commons =
        s.commons)) ∧
  (∀ (f : FieldId) (s : State), s.getF RF.FLD_CLK_STATUS_STATE f.val 0 = 2 →
    ∃ s', exec (.clockRelock f) s = .next s' ∧
      (s'.getF RF.FLD_CLK_STATUS_STATE f.val 0 = 0) ∧
      s' = { s with regs := s'.regs } ∧
      s.onlyRegs [.FLD_CLK_STATUS] s')

/-- On a written granule of a field in service, corrected and uncorrectable sectors are counted and captured, and an
  uncorrectable one reads poisoned; a parity error is captured; a lost stack records its cause and retires its field
  as a pass-through with cause HBM. Patrol moves to the next written granule or completes a pass; refresh changes
  nothing; a scrub sets BUSY with its mode, or ERR; the granary is enabled, enumerated, disabled, and its link goes
  down. -/
def Obligations.StacksScrubAndGranaryLink : Prop :=
  (∀ (f : FieldId) (off : BitVec 35) (kind : Fin 3) (pc : BitVec 5) (bitPos : BitVec 9) (s : State), s.hbmState f.val
        ≠ hbmLost ∧ s.fieldMode f.val = 0 ∧ s.mem.fresh f.val 0 (off.toNat / 32 * 32) = false ∧ kind.val = 1 ∧ s.flag
        RF.HBM_ERR_STATUS_VALID f.val 0 = false →
    ∃ s', exec (.hbmEccError f off kind pc bitPos) s = .next s' ∧
      (s'.getF RF.HBM_CE_COUNT_COUNT f.val 0 =
    min (s.getF RF.HBM_CE_COUNT_COUNT f.val 0 + 1) (2 ^ RF.HBM_CE_COUNT_COUNT.w - 1) ∧
  s'.flag RF.HBM_ERR_STATUS_VALID f.val 0 = true ∧ s'.getF RF.HBM_ERR_STATUS_KIND f.val 0 = 1 ∧
  s'.getF RF.HBM_ERR_ADDR_ADDR f.val 0 = off.toNat / 32 * 32 ∧ s'.mem = s.mem ∧ s'.hbm = s.hbm) ∧
      s' = { s with regs := s'.regs, mem := s'.mem, hbm := s'.hbm } ∧
      s.onlyRegs [.HBM_CE_COUNT, .HBM_ERR_ADDR, .HBM_ERR_STATUS, .HBM_ODECC, .HBM_UE_COUNT] s') ∧
  (∀ (f : FieldId) (off : BitVec 35) (kind : Fin 3) (pc : BitVec 5) (bitPos : BitVec 9) (s : State), s.hbmState f.val
        ≠ hbmLost ∧ s.fieldMode f.val = 0 ∧ s.mem.fresh f.val 0 (off.toNat / 32 * 32) = false ∧ kind.val = 2 →
    ∃ s', exec (.hbmEccError f off kind pc bitPos) s = .next s' ∧
      (s'.getF RF.HBM_UE_COUNT_COUNT f.val 0 =
    min (s.getF RF.HBM_UE_COUNT_COUNT f.val 0 + 1) (2 ^ RF.HBM_UE_COUNT_COUNT.w - 1) ∧
  s'.mem.poison = setInsert (cellKey f.val 0 (off.toNat / 32 * 32) / 32) s.mem.poison ∧
  s'.hbm.ueTimes.look [] f.val = s.ueRecent f.val ++ [s.now]) ∧
      s' = { s with regs := s'.regs, mem := s'.mem, hbm := s'.hbm } ∧
      s.onlyRegs [.HBM_CE_COUNT, .HBM_ERR_ADDR, .HBM_ERR_STATUS, .HBM_ODECC, .HBM_UE_COUNT] s') ∧
  (∀ (f : FieldId) (pc : BitVec 5) (s : State), ∃ s', exec (.cmdAddrParityError f pc) s = .next s' ∧
      ((s.flag RF.HBM_ERR_STATUS_VALID f.val 0 = true → s'.flag RF.HBM_ERR_STATUS_MORE f.val 0 = true ∧
    s'.getF RF.HBM_ERR_STATUS_KIND f.val 0 = s.getF RF.HBM_ERR_STATUS_KIND f.val 0) ∧
  (s.flag RF.HBM_ERR_STATUS_VALID f.val 0 = false → s'.getF RF.HBM_ERR_STATUS_KIND f.val 0 = 3 ∧
    s'.getF RF.HBM_ERR_STATUS_PSEUDO_CHANNEL f.val 0 = pc.toNat ∧ s'.getF RF.HBM_ERR_ADDR_ADDR f.val 0 = 0 ∧
    s'.flag RF.HBM_ERR_STATUS_VALID f.val 0 = true)) ∧
      s' = { s with regs := s'.regs } ∧
      s.onlyRegs [.HBM_ERR_ADDR, .HBM_ERR_STATUS] s') ∧
  (∀ (f : FieldId) (cause : Fin 5) (pc : BitVec 5) (lane : BitVec 8) (s : State), s.hbmState f.val ≠ hbmLost ∧
        s.fieldMode f.val = 0 ∧ cause.val ≠ 2 ∧ s.inStandby = false ∧ s.frozen = false →
    ∃ s', exec (.stackLoss f cause pc lane) s = .next s' ∧
      (s'.getF RF.HBM_LOSS_CAUSE f.val 0 = cause.val + 1 ∧ s'.getF RF.HBM_LOSS_PSEUDO_CHANNEL f.val 0 = pc.toNat ∧
  s'.getF RF.HBM_LOSS_LANE f.val 0 = lane.toNat ∧ s'.hbmState f.val = hbmLost ∧
  s'.getF RF.WFR_FLDf_STATUS_STATE 0 f.val = 1 ∧ s'.getF RF.WFR_FLDf_STATUS_CAUSE 0 f.val = causeHbm)) ∧
  (∀ (f : FieldId) (o : Option Nat) (s : State), s.frozen = false ∧ s.inStandby = false ∧ s.hbmState f.val = hbmUp ∧
        s.fieldMode f.val = 0 ∧
  (s.patrolled f.val).find? (fun g => decide (s.getF RF.HBM_PATROL_POSITION f.val 0 < g)) = o →
    ∃ s', exec (.patrolStep f) s = .next s' ∧
      ((∀ g, o = some g → g < 2 ^ RF.HBM_PATROL_POSITION.w → s'.getF RF.HBM_PATROL_POSITION f.val 0 = g ∧
    s'.getF RF.HBM_PATROL_PASSES f.val 0 = s.getF RF.HBM_PATROL_PASSES f.val 0) ∧
  (o = none → s'.getF RF.HBM_PATROL_PASSES f.val 0 =
    wrapAdd RF.HBM_PATROL_PASSES.w (s.getF RF.HBM_PATROL_PASSES f.val 0) 1)) ∧
      s' = { s with regs := s'.regs } ∧
      s.onlyRegs [.HBM_PATROL] s') ∧
  (∀ (f : FieldId) (bank : Nat) (s : State), ∃ s', exec (.refresh f bank) s = .next s' ∧
      (s'.hbm = s.hbm) ∧
      s' = s) ∧
  (∀ (f : FieldId) (temp : BitVec 8) (s : State), ∃ s', exec (.hbmTempCross f temp) s = .next s' ∧
      (s'.getF RF.HBM_TEMP_TEMP f.val 0 = temp.toNat ∧ s'.flag RF.HBM_TEMP_DOUBLE f.val 0 = decide (85 < temp.toNat))
        ∧
      s' = { s with regs := s'.regs } ∧
      s.onlyRegs [.HBM_TEMP] s') ∧
  (∀ (f : FieldId) (ok : Bool) (s : State), s.flag RF.HBM_SCRUB_CTL_BUSY f.val 0 = false ∧ ok = (decide (s.hbmState
        f.val ≠ hbmLost) &&
  decide (s.getF RF.HBM_SCRUB_START_START f.val 0 + s.getF RF.HBM_SCRUB_COUNT_GRANULES f.val 0 ≤ 524288)) →
    ∃ s', exec (.scrubMark f) s = .next s' ∧
      (s'.getF RF.HBM_SCRUB_CTL_MODE f.val 0 = 0 ∧ s'.flag RF.HBM_SCRUB_CTL_BUSY f.val 0 = ok ∧
  (ok = false → s'.flag RF.HBM_SCRUB_CTL_ERR f.val 0 = true ∧ s'.mem = s.mem)) ∧
      s' = { s with serial := s'.serial, regs := s'.regs, mem := s'.mem, hbm := s'.hbm } ∧
      s.onlyRegs [.HBM_SCRUB_CTL] s') ∧
  (∀ (f : FieldId) (ok : Bool) (s : State), s.flag RF.HBM_SCRUB_CTL_BUSY f.val 0 = false ∧ ok = (decide (s.hbmState
        f.val ≠ hbmLost) &&
  decide (s.getF RF.HBM_SCRUB_START_START f.val 0 + s.getF RF.HBM_SCRUB_COUNT_GRANULES f.val 0 ≤ 524288)) →
    ∃ s', exec (.scrubOverwrite f) s = .next s' ∧
      (s'.getF RF.HBM_SCRUB_CTL_MODE f.val 0 = 1 ∧ s'.flag RF.HBM_SCRUB_CTL_BUSY f.val 0 = ok ∧
  (ok = false → s'.flag RF.HBM_SCRUB_CTL_ERR f.val 0 = true ∧ s'.mem = s.mem)) ∧
      s' = { s with serial := s'.serial, regs := s'.regs, mem := s'.mem, hbm := s'.hbm } ∧
      s.onlyRegs [.HBM_SCRUB_CTL] s') ∧
  (∀ (s : State), s.flag RF.HBM_GRAN_CTL_ENABLE 0 0 = false →
    ∃ s', exec .granaryEnable s = .next s' ∧
      (s'.flag RF.HBM_GRAN_CTL_ENABLE 0 0 = true ∧
  (s.getF RF.HBM_GRAN_CTL_MODE 0 0 = 1 ∨ s.getF RF.HBM_GRAN_CTL_MODE 0 0 = 2 → s'.getF RF.HST_S0_STATE_STATE 0 0 = 1 ∧
    s'.flag RF.HST_S0_STATE_CXL 0 0 = decide (s.getF RF.HBM_GRAN_CTL_MODE 0 0 = 1) ∧
    s'.flag RF.HST_PORT_EVENT_S0_STATE 0 0 = true)) ∧
      s' = { s with regs := s'.regs, host := s'.host, out := s'.out } ∧
      s.onlyRegs [.HBM_GRAN_CTL, .HST_PORT_EVENT, .HST_PORT_MSIX_DROP, .HST_S0_STATE] s') ∧
  (∀ (s : State), s.flag RF.HBM_GRAN_CTL_ENABLE 0 0 = true →
    ∃ s', exec .granaryDisable s = .next s' ∧
      (s'.flag RF.HBM_GRAN_CTL_ENABLE 0 0 = false ∧ s'.flag RF.HBM_GRAN_CTL_READY 0 0 = false ∧
  s'.flag RF.HBM_GRAN_CTL_LINK_UP 0 0 = false ∧ s'.getF RF.HST_S0_STATE_STATE 0 0 = 0) ∧
      s' = { s with regs := s'.regs, host := s'.host, out := s'.out } ∧
      s.onlyRegs [.HBM_GRAN_CTL, .HST_PORT_EVENT, .HST_PORT_MSIX_DROP, .HST_S0_STATE] s') ∧
  (∀ (cause : Fin 6) (width : BitVec 4) (speed : BitVec 3) (s : State), (s.getF RF.HST_S0_STATE_STATE 0 0 = 1 ∨
        s.getF RF.HST_S0_STATE_STATE 0 0 = 2) →
    ∃ s', exec (.s0EnumDone cause width speed) s = .next s' ∧
      ((cause.val ≠ 0 → s'.getF RF.HST_S0_STATE_STATE 0 0 = 4 ∧ s'.getF RF.HST_S0_STATE_CAUSE 0 0 = cause.val) ∧
  (cause.val = 0 → s.granFits = false → s'.getF RF.HST_S0_STATE_STATE 0 0 = 4 ∧
    s'.getF RF.HST_S0_STATE_CAUSE 0 0 = 4) ∧
  (cause.val = 0 → s.granFits = true → s'.getF RF.HST_S0_STATE_STATE 0 0 = 3 ∧
    s'.flag RF.HBM_GRAN_CTL_LINK_UP 0 0 = true ∧ s'.getF RF.HST_S0_STATE_WIDTH 0 0 = width.toNat ∧
    s'.getF RF.HST_S0_STATE_SPEED 0 0 = speed.toNat)) ∧
      s' = { s with regs := s'.regs, host := s'.host, out := s'.out } ∧
      s.onlyRegs [.HBM_GRAN_CTL, .HST_PORT_EVENT, .HST_PORT_MSIX_DROP, .HST_S0_STATE] s') ∧
  (∀ (s : State), s.flag RF.HBM_GRAN_CTL_LINK_UP 0 0 = true →
    ∃ s', exec .s0LinkDown s = .next s' ∧
      (s'.flag RF.HBM_GRAN_CTL_LINK_UP 0 0 = false ∧ s'.getF RF.HST_S0_STATE_STATE 0 0 = 4 ∧
  s'.getF RF.HST_S0_STATE_CAUSE 0 0 = 1) ∧
      s' = { s with
          regs := s'.regs, mem := s'.mem, crofters := s'.crofters, engines := s'.engines,
          cairns := s'.cairns, host := s'.host, out := s'.out } ∧
      s.onlyRegs [.FLD_CMN_FRESH_FILLS, .HBM_GRAN_CTL, .HBM_GRAN_ERR, .HST_PORT_EVENT, .HST_PORT_MSIX_DROP,
        .HST_S0_STATE] s')

/-- With no reset in progress, a reset of a unit in service is recorded with its target, sets BUSY and is counted: an
  engine is held in reset, a crofter's threads are freed but for fenced ones, and a quiet field loses its SRAM and
  its registers take their reset values but for those that a field reset leaves, while HBM stays; a parish reset
  resets each of its fields. A bad target, or a reset in progress, sets CMD_ERR; a frozen or halted wafer starts it
  later. The oldest reset ends, and with the last one BUSY clears. -/
def Obligations.ResetsBelowTheWafer : Prop :=
  (∀ (f : FieldId) (cls : EngineClass) (unit : BitVec 4) (u : Nat) (s : State), s.resetFree = true ∧ s.inService
        f.val = true ∧ engineUnit f.val cls unit.toNat = some u ∧
  (s.engine f.val u).running = [] ∧ (s.engine f.val u).queue = [] ∧ (s.cairn f.val).job = none →
    ∃ s', exec (.resetEngine f cls unit) s = .next s' ∧
      (s'.flag RF.WFR_RCV_RESET_BUSY 0 0 = true ∧ s'.getF RF.WFR_RCV_RESET_SCOPE 0 0 = 0 ∧
  s'.getF RF.WFR_RCV_RESET_FIELD 0 0 = f.val ∧ s'.getF RF.WFR_RCV_RESET_CLASS 0 0 = classCode cls ∧
  s'.getF RF.WFR_RCV_RESET_UNIT 0 0 = unit.toNat ∧
  s'.resets.running = s.resets.running ++ [(0, unitKey f.val u, s.now)] ∧ (s'.engine f.val u).inReset = true ∧
  (s'.engine f.val u).resets = s.recent sec60 (s.engine f.val u).resets ++ [s.now] ∧ s'.mem = s.mem ∧ s'.seq =
        s.seq)) ∧
  (∀ (f : FieldId) (cls : EngineClass) (unit : BitVec 4) (u : Nat) (s : State), s.flag RF.WFR_RCV_RESET_BUSY 0 0 =
        false ∧ s.bistBusy = false ∧ (s.frozen || s.halted) = true ∧ s.inService f.val = true ∧
  engineUnit f.val cls unit.toNat = some u →
    ∃ s', exec (.resetEngine f cls unit) s = .next s' ∧
      (s'.resets.waiting = s.resets.waiting ++ [(0, unitKey f.val u)] ∧ s'.flag RF.WFR_RCV_RESET_BUSY 0 0 = true ∧
  s'.engines = s.engines ∧ s'.resets.running = s.resets.running)) ∧
  (∀ (f : FieldId) (cls : EngineClass) (unit : BitVec 4) (s : State), (s.inService f.val = false ∨ engineUnit f.val
        cls unit.toNat = none ∨ s.flag RF.WFR_RCV_RESET_BUSY 0 0 = true) →
    ∃ s', exec (.resetEngine f cls unit) s = .next s' ∧
      (s'.flag RF.WFR_RCV_RESET_CMD_ERR 0 0 = true ∧ s'.resets = s.resets ∧ s'.engines = s.engines)) ∧
  (∀ (f : FieldId) (c : CrofterId) (s : State), s.resetFree = true ∧ s.inService f.val = true ∧ ((s.liveThreads
        f.val).filter (fun t => t / 8 == c.val)) = [] →
    ∃ s', exec (.resetCrofter f c) s = .next s' ∧
      (s'.flag RF.WFR_RCV_RESET_BUSY 0 0 = true ∧ s'.getF RF.WFR_RCV_RESET_SCOPE 0 0 = 1 ∧
  s'.resets.running = s.resets.running ++ [(1, f.val * 16 + c.val, s.now)] ∧
  s'.resets.crofters = s.resets.crofters ++ [(f.val, c.val)] ∧
  (∀ i < 8, s'.thread f.val (c.val * 8 + i) =
    if (s.thread f.val (c.val * 8 + i)).st = .fenced then s.thread f.val (c.val * 8 + i) else freeThread) ∧
  s'.engines = s.engines ∧ s'.mem = s.mem ∧ s'.seq = s.seq)) ∧
  (∀ (f : FieldId) (c : CrofterId) (s : State), (s.inService f.val = false ∨ s.flag RF.WFR_RCV_RESET_BUSY 0 0 = true)
        →
    ∃ s', exec (.resetCrofter f c) s = .next s' ∧
      (s'.flag RF.WFR_RCV_RESET_CMD_ERR 0 0 = true ∧ s'.resets = s.resets ∧ s'.crofters = s.crofters)) ∧
  (∀ (f : FieldId) (s : State), s.resetFree = true ∧ s.inService f.val = true ∧ s.quietField f.val = true →
    ∃ s', exec (.resetField f) s = .next s' ∧
      (s'.resets.running = s.resets.running ++ [(2, f.val, s.now)] ∧ s'.inReset f.val = true ∧
  s'.resets.fieldTimes.look [] f.val = s.recent min10 (s.resets.fieldTimes.look [] f.val) ++ [s.now] ∧
  s'.mem = s.mem.zeroRange (cellKey f.val 1 0) (2 ^ 42) ∧ s'.seq = s.seq ∧
  (∀ k : RKey, k.reg ≠ .WFR_RCV_RESET → s'.rd k.reg k.inst.val k.idx.val =
    if !keptInFieldReset k.reg && (fieldPages f.val).any (fun p => onPage p.1 p.2 k) then k.reset
    else s.rd k.reg k.inst.val k.idx.val))) ∧
  (∀ (f : FieldId) (s : State), (s.inService f.val = false ∨ s.flag RF.WFR_RCV_RESET_BUSY 0 0 = true) →
    ∃ s', exec (.resetField f) s = .next s' ∧
      (s'.flag RF.WFR_RCV_RESET_CMD_ERR 0 0 = true ∧ s'.resets = s.resets ∧ s'.mem = s.mem)) ∧
  (∀ (p : ParishId) (s : State), s.resetFree = true ∧ s.flag RF.WFR_PAR_CANCEL_BUSY p.val 0 = true ∧
  (∀ g, g < 80 → (s.parishMask p.val).testBit g = true → s.inService g = true ∧ s.quietField g = true) →
    ∃ s', exec (.resetParish p) s = .next s' ∧
      (s'.flag RF.WFR_RCV_RESET_BUSY 0 0 = true ∧ s'.getF RF.WFR_RCV_RESET_PARISH 0 0 = p.val ∧
  s'.resets.running = s.resets.running ++ [(3, p.val, s.now)] ∧
  (∀ g, g < 80 → s'.inReset g = ((s.parishMask p.val).testBit g || s.inReset g)))) ∧
  (∀ (spine : BitVec 80) (lost : List (FieldId × BitVec 39)) (f u t : Nat) (rest : List (Nat × Nat × Nat)) (s :
        State), s.resets.running = (0, unitKey f u, t) :: rest ∧ u < 32 ∧ (s.recent sec60 (s.engine f
        u).resets).length < 8 ∧ s.commons.reqs = [] →
    ∃ s', exec (.resetDone spine lost) s = .next s' ∧
      (s'.resets.running = rest ∧ (s'.engine f u).inReset = false ∧
  s'.flag RF.WFR_RCV_RESET_BUSY 0 0 = (s.flag RF.WFR_RCV_RESET_BUSY 0 0 &&
    !(rest.isEmpty && s.resets.waiting.isEmpty)) ∧ s'.mem = s.mem ∧ s'.seq = s.seq)) ∧
  (∀ (spine : BitVec 80) (lost : List (FieldId × BitVec 39)) (f t : Nat) (rest : List (Nat × Nat × Nat)) (s : State),
        s.resets.running = (2, f, t) :: rest ∧ f < 80 ∧ spine.toNat.testBit f = false ∧ lost = [] ∧ s.commons.reqs =
        [] ∧
  (s.recent min10 (s.resets.fieldTimes.look [] f)).length < 4 ∧ s.tallies.heldAdds = [] ∧
  s.flag RF.ASY_FLD_STAT_DEFERRED f 0 = false →
    ∃ s', exec (.resetDone spine lost) s = .next s' ∧
      (s'.resets.running = rest ∧ s'.resets.fields = s.resets.fields.filter (· != f) ∧
  s'.verne.resetEnd.look 0 f = s.fabricTime + 1 ∧ s'.mem = s.mem ∧ s'.seq = s.seq ∧ s'.tallies = s.tallies ∧
  s'.flag RF.WFR_RCV_RESET_BUSY 0 0 = (s.flag RF.WFR_RCV_RESET_BUSY 0 0 &&
    !(rest.isEmpty && s.resets.waiting.isEmpty))))

/-- The expired timer of a dispatched sheaf, or the third missed bell interval of a watched field, declares a hang:
  HANG is raised, the first is captured and each may go on by AUTO or GO. The start of a recovery counts it and takes
  the hang; a stalled quern's replayable task becomes a suspect, and one replay at a time follows. A suspect at its
  checkpoint is innocent, one past its bound is guilty, ends and is counted. A failing engine or crofter is fenced;
  old resets leave the windows. -/
def Obligations.HangsAndRecovery : Prop :=
  (∀ (serial : Nat) (x : Sheaf) (s : State), s.resets.recoveries = [] ∧ s.sheaf? serial = some x ∧ x.serial = serial
        ∧ s.sheafLate x = true →
    ∃ s', exec (.sheafTimeout serial) s = .next s' ∧
      (s'.flag RF.WFR_RCV_EVENT_HANG 0 0 = true ∧ s'.flag RF.WFR_RCV_HANG_VALID 0 0 = true ∧
  s'.resets.hung.contains serial = true ∧ s'.seq = s.seq ∧
  s'.resets.hangs = s.resets.hangs ++ [⟨0, x.parish, ((maskList x.fieldSet 80).head?).getD 0, serial,
    (s.getF RF.WFR_RCV_CTL_AUTO 0 0).testBit x.parish⟩])) ∧
  (∀ (f : FieldId) (p : ParishId) (m : Nat) (s : State), s.resets.recoveries = [] ∧ s.bellWatched f.val p = true ∧
  m = (if !(s.crofters.bells.look quietBell f.val).gap && !(s.crofters.bells.look quietBell f.val).rang
    then (s.crofters.bells.look quietBell f.val).missed + 1 else 0) →
    ∃ s', exec (.bellIntervalEnd f) s = .next s' ∧
      ((s'.crofters.bells.look quietBell f.val).rang = false ∧
  (s'.crofters.bells.look quietBell f.val).missed = (if m = 3 then 0 else m) ∧
  (m = 3 → s'.flag RF.WFR_RCV_EVENT_HANG 0 0 = true ∧ s'.resets.hangs = s.resets.hangs ++ [⟨1, p.val, f.val, 0,
    (s.getF RF.WFR_RCV_CTL_AUTO 0 0).testBit p.val⟩]) ∧
  (m ≠ 3 → s'.resets = s.resets ∧ s'.regs = s.regs))) ∧
  (∀ (h : Hang) (rest : List Hang) (s : State), s.resets.hangs = h :: rest ∧ h.go = false →
    ∃ s', exec .recoveryGo s = .next s' ∧
      (s'.resets.hangs = { h with go := true } :: rest) ∧
      s' = { s with resets := s'.resets }) ∧
  (∀ (engines : List (FieldId × Fin 32)) (crofters : List (FieldId × CrofterId)) (h : Hang) (f : FieldId) (u : Fin
        32) (t : EngTask) (s : State), s.resets.recoveries = [] ∧ s.nextHang = some h ∧ s.frozen = false ∧ s.halted =
        false ∧ engines = [(f, u)] ∧ u.val ≤ 8 ∧
  f.val ∈ s.hangFields h ∧ s.stalled f.val u.val = true ∧ (s.engine f.val u.val).running = [t] ∧
  (s.engine f.val u.val).queue = [] ∧ s.replayable f.val u.val t = true →
    ∃ s', exec (.recoveryStart engines crofters) s = .next s' ∧
      (s'.resets.hangs = s.resets.hangs.erase h ∧ (s'.engine f.val u.val).running = [] ∧
  (s'.engine f.val u.val).suspects = [rewound u.val t] ∧ (s'.engine f.val u.val).replaying = true ∧
  s'.resets.recoveries = [⟨h, s.hangFields h, [⟨f.val, u.val, none, 0, none, none⟩], []⟩] ∧
  s'.getF RF.WFR_RCV_COUNTS_RECOVERIES 0 0 =
    wrapAdd RF.WFR_RCV_COUNTS_RECOVERIES.w (s.getF RF.WFR_RCV_COUNTS_RECOVERIES 0 0) 1 ∧ s'.seq = s.seq)) ∧
  (∀ (engines : List (FieldId × Fin 32)) (crofters : List (FieldId × CrofterId)) (h : Hang) (s : State),
        s.resets.recoveries = [] ∧ s.nextHang = some h ∧ s.frozen = false ∧ s.halted = false ∧ engines = [] ∧
        crofters = [] ∧
  s.hangSheaves h = [] ∧ h.mode = 1 ∧ s.resets.deferred = [] →
    ∃ s', exec (.recoveryStart engines crofters) s = .next s' ∧
      (s'.resets.hangs = s.resets.hangs.erase h ∧ s'.resets.recoveries = [] ∧
  s'.getF RF.WFR_RCV_COUNTS_RECOVERIES 0 0 =
    wrapAdd RF.WFR_RCV_COUNTS_RECOVERIES.w (s.getF RF.WFR_RCV_COUNTS_RECOVERIES 0 0) 1 ∧ s'.seq = s.seq ∧ s'.engines
        = s.engines)) ∧
  (∀ (f : FieldId) (u : Fin 32) (x : Recovery) (r : Replay) (t : EngTask) (rest : List EngTask) (s : State),
        s.replayOf f.val u.val = some (x, r) ∧ r.current = none ∧ (s.engine f.val u.val).running = [] ∧
  (s.engine f.val u.val).queue = [] ∧ s.fieldRuns f.val = true ∧ (s.engine f.val u.val).suspects = t :: rest ∧
  u.val ≠ unitLoom ∧ t.status = none →
    ∃ s', exec (.suspectReplayStart f u) s = .next s' ∧
      ((s'.engine f.val u.val).suspects = rest ∧ (s'.engine f.val u.val).queue = [t] ∧ (s'.engine f.val
        u.val).running = [] ∧
  (s'.replayOf f.val u.val).map (fun y => (y.2.current, y.2.since)) = some (some t.serial, s.now))) ∧
  (∀ (f : FieldId) (u : Fin 32) (x : Recovery) (r : Replay) (n : Nat) (s : State), s.replayOf f.val u.val = some (x,
        r) ∧ r.current = some n ∧ s.atCheckpoint f.val u.val n r.mark = true ∧
  (s.engine f.val u.val).suspects ≠ [] →
    ∃ s', exec (.suspectCheckpoint f u) s = .next s' ∧
      (s'.getF RF.WFR_RCV_COUNTS_INNOCENT 0 0 =
    wrapAdd RF.WFR_RCV_COUNTS_INNOCENT.w (s.getF RF.WFR_RCV_COUNTS_INNOCENT 0 0) 1 ∧
  (s'.replayOf f.val u.val).map (fun y => y.2.current) = some none ∧ s'.engines = s.engines)) ∧
  (∀ (f : FieldId) (u : Fin 32) (x : Recovery) (r : Replay) (n : Nat) (s : State), s.resets.recoveries = [x] ∧
        x.engines = [r] ∧ r.field = f.val ∧ r.unit = u.val ∧ r.current = some n ∧
  s.atCheckpoint f.val u.val n r.mark = true ∧ (s.engine f.val u.val).suspects = [] ∧ s.resets.deferred = [] ∧
  x.timers = [] ∧ x.hang.mode = 1 ∧ (s.recent sec60 (s.engine f.val u.val).resets).length < 8 →
    ∃ s', exec (.suspectCheckpoint f u) s = .next s' ∧
      (s'.getF RF.WFR_RCV_COUNTS_INNOCENT 0 0 =
    wrapAdd RF.WFR_RCV_COUNTS_INNOCENT.w (s.getF RF.WFR_RCV_COUNTS_INNOCENT 0 0) 1 ∧
  s'.resets.recoveries = [] ∧ (s'.engine f.val u.val).replaying = false ∧ s'.seq = s.seq)) ∧
  (∀ (f : FieldId) (u : Fin 32) (cycles : Nat) (x : Recovery) (r : Replay) (t : EngTask) (s : State), s.replayOf
        f.val u.val = some (x, r) ∧ r.current = some t.serial ∧ u.val ≤ 8 ∧ s.overBound r cycles = true ∧
  s.atCheckpoint f.val u.val t.serial r.mark = false ∧
  ((s.engine f.val u.val).running ++ (s.engine f.val u.val).queue).find? (fun k => k.serial == t.serial) = some t ∧
  t.sheaf = none ∧ t.outputs = [] ∧ descStatusEn t.desc = false ∧ descCtEn t.desc = false ∧
  (s.engine f.val u.val).suspects ≠ [] →
    ∃ s', exec (.replayBoundExpire f u cycles) s = .next s' ∧
      (s'.getF RF.WFR_RCV_COUNTS_GUILTY 0 0 =
    wrapAdd RF.WFR_RCV_COUNTS_GUILTY.w (s.getF RF.WFR_RCV_COUNTS_GUILTY 0 0) 1 ∧
  s'.flag RF.WFR_RCV_EVENT_GUILTY 0 0 = true ∧ (s'.engine f.val u.val).running = [] ∧
  (s'.engine f.val u.val).queue = [] ∧ (s'.replayOf f.val u.val).map (fun y => y.2.current) = some none)) ∧
  (∀ (f : FieldId) (x : FaultUnit) (cls : EngineClass) (n : BitVec 4) (u : Nat) (s : State), x = .engine cls n ∧
        s.inService f.val = true ∧ engineUnit f.val cls n.toNat = some u ∧ s.fenced f.val u = false ∧
  s.frozen = false ∧ s.resets.recoveries = [] ∧ (s.engine f.val u).running = [] ∧ (s.engine f.val u).suspects = [] ∧
  (s.engine f.val u).queue = [] ∧ (s.cairn f.val).job = none →
    ∃ s', exec (.unitFault f x) s = .next s' ∧
      (s'.fenced f.val u = true ∧ s'.flag RF.WFR_RCV_EVENT_FENCE 0 0 = true ∧ s'.seq = s.seq ∧ s'.mem = s.mem)) ∧
  (∀ (f : FieldId) (x : FaultUnit) (c : CrofterId) (s : State), x = .crofter c ∧ s.inService f.val = true ∧ s.frozen
        = false ∧ s.resets.recoveries = [] ∧
  ((s.liveThreads f.val).filter (fun t => t / 8 == c.val)) = [] ∧ bit (s.rd .WFR_FLDf_STATUS 0 f.val) (32 + c.val) =
        false →
    ∃ s', exec (.unitFault f x) s = .next s' ∧
      (bit (s'.rd .WFR_FLDf_STATUS 0 f.val) (32 + c.val) = true ∧ s'.flag RF.WFR_RCV_EVENT_FENCE 0 0 = true ∧
  (∀ i < 8, (s'.thread f.val (c.val * 8 + i)).st = .fenced) ∧ s'.seq = s.seq)) ∧
  (∀ (s : State), ∃ s', exec .escalationWindowSlide s = .next s' ∧
      ((∀ f u, (s'.engine f u).resets = s.recent sec60 (s.engine f u).resets) ∧
  (∀ e ∈ s'.resets.fieldTimes, ∀ t ∈ e.2, s.now - t < min10) ∧
  (∀ e ∈ s'.resets.crofterTimes, ∀ t ∈ e.2, s.now - t < sec60) ∧ s'.resets.warmTimes = s.recent hour1
        s.resets.warmTimes) ∧
      s' = { s with engines := s'.engines, resets := s'.resets })

/-- With nothing running: PERST or a link loss leaves H0 not ready, its virtual functions off and its link down; a
  function-level reset starts the reset of the function, whose page and, for a virtual function, parish pages take
  their reset values but ENABLE; it ends by its completion. H0 becomes ready with its width and speed once it may
  start. A configuration request before is answered CRS, for an absent function unsupported, else a read's value or a
  write. Unmasking an entry sends its pending message. -/
def Obligations.HostResetsAndConfiguration : Prop :=
  (∀ (s : State), ∃ s', exec .perstDeassert s = .next s' ∧
      (s'.boot.perst = false ∧ s'.boot.stage = s.boot.stage) ∧
      s' = { s with boot := s'.boot }) ∧
  (∀ (hot : Bool) (s : State), s.seq.sheaves = [] ∧ s.busyUnits = [] →
    ∃ s', exec (.perstAssert hot) s = .next s' ∧
      (s'.boot.perst = (s.boot.perst || !hot) ∧ s'.host.ready = false ∧ s'.host.flr = [] ∧ s'.host.held = [] ∧
  s'.host.vfEnable = false ∧ s'.flag RF.HST_PORT_H0_UP 0 0 = false ∧ s'.mem = s.mem) ∧
      s' = { s with
          serial := s'.serial, regs := s'.regs, mem := s'.mem, commons := s'.commons,
          crofters := s'.crofters, tallies := s'.tallies, engines := s'.engines, seq := s'.seq,
          boot := s'.boot, resets := s'.resets, host := s'.host, out := s'.out }) ∧
  (∀ (s : State), s.seq.sheaves = [] ∧ s.busyUnits = [] →
    ∃ s', exec .h0LinkDown s = .next s' ∧
      (s'.host.ready = false ∧ s'.host.flr = [] ∧ s'.host.held = [] ∧ s'.host.vfEnable = false ∧
  s'.flag RF.HST_PORT_H0_UP 0 0 = false ∧ (s.flag RF.HST_PORT_H0_UP 0 0 = true → s'.getF RF.HST_PORT_H0_DOWNS 0 0 =
    min (s.getF RF.HST_PORT_H0_DOWNS 0 0 + 1) (2 ^ RF.HST_PORT_H0_DOWNS.w - 1)) ∧ s'.mem = s.mem ∧ s'.boot = s.boot) ∧
      s' = { s with
          serial := s'.serial, regs := s'.regs, mem := s'.mem, commons := s'.commons,
          crofters := s'.crofters, tallies := s'.tallies, engines := s'.engines, seq := s'.seq,
          resets := s'.resets, host := s'.host, out := s'.out }) ∧
  (∀ (p : ParishId) (s : State), s.host.ready = true ∧ s.fnOn (p.val + 1) = true ∧ s.seq.sheaves = [] ∧ s.busyUnits =
        [] →
    ∃ s', exec (.vfFlr p) s = .next s' ∧
      (s'.host.flr.contains (p.val + 1) = true ∧ s'.flag RF.WFR_PAR_CTL_ENABLE p.val 0 = s.flag RF.WFR_PAR_CTL_ENABLE
        p.val 0 ∧
  (∀ k : RKey, k.reg ≠ .WFR_PAR_CTL → s'.rd k.reg k.inst.val k.idx.val =
    if (ringReg k.reg && decide (k.inst.val = p.val)) || onPage .WFR_SRO p.val k ||
      (k.reg.info.page.isNone && decide (k.inst.val = hdrInst .WFR_PARISH p.val)) || onPage .HST_FN (p.val + 1) k
        then k.reset
    else s.rd k.reg k.inst.val k.idx.val) ∧ s'.mem = s.mem) ∧
      s' = { s with
          serial := s'.serial, regs := s'.regs, mem := s'.mem, commons := s'.commons,
          crofters := s'.crofters, tallies := s'.tallies, engines := s'.engines, seq := s'.seq,
          resets := s'.resets, host := s'.host, out := s'.out }) ∧
  (∀ (s : State), s.host.ready = true ∧ s.seq.sheaves = [] ∧ s.busyUnits = [] →
    ∃ s', exec .pfFlr s = .next s' ∧
      ((∀ n < 33, s'.host.flr.contains n = true) ∧ s'.host.vfEnable = false ∧ s'.host.ready = true ∧ s'.mem = s.mem ∧
  (∀ (r : Reg) (i n : Nat), r.info.page = some .HST_FN → i < 33 → n < 4096 → s'.rd r i n = RKey.reset (rkey r i n))) ∧
      s' = { s with
          serial := s'.serial, regs := s'.regs, mem := s'.mem, commons := s'.commons,
          crofters := s'.crofters, tallies := s'.tallies, engines := s'.engines, seq := s'.seq,
          resets := s'.resets, host := s'.host, out := s'.out }) ∧
  (∀ (fn : FnId) (s : State), ∃ s', exec (.flrComplete fn) s = .next s' ∧
      (s'.host.flr = s.host.flr.filter (· != fn.val) ∧ s'.host.config = s.host.config ∧ s'.host.ready = s.host.ready)
        ∧
      s' = { s with host := s'.host }) ∧
  (∀ (width : Fin 4) (speed : Fin 6) (s : State), s.h0MayStart = true ∧ s.host.ready = false →
    ∃ s', exec (.h0Ready width speed) s = .next s' ∧
      (s'.host.ready = true ∧ s'.getF RF.HST_PORT_H0_WIDTH 0 0 = 2 ^ width.val ∧ s'.getF RF.HST_PORT_H0_SPEED 0 0 =
        speed.val + 1 ∧
  s'.flag RF.HST_PORT_H0_FLIT 0 0 = decide (speed.val = 5) ∧ s'.flag RF.HST_PORT_H0_UP 0 0 = true) ∧
      s' = { s with serial := s'.serial, regs := s'.regs, host := s'.host, out := s'.out }) ∧
  (∀ (fn : FnId) (reg : CfgReg) (write : Option (BitVec 32)) (s : State), ∃ s', exec (.h0ConfigRequest fn reg write)
        s = .next s' ∧
      ((s.host.ready = false → s'.out = s.out ++ [.cfgReply 2 0#64] ∧ s'.host = s.host) ∧
  (s.host.ready = true → s.fnOn fn.val = false → s'.out = s.out ++ [.cfgReply 1 0#64] ∧ s'.host = s.host) ∧
  (s.host.ready = true → s.fnOn fn.val = true → write = none →
    s'.out = s.out ++ [.cfgReply 0 (s.cfgRead fn.val reg)] ∧ s'.host = s.host)) ∧
      s' = { s with serial := s'.serial, host := s'.host, out := s'.out }) ∧
  (∀ (fn : FnId) (reg : CfgReg) (write : Option (BitVec 32)) (v : BitVec 32) (s : State), s.host.ready = true ∧
        s.fnOn fn.val = true ∧ write = some v ∧ s.host.msixPending = [] →
    ∃ s', exec (.h0ConfigRequest fn reg write) s = .next s' ∧
      (s'.out = s.out ++ [.cfgReply 0 0#64] ∧
  (reg = .vfEnable → s'.host.vfEnable = if fn.val = 0 then decide (v.toNat % 2 = 1) else s.host.vfEnable) ∧
  (reg = .numVfs → s'.host.numVfs =
    if fn.val = 0 ∧ s.host.vfEnable = false ∧ v.toNat ≤ 32 then v.toNat else s.host.numVfs) ∧
  (reg = .memEnable → s'.host.config.look 0 (fn.val * 4) = v.toNat % 2) ∧
  (reg = .ats → s'.host.ats.contains fn.val = decide (v.toNat % 2 = 1)) ∧
  (reg = .msixMask → s'.host.msixFnMask.contains fn.val = decide (v.toNat % 2 = 1)) ∧
  (reg = .classCode → s'.host = s.host)) ∧
      s' = { s with serial := s'.serial, host := s'.host, out := s'.out }) ∧
  (∀ (fn : FnId) (s : State), s.host.ready = true ∧ s.fnOn fn.val = true ∧ s.host.ats.contains fn.val = true →
    ∃ s', exec (.atsInvalidateRequest fn) s = .next s' ∧
      (s'.out = s.out ++ [.atsDone fn]) ∧
      s' = { s with out := s'.out }) ∧
  (∀ (fn : FnId) (entry : Fin 64) (mask : Bool) (s : State), s.host.ready = true ∧ s.fnOn fn.val = true ∧ entry.val <
        msixEntries fn.val →
    ∃ s', exec (.msixUnmask fn entry mask) s = .next s' ∧
      (s'.host.msixOpen.contains (fn.val * 2048 + entry.val) = !mask ∧
  (mask = true → s'.host.msixPending = s.host.msixPending ∧ s'.out = s.out)) ∧
      s' = { s with host := s'.host, out := s'.out }) ∧
  (∀ (fn : FnId) (entry : Fin 64) (mask : Bool) (s : State), s.host.ready = true ∧ s.fnOn fn.val = true ∧ entry.val <
        msixEntries fn.val ∧ mask = false ∧
  s.host.msixPending.filter (fun k => k == fn.val * 2048 + entry.val) = [fn.val * 2048 + entry.val] ∧
  s.host.msixFnMask.contains fn.val = false →
    ∃ s', exec (.msixUnmask fn entry mask) s = .next s' ∧
      (s'.out = s.out ++ [s.msixMsg (fn.val * 2048 + entry.val)] ∧
  s'.host.msixPending = s.host.msixPending.filter (fun k => k != fn.val * 2048 + entry.val)) ∧
      s' = { s with host := s'.host, out := s'.out })

/-- A BAR2 access of one line that reaches memory reads the bytes into its completion or writes them; frozen, a read
  gives zeros with FROZEN and a write is held; a BAR read still open after 3 ms returns zeros and captures TIMEOUT. A
  DMA doorbell sets the tail, or ERR beyond the entries; a fetched descriptor is read, and a bad one gets CODE 0x15;
  data toward the module is read by tag, its completion moves the bytes or fails the descriptor, a timeout or a drain
  abandons it; CODE and DONE are written and HEAD advances. -/
def Obligations.HostAccessesAndDma : Prop :=
  (∀ (fn : FnId) (offset : BitVec 36) (op : RegOp) (n g region off addr : Nat) (s : State), s.host.ready = true ∧
        s.fnOn fn.val = true ∧ offset.toNat < s.bar2Bytes fn.val ∧ s.h0Frozen = false ∧ op = .read n ∧
  addr = s.getF RF.HST_FN_WIN_BASE_BASE fn.val 0 * 65536 + offset.toNat ∧ 0 < n ∧ n ≤ 64 - addr % 64 ∧
  s.reachesPlain (s.fnSource fn.val) addr n false false g region off = true ∧ s.host.reads = [] →
    ∃ s', exec (.bar2Access fn offset op) s = .next s' ∧
      (s'.out = s.out ++ [.barReply fn 0 (s.memRead g region off n)] ∧ s'.host.reads = [] ∧ s'.mem = s.mem)) ∧
  (∀ (fn : FnId) (offset : BitVec 36) (op : RegOp) (d : List Byte) (g region off addr : Nat) (s : State),
        s.host.ready = true ∧ s.fnOn fn.val = true ∧ offset.toNat < s.bar2Bytes fn.val ∧ s.h0Frozen = false ∧ op =
        .write d ∧
  addr = s.getF RF.HST_FN_WIN_BASE_BASE fn.val 0 * 65536 + offset.toNat ∧ 0 < d.length ∧ d.length ≤ 64 - addr % 64 ∧
  s.reachesPlain (s.fnSource fn.val) addr d.length true false g region off = true →
    ∃ s', exec (.bar2Access fn offset op) s = .next s' ∧
      (s'.mem = (s.memWrite g region off d false).mem ∧ s'.out = s.out ∧ s'.host = s.host)) ∧
  (∀ (fn : FnId) (offset : BitVec 36) (op : RegOp) (addr : Nat) (s : State), s.host.ready = true ∧ s.fnOn fn.val =
        true ∧ offset.toNat < s.bar2Bytes fn.val ∧ s.h0Frozen = true ∧
  addr = s.getF RF.HST_FN_WIN_BASE_BASE fn.val 0 * 65536 + offset.toNat ∧ s.aliveAddr addr = false →
    ∃ s', exec (.bar2Access fn offset op) s = .next s' ∧
      ((∀ n, op = .read n → s'.flag RF.HST_FN_WIN_ERR_FROZEN fn.val 0 = true ∧
    s'.out = s.out ++ [.barReply fn 0 (List.replicate n 0#8)]) ∧
  (∀ d, op = .write d → s.host.held.length < 256 → s'.host.held = s.host.held ++ [.bar2 fn offset.toNat addr d]) ∧
        s'.mem = s.mem)) ∧
  (∀ (id : Nat) (x : BarRead) (s : State), s.host.reads.find? (fun y => y.id == id) = some x ∧ 3000000 ≤ s.now -
        x.since ∧ x.fn < 33 →
    ∃ s', exec (.barReadDeadline id) s = .next s' ∧
      (s'.host.reads = s.host.reads.filter (fun y => y.id != id) ∧ s'.flag RF.HST_FN_WIN_ERR_VALID x.fn 0 = true ∧
  s'.out.getLast? = some (.barReply (Fin.ofNat 33 x.fn) 0 (List.replicate x.size 0#8)) ∧
  (s.flag RF.HST_FN_WIN_ERR_VALID x.fn 0 = false →
    s'.getF RF.HST_FN_WIN_ERR_CODE x.fn 0 = AccStatus.code .timeout)) ∧
      s' = { s with regs := s'.regs, host := s'.host, out := s'.out } ∧
      s.onlyRegs [.HST_FN_WIN_ERR, .HST_PORT_EVENT, .HST_PORT_MSIX_DROP] s') ∧
  (∀ (fn : FnId) (q : Fin 2) (v : BitVec 16) (s : State), s.host.ready = true ∧ s.fnOn fn.val = true ∧ s.h0Frozen =
        false ∧ s.host.flr.contains fn.val = false →
    ∃ s', exec (.dmaDoorbell fn q v) s = .next s' ∧
      (s'.host.doorbells.look 0 (2 ^ 16 + fn.val * 2 + q.val) = v.toNat ∧
  (v.toNat < s.dmaEntries fn.val q.val → (s'.dmaQ fn.val q.val).tail = v.toNat ∧
    (s'.dmaQ fn.val q.val).job = (s.dmaQ fn.val q.val).job ∧ s'.regs = s.regs) ∧
  (s.dmaEntries fn.val q.val ≤ v.toNat → s'.flag RF.HST_FN_DMAq_CTL_ERR fn.val q.val = true ∧
    s'.dmaQ fn.val q.val = s.dmaQ fn.val q.val)) ∧
      s' = { s with regs := s'.regs, host := s'.host } ∧
      s.onlyRegs [.HST_FN_DMAq_CTL] s') ∧
  (∀ (fn : FnId) (q : Fin 2) (v : BitVec 16) (s : State), s.host.ready = true ∧ s.fnOn fn.val = true ∧ s.h0Frozen =
        true ∧ s.host.held.length < 256 →
    ∃ s', exec (.dmaDoorbell fn q v) s = .next s' ∧
      (s'.host.held = s.host.held ++ [.dma fn q.val v.toNat] ∧ s'.dmaQ fn.val q.val = s.dmaQ fn.val q.val ∧ s'.regs =
        s.regs) ∧
      s' = { s with regs := s'.regs, host := s'.host } ∧
      s.onlyRegs [.HST_FN_DMAq_CTL] s') ∧
  (∀ (fn : FnId) (q : Fin 2) (a : HostAnswer) (refused : Bool) (d : List Byte) (addr : Nat) (s : State), s.dmaReady
        fn.val q.val = true ∧ a = .data d ∧ d.length = 32 ∧ dmaOk d = false ∧
  addr = s.getF RF.HST_FN_DMAq_BASE_BASE fn.val q.val * 4096 + s.getF RF.HST_FN_DMAq_CTL_HEAD fn.val q.val * 32 →
    ∃ s', exec (.dmaDescFetch fn q a refused) s = .next s' ∧
      ((s'.dmaQ fn.val q.val).job = some ⟨d, 0, 0, some 0x15⟩ ∧ s'.out = s.out ++ [.hostRead fn (s.pasid fn.val) addr
        32] ∧
  s'.regs = s.regs) ∧
      s' = { s with
          serial := s'.serial, regs := s'.regs, mem := s'.mem, crofters := s'.crofters, host := s'.host,
          out := s'.out } ∧
      s.onlyRegs [.FLD_CMN_DENIED, .FLD_CMN_ERR_ADDR, .FLD_CMN_ERR_SOURCE, .FLD_CMN_ERR_STATUS, .FLD_CMN_FRESH_FILLS,
        .FLD_CMN_FRESH_READS, .HST_FN_DMAq_CTL] s') ∧
  (∀ (fn : FnId) (q : Fin 2) (a : HostAnswer) (refused : Bool) (d : List Byte) (addr : Nat) (s : State), s.dmaReady
        fn.val q.val = true ∧ a = .data d ∧ d.length = 32 ∧ dmaOk d = true ∧ refused = false ∧ dOut d = false ∧
  addr = s.getF RF.HST_FN_DMAq_BASE_BASE fn.val q.val * 4096 + s.getF RF.HST_FN_DMAq_CTL_HEAD fn.val q.val * 32 ∧
  dLength d ≤ 4096 - dHost d % 4096 ∧ s.freeTags ≠ [] →
    ∃ s', exec (.dmaDescFetch fn q a refused) s = .next s' ∧
      ((s'.dmaQ fn.val q.val).job = some ⟨d, dLength d, 0, none⟩ ∧
  s'.out = s.out ++ [.hostRead fn (s.pasid fn.val) addr 32, .hostRead fn (s.pasid fn.val) (dHost d) (dLength d)] ∧
  (∃ t ∈ s.freeTags, s'.host.tags = s.host.tags ++ [⟨t, fn.val, q.val, 0, dLength d, s.now⟩]) ∧ s'.regs = s.regs) ∧
      s' = { s with
          serial := s'.serial, regs := s'.regs, mem := s'.mem, crofters := s'.crofters, host := s'.host,
          out := s'.out } ∧
      s.onlyRegs [.FLD_CMN_DENIED, .FLD_CMN_ERR_ADDR, .FLD_CMN_ERR_SOURCE, .FLD_CMN_ERR_STATUS, .FLD_CMN_FRESH_FILLS,
        .FLD_CMN_FRESH_READS, .HST_FN_DMAq_CTL] s') ∧
  (∀ (fn : FnId) (q : Fin 2) (a : HostAnswer) (refused : Bool) (s : State), s.dmaReady fn.val q.val = true ∧ (∀ d, a
        ≠ .data d) →
    ∃ s', exec (.dmaDescFetch fn q a refused) s = .next s' ∧
      (s'.flag RF.HST_FN_DMAq_CTL_ERR fn.val q.val = true ∧ (s'.dmaQ fn.val q.val).job = none) ∧
      s' = { s with
          serial := s'.serial, regs := s'.regs, mem := s'.mem, crofters := s'.crofters, host := s'.host,
          out := s'.out } ∧
      s.onlyRegs [.FLD_CMN_DENIED, .FLD_CMN_ERR_ADDR, .FLD_CMN_ERR_SOURCE, .FLD_CMN_ERR_STATUS, .FLD_CMN_FRESH_FILLS,
        .FLD_CMN_FRESH_READS, .HST_FN_DMAq_CTL] s') ∧
  (∀ (fn : FnId) (q : Fin 2) (j : DmaJob) (code h : Nat) (s : State), s.dmaDone fn.val q.val = some (j, code) ∧
        s.fnOn fn.val = true ∧ s.host.ready = true ∧ s.h0Frozen = false ∧
  dCtEn j.desc = false ∧ dIrq j.desc = false ∧ h = s.getF RF.HST_FN_DMAq_CTL_HEAD fn.val q.val →
    ∃ s', exec (.dmaDescComplete fn q) s = .next s' ∧
      (s'.out = s.out ++ [.hostWrite fn (s.pasid fn.val) (s.getF RF.HST_FN_DMAq_BASE_BASE fn.val q.val * 4096 + h *
        32 + 28)
    (leBytes 4 (code + 2 ^ 31))] ∧ (s'.dmaQ fn.val q.val).job = none ∧
  s'.getF RF.HST_FN_DMAq_CTL_HEAD fn.val q.val =
    (h + 1) % s.dmaEntries fn.val q.val % 2 ^ RF.HST_FN_DMAq_CTL_HEAD.w ∧
  s'.getF RF.HST_FN_DMAq_BYTES_COUNT fn.val q.val =
    wrapAdd RF.HST_FN_DMAq_BYTES_COUNT.w (s.getF RF.HST_FN_DMAq_BYTES_COUNT fn.val q.val) j.moved ∧
  s'.flag RF.HST_FN_DMAq_CTL_ERR fn.val q.val = (s.flag RF.HST_FN_DMAq_CTL_ERR fn.val q.val || decide (code ≠ 0))) ∧
      s' = { s with regs := s'.regs, tallies := s'.tallies, host := s'.host, out := s'.out } ∧
      s.onlyRegs [.FLD_CMN_DENIED, .FLD_CMN_ERR_ADDR, .FLD_CMN_ERR_SOURCE, .FLD_CMN_ERR_STATUS, .HST_FN_DMAq_BYTES,
        .HST_FN_DMAq_CTL, .HST_PORT_EVENT, .HST_PORT_MSIX_DROP, .TLY_DUP_COUNT, .TLY_ERR_STATUS, .TLY_OPS] s') ∧
  (∀ (tag : BitVec 10) (a : HostAnswer) (t : HostTag) (j : DmaJob) (s : State), s.host.tags.find? (fun x => x.tag ==
        tag.toNat) = some t ∧ (s.dmaQ t.fn t.queue).job = some j ∧ j.code = none →
    ∃ s', exec (.hostCompletionArrive tag a) s = .next s' ∧
      ((a = .unsupported → (s'.dmaQ t.fn t.queue).job = some { j with code := some 0x10 } ∧ s'.mem = s.mem) ∧
  (a = .poison → (s'.dmaQ t.fn t.queue).job = some { j with code := some 0x12 } ∧ s'.mem = s.mem) ∧
  (a = .refused → (s'.dmaQ t.fn t.queue).job =
    some { j with code := some (if s.host.ats.contains t.fn then 0x13 else 0x10) } ∧ s'.mem = s.mem) ∧
  ((∀ d, a ≠ .data d) → s'.host.tags = s.host.tags.filter (fun x => x.tag != t.tag))) ∧
      s' = { s with
          serial := s'.serial, regs := s'.regs, mem := s'.mem, commons := s'.commons,
          crofters := s'.crofters, host := s'.host, out := s'.out } ∧
      s.onlyRegs [.FLD_CMN_DENIED, .FLD_CMN_ERR_ADDR, .FLD_CMN_ERR_SOURCE, .FLD_CMN_ERR_STATUS, .FLD_CMN_FRESH_FILLS]
        s') ∧
  (∀ (tag : BitVec 10) (a : HostAnswer) (t : HostTag) (j : DmaJob) (d : List Byte) (s2 : State) (s : State),
        s.host.tags.find? (fun x => x.tag == tag.toNat) = some t ∧ (s.dmaQ t.fn t.queue).job = some j ∧ a = .data d ∧
  d.length = t.size ∧ j.next = dLength j.desc ∧
  (s.modHost (fun h => { h with tags := h.tags.filter (fun x => x.tag != t.tag) })).bulkWrite (s.fnSource t.fn)
    (dCommons j.desc + t.offset) d = (s2, none) →
    ∃ s', exec (.hostCompletionArrive tag a) s = .next s' ∧
      (s'.mem = s2.mem ∧ (s'.dmaQ t.fn t.queue).job = some { j with moved := j.moved + t.size } ∧
  s'.host.tags = s.host.tags.filter (fun x => x.tag != t.tag)) ∧
      s' = { s with
          serial := s'.serial, regs := s'.regs, mem := s'.mem, commons := s'.commons,
          crofters := s'.crofters, host := s'.host, out := s'.out } ∧
      s.onlyRegs [.FLD_CMN_DENIED, .FLD_CMN_ERR_ADDR, .FLD_CMN_ERR_SOURCE, .FLD_CMN_ERR_STATUS, .FLD_CMN_FRESH_FILLS]
        s') ∧
  (∀ (tag : BitVec 10) (t : HostTag) (j : DmaJob) (s : State), s.host.tags.find? (fun x => x.tag == tag.toNat) = some
        t ∧ s.cto ≤ s.now - t.since ∧
  (s.dmaQ t.fn t.queue).job = some j ∧ j.code = none →
    ∃ s', exec (.hostCompletionTimeout tag) s = .next s' ∧
      ((s'.dmaQ t.fn t.queue).job = some { j with code := some 0x11 } ∧
  s'.host.tags = s.host.tags.filter (fun x => x.tag != t.tag)) ∧
      s' = { s with host := s'.host }) ∧
  (∀ (fn : FnId) (s : State), s.host.drain.contains fn.val = true →
    ∃ s', exec (.tagDrainExpire fn) s = .next s' ∧
      (s'.host.tags = s.host.tags.filter (fun t => t.fn != fn.val) ∧
  s'.host.quarantine = s.host.quarantine ++ (s.host.tags.filter (fun t => t.fn == fn.val)).map (fun t => (t.tag,
        s.now)) ∧
  (∀ t ∈ s.host.tags, t.fn = fn.val → ∀ j, (s.dmaQ t.fn t.queue).job = some j →
    (s'.dmaQ t.fn t.queue).job = some { j with code := some (j.code.getD 0x14) })) ∧
      s' = { s with host := s'.host })

/-- A field state command that R529 permits sets BUSY and its target, and a deeper state is entered at once; any
  other sets CMD_ERR; the transition ends with BUSY clear, the target state and MODE_DONE. A P-state command below 6
  sets TARGET; in service it starts a transition, upward with the rails raised first, and a command during a module
  transition is recorded. The clock switch makes CURRENT the target with every nominal; a transition ends when the
  clocks have switched and the rails have settled. -/
def Obligations.FieldAndPerformanceStates : Prop :=
  (∀ (f : FieldId) (s : State), ∃ s', exec (.fldTargetOn f) s = .next s' ∧
      (s'.getF RF.PWR_FLD_CTL_TARGET f.val 0 = 0 ∧
  (s.fieldCommand f.val 0 = true → s'.flag RF.PWR_FLD_STAT_BUSY f.val 0 = true ∧ s'.power.fldTarget.look 0 f.val = 1 ∧
    s'.fieldPower f.val = max (s.fieldPower f.val) 0) ∧
  (s.fieldCommand f.val 0 = false → s'.flag RF.PWR_FLD_STAT_CMD_ERR f.val 0 = true ∧
    s'.flag RF.PWR_EVENT_MODE_DONE 0 0 = true ∧ s'.fieldPower f.val = s.fieldPower f.val ∧ s'.power = s.power)) ∧
      s' = { s with regs := s'.regs, host := s'.host, power := s'.power, out := s'.out } ∧
      s.onlyRegs [.HBM_ID, .HST_PORT_EVENT, .HST_PORT_MSIX_DROP, .PWR_EVENT, .PWR_FLD_CTL, .PWR_FLD_STAT] s') ∧
  (∀ (f : FieldId) (s : State), ∃ s', exec (.fldTargetIdle f) s = .next s' ∧
      (s'.getF RF.PWR_FLD_CTL_TARGET f.val 0 = 1 ∧
  (s.fieldCommand f.val 1 = true → s'.flag RF.PWR_FLD_STAT_BUSY f.val 0 = true ∧ s'.power.fldTarget.look 0 f.val = 2 ∧
    s'.fieldPower f.val = max (s.fieldPower f.val) 1) ∧
  (s.fieldCommand f.val 1 = false → s'.flag RF.PWR_FLD_STAT_CMD_ERR f.val 0 = true ∧
    s'.flag RF.PWR_EVENT_MODE_DONE 0 0 = true ∧ s'.fieldPower f.val = s.fieldPower f.val ∧ s'.power = s.power)) ∧
      s' = { s with regs := s'.regs, host := s'.host, power := s'.power, out := s'.out } ∧
      s.onlyRegs [.HBM_ID, .HST_PORT_EVENT, .HST_PORT_MSIX_DROP, .PWR_EVENT, .PWR_FLD_CTL, .PWR_FLD_STAT] s') ∧
  (∀ (f : FieldId) (s : State), ∃ s', exec (.fldTargetRetain f) s = .next s' ∧
      (s'.getF RF.PWR_FLD_CTL_TARGET f.val 0 = 2 ∧
  (s.fieldCommand f.val 2 = true → s'.flag RF.PWR_FLD_STAT_BUSY f.val 0 = true ∧ s'.power.fldTarget.look 0 f.val = 3 ∧
    s'.fieldPower f.val = max (s.fieldPower f.val) 2) ∧
  (s.fieldCommand f.val 2 = false → s'.flag RF.PWR_FLD_STAT_CMD_ERR f.val 0 = true ∧
    s'.flag RF.PWR_EVENT_MODE_DONE 0 0 = true ∧ s'.fieldPower f.val = s.fieldPower f.val ∧ s'.power = s.power)) ∧
      s' = { s with regs := s'.regs, host := s'.host, power := s'.power, out := s'.out } ∧
      s.onlyRegs [.HBM_ID, .HST_PORT_EVENT, .HST_PORT_MSIX_DROP, .PWR_EVENT, .PWR_FLD_CTL, .PWR_FLD_STAT] s') ∧
  (∀ (f : FieldId) (s : State), ∃ s', exec (.fldTargetOff f) s = .next s' ∧
      (s'.getF RF.PWR_FLD_CTL_TARGET f.val 0 = 3 ∧
  (s.fieldCommand f.val 3 = true → s'.flag RF.PWR_FLD_STAT_BUSY f.val 0 = true ∧ s'.power.fldTarget.look 0 f.val = 4 ∧
    s'.fieldPower f.val = max (s.fieldPower f.val) 3) ∧
  (s.fieldCommand f.val 3 = false → s'.flag RF.PWR_FLD_STAT_CMD_ERR f.val 0 = true ∧
    s'.flag RF.PWR_EVENT_MODE_DONE 0 0 = true ∧ s'.fieldPower f.val = s.fieldPower f.val ∧ s'.power = s.power)) ∧
      s' = { s with regs := s'.regs, host := s'.host, power := s'.power, out := s'.out } ∧
      s.onlyRegs [.HBM_ID, .HST_PORT_EVENT, .HST_PORT_MSIX_DROP, .PWR_EVENT, .PWR_FLD_CTL, .PWR_FLD_STAT] s') ∧
  (∀ (f : FieldId) (n : Nat) (s : State), s.power.fldTarget.look 0 f.val = n + 1 ∧ n < 4 ∧ s.stopped f.val = false ∧
        s.halted = false ∧ s.commons.reqs = [] ∧
  (s.fieldPower f.val = 3 → n = 3) →
    ∃ s', exec (.fldTransitionDone f) s = .next s' ∧
      (s'.flag RF.PWR_FLD_STAT_BUSY f.val 0 = false ∧ s'.fieldPower f.val = n ∧ s'.power.fldTarget.look 0 f.val = 0 ∧
  s'.flag RF.PWR_EVENT_MODE_DONE 0 0 = true ∧ s'.mem = s.mem)) ∧
  (∀ (v : BitVec 3) (s : State), ∃ s', exec (.pstateWrite v) s = .next s' ∧
      ((5 < v.toNat → s' = s) ∧ (v.toNat ≤ 5 → s.boot.stage ≠ .off → s'.pTarget = v.toNat) ∧
  (v.toNat ≤ 5 → s.boot.stage = .ready → s.modState ≤ 1 → s.pBusy = false →
    s'.pBusy = decide (v.toNat ≠ s.pCurrent) ∧ s'.pCurrent = s.pCurrent ∧
    (v.toNat < s.pCurrent → ∀ f < 80, s'.getF RF.PWR_FLD_VOLT_NOMINAL f 0 = railOf v.toNat)) ∧
  (v.toNat ≤ 5 → s.boot.stage = .ready → 3 ≤ s.modState → s'.power.recorded = true) ∧
  (v.toNat ≤ 5 → s.boot.stage = .ready → s.modState = 2 → s'.pCurrent = v.toNat)) ∧
      s' = { s with regs := s'.regs, power := s'.power } ∧
      s.onlyRegs [.PWR_FLD_VOLT, .PWR_PSTATE] s') ∧
  (∀ (s : State), s.pBusy = true ∧ s.power.switched = false ∧ s.frozen = false ∧ s.halted = false ∧ s.power.waiting =
        [] →
    ∃ s', exec .pstateClockSwitch s = .next s' ∧
      (s'.pCurrent = s.pTarget ∧ s'.power.switched = true ∧ s'.flag RF.PWR_EVENT_PSTATE_DONE 0 0 = true ∧
  s'.pBusy = !s.power.settled ∧ (∀ f < 80, s'.getF RF.PWR_FLD_VOLT_NOMINAL f 0 = railOf s.pTarget))) ∧
  (∀ (s : State), (s.pBusy = true ∧ (s.power.switched = true ∨ s.pTarget < s.pCurrent) ∧ s.power.waiting = [] ∧
  (s.power.switched = true → s.pTarget = s.pCurrent)) →
    ∃ s', exec .pstateRailSettled s = .next s' ∧
      (s'.power.settled = true ∧ s'.pBusy = !s.power.switched ∧ s'.pCurrent = s.pCurrent))

/-- A module command writes TARGET; during a P-state transition it waits; else it records its source and starts a
  permitted transition: ACTIVE from drowsy or standby, DROWSY from active, which remembers the field states, or from
  standby, STANDBY from drowsy with no sheaf fetched, which sleeps with H0 not ready; otherwise CMD_ERR. OFF starts a
  save. The drain ends in drowsy, or fails after DRAIN_MS. A qualifying edge of an armed pin wakes. A transition's
  end shows the state and restores the fields. -/
def Obligations.ModuleStatesAndWake : Prop :=
  (∀ (src : Fin 3) (s : State), ∃ s', exec (.modTargetActive src) s = .next s' ∧
      (s'.getF RF.PWR_MOD_CTL_TARGET 0 0 = 0 ∧
  (s.pBusy = true → s'.power.waiting = s.power.waiting ++ [(0, src.val)] ∧ s'.modState = s.modState) ∧
  (s.pBusy = false → s'.getF RF.PWR_MOD_STAT_SOURCE 0 0 = src.val) ∧
  (s.modReady = true → s.modState = 1 ∨ s.modState = 2 → s.modGoes s' 4 0 = true) ∧
  (s.pBusy = false → s.modReady = false ∨ (s.modState ≠ 1 ∧ s.modState ≠ 2) → s.modRefused s' = true))) ∧
  (∀ (src : Fin 3) (s : State), ∃ s', exec (.modTargetDrowsy src) s = .next s' ∧
      (s'.getF RF.PWR_MOD_CTL_TARGET 0 0 = 1 ∧
  (s.pBusy = true → s'.power.waiting = s.power.waiting ++ [(1, src.val)] ∧ s'.modState = s.modState) ∧
  (s.pBusy = false → s'.getF RF.PWR_MOD_STAT_SOURCE 0 0 = src.val) ∧
  (s.modReady = true → s.modState = 0 → s.modGoes s' 3 1 = true ∧
    (∀ f < 80, s'.power.fldBefore.look 0 f = s.fieldPower f)) ∧
  (s.modReady = true → s.modState = 2 → s.modGoes s' 4 1 = true) ∧
  (s.pBusy = false → s.modReady = false ∨ (s.modState ≠ 0 ∧ s.modState ≠ 2) → s.modRefused s' = true))) ∧
  (∀ (src : Fin 3) (s : State), (s.modReady = true ∧ s.modState = 1 ∧ s.seq.sheaves = [] ∧ s.busyUnits = [] ∧
  (∀ k, k < 56 → s.linkState k = lsDown ∨ s.linkState k = lsPcie) ∧ s.flag RF.HBM_GRAN_CTL_LINK_UP 0 0 = false) →
    ∃ s', exec (.modTargetStandby src) s = .next s' ∧
      (s.modGoes s' 3 2 = true ∧ s'.power.asleep = true ∧ s'.host.ready = false ∧
  (∀ f < 80, s.inService f = true → s'.fieldPower f = 3) ∧ s'.mem = s.mem)) ∧
  (∀ (src : Fin 3) (s : State), (s.pBusy = false ∧ (s.modReady = false ∨ s.modState ≠ 1 ∨ s.seq.sheaves ≠ [])) →
    ∃ s', exec (.modTargetStandby src) s = .next s' ∧
      (s.modRefused s' = true)) ∧
  (∀ (src : Fin 3) (s : State), (s.pBusy = false ∧ s.boot.stage ≠ .off ∧ (2 < s.modState ∨ s.power.target.isSome =
        true)) →
    ∃ s', exec (.modTargetOff src) s = .next s' ∧
      (s.modRefused s' = true)) ∧
  (∀ (s : State), s.power.target = some 1 ∧ s.modState = 3 ∧ s.allIdle = true ∧ s.power.asleep = false ∧
        s.power.recorded = false →
    ∃ s', exec .drowsyDrainDone s = .next s' ∧
      (s'.modState = 1 ∧ s'.power.target = none ∧ s'.flag RF.PWR_EVENT_MODE_DONE 0 0 = true ∧
  (∀ f < 80, s.inService f = true → s.power.fldBefore.look 0 f < 4 → s'.fieldPower f = max 1 (s.power.fldBefore.look
        0 f)))) ∧
  (∀ (s : State), s.power.target = some 1 ∧ s.modState = 3 ∧ s.allIdle = false ∧
  max 1 (s.getF RF.PWR_MOD_CTL_DRAIN_MS 0 0) * 1000000 ≤ s.now - s.power.since →
    ∃ s', exec .drainMsExpire s = .next s' ∧
      (s'.modState = 0 ∧ s'.power.target = none ∧ s'.flag RF.PWR_MOD_STAT_CMD_ERR 0 0 = true ∧
  s'.flag RF.PWR_EVENT_MODE_DONE 0 0 = true) ∧
      s' = { s with regs := s'.regs, host := s'.host, power := s'.power, out := s'.out } ∧
      s.onlyRegs [.HST_PORT_EVENT, .HST_PORT_MSIX_DROP, .PWR_EVENT, .PWR_MOD_STAT] s') ∧
  (∀ (t : Nat) (s : State), (s.power.target = some t ∧ t < 3 ∧ s.frozen = false ∧ s.halted = false ∧ (t = 1 →
        s.modState ≠ 3) ∧
  (s.power.asleep = false ∨ t = 2) ∧ s.power.recorded = false ∧ s.commons.reqs = []) →
    ∃ s', exec .modTransitionDone s = .next s' ∧
      (s'.modState = t ∧ s'.power.target = none ∧ s'.power.asleep = decide (t = 2) ∧
  s'.flag RF.PWR_EVENT_MODE_DONE 0 0 = true ∧ (t = 0 → ∀ f < 80, s.inService f = true →
    s.power.fldBefore.look 0 f < 4 → s'.fieldPower f = s.power.fldBefore.look 0 f))) ∧
  (∀ (n : Fin 8) (rising : Bool) (t : Nat) (s : State), s.modState = 2 ∧ (s.getF RF.PWR_WAKE_ARM_MASK 0 0).testBit
        n.val = true ∧ s.edgeQualifies n.val rising = true ∧
  s.modReady = true ∧ s.getF RF.PWR_WAKE_ARM_TARGET 0 0 = t ∧ t ≤ 1 →
    ∃ s', exec (.wakeEdge n rising) s = .next s' ∧
      (s'.flag RF.PWR_EVENT_WAKE 0 0 = true ∧ s.modGoes s' 4 t = true ∧ s'.getF RF.PWR_MOD_STAT_SOURCE 0 0 = 3))

/-- At the end of an interval the estimate and its charges are entered: the total account grows by every charge and
  the wafer gate follows its cap. A calibration period counts with its measured input unless something disturbed it.
  A droop stretches the field's clocks and counts, its end adds the cycles, too many raise DROOP. A crossing raises
  THERM_WARN. A trip records its sensor and halts the wafer, and before the end of stage 3 is a wafer fault; RESUME
  ends the halt when cool, or sets CMD_ERR. -/
def Obligations.EnergyDroopAndHeat : Prop :=
  (∀ (acts : List Activity) (e : Nat) (s : State), s.frozen = false ∧ s.boot.stage = .ready ∧ s.power.asleep = false
        ∧ e = ((s.intervalCharges acts).map (·.energy)).sum →
    ∃ s', exec (.estimatorInterval acts) s = .next s' ∧
      (s'.getF RF.PWR_EST_LAST 0 0 = min 65535 (roundOpen s.serial 0 e 200000) ∧
  s'.power.accounts.look 0 acTotal = s.power.accounts.look 0 acTotal + e ∧
  s'.rd .PWR_ENERGY_TOTAL 0 0 = BitVec.ofNat 64 (s'.power.accounts.look 0 acTotal / 100000) ∧
  s'.getF RF.PWR_GATE_GATE 0 0 = (nextGate (s.getF RF.PWR_GATE_GATE 0 0)
    (s.flag RF.PWR_CAP_CTL_ENABLE 0 0 && decide (s.getF RF.PWR_CAP_WAFER_CAP 0 0 * 200000 < e))
    (!s.flag RF.PWR_CAP_CTL_ENABLE 0 0 || s.capBelow e (s.getF RF.PWR_CAP_WAFER_CAP 0 0))
    (!s.power.stretched.isEmpty)) % 2 ^ RF.PWR_GATE_GATE.w) ∧
      s' = { s with
          serial := s'.serial, regs := s'.regs, seq := s'.seq, host := s'.host, power := s'.power,
          out := s'.out } ∧
      s.onlyRegs [.HST_PORT_EVENT, .HST_PORT_MSIX_DROP, .PWR_ENERGY_OVERHEAD, .PWR_ENERGY_RECOVERY,
        .PWR_ENERGY_TOTAL, .PWR_EST, .PWR_EVENT, .PWR_FLD_ENERGY, .PWR_FLD_EST, .PWR_FLD_STAT, .PWR_GATE,
        .PWR_PARn_CAP, .PWR_PARn_ENERGY] s') ∧
  (∀ (watts : BitVec 16) (s : State), ∃ s', exec (.calibrationPeriod watts) s = .next s' ∧
      ((s.boot.stage = .ready → s.power.asleep = false → (s.power.calDirty || s.frozen || s.halted) = true →
    s'.power.calDirty = false ∧ s'.regs = s.regs) ∧
  (s.boot.stage = .ready → s.power.asleep = false → (s.power.calDirty || s.frozen || s.halted) = false →
    s'.flag RF.PWR_CAL_CALIBRATED 0 0 = true ∧ s'.getF RF.PWR_CAL_MEASURED 0 0 = watts.toNat ∧
    s'.getF RF.PWR_CAL_COUNT 0 0 = wrapAdd RF.PWR_CAL_COUNT.w (s.getF RF.PWR_CAL_COUNT 0 0) 1)) ∧
      s' = { s with
          serial := s'.serial, regs := s'.regs, host := s'.host, power := s'.power, out := s'.out } ∧
      s.onlyRegs [.HST_PORT_EVENT, .HST_PORT_MSIX_DROP, .PWR_CAL, .PWR_EVENT, .PWR_FLD_GAIN] s') ∧
  (∀ (f : FieldId) (s : State), s.inService f.val = true ∧ s.flag RF.PWR_FLD_STAT_STRETCHING f.val 0 = false →
    ∃ s', exec (.droopDetect f) s = .next s' ∧
      (s'.flag RF.PWR_FLD_STAT_STRETCHING f.val 0 = true ∧ s'.power.stretched.contains f.val = true ∧
  s'.getF RF.PWR_FLD_DROOP_COUNT f.val 0 =
    min (s.getF RF.PWR_FLD_DROOP_COUNT f.val 0 + 1) (2 ^ RF.PWR_FLD_DROOP_COUNT.w - 1)) ∧
      s' = { s with regs := s'.regs, power := s'.power } ∧
      s.onlyRegs [.PWR_FLD_DROOP, .PWR_FLD_STAT] s') ∧
  (∀ (f : FieldId) (cycles : Nat) (s : State), s.flag RF.PWR_FLD_STAT_STRETCHING f.val 0 = true →
    ∃ s', exec (.droopRelease f cycles) s = .next s' ∧
      (s'.flag RF.PWR_FLD_STAT_STRETCHING f.val 0 = false ∧ s'.getF RF.PWR_FLD_STRETCH_COUNT f.val 0 =
    wrapAdd RF.PWR_FLD_STRETCH_COUNT.w (s.getF RF.PWR_FLD_STRETCH_COUNT f.val 0) cycles) ∧
      s' = { s with regs := s'.regs } ∧
      s.onlyRegs [.PWR_FLD_STAT, .PWR_FLD_STRETCH] s') ∧
  (∀ (f : FieldId) (cycles : Nat) (s : State), ∃ s', exec (.droopWindowExpire f cycles) s = .next s' ∧
      ((s.getF RF.PWR_FLD_DROOP_THRESH_THRESH f.val 0 < cycles → s'.flag RF.PWR_EVENT_DROOP 0 0 = true) ∧
  (cycles ≤ s.getF RF.PWR_FLD_DROOP_THRESH_THRESH f.val 0 → s' = s)) ∧
      s' = { s with regs := s'.regs, host := s'.host, out := s'.out } ∧
      s.onlyRegs [.HST_PORT_EVENT, .HST_PORT_MSIX_DROP, .PWR_EVENT] s') ∧
  (∀ (f : FieldId) (celsius : BitVec 8) (s : State), ∃ s', exec (.thermWarnCross f celsius) s = .next s' ∧
      ((s.getF RF.PWR_THERM_CTL_WARN 0 0 ≤ celsius.toNat → s.boot.stage ≠ .off → s'.flag RF.PWR_EVENT_THERM_WARN 0 0
        = true) ∧
  (celsius.toNat < s.getF RF.PWR_THERM_CTL_WARN 0 0 ∨ s.boot.stage = .off → s' = s)) ∧
      s' = { s with regs := s'.regs, host := s'.host, out := s'.out } ∧
      s.onlyRegs [.HST_PORT_EVENT, .HST_PORT_MSIX_DROP, .PWR_EVENT] s') ∧
  (∀ (kind : Fin 3) (field : BitVec 7) (s : State), s.halted = false ∧ s.boot.stage = .ready →
    ∃ s', exec (.thermalTrip kind field) s = .next s' ∧
      (s'.halted = true ∧ s'.flag RF.PWR_THERM_CTL_TRIPPED 0 0 = true ∧
  s'.getF RF.PWR_THERM_CTL_SENSOR_FIELD 0 0 = field.toNat ∧ s'.getF RF.PWR_THERM_CTL_SENSOR_KIND 0 0 = kind.val ∧
  s'.flag RF.PWR_EVENT_THERM_TRIP 0 0 = true ∧ s'.power.haltedAt = s.now) ∧
      s' = { s with regs := s'.regs, boot := s'.boot, host := s'.host, power := s'.power, out := s'.out }) ∧
  (∀ (kind : Fin 3) (field : BitVec 7) (s : State), s.halted = false ∧ s.boot.stage = .hbm →
    ∃ s', exec (.thermalTrip kind field) s = .next s' ∧
      (s'.boot.stage = .halted ∧ s'.getF (bootF 0 4) 0 0 = 15 ∧ s'.flag (bootF 5 1) 0 0 = true ∧ s'.getF (bootF 6 4)
        0 0 = 3 ∧
  s'.flag RF.PWR_THERM_CTL_TRIPPED 0 0 = true) ∧
      s' = { s with regs := s'.regs, boot := s'.boot, host := s'.host, power := s'.power, out := s'.out }) ∧
  (∀ (cool : Bool) (s : State), s.halted = true ∧ s.seq.doorbells = [] ∧ s.resets.waiting = [] →
    ∃ s', exec (.thermResume cool) s = .next s' ∧
      ((cool = true → s'.halted = false ∧ s'.flag RF.PWR_THERM_CTL_TRIPPED 0 0 = false) ∧
  (cool = false → s'.halted = true ∧ s'.flag RF.PWR_MOD_STAT_CMD_ERR 0 0 = true ∧
    s'.flag RF.PWR_EVENT_MODE_DONE 0 0 = true)))

/-- An access that reaches memory reads its bytes into the answer or writes them, and one that fails answers its
  status. The end of a fill leaves the granule written and performs the write that started it; a fresh-map fault is
  recorded and counted, and the end of its zeroing leaves the 64 granules written. A tracked request of another wafer
  is applied once and its answer kept; a duplicate is counted and answered again, a stale one is dropped and counted,
  and at a retired field it is refused; a held one goes on from its filter. -/
def Obligations.CommonsAccessesAndFreshMemory : Prop :=
  (∀ (src : Source) (addr : BitVec 57) (kind : AccessKind) (tag : Nat) (n g region off : Nat) (s : State), kind =
        .read n ∧ s.reachesPlain src addr.toNat n false false g region off = true →
    ∃ s', exec (.commonsAccess src addr kind tag) s = .next s' ∧
      (s'.out = s.out ++ [if src.wafer.val = s.ownWafer then .accessReply .ok else
    .commonsReply src.wafer tag .ok (s.memRead g region off n)] ∧ s'.mem = s.mem ∧ s'.commons.reqs = s.commons.reqs))
        ∧
  (∀ (src : Source) (addr : BitVec 57) (kind : AccessKind) (tag : Nat) (d : List Byte) (bad : Bool) (g region off :
        Nat) (s : State), kind = .write d bad ∧ s.reachesPlain src addr.toNat d.length true false g region off = true
        →
    ∃ s', exec (.commonsAccess src addr kind tag) s = .next s' ∧
      (s'.mem = (s.memWrite g region off d bad).mem ∧
  s'.out = s.out ++ [if src.wafer.val = s.ownWafer then .accessReply .ok else .commonsReply src.wafer tag .ok []])) ∧
  (∀ (src : Source) (addr : BitVec 57) (kind : AccessKind) (tag : Nat) (st : AccStatus) (tgt : Option Nat) (s :
        State), s.locate src addr.toNat kind.size kind.writes kind.atomic = .fail st tgt ∧ s.commons.spreadDrain = []
        →
    ∃ s', exec (.commonsAccess src addr kind tag) s = .next s' ∧
      (s'.out.getLast? = some (if src.wafer.val = s.ownWafer then .accessReply st else
    .commonsReply src.wafer tag st (List.replicate kind.size 0#8)) ∧ s'.mem = s.mem ∧ s'.commons.reqs =
        s.commons.reqs)) ∧
  (∀ (f : FieldId) (g : BitVec 19) (x : Fill) (d : List Byte) (bad : Bool) (o : Nat) (s : State), s.commons.fills =
        [x] ∧ x.field = f.val ∧ x.granule = g.toNat ∧ x.waiting = [] ∧ s.stopped f.val = false ∧
  s.commons.reqs = [] ∧ x.opener.kind = .write d bad ∧ x.opener.sink = .none ∧ x.opener.reply = none ∧
  s.placeAnyway x.opener.addr = (f.val, 0, o) ∧ 0 < d.length ∧ o / 65536 = g.toNat ∧
  (o + d.length - 1) / 65536 = g.toNat ∧ s.zeroing f.val 0 o = false →
    ∃ s', exec (.freshFillDone f g) s = .next s' ∧
      (s'.commons.fills = [] ∧ s'.commons.reqs = [] ∧
  s'.mem = ({ s with mem := s.mem.fillGranule f.val g.toNat }.memWrite f.val 0 o d bad).mem ∧
  s'.getF RF.FLD_CMN_FRESH_FILLS_COUNT f.val 0 =
    wrapAdd RF.FLD_CMN_FRESH_FILLS_COUNT.w (s.getF RF.FLD_CMN_FRESH_FILLS_COUNT f.val 0) 1) ∧
      s' = { s with
          regs := s'.regs, mem := s'.mem, commons := s'.commons, crofters := s'.crofters, verne := s'.verne,
          host := s'.host, out := s'.out } ∧
      s.onlyRegs [.CRF_FAULT_HEAD, .CRF_FAULTk, .CRF_INST_COUNT, .FLD_CMN_DENIED, .FLD_CMN_ERR_ADDR,
        .FLD_CMN_ERR_SOURCE, .FLD_CMN_ERR_STATUS, .FLD_CMN_FRESH_FILLS, .FLD_CMN_FRESH_READS, .HST_FN_WIN_ERR,
        .HST_PORT_EVENT, .HST_PORT_MSIX_DROP] s') ∧
  (∀ (f : FieldId) (word : BitVec 13) (s : State), s.inService f.val = true ∧ s.stopped f.val = false →
    ∃ s', exec (.freshMapFault f word) s = .next s' ∧
      (s'.getF RF.FLD_CMN_FRESH_FAULT_WORD f.val 0 = word.toNat ∧ s'.flag RF.FLD_CMN_FRESH_FAULT_VALID f.val 0 = true
        ∧
  s'.getF RF.FLD_CMN_FRESH_FAULT_COUNT f.val 0 =
    min (s.getF RF.FLD_CMN_FRESH_FAULT_COUNT f.val 0 + 1) (2 ^ RF.FLD_CMN_FRESH_FAULT_COUNT.w - 1) ∧
  s'.commons.faulting.contains (f.val, word.toNat) = true) ∧
      s' = { s with regs := s'.regs, commons := s'.commons } ∧
      s.onlyRegs [.FLD_CMN_FRESH_FAULT] s') ∧
  (∀ (f : FieldId) (word : BitVec 13) (s : State), s.commons.faulting.contains (f.val, word.toNat) = true ∧ s.stopped
        f.val = false ∧ s.commons.reqs = [] →
    ∃ s', exec (.freshFaultZeroDone f word) s = .next s' ∧
      (s'.commons.faulting = s.commons.faulting.filter (· != (f.val, word.toNat)) ∧
  (∀ i < 64, s'.mem.fresh f.val 0 ((word.toNat * 64 + i) * 65536) = false) ∧ s'.regs = s.regs)) ∧
  (∀ (f : FieldId) (rack : BitVec 7) (src : Source) (txseq : BitVec 24) (tOrig : BitVec 32) (req : TrackedReq) (x :
        E2eHeld) (a : BitVec 57) (d : List Byte) (bad : Bool) (g region off : Nat) (s : State), x = ⟨f.val,
        rack.toNat, src, txseq.toNat, tOrig.toNat, req⟩ ∧ req = .write a d bad ∧ s.fieldMode f.val = 0 ∧
  (s.verne.filters.look [] x.key).find? (fun e => decide (e.srcField = x.source ∧ e.txseq = x.txseq)) = none ∧
  s.stale x = false ∧ s.fieldHolds f.val = false ∧ s.fieldsUp = true ∧ s.e2eFull x = false ∧
  s.reachesPlain src a.toNat d.length true false g region off = true →
    ∃ s', exec (.e2eTrackedRequest f rack src txseq tOrig req) s = .next s' ∧
      (s'.mem = (s.memWrite g region off d bad).mem ∧ s'.out = s.out ++ [.commonsReply src.wafer txseq.toNat .ok []] ∧
  (s'.verne.filters.look [] x.key).any (fun e => decide (e.srcField = x.source ∧ e.txseq = x.txseq ∧
    e.time = s.now ∧ e.answer = some ⟨.ok, false, []⟩)) = true)) ∧
  (∀ (f : FieldId) (rack : BitVec 7) (src : Source) (txseq : BitVec 24) (tOrig : BitVec 32) (req : TrackedReq) (x :
        E2eHeld) (e : E2eEntry) (a : BitVec 57) (d : List Byte) (bad : Bool) (s : State), x = ⟨f.val, rack.toNat,
        src, txseq.toNat, tOrig.toNat, req⟩ ∧ req = .write a d bad ∧ s.fieldMode f.val = 0 ∧
  (s.verne.filters.look [] x.key).find? (fun y => decide (y.srcField = x.source ∧ y.txseq = x.txseq)) = some e →
    ∃ s', exec (.e2eTrackedRequest f rack src txseq tOrig req) s = .next s' ∧
      (s'.getF RF.VRN_E2E_DUP_COUNT 0 0 =
    min (s.getF RF.VRN_E2E_DUP_COUNT 0 0 + 1) (2 ^ RF.VRN_E2E_DUP_COUNT.w - 1) ∧ s'.mem = s.mem ∧
  (∀ r, e.answer = some r → s'.out = s.out ++ [.commonsReply src.wafer txseq.toNat r.status r.data]) ∧
  (e.answer = none → s'.out = s.out))) ∧
  (∀ (f : FieldId) (rack : BitVec 7) (src : Source) (txseq : BitVec 24) (tOrig : BitVec 32) (req : TrackedReq) (x :
        E2eHeld) (a : BitVec 57) (d : List Byte) (bad : Bool) (s : State), x = ⟨f.val, rack.toNat, src, txseq.toNat,
        tOrig.toNat, req⟩ ∧ req = .write a d bad ∧ (s.fieldMode f.val ≠ 0 ∨
  ((s.verne.filters.look [] x.key).find? (fun y => decide (y.srcField = x.source ∧ y.txseq = x.txseq)) = none ∧
    s.stale x = true)) →
    ∃ s', exec (.e2eTrackedRequest f rack src txseq tOrig req) s = .next s' ∧
      (s'.mem = s.mem ∧ (s.fieldMode f.val = 1 →
    s'.out = s.out ++ [.commonsReply src.wafer txseq.toNat .fieldRetired []] ∧ s'.regs = s.regs) ∧
  (s.fieldMode f.val = 0 → s'.out = s.out ∧ s'.getF RF.VRN_E2E_STALE_COUNT 0 0 =
    min (s.getF RF.VRN_E2E_STALE_COUNT 0 0 + 1) (2 ^ RF.VRN_E2E_STALE_COUNT.w - 1)))) ∧
  (∀ (f : FieldId) (x : E2eHeld) (a : BitVec 57) (d : List Byte) (bad : Bool) (g region off : Nat) (s : State),
        s.verne.waiting.find? (fun y => decide (y.field = f.val)) = some x ∧ x.req = .write a d bad ∧ s.fieldHolds
        f.val = false ∧
  s.fieldsUp = true ∧ s.e2eFull x = false ∧ s.reachesPlain x.src a.toNat d.length true false g region off = true →
    ∃ s', exec (.e2eFilterRelease f) s = .next s' ∧
      (s'.mem = (s.memWrite g region off d bad).mem ∧
  s'.verne.waiting = s.verne.waiting.eraseP (fun y => decide (y.field = f.val)) ∧
  s'.out = s.out ++ [.commonsReply x.src.wafer x.txseq .ok []]))

/-- ENABLE is set when the table's checks hold and sets WRITE_ERR otherwise; disabling keeps BUSY until the open
  accesses have drained. A slot takes FIELD and VALID with LOST clear, or sets WRITE_ERR while enabled; a retired
  field's slot is marked LOST and the last mark makes the generation even. A window write starts a copy with
  WFR_SRO_GEN odd, and its end makes it even; an invalidation is busy until done. A rebuild loads the route and seam
  cost of every pair. A launch starts its next thread on the lowest free one. -/
def Obligations.SpreadTableAndRoutes : Prop :=
  (∀ (s : State), ∃ s', exec .spreadEnable s = .next s' ∧
      ((s.spreadOn = true → s' = s) ∧ (s.spreadOn = false → s.spreadOk = true → s'.spreadOn = true) ∧
  (s.spreadOn = false → s.spreadOk = false → s'.flag RF.WFR_SPREAD_CTL_WRITE_ERR 0 0 = true ∧ s'.spreadOn = false)) ∧
      s' = { s with regs := s'.regs } ∧
      s.onlyRegs [.WFR_SPREAD_CTL] s') ∧
  (∀ (s : State), s.spreadOn = true →
    ∃ s', exec .spreadDisable s = .next s' ∧
      (s'.spreadOn = false ∧ s'.flag RF.WFR_SPREAD_CTL_BUSY 0 0 = true ∧ s'.commons.spreadDrain = s.spreadOpen) ∧
      s' = { s with regs := s'.regs, commons := s'.commons } ∧
      s.onlyRegs [.WFR_SPREAD_CTL] s') ∧
  (∀ (s : State), s.flag RF.WFR_SPREAD_CTL_BUSY 0 0 = true ∧
  s.allReqs.any (fun r => s.commons.spreadDrain.contains r.id && r.reply.isNone) = false →
    ∃ s', exec .spreadDrained s = .next s' ∧
      (s'.flag RF.WFR_SPREAD_CTL_BUSY 0 0 = false ∧ s'.commons.spreadDrain = []) ∧
      s' = { s with regs := s'.regs, commons := s'.commons } ∧
      s.onlyRegs [.WFR_SPREAD_CTL] s') ∧
  (∀ (k : Fin 80) (entry : BitVec 16) (s : State), ∃ s', exec (.spreadSlotWrite k entry) s = .next s' ∧
      ((s.spreadOn = true → s'.flag RF.WFR_SPREAD_CTL_WRITE_ERR 0 0 = true ∧ (∀ j < 80, s'.slotEntry j = s.slotEntry
        j)) ∧
  (s.spreadOn = false → slotField (s'.slotEntry k.val) = slotField entry.toNat ∧
    slotValid (s'.slotEntry k.val) = slotValid entry.toNat ∧ slotLost (s'.slotEntry k.val) = false ∧
    (∀ j < 80, j ≠ k.val → s'.slotEntry j = s.slotEntry j))) ∧
      s' = { s with regs := s'.regs } ∧
      s.onlyRegs [.WFR_SPREAD_CTL, .WFR_SPREAD_SLOTk] s') ∧
  (∀ (f : FieldId) (k : Nat) (s : State), s.commons.spreadMarks.contains f.val = true ∧ s.frozen = false ∧ s.slotOf
        f.val = k ∧ k ≠ 0x7F →
    ∃ s', exec (.spreadMarkLost f) s = .next s' ∧
      (slotLost (s'.slotEntry k) = true ∧ slotField (s'.slotEntry k) = slotField (s.slotEntry k) ∧
  s'.commons.spreadMarks = s.commons.spreadMarks.filter (· != f.val) ∧
  s'.getF RF.WFR_SPREAD_GEN_GEN 0 0 = (if (s.commons.spreadMarks.filter (· != f.val)).isEmpty ∧
      s.getF RF.WFR_SPREAD_GEN_GEN 0 0 % 2 = 1 then
    wrapAdd RF.WFR_SPREAD_GEN_GEN.w (s.getF RF.WFR_SPREAD_GEN_GEN 0 0) 1 else s.getF RF.WFR_SPREAD_GEN_GEN 0 0)) ∧
      s' = { s with regs := s'.regs, commons := s'.commons } ∧
      s.onlyRegs [.WFR_SPREAD_GEN, .WFR_SPREAD_SLOTk] s') ∧
  (∀ (p : ParishId) (w : Fin 16) (limit : Bool) (v : Word) (s : State), s.commons.sroCopy.contains p.val = false →
    ∃ s', exec (.sroWindowWrite p w limit v) s = .next s' ∧
      (s'.commons.sroCopy.contains p.val = true ∧
  s'.getF RF.WFR_SRO_GEN_GEN p.val 0 = wrapAdd RF.WFR_SRO_GEN_GEN.w (s.getF RF.WFR_SRO_GEN_GEN p.val 0) 1 ∧
  (limit = true → s'.getF RF.WFR_SROw_LIMIT_LIMIT p.val w.val = bits v 16 41) ∧
  (limit = false → s'.getF RF.WFR_SROw_BASE_BASE p.val w.val = bits v 16 41 ∧
    s'.flag RF.WFR_SROw_BASE_ENABLE p.val w.val = bit v 0)) ∧
      s' = { s with regs := s'.regs, commons := s'.commons }) ∧
  (∀ (p : ParishId) (s : State), s.commons.sroCopy.contains p.val = true →
    ∃ s', exec (.sroCopyDone p) s = .next s' ∧
      (s'.commons.sroCopy = s.commons.sroCopy.filter (· != p.val) ∧
  s'.getF RF.WFR_SRO_GEN_GEN p.val 0 = wrapAdd RF.WFR_SRO_GEN_GEN.w (s.getF RF.WFR_SRO_GEN_GEN p.val 0) 1) ∧
      s' = { s with regs := s'.regs, commons := s'.commons } ∧
      s.onlyRegs [.WFR_SRO_GEN] s') ∧
  (∀ (f : FieldId) (s : State), s.inService f.val = true →
    ∃ s', exec (.sroInvStart f) s = .next s' ∧
      (s'.commons.sroInv.contains f.val = true ∧ s'.flag RF.CRF_SRO_INV_BUSY f.val 0 = true) ∧
      s' = { s with regs := s'.regs, commons := s'.commons } ∧
      s.onlyRegs [.CRF_SRO_INV] s') ∧
  (∀ (f : FieldId) (s : State), s.commons.sroInv.contains f.val = true →
    ∃ s', exec (.sroInvDone f) s = .next s' ∧
      (s'.commons.sroInv = s.commons.sroInv.filter (· != f.val) ∧ s'.flag RF.CRF_SRO_INV_BUSY f.val 0 = false) ∧
      s' = { s with regs := s'.regs, commons := s'.commons } ∧
      s.onlyRegs [.CRF_SRO_INV] s') ∧
  (∀ (s : State), s.commons.seamDirty = true ∧ s.frozen = false ∧ s.worstField = none ∧ s.commons.reqs = [] →
    ∃ s', exec .routeRebuild s = .next s' ∧
      (s'.commons.seamDirty = false ∧
  s'.getF RF.WFR_SEAM_GEN_GEN 0 0 = (if s.getF RF.WFR_SEAM_GEN_GEN 0 0 % 2 = 1 then
    wrapAdd RF.WFR_SEAM_GEN_GEN.w (s.getF RF.WFR_SEAM_GEN_GEN 0 0) 1 else s.getF RF.WFR_SEAM_GEN_GEN 0 0) ∧
  (∀ a b, a < 80 → b < 80 →
    s'.commons.routes.look [] (a * 80 + b) = ((s.findRoute a b).map (·.path)).getD [] ∧
    s'.commons.seamCost.look 0 (a * 80 + b) = s.costEntry a b))) ∧
  (∀ (f : FieldId) (l : Launch) (k : Nat) (s : State), s.fieldRuns f.val = true ∧ s.fieldPower f.val = 0 ∧
  s.crofters.launches.find? (fun y => decide (y.field = f.val) && decide (y.next < y.last)) = some l ∧
  s.freeSlot f.val = some k →
    ∃ s', exec (.threadStart f) s = .next s' ∧
      ((s'.thread f.val k).st = .ready ∧ (s'.thread f.val k).priv = .u ∧ (s'.thread f.val k).sheaf = some l.sheaf ∧
  (s'.thread f.val k).pc = BitVec.ofNat 64 (l.image + l.entry) ∧
  (s'.thread f.val k).xr 10 = BitVec.ofNat 64 l.next ∧ (s'.thread f.val k).xr 11 = BitVec.ofNat 64 l.total ∧
  (s'.thread f.val k).xr 12 = BitVec.ofNat 64 l.arg ∧ (s'.thread f.val k).xr 13 = BitVec.ofNat 64 k ∧
  (s'.thread f.val k).xr 2 = BitVec.ofNat 64 (s.getF RF.CRF_STACK_BASE_BASE f.val 0 * 4096 + (k + 1) * s.slotBytes
        f.val) ∧
  (s'.thread f.val k).xr 3 = BitVec.ofNat 64 (l.image + l.gp) ∧ (s'.thread f.val k).xr 5 = 0#64 ∧
  s.onlyThread f.val k s') ∧
      s' = { s with crofters := s'.crofters })

/-- A command taken by the Reeve is answered with its result. GET_NONCE issues a nonce when entropy is ready. A bind
  or release that is permitted and has fields to clear starts a scrub that holds them; else it reports its refusal; a
  source without permission gets DENIED and a busy mailbox REJECTED. A signed command uses up its nonce, then its
  state, nonce and signature decide: a grant, a staged image, a lifecycle state, debug unlock, return to service.
  Activation confirms or selects the staged slot. -/
def Obligations.ReeveCommandsAnswer : Prop :=
  (∀ (src : MbxSource) (s : State), s.mbxTakes src 0x01 [.pf, .smbus, .tap] = true →
    ∃ s', exec (.reeveGetStatus src) s = .next s' ∧
      (s.mbxAnswered src mbxOk s' = true) ∧
      s' = { s with
          serial := s'.serial, regs := s'.regs, host := s'.host, reeve := s'.reeve, out := s'.out } ∧
      s.onlyRegs [.HST_PORT_EVENT, .HST_PORT_MSIX_DROP, .RVE_MBX_EVENT, .RVE_MBX_STAT] s') ∧
  (∀ (src : MbxSource) (s : State), s.mbxTakes src 0x02 [.pf, .smbus, .tap] = true →
    ∃ s', exec (.reeveGetNonce src) s = .next s' ∧
      ((s.entropyReady = true → s.mbxAnswered src mbxOk s' = true ∧
    (∃ n, s'.reeve.nonces = s.reeve.nonces ++ [(src, n, s.now)])) ∧
  (s.entropyReady = false → s.mbxAnswered src mbxEntropy s' = true ∧ s'.reeve.nonces = s.reeve.nonces)) ∧
      s' = { s with
          serial := s'.serial, regs := s'.regs, host := s'.host, reeve := s'.reeve, out := s'.out } ∧
      s.onlyRegs [.HST_PORT_EVENT, .HST_PORT_MSIX_DROP, .RVE_MBX_EVENT, .RVE_MBX_STAT] s') ∧
  (∀ (src : MbxSource) (s : State), src = .pf ∧ s.boot.stage ≠ .off ∧ s.flag RF.RVE_MBX_STAT_BUSY 0 0 = true ∧
        s.reeve.posted ≠ some 0x02 →
    ∃ s', exec (.reeveGetNonce src) s = .next s' ∧
      (s'.flag RF.RVE_MBX_EVENT_REJECTED 0 0 = true ∧ s'.reeve = s.reeve) ∧
      s' = { s with
          serial := s'.serial, regs := s'.regs, host := s'.host, reeve := s'.reeve, out := s'.out } ∧
      s.onlyRegs [.HST_PORT_EVENT, .HST_PORT_MSIX_DROP, .RVE_MBX_EVENT, .RVE_MBX_STAT] s') ∧
  (∀ (src : MbxSource) (p : ParishId) (tag : Word) (epoch : BitVec 32) (physical : Bool) (digest : Option (List
        Byte)) (l : List Nat) (s : State), (s.mbxTakes src 0x10 [.pf] = true ∧ (digest = none ∨ digest.map (·.length)
        = some 48) ∧ s.bindRefusal p.val = mbxOk ∧
  s.flag RF.RVE_LIFECYCLE_DEBUG_UNLOCKED 0 0 = false ∧ s.entropyReady = true ∧
  s.binding p.val ≠ some (tag.toNat, epoch.toNat) ∧ (s.flag RF.RVE_PARp_BIND_BOUND 0 p.val = true →
    epochNewer (s.getF RF.RVE_PARp_BIND_KEY_EPOCH 0 p.val) epoch.toNat = true) ∧
  s.getF RF.WFR_SPREAD_CTL_OWNER 0 0 ≠ p.val ∧ l = (s.parishFields p.val).filter (fun f => decide (s.owner f ≠ none))
        ∧ l ≠ []) →
    ∃ s', exec (.tenantBind src p tag epoch physical digest) s = .next s' ∧
      (s'.reeve.scrubs = s.reeve.scrubs ++ [⟨p.val, false, true, tag.toNat, epoch.toNat, physical, digest,
    l.map (fun f => s.scrubField p.val f true)⟩] ∧
  (s'.getF RF.RVE_SCRUB_IN_PROGRESS 0 0).testBit p.val = true ∧ (∀ f ∈ l, s'.scrubbing f = true) ∧
  s'.host.drain.contains (p.val + 1) = true ∧ s'.flag RF.RVE_PARp_BIND_ASSAY_GRANTED 0 p.val = false ∧
  s'.flag RF.RVE_MBX_STAT_BUSY 0 0 = true) ∧
      s' = { s with
          serial := s'.serial, regs := s'.regs, mem := s'.mem, commons := s'.commons,
          crofters := s'.crofters, verne := s'.verne, host := s'.host, reeve := s'.reeve, out := s'.out } ∧
      s.onlyRegs [.CRF_FAULT_HEAD, .CRF_FAULTk, .CRF_INST_COUNT, .FLD_CMN_DENIED, .FLD_CMN_ERR_ADDR,
        .FLD_CMN_ERR_SOURCE, .FLD_CMN_ERR_STATUS, .FLD_CMN_FRESH_FILLS, .FLD_CMN_FRESH_READS, .HBM_GRAN_CTL,
        .HST_FN_WIN_ERR, .HST_PORT_EVENT, .HST_PORT_MSIX_DROP, .RVE_FLDf_OWNER, .RVE_MBX_EVENT, .RVE_MBX_STAT,
        .RVE_PARp_BIND, .RVE_PARp_TAG, .RVE_SCRUB] s') ∧
  (∀ (src : MbxSource) (p : ParishId) (tag : Word) (epoch : BitVec 32) (physical : Bool) (digest : Option (List
        Byte)) (s : State), (s.mbxTakes src 0x10 [.pf] = true ∧ (digest = none ∨ digest.map (·.length) = some 48) ∧
        s.bindRefusal p.val ≠ mbxOk) →
    ∃ s', exec (.tenantBind src p tag epoch physical digest) s = .next s' ∧
      (s.mbxAnswered src (s.bindRefusal p.val) s' = true ∧ s'.reeve.scrubs = s.reeve.scrubs) ∧
      s' = { s with
          serial := s'.serial, regs := s'.regs, mem := s'.mem, commons := s'.commons,
          crofters := s'.crofters, verne := s'.verne, host := s'.host, reeve := s'.reeve, out := s'.out } ∧
      s.onlyRegs [.CRF_FAULT_HEAD, .CRF_FAULTk, .CRF_INST_COUNT, .FLD_CMN_DENIED, .FLD_CMN_ERR_ADDR,
        .FLD_CMN_ERR_SOURCE, .FLD_CMN_ERR_STATUS, .FLD_CMN_FRESH_FILLS, .FLD_CMN_FRESH_READS, .HBM_GRAN_CTL,
        .HST_FN_WIN_ERR, .HST_PORT_EVENT, .HST_PORT_MSIX_DROP, .RVE_FLDf_OWNER, .RVE_MBX_EVENT, .RVE_MBX_STAT,
        .RVE_PARp_BIND, .RVE_PARp_TAG, .RVE_SCRUB] s') ∧
  (∀ (src : MbxSource) (p : ParishId) (tag : Word) (epoch : BitVec 32) (physical : Bool) (digest : Option (List
        Byte)) (s : State), src ≠ .pf ∧ s.boot.stage ≠ .off ∧ s.beforeReeve = false →
    ∃ s', exec (.tenantBind src p tag epoch physical digest) s = .next s' ∧
      (s.mbxAnswered src mbxDenied s' = true ∧ s'.reeve = s.reeve ∧ s'.regs = s.regs) ∧
      s' = { s with
          serial := s'.serial, regs := s'.regs, mem := s'.mem, commons := s'.commons,
          crofters := s'.crofters, verne := s'.verne, host := s'.host, reeve := s'.reeve, out := s'.out } ∧
      s.onlyRegs [.CRF_FAULT_HEAD, .CRF_FAULTk, .CRF_INST_COUNT, .FLD_CMN_DENIED, .FLD_CMN_ERR_ADDR,
        .FLD_CMN_ERR_SOURCE, .FLD_CMN_ERR_STATUS, .FLD_CMN_FRESH_FILLS, .FLD_CMN_FRESH_READS, .HBM_GRAN_CTL,
        .HST_FN_WIN_ERR, .HST_PORT_EVENT, .HST_PORT_MSIX_DROP, .RVE_FLDf_OWNER, .RVE_MBX_EVENT, .RVE_MBX_STAT,
        .RVE_PARp_BIND, .RVE_PARp_TAG, .RVE_SCRUB] s') ∧
  (∀ (src : MbxSource) (p : ParishId) (physical : Bool) (l : List Nat) (s : State), s.mbxTakes src 0x11 [.pf] = true
        ∧ s.bindRefusal p.val = mbxOk ∧
  l = (s.parishFields p.val).filter (fun f => decide (s.owner f ≠ none) && decide (s.owner f = s.binding p.val)) ∧ l
        ≠ [] →
    ∃ s', exec (.tenantRelease src p physical) s = .next s' ∧
      (s'.reeve.scrubs = s.reeve.scrubs ++ [⟨p.val, true, false, 0, 0, physical, none,
    l.map (fun f => s.scrubField p.val f true)⟩] ∧
  (s'.getF RF.RVE_SCRUB_IN_PROGRESS 0 0).testBit p.val = true ∧ (∀ f ∈ l, s'.scrubbing f = true) ∧
  s'.host.drain.contains (p.val + 1) = true) ∧
      s' = { s with
          serial := s'.serial, regs := s'.regs, mem := s'.mem, commons := s'.commons,
          crofters := s'.crofters, verne := s'.verne, host := s'.host, reeve := s'.reeve, out := s'.out } ∧
      s.onlyRegs [.CRF_FAULT_HEAD, .CRF_FAULTk, .CRF_INST_COUNT, .FLD_CMN_DENIED, .FLD_CMN_ERR_ADDR,
        .FLD_CMN_ERR_SOURCE, .FLD_CMN_ERR_STATUS, .FLD_CMN_FRESH_FILLS, .FLD_CMN_FRESH_READS, .HBM_GRAN_CTL,
        .HST_FN_WIN_ERR, .HST_PORT_EVENT, .HST_PORT_MSIX_DROP, .RVE_FLDf_OWNER, .RVE_MBX_EVENT, .RVE_MBX_STAT,
        .RVE_PARp_BIND, .RVE_PARp_TAG, .RVE_SCRUB] s') ∧
  (∀ (src : MbxSource) (p : ParishId) (physical : Bool) (s : State), s.mbxTakes src 0x11 [.pf] = true ∧ s.bindRefusal
        p.val ≠ mbxOk →
    ∃ s', exec (.tenantRelease src p physical) s = .next s' ∧
      (s.mbxAnswered src (s.bindRefusal p.val) s' = true ∧ s'.reeve.scrubs = s.reeve.scrubs) ∧
      s' = { s with
          serial := s'.serial, regs := s'.regs, mem := s'.mem, commons := s'.commons,
          crofters := s'.crofters, verne := s'.verne, host := s'.host, reeve := s'.reeve, out := s'.out } ∧
      s.onlyRegs [.CRF_FAULT_HEAD, .CRF_FAULTk, .CRF_INST_COUNT, .FLD_CMN_DENIED, .FLD_CMN_ERR_ADDR,
        .FLD_CMN_ERR_SOURCE, .FLD_CMN_ERR_STATUS, .FLD_CMN_FRESH_FILLS, .FLD_CMN_FRESH_READS, .HBM_GRAN_CTL,
        .HST_FN_WIN_ERR, .HST_PORT_EVENT, .HST_PORT_MSIX_DROP, .RVE_FLDf_OWNER, .RVE_MBX_EVENT, .RVE_MBX_STAT,
        .RVE_PARp_BIND, .RVE_PARp_TAG, .RVE_SCRUB] s') ∧
  (∀ (src : MbxSource) (p : ParishId) (sg : Signed) (ok : Bool) (s : State), s.mbxTakes src 0x12 [.pf] = true ∧ ok =
        (s.flag RF.RVE_PARp_BIND_TENANT_KEY 0 p.val && s.flag RF.RVE_PARp_BIND_BOUND 0 p.val &&
  decide (s.lifecycle = lcDeployed)) →
    ∃ s', exec (.assayGrant src p sg) s = .next s' ∧
      (s'.reeve.nonces = s.noncesLeft src sg ∧ (ok = false → s.mbxAnswered src mbxState s' = true) ∧
  (ok = true → s.mbxAnswered src (s.checkSigned src sg).1 s' = true) ∧
  s'.flag RF.RVE_PARp_BIND_ASSAY_GRANTED 0 p.val = (s.flag RF.RVE_PARp_BIND_ASSAY_GRANTED 0 p.val ||
    (ok && decide ((s.checkSigned src sg).1 = mbxOk)))) ∧
      s' = { s with regs := s'.regs, host := s'.host, reeve := s'.reeve, out := s'.out } ∧
      s.onlyRegs [.HST_PORT_EVENT, .HST_PORT_MSIX_DROP, .RVE_MBX_EVENT, .RVE_MBX_STAT, .RVE_PARp_BIND] s') ∧
  (∀ (src : MbxSource) (p : ParishId) (s : State), s.mbxTakes src 0x13 [.pf] = true →
    ∃ s', exec (.assayRevoke src p) s = .next s' ∧
      (s'.flag RF.RVE_PARp_BIND_ASSAY_GRANTED 0 p.val = false ∧ s.mbxAnswered src mbxOk s' = true) ∧
      s' = { s with regs := s'.regs, host := s'.host, reeve := s'.reeve, out := s'.out } ∧
      s.onlyRegs [.HST_PORT_EVENT, .HST_PORT_MSIX_DROP, .RVE_MBX_EVENT, .RVE_MBX_STAT, .RVE_PARp_BIND] s') ∧
  (∀ (src : MbxSource) (cls : Fin 5) (version : BitVec 5) (imageOk : Bool) (sg : Signed) (r : Nat) (s : State),
        s.mbxTakes src 0x20 [.pf, .smbus] = true ∧ r = (if s.lifecycle = lcBlank then mbxState else if (s.checkSigned
        src sg).1 ≠ mbxOk then
  (s.checkSigned src sg).1 else if imageOk = false then mbxSignature else
  if version.toNat < s.reeve.fuses.getD cls.val 0 then mbxRollback else mbxOk) →
    ∃ s', exec (.fwStage src cls version imageOk sg) s = .next s' ∧
      (s.mbxAnswered src r s' = true ∧ s'.reeve.nonces = s.noncesLeft src sg ∧
  (r = mbxOk → s'.flag RF.RVE_IMAGES_STAGED 0 0 = true ∧ s'.reeve.slots = s.reeve.slots.set s.idleSlot
    ((s.reeve.slots.getD s.idleSlot []).set cls.val version.toNat)) ∧ (r ≠ mbxOk → s'.reeve.slots = s.reeve.slots)) ∧
      s' = { s with regs := s'.regs, host := s'.host, reeve := s'.reeve, out := s'.out } ∧
      s.onlyRegs [.HST_PORT_EVENT, .HST_PORT_MSIX_DROP, .RVE_IMAGES, .RVE_MBX_EVENT, .RVE_MBX_STAT] s') ∧
  (∀ (src : MbxSource) (s : State), s.mbxTakes src 0x21 [.pf, .smbus] = true →
    ∃ s', exec (.fwActivate src) s = .next s' ∧
      ((s.flag RF.RVE_IMAGES_CONFIRM 0 0 = true → s'.flag RF.RVE_IMAGES_CONFIRM 0 0 = false ∧ s.mbxAnswered src mbxOk
        s' = true ∧
    s'.reeve.fuses = (List.range 5).map (fun c => max (s.reeve.fuses.getD c 0)
      ((s.reeve.slots.getD (s.getF RF.RVE_IMAGES_BOOTED 0 0) []).getD c 0))) ∧
  (s.flag RF.RVE_IMAGES_CONFIRM 0 0 = false → s.flag RF.RVE_IMAGES_STAGED 0 0 = true →
    s'.reeve.activated = true ∧ s'.reeve.fuses = s.reeve.fuses ∧ s.mbxAnswered src mbxOk s' = true) ∧
  (s.flag RF.RVE_IMAGES_CONFIRM 0 0 = false → s.flag RF.RVE_IMAGES_STAGED 0 0 = false →
    s.mbxAnswered src mbxState s' = true ∧ s'.reeve.activated = s.reeve.activated)) ∧
      s' = { s with regs := s'.regs, host := s'.host, reeve := s'.reeve, out := s'.out } ∧
      s.onlyRegs [.HST_PORT_EVENT, .HST_PORT_MSIX_DROP, .RVE_IMAGES, .RVE_MBX_EVENT, .RVE_MBX_STAT] s') ∧
  (∀ (src : MbxSource) (target : Fin 6) (who : Signer) (ownerKey : List Byte) (sg : Signed) (s : State), (s.mbxTakes
        src 0x30 [.pf, .smbus, .tap] = true ∧ (target.val = lcManufacture ∨ target.val = lcProvisioned ∨ target.val =
        lcDeployed) ∧
  (target.val = lcProvisioned → ownerKey.length = 48) ∧ s.bistBusy = false ∧
  transition s.lifecycle target.val who = (true, true) ∧
  (s.lifecycle = lcReturn → s.getF RF.RVE_LIFECYCLE_REFURB 0 0 ≠ 3) ∧ (s.checkSigned src sg).1 = mbxOk) →
    ∃ s', exec (.lifecycle src target who ownerKey sg) s = .next s' ∧
      (s'.lifecycle = target.val ∧ s.mbxAnswered src mbxOk s' = true ∧ s'.reeve.nonces = s.noncesLeft src sg ∧
  (target.val = lcProvisioned → s'.reeve.ownerKey = ownerKey) ∧
  (target.val = lcProvisioned → s.lifecycle = lcReturn → s'.getF RF.RVE_LIFECYCLE_REFURB 0 0 =
    (s.getF RF.RVE_LIFECYCLE_REFURB 0 0 + 1) % 2 ^ RF.RVE_LIFECYCLE_REFURB.w))) ∧
  (∀ (src : MbxSource) (target : Fin 6) (who : Signer) (ownerKey : List Byte) (sg : Signed) (s : State), s.mbxTakes
        src 0x30 [.pf, .smbus, .tap] = true ∧ target.val = lcScrapped ∧ s.bistBusy = false ∧ s.lifecycle ≠ lcScrapped
        ∧ (s.checkSigned src sg).1 = mbxOk ∧
  (∀ p, p < 32 → s.flag RF.WFR_PAR_CTL_ENABLE p 0 = false) →
    ∃ s', exec (.lifecycle src target who ownerKey sg) s = .next s' ∧
      (s'.lifecycle = lcScrapped ∧ s'.boot.stage = .halted ∧ s'.reeve.ownerKey = [] ∧ s'.reeve.tenantKeys = [] ∧
  s'.reeve.nonces = [] ∧ (∀ p < 32, s'.rd .RVE_PARp_BIND 0 p = 0#64 ∧ s'.rd .RVE_PARp_TAG 0 p = 0#64) ∧
  (∀ f < 80, s'.fieldPower f = 3) ∧ s.mbxAnswered src mbxOk s' = true)) ∧
  (∀ (src : MbxSource) (target : Fin 6) (who : Signer) (ownerKey : List Byte) (sg : Signed) (s : State), s.mbxTakes
        src 0x30 [.pf, .smbus, .tap] = true ∧ (target.val = lcProvisioned → ownerKey.length = 48) ∧ (transition
        s.lifecycle target.val who).1 = false →
    ∃ s', exec (.lifecycle src target who ownerKey sg) s = .next s' ∧
      (s.mbxAnswered src mbxState s' = true ∧ s'.lifecycle = s.lifecycle)) ∧
  (∀ (src : MbxSource) (sg : Signed) (r : Nat) (s : State), s.mbxTakes src 0x31 [.pf, .tap] = true ∧ r = (if
        s.bistBusy || decide (s.lifecycle = lcBlank) then mbxState else
  if s.lifecycle ≠ lcDeployed then mbxOk else
  if (List.range 32).any (fun p => s.flag RF.RVE_PARp_BIND_BOUND 0 p) then mbxState else (s.checkSigned src sg).1) →
    ∃ s', exec (.debugUnlock src sg) s = .next s' ∧
      (s.mbxAnswered src r s' = true ∧ s'.reeve.nonces = s.noncesLeft src sg ∧
  s'.flag RF.RVE_LIFECYCLE_DEBUG_UNLOCKED 0 0 = (s.flag RF.RVE_LIFECYCLE_DEBUG_UNLOCKED 0 0 ||
    (decide (r = mbxOk) && decide (s.lifecycle = lcDeployed)))) ∧
      s' = { s with regs := s'.regs, host := s'.host, reeve := s'.reeve, out := s'.out } ∧
      s.onlyRegs [.HST_PORT_EVENT, .HST_PORT_MSIX_DROP, .RVE_LIFECYCLE, .RVE_MBX_EVENT, .RVE_MBX_STAT] s') ∧
  (∀ (src : MbxSource) (sg : Signed) (s : State), s.mbxTakes src 0x32 [.pf, .smbus] = true →
    ∃ s', exec (.returnToService src sg) s = .next s' ∧
      (s.mbxAnswered src (s.checkSigned src sg).1 s' = true ∧ s'.reeve.nonces = s.noncesLeft src sg ∧
  s'.reeve.returnPending = (s.reeve.returnPending || decide ((s.checkSigned src sg).1 = mbxOk))) ∧
      s' = { s with regs := s'.regs, host := s'.host, reeve := s'.reeve, out := s'.out } ∧
      s.onlyRegs [.HST_PORT_EVENT, .HST_PORT_MSIX_DROP, .RVE_MBX_EVENT, .RVE_MBX_STAT] s')

/-- Each SPDM request is answered with its response: version 1.2, the capabilities, what of the offered algorithms is
  supported, the slots with a chain, a certificate or a challenge of such a slot or an error, and the measurements
  with the nonce. Start-up seeds the DRBG and loads the keys of bound parishes; a failed health test counts and
  reruns, the third failed rerun leaving FAULT; a reseed falls due; nonces expire. A field clear zeroes SRAM and
  starts the scrub; a watchdog restart reruns every scrub from its clear. -/
def Obligations.AttestationEntropyAndClear : Prop :=
  (∀ (src : MbxSource) (s : State), s.mbxTakes src 0x40 [.pf, .smbus] = true →
    ∃ s', exec (.spdmGetVersion src) s = .next s' ∧
      (s.spdmAnswered src 0x04 [0x12] s' = true) ∧
      s' = { s with
          serial := s'.serial, regs := s'.regs, host := s'.host, reeve := s'.reeve, out := s'.out } ∧
      s.onlyRegs [.HST_PORT_EVENT, .HST_PORT_MSIX_DROP, .RVE_MBX_EVENT, .RVE_MBX_STAT] s') ∧
  (∀ (src : MbxSource) (s : State), s.mbxTakes src 0x40 [.pf, .smbus] = true →
    ∃ s', exec (.spdmGetCapabilities src) s = .next s' ∧
      (s.spdmAnswered src 0x61 [0x16] s' = true) ∧
      s' = { s with
          serial := s'.serial, regs := s'.regs, host := s'.host, reeve := s'.reeve, out := s'.out } ∧
      s.onlyRegs [.HST_PORT_EVENT, .HST_PORT_MSIX_DROP, .RVE_MBX_EVENT, .RVE_MBX_STAT] s') ∧
  (∀ (src : MbxSource) (asym : BitVec 32) (hash : BitVec 32) (s : State), s.mbxTakes src 0x40 [.pf, .smbus] = true →
    ∃ s', exec (.spdmNegotiateAlgorithms src asym hash) s = .next s' ∧
      (s.spdmAnswered src 0x63 [asym.toNat &&& 0x80, hash.toNat &&& 0x02] s' = true) ∧
      s' = { s with
          serial := s'.serial, regs := s'.regs, host := s'.host, reeve := s'.reeve, out := s'.out } ∧
      s.onlyRegs [.HST_PORT_EVENT, .HST_PORT_MSIX_DROP, .RVE_MBX_EVENT, .RVE_MBX_STAT] s') ∧
  (∀ (src : MbxSource) (s : State), s.mbxTakes src 0x40 [.pf, .smbus] = true →
    ∃ s', exec (.spdmGetDigests src) s = .next s' ∧
      (s.spdmAnswered src 0x01 [s.certSlots] s' = true) ∧
      s' = { s with
          serial := s'.serial, regs := s'.regs, host := s'.host, reeve := s'.reeve, out := s'.out } ∧
      s.onlyRegs [.HST_PORT_EVENT, .HST_PORT_MSIX_DROP, .RVE_MBX_EVENT, .RVE_MBX_STAT] s') ∧
  (∀ (src : MbxSource) (slot : Fin 8) (offset : BitVec 16) (length : BitVec 16) (s : State), s.mbxTakes src 0x40
        [.pf, .smbus] = true →
    ∃ s', exec (.spdmGetCertificate src slot offset length) s = .next s' ∧
      ((s.certSlots.testBit slot.val = true → s.spdmAnswered src 0x02 [slot.val, offset.toNat, length.toNat] s' =
        true) ∧
  (s.certSlots.testBit slot.val = false → s.spdmAnswered src 0x7F [0x01] s' = true)) ∧
      s' = { s with
          serial := s'.serial, regs := s'.regs, host := s'.host, reeve := s'.reeve, out := s'.out } ∧
      s.onlyRegs [.HST_PORT_EVENT, .HST_PORT_MSIX_DROP, .RVE_MBX_EVENT, .RVE_MBX_STAT] s') ∧
  (∀ (src : MbxSource) (slot : Fin 8) (nonce : BitVec 256) (s : State), s.mbxTakes src 0x40 [.pf, .smbus] = true →
    ∃ s', exec (.spdmChallenge src slot nonce) s = .next s' ∧
      ((s.certSlots.testBit slot.val = true → s.spdmAnswered src 0x03 [slot.val, nonce.toNat] s' = true) ∧
  (s.certSlots.testBit slot.val = false → s.spdmAnswered src 0x7F [0x01] s' = true)) ∧
      s' = { s with
          serial := s'.serial, regs := s'.regs, host := s'.host, reeve := s'.reeve, out := s'.out } ∧
      s.onlyRegs [.HST_PORT_EVENT, .HST_PORT_MSIX_DROP, .RVE_MBX_EVENT, .RVE_MBX_STAT] s') ∧
  (∀ (src : MbxSource) (index : BitVec 8) (nonce : BitVec 256) (s : State), s.mbxTakes src 0x40 [.pf, .smbus] = true →
    ∃ s', exec (.spdmGetMeasurements src index nonce) s = .next s' ∧
      (s.spdmAnswered src 0x60 (nonce.toNat :: s.measurement7 :: s.measured index.toNat) s' = true) ∧
      s' = { s with
          serial := s'.serial, regs := s'.regs, host := s'.host, reeve := s'.reeve, out := s'.out } ∧
      s.onlyRegs [.HST_PORT_EVENT, .HST_PORT_MSIX_DROP, .RVE_MBX_EVENT, .RVE_MBX_STAT] s') ∧
  (∀ (st : Nat) (s : State), (s.boot.stage ≠ .off ∧ s.boot.stage ≠ .hearth ∧ st = s.getF RF.RVE_RNG_STAT_STATE 0 0 ∧
        (st = 0 ∨ st = 2)) →
    ∃ s', exec .entropyStartupDone s = .next s' ∧
      (s'.entropyReady = true ∧ s'.reeve.seededAt = s.now ∧ (st = 0 → s'.flag (bootF 10 1) 0 0 = false) ∧
  (∀ p < 32, s.flag RF.RVE_PARp_BIND_BOUND 0 p = true → s'.flag RF.RVE_PARp_BIND_KEY_LOADED 0 p = true) ∧
  (∀ p < 32, s.flag RF.RVE_PARp_BIND_BOUND 0 p = false →
    s'.flag RF.RVE_PARp_BIND_KEY_LOADED 0 p = s.flag RF.RVE_PARp_BIND_KEY_LOADED 0 p)) ∧
      s' = { s with serial := s'.serial, regs := s'.regs, reeve := s'.reeve }) ∧
  (∀ (st n : Nat) (s : State), s.boot.stage ≠ .off ∧ s.boot.stage ≠ .hearth ∧ st = s.getF RF.RVE_RNG_STAT_STATE 0 0 ∧
        n = s.getF RF.RVE_RNG_STAT_RERUNS 0 0 →
    ∃ s', exec .entropyHealthFail s = .next s' ∧
      (s'.getF RF.RVE_RNG_STAT_FAILURES 0 0 =
    min (s.getF RF.RVE_RNG_STAT_FAILURES 0 0 + 1) (2 ^ RF.RVE_RNG_STAT_FAILURES.w - 1) ∧
  (st = 0 → s'.getF RF.RVE_RNG_STAT_STATE 0 0 = 0) ∧
  (st = 1 → s'.getF RF.RVE_RNG_STAT_STATE 0 0 = 2 ∧ s'.getF RF.RVE_RNG_STAT_RERUNS 0 0 = 1) ∧
  (st = 2 → n < 3 → s'.getF RF.RVE_RNG_STAT_STATE 0 0 = 2 ∧ s'.getF RF.RVE_RNG_STAT_RERUNS 0 0 = n + 1) ∧
  (st = 2 → n = 3 → s'.getF RF.RVE_RNG_STAT_STATE 0 0 = 3)) ∧
      s' = { s with serial := s'.serial, regs := s'.regs, reeve := s'.reeve } ∧
      s.onlyRegs [.HBM_GRAN_CTL, .RVE_RNG_DATA, .RVE_RNG_STAT] s') ∧
  (∀ (s : State), (s.entropyReady = true ∧ (65536 ≤ s.reeve.requests ∨ 1000000000 ≤ s.now - s.reeve.seededAt)) →
    ∃ s', exec .drbgReseed s = .next s' ∧
      (s'.reeve.seededAt = s.now ∧ s'.reeve.requests = 0) ∧
      s' = { s with reeve := s'.reeve }) ∧
  (∀ (s : State), ∃ s', exec .rngDataRead s = .next s' ∧
      (s'.out = s.out ++ [.regRead (s.rd .RVE_RNG_DATA 0 0)] ∧
  (s.entropyReady = false → s'.flag RF.RVE_RNG_DATA_VALID 0 0 = false ∧
    s'.flag RF.RVE_RNG_DATA_ENTROPY_PENDING 0 0 = decide (s.getF RF.RVE_RNG_STAT_STATE 0 0 = 0))) ∧
      s' = { s with serial := s'.serial, regs := s'.regs, reeve := s'.reeve, out := s'.out } ∧
      s.onlyRegs [.RVE_RNG_DATA] s') ∧
  (∀ (s : State), ∃ s', exec .nonceExpire s = .next s' ∧
      (s'.reeve.nonces = s.reeve.nonces.filter (fun n => decide (s.now - n.2.2 < nonceLife))) ∧
      s' = { s with reeve := s'.reeve }) ∧
  (∀ (s : State), s.boot.stage ≠ .off ∧ s.boot.stage ≠ .hearth →
    ∃ s', exec .reeveWatchdogRestart s = .next s' ∧
      (s'.reeve.crashed = true ∧ s'.reeve.scrubs.length = s.reeve.scrubs.length ∧
  (∀ x ∈ s'.reeve.scrubs, ∀ y ∈ x.fields, y.phase = .clearing ∧ y.second = false ∧ y.left = y.ranges)) ∧
      s' = { s with reeve := s'.reeve }) ∧
  (∀ (f : FieldId) (zeroOk : Bool) (x : Scrub) (y : ScrubField) (g n : Nat) (rest : List (Nat × Nat)) (s : State),
        s.reeve.scrubs = [x] ∧ x.fields = [y] ∧ y.field = f.val ∧ y.phase = .clearing ∧ y.clear = true ∧
  s.inService f.val = true ∧ s.frozen = false ∧ s.boot.stage = .ready ∧ s.inReset f.val = false ∧
  s.host.tags = [] ∧ zeroOk = true ∧ y.left = (g, n) :: rest ∧ s.entries = [] ∧ s.commons.fills = [] ∧
  s.openRecs f.val = [] ∧ s.getF RF.CRN_POOL_SLOTS_SLOTS f.val 0 = 0 ∧ s.flag RF.HBM_SCRUB_CTL_BUSY f.val 0 = false ∧
  s.hbmState f.val ≠ hbmLost ∧ g + n ≤ 524288 ∧ g < 2 ^ RF.HBM_SCRUB_START_START.w ∧ n < 2 ^
        RF.HBM_SCRUB_COUNT_GRANULES.w →
    ∃ s', exec (.fieldClearDone f zeroOk) s = .next s' ∧
      (s'.getF RF.HBM_SCRUB_START_START f.val 0 = g ∧ s'.getF RF.HBM_SCRUB_COUNT_GRANULES f.val 0 = n ∧
  s'.flag RF.HBM_SCRUB_CTL_BUSY f.val 0 = true ∧ (s'.scrubOf f.val).map (fun z => z.2.phase) = some .scrubbing ∧
  (∀ o < 2 ^ 42, s'.memRead f.val 1 o 1 = [0#8]) ∧ (∀ t < 128, (s'.thread f.val t).st = .free ∨ (s'.thread f.val
        t).st = .fenced))) ∧
  (∀ (f : FieldId) (verified : Bool) (s : State), s.flag RF.HBM_SCRUB_CTL_BUSY f.val 0 = true ∧ s.frozen = false ∧
        s.reeve.scrubs = [] ∧
  s.scrubbable f.val (s.getF RF.HBM_SCRUB_START_START f.val 0 + s.hbm.scrubNext.look 0 f.val)
    (s.getF RF.HBM_SCRUB_COUNT_GRANULES f.val 0 - s.hbm.scrubNext.look 0 f.val) =
    s.getF RF.HBM_SCRUB_COUNT_GRANULES f.val 0 - s.hbm.scrubNext.look 0 f.val →
    ∃ s', exec (.scrubDone f verified) s = .next s' ∧
      (s'.flag RF.HBM_SCRUB_CTL_BUSY f.val 0 = false ∧ s'.hbm.scrubNext.look 0 f.val = 0 ∧ s'.getF
        RF.HBM_SCRUB_CTL_DONE_GEN f.val 0 =
    wrapAdd RF.HBM_SCRUB_CTL_DONE_GEN.w (s.getF RF.HBM_SCRUB_CTL_DONE_GEN f.val 0) 1 ∧
  s'.mem = s.mem.scrub f.val (s.getF RF.HBM_SCRUB_START_START f.val 0 + s.hbm.scrubNext.look 0 f.val)
    (s.getF RF.HBM_SCRUB_COUNT_GRANULES f.val 0 - s.hbm.scrubNext.look 0 f.val)
    (decide (s.getF RF.HBM_SCRUB_CTL_MODE f.val 0 = 1)) ∧ s'.crofters = s.crofters))

/-- After stage 2 a pin, a register write or a member's message starts a freeze in state FREEZING with its source,
  id, origin, time and the holes; a second trigger is only counted, a discarded message too, and a freeze during a
  save is noted in the record. The wavefront reaches a field from field 4, its clock parent or a neighbour: it stops,
  or defers the stop while in a reset. The freeze is complete when every field but the holes has stopped. A thaw
  waits for that, and a fabric thaw needs the id of the freeze. -/
def Obligations.FreezesBeginAndEnd : Prop :=
  (∀ (s : State), s.saving = false ∧ s.boot.stage = .ready ∧ s.flag RF.ASY_FRZ_CTL_PIN_EN 0 0 = true ∧ s.pinTest =
        false ∧
  s.getF RF.ASY_FRZ_STAT_STATE 0 0 = 0 →
    ∃ s', exec .freezePin s = .next s' ∧
      (s.freezeBegun 1 false (s.assay.nextId % 65536) s.ownWafer s' = true ∧
  s'.assay.nextId = (s.assay.nextId % 65536 + 1) % 65536) ∧
      s' = { s with regs := s'.regs, assay := s'.assay, hearth := s'.hearth, out := s'.out } ∧
      s.onlyRegs [.ASY_FLD_STAT, .ASY_FRZ_FTIME, .ASY_FRZ_IGNORED, .ASY_FRZ_STAT, .ASY_FRZ_UNREACHED_HI,
        .ASY_FRZ_UNREACHED_LO, .BIS_RESULTt, .BIS_STAT] s') ∧
  (∀ (s : State), (s.saving = false ∧ (s.boot.stage = .off ∨ s.flag RF.ASY_FRZ_CTL_PIN_EN 0 0 = false ∨ s.pinTest =
        true)) →
    ∃ s', exec .freezePin s = .next s' ∧
      (s' = s) ∧
      s' = { s with regs := s'.regs, assay := s'.assay, hearth := s'.hearth, out := s'.out } ∧
      s.onlyRegs [.ASY_FLD_STAT, .ASY_FRZ_FTIME, .ASY_FRZ_IGNORED, .ASY_FRZ_STAT, .ASY_FRZ_UNREACHED_HI,
        .ASY_FRZ_UNREACHED_LO, .BIS_RESULTt, .BIS_STAT] s') ∧
  (∀ (x : Save) (v : Nat) (s : State), s.hearth.save = some x ∧ v = (x.draft.state.getD 11 0 / 8) * 8 + 3 →
    ∃ s', exec .freezePin s = .next s' ∧
      (s'.hearth.save = some { x with draft := { x.draft with state := x.draft.state.set 11 v } } ∧
  s'.assay = s.assay ∧ s'.regs = s.regs) ∧
      s' = { s with regs := s'.regs, assay := s'.assay, hearth := s'.hearth, out := s'.out } ∧
      s.onlyRegs [.ASY_FLD_STAT, .ASY_FRZ_FTIME, .ASY_FRZ_IGNORED, .ASY_FRZ_STAT, .ASY_FRZ_UNREACHED_HI,
        .ASY_FRZ_UNREACHED_LO, .BIS_RESULTt, .BIS_STAT] s') ∧
  (∀ (s : State), s.boot.stage = .ready ∧ s.getF RF.ASY_FRZ_STAT_STATE 0 0 = 0 →
    ∃ s', exec .freezeRegister s = .next s' ∧
      (s.freezeBegun 2 false (s.assay.nextId % 65536) s.ownWafer s' = true ∧
  s'.out = s.out ++ (if s.flag RF.ASY_FRZ_CTL_BROADCAST 0 0 then
    s.otherMembers.map (fun w => OutMsg.fabric w 0x13 [s.freezeSlot 1 (s.assay.nextId % 65536)]) else []) ∧
  s'.assay.bcast = s.flag RF.ASY_FRZ_CTL_BROADCAST 0 0) ∧
      s' = { s with regs := s'.regs, assay := s'.assay, out := s'.out } ∧
      s.onlyRegs [.ASY_FLD_STAT, .ASY_FRZ_FTIME, .ASY_FRZ_IGNORED, .ASY_FRZ_STAT, .ASY_FRZ_UNREACHED_HI,
        .ASY_FRZ_UNREACHED_LO, .BIS_RESULTt, .BIS_STAT] s') ∧
  (∀ (s : State), (s.boot.stage = .ready ∧ (s.getF RF.ASY_FRZ_STAT_STATE 0 0 = 1 ∨ s.getF RF.ASY_FRZ_STAT_STATE 0 0 =
        2)) →
    ∃ s', exec .freezeRegister s = .next s' ∧
      (s.freezeCounted true s' = true) ∧
      s' = { s with regs := s'.regs, assay := s'.assay, out := s'.out } ∧
      s.onlyRegs [.ASY_FLD_STAT, .ASY_FRZ_FTIME, .ASY_FRZ_IGNORED, .ASY_FRZ_STAT, .ASY_FRZ_UNREACHED_HI,
        .ASY_FRZ_UNREACHED_LO, .BIS_RESULTt, .BIS_STAT] s') ∧
  (∀ (s : State), (s.boot.stage = .hearth ∨ s.boot.stage = .reeve ∨ s.boot.stage = .clock) →
    ∃ s', exec .freezeRegister s = .next s' ∧
      (s.freezeCounted false s' = true) ∧
      s' = { s with regs := s'.regs, assay := s'.assay, out := s'.out } ∧
      s.onlyRegs [.ASY_FLD_STAT, .ASY_FRZ_FTIME, .ASY_FRZ_IGNORED, .ASY_FRZ_STAT, .ASY_FRZ_UNREACHED_HI,
        .ASY_FRZ_UNREACHED_LO, .BIS_RESULTt, .BIS_STAT] s') ∧
  (∀ (s : State), s.boot.stage = .ready ∧ s.getF RF.ASY_FRZ_STAT_STATE 0 0 = 3 ∧ s.assay.freezeHeld = none →
    ∃ s', exec .freezeRegister s = .next s' ∧
      (s'.assay = { s.assay with freezeHeld := some ⟨2, false, 0, 0⟩ } ∧ s'.regs = s.regs) ∧
      s' = { s with regs := s'.regs, assay := s'.assay, out := s'.out } ∧
      s.onlyRegs [.ASY_FLD_STAT, .ASY_FRZ_FTIME, .ASY_FRZ_IGNORED, .ASY_FRZ_STAT, .ASY_FRZ_UNREACHED_HI,
        .ASY_FRZ_UNREACHED_LO, .BIS_RESULTt, .BIS_STAT] s') ∧
  (∀ (wafer : WaferId) (id : BitVec 16) (epoch : BitVec 16) (s : State), s.freezeMsgOk wafer.val epoch.toNat = true ∧
        s.boot.stage = .ready ∧ s.getF RF.ASY_FRZ_STAT_STATE 0 0 = 0 →
    ∃ s', exec (.freezeMessageReceive wafer id epoch) s = .next s' ∧
      (s.freezeBegun 3 false id.toNat wafer.val s' = true ∧ s'.out = s.out ∧ s'.assay.nextId = s.assay.nextId) ∧
      s' = { s with regs := s'.regs, assay := s'.assay, out := s'.out } ∧
      s.onlyRegs [.ASY_FLD_STAT, .ASY_FRZ_FTIME, .ASY_FRZ_IGNORED, .ASY_FRZ_STAT, .ASY_FRZ_UNREACHED_HI,
        .ASY_FRZ_UNREACHED_LO, .BIS_RESULTt, .BIS_STAT] s') ∧
  (∀ (wafer : WaferId) (id : BitVec 16) (epoch : BitVec 16) (s : State), s.freezeMsgOk wafer.val epoch.toNat = false
        ∧ s.boot.stage ≠ .off →
    ∃ s', exec (.freezeMessageReceive wafer id epoch) s = .next s' ∧
      (s.freezeCounted false s' = true) ∧
      s' = { s with regs := s'.regs, assay := s'.assay, out := s'.out } ∧
      s.onlyRegs [.ASY_FLD_STAT, .ASY_FRZ_FTIME, .ASY_FRZ_IGNORED, .ASY_FRZ_STAT, .ASY_FRZ_UNREACHED_HI,
        .ASY_FRZ_UNREACHED_LO, .BIS_RESULTt, .BIS_STAT] s') ∧
  (∀ (f : FieldId) (s : State), s.getF RF.ASY_FRZ_STAT_STATE 0 0 = 1 ∧ s.fieldMode f.val ≠ 2 ∧
        s.assay.arrived.contains f.val = false ∧
  s.freezeReaches f.val = true ∧ s.inReset f.val = false →
    ∃ s', exec (.freezeArrive f) s = .next s' ∧
      (s'.assay.arrived = setInsert f.val s.assay.arrived ∧ s'.stopped f.val = true ∧
  s'.flag RF.ASY_FLD_STAT_PASS_THROUGH f.val 0 = decide (s.fieldMode f.val = 1) ∧
  (∃ a b, s'.rd .ASY_FLD_ARRIVE f.val 0 = BitVec.ofNat 64 (s.fieldStamp a) ∧
    s'.rd .ASY_FLD_STOP f.val 0 = BitVec.ofNat 64 (s.fieldStamp b)) ∧
  (∀ g, g ≠ f.val → s'.stopped g = s.stopped g ∨ 1024 ≤ g)) ∧
      s' = { s with serial := s'.serial, regs := s'.regs, assay := s'.assay } ∧
      s.onlyRegs [.ASY_FLD_ARRIVE, .ASY_FLD_CROF, .ASY_FLD_MILL, .ASY_FLD_STAT, .ASY_FLD_STOP] s') ∧
  (∀ (f : FieldId) (s : State), s.getF RF.ASY_FRZ_STAT_STATE 0 0 = 1 ∧ s.fieldMode f.val ≠ 2 ∧
        s.assay.arrived.contains f.val = false ∧
  s.freezeReaches f.val = true ∧ s.inReset f.val = true →
    ∃ s', exec (.freezeArrive f) s = .next s' ∧
      (s'.assay.arrived = setInsert f.val s.assay.arrived ∧ s'.flag RF.ASY_FLD_STAT_DEFERRED f.val 0 = true ∧
  s'.stopped f.val = s.stopped f.val) ∧
      s' = { s with serial := s'.serial, regs := s'.regs, assay := s'.assay } ∧
      s.onlyRegs [.ASY_FLD_ARRIVE, .ASY_FLD_CROF, .ASY_FLD_MILL, .ASY_FLD_STAT, .ASY_FLD_STOP] s') ∧
  (∀ (f : FieldId) (s : State), (s.getF RF.ASY_FRZ_STAT_STATE 0 0 ≠ 1 ∨ s.fieldMode f.val = 2 ∨ s.freezeReaches f.val
        = false) →
    ∃ s', exec (.freezeArrive f) s = .next s' ∧
      (s' = s) ∧
      s' = { s with serial := s'.serial, regs := s'.regs, assay := s'.assay } ∧
      s.onlyRegs [.ASY_FLD_ARRIVE, .ASY_FLD_CROF, .ASY_FLD_MILL, .ASY_FLD_STAT, .ASY_FLD_STOP] s') ∧
  (∀ (s : State), (s.getF RF.ASY_FRZ_STAT_STATE 0 0 = 1 ∧ (∀ f < 80, s.fieldMode f = 2 ∨ s.stopped f = true)) →
    ∃ s', exec .freezeComplete s = .next s' ∧
      (s'.getF RF.ASY_FRZ_STAT_STATE 0 0 = (if s.assay.thawHeld then 3 else 2) ∧ s'.power.frozenAt = s.now ∧
  s'.assay.thawHeld = false) ∧
      s' = { s with regs := s'.regs, power := s'.power, assay := s'.assay, out := s'.out } ∧
      s.onlyRegs [.ASY_FRZ_STAT] s') ∧
  (∀ (f : Nat) (s : State), f < 80 ∧ s.fieldMode f ≠ 2 ∧ s.stopped f = false →
    ∃ s', exec .freezeComplete s = .next s' ∧
      (s' = s) ∧
      s' = { s with regs := s'.regs, power := s'.power, assay := s'.assay, out := s'.out } ∧
      s.onlyRegs [.ASY_FRZ_STAT] s') ∧
  (∀ (s : State), s.getF RF.ASY_FRZ_STAT_STATE 0 0 = 2 →
    ∃ s', exec .thawRegister s = .next s' ∧
      (s'.getF RF.ASY_FRZ_STAT_STATE 0 0 = 3 ∧ s'.assay.thawHeld = false ∧
  s'.out = s.out ++ (if s.assay.bcast then s.otherMembers.map (fun w =>
    OutMsg.fabric w 0x13 [s.freezeSlot 2 (s.getF RF.ASY_FRZ_STAT_FREEZE_ID 0 0)]) else [])) ∧
      s' = { s with regs := s'.regs, assay := s'.assay, out := s'.out } ∧
      s.onlyRegs [.ASY_FRZ_STAT] s') ∧
  (∀ (s : State), s.getF RF.ASY_FRZ_STAT_STATE 0 0 = 1 →
    ∃ s', exec .thawRegister s = .next s' ∧
      (s'.assay = { s.assay with thawHeld := true } ∧ s'.regs = s.regs ∧ s'.out = s.out) ∧
      s' = { s with regs := s'.regs, assay := s'.assay, out := s'.out } ∧
      s.onlyRegs [.ASY_FRZ_STAT] s') ∧
  (∀ (wafer : WaferId) (id : BitVec 16) (epoch : BitVec 16) (s : State), s.boot.stage ≠ .off ∧ s.freezeMsgOk
        wafer.val epoch.toNat = true ∧ s.getF RF.ASY_FRZ_STAT_STATE 0 0 = 2 ∧
  s.getF RF.ASY_FRZ_STAT_FREEZE_ID 0 0 = id.toNat →
    ∃ s', exec (.thawMessageReceive wafer id epoch) s = .next s' ∧
      (s'.getF RF.ASY_FRZ_STAT_STATE 0 0 = 3 ∧ s'.assay.thawHeld = false) ∧
      s' = { s with regs := s'.regs, assay := s'.assay, out := s'.out } ∧
      s.onlyRegs [.ASY_FRZ_IGNORED, .ASY_FRZ_STAT] s') ∧
  (∀ (wafer : WaferId) (id : BitVec 16) (epoch : BitVec 16) (s : State), (s.boot.stage ≠ .off ∧ (s.freezeMsgOk
        wafer.val epoch.toNat = false ∨ s.getF RF.ASY_FRZ_STAT_STATE 0 0 = 0 ∨
  s.getF RF.ASY_FRZ_STAT_FREEZE_ID 0 0 ≠ id.toNat)) →
    ∃ s', exec (.thawMessageReceive wafer id epoch) s = .next s' ∧
      (s.freezeCounted false s' = true) ∧
      s' = { s with regs := s'.regs, assay := s'.assay, out := s'.out } ∧
      s.onlyRegs [.ASY_FRZ_IGNORED, .ASY_FRZ_STAT] s') ∧
  (∀ (f : FieldId) (g : Nat) (s : State), s.getF RF.ASY_FRZ_STAT_STATE 0 0 = 3 ∧ s.stopped f.val = true ∧ g < 80 ∧ g
        ≠ f.val ∧ s.stopped g = true ∧ s.commons.reqs = [] →
    ∃ s', exec (.fieldResume f) s = .next s' ∧
      (s'.stopped f.val = false ∧ s'.stopped g = true ∧ s'.getF RF.ASY_FRZ_STAT_STATE 0 0 = 3 ∧ s'.mem = s.mem ∧
        s'.seq = s.seq))

/-- ASY_WIN_CTL.GO records its selection, sets BUSY and fixes the gate: a deployed unit denies DATA and MEMORY of an
  owned field without a grant. The read ends with BUSY clear and the window filled: with the memory named, or,
  denied, with zeros and DENIED. The TAP answers IDCODE and BYPASS always, and the others where the lifecycle
  permits, as BYPASS elsewhere; FREEZE and THAW act as the register does, and scan instructions load and capture the
  442 cells and choose what drives the pins. -/
def Obligations.WindowAndTapReadOut : Prop :=
  (∀ (field : BitVec 7) (chain : BitVec 7) (kind : Fin 4) (s : State), s.flag RF.ASY_WIN_CTL_BUSY 0 0 = false →
    ∃ s', exec (.windowGo field chain kind) s = .next s' ∧
      (s'.flag RF.ASY_WIN_CTL_BUSY 0 0 = true ∧ s'.getF RF.ASY_WIN_CTL_FIELD 0 0 = field.toNat ∧
  s'.getF RF.ASY_WIN_CTL_CHAIN 0 0 = chain.toNat ∧ s'.getF RF.ASY_WIN_CTL_KIND 0 0 = kind.val ∧
  s'.assay = { s.assay with reading := some ⟨field.toNat, chain.toNat, kind.val, s.getF RF.ASY_WIN_ADDR_ADDR 0 0,
    min 2048 (s.getF RF.ASY_WIN_LEN_LEN 0 0 + 1),
    s.readDenied field.toNat kind.val (s.getF RF.ASY_WIN_ADDR_ADDR 0 0)⟩ }) ∧
      s' = { s with regs := s'.regs, assay := s'.assay } ∧
      s.onlyRegs [.ASY_WIN_CTL] s') ∧
  (∀ (field : BitVec 7) (chain : BitVec 7) (kind : Fin 4) (s : State), s.flag RF.ASY_WIN_CTL_BUSY 0 0 = false ∧
        s.lifecycle = lcDeployed ∧ kind.val = 2 ∧ s.owner field.toNat ≠ none ∧
  s.flag RF.RVE_LIFECYCLE_DEBUG_UNLOCKED 0 0 = false ∧
  s.flag RF.RVE_PARp_BIND_ASSAY_GRANTED 0 (s.getF RF.RVE_FLDf_OWNER_PARISH 0 field.toNat) = false →
    ∃ s', exec (.windowGo field chain kind) s = .next s' ∧
      (s'.assay.reading.map (·.denied) = some true) ∧
      s' = { s with regs := s'.regs, assay := s'.assay } ∧
      s.onlyRegs [.ASY_WIN_CTL] s') ∧
  (∀ (field : BitVec 7) (chain : BitVec 7) (kind : Fin 4) (s : State), s.flag RF.ASY_WIN_CTL_BUSY 0 0 = true →
    ∃ s', exec (.windowGo field chain kind) s = .next s' ∧
      (s' = s) ∧
      s' = { s with regs := s'.regs, assay := s'.assay } ∧
      s.onlyRegs [.ASY_WIN_CTL] s') ∧
  (∀ (x : AssayRead) (s : State), s.assay.reading = some x ∧ x.denied = true →
    ∃ s', exec .windowReadDone s = .next s' ∧
      (s'.flag RF.ASY_WIN_CTL_DENIED 0 0 = true ∧ s'.flag RF.ASY_WIN_CTL_BUSY 0 0 = false ∧ s'.assay.reading = none ∧
  (∀ i < 256, 8 * i < x.len → s'.rd .ASY_WIN_DATA 0 i = 0#64)) ∧
      s' = { s with serial := s'.serial, regs := s'.regs, assay := s'.assay } ∧
      s.onlyRegs [.ASY_WIN_CTL, .ASY_WIN_DATA] s') ∧
  (∀ (x : AssayRead) (f off : Nat) (s : State), s.assay.reading = some x ∧ x.denied = false ∧ x.kind = 3 ∧ s.getF
        RF.ASY_FRZ_STAT_STATE 0 0 = 2 ∧ Direct.of x.addr = ⟨s.ownWafer, f, 1, off⟩ →
    ∃ s', exec .windowReadDone s = .next s' ∧
      (s'.flag RF.ASY_WIN_CTL_DENIED 0 0 = s.flag RF.ASY_WIN_CTL_DENIED 0 0 ∧ s'.flag RF.ASY_WIN_CTL_BUSY 0 0 = false
        ∧
  s'.assay.reading = none ∧ (∀ i < 256, 8 * i < x.len → s'.rd .ASY_WIN_DATA 0 i =
    BitVec.ofNat 64 (leNat (((s.memRead f 1 off x.len).drop (8 * i)).take 8)))) ∧
      s' = { s with serial := s'.serial, regs := s'.regs, assay := s'.assay } ∧
      s.onlyRegs [.ASY_WIN_CTL, .ASY_WIN_DATA] s') ∧
  (∀ (s : State), ∃ s', exec .tapReset s = .next s' ∧
      (s'.assay = { s.assay with mode := 0 }) ∧
      s' = { s with assay := s'.assay }) ∧
  (∀ (data : List Bool) (s : State), ∃ s', exec (.tapBypass data) s = .next s' ∧
      (s.tapAnswered 0 (0 :: (data.map b2n).dropLast) s' = true) ∧
      s' = { s with assay := s'.assay, out := s'.out }) ∧
  (∀ (s : State), ∃ s', exec .tapIdcode s = .next s' ∧
      (s.tapAnswered 0 (bitsOf 32 0x14F1AB47) s' = true) ∧
      s' = { s with assay := s'.assay, out := s'.out }) ∧
  (∀ (load : BitVec 442) (captured : BitVec 442) (s : State), ∃ s', exec (.tapSamplePreload load captured) s = .next
        s' ∧
      ((s.tapOpen = true → s.tapAnswered 0 (bitsOf 442 captured.toNat) s' = true ∧ s'.assay.cells = load.toNat) ∧
  (s.tapOpen = false → s.tapAnswered 0 (0 :: (bitsOf 442 load.toNat).dropLast) s' = true ∧
    s'.assay.cells = s.assay.cells)) ∧
      s' = { s with assay := s'.assay, out := s'.out }) ∧
  (∀ (update : Bool) (s : State), s.tapOpen = true ∧ update = true ∧ s.boot.stage = .ready ∧ s.getF
        RF.ASY_FRZ_STAT_STATE 0 0 = 0 →
    ∃ s', exec (.tapFreeze update) s = .next s' ∧
      (s.freezeBegun 2 true (s.assay.nextId % 65536) s.ownWafer s' = true ∧ s'.assay.mode = 0) ∧
      s' = { s with regs := s'.regs, assay := s'.assay, out := s'.out } ∧
      s.onlyRegs [.ASY_FLD_STAT, .ASY_FRZ_FTIME, .ASY_FRZ_IGNORED, .ASY_FRZ_STAT, .ASY_FRZ_UNREACHED_HI,
        .ASY_FRZ_UNREACHED_LO, .BIS_RESULTt, .BIS_STAT] s') ∧
  (∀ (update : Bool) (s : State), s.tapOpen = false →
    ∃ s', exec (.tapFreeze update) s = .next s' ∧
      (s.tapAnswered 0 [0] s' = true ∧ s'.regs = s.regs) ∧
      s' = { s with regs := s'.regs, assay := s'.assay, out := s'.out } ∧
      s.onlyRegs [.ASY_FLD_STAT, .ASY_FRZ_FTIME, .ASY_FRZ_IGNORED, .ASY_FRZ_STAT, .ASY_FRZ_UNREACHED_HI,
        .ASY_FRZ_UNREACHED_LO, .BIS_RESULTt, .BIS_STAT] s') ∧
  (∀ (update : Bool) (s : State), s.tapOpen = true ∧ update = true ∧ s.getF RF.ASY_FRZ_STAT_STATE 0 0 = 2 →
    ∃ s', exec (.tapThaw update) s = .next s' ∧
      (s'.getF RF.ASY_FRZ_STAT_STATE 0 0 = 3 ∧ s'.assay.mode = 0) ∧
      s' = { s with regs := s'.regs, assay := s'.assay, out := s'.out } ∧
      s.onlyRegs [.ASY_FRZ_STAT] s') ∧
  (∀ (update : Bool) (s : State), s.tapOpen = false →
    ∃ s', exec (.tapThaw update) s = .next s' ∧
      (s.tapAnswered 0 [0] s' = true ∧ s'.regs = s.regs) ∧
      s' = { s with regs := s'.regs, assay := s'.assay, out := s'.out } ∧
      s.onlyRegs [.ASY_FRZ_STAT] s') ∧
  (∀ (v : BitVec 32) (s : State), ∃ s', exec (.tapSel v) s = .next s' ∧
      ((s.tapOpen = true → s'.assay = { s.assay with mode := 0, sel := v.toNat } ∧ s'.out = s.out) ∧
  (s.tapOpen = false → s'.assay = { s.assay with mode := 0 } ∧ s.tapAnswered 0 (0 :: (bitsOf 32 v.toNat).dropLast) s'
        = true)) ∧
      s' = { s with assay := s'.assay, out := s'.out }) ∧
  (∀ (s : State), s.tapOpen = true ∧ s.assay.reading = none ∧ s.readDenied (nbits s.assay.sel 0 7) (min 2 (nbits
        s.assay.sel 14 2)) 0 = true →
    ∃ s', exec .tapChain s = .next s' ∧
      (s'.flag RF.ASY_WIN_CTL_DENIED 0 0 = true ∧ s'.assay.mode = 0 ∧ (∃ n, s'.out = s.out ++ [.tap (List.replicate n
        0)])) ∧
      s' = { s with serial := s'.serial, regs := s'.regs, assay := s'.assay, out := s'.out } ∧
      s.onlyRegs [.ASY_WIN_CTL] s') ∧
  (∀ (s : State), s.tapOpen = true ∧ s.assay.reading = none ∧ s.readDenied (nbits s.assay.sel 0 7) (min 2 (nbits
        s.assay.sel 14 2)) 0 = false →
    ∃ s', exec .tapChain s = .next s' ∧
      (s'.regs = s.regs ∧ s'.assay.mode = 0 ∧ (∃ l, s'.out = s.out ++ [.tap l])) ∧
      s' = { s with serial := s'.serial, regs := s'.regs, assay := s'.assay, out := s'.out } ∧
      s.onlyRegs [.ASY_WIN_CTL] s') ∧
  (∀ (s : State), s.tapOpen = true ∧ s.assay.reading ≠ none →
    ∃ s', exec .tapChain s = .next s' ∧
      (s' = s) ∧
      s' = { s with serial := s'.serial, regs := s'.regs, assay := s'.assay, out := s'.out } ∧
      s.onlyRegs [.ASY_WIN_CTL] s') ∧
  (∀ (addr : BitVec 64) (s : State), s.tapOpen = true ∧ s.assay.reading = none ∧ s.readDenied 0 3 addr.toNat = true →
    ∃ s', exec (.tapMem addr) s = .next s' ∧
      (s'.flag RF.ASY_WIN_CTL_DENIED 0 0 = true ∧ s.tapAnswered 0 (bitsOf 32 0) s' = true) ∧
      s' = { s with serial := s'.serial, regs := s'.regs, assay := s'.assay, out := s'.out } ∧
      s.onlyRegs [.ASY_WIN_CTL] s') ∧
  (∀ (addr : BitVec 64) (f off : Nat) (s : State), s.tapOpen = true ∧ s.assay.reading = none ∧ s.readDenied 0 3
        addr.toNat = false ∧ s.getF RF.ASY_FRZ_STAT_STATE 0 0 = 2 ∧
  Direct.of addr.toNat = ⟨s.ownWafer, f, 1, off⟩ →
    ∃ s', exec (.tapMem addr) s = .next s' ∧
      (s.tapAnswered 0 (bitsOf 32 (leNat (s.memRead f 1 off 4))) s' = true ∧ s'.regs = s.regs) ∧
      s' = { s with serial := s'.serial, regs := s'.regs, assay := s'.assay, out := s'.out } ∧
      s.onlyRegs [.ASY_WIN_CTL] s') ∧
  (∀ (s : State), s.tapOpen = true →
    ∃ s', exec .tapStat s = .next s' ∧
      (s.tapAnswered 0 (bitsOf 64 (s.rd .ASY_FRZ_STAT 0 0).toNat) s' = true) ∧
      s' = { s with assay := s'.assay, out := s'.out }) ∧
  (∀ (s : State), ∃ s', exec .tapMbx s = .next s' ∧
      (s'.assay = { s.assay with mode := 0 } ∧ (∃ l, s'.out = s.out ++ [.tap l])) ∧
      s' = { s with serial := s'.serial, assay := s'.assay, out := s'.out }) ∧
  (∀ (load : BitVec 442) (captured : BitVec 442) (s : State), ∃ s', exec (.tapExtest load captured) s = .next s' ∧
      ((s.tapScan = true → s.tapAnswered 1 (bitsOf 442 captured.toNat) s' = true ∧ s'.assay.cells = load.toNat) ∧
  (s.tapScan = false → s.tapAnswered 0 (0 :: (bitsOf 442 load.toNat).dropLast) s' = true ∧ s'.assay.cells =
        s.assay.cells)) ∧
      s' = { s with assay := s'.assay, out := s'.out }) ∧
  (∀ (data : List Bool) (s : State), ∃ s', exec (.tapClamp data) s = .next s' ∧
      (s.tapAnswered (if s.tapScan then 2 else 0) (0 :: (data.map b2n).dropLast) s' = true ∧ s'.assay.cells =
        s.assay.cells) ∧
      s' = { s with assay := s'.assay, out := s'.out }) ∧
  (∀ (data : List Bool) (s : State), ∃ s', exec (.tapHighz data) s = .next s' ∧
      (s.tapAnswered (if s.tapScan then 3 else 0) (0 :: (data.map b2n).dropLast) s' = true ∧ s'.assay.cells =
        s.assay.cells) ∧
      s' = { s with assay := s'.assay, out := s'.out }) ∧
  (∀ (load : BitVec 442) (captured : BitVec 442) (s : State), ∃ s', exec (.tapExtestPulse load captured) s = .next s'
        ∧
      ((s.tapScan = true → s.tapAnswered 4 (bitsOf 442 captured.toNat) s' = true ∧ s'.assay.cells = load.toNat) ∧
  (s.tapScan = false → s.tapAnswered 0 (0 :: (bitsOf 442 load.toNat).dropLast) s' = true ∧ s'.assay.cells =
        s.assay.cells)) ∧
      s' = { s with assay := s'.assay, out := s'.out }) ∧
  (∀ (load : BitVec 442) (captured : BitVec 442) (s : State), ∃ s', exec (.tapExtestTrain load captured) s = .next s'
        ∧
      ((s.tapScan = true → s.tapAnswered 5 (bitsOf 442 captured.toNat) s' = true ∧ s'.assay.cells = load.toNat) ∧
  (s.tapScan = false → s.tapAnswered 0 (0 :: (bitsOf 442 load.toNat).dropLast) s' = true ∧ s'.assay.cells =
        s.assay.cells)) ∧
      s' = { s with assay := s'.assay, out := s'.out }) ∧
  (∀ (v : BitVec 32) (s : State), s.tapScan = true ∧ s.bistBusy = false ∧ v.getLsbD 4 = false ∧ v.getLsbD 5 = false →
    ∃ s', exec (.tapBisctl v) s = .next s' ∧
      (s.tapAnswered 0 (bitsOf 32 (s.rd .BIS_STAT 0 0).toNat) s' = true ∧ s'.getF RF.BIS_CTL_SUITE 0 0 = v.toNat % 16
        ∧
  s'.flag RF.BIS_CTL_H0_LOOP 0 0 = v.getLsbD 6 ∧ s'.flag RF.BIS_CTL_FIXTURE 0 0 = v.getLsbD 7 ∧
  s'.flag RF.BIS_CTL_EXT_LOOP 0 0 = v.getLsbD 8) ∧
      s' = { s with regs := s'.regs, assay := s'.assay, bist := s'.bist, out := s'.out }) ∧
  (∀ (v : BitVec 32) (s : State), s.tapScan = false →
    ∃ s', exec (.tapBisctl v) s = .next s' ∧
      (s.tapAnswered 0 (0 :: (bitsOf 32 v.toNat).dropLast) s' = true ∧ s'.regs = s.regs) ∧
      s' = { s with regs := s'.regs, assay := s'.assay, bist := s'.bist, out := s'.out })

/-- In MANUFACTURE or RETURN, a GO under the conditions of R663 clears the results and starts SETUP with its origin
  and time, and CMD_ERR is set otherwise. With the set-up done the stacks are in self-refresh and the first test
  selected runs; those left out are SKIPPED. A test ends with PASS, PASS_REPAIRED or FAIL, its count of faults and
  duration, and the next selected one starts, or the restore. ABORT ends the running test; the restore of a thawed
  wafer ends with DONE. -/
def Obligations.SelfTestSuites : Prop :=
  (∀ (origin : Fin 3) (suite : BitVec 4) (h0Loop : Bool) (fixture : Bool) (extLoop : Bool) (s : State), s.bistOpen =
        true ∧ s.bistBusy = false ∧ s.bistMay = true →
    ∃ s', exec (.bistGo origin suite h0Loop fixture extLoop) s = .next s' ∧
      (s'.getF RF.BIS_STAT_STATE 0 0 = 1 ∧ s'.getF RF.BIS_STAT_TEST 0 0 = 0 ∧ s'.getF RF.BIS_STAT_ORIGIN 0 0 =
        origin.val ∧
  s'.getF RF.BIS_STAT_ELAPSED_MS 0 0 = 0 ∧ s'.getF RF.BIS_CTL_SUITE 0 0 = suite.toNat ∧
  s'.flag RF.BIS_CTL_H0_LOOP 0 0 = h0Loop ∧ s'.flag RF.BIS_CTL_FIXTURE 0 0 = fixture ∧
  s'.flag RF.BIS_CTL_EXT_LOOP 0 0 = extLoop ∧ s'.bist = ⟨s.now, s.now⟩ ∧
  (∀ k : RKey, bistResults k.reg = true → s'.rd k.reg k.inst.val k.idx.val = k.reset)) ∧
      s' = { s with regs := s'.regs, bist := s'.bist }) ∧
  (∀ (origin : Fin 3) (suite : BitVec 4) (h0Loop : Bool) (fixture : Bool) (extLoop : Bool) (s : State), (s.bistOpen =
        true ∧ (s.bistBusy = true ∨ s.bistMay = false)) →
    ∃ s', exec (.bistGo origin suite h0Loop fixture extLoop) s = .next s' ∧
      (s'.flag RF.BIS_STAT_CMD_ERR 0 0 = true ∧ s'.getF RF.BIS_STAT_STATE 0 0 = s.getF RF.BIS_STAT_STATE 0 0 ∧
        s'.bist = s.bist) ∧
      s' = { s with regs := s'.regs, bist := s'.bist }) ∧
  (∀ (origin : Fin 3) (suite : BitVec 4) (h0Loop : Bool) (fixture : Bool) (extLoop : Bool) (s : State), s.bistOpen =
        false →
    ∃ s', exec (.bistGo origin suite h0Loop fixture extLoop) s = .next s' ∧
      (s' = s) ∧
      s' = { s with regs := s'.regs, bist := s'.bist }) ∧
  (∀ (t : Nat) (s : State), s.bistOpen = true ∧ s.getF RF.BIS_STAT_STATE 0 0 = 2 ∧ s.getF RF.BIS_STAT_TEST 0 0 = t →
    ∃ s', exec .bistAbort s = .next s' ∧
      (s'.getF RF.BIS_STAT_STATE 0 0 = 3 ∧ s'.getF RF.BIS_RESULTt_CODE 0 t = 4 ∧
  s'.getF RF.BIS_RESULTt_DURATION_US 0 t = (s.now - s.bist.testBegan) / 1000 % 2 ^ 32) ∧
      s' = { s with regs := s'.regs } ∧
      s.onlyRegs [.BIS_RESULTt, .BIS_STAT] s') ∧
  (∀ (t : Nat) (s : State), s.getF RF.BIS_STAT_STATE 0 0 = 1 ∧ t < 3 ∧
  ((List.range 4).filter (fun i => (s.getF RF.BIS_CTL_SUITE 0 0).testBit i)).head? = some t →
    ∃ s', exec .bistSetupDone s = .next s' ∧
      (s'.getF RF.BIS_STAT_STATE 0 0 = 2 ∧ s'.getF RF.BIS_STAT_TEST 0 0 = t ∧ s'.bist =
        { s.bist with testBegan := s.now } ∧
  (∀ i < t, s'.getF RF.BIS_RESULTt_CODE 0 i = 5) ∧
  (∀ f < 80, s'.hbmState f = if s.hbmState f = hbmUp ∨ s.hbmState f = hbmPowerdown then hbmSelfRefresh else
        s.hbmState f) ∧
  s'.verne = s.verne) ∧
      s' = { s with
          regs := s'.regs, commons := s'.commons, crofters := s'.crofters, tallies := s'.tallies,
          seq := s'.seq, verne := s'.verne, fabric := s'.fabric, host := s'.host, bist := s'.bist,
          out := s'.out } ∧
      s.onlyRegs [.BIS_LOOP_SKIP_HI, .BIS_LOOP_SKIP_LO, .BIS_RESULTt, .BIS_STAT, .CRF_FAULT_HEAD, .CRF_FAULTk,
        .CRF_INST_COUNT, .FAB_HELD, .FAB_MEMBERS, .FAB_QUAR, .FAB_REISSUE, .FLD_CMN_DENIED, .FLD_CMN_ERR_ADDR,
        .FLD_CMN_ERR_SOURCE, .FLD_CMN_ERR_STATUS, .HBM_ID, .HST_FN_WIN_ERR, .HST_PORT_EVENT, .HST_PORT_MSIX_DROP,
        .VRN_LNK_STATE, .VRN_LNK_TX, .VRN_PORTp_STATE] s') ∧
  (∀ (s : State), s.getF RF.BIS_STAT_STATE 0 0 = 1 ∧ s.getF RF.BIS_CTL_SUITE 0 0 = 0 →
    ∃ s', exec .bistSetupDone s = .next s' ∧
      (s'.getF RF.BIS_STAT_STATE 0 0 = 3 ∧ (∀ i < 4, s'.getF RF.BIS_RESULTt_CODE 0 i = 5) ∧ s'.verne = s.verne) ∧
      s' = { s with
          regs := s'.regs, commons := s'.commons, crofters := s'.crofters, tallies := s'.tallies,
          seq := s'.seq, verne := s'.verne, fabric := s'.fabric, host := s'.host, bist := s'.bist,
          out := s'.out } ∧
      s.onlyRegs [.BIS_LOOP_SKIP_HI, .BIS_LOOP_SKIP_LO, .BIS_RESULTt, .BIS_STAT, .CRF_FAULT_HEAD, .CRF_FAULTk,
        .CRF_INST_COUNT, .FAB_HELD, .FAB_MEMBERS, .FAB_QUAR, .FAB_REISSUE, .FLD_CMN_DENIED, .FLD_CMN_ERR_ADDR,
        .FLD_CMN_ERR_SOURCE, .FLD_CMN_ERR_STATUS, .HBM_ID, .HST_FN_WIN_ERR, .HST_PORT_EVENT, .HST_PORT_MSIX_DROP,
        .VRN_LNK_STATE, .VRN_LNK_TX, .VRN_PORTp_STATE] s') ∧
  (∀ (faults : List BistFault) (t : Nat) (s : State), s.getF RF.BIS_STAT_STATE 0 0 = 2 ∧ s.getF RF.BIS_STAT_TEST 0 0
        = t ∧ t < 4 ∧ faults = [] ∧
  (t = 0 → ∀ i < 160, s.seamReached i = true) ∧ s.getF RF.BIS_CTL_SUITE 0 0 / 2 ^ (t + 1) = 0 →
    ∃ s', exec (.bistTestDone faults) s = .next s' ∧
      (s.testEnded t 1 0 s' = true ∧ s'.getF RF.BIS_STAT_STATE 0 0 = 3 ∧ (∀ i < 4, t < i → s'.getF
        RF.BIS_RESULTt_CODE 0 i = 5) ∧
  s'.rd .BIS_LOG_HEAD 0 0 = s.rd .BIS_LOG_HEAD 0 0 ∧ s'.verne = s.verne) ∧
      s' = { s with
          regs := s'.regs, commons := s'.commons, crofters := s'.crofters, tallies := s'.tallies,
          seq := s'.seq, verne := s'.verne, fabric := s'.fabric, host := s'.host, bist := s'.bist,
          out := s'.out }) ∧
  (∀ (faults : List BistFault) (x : BistFault) (s : State), s.getF RF.BIS_STAT_STATE 0 0 = 2 ∧ s.getF
        RF.BIS_STAT_TEST 0 0 = 1 ∧ faults = [x] ∧ x.place.val < 64 ∧
  s.getF RF.BIS_CTL_SUITE 0 0 = 6 →
    ∃ s', exec (.bistTestDone faults) s = .next s' ∧
      (s.testEnded 1 3 1 s' = true ∧ s'.rd .BIS_BUMP_FAIL_LO 0 0 = BitVec.ofNat 64 (2 ^ x.place.val) ∧
  s'.getF RF.BIS_BUMP_FAIL_HI_BITS 0 0 = 0 ∧ s'.getF RF.BIS_STAT_STATE 0 0 = 2 ∧ s'.getF RF.BIS_STAT_TEST 0 0 = 2 ∧
  s'.bist.testBegan = s.now) ∧
      s' = { s with
          regs := s'.regs, commons := s'.commons, crofters := s'.crofters, tallies := s'.tallies,
          seq := s'.seq, verne := s'.verne, fabric := s'.fabric, host := s'.host, bist := s'.bist,
          out := s'.out }) ∧
  (∀ (faults : List BistFault) (x : BistFault) (s : State), s.getF RF.BIS_STAT_STATE 0 0 = 2 ∧ s.getF
        RF.BIS_STAT_TEST 0 0 = 0 ∧ faults = [x] ∧ x.place.val < 160 ∧ x.kind.val ≠ 6 ∧
  x.special = false ∧ (∀ i < 160, s.seamReached i = true) ∧ s.getF RF.BIS_CTL_SUITE 0 0 = 1 →
    ∃ s', exec (.bistTestDone faults) s = .next s' ∧
      (s.testEnded 0 2 1 s' = true ∧ s'.getF RF.BIS_STAT_STATE 0 0 = 3) ∧
      s' = { s with
          regs := s'.regs, commons := s'.commons, crofters := s'.crofters, tallies := s'.tallies,
          seq := s'.seq, verne := s'.verne, fabric := s'.fabric, host := s'.host, bist := s'.bist,
          out := s'.out }) ∧
  (∀ (failing : List FieldId) (s : State), s.getF RF.BIS_STAT_STATE 0 0 = 3 ∧ s.getF RF.ASY_FRZ_STAT_STATE 0 0 = 0 ∧
        s.halted = false ∧ failing = [] ∧
  (∀ g < 80, s.inService g = true → s.quietField g = true) ∧ s.commons.reqs = [] ∧ s.host.held = [] ∧
  s.resets.waiting = [] ∧ s.seq.sheaves = [] ∧ s.seq.doorbells = [] ∧ s.tallies.heldAdds = [] →
    ∃ s', exec (.bistRestoreDone failing) s = .next s' ∧
      (s'.getF RF.BIS_STAT_STATE 0 0 = 4 ∧ s'.bistBusy = false)) ∧
  (∀ (failing : List FieldId) (s : State), (s.frozen = true ∨ s.halted = true) →
    ∃ s', exec (.bistRestoreDone failing) s = .next s' ∧
      (s' = s))

/-- A crier read counts; word 0 of a group latches the group, other words of it come from the latch, and the bus is
  driven where BUS_EN is set. A write outside the mailbox window, or with MBX_EN clear, counts as bad; within it the
  word is kept, and word 7 posts the command, which a full queue drops; a malformed command at the head ends with
  MALFORMED. An owner that is up posts its group, and a roll counts, copies every posted group and shows which groups
  are valid. -/
def Obligations.CrierBusAndMirror : Prop :=
  (∀ (addr : BitVec 12) (v : Nat) (s : State), s.pinsServe = true ∧ v = (if addr.toNat % 4 = 0 then s.mirrorWord
        addr.toNat else match s.pins.latch with
  | some (g, l) => if g = addr.toNat / 4 then l.getD (addr.toNat % 4) 0 else s.mirrorWord addr.toNat
  | none => s.mirrorWord addr.toNat) →
    ∃ s', exec (.crierRead addr) s = .next s' ∧
      (s'.out = s.out ++ [.crier (if s.flag RF.CRI_CTL_BUS_EN 0 0 then some v else none)] ∧
  s'.getF RF.CRI_READS_COUNT 0 0 = wrapAdd 48 (s.getF RF.CRI_READS_COUNT 0 0) 1 ∧
  s'.pins.latch = (if addr.toNat % 4 = 0 then some (addr.toNat / 4, (List.range 4).map (fun i =>
    s.mirrorWord (4 * (addr.toNat / 4) + i))) else s.pins.latch) ∧ s'.pins.queue = s.pins.queue ∧ s'.pins.mirror =
        s.pins.mirror) ∧
      s' = { s with regs := s'.regs, pins := s'.pins, out := s'.out } ∧
      s.onlyRegs [.CRI_READS] s') ∧
  (∀ (addr : BitVec 12) (s : State), s.pinsServe = false →
    ∃ s', exec (.crierRead addr) s = .next s' ∧
      (s'.out = s.out ++ [.crier none] ∧ s'.pins = s.pins ∧ s'.regs = s.regs) ∧
      s' = { s with regs := s'.regs, pins := s'.pins, out := s'.out } ∧
      s.onlyRegs [.CRI_READS] s') ∧
  (∀ (addr : BitVec 12) (data : BitVec 16) (rdLow : Bool) (s : State), s.pinsServe = true ∧ rdLow = false ∧ s.flag
        RF.CRI_CTL_MBX_EN 0 0 = true ∧ 0xF00 ≤ addr.toNat ∧ addr.toNat < 0xF07 →
    ∃ s', exec (.crierWrite addr data rdLow) s = .next s' ∧
      (s'.pins = { s.pins with window := s.pins.window.put 0 (addr.toNat - 0xF00) data.toNat } ∧ s'.out = s.out ∧
        s'.regs = s.regs) ∧
      s' = { s with regs := s'.regs, pins := s'.pins, out := s'.out } ∧
      s.onlyRegs [.CRI_READS, .CRI_STAT] s') ∧
  (∀ (addr : BitVec 12) (data : BitVec 16) (rdLow : Bool) (s : State), (s.pinsServe = true ∧ rdLow = false ∧
        (addr.toNat < 0xF00 ∨ 0xF07 < addr.toNat ∨ s.flag RF.CRI_CTL_MBX_EN 0 0 = false)) →
    ∃ s', exec (.crierWrite addr data rdLow) s = .next s' ∧
      (s'.getF RF.CRI_STAT_BAD_WRITE 0 0 = min (s.getF RF.CRI_STAT_BAD_WRITE 0 0 + 1) 65535 ∧ s'.pins = s.pins ∧
        s'.out = s.out) ∧
      s' = { s with regs := s'.regs, pins := s'.pins, out := s'.out } ∧
      s.onlyRegs [.CRI_READS, .CRI_STAT] s') ∧
  (∀ (addr : BitVec 12) (data : BitVec 16) (rdLow : Bool) (s : State), s.pinsServe = true ∧ rdLow = true →
    ∃ s', exec (.crierWrite addr data rdLow) s = .next s' ∧
      (s'.getF RF.CRI_STAT_BAD_CYCLE 0 0 = min (s.getF RF.CRI_STAT_BAD_CYCLE 0 0 + 1) 65535 ∧
  s'.getF RF.CRI_READS_COUNT 0 0 = wrapAdd 48 (s.getF RF.CRI_READS_COUNT 0 0) 1 ∧ s'.pins.window = s.pins.window ∧
        s'.pins.queue = s.pins.queue) ∧
      s' = { s with regs := s'.regs, pins := s'.pins, out := s'.out } ∧
      s.onlyRegs [.CRI_READS, .CRI_STAT] s') ∧
  (∀ (data : BitVec 16) (x : List Nat) (s : State), (s.pinsServe = true ∧ s.flag RF.CRI_CTL_MBX_EN 0 0 = true ∧
        s.pins.queue = [] ∧
  x = (List.range 8).map (fun i => (s.pins.window.put 0 7 data.toNat).look 0 i) ∧ (sbWellFormed x = true ∨ s.sbRuns =
        false)) →
    ∃ s', exec (.crierMailboxPost data) s = .next s' ∧
      (s'.pins = { s.pins with window := s.pins.window.put 0 7 data.toNat, queue := [x] } ∧ s'.regs = s.regs) ∧
      s' = { s with regs := s'.regs, pins := s'.pins } ∧
      s.onlyRegs [.CRI_STAT] s') ∧
  (∀ (data : BitVec 16) (x : List Nat) (s : State), s.pinsServe = true ∧ s.flag RF.CRI_CTL_MBX_EN 0 0 = true ∧
        s.pins.queue = [] ∧
  x = (List.range 8).map (fun i => (s.pins.window.put 0 7 data.toNat).look 0 i) ∧ sbWellFormed x = false ∧ s.sbRuns =
        true →
    ∃ s', exec (.crierMailboxPost data) s = .next s' ∧
      (s'.pins.queue = [] ∧ s'.pins.lastTag = x.getD 1 0 ∧ s'.pins.lastResult = 1 ∧ s'.regs = s.regs) ∧
      s' = { s with regs := s'.regs, pins := s'.pins } ∧
      s.onlyRegs [.CRI_STAT] s') ∧
  (∀ (data : BitVec 16) (s : State), s.pinsServe = true ∧ s.flag RF.CRI_CTL_MBX_EN 0 0 = true ∧ 8 ≤
        s.pins.queue.length →
    ∃ s', exec (.crierMailboxPost data) s = .next s' ∧
      (s'.pins.queue = s.pins.queue ∧ s'.getF RF.CRI_STAT_DROPPED 0 0 = min (s.getF RF.CRI_STAT_DROPPED 0 0 + 1)
        65535) ∧
      s' = { s with regs := s'.regs, pins := s'.pins } ∧
      s.onlyRegs [.CRI_STAT] s') ∧
  (∀ (g : Fin 1024) (l : List Nat) (s : State), s.hearthUp = true ∧ s.ownerUp g.val = true ∧ s.groupNow s.serial
        g.val = some l →
    ∃ s', exec (.mirrorPost g) s = .next s' ∧
      (s'.pins = { s.pins with posted := s.pins.posted.put [] g.val l } ∧ s'.regs = s.regs) ∧
      s' = { s with serial := s'.serial, pins := s'.pins }) ∧
  (∀ (g : Fin 1024) (s : State), (s.hearthUp = false ∨ s.ownerUp g.val = false) →
    ∃ s', exec (.mirrorPost g) s = .next s' ∧
      (s'.pins = s.pins ∧ s'.regs = s.regs) ∧
      s' = { s with serial := s'.serial, pins := s'.pins }) ∧
  (∀ (s : State), s.hearthUp = true →
    ∃ s', exec .mirrorRoll s = .next s' ∧
      (s'.getF RF.CRI_ROLL_SEQ 0 0 = wrapAdd 32 (s.getF RF.CRI_ROLL_SEQ 0 0) 1 ∧
  s'.getF RF.CRI_ROLL_VALID 0 0 = (s'.pins.posted.length + 16) % 2 ^ 10 ∧
  (∀ g, g < 16 ∨ 32 ≤ g → s'.pins.mirror.look [] g = s'.pins.posted.look [] g) ∧
  (∀ g, 16 ≤ g → g < 32 → s'.pins.mirror.look [] g =
    validWords (s'.pins.posted.map (·.1) ++ (List.range 16).map (· + 16)) g) ∧
  (∀ g, g ≠ 0 → g ≠ 2 → g ≠ 3 → s'.pins.posted.look [] g = s.pins.posted.look [] g)) ∧
      s' = { s with serial := s'.serial, regs := s'.regs, pins := s'.pins } ∧
      s.onlyRegs [.CRI_ROLL] s')

/-- A well-formed sideband command, at the head of the crier's queue or from SMBus, does what its row says and ends
  with a result that group 3 shows and SMBus gets: module state, P-state, field state, wafer cap, parish cap, wake
  arming, thermal resume, and GPIO writes by selector; the result is CMD_ERR where the register sets it or the value
  is out of range, and MALFORMED for reserved bits. -/
def Obligations.SidebandCommandsExecute : Prop :=
  (∀ (src : Sideband) (tag : BitVec 16) (arg0 : BitVec 16) (arg1 : BitVec 16) (data : Word) (x : List Nat) (s :
        State), x = sbWords 0x01 tag arg0 arg1 data ∧ s.sbNext src x = true ∧ s.modReady = true ∧ s.modState = 0 ∧
        arg0.toNat % 4 = 1 →
    ∃ s', exec (.sbSetModule src tag arg0 arg1 data) s = .next s' ∧
      (s.modGoes s' 3 1 = true ∧ s'.getF RF.PWR_MOD_CTL_DRAIN_MS 0 0 = max 1 (arg0.toNat / 256) ∧
  s'.getF RF.PWR_MOD_STAT_SOURCE 0 0 = (if src = .crier then 1 else 2) ∧ s.sbEnded src 1 tag.toNat 0 s' = true)) ∧
  (∀ (src : Sideband) (tag : BitVec 16) (arg0 : BitVec 16) (arg1 : BitVec 16) (data : Word) (x : List Nat) (s :
        State), x = sbWords 0x01 tag arg0 arg1 data ∧ s.sbNext src x = true ∧ s.pBusy = false ∧ s.modReady = false ∧
        arg0.toNat % 4 = 1 →
    ∃ s', exec (.sbSetModule src tag arg0 arg1 data) s = .next s' ∧
      (s'.modState = s.modState ∧ s'.flag RF.PWR_MOD_STAT_CMD_ERR 0 0 = true ∧ s.sbEnded src 1 tag.toNat 2 s' =
        true)) ∧
  (∀ (src : Sideband) (tag : BitVec 16) (arg0 : BitVec 16) (arg1 : BitVec 16) (data : Word) (s : State), src = .smbus
        ∧ s.sbRuns = true ∧ sbWellFormed (sbWords 0x01 tag arg0 arg1 data) = false →
    ∃ s', exec (.sbSetModule src tag arg0 arg1 data) s = .next s' ∧
      (s.sbEnded src 1 tag.toNat 1 s' = true ∧ s'.regs = s.regs ∧ s'.power = s.power)) ∧
  (∀ (src : Sideband) (tag : BitVec 16) (arg0 : BitVec 16) (arg1 : BitVec 16) (data : Word) (x : List Nat) (s :
        State), x = sbWords 0x02 tag arg0 arg1 data ∧ s.sbNext src x = true ∧ s.boot.stage = .ready ∧ arg0.toNat ≤ 5 →
    ∃ s', exec (.sbSetPstate src tag arg0 arg1 data) s = .next s' ∧
      (s'.pTarget = arg0.toNat ∧ s.sbEnded src 2 tag.toNat 0 s' = true)) ∧
  (∀ (src : Sideband) (tag : BitVec 16) (arg0 : BitVec 16) (arg1 : BitVec 16) (data : Word) (x : List Nat) (s :
        State), x = sbWords 0x02 tag arg0 arg1 data ∧ s.sbNext src x = true ∧ 5 < arg0.toNat →
    ∃ s', exec (.sbSetPstate src tag arg0 arg1 data) s = .next s' ∧
      (s'.power = s.power ∧ s'.regs = s.regs ∧ s.sbEnded src 2 tag.toNat 2 s' = true)) ∧
  (∀ (src : Sideband) (tag : BitVec 16) (arg0 : BitVec 16) (arg1 : BitVec 16) (data : Word) (x : List Nat) (s :
        State), x = sbWords 0x03 tag arg0 arg1 data ∧ s.sbNext src x = true ∧ s.fieldCommand arg0.toNat arg1.toNat =
        true →
    ∃ s', exec (.sbSetField src tag arg0 arg1 data) s = .next s' ∧
      (s'.flag RF.PWR_FLD_STAT_BUSY arg0.toNat 0 = true ∧ s'.power.fldTarget.look 0 arg0.toNat = arg1.toNat + 1 ∧
  s'.getF RF.PWR_FLD_CTL_TARGET arg0.toNat 0 = arg1.toNat ∧ s.sbEnded src 3 tag.toNat 0 s' = true)) ∧
  (∀ (src : Sideband) (tag : BitVec 16) (arg0 : BitVec 16) (arg1 : BitVec 16) (data : Word) (x : List Nat) (s :
        State), x = sbWords 0x03 tag arg0 arg1 data ∧ s.sbNext src x = true ∧ s.fieldCommand arg0.toNat arg1.toNat =
        false →
    ∃ s', exec (.sbSetField src tag arg0 arg1 data) s = .next s' ∧
      (s'.flag RF.PWR_FLD_STAT_CMD_ERR arg0.toNat 0 = true ∧ s'.power = s.power ∧ s.sbEnded src 3 tag.toNat 2 s' =
        true)) ∧
  (∀ (src : Sideband) (tag : BitVec 16) (arg0 : BitVec 16) (arg1 : BitVec 16) (data : Word) (x : List Nat) (s :
        State), x = sbWords 0x04 tag arg0 arg1 data ∧ s.sbNext src x = true ∧ 6000 ≤ data.toNat ∧ data.toNat ≤ 26000 ∧
  1 ≤ arg0.toNat / 2 ∧ arg0.toNat / 2 ≤ 20 →
    ∃ s', exec (.sbSetCapWafer src tag arg0 arg1 data) s = .next s' ∧
      (s'.getF RF.PWR_CAP_WAFER_CAP 0 0 = data.toNat ∧ s'.getF RF.PWR_CAP_CTL_ENABLE 0 0 = arg0.toNat % 2 ∧
  s'.getF RF.PWR_CAP_CTL_HYST 0 0 = arg0.toNat / 2 ∧ s.sbEnded src 4 tag.toNat 0 s' = true)) ∧
  (∀ (src : Sideband) (tag : BitVec 16) (arg0 : BitVec 16) (arg1 : BitVec 16) (data : Word) (x : List Nat) (s :
        State), (x = sbWords 0x04 tag arg0 arg1 data ∧ s.sbNext src x = true ∧ (data.toNat < 6000 ∨ 26000 <
        data.toNat) ∧
  1 ≤ arg0.toNat / 2 ∧ arg0.toNat / 2 ≤ 20) →
    ∃ s', exec (.sbSetCapWafer src tag arg0 arg1 data) s = .next s' ∧
      (s'.getF RF.PWR_CAP_WAFER_CAP 0 0 = s.getF RF.PWR_CAP_WAFER_CAP 0 0 ∧ s'.flag RF.PWR_MOD_STAT_CMD_ERR 0 0 =
        true ∧
  s.sbEnded src 4 tag.toNat 2 s' = true)) ∧
  (∀ (src : Sideband) (tag : BitVec 16) (arg0 : BitVec 16) (arg1 : BitVec 16) (data : Word) (x : List Nat) (s :
        State), (x = sbWords 0x05 tag arg0 arg1 data ∧ s.sbNext src x = true ∧ (data.toNat = 0 ∨ (100 ≤ data.toNat ∧
        data.toNat ≤ 26000))) →
    ∃ s', exec (.sbSetCapParish src tag arg0 arg1 data) s = .next s' ∧
      (s'.getF RF.PWR_PARn_CAP_CAP 0 arg0.toNat = data.toNat ∧ s.sbEnded src 5 tag.toNat 0 s' = true)) ∧
  (∀ (src : Sideband) (tag : BitVec 16) (arg0 : BitVec 16) (arg1 : BitVec 16) (data : Word) (x : List Nat) (s :
        State), (x = sbWords 0x05 tag arg0 arg1 data ∧ s.sbNext src x = true ∧ (0 < data.toNat ∧ data.toNat < 100 ∨
        26000 < data.toNat)) →
    ∃ s', exec (.sbSetCapParish src tag arg0 arg1 data) s = .next s' ∧
      (s'.getF RF.PWR_PARn_CAP_CAP 0 arg0.toNat = s.getF RF.PWR_PARn_CAP_CAP 0 arg0.toNat ∧ s'.flag
        RF.PWR_MOD_STAT_CMD_ERR 0 0 = true ∧
  s.sbEnded src 5 tag.toNat 2 s' = true)) ∧
  (∀ (src : Sideband) (tag : BitVec 16) (arg0 : BitVec 16) (arg1 : BitVec 16) (data : Word) (x : List Nat) (s :
        State), x = sbWords 0x06 tag arg0 arg1 data ∧ s.sbNext src x = true →
    ∃ s', exec (.sbSetWakeArm src tag arg0 arg1 data) s = .next s' ∧
      (s'.getF RF.PWR_WAKE_ARM_MASK 0 0 = arg0.toNat % 256 ∧ s'.getF RF.PWR_WAKE_ARM_TARGET 0 0 = arg0.toNat / 256 ∧
  s.sbEnded src 6 tag.toNat 0 s' = true)) ∧
  (∀ (src : Sideband) (tag : BitVec 16) (arg0 : BitVec 16) (arg1 : BitVec 16) (data : Word) (cool : Bool) (x : List
        Nat) (s : State), x = sbWords 0x07 tag arg0 arg1 data ∧ s.sbNext src x = true ∧ s.halted = true ∧
        s.seq.doorbells = [] ∧ s.resets.waiting = [] →
    ∃ s', exec (.sbThermResume src tag arg0 arg1 data cool) s = .next s' ∧
      ((cool = true → s'.halted = false ∧ s'.flag RF.PWR_THERM_CTL_TRIPPED 0 0 = false ∧ s.sbEnded src 7 tag.toNat 0
        s' = true) ∧
  (cool = false → s'.halted = true ∧ s'.flag RF.PWR_MOD_STAT_CMD_ERR 0 0 = true ∧ s.sbEnded src 7 tag.toNat 2 s' =
        true))) ∧
  (∀ (src : Sideband) (tag : BitVec 16) (arg0 : BitVec 16) (arg1 : BitVec 16) (data : Word) (x : List Nat) (s :
        State), x = sbWords 0x10 tag arg0 arg1 data ∧ s.sbNext src x = true ∧ arg0.toNat = 5 ∧ s.modState ≠ 2 →
    ∃ s', exec (.sbGpioWrite src tag arg0 arg1 data) s = .next s' ∧
      (s'.getF RF.GPIO_OUT_OUT 0 0 = data.toNat % 2 ^ 32 ∧ s.sbEnded src 0x10 tag.toNat 0 s' = true ∧
  (∀ i < 32, ∀ v, s'.driven i = some v → s'.pins.pads.testBit i = v))) ∧
  (∀ (src : Sideband) (tag : BitVec 16) (arg0 : BitVec 16) (arg1 : BitVec 16) (data : Word) (x : List Nat) (k : Nat)
        (s : State), x = sbWords 0x10 tag arg0 arg1 data ∧ s.sbNext src x = true ∧ arg0.toNat = 13 + k ∧ k < 4 ∧
        data.toNat % 512 ≤ 256 →
    ∃ s', exec (.sbGpioWrite src tag arg0 arg1 data) s = .next s' ∧
      (s'.getF RF.GPIO_PWMk_DUTY 0 k = data.toNat % 512 ∧ s.sbEnded src 0x10 tag.toNat 0 s' = true)) ∧
  (∀ (src : Sideband) (tag : BitVec 16) (arg0 : BitVec 16) (arg1 : BitVec 16) (data : Word) (x : List Nat) (s :
        State), x = sbWords 0x10 tag arg0 arg1 data ∧ s.sbNext src x = true ∧ arg0.toNat = 11 ∧ data.toNat % 65536 =
        0x5A5A ∧
  s.pins.lockArm.look 0 (if src = .crier then 1 else 2) = 0 →
    ∃ s', exec (.sbGpioWrite src tag arg0 arg1 data) s = .next s' ∧
      (s'.pins.lockArm.look 0 (if src = .crier then 1 else 2) = 1 ∧ s.sbEnded src 0x10 tag.toNat 0 s' = true ∧
        s'.regs = s.regs)) ∧
  (∀ (src : Sideband) (tag : BitVec 16) (arg0 : BitVec 16) (arg1 : BitVec 16) (data : Word) (x : List Nat) (s :
        State), x = sbWords 0x10 tag arg0 arg1 data ∧ s.sbNext src x = true ∧ 21 ≤ arg0.toNat ∧ arg0.toNat ≤ 26 →
    ∃ s', exec (.sbGpioWrite src tag arg0 arg1 data) s = .next s' ∧
      (s.writeIgnored .GPIO 0 (0x40 + 8 * arg0.toNat) 2 s' = true ∧ (∀ q a b, q ≠ .HDR_WRITE_ERR → s'.rd q a b = s.rd
        q a b) ∧
  s.sbEnded src 0x10 tag.toNat 2 s' = true))

/-- A synchronised level is kept and an edge or level that the pin's mode names sets its interrupt bit. OUT_SET and
  OUT_CLR change GPIO_OUT, and the pads follow what the outputs drive. The keys 0x5A5A and 0xA5A5 in sequence arm a
  source, whose mask then locks pins; otherwise LOCK_ERR. GO starts an I2C transfer, refused while BUSY, whose end
  stores the bytes read, or NACK. A tachometer shows RPM, and PPS_OUT follows the whole seconds of a running fabric
  time. -/
def Obligations.GpioPinsAndControllers : Prop :=
  (∀ (n : Fin 32) (level : Bool) (s : State), s.pinsServe = true →
    ∃ s', exec (.gpioIrqDetect n level) s = .next s' ∧
      (s'.pins.pads.testBit n.val = level ∧ (∀ m < 32, m ≠ n.val → s'.pins.pads.testBit m = s.pins.pads.testBit m) ∧
  s'.getF RF.GPIO_IRQ_STAT_STAT 0 0 = (if (s.pins.pads.testBit n.val ≠ level ∧ s.edgeQualifies n.val level = true) ∨
    (s.irqMode n.val = 4 ∧ level = true) ∨ (s.irqMode n.val = 5 ∧ level = false) then
    s.getF RF.GPIO_IRQ_STAT_STAT 0 0 ||| 2 ^ n.val else s.getF RF.GPIO_IRQ_STAT_STAT 0 0)) ∧
      s' = { s with regs := s'.regs, pins := s'.pins } ∧
      s.onlyRegs [.GPIO_IRQ_STAT] s') ∧
  (∀ (m : BitVec 32) (s : State), s.pinsServe = true ∧ s.modState ≠ 2 →
    ∃ s', exec (.gpioOutSet m) s = .next s' ∧
      (s'.getF RF.GPIO_OUT_OUT 0 0 = s.getF RF.GPIO_OUT_OUT 0 0 ||| m.toNat ∧
  (∀ i < 32, ∀ v, s'.driven i = some v → s'.pins.pads.testBit i = v) ∧
  (∀ i < 32, s'.driven i = none → s'.pins.pads.testBit i = s.pins.pads.testBit i))) ∧
  (∀ (m : BitVec 32) (s : State), s.pinsServe = true ∧ s.modState ≠ 2 →
    ∃ s', exec (.gpioOutClr m) s = .next s' ∧
      (s'.getF RF.GPIO_OUT_OUT 0 0 = s.getF RF.GPIO_OUT_OUT 0 0 &&& (2 ^ 32 - 1 - m.toNat) ∧
  (∀ i < 32, ∀ v, s'.driven i = some v → s'.pins.pads.testBit i = v) ∧
  (∀ i < 32, s'.driven i = none → s'.pins.pads.testBit i = s.pins.pads.testBit i))) ∧
  (∀ (src : GpioSource) (key : BitVec 16) (s : State), s.hearthUp = true →
    ∃ s', exec (.gpioLockKeyWrite src key) s = .next s' ∧
      ((∃ st, s'.pins = { s.pins with lockArm := s.pins.lockArm.put 0 (lockSource src) st }) ∧
  s'.pins.lockArm.look 0 (lockSource src) = (if s.pins.lockArm.look 0 (lockSource src) = 1 ∧ key = 0xA5A5#16 then 2
    else if s.pins.lockArm.look 0 (lockSource src) = 0 ∧ key = 0x5A5A#16 then 1 else 0)) ∧
      s' = { s with pins := s'.pins }) ∧
  (∀ (src : GpioSource) (mask : BitVec 32) (s : State), s.hearthUp = true ∧ s.pins.lockArm.look 0 (lockSource src) =
        2 →
    ∃ s', exec (.gpioLockSetWrite src mask) s = .next s' ∧
      (s'.getF RF.GPIO_LOCKED_LOCKED 0 0 = s.getF RF.GPIO_LOCKED_LOCKED 0 0 ||| mask.toNat ∧
  s'.pins.lockArm.look 0 (lockSource src) = 0) ∧
      s' = { s with regs := s'.regs, pins := s'.pins } ∧
      s.onlyRegs [.GPIO_LOCKED, .GPIO_STAT] s') ∧
  (∀ (src : GpioSource) (mask : BitVec 32) (s : State), s.hearthUp = true ∧ s.pins.lockArm.look 0 (lockSource src) ≠
        2 →
    ∃ s', exec (.gpioLockSetWrite src mask) s = .next s' ∧
      (s'.flag RF.GPIO_STAT_LOCK_ERR 0 0 = true ∧ s'.getF RF.GPIO_LOCKED_LOCKED 0 0 = s.getF RF.GPIO_LOCKED_LOCKED 0
        0 ∧ s'.pins = s.pins) ∧
      s' = { s with regs := s'.regs, pins := s'.pins } ∧
      s.onlyRegs [.GPIO_LOCKED, .GPIO_STAT] s') ∧
  (∀ (n : Fin 2) (addr : BitVec 7) (read : Bool) (len : BitVec 3) (s : State), s.pinsServe = true ∧ s.flag
        RF.GPIO_I2Cn_BUSY 0 n.val = false →
    ∃ s', exec (.i2cGo n addr read len) s = .next s' ∧
      (s'.flag RF.GPIO_I2Cn_BUSY 0 n.val = true ∧ s'.getF RF.GPIO_I2Cn_ADDRESS 0 n.val = addr.toNat ∧
  s'.flag RF.GPIO_I2Cn_READ 0 n.val = read ∧ s'.getF RF.GPIO_I2Cn_LENGTH 0 n.val = len.toNat ∧
  s'.out = s.out ++ [.i2c n.val (addr.toNat * 2 + b2n read) (if read then [] else
    (leBytes 8 (s.rd .GPIO_I2Cn_DATA 0 n.val).toNat).take (len.toNat + 1))]) ∧
      s' = { s with regs := s'.regs, out := s'.out } ∧
      s.onlyRegs [.GPIO_I2Cn, .GPIO_STAT] s') ∧
  (∀ (n : Fin 2) (addr : BitVec 7) (read : Bool) (len : BitVec 3) (s : State), s.pinsServe = true ∧ s.flag
        RF.GPIO_I2Cn_BUSY 0 n.val = true →
    ∃ s', exec (.i2cGo n addr read len) s = .next s' ∧
      (s'.flag RF.GPIO_STAT_CMD_ERR 0 0 = true ∧ s'.out = s.out ∧ s'.getF RF.GPIO_I2Cn_ADDRESS 0 n.val = s.getF
        RF.GPIO_I2Cn_ADDRESS 0 n.val) ∧
      s' = { s with regs := s'.regs, out := s'.out } ∧
      s.onlyRegs [.GPIO_I2Cn, .GPIO_STAT] s') ∧
  (∀ (n : Fin 2) (nack : Bool) (data : Word) (s : State), s.flag RF.GPIO_I2Cn_BUSY 0 n.val = true →
    ∃ s', exec (.i2cDone n nack data) s = .next s' ∧
      (s'.flag RF.GPIO_I2Cn_BUSY 0 n.val = false ∧ (nack = true → s'.flag RF.GPIO_I2Cn_NACK 0 n.val = true ∧
    s'.rd .GPIO_I2Cn_DATA 0 n.val = s.rd .GPIO_I2Cn_DATA 0 n.val) ∧
  (nack = false → s.flag RF.GPIO_I2Cn_READ 0 n.val = true →
    bits (s'.rd .GPIO_I2Cn_DATA 0 n.val) 0 (8 * (s.getF RF.GPIO_I2Cn_LENGTH 0 n.val + 1)) =
      data.toNat % 2 ^ (8 * (s.getF RF.GPIO_I2Cn_LENGTH 0 n.val + 1)))) ∧
      s' = { s with regs := s'.regs } ∧
      s.onlyRegs [.GPIO_I2Cn, .GPIO_I2Cn_DATA] s') ∧
  (∀ (k : Fin 4) (rpm : BitVec 16) (s : State), s.pinsServe = true ∧ (s.getF RF.GPIO_FUNC_FUNC 0 0).testBit (16 +
        k.val) = true →
    ∃ s', exec (.tachUpdate k rpm) s = .next s' ∧
      (s'.getF RF.GPIO_TACHk_RPM 0 k.val = rpm.toNat) ∧
      s' = { s with regs := s'.regs } ∧
      s.onlyRegs [.GPIO_TACHk] s') ∧
  (∀ (s : State), ∃ s', exec .ppsOutEdge s = .next s' ∧
      (s'.pins.ppsOut = (s.ppsRuns && decide (s.fabricTime % 1000000000 < 1000000)) ∧
  s'.out = s.out ++ (if s.pins.ppsOut = s'.pins.ppsOut then [] else [.pin 24 s'.pins.ppsOut])) ∧
      s' = { s with pins := s'.pins, out := s'.out })

/-- While the hearth serves its pins, a packet with a bad PEC is counted and dropped, and each MCTP control request
  and each PLDM request with a good one is answered: endpoint id, UUID with the unit identity, version, message
  types, vendor id; TID, types, commands and versions; sensor values from the mirror, unavailable while their group
  is not valid; PDRs; and the FRU record with identity, name, lifecycle and build. The numeric message codes are the
  model's (PRESUMED, assumption log), not the spec's. -/
def Obligations.MctpAndPldmAnswers : Prop :=
  (∀ (pec : Bool) (eid : BitVec 8) (s : State), s.pinsServe = true ∧ pec = true ∧ eid ≠ 0#8 ∧ eid ≠ 0xFF#8 →
    ∃ s', exec (.mctpSetEndpointId pec eid) s = .next s' ∧
      (s'.getF RF.HRT_SMB_STAT_EID 0 0 = eid.toNat ∧ s.mctpAnswered [0x00, eid.toNat] s' = true) ∧
      s' = { s with regs := s'.regs, out := s'.out } ∧
      s.onlyRegs [.HRT_SMB_STAT] s') ∧
  (∀ (pec : Bool) (eid : BitVec 8) (s : State), (s.pinsServe = true ∧ pec = true ∧ (eid = 0#8 ∨ eid = 0xFF#8)) →
    ∃ s', exec (.mctpSetEndpointId pec eid) s = .next s' ∧
      (s'.getF RF.HRT_SMB_STAT_EID 0 0 = s.getF RF.HRT_SMB_STAT_EID 0 0 ∧ s'.getF RF.HRT_SMB_STAT_MALFORMED 0 0 =
  min (s.getF RF.HRT_SMB_STAT_MALFORMED 0 0 + 1) (2 ^ RF.HRT_SMB_STAT_MALFORMED.w - 1)) ∧
      s' = { s with regs := s'.regs, out := s'.out } ∧
      s.onlyRegs [.HRT_SMB_STAT] s') ∧
  (∀ (pec : Bool) (s : State), s.pinsServe = true ∧ pec = true →
    ∃ s', exec (.mctpGetEndpointId pec) s = .next s' ∧
      (s.mctpAnswered [0x00, s.getF RF.HRT_SMB_STAT_EID 0 0] s' = true) ∧
      s' = { s with regs := s'.regs, out := s'.out } ∧
      s.onlyRegs [.HRT_SMB_STAT] s') ∧
  (∀ (pec : Bool) (s : State), s.pinsServe = true ∧ pec = false →
    ∃ s', exec (.mctpGetEndpointId pec) s = .next s' ∧
      (s'.out = s.out ∧ s'.getF RF.HRT_SMB_STAT_PEC 0 0 =
  min (s.getF RF.HRT_SMB_STAT_PEC 0 0 + 1) (2 ^ RF.HRT_SMB_STAT_PEC.w - 1)) ∧
      s' = { s with regs := s'.regs, out := s'.out } ∧
      s.onlyRegs [.HRT_SMB_STAT] s') ∧
  (∀ (pec : Bool) (s : State), s.pinsServe = true ∧ pec = true →
    ∃ s', exec (.mctpGetEndpointUuid pec) s = .next s' ∧
      (∃ l, l.length = 8 ∧ s'.out = s.out ++ [.smbus (0#8 :: l ++ leBytes 8 Config.unitIdentity.toNat)]) ∧
      s' = { s with serial := s'.serial, regs := s'.regs, out := s'.out } ∧
      s.onlyRegs [.HRT_SMB_STAT] s') ∧
  (∀ (pec : Bool) (s : State), s.pinsServe = true ∧ pec = true →
    ∃ s', exec (.mctpGetVersionSupport pec) s = .next s' ∧
      (s.mctpAnswered [0x00, 1, 0xF1, 0xF3, 0xFF, 0x00] s' = true) ∧
      s' = { s with regs := s'.regs, out := s'.out } ∧
      s.onlyRegs [.HRT_SMB_STAT] s') ∧
  (∀ (pec : Bool) (s : State), s.pinsServe = true ∧ pec = true →
    ∃ s', exec (.mctpGetMsgTypeSupport pec) s = .next s' ∧
      (s.mctpAnswered [0x00, 4, 0x00, 0x01, 0x05, 0x7F] s' = true) ∧
      s' = { s with regs := s'.regs, out := s'.out } ∧
      s.onlyRegs [.HRT_SMB_STAT] s') ∧
  (∀ (pec : Bool) (s : State), s.pinsServe = true ∧ pec = true →
    ∃ s', exec (.mctpGetVendorSupport pec) s = .next s' ∧
      (s.mctpAnswered [0x00, 0xFF, 0x01, 0x00, 0x00, 0xE4, 0x37] s' = true) ∧
      s' = { s with regs := s'.regs, out := s'.out } ∧
      s.onlyRegs [.HRT_SMB_STAT] s') ∧
  (∀ (pec : Bool) (s : State), s.pinsServe = true ∧ pec = true →
    ∃ s', exec (.pldmGetTid pec) s = .next s' ∧
      (s.mctpAnswered [0x00, s.pins.tid] s' = true) ∧
      s' = { s with regs := s'.regs, out := s'.out } ∧
      s.onlyRegs [.HRT_SMB_STAT] s') ∧
  (∀ (pec : Bool) (tid : BitVec 8) (s : State), s.pinsServe = true ∧ pec = true →
    ∃ s', exec (.pldmSetTid pec tid) s = .next s' ∧
      (s'.pins = { s.pins with tid := tid.toNat } ∧ s.mctpAnswered [0x00] s' = true) ∧
      s' = { s with regs := s'.regs, pins := s'.pins, out := s'.out } ∧
      s.onlyRegs [.HRT_SMB_STAT] s') ∧
  (∀ (pec : Bool) (type_ : BitVec 8) (s : State), s.pinsServe = true ∧ pec = true →
    ∃ s', exec (.pldmGetVersion pec type_) s = .next s' ∧
      ((pldmType type_.toNat = true → ∃ l, l.length = 4 ∧ s'.out = s.out ++ [.smbus (0#8 :: l)]) ∧
  (pldmType type_.toNat = false → s.mctpAnswered [0x83] s' = true)) ∧
      s' = { s with serial := s'.serial, regs := s'.regs, out := s'.out } ∧
      s.onlyRegs [.HRT_SMB_STAT] s') ∧
  (∀ (pec : Bool) (s : State), s.pinsServe = true ∧ pec = true →
    ∃ s', exec (.pldmGetTypes pec) s = .next s' ∧
      (s.mctpAnswered [0x00, 0x15, 0, 0, 0, 0, 0, 0, 0] s' = true) ∧
      s' = { s with regs := s'.regs, out := s'.out } ∧
      s.onlyRegs [.HRT_SMB_STAT] s') ∧
  (∀ (pec : Bool) (type_ : BitVec 8) (s : State), s.pinsServe = true ∧ pec = true →
    ∃ s', exec (.pldmGetCommands pec type_) s = .next s' ∧
      ((pldmType type_.toNat = true → s'.out = s.out ++ [.smbus (0#8 :: leBytes 32 (listMask (pldmCommands
        type_.toNat)))]) ∧
  (pldmType type_.toNat = false → s.mctpAnswered [0x83] s' = true)) ∧
      s' = { s with regs := s'.regs, out := s'.out } ∧
      s.onlyRegs [.HRT_SMB_STAT] s') ∧
  (∀ (pec : Bool) (s : State), s.pinsServe = true ∧ pec = true →
    ∃ s', exec (.pldmGetPdrRepoInfo pec) s = .next s' ∧
      (∃ l, s'.out = s.out ++ [.smbus (0#8 :: l)]) ∧
      s' = { s with serial := s'.serial, regs := s'.regs, out := s'.out } ∧
      s.onlyRegs [.HRT_SMB_STAT] s') ∧
  (∀ (pec : Bool) (record : BitVec 32) (s : State), s.pinsServe = true ∧ pec = true →
    ∃ s', exec (.pldmGetPdr pec record) s = .next s' ∧
      (∃ l, s'.out = s.out ++ [.smbus (0#8 :: l)]) ∧
      s' = { s with serial := s'.serial, regs := s'.regs, out := s'.out } ∧
      s.onlyRegs [.HRT_SMB_STAT] s') ∧
  (∀ (pec : Bool) (id : BitVec 16) (s : State), s.pinsServe = true ∧ pec = true ∧ id = 2#16 ∧ s.groupValid 0x21 =
        true →
    ∃ s', exec (.pldmGetSensorReading pec id) s = .next s' ∧
      (s'.out = s.out ++ [.smbus (0#8 :: leBytes 8 (s.mirrorWord 0x085))]) ∧
      s' = { s with regs := s'.regs, out := s'.out } ∧
      s.onlyRegs [.HRT_SMB_STAT] s') ∧
  (∀ (pec : Bool) (id : BitVec 16) (s : State), s.pinsServe = true ∧ pec = true ∧ 1 ≤ id.toNat ∧ id.toNat ≤ 8 ∧
        s.pins.mirror = [] →
    ∃ s', exec (.pldmGetSensorReading pec id) s = .next s' ∧
      (s.mctpAnswered [0x00, 0x02] s' = true) ∧
      s' = { s with regs := s'.regs, out := s'.out } ∧
      s.onlyRegs [.HRT_SMB_STAT] s') ∧
  (∀ (pec : Bool) (id : BitVec 16) (s : State), (s.pinsServe = true ∧ pec = true ∧ (id = 0#16 ∨ 9 ≤ id.toNat)) →
    ∃ s', exec (.pldmGetSensorReading pec id) s = .next s' ∧
      (s.mctpAnswered [0x80] s' = true) ∧
      s' = { s with regs := s'.regs, out := s'.out } ∧
      s.onlyRegs [.HRT_SMB_STAT] s') ∧
  (∀ (pec : Bool) (id : BitVec 16) (s : State), s.pinsServe = true ∧ pec = true ∧ id = 23#16 ∧ s.groupValid 0x28 =
        true →
    ∃ s', exec (.pldmGetStateSensors pec id) s = .next s' ∧
      (s'.out = s.out ++ [.smbus (0#8 :: leBytes 8 (s.mirrorWord 0x0A2 % 8))]) ∧
      s' = { s with regs := s'.regs, out := s'.out } ∧
      s.onlyRegs [.HRT_SMB_STAT] s') ∧
  (∀ (pec : Bool) (id : BitVec 16) (s : State), s.pinsServe = true ∧ pec = true ∧ 20 ≤ id.toNat ∧ id.toNat ≤ 25 ∧
        s.pins.mirror = [] →
    ∃ s', exec (.pldmGetStateSensors pec id) s = .next s' ∧
      (s.mctpAnswered [0x00, 0x02] s' = true) ∧
      s' = { s with regs := s'.regs, out := s'.out } ∧
      s.onlyRegs [.HRT_SMB_STAT] s') ∧
  (∀ (pec : Bool) (s : State), s.pinsServe = true ∧ pec = true →
    ∃ s', exec (.pldmGetFruMetadata pec) s = .next s' ∧
      (∃ l, s'.out = s.out ++ [.smbus (0#8 :: l)]) ∧
      s' = { s with serial := s'.serial, regs := s'.regs, out := s'.out } ∧
      s.onlyRegs [.HRT_SMB_STAT] s') ∧
  (∀ (pec : Bool) (s : State), s.pinsServe = true ∧ pec = true →
    ∃ s', exec (.pldmGetFruTable pec) s = .next s' ∧
      (s'.out = s.out ++ [.smbus (0#8 :: leBytes 8 Config.unitIdentity.toNat ++ [0x48#8, 0x6F#8, 0x72#8, 0x75#8,
        0x73#8, 0x6B#8,
  BitVec.ofNat 8 s.lifecycle] ++ leBytes 4 (s.getF RF.HRT_SYS_ID_BUILD 0 0))]) ∧
      s' = { s with regs := s'.regs, out := s'.out } ∧
      s.onlyRegs [.HRT_SMB_STAT] s')

/-- A rising, unmasked line is remembered and sends the wafer's message, or is coalesced within the holdoff; the end
  of the holdoff sends one message where rises waited and the wafer line still stands, and otherwise ends; REARM
  sends one where the line stands. A capture is cleared and re-armed by 1 to VALID, its error time with it, and by 1
  to MORE alone only MORE is cleared; HDR_WRITE_ERR likewise. -/
def Obligations.InterruptsAndCaptures : Prop :=
  (∀ (place : RegPlace) (p : Page) (i : Nat) (s : State), placePage place = some (p, i) ∧ s.lineHigh (hdrInst p i) =
        true ∧ s.irq.lines.contains (hdrInst p i) = false ∧
  s.h0Frozen = false ∧ s.lineFn p i = none →
    ∃ s', exec (.irqLineRise place) s = .next s' ∧
      (s'.irq.lines.contains (hdrInst p i) = true ∧
  (s.irqHeld = true → s'.irq.pending = true ∧ s'.out = s.out ∧ s'.getF RF.WFR_IRQ_SENT_COALESCED 0 0 =
    wrapAdd RF.WFR_IRQ_SENT_COALESCED.w (s.getF RF.WFR_IRQ_SENT_COALESCED 0 0) 1) ∧
  (s.irqHeld = false → s.irqWasSent s' = true)) ∧
      s' = { s with regs := s'.regs, host := s'.host, irq := s'.irq, out := s'.out } ∧
      s.onlyRegs [.HST_PORT_EVENT, .HST_PORT_MSIX_DROP, .WFR_IRQ_SENT] s') ∧
  (∀ (place : RegPlace) (p : Page) (i : Nat) (s : State), placePage place = some (p, i) ∧ s.lineHigh (hdrInst p i) =
        false →
    ∃ s', exec (.irqLineRise place) s = .next s' ∧
      (s'.irq.lines.contains (hdrInst p i) = false ∧ s'.out = s.out ∧ s'.regs = s.regs) ∧
      s' = { s with regs := s'.regs, host := s'.host, irq := s'.irq, out := s'.out } ∧
      s.onlyRegs [.HST_PORT_EVENT, .HST_PORT_MSIX_DROP, .WFR_IRQ_SENT] s') ∧
  (∀ (s : State), ∃ s', exec .irqHoldoffExpire s = .next s' ∧
      ((s.irq.pending = true → s.waferLine = true → s.irqWasSent s' = true) ∧
  (s.irq.pending = false ∨ s.waferLine = false → s'.irq = { s.irq with pending := false, holdoff := none } ∧
    s'.out = s.out ∧ s'.regs = s.regs)) ∧
      s' = { s with regs := s'.regs, host := s'.host, irq := s'.irq, out := s'.out } ∧
      s.onlyRegs [.HST_PORT_EVENT, .HST_PORT_MSIX_DROP, .WFR_IRQ_SENT] s') ∧
  (∀ (s : State), s.waferLine = true →
    ∃ s', exec .irqRearm s = .next s' ∧
      (s.irqWasSent s' = true ∧ s'.irq.lines = s.irq.lines) ∧
      s' = { s with regs := s'.regs, host := s'.host, irq := s'.irq, out := s'.out } ∧
      s.onlyRegs [.HST_PORT_EVENT, .HST_PORT_MSIX_DROP, .WFR_IRQ_SENT] s') ∧
  (∀ (s : State), s.waferLine = false →
    ∃ s', exec .irqRearm s = .next s' ∧
      (s' = s) ∧
      s' = { s with regs := s'.regs, host := s'.host, irq := s'.irq, out := s'.out } ∧
      s.onlyRegs [.HST_PORT_EVENT, .HST_PORT_MSIX_DROP, .WFR_IRQ_SENT] s') ∧
  (∀ (place : RegPlace) (writeErr : Bool) (more : Bool) (p : Page) (i : Nat) (r : Reg) (v : Nat) (s : State),
        placePage place = some (p, i) ∧ s.pageUp p = true ∧ writeErr = false ∧ p.info.errReg = some r ∧ (r, v) ∈
        captureRegs ∧
  r ≠ .HST_FN_WIN_ERR →
    ∃ s', exec (.errCaptureClear place writeErr more) s = .next s' ∧
      ((more = false → s'.rd r i 0 = 0#64 ∧ s'.rd .HDR_ERR_TIME (hdrInst p i) 0 = 0#64) ∧
  (more = true → bit (s'.rd r i 0) (v + 1) = false ∧ bit (s'.rd r i 0) v = bit (s.rd r i 0) v)) ∧
      s' = { s with regs := s'.regs, irq := s'.irq }) ∧
  (∀ (place : RegPlace) (writeErr : Bool) (more : Bool) (p : Page) (i : Nat) (s : State), placePage place = some (p,
        i) ∧ s.pageUp p = true ∧ writeErr = true ∧ more = false →
    ∃ s', exec (.errCaptureClear place writeErr more) s = .next s' ∧
      (s'.rd .HDR_WRITE_ERR (hdrInst p i) 0 = 0#64) ∧
      s' = { s with regs := s'.regs, irq := s'.irq })

/-- An aligned write of 8 bytes, permitted, on a page that is up, to a register without an effect of its own gives
  each field what its mark says: RW takes the bits, RW1C is cleared by ones, others keep their value. An ignored
  write is captured in HDR_WRITE_ERR with its offset and the cause: 3 not permitted, 1 no register, 2 nothing
  writable. A page that is not up ignores writes; a read gives what the page reads as; a doorbell of BAR4 is the
  ring's doorbell. -/
def Obligations.RegisterAccesses : Prop :=
  (∀ (path : RegPath) (op : RegOp) (place : RegPlace) (offset : BitVec 12) (data : List Byte) (p : Page) (i : Nat) (r
        : Reg) (j k : Nat) (s : State), path = .wctl place offset ∧ op = .write data ∧ data.length = 8 ∧ offset.toNat
        % 8 = 0 ∧ placePage place = some (p, i) ∧
  s.pageUp p = true ∧ regAt p i offset.toNat = some (r, j, k) ∧ s.plainWrite r j k (w64 (leNat data)) = true ∧
  r.info.fields.all (fun x => decide (x.acc = .ro)) = false →
    ∃ s', exec (.registerWrite path op) s = .next s' ∧
      (r.info.fields.all (fun x => fieldAfter x (s.rd r j k) (w64 (leNat data)) (s'.rd r j k)) = true ∧ s'.out =
        s.out ∧
  (∀ q a b, q ≠ r → s'.rd q a b = s.rd q a b) ∧ s'.mem = s.mem ∧ s'.seq = s.seq)) ∧
  (∀ (path : RegPath) (op : RegOp) (place : RegPlace) (offset : BitVec 12) (data : List Byte) (p : Page) (i : Nat) (r
        : Reg) (j k : Nat) (s : State), path = .reeve place offset ∧ op = .write data ∧ data.length = 8 ∧
        offset.toNat % 8 = 0 ∧ placePage place = some (p, i) ∧
  s.pageUp p = true ∧ regAt p i offset.toNat = some (r, j, k) ∧ s.regWriter .reeve p i r = false →
    ∃ s', exec (.registerWrite path op) s = .next s' ∧
      (s.writeIgnored p i offset.toNat 3 s' = true ∧ (∀ q a b, q ≠ .HDR_WRITE_ERR → s'.rd q a b = s.rd q a b))) ∧
  (∀ (path : RegPath) (op : RegOp) (place : RegPlace) (offset : BitVec 12) (data : List Byte) (p : Page) (i : Nat) (s
        : State), path = .wctl place offset ∧ op = .write data ∧ data.length = 8 ∧ offset.toNat % 8 = 0 ∧ placePage
        place = some (p, i) ∧
  s.pageUp p = true ∧ regAt p i offset.toNat = none →
    ∃ s', exec (.registerWrite path op) s = .next s' ∧
      (s.writeIgnored p i offset.toNat 1 s' = true ∧ (∀ q a b, q ≠ .HDR_WRITE_ERR → s'.rd q a b = s.rd q a b))) ∧
  (∀ (path : RegPath) (op : RegOp) (place : RegPlace) (offset : BitVec 12) (data : List Byte) (p : Page) (i : Nat) (r
        : Reg) (j k : Nat) (s : State), path = .wctl place offset ∧ op = .write data ∧ data.length = 8 ∧ offset.toNat
        % 8 = 0 ∧ placePage place = some (p, i) ∧
  s.pageUp p = true ∧ regAt p i offset.toNat = some (r, j, k) ∧ r.info.fields.all (fun x => decide (x.acc = .ro)) =
        true →
    ∃ s', exec (.registerWrite path op) s = .next s' ∧
      (s.writeIgnored p i offset.toNat 2 s' = true ∧ (∀ q a b, q ≠ .HDR_WRITE_ERR → s'.rd q a b = s.rd q a b))) ∧
  (∀ (path : RegPath) (op : RegOp) (place : RegPlace) (offset : BitVec 12) (data : List Byte) (p : Page) (i : Nat) (s
        : State), path = .wctl place offset ∧ op = .write data ∧ placePage place = some (p, i) ∧ s.pageUp p = false →
    ∃ s', exec (.registerWrite path op) s = .next s' ∧
      (s' = s)) ∧
  (∀ (path : RegPath) (op : RegOp) (place : RegPlace) (offset : BitVec 12) (n : Nat) (p : Page) (i : Nat) (r : Reg)
        (j k : Nat) (s : State), path = .wctl place offset ∧ op = .read n ∧ n ≤ 8 ∧ offset.toNat % 8 = 0 ∧ placePage
        place = some (p, i) ∧
  s.pageUp p = true ∧ regAt p i offset.toNat = some (r, j, k) ∧ r = .WFR_RCV_CTL →
    ∃ s', exec (.registerWrite path op) s = .next s' ∧
      (s'.out = s.out ++ [.regRead (w64 (leNat ((leBytes 8 (s.rd r j k).toNat).take n)))] ∧ s'.regs = s.regs ∧ s'.mem
        = s.mem)) ∧
  (∀ (path : RegPath) (op : RegOp) (p : ParishId) (r : RingId) (data : List Byte) (s : State), path = .bar4 0
        (BitVec.ofNat 24 (4096 * (64 * p.val + r.val))) ∧ op = .write data ∧ data.length = 4 ∧ s.host.ready = true ∧
  s.fnOn 0 = true →
    ∃ s', exec (.registerWrite path op) s = .next s' ∧
      (s' = s.ringDoorbell p r (leNat data % 65536)))

/-- For every command c and state s, a step of s with c at the front of its queue is exec c on s with the queue's
  rest; and what a word of the table spells is put at the front, which for this table, whose rows give no bits, is
  nothing. The queue is the model's own (DESIGN CHOICE, assumption log). -/
def Obligations.StepRunsTheFrontCommand : Prop :=
  (∀ (c : Instr) (rest : List Instr) (s : State),
    step { s with pending := c :: rest } = exec c { s with pending := rest }) ∧
  (∀ (s : State) (n w : Nat), s.withFetchWord n w = s)

/-- With no command waiting, no scrub and no request outstanding, a step adds 1 ns to the time; so fabric time does
  too, and each 10,000 ns a slew in progress moves it by 1 ns more or less; registers, memory and everything else
  stay. That time passes on an empty queue is the model's choice (DESIGN CHOICE, assumption log). -/
def Obligations.AnEmptyQueueLetsTimePass : Prop :=
  ∀ s : State, s.pending = [] → s.commons.reqs = [] → s.reeve.scrubs = [] →
    ∃ s', step s = .next s' ∧ s'.now = s.now + 1 ∧
      ((s.now + 1) % 10000 ≠ 0 → s'.timeOffset = s.timeOffset ∧ s'.fabric = s.fabric) ∧
      ((s.now + 1) % 10000 = 0 → 0 < s.fabric.slew → s'.timeOffset = s.timeOffset + 1 ∧
        s'.fabric = { s.fabric with slew := s.fabric.slew - 1 }) ∧
      ((s.now + 1) % 10000 = 0 → s.fabric.slew < 0 → s'.timeOffset = s.timeOffset - 1 ∧
        s'.fabric = { s.fabric with slew := s.fabric.slew + 1 }) ∧
      s' = { s with now := s.now + 1, timeOffset := s'.timeOffset, fabric := s'.fabric }

/-- Every command that is well formed has a next state in every state of the module, but for four whose operand
  length depends on what was asked for; those end, like any other, in a next state or in the fault that names the
  malformed operand. No command is ever refused, and the only fault is that of a malformed operand. -/
def Obligations.OnlyMalformedOperandsStop : Prop :=
  (∀ (c : Instr) (s : State), c.wellFormed = true → lengthDue c = false → ∃ s', exec c s = .next s') ∧
  (∀ (c : Instr) (s : State) (r : Refusal), exec c s ≠ .refused r) ∧
  (∀ (c : Instr) (s : State) (e : Fault), exec c s = .fault e → (c.wellFormed = false ∨ lengthDue c = true) ∧
    ∃ m, e = .malformedOperand m)

/-- Whatever command is in front, or none, a step from a state whose memory and register file are in canonical form
  (keys rising, each once, no entry equal to what an unlisted one reads as) leads to a state in that form. -/
def Obligations.StepKeepsTheCanonicalForm : Prop :=
  ∀ s s' : State, s.canonical → step s = .next s' → s'.canonical

/-- After reset the module is off: no command waits, memory lists nothing, the form is canonical, no thread lives, no
  unit has work, no sheaf, request or scrub is under way, and every register but the lifecycle fuses reads the reset
  value of its page. The lifecycle fuses and the registers whose reset value the spec does not state hold the model's
  choices (DESIGN CHOICE and PRESUMED, assumption log). -/
def Obligations.ResetIsCold : Prop :=
  State.reset.canonical ∧ State.reset.pending = [] ∧ State.reset.boot.stage = .off ∧
  State.reset.mem = ⟨[], [], [], []⟩ ∧ State.reset.crofters.threads = [] ∧ State.reset.engines = [] ∧
  State.reset.seq.sheaves = [] ∧ State.reset.commons.reqs = [] ∧ State.reset.reeve.scrubs = [] ∧
  (∀ k : RKey, k ≠ ⟨.RVE_LIFECYCLE, 0, 0⟩ → State.reset.rd k.reg k.inst.val k.idx.val = k.reset)

/-- While the wafer is FREEZING or FROZEN, a trigger by the pin (enabled), the register or a member's message leaves
  everything as it is but for ASY_FRZ_STAT.MORE, which is set, and ASY_FRZ_IGNORED, which counts it; the TAP's
  trigger does the same beside being the TAP's instruction. -/
def Obligations.SecondFreezeTriggerOnlyCounts : Prop :=
  ∀ s : State, s.boot.stage = .ready →
    s.getF RF.ASY_FRZ_STAT_STATE 0 0 = 1 ∨ s.getF RF.ASY_FRZ_STAT_STATE 0 0 = 2 →
    (∃ s', exec .freezeRegister s = .next s' ∧ s.secondTrigger s') ∧
    (s.saving = false → s.flag RF.ASY_FRZ_CTL_PIN_EN 0 0 = true → s.pinTest = false →
      ∃ s', exec .freezePin s = .next s' ∧ s.secondTrigger s') ∧
    (∀ (w : WaferId) (id epoch : BitVec 16), s.freezeMsgOk w.val epoch.toNat = true →
      ∃ s', exec (.freezeMessageReceive w id epoch) s = .next s' ∧ s.secondTrigger s') ∧
    (s.tapOpen = true → ∃ s', exec (.tapFreeze true) s = .next s' ∧ (s.tapMode 0).secondTrigger s')

/-- HDR_IRQ_STAT.EVENT of the GPIO page reads 1 exactly while GPIO_IRQ_STAT is nonzero; LOCK_ERR and CMD_ERR,
  whatever they hold, change neither its interrupt bits nor its line; and the page has no first-error capture, so ERR
  reads 0. -/
def Obligations.GpioPageEventAndCapture : Prop :=
  ∀ (s : State) (k : Nat),
    bit (s.view k .HDR_IRQ_STAT (hdrInst .GPIO 0) 0) 1 = decide (s.rd .GPIO_IRQ_STAT 0 0 ≠ 0#64) ∧
    (∀ lock cmd : Bool,
      let t := (s.setFlag RF.GPIO_STAT_LOCK_ERR 0 0 lock).setFlag RF.GPIO_STAT_CMD_ERR 0 0 cmd
      t.view k .HDR_IRQ_STAT (hdrInst .GPIO 0) 0 = s.view k .HDR_IRQ_STAT (hdrInst .GPIO 0) 0 ∧
        t.lineHigh (hdrInst .GPIO 0) = s.lineHigh (hdrInst .GPIO 0)) ∧
    (Page.info .GPIO).errReg = none ∧ bit (s.view k .HDR_IRQ_STAT (hdrInst .GPIO 0) 0) 0 = false

/-- A transfer started while its controller is busy is ignored and sets CMD_ERR; a transfer that is refused ends with
  NACK set, BUSY clear, its data as they were and nothing more sent. -/
def Obligations.BusyI2cAndNack : Prop :=
  ∀ (n : Fin 2) (s : State), s.flag RF.GPIO_I2Cn_BUSY 0 n.val = true →
    (s.pinsServe = true → ∀ (addr : BitVec 7) (read : Bool) (len : BitVec 3),
      ∃ s', exec (.i2cGo n addr read len) s = .next s' ∧ s'.flag RF.GPIO_STAT_CMD_ERR 0 0 = true ∧
        s.onlyRegs [.GPIO_STAT] s' ∧ s' = { s with regs := s'.regs }) ∧
    (∀ data : Word, ∃ s', exec (.i2cDone n true data) s = .next s' ∧ s'.flag RF.GPIO_I2Cn_NACK 0 n.val = true ∧
      s'.flag RF.GPIO_I2Cn_BUSY 0 n.val = false ∧ s.onlyRegs [.GPIO_I2Cn] s' ∧ s' = { s with regs := s'.regs })

/-- A write of WFR_FLD_EVT_TAIL takes the value written where it lies between the present tail and HEAD, around the
  ring of 32; a value beyond HEAD is taken as HEAD, and the ring is empty. No other register and no memory changes. -/
def Obligations.EventTailBeyondHead : Prop :=
  ∀ (s : State) (v : Nat), s.boot.stage = .ready → v < 32 →
    ∃ s', exec (.registerWrite (.wctl (.wafer 2) 0x080#12) (.write (leBytes 8 v))) s = .next s' ∧
      s'.getF RF.WFR_FLD_EVT_TAIL_TAIL 0 0 =
        (if (s.getF RF.WFR_FLD_EVT_HEAD_HEAD 0 0 + 32 - v) % 32 ≤
            (s.getF RF.WFR_FLD_EVT_HEAD_HEAD 0 0 + 32 - s.getF RF.WFR_FLD_EVT_TAIL_TAIL 0 0) % 32 then v
          else s.getF RF.WFR_FLD_EVT_HEAD_HEAD 0 0) ∧
      s'.getF RF.WFR_FLD_EVT_HEAD_HEAD 0 0 = s.getF RF.WFR_FLD_EVT_HEAD_HEAD 0 0 ∧
      s.onlyRegs [.WFR_FLD_EVT_TAIL] s' ∧ s' = { s with regs := s'.regs, irq := s'.irq }
end

