-- ==== Sys2Proof/Laws/Map.lean ====
section
/-! SUPPORT. Reading and writing sparse tables: read after write, and the canonical form kept. -/

namespace Sys2Proof.Machine

set_option linter.unusedSectionVars false

variable {K V : Type} [DecidableEq K] [DecidableEq V]

theorem mapGet_mapErase_same (d : K → V) (k : K) (m : List (K × V)) : mapGet d k (mapErase k m) = d k := by
  induction m with
  | nil => rfl
  | cons e r ih =>
    obtain ⟨k', v'⟩ := e
    by_cases h : k' = k <;> simp [mapErase, mapGet, h, ih]

theorem mapGet_mapErase_other (d : K → V) {k j : K} (hj : j ≠ k) (m : List (K × V)) :
    mapGet d j (mapErase k m) = mapGet d j m := by
  induction m with
  | nil => rfl
  | cons e r ih =>
    obtain ⟨k', v'⟩ := e
    by_cases h : k' = k
    · subst h
      simp [mapErase, mapGet, ih, Ne.symm hj]
    · by_cases h2 : k' = j <;> simp [mapErase, mapGet, h, h2, ih, hj]

theorem mapGet_mapInsert_same (ord : K → Nat) (d : K → V) (k : K) (v : V) (m : List (K × V)) :
    mapGet d k (mapInsert ord k v m) = v := by
  induction m with
  | nil => simp [mapInsert, mapGet]
  | cons e r ih =>
    obtain ⟨k', v'⟩ := e
    by_cases h : k' = k
    · simp [mapInsert, mapGet, h]
    · by_cases h2 : ord k < ord k' <;> simp [mapInsert, mapGet, h, h2, ih]

theorem mapGet_mapInsert_other (ord : K → Nat) (d : K → V) {k j : K} (hj : j ≠ k) (v : V)
    (m : List (K × V)) : mapGet d j (mapInsert ord k v m) = mapGet d j m := by
  induction m with
  | nil => simp [mapInsert, mapGet, Ne.symm hj]
  | cons e r ih =>
    obtain ⟨k', v'⟩ := e
    by_cases h : k' = k
    · subst h
      simp [mapInsert, mapGet, Ne.symm hj]
    · by_cases h2 : ord k < ord k'
      · simp [mapInsert, mapGet, h, h2, Ne.symm hj]
      · rw [mapInsert, if_neg h, if_neg h2]
        by_cases h3 : k' = j <;> simp [mapGet, h3, ih]

/-- A key reads as it was last written. -/
theorem mapGet_mapSet_same (ord : K → Nat) (d : K → V) (k : K) (v : V) (m : List (K × V)) :
    mapGet d k (mapSet ord d k v m) = v := by
  unfold mapSet
  split
  · next h => rw [mapGet_mapErase_same, h]
  · exact mapGet_mapInsert_same ord d k v m

/-- Writing one key leaves every other key as it reads. -/
theorem mapGet_mapSet_other (ord : K → Nat) (d : K → V) {k j : K} (hj : j ≠ k) (v : V)
    (m : List (K × V)) : mapGet d j (mapSet ord d k v m) = mapGet d j m := by
  unfold mapSet
  split
  · exact mapGet_mapErase_other d hj m
  · exact mapGet_mapInsert_other ord d hj v m

theorem mapWf_cons (ord : K → Nat) (d : K → V) (k : K) (v : V) (r : List (K × V)) :
    mapWf ord d ((k, v) :: r) = true ↔
      v ≠ d k ∧ (∀ e ∈ r, ord k < ord e.1) ∧ mapWf ord d r = true := by
  simp only [mapWf, Bool.and_eq_true, decide_eq_true_eq, List.all_eq_true]
  exact and_assoc

theorem mem_mapErase {k : K} {m : List (K × V)} {e : K × V} (h : e ∈ mapErase k m) : e ∈ m := by
  induction m with
  | nil => exact h
  | cons a r ih =>
    obtain ⟨k', v'⟩ := a
    by_cases hk : k' = k
    · rw [mapErase, if_pos hk] at h
      exact List.mem_cons_of_mem _ (ih h)
    · rw [mapErase, if_neg hk] at h
      rcases List.mem_cons.mp h with h | h
      · exact h ▸ List.mem_cons_self ..
      · exact List.mem_cons_of_mem _ (ih h)

theorem mem_mapInsert {ord : K → Nat} {k : K} {v : V} {m : List (K × V)} {e : K × V}
    (h : e ∈ mapInsert ord k v m) : e = (k, v) ∨ e ∈ m := by
  induction m with
  | nil => exact .inl (List.mem_singleton.mp h)
  | cons a r ih =>
    obtain ⟨k', v'⟩ := a
    by_cases hk : k' = k
    · rw [mapInsert, if_pos hk] at h
      rcases List.mem_cons.mp h with h | h
      · exact .inl h
      · exact .inr (List.mem_cons_of_mem _ h)
    · rw [mapInsert, if_neg hk] at h
      by_cases ho : ord k < ord k'
      · rw [if_pos ho] at h
        exact (List.mem_cons.mp h).imp id id
      · rw [if_neg ho] at h
        rcases List.mem_cons.mp h with h | h
        · exact .inr (h ▸ List.mem_cons_self ..)
        · exact (ih h).imp id (List.mem_cons_of_mem _)

theorem mapWf_mapErase {ord : K → Nat} {d : K → V} (k : K) {m : List (K × V)} (h : mapWf ord d m = true) :
    mapWf ord d (mapErase k m) = true := by
  induction m with
  | nil => rfl
  | cons e r ih =>
    obtain ⟨k', v'⟩ := e
    obtain ⟨h1, h2, h3⟩ := (mapWf_cons ord d k' v' r).mp h
    by_cases hk : k' = k
    · rw [mapErase, if_pos hk]
      exact ih h3
    · rw [mapErase, if_neg hk]
      exact (mapWf_cons ..).mpr ⟨h1, fun e he => h2 e (mem_mapErase he), ih h3⟩

theorem mapWf_mapInsert {ord : K → Nat} (inj : ∀ a b, ord a = ord b → a = b) {d : K → V} {k : K} {v : V}
    (hv : v ≠ d k) {m : List (K × V)} (h : mapWf ord d m = true) :
    mapWf ord d (mapInsert ord k v m) = true := by
  induction m with
  | nil => exact (mapWf_cons ..).mpr ⟨hv, by simp, rfl⟩
  | cons e r ih =>
    obtain ⟨k', v'⟩ := e
    obtain ⟨h1, h2, h3⟩ := (mapWf_cons ord d k' v' r).mp h
    by_cases hk : k' = k
    · rw [mapInsert, if_pos hk]
      exact (mapWf_cons ..).mpr ⟨hv, fun e he => hk ▸ h2 e he, h3⟩
    · rw [mapInsert, if_neg hk]
      by_cases ho : ord k < ord k'
      · rw [if_pos ho]
        refine (mapWf_cons ..).mpr ⟨hv, fun e he => ?_, h⟩
        rcases List.mem_cons.mp he with he | he
        · exact he ▸ ho
        · exact lt_trans ho (h2 e he)
      · rw [if_neg ho]
        have hlt : ord k' < ord k :=
          lt_of_le_of_ne (not_lt.mp ho) (fun he => hk (inj _ _ he))
        refine (mapWf_cons ..).mpr ⟨h1, fun e he => ?_, ih h3⟩
        rcases mem_mapInsert he with he | he
        · exact he ▸ hlt
        · exact h2 e he

/-- A write keeps the canonical form. -/
theorem mapWf_mapSet {ord : K → Nat} (inj : ∀ a b, ord a = ord b → a = b) {d : K → V} (k : K) (v : V)
    {m : List (K × V)} (h : mapWf ord d m = true) : mapWf ord d (mapSet ord d k v m) = true := by
  unfold mapSet
  split
  · exact mapWf_mapErase k h
  · next hv => exact mapWf_mapInsert inj hv h

/-- Dropping entries keeps the canonical form. -/
theorem mapWf_filter {ord : K → Nat} {d : K → V} (p : K × V → Bool) {m : List (K × V)}
    (h : mapWf ord d m = true) : mapWf ord d (m.filter p) = true := by
  induction m with
  | nil => rfl
  | cons e r ih =>
    obtain ⟨k', v'⟩ := e
    obtain ⟨h1, h2, h3⟩ := (mapWf_cons ord d k' v' r).mp h
    by_cases hp : p (k', v') = true
    · rw [List.filter_cons_of_pos hp]
      exact (mapWf_cons ..).mpr ⟨h1, fun e he => h2 e (List.mem_of_mem_filter he), ih h3⟩
    · rw [List.filter_cons_of_neg hp]
      exact ih h3

@[simp] theorem NMap.look_put_same (m : NMap V) (d : V) (k : Nat) (v : V) : (m.put d k v).look d k = v :=
  mapGet_mapSet_same id (fun _ => d) k v m

theorem NMap.look_put_other (m : NMap V) (d : V) {k j : Nat} (hj : j ≠ k) (v : V) :
    (m.put d k v).look d j = m.look d j :=
  mapGet_mapSet_other id (fun _ => d) hj v m

/-- The canonical form of a number-keyed table is kept by a write. -/
theorem NMap.wf_put {m : NMap V} {d : V} (k : Nat) (v : V) (h : mapWf id (fun _ => d) m = true) :
    mapWf id (fun _ => d) (m.put d k v) = true :=
  mapWf_mapSet (fun _ _ e => e) k v h

theorem NMap.wf_forget {m : NMap V} {d : V} (lo hi : Nat) (h : mapWf id (fun _ => d) m = true) :
    mapWf id (fun _ => d) (m.forget lo hi) = true :=
  mapWf_filter _ h

theorem mem_setInsert {k n : Nat} {l : List Nat} : n ∈ setInsert k l ↔ n = k ∨ n ∈ l := by
  induction l with
  | nil => simp [setInsert]
  | cons a r ih =>
    unfold setInsert
    split
    · next h => subst h; simp
    · split
      · simp
      · simp only [List.mem_cons, ih]; tauto

/-- Adding a number keeps a rising list rising. -/
theorem rising_setInsert (k : Nat) {l : List Nat} (h : l.Pairwise (· < ·)) :
    (setInsert k l).Pairwise (· < ·) := by
  induction l with
  | nil => simp [setInsert]
  | cons a r ih =>
    obtain ⟨h1, h2⟩ := List.pairwise_cons.mp h
    unfold setInsert
    split
    · exact h
    · next hne =>
      split
      · next hlt =>
        refine List.pairwise_cons.mpr ⟨fun b hb => ?_, h⟩
        rcases List.mem_cons.mp hb with hb | hb
        · exact hb ▸ hlt
        · exact lt_trans hlt (h1 b hb)
      · next hnl =>
        refine List.pairwise_cons.mpr ⟨fun b hb => ?_, ih h2⟩
        rcases mem_setInsert.mp hb with hb | hb
        · omega
        · exact h1 b hb

theorem rising_setInsertAll (f : Nat → Nat) (l : List Nat) {m : List Nat} (h : m.Pairwise (· < ·)) :
    (l.foldl (fun p q => setInsert (f q) p) m).Pairwise (· < ·) := by
  induction l generalizing m with
  | nil => exact h
  | cons a r ih => exact ih (rising_setInsert (f a) h)

end Sys2Proof.Machine
end

