-- ==== Sys2Proof/Laws/Memory.lean ====
section
/-! SUPPORT. Memory: read after write, and the canonical form that every operation keeps. -/

namespace Sys2Proof.Machine

theorem Memory.wf_iff (m : Memory) : m.wf = true ↔
    mapWf id (fun _ => 0#8) m.cells = true ∧ mapWf id (fun _ => (0 : Nat)) m.undef = true ∧
      m.written.Pairwise (· < ·) ∧ m.poison.Pairwise (· < ·) := by
  simp [Memory.wf, and_assoc]

theorem Memory.wf_put {m : Memory} (k : Nat) (b : Byte) (h : m.wf = true) : (m.put k b).wf = true := by
  obtain ⟨h1, h2, h3⟩ := m.wf_iff.mp h
  exact (Memory.wf_iff _).mpr ⟨NMap.wf_put k b h1, NMap.wf_put k 0 h2, h3⟩

theorem Memory.wf_putList (k : Nat) (l : List Byte) {m : Memory} (h : m.wf = true) :
    (m.putList k l).wf = true := by
  induction l generalizing m k with
  | nil => exact h
  | cons b r ih => exact ih (k + 1) (Memory.wf_put k b h)

/-- A write keeps the canonical form. -/
theorem Memory.wf_write {m : Memory} (f region off : Nat) (data : List Byte) (bad : Bool)
    (h : m.wf = true) : (m.write f region off data bad).wf = true := by
  obtain ⟨h1, h2, h3, h4⟩ := (Memory.wf_iff _).mp (Memory.wf_putList (cellKey f region off) data h)
  refine (Memory.wf_iff _).mpr ⟨h1, h2, h3, ?_⟩
  have h5 := h4.filter (fun q => !(sectorsIn (cellKey f region off) data.length).contains q)
  cases bad
  · exact h5
  · exact rising_setInsertAll id _ h5

theorem Memory.wf_zeroRange {m : Memory} (lo n : Nat) (h : m.wf = true) : (m.zeroRange lo n).wf = true := by
  obtain ⟨h1, h2, h3, h4⟩ := m.wf_iff.mp h
  exact (Memory.wf_iff _).mpr ⟨NMap.wf_forget _ _ h1, NMap.wf_forget _ _ h2, h3, h4.filter _⟩

/-- A first-write fill keeps the canonical form. -/
theorem Memory.wf_fillGranule {m : Memory} (f g : Nat) (h : m.wf = true) :
    (m.fillGranule f g).wf = true := by
  obtain ⟨h1, h2, h3, h4⟩ := (Memory.wf_iff _).mp (Memory.wf_zeroRange (cellKey f 0 (g * 65536)) 65536 h)
  exact (Memory.wf_iff _).mpr ⟨h1, h2, rising_setInsert _ h3, h4⟩

theorem Memory.wf_fillAll (f : Nat) (l : List Nat) {m : Memory} (h : m.wf = true) :
    (l.foldl (fun m g => m.fillGranule f g) m).wf = true := by
  induction l generalizing m with
  | nil => exact h
  | cons g r ih => exact ih (Memory.wf_fillGranule f g h)

theorem Memory.wf_markFresh {m : Memory} (f g : Nat) (h : m.wf = true) : (m.markFresh f g).wf = true := by
  obtain ⟨h1, h2, h3, h4⟩ := m.wf_iff.mp h
  exact (Memory.wf_iff _).mpr ⟨h1, h2, h3.filter _, h4⟩

/-- A scrub keeps the canonical form. -/
theorem Memory.wf_scrub {m : Memory} (f g n : Nat) (zeros : Bool) (h : m.wf = true) :
    (m.scrub f g n zeros).wf = true := by
  have h0 : (if zeros then m.zeroRange (cellKey f 0 (g * 65536)) (n * 65536) else m).wf = true := by
    cases zeros
    · exact h
    · exact Memory.wf_zeroRange _ _ h
  obtain ⟨h1, h2, h3, h4⟩ := (Memory.wf_iff _).mp h0
  exact (Memory.wf_iff _).mpr ⟨h1, h2, h3.filter _, h4⟩

/-- Leaving bytes undefined keeps the canonical form. -/
theorem Memory.wf_leaveUndef (serial k n : Nat) {m : Memory} (h : m.wf = true) :
    (m.leaveUndef serial k n).wf = true := by
  induction n generalizing m k with
  | zero => exact h
  | succ n ih =>
    obtain ⟨h1, h2, h3⟩ := m.wf_iff.mp h
    exact ih (k + 1) ((Memory.wf_iff _).mpr ⟨NMap.wf_put k 0#8 h1, NMap.wf_put k (serial + 1) h2, h3⟩)

/-- Poisoning sectors keeps the canonical form. -/
theorem Memory.wf_poison {m : Memory} (f : Nat → Nat) (l : List Nat) (h : m.wf = true) :
    Memory.wf { m with poison := l.foldl (fun p q => setInsert (f q) p) m.poison } = true := by
  obtain ⟨h1, h2, h3, h4⟩ := m.wf_iff.mp h
  exact (Memory.wf_iff _).mpr ⟨h1, h2, h3, rising_setInsertAll f l h4⟩

@[simp] theorem Memory.byte_put_same (m : Memory) (k : Nat) (b : Byte) : (m.put k b).byte k = b := by
  simp [Memory.byte, Memory.put]

/-- Storing one byte leaves every other byte as it reads. -/
theorem Memory.byte_put_other (m : Memory) {k j : Nat} (h : j ≠ k) (b : Byte) :
    (m.put k b).byte j = m.byte j := by
  simp [Memory.byte, Memory.put, NMap.look_put_other _ _ h]

theorem Memory.byte_putList_below (l : List Byte) (m : Memory) {k j : Nat} (h : j < k) :
    (m.putList k l).byte j = m.byte j := by
  induction l generalizing m k with
  | nil => rfl
  | cons b r ih =>
    exact (ih (m.put k b) (Nat.lt_succ_of_lt h)).trans (m.byte_put_other (Nat.ne_of_lt h) b)

/-- A store leaves every byte outside its range as it reads. -/
theorem Memory.byte_putList_other (l : List Byte) (m : Memory) {k j : Nat}
    (h : j < k ∨ k + l.length ≤ j) : (m.putList k l).byte j = m.byte j := by
  induction l generalizing m k with
  | nil => rfl
  | cons b r ih =>
    simp only [List.length_cons] at h
    exact (ih (m.put k b) (by omega)).trans (m.byte_put_other (by omega) b)

/-- A store puts its bytes where they belong. -/
theorem Memory.byte_putList_same (l : List Byte) (m : Memory) (k i : Nat) (h : i < l.length) :
    (m.putList k l).byte (k + i) = l[i] := by
  induction l generalizing m k i with
  | nil => simp at h
  | cons b r ih =>
    cases i with
    | zero => exact (Memory.byte_putList_below r (m.put k b) (by omega)).trans (m.byte_put_same k b)
    | succ i =>
      have := ih (m.put k b) (k + 1) i (by simpa using h)
      simpa [Memory.putList, Nat.add_assoc, Nat.add_comm 1 i] using this

/-- The memory operation of a store keeps the canonical form. -/
theorem State.mem_wf_memWrite {s : State} (f region off : Nat) (data : List Byte) (bad : Bool)
    (h : s.mem.wf = true) : (s.memWrite f region off data bad).mem.wf = true := by
  unfold State.memWrite
  dsimp only
  repeat' split
  all_goals exact Memory.wf_write _ _ _ _ _ (Memory.wf_fillAll _ _ h)

/-- The memory of the module after reset is in canonical form. -/
theorem State.mem_wf_reset : State.reset.mem.wf = true := rfl

end Sys2Proof.Machine
end

