-- ==== Sys2Proof/Laws/Registers.lean ====
section
/-! SUPPORT. The register file: read after write, fields, and its canonical form. -/

namespace Sys2Proof.Machine

theorem RKey.ord_inj (a b : RKey) (h : a.ord = b.ord) : a = b := by
  obtain ⟨r, i, n⟩ := a
  obtain ⟨r', i', n'⟩ := b
  have h1 := i.isLt
  have h2 := n.isLt
  have h3 := i'.isLt
  have h4 := n'.isLt
  simp only [RKey.ord] at h
  have hr : r.ctorIdx = r'.ctorIdx := by omega
  have hi : i.val = i'.val := by omega
  have hn : n.val = n'.val := by omega
  have hreg : r = r' := by rw [← Reg.ofNat_ctorIdx r, hr, Reg.ofNat_ctorIdx r']
  exact congr (congr (congrArg RKey.mk hreg) (Fin.ext hi)) (Fin.ext hn)

/-- A register reads as it was written. -/
@[simp] theorem State.rd_wr_same (s : State) (r : Reg) (i n : Nat) (v : Word) : (s.wr r i n v).rd r i n = v :=
  mapGet_mapSet_same _ _ _ _ _

/-- Writing one register leaves every other one. -/
theorem State.rd_wr_other (s : State) {r q : Reg} {i n j m : Nat} (h : rkey q j m ≠ rkey r i n) (v : Word) :
    (s.wr r i n v).rd q j m = s.rd q j m :=
  mapGet_mapSet_other _ _ h _ _

/-- Writing a register leaves every register of another name. -/
theorem State.rd_wr_reg (s : State) {r q : Reg} (i n j m : Nat) (h : q ≠ r) (v : Word) :
    (s.wr r i n v).rd q j m = s.rd q j m :=
  s.rd_wr_other (fun e => h (congrArg RKey.reg e)) v

theorem State.rd_setF_reg (s : State) {f : RF} {q : Reg} (i n j m v : Nat) (h : q ≠ f.reg) :
    (s.setF f i n v).rd q j m = s.rd q j m :=
  s.rd_wr_reg i n j m h _

theorem State.rd_setFlag_reg (s : State) {f : RF} {q : Reg} (i n j m : Nat) (b : Bool) (h : q ≠ f.reg) :
    (s.setFlag f i n b).rd q j m = s.rd q j m :=
  s.rd_setF_reg i n j m _ h

@[simp] theorem State.regs_wr_wf (s : State) (r : Reg) (i n : Nat) (v : Word)
    (h : mapWf RKey.ord RKey.reset s.regs = true) :
    mapWf RKey.ord RKey.reset (s.wr r i n v).regs = true :=
  mapWf_mapSet RKey.ord_inj _ _ h

theorem State.regs_resetRegs_wf (s : State) (p : RKey → Bool)
    (h : mapWf RKey.ord RKey.reset s.regs = true) :
    mapWf RKey.ord RKey.reset (s.resetRegs p).regs = true :=
  mapWf_filter _ h

/-- A bit of a register after a field of it is replaced. -/
theorem getLsbD_putBits (v : Word) (lo w x i : Nat) (h : i < 64) :
    (putBits v lo w x).getLsbD i =
      if lo ≤ i ∧ i < lo + w then x.testBit (i - lo) else v.getLsbD i := by
  have hm : ((2 ^ w - 1) * 2 ^ lo).testBit i = (decide (lo ≤ i) && decide (i < lo + w)) := by
    rw [Nat.testBit_mul_two_pow, Nat.testBit_two_pow_sub_one]
    by_cases h1 : lo ≤ i
    · have : (i - lo < w) ↔ i < lo + w := by omega
      simp [h1, this]
    · simp [h1]
  have hx : (x * 2 ^ lo).testBit i = (decide (lo ≤ i) && x.testBit (i - lo)) := by
    rw [Nat.testBit_mul_two_pow]
  simp only [putBits, BitVec.getLsbD_or, BitVec.getLsbD_and, BitVec.getLsbD_not, BitVec.getLsbD_ofNat,
    h, decide_true, Bool.true_and, hm, hx]
  by_cases h1 : lo ≤ i <;> by_cases h2 : i < lo + w <;> simp [h1, h2]

theorem testBit_bits (v : Word) (lo w i : Nat) :
    (bits v lo w).testBit i = (decide (i < w) && v.getLsbD (lo + i)) := by
  rw [bits, nbits, Nat.testBit_mod_two_pow, Nat.testBit_div_two_pow]
  rw [BitVec.getLsbD, Nat.add_comm]

/-- A field reads as it was written, modulo its width. -/
theorem bits_putBits_same (v : Word) (lo w x : Nat) (h : lo + w ≤ 64) :
    bits (putBits v lo w x) lo w = x % 2 ^ w := by
  apply Nat.eq_of_testBit_eq
  intro i
  rw [testBit_bits, Nat.testBit_mod_two_pow]
  by_cases hi : i < w
  · rw [getLsbD_putBits v lo w x (lo + i) (by omega)]
    simp [hi]
  · simp [hi]

/-- Replacing one field leaves a disjoint field as it reads. -/
theorem bits_putBits_other (v : Word) (lo w x lo' w' : Nat) (h' : lo' + w' ≤ 64)
    (d : lo' + w' ≤ lo ∨ lo + w ≤ lo') : bits (putBits v lo w x) lo' w' = bits v lo' w' := by
  apply Nat.eq_of_testBit_eq
  intro i
  rw [testBit_bits, testBit_bits]
  by_cases hi : i < w'
  · rw [getLsbD_putBits v lo w x (lo' + i) (by omega), if_neg (by omega)]
  · simp [hi]

/-- A register field reads as it was written, modulo its width. -/
theorem State.getF_setF_same (s : State) (f : RF) (i n v : Nat) (h : f.lo + f.w ≤ 64) :
    (s.setF f i n v).getF f i n = v % 2 ^ f.w := by
  unfold State.getF State.setF
  rw [State.rd_wr_same]
  exact bits_putBits_same _ _ _ _ h

/-- A write of one field leaves a field of another register. -/
theorem State.getF_setF_reg (s : State) {f g : RF} (i n j m v : Nat) (h : g.reg ≠ f.reg) :
    (s.setF f i n v).getF g j m = s.getF g j m := by
  unfold State.getF
  rw [State.rd_setF_reg s i n j m v h]

/-- A write of one field leaves a disjoint field of the same register. -/
theorem State.getF_setF_disjoint (s : State) {f g : RF} (i n v : Nat) (h : g.reg = f.reg)
    (w : g.lo + g.w ≤ 64) (d : g.lo + g.w ≤ f.lo ∨ f.lo + f.w ≤ g.lo) :
    (s.setF f i n v).getF g i n = s.getF g i n := by
  unfold State.getF State.setF
  rw [h, State.rd_wr_same]
  exact bits_putBits_other _ _ _ _ _ _ w d

/-- A flag reads as it was written. -/
theorem State.flag_setFlag_same (s : State) (f : RF) (i n : Nat) (b : Bool) (h : f.lo + f.w ≤ 64)
    (w : f.w = 1) : (s.setFlag f i n b).flag f i n = b := by
  unfold State.flag State.setFlag
  rw [State.getF_setF_same s f i n _ h, w]
  cases b <;> rfl

theorem State.flag_setFlag_reg (s : State) {f g : RF} (i n j m : Nat) (b : Bool) (h : g.reg ≠ f.reg) :
    (s.setFlag f i n b).flag g j m = s.flag g j m := by
  unfold State.flag State.setFlag
  rw [State.getF_setF_reg s i n j m _ h]

/-- The register file of the module after reset is in canonical form. -/
theorem State.regs_wf_reset : mapWf RKey.ord RKey.reset State.reset.regs = true := by decide

end Sys2Proof.Machine
end

