-- ==== Sys2Proof/Laws/State.lean ====
section
/-! SUPPORT. One lemma per component of the state and update: what an update of one component leaves, so that no
proof unfolds a record update.  Each is true by computation. -/

namespace Sys2Proof.Machine

/-! ### State.wr changes `regs` alone -/

@[simp] theorem State.wr_now (s : State) (r : Reg) (i n : Nat) (v : Word) : (s.wr r i n v).now = s.now := rfl
@[simp] theorem State.wr_serial (s : State) (r : Reg) (i n : Nat) (v : Word) :
    (s.wr r i n v).serial = s.serial := rfl
@[simp] theorem State.wr_pending (s : State) (r : Reg) (i n : Nat) (v : Word) :
    (s.wr r i n v).pending = s.pending := rfl
@[simp] theorem State.wr_mem (s : State) (r : Reg) (i n : Nat) (v : Word) : (s.wr r i n v).mem = s.mem := rfl
@[simp] theorem State.wr_commons (s : State) (r : Reg) (i n : Nat) (v : Word) :
    (s.wr r i n v).commons = s.commons := rfl
@[simp] theorem State.wr_crofters (s : State) (r : Reg) (i n : Nat) (v : Word) :
    (s.wr r i n v).crofters = s.crofters := rfl
@[simp] theorem State.wr_tallies (s : State) (r : Reg) (i n : Nat) (v : Word) :
    (s.wr r i n v).tallies = s.tallies := rfl
@[simp] theorem State.wr_engines (s : State) (r : Reg) (i n : Nat) (v : Word) :
    (s.wr r i n v).engines = s.engines := rfl
@[simp] theorem State.wr_sieves (s : State) (r : Reg) (i n : Nat) (v : Word) :
    (s.wr r i n v).sieves = s.sieves := rfl
@[simp] theorem State.wr_cairns (s : State) (r : Reg) (i n : Nat) (v : Word) :
    (s.wr r i n v).cairns = s.cairns := rfl
@[simp] theorem State.wr_looms (s : State) (r : Reg) (i n : Nat) (v : Word) : (s.wr r i n v).looms = s.looms := rfl
@[simp] theorem State.wr_seq (s : State) (r : Reg) (i n : Nat) (v : Word) : (s.wr r i n v).seq = s.seq := rfl
@[simp] theorem State.wr_boot (s : State) (r : Reg) (i n : Nat) (v : Word) : (s.wr r i n v).boot = s.boot := rfl
@[simp] theorem State.wr_resets (s : State) (r : Reg) (i n : Nat) (v : Word) :
    (s.wr r i n v).resets = s.resets := rfl
@[simp] theorem State.wr_verne (s : State) (r : Reg) (i n : Nat) (v : Word) : (s.wr r i n v).verne = s.verne := rfl
@[simp] theorem State.wr_fabric (s : State) (r : Reg) (i n : Nat) (v : Word) :
    (s.wr r i n v).fabric = s.fabric := rfl
@[simp] theorem State.wr_hbm (s : State) (r : Reg) (i n : Nat) (v : Word) : (s.wr r i n v).hbm = s.hbm := rfl
@[simp] theorem State.wr_host (s : State) (r : Reg) (i n : Nat) (v : Word) : (s.wr r i n v).host = s.host := rfl
@[simp] theorem State.wr_reeve (s : State) (r : Reg) (i n : Nat) (v : Word) : (s.wr r i n v).reeve = s.reeve := rfl
@[simp] theorem State.wr_power (s : State) (r : Reg) (i n : Nat) (v : Word) : (s.wr r i n v).power = s.power := rfl
@[simp] theorem State.wr_assay (s : State) (r : Reg) (i n : Nat) (v : Word) : (s.wr r i n v).assay = s.assay := rfl
@[simp] theorem State.wr_bist (s : State) (r : Reg) (i n : Nat) (v : Word) : (s.wr r i n v).bist = s.bist := rfl
@[simp] theorem State.wr_hearth (s : State) (r : Reg) (i n : Nat) (v : Word) :
    (s.wr r i n v).hearth = s.hearth := rfl
@[simp] theorem State.wr_pins (s : State) (r : Reg) (i n : Nat) (v : Word) : (s.wr r i n v).pins = s.pins := rfl
@[simp] theorem State.wr_irq (s : State) (r : Reg) (i n : Nat) (v : Word) : (s.wr r i n v).irq = s.irq := rfl
@[simp] theorem State.wr_timeOffset (s : State) (r : Reg) (i n : Nat) (v : Word) :
    (s.wr r i n v).timeOffset = s.timeOffset := rfl
@[simp] theorem State.wr_out (s : State) (r : Reg) (i n : Nat) (v : Word) : (s.wr r i n v).out = s.out := rfl

/-! ### State.setF changes `regs` alone -/

@[simp] theorem State.setF_now (s : State) (f : RF) (i n v : Nat) : (s.setF f i n v).now = s.now := rfl
@[simp] theorem State.setF_serial (s : State) (f : RF) (i n v : Nat) : (s.setF f i n v).serial = s.serial := rfl
@[simp] theorem State.setF_pending (s : State) (f : RF) (i n v : Nat) : (s.setF f i n v).pending = s.pending := rfl
@[simp] theorem State.setF_mem (s : State) (f : RF) (i n v : Nat) : (s.setF f i n v).mem = s.mem := rfl
@[simp] theorem State.setF_commons (s : State) (f : RF) (i n v : Nat) : (s.setF f i n v).commons = s.commons := rfl
@[simp] theorem State.setF_crofters (s : State) (f : RF) (i n v : Nat) :
    (s.setF f i n v).crofters = s.crofters := rfl
@[simp] theorem State.setF_tallies (s : State) (f : RF) (i n v : Nat) : (s.setF f i n v).tallies = s.tallies := rfl
@[simp] theorem State.setF_engines (s : State) (f : RF) (i n v : Nat) : (s.setF f i n v).engines = s.engines := rfl
@[simp] theorem State.setF_sieves (s : State) (f : RF) (i n v : Nat) : (s.setF f i n v).sieves = s.sieves := rfl
@[simp] theorem State.setF_cairns (s : State) (f : RF) (i n v : Nat) : (s.setF f i n v).cairns = s.cairns := rfl
@[simp] theorem State.setF_looms (s : State) (f : RF) (i n v : Nat) : (s.setF f i n v).looms = s.looms := rfl
@[simp] theorem State.setF_seq (s : State) (f : RF) (i n v : Nat) : (s.setF f i n v).seq = s.seq := rfl
@[simp] theorem State.setF_boot (s : State) (f : RF) (i n v : Nat) : (s.setF f i n v).boot = s.boot := rfl
@[simp] theorem State.setF_resets (s : State) (f : RF) (i n v : Nat) : (s.setF f i n v).resets = s.resets := rfl
@[simp] theorem State.setF_verne (s : State) (f : RF) (i n v : Nat) : (s.setF f i n v).verne = s.verne := rfl
@[simp] theorem State.setF_fabric (s : State) (f : RF) (i n v : Nat) : (s.setF f i n v).fabric = s.fabric := rfl
@[simp] theorem State.setF_hbm (s : State) (f : RF) (i n v : Nat) : (s.setF f i n v).hbm = s.hbm := rfl
@[simp] theorem State.setF_host (s : State) (f : RF) (i n v : Nat) : (s.setF f i n v).host = s.host := rfl
@[simp] theorem State.setF_reeve (s : State) (f : RF) (i n v : Nat) : (s.setF f i n v).reeve = s.reeve := rfl
@[simp] theorem State.setF_power (s : State) (f : RF) (i n v : Nat) : (s.setF f i n v).power = s.power := rfl
@[simp] theorem State.setF_assay (s : State) (f : RF) (i n v : Nat) : (s.setF f i n v).assay = s.assay := rfl
@[simp] theorem State.setF_bist (s : State) (f : RF) (i n v : Nat) : (s.setF f i n v).bist = s.bist := rfl
@[simp] theorem State.setF_hearth (s : State) (f : RF) (i n v : Nat) : (s.setF f i n v).hearth = s.hearth := rfl
@[simp] theorem State.setF_pins (s : State) (f : RF) (i n v : Nat) : (s.setF f i n v).pins = s.pins := rfl
@[simp] theorem State.setF_irq (s : State) (f : RF) (i n v : Nat) : (s.setF f i n v).irq = s.irq := rfl
@[simp] theorem State.setF_timeOffset (s : State) (f : RF) (i n v : Nat) :
    (s.setF f i n v).timeOffset = s.timeOffset := rfl
@[simp] theorem State.setF_out (s : State) (f : RF) (i n v : Nat) : (s.setF f i n v).out = s.out := rfl

/-! ### State.setFlag changes `regs` alone -/

@[simp] theorem State.setFlag_now (s : State) (f : RF) (i n : Nat) (b : Bool) :
    (s.setFlag f i n b).now = s.now := rfl
@[simp] theorem State.setFlag_serial (s : State) (f : RF) (i n : Nat) (b : Bool) :
    (s.setFlag f i n b).serial = s.serial := rfl
@[simp] theorem State.setFlag_pending (s : State) (f : RF) (i n : Nat) (b : Bool) :
    (s.setFlag f i n b).pending = s.pending := rfl
@[simp] theorem State.setFlag_mem (s : State) (f : RF) (i n : Nat) (b : Bool) :
    (s.setFlag f i n b).mem = s.mem := rfl
@[simp] theorem State.setFlag_commons (s : State) (f : RF) (i n : Nat) (b : Bool) :
    (s.setFlag f i n b).commons = s.commons := rfl
@[simp] theorem State.setFlag_crofters (s : State) (f : RF) (i n : Nat) (b : Bool) :
    (s.setFlag f i n b).crofters = s.crofters := rfl
@[simp] theorem State.setFlag_tallies (s : State) (f : RF) (i n : Nat) (b : Bool) :
    (s.setFlag f i n b).tallies = s.tallies := rfl
@[simp] theorem State.setFlag_engines (s : State) (f : RF) (i n : Nat) (b : Bool) :
    (s.setFlag f i n b).engines = s.engines := rfl
@[simp] theorem State.setFlag_sieves (s : State) (f : RF) (i n : Nat) (b : Bool) :
    (s.setFlag f i n b).sieves = s.sieves := rfl
@[simp] theorem State.setFlag_cairns (s : State) (f : RF) (i n : Nat) (b : Bool) :
    (s.setFlag f i n b).cairns = s.cairns := rfl
@[simp] theorem State.setFlag_looms (s : State) (f : RF) (i n : Nat) (b : Bool) :
    (s.setFlag f i n b).looms = s.looms := rfl
@[simp] theorem State.setFlag_seq (s : State) (f : RF) (i n : Nat) (b : Bool) :
    (s.setFlag f i n b).seq = s.seq := rfl
@[simp] theorem State.setFlag_boot (s : State) (f : RF) (i n : Nat) (b : Bool) :
    (s.setFlag f i n b).boot = s.boot := rfl
@[simp] theorem State.setFlag_resets (s : State) (f : RF) (i n : Nat) (b : Bool) :
    (s.setFlag f i n b).resets = s.resets := rfl
@[simp] theorem State.setFlag_verne (s : State) (f : RF) (i n : Nat) (b : Bool) :
    (s.setFlag f i n b).verne = s.verne := rfl
@[simp] theorem State.setFlag_fabric (s : State) (f : RF) (i n : Nat) (b : Bool) :
    (s.setFlag f i n b).fabric = s.fabric := rfl
@[simp] theorem State.setFlag_hbm (s : State) (f : RF) (i n : Nat) (b : Bool) :
    (s.setFlag f i n b).hbm = s.hbm := rfl
@[simp] theorem State.setFlag_host (s : State) (f : RF) (i n : Nat) (b : Bool) :
    (s.setFlag f i n b).host = s.host := rfl
@[simp] theorem State.setFlag_reeve (s : State) (f : RF) (i n : Nat) (b : Bool) :
    (s.setFlag f i n b).reeve = s.reeve := rfl
@[simp] theorem State.setFlag_power (s : State) (f : RF) (i n : Nat) (b : Bool) :
    (s.setFlag f i n b).power = s.power := rfl
@[simp] theorem State.setFlag_assay (s : State) (f : RF) (i n : Nat) (b : Bool) :
    (s.setFlag f i n b).assay = s.assay := rfl
@[simp] theorem State.setFlag_bist (s : State) (f : RF) (i n : Nat) (b : Bool) :
    (s.setFlag f i n b).bist = s.bist := rfl
@[simp] theorem State.setFlag_hearth (s : State) (f : RF) (i n : Nat) (b : Bool) :
    (s.setFlag f i n b).hearth = s.hearth := rfl
@[simp] theorem State.setFlag_pins (s : State) (f : RF) (i n : Nat) (b : Bool) :
    (s.setFlag f i n b).pins = s.pins := rfl
@[simp] theorem State.setFlag_irq (s : State) (f : RF) (i n : Nat) (b : Bool) :
    (s.setFlag f i n b).irq = s.irq := rfl
@[simp] theorem State.setFlag_timeOffset (s : State) (f : RF) (i n : Nat) (b : Bool) :
    (s.setFlag f i n b).timeOffset = s.timeOffset := rfl
@[simp] theorem State.setFlag_out (s : State) (f : RF) (i n : Nat) (b : Bool) :
    (s.setFlag f i n b).out = s.out := rfl

/-! ### State.addSat changes `regs` alone -/

@[simp] theorem State.addSat_now (s : State) (f : RF) (i n k : Nat) : (s.addSat f i n k).now = s.now := rfl
@[simp] theorem State.addSat_serial (s : State) (f : RF) (i n k : Nat) :
    (s.addSat f i n k).serial = s.serial := rfl
@[simp] theorem State.addSat_pending (s : State) (f : RF) (i n k : Nat) :
    (s.addSat f i n k).pending = s.pending := rfl
@[simp] theorem State.addSat_mem (s : State) (f : RF) (i n k : Nat) : (s.addSat f i n k).mem = s.mem := rfl
@[simp] theorem State.addSat_commons (s : State) (f : RF) (i n k : Nat) :
    (s.addSat f i n k).commons = s.commons := rfl
@[simp] theorem State.addSat_crofters (s : State) (f : RF) (i n k : Nat) :
    (s.addSat f i n k).crofters = s.crofters := rfl
@[simp] theorem State.addSat_tallies (s : State) (f : RF) (i n k : Nat) :
    (s.addSat f i n k).tallies = s.tallies := rfl
@[simp] theorem State.addSat_engines (s : State) (f : RF) (i n k : Nat) :
    (s.addSat f i n k).engines = s.engines := rfl
@[simp] theorem State.addSat_sieves (s : State) (f : RF) (i n k : Nat) :
    (s.addSat f i n k).sieves = s.sieves := rfl
@[simp] theorem State.addSat_cairns (s : State) (f : RF) (i n k : Nat) :
    (s.addSat f i n k).cairns = s.cairns := rfl
@[simp] theorem State.addSat_looms (s : State) (f : RF) (i n k : Nat) : (s.addSat f i n k).looms = s.looms := rfl
@[simp] theorem State.addSat_seq (s : State) (f : RF) (i n k : Nat) : (s.addSat f i n k).seq = s.seq := rfl
@[simp] theorem State.addSat_boot (s : State) (f : RF) (i n k : Nat) : (s.addSat f i n k).boot = s.boot := rfl
@[simp] theorem State.addSat_resets (s : State) (f : RF) (i n k : Nat) :
    (s.addSat f i n k).resets = s.resets := rfl
@[simp] theorem State.addSat_verne (s : State) (f : RF) (i n k : Nat) : (s.addSat f i n k).verne = s.verne := rfl
@[simp] theorem State.addSat_fabric (s : State) (f : RF) (i n k : Nat) :
    (s.addSat f i n k).fabric = s.fabric := rfl
@[simp] theorem State.addSat_hbm (s : State) (f : RF) (i n k : Nat) : (s.addSat f i n k).hbm = s.hbm := rfl
@[simp] theorem State.addSat_host (s : State) (f : RF) (i n k : Nat) : (s.addSat f i n k).host = s.host := rfl
@[simp] theorem State.addSat_reeve (s : State) (f : RF) (i n k : Nat) : (s.addSat f i n k).reeve = s.reeve := rfl
@[simp] theorem State.addSat_power (s : State) (f : RF) (i n k : Nat) : (s.addSat f i n k).power = s.power := rfl
@[simp] theorem State.addSat_assay (s : State) (f : RF) (i n k : Nat) : (s.addSat f i n k).assay = s.assay := rfl
@[simp] theorem State.addSat_bist (s : State) (f : RF) (i n k : Nat) : (s.addSat f i n k).bist = s.bist := rfl
@[simp] theorem State.addSat_hearth (s : State) (f : RF) (i n k : Nat) :
    (s.addSat f i n k).hearth = s.hearth := rfl
@[simp] theorem State.addSat_pins (s : State) (f : RF) (i n k : Nat) : (s.addSat f i n k).pins = s.pins := rfl
@[simp] theorem State.addSat_irq (s : State) (f : RF) (i n k : Nat) : (s.addSat f i n k).irq = s.irq := rfl
@[simp] theorem State.addSat_timeOffset (s : State) (f : RF) (i n k : Nat) :
    (s.addSat f i n k).timeOffset = s.timeOffset := rfl
@[simp] theorem State.addSat_out (s : State) (f : RF) (i n k : Nat) : (s.addSat f i n k).out = s.out := rfl

/-! ### State.addWrap changes `regs` alone -/

@[simp] theorem State.addWrap_now (s : State) (f : RF) (i n k : Nat) : (s.addWrap f i n k).now = s.now := rfl
@[simp] theorem State.addWrap_serial (s : State) (f : RF) (i n k : Nat) :
    (s.addWrap f i n k).serial = s.serial := rfl
@[simp] theorem State.addWrap_pending (s : State) (f : RF) (i n k : Nat) :
    (s.addWrap f i n k).pending = s.pending := rfl
@[simp] theorem State.addWrap_mem (s : State) (f : RF) (i n k : Nat) : (s.addWrap f i n k).mem = s.mem := rfl
@[simp] theorem State.addWrap_commons (s : State) (f : RF) (i n k : Nat) :
    (s.addWrap f i n k).commons = s.commons := rfl
@[simp] theorem State.addWrap_crofters (s : State) (f : RF) (i n k : Nat) :
    (s.addWrap f i n k).crofters = s.crofters := rfl
@[simp] theorem State.addWrap_tallies (s : State) (f : RF) (i n k : Nat) :
    (s.addWrap f i n k).tallies = s.tallies := rfl
@[simp] theorem State.addWrap_engines (s : State) (f : RF) (i n k : Nat) :
    (s.addWrap f i n k).engines = s.engines := rfl
@[simp] theorem State.addWrap_sieves (s : State) (f : RF) (i n k : Nat) :
    (s.addWrap f i n k).sieves = s.sieves := rfl
@[simp] theorem State.addWrap_cairns (s : State) (f : RF) (i n k : Nat) :
    (s.addWrap f i n k).cairns = s.cairns := rfl
@[simp] theorem State.addWrap_looms (s : State) (f : RF) (i n k : Nat) : (s.addWrap f i n k).looms = s.looms := rfl
@[simp] theorem State.addWrap_seq (s : State) (f : RF) (i n k : Nat) : (s.addWrap f i n k).seq = s.seq := rfl
@[simp] theorem State.addWrap_boot (s : State) (f : RF) (i n k : Nat) : (s.addWrap f i n k).boot = s.boot := rfl
@[simp] theorem State.addWrap_resets (s : State) (f : RF) (i n k : Nat) :
    (s.addWrap f i n k).resets = s.resets := rfl
@[simp] theorem State.addWrap_verne (s : State) (f : RF) (i n k : Nat) : (s.addWrap f i n k).verne = s.verne := rfl
@[simp] theorem State.addWrap_fabric (s : State) (f : RF) (i n k : Nat) :
    (s.addWrap f i n k).fabric = s.fabric := rfl
@[simp] theorem State.addWrap_hbm (s : State) (f : RF) (i n k : Nat) : (s.addWrap f i n k).hbm = s.hbm := rfl
@[simp] theorem State.addWrap_host (s : State) (f : RF) (i n k : Nat) : (s.addWrap f i n k).host = s.host := rfl
@[simp] theorem State.addWrap_reeve (s : State) (f : RF) (i n k : Nat) : (s.addWrap f i n k).reeve = s.reeve := rfl
@[simp] theorem State.addWrap_power (s : State) (f : RF) (i n k : Nat) : (s.addWrap f i n k).power = s.power := rfl
@[simp] theorem State.addWrap_assay (s : State) (f : RF) (i n k : Nat) : (s.addWrap f i n k).assay = s.assay := rfl
@[simp] theorem State.addWrap_bist (s : State) (f : RF) (i n k : Nat) : (s.addWrap f i n k).bist = s.bist := rfl
@[simp] theorem State.addWrap_hearth (s : State) (f : RF) (i n k : Nat) :
    (s.addWrap f i n k).hearth = s.hearth := rfl
@[simp] theorem State.addWrap_pins (s : State) (f : RF) (i n k : Nat) : (s.addWrap f i n k).pins = s.pins := rfl
@[simp] theorem State.addWrap_irq (s : State) (f : RF) (i n k : Nat) : (s.addWrap f i n k).irq = s.irq := rfl
@[simp] theorem State.addWrap_timeOffset (s : State) (f : RF) (i n k : Nat) :
    (s.addWrap f i n k).timeOffset = s.timeOffset := rfl
@[simp] theorem State.addWrap_out (s : State) (f : RF) (i n k : Nat) : (s.addWrap f i n k).out = s.out := rfl

/-! ### State.resetRegs changes `regs` alone -/

@[simp] theorem State.resetRegs_now (s : State) (p : RKey → Bool) : (s.resetRegs p).now = s.now := rfl
@[simp] theorem State.resetRegs_serial (s : State) (p : RKey → Bool) : (s.resetRegs p).serial = s.serial := rfl
@[simp] theorem State.resetRegs_pending (s : State) (p : RKey → Bool) : (s.resetRegs p).pending = s.pending := rfl
@[simp] theorem State.resetRegs_mem (s : State) (p : RKey → Bool) : (s.resetRegs p).mem = s.mem := rfl
@[simp] theorem State.resetRegs_commons (s : State) (p : RKey → Bool) : (s.resetRegs p).commons = s.commons := rfl
@[simp] theorem State.resetRegs_crofters (s : State) (p : RKey → Bool) :
    (s.resetRegs p).crofters = s.crofters := rfl
@[simp] theorem State.resetRegs_tallies (s : State) (p : RKey → Bool) : (s.resetRegs p).tallies = s.tallies := rfl
@[simp] theorem State.resetRegs_engines (s : State) (p : RKey → Bool) : (s.resetRegs p).engines = s.engines := rfl
@[simp] theorem State.resetRegs_sieves (s : State) (p : RKey → Bool) : (s.resetRegs p).sieves = s.sieves := rfl
@[simp] theorem State.resetRegs_cairns (s : State) (p : RKey → Bool) : (s.resetRegs p).cairns = s.cairns := rfl
@[simp] theorem State.resetRegs_looms (s : State) (p : RKey → Bool) : (s.resetRegs p).looms = s.looms := rfl
@[simp] theorem State.resetRegs_seq (s : State) (p : RKey → Bool) : (s.resetRegs p).seq = s.seq := rfl
@[simp] theorem State.resetRegs_boot (s : State) (p : RKey → Bool) : (s.resetRegs p).boot = s.boot := rfl
@[simp] theorem State.resetRegs_resets (s : State) (p : RKey → Bool) : (s.resetRegs p).resets = s.resets := rfl
@[simp] theorem State.resetRegs_verne (s : State) (p : RKey → Bool) : (s.resetRegs p).verne = s.verne := rfl
@[simp] theorem State.resetRegs_fabric (s : State) (p : RKey → Bool) : (s.resetRegs p).fabric = s.fabric := rfl
@[simp] theorem State.resetRegs_hbm (s : State) (p : RKey → Bool) : (s.resetRegs p).hbm = s.hbm := rfl
@[simp] theorem State.resetRegs_host (s : State) (p : RKey → Bool) : (s.resetRegs p).host = s.host := rfl
@[simp] theorem State.resetRegs_reeve (s : State) (p : RKey → Bool) : (s.resetRegs p).reeve = s.reeve := rfl
@[simp] theorem State.resetRegs_power (s : State) (p : RKey → Bool) : (s.resetRegs p).power = s.power := rfl
@[simp] theorem State.resetRegs_assay (s : State) (p : RKey → Bool) : (s.resetRegs p).assay = s.assay := rfl
@[simp] theorem State.resetRegs_bist (s : State) (p : RKey → Bool) : (s.resetRegs p).bist = s.bist := rfl
@[simp] theorem State.resetRegs_hearth (s : State) (p : RKey → Bool) : (s.resetRegs p).hearth = s.hearth := rfl
@[simp] theorem State.resetRegs_pins (s : State) (p : RKey → Bool) : (s.resetRegs p).pins = s.pins := rfl
@[simp] theorem State.resetRegs_irq (s : State) (p : RKey → Bool) : (s.resetRegs p).irq = s.irq := rfl
@[simp] theorem State.resetRegs_timeOffset (s : State) (p : RKey → Bool) :
    (s.resetRegs p).timeOffset = s.timeOffset := rfl
@[simp] theorem State.resetRegs_out (s : State) (p : RKey → Bool) : (s.resetRegs p).out = s.out := rfl

/-! ### State.resetPage changes `regs` alone -/

@[simp] theorem State.resetPage_now (s : State) (p : Page) (i : Nat) : (s.resetPage p i).now = s.now := rfl
@[simp] theorem State.resetPage_serial (s : State) (p : Page) (i : Nat) :
    (s.resetPage p i).serial = s.serial := rfl
@[simp] theorem State.resetPage_pending (s : State) (p : Page) (i : Nat) :
    (s.resetPage p i).pending = s.pending := rfl
@[simp] theorem State.resetPage_mem (s : State) (p : Page) (i : Nat) : (s.resetPage p i).mem = s.mem := rfl
@[simp] theorem State.resetPage_commons (s : State) (p : Page) (i : Nat) :
    (s.resetPage p i).commons = s.commons := rfl
@[simp] theorem State.resetPage_crofters (s : State) (p : Page) (i : Nat) :
    (s.resetPage p i).crofters = s.crofters := rfl
@[simp] theorem State.resetPage_tallies (s : State) (p : Page) (i : Nat) :
    (s.resetPage p i).tallies = s.tallies := rfl
@[simp] theorem State.resetPage_engines (s : State) (p : Page) (i : Nat) :
    (s.resetPage p i).engines = s.engines := rfl
@[simp] theorem State.resetPage_sieves (s : State) (p : Page) (i : Nat) :
    (s.resetPage p i).sieves = s.sieves := rfl
@[simp] theorem State.resetPage_cairns (s : State) (p : Page) (i : Nat) :
    (s.resetPage p i).cairns = s.cairns := rfl
@[simp] theorem State.resetPage_looms (s : State) (p : Page) (i : Nat) : (s.resetPage p i).looms = s.looms := rfl
@[simp] theorem State.resetPage_seq (s : State) (p : Page) (i : Nat) : (s.resetPage p i).seq = s.seq := rfl
@[simp] theorem State.resetPage_boot (s : State) (p : Page) (i : Nat) : (s.resetPage p i).boot = s.boot := rfl
@[simp] theorem State.resetPage_resets (s : State) (p : Page) (i : Nat) :
    (s.resetPage p i).resets = s.resets := rfl
@[simp] theorem State.resetPage_verne (s : State) (p : Page) (i : Nat) : (s.resetPage p i).verne = s.verne := rfl
@[simp] theorem State.resetPage_fabric (s : State) (p : Page) (i : Nat) :
    (s.resetPage p i).fabric = s.fabric := rfl
@[simp] theorem State.resetPage_hbm (s : State) (p : Page) (i : Nat) : (s.resetPage p i).hbm = s.hbm := rfl
@[simp] theorem State.resetPage_host (s : State) (p : Page) (i : Nat) : (s.resetPage p i).host = s.host := rfl
@[simp] theorem State.resetPage_reeve (s : State) (p : Page) (i : Nat) : (s.resetPage p i).reeve = s.reeve := rfl
@[simp] theorem State.resetPage_power (s : State) (p : Page) (i : Nat) : (s.resetPage p i).power = s.power := rfl
@[simp] theorem State.resetPage_assay (s : State) (p : Page) (i : Nat) : (s.resetPage p i).assay = s.assay := rfl
@[simp] theorem State.resetPage_bist (s : State) (p : Page) (i : Nat) : (s.resetPage p i).bist = s.bist := rfl
@[simp] theorem State.resetPage_hearth (s : State) (p : Page) (i : Nat) :
    (s.resetPage p i).hearth = s.hearth := rfl
@[simp] theorem State.resetPage_pins (s : State) (p : Page) (i : Nat) : (s.resetPage p i).pins = s.pins := rfl
@[simp] theorem State.resetPage_irq (s : State) (p : Page) (i : Nat) : (s.resetPage p i).irq = s.irq := rfl
@[simp] theorem State.resetPage_timeOffset (s : State) (p : Page) (i : Nat) :
    (s.resetPage p i).timeOffset = s.timeOffset := rfl
@[simp] theorem State.resetPage_out (s : State) (p : Page) (i : Nat) : (s.resetPage p i).out = s.out := rfl

/-! ### State.send changes `out` alone -/

@[simp] theorem State.send_now (s : State) (m : OutMsg) : (s.send m).now = s.now := rfl
@[simp] theorem State.send_serial (s : State) (m : OutMsg) : (s.send m).serial = s.serial := rfl
@[simp] theorem State.send_pending (s : State) (m : OutMsg) : (s.send m).pending = s.pending := rfl
@[simp] theorem State.send_regs (s : State) (m : OutMsg) : (s.send m).regs = s.regs := rfl
@[simp] theorem State.send_mem (s : State) (m : OutMsg) : (s.send m).mem = s.mem := rfl
@[simp] theorem State.send_commons (s : State) (m : OutMsg) : (s.send m).commons = s.commons := rfl
@[simp] theorem State.send_crofters (s : State) (m : OutMsg) : (s.send m).crofters = s.crofters := rfl
@[simp] theorem State.send_tallies (s : State) (m : OutMsg) : (s.send m).tallies = s.tallies := rfl
@[simp] theorem State.send_engines (s : State) (m : OutMsg) : (s.send m).engines = s.engines := rfl
@[simp] theorem State.send_sieves (s : State) (m : OutMsg) : (s.send m).sieves = s.sieves := rfl
@[simp] theorem State.send_cairns (s : State) (m : OutMsg) : (s.send m).cairns = s.cairns := rfl
@[simp] theorem State.send_looms (s : State) (m : OutMsg) : (s.send m).looms = s.looms := rfl
@[simp] theorem State.send_seq (s : State) (m : OutMsg) : (s.send m).seq = s.seq := rfl
@[simp] theorem State.send_boot (s : State) (m : OutMsg) : (s.send m).boot = s.boot := rfl
@[simp] theorem State.send_resets (s : State) (m : OutMsg) : (s.send m).resets = s.resets := rfl
@[simp] theorem State.send_verne (s : State) (m : OutMsg) : (s.send m).verne = s.verne := rfl
@[simp] theorem State.send_fabric (s : State) (m : OutMsg) : (s.send m).fabric = s.fabric := rfl
@[simp] theorem State.send_hbm (s : State) (m : OutMsg) : (s.send m).hbm = s.hbm := rfl
@[simp] theorem State.send_host (s : State) (m : OutMsg) : (s.send m).host = s.host := rfl
@[simp] theorem State.send_reeve (s : State) (m : OutMsg) : (s.send m).reeve = s.reeve := rfl
@[simp] theorem State.send_power (s : State) (m : OutMsg) : (s.send m).power = s.power := rfl
@[simp] theorem State.send_assay (s : State) (m : OutMsg) : (s.send m).assay = s.assay := rfl
@[simp] theorem State.send_bist (s : State) (m : OutMsg) : (s.send m).bist = s.bist := rfl
@[simp] theorem State.send_hearth (s : State) (m : OutMsg) : (s.send m).hearth = s.hearth := rfl
@[simp] theorem State.send_pins (s : State) (m : OutMsg) : (s.send m).pins = s.pins := rfl
@[simp] theorem State.send_irq (s : State) (m : OutMsg) : (s.send m).irq = s.irq := rfl
@[simp] theorem State.send_timeOffset (s : State) (m : OutMsg) : (s.send m).timeOffset = s.timeOffset := rfl
@[simp] theorem State.send_rd (s : State) (m : OutMsg) (r : Reg) (j l : Nat) :
    (s.send m).rd r j l = s.rd r j l := rfl
@[simp] theorem State.send_getF (s : State) (m : OutMsg) (x : RF) (j l : Nat) :
    (s.send m).getF x j l = s.getF x j l := rfl
@[simp] theorem State.send_flag (s : State) (m : OutMsg) (x : RF) (j l : Nat) :
    (s.send m).flag x j l = s.flag x j l := rfl

/-! ### State.modBoot changes `boot` alone -/

@[simp] theorem State.modBoot_now (s : State) (g : Boot → Boot) : (s.modBoot g).now = s.now := rfl
@[simp] theorem State.modBoot_serial (s : State) (g : Boot → Boot) : (s.modBoot g).serial = s.serial := rfl
@[simp] theorem State.modBoot_pending (s : State) (g : Boot → Boot) : (s.modBoot g).pending = s.pending := rfl
@[simp] theorem State.modBoot_regs (s : State) (g : Boot → Boot) : (s.modBoot g).regs = s.regs := rfl
@[simp] theorem State.modBoot_mem (s : State) (g : Boot → Boot) : (s.modBoot g).mem = s.mem := rfl
@[simp] theorem State.modBoot_commons (s : State) (g : Boot → Boot) : (s.modBoot g).commons = s.commons := rfl
@[simp] theorem State.modBoot_crofters (s : State) (g : Boot → Boot) : (s.modBoot g).crofters = s.crofters := rfl
@[simp] theorem State.modBoot_tallies (s : State) (g : Boot → Boot) : (s.modBoot g).tallies = s.tallies := rfl
@[simp] theorem State.modBoot_engines (s : State) (g : Boot → Boot) : (s.modBoot g).engines = s.engines := rfl
@[simp] theorem State.modBoot_sieves (s : State) (g : Boot → Boot) : (s.modBoot g).sieves = s.sieves := rfl
@[simp] theorem State.modBoot_cairns (s : State) (g : Boot → Boot) : (s.modBoot g).cairns = s.cairns := rfl
@[simp] theorem State.modBoot_looms (s : State) (g : Boot → Boot) : (s.modBoot g).looms = s.looms := rfl
@[simp] theorem State.modBoot_seq (s : State) (g : Boot → Boot) : (s.modBoot g).seq = s.seq := rfl
@[simp] theorem State.modBoot_resets (s : State) (g : Boot → Boot) : (s.modBoot g).resets = s.resets := rfl
@[simp] theorem State.modBoot_verne (s : State) (g : Boot → Boot) : (s.modBoot g).verne = s.verne := rfl
@[simp] theorem State.modBoot_fabric (s : State) (g : Boot → Boot) : (s.modBoot g).fabric = s.fabric := rfl
@[simp] theorem State.modBoot_hbm (s : State) (g : Boot → Boot) : (s.modBoot g).hbm = s.hbm := rfl
@[simp] theorem State.modBoot_host (s : State) (g : Boot → Boot) : (s.modBoot g).host = s.host := rfl
@[simp] theorem State.modBoot_reeve (s : State) (g : Boot → Boot) : (s.modBoot g).reeve = s.reeve := rfl
@[simp] theorem State.modBoot_power (s : State) (g : Boot → Boot) : (s.modBoot g).power = s.power := rfl
@[simp] theorem State.modBoot_assay (s : State) (g : Boot → Boot) : (s.modBoot g).assay = s.assay := rfl
@[simp] theorem State.modBoot_bist (s : State) (g : Boot → Boot) : (s.modBoot g).bist = s.bist := rfl
@[simp] theorem State.modBoot_hearth (s : State) (g : Boot → Boot) : (s.modBoot g).hearth = s.hearth := rfl
@[simp] theorem State.modBoot_pins (s : State) (g : Boot → Boot) : (s.modBoot g).pins = s.pins := rfl
@[simp] theorem State.modBoot_irq (s : State) (g : Boot → Boot) : (s.modBoot g).irq = s.irq := rfl
@[simp] theorem State.modBoot_timeOffset (s : State) (g : Boot → Boot) :
    (s.modBoot g).timeOffset = s.timeOffset := rfl
@[simp] theorem State.modBoot_out (s : State) (g : Boot → Boot) : (s.modBoot g).out = s.out := rfl
@[simp] theorem State.modBoot_rd (s : State) (g : Boot → Boot) (r : Reg) (j l : Nat) :
    (s.modBoot g).rd r j l = s.rd r j l := rfl
@[simp] theorem State.modBoot_getF (s : State) (g : Boot → Boot) (x : RF) (j l : Nat) :
    (s.modBoot g).getF x j l = s.getF x j l := rfl
@[simp] theorem State.modBoot_flag (s : State) (g : Boot → Boot) (x : RF) (j l : Nat) :
    (s.modBoot g).flag x j l = s.flag x j l := rfl

/-! ### State.modHearth changes `hearth` alone -/

@[simp] theorem State.modHearth_now (s : State) (g : Hearth → Hearth) : (s.modHearth g).now = s.now := rfl
@[simp] theorem State.modHearth_serial (s : State) (g : Hearth → Hearth) : (s.modHearth g).serial = s.serial := rfl
@[simp] theorem State.modHearth_pending (s : State) (g : Hearth → Hearth) :
    (s.modHearth g).pending = s.pending := rfl
@[simp] theorem State.modHearth_regs (s : State) (g : Hearth → Hearth) : (s.modHearth g).regs = s.regs := rfl
@[simp] theorem State.modHearth_mem (s : State) (g : Hearth → Hearth) : (s.modHearth g).mem = s.mem := rfl
@[simp] theorem State.modHearth_commons (s : State) (g : Hearth → Hearth) :
    (s.modHearth g).commons = s.commons := rfl
@[simp] theorem State.modHearth_crofters (s : State) (g : Hearth → Hearth) :
    (s.modHearth g).crofters = s.crofters := rfl
@[simp] theorem State.modHearth_tallies (s : State) (g : Hearth → Hearth) :
    (s.modHearth g).tallies = s.tallies := rfl
@[simp] theorem State.modHearth_engines (s : State) (g : Hearth → Hearth) :
    (s.modHearth g).engines = s.engines := rfl
@[simp] theorem State.modHearth_sieves (s : State) (g : Hearth → Hearth) : (s.modHearth g).sieves = s.sieves := rfl
@[simp] theorem State.modHearth_cairns (s : State) (g : Hearth → Hearth) : (s.modHearth g).cairns = s.cairns := rfl
@[simp] theorem State.modHearth_looms (s : State) (g : Hearth → Hearth) : (s.modHearth g).looms = s.looms := rfl
@[simp] theorem State.modHearth_seq (s : State) (g : Hearth → Hearth) : (s.modHearth g).seq = s.seq := rfl
@[simp] theorem State.modHearth_boot (s : State) (g : Hearth → Hearth) : (s.modHearth g).boot = s.boot := rfl
@[simp] theorem State.modHearth_resets (s : State) (g : Hearth → Hearth) : (s.modHearth g).resets = s.resets := rfl
@[simp] theorem State.modHearth_verne (s : State) (g : Hearth → Hearth) : (s.modHearth g).verne = s.verne := rfl
@[simp] theorem State.modHearth_fabric (s : State) (g : Hearth → Hearth) : (s.modHearth g).fabric = s.fabric := rfl
@[simp] theorem State.modHearth_hbm (s : State) (g : Hearth → Hearth) : (s.modHearth g).hbm = s.hbm := rfl
@[simp] theorem State.modHearth_host (s : State) (g : Hearth → Hearth) : (s.modHearth g).host = s.host := rfl
@[simp] theorem State.modHearth_reeve (s : State) (g : Hearth → Hearth) : (s.modHearth g).reeve = s.reeve := rfl
@[simp] theorem State.modHearth_power (s : State) (g : Hearth → Hearth) : (s.modHearth g).power = s.power := rfl
@[simp] theorem State.modHearth_assay (s : State) (g : Hearth → Hearth) : (s.modHearth g).assay = s.assay := rfl
@[simp] theorem State.modHearth_bist (s : State) (g : Hearth → Hearth) : (s.modHearth g).bist = s.bist := rfl
@[simp] theorem State.modHearth_pins (s : State) (g : Hearth → Hearth) : (s.modHearth g).pins = s.pins := rfl
@[simp] theorem State.modHearth_irq (s : State) (g : Hearth → Hearth) : (s.modHearth g).irq = s.irq := rfl
@[simp] theorem State.modHearth_timeOffset (s : State) (g : Hearth → Hearth) :
    (s.modHearth g).timeOffset = s.timeOffset := rfl
@[simp] theorem State.modHearth_out (s : State) (g : Hearth → Hearth) : (s.modHearth g).out = s.out := rfl
@[simp] theorem State.modHearth_rd (s : State) (g : Hearth → Hearth) (r : Reg) (j l : Nat) :
    (s.modHearth g).rd r j l = s.rd r j l := rfl
@[simp] theorem State.modHearth_getF (s : State) (g : Hearth → Hearth) (x : RF) (j l : Nat) :
    (s.modHearth g).getF x j l = s.getF x j l := rfl
@[simp] theorem State.modHearth_flag (s : State) (g : Hearth → Hearth) (x : RF) (j l : Nat) :
    (s.modHearth g).flag x j l = s.flag x j l := rfl

/-! ### State.modHost changes `host` alone -/

@[simp] theorem State.modHost_now (s : State) (g : HostPort → HostPort) : (s.modHost g).now = s.now := rfl
@[simp] theorem State.modHost_serial (s : State) (g : HostPort → HostPort) : (s.modHost g).serial = s.serial := rfl
@[simp] theorem State.modHost_pending (s : State) (g : HostPort → HostPort) :
    (s.modHost g).pending = s.pending := rfl
@[simp] theorem State.modHost_regs (s : State) (g : HostPort → HostPort) : (s.modHost g).regs = s.regs := rfl
@[simp] theorem State.modHost_mem (s : State) (g : HostPort → HostPort) : (s.modHost g).mem = s.mem := rfl
@[simp] theorem State.modHost_commons (s : State) (g : HostPort → HostPort) :
    (s.modHost g).commons = s.commons := rfl
@[simp] theorem State.modHost_crofters (s : State) (g : HostPort → HostPort) :
    (s.modHost g).crofters = s.crofters := rfl
@[simp] theorem State.modHost_tallies (s : State) (g : HostPort → HostPort) :
    (s.modHost g).tallies = s.tallies := rfl
@[simp] theorem State.modHost_engines (s : State) (g : HostPort → HostPort) :
    (s.modHost g).engines = s.engines := rfl
@[simp] theorem State.modHost_sieves (s : State) (g : HostPort → HostPort) : (s.modHost g).sieves = s.sieves := rfl
@[simp] theorem State.modHost_cairns (s : State) (g : HostPort → HostPort) : (s.modHost g).cairns = s.cairns := rfl
@[simp] theorem State.modHost_looms (s : State) (g : HostPort → HostPort) : (s.modHost g).looms = s.looms := rfl
@[simp] theorem State.modHost_seq (s : State) (g : HostPort → HostPort) : (s.modHost g).seq = s.seq := rfl
@[simp] theorem State.modHost_boot (s : State) (g : HostPort → HostPort) : (s.modHost g).boot = s.boot := rfl
@[simp] theorem State.modHost_resets (s : State) (g : HostPort → HostPort) : (s.modHost g).resets = s.resets := rfl
@[simp] theorem State.modHost_verne (s : State) (g : HostPort → HostPort) : (s.modHost g).verne = s.verne := rfl
@[simp] theorem State.modHost_fabric (s : State) (g : HostPort → HostPort) : (s.modHost g).fabric = s.fabric := rfl
@[simp] theorem State.modHost_hbm (s : State) (g : HostPort → HostPort) : (s.modHost g).hbm = s.hbm := rfl
@[simp] theorem State.modHost_reeve (s : State) (g : HostPort → HostPort) : (s.modHost g).reeve = s.reeve := rfl
@[simp] theorem State.modHost_power (s : State) (g : HostPort → HostPort) : (s.modHost g).power = s.power := rfl
@[simp] theorem State.modHost_assay (s : State) (g : HostPort → HostPort) : (s.modHost g).assay = s.assay := rfl
@[simp] theorem State.modHost_bist (s : State) (g : HostPort → HostPort) : (s.modHost g).bist = s.bist := rfl
@[simp] theorem State.modHost_hearth (s : State) (g : HostPort → HostPort) : (s.modHost g).hearth = s.hearth := rfl
@[simp] theorem State.modHost_pins (s : State) (g : HostPort → HostPort) : (s.modHost g).pins = s.pins := rfl
@[simp] theorem State.modHost_irq (s : State) (g : HostPort → HostPort) : (s.modHost g).irq = s.irq := rfl
@[simp] theorem State.modHost_timeOffset (s : State) (g : HostPort → HostPort) :
    (s.modHost g).timeOffset = s.timeOffset := rfl
@[simp] theorem State.modHost_out (s : State) (g : HostPort → HostPort) : (s.modHost g).out = s.out := rfl
@[simp] theorem State.modHost_rd (s : State) (g : HostPort → HostPort) (r : Reg) (j l : Nat) :
    (s.modHost g).rd r j l = s.rd r j l := rfl
@[simp] theorem State.modHost_getF (s : State) (g : HostPort → HostPort) (x : RF) (j l : Nat) :
    (s.modHost g).getF x j l = s.getF x j l := rfl
@[simp] theorem State.modHost_flag (s : State) (g : HostPort → HostPort) (x : RF) (j l : Nat) :
    (s.modHost g).flag x j l = s.flag x j l := rfl

/-! ### State.modPower changes `power` alone -/

@[simp] theorem State.modPower_now (s : State) (g : Power → Power) : (s.modPower g).now = s.now := rfl
@[simp] theorem State.modPower_serial (s : State) (g : Power → Power) : (s.modPower g).serial = s.serial := rfl
@[simp] theorem State.modPower_pending (s : State) (g : Power → Power) : (s.modPower g).pending = s.pending := rfl
@[simp] theorem State.modPower_regs (s : State) (g : Power → Power) : (s.modPower g).regs = s.regs := rfl
@[simp] theorem State.modPower_mem (s : State) (g : Power → Power) : (s.modPower g).mem = s.mem := rfl
@[simp] theorem State.modPower_commons (s : State) (g : Power → Power) : (s.modPower g).commons = s.commons := rfl
@[simp] theorem State.modPower_crofters (s : State) (g : Power → Power) :
    (s.modPower g).crofters = s.crofters := rfl
@[simp] theorem State.modPower_tallies (s : State) (g : Power → Power) : (s.modPower g).tallies = s.tallies := rfl
@[simp] theorem State.modPower_engines (s : State) (g : Power → Power) : (s.modPower g).engines = s.engines := rfl
@[simp] theorem State.modPower_sieves (s : State) (g : Power → Power) : (s.modPower g).sieves = s.sieves := rfl
@[simp] theorem State.modPower_cairns (s : State) (g : Power → Power) : (s.modPower g).cairns = s.cairns := rfl
@[simp] theorem State.modPower_looms (s : State) (g : Power → Power) : (s.modPower g).looms = s.looms := rfl
@[simp] theorem State.modPower_seq (s : State) (g : Power → Power) : (s.modPower g).seq = s.seq := rfl
@[simp] theorem State.modPower_boot (s : State) (g : Power → Power) : (s.modPower g).boot = s.boot := rfl
@[simp] theorem State.modPower_resets (s : State) (g : Power → Power) : (s.modPower g).resets = s.resets := rfl
@[simp] theorem State.modPower_verne (s : State) (g : Power → Power) : (s.modPower g).verne = s.verne := rfl
@[simp] theorem State.modPower_fabric (s : State) (g : Power → Power) : (s.modPower g).fabric = s.fabric := rfl
@[simp] theorem State.modPower_hbm (s : State) (g : Power → Power) : (s.modPower g).hbm = s.hbm := rfl
@[simp] theorem State.modPower_host (s : State) (g : Power → Power) : (s.modPower g).host = s.host := rfl
@[simp] theorem State.modPower_reeve (s : State) (g : Power → Power) : (s.modPower g).reeve = s.reeve := rfl
@[simp] theorem State.modPower_assay (s : State) (g : Power → Power) : (s.modPower g).assay = s.assay := rfl
@[simp] theorem State.modPower_bist (s : State) (g : Power → Power) : (s.modPower g).bist = s.bist := rfl
@[simp] theorem State.modPower_hearth (s : State) (g : Power → Power) : (s.modPower g).hearth = s.hearth := rfl
@[simp] theorem State.modPower_pins (s : State) (g : Power → Power) : (s.modPower g).pins = s.pins := rfl
@[simp] theorem State.modPower_irq (s : State) (g : Power → Power) : (s.modPower g).irq = s.irq := rfl
@[simp] theorem State.modPower_timeOffset (s : State) (g : Power → Power) :
    (s.modPower g).timeOffset = s.timeOffset := rfl
@[simp] theorem State.modPower_out (s : State) (g : Power → Power) : (s.modPower g).out = s.out := rfl
@[simp] theorem State.modPower_rd (s : State) (g : Power → Power) (r : Reg) (j l : Nat) :
    (s.modPower g).rd r j l = s.rd r j l := rfl
@[simp] theorem State.modPower_getF (s : State) (g : Power → Power) (x : RF) (j l : Nat) :
    (s.modPower g).getF x j l = s.getF x j l := rfl
@[simp] theorem State.modPower_flag (s : State) (g : Power → Power) (x : RF) (j l : Nat) :
    (s.modPower g).flag x j l = s.flag x j l := rfl

/-! ### State.modReeve changes `reeve` alone -/

@[simp] theorem State.modReeve_now (s : State) (g : Reeve → Reeve) : (s.modReeve g).now = s.now := rfl
@[simp] theorem State.modReeve_serial (s : State) (g : Reeve → Reeve) : (s.modReeve g).serial = s.serial := rfl
@[simp] theorem State.modReeve_pending (s : State) (g : Reeve → Reeve) : (s.modReeve g).pending = s.pending := rfl
@[simp] theorem State.modReeve_regs (s : State) (g : Reeve → Reeve) : (s.modReeve g).regs = s.regs := rfl
@[simp] theorem State.modReeve_mem (s : State) (g : Reeve → Reeve) : (s.modReeve g).mem = s.mem := rfl
@[simp] theorem State.modReeve_commons (s : State) (g : Reeve → Reeve) : (s.modReeve g).commons = s.commons := rfl
@[simp] theorem State.modReeve_crofters (s : State) (g : Reeve → Reeve) :
    (s.modReeve g).crofters = s.crofters := rfl
@[simp] theorem State.modReeve_tallies (s : State) (g : Reeve → Reeve) : (s.modReeve g).tallies = s.tallies := rfl
@[simp] theorem State.modReeve_engines (s : State) (g : Reeve → Reeve) : (s.modReeve g).engines = s.engines := rfl
@[simp] theorem State.modReeve_sieves (s : State) (g : Reeve → Reeve) : (s.modReeve g).sieves = s.sieves := rfl
@[simp] theorem State.modReeve_cairns (s : State) (g : Reeve → Reeve) : (s.modReeve g).cairns = s.cairns := rfl
@[simp] theorem State.modReeve_looms (s : State) (g : Reeve → Reeve) : (s.modReeve g).looms = s.looms := rfl
@[simp] theorem State.modReeve_seq (s : State) (g : Reeve → Reeve) : (s.modReeve g).seq = s.seq := rfl
@[simp] theorem State.modReeve_boot (s : State) (g : Reeve → Reeve) : (s.modReeve g).boot = s.boot := rfl
@[simp] theorem State.modReeve_resets (s : State) (g : Reeve → Reeve) : (s.modReeve g).resets = s.resets := rfl
@[simp] theorem State.modReeve_verne (s : State) (g : Reeve → Reeve) : (s.modReeve g).verne = s.verne := rfl
@[simp] theorem State.modReeve_fabric (s : State) (g : Reeve → Reeve) : (s.modReeve g).fabric = s.fabric := rfl
@[simp] theorem State.modReeve_hbm (s : State) (g : Reeve → Reeve) : (s.modReeve g).hbm = s.hbm := rfl
@[simp] theorem State.modReeve_host (s : State) (g : Reeve → Reeve) : (s.modReeve g).host = s.host := rfl
@[simp] theorem State.modReeve_power (s : State) (g : Reeve → Reeve) : (s.modReeve g).power = s.power := rfl
@[simp] theorem State.modReeve_assay (s : State) (g : Reeve → Reeve) : (s.modReeve g).assay = s.assay := rfl
@[simp] theorem State.modReeve_bist (s : State) (g : Reeve → Reeve) : (s.modReeve g).bist = s.bist := rfl
@[simp] theorem State.modReeve_hearth (s : State) (g : Reeve → Reeve) : (s.modReeve g).hearth = s.hearth := rfl
@[simp] theorem State.modReeve_pins (s : State) (g : Reeve → Reeve) : (s.modReeve g).pins = s.pins := rfl
@[simp] theorem State.modReeve_irq (s : State) (g : Reeve → Reeve) : (s.modReeve g).irq = s.irq := rfl
@[simp] theorem State.modReeve_timeOffset (s : State) (g : Reeve → Reeve) :
    (s.modReeve g).timeOffset = s.timeOffset := rfl
@[simp] theorem State.modReeve_out (s : State) (g : Reeve → Reeve) : (s.modReeve g).out = s.out := rfl
@[simp] theorem State.modReeve_rd (s : State) (g : Reeve → Reeve) (r : Reg) (j l : Nat) :
    (s.modReeve g).rd r j l = s.rd r j l := rfl
@[simp] theorem State.modReeve_getF (s : State) (g : Reeve → Reeve) (x : RF) (j l : Nat) :
    (s.modReeve g).getF x j l = s.getF x j l := rfl
@[simp] theorem State.modReeve_flag (s : State) (g : Reeve → Reeve) (x : RF) (j l : Nat) :
    (s.modReeve g).flag x j l = s.flag x j l := rfl

/-! ### State.modAssay changes `assay` alone -/

@[simp] theorem State.modAssay_now (s : State) (g : Assay → Assay) : (s.modAssay g).now = s.now := rfl
@[simp] theorem State.modAssay_serial (s : State) (g : Assay → Assay) : (s.modAssay g).serial = s.serial := rfl
@[simp] theorem State.modAssay_pending (s : State) (g : Assay → Assay) : (s.modAssay g).pending = s.pending := rfl
@[simp] theorem State.modAssay_regs (s : State) (g : Assay → Assay) : (s.modAssay g).regs = s.regs := rfl
@[simp] theorem State.modAssay_mem (s : State) (g : Assay → Assay) : (s.modAssay g).mem = s.mem := rfl
@[simp] theorem State.modAssay_commons (s : State) (g : Assay → Assay) : (s.modAssay g).commons = s.commons := rfl
@[simp] theorem State.modAssay_crofters (s : State) (g : Assay → Assay) :
    (s.modAssay g).crofters = s.crofters := rfl
@[simp] theorem State.modAssay_tallies (s : State) (g : Assay → Assay) : (s.modAssay g).tallies = s.tallies := rfl
@[simp] theorem State.modAssay_engines (s : State) (g : Assay → Assay) : (s.modAssay g).engines = s.engines := rfl
@[simp] theorem State.modAssay_sieves (s : State) (g : Assay → Assay) : (s.modAssay g).sieves = s.sieves := rfl
@[simp] theorem State.modAssay_cairns (s : State) (g : Assay → Assay) : (s.modAssay g).cairns = s.cairns := rfl
@[simp] theorem State.modAssay_looms (s : State) (g : Assay → Assay) : (s.modAssay g).looms = s.looms := rfl
@[simp] theorem State.modAssay_seq (s : State) (g : Assay → Assay) : (s.modAssay g).seq = s.seq := rfl
@[simp] theorem State.modAssay_boot (s : State) (g : Assay → Assay) : (s.modAssay g).boot = s.boot := rfl
@[simp] theorem State.modAssay_resets (s : State) (g : Assay → Assay) : (s.modAssay g).resets = s.resets := rfl
@[simp] theorem State.modAssay_verne (s : State) (g : Assay → Assay) : (s.modAssay g).verne = s.verne := rfl
@[simp] theorem State.modAssay_fabric (s : State) (g : Assay → Assay) : (s.modAssay g).fabric = s.fabric := rfl
@[simp] theorem State.modAssay_hbm (s : State) (g : Assay → Assay) : (s.modAssay g).hbm = s.hbm := rfl
@[simp] theorem State.modAssay_host (s : State) (g : Assay → Assay) : (s.modAssay g).host = s.host := rfl
@[simp] theorem State.modAssay_reeve (s : State) (g : Assay → Assay) : (s.modAssay g).reeve = s.reeve := rfl
@[simp] theorem State.modAssay_power (s : State) (g : Assay → Assay) : (s.modAssay g).power = s.power := rfl
@[simp] theorem State.modAssay_bist (s : State) (g : Assay → Assay) : (s.modAssay g).bist = s.bist := rfl
@[simp] theorem State.modAssay_hearth (s : State) (g : Assay → Assay) : (s.modAssay g).hearth = s.hearth := rfl
@[simp] theorem State.modAssay_pins (s : State) (g : Assay → Assay) : (s.modAssay g).pins = s.pins := rfl
@[simp] theorem State.modAssay_irq (s : State) (g : Assay → Assay) : (s.modAssay g).irq = s.irq := rfl
@[simp] theorem State.modAssay_timeOffset (s : State) (g : Assay → Assay) :
    (s.modAssay g).timeOffset = s.timeOffset := rfl
@[simp] theorem State.modAssay_out (s : State) (g : Assay → Assay) : (s.modAssay g).out = s.out := rfl
@[simp] theorem State.modAssay_rd (s : State) (g : Assay → Assay) (r : Reg) (j l : Nat) :
    (s.modAssay g).rd r j l = s.rd r j l := rfl
@[simp] theorem State.modAssay_getF (s : State) (g : Assay → Assay) (x : RF) (j l : Nat) :
    (s.modAssay g).getF x j l = s.getF x j l := rfl
@[simp] theorem State.modAssay_flag (s : State) (g : Assay → Assay) (x : RF) (j l : Nat) :
    (s.modAssay g).flag x j l = s.flag x j l := rfl

/-! ### State.modPins changes `pins` alone -/

@[simp] theorem State.modPins_now (s : State) (g : Pins → Pins) : (s.modPins g).now = s.now := rfl
@[simp] theorem State.modPins_serial (s : State) (g : Pins → Pins) : (s.modPins g).serial = s.serial := rfl
@[simp] theorem State.modPins_pending (s : State) (g : Pins → Pins) : (s.modPins g).pending = s.pending := rfl
@[simp] theorem State.modPins_regs (s : State) (g : Pins → Pins) : (s.modPins g).regs = s.regs := rfl
@[simp] theorem State.modPins_mem (s : State) (g : Pins → Pins) : (s.modPins g).mem = s.mem := rfl
@[simp] theorem State.modPins_commons (s : State) (g : Pins → Pins) : (s.modPins g).commons = s.commons := rfl
@[simp] theorem State.modPins_crofters (s : State) (g : Pins → Pins) : (s.modPins g).crofters = s.crofters := rfl
@[simp] theorem State.modPins_tallies (s : State) (g : Pins → Pins) : (s.modPins g).tallies = s.tallies := rfl
@[simp] theorem State.modPins_engines (s : State) (g : Pins → Pins) : (s.modPins g).engines = s.engines := rfl
@[simp] theorem State.modPins_sieves (s : State) (g : Pins → Pins) : (s.modPins g).sieves = s.sieves := rfl
@[simp] theorem State.modPins_cairns (s : State) (g : Pins → Pins) : (s.modPins g).cairns = s.cairns := rfl
@[simp] theorem State.modPins_looms (s : State) (g : Pins → Pins) : (s.modPins g).looms = s.looms := rfl
@[simp] theorem State.modPins_seq (s : State) (g : Pins → Pins) : (s.modPins g).seq = s.seq := rfl
@[simp] theorem State.modPins_boot (s : State) (g : Pins → Pins) : (s.modPins g).boot = s.boot := rfl
@[simp] theorem State.modPins_resets (s : State) (g : Pins → Pins) : (s.modPins g).resets = s.resets := rfl
@[simp] theorem State.modPins_verne (s : State) (g : Pins → Pins) : (s.modPins g).verne = s.verne := rfl
@[simp] theorem State.modPins_fabric (s : State) (g : Pins → Pins) : (s.modPins g).fabric = s.fabric := rfl
@[simp] theorem State.modPins_hbm (s : State) (g : Pins → Pins) : (s.modPins g).hbm = s.hbm := rfl
@[simp] theorem State.modPins_host (s : State) (g : Pins → Pins) : (s.modPins g).host = s.host := rfl
@[simp] theorem State.modPins_reeve (s : State) (g : Pins → Pins) : (s.modPins g).reeve = s.reeve := rfl
@[simp] theorem State.modPins_power (s : State) (g : Pins → Pins) : (s.modPins g).power = s.power := rfl
@[simp] theorem State.modPins_assay (s : State) (g : Pins → Pins) : (s.modPins g).assay = s.assay := rfl
@[simp] theorem State.modPins_bist (s : State) (g : Pins → Pins) : (s.modPins g).bist = s.bist := rfl
@[simp] theorem State.modPins_hearth (s : State) (g : Pins → Pins) : (s.modPins g).hearth = s.hearth := rfl
@[simp] theorem State.modPins_irq (s : State) (g : Pins → Pins) : (s.modPins g).irq = s.irq := rfl
@[simp] theorem State.modPins_timeOffset (s : State) (g : Pins → Pins) :
    (s.modPins g).timeOffset = s.timeOffset := rfl
@[simp] theorem State.modPins_out (s : State) (g : Pins → Pins) : (s.modPins g).out = s.out := rfl
@[simp] theorem State.modPins_rd (s : State) (g : Pins → Pins) (r : Reg) (j l : Nat) :
    (s.modPins g).rd r j l = s.rd r j l := rfl
@[simp] theorem State.modPins_getF (s : State) (g : Pins → Pins) (x : RF) (j l : Nat) :
    (s.modPins g).getF x j l = s.getF x j l := rfl
@[simp] theorem State.modPins_flag (s : State) (g : Pins → Pins) (x : RF) (j l : Nat) :
    (s.modPins g).flag x j l = s.flag x j l := rfl

/-! ### State.setThread changes `crofters` alone -/

@[simp] theorem State.setThread_now (s : State) (f t : Nat) (x : Thread) : (s.setThread f t x).now = s.now := rfl
@[simp] theorem State.setThread_serial (s : State) (f t : Nat) (x : Thread) :
    (s.setThread f t x).serial = s.serial := rfl
@[simp] theorem State.setThread_pending (s : State) (f t : Nat) (x : Thread) :
    (s.setThread f t x).pending = s.pending := rfl
@[simp] theorem State.setThread_regs (s : State) (f t : Nat) (x : Thread) :
    (s.setThread f t x).regs = s.regs := rfl
@[simp] theorem State.setThread_mem (s : State) (f t : Nat) (x : Thread) : (s.setThread f t x).mem = s.mem := rfl
@[simp] theorem State.setThread_commons (s : State) (f t : Nat) (x : Thread) :
    (s.setThread f t x).commons = s.commons := rfl
@[simp] theorem State.setThread_tallies (s : State) (f t : Nat) (x : Thread) :
    (s.setThread f t x).tallies = s.tallies := rfl
@[simp] theorem State.setThread_engines (s : State) (f t : Nat) (x : Thread) :
    (s.setThread f t x).engines = s.engines := rfl
@[simp] theorem State.setThread_sieves (s : State) (f t : Nat) (x : Thread) :
    (s.setThread f t x).sieves = s.sieves := rfl
@[simp] theorem State.setThread_cairns (s : State) (f t : Nat) (x : Thread) :
    (s.setThread f t x).cairns = s.cairns := rfl
@[simp] theorem State.setThread_looms (s : State) (f t : Nat) (x : Thread) :
    (s.setThread f t x).looms = s.looms := rfl
@[simp] theorem State.setThread_seq (s : State) (f t : Nat) (x : Thread) : (s.setThread f t x).seq = s.seq := rfl
@[simp] theorem State.setThread_boot (s : State) (f t : Nat) (x : Thread) :
    (s.setThread f t x).boot = s.boot := rfl
@[simp] theorem State.setThread_resets (s : State) (f t : Nat) (x : Thread) :
    (s.setThread f t x).resets = s.resets := rfl
@[simp] theorem State.setThread_verne (s : State) (f t : Nat) (x : Thread) :
    (s.setThread f t x).verne = s.verne := rfl
@[simp] theorem State.setThread_fabric (s : State) (f t : Nat) (x : Thread) :
    (s.setThread f t x).fabric = s.fabric := rfl
@[simp] theorem State.setThread_hbm (s : State) (f t : Nat) (x : Thread) : (s.setThread f t x).hbm = s.hbm := rfl
@[simp] theorem State.setThread_host (s : State) (f t : Nat) (x : Thread) :
    (s.setThread f t x).host = s.host := rfl
@[simp] theorem State.setThread_reeve (s : State) (f t : Nat) (x : Thread) :
    (s.setThread f t x).reeve = s.reeve := rfl
@[simp] theorem State.setThread_power (s : State) (f t : Nat) (x : Thread) :
    (s.setThread f t x).power = s.power := rfl
@[simp] theorem State.setThread_assay (s : State) (f t : Nat) (x : Thread) :
    (s.setThread f t x).assay = s.assay := rfl
@[simp] theorem State.setThread_bist (s : State) (f t : Nat) (x : Thread) :
    (s.setThread f t x).bist = s.bist := rfl
@[simp] theorem State.setThread_hearth (s : State) (f t : Nat) (x : Thread) :
    (s.setThread f t x).hearth = s.hearth := rfl
@[simp] theorem State.setThread_pins (s : State) (f t : Nat) (x : Thread) :
    (s.setThread f t x).pins = s.pins := rfl
@[simp] theorem State.setThread_irq (s : State) (f t : Nat) (x : Thread) : (s.setThread f t x).irq = s.irq := rfl
@[simp] theorem State.setThread_timeOffset (s : State) (f t : Nat) (x : Thread) :
    (s.setThread f t x).timeOffset = s.timeOffset := rfl
@[simp] theorem State.setThread_out (s : State) (f t : Nat) (x : Thread) : (s.setThread f t x).out = s.out := rfl
@[simp] theorem State.setThread_rd (s : State) (f t : Nat) (x : Thread) (r : Reg) (j l : Nat) :
    (s.setThread f t x).rd r j l = s.rd r j l := rfl
@[simp] theorem State.setThread_getF (s : State) (f t : Nat) (y : Thread) (x : RF) (j l : Nat) :
    (s.setThread f t y).getF x j l = s.getF x j l := rfl
@[simp] theorem State.setThread_flag (s : State) (f t : Nat) (y : Thread) (x : RF) (j l : Nat) :
    (s.setThread f t y).flag x j l = s.flag x j l := rfl

/-! ### State.modThread changes `crofters` alone -/

@[simp] theorem State.modThread_now (s : State) (f t : Nat) (g : Thread → Thread) :
    (s.modThread f t g).now = s.now := rfl
@[simp] theorem State.modThread_serial (s : State) (f t : Nat) (g : Thread → Thread) :
    (s.modThread f t g).serial = s.serial := rfl
@[simp] theorem State.modThread_pending (s : State) (f t : Nat) (g : Thread → Thread) :
    (s.modThread f t g).pending = s.pending := rfl
@[simp] theorem State.modThread_regs (s : State) (f t : Nat) (g : Thread → Thread) :
    (s.modThread f t g).regs = s.regs := rfl
@[simp] theorem State.modThread_mem (s : State) (f t : Nat) (g : Thread → Thread) :
    (s.modThread f t g).mem = s.mem := rfl
@[simp] theorem State.modThread_commons (s : State) (f t : Nat) (g : Thread → Thread) :
    (s.modThread f t g).commons = s.commons := rfl
@[simp] theorem State.modThread_tallies (s : State) (f t : Nat) (g : Thread → Thread) :
    (s.modThread f t g).tallies = s.tallies := rfl
@[simp] theorem State.modThread_engines (s : State) (f t : Nat) (g : Thread → Thread) :
    (s.modThread f t g).engines = s.engines := rfl
@[simp] theorem State.modThread_sieves (s : State) (f t : Nat) (g : Thread → Thread) :
    (s.modThread f t g).sieves = s.sieves := rfl
@[simp] theorem State.modThread_cairns (s : State) (f t : Nat) (g : Thread → Thread) :
    (s.modThread f t g).cairns = s.cairns := rfl
@[simp] theorem State.modThread_looms (s : State) (f t : Nat) (g : Thread → Thread) :
    (s.modThread f t g).looms = s.looms := rfl
@[simp] theorem State.modThread_seq (s : State) (f t : Nat) (g : Thread → Thread) :
    (s.modThread f t g).seq = s.seq := rfl
@[simp] theorem State.modThread_boot (s : State) (f t : Nat) (g : Thread → Thread) :
    (s.modThread f t g).boot = s.boot := rfl
@[simp] theorem State.modThread_resets (s : State) (f t : Nat) (g : Thread → Thread) :
    (s.modThread f t g).resets = s.resets := rfl
@[simp] theorem State.modThread_verne (s : State) (f t : Nat) (g : Thread → Thread) :
    (s.modThread f t g).verne = s.verne := rfl
@[simp] theorem State.modThread_fabric (s : State) (f t : Nat) (g : Thread → Thread) :
    (s.modThread f t g).fabric = s.fabric := rfl
@[simp] theorem State.modThread_hbm (s : State) (f t : Nat) (g : Thread → Thread) :
    (s.modThread f t g).hbm = s.hbm := rfl
@[simp] theorem State.modThread_host (s : State) (f t : Nat) (g : Thread → Thread) :
    (s.modThread f t g).host = s.host := rfl
@[simp] theorem State.modThread_reeve (s : State) (f t : Nat) (g : Thread → Thread) :
    (s.modThread f t g).reeve = s.reeve := rfl
@[simp] theorem State.modThread_power (s : State) (f t : Nat) (g : Thread → Thread) :
    (s.modThread f t g).power = s.power := rfl
@[simp] theorem State.modThread_assay (s : State) (f t : Nat) (g : Thread → Thread) :
    (s.modThread f t g).assay = s.assay := rfl
@[simp] theorem State.modThread_bist (s : State) (f t : Nat) (g : Thread → Thread) :
    (s.modThread f t g).bist = s.bist := rfl
@[simp] theorem State.modThread_hearth (s : State) (f t : Nat) (g : Thread → Thread) :
    (s.modThread f t g).hearth = s.hearth := rfl
@[simp] theorem State.modThread_pins (s : State) (f t : Nat) (g : Thread → Thread) :
    (s.modThread f t g).pins = s.pins := rfl
@[simp] theorem State.modThread_irq (s : State) (f t : Nat) (g : Thread → Thread) :
    (s.modThread f t g).irq = s.irq := rfl
@[simp] theorem State.modThread_timeOffset (s : State) (f t : Nat) (g : Thread → Thread) :
    (s.modThread f t g).timeOffset = s.timeOffset := rfl
@[simp] theorem State.modThread_out (s : State) (f t : Nat) (g : Thread → Thread) :
    (s.modThread f t g).out = s.out := rfl
@[simp] theorem State.modThread_rd (s : State) (f t : Nat) (g : Thread → Thread) (r : Reg) (j l : Nat) :
    (s.modThread f t g).rd r j l = s.rd r j l := rfl
@[simp] theorem State.modThread_getF (s : State) (f t : Nat) (g : Thread → Thread) (x : RF) (j l : Nat) :
    (s.modThread f t g).getF x j l = s.getF x j l := rfl
@[simp] theorem State.modThread_flag (s : State) (f t : Nat) (g : Thread → Thread) (x : RF) (j l : Nat) :
    (s.modThread f t g).flag x j l = s.flag x j l := rfl

/-! ### State.modBell changes `crofters` alone -/

@[simp] theorem State.modBell_now (s : State) (f : Nat) (g : Bell → Bell) : (s.modBell f g).now = s.now := rfl
@[simp] theorem State.modBell_serial (s : State) (f : Nat) (g : Bell → Bell) :
    (s.modBell f g).serial = s.serial := rfl
@[simp] theorem State.modBell_pending (s : State) (f : Nat) (g : Bell → Bell) :
    (s.modBell f g).pending = s.pending := rfl
@[simp] theorem State.modBell_regs (s : State) (f : Nat) (g : Bell → Bell) : (s.modBell f g).regs = s.regs := rfl
@[simp] theorem State.modBell_mem (s : State) (f : Nat) (g : Bell → Bell) : (s.modBell f g).mem = s.mem := rfl
@[simp] theorem State.modBell_commons (s : State) (f : Nat) (g : Bell → Bell) :
    (s.modBell f g).commons = s.commons := rfl
@[simp] theorem State.modBell_tallies (s : State) (f : Nat) (g : Bell → Bell) :
    (s.modBell f g).tallies = s.tallies := rfl
@[simp] theorem State.modBell_engines (s : State) (f : Nat) (g : Bell → Bell) :
    (s.modBell f g).engines = s.engines := rfl
@[simp] theorem State.modBell_sieves (s : State) (f : Nat) (g : Bell → Bell) :
    (s.modBell f g).sieves = s.sieves := rfl
@[simp] theorem State.modBell_cairns (s : State) (f : Nat) (g : Bell → Bell) :
    (s.modBell f g).cairns = s.cairns := rfl
@[simp] theorem State.modBell_looms (s : State) (f : Nat) (g : Bell → Bell) :
    (s.modBell f g).looms = s.looms := rfl
@[simp] theorem State.modBell_seq (s : State) (f : Nat) (g : Bell → Bell) : (s.modBell f g).seq = s.seq := rfl
@[simp] theorem State.modBell_boot (s : State) (f : Nat) (g : Bell → Bell) : (s.modBell f g).boot = s.boot := rfl
@[simp] theorem State.modBell_resets (s : State) (f : Nat) (g : Bell → Bell) :
    (s.modBell f g).resets = s.resets := rfl
@[simp] theorem State.modBell_verne (s : State) (f : Nat) (g : Bell → Bell) :
    (s.modBell f g).verne = s.verne := rfl
@[simp] theorem State.modBell_fabric (s : State) (f : Nat) (g : Bell → Bell) :
    (s.modBell f g).fabric = s.fabric := rfl
@[simp] theorem State.modBell_hbm (s : State) (f : Nat) (g : Bell → Bell) : (s.modBell f g).hbm = s.hbm := rfl
@[simp] theorem State.modBell_host (s : State) (f : Nat) (g : Bell → Bell) : (s.modBell f g).host = s.host := rfl
@[simp] theorem State.modBell_reeve (s : State) (f : Nat) (g : Bell → Bell) :
    (s.modBell f g).reeve = s.reeve := rfl
@[simp] theorem State.modBell_power (s : State) (f : Nat) (g : Bell → Bell) :
    (s.modBell f g).power = s.power := rfl
@[simp] theorem State.modBell_assay (s : State) (f : Nat) (g : Bell → Bell) :
    (s.modBell f g).assay = s.assay := rfl
@[simp] theorem State.modBell_bist (s : State) (f : Nat) (g : Bell → Bell) : (s.modBell f g).bist = s.bist := rfl
@[simp] theorem State.modBell_hearth (s : State) (f : Nat) (g : Bell → Bell) :
    (s.modBell f g).hearth = s.hearth := rfl
@[simp] theorem State.modBell_pins (s : State) (f : Nat) (g : Bell → Bell) : (s.modBell f g).pins = s.pins := rfl
@[simp] theorem State.modBell_irq (s : State) (f : Nat) (g : Bell → Bell) : (s.modBell f g).irq = s.irq := rfl
@[simp] theorem State.modBell_timeOffset (s : State) (f : Nat) (g : Bell → Bell) :
    (s.modBell f g).timeOffset = s.timeOffset := rfl
@[simp] theorem State.modBell_out (s : State) (f : Nat) (g : Bell → Bell) : (s.modBell f g).out = s.out := rfl
@[simp] theorem State.modBell_rd (s : State) (f : Nat) (g : Bell → Bell) (r : Reg) (j l : Nat) :
    (s.modBell f g).rd r j l = s.rd r j l := rfl
@[simp] theorem State.modBell_getF (s : State) (f : Nat) (g : Bell → Bell) (x : RF) (j l : Nat) :
    (s.modBell f g).getF x j l = s.getF x j l := rfl
@[simp] theorem State.modBell_flag (s : State) (f : Nat) (g : Bell → Bell) (x : RF) (j l : Nat) :
    (s.modBell f g).flag x j l = s.flag x j l := rfl

/-! ### State.setTally changes `tallies` alone -/

@[simp] theorem State.setTally_now (s : State) (k : Nat) (t : Tally) : (s.setTally k t).now = s.now := rfl
@[simp] theorem State.setTally_serial (s : State) (k : Nat) (t : Tally) : (s.setTally k t).serial = s.serial := rfl
@[simp] theorem State.setTally_pending (s : State) (k : Nat) (t : Tally) :
    (s.setTally k t).pending = s.pending := rfl
@[simp] theorem State.setTally_regs (s : State) (k : Nat) (t : Tally) : (s.setTally k t).regs = s.regs := rfl
@[simp] theorem State.setTally_mem (s : State) (k : Nat) (t : Tally) : (s.setTally k t).mem = s.mem := rfl
@[simp] theorem State.setTally_commons (s : State) (k : Nat) (t : Tally) :
    (s.setTally k t).commons = s.commons := rfl
@[simp] theorem State.setTally_crofters (s : State) (k : Nat) (t : Tally) :
    (s.setTally k t).crofters = s.crofters := rfl
@[simp] theorem State.setTally_engines (s : State) (k : Nat) (t : Tally) :
    (s.setTally k t).engines = s.engines := rfl
@[simp] theorem State.setTally_sieves (s : State) (k : Nat) (t : Tally) : (s.setTally k t).sieves = s.sieves := rfl
@[simp] theorem State.setTally_cairns (s : State) (k : Nat) (t : Tally) : (s.setTally k t).cairns = s.cairns := rfl
@[simp] theorem State.setTally_looms (s : State) (k : Nat) (t : Tally) : (s.setTally k t).looms = s.looms := rfl
@[simp] theorem State.setTally_seq (s : State) (k : Nat) (t : Tally) : (s.setTally k t).seq = s.seq := rfl
@[simp] theorem State.setTally_boot (s : State) (k : Nat) (t : Tally) : (s.setTally k t).boot = s.boot := rfl
@[simp] theorem State.setTally_resets (s : State) (k : Nat) (t : Tally) : (s.setTally k t).resets = s.resets := rfl
@[simp] theorem State.setTally_verne (s : State) (k : Nat) (t : Tally) : (s.setTally k t).verne = s.verne := rfl
@[simp] theorem State.setTally_fabric (s : State) (k : Nat) (t : Tally) : (s.setTally k t).fabric = s.fabric := rfl
@[simp] theorem State.setTally_hbm (s : State) (k : Nat) (t : Tally) : (s.setTally k t).hbm = s.hbm := rfl
@[simp] theorem State.setTally_host (s : State) (k : Nat) (t : Tally) : (s.setTally k t).host = s.host := rfl
@[simp] theorem State.setTally_reeve (s : State) (k : Nat) (t : Tally) : (s.setTally k t).reeve = s.reeve := rfl
@[simp] theorem State.setTally_power (s : State) (k : Nat) (t : Tally) : (s.setTally k t).power = s.power := rfl
@[simp] theorem State.setTally_assay (s : State) (k : Nat) (t : Tally) : (s.setTally k t).assay = s.assay := rfl
@[simp] theorem State.setTally_bist (s : State) (k : Nat) (t : Tally) : (s.setTally k t).bist = s.bist := rfl
@[simp] theorem State.setTally_hearth (s : State) (k : Nat) (t : Tally) : (s.setTally k t).hearth = s.hearth := rfl
@[simp] theorem State.setTally_pins (s : State) (k : Nat) (t : Tally) : (s.setTally k t).pins = s.pins := rfl
@[simp] theorem State.setTally_irq (s : State) (k : Nat) (t : Tally) : (s.setTally k t).irq = s.irq := rfl
@[simp] theorem State.setTally_timeOffset (s : State) (k : Nat) (t : Tally) :
    (s.setTally k t).timeOffset = s.timeOffset := rfl
@[simp] theorem State.setTally_out (s : State) (k : Nat) (t : Tally) : (s.setTally k t).out = s.out := rfl
@[simp] theorem State.setTally_rd (s : State) (k : Nat) (t : Tally) (r : Reg) (j l : Nat) :
    (s.setTally k t).rd r j l = s.rd r j l := rfl
@[simp] theorem State.setTally_getF (s : State) (k : Nat) (t : Tally) (x : RF) (j l : Nat) :
    (s.setTally k t).getF x j l = s.getF x j l := rfl
@[simp] theorem State.setTally_flag (s : State) (k : Nat) (t : Tally) (x : RF) (j l : Nat) :
    (s.setTally k t).flag x j l = s.flag x j l := rfl

/-! ### State.setEngine changes `engines` alone -/

@[simp] theorem State.setEngine_now (s : State) (f u : Nat) (e : Engine) : (s.setEngine f u e).now = s.now := rfl
@[simp] theorem State.setEngine_serial (s : State) (f u : Nat) (e : Engine) :
    (s.setEngine f u e).serial = s.serial := rfl
@[simp] theorem State.setEngine_pending (s : State) (f u : Nat) (e : Engine) :
    (s.setEngine f u e).pending = s.pending := rfl
@[simp] theorem State.setEngine_regs (s : State) (f u : Nat) (e : Engine) :
    (s.setEngine f u e).regs = s.regs := rfl
@[simp] theorem State.setEngine_mem (s : State) (f u : Nat) (e : Engine) : (s.setEngine f u e).mem = s.mem := rfl
@[simp] theorem State.setEngine_commons (s : State) (f u : Nat) (e : Engine) :
    (s.setEngine f u e).commons = s.commons := rfl
@[simp] theorem State.setEngine_crofters (s : State) (f u : Nat) (e : Engine) :
    (s.setEngine f u e).crofters = s.crofters := rfl
@[simp] theorem State.setEngine_tallies (s : State) (f u : Nat) (e : Engine) :
    (s.setEngine f u e).tallies = s.tallies := rfl
@[simp] theorem State.setEngine_sieves (s : State) (f u : Nat) (e : Engine) :
    (s.setEngine f u e).sieves = s.sieves := rfl
@[simp] theorem State.setEngine_cairns (s : State) (f u : Nat) (e : Engine) :
    (s.setEngine f u e).cairns = s.cairns := rfl
@[simp] theorem State.setEngine_looms (s : State) (f u : Nat) (e : Engine) :
    (s.setEngine f u e).looms = s.looms := rfl
@[simp] theorem State.setEngine_seq (s : State) (f u : Nat) (e : Engine) : (s.setEngine f u e).seq = s.seq := rfl
@[simp] theorem State.setEngine_boot (s : State) (f u : Nat) (e : Engine) :
    (s.setEngine f u e).boot = s.boot := rfl
@[simp] theorem State.setEngine_resets (s : State) (f u : Nat) (e : Engine) :
    (s.setEngine f u e).resets = s.resets := rfl
@[simp] theorem State.setEngine_verne (s : State) (f u : Nat) (e : Engine) :
    (s.setEngine f u e).verne = s.verne := rfl
@[simp] theorem State.setEngine_fabric (s : State) (f u : Nat) (e : Engine) :
    (s.setEngine f u e).fabric = s.fabric := rfl
@[simp] theorem State.setEngine_hbm (s : State) (f u : Nat) (e : Engine) : (s.setEngine f u e).hbm = s.hbm := rfl
@[simp] theorem State.setEngine_host (s : State) (f u : Nat) (e : Engine) :
    (s.setEngine f u e).host = s.host := rfl
@[simp] theorem State.setEngine_reeve (s : State) (f u : Nat) (e : Engine) :
    (s.setEngine f u e).reeve = s.reeve := rfl
@[simp] theorem State.setEngine_power (s : State) (f u : Nat) (e : Engine) :
    (s.setEngine f u e).power = s.power := rfl
@[simp] theorem State.setEngine_assay (s : State) (f u : Nat) (e : Engine) :
    (s.setEngine f u e).assay = s.assay := rfl
@[simp] theorem State.setEngine_bist (s : State) (f u : Nat) (e : Engine) :
    (s.setEngine f u e).bist = s.bist := rfl
@[simp] theorem State.setEngine_hearth (s : State) (f u : Nat) (e : Engine) :
    (s.setEngine f u e).hearth = s.hearth := rfl
@[simp] theorem State.setEngine_pins (s : State) (f u : Nat) (e : Engine) :
    (s.setEngine f u e).pins = s.pins := rfl
@[simp] theorem State.setEngine_irq (s : State) (f u : Nat) (e : Engine) : (s.setEngine f u e).irq = s.irq := rfl
@[simp] theorem State.setEngine_timeOffset (s : State) (f u : Nat) (e : Engine) :
    (s.setEngine f u e).timeOffset = s.timeOffset := rfl
@[simp] theorem State.setEngine_out (s : State) (f u : Nat) (e : Engine) : (s.setEngine f u e).out = s.out := rfl
@[simp] theorem State.setEngine_rd (s : State) (f u : Nat) (e : Engine) (r : Reg) (j l : Nat) :
    (s.setEngine f u e).rd r j l = s.rd r j l := rfl
@[simp] theorem State.setEngine_getF (s : State) (f u : Nat) (e : Engine) (x : RF) (j l : Nat) :
    (s.setEngine f u e).getF x j l = s.getF x j l := rfl
@[simp] theorem State.setEngine_flag (s : State) (f u : Nat) (e : Engine) (x : RF) (j l : Nat) :
    (s.setEngine f u e).flag x j l = s.flag x j l := rfl

/-! ### State.modEngine changes `engines` alone -/

@[simp] theorem State.modEngine_now (s : State) (f u : Nat) (g : Engine → Engine) :
    (s.modEngine f u g).now = s.now := rfl
@[simp] theorem State.modEngine_serial (s : State) (f u : Nat) (g : Engine → Engine) :
    (s.modEngine f u g).serial = s.serial := rfl
@[simp] theorem State.modEngine_pending (s : State) (f u : Nat) (g : Engine → Engine) :
    (s.modEngine f u g).pending = s.pending := rfl
@[simp] theorem State.modEngine_regs (s : State) (f u : Nat) (g : Engine → Engine) :
    (s.modEngine f u g).regs = s.regs := rfl
@[simp] theorem State.modEngine_mem (s : State) (f u : Nat) (g : Engine → Engine) :
    (s.modEngine f u g).mem = s.mem := rfl
@[simp] theorem State.modEngine_commons (s : State) (f u : Nat) (g : Engine → Engine) :
    (s.modEngine f u g).commons = s.commons := rfl
@[simp] theorem State.modEngine_crofters (s : State) (f u : Nat) (g : Engine → Engine) :
    (s.modEngine f u g).crofters = s.crofters := rfl
@[simp] theorem State.modEngine_tallies (s : State) (f u : Nat) (g : Engine → Engine) :
    (s.modEngine f u g).tallies = s.tallies := rfl
@[simp] theorem State.modEngine_sieves (s : State) (f u : Nat) (g : Engine → Engine) :
    (s.modEngine f u g).sieves = s.sieves := rfl
@[simp] theorem State.modEngine_cairns (s : State) (f u : Nat) (g : Engine → Engine) :
    (s.modEngine f u g).cairns = s.cairns := rfl
@[simp] theorem State.modEngine_looms (s : State) (f u : Nat) (g : Engine → Engine) :
    (s.modEngine f u g).looms = s.looms := rfl
@[simp] theorem State.modEngine_seq (s : State) (f u : Nat) (g : Engine → Engine) :
    (s.modEngine f u g).seq = s.seq := rfl
@[simp] theorem State.modEngine_boot (s : State) (f u : Nat) (g : Engine → Engine) :
    (s.modEngine f u g).boot = s.boot := rfl
@[simp] theorem State.modEngine_resets (s : State) (f u : Nat) (g : Engine → Engine) :
    (s.modEngine f u g).resets = s.resets := rfl
@[simp] theorem State.modEngine_verne (s : State) (f u : Nat) (g : Engine → Engine) :
    (s.modEngine f u g).verne = s.verne := rfl
@[simp] theorem State.modEngine_fabric (s : State) (f u : Nat) (g : Engine → Engine) :
    (s.modEngine f u g).fabric = s.fabric := rfl
@[simp] theorem State.modEngine_hbm (s : State) (f u : Nat) (g : Engine → Engine) :
    (s.modEngine f u g).hbm = s.hbm := rfl
@[simp] theorem State.modEngine_host (s : State) (f u : Nat) (g : Engine → Engine) :
    (s.modEngine f u g).host = s.host := rfl
@[simp] theorem State.modEngine_reeve (s : State) (f u : Nat) (g : Engine → Engine) :
    (s.modEngine f u g).reeve = s.reeve := rfl
@[simp] theorem State.modEngine_power (s : State) (f u : Nat) (g : Engine → Engine) :
    (s.modEngine f u g).power = s.power := rfl
@[simp] theorem State.modEngine_assay (s : State) (f u : Nat) (g : Engine → Engine) :
    (s.modEngine f u g).assay = s.assay := rfl
@[simp] theorem State.modEngine_bist (s : State) (f u : Nat) (g : Engine → Engine) :
    (s.modEngine f u g).bist = s.bist := rfl
@[simp] theorem State.modEngine_hearth (s : State) (f u : Nat) (g : Engine → Engine) :
    (s.modEngine f u g).hearth = s.hearth := rfl
@[simp] theorem State.modEngine_pins (s : State) (f u : Nat) (g : Engine → Engine) :
    (s.modEngine f u g).pins = s.pins := rfl
@[simp] theorem State.modEngine_irq (s : State) (f u : Nat) (g : Engine → Engine) :
    (s.modEngine f u g).irq = s.irq := rfl
@[simp] theorem State.modEngine_timeOffset (s : State) (f u : Nat) (g : Engine → Engine) :
    (s.modEngine f u g).timeOffset = s.timeOffset := rfl
@[simp] theorem State.modEngine_out (s : State) (f u : Nat) (g : Engine → Engine) :
    (s.modEngine f u g).out = s.out := rfl
@[simp] theorem State.modEngine_rd (s : State) (f u : Nat) (g : Engine → Engine) (r : Reg) (j l : Nat) :
    (s.modEngine f u g).rd r j l = s.rd r j l := rfl
@[simp] theorem State.modEngine_getF (s : State) (f u : Nat) (g : Engine → Engine) (x : RF) (j l : Nat) :
    (s.modEngine f u g).getF x j l = s.getF x j l := rfl
@[simp] theorem State.modEngine_flag (s : State) (f u : Nat) (g : Engine → Engine) (x : RF) (j l : Nat) :
    (s.modEngine f u g).flag x j l = s.flag x j l := rfl

/-! ### State.modTask changes `engines` alone -/

@[simp] theorem State.modTask_now (s : State) (f u n : Nat) (g : EngTask → EngTask) :
    (s.modTask f u n g).now = s.now := rfl
@[simp] theorem State.modTask_serial (s : State) (f u n : Nat) (g : EngTask → EngTask) :
    (s.modTask f u n g).serial = s.serial := rfl
@[simp] theorem State.modTask_pending (s : State) (f u n : Nat) (g : EngTask → EngTask) :
    (s.modTask f u n g).pending = s.pending := rfl
@[simp] theorem State.modTask_regs (s : State) (f u n : Nat) (g : EngTask → EngTask) :
    (s.modTask f u n g).regs = s.regs := rfl
@[simp] theorem State.modTask_mem (s : State) (f u n : Nat) (g : EngTask → EngTask) :
    (s.modTask f u n g).mem = s.mem := rfl
@[simp] theorem State.modTask_commons (s : State) (f u n : Nat) (g : EngTask → EngTask) :
    (s.modTask f u n g).commons = s.commons := rfl
@[simp] theorem State.modTask_crofters (s : State) (f u n : Nat) (g : EngTask → EngTask) :
    (s.modTask f u n g).crofters = s.crofters := rfl
@[simp] theorem State.modTask_tallies (s : State) (f u n : Nat) (g : EngTask → EngTask) :
    (s.modTask f u n g).tallies = s.tallies := rfl
@[simp] theorem State.modTask_sieves (s : State) (f u n : Nat) (g : EngTask → EngTask) :
    (s.modTask f u n g).sieves = s.sieves := rfl
@[simp] theorem State.modTask_cairns (s : State) (f u n : Nat) (g : EngTask → EngTask) :
    (s.modTask f u n g).cairns = s.cairns := rfl
@[simp] theorem State.modTask_looms (s : State) (f u n : Nat) (g : EngTask → EngTask) :
    (s.modTask f u n g).looms = s.looms := rfl
@[simp] theorem State.modTask_seq (s : State) (f u n : Nat) (g : EngTask → EngTask) :
    (s.modTask f u n g).seq = s.seq := rfl
@[simp] theorem State.modTask_boot (s : State) (f u n : Nat) (g : EngTask → EngTask) :
    (s.modTask f u n g).boot = s.boot := rfl
@[simp] theorem State.modTask_resets (s : State) (f u n : Nat) (g : EngTask → EngTask) :
    (s.modTask f u n g).resets = s.resets := rfl
@[simp] theorem State.modTask_verne (s : State) (f u n : Nat) (g : EngTask → EngTask) :
    (s.modTask f u n g).verne = s.verne := rfl
@[simp] theorem State.modTask_fabric (s : State) (f u n : Nat) (g : EngTask → EngTask) :
    (s.modTask f u n g).fabric = s.fabric := rfl
@[simp] theorem State.modTask_hbm (s : State) (f u n : Nat) (g : EngTask → EngTask) :
    (s.modTask f u n g).hbm = s.hbm := rfl
@[simp] theorem State.modTask_host (s : State) (f u n : Nat) (g : EngTask → EngTask) :
    (s.modTask f u n g).host = s.host := rfl
@[simp] theorem State.modTask_reeve (s : State) (f u n : Nat) (g : EngTask → EngTask) :
    (s.modTask f u n g).reeve = s.reeve := rfl
@[simp] theorem State.modTask_power (s : State) (f u n : Nat) (g : EngTask → EngTask) :
    (s.modTask f u n g).power = s.power := rfl
@[simp] theorem State.modTask_assay (s : State) (f u n : Nat) (g : EngTask → EngTask) :
    (s.modTask f u n g).assay = s.assay := rfl
@[simp] theorem State.modTask_bist (s : State) (f u n : Nat) (g : EngTask → EngTask) :
    (s.modTask f u n g).bist = s.bist := rfl
@[simp] theorem State.modTask_hearth (s : State) (f u n : Nat) (g : EngTask → EngTask) :
    (s.modTask f u n g).hearth = s.hearth := rfl
@[simp] theorem State.modTask_pins (s : State) (f u n : Nat) (g : EngTask → EngTask) :
    (s.modTask f u n g).pins = s.pins := rfl
@[simp] theorem State.modTask_irq (s : State) (f u n : Nat) (g : EngTask → EngTask) :
    (s.modTask f u n g).irq = s.irq := rfl
@[simp] theorem State.modTask_timeOffset (s : State) (f u n : Nat) (g : EngTask → EngTask) :
    (s.modTask f u n g).timeOffset = s.timeOffset := rfl
@[simp] theorem State.modTask_out (s : State) (f u n : Nat) (g : EngTask → EngTask) :
    (s.modTask f u n g).out = s.out := rfl
@[simp] theorem State.modTask_rd (s : State) (f u n : Nat) (g : EngTask → EngTask) (r : Reg) (j l : Nat) :
    (s.modTask f u n g).rd r j l = s.rd r j l := rfl
@[simp] theorem State.modTask_getF (s : State) (f u n : Nat) (g : EngTask → EngTask) (x : RF) (j l : Nat) :
    (s.modTask f u n g).getF x j l = s.getF x j l := rfl
@[simp] theorem State.modTask_flag (s : State) (f u n : Nat) (g : EngTask → EngTask) (x : RF) (j l : Nat) :
    (s.modTask f u n g).flag x j l = s.flag x j l := rfl

/-! ### State.modSieve changes `sieves` alone -/

@[simp] theorem State.modSieve_now (s : State) (f n : Nat) (g : Sieve → Sieve) :
    (s.modSieve f n g).now = s.now := rfl
@[simp] theorem State.modSieve_serial (s : State) (f n : Nat) (g : Sieve → Sieve) :
    (s.modSieve f n g).serial = s.serial := rfl
@[simp] theorem State.modSieve_pending (s : State) (f n : Nat) (g : Sieve → Sieve) :
    (s.modSieve f n g).pending = s.pending := rfl
@[simp] theorem State.modSieve_regs (s : State) (f n : Nat) (g : Sieve → Sieve) :
    (s.modSieve f n g).regs = s.regs := rfl
@[simp] theorem State.modSieve_mem (s : State) (f n : Nat) (g : Sieve → Sieve) :
    (s.modSieve f n g).mem = s.mem := rfl
@[simp] theorem State.modSieve_commons (s : State) (f n : Nat) (g : Sieve → Sieve) :
    (s.modSieve f n g).commons = s.commons := rfl
@[simp] theorem State.modSieve_crofters (s : State) (f n : Nat) (g : Sieve → Sieve) :
    (s.modSieve f n g).crofters = s.crofters := rfl
@[simp] theorem State.modSieve_tallies (s : State) (f n : Nat) (g : Sieve → Sieve) :
    (s.modSieve f n g).tallies = s.tallies := rfl
@[simp] theorem State.modSieve_engines (s : State) (f n : Nat) (g : Sieve → Sieve) :
    (s.modSieve f n g).engines = s.engines := rfl
@[simp] theorem State.modSieve_cairns (s : State) (f n : Nat) (g : Sieve → Sieve) :
    (s.modSieve f n g).cairns = s.cairns := rfl
@[simp] theorem State.modSieve_looms (s : State) (f n : Nat) (g : Sieve → Sieve) :
    (s.modSieve f n g).looms = s.looms := rfl
@[simp] theorem State.modSieve_seq (s : State) (f n : Nat) (g : Sieve → Sieve) :
    (s.modSieve f n g).seq = s.seq := rfl
@[simp] theorem State.modSieve_boot (s : State) (f n : Nat) (g : Sieve → Sieve) :
    (s.modSieve f n g).boot = s.boot := rfl
@[simp] theorem State.modSieve_resets (s : State) (f n : Nat) (g : Sieve → Sieve) :
    (s.modSieve f n g).resets = s.resets := rfl
@[simp] theorem State.modSieve_verne (s : State) (f n : Nat) (g : Sieve → Sieve) :
    (s.modSieve f n g).verne = s.verne := rfl
@[simp] theorem State.modSieve_fabric (s : State) (f n : Nat) (g : Sieve → Sieve) :
    (s.modSieve f n g).fabric = s.fabric := rfl
@[simp] theorem State.modSieve_hbm (s : State) (f n : Nat) (g : Sieve → Sieve) :
    (s.modSieve f n g).hbm = s.hbm := rfl
@[simp] theorem State.modSieve_host (s : State) (f n : Nat) (g : Sieve → Sieve) :
    (s.modSieve f n g).host = s.host := rfl
@[simp] theorem State.modSieve_reeve (s : State) (f n : Nat) (g : Sieve → Sieve) :
    (s.modSieve f n g).reeve = s.reeve := rfl
@[simp] theorem State.modSieve_power (s : State) (f n : Nat) (g : Sieve → Sieve) :
    (s.modSieve f n g).power = s.power := rfl
@[simp] theorem State.modSieve_assay (s : State) (f n : Nat) (g : Sieve → Sieve) :
    (s.modSieve f n g).assay = s.assay := rfl
@[simp] theorem State.modSieve_bist (s : State) (f n : Nat) (g : Sieve → Sieve) :
    (s.modSieve f n g).bist = s.bist := rfl
@[simp] theorem State.modSieve_hearth (s : State) (f n : Nat) (g : Sieve → Sieve) :
    (s.modSieve f n g).hearth = s.hearth := rfl
@[simp] theorem State.modSieve_pins (s : State) (f n : Nat) (g : Sieve → Sieve) :
    (s.modSieve f n g).pins = s.pins := rfl
@[simp] theorem State.modSieve_irq (s : State) (f n : Nat) (g : Sieve → Sieve) :
    (s.modSieve f n g).irq = s.irq := rfl
@[simp] theorem State.modSieve_timeOffset (s : State) (f n : Nat) (g : Sieve → Sieve) :
    (s.modSieve f n g).timeOffset = s.timeOffset := rfl
@[simp] theorem State.modSieve_out (s : State) (f n : Nat) (g : Sieve → Sieve) :
    (s.modSieve f n g).out = s.out := rfl
@[simp] theorem State.modSieve_rd (s : State) (f n : Nat) (g : Sieve → Sieve) (r : Reg) (j l : Nat) :
    (s.modSieve f n g).rd r j l = s.rd r j l := rfl
@[simp] theorem State.modSieve_getF (s : State) (f n : Nat) (g : Sieve → Sieve) (x : RF) (j l : Nat) :
    (s.modSieve f n g).getF x j l = s.getF x j l := rfl
@[simp] theorem State.modSieve_flag (s : State) (f n : Nat) (g : Sieve → Sieve) (x : RF) (j l : Nat) :
    (s.modSieve f n g).flag x j l = s.flag x j l := rfl

/-! ### State.modCairn changes `cairns` alone -/

@[simp] theorem State.modCairn_now (s : State) (f : Nat) (g : Cairn → Cairn) : (s.modCairn f g).now = s.now := rfl
@[simp] theorem State.modCairn_serial (s : State) (f : Nat) (g : Cairn → Cairn) :
    (s.modCairn f g).serial = s.serial := rfl
@[simp] theorem State.modCairn_pending (s : State) (f : Nat) (g : Cairn → Cairn) :
    (s.modCairn f g).pending = s.pending := rfl
@[simp] theorem State.modCairn_regs (s : State) (f : Nat) (g : Cairn → Cairn) :
    (s.modCairn f g).regs = s.regs := rfl
@[simp] theorem State.modCairn_mem (s : State) (f : Nat) (g : Cairn → Cairn) : (s.modCairn f g).mem = s.mem := rfl
@[simp] theorem State.modCairn_commons (s : State) (f : Nat) (g : Cairn → Cairn) :
    (s.modCairn f g).commons = s.commons := rfl
@[simp] theorem State.modCairn_crofters (s : State) (f : Nat) (g : Cairn → Cairn) :
    (s.modCairn f g).crofters = s.crofters := rfl
@[simp] theorem State.modCairn_tallies (s : State) (f : Nat) (g : Cairn → Cairn) :
    (s.modCairn f g).tallies = s.tallies := rfl
@[simp] theorem State.modCairn_engines (s : State) (f : Nat) (g : Cairn → Cairn) :
    (s.modCairn f g).engines = s.engines := rfl
@[simp] theorem State.modCairn_sieves (s : State) (f : Nat) (g : Cairn → Cairn) :
    (s.modCairn f g).sieves = s.sieves := rfl
@[simp] theorem State.modCairn_looms (s : State) (f : Nat) (g : Cairn → Cairn) :
    (s.modCairn f g).looms = s.looms := rfl
@[simp] theorem State.modCairn_seq (s : State) (f : Nat) (g : Cairn → Cairn) : (s.modCairn f g).seq = s.seq := rfl
@[simp] theorem State.modCairn_boot (s : State) (f : Nat) (g : Cairn → Cairn) :
    (s.modCairn f g).boot = s.boot := rfl
@[simp] theorem State.modCairn_resets (s : State) (f : Nat) (g : Cairn → Cairn) :
    (s.modCairn f g).resets = s.resets := rfl
@[simp] theorem State.modCairn_verne (s : State) (f : Nat) (g : Cairn → Cairn) :
    (s.modCairn f g).verne = s.verne := rfl
@[simp] theorem State.modCairn_fabric (s : State) (f : Nat) (g : Cairn → Cairn) :
    (s.modCairn f g).fabric = s.fabric := rfl
@[simp] theorem State.modCairn_hbm (s : State) (f : Nat) (g : Cairn → Cairn) : (s.modCairn f g).hbm = s.hbm := rfl
@[simp] theorem State.modCairn_host (s : State) (f : Nat) (g : Cairn → Cairn) :
    (s.modCairn f g).host = s.host := rfl
@[simp] theorem State.modCairn_reeve (s : State) (f : Nat) (g : Cairn → Cairn) :
    (s.modCairn f g).reeve = s.reeve := rfl
@[simp] theorem State.modCairn_power (s : State) (f : Nat) (g : Cairn → Cairn) :
    (s.modCairn f g).power = s.power := rfl
@[simp] theorem State.modCairn_assay (s : State) (f : Nat) (g : Cairn → Cairn) :
    (s.modCairn f g).assay = s.assay := rfl
@[simp] theorem State.modCairn_bist (s : State) (f : Nat) (g : Cairn → Cairn) :
    (s.modCairn f g).bist = s.bist := rfl
@[simp] theorem State.modCairn_hearth (s : State) (f : Nat) (g : Cairn → Cairn) :
    (s.modCairn f g).hearth = s.hearth := rfl
@[simp] theorem State.modCairn_pins (s : State) (f : Nat) (g : Cairn → Cairn) :
    (s.modCairn f g).pins = s.pins := rfl
@[simp] theorem State.modCairn_irq (s : State) (f : Nat) (g : Cairn → Cairn) : (s.modCairn f g).irq = s.irq := rfl
@[simp] theorem State.modCairn_timeOffset (s : State) (f : Nat) (g : Cairn → Cairn) :
    (s.modCairn f g).timeOffset = s.timeOffset := rfl
@[simp] theorem State.modCairn_out (s : State) (f : Nat) (g : Cairn → Cairn) : (s.modCairn f g).out = s.out := rfl
@[simp] theorem State.modCairn_rd (s : State) (f : Nat) (g : Cairn → Cairn) (r : Reg) (j l : Nat) :
    (s.modCairn f g).rd r j l = s.rd r j l := rfl
@[simp] theorem State.modCairn_getF (s : State) (f : Nat) (g : Cairn → Cairn) (x : RF) (j l : Nat) :
    (s.modCairn f g).getF x j l = s.getF x j l := rfl
@[simp] theorem State.modCairn_flag (s : State) (f : Nat) (g : Cairn → Cairn) (x : RF) (j l : Nat) :
    (s.modCairn f g).flag x j l = s.flag x j l := rfl

/-! ### State.modLoom changes `looms` alone -/

@[simp] theorem State.modLoom_now (s : State) (f : Nat) (g : Loom → Loom) : (s.modLoom f g).now = s.now := rfl
@[simp] theorem State.modLoom_serial (s : State) (f : Nat) (g : Loom → Loom) :
    (s.modLoom f g).serial = s.serial := rfl
@[simp] theorem State.modLoom_pending (s : State) (f : Nat) (g : Loom → Loom) :
    (s.modLoom f g).pending = s.pending := rfl
@[simp] theorem State.modLoom_regs (s : State) (f : Nat) (g : Loom → Loom) : (s.modLoom f g).regs = s.regs := rfl
@[simp] theorem State.modLoom_mem (s : State) (f : Nat) (g : Loom → Loom) : (s.modLoom f g).mem = s.mem := rfl
@[simp] theorem State.modLoom_commons (s : State) (f : Nat) (g : Loom → Loom) :
    (s.modLoom f g).commons = s.commons := rfl
@[simp] theorem State.modLoom_crofters (s : State) (f : Nat) (g : Loom → Loom) :
    (s.modLoom f g).crofters = s.crofters := rfl
@[simp] theorem State.modLoom_tallies (s : State) (f : Nat) (g : Loom → Loom) :
    (s.modLoom f g).tallies = s.tallies := rfl
@[simp] theorem State.modLoom_engines (s : State) (f : Nat) (g : Loom → Loom) :
    (s.modLoom f g).engines = s.engines := rfl
@[simp] theorem State.modLoom_sieves (s : State) (f : Nat) (g : Loom → Loom) :
    (s.modLoom f g).sieves = s.sieves := rfl
@[simp] theorem State.modLoom_cairns (s : State) (f : Nat) (g : Loom → Loom) :
    (s.modLoom f g).cairns = s.cairns := rfl
@[simp] theorem State.modLoom_seq (s : State) (f : Nat) (g : Loom → Loom) : (s.modLoom f g).seq = s.seq := rfl
@[simp] theorem State.modLoom_boot (s : State) (f : Nat) (g : Loom → Loom) : (s.modLoom f g).boot = s.boot := rfl
@[simp] theorem State.modLoom_resets (s : State) (f : Nat) (g : Loom → Loom) :
    (s.modLoom f g).resets = s.resets := rfl
@[simp] theorem State.modLoom_verne (s : State) (f : Nat) (g : Loom → Loom) :
    (s.modLoom f g).verne = s.verne := rfl
@[simp] theorem State.modLoom_fabric (s : State) (f : Nat) (g : Loom → Loom) :
    (s.modLoom f g).fabric = s.fabric := rfl
@[simp] theorem State.modLoom_hbm (s : State) (f : Nat) (g : Loom → Loom) : (s.modLoom f g).hbm = s.hbm := rfl
@[simp] theorem State.modLoom_host (s : State) (f : Nat) (g : Loom → Loom) : (s.modLoom f g).host = s.host := rfl
@[simp] theorem State.modLoom_reeve (s : State) (f : Nat) (g : Loom → Loom) :
    (s.modLoom f g).reeve = s.reeve := rfl
@[simp] theorem State.modLoom_power (s : State) (f : Nat) (g : Loom → Loom) :
    (s.modLoom f g).power = s.power := rfl
@[simp] theorem State.modLoom_assay (s : State) (f : Nat) (g : Loom → Loom) :
    (s.modLoom f g).assay = s.assay := rfl
@[simp] theorem State.modLoom_bist (s : State) (f : Nat) (g : Loom → Loom) : (s.modLoom f g).bist = s.bist := rfl
@[simp] theorem State.modLoom_hearth (s : State) (f : Nat) (g : Loom → Loom) :
    (s.modLoom f g).hearth = s.hearth := rfl
@[simp] theorem State.modLoom_pins (s : State) (f : Nat) (g : Loom → Loom) : (s.modLoom f g).pins = s.pins := rfl
@[simp] theorem State.modLoom_irq (s : State) (f : Nat) (g : Loom → Loom) : (s.modLoom f g).irq = s.irq := rfl
@[simp] theorem State.modLoom_timeOffset (s : State) (f : Nat) (g : Loom → Loom) :
    (s.modLoom f g).timeOffset = s.timeOffset := rfl
@[simp] theorem State.modLoom_out (s : State) (f : Nat) (g : Loom → Loom) : (s.modLoom f g).out = s.out := rfl
@[simp] theorem State.modLoom_rd (s : State) (f : Nat) (g : Loom → Loom) (r : Reg) (j l : Nat) :
    (s.modLoom f g).rd r j l = s.rd r j l := rfl
@[simp] theorem State.modLoom_getF (s : State) (f : Nat) (g : Loom → Loom) (x : RF) (j l : Nat) :
    (s.modLoom f g).getF x j l = s.getF x j l := rfl
@[simp] theorem State.modLoom_flag (s : State) (f : Nat) (g : Loom → Loom) (x : RF) (j l : Nat) :
    (s.modLoom f g).flag x j l = s.flag x j l := rfl

/-! ### State.modSheaf changes `seq` alone -/

@[simp] theorem State.modSheaf_now (s : State) (n : Nat) (g : Sheaf → Sheaf) : (s.modSheaf n g).now = s.now := rfl
@[simp] theorem State.modSheaf_serial (s : State) (n : Nat) (g : Sheaf → Sheaf) :
    (s.modSheaf n g).serial = s.serial := rfl
@[simp] theorem State.modSheaf_pending (s : State) (n : Nat) (g : Sheaf → Sheaf) :
    (s.modSheaf n g).pending = s.pending := rfl
@[simp] theorem State.modSheaf_regs (s : State) (n : Nat) (g : Sheaf → Sheaf) :
    (s.modSheaf n g).regs = s.regs := rfl
@[simp] theorem State.modSheaf_mem (s : State) (n : Nat) (g : Sheaf → Sheaf) : (s.modSheaf n g).mem = s.mem := rfl
@[simp] theorem State.modSheaf_commons (s : State) (n : Nat) (g : Sheaf → Sheaf) :
    (s.modSheaf n g).commons = s.commons := rfl
@[simp] theorem State.modSheaf_crofters (s : State) (n : Nat) (g : Sheaf → Sheaf) :
    (s.modSheaf n g).crofters = s.crofters := rfl
@[simp] theorem State.modSheaf_tallies (s : State) (n : Nat) (g : Sheaf → Sheaf) :
    (s.modSheaf n g).tallies = s.tallies := rfl
@[simp] theorem State.modSheaf_engines (s : State) (n : Nat) (g : Sheaf → Sheaf) :
    (s.modSheaf n g).engines = s.engines := rfl
@[simp] theorem State.modSheaf_sieves (s : State) (n : Nat) (g : Sheaf → Sheaf) :
    (s.modSheaf n g).sieves = s.sieves := rfl
@[simp] theorem State.modSheaf_cairns (s : State) (n : Nat) (g : Sheaf → Sheaf) :
    (s.modSheaf n g).cairns = s.cairns := rfl
@[simp] theorem State.modSheaf_looms (s : State) (n : Nat) (g : Sheaf → Sheaf) :
    (s.modSheaf n g).looms = s.looms := rfl
@[simp] theorem State.modSheaf_boot (s : State) (n : Nat) (g : Sheaf → Sheaf) :
    (s.modSheaf n g).boot = s.boot := rfl
@[simp] theorem State.modSheaf_resets (s : State) (n : Nat) (g : Sheaf → Sheaf) :
    (s.modSheaf n g).resets = s.resets := rfl
@[simp] theorem State.modSheaf_verne (s : State) (n : Nat) (g : Sheaf → Sheaf) :
    (s.modSheaf n g).verne = s.verne := rfl
@[simp] theorem State.modSheaf_fabric (s : State) (n : Nat) (g : Sheaf → Sheaf) :
    (s.modSheaf n g).fabric = s.fabric := rfl
@[simp] theorem State.modSheaf_hbm (s : State) (n : Nat) (g : Sheaf → Sheaf) : (s.modSheaf n g).hbm = s.hbm := rfl
@[simp] theorem State.modSheaf_host (s : State) (n : Nat) (g : Sheaf → Sheaf) :
    (s.modSheaf n g).host = s.host := rfl
@[simp] theorem State.modSheaf_reeve (s : State) (n : Nat) (g : Sheaf → Sheaf) :
    (s.modSheaf n g).reeve = s.reeve := rfl
@[simp] theorem State.modSheaf_power (s : State) (n : Nat) (g : Sheaf → Sheaf) :
    (s.modSheaf n g).power = s.power := rfl
@[simp] theorem State.modSheaf_assay (s : State) (n : Nat) (g : Sheaf → Sheaf) :
    (s.modSheaf n g).assay = s.assay := rfl
@[simp] theorem State.modSheaf_bist (s : State) (n : Nat) (g : Sheaf → Sheaf) :
    (s.modSheaf n g).bist = s.bist := rfl
@[simp] theorem State.modSheaf_hearth (s : State) (n : Nat) (g : Sheaf → Sheaf) :
    (s.modSheaf n g).hearth = s.hearth := rfl
@[simp] theorem State.modSheaf_pins (s : State) (n : Nat) (g : Sheaf → Sheaf) :
    (s.modSheaf n g).pins = s.pins := rfl
@[simp] theorem State.modSheaf_irq (s : State) (n : Nat) (g : Sheaf → Sheaf) : (s.modSheaf n g).irq = s.irq := rfl
@[simp] theorem State.modSheaf_timeOffset (s : State) (n : Nat) (g : Sheaf → Sheaf) :
    (s.modSheaf n g).timeOffset = s.timeOffset := rfl
@[simp] theorem State.modSheaf_out (s : State) (n : Nat) (g : Sheaf → Sheaf) : (s.modSheaf n g).out = s.out := rfl
@[simp] theorem State.modSheaf_rd (s : State) (n : Nat) (g : Sheaf → Sheaf) (r : Reg) (j l : Nat) :
    (s.modSheaf n g).rd r j l = s.rd r j l := rfl
@[simp] theorem State.modSheaf_getF (s : State) (n : Nat) (g : Sheaf → Sheaf) (x : RF) (j l : Nat) :
    (s.modSheaf n g).getF x j l = s.getF x j l := rfl
@[simp] theorem State.modSheaf_flag (s : State) (n : Nat) (g : Sheaf → Sheaf) (x : RF) (j l : Nat) :
    (s.modSheaf n g).flag x j l = s.flag x j l := rfl

/-! ### State.modMuster changes `seq` alone -/

@[simp] theorem State.modMuster_now (s : State) (m : Nat) (g : Muster → Muster) :
    (s.modMuster m g).now = s.now := rfl
@[simp] theorem State.modMuster_serial (s : State) (m : Nat) (g : Muster → Muster) :
    (s.modMuster m g).serial = s.serial := rfl
@[simp] theorem State.modMuster_pending (s : State) (m : Nat) (g : Muster → Muster) :
    (s.modMuster m g).pending = s.pending := rfl
@[simp] theorem State.modMuster_regs (s : State) (m : Nat) (g : Muster → Muster) :
    (s.modMuster m g).regs = s.regs := rfl
@[simp] theorem State.modMuster_mem (s : State) (m : Nat) (g : Muster → Muster) :
    (s.modMuster m g).mem = s.mem := rfl
@[simp] theorem State.modMuster_commons (s : State) (m : Nat) (g : Muster → Muster) :
    (s.modMuster m g).commons = s.commons := rfl
@[simp] theorem State.modMuster_crofters (s : State) (m : Nat) (g : Muster → Muster) :
    (s.modMuster m g).crofters = s.crofters := rfl
@[simp] theorem State.modMuster_tallies (s : State) (m : Nat) (g : Muster → Muster) :
    (s.modMuster m g).tallies = s.tallies := rfl
@[simp] theorem State.modMuster_engines (s : State) (m : Nat) (g : Muster → Muster) :
    (s.modMuster m g).engines = s.engines := rfl
@[simp] theorem State.modMuster_sieves (s : State) (m : Nat) (g : Muster → Muster) :
    (s.modMuster m g).sieves = s.sieves := rfl
@[simp] theorem State.modMuster_cairns (s : State) (m : Nat) (g : Muster → Muster) :
    (s.modMuster m g).cairns = s.cairns := rfl
@[simp] theorem State.modMuster_looms (s : State) (m : Nat) (g : Muster → Muster) :
    (s.modMuster m g).looms = s.looms := rfl
@[simp] theorem State.modMuster_boot (s : State) (m : Nat) (g : Muster → Muster) :
    (s.modMuster m g).boot = s.boot := rfl
@[simp] theorem State.modMuster_resets (s : State) (m : Nat) (g : Muster → Muster) :
    (s.modMuster m g).resets = s.resets := rfl
@[simp] theorem State.modMuster_verne (s : State) (m : Nat) (g : Muster → Muster) :
    (s.modMuster m g).verne = s.verne := rfl
@[simp] theorem State.modMuster_fabric (s : State) (m : Nat) (g : Muster → Muster) :
    (s.modMuster m g).fabric = s.fabric := rfl
@[simp] theorem State.modMuster_hbm (s : State) (m : Nat) (g : Muster → Muster) :
    (s.modMuster m g).hbm = s.hbm := rfl
@[simp] theorem State.modMuster_host (s : State) (m : Nat) (g : Muster → Muster) :
    (s.modMuster m g).host = s.host := rfl
@[simp] theorem State.modMuster_reeve (s : State) (m : Nat) (g : Muster → Muster) :
    (s.modMuster m g).reeve = s.reeve := rfl
@[simp] theorem State.modMuster_power (s : State) (m : Nat) (g : Muster → Muster) :
    (s.modMuster m g).power = s.power := rfl
@[simp] theorem State.modMuster_assay (s : State) (m : Nat) (g : Muster → Muster) :
    (s.modMuster m g).assay = s.assay := rfl
@[simp] theorem State.modMuster_bist (s : State) (m : Nat) (g : Muster → Muster) :
    (s.modMuster m g).bist = s.bist := rfl
@[simp] theorem State.modMuster_hearth (s : State) (m : Nat) (g : Muster → Muster) :
    (s.modMuster m g).hearth = s.hearth := rfl
@[simp] theorem State.modMuster_pins (s : State) (m : Nat) (g : Muster → Muster) :
    (s.modMuster m g).pins = s.pins := rfl
@[simp] theorem State.modMuster_irq (s : State) (m : Nat) (g : Muster → Muster) :
    (s.modMuster m g).irq = s.irq := rfl
@[simp] theorem State.modMuster_timeOffset (s : State) (m : Nat) (g : Muster → Muster) :
    (s.modMuster m g).timeOffset = s.timeOffset := rfl
@[simp] theorem State.modMuster_out (s : State) (m : Nat) (g : Muster → Muster) :
    (s.modMuster m g).out = s.out := rfl
@[simp] theorem State.modMuster_rd (s : State) (m : Nat) (g : Muster → Muster) (r : Reg) (j l : Nat) :
    (s.modMuster m g).rd r j l = s.rd r j l := rfl
@[simp] theorem State.modMuster_getF (s : State) (m : Nat) (g : Muster → Muster) (x : RF) (j l : Nat) :
    (s.modMuster m g).getF x j l = s.getF x j l := rfl
@[simp] theorem State.modMuster_flag (s : State) (m : Nat) (g : Muster → Muster) (x : RF) (j l : Nat) :
    (s.modMuster m g).flag x j l = s.flag x j l := rfl

/-! ### State.modIssue changes `crofters` alone -/

@[simp] theorem State.modIssue_now (s : State) (n : Nat) (g : IssueReq → IssueReq) :
    (s.modIssue n g).now = s.now := rfl
@[simp] theorem State.modIssue_serial (s : State) (n : Nat) (g : IssueReq → IssueReq) :
    (s.modIssue n g).serial = s.serial := rfl
@[simp] theorem State.modIssue_pending (s : State) (n : Nat) (g : IssueReq → IssueReq) :
    (s.modIssue n g).pending = s.pending := rfl
@[simp] theorem State.modIssue_regs (s : State) (n : Nat) (g : IssueReq → IssueReq) :
    (s.modIssue n g).regs = s.regs := rfl
@[simp] theorem State.modIssue_mem (s : State) (n : Nat) (g : IssueReq → IssueReq) :
    (s.modIssue n g).mem = s.mem := rfl
@[simp] theorem State.modIssue_commons (s : State) (n : Nat) (g : IssueReq → IssueReq) :
    (s.modIssue n g).commons = s.commons := rfl
@[simp] theorem State.modIssue_tallies (s : State) (n : Nat) (g : IssueReq → IssueReq) :
    (s.modIssue n g).tallies = s.tallies := rfl
@[simp] theorem State.modIssue_engines (s : State) (n : Nat) (g : IssueReq → IssueReq) :
    (s.modIssue n g).engines = s.engines := rfl
@[simp] theorem State.modIssue_sieves (s : State) (n : Nat) (g : IssueReq → IssueReq) :
    (s.modIssue n g).sieves = s.sieves := rfl
@[simp] theorem State.modIssue_cairns (s : State) (n : Nat) (g : IssueReq → IssueReq) :
    (s.modIssue n g).cairns = s.cairns := rfl
@[simp] theorem State.modIssue_looms (s : State) (n : Nat) (g : IssueReq → IssueReq) :
    (s.modIssue n g).looms = s.looms := rfl
@[simp] theorem State.modIssue_seq (s : State) (n : Nat) (g : IssueReq → IssueReq) :
    (s.modIssue n g).seq = s.seq := rfl
@[simp] theorem State.modIssue_boot (s : State) (n : Nat) (g : IssueReq → IssueReq) :
    (s.modIssue n g).boot = s.boot := rfl
@[simp] theorem State.modIssue_resets (s : State) (n : Nat) (g : IssueReq → IssueReq) :
    (s.modIssue n g).resets = s.resets := rfl
@[simp] theorem State.modIssue_verne (s : State) (n : Nat) (g : IssueReq → IssueReq) :
    (s.modIssue n g).verne = s.verne := rfl
@[simp] theorem State.modIssue_fabric (s : State) (n : Nat) (g : IssueReq → IssueReq) :
    (s.modIssue n g).fabric = s.fabric := rfl
@[simp] theorem State.modIssue_hbm (s : State) (n : Nat) (g : IssueReq → IssueReq) :
    (s.modIssue n g).hbm = s.hbm := rfl
@[simp] theorem State.modIssue_host (s : State) (n : Nat) (g : IssueReq → IssueReq) :
    (s.modIssue n g).host = s.host := rfl
@[simp] theorem State.modIssue_reeve (s : State) (n : Nat) (g : IssueReq → IssueReq) :
    (s.modIssue n g).reeve = s.reeve := rfl
@[simp] theorem State.modIssue_power (s : State) (n : Nat) (g : IssueReq → IssueReq) :
    (s.modIssue n g).power = s.power := rfl
@[simp] theorem State.modIssue_assay (s : State) (n : Nat) (g : IssueReq → IssueReq) :
    (s.modIssue n g).assay = s.assay := rfl
@[simp] theorem State.modIssue_bist (s : State) (n : Nat) (g : IssueReq → IssueReq) :
    (s.modIssue n g).bist = s.bist := rfl
@[simp] theorem State.modIssue_hearth (s : State) (n : Nat) (g : IssueReq → IssueReq) :
    (s.modIssue n g).hearth = s.hearth := rfl
@[simp] theorem State.modIssue_pins (s : State) (n : Nat) (g : IssueReq → IssueReq) :
    (s.modIssue n g).pins = s.pins := rfl
@[simp] theorem State.modIssue_irq (s : State) (n : Nat) (g : IssueReq → IssueReq) :
    (s.modIssue n g).irq = s.irq := rfl
@[simp] theorem State.modIssue_timeOffset (s : State) (n : Nat) (g : IssueReq → IssueReq) :
    (s.modIssue n g).timeOffset = s.timeOffset := rfl
@[simp] theorem State.modIssue_out (s : State) (n : Nat) (g : IssueReq → IssueReq) :
    (s.modIssue n g).out = s.out := rfl
@[simp] theorem State.modIssue_rd (s : State) (n : Nat) (g : IssueReq → IssueReq) (r : Reg) (j l : Nat) :
    (s.modIssue n g).rd r j l = s.rd r j l := rfl
@[simp] theorem State.modIssue_getF (s : State) (n : Nat) (g : IssueReq → IssueReq) (x : RF) (j l : Nat) :
    (s.modIssue n g).getF x j l = s.getF x j l := rfl
@[simp] theorem State.modIssue_flag (s : State) (n : Nat) (g : IssueReq → IssueReq) (x : RF) (j l : Nat) :
    (s.modIssue n g).flag x j l = s.flag x j l := rfl

/-! ### State.setLink changes `verne` alone -/

@[simp] theorem State.setLink_now (s : State) (k : Nat) (x : Link) : (s.setLink k x).now = s.now := rfl
@[simp] theorem State.setLink_serial (s : State) (k : Nat) (x : Link) : (s.setLink k x).serial = s.serial := rfl
@[simp] theorem State.setLink_pending (s : State) (k : Nat) (x : Link) : (s.setLink k x).pending = s.pending := rfl
@[simp] theorem State.setLink_regs (s : State) (k : Nat) (x : Link) : (s.setLink k x).regs = s.regs := rfl
@[simp] theorem State.setLink_mem (s : State) (k : Nat) (x : Link) : (s.setLink k x).mem = s.mem := rfl
@[simp] theorem State.setLink_commons (s : State) (k : Nat) (x : Link) : (s.setLink k x).commons = s.commons := rfl
@[simp] theorem State.setLink_crofters (s : State) (k : Nat) (x : Link) :
    (s.setLink k x).crofters = s.crofters := rfl
@[simp] theorem State.setLink_tallies (s : State) (k : Nat) (x : Link) : (s.setLink k x).tallies = s.tallies := rfl
@[simp] theorem State.setLink_engines (s : State) (k : Nat) (x : Link) : (s.setLink k x).engines = s.engines := rfl
@[simp] theorem State.setLink_sieves (s : State) (k : Nat) (x : Link) : (s.setLink k x).sieves = s.sieves := rfl
@[simp] theorem State.setLink_cairns (s : State) (k : Nat) (x : Link) : (s.setLink k x).cairns = s.cairns := rfl
@[simp] theorem State.setLink_looms (s : State) (k : Nat) (x : Link) : (s.setLink k x).looms = s.looms := rfl
@[simp] theorem State.setLink_seq (s : State) (k : Nat) (x : Link) : (s.setLink k x).seq = s.seq := rfl
@[simp] theorem State.setLink_boot (s : State) (k : Nat) (x : Link) : (s.setLink k x).boot = s.boot := rfl
@[simp] theorem State.setLink_resets (s : State) (k : Nat) (x : Link) : (s.setLink k x).resets = s.resets := rfl
@[simp] theorem State.setLink_fabric (s : State) (k : Nat) (x : Link) : (s.setLink k x).fabric = s.fabric := rfl
@[simp] theorem State.setLink_hbm (s : State) (k : Nat) (x : Link) : (s.setLink k x).hbm = s.hbm := rfl
@[simp] theorem State.setLink_host (s : State) (k : Nat) (x : Link) : (s.setLink k x).host = s.host := rfl
@[simp] theorem State.setLink_reeve (s : State) (k : Nat) (x : Link) : (s.setLink k x).reeve = s.reeve := rfl
@[simp] theorem State.setLink_power (s : State) (k : Nat) (x : Link) : (s.setLink k x).power = s.power := rfl
@[simp] theorem State.setLink_assay (s : State) (k : Nat) (x : Link) : (s.setLink k x).assay = s.assay := rfl
@[simp] theorem State.setLink_bist (s : State) (k : Nat) (x : Link) : (s.setLink k x).bist = s.bist := rfl
@[simp] theorem State.setLink_hearth (s : State) (k : Nat) (x : Link) : (s.setLink k x).hearth = s.hearth := rfl
@[simp] theorem State.setLink_pins (s : State) (k : Nat) (x : Link) : (s.setLink k x).pins = s.pins := rfl
@[simp] theorem State.setLink_irq (s : State) (k : Nat) (x : Link) : (s.setLink k x).irq = s.irq := rfl
@[simp] theorem State.setLink_timeOffset (s : State) (k : Nat) (x : Link) :
    (s.setLink k x).timeOffset = s.timeOffset := rfl
@[simp] theorem State.setLink_out (s : State) (k : Nat) (x : Link) : (s.setLink k x).out = s.out := rfl
@[simp] theorem State.setLink_rd (s : State) (k : Nat) (x : Link) (r : Reg) (j l : Nat) :
    (s.setLink k x).rd r j l = s.rd r j l := rfl
@[simp] theorem State.setLink_getF (s : State) (k : Nat) (y : Link) (x : RF) (j l : Nat) :
    (s.setLink k y).getF x j l = s.getF x j l := rfl
@[simp] theorem State.setLink_flag (s : State) (k : Nat) (y : Link) (x : RF) (j l : Nat) :
    (s.setLink k y).flag x j l = s.flag x j l := rfl

/-! ### State.modLink changes `verne` alone -/

@[simp] theorem State.modLink_now (s : State) (k : Nat) (g : Link → Link) : (s.modLink k g).now = s.now := rfl
@[simp] theorem State.modLink_serial (s : State) (k : Nat) (g : Link → Link) :
    (s.modLink k g).serial = s.serial := rfl
@[simp] theorem State.modLink_pending (s : State) (k : Nat) (g : Link → Link) :
    (s.modLink k g).pending = s.pending := rfl
@[simp] theorem State.modLink_regs (s : State) (k : Nat) (g : Link → Link) : (s.modLink k g).regs = s.regs := rfl
@[simp] theorem State.modLink_mem (s : State) (k : Nat) (g : Link → Link) : (s.modLink k g).mem = s.mem := rfl
@[simp] theorem State.modLink_commons (s : State) (k : Nat) (g : Link → Link) :
    (s.modLink k g).commons = s.commons := rfl
@[simp] theorem State.modLink_crofters (s : State) (k : Nat) (g : Link → Link) :
    (s.modLink k g).crofters = s.crofters := rfl
@[simp] theorem State.modLink_tallies (s : State) (k : Nat) (g : Link → Link) :
    (s.modLink k g).tallies = s.tallies := rfl
@[simp] theorem State.modLink_engines (s : State) (k : Nat) (g : Link → Link) :
    (s.modLink k g).engines = s.engines := rfl
@[simp] theorem State.modLink_sieves (s : State) (k : Nat) (g : Link → Link) :
    (s.modLink k g).sieves = s.sieves := rfl
@[simp] theorem State.modLink_cairns (s : State) (k : Nat) (g : Link → Link) :
    (s.modLink k g).cairns = s.cairns := rfl
@[simp] theorem State.modLink_looms (s : State) (k : Nat) (g : Link → Link) :
    (s.modLink k g).looms = s.looms := rfl
@[simp] theorem State.modLink_seq (s : State) (k : Nat) (g : Link → Link) : (s.modLink k g).seq = s.seq := rfl
@[simp] theorem State.modLink_boot (s : State) (k : Nat) (g : Link → Link) : (s.modLink k g).boot = s.boot := rfl
@[simp] theorem State.modLink_resets (s : State) (k : Nat) (g : Link → Link) :
    (s.modLink k g).resets = s.resets := rfl
@[simp] theorem State.modLink_fabric (s : State) (k : Nat) (g : Link → Link) :
    (s.modLink k g).fabric = s.fabric := rfl
@[simp] theorem State.modLink_hbm (s : State) (k : Nat) (g : Link → Link) : (s.modLink k g).hbm = s.hbm := rfl
@[simp] theorem State.modLink_host (s : State) (k : Nat) (g : Link → Link) : (s.modLink k g).host = s.host := rfl
@[simp] theorem State.modLink_reeve (s : State) (k : Nat) (g : Link → Link) :
    (s.modLink k g).reeve = s.reeve := rfl
@[simp] theorem State.modLink_power (s : State) (k : Nat) (g : Link → Link) :
    (s.modLink k g).power = s.power := rfl
@[simp] theorem State.modLink_assay (s : State) (k : Nat) (g : Link → Link) :
    (s.modLink k g).assay = s.assay := rfl
@[simp] theorem State.modLink_bist (s : State) (k : Nat) (g : Link → Link) : (s.modLink k g).bist = s.bist := rfl
@[simp] theorem State.modLink_hearth (s : State) (k : Nat) (g : Link → Link) :
    (s.modLink k g).hearth = s.hearth := rfl
@[simp] theorem State.modLink_pins (s : State) (k : Nat) (g : Link → Link) : (s.modLink k g).pins = s.pins := rfl
@[simp] theorem State.modLink_irq (s : State) (k : Nat) (g : Link → Link) : (s.modLink k g).irq = s.irq := rfl
@[simp] theorem State.modLink_timeOffset (s : State) (k : Nat) (g : Link → Link) :
    (s.modLink k g).timeOffset = s.timeOffset := rfl
@[simp] theorem State.modLink_out (s : State) (k : Nat) (g : Link → Link) : (s.modLink k g).out = s.out := rfl
@[simp] theorem State.modLink_rd (s : State) (k : Nat) (g : Link → Link) (r : Reg) (j l : Nat) :
    (s.modLink k g).rd r j l = s.rd r j l := rfl
@[simp] theorem State.modLink_getF (s : State) (k : Nat) (g : Link → Link) (x : RF) (j l : Nat) :
    (s.modLink k g).getF x j l = s.getF x j l := rfl
@[simp] theorem State.modLink_flag (s : State) (k : Nat) (g : Link → Link) (x : RF) (j l : Nat) :
    (s.modLink k g).flag x j l = s.flag x j l := rfl

@[simp] theorem State.modBoot_boot (s : State) (g : Boot → Boot) : (s.modBoot g).boot = g s.boot := rfl
@[simp] theorem State.modHearth_hearth (s : State) (g : Hearth → Hearth) :
    (s.modHearth g).hearth = g s.hearth := rfl
@[simp] theorem State.modHost_host (s : State) (g : HostPort → HostPort) : (s.modHost g).host = g s.host := rfl
@[simp] theorem State.modPower_power (s : State) (g : Power → Power) : (s.modPower g).power = g s.power := rfl
@[simp] theorem State.modReeve_reeve (s : State) (g : Reeve → Reeve) : (s.modReeve g).reeve = g s.reeve := rfl
@[simp] theorem State.modAssay_assay (s : State) (g : Assay → Assay) : (s.modAssay g).assay = g s.assay := rfl
@[simp] theorem State.modPins_pins (s : State) (g : Pins → Pins) : (s.modPins g).pins = g s.pins := rfl
@[simp] theorem State.send_out (s : State) (m : OutMsg) : (s.send m).out = s.out ++ [m] := rfl

/-! ### What the updated component reads as -/

@[simp] theorem State.thread_setThread_same (s : State) (f t : Nat) (x : Thread) :
    (s.setThread f t x).thread f t = x := by
  simp [State.thread, State.setThread]
theorem State.thread_setThread_other (s : State) {f t g u : Nat} (x : Thread) (h : threadKey g u ≠ threadKey f t) :
    (s.setThread f t x).thread g u = s.thread g u := by
  simp [State.thread, State.setThread, NMap.look_put_other _ _ h]
@[simp] theorem State.tally_setTally_same (s : State) (k : Nat) (t : Tally) : (s.setTally k t).tally k = t := by
  simp [State.tally, State.setTally]
theorem State.tally_setTally_other (s : State) {k j : Nat} (t : Tally) (h : j ≠ k) :
    (s.setTally k t).tally j = s.tally j := by
  simp [State.tally, State.setTally, NMap.look_put_other _ _ h]
@[simp] theorem State.engine_setEngine_same (s : State) (f u : Nat) (e : Engine) :
    (s.setEngine f u e).engine f u = e := by
  simp [State.engine, State.setEngine]
theorem State.engine_setEngine_other (s : State) {f u g v : Nat} (e : Engine) (h : unitKey g v ≠ unitKey f u) :
    (s.setEngine f u e).engine g v = s.engine g v := by
  simp [State.engine, State.setEngine, NMap.look_put_other _ _ h]
@[simp] theorem State.link_setLink_same (s : State) (k : Nat) (x : Link) : (s.setLink k x).link k = x := by
  simp [State.link, State.setLink]
theorem State.link_setLink_other (s : State) {k j : Nat} (x : Link) (h : j ≠ k) :
    (s.setLink k x).link j = s.link j := by
  simp [State.link, State.setLink, NMap.look_put_other _ _ h]

end Sys2Proof.Machine
end

