-- ==== Sys2Proof/Laws/Ops.lean ====
section
/-! SUPPORT. What the shared operations can do: counters, interrupt messages, event bits, captures, and the gate of
an instruction.  Each lemma says once what a caller may use. -/

namespace Sys2Proof.Machine

/-! ### Counters -/

theorem State.getF_addSat_same (s : State) (f : RF) (i n k : Nat) (h : f.lo + f.w ≤ 64) :
    (s.addSat f i n k).getF f i n = satAdd f.w (s.getF f i n) k % 2 ^ f.w := by
  rw [State.addSat, State.getF_setF_same s f i n _ h]

theorem State.getF_addWrap_same (s : State) (f : RF) (i n k : Nat) (h : f.lo + f.w ≤ 64) :
    (s.addWrap f i n k).getF f i n = wrapAdd f.w (s.getF f i n) k := by
  rw [State.addWrap, State.getF_setF_same s f i n _ h, wrapAdd, Nat.mod_mod]

theorem State.rd_addSat_reg (s : State) {f : RF} {q : Reg} (i n j m k : Nat) (h : q ≠ f.reg) :
    (s.addSat f i n k).rd q j m = s.rd q j m :=
  s.rd_setF_reg i n j m _ h

theorem State.rd_addWrap_reg (s : State) {f : RF} {q : Reg} (i n j m k : Nat) (h : q ≠ f.reg) :
    (s.addWrap f i n k).rd q j m = s.rd q j m :=
  s.rd_setF_reg i n j m _ h

/-! ### The canonical form of the register file -/

theorem State.canonical_of_eq {s t : State} (h : s.canonical) (m : t.mem = s.mem) (r : t.regs = s.regs) :
    t.canonical := by
  unfold State.canonical at *
  rw [m, r]
  exact h

theorem State.canonical_wr {s : State} (h : s.canonical) (r : Reg) (i n : Nat) (v : Word) :
    (s.wr r i n v).canonical :=
  ⟨h.1, s.regs_wr_wf r i n v h.2⟩

theorem State.canonical_setF {s : State} (h : s.canonical) (f : RF) (i n v : Nat) : (s.setF f i n v).canonical :=
  State.canonical_wr h _ _ _ _

theorem State.canonical_setFlag {s : State} (h : s.canonical) (f : RF) (i n : Nat) (b : Bool) :
    (s.setFlag f i n b).canonical :=
  State.canonical_setF h _ _ _ _

theorem State.canonical_addSat {s : State} (h : s.canonical) (f : RF) (i n k : Nat) : (s.addSat f i n k).canonical :=
  State.canonical_setF h _ _ _ _

theorem State.canonical_addWrap {s : State} (h : s.canonical) (f : RF) (i n k : Nat) :
    (s.addWrap f i n k).canonical :=
  State.canonical_setF h _ _ _ _

theorem State.canonical_resetRegs {s : State} (h : s.canonical) (p : RKey → Bool) : (s.resetRegs p).canonical :=
  ⟨h.1, s.regs_resetRegs_wf p h.2⟩

theorem State.canonical_foldl {α : Type} (l : List α) (g : State → α → State)
    (hg : ∀ t a, t.canonical → (g t a).canonical) {s : State} (h : s.canonical) : (l.foldl g s).canonical := by
  induction l generalizing s with
  | nil => exact h
  | cons a r ih => exact ih (hg s a h)

/-! ### Interrupt messages and event bits -/

theorem State.msixNow_frame (s : State) (fn : FnId) (e : Nat) :
    s.msixNow fn e = { s with host := (s.msixNow fn e).host, out := (s.msixNow fn e).out } := by
  unfold State.msixNow
  dsimp only
  split <;> rfl

theorem State.msixDrop_frame (s : State) :
    s.msixDrop = { s with regs := s.msixDrop.regs, host := s.msixDrop.host, out := s.msixDrop.out } := by
  unfold State.msixDrop
  dsimp only
  split
  · rfl
  · rw [State.msixNow_frame]; rfl

/-- An MSI-X message touches registers (the drop count and its event), the host's pending bits and what is sent. -/
theorem State.sendMsix_frame (s : State) (fn : FnId) (e : Nat) :
    s.sendMsix fn e = { s with regs := (s.sendMsix fn e).regs, host := (s.sendMsix fn e).host,
                               out := (s.sendMsix fn e).out } := by
  unfold State.sendMsix
  split
  · rfl
  · split
    · exact s.msixDrop_frame
    · rw [State.msixNow_frame]

theorem State.canonical_msixNow {s : State} (h : s.canonical) (fn : FnId) (e : Nat) : (s.msixNow fn e).canonical := by
  unfold State.msixNow
  dsimp only
  split
  · exact State.canonical_of_eq h rfl rfl
  · exact State.canonical_of_eq h rfl rfl

theorem State.canonical_sendMsix {s : State} (h : s.canonical) (fn : FnId) (e : Nat) :
    (s.sendMsix fn e).canonical := by
  unfold State.sendMsix State.msixDrop
  have h2 := State.canonical_setFlag (State.canonical_addSat h RF.HST_PORT_MSIX_DROP_COUNT 0 0 1)
    RF.HST_PORT_EVENT_MSIX_DROP 0 0 true
  split
  · exact h
  · split
    · dsimp only
      split
      · exact h2
      · exact State.canonical_msixNow h2 0 5
    · exact State.canonical_msixNow h fn e

theorem State.sendFixed_frame (s : State) (r : Reg) :
    s.sendFixed r = { s with regs := (s.sendFixed r).regs, host := (s.sendFixed r).host,
                             out := (s.sendFixed r).out } := by
  unfold State.sendFixed
  split
  · split
    · exact s.sendMsix_frame _ _
    · rfl
  · rfl

theorem State.canonical_sendFixed {s : State} (h : s.canonical) (r : Reg) : (s.sendFixed r).canonical := by
  unfold State.sendFixed
  split
  · split
    · exact State.canonical_sendMsix h _ _
    · exact h
  · exact h

/-- Raising an event bit touches registers, the host's pending bits and what is sent. -/
theorem State.raise_frame (s : State) (f : RF) (i : Nat) :
    s.raise f i = { s with regs := (s.raise f i).regs, host := (s.raise f i).host, out := (s.raise f i).out } := by
  unfold State.raise
  dsimp only
  split
  · rfl
  · rw [State.sendFixed_frame]; rfl

theorem State.canonical_raise {s : State} (h : s.canonical) (f : RF) (i : Nat) : (s.raise f i).canonical := by
  unfold State.raise
  have h1 := State.canonical_setFlag h f i 0 true
  dsimp only
  split
  · exact h1
  · exact State.canonical_sendFixed h1 _

theorem State.canonical_writeErr {s : State} (h : s.canonical) (p : Page) (i o c : Nat) :
    (s.writeErr p i o c).canonical := by
  unfold State.writeErr
  dsimp only
  split
  · exact State.canonical_setFlag h _ _ _ _
  · exact State.canonical_setFlag (State.canonical_setF (State.canonical_setF h _ _ _ _) _ _ _ _) _ _ _ _

/-- A first-error capture keeps the form when the fill does. -/
theorem State.canonical_capture {s : State} (h : s.canonical) (v m : RF) (i : Nat) (fill : State → State)
    (hf : (fill s).canonical) : (s.capture v m i fill).canonical := by
  have h1 := State.canonical_setFlag hf v i 0 true
  unfold State.capture
  dsimp only
  split
  · exact State.canonical_setFlag h _ _ _ _
  · split
    · split
      · exact State.canonical_wr h1 _ _ _ _
      · exact h1
    · exact h1

/-! ### The gate of an instruction -/

/-- Where the thread may run its next instruction, the gate is open: what is stated of the run holds of the
instruction. -/
theorem State.gate_mayRun {s : State} {f t : Nat} (h : s.mayRun f t = true) (run : State) : s.gate f t run = run := by
  unfold State.mayRun at h
  simp only [Bool.and_eq_true, decide_eq_true_eq, Bool.not_eq_true'] at h
  obtain ⟨⟨⟨h1, h2⟩, h3⟩, h4⟩ := h
  unfold State.gate
  simp [h1, h2, h3, h4]

end Sys2Proof.Machine
end

