-- ==== Sys2Proof/Tests/Slice0.lean ====
section
/-! SUPPORT. Tests: what WellFormed refuses, what commands do on small states, and for every clause of a
statement a state and operands that meet its hypotheses. -/

set_option maxRecDepth 10000
set_option Elab.async false
set_option linter.unusedVariables false

namespace Sys2Proof.Tests

open Sys2Proof.Machine

/-- The module in a boot stage. -/
def atStage (x : BootStage) : State :=
  { State.reset with boot := { State.reset.boot with stage := x } }

/-- The module in service. -/
def up : State :=
  { State.reset with boot := { State.reset.boot with stage := .ready, hearthAlive := true, h0Ready := true } }

/-- An empty ledger record. -/
def emptyRecord : LedgerRecord :=
  { seq := 0, cause := 1, flags := 0, committed := false, serial := 0, state := [], musters := [], sheaves := [],
    errors := [], energy := [], reeve := 0 }

/-- The module without power, with a save in progress whose Reeve section is awaited or settled. -/
def savingState : State :=
  { State.reset with hearth := { State.reset.hearth with save := some ⟨emptyRecord, false, true, 0⟩ } }

def settledState : State :=
  { State.reset with hearth := { State.reset.hearth with save := some ⟨emptyRecord, true, true, 0⟩ } }

/-! One component of a state changed. -/

def onTallies (g : Tallies → Tallies) (s : State) : State := { s with tallies := g s.tallies }

def onCrofters (g : Crofters → Crofters) (s : State) : State := { s with crofters := g s.crofters }

def onSequencer (g : Sequencer → Sequencer) (s : State) : State := { s with seq := g s.seq }

def onCommons (g : Commons → Commons) (s : State) : State := { s with commons := g s.commons }

def onBoot (g : Boot → Boot) (s : State) : State := { s with boot := g s.boot }

def onResets (g : Resets → Resets) (s : State) : State := { s with resets := g s.resets }

def onVerne (g : Verne → Verne) (s : State) : State := { s with verne := g s.verne }

def onFabric (g : Fabric → Fabric) (s : State) : State := { s with fabric := g s.fabric }

def onHbm (g : Hbm → Hbm) (s : State) : State := { s with hbm := g s.hbm }

def onHostPort (g : HostPort → HostPort) (s : State) : State := { s with host := g s.host }

def onReeve (g : Reeve → Reeve) (s : State) : State := { s with reeve := g s.reeve }

def onPower (g : Power → Power) (s : State) : State := { s with power := g s.power }

def onAssay (g : Assay → Assay) (s : State) : State := { s with assay := g s.assay }

def onHearth (g : Hearth → Hearth) (s : State) : State := { s with hearth := g s.hearth }

def onPins (g : Pins → Pins) (s : State) : State := { s with pins := g s.pins }

def onCairns (g : Cairns → Cairns) (s : State) : State := { s with cairns := g s.cairns }

def onIrq (g : Irq → Irq) (s : State) : State := { s with irq := g s.irq }

def onMemory (g : Memory → Memory) (s : State) : State := { s with mem := g s.mem }

/-- The physical function as a source. -/
def srcPf : Source := ⟨0, none, none, true, 0#7⟩

/-- A request of field 1's thread 2 for a set of tally 5 of field 3. -/
def parkedSet : TallyReq := ⟨4, 3 * 4096 + 5, 0, .set 9#64, .thread 1 2 3, ⟨1, 0#16⟩, false, 0⟩

/-- A thread in machine mode, at 0x1000. -/
def runThread : Thread := { freeThread with st := .ready, priv := .m, pc := 0x1000#64 }

/-- Thread 0 of field 0, ready in machine mode with register values; and an address in the field's SRAM and one of
its tallies. -/
def runWith (x : NMap Word) : State := onCrofters (fun c => { c with threads := [(0, { runThread with x := x })] }) up

def sramAddr : Word := 0x40000000000#64

def slotAddr : Word := 0xC0000000140#64

/-- A descriptor for sieve 0 of the issuing field. -/
def sieveDesc : List Byte := [1#8, 0#8, 0#8, 8#8] ++ List.replicate 60 0#8

/-- Selected waiters of tally 5 of field 0: a thread's wait, an arm, a chain for a sieve. -/
def waitDone : Selected := ⟨⟨0, 5, 1, .wait (.thread 0 0 5), none⟩, 1#64⟩

def armDone : Selected := ⟨⟨0, 5, 1, .arm, none⟩, 1#64⟩

def chainDone : Selected := ⟨⟨0, 5, 1, .chain sieveDesc false 0 none, none⟩, 1#64⟩

/-- A store answered and not yet acknowledged, a load and a posted write that wait for another wafer. -/
def storeDone : Request :=
  ⟨4, 4, ⟨0, none, none, false, 0#7⟩, 0, .write [1#8] false, .store 0 0, 0, false, some ⟨.ok, false, []⟩⟩

def loadSent : Request := ⟨4, 4, srcPf, 0, .read 2, .load 0 0 (.x 5 .h true) false, 0, false, none⟩

def postSent : Request := ⟨4, 4, srcPf, 0, .write [1#8] false, .none, 0, false, none⟩

/-- Thread 0 of field 0 with a descriptor in the field's SRAM, at the address x8 holds. -/
def descState : State :=
  { runWith [(5, slotAddr), (6, 3#64), (8, sramAddr + 64#64)] with mem := up.mem.write 0 1 64 sieveDesc false }

/-- An issue of thread 0 of field 0 on its way to its own field. -/
def issueOpen : IssueReq := ⟨4, 0, 0, 7, sieveDesc, none, none, false, 0⟩

/-- Parish 1 enabled with field 0 and bound, its ring 2 enabled with one sheaf to fetch, virtual functions on. -/
def ringUp : State :=
  onHostPort (fun h => { h with vfEnable := true, numVfs := 4 })
    ((((((up.setFlag RF.WFR_PAR_CTL_ENABLE 1 0 true).setF RF.WFR_PAR_FIELDS_LO_FIELDS 1 0 1).setFlag
      RF.RVE_PARp_BIND_BOUND 0 1 true).setFlag RF.RVE_PARp_BIND_KEY_LOADED 0 1 true).setFlag
      RF.WFR_RINGr_CTL_ENABLE 1 2 true).setF RF.WFR_RINGr_SQ_PTR_SQ_TAIL 1 2 1)

/-- A COPY of 64 bytes within the SRAM of field 0. -/
def copyRaw : List Byte :=
  List.replicate 8 0#8 ++ [1#8] ++ List.replicate 12 0#8 ++ [4#8, 0#8, 0#8] ++ [0#8, 16#8, 0#8, 0#8, 0#8, 4#8, 0#8, 0#8] ++
    [64#8] ++ List.replicate 95 0#8

/-- Sheaf 7 of parish 1, ring 2: the COPY, the same waiting for a refused dependency on tally 5 of field 0, and a
SEND under way. -/
def copySheaf : Sheaf := newSheaf 7 1 2 copyRaw 0

def refusedSheaf : Sheaf :=
  { copySheaf with depsRefused := [0]
                   raw := copyRaw.take 64 ++ leBytes 8 slotAddr.toNat ++ [3#8] ++ List.replicate 55 0#8 }

def sendSheaf : Sheaf :=
  { copySheaf with phase := .dispatched, raw := copyRaw.take 8 ++ [2#8] ++ copyRaw.drop 9 }

/-- The COPY under way, with its data moved before. -/
def copyState : State :=
  onSequencer (fun q => { q with sheaves := [{ copySheaf with phase := .dispatched }] }) ringUp

/-- Muster entry 3 of parish 1, formed and loose; and forming with one offer missing. -/
def musterUp : State :=
  ((((ringUp.setF RF.WFR_MUSm_CTL_STATE 0 3 2).setF RF.WFR_MUSm_CTL_KIND 0 3 1).setF RF.WFR_MUSm_CTL_HANDLE 0 3 9).setF
    RF.WFR_MUSm_CTL_PARISH 0 3 1).setF RF.WFR_MUSm_RX_RX_BASE 0 3 0x40000000

def formingEntry : Muster :=
  { members := [⟨4, 0, 0, 1⟩, ⟨5, 0, 2, 1⟩], self := 0, digest := 77, offers := [], disagree := [], goTime := 0
    waves := [], wave := none, sentWaves := 0 }

def musterForming : State :=
  onSequencer (fun q => { q with musters := [(3, formingEntry)] })
    ((musterUp.setF RF.WFR_MUSm_CTL_STATE 0 3 1).setF RF.WFR_MUSm_CTL_KIND 0 3 0)

/-- A task with an opcode in the queue of unit `u` of field 0, or running there with its status decided or not. -/
def task (op : Nat) : EngTask :=
  ⟨5, 7, [0#8, BitVec.ofNat 8 op] ++ List.replicate 62 0#8, none, 0, none, none, [], none, 0, false⟩

def queued (u op : Nat) : State := up.modEngine 0 u (fun e => { e with queue := [task op] })

def running (u op : Nat) (st : Option Nat) : State :=
  up.modEngine 0 u (fun e => { e with running := [{ task op with status := st }] })

/-- Context 3 of sieve 0 of field 0, at instruction `w` of a program of one instruction, with a few elements in
tiles 2 and 3 of its window. -/
def sieveCtx (w : Nat) : SieveCtx :=
  { slot := 3, task := 5, base := 8, count := 8, params := [0#8, 1#8] ++ List.replicate 62 0#8 ++ leBytes 8 w, iter := 0
    pc := 0, loads := [] }

def sieveAt (w : Nat) : State :=
  (running 16 1 none).modSieve 0 0 (fun x => { x with ctxs := [sieveCtx w]
                                                      tiles := [(5120, 0x40490FDB), (5121, 5), (5632, 7)] })

def sieveTask : EngTask := task 1

/-- A word of the sieve: opcode, DT 1, SA 2, SB 3, SC 4, and a compute format. -/
def sieveWord (op cf : Nat) : Nat := op + 0x100 + 2 * 2 ^ 14 + 3 * 2 ^ 20 + 4 * 2 ^ 26 + cf * 2 ^ 32

/-- A cairn task on sequence 0 queued with its cairn enabled; one that runs and moves a pair. -/
def cairnUp (op : Nat) : State := (queued 21 op).setFlag RF.CRN_CTL_ENABLE 0 0 true

def movedPair (back : Bool) : CairnPair := ⟨7, 0, 0, 0, 1, 2, 33, back, none⟩

def cairnJob (back : Bool) : CairnJob := ⟨5, [], [], [], [movedPair back]⟩

def cairnMoves (op : Nat) (back : Bool) : State :=
  (running 21 op none).modCairn 0 (fun c => { c with job := some (cairnJob back) })

/-- A STEP of cairn 0 that waits for the pools of fields 0 and 1, the agent of field 0 asked or answered. -/
def stepJob : CairnJob := ⟨5, [], [0, 16], [], []⟩

def poolReq (a : Option Nat) : PoolReq := ⟨4, 0, 0, srcPf, a⟩

def stepWaits (a : Option Nat) : State :=
  onCairns (fun c => { c with reqs := [poolReq a] })
    ((running 21 4 none).modCairn 0 (fun c => { c with job := some stepJob }))

/-- A loom job of a pipe under way. -/
def loomJob : LoomJob := ⟨5, List.replicate 128 0#8, List.replicate 256 0#8, [], [], 0, 0, 0, 0, false⟩

def loomState (op : Nat) : State := (running 22 op none).modLoom 0 (fun x => { x with dec := some loomJob, enc := some loomJob })

/-- An ENCODE job with four inputs to encode, whose buffer is full or not. -/
def encSession : List Byte :=
  (sessionBlock 0 0 16 16 (List.replicate 64 0#8) (List.replicate 64 0#8) [0, 0, 0, 4, 0]).take 256

def encJob (b : Byte) : LoomJob := { loomJob with session := encSession, job := List.replicate 128 b }

def encState (b : Byte) : State := (loomState 3).modLoom 0 (fun x => { x with enc := some (encJob b) })

/-- A link in a state with a target; its replay buffer with one flit sent at time 0, and a CTRL request open. -/
def linkAt (k st target : Nat) : State :=
  (up.setF RF.VRN_LNK_STATE_STATE k 0 st).setF RF.VRN_LNK_CTL_TARGET k 0 target

def sentFlit (replays : Nat) : HeldFlit := ⟨0, 1, 2, 0, false, [], 0, replays⟩

def linkHeld (k st replays : Nat) : State :=
  { (linkAt k st 1).modLink k (fun x => { x with seq := 1, held := [sentFlit replays] }) with now := 10000000 }

def linkCtrl (k st code n : Nat) : State := (linkAt k st 1).modLink k (fun x => { x with ctrl := some (code, n) })

def later (n : Nat) (s : State) : State := { s with now := n }

/-- A joined wafer 0 with members 0 and 3, master or not; a member's recorded epoch is 5. -/
def joinedUp (master : Bool) : State :=
  ((((up.setF RF.FAB_STATE_STATE 0 0 fsJoined).setF RF.FAB_MEMBERS_JOINED 0 0 9).setF RF.FAB_EPOCHn_EPOCH 0 3 5).setFlag
    RF.FAB_EPOCHn_VALID 0 3 true).setFlag RF.FAB_TIME_CTL_IS_MASTER 0 0 master

/-- A DATA flit with a good CRC: sequence number `q`, source rack 1, no message. -/
def flitOf (q : Nat) : List Byte :=
  let h := leBytes 8 (q + 2 ^ 53) ++ leBytes 4 0
  let b := List.replicate 240 0#8
  h ++ leBytes 4 (crc32 (h ++ b)) ++ b

/-- A decision to post of a kind; a granule of field 0 that has been written. -/
def postOf (k : Nat) : FieldPost :=
  { kind := k, field := 3, outcome := 1, cause := 1, loss := 0, cls := 0xF, unit := 0xF, slot := 0x7F, inService := 79
    below := false, time := 9, seq := 4, parish := none, signals := 0, chains := 0, others := 0 }

def postsDue (k : Nat) : State := onCommons (fun c => { c with posts := [postOf k] }) up

def writtenUp : State := { up with mem := up.mem.fillGranule 0 0 }

def hbmUpState : State := writtenUp.setF RF.HBM_ID_STATE 0 0 hbmUp

/-- Port `p` with its link UP and live for destination 3. -/
def portUp (p : Nat) (s : State) : State :=
  (((s.setF RF.VRN_PORTp_CTL_MEMBERS 0 p (2 ^ p)).setFlag RF.VRN_PORTp_CTL_ENABLE 0 p true).setF RF.VRN_LNK_STATE_STATE p 0
    lsUp).setF RF.FAB_REACHp_REACH 0 p 8

/-- Entry 63 of destination 3 on port 3, to move to port 4; and a wafer whose master is wafer 3. -/
def entryMoves : State := onFabric (fun x => { x with spread := [(255, 4)] }) (portUp 3 (portUp 4 up))

def followsMaster : State := portUp 3 ((joinedUp false).setF RF.FAB_TIME_CTL_MASTER 0 0 3)

/-- Field 3 whose parent was field 2 behind a seam that is DOWN. -/
def seamOn : State := (up.setF RF.FLD_SEAMn_STATE_STATE 3 1 0).setF RF.FLD_SEAMn_STATE_STATE 4 3 0

def orphan : State := (seamOn.setF RF.FLD_CLK_STATUS_PARENT 3 0 2).setF RF.FLD_SEAMn_STATE_STATE 3 3 1

/-- A recovery of a bell hang of field 0 that treats quern 2, with the suspect under replay; and a state with it and
the suspects left. -/
def replayJob (c : Option Nat) : Recovery := ⟨⟨1, 1, 0, 0, true⟩, [0], [⟨0, 2, c, 0, none, none⟩], []⟩

def suspectsAt (c : Option Nat) (l : List EngTask) : State :=
  onResets (fun r => { r with recoveries := [replayJob c] })
    (up.modEngine 0 2 (fun e => { e with suspects := l, replaying := true }))

/-- H0 ready, its physical function's window over the SRAM of field 0; its DMA queue 1 enabled, with a descriptor of 16
bytes toward that SRAM to fetch or under way. -/
def sramWindow : State :=
  onHostPort (fun h => { h with ready := true }) (up.setF RF.HST_FN_WIN_BASE_BASE 0 0 0x4000000)

def dmaUp : State :=
  onHostPort (fun h => { h with dma := [(1, ⟨3, none⟩)] }) (sramWindow.setFlag RF.HST_FN_DMAq_CTL_ENABLE 0 1 true)

def dmaIn : List Byte := leBytes 8 0x9000 ++ leBytes 8 0x40000000040 ++ leBytes 4 15 ++ List.replicate 12 0#8

def dmaRuns (code : Option Nat) (tags : List HostTag) : State :=
  onHostPort (fun h => { h with dma := [(1, ⟨3, some ⟨dmaIn, 16, 0, code⟩⟩)], tags := tags }) dmaUp

/-- A fill of granule 1 of field 0 that a write of one byte started; a source on wafer 1; a module with only field 4
in service and no other router; a launch of two threads on field 0. -/
def fillOf : Fill := ⟨0, 1, ⟨4, 4, srcPf, 65600, .write [1#8] false, .none, 0, false, none⟩, []⟩

def e2eSrc : Source := ⟨1, some 0, none, false, 0#7⟩

def onlyFour : State :=
  (List.range 80).foldl (fun (t : State) f => if f = 4 then t else t.setF RF.WFR_FLDf_STATUS_STATE 0 f 2) up

def launchOf : Launch := ⟨0, 7, none, 0, 2, 4, 0x10000, 0x100, 0x800, 9, 65536, 4096⟩

/-- Parish 1 with field 0, owned by another tenant or bound to the owner, not enabled, with entropy; a nonce the SMBus
holds; a scrub that clears field 0, whose thread 3 lives. -/
def bindable : State :=
  onReeve (fun r => { r with owners := [(0, some (5, 3))] })
    ((up.setF RF.WFR_PAR_FIELDS_LO_FIELDS 1 0 1).setF RF.RVE_RNG_STAT_STATE 0 0 1)

def releasable : State :=
  ((bindable.setFlag RF.RVE_PARp_BIND_BOUND 0 1 true).setF RF.RVE_PARp_TAG_TAG 0 1 5).setF RF.RVE_PARp_BIND_KEY_EPOCH 0 1 3

def nonceHeld (s : State) : State := onReeve (fun r => { r with nonces := [(.smbus, 5#128, 0)] }) s

def scrubbingUp : State :=
  onCrofters (fun c => { c with threads := [(3, runThread)] }) (onReeve (fun r => { r with
    scrubs := [⟨1, true, false, 0, 0, false, none, [⟨0, true, [(0, 4)], [(0, 4)], .clearing, false, 0⟩]⟩] }) up)

theorem witness_BringupStagesAdvance_powerUp : ∃  (s : State), s.boot.stage = .off ∧ s.saving = false ∧
      s.hearth.restart = none :=
  ⟨State.reset,
    by decide +kernel⟩

theorem witness_BringupStagesAdvance_hearthAlive : ∃ (strap : BitVec 3) (s : State), s.boot.stage = .hearth ∧
      s.boot.hearthAlive = false :=
  ⟨3#3, atStage .hearth,
    by decide +kernel⟩

theorem witness_BringupStagesAdvance_planeCharged : ∃  (s : State), s.boot.stage = .hearth ∧ s.boot.hearthAlive =
      true :=
  ⟨{ atStage .hearth with boot := { (atStage .hearth).boot with hearthAlive := true } },
    by decide +kernel⟩

theorem witness_BringupStagesAdvance_holdupCheckDone : ∃ (cap : BitVec 16) (s : State), s.boot.stage = .hearth ∧
      s.boot.planeCharged = true :=
  ⟨700#16, { atStage .hearth with boot := { (atStage .hearth).boot with planeCharged := true } },
    by decide +kernel⟩

theorem witness_BringupStagesAdvance_reeveBootDone : ∃ (badA : Option (Fin 5)) (badB : Option (Fin 5)) (crcOk : Bool)
      (s : State), s.boot.stage = .reeve ∧ s.boot.cold = false ∧ s.lifecycle = lcDeployed ∧ s.reeve.selected = 0 ∧
  s.slotFails 0 badA = none :=
  ⟨none, none, true, atStage .reeve,
    by decide +kernel⟩

theorem witness_BringupStagesAdvance_clockStageDone : ∃ (unclocked : List FieldId) (s : State), s.boot.stage = .clock
      ∧ unclocked.any (fun f => f.val == 4) = false :=
  ⟨[], atStage .clock,
    by decide +kernel⟩

theorem witness_BringupStagesAdvance_hbmGroupTrained : ∃ (failed : List StackFail) (spares : List (FieldId × BitVec
      24)) (s : State), s.boot.stage = .hbm ∧ s.frozen = false :=
  ⟨[], [], atStage .hbm,
    by decide +kernel⟩

theorem witness_BringupStagesAdvance_seamsTrained : ∃ (failed : List (FieldId × Fin 4)) (spares : List (FieldId × Fin
      4 × BitVec 4)) (s : State), s.boot.stage = .seams ∧ s.frozen = false :=
  ⟨[], [], atStage .seams,
    by decide +kernel⟩

theorem witness_BringupStagesAdvance_selfcheckDone : ∃ (l : List SelfFail) (s : State), s.boot.stage = .selfcheck ∧
      s.frozen = false ∧ l.any (fun x => decide (x.field.val = 4) && x.spine) = false :=
  ⟨[], atStage .selfcheck,
    by decide +kernel⟩

theorem witness_BringupStagesAdvance_imagesLoaded : ∃  (s : State), s.boot.stage = .images ∧ s.frozen = false ∧
      s.commons.reqs = [] :=
  ⟨atStage .images,
    by decide +kernel⟩

theorem witness_BringupStagesAdvance_fabricStageTimeout : ∃  (s : State), s.boot.stage = .fabric ∧ s.frozen = false ∧
      s.fabState ≠ fsJoined ∧ s.fabState ≠ fsSolo :=
  ⟨atStage .fabric,
    by decide +kernel⟩

theorem witness_BringupStagesAdvance_bootReady : ∃  (s : State), s.boot.stage = .fabric ∧ s.frozen = false ∧ s.halted
      = false ∧ (s.fabState = fsJoined ∨ s.fabState = fsSolo) :=
  ⟨(atStage .fabric).setF RF.FAB_STATE_STATE 0 0 fsSolo,
    by decide +kernel⟩

theorem witness_BringupFaultsHalt_hearthFwReportTimeout : ∃  (s : State), s.boot.stage = .reeve ∨ s.boot.stage =
      .clock :=
  ⟨atStage .clock,
    by decide +kernel⟩

theorem witness_BringupFaultsHalt_hearthWatchdogExpire : ∃  (s : State), s.boot.stage = .reeve ∨ s.boot.stage = .hbm
      :=
  ⟨atStage .hbm,
    by decide +kernel⟩

theorem witness_BringupFaultsHalt_waferFault : ∃ (clockEntry : Bool) (s : State), s.boot.stage = .ready :=
  ⟨true, up,
    by decide +kernel⟩

theorem witness_BringupFaultsHalt_resetWaferWarm : ∃ (key : BitVec 16) (s : State), key.toNat = keyReset ∧
      s.boot.stage = .ready ∧ s.waferInReset = false ∧ s.seq.sheaves = [] :=
  ⟨0x5EED#16, up,
    by decide +kernel⟩

theorem witness_BringupFaultsHalt_resetWaferCold : ∃ (key : BitVec 16) (s : State), key.toNat = keyReset ∧
      s.boot.stage = .ready ∧ s.waferInReset = false :=
  ⟨0x5EED#16, up,
    by decide +kernel⟩

theorem witness_SupplySagSaves_pwrFailAssert : ∃  (s : State), s.flag RF.HRT_SAG_CTL_PIN_EN 0 0 = true ∧ s.getF
      RF.BIS_STAT_STATE 0 0 ≠ 2 ∧ s.hearth.save = none ∧
  s.boot.stage = .ready ∧ s.boot.hearthAlive = true :=
  ⟨up.setFlag RF.HRT_SAG_CTL_PIN_EN 0 0 true,
    by decide +kernel⟩

theorem witness_SupplySagSaves_vinSagDetect : ∃  (s : State), s.hearth.save = none ∧ s.boot.stage = .ready ∧
      s.boot.hearthAlive = true :=
  ⟨up,
    by decide +kernel⟩

theorem witness_SupplySagSaves_pwrFailGlitch : ∃  (s : State), s.boot.hearthAlive = true :=
  ⟨up,
    by decide +kernel⟩

theorem witness_SupplySagSaves_reeveSectionHandover : ∃ (bytes : Fin 8193) (s : State), ∃ x, s.hearth.save = some x ∧
      x.settled = false :=
  ⟨5, savingState,
    ⟨_, rfl, rfl⟩⟩

theorem witness_SupplySagSaves_reeveHandoverTimeout : ∃  (s : State), ∃ x, s.hearth.save = some x ∧ x.settled = false
      :=
  ⟨savingState,
    ⟨_, rfl, rfl⟩⟩

theorem witness_SupplySagSaves_recordCommit : ∃  (s : State), ∃ x, s.hearth.save = some x ∧ x.settled = true :=
  ⟨settledState,
    ⟨_, rfl, rfl⟩⟩

theorem witness_SupplySagSaves_holdupExhausted : ∃  (s : State), s.saving = true :=
  ⟨savingState,
    by decide +kernel⟩

theorem witness_SupplySagSaves_vinQualified : ∃ (low : Bool) (s : State), s.hearth.restart = some causePin ∧ s.saving
      = false ∧ s.boot.stage = .off :=
  ⟨false, { State.reset with hearth := { State.reset.hearth with restart := some causePin } },
    by decide +kernel⟩

theorem witness_SupplySagSaves_modTargetOff : ∃ (src : Fin 3) (s : State), s.boot.stage = .ready ∧ s.boot.hearthAlive
      = true ∧ s.pBusy = false ∧ s.modState ≤ 2 ∧ s.power.target = none ∧
  s.hearth.save = none :=
  ⟨0, up,
    by decide +kernel⟩

theorem witness_TallyOperationsApply_tallyOpRead : ∃ (home : FieldId) (t : TallyId) (src : Source) (s : State),
      s.fieldRuns home.val = true ∧ s.admits src home.val 3 (t.val * 64) 8 = true :=
  ⟨3, 5, srcPf, up,
    by decide +kernel⟩

theorem witness_TallyOperationsApply_tallyOpSet : ∃ (home : FieldId) (t : TallyId) (src : Source) (tx : Option TxId)
      (v : Word) (s : State), s.fieldRuns home.val = true ∧ s.admits src home.val 3 (t.val * 64) 8 = true ∧
      s.dupResult home.val tx = none :=
  ⟨3, 5, srcPf, some ⟨0, 7#16⟩, 9#64, up,
    by decide +kernel⟩

theorem witness_TallyOperationsApply_tallyOpAdd : ∃ (home : FieldId) (t : TallyId) (src : Source) (tx : Option TxId)
      (v : Word) (s : State), s.fieldRuns home.val = true ∧ s.admits src home.val 3 (t.val * 64) 8 = true ∧
      s.dupResult home.val tx = none :=
  ⟨3, 5, srcPf, none, 0xFFFFFFFFFFFFFFFF#64, up,
    by decide +kernel⟩

theorem witness_TallyOperationsApply_tallyOpClearFlags : ∃ (home : FieldId) (t : TallyId) (src : Source) (tx : Option
      TxId) (s : State), s.fieldRuns home.val = true ∧ s.admits src home.val 3 (t.val * 64) 8 = true ∧ s.dupResult
      home.val tx = none :=
  ⟨3, 5, srcPf, none, up,
    by decide +kernel⟩

theorem witness_TallyOperationsApply_tallyOpCas : ∃ (home : FieldId) (t : TallyId) (src : Source) (tx : Option TxId)
      (new : Word) (expected : Word) (s : State), s.fieldRuns home.val = true ∧ s.admits src home.val 3 (t.val * 64)
      8 = true ∧ s.dupResult home.val tx = none :=
  ⟨3, 5, srcPf, none, 4#64, 0#64, up,
    by decide +kernel⟩

theorem witness_TallyOperationsApply_tallyEngineCompletion : ∃ (home : FieldId) (t : TallyId) (src : Source) (tx :
      Option TxId) (ok : Bool) (s : State), s.fieldRuns home.val = true ∧ s.admits src home.val 3 (t.val * 64) 8 =
      true ∧ s.dupResult home.val tx = none :=
  ⟨3, 5, srcPf, none, false, up,
    by decide +kernel⟩

theorem witness_TallyOperationsApply_tallyReceiptUpdate : ∃ (home : FieldId) (t : TallyId) (src : Source) (tx :
      Option TxId) (ok : Bool) (s : State), s.fieldRuns home.val = true ∧ s.admits src home.val 3 (t.val * 64) 8 =
      true ∧ s.dupResult home.val tx = none :=
  ⟨3, 5, srcPf, none, true, up,
    by decide +kernel⟩

theorem witness_TallyWaitersParkAndReturn_tallyOpWait : ∃ (home : FieldId) (t : TallyId) (src : Source) (tx : Option
      TxId) (threshold : BitVec 48) (s : State), s.fieldRuns home.val = true ∧ s.admits src home.val 3 (t.val * 64) 8
      = true ∧ s.dupResult home.val tx = none ∧
  s.entries.any (fun x => x.tx == tx && x.tx.isSome) = false :=
  ⟨3, 5, srcPf, none, 2#48, up,
    by decide +kernel⟩

theorem witness_TallyWaitersParkAndReturn_tallyOpArm : ∃ (home : FieldId) (t : TallyId) (src : Source) (tx : Option
      TxId) (threshold : BitVec 48) (s : State), s.fieldRuns home.val = true ∧ s.admits src home.val 3 (t.val * 64) 8
      = true ∧ s.dupResult home.val tx = none ∧
  s.entries.any (fun x => x.tx == tx && x.tx.isSome) = false ∧
  (s.tally (tallyKey home.val t.val)).count < threshold.toNat ∧ s.noRoom (tallyKey home.val t.val) false = false ∧
  s.tallies.waiters.any (fun x => x.tally == tallyKey home.val t.val && x.kind.isArm) = false :=
  ⟨3, 5, srcPf, none, 2#48, up,
    by decide +kernel⟩

theorem witness_TallyWaitersParkAndReturn_tallyOpChain : ∃ (home : FieldId) (t : TallyId) (src : Source) (tx : Option
      TxId) (threshold : BitVec 48) (skipErr : Bool) (desc : List Byte) (s : State), desc.length = 64 ∧ s.fieldRuns
      home.val = true ∧ s.admits src home.val 3 (t.val * 64) 8 = true ∧
  s.dupResult home.val tx = none ∧ s.entries.any (fun x => x.tx == tx && x.tx.isSome) = false ∧
  (s.tally (tallyKey home.val t.val)).count < threshold.toNat ∧ s.noRoom (tallyKey home.val t.val) true = false :=
  ⟨3, 5, srcPf, none, 2#48, true, List.replicate 64 0#8, up,
    by decide +kernel⟩

theorem witness_TallyWaitersParkAndReturn_tallyReissue : ∃ (id : Nat) (r : TallyReq) (v : Word) (s : State),
      s.tallies.reqs.find? (fun r => decide (r.id = id)) = some r ∧ s.getF RF.WFR_SEAM_GEN_GEN 0 0 % 2 = 0 ∧
  r.wafer = s.ownWafer ∧ s.inService (r.tally / 4096) = true ∧ s.fieldHolds (r.tally / 4096) = false ∧
  r.op = .set v ∧ s.dupResult (r.tally / 4096) (some r.tx) = none :=
  ⟨4, parkedSet, 9#64, onTallies (fun x => { x with reqs := [parkedSet] }) up,
    by decide +kernel⟩

theorem witness_SatisfiedWaitersServed_waiterSatisfy : ∃ (f : FieldId) (x : Selected) (g : FieldId) (t : ThreadId)
      (rd : XReg) (s : State), s.fieldRuns f.val = true ∧
  s.tallies.selected.find? (fun x => decide (x.waiter.tally / 4096 = f.val)) = some x ∧
  x.waiter.kind = .wait (.thread g t rd) ∧ (s.thread g.val t.val).st = .waitTally :=
  ⟨0, waitDone, 0, 0, 5, onTallies (fun x => { x with selected := [waitDone] }) (onCrofters (fun x =>
      { x with threads := [(0, { runThread with st := .waitTally })] }) up),
    by decide +kernel⟩

theorem witness_SatisfiedWaitersServed_waiterSatisfySignal : ∃ (f : FieldId) (x : Selected) (s : State), s.fieldRuns
      f.val = true ∧
  s.tallies.selected.find? (fun x => decide (x.waiter.tally / 4096 = f.val)) = some x ∧ x.waiter.kind = .arm ∧
  s.signalReady f.val = true ∧ s.getF RF.TLY_SIG_CTL_SIZE f.val 0 ≤ 8 :=
  ⟨0, armDone, onTallies (fun x => { x with selected := [armDone] }) ((up.setFlag RF.TLY_SIG_CTL_ENABLE 0 0
      true).setF RF.TLY_SIG_TAIL_TAIL 0 0 5),
    by decide +kernel⟩

theorem witness_SatisfiedWaitersServed_chainIssueRetry : ∃ (f : FieldId) (x : Selected) (desc : List Byte) (skip :
      Bool) (issuer : FieldId) (p : Option ParishId) (u : Nat) (s : State), s.fieldRuns f.val = true ∧
  s.tallies.chainIssues.find? (fun x => decide (x.waiter.tally / 4096 = f.val)) = some x ∧
  x.waiter.kind = .chain desc skip issuer p ∧ (skip && bit x.word 48) = false ∧ descTgtSelf desc = true ∧
  s.enqueueReady issuer.val desc (s.chainSource f.val p) u = true :=
  ⟨0, chainDone, sieveDesc, false, 0, none, 16, onTallies (fun x => { x with chainIssues := [chainDone] }) up,
    by decide +kernel⟩

theorem witness_SatisfiedWaitersServed_tlySigEnable : ∃ (f : FieldId) (size : BitVec 4) (vector : BitVec 12) (s :
      State), s.flag RF.TLY_SIG_CTL_ENABLE f.val 0 = false ∧ s.tallies.signals = [] :=
  ⟨0, 2#4, 7#12, up,
    by decide +kernel⟩

theorem witness_SatisfiedWaitersServed_tlySigTailWrite : ∃ (f : FieldId) (tail : BitVec 12) (s : State),
      s.tallies.signals = [] :=
  ⟨0, 3#12, up,
    by decide +kernel⟩

theorem witness_AtomicsAtHome_xtAmofaddS : ∃ (f : FieldId) (t : ThreadId) (a : XtArgs) (g r o : Nat) (s : State),
      a.rs3.val = 0 ∧ s.atomicReady f.val t.val ((s.thread f.val t.val).xr a.rs1) 4 3 a.rl = true ∧
  s.reachesPlain (s.threadSource f.val) ((s.thread f.val t.val).xr a.rs1).toNat 4 true true g r o = true :=
  ⟨0, 0, ⟨7, 5, 6, 0, false, false⟩, 0, 1, 0, runWith [(5, sramAddr), (6, 3#64)],
    by decide +kernel⟩

theorem witness_AtomicsAtHome_xtAmofaddBf2 : ∃ (f : FieldId) (t : ThreadId) (a : XtArgs) (g r o : Nat) (s : State),
      a.rs3.val = 0 ∧ s.atomicReady f.val t.val ((s.thread f.val t.val).xr a.rs1) 4 3 a.rl = true ∧
  s.reachesPlain (s.threadSource f.val) ((s.thread f.val t.val).xr a.rs1).toNat 4 true true g r o = true :=
  ⟨0, 0, ⟨7, 5, 6, 0, false, false⟩, 0, 1, 0, runWith [(5, sramAddr), (6, 3#64)],
    by decide +kernel⟩

theorem witness_AtomicsAtHome_xtAmoaddSatD : ∃ (f : FieldId) (t : ThreadId) (a : XtArgs) (g r o : Nat) (s : State),
      a.rs3.val = 0 ∧ s.atomicReady f.val t.val ((s.thread f.val t.val).xr a.rs1) 8 3 a.rl = true ∧
  s.reachesPlain (s.threadSource f.val) ((s.thread f.val t.val).xr a.rs1).toNat 8 true true g r o = true :=
  ⟨0, 0, ⟨7, 5, 6, 0, false, false⟩, 0, 1, 0, runWith [(5, sramAddr), (6, 3#64)],
    by decide +kernel⟩

theorem witness_AtomicsAtHome_xtAmocasD : ∃ (f : FieldId) (t : ThreadId) (a : XtArgs) (g r o : Nat) (s : State),
      s.atomicReady f.val t.val ((s.thread f.val t.val).xr a.rs1) 8 3 true = true ∧
  s.reachesPlain (s.threadSource f.val) ((s.thread f.val t.val).xr a.rs1).toNat 8 true true g r o = true :=
  ⟨0, 0, ⟨7, 5, 6, 6, false, false⟩, 0, 1, 0, runWith [(5, sramAddr), (6, 3#64)],
    by decide +kernel⟩

theorem witness_AtomicsAtHome_amo : ∃ (f : FieldId) (t : ThreadId) (a : AmoArgs) (g r o n : Nat) (s : State), a.op ∉
      [AmoOp.faddS, .faddBf2, .addSatD, .casD] ∧ n = (if a.wide then 8 else 4) ∧
  s.atomicReady f.val t.val ((s.thread f.val t.val).xr a.rs1) n 3 a.rl = true ∧
  s.reachesPlain (s.threadSource f.val) ((s.thread f.val t.val).xr a.rs1).toNat n true true g r o = true :=
  ⟨0, 0, ⟨.add, true, false, false, 7, 5, 6, 0⟩, 0, 1, 0, 8, runWith [(5, sramAddr), (6, 3#64)],
    by decide +kernel⟩

theorem witness_AtomicsAtHome_lr : ∃ (f : FieldId) (t : ThreadId) (a : ResArgs) (g r o n : Nat) (s : State), n = (if
      a.wide then 8 else 4) ∧ s.atomicReady f.val t.val ((s.thread f.val t.val).xr a.rs1) n 1 a.rl = true ∧
  s.locate (s.threadSource f.val) ((s.thread f.val t.val).xr a.rs1).toNat n false true = .at g r o ∧
  s.reachesPlain (s.threadSource f.val) ((s.thread f.val t.val).xr a.rs1).toNat n false false g r o = true :=
  ⟨0, 0, ⟨true, false, false, 7, 5, 0⟩, 0, 1, 0, 8, runWith [(5, sramAddr)],
    by decide +kernel⟩

theorem witness_AtomicsAtHome_sc : ∃ (f : FieldId) (t : ThreadId) (a : ResArgs) (g r o n : Nat) (s : State), n = (if
      a.wide then 8 else 4) ∧ s.atomicReady f.val t.val ((s.thread f.val t.val).xr a.rs1) n 2 a.rl = true ∧
  (s.reserveAt f.val ((s.thread f.val t.val).xr a.rs1).toNat n).isSome = true ∧
  (s.thread f.val t.val).reservation = s.reserveAt f.val ((s.thread f.val t.val).xr a.rs1).toNat n ∧
  s.reachesPlain (s.threadSource f.val) ((s.thread f.val t.val).xr a.rs1).toNat n true false g r o = true :=
  ⟨0, 0, ⟨true, false, false, 7, 5, 6⟩, 0, 1, 0, 8, onCrofters (fun c =>
      { c with threads := [(0, { runThread with x := [(5, sramAddr)], reservation := some (cellKey 0 1 0, 8) })] })
      up,
    by decide +kernel⟩

theorem witness_AtomicsAtHome_scFails : ∃ (f : FieldId) (t : ThreadId) (a : ResArgs) (n : Nat) (s : State), n = (if
      a.wide then 8 else 4) ∧ s.atomicReady f.val t.val ((s.thread f.val t.val).xr a.rs1) n 2 a.rl = true ∧
  (s.reserveAt f.val ((s.thread f.val t.val).xr a.rs1).toNat n = none ∨
    (s.thread f.val t.val).reservation ≠ s.reserveAt f.val ((s.thread f.val t.val).xr a.rs1).toNat n) :=
  ⟨0, 0, ⟨true, false, false, 7, 5, 6⟩, 8, runWith [(5, sramAddr)],
    by decide +kernel⟩

theorem witness_LoadsAndStores_load : ∃ (f : FieldId) (t : ThreadId) (a : LoadArgs) (g r o n : Nat) (ea : Word) (s :
      State), n = memBytes a.size ∧ ea = (s.thread f.val t.val).xr a.rs1 + a.imm.signExtend 64 ∧ s.mayRun f.val t.val
      = true ∧
  s.eaBad f.val t.val ea n 1 = false ∧ eaAligned ea.toNat n = true ∧ linesOf ea.toNat n = [(0, n)] ∧
  s.reachesPlain (s.threadSource f.val) ea.toNat n false false g r o = true ∧
  s.allReqs.all (fun q => q.group != s.commons.nextReq) = true :=
  ⟨0, 0, ⟨.two, .w, false, false, 7, 5, 4#12⟩, 0, 1, 4, 4, sramAddr + 4#64, runWith [(5, sramAddr)],
    by decide +kernel⟩

theorem witness_LoadsAndStores_store : ∃ (f : FieldId) (t : ThreadId) (a : StoreArgs) (g r o n : Nat) (ea : Word) (s
      : State), n = memBytes a.size ∧ ea = (s.thread f.val t.val).xr a.rs1 + a.imm.signExtend 64 ∧ s.mayRun f.val
      t.val = true ∧
  s.eaBad f.val t.val ea n 2 = false ∧ eaAligned ea.toNat n = true ∧ linesOf ea.toNat n = [(0, n)] ∧
  s.reachesPlain (s.threadSource f.val) ea.toNat n true false g r o = true :=
  ⟨0, 0, ⟨.four, .d, false, 5, 6, 8#12⟩, 0, 1, 8, 8, sramAddr + 8#64, runWith [(5, sramAddr), (6, 9#64)],
    by decide +kernel⟩

theorem witness_LoadsAndStores_storeAck : ∃ (id : Nat) (r : Request) (f : FieldId) (t : ThreadId) (s : State),
      s.groupDone id = some [r] ∧ r.sink = .store f t ∧ r.src.field = none ∧ s.halted = false ∧
  r.reply = some ⟨.ok, false, []⟩ ∧ (s.thread f.val t.val).fencing = false :=
  ⟨4, storeDone, 0, 0, onCommons (fun c => { c with reqs := [storeDone] }) (runWith []),
    by decide +kernel⟩

theorem witness_LoadsAndStores_commonsResponse : ∃ (id : Nat) (status : AccStatusCode) (fresh : Bool) (data : List
      Byte) (r : Request) (f : FieldId) (t : ThreadId) (dst : LoadDst) (n : Nat) (s : State), s.commons.reqs.find?
      (fun r => decide (r.id = id) && r.reply.isNone && !r.held) = some r ∧ s.frozen = false ∧
  s.halted = false ∧ AccStatus.ofCode status.toNat = .ok ∧ r.kind = .read n ∧ data.length = n ∧
  r.sink = .load f t dst false ∧ s.allReqs.filter (fun q => decide (q.group = r.group)) = [r] ∧
  (s.thread f.val t.val).st = .waitMem :=
  ⟨4, 0#4, false, [1#8, 2#8], loadSent, 0, 0, .x 5 .h true, 2, onCommons (fun c => { c with reqs := [loadSent] })
      (onCrofters (fun c => { c with threads := [(0, { runThread with st := .waitMem })] }) up),
    by decide +kernel⟩

theorem witness_LoadsAndStores_requestTimeout : ∃ (id : Nat) (r : Request) (s : State), s.commons.reqs.find? (fun r
      => decide (r.id = id) && r.reply.isNone) = some r ∧ s.frozen = false ∧
  s.halted = false ∧ r.src.wafer.val = s.ownWafer ∧ s.scrubHeld r = false ∧ r.issued + s.reqLimit r ≤ s.now ∧
  r.sink = .none ∧ s.commons.fills = [] ∧ s.allReqs.filter (fun q => decide (q.group = r.group)) = [r] ∧
  r.src.field = none :=
  ⟨4, postSent, { onCommons (fun c => { c with reqs := [postSent] }) up with now := 3000000 },
    by decide +kernel⟩

theorem witness_LoadsAndStores_lateResponse : ∃ (f : FieldId) (id : Nat) (s : State), s.inService f.val = true ∧
      s.allReqs.any (fun r => decide (r.id = id) && r.reply.isNone) = false :=
  ⟨3, 9, up,
    by decide +kernel⟩

theorem witness_InstructionsRetire_rvInstruction : ∃ (f : FieldId) (t : ThreadId) (len : InstrLen) (i : RvInstr) (s :
      State), s.mayRun f.val t.val = true :=
  ⟨0, 0, .four, .alu .add 6 5 5, runWith [(5, 7#64)],
    by decide +kernel⟩

theorem witness_InstructionsRetire_csrAccess : ∃ (f : FieldId) (t : ThreadId) (a : CsrArgs) (old v : Word) (s :
      State), s.mayRun f.val t.val = true ∧ s.csrRead f.val t.val a.csr.toNat = some old ∧
  v = (if a.imm then BitVec.ofNat 64 a.src.val else (s.thread f.val t.val).xr a.src) ∧
  nbits a.csr.toNat 8 2 ≠ 1 ∧ nbits a.csr.toNat 8 2 ≠ 2 ∧ (nbits a.csr.toNat 8 2 = 3 → (s.thread f.val t.val).priv =
      .m) ∧
  (nbits a.csr.toNat 10 2 = 3 → a.op ≠ .rw ∧ a.src.val = 0) :=
  ⟨0, 0, ⟨.rs, false, 6, 5, 0x340#12⟩, 0#64, 7#64, runWith [(5, 7#64)],
    by decide +kernel⟩

theorem witness_InstructionsRetire_mret : ∃ (f : FieldId) (t : ThreadId) (s : State), s.mayRun f.val t.val = true ∧
      (s.thread f.val t.val).priv = .m :=
  ⟨0, 0, runWith [],
    by decide +kernel⟩

theorem witness_InstructionsRetire_ecall : ∃ (f : FieldId) (t : ThreadId) (s : State), s.mayRun f.val t.val = true :=
  ⟨0, 0, runWith [],
    by decide +kernel⟩

theorem witness_InstructionsRetire_ebreak : ∃ (f : FieldId) (t : ThreadId) (s : State), s.mayRun f.val t.val = true :=
  ⟨0, 0, runWith [],
    by decide +kernel⟩

theorem witness_InstructionsRetire_fenceI : ∃ (f : FieldId) (t : ThreadId) (s : State), s.mayRun f.val t.val = true :=
  ⟨0, 0, runWith [],
    by decide +kernel⟩

theorem witness_InstructionsRetire_fence : ∃ (f : FieldId) (t : ThreadId) (pred : BitVec 4) (succ : BitVec 4) (s :
      State), s.mayRun f.val t.val = true :=
  ⟨0, 0, 15#4, 15#4, runWith [],
    by decide +kernel⟩

theorem witness_InstructionsRetire_xtPause : ∃ (f : FieldId) (t : ThreadId) (a : XtArgs) (s : State), s.mayRun f.val
      t.val = true ∧ a.rd.val = 0 ∧ a.rs2.val = 0 ∧ a.rs3.val = 0 ∧ a.aq = false ∧ a.rl = false :=
  ⟨0, 0, ⟨0, 5, 0, 0, false, false⟩, runWith [(5, 9#64)],
    by decide +kernel⟩

theorem witness_InstructionsRetire_pauseExpire : ∃ (f : FieldId) (t : ThreadId) (s : State), s.fieldRuns f.val = true
      ∧ (s.thread f.val t.val).st = .paused :=
  ⟨0, 0, onCrofters (fun c => { c with threads := [(0, { runThread with st := .paused, pause := 9 })] }) up,
    by decide +kernel⟩

theorem witness_InstructionsRetire_xtExit : ∃ (f : FieldId) (t : ThreadId) (a : XtArgs) (s : State), s.mayRun f.val
      t.val = true ∧ a.rd.val = 0 ∧ a.rs2.val = 0 ∧ a.rs3.val = 0 ∧ a.aq = false ∧ a.rl = false :=
  ⟨0, 0, ⟨0, 5, 0, 0, false, false⟩, runWith [(5, 9#64)],
    by decide +kernel⟩

theorem witness_InstructionsRetire_xtBell : ∃ (f : FieldId) (t : ThreadId) (a : XtArgs) (s : State), s.mayRun f.val
      t.val = true ∧ a.rd.val = 0 ∧ a.rs1.val = 0 ∧ a.rs2.val = 0 ∧ a.rs3.val = 0 ∧ a.aq = false ∧
  a.rl = false :=
  ⟨0, 0, ⟨0, 0, 0, 0, false, false⟩, runWith [],
    by decide +kernel⟩

theorem witness_InstructionsRetire_xtKill : ∃ (f : FieldId) (t : ThreadId) (a : XtArgs) (s : State), s.mayRun f.val
      t.val = true ∧ (s.thread f.val t.val).priv = .m ∧ a.rd.val = 0 ∧ a.rs2.val = 0 ∧ a.rs3.val = 0 ∧ a.aq = false ∧
  a.rl = false :=
  ⟨0, 0, ⟨0, 5, 0, 0, false, false⟩, runWith [],
    by decide +kernel⟩

theorem witness_TallyInstructions_xtTread : ∃ (f : FieldId) (t : ThreadId) (a : XtArgs) (k : Nat) (s : State),
      a.rs2.val = 0 ∧ a.rs3.val = 0 ∧ (a.rl && s.unperformed f.val t.val) = false ∧ s.tallyReady f.val t.val
      ((s.thread f.val t.val).xr a.rs1) 1 k false = true :=
  ⟨0, 0, ⟨7, 5, 0, 0, false, false⟩, 5, runWith [(5, slotAddr), (6, 3#64)],
    by decide +kernel⟩

theorem witness_TallyInstructions_xtTadd : ∃ (f : FieldId) (t : ThreadId) (a : XtArgs) (k : Nat) (s : State),
      a.rs3.val = 0 ∧ (a.rl && s.unperformed f.val t.val) = false ∧ s.tallyReady f.val t.val ((s.thread f.val
      t.val).xr a.rs1) 3 k true = true :=
  ⟨0, 0, ⟨7, 5, 6, 0, false, false⟩, 5, runWith [(5, slotAddr), (6, 3#64)],
    by decide +kernel⟩

theorem witness_TallyInstructions_xtTset : ∃ (f : FieldId) (t : ThreadId) (a : XtArgs) (k : Nat) (s : State),
      a.rs3.val = 0 ∧ (a.rl && s.unperformed f.val t.val) = false ∧ s.tallyReady f.val t.val ((s.thread f.val
      t.val).xr a.rs1) 3 k true = true :=
  ⟨0, 0, ⟨7, 5, 6, 0, false, false⟩, 5, runWith [(5, slotAddr), (6, 3#64)],
    by decide +kernel⟩

theorem witness_TallyInstructions_xtTcas : ∃ (f : FieldId) (t : ThreadId) (a : XtArgs) (k : Nat) (s : State),
      s.unperformed f.val t.val = false ∧ s.tallyReady f.val t.val ((s.thread f.val t.val).xr a.rs1) 3 k true = true
      :=
  ⟨0, 0, ⟨7, 5, 6, 8, false, false⟩, 5, runWith [(5, slotAddr), (6, 3#64)],
    by decide +kernel⟩

theorem witness_TallyInstructions_xtTwait : ∃ (f : FieldId) (t : ThreadId) (a : XtArgs) (k : Nat) (s : State),
      a.rs3.val = 0 ∧ (a.rl && s.unperformed f.val t.val) = false ∧ s.tallyReady f.val t.val ((s.thread f.val
      t.val).xr a.rs1) 1 k true = true :=
  ⟨0, 0, ⟨7, 5, 6, 0, false, false⟩, 5, runWith [(5, slotAddr), (6, 3#64)],
    by decide +kernel⟩

theorem witness_TallyInstructions_xtTarm : ∃ (f : FieldId) (t : ThreadId) (a : XtArgs) (k : Nat) (s : State),
      a.rs3.val = 0 ∧ (a.rl && s.unperformed f.val t.val) = false ∧ (s.tally k).count < bits ((s.thread f.val
      t.val).xr a.rs2) 0 48 ∧ s.noRoom k false = false ∧
  s.tallies.waiters.any (fun x => x.tally == k && x.kind.isArm) = false ∧ s.tallyReady f.val t.val ((s.thread f.val
      t.val).xr a.rs1) 3 k true = true :=
  ⟨0, 0, ⟨7, 5, 6, 0, false, false⟩, 5, runWith [(5, slotAddr), (6, 3#64)],
    by decide +kernel⟩

theorem witness_TallyInstructions_xtTchain : ∃ (f : FieldId) (t : ThreadId) (a : XtArgs) (k : Nat) (desc : List Byte)
      (s : State), s.unperformed f.val t.val = false ∧ s.eaBad f.val t.val ((s.thread f.val t.val).xr a.rs3) 64 1 =
      false ∧
  s.readDesc f.val ((s.thread f.val t.val).xr a.rs3).toNat = (s, .ok desc) ∧ desc.length = 64 ∧
  (s.tally k).count < bits ((s.thread f.val t.val).xr a.rs2) 0 48 ∧ s.noRoom k true = false ∧
  s.tallyReady f.val t.val ((s.thread f.val t.val).xr a.rs1) 3 k true = true :=
  ⟨0, 0, ⟨7, 5, 6, 8, false, false⟩, 5, sieveDesc, descState,
    by decide +kernel⟩

theorem witness_TallyInstructions_xtIssue : ∃ (f : FieldId) (t : ThreadId) (a : XtArgs) (desc : List Byte) (s :
      State), s.mayRun f.val t.val = true ∧ a.rs2.val = 0 ∧ a.rs3.val = 0 ∧ a.aq = false ∧ a.rl = false ∧
  s.unperformed f.val t.val = false ∧ s.eaBad f.val t.val ((s.thread f.val t.val).xr a.rs1) 64 1 = false ∧
  s.readDesc f.val ((s.thread f.val t.val).xr a.rs1).toNat = (s, .ok desc) ∧ (descTarget s f.val desc).1 = s.ownWafer
      ∧
  (descTarget s f.val desc).2 < 80 :=
  ⟨0, 0, ⟨7, 8, 0, 0, false, false⟩, sieveDesc, descState,
    by decide +kernel⟩

theorem witness_TallyInstructions_xtIssueW : ∃ (f : FieldId) (t : ThreadId) (a : XtArgs) (desc : List Byte) (s :
      State), s.mayRun f.val t.val = true ∧ a.rs2.val = 0 ∧ a.rs3.val = 0 ∧ a.aq = false ∧ a.rl = false ∧
  s.unperformed f.val t.val = false ∧ s.eaBad f.val t.val ((s.thread f.val t.val).xr a.rs1) 64 1 = false ∧
  s.readDesc f.val ((s.thread f.val t.val).xr a.rs1).toNat = (s, .ok desc) ∧ (descTarget s f.val desc).1 = s.ownWafer
      ∧
  (descTarget s f.val desc).2 < 80 :=
  ⟨0, 0, ⟨7, 8, 0, 0, false, false⟩, sieveDesc, descState,
    by decide +kernel⟩

theorem witness_TallyInstructions_taskEnqueue : ∃ (ref : IssueRef) (id : Nat) (r : IssueReq) (u : Nat) (s : State),
      ref = .own id ∧ s.crofters.issues.find? (fun r => decide (r.id = id) && r.status.isNone) = some r ∧
  (descTarget s r.field r.desc).1 = s.ownWafer ∧ s.stopped (descTarget s r.field r.desc).2 = false ∧
  s.halted = false ∧
  s.enqueueReady (descTarget s r.field r.desc).2 r.desc (s.engineSource r.field r.parish 6) u = true :=
  ⟨.own 4, 4, issueOpen, 16, onCrofters (fun c => { c with issues := [issueOpen] }) up,
    by decide +kernel⟩

theorem witness_TallyInstructions_issueStatusReturn : ∃ (id : Nat) (remote : BitVec 32) (r : IssueReq) (code : Nat)
      (s : State), s.crofters.issues.find? (fun r => decide (r.id = id)) = some r ∧ s.stopped r.field = false ∧
      s.halted = false ∧
  (if s.issueLocal r then r.status else some remote.toNat) = some code ∧ (r.wait && decide (code % 256 = issueFull))
      = false :=
  ⟨4, 0#32, { issueOpen with status := some 0 }, 0, onCrofters (fun c =>
      { c with issues := [{ issueOpen with status := some 0 }] }) up,
    by decide +kernel⟩

theorem witness_TallyInstructions_issueWRetry : ∃ (id : Nat) (r : IssueReq) (code u : Nat) (s : State),
      s.crofters.issues.find? (fun r => decide (r.id = id)) = some r ∧ r.wait = true ∧ s.stopped r.field = false ∧
  s.halted = false ∧ r.status = some code ∧ code % 256 = issueFull ∧ s.issueLocal r = true ∧
  s.stopped (descTarget s r.field r.desc).2 = false ∧
  s.enqueueReady (descTarget s r.field r.desc).2 r.desc (s.engineSource r.field r.parish 6) u = true :=
  ⟨4, { issueOpen with status := some 1, wait := true }, 1, 16, onCrofters (fun c =>
      { c with issues := [{ issueOpen with status := some 1, wait := true }] }) up,
    by decide +kernel⟩

theorem witness_ParishesAndRings_parishFieldsWrite : ∃ (p : ParishId) (hi : Bool) (v : Word) (s : State), s.parishOn
      p.val = false ∧ s.setConflict p.val (if hi then bits v 0 16 * 2 ^ 64 else v.toNat) = false :=
  ⟨1, false, 3#64, up,
    by decide +kernel⟩

theorem witness_ParishesAndRings_parishFieldsWriteConflict : ∃ (p : ParishId) (hi : Bool) (v : Word) (s : State),
      s.parishOn p.val = false ∧ s.setConflict p.val (if hi then bits v 0 16 * 2 ^ 64 else v.toNat) = true :=
  ⟨2, false, 3#64, ringUp,
    by decide +kernel⟩

theorem witness_ParishesAndRings_parishEnable : ∃ (p : ParishId) (s : State), s.parishOn p.val = false ∧ s.flag
      RF.RVE_LIFECYCLE_OUT_OF_SERVICE 0 0 = false ∧
  s.setConflict p.val (s.parishMask p.val) = false :=
  ⟨1, up.setF RF.WFR_PAR_FIELDS_LO_FIELDS 1 0 3,
    by decide +kernel⟩

theorem witness_ParishesAndRings_parishUnblock : ∃ (p : ParishId) (s : State), s.parishEffective p.val = true :=
  ⟨1, ringUp,
    by decide +kernel⟩

theorem witness_ParishesAndRings_parishCancel : ∃ (p : ParishId) (s : State), s.flag RF.WFR_PAR_CANCEL_BUSY p.val 0 =
      false :=
  ⟨1, ringUp,
    by decide +kernel⟩

theorem witness_ParishesAndRings_parishDisable : ∃ (p : ParishId) (s : State), s.flag RF.WFR_PAR_CTL_ENABLE p.val 0 =
      true :=
  ⟨1, ringUp,
    by decide +kernel⟩

theorem witness_ParishesAndRings_parishCancelDone : ∃ (p : ParishId) (s : State), s.flag RF.WFR_PAR_CANCEL_BUSY p.val
      0 = true ∧ s.seq.sheaves.any (fun x => decide (x.parish = p.val)) = false :=
  ⟨1, ringUp.setFlag RF.WFR_PAR_CANCEL_BUSY 1 0 true,
    by decide +kernel⟩

theorem witness_ParishesAndRings_ringDoorbell : ∃ (p : ParishId) (r : RingId) (v : BitVec 16) (s : State), s.h0Frozen
      = false ∧ s.host.flr.contains (p.val + 1) = false ∧ s.boot.stage = .ready ∧ s.stopped 4 = false ∧
  s.halted = false :=
  ⟨1, 2, 40#16, ringUp,
    by decide +kernel⟩

theorem witness_ParishesAndRings_ringEnable : ∃ (p : ParishId) (r : RingId) (v : Word) (s : State), s.flag
      RF.WFR_RINGr_CTL_ENABLE p.val r.val = false ∧ bit v 0 = true :=
  ⟨1, 2, 0x50005#64, up,
    by decide +kernel⟩

theorem witness_ParishesAndRings_ringDisable : ∃ (p : ParishId) (r : RingId) (s : State), s.flag
      RF.WFR_RINGr_CTL_ENABLE p.val r.val = true :=
  ⟨1, 2, ringUp,
    by decide +kernel⟩

theorem witness_SheavesRunToTheirReceipts_sheafFetch : ∃ (p : ParishId) (r : RingId) (hostData : List Byte)
      (hostStatus : AccStatusCode) (s : State), hostData.length = 128 ∧ s.canFetch p.val r.val = true ∧ s.flag
      RF.WFR_RINGr_CTL_LOC p.val r.val = false ∧
  s.fnOn (p.val + 1) = true ∧ AccStatus.ofCode hostStatus.toNat = .ok ∧ s.getF RF.WFR_RINGr_CTL_SIZE p.val r.val ≤ 12
      :=
  ⟨1, 2, copyRaw, 0#4, ringUp,
    by decide +kernel⟩

theorem witness_SheavesRunToTheirReceipts_depWaitRetry : ∃ (serial : Nat) (d : Fin 4) (x : Sheaf) (g off : Nat) (tx :
      TxId) (s : State), s.sheaf? serial = some x ∧ s.seqActive = true ∧ x.depsRefused.contains d.val = true ∧
      x.phase = .waiting ∧
  s.locate (s.parishSource x.parish) (x.depTally d.val) 8 false false = .at g 3 off ∧ off < 0x40000 ∧
  (s.tally (tallyKey g (off / 64))).count < x.depThreshold d.val ∧ s.noRoom (tallyKey g (off / 64)) false = false ∧
  tx = ⟨4, BitVec.ofNat 16 (s.tallies.nextTx.look 0 4)⟩ ∧
  (g ≠ 4 → s.dupResult g (some tx) = none ∧ s.entries.any (fun y => y.tx == some tx) = false) :=
  ⟨7, 0, refusedSheaf, 0, 320, ⟨4, 0#16⟩, onSequencer (fun q => { q with sheaves := [refusedSheaf] }) ringUp,
    by decide +kernel⟩

theorem witness_SheavesRunToTheirReceipts_depSatisfied : ∃  (serial d : Nat) (w : Word) (l : List (Nat × Nat × Word))
      (x : Sheaf) (s : State), s.seq.depReturns = (serial, d, w) :: l ∧ s.seqActive = true ∧ s.sheaf? serial = some x
      ∧ x.phase = .waiting ∧
  bit w 61 = false ∧ bit w 62 = false ∧ bit w 63 = false ∧ (bit w 48 && x.depErrFails d) = false :=
  ⟨7, 0, 5#64, [], refusedSheaf, onSequencer (fun q =>
      { q with sheaves := [refusedSheaf], depReturns := [(7, 0, 5#64)] }) ringUp,
    by decide +kernel⟩

theorem witness_SheavesRunToTheirReceipts_sheafDispatch : ∃  (p r used : Nat) (x : Sheaf) (s : State), s.seqActive =
      true ∧ s.getF RF.PWR_MOD_STAT_STATE 0 0 = 0 ∧ s.pickNext = some (p, r, used) ∧
  s.ringHead p r = some x ∧ s.seq.sheaves.any (fun x => decide (x.phase = .waiting ∧ x.kind = 0) &&
    decide (x.depsMet.length = x.depCount) && s.sleeping x.setMask) = false :=
  ⟨1, 2, 1, copySheaf, onSequencer (fun q => { q with sheaves := [copySheaf] }) ringUp,
    by decide +kernel⟩

theorem witness_SheavesRunToTheirReceipts_copyBurstAck : ∃ (serial : Nat) (x : Sheaf) (n : Nat) (data : List Byte)
      (s1 s2 : State) (s : State), s.sheaf? serial = some x ∧ s.seqActive = true ∧ x.phase = .dispatched ∧ x.kind = 1
      ∧
  n = min (min (4096 - (x.addrA + x.moved) % 4096) (4096 - (x.addrB + x.moved) % 4096)) (x.count - x.moved) ∧
  s.bulkRead (s.parishSource x.parish) (x.addrA + x.moved) n = (s1, ⟨data, none⟩) ∧
  s1.bulkWrite (s.parishSource x.parish) (x.addrB + x.moved) data = (s2, none) :=
  ⟨7, { copySheaf with phase := .dispatched }, 64, List.replicate 64 0#8, copyState, copyState, copyState,
    by decide +kernel⟩

theorem witness_SheavesRunToTheirReceipts_sendBurstAck : ∃ (serial : Nat) (result : Fin 4) (x : Sheaf) (n : Nat) (s :
      State), s.sheaf? serial = some x ∧ s.seqActive = true ∧ x.phase = .dispatched ∧ x.kind = 2 ∧
  n = min (4096 - (x.addrA + x.moved) % 4096) (x.count - x.moved) ∧ (result.val = 0 → x.moved + n = x.count) ∧
  x.fail = none :=
  ⟨7, 0, sendSheaf, 64, onSequencer (fun q => { q with sheaves := [sendSheaf] }) ringUp,
    by decide +kernel⟩

theorem witness_SheavesRunToTheirReceipts_sendReceive : ∃ (m : MusterId) (rack : BitVec 7) (wafer : WaferId) (serial
      : BitVec 64) (offset : BitVec 57) (data : List Byte) (last : Bool) (s1 : State) (s : State), s.musterState
      m.val = 2 ∧ s.getF RF.WFR_MUSm_CTL_KIND 0 m.val = 1 ∧
  offset.toNat + data.length ≤ 2 ^ (s.getF RF.WFR_MUSm_RX_RX_SIZE 0 m.val + 20) ∧
  s.bulkWrite (s.parishSource (s.getF RF.WFR_MUSm_CTL_PARISH 0 m.val))
    (s.getF RF.WFR_MUSm_RX_RX_BASE 0 m.val * 4096 + offset.toNat) data = (s1, none) :=
  ⟨3, 1#7, 2, 5#64, 0#57, [], false, musterUp, musterUp,
    by decide +kernel⟩

theorem witness_SheavesRunToTheirReceipts_sheafComplete : ∃ (serial : Nat) (x : Sheaf) (s : State), s.sheaf? serial =
      some x ∧ s.canComplete x = true ∧ x.fatal = false ∧
  s.flag RF.WFR_RINGr_CTL_LOC x.parish x.ring = false ∧ s.fnOn (x.parish + 1) = true ∧
  s.getF RF.WFR_RINGr_CTL_SIZE x.parish x.ring ≤ 12 :=
  ⟨7, { copySheaf with phase := .ending }, onSequencer (fun q =>
      { q with sheaves := [{ copySheaf with phase := .ending }] }) ringUp,
    by decide +kernel⟩

theorem witness_MustersFormAndAbort_musterGo : ∃ (m : MusterId) (v : Word) (s : State), s.musterState m.val = 0 ∧
      bits v 0 16 ≠ 0 ∧ bit v 22 = true ∧ s.seq.sheaves = [] ∧
  (List.range 64).any (fun k => decide (k ≠ m.val) && decide (s.musterState k ≠ 0) &&
    decide (s.getF RF.WFR_MUSm_CTL_HANDLE 0 k = bits v 0 16)) = false :=
  ⟨3, 0x420005#64, ringUp,
    by decide +kernel⟩

theorem witness_MustersFormAndAbort_musterFree : ∃ (m : MusterId) (s : State), s.musterState m.val ≠ 0 :=
  ⟨3, musterUp,
    by decide +kernel⟩

theorem witness_MustersFormAndAbort_musterOfferReceive : ∃ (rack : BitVec 7) (wafer : WaferId) (epoch : BitVec 16)
      (handle : BitVec 16) (index : BitVec 11) (digest : Word) (m : Nat) (e : Muster) (k : MusterMember) (s : State),
      (List.range 64).find? (fun m => decide (s.musterState m = 1) &&
    decide (s.getF RF.WFR_MUSm_CTL_HANDLE 0 m = handle.toNat)) = some m ∧ s.muster m = some e ∧
  e.members[index.toNat]? = some k ∧ k.wafer = wafer.val ∧ k.rack = rack.toNat ∧ index.toNat ≠ e.self ∧
  s.flag RF.FAB_EPOCHn_VALID 0 wafer.val = false ∧ digest.toNat = e.digest ∧ e.digest ≠ 0 ∧
  e.offers.all (fun o => o.2 == e.digest) = true :=
  ⟨0#7, 2, 0#16, 9#16, 1#11, 77#64, 3, formingEntry, ⟨5, 0, 2, 1⟩, musterForming,
    by decide +kernel⟩

theorem witness_MustersFormAndAbort_musterOfferRepeat : ∃ (m : MusterId) (e : Muster) (s : State), s.musterState
      m.val = 1 ∧ s.stopped 4 = false ∧ s.muster m.val = some e :=
  ⟨3, formingEntry, musterForming,
    by decide +kernel⟩

theorem witness_MustersFormAndAbort_musterFormTimeout : ∃ (m : MusterId) (e : Muster) (s : State), s.musterState
      m.val = 1 ∧ s.muster m.val = some e ∧ s.seq.sheaves = [] :=
  ⟨3, formingEntry, musterForming,
    by decide +kernel⟩

theorem witness_MustersFormAndAbort_abortReceive : ∃ (handle : BitVec 16) (wafer : WaferId) (rack : BitVec 7) (status
      : BitVec 8) (epoch : BitVec 16) (wave : BitVec 32) (m : Nat) (e : Muster) (s : State), (List.range 64).find?
      (fun m => decide (s.musterState m ≠ 0) &&
    decide (s.getF RF.WFR_MUSm_CTL_HANDLE 0 m = handle.toNat)) = some m ∧ s.muster m = some e ∧
  e.waves.contains (wafer.val + 16 * rack.toNat, wave.toNat) = false ∧
  (s.musterState m = 1 ∨ s.musterState m = 2) ∧ s.seq.sheaves = [] :=
  ⟨9#16, 2, 0#7, 5#8, 0#16, 1#32, 3, formingEntry, musterForming,
    by decide +kernel⟩

theorem witness_QuernTasksStartAndComplete_qrnNop : ∃ (f : FieldId) (q : Fin 9) (cycles : Nat) (h : EngTask) (rest :
      List EngTask) (s : State), s.qMayStart f.val q.val (fun op => decide (op = qopNop)) = true ∧ (s.engine f.val
      q.val).running = [] ∧
  (s.engine f.val q.val).queue = h :: rest :=
  ⟨0, 2, 9, task 0, [], queued 2 0,
    by decide +kernel⟩

theorem witness_QuernTasksStartAndComplete_qrnMatmul : ∃ (f : FieldId) (q : Fin 9) (h : EngTask) (rest : List
      EngTask) (s : State), s.qMayStart f.val q.val (fun op => !decide (op ∈ [qopNop, qopCplx, qopWide, qopLane])) =
      true ∧
  (s.engine f.val q.val).queue = h :: rest ∧ h.status = none :=
  ⟨0, 2, task qopMatmul, [], queued 2 qopMatmul,
    by decide +kernel⟩

theorem witness_QuernTasksStartAndComplete_qrnMatmulCplx : ∃ (f : FieldId) (q : Fin 9) (h : EngTask) (rest : List
      EngTask) (s : State), s.qMayStart f.val q.val (fun op => decide (op = qopCplx)) = true ∧
  (s.engine f.val q.val).queue = h :: rest ∧ h.status = none :=
  ⟨0, 2, task qopCplx, [], queued 2 qopCplx,
    by decide +kernel⟩

theorem witness_QuernTasksStartAndComplete_qrnMatmulWide : ∃ (f : FieldId) (q : Fin 9) (h : EngTask) (rest : List
      EngTask) (s : State), s.qMayStart f.val q.val (fun op => decide (op = qopWide)) = true ∧
  (s.engine f.val q.val).queue = h :: rest ∧ h.status = none :=
  ⟨0, 2, task qopWide, [], queued 2 qopWide,
    by decide +kernel⟩

theorem witness_QuernTasksStartAndComplete_qrnLaneMv : ∃ (f : FieldId) (q : Fin 9) (h : EngTask) (rest : List
      EngTask) (s : State), s.qMayStart f.val q.val (fun op => decide (op = qopLane)) = true ∧
  (s.engine f.val q.val).queue = h :: rest ∧ h.status = none :=
  ⟨0, 2, task qopLane, [], queued 2 qopLane,
    by decide +kernel⟩

theorem witness_QuernTasksStartAndComplete_arrayHoldExit : ∃ (f : FieldId) (q : Fin 9) (col : Bool) (index : Fin 256)
      (length : Nat) (s : State), s.unitRuns f.val q.val = true ∧ (s.engine f.val q.val).running ≠ [] :=
  ⟨0, 2, true, 200, 300, running 2 1 none,
    by decide +kernel⟩

theorem witness_QuernTasksStartAndComplete_qrnHoldWindow : ∃ (f : FieldId) (q : Fin 9) (s : State), (s.engine f.val
      q.val).holdWindow = s.now / 100000 ∧
  s.getF RF.QRN_HOLD_THRESH_THRESH (f.val * 9 + q.val) 0 < (s.engine f.val q.val).holdCycles :=
  ⟨0, 2, up.modEngine 0 2 (fun e => { e with holdCycles := 100000000 }),
    by decide +kernel⟩

theorem witness_QuernTasksStartAndComplete_qrnTaskComplete : ∃ (f : FieldId) (q : Fin 9) (cycles : Nat) (rows : Nat)
      (cols : Nat) (t : EngTask) (rest : List EngTask) (st : Nat) (s : State), s.unitRuns f.val q.val = true ∧
      (s.engine f.val q.val).running = t :: rest ∧ t.status = some st :=
  ⟨0, 2, 9, 2, 3, { task 1 with status := some 0 }, [], 0, running 2 1 (some 0),
    by decide +kernel⟩

theorem witness_SieveTasksStartAndComplete_sivNopTask : ∃ (f : FieldId) (n : Fin 2) (cycles : Nat) (h : EngTask)
      (rest : List EngTask) (s : State), s.sMayStart f.val n.val (fun op => decide (op = 0)) = true ∧ (s.engine f.val
      (unitSieve n.val)).queue = h :: rest :=
  ⟨0, 0, 9, task 0, [], queued 16 0,
    by decide +kernel⟩

theorem witness_SieveTasksStartAndComplete_sivRun : ∃ (f : FieldId) (n : Fin 2) (h : EngTask) (rest : List EngTask)
      (slot : Nat) (s : State), s.sMayStart f.val n.val (fun op => decide (op = 1)) = true ∧ (s.engine f.val
      (unitSieve n.val)).queue = h :: rest ∧
  ((s.pruneCtxs f.val n.val).sieve f.val n.val).freeSlot (sTileBase h.desc) (sTileCount h.desc) = some slot :=
  ⟨0, 0, task 1, [], 0, queued 16 1,
    by decide +kernel⟩

theorem witness_SieveTasksStartAndComplete_sivTableImage : ∃ (f : FieldId) (n : Fin 2) (h : EngTask) (rest : List
      EngTask) (s : State), s.sMayStart f.val n.val (fun op => decide (op = 2)) = true ∧ (s.engine f.val (unitSieve
      n.val)).queue = h :: rest ∧
  (s.engine f.val (unitSieve n.val)).running = [] ∧ sReservedOk h.desc = true ∧ h.status = none :=
  ⟨0, 0, task 2, [], queued 16 2,
    by decide +kernel⟩

theorem witness_SieveTasksStartAndComplete_sivTableLoad : ∃ (f : FieldId) (n : Fin 2) (h : EngTask) (rest : List
      EngTask) (s : State), s.sMayStart f.val n.val (fun op => decide (op = 3)) = true ∧ (s.engine f.val (unitSieve
      n.val)).queue = h :: rest ∧
  (s.engine f.val (unitSieve n.val)).running = [] :=
  ⟨0, 0, task 3, [], queued 16 3,
    by decide +kernel⟩

theorem witness_SieveTasksStartAndComplete_sivTaskComplete : ∃ (f : FieldId) (n : Fin 2) (slot : Fin 8) (cycles :
      Nat) (idle : Nat) (c : SieveCtx) (t : EngTask) (s : State), (s.sieve f.val n.val).ctx slot.val = some c ∧
      s.unitRuns f.val (unitSieve n.val) = true ∧
  s.sEnded f.val n.val c = some t :=
  ⟨0, 0, 3, 9, 4, { sieveCtx 0 with iter := 1 }, sieveTask, (sieveAt 0).modSieve 0 0 (fun x =>
      { x with ctxs := [{ sieveCtx 0 with iter := 1 }] }),
    by decide +kernel⟩

theorem witness_SieveArithmeticWritesItsTile_sivAdd : ∃ (f : FieldId) (n : Fin 2) (slot : Fin 8) (c : SieveCtx) (t :
      EngTask) (w : Nat) (s : State), s.sieveIssues f.val n.val slot.val 0x08 c t w = true :=
  ⟨0, 0, 3, sieveCtx (sieveWord 0x08 0), sieveTask, sieveWord 0x08 0, sieveAt (sieveWord 0x08 0),
    by decide +kernel⟩

theorem witness_SieveArithmeticWritesItsTile_sivSub : ∃ (f : FieldId) (n : Fin 2) (slot : Fin 8) (c : SieveCtx) (t :
      EngTask) (w : Nat) (s : State), s.sieveIssues f.val n.val slot.val 0x09 c t w = true :=
  ⟨0, 0, 3, sieveCtx (sieveWord 0x09 0), sieveTask, sieveWord 0x09 0, sieveAt (sieveWord 0x09 0),
    by decide +kernel⟩

theorem witness_SieveArithmeticWritesItsTile_sivMul : ∃ (f : FieldId) (n : Fin 2) (slot : Fin 8) (c : SieveCtx) (t :
      EngTask) (w : Nat) (s : State), s.sieveIssues f.val n.val slot.val 0x0A c t w = true :=
  ⟨0, 0, 3, sieveCtx (sieveWord 0x0A 0), sieveTask, sieveWord 0x0A 0, sieveAt (sieveWord 0x0A 0),
    by decide +kernel⟩

theorem witness_SieveArithmeticWritesItsTile_sivFma : ∃ (f : FieldId) (n : Fin 2) (slot : Fin 8) (c : SieveCtx) (t :
      EngTask) (w : Nat) (s : State), s.sieveIssues f.val n.val slot.val 0x0B c t w = true :=
  ⟨0, 0, 3, sieveCtx (sieveWord 0x0B 0), sieveTask, sieveWord 0x0B 0, sieveAt (sieveWord 0x0B 0),
    by decide +kernel⟩

theorem witness_SieveArithmeticWritesItsTile_sivMax : ∃ (f : FieldId) (n : Fin 2) (slot : Fin 8) (c : SieveCtx) (t :
      EngTask) (w : Nat) (s : State), s.sieveIssues f.val n.val slot.val 0x0C c t w = true :=
  ⟨0, 0, 3, sieveCtx (sieveWord 0x0C 0), sieveTask, sieveWord 0x0C 0, sieveAt (sieveWord 0x0C 0),
    by decide +kernel⟩

theorem witness_SieveArithmeticWritesItsTile_sivMin : ∃ (f : FieldId) (n : Fin 2) (slot : Fin 8) (c : SieveCtx) (t :
      EngTask) (w : Nat) (s : State), s.sieveIssues f.val n.val slot.val 0x0D c t w = true :=
  ⟨0, 0, 3, sieveCtx (sieveWord 0x0D 0), sieveTask, sieveWord 0x0D 0, sieveAt (sieveWord 0x0D 0),
    by decide +kernel⟩

theorem witness_SieveArithmeticWritesItsTile_sivAbs : ∃ (f : FieldId) (n : Fin 2) (slot : Fin 8) (c : SieveCtx) (t :
      EngTask) (w : Nat) (s : State), s.sieveIssues f.val n.val slot.val 0x0E c t w = true :=
  ⟨0, 0, 3, sieveCtx (sieveWord 0x0E 0), sieveTask, sieveWord 0x0E 0, sieveAt (sieveWord 0x0E 0),
    by decide +kernel⟩

theorem witness_SieveArithmeticWritesItsTile_sivNeg : ∃ (f : FieldId) (n : Fin 2) (slot : Fin 8) (c : SieveCtx) (t :
      EngTask) (w : Nat) (s : State), s.sieveIssues f.val n.val slot.val 0x0F c t w = true :=
  ⟨0, 0, 3, sieveCtx (sieveWord 0x0F 0), sieveTask, sieveWord 0x0F 0, sieveAt (sieveWord 0x0F 0),
    by decide +kernel⟩

theorem witness_SieveArithmeticWritesItsTile_sivRcp : ∃ (f : FieldId) (n : Fin 2) (slot : Fin 8) (c : SieveCtx) (t :
      EngTask) (w : Nat) (s : State), s.sieveIssues f.val n.val slot.val 0x10 c t w = true :=
  ⟨0, 0, 3, sieveCtx (sieveWord 0x10 0), sieveTask, sieveWord 0x10 0, sieveAt (sieveWord 0x10 0),
    by decide +kernel⟩

theorem witness_SieveArithmeticWritesItsTile_sivDiv : ∃ (f : FieldId) (n : Fin 2) (slot : Fin 8) (c : SieveCtx) (t :
      EngTask) (w : Nat) (s : State), s.sieveIssues f.val n.val slot.val 0x11 c t w = true :=
  ⟨0, 0, 3, sieveCtx (sieveWord 0x11 0), sieveTask, sieveWord 0x11 0, sieveAt (sieveWord 0x11 0),
    by decide +kernel⟩

theorem witness_SieveArithmeticWritesItsTile_sivSqrt : ∃ (f : FieldId) (n : Fin 2) (slot : Fin 8) (c : SieveCtx) (t :
      EngTask) (w : Nat) (s : State), s.sieveIssues f.val n.val slot.val 0x12 c t w = true :=
  ⟨0, 0, 3, sieveCtx (sieveWord 0x12 0), sieveTask, sieveWord 0x12 0, sieveAt (sieveWord 0x12 0),
    by decide +kernel⟩

theorem witness_SieveLogicWritesItsTile_sivCmplt : ∃ (f : FieldId) (n : Fin 2) (slot : Fin 8) (c : SieveCtx) (t :
      EngTask) (w : Nat) (s : State), s.sieveIssues f.val n.val slot.val 0x18 c t w = true :=
  ⟨0, 0, 3, sieveCtx (sieveWord 0x18 0), sieveTask, sieveWord 0x18 0, sieveAt (sieveWord 0x18 0),
    by decide +kernel⟩

theorem witness_SieveLogicWritesItsTile_sivCmple : ∃ (f : FieldId) (n : Fin 2) (slot : Fin 8) (c : SieveCtx) (t :
      EngTask) (w : Nat) (s : State), s.sieveIssues f.val n.val slot.val 0x19 c t w = true :=
  ⟨0, 0, 3, sieveCtx (sieveWord 0x19 0), sieveTask, sieveWord 0x19 0, sieveAt (sieveWord 0x19 0),
    by decide +kernel⟩

theorem witness_SieveLogicWritesItsTile_sivCmpeq : ∃ (f : FieldId) (n : Fin 2) (slot : Fin 8) (c : SieveCtx) (t :
      EngTask) (w : Nat) (s : State), s.sieveIssues f.val n.val slot.val 0x1A c t w = true :=
  ⟨0, 0, 3, sieveCtx (sieveWord 0x1A 0), sieveTask, sieveWord 0x1A 0, sieveAt (sieveWord 0x1A 0),
    by decide +kernel⟩

theorem witness_SieveLogicWritesItsTile_sivSelect : ∃ (f : FieldId) (n : Fin 2) (slot : Fin 8) (c : SieveCtx) (t :
      EngTask) (w : Nat) (s : State), s.sieveIssues f.val n.val slot.val 0x1B c t w = true :=
  ⟨0, 0, 3, sieveCtx (sieveWord 0x1B 0), sieveTask, sieveWord 0x1B 0, sieveAt (sieveWord 0x1B 0),
    by decide +kernel⟩

theorem witness_SieveLogicWritesItsTile_sivAnd : ∃ (f : FieldId) (n : Fin 2) (slot : Fin 8) (c : SieveCtx) (t :
      EngTask) (w : Nat) (s : State), s.sieveIssues f.val n.val slot.val 0x20 c t w = true :=
  ⟨0, 0, 3, sieveCtx (sieveWord 0x20 3), sieveTask, sieveWord 0x20 3, sieveAt (sieveWord 0x20 3),
    by decide +kernel⟩

theorem witness_SieveLogicWritesItsTile_sivOr : ∃ (f : FieldId) (n : Fin 2) (slot : Fin 8) (c : SieveCtx) (t :
      EngTask) (w : Nat) (s : State), s.sieveIssues f.val n.val slot.val 0x21 c t w = true :=
  ⟨0, 0, 3, sieveCtx (sieveWord 0x21 3), sieveTask, sieveWord 0x21 3, sieveAt (sieveWord 0x21 3),
    by decide +kernel⟩

theorem witness_SieveLogicWritesItsTile_sivXor : ∃ (f : FieldId) (n : Fin 2) (slot : Fin 8) (c : SieveCtx) (t :
      EngTask) (w : Nat) (s : State), s.sieveIssues f.val n.val slot.val 0x22 c t w = true :=
  ⟨0, 0, 3, sieveCtx (sieveWord 0x22 3), sieveTask, sieveWord 0x22 3, sieveAt (sieveWord 0x22 3),
    by decide +kernel⟩

theorem witness_SieveLogicWritesItsTile_sivShl : ∃ (f : FieldId) (n : Fin 2) (slot : Fin 8) (c : SieveCtx) (t :
      EngTask) (w : Nat) (s : State), s.sieveIssues f.val n.val slot.val 0x23 c t w = true :=
  ⟨0, 0, 3, sieveCtx (sieveWord 0x23 3), sieveTask, sieveWord 0x23 3, sieveAt (sieveWord 0x23 3),
    by decide +kernel⟩

theorem witness_SieveLogicWritesItsTile_sivShra : ∃ (f : FieldId) (n : Fin 2) (slot : Fin 8) (c : SieveCtx) (t :
      EngTask) (w : Nat) (s : State), s.sieveIssues f.val n.val slot.val 0x24 c t w = true :=
  ⟨0, 0, 3, sieveCtx (sieveWord 0x24 3), sieveTask, sieveWord 0x24 3, sieveAt (sieveWord 0x24 3),
    by decide +kernel⟩

theorem witness_SieveLogicWritesItsTile_sivShrl : ∃ (f : FieldId) (n : Fin 2) (slot : Fin 8) (c : SieveCtx) (t :
      EngTask) (w : Nat) (s : State), s.sieveIssues f.val n.val slot.val 0x25 c t w = true :=
  ⟨0, 0, 3, sieveCtx (sieveWord 0x25 3), sieveTask, sieveWord 0x25 3, sieveAt (sieveWord 0x25 3),
    by decide +kernel⟩

theorem witness_SieveMovesAndReductions_sivInstrNop : ∃ (f : FieldId) (n : Fin 2) (slot : Fin 8) (c : SieveCtx) (t :
      EngTask) (w : Nat) (s : State), s.sieveIssues f.val n.val slot.val 0 c t w = true :=
  ⟨0, 0, 3, sieveCtx 0, sieveTask, 0, sieveAt 0,
    by decide +kernel⟩

theorem witness_SieveMovesAndReductions_sivSt : ∃ (f : FieldId) (n : Fin 2) (slot : Fin 8) (c : SieveCtx) (t :
      EngTask) (w : Nat) (s : State), s.sieveIssues f.val n.val slot.val 2 c t w = true :=
  ⟨0, 0, 3, sieveCtx (sieveWord 2 0), sieveTask, sieveWord 2 0, sieveAt (sieveWord 2 0),
    by decide +kernel⟩

theorem witness_SieveMovesAndReductions_sivLd : ∃ (f : FieldId) (n : Fin 2) (slot : Fin 8) (c : SieveCtx) (t :
      EngTask) (w : Nat) (s : State), s.sieveIssues f.val n.val slot.val 1 c t w = true :=
  ⟨0, 0, 3, sieveCtx (sieveWord 1 0), sieveTask, sieveWord 1 0, sieveAt (sieveWord 1 0),
    by decide +kernel⟩

theorem witness_SieveMovesAndReductions_sivLdData : ∃ (f : FieldId) (n : Fin 2) (slot : Fin 8) (tile : Fin 64) (c :
      SieveCtx) (l : SieveLoad) (s : State), (s.sieve f.val n.val).ctx slot.val = some c ∧ c.loads.find? (fun l =>
      l.tile == tile.val) = some l ∧
  s.unitRuns f.val (unitSieve n.val) = true ∧ l.fail = none ∧ l.words.length = 512 :=
  ⟨0, 0, 3, 9, { sieveCtx 0 with loads := [⟨9, List.replicate 512 3, none⟩] }, ⟨9, List.replicate 512 3, none⟩,
      (sieveAt 0).modSieve 0 0 (fun x =>
      { x with ctxs := [{ sieveCtx 0 with loads := [⟨9, List.replicate 512 3, none⟩] }] }),
    by decide +kernel⟩

theorem witness_SieveMovesAndReductions_sivFill : ∃ (f : FieldId) (n : Fin 2) (slot : Fin 8) (c : SieveCtx) (t :
      EngTask) (w : Nat) (s : State), s.sieveIssues f.val n.val slot.val 3 c t w = true :=
  ⟨0, 0, 3, sieveCtx (sieveWord 3 0), sieveTask, sieveWord 3 0, sieveAt (sieveWord 3 0),
    by decide +kernel⟩

theorem witness_SieveMovesAndReductions_sivArg : ∃ (f : FieldId) (n : Fin 2) (slot : Fin 8) (c : SieveCtx) (t :
      EngTask) (w : Nat) (s : State), s.sieveIssues f.val n.val slot.val 4 c t w = true :=
  ⟨0, 0, 3, sieveCtx (sieveWord 4 0), sieveTask, sieveWord 4 0, sieveAt (sieveWord 4 0),
    by decide +kernel⟩

theorem witness_SieveMovesAndReductions_sivCvtn : ∃ (f : FieldId) (n : Fin 2) (slot : Fin 8) (c : SieveCtx) (t :
      EngTask) (w : Nat) (s : State), s.sieveIssues f.val n.val slot.val 0x28 c t w = true :=
  ⟨0, 0, 3, sieveCtx (sieveWord 0x28 1), sieveTask, sieveWord 0x28 1, sieveAt (sieveWord 0x28 1),
    by decide +kernel⟩

theorem witness_SieveMovesAndReductions_sivCvtw : ∃ (f : FieldId) (n : Fin 2) (slot : Fin 8) (c : SieveCtx) (t :
      EngTask) (w : Nat) (s : State), s.sieveIssues f.val n.val slot.val 0x29 c t w = true :=
  ⟨0, 0, 3, sieveCtx (sieveWord 0x29 0), sieveTask, sieveWord 0x29 0, sieveAt (sieveWord 0x29 0),
    by decide +kernel⟩

theorem witness_SieveMovesAndReductions_sivLut : ∃ (f : FieldId) (n : Fin 2) (slot : Fin 8) (c : SieveCtx) (t :
      EngTask) (w : Nat) (s : State), s.sieveIssues f.val n.val slot.val 0x30 c t w = true ∧ s.tableState f.val n.val
      (iTable w) ≠ 0 :=
  ⟨0, 0, 3, sieveCtx (sieveWord 0x30 0), sieveTask, sieveWord 0x30 0, (sieveAt (sieveWord 0x30 0)).setTableState 0 0
      4 3,
    by decide +kernel⟩

theorem witness_SieveMovesAndReductions_sivLutEmpty : ∃ (f : FieldId) (n : Fin 2) (slot : Fin 8) (c : SieveCtx) (t :
      EngTask) (w : Nat) (s : State), s.sieveIssues f.val n.val slot.val 0x30 c t w = true ∧ s.tableState f.val n.val
      (iTable w) = 0 :=
  ⟨0, 0, 3, sieveCtx (sieveWord 0x30 0), sieveTask, sieveWord 0x30 0, sieveAt (sieveWord 0x30 0),
    by decide +kernel⟩

theorem witness_SieveMovesAndReductions_sivRrow : ∃ (f : FieldId) (n : Fin 2) (slot : Fin 8) (c : SieveCtx) (t :
      EngTask) (w : Nat) (s : State), s.sieveIssues f.val n.val slot.val 0x38 c t w = true :=
  ⟨0, 0, 3, sieveCtx (sieveWord 0x38 0), sieveTask, sieveWord 0x38 0, sieveAt (sieveWord 0x38 0),
    by decide +kernel⟩

theorem witness_SieveMovesAndReductions_sivRcol : ∃ (f : FieldId) (n : Fin 2) (slot : Fin 8) (c : SieveCtx) (t :
      EngTask) (w : Nat) (s : State), s.sieveIssues f.val n.val slot.val 0x39 c t w = true :=
  ⟨0, 0, 3, sieveCtx (sieveWord 0x39 0), sieveTask, sieveWord 0x39 0, sieveAt (sieveWord 0x39 0),
    by decide +kernel⟩

theorem witness_SieveMovesAndReductions_sivShfl : ∃ (f : FieldId) (n : Fin 2) (slot : Fin 8) (c : SieveCtx) (t :
      EngTask) (w : Nat) (s : State), s.sieveIssues f.val n.val slot.val 0x3C c t w = true ∧ iImm w % 1024 < lanesOf
      (cfWide (iCf w)) :=
  ⟨0, 0, 3, sieveCtx (sieveWord 0x3C 0 + 5 * 2 ^ 48), sieveTask, sieveWord 0x3C 0 + 5 * 2 ^ 48, sieveAt (sieveWord
      0x3C 0 + 5 * 2 ^ 48),
    by decide +kernel⟩

theorem witness_SieveMovesAndReductions_sivPerm : ∃ (f : FieldId) (n : Fin 2) (slot : Fin 8) (c : SieveCtx) (t :
      EngTask) (w : Nat) (s : State), s.sieveIssues f.val n.val slot.val 0x3D c t w = true :=
  ⟨0, 0, 3, sieveCtx (sieveWord 0x3D 0), sieveTask, sieveWord 0x3D 0, sieveAt (sieveWord 0x3D 0),
    by decide +kernel⟩

theorem witness_CairnTasksStart_crnEnable : ∃ (f : FieldId) (s : State), s.flag RF.CRN_CTL_ENABLE f.val 0 = false :=
  ⟨0, up,
    by decide +kernel⟩

theorem witness_CairnTasksStart_crnDisable : ∃ (f : FieldId) (s : State), s.openRecs f.val = [] :=
  ⟨0, up.setFlag RF.CRN_CTL_ENABLE 0 0 true,
    by decide +kernel⟩

theorem witness_CairnTasksStart_crnNop : ∃ (f : FieldId) (h : EngTask) (rest : List EngTask) (s : State),
      s.headStarts f.val unitCairn 0 h rest = true :=
  ⟨0, task 0, [], queued 21 0,
    by decide +kernel⟩

theorem witness_CairnTasksStart_crnOpen : ∃ (f : FieldId) (h : EngTask) (rest : List EngTask) (s : State),
      s.headStarts f.val unitCairn 1 h rest = true :=
  ⟨0, task 1, [], cairnUp 1,
    by decide +kernel⟩

theorem witness_CairnTasksStart_crnClose : ∃ (f : FieldId) (h : EngTask) (rest : List EngTask) (s : State),
      s.headStarts f.val unitCairn 2 h rest = true :=
  ⟨0, task 2, [], cairnUp 2,
    by decide +kernel⟩

theorem witness_CairnTasksStart_crnFork : ∃ (f : FieldId) (h : EngTask) (rest : List EngTask) (s : State),
      s.headStarts f.val unitCairn 3 h rest = true :=
  ⟨0, task 3, [], cairnUp 3,
    by decide +kernel⟩

theorem witness_CairnTasksStart_crnStep : ∃ (f : FieldId) (h : EngTask) (rest : List EngTask) (s : State),
      s.headStarts f.val unitCairn 4 h rest = true :=
  ⟨0, task 4, [], cairnUp 4,
    by decide +kernel⟩

theorem witness_CairnTasksStart_crnAppend : ∃ (f : FieldId) (h : EngTask) (rest : List EngTask) (s : State),
      s.headStarts f.val unitCairn 5 h rest = true :=
  ⟨0, task 5, [], cairnUp 5,
    by decide +kernel⟩

theorem witness_CairnTasksStart_crnGather : ∃ (f : FieldId) (h : EngTask) (rest : List EngTask) (s : State),
      s.headStarts f.val unitCairn 6 h rest = true :=
  ⟨0, task 6, [], cairnUp 6,
    by decide +kernel⟩

theorem witness_CairnTasksStart_crnTruncate : ∃ (f : FieldId) (h : EngTask) (rest : List EngTask) (s : State),
      s.headStarts f.val unitCairn 7 h rest = true :=
  ⟨0, task 7, [], cairnUp 7,
    by decide +kernel⟩

theorem witness_CairnTasksStart_crnSpill : ∃ (f : FieldId) (h : EngTask) (rest : List EngTask) (s : State),
      s.headStarts f.val unitCairn 8 h rest = true :=
  ⟨0, task 8, [], cairnUp 8,
    by decide +kernel⟩

theorem witness_CairnTasksStart_crnRecall : ∃ (f : FieldId) (h : EngTask) (rest : List EngTask) (s : State),
      s.headStarts f.val unitCairn 9 h rest = true :=
  ⟨0, task 9, [], cairnUp 9,
    by decide +kernel⟩

theorem witness_CairnPairsPoolsAndReclaim_granaryWriteAck : ∃ (f : FieldId) (pair : BitVec 32) (bad : Bool) (t :
      EngTask) (j : CairnJob) (p : CairnPair) (s : State), s.granJob f.val pair.toNat = some (t, j, p) ∧ s.unitRuns
      f.val unitCairn = true ∧ descOpcode t.desc = 8 ∧ bad = false :=
  ⟨0, 33, false, { task 8 with status := none }, cairnJob false, movedPair false, cairnMoves 8 false,
    by decide +kernel⟩

theorem witness_CairnPairsPoolsAndReclaim_granaryWriteAckPoison : ∃ (f : FieldId) (pair : BitVec 32) (bad : Bool) (t
      : EngTask) (j : CairnJob) (p : CairnPair) (s : State), s.granJob f.val pair.toNat = some (t, j, p) ∧ s.unitRuns
      f.val unitCairn = true ∧ descOpcode t.desc = 8 ∧ bad = true :=
  ⟨0, 33, true, { task 8 with status := none }, cairnJob false, movedPair false, cairnMoves 8 false,
    by decide +kernel⟩

theorem witness_CairnPairsPoolsAndReclaim_granaryReadDone : ∃ (f : FieldId) (pair : BitVec 32) (data : List Byte)
      (bad : Bool) (t : EngTask) (j : CairnJob) (p : CairnPair) (s : State), data.length = 2 * s.slotSize f.val ∧ bad
      = false ∧ s.granJob f.val pair.toNat = some (t, j, p) ∧
  s.unitRuns f.val unitCairn = true ∧ descOpcode t.desc = 9 ∧
  (j.pairs.map (fun x => if x.gran = p.gran ∧ x.back then { x with data := some data } else x)).all
    (fun x => !x.back || x.data.isSome) = false :=
  ⟨0, 33, List.replicate (2 * up.slotSize 0) 0#8, false, { task 9 with status := none },
      { cairnJob true with pairs := [movedPair true, { movedPair true with gran := 34 }] }, movedPair true,
      (cairnMoves 9 true).modCairn 0 (fun c =>
      { c with job := some { cairnJob true with pairs := [movedPair true, { movedPair true with gran := 34 }] } }),
    by decide +kernel⟩

theorem witness_CairnPairsPoolsAndReclaim_granaryReadDonePoison : ∃ (f : FieldId) (pair : BitVec 32) (data : List
      Byte) (bad : Bool) (t : EngTask) (j : CairnJob) (p : CairnPair) (s : State), s.granJob f.val pair.toNat = some
      (t, j, p) ∧ s.unitRuns f.val unitCairn = true ∧ descOpcode t.desc ≠ 8 ∧ bad = true :=
  ⟨0, 33, [], true, { task 9 with status := none }, cairnJob true, movedPair true, cairnMoves 9 true,
    by decide +kernel⟩

theorem witness_CairnPairsPoolsAndReclaim_granaryTimeout : ∃ (f : FieldId) (pair : BitVec 32) (t : EngTask) (j :
      CairnJob) (p : CairnPair) (s : State), s.granJob f.val pair.toNat = some (t, j, p) ∧ s.unitRuns f.val unitCairn
      = true :=
  ⟨0, 33, { task 9 with status := none }, cairnJob true, movedPair true, cairnMoves 9 true,
    by decide +kernel⟩

theorem witness_CairnPairsPoolsAndReclaim_crnTaskComplete : ∃ (f : FieldId) (cycles : Nat) (t : EngTask) (rest : List
      EngTask) (st : Nat) (s : State), s.unitRuns f.val unitCairn = true ∧ (s.engine f.val unitCairn).running = t ::
      rest ∧ t.status = some st :=
  ⟨0, 9, { task 2 with status := some 0 }, [], 0, running 21 2 (some 0),
    by decide +kernel⟩

theorem witness_CairnPairsPoolsAndReclaim_crnReclaimGo : ∃ (f : FieldId) (w : WaferId) (g : BitVec 7) (s : State),
      s.flag RF.CRN_RECLAIM_BUSY f.val 0 = false :=
  ⟨0, 3, 70#7, up,
    by decide +kernel⟩

theorem witness_CairnPairsPoolsAndReclaim_crnReclaimDone : ∃ (f : FieldId) (s : State), s.flag RF.CRN_RECLAIM_BUSY
      f.val 0 = true ∧ s.stopped f.val = false :=
  ⟨0, up.setFlag RF.CRN_RECLAIM_BUSY 0 0 true,
    by decide +kernel⟩

theorem witness_CairnPairsPoolsAndReclaim_poolQueryReply : ∃ (f : FieldId) (w : WaferId) (g : FieldId) (a :
      PoolAnswer) (j : CairnJob) (t : EngTask) (l : List EngTask) (q : PoolReq) (n : Nat) (s : State), a = .own ∧
      w.val = s.ownWafer ∧ (s.cairn f.val).job = some j ∧ (s.engine f.val unitCairn).running = t :: l ∧
  s.unitRuns f.val unitCairn = true ∧ j.waiting.contains (poolName w.val g.val) = true ∧ j.task = t.serial ∧
  s.cairns.reqs.find? (fun q => q.holder == f.val && q.pool == poolName w.val g.val && q.answer.isSome) = some q ∧
  q.answer = some n ∧ j.waiting.filter (fun p => p != poolName w.val g.val) ≠ [] :=
  ⟨0, 0, 0, .own, stepJob, { task 4 with status := none }, [], poolReq (some 6), 6, stepWaits (some 6),
    by decide +kernel⟩

theorem witness_CairnPairsPoolsAndReclaim_poolAgentRequest : ∃ (f : FieldId) (r : PoolRef) (id : Nat) (q : PoolReq)
      (k : Nat) (s : State), s.stopped f.val = false ∧ s.halted = false ∧ r = .own id ∧
  s.cairns.reqs.find? (fun q => q.pool == poolName s.ownWafer f.val && q.answer.isNone) = some q ∧ q.id = id ∧
  k = (if s.poolAdmits q.src f.val then (s.freeSlots f.val).length else 0) :=
  ⟨0, .own 4, 4, poolReq none, 0, stepWaits none,
    by decide +kernel⟩

theorem witness_CairnPairsPoolsAndReclaim_poolAgentRequestForeign : ∃ (f : FieldId) (r : PoolRef) (src : Source)
      (holder : FieldId) (s : State), s.stopped f.val = false ∧ s.halted = false ∧ r = .foreign src holder .query ∧
      src.wafer.val ≠ s.ownWafer :=
  ⟨0, .foreign { srcPf with wafer := 3 } 2 .query, { srcPf with wafer := 3 }, 2, up,
    by decide +kernel⟩

theorem witness_ScreeAndLoomTasksRun_scrNop : ∃ (f : FieldId) (h : EngTask) (rest : List EngTask) (s : State),
      s.headStarts f.val unitScree 0 h rest = true :=
  ⟨0, task 0, [], queued 20 0,
    by decide +kernel⟩

theorem witness_ScreeAndLoomTasksRun_voxelize : ∃ (f : FieldId) (h : EngTask) (rest : List EngTask) (s : State),
      s.headStarts f.val unitScree 1 h rest = true :=
  ⟨0, task 1, [], queued 20 1,
    by decide +kernel⟩

theorem witness_ScreeAndLoomTasksRun_rulebook : ∃ (f : FieldId) (h : EngTask) (rest : List EngTask) (s : State),
      s.headStarts f.val unitScree 2 h rest = true :=
  ⟨0, task 2, [], queued 20 2,
    by decide +kernel⟩

theorem witness_ScreeAndLoomTasksRun_scrGather : ∃ (f : FieldId) (h : EngTask) (rest : List EngTask) (s : State),
      s.headStarts f.val unitScree 3 h rest = true :=
  ⟨0, task 3, [], queued 20 3,
    by decide +kernel⟩

theorem witness_ScreeAndLoomTasksRun_scatter : ∃ (f : FieldId) (h : EngTask) (rest : List EngTask) (s : State),
      s.headStarts f.val unitScree 4 h rest = true :=
  ⟨0, task 4, [], queued 20 4,
    by decide +kernel⟩

theorem witness_ScreeAndLoomTasksRun_scrTaskComplete : ∃ (f : FieldId) (cycles : Nat) (t : EngTask) (rest : List
      EngTask) (st : Nat) (s : State), s.unitRuns f.val unitScree = true ∧ (s.engine f.val unitScree).running = t ::
      rest ∧ t.status = some st :=
  ⟨0, 9, { task 2 with status := some 0 }, [], 0, running 20 2 (some 0),
    by decide +kernel⟩

theorem witness_ScreeAndLoomTasksRun_lomNop : ∃ (f : FieldId) (cycles : Nat) (t : EngTask) (s : State), s.unitRuns
      f.val unitLoom = true ∧ (s.engine f.val unitLoom).queue.find? (fun t =>
  descOpcode t.desc == 0 || decide (4 < descOpcode t.desc)) = some t :=
  ⟨0, 9, task 0, queued 22 0,
    by decide +kernel⟩

theorem witness_ScreeAndLoomTasksRun_sessionInit : ∃ (f : FieldId) (enc : Bool) (t : EngTask) (s : State),
      s.pipeStarts f.val 1 enc t = true :=
  ⟨0, false, task 1, queued 22 1,
    by decide +kernel⟩

theorem witness_ScreeAndLoomTasksRun_decode : ∃ (f : FieldId) (t : EngTask) (s : State), s.pipeStarts f.val 2 false t
      = true :=
  ⟨0, task 2, queued 22 2,
    by decide +kernel⟩

theorem witness_ScreeAndLoomTasksRun_encode : ∃ (f : FieldId) (t : EngTask) (s : State), s.pipeStarts f.val 3 true t
      = true :=
  ⟨0, task 3, queued 22 3,
    by decide +kernel⟩

theorem witness_ScreeAndLoomTasksRun_convert : ∃ (f : FieldId) (t : EngTask) (s : State), s.pipeStarts f.val 4 false
      t = true :=
  ⟨0, task 4, queued 22 4,
    by decide +kernel⟩

theorem witness_ScreeAndLoomTasksRun_frameBudgetExpire : ∃ (f : FieldId) (nonframe : Bool) (t : EngTask) (j :
      LoomJob) (s : State), s.lJobOf f.val false = some (t, j) ∧ s.unitRuns f.val unitLoom = true :=
  ⟨0, false, { task 2 with status := none }, loomJob, loomState 2,
    by decide +kernel⟩

theorem witness_ScreeAndLoomTasksRun_frameCommit : ∃ (f : FieldId) (r : FrameOut) (x : EncFrame) (t : EngTask) (j :
      LoomJob) (s : State), r = .enc x ∧ s.lJobOf f.val true = some (t, j) ∧ s.unitRuns f.val unitLoom = true ∧
      encReady j ≠ 0 ∧
  leField j.job 24 4 < j.out + x.data.length :=
  ⟨0, .enc ⟨0, 0, 0#8, 5, [1#8]⟩, ⟨0, 0, 0#8, 5, [1#8]⟩, { task 3 with status := none }, encJob 0#8, encState 0#8,
    by decide +kernel⟩

theorem witness_ScreeAndLoomTasksRun_frameCommitWritten : ∃ (f : FieldId) (r : FrameOut) (x : EncFrame) (t : EngTask)
      (j : LoomJob) (s : State), r = .enc x ∧ s.lJobOf f.val true = some (t, j) ∧ s.unitRuns f.val unitLoom = true ∧
      encReady j ≠ 0 ∧
  j.out + x.data.length ≤ leField j.job 24 4 :=
  ⟨0, .enc ⟨0, 0, 0#8, 5, [1#8]⟩, ⟨0, 0, 0#8, 5, [1#8]⟩, { task 3 with status := none }, encJob 1#8, encState 1#8,
    by decide +kernel⟩

theorem witness_ScreeAndLoomTasksRun_loomJobComplete : ∃ (f : FieldId) (enc : Bool) (consumed : Nat) (cycles : Nat)
      (t : EngTask) (st : Nat) (s : State), (s.engine f.val unitLoom).running.find? (fun t => s.lPipe f.val t == enc)
      = some t ∧ t.status = some st ∧
  s.unitRuns f.val unitLoom = true :=
  ⟨0, true, 0, 7, { task 3 with status := some 0 }, 0, (loomState 3).modEngine 0 22 (fun e =>
      { e with running := [{ task 3 with status := some 0 }] }),
    by decide +kernel⟩

theorem witness_LinksTrainAndGoDown_linkTargetDown : ∃ (k : LinkId) (s : State), k.val < 56 ∧ s.linkState k.val ≠
      lsDown ∧ s.linkState k.val ≠ lsPcie :=
  ⟨3, linkAt 3 6 1,
    by decide +kernel⟩

theorem witness_LinksTrainAndGoDown_linkTargetUp : ∃ (k : LinkId) (s : State), k.val < 56 ∧ s.linkState k.val =
      lsDown ∧ s.linksPowered = true ∧ s.underLoop k.val = false :=
  ⟨3, linkAt 3 0 0,
    by decide +kernel⟩

theorem witness_LinksTrainAndGoDown_linkTargetUpWake : ∃ (k : LinkId) (s : State), k.val < 56 ∧ s.linkState k.val =
      lsQuiet :=
  ⟨3, linkAt 3 8 2,
    by decide +kernel⟩

theorem witness_LinksTrainAndGoDown_linkTargetQuiet : ∃ (k : LinkId) (s : State), k.val < 56 ∧ s.linkState k.val =
      lsUp :=
  ⟨3, linkAt 3 6 1,
    by decide +kernel⟩

theorem witness_LinksTrainAndGoDown_linkTargetTest : ∃ (k : LinkId) (s : State), k.val < 56 ∧ s.linkState k.val =
      lsUp ∧ (s.link k.val).kind ≠ 3 :=
  ⟨3, linkAt 3 6 1,
    by decide +kernel⟩

theorem witness_LinksTrainAndGoDown_linkSignalDetect : ∃ (k : LinkId) (s : State), k.val < 56 ∧ s.linksPowered = true
      ∧ s.underLoop k.val = false ∧ s.linkState k.val = lsDetect :=
  ⟨3, linkAt 3 1 1,
    by decide +kernel⟩

theorem witness_LinksTrainAndGoDown_linkPhyTrained : ∃ (k : LinkId) (s : State), s.linkState k.val = lsPhyTrain :=
  ⟨3, linkAt 3 2 1,
    by decide +kernel⟩

theorem witness_LinksTrainAndGoDown_linkTrainTimeout : ∃ (k : LinkId) (s : State), s.linkState k.val = lsPhyTrain ∧
  (if s.linkClass k.val = 3 then 500000000 else 100000000) ≤ s.now - (s.link k.val).since :=
  ⟨3, later 600000000 (linkAt 3 2 1),
    by decide +kernel⟩

theorem witness_LinksTrainAndGoDown_identSend : ∃ (k : LinkId) (s : State), s.linkState k.val = lsIdent :=
  ⟨3, linkAt 3 3 1,
    by decide +kernel⟩

theorem witness_LinksTrainAndGoDown_identReceive : ∃ (k : LinkId) (stamp : BitVec 32) (echo : BitVec 32) (hold :
      BitVec 32) (block : List Byte) (s : State), block.length = 64 ∧ s.linkState k.val = lsIdent ∧ (s.link
      k.val).ident ≠ block :=
  ⟨3, 5#32, 0#32, 0#32, List.replicate 64 1#8, linkAt 3 3 1,
    by decide +kernel⟩

theorem witness_LinksTrainAndGoDown_identReceiveThird : ∃ (k : LinkId) (stamp : BitVec 32) (echo : BitVec 32) (hold :
      BitVec 32) (block : List Byte) (s : State), block.length = 64 ∧ s.linkState k.val = lsIdent ∧ (s.link
      k.val).ident = block ∧ 2 ≤ (s.link k.val).identCount ∧
  (s.link k.val).echoed = true :=
  ⟨3, 5#32, 0#32, 0#32, List.replicate 64 1#8, (linkAt 3 3 1).modLink 3 (fun x =>
      { x with ident := List.replicate 64 1#8, identCount := 2, echoed := true }),
    by decide +kernel⟩

theorem witness_LinksTrainAndGoDown_identTimeout : ∃ (k : LinkId) (s : State), s.linkState k.val = lsIdent ∧ 10000000
      ≤ s.now - (s.link k.val).since :=
  ⟨3, later 600000000 (linkAt 3 3 1),
    by decide +kernel⟩

theorem witness_LinksTrainAndGoDown_lossOfSignal : ∃ (k : LinkId) (s : State), s.linkState k.val ≠ lsQuiet ∧
      s.linkState k.val ≠ lsDetect ∧ s.linkState k.val ≠ lsDown ∧ s.linkState k.val ≠ lsPcie :=
  ⟨3, linkAt 3 6 1,
    by decide +kernel⟩

theorem witness_LinksTrainAndGoDown_fecLockLost : ∃ (k : LinkId) (s : State), locked (s.linkState k.val) = true :=
  ⟨3, linkAt 3 6 1,
    by decide +kernel⟩

theorem witness_LinksTrainAndGoDown_ucwLimitExceeded : ∃ (k : LinkId) (n : Nat) (s : State), locked (s.linkState
      k.val) = true ∧ s.getF RF.VRN_LNK_UCW_LIMIT_LIMIT k.val 0 < n :=
  ⟨3, 100000, linkAt 3 6 1,
    by decide +kernel⟩

theorem witness_LinksTrainAndGoDown_downNoticeReceive : ∃ (k : LinkId) (s : State), lsIdent ≤ s.linkState k.val ∧
      s.linkState k.val ≠ lsPcie :=
  ⟨3, linkAt 3 6 1,
    by decide +kernel⟩

theorem witness_LinkFlowAndStates_ackFlitReceive : ∃ (k : LinkId) (ack : BitVec 16) (valid : Bool) (nak : Bool)
      (freed0 : BitVec 12) (freed1 : BitVec 12) (freed2 : BitVec 12) (freed3 : BitVec 12) (s : State), carries
      (s.linkState k.val) = true ∧ valid = false :=
  ⟨3, 0#16, false, false, 1#12, 0#12, 0#12, 0#12, linkHeld 3 6 0,
    by decide +kernel⟩

theorem witness_LinkFlowAndStates_ackFlitReceiveAck : ∃ (k : LinkId) (ack : BitVec 16) (valid : Bool) (nak : Bool)
      (freed0 : BitVec 12) (freed1 : BitVec 12) (freed2 : BitVec 12) (freed3 : BitVec 12) (h : HeldFlit) (rest : List
      HeldFlit) (d : Nat) (s : State), carries (s.linkState k.val) = true ∧ valid = true ∧ nak = false ∧ (s.link
      k.val).held = h :: rest ∧
  d = (ack.toNat + 65537 - h.seq) % 65536 ∧ 0 < d ∧ d ≤ (h :: rest).length :=
  ⟨3, 0#16, true, false, 1#12, 0#12, 0#12, 0#12, sentFlit 2, [], 1, linkHeld 3 6 2,
    by decide +kernel⟩

theorem witness_LinkFlowAndStates_ctrlRepeat : ∃ (k : LinkId) (code n : Nat) (s : State), (s.link k.val).ctrl = some
      (code, n) :=
  ⟨3, 2, 5, linkCtrl 3 6 2 5,
    by decide +kernel⟩

theorem witness_LinkFlowAndStates_ackDue : ∃ (k : LinkId) (s : State), carries (s.linkState k.val) = true ∧ 0 <
      (s.link k.val).unacked ∧
  (64 ≤ (s.link k.val).unacked ∨ 200 ≤ s.now - (s.link k.val).ackFrom) :=
  ⟨3, (linkAt 3 6 1).modLink 3 (fun x => { x with unacked := 64 }),
    by decide +kernel⟩

theorem witness_LinkFlowAndStates_replayTimeout : ∃ (k : LinkId) (h : HeldFlit) (rest : List HeldFlit) (s : State),
      carries (s.linkState k.val) = true ∧ (s.link k.val).held = h :: rest ∧
  h.sent + s.getF RF.VRN_LNK_RTT_RTT k.val 0 + 4000 ≤ s.now :=
  ⟨3, sentFlit 2, [], linkHeld 3 6 2,
    by decide +kernel⟩

theorem witness_LinkFlowAndStates_flitTransmit : ∃ (k : LinkId) (cls : Fin 4) (wafer : WaferId) (rack : BitVec 7)
      (body : List Byte) (msgs : List (List Byte)) (s : State), s.bodyGoes k.val cls.val body msgs = true :=
  ⟨3, 1, 2, 0#7, [1#8] ++ List.replicate 239 0#8, [[1#8] ++ List.replicate 15 0#8], ((linkAt 3 6 1).setF
      RF.VRN_PORTp_CTL_MEMBERS 0 3 8).setBucket 3 0 (some 3),
    by decide +kernel⟩

theorem witness_LinkFlowAndStates_bucketReturn : ∃ (p : PortId) (b : Fin 64) (c h : Nat) (s : State), s.bucketLink
      p.val b.val = some c ∧ s.bucketHome p.val b.val = some h ∧ c ≠ h ∧
  (s.link c).held.any (fun fl => fl.msgs.any (fun m => decide (bucketOf (msgAddr m.raw) = b.val))) = false :=
  ⟨3, 0, 2, 3, (((linkAt 3 6 1).setF RF.VRN_PORTp_CTL_MEMBERS 0 3 8).setFlag RF.VRN_PORTp_CTL_ENABLE 0 3
      true).setBucket 3 0 (some 2),
    by decide +kernel⟩

theorem witness_LinkFlowAndStates_quietReplayEmpty : ∃ (k : LinkId) (s : State), s.linkState k.val = lsQuietEntry ∧
      (s.link k.val).held = [] ∧ (s.link k.val).ctrl = none :=
  ⟨3, linkAt 3 7 2,
    by decide +kernel⟩

theorem witness_LinkFlowAndStates_quietReqReceive : ∃ (k : LinkId) (s : State), s.linkState k.val = lsQuietEntry ∧
      (s.link k.val).held = [] :=
  ⟨3, linkAt 3 7 2,
    by decide +kernel⟩

theorem witness_LinkFlowAndStates_quietAckReceive : ∃ (k : LinkId) (s : State), s.linkState k.val = lsQuietEntry ∧
      (s.link k.val).ctrl.map (·.1) = some ctrlQuietReq :=
  ⟨3, linkCtrl 3 7 2 0,
    by decide +kernel⟩

theorem witness_LinkFlowAndStates_wakeReceive : ∃ (k : LinkId) (s : State), s.linkState k.val = lsQuiet :=
  ⟨3, linkAt 3 8 1,
    by decide +kernel⟩

theorem witness_LinkFlowAndStates_linkWakeDone : ∃ (k : LinkId) (s : State), s.linkState k.val = lsWake ∧
      s.linkTarget k.val = 1 :=
  ⟨3, linkAt 3 9 1,
    by decide +kernel⟩

theorem witness_LinkFlowAndStates_testReqReceive : ∃ (k : LinkId) (s : State), s.linkState k.val = lsUp ∨ s.linkState
      k.val = lsHeld ∨ s.linkState k.val = lsQuarantine :=
  ⟨3, linkAt 3 6 1,
    by decide +kernel⟩

theorem witness_LinkFlowAndStates_testAckReceive : ∃ (k : LinkId) (s : State), (s.link k.val).ctrl.map (·.1) = some
      ctrlTestReq :=
  ⟨3, linkCtrl 3 6 6 0,
    by decide +kernel⟩

theorem witness_LinkSettingsAndPatterns_linkTxWrite : ∃ (k : LinkId) (swing : BitVec 6) (pre : BitVec 6) (post :
      BitVec 6) (s : State), k.val < 56 :=
  ⟨3, 1#6, 2#6, 3#6, linkAt 3 6 1,
    by decide +kernel⟩

theorem witness_LinkSettingsAndPatterns_swingStep : ∃ (k : LinkId) (old n : Nat) (s : State), (s.link k.val).swing =
      some (old, n) :=
  ⟨3, 9, 15, (linkAt 3 6 1).modLink 3 (fun x => { x with swing := some (9, 15) }),
    by decide +kernel⟩

theorem witness_LinkSettingsAndPatterns_prbsCtlWrite : ∃ (k : LinkId) (side : Bool) (v : BitVec 8) (s : State),
      s.prbsAllowed = true ∧ (k.val < 56 ∨ side = true) ∧ s.underLoop k.val = false :=
  ⟨3, false, 0x9B#8, linkAt 3 10 3,
    by decide +kernel⟩

theorem witness_LinkSettingsAndPatterns_prbsClear : ∃ (k : LinkId) (s : State), s.underLoop k.val = false :=
  ⟨3, linkAt 3 10 3,
    by decide +kernel⟩

theorem witness_LinkSettingsAndPatterns_prbsLock : ∃ (k : LinkId) (s : State), s.prbsRuns k.val = true :=
  ⟨3, (linkAt 3 10 3).setFlag RF.VRN_PRBS_CTL_CHK_EN 3 0 true,
    by decide +kernel⟩

theorem witness_LinkSettingsAndPatterns_prbsBerUpdate : ∃ (k : LinkId) (errs : Nat) (units : Nat) (e u : Nat) (s :
      State), s.flag RF.VRN_PRBS_CTL_LOCKED k.val 0 = true ∧
  e = min (s.getF RF.VRN_PRBS_ERR_COUNT k.val 0 + errs) (2 ^ RF.VRN_PRBS_ERR_COUNT.w - 1) ∧
  u = min (s.getF RF.VRN_PRBS_BITS_COUNT k.val 0 + units) (2 ^ RF.VRN_PRBS_BITS_COUNT.w - 1) ∧ u ≠ 0 :=
  ⟨3, 5, 1000, 5, 1000, (linkAt 3 10 3).setFlag RF.VRN_PRBS_CTL_LOCKED 3 0 true,
    by decide +kernel⟩

theorem witness_LinkSettingsAndPatterns_portCtlWrite : ∃ (p : PortId) (mask : BitVec 56) (enable : Bool) (s : State),
      mask.toNat = s.portMask p.val :=
  ⟨3, BitVec.ofNat 56 (up.portMask 3), true, up,
    by decide +kernel⟩

theorem witness_LinkSettingsAndPatterns_portCtlWriteMask : ∃ (p : PortId) (mask : BitVec 56) (enable : Bool) (ok :
      Bool) (s : State), mask.toNat ≠ s.portMask p.val ∧ (s.maskOk p.val mask.toNat &&
  (maskList (s.portMask p.val ||| mask.toNat) 56).all (fun k => decide (s.linkState k = lsDown))) = ok :=
  ⟨3, BitVec.ofNat 56 (up.portMask 3 + 4096), true, true, up,
    by decide +kernel⟩

theorem witness_MembershipAndManager_withdrawReceive : ∃ (n : WaferId) (epoch : BitVec 16) (cause : BitVec 8) (s :
      State), cause ≠ 0#8 ∧ n.val ≠ s.ownWafer ∧ s.flag RF.FAB_EPOCHn_VALID 0 n.val = true ∧ s.joined n.val = true ∧
  epochOlder epoch.toNat (s.getF RF.FAB_EPOCHn_EPOCH 0 n.val) = false :=
  ⟨3, 5#16, 1#8, joinedUp false,
    by decide +kernel⟩

theorem witness_MembershipAndManager_autoWithdrawExpire : ∃ (n : WaferId) (s : State), s.flag
      RF.FAB_CTL_AUTO_WITHDRAW 0 0 = true ∧ s.joined n.val = true ∧ n.val ≠ s.ownWafer ∧
  s.fabric.lost.look 0 n.val ≠ 0 ∧ s.fabric.lost.look 0 n.val - 1 + s.getF RF.FAB_CTL_WITHDRAW_US 0 0 * 10000 ≤ s.now
      :=
  ⟨3, later 100000000000 (onFabric (fun x => { x with lost := [(3, 1)] }) ((joinedUp false).setFlag
      RF.FAB_CTL_AUTO_WITHDRAW 0 0 true)),
    by decide +kernel⟩

theorem witness_MembershipAndManager_reachReceive : ∃ (k : LinkId) (vector : BitVec 16) (p : Nat) (s : State),
      s.portOfLink k.val = some p :=
  ⟨3, 9#16, 3, up.setF RF.VRN_PORTp_CTL_MEMBERS 0 3 8,
    by decide +kernel⟩

theorem witness_MembershipAndManager_spreadEntryMove : ∃ (d : WaferId) (e : Fin 64) (s : State), s.entryMoving d.val
      e.val = true ∧ s.entryReqs d.val e.val = [] ∧
  (s.entryTallies d.val e.val).all (·.parked) = true ∧ s.commons.reqs = [] :=
  ⟨3, 63, entryMoves,
    by decide +kernel⟩

theorem witness_MembershipAndManager_helloReceive : ∃ (src : WaferId) (tag : BitVec 16) (session : BitVec 32) (target
      : Word) (anchor : Word) (s : State), s.discMine target = true ∧ s.fabric.answers.find? (fun a => a.1 == discKey
      1 tag.toNat session.toNat) = none :=
  ⟨1, 7#16, 9#32, 0#64, 77#64, up.setF RF.FAB_STATE_STATE 0 0 fsSolo,
    by decide +kernel⟩

theorem witness_MembershipAndManager_mapReceive : ∃ (src : WaferId) (tag : BitVec 16) (session : BitVec 32) (target :
      Word) (part : BitVec 8) (parts : BitVec 8) (gen : BitVec 32) (records : List Nat) (r : Nat) (s : State),
      s.discMine target = true ∧ s.fabric.answers.find? (fun a => a.1 == discKey 3 tag.toNat session.toNat) = none ∧
      records = [r] ∧ nbits r 64 6 < 52 ∧ part = parts :=
  ⟨1, 7#16, 9#32, 0#64, 0#8, 0#8, 4#32, [77 + 3 * 2 ^ 64], 77 + 3 * 2 ^ 64, up,
    by decide +kernel⟩

theorem witness_MembershipAndManager_assignReceive : ∃ (src : WaferId) (tag : BitVec 16) (session : BitVec 32)
      (target : Word) (rack : BitVec 7) (number : WaferId) (policy : BitVec 2) (s : State), s.discMine target = true
      ∧ s.fabric.answers.find? (fun a => a.1 == discKey 4 tag.toNat session.toNat) = none ∧
  s.flag RF.RVE_LIFECYCLE_OUT_OF_SERVICE 0 0 = false ∧ s.fabState ≠ fsJoined ∧ policy.toNat < 2 :=
  ⟨1, 7#16, 9#32, 0#64, 5#7, 3, 1#2, up,
    by decide +kernel⟩

theorem witness_MembershipAndManager_joinReceive : ∃ (src : WaferId) (tag : BitVec 16) (session : BitVec 32) (target
      : Word) (mask : BitVec 16) (master : WaferId) (epochs : List Nat) (s : State), s.discMine target = true ∧
      s.fabric.answers.find? (fun a => a.1 == discKey 5 tag.toNat session.toNat) = none ∧
  s.flag RF.RVE_LIFECYCLE_OUT_OF_SERVICE 0 0 = false ∧ epochs.length = 16 ∧ mask.toNat.testBit master.val = true ∧
  (s.fabState = fsAssigned ∨ s.fabState = fsJoined) ∧ mask.toNat.testBit s.ownWafer = true ∧
  epochs.getD s.ownWafer 0 = s.getF RF.FAB_NUM_EPOCH 0 0 :=
  ⟨1, 7#16, 9#32, 0#64, 9#16, 3, List.replicate 16 (up.getF RF.FAB_NUM_EPOCH 0 0), up.setF RF.FAB_STATE_STATE 0 0
      fsAssigned,
    by decide +kernel⟩

theorem witness_MembershipAndManager_fmWaitExpire : ∃  (s : State), s.fabState = fsWait ∧ s.rd .FAB_FM 0 0 = 0#64 ∧
      s.boot.stage = .ready ∧
  s.fabric.linkUpAt - 1 + s.getF RF.FAB_CTL_FM_WAIT_MS 0 0 * 1000000 ≤ s.now :=
  ⟨later 100000000000 up,
    by decide +kernel⟩

theorem witness_MembershipAndManager_discSend : ∃  (s : State), s.isAnchor = true :=
  ⟨up,
    by decide +kernel⟩

theorem witness_MembershipAndManager_discAnswerReceive : ∃ (words : List Nat) (s : State), s.isAnchor = true :=
  ⟨[1, 2, 3], up,
    by decide +kernel⟩

theorem witness_MembershipAndManager_discRxRelease : ∃  (s : State), s.isAnchor = true :=
  ⟨onFabric (fun x => { x with discRx := [[1, 2]] }) up,
    by decide +kernel⟩

theorem witness_FlitsAndFabricTime_dataFlitReceiveCrc : ∃ (k : LinkId) (raw : List Byte) (s : State), raw.length =
      256 ∧ carries (s.linkState k.val) = true ∧ flitCrcOk raw = false :=
  ⟨3, [1#8] ++ List.replicate 255 0#8, linkAt 3 6 1,
    by decide +kernel⟩

theorem witness_FlitsAndFabricTime_dataFlitReceiveDuplicate : ∃ (k : LinkId) (raw : List Byte) (h : FlitHead) (s :
      State), raw.length = 256 ∧ carries (s.linkState k.val) = true ∧ flitCrcOk raw = true ∧ h = flitHead raw ∧
      h.kind = 0 ∧
  h.ackValid = false ∧ h.seq ≠ (s.link k.val).expected ∧
  1 ≤ ((s.link k.val).expected + 65536 - h.seq) % 65536 ∧ ((s.link k.val).expected + 65536 - h.seq) % 65536 ≤ 1024 :=
  ⟨3, flitOf 7, flitHead (flitOf 7), (linkAt 3 6 1).modLink 3 (fun x => { x with expected := 9 }),
    by decide +kernel⟩

theorem witness_FlitsAndFabricTime_dataFlitReceive : ∃ (k : LinkId) (raw : List Byte) (h : FlitHead) (msgs : List
      (List Byte)) (s : State), raw.length = 256 ∧ carries (s.linkState k.val) = true ∧ flitCrcOk raw = true ∧ h =
      flitHead raw ∧ h.kind = 0 ∧
  h.ackValid = false ∧ h.seq = (s.link k.val).expected ∧ h.srcRack ≠ s.getF RF.FAB_NUM_RACK 0 0 ∧ s.frozen = false ∧
  s.forMe h = true ∧ s.linkClass k.val ≠ 3 ∧ parseBody 15 (raw.drop 16) = (msgs, false) :=
  ⟨3, flitOf 9, flitHead (flitOf 9), [], (linkAt 3 6 1).modLink 3 (fun x => { x with expected := 9 }),
    by decide +kernel⟩

theorem witness_FlitsAndFabricTime_timeSyncSend : ∃  (s : State), s.fabState = fsJoined ∧ s.flag
      RF.FAB_TIME_CTL_IS_MASTER 0 0 = true ∧ 100000 ≤ s.now - s.fabric.syncSent :=
  ⟨later 100000 (joinedUp true),
    by decide +kernel⟩

theorem witness_FlitsAndFabricTime_timeSyncReceive : ∃ (k : LinkId) (tTx : Word) (corr : BitVec 32) (master :
      WaferId) (p : Nat) (off : Int) (s : State), s.fabState = fsJoined ∧ s.flag RF.FAB_TIME_CTL_IS_MASTER 0 0 =
      false ∧ master.val = s.getF RF.FAB_TIME_CTL_MASTER 0 0 ∧
  s.portOfLink k.val = some p ∧ (s.portsTo (s.getF RF.FAB_TIME_CTL_MASTER 0 0)).head? = some p ∧
  off = (tTx.toNat : Int) + corr.toNat + (s.getF RF.VRN_LNK_RTT_RTT k.val 0 / 2 : Nat) - s.fabricTime :=
  ⟨3, 5#64, 7#32, 3, 3, ((5#64 : Word).toNat : Int) + (7#32 : BitVec 32).toNat + (followsMaster.getF
      RF.VRN_LNK_RTT_RTT 3 0 / 2 : Nat) - followsMaster.fabricTime, followsMaster,
    by decide +kernel⟩

theorem witness_FlitsAndFabricTime_syncMissing : ∃  (s : State), s.timeState = tsLocked ∧ s.flag
      RF.FAB_TIME_CTL_IS_MASTER 0 0 = false ∧ 300000 ≤ s.now - s.fabric.lastSync :=
  ⟨later 400000 ((joinedUp false).setF RF.FAB_TIME_CTL_TSTATE 0 0 tsLocked),
    by decide +kernel⟩

theorem witness_FlitsAndFabricTime_holdoverExpire : ∃  (s : State), s.timeState = tsHoldover ∧ 10000000 ≤ s.now -
      s.fabric.holdover :=
  ⟨later 10000000 ((joinedUp false).setF RF.FAB_TIME_CTL_TSTATE 0 0 tsHoldover),
    by decide +kernel⟩

theorem witness_FlitsAndFabricTime_ppsEdge : ∃  (good : Nat) (s : State), s.flag RF.FAB_TIME_CTL_PPS_EN 0 0 = true ∧
      s.flag RF.FAB_TIME_CTL_IS_MASTER 0 0 = true ∧ s.fabric.timeSet = false ∧
  s.flag RF.FAB_TIME_CTL_STEP_EN 0 0 = false ∧
  good = (if s.secondError.natAbs ≤ 1000 then s.fabric.ppsGood + 1 else 0) :=
  ⟨1, ((joinedUp true).setFlag RF.FAB_TIME_CTL_PPS_EN 0 0 true).setFlag RF.FAB_TIME_CTL_STEP_EN 0 0 false,
    by decide +kernel⟩

theorem witness_FieldsRetireAndReport_fieldRetiredPost : ∃  (p : FieldPost) (h : Nat) (s : State),
      s.commons.posts.find? (fun p => decide (p.kind = 1)) = some p ∧ h = s.getF RF.WFR_FLD_EVT_HEAD_HEAD 0 0 :=
  ⟨postOf 1, 0, postsDue 1,
    by decide +kernel⟩

theorem witness_FieldsRetireAndReport_unitFencedPost : ∃  (p : FieldPost) (h : Nat) (s : State),
      s.commons.posts.find? (fun p => decide (p.kind = 2)) = some p ∧ h = s.getF RF.WFR_FLD_EVT_HEAD_HEAD 0 0 :=
  ⟨postOf 2, 0, postsDue 2,
    by decide +kernel⟩

theorem witness_FieldsRetireAndReport_spareEnabledPost : ∃  (p : FieldPost) (h : Nat) (s : State),
      s.commons.posts.find? (fun p => decide (p.kind = 3)) = some p ∧ h = s.getF RF.WFR_FLD_EVT_HEAD_HEAD 0 0 :=
  ⟨postOf 3, 0, postsDue 3,
    by decide +kernel⟩

theorem witness_FieldsRetireAndReport_fieldRetire : ∃ (f : FieldId) (cause : RetireCause) (c : Nat) (hole : Bool) (s
      : State), retireOutcome cause = (c, hole) ∧ s.fieldMode f.val = 0 ∧ f.val ≠ 4 ∧ s.frozen = false ∧ c ≠
      causeEscalation :=
  ⟨7, .bodySelfcheck, causeBody, false, up,
    by decide +kernel⟩

theorem witness_FieldsRetireAndReport_fieldRetireFrozen : ∃ (f : FieldId) (cause : RetireCause) (c : Nat) (hole :
      Bool) (s : State), retireOutcome cause = (c, hole) ∧ s.fieldMode f.val = 0 ∧ f.val ≠ 4 ∧ s.frozen = true :=
  ⟨7, .bodySelfcheck, causeBody, false, up.setF RF.ASY_FRZ_STAT_STATE 0 0 2,
    by decide +kernel⟩

theorem witness_FieldsRetireAndReport_seamEccError : ∃ (f : FieldId) (n : Fin 4) (uncorrectable : Bool) (victim :
      Option Nat) (s : State), s.seamUp f.val n.val = true :=
  ⟨3, 1, true, none, seamOn,
    by decide +kernel⟩

theorem witness_FieldsRetireAndReport_seamUeLimit : ∃ (f : FieldId) (n : Fin 4) (g : Nat) (s : State), 16 <
      ((s.commons.seamUe.look [] (f.val * 4 + n.val)).filter (fun t => decide (s.now - t < 1000000000))).length ∧
  s.seamUp f.val n.val = true ∧ neighbour f.val n.val = some g :=
  ⟨3, 1, 4, onCommons (fun c => { c with seamUe := [(13, List.replicate 17 0)] }) seamOn,
    by decide +kernel⟩

theorem witness_FieldsRetireAndReport_parentLoss : ∃ (f : FieldId) (s : State), s.parentLost f.val = true ∧ s.getF
      RF.FLD_CLK_STATUS_STATE f.val 0 = 0 ∧
  ((s.setF RF.FLD_CLK_STATUS_STATE f.val 0 1).newParent f.val).isSome = true :=
  ⟨3, orphan,
    by decide +kernel⟩

theorem witness_FieldsRetireAndReport_clockReparent : ∃ (f : FieldId) (p d : Nat) (s : State), s.getF
      RF.FLD_CLK_STATUS_STATE f.val 0 = 1 ∧ s.newParent f.val = some (p, d) :=
  ⟨3, 4, 1, orphan.setF RF.FLD_CLK_STATUS_STATE 3 0 1,
    by decide +kernel⟩

theorem witness_FieldsRetireAndReport_clockRelock : ∃ (f : FieldId) (s : State), s.getF RF.FLD_CLK_STATUS_STATE f.val
      0 = 2 :=
  ⟨3, up.setF RF.FLD_CLK_STATUS_STATE 3 0 2,
    by decide +kernel⟩

theorem witness_StacksScrubAndGranaryLink_hbmEccErrorCorrected : ∃ (f : FieldId) (off : BitVec 35) (kind : Fin 3) (pc
      : BitVec 5) (bitPos : BitVec 9) (s : State), s.hbmState f.val ≠ hbmLost ∧ s.fieldMode f.val = 0 ∧ s.mem.fresh
      f.val 0 (off.toNat / 32 * 32) = false ∧ kind.val = 1 ∧ s.flag RF.HBM_ERR_STATUS_VALID f.val 0 = false :=
  ⟨0, 64#35, 1, 3#5, 7#9, hbmUpState,
    by decide +kernel⟩

theorem witness_StacksScrubAndGranaryLink_hbmEccError : ∃ (f : FieldId) (off : BitVec 35) (kind : Fin 3) (pc : BitVec
      5) (bitPos : BitVec 9) (s : State), s.hbmState f.val ≠ hbmLost ∧ s.fieldMode f.val = 0 ∧ s.mem.fresh f.val 0
      (off.toNat / 32 * 32) = false ∧ kind.val = 2 :=
  ⟨0, 64#35, 2, 3#5, 7#9, hbmUpState,
    by decide +kernel⟩

theorem witness_StacksScrubAndGranaryLink_stackLoss : ∃ (f : FieldId) (cause : Fin 5) (pc : BitVec 5) (lane : BitVec
      8) (s : State), s.hbmState f.val ≠ hbmLost ∧ s.fieldMode f.val = 0 ∧ cause.val ≠ 2 ∧ s.inStandby = false ∧
      s.frozen = false :=
  ⟨0, 0, 3#5, 7#8, hbmUpState,
    by decide +kernel⟩

theorem witness_StacksScrubAndGranaryLink_patrolStep : ∃ (f : FieldId) (o : Option Nat) (s : State), s.frozen = false
      ∧ s.inStandby = false ∧ s.hbmState f.val = hbmUp ∧ s.fieldMode f.val = 0 ∧
  (s.patrolled f.val).find? (fun g => decide (s.getF RF.HBM_PATROL_POSITION f.val 0 < g)) = o :=
  ⟨0, none, hbmUpState,
    by decide +kernel⟩

theorem witness_StacksScrubAndGranaryLink_scrubMark : ∃ (f : FieldId) (ok : Bool) (s : State), s.flag
      RF.HBM_SCRUB_CTL_BUSY f.val 0 = false ∧ ok = (decide (s.hbmState f.val ≠ hbmLost) &&
  decide (s.getF RF.HBM_SCRUB_START_START f.val 0 + s.getF RF.HBM_SCRUB_COUNT_GRANULES f.val 0 ≤ 524288)) :=
  ⟨0, true, hbmUpState,
    by decide +kernel⟩

theorem witness_StacksScrubAndGranaryLink_scrubOverwrite : ∃ (f : FieldId) (ok : Bool) (s : State), s.flag
      RF.HBM_SCRUB_CTL_BUSY f.val 0 = false ∧ ok = (decide (s.hbmState f.val ≠ hbmLost) &&
  decide (s.getF RF.HBM_SCRUB_START_START f.val 0 + s.getF RF.HBM_SCRUB_COUNT_GRANULES f.val 0 ≤ 524288)) :=
  ⟨0, true, hbmUpState,
    by decide +kernel⟩

theorem witness_StacksScrubAndGranaryLink_granaryEnable : ∃  (s : State), s.flag RF.HBM_GRAN_CTL_ENABLE 0 0 = false :=
  ⟨up.setF RF.HBM_GRAN_CTL_MODE 0 0 1,
    by decide +kernel⟩

theorem witness_StacksScrubAndGranaryLink_granaryDisable : ∃  (s : State), s.flag RF.HBM_GRAN_CTL_ENABLE 0 0 = true :=
  ⟨up.setFlag RF.HBM_GRAN_CTL_ENABLE 0 0 true,
    by decide +kernel⟩

theorem witness_StacksScrubAndGranaryLink_s0EnumDone : ∃ (cause : Fin 6) (width : BitVec 4) (speed : BitVec 3) (s :
      State), s.getF RF.HST_S0_STATE_STATE 0 0 = 1 ∨ s.getF RF.HST_S0_STATE_STATE 0 0 = 2 :=
  ⟨0, 4#4, 3#3, up.setF RF.HST_S0_STATE_STATE 0 0 1,
    by decide +kernel⟩

theorem witness_StacksScrubAndGranaryLink_s0LinkDown : ∃  (s : State), s.flag RF.HBM_GRAN_CTL_LINK_UP 0 0 = true :=
  ⟨up.setFlag RF.HBM_GRAN_CTL_LINK_UP 0 0 true,
    by decide +kernel⟩

theorem witness_ResetsBelowTheWafer_resetEngine : ∃ (f : FieldId) (cls : EngineClass) (unit : BitVec 4) (u : Nat) (s
      : State), s.resetFree = true ∧ s.inService f.val = true ∧ engineUnit f.val cls unit.toNat = some u ∧
  (s.engine f.val u).running = [] ∧ (s.engine f.val u).queue = [] ∧ (s.cairn f.val).job = none :=
  ⟨0, .sieve, 1, 17, up,
    by decide +kernel⟩

theorem witness_ResetsBelowTheWafer_resetEngineWaits : ∃ (f : FieldId) (cls : EngineClass) (unit : BitVec 4) (u :
      Nat) (s : State), s.flag RF.WFR_RCV_RESET_BUSY 0 0 = false ∧ s.bistBusy = false ∧ (s.frozen || s.halted) = true
      ∧ s.inService f.val = true ∧
  engineUnit f.val cls unit.toNat = some u :=
  ⟨0, .quern, 3, 3, up.setF RF.ASY_FRZ_STAT_STATE 0 0 2,
    by decide +kernel⟩

theorem witness_ResetsBelowTheWafer_resetEngineRefused : ∃ (f : FieldId) (cls : EngineClass) (unit : BitVec 4) (s :
      State), s.inService f.val = false ∨ engineUnit f.val cls unit.toNat = none ∨ s.flag RF.WFR_RCV_RESET_BUSY 0 0 =
      true :=
  ⟨0, .sieve, 2, up,
    by decide +kernel⟩

theorem witness_ResetsBelowTheWafer_resetCrofter : ∃ (f : FieldId) (c : CrofterId) (s : State), s.resetFree = true ∧
      s.inService f.val = true ∧ ((s.liveThreads f.val).filter (fun t => t / 8 == c.val)) = [] :=
  ⟨0, 3, up,
    by decide +kernel⟩

theorem witness_ResetsBelowTheWafer_resetCrofterRefused : ∃ (f : FieldId) (c : CrofterId) (s : State), s.inService
      f.val = false ∨ s.flag RF.WFR_RCV_RESET_BUSY 0 0 = true :=
  ⟨0, 3, up.setFlag RF.WFR_RCV_RESET_BUSY 0 0 true,
    by decide +kernel⟩

theorem witness_ResetsBelowTheWafer_resetField : ∃ (f : FieldId) (s : State), s.resetFree = true ∧ s.inService f.val
      = true ∧ s.quietField f.val = true :=
  ⟨7, up,
    by decide +kernel⟩

theorem witness_ResetsBelowTheWafer_resetFieldRefused : ∃ (f : FieldId) (s : State), s.inService f.val = false ∨
      s.flag RF.WFR_RCV_RESET_BUSY 0 0 = true :=
  ⟨7, up.setFlag RF.WFR_RCV_RESET_BUSY 0 0 true,
    by decide +kernel⟩

theorem witness_ResetsBelowTheWafer_resetParish : ∃ (p : ParishId) (s : State), s.resetFree = true ∧ s.flag
      RF.WFR_PAR_CANCEL_BUSY p.val 0 = true ∧
  (∀ g, g < 80 → (s.parishMask p.val).testBit g = true → s.inService g = true ∧ s.quietField g = true) :=
  ⟨1, ringUp.setFlag RF.WFR_PAR_CANCEL_BUSY 1 0 true,
    by decide +kernel⟩

theorem witness_ResetsBelowTheWafer_resetDoneEngine : ∃ (spine : BitVec 80) (lost : List (FieldId × BitVec 39)) (f u
      t : Nat) (rest : List (Nat × Nat × Nat)) (s : State), s.resets.running = (0, unitKey f u, t) :: rest ∧ u < 32 ∧
      (s.recent sec60 (s.engine f u).resets).length < 8 ∧ s.commons.reqs = [] :=
  ⟨0, [], 0, 17, 0, [], (onResets (fun r => { r with running := [(0, 17, 0)] }) up).setFlag RF.WFR_RCV_RESET_BUSY 0 0
      true,
    by decide +kernel⟩

theorem witness_ResetsBelowTheWafer_resetDoneField : ∃ (spine : BitVec 80) (lost : List (FieldId × BitVec 39)) (f t :
      Nat) (rest : List (Nat × Nat × Nat)) (s : State), s.resets.running = (2, f, t) :: rest ∧ f < 80 ∧
      spine.toNat.testBit f = false ∧ lost = [] ∧ s.commons.reqs = [] ∧
  (s.recent min10 (s.resets.fieldTimes.look [] f)).length < 4 ∧ s.tallies.heldAdds = [] ∧
  s.flag RF.ASY_FLD_STAT_DEFERRED f 0 = false :=
  ⟨0, [], 7, 0, [], (onResets (fun r => { r with running := [(2, 7, 0)], fields := [7] }) up).setFlag
      RF.WFR_RCV_RESET_BUSY 0 0 true,
    by decide +kernel⟩

theorem witness_HangsAndRecovery_sheafTimeout : ∃ (serial : Nat) (x : Sheaf) (s : State), s.resets.recoveries = [] ∧
      s.sheaf? serial = some x ∧ x.serial = serial ∧ s.sheafLate x = true :=
  ⟨7, { copySheaf with phase := .dispatched }, later 1000000000000 copyState,
    by decide +kernel⟩

theorem witness_HangsAndRecovery_bellIntervalEnd : ∃ (f : FieldId) (p : ParishId) (m : Nat) (s : State),
      s.resets.recoveries = [] ∧ s.bellWatched f.val p = true ∧
  m = (if !(s.crofters.bells.look quietBell f.val).gap && !(s.crofters.bells.look quietBell f.val).rang
    then (s.crofters.bells.look quietBell f.val).missed + 1 else 0) :=
  ⟨0, 1, 3, onCrofters (fun c => { c with bells := [(0, ⟨false, true, false, 2⟩)] }) (ringUp.setFlag
      RF.WFR_PAR_CTL_HANG_MODE 1 0 true),
    by decide +kernel⟩

theorem witness_HangsAndRecovery_recoveryGo : ∃  (h : Hang) (rest : List Hang) (s : State), s.resets.hangs = h ::
      rest ∧ h.go = false :=
  ⟨⟨0, 1, 0, 7, false⟩, [], onResets (fun r => { r with hangs := [⟨0, 1, 0, 7, false⟩] }) copyState,
    by decide +kernel⟩

theorem witness_HangsAndRecovery_recoveryStartSuspect : ∃ (engines : List (FieldId × Fin 32)) (crofters : List
      (FieldId × CrofterId)) (h : Hang) (f : FieldId) (u : Fin 32) (t : EngTask) (s : State), s.resets.recoveries =
      [] ∧ s.nextHang = some h ∧ s.frozen = false ∧ s.halted = false ∧ engines = [(f, u)] ∧ u.val ≤ 8 ∧
  f.val ∈ s.hangFields h ∧ s.stalled f.val u.val = true ∧ (s.engine f.val u.val).running = [t] ∧
  (s.engine f.val u.val).queue = [] ∧ s.replayable f.val u.val t = true :=
  ⟨[(0, 2)], [], ⟨1, 1, 0, 0, true⟩, 0, 2, task 1, later 1000000000000 (onResets (fun r =>
      { r with hangs := [⟨1, 1, 0, 0, true⟩] }) (running 2 1 none)),
    by decide +kernel⟩

theorem witness_HangsAndRecovery_recoveryStartNothing : ∃ (engines : List (FieldId × Fin 32)) (crofters : List
      (FieldId × CrofterId)) (h : Hang) (s : State), s.resets.recoveries = [] ∧ s.nextHang = some h ∧ s.frozen =
      false ∧ s.halted = false ∧ engines = [] ∧ crofters = [] ∧
  s.hangSheaves h = [] ∧ h.mode = 1 ∧ s.resets.deferred = [] :=
  ⟨[], [], ⟨1, 1, 0, 0, true⟩, onResets (fun r => { r with hangs := [⟨1, 1, 0, 0, true⟩] }) ringUp,
    by decide +kernel⟩

theorem witness_HangsAndRecovery_suspectReplayStart : ∃ (f : FieldId) (u : Fin 32) (x : Recovery) (r : Replay) (t :
      EngTask) (rest : List EngTask) (s : State), s.replayOf f.val u.val = some (x, r) ∧ r.current = none ∧ (s.engine
      f.val u.val).running = [] ∧
  (s.engine f.val u.val).queue = [] ∧ s.fieldRuns f.val = true ∧ (s.engine f.val u.val).suspects = t :: rest ∧
  u.val ≠ unitLoom ∧ t.status = none :=
  ⟨0, 2, replayJob none, ⟨0, 2, none, 0, none, none⟩, task 1, [], suspectsAt none [task 1],
    by decide +kernel⟩

theorem witness_HangsAndRecovery_suspectCheckpoint : ∃ (f : FieldId) (u : Fin 32) (x : Recovery) (r : Replay) (n :
      Nat) (s : State), s.replayOf f.val u.val = some (x, r) ∧ r.current = some n ∧ s.atCheckpoint f.val u.val n
      r.mark = true ∧
  (s.engine f.val u.val).suspects ≠ [] :=
  ⟨0, 2, replayJob (some 4), ⟨0, 2, some 4, 0, none, none⟩, 4, suspectsAt (some 4) [task 1],
    by decide +kernel⟩

theorem witness_HangsAndRecovery_suspectCheckpointLast : ∃ (f : FieldId) (u : Fin 32) (x : Recovery) (r : Replay) (n
      : Nat) (s : State), s.resets.recoveries = [x] ∧ x.engines = [r] ∧ r.field = f.val ∧ r.unit = u.val ∧ r.current
      = some n ∧
  s.atCheckpoint f.val u.val n r.mark = true ∧ (s.engine f.val u.val).suspects = [] ∧ s.resets.deferred = [] ∧
  x.timers = [] ∧ x.hang.mode = 1 ∧ (s.recent sec60 (s.engine f.val u.val).resets).length < 8 :=
  ⟨0, 2, replayJob (some 4), ⟨0, 2, some 4, 0, none, none⟩, 4, suspectsAt (some 4) [],
    by decide +kernel⟩

theorem witness_HangsAndRecovery_replayBoundExpire : ∃ (f : FieldId) (u : Fin 32) (cycles : Nat) (x : Recovery) (r :
      Replay) (t : EngTask) (s : State), s.replayOf f.val u.val = some (x, r) ∧ r.current = some t.serial ∧ u.val ≤ 8
      ∧ s.overBound r cycles = true ∧
  s.atCheckpoint f.val u.val t.serial r.mark = false ∧
  ((s.engine f.val u.val).running ++ (s.engine f.val u.val).queue).find? (fun k => k.serial == t.serial) = some t ∧
  t.sheaf = none ∧ t.outputs = [] ∧ descStatusEn t.desc = false ∧ descCtEn t.desc = false ∧
  (s.engine f.val u.val).suspects ≠ [] :=
  ⟨0, 2, 0, replayJob (some 5), ⟨0, 2, some 5, 0, none, none⟩, task 1, later 100000000 ((suspectsAt (some 5)
      [{ task 1 with serial := 6 }]).modEngine 0 2 (fun e => { e with queue := [task 1] })),
    by decide +kernel⟩

theorem witness_HangsAndRecovery_unitFaultEngine : ∃ (f : FieldId) (x : FaultUnit) (cls : EngineClass) (n : BitVec 4)
      (u : Nat) (s : State), x = .engine cls n ∧ s.inService f.val = true ∧ engineUnit f.val cls n.toNat = some u ∧
      s.fenced f.val u = false ∧
  s.frozen = false ∧ s.resets.recoveries = [] ∧ (s.engine f.val u).running = [] ∧ (s.engine f.val u).suspects = [] ∧
  (s.engine f.val u).queue = [] ∧ (s.cairn f.val).job = none :=
  ⟨3, .engine .quern 2, .quern, 2, 2, up,
    by decide +kernel⟩

theorem witness_HangsAndRecovery_unitFaultCrofter : ∃ (f : FieldId) (x : FaultUnit) (c : CrofterId) (s : State), x =
      .crofter c ∧ s.inService f.val = true ∧ s.frozen = false ∧ s.resets.recoveries = [] ∧
  ((s.liveThreads f.val).filter (fun t => t / 8 == c.val)) = [] ∧ bit (s.rd .WFR_FLDf_STATUS 0 f.val) (32 + c.val) =
      false :=
  ⟨3, .crofter 5, 5, up,
    by decide +kernel⟩

theorem witness_HostResetsAndConfiguration_perstAssert : ∃ (hot : Bool) (s : State), s.seq.sheaves = [] ∧ s.busyUnits
      = [] :=
  ⟨false, up,
    by decide +kernel⟩

theorem witness_HostResetsAndConfiguration_h0LinkDown : ∃  (s : State), s.seq.sheaves = [] ∧ s.busyUnits = [] :=
  ⟨up.setFlag RF.HST_PORT_H0_UP 0 0 true,
    by decide +kernel⟩

theorem witness_HostResetsAndConfiguration_vfFlr : ∃ (p : ParishId) (s : State), s.host.ready = true ∧ s.fnOn (p.val
      + 1) = true ∧ s.seq.sheaves = [] ∧ s.busyUnits = [] :=
  ⟨1, onHostPort (fun h => { h with ready := true }) ringUp,
    by decide +kernel⟩

theorem witness_HostResetsAndConfiguration_pfFlr : ∃  (s : State), s.host.ready = true ∧ s.seq.sheaves = [] ∧
      s.busyUnits = [] :=
  ⟨onHostPort (fun h => { h with ready := true }) ringUp,
    by decide +kernel⟩

theorem witness_HostResetsAndConfiguration_h0Ready : ∃ (width : Fin 4) (speed : Fin 6) (s : State), s.h0MayStart =
      true ∧ s.host.ready = false :=
  ⟨3, 4, onBoot (fun b => { b with perst := false }) up,
    by decide +kernel⟩

theorem witness_HostResetsAndConfiguration_h0ConfigRequestWrite : ∃ (fn : FnId) (reg : CfgReg) (write : Option
      (BitVec 32)) (v : BitVec 32) (s : State), s.host.ready = true ∧ s.fnOn fn.val = true ∧ write = some v ∧
      s.host.msixPending = [] :=
  ⟨0, .numVfs, some 3, 3, onHostPort (fun h => { h with ready := true }) up,
    by decide +kernel⟩

theorem witness_HostResetsAndConfiguration_atsInvalidateRequest : ∃ (fn : FnId) (s : State), s.host.ready = true ∧
      s.fnOn fn.val = true ∧ s.host.ats.contains fn.val = true :=
  ⟨0, onHostPort (fun h => { h with ready := true, ats := [0] }) up,
    by decide +kernel⟩

theorem witness_HostResetsAndConfiguration_msixUnmask : ∃ (fn : FnId) (entry : Fin 64) (mask : Bool) (s : State),
      s.host.ready = true ∧ s.fnOn fn.val = true ∧ entry.val < msixEntries fn.val :=
  ⟨0, 5, true, onHostPort (fun h => { h with ready := true }) up,
    by decide +kernel⟩

theorem witness_HostResetsAndConfiguration_msixUnmaskPending : ∃ (fn : FnId) (entry : Fin 64) (mask : Bool) (s :
      State), s.host.ready = true ∧ s.fnOn fn.val = true ∧ entry.val < msixEntries fn.val ∧ mask = false ∧
  s.host.msixPending.filter (fun k => k == fn.val * 2048 + entry.val) = [fn.val * 2048 + entry.val] ∧
  s.host.msixFnMask.contains fn.val = false :=
  ⟨0, 5, false, onHostPort (fun h => { h with ready := true, msixPending := [5] }) up,
    by decide +kernel⟩

theorem witness_HostAccessesAndDma_bar2AccessRead : ∃ (fn : FnId) (offset : BitVec 36) (op : RegOp) (n g region off
      addr : Nat) (s : State), s.host.ready = true ∧ s.fnOn fn.val = true ∧ offset.toNat < s.bar2Bytes fn.val ∧
      s.h0Frozen = false ∧ op = .read n ∧
  addr = s.getF RF.HST_FN_WIN_BASE_BASE fn.val 0 * 65536 + offset.toNat ∧ 0 < n ∧ n ≤ 64 - addr % 64 ∧
  s.reachesPlain (s.fnSource fn.val) addr n false false g region off = true ∧ s.host.reads = [] :=
  ⟨0, 64#36, .read 8, 8, 0, 1, 64, 0x40000000040, sramWindow,
    by decide +kernel⟩

theorem witness_HostAccessesAndDma_bar2AccessWrite : ∃ (fn : FnId) (offset : BitVec 36) (op : RegOp) (d : List Byte)
      (g region off addr : Nat) (s : State), s.host.ready = true ∧ s.fnOn fn.val = true ∧ offset.toNat < s.bar2Bytes
      fn.val ∧ s.h0Frozen = false ∧ op = .write d ∧
  addr = s.getF RF.HST_FN_WIN_BASE_BASE fn.val 0 * 65536 + offset.toNat ∧ 0 < d.length ∧ d.length ≤ 64 - addr % 64 ∧
  s.reachesPlain (s.fnSource fn.val) addr d.length true false g region off = true :=
  ⟨0, 64#36, .write [1#8, 2#8], [1#8, 2#8], 0, 1, 64, 0x40000000040, sramWindow,
    by decide +kernel⟩

theorem witness_HostAccessesAndDma_bar2AccessFrozen : ∃ (fn : FnId) (offset : BitVec 36) (op : RegOp) (addr : Nat) (s
      : State), s.host.ready = true ∧ s.fnOn fn.val = true ∧ offset.toNat < s.bar2Bytes fn.val ∧ s.h0Frozen = true ∧
  addr = s.getF RF.HST_FN_WIN_BASE_BASE fn.val 0 * 65536 + offset.toNat ∧ s.aliveAddr addr = false :=
  ⟨0, 64#36, .read 8, 0x40000000040, sramWindow.setF RF.ASY_FRZ_STAT_STATE 0 0 2,
    by decide +kernel⟩

theorem witness_HostAccessesAndDma_barReadDeadline : ∃ (id : Nat) (x : BarRead) (s : State), s.host.reads.find? (fun
      y => y.id == id) = some x ∧ 3000000 ≤ s.now - x.since ∧ x.fn < 33 :=
  ⟨4, ⟨4, 0, 64, 8, [(4, none)], false, 0⟩, later 4000000 (onHostPort (fun h =>
      { h with reads := [⟨4, 0, 64, 8, [(4, none)], false, 0⟩] }) up),
    by decide +kernel⟩

theorem witness_HostAccessesAndDma_dmaDoorbell : ∃ (fn : FnId) (q : Fin 2) (v : BitVec 16) (s : State), s.host.ready
      = true ∧ s.fnOn fn.val = true ∧ s.h0Frozen = false ∧ s.host.flr.contains fn.val = false :=
  ⟨0, 1, 5#16, dmaUp,
    by decide +kernel⟩

theorem witness_HostAccessesAndDma_dmaDoorbellHeld : ∃ (fn : FnId) (q : Fin 2) (v : BitVec 16) (s : State),
      s.host.ready = true ∧ s.fnOn fn.val = true ∧ s.h0Frozen = true ∧ s.host.held.length < 256 :=
  ⟨0, 1, 5#16, dmaUp.setF RF.ASY_FRZ_STAT_STATE 0 0 2,
    by decide +kernel⟩

theorem witness_HostAccessesAndDma_dmaDescFetch : ∃ (fn : FnId) (q : Fin 2) (a : HostAnswer) (refused : Bool) (d :
      List Byte) (addr : Nat) (s : State), s.dmaReady fn.val q.val = true ∧ a = .data d ∧ d.length = 32 ∧ dmaOk d =
      false ∧
  addr = s.getF RF.HST_FN_DMAq_BASE_BASE fn.val q.val * 4096 + s.getF RF.HST_FN_DMAq_CTL_HEAD fn.val q.val * 32 :=
  ⟨0, 1, .data (List.replicate 32 0xFF#8), false, List.replicate 32 0xFF#8, 0, dmaUp,
    by decide +kernel⟩

theorem witness_HostAccessesAndDma_dmaDescFetchIn : ∃ (fn : FnId) (q : Fin 2) (a : HostAnswer) (refused : Bool) (d :
      List Byte) (addr : Nat) (s : State), s.dmaReady fn.val q.val = true ∧ a = .data d ∧ d.length = 32 ∧ dmaOk d =
      true ∧ refused = false ∧ dOut d = false ∧
  addr = s.getF RF.HST_FN_DMAq_BASE_BASE fn.val q.val * 4096 + s.getF RF.HST_FN_DMAq_CTL_HEAD fn.val q.val * 32 ∧
  dLength d ≤ 4096 - dHost d % 4096 ∧ s.freeTags ≠ [] :=
  ⟨0, 1, .data (dmaIn), false, dmaIn, 0, dmaUp,
    by decide +kernel⟩

theorem witness_HostAccessesAndDma_dmaDescFetchFailed : ∃ (fn : FnId) (q : Fin 2) (a : HostAnswer) (refused : Bool)
      (s : State), s.dmaReady fn.val q.val = true ∧ (∀ d, a ≠ .data d) :=
  ⟨0, 1, .poison, false, dmaUp,
    ⟨by decide +kernel, by intro d h; cases h⟩⟩

theorem witness_HostAccessesAndDma_dmaDescComplete : ∃ (fn : FnId) (q : Fin 2) (j : DmaJob) (code h : Nat) (s :
      State), s.dmaDone fn.val q.val = some (j, code) ∧ s.fnOn fn.val = true ∧ s.host.ready = true ∧ s.h0Frozen =
      false ∧
  dCtEn j.desc = false ∧ dIrq j.desc = false ∧ h = s.getF RF.HST_FN_DMAq_CTL_HEAD fn.val q.val :=
  ⟨0, 1, ⟨dmaIn, 16, 0, some 0x10⟩, 16, 0, dmaRuns (some 0x10) [],
    by decide +kernel⟩

theorem witness_HostAccessesAndDma_hostCompletionArriveNoData : ∃ (tag : BitVec 10) (a : HostAnswer) (t : HostTag) (j
      : DmaJob) (s : State), s.host.tags.find? (fun x => x.tag == tag.toNat) = some t ∧ (s.dmaQ t.fn t.queue).job =
      some j ∧ j.code = none :=
  ⟨256, .poison, ⟨256, 0, 1, 0, 16, 0⟩, ⟨dmaIn, 16, 0, none⟩, dmaRuns none [⟨256, 0, 1, 0, 16, 0⟩],
    by decide +kernel⟩

theorem witness_HostAccessesAndDma_hostCompletionArriveData : ∃ (tag : BitVec 10) (a : HostAnswer) (t : HostTag) (j :
      DmaJob) (d : List Byte) (s2 : State) (s : State), s.host.tags.find? (fun x => x.tag == tag.toNat) = some t ∧
      (s.dmaQ t.fn t.queue).job = some j ∧ a = .data d ∧
  d.length = t.size ∧ j.next = dLength j.desc ∧
  (s.modHost (fun h => { h with tags := h.tags.filter (fun x => x.tag != t.tag) })).bulkWrite (s.fnSource t.fn)
    (dCommons j.desc + t.offset) d = (s2, none) :=
  ⟨256, .data (List.replicate 16 7#8), ⟨256, 0, 1, 0, 16, 0⟩, ⟨dmaIn, 16, 0, none⟩, List.replicate 16 7#8,
      ((((dmaRuns none [⟨256, 0, 1, 0, 16, 0⟩]).modHost
    (fun h => { h with tags := h.tags.filter (fun x => x.tag != 256) })).bulkWrite srcPf
    (dCommons dmaIn) (List.replicate 16 7#8)).1), dmaRuns none [⟨256, 0, 1, 0, 16, 0⟩],
    by decide +kernel⟩

theorem witness_HostAccessesAndDma_hostCompletionTimeout : ∃ (tag : BitVec 10) (t : HostTag) (j : DmaJob) (s :
      State), s.host.tags.find? (fun x => x.tag == tag.toNat) = some t ∧ s.cto ≤ s.now - t.since ∧
  (s.dmaQ t.fn t.queue).job = some j ∧ j.code = none :=
  ⟨256, ⟨256, 0, 1, 0, 16, 0⟩, ⟨dmaIn, 16, 0, none⟩, later 1000000000000 (dmaRuns none [⟨256, 0, 1, 0, 16, 0⟩]),
    by decide +kernel⟩

theorem witness_HostAccessesAndDma_tagDrainExpire : ∃ (fn : FnId) (s : State), s.host.drain.contains fn.val = true :=
  ⟨0, onHostPort (fun h => { h with drain := [0] }) (dmaRuns none [⟨256, 0, 1, 0, 16, 0⟩]),
    by decide +kernel⟩

theorem witness_FieldAndPerformanceStates_fldTransitionDone : ∃ (f : FieldId) (n : Nat) (s : State),
      s.power.fldTarget.look 0 f.val = n + 1 ∧ n < 4 ∧ s.stopped f.val = false ∧ s.halted = false ∧ s.commons.reqs =
      [] ∧
  (s.fieldPower f.val = 3 → n = 3) :=
  ⟨3, 0, { up.setF RF.PWR_FLD_STAT_STATE 3 0 1 with power := { up.power with fldTarget := [(3, 1)] } },
    by decide +kernel⟩

theorem witness_FieldAndPerformanceStates_pstateClockSwitch : ∃  (s : State), s.pBusy = true ∧ s.power.switched =
      false ∧ s.frozen = false ∧ s.halted = false ∧ s.power.waiting = [] :=
  ⟨(up.setFlag RF.PWR_PSTATE_BUSY 0 0 true).setF RF.PWR_PSTATE_TARGET 0 0 3,
    by decide +kernel⟩

theorem witness_FieldAndPerformanceStates_pstateRailSettled : ∃  (s : State), s.pBusy = true ∧ (s.power.switched =
      true ∨ s.pTarget < s.pCurrent) ∧ s.power.waiting = [] ∧
  (s.power.switched = true → s.pTarget = s.pCurrent) :=
  ⟨(up.setFlag RF.PWR_PSTATE_BUSY 0 0 true).setF RF.PWR_PSTATE_CURRENT 0 0 3,
    by decide +kernel⟩

theorem witness_ModuleStatesAndWake_modTargetStandby : ∃ (src : Fin 3) (s : State), s.modReady = true ∧ s.modState =
      1 ∧ s.seq.sheaves = [] ∧ s.busyUnits = [] ∧
  (∀ k, k < 56 → s.linkState k = lsDown ∨ s.linkState k = lsPcie) ∧ s.flag RF.HBM_GRAN_CTL_LINK_UP 0 0 = false :=
  ⟨1, up.setF RF.PWR_MOD_STAT_STATE 0 0 1,
    by decide +kernel⟩

theorem witness_ModuleStatesAndWake_modTargetStandbyRefused : ∃ (src : Fin 3) (s : State), s.pBusy = false ∧
      (s.modReady = false ∨ s.modState ≠ 1 ∨ s.seq.sheaves ≠ []) :=
  ⟨1, up,
    by decide +kernel⟩

theorem witness_ModuleStatesAndWake_modTargetOffRefused : ∃ (src : Fin 3) (s : State), s.pBusy = false ∧ s.boot.stage
      ≠ .off ∧ (2 < s.modState ∨ s.power.target.isSome = true) :=
  ⟨1, up.setF RF.PWR_MOD_STAT_STATE 0 0 3,
    by decide +kernel⟩

theorem witness_ModuleStatesAndWake_drowsyDrainDone : ∃  (s : State), s.power.target = some 1 ∧ s.modState = 3 ∧
      s.allIdle = true ∧ s.power.asleep = false ∧ s.power.recorded = false :=
  ⟨{ up.setF RF.PWR_MOD_STAT_STATE 0 0 3 with power := { up.power with target := some 1 } },
    by decide +kernel⟩

theorem witness_ModuleStatesAndWake_drainMsExpire : ∃  (s : State), s.power.target = some 1 ∧ s.modState = 3 ∧
      s.allIdle = false ∧
  max 1 (s.getF RF.PWR_MOD_CTL_DRAIN_MS 0 0) * 1000000 ≤ s.now - s.power.since :=
  ⟨later 1000000000000
      { (running 2 1 none).setF RF.PWR_MOD_STAT_STATE 0 0 3 with power := { up.power with target := some 1 } },
    by decide +kernel⟩

theorem witness_ModuleStatesAndWake_modTransitionDone : ∃  (t : Nat) (s : State), s.power.target = some t ∧ t < 3 ∧
      s.frozen = false ∧ s.halted = false ∧ (t = 1 → s.modState ≠ 3) ∧
  (s.power.asleep = false ∨ t = 2) ∧ s.power.recorded = false ∧ s.commons.reqs = [] :=
  ⟨0, { up.setF RF.PWR_MOD_STAT_STATE 0 0 4 with power := { up.power with target := some 0 } },
    by decide +kernel⟩

theorem witness_ModuleStatesAndWake_wakeEdge : ∃ (n : Fin 8) (rising : Bool) (t : Nat) (s : State), s.modState = 2 ∧
      (s.getF RF.PWR_WAKE_ARM_MASK 0 0).testBit n.val = true ∧ s.edgeQualifies n.val rising = true ∧
  s.modReady = true ∧ s.getF RF.PWR_WAKE_ARM_TARGET 0 0 = t ∧ t ≤ 1 :=
  ⟨3, true, 0, ((up.setF RF.PWR_MOD_STAT_STATE 0 0 2).setF RF.PWR_WAKE_ARM_MASK 0 0 8).wr .GPIO_IRQ_MODE_LO 0 0
      0x600#64,
    by decide +kernel⟩

theorem witness_EnergyDroopAndHeat_estimatorInterval : ∃ (acts : List Activity) (e : Nat) (s : State), s.frozen =
      false ∧ s.boot.stage = .ready ∧ s.power.asleep = false ∧ e = ((s.intervalCharges acts).map (·.energy)).sum :=
  ⟨[⟨3, none, false, 0, 0, 0, 0, 0, 0, 0, 0, 0⟩], 18800000, (up.setFlag RF.PWR_CAP_CTL_ENABLE 0 0 true).setF
      RF.PWR_GATE_GATE 0 0 3,
    by decide +kernel⟩

theorem witness_EnergyDroopAndHeat_droopDetect : ∃ (f : FieldId) (s : State), s.inService f.val = true ∧ s.flag
      RF.PWR_FLD_STAT_STRETCHING f.val 0 = false :=
  ⟨3, up,
    by decide +kernel⟩

theorem witness_EnergyDroopAndHeat_droopRelease : ∃ (f : FieldId) (cycles : Nat) (s : State), s.flag
      RF.PWR_FLD_STAT_STRETCHING f.val 0 = true :=
  ⟨3, 90, up.setFlag RF.PWR_FLD_STAT_STRETCHING 3 0 true,
    by decide +kernel⟩

theorem witness_EnergyDroopAndHeat_thermalTrip : ∃ (kind : Fin 3) (field : BitVec 7) (s : State), s.halted = false ∧
      s.boot.stage = .ready :=
  ⟨2, 9#7, up,
    by decide +kernel⟩

theorem witness_EnergyDroopAndHeat_thermalTripBoot : ∃ (kind : Fin 3) (field : BitVec 7) (s : State), s.halted =
      false ∧ s.boot.stage = .hbm :=
  ⟨1, 9#7, atStage .hbm,
    by decide +kernel⟩

theorem witness_EnergyDroopAndHeat_thermResume : ∃ (cool : Bool) (s : State), s.halted = true ∧ s.seq.doorbells = []
      ∧ s.resets.waiting = [] :=
  ⟨true, up.setFlag RF.PWR_MOD_STAT_HALTED 0 0 true,
    by decide +kernel⟩

theorem witness_CommonsAccessesAndFreshMemory_commonsAccessRead : ∃ (src : Source) (addr : BitVec 57) (kind :
      AccessKind) (tag : Nat) (n g region off : Nat) (s : State), kind = .read n ∧ s.reachesPlain src addr.toNat n
      false false g region off = true :=
  ⟨srcPf, 0x40000000040, .read 8, 3, 8, 0, 1, 64, sramWindow,
    by decide +kernel⟩

theorem witness_CommonsAccessesAndFreshMemory_commonsAccessWrite : ∃ (src : Source) (addr : BitVec 57) (kind :
      AccessKind) (tag : Nat) (d : List Byte) (bad : Bool) (g region off : Nat) (s : State), kind = .write d bad ∧
      s.reachesPlain src addr.toNat d.length true false g region off = true :=
  ⟨srcPf, 0x40000000040, .write [1#8, 2#8] false, 3, [1#8, 2#8], false, 0, 1, 64, sramWindow,
    by decide +kernel⟩

theorem witness_CommonsAccessesAndFreshMemory_commonsAccessFails : ∃ (src : Source) (addr : BitVec 57) (kind :
      AccessKind) (tag : Nat) (st : AccStatus) (tgt : Option Nat) (s : State), s.locate src addr.toNat kind.size
      kind.writes kind.atomic = .fail st tgt ∧ s.commons.spreadDrain = [] :=
  ⟨srcPf, 0x38000000000, .read 8, 3, .addrInvalid, some 0, up,
    by decide +kernel⟩

theorem witness_CommonsAccessesAndFreshMemory_freshFillDone : ∃ (f : FieldId) (g : BitVec 19) (x : Fill) (d : List
      Byte) (bad : Bool) (o : Nat) (s : State), s.commons.fills = [x] ∧ x.field = f.val ∧ x.granule = g.toNat ∧
      x.waiting = [] ∧ s.stopped f.val = false ∧
  s.commons.reqs = [] ∧ x.opener.kind = .write d bad ∧ x.opener.sink = .none ∧ x.opener.reply = none ∧
  s.placeAnyway x.opener.addr = (f.val, 0, o) ∧ 0 < d.length ∧ o / 65536 = g.toNat ∧
  (o + d.length - 1) / 65536 = g.toNat ∧ s.zeroing f.val 0 o = false :=
  ⟨0, 1#19, fillOf, [1#8], false, 65600, onCommons (fun c => { c with fills := [fillOf] }) up,
    by decide +kernel⟩

theorem witness_CommonsAccessesAndFreshMemory_freshMapFault : ∃ (f : FieldId) (word : BitVec 13) (s : State),
      s.inService f.val = true ∧ s.stopped f.val = false :=
  ⟨2, 9#13, up,
    by decide +kernel⟩

theorem witness_CommonsAccessesAndFreshMemory_freshFaultZeroDone : ∃ (f : FieldId) (word : BitVec 13) (s : State),
      s.commons.faulting.contains (f.val, word.toNat) = true ∧ s.stopped f.val = false ∧ s.commons.reqs = [] :=
  ⟨2, 9#13, onCommons (fun c => { c with faulting := [(2, 9)] }) up,
    by decide +kernel⟩

theorem witness_CommonsAccessesAndFreshMemory_e2eTrackedRequest : ∃ (f : FieldId) (rack : BitVec 7) (src : Source)
      (txseq : BitVec 24) (tOrig : BitVec 32) (req : TrackedReq) (x : E2eHeld) (a : BitVec 57) (d : List Byte) (bad :
      Bool) (g region off : Nat) (s : State), x = ⟨f.val, rack.toNat, src, txseq.toNat, tOrig.toNat, req⟩ ∧ req =
      .write a d bad ∧ s.fieldMode f.val = 0 ∧
  (s.verne.filters.look [] x.key).find? (fun e => decide (e.srcField = x.source ∧ e.txseq = x.txseq)) = none ∧
  s.stale x = false ∧ s.fieldHolds f.val = false ∧ s.fieldsUp = true ∧ s.e2eFull x = false ∧
  s.reachesPlain src a.toNat d.length true false g region off = true :=
  ⟨0, 0, e2eSrc, 5#24, 0#32, .write 0x40000000040 [7#8] false, ⟨0, 0, e2eSrc, 5, 0, .write 0x40000000040 [7#8]
      false⟩, 0x40000000040, [7#8], false, 0, 1, 64, sramWindow,
    by decide +kernel⟩

theorem witness_CommonsAccessesAndFreshMemory_e2eTrackedRequestAgain : ∃ (f : FieldId) (rack : BitVec 7) (src :
      Source) (txseq : BitVec 24) (tOrig : BitVec 32) (req : TrackedReq) (x : E2eHeld) (e : E2eEntry) (a : BitVec 57)
      (d : List Byte) (bad : Bool) (s : State), x = ⟨f.val, rack.toNat, src, txseq.toNat, tOrig.toNat, req⟩ ∧ req =
      .write a d bad ∧ s.fieldMode f.val = 0 ∧
  (s.verne.filters.look [] x.key).find? (fun y => decide (y.srcField = x.source ∧ y.txseq = x.txseq)) = some e :=
  ⟨0, 0, e2eSrc, 5#24, 0#32, .write 0x40000000040 [7#8] false, ⟨0, 0, e2eSrc, 5, 0, .write 0x40000000040 [7#8]
      false⟩, ⟨0, 5, 0, some ⟨.ok, false, []⟩⟩, 0x40000000040, [7#8], false, onVerne (fun v =>
      { v with filters := [(1, [⟨0, 5, 0, some ⟨.ok, false, []⟩⟩])] }) sramWindow,
    by decide +kernel⟩

theorem witness_CommonsAccessesAndFreshMemory_e2eTrackedRequestRefused : ∃ (f : FieldId) (rack : BitVec 7) (src :
      Source) (txseq : BitVec 24) (tOrig : BitVec 32) (req : TrackedReq) (x : E2eHeld) (a : BitVec 57) (d : List
      Byte) (bad : Bool) (s : State), x = ⟨f.val, rack.toNat, src, txseq.toNat, tOrig.toNat, req⟩ ∧ req = .write a d
      bad ∧ (s.fieldMode f.val ≠ 0 ∨
  ((s.verne.filters.look [] x.key).find? (fun y => decide (y.srcField = x.source ∧ y.txseq = x.txseq)) = none ∧
    s.stale x = true)) :=
  ⟨3, 0, e2eSrc, 5#24, 0#32, .write 0x40000000040 [7#8] false, ⟨3, 0, e2eSrc, 5, 0, .write 0x40000000040 [7#8]
      false⟩, 0x40000000040, [7#8], false, up.setF RF.WFR_FLDf_STATUS_STATE 0 3 1,
    by decide +kernel⟩

theorem witness_CommonsAccessesAndFreshMemory_e2eFilterRelease : ∃ (f : FieldId) (x : E2eHeld) (a : BitVec 57) (d :
      List Byte) (bad : Bool) (g region off : Nat) (s : State), s.verne.waiting.find? (fun y => decide (y.field =
      f.val)) = some x ∧ x.req = .write a d bad ∧ s.fieldHolds f.val = false ∧
  s.fieldsUp = true ∧ s.e2eFull x = false ∧ s.reachesPlain x.src a.toNat d.length true false g region off = true :=
  ⟨0, ⟨0, 0, e2eSrc, 5, 0, .write 0x40000000040 [7#8] false⟩, 0x40000000040, [7#8], false, 0, 1, 64, onVerne (fun v
      => { v with waiting := [⟨0, 0, e2eSrc, 5, 0, .write 0x40000000040 [7#8] false⟩] }) sramWindow,
    by decide +kernel⟩

theorem witness_SpreadTableAndRoutes_spreadDisable : ∃  (s : State), s.spreadOn = true :=
  ⟨up.setFlag RF.WFR_SPREAD_CTL_ENABLE 0 0 true,
    by decide +kernel⟩

theorem witness_SpreadTableAndRoutes_spreadDrained : ∃  (s : State), s.flag RF.WFR_SPREAD_CTL_BUSY 0 0 = true ∧
  s.allReqs.any (fun r => s.commons.spreadDrain.contains r.id && r.reply.isNone) = false :=
  ⟨up.setFlag RF.WFR_SPREAD_CTL_BUSY 0 0 true,
    by decide +kernel⟩

theorem witness_SpreadTableAndRoutes_spreadMarkLost : ∃ (f : FieldId) (k : Nat) (s : State),
      s.commons.spreadMarks.contains f.val = true ∧ s.frozen = false ∧ s.slotOf f.val = k ∧ k ≠ 0x7F :=
  ⟨3, 2, onCommons (fun c => { c with spreadMarks := [3] }) (((up.setF RF.WFR_SPREAD_GEN_GEN 0 0 1).setF
  RF.WFR_SPREAD_SLOTS_S 0 0 4).setSlotEntry 2 0x8003),
    by decide +kernel⟩

theorem witness_SpreadTableAndRoutes_sroWindowWrite : ∃ (p : ParishId) (w : Fin 16) (limit : Bool) (v : Word) (s :
      State), s.commons.sroCopy.contains p.val = false :=
  ⟨1, 3, false, 0x40000010001#64, up,
    by decide +kernel⟩

theorem witness_SpreadTableAndRoutes_sroCopyDone : ∃ (p : ParishId) (s : State), s.commons.sroCopy.contains p.val =
      true :=
  ⟨1, onCommons (fun c => { c with sroCopy := [1] }) up,
    by decide +kernel⟩

theorem witness_SpreadTableAndRoutes_sroInvStart : ∃ (f : FieldId) (s : State), s.inService f.val = true :=
  ⟨3, up,
    by decide +kernel⟩

theorem witness_SpreadTableAndRoutes_sroInvDone : ∃ (f : FieldId) (s : State), s.commons.sroInv.contains f.val = true
      :=
  ⟨3, onCommons (fun c => { c with sroInv := [3] }) up,
    by decide +kernel⟩

theorem witness_SpreadTableAndRoutes_routeRebuild : ∃  (s : State), s.commons.seamDirty = true ∧ s.frozen = false ∧
      s.worstField = none ∧ s.commons.reqs = [] :=
  ⟨onCommons (fun c => { c with seamDirty := true }) onlyFour,
    by decide +kernel⟩

theorem witness_SpreadTableAndRoutes_threadStart : ∃ (f : FieldId) (l : Launch) (k : Nat) (s : State), s.fieldRuns
      f.val = true ∧ s.fieldPower f.val = 0 ∧
  s.crofters.launches.find? (fun y => decide (y.field = f.val) && decide (y.next < y.last)) = some l ∧
  s.freeSlot f.val = some k :=
  ⟨0, launchOf, 0, onCrofters (fun c => { c with launches := [launchOf] }) up,
    by decide +kernel⟩

theorem witness_ReeveCommandsAnswer_reeveGetStatus : ∃ (src : MbxSource) (s : State), s.mbxTakes src 0x01 [.pf,
      .smbus, .tap] = true :=
  ⟨.smbus, up,
    by decide +kernel⟩

theorem witness_ReeveCommandsAnswer_reeveGetNonce : ∃ (src : MbxSource) (s : State), s.mbxTakes src 0x02 [.pf,
      .smbus, .tap] = true :=
  ⟨.pf, up.setF RF.RVE_RNG_STAT_STATE 0 0 1,
    by decide +kernel⟩

theorem witness_ReeveCommandsAnswer_reeveGetNonceRejected : ∃ (src : MbxSource) (s : State), src = .pf ∧ s.boot.stage
      ≠ .off ∧ s.flag RF.RVE_MBX_STAT_BUSY 0 0 = true ∧ s.reeve.posted ≠ some 0x02 :=
  ⟨.pf, up.setFlag RF.RVE_MBX_STAT_BUSY 0 0 true,
    by decide +kernel⟩

theorem witness_ReeveCommandsAnswer_tenantBind : ∃ (src : MbxSource) (p : ParishId) (tag : Word) (epoch : BitVec 32)
      (physical : Bool) (digest : Option (List Byte)) (l : List Nat) (s : State), s.mbxTakes src 0x10 [.pf] = true ∧
      (digest = none ∨ digest.map (·.length) = some 48) ∧ s.bindRefusal p.val = mbxOk ∧
  s.flag RF.RVE_LIFECYCLE_DEBUG_UNLOCKED 0 0 = false ∧ s.entropyReady = true ∧
  s.binding p.val ≠ some (tag.toNat, epoch.toNat) ∧ (s.flag RF.RVE_PARp_BIND_BOUND 0 p.val = true →
    epochNewer (s.getF RF.RVE_PARp_BIND_KEY_EPOCH 0 p.val) epoch.toNat = true) ∧
  s.getF RF.WFR_SPREAD_CTL_OWNER 0 0 ≠ p.val ∧ l = (s.parishFields p.val).filter (fun f => decide (s.owner f ≠ none))
      ∧ l ≠ [] :=
  ⟨.pf, 1, 7#64, 9#32, false, none, [0], bindable,
    by decide +kernel⟩

theorem witness_ReeveCommandsAnswer_tenantBindRefused : ∃ (src : MbxSource) (p : ParishId) (tag : Word) (epoch :
      BitVec 32) (physical : Bool) (digest : Option (List Byte)) (s : State), s.mbxTakes src 0x10 [.pf] = true ∧
      (digest = none ∨ digest.map (·.length) = some 48) ∧ s.bindRefusal p.val ≠ mbxOk :=
  ⟨.pf, 1, 7#64, 9#32, false, none, ringUp,
    by decide +kernel⟩

theorem witness_ReeveCommandsAnswer_tenantBindDenied : ∃ (src : MbxSource) (p : ParishId) (tag : Word) (epoch :
      BitVec 32) (physical : Bool) (digest : Option (List Byte)) (s : State), src ≠ .pf ∧ s.boot.stage ≠ .off ∧
      s.beforeReeve = false :=
  ⟨.smbus, 1, 7#64, 9#32, false, none, up,
    by decide +kernel⟩

theorem witness_ReeveCommandsAnswer_tenantRelease : ∃ (src : MbxSource) (p : ParishId) (physical : Bool) (l : List
      Nat) (s : State), s.mbxTakes src 0x11 [.pf] = true ∧ s.bindRefusal p.val = mbxOk ∧
  l = (s.parishFields p.val).filter (fun f => decide (s.owner f ≠ none) && decide (s.owner f = s.binding p.val)) ∧ l
      ≠ [] :=
  ⟨.pf, 1, true, [0], releasable,
    by decide +kernel⟩

theorem witness_ReeveCommandsAnswer_tenantReleaseRefused : ∃ (src : MbxSource) (p : ParishId) (physical : Bool) (s :
      State), s.mbxTakes src 0x11 [.pf] = true ∧ s.bindRefusal p.val ≠ mbxOk :=
  ⟨.pf, 1, true, ringUp,
    by decide +kernel⟩

theorem witness_ReeveCommandsAnswer_assayGrant : ∃ (src : MbxSource) (p : ParishId) (sg : Signed) (ok : Bool) (s :
      State), s.mbxTakes src 0x12 [.pf] = true ∧ ok = (s.flag RF.RVE_PARp_BIND_TENANT_KEY 0 p.val && s.flag
      RF.RVE_PARp_BIND_BOUND 0 p.val &&
  decide (s.lifecycle = lcDeployed)) :=
  ⟨.pf, 1, ⟨5#128, 0#64, true⟩, false, up,
    by decide +kernel⟩

theorem witness_ReeveCommandsAnswer_assayRevoke : ∃ (src : MbxSource) (p : ParishId) (s : State), s.mbxTakes src 0x13
      [.pf] = true :=
  ⟨.pf, 1, up.setFlag RF.RVE_PARp_BIND_ASSAY_GRANTED 0 1 true,
    by decide +kernel⟩

theorem witness_ReeveCommandsAnswer_fwStage : ∃ (src : MbxSource) (cls : Fin 5) (version : BitVec 5) (imageOk : Bool)
      (sg : Signed) (r : Nat) (s : State), s.mbxTakes src 0x20 [.pf, .smbus] = true ∧ r = (if s.lifecycle = lcBlank
      then mbxState else if (s.checkSigned src sg).1 ≠ mbxOk then
  (s.checkSigned src sg).1 else if imageOk = false then mbxSignature else
  if version.toNat < s.reeve.fuses.getD cls.val 0 then mbxRollback else mbxOk) :=
  ⟨.smbus, 1, 3#5, true, ⟨5#128, 0#64, true⟩, mbxNonce, up,
    by decide +kernel⟩

theorem witness_ReeveCommandsAnswer_fwActivate : ∃ (src : MbxSource) (s : State), s.mbxTakes src 0x21 [.pf, .smbus] =
      true :=
  ⟨.pf, up.setFlag RF.RVE_IMAGES_CONFIRM 0 0 true,
    by decide +kernel⟩

theorem witness_ReeveCommandsAnswer_lifecycle : ∃ (src : MbxSource) (target : Fin 6) (who : Signer) (ownerKey : List
      Byte) (sg : Signed) (s : State), s.mbxTakes src 0x30 [.pf, .smbus, .tap] = true ∧ (target.val = lcManufacture ∨
      target.val = lcProvisioned ∨ target.val = lcDeployed) ∧
  (target.val = lcProvisioned → ownerKey.length = 48) ∧ s.bistBusy = false ∧
  transition s.lifecycle target.val who = (true, true) ∧
  (s.lifecycle = lcReturn → s.getF RF.RVE_LIFECYCLE_REFURB 0 0 ≠ 3) ∧ (s.checkSigned src sg).1 = mbxOk :=
  ⟨.smbus, 3, .owner, [], ⟨5#128, Config.unitIdentity, true⟩, nonceHeld (up.setF RF.RVE_LIFECYCLE_STATE 0 0 2),
    ⟨by decide +kernel, by decide +kernel, by decide +kernel, by decide +kernel, by decide +kernel, by decide +kernel,
  by simp [State.checkSigned, nonceHeld, onReeve, State.modReeve, nonceLife, mbxOk, State.setF, State.wr, up,
      State.reset]⟩⟩

theorem witness_ReeveCommandsAnswer_lifecycleScrapped : ∃ (src : MbxSource) (target : Fin 6) (who : Signer) (ownerKey
      : List Byte) (sg : Signed) (s : State), s.mbxTakes src 0x30 [.pf, .smbus, .tap] = true ∧ target.val =
      lcScrapped ∧ s.bistBusy = false ∧ s.lifecycle ≠ lcScrapped ∧ (s.checkSigned src sg).1 = mbxOk ∧
  (∀ p, p < 32 → s.flag RF.WFR_PAR_CTL_ENABLE p 0 = false) :=
  ⟨.smbus, 5, .owner, [], ⟨5#128, Config.unitIdentity, true⟩, nonceHeld up,
    ⟨by decide +kernel, by decide +kernel, by decide +kernel, by decide +kernel,
  by simp [State.checkSigned, nonceHeld, onReeve, State.modReeve, nonceLife, mbxOk, up, State.reset], by
      decide +kernel⟩⟩

theorem witness_ReeveCommandsAnswer_lifecycleRefused : ∃ (src : MbxSource) (target : Fin 6) (who : Signer) (ownerKey
      : List Byte) (sg : Signed) (s : State), s.mbxTakes src 0x30 [.pf, .smbus, .tap] = true ∧ (target.val =
      lcProvisioned → ownerKey.length = 48) ∧ (transition s.lifecycle target.val who).1 = false :=
  ⟨.tap, 1, .owner, [], ⟨5#128, 0#64, true⟩, up,
    by decide +kernel⟩

theorem witness_ReeveCommandsAnswer_debugUnlock : ∃ (src : MbxSource) (sg : Signed) (r : Nat) (s : State), s.mbxTakes
      src 0x31 [.pf, .tap] = true ∧ r = (if s.bistBusy || decide (s.lifecycle = lcBlank) then mbxState else
  if s.lifecycle ≠ lcDeployed then mbxOk else
  if (List.range 32).any (fun p => s.flag RF.RVE_PARp_BIND_BOUND 0 p) then mbxState else (s.checkSigned src sg).1) :=
  ⟨.tap, ⟨5#128, 0#64, true⟩, mbxNonce, up,
    by decide +kernel⟩

theorem witness_ReeveCommandsAnswer_returnToService : ∃ (src : MbxSource) (sg : Signed) (s : State), s.mbxTakes src
      0x32 [.pf, .smbus] = true :=
  ⟨.pf, ⟨5#128, 0#64, true⟩, up,
    by decide +kernel⟩

theorem witness_AttestationEntropyAndClear_spdmGetVersion : ∃ (src : MbxSource) (s : State), s.mbxTakes src 0x40
      [.pf, .smbus] = true :=
  ⟨.pf, up,
    by decide +kernel⟩

theorem witness_AttestationEntropyAndClear_spdmGetCapabilities : ∃ (src : MbxSource) (s : State), s.mbxTakes src 0x40
      [.pf, .smbus] = true :=
  ⟨.smbus, up,
    by decide +kernel⟩

theorem witness_AttestationEntropyAndClear_spdmNegotiateAlgorithms : ∃ (src : MbxSource) (asym : BitVec 32) (hash :
      BitVec 32) (s : State), s.mbxTakes src 0x40 [.pf, .smbus] = true :=
  ⟨.pf, 0xFF#32, 0xFF#32, up,
    by decide +kernel⟩

theorem witness_AttestationEntropyAndClear_spdmGetDigests : ∃ (src : MbxSource) (s : State), s.mbxTakes src 0x40
      [.pf, .smbus] = true :=
  ⟨.smbus, up,
    by decide +kernel⟩

theorem witness_AttestationEntropyAndClear_spdmGetCertificate : ∃ (src : MbxSource) (slot : Fin 8) (offset : BitVec
      16) (length : BitVec 16) (s : State), s.mbxTakes src 0x40 [.pf, .smbus] = true :=
  ⟨.pf, 1, 4#16, 64#16, up,
    by decide +kernel⟩

theorem witness_AttestationEntropyAndClear_spdmChallenge : ∃ (src : MbxSource) (slot : Fin 8) (nonce : BitVec 256) (s
      : State), s.mbxTakes src 0x40 [.pf, .smbus] = true :=
  ⟨.pf, 2, 4#256, up,
    by decide +kernel⟩

theorem witness_AttestationEntropyAndClear_spdmGetMeasurements : ∃ (src : MbxSource) (index : BitVec 8) (nonce :
      BitVec 256) (s : State), s.mbxTakes src 0x40 [.pf, .smbus] = true :=
  ⟨.pf, 0xFF#8, 4#256, up,
    by decide +kernel⟩

theorem witness_AttestationEntropyAndClear_entropyStartupDone : ∃  (st : Nat) (s : State), s.boot.stage ≠ .off ∧
      s.boot.stage ≠ .hearth ∧ st = s.getF RF.RVE_RNG_STAT_STATE 0 0 ∧ (st = 0 ∨ st = 2) :=
  ⟨0, up,
    by decide +kernel⟩

theorem witness_AttestationEntropyAndClear_entropyHealthFail : ∃  (st n : Nat) (s : State), s.boot.stage ≠ .off ∧
      s.boot.stage ≠ .hearth ∧ st = s.getF RF.RVE_RNG_STAT_STATE 0 0 ∧ n = s.getF RF.RVE_RNG_STAT_RERUNS 0 0 :=
  ⟨1, 0, up.setF RF.RVE_RNG_STAT_STATE 0 0 1,
    by decide +kernel⟩

theorem witness_AttestationEntropyAndClear_drbgReseed : ∃  (s : State), s.entropyReady = true ∧ (65536 ≤
      s.reeve.requests ∨ 1000000000 ≤ s.now - s.reeve.seededAt) :=
  ⟨later 2000000000 (up.setF RF.RVE_RNG_STAT_STATE 0 0 1),
    by decide +kernel⟩

theorem witness_AttestationEntropyAndClear_reeveWatchdogRestart : ∃  (s : State), s.boot.stage ≠ .off ∧ s.boot.stage
      ≠ .hearth :=
  ⟨up,
    by decide +kernel⟩

theorem witness_AttestationEntropyAndClear_fieldClearDone : ∃ (f : FieldId) (zeroOk : Bool) (x : Scrub) (y :
      ScrubField) (g n : Nat) (rest : List (Nat × Nat)) (s : State), s.reeve.scrubs = [x] ∧ x.fields = [y] ∧ y.field
      = f.val ∧ y.phase = .clearing ∧ y.clear = true ∧
  s.inService f.val = true ∧ s.frozen = false ∧ s.boot.stage = .ready ∧ s.inReset f.val = false ∧
  s.host.tags = [] ∧ zeroOk = true ∧ y.left = (g, n) :: rest ∧ s.entries = [] ∧ s.commons.fills = [] ∧
  s.openRecs f.val = [] ∧ s.getF RF.CRN_POOL_SLOTS_SLOTS f.val 0 = 0 ∧ s.flag RF.HBM_SCRUB_CTL_BUSY f.val 0 = false ∧
  s.hbmState f.val ≠ hbmLost ∧ g + n ≤ 524288 ∧ g < 2 ^ RF.HBM_SCRUB_START_START.w ∧ n < 2 ^
      RF.HBM_SCRUB_COUNT_GRANULES.w :=
  ⟨0, true, ⟨1, true, false, 0, 0, false, none, [⟨0, true, [(0, 4)], [(0, 4)], .clearing, false, 0⟩]⟩, ⟨0, true, [(0,
      4)], [(0, 4)], .clearing, false, 0⟩, 0, 4, [], scrubbingUp,
    by decide +kernel⟩

theorem witness_AttestationEntropyAndClear_scrubDone : ∃ (f : FieldId) (verified : Bool) (s : State), s.flag
      RF.HBM_SCRUB_CTL_BUSY f.val 0 = true ∧ s.frozen = false ∧ s.reeve.scrubs = [] ∧
  s.scrubbable f.val (s.getF RF.HBM_SCRUB_START_START f.val 0 + s.hbm.scrubNext.look 0 f.val)
    (s.getF RF.HBM_SCRUB_COUNT_GRANULES f.val 0 - s.hbm.scrubNext.look 0 f.val) =
    s.getF RF.HBM_SCRUB_COUNT_GRANULES f.val 0 - s.hbm.scrubNext.look 0 f.val :=
  ⟨0, true, ((hbmUpState.setFlag RF.HBM_SCRUB_CTL_BUSY 0 0 true).setF RF.HBM_SCRUB_COUNT_GRANULES 0 0 2),
    by decide +kernel⟩

theorem witness_FreezesBeginAndEnd_freezePin : ∃  (s : State), s.saving = false ∧ s.boot.stage = .ready ∧ s.flag
      RF.ASY_FRZ_CTL_PIN_EN 0 0 = true ∧ s.pinTest = false ∧
  s.getF RF.ASY_FRZ_STAT_STATE 0 0 = 0 :=
  ⟨up.setFlag RF.ASY_FRZ_CTL_PIN_EN 0 0 true,
    by decide +kernel⟩

theorem witness_FreezesBeginAndEnd_freezePinDisabled : ∃  (s : State), s.saving = false ∧ (s.boot.stage = .off ∨
      s.flag RF.ASY_FRZ_CTL_PIN_EN 0 0 = false ∨ s.pinTest = true) :=
  ⟨up.setFlag RF.ASY_FRZ_CTL_PIN_EN 0 0 false,
    by decide +kernel⟩

theorem witness_FreezesBeginAndEnd_freezePinSaving : ∃  (x : Save) (v : Nat) (s : State), s.hearth.save = some x ∧ v
      = (x.draft.state.getD 11 0 / 8) * 8 + 3 :=
  ⟨⟨emptyRecord, false, true, 0⟩, 3, savingState,
    by decide +kernel⟩

theorem witness_FreezesBeginAndEnd_freezeRegister : ∃  (s : State), s.boot.stage = .ready ∧ s.getF
      RF.ASY_FRZ_STAT_STATE 0 0 = 0 :=
  ⟨(joinedUp true).setFlag RF.ASY_FRZ_CTL_BROADCAST 0 0 true,
    by decide +kernel⟩

theorem witness_FreezesBeginAndEnd_freezeRegisterAgain : ∃  (s : State), s.boot.stage = .ready ∧ (s.getF
      RF.ASY_FRZ_STAT_STATE 0 0 = 1 ∨ s.getF RF.ASY_FRZ_STAT_STATE 0 0 = 2) :=
  ⟨up.setF RF.ASY_FRZ_STAT_STATE 0 0 2,
    by decide +kernel⟩

theorem witness_FreezesBeginAndEnd_freezeRegisterEarly : ∃  (s : State), s.boot.stage = .hearth ∨ s.boot.stage =
      .reeve ∨ s.boot.stage = .clock :=
  ⟨atStage .clock,
    by decide +kernel⟩

theorem witness_FreezesBeginAndEnd_freezeRegisterThawing : ∃  (s : State), s.boot.stage = .ready ∧ s.getF
      RF.ASY_FRZ_STAT_STATE 0 0 = 3 ∧ s.assay.freezeHeld = none :=
  ⟨up.setF RF.ASY_FRZ_STAT_STATE 0 0 3,
    by decide +kernel⟩

theorem witness_FreezesBeginAndEnd_freezeMessageReceive : ∃ (wafer : WaferId) (id : BitVec 16) (epoch : BitVec 16) (s
      : State), s.freezeMsgOk wafer.val epoch.toNat = true ∧ s.boot.stage = .ready ∧ s.getF RF.ASY_FRZ_STAT_STATE 0 0
      = 0 :=
  ⟨3, 77, 5, (joinedUp true).setFlag RF.ASY_FRZ_CTL_FABRIC_EN 0 0 true,
    by decide +kernel⟩

theorem witness_FreezesBeginAndEnd_freezeMessageReceiveDiscarded : ∃ (wafer : WaferId) (id : BitVec 16) (epoch :
      BitVec 16) (s : State), s.freezeMsgOk wafer.val epoch.toNat = false ∧ s.boot.stage ≠ .off :=
  ⟨3, 77, 4, (joinedUp true).setFlag RF.ASY_FRZ_CTL_FABRIC_EN 0 0 true,
    by decide +kernel⟩

theorem witness_FreezesBeginAndEnd_freezeArrive : ∃ (f : FieldId) (s : State), s.getF RF.ASY_FRZ_STAT_STATE 0 0 = 1 ∧
      s.fieldMode f.val ≠ 2 ∧ s.assay.arrived.contains f.val = false ∧
  s.freezeReaches f.val = true ∧ s.inReset f.val = false :=
  ⟨4, up.setF RF.ASY_FRZ_STAT_STATE 0 0 1,
    by decide +kernel⟩

theorem witness_FreezesBeginAndEnd_freezeArriveDeferred : ∃ (f : FieldId) (s : State), s.getF RF.ASY_FRZ_STAT_STATE 0
      0 = 1 ∧ s.fieldMode f.val ≠ 2 ∧ s.assay.arrived.contains f.val = false ∧
  s.freezeReaches f.val = true ∧ s.inReset f.val = true :=
  ⟨4, (onResets (fun r => { r with fields := [4] }) up).setF RF.ASY_FRZ_STAT_STATE 0 0 1,
    by decide +kernel⟩

theorem witness_FreezesBeginAndEnd_freezeArriveNotReached : ∃ (f : FieldId) (s : State), s.getF RF.ASY_FRZ_STAT_STATE
      0 0 ≠ 1 ∨ s.fieldMode f.val = 2 ∨ s.freezeReaches f.val = false :=
  ⟨60, up.setF RF.ASY_FRZ_STAT_STATE 0 0 1,
    by decide +kernel⟩

theorem witness_FreezesBeginAndEnd_freezeComplete : ∃  (s : State), s.getF RF.ASY_FRZ_STAT_STATE 0 0 = 1 ∧ (∀ f < 80,
      s.fieldMode f = 2 ∨ s.stopped f = true) :=
  ⟨(onlyFour.setFlag RF.ASY_FLD_STAT_STOPPED 4 0 true).setF RF.ASY_FRZ_STAT_STATE 0 0 1,
    by decide +kernel⟩

theorem witness_FreezesBeginAndEnd_freezeCompleteNotYet : ∃  (f : Nat) (s : State), f < 80 ∧ s.fieldMode f ≠ 2 ∧
      s.stopped f = false :=
  ⟨4, (onlyFour.setFlag RF.ASY_FLD_STAT_STOPPED 4 0 false).setF RF.ASY_FRZ_STAT_STATE 0 0 1,
    by decide +kernel⟩

theorem witness_FreezesBeginAndEnd_thawRegisterFrozen : ∃  (s : State), s.getF RF.ASY_FRZ_STAT_STATE 0 0 = 2 :=
  ⟨(onAssay (fun a => { a with bcast := true }) (joinedUp true)).setF RF.ASY_FRZ_STAT_STATE 0 0 2,
    by decide +kernel⟩

theorem witness_FreezesBeginAndEnd_thawRegisterFreezing : ∃  (s : State), s.getF RF.ASY_FRZ_STAT_STATE 0 0 = 1 :=
  ⟨up.setF RF.ASY_FRZ_STAT_STATE 0 0 1,
    by decide +kernel⟩

theorem witness_FreezesBeginAndEnd_thawMessageReceive : ∃ (wafer : WaferId) (id : BitVec 16) (epoch : BitVec 16) (s :
      State), s.boot.stage ≠ .off ∧ s.freezeMsgOk wafer.val epoch.toNat = true ∧ s.getF RF.ASY_FRZ_STAT_STATE 0 0 = 2
      ∧
  s.getF RF.ASY_FRZ_STAT_FREEZE_ID 0 0 = id.toNat :=
  ⟨3, 77, 5, (((joinedUp true).setFlag RF.ASY_FRZ_CTL_FABRIC_EN 0 0 true).setF RF.ASY_FRZ_STAT_STATE 0 0 2).setF
      RF.ASY_FRZ_STAT_FREEZE_ID 0 0 77,
    by decide +kernel⟩

theorem witness_FreezesBeginAndEnd_thawMessageReceiveOtherFreeze : ∃ (wafer : WaferId) (id : BitVec 16) (epoch :
      BitVec 16) (s : State), s.boot.stage ≠ .off ∧ (s.freezeMsgOk wafer.val epoch.toNat = false ∨ s.getF
      RF.ASY_FRZ_STAT_STATE 0 0 = 0 ∨
  s.getF RF.ASY_FRZ_STAT_FREEZE_ID 0 0 ≠ id.toNat) :=
  ⟨3, 77, 5, (((joinedUp true).setFlag RF.ASY_FRZ_CTL_FABRIC_EN 0 0 true).setF RF.ASY_FRZ_STAT_STATE 0 0 2).setF
      RF.ASY_FRZ_STAT_FREEZE_ID 0 0 78,
    by decide +kernel⟩

theorem witness_FreezesBeginAndEnd_fieldResume : ∃ (f : FieldId) (g : Nat) (s : State), s.getF RF.ASY_FRZ_STAT_STATE
      0 0 = 3 ∧ s.stopped f.val = true ∧ g < 80 ∧ g ≠ f.val ∧ s.stopped g = true ∧ s.commons.reqs = [] :=
  ⟨9, 4, ((up.setFlag RF.ASY_FLD_STAT_STOPPED 4 0 true).setFlag RF.ASY_FLD_STAT_STOPPED 9 0 true).setF
      RF.ASY_FRZ_STAT_STATE 0 0 3,
    by decide +kernel⟩

theorem witness_WindowAndTapReadOut_windowGo : ∃ (field : BitVec 7) (chain : BitVec 7) (kind : Fin 4) (s : State),
      s.flag RF.ASY_WIN_CTL_BUSY 0 0 = false :=
  ⟨3, 9, 2, up,
    by decide +kernel⟩

theorem witness_WindowAndTapReadOut_windowGoDenied : ∃ (field : BitVec 7) (chain : BitVec 7) (kind : Fin 4) (s :
      State), s.flag RF.ASY_WIN_CTL_BUSY 0 0 = false ∧ s.lifecycle = lcDeployed ∧ kind.val = 2 ∧ s.owner field.toNat
      ≠ none ∧
  s.flag RF.RVE_LIFECYCLE_DEBUG_UNLOCKED 0 0 = false ∧
  s.flag RF.RVE_PARp_BIND_ASSAY_GRANTED 0 (s.getF RF.RVE_FLDf_OWNER_PARISH 0 field.toNat) = false :=
  ⟨0, 9, 2, bindable,
    by decide +kernel⟩

theorem witness_WindowAndTapReadOut_windowGoBusy : ∃ (field : BitVec 7) (chain : BitVec 7) (kind : Fin 4) (s :
      State), s.flag RF.ASY_WIN_CTL_BUSY 0 0 = true :=
  ⟨3, 9, 2, up.setFlag RF.ASY_WIN_CTL_BUSY 0 0 true,
    by decide +kernel⟩

theorem witness_WindowAndTapReadOut_windowReadDoneDenied : ∃  (x : AssayRead) (s : State), s.assay.reading = some x ∧
      x.denied = true :=
  ⟨⟨0, 0, 2, 0, 16, true⟩, onAssay (fun a => { a with reading := some ⟨0, 0, 2, 0, 16, true⟩ }) up,
    by decide +kernel⟩

theorem witness_WindowAndTapReadOut_windowReadDoneMemory : ∃  (x : AssayRead) (f off : Nat) (s : State),
      s.assay.reading = some x ∧ x.denied = false ∧ x.kind = 3 ∧ s.getF RF.ASY_FRZ_STAT_STATE 0 0 = 2 ∧ Direct.of
      x.addr = ⟨s.ownWafer, f, 1, off⟩ :=
  ⟨⟨0, 0, 3, 0x40000000000, 16, false⟩, 0, 0, (onAssay (fun a =>
      { a with reading := some ⟨0, 0, 3, 0x40000000000, 16, false⟩ }) up).setF RF.ASY_FRZ_STAT_STATE 0 0 2,
    by decide +kernel⟩

theorem witness_WindowAndTapReadOut_tapFreeze : ∃ (update : Bool) (s : State), s.tapOpen = true ∧ update = true ∧
      s.boot.stage = .ready ∧ s.getF RF.ASY_FRZ_STAT_STATE 0 0 = 0 :=
  ⟨true, up,
    by decide +kernel⟩

theorem witness_WindowAndTapReadOut_tapFreezeShut : ∃ (update : Bool) (s : State), s.tapOpen = false :=
  ⟨true, up.setF RF.RVE_LIFECYCLE_STATE 0 0 lcBlank,
    by decide +kernel⟩

theorem witness_WindowAndTapReadOut_tapThaw : ∃ (update : Bool) (s : State), s.tapOpen = true ∧ update = true ∧
      s.getF RF.ASY_FRZ_STAT_STATE 0 0 = 2 :=
  ⟨true, up.setF RF.ASY_FRZ_STAT_STATE 0 0 2,
    by decide +kernel⟩

theorem witness_WindowAndTapReadOut_tapThawShut : ∃ (update : Bool) (s : State), s.tapOpen = false :=
  ⟨true, up.setF RF.RVE_LIFECYCLE_STATE 0 0 lcScrapped,
    by decide +kernel⟩

theorem witness_WindowAndTapReadOut_tapChain : ∃  (s : State), s.tapOpen = true ∧ s.assay.reading = none ∧
      s.readDenied (nbits s.assay.sel 0 7) (min 2 (nbits s.assay.sel 14 2)) 0 = true :=
  ⟨onAssay (fun a => { a with sel := 2 * 2 ^ 14 }) bindable,
    by decide +kernel⟩

theorem witness_WindowAndTapReadOut_tapChainGranted : ∃  (s : State), s.tapOpen = true ∧ s.assay.reading = none ∧
      s.readDenied (nbits s.assay.sel 0 7) (min 2 (nbits s.assay.sel 14 2)) 0 = false :=
  ⟨onAssay (fun a => { a with sel := 1 * 2 ^ 14 }) bindable,
    by decide +kernel⟩

theorem witness_WindowAndTapReadOut_tapChainWaits : ∃  (s : State), s.tapOpen = true ∧ s.assay.reading ≠ none :=
  ⟨onAssay (fun a => { a with reading := some ⟨0, 0, 3, 0, 16, false⟩ }) up,
    by decide +kernel⟩

theorem witness_WindowAndTapReadOut_tapMem : ∃ (addr : BitVec 64) (s : State), s.tapOpen = true ∧ s.assay.reading =
      none ∧ s.readDenied 0 3 addr.toNat = true :=
  ⟨sramAddr, bindable,
    by decide +kernel⟩

theorem witness_WindowAndTapReadOut_tapMemGranted : ∃ (addr : BitVec 64) (f off : Nat) (s : State), s.tapOpen = true
      ∧ s.assay.reading = none ∧ s.readDenied 0 3 addr.toNat = false ∧ s.getF RF.ASY_FRZ_STAT_STATE 0 0 = 2 ∧
  Direct.of addr.toNat = ⟨s.ownWafer, f, 1, off⟩ :=
  ⟨sramAddr, 0, 0, up.setF RF.ASY_FRZ_STAT_STATE 0 0 2,
    by decide +kernel⟩

theorem witness_WindowAndTapReadOut_tapStat : ∃  (s : State), s.tapOpen = true :=
  ⟨up.setF RF.ASY_FRZ_STAT_STATE 0 0 2,
    by decide +kernel⟩

theorem witness_WindowAndTapReadOut_tapBisctl : ∃ (v : BitVec 32) (s : State), s.tapScan = true ∧ s.bistBusy = false
      ∧ v.getLsbD 4 = false ∧ v.getLsbD 5 = false :=
  ⟨0x14F, up.setF RF.RVE_LIFECYCLE_STATE 0 0 lcManufacture,
    by decide +kernel⟩

theorem witness_WindowAndTapReadOut_tapBisctlShut : ∃ (v : BitVec 32) (s : State), s.tapScan = false :=
  ⟨0x14F, up,
    by decide +kernel⟩

theorem witness_SelfTestSuites_bistGo : ∃ (origin : Fin 3) (suite : BitVec 4) (h0Loop : Bool) (fixture : Bool)
      (extLoop : Bool) (s : State), s.bistOpen = true ∧ s.bistBusy = false ∧ s.bistMay = true :=
  ⟨2, 5, true, false, false, up.setF RF.RVE_LIFECYCLE_STATE 0 0 lcManufacture,
    by decide +kernel⟩

theorem witness_SelfTestSuites_bistGoRefused : ∃ (origin : Fin 3) (suite : BitVec 4) (h0Loop : Bool) (fixture : Bool)
      (extLoop : Bool) (s : State), s.bistOpen = true ∧ (s.bistBusy = true ∨ s.bistMay = false) :=
  ⟨2, 5, true, false, false, (up.setF RF.RVE_LIFECYCLE_STATE 0 0 lcManufacture).setF RF.ASY_FRZ_STAT_STATE 0 0 2,
    by decide +kernel⟩

theorem witness_SelfTestSuites_bistGoShut : ∃ (origin : Fin 3) (suite : BitVec 4) (h0Loop : Bool) (fixture : Bool)
      (extLoop : Bool) (s : State), s.bistOpen = false :=
  ⟨0, 5, true, false, false, up,
    by decide +kernel⟩

theorem witness_SelfTestSuites_bistAbort : ∃  (t : Nat) (s : State), s.bistOpen = true ∧ s.getF RF.BIS_STAT_STATE 0 0
      = 2 ∧ s.getF RF.BIS_STAT_TEST 0 0 = t :=
  ⟨1, ((up.setF RF.RVE_LIFECYCLE_STATE 0 0 lcManufacture).setF RF.BIS_STAT_STATE 0 0 2).setF RF.BIS_STAT_TEST 0 0 1,
    by decide +kernel⟩

theorem witness_SelfTestSuites_bistSetupDone : ∃  (t : Nat) (s : State), s.getF RF.BIS_STAT_STATE 0 0 = 1 ∧ t < 3 ∧
  ((List.range 4).filter (fun i => (s.getF RF.BIS_CTL_SUITE 0 0).testBit i)).head? = some t :=
  ⟨1, (up.setF RF.BIS_STAT_STATE 0 0 1).setF RF.BIS_CTL_SUITE 0 0 6,
    by decide +kernel⟩

theorem witness_SelfTestSuites_bistSetupDoneEmpty : ∃  (s : State), s.getF RF.BIS_STAT_STATE 0 0 = 1 ∧ s.getF
      RF.BIS_CTL_SUITE 0 0 = 0 :=
  ⟨up.setF RF.BIS_STAT_STATE 0 0 1,
    by decide +kernel⟩

theorem witness_SelfTestSuites_bistTestDonePassed : ∃ (faults : List BistFault) (t : Nat) (s : State), s.getF
      RF.BIS_STAT_STATE 0 0 = 2 ∧ s.getF RF.BIS_STAT_TEST 0 0 = t ∧ t < 4 ∧ faults = [] ∧
  (t = 0 → ∀ i < 160, s.seamReached i = true) ∧ s.getF RF.BIS_CTL_SUITE 0 0 / 2 ^ (t + 1) = 0 :=
  ⟨[], 0, (up.setF RF.BIS_STAT_STATE 0 0 2).setF RF.BIS_CTL_SUITE 0 0 1,
    by decide +kernel⟩

theorem witness_SelfTestSuites_bistTestDoneBumps : ∃ (faults : List BistFault) (x : BistFault) (s : State), s.getF
      RF.BIS_STAT_STATE 0 0 = 2 ∧ s.getF RF.BIS_STAT_TEST 0 0 = 1 ∧ faults = [x] ∧ x.place.val < 64 ∧
  s.getF RF.BIS_CTL_SUITE 0 0 = 6 :=
  ⟨[⟨1, 7, 3, 9, 0, false⟩], ⟨1, 7, 3, 9, 0, false⟩, ((up.setF RF.BIS_STAT_STATE 0 0 2).setF RF.BIS_CTL_SUITE 0 0
      6).setF RF.BIS_STAT_TEST 0 0 1,
    by decide +kernel⟩

theorem witness_SelfTestSuites_bistTestDoneRepaired : ∃ (faults : List BistFault) (x : BistFault) (s : State), s.getF
      RF.BIS_STAT_STATE 0 0 = 2 ∧ s.getF RF.BIS_STAT_TEST 0 0 = 0 ∧ faults = [x] ∧ x.place.val < 160 ∧ x.kind.val ≠ 6
      ∧
  x.special = false ∧ (∀ i < 160, s.seamReached i = true) ∧ s.getF RF.BIS_CTL_SUITE 0 0 = 1 :=
  ⟨[⟨1, 7, 3, 9, 0, false⟩], ⟨1, 7, 3, 9, 0, false⟩, (up.setF RF.BIS_STAT_STATE 0 0 2).setF RF.BIS_CTL_SUITE 0 0 1,
    by decide +kernel⟩

theorem witness_SelfTestSuites_bistRestoreDone : ∃ (failing : List FieldId) (s : State), s.getF RF.BIS_STAT_STATE 0 0
      = 3 ∧ s.getF RF.ASY_FRZ_STAT_STATE 0 0 = 0 ∧ s.halted = false ∧ failing = [] ∧
  (∀ g < 80, s.inService g = true → s.quietField g = true) ∧ s.commons.reqs = [] ∧ s.host.held = [] ∧
  s.resets.waiting = [] ∧ s.seq.sheaves = [] ∧ s.seq.doorbells = [] ∧ s.tallies.heldAdds = [] :=
  ⟨[], up.setF RF.BIS_STAT_STATE 0 0 3,
    by decide +kernel⟩

theorem witness_SelfTestSuites_bistRestoreDoneWaits : ∃ (failing : List FieldId) (s : State), s.frozen = true ∨
      s.halted = true :=
  ⟨[], (up.setF RF.BIS_STAT_STATE 0 0 3).setF RF.ASY_FRZ_STAT_STATE 0 0 2,
    by decide +kernel⟩

theorem witness_CrierBusAndMirror_crierRead : ∃ (addr : BitVec 12) (v : Nat) (s : State), s.pinsServe = true ∧ v =
      (if addr.toNat % 4 = 0 then s.mirrorWord addr.toNat else match s.pins.latch with
  | some (g, l) => if g = addr.toNat / 4 then l.getD (addr.toNat % 4) 0 else s.mirrorWord addr.toNat
  | none => s.mirrorWord addr.toNat) :=
  ⟨14, 7, onPins (fun p => { p with latch := some (3, [5, 6, 7, 8]) }) (up.setFlag RF.CRI_CTL_BUS_EN 0 0 true),
    by decide +kernel⟩

theorem witness_CrierBusAndMirror_crierReadUnserved : ∃ (addr : BitVec 12) (s : State), s.pinsServe = false :=
  ⟨14, State.reset,
    by decide +kernel⟩

theorem witness_CrierBusAndMirror_crierWrite : ∃ (addr : BitVec 12) (data : BitVec 16) (rdLow : Bool) (s : State),
      s.pinsServe = true ∧ rdLow = false ∧ s.flag RF.CRI_CTL_MBX_EN 0 0 = true ∧ 0xF00 ≤ addr.toNat ∧ addr.toNat <
      0xF07 :=
  ⟨0xF03, 9, false, up.setFlag RF.CRI_CTL_MBX_EN 0 0 true,
    by decide +kernel⟩

theorem witness_CrierBusAndMirror_crierWriteBad : ∃ (addr : BitVec 12) (data : BitVec 16) (rdLow : Bool) (s : State),
      s.pinsServe = true ∧ rdLow = false ∧ (addr.toNat < 0xF00 ∨ 0xF07 < addr.toNat ∨ s.flag RF.CRI_CTL_MBX_EN 0 0 =
      false) :=
  ⟨0xF08, 9, false, up.setFlag RF.CRI_CTL_MBX_EN 0 0 true,
    by decide +kernel⟩

theorem witness_CrierBusAndMirror_crierWriteWithRead : ∃ (addr : BitVec 12) (data : BitVec 16) (rdLow : Bool) (s :
      State), s.pinsServe = true ∧ rdLow = true :=
  ⟨0xF03, 9, true, up,
    by decide +kernel⟩

theorem witness_CrierBusAndMirror_crierMailboxPost : ∃ (data : BitVec 16) (x : List Nat) (s : State), s.pinsServe =
      true ∧ s.flag RF.CRI_CTL_MBX_EN 0 0 = true ∧ s.pins.queue = [] ∧
  x = (List.range 8).map (fun i => (s.pins.window.put 0 7 data.toNat).look 0 i) ∧ (sbWellFormed x = true ∨ s.sbRuns =
      false) :=
  ⟨0, [7, 12, 0, 0, 0, 0, 0, 0], onPins (fun p => { p with window := [(0, 7), (1, 12)] }) (up.setFlag
      RF.CRI_CTL_MBX_EN 0 0 true),
    by decide +kernel⟩

theorem witness_CrierBusAndMirror_crierMailboxPostMalformed : ∃ (data : BitVec 16) (x : List Nat) (s : State),
      s.pinsServe = true ∧ s.flag RF.CRI_CTL_MBX_EN 0 0 = true ∧ s.pins.queue = [] ∧
  x = (List.range 8).map (fun i => (s.pins.window.put 0 7 data.toNat).look 0 i) ∧ sbWellFormed x = false ∧ s.sbRuns =
      true :=
  ⟨0, [9, 12, 0, 0, 0, 0, 0, 0], onPins (fun p => { p with window := [(0, 9), (1, 12)] }) (up.setFlag
      RF.CRI_CTL_MBX_EN 0 0 true),
    by decide +kernel⟩

theorem witness_CrierBusAndMirror_crierMailboxPostFull : ∃ (data : BitVec 16) (s : State), s.pinsServe = true ∧
      s.flag RF.CRI_CTL_MBX_EN 0 0 = true ∧ 8 ≤ s.pins.queue.length :=
  ⟨3, onPins (fun p => { p with queue := List.replicate 8 [] }) (up.setFlag RF.CRI_CTL_MBX_EN 0 0 true),
    by decide +kernel⟩

theorem witness_CrierBusAndMirror_mirrorPost : ∃ (g : Fin 1024) (l : List Nat) (s : State), s.hearthUp = true ∧
      s.ownerUp g.val = true ∧ s.groupNow s.serial g.val = some l :=
  ⟨3, [0, 0, 0, 0], up,
    by decide +kernel⟩

theorem witness_CrierBusAndMirror_mirrorPostOwnerDown : ∃ (g : Fin 1024) (s : State), s.hearthUp = false ∨ s.ownerUp
      g.val = false :=
  ⟨0x27, atStage .clock,
    by decide +kernel⟩

theorem witness_CrierBusAndMirror_mirrorRoll : ∃  (s : State), s.hearthUp = true :=
  ⟨up,
    by decide +kernel⟩

theorem witness_SidebandCommandsExecute_sbSetModule : ∃ (src : Sideband) (tag : BitVec 16) (arg0 : BitVec 16) (arg1 :
      BitVec 16) (data : Word) (x : List Nat) (s : State), x = sbWords 0x01 tag arg0 arg1 data ∧ s.sbNext src x =
      true ∧ s.modReady = true ∧ s.modState = 0 ∧ arg0.toNat % 4 = 1 :=
  ⟨.crier, 9, 0x501, 0, 0, [1, 9, 0x501, 0, 0, 0, 0, 0], onPins (fun p =>
      { p with queue := [[1, 9, 0x501, 0, 0, 0, 0, 0]] }) up,
    by decide +kernel⟩

theorem witness_SidebandCommandsExecute_sbSetModuleRefused : ∃ (src : Sideband) (tag : BitVec 16) (arg0 : BitVec 16)
      (arg1 : BitVec 16) (data : Word) (x : List Nat) (s : State), x = sbWords 0x01 tag arg0 arg1 data ∧ s.sbNext src
      x = true ∧ s.pBusy = false ∧ s.modReady = false ∧ arg0.toNat % 4 = 1 :=
  ⟨.smbus, 9, 1, 0, 0, [1, 9, 1, 0, 0, 0, 0, 0], up.setFlag RF.PWR_MOD_STAT_HALTED 0 0 true,
    by decide +kernel⟩

theorem witness_SidebandCommandsExecute_sbSetModuleMalformed : ∃ (src : Sideband) (tag : BitVec 16) (arg0 : BitVec
      16) (arg1 : BitVec 16) (data : Word) (s : State), src = .smbus ∧ s.sbRuns = true ∧ sbWellFormed (sbWords 0x01
      tag arg0 arg1 data) = false :=
  ⟨.smbus, 9, 4, 0, 0, up,
    by decide +kernel⟩

theorem witness_SidebandCommandsExecute_sbSetPstate : ∃ (src : Sideband) (tag : BitVec 16) (arg0 : BitVec 16) (arg1 :
      BitVec 16) (data : Word) (x : List Nat) (s : State), x = sbWords 0x02 tag arg0 arg1 data ∧ s.sbNext src x =
      true ∧ s.boot.stage = .ready ∧ arg0.toNat ≤ 5 :=
  ⟨.crier, 9, 3, 0, 0, [2, 9, 3, 0, 0, 0, 0, 0], onPins (fun p => { p with queue := [[2, 9, 3, 0, 0, 0, 0, 0]] }) up,
    by decide +kernel⟩

theorem witness_SidebandCommandsExecute_sbSetPstateRange : ∃ (src : Sideband) (tag : BitVec 16) (arg0 : BitVec 16)
      (arg1 : BitVec 16) (data : Word) (x : List Nat) (s : State), x = sbWords 0x02 tag arg0 arg1 data ∧ s.sbNext src
      x = true ∧ 5 < arg0.toNat :=
  ⟨.smbus, 9, 6, 0, 0, [2, 9, 6, 0, 0, 0, 0, 0], up,
    by decide +kernel⟩

theorem witness_SidebandCommandsExecute_sbSetField : ∃ (src : Sideband) (tag : BitVec 16) (arg0 : BitVec 16) (arg1 :
      BitVec 16) (data : Word) (x : List Nat) (s : State), x = sbWords 0x03 tag arg0 arg1 data ∧ s.sbNext src x =
      true ∧ s.fieldCommand arg0.toNat arg1.toNat = true :=
  ⟨.smbus, 9, 3, 0, 0, [3, 9, 3, 0, 0, 0, 0, 0], up.setF RF.PWR_FLD_STAT_STATE 3 0 1,
    by decide +kernel⟩

theorem witness_SidebandCommandsExecute_sbSetFieldRefused : ∃ (src : Sideband) (tag : BitVec 16) (arg0 : BitVec 16)
      (arg1 : BitVec 16) (data : Word) (x : List Nat) (s : State), x = sbWords 0x03 tag arg0 arg1 data ∧ s.sbNext src
      x = true ∧ s.fieldCommand arg0.toNat arg1.toNat = false :=
  ⟨.smbus, 9, 3, 0, 0, [3, 9, 3, 0, 0, 0, 0, 0], (up.setF RF.PWR_FLD_STAT_STATE 3 0 1).setFlag RF.PWR_FLD_STAT_BUSY 3
      0 true,
    by decide +kernel⟩

theorem witness_SidebandCommandsExecute_sbSetCapWafer : ∃ (src : Sideband) (tag : BitVec 16) (arg0 : BitVec 16) (arg1
      : BitVec 16) (data : Word) (x : List Nat) (s : State), x = sbWords 0x04 tag arg0 arg1 data ∧ s.sbNext src x =
      true ∧ 6000 ≤ data.toNat ∧ data.toNat ≤ 26000 ∧
  1 ≤ arg0.toNat / 2 ∧ arg0.toNat / 2 ≤ 20 :=
  ⟨.smbus, 9, 11, 0, 20000, [4, 9, 11, 0, 20000, 0, 0, 0], up,
    by decide +kernel⟩

theorem witness_SidebandCommandsExecute_sbSetCapWaferRange : ∃ (src : Sideband) (tag : BitVec 16) (arg0 : BitVec 16)
      (arg1 : BitVec 16) (data : Word) (x : List Nat) (s : State), x = sbWords 0x04 tag arg0 arg1 data ∧ s.sbNext src
      x = true ∧ (data.toNat < 6000 ∨ 26000 < data.toNat) ∧
  1 ≤ arg0.toNat / 2 ∧ arg0.toNat / 2 ≤ 20 :=
  ⟨.smbus, 9, 11, 0, 5999, [4, 9, 11, 0, 5999, 0, 0, 0], up,
    by decide +kernel⟩

theorem witness_SidebandCommandsExecute_sbSetCapParish : ∃ (src : Sideband) (tag : BitVec 16) (arg0 : BitVec 16)
      (arg1 : BitVec 16) (data : Word) (x : List Nat) (s : State), x = sbWords 0x05 tag arg0 arg1 data ∧ s.sbNext src
      x = true ∧ (data.toNat = 0 ∨ (100 ≤ data.toNat ∧ data.toNat ≤ 26000)) :=
  ⟨.smbus, 9, 11, 0, 100, [5, 9, 11, 0, 100, 0, 0, 0], up,
    by decide +kernel⟩

theorem witness_SidebandCommandsExecute_sbSetCapParishRange : ∃ (src : Sideband) (tag : BitVec 16) (arg0 : BitVec 16)
      (arg1 : BitVec 16) (data : Word) (x : List Nat) (s : State), x = sbWords 0x05 tag arg0 arg1 data ∧ s.sbNext src
      x = true ∧ (0 < data.toNat ∧ data.toNat < 100 ∨ 26000 < data.toNat) :=
  ⟨.smbus, 9, 11, 0, 99, [5, 9, 11, 0, 99, 0, 0, 0], up,
    by decide +kernel⟩

theorem witness_SidebandCommandsExecute_sbSetWakeArm : ∃ (src : Sideband) (tag : BitVec 16) (arg0 : BitVec 16) (arg1
      : BitVec 16) (data : Word) (x : List Nat) (s : State), x = sbWords 0x06 tag arg0 arg1 data ∧ s.sbNext src x =
      true :=
  ⟨.smbus, 9, 0x103, 0, 0, [6, 9, 0x103, 0, 0, 0, 0, 0], up,
    by decide +kernel⟩

theorem witness_SidebandCommandsExecute_sbThermResume : ∃ (src : Sideband) (tag : BitVec 16) (arg0 : BitVec 16) (arg1
      : BitVec 16) (data : Word) (cool : Bool) (x : List Nat) (s : State), x = sbWords 0x07 tag arg0 arg1 data ∧
      s.sbNext src x = true ∧ s.halted = true ∧ s.seq.doorbells = [] ∧ s.resets.waiting = [] :=
  ⟨.smbus, 9, 0, 0, 0, true, [7, 9, 0, 0, 0, 0, 0, 0], up.setFlag RF.PWR_MOD_STAT_HALTED 0 0 true,
    by decide +kernel⟩

theorem witness_SidebandCommandsExecute_sbGpioWriteOut : ∃ (src : Sideband) (tag : BitVec 16) (arg0 : BitVec 16)
      (arg1 : BitVec 16) (data : Word) (x : List Nat) (s : State), x = sbWords 0x10 tag arg0 arg1 data ∧ s.sbNext src
      x = true ∧ arg0.toNat = 5 ∧ s.modState ≠ 2 :=
  ⟨.smbus, 9, 5, 0, 0x21, [0x10, 9, 5, 0, 0x21, 0, 0, 0], up,
    by decide +kernel⟩

theorem witness_SidebandCommandsExecute_sbGpioWriteDuty : ∃ (src : Sideband) (tag : BitVec 16) (arg0 : BitVec 16)
      (arg1 : BitVec 16) (data : Word) (x : List Nat) (k : Nat) (s : State), x = sbWords 0x10 tag arg0 arg1 data ∧
      s.sbNext src x = true ∧ arg0.toNat = 13 + k ∧ k < 4 ∧ data.toNat % 512 ≤ 256 :=
  ⟨.smbus, 9, 15, 0, 256, [0x10, 9, 15, 0, 256, 0, 0, 0], 2, up,
    by decide +kernel⟩

theorem witness_SidebandCommandsExecute_sbGpioWriteLockKey : ∃ (src : Sideband) (tag : BitVec 16) (arg0 : BitVec 16)
      (arg1 : BitVec 16) (data : Word) (x : List Nat) (s : State), x = sbWords 0x10 tag arg0 arg1 data ∧ s.sbNext src
      x = true ∧ arg0.toNat = 11 ∧ data.toNat % 65536 = 0x5A5A ∧
  s.pins.lockArm.look 0 (if src = .crier then 1 else 2) = 0 :=
  ⟨.smbus, 9, 11, 0, 0x5A5A, [0x10, 9, 11, 0, 0x5A5A, 0, 0, 0], up,
    by decide +kernel⟩

theorem witness_SidebandCommandsExecute_sbGpioWriteReadOnly : ∃ (src : Sideband) (tag : BitVec 16) (arg0 : BitVec 16)
      (arg1 : BitVec 16) (data : Word) (x : List Nat) (s : State), x = sbWords 0x10 tag arg0 arg1 data ∧ s.sbNext src
      x = true ∧ 21 ≤ arg0.toNat ∧ arg0.toNat ≤ 26 :=
  ⟨.smbus, 9, 22, 0, 1, [0x10, 9, 22, 0, 1, 0, 0, 0], up,
    by decide +kernel⟩

theorem witness_GpioPinsAndControllers_gpioIrqDetect : ∃ (n : Fin 32) (level : Bool) (s : State), s.pinsServe = true
      :=
  ⟨3, true, up.wr .GPIO_IRQ_MODE_LO 0 0 0x600#64,
    by decide +kernel⟩

theorem witness_GpioPinsAndControllers_gpioOutSet : ∃ (m : BitVec 32) (s : State), s.pinsServe = true ∧ s.modState ≠
      2 :=
  ⟨9, up,
    by decide +kernel⟩

theorem witness_GpioPinsAndControllers_gpioOutClr : ∃ (m : BitVec 32) (s : State), s.pinsServe = true ∧ s.modState ≠
      2 :=
  ⟨9, up.setF RF.GPIO_OUT_OUT 0 0 15,
    by decide +kernel⟩

theorem witness_GpioPinsAndControllers_gpioLockKeyWrite : ∃ (src : GpioSource) (key : BitVec 16) (s : State),
      s.hearthUp = true :=
  ⟨.smbus, 0xA5A5, onPins (fun p => { p with lockArm := [(2, 1)] }) up,
    by decide +kernel⟩

theorem witness_GpioPinsAndControllers_gpioLockSetWrite : ∃ (src : GpioSource) (mask : BitVec 32) (s : State),
      s.hearthUp = true ∧ s.pins.lockArm.look 0 (lockSource src) = 2 :=
  ⟨.smbus, 0x11, onPins (fun p => { p with lockArm := [(2, 2)] }) up,
    by decide +kernel⟩

theorem witness_GpioPinsAndControllers_gpioLockSetWriteNotArmed : ∃ (src : GpioSource) (mask : BitVec 32) (s :
      State), s.hearthUp = true ∧ s.pins.lockArm.look 0 (lockSource src) ≠ 2 :=
  ⟨.pf, 0x11, up,
    by decide +kernel⟩

theorem witness_GpioPinsAndControllers_i2cGo : ∃ (n : Fin 2) (addr : BitVec 7) (read : Bool) (len : BitVec 3) (s :
      State), s.pinsServe = true ∧ s.flag RF.GPIO_I2Cn_BUSY 0 n.val = false :=
  ⟨1, 0x33, false, 2, up,
    by decide +kernel⟩

theorem witness_GpioPinsAndControllers_i2cGoBusy : ∃ (n : Fin 2) (addr : BitVec 7) (read : Bool) (len : BitVec 3) (s
      : State), s.pinsServe = true ∧ s.flag RF.GPIO_I2Cn_BUSY 0 n.val = true :=
  ⟨1, 0x33, false, 2, up.setFlag RF.GPIO_I2Cn_BUSY 0 1 true,
    by decide +kernel⟩

theorem witness_GpioPinsAndControllers_i2cDone : ∃ (n : Fin 2) (nack : Bool) (data : Word) (s : State), s.flag
      RF.GPIO_I2Cn_BUSY 0 n.val = true :=
  ⟨1, false, 0x1234#64, (up.setFlag RF.GPIO_I2Cn_BUSY 0 1 true).setFlag RF.GPIO_I2Cn_READ 0 1 true,
    by decide +kernel⟩

theorem witness_GpioPinsAndControllers_tachUpdate : ∃ (k : Fin 4) (rpm : BitVec 16) (s : State), s.pinsServe = true ∧
      (s.getF RF.GPIO_FUNC_FUNC 0 0).testBit (16 + k.val) = true :=
  ⟨2, 900, up.setF RF.GPIO_FUNC_FUNC 0 0 (2 ^ 18),
    by decide +kernel⟩

theorem witness_MctpAndPldmAnswers_mctpSetEndpointId : ∃ (pec : Bool) (eid : BitVec 8) (s : State), s.pinsServe =
      true ∧ pec = true ∧ eid ≠ 0#8 ∧ eid ≠ 0xFF#8 :=
  ⟨true, 9, up,
    by decide +kernel⟩

theorem witness_MctpAndPldmAnswers_mctpSetEndpointIdRefused : ∃ (pec : Bool) (eid : BitVec 8) (s : State),
      s.pinsServe = true ∧ pec = true ∧ (eid = 0#8 ∨ eid = 0xFF#8) :=
  ⟨true, 0xFF, up,
    by decide +kernel⟩

theorem witness_MctpAndPldmAnswers_mctpGetEndpointId : ∃ (pec : Bool) (s : State), s.pinsServe = true ∧ pec = true :=
  ⟨true, up.setF RF.HRT_SMB_STAT_EID 0 0 9,
    by decide +kernel⟩

theorem witness_MctpAndPldmAnswers_mctpGetEndpointIdBadPec : ∃ (pec : Bool) (s : State), s.pinsServe = true ∧ pec =
      false :=
  ⟨false, up,
    by decide +kernel⟩

theorem witness_MctpAndPldmAnswers_mctpGetEndpointUuid : ∃ (pec : Bool) (s : State), s.pinsServe = true ∧ pec = true
      :=
  ⟨true, up,
    by decide +kernel⟩

theorem witness_MctpAndPldmAnswers_mctpGetVersionSupport : ∃ (pec : Bool) (s : State), s.pinsServe = true ∧ pec =
      true :=
  ⟨true, up,
    by decide +kernel⟩

theorem witness_MctpAndPldmAnswers_mctpGetMsgTypeSupport : ∃ (pec : Bool) (s : State), s.pinsServe = true ∧ pec =
      true :=
  ⟨true, up,
    by decide +kernel⟩

theorem witness_MctpAndPldmAnswers_mctpGetVendorSupport : ∃ (pec : Bool) (s : State), s.pinsServe = true ∧ pec = true
      :=
  ⟨true, up,
    by decide +kernel⟩

theorem witness_MctpAndPldmAnswers_pldmGetTid : ∃ (pec : Bool) (s : State), s.pinsServe = true ∧ pec = true :=
  ⟨true, up,
    by decide +kernel⟩

theorem witness_MctpAndPldmAnswers_pldmSetTid : ∃ (pec : Bool) (tid : BitVec 8) (s : State), s.pinsServe = true ∧ pec
      = true :=
  ⟨true, 4, up,
    by decide +kernel⟩

theorem witness_MctpAndPldmAnswers_pldmGetVersion : ∃ (pec : Bool) (type_ : BitVec 8) (s : State), s.pinsServe = true
      ∧ pec = true :=
  ⟨true, 3, up,
    by decide +kernel⟩

theorem witness_MctpAndPldmAnswers_pldmGetTypes : ∃ (pec : Bool) (s : State), s.pinsServe = true ∧ pec = true :=
  ⟨true, up,
    by decide +kernel⟩

theorem witness_MctpAndPldmAnswers_pldmGetCommands : ∃ (pec : Bool) (type_ : BitVec 8) (s : State), s.pinsServe =
      true ∧ pec = true :=
  ⟨true, 2, up,
    by decide +kernel⟩

theorem witness_MctpAndPldmAnswers_pldmGetPdrRepoInfo : ∃ (pec : Bool) (s : State), s.pinsServe = true ∧ pec = true :=
  ⟨true, up,
    by decide +kernel⟩

theorem witness_MctpAndPldmAnswers_pldmGetPdr : ∃ (pec : Bool) (record : BitVec 32) (s : State), s.pinsServe = true ∧
      pec = true :=
  ⟨true, 0, up,
    by decide +kernel⟩

theorem witness_MctpAndPldmAnswers_pldmGetSensorReadingValue : ∃ (pec : Bool) (id : BitVec 16) (s : State),
      s.pinsServe = true ∧ pec = true ∧ id = 2#16 ∧ s.groupValid 0x21 = true :=
  ⟨true, 2, onPins (fun p => { p with mirror := [(0x21, [0, 900, 0, 0])] }) up,
    by decide +kernel⟩

theorem witness_MctpAndPldmAnswers_pldmGetSensorReadingUnavailable : ∃ (pec : Bool) (id : BitVec 16) (s : State),
      s.pinsServe = true ∧ pec = true ∧ 1 ≤ id.toNat ∧ id.toNat ≤ 8 ∧ s.pins.mirror = [] :=
  ⟨true, 8, up,
    by decide +kernel⟩

theorem witness_MctpAndPldmAnswers_pldmGetSensorReadingUnknown : ∃ (pec : Bool) (id : BitVec 16) (s : State),
      s.pinsServe = true ∧ pec = true ∧ (id = 0#16 ∨ 9 ≤ id.toNat) :=
  ⟨true, 9, up,
    by decide +kernel⟩

theorem witness_MctpAndPldmAnswers_pldmGetStateSensorsValue : ∃ (pec : Bool) (id : BitVec 16) (s : State),
      s.pinsServe = true ∧ pec = true ∧ id = 23#16 ∧ s.groupValid 0x28 = true :=
  ⟨true, 23, onPins (fun p => { p with mirror := [(0x28, [0, 0, 2, 0])] }) up,
    by decide +kernel⟩

theorem witness_MctpAndPldmAnswers_pldmGetStateSensorsUnavailable : ∃ (pec : Bool) (id : BitVec 16) (s : State),
      s.pinsServe = true ∧ pec = true ∧ 20 ≤ id.toNat ∧ id.toNat ≤ 25 ∧ s.pins.mirror = [] :=
  ⟨true, 20, up,
    by decide +kernel⟩

theorem witness_MctpAndPldmAnswers_pldmGetFruMetadata : ∃ (pec : Bool) (s : State), s.pinsServe = true ∧ pec = true :=
  ⟨true, up,
    by decide +kernel⟩

theorem witness_MctpAndPldmAnswers_pldmGetFruTable : ∃ (pec : Bool) (s : State), s.pinsServe = true ∧ pec = true :=
  ⟨true, up,
    by decide +kernel⟩

theorem witness_InterruptsAndCaptures_irqLineRise : ∃ (place : RegPlace) (p : Page) (i : Nat) (s : State), placePage
      place = some (p, i) ∧ s.lineHigh (hdrInst p i) = true ∧ s.irq.lines.contains (hdrInst p i) = false ∧
  s.h0Frozen = false ∧ s.lineFn p i = none :=
  ⟨.wafer 19, .WFR_RCV, 0, (up.setFlag RF.WFR_RCV_EVENT_HANG 0 0 true).wr .HDR_IRQ_EN (hdrInst .WFR_RCV 0) 0 2#64,
    by decide +kernel⟩

theorem witness_InterruptsAndCaptures_irqLineRiseLow : ∃ (place : RegPlace) (p : Page) (i : Nat) (s : State),
      placePage place = some (p, i) ∧ s.lineHigh (hdrInst p i) = false :=
  ⟨.wafer 19, .WFR_RCV, 0, up,
    by decide +kernel⟩

theorem witness_InterruptsAndCaptures_irqRearm : ∃  (s : State), s.waferLine = true :=
  ⟨(up.setFlag RF.WFR_RCV_EVENT_HANG 0 0 true).wr .HDR_IRQ_EN (hdrInst .WFR_RCV 0) 0 2#64,
    by decide +kernel⟩

theorem witness_InterruptsAndCaptures_irqRearmNoLine : ∃  (s : State), s.waferLine = false :=
  ⟨up,
    by decide +kernel⟩

theorem witness_InterruptsAndCaptures_errCaptureClear : ∃ (place : RegPlace) (writeErr : Bool) (more : Bool) (p :
      Page) (i : Nat) (r : Reg) (v : Nat) (s : State), placePage place = some (p, i) ∧ s.pageUp p = true ∧ writeErr =
      false ∧ p.info.errReg = some r ∧ (r, v) ∈ captureRegs ∧
  r ≠ .HST_FN_WIN_ERR :=
  ⟨.field 3 1, false, false, .FLD_COMMONS, 3, .FLD_CMN_ERR_STATUS, 6, (up.wr .FLD_CMN_ERR_STATUS 3 0 0xFFF#64).wr
      .HDR_ERR_TIME (hdrInst .FLD_COMMONS 3) 0 9#64,
    by decide +kernel⟩

theorem witness_InterruptsAndCaptures_errCaptureClearWriteErr : ∃ (place : RegPlace) (writeErr : Bool) (more : Bool)
      (p : Page) (i : Nat) (s : State), placePage place = some (p, i) ∧ s.pageUp p = true ∧ writeErr = true ∧ more =
      false :=
  ⟨.field 3 1, true, false, .FLD_COMMONS, 3, up.wr .HDR_WRITE_ERR (hdrInst .FLD_COMMONS 3) 0 0xFFFF#64,
    by decide +kernel⟩

theorem witness_RegisterAccesses_registerWritePermitted : ∃ (path : RegPath) (op : RegOp) (place : RegPlace) (offset
      : BitVec 12) (data : List Byte) (p : Page) (i : Nat) (r : Reg) (j k : Nat) (s : State), path = .wctl place
      offset ∧ op = .write data ∧ data.length = 8 ∧ offset.toNat % 8 = 0 ∧ placePage place = some (p, i) ∧
  s.pageUp p = true ∧ regAt p i offset.toNat = some (r, j, k) ∧ s.plainWrite r j k (w64 (leNat data)) = true ∧
  r.info.fields.all (fun x => decide (x.acc = .ro)) = false :=
  ⟨.wctl (.wafer 19) 0x40#12, .write (leBytes 8 5), .wafer 19, 0x40#12, leBytes 8 5, .WFR_RCV, 0, .WFR_RCV_CTL, 0, 0,
      up,
    by decide +kernel⟩

theorem witness_RegisterAccesses_registerWriteNotPermitted : ∃ (path : RegPath) (op : RegOp) (place : RegPlace)
      (offset : BitVec 12) (data : List Byte) (p : Page) (i : Nat) (r : Reg) (j k : Nat) (s : State), path = .reeve
      place offset ∧ op = .write data ∧ data.length = 8 ∧ offset.toNat % 8 = 0 ∧ placePage place = some (p, i) ∧
  s.pageUp p = true ∧ regAt p i offset.toNat = some (r, j, k) ∧ s.regWriter .reeve p i r = false :=
  ⟨.reeve (.wafer 19) 0x40#12, .write (leBytes 8 5), .wafer 19, 0x40#12, leBytes 8 5, .WFR_RCV, 0, .WFR_RCV_CTL, 0,
      0, up,
    by decide +kernel⟩

theorem witness_RegisterAccesses_registerWriteNoRegister : ∃ (path : RegPath) (op : RegOp) (place : RegPlace) (offset
      : BitVec 12) (data : List Byte) (p : Page) (i : Nat) (s : State), path = .wctl place offset ∧ op = .write data
      ∧ data.length = 8 ∧ offset.toNat % 8 = 0 ∧ placePage place = some (p, i) ∧
  s.pageUp p = true ∧ regAt p i offset.toNat = none :=
  ⟨.wctl (.wafer 19) 0xFF8#12, .write (leBytes 8 5), .wafer 19, 0xFF8#12, leBytes 8 5, .WFR_RCV, 0, up,
    by decide +kernel⟩

theorem witness_RegisterAccesses_registerWriteReadOnly : ∃ (path : RegPath) (op : RegOp) (place : RegPlace) (offset :
      BitVec 12) (data : List Byte) (p : Page) (i : Nat) (r : Reg) (j k : Nat) (s : State), path = .wctl place offset
      ∧ op = .write data ∧ data.length = 8 ∧ offset.toNat % 8 = 0 ∧ placePage place = some (p, i) ∧
  s.pageUp p = true ∧ regAt p i offset.toNat = some (r, j, k) ∧ r.info.fields.all (fun x => decide (x.acc = .ro)) =
      true :=
  ⟨.wctl (.wafer 19) 0x70#12, .write (leBytes 8 5), .wafer 19, 0x70#12, leBytes 8 5, .WFR_RCV, 0, .WFR_RCV_COUNTS, 0,
      0, up,
    by decide +kernel⟩

theorem witness_RegisterAccesses_registerWritePageDown : ∃ (path : RegPath) (op : RegOp) (place : RegPlace) (offset :
      BitVec 12) (data : List Byte) (p : Page) (i : Nat) (s : State), path = .wctl place offset ∧ op = .write data ∧
      placePage place = some (p, i) ∧ s.pageUp p = false :=
  ⟨.wctl (.wafer 19) 0x40#12, .write (leBytes 8 5), .wafer 19, 0x40#12, leBytes 8 5, .WFR_RCV, 0, atStage .hearth,
    by decide +kernel⟩

theorem witness_RegisterAccesses_registerWriteRead : ∃ (path : RegPath) (op : RegOp) (place : RegPlace) (offset :
      BitVec 12) (n : Nat) (p : Page) (i : Nat) (r : Reg) (j k : Nat) (s : State), path = .wctl place offset ∧ op =
      .read n ∧ n ≤ 8 ∧ offset.toNat % 8 = 0 ∧ placePage place = some (p, i) ∧
  s.pageUp p = true ∧ regAt p i offset.toNat = some (r, j, k) ∧ r = .WFR_RCV_CTL :=
  ⟨.wctl (.wafer 19) 0x40#12, .read 4, .wafer 19, 0x40#12, 4, .WFR_RCV, 0, .WFR_RCV_CTL, 0, 0, up.wr .WFR_RCV_CTL 0 0
      0x12345678#64,
    by decide +kernel⟩

theorem witness_RegisterAccesses_registerWriteDoorbell : ∃ (path : RegPath) (op : RegOp) (p : ParishId) (r : RingId)
      (data : List Byte) (s : State), path = .bar4 0 (BitVec.ofNat 24 (4096 * (64 * p.val + r.val))) ∧ op = .write
      data ∧ data.length = 4 ∧ s.host.ready = true ∧
  s.fnOn 0 = true :=
  ⟨.bar4 0 (BitVec.ofNat 24 (4096 * 66)), .write (leBytes 4 3), 1, 2, leBytes 4 3, onHostPort (fun h =>
      { h with ready := true }) ringUp,
    by decide +kernel⟩

theorem witness_AnEmptyQueueLetsTimePass : ∃ s : State, s.pending = [] ∧ s.commons.reqs = [] ∧
      s.reeve.scrubs = [] ∧ (s.now + 1) % 10000 = 0 ∧ 0 < s.fabric.slew :=
  ⟨later 9999 (onFabric (fun x => { x with slew := 3 }) up), by decide +kernel⟩

theorem witness_AnEmptyQueueLetsTimePass_back : ∃ s : State, s.pending = [] ∧ s.commons.reqs = [] ∧
      s.reeve.scrubs = [] ∧ (s.now + 1) % 10000 = 0 ∧ s.fabric.slew < 0 :=
  ⟨later 9999 (onFabric (fun x => { x with slew := -3 }) up), by decide +kernel⟩

theorem witness_AnEmptyQueueLetsTimePass_plain : ∃ s : State, s.pending = [] ∧ s.commons.reqs = [] ∧
      s.reeve.scrubs = [] ∧ (s.now + 1) % 10000 ≠ 0 :=
  ⟨up, by decide +kernel⟩

theorem witness_OnlyMalformedOperandsStop : ∃ (c : Instr) (s : State), c.wellFormed = true ∧ lengthDue c = false :=
  ⟨.powerUp, up, by decide +kernel⟩

theorem witness_OnlyMalformedOperandsStop_fault : ∃ (c : Instr) (s : State) (e : Fault), exec c s = .fault e :=
  ⟨.dataFlitReceive 0 [], up, .malformedOperand "DATA_FLIT_RECEIVE", rfl⟩

theorem test_sheaf_of_no_bytes_is_ill_formed :
      (Instr.sheafFetch 1 2 [] 0).wellFormed = false := by decide

theorem test_chain_without_descriptor_is_ill_formed :
      (Instr.tallyOpChain 0 5 srcPf none 3 false [1#8]).wellFormed = false := by decide

theorem test_foreign_issue_of_63_bytes_is_ill_formed :
      (Instr.taskEnqueue (.foreign srcPf 0 (List.replicate 63 0#8))).wellFormed = false := by decide

theorem test_tracked_issue_of_63_bytes_is_ill_formed :
      (Instr.e2eTrackedRequest 0 1 e2eSrc 0 0 (.issue (List.replicate 63 0#8))).wellFormed = false := by decide

theorem test_tracked_chain_of_65_bytes_is_ill_formed :
      (Instr.e2eTrackedRequest 0 1 e2eSrc 0 0 (.tally 3 (.chain 1 false (List.replicate 65 0#8)))).wellFormed = false
      := by decide

theorem test_identity_block_of_65_bytes_is_ill_formed :
      (Instr.identReceive 0 0 0 0 (List.replicate 65 0#8)).wellFormed = false := by decide

theorem test_flit_of_255_bytes_is_ill_formed :
      (Instr.dataFlitReceive 0 (List.replicate 255 0#8)).wellFormed = false := by decide

theorem test_flit_body_of_241_bytes_is_ill_formed :
      (Instr.flitTransmit 0 0 1 0 (List.replicate 241 0#8)).wellFormed = false := by decide

theorem test_dma_descriptor_of_31_bytes_is_ill_formed :
      (Instr.dmaDescFetch 0 0 (.data (List.replicate 31 0#8)) false).wellFormed = false := by decide

theorem test_flit_of_256_bytes_is_well_formed :
      (Instr.dataFlitReceive 0 (List.replicate 256 0#8)).wellFormed = true := by decide

theorem test_no_word_spells_a_command : decodeTableWord 32 0x12345678 = none := by decide

theorem test_step_takes_the_front : (match step { up with pending := [.tapReset, .tapIdcode] } with
    | .next t => t.pending
    | _ => []) = [.tapIdcode] := by decide +kernel

theorem test_idcode_low_bits : bitsOf 4 0x14F1AB47 = [1, 1, 1, 0] := by decide

theorem test_crc32_check_value : crc32 ([0x31#8, 0x32#8, 0x33#8, 0x34#8, 0x35#8, 0x36#8, 0x37#8, 0x38#8, 0x39#8]) =
      0xCBF43926 := by decide +kernel

theorem witness_StepKeepsTheCanonicalForm : ∃ s s' : State, s.canonical ∧ step s = .next s' :=
  ⟨{ up with pending := [.tapReset] }, _, ⟨by decide +kernel, by decide +kernel⟩, rfl⟩

theorem witness_SecondFreezeTriggerOnlyCounts : ∃ (s : State) (w : WaferId) (epoch : BitVec 16), s.boot.stage =
      .ready ∧
      s.getF RF.ASY_FRZ_STAT_STATE 0 0 = 2 ∧ s.saving = false ∧ s.flag RF.ASY_FRZ_CTL_PIN_EN 0 0 = true ∧ s.pinTest =
      false ∧
      s.freezeMsgOk w.val epoch.toNat = true ∧ s.tapOpen = true :=
  ⟨(((joinedUp true).setFlag RF.ASY_FRZ_CTL_FABRIC_EN 0 0 true).setF RF.ASY_FRZ_STAT_STATE 0 0 2).setFlag
      RF.ASY_FRZ_CTL_PIN_EN 0 0 true,
    3, 5, by decide +kernel⟩

theorem witness_SecondFreezeTriggerOnlyCounts_freezing : ∃ s : State, s.boot.stage = .ready ∧
      s.getF RF.ASY_FRZ_STAT_STATE 0 0 = 1 :=
  ⟨up.setF RF.ASY_FRZ_STAT_STATE 0 0 1, by decide +kernel⟩

theorem witness_BusyI2cAndNack : ∃ (n : Fin 2) (s : State), s.flag RF.GPIO_I2Cn_BUSY 0 n.val = true ∧ s.pinsServe =
      true :=
  ⟨1, up.setFlag RF.GPIO_I2Cn_BUSY 0 1 true, by decide +kernel⟩

theorem witness_EventTailBeyondHead : ∃ (s : State) (v : Nat), s.boot.stage = .ready ∧ v < 32 ∧
      ¬ (s.getF RF.WFR_FLD_EVT_HEAD_HEAD 0 0 + 32 - v) % 32 ≤
        (s.getF RF.WFR_FLD_EVT_HEAD_HEAD 0 0 + 32 - s.getF RF.WFR_FLD_EVT_TAIL_TAIL 0 0) % 32 :=
  ⟨up.setF RF.WFR_FLD_EVT_HEAD_HEAD 0 0 3, 7, by decide +kernel⟩

theorem test_tail_within_the_ring : (match exec (.registerWrite (.wctl (.wafer 2) 0x080#12) (.write (leBytes 8 2)))
      (up.setF RF.WFR_FLD_EVT_HEAD_HEAD 0 0 3) with
    | .next t => t.getF RF.WFR_FLD_EVT_TAIL_TAIL 0 0
    | _ => 99) = 2 := by decide +kernel

end Sys2Proof.Tests
end

/-! SUPPORT. Lemmas that the statements about single commands share: which registers an update leaves, fields of one
register, the entries of the spread table, and the integer registers of a thread. -/

namespace Sys2Proof.Machine

/-! ### Which registers an update leaves -/

theorem State.onlyRegs_refl (l : List Reg) (s : State) : s.onlyRegs l s := fun _ _ _ _ => rfl

theorem State.onlyRegs.trans {l : List Reg} {s t u : State} (h : s.onlyRegs l t) (k : t.onlyRegs l u) :
    s.onlyRegs l u :=
  fun r i n hr => (k r i n hr).trans (h r i n hr)

theorem State.onlyRegs.mono {l m : List Reg} {s t : State} (h : s.onlyRegs l t) (sub : l ⊆ m) : s.onlyRegs m t :=
  fun r i n hr => h r i n (fun hl => hr (sub hl))

theorem State.onlyRegs_wr {l : List Reg} (s : State) {r : Reg} (i n : Nat) (v : Word) (h : r ∈ l) :
    s.onlyRegs l (s.wr r i n v) :=
  fun _ j m hq => s.rd_wr_reg i n j m (ne_of_mem_of_not_mem h hq).symm v

theorem State.onlyRegs_setF {l : List Reg} (s : State) {f : RF} (i n v : Nat) (h : f.reg ∈ l) :
    s.onlyRegs l (s.setF f i n v) :=
  s.onlyRegs_wr i n _ h

theorem State.onlyRegs_setFlag {l : List Reg} (s : State) {f : RF} (i n : Nat) (b : Bool) (h : f.reg ∈ l) :
    s.onlyRegs l (s.setFlag f i n b) :=
  s.onlyRegs_setF i n _ h

theorem State.onlyRegs_addWrap {l : List Reg} (s : State) {f : RF} (i n k : Nat) (h : f.reg ∈ l) :
    s.onlyRegs l (s.addWrap f i n k) :=
  s.onlyRegs_setF i n _ h

/-! ### Fields and flags -/

theorem bits_lt (v : Word) (lo w : Nat) : bits v lo w < 2 ^ w := Nat.mod_lt _ (Nat.two_pow_pos w)

theorem bits_one_beq_one (v : Word) (lo : Nat) : (bits v lo 1 == 1) = bit v lo := by
  have hbit : (bits v lo 1).testBit 0 = bit v lo := testBit_bits v lo 1 0
  have hlt : bits v lo 1 < 2 := bits_lt v lo 1
  rw [← hbit, Nat.testBit_zero, Nat.mod_eq_of_lt hlt]
  rfl

/-- A write of one flag leaves a flag of the same register at another bit. -/
theorem State.flag_setFlag_disjoint (s : State) {f g : RF} (i n : Nat) (b : Bool) (h : g.reg = f.reg)
    (w : g.lo + g.w ≤ 64) (d : g.lo + g.w ≤ f.lo ∨ f.lo + f.w ≤ g.lo) :
    (s.setFlag f i n b).flag g i n = s.flag g i n :=
  congrArg (· == 1) (s.getF_setF_disjoint i n _ h w d)

theorem rkey_ne_of_idx {r : Reg} {i n m : Nat} (hn : n < 4096) (hm : m < 4096) (h : n ≠ m) :
    rkey r i n ≠ rkey r i m := by
  intro e
  have hidx : n % 4096 = m % 4096 := congrArg (fun k => k.idx.val) e
  exact h (by rwa [Nat.mod_eq_of_lt hn, Nat.mod_eq_of_lt hm] at hidx)

/-! ### Entries of the spread table -/

theorem State.slotEntry_setSlotEntry_same (s : State) (k v : Nat) :
    (s.setSlotEntry k v).slotEntry k = v % 2 ^ 16 := by
  rw [State.slotEntry, State.setSlotEntry, State.rd_wr_same]
  exact bits_putBits_same _ _ _ _ (by omega)

/-- A write of one slot leaves every other slot, in the same register and in the other ones. -/
theorem State.slotEntry_setSlotEntry_other (s : State) {j k : Nat} (v : Nat) (hj : j < 16384) (hk : k < 16384)
    (h : j ≠ k) : (s.setSlotEntry k v).slotEntry j = s.slotEntry j := by
  unfold State.slotEntry State.setSlotEntry
  by_cases hreg : j / 4 = k / 4
  · rw [hreg, State.rd_wr_same]
    exact bits_putBits_other _ _ _ _ _ _ (by omega) (by omega)
  · rw [State.rd_wr_other s (rkey_ne_of_idx (by omega) (by omega) hreg)]

theorem State.slotEntry_setF (s : State) {f : RF} (i n v k : Nat) (h : f.reg ≠ .WFR_SPREAD_SLOTk) :
    (s.setF f i n v).slotEntry k = s.slotEntry k := by
  unfold State.slotEntry
  rw [State.rd_setF_reg s i n 0 (k / 4) v h.symm]

/-- What a slot takes of a written entry: FIELD and VALID, with LOST clear (R65, R100, R768). -/
def slotTaken (e : Nat) : Nat := nbits e 0 7 + nbits e 15 1 * 2 ^ 15

theorem slotTaken_lt (e : Nat) : slotTaken e < 2 ^ 16 := by
  unfold slotTaken nbits
  omega

theorem slotField_slotTaken (e : Nat) : slotField (slotTaken e) = slotField e := by
  unfold slotField slotTaken nbits
  omega

theorem slotValid_slotTaken (e : Nat) : slotValid (slotTaken e) = slotValid e := by
  unfold slotValid slotTaken nbits
  rw [Nat.testBit_eq_decide_div_mod_eq, Nat.testBit_eq_decide_div_mod_eq, decide_eq_decide]
  omega

theorem slotLost_slotTaken (e : Nat) : slotLost (slotTaken e) = false := by
  unfold slotLost slotTaken nbits
  rw [Nat.testBit_eq_decide_div_mod_eq, decide_eq_false_iff_not]
  omega

theorem slotLost_or_128 (e : Nat) : slotLost ((e ||| 128) % 2 ^ 16) = true := by
  rw [slotLost, Nat.testBit_mod_two_pow, Nat.testBit_or]
  simp [show Nat.testBit 128 7 = true from rfl]

theorem slotField_or_128 (e : Nat) : slotField ((e ||| 128) % 2 ^ 16) = slotField e := by
  have hlow : (e ||| 128) % 2 ^ 7 = e % 2 ^ 7 := by
    rw [Nat.or_mod_two_pow, show 128 % 2 ^ 7 = 0 from rfl, Nat.or_zero]
  unfold slotField nbits
  omega

/-! ### Integer registers of a thread -/

theorem Thread.xr_setX_same (t : Thread) {r : XReg} (h : r.val ≠ 0) (v : Word) : (t.setX r v).xr r = v := by
  simp [Thread.xr, Thread.setX, h]

theorem Thread.xr_setX_other (t : Thread) {q r : XReg} (h : q ≠ r) (v : Word) : (t.setX r v).xr q = t.xr q := by
  unfold Thread.xr Thread.setX
  by_cases hr : r.val = 0
  · simp [hr]
  · simp [hr, NMap.look_put_other _ _ (fun e => h (Fin.ext e) : q.val ≠ r.val)]

end Sys2Proof.Machine

/-! The status record of a kept task (O27): a record that its access refuses leaves an error time. -/

namespace Sys2Proof.Machine

/-- A task descriptor with STATUS_EN whose status record goes to field 80, which no wafer has (R57, R125). -/
def statusToNowhere : List Byte :=
  leBytes 8 0 ++ leBytes 8 (directAddr 0 80 0 0 + 2 ^ 57) ++ List.replicate 48 0#8

/-- At 1 ns, the spine of pass-through field 3 keeps one cancelled task of the field's quern 0 (R137). -/
def spineKeepsTask : State :=
  { State.reset.setF RF.WFR_FLDf_STATUS_STATE 0 3 1 with
    now := 1
    commons := { State.reset.commons with kept := [⟨3, 0, 0, 0, 0, statusToNowhere, none, stCancelled, 0xFB⟩] } }

/-- The record's write ends with FIELD_INVALID, which the first-error capture of field 3 takes (R90, R92); a capture
loads HDR_ERR_TIME with the fabric time (R739). -/
theorem retiredTaskStatus_loads_errTime : ∃ t, exec (.retiredTaskStatus 3) spineKeepsTask = .next t ∧
    t.rd .HDR_ERR_TIME (hdrInst .FLD_COMMONS 3) 0 = 1#64 ∧
    spineKeepsTask.rd .HDR_ERR_TIME (hdrInst .FLD_COMMONS 3) 0 = 0#64 :=
  ⟨_, rfl, by decide, by decide⟩

/-- Refutes O27: the registers that RETIRED_TASK_STATUS may touch leave out HDR_ERR_TIME, which the capture of a
refused status record loads (R92, R739). -/
theorem not_fieldsRetireAndReport : ¬ Obligations.FieldsRetireAndReport := by
  unfold Obligations.FieldsRetireAndReport
  rintro ⟨-, -, -, -, -, -, hkept, -⟩
  obtain ⟨s', hexec, -, -, hregs⟩ := hkept 3 spineKeepsTask
  obtain ⟨t, ht, hafter, hbefore⟩ := retiredTaskStatus_loads_errTime
  obtain rfl : t = s' := Host.Outcome.next.inj (ht.symm.trans hexec)
  have hsame := hregs .HDR_ERR_TIME (hdrInst .FLD_COMMONS 3) 0 (by decide)
  rw [hafter, hbefore] at hsame
  exact absurd hsame (by decide)

end Sys2Proof.Machine

/-! The spread window, the SRO windows, route rebuilds and thread starts (O37): one lemma per command, and what its
shared operation does. -/

namespace Sys2Proof.Machine

/-! ### The spread table (R65–R68, R768) -/

theorem State.spreadOn_spreadErr (s : State) : s.spreadErr.spreadOn = s.spreadOn :=
  s.flag_setFlag_disjoint 0 0 true rfl (by decide) (by decide)

theorem State.writeErr_spreadErr (s : State) : s.spreadErr.flag RF.WFR_SPREAD_CTL_WRITE_ERR 0 0 = true :=
  s.flag_setFlag_same _ 0 0 true (by decide) rfl

theorem exec_spreadEnable (s : State) : ∃ s', exec .spreadEnable s = .next s' ∧
    ((s.spreadOn = true → s' = s) ∧ (s.spreadOn = false → s.spreadOk = true → s'.spreadOn = true) ∧
      (s.spreadOn = false → s.spreadOk = false →
        s'.flag RF.WFR_SPREAD_CTL_WRITE_ERR 0 0 = true ∧ s'.spreadOn = false)) ∧
    s' = { s with regs := s'.regs } ∧ s.onlyRegs [.WFR_SPREAD_CTL] s' := by
  refine ⟨s.spreadEnable, rfl, ?_⟩
  unfold State.spreadEnable
  by_cases hon : s.spreadOn = true
  · simp [hon, s.onlyRegs_refl]
  · by_cases hok : s.spreadOk = true
    · have hset : (s.setFlag RF.WFR_SPREAD_CTL_ENABLE 0 0 true).spreadOn = true :=
        s.flag_setFlag_same _ 0 0 true (by decide) rfl
      rw [if_neg hon, if_pos hok]
      exact ⟨⟨fun h => absurd h hon, fun _ _ => hset, fun _ h => absurd hok (by simp [h])⟩, rfl,
        s.onlyRegs_setFlag 0 0 true (by decide)⟩
    · rw [if_neg hon, if_neg hok]
      exact ⟨⟨fun h => absurd h hon, fun _ h => absurd h hok,
          fun h _ => ⟨s.writeErr_spreadErr, s.spreadOn_spreadErr.trans h⟩⟩, rfl,
        s.onlyRegs_setFlag 0 0 true (by decide)⟩

/-- The window with ENABLE clear, draining the accesses that are open (R66). -/
def State.spreadDraining (s : State) : State :=
  { s with commons := { s.commons with spreadDrain := s.spreadOpen } }.setFlag RF.WFR_SPREAD_CTL_ENABLE 0 0 false

theorem State.spreadDisable_of_on (s : State) (hon : s.spreadOn = true) :
    s.spreadDisable = s.spreadDraining.setFlag RF.WFR_SPREAD_CTL_BUSY 0 0 true := by
  simp only [State.spreadDisable, hon, Bool.not_true, Bool.false_eq_true, if_false]
  rfl

theorem exec_spreadDisable (s : State) (hon : s.spreadOn = true) : ∃ s', exec .spreadDisable s = .next s' ∧
    (s'.spreadOn = false ∧ s'.flag RF.WFR_SPREAD_CTL_BUSY 0 0 = true ∧ s'.commons.spreadDrain = s.spreadOpen) ∧
    s' = { s with regs := s'.regs, commons := s'.commons } ∧ s.onlyRegs [.WFR_SPREAD_CTL] s' := by
  refine ⟨s.spreadDisable, rfl, ?_⟩
  rw [s.spreadDisable_of_on hon]
  have hoff : s.spreadDraining.spreadOn = false := State.flag_setFlag_same _ _ 0 0 false (by decide) rfl
  have hregs : s.onlyRegs [.WFR_SPREAD_CTL] s.spreadDraining := State.onlyRegs_setFlag _ 0 0 false (by decide)
  refine ⟨⟨?_, s.spreadDraining.flag_setFlag_same _ 0 0 true (by decide) rfl, rfl⟩, rfl, ?_⟩
  · rw [← hoff]
    exact s.spreadDraining.flag_setFlag_disjoint 0 0 true rfl (by decide) (by decide)
  · exact hregs.trans (s.spreadDraining.onlyRegs_setFlag 0 0 true (by decide))

theorem exec_spreadDrained (s : State) (hbusy : s.flag RF.WFR_SPREAD_CTL_BUSY 0 0 = true)
    (hopen : s.allReqs.any (fun r => s.commons.spreadDrain.contains r.id && r.reply.isNone) = false) :
    ∃ s', exec .spreadDrained s = .next s' ∧
      (s'.flag RF.WFR_SPREAD_CTL_BUSY 0 0 = false ∧ s'.commons.spreadDrain = []) ∧
      s' = { s with regs := s'.regs, commons := s'.commons } ∧ s.onlyRegs [.WFR_SPREAD_CTL] s' := by
  refine ⟨_, if_neg (by simp only [hbusy, hopen]; decide), ⟨?_, rfl⟩, rfl, ?_⟩
  · exact State.flag_setFlag_same _ _ 0 0 false (by decide) rfl
  · exact State.onlyRegs_setFlag _ 0 0 false (by decide)

theorem exec_spreadSlotWrite (k : Fin 80) (entry : BitVec 16) (s : State) :
    ∃ s', exec (.spreadSlotWrite k entry) s = .next s' ∧
      ((s.spreadOn = true →
          s'.flag RF.WFR_SPREAD_CTL_WRITE_ERR 0 0 = true ∧ (∀ j < 80, s'.slotEntry j = s.slotEntry j)) ∧
        (s.spreadOn = false → slotField (s'.slotEntry k.val) = slotField entry.toNat ∧
          slotValid (s'.slotEntry k.val) = slotValid entry.toNat ∧ slotLost (s'.slotEntry k.val) = false ∧
          (∀ j < 80, j ≠ k.val → s'.slotEntry j = s.slotEntry j))) ∧
      s' = { s with regs := s'.regs } ∧ s.onlyRegs [.WFR_SPREAD_CTL, .WFR_SPREAD_SLOTk] s' := by
  refine ⟨s.spreadSlotWrite k.val entry.toNat, rfl, ?_⟩
  unfold State.spreadSlotWrite
  by_cases hon : s.spreadOn = true
  · simp only [hon, if_true]
    exact ⟨⟨fun _ => ⟨s.writeErr_spreadErr, fun j _ => s.slotEntry_setF 0 0 _ j (by decide)⟩, by simp⟩, rfl,
      s.onlyRegs_setFlag 0 0 true (by decide)⟩
  · have hentry : (s.setSlotEntry k.val (slotTaken entry.toNat)).slotEntry k.val = slotTaken entry.toNat := by
      rw [s.slotEntry_setSlotEntry_same, Nat.mod_eq_of_lt (slotTaken_lt _)]
    have hother (j : Nat) (hj : j < 80) (hne : j ≠ k.val) :
        (s.setSlotEntry k.val (slotTaken entry.toNat)).slotEntry j = s.slotEntry j :=
      s.slotEntry_setSlotEntry_other _ (by omega) (by omega) hne
    rw [if_neg hon, ← slotTaken, hentry]
    exact ⟨⟨fun h => absurd h hon, fun _ => ⟨slotField_slotTaken _, slotValid_slotTaken _, slotLost_slotTaken _,
      hother⟩⟩, rfl, s.onlyRegs_wr 0 _ _ (by decide)⟩

/-- Slot `k` of a retired field marked LOST, and the field's mark no longer due (R68). -/
def State.slotMarked (s : State) (f k : Nat) : State :=
  { s.setSlotEntry k (s.slotEntry k ||| 128) with
    commons := { s.commons with spreadMarks := s.commons.spreadMarks.filter (· != f) } }

/-- WFR_SPREAD_GEN after the last slot is marked: an odd generation becomes even (R68). -/
def State.spreadGenEven (s : State) : State :=
  if s.commons.spreadMarks.isEmpty ∧ s.getF RF.WFR_SPREAD_GEN_GEN 0 0 % 2 = 1 then
    s.addWrap RF.WFR_SPREAD_GEN_GEN 0 0 1 else s

theorem State.getF_spreadGenEven (s : State) : s.spreadGenEven.getF RF.WFR_SPREAD_GEN_GEN 0 0 =
    if s.commons.spreadMarks.isEmpty ∧ s.getF RF.WFR_SPREAD_GEN_GEN 0 0 % 2 = 1 then
      wrapAdd RF.WFR_SPREAD_GEN_GEN.w (s.getF RF.WFR_SPREAD_GEN_GEN 0 0) 1
    else s.getF RF.WFR_SPREAD_GEN_GEN 0 0 := by
  unfold State.spreadGenEven
  split
  · exact s.getF_addWrap_same _ 0 0 1 (by decide)
  · rfl

theorem State.slotEntry_spreadGenEven (s : State) (k : Nat) : s.spreadGenEven.slotEntry k = s.slotEntry k := by
  unfold State.spreadGenEven
  split
  · exact s.slotEntry_setF 0 0 _ k (by decide)
  · rfl

theorem State.spreadGenEven_frame (s : State) : s.spreadGenEven = { s with regs := s.spreadGenEven.regs } := by
  unfold State.spreadGenEven
  split <;> rfl

theorem State.onlyRegs_spreadGenEven (s : State) : s.onlyRegs [.WFR_SPREAD_GEN] s.spreadGenEven := by
  unfold State.spreadGenEven
  split
  · exact s.onlyRegs_addWrap 0 0 1 (by decide)
  · exact s.onlyRegs_refl _

theorem exec_spreadMarkLost (f : FieldId) (k : Nat) (s : State)
    (hmark : s.commons.spreadMarks.contains f.val = true) (hfrz : s.frozen = false) (hslot : s.slotOf f.val = k)
    (hk : k ≠ 0x7F) : ∃ s', exec (.spreadMarkLost f) s = .next s' ∧
      (slotLost (s'.slotEntry k) = true ∧ slotField (s'.slotEntry k) = slotField (s.slotEntry k) ∧
        s'.commons.spreadMarks = s.commons.spreadMarks.filter (· != f.val) ∧
        s'.getF RF.WFR_SPREAD_GEN_GEN 0 0 = (if (s.commons.spreadMarks.filter (· != f.val)).isEmpty ∧
            s.getF RF.WFR_SPREAD_GEN_GEN 0 0 % 2 = 1 then
          wrapAdd RF.WFR_SPREAD_GEN_GEN.w (s.getF RF.WFR_SPREAD_GEN_GEN 0 0) 1
        else s.getF RF.WFR_SPREAD_GEN_GEN 0 0)) ∧
      s' = { s with regs := s'.regs, commons := s'.commons } ∧
      s.onlyRegs [.WFR_SPREAD_GEN, .WFR_SPREAD_SLOTk] s' := by
  have hexec : exec (.spreadMarkLost f) s = .next (s.slotMarked f.val k).spreadGenEven := by
    show execSpreadMarkLost f s = _
    simp only [execSpreadMarkLost, hmark, hfrz, hslot, hk, Bool.not_true, Bool.or_self, Bool.false_eq_true, if_false]
    rfl
  have hentry : (s.slotMarked f.val k).spreadGenEven.slotEntry k = (s.slotEntry k ||| 128) % 2 ^ 16 :=
    (State.slotEntry_spreadGenEven _ k).trans (s.slotEntry_setSlotEntry_same k _)
  have hgen : (s.slotMarked f.val k).getF RF.WFR_SPREAD_GEN_GEN 0 0 = s.getF RF.WFR_SPREAD_GEN_GEN 0 0 :=
    congrArg (bits · 0 32) (s.rd_wr_reg 0 (k / 4) 0 0 (by decide) _)
  refine ⟨_, hexec, ⟨?_, ?_, ?_, ?_⟩, ?_, ?_⟩
  · rw [hentry, slotLost_or_128]
  · rw [hentry, slotField_or_128]
  · rw [State.spreadGenEven_frame]
    rfl
  · rw [State.getF_spreadGenEven, hgen]
    rfl
  · rw [State.spreadGenEven_frame]
    rfl
  · have hslots : s.onlyRegs [.WFR_SPREAD_GEN, .WFR_SPREAD_SLOTk] (s.slotMarked f.val k) :=
      s.onlyRegs_wr 0 _ _ (by decide)
    exact hslots.trans ((State.onlyRegs_spreadGenEven _).mono (by simp))

/-! ### The SRO windows (R71, R118) -/

theorem State.writeFields_sroLimit (s : State) (p w : Nat) (v : Word) : s.writeFields .WFR_SROw_LIMIT p w v =
    s.wr .WFR_SROw_LIMIT p w (putBits (s.rd .WFR_SROw_LIMIT p w) 16 41 (bits v 16 41)) := rfl

theorem State.writeFields_sroBase (s : State) (p w : Nat) (v : Word) : s.writeFields .WFR_SROw_BASE p w v =
    s.wr .WFR_SROw_BASE p w (putBits (putBits (s.rd .WFR_SROw_BASE p w) 0 1 (bits v 0 1)) 16 41 (bits v 16 41)) := rfl

theorem contains_setInsert_self (k : Nat) (l : List Nat) : (setInsert k l).contains k = true :=
  List.contains_iff_mem.mpr (mem_setInsert.mpr (.inl rfl))

/-- The windows as the fields hold them when a copy starts (R71). -/
def State.sroOldWindows (s : State) (p : Nat) : NMap Word :=
  (List.range 16).foldl (fun m i => NMap.put (NMap.put m 0#64 (p * 32 + 2 * i) (s.rd .WFR_SROw_BASE p i)) 0#64
    (p * 32 + 2 * i + 1) (s.rd .WFR_SROw_LIMIT p i)) s.commons.sroOld

/-- A copy of a parish's windows has started, with WFR_SRO_GEN odd (R71). -/
def State.sroCopyStarted (s : State) (p : Nat) : State :=
  { s with commons := { s.commons with
    sroCopy := setInsert p s.commons.sroCopy, sroOld := s.sroOldWindows p } }.addWrap RF.WFR_SRO_GEN_GEN p 0 1

theorem State.sroWrite_starts_copy (s : State) (limit : Bool) (p w : Nat) (v : Word)
    (h : s.commons.sroCopy.contains p = false) : s.sroWrite limit p w v =
      (s.sroCopyStarted p).writeFields (if limit then .WFR_SROw_LIMIT else .WFR_SROw_BASE) p w v := by
  simp only [State.sroWrite, h, Bool.false_eq_true, if_false]
  rfl

theorem exec_sroWindowWrite (p : ParishId) (w : Fin 16) (limit : Bool) (v : Word) (s : State)
    (h : s.commons.sroCopy.contains p.val = false) : ∃ s', exec (.sroWindowWrite p w limit v) s = .next s' ∧
      (s'.commons.sroCopy.contains p.val = true ∧
        s'.getF RF.WFR_SRO_GEN_GEN p.val 0 =
          wrapAdd RF.WFR_SRO_GEN_GEN.w (s.getF RF.WFR_SRO_GEN_GEN p.val 0) 1 ∧
        (limit = true → s'.getF RF.WFR_SROw_LIMIT_LIMIT p.val w.val = bits v 16 41) ∧
        (limit = false → s'.getF RF.WFR_SROw_BASE_BASE p.val w.val = bits v 16 41 ∧
          s'.flag RF.WFR_SROw_BASE_ENABLE p.val w.val = bit v 0)) ∧
      s' = { s with regs := s'.regs, commons := s'.commons } := by
  refine ⟨s.sroWrite limit p.val w.val v, rfl, ?_⟩
  rw [s.sroWrite_starts_copy limit p.val w.val v h]
  have hcopy : (s.sroCopyStarted p.val).commons.sroCopy.contains p.val = true := contains_setInsert_self _ _
  have hgen : (s.sroCopyStarted p.val).getF RF.WFR_SRO_GEN_GEN p.val 0 =
      wrapAdd RF.WFR_SRO_GEN_GEN.w (s.getF RF.WFR_SRO_GEN_GEN p.val 0) 1 :=
    State.getF_addWrap_same _ _ _ _ 1 (by decide)
  have hnum : bits v 16 41 % 2 ^ 41 = bits v 16 41 := Nat.mod_eq_of_lt (bits_lt v 16 41)
  cases limit
  case true =>
    rw [if_pos rfl, State.writeFields_sroLimit]
    refine ⟨⟨hcopy, ?_, fun _ => ?_, nofun⟩, rfl⟩
    · exact (congrArg (bits · 0 32) (State.rd_wr_reg _ _ _ _ _ (by decide) _)).trans hgen
    · rw [State.getF, State.rd_wr_same, bits_putBits_same _ _ _ _ (by decide), hnum]
  case false =>
    rw [if_neg (by decide), State.writeFields_sroBase]
    refine ⟨⟨hcopy, ?_, nofun, fun _ => ⟨?_, ?_⟩⟩, rfl⟩
    · exact (congrArg (bits · 0 32) (State.rd_wr_reg _ _ _ _ _ (by decide) _)).trans hgen
    · rw [State.getF, State.rd_wr_same, bits_putBits_same _ _ _ _ (by decide), hnum]
    · rw [State.flag, State.getF, State.rd_wr_same, bits_putBits_other _ _ _ _ _ _ (by decide) (by decide),
        bits_putBits_same _ _ _ _ (by decide), Nat.mod_eq_of_lt (bits_lt v 0 1), bits_one_beq_one]

theorem exec_sroCopyDone (p : ParishId) (s : State) (h : s.commons.sroCopy.contains p.val = true) :
    ∃ s', exec (.sroCopyDone p) s = .next s' ∧
      (s'.commons.sroCopy = s.commons.sroCopy.filter (· != p.val) ∧
        s'.getF RF.WFR_SRO_GEN_GEN p.val 0 =
          wrapAdd RF.WFR_SRO_GEN_GEN.w (s.getF RF.WFR_SRO_GEN_GEN p.val 0) 1) ∧
      s' = { s with regs := s'.regs, commons := s'.commons } ∧ s.onlyRegs [.WFR_SRO_GEN] s' :=
  ⟨_, congrArg Host.Outcome.next (if_pos h), ⟨rfl, State.getF_addWrap_same _ _ _ _ 1 (by decide)⟩, rfl,
    State.onlyRegs_addWrap _ _ _ 1 (by decide)⟩

theorem exec_sroInvStart (f : FieldId) (s : State) (h : s.inService f.val = true) :
    ∃ s', exec (.sroInvStart f) s = .next s' ∧
      (s'.commons.sroInv.contains f.val = true ∧ s'.flag RF.CRF_SRO_INV_BUSY f.val 0 = true) ∧
      s' = { s with regs := s'.regs, commons := s'.commons } ∧ s.onlyRegs [.CRF_SRO_INV] s' :=
  ⟨s.sroInvStart f.val, if_pos h, ⟨contains_setInsert_self _ _, State.flag_setFlag_same _ _ _ _ true (by decide) rfl⟩,
    rfl, State.onlyRegs_setFlag _ _ _ true (by decide)⟩

theorem exec_sroInvDone (f : FieldId) (s : State) (h : s.commons.sroInv.contains f.val = true) :
    ∃ s', exec (.sroInvDone f) s = .next s' ∧
      (s'.commons.sroInv = s.commons.sroInv.filter (· != f.val) ∧ s'.flag RF.CRF_SRO_INV_BUSY f.val 0 = false) ∧
      s' = { s with regs := s'.regs, commons := s'.commons } ∧ s.onlyRegs [.CRF_SRO_INV] s' :=
  ⟨_, if_pos h, ⟨rfl, State.flag_setFlag_same _ _ _ _ false (by decide) rfl⟩, rfl,
    State.onlyRegs_setFlag _ _ _ false (by decide)⟩

/-! ### Route rebuilds (R31, R34, R35) -/

/-- Load the route and the seam cost of one pair, as they are in `s`. -/
def State.loadPair (s t : State) (p : Nat × Nat) : State :=
  { t with commons := { t.commons with
      routes := t.commons.routes.put [] (p.1 * 80 + p.2) (((s.findRoute p.1 p.2).map (·.path)).getD [])
      seamCost := t.commons.seamCost.put 0 (p.1 * 80 + p.2) (s.costEntry p.1 p.2) } }

theorem State.loadRoutes_eq (s : State) : s.loadRoutes = fieldPairs.foldl s.loadPair s := rfl

/-- The route and the seam cost that the tables hold for a pair. -/
def State.pairEntry (t : State) (a b : Nat) : List Nat × Nat :=
  (t.commons.routes.look [] (a * 80 + b), t.commons.seamCost.look 0 (a * 80 + b))

theorem State.pairEntry_loadPair_same (s t : State) (a b : Nat) :
    (s.loadPair t (a, b)).pairEntry a b = (((s.findRoute a b).map (·.path)).getD [], s.costEntry a b) := by
  simp [State.pairEntry, State.loadPair]

theorem State.pairEntry_loadPair_other (s t : State) {p : Nat × Nat} {a b : Nat}
    (h : a * 80 + b ≠ p.1 * 80 + p.2) : (s.loadPair t p).pairEntry a b = t.pairEntry a b := by
  simp [State.pairEntry, State.loadPair, NMap.look_put_other _ _ h]

/-- Once every pair of a list is loaded, each of them holds its entry, whatever was loaded after it: no two pairs of
fields share a key. -/
theorem State.pairEntry_foldl_loadPair (s : State) {a b : Nat} (hb : b < 80) (l : List (Nat × Nat))
    (hl : ∀ p ∈ l, p.2 < 80) (t : State) : (l.foldl s.loadPair t).pairEntry a b =
      if (a, b) ∈ l then (((s.findRoute a b).map (·.path)).getD [], s.costEntry a b) else t.pairEntry a b := by
  induction l generalizing t with
  | nil => rfl
  | cons p r ih =>
    rw [List.foldl_cons, ih (fun q hq => hl q (List.mem_cons_of_mem p hq))]
    by_cases hr : (a, b) ∈ r
    · rw [if_pos hr, if_pos (List.mem_cons_of_mem p hr)]
    · rw [if_neg hr]
      by_cases hp : (a, b) = p
      · rw [if_pos (hp ▸ List.mem_cons_self), ← hp, s.pairEntry_loadPair_same]
      · have hmem : (a, b) ∉ p :: r := fun h => (List.mem_cons.mp h).elim hp hr
        have hp2 : p.2 < 80 := hl p List.mem_cons_self
        have hkey : a * 80 + b ≠ p.1 * 80 + p.2 := fun h => hp (Prod.ext (by omega : a = p.1) (by omega : b = p.2))
        rw [if_neg hmem, s.pairEntry_loadPair_other t hkey]

theorem mem_fieldPairs {a b : Nat} : (a, b) ∈ fieldPairs ↔ a < 80 ∧ b < 80 := by
  simp [fieldPairs]

theorem State.pairEntry_loadRoutes (s : State) {a b : Nat} (ha : a < 80) (hb : b < 80) :
    s.loadRoutes.pairEntry a b = (((s.findRoute a b).map (·.path)).getD [], s.costEntry a b) := by
  rw [s.loadRoutes_eq, s.pairEntry_foldl_loadPair hb _ (fun _ hp => (mem_fieldPairs.mp hp).2),
    if_pos (mem_fieldPairs.mpr ⟨ha, hb⟩)]

/-- Loading routes touches no register and no request. -/
theorem State.loadRoutes_frame (s : State) :
    s.loadRoutes.regs = s.regs ∧ s.loadRoutes.commons.reqs = s.commons.reqs := by
  have hfold (l : List (Nat × Nat)) (t : State) : (l.foldl s.loadPair t).regs = t.regs ∧
      (l.foldl s.loadPair t).commons.reqs = t.commons.reqs := by
    induction l generalizing t with
    | nil => exact ⟨rfl, rfl⟩
    | cons p r ih => exact ih (s.loadPair t p)
  rw [s.loadRoutes_eq]
  exact hfold fieldPairs s

/-- WFR_SEAM_GEN at the end of a rebuild: an odd generation becomes even (R35). -/
def State.seamGenEven (s : State) : State :=
  if s.getF RF.WFR_SEAM_GEN_GEN 0 0 % 2 = 1 then s.addWrap RF.WFR_SEAM_GEN_GEN 0 0 1 else s

theorem State.getF_seamGenEven (s : State) : s.seamGenEven.getF RF.WFR_SEAM_GEN_GEN 0 0 =
    if s.getF RF.WFR_SEAM_GEN_GEN 0 0 % 2 = 1 then
      wrapAdd RF.WFR_SEAM_GEN_GEN.w (s.getF RF.WFR_SEAM_GEN_GEN 0 0) 1
    else s.getF RF.WFR_SEAM_GEN_GEN 0 0 := by
  unfold State.seamGenEven
  split
  · exact s.getF_addWrap_same _ 0 0 1 (by decide)
  · rfl

/-- The end of a rebuild: an even generation, and no rebuild due (R35). -/
def State.seamRebuilt (s : State) : State :=
  { s.seamGenEven with commons := { s.seamGenEven.commons with seamDirty := false } }

theorem State.commons_seamRebuilt (s : State) : s.seamRebuilt.commons = { s.commons with seamDirty := false } := by
  unfold State.seamRebuilt State.seamGenEven
  split <;> rfl

theorem State.pairEntry_seamRebuilt (s : State) (a b : Nat) : s.seamRebuilt.pairEntry a b = s.pairEntry a b := by
  rw [State.pairEntry, s.commons_seamRebuilt]
  rfl

theorem State.getF_seamRebuilt (s : State) : s.seamRebuilt.getF RF.WFR_SEAM_GEN_GEN 0 0 =
    if s.getF RF.WFR_SEAM_GEN_GEN 0 0 % 2 = 1 then
      wrapAdd RF.WFR_SEAM_GEN_GEN.w (s.getF RF.WFR_SEAM_GEN_GEN 0 0) 1
    else s.getF RF.WFR_SEAM_GEN_GEN 0 0 :=
  s.getF_seamGenEven

theorem State.isolateLoop_of_none (s : State) (h : s.worstField = none) (n : Nat) : s.isolateLoop n = s := by
  cases n with
  | zero => rfl
  | succ n => rw [State.isolateLoop, h]

/-- A rebuild that isolates no field loads the tables and makes the generation even. -/
theorem State.routeRebuild_of_none (s : State) (h : s.worstField = none) : s.routeRebuild =
    s.loadRoutes.seamRebuilt := by
  unfold State.routeRebuild
  rw [s.isolateLoop_of_none h]
  rfl

theorem State.releaseHeld_of_none (dev : DeviceAccess) (s : State) (p : Request → Bool) (h : s.commons.reqs = []) :
    s.releaseHeld dev p = s := by
  rw [State.releaseHeld, h]
  rfl

theorem exec_routeRebuild (s : State) (hdirty : s.commons.seamDirty = true) (hfrz : s.frozen = false)
    (hworst : s.worstField = none) (hreqs : s.commons.reqs = []) :
    ∃ s', exec .routeRebuild s = .next s' ∧
      (s'.commons.seamDirty = false ∧
        s'.getF RF.WFR_SEAM_GEN_GEN 0 0 = (if s.getF RF.WFR_SEAM_GEN_GEN 0 0 % 2 = 1 then
          wrapAdd RF.WFR_SEAM_GEN_GEN.w (s.getF RF.WFR_SEAM_GEN_GEN 0 0) 1
        else s.getF RF.WFR_SEAM_GEN_GEN 0 0) ∧
        (∀ a b, a < 80 → b < 80 →
          s'.commons.routes.look [] (a * 80 + b) = ((s.findRoute a b).map (·.path)).getD [] ∧
          s'.commons.seamCost.look 0 (a * 80 + b) = s.costEntry a b)) := by
  obtain ⟨hregs, hloadReqs⟩ := s.loadRoutes_frame
  have hcommons := s.loadRoutes.commons_seamRebuilt
  have hnoReqs : s.loadRoutes.seamRebuilt.commons.reqs = [] := by rw [hcommons, hloadReqs, hreqs]
  have hexec : exec .routeRebuild s = .next s.loadRoutes.seamRebuilt := by
    show execRouteRebuild s = _
    rw [execRouteRebuild, if_neg (by simp [hdirty, hfrz]), s.routeRebuild_of_none hworst,
      State.releaseHeld_of_none _ _ _ hnoReqs]
  have hgen : s.loadRoutes.getF RF.WFR_SEAM_GEN_GEN 0 0 = s.getF RF.WFR_SEAM_GEN_GEN 0 0 := by
    simp only [State.getF, State.rd, hregs]
  have hpair (a b : Nat) (ha : a < 80) (hb : b < 80) : s.loadRoutes.seamRebuilt.pairEntry a b =
      (((s.findRoute a b).map (·.path)).getD [], s.costEntry a b) :=
    (s.loadRoutes.pairEntry_seamRebuilt a b).trans (s.pairEntry_loadRoutes ha hb)
  simp only [State.pairEntry, Prod.mk.injEq] at hpair
  exact ⟨_, hexec, by rw [hcommons], by rw [State.getF_seamRebuilt, hgen], hpair⟩

/-! ### Thread starts (R109–R111) -/

theorem State.thread_modBell (s : State) (f : Nat) (b : Bell → Bell) (g u : Nat) :
    (s.modBell f b).thread g u = s.thread g u := rfl

/-- The launches once the next thread of `l` has started: `l` moves on, and a launch with none left goes. -/
def launchesAfter (f : Nat) (l : Launch) (ls : List Launch) : List Launch :=
  (ls.map (fun y => if y.field = f ∧ y.sheaf = l.sheaf then { y with next := y.next + 1 } else y)).filter
    (fun y => decide (y.next < y.last))

/-- The end of a hardware thread's stack slot, its first stack pointer (R110, R111). -/
def State.stackTop (s : State) (f k : Nat) : Nat :=
  s.getF RF.CRF_STACK_BASE_BASE f 0 * 4096 + (k + 1) * s.slotBytes f

/-- The thread that starts on hardware thread `k` of a field, with its stack slot (R110, R111). -/
def State.launched (s : State) (f k : Nat) (l : Launch) : Thread :=
  startedThread (s.thread f k).csr l l.next k (s.getF RF.CRF_STACK_BASE_BASE f 0 * 4096 + k * s.slotBytes f)
    (s.stackTop f k)

theorem State.launched_state (s : State) (f k : Nat) (l : Launch) :
    (s.launched f k l).st = .ready ∧ (s.launched f k l).priv = .u ∧ (s.launched f k l).sheaf = some l.sheaf ∧
      (s.launched f k l).pc = BitVec.ofNat 64 (l.image + l.entry) :=
  ⟨rfl, rfl, rfl, rfl⟩

/-- The registers of a started thread: what R111 gives, and zero where it names none. -/
theorem State.launched_xr (s : State) (f k : Nat) (l : Launch) :
    (s.launched f k l).xr 10 = BitVec.ofNat 64 l.next ∧ (s.launched f k l).xr 11 = BitVec.ofNat 64 l.total ∧
      (s.launched f k l).xr 12 = BitVec.ofNat 64 l.arg ∧ (s.launched f k l).xr 13 = BitVec.ofNat 64 k ∧
      (s.launched f k l).xr 2 = BitVec.ofNat 64 (s.stackTop f k) ∧
      (s.launched f k l).xr 3 = BitVec.ofNat 64 (l.image + l.gp) ∧ (s.launched f k l).xr 5 = 0#64 := by
  have hcsr (t : Thread) (m : NMap Word) (q : XReg) : Thread.xr { t with csr := m } q = t.xr q := rfl
  simp (disch := decide) only [State.launched, startedThread, hcsr, Thread.xr_setX_same, Thread.xr_setX_other,
    true_and]
  rfl

theorem State.threadStart_of_launch (s : State) {f k : Nat} {l : Launch} (hrun : s.fieldRuns f = true)
    (hon : s.fieldPower f = 0)
    (hl : s.crofters.launches.find? (fun y => decide (y.field = f) && decide (y.next < y.last)) = some l)
    (hk : s.freeSlot f = some k) : s.threadStart f =
      (State.setThread { s with crofters := { s.crofters with launches := launchesAfter f l s.crofters.launches } }
        f k (s.launched f k l)).modBell f (fun b => { b with ran := true }) := by
  rw [State.threadStart, if_neg (by simp [hrun, hon]), hl, hk, State.launched, State.stackTop, Nat.succ_mul,
    ← Nat.add_assoc]
  rfl

theorem exec_threadStart (f : FieldId) (l : Launch) (k : Nat) (s : State) (hrun : s.fieldRuns f.val = true)
    (hon : s.fieldPower f.val = 0)
    (hl : s.crofters.launches.find? (fun y => decide (y.field = f.val) && decide (y.next < y.last)) = some l)
    (hk : s.freeSlot f.val = some k) : ∃ s', exec (.threadStart f) s = .next s' ∧
      ((s'.thread f.val k).st = .ready ∧ (s'.thread f.val k).priv = .u ∧ (s'.thread f.val k).sheaf = some l.sheaf ∧
        (s'.thread f.val k).pc = BitVec.ofNat 64 (l.image + l.entry) ∧
        (s'.thread f.val k).xr 10 = BitVec.ofNat 64 l.next ∧ (s'.thread f.val k).xr 11 = BitVec.ofNat 64 l.total ∧
        (s'.thread f.val k).xr 12 = BitVec.ofNat 64 l.arg ∧ (s'.thread f.val k).xr 13 = BitVec.ofNat 64 k ∧
        (s'.thread f.val k).xr 2 = BitVec.ofNat 64 (s.getF RF.CRF_STACK_BASE_BASE f.val 0 * 4096 +
          (k + 1) * s.slotBytes f.val) ∧
        (s'.thread f.val k).xr 3 = BitVec.ofNat 64 (l.image + l.gp) ∧ (s'.thread f.val k).xr 5 = 0#64 ∧
        s.onlyThread f.val k s') ∧
      s' = { s with crofters := s'.crofters } := by
  refine ⟨s.threadStart f.val, rfl, ?_⟩
  rw [s.threadStart_of_launch hrun hon hl hk, State.thread_modBell, State.thread_setThread_same]
  obtain ⟨hst, hpriv, hsheaf, hpc⟩ := s.launched_state f.val k l
  obtain ⟨ha0, ha1, ha2, ha3, hsp, hgp, ht0⟩ := s.launched_xr f.val k l
  refine ⟨⟨hst, hpriv, hsheaf, hpc, ha0, ha1, ha2, ha3, hsp, hgp, ht0, fun g u h => ?_⟩, rfl⟩
  rw [State.thread_modBell, State.thread_setThread_other _ _ h]
  rfl

/-- Settles O37: every command does what its lemma above says. -/
theorem spreadTableAndRoutes : Obligations.SpreadTableAndRoutes := by
  unfold Obligations.SpreadTableAndRoutes
  exact ⟨exec_spreadEnable, exec_spreadDisable, fun s ⟨hbusy, hopen⟩ => exec_spreadDrained s hbusy hopen,
    exec_spreadSlotWrite, fun f k s ⟨hmark, hfrz, hslot, hk⟩ => exec_spreadMarkLost f k s hmark hfrz hslot hk,
    exec_sroWindowWrite, exec_sroCopyDone, exec_sroInvStart, exec_sroInvDone,
    fun s ⟨hdirty, hfrz, hworst, hreqs⟩ => exec_routeRebuild s hdirty hfrz hworst hreqs,
    fun f l k s ⟨hrun, hon, hl, hk⟩ => exec_threadStart f l k s hrun hon hl hk⟩

end Sys2Proof.Machine

/-! Every step keeps memory and the register file in canonical form (O52): one lemma per function of the model that
answers a state, in the order of the model's files. -/
namespace Sys2Proof.Machine

/-! ### The shape of the proof

A state is in canonical form when its memory and its register file are (`State.canonical`). Each function of the model
that answers a state keeps the form; the lemma about it bears its name, so that a proof is the chain of the functions
that a definition applies. -/

variable {s t : State}

theorem State.canonical.ite {c : Prop} [Decidable c] (hs : s.canonical) (ht : t.canonical) :
    (if c then s else t).canonical := by
  split <;> assumption

theorem State.canonical.ite_fst {α : Type} {c : Prop} [Decidable c] {p q : State × α} (hp : p.1.canonical)
    (hq : q.1.canonical) : (if c then p else q).1.canonical := by
  split <;> assumption

theorem State.canonical.foldl {α : Type} {l : List α} {g : State → α → State} (h : s.canonical)
    (hg : ∀ t a, t.canonical → (g t a).canonical) : (l.foldl g s).canonical :=
  State.canonical_foldl l g hg h

theorem State.canonical.of_fst {α : Type} {p : State × α} {a : α} (h : p.1.canonical) (e : p = (t, a)) :
    t.canonical := by
  subst e; exact h

/-- What a command answers keeps the canonical form. -/
def outCanonical : Out → Prop
  | .next s => s.canonical
  | .fault _ => True
  | .refused _ => True

theorem outCanonical.ite {c : Prop} [Decidable c] {a b : Out} (ha : outCanonical a) (hb : outCanonical b) :
    outCanonical (if c then a else b) := by
  split <;> assumption

/-- A device access keeps the canonical form. -/
def DeviceAccess.keeps (dev : DeviceAccess) : Prop :=
  ∀ s src f r o k, s.canonical → (dev s src f r o k).1.canonical

theorem noDevice_keeps : noDevice.keeps := fun _ _ _ _ _ _ h => h

theorem State.canonical.wr {r : Reg} {i n : Nat} {v : Word} (h : s.canonical) : (s.wr r i n v).canonical :=
  State.canonical_wr h r i n v

theorem State.canonical.setF (h : s.canonical) {f : RF} {i n v : Nat} : (s.setF f i n v).canonical :=
  State.canonical_setF h ..

theorem State.canonical.resetRegs (h : s.canonical) {p : RKey → Bool} : (s.resetRegs p).canonical :=
  State.canonical_resetRegs h p

theorem State.canonical.capture (h : s.canonical) {v m : RF} {i : Nat} {fill : State → State}
    (hf : ∀ t, t.canonical → (fill t).canonical) : (s.capture v m i fill).canonical :=
  State.canonical_capture h v m i fill (hf s h)

theorem State.canonical.mem (h : s.canonical) : s.mem.wf = true := h.1
section
variable {now serial : Nat} {pending : List Instr} {commons : Commons} {crofters : Crofters} {tallies : Tallies}
  {engines : NMap Engine} {sieves : NMap Sieve} {cairns : Cairns} {looms : NMap Loom} {seq : Sequencer} {boot : Boot}
  {resets : Resets} {verne : Verne} {fabric : Fabric} {hbm : Hbm} {host : HostPort} {reeve : Reeve} {power : Power}
  {assay : Assay} {bist : Bist} {hearth : Hearth} {pins : Pins} {irq : Irq} {timeOffset : Int} {out : List OutMsg}

/-- What changes neither memory nor the register file keeps the form. -/

theorem State.canonical.frame (h : s.canonical) :
    State.canonical ⟨now, serial, pending, s.regs, s.mem, commons, crofters, tallies, engines, sieves,
      cairns, looms, seq, boot, resets, verne, fabric, hbm, host, reeve, power, assay, bist, hearth, pins,
      irq, timeOffset, out⟩ :=
  h

/-- Where only memory changes, its own form is enough. -/

theorem State.canonical.withMem (h : s.canonical) {m : Memory} (hm : m.wf = true) :
    State.canonical ⟨now, serial, pending, s.regs, m, commons, crofters, tallies, engines, sieves, cairns,
      looms, seq, boot, resets, verne, fabric, hbm, host, reeve, power, assay, bist, hearth, pins, irq,
      timeOffset, out⟩ :=
  ⟨hm, h.2⟩

end

theorem State.canonical.memWrite (h : s.canonical) {f r o : Nat} {data : List Byte} {bad : Bool} :
    (s.memWrite f r o data bad).canonical := by
  refine ⟨State.mem_wf_memWrite f r o data bad h.mem, ?_⟩
  unfold State.memWrite
  dsimp only
  split
  all_goals
    split
    · exact h.2
    · exact State.regs_wr_wf _ _ _ _ _ h.2

theorem State.canonical.reset : State.reset.canonical := ⟨rfl, State.regs_wf_reset⟩

/-! ### The functions of Ops -/

theorem State.canonical.setFlag (h : s.canonical) {f : RF} {inst idx : Nat} {b : Bool} :
    (s.setFlag f inst idx b).canonical :=
  h.setF

theorem State.canonical.addSat (h : s.canonical) {f : RF} {inst idx n : Nat} :
    (s.addSat f inst idx n).canonical :=
  h.setF

theorem State.canonical.addWrap (h : s.canonical) {f : RF} {inst idx n : Nat} :
    (s.addWrap f inst idx n).canonical :=
  h.setF

theorem State.canonical.resetPage (h : s.canonical) {p : Page} {inst : Nat} : (s.resetPage p inst).canonical :=
  h.resetRegs

theorem State.canonical.fresh (h : s.canonical) : s.fresh.2.canonical :=
  h.frame

theorem State.canonical.send (h : s.canonical) {m : OutMsg} : (s.send m).canonical :=
  h.frame

theorem State.canonical.msixNow (h : s.canonical) {fn : FnId} {entry : Nat} : (s.msixNow fn entry).canonical :=
  h.frame.ite h.send

theorem State.canonical.msixDrop (h : s.canonical) : s.msixDrop.canonical :=
  h.addSat.setFlag.ite h.addSat.setFlag.msixNow

theorem State.canonical.sendMsix (h : s.canonical) {fn : FnId} {entry : Nat} :
    (s.sendMsix fn entry).canonical :=
  h.ite (h.msixDrop.ite h.msixNow)

theorem State.canonical.sendFixed (h : s.canonical) {r : Reg} : (s.sendFixed r).canonical := by
  unfold State.sendFixed
  split
  · exact h.sendMsix.ite h
  · exact h

theorem State.canonical.raise (h : s.canonical) {f : RF} {inst : Nat} : (s.raise f inst).canonical :=
  h.setFlag.ite h.setFlag.sendFixed

theorem State.canonical.raiseAll (h : s.canonical) {l : List RF} {inst : Nat} :
    (s.raiseAll l inst).canonical := by
  unfold State.raiseAll
  split
  · exact h
  · exact (h.foldl fun _ _ h2 => h2.setFlag).sendFixed.ite (h.foldl fun _ _ h2 =>
      h2.setFlag)

theorem State.canonical.writeErr (h : s.canonical) {p : Page} {inst off cause : Nat} :
    (s.writeErr p inst off cause).canonical :=
  h.setFlag.ite h.setF.setF.setFlag

theorem State.canonical.breakRes (h : s.canonical) {f k n : Nat} : (s.breakRes f k n).canonical :=
  h.frame

/-! ### The functions of Operands -/

theorem State.canonical.setSlotEntry (h : s.canonical) {k v : Nat} : (s.setSlotEntry k v).canonical :=
  h.wr

theorem State.canonical.setEngine (h : s.canonical) {f u : Nat} {e : Engine} : (s.setEngine f u e).canonical :=
  h.frame

theorem State.canonical.modEngine (h : s.canonical) {f u : Nat} {g : Engine → Engine} :
    (s.modEngine f u g).canonical :=
  h.setEngine

/-! ### The functions of Flags -/

theorem State.canonical.captureAccess (h : s.canonical) {f : Nat} {st : AccStatus}
    {fresh isWrite sourceSide : Bool} {addr : Nat} {src : Source} :
    (s.captureAccess f st fresh isWrite sourceSide addr src).canonical :=
  h.capture (fun _ h1 => h1.wr.wr.wr)

theorem State.canonical.noteAccess (h : s.canonical) {target : Option Nat} {st : AccStatus}
    {fresh isWrite : Bool} {addr : Nat} {src : Source} :
    (s.noteAccess target st fresh isWrite addr src).canonical := by
  unfold State.noteAccess
  split
  · exact h
  · dsimp only
    split
    · refine State.canonical.addSat ?_
      split
      · exact h.captureAccess
      · exact h
    · refine State.canonical.addSat ?_
      split
      · exact h.captureAccess
      · exact h
    · split
      · exact h.captureAccess
      · exact h

/-! ### The functions of Mem -/

theorem State.canonical.perform (h : s.canonical) {f region off : Nat} {kind : AccessKind} :
    (s.perform f region off kind).1.canonical := by
  unfold State.perform
  dsimp only
  split
  · split
    · exact h
    · exact h.addWrap.ite h
  · exact h.memWrite
  · split
    · exact h
    · exact h.memWrite

theorem State.canonical.pushReq (h : s.canonical) {r : Request} : (s.pushReq r).canonical :=
  h.frame

theorem State.canonical.arrive (h : s.canonical) {r : Request} {f region off : Nat} :
    (s.arrive r f region off).1.canonical := by
  unfold State.arrive
  dsimp only
  split
  · exact h.frame
  · split
    · exact h.pushReq
    · split
      · exact h.frame
      · exact h.perform.noteAccess

theorem State.canonical.deliver {dev : DeviceAccess} (hdev : dev.keeps) (h : s.canonical) {r : Request} :
    (State.deliver dev s r).1.canonical := by
  unfold State.deliver
  dsimp only
  split
  · exact h.noteAccess
  · split
    · exact h.pushReq
    · exact h.send.pushReq
  · exact h.pushReq
  · split
    · exact (hdev _ _ _ _ _ _ h).noteAccess
    · exact h.arrive

theorem State.canonical.request {dev : DeviceAccess} (hdev : dev.keeps) (h : s.canonical) {src : Source}
    {addr : Nat} {kind : AccessKind} {sink : Sink} : (State.request dev s src addr kind sink).1.canonical :=
  h.frame.deliver hdev

theorem State.canonical.requestPart {dev : DeviceAccess} (hdev : dev.keeps) (h : s.canonical) {src : Source}
    {addr : Nat} {kind : AccessKind} {sink : Sink} {group : Nat} :
    (State.requestPart dev s src addr kind sink group).1.canonical :=
  h.frame.deliver hdev

theorem State.canonical.foreignReply (h : s.canonical) {addr n : Nat} : (s.foreignReply addr n).1.canonical :=
  h.fresh

theorem State.canonical.engRead (h : s.canonical) {src : Source} {addr n : Nat} :
    (s.engRead src addr n).1.canonical := by
  unfold State.engRead
  split
  · exact h.noteAccess
  · exact h.send.foreignReply
  · exact h
  · split
    · exact h.fresh
    · exact h.perform.noteAccess

theorem State.canonical.engWrite (h : s.canonical) {src : Source} {addr : Nat} {data : List Byte} {bad : Bool} :
    (s.engWrite src addr data bad).1.canonical := by
  unfold State.engWrite
  split
  · exact h.noteAccess
  · exact (h.send.foreignReply (addr := addr) (n := 0))
  · exact h
  · split
    · exact h.frame.pushReq
    · exact h.memWrite

theorem State.canonical.bulkReadL (h : s.canonical) {src : Source} {l : List (Nat × Nat)} :
    (s.bulkReadL src l).1.canonical := by
  induction l generalizing s with
  | nil => exact h
  | cons x r ih =>
    unfold State.bulkReadL
    dsimp only
    split
    · exact ih h.engRead
    · exact h.engRead

theorem State.canonical.bulkRead (h : s.canonical) {src : Source} {a n : Nat} :
    (s.bulkRead src a n).1.canonical :=
  h.bulkReadL

theorem State.canonical.bulkWriteL (h : s.canonical) {src : Source} {data : List Byte} {base : Nat}
    {l : List (Nat × Nat)} : (s.bulkWriteL src data base l).1.canonical := by
  induction l generalizing s with
  | nil => exact h
  | cons x r ih =>
    unfold State.bulkWriteL
    dsimp only
    split
    · exact ih h.engWrite
    · exact h.engWrite

theorem State.canonical.bulkWrite (h : s.canonical) {src : Source} {a : Nat} {data : List Byte} :
    (s.bulkWrite src a data).1.canonical :=
  h.bulkWriteL

theorem State.canonical.poisonOut (h : s.canonical) {src : Source} {a n : Nat} : (s.poisonOut src a n).canonical := by
  refine h.foldl fun t b h1 => ?_
  split
  · exact h1.withMem (Memory.wf_poison id _ h1.mem)
  · exact h1

theorem State.canonical.postWrite (h : s.canonical) {src : Source} {addr : Nat} {data : List Byte} :
    (s.postWrite src addr data).1.canonical :=
  h.request noDevice_keeps

/-! ### The functions of TallyOps -/

theorem State.canonical.setTally (h : s.canonical) {k : Nat} {t : Tally} : (s.setTally k t).canonical :=
  h.frame

theorem State.canonical.countOp (h : s.canonical) {k : Nat} : (s.countOp k).canonical :=
  h.addWrap

theorem State.canonical.evalWaiters (h : s.canonical) {k : Nat} : (s.evalWaiters k).canonical :=
  h.frame

theorem State.canonical.tallyError (h : s.canonical) {f idx cause : Nat} :
    (s.tallyError f idx cause).canonical :=
  h.capture (fun _ h1 => h1.setF.setF)

theorem State.canonical.tallyAdd (h : s.canonical) {k : Nat} {operand : Word} {err : Bool} :
    (s.tallyAdd k operand err).1.canonical :=
  (h.countOp.setTally.tallyError.ite (h.countOp.setTally.tallyError.ite h.countOp.setTally)).evalWaiters

theorem State.canonical.tallySet (h : s.canonical) {k : Nat} {operand : Word} :
    (s.tallySet k operand).1.canonical :=
  h.countOp.setTally.evalWaiters

theorem State.canonical.tallyClear (h : s.canonical) {k : Nat} : (s.tallyClear k).1.canonical :=
  h.countOp.setTally

theorem State.canonical.tallyCas (h : s.canonical) {k : Nat} {new expected : Word} :
    (s.tallyCas k new expected).1.canonical := by
  unfold State.tallyCas
  dsimp only
  split
  · exact h.countOp.setTally.evalWaiters
  · exact h.countOp

theorem State.canonical.tallyRead (h : s.canonical) {k : Nat} : (s.tallyRead k).1.canonical :=
  h.countOp

theorem State.canonical.addWaiter (h : s.canonical) {k threshold : Nat} {kind : WaiterKind} {tx : Option TxId} :
    (s.addWaiter k threshold kind tx).canonical :=
  h.frame.frame

theorem State.canonical.tallyRefuse (h : s.canonical) {k : Nat} : (s.tallyRefuse k).1.canonical :=
  h.addSat

theorem State.canonical.tallyWait (h : s.canonical) {k threshold : Nat} {owner : WaitOwner} {tx : Option TxId} :
    (s.tallyWait k threshold owner tx).1.canonical := by
  unfold State.tallyWait
  dsimp only
  split
  · exact h.countOp
  · split
    · exact h.countOp.tallyRefuse
    · exact h.countOp.addWaiter

theorem State.canonical.tallyArm (h : s.canonical) {k threshold : Nat} {tx : Option TxId} :
    (s.tallyArm k threshold tx).1.canonical := by
  unfold State.tallyArm
  dsimp only
  split
  · exact h.countOp.frame
  · split
    · exact h.countOp.frame
    · split
      · exact h.countOp.tallyRefuse
      · exact h.countOp.addWaiter

theorem State.canonical.tallyChain (h : s.canonical) {k threshold : Nat} {desc : List Byte} {skipErr : Bool}
    {issuer : FieldId} {parish : Option ParishId} {tx : Option TxId} :
    (s.tallyChain k threshold desc skipErr issuer parish tx).1.canonical := by
  unfold State.tallyChain
  dsimp only
  split
  · exact h.countOp.frame
  · split
    · exact h.countOp.tallyRefuse
    · exact h.countOp.addWaiter

theorem State.canonical.dupRecord (h : s.canonical) {home : Nat} {tx : Option TxId} {w : Word} :
    (s.dupRecord home tx w).canonical := by
  unfold State.dupRecord
  split
  · exact h
  · exact h.frame

theorem State.canonical.dedup (h : s.canonical) {home : Nat} {tx : Option TxId} {op : State → State × Word}
    (hop : ∀ x0, x0.canonical → (op x0).1.canonical) : (s.dedup home tx op).1.canonical := by
  unfold State.dedup
  split
  · exact h.addSat
  · exact (hop _ h).dupRecord

theorem State.canonical.dedupAns (h : s.canonical) {home : Nat} {tx : Option TxId} {op : State → State × TallyAns}
    (hop : ∀ t, t.canonical → (op t).1.canonical) : (s.dedupAns home tx op).1.canonical := by
  unfold State.dedupAns
  split
  · exact h.addSat
  · split
    · exact h.addSat
    · split
      · next e => exact ((hop s h).of_fst e).dupRecord
      · next e => exact (hop s h).of_fst e

theorem State.canonical.dropWaiters (h : s.canonical) {p : Waiter → Bool} : (s.dropWaiters p).canonical :=
  h.frame

theorem State.canonical.tallyApply (h : s.canonical) {k : Nat} {op : TallyOp} {owner : WaitOwner}
    {issuer : FieldId} {parish : Option ParishId} {tx : Option TxId} :
    (s.tallyApply k op owner issuer parish tx).1.canonical := by
  unfold State.tallyApply
  dsimp only
  split
  · exact h.tallyRead
  · exact h.dedup (fun _ h2 => h2.tallySet)
  · exact h.dedup (fun _ h2 => h2.tallyAdd)
  · exact h.dedup (fun _ h2 => h2.tallyClear)
  · exact h.dedup (fun _ h2 => h2.tallyCas)
  · exact h.dedupAns (fun _ h2 => h2.tallyWait)
  · exact h.dedupAns (fun _ h2 => h2.tallyArm)
  · split
    · exact h.tallyRead
    · exact h.dedupAns (fun _ h2 => h2.tallyChain)

/-! ### The functions of Issue -/

theorem State.canonical.modSheaf (h : s.canonical) {serial : Nat} {g : Sheaf → Sheaf} :
    (s.modSheaf serial g).canonical :=
  h.frame

theorem State.canonical.failSheaf (h : s.canonical) {serial status sub detail : Nat} :
    (s.failSheaf serial status sub detail).canonical :=
  h.modSheaf

theorem State.canonical.failSheafOpt (h : s.canonical) {serial : Option Nat} {status sub detail : Nat} :
    (s.failSheafOpt serial status sub detail).canonical := by
  unfold State.failSheafOpt
  split
  · exact h.failSheaf
  · exact h

theorem State.canonical.pushTask (h : s.canonical) {f u : Nat} {desc : List Byte} {parish : Option ParishId}
    {issuer : Nat} {sheaf : Option Nat} : (s.pushTask f u desc parish issuer sheaf).1.canonical :=
  h.frame.setEngine

theorem State.canonical.enqueueAt (h : s.canonical) {f : Nat} {desc : List Byte} {src : Source} {issuer : Nat}
    {sheaf : Option Nat} : (s.enqueueAt f desc src issuer sheaf).1.canonical := by
  unfold State.enqueueAt
  dsimp only
  split
  · exact h
  · split
    · exact h
    · split
      · exact h.noteAccess
      · split
        · exact h
        · split
          · split
            · exact h
            · split
              · exact h
              · exact h.pushTask
          · split
            · exact h
            · split
              · exact h
              · split
                · exact h
                · exact h.pushTask

theorem State.canonical.countIssue (h : s.canonical) {f code : Nat} : (s.countIssue f code).canonical :=
  h.addWrap.ite h.addWrap

theorem State.canonical.forward (h : s.canonical) {f : Nat} {desc : List Byte} {src : Source}
    {sheaf : Option Nat} : (s.forward f desc src sheaf).1.canonical := by
  unfold State.forward
  dsimp only
  split
  · exact h
  · split
    · exact h
    · split
      · exact h.send
      · exact h.enqueueAt

theorem State.canonical.tallyBump (h : s.canonical) {src : Source} {addr : Nat} {err : Bool} {tx : Option TxId} :
    (s.tallyBump src addr err tx).1.canonical := by
  unfold State.tallyBump
  split
  · exact h.noteAccess
  · exact h.send
  · exact h.frame
  · split
    · exact h.dedup (fun _ h2 => h2.tallyAdd)
    · exact h

theorem State.canonical.finishDesc (h : s.canonical) {src : Source} {desc : List Byte}
    {tag status cls unit cycles detail : Nat} :
    (s.finishDesc src desc tag status cls unit cycles detail).1.canonical := by
  unfold State.finishDesc
  extract_lets s1
  have h1 : s1.canonical := h.postWrite.ite h
  clear_value s1
  split
  · split
    next s2 st e =>
      have h2 : s2.canonical := h1.tallyBump.of_fst e
      split
      · split
        · exact h2.postWrite
        · exact h2
      · exact h2
  · exact h1

theorem State.canonical.addWrapOpt (h : s.canonical) {f : Option RF} {inst : Nat} :
    (s.addWrapOpt f inst).canonical := by
  unfold State.addWrapOpt
  split
  · exact h.addWrap
  · exact h

theorem State.canonical.countTask (h : s.canonical) {f u tag status : Nat} {bad : Bool} :
    (s.countTask f u tag status bad).canonical := by
  unfold State.countTask
  refine State.canonical.ite ?_ h.addWrapOpt
  dsimp only
  split
  · exact (h.addWrapOpt.addWrapOpt.capture (fun _ h2 => h2.setF.setF)).raise
  · exact h.addWrapOpt.addWrapOpt.capture (fun _ h2 => h2.setF.setF)

theorem State.canonical.finishTask (h : s.canonical) {f u : Nat} {t : EngTask} {status detail cycles : Nat} :
    (s.finishTask f u t status detail cycles).canonical :=
  h.finishDesc.countTask

theorem State.canonical.undefOutputs (h : s.canonical) {src : Source} {outs : List (Nat × Nat)} :
    (s.undefOutputs src outs).canonical := by
  refine h.foldl fun t o h1 => h1.foldl fun t b h2 => ?_
  split
  · split
    · refine h2.fresh.withMem (Memory.wf_leaveUndef _ _ _ ?_)
      split
      · exact Memory.wf_fillGranule _ _ h2.mem
      · exact h2.mem
    · exact h2
  · exact h2

theorem State.canonical.finishAll (h : s.canonical) {f u status detail : Nat} {l : List EngTask} :
    (s.finishAll f u status detail l).canonical := by
  induction l generalizing s with
  | nil => exact h
  | cons t r ih => exact ih (h.undefOutputs.ite h).finishTask

theorem State.canonical.cancelQueue (h : s.canonical) {f u code : Nat} : (s.cancelQueue f u code).canonical :=
  h.modEngine.finishAll

theorem State.canonical.endRunning (h : s.canonical) {f u status code : Nat} :
    (s.endRunning f u status code).canonical :=
  h.modEngine.finishAll

theorem State.canonical.cancelWhere (h : s.canonical) {f u code : Nat} {p : EngTask → Bool} :
    (s.cancelWhere f u code p).canonical :=
  State.canonical.finishAll h.frame

theorem State.canonical.startTask (h : s.canonical) {f u : Nat} {x : EngTask} (e : s.startTask f u = some (x, t)) :
    t.canonical := by
  unfold State.startTask at e
  dsimp only at e
  split at e
  · cases e
  · cases e; exact h.setEngine

theorem State.canonical.modTask (h : s.canonical) {f u serial : Nat} {g : EngTask → EngTask} :
    (s.modTask f u serial g).canonical :=
  h.modEngine

theorem State.canonical.settle (h : s.canonical) {f u serial status detail : Nat} :
    (s.settle f u serial status detail).canonical :=
  h.modTask

theorem State.canonical.noteOutput (h : s.canonical) {f u serial addr n : Nat} :
    (s.noteOutput f u serial addr n).canonical :=
  h.modTask

theorem State.canonical.poisonTask (h : s.canonical) {f u : Nat} {t : EngTask} :
    (s.poisonTask f u t).canonical :=
  h.foldl fun _ _ h1 => h1.poisonOut

theorem State.canonical.noteStep (h : s.canonical) {f u key status cycles : Nat} :
    (s.noteStep f u key status cycles).canonical :=
  h.modEngine.ite h

theorem State.canonical.completeOldest (h : s.canonical) {f u cycles st : Nat} {x : EngTask}
    (e : s.completeOldest f u cycles = some (x, st, t)) : t.canonical := by
  unfold State.completeOldest at e
  split at e
  · cases e
  · split at e
    · cases e
    · cases e; exact h.modEngine.noteStep.finishTask

theorem State.canonical.settleOpen (h : s.canonical) {f u serial status : Nat} :
    (s.settleOpen f u serial status).canonical :=
  h.fresh.settle

theorem State.canonical.settleAccess (h : s.canonical) {f u serial addr : Nat} {st : AccStatus} :
    (s.settleAccess f u serial addr st).canonical := by
  unfold State.settleAccess
  split
  · exact h.settleOpen
  · exact h.settle

/-! ### The functions of Quern -/

theorem State.canonical.readAll (h : s.canonical) {src : Source} {l : List (Nat × Nat)} :
    (s.readAll src l).1.canonical := by
  induction l generalizing s with
  | nil => exact h
  | cons x r ih =>
    unfold State.readAll
    split
    · next e1 =>
      split
      · next e2 => exact (ih (h.bulkRead.of_fst e1)).of_fst e2
      · next e2 => exact (ih (h.bulkRead.of_fst e1)).of_fst e2
    · next e1 => exact h.bulkRead.of_fst e1

theorem State.canonical.writeAll (h : s.canonical) {src : Source} {l : List (Nat × List Byte)} :
    (s.writeAll src l).1.canonical := by
  induction l generalizing s with
  | nil => exact h
  | cons x r ih =>
    unfold State.writeAll
    split
    · next e => exact ih (h.bulkWrite.of_fst e)
    · next e => exact h.bulkWrite.of_fst e

theorem State.canonical.readList (h : s.canonical) {src : Source} {d : List Byte} :
    (s.readList src d).1.canonical := by
  unfold State.readList
  split
  · next e0 => exact (h.bulkRead.of_fst e0)
  · next e0 =>
      split
      · exact (h.bulkRead.of_fst e0)
      · split
        · next e1 => exact ((h.bulkRead.of_fst e0).bulkRead.of_fst e1)
        · next e1 => exact ((h.bulkRead.of_fst e0).bulkRead.of_fst e1)

theorem State.canonical.qProduct (h : s.canonical) {f u : Nat} {t : EngTask} {gl : List Byte} :
    (s.qProduct f u t gl).canonical := by
  unfold State.qProduct
  dsimp only
  split
  · next _ e0 =>
      exact ((h.foldl fun _ _ h1 => h1.noteOutput).readAll.of_fst e0).undefOutputs.settleAccess
  · next _ e0 =>
      split
      · next _ e1 =>
          exact (((h.foldl fun _ _ h1 => h1.noteOutput).readAll.of_fst e0).readAll.of_fst
            e1).undefOutputs.settleAccess
      · next _ e1 =>
          split
          · next _ e2 =>
              exact ((((h.foldl fun _ _ h1 => h1.noteOutput).readAll.of_fst e0).readAll.of_fst
                e1).readAll.of_fst e2).undefOutputs.settleAccess
          · next _ e2 =>
              split
              · next _ e3 =>
                  exact (((((h.foldl fun _ _ h1 => h1.noteOutput).readAll.of_fst e0).readAll.of_fst
                    e1).readAll.of_fst e2).addSat.writeAll.of_fst e3).undefOutputs.settleAccess
              · next e3 =>
                  exact ((((((h.foldl fun _ _ h1 => h1.noteOutput).readAll.of_fst e0).readAll.of_fst
                    e1).readAll.of_fst e2).addSat.writeAll.of_fst e3).undefOutputs.ite (((((h.foldl fun _ _ h1 =>
                    h1.noteOutput).readAll.of_fst e0).readAll.of_fst e1).readAll.of_fst e2).addSat.writeAll.of_fst
                    e3)).settleOpen.modTask

theorem State.canonical.qRun (h : s.canonical) {f u : Nat} {t : EngTask} : (s.qRun f u t).canonical := by
  unfold State.qRun
  refine State.canonical.ite ?_ h.qProduct
  split
  · next e0 => exact (h.readList.of_fst e0).settleAccess
  · next e0 =>
      split
      · exact (h.readList.of_fst e0).settle
      · exact (h.readList.of_fst e0).qProduct

theorem State.canonical.qSwitch (h : s.canonical) {f u op : Nat} : (s.qSwitch f u op).canonical :=
  h.ite h.setFlag.addWrap

theorem State.canonical.qStart (h : s.canonical) {f u : Nat} {ok : Nat → Bool} :
    (s.qStart f u ok).canonical := by
  unfold State.qStart
  refine h.ite ?_
  split
  · exact h
  · next e0 =>
      split
      · exact (h.startTask e0).qSwitch.qRun
      · exact (h.startTask e0).settle

theorem execQrnNop_canonical {f : FieldId} {q : Fin 9} {cycles : Nat} (h : s.canonical) :
    outCanonical (execQrnNop f q cycles s) := by
  have hsettle {u : State} {t : EngTask} (hu : u.canonical) : State.canonical (match qBodyReason t.desc with
      | 0 => u.settleOpen f.val q.val t.serial stOk
      | r => u.settle f.val q.val t.serial stBodyInvalid r) := by
    split
    · exact hu.settleOpen
    · exact hu.settle
  unfold execQrnNop
  show State.canonical _
  split
  · exact h
  · split
    · exact h
    · next e =>
      dsimp only
      split
      · next e1 => exact ((hsettle (h.startTask e)).completeOldest e1).addWrap
      · exact hsettle (h.startTask e)

theorem execQrnMatmul_canonical (h : s.canonical) {f : FieldId} {q : Fin 9} :
    outCanonical (execQrnMatmul f q s) :=
  h.qStart

theorem execQrnMatmulCplx_canonical (h : s.canonical) {f : FieldId} {q : Fin 9} :
    outCanonical (execQrnMatmulCplx f q s) :=
  h.qStart

theorem execQrnMatmulWide_canonical (h : s.canonical) {f : FieldId} {q : Fin 9} :
    outCanonical (execQrnMatmulWide f q s) :=
  h.qStart

theorem execQrnLaneMv_canonical (h : s.canonical) {f : FieldId} {q : Fin 9} :
    outCanonical (execQrnLaneMv f q s) :=
  h.qStart

theorem execArrayHoldExit_canonical (h : s.canonical) {f : FieldId} {q : Fin 9} {col : Bool} {index : Fin 256}
    {length : Nat} : outCanonical (execArrayHoldExit f q col index length s) :=
  h.ite h.addSat.addSat.setF.setF.setF.modEngine

theorem execQrnHoldWindow_canonical (h : s.canonical) {f : FieldId} {q : Fin 9} :
    outCanonical (execQrnHoldWindow f q s) :=
  h.raise.ite h

theorem execQrnTaskComplete_canonical (h : s.canonical) {f : FieldId} {q : Fin 9} {cycles rows cols : Nat} :
    outCanonical (execQrnTaskComplete f q cycles rows cols s) := by
  refine h.ite ?_
  split
  · exact h
  · next e0 =>
      exact (h.completeOldest e0).addWrap.addWrap.addWrap.addSat.raise.ite (h.completeOldest
        e0).addWrap.addWrap.addWrap

/-! ### The functions of Sieve -/

theorem State.canonical.modSieve (h : s.canonical) {f n : Nat} {g : Sieve → Sieve} :
    (s.modSieve f n g).canonical :=
  h.frame

theorem State.canonical.clearSieve (h : s.canonical) {f n : Nat} : (s.clearSieve f n).canonical :=
  h.modSieve.wr

theorem State.canonical.sBadBody (h : s.canonical) {f u serial : Nat} {r : Nat × Nat} :
    (s.sBadBody f u serial r).canonical :=
  h.settle

theorem State.canonical.pruneCtxs (h : s.canonical) {f n : Nat} : (s.pruneCtxs f n).canonical :=
  h.modSieve

theorem State.canonical.openCtx (h : s.canonical) {f n : Nat} {c : SieveCtx} : (s.openCtx f n c).canonical :=
  h.modSieve

theorem State.canonical.readParams (h : s.canonical) {src : Source} {d : List Byte} :
    (s.readParams src d).1.canonical := by
  unfold State.readParams
  split
  · next e0 => exact (h.bulkRead.of_fst e0)
  · next e0 =>
      split
      · exact (h.bulkRead.of_fst e0)
      · split
        · next e1 => exact ((h.bulkRead.of_fst e0).bulkRead.of_fst e1)
        · next e1 => exact ((h.bulkRead.of_fst e0).bulkRead.of_fst e1)

theorem State.canonical.sRunStart (h : s.canonical) {f n slot : Nat} {t : EngTask} :
    (s.sRunStart f n slot t).canonical := by
  unfold State.sRunStart
  refine h.openCtx.sBadBody.ite ?_
  split
  · next e0 =>
      exact (h.readParams.of_fst e0).openCtx.sBadBody.ite (h.readParams.of_fst e0).openCtx.settleAccess
  · next e0 =>
      split
      · exact (h.readParams.of_fst e0).openCtx
      · exact (h.readParams.of_fst e0).openCtx.sBadBody

theorem State.canonical.setTableState (h : s.canonical) {f n t v : Nat} : (s.setTableState f n t v).canonical :=
  h.wr

theorem State.canonical.sStop (h : s.canonical) {f n serial : Nat} {settle : State → State}
    (hsettle : ∀ x0, x0.canonical → (settle x0).canonical) : (s.sStop f n serial settle).canonical := by
  unfold State.sStop
  dsimp only
  split
  · exact hsettle _ h.undefOutputs
  · exact hsettle _ h

theorem State.canonical.sNext (h : s.canonical) {f n slot : Nat} : (s.sNext f n slot).canonical := by
  unfold State.sNext
  split
  · exact h
  · exact h.modSieve

theorem State.canonical.sIssue (h : s.canonical) {f n slot op : Nat}
    {run : SieveCtx → EngTask → Nat → State → State}
    (hrun : ∀ x0 x1 x2 x3, x3.canonical → (run x0 x1 x2 x3).canonical) :
    (s.sIssue f n slot op run).canonical := by
  unfold State.sIssue
  split
  · exact h
  · split
    · exact h
    · exact h.ite (hrun _ _ _ _ h.addWrap.sNext)

theorem State.canonical.sCountSat (h : s.canonical) {f n k : Nat} : (s.sCountSat f n k).canonical :=
  h.ite h.addSat.raise

theorem State.canonical.sWrite (h : s.canonical) {f n : Nat} {c : SieveCtx} {wide : Bool} {dt : Nat}
    {l : List SRes} : (s.sWrite f n c wide dt l).canonical :=
  h.modSieve.sCountSat

theorem State.canonical.sMap (h : s.canonical) {f n slot op : Nat}
    {g : Nat → Nat → Nat → Nat → Nat → Nat → SRes} : (s.sMap f n slot op g).canonical :=
  h.sIssue (fun _ _ _ _ h1 => h1.fresh.sWrite)

theorem State.canonical.sReduce (h : s.canonical) {f n slot op : Nat} : (s.sReduce f n slot op).canonical :=
  h.sIssue (fun _ _ _ _ h1 => h1.fresh.sWrite)

theorem State.canonical.sLut (h : s.canonical) {f n slot : Nat} : (s.sLut f n slot).canonical :=
  h.sIssue (fun _ _ _ _ h1 => State.canonical.ite (h1.sStop (fun _ h2 => h2.settle)) h1.fresh.sWrite)

theorem State.canonical.sLd (h : s.canonical) {f n slot : Nat} : (s.sLd f n slot).canonical := by
  unfold State.sLd
  refine h.sIssue (fun _ _ _ _ h1 => ?_)
  dsimp only
  split
  · next e1 => exact (h1.readAll.of_fst e1).modSieve
  · next e1 => exact (h1.readAll.of_fst e1).addWrap.sCountSat.modSieve

theorem State.canonical.sSt (h : s.canonical) {f n slot : Nat} : (s.sSt f n slot).canonical := by
  unfold State.sSt
  refine h.sIssue (fun _ _ _ _ h1 => ?_)
  dsimp only
  split
  · next e1 =>
      exact ((h1.foldl fun _ _ h2 => h2.noteOutput).addWrap.sCountSat.writeAll.of_fst e1)
  · next _ e1 =>
      exact ((h1.foldl fun _ _ h2 => h2.noteOutput).addWrap.sCountSat.writeAll.of_fst e1).sStop (fun _
        h3 => h3.settleAccess)

theorem execSivNopTask_canonical (h : s.canonical) {f : FieldId} {n : Fin 2} {cycles : Nat} :
    outCanonical (execSivNopTask f n cycles s) := by
  refine h.ite ?_
  split
  · exact h
  · next e0 => exact (h.startTask e0).fresh.modEngine.finishTask

theorem execSivRun_canonical (h : s.canonical) {f : FieldId} {n : Fin 2} : outCanonical (execSivRun f n s) := by
  refine h.ite ?_
  split
  · exact h
  · dsimp only
    split
    · exact h
    · split
      · exact h
      · next e2 => exact (h.pruneCtxs.startTask e2).sRunStart.ite (h.pruneCtxs.startTask e2).openCtx.sBadBody

theorem State.canonical.sTableStart (h : s.canonical) {f n op : Nat} {run : EngTask → State → State}
    (hrun : ∀ x0 x1, x1.canonical → (run x0 x1).canonical) : (s.sTableStart f n op run).canonical := by
  unfold State.sTableStart
  refine h.ite ?_
  split
  · exact h
  · next _ t e0 =>
      exact (h.pruneCtxs.startTask e0).openCtx.sBadBody.ite (hrun _ _ (h.pruneCtxs.startTask e0).openCtx)

theorem execSivTableImage_canonical (h : s.canonical) {f : FieldId} {n : Fin 2} :
    outCanonical (execSivTableImage f n s) :=
  h.sTableStart (fun _ _ h1 => h1.sBadBody.ite h1.setTableState.settleOpen)

theorem execSivTableLoad_canonical (h : s.canonical) {f : FieldId} {n : Fin 2} :
    outCanonical (execSivTableLoad f n s) := by
  refine h.sTableStart (fun _ _ h1 => h1.sBadBody.ite ?_)
  split
  · next e1 => exact (h1.bulkRead.of_fst e1).settleAccess
  · next _ e1 =>
      refine (h1.bulkRead.of_fst e1).sBadBody.ite ?_
      split
      · next e2 => exact ((h1.bulkRead.of_fst e1).bulkRead.of_fst e2).settleAccess
      · next e2 => exact ((h1.bulkRead.of_fst e1).bulkRead.of_fst e2).modSieve.setTableState.settleOpen

theorem execSivTaskComplete_canonical (h : s.canonical) {f : FieldId} {n : Fin 2} {slot : Fin 8}
    {cycles idle : Nat} : outCanonical (execSivTaskComplete f n slot cycles idle s) := by
  unfold execSivTaskComplete
  show State.canonical _
  dsimp only
  split
  · exact h
  · refine h.ite ?_
    split
    · exact h
    · split <;> exact h.fresh.modEngine.modSieve.addWrap.noteStep.finishTask

theorem execSivInstrNop_canonical (h : s.canonical) {f : FieldId} {n : Fin 2} {slot : Fin 8} :
    outCanonical (execSivInstrNop f n slot s) :=
  h.sIssue (fun _ _ _ _ h1 => h1)

theorem execSivLd_canonical (h : s.canonical) {f : FieldId} {n : Fin 2} {slot : Fin 8} :
    outCanonical (execSivLd f n slot s) :=
  h.sLd

theorem execSivLdData_canonical (h : s.canonical) {f : FieldId} {n : Fin 2} {slot : Fin 8} {tile : Fin 64} :
    outCanonical (execSivLdData f n slot tile s) := by
  unfold execSivLdData
  show State.canonical _
  split
  · exact h
  · split
    · exact h
    · refine h.ite ?_
      dsimp only
      split
      · exact h.modSieve.modSieve
      · exact h.modSieve.sStop (fun _ h4 => h4.settleAccess)

theorem execSivSt_canonical (h : s.canonical) {f : FieldId} {n : Fin 2} {slot : Fin 8} :
    outCanonical (execSivSt f n slot s) :=
  h.sSt

theorem execSivFill_canonical (h : s.canonical) {f : FieldId} {n : Fin 2} {slot : Fin 8} :
    outCanonical (execSivFill f n slot s) :=
  h.sIssue (fun _ _ _ _ h1 => h1.sWrite)

theorem execSivArg_canonical (h : s.canonical) {f : FieldId} {n : Fin 2} {slot : Fin 8} :
    outCanonical (execSivArg f n slot s) :=
  h.sIssue (fun _ _ _ _ h1 => h1.sWrite)

theorem execSivAdd_canonical (h : s.canonical) {f : FieldId} {n : Fin 2} {slot : Fin 8} :
    outCanonical (execSivAdd f n slot s) :=
  h.sMap

theorem execSivSub_canonical (h : s.canonical) {f : FieldId} {n : Fin 2} {slot : Fin 8} :
    outCanonical (execSivSub f n slot s) :=
  h.sMap

theorem execSivMul_canonical (h : s.canonical) {f : FieldId} {n : Fin 2} {slot : Fin 8} :
    outCanonical (execSivMul f n slot s) :=
  h.sMap

theorem execSivFma_canonical (h : s.canonical) {f : FieldId} {n : Fin 2} {slot : Fin 8} :
    outCanonical (execSivFma f n slot s) :=
  h.sMap

theorem execSivMax_canonical (h : s.canonical) {f : FieldId} {n : Fin 2} {slot : Fin 8} :
    outCanonical (execSivMax f n slot s) :=
  h.sMap

theorem execSivMin_canonical (h : s.canonical) {f : FieldId} {n : Fin 2} {slot : Fin 8} :
    outCanonical (execSivMin f n slot s) :=
  h.sMap

theorem execSivAbs_canonical (h : s.canonical) {f : FieldId} {n : Fin 2} {slot : Fin 8} :
    outCanonical (execSivAbs f n slot s) :=
  h.sMap

theorem execSivNeg_canonical (h : s.canonical) {f : FieldId} {n : Fin 2} {slot : Fin 8} :
    outCanonical (execSivNeg f n slot s) :=
  h.sMap

theorem execSivRcp_canonical (h : s.canonical) {f : FieldId} {n : Fin 2} {slot : Fin 8} :
    outCanonical (execSivRcp f n slot s) :=
  h.sMap

theorem execSivDiv_canonical (h : s.canonical) {f : FieldId} {n : Fin 2} {slot : Fin 8} :
    outCanonical (execSivDiv f n slot s) :=
  h.sMap

theorem execSivSqrt_canonical (h : s.canonical) {f : FieldId} {n : Fin 2} {slot : Fin 8} :
    outCanonical (execSivSqrt f n slot s) :=
  h.sMap

theorem execSivCmplt_canonical (h : s.canonical) {f : FieldId} {n : Fin 2} {slot : Fin 8} :
    outCanonical (execSivCmplt f n slot s) :=
  h.sMap

theorem execSivCmple_canonical (h : s.canonical) {f : FieldId} {n : Fin 2} {slot : Fin 8} :
    outCanonical (execSivCmple f n slot s) :=
  h.sMap

theorem execSivCmpeq_canonical (h : s.canonical) {f : FieldId} {n : Fin 2} {slot : Fin 8} :
    outCanonical (execSivCmpeq f n slot s) :=
  h.sMap

theorem execSivSelect_canonical (h : s.canonical) {f : FieldId} {n : Fin 2} {slot : Fin 8} :
    outCanonical (execSivSelect f n slot s) :=
  h.sMap

theorem execSivAnd_canonical (h : s.canonical) {f : FieldId} {n : Fin 2} {slot : Fin 8} :
    outCanonical (execSivAnd f n slot s) :=
  h.sMap

theorem execSivOr_canonical (h : s.canonical) {f : FieldId} {n : Fin 2} {slot : Fin 8} :
    outCanonical (execSivOr f n slot s) :=
  h.sMap

theorem execSivXor_canonical (h : s.canonical) {f : FieldId} {n : Fin 2} {slot : Fin 8} :
    outCanonical (execSivXor f n slot s) :=
  h.sMap

theorem execSivShl_canonical (h : s.canonical) {f : FieldId} {n : Fin 2} {slot : Fin 8} :
    outCanonical (execSivShl f n slot s) :=
  h.sMap

theorem execSivShra_canonical (h : s.canonical) {f : FieldId} {n : Fin 2} {slot : Fin 8} :
    outCanonical (execSivShra f n slot s) :=
  h.sMap

theorem execSivShrl_canonical (h : s.canonical) {f : FieldId} {n : Fin 2} {slot : Fin 8} :
    outCanonical (execSivShrl f n slot s) :=
  h.sMap

theorem execSivCvtn_canonical (h : s.canonical) {f : FieldId} {n : Fin 2} {slot : Fin 8} :
    outCanonical (execSivCvtn f n slot s) :=
  h.sIssue (fun _ _ _ _ h1 => h1.sWrite)

theorem execSivCvtw_canonical (h : s.canonical) {f : FieldId} {n : Fin 2} {slot : Fin 8} :
    outCanonical (execSivCvtw f n slot s) :=
  h.sIssue (fun _ _ _ _ h1 => h1.sWrite)

theorem execSivLut_canonical (h : s.canonical) {f : FieldId} {n : Fin 2} {slot : Fin 8} :
    outCanonical (execSivLut f n slot s) :=
  h.sLut

theorem execSivRrow_canonical (h : s.canonical) {f : FieldId} {n : Fin 2} {slot : Fin 8} :
    outCanonical (execSivRrow f n slot s) :=
  h.sReduce

theorem execSivRcol_canonical (h : s.canonical) {f : FieldId} {n : Fin 2} {slot : Fin 8} :
    outCanonical (execSivRcol f n slot s) :=
  h.sReduce

theorem execSivShfl_canonical (h : s.canonical) {f : FieldId} {n : Fin 2} {slot : Fin 8} :
    outCanonical (execSivShfl f n slot s) :=
  h.sIssue (fun _ _ _ _ h1 => h1.fresh.sWrite)

theorem execSivPerm_canonical (h : s.canonical) {f : FieldId} {n : Fin 2} {slot : Fin 8} :
    outCanonical (execSivPerm f n slot s) :=
  h.sIssue (fun _ _ _ _ h1 => h1.sWrite)

/-! ### The functions of Cairn -/

theorem State.canonical.modCairn (h : s.canonical) {f : Nat} {g : Cairn → Cairn} : (s.modCairn f g).canonical :=
  h.frame

theorem State.canonical.dropGran (h : s.canonical) {f g : Nat} : (s.dropGran f g).canonical :=
  h.modCairn

theorem State.canonical.metaPut (h : s.canonical) {g slot off : Nat} {b : List Byte} :
    (s.metaPut g slot off b).canonical :=
  h.memWrite

theorem State.canonical.allocSlot (h : s.canonical) {g hw hf slot : Nat} (e : s.allocSlot g hw hf = some (slot, t)) :
    t.canonical := by
  unfold State.allocSlot at e
  split at e
  · cases e
  · cases e; exact h.fresh.metaPut

theorem State.canonical.allocSlots (h : s.canonical) {g hw hf n : Nat} {l : List Nat}
    (e : s.allocSlots g hw hf n = some (l, t)) : t.canonical := by
  induction n generalizing s l with
  | zero => cases e; exact h
  | succ n ih =>
    unfold State.allocSlots at e
    split at e
    · cases e
    · next e1 =>
      split at e
      · cases e
      · next e2 => cases e; exact ih (h.allocSlot e1) e2

theorem State.canonical.dropRef (h : s.canonical) {hd : Nat} : (s.dropRef hd).canonical :=
  h.ite (State.canonical.ite (h.metaPut.ite h) (h.send.ite h))

theorem State.canonical.dropRefs (h : s.canonical) {l : List Nat} : (s.dropRefs l).canonical :=
  h.foldl fun _ _ h1 => h1.dropRef

theorem State.canonical.allocPair (h : s.canonical) {f pool a b : Nat} {src : Source}
    (e : s.allocPair f src pool = some (a, b, t)) : t.canonical := by
  unfold State.allocPair at e
  split at e
  · split at e
    · cases e
    · split at e
      · next e1 => cases e; exact h.allocSlots e1
      · cases e
  · dsimp only at e
    split at e
    · cases e; exact h.frame
    · cases e

theorem State.canonical.allocPairs (h : s.canonical) {f : Nat} {src : Source} {l l' : List CairnPair}
    (e : s.allocPairs f src l = some (l', t)) : t.canonical := by
  induction l generalizing s l' with
  | nil => cases e; exact h
  | cons p r ih =>
    unfold State.allocPairs at e
    split at e
    · cases e
    · next e1 =>
      split at e
      · cases e
      · next e2 => cases e; exact ih (h.allocPair e1) e2

theorem State.canonical.ptWrite (h : s.canonical) {f o : Nat} {b : List Byte} : (s.ptWrite f o b).canonical :=
  h.memWrite

theorem State.canonical.setSeqState (h : s.canonical) {f r : Nat} {g : Nat → Nat} :
    (s.setSeqState f r g).canonical :=
  h.ptWrite

theorem State.canonical.setDamaged (h : s.canonical) {f r : Nat} {b : Bool} : (s.setDamaged f r b).canonical :=
  h.setSeqState

theorem State.canonical.setSeqLen (h : s.canonical) {f r n : Nat} : (s.setSeqLen f r n).canonical :=
  h.ptWrite

theorem State.canonical.setPageEntry (h : s.canonical) {f r l page : Nat} {e : PageEntry} :
    (s.setPageEntry f r l page e).canonical := by
  unfold State.setPageEntry
  split
  · exact h
  · exact h.ptWrite

theorem State.canonical.noteSpilled (h : s.canonical) {f r : Nat} : (s.noteSpilled f r).canonical :=
  h.setSeqState

theorem State.canonical.allocRun (h : s.canonical) {f n b : Nat} (e : s.allocRun f n = some (b, t)) :
    t.canonical := by
  unfold State.allocRun at e
  dsimp only at e
  split at e
  · cases e
  · cases e; exact h.fresh.modCairn

theorem State.canonical.allocDirs (h : s.canonical) {f lt d n l : Nat} (e : s.allocDirs f lt d n l = some t) :
    t.canonical := by
  induction n generalizing s l with
  | zero => cases e; exact h
  | succ n ih =>
    unfold State.allocDirs at e
    split at e
    · cases e
    · next e1 => exact ih (h.allocRun e1).ptWrite.ptWrite.ptWrite e

theorem State.canonical.needChunk (h : s.canonical) {f r l page : Nat} (e : s.needChunk f r l page = some t) :
    t.canonical := by
  unfold State.needChunk at e
  split at e
  · cases e; exact h
  · split at e
    · cases e
    · next e1 => cases e; exact (h.allocRun e1).ptWrite.ptWrite

theorem State.canonical.placePairs (h : s.canonical) {f : Nat} {l : List CairnPair} (e : s.placePairs f l = some t) :
    t.canonical := by
  induction l generalizing s with
  | nil => cases e; exact h
  | cons p r ih =>
    unfold State.placePairs at e
    split at e
    · cases e
    · next e1 => exact ih (h.needChunk e1).setPageEntry e

theorem State.canonical.freeBlockList (h : s.canonical) {f : Nat} {l : List Nat} :
    (s.freeBlockList f l).canonical :=
  h.modCairn

theorem State.canonical.crnEnable (h : s.canonical) {f : Nat} : (s.crnEnable f).canonical :=
  h.ite (h.setFlag.ite h.setFlag)

theorem State.canonical.crnDisable (h : s.canonical) {f : Nat} : (s.crnDisable f).canonical :=
  h.setFlag.ite h

theorem State.canonical.markLost (h : s.canonical) {f : Nat} {bad : PageEntry → Bool} :
    (s.markLost f bad).canonical :=
  h.foldl fun _ _ h1 => h1.ite (h1.foldl fun _ _ h2 =>
    h2.setPageEntry).setDamaged

theorem State.canonical.startScan (h : s.canonical) {whole : Bool} {which : Nat} :
    (s.startScan whole which).canonical :=
  h.foldl fun _ _ h1 => h1.setFlag.frame.ite h1

theorem State.canonical.endScans (h : s.canonical) {f : Nat} : (s.endScans f).canonical :=
  (h.foldl fun _ _ h1 => h1.markLost).frame.setFlag

theorem State.canonical.loseSpilled (h : s.canonical) : s.loseSpilled.canonical :=
  h.foldl fun _ _ h1 => h1.markLost

theorem State.canonical.cairnClear (h : s.canonical) {f : Nat} : (s.cairnClear f).canonical :=
  ((State.canonical.foldl h fun _ _ h1 => h1.setSeqState).foldl fun _ _ h1 =>
    h1.metaPut).modCairn.startScan

theorem State.canonical.cStart (h : s.canonical) {f : Nat} {ok : Nat → Bool} {run : EngTask → State → State}
    (hrun : ∀ x0 x1, x1.canonical → (run x0 x1).canonical) : (s.cStart f ok run).canonical := by
  unfold State.cStart
  refine h.ite ?_
  split
  · exact h
  · next _ t e0 =>
      refine (h.startTask e0).settleOpen.ite ?_
      split
      · exact hrun _ _ (h.startTask e0)
      · exact (h.startTask e0).settle

theorem State.canonical.cSettle (h : s.canonical) {f : Nat} {t : EngTask} {status detail : Nat} :
    (s.cSettle f t status detail).canonical :=
  h.settle

theorem State.canonical.cOk (h : s.canonical) {f : Nat} {t : EngTask} : (s.cOk f t).canonical :=
  h.settleOpen

theorem State.canonical.cFail (h : s.canonical) {f : Nat} {t : EngTask} {e : Nat × AccStatus} :
    (s.cFail f t e).canonical :=
  h.settleAccess

theorem State.canonical.onSeq (h : s.canonical) {f : Nat} {t : EngTask} {run : Nat → State → State}
    (hrun : ∀ x0 x1, x1.canonical → (run x0 x1).canonical) : (s.onSeq f t run).canonical :=
  State.canonical.ite (hrun _ _ h) h.cSettle

theorem State.canonical.writeRec (h : s.canonical) {f r len lt : Nat} {b : List Byte} :
    (s.writeRec f r len lt b).canonical :=
  h.ptWrite

theorem State.canonical.openSeq (h : s.canonical) {f len extra slots r : Nat} {b : List Byte}
    (e : s.openSeq f len b extra slots = .ok (r, t)) : t.canonical := by
  unfold State.openSeq at e
  dsimp only at e
  split at e
  · cases e
  · split at e
    · cases e
    · next e1 =>
      split at e
      · cases e
      · next e2 =>
        obtain ⟨-, rfl⟩ := Prod.mk.inj (Except.ok.inj e)
        exact ((h.fresh.allocRun e1).allocDirs e2).writeRec

theorem State.canonical.cOpen (h : s.canonical) {f : Nat} {t : EngTask} : (s.cOpen f t).canonical := by
  unfold State.cOpen
  split
  · next e0 => exact (h.bulkRead.of_fst e0).cFail
  · next _ e0 =>
      refine (h.bulkRead.of_fst e0).cSettle.ite ?_
      split
      · exact (h.bulkRead.of_fst e0).cSettle
      · next e1 => exact ((h.bulkRead.of_fst e0).openSeq e1).cSettle

theorem State.canonical.freePages (h : s.canonical) {f r page : Nat} : (s.freePages f r page).canonical :=
  h.foldl fun _ _ h1 => (h1.dropRefs.dropGran.ite h1.dropRefs).setPageEntry

theorem State.canonical.closeSeq (h : s.canonical) {f r : Nat} : (s.closeSeq f r).canonical := by
  unfold State.closeSeq
  extract_lets s1 s2
  have h2 : s2.canonical := h.freePages.freeBlockList
  clear_value s2
  exact h2.setSeqState

theorem State.canonical.cTruncate (h : s.canonical) {f : Nat} {t : EngTask} : (s.cTruncate f t).canonical :=
  h.onSeq (fun _ _ h1 => h1.cSettle.ite (h1.cSettle.ite (((h1.freePages.ite
    (State.canonical.foldl h1.freePages fun _ _ h2 => h2.setPageEntry)).foldl fun _ _ h2 => State.canonical.foldl h2
    fun _ _ h3 => h3.ptWrite).freeBlockList.setSeqLen.noteSpilled.setDamaged.ite (State.canonical.foldl
    (h1.freePages.ite (State.canonical.foldl h1.freePages fun _ _ h2 => h2.setPageEntry)) fun _ _ h2 =>
    h2.foldl fun _ _ h3 => h3.ptWrite).freeBlockList.setSeqLen.noteSpilled).cOk))

theorem State.canonical.addRef (h : s.canonical) {hd : Nat} : (s.addRef hd).canonical :=
  h.ite (h.metaPut.ite h.send)

theorem State.copyPairs_cons {s : State} {f child fill page : Nat} {src : Source} {x : PageEntry × Nat}
    {l : List (PageEntry × Nat)} : ∃ b, s.copyPairs f src child fill page (x :: l) =
      State.copyPairs._f f src child fill page (x :: l) ⟨fun s => s.copyPairs f src child fill page l, b⟩ s := by
  refine ⟨(List.brecOn.go (motive := fun _ => State → State × Option (Nat × AccStatus)) l
    (State.copyPairs._f f src child fill page)).2, ?_⟩
  delta State.copyPairs
  rfl

theorem State.canonical.copyPairs_step (h : s.canonical) {f child fill page : Nat} {src : Source}
    {x : PageEntry × Nat} {l : List (PageEntry × Nat)} {rest : State → State × Option (Nat × AccStatus)} {b}
    (hrest : ∀ {s : State}, s.canonical → (rest s).1.canonical) :
    (State.copyPairs._f f src child fill page (x :: l) ⟨rest, b⟩ s).1.canonical := by
  have hread {s : State} {l : List (Nat × Nat)} (h : s.canonical) := h.readAll (src := src) (l := l)
  have hwrite {s : State} {a : Nat} {d : List Byte} (h : s.canonical) := h.bulkWrite (src := src) (a := a) (data := d)
  have halloc {s t : State} {n a b : Nat} (h : s.canonical) (e : s.allocPair f src n = some (a, b, t)) := h.allocPair e
  have hneed {s t : State} {page l : Nat} (h : s.canonical) (e : s.needChunk f child l page = some t) := h.needChunk e
  delta State.copyPairs._f
  obtain ⟨read, eread⟩ : ∃ g, State.readAll = g := ⟨_, rfl⟩
  rw [eread] at hread ⊢
  obtain ⟨write, ewrite⟩ : ∃ g, State.bulkWrite = g := ⟨_, rfl⟩
  rw [ewrite] at hwrite ⊢
  obtain ⟨alloc, ealloc⟩ : ∃ g, State.allocPair = g := ⟨_, rfl⟩
  rw [ealloc] at halloc ⊢
  obtain ⟨need, eneed⟩ : ∃ g, State.needChunk = g := ⟨_, rfl⟩
  rw [eneed] at hneed ⊢
  clear eread ewrite ealloc eneed
  dsimp only
  split
  · exact h
  · next e1 =>
    split
    · next e2 => exact (hread (halloc h e1)).of_fst e2
    · next e2 =>
      split
      · exact (hwrite (hwrite ((hread (halloc h e1)).of_fst e2))).metaPut.metaPut
      · next e3 =>
        have h3 := (hread (halloc h e1)).of_fst e2
        exact hrest (hneed (hwrite (hwrite h3)).metaPut.metaPut e3).setPageEntry

theorem State.canonical.copyPairs (h : s.canonical) {f child fill page : Nat} {src : Source}
    {l : List (PageEntry × Nat)} : (s.copyPairs f src child fill page l).1.canonical := by
  induction l generalizing s with
  | nil => exact h
  | cons x l ih =>
    obtain ⟨b, e⟩ := State.copyPairs_cons (s := s) (f := f) (child := child) (fill := fill) (page := page)
      (src := src) (x := x) (l := l)
    exact e ▸ h.copyPairs_step ih

theorem State.canonical.cFork (h : s.canonical) {f : Nat} {t : EngTask} : (s.cFork f t).canonical := by
  unfold State.cFork
  refine h.onSeq (fun _ _ h1 => ?_)
  split
  · next e1 => exact (h1.bulkRead.of_fst e1).cFail
  · next t _ e1 =>
      refine (h1.bulkRead.of_fst e1).cSettle.ite ((h1.bulkRead.of_fst e1).cSettle.ite ((h1.bulkRead.of_fst
        e1).cSettle.ite ?_))
      split
      · exact (h1.bulkRead.of_fst e1).cSettle
      · split
        · exact (h1.bulkRead.of_fst e1).cSettle
        · split
          · exact (h1.bulkRead.of_fst e1).fresh.cSettle
          · next _ t e4 =>
              dsimp only
              split
              · next _ e5 =>
                  refine ((State.canonical.copyPairs (((h1.bulkRead.of_fst e1).fresh.openSeq e4).foldl fun _ _ h6
                    => ?_)).of_fst e5).closeSeq.cFail
                  split
                  · exact h6.setPageEntry.addRef.addRef
                  · next e6 => exact (h6.setPageEntry.addRef.addRef.needChunk e6).setPageEntry
              · next e5 =>
                  refine ((State.canonical.copyPairs (((h1.bulkRead.of_fst e1).fresh.openSeq e4).foldl fun _ _ h6
                    => ?_)).of_fst e5).cSettle
                  split
                  · exact h6.setPageEntry.addRef.addRef
                  · next e6 => exact (h6.setPageEntry.addRef.addRef.needChunk e6).setPageEntry

theorem State.canonical.stepEnd (h : s.canonical) {f : Nat} {t : EngTask} {res : List Byte}
    {status detail : Nat} : (s.stepEnd f t res status detail).canonical := by
  unfold State.stepEnd
  dsimp only
  split
  · next e0 => exact (h.modCairn.bulkWrite.of_fst e0).cSettle
  · next e0 => exact (h.modCairn.bulkWrite.of_fst e0).cFail

theorem State.canonical.stepReject (h : s.canonical) {f : Nat} {t : EngTask} {tbl : List Byte}
    {slots blocks pool : Nat} : (s.stepReject f t tbl slots blocks pool).canonical :=
  h.addWrap.stepEnd

theorem State.canonical.freeGrants (h : s.canonical) {l : List CairnPair} : (s.freeGrants l).canonical :=
  h.dropRefs

theorem State.canonical.recallPlace (h : s.canonical) {f : Nat} {src : Source} {p : CairnPair} :
    (s.recallPlace f src p).canonical :=
  (h.bulkWrite.bulkWrite.metaPut.metaPut.ite h.bulkWrite.bulkWrite).setPageEntry.dropGran.addWrap.noteSpilled

theorem State.canonical.stepCommit (h : s.canonical) {f : Nat} {t : EngTask} {tbl : List Byte}
    {pairs : List CairnPair} : (s.stepCommit f t tbl pairs).canonical := by
  unfold State.stepCommit
  dsimp only
  split
  · exact h.freeGrants.stepReject
  · next e0 =>
      exact ((State.canonical.foldl (h.placePairs e0) fun _ _ h2 => h2.recallPlace).foldl fun _ _ h2
        => h2.ite h2.setSeqLen).modCairn.addWrap.stepEnd

theorem State.canonical.cairnRollback (h : s.canonical) {f : Nat} : (s.cairnRollback f).canonical := by
  unfold State.cairnRollback
  split
  · exact h
  · exact (State.canonical.foldl h.freeGrants fun _ _ h2 => h2.dropGran).modCairn

theorem State.canonical.granFail (h : s.canonical) {f : Nat} {t : EngTask} {st : AccStatus} {pair : Nat} :
    (s.granFail f t st pair).canonical :=
  (h.cairnRollback.capture (fun _ h1 => h1.setF.setF)).cSettle

theorem State.canonical.startRecall (h : s.canonical) {f : Nat} {t : EngTask} {tbl : List Byte}
    {pairs : List CairnPair} : (s.startRecall f t tbl pairs).canonical := by
  unfold State.startRecall
  dsimp only
  split
  · exact h.modCairn.granFail
  · exact State.canonical.foldl h.modCairn fun _ _ h2 => h2.send

theorem State.canonical.stepDecide (h : s.canonical) {f : Nat} {t : EngTask} {tbl : List Byte}
    {avail : NMap Nat} : (s.stepDecide f t tbl avail).canonical := by
  unfold State.stepDecide
  dsimp only
  split
  · exact h.stepReject
  · refine h.stepReject.ite ?_
    split
    · exact h.stepReject
    · next e1 => exact (h.allocPairs e1).startRecall.ite (h.allocPairs e1).stepCommit

theorem State.canonical.queryPool (h : s.canonical) {f : Nat} {src : Source} {pool : Nat} :
    (s.queryPool f src pool).canonical :=
  h.frame.ite h.send

theorem State.canonical.cStep (h : s.canonical) {f : Nat} {t : EngTask} : (s.cStep f t).canonical := by
  unfold State.cStep
  dsimp only
  split
  · next e0 => exact (h.bulkRead.of_fst e0).cFail
  · next _ e0 =>
      split
      · exact (h.bulkRead.of_fst e0).cSettle
      · split
        · exact (h.bulkRead.of_fst e0).stepDecide
        · exact State.canonical.foldl (h.bulkRead.of_fst e0).modCairn fun _ _ h4 => h4.queryPool

theorem State.canonical.writeSlot (h : s.canonical) {f hd pos : Nat} {src : Source} {rows : List (List Val)} :
    (s.writeSlot f src hd pos rows).1.canonical := by
  have hread {s : State} {a n : Nat} (h : s.canonical) := h.bulkRead (src := src) (a := a) (n := n)
  have hwrite {s : State} {a : Nat} {d : List Byte} (h : s.canonical) := h.bulkWrite (src := src) (a := a) (data := d)
  obtain ⟨slot, eslot⟩ : ∃ g, g = State.writeSlot := ⟨_, rfl⟩
  rw [← eslot]
  delta State.writeSlot at eslot
  obtain ⟨read, eread⟩ : ∃ g, State.bulkRead = g := ⟨_, rfl⟩
  obtain ⟨write, ewrite⟩ : ∃ g, State.bulkWrite = g := ⟨_, rfl⟩
  rw [eread] at hread eslot
  rw [ewrite] at hwrite eslot
  clear eread ewrite
  subst eslot
  beta_reduce
  extract_lets fmt dim heads kvInt
  split
  · next e => exact (hread h).of_fst e
  · next s1 m e =>
    have h1 : s1.canonical := (hread h).of_fst e
    extract_lets scaled headroom fresh scales
    split
    next s2 err e2 =>
    have h2 : s2.canonical := by
      refine State.canonical.of_fst (State.canonical.ite_fst ?_ h1) e2
      dsimp only
      split
      · exact hwrite h1
      · exact hwrite (hwrite h1)
    split
    · exact h2
    · exact hwrite h2.addSat.addSat

theorem State.appendPages_eq_brecOn {f r l len n : Nat} {src : Source} :
    (fun s pos ks vs => State.appendPages s f src r l len n pos ks vs) = Nat.brecOn (motive := fun _ =>
      State → Nat → List (List Val) → List (List Val) → State × Option (Nat × AccStatus)) n
      (State.appendPages._f f src r l len) := by
  funext s pos ks vs
  delta State.appendPages
  rfl

theorem natBrecOn_succ {m : Nat → Type} (F : (n : Nat) → Nat.below (motive := m) n → m n) (n : Nat) :
    Nat.brecOn (motive := m) (n + 1) F =
      F (n + 1) ⟨Nat.brecOn (motive := m) n F, (Nat.brecOn.go (motive := m) n F).2⟩ :=
  rfl

theorem State.appendPages_succ {s : State} {f r l len n pos : Nat} {src : Source} {ks vs : List (List Val)} :
    ∃ b, s.appendPages f src r l len (n + 1) pos ks vs = State.appendPages._f f src r l len (n + 1)
      ⟨fun s pos ks vs => s.appendPages f src r l len n pos ks vs, b⟩ s pos ks vs := by
  refine ⟨(Nat.brecOn.go (motive := fun _ => State → Nat → List (List Val) → List (List Val) →
    State × Option (Nat × AccStatus)) n (State.appendPages._f f src r l len)).2, ?_⟩
  have e := congrFun (congrFun (congrFun (congrFun (State.appendPages_eq_brecOn (f := f) (r := r) (l := l)
    (len := len) (n := n + 1) (src := src)) s) pos) ks) vs
  rw [e, State.appendPages_eq_brecOn, natBrecOn_succ]

theorem State.canonical.appendPages_step (h : s.canonical) {f r l len n pos : Nat} {src : Source}
    {ks vs : List (List Val)}
    {rest : State → Nat → List (List Val) → List (List Val) → State × Option (Nat × AccStatus)} {b}
    (hrest : ∀ {s : State} {pos ks vs}, s.canonical → (rest s pos ks vs).1.canonical) :
    (State.appendPages._f f src r l len (n + 1) ⟨rest, b⟩ s pos ks vs).1.canonical := by
  have hwrite {s : State} {a pos : Nat} {q : List (List Val)} (h : s.canonical) :=
    h.writeSlot (f := f) (src := src) (hd := a) (pos := pos) (rows := q)
  delta State.appendPages._f
  obtain ⟨write, ewrite⟩ : ∃ g, State.writeSlot = g := ⟨_, rfl⟩
  rw [ewrite] at hwrite ⊢
  clear ewrite
  dsimp only
  split
  · exact h
  · split
    · next e1 => exact (hwrite h).of_fst e1
    · next e1 =>
      split
      · next e2 => exact (hwrite ((hwrite h).of_fst e1)).of_fst e2
      · next e2 => exact hrest ((hwrite ((hwrite h).of_fst e1)).of_fst e2).setPageEntry

theorem State.canonical.appendPages (h : s.canonical) {f r l len n pos : Nat} {src : Source}
    {ks vs : List (List Val)} : (s.appendPages f src r l len n pos ks vs).1.canonical := by
  induction n generalizing s pos ks vs with
  | zero => exact h
  | succ n ih =>
    obtain ⟨b, e⟩ := State.appendPages_succ (s := s) (f := f) (src := src) (r := r) (l := l) (len := len) (n := n)
      (pos := pos) (ks := ks) (vs := vs)
    exact e ▸ h.appendPages_step (fun h => ih h)

theorem State.appendAll_cons {s : State} {f l : Nat} {src : Source} {x : Nat × Nat × Nat}
    {q : List (Nat × Nat × Nat)} {ks vs : List (List Val)} : ∃ b, s.appendAll f src l (x :: q) ks vs =
      State.appendAll._f f src l (x :: q) ⟨fun s ks vs => s.appendAll f src l q ks vs, b⟩ s ks vs := by
  refine ⟨(List.brecOn.go (motive := fun _ => State → List (List Val) → List (List Val) →
    State × Option (Nat × AccStatus)) q (State.appendAll._f f src l)).2, ?_⟩
  delta State.appendAll
  rfl

theorem State.canonical.appendAll_step (h : s.canonical) {f l : Nat} {src : Source} {x : Nat × Nat × Nat}
    {q : List (Nat × Nat × Nat)} {ks vs : List (List Val)}
    {rest : State → List (List Val) → List (List Val) → State × Option (Nat × AccStatus)} {b}
    (hrest : ∀ {s : State} {ks vs}, s.canonical → (rest s ks vs).1.canonical) :
    (State.appendAll._f f src l (x :: q) ⟨rest, b⟩ s ks vs).1.canonical := by
  have hpages {s : State} {r len n pos : Nat} {ks vs : List (List Val)} (h : s.canonical) :=
    h.appendPages (f := f) (src := src) (r := r) (l := l) (len := len) (n := n) (pos := pos) (ks := ks) (vs := vs)
  delta State.appendAll._f
  obtain ⟨pages, epages⟩ : ∃ g, State.appendPages = g := ⟨_, rfl⟩
  rw [epages] at hpages ⊢
  clear epages
  dsimp only
  split
  · next e => exact (hpages h).of_fst e
  · next e => exact hrest ((hpages h).of_fst e)

theorem State.canonical.appendAll (h : s.canonical) {f l : Nat} {src : Source} {q : List (Nat × Nat × Nat)}
    {ks vs : List (List Val)} : (s.appendAll f src l q ks vs).1.canonical := by
  induction q generalizing s ks vs with
  | nil => exact h
  | cons x q ih =>
    obtain ⟨b, e⟩ := State.appendAll_cons (s := s) (f := f) (src := src) (l := l) (x := x) (q := q) (ks := ks)
      (vs := vs)
    exact e ▸ h.appendAll_step (fun h => ih h)

theorem State.canonical.cAppend (h : s.canonical) {f : Nat} {t : EngTask} : (s.cAppend f t).canonical := by
  unfold State.cAppend
  dsimp only
  split
  · next e0 => exact (h.bulkRead.of_fst e0).cFail
  · next e0 =>
      split
      · next e1 => exact ((h.bulkRead.of_fst e0).bulkRead.of_fst e1).cFail
      · next e1 =>
          split
          · exact ((h.bulkRead.of_fst e0).bulkRead.of_fst e1).cSettle
          · split
            · next e3 => exact (((h.bulkRead.of_fst e0).bulkRead.of_fst e1).readAll.of_fst e3).cFail
            · next e3 =>
                split
                · next e4 =>
                    exact ((((h.bulkRead.of_fst e0).bulkRead.of_fst e1).readAll.of_fst e3).appendAll.of_fst e4).cFail
                · next e4 => exact ((((h.bulkRead.of_fst e0).bulkRead.of_fst e1).readAll.of_fst e3).appendAll.of_fst e4).cOk

theorem State.canonical.gatherList (h : s.canonical) {f : Nat} {src : Source} {k r l head : Nat} {isV : Bool} :
    (s.gatherList f src k r l head isV).1.canonical := by
  unfold State.gatherList
  dsimp only
  split
  · next e0 => exact (h.readAll.of_fst e0)
  · next e0 => exact (h.readAll.of_fst e0)

theorem State.canonical.gatherLists (h : s.canonical) {f r l : Nat} {src : Source} {isV : Bool} {q : List Nat} :
    (s.gatherLists f src r l isV q).1.canonical := by
  induction q generalizing s with
  | nil => exact h
  | cons x q ih =>
    unfold State.gatherLists
    dsimp only
    split
    · next e1 => exact h.fresh.gatherList.of_fst e1
    · next e1 =>
      split
      · next e2 => exact (ih (h.fresh.gatherList.of_fst e1)).of_fst e2
      · next e2 => exact (ih (h.fresh.gatherList.of_fst e1)).of_fst e2

theorem State.canonical.cGather (h : s.canonical) {f : Nat} {t : EngTask} : (s.cGather f t).canonical := by
  unfold State.cGather
  refine h.onSeq (fun _ _ h1 => h1.cSettle.ite ?_)
  split
  · exact h1.cSettle
  · refine State.canonical.ite (h1.cSettle.ite ?_) ?_
    · split
      · next e2 => exact (h1.bulkRead.of_fst e2).cFail
      · next e2 =>
          dsimp only
          split
          · next e3 => exact ((h1.bulkRead.of_fst e2).bulkWrite.of_fst e3).cFail
          · next e3 => exact ((h1.bulkRead.of_fst e2).bulkWrite.of_fst e3).cOk
    · dsimp only
      split
      · next e2 => exact (h1.gatherLists.of_fst e2).cFail
      · next e2 =>
          split
          · next e3 => exact ((h1.gatherLists.of_fst e2).bulkWrite.of_fst e3).cFail
          · next e3 => exact ((h1.gatherLists.of_fst e2).bulkWrite.of_fst e3).cOk

theorem State.spillSend_cons {s : State} {f r : Nat} {t : EngTask} {src : Source} {x : Nat × Nat}
    {l : List (Nat × Nat)} : ∃ b, s.spillSend f t r src (x :: l) =
      State.spillSend._f f t r src (x :: l) ⟨fun s => s.spillSend f t r src l, b⟩ s := by
  refine ⟨(List.brecOn.go (motive := fun _ => State → State) l (State.spillSend._f f t r src)).2, ?_⟩
  delta State.spillSend
  rfl

theorem State.canonical.spillSend_step (h : s.canonical) {f r : Nat} {t : EngTask} {src : Source} {x : Nat × Nat}
    {l : List (Nat × Nat)} {rest : State → State} {b} (hrest : ∀ {s : State}, s.canonical → (rest s).canonical) :
    (State.spillSend._f f t r src (x :: l) ⟨rest, b⟩ s).canonical := by
  have hread {s : State} {l : List (Nat × Nat)} (h : s.canonical) := h.readAll (src := src) (l := l)
  delta State.spillSend._f
  obtain ⟨read, eread⟩ : ∃ g, State.readAll = g := ⟨_, rfl⟩
  rw [eread] at hread ⊢
  clear eread
  dsimp only
  split
  · exact h.granFail
  · split
    · exact h.fresh.granFail
    · split
      · next e => exact ((hread h.fresh).of_fst e).cairnRollback.cFail
      · next e => exact hrest ((hread h.fresh).of_fst e).modCairn.send

theorem State.canonical.spillSend (h : s.canonical) {f r : Nat} {t : EngTask} {src : Source}
    {l : List (Nat × Nat)} : (s.spillSend f t r src l).canonical := by
  induction l generalizing s with
  | nil => exact h
  | cons x l ih =>
    obtain ⟨b, e⟩ := State.spillSend_cons (s := s) (f := f) (r := r) (t := t) (src := src) (x := x) (l := l)
    exact e ▸ h.spillSend_step ih

theorem State.canonical.cSpill (h : s.canonical) {f : Nat} {t : EngTask} : (s.cSpill f t).canonical := by
  unfold State.cSpill
  refine h.onSeq (fun _ _ h1 => h1.cSettle.ite ?_)
  split
  · exact h1.cSettle
  · exact h1.modCairn.spillSend

theorem State.canonical.cRecall (h : s.canonical) {f : Nat} {t : EngTask} : (s.cRecall f t).canonical := by
  unfold State.cRecall
  refine h.onSeq (fun _ _ h1 => h1.cSettle.ite ?_)
  split
  · exact h1.cSettle
  · dsimp only
    split
    · exact h1.fresh.cSettle
    · split
      · exact h1.fresh.cSettle
      · next e3 => exact (h1.fresh.allocPairs e3).cOk
      · next e3 => exact (h1.fresh.allocPairs e3).startRecall

theorem execCrnEnable_canonical (h : s.canonical) {f : FieldId} : outCanonical (execCrnEnable f s) :=
  h.crnEnable

theorem execCrnDisable_canonical (h : s.canonical) {f : FieldId} : outCanonical (execCrnDisable f s) :=
  h.crnDisable

theorem execCrnNop_canonical (h : s.canonical) {f : FieldId} : outCanonical (execCrnNop f s) := by
  refine h.ite ?_
  split
  · exact h
  · next _ t e0 =>
      refine (h.startTask e0).settleOpen.ite ?_
      split
      · exact (h.startTask e0).cOk
      · exact (h.startTask e0).cSettle

theorem execCrnOpen_canonical (h : s.canonical) {f : FieldId} : outCanonical (execCrnOpen f s) :=
  h.cStart (fun _ _ h1 => h1.cOpen)

theorem execCrnClose_canonical (h : s.canonical) {f : FieldId} : outCanonical (execCrnClose f s) :=
  h.cStart (fun _ _ h1 => h1.onSeq (fun _ _ h2 => h2.closeSeq.cOk))

theorem execCrnFork_canonical (h : s.canonical) {f : FieldId} : outCanonical (execCrnFork f s) :=
  h.cStart (fun _ _ h1 => h1.cFork)

theorem execCrnStep_canonical (h : s.canonical) {f : FieldId} : outCanonical (execCrnStep f s) :=
  h.cStart (fun _ _ h1 => h1.cStep)

theorem execPoolQueryReply_canonical (h : s.canonical) {f : FieldId} {w : WaferId} {g : FieldId}
    {a : PoolAnswer} : outCanonical (execPoolQueryReply f w g a s) := by
  unfold execPoolQueryReply
  show State.canonical _
  dsimp only
  split
  · split
    · exact h
    · split
      · exact h
      · next e =>
        refine State.canonical.ite (State.canonical.stepDecide ?_) (State.canonical.modCairn ?_)
        all_goals
          split at e
          · split at e <;> cases e; exact h
          · cases e
          · split at e <;> cases e; exact h
          · split at e <;> cases e; exact h
  · exact h

theorem execPoolAgentRequest_canonical (h : s.canonical) {f : FieldId} {r : PoolRef} :
    outCanonical (execPoolAgentRequest f r s) := by
  refine h.ite ?_
  split
  · split
    · exact h
    · exact h.ite h.frame
  · refine h.ite (h.send.ite ?_)
    split
    · exact h.send
    · split
      · exact h.send
      · next e2 => exact (h.allocSlots e2).send
    · exact h.foldl fun _ _ h3 => h3.dropRef

theorem execCrnAppend_canonical (h : s.canonical) {f : FieldId} : outCanonical (execCrnAppend f s) :=
  h.cStart (fun _ _ h1 => h1.cAppend)

theorem execCrnGather_canonical (h : s.canonical) {f : FieldId} : outCanonical (execCrnGather f s) :=
  h.cStart (fun _ _ h1 => h1.cGather)

theorem execCrnTruncate_canonical (h : s.canonical) {f : FieldId} : outCanonical (execCrnTruncate f s) :=
  h.cStart (fun _ _ h1 => h1.cTruncate)

theorem execCrnSpill_canonical (h : s.canonical) {f : FieldId} : outCanonical (execCrnSpill f s) :=
  h.cStart (fun _ _ h1 => h1.cSpill)

theorem execGranaryWriteAck_canonical (h : s.canonical) {f : FieldId} {pair : BitVec 32} {bad : Bool} :
    outCanonical (execGranaryWriteAck f pair bad s) := by
  unfold execGranaryWriteAck
  show State.canonical _
  split
  · exact h
  · exact h.ite (h.granFail.ite (h.dropRefs.setPageEntry.noteSpilled.addWrap.modCairn.cOk.ite
      h.dropRefs.setPageEntry.noteSpilled.addWrap.modCairn))

theorem execCrnRecall_canonical (h : s.canonical) {f : FieldId} : outCanonical (execCrnRecall f s) :=
  h.cStart (fun _ _ h1 => h1.cRecall)

theorem State.canonical.recallPoison (h : s.canonical) {f : Nat} {t : EngTask} {p : CairnPair} :
    (s.recallPoison f t p).canonical :=
  h.granFail.setPageEntry.setDamaged.noteSpilled

theorem execGranaryReadDone_canonical (h : s.canonical) {f : FieldId} {pair : BitVec 32} {data : List Byte}
    {bad : Bool} : outCanonical (execGranaryReadDone f pair data bad s) := by
  unfold execGranaryReadDone
  split
  · trivial
  · show State.canonical _
    split
    · exact h
    · exact h.ite (h.recallPoison.ite (State.canonical.ite (h.stepCommit.ite (h.foldl fun _ _ h2 =>
        h2.recallPlace).modCairn.cOk) h.modCairn))

theorem execGranaryTimeout_canonical (h : s.canonical) {f : FieldId} {pair : BitVec 32} :
    outCanonical (execGranaryTimeout f pair s) := by
  unfold execGranaryTimeout
  show State.canonical _
  split
  · exact h
  · exact h.ite h.granFail

theorem execCrnTaskComplete_canonical (h : s.canonical) {f : FieldId} {cycles : Nat} :
    outCanonical (execCrnTaskComplete f cycles s) := by
  refine h.ite ?_
  split
  · exact h
  · next e0 => exact (h.completeOldest e0)

theorem State.canonical.reclaimGo (h : s.canonical) {f w g : Nat} : (s.reclaimGo f w g).canonical :=
  h.ite h.setF.setF.setFlag

theorem execCrnReclaimGo_canonical (h : s.canonical) {f : FieldId} {w : WaferId} {g : BitVec 7} :
    outCanonical (execCrnReclaimGo f w g s) :=
  h.reclaimGo

theorem execCrnReclaimDone_canonical (h : s.canonical) {f : FieldId} : outCanonical (execCrnReclaimDone f s) :=
  h.ite (h.foldl fun _ _ h1 => h1.metaPut).addSat.setFlag

/-! ### The functions of Thread -/

theorem State.canonical.setThread (h : s.canonical) {f t : Nat} {x : Thread} : (s.setThread f t x).canonical :=
  h.frame

theorem State.canonical.modThread (h : s.canonical) {f t : Nat} {g : Thread → Thread} :
    (s.modThread f t g).canonical :=
  h.setThread

theorem State.canonical.retire (h : s.canonical) {f t : Nat} : (s.retire f t).canonical :=
  h.addWrap.modThread

theorem State.canonical.retireWith (h : s.canonical) {f t n : Nat} {g : Thread → Thread} :
    (s.retireWith f t n g).canonical :=
  h.modThread.retire

theorem State.canonical.faultLog (h : s.canonical) {f t cause : Nat} {tval : Word} :
    (s.faultLog f t cause tval).canonical :=
  (h.setFlag.ite h).wr.wr.wr.wr.setF.addSat

theorem State.canonical.trap (h : s.canonical) {f t cause : Nat} {tval : Word} :
    (s.trap f t cause tval).canonical :=
  (h.faultLog.ite h).modThread

theorem State.canonical.illegal (h : s.canonical) {f t : Nat} {raw : Word} : (s.illegal f t raw).canonical :=
  h.trap

theorem State.canonical.accessTrap (h : s.canonical) {f t cause : Nat} {st : AccStatus} {addr : Word} :
    (s.accessTrap f t cause st addr).canonical :=
  h.modThread.trap

theorem State.canonical.threadEnded (h : s.canonical) {serial : Option Nat} {index exitCode : Nat}
    {failure : Option SheafFail} {lost : Bool} :
    (s.threadEnded serial index exitCode failure lost).canonical := by
  unfold State.threadEnded
  split
  · exact h
  · exact h.modSheaf

theorem State.canonical.modBell (h : s.canonical) {f : Nat} {g : Bell → Bell} : (s.modBell f g).canonical :=
  h.frame

theorem State.canonical.detach (h : s.canonical) {f t : Nat} : (s.detach f t).canonical :=
  h.frame

theorem State.canonical.freeHw (h : s.canonical) {f t : Nat} : (s.freeHw f t).canonical :=
  h.detach.setThread.ite h.detach.setThread.modBell

theorem State.canonical.endThread (h : s.canonical) {f t exitCode : Nat} :
    (s.endThread f t exitCode).canonical :=
  h.threadEnded.freeHw

theorem State.canonical.killThread (h : s.canonical) {f t code : Nat} : (s.killThread f t code).canonical :=
  h.threadEnded.freeHw

theorem State.canonical.cutThread (h : s.canonical) {f t : Nat} {failure : Option SheafFail} {counted : Bool} :
    (s.cutThread f t failure counted).canonical :=
  h.threadEnded.freeHw

theorem State.canonical.answerTally (h : s.canonical) {f t : Nat} {rd : XReg} {w : Word} :
    (s.answerTally f t rd w).canonical :=
  h.modThread.retireWith

theorem State.canonical.answerWait (h : s.canonical) {owner : WaitOwner} {w : Word} :
    (s.answerWait owner w).canonical := by
  unfold State.answerWait
  split
  · exact h.answerTally.ite h
  · exact h.frame
  · exact h.send

/-! ### The functions of RvInt -/

theorem State.canonical.jumpTo (h : s.canonical) {f t : Nat} {target : Word} {g : Thread → Thread} :
    (s.jumpTo f t target g).canonical :=
  h.modThread.retire

/-! ### The functions of Tallies -/

theorem State.canonical.tallyArrive (h : s.canonical) {f t : Nat} {src : Source} {tx : Option TxId}
    {op : TallyOp} : (s.tallyArrive f t src tx op).canonical := by
  unfold State.tallyArrive
  refine h.ite (h.noteAccess.send.ite ?_)
  dsimp only
  split
  · next e0 => exact (h.tallyApply.of_fst e0).send
  · next e0 => exact (h.tallyApply.of_fst e0).send

theorem execTallyOpRead_canonical (h : s.canonical) {home : FieldId} {t : TallyId} {src : Source} :
    outCanonical (execTallyOpRead home t src s) :=
  h.tallyArrive

theorem execTallyOpSet_canonical (h : s.canonical) {home : FieldId} {t : TallyId} {src : Source}
    {tx : Option TxId} {v : Word} : outCanonical (execTallyOpSet home t src tx v s) :=
  h.tallyArrive

theorem execTallyOpAdd_canonical (h : s.canonical) {home : FieldId} {t : TallyId} {src : Source}
    {tx : Option TxId} {v : Word} : outCanonical (execTallyOpAdd home t src tx v s) :=
  h.tallyArrive

theorem execTallyOpClearFlags_canonical (h : s.canonical) {home : FieldId} {t : TallyId} {src : Source}
    {tx : Option TxId} : outCanonical (execTallyOpClearFlags home t src tx s) :=
  h.tallyArrive

theorem execTallyOpCas_canonical (h : s.canonical) {home : FieldId} {t : TallyId} {src : Source}
    {tx : Option TxId} {new expected : Word} : outCanonical (execTallyOpCas home t src tx new expected s) :=
  h.tallyArrive

theorem execTallyOpWait_canonical (h : s.canonical) {home : FieldId} {t : TallyId} {src : Source}
    {tx : Option TxId} {threshold : BitVec 48} : outCanonical (execTallyOpWait home t src tx threshold s) :=
  h.tallyArrive

theorem execTallyOpArm_canonical (h : s.canonical) {home : FieldId} {t : TallyId} {src : Source}
    {tx : Option TxId} {threshold : BitVec 48} : outCanonical (execTallyOpArm home t src tx threshold s) :=
  h.tallyArrive

theorem execTallyOpChain_canonical (h : s.canonical) {home : FieldId} {t : TallyId} {src : Source}
    {tx : Option TxId} {threshold : BitVec 48} {skipErr : Bool} {desc : List Byte} :
    outCanonical (execTallyOpChain home t src tx threshold skipErr desc s) := by
  unfold execTallyOpChain
  split
  · trivial
  · exact h.tallyArrive

theorem State.canonical.completionArrive (h : s.canonical) {f t : Nat} {src : Source} {tx : Option TxId}
    {ok : Bool} : (s.completionArrive f t src tx ok).canonical :=
  h.ite (h.noteAccess.send.ite (h.dedup (fun _ h1 => h1.tallyAdd)))

theorem execTallyEngineCompletion_canonical (h : s.canonical) {home : FieldId} {t : TallyId} {src : Source}
    {tx : Option TxId} {ok : Bool} : outCanonical (execTallyEngineCompletion home t src tx ok s) :=
  h.completionArrive

theorem execTallyReceiptUpdate_canonical (h : s.canonical) {home : FieldId} {t : TallyId} {src : Source}
    {tx : Option TxId} {ok : Bool} : outCanonical (execTallyReceiptUpdate home t src tx ok s) :=
  h.completionArrive

theorem State.canonical.signalWrite (h : s.canonical) {x : Selected} : (s.signalWrite x).canonical :=
  h.memWrite.setF.sendMsix

theorem State.canonical.signalTake (h : s.canonical) {x : Selected} : (s.signalTake x).canonical :=
  h.signalWrite.ite (h.frame.tallyError.ite h.frame)

theorem State.canonical.signalFlush (h : s.canonical) {f n : Nat} : (s.signalFlush f n).canonical := by
  induction n generalizing s with
  | zero => exact h
  | succ n ih =>
    unfold State.signalFlush
    split
    · split
      · exact h
      · exact ih h.frame.signalWrite
    · exact h

theorem State.canonical.signalEnable (h : s.canonical) {f size vector : Nat} :
    (s.signalEnable f size vector).canonical :=
  h.setF.ite ((h.setF.ite h).setF.setFlag.signalFlush.ite (h.setF.ite h).setF.tallyError)

theorem execTlySigEnable_canonical (h : s.canonical) {f : FieldId} {size : BitVec 4} {vector : BitVec 12} :
    outCanonical (execTlySigEnable f size vector s) :=
  h.signalEnable

theorem State.canonical.signalTail (h : s.canonical) {f tail : Nat} : (s.signalTail f tail).canonical :=
  h.setF.signalFlush

theorem execTlySigTailWrite_canonical (h : s.canonical) {f : FieldId} {tail : BitVec 12} :
    outCanonical (execTlySigTailWrite f tail s) :=
  h.signalTail

theorem State.canonical.tlyUseRead (h : s.canonical) {f : Nat} : (s.tlyUseRead f).1.canonical :=
  h.frame

theorem execTlyUseRead_canonical (h : s.canonical) {f : FieldId} : outCanonical (execTlyUseRead f s) :=
  h.tlyUseRead.send

theorem State.canonical.chainCancel (h : s.canonical) {home : Nat} {desc : List Byte} {parish : Option ParishId}
    {code : Nat} : (s.chainCancel home desc parish code).canonical :=
  h.finishDesc

theorem State.canonical.chainTake (h : s.canonical) {x : Selected} : (s.chainTake x).canonical := by
  unfold State.chainTake
  split
  · refine h.chainCancel.ite ?_
    dsimp only
    split
    · exact h.forward
    · exact h.forward.ite (h.forward.frame.ite h.forward.chainCancel)
  · exact h

theorem State.canonical.satisfy (h : s.canonical) {x : Selected} : (s.satisfy x).canonical := by
  unfold State.satisfy
  split
  · exact h.dupRecord.answerWait
  · exact h.signalTake
  · exact h.chainTake

theorem execWaiterSatisfy_canonical (h : s.canonical) {f : FieldId} : outCanonical (execWaiterSatisfy f s) := by
  unfold execWaiterSatisfy
  split
  · exact h
  · split
    · exact h
    · exact h.frame.satisfy

theorem execChainIssueRetry_canonical (h : s.canonical) {f : FieldId} :
    outCanonical (execChainIssueRetry f s) := by
  unfold execChainIssueRetry
  split
  · exact h
  · split
    · exact h
    · exact h.frame.chainTake

theorem execTallyParked_canonical (h : s.canonical) {id : Nat} : outCanonical (execTallyParked id s) :=
  h.frame

theorem State.canonical.tallyRedo (h : s.canonical) {r : TallyReq} : (s.tallyRedo r).canonical := by
  unfold State.tallyRedo
  dsimp only
  split
  · next e0 => exact (h.tallyApply.of_fst e0).answerWait
  · next e0 => exact (h.tallyApply.of_fst e0)

theorem State.canonical.tallyFail (h : s.canonical) {owner : WaitOwner} {st : AccStatus} {addr : Nat} :
    (s.tallyFail owner st addr).canonical := by
  unfold State.tallyFail
  split
  · exact h.modThread.accessTrap.ite h
  · exact h.frame
  · exact h.send

theorem execTallyReissue_canonical (h : s.canonical) {id : Nat} : outCanonical (execTallyReissue id s) := by
  unfold execTallyReissue
  split
  · exact h
  · split
    · exact h
    · dsimp only
      split
      · exact h.frame.tallyFail
      · split
        · exact h.frame.tallyFail
        · split
          · exact h
          · exact h.frame.tallyRedo

/-! ### The functions of Xolt -/

theorem State.canonical.gate (h : s.canonical) {f t : Nat} {run : State} (hrun : run.canonical) :
    (s.gate f t run).canonical := by
  unfold State.gate
  refine h.ite ?_
  split
  · exact h.modThread.accessTrap
  · exact h.trap.ite hrun

theorem State.canonical.alignFault (h : s.canonical) {f t cause : Nat} {ea : Word} {isWrite : Bool} :
    (s.alignFault f t cause ea isWrite).canonical :=
  h.noteAccess.accessTrap

theorem State.canonical.amoDone (h : s.canonical) {f t : Nat} {rd : XReg} {wide : Bool} {addr : Nat} {r : Reply} :
    (s.amoDone f t rd wide addr r).canonical := by
  unfold State.amoDone
  dsimp only
  split
  · exact h.modThread.retireWith
  · exact h.modThread.accessTrap

theorem State.canonical.amoRun (h : s.canonical) {f : FieldId} {t : ThreadId} {op : AmoOp} {wide rl : Bool}
    {rd : XReg} {ea operand expected : Word} : (s.amoRun f t op wide rl rd ea operand expected).canonical := by
  unfold State.amoRun
  refine h.ite (h.trap.ite (h.alignFault.ite ?_))
  split
  · next e0 => exact ((h.request noDevice_keeps).of_fst e0).modThread
  · next e0 => exact ((h.request noDevice_keeps).of_fst e0).amoDone

theorem State.canonical.xtAmo (h : s.canonical) {f : FieldId} {t : ThreadId} {op : AmoOp} {wide r4 : Bool}
    {a : XtArgs} : (s.xtAmo f t op wide r4 a).canonical :=
  h.gate (h.illegal.ite h.amoRun)

theorem execXtAmofaddS_canonical (h : s.canonical) {f : FieldId} {t : ThreadId} {a : XtArgs} :
    outCanonical (execXtAmofaddS f t a s) :=
  h.xtAmo

theorem execXtAmofaddBf2_canonical (h : s.canonical) {f : FieldId} {t : ThreadId} {a : XtArgs} :
    outCanonical (execXtAmofaddBf2 f t a s) :=
  h.xtAmo

theorem execXtAmoaddSatD_canonical (h : s.canonical) {f : FieldId} {t : ThreadId} {a : XtArgs} :
    outCanonical (execXtAmoaddSatD f t a s) :=
  h.xtAmo

theorem execXtAmocasD_canonical (h : s.canonical) {f : FieldId} {t : ThreadId} {a : XtArgs} :
    outCanonical (execXtAmocasD f t a s) :=
  h.xtAmo

theorem State.canonical.newReqId (h : s.canonical) : s.newReqId.2.canonical :=
  h.frame

theorem State.canonical.newTx (h : s.canonical) {f : Nat} : (s.newTx f).2.canonical :=
  h.frame

theorem State.canonical.tallyWaitAtSource (h : s.canonical) {f : FieldId} {t : ThreadId} {rd : XReg}
    {ea wafer : Nat} {op : TallyOp} {remote : Bool} :
    (s.tallyWaitAtSource f t rd ea wafer op remote).canonical :=
  State.canonical.modThread (State.canonical.ite (State.canonical.send h.frame) h.frame)

theorem State.canonical.tallyGo (h : s.canonical) {f : FieldId} {t : ThreadId} {rd : XReg} {ea : Word}
    {isWrite : Bool} {op : TallyOp} : (s.tallyGo f t rd ea isWrite op).canonical := by
  unfold State.tallyGo
  refine h.alignFault.ite ?_
  split
  · exact h.noteAccess.accessTrap
  · exact h.tallyWaitAtSource
  · exact h.tallyWaitAtSource
  · refine h.noteAccess.accessTrap.ite (h.tallyWaitAtSource.ite ?_)
    dsimp only
    split
    · next _ e1 =>
        refine ((State.canonical.tallyApply ?_).of_fst e1).retireWith
        split
        · exact h.newTx
        · exact h
    · next e1 =>
        refine ((State.canonical.tallyApply ?_).of_fst e1).modThread
        split
        · exact h.newTx
        · exact h

theorem State.canonical.xtTally (h : s.canonical) {f : FieldId} {t : ThreadId} {a : XtArgs}
    {useRs2 useRs3 release : Bool} {need : Nat} {isWrite : Bool} {op : Thread → TallyOp} :
    (s.xtTally f t a useRs2 useRs3 release need isWrite op).canonical :=
  h.gate (h.illegal.ite (h.ite (h.trap.ite h.tallyGo)))

theorem execXtTadd_canonical (h : s.canonical) {f : FieldId} {t : ThreadId} {a : XtArgs} :
    outCanonical (execXtTadd f t a s) :=
  h.xtTally

theorem execXtTset_canonical (h : s.canonical) {f : FieldId} {t : ThreadId} {a : XtArgs} :
    outCanonical (execXtTset f t a s) :=
  h.xtTally

theorem execXtTwait_canonical (h : s.canonical) {f : FieldId} {t : ThreadId} {a : XtArgs} :
    outCanonical (execXtTwait f t a s) :=
  h.xtTally

theorem execXtTarm_canonical (h : s.canonical) {f : FieldId} {t : ThreadId} {a : XtArgs} :
    outCanonical (execXtTarm f t a s) :=
  h.xtTally

theorem execXtTread_canonical (h : s.canonical) {f : FieldId} {t : ThreadId} {a : XtArgs} :
    outCanonical (execXtTread f t a s) :=
  h.xtTally

theorem execXtTcas_canonical (h : s.canonical) {f : FieldId} {t : ThreadId} {a : XtArgs} :
    outCanonical (execXtTcas f t a s) :=
  h.xtTally

theorem State.canonical.readDesc (h : s.canonical) {f a : Nat} : (s.readDesc f a).1.canonical := by
  unfold State.readDesc
  split
  · exact h
  · dsimp only
    split
    · split <;> exact h.engRead
    · exact h.engRead

theorem State.canonical.xtTchain (h : s.canonical) {f : FieldId} {t : ThreadId} {a : XtArgs} :
    (s.xtTchain f t a).canonical :=
  h.gate (h.ite (h.trap.ite (h.trap.ite h.readDesc.tallyGo)))

theorem execXtTchain_canonical (h : s.canonical) {f : FieldId} {t : ThreadId} {a : XtArgs} :
    outCanonical (execXtTchain f t a s) :=
  h.xtTchain

theorem State.canonical.issueEnd (h : s.canonical) {f t : Nat} {rd : XReg} {code : Nat} :
    (s.issueEnd f t rd code).canonical :=
  h.countIssue.retireWith

theorem State.canonical.xtIssue (h : s.canonical) {f : FieldId} {t : ThreadId} {a : XtArgs} {wait : Bool} :
    (s.xtIssue f t a wait).canonical := by
  unfold State.xtIssue
  refine h.gate (h.illegal.ite (h.ite (h.trap.ite ?_)))
  split
  · next e0 => exact (h.readDesc.of_fst e0).issueEnd
  · next e0 =>
      exact (h.readDesc.of_fst e0).issueEnd.ite ((h.readDesc.of_fst e0).issueEnd.ite ((h.readDesc.of_fst
        e0).newReqId.frame.send.ite (h.readDesc.of_fst e0).newReqId.frame).modThread)

theorem execXtIssue_canonical (h : s.canonical) {f : FieldId} {t : ThreadId} {a : XtArgs} :
    outCanonical (execXtIssue f t a s) :=
  h.xtIssue

theorem execXtIssueW_canonical (h : s.canonical) {f : FieldId} {t : ThreadId} {a : XtArgs} :
    outCanonical (execXtIssueW f t a s) :=
  h.xtIssue

theorem State.canonical.modIssue (h : s.canonical) {id : Nat} {g : IssueReq → IssueReq} :
    (s.modIssue id g).canonical :=
  h.frame

theorem State.canonical.offer (h : s.canonical) {r : IssueReq} : (s.offer r).canonical :=
  h.ite h.enqueueAt.modIssue

theorem execTaskEnqueue_canonical (h : s.canonical) {ref : IssueRef} :
    outCanonical (execTaskEnqueue ref s) := by
  unfold execTaskEnqueue
  split
  · split
    · exact h
    · exact h.offer
  · split
    · trivial
    · split
      · exact h
      · exact h.enqueueAt.send

theorem execIssueStatusReturn_canonical (h : s.canonical) {id : Nat} {remote : BitVec 32} :
    outCanonical (execIssueStatusReturn id remote s) := by
  unfold execIssueStatusReturn
  split
  · exact h
  · split
    · exact h
    · dsimp only
      split
      · exact h
      · split
        · exact h.modIssue
        · exact h.frame.modThread.issueEnd

theorem execIssueWRetry_canonical (h : s.canonical) {id : Nat} : outCanonical (execIssueWRetry id s) := by
  unfold execIssueWRetry
  split
  · exact h
  · split
    · exact h
    · split
      · exact h
      · split
        · exact h
        · dsimp only
          split
          · exact h.modIssue.offer
          · exact h.modIssue.send

theorem execXtPause_canonical (h : s.canonical) {f : FieldId} {t : ThreadId} {a : XtArgs} :
    outCanonical (execXtPause f t a s) :=
  h.gate (h.illegal.ite (h.retireWith.ite h.retireWith))

theorem execPauseExpire_canonical (h : s.canonical) {f : FieldId} {t : ThreadId} :
    outCanonical (execPauseExpire f t s) := by
  unfold execPauseExpire
  dsimp only
  split
  · exact h
  · exact h.setThread

theorem execXtExit_canonical (h : s.canonical) {f : FieldId} {t : ThreadId} {a : XtArgs} :
    outCanonical (execXtExit f t a s) :=
  h.gate (h.illegal.ite h.retire.endThread)

theorem execXtBell_canonical (h : s.canonical) {f : FieldId} {t : ThreadId} {a : XtArgs} :
    outCanonical (execXtBell f t a s) :=
  h.gate (h.illegal.ite h.addWrap.modBell.retireWith)

theorem execXtKill_canonical (h : s.canonical) {f : FieldId} {t : ThreadId} {a : XtArgs} :
    outCanonical (execXtKill f t a s) :=
  h.gate (h.illegal.ite h.retire.killThread)

theorem State.canonical.threadStart (h : s.canonical) {f : Nat} : (s.threadStart f).canonical := by
  unfold State.threadStart
  refine h.ite ?_
  split
  · exact h
  · split
    · exact h
    · exact h.frame.setThread.modBell

theorem execThreadStart_canonical (h : s.canonical) {f : FieldId} : outCanonical (execThreadStart f s) :=
  h.threadStart

theorem State.canonical.sroInvStart (h : s.canonical) {f : Nat} : (s.sroInvStart f).canonical :=
  h.frame.setFlag

theorem execSroInvStart_canonical (h : s.canonical) {f : FieldId} : outCanonical (execSroInvStart f s) := by
  unfold execSroInvStart
  split
  · exact h.sroInvStart
  · exact h

theorem execSroInvDone_canonical (h : s.canonical) {f : FieldId} : outCanonical (execSroInvDone f s) := by
  unfold execSroInvDone
  split
  · exact h.frame.setFlag
  · exact h

/-! ### The functions of RvExec -/

theorem State.canonical.fpRound (h : s.canonical) {f t n : Nat} {rm : RmField} {g : RMode → Thread → Thread} :
    (s.fpRound f t n rm g).canonical := by
  unfold State.fpRound
  split
  · exact h.illegal
  · exact h.retireWith

theorem State.canonical.rvRun (h : s.canonical) {f t n : Nat} {i : RvInstr} : (s.rvRun f t n i).canonical := by
  unfold State.rvRun
  dsimp only
  split
  · exact h.retireWith
  · exact h.retireWith
  · exact h.retireWith
  · exact h.retireWith
  · exact h.retireWith
  · exact h.retireWith
  · exact h.jumpTo
  · exact h.jumpTo
  · exact h.jumpTo.ite h.retireWith
  · split
    · exact h.retireWith
    · exact h.retireWith
    · exact h.retireWith
    · exact h.retireWith
    · exact h.retireWith
    · exact h.fpRound
  · exact h.fpRound
  · exact h.retireWith
  · exact h.retireWith
  · exact h.fpRound
  · exact h.fpRound
  · exact h.fpRound
  · exact h.retireWith
  · exact h.retireWith
  · exact h.retireWith
  · exact h.retireWith
  · exact h.illegal
  · exact h.accessTrap

theorem execRvInstruction_canonical (h : s.canonical) {f : FieldId} {t : ThreadId} {len : InstrLen}
    {i : RvInstr} : outCanonical (execRvInstruction f t len i s) :=
  h.gate h.rvRun

theorem State.canonical.csrAccess (h : s.canonical) {f t : Nat} {a : CsrArgs} :
    (s.csrAccess f t a).canonical := by
  unfold State.csrAccess
  dsimp only
  split
  · exact h.illegal
  · exact h.illegal.ite h.frame.retireWith

theorem execCsrAccess_canonical (h : s.canonical) {f : FieldId} {t : ThreadId} {a : CsrArgs} :
    outCanonical (execCsrAccess f t a s) :=
  h.gate h.csrAccess

theorem execMret_canonical (h : s.canonical) {f : FieldId} {t : ThreadId} : outCanonical (execMret f t s) := by
  refine h.gate ?_
  split
  · exact h.illegal
  · exact h.setThread.retire

theorem execEcall_canonical (h : s.canonical) {f : FieldId} {t : ThreadId} :
    outCanonical (execEcall f t s) := by
  refine h.gate ?_
  split
  · exact h.trap
  · exact h.trap.modThread

theorem execEbreak_canonical (h : s.canonical) {f : FieldId} {t : ThreadId} :
    outCanonical (execEbreak f t s) := by
  refine h.gate ?_
  split
  · exact h.trap
  · exact h.trap.killThread

theorem execFenceI_canonical (h : s.canonical) {f : FieldId} {t : ThreadId} : outCanonical (execFenceI f t s) :=
  h.gate h.retireWith

theorem execFence_canonical (h : s.canonical) {f : FieldId} {t : ThreadId} {pred succ : BitVec 4} :
    outCanonical (execFence f t pred succ s) :=
  h.gate (h.modThread.ite h.retireWith)

theorem State.canonical.loadDone (h : s.canonical) {f t n addr : Nat} {dst : LoadDst} {lr : Bool} {size : Nat}
    {r : Reply} : (s.loadDone f t n addr dst lr size r).canonical := by
  unfold State.loadDone
  dsimp only
  split
  · exact h.modThread.retireWith
  · exact h.modThread.retireWith.ite h.modThread.accessTrap

theorem execAmo_canonical (h : s.canonical) {f : FieldId} {t : ThreadId} {a : AmoArgs} :
    outCanonical (execAmo f t a s) := by
  refine h.gate ?_
  split
  · exact h.illegal
  · exact h.illegal
  · exact h.illegal
  · exact h.illegal
  · exact h.amoRun

theorem execLr_canonical (h : s.canonical) {f : FieldId} {t : ThreadId} {a : ResArgs} :
    outCanonical (execLr f t a s) := by
  refine h.gate (h.ite (h.trap.ite (h.alignFault.ite ?_)))
  split
  · exact h.noteAccess.loadDone
  · split
    · next e1 => exact ((h.request noDevice_keeps).of_fst e1).modThread
    · next e1 => exact ((h.request noDevice_keeps).of_fst e1).loadDone

theorem State.canonical.scDone (h : s.canonical) {f t addr : Nat} {rd : XReg} {r : Reply} :
    (s.scDone f t addr rd r).canonical := by
  unfold State.scDone
  dsimp only
  split
  · exact h.modThread.retireWith
  · exact h.modThread.accessTrap

theorem execSc_canonical {f : FieldId} {t : ThreadId} {a : ResArgs} (h : s.canonical) :
    outCanonical (execSc f t a s) := by
  unfold execSc
  extract_lets x ea n res s0
  have h0 : s0.canonical := h.modThread
  clear_value s0
  refine h.gate (h.ite (h.trap.ite (h.alignFault.ite (h.retireWith.ite ?_))))
  split
  · next e => exact ((h0.request noDevice_keeps).of_fst e).modThread
  · next e => exact ((h0.request noDevice_keeps).of_fst e).scDone

/-! ### The functions of Complete -/

theorem State.canonical.winErr (h : s.canonical) {fn code : Nat} {isWrite : Bool} {off : Nat} :
    (s.winErr fn code isWrite off).canonical :=
  (h.capture (fun _ h1 => h1.setF.setFlag.setF)).sendMsix

theorem State.canonical.barFlush (h : s.canonical) : s.barFlush.canonical :=
  State.canonical.foldl h.frame fun _ _ h1 => h1.send

theorem State.canonical.barAnswer (h : s.canonical) {fn : Nat} {isWrite : Bool} {off id : Nat} {rep : Reply} :
    (s.barAnswer fn isWrite off id rep).canonical := by
  unfold State.barAnswer
  refine State.canonical.ite ?_ (State.canonical.barFlush (State.canonical.frame ?_))
  · split
    · exact h
    · exact h.winErr
  · split
    · exact h
    · exact h.winErr

theorem State.canonical.dropReq (h : s.canonical) {id : Nat} : (s.dropReq id).canonical :=
  h.frame

theorem State.canonical.fenceWake (h : s.canonical) {f t : Nat} : (s.fenceWake f t).canonical := by
  unfold State.fenceWake
  refine State.canonical.ite ?_ h
  dsimp only
  split
  · exact h.modThread.modThread.accessTrap
  · exact h.modThread.retireWith

theorem State.canonical.e2eAnswer (h : s.canonical) {e : Nat × Nat × Nat} {rep : Reply} :
    (s.e2eAnswer e rep).canonical :=
  h.frame

theorem State.canonical.finishAccess (h : s.canonical) {r : Request} {n : Nat} {rep : Reply} :
    (s.finishAccess r n rep).canonical := by
  unfold State.finishAccess
  split
  · exact h.loadDone
  · refine State.canonical.fenceWake ?_
    split
    · exact h
    · exact h.modThread
  · exact h.amoDone
  · exact h.scDone
  · exact h.barAnswer
  · refine State.canonical.send ?_
    split
    · exact h.e2eAnswer
    · exact h
  · exact h
  · exact h
  · exact h

theorem State.canonical.answer (h : s.canonical) {r : Request} {rep : Reply} : (s.answer r rep).canonical := by
  unfold State.answer
  refine State.canonical.ite h.dropReq.pushReq ?_
  dsimp only
  split
  · exact h.frame
  · exact State.canonical.finishAccess h.frame

theorem State.canonical.failReq (h : s.canonical) {target : Option Nat} {r : Request} {st : AccStatus} :
    (s.failReq target r st).canonical :=
  h.noteAccess.answer

theorem State.canonical.failReqs (h : s.canonical) {target : Option Nat} {st : AccStatus} {p : Request → Bool} :
    (s.failReqs target st p).canonical :=
  h.foldl fun _ _ h1 => h1.failReq

theorem State.canonical.resumeReq (h : s.canonical) {r : Request} : (s.resumeReq r).canonical := by
  unfold State.resumeReq
  dsimp only
  split
  · next e0 => exact (h.dropReq.arrive.of_fst e0).answer
  · next e0 => exact (h.dropReq.arrive.of_fst e0)

theorem State.canonical.fillDone (h : s.canonical) {x : Fill} : (s.fillDone x).canonical := by
  refine (State.canonical.addWrap ?_).foldl fun _ _ h1 => h1.resumeReq
  exact h.withMem (Memory.wf_fillGranule _ _ h.mem)

theorem State.canonical.endFills (h : s.canonical) {f n : Nat} : (s.endFills f n).canonical := by
  induction n generalizing s with
  | zero => exact h
  | succ n ih =>
    unfold State.endFills
    split
    · exact h
    · exact ih h.fillDone

theorem State.canonical.failFills (h : s.canonical) {f : Nat} {st : AccStatus} : (s.failFills f st).canonical :=
  State.canonical.foldl h.frame fun _ _ h1 => h1.failReq

theorem State.canonical.releaseHeld {dev : DeviceAccess} (hdev : dev.keeps) (h : s.canonical)
    {p : Request → Bool} : (State.releaseHeld dev s p).canonical := by
  refine h.foldl fun _ _ h1 => ?_
  split
  · next e => exact ((h1.dropReq.deliver hdev).of_fst e).answer
  · next e => exact (h1.dropReq.deliver hdev).of_fst e

/-! ### The functions of Scree -/

theorem State.canonical.scSettle (h : s.canonical) {f : Nat} {t : EngTask} {status detail : Nat} :
    (s.scSettle f t status detail).canonical :=
  h.settle

theorem State.canonical.scFail (h : s.canonical) {f : Nat} {t : EngTask} {outs : List (Nat × Nat)}
    {e : Nat × AccStatus} : (s.scFail f t outs e).canonical :=
  h.undefOutputs.settleAccess

theorem State.canonical.scStart (h : s.canonical) {f : Nat} {ok : Nat → Bool} {run : EngTask → State → State}
    (hrun : ∀ x0 x1, x1.canonical → (run x0 x1).canonical) : (s.scStart f ok run).canonical := by
  unfold State.scStart
  refine h.ite ?_
  split
  · exact h
  · next _ t e0 =>
      split
      · exact hrun _ _ (h.startTask e0)
      · exact (h.startTask e0).scSettle

theorem State.canonical.scWrite (h : s.canonical) {f : Nat} {t : EngTask} {operands scratch : List (Nat × Nat)}
    {outs : List (Nat × List Byte)} : (s.scWrite f t operands scratch outs).canonical := by
  unfold State.scWrite
  dsimp only
  split
  · next _ e0 =>
      exact ((h.foldl fun _ _ h1 => h1.noteOutput).undefOutputs.writeAll.of_fst e0).scFail
  · next e0 =>
      exact (((h.foldl fun _ _ h1 => h1.noteOutput).undefOutputs.writeAll.of_fst e0).undefOutputs.ite
        ((h.foldl fun _ _ h1 => h1.noteOutput).undefOutputs.writeAll.of_fst e0)).settleOpen

theorem State.canonical.takeTag (h : s.canonical) {f : Nat} : (s.takeTag f).2.canonical :=
  h.addWrap

theorem State.canonical.voxRun (h : s.canonical) {f : Nat} {t : EngTask} {p raw : List Byte} :
    (s.voxRun f t p raw).canonical :=
  (h.addWrap.addSat.ite h.addWrap.addSat.raise).fresh.undefOutputs.scSettle.ite (h.addWrap.addSat.ite
    h.addWrap.addSat.raise).takeTag.scWrite

theorem State.canonical.ruleRun (h : s.canonical) {f : Nat} {t : EngTask} {hd raw : List Byte} :
    (s.ruleRun f t hd raw).canonical :=
  h.scSettle.ite (h.fresh.undefOutputs.scSettle.ite (h.undefOutputs.scSettle.ite (h.ite h.takeTag).scWrite))

theorem State.canonical.readPairs (h : s.canonical) {f : Nat} {t : EngTask} :
    (s.readPairs f t).1.canonical := by
  unfold State.readPairs
  dsimp only
  split
  · next e0 => exact (h.bulkRead.of_fst e0).scFail
  · next e0 =>
      split
      · exact (h.bulkRead.of_fst e0).scSettle
      · split
        · next e1 => exact ((h.bulkRead.of_fst e0).bulkRead.of_fst e1).scFail
        · next e1 =>
            split
            · exact ((h.bulkRead.of_fst e0).bulkRead.of_fst e1).scSettle
            · split
              · next e2 => exact (((h.bulkRead.of_fst e0).bulkRead.of_fst e1).bulkRead.of_fst e2).scFail
              · next e2 => exact (((h.bulkRead.of_fst e0).bulkRead.of_fst e1).bulkRead.of_fst e2)

theorem State.canonical.movePairs (h : s.canonical) {f j : Nat} {t : EngTask} {b : List Byte}
    {l : List (Nat × Nat)} : (s.movePairs f t b j l).canonical := by
  induction l generalizing s j with
  | nil => exact h.settleOpen
  | cons x l ih =>
    unfold State.movePairs
    dsimp only
    split
    · exact h.undefOutputs.scSettle
    · split
      · split
        · next e1 => exact (h.bulkRead.of_fst e1).scFail
        · next e1 =>
          split
          · next e2 => exact ((h.bulkRead.of_fst e1).noteOutput.bulkWrite.of_fst e2).scFail
          · next e2 => exact ih ((h.bulkRead.of_fst e1).noteOutput.bulkWrite.of_fst e2).addWrap
      · split
        · next e1 => exact (h.readAll.of_fst e1).scFail
        · next e1 =>
          split
          · next e2 => exact ((h.readAll.of_fst e1).noteOutput.bulkWrite.of_fst e2).scFail
          · next e2 => exact ih ((h.readAll.of_fst e1).noteOutput.bulkWrite.of_fst e2).addWrap

theorem State.canonical.moveClash (h : s.canonical) {f : Nat} {t : EngTask} {hd : List Byte}
    {l : List (Nat × Nat)} : (s.moveClash f t hd l).canonical :=
  h.undefOutputs.ite h

theorem execScrNop_canonical (h : s.canonical) {f : FieldId} : outCanonical (execScrNop f s) :=
  h.scStart (fun _ _ h1 => h1.settleOpen)

theorem execVoxelize_canonical (h : s.canonical) {f : FieldId} : outCanonical (execVoxelize f s) := by
  refine h.scStart (fun _ _ h1 => ?_)
  dsimp only
  split
  · next e1 => exact (h1.bulkRead.of_fst e1).scFail
  · next e1 =>
      split
      · split
        · next e3 => exact ((h1.bulkRead.of_fst e1).bulkRead.of_fst e3).scFail
        · next e3 => exact ((h1.bulkRead.of_fst e1).bulkRead.of_fst e3).voxRun
      · exact (h1.bulkRead.of_fst e1).scSettle

theorem execRulebook_canonical (h : s.canonical) {f : FieldId} : outCanonical (execRulebook f s) := by
  refine h.scStart (fun _ _ h1 => ?_)
  dsimp only
  split
  · next e1 => exact (h1.bulkRead.of_fst e1).scFail
  · next e1 =>
      split
      · next e2 => exact ((h1.bulkRead.of_fst e1).bulkRead.of_fst e2).scFail
      · next e2 => exact ((h1.bulkRead.of_fst e1).bulkRead.of_fst e2).ruleRun

theorem execScrGather_canonical (h : s.canonical) {f : FieldId} : outCanonical (execScrGather f s) := by
  refine h.scStart (fun _ _ h1 => ?_)
  split
  · next e1 => exact (h1.readPairs.of_fst e1)
  · next e1 => exact (h1.readPairs.of_fst e1).movePairs.moveClash

theorem execScatter_canonical (h : s.canonical) {f : FieldId} : outCanonical (execScatter f s) := by
  refine h.scStart (fun _ _ h1 => ?_)
  split
  · next e1 => exact (h1.readPairs.of_fst e1)
  · next _ _ e1 =>
      dsimp only
      split
      · next _ e2 =>
          exact (((h1.readPairs.of_fst e1).foldl fun _ _ h3 => h3.noteOutput).writeAll.of_fst e2).scFail
      · next e2 =>
          exact (((h1.readPairs.of_fst e1).foldl fun _ _ h3 => h3.noteOutput).writeAll.of_fst
            e2).movePairs.moveClash

theorem execScrTaskComplete_canonical (h : s.canonical) {f : FieldId} {cycles : Nat} :
    outCanonical (execScrTaskComplete f cycles s) := by
  refine h.ite ?_
  split
  · exact h
  · next e0 => exact (h.completeOldest e0).addWrap

/-! ### The functions of Loom -/

theorem State.canonical.modLoom (h : s.canonical) {f : Nat} {g : Loom → Loom} : (s.modLoom f g).canonical :=
  h.frame

theorem State.canonical.lTake (h : s.canonical) {f : Nat} {t : EngTask} : (s.lTake f t).canonical :=
  h.modEngine

theorem State.canonical.lSettle (h : s.canonical) {f : Nat} {t : EngTask} {status detail : Nat} :
    (s.lSettle f t status detail).canonical :=
  h.settle

theorem State.canonical.lFail (h : s.canonical) {f : Nat} {t : EngTask} {e : Nat × AccStatus} :
    (s.lFail f t e).canonical :=
  h.settleAccess

theorem State.canonical.lStart (h : s.canonical) {f : Nat} {enc : Bool} {ok : Nat → Bool}
    {run : EngTask → State → State} (hrun : ∀ x0 x1, x1.canonical → (run x0 x1).canonical) :
    (s.lStart f enc ok run).canonical := by
  unfold State.lStart
  refine h.ite ?_
  split
  · exact h
  · refine h.ite ?_
    dsimp only
    split
    · exact hrun _ _ h.lTake
    · exact h.lTake.lSettle

theorem State.canonical.readSurfaces (h : s.canonical) {src : Source} {a n : Nat} :
    (s.readSurfaces src a n).1.canonical := by
  unfold State.readSurfaces
  split
  · next e0 => exact (h.bulkRead.of_fst e0)
  · next e0 => exact (h.bulkRead.of_fst e0)

theorem State.canonical.openSession (h : s.canonical) {f : Nat} {t : EngTask} {enc : Bool}
    {run : List Byte → State → State} (hrun : ∀ x0 x1, x1.canonical → (run x0 x1).canonical) :
    (s.openSession f t enc run).canonical := by
  unfold State.openSession
  split
  · next e0 => exact (h.bulkRead.of_fst e0).lFail
  · next _ e0 =>
      split
      · exact hrun _ _ (h.bulkRead.of_fst e0)
      · exact (h.bulkRead.of_fst e0).lSettle

theorem State.canonical.decStart (h : s.canonical) {f : Nat} {t : EngTask} : (s.decStart f t).canonical := by
  unfold State.decStart
  dsimp only
  split
  · next e0 => exact (h.bulkRead.of_fst e0).lFail
  · next _ e0 =>
      split
      · split
        · next e2 => exact ((h.bulkRead.of_fst e0).readSurfaces.of_fst e2).lFail
        · next _ e2 =>
            split
            · next e3 => exact (((h.bulkRead.of_fst e0).readSurfaces.of_fst e2).readSurfaces.of_fst e3).lFail
            · next _ e3 =>
                exact (((h.bulkRead.of_fst e0).readSurfaces.of_fst e2).readSurfaces.of_fst e3).lSettle.ite ((((h.bulkRead.of_fst
                  e0).readSurfaces.of_fst e2).readSurfaces.of_fst e3).openSession (fun _ _ h5 => h5.lSettle.ite h5.modLoom))
      · exact (h.bulkRead.of_fst e0).lSettle

theorem State.canonical.encStart (h : s.canonical) {f : Nat} {t : EngTask} : (s.encStart f t).canonical := by
  unfold State.encStart
  dsimp only
  split
  · next e0 => exact (h.bulkRead.of_fst e0).lFail
  · next _ e0 =>
      refine (h.bulkRead.of_fst e0).openSession (fun _ _ h2 => ?_)
      split
      · split
        · next e3 => exact (h2.readSurfaces.of_fst e3).lFail
        · next e3 =>
            exact (h2.readSurfaces.of_fst e3).lSettle.ite ((h2.readSurfaces.of_fst e3).modLoom.lSettle.ite
              (h2.readSurfaces.of_fst e3).modLoom)
      · exact h2.lSettle

theorem State.canonical.writeCopy (h : s.canonical) {src : Source} {e : List Byte} {srcFmt w hd : Nat}
    {c : Crop} {pic : List Byte} : (s.writeCopy src e srcFmt w hd c pic).1.canonical := by
  unfold State.writeCopy
  split
  · exact h.writeAll
  · exact h.undefOutputs

theorem State.canonical.commitSession (h : s.canonical) {f : Nat} {t : EngTask} {ss : List Byte} :
    (s.commitSession f t ss).1.canonical :=
  h.bulkWrite

theorem State.canonical.decFrame (h : s.canonical) {f : Nat} {t : EngTask} {j : LoomJob} {x : DecFrame} :
    (s.decFrame f t j x).canonical := by
  unfold State.decFrame
  dsimp only
  split
  · next e1 => exact (h.readAll.of_fst e1).lFail
  · next e1 =>
    have h1 := h.readAll.of_fst e1
    have hcopy {c : Bool} {p : State × Option (Nat × AccStatus)} {u : State} {q : Option (Nat × AccStatus)}
        (hp : p.1.canonical) {v : State} (hv : v.canonical) (e : (if c then p else (v, none)) = (u, q)) :
        u.canonical := by
      split at e
      · exact hp.of_fst e
      · cases e; exact hv
    split
    · next e2 => exact (hcopy h1.writeCopy h1 e2).lFail
    · next e2 =>
      have h2 := hcopy h1.writeCopy h1 e2
      split
      · next e3 => exact (h2.undefOutputs.writeAll.of_fst e3).lFail
      · next e3 =>
        split
        · next e4 => exact ((h2.undefOutputs.writeAll.of_fst e3).commitSession.of_fst e4).lFail
        · next e4 =>
          have h4 := ((h2.undefOutputs.writeAll.of_fst e3).commitSession.of_fst e4)
          have h5 {a b c d m} := (((((h4.addWrap (f := RF.LOM_DEC_PIXELS_COUNT) (inst := f) (idx := 0) (n := a)).addWrap
            (f := RF.LOM_BS_BYTES_COUNT) (inst := f) (idx := 0) (n := b)).addSat (f := RF.LOM_CONCEALED_CONCEALED)
            (inst := f) (idx := 0) (n := c)).addSat (f := RF.LOM_CONCEALED_DROPPED) (inst := f) (idx := 0)
            (n := d)).addSat (f := RF.LOM_REJECTS_COUNT) (inst := f) (idx := 0) (n := m))
          exact State.canonical.ite (h5.ite h5.raise).noteStep.modLoom.lSettle (h5.ite h5.raise).noteStep.modLoom

theorem State.canonical.encFrame (h : s.canonical) {f : Nat} {t : EngTask} {j : LoomJob} {x : EncFrame} :
    (s.encFrame f t j x).canonical := by
  unfold State.encFrame
  refine h.ite (h.lSettle.ite ?_)
  dsimp only
  split
  · next e0 => exact (h.undefOutputs.writeAll.of_fst e0).lFail
  · next e0 =>
      split
      · next e1 => exact ((h.undefOutputs.writeAll.of_fst e0).commitSession.of_fst e1).lFail
      · next e1 =>
          exact ((h.undefOutputs.writeAll.of_fst e0).commitSession.of_fst e1).addWrap.addWrap.addSat.noteStep.modLoom

theorem State.canonical.convertAll (h : s.canonical) {src : Source} {job : List Byte}
    {l : List (List Byte × List Byte)} : (s.convertAll src job l).1.canonical := by
  induction l generalizing s with
  | nil => exact h
  | cons x l ih =>
    unfold State.convertAll
    dsimp only
    split
    · next e1 => exact h.readAll.of_fst e1
    · next e1 =>
      split
      · exact ih (h.readAll.of_fst e1)
      · split
        · next e2 => exact (h.readAll.of_fst e1).writeCopy.of_fst e2
        · next e2 => exact ih ((h.readAll.of_fst e1).writeCopy.of_fst e2)

theorem execLomNop_canonical (h : s.canonical) {f : FieldId} {cycles : Nat} :
    outCanonical (execLomNop f cycles s) := by
  refine h.ite ?_
  split
  · exact h
  · dsimp only
    split <;> exact h.fresh.modEngine.finishTask

theorem execSessionInit_canonical (h : s.canonical) {f : FieldId} {enc : Bool} :
    outCanonical (execSessionInit f enc s) := by
  refine h.lStart (fun _ _ h1 => ?_)
  dsimp only
  split
  · next e1 => exact (h1.bulkRead.of_fst e1).lFail
  · next e1 =>
      split
      · split
        · next e3 => exact ((h1.bulkRead.of_fst e1).bulkWrite.of_fst e3).lFail
        · next e3 => exact ((h1.bulkRead.of_fst e1).bulkWrite.of_fst e3).settleOpen
      · exact (h1.bulkRead.of_fst e1).lSettle

theorem execDecode_canonical (h : s.canonical) {f : FieldId} : outCanonical (execDecode f s) :=
  h.lStart (fun _ _ h1 => h1.decStart)

theorem execEncode_canonical (h : s.canonical) {f : FieldId} : outCanonical (execEncode f s) :=
  h.lStart (fun _ _ h1 => h1.encStart)

theorem execConvert_canonical (h : s.canonical) {f : FieldId} : outCanonical (execConvert f s) := by
  refine h.lStart (fun _ _ h1 => ?_)
  dsimp only
  split
  · next e1 => exact (h1.bulkRead.of_fst e1).lFail
  · next _ e1 =>
      split
      · split
        · next e3 => exact ((h1.bulkRead.of_fst e1).readSurfaces.of_fst e3).lFail
        · next _ e3 =>
            split
            · next e4 => exact (((h1.bulkRead.of_fst e1).readSurfaces.of_fst e3).readSurfaces.of_fst e4).lFail
            · next _ e4 =>
                refine (((h1.bulkRead.of_fst e1).readSurfaces.of_fst e3).readSurfaces.of_fst e4).lSettle.ite ?_
                split
                · next _ e5 =>
                    exact ((State.canonical.foldl (((h1.bulkRead.of_fst e1).readSurfaces.of_fst e3).readSurfaces.of_fst e4) fun _ _
                      h6 => h6.noteOutput).convertAll.of_fst e5).lFail
                · next e5 =>
                    exact ((State.canonical.foldl (((h1.bulkRead.of_fst e1).readSurfaces.of_fst e3).readSurfaces.of_fst e4) fun _ _
                      h6 => h6.noteOutput).convertAll.of_fst e5).settleOpen
      · exact (h1.bulkRead.of_fst e1).lSettle

theorem execFrameBudgetExpire_canonical (h : s.canonical) {f : FieldId} {nonframe : Bool} :
    outCanonical (execFrameBudgetExpire f nonframe s) := by
  unfold execFrameBudgetExpire
  show State.canonical _
  split
  · exact h
  · exact h.ite h.addSat.raise.modLoom

theorem execFrameCommit_canonical {f : FieldId} {r : FrameOut} (h : s.canonical) :
    outCanonical (execFrameCommit f r s) := by
  unfold execFrameCommit
  split
  · split
    · exact h
    · dsimp only
      refine outCanonical.ite trivial (outCanonical.ite h h.decFrame)
  · split
    · exact h
    · exact outCanonical.ite h h.encFrame

theorem execLoomJobComplete_canonical (h : s.canonical) {f : FieldId} {enc : Bool} {consumed cycles : Nat} :
    outCanonical (execLoomJobComplete f enc consumed cycles s) := by
  unfold execLoomJobComplete
  show State.canonical _
  split
  · exact h
  · dsimp only
    split
    · exact h
    · exact h.ite h.modEngine.modLoom.finishTask

/-! ### The functions of Links -/

theorem State.canonical.setLink (h : s.canonical) {k : Nat} {x : Link} : (s.setLink k x).canonical :=
  h.frame

theorem State.canonical.modLink (h : s.canonical) {k : Nat} {g : Link → Link} : (s.modLink k g).canonical :=
  h.setLink

theorem State.canonical.enterState (h : s.canonical) {k st : Nat} : (s.enterState k st).canonical :=
  h.setF.modLink

theorem State.canonical.sendCtrl (h : s.canonical) {k code : Nat} {args : List Nat} :
    (s.sendCtrl k code args).canonical :=
  h.send

theorem State.canonical.ctrlRequest (h : s.canonical) {k code : Nat} : (s.ctrlRequest k code).canonical :=
  h.sendCtrl.modLink

theorem State.canonical.sendAck (h : s.canonical) {k : Nat} {nak : Bool} : (s.sendAck k nak).canonical :=
  h.send.modLink

theorem State.canonical.sendNak (h : s.canonical) {k : Nat} : (s.sendNak k).canonical :=
  h.ite h.sendAck.modLink.addSat

theorem State.canonical.wire (h : s.canonical) {k : Nat} {fl : HeldFlit} : (s.wire k fl).canonical :=
  h.send.modLink

theorem State.canonical.setBucket (h : s.canonical) {p b : Nat} {k : Option Nat} :
    (s.setBucket p b k).canonical :=
  h.frame

theorem State.canonical.mapBuckets (h : s.canonical) {p : Nat} : (s.mapBuckets p).canonical :=
  h.foldl fun _ _ h1 => h1.setBucket

theorem State.canonical.moveBuckets (h : s.canonical) {p k : Nat} : (s.moveBuckets p k).canonical :=
  (h.foldl fun _ _ h1 => h1.setBucket).addSat

theorem State.canonical.resendReq (h : s.canonical) {w : Nat} {r : Request} : (s.resendReq w r).canonical :=
  h.send.addSat

theorem State.canonical.reissueReq (h : s.canonical) {w : Nat} {r : Request} {again : Bool} :
    (s.reissueReq w r again).canonical :=
  h.resendReq.ite (h.ite h.addSat).failReq

theorem State.canonical.reissueTally (h : s.canonical) {r : TallyReq} {again : Bool} :
    (s.reissueTally r again).canonical :=
  h.send.addSat.ite (h.ite h.addSat).frame.tallyFail

theorem State.canonical.reissueIssue (h : s.canonical) {w : Nat} {r : IssueReq} {again : Bool} :
    (s.reissueIssue w r again).canonical :=
  h.send.addSat.ite (h.ite h.addSat).modIssue

theorem State.canonical.setEntry (h : s.canonical) {d e : Nat} {p : Option Nat} :
    (s.setEntry d e p).canonical :=
  h.frame

theorem State.canonical.rebuildEntry (h : s.canonical) {d e : Nat} : (s.rebuildEntry d e).canonical := by
  unfold State.rebuildEntry
  dsimp only
  split
  · exact h.setEntry
  · exact h.ite ((State.canonical.foldl h.setEntry fun _ _ h2 => h2.reissueReq).foldl fun _ _ h2 =>
      h2.reissueTally)

theorem State.canonical.rebuildDest (h : s.canonical) {d : Nat} : (s.rebuildDest d).canonical :=
  h.ite (State.canonical.ite ((State.canonical.foldl h fun _ _ h1 => h1.rebuildEntry).foldl fun
    _ _ h1 => h1.reissueIssue) (h.foldl fun _ _ h1 => h1.rebuildEntry)).setF.frame

theorem State.canonical.rebuildFabric (h : s.canonical) : s.rebuildFabric.canonical :=
  h.foldl fun _ _ h1 => h1.rebuildDest

theorem State.canonical.requeue (h : s.canonical) {p : Nat} {r : Resend} : (s.requeue p r).canonical := by
  unfold State.requeue
  dsimp only
  split
  · exact h
  · split
    · exact h
    · exact h.modLink

theorem State.canonical.resendAll (h : s.canonical) {p k : Nat} : (s.resendAll p k).canonical :=
  h.ite (h.foldl fun _ _ h1 => h1.requeue)

theorem State.canonical.leavePort (h : s.canonical) {k : Nat} : (s.leavePort k).canonical := by
  unfold State.leavePort
  split
  · exact h
  · exact h.moveBuckets.resendAll

theorem State.canonical.unhold (h : s.canonical) {k : Nat} : (s.unhold k).canonical :=
  h.setF.setF

theorem State.canonical.linkDown (h : s.canonical) {k cause : Nat} : (s.linkDown k cause).canonical := by
  unfold State.linkDown
  refine h.ite (State.canonical.rebuildFabric (State.canonical.setLink
    (h.setF.setF.addSat.setFlag.unhold.leavePort.ite (State.canonical.ite ?_ h.setF.setF.addSat.setFlag.unhold))))
  split
  · exact h.setF.setF.addSat.setFlag.unhold.resendAll
  · exact h.setF.setF.addSat.setFlag.unhold

theorem State.canonical.quietStart (h : s.canonical) {k : Nat} : (s.quietStart k).canonical := by
  unfold State.quietStart
  split
  · exact h.enterState
  · exact h.enterState.moveBuckets.rebuildFabric

theorem State.canonical.quietTarget (h : s.canonical) {k : Nat} : (s.quietTarget k).canonical :=
  h.setFlag.ite h.quietStart

theorem State.canonical.enterTest (h : s.canonical) {k : Nat} : (s.enterTest k).canonical :=
  (h.enterState.unhold.leavePort.ite h.enterState.unhold).modLink.rebuildFabric

theorem State.canonical.testTarget (h : s.canonical) {k : Nat} : (s.testTarget k).canonical :=
  h.enterTest.ite h.ctrlRequest

theorem State.canonical.linkUp (h : s.canonical) {k : Nat} : (s.linkUp k).canonical := by
  unfold State.linkUp
  extract_lets s1 s2 _ s3 s4
  have h1 : s1.canonical := h.enterState.unhold
  have h2 : s2.canonical := by
    unfold s2
    split
    · exact h1.mapBuckets.ite h1
    · exact h1
  have h4 : s4.canonical := (h2.frame.ite h2).rebuildFabric
  refine State.canonical.ite ?_ (State.canonical.ite ?_ h4)
  · exact State.canonical.quietTarget h4
  · exact State.canonical.testTarget h4

theorem State.canonical.holdLink (h : s.canonical) {k : Nat} : (s.holdLink k).canonical :=
  (h.enterState.setF.leavePort.ite h.enterState.setF).raise.rebuildFabric

theorem State.canonical.quarantineLink (h : s.canonical) {k : Nat} : (s.quarantineLink k).canonical :=
  h.enterState.setF.raise

theorem State.canonical.fromDown (h : s.canonical) {k : Nat} : (s.fromDown k).canonical :=
  h.enterState.ite h

theorem State.canonical.setTarget (h : s.canonical) {k v : Nat} : (s.setTarget k v).canonical := by
  unfold State.setTarget
  refine h.ite ?_
  dsimp only
  split
  · exact (h.setF.sendCtrl.ite h.setF).linkDown
  · exact h.setF.enterState.ctrlRequest.ite (h.setF.linkUp.ite h.setF.fromDown)
  · exact State.canonical.ite (h.setFlag.ite h.setF.quietStart) h.setF.fromDown
  · exact h.setF.testTarget.ite h.setF.fromDown

theorem execLinkTargetDown_canonical (h : s.canonical) {k : LinkId} : outCanonical (execLinkTargetDown k s) :=
  h.setTarget

theorem execLinkTargetUp_canonical (h : s.canonical) {k : LinkId} : outCanonical (execLinkTargetUp k s) :=
  h.setTarget

theorem execLinkTargetQuiet_canonical (h : s.canonical) {k : LinkId} : outCanonical (execLinkTargetQuiet k s) :=
  h.setTarget

theorem execLinkTargetTest_canonical (h : s.canonical) {k : LinkId} : outCanonical (execLinkTargetTest k s) :=
  h.setTarget

theorem execLinkSignalDetect_canonical (h : s.canonical) {k : LinkId} :
    outCanonical (execLinkSignalDetect k s) := by
  unfold execLinkSignalDetect
  dsimp only
  split
  · exact h.enterState
  · exact h

theorem execLinkPhyTrained_canonical (h : s.canonical) {k : LinkId} :
    outCanonical (execLinkPhyTrained k s) := by
  unfold execLinkPhyTrained
  split
  · exact h.enterState.modLink
  · exact h

theorem execLinkTrainTimeout_canonical {k : LinkId} (h : s.canonical) :
    outCanonical (execLinkTrainTimeout k s) :=
  outCanonical.ite h.linkDown h

theorem execIdentSend_canonical (h : s.canonical) {k : LinkId} : outCanonical (execIdentSend k s) := by
  unfold execIdentSend
  dsimp only
  split
  · exact h.sendCtrl
  · exact h

theorem State.canonical.learn (h : s.canonical) {p : Option Nat} {b : List Byte} : (s.learn p b).canonical := by
  unfold State.learn
  split
  · exact h
  · exact h.wr.wr.addWrap

theorem State.canonical.acceptLink (h : s.canonical) {k : Nat} {b : List Byte} : (s.acceptLink k b).canonical :=
  h.quarantineLink.ite (h.holdLink.ite (State.canonical.ite (State.canonical.foldl h.holdLink fun _ _ h1 =>
    h1.holdLink) (h.linkUp.ite (h.learn.linkUp.ite h.holdLink))))

theorem State.canonical.recheckPort (h : s.canonical) {p : Nat} : (s.recheckPort p).canonical :=
  h.foldl fun _ _ h1 => h1.linkUp.ite h1

theorem execIdentReceive_canonical {k : LinkId} {stamp echo hold : BitVec 32} {block : List Byte}
    (h : s.canonical) : outCanonical (execIdentReceive k stamp echo hold block s) :=
  outCanonical.ite trivial (outCanonical.ite h (outCanonical.ite
    (h.modLink.ite h.modLink.setF).setF.setF.setF.setF.setFlag.acceptLink (h.modLink.ite h.modLink.setF)))

theorem execIdentTimeout_canonical (h : s.canonical) {k : LinkId} : outCanonical (execIdentTimeout k s) := by
  unfold execIdentTimeout
  split
  · exact h.linkDown
  · exact h

theorem execLossOfSignal_canonical (h : s.canonical) {k : LinkId} : outCanonical (execLossOfSignal k s) := by
  unfold execLossOfSignal
  dsimp only
  split
  · exact h
  · exact h.linkDown

theorem execFecLockLost_canonical (h : s.canonical) {k : LinkId} : outCanonical (execFecLockLost k s) := by
  unfold execFecLockLost
  split
  · exact h.linkDown
  · exact h

theorem execUcwLimitExceeded_canonical (h : s.canonical) {k : LinkId} {n : Nat} :
    outCanonical (execUcwLimitExceeded k n s) := by
  unfold execUcwLimitExceeded
  split
  · dsimp only
    split
    · exact h.addSat.linkDown
    · exact h.addSat
  · exact h

theorem execDownNoticeReceive_canonical (h : s.canonical) {k : LinkId} :
    outCanonical (execDownNoticeReceive k s) := by
  unfold execDownNoticeReceive
  split
  · exact h.linkDown
  · exact h

theorem State.canonical.replay (h : s.canonical) {k : Nat} : (s.replay k).canonical := by
  unfold State.replay
  split
  · exact h
  · exact h.linkDown.ite (State.canonical.foldl h.modLink.addSat fun _ _ h2 => h2.wire)

theorem State.canonical.applyAck (h : s.canonical) {k a : Nat} {nak : Bool} : (s.applyAck k a nak).canonical :=
  State.canonical.ite ((h.ite h.modLink).replay.ite (h.ite h.modLink)) (h.linkDown.ite h)

theorem State.canonical.applyCredits (h : s.canonical) {k : Nat} {c : List Nat} :
    (s.applyCredits k c).canonical :=
  h.modLink

theorem execAckFlitReceive_canonical (h : s.canonical) {k : LinkId} {ack : BitVec 16} {valid nak : Bool}
    {freed0 freed1 freed2 freed3 : BitVec 12} :
    outCanonical (execAckFlitReceive k ack valid nak freed0 freed1 freed2 freed3 s) := by
  unfold execAckFlitReceive
  split
  · exact h
  · dsimp only
    split
    · exact h.applyCredits.applyAck
    · exact h.applyCredits

theorem execCtrlRepeat_canonical (h : s.canonical) {k : LinkId} : outCanonical (execCtrlRepeat k s) := by
  unfold execCtrlRepeat
  split
  · exact h
  · split
    · exact h.sendCtrl.modLink
    · exact h.modLink

theorem execAckDue_canonical (h : s.canonical) {k : LinkId} : outCanonical (execAckDue k s) := by
  unfold execAckDue
  dsimp only
  split
  · exact h.sendAck
  · exact h

theorem execReplayTimeout_canonical (h : s.canonical) {k : LinkId} : outCanonical (execReplayTimeout k s) := by
  unfold execReplayTimeout
  split
  · exact h
  · split
    · exact h.addSat.replay
    · exact h

theorem State.canonical.transmit (h : s.canonical) {k cls wafer rack : Nat} {resent : Bool}
    {msgs : List LinkMsg} : (s.transmit k cls wafer rack resent msgs).canonical :=
  h.modLink.wire.addWrap

theorem State.canonical.resendNext (h : s.canonical) {k : Nat} : (s.resendNext k).canonical := by
  unfold State.resendNext
  dsimp only
  split
  · exact h.modLink
  · exact h.modLink.modLink.transmit.ite h.modLink

theorem execFlitTransmit_canonical {k : LinkId} {cls : Fin 4} {wafer : WaferId} {rack : BitVec 7}
    {body : List Byte} (h : s.canonical) : outCanonical (execFlitTransmit k cls wafer rack body s) :=
  outCanonical.ite trivial (outCanonical.ite h.resendNext (outCanonical.ite h h.transmit))

theorem execBucketReturn_canonical (h : s.canonical) {p : PortId} {b : Fin 64} :
    outCanonical (execBucketReturn p b s) := by
  unfold execBucketReturn
  split
  · dsimp only
    split
    · exact h
    · exact h.setBucket
  · exact h

theorem State.canonical.goQuiet (h : s.canonical) {k : Nat} : (s.goQuiet k).canonical :=
  h.enterState.modLink

theorem execQuietReplayEmpty_canonical (h : s.canonical) {k : LinkId} :
    outCanonical (execQuietReplayEmpty k s) := by
  unfold execQuietReplayEmpty
  dsimp only
  split
  · exact h
  · split
    · exact h.sendCtrl.goQuiet
    · exact h.ctrlRequest

theorem execQuietReqReceive_canonical {k : LinkId} (h : s.canonical) : outCanonical (execQuietReqReceive k s) :=
  outCanonical.ite (outCanonical.ite (h.quietStart.ite h).sendCtrl.goQuiet (h.quietStart.ite h).modLink) h

theorem execQuietAckReceive_canonical (h : s.canonical) {k : LinkId} :
    outCanonical (execQuietAckReceive k s) := by
  unfold execQuietAckReceive
  split
  · exact h.goQuiet
  · exact h

theorem execWakeReceive_canonical (h : s.canonical) {k : LinkId} : outCanonical (execWakeReceive k s) := by
  unfold execWakeReceive
  split
  · exact h.enterState
  · exact h

theorem execLinkWakeDone_canonical (h : s.canonical) {k : LinkId} : outCanonical (execLinkWakeDone k s) := by
  unfold execLinkWakeDone
  split
  · exact h.modLink.linkUp
  · exact h

theorem execTestReqReceive_canonical (h : s.canonical) {k : LinkId} :
    outCanonical (execTestReqReceive k s) := by
  unfold execTestReqReceive
  dsimp only
  split
  · exact h.sendCtrl.enterTest
  · exact h

theorem execTestAckReceive_canonical (h : s.canonical) {k : LinkId} :
    outCanonical (execTestAckReceive k s) := by
  unfold execTestAckReceive
  split
  · exact h.enterTest
  · exact h

theorem State.canonical.linkTx (h : s.canonical) {k swing pre post : Nat} :
    (s.linkTx k swing pre post).canonical :=
  h.ite (h.setF.setF.setF.setFlag.modLink.ite h.setF.setF.setF)

theorem execLinkTxWrite_canonical (h : s.canonical) {k : LinkId} {swing pre post : BitVec 6} :
    outCanonical (execLinkTxWrite k swing pre post s) :=
  h.linkTx

theorem execSwingStep_canonical (h : s.canonical) {k : LinkId} : outCanonical (execSwingStep k s) := by
  unfold execSwingStep
  split
  · exact h
  · split
    · exact h.modLink
    · exact h.modLink.setFlag

theorem State.canonical.prbsClear (h : s.canonical) {k : Nat} : (s.prbsClear k).canonical :=
  h.setF.setF

theorem State.canonical.prbsCtl (h : s.canonical) {k : Nat} {side : Bool} {v : Nat} :
    (s.prbsCtl k side v).canonical :=
  h.ite (((h.setF.ite h).setF.setF.setF.setFlag.ite (h.setF.ite h).setF.setF.setF).prbsClear.ite ((h.setF.ite
    h).setF.setF.setF.setFlag.ite (h.setF.ite h).setF.setF.setF))

theorem execPrbsCtlWrite_canonical (h : s.canonical) {k : LinkId} {side : Bool} {v : BitVec 8} :
    outCanonical (execPrbsCtlWrite k side v s) :=
  h.prbsCtl

theorem execPrbsClear_canonical (h : s.canonical) {k : LinkId} : outCanonical (execPrbsClear k s) :=
  h.ite h.prbsClear

theorem execPrbsLock_canonical (h : s.canonical) {k : LinkId} : outCanonical (execPrbsLock k s) := by
  unfold execPrbsLock
  split
  · exact h.setFlag
  · exact h

theorem execPrbsLockLoss_canonical (h : s.canonical) {k : LinkId} : outCanonical (execPrbsLockLoss k s) :=
  h.setFlag

theorem State.canonical.berOf (h : s.canonical) {errs units : Nat} : (s.berOf errs units).1.canonical := by
  unfold State.berOf
  split
  · exact h.fresh
  · exact h

theorem execPrbsBerUpdate_canonical (h : s.canonical) {k : LinkId} {errs units : Nat} :
    outCanonical (execPrbsBerUpdate k errs units s) :=
  (h.addSat.addSat.ite h).berOf.setF

theorem State.canonical.portCtl (h : s.canonical) {p mask : Nat} {enable clearErr : Bool} :
    (s.portCtl p mask enable clearErr).canonical :=
  (h.setFlag.ite h).setFlag.rebuildFabric.ite ((h.setFlag.ite h).setFlag.ite (h.setFlag.ite h).setF.setFlag)

theorem execPortCtlWrite_canonical (h : s.canonical) {p : PortId} {mask : BitVec 56} {enable : Bool} :
    outCanonical (execPortCtlWrite p mask enable s) :=
  h.portCtl

/-! ### The functions of Sequencer -/

theorem State.canonical.setOwner (h : s.canonical) {f p : Nat} {o : Option (Nat × Nat)} :
    (s.setOwner f p o).canonical := by
  unfold State.setOwner
  dsimp only
  split <;> exact h.frame.setF.setFlag.setF

theorem State.canonical.takeEffect (h : s.canonical) {p : Nat} : (s.takeEffect p).canonical :=
  h.foldl fun _ _ h1 => h1.setOwner.modBell.ite h1

theorem State.canonical.parishFieldsWrite (h : s.canonical) {p : Nat} {hi : Bool} {v : Word} :
    (s.parishFieldsWrite p hi v).canonical :=
  h.ite (h.setFlag.ite (h.setF.ite h.setF))

theorem execParishFieldsWrite_canonical (h : s.canonical) {p : ParishId} {hi : Bool} {v : Word} :
    outCanonical (execParishFieldsWrite p hi v s) :=
  h.parishFieldsWrite

theorem State.canonical.parishEnable (h : s.canonical) {p : Nat} : (s.parishEnable p).canonical :=
  h.ite (h.setFlag.ite (h.setFlag.takeEffect.ite h.setFlag))

theorem execParishEnable_canonical (h : s.canonical) {p : ParishId} : outCanonical (execParishEnable p s) :=
  h.parishEnable

theorem execParishUnblock_canonical (h : s.canonical) {p : ParishId} :
    outCanonical (execParishUnblock p s) := by
  unfold execParishUnblock
  split
  · exact h.takeEffect
  · exact h

theorem State.canonical.endSheafThreads (h : s.canonical) {serial : Nat} :
    (s.endSheafThreads serial).canonical :=
  (h.foldl fun _ _ h1 => h1.cutThread).frame.modSheaf

theorem State.canonical.cancelTasks (h : s.canonical) {code : Nat} {p : EngTask → Bool} :
    (s.cancelTasks code p).canonical :=
  h.foldl fun _ _ h1 => h1.cancelWhere

theorem State.canonical.withdrawDeps (h : s.canonical) {serial : Nat} : (s.withdrawDeps serial).canonical :=
  h.frame

theorem State.canonical.endPhase (h : s.canonical) {serial : Nat} : (s.endPhase serial).canonical :=
  h.withdrawDeps.modSheaf

theorem State.canonical.endSheaf (h : s.canonical) {serial : Nat} {fail : SheafFail} :
    (s.endSheaf serial fail).canonical :=
  h.failSheaf.endSheafThreads.cancelTasks.endPhase

theorem State.canonical.parishCancel (h : s.canonical) {p : Nat} : (s.parishCancel p).canonical :=
  h.ite (h.foldl fun _ _ h1 => h1.endSheaf).cancelTasks.frame.setFlag

theorem execParishCancel_canonical (h : s.canonical) {p : ParishId} : outCanonical (execParishCancel p s) :=
  h.parishCancel

theorem State.canonical.parishDisable (h : s.canonical) {p : Nat} : (s.parishDisable p).canonical :=
  h.parishCancel.setFlag.ite h

theorem execParishDisable_canonical (h : s.canonical) {p : ParishId} : outCanonical (execParishDisable p s) :=
  h.parishDisable

theorem State.canonical.ringsOff (h : s.canonical) {p : Nat} : (s.ringsOff p).canonical :=
  h.foldl fun _ _ h1 => h1.setFlag

theorem execParishCancelDone_canonical (h : s.canonical) {p : ParishId} :
    outCanonical (execParishCancelDone p s) := by
  unfold execParishCancelDone
  split
  · exact h
  · exact h.frame.setFlag.ringsOff

theorem State.canonical.doorbell (h : s.canonical) {p r v : Nat} : (s.doorbell p r v).canonical :=
  h.ite (h.frame.ite (h.setF.setFlag.ite h.setF))

theorem State.canonical.holdWrite (h : s.canonical) {hd : HeldWrite} : (s.holdWrite hd).canonical :=
  h.frame.ite h

theorem State.canonical.ringDoorbell (h : s.canonical) {p : ParishId} {r : RingId} {v : Nat} :
    (s.ringDoorbell p r v).canonical :=
  h.frame.holdWrite.ite h.frame.doorbell

theorem execRingDoorbell_canonical (h : s.canonical) {p : ParishId} {r : RingId} {v : BitVec 16} :
    outCanonical (execRingDoorbell p r v s) :=
  h.ringDoorbell

theorem State.canonical.releaseDoorbells (h : s.canonical) : s.releaseDoorbells.canonical :=
  State.canonical.foldl h.frame fun _ _ h1 => h1.doorbell

theorem State.canonical.ringCtlWrite (h : s.canonical) {p r : Nat} {v : Word} :
    (s.ringCtlWrite p r v).canonical :=
  h.wr

theorem execRingEnable_canonical (h : s.canonical) {p : ParishId} {r : RingId} {v : Word} :
    outCanonical (execRingEnable p r v s) := by
  unfold execRingEnable
  split
  · exact h
  · exact h.ringCtlWrite

theorem State.canonical.ringDisable (h : s.canonical) {p r : Nat} : (s.ringDisable p r).canonical :=
  h.ite (h.foldl fun _ _ h1 => h1.endSheaf).setFlag

theorem execRingDisable_canonical (h : s.canonical) {p : ParishId} {r : RingId} :
    outCanonical (execRingDisable p r s) :=
  h.ringDisable

theorem execRingRqHeadWrite_canonical (h : s.canonical) {p : ParishId} {r : RingId} {v : BitVec 16} :
    outCanonical (execRingRqHeadWrite p r v s) :=
  h.setF

theorem State.canonical.depReturn (h : s.canonical) {serial d : Nat} {w : Word} :
    (s.depReturn serial d w).canonical :=
  h.frame

theorem State.canonical.placeDep (h : s.canonical) {x : Sheaf} {d : Nat} : (s.placeDep x d).canonical := by
  unfold State.placeDep
  dsimp only
  split
  · exact h.frame.frame.noteAccess.depReturn
  · exact h.frame.frame.frame.send
  · exact h.frame.frame.frame
  · split
    · next e1 =>
        exact (h.frame.frame.tallyApply.of_fst e1).modSheaf.ite (h.frame.frame.tallyApply.of_fst e1).depReturn
    · next e1 => exact (h.frame.frame.tallyApply.of_fst e1)

theorem State.canonical.fetchFault (h : s.canonical) {p r : Nat} {st : AccStatus} :
    (s.fetchFault p r st).canonical :=
  h.setFlag.setF

theorem State.canonical.takeSheaf (h : s.canonical) {p r : Nat} {raw : List Byte} :
    (s.takeSheaf p r raw).canonical := by
  unfold State.takeSheaf
  dsimp only
  split
  · exact (h.setF.frame.raise.ite h.setF.frame).failSheaf.endPhase
  · exact (h.setF.frame.raise.ite h.setF.frame).foldl fun _ _ h2 => h2.placeDep

theorem execSheafFetch_canonical (h : s.canonical) {p : ParishId} {r : RingId} {hostData : List Byte}
    {hostStatus : AccStatusCode} : outCanonical (execSheafFetch p r hostData hostStatus s) := by
  unfold execSheafFetch
  split
  · trivial
  · split
    · exact h
    · dsimp only
      split
      · split
        · next e0 => exact (h.bulkRead.of_fst e0).fetchFault
        · next e0 => exact (h.bulkRead.of_fst e0).takeSheaf
      · split
        · exact h.fetchFault
        · split
          · exact h.send.takeSheaf
          · exact h.send.fetchFault

theorem execDepWaitRetry_canonical (h : s.canonical) {serial : Nat} {d : Fin 4} :
    outCanonical (execDepWaitRetry serial d s) := by
  unfold execDepWaitRetry
  split
  · exact h
  · split
    · exact h
    · exact h.modSheaf.placeDep

theorem execDepSatisfied_canonical (h : s.canonical) : outCanonical (execDepSatisfied s) := by
  unfold execDepSatisfied
  split
  · exact h
  · split
    · exact h
    · dsimp only
      split
      · exact h.frame
      · split
        · exact h.frame
        · split
          · exact h.frame.failSheaf.endPhase
          · split
            · exact h.frame.placeDep
            · split
              · exact h.frame.modSheaf
              · split
                · exact h.frame.failSheaf.endPhase
                · exact h.frame.modSheaf

theorem State.canonical.markDispatched (h : s.canonical) {serial : Nat} : (s.markDispatched serial).canonical :=
  h.modSheaf

theorem State.canonical.dispatchLaunch (h : s.canonical) {x : Sheaf} : (s.dispatchLaunch x).canonical := by
  unfold State.dispatchLaunch
  extract_lets all fields gone lost
  clear_value lost
  split
  · exact h.failSheaf.endPhase
  · split
    · next e => exact (h.bulkRead.of_fst e).failSheaf.endPhase
    · next e =>
      have h1 := h.bulkRead.of_fst e
      split
      · exact h1.failSheaf.endPhase
      · exact State.canonical.frame h1.modSheaf

theorem State.canonical.sendBurst (h : s.canonical) {x : Sheaf} : (s.sendBurst x).canonical := by
  unfold State.sendBurst
  dsimp only
  split
  · exact h.failSheaf.endPhase
  · split
    · next e1 => exact (h.bulkRead.of_fst e1).failSheaf.endPhase
    · next e1 => exact (h.bulkRead.of_fst e1).send

theorem State.canonical.dispatch (h : s.canonical) {x : Sheaf} : (s.dispatch x).canonical := by
  unfold State.dispatch
  dsimp only
  split
  · exact h.markDispatched.dispatchLaunch
  · exact h.markDispatched
  · exact h.markDispatched.sendBurst
  · exact h.markDispatched.endPhase

theorem execSheafDispatch_canonical (h : s.canonical) : outCanonical (execSheafDispatch s) := by
  unfold execSheafDispatch
  split
  · exact h
  · dsimp only
    split
    · exact h.raise.ite h
    · split
      · exact (h.raise.ite h).frame
      · exact (h.raise.ite h).frame.dispatch

theorem execCopyBurstAck_canonical (h : s.canonical) {serial : Nat} :
    outCanonical (execCopyBurstAck serial s) := by
  unfold execCopyBurstAck
  split
  · exact h
  · split
    · exact h
    · dsimp only
      split
      · next e1 => exact (h.bulkRead.of_fst e1).failSheaf.endPhase
      · next e1 =>
          split
          · next e2 => exact ((h.bulkRead.of_fst e1).bulkWrite.of_fst e2).failSheaf.endPhase
          · next e2 =>
              split
              · exact ((h.bulkRead.of_fst e1).bulkWrite.of_fst e2).modSheaf.endPhase
              · exact ((h.bulkRead.of_fst e1).bulkWrite.of_fst e2).modSheaf

theorem execSendBurstAck_canonical (h : s.canonical) {serial : Nat} {result : Fin 4} :
    outCanonical (execSendBurstAck serial result s) := by
  unfold execSendBurstAck
  split
  · exact h
  · split
    · exact h
    · split
      · exact h.failSheaf.endPhase
      · dsimp only
        split
        · exact h.modSheaf.endPhase
        · exact h.modSheaf.sendBurst

theorem execSendReceive_canonical (h : s.canonical) {m : MusterId} {rack : BitVec 7} {wafer : WaferId}
    {serial : BitVec 64} {offset : BitVec 57} {data : List Byte} {last : Bool} :
    outCanonical (execSendReceive m rack wafer serial offset data last s) := by
  unfold execSendReceive
  dsimp only
  split
  · exact h.send
  · split
    · exact h.send
    · split
      · next e0 => exact (h.bulkWrite.of_fst e0).send
      · next e0 =>
          split
          · exact (h.bulkWrite.of_fst e0).tallyBump.send
          · exact (h.bulkWrite.of_fst e0).send

theorem State.canonical.tellMembers (h : s.canonical) {m op : Nat} {slots : List Nat} :
    (s.tellMembers m op slots).canonical := by
  unfold State.tellMembers
  split
  · exact h
  · exact h.foldl fun _ _ h2 => h2.ite (h2.send.ite h2.send)

theorem State.canonical.modMuster (h : s.canonical) {m : Nat} {g : Muster → Muster} :
    (s.modMuster m g).canonical :=
  h.frame

theorem State.canonical.abortEntry (h : s.canonical) {m wafer rack status : Nat} {p : Sheaf → Bool} :
    (s.abortEntry m wafer rack status p).canonical := by
  unfold State.abortEntry
  dsimp only
  split
  · exact h.setF.modMuster
  · exact State.canonical.foldl h.setF.modMuster fun _ _ h2 => h2.endSheaf

theorem State.canonical.abortSend (h : s.canonical) {m status : Nat} : (s.abortSend m status).canonical :=
  h.ite h.tellMembers.modMuster.abortEntry.raise

theorem State.canonical.receiptWrite (h : s.canonical) {x : Sheaf} : (s.receiptWrite x).canonical := by
  unfold State.receiptWrite
  refine State.canonical.ite (State.canonical.setFlag (State.canonical.setF (State.canonical.ite ?_ (h.send.ite
    h.fetchFault)))) (State.canonical.setF (State.canonical.ite ?_ (h.send.ite h.fetchFault)))
  · split
    · next e0 => exact (h.bulkWrite.of_fst e0).fetchFault
    · next e0 => exact (h.bulkWrite.of_fst e0)
  · split
    · next e0 => exact (h.bulkWrite.of_fst e0).fetchFault
    · next e0 => exact (h.bulkWrite.of_fst e0)

theorem State.canonical.completeSheaf (h : s.canonical) {x : Sheaf} : (s.completeSheaf x).canonical := by
  unfold State.completeSheaf
  dsimp only
  split
  · exact ((h.receiptWrite.tallyBump.ite h.receiptWrite).sendMsix.ite (h.receiptWrite.tallyBump.ite
      h.receiptWrite)).frame.abortSend.ite ((h.receiptWrite.tallyBump.ite h.receiptWrite).sendMsix.ite
      (h.receiptWrite.tallyBump.ite h.receiptWrite)).frame
  · exact ((h.receiptWrite.tallyBump.ite h.receiptWrite).sendMsix.ite (h.receiptWrite.tallyBump.ite
      h.receiptWrite)).frame

theorem execSheafComplete_canonical (h : s.canonical) {serial : Nat} :
    outCanonical (execSheafComplete serial s) := by
  unfold execSheafComplete
  split
  · exact h
  · split
    · exact h.completeSheaf
    · exact h

/-! ### The functions of Muster -/

theorem State.canonical.sendOffers (h : s.canonical) {m : Nat} : (s.sendOffers m).canonical := by
  unfold State.sendOffers
  split
  · exact h
  · exact h.tellMembers

theorem State.canonical.musterRefuse (h : s.canonical) {m : Nat} {disagree : List Nat} :
    (s.musterRefuse m disagree).canonical := by
  unfold State.musterRefuse
  dsimp only
  split
  · exact h.setF.modMuster
  · exact State.canonical.foldl h.setF.modMuster fun _ _ h2 => h2.endSheaf

theorem State.canonical.musterTry (h : s.canonical) {m : Nat} : (s.musterTry m).canonical := by
  unfold State.musterTry
  split
  · exact h
  · exact h.ite (h.musterRefuse.ite (h.setF.ite h))

theorem State.canonical.musterGo (h : s.canonical) {m : Nat} {v : Word} : (s.musterGo m v).canonical := by
  unfold State.musterGo
  dsimp -zeta only
  extract_lets _ _ w s1 p n members bad self x _ s3
  have h3 : s3.canonical := h.wr.bulkRead.frame
  clear_value s3
  exact h.ite (h3.musterRefuse.ite (h3.ite h3.sendOffers.musterTry))

theorem execMusterGo_canonical (h : s.canonical) {m : MusterId} {v : Word} :
    outCanonical (execMusterGo m v s) :=
  h.musterGo

theorem State.canonical.musterFree (h : s.canonical) {m : Nat} : (s.musterFree m).canonical := by
  unfold State.musterFree
  refine h.ite (State.canonical.setFlag (State.canonical.setF (State.canonical.frame ?_)))
  exact h.abortSend.frame.ite h

theorem execMusterFree_canonical (h : s.canonical) {m : MusterId} : outCanonical (execMusterFree m s) :=
  h.musterFree

theorem execMusterOfferReceive_canonical (h : s.canonical) {rack : BitVec 7} {wafer : WaferId}
    {epoch handle : BitVec 16} {index : BitVec 11} {digest : Word} :
    outCanonical (execMusterOfferReceive rack wafer epoch handle index digest s) := by
  unfold execMusterOfferReceive
  split
  · exact h
  · split
    · exact h
    · split
      · exact h
      · dsimp only
        split
        · exact h
        · exact h.modMuster.musterTry

theorem execMusterOfferRepeat_canonical (h : s.canonical) {m : MusterId} :
    outCanonical (execMusterOfferRepeat m s) := by
  unfold execMusterOfferRepeat
  split
  · exact h.sendOffers
  · exact h

theorem execMusterFormTimeout_canonical (h : s.canonical) {m : MusterId} :
    outCanonical (execMusterFormTimeout m s) := by
  unfold execMusterFormTimeout
  split
  · exact h
  · split
    · exact h.musterRefuse
    · exact h

theorem execAbortReceive_canonical (h : s.canonical) {handle : BitVec 16} {wafer : WaferId} {rack : BitVec 7}
    {status : BitVec 8} {epoch : BitVec 16} {wave : BitVec 32} :
    outCanonical (execAbortReceive handle wafer rack status epoch wave s) := by
  unfold execAbortReceive
  split
  · exact h
  · split
    · exact h
    · dsimp only
      split
      · exact h
      · split
        · exact h.tellMembers.modMuster.raise.abortEntry.wr
        · exact h.tellMembers.modMuster.raise

/-! ### The functions of Fabric -/

theorem State.canonical.setTimeState (h : s.canonical) {v : Nat} : (s.setTimeState v).canonical :=
  h.ite h.setF.raise

theorem State.canonical.setMaster (h : s.canonical) {n : Nat} : (s.setMaster n).canonical :=
  h.setF.setFlag.setTimeState.ite h.setF.setFlag

theorem State.canonical.absentReqs (h : s.canonical) {n : Nat} : (s.absentReqs n).canonical :=
  (State.canonical.foldl h.failReqs.frame fun _ _ h1 => h1.tallyFail).foldl fun _ _ h1 =>
    h1.modIssue

theorem State.canonical.abortFrom (h : s.canonical) {m wafer rack status epoch : Nat} :
    (s.abortFrom m wafer rack status epoch).canonical :=
  h.tellMembers.modMuster.abortEntry.raise

theorem State.canonical.musterWithdraw (h : s.canonical) {n m : Nat} : (s.musterWithdraw n m).canonical := by
  unfold State.musterWithdraw
  split
  · exact h
  · exact State.canonical.ite (h.musterRefuse.ite (h.abortFrom.ite h)) h

theorem State.canonical.withdraw (h : s.canonical) {n : Nat} : (s.withdraw n).canonical := by
  unfold State.withdraw
  refine h.ite (State.canonical.ite ?_ (State.canonical.foldl h.setF.setF.raise.absentReqs.startScan.frame fun _ _
    h1 => h1.musterWithdraw))
  split
  · exact State.canonical.foldl h.setF.setF.raise.absentReqs.startScan.frame fun _ _ h2 => h2.musterWithdraw
  · exact (State.canonical.foldl h.setF.setF.raise.absentReqs.startScan.frame fun _ _ h2 =>
      h2.musterWithdraw).setMaster

theorem execWithdrawReceive_canonical (h : s.canonical) {n : WaferId} {epoch : BitVec 16} {cause : BitVec 8} :
    outCanonical (execWithdrawReceive n epoch cause s) := by
  unfold execWithdrawReceive
  dsimp only
  split
  · exact h.withdraw.setF
  · exact h

theorem execAutoWithdrawExpire_canonical (h : s.canonical) {n : WaferId} :
    outCanonical (execAutoWithdrawExpire n s) := by
  unfold execAutoWithdrawExpire
  dsimp only
  split
  · exact State.canonical.foldl h.withdraw fun _ _ h1 => h1.send
  · exact h

theorem State.canonical.routeLoose (h : s.canonical) {hd : FlitHead} {m : List Byte} :
    (s.routeLoose hd m).canonical :=
  h.send.ite (State.canonical.ite (h.ite h.send) (h.send.ite h.addSat))

theorem State.canonical.takeMsg (h : s.canonical) {k : Nat} {hd : FlitHead} {m : List Byte} :
    (s.takeMsg k hd m).canonical :=
  h.addSat.ite (State.canonical.ite (h.routeLoose.ite h) h.frame)

theorem State.canonical.memberFilter (h : s.canonical) {hd : FlitHead} {l : List (List Byte)} :
    (s.memberFilter hd l).1.canonical := by
  unfold State.memberFilter
  dsimp only
  split
  · exact h
  · split
    · exact h.addSat
    · exact h.withdraw.ite h

theorem State.canonical.freeBuffer (h : s.canonical) {k cls : Nat} : (s.freeBuffer k cls).canonical :=
  h.modLink

theorem State.canonical.deliverFlit (h : s.canonical) {k : Nat} {hd : FlitHead} {body : List Byte} :
    (s.deliverFlit k hd body).canonical :=
  (h.addSat.ite h).memberFilter.modLink.ite (State.canonical.foldl (h.addSat.ite h).memberFilter fun _ _ h1 =>
    h1.takeMsg).freeBuffer

theorem execDataFlitReceive_canonical {k : LinkId} {raw : List Byte} (h : s.canonical) :
    outCanonical (execDataFlitReceive k raw s) := by
  have h1 {c : Prop} [Decidable c] {n a : Nat} {b : Bool} :
      (if c then s.applyAck n a b else s).canonical := h.applyAck.ite h
  exact outCanonical.ite trivial (outCanonical.ite h (outCanonical.ite h.addSat.sendNak (outCanonical.ite
    (h.addSat.ite h) (outCanonical.ite h1 (outCanonical.ite h1.modLink.deliverFlit (outCanonical.ite
      h1.addSat.sendAck h1.sendNak))))))

theorem execReachReceive_canonical (h : s.canonical) {k : LinkId} {vector : BitVec 16} :
    outCanonical (execReachReceive k vector s) := by
  unfold execReachReceive
  split
  · exact h
  · exact h.setF.rebuildFabric

theorem execSpreadEntryMove_canonical (h : s.canonical) {d : WaferId} {e : Fin 64} :
    outCanonical (execSpreadEntryMove d e s) := by
  unfold execSpreadEntryMove
  split
  · exact h.setEntry.releaseHeld noDevice_keeps
  · exact h

theorem State.canonical.discAnswer (h : s.canonical) {src key tag : Nat} {parts : List (List Nat)} :
    (s.discAnswer src key tag parts).canonical :=
  (h.foldl fun _ _ h1 => h1.send).frame

theorem State.canonical.discRequest (h : s.canonical) {src dtype tag session : Nat} {target : Word}
    {act : State → State × List (List Nat)} (hact : ∀ x0, x0.canonical → (act x0).1.canonical) :
    (s.discRequest src dtype tag session target act).canonical := by
  unfold State.discRequest
  refine h.ite ?_
  dsimp only
  split
  · exact h.foldl fun _ _ h2 => h2.send
  · exact (hact _ h).discAnswer

theorem execHelloReceive_canonical (h : s.canonical) {src : WaferId} {tag : BitVec 16} {session : BitVec 32}
    {target anchor : Word} : outCanonical (execHelloReceive src tag session target anchor s) :=
  h.discRequest (fun _ h1 => h1.wr.wr.raise.setF.ite h1.wr.wr.raise)

theorem State.canonical.mapRecord (h : s.canonical) {rec_ : Nat} : (s.mapRecord rec_).canonical :=
  h.ite h.wr.wr.recheckPort

theorem execMapReceive_canonical (h : s.canonical) {src : WaferId} {tag : BitVec 16} {session : BitVec 32}
    {target : Word} {part parts : BitVec 8} {gen : BitVec 32} {records : List Nat} :
    outCanonical (execMapReceive src tag session target part parts gen records s) := by
  refine h.discRequest (fun _ h1 => ?_)
  split
  · exact h1
  · exact (h1.foldl fun _ _ h2 => h2.mapRecord).setF.ite (h1.foldl fun _ _ h2 =>
      h2.mapRecord)

theorem execAssignReceive_canonical (h : s.canonical) {src : WaferId} {tag : BitVec 16} {session : BitVec 32}
    {target : Word} {rack : BitVec 7} {number : WaferId} {policy : BitVec 2} :
    outCanonical (execAssignReceive src tag session target rack number policy s) := by
  refine h.discRequest (fun _ h1 => ?_)
  dsimp only
  split
  · exact h1
  · split
    · exact h1
    · split
      · exact h1
      · exact h1.setF.setFlag.setF.setFlag.setF.setF

theorem State.canonical.joinMember (h : s.canonical) {mask : Nat} {epochs : List Nat} {n : Nat} :
    (s.joinMember mask epochs n).canonical :=
  h.withdraw.ite (h.setF.setF.setFlag.ite h)

theorem State.canonical.join (h : s.canonical) {mask master : Nat} {epochs : List Nat} :
    (s.join mask master epochs).canonical :=
  (h.foldl fun _ _ h1 =>
    h1.joinMember).setF.setF.raise.frame.setTimeState.setMaster.rebuildFabric

theorem execJoinReceive_canonical (h : s.canonical) {src : WaferId} {tag : BitVec 16} {session : BitVec 32}
    {target : Word} {mask : BitVec 16} {master : WaferId} {epochs : List Nat} :
    outCanonical (execJoinReceive src tag session target mask master epochs s) := by
  refine h.discRequest (fun _ h1 => ?_)
  dsimp only
  split
  · exact h1
  · split
    · exact h1
    · split
      · exact h1
      · exact h1.join

theorem execFmWaitExpire_canonical (h : s.canonical) : outCanonical (execFmWaitExpire s) := by
  unfold execFmWaitExpire
  dsimp only
  split
  · exact h.setF
  · exact h

theorem State.canonical.discSend (h : s.canonical) : s.discSend.canonical :=
  h.ite h.fresh.send

theorem execDiscSend_canonical (h : s.canonical) : outCanonical (execDiscSend s) :=
  h.discSend

theorem State.canonical.showDisc (h : s.canonical) {l : List Nat} : (s.showDisc l).canonical :=
  (h.foldl fun _ _ h1 => h1.wr).setFlag

theorem execDiscAnswerReceive_canonical (h : s.canonical) {words : List Nat} :
    outCanonical (execDiscAnswerReceive words s) := by
  unfold execDiscAnswerReceive
  split
  · exact h
  · split
    · exact h.frame
    · exact h.showDisc

theorem State.canonical.discRelease (h : s.canonical) : s.discRelease.canonical := by
  unfold State.discRelease
  refine h.ite ?_
  dsimp only
  split
  · exact h.setFlag
  · exact h.setFlag.frame.showDisc

theorem execDiscRxRelease_canonical (h : s.canonical) : outCanonical (execDiscRxRelease s) :=
  h.discRelease

theorem State.canonical.correct (h : s.canonical) {off : ℤ} : (s.correct off).canonical :=
  h.frame.ite h.frame

theorem execTimeSyncSend_canonical (h : s.canonical) : outCanonical (execTimeSyncSend s) := by
  unfold execTimeSyncSend
  split
  · refine State.canonical.frame (h.foldl fun _ _ h1 => ?_)
    split
    · exact h1.send.ite h1
    · exact h1
  · exact h

theorem execTimeSyncReceive_canonical (h : s.canonical) {k : LinkId} {tTx : Word} {corr : BitVec 32}
    {master : WaferId} : outCanonical (execTimeSyncReceive k tTx corr master s) := by
  unfold execTimeSyncReceive
  dsimp only
  split
  · exact h.setF.frame.correct.setTimeState
  · exact h

theorem execSyncMissing_canonical (h : s.canonical) : outCanonical (execSyncMissing s) := by
  unfold execSyncMissing
  split
  · exact h.frame.setTimeState
  · exact h

theorem execHoldoverExpire_canonical (h : s.canonical) : outCanonical (execHoldoverExpire s) := by
  unfold execHoldoverExpire
  split
  · exact h.setTimeState
  · exact h

theorem execPpsEdge_canonical (h : s.canonical) : outCanonical (execPpsEdge s) := by
  unfold execPpsEdge
  refine outCanonical.ite (State.canonical.correct (State.canonical.setFlag ?_)) h
  exact (h.frame.ite h).frame

/-! ### The functions of FieldMap -/

theorem State.canonical.routesDirty (h : s.canonical) : s.routesDirty.canonical :=
  (h.addWrap.ite h).frame

theorem State.canonical.seamDown (h : s.canonical) {f n : Nat} : (s.seamDown f n).canonical := by
  unfold State.seamDown
  split
  · exact h.setF.setF
  · exact h

theorem State.canonical.postDecision (h : s.canonical) {p : FieldPost} : (s.postDecision p).canonical :=
  h.frame

theorem State.canonical.writeRecord (h : s.canonical) {p : FieldPost} : (s.writeRecord p).canonical :=
  h.addSat.raise.ite (h.foldl fun _ _ h1 => h1.wr).setF.raiseAll

theorem State.canonical.postNext (h : s.canonical) {k : Nat} : (s.postNext k).canonical := by
  unfold State.postNext
  split
  · exact h
  · exact h.frame.writeRecord

theorem execFieldRetiredPost_canonical (h : s.canonical) : outCanonical (execFieldRetiredPost s) :=
  h.postNext

theorem execUnitFencedPost_canonical (h : s.canonical) : outCanonical (execUnitFencedPost s) :=
  h.postNext

theorem execSpareEnabledPost_canonical (h : s.canonical) : outCanonical (execSpareEnabledPost s) :=
  h.postNext

theorem State.canonical.loseTallies (h : s.canonical) {f : Nat} {st : AccStatus} :
    (s.loseTallies f st).canonical := by
  refine State.canonical.foldl h.frame fun t w h1 => ?_
  split
  · exact h1.tallyFail
  · exact h1

theorem State.canonical.loseThreads (h : s.canonical) {f : Nat} : (s.loseThreads f).canonical :=
  State.canonical.foldl (h.foldl fun _ _ h1 => h1.cutThread).frame fun _ _ h1 =>
    h1.failSheaf.modSheaf.ite h1

theorem State.canonical.loseTask (h : s.canonical) {f u : Nat} {keep : Bool} {status detail : Nat} {t : EngTask} :
    (s.loseTask f u keep status detail t).canonical :=
  (h.failSheafOpt.ite h).undefOutputs.frame.ite (h.failSheafOpt.ite h).undefOutputs

theorem State.canonical.loseTasks (h : s.canonical) {f : Nat} {keep : Bool} : (s.loseTasks f keep).canonical := by
  unfold State.loseTasks
  refine State.canonical.frame (h.foldl fun t u ht => State.canonical.foldl (State.canonical.foldl ?_ ?_) ?_)
  · exact (ht.foldl fun _ _ h1 => h1.loseTask).fresh
  · exact fun _ _ h1 => h1.loseTask
  · exact fun _ _ h1 => h1.failSheafOpt

theorem State.canonical.loseEngines (h : s.canonical) {f : Nat} : (s.loseEngines f).canonical := by
  refine State.canonical.startScan (State.canonical.frame (State.canonical.frame ?_))
  exact h.clearSieve.clearSieve.modCairn

theorem State.canonical.s0State (h : s.canonical) {st cause : Nat} : (s.s0State st cause).canonical :=
  h.setF.setF.raise

theorem State.canonical.granAbort (h : s.canonical) {f : Nat} {st : AccStatus} :
    (s.granAbort f st).canonical := by
  unfold State.granAbort
  split
  · exact h
  · split
    · exact h.granFail
    · exact h

theorem State.canonical.s0Down (h : s.canonical) : s.s0Down.canonical :=
  State.canonical.ite (State.canonical.foldl h.setFlag.s0State fun _ _ h1 => h1.granAbort) h

theorem State.canonical.makeHole (h : s.canonical) {f : Nat} : (s.makeHole f).canonical := by
  unfold State.makeHole
  refine State.canonical.foldl ((State.canonical.foldl (State.canonical.foldl h fun _ _ h1
    => h1.seamDown).frame fun _ _ h1 => h1.failReq).foldl fun _ _ h1 => h1.failReq) fun _ _ h1 => ?_
  dsimp only
  split
  · exact h1
  · exact State.canonical.ite ((h1.fresh.s0Down.ite h1.fresh).foldl fun _ _ h3 => h3.enterState.ite
      h3.linkDown) h1

theorem State.canonical.isolateBody (h : s.canonical) {f : Nat} {hole stackLost : Bool} :
    (s.isolateBody f hole stackLost).canonical :=
  (h.failFills.ite h.endFills).failReqs.loseThreads.loseTasks.loseTallies.loseEngines.frame

theorem State.canonical.spreadLoss (h : s.canonical) {f : Nat} : (s.spreadLoss f).canonical :=
  (h.addWrap.ite h).frame.ite h

theorem State.canonical.retireNow (h : s.canonical) {f cause loss : Nat} {hole boot : Bool} :
    (s.retireNow f cause loss hole boot).canonical :=
  (((h.setF.setF.setF.setF.setFlag.ite h.setF.setF.setF.setF.postDecision.raise).isolateBody.ite
    (h.setF.setF.setF.setF.setFlag.ite h.setF.setF.setF.setF.postDecision.raise).frame).makeHole.ite
    ((h.setF.setF.setF.setF.setFlag.ite h.setF.setF.setF.setF.postDecision.raise).isolateBody.ite
    (h.setF.setF.setF.setF.setFlag.ite h.setF.setF.setF.setF.postDecision.raise).frame)).spreadLoss.routesDirty

theorem State.canonical.retireField (h : s.canonical) {f cause loss : Nat} {hole boot : Bool} :
    (s.retireField f cause loss hole boot).canonical :=
  h.ite (h.frame.ite h.retireNow)

theorem execFieldRetire_canonical (h : s.canonical) {f : FieldId} {cause : RetireCause} :
    outCanonical (execFieldRetire f cause s) :=
  h.retireField

theorem execDamageScanDone_canonical (h : s.canonical) {f : FieldId} : outCanonical (execDamageScanDone f s) :=
  h.endScans

theorem execRetiredTaskStatus_canonical (h : s.canonical) {f : FieldId} :
    outCanonical (execRetiredTaskStatus f s) :=
  State.canonical.foldl h.frame fun _ _ h1 => h1.finishDesc

theorem State.canonical.isolateLoop (h : s.canonical) {n : Nat} : (s.isolateLoop n).canonical := by
  induction n generalizing s with
  | zero => exact h
  | succ n ih =>
    unfold State.isolateLoop
    split
    · exact h
    · exact ih h.retireNow

theorem State.canonical.loadRoutes (h : s.canonical) : s.loadRoutes.canonical :=
  h.foldl fun _ _ h1 => h1.frame

theorem State.canonical.routeRebuild (h : s.canonical) : s.routeRebuild.canonical :=
  (h.isolateLoop.loadRoutes.addWrap.ite h.isolateLoop.loadRoutes).frame

theorem execSeamEccError_canonical (h : s.canonical) {f : FieldId} {n : Fin 4} {uncorrectable : Bool}
    {victim : Option Nat} : outCanonical (execSeamEccError f n uncorrectable victim s) := by
  unfold execSeamEccError
  split
  · exact h
  · split
    · exact h.addSat
    · exact h.addSat.frame

theorem execSeamUeLimit_canonical (h : s.canonical) {f : FieldId} {n : Fin 4} :
    outCanonical (execSeamUeLimit f n s) := by
  unfold execSeamUeLimit
  dsimp only
  split
  · exact h.seamDown.routesDirty
  · exact h

theorem execSeamSatWindow_canonical (h : s.canonical) {f : FieldId} {n : Fin 4} {cycles : Nat} :
    outCanonical (execSeamSatWindow f n cycles s) := by
  unfold execSeamSatWindow
  dsimp only
  split
  · exact h.addSat.raise
  · exact h.addSat

theorem State.canonical.refreshDepths (h : s.canonical) : s.refreshDepths.canonical := by
  refine h.foldl fun _ _ h1 => ?_
  split
  · exact h1.setF
  · exact h1

theorem execParentLoss_canonical (h : s.canonical) {f : FieldId} : outCanonical (execParentLoss f s) := by
  unfold execParentLoss
  split
  · dsimp only
    split
    · exact h.setF.retireField
    · exact h.setF
  · exact h

theorem execClockReparent_canonical (h : s.canonical) {f : FieldId} : outCanonical (execClockReparent f s) := by
  unfold execClockReparent
  split
  · split
    · exact h.retireField
    · exact h.setF.setF.setF.addSat.refreshDepths
  · exact h

theorem execClockRelock_canonical (h : s.canonical) {f : FieldId} : outCanonical (execClockRelock f s) := by
  unfold execClockRelock
  split
  · exact h.setF
  · exact h

/-! ### The functions of Hbm -/

theorem State.canonical.hbmCapture (h : s.canonical) {f kind pc bit off : Nat} :
    (s.hbmCapture f kind pc bit off).canonical :=
  h.capture (fun _ h1 => h1.setF.setF.setF.setF)

theorem execHbmEccError_canonical (h : s.canonical) {f : FieldId} {off : BitVec 35} {kind : Fin 3}
    {pc : BitVec 5} {bitPos : BitVec 9} : outCanonical (execHbmEccError f off kind pc bitPos s) := by
  unfold execHbmEccError
  dsimp only
  split
  · exact h
  · split
    · exact h.addSat
    · split
      · exact h.addSat.hbmCapture
      · have h1 {pc' bp a} := (h.addSat (f := RF.HBM_UE_COUNT_COUNT) (inst := f.val) (idx := 0) (n := 1)).hbmCapture
          (f := f.val) (kind := 2) (pc := pc') (bit := bp) (off := a)
        exact h1.withMem (Memory.wf_poison (fun q => q) [_] h1.mem)

theorem execCmdAddrParityError_canonical (h : s.canonical) {f : FieldId} {pc : BitVec 5} :
    outCanonical (execCmdAddrParityError f pc s) :=
  h.hbmCapture

theorem State.canonical.scrubErr (h : s.canonical) {f : Nat} : (s.scrubErr f).canonical :=
  h.setFlag.setFlag

theorem State.canonical.stackLoss (h : s.canonical) {f cause pc lane : Nat} {boot : Bool} :
    (s.stackLoss f cause pc lane boot).canonical :=
  (h.setF.setF.setF.setF.scrubErr.ite h.setF.setF.setF.setF).frame.ite (h.setF.setF.setF.setF.scrubErr.ite
    h.setF.setF.setF.setF).retireField

theorem execStackLoss_canonical (h : s.canonical) {f : FieldId} {cause : Fin 5} {pc : BitVec 5}
    {lane : BitVec 8} : outCanonical (execStackLoss f cause pc lane s) := by
  unfold execStackLoss
  dsimp only
  split
  · exact h
  · exact h.stackLoss

theorem execPatrolStep_canonical (h : s.canonical) {f : FieldId} : outCanonical (execPatrolStep f s) := by
  unfold execPatrolStep
  dsimp only
  split
  · exact h
  · split
    · exact h.setF
    · exact h.setF.addWrap

theorem execRefresh_canonical (h : s.canonical) {_f : FieldId} {_bank : Nat} :
    outCanonical (execRefresh _f _bank s) :=
  h

theorem execHbmTempCross_canonical (h : s.canonical) {f : FieldId} {temp : BitVec 8} :
    outCanonical (execHbmTempCross f temp s) :=
  h.setF.setFlag

theorem State.canonical.scrubGo (h : s.canonical) {f : Nat} {zeros : Bool} : (s.scrubGo f zeros).canonical := by
  unfold State.scrubGo
  extract_lets g n s1
  have h1 : (s1.setFlag RF.HBM_SCRUB_CTL_BUSY f 0 true).fresh.2.canonical := h.setF.setFlag.fresh
  exact h.ite (State.canonical.ite (State.canonical.scrubErr h.setF) (h1.withMem (Memory.wf_scrub _ _ _ _ h1.mem)))

theorem execScrubMark_canonical (h : s.canonical) {f : FieldId} : outCanonical (execScrubMark f s) :=
  h.scrubGo

theorem execScrubOverwrite_canonical (h : s.canonical) {f : FieldId} : outCanonical (execScrubOverwrite f s) :=
  h.scrubGo

theorem State.canonical.scrubEnd (h : s.canonical) {f : Nat} : (s.scrubEnd f).canonical := by
  unfold State.scrubEnd
  extract_lets g n i m
  have hm : m.wf = true := Memory.wf_scrub _ _ _ _ h.mem
  exact h.ite (h.withMem hm).setFlag.addWrap

theorem State.canonical.granRefresh (h : s.canonical) : s.granRefresh.canonical :=
  h.setFlag

theorem State.canonical.granEnable (h : s.canonical) : s.granEnable.canonical :=
  h.ite (h.setFlag.setFlag.s0State.ite h.setFlag)

theorem execGranaryEnable_canonical (h : s.canonical) : outCanonical (execGranaryEnable s) :=
  h.granEnable

theorem State.canonical.granDisable (h : s.canonical) : s.granDisable.canonical :=
  h.setFlag.setFlag.setFlag.setF.setF.s0State.ite h

theorem execGranaryDisable_canonical (h : s.canonical) : outCanonical (execGranaryDisable s) :=
  h.granDisable

theorem execS0EnumDone_canonical (h : s.canonical) {cause : Fin 6} {width : BitVec 4} {speed : BitVec 3} :
    outCanonical (execS0EnumDone cause width speed s) := by
  unfold execS0EnumDone
  dsimp only
  split
  · exact h
  · split
    · exact h.s0State
    · split
      · exact h.s0State
      · exact h.setF.setF.setFlag.s0State.granRefresh

theorem execS0LinkDown_canonical (h : s.canonical) : outCanonical (execS0LinkDown s) :=
  h.s0Down

/-! ### The functions of Recovery -/

theorem State.canonical.countEngine (h : s.canonical) {f u : Nat} : (s.countEngine f u).canonical :=
  h.modEngine

theorem State.canonical.countCrofter (h : s.canonical) {f c : Nat} : (s.countCrofter f c).canonical :=
  h.frame

theorem State.canonical.countField (h : s.canonical) {f : Nat} : (s.countField f).canonical :=
  h.frame

theorem execEscalationWindowSlide_canonical (h : s.canonical) : outCanonical (execEscalationWindowSlide s) :=
  h.frame

theorem State.canonical.fencePost (h : s.canonical) {f cls unit : Nat} : (s.fencePost f cls unit).canonical :=
  h.postDecision.raise

theorem State.canonical.cairnHolderLost (h : s.canonical) {f : Nat} : (s.cairnHolderLost f).canonical :=
  (h.foldl fun _ _ h1 => h1.setSeqState).modCairn

theorem State.canonical.fenceNow (h : s.canonical) {f u : Nat} : (s.fenceNow f u).canonical :=
  h.ite (h.wr.fencePost.cancelQueue.cairnHolderLost.ite h.wr.fencePost.cancelQueue)

theorem State.canonical.fenceCrofterNow (h : s.canonical) {f c : Nat} : (s.fenceCrofterNow f c).canonical :=
  h.ite ((State.canonical.foldl h.wr.fencePost fun _ _ h1 => h1.cutThread).foldl fun _ _ h1 =>
    h1.setThread)

theorem State.canonical.outOfServiceNow (h : s.canonical) : s.outOfServiceNow.canonical :=
  h.setFlag.raise

theorem State.canonical.applyDecision (h : s.canonical) {d : Decision} : (s.applyDecision d).canonical := by
  unfold State.applyDecision
  split
  · exact h.ite h.retireNow
  · exact h.fenceNow
  · exact h.fenceCrofterNow
  · exact h.outOfServiceNow

theorem State.canonical.takeDecision (h : s.canonical) {d : Decision} : (s.takeDecision d).canonical :=
  h.frame.ite h.applyDecision

theorem State.canonical.runDeferred (h : s.canonical) : s.runDeferred.canonical :=
  State.canonical.foldl h.frame fun _ _ h1 => h1.applyDecision

theorem State.canonical.escalateEngine (h : s.canonical) {f u : Nat} : (s.escalateEngine f u).canonical :=
  h.takeDecision.ite h

theorem State.canonical.escalateCrofter (h : s.canonical) {f c : Nat} : (s.escalateCrofter f c).canonical :=
  h.takeDecision.ite h

theorem State.canonical.engineClear (h : s.canonical) {f u : Nat} : (s.engineClear f u).canonical :=
  h.clearSieve.ite (h.cairnRollback.ite (h.modLoom.ite h))

theorem State.canonical.resetRunning (h : s.canonical) {f u code : Nat} : (s.resetRunning f u code).canonical :=
  State.canonical.ite (State.canonical.foldl ((h.cairnRollback.ite h).foldl fun _ _ h1 =>
    h1.poisonTask).modEngine.fresh fun _ _ h1 => h1.finishTask) (h.cairnRollback.ite h).endRunning

theorem State.canonical.engineReset (h : s.canonical) {f u : Nat} : (s.engineReset f u).canonical :=
  h.resetRunning.cancelQueue.engineClear

theorem State.canonical.crofterReset (h : s.canonical) {f c : Nat} : (s.crofterReset f c).canonical :=
  (State.canonical.foldl h fun _ _ h1 => h1.cutThread).foldl fun _ _ h1 => h1.ite h1.setThread

theorem State.canonical.dropLaunches (h : s.canonical) {f : Nat} {fail : SheafFail} :
    (s.dropLaunches f fail).canonical :=
  State.canonical.foldl h.frame fun _ _ h1 => h1.failSheaf.modSheaf.ite h1

theorem State.canonical.abortWaiters (h : s.canonical) {f : Nat} : (s.abortWaiters f).canonical := by
  refine h.dropWaiters.addSat.foldl fun _ _ h1 => ?_
  split
  · exact h1.answerWait
  · exact h1.chainCancel
  · exact h1

theorem State.canonical.fieldRegs (h : s.canonical) {f : Nat} : (s.fieldRegs f).canonical :=
  h.resetRegs

theorem State.canonical.fieldClear (h : s.canonical) {f : Nat} : (s.fieldClear f).canonical := by
  unfold State.fieldClear
  dsimp -zeta only
  extract_lets fail s1 s2 s3 s4 s5 keep _ _ _ _ _ s6
  have h2 : s2.canonical := (h.fresh.foldl fun _ _ h1 => h1.cutThread).dropLaunches
  have h3 : s3.canonical := h2.foldl fun _ _ h1 => (h1.cairnRollback.ite h1).endRunning.cancelQueue.finishAll
  have h5 : s5.canonical := h3.abortWaiters.endFills.clearSieve.clearSieve.cairnRollback
  have h6 : s6.canonical := h5.withMem (Memory.wf_zeroRange _ _ h5.mem)
  exact h6.fieldRegs

theorem State.canonical.fieldReset (h : s.canonical) {f : Nat} : (s.fieldReset f).canonical :=
  h.ite h.frame.fieldClear

theorem State.canonical.renumberQuerns (h : s.canonical) {f : Nat} : (s.renumberQuerns f).canonical :=
  (State.canonical.foldl h fun _ _ h1 => h1.setF).foldl fun _ _ h1 => h1.setF

theorem State.canonical.enableSpare (h : s.canonical) {f : Nat} : (s.enableSpare f).canonical := by
  unfold State.enableSpare
  dsimp only
  split
  · exact h.setFlag.setFlag.postDecision
  · exact h

theorem State.canonical.fieldResetEnd (h : s.canonical) {f : Nat} : (s.fieldResetEnd f).canonical :=
  State.canonical.foldl h.frame.enableSpare.renumberQuerns fun _ _ h1 => h1.tallyAdd

theorem State.canonical.startReset (h : s.canonical) {scope target : Nat} :
    (s.startReset scope target).canonical := by
  unfold State.startReset
  extract_lets _ s0
  have h0 : s0.canonical := h.frame
  clear_value s0
  split
  · exact h0.engineReset.countEngine.modEngine
  · exact State.canonical.frame h0.crofterReset.countCrofter
  · exact h0.countField.fieldReset
  · exact h0.parishCancel.foldl fun _ _ h1 => h1.countField.fieldReset
  · exact h0

theorem State.canonical.resetCmdErr (h : s.canonical) : s.resetCmdErr.canonical :=
  h.setFlag

theorem State.canonical.resetGo (h : s.canonical) {scope : Nat} {target : Option Nat} :
    (s.resetGo scope target).canonical := by
  unfold State.resetGo
  split
  · exact h.resetCmdErr
  · exact h.resetCmdErr.ite (h.setFlag.frame.ite h.setFlag.startReset)

theorem State.canonical.resetWrite (h : s.canonical) {scope field cls unit parish : Nat} :
    (s.resetWrite scope field cls unit parish).canonical :=
  h.setF.setF.setF.setF.setF

theorem State.canonical.startWaiting (h : s.canonical) : s.startWaiting.canonical :=
  State.canonical.foldl h.frame fun _ _ h1 => h1.startReset

theorem execResetEngine_canonical (h : s.canonical) {f : FieldId} {cls : EngineClass} {unit : BitVec 4} :
    outCanonical (execResetEngine f cls unit s) :=
  h.resetWrite.resetGo

theorem execResetCrofter_canonical (h : s.canonical) {f : FieldId} {c : CrofterId} :
    outCanonical (execResetCrofter f c s) :=
  h.resetWrite.resetGo

theorem execResetField_canonical (h : s.canonical) {f : FieldId} : outCanonical (execResetField f s) :=
  h.resetWrite.resetGo

theorem execResetParish_canonical (h : s.canonical) {p : ParishId} : outCanonical (execResetParish p s) :=
  h.resetWrite.resetGo

theorem State.canonical.stallReset (h : s.canonical) {f u : Nat} : (s.stallReset f u).canonical :=
  ((State.canonical.foldl (h.cairnRollback.ite h).modEngine fun _ _ h1 =>
    h1.poisonTask.finishTask.addWrap).cancelQueue.clearSieve.ite (State.canonical.foldl (h.cairnRollback.ite
    h).modEngine fun _ _ h1 => h1.poisonTask.finishTask.addWrap).cancelQueue).countEngine

theorem State.canonical.hangState (h : s.canonical) {hd : Hang} {st left : Nat} :
    (s.hangState hd st left).canonical :=
  h.setF.setF.ite h

theorem State.canonical.endRecovery (h : s.canonical) {x : Recovery} : (s.endRecovery x).canonical :=
  (State.canonical.foldl (State.canonical.foldl h.frame fun _ _ h1 => h1.modSheaf).hangState fun _ _ h1 =>
    h1.escalateEngine).runDeferred

theorem State.canonical.pruneRecoveries (h : s.canonical) : s.pruneRecoveries.canonical :=
  h.foldl fun _ _ h1 => h1.endRecovery

theorem execRecoveryStart_canonical {engines : List (FieldId × Fin 32)} {crofters : List (FieldId × CrofterId)}
    (h : s.canonical) : outCanonical (execRecoveryStart engines crofters s) := by
  have h0 := h.pruneRecoveries
  unfold execRecoveryStart
  dsimp only
  split
  · exact h0
  · refine outCanonical.ite h0 (outCanonical.ite ?_ (outCanonical.ite ?_ ?_))
    · exact State.canonical.hangState (State.canonical.frame (h0.frame.addWrap.foldl fun _ _ h1 => h1.stallReset))
    · exact (h0.frame.addWrap.foldl fun _ _ h1 => h1.crofterReset.countCrofter.escalateCrofter).endRecovery
    · exact (h0.frame.addWrap.foldl fun _ _ h1 => h1.endSheaf).endRecovery

theorem State.canonical.setReplay (h : s.canonical) {r : Replay} : (s.setReplay r).canonical :=
  h.frame

theorem State.canonical.replayNext (h : s.canonical) {f u : Nat} : (s.replayNext f u).canonical := by
  unfold State.replayNext
  split
  · exact h
  · exact State.canonical.ite (h.modEngine.endRecovery.ite h.modEngine.hangState) h.hangState

theorem execSuspectReplayStart_canonical (h : s.canonical) {f : FieldId} {u : Fin 32} :
    outCanonical (execSuspectReplayStart f u s) := by
  unfold execSuspectReplayStart
  split
  · exact h
  · dsimp only
    split
    · exact h
    · split
      · exact h.replayNext
      · show State.canonical _
        split
        · exact h.setEngine.setReplay.modSheaf.replayNext
        · exact h.setEngine.setReplay.replayNext

theorem execSuspectCheckpoint_canonical (h : s.canonical) {f : FieldId} {u : Fin 32} :
    outCanonical (execSuspectCheckpoint f u s) := by
  unfold execSuspectCheckpoint
  split
  · exact h
  · split
    · exact h
    · split
      · exact h.addWrap.setReplay.replayNext
      · exact h

theorem execReplayBoundExpire_canonical (h : s.canonical) {f : FieldId} {u : Fin 32} {cycles : Nat} :
    outCanonical (execReplayBoundExpire f u cycles s) := by
  unfold execReplayBoundExpire
  split
  · exact h
  · split
    · exact h
    · dsimp only
      split
      · exact h
      · split
        · exact h
        · refine State.canonical.replayNext ?_
          split
          · exact h.poisonTask.modEngine.setReplay.finishTask.engineClear.addWrap.raise.endSheaf
          · exact h.poisonTask.modEngine.setReplay.finishTask.engineClear.addWrap.raise

theorem State.canonical.declareHang (h : s.canonical) {mode parish field sheaf : Nat} :
    (s.declareHang mode parish field sheaf).canonical :=
  (h.capture (fun _ h1 => h1.setF.setF.setF.setF.setF.wr)).raise.frame

theorem execSheafTimeout_canonical (h : s.canonical) {serial : Nat} :
    outCanonical (execSheafTimeout serial s) := by
  unfold execSheafTimeout
  dsimp only
  split
  · exact h.pruneRecoveries
  · split
    · exact h.pruneRecoveries
    · split
      · exact h.pruneRecoveries.frame
      · exact h.pruneRecoveries.declareHang.frame

theorem execBellIntervalEnd_canonical (h : s.canonical) {f : FieldId} :
    outCanonical (execBellIntervalEnd f s) := by
  unfold execBellIntervalEnd
  dsimp only
  split
  · exact h.pruneRecoveries
  · split
    · exact h.pruneRecoveries
    · exact h.pruneRecoveries.modBell.declareHang.ite h.pruneRecoveries.modBell

theorem State.canonical.recoveryGo (h : s.canonical) : s.recoveryGo.canonical :=
  h.frame

theorem execRecoveryGo_canonical (h : s.canonical) : outCanonical (execRecoveryGo s) :=
  h.recoveryGo

theorem State.canonical.noteUnitFault (h : s.canonical) {f u : Nat} {l : List EngTask} :
    (s.noteUnitFault f u l).canonical := by
  unfold State.noteUnitFault
  refine h.foldl fun _ _ h1 => ?_
  dsimp only
  split
  · exact h1.modSheaf
  · exact h1

theorem State.canonical.engineFault (h : s.canonical) {f u : Nat} : (s.engineFault f u).canonical := by
  unfold State.engineFault
  refine State.canonical.takeDecision ?_
  split
  · exact (State.canonical.foldl (State.canonical.foldl (h.cairnRollback.ite h).noteUnitFault.modEngine fun _ _ h2
      => h2.poisonTask).fresh fun _ _ h2 => h2.finishTask).cancelQueue.engineClear.setReplay.replayNext
  · exact (State.canonical.foldl (State.canonical.foldl (h.cairnRollback.ite h).noteUnitFault.modEngine fun _ _ h2
      => h2.poisonTask).fresh fun _ _ h2 => h2.finishTask).cancelQueue.engineClear

theorem execUnitFault_canonical (h : s.canonical) {f : FieldId} {x : FaultUnit} :
    outCanonical (execUnitFault f x s) := by
  unfold execUnitFault
  split
  · exact h
  · split
    · exact h.crofterReset.takeDecision
    · split
      · exact h
      · split
        · exact h
        · exact h.engineFault

/-! ### The functions of Host -/

theorem State.canonical.modHost (h : s.canonical) {g : HostPort → HostPort} : (s.modHost g).canonical :=
  h.frame

theorem State.canonical.h0Up (h : s.canonical) {up : Bool} : (s.h0Up up).canonical :=
  h.ite (h.setFlag.raise.ite h.setFlag.raise.addSat)

theorem State.canonical.fnReset (h : s.canonical) {fn : Nat} : (s.fnReset fn).canonical :=
  h.modHost.resetPage

theorem State.canonical.parishPages (h : s.canonical) {p : Nat} : (s.parishPages p).canonical :=
  h.resetRegs.wr.setF.frame

theorem State.canonical.vfFlr (h : s.canonical) {p : Nat} : (s.vfFlr p).canonical :=
  State.canonical.foldl (h.foldl fun _ _ h1 =>
    h1.endSheaf).cancelTasks.frame.parishPages.modHost.fnReset fun _ _ h1 => h1.abortSend

theorem State.canonical.pfFlr (h : s.canonical) : s.pfFlr.canonical :=
  (h.foldl fun _ _ h1 => h1.vfFlr).modHost.fnReset

theorem State.canonical.h0Reset (h : s.canonical) : s.h0Reset.canonical :=
  h.pfFlr.modHost.h0Up

theorem execVfFlr_canonical (h : s.canonical) {p : ParishId} : outCanonical (execVfFlr p s) := by
  unfold execVfFlr
  split
  · exact h
  · exact h.vfFlr.modHost

theorem execPfFlr_canonical (h : s.canonical) : outCanonical (execPfFlr s) := by
  unfold execPfFlr
  split
  · exact h
  · exact h.pfFlr.modHost

theorem execFlrComplete_canonical (h : s.canonical) {fn : FnId} : outCanonical (execFlrComplete fn s) :=
  h.modHost

theorem execPerstDeassert_canonical (h : s.canonical) : outCanonical (execPerstDeassert s) :=
  h.frame

theorem execPerstAssert_canonical (h : s.canonical) {hot : Bool} : outCanonical (execPerstAssert hot s) :=
  h.h0Reset.ite h.h0Reset.frame

theorem execH0LinkDown_canonical (h : s.canonical) : outCanonical (execH0LinkDown s) :=
  h.h0Reset

theorem State.canonical.msSince (h : s.canonical) {t : Nat} : (s.msSince t).2.canonical :=
  h.fresh

theorem execH0Ready_canonical (h : s.canonical) {width : Fin 4} {speed : Fin 6} :
    outCanonical (execH0Ready width speed s) := by
  unfold execH0Ready
  dsimp only
  split
  · exact h
  · exact (h.modHost.setF.setF.setFlag.msSince.setF.ite h.modHost.setF.setF.setFlag.msSince).h0Up

theorem State.canonical.msixFlush (h : s.canonical) {p : Nat → Bool} : (s.msixFlush p).canonical :=
  State.canonical.foldl h.modHost fun _ _ h1 => h1.send

theorem State.canonical.cfgWrite (h : s.canonical) {fn : Nat} {r : CfgReg} {v : Nat} :
    (s.cfgWrite fn r v).canonical := by
  unfold State.cfgWrite
  dsimp only
  split
  · exact h.modHost.ite h
  · exact h.modHost.ite h
  · exact h.modHost
  · exact h.modHost.ite h
  · exact h.modHost.ite h
  · exact h.modHost
  · exact h.modHost.msixFlush
  · exact h.ite h.modHost
  · exact h

theorem execH0ConfigRequest_canonical (h : s.canonical) {fn : FnId} {reg : CfgReg} {write : Option (BitVec 32)} :
    outCanonical (execH0ConfigRequest fn reg write s) := by
  unfold execH0ConfigRequest
  split
  · exact h.send
  · split
    · exact h.send
    · split
      · exact h.frame.send
      · exact h.cfgWrite.send

theorem execAtsInvalidateRequest_canonical (h : s.canonical) {fn : FnId} :
    outCanonical (execAtsInvalidateRequest fn s) := by
  unfold execAtsInvalidateRequest
  split
  · exact h.send
  · exact h

theorem execMsixUnmask_canonical (h : s.canonical) {fn : FnId} {entry : Fin 64} {mask : Bool} :
    outCanonical (execMsixUnmask fn entry mask s) := by
  unfold execMsixUnmask
  dsimp only
  split
  · exact h
  · split
    · exact h.modHost
    · exact h.modHost.msixFlush

theorem State.canonical.setDmaQ (h : s.canonical) {fn q : Nat} {x : DmaQ} : (s.setDmaQ fn q x).canonical :=
  h.modHost

theorem State.canonical.modJob (h : s.canonical) {fn q : Nat} {g : DmaJob → DmaJob} :
    (s.modJob fn q g).canonical :=
  h.setDmaQ

theorem State.canonical.dmaDoorbell (h : s.canonical) {fn q v : Nat} : (s.dmaDoorbell fn q v).canonical :=
  h.ite (h.setFlag.ite h.setDmaQ)

theorem State.canonical.dmaDoorbellWrite (h : s.canonical) {fn : FnId} {q v : Nat} :
    (s.dmaDoorbellWrite fn q v).canonical :=
  h.modHost.holdWrite.ite h.modHost.dmaDoorbell

theorem execDmaDoorbell_canonical (h : s.canonical) {fn : FnId} {q : Fin 2} {v : BitVec 16} :
    outCanonical (execDmaDoorbell fn q v s) := by
  unfold execDmaDoorbell
  split
  · exact h
  · exact h.dmaDoorbellWrite

theorem State.canonical.dmaIssue (h : s.canonical) {fn q n : Nat} : (s.dmaIssue fn q n).canonical := by
  induction n generalizing s with
  | zero => exact h
  | succ n ih =>
    unfold State.dmaIssue
    split
    · exact h
    · exact h.ite (ih h.fresh.modHost.modJob.send)

theorem State.canonical.dmaOut (h : s.canonical) {fn q : Nat} {d : List Byte} {l : List (Nat × Nat)} :
    (s.dmaOut fn q d l).canonical := by
  induction l generalizing s with
  | nil => exact h
  | cons x l ih =>
    unfold State.dmaOut
    split
    · next e => exact (h.bulkRead.of_fst e).modJob
    · next e => exact ih (h.bulkRead.of_fst e).send.modJob

theorem State.canonical.dmaStart (h : s.canonical) {fn q : Nat} {d : List Byte} {refused : Bool} :
    (s.dmaStart fn q d refused).canonical :=
  h.setDmaQ.modJob.ite (h.setDmaQ.modJob.ite (h.setDmaQ.dmaOut.ite h.setDmaQ.dmaIssue))

theorem execDmaDescFetch_canonical (h : s.canonical) {fn : FnId} {q : Fin 2} {a : HostAnswer} {refused : Bool} :
    outCanonical (execDmaDescFetch fn q a refused s) := by
  unfold execDmaDescFetch
  split
  · exact h
  · dsimp only
    split
    · split
      · trivial
      · exact h.send.dmaStart
    · exact h.send.setFlag

theorem execDmaDescComplete_canonical (h : s.canonical) {fn : FnId} {q : Fin 2} :
    outCanonical (execDmaDescComplete fn q s) := by
  unfold execDmaDescComplete
  split
  · exact h
  · split
    · exact h
    · exact ((h.send.tallyBump.ite h.send).sendMsix.ite (h.send.tallyBump.ite h.send)).setDmaQ.setF.addWrap.ite
        ((h.send.tallyBump.ite h.send).sendMsix.ite (h.send.tallyBump.ite h.send)).setDmaQ.setF.addWrap.setFlag

theorem execHostCompletionArrive_canonical (h : s.canonical) {tag : BitVec 10} {a : HostAnswer} :
    outCanonical (execHostCompletionArrive tag a s) := by
  unfold execHostCompletionArrive
  split
  · exact h
  · dsimp only
    split
    · exact h.modHost
    · split
      · trivial
      · split
        · next e2 => exact (h.modHost.bulkWrite.of_fst e2).modJob
        · next e2 => exact (h.modHost.bulkWrite.of_fst e2).modJob.dmaIssue
    · exact h.modHost.modJob
    · exact h.modHost.modJob
    · exact h.modHost.modJob

theorem execHostCompletionTimeout_canonical (h : s.canonical) {tag : BitVec 10} :
    outCanonical (execHostCompletionTimeout tag s) := by
  unfold execHostCompletionTimeout
  split
  · exact h
  · split
    · exact h
    · exact h.modHost.modJob

theorem State.canonical.abandonTags (h : s.canonical) {fn : Nat} : (s.abandonTags fn).canonical :=
  State.canonical.foldl h.modHost fun _ _ h1 => h1.modJob

theorem execTagDrainExpire_canonical (h : s.canonical) {fn : FnId} :
    outCanonical (execTagDrainExpire fn s) := by
  unfold execTagDrainExpire
  split
  · exact h.abandonTags
  · exact h

theorem execBarReadDeadline_canonical (h : s.canonical) {id : Nat} :
    outCanonical (execBarReadDeadline id s) := by
  unfold execBarReadDeadline
  split
  · exact h
  · split
    · exact h
    · exact h.winErr.modHost.send

/-! ### The functions of Power -/

theorem State.canonical.modPower (h : s.canonical) {g : Power → Power} : (s.modPower g).canonical :=
  h.frame

theorem State.canonical.pwrErr (h : s.canonical) : s.pwrErr.canonical :=
  h.setFlag.raise

theorem State.canonical.waferFault (h : s.canonical) {cause : Nat} : (s.waferFault cause).canonical :=
  h.ite h.frame.setF.setFlag.setF

theorem State.canonical.shiftTimes (h : s.canonical) {d : Nat} : (s.shiftTimes d).canonical :=
  h.frame

theorem State.canonical.stackFollow (h : s.canonical) {f : Nat} : (s.stackFollow f).canonical :=
  h.setF.ite h

theorem State.canonical.stacksFollow (h : s.canonical) : s.stacksFollow.canonical :=
  h.foldl fun _ _ h1 => h1.stackFollow

theorem State.canonical.fldErr (h : s.canonical) {f : Nat} : (s.fldErr f).canonical :=
  h.setFlag.raise

theorem State.canonical.setFieldPower (h : s.canonical) {f st : Nat} : (s.setFieldPower f st).canonical :=
  h.setF.stackFollow

theorem State.canonical.fieldTarget (h : s.canonical) {f target : Nat} : (s.fieldTarget f target).canonical :=
  h.setF.fldErr.ite (h.setF.setFlag.modPower.setFieldPower.ite h.setF.setFlag.modPower)

theorem execFldTargetOn_canonical (h : s.canonical) {f : FieldId} : outCanonical (execFldTargetOn f s) :=
  h.fieldTarget

theorem execFldTargetIdle_canonical (h : s.canonical) {f : FieldId} : outCanonical (execFldTargetIdle f s) :=
  h.fieldTarget

theorem execFldTargetRetain_canonical (h : s.canonical) {f : FieldId} :
    outCanonical (execFldTargetRetain f s) :=
  h.fieldTarget

theorem execFldTargetOff_canonical (h : s.canonical) {f : FieldId} : outCanonical (execFldTargetOff f s) :=
  h.fieldTarget

theorem State.canonical.wakeField (h : s.canonical) {f : Nat} : (s.wakeField f).canonical :=
  h.fieldReset.fieldResetEnd

theorem State.canonical.fieldDone (h : s.canonical) {f : Nat} : (s.fieldDone f).canonical := by
  unfold State.fieldDone
  split
  · exact h
  · exact (h.setFlag.modPower.wakeField.ite h.setFlag.modPower).setFieldPower.raise

theorem State.canonical.setNominal (h : s.canonical) {p : Nat} : (s.setNominal p).canonical :=
  h.foldl fun _ _ h1 => h1.setF

theorem State.canonical.pStart (h : s.canonical) : s.pStart.canonical :=
  h.ite (h.setFlag.modPower.setNominal.ite h.setFlag.modPower)

theorem State.canonical.pstateWrite (h : s.canonical) {v : Nat} : (s.pstateWrite v).canonical :=
  h.ite (h.ite (h.setF.modPower.ite (h.setF.setF.modPower.ite (State.canonical.ite (h.setF.ite
    (h.setF.modPower.setNominal.ite h.setF.modPower.setNominal)) h.setF.pStart))))

theorem execPstateWrite_canonical (h : s.canonical) {v : BitVec 3} : outCanonical (execPstateWrite v s) :=
  h.pstateWrite

theorem State.canonical.drowsyFields (h : s.canonical) : s.drowsyFields.canonical :=
  h.foldl fun _ _ h1 => h1.setFieldPower.ite h1

theorem State.canonical.saveFields (h : s.canonical) : s.saveFields.canonical :=
  h.modPower

theorem State.canonical.restoreFields (h : s.canonical) : s.restoreFields.canonical :=
  h.foldl fun _ _ h1 => h1.setFieldPower.ite h1

theorem State.canonical.modArrive (h : s.canonical) {target : Nat} : (s.modArrive target).canonical :=
  State.canonical.ite (((((State.canonical.foldl h.setF.modPower fun _ _ h1 =>
    h1.wakeField.ite h1).foldl fun _ _ h1 => h1.enterState).wr.runDeferred.ite h.setF.modPower).restoreFields.ite
    ((((State.canonical.foldl h.setF.modPower fun _ _ h1 => h1.wakeField.ite h1).foldl fun _ _
    h1 => h1.enterState).wr.runDeferred.ite h.setF.modPower).restoreFields.drowsyFields.ite
    (((State.canonical.foldl h.setF.modPower fun _ _ h1 => h1.wakeField.ite h1).foldl fun _ _ h1
    => h1.enterState).wr.runDeferred.ite h.setF.modPower))).stacksFollow.raise.setNominal.modPower.ite
    ((((State.canonical.foldl h.setF.modPower fun _ _ h1 => h1.wakeField.ite h1).foldl fun _ _
    h1 => h1.enterState).wr.runDeferred.ite h.setF.modPower).restoreFields.ite (((State.canonical.foldl
    (State.canonical.foldl h.setF.modPower fun _ _ h1 => h1.wakeField.ite h1) fun _ _ h1 =>
    h1.enterState).wr.runDeferred.ite h.setF.modPower).restoreFields.drowsyFields.ite ((State.canonical.foldl
    (State.canonical.foldl h.setF.modPower fun _ _ h1 => h1.wakeField.ite h1) fun _ _ h1 =>
    h1.enterState).wr.runDeferred.ite h.setF.modPower))).stacksFollow.raise.modPower.pStart)
    ((((State.canonical.foldl h.setF.modPower fun _ _ h1 => h1.wakeField.ite h1).foldl fun _ _
    h1 => h1.enterState).wr.runDeferred.ite h.setF.modPower).restoreFields.ite (((State.canonical.foldl
    (State.canonical.foldl h.setF.modPower fun _ _ h1 => h1.wakeField.ite h1) fun _ _ h1 =>
    h1.enterState).wr.runDeferred.ite h.setF.modPower).restoreFields.drowsyFields.ite ((State.canonical.foldl
    (State.canonical.foldl h.setF.modPower fun _ _ h1 => h1.wakeField.ite h1) fun _ _ h1 =>
    h1.enterState).wr.runDeferred.ite h.setF.modPower))).stacksFollow.raise

theorem State.canonical.sleepNow (h : s.canonical) : s.sleepNow.canonical :=
  ((State.canonical.foldl (State.canonical.foldl h.modPower fun _ _ h1 => h1.setF.ite h1)
    fun _ _ h1 => h1.linkDown).foldl fun _ _ h1 => h1.enterState).h0Reset.s0Down.stacksFollow

theorem State.canonical.modCommandNow (h : s.canonical) {target src : Nat} :
    (s.modCommandNow target src).canonical := by
  unfold State.modCommandNow
  refine h.setF.pwrErr.ite ?_
  split
  · exact h.setF.saveFields.setF.modPower
  · exact h.setF.setF.modPower
  · exact h.setF.setF.modPower.sleepNow.ite h.setF.pwrErr
  · exact h.setF.setF.modPower
  · exact h.setF.setF.modPower
  · exact h.setF.pwrErr

theorem State.canonical.modCommand (h : s.canonical) {target src : Nat} : (s.modCommand target src).canonical :=
  h.setF.modPower.ite h.setF.modCommandNow

theorem execModTargetActive_canonical (h : s.canonical) {src : Fin 3} :
    outCanonical (execModTargetActive src s) :=
  h.modCommand

theorem execModTargetDrowsy_canonical (h : s.canonical) {src : Fin 3} :
    outCanonical (execModTargetDrowsy src s) :=
  h.modCommand

theorem execModTargetStandby_canonical (h : s.canonical) {src : Fin 3} :
    outCanonical (execModTargetStandby src s) :=
  h.modCommand

theorem execDrowsyDrainDone_canonical (h : s.canonical) : outCanonical (execDrowsyDrainDone s) := by
  unfold execDrowsyDrainDone
  split
  · exact h.modArrive
  · exact h

theorem execDrainMsExpire_canonical (h : s.canonical) : outCanonical (execDrainMsExpire s) := by
  unfold execDrainMsExpire
  dsimp only
  split
  · exact h.setF.modPower.pwrErr
  · exact h

theorem execWakeEdge_canonical (h : s.canonical) {n : Fin 8} {rising : Bool} :
    outCanonical (execWakeEdge n rising s) := by
  unfold execWakeEdge
  split
  · exact h.raise.modCommand
  · exact h

theorem State.canonical.addAccount (h : s.canonical) {a e : Nat} : (s.addAccount a e).canonical :=
  h.modPower

theorem State.canonical.charge (h : s.canonical) {c : Charge} : (s.charge c).canonical := by
  unfold State.charge
  dsimp only
  split
  · exact (h.addAccount.addAccount.addAccount.ite h.addAccount.addAccount).modSheaf
  · exact h.addAccount.addAccount.addAccount.ite h.addAccount.addAccount

theorem State.canonical.showAccounts (h : s.canonical) : s.showAccounts.canonical :=
  (State.canonical.foldl h.wr.wr.wr fun _ _ h1 => h1.wr).foldl fun _ _ h1 => h1.wr

theorem State.canonical.noteUnmet (h : s.canonical) {key : Nat} {bad : Bool} :
    (s.noteUnmet key bad).canonical :=
  h.modPower.raise.ite h.modPower

theorem State.canonical.waferGate (h : s.canonical) {e : Nat} : (s.waferGate e).canonical :=
  h.setF.noteUnmet

theorem State.canonical.parishGate (h : s.canonical) {p e : Nat} : (s.parishGate p e).canonical :=
  h.setF.noteUnmet

theorem State.canonical.fieldGates (h : s.canonical) : s.fieldGates.canonical :=
  h.foldl fun _ _ h1 => h1.setF

theorem execEstimatorInterval_canonical (h : s.canonical) {acts : List Activity} :
    outCanonical (execEstimatorInterval acts s) := by
  unfold execEstimatorInterval
  split
  · exact h
  · exact (State.canonical.foldl (State.canonical.foldl (State.canonical.foldl h.fresh fun _ _ h1 =>
      h1.charge).showAccounts fun _ _ h1 => h1.setF.setF.ite h1).setF.setF.modPower.waferGate fun _ _ h1 =>
      h1.parishGate).fieldGates.modPower

theorem execCalibrationPeriod_canonical (h : s.canonical) {watts : BitVec 16} :
    outCanonical (execCalibrationPeriod watts s) := by
  unfold execCalibrationPeriod
  split
  · exact h
  · split
    · exact h.modPower
    · exact (State.canonical.foldl h.fresh fun _ _ h1 => h1.ite (h1.setF.setF.ite h1.raise)).setFlag.setF.addWrap

theorem execDroopDetect_canonical (h : s.canonical) {f : FieldId} : outCanonical (execDroopDetect f s) := by
  unfold execDroopDetect
  split
  · exact h
  · exact h.setFlag.addSat.modPower

theorem execDroopRelease_canonical (h : s.canonical) {f : FieldId} {cycles : Nat} :
    outCanonical (execDroopRelease f cycles s) := by
  unfold execDroopRelease
  split
  · exact h
  · exact h.setFlag.addWrap

theorem execDroopWindowExpire_canonical (h : s.canonical) {f : FieldId} {cycles : Nat} :
    outCanonical (execDroopWindowExpire f cycles s) := by
  unfold execDroopWindowExpire
  split
  · exact h.raise
  · exact h

theorem execThermWarnCross_canonical (h : s.canonical) {f : FieldId} {celsius : BitVec 8} :
    outCanonical (execThermWarnCross f celsius s) := by
  unfold execThermWarnCross
  split
  · exact h.raise
  · exact h

theorem State.canonical.bistStop (h : s.canonical) : s.bistStop.canonical :=
  h.setF.ite (h.setF.setF.setF.ite h)

theorem execThermalTrip_canonical (h : s.canonical) {kind : Fin 3} {field : BitVec 7} :
    outCanonical (execThermalTrip kind field s) := by
  unfold execThermalTrip
  split
  · exact h
  · dsimp only
    split
    · exact h.setFlag.setF.setF.waferFault
    · exact h.setFlag.setF.setF.setFlag.modPower.bistStop.raise

theorem State.canonical.endHalt (h : s.canonical) : s.endHalt.canonical :=
  h.ite (h.setFlag.setFlag.shiftTimes.ite h.setFlag.setFlag.shiftTimes.releaseDoorbells.startWaiting)

theorem State.canonical.thermResume (h : s.canonical) {cool : Bool} : (s.thermResume cool).canonical :=
  h.ite (h.endHalt.ite h.setFlag.raise)

theorem execThermResume_canonical (h : s.canonical) {cool : Bool} : outCanonical (execThermResume cool s) :=
  h.thermResume

/-! ### The functions of Hearth -/

theorem State.canonical.modHearth (h : s.canonical) {g : Hearth → Hearth} : (s.modHearth g).canonical :=
  h.frame

theorem State.canonical.storedTargets (h : s.canonical) : s.storedTargets.canonical :=
  h.foldl fun _ _ h1 => h1.setF.ite h1

theorem State.canonical.powerLost (h : s.canonical) : s.powerLost.canonical := by
  refine State.canonical.storedTargets (State.canonical.setFlag (State.canonical.setFlag ?_))
  exact ⟨State.mem_wf_reset, mapWf_filter _ h.2⟩

theorem State.canonical.draftRecord (h : s.canonical) {cause : Nat} : (s.draftRecord cause).2.canonical :=
  h.fresh

theorem State.canonical.saveTrigger (h : s.canonical) {cause : Nat} : (s.saveTrigger cause).canonical := by
  unfold State.saveTrigger
  dsimp only
  split
  · exact h.modHearth
  · exact h.ite (h.powerLost.ite h.draftRecord.powerLost.modHearth)

theorem execPwrFailAssert_canonical (h : s.canonical) : outCanonical (execPwrFailAssert s) := by
  unfold execPwrFailAssert
  split
  · exact h
  · exact h.saveTrigger

theorem execVinSagDetect_canonical (h : s.canonical) : outCanonical (execVinSagDetect s) :=
  h.saveTrigger

theorem execPwrFailGlitch_canonical (h : s.canonical) : outCanonical (execPwrFailGlitch s) :=
  h.addSat.ite h

theorem State.canonical.noteFreeze (h : s.canonical) {source : Nat} : (s.noteFreeze source).canonical :=
  h.modHearth

theorem execReeveSectionHandover_canonical (h : s.canonical) {bytes : Fin 8193} :
    outCanonical (execReeveSectionHandover bytes s) := by
  unfold execReeveSectionHandover
  split
  · exact h
  · split
    · exact h
    · exact h.modHearth

theorem execReeveHandoverTimeout_canonical (h : s.canonical) : outCanonical (execReeveHandoverTimeout s) := by
  unfold execReeveHandoverTimeout
  split
  · exact h
  · split
    · exact h
    · exact h.modHearth

theorem State.canonical.endSave (h : s.canonical) {x : Save} {committed : Bool} :
    (s.endSave x committed).canonical :=
  h.modHearth.setF.frame

theorem execRecordCommit_canonical (h : s.canonical) : outCanonical (execRecordCommit s) := by
  unfold execRecordCommit
  split
  · exact h
  · split
    · exact h.endSave
    · exact h

theorem execHoldupExhausted_canonical (h : s.canonical) : outCanonical (execHoldupExhausted s) := by
  unfold execHoldupExhausted
  split
  · exact h
  · exact h.endSave

theorem execVinQualified_canonical (h : s.canonical) {low : Bool} : outCanonical (execVinQualified low s) := by
  unfold execVinQualified
  split
  · exact h
  · split
    · exact h
    · exact h.modHearth

theorem State.canonical.modOffNow (h : s.canonical) {src : Nat} : (s.modOffNow src).canonical :=
  h.ite (h.setF.pwrErr.ite h.setF.saveTrigger)

theorem State.canonical.modAnyNow (h : s.canonical) {target src : Nat} : (s.modAnyNow target src).canonical :=
  h.modOffNow.ite h.modCommandNow

theorem State.canonical.modAny (h : s.canonical) {target src : Nat} : (s.modAny target src).canonical :=
  h.modCommand.ite (h.ite (h.setF.modPower.ite h.setF.modOffNow))

theorem execModTargetOff_canonical (h : s.canonical) {src : Fin 3} : outCanonical (execModTargetOff src s) :=
  h.modAny

theorem State.canonical.pSettle (h : s.canonical) : s.pSettle.canonical :=
  h.ite (h.setFlag.pStart.ite (State.canonical.foldl h.setFlag.modPower fun _ _ h1 => h1.modAnyNow))

theorem execPstateClockSwitch_canonical (h : s.canonical) : outCanonical (execPstateClockSwitch s) := by
  unfold execPstateClockSwitch
  split
  · exact h
  · exact h.setF.setNominal.modPower.raise.pSettle

theorem execPstateRailSettled_canonical (h : s.canonical) : outCanonical (execPstateRailSettled s) := by
  unfold execPstateRailSettled
  split
  · exact h
  · exact h.modPower.pSettle

/-! ### The functions of Reeve -/

theorem State.canonical.modReeve (h : s.canonical) {g : Reeve → Reeve} : (s.modReeve g).canonical :=
  h.frame

theorem State.canonical.freeData (h : s.canonical) : s.freeData.2.canonical :=
  h.fresh

theorem State.canonical.mbxPost (h : s.canonical) {src : MbxSource} {result : Nat} {data : List Byte} :
    (s.mbxPost src result data).canonical :=
  h.setF.setF.setFlag.addWrap.modReeve.raise.ite h.send

theorem State.canonical.mbxEnd (h : s.canonical) {src : MbxSource} {result : Nat} :
    (s.mbxEnd src result).canonical :=
  h.mbxPost

theorem State.canonical.mailbox (h : s.canonical) {src : MbxSource} {code : Nat} {allowed : List MbxSource}
    {run : State → State} (hrun : ∀ x0, x0.canonical → (run x0).canonical) :
    (s.mailbox src code allowed run).canonical :=
  h.ite (State.canonical.ite (h.raise.ite (h.setFlag.modReeve.ite (h.setFlag.modReeve.mbxEnd.ite
    (h.setFlag.modReeve.mbxEnd.ite (hrun _ h.setFlag.modReeve))))) (h.ite (h.mbxEnd.ite (h.mbxEnd.ite (hrun _
    h)))))

theorem State.canonical.drbgRequest (h : s.canonical) : s.drbgRequest.canonical :=
  h.modReeve

theorem State.canonical.drbgSeed (h : s.canonical) : s.drbgSeed.canonical :=
  h.modReeve

theorem State.canonical.rngNext (h : s.canonical) : s.rngNext.canonical :=
  h.fresh.drbgRequest.wr.setFlag.ite h.fresh.wr.setFlag.setFlag

theorem State.canonical.deriveKey (h : s.canonical) {p : Nat} : (s.deriveKey p).canonical :=
  h.drbgSeed.drbgRequest.setFlag

theorem execEntropyStartupDone_canonical (h : s.canonical) : outCanonical (execEntropyStartupDone s) := by
  unfold execEntropyStartupDone
  dsimp only
  split
  · exact h
  · exact ((h.setF.drbgSeed.rngNext.setFlag.setF.ite h.setF.drbgSeed.rngNext).foldl fun _ _ h1 =>
      h1.deriveKey.ite h1).granRefresh

theorem execEntropyHealthFail_canonical (h : s.canonical) : outCanonical (execEntropyHealthFail s) := by
  unfold execEntropyHealthFail
  dsimp only
  split
  · exact h
  · refine State.canonical.granRefresh (State.canonical.rngNext ?_)
    split
    · exact h.addSat
    · exact h.addSat.setF.setF
    · exact h.addSat.setF.ite h.addSat.setF
    · exact h.addSat

theorem execDrbgReseed_canonical (h : s.canonical) : outCanonical (execDrbgReseed s) := by
  unfold execDrbgReseed
  split
  · exact h.drbgSeed
  · exact h

theorem State.canonical.rngRead (h : s.canonical) : s.rngRead.2.canonical :=
  h.rngNext

theorem execRngDataRead_canonical (h : s.canonical) : outCanonical (execRngDataRead s) :=
  h.rngRead.send

theorem State.canonical.checkSigned (h : s.canonical) {src : MbxSource} {x : Signed} :
    (s.checkSigned src x).2.canonical := by
  unfold State.checkSigned
  dsimp only
  split
  · exact h.modReeve
  · split <;> exact h.modReeve

theorem execReeveGetStatus_canonical (h : s.canonical) {src : MbxSource} :
    outCanonical (execReeveGetStatus src s) :=
  h.mailbox (fun _ h1 => h1.freeData.mbxPost)

theorem execReeveGetNonce_canonical (h : s.canonical) {src : MbxSource} :
    outCanonical (execReeveGetNonce src s) :=
  h.mailbox (fun _ h1 => h1.mbxEnd.ite h1.drbgRequest.fresh.modReeve.mbxPost)

theorem execNonceExpire_canonical (h : s.canonical) : outCanonical (execNonceExpire s) :=
  h.modReeve

theorem State.canonical.showScrubs (h : s.canonical) {l : List Nat} : (s.showScrubs l).canonical :=
  h.foldl fun _ _ h1 => h1.setFlag

theorem State.canonical.scrubFinish {dev : DeviceAccess} (hdev : dev.keeps) (h : s.canonical) {x : Scrub} :
    (State.scrubFinish dev s x).canonical :=
  ((((h.foldl fun _ _ h1 => h1.setOwner.ite h1).wr.wr.modReeve.ite ((h.foldl fun
    _ _ h1 => h1.setOwner.ite h1).wr.setF.setFlag.setFlag.modReeve.ite ((h.foldl fun _ _ h1 =>
    h1.setOwner.ite h1).wr.setF.setFlag.setFlag.modReeve.deriveKey.ite (h.foldl fun _ _ h1 =>
    h1.setOwner.ite
    h1).wr.setF.setFlag.setFlag.modReeve.setFlag))).modReeve.setF.showScrubs.modHost.granRefresh.releaseHeld
    hdev).dmaIssue.dmaIssue.takeEffect.ite (((h.foldl fun _ _ h1 => h1.setOwner.ite
    h1).wr.wr.modReeve.ite ((h.foldl fun _ _ h1 => h1.setOwner.ite
    h1).wr.setF.setFlag.setFlag.modReeve.ite ((h.foldl fun _ _ h1 => h1.setOwner.ite
    h1).wr.setF.setFlag.setFlag.modReeve.deriveKey.ite (h.foldl fun _ _ h1 => h1.setOwner.ite
    h1).wr.setF.setFlag.setFlag.modReeve.setFlag))).modReeve.setF.showScrubs.modHost.granRefresh.releaseHeld
    hdev).dmaIssue.dmaIssue).mbxPost.ite (((((h.foldl fun _ _ h1 => h1.setOwner.ite
    h1).wr.wr.modReeve.ite ((h.foldl fun _ _ h1 => h1.setOwner.ite
    h1).wr.setF.setFlag.setFlag.modReeve.ite ((h.foldl fun _ _ h1 => h1.setOwner.ite
    h1).wr.setF.setFlag.setFlag.modReeve.deriveKey.ite (h.foldl fun _ _ h1 => h1.setOwner.ite
    h1).wr.setF.setFlag.setFlag.modReeve.setFlag))).modReeve.setF.showScrubs.modHost.granRefresh.releaseHeld
    hdev).dmaIssue.dmaIssue.takeEffect.ite (((h.foldl fun _ _ h1 => h1.setOwner.ite
    h1).wr.wr.modReeve.ite ((h.foldl fun _ _ h1 => h1.setOwner.ite
    h1).wr.setF.setFlag.setFlag.modReeve.ite ((h.foldl fun _ _ h1 => h1.setOwner.ite
    h1).wr.setF.setFlag.setFlag.modReeve.deriveKey.ite (h.foldl fun _ _ h1 => h1.setOwner.ite
    h1).wr.setF.setFlag.setFlag.modReeve.setFlag))).modReeve.setF.showScrubs.modHost.granRefresh.releaseHeld
    hdev).dmaIssue.dmaIssue).mbxEnd.ite ((((h.foldl fun _ _ h1 => h1.setOwner.ite
    h1).wr.wr.modReeve.ite ((h.foldl fun _ _ h1 => h1.setOwner.ite
    h1).wr.setF.setFlag.setFlag.modReeve.ite ((h.foldl fun _ _ h1 => h1.setOwner.ite
    h1).wr.setF.setFlag.setFlag.modReeve.deriveKey.ite (h.foldl fun _ _ h1 => h1.setOwner.ite
    h1).wr.setF.setFlag.setFlag.modReeve.setFlag))).modReeve.setF.showScrubs.modHost.granRefresh.releaseHeld
    hdev).dmaIssue.dmaIssue.takeEffect.ite (((h.foldl fun _ _ h1 => h1.setOwner.ite
    h1).wr.wr.modReeve.ite ((h.foldl fun _ _ h1 => h1.setOwner.ite
    h1).wr.setF.setFlag.setFlag.modReeve.ite ((h.foldl fun _ _ h1 => h1.setOwner.ite
    h1).wr.setF.setFlag.setFlag.modReeve.deriveKey.ite (h.foldl fun _ _ h1 => h1.setOwner.ite
    h1).wr.setF.setFlag.setFlag.modReeve.setFlag))).modReeve.setF.showScrubs.modHost.granRefresh.releaseHeld
    hdev).dmaIssue.dmaIssue).mbxEnd)

theorem State.canonical.settleScrubs {dev : DeviceAccess} (hdev : dev.keeps) (h : s.canonical) :
    (State.settleScrubs dev s).canonical :=
  State.canonical.foldl h.modReeve.showScrubs fun _ _ h1 => h1.scrubFinish hdev

theorem State.canonical.scrubStart {dev : DeviceAccess} (hdev : dev.keeps) (h : s.canonical) {x : Scrub} :
    (State.scrubStart dev s x).canonical :=
  State.canonical.ite (h.setFlag.modReeve.scrubFinish hdev) h.setFlag.modReeve.setF.showScrubs.modHost

theorem State.canonical.tenantBind {dev : DeviceAccess} (hdev : dev.keeps) (h : s.canonical) {p tag epoch : Nat}
    {physical : Bool} {digest : Option (List Byte)} :
    (State.tenantBind dev s p tag epoch physical digest).canonical :=
  h.mbxEnd.ite (h.mbxEnd.ite (h.mbxEnd.ite (h.mbxEnd.ite (h.mbxEnd.ite (h.scrubStart hdev)))))

theorem State.canonical.tenantRelease {dev : DeviceAccess} (hdev : dev.keeps) (h : s.canonical) {p : Nat}
    {physical : Bool} : (State.tenantRelease dev s p physical).canonical :=
  h.mbxEnd.ite (h.scrubStart hdev)

theorem execTenantBind_canonical (h : s.canonical) {src : MbxSource} {p : ParishId} {tag : Word}
    {epoch : BitVec 32} {physical : Bool} {digest : Option (List Byte)} :
    outCanonical (execTenantBind src p tag epoch physical digest s) :=
  h.mailbox (fun _ h1 => h1.tenantBind noDevice_keeps)

theorem execTenantRelease_canonical (h : s.canonical) {src : MbxSource} {p : ParishId} {physical : Bool} :
    outCanonical (execTenantRelease src p physical s) :=
  h.mailbox (fun _ h1 => h1.tenantRelease noDevice_keeps)

theorem State.canonical.setScrubField (h : s.canonical) {p : Nat} {y : ScrubField} :
    (s.setScrubField p y).canonical :=
  h.modReeve

theorem State.canonical.fieldWipe (h : s.canonical) {f : Nat} : (s.fieldWipe f).canonical := by
  unfold State.fieldWipe
  extract_lets here waits s1 s2 s3 _ _ s4
  have h1 : s1.canonical := by
    refine h.dropWaiters.foldl fun t w h1 => ?_
    split
    · exact h1.answerWait
    · exact h1
  have h3 : s3.canonical := h1.endFills.clearSieve.clearSieve.modCairn.cairnClear
  have h4 : s4.canonical := h3.withMem (Memory.wf_zeroRange _ _ h3.mem)
  exact h4.resetRegs

theorem State.canonical.scrubRange (h : s.canonical) {x : Scrub} {y : ScrubField} :
    (s.scrubRange x y).canonical := by
  unfold State.scrubRange
  split
  · exact h
  · exact h.setF.setF.setScrubField.scrubGo

theorem State.canonical.scrubFailed (h : s.canonical) {x : Scrub} {y : ScrubField} :
    (s.scrubFailed x y).canonical :=
  h.setScrubField.setFlag.ite h.setScrubField

theorem State.canonical.fieldClearDone {dev : DeviceAccess} (hdev : dev.keeps) (h : s.canonical) {f : Nat}
    {zeroOk : Bool} : (State.fieldClearDone dev s f zeroOk).canonical := by
  unfold State.fieldClearDone
  dsimp only
  split
  · exact h.settleScrubs hdev
  · exact State.canonical.ite (h.settleScrubs hdev) (((h.settleScrubs hdev).fieldWipe.ite (h.settleScrubs
      hdev)).scrubRange.ite (((h.settleScrubs hdev).fieldWipe.ite (h.settleScrubs hdev)).scrubFailed.settleScrubs
      hdev))

theorem State.canonical.scrubDone {dev : DeviceAccess} (hdev : dev.keeps) (h : s.canonical) {f : Nat}
    {verified : Bool} : (State.scrubDone dev s f verified).canonical := by
  unfold State.scrubDone
  dsimp only
  split
  · exact h.scrubEnd.settleScrubs hdev
  · exact State.canonical.ite (h.scrubEnd.settleScrubs hdev) (State.canonical.ite ((h.scrubEnd.settleScrubs
      hdev).scrubFailed.settleScrubs hdev) ((h.scrubEnd.settleScrubs hdev).scrubRange.ite (State.canonical.ite
      ((h.scrubEnd.settleScrubs hdev).scrubFailed.settleScrubs hdev) ((h.scrubEnd.settleScrubs
      hdev).setScrubField.settleScrubs hdev))))

theorem execReeveWatchdogRestart_canonical (h : s.canonical) : outCanonical (execReeveWatchdogRestart s) := by
  unfold execReeveWatchdogRestart
  split
  · exact h
  · exact h.modReeve

theorem execAssayGrant_canonical (h : s.canonical) {src : MbxSource} {p : ParishId} {sg : Signed} :
    outCanonical (execAssayGrant src p sg s) :=
  h.mailbox (fun _ h1 => h1.checkSigned.mbxEnd.ite (h1.checkSigned.mbxEnd.ite h1.checkSigned.setFlag.mbxEnd))

theorem execAssayRevoke_canonical (h : s.canonical) {src : MbxSource} {p : ParishId} :
    outCanonical (execAssayRevoke src p s) :=
  h.mailbox (fun _ h1 => h1.setFlag.mbxEnd)

theorem execFwStage_canonical (h : s.canonical) {src : MbxSource} {cls : Fin 5} {version : BitVec 5}
    {imageOk : Bool} {sg : Signed} : outCanonical (execFwStage src cls version imageOk sg s) :=
  h.mailbox (fun _ h1 => h1.checkSigned.mbxEnd.ite (h1.checkSigned.mbxEnd.ite (h1.checkSigned.mbxEnd.ite
    (h1.checkSigned.mbxEnd.ite h1.checkSigned.modReeve.setFlag.mbxEnd))))

theorem execFwActivate_canonical (h : s.canonical) {src : MbxSource} : outCanonical (execFwActivate src s) :=
  h.mailbox (fun _ h1 => h1.modReeve.setFlag.mbxEnd.ite (h1.modReeve.mbxEnd.ite h1.mbxEnd))

theorem State.canonical.destroyKeys (h : s.canonical) : s.destroyKeys.canonical :=
  (h.foldl fun _ _ h1 => h1.parishDisable.wr.wr).modReeve.granRefresh

theorem State.canonical.lifecycleEnter (h : s.canonical) {src dst : Nat} {ownerKey : List Byte} :
    (s.lifecycleEnter src dst ownerKey).canonical :=
  (h.setF.setF.ite h.setF).modReeve.ite (State.canonical.ite (State.canonical.foldl h.setF.destroyKeys.modReeve
    fun _ _ h1 => h1.setF.setF.scrubGo) ((State.canonical.foldl h.setF.destroyKeys.modReeve fun _ _ h1 =>
    h1.setF).frame.ite h.setF))

theorem execLifecycle_canonical (h : s.canonical) {src : MbxSource} {target : Fin 6} {who : Signer}
    {ownerKey : List Byte} {sg : Signed} : outCanonical (execLifecycle src target who ownerKey sg s) :=
  h.mailbox (fun _ h1 => h1.checkSigned.mbxEnd.ite (h1.checkSigned.mbxEnd.ite (h1.checkSigned.mbxEnd.ite
    (h1.checkSigned.mbxEnd.ite h1.checkSigned.lifecycleEnter.mbxEnd))))

theorem execDebugUnlock_canonical (h : s.canonical) {src : MbxSource} {sg : Signed} :
    outCanonical (execDebugUnlock src sg s) :=
  h.mailbox (fun _ h1 => h1.checkSigned.mbxEnd.ite (h1.checkSigned.mbxEnd.ite (h1.checkSigned.mbxEnd.ite
    (h1.checkSigned.mbxEnd.ite h1.checkSigned.setFlag.mbxEnd))))

theorem execReturnToService_canonical (h : s.canonical) {src : MbxSource} {sg : Signed} :
    outCanonical (execReturnToService src sg s) :=
  h.mailbox (fun _ h1 => h1.checkSigned.mbxEnd.ite h1.checkSigned.modReeve.mbxEnd)

theorem State.canonical.spdmAnswer (h : s.canonical) {src : MbxSource} {kind : Nat} {fields : List Nat} :
    (s.spdmAnswer src kind fields).canonical :=
  h.freeData.send.mbxPost

theorem State.canonical.spdm (h : s.canonical) {src : MbxSource} {kind : Nat} {fields : State → List Nat} :
    (s.spdm src kind fields).canonical :=
  h.mailbox (fun _ h1 => h1.spdmAnswer)

theorem execSpdmGetVersion_canonical (h : s.canonical) {src : MbxSource} :
    outCanonical (execSpdmGetVersion src s) :=
  h.spdm

theorem execSpdmGetCapabilities_canonical (h : s.canonical) {src : MbxSource} :
    outCanonical (execSpdmGetCapabilities src s) :=
  h.spdm

theorem execSpdmNegotiateAlgorithms_canonical (h : s.canonical) {src : MbxSource} {asym hash : BitVec 32} :
    outCanonical (execSpdmNegotiateAlgorithms src asym hash s) :=
  h.spdm

theorem execSpdmGetDigests_canonical (h : s.canonical) {src : MbxSource} :
    outCanonical (execSpdmGetDigests src s) :=
  h.spdm

theorem execSpdmGetCertificate_canonical (h : s.canonical) {src : MbxSource} {slot : Fin 8}
    {offset length : BitVec 16} : outCanonical (execSpdmGetCertificate src slot offset length s) :=
  h.mailbox (fun _ h1 => h1.spdmAnswer.ite h1.spdmAnswer)

theorem execSpdmChallenge_canonical (h : s.canonical) {src : MbxSource} {slot : Fin 8} {nonce : BitVec 256} :
    outCanonical (execSpdmChallenge src slot nonce s) :=
  h.mailbox (fun _ h1 => h1.spdmAnswer.ite h1.spdmAnswer)

theorem execSpdmGetMeasurements_canonical (h : s.canonical) {src : MbxSource} {index : BitVec 8}
    {nonce : BitVec 256} : outCanonical (execSpdmGetMeasurements src index nonce s) :=
  h.spdm

/-! ### The functions of Bist -/

theorem State.canonical.bistElapsed (h : s.canonical) : s.bistElapsed.canonical :=
  h.setF

theorem State.canonical.bistGo (h : s.canonical) {origin : Nat} : (s.bistGo origin).canonical :=
  h.setFlag.ite h.resetRegs.setF.setF.setF.setF.frame

theorem State.canonical.bistAbort (h : s.canonical) : s.bistAbort.canonical :=
  h.bistStop.bistElapsed

theorem State.canonical.bistWrite (h : s.canonical) {origin v : Nat} : (s.bistWrite origin v).canonical :=
  h.ite (((h.ite h.setF.setF.setF.setF).bistAbort.ite (h.ite h.setF.setF.setF.setF)).bistGo.ite ((h.ite
    h.setF.setF.setF.setF).bistAbort.ite (h.ite h.setF.setF.setF.setF)))

theorem execBistGo_canonical (h : s.canonical) {origin : Fin 3} {suite : BitVec 4}
    {h0Loop fixture extLoop : Bool} : outCanonical (execBistGo origin suite h0Loop fixture extLoop s) :=
  h.bistWrite

theorem execBistAbort_canonical (h : s.canonical) : outCanonical (execBistAbort s) :=
  h.bistAbort.ite h

theorem State.canonical.testStart (h : s.canonical) {i : Nat} : (s.testStart i).canonical := by
  have h1 {b : Bist} :
      State.canonical { (s.setF RF.BIS_STAT_STATE 0 0 2).setF RF.BIS_STAT_TEST 0 0 i with bist := b } :=
    h.setF.setF.frame
  exact (h1.wr.setF.foldl fun _ _ h2 => h2.linkDown).ite h1

theorem State.canonical.testFrom (h : s.canonical) {i : Nat} : (s.testFrom i).canonical := by
  have h1 {l : List Nat} : (l.foldl (fun (x : State) i => x.setF RF.BIS_RESULTt_CODE 0 i 5) s).canonical :=
    h.foldl fun _ _ h1 => h1.setF
  unfold State.testFrom
  dsimp only
  split
  · exact h1.testStart
  · exact h1.setF

theorem execBistSetupDone_canonical (h : s.canonical) : outCanonical (execBistSetupDone s) := by
  unfold execBistSetupDone
  split
  · exact h
  · exact (h.foldl fun _ _ h1 => h1.setF.ite h1).bistElapsed.testFrom

theorem State.canonical.logFault (h : s.canonical) {t : Nat} {x : LoggedFault} : (s.logFault t x).canonical :=
  h.addSat.setFlag.ite h.addSat.wr.wr.setF

theorem State.canonical.testOutcome (h : s.canonical) {t : Nat} {faults : List BistFault} :
    (s.testOutcome t faults).2.2.canonical := by
  unfold State.testOutcome
  dsimp only
  split
  · exact (State.canonical.foldl h fun _ _ h1 => h1.wr).foldl fun _ _ h1 => h1.wr
  · split
    · exact h.wr.setF
    · split
      · exact h.setF.setF
      · exact h.wr.setF

theorem execBistTestDone_canonical (h : s.canonical) {faults : List BistFault} :
    outCanonical (execBistTestDone faults s) := by
  unfold execBistTestDone
  split
  · exact h
  · exact (State.canonical.foldl h.testOutcome fun _ _ h1 => h1.logFault).setF.setF.setF.bistElapsed.testFrom

theorem State.canonical.bistRestore (h : s.canonical) {failing : List Nat} :
    (s.bistRestore failing).canonical :=
  h.ite ((State.canonical.foldl (State.canonical.foldl h.bistElapsed.setF fun _ _ h1 =>
    h1.fieldReset.fieldResetEnd).stacksFollow fun _ _ h1 => h1.stackLoss).foldl fun _ _ h1 => h1.ite h1.fromDown)

/-! ### The functions of Assay -/

theorem State.canonical.modAssay (h : s.canonical) {g : Assay → Assay} : (s.modAssay g).canonical :=
  h.frame

theorem State.canonical.freezeSend (h : s.canonical) {kind id : Nat} : (s.freezeSend kind id).canonical :=
  h.foldl fun _ _ h1 => h1.send

theorem State.canonical.freezeIgnored (h : s.canonical) : s.freezeIgnored.canonical :=
  h.addSat

theorem State.canonical.freezeInject (h : s.canonical) {q : FreezeReq} : (s.freezeInject q).canonical :=
  (State.canonical.foldl h.bistStop.setF.setF.setFlag.setF.setF.wr.wr.setF fun _ _ h1 =>
    h1.wr).modAssay.freezeSend.ite (State.canonical.foldl h.bistStop.setF.setF.setFlag.setF.setF.wr.wr.setF fun
    _ _ h1 => h1.wr).modAssay

theorem State.canonical.freezeTrigger (h : s.canonical) {q : FreezeReq} : (s.freezeTrigger q).canonical := by
  unfold State.freezeTrigger
  refine h.ite (h.freezeIgnored.ite ?_)
  split
  · exact h.freezeInject
  · exact h.setFlag.freezeIgnored.ite h.modAssay
  · exact h.setFlag.freezeIgnored

theorem execFreezePin_canonical (h : s.canonical) : outCanonical (execFreezePin s) := by
  unfold execFreezePin
  split
  · exact h.noteFreeze
  · split
    · exact h
    · exact h.freezeTrigger

theorem execFreezeRegister_canonical (h : s.canonical) : outCanonical (execFreezeRegister s) :=
  h.freezeTrigger

theorem execFreezeMessageReceive_canonical (h : s.canonical) {wafer : WaferId} {id epoch : BitVec 16} :
    outCanonical (execFreezeMessageReceive wafer id epoch s) := by
  unfold execFreezeMessageReceive
  split
  · exact h.freezeTrigger
  · split
    · exact h
    · exact h.freezeIgnored

theorem State.canonical.fieldStop (h : s.canonical) {f : Nat} : (s.fieldStop f).canonical :=
  h.fresh.fresh.setFlag.setFlag.wr.wr.wr

theorem execFreezeArrive_canonical (h : s.canonical) {f : FieldId} : outCanonical (execFreezeArrive f s) := by
  unfold execFreezeArrive
  dsimp only
  split
  · exact h
  · split
    · exact h.fresh.modAssay.wr.setFlag
    · exact h.fresh.modAssay.wr.fieldStop

theorem State.canonical.deferredStop (h : s.canonical) {f : Nat} : (s.deferredStop f).canonical :=
  h.fieldStop.ite h

theorem State.canonical.thawStart (h : s.canonical) : s.thawStart.canonical :=
  h.setF.modAssay.freezeSend.ite h.setF.modAssay

theorem State.canonical.thaw (h : s.canonical) : s.thaw.canonical := by
  unfold State.thaw
  split
  · exact h.modAssay
  · exact h.thawStart
  · exact h

theorem execThawRegister_canonical (h : s.canonical) : outCanonical (execThawRegister s) :=
  h.thaw

theorem execThawMessageReceive_canonical (h : s.canonical) {wafer : WaferId} {id epoch : BitVec 16} :
    outCanonical (execThawMessageReceive wafer id epoch s) := by
  unfold execThawMessageReceive
  split
  · exact h
  · split
    · exact h.thaw
    · exact h.freezeIgnored

theorem execFreezeComplete_canonical (h : s.canonical) : outCanonical (execFreezeComplete s) := by
  unfold execFreezeComplete
  split
  · exact h.setF.modPower.thawStart.ite h.setF.modPower
  · exact h

theorem State.canonical.windowGo (h : s.canonical) {field chain kind : Nat} :
    (s.windowGo field chain kind).canonical :=
  h.ite h.setF.setF.setF.setFlag.modAssay

theorem execWindowGo_canonical (h : s.canonical) {field chain : BitVec 7} {kind : Fin 4} :
    outCanonical (execWindowGo field chain kind s) :=
  h.windowGo

theorem State.canonical.freeBits (h : s.canonical) : s.freeBits.2.canonical :=
  h.fresh

theorem State.canonical.tapBypass (h : s.canonical) {data : List Nat} : (s.tapBypass data).canonical :=
  h.send

theorem State.canonical.tapMode (h : s.canonical) {m : Nat} : (s.tapMode m).canonical :=
  h.modAssay

theorem execTapReset_canonical (h : s.canonical) : outCanonical (execTapReset s) :=
  h.tapMode

theorem execTapBypass_canonical (h : s.canonical) {data : List Bool} : outCanonical (execTapBypass data s) :=
  h.tapMode.tapBypass

theorem execTapIdcode_canonical (h : s.canonical) : outCanonical (execTapIdcode s) :=
  h.tapMode.send

theorem State.canonical.tapGate (h : s.canonical) {ok : Bool} {data : List Nat} {g : State → State}
    (hg : ∀ x0, x0.canonical → (g x0).canonical) : (s.tapGate ok data g).canonical :=
  State.canonical.ite (hg _ h) h.tapMode.tapBypass

theorem execTapSamplePreload_canonical (h : s.canonical) {load captured : BitVec 442} :
    outCanonical (execTapSamplePreload load captured s) :=
  h.tapGate (fun _ h1 => h1.tapMode.modAssay.send)

theorem execTapFreeze_canonical (h : s.canonical) {update : Bool} : outCanonical (execTapFreeze update s) :=
  h.tapGate (fun _ h1 => h1.tapMode.freezeTrigger.ite h1.tapMode)

theorem execTapThaw_canonical (h : s.canonical) {update : Bool} : outCanonical (execTapThaw update s) :=
  h.tapGate (fun _ h1 => h1.tapMode.thaw.ite h1.tapMode)

theorem execTapSel_canonical (h : s.canonical) {v : BitVec 32} : outCanonical (execTapSel v s) :=
  h.tapGate (fun _ h1 => h1.tapMode.modAssay)

theorem execTapChain_canonical (h : s.canonical) : outCanonical (execTapChain s) :=
  h.tapGate (fun _ h1 => h1.ite (h1.tapMode.freeBits.setFlag.send.ite h1.tapMode.freeBits.send))

theorem execTapStat_canonical (h : s.canonical) : outCanonical (execTapStat s) :=
  h.tapGate (fun _ h1 => h1.tapMode.send)

theorem execTapMbx_canonical (h : s.canonical) : outCanonical (execTapMbx s) :=
  h.tapMode.freeBits.send

theorem State.canonical.tapDrive (h : s.canonical) {mode load captured : Nat} :
    (s.tapDrive mode load captured).canonical :=
  h.tapGate (fun _ h1 => h1.tapMode.modAssay.send)

theorem execTapExtest_canonical (h : s.canonical) {load captured : BitVec 442} :
    outCanonical (execTapExtest load captured s) :=
  h.tapDrive

theorem execTapClamp_canonical (h : s.canonical) {data : List Bool} : outCanonical (execTapClamp data s) :=
  h.tapGate (fun _ h1 => h1.tapMode.tapBypass)

theorem execTapHighz_canonical (h : s.canonical) {data : List Bool} : outCanonical (execTapHighz data s) :=
  h.tapGate (fun _ h1 => h1.tapMode.tapBypass)

theorem execTapExtestPulse_canonical (h : s.canonical) {load captured : BitVec 442} :
    outCanonical (execTapExtestPulse load captured s) :=
  h.tapDrive

theorem execTapExtestTrain_canonical (h : s.canonical) {load captured : BitVec 442} :
    outCanonical (execTapExtestTrain load captured s) :=
  h.tapDrive

theorem execTapBisctl_canonical (h : s.canonical) {v : BitVec 32} : outCanonical (execTapBisctl v s) :=
  h.tapGate (fun _ h1 => h1.tapMode.bistWrite.send)

/-! ### The functions of Pins -/

theorem State.canonical.modPins (h : s.canonical) {g : Pins → Pins} : (s.modPins g).canonical :=
  h.frame

theorem State.canonical.postGroup (h : s.canonical) {g : Nat} : (s.postGroup g).canonical := by
  unfold State.postGroup
  dsimp only
  split
  · exact h.fresh.modPins.ite h
  · exact h

theorem execMirrorPost_canonical (h : s.canonical) {g : Fin 1024} : outCanonical (execMirrorPost g s) :=
  h.postGroup.ite h

theorem execMirrorRoll_canonical (h : s.canonical) : outCanonical (execMirrorRoll s) := by
  unfold execMirrorRoll
  split
  · exact h
  · exact h.addWrap.postGroup.postGroup.postGroup.modPins.setF

theorem State.canonical.crierRead (h : s.canonical) {w : Nat} : (s.crierRead w).canonical :=
  (h.addWrap.modPins.ite h.addWrap).send

theorem execCrierRead_canonical (h : s.canonical) {addr : BitVec 12} : outCanonical (execCrierRead addr s) :=
  h.crierRead.ite h.send

theorem State.canonical.sbResult (h : s.canonical) {w : List Nat} {r : Nat} : (s.sbResult w r).canonical :=
  h.modPins

theorem State.canonical.sbFlush (h : s.canonical) {n : Nat} : (s.sbFlush n).canonical := by
  induction n generalizing s with
  | zero => exact h
  | succ n ih =>
    unfold State.sbFlush
    split
    · exact h.ite (ih h.modPins.sbResult)
    · exact h

theorem State.canonical.mailboxPost (h : s.canonical) {data : Nat} : (s.mailboxPost data).canonical :=
  h.modPins.addSat.ite h.modPins.modPins.sbFlush

theorem State.canonical.crierWrite (h : s.canonical) {w data : Nat} : (s.crierWrite w data).canonical :=
  h.addSat.ite (h.mailboxPost.ite h.modPins)

theorem execCrierWrite_canonical (h : s.canonical) {addr : BitVec 12} {data : BitVec 16} {rdLow : Bool} :
    outCanonical (execCrierWrite addr data rdLow s) := by
  unfold execCrierWrite
  split
  · exact h
  · split
    · exact h.crierRead.addSat
    · exact h.crierWrite

theorem execCrierMailboxPost_canonical (h : s.canonical) {data : BitVec 16} :
    outCanonical (execCrierMailboxPost data s) :=
  h.crierWrite.ite h

theorem State.canonical.setIrq (h : s.canonical) {n : Nat} : (s.setIrq n).canonical :=
  h.setF

theorem State.canonical.gpioLevels (h : s.canonical) : s.gpioLevels.canonical :=
  h.foldl fun _ _ h1 => h1.setIrq.ite h1

theorem State.canonical.padSet (h : s.canonical) {n : Nat} {level : Bool} : (s.padSet n level).canonical :=
  (h.ite h.modPins).setIrq.ite (h.ite h.modPins)

theorem execGpioIrqDetect_canonical (h : s.canonical) {n : Fin 32} {level : Bool} :
    outCanonical (execGpioIrqDetect n level s) :=
  h.padSet.ite h

theorem State.canonical.drivePads (h : s.canonical) : s.drivePads.canonical := by
  unfold State.drivePads
  refine h.foldl fun _ _ h1 => ?_
  dsimp only
  split
  · exact h1
  · exact h1.ite (h1.padSet.send.raise.modCommand.ite h1.padSet.send)

theorem State.canonical.lockErr (h : s.canonical) : s.lockErr.canonical :=
  h.setFlag

theorem State.canonical.gpioErr (h : s.canonical) : s.gpioErr.canonical :=
  h.setFlag

theorem State.canonical.pinConfig (h : s.canonical) {f : RF} {lo n w top v : Nat} :
    (s.pinConfig f lo n w top v).1.canonical :=
  ((h.setF.lockErr.ite h.setF).gpioErr.ite (h.setF.lockErr.ite h.setF)).drivePads

theorem State.canonical.gpioOut (h : s.canonical) {v : Nat} : (s.gpioOut v).canonical :=
  h.setF.drivePads

theorem State.canonical.gpioSet (h : s.canonical) {m : Nat} : (s.gpioSet m).canonical :=
  h.gpioOut

theorem State.canonical.gpioClr (h : s.canonical) {m : Nat} : (s.gpioClr m).canonical :=
  h.gpioOut

theorem execGpioOutSet_canonical (h : s.canonical) {m : BitVec 32} : outCanonical (execGpioOutSet m s) :=
  h.gpioSet.ite h

theorem execGpioOutClr_canonical (h : s.canonical) {m : BitVec 32} : outCanonical (execGpioOutClr m s) :=
  h.gpioClr.ite h

theorem State.canonical.lockKey (h : s.canonical) {src key : Nat} : (s.lockKey src key).canonical :=
  h.modPins

theorem execGpioLockKeyWrite_canonical (h : s.canonical) {src : GpioSource} {key : BitVec 16} :
    outCanonical (execGpioLockKeyWrite src key s) :=
  h.lockKey.ite h

theorem State.canonical.lockSet (h : s.canonical) {src mask : Nat} : (s.lockSet src mask).canonical :=
  h.setF.modPins.ite h.lockErr

theorem execGpioLockSetWrite_canonical (h : s.canonical) {src : GpioSource} {mask : BitVec 32} :
    outCanonical (execGpioLockSetWrite src mask s) :=
  h.lockSet.ite h

theorem State.canonical.i2cGo (h : s.canonical) {n addr : Nat} {read : Bool} {len : Nat} :
    (s.i2cGo n addr read len).canonical :=
  h.gpioErr.ite h.setF.setFlag.setF.setFlag.send

theorem execI2cGo_canonical (h : s.canonical) {n : Fin 2} {addr : BitVec 7} {read : Bool} {len : BitVec 3} :
    outCanonical (execI2cGo n addr read len s) :=
  h.i2cGo.ite h

theorem execI2cDone_canonical (h : s.canonical) {n : Fin 2} {nack : Bool} {data : Word} :
    outCanonical (execI2cDone n nack data s) := by
  unfold execI2cDone
  split
  · exact h
  · dsimp only
    split
    · exact h.setFlag.setFlag
    · split
      · exact h.setFlag.wr
      · exact h.setFlag

theorem State.canonical.gpioWrite (h : s.canonical) {src sel : Nat} {v : Word} :
    (s.gpioWrite src sel v).1.canonical := by
  have hack {k : Nat} {c : Prop} [Decidable c] :
      (if c then s.setFlag RF.GPIO_I2Cn_NACK 0 k false else s).canonical := h.setFlag.ite h
  have hlock {c : Prop} [Decidable c] :
      (if c then s.setFlag RF.GPIO_STAT_LOCK_ERR 0 0 false else s).canonical := h.setFlag.ite h
  unfold State.gpioWrite
  extract_lets n
  clear_value n
  split
  · exact h.pinConfig
  · exact h.pinConfig
  · exact h.pinConfig
  · exact h.pinConfig
  · exact h.pinConfig
  · exact h.gpioOut
  · exact h.gpioSet
  · exact h.gpioClr
  · exact h.pinConfig.gpioLevels
  · exact h.pinConfig.gpioLevels
  · exact h.setF.gpioLevels
  · exact h.lockKey
  · exact h.lockSet
  iterate 4 exact .ite_fst h.setF h
  iterate 2 exact .ite_fst hack.i2cGo (.ite_fst hack hack.setF.setF.setF)
  · exact h.wr
  · exact h.wr
  · exact hlock.setFlag.ite hlock
  iterate 6 exact h.writeErr
  · exact h

theorem execTachUpdate_canonical (h : s.canonical) {k : Fin 4} {rpm : BitVec 16} :
    outCanonical (execTachUpdate k rpm s) :=
  h.setF.ite h

theorem execPpsOutEdge_canonical (h : s.canonical) : outCanonical (execPpsOutEdge s) := by
  unfold execPpsOutEdge
  dsimp only
  split
  · exact h
  · exact h.modPins.send

theorem State.canonical.capWafer (h : s.canonical) {w : Nat} : (s.capWafer w).canonical :=
  h.setF.ite h.pwrErr

theorem State.canonical.capCtl (h : s.canonical) {v : Nat} : (s.capCtl v).canonical :=
  (State.canonical.ite (State.canonical.foldl h.setF.setF fun _ _ h1 => h1.setF) h.setF).setF.ite
    (State.canonical.ite (State.canonical.foldl h.setF.setF fun _ _ h1 => h1.setF) h.setF)

theorem State.canonical.capParish (h : s.canonical) {p w : Nat} : (s.capParish p w).canonical :=
  h.setF.ite h.pwrErr

theorem State.canonical.withModErr (h : s.canonical) {g : State → State}
    (hg : ∀ x0, x0.canonical → (g x0).canonical) : (s.withModErr g).1.canonical :=
  (hg _ h.setFlag).setFlag.ite (hg _ h.setFlag)

theorem State.canonical.sbExec (h : s.canonical) {src : Nat} {w : List Nat} {cool : Bool} :
    (s.sbExec src w cool).1.canonical := by
  unfold State.sbExec
  dsimp only
  split
  · exact h.withModErr (fun _ h2 => h2.setF.modAny)
  · split
    · exact h
    · exact h.setF.pstateWrite
  · exact h.setF.setFlag.fieldTarget.setFlag.ite h.setF.setFlag.fieldTarget
  · exact (h.withModErr (fun _ h2 => h2.capWafer)).capCtl
  · exact h.withModErr (fun _ h2 => h2.capParish)
  · exact h.setF.setF
  · exact h.withModErr (fun _ h2 => h2.thermResume)
  · exact h.gpioWrite

theorem State.canonical.sbRun (h : s.canonical) {src : Sideband} {w : List Nat} {cool : Bool} :
    (s.sbRun src w cool).canonical := by
  unfold State.sbRun
  refine h.ite ?_
  split
  · split
    · exact h.modPins.sbExec.sbResult.sbFlush.ite h
    · exact h
  · exact h.sbExec.sbResult.send.ite h.sbResult.send

theorem execSbSetModule_canonical (h : s.canonical) {src : Sideband} {tag arg0 arg1 : BitVec 16} {data : Word} :
    outCanonical (execSbSetModule src tag arg0 arg1 data s) :=
  h.sbRun

theorem execSbSetPstate_canonical (h : s.canonical) {src : Sideband} {tag arg0 arg1 : BitVec 16} {data : Word} :
    outCanonical (execSbSetPstate src tag arg0 arg1 data s) :=
  h.sbRun

theorem execSbSetField_canonical (h : s.canonical) {src : Sideband} {tag arg0 arg1 : BitVec 16} {data : Word} :
    outCanonical (execSbSetField src tag arg0 arg1 data s) :=
  h.sbRun

theorem execSbSetCapWafer_canonical (h : s.canonical) {src : Sideband} {tag arg0 arg1 : BitVec 16} {data : Word} :
    outCanonical (execSbSetCapWafer src tag arg0 arg1 data s) :=
  h.sbRun

theorem execSbSetCapParish_canonical (h : s.canonical) {src : Sideband} {tag arg0 arg1 : BitVec 16}
    {data : Word} : outCanonical (execSbSetCapParish src tag arg0 arg1 data s) :=
  h.sbRun

theorem execSbSetWakeArm_canonical (h : s.canonical) {src : Sideband} {tag arg0 arg1 : BitVec 16} {data : Word} :
    outCanonical (execSbSetWakeArm src tag arg0 arg1 data s) :=
  h.sbRun

theorem execSbThermResume_canonical (h : s.canonical) {src : Sideband} {tag arg0 arg1 : BitVec 16} {data : Word}
    {cool : Bool} : outCanonical (execSbThermResume src tag arg0 arg1 data cool s) :=
  h.sbRun

theorem execSbGpioWrite_canonical (h : s.canonical) {src : Sideband} {tag arg0 arg1 : BitVec 16} {data : Word} :
    outCanonical (execSbGpioWrite src tag arg0 arg1 data s) :=
  h.sbRun

theorem State.canonical.mctp (h : s.canonical) {pec : Bool} {g : State → State × List Nat}
    (hg : ∀ x0, x0.canonical → (g x0).1.canonical) : (s.mctp pec g).canonical :=
  h.ite (h.addSat.ite (hg _ h).send)

theorem execMctpSetEndpointId_canonical (h : s.canonical) {pec : Bool} {eid : BitVec 8} :
    outCanonical (execMctpSetEndpointId pec eid s) := by
  refine h.mctp (fun _ h1 => ?_)
  split
  · exact h1.addSat
  · exact h1.setF

theorem execMctpGetEndpointId_canonical (h : s.canonical) {pec : Bool} :
    outCanonical (execMctpGetEndpointId pec s) :=
  h.mctp (fun _ h1 => h1)

theorem execMctpGetEndpointUuid_canonical (h : s.canonical) {pec : Bool} :
    outCanonical (execMctpGetEndpointUuid pec s) :=
  h.mctp (fun _ h1 => h1.fresh)

theorem execMctpGetVersionSupport_canonical (h : s.canonical) {pec : Bool} :
    outCanonical (execMctpGetVersionSupport pec s) :=
  h.mctp (fun _ h1 => h1)

theorem execMctpGetMsgTypeSupport_canonical (h : s.canonical) {pec : Bool} :
    outCanonical (execMctpGetMsgTypeSupport pec s) :=
  h.mctp (fun _ h1 => h1)

theorem execMctpGetVendorSupport_canonical (h : s.canonical) {pec : Bool} :
    outCanonical (execMctpGetVendorSupport pec s) :=
  h.mctp (fun _ h1 => h1)

theorem execPldmGetTid_canonical (h : s.canonical) {pec : Bool} : outCanonical (execPldmGetTid pec s) :=
  h.mctp (fun _ h1 => h1)

theorem execPldmSetTid_canonical (h : s.canonical) {pec : Bool} {tid : BitVec 8} :
    outCanonical (execPldmSetTid pec tid s) :=
  h.mctp (fun _ h1 => h1.modPins)

theorem execPldmGetVersion_canonical (h : s.canonical) {pec : Bool} {type_ : BitVec 8} :
    outCanonical (execPldmGetVersion pec type_ s) := by
  refine h.mctp (fun _ h1 => ?_)
  dsimp only
  split <;> exact h1.fresh

theorem execPldmGetTypes_canonical (h : s.canonical) {pec : Bool} : outCanonical (execPldmGetTypes pec s) :=
  h.mctp (fun _ h1 => h1)

theorem execPldmGetCommands_canonical (h : s.canonical) {pec : Bool} {type_ : BitVec 8} :
    outCanonical (execPldmGetCommands pec type_ s) := by
  refine h.mctp (fun _ h1 => ?_)
  split <;> exact h1

theorem execPldmGetSensorReading_canonical (h : s.canonical) {pec : Bool} {id : BitVec 16} :
    outCanonical (execPldmGetSensorReading pec id s) :=
  h.mctp (fun _ h1 => h1)

theorem execPldmGetStateSensors_canonical (h : s.canonical) {pec : Bool} {id : BitVec 16} :
    outCanonical (execPldmGetStateSensors pec id s) :=
  h.mctp (fun _ h1 => h1)

theorem State.canonical.pldmFree (h : s.canonical) : s.pldmFree.1.canonical :=
  h.freeData

theorem execPldmGetPdrRepoInfo_canonical (h : s.canonical) {pec : Bool} :
    outCanonical (execPldmGetPdrRepoInfo pec s) :=
  h.mctp (fun _ h1 => h1.pldmFree)

theorem execPldmGetPdr_canonical (h : s.canonical) {pec : Bool} {_record : BitVec 32} :
    outCanonical (execPldmGetPdr pec _record s) :=
  h.mctp (fun _ h1 => h1.pldmFree)

theorem execPldmGetFruMetadata_canonical (h : s.canonical) {pec : Bool} :
    outCanonical (execPldmGetFruMetadata pec s) :=
  h.mctp (fun _ h1 => h1.pldmFree)

theorem execPldmGetFruTable_canonical (h : s.canonical) {pec : Bool} :
    outCanonical (execPldmGetFruTable pec s) :=
  h.mctp (fun _ h1 => h1)

/-! ### The functions of Bringup -/

theorem State.canonical.modBoot (h : s.canonical) {g : Boot → Boot} : (s.modBoot g).canonical :=
  h.frame

theorem State.canonical.stageBegin (h : s.canonical) {st : BootStage} : (s.stageBegin st).canonical := by
  unfold State.stageBegin
  dsimp only
  exact h.msSince.setF.setF.modBoot

theorem State.canonical.nextStage (h : s.canonical) {st : BootStage} : (s.nextStage st).canonical := by
  unfold State.nextStage
  dsimp only
  exact h.msSince.setF.stageBegin

theorem State.canonical.bootFields (h : s.canonical) : s.bootFields.canonical :=
  (State.canonical.foldl h.fresh fun _ _ h1 => h1.setF).setF

theorem State.canonical.faultNow (h : s.canonical) {cause : Nat} : (s.faultNow cause).canonical :=
  h.setFlag.modBoot.setF.setFlag.setF.ite h.waferFault

theorem execPowerUp_canonical (h : s.canonical) : outCanonical (execPowerUp s) := by
  unfold execPowerUp
  split
  · exact h
  · exact h.modBoot.modHearth.addWrap.setFlag.setF

theorem execHearthAlive_canonical (h : s.canonical) {strap : BitVec 3} :
    outCanonical (execHearthAlive strap s) := by
  unfold execHearthAlive
  split
  · exact h
  · exact h.modBoot.setF

theorem execPlaneCharged_canonical (h : s.canonical) : outCanonical (execPlaneCharged s) := by
  unfold execPlaneCharged
  split
  · exact h
  · exact h.modBoot

theorem execHoldupCheckDone_canonical (h : s.canonical) {cap : BitVec 16} :
    outCanonical (execHoldupCheckDone cap s) := by
  unfold execHoldupCheckDone
  split
  · exact h
  · exact h.setF.setFlag.setFlag.setFlag.nextStage.modReeve

theorem State.canonical.bootSlot (h : s.canonical) {slot : Nat} : (s.bootSlot slot).canonical :=
  (h.setF.setF.setFlag.setFlag.ite h.setF.setF).modReeve

theorem State.canonical.recoveryMode (h : s.canonical) {slot cls : Nat} : (s.recoveryMode slot cls).canonical :=
  h.setFlag.setFlag.setF.setF.stageBegin

theorem State.canonical.defaultPorts (h : s.canonical) : s.defaultPorts.canonical :=
  (h.foldl fun _ _ h1 => h1.setF.setFlag).setF.setFlag.setF.setFlag

theorem State.canonical.ledgerScan (h : s.canonical) {crcOk : Bool} : (s.ledgerScan crcOk).canonical := by
  unfold State.ledgerScan
  refine State.canonical.setF ?_
  split
  · exact h.wr
  · exact h.setF.setF.setF.setF

theorem State.canonical.linksStart (h : s.canonical) : s.linksStart.canonical :=
  (State.canonical.foldl h fun _ _ h1 => h1.enterState).foldl fun _ _ h1 => h1.ite h1.fromDown

theorem State.canonical.reeveLoads (h : s.canonical) {crcOk : Bool} : (s.reeveLoads crcOk).canonical :=
  (State.canonical.ite (h.fresh.ite h.fresh.setF.setF) (h.fresh.ite
    h.fresh.setF.setF).defaultPorts.modHearth).addWrap.ledgerScan

theorem execReeveBootDone_canonical (h : s.canonical) {badA badB : Option (Fin 5)} {crcOk : Bool} :
    outCanonical (execReeveBootDone badA badB crcOk s) := by
  unfold execReeveBootDone
  split
  · exact h
  · dsimp only
    split
    · exact h.recoveryMode
    · split
      · exact h.bootSlot.reeveLoads.stageBegin
      · exact h.bootSlot.reeveLoads.nextStage.linksStart

theorem State.canonical.seamsOpen (h : s.canonical) : s.seamsOpen.canonical := by
  refine h.foldl fun _ _ h1 => h1.foldl fun _ _ h2 => ?_
  split
  · exact h2.ite h2.setF
  · exact h2

theorem State.canonical.clockTree (h : s.canonical) : s.clockTree.canonical := by
  unfold State.clockTree
  refine h.foldl fun _ _ h1 => h1.ite ?_
  split
  · exact h1.setF.setF
  · exact h1.retireField

theorem execClockStageDone_canonical (h : s.canonical) {unclocked : List FieldId} :
    outCanonical (execClockStageDone unclocked s) := by
  unfold execClockStageDone
  split
  · exact h
  · split
    · exact h.waferFault
    · exact (State.canonical.foldl h.fresh fun _ _ h1 => h1.retireField).clockTree.modAssay.setFlag.modBoot.nextStage

theorem execHbmGroupTrained_canonical (h : s.canonical) {failed : List StackFail}
    {spares : List (FieldId × BitVec 24)} : outCanonical (execHbmGroupTrained failed spares s) := by
  unfold execHbmGroupTrained
  split
  · exact h
  · refine State.canonical.ite (State.canonical.nextStage (State.canonical.modBoot (h.foldl fun _ _
      h1 => h1.ite ?_))) (State.canonical.modBoot (h.foldl fun _ _ h1 => h1.ite ?_))
    · split
      · exact h1.stackLoss
      · split
        · exact h1.setF.setFlag.setF
        · exact h1.setF.setFlag
    · split
      · exact h1.stackLoss
      · split
        · exact h1.setF.setFlag.setF
        · exact h1.setF.setFlag

theorem execSeamsTrained_canonical (h : s.canonical) {failed : List (FieldId × Fin 4)}
    {spares : List (FieldId × Fin 4 × BitVec 4)} : outCanonical (execSeamsTrained failed spares s) := by
  unfold execSeamsTrained
  split
  · exact h
  · exact ((State.canonical.foldl h.seamsOpen fun _ _ h1 => h1.setF.ite h1).foldl fun _ _ h1 =>
      h1.seamDown).nextStage

theorem State.canonical.checkQuerns (h : s.canonical) {f bad : Nat} : (s.checkQuerns f bad).canonical :=
  (h.foldl fun _ _ h1 => h1.setFlag.setFlag).renumberQuerns

theorem State.canonical.selfcheckField (h : s.canonical) {x : SelfFail} : (s.selfcheckField x).canonical :=
  h.ite (h.retireField.ite (h.ite (h.retireField.ite (h.checkQuerns.setFlag.ite h.checkQuerns))))

theorem execSelfcheckDone_canonical (h : s.canonical) {l : List SelfFail} :
    outCanonical (execSelfcheckDone l s) := by
  unfold execSelfcheckDone
  split
  · exact h
  · split
    · exact h.waferFault
    · dsimp only
      split
      · exact (h.foldl fun _ _ h1 => h1.selfcheckField).routeRebuild.bootFields.stageBegin
      · exact (h.foldl fun _ _ h1 => h1.selfcheckField).routeRebuild.bootFields.nextStage

theorem State.canonical.imagesLoaded (h : s.canonical) : s.imagesLoaded.canonical :=
  (State.canonical.foldl h.fresh fun _ _ h1 => h1.setFlag.setF.ite h1).setF.frame.nextStage

theorem execFabricStageTimeout_canonical (h : s.canonical) : outCanonical (execFabricStageTimeout s) := by
  unfold execFabricStageTimeout
  split
  · exact h
  · exact h.setFlag

theorem State.canonical.defaultSpread (h : s.canonical) : s.defaultSpread.canonical :=
  (h.foldl fun _ _ h1 => h1.setSlotEntry).setF.wr.wr

theorem State.canonical.readyNow (h : s.canonical) : s.readyNow.canonical :=
  (((h.loseSpilled.ite h).defaultSpread.setFlag.nextStage.setF.raise.modPower.pStart.ite
    (h.loseSpilled.ite h).defaultSpread.setFlag.nextStage.setF.raise).foldl fun _ _ h1 => h1.takeEffect.ite
    h1).releaseDoorbells

theorem execBootReady_canonical (h : s.canonical) : outCanonical (execBootReady s) := by
  unfold execBootReady
  split
  · exact h.readyNow
  · exact h

theorem execHearthFwReportTimeout_canonical (h : s.canonical) : outCanonical (execHearthFwReportTimeout s) := by
  unfold execHearthFwReportTimeout
  split
  · exact h
  · exact h.waferFault

theorem execHearthWatchdogExpire_canonical (h : s.canonical) : outCanonical (execHearthWatchdogExpire s) :=
  h.waferFault

theorem execWaferFault_canonical (h : s.canonical) {clockEntry : Bool} :
    outCanonical (execWaferFault clockEntry s) :=
  h.faultNow

theorem State.canonical.leaveRack (h : s.canonical) : s.leaveRack.canonical := by
  unfold State.leaveRack
  dsimp -zeta only
  extract_lets s1 s2 s3 s4 _
  have h1 : s1.canonical := by
    refine h.fresh.foldl fun t n h1 => ?_
    exact h1.ite h1.absentReqs
  have h2 : s2.canonical := h1.foldl fun _ _ h1 => h1.linkDown
  have h4 : s4.canonical := h2.resetRegs.setF.setFlag.setF
  clear_value s4
  exact h4.frame.setF

theorem State.canonical.endStops (h : s.canonical) : s.endStops.canonical := by
  unfold State.endStops
  extract_lets s1 s2 s3 d s4 s5
  have h1 : s1.canonical := h.bistStop.setF.ite h
  clear_value s1
  have h4 : s4.canonical := h1.resetRegs.setFlag.setFlag.modAssay.modHost
  clear_value s4
  exact State.canonical.frame h4.shiftTimes

theorem State.canonical.waferClear (h : s.canonical) : s.waferClear.canonical :=
  ((State.canonical.foldl (State.canonical.foldl h.endStops fun _ _ h1 => h1.abortSend)
    fun _ _ h1 => h1.fieldReset).foldl fun _ _ h1 => h1.ringsOff).frame.resetPage.leaveRack.addWrap

theorem State.canonical.countWarm (h : s.canonical) : s.countWarm.canonical :=
  h.frame

theorem State.canonical.warmNow (h : s.canonical) : s.warmNow.canonical :=
  h.waferClear.setFlag.frame.linksStart.runDeferred

theorem State.canonical.coldRegs (h : s.canonical) : s.coldRegs.canonical :=
  ((State.canonical.foldl h.storedTargets.resetRegs fun _ _ h1 =>
    h1.setFlag.setF.wr.setFlag).foldl fun _ _ h1 =>
    h1.setFlag.setFlag).setFlag.setFlag.setFlag.setF.setF.setF.setFlag.setFlag.setF.setF.setFlag

theorem State.canonical.scrubsEnd (h : s.canonical) : s.scrubsEnd.canonical :=
  h.foldl fun _ _ h1 => h1.scrubErr.ite h1

theorem State.canonical.coldNow (h : s.canonical) {cold : Bool} : (s.coldNow cold).canonical := by
  have h1 := h.waferClear.scrubsEnd.coldRegs
  unfold State.coldNow
  generalize s.waferClear.scrubsEnd.coldRegs = s1 at h1
  refine State.canonical.stageBegin (State.canonical.granRefresh (State.canonical.setFlag (State.canonical.frame
    (State.canonical.modBoot (State.canonical.ite (State.canonical.setFlag h1.frame) h1.frame)))))

theorem State.canonical.waferReset (h : s.canonical) {cold : Bool} {key : Nat} :
    (s.waferReset cold key).canonical :=
  h.resetWrite.resetCmdErr.ite (h.resetWrite.countWarm.coldNow.ite (h.resetWrite.coldNow.ite
    h.resetWrite.countWarm.warmNow))

theorem execResetWaferWarm_canonical (h : s.canonical) {key : BitVec 16} :
    outCanonical (execResetWaferWarm key s) :=
  h.waferReset

theorem execResetWaferCold_canonical (h : s.canonical) {key : BitVec 16} :
    outCanonical (execResetWaferCold key s) :=
  h.waferReset

/-! ### The functions of View -/

theorem State.canonical.readEffect (h : s.canonical) {r : Reg} {inst : Nat} :
    (s.readEffect r inst).canonical := by
  unfold State.readEffect
  split
  · exact h.rngRead
  · exact h.tlyUseRead
  · exact h

theorem State.canonical.readWord (h : s.canonical) {p : Page} {inst off : Nat} {side : Bool} :
    (s.readWord p inst off side).1.canonical := by
  unfold State.readWord
  split
  · exact h
  · split
    · exact h
    · exact h.fresh.readEffect.ite h.fresh

theorem State.canonical.readPage (h : s.canonical) {p : Page} {inst off n : Nat} :
    (s.readPage p inst off n).1.canonical :=
  h.readWord

/-! ### The functions of RegWrite -/

theorem State.canonical.dropLines (h : s.canonical) : s.dropLines.canonical :=
  h.frame

theorem State.canonical.irqSend (h : s.canonical) : s.irqSend.canonical :=
  h.sendMsix.addWrap.frame

theorem State.canonical.lineRise (h : s.canonical) {p : Page} {inst : Nat} : (s.lineRise p inst).canonical := by
  unfold State.lineRise
  refine h.dropLines.ite ?_
  dsimp only
  split
  · exact (h.dropLines.frame.addWrap.frame.ite h.dropLines.frame.irqSend).sendMsix
  · exact h.dropLines.frame.addWrap.frame.ite h.dropLines.frame.irqSend

theorem State.canonical.irqRearm (h : s.canonical) : s.irqRearm.canonical :=
  h.irqSend.ite h

theorem execIrqLineRise_canonical (h : s.canonical) {place : RegPlace} :
    outCanonical (execIrqLineRise place s) := by
  unfold execIrqLineRise
  split
  · exact h.lineRise
  · exact h

theorem execIrqHoldoffExpire_canonical (h : s.canonical) : outCanonical (execIrqHoldoffExpire s) := by
  unfold execIrqHoldoffExpire
  split
  · exact h.irqSend
  · exact h.frame

theorem execIrqRearm_canonical (h : s.canonical) : outCanonical (execIrqRearm s) :=
  h.irqRearm

theorem State.canonical.clearErrTime (h : s.canonical) {r : Reg} {inst : Nat} :
    (s.clearErrTime r inst).canonical := by
  unfold State.clearErrTime
  split
  · exact h.wr.ite h
  · exact h

theorem State.canonical.clearRest (h : s.canonical) {r : Reg} {inst : Nat} :
    (s.clearRest r inst).canonical := by
  unfold State.clearRest
  split
  · exact h.wr.wr
  · exact h.wr
  · exact h

theorem State.canonical.captureWrite (h : s.canonical) {r : Reg} {b inst : Nat} {v : Word} :
    (s.captureWrite r b inst v).canonical :=
  h.wr.clearRest.clearErrTime.ite h.wr

theorem State.canonical.writeErrClear (h : s.canonical) {inst : Nat} {v : Word} :
    (s.writeErrClear inst v).canonical :=
  h.captureWrite

theorem execErrCaptureClear_canonical (h : s.canonical) {place : RegPlace} {writeErr more : Bool} :
    outCanonical (execErrCaptureClear place writeErr more s) := by
  unfold execErrCaptureClear
  split
  · exact h
  · dsimp only
    split
    · exact h
    · split
      · exact h.writeErrClear.dropLines
      · split
        · exact h
        · split
          · exact h.captureWrite.dropLines
          · exact h

theorem State.canonical.writeFields (h : s.canonical) {r : Reg} {inst idx : Nat} {v : Word} :
    (s.writeFields r inst idx v).canonical :=
  h.wr

theorem State.canonical.writeIf (h : s.canonical) {ok : Bool} {r : Reg} {inst idx : Nat} {v : Word} :
    (s.writeIf ok r inst idx v).canonical :=
  h.writeFields.ite h

theorem State.canonical.irqEnWrite (h : s.canonical) {inst : Nat} {v : Word} :
    (s.irqEnWrite inst v).canonical := by
  unfold State.irqEnWrite
  dsimp only
  split
  · refine State.canonical.ite ?_ h.writeFields
    split
    · exact h.writeFields.sendFixed
    · exact h.writeFields
  · exact h.writeFields

theorem State.canonical.sigCtlWrite (h : s.canonical) {f : Nat} {v : Word} : (s.sigCtlWrite f v).canonical :=
  h.signalEnable.ite (h.setF.setFlag.ite (h.setF.setF.ite h.setF))

theorem State.canonical.parCtlWrite (h : s.canonical) {p : Nat} {v : Word} : (s.parCtlWrite p v).canonical :=
  (h.setFlag.ite h).setF.setF.parishEnable.ite (h.setFlag.ite h).setF.setF.parishDisable

theorem State.canonical.ringCtl (h : s.canonical) {p r : Nat} {v : Word} : (s.ringCtl p r v).canonical :=
  State.canonical.ite (h.ite h.ringDisable) h.ringCtlWrite

theorem State.canonical.musCtlWrite (h : s.canonical) {m : Nat} {v : Word} : (s.musCtlWrite m v).canonical :=
  State.canonical.ite (h.ite h.musterFree) (h.musterGo.ite h.setF.setF.setF.setF)

theorem State.canonical.crnCtlWrite (h : s.canonical) {f : Nat} {v : Word} : (s.crnCtlWrite f v).canonical :=
  (h.setFlag.ite h).crnEnable.ite (h.setFlag.ite h).crnDisable

theorem State.canonical.crnReclaimWrite (h : s.canonical) {f : Nat} {v : Word} :
    (s.crnReclaimWrite f v).canonical :=
  h.reclaimGo.ite h.writeIf

theorem State.canonical.scrubCtlWrite (h : s.canonical) {f : Nat} {v : Word} :
    (s.scrubCtlWrite f v).canonical :=
  (h.setFlag.ite h).scrubGo.ite (State.canonical.ite (h.setFlag.ite h) (h.setFlag.ite h).setF)

theorem State.canonical.granCtlWrite (h : s.canonical) {v : Word} : (s.granCtlWrite v).canonical :=
  State.canonical.ite (h.ite h.granDisable) ((h.setF.ite h).granEnable.ite (h.setF.ite h))

theorem State.canonical.lnkCtlWrite (h : s.canonical) {k : Nat} {v : Word} : (s.lnkCtlWrite k v).canonical :=
  h.ite (h.setF.setF.ite h.setF.setTarget)

theorem State.canonical.fabCtlWrite (h : s.canonical) {v : Word} : (s.fabCtlWrite v).canonical :=
  (h.setF.ite h).setF.setF.setF

theorem State.canonical.discCtlWrite (h : s.canonical) {v : Word} : (s.discCtlWrite v).canonical :=
  (h.discRelease.ite h).discSend.ite (h.discRelease.ite h)

theorem State.canonical.winBaseWrite (h : s.canonical) {fn : Nat} {v : Word} :
    (s.winBaseWrite fn v).canonical :=
  h.setFlag.ite h.writeFields

theorem State.canonical.dmaCtlWrite (h : s.canonical) {fn q : Nat} {v : Word} :
    (s.dmaCtlWrite fn q v).canonical :=
  h.setF.ite ((h.setFlag.ite h).setF.ite (h.setFlag.ite h)).setF.setF

theorem State.canonical.modCtlWrite (h : s.canonical) {v : Word} : (s.modCtlWrite v).canonical :=
  h.setF.modAny.ite h.setF.setF

theorem State.canonical.thermCtlWrite (h : s.canonical) {v : Word} : (s.thermCtlWrite v).canonical :=
  h.setF.fresh.thermResume.ite h.setF

theorem State.canonical.ledgerWinWrite (h : s.canonical) {v : Word} : (s.ledgerWinWrite v).canonical :=
  h.setF.setF.ite h.setF

theorem State.canonical.rcvResetWrite (h : s.canonical) {v : Word} : (s.rcvResetWrite v).canonical :=
  (h.setFlag.ite h).resetWrite.ite ((h.setFlag.ite h).resetWrite.waferReset.ite (h.setFlag.ite
    h).resetWrite.resetGo)

theorem State.canonical.frzCtlWrite (h : s.canonical) {v : Word} : (s.frzCtlWrite v).canonical :=
  (h.setF.setF.setF.freezeTrigger.ite h.setF.setF.setF).thaw.ite (h.setF.setF.setF.freezeTrigger.ite
    h.setF.setF.setF)

theorem State.canonical.winCtlWrite (h : s.canonical) {v : Word} : (s.winCtlWrite v).canonical :=
  (h.setFlag.ite h).windowGo.ite (h.setFlag.ite h).writeIf

theorem State.canonical.irqCtlWrite (h : s.canonical) {v : Word} : (s.irqCtlWrite v).canonical :=
  h.setF.irqRearm.ite h.setF

theorem State.canonical.evtTailWrite (h : s.canonical) {v : Word} : (s.evtTailWrite v).canonical :=
  h.setF

theorem State.canonical.spreadErr (h : s.canonical) : s.spreadErr.canonical :=
  h.setFlag

theorem State.canonical.spreadEnable (h : s.canonical) : s.spreadEnable.canonical :=
  h.ite (h.setFlag.ite h.spreadErr)

theorem State.canonical.spreadDisable (h : s.canonical) : s.spreadDisable.canonical :=
  h.ite h.frame.setFlag.setFlag

theorem State.canonical.spreadCtlWrite (h : s.canonical) {v : Word} : (s.spreadCtlWrite v).canonical :=
  State.canonical.ite (State.canonical.ite (State.canonical.ite (h.setFlag.ite h) (h.setFlag.ite h).spreadErr)
    (State.canonical.ite (h.setFlag.ite h) (h.setFlag.ite h).spreadErr).spreadDisable) ((h.setFlag.ite
    h).spreadErr.ite (((h.setFlag.ite h).setF.ite (h.setFlag.ite h)).spreadEnable.ite ((h.setFlag.ite
    h).setF.ite (h.setFlag.ite h))))

theorem State.canonical.spreadSlotsWrite (h : s.canonical) {n : Nat} : (s.spreadSlotsWrite n).canonical :=
  h.spreadErr.ite h.setF

theorem State.canonical.spreadSlotWrite (h : s.canonical) {k e : Nat} : (s.spreadSlotWrite k e).canonical :=
  h.spreadErr.ite h.setSlotEntry

theorem State.canonical.spreadSlotsOf (h : s.canonical) {k : Nat} {v : Word} :
    (s.spreadSlotsOf k v).canonical :=
  h.foldl fun _ _ h1 => h1.spreadSlotWrite

theorem State.canonical.spreadAreaWrite (h : s.canonical) {r : Reg} {v : Word} :
    (s.spreadAreaWrite r v).canonical :=
  h.spreadErr.ite h.writeFields

theorem State.canonical.sroWrite (h : s.canonical) {limit : Bool} {p w : Nat} {v : Word} :
    (s.sroWrite limit p w v).canonical :=
  (h.ite h.frame.addWrap).writeFields

theorem State.canonical.sroDone (h : s.canonical) {p : Nat} : (s.sroDone p).canonical :=
  h.frame.addWrap.ite h

theorem State.canonical.mbxCmdWrite (h : s.canonical) {v : Word} : (s.mbxCmdWrite v).canonical :=
  h.setF.setF.ite (h.raise.ite (h.setF.setF.setFlag.mbxEnd.ite h.setF.setF.setFlag.modReeve))

theorem State.canonical.mbxDataWrite (h : s.canonical) {idx : Nat} {v : Word} :
    (s.mbxDataWrite idx v).1.canonical := by
  unfold State.mbxDataWrite
  split
  · exact h
  · exact h.modReeve

theorem State.canonical.fieldEffect (h : s.canonical) {r : Reg} {f : Nat} {v : Word} (ht : t.canonical) :
    ((s.fieldEffect r f v).getD t).canonical := by
  unfold State.fieldEffect
  split
  · exact h.writeIf
  · exact h.sigCtlWrite
  · exact h.signalTail
  · exact h.writeIf
  · exact h.sroInvStart.ite h
  · exact h.crnCtlWrite
  · exact h.writeIf
  · exact h.writeIf
  · exact h.writeIf
  · exact h.writeIf
  · exact h.writeIf
  · exact h.crnReclaimWrite
  · exact h.scrubCtlWrite
  · exact h.writeIf
  · exact h.writeIf
  · exact h.fieldTarget
  · exact ht

theorem State.canonical.parishEffect (h : s.canonical) {r : Reg} {inst idx : Nat} {v : Word} (ht : t.canonical) :
    ((s.parishEffect r inst idx v).getD t).canonical := by
  unfold State.parishEffect
  split
  · exact h.parCtlWrite
  · exact h.parishFieldsWrite
  · exact h.parishFieldsWrite
  · exact h.parishCancel.ite h
  · exact h.writeIf
  · exact h.writeIf
  · exact h.ringCtl
  · exact h.musCtlWrite
  · exact h.writeIf
  · exact h.writeIf
  · exact h.writeIf
  · exact h.sroWrite
  · exact h.sroWrite
  · exact ht

theorem State.canonical.portEffect (h : s.canonical) {r : Reg} {inst idx : Nat} {v : Word} (ht : t.canonical) :
    ((s.portEffect r inst idx v).getD t).canonical := by
  unfold State.portEffect
  split
  · exact h.granCtlWrite
  · exact h.writeIf
  · exact h.writeIf
  · exact h.writeIf
  · exact h.writeIf
  · exact h.lnkCtlWrite
  · exact h.linkTx
  · exact h.prbsCtl
  · exact h.portCtl
  · exact h.fabCtlWrite
  · exact h.writeFields
  · exact h.writeFields.recheckPort
  · exact h.discCtlWrite
  · exact h.writeIf
  · exact h.winBaseWrite
  · exact h.writeIf
  · exact h.dmaCtlWrite
  · exact h.setF
  · exact ht

theorem State.canonical.waferEffect (h : s.canonical) {r : Reg} {idx : Nat} {v : Word} (ht : t.canonical) :
    ((s.waferEffect r idx v).getD t).canonical := by
  unfold State.waferEffect
  split
  · exact h.modCtlWrite
  · exact h.pstateWrite
  · exact h.capWafer
  · exact h.capCtl
  · exact h.capParish
  · exact h.thermCtlWrite
  · exact h.ledgerWinWrite
  · exact h.setF
  · exact h.rcvResetWrite
  · exact h.recoveryGo.ite h
  · exact h.frzCtlWrite
  · exact h.winCtlWrite
  · exact h.bistWrite
  · exact h.irqCtlWrite
  · exact h.evtTailWrite
  · exact h.spreadCtlWrite
  · exact h.spreadSlotsWrite
  · exact h.spreadAreaWrite
  · exact h.spreadAreaWrite
  · exact h.spreadSlotsOf
  · exact h.mbxCmdWrite
  · exact ht

theorem getD_orElse {α : Type} (o : Option α) (p : Unit → Option α) (d : α) :
    (o.orElse p).getD d = o.getD ((p ()).getD d) := by
  cases o <;> rfl

theorem State.canonical.regEffect (h : s.canonical) {r : Reg} {inst idx : Nat} {v : Word} :
    (s.regEffect r inst idx v).1.canonical := by
  unfold State.regEffect
  split
  · exact h.irqEnWrite
  · exact h.writeErrClear
  · exact h.mbxDataWrite
  · split
    · exact h.gpioWrite
    · split
      · exact h.captureWrite
      · dsimp only
        rw [getD_orElse, getD_orElse, getD_orElse]
        exact h.fieldEffect (h.parishEffect (h.portEffect (h.waferEffect h.writeFields)))

theorem State.canonical.pageWrite (h : s.canonical) {w : Writer} {p : Page} {inst off : Nat} {data : List Byte} :
    (s.pageWrite w p inst off data).canonical := by
  unfold State.pageWrite
  refine h.ite ?_
  split
  · exact h.writeErr
  · exact h.writeErr.ite (h.writeErr.ite (h.regEffect.ite h.regEffect.writeErr).dropLines)

/-! ### The functions of Access -/

theorem State.canonical.tallyAccess (h : s.canonical) {f off : Nat} {kind : AccessKind} :
    (s.tallyAccess f off kind).1.canonical := by
  unfold State.tallyAccess
  dsimp only
  split
  · exact h.tallyRead
  · exact h.tallySet.ite (h.tallyAdd.ite h.tallyClear)
  · exact h

theorem State.canonical.slotAccess (h : s.canonical) {src : Source} {f off : Nat} {kind : AccessKind} :
    (s.slotAccess src f off kind).1.canonical := by
  unfold State.slotAccess
  dsimp only
  split
  · next n =>
    split
    · exact h
    · split
      · exact h.readPage (n := n)
      · exact h
  · split
    · exact h.pageWrite
    · exact h
  · exact h

theorem device_keeps : device.keeps := by
  intro s src f r o k h
  unfold device
  split
  · exact h.tallyAccess
  · exact h.slotAccess

theorem State.canonical.barWrites (h : s.canonical) {fn : FnId} {off addr : Nat} {data : List Byte}
    {l : List (Nat × Nat)} : (s.barWrites fn off addr data l).canonical := by
  induction l generalizing s with
  | nil => exact h
  | cons x l ih =>
    unfold State.barWrites
    dsimp only
    split
    · next e => exact ih ((h.request device_keeps).of_fst e).barAnswer
    · next e => exact ih ((h.request device_keeps).of_fst e)

theorem State.canonical.barReads (h : s.canonical) {fn : FnId} {off addr : Nat} {l : List (Nat × Nat)} :
    (s.barReads fn off addr l).1.canonical := by
  induction l generalizing s with
  | nil => exact h
  | cons x l ih => exact ih (h.request device_keeps)

theorem State.canonical.barRequest (h : s.canonical) {fn : FnId} {off addr : Nat} {op : RegOp} :
    (s.barRequest fn off addr op).canonical := by
  unfold State.barRequest
  split
  · exact h.barWrites
  · refine h.barReads.modHost.barFlush.foldl fun _ _ h1 => ?_
    split
    · exact h1.barAnswer
    · exact h1

theorem State.canonical.frozenRead (h : s.canonical) {fn : FnId} {n : Nat} : (s.frozenRead fn n).canonical :=
  h.setFlag.send

theorem State.canonical.barCommons (h : s.canonical) {fn : FnId} {off addr : Nat} {op : RegOp}
    {held : HeldWrite} : (s.barCommons fn off addr op held).canonical := by
  unfold State.barCommons
  refine State.canonical.ite ?_ h.barRequest
  split
  · exact h.frozenRead
  · exact h.holdWrite

theorem State.canonical.waferPage (h : s.canonical) {fn : FnId} {w : Writer} {off o : Nat} {page : Page × Nat}
    {op : RegOp} : (s.waferPage fn w off o page op).canonical := by
  unfold State.waferPage
  dsimp only
  split
  · exact h.winErr.send
  · exact h.winErr
  · exact h.readPage.send
  · exact h.pageWrite

theorem State.canonical.emptyAccess (h : s.canonical) {fn : FnId} {op : RegOp} :
    (s.emptyAccess fn op).canonical := by
  unfold State.emptyAccess
  split
  · exact h.send
  · exact h

theorem State.canonical.waferSlotAccess (h : s.canonical) {fn : FnId} {w : Writer} {off o : Nat}
    {page : Option (Page × Nat)} {op : RegOp} : (s.waferSlotAccess fn w off o page op).canonical := by
  unfold State.waferSlotAccess
  refine State.canonical.ite ?_ ?_
  · split
    · exact h.frozenRead
    · exact h.holdWrite
  · split
    · exact h.waferPage
    · exact h.emptyAccess

theorem State.canonical.bar0Access (h : s.canonical) {fn : FnId} {off : Nat} {op : RegOp} :
    (s.bar0Access fn off op).canonical := by
  unfold State.bar0Access
  refine h.waferSlotAccess.ite (h.barCommons.ite (State.canonical.ite (State.canonical.ite ?_ h.waferSlotAccess)
    h.emptyAccess))
  split
  · exact h.frozenRead.ite h.send
  · exact h

theorem State.canonical.msixWrite (h : s.canonical) {k byte : Nat} {data : List Byte} :
    (s.msixWrite k byte data).canonical :=
  h.modHost.msixFlush

theorem State.canonical.bar4Access (h : s.canonical) {fn : FnId} {off : Nat} {op : RegOp} :
    (s.bar4Access fn off op).canonical := by
  unfold State.bar4Access
  dsimp only
  split
  · exact h.send
  · exact h.send
  · exact h.send
  · exact h.send
  · exact h.send
  · refine h.ite ?_
    split
    · exact h.ringDoorbell
    · exact h.dmaDoorbellWrite
    · exact h.msixWrite
    · exact h

theorem execBar2Access_canonical (h : s.canonical) {fn : FnId} {offset : BitVec 36} {op : RegOp} :
    outCanonical (execBar2Access fn offset op s) := by
  unfold execBar2Access
  dsimp only
  split
  · exact h
  · exact h.barCommons

theorem State.canonical.innerAccess (h : s.canonical) {w : Writer} {place : RegPlace} {off : Nat} {op : RegOp} :
    (s.innerAccess w place off op).canonical := by
  unfold State.innerAccess
  dsimp only
  split
  · exact h.readPage.send
  · exact h.send
  · exact h.pageWrite.ite h
  · exact h

theorem execRegisterWrite_canonical (h : s.canonical) {path : RegPath} {op : RegOp} :
    outCanonical (execRegisterWrite path op s) := by
  unfold execRegisterWrite
  split
  · split
    · exact h.bar0Access
    · exact h
  · split
    · exact h.bar4Access
    · exact h
  · exact h.innerAccess
  · exact h.innerAccess

theorem State.canonical.applyHeld (h : s.canonical) {hd : HeldWrite} : (s.applyHeld hd).canonical := by
  unfold State.applyHeld
  split
  · exact h.doorbell
  · exact h.dmaDoorbell
  · exact h.barRequest
  · exact h.bar0Access

theorem State.canonical.applyHelds (h : s.canonical) : s.applyHelds.canonical :=
  State.canonical.foldl h.modHost fun _ _ h1 => h1.applyHeld

theorem State.canonical.issueParts (h : s.canonical) {src : Source} {ea group : Nat} {kind : Nat → Nat → AccessKind}
    {sink : Sink} {l : List (Nat × Nat)} : (s.issueParts src ea kind sink group l).canonical := by
  induction l generalizing s with
  | nil => exact h
  | cons x l ih =>
    have h1 {a k} : (s.requestPart device src a k sink group).1.canonical := h.requestPart device_keeps
    unfold State.issueParts
    split
    · next e => exact ih (h1.of_fst e).pushReq
    · next e => exact ih (h1.of_fst e)

theorem State.canonical.dropGroup (h : s.canonical) {group : Nat} : (s.dropGroup group).canonical :=
  h.frame

theorem execLoad_canonical (h : s.canonical) {f : FieldId} {t : ThreadId} {a : LoadArgs} :
    outCanonical (execLoad f t a s) := by
  unfold execLoad
  dsimp only
  refine h.gate (h.trap.ite (h.alignFault.ite ?_))
  split
  · exact h.issueParts.dropGroup.loadDone
  · exact h.issueParts.modThread

theorem execStore_canonical (h : s.canonical) {f : FieldId} {t : ThreadId} {a : StoreArgs} :
    outCanonical (execStore f t a s) :=
  h.gate (h.trap.ite (h.alignFault.ite h.issueParts.retireWith))

theorem execStoreAck_canonical {id : Nat} (h : s.canonical) : outCanonical (execStoreAck id s) := by
  unfold execStoreAck
  split
  · exact h
  · split
    · exact h
    · refine outCanonical.ite h ?_
      split
      · exact h.dropGroup.finishAccess
      · exact h

theorem execCommonsAccess_canonical (h : s.canonical) {src : Source} {addr : BitVec 57} {kind : AccessKind}
    {tag : Nat} : outCanonical (execCommonsAccess src addr kind tag s) := by
  unfold execCommonsAccess
  dsimp only
  split
  · next e0 => exact ((h.request device_keeps).of_fst e0)
  · next e0 => exact ((h.request device_keeps).of_fst e0).send

theorem execFreshFillDone_canonical (h : s.canonical) {f : FieldId} {g : BitVec 19} :
    outCanonical (execFreshFillDone f g s) := by
  unfold execFreshFillDone
  split
  · exact h
  · split
    · exact h
    · exact h.fillDone

theorem execFreshMapFault_canonical {f : FieldId} {word : BitVec 13} (h : s.canonical) :
    outCanonical (execFreshMapFault f word s) :=
  outCanonical.ite h (outCanonical.ite h.setF.setFlag.addSat h.setF.setFlag.addSat.frame)

theorem execFreshFaultZeroDone_canonical (h : s.canonical) {f : FieldId} {word : BitVec 13} :
    outCanonical (execFreshFaultZeroDone f word s) := by
  have hfill (l : List Nat) (g : Nat → Nat) {m : Memory} (hm : m.wf = true) :
      (l.foldl (fun m i => m.fillGranule f.val (g i)) m).wf = true := by
    induction l generalizing m with
    | nil => exact hm
    | cons i l ih => exact ih (Memory.wf_fillGranule _ _ hm)
  unfold execFreshFaultZeroDone
  split
  · exact h
  · refine State.canonical.releaseHeld device_keeps ?_
    exact h.withMem (hfill _ _ h.mem)

theorem execCommonsResponse_canonical {id : Nat} {status : AccStatusCode} {fresh : Bool} {data : List Byte}
    (h : s.canonical) : outCanonical (execCommonsResponse id status fresh data s) := by
  unfold execCommonsResponse
  split
  · exact h
  · refine outCanonical.ite h ?_
    split
    · exact outCanonical.ite trivial h.answer
    · exact h.failReq

theorem execRequestTimeout_canonical (h : s.canonical) {id : Nat} : outCanonical (execRequestTimeout id s) := by
  unfold execRequestTimeout
  split
  · exact h
  · split
    · exact h
    · exact h.failReq

theorem execLateResponse_canonical (h : s.canonical) {f : FieldId} {id : Nat} :
    outCanonical (execLateResponse f id s) := by
  unfold execLateResponse
  split
  · exact h
  · exact h.addSat

theorem execRouteRebuild_canonical (h : s.canonical) : outCanonical (execRouteRebuild s) := by
  unfold execRouteRebuild
  split
  · exact h
  · exact h.routeRebuild.releaseHeld device_keeps

theorem execSpreadEnable_canonical (h : s.canonical) : outCanonical (execSpreadEnable s) :=
  h.spreadEnable

theorem execSpreadDisable_canonical (h : s.canonical) : outCanonical (execSpreadDisable s) :=
  h.spreadDisable

theorem execSpreadDrained_canonical (h : s.canonical) : outCanonical (execSpreadDrained s) := by
  unfold execSpreadDrained
  split
  · exact h
  · exact h.frame.setFlag

theorem execSpreadSlotWrite_canonical (h : s.canonical) {k : Fin 80} {entry : BitVec 16} :
    outCanonical (execSpreadSlotWrite k entry s) :=
  h.spreadSlotWrite

theorem execSpreadMarkLost_canonical (h : s.canonical) {f : FieldId} :
    outCanonical (execSpreadMarkLost f s) := by
  unfold execSpreadMarkLost
  split
  · exact h
  · exact (h.ite h.setSlotEntry).frame.addWrap.ite (h.ite h.setSlotEntry).frame

theorem execSroWindowWrite_canonical (h : s.canonical) {p : ParishId} {w : Fin 16} {limit : Bool} {v : Word} :
    outCanonical (execSroWindowWrite p w limit v s) :=
  h.sroWrite

theorem execSroCopyDone_canonical (h : s.canonical) {p : ParishId} : outCanonical (execSroCopyDone p s) :=
  h.sroDone

theorem State.canonical.e2eReply (h : s.canonical) {x : E2eHeld} {rep : Reply} : (s.e2eReply x rep).canonical :=
  h.send

theorem State.canonical.e2eEnter (h : s.canonical) {x : E2eHeld} : (s.e2eEnter x).canonical :=
  h.frame

theorem State.canonical.e2eDone (h : s.canonical) {x : E2eHeld} {rep : Reply} : (s.e2eDone x rep).canonical :=
  h.e2eAnswer.e2eReply

theorem State.canonical.e2eApply (h : s.canonical) {x : E2eHeld} : (s.e2eApply x).canonical := by
  unfold State.e2eApply
  dsimp only
  split
  · split
    · next e1 => exact ((h.request device_keeps).of_fst e1).e2eDone
    · next e1 => exact ((h.request device_keeps).of_fst e1)
  · split
    · next e1 => exact ((h.request device_keeps).of_fst e1).e2eDone
    · next e1 => exact ((h.request device_keeps).of_fst e1)
  · split
    · next e1 => exact ((h.request device_keeps).of_fst e1).e2eDone
    · next e1 => exact ((h.request device_keeps).of_fst e1)
  · exact h.enqueueAt.e2eDone
  · refine h.noteAccess.e2eDone.ite ?_
    split
    · next e1 => exact (h.tallyApply.of_fst e1).e2eAnswer.send
    · next e1 => exact (h.tallyApply.of_fst e1).send

theorem State.canonical.e2eGo (h : s.canonical) {x : E2eHeld} : (s.e2eGo x).canonical :=
  h.frame.ite h.e2eEnter.e2eApply

theorem State.canonical.e2eArrive (h : s.canonical) {x : E2eHeld} : (s.e2eArrive x).canonical := by
  unfold State.e2eArrive
  split
  · split
    · dsimp only
      split
      · exact h.addSat.e2eReply
      · exact h.addSat
    · exact h.addSat.ite h.e2eGo
  · exact h.e2eReply
  · exact h.e2eReply

theorem execE2eTrackedRequest_canonical {f : FieldId} {rack : BitVec 7} {src : Source} {txseq : BitVec 24}
    {tOrig : BitVec 32} {req : TrackedReq} (h : s.canonical) :
    outCanonical (execE2eTrackedRequest f rack src txseq tOrig req s) :=
  outCanonical.ite trivial h.e2eArrive

theorem execE2eFilterRelease_canonical (h : s.canonical) {f : FieldId} :
    outCanonical (execE2eFilterRelease f s) := by
  unfold execE2eFilterRelease
  split
  · exact h
  · split
    · exact h
    · exact h.frame.e2eEnter.e2eApply

/-! ### The functions of Late -/

theorem State.canonical.releaseAll (h : s.canonical) : s.releaseAll.canonical :=
  h.releaseHeld device_keeps

theorem execImagesLoaded_canonical (h : s.canonical) : outCanonical (execImagesLoaded s) := by
  unfold execImagesLoaded
  split
  · exact h
  · exact h.imagesLoaded.releaseAll

theorem execModTransitionDone_canonical (h : s.canonical) : outCanonical (execModTransitionDone s) := by
  unfold execModTransitionDone
  split
  · exact h
  · split
    · exact h
    · exact h.modArrive.releaseAll

theorem execFldTransitionDone_canonical (h : s.canonical) {f : FieldId} :
    outCanonical (execFldTransitionDone f s) := by
  unfold execFldTransitionDone
  split
  · exact h
  · exact h.fieldDone.releaseAll

theorem execScrubDone_canonical (h : s.canonical) {f : FieldId} {verified : Bool} :
    outCanonical (execScrubDone f verified s) :=
  h.scrubDone device_keeps

theorem execFieldClearDone_canonical (h : s.canonical) {f : FieldId} {zeroOk : Bool} :
    outCanonical (execFieldClearDone f zeroOk s) :=
  h.fieldClearDone device_keeps

theorem State.canonical.loseSectors (h : s.canonical) {f : Nat} {l : List Nat} : (s.loseSectors f l).canonical :=
  h.withMem (Memory.wf_poison (fun o => cellKey f 0 o / 32) l h.mem)

theorem State.canonical.fieldResetJudge (h : s.canonical) {f : Nat} {spineBad : Bool} {lost : List Nat} :
    (s.fieldResetJudge f spineBad lost).canonical :=
  (h.loseSectors.fieldResetEnd.faultNow.ite (h.loseSectors.fieldResetEnd.retireField.ite
    (h.loseSectors.fieldResetEnd.retireField.ite h.loseSectors.fieldResetEnd))).deferredStop

theorem State.canonical.resetEnd (h : s.canonical) {scope target spine : Nat} {lost : Nat → List Nat} :
    (s.resetEnd scope target spine lost).canonical := by
  unfold State.resetEnd
  split
  · exact h.modEngine.escalateEngine
  · exact h.frame.escalateCrofter
  · exact h.fieldResetJudge
  · exact h.foldl fun _ _ h2 => h2.fieldResetJudge
  · exact (h.foldl fun _ _ h2 => h2.loseSectors.fieldResetEnd.deferredStop).takeDecision.ite
      (h.foldl fun _ _ h2 => h2.loseSectors.fieldResetEnd.deferredStop)

theorem execResetDone_canonical (h : s.canonical) {spine : BitVec 80} {lost : List (FieldId × BitVec 39)} :
    outCanonical (execResetDone spine lost s) := by
  unfold execResetDone
  split
  · exact h
  · exact (h.frame.resetEnd.setFlag.ite h.frame.resetEnd).releaseAll

theorem State.canonical.releaseRx (h : s.canonical) {k : Nat} : (s.releaseRx k).canonical :=
  State.canonical.foldl h.modLink fun _ _ h1 => (h1.foldl fun _ _ h2 => h2.takeMsg).freeBuffer

theorem State.canonical.thawEnd (h : s.canonical) : s.thawEnd.canonical := by
  unfold State.thawEnd
  dsimp only
  split
  · exact (((h.setF.shiftTimes.ite
      h.setF.shiftTimes.applyHelds).releaseDoorbells.runDeferred.ite (h.setF.shiftTimes.ite
      h.setF.shiftTimes.applyHelds).releaseDoorbells.runDeferred.startWaiting).foldl fun _ _ h2 =>
      h2.releaseRx).releaseAll.pSettle
  · exact (((h.setF.shiftTimes.ite
      h.setF.shiftTimes.applyHelds).releaseDoorbells.runDeferred.ite (h.setF.shiftTimes.ite
      h.setF.shiftTimes.applyHelds).releaseDoorbells.runDeferred.startWaiting).foldl fun _ _ h2 =>
      h2.releaseRx).releaseAll.pSettle.modAssay.freezeTrigger

theorem execFieldResume_canonical (h : s.canonical) {f : FieldId} : outCanonical (execFieldResume f s) := by
  unfold execFieldResume
  split
  · exact h
  · dsimp only
    split
    · exact h.setFlag.releaseAll
    · exact h.setFlag.releaseAll.thawEnd

theorem execWindowReadDone_canonical (h : s.canonical) : outCanonical (execWindowReadDone s) := by
  unfold execWindowReadDone
  split
  · exact h
  · exact ((State.canonical.foldl h.frame fun _ _ h2 => h2.wr.ite h2).setFlag.ite (State.canonical.foldl h.frame fun
      _ _ h2 => h2.wr.ite h2)).setFlag.modAssay

theorem execTapMem_canonical {addr : BitVec 64} (h : s.canonical) : outCanonical (execTapMem addr s) := by
  refine h.tapGate fun t h1 => h1.ite ?_
  exact h1.tapMode.setFlag.send.ite (State.canonical.send h1.tapMode.frame)

theorem execBistRestoreDone_canonical (h : s.canonical) {failing : List FieldId} :
    outCanonical (execBistRestoreDone failing s) :=
  h.bistRestore.applyHelds.releaseDoorbells.startWaiting.releaseAll.ite h.bistRestore

theorem State.canonical.advance (h : s.canonical) : s.advance.canonical :=
  h.frame

theorem tick_canonical (h : s.canonical) : outCanonical (tick s) :=
  (h.advance.settleScrubs device_keeps).releaseHeld device_keeps

/-! ### The dispatch and the step -/

/-- Every command keeps the canonical form. -/
theorem exec_canonical (h : s.canonical) (c : Instr) : outCanonical (exec c s) := by
  cases c with
  | powerUp => exact execPowerUp_canonical h
  | vinQualified => exact execVinQualified_canonical h
  | hearthAlive => exact execHearthAlive_canonical h
  | planeCharged => exact execPlaneCharged_canonical h
  | holdupCheckDone => exact execHoldupCheckDone_canonical h
  | reeveBootDone => exact execReeveBootDone_canonical h
  | clockStageDone => exact execClockStageDone_canonical h
  | hbmGroupTrained => exact execHbmGroupTrained_canonical h
  | seamsTrained => exact execSeamsTrained_canonical h
  | selfcheckDone => exact execSelfcheckDone_canonical h
  | imagesLoaded => exact execImagesLoaded_canonical h
  | fabricStageTimeout => exact execFabricStageTimeout_canonical h
  | bootReady => exact execBootReady_canonical h
  | hearthFwReportTimeout => exact execHearthFwReportTimeout_canonical h
  | hearthWatchdogExpire => exact execHearthWatchdogExpire_canonical h
  | perstDeassert => exact execPerstDeassert_canonical h
  | perstAssert => exact execPerstAssert_canonical h
  | h0Ready => exact execH0Ready_canonical h
  | h0LinkDown => exact execH0LinkDown_canonical h
  | h0ConfigRequest => exact execH0ConfigRequest_canonical h
  | vfFlr => exact execVfFlr_canonical h
  | pfFlr => exact execPfFlr_canonical h
  | flrComplete => exact execFlrComplete_canonical h
  | pwrFailAssert => exact execPwrFailAssert_canonical h
  | vinSagDetect => exact execVinSagDetect_canonical h
  | reeveSectionHandover => exact execReeveSectionHandover_canonical h
  | reeveHandoverTimeout => exact execReeveHandoverTimeout_canonical h
  | recordCommit => exact execRecordCommit_canonical h
  | modTargetActive => exact execModTargetActive_canonical h
  | modTargetDrowsy => exact execModTargetDrowsy_canonical h
  | modTargetStandby => exact execModTargetStandby_canonical h
  | modTargetOff => exact execModTargetOff_canonical h
  | drowsyDrainDone => exact execDrowsyDrainDone_canonical h
  | drainMsExpire => exact execDrainMsExpire_canonical h
  | modTransitionDone => exact execModTransitionDone_canonical h
  | wakeEdge => exact execWakeEdge_canonical h
  | fldTargetOn => exact execFldTargetOn_canonical h
  | fldTargetIdle => exact execFldTargetIdle_canonical h
  | fldTargetRetain => exact execFldTargetRetain_canonical h
  | fldTargetOff => exact execFldTargetOff_canonical h
  | fldTransitionDone => exact execFldTransitionDone_canonical h
  | pstateWrite => exact execPstateWrite_canonical h
  | pstateClockSwitch => exact execPstateClockSwitch_canonical h
  | pstateRailSettled => exact execPstateRailSettled_canonical h
  | estimatorInterval => exact execEstimatorInterval_canonical h
  | calibrationPeriod => exact execCalibrationPeriod_canonical h
  | droopDetect => exact execDroopDetect_canonical h
  | droopRelease => exact execDroopRelease_canonical h
  | droopWindowExpire => exact execDroopWindowExpire_canonical h
  | thermWarnCross f => exact execThermWarnCross_canonical h (f := f)
  | thermalTrip => exact execThermalTrip_canonical h
  | thermResume => exact execThermResume_canonical h
  | parentLoss => exact execParentLoss_canonical h
  | clockReparent => exact execClockReparent_canonical h
  | clockRelock => exact execClockRelock_canonical h
  | seamEccError => exact execSeamEccError_canonical h
  | seamUeLimit => exact execSeamUeLimit_canonical h
  | seamSatWindow => exact execSeamSatWindow_canonical h
  | routeRebuild => exact execRouteRebuild_canonical h
  | fieldRetire => exact execFieldRetire_canonical h
  | damageScanDone => exact execDamageScanDone_canonical h
  | retiredTaskStatus => exact execRetiredTaskStatus_canonical h
  | fieldRetiredPost => exact execFieldRetiredPost_canonical h
  | unitFencedPost => exact execUnitFencedPost_canonical h
  | spareEnabledPost => exact execSpareEnabledPost_canonical h
  | commonsAccess => exact execCommonsAccess_canonical h
  | freshFillDone => exact execFreshFillDone_canonical h
  | freshMapFault => exact execFreshMapFault_canonical h
  | freshFaultZeroDone => exact execFreshFaultZeroDone_canonical h
  | commonsResponse => exact execCommonsResponse_canonical h
  | requestTimeout => exact execRequestTimeout_canonical h
  | lateResponse => exact execLateResponse_canonical h
  | spreadEnable => exact execSpreadEnable_canonical h
  | spreadDisable => exact execSpreadDisable_canonical h
  | spreadDrained => exact execSpreadDrained_canonical h
  | spreadSlotWrite => exact execSpreadSlotWrite_canonical h
  | spreadMarkLost => exact execSpreadMarkLost_canonical h
  | sroWindowWrite => exact execSroWindowWrite_canonical h
  | sroCopyDone => exact execSroCopyDone_canonical h
  | threadStart => exact execThreadStart_canonical h
  | rvInstruction => exact execRvInstruction_canonical h
  | load => exact execLoad_canonical h
  | store => exact execStore_canonical h
  | storeAck => exact execStoreAck_canonical h
  | amo => exact execAmo_canonical h
  | lr => exact execLr_canonical h
  | sc => exact execSc_canonical h
  | fence _ _ _ succ => exact execFence_canonical h (succ := succ)
  | fenceI => exact execFenceI_canonical h
  | ecall => exact execEcall_canonical h
  | ebreak => exact execEbreak_canonical h
  | mret => exact execMret_canonical h
  | csrAccess => exact execCsrAccess_canonical h
  | xtIssue => exact execXtIssue_canonical h
  | xtIssueW => exact execXtIssueW_canonical h
  | issueWRetry => exact execIssueWRetry_canonical h
  | issueStatusReturn => exact execIssueStatusReturn_canonical h
  | taskEnqueue => exact execTaskEnqueue_canonical h
  | xtTadd => exact execXtTadd_canonical h
  | xtTset => exact execXtTset_canonical h
  | xtTwait => exact execXtTwait_canonical h
  | xtTarm => exact execXtTarm_canonical h
  | xtTread => exact execXtTread_canonical h
  | xtTcas => exact execXtTcas_canonical h
  | xtTchain => exact execXtTchain_canonical h
  | xtAmofaddS => exact execXtAmofaddS_canonical h
  | xtAmofaddBf2 => exact execXtAmofaddBf2_canonical h
  | xtAmoaddSatD => exact execXtAmoaddSatD_canonical h
  | xtAmocasD => exact execXtAmocasD_canonical h
  | xtPause => exact execXtPause_canonical h
  | pauseExpire => exact execPauseExpire_canonical h
  | xtExit => exact execXtExit_canonical h
  | xtBell => exact execXtBell_canonical h
  | xtKill => exact execXtKill_canonical h
  | sroInvStart => exact execSroInvStart_canonical h
  | sroInvDone => exact execSroInvDone_canonical h
  | tallyOpRead => exact execTallyOpRead_canonical h
  | tallyOpSet => exact execTallyOpSet_canonical h
  | tallyOpAdd => exact execTallyOpAdd_canonical h
  | tallyOpClearFlags => exact execTallyOpClearFlags_canonical h
  | tallyOpCas => exact execTallyOpCas_canonical h
  | tallyOpWait => exact execTallyOpWait_canonical h
  | tallyOpArm => exact execTallyOpArm_canonical h
  | tallyOpChain => exact execTallyOpChain_canonical h
  | tallyEngineCompletion => exact execTallyEngineCompletion_canonical h
  | tallyReceiptUpdate => exact execTallyReceiptUpdate_canonical h
  | waiterSatisfy => exact execWaiterSatisfy_canonical h
  | chainIssueRetry => exact execChainIssueRetry_canonical h
  | tallyParked => exact execTallyParked_canonical h
  | tallyReissue => exact execTallyReissue_canonical h
  | tlySigEnable => exact execTlySigEnable_canonical h
  | tlySigTailWrite => exact execTlySigTailWrite_canonical h
  | tlyUseRead => exact execTlyUseRead_canonical h
  | parishFieldsWrite => exact execParishFieldsWrite_canonical h
  | parishEnable => exact execParishEnable_canonical h
  | parishUnblock => exact execParishUnblock_canonical h
  | parishDisable => exact execParishDisable_canonical h
  | parishCancel => exact execParishCancel_canonical h
  | parishCancelDone => exact execParishCancelDone_canonical h
  | ringDoorbell => exact execRingDoorbell_canonical h
  | sheafFetch => exact execSheafFetch_canonical h
  | depWaitRetry => exact execDepWaitRetry_canonical h
  | depSatisfied => exact execDepSatisfied_canonical h
  | sheafDispatch => exact execSheafDispatch_canonical h
  | copyBurstAck => exact execCopyBurstAck_canonical h
  | sendBurstAck => exact execSendBurstAck_canonical h
  | sendReceive => exact execSendReceive_canonical h
  | sheafComplete => exact execSheafComplete_canonical h
  | ringEnable => exact execRingEnable_canonical h
  | ringDisable => exact execRingDisable_canonical h
  | ringRqHeadWrite => exact execRingRqHeadWrite_canonical h
  | musterGo => exact execMusterGo_canonical h
  | musterFree => exact execMusterFree_canonical h
  | musterOfferReceive => exact execMusterOfferReceive_canonical h
  | musterOfferRepeat => exact execMusterOfferRepeat_canonical h
  | musterFormTimeout => exact execMusterFormTimeout_canonical h
  | qrnNop => exact execQrnNop_canonical h
  | qrnMatmul => exact execQrnMatmul_canonical h
  | arrayHoldExit => exact execArrayHoldExit_canonical h
  | qrnHoldWindow => exact execQrnHoldWindow_canonical h
  | qrnMatmulCplx => exact execQrnMatmulCplx_canonical h
  | qrnMatmulWide => exact execQrnMatmulWide_canonical h
  | qrnLaneMv => exact execQrnLaneMv_canonical h
  | qrnTaskComplete => exact execQrnTaskComplete_canonical h
  | unitFault => exact execUnitFault_canonical h
  | sivNopTask => exact execSivNopTask_canonical h
  | sivRun => exact execSivRun_canonical h
  | sivTableImage => exact execSivTableImage_canonical h
  | sivTableLoad => exact execSivTableLoad_canonical h
  | sivTaskComplete => exact execSivTaskComplete_canonical h
  | sivInstrNop => exact execSivInstrNop_canonical h
  | sivLd => exact execSivLd_canonical h
  | sivLdData => exact execSivLdData_canonical h
  | sivSt => exact execSivSt_canonical h
  | sivFill => exact execSivFill_canonical h
  | sivArg => exact execSivArg_canonical h
  | sivAdd => exact execSivAdd_canonical h
  | sivSub => exact execSivSub_canonical h
  | sivMul => exact execSivMul_canonical h
  | sivFma => exact execSivFma_canonical h
  | sivMax => exact execSivMax_canonical h
  | sivMin => exact execSivMin_canonical h
  | sivAbs => exact execSivAbs_canonical h
  | sivNeg => exact execSivNeg_canonical h
  | sivRcp => exact execSivRcp_canonical h
  | sivDiv => exact execSivDiv_canonical h
  | sivSqrt => exact execSivSqrt_canonical h
  | sivCmplt => exact execSivCmplt_canonical h
  | sivCmple => exact execSivCmple_canonical h
  | sivCmpeq => exact execSivCmpeq_canonical h
  | sivSelect => exact execSivSelect_canonical h
  | sivAnd => exact execSivAnd_canonical h
  | sivOr => exact execSivOr_canonical h
  | sivXor => exact execSivXor_canonical h
  | sivShl => exact execSivShl_canonical h
  | sivShra => exact execSivShra_canonical h
  | sivShrl => exact execSivShrl_canonical h
  | sivCvtn => exact execSivCvtn_canonical h
  | sivCvtw => exact execSivCvtw_canonical h
  | sivLut => exact execSivLut_canonical h
  | sivRrow => exact execSivRrow_canonical h
  | sivRcol => exact execSivRcol_canonical h
  | sivShfl => exact execSivShfl_canonical h
  | sivPerm => exact execSivPerm_canonical h
  | crnEnable => exact execCrnEnable_canonical h
  | crnDisable => exact execCrnDisable_canonical h
  | crnNop => exact execCrnNop_canonical h
  | crnOpen => exact execCrnOpen_canonical h
  | crnClose => exact execCrnClose_canonical h
  | crnFork => exact execCrnFork_canonical h
  | crnStep => exact execCrnStep_canonical h
  | poolQueryReply => exact execPoolQueryReply_canonical h
  | poolAgentRequest => exact execPoolAgentRequest_canonical h
  | crnAppend => exact execCrnAppend_canonical h
  | crnGather => exact execCrnGather_canonical h
  | crnTruncate => exact execCrnTruncate_canonical h
  | crnSpill => exact execCrnSpill_canonical h
  | granaryWriteAck => exact execGranaryWriteAck_canonical h
  | crnRecall => exact execCrnRecall_canonical h
  | granaryReadDone => exact execGranaryReadDone_canonical h
  | granaryTimeout => exact execGranaryTimeout_canonical h
  | crnTaskComplete => exact execCrnTaskComplete_canonical h
  | crnReclaimGo => exact execCrnReclaimGo_canonical h
  | crnReclaimDone => exact execCrnReclaimDone_canonical h
  | scrNop => exact execScrNop_canonical h
  | voxelize => exact execVoxelize_canonical h
  | rulebook => exact execRulebook_canonical h
  | scrGather => exact execScrGather_canonical h
  | scatter => exact execScatter_canonical h
  | scrTaskComplete => exact execScrTaskComplete_canonical h
  | lomNop => exact execLomNop_canonical h
  | sessionInit => exact execSessionInit_canonical h
  | decode => exact execDecode_canonical h
  | encode => exact execEncode_canonical h
  | convert => exact execConvert_canonical h
  | frameBudgetExpire => exact execFrameBudgetExpire_canonical h
  | frameCommit => exact execFrameCommit_canonical h
  | loomJobComplete => exact execLoomJobComplete_canonical h
  | hbmEccError => exact execHbmEccError_canonical h
  | stackLoss => exact execStackLoss_canonical h
  | patrolStep => exact execPatrolStep_canonical h
  | refresh f bank => exact execRefresh_canonical h (_f := f) (_bank := bank)
  | hbmTempCross => exact execHbmTempCross_canonical h
  | scrubMark => exact execScrubMark_canonical h
  | scrubOverwrite => exact execScrubOverwrite_canonical h
  | scrubDone => exact execScrubDone_canonical h
  | granaryEnable => exact execGranaryEnable_canonical h
  | granaryDisable => exact execGranaryDisable_canonical h
  | s0EnumDone => exact execS0EnumDone_canonical h
  | s0LinkDown => exact execS0LinkDown_canonical h
  | linkTargetDown => exact execLinkTargetDown_canonical h
  | linkTargetUp => exact execLinkTargetUp_canonical h
  | linkTargetQuiet => exact execLinkTargetQuiet_canonical h
  | linkTargetTest => exact execLinkTargetTest_canonical h
  | linkSignalDetect => exact execLinkSignalDetect_canonical h
  | linkPhyTrained => exact execLinkPhyTrained_canonical h
  | linkTrainTimeout => exact execLinkTrainTimeout_canonical h
  | identSend => exact execIdentSend_canonical h
  | identReceive => exact execIdentReceive_canonical h
  | identTimeout => exact execIdentTimeout_canonical h
  | lossOfSignal => exact execLossOfSignal_canonical h
  | fecLockLost => exact execFecLockLost_canonical h
  | ucwLimitExceeded => exact execUcwLimitExceeded_canonical h
  | dataFlitReceive => exact execDataFlitReceive_canonical h
  | ackFlitReceive => exact execAckFlitReceive_canonical h
  | quietReqReceive => exact execQuietReqReceive_canonical h
  | quietAckReceive => exact execQuietAckReceive_canonical h
  | wakeReceive => exact execWakeReceive_canonical h
  | downNoticeReceive => exact execDownNoticeReceive_canonical h
  | testReqReceive => exact execTestReqReceive_canonical h
  | testAckReceive => exact execTestAckReceive_canonical h
  | ctrlRepeat => exact execCtrlRepeat_canonical h
  | ackDue => exact execAckDue_canonical h
  | replayTimeout => exact execReplayTimeout_canonical h
  | flitTransmit => exact execFlitTransmit_canonical h
  | bucketReturn => exact execBucketReturn_canonical h
  | e2eTrackedRequest => exact execE2eTrackedRequest_canonical h
  | e2eFilterRelease => exact execE2eFilterRelease_canonical h
  | quietReplayEmpty => exact execQuietReplayEmpty_canonical h
  | linkWakeDone => exact execLinkWakeDone_canonical h
  | linkTxWrite => exact execLinkTxWrite_canonical h
  | swingStep => exact execSwingStep_canonical h
  | prbsCtlWrite => exact execPrbsCtlWrite_canonical h
  | prbsClear => exact execPrbsClear_canonical h
  | prbsLock => exact execPrbsLock_canonical h
  | prbsLockLoss => exact execPrbsLockLoss_canonical h
  | prbsBerUpdate => exact execPrbsBerUpdate_canonical h
  | portCtlWrite => exact execPortCtlWrite_canonical h
  | discSend => exact execDiscSend_canonical h
  | discAnswerReceive => exact execDiscAnswerReceive_canonical h
  | discRxRelease => exact execDiscRxRelease_canonical h
  | helloReceive => exact execHelloReceive_canonical h
  | mapReceive => exact execMapReceive_canonical h
  | assignReceive => exact execAssignReceive_canonical h
  | joinReceive => exact execJoinReceive_canonical h
  | fmWaitExpire => exact execFmWaitExpire_canonical h
  | reachReceive => exact execReachReceive_canonical h
  | spreadEntryMove => exact execSpreadEntryMove_canonical h
  | withdrawReceive => exact execWithdrawReceive_canonical h
  | autoWithdrawExpire => exact execAutoWithdrawExpire_canonical h
  | timeSyncSend => exact execTimeSyncSend_canonical h
  | timeSyncReceive => exact execTimeSyncReceive_canonical h
  | syncMissing => exact execSyncMissing_canonical h
  | holdoverExpire => exact execHoldoverExpire_canonical h
  | ppsEdge => exact execPpsEdge_canonical h
  | bar2Access => exact execBar2Access_canonical h
  | barReadDeadline => exact execBarReadDeadline_canonical h
  | dmaDoorbell => exact execDmaDoorbell_canonical h
  | dmaDescFetch => exact execDmaDescFetch_canonical h
  | dmaDescComplete => exact execDmaDescComplete_canonical h
  | hostCompletionTimeout => exact execHostCompletionTimeout_canonical h
  | hostCompletionArrive => exact execHostCompletionArrive_canonical h
  | tagDrainExpire => exact execTagDrainExpire_canonical h
  | msixUnmask => exact execMsixUnmask_canonical h
  | sheafTimeout => exact execSheafTimeout_canonical h
  | bellIntervalEnd => exact execBellIntervalEnd_canonical h
  | recoveryGo => exact execRecoveryGo_canonical h
  | recoveryStart => exact execRecoveryStart_canonical h
  | suspectReplayStart => exact execSuspectReplayStart_canonical h
  | suspectCheckpoint => exact execSuspectCheckpoint_canonical h
  | replayBoundExpire => exact execReplayBoundExpire_canonical h
  | resetEngine => exact execResetEngine_canonical h
  | resetCrofter => exact execResetCrofter_canonical h
  | resetField => exact execResetField_canonical h
  | resetParish => exact execResetParish_canonical h
  | resetWaferWarm => exact execResetWaferWarm_canonical h
  | resetWaferCold => exact execResetWaferCold_canonical h
  | resetDone => exact execResetDone_canonical h
  | abortReceive => exact execAbortReceive_canonical h
  | reeveGetStatus => exact execReeveGetStatus_canonical h
  | reeveGetNonce => exact execReeveGetNonce_canonical h
  | tenantBind => exact execTenantBind_canonical h
  | tenantRelease => exact execTenantRelease_canonical h
  | fieldClearDone => exact execFieldClearDone_canonical h
  | assayGrant => exact execAssayGrant_canonical h
  | assayRevoke => exact execAssayRevoke_canonical h
  | fwStage => exact execFwStage_canonical h
  | fwActivate => exact execFwActivate_canonical h
  | lifecycle => exact execLifecycle_canonical h
  | debugUnlock => exact execDebugUnlock_canonical h
  | returnToService => exact execReturnToService_canonical h
  | spdmGetVersion => exact execSpdmGetVersion_canonical h
  | spdmGetCapabilities => exact execSpdmGetCapabilities_canonical h
  | spdmNegotiateAlgorithms => exact execSpdmNegotiateAlgorithms_canonical h
  | spdmGetDigests => exact execSpdmGetDigests_canonical h
  | spdmGetCertificate => exact execSpdmGetCertificate_canonical h
  | spdmChallenge => exact execSpdmChallenge_canonical h
  | spdmGetMeasurements => exact execSpdmGetMeasurements_canonical h
  | entropyStartupDone => exact execEntropyStartupDone_canonical h
  | entropyHealthFail => exact execEntropyHealthFail_canonical h
  | drbgReseed => exact execDrbgReseed_canonical h
  | nonceExpire => exact execNonceExpire_canonical h
  | reeveWatchdogRestart => exact execReeveWatchdogRestart_canonical h
  | rngDataRead => exact execRngDataRead_canonical h
  | freezePin => exact execFreezePin_canonical h
  | freezeRegister => exact execFreezeRegister_canonical h
  | freezeMessageReceive => exact execFreezeMessageReceive_canonical h
  | freezeArrive => exact execFreezeArrive_canonical h
  | freezeComplete => exact execFreezeComplete_canonical h
  | thawRegister => exact execThawRegister_canonical h
  | thawMessageReceive => exact execThawMessageReceive_canonical h
  | fieldResume => exact execFieldResume_canonical h
  | windowGo => exact execWindowGo_canonical h
  | windowReadDone => exact execWindowReadDone_canonical h
  | tapReset => exact execTapReset_canonical h
  | tapBypass => exact execTapBypass_canonical h
  | tapIdcode => exact execTapIdcode_canonical h
  | tapSamplePreload => exact execTapSamplePreload_canonical h
  | tapFreeze => exact execTapFreeze_canonical h
  | tapThaw => exact execTapThaw_canonical h
  | tapSel => exact execTapSel_canonical h
  | tapChain => exact execTapChain_canonical h
  | tapMem => exact execTapMem_canonical h
  | tapStat => exact execTapStat_canonical h
  | tapMbx => exact execTapMbx_canonical h
  | tapExtest => exact execTapExtest_canonical h
  | tapClamp => exact execTapClamp_canonical h
  | tapHighz => exact execTapHighz_canonical h
  | tapExtestPulse => exact execTapExtestPulse_canonical h
  | tapExtestTrain => exact execTapExtestTrain_canonical h
  | tapBisctl => exact execTapBisctl_canonical h
  | bistGo => exact execBistGo_canonical h
  | bistAbort => exact execBistAbort_canonical h
  | bistSetupDone => exact execBistSetupDone_canonical h
  | bistTestDone => exact execBistTestDone_canonical h
  | bistRestoreDone => exact execBistRestoreDone_canonical h
  | crierRead => exact execCrierRead_canonical h
  | crierWrite => exact execCrierWrite_canonical h
  | crierMailboxPost => exact execCrierMailboxPost_canonical h
  | mirrorPost => exact execMirrorPost_canonical h
  | mirrorRoll => exact execMirrorRoll_canonical h
  | sbSetModule => exact execSbSetModule_canonical h
  | sbSetPstate => exact execSbSetPstate_canonical h
  | sbSetField => exact execSbSetField_canonical h
  | sbSetCapWafer => exact execSbSetCapWafer_canonical h
  | sbSetCapParish => exact execSbSetCapParish_canonical h
  | sbSetWakeArm => exact execSbSetWakeArm_canonical h
  | sbThermResume => exact execSbThermResume_canonical h
  | sbGpioWrite => exact execSbGpioWrite_canonical h
  | gpioIrqDetect => exact execGpioIrqDetect_canonical h
  | gpioOutSet => exact execGpioOutSet_canonical h
  | gpioOutClr => exact execGpioOutClr_canonical h
  | gpioLockKeyWrite => exact execGpioLockKeyWrite_canonical h
  | gpioLockSetWrite => exact execGpioLockSetWrite_canonical h
  | i2cGo => exact execI2cGo_canonical h
  | i2cDone => exact execI2cDone_canonical h
  | tachUpdate => exact execTachUpdate_canonical h
  | mctpSetEndpointId => exact execMctpSetEndpointId_canonical h
  | mctpGetEndpointId => exact execMctpGetEndpointId_canonical h
  | mctpGetEndpointUuid => exact execMctpGetEndpointUuid_canonical h
  | mctpGetVersionSupport => exact execMctpGetVersionSupport_canonical h
  | mctpGetMsgTypeSupport => exact execMctpGetMsgTypeSupport_canonical h
  | mctpGetVendorSupport => exact execMctpGetVendorSupport_canonical h
  | pldmGetTid => exact execPldmGetTid_canonical h
  | pldmSetTid => exact execPldmSetTid_canonical h
  | pldmGetVersion => exact execPldmGetVersion_canonical h
  | pldmGetTypes => exact execPldmGetTypes_canonical h
  | pldmGetCommands => exact execPldmGetCommands_canonical h
  | pldmGetPdrRepoInfo => exact execPldmGetPdrRepoInfo_canonical h
  | pldmGetPdr _ record => exact execPldmGetPdr_canonical h (_record := record)
  | pldmGetSensorReading => exact execPldmGetSensorReading_canonical h
  | pldmGetStateSensors => exact execPldmGetStateSensors_canonical h
  | pldmGetFruMetadata => exact execPldmGetFruMetadata_canonical h
  | pldmGetFruTable => exact execPldmGetFruTable_canonical h
  | irqLineRise => exact execIrqLineRise_canonical h
  | irqHoldoffExpire => exact execIrqHoldoffExpire_canonical h
  | irqRearm => exact execIrqRearm_canonical h
  | errCaptureClear => exact execErrCaptureClear_canonical h
  | registerWrite => exact execRegisterWrite_canonical h
  | cmdAddrParityError => exact execCmdAddrParityError_canonical h
  | holdupExhausted => exact execHoldupExhausted_canonical h
  | waferFault => exact execWaferFault_canonical h
  | pwrFailGlitch => exact execPwrFailGlitch_canonical h
  | atsInvalidateRequest => exact execAtsInvalidateRequest_canonical h
  | escalationWindowSlide => exact execEscalationWindowSlide_canonical h
  | ppsOutEdge => exact execPpsOutEdge_canonical h

theorem step_canonical (h : s.canonical) : outCanonical (step s) := by
  unfold step
  split
  · exact tick_canonical h
  · exact exec_canonical h.frame _

/-- Settles O52: `exec_canonical` for the command in front, `tick_canonical` on an empty queue. The canonical form is
the model's own representation of memory and of the register file (log 20, a DESIGN CHOICE). -/
theorem stepKeepsTheCanonicalForm : Obligations.StepKeepsTheCanonicalForm := by
  unfold Obligations.StepKeepsTheCanonicalForm
  intro s s' h hstep
  have h1 := step_canonical h
  rwa [hstep] at h1

end Sys2Proof.Machine

/-! The error capture of a stack (O28): a parity error leaves an error time. -/

namespace Sys2Proof.Machine

/-- The reset state at 1 ns. -/
def oneNanosecondIn : State := { State.reset with now := 1 }

/-- A parity error on a stack's command bus is the page's first error (R405); a capture loads HDR_ERR_TIME with the
fabric time (R739). -/
theorem cmdAddrParityError_loads_errTime : ∃ t, exec (.cmdAddrParityError 0 0) oneNanosecondIn = .next t ∧
    t.rd .HDR_ERR_TIME (hdrInst .HBM 0) 0 = 1#64 ∧
    oneNanosecondIn.rd .HDR_ERR_TIME (hdrInst .HBM 0) 0 = 0#64 :=
  ⟨_, rfl, by decide, by decide⟩

/-- Refutes O28: the registers that CMD_ADDR_PARITY_ERROR may touch leave out HDR_ERR_TIME, which the capture of the
error loads (R405, R739). -/
theorem not_stacksScrubAndGranaryLink : ¬ Obligations.StacksScrubAndGranaryLink := by
  unfold Obligations.StacksScrubAndGranaryLink
  rintro ⟨-, -, hparity, -⟩
  obtain ⟨s', hexec, -, -, hregs⟩ := hparity 0 0 oneNanosecondIn
  obtain ⟨t, ht, hafter, hbefore⟩ := cmdAddrParityError_loads_errTime
  obtain rfl : t = s' := Host.Outcome.next.inj (ht.symm.trans hexec)
  have hsame := hregs .HDR_ERR_TIME (hdrInst .HBM 0) 0 (by decide)
  rw [hafter, hbefore] at hsame
  exact absurd hsame (by decide)

end Sys2Proof.Machine

/-! Instructions of a thread that end with their result in a register (O9): what each operation of a thread does to
it and what it leaves, then one lemma per command. -/

namespace Sys2Proof.Machine

/-! ### CSRs of a thread -/

@[simp] theorem Thread.csrv_setCsr_same (x : Thread) (n : Nat) (v : Word) : (x.setCsr n v).csrv n = v :=
  NMap.look_put_same ..

theorem Thread.csrv_setCsr_other (x : Thread) {n m : Nat} (v : Word) (h : m ≠ n) :
    (x.setCsr n v).csrv m = x.csrv m :=
  NMap.look_put_other _ _ h v

theorem Thread.xr_setX (x : Thread) (r : XReg) (v : Word) :
    (x.setX r v).xr r = if r.val = 0 then 0#64 else v := by
  split
  · next h => exact if_pos h
  · next h => exact x.xr_setX_same h v

/-! ### What changes one thread -/

/-- From `s` to `s'` only thread `t` of field `f` and the registers `l` change. -/
def State.changesThread (l : List Reg) (f t : Nat) (s s' : State) : Prop :=
  s.onlyThread f t s' ∧ s' = { s with regs := s'.regs, crofters := s'.crofters } ∧ s.onlyRegs l s'

section
variable {l : List Reg} {f t : Nat} {s u v : State}

theorem State.changesThread.trans (h : s.changesThread l f t u) (k : u.changesThread l f t v) :
    s.changesThread l f t v := by
  obtain ⟨hthread, hframe, hregs⟩ := h
  obtain ⟨kthread, kframe, kregs⟩ := k
  refine ⟨fun g w hw => (kthread g w hw).trans (hthread g w hw), kframe.trans ?_, hregs.trans kregs⟩
  rw [hframe]

theorem State.changesThread.mono {m : List Reg} (h : s.changesThread l f t u) (sub : l ⊆ m) :
    s.changesThread m f t u :=
  ⟨h.1, h.2.1, h.2.2.mono sub⟩

theorem State.changesThread_setThread (s : State) (x : Thread) : s.changesThread l f t (s.setThread f t x) :=
  ⟨fun _ _ h => s.thread_setThread_other x h, rfl, fun _ _ _ _ => rfl⟩

theorem State.changesThread_modThread (s : State) (g : Thread → Thread) :
    s.changesThread l f t (s.modThread f t g) :=
  s.changesThread_setThread _

theorem State.changesThread_refl (s : State) : s.changesThread l f t s :=
  ⟨fun _ _ _ => rfl, rfl, fun _ _ _ _ => rfl⟩

theorem State.changesThread_wr (s : State) {r : Reg} {i n : Nat} {v : Word} (h : r ∈ l) :
    s.changesThread l f t (s.wr r i n v) :=
  ⟨fun _ _ _ => rfl, rfl, s.onlyRegs_wr i n v h⟩

theorem State.changesThread_setF (s : State) {r : RF} {i n k : Nat} (h : r.reg ∈ l) :
    s.changesThread l f t (s.setF r i n k) :=
  s.changesThread_wr h

end

/-! ### The operations of a thread -/

/-- The registers that an instruction of a thread may change: the fault log and the instruction count. -/
def threadRegs : List Reg := [.CRF_FAULT_HEAD, .CRF_FAULTk, .CRF_INST_COUNT]

@[simp] theorem State.thread_modThread_same (s : State) (f t : Nat) (g : Thread → Thread) :
    (s.modThread f t g).thread f t = g (s.thread f t) :=
  s.thread_setThread_same ..

theorem State.thread_retire (s : State) (f t : Nat) : (s.retire f t).thread f t = (s.thread f t).counted :=
  State.thread_modThread_same ..

theorem State.changesThread_retire (s : State) (f t : Nat) : s.changesThread [.CRF_INST_COUNT] f t (s.retire f t) :=
  (s.changesThread_setF (r := RF.CRF_INST_COUNT_COUNT) (List.mem_singleton.2 rfl)).trans
    (State.changesThread_modThread _ _)

@[simp] theorem State.thread_retireWith (s : State) (f t n : Nat) (g : Thread → Thread) :
    (s.retireWith f t n g).thread f t = (g (s.thread f t)).retired n := by
  unfold State.retireWith
  rw [State.thread_retire, State.thread_modThread_same]
  rfl

theorem State.changesThread_retireWith (s : State) (f t n : Nat) (g : Thread → Thread) :
    s.changesThread [.CRF_INST_COUNT] f t (s.retireWith f t n g) :=
  (s.changesThread_modThread _).trans (State.changesThread_retire ..)

theorem State.thread_jumpTo (s : State) (f t : Nat) (pc : Word) (g : Thread → Thread) :
    (s.jumpTo f t pc g).thread f t = ({ g (s.thread f t) with pc := pc } : Thread).counted := by
  unfold State.jumpTo
  rw [State.thread_retire, State.thread_modThread_same]

theorem State.changesThread_jumpTo (s : State) (f t : Nat) (pc : Word) (g : Thread → Thread) :
    s.changesThread [.CRF_INST_COUNT] f t (s.jumpTo f t pc g) :=
  (s.changesThread_modThread _).trans (State.changesThread_retire ..)

theorem State.changesThread_faultLog (s : State) (f t cause : Nat) (tval : Word) :
    s.changesThread [.CRF_FAULT_HEAD, .CRF_FAULTk] f t (s.faultLog f t cause tval) := by
  unfold State.faultLog
  extract_lets x k s1 par w0 w3
  have h1 : s.changesThread [.CRF_FAULT_HEAD, .CRF_FAULTk] f t s1 := by
    unfold s1
    split
    · exact s.changesThread_setF (by decide)
    · exact s.changesThread_refl
  clear_value s1
  have hlog {i n : Nat} {v : Word} (u : State) :
      u.changesThread [.CRF_FAULT_HEAD, .CRF_FAULTk] f t (u.wr .CRF_FAULTk i n v) :=
    u.changesThread_wr (by decide)
  exact (((((h1.trans (hlog _)).trans (hlog _)).trans (hlog _)).trans (hlog _)).trans
    (State.changesThread_setF _ (by decide))).trans (State.changesThread_setF _ (by decide))

/-- A thread after a trap into M-mode (R116). -/
def Thread.trapped (x : Thread) (cause : Nat) (tval : Word) : Thread :=
  let ms := x.csrv csrMstatus
  let ms1 := putBits (putBits (putBits ms 7 1 (bits ms 3 1)) 3 1 0) 11 2 (if x.priv = .m then 3 else 0)
  { x.setCsr csrMepc x.pc |>.setCsr csrMcause (BitVec.ofNat 64 cause) |>.setCsr csrMtval tval
      |>.setCsr csrMstatus ms1 with
    priv := .m, st := .ready, pc := x.csrv csrMtvec &&& ~~~3#64 }

theorem State.faultLog_crofters (s : State) (f t cause : Nat) (tval : Word) :
    (s.faultLog f t cause tval).crofters = s.crofters := by
  have h1 : (if bit (s.rd .CRF_FAULTk f (s.getF RF.CRF_FAULT_HEAD_HEAD f 0 * 4)) 25 then
      s.setFlag RF.CRF_FAULT_HEAD_OVERFLOW f 0 true else s).crofters = s.crofters := by
    split
    · exact s.setFlag_crofters ..
    · rfl
  unfold State.faultLog
  rw [State.addSat_crofters, State.setF_crofters, State.wr_crofters, State.wr_crofters, State.wr_crofters,
    State.wr_crofters, h1]

theorem State.thread_trap (s : State) (f t cause : Nat) (tval : Word) :
    (s.trap f t cause tval).thread f t = (s.thread f t).trapped cause tval := by
  unfold State.trap
  rw [State.thread_modThread_same]
  have hlog : ((if (s.thread f t).priv = .u ∧ cause ≠ 8 ∧ cause ≠ 3 then s.faultLog f t cause tval else s).thread f t)
      = s.thread f t := by
    split
    · unfold State.thread; rw [State.faultLog_crofters]
    · rfl
  rw [hlog]
  rfl

theorem State.changesThread_trap (s : State) (f t cause : Nat) (tval : Word) :
    s.changesThread [.CRF_FAULT_HEAD, .CRF_FAULTk] f t (s.trap f t cause tval) := by
  refine State.changesThread.trans ?_ (State.changesThread_modThread _ _)
  split
  · exact s.changesThread_faultLog f t cause tval
  · exact s.changesThread_refl

theorem State.changesThread_accessTrap (s : State) (f t cause : Nat) (st : AccStatus) (addr : Word) :
    s.changesThread [.CRF_FAULT_HEAD, .CRF_FAULTk] f t (s.accessTrap f t cause st addr) :=
  (s.changesThread_modThread _).trans (State.changesThread_trap ..)

theorem State.thread_fpRound (s : State) {f t n : Nat} {rm : RmField} {m : RMode} (g : RMode → Thread → Thread)
    (h : rmOf rm ((s.thread f t).csrv csrFcsr) = some m) :
    (s.fpRound f t n rm g).thread f t = (g m (s.thread f t)).retired n := by
  unfold State.fpRound
  rw [h]
  exact s.thread_retireWith f t n (g m)

theorem State.changesThread_fpRound (s : State) (f t n : Nat) (rm : RmField) (g : RMode → Thread → Thread) :
    s.changesThread threadRegs f t (s.fpRound f t n rm g) := by
  unfold State.fpRound
  split
  · exact (s.changesThread_trap ..).mono (by decide)
  · exact (s.changesThread_retireWith ..).mono (by decide)

/-- Whatever the instruction, only its thread and the registers of threads change. -/
theorem State.changesThread_rvRun (s : State) (f t n : Nat) (i : RvInstr) :
    s.changesThread threadRegs f t (s.rvRun f t n i) := by
  have hret {g : Thread → Thread} : s.changesThread threadRegs f t (s.retireWith f t n g) :=
    (s.changesThread_retireWith ..).mono (by decide)
  have hjump {pc : Word} {g : Thread → Thread} : s.changesThread threadRegs f t (s.jumpTo f t pc g) :=
    (s.changesThread_jumpTo ..).mono (by decide)
  have htrap {c : Nat} {v : Word} : s.changesThread threadRegs f t (s.trap f t c v) :=
    (s.changesThread_trap ..).mono (by decide)
  cases i with
  | jal => exact hjump
  | jalr => exact hjump
  | branch op a b off =>
    unfold State.rvRun
    dsimp only
    split
    · exact hjump
    · exact hret
  | fp op =>
    cases op with
    | sgnj | sgnjn | sgnjx | min | max => exact hret
    | add | sub | mul | div | sqrt => exact s.changesThread_fpRound ..
  | fma => exact s.changesThread_fpRound ..
  | fcvtInt => exact s.changesThread_fpRound ..
  | fcvtFromInt => exact s.changesThread_fpRound ..
  | fcvtSD => exact s.changesThread_fpRound ..
  | illegal => exact htrap
  | fetchFault => exact (s.changesThread_accessTrap ..).mono (by decide)
  | alu | aluImm | shiftImm | unary | lui | auipc | fcmp | fclass | fcvtDS | fmvToX | fmvFromX | wfi => exact hret

/-! ### The end of a thread (R113) -/

theorem State.threadEnded_frame (s : State) (sheaf : Option Nat) (i c : Nat) (fl : Option SheafFail) (lost : Bool) :
    s.threadEnded sheaf i c fl lost = { s with seq := (s.threadEnded sheaf i c fl lost).seq } := by
  cases sheaf <;> rfl

theorem State.mem_threadEnded_other (s : State) {sheaf : Option Nat} (i c : Nat) (fl : Option SheafFail) (lost : Bool)
    {x : Sheaf} (hx : x ∈ s.seq.sheaves) (h : sheaf ≠ some x.serial) :
    x ∈ (s.threadEnded sheaf i c fl lost).seq.sheaves := by
  cases sheaf with
  | none => exact hx
  | some n =>
    have hn : ¬x.serial = n := fun e => h (by rw [e])
    exact List.mem_map.2 ⟨x, hx, if_neg hn⟩

theorem State.mem_threadEnded_same (s : State) {sheaf : Option Nat} (i c : Nat) (fl : Option SheafFail) (lost : Bool)
    {x : Sheaf} (hx : x ∈ s.seq.sheaves) (h : sheaf = some x.serial) :
    ∃ y ∈ (s.threadEnded sheaf i c fl lost).seq.sheaves, y.serial = x.serial ∧ y.threadsLeft = x.threadsLeft - 1 ∧
      y.threadsFailed = x.threadsFailed + b2n lost := by
  subst h
  exact ⟨_, List.mem_map.2 ⟨x, hx, if_pos rfl⟩, rfl, rfl, rfl⟩

theorem State.freeHw_frame (s : State) (f t : Nat) : s.freeHw f t = { s with
    commons := (s.freeHw f t).commons, crofters := (s.freeHw f t).crofters, tallies := (s.freeHw f t).tallies } := by
  unfold State.freeHw
  dsimp only
  split <;> rfl

theorem State.thread_freeHw (s : State) (f t : Nat) :
    (s.freeHw f t).thread f t = { freeThread with csr := (s.thread f t).csr } := by
  unfold State.freeHw
  dsimp only
  split
  · exact State.thread_setThread_same ..
  · exact State.thread_setThread_same ..

theorem State.onlyThread_freeHw (s : State) (f t : Nat) : s.onlyThread f t (s.freeHw f t) := by
  intro g u h
  unfold State.freeHw
  dsimp only
  split
  · exact State.thread_setThread_other _ _ h
  · exact State.thread_setThread_other _ _ h

/-! ### One lemma per command -/

theorem exec_rvInstruction (f : FieldId) (t : ThreadId) (len : InstrLen) (i : RvInstr) (s : State)
    (h : s.mayRun f.val t.val = true) :
    exec (.rvInstruction f t len i) s = .next (s.rvRun f.val t.val (lenBytes len) i) := by
  show Host.Outcome.next (s.gate ..) = _
  rw [State.gate_mayRun h]

theorem State.thread_rvRun_branch (s : State) (f t n : Nat) (op : BranchOp) (a b : XReg) (off : BitVec 13) :
    (s.rvRun f t n (.branch op a b off)).thread f t =
      if branchTaken op ((s.thread f t).xr a) ((s.thread f t).xr b) then
        ({ s.thread f t with pc := (s.thread f t).pc + off.signExtend 64 } : Thread).counted
      else (s.thread f t).retired n := by
  unfold State.rvRun
  dsimp only
  split
  · exact s.thread_jumpTo ..
  · exact s.thread_retireWith ..

theorem State.xr_rvRun_fcmp (s : State) (f t n : Nat) (op : FpCmp) (w : FpW) (rd a b : XReg) :
    ((s.rvRun f t n (.fcmp op w rd a b)).thread f t).xr rd = if rd.val = 0 then 0#64 else
      b2w (fpCompare op (fpFmtOf w) (fpRead w ((s.thread f t).fr a)) (fpRead w ((s.thread f t).fr b))).1 := by
  unfold State.rvRun
  dsimp only
  rw [State.thread_retireWith]
  exact Thread.xr_setX ..

theorem State.thread_rvRun_fp (s : State) {f t n : Nat} {op : FpOp} {w : FpW} {rm : RmField} {m : RMode}
    {rd a b : XReg} (hop : op ∈ [FpOp.add, .sub, .mul, .div, .sqrt])
    (hm : rmOf rm ((s.thread f t).csrv csrFcsr) = some m) :
    (s.rvRun f t n (.fp op w rm rd a b)).thread f t = ((s.thread f t).fpWrite w rd
      (fpArith op (fpFmtOf w) m (fpRead w ((s.thread f t).fr a)) (fpRead w ((s.thread f t).fr b)))).retired n := by
  cases op with
  | sgnj | sgnjn | sgnjx | min | max => exact absurd hop (by decide)
  | add | sub | mul | div | sqrt => exact s.thread_fpRound _ hm

theorem State.xr_rvRun_fcvtInt (s : State) {f t n : Nat} {w : FpW} {iw : IntW} {rm : RmField} {m : RMode}
    {rd a : XReg} (hm : rmOf rm ((s.thread f t).csrv csrFcsr) = some m) :
    ((s.rvRun f t n (.fcvtInt w iw rm rd a)).thread f t).xr rd = if rd.val = 0 then 0#64 else
      (fpToInt iw (fpFmtOf w) m (fpRead w ((s.thread f t).fr a))).1 := by
  unfold State.rvRun
  rw [s.thread_fpRound _ hm]
  exact Thread.xr_setX ..

/-- The thread after the write of a CSR access. -/
def Thread.csrUpdated (y : Thread) (a : CsrArgs) (old v : Word) : Thread :=
  match a.op with
  | .rw => y.csrWrite a.csr.toNat v
  | .rs => if a.src.val = 0 then y else y.csrWrite a.csr.toNat (old ||| v)
  | .rc => if a.src.val = 0 then y else y.csrWrite a.csr.toNat (old &&& ~~~v)

/-- A CSR access that is allowed retires with its write (R105). -/
theorem State.csrAccess_of_allowed (s : State) {f t : Nat} {a : CsrArgs} {old v : Word}
    (hread : s.csrRead f t a.csr.toNat = some old)
    (hv : v = (if a.imm then BitVec.ofNat 64 a.src.val else (s.thread f t).xr a.src))
    (h1 : nbits a.csr.toNat 8 2 ≠ 1) (h2 : nbits a.csr.toNat 8 2 ≠ 2)
    (hpriv : nbits a.csr.toNat 8 2 = 3 → (s.thread f t).priv = .m)
    (hro : nbits a.csr.toNat 10 2 = 3 → a.op ≠ .rw ∧ a.src.val = 0) :
    s.csrAccess f t a =
      ({ s with serial := s.serial + 1 } : State).retireWith f t 4 (fun y => (y.csrUpdated a old v).setX a.rd old) := by
  have hu : nbits a.csr.toNat 8 2 = 3 → ¬(s.thread f t).priv = .u := fun h => by rw [hpriv h]; decide
  subst hv
  unfold State.csrAccess Thread.csrUpdated
  dsimp only
  rw [hread]
  dsimp only
  cases hop : a.op with
  | rw =>
    have hw : nbits a.csr.toNat 10 2 ≠ 3 := fun h => (hro h).1 hop
    rw [if_neg (by simpa [h1, h2, hw] using hu)]
    rfl
  | rs =>
    have hw : a.src ≠ 0 → nbits a.csr.toNat 10 2 ≠ 3 := fun h0 h => h0 (Fin.ext (hro h).2)
    rw [if_neg (by simpa [h1, h2] using ⟨hu, hw⟩)]
    by_cases h0 : a.src.val = 0 <;> simp [h0]
  | rc =>
    have hw : a.src ≠ 0 → nbits a.csr.toNat 10 2 ≠ 3 := fun h0 h => h0 (Fin.ext (hro h).2)
    rw [if_neg (by simpa [h1, h2] using ⟨hu, hw⟩)]
    by_cases h0 : a.src.val = 0 <;> simp [h0]

theorem exec_csrAccess (f : FieldId) (t : ThreadId) (a : CsrArgs) (s : State) (h : s.mayRun f.val t.val = true) :
    exec (.csrAccess f t a) s = .next (s.csrAccess f.val t.val a) := by
  show Host.Outcome.next (s.gate ..) = _
  rw [State.gate_mayRun h]

theorem exec_mret (f : FieldId) (t : ThreadId) (s : State) (h : s.mayRun f.val t.val = true)
    (hm : (s.thread f.val t.val).priv = .m) :
    exec (.mret f t) s = .next ((s.setThread f.val t.val (s.thread f.val t.val).mret).retire f.val t.val) := by
  show Host.Outcome.next (s.gate ..) = _
  rw [State.gate_mayRun h, hm]

theorem exec_ecall_m (f : FieldId) (t : ThreadId) (s : State) (h : s.mayRun f.val t.val = true)
    (hm : (s.thread f.val t.val).priv = .m) :
    exec (.ecall f t) s = .next (s.trap f.val t.val causeEcallM 0#64) := by
  show Host.Outcome.next (s.gate ..) = _
  rw [State.gate_mayRun h, hm]

/-- The thread that an ecall from U-mode returns to: the monitor provides no service (R810). -/
def Thread.ecallReturned (x : Thread) : Thread :=
  ((x.setX 10 (BitVec.ofInt 64 (-1))).setCsr csrMepc (x.csrv csrMepc + 4#64)).mret

theorem exec_ecall_u (f : FieldId) (t : ThreadId) (s : State) (h : s.mayRun f.val t.val = true)
    (hu : (s.thread f.val t.val).priv = .u) : exec (.ecall f t) s =
      .next ((s.trap f.val t.val causeEcallU 0#64).modThread f.val t.val Thread.ecallReturned) := by
  show Host.Outcome.next (s.gate ..) = _
  rw [State.gate_mayRun h, hu]
  rfl

theorem exec_ebreak_m (f : FieldId) (t : ThreadId) (s : State) (h : s.mayRun f.val t.val = true)
    (hm : (s.thread f.val t.val).priv = .m) :
    exec (.ebreak f t) s = .next (s.trap f.val t.val causeBreak (s.thread f.val t.val).pc) := by
  show Host.Outcome.next (s.gate ..) = _
  rw [State.gate_mayRun h, hm]

theorem exec_ebreak_u (f : FieldId) (t : ThreadId) (s : State) (h : s.mayRun f.val t.val = true)
    (hu : (s.thread f.val t.val).priv = .u) : exec (.ebreak f t) s =
      .next ((s.trap f.val t.val causeBreak (s.thread f.val t.val).pc).killThread f.val t.val 3) := by
  show Host.Outcome.next (s.gate ..) = _
  rw [State.gate_mayRun h, hu]

theorem exec_fenceI (f : FieldId) (t : ThreadId) (s : State) (h : s.mayRun f.val t.val = true) :
    exec (.fenceI f t) s = .next (s.retireWith f.val t.val 4 id) := by
  show Host.Outcome.next (s.gate ..) = _
  rw [State.gate_mayRun h]

theorem Thread.trapped_pc (x : Thread) (c : Nat) (v : Word) :
    (x.trapped c v).pc = x.csrv csrMtvec &&& ~~~3#64 := rfl

theorem Thread.trapped_priv (x : Thread) (c : Nat) (v : Word) : (x.trapped c v).priv = .m := rfl

theorem Thread.trapped_mepc (x : Thread) (c : Nat) (v : Word) : (x.trapped c v).csrv csrMepc = x.pc := by
  show (Thread.setCsr _ csrMstatus _).csrv csrMepc = x.pc
  rw [Thread.csrv_setCsr_other _ _ (by decide), Thread.csrv_setCsr_other _ _ (by decide),
    Thread.csrv_setCsr_other _ _ (by decide), Thread.csrv_setCsr_same]

theorem Thread.trapped_mcause (x : Thread) (c : Nat) (v : Word) :
    (x.trapped c v).csrv csrMcause = BitVec.ofNat 64 c := by
  show (Thread.setCsr _ csrMstatus _).csrv csrMcause = _
  rw [Thread.csrv_setCsr_other _ _ (by decide), Thread.csrv_setCsr_other _ _ (by decide), Thread.csrv_setCsr_same]

theorem Thread.ecallReturned_pc (x : Thread) : x.ecallReturned.pc = x.csrv csrMepc + 4#64 := by
  show (Thread.setCsr _ csrMepc _).csrv csrMepc = _
  exact Thread.csrv_setCsr_same ..

theorem Thread.ecallReturned_xr (x : Thread) : x.ecallReturned.xr 10 = BitVec.ofInt 64 (-1) := by
  show (x.setX 10 (BitVec.ofInt 64 (-1))).xr 10 = _
  exact x.xr_setX_same (r := 10) (by decide) _

/-- An mret returns to U-mode where MPP names it. -/
theorem Thread.ecallReturned_priv (x : Thread) (h : bits (x.csrv csrMstatus) 11 2 = 0) :
    x.ecallReturned.priv = .u := by
  show (if bits ((Thread.setCsr (x.setX 10 _) csrMepc _).csrv csrMstatus) 11 2 = 3 then Priv.m else Priv.u) = .u
  rw [Thread.csrv_setCsr_other _ _ (by decide)]
  show (if bits (x.csrv csrMstatus) 11 2 = 3 then Priv.m else Priv.u) = .u
  rw [h]
  rfl

theorem Thread.trapped_mpp (x : Thread) (c : Nat) (v : Word) (h : x.priv = .u) :
    bits ((x.trapped c v).csrv csrMstatus) 11 2 = 0 := by
  have hms : (x.trapped c v).csrv csrMstatus = putBits (putBits (putBits (x.csrv csrMstatus) 7 1
      (bits (x.csrv csrMstatus) 3 1)) 3 1 0) 11 2 (if x.priv = .m then 3 else 0) := Thread.csrv_setCsr_same ..
  rw [hms, bits_putBits_same _ _ _ _ (by decide), h]
  rfl

/-! ### The commands of the thread's own state -/

theorem exec_fence_wait (f : FieldId) (t : ThreadId) (pred succ : BitVec 4) (s : State)
    (h : s.mayRun f.val t.val = true) (hreqs : s.threadReqs f.val t.val ≠ [])
    (hpred : pred.getLsbD 0 = true ∨ pred.getLsbD 2 = true) : exec (.fence f t pred succ) s =
      .next (s.modThread f.val t.val (fun x => { x with st := .waitMem, fencing := true, waitLen := 4 })) := by
  show Host.Outcome.next (s.gate ..) = _
  have hw : (pred.getLsbD 0 || pred.getLsbD 2) = true := by rwa [Bool.or_eq_true]
  rw [State.gate_mayRun h, if_pos (by rw [hw]; simp [hreqs])]

theorem exec_fence_pass (f : FieldId) (t : ThreadId) (pred succ : BitVec 4) (s : State)
    (h : s.mayRun f.val t.val = true)
    (hdone : s.threadReqs f.val t.val = [] ∨ (pred.getLsbD 0 = false ∧ pred.getLsbD 2 = false)) :
    exec (.fence f t pred succ) s = .next (s.retireWith f.val t.val 4 id) := by
  show Host.Outcome.next (s.gate ..) = _
  rw [State.gate_mayRun h, if_neg]
  rcases hdone with hreqs | ⟨h0, h2⟩
  · simp [hreqs]
  · rw [h0, h2]; simp

section
variable {a : XtArgs} (hrd : a.rd.val = 0) (hrs2 : a.rs2.val = 0) (hrs3 : a.rs3.val = 0) (haq : a.aq = false)
  (hrl : a.rl = false)
include hrd hrs2 hrs3 haq hrl

/-- The operands that PAUSE, EXIT and KILL leave unused are zero. -/
theorem XtArgs.unused_zero :
    (decide (a.rd.val ≠ 0 ∨ a.rs2.val ≠ 0 ∨ a.rs3.val ≠ 0) || a.aq || a.rl) = false := by
  simp [hrd, hrs2, hrs3, haq, hrl]

theorem exec_xtPause (f : FieldId) (t : ThreadId) (s : State) (h : s.mayRun f.val t.val = true) :
    exec (.xtPause f t a) s = .next (if bits ((s.thread f.val t.val).xr a.rs1) 0 16 = 0
      then s.retireWith f.val t.val 4 id
      else s.retireWith f.val t.val 4
        (fun y => { y with st := .paused, pause := bits ((s.thread f.val t.val).xr a.rs1) 0 16 })) := by
  have h0 := XtArgs.unused_zero hrd hrs2 hrs3 haq hrl
  show Host.Outcome.next (s.gate ..) = _
  rw [State.gate_mayRun h, if_neg (by rw [h0]; decide)]

theorem exec_xtExit (f : FieldId) (t : ThreadId) (s : State) (h : s.mayRun f.val t.val = true) :
    exec (.xtExit f t a) s = .next ((s.retire f.val t.val).endThread f.val t.val
      (bits ((s.thread f.val t.val).xr a.rs1) 0 32)) := by
  have h0 := XtArgs.unused_zero hrd hrs2 hrs3 haq hrl
  show Host.Outcome.next (s.gate ..) = _
  rw [State.gate_mayRun h, if_neg (by rw [h0]; decide)]

theorem exec_xtKill (f : FieldId) (t : ThreadId) (s : State) (h : s.mayRun f.val t.val = true)
    (hm : (s.thread f.val t.val).priv = .m) :
    exec (.xtKill f t a) s = .next ((s.retire f.val t.val).killThread f.val t.val
      (bits ((s.thread f.val t.val).xr a.rs1) 0 32)) := by
  have h0 := XtArgs.unused_zero hrd hrs2 hrs3 haq hrl
  show Host.Outcome.next (s.gate ..) = _
  rw [State.gate_mayRun h, if_neg (by rw [hm, Bool.or_assoc, Bool.or_assoc, ← Bool.or_assoc (decide _) a.aq, h0]; decide)]

theorem exec_xtBell (f : FieldId) (t : ThreadId) (s : State) (hrs1 : a.rs1.val = 0) (h : s.mayRun f.val t.val = true) :
    exec (.xtBell f t a) s = .next (((s.addWrap RF.CRF_BELL_COUNT_COUNT f.val 0 1).modBell f.val
      (fun b => { b with rang := true })).retireWith f.val t.val 4 id) := by
  show Host.Outcome.next (s.gate ..) = _
  rw [State.gate_mayRun h, if_neg (by simp [hrd, hrs1, hrs2, hrs3, haq, hrl])]

end

theorem exec_pauseExpire (f : FieldId) (t : ThreadId) (s : State) (hrun : s.fieldRuns f.val = true)
    (hst : (s.thread f.val t.val).st = .paused) : exec (.pauseExpire f t) s =
      .next (s.setThread f.val t.val { s.thread f.val t.val with st := .ready, pause := 0 }) :=
  if_neg (by simp [hrun, hst])

/-! ### What the end of a thread leaves alone -/

/-- From `s` to `s'` thread `t` of field `f` ends: its sheaf, its accesses, its waits and the registers `l` may change,
and nothing else. -/
def State.endsThread (l : List Reg) (f t : Nat) (s s' : State) : Prop :=
  (s'.thread f t).st = .free ∧ (s'.thread f t).sheaf = none ∧ s.onlyThread f t s' ∧
    s' = { s with regs := s'.regs, commons := s'.commons, crofters := s'.crofters, tallies := s'.tallies,
                  seq := s'.seq } ∧ s.onlyRegs l s'

theorem State.seq_freeHw (s : State) (f t : Nat) : (s.freeHw f t).seq = s.seq := by
  rw [State.freeHw_frame]

theorem State.endsThread_threadEnded {l : List Reg} {f t : Nat} {s u : State} (h : s.changesThread l f t u)
    (sheaf : Option Nat) (i c : Nat) (fl : Option SheafFail) (lost : Bool) :
    s.endsThread l f t ((u.threadEnded sheaf i c fl lost).freeHw f t) := by
  obtain ⟨hthread, hframe, hregs⟩ := h
  have hseq := u.threadEnded_frame sheaf i c fl lost
  generalize u.threadEnded sheaf i c fl lost = v at hseq ⊢
  have hfree := v.freeHw_frame f t
  have hst := v.thread_freeHw f t
  have hother : u.onlyThread f t (v.freeHw f t) := by
    have hv := v.onlyThread_freeHw f t
    intro g w hw
    rw [hv g w hw, hseq]
    rfl
  generalize v.freeHw f t = z at hfree hst hother
  refine ⟨by rw [hst]; rfl, by rw [hst]; rfl, fun g w hw => (hother g w hw).trans (hthread g w hw), ?_, ?_⟩
  · rw [hfree, hseq, hframe]
  · have hz : z.regs = u.regs := by rw [hfree, hseq]
    intro r j m hr
    unfold State.rd
    rw [hz]
    exact hregs r j m hr

theorem State.endsThread_killThread {l : List Reg} {f t : Nat} {s u : State} (h : s.changesThread l f t u)
    (code : Nat) : s.endsThread l f t (u.killThread f t code) :=
  State.endsThread_threadEnded h ..

theorem State.endsThread_endThread {l : List Reg} {f t : Nat} {s u : State} (h : s.changesThread l f t u)
    (code : Nat) : s.endsThread l f t (u.endThread f t code) :=
  State.endsThread_threadEnded h ..

theorem State.sheaf_retire (s : State) (f t : Nat) : ((s.retire f t).thread f t).sheaf = (s.thread f t).sheaf := by
  rw [State.thread_retire]
  rfl

/-- A field's bell after it rang (R124). -/
def State.rung (s : State) (f : Nat) : State :=
  (s.addWrap RF.CRF_BELL_COUNT_COUNT f 0 1).modBell f (fun b => { b with rang := true })

theorem State.changesThread_rung (s : State) (f t : Nat) :
    s.changesThread (.CRF_BELL_COUNT :: threadRegs) f t (s.rung f) :=
  ⟨fun g u _ => State.thread_modBell _ f _ g u, rfl, s.onlyRegs_addWrap f 0 1 (by decide)⟩

theorem State.bell_rung (s : State) (f : Nat) : ((s.rung f).crofters.bells.look quietBell f).rang = true := by
  unfold State.rung State.modBell
  rw [NMap.look_put_same]

theorem State.getF_retireWith (s : State) (f t n : Nat) (g : Thread → Thread) {x : RF} {i m : Nat}
    (h : x.reg ≠ .CRF_INST_COUNT) : (s.retireWith f t n g).getF x i m = s.getF x i m :=
  State.getF_setF_reg (s.modThread f t fun y => (g y).advance n) (f := RF.CRF_INST_COUNT_COUNT) f 0 i m _ h

/-- Settles O9: every command does what its lemma above says. -/
theorem instructionsRetire : Obligations.InstructionsRetire := by
  unfold Obligations.InstructionsRetire
  refine ⟨fun f t len i s h => ?rv, ?csr, ?mret, ?ecall, ?ebreak, ?fenceI, ?fence, ?pause, ?expire, ?exit, ?bell, ?kill⟩
  case rv =>
    obtain ⟨hthread, hframe, hregs⟩ := s.changesThread_rvRun f.val t.val (lenBytes len) i
    refine ⟨_, exec_rvInstruction f t len i s h, ⟨?_, ?_, ?_, ?_, ?_, ?_, ?_, ?_, ?_, ?_, ?_, ?_, ?_, ?_, ?_, ?_, ?_, ?_,
      hthread⟩, hframe, hregs⟩
    · rintro op rd a b rfl; exact s.thread_retireWith ..
    · rintro op rd a imm rfl; exact s.thread_retireWith ..
    · rintro op rd a sh rfl; exact s.thread_retireWith ..
    · rintro op rd a rfl; exact s.thread_retireWith ..
    · rintro rd imm rfl; exact s.thread_retireWith ..
    · rintro rd imm rfl; exact s.thread_retireWith ..
    · rintro rd off rfl; exact s.thread_jumpTo ..
    · rintro rd a imm rfl; exact s.thread_jumpTo ..
    · rintro op a b off rfl; exact s.thread_rvRun_branch ..
    · rintro w rd a b rfl; exact s.xr_rvRun_fcmp ..
    · rintro op w rm m rd a b rfl hop hm; exact s.thread_rvRun_fp hop hm
    · rintro op w rm m rd a b c rfl hm; exact s.thread_fpRound _ hm
    · rintro w iw rm m rd a rfl hm; exact s.thread_fpRound _ hm
    · rintro w iw rm m rd a rfl hm; exact s.xr_rvRun_fcvtInt hm
    · rintro w rd a rfl; exact s.thread_retireWith ..
    · rintro rd a rfl; exact s.thread_retireWith ..
    · rintro rd a rfl; exact s.thread_retireWith ..
    · rintro rfl; exact s.thread_retireWith ..
  case csr =>
    rintro f t a old v s ⟨h, hread, hv, h1, h2, hpriv, hro⟩
    refine ⟨_, exec_csrAccess f t a s h, ?_⟩
    rw [s.csrAccess_of_allowed hread hv h1 h2 hpriv hro, State.thread_retireWith]
    obtain ⟨hthread, hframe, hregs⟩ := ({ s with serial := s.serial + 1 } : State).changesThread_retireWith f.val t.val
      4 (fun y => (y.csrUpdated a old v).setX a.rd old)
    refine ⟨⟨?_, ?_, ?_, hthread⟩, ?_, hregs.mono (by decide)⟩
    · intro hop; simp only [Thread.csrUpdated, hop]; rfl
    · intro hop; simp only [Thread.csrUpdated, hop]; rfl
    · intro hop; simp only [Thread.csrUpdated, hop]; rfl
    · rw [hframe]
  case mret =>
    rintro f t s ⟨h, hm⟩
    obtain ⟨hthread, hframe, hregs⟩ := (s.changesThread_setThread (l := [.CRF_INST_COUNT]) (f := f.val) (t := t.val)
      (s.thread f.val t.val).mret).trans (State.changesThread_retire ..)
    refine ⟨_, exec_mret f t s h hm, ⟨?_, hthread⟩, hframe, hregs.mono (by decide)⟩
    rw [State.thread_retire, State.thread_setThread_same]
  case ecall =>
    intro f t s h
    cases hp : (s.thread f.val t.val).priv with
    | u =>
      obtain ⟨hthread, hframe, hregs⟩ := (s.changesThread_trap f.val t.val causeEcallU 0#64).trans
        (State.changesThread_modThread _ Thread.ecallReturned)
      refine ⟨_, exec_ecall_u f t s h hp, ⟨fun _ => ?_, nofun, hthread⟩, hframe, hregs⟩
      rw [State.thread_modThread_same, State.thread_trap]
      refine ⟨Thread.ecallReturned_xr _, ?_, Thread.ecallReturned_priv _ (Thread.trapped_mpp _ _ _ hp)⟩
      rw [Thread.ecallReturned_pc, Thread.trapped_mepc]
    | m =>
      obtain ⟨hthread, hframe, hregs⟩ := s.changesThread_trap f.val t.val causeEcallM 0#64
      refine ⟨_, exec_ecall_m f t s h hp, ⟨nofun, fun _ => ?_, hthread⟩, hframe, hregs⟩
      rw [State.thread_trap]
      exact ⟨Thread.trapped_mepc .., Thread.trapped_mcause .., rfl, rfl⟩
  case ebreak =>
    intro f t s h
    have htrap := s.changesThread_trap f.val t.val causeBreak (s.thread f.val t.val).pc
    cases hp : (s.thread f.val t.val).priv with
    | u =>
      obtain ⟨hfree, hsheaf, hthread, hframe, hregs⟩ := State.endsThread_killThread htrap 3
      exact ⟨_, exec_ebreak_u f t s h hp, ⟨fun _ => ⟨hfree, hsheaf⟩, nofun, hthread⟩, hframe, hregs⟩
    | m =>
      obtain ⟨hthread, hframe, hregs⟩ := htrap
      refine ⟨_, exec_ebreak_m f t s h hp, ⟨nofun, fun _ => ?_, hthread⟩, ?_, hregs⟩
      · rw [State.thread_trap]
        exact ⟨Thread.trapped_mepc .., Thread.trapped_mcause .., rfl, rfl⟩
      · rw [hframe]
  case fenceI =>
    intro f t s h
    obtain ⟨hthread, hframe, hregs⟩ := s.changesThread_retireWith f.val t.val 4 id
    exact ⟨_, exec_fenceI f t s h, ⟨s.thread_retireWith .., hthread⟩, hframe, hregs.mono (by decide)⟩
  case fence =>
    intro f t pred succ s h
    by_cases hdone : s.threadReqs f.val t.val = [] ∨ (pred.getLsbD 0 = false ∧ pred.getLsbD 2 = false)
    · obtain ⟨hthread, hframe, hregs⟩ := s.changesThread_retireWith f.val t.val 4 id
      refine ⟨_, exec_fence_pass f t pred succ s h hdone, ⟨fun _ => s.thread_retireWith .., ?_, hthread⟩, hframe,
        hregs.mono (by decide)⟩
      rintro ⟨hreqs, hpred⟩
      rcases hdone with hnone | ⟨h0, h2⟩
      · exact absurd hnone hreqs
      · rw [h0, h2] at hpred
        exact absurd hpred (by decide)
    · have hreqs : s.threadReqs f.val t.val ≠ [] := fun e => hdone (.inl e)
      have hpred : pred.getLsbD 0 = true ∨ pred.getLsbD 2 = true := by
        by_contra hne
        exact hdone (.inr (by simpa using hne))
      obtain ⟨hthread, hframe, hregs⟩ := s.changesThread_modThread (l := []) (f := f.val) (t := t.val)
        (fun x => { x with st := .waitMem, fencing := true, waitLen := 4 })
      exact ⟨_, exec_fence_wait f t pred succ s h hreqs hpred, ⟨fun e => absurd e hdone,
        fun _ => s.thread_modThread_same .., hthread⟩, hframe, hregs.mono (by decide)⟩
  case pause =>
    rintro f t a s ⟨h, hrd, hrs2, hrs3, haq, hrl⟩
    refine ⟨_, exec_xtPause hrd hrs2 hrs3 haq hrl f t s h, ?_⟩
    split
    · next h0 =>
      obtain ⟨hthread, hframe, hregs⟩ := s.changesThread_retireWith f.val t.val 4 id
      exact ⟨⟨fun _ => s.thread_retireWith .., fun hne => absurd h0 hne, hthread⟩, hframe, hregs.mono (by decide)⟩
    · next h0 =>
      obtain ⟨hthread, hframe, hregs⟩ := s.changesThread_retireWith f.val t.val 4
        (fun y => { y with st := .paused, pause := bits ((s.thread f.val t.val).xr a.rs1) 0 16 })
      exact ⟨⟨fun e => absurd e h0, fun _ => s.thread_retireWith .., hthread⟩, hframe, hregs.mono (by decide)⟩
  case expire =>
    rintro f t s ⟨hrun, hst⟩
    exact ⟨_, exec_pauseExpire f t s hrun hst, ⟨s.thread_setThread_same .., fun g u hu => s.thread_setThread_other _ hu⟩,
      rfl⟩
  case exit =>
    rintro f t a s ⟨h, hrd, hrs2, hrs3, haq, hrl⟩
    have hsheaf := s.sheaf_retire f.val t.val
    obtain ⟨hfree, hnone, hthread, hframe, hregs⟩ := State.endsThread_endThread
      (s.changesThread_retire f.val t.val) (bits ((s.thread f.val t.val).xr a.rs1) 0 32)
    refine ⟨_, exec_xtExit hrd hrs2 hrs3 haq hrl f t s h, ⟨hfree, hnone, hthread, fun x hx hne => ?_, fun x hx e => ?_⟩,
      hframe, hregs.mono (by decide)⟩
    · unfold State.endThread
      rw [State.seq_freeHw]
      exact State.mem_threadEnded_other _ _ _ _ _ hx (by rwa [hsheaf])
    · unfold State.endThread
      rw [State.seq_freeHw]
      obtain ⟨y, hy, hserial, hleft, -⟩ := State.mem_threadEnded_same (s.retire f.val t.val)
        ((s.retire f.val t.val).thread f.val t.val).index (bits ((s.thread f.val t.val).xr a.rs1) 0 32) none false hx
        (hsheaf.trans e)
      exact ⟨y, hy, hserial, hleft⟩
  case bell =>
    rintro f t a s ⟨h, hrd, hrs1, hrs2, hrs3, haq, hrl⟩
    obtain ⟨hthread, hframe, hregs⟩ := (s.changesThread_rung f.val t.val).trans
      ((State.changesThread_retireWith _ f.val t.val 4 id).mono (m := .CRF_BELL_COUNT :: threadRegs) (by decide))
    refine ⟨_, exec_xtBell hrd hrs2 hrs3 haq hrl f t s hrs1 h, ⟨?_, hthread, ?_, ?_⟩, hframe, hregs⟩
    · exact State.thread_retireWith ..
    · rw [State.getF_retireWith _ _ _ _ _ (by decide)]
      exact s.getF_addWrap_same _ _ _ _ (by decide)
    · exact s.bell_rung f.val
  case kill =>
    rintro f t a s ⟨h, hm, hrd, hrs2, hrs3, haq, hrl⟩
    have hsheaf := s.sheaf_retire f.val t.val
    obtain ⟨hfree, hnone, hthread, hframe, hregs⟩ := State.endsThread_killThread
      (s.changesThread_retire f.val t.val) (bits ((s.thread f.val t.val).xr a.rs1) 0 32)
    refine ⟨_, exec_xtKill hrd hrs2 hrs3 haq hrl f t s h hm, ⟨hfree, hnone, hthread, fun x hx e => ?_⟩, hframe,
      hregs.mono (by decide)⟩
    unfold State.killThread
    rw [State.seq_freeHw]
    obtain ⟨y, hy, hserial, -, hfailed⟩ := State.mem_threadEnded_same (s.retire f.val t.val)
      ((s.retire f.val t.val).thread f.val t.val).index (bits ((s.thread f.val t.val).xr a.rs1) 0 32) _ true hx
      (hsheaf.trans e)
    exact ⟨y, hy, hserial, hfailed⟩

end Sys2Proof.Machine

/-! Resets below the wafer (O29): what the reset of an idle unit leaves, then one lemma per command. -/

namespace Sys2Proof.Machine

/-! ### Entries taken out of a map -/

theorem mapGet_filter {K V : Type} [DecidableEq K] (d : K → V) (k : K) (p : K → Bool) (m : List (K × V)) :
    mapGet d k (m.filter (fun e => p e.1)) = if p k then mapGet d k m else d k := by
  induction m with
  | nil => simp [mapGet]
  | cons e r ih =>
    obtain ⟨j, v⟩ := e
    by_cases hj : j = k
    · subst hj
      cases hp : p j
      · simpa [hp] using ih
      · simp [hp, mapGet]
    · cases hp : p j
      · simpa [hp, mapGet, hj] using ih
      · simpa [hp, mapGet, hj] using ih

theorem NMap.look_forget {V : Type} (m : NMap V) (d : V) (lo hi k : Nat) :
    (m.forget lo hi).look d k = if lo ≤ k ∧ k < hi then d else m.look d k := by
  have h := mapGet_filter (fun _ => d) k (fun j => !(decide (lo ≤ j) && decide (j < hi))) m
  unfold NMap.forget NMap.look
  rw [h]
  by_cases hk : lo ≤ k ∧ k < hi
  · rw [if_pos hk, if_neg (by simpa using hk)]
  · rw [if_neg hk, if_pos (by simp only [Bool.not_eq_true', Bool.and_eq_false_iff, decide_eq_false_iff_not]; omega)]

theorem State.rd_resetRegs (s : State) (p : RKey → Bool) (r : Reg) (i n : Nat) :
    (s.resetRegs p).rd r i n = if p (rkey r i n) then (rkey r i n).reset else s.rd r i n := by
  have h := mapGet_filter RKey.reset (rkey r i n) (fun k => !p k) s.regs
  unfold State.rd State.resetRegs
  rw [h]
  cases p (rkey r i n) <;> rfl

theorem rkey_val (k : RKey) : rkey k.reg k.inst.val k.idx.val = k := by
  obtain ⟨r, i, n⟩ := k
  simp [rkey]

theorem State.rd_rkey (s : State) (r : Reg) (i n : Nat) :
    s.rd r i n = s.rd (rkey r i n).reg (rkey r i n).inst.val (rkey r i n).idx.val :=
  congrArg (mapGet RKey.reset · s.regs) (rkey_val (rkey r i n)).symm

theorem putBits_bits (v : Word) (lo w : Nat) : putBits v lo w (bits v lo w) = v := by
  refine BitVec.eq_of_getLsbD_eq fun i hi => ?_
  rw [getLsbD_putBits _ _ _ _ _ hi]
  split
  · next h => rw [testBit_bits, Nat.add_sub_cancel' h.1, decide_eq_true (by omega), Bool.true_and]
  · rfl

theorem State.rd_addSat_zero (s : State) (f : RF) (i n : Nat) (r : Reg) (j m : Nat) :
    (s.addSat f i n 0).rd r j m = s.rd r j m := by
  have hsat : satAdd f.w (s.getF f i n) 0 = s.getF f i n := if_pos (bits_lt ..)
  have hset : s.addSat f i n 0 = s.wr f.reg i n (s.rd f.reg i n) := by
    unfold State.addSat State.setF
    rw [hsat]
    exact congrArg (s.wr f.reg i n) (putBits_bits ..)
  rw [hset]
  by_cases h : rkey r j m = rkey f.reg i n
  · unfold State.rd State.wr
    rw [h, mapGet_mapSet_same]
  · exact s.rd_wr_other h _

/-! ### Clearing what is idle -/

/-- A register that a reset of field `f` leaves as it is. -/
def fieldResetKeeps (f : Nat) (k : RKey) : Bool :=
  !(!keptInFieldReset k.reg && (fieldPages f).any (fun p => onPage p.1 p.2 k))

/-- What the clearing of an idle unit of field `f` leaves: all that the resets of this obligation are stated of, but
for registers that a reset of the field clears. -/
structure State.clearsIdle (f : Nat) (s t : State) : Prop where
  now : t.now = s.now
  mem : t.mem = s.mem
  seq : t.seq = s.seq
  resets : t.resets = s.resets
  commons : t.commons = s.commons
  crofters : t.crofters = s.crofters
  tallies : t.tallies = s.tallies
  cairns : t.cairns = s.cairns
  engine : ∀ g u, t.engine g u = s.engine g u
  rd : ∀ k : RKey, fieldResetKeeps f k = true → t.rd k.reg k.inst.val k.idx.val = s.rd k.reg k.inst.val k.idx.val

section
variable {f : Nat} {s t u : State}

theorem State.clearsIdle.refl (s : State) : s.clearsIdle f s :=
  ⟨rfl, rfl, rfl, rfl, rfl, rfl, rfl, rfl, fun _ _ => rfl, fun _ _ => rfl⟩

theorem State.clearsIdle.trans (h : s.clearsIdle f t) (k : t.clearsIdle f u) : s.clearsIdle f u where
  now := k.now.trans h.now
  mem := k.mem.trans h.mem
  seq := k.seq.trans h.seq
  resets := k.resets.trans h.resets
  commons := k.commons.trans h.commons
  crofters := k.crofters.trans h.crofters
  tallies := k.tallies.trans h.tallies
  cairns := k.cairns.trans h.cairns
  engine g v := (k.engine g v).trans (h.engine g v)
  rd q hq := (k.rd q hq).trans (h.rd q hq)

theorem State.clearsIdle_setEngine_self (s : State) (g u : Nat) : s.clearsIdle f (s.setEngine g u (s.engine g u)) := by
  refine ⟨rfl, rfl, rfl, rfl, rfl, rfl, rfl, rfl, fun h v => ?_, fun _ _ => rfl⟩
  by_cases e : unitKey h v = unitKey g u
  · unfold State.setEngine State.engine
    rw [e]
    exact NMap.look_put_same ..
  · exact s.engine_setEngine_other _ e

theorem State.clearsIdle_modEngine (s : State) {g u : Nat} {m : Engine → Engine}
    (h : m (s.engine g u) = s.engine g u) : s.clearsIdle f (s.modEngine g u m) := by
  unfold State.modEngine
  rw [h]
  exact s.clearsIdle_setEngine_self g u

theorem State.clearsIdle_endRunning (s : State) {g u st c : Nat} (h : (s.engine g u).running = []) :
    s.clearsIdle f (s.endRunning g u st c) := by
  unfold State.endRunning
  rw [h]
  exact s.clearsIdle_modEngine (by rw [← h])

theorem State.clearsIdle_cancelQueue (s : State) {g u c : Nat} (h : (s.engine g u).queue = []) :
    s.clearsIdle f (s.cancelQueue g u c) := by
  unfold State.cancelQueue
  rw [h]
  exact s.clearsIdle_modEngine (by rw [← h])

theorem State.cairnRollback_of_none (s : State) {g : Nat} (h : (s.cairn g).job = none) : s.cairnRollback g = s := by
  unfold State.cairnRollback
  rw [h]

theorem State.clearsIdle_fresh (s : State) : s.clearsIdle f s.fresh.2 :=
  ⟨rfl, rfl, rfl, rfl, rfl, rfl, rfl, rfl, fun _ _ => rfl, fun _ _ => rfl⟩

theorem State.clearsIdle_modLoom (s : State) (g : Nat) (m : Loom → Loom) : s.clearsIdle f (s.modLoom g m) :=
  ⟨rfl, rfl, rfl, rfl, rfl, rfl, rfl, rfl, fun _ _ => rfl, fun _ _ => rfl⟩

theorem State.clearsIdle_clearSieve (s : State) {n : Nat} (hf : f < 80) (hn : n < 2) :
    s.clearsIdle f (s.clearSieve f n) := by
  refine ⟨rfl, rfl, rfl, rfl, rfl, rfl, rfl, rfl, fun _ _ => rfl, fun k hk => ?_⟩
  have hne : rkey k.reg k.inst.val k.idx.val ≠ rkey .SIV_TABLE_STATE (f * 2 + n) 0 := by
    rw [rkey_val]
    rintro rfl
    have hmem : ((Page.SIV, f * 2 + n) : Page × Nat) ∈ fieldPages f := by
      obtain rfl | rfl : n = 0 ∨ n = 1 := by omega
      · simp [fieldPages]
      · simp [fieldPages]
    have hpage : onPage .SIV (f * 2 + n) (rkey .SIV_TABLE_STATE (f * 2 + n) 0) = true := by
      have hinst : (rkey .SIV_TABLE_STATE (f * 2 + n) 0).inst.val = f * 2 + n := Nat.mod_eq_of_lt (by omega)
      show (decide (Page.SIV = Page.SIV) && decide (_ = _)) = true
      rw [hinst]
      simp
    have hany : (fieldPages f).any (fun p => onPage p.1 p.2 (rkey .SIV_TABLE_STATE (f * 2 + n) 0)) = true :=
      List.any_eq_true.2 ⟨_, hmem, hpage⟩
    unfold fieldResetKeeps at hk
    rw [hany] at hk
    exact Bool.noConfusion (hk : false = true)
  exact State.rd_wr_other _ hne _

theorem Tallies.eq_of_no_entries (t : Tallies) (hw : t.waiters = []) (hs : t.selected = []) (hc : t.chainIssues = [])
    (hg : t.signals = []) : { t with waiters := [], selected := [], chainIssues := [], signals := [] } = t := by
  cases t
  simp_all

theorem State.clearsIdle_abortWaiters (s : State) {g : Nat} (h : s.entries = []) :
    s.clearsIdle f (s.abortWaiters g) := by
  have hdrop (p : Waiter → Bool) : s.dropWaiters p = s := by
    obtain ⟨hw, hs, hc, hg⟩ : s.tallies.waiters = [] ∧ s.tallies.selected = [] ∧ s.tallies.chainIssues = [] ∧
        s.tallies.signals = [] := by
      simpa [State.entries] using h
    unfold State.dropWaiters
    rw [hw, hs, hc, hg]
    exact congrArg (fun t => { s with tallies := t }) (Tallies.eq_of_no_entries _ hw hs hc hg)
  have habort : s.abortWaiters g = s.addSat RF.TLY_ABORTS_COUNT g 0 0 := by
    unfold State.abortWaiters
    dsimp only
    rw [h, hdrop]
    rfl
  rw [habort]
  exact ⟨rfl, rfl, rfl, rfl, rfl, rfl, rfl, rfl, fun _ _ => rfl, fun _ _ => s.rd_addSat_zero ..⟩

theorem State.clearsIdle_dropLaunches (s : State) {g : Nat} {fail : SheafFail} (h : s.crofters.launches = []) :
    s.clearsIdle f (s.dropLaunches g fail) := by
  have hdrop : s.dropLaunches g fail = s := by
    unfold State.dropLaunches
    rw [h]
    show ({ s with crofters := { s.crofters with launches := [] } } : State) = s
    rw [← h]
  rw [hdrop]
  exact .refl s

/-! ### A quiet field -/

/-- No unit of the field has a task, and its cairn no job. -/
structure State.idleUnits (s : State) (f : Nat) : Prop where
  job : (s.cairn f).job = none
  running : ∀ u ∈ fieldUnits, (s.engine f u).running = []
  queue : ∀ u ∈ fieldUnits, (s.engine f u).queue = []
  suspects : ∀ u ∈ fieldUnits, (s.engine f u).suspects = []

theorem State.quietField_iff (s : State) (f : Nat) : s.quietField f = true ↔ s.liveThreads f = [] ∧
    s.crofters.launches = [] ∧ s.entries = [] ∧ s.commons.fills = [] ∧ s.idleUnits f := by
  simp only [State.quietField, Bool.and_eq_true, decide_eq_true_eq, List.all_eq_true]
  constructor
  · rintro ⟨⟨⟨⟨⟨hlive, hlaunch⟩, hent⟩, hfill⟩, hjob⟩, hunits⟩
    exact ⟨hlive, hlaunch, hent, hfill, hjob, fun u hu => (hunits u hu).1.1, fun u hu => (hunits u hu).1.2,
      fun u hu => (hunits u hu).2⟩
  · rintro ⟨hlive, hlaunch, hent, hfill, hjob, hrun, hqueue, hsus⟩
    exact ⟨⟨⟨⟨⟨hlive, hlaunch⟩, hent⟩, hfill⟩, hjob⟩, fun u hu => ⟨⟨hrun u hu, hqueue u hu⟩, hsus u hu⟩⟩

/-- The tasks of one unit end at a field reset. -/
def State.unitCleared (f : Nat) (t : State) (u : Nat) : State :=
  let x := if u = unitCairn then t.cairnRollback f else t
  let sus := (x.engine f u).suspects
  ((x.endRunning f u stCancelled 0xFE).cancelQueue f u 0xFE).finishAll f u stCancelled 0xFE sus

theorem State.clearsIdle_unitCleared (h : s.clearsIdle f t) (hidle : s.idleUnits f) {u : Nat} (hu : u ∈ fieldUnits) :
    s.clearsIdle f (t.unitCleared f u) := by
  have hjob : (t.cairn f).job = none := by
    unfold State.cairn
    rw [h.cairns]
    exact hidle.job
  have hback : (if u = unitCairn then t.cairnRollback f else t) = t := by
    rw [State.cairnRollback_of_none t hjob]
    split <;> rfl
  have hrun := t.clearsIdle_endRunning (f := f) (g := f) (u := u) (st := stCancelled) (c := 0xFE)
    (by rw [h.engine]; exact hidle.running u hu)
  unfold State.unitCleared
  rw [hback]
  dsimp only
  rw [h.engine f u, hidle.suspects u hu]
  have hqueue := (t.endRunning f u stCancelled 0xFE).clearsIdle_cancelQueue (f := f) (g := f) (u := u) (c := 0xFE)
    (by rw [hrun.engine, h.engine]; exact hidle.queue u hu)
  exact h.trans (hrun.trans hqueue)

theorem State.clearsIdle_fieldUnits (h : s.clearsIdle f t) (hidle : s.idleUnits f) {l : List Nat}
    (hl : l ⊆ fieldUnits) : s.clearsIdle f (l.foldl (State.unitCleared f) t) := by
  induction l generalizing t with
  | nil => exact h
  | cons u r ih =>
    exact ih (State.clearsIdle_unitCleared h hidle (hl (List.mem_cons_self ..)))
      (fun v hv => hl (List.mem_cons_of_mem _ hv))

end

/-! ### The command register of resets -/

/-- A state that differs from another in its registers only, and of them in the command register of resets only. -/
structure State.resetRegOnly (s t : State) : Prop where
  eq : t = { s with regs := t.regs }
  regs : s.onlyRegs [.WFR_RCV_RESET] t

section
variable {s t u : State}

theorem State.resetRegOnly.trans (h : s.resetRegOnly t) (k : t.resetRegOnly u) : s.resetRegOnly u where
  eq := by rw [k.eq, h.eq]
  regs := h.regs.trans k.regs

theorem State.resetRegOnly_setF (s : State) {x : RF} (v : Nat) (h : x.reg = .WFR_RCV_RESET) :
    s.resetRegOnly (s.setF x 0 0 v) :=
  ⟨rfl, s.onlyRegs_setF 0 0 v (h ▸ List.mem_singleton_self _)⟩

theorem State.resetRegOnly_setFlag (s : State) {x : RF} (b : Bool) (h : x.reg = .WFR_RCV_RESET) :
    s.resetRegOnly (s.setFlag x 0 0 b) :=
  s.resetRegOnly_setF _ h

theorem State.resetRegOnly_resetWrite (s : State) (scope field cls unit parish : Nat) :
    s.resetRegOnly (s.resetWrite scope field cls unit parish) :=
  ((((s.resetRegOnly_setF scope rfl).trans (State.resetRegOnly_setF _ field rfl)).trans
    (State.resetRegOnly_setF _ cls rfl)).trans (State.resetRegOnly_setF _ unit rfl)).trans
    (State.resetRegOnly_setF _ parish rfl)

theorem State.resetRegOnly.getF (h : s.resetRegOnly t) {x : RF} (i n : Nat) (hx : x.reg ≠ .WFR_RCV_RESET) :
    t.getF x i n = s.getF x i n := by
  unfold State.getF
  rw [h.regs _ i n (by simpa using hx)]

theorem State.resetRegOnly.flag (h : s.resetRegOnly t) {x : RF} (i n : Nat) (hx : x.reg ≠ .WFR_RCV_RESET) :
    t.flag x i n = s.flag x i n :=
  congrArg (· == 1) (h.getF i n hx)

theorem State.resetRegOnly.inService (h : s.resetRegOnly t) (f : Nat) : t.inService f = s.inService f :=
  congrArg (· == 0) (h.getF 0 f (by decide))

theorem State.resetRegOnly.bistBusy (h : s.resetRegOnly t) : t.bistBusy = s.bistBusy := by
  unfold State.bistBusy
  rw [h.getF 0 0 (by decide)]

theorem State.resetRegOnly.frozen (h : s.resetRegOnly t) : t.frozen = s.frozen := by
  unfold State.frozen
  rw [h.getF 0 0 (by decide)]

theorem State.resetRegOnly.halted (h : s.resetRegOnly t) : t.halted = s.halted := h.flag 0 0 (by decide)

theorem State.resetRegOnly.engine (h : s.resetRegOnly t) (f n : Nat) : t.engine f n = s.engine f n := by
  rw [h.eq]
  rfl

theorem State.resetRegOnly.cairn (h : s.resetRegOnly t) (f : Nat) : t.cairn f = s.cairn f := by
  rw [h.eq]
  rfl

theorem State.resetRegOnly.thread (h : s.resetRegOnly t) (f n : Nat) : t.thread f n = s.thread f n := by
  rw [h.eq]
  rfl

theorem State.resetRegOnly.liveThreads (h : s.resetRegOnly t) (f : Nat) : t.liveThreads f = s.liveThreads f := by
  rw [h.eq]
  rfl

theorem State.resetRegOnly.quietField (h : s.resetRegOnly t) (f : Nat) : t.quietField f = s.quietField f := by
  rw [h.eq]
  rfl

end

/-- The fields of the command register of resets. -/
structure State.resetShows (s : State) (scope field cls unit parish : Nat) : Prop where
  scope : s.getF RF.WFR_RCV_RESET_SCOPE 0 0 = scope
  field : s.getF RF.WFR_RCV_RESET_FIELD 0 0 = field
  cls : s.getF RF.WFR_RCV_RESET_CLASS 0 0 = cls
  unit : s.getF RF.WFR_RCV_RESET_UNIT 0 0 = unit
  parish : s.getF RF.WFR_RCV_RESET_PARISH 0 0 = parish

theorem State.getF_lt (s : State) (x : RF) (i n : Nat) : s.getF x i n < 2 ^ x.w := bits_lt ..

theorem State.resetShows_resetWrite (s : State) {scope field cls unit parish : Nat} (hs : scope < 8) (hf : field < 128)
    (hc : cls < 16) (hu : unit < 16) (hp : parish < 32) :
    (s.resetWrite scope field cls unit parish).resetShows scope field cls unit parish := by
  unfold State.resetWrite
  refine ⟨?_, ?_, ?_, ?_, ?_⟩ <;> simp (disch := decide) only [State.getF_setF_disjoint, State.getF_setF_same]
  · exact Nat.mod_eq_of_lt hs
  · exact Nat.mod_eq_of_lt hf
  · exact Nat.mod_eq_of_lt hc
  · exact Nat.mod_eq_of_lt hu
  · exact Nat.mod_eq_of_lt hp

/-- BUSY stands as it stood before the write. -/
theorem State.busy_resetWrite (s : State) (scope field cls unit parish : Nat) :
    (s.resetWrite scope field cls unit parish).flag RF.WFR_RCV_RESET_BUSY 0 0 =
      s.flag RF.WFR_RCV_RESET_BUSY 0 0 := by
  unfold State.resetWrite State.flag
  simp (disch := decide) only [State.getF_setF_disjoint]

theorem State.resetShows.setBusy {s : State} {scope field cls unit parish : Nat} (b : Bool)
    (h : s.resetShows scope field cls unit parish) :
    (s.setFlag RF.WFR_RCV_RESET_BUSY 0 0 b).resetShows scope field cls unit parish := by
  unfold State.setFlag
  refine ⟨?_, ?_, ?_, ?_, ?_⟩ <;> simp (disch := decide) only [State.getF_setF_disjoint]
  · exact h.scope
  · exact h.field
  · exact h.cls
  · exact h.unit
  · exact h.parish

theorem State.resetFree_iff (s : State) : s.resetFree = true ↔ s.flag RF.WFR_RCV_RESET_BUSY 0 0 = false ∧
    s.bistBusy = false ∧ s.frozen = false ∧ s.halted = false := by
  simp [State.resetFree, and_assoc]

/-! ### The start of a reset, or its refusal -/

/-- The state in which a commanded reset starts: its fields and BUSY are in the command register. -/
def State.resetTaken (s : State) (scope field cls unit parish : Nat) : State :=
  (s.resetWrite scope field cls unit parish).setFlag RF.WFR_RCV_RESET_BUSY 0 0 true

/-- A reset of a scope and target waits for the thaw or for RESUME. -/
def State.waitReset (s : State) (x : Nat × Nat) : State :=
  { s with resets := { s.resets with waiting := s.resets.waiting ++ [x] } }

@[simp] theorem State.waitReset_resets (s : State) (x : Nat × Nat) :
    (s.waitReset x).resets = { s.resets with waiting := s.resets.waiting ++ [x] } := rfl

@[simp] theorem State.waitReset_engines (s : State) (x : Nat × Nat) : (s.waitReset x).engines = s.engines := rfl

@[simp] theorem State.flag_waitReset (s : State) (x : Nat × Nat) (y : RF) (i n : Nat) :
    (s.waitReset x).flag y i n = s.flag y i n := rfl

section
variable (s : State) (scope field cls unit parish : Nat)

theorem State.resetRegOnly_resetTaken : s.resetRegOnly (s.resetTaken scope field cls unit parish) :=
  (s.resetRegOnly_resetWrite ..).trans (State.resetRegOnly_setFlag _ true rfl)

theorem State.busy_resetTaken : (s.resetTaken scope field cls unit parish).flag RF.WFR_RCV_RESET_BUSY 0 0 = true :=
  State.flag_setFlag_same _ _ _ _ _ (by decide) rfl

theorem State.resetShows_resetTaken (s : State) {scope field cls unit parish : Nat} (hs : scope < 8) (hf : field < 128)
    (hc : cls < 16) (hu : unit < 16) (hp : parish < 32) :
    (s.resetTaken scope field cls unit parish).resetShows scope field cls unit parish :=
  (s.resetShows_resetWrite hs hf hc hu hp).setBusy true

/-- With no reset in progress, and neither frozen nor halted, the reset starts. -/
theorem State.resetGo_of_free (k : Nat) (h : s.resetFree = true) :
    (s.resetWrite scope field cls unit parish).resetGo scope (some k) =
      (s.resetTaken scope field cls unit parish).startReset scope k := by
  obtain ⟨hbusy, hbist, hfrozen, hhalted⟩ := s.resetFree_iff.1 h
  have hwritten := s.resetRegOnly_resetWrite scope field cls unit parish
  have htaken := s.resetRegOnly_resetTaken scope field cls unit parish
  unfold State.resetTaken at htaken ⊢
  unfold State.resetGo
  dsimp only
  rw [s.busy_resetWrite, hbusy, hwritten.bistBusy, hbist,
    htaken.frozen, hfrozen, htaken.halted, hhalted]
  rfl

/-- On a frozen or halted wafer the reset waits. -/
theorem State.resetGo_of_held (k : Nat) (hbusy : s.flag RF.WFR_RCV_RESET_BUSY 0 0 = false) (hbist : s.bistBusy = false)
    (hheld : (s.frozen || s.halted) = true) :
    (s.resetWrite scope field cls unit parish).resetGo scope (some k) =
      (s.resetTaken scope field cls unit parish).waitReset (scope, k) := by
  have hwritten := s.resetRegOnly_resetWrite scope field cls unit parish
  have htaken := s.resetRegOnly_resetTaken scope field cls unit parish
  unfold State.resetTaken at htaken ⊢
  unfold State.resetGo
  dsimp only
  rw [s.busy_resetWrite, hbusy, hwritten.bistBusy, hbist,
    htaken.frozen, htaken.halted, hheld]
  rfl

/-- A bad target, or a reset in progress, sets CMD_ERR. -/
theorem State.resetGo_of_refused (target : Option Nat)
    (h : target = none ∨ s.flag RF.WFR_RCV_RESET_BUSY 0 0 = true) :
    (s.resetWrite scope field cls unit parish).resetGo scope target =
      (s.resetWrite scope field cls unit parish).resetCmdErr := by
  cases target with
  | none => rfl
  | some k =>
    have hbusy : s.flag RF.WFR_RCV_RESET_BUSY 0 0 = true := h.resolve_left (Option.some_ne_none k)
    unfold State.resetGo
    dsimp only
    rw [s.busy_resetWrite, hbusy]
    rfl

/-- A refused command changes its register only. -/
theorem State.resetRegOnly_refused : s.resetRegOnly (s.resetWrite scope field cls unit parish).resetCmdErr :=
  (s.resetRegOnly_resetWrite ..).trans (State.resetRegOnly_setFlag _ true rfl)

theorem State.cmdErr_refused :
    (s.resetWrite scope field cls unit parish).resetCmdErr.flag RF.WFR_RCV_RESET_CMD_ERR 0 0 = true :=
  State.flag_setFlag_same _ _ _ _ _ (by decide) rfl

end

/-- What a refused reset command leaves. -/
theorem State.resetGo_refused (s : State) (scope field cls unit parish : Nat) (target : Option Nat)
    (h : target = none ∨ s.flag RF.WFR_RCV_RESET_BUSY 0 0 = true) :
    ((s.resetWrite scope field cls unit parish).resetGo scope target).flag RF.WFR_RCV_RESET_CMD_ERR 0 0 = true ∧
      s.resetRegOnly ((s.resetWrite scope field cls unit parish).resetGo scope target) := by
  rw [s.resetGo_of_refused scope field cls unit parish target h]
  exact ⟨s.cmdErr_refused .., s.resetRegOnly_refused ..⟩

theorem execResetEngine_refused (f : FieldId) (cls : EngineClass) (unit : BitVec 4) (s : State)
    (h : s.inService f.val = false ∨ engineUnit f.val cls unit.toNat = none ∨
      s.flag RF.WFR_RCV_RESET_BUSY 0 0 = true) :
    ∃ s', exec (.resetEngine f cls unit) s = .next s' ∧
      (s'.flag RF.WFR_RCV_RESET_CMD_ERR 0 0 = true ∧ s'.resets = s.resets ∧ s'.engines = s.engines) := by
  obtain ⟨herr, hreg⟩ := s.resetGo_refused 0 f.val (classCode cls) unit.toNat (s.getF RF.WFR_RCV_RESET_PARISH 0 0)
    (if s.inService f.val then (engineUnit f.val cls unit.toNat).map (unitKey f.val) else none) (by
      rcases h with h | h | h
      · exact .inl (by simp [h])
      · exact .inl (by simp [h])
      · exact .inr h)
  exact ⟨_, rfl, herr, by rw [hreg.eq], by rw [hreg.eq]⟩

theorem execResetCrofter_refused (f : FieldId) (c : CrofterId) (s : State)
    (h : s.inService f.val = false ∨ s.flag RF.WFR_RCV_RESET_BUSY 0 0 = true) :
    ∃ s', exec (.resetCrofter f c) s = .next s' ∧
      (s'.flag RF.WFR_RCV_RESET_CMD_ERR 0 0 = true ∧ s'.resets = s.resets ∧ s'.crofters = s.crofters) := by
  obtain ⟨herr, hreg⟩ := s.resetGo_refused 1 f.val (s.getF RF.WFR_RCV_RESET_CLASS 0 0) c.val
    (s.getF RF.WFR_RCV_RESET_PARISH 0 0) (if s.inService f.val then some (f.val * 16 + c.val) else none)
    (h.imp_left fun h => by simp [h])
  exact ⟨_, rfl, herr, by rw [hreg.eq], by rw [hreg.eq]⟩

theorem execResetField_refused (f : FieldId) (s : State)
    (h : s.inService f.val = false ∨ s.flag RF.WFR_RCV_RESET_BUSY 0 0 = true) :
    ∃ s', exec (.resetField f) s = .next s' ∧
      (s'.flag RF.WFR_RCV_RESET_CMD_ERR 0 0 = true ∧ s'.resets = s.resets ∧ s'.mem = s.mem) := by
  obtain ⟨herr, hreg⟩ := s.resetGo_refused 2 f.val (s.getF RF.WFR_RCV_RESET_CLASS 0 0)
    (s.getF RF.WFR_RCV_RESET_UNIT 0 0) (s.getF RF.WFR_RCV_RESET_PARISH 0 0)
    (if s.inService f.val then some f.val else none) (h.imp_left fun h => by simp [h])
  exact ⟨_, rfl, herr, by rw [hreg.eq], by rw [hreg.eq]⟩

theorem execResetEngine_held (f : FieldId) (cls : EngineClass) (unit : BitVec 4) (u : Nat) (s : State)
    (hbusy : s.flag RF.WFR_RCV_RESET_BUSY 0 0 = false) (hbist : s.bistBusy = false)
    (hheld : (s.frozen || s.halted) = true) (hin : s.inService f.val = true)
    (hunit : engineUnit f.val cls unit.toNat = some u) :
    ∃ s', exec (.resetEngine f cls unit) s = .next s' ∧
      (s'.resets.waiting = s.resets.waiting ++ [(0, unitKey f.val u)] ∧ s'.flag RF.WFR_RCV_RESET_BUSY 0 0 = true ∧
        s'.engines = s.engines ∧ s'.resets.running = s.resets.running) := by
  refine ⟨(s.resetTaken 0 f.val (classCode cls) unit.toNat (s.getF RF.WFR_RCV_RESET_PARISH 0 0)).waitReset
    (0, unitKey f.val u), ?_, ?_, ?_, ?_, ?_⟩
  · show execResetEngine f cls unit s = _
    unfold execResetEngine
    rw [hin, hunit]
    exact congrArg _ (s.resetGo_of_held 0 _ _ _ _ _ hbusy hbist hheld)
  · rw [State.waitReset_resets, (s.resetRegOnly_resetTaken 0 _ _ _ _).eq]
  · rw [State.flag_waitReset]
    exact s.busy_resetTaken ..
  · rw [State.waitReset_engines, (s.resetRegOnly_resetTaken 0 _ _ _ _).eq]
  · rw [State.waitReset_resets, (s.resetRegOnly_resetTaken 0 _ _ _ _).eq]

/-! ### An idle engine -/

/-- The pages whose registers a field's reset clears. -/
def fieldResetPages : List Page :=
  [.FLD_SPINE, .FLD_COMMONS, .FLD_IRQ, .CRF, .TLY, .CRN, .SCR, .LOM, .SIV, .QRN]

theorem fieldResetKeeps_of_page {f : Nat} {k : RKey} {q : Page} (hq : k.reg.info.page = some q)
    (h : q ∉ fieldResetPages) :
    fieldResetKeeps f k = true := by
  have hpage (p : Page × Nat) (hp : p.1 ≠ q) : onPage p.1 p.2 k = false := by
    simp [onPage, hq, Ne.symm hp]
  have hany : (fieldPages f).any (fun p => onPage p.1 p.2 k) = false := by
    refine List.any_eq_false.2 fun p hp => ?_
    rw [hpage p fun e => h ?_]
    · exact Bool.false_ne_true
    · unfold fieldPages at hp
      simp only [List.cons_append, List.nil_append, List.mem_cons, List.mem_map] at hp
      rw [← e]
      rcases hp with rfl | rfl | rfl | rfl | rfl | rfl | rfl | rfl | rfl | rfl | ⟨_, _, rfl⟩ <;> simp [fieldResetPages]
  unfold fieldResetKeeps
  rw [hany, Bool.and_false]
  rfl

section
variable {f : Nat} {s t : State}

theorem State.clearsIdle.getF (h : s.clearsIdle f t) {x : RF} {q : Page} (hq : x.reg.info.page = some q)
    (hp : q ∉ fieldResetPages) (i n : Nat) :
    t.getF x i n = s.getF x i n := by
  unfold State.getF
  rw [t.rd_rkey, h.rd _ (fieldResetKeeps_of_page hq hp), ← s.rd_rkey]

theorem State.clearsIdle.flag (h : s.clearsIdle f t) {x : RF} {q : Page} (hq : x.reg.info.page = some q)
    (hp : q ∉ fieldResetPages) (i n : Nat) :
    t.flag x i n = s.flag x i n :=
  congrArg (· == 1) (h.getF hq hp i n)

theorem State.clearsIdle.cairn (h : s.clearsIdle f t) (g : Nat) : t.cairn g = s.cairn g :=
  by
  unfold State.cairn
  rw [h.cairns]

theorem State.clearsIdle_resetRunning (s : State) (u : Nat) (hrun : (s.engine f u).running = [])
    (hjob : (s.cairn f).job = none) : s.clearsIdle f (s.resetRunning f u 0) := by
  have hback : (if u = unitCairn then s.cairnRollback f else s) = s := by
    rw [s.cairnRollback_of_none hjob]
    exact ite_self s
  unfold State.resetRunning
  dsimp only
  rw [hback, hrun]
  split
  · have hmod := s.clearsIdle_modEngine (f := f) (g := f) (u := u) (m := fun e => { e with running := [] })
      (by rw [← hrun])
    exact hmod.trans (State.clearsIdle_fresh _)
  · exact s.clearsIdle_endRunning hrun

theorem State.clearsIdle_engineClear (s : State) (u : Nat) (hf : f < 80) (hjob : (s.cairn f).job = none) :
    s.clearsIdle f (s.engineClear f u) := by
  unfold State.engineClear
  split_ifs with hsieve hcairn hloom
  · exact s.clearsIdle_clearSieve hf (by omega)
  · rw [s.cairnRollback_of_none hjob]
    exact .refl s
  · exact s.clearsIdle_modLoom ..
  · exact .refl s

theorem State.clearsIdle_engineReset (s : State) (u : Nat) (hf : f < 80) (hrun : (s.engine f u).running = [])
    (hqueue : (s.engine f u).queue = []) (hjob : (s.cairn f).job = none) : s.clearsIdle f (s.engineReset f u) := by
  have h1 := s.clearsIdle_resetRunning u hrun hjob
  have h2 := h1.trans ((s.resetRunning f u 0).clearsIdle_cancelQueue (c := 0xFD) (by rw [h1.engine]; exact hqueue))
  exact h2.trans (State.clearsIdle_engineClear _ u hf (by rw [h2.cairn]; exact hjob))

end

/-- Every unit of a field has a number below 32. -/
theorem engineUnit_lt {f : Nat} {cls : EngineClass} {n u : Nat} (h : engineUnit f cls n = some u) : u < 32 := by
  cases cls <;> simp only [engineUnit, Option.ite_none_right_eq_some, Option.some.injEq] at h <;>
    obtain ⟨hn, rfl⟩ := h
  · omega
  · show 16 + n < 32
    omega
  · decide
  · decide
  · decide

/-- A reset of a scope and target is recorded as in progress. -/
def State.runReset (s : State) (scope target : Nat) : State :=
  { s with resets := { s.resets with running := s.resets.running ++ [(scope, target, s.now)] } }

section
variable (s : State) (scope target : Nat)

theorem State.runReset_running :
    (s.runReset scope target).resets.running = s.resets.running ++ [(scope, target, s.now)] := rfl

theorem State.runReset_fields : (s.runReset scope target).resets.fields = s.resets.fields := rfl

theorem State.runReset_engine (f u : Nat) : (s.runReset scope target).engine f u = s.engine f u := rfl

theorem State.runReset_cairn (f : Nat) : (s.runReset scope target).cairn f = s.cairn f := rfl

theorem State.runReset_getF (x : RF) (i n : Nat) : (s.runReset scope target).getF x i n = s.getF x i n := rfl

end

@[simp] theorem State.engine_modEngine_same (s : State) (f u : Nat) (g : Engine → Engine) :
    (s.modEngine f u g).engine f u = g (s.engine f u) := State.engine_setEngine_same ..

theorem State.startReset_engine (s : State) {f u : Nat} (hu : u < 32) :
    s.startReset 0 (unitKey f u) = (((s.runReset 0 (unitKey f u)).engineReset f u).countEngine f u).modEngine f u
      (fun e => { e with inReset := true }) := by
  have hf : unitKey f u / 32 = f := by unfold unitKey; omega
  have hn : unitKey f u % 32 = u := by unfold unitKey; omega
  unfold State.startReset
  dsimp only
  rw [hf, hn]
  rfl

/-- What the start of an idle engine's reset leaves. -/
structure State.engineResetStarted (f u : Nat) (s t : State) : Prop where
  getF : ∀ x : RF, x.reg = .WFR_RCV_RESET → t.getF x 0 0 = s.getF x 0 0
  running : t.resets.running = s.resets.running ++ [(0, unitKey f u, s.now)]
  inReset : (t.engine f u).inReset = true
  counted : (t.engine f u).resets = s.recent sec60 (s.engine f u).resets ++ [s.now]
  mem : t.mem = s.mem
  seq : t.seq = s.seq

theorem State.engineResetStarted_startReset (s : State) {f u : Nat} (hf : f < 80) (hu : u < 32)
    (hrun : (s.engine f u).running = []) (hqueue : (s.engine f u).queue = []) (hjob : (s.cairn f).job = none) :
    s.engineResetStarted f u (s.startReset 0 (unitKey f u)) := by
  have hclear : (s.runReset 0 (unitKey f u)).clearsIdle f ((s.runReset 0 (unitKey f u)).engineReset f u) :=
    (s.runReset 0 (unitKey f u)).clearsIdle_engineReset u hf hrun hqueue hjob
  rw [s.startReset_engine hu]
  generalize (s.runReset 0 (unitKey f u)).engineReset f u = t at hclear
  refine ⟨fun x hx => ?_, ?_, ?_, ?_, ?_, ?_⟩
  · exact hclear.getF (q := .WFR_RCV) (by rw [hx]; rfl) (by decide) 0 0
  · exact (congrArg Resets.running hclear.resets).trans (s.runReset_running ..)
  · rw [State.engine_modEngine_same]
  · rw [State.engine_modEngine_same]
    unfold State.countEngine
    rw [State.engine_modEngine_same]
    show t.recent sec60 (t.engine f u).resets ++ [t.now] = _
    rw [hclear.engine, hclear.now]
    unfold State.recent
    rw [hclear.now]
    rfl
  · exact hclear.mem
  · exact hclear.seq

theorem execResetEngine_started (f : FieldId) (cls : EngineClass) (unit : BitVec 4) (u : Nat) (s : State)
    (hfree : s.resetFree = true) (hin : s.inService f.val = true)
    (hunit : engineUnit f.val cls unit.toNat = some u) (hrun : (s.engine f.val u).running = [])
    (hqueue : (s.engine f.val u).queue = []) (hjob : (s.cairn f.val).job = none) :
    ∃ s', exec (.resetEngine f cls unit) s = .next s' ∧
      (s'.flag RF.WFR_RCV_RESET_BUSY 0 0 = true ∧ s'.getF RF.WFR_RCV_RESET_SCOPE 0 0 = 0 ∧
        s'.getF RF.WFR_RCV_RESET_FIELD 0 0 = f.val ∧ s'.getF RF.WFR_RCV_RESET_CLASS 0 0 = classCode cls ∧
        s'.getF RF.WFR_RCV_RESET_UNIT 0 0 = unit.toNat ∧
        s'.resets.running = s.resets.running ++ [(0, unitKey f.val u, s.now)] ∧
        (s'.engine f.val u).inReset = true ∧
        (s'.engine f.val u).resets = s.recent sec60 (s.engine f.val u).resets ++ [s.now] ∧ s'.mem = s.mem ∧
        s'.seq = s.seq) := by
  have hcls : classCode cls < 16 := by cases cls <;> decide
  have hgo := s.resetGo_of_free 0 f.val (classCode cls) unit.toNat (s.getF RF.WFR_RCV_RESET_PARISH 0 0)
    (unitKey f.val u) hfree
  have hexec : exec (.resetEngine f cls unit) s =
      .next ((s.resetTaken 0 f.val (classCode cls) unit.toNat (s.getF RF.WFR_RCV_RESET_PARISH 0 0)).startReset 0
        (unitKey f.val u)) := by
    show execResetEngine f cls unit s = _
    unfold execResetEngine
    rw [hin, hunit]
    exact congrArg _ hgo
  have htaken := s.resetRegOnly_resetTaken 0 f.val (classCode cls) unit.toNat (s.getF RF.WFR_RCV_RESET_PARISH 0 0)
  have hbusy := s.busy_resetTaken 0 f.val (classCode cls) unit.toNat (s.getF RF.WFR_RCV_RESET_PARISH 0 0)
  have hshows := s.resetShows_resetTaken (scope := 0) (field := f.val) (by omega) (by omega) hcls unit.isLt
    (s.getF_lt RF.WFR_RCV_RESET_PARISH 0 0)
  generalize s.resetTaken 0 f.val (classCode cls) unit.toNat (s.getF RF.WFR_RCV_RESET_PARISH 0 0) = t at *
  have hstart := t.engineResetStarted_startReset (f := f.val) (u := u) f.isLt (engineUnit_lt hunit)
    (by rw [htaken.engine]; exact hrun) (by rw [htaken.engine]; exact hqueue) (by rw [htaken.cairn]; exact hjob)
  have hnow : t.now = s.now := by rw [htaken.eq]
  refine ⟨_, hexec, ?_, ?_, ?_, ?_, ?_, ?_, hstart.inReset, ?_, ?_, ?_⟩
  · exact (congrArg (· == 1) (hstart.getF _ rfl)).trans hbusy
  · exact (hstart.getF _ rfl).trans hshows.scope
  · exact (hstart.getF _ rfl).trans hshows.field
  · exact (hstart.getF _ rfl).trans hshows.cls
  · exact (hstart.getF _ rfl).trans hshows.unit
  · rw [hstart.running, hnow, htaken.eq]
  · rw [hstart.counted, htaken.engine, State.recent, hnow]
    rfl
  · rw [hstart.mem, htaken.eq]
  · rw [hstart.seq, htaken.eq]

/-! ### A crofter without live threads -/

/-- Thread `i` of a crofter is freed unless it is fenced. -/
def State.freeCrofterThread (f c : Nat) (s : State) (i : Nat) : State :=
  if (s.thread f (c * 8 + i)).st = .fenced then s else s.setThread f (c * 8 + i) freeThread

/-- The first `n` threads of a crofter are freed unless they are fenced, and nothing else changes. -/
structure State.crofterFreed (f c n : Nat) (s t : State) : Prop where
  eq : t = { s with crofters := t.crofters }
  thread : ∀ i < 8, t.thread f (c * 8 + i) =
    if i < n ∧ (s.thread f (c * 8 + i)).st ≠ .fenced then freeThread else s.thread f (c * 8 + i)

theorem State.crofterFreed_succ {f c n : Nat} {s t : State} (h : s.crofterFreed f c n t) (hn : n < 8) :
    s.crofterFreed f c (n + 1) (t.freeCrofterThread f c n) := by
  have hthis : t.thread f (c * 8 + n) = s.thread f (c * 8 + n) := by
    rw [h.thread n hn, if_neg (by omega)]
  unfold State.freeCrofterThread
  rw [hthis]
  split
  next hfence =>
    refine ⟨h.eq, fun i hi => (h.thread i hi).trans ?_⟩
    by_cases hin : i = n
    · subst hin
      rw [if_neg (by omega), if_neg (fun k => k.2 hfence)]
    · exact if_congr (and_congr_left' (by omega)) rfl rfl
  next hfence =>
    refine ⟨by rw [h.eq]; rfl, fun i hi => ?_⟩
    by_cases hin : i = n
    · subst hin
      rw [State.thread_setThread_same, if_pos ⟨by omega, hfence⟩]
    · rw [State.thread_setThread_other _ _ (by unfold threadKey; omega), h.thread i hi]
      exact if_congr (and_congr_left' (by omega)) rfl rfl

theorem State.crofterFreed_range {f c : Nat} (s : State) (n : Nat) (hn : n ≤ 8) :
    s.crofterFreed f c n ((List.range n).foldl (State.freeCrofterThread f c) s) := by
  induction n with
  | zero => exact ⟨rfl, fun i _ => (if_neg (by omega)).symm⟩
  | succ n ih =>
    rw [List.range_succ, List.foldl_append]
    exact State.crofterFreed_succ (ih (by omega)) (by omega)

theorem State.crofterFreed_crofterReset (s : State) {f c : Nat}
    (hlive : (s.liveThreads f).filter (fun t => t / 8 == c) = []) : s.crofterFreed f c 8 (s.crofterReset f c) := by
  have hreset : s.crofterReset f c = (List.range 8).foldl (State.freeCrofterThread f c) s := by
    unfold State.crofterReset
    dsimp only
    rw [hlive]
    rfl
  rw [hreset]
  exact s.crofterFreed_range 8 (Nat.le_refl 8)

/-- A crofter's reset is in the list of those held. -/
def State.holdCrofter (s : State) (f c : Nat) : State :=
  { s with resets := { s.resets with crofters := s.resets.crofters ++ [(f, c)] } }

theorem State.startReset_crofter (s : State) {f c : Nat} (hc : c < 16) :
    s.startReset 1 (f * 16 + c) =
      (((s.runReset 1 (f * 16 + c)).crofterReset f c).countCrofter f c).holdCrofter f c := by
  have hf : (f * 16 + c) / 16 = f := by omega
  have hn : (f * 16 + c) % 16 = c := by omega
  have hstart (k : Nat) : s.startReset 1 k = (((s.runReset 1 k).crofterReset (k / 16) (k % 16)).countCrofter
      (k / 16) (k % 16)).holdCrofter (k / 16) (k % 16) := by
    unfold State.startReset State.holdCrofter State.runReset
    rfl
  rw [hstart, hf, hn]

/-- What the start of a crofter's reset leaves. -/
structure State.crofterResetStarted (f c : Nat) (s t : State) : Prop where
  regs : t.regs = s.regs
  running : t.resets.running = s.resets.running ++ [(1, f * 16 + c, s.now)]
  crofters : t.resets.crofters = s.resets.crofters ++ [(f, c)]
  thread : ∀ i < 8, t.thread f (c * 8 + i) =
    if (s.thread f (c * 8 + i)).st = .fenced then s.thread f (c * 8 + i) else freeThread
  engines : t.engines = s.engines
  mem : t.mem = s.mem
  seq : t.seq = s.seq

theorem State.crofterResetStarted_startReset (s : State) {f c : Nat} (hc : c < 16)
    (hlive : (s.liveThreads f).filter (fun t => t / 8 == c) = []) :
    s.crofterResetStarted f c (s.startReset 1 (f * 16 + c)) := by
  have hfreed := (s.runReset 1 (f * 16 + c)).crofterFreed_crofterReset (f := f) hlive
  rw [s.startReset_crofter hc]
  generalize (s.runReset 1 (f * 16 + c)).crofterReset f c = t at hfreed
  obtain ⟨heq, hthread⟩ := hfreed
  refine ⟨?_, ?_, ?_, fun i hi => (hthread i hi).trans ?_, ?_, ?_, ?_⟩
  · show t.regs = s.regs
    rw [heq]
    rfl
  · show t.resets.running = _
    rw [heq]
    exact s.runReset_running ..
  · show t.resets.crofters ++ [(f, c)] = _
    rw [heq]
    rfl
  · show (if i < 8 ∧ (s.thread f (c * 8 + i)).st ≠ .fenced then freeThread else s.thread f (c * 8 + i)) = _
    by_cases hfence : (s.thread f (c * 8 + i)).st = .fenced
    · rw [if_pos hfence, if_neg (fun k => k.2 hfence)]
    · rw [if_neg hfence, if_pos ⟨hi, hfence⟩]
  · show t.engines = s.engines
    rw [heq]
    rfl
  · show t.mem = s.mem
    rw [heq]
    rfl
  · show t.seq = s.seq
    rw [heq]
    rfl

theorem execResetCrofter_started (f : FieldId) (c : CrofterId) (s : State) (hfree : s.resetFree = true)
    (hin : s.inService f.val = true) (hlive : (s.liveThreads f.val).filter (fun t => t / 8 == c.val) = []) :
    ∃ s', exec (.resetCrofter f c) s = .next s' ∧
      (s'.flag RF.WFR_RCV_RESET_BUSY 0 0 = true ∧ s'.getF RF.WFR_RCV_RESET_SCOPE 0 0 = 1 ∧
        s'.resets.running = s.resets.running ++ [(1, f.val * 16 + c.val, s.now)] ∧
        s'.resets.crofters = s.resets.crofters ++ [(f.val, c.val)] ∧
        (∀ i < 8, s'.thread f.val (c.val * 8 + i) =
          if (s.thread f.val (c.val * 8 + i)).st = .fenced then s.thread f.val (c.val * 8 + i) else freeThread) ∧
        s'.engines = s.engines ∧ s'.mem = s.mem ∧ s'.seq = s.seq) := by
  have hgo := s.resetGo_of_free 1 f.val (s.getF RF.WFR_RCV_RESET_CLASS 0 0) c.val
    (s.getF RF.WFR_RCV_RESET_PARISH 0 0) (f.val * 16 + c.val) hfree
  have hexec : exec (.resetCrofter f c) s = .next ((s.resetTaken 1 f.val (s.getF RF.WFR_RCV_RESET_CLASS 0 0) c.val
      (s.getF RF.WFR_RCV_RESET_PARISH 0 0)).startReset 1 (f.val * 16 + c.val)) := by
    show execResetCrofter f c s = _
    unfold execResetCrofter
    rw [hin]
    exact congrArg _ hgo
  have htaken := s.resetRegOnly_resetTaken 1 f.val (s.getF RF.WFR_RCV_RESET_CLASS 0 0) c.val
    (s.getF RF.WFR_RCV_RESET_PARISH 0 0)
  have hbusy := s.busy_resetTaken 1 f.val (s.getF RF.WFR_RCV_RESET_CLASS 0 0) c.val
    (s.getF RF.WFR_RCV_RESET_PARISH 0 0)
  have hshows := s.resetShows_resetTaken (scope := 1) (field := f.val) (by omega) (by omega)
    (s.getF_lt RF.WFR_RCV_RESET_CLASS 0 0) c.isLt (s.getF_lt RF.WFR_RCV_RESET_PARISH 0 0)
  generalize s.resetTaken 1 f.val (s.getF RF.WFR_RCV_RESET_CLASS 0 0) c.val
    (s.getF RF.WFR_RCV_RESET_PARISH 0 0) = t at *
  have hstart := t.crofterResetStarted_startReset (f := f.val) c.isLt (by rw [htaken.liveThreads]; exact hlive)
  have hget (x : RF) : (t.startReset 1 (f.val * 16 + c.val)).getF x 0 0 = t.getF x 0 0 := by
    unfold State.getF State.rd
    rw [hstart.regs]
  have hnow : t.now = s.now := by rw [htaken.eq]
  have hresets : t.resets = s.resets := by rw [htaken.eq]
  refine ⟨_, hexec, ?_, ?_, ?_, ?_, ?_, ?_, ?_, ?_⟩
  · exact (congrArg (· == 1) (hget _)).trans hbusy
  · exact (hget _).trans hshows.scope
  · rw [hstart.running, hnow, hresets]
  · rw [hstart.crofters, hresets]
  · intro i hi
    rw [hstart.thread i hi, htaken.thread]
  · rw [hstart.engines, htaken.eq]
  · rw [hstart.mem, htaken.eq]
  · rw [hstart.seq, htaken.eq]

/-! ### A quiet field's reset -/

/-- What is left of a state before the cleared state of field `f` is written: SRAM, engines, looms, tallies, threads,
filters and recoveries of the field. -/
def State.fieldWiped (s : State) (f : Nat) : State :=
  let keep := fun (t : Nat) => decide ((s.thread f t).st = .fenced)
  { s with
    mem := s.mem.zeroRange (cellKey f 1 0) (2 ^ 42)
    engines := s.engines.forget (f * 32) (f * 32 + 32)
    looms := s.looms.forget f (f + 1)
    tallies := { s.tallies with
      words := s.tallies.words.forget (f * 4096) (f * 4096 + 4096)
      dup := s.tallies.dup.forget (f * 80) (f * 80 + 80)
      peaks := s.tallies.peaks.forget f (f + 1) }
    crofters := { s.crofters with
      threads := s.crofters.threads.filter (fun e => e.1 / 128 != f || keep (e.1 % 128))
      bells := s.crofters.bells.forget f (f + 1) }
    verne := { s.verne with filters := s.verne.filters.forget (f * 2048) (f * 2048 + 2048) }
    commons := { s.commons with sroInv := s.commons.sroInv.filter (· != f) }
    resets := { s.resets with
      crofters := s.resets.crofters.filter (fun c => c.1 != f)
      crofterTimes := s.resets.crofterTimes.forget (f * 16) (f * 16 + 16)
      recoveries := s.resets.recoveries.map (fun (x : Recovery) => { x with
        engines := x.engines.filter (fun e => e.field != f) }) } }

section
variable {f : Nat} {s : State}

/-- What a quiet field's reset ends before it clears, leaves the state as it is. -/
theorem State.fieldClear_of_quiet (hf : f < 80) (h : s.quietField f = true) :
    ∃ t, s.clearsIdle f t ∧ s.fieldClear f = (t.fieldWiped f).fieldRegs f := by
  obtain ⟨hlive, hlaunch, hent, hfill, hidle⟩ := (s.quietField_iff f).1 h
  have h0 : s.clearsIdle f s.fresh.2 := s.clearsIdle_fresh
  unfold State.fieldClear
  dsimp -zeta only
  extract_lets fail s1 s2 s3 s4 s5
  have h1 : s.clearsIdle f s1 := by
    have hs1 : s1 = s.fresh.2 := by
      show (s.liveThreads f).foldl _ s.fresh.2 = s.fresh.2
      rw [hlive]
      rfl
    rw [hs1]
    exact h0
  have h2 : s.clearsIdle f s2 := h1.trans (s1.clearsIdle_dropLaunches (by rw [h1.crofters]; exact hlaunch))
  have h3 : s.clearsIdle f s3 := State.clearsIdle_fieldUnits h2 hidle (List.Subset.refl _)
  have h4 : s.clearsIdle f s4 := by
    have hent3 : s3.entries = [] := by
      unfold State.entries
      rw [h3.tallies]
      exact hent
    have hs4 : s4 = s3.abortWaiters f := by
      show (s3.abortWaiters f).endFills f s3.commons.fills.length = _
      rw [h3.commons, hfill]
      rfl
    rw [hs4]
    exact h3.trans (s3.clearsIdle_abortWaiters hent3)
  have h5 : s.clearsIdle f s5 := by
    have hsieves := (h4.trans (s4.clearsIdle_clearSieve hf (by decide : 0 < 2))).trans
      ((s4.clearSieve f 0).clearsIdle_clearSieve hf (by decide : 1 < 2))
    have hs5 : s5 = (s4.clearSieve f 0).clearSieve f 1 :=
      State.cairnRollback_of_none _ (by rw [hsieves.cairn]; exact hidle.job)
    rw [hs5]
    exact hsieves
  exact ⟨s5, h5, rfl⟩

/-- What the reset of a quiet field leaves. -/
structure State.fieldCleared (f : Nat) (s t : State) : Prop where
  now : t.now = s.now
  seq : t.seq = s.seq
  mem : t.mem = s.mem.zeroRange (cellKey f 1 0) (2 ^ 42)
  running : t.resets.running = s.resets.running
  fields : t.resets.fields = s.resets.fields
  fieldTimes : t.resets.fieldTimes = s.resets.fieldTimes
  rd : ∀ k : RKey, t.rd k.reg k.inst.val k.idx.val =
    if fieldResetKeeps f k then s.rd k.reg k.inst.val k.idx.val else k.reset
  quiet : ∀ g, s.quietField g = true → t.quietField g = true

theorem State.rd_fieldWiped_fieldRegs (t : State) (k : RKey) :
    ((t.fieldWiped f).fieldRegs f).rd k.reg k.inst.val k.idx.val =
      if fieldResetKeeps f k then t.rd k.reg k.inst.val k.idx.val else k.reset := by
  unfold State.fieldRegs
  rw [State.rd_resetRegs, rkey_val]
  have hwiped : (t.fieldWiped f).rd k.reg k.inst.val k.idx.val = t.rd k.reg k.inst.val k.idx.val := rfl
  rw [hwiped]
  unfold fieldResetKeeps
  cases !keptInFieldReset k.reg && (fieldPages f).any (fun p => onPage p.1 p.2 k) <;> rfl

/-- A thread of the wiped state is as it was, or free. -/
theorem State.thread_fieldWiped (t : State) (g n : Nat) :
    (t.fieldWiped f).thread g n = t.thread g n ∨ (t.fieldWiped f).thread g n = freeThread := by
  have hlook := mapGet_filter (fun _ => freeThread) (threadKey g n)
    (fun j => j / 128 != f || decide ((t.thread f (j % 128)).st = .fenced)) t.crofters.threads
  have hwiped : (t.fieldWiped f).thread g n = if (threadKey g n / 128 != f ||
      decide ((t.thread f (threadKey g n % 128)).st = .fenced)) = true then t.thread g n else freeThread := hlook
  rw [hwiped]
  split
  · exact .inl rfl
  · exact .inr rfl

/-- An engine of the wiped state is as it was, or idle. -/
theorem State.engine_fieldWiped (t : State) (g u : Nat) :
    (t.fieldWiped f).engine g u = t.engine g u ∨ (t.fieldWiped f).engine g u = idleEngine := by
  have hlook := t.engines.look_forget idleEngine (f * 32) (f * 32 + 32) (unitKey g u)
  have hwiped : (t.fieldWiped f).engine g u = if f * 32 ≤ unitKey g u ∧ unitKey g u < f * 32 + 32 then idleEngine
      else t.engine g u := hlook
  rw [hwiped]
  split
  · exact .inr rfl
  · exact .inl rfl

theorem State.quietField_fieldWiped (t : State) (g : Nat) (h : t.quietField g = true) :
    ((t.fieldWiped f).fieldRegs f).quietField g = true := by
  have hregs : ((t.fieldWiped f).fieldRegs f).quietField g = (t.fieldWiped f).quietField g := rfl
  rw [hregs]
  obtain ⟨hlive, hlaunch, hent, hfill, hjob, hrun, hqueue, hsus⟩ := (t.quietField_iff g).1 h
  refine (State.quietField_iff _ g).2 ⟨?_, hlaunch, hent, hfill, hjob, fun u hu => ?_, fun u hu => ?_, fun u hu => ?_⟩
  · refine List.filter_eq_nil_iff.2 fun n hn => ?_
    rcases t.thread_fieldWiped g n with hsame | hfree
    · rw [hsame]
      exact List.filter_eq_nil_iff.1 hlive n hn
    · rw [hfree]
      simp [freeThread]
  · rcases t.engine_fieldWiped g u with hsame | hidle
    · rw [hsame]
      exact hrun u hu
    · rw [hidle]
      rfl
  · rcases t.engine_fieldWiped g u with hsame | hidle
    · rw [hsame]
      exact hqueue u hu
    · rw [hidle]
      rfl
  · rcases t.engine_fieldWiped g u with hsame | hidle
    · rw [hsame]
      exact hsus u hu
    · rw [hidle]
      rfl

theorem State.clearsIdle.quietField {t : State} (h : s.clearsIdle f t) (g : Nat) :
    t.quietField g = s.quietField g := by
  have hlive : t.liveThreads g = s.liveThreads g := by
    unfold State.liveThreads State.thread
    rw [h.crofters]
  have hent : t.entries = s.entries := by
    unfold State.entries
    rw [h.tallies]
  have hengine (u : Nat) : t.engine g u = s.engine g u := h.engine g u
  unfold State.quietField
  rw [hlive, hent, h.crofters, h.commons, h.cairn]
  simp only [hengine]

theorem State.fieldCleared_fieldClear (hf : f < 80) (h : s.quietField f = true) :
    s.fieldCleared f (s.fieldClear f) := by
  obtain ⟨t, hidle, hclear⟩ := State.fieldClear_of_quiet hf h
  rw [hclear]
  refine ⟨hidle.now, hidle.seq, ?_, ?_, ?_, ?_, fun k => ?_, fun g hg => ?_⟩
  · show t.mem.zeroRange _ _ = _
    rw [hidle.mem]
  · show t.resets.running = _
    rw [hidle.resets]
  · show t.resets.fields = _
    rw [hidle.resets]
  · show t.resets.fieldTimes = _
    rw [hidle.resets]
  · rw [t.rd_fieldWiped_fieldRegs]
    by_cases hk : fieldResetKeeps f k = true
    · rw [if_pos hk, if_pos hk, hidle.rd k hk]
    · rw [if_neg hk, if_neg hk]
  · exact t.quietField_fieldWiped g (by rw [hidle.quietField]; exact hg)

end

/-- A field's reset is in the list of those held. -/
def State.holdField (s : State) (f : Nat) : State :=
  { s with resets := { s.resets with fields := setInsert f s.resets.fields } }

theorem setInsert_contains (k j : Nat) (l : List Nat) :
    (setInsert k l).contains j = (decide (j = k) || l.contains j) := by
  rw [Bool.eq_iff_iff]
  simp [mem_setInsert]

/-- What a commanded reset of one quiet field leaves, counted and held. -/
structure State.fieldResetStarted (f : Nat) (s t : State) : Prop where
  now : t.now = s.now
  seq : t.seq = s.seq
  mem : t.mem = s.mem.zeroRange (cellKey f 1 0) (2 ^ 42)
  running : t.resets.running = s.resets.running
  inReset : ∀ g, t.inReset g = (decide (g = f) || s.inReset g)
  counted : t.resets.fieldTimes.look [] f = s.recent min10 (s.resets.fieldTimes.look [] f) ++ [s.now]
  rd : ∀ k : RKey, t.rd k.reg k.inst.val k.idx.val =
    if fieldResetKeeps f k then s.rd k.reg k.inst.val k.idx.val else k.reset
  quiet : ∀ g, s.quietField g = true → t.quietField g = true

theorem State.fieldReset_of_inService (s : State) {f : Nat} (h : s.inService f = true) :
    s.fieldReset f = (s.holdField f).fieldClear f := by
  have hmode : s.fieldMode f = 0 := by simpa [State.inService] using h
  unfold State.fieldReset
  rw [if_neg (not_not.2 hmode)]
  rfl

theorem State.fieldResetStarted_countField (s : State) {f : Nat} (hf : f < 80) (hin : s.inService f = true)
    (hquiet : s.quietField f = true) : s.fieldResetStarted f ((s.countField f).fieldReset f) := by
  have hclear : ((s.countField f).holdField f).fieldCleared f (((s.countField f).holdField f).fieldClear f) :=
    State.fieldCleared_fieldClear hf hquiet
  rw [(s.countField f).fieldReset_of_inService hin]
  refine ⟨hclear.now, hclear.seq, hclear.mem, hclear.running, fun g => ?_, ?_, hclear.rd, hclear.quiet⟩
  · unfold State.inReset
    rw [hclear.fields]
    exact setInsert_contains f g s.resets.fields
  · rw [hclear.fieldTimes]
    exact NMap.look_put_same ..

/-! ### Resets of one field and of a parish's fields -/

section
variable {f : Nat} {s t : State}

theorem State.fieldResetStarted.getF (h : s.fieldResetStarted f t) {x : RF} {q : Page}
    (hq : x.reg.info.page = some q) (hp : q ∉ fieldResetPages) (i n : Nat) : t.getF x i n = s.getF x i n := by
  unfold State.getF
  rw [t.rd_rkey, h.rd, if_pos (fieldResetKeeps_of_page hq hp), ← s.rd_rkey]

theorem State.fieldResetStarted.inService (h : s.fieldResetStarted f t) (g : Nat) : t.inService g = s.inService g :=
  congrArg (· == 0) (h.getF (x := RF.WFR_FLDf_STATUS_STATE) rfl (by decide) 0 g)

/-- What the resets of a list of fields leave. -/
structure State.fieldResetsStarted (l : List Nat) (s t : State) : Prop where
  running : t.resets.running = s.resets.running
  inReset : ∀ g, t.inReset g = (decide (g ∈ l) || s.inReset g)
  getF : ∀ (x : RF) (q : Page), x.reg.info.page = some q → q ∉ fieldResetPages → ∀ i n, t.getF x i n = s.getF x i n

theorem State.fieldResetsStarted_foldl {l : List Nat}
    (h : ∀ g ∈ l, g < 80 ∧ s.inService g = true ∧ s.quietField g = true) :
    s.fieldResetsStarted l (l.foldl (fun (t : State) g => (t.countField g).fieldReset g) s) := by
  induction l generalizing s with
  | nil => exact ⟨rfl, fun _ => rfl, fun _ _ _ _ _ _ => rfl⟩
  | cons f r ih =>
    obtain ⟨hf, hin, hquiet⟩ := h f (List.mem_cons_self ..)
    have hstart := s.fieldResetStarted_countField hf hin hquiet
    have hrest := @ih ((s.countField f).fieldReset f) fun g hg => by
      obtain ⟨hg80, hgin, hgquiet⟩ := h g (List.mem_cons_of_mem _ hg)
      exact ⟨hg80, (hstart.inService g).trans hgin, hstart.quiet g hgquiet⟩
    refine ⟨hrest.running.trans hstart.running, fun g => ?_, fun x q hq hp i n =>
      (hrest.getF x q hq hp i n).trans (hstart.getF hq hp i n)⟩
    refine (hrest.inReset g).trans ?_
    rw [hstart.inReset, ← Bool.or_assoc, ← Bool.decide_or]
    simp only [List.mem_cons, or_comm]

end

theorem State.startReset_field (s : State) (f : Nat) :
    s.startReset 2 f = ((s.runReset 2 f).countField f).fieldReset f := by
  unfold State.startReset State.runReset
  rfl

theorem State.runReset_recent (s : State) (scope target w : Nat) (l : List Nat) :
    (s.runReset scope target).recent w l = s.recent w l := rfl

theorem State.runReset_fieldTimes (s : State) (scope target : Nat) :
    (s.runReset scope target).resets.fieldTimes = s.resets.fieldTimes := rfl

theorem State.runReset_now (s : State) (scope target : Nat) : (s.runReset scope target).now = s.now := rfl

theorem State.runReset_mem (s : State) (scope target : Nat) : (s.runReset scope target).mem = s.mem := rfl

theorem State.runReset_seq (s : State) (scope target : Nat) : (s.runReset scope target).seq = s.seq := rfl

theorem State.runReset_rd (s : State) (scope target : Nat) (r : Reg) (i n : Nat) :
    (s.runReset scope target).rd r i n = s.rd r i n := rfl

theorem State.runReset_inService (s : State) (scope target g : Nat) :
    (s.runReset scope target).inService g = s.inService g := rfl

theorem State.runReset_quietField (s : State) (scope target g : Nat) :
    (s.runReset scope target).quietField g = s.quietField g := rfl

theorem State.runReset_inReset (s : State) (scope target g : Nat) :
    (s.runReset scope target).inReset g = s.inReset g := rfl

theorem execResetField_started (f : FieldId) (s : State) (hfree : s.resetFree = true)
    (hin : s.inService f.val = true) (hquiet : s.quietField f.val = true) :
    ∃ s', exec (.resetField f) s = .next s' ∧
      (s'.resets.running = s.resets.running ++ [(2, f.val, s.now)] ∧ s'.inReset f.val = true ∧
        s'.resets.fieldTimes.look [] f.val = s.recent min10 (s.resets.fieldTimes.look [] f.val) ++ [s.now] ∧
        s'.mem = s.mem.zeroRange (cellKey f.val 1 0) (2 ^ 42) ∧ s'.seq = s.seq ∧
        (∀ k : RKey, k.reg ≠ .WFR_RCV_RESET → s'.rd k.reg k.inst.val k.idx.val =
          if !keptInFieldReset k.reg && (fieldPages f.val).any (fun p => onPage p.1 p.2 k) then k.reset
          else s.rd k.reg k.inst.val k.idx.val)) := by
  have hgo := s.resetGo_of_free 2 f.val (s.getF RF.WFR_RCV_RESET_CLASS 0 0) (s.getF RF.WFR_RCV_RESET_UNIT 0 0)
    (s.getF RF.WFR_RCV_RESET_PARISH 0 0) f.val hfree
  have hexec : exec (.resetField f) s = .next ((s.resetTaken 2 f.val (s.getF RF.WFR_RCV_RESET_CLASS 0 0)
      (s.getF RF.WFR_RCV_RESET_UNIT 0 0) (s.getF RF.WFR_RCV_RESET_PARISH 0 0)).startReset 2 f.val) := by
    show execResetField f s = _
    unfold execResetField
    rw [hin]
    exact congrArg _ hgo
  have htaken := s.resetRegOnly_resetTaken 2 f.val (s.getF RF.WFR_RCV_RESET_CLASS 0 0)
    (s.getF RF.WFR_RCV_RESET_UNIT 0 0) (s.getF RF.WFR_RCV_RESET_PARISH 0 0)
  generalize s.resetTaken 2 f.val (s.getF RF.WFR_RCV_RESET_CLASS 0 0) (s.getF RF.WFR_RCV_RESET_UNIT 0 0)
    (s.getF RF.WFR_RCV_RESET_PARISH 0 0) = t at *
  have hstart := (t.runReset 2 f.val).fieldResetStarted_countField f.isLt
    (by rw [State.runReset_inService, htaken.inService]; exact hin)
    (by rw [State.runReset_quietField, htaken.quietField]; exact hquiet)
  rw [State.startReset_field] at hexec
  have hnow : t.now = s.now := by rw [htaken.eq]
  have hresets : t.resets = s.resets := by rw [htaken.eq]
  refine ⟨_, hexec, ?_, ?_, ?_, ?_, ?_, fun k hk => ?_⟩
  · rw [hstart.running, State.runReset_running, hnow, hresets]
  · rw [hstart.inReset, decide_eq_true rfl, Bool.true_or]
  · rw [hstart.counted, State.runReset_recent, State.runReset_fieldTimes, State.runReset_now, hnow, hresets]
    unfold State.recent
    rw [hnow]
  · rw [hstart.mem, State.runReset_mem, htaken.eq]
  · rw [hstart.seq, State.runReset_seq, htaken.eq]
  · have hrd : (t.runReset 2 f.val).rd k.reg k.inst.val k.idx.val = s.rd k.reg k.inst.val k.idx.val := by
      rw [State.runReset_rd]
      exact htaken.regs _ _ _ (by simpa using hk)
    rw [hstart.rd, hrd]
    unfold fieldResetKeeps
    cases !keptInFieldReset k.reg && (fieldPages f.val).any (fun p => onPage p.1 p.2 k) <;> rfl

/-- A parish that is being cancelled already is left so; its fields in service are reset. -/
theorem State.startReset_parish (s : State) (p : Nat) (h : s.flag RF.WFR_PAR_CANCEL_BUSY p 0 = true) :
    s.startReset 3 p = ((maskList (s.parishMask p) 80).filter s.inService).foldl
      (fun (t : State) g => (t.countField g).fieldReset g) (s.runReset 3 p) := by
  have hcancel : (s.runReset 3 p).parishCancel p = s.runReset 3 p := by
    unfold State.parishCancel
    exact if_pos h
  have hmask : (s.runReset 3 p).parishMask p = s.parishMask p := rfl
  have hin : (s.runReset 3 p).inService = s.inService := rfl
  have hstart : s.startReset 3 p = ((maskList (((s.runReset 3 p).parishCancel p).parishMask p) 80).filter
      ((s.runReset 3 p).parishCancel p).inService).foldl (fun (t : State) g => (t.countField g).fieldReset g)
      ((s.runReset 3 p).parishCancel p) := by
    unfold State.startReset State.runReset
    rfl
  rw [hstart, hcancel, hmask, hin]

theorem execResetParish_started (p : ParishId) (s : State) (hfree : s.resetFree = true)
    (hcancel : s.flag RF.WFR_PAR_CANCEL_BUSY p.val 0 = true)
    (hfields : ∀ g, g < 80 → (s.parishMask p.val).testBit g = true → s.inService g = true ∧ s.quietField g = true) :
    ∃ s', exec (.resetParish p) s = .next s' ∧
      (s'.flag RF.WFR_RCV_RESET_BUSY 0 0 = true ∧ s'.getF RF.WFR_RCV_RESET_PARISH 0 0 = p.val ∧
        s'.resets.running = s.resets.running ++ [(3, p.val, s.now)] ∧
        (∀ g, g < 80 → s'.inReset g = ((s.parishMask p.val).testBit g || s.inReset g))) := by
  have hgo := s.resetGo_of_free 3 (s.getF RF.WFR_RCV_RESET_FIELD 0 0) (s.getF RF.WFR_RCV_RESET_CLASS 0 0)
    (s.getF RF.WFR_RCV_RESET_UNIT 0 0) p.val p.val hfree
  have hexec : exec (.resetParish p) s = .next ((s.resetTaken 3 (s.getF RF.WFR_RCV_RESET_FIELD 0 0)
      (s.getF RF.WFR_RCV_RESET_CLASS 0 0) (s.getF RF.WFR_RCV_RESET_UNIT 0 0) p.val).startReset 3 p.val) := by
    show execResetParish p s = _
    unfold execResetParish
    exact congrArg _ hgo
  have htaken := s.resetRegOnly_resetTaken 3 (s.getF RF.WFR_RCV_RESET_FIELD 0 0) (s.getF RF.WFR_RCV_RESET_CLASS 0 0)
    (s.getF RF.WFR_RCV_RESET_UNIT 0 0) p.val
  have hbusy := s.busy_resetTaken 3 (s.getF RF.WFR_RCV_RESET_FIELD 0 0) (s.getF RF.WFR_RCV_RESET_CLASS 0 0)
    (s.getF RF.WFR_RCV_RESET_UNIT 0 0) p.val
  have hshows := s.resetShows_resetTaken (scope := 3) (by omega) (s.getF_lt RF.WFR_RCV_RESET_FIELD 0 0)
    (s.getF_lt RF.WFR_RCV_RESET_CLASS 0 0) (s.getF_lt RF.WFR_RCV_RESET_UNIT 0 0) p.isLt
  generalize s.resetTaken 3 (s.getF RF.WFR_RCV_RESET_FIELD 0 0) (s.getF RF.WFR_RCV_RESET_CLASS 0 0)
    (s.getF RF.WFR_RCV_RESET_UNIT 0 0) p.val = t at *
  have hmask : t.parishMask p.val = s.parishMask p.val := by
    unfold State.parishMask
    rw [htaken.getF _ _ (by decide), htaken.getF _ _ (by decide)]
  have hmem (g : Nat) : g ∈ (maskList (t.parishMask p.val) 80).filter t.inService ↔
      g < 80 ∧ (s.parishMask p.val).testBit g = true := by
    simp only [maskList, List.mem_filter, List.mem_range, hmask, htaken.inService]
    exact ⟨fun h => h.1, fun h => ⟨h, (hfields g h.1 h.2).1⟩⟩
  have hstart := (t.runReset 3 p.val).fieldResetsStarted_foldl
    (l := (maskList (t.parishMask p.val) 80).filter t.inService)
    fun g hg => by
      obtain ⟨hg80, hbit⟩ := (hmem g).1 hg
      obtain ⟨hin, hquiet⟩ := hfields g hg80 hbit
      exact ⟨hg80, by rw [State.runReset_inService, htaken.inService]; exact hin,
        by rw [State.runReset_quietField, htaken.quietField]; exact hquiet⟩
  rw [t.startReset_parish p.val ((htaken.flag _ _ (by decide)).trans hcancel)] at hexec
  have hnow : t.now = s.now := by rw [htaken.eq]
  have hresets : t.resets = s.resets := by rw [htaken.eq]
  refine ⟨_, hexec, ?_, ?_, ?_, fun g hg => ?_⟩
  · rw [State.flag, hstart.getF RF.WFR_RCV_RESET_BUSY .WFR_RCV rfl (by decide), State.runReset_getF]
    exact hbusy
  · rw [hstart.getF RF.WFR_RCV_RESET_PARISH .WFR_RCV rfl (by decide), State.runReset_getF]
    exact hshows.parish
  · rw [hstart.running, State.runReset_running, hnow, hresets]
  · rw [hstart.inReset]
    have hin : (t.runReset 3 p.val).inReset g = s.inReset g := by
      rw [State.runReset_inReset]
      unfold State.inReset
      rw [hresets]
    have hdec : decide (g ∈ (maskList (t.parishMask p.val) 80).filter t.inService) =
        (s.parishMask p.val).testBit g := by
      rw [Bool.eq_iff_iff, decide_eq_true_eq, hmem]
      exact and_iff_right hg
    rw [hdec, hin]

/-! ### The end of a reset -/

/-- The oldest reset is taken from those in progress. -/
def State.dropRun (s : State) (rest : List (Nat × Nat × Nat)) : State :=
  { s with resets := { s.resets with running := rest } }

/-- BUSY clears with the last reset. -/
def State.clearBusy (s : State) : State :=
  if s.resets.running.isEmpty && s.resets.waiting.isEmpty then s.setFlag RF.WFR_RCV_RESET_BUSY 0 0 false else s

section
variable {s t u : State}

theorem State.resetRegOnly_refl (s : State) : s.resetRegOnly s := ⟨rfl, s.onlyRegs_refl _⟩

theorem State.resetRegOnly_clearBusy (s : State) : s.resetRegOnly s.clearBusy := by
  unfold State.clearBusy
  split
  · exact s.resetRegOnly_setFlag false rfl
  · exact s.resetRegOnly_refl

theorem State.busy_clearBusy (s : State) : s.clearBusy.flag RF.WFR_RCV_RESET_BUSY 0 0 =
    (s.flag RF.WFR_RCV_RESET_BUSY 0 0 && !(s.resets.running.isEmpty && s.resets.waiting.isEmpty)) := by
  unfold State.clearBusy
  split
  next h =>
    rw [State.flag_setFlag_same _ _ _ _ _ (by decide) rfl, h]
    simp
  next h =>
    rw [Bool.not_eq_true] at h
    rw [h]
    simp

/-- With no request on its way, the end of a reset is the end of its unit, and BUSY. -/
theorem execResetDone_of_running (spine : BitVec 80) (lost : List (FieldId × BitVec 39)) {scope target n : Nat}
    {rest : List (Nat × Nat × Nat)} (s : State) (h : s.resets.running = (scope, target, n) :: rest)
    (hend : (s.dropRun rest).resetEnd scope target spine.toNat (fun f =>
      (lost.filter (fun x => decide (x.1.val = f))).map (·.2.toNat)) = t)
    (hreqs : t.commons.reqs = []) : exec (.resetDone spine lost) s = .next t.clearBusy := by
  have hreqs' : t.clearBusy.commons.reqs = [] := by
    rw [t.resetRegOnly_clearBusy.eq]
    exact hreqs
  have hrelease : t.clearBusy.releaseAll = t.clearBusy := State.releaseHeld_of_none _ _ _ hreqs'
  show execResetDone spine lost s = _
  unfold execResetDone
  rw [h]
  unfold State.dropRun at hend
  dsimp only
  rw [hend]
  exact congrArg _ hrelease

theorem State.escalateEngine_of_few (s : State) {f n : Nat} (h : (s.recent sec60 (s.engine f n).resets).length < 8) :
    s.escalateEngine f n = s :=
  if_neg fun k => absurd k.1 (Nat.not_le.2 h)

theorem execResetDone_engine (spine : BitVec 80) (lost : List (FieldId × BitVec 39)) (f u n : Nat)
    (rest : List (Nat × Nat × Nat)) (s : State) (hrun : s.resets.running = (0, unitKey f u, n) :: rest) (hu : u < 32)
    (hfew : (s.recent sec60 (s.engine f u).resets).length < 8) (hreqs : s.commons.reqs = []) :
    ∃ s', exec (.resetDone spine lost) s = .next s' ∧
      (s'.resets.running = rest ∧ (s'.engine f u).inReset = false ∧
        s'.flag RF.WFR_RCV_RESET_BUSY 0 0 = (s.flag RF.WFR_RCV_RESET_BUSY 0 0 &&
          !(rest.isEmpty && s.resets.waiting.isEmpty)) ∧ s'.mem = s.mem ∧ s'.seq = s.seq) := by
  have hf : unitKey f u / 32 = f := by unfold unitKey; omega
  have hn : unitKey f u % 32 = u := by unfold unitKey; omega
  have hcount : (((s.dropRun rest).modEngine f u (fun e => { e with inReset := false })).engine f u).resets =
      (s.engine f u).resets := by
    rw [State.engine_modEngine_same]
    rfl
  have hend : (s.dropRun rest).resetEnd 0 (unitKey f u) spine.toNat (fun f =>
      (lost.filter (fun x => decide (x.1.val = f))).map (·.2.toNat)) =
      (s.dropRun rest).modEngine f u (fun e => { e with inReset := false }) := by
    unfold State.resetEnd
    dsimp only
    rw [hf, hn]
    exact State.escalateEngine_of_few _ (by rw [hcount]; exact hfew)
  have hreg := State.resetRegOnly_clearBusy ((s.dropRun rest).modEngine f u (fun e => { e with inReset := false }))
  refine ⟨_, execResetDone_of_running spine lost s hrun hend hreqs, ?_, ?_, ?_, ?_, ?_⟩
  · rw [hreg.eq]
    rfl
  · rw [hreg.engine, State.engine_modEngine_same]
  · exact State.busy_clearBusy _
  · rw [hreg.eq]
    rfl
  · rw [hreg.eq]
    rfl

/-! ### The end of a field's reset -/

/-- A spare and the numbering of a field's querns change only the querns' numbers, the field's status and the
events to post. -/
structure State.renumbered (s t : State) : Prop where
  eq : t = { s with regs := t.regs, commons := t.commons }
  reqs : t.commons.reqs = s.commons.reqs
  regs : s.onlyRegs [.QRN_ID, .WFR_FLDf_STATUS] t

theorem State.renumbered_refl (s : State) : s.renumbered s := ⟨rfl, rfl, s.onlyRegs_refl _⟩

theorem State.renumbered.trans (h : s.renumbered t) (k : t.renumbered u) : s.renumbered u where
  eq := by rw [k.eq, h.eq]
  reqs := k.reqs.trans h.reqs
  regs := h.regs.trans k.regs

theorem State.renumbered_setF (s : State) {x : RF} (i n v : Nat) (h : x.reg ∈ [Reg.QRN_ID, .WFR_FLDf_STATUS]) :
    s.renumbered (s.setF x i n v) :=
  ⟨rfl, rfl, s.onlyRegs_setF i n v h⟩

theorem State.renumbered_foldl {A : Type} {step : State → A → State} (hstep : ∀ t a, State.renumbered t (step t a))
    (l : List A) (s : State) : s.renumbered (l.foldl step s) := by
  induction l generalizing s with
  | nil => exact s.renumbered_refl
  | cons a r ih => exact (hstep s a).trans (ih (step s a))

theorem State.renumbered_enableSpare (s : State) (f : Nat) : s.renumbered (s.enableSpare f) := by
  unfold State.enableSpare
  dsimp only
  split
  next q _ _ =>
    have hset : s.renumbered ((s.setFlag RF.QRN_ID_ENABLED (f * 9 + q) 0 true).setFlag
        RF.WFR_FLDf_STATUS_SPARE_IN_USE 0 f true) :=
      (s.renumbered_setF _ _ _ (by decide)).trans (State.renumbered_setF _ _ _ _ (by decide))
    generalize (s.setFlag RF.QRN_ID_ENABLED (f * 9 + q) 0 true).setFlag
      RF.WFR_FLDf_STATUS_SPARE_IN_USE 0 f true = t at hset ⊢
    exact hset.trans ⟨rfl, rfl, t.onlyRegs_refl _⟩
  next => exact s.renumbered_refl

theorem State.renumbered_renumberQuerns (s : State) (f : Nat) : s.renumbered (s.renumberQuerns f) := by
  unfold State.renumberQuerns
  exact (State.renumbered_foldl (fun t _ => t.renumbered_setF _ _ _ (by decide)) _ s).trans
    (State.renumbered_foldl (fun t _ => t.renumbered_setF _ _ _ (by decide)) _ _)

/-- A field whose reset ends accepts accesses again, and its filters' staleness limit is set. -/
def State.leaveReset (s : State) (f : Nat) : State :=
  { s with
    resets := { s.resets with fields := s.resets.fields.filter (· != f) }
    verne := { s.verne with resetEnd := s.verne.resetEnd.put 0 f (s.fabricTime + 1) } }

theorem State.renumbered_fieldResetEnd (s : State) (f : Nat) (h : s.tallies.heldAdds = []) :
    (s.leaveReset f).renumbered (s.fieldResetEnd f) := by
  have htallies : { s.tallies with heldAdds := [] } = s.tallies := by rw [← h]
  have hend : s.fieldResetEnd f = ((s.leaveReset f).enableSpare f).renumberQuerns f := by
    unfold State.fieldResetEnd State.leaveReset
    dsimp only
    rw [h]
    show ((State.enableSpare { s with tallies := { s.tallies with heldAdds := [] }, resets := _, verne := _ } f)
      |>.renumberQuerns f) = _
    rw [htallies]
  rw [hend]
  exact ((s.leaveReset f).renumbered_enableSpare f).trans (State.renumbered_renumberQuerns _ f)

end

theorem State.leaveReset_recent (s : State) (f w : Nat) (l : List Nat) : (s.leaveReset f).recent w l = s.recent w l :=
  rfl

/-- The judgement of a field whose spine passes, with few resets behind it and no stop deferred: the reset ends. -/
theorem State.fieldResetJudge_of_good (s : State) (f : Nat) (hheld : s.tallies.heldAdds = [])
    (hfew : (s.recent min10 (s.resets.fieldTimes.look [] f)).length < 4)
    (hdeferred : s.flag RF.ASY_FLD_STAT_DEFERRED f 0 = false) :
    s.fieldResetJudge f false [] = s.fieldResetEnd f := by
  have hnum := s.renumbered_fieldResetEnd f hheld
  have hlose : s.loseSectors f [] = s := rfl
  unfold State.fieldResetJudge
  rw [hlose]
  generalize s.fieldResetEnd f = t at hnum ⊢
  have hnow : t.now = s.now := by
    rw [hnum.eq]
    rfl
  have htimes : t.resets.fieldTimes = s.resets.fieldTimes := by
    rw [hnum.eq]
    rfl
  have hmany : decide (4 ≤ (t.recent min10 (t.resets.fieldTimes.look [] f)).length) = false := by
    unfold State.recent at hfew ⊢
    rw [hnow, htimes]
    exact decide_eq_false (Nat.not_le.2 hfew)
  have hflag : t.flag RF.ASY_FLD_STAT_DEFERRED f 0 = false := by
    unfold State.flag State.getF at hdeferred ⊢
    rw [hnum.regs _ _ _ (by decide)]
    exact hdeferred
  have hstop : t.deferredStop f = t := by
    unfold State.deferredStop
    rw [hflag]
    exact if_neg fun k => absurd k.2.1 Bool.false_ne_true
  dsimp only
  rw [hmany]
  exact hstop

theorem execResetDone_field (spine : BitVec 80) (lost : List (FieldId × BitVec 39)) (f n : Nat)
    (rest : List (Nat × Nat × Nat)) (s : State) (hrun : s.resets.running = (2, f, n) :: rest)
    (hspine : spine.toNat.testBit f = false) (hlost : lost = []) (hreqs : s.commons.reqs = [])
    (hfew : (s.recent min10 (s.resets.fieldTimes.look [] f)).length < 4) (hheld : s.tallies.heldAdds = [])
    (hdeferred : s.flag RF.ASY_FLD_STAT_DEFERRED f 0 = false) :
    ∃ s', exec (.resetDone spine lost) s = .next s' ∧
      (s'.resets.running = rest ∧ s'.resets.fields = s.resets.fields.filter (· != f) ∧
        s'.verne.resetEnd.look 0 f = s.fabricTime + 1 ∧ s'.mem = s.mem ∧ s'.seq = s.seq ∧ s'.tallies = s.tallies ∧
        s'.flag RF.WFR_RCV_RESET_BUSY 0 0 = (s.flag RF.WFR_RCV_RESET_BUSY 0 0 &&
          !(rest.isEmpty && s.resets.waiting.isEmpty))) := by
  have hend : (s.dropRun rest).resetEnd 2 f spine.toNat (fun f =>
      (lost.filter (fun x => decide (x.1.val = f))).map (·.2.toNat)) = (s.dropRun rest).fieldResetEnd f := by
    unfold State.resetEnd
    dsimp only
    rw [hspine, hlost]
    exact (s.dropRun rest).fieldResetJudge_of_good f hheld hfew hdeferred
  have hnum := (s.dropRun rest).renumbered_fieldResetEnd f hheld
  generalize (s.dropRun rest).fieldResetEnd f = t at hend hnum
  have hreg := t.resetRegOnly_clearBusy
  have hresets : t.resets = { s.resets with running := rest, fields := s.resets.fields.filter (· != f) } := by
    rw [hnum.eq]
    rfl
  refine ⟨_, execResetDone_of_running spine lost s hrun hend (hnum.reqs.trans hreqs), ?_, ?_, ?_, ?_, ?_, ?_, ?_⟩
  · rw [hreg.eq, hresets]
  · rw [hreg.eq, hresets]
  · rw [hreg.eq]
    show t.verne.resetEnd.look 0 f = _
    rw [hnum.eq]
    exact NMap.look_put_same s.verne.resetEnd 0 f (s.fabricTime + 1)
  · rw [hreg.eq]
    show t.mem = _
    rw [hnum.eq]
    rfl
  · rw [hreg.eq]
    show t.seq = _
    rw [hnum.eq]
    rfl
  · rw [hreg.eq]
    show t.tallies = _
    rw [hnum.eq]
    rfl
  · have hbusy : t.flag RF.WFR_RCV_RESET_BUSY 0 0 = s.flag RF.WFR_RCV_RESET_BUSY 0 0 := by
      unfold State.flag State.getF
      rw [hnum.regs _ _ _ (by decide)]
      rfl
    rw [t.busy_clearBusy, hbusy, hresets]

/-- Settles O29: the start of each reset of an idle or quiet unit by its own lemma, its refusal and its wait by the
command register alone, and the end of an engine's and of a field's reset. Waiting resets are the model's reading of
log 158, refused targets of log 159, what a field reset clears of log 161, and the count at the start of log 162. -/
theorem resetsBelowTheWafer : Obligations.ResetsBelowTheWafer := by
  unfold Obligations.ResetsBelowTheWafer
  refine ⟨?_, ?_, ?_, ?_, ?_, ?_, ?_, ?_, ?_, ?_⟩
  · rintro f cls unit u s ⟨hfree, hin, hunit, hrun, hqueue, hjob⟩
    exact execResetEngine_started f cls unit u s hfree hin hunit hrun hqueue hjob
  · rintro f cls unit u s ⟨hbusy, hbist, hheld, hin, hunit⟩
    exact execResetEngine_held f cls unit u s hbusy hbist hheld hin hunit
  · exact fun f cls unit s => execResetEngine_refused f cls unit s
  · rintro f c s ⟨hfree, hin, hlive⟩
    exact execResetCrofter_started f c s hfree hin hlive
  · exact fun f c s => execResetCrofter_refused f c s
  · rintro f s ⟨hfree, hin, hquiet⟩
    exact execResetField_started f s hfree hin hquiet
  · exact fun f s => execResetField_refused f s
  · rintro p s ⟨hfree, hcancel, hfields⟩
    exact execResetParish_started p s hfree hcancel hfields
  · rintro spine lost f u t rest s ⟨hrun, hu, hfew, hreqs⟩
    exact execResetDone_engine spine lost f u t rest s hrun hu hfew hreqs
  · rintro spine lost f t rest s ⟨hrun, -, hspine, hlost, hreqs, hfew, hheld, hdeferred⟩
    exact execResetDone_field spine lost f t rest s hrun hspine hlost hreqs hfew hheld hdeferred

end Sys2Proof.Machine

/-! Error captures load HDR_ERR_TIME (R739), which the register lists of O4, O10, O14, O15, O20 and O21 leave out: for
each of them a command, in a state that meets its hypotheses, whose capture changes that register. -/

namespace Sys2Proof.Machine

/-! ### A capture against a list of registers -/

/-- A command that takes a state on and changes HDR_ERR_TIME of a page. -/
def loadsErrTime (c : Instr) (s : State) (p : Page) (inst : Nat) : Prop :=
  ∃ t, exec c s = .next t ∧ t.rd .HDR_ERR_TIME (hdrInst p inst) 0 ≠ s.rd .HDR_ERR_TIME (hdrInst p inst) 0

theorem not_onlyRegs_of_loadsErrTime {c : Instr} {s s' : State} {p : Page} {inst : Nat} {l : List Reg}
    (h : loadsErrTime c s p inst) (hl : Reg.HDR_ERR_TIME ∉ l) (hexec : exec c s = .next s') : ¬ s.onlyRegs l s' := by
  obtain ⟨t, ht, hne⟩ := h
  obtain rfl : t = s' := Host.Outcome.next.inj (ht.symm.trans hexec)
  exact fun hregs => hne (hregs _ _ _ hl)

/-- The module in service at 1 ns. -/
def readyAt1ns : State :=
  { State.reset with now := 1, boot := { State.reset.boot with stage := .ready } }

/-- Unit `u` of field 0 with one task queued, which no unit has begun. -/
def withQueued (u : Nat) (t : EngTask) : State := readyAt1ns.modEngine 0 u (fun e => { e with queue := [t] })

/-- A task of no sheaf and no parish with the given descriptor. -/
def plainTask (desc : List Byte) : EngTask := ⟨5, 7, desc, none, 0, none, none, [], none, 0, false⟩

/-- An address in field 80, which no wafer has: an access to it ends with FIELD_INVALID, captured in the source's field
(R57, R90, R92). -/
def nowhere : List Byte := leBytes 8 (directAddr 0 80 0 0)

/-! ### An overflowing tally (O4, O10) -/

/-- Tally 5 of field 0 at the largest count. -/
def fullTally (s : State) : State := s.setTally (tallyKey 0 5) ⟨2 ^ 48 - 1, false, false⟩

/-- The host as a source. -/
def hostSource : Source := ⟨0, none, none, true, 0#7⟩

/-- An overflow is the tally page's first error (R148, R739). -/
theorem tallyOpAdd_loads_errTime : loadsErrTime (.tallyOpAdd 0 5 hostSource none 1#64) (fullTally readyAt1ns) .TLY 0 :=
  ⟨_, rfl, by decide⟩

/-- Refutes O4: the registers that TALLY_OP_ADD may touch leave out HDR_ERR_TIME, which the capture of an overflow
loads (R148, R739). -/
theorem not_tallyOperationsApply : ¬ Obligations.TallyOperationsApply := by
  unfold Obligations.TallyOperationsApply
  rintro ⟨-, -, hadd, -⟩
  obtain ⟨s', hexec, -, -, hregs⟩ := hadd 0 5 hostSource none 1#64 (fullTally readyAt1ns) (by decide)
  exact not_onlyRegs_of_loadsErrTime tallyOpAdd_loads_errTime (by decide) hexec hregs

/-- Thread 0 of field 0, ready in machine mode, with the address of tally 5 in x5 and 1 in x6. -/
def addingThread : State :=
  readyAt1ns.setThread 0 0
    { freeThread with
      st := .ready, priv := .m, pc := 0x1000#64
      x := [(5, BitVec.ofNat 64 (directAddr 0 0 3 320)), (6, 1#64)] }

/-- xt.tadd x7, (x5), x6. -/
def addToTally : XtArgs := ⟨7, 5, 6, 0, false, false⟩

/-- An overflow is the tally page's first error (R148, R739). -/
theorem xtTadd_loads_errTime : loadsErrTime (.xtTadd 0 0 addToTally) (fullTally addingThread) .TLY 0 :=
  ⟨_, rfl, by decide⟩

/-- Refutes O10: the registers that xt.tadd may touch leave out HDR_ERR_TIME, which the capture of an overflow loads
(R148, R739). -/
theorem not_tallyInstructions : ¬ Obligations.TallyInstructions := by
  unfold Obligations.TallyInstructions
  rintro ⟨-, hadd, -⟩
  obtain ⟨s', hexec, -, -, hregs⟩ := hadd 0 0 addToTally (tallyKey 0 5) (fullTally addingThread) (by decide)
  exact not_onlyRegs_of_loadsErrTime xtTadd_loads_errTime (by decide) hexec hregs

/-! ### An operand that no access reaches (O14, O15, O21) -/

/-- A MATMUL of one row, one column and one term: BF16 activations in field 80, weights of format 0x0B (R225–R229). -/
def matmulTask : EngTask :=
  plainTask (leBytes 16 0x100 ++ nowhere ++ leBytes 24 0 ++ leBytes 16 (1 + 0x0B * 64))

/-- Reading the activations fails (R219, R247). -/
theorem qrnMatmul_loads_errTime : loadsErrTime (.qrnMatmul 0 2) (withQueued 2 matmulTask) .FLD_COMMONS 0 :=
  ⟨_, rfl, by decide⟩

/-- Refutes O14: the registers that QRN_MATMUL may touch leave out HDR_ERR_TIME, which the capture of a failed operand
access loads (R92, R739). -/
theorem not_quernTasksStartAndComplete : ¬ Obligations.QuernTasksStartAndComplete := by
  unfold Obligations.QuernTasksStartAndComplete
  rintro ⟨-, hmatmul, -⟩
  obtain ⟨s', hexec, -, -, hregs⟩ := hmatmul 0 2 matmulTask [] (withQueued 2 matmulTask) (by decide)
  exact not_onlyRegs_of_loadsErrTime qrnMatmul_loads_errTime (by decide) hexec hregs

/-- A TABLE_LOAD whose image lies in field 80 (R275). -/
def tableLoadTask : EngTask := plainTask (leBytes 24 0x300 ++ nowhere ++ leBytes 32 0)

/-- Reading the image's header fails (R275). -/
theorem sivTableLoad_loads_errTime :
    loadsErrTime (.sivTableLoad 0 0) (withQueued (unitSieve 0) tableLoadTask) .FLD_COMMONS 0 :=
  ⟨_, rfl, by decide +kernel⟩

/-- Refutes O15: the registers that SIV_TABLE_LOAD may touch leave out HDR_ERR_TIME, which the capture of a failed
operand access loads (R92, R739). -/
theorem not_sieveTasksStartAndComplete : ¬ Obligations.SieveTasksStartAndComplete := by
  unfold Obligations.SieveTasksStartAndComplete
  rintro ⟨-, -, -, hload, -⟩
  obtain ⟨s', hexec, -, -, hregs⟩ := hload 0 0 tableLoadTask [] (withQueued (unitSieve 0) tableLoadTask) (by decide)
  exact not_onlyRegs_of_loadsErrTime sivTableLoad_loads_errTime (by decide) hexec hregs

/-- A VOXELIZE whose parameter block lies in field 80 (R336). -/
def voxelizeTask : EngTask := plainTask (leBytes 40 0x100 ++ nowhere ++ leBytes 16 0)

/-- Reading the parameter block fails (R347). -/
theorem voxelize_loads_errTime : loadsErrTime (.voxelize 0) (withQueued unitScree voxelizeTask) .FLD_COMMONS 0 :=
  ⟨_, rfl, by decide⟩

/-- Refutes O21: the registers that VOXELIZE may touch leave out HDR_ERR_TIME, which the capture of a failed operand
access loads (R92, R739). -/
theorem not_screeAndLoomTasksRun : ¬ Obligations.ScreeAndLoomTasksRun := by
  unfold Obligations.ScreeAndLoomTasksRun
  rintro ⟨-, hvoxelize, -⟩
  obtain ⟨s', hexec, -, -, hregs⟩ := hvoxelize 0 voxelizeTask [] (withQueued unitScree voxelizeTask) (by decide)
  exact not_onlyRegs_of_loadsErrTime voxelize_loads_errTime (by decide) hexec hregs

/-! ### A granary that does not answer (O20) -/

/-- A RECALL, and the pair it waits for: granary pair 33, to come back (R318). -/
def recallTask : EngTask := plainTask (leBytes 64 0x900)

def recalledPair : CairnPair := ⟨7, 0, 0, 0, 1, 2, 33, true, none⟩

def recallJob : CairnJob := ⟨5, [], [], [], [recalledPair]⟩

/-- The cairn of field 0 waits for the pair. -/
def recallWaits : State :=
  (readyAt1ns.modEngine 0 unitCairn (fun e => { e with running := [recallTask] })).modCairn 0
    (fun c => { c with job := some recallJob })

/-- A granary that does not answer in time is its page's first error (R414, R422). -/
theorem granaryTimeout_loads_errTime : loadsErrTime (.granaryTimeout 0 33) recallWaits .HBM_GRANARY 0 :=
  ⟨_, rfl, by decide⟩

/-- Refutes O20: the registers that GRANARY_TIMEOUT may touch leave out HDR_ERR_TIME, which the capture of the error
loads (R422, R739). -/
theorem not_cairnPairsPoolsAndReclaim : ¬ Obligations.CairnPairsPoolsAndReclaim := by
  unfold Obligations.CairnPairsPoolsAndReclaim
  rintro ⟨-, -, -, -, htimeout, -⟩
  obtain ⟨s', hexec, -, -, hregs⟩ := htimeout 0 33 recallTask recallJob recalledPair recallWaits (by decide)
  exact not_onlyRegs_of_loadsErrTime granaryTimeout_loads_errTime (by decide) hexec hregs

end Sys2Proof.Machine

/-! What stops a command (O51): one lemma per command whose branches are more than checks, then the dispatch. -/

namespace Sys2Proof.Machine

/-- What a command answers where only a malformed operand stops it, and it only where `stop` holds. -/
def Ends (stop : Prop) : Out → Prop
  | .next _ => True
  | .fault _ => stop
  | .refused _ => False

/-- What may stop a command: an operand of the wrong length, its own or the one that the state asks for. -/
def mayStop (c : Instr) : Prop := c.wellFormed = false ∨ lengthDue c = true

/-! ### Branches -/

variable {stop : Prop}

theorem Ends.next {s : State} : Ends stop (.next s) := trivial

theorem Ends.ite {c : Prop} [Decidable c] {a b : Out} (ha : Ends stop a) (hb : Ends stop b) :
    Ends stop (if c then a else b) := by
  split <;> assumption

theorem Ends.ite_fault {c : Prop} [Decidable c] {e : Fault} {a : Out} (hc : c → stop) (ha : Ends stop a) :
    Ends stop (if c then .fault e else a) := by
  split
  · exact hc ‹c›
  · exact ha

theorem Ends.exists_next {o : Out} (h : Ends stop o) (hstop : ¬ stop) : ∃ s, o = .next s := by
  cases o with
  | next s => exact ⟨s, rfl⟩
  | fault e => exact absurd h hstop
  | refused r => exact h.elim

theorem Ends.ne_refused {o : Out} (h : Ends stop o) (r : Refusal) : o ≠ .refused r := by
  rintro rfl
  exact h

theorem Ends.of_fault {o : Out} {e : Fault} (h : Ends stop o) (he : o = .fault e) : stop := by
  subst he
  exact h

/-! ### Commands that look something up, or whose operand has a length -/

theorem execVinQualified_ends (low : Bool) (s : State) : Ends stop (execVinQualified low s) := by
  unfold execVinQualified
  split
  exacts [.next, .ite .next .next]

theorem execReeveBootDone_ends (badA badB : Option (Fin 5)) (crcOk : Bool) (s : State) :
    Ends stop (execReeveBootDone badA badB crcOk s) := by
  unfold execReeveBootDone
  refine .ite .next ?_
  extract_lets first second fails good
  clear_value good
  split
  exacts [.next, .ite .next .next]

theorem execH0ConfigRequest_ends (fn : FnId) (reg : CfgReg) (write : Option (BitVec 32)) (s : State) :
    Ends stop (execH0ConfigRequest fn reg write s) := by
  unfold execH0ConfigRequest
  refine .ite .next (.ite .next ?_)
  split <;> exact .next

theorem execReeveSectionHandover_ends (bytes : Fin 8193) (s : State) :
    Ends stop (execReeveSectionHandover bytes s) := by
  unfold execReeveSectionHandover
  split
  exacts [.next, .ite .next .next]

theorem execReeveHandoverTimeout_ends (s : State) : Ends stop (execReeveHandoverTimeout s) := by
  unfold execReeveHandoverTimeout
  split
  exacts [.next, .ite .next .next]

theorem execRecordCommit_ends (s : State) : Ends stop (execRecordCommit s) := by
  unfold execRecordCommit
  split
  exacts [.next, .ite .next .next]

theorem execModTransitionDone_ends (s : State) : Ends stop (execModTransitionDone s) := by
  unfold execModTransitionDone
  split
  exacts [.next, .ite .next .next]

theorem execClockReparent_ends (f : FieldId) (s : State) : Ends stop (execClockReparent f s) := by
  unfold execClockReparent
  refine .ite ?_ .next
  split <;> exact .next

theorem execCommonsAccess_ends (src : Source) (addr : BitVec 57) (kind : AccessKind) (tag : Nat) (s : State) :
    Ends stop (execCommonsAccess src addr kind tag s) := by
  unfold execCommonsAccess
  dsimp only
  split <;> exact .next

theorem execFreshFillDone_ends (f : FieldId) (g : BitVec 19) (s : State) : Ends stop (execFreshFillDone f g s) := by
  unfold execFreshFillDone
  split
  exacts [.next, .ite .next .next]

theorem execCommonsResponse_ends (id : Nat) (status : AccStatusCode) (fresh : Bool) (data : List Byte) (s : State)
    (h : stop) :
    Ends stop (execCommonsResponse id status fresh data s) := by
  unfold execCommonsResponse
  split
  · exact .next
  · refine .ite .next ?_
    split
    exacts [.ite_fault (fun _ => h) .next, .next]

theorem execRequestTimeout_ends (id : Nat) (s : State) : Ends stop (execRequestTimeout id s) := by
  unfold execRequestTimeout
  split
  exacts [.next, .ite .next .next]

theorem execStoreAck_ends (id : Nat) (s : State) : Ends stop (execStoreAck id s) := by
  unfold execStoreAck
  split
  · exact .next
  · split
    · exact .next
    · refine .ite .next ?_
      split <;> exact .next

theorem execIssueWRetry_ends (id : Nat) (s : State) : Ends stop (execIssueWRetry id s) := by
  unfold execIssueWRetry
  split
  · exact .next
  · refine .ite .next ?_
    split
    exacts [.next, .ite .next (.ite .next .next)]

theorem execIssueStatusReturn_ends (id : Nat) (remote : BitVec 32) (s : State) :
    Ends stop (execIssueStatusReturn id remote s) := by
  unfold execIssueStatusReturn
  dsimp only
  split
  · exact .next
  · refine .ite .next ?_
    split
    exacts [.next, .ite .next .next]

theorem execTaskEnqueue_ends (ref : IssueRef) (s : State) (h : ref.wellFormed = false → stop) :
    Ends stop (execTaskEnqueue ref s) := by
  unfold execTaskEnqueue
  split
  · split <;> exact .next
  · exact .ite_fault (fun hlen => h (decide_eq_false hlen)) (.ite .next .next)

theorem execWaiterSatisfy_ends (f : FieldId) (s : State) : Ends stop (execWaiterSatisfy f s) := by
  unfold execWaiterSatisfy
  refine .ite .next ?_
  split <;> exact .next

theorem execChainIssueRetry_ends (f : FieldId) (s : State) : Ends stop (execChainIssueRetry f s) := by
  unfold execChainIssueRetry
  refine .ite .next ?_
  split <;> exact .next

theorem execTallyReissue_ends (id : Nat) (s : State) : Ends stop (execTallyReissue id s) := by
  unfold execTallyReissue
  split
  exacts [.next, .ite .next (.ite .next (.ite .next (.ite .next .next)))]

theorem execSheafFetch_ends (p : ParishId) (r : RingId) (hostData : List Byte) (hostStatus : AccStatusCode)
    (s : State) (h : hostData.length ≠ 128 → stop) :
    Ends stop (execSheafFetch p r hostData hostStatus s) := by
  unfold execSheafFetch
  refine .ite_fault h (.ite .next (.ite ?_ (.ite .next ?_)))
  · split <;> exact .next
  · split <;> exact .next

theorem execDepWaitRetry_ends (serial : Nat) (d : Fin 4) (s : State) : Ends stop (execDepWaitRetry serial d s) := by
  unfold execDepWaitRetry
  split
  exacts [.next, .ite .next .next]

theorem execDepSatisfied_ends (s : State) : Ends stop (execDepSatisfied s) := by
  unfold execDepSatisfied
  dsimp only
  split
  · exact .next
  · refine .ite .next ?_
    split
    exacts [.next, .ite .next (.ite .next (.ite .next (.ite .next (.ite .next .next))))]

theorem execSheafDispatch_ends (s : State) : Ends stop (execSheafDispatch s) := by
  unfold execSheafDispatch
  dsimp only
  refine .ite .next ?_
  split
  · exact .next
  · split <;> exact .next

theorem execCopyBurstAck_ends (serial : Nat) (s : State) : Ends stop (execCopyBurstAck serial s) := by
  unfold execCopyBurstAck
  dsimp only
  split
  · exact .next
  · refine .ite .next ?_
    split
    · exact .next
    · split
      exacts [.next, .ite .next .next]

theorem execSendBurstAck_ends (serial : Nat) (result : Fin 4) (s : State) :
    Ends stop (execSendBurstAck serial result s) := by
  unfold execSendBurstAck
  split
  exacts [.next, .ite .next (.ite .next (.ite .next .next))]

theorem execSendReceive_ends (m : MusterId) (rack : BitVec 7) (wafer : WaferId) (serial : BitVec 64)
    (offset : BitVec 57) (data : List Byte) (last : Bool) (s : State) :
    Ends stop (execSendReceive m rack wafer serial offset data last s) := by
  unfold execSendReceive
  dsimp only
  refine .ite .next (.ite .next ?_)
  split
  exacts [.next, .ite .next .next]

theorem execSheafComplete_ends (serial : Nat) (s : State) : Ends stop (execSheafComplete serial s) := by
  unfold execSheafComplete
  split
  exacts [.next, .ite .next .next]

theorem execMusterOfferReceive_ends (rack : BitVec 7) (wafer : WaferId) (epoch : BitVec 16) (handle : BitVec 16)
    (index : BitVec 11) (digest : Word) (s : State) :
    Ends stop (execMusterOfferReceive rack wafer epoch handle index digest s) := by
  unfold execMusterOfferReceive
  split
  · exact .next
  · split
    · exact .next
    · split
      exacts [.next, .ite .next .next]

theorem execMusterFormTimeout_ends (m : MusterId) (s : State) : Ends stop (execMusterFormTimeout m s) := by
  unfold execMusterFormTimeout
  split
  exacts [.next, .ite .next .next]

theorem execUnitFault_ends (f : FieldId) (x : FaultUnit) (s : State) : Ends stop (execUnitFault f x s) := by
  unfold execUnitFault
  refine .ite .next ?_
  split
  · exact .next
  · split
    exacts [.next, .ite .next .next]

theorem execFrameCommit_ends (f : FieldId) (r : FrameOut) (s : State) (h : stop) :
    Ends stop (execFrameCommit f r s) := by
  unfold execFrameCommit
  split
  · split
    exacts [.next, .ite_fault (fun _ => h) (.ite .next .next)]
  · split
    exacts [.next, .ite .next .next]

theorem execPatrolStep_ends (f : FieldId) (s : State) : Ends stop (execPatrolStep f s) := by
  unfold execPatrolStep
  dsimp only
  refine .ite .next ?_
  split <;> exact .next

theorem execCtrlRepeat_ends (k : LinkId) (s : State) : Ends stop (execCtrlRepeat k s) := by
  unfold execCtrlRepeat
  split
  exacts [.next, .ite .next .next]

theorem execReplayTimeout_ends (k : LinkId) (s : State) : Ends stop (execReplayTimeout k s) := by
  unfold execReplayTimeout
  split
  exacts [.next, .ite .next .next]

theorem execBucketReturn_ends (p : PortId) (b : Fin 64) (s : State) : Ends stop (execBucketReturn p b s) := by
  unfold execBucketReturn
  split
  exacts [.ite .next .next, .next]

theorem execE2eTrackedRequest_ends (f : FieldId) (rack : BitVec 7) (src : Source) (txseq : BitVec 24)
    (tOrig : BitVec 32) (req : TrackedReq) (s : State) (h : req.wellFormed = false → stop) :
    Ends stop (execE2eTrackedRequest f rack src txseq tOrig req s) := by
  unfold execE2eTrackedRequest
  refine .ite_fault (fun hbad => h ?_) .next
  split at hbad
  · exact decide_eq_false (of_decide_eq_true hbad)
  · exact decide_eq_false (of_decide_eq_true hbad)
  · exact absurd hbad Bool.false_ne_true

theorem execE2eFilterRelease_ends (f : FieldId) (s : State) : Ends stop (execE2eFilterRelease f s) := by
  unfold execE2eFilterRelease
  split
  exacts [.next, .ite .next .next]

theorem execSwingStep_ends (k : LinkId) (s : State) : Ends stop (execSwingStep k s) := by
  unfold execSwingStep
  split
  exacts [.next, .ite .next .next]

theorem execReachReceive_ends (k : LinkId) (vector : BitVec 16) (s : State) :
    Ends stop (execReachReceive k vector s) := by
  unfold execReachReceive
  split <;> exact .next

theorem execBarReadDeadline_ends (id : Nat) (s : State) : Ends stop (execBarReadDeadline id s) := by
  unfold execBarReadDeadline
  split
  exacts [.next, .ite .next .next]

theorem execDmaDescFetch_ends (fn : FnId) (q : Fin 2) (a : HostAnswer) (refused : Bool) (s : State)
    (h : a.wellFormed dmaDescBytes = false → stop) :
    Ends stop (execDmaDescFetch fn q a refused s) := by
  unfold execDmaDescFetch
  refine .ite .next ?_
  split
  exacts [.ite_fault (fun hlen => h (decide_eq_false hlen)) .next, .next]

theorem execDmaDescComplete_ends (fn : FnId) (q : Fin 2) (s : State) : Ends stop (execDmaDescComplete fn q s) := by
  unfold execDmaDescComplete
  split
  exacts [.next, .ite .next .next]

theorem execHostCompletionTimeout_ends (tag : BitVec 10) (s : State) :
    Ends stop (execHostCompletionTimeout tag s) := by
  unfold execHostCompletionTimeout
  split
  exacts [.next, .ite .next .next]

theorem execHostCompletionArrive_ends (tag : BitVec 10) (a : HostAnswer) (s : State) (h : stop) :
    Ends stop (execHostCompletionArrive tag a s) := by
  unfold execHostCompletionArrive
  dsimp only
  split
  · exact .next
  · split
    · exact .next
    · refine .ite_fault (fun _ => h) ?_
      split <;> exact .next
    all_goals exact .next

theorem execSheafTimeout_ends (serial : Nat) (s0 : State) : Ends stop (execSheafTimeout serial s0) := by
  unfold execSheafTimeout
  dsimp only
  split
  exacts [.next, .ite .next (.ite .next .next)]

theorem execBellIntervalEnd_ends (f : FieldId) (s0 : State) : Ends stop (execBellIntervalEnd f s0) := by
  unfold execBellIntervalEnd
  dsimp only
  split
  exacts [.next, .ite .next .next]

theorem execRecoveryStart_ends (engines : List (FieldId × Fin 32)) (crofters : List (FieldId × CrofterId))
    (s00 : State) :
    Ends stop (execRecoveryStart engines crofters s00) := by
  unfold execRecoveryStart
  dsimp only
  split
  exacts [.next, .ite .next (.ite .next (.ite .next .next))]

theorem execSuspectReplayStart_ends (f : FieldId) (u : Fin 32) (s : State) :
    Ends stop (execSuspectReplayStart f u s) := by
  unfold execSuspectReplayStart
  split
  · exact .next
  · refine .ite .next ?_
    split <;> exact .next

theorem execSuspectCheckpoint_ends (f : FieldId) (u : Fin 32) (s : State) :
    Ends stop (execSuspectCheckpoint f u s) := by
  unfold execSuspectCheckpoint
  split
  · exact .next
  · split
    exacts [.next, .ite .next .next]

theorem execReplayBoundExpire_ends (f : FieldId) (u : Fin 32) (cycles : Nat) (s : State) :
    Ends stop (execReplayBoundExpire f u cycles s) := by
  unfold execReplayBoundExpire
  dsimp only
  split
  · exact .next
  · split
    · exact .next
    · split
      exacts [.next, .ite .next .next]

theorem execResetDone_ends (spine : BitVec 80) (lost : List (FieldId × BitVec 39)) (s : State) :
    Ends stop (execResetDone spine lost s) := by
  unfold execResetDone
  split <;> exact .next

theorem execAbortReceive_ends (handle : BitVec 16) (wafer : WaferId) (rack : BitVec 7) (status : BitVec 8)
    (epoch : BitVec 16) (wave : BitVec 32) (s : State) :
    Ends stop (execAbortReceive handle wafer rack status epoch wave s) := by
  unfold execAbortReceive
  split
  · exact .next
  · split
    exacts [.next, .ite .next (.ite .next .next)]

theorem execWindowReadDone_ends (s : State) : Ends stop (execWindowReadDone s) := by
  unfold execWindowReadDone
  split <;> exact .next

theorem execIrqLineRise_ends (place : RegPlace) (s : State) : Ends stop (execIrqLineRise place s) := by
  unfold execIrqLineRise
  split <;> exact .next

theorem execErrCaptureClear_ends (place : RegPlace) (writeErr more : Bool) (s : State) :
    Ends stop (execErrCaptureClear place writeErr more s) := by
  unfold execErrCaptureClear
  split
  · exact .next
  · refine .ite .next (.ite .next ?_)
    split
    · exact .next
    · split <;> exact .next

theorem execRegisterWrite_ends (path : RegPath) (op : RegOp) (s : State) :
    Ends stop (execRegisterWrite path op s) := by
  unfold execRegisterWrite
  split
  exacts [.ite .next .next, .ite .next .next, .next, .next]

theorem execHoldupExhausted_ends (s : State) : Ends stop (execHoldupExhausted s) := by
  unfold execHoldupExhausted
  split <;> exact .next

/-! ### The dispatch -/

/-- No command is refused, and only a malformed operand stops one. The first five groups answer at once, or after
checks alone. -/
theorem exec_ends (c : Instr) (s : State) : Ends (mayStop c) (exec c s) := by
  cases c with
  | hearthWatchdogExpire | perstDeassert | perstAssert | h0LinkDown | flrComplete | vinSagDetect | modTargetActive |
    modTargetDrowsy | modTargetStandby | modTargetOff | fldTargetOn | fldTargetIdle | fldTargetRetain | fldTargetOff
    | pstateWrite | thermResume | fieldRetire | damageScanDone | retiredTaskStatus | fieldRetiredPost |
    unitFencedPost | spareEnabledPost | spreadEnable | spreadDisable | spreadSlotWrite | sroWindowWrite |
    sroCopyDone | threadStart | rvInstruction | load | store | amo | lr | sc | fence | fenceI | ecall | ebreak |
    mret | csrAccess | xtIssue | xtIssueW | xtTadd | xtTset | xtTwait | xtTarm | xtTread | xtTcas | xtTchain |
    xtAmofaddS | xtAmofaddBf2 | xtAmoaddSatD | xtAmocasD | xtPause | xtExit | xtBell | xtKill | tallyOpRead |
    tallyOpSet | tallyOpAdd | tallyOpClearFlags | tallyOpCas | tallyOpWait | tallyOpArm | tallyEngineCompletion |
    tallyReceiptUpdate | tallyParked | tlySigEnable | tlySigTailWrite | tlyUseRead | parishFieldsWrite |
    parishEnable | parishDisable | parishCancel | ringDoorbell | ringDisable | ringRqHeadWrite | musterGo |
    musterFree | qrnNop | qrnMatmul | arrayHoldExit | qrnHoldWindow | qrnMatmulCplx | qrnMatmulWide | qrnLaneMv |
    qrnTaskComplete | sivNopTask | sivRun | sivTableImage | sivTableLoad | sivTaskComplete | sivInstrNop | sivLd |
    sivLdData | sivSt | sivFill | sivArg | sivAdd | sivSub | sivMul | sivFma | sivMax | sivMin | sivAbs | sivNeg |
    sivRcp | sivDiv | sivSqrt | sivCmplt | sivCmple | sivCmpeq | sivSelect | sivAnd | sivOr | sivXor | sivShl |
    sivShra | sivShrl | sivCvtn | sivCvtw | sivLut | sivRrow | sivRcol | sivShfl | sivPerm | crnEnable | crnDisable
    | crnNop | crnOpen | crnClose | crnFork | crnStep | poolQueryReply | poolAgentRequest | crnAppend | crnGather |
    crnTruncate | crnSpill | granaryWriteAck | crnRecall | granaryTimeout | crnTaskComplete | crnReclaimGo |
    crnReclaimDone | scrNop | voxelize | rulebook | scrGather | scatter | scrTaskComplete | lomNop | sessionInit |
    decode | encode | convert | frameBudgetExpire | loomJobComplete | refresh | hbmTempCross | scrubMark |
    scrubOverwrite | scrubDone | granaryEnable | granaryDisable | s0LinkDown | linkTargetDown | linkTargetUp |
    linkTargetQuiet | linkTargetTest | linkTxWrite | prbsCtlWrite | prbsClear | prbsLockLoss | prbsBerUpdate |
    portCtlWrite | discSend | discRxRelease | helloReceive | mapReceive | assignReceive | joinReceive | recoveryGo |
    resetEngine | resetCrofter | resetField | resetParish | resetWaferWarm | resetWaferCold | reeveGetStatus |
    reeveGetNonce | tenantBind | tenantRelease | fieldClearDone | assayGrant | assayRevoke | fwStage | fwActivate |
    lifecycle | debugUnlock | returnToService | spdmGetVersion | spdmGetCapabilities | spdmNegotiateAlgorithms |
    spdmGetDigests | spdmGetCertificate | spdmChallenge | spdmGetMeasurements | nonceExpire | rngDataRead |
    freezeRegister | thawRegister | windowGo | tapReset | tapBypass | tapIdcode | tapSamplePreload | tapFreeze |
    tapThaw | tapSel | tapChain | tapMem | tapStat | tapMbx | tapExtest | tapClamp | tapHighz | tapExtestPulse |
    tapExtestTrain | tapBisctl | bistGo | bistAbort | bistRestoreDone | crierRead | crierMailboxPost | mirrorPost |
    sbSetModule | sbSetPstate | sbSetField | sbSetCapWafer | sbSetCapParish | sbSetWakeArm | sbThermResume |
    sbGpioWrite | gpioIrqDetect | gpioOutSet | gpioOutClr | gpioLockKeyWrite | gpioLockSetWrite | i2cGo | tachUpdate
    | mctpSetEndpointId | mctpGetEndpointId | mctpGetEndpointUuid | mctpGetVersionSupport | mctpGetMsgTypeSupport |
    mctpGetVendorSupport | pldmGetTid | pldmSetTid | pldmGetVersion | pldmGetTypes | pldmGetCommands |
    pldmGetPdrRepoInfo | pldmGetPdr | pldmGetSensorReading | pldmGetStateSensors | pldmGetFruMetadata |
    pldmGetFruTable | irqRearm | cmdAddrParityError | waferFault | pwrFailGlitch | escalationWindowSlide =>
    exact .next
  | powerUp | hearthAlive | planeCharged | holdupCheckDone | hbmGroupTrained | seamsTrained | imagesLoaded |
    fabricStageTimeout | bootReady | hearthFwReportTimeout | h0Ready | vfFlr | pfFlr | pwrFailAssert |
    drowsyDrainDone | drainMsExpire | wakeEdge | fldTransitionDone | pstateClockSwitch | pstateRailSettled |
    estimatorInterval | droopDetect | droopRelease | droopWindowExpire | thermWarnCross | clockRelock | seamUeLimit
    | seamSatWindow | routeRebuild | freshFaultZeroDone | lateResponse | spreadDrained | spreadMarkLost |
    pauseExpire | sroInvStart | sroInvDone | parishUnblock | parishCancelDone | ringEnable | musterOfferRepeat |
    stackLoss | linkSignalDetect | linkPhyTrained | linkTrainTimeout | identSend | identTimeout | lossOfSignal |
    fecLockLost | quietAckReceive | wakeReceive | downNoticeReceive | testReqReceive | testAckReceive | ackDue |
    linkWakeDone | prbsLock | fmWaitExpire | spreadEntryMove | withdrawReceive | autoWithdrawExpire | timeSyncSend |
    timeSyncReceive | syncMissing | holdoverExpire | ppsEdge | bar2Access | dmaDoorbell | tagDrainExpire |
    entropyStartupDone | entropyHealthFail | drbgReseed | reeveWatchdogRestart | freezeComplete | bistSetupDone |
    bistTestDone | mirrorRoll | irqHoldoffExpire | atsInvalidateRequest | ppsOutEdge =>
    exact .ite .next .next
  | clockStageDone | calibrationPeriod | thermalTrip | seamEccError | freshMapFault | ackFlitReceive |
    quietReplayEmpty | discAnswerReceive | msixUnmask | freezePin | freezeMessageReceive | freezeArrive |
    thawMessageReceive | fieldResume | crierWrite =>
    exact .ite .next (.ite .next .next)
  | parentLoss | ucwLimitExceeded | quietReqReceive =>
    exact .ite (.ite .next .next) .next
  | selfcheckDone | hbmEccError | s0EnumDone | i2cDone =>
    exact .ite .next (.ite .next (.ite .next .next))
  | vinQualified => exact execVinQualified_ends ..
  | reeveBootDone => exact execReeveBootDone_ends ..
  | h0ConfigRequest => exact execH0ConfigRequest_ends ..
  | reeveSectionHandover => exact execReeveSectionHandover_ends ..
  | reeveHandoverTimeout => exact execReeveHandoverTimeout_ends ..
  | recordCommit => exact execRecordCommit_ends ..
  | modTransitionDone => exact execModTransitionDone_ends ..
  | clockReparent => exact execClockReparent_ends ..
  | commonsAccess => exact execCommonsAccess_ends ..
  | freshFillDone => exact execFreshFillDone_ends ..
  | commonsResponse => exact execCommonsResponse_ends _ _ _ _ _ (.inr rfl)
  | requestTimeout => exact execRequestTimeout_ends ..
  | storeAck => exact execStoreAck_ends ..
  | issueWRetry => exact execIssueWRetry_ends ..
  | issueStatusReturn => exact execIssueStatusReturn_ends ..
  | taskEnqueue => exact execTaskEnqueue_ends _ _ .inl
  | tallyOpChain => exact .ite_fault (fun h => .inl (decide_eq_false h)) .next
  | waiterSatisfy => exact execWaiterSatisfy_ends ..
  | chainIssueRetry => exact execChainIssueRetry_ends ..
  | tallyReissue => exact execTallyReissue_ends ..
  | sheafFetch => exact execSheafFetch_ends _ _ _ _ _ fun h => .inl (decide_eq_false h)
  | depWaitRetry => exact execDepWaitRetry_ends ..
  | depSatisfied => exact execDepSatisfied_ends ..
  | sheafDispatch => exact execSheafDispatch_ends ..
  | copyBurstAck => exact execCopyBurstAck_ends ..
  | sendBurstAck => exact execSendBurstAck_ends ..
  | sendReceive => exact execSendReceive_ends ..
  | sheafComplete => exact execSheafComplete_ends ..
  | musterOfferReceive => exact execMusterOfferReceive_ends ..
  | musterFormTimeout => exact execMusterFormTimeout_ends ..
  | unitFault => exact execUnitFault_ends ..
  | granaryReadDone => exact .ite_fault (fun _ => .inr rfl) .next
  | frameCommit => exact execFrameCommit_ends _ _ _ (.inr rfl)
  | patrolStep => exact execPatrolStep_ends ..
  | identReceive => exact .ite_fault (fun h => .inl (decide_eq_false h)) (.ite .next (.ite .next .next))
  | dataFlitReceive =>
    exact .ite_fault (fun h => .inl (decide_eq_false h))
      (.ite .next (.ite .next (.ite .next (.ite .next (.ite .next (.ite .next .next))))))
  | ctrlRepeat => exact execCtrlRepeat_ends ..
  | replayTimeout => exact execReplayTimeout_ends ..
  | flitTransmit => exact .ite_fault (fun h => .inl (decide_eq_false h)) (.ite .next (.ite .next .next))
  | bucketReturn => exact execBucketReturn_ends ..
  | e2eTrackedRequest => exact execE2eTrackedRequest_ends _ _ _ _ _ _ _ .inl
  | e2eFilterRelease => exact execE2eFilterRelease_ends ..
  | swingStep => exact execSwingStep_ends ..
  | reachReceive => exact execReachReceive_ends ..
  | barReadDeadline => exact execBarReadDeadline_ends ..
  | dmaDescFetch => exact execDmaDescFetch_ends _ _ _ _ _ .inl
  | dmaDescComplete => exact execDmaDescComplete_ends ..
  | hostCompletionTimeout => exact execHostCompletionTimeout_ends ..
  | hostCompletionArrive => exact execHostCompletionArrive_ends _ _ _ (.inr rfl)
  | sheafTimeout => exact execSheafTimeout_ends ..
  | bellIntervalEnd => exact execBellIntervalEnd_ends ..
  | recoveryStart => exact execRecoveryStart_ends ..
  | suspectReplayStart => exact execSuspectReplayStart_ends ..
  | suspectCheckpoint => exact execSuspectCheckpoint_ends ..
  | replayBoundExpire => exact execReplayBoundExpire_ends ..
  | resetDone => exact execResetDone_ends ..
  | abortReceive => exact execAbortReceive_ends ..
  | windowReadDone => exact execWindowReadDone_ends ..
  | irqLineRise => exact execIrqLineRise_ends ..
  | errCaptureClear => exact execErrCaptureClear_ends ..
  | registerWrite => exact execRegisterWrite_ends ..
  | holdupExhausted => exact execHoldupExhausted_ends ..

/-- Settles O51: `exec_ends` says it of every command. That a malformed operand is the model's one fault is log 5, a
DESIGN CHOICE. -/
theorem onlyMalformedOperandsStop : Obligations.OnlyMalformedOperandsStop := by
  unfold Obligations.OnlyMalformedOperandsStop
  refine ⟨fun c s hform hlen => (exec_ends c s).exists_next ?_, fun c s r => (exec_ends c s).ne_refused r, ?_⟩
  · rintro (hbad | hdue)
    · exact Bool.false_ne_true (hbad.symm.trans hform)
    · exact Bool.false_ne_true (hlen.symm.trans hdue)
  · rintro c s ⟨m⟩ hfault
    exact ⟨(exec_ends c s).of_fault hfault, m, rfl⟩

end Sys2Proof.Machine

/-! Operations on a tally that wait, and requests that wait at their source (O5): what each operation of the tally
units changes, then each command by the case its operation is in. -/

namespace Sys2Proof.Machine

/-! ### What an operation at a home changes -/

/-- From `s` to `s'` only the registers `l` and the state of the tally units change. -/
def State.changesTallies (l : List Reg) (s s' : State) : Prop :=
  s' = { s with regs := s'.regs, tallies := s'.tallies } ∧ s.onlyRegs l s'

/-- The registers that waits, arms, chains and sets may change: the counts of applied and of refused operations. -/
def tallyRegs : List Reg := [.TLY_OPS, .TLY_REFUSED]

section
variable {l m : List Reg} {s u v : State}

theorem State.changesTallies.trans (h : s.changesTallies l u) (k : u.changesTallies l v) : s.changesTallies l v := by
  obtain ⟨hframe, hregs⟩ := h
  obtain ⟨kframe, kregs⟩ := k
  refine ⟨kframe.trans ?_, hregs.trans kregs⟩
  rw [hframe]

/-- The frame of an operation whose answer is sent. -/
theorem State.changesTallies.send (h : s.changesTallies l u) (sub : l ⊆ m) (a : OutMsg) :
    u.send a = { s with regs := (u.send a).regs, tallies := (u.send a).tallies, out := (u.send a).out } ∧
      s.onlyRegs m (u.send a) := by
  obtain ⟨hframe, hregs⟩ := h
  refine ⟨?_, hregs.mono sub⟩
  rw [hframe]
  rfl

theorem State.changesTallies.out (h : s.changesTallies l u) : u.out = s.out := by
  rw [h.1]

end

theorem State.tally_of_words {s t : State} (h : t.tallies.words = s.tallies.words) (k : Nat) : t.tally k = s.tally k :=
  congrArg (fun x => NMap.look x zeroTally k) h

theorem State.changesTallies_countOp (s : State) (k : Nat) : s.changesTallies tallyRegs (s.countOp k) :=
  ⟨rfl, s.onlyRegs_addWrap (f := RF.TLY_OPS_COUNT) _ _ _ (by decide)⟩

theorem State.changesTallies_tallyRefuse (s : State) (k : Nat) : s.changesTallies tallyRegs (s.tallyRefuse k).1 :=
  ⟨rfl, s.onlyRegs_setF (f := RF.TLY_REFUSED_COUNT) _ _ _ (by decide)⟩

theorem State.changesTallies_addWaiter (s : State) (k th : Nat) (kind : WaiterKind) (tx : Option TxId) :
    s.changesTallies tallyRegs (s.addWaiter k th kind tx) :=
  ⟨rfl, s.onlyRegs_refl _⟩

theorem State.changesTallies_tallySet (s : State) (k : Nat) (v : Word) :
    s.changesTallies tallyRegs (s.tallySet k v).1 :=
  ⟨rfl, (s.changesTallies_countOp k).2⟩

theorem State.changesTallies_dupRecord (s : State) (home : Nat) (tx : Option TxId) (w : Word) :
    s.changesTallies tallyRegs (s.dupRecord home tx w) := by
  cases tx <;> exact ⟨rfl, s.onlyRegs_refl _⟩

@[simp] theorem State.countOp_tallies (s : State) (k : Nat) : (s.countOp k).tallies = s.tallies := rfl

@[simp] theorem State.tallyRefuse_tallies (s : State) (k : Nat) : (s.tallyRefuse k).1.tallies = s.tallies := rfl

@[simp] theorem State.addWaiter_words (s : State) (k th : Nat) (kind : WaiterKind) (tx : Option TxId) :
    (s.addWaiter k th kind tx).tallies.words = s.tallies.words := rfl

@[simp] theorem State.addWaiter_waiters (s : State) (k th : Nat) (kind : WaiterKind) (tx : Option TxId) :
    (s.addWaiter k th kind tx).tallies.waiters = s.tallies.waiters ++ [⟨s.tallies.nextSerial, k, th, kind, tx⟩] :=
  rfl

@[simp] theorem State.dupRecord_words (s : State) (home : Nat) (tx : Option TxId) (w : Word) :
    (s.dupRecord home tx w).tallies.words = s.tallies.words := by
  cases tx <;> rfl

@[simp] theorem State.dupRecord_waiters (s : State) (home : Nat) (tx : Option TxId) (w : Word) :
    (s.dupRecord home tx w).tallies.waiters = s.tallies.waiters := by
  cases tx <;> rfl

@[simp] theorem State.dupRecord_reqs (s : State) (home : Nat) (tx : Option TxId) (w : Word) :
    (s.dupRecord home tx w).tallies.reqs = s.tallies.reqs := by
  cases tx <;> rfl

@[simp] theorem State.tallySet_reqs (s : State) (k : Nat) (v : Word) :
    (s.tallySet k v).1.tallies.reqs = s.tallies.reqs := rfl

theorem State.tally_tallySet_same (s : State) (k : Nat) (v : Word) :
    (s.tallySet k v).1.tally k = ⟨bits v 0 48, false, false⟩ :=
  State.tally_setTally_same ..

theorem State.tally_tallySet_other (s : State) {k j : Nat} (v : Word) (h : j ≠ k) :
    (s.tallySet k v).1.tally j = s.tally j :=
  State.tally_setTally_other (s.countOp k) _ h

/-! ### The cases of a wait, an arm and a chain (R150, R153, R156) -/

theorem State.tallyWait_of_met (s : State) {k th : Nat} (owner : WaitOwner) (tx : Option TxId)
    (h : th ≤ (s.tally k).count) : s.tallyWait k th owner tx = (s.countOp k, .word (s.tallyWord k)) :=
  if_pos h

theorem State.tallyWait_of_full (s : State) {k th : Nat} (owner : WaitOwner) (tx : Option TxId)
    (h : (s.tally k).count < th) (hroom : s.noRoom k false = true) :
    s.tallyWait k th owner tx = (((s.countOp k).tallyRefuse k).1, .word (s.tallyWord k ||| refusedBit)) := by
  unfold State.tallyWait
  rw [if_neg h.not_ge, if_pos hroom]
  rfl

theorem State.tallyWait_of_room (s : State) {k th : Nat} (owner : WaitOwner) (tx : Option TxId)
    (h : (s.tally k).count < th) (hroom : s.noRoom k false = false) :
    s.tallyWait k th owner tx = ((s.countOp k).addWaiter k th (.wait owner) tx, .parked) := by
  unfold State.tallyWait
  rw [if_neg h.not_ge, if_neg (Bool.eq_false_iff.1 hroom)]

theorem State.tallyArm_of_room (s : State) {k th : Nat} (tx : Option TxId) (h : (s.tally k).count < th)
    (hroom : s.noRoom k false = false)
    (harm : s.tallies.waiters.any (fun x => x.tally == k && x.kind.isArm) = false) :
    s.tallyArm k th tx = ((s.countOp k).addWaiter k th .arm tx, .word (s.tallyWord k)) := by
  unfold State.tallyArm
  rw [if_neg h.not_ge, if_neg (Bool.eq_false_iff.1 harm), if_neg (Bool.eq_false_iff.1 hroom)]

theorem State.tallyChain_of_room (s : State) {k th : Nat} (desc : List Byte) (skipErr : Bool) (issuer : FieldId)
    (parish : Option ParishId) (tx : Option TxId) (h : (s.tally k).count < th) (hroom : s.noRoom k true = false) :
    s.tallyChain k th desc skipErr issuer parish tx =
      ((s.countOp k).addWaiter k th (.chain desc skipErr issuer parish) tx, .word (s.tallyWord k)) := by
  unfold State.tallyChain
  rw [if_neg h.not_ge, if_neg (Bool.eq_false_iff.1 hroom)]

/-! ### The duplicate filter when it holds nothing (R158) -/

/-- A home that runs admits the source and keeps neither a result nor a parked wait of the transaction. -/
structure State.hearsNew (s : State) (f t : Nat) (src : Source) (tx : Option TxId) : Prop where
  runs : s.fieldRuns f = true
  admitted : s.admits src f 3 (t * 64) 8 = true
  noResult : s.dupResult f tx = none
  notParked : s.entries.any (fun x => x.tx == tx && x.tx.isSome) = false

theorem State.not_joined {s : State} {home : Nat} {tx : Option TxId}
    (h : s.entries.any (fun x => x.tx == tx && x.tx.isSome) = false) :
    (tx.isSome && s.entries.any (fun x => x.tx == tx && decide (x.tally / 4096 = home))) = false := by
  rw [Bool.and_eq_false_imp]
  intro hsome
  rw [List.any_eq_false]
  intro x hx hjoin
  obtain ⟨htx, -⟩ := Bool.and_eq_true_iff.1 hjoin
  refine List.any_eq_false.1 h x hx ?_
  rw [htx, eq_of_beq htx, hsome]
  rfl

theorem State.dedup_of_noResult {s : State} {home : Nat} {tx : Option TxId} {op : State → State × Word}
    (h : s.dupResult home tx = none) :
    s.dedup home tx op = ((op s).1.dupRecord home tx (op s).2, (op s).2) := by
  unfold State.dedup
  rw [h]

section
variable {s u : State} {f t : Nat} {src : Source} {tx : Option TxId} {op : State → State × TallyAns} {w : Word}

theorem State.hearsNew.dedupAns_word (h : s.hearsNew f t src tx) (hop : op s = (u, .word w)) :
    s.dedupAns f tx op = (u.dupRecord f tx w, .word w) := by
  unfold State.dedupAns
  rw [h.noResult]
  dsimp only
  rw [State.not_joined h.notParked, hop]
  rfl

theorem State.hearsNew.dedupAns_parked (h : s.hearsNew f t src tx) (hop : op s = (u, .parked)) :
    s.dedupAns f tx op = (u, .parked) := by
  unfold State.dedupAns
  rw [h.noResult]
  dsimp only
  rw [State.not_joined h.notParked, hop]
  rfl

end

/-! ### An operation that arrives at its home (R146, R153) -/

theorem tallyKey_div (f : Nat) {t : Nat} (h : t < 4096) : tallyKey f t / 4096 = f := by
  unfold tallyKey
  omega

/-- The id that the answer to an operation carries; 0 for an operation without a transaction. -/
def answerId (tx : Option TxId) : Nat := tx.elim 0 (fun x => x.id.toNat)

/-- The answer of an operation as a message to the source's wafer. -/
def TallyAns.message (wafer : WaferId) (id : Nat) : TallyAns → OutMsg
  | .word w => .tallyReply wafer id w
  | .parked => .tallyParked wafer id

/-- What a home applies for a source it admits. -/
def State.tallyApplyFor (s : State) (f t : Nat) (src : Source) (tx : Option TxId) (op : TallyOp) : State × TallyAns :=
  s.tallyApply (tallyKey f t) op (.remote src.wafer (answerId tx)) (src.field.elim 0 id) src.parish tx

theorem State.tallyArrive_admitted {s : State} {f t : Nat} {src : Source} (tx : Option TxId) (op : TallyOp)
    (hrun : s.fieldRuns f = true) (hadm : s.admits src f 3 (t * 64) 8 = true) :
    s.tallyArrive f t src tx op = (s.tallyApplyFor f t src tx op).1.send
      ((s.tallyApplyFor f t src tx op).2.message src.wafer (answerId tx)) := by
  unfold State.tallyArrive State.tallyApplyFor
  rw [if_neg (by simp [hrun]), if_neg (by simp [hadm])]
  obtain ⟨wafer, field, parish, host, unit⟩ := src
  cases tx <;> cases field
  all_goals
    dsimp only [answerId, Option.elim, id]
    split
    · next e => rw [e]; rfl
    · next e => rw [e]; rfl

section
variable {s u : State} {home : FieldId} {t : TallyId} {src : Source} {tx : Option TxId} {th : BitVec 48} {w : Word}

/-- After an operation that its home answers with a word: the filter keeps the word, which is sent. -/
def State.answered (u : State) (home : FieldId) (src : Source) (tx : Option TxId) (w : Word) : State :=
  (u.dupRecord home.val tx w).send (.tallyReply src.wafer (answerId tx) w)

theorem State.hearsNew.arrive_word {op : TallyOp} {go : State → State × TallyAns}
    (h : s.hearsNew home.val t.val src tx)
    (happly : s.tallyApplyFor home.val t.val src tx op = s.dedupAns (tallyKey home.val t.val / 4096) tx go)
    (hgo : go s = (u, .word w)) :
    s.tallyArrive home.val t.val src tx op = u.answered home src tx w := by
  rw [State.tallyArrive_admitted tx op h.runs h.admitted, happly, tallyKey_div _ t.isLt, h.dedupAns_word hgo]
  rfl

theorem State.hearsNew.arrive_parked {op : TallyOp} {go : State → State × TallyAns}
    (h : s.hearsNew home.val t.val src tx)
    (happly : s.tallyApplyFor home.val t.val src tx op = s.dedupAns (tallyKey home.val t.val / 4096) tx go)
    (hgo : go s = (u, .parked)) :
    s.tallyArrive home.val t.val src tx op = u.send (.tallyParked src.wafer (answerId tx)) := by
  rw [State.tallyArrive_admitted tx op h.runs h.admitted, happly, tallyKey_div _ t.isLt, h.dedupAns_parked hgo]
  rfl

theorem State.changesTallies.answered {l : List Reg} (h : s.changesTallies tallyRegs u) (sub : tallyRegs ⊆ l) :
    u.answered home src tx w = { s with
      regs := (u.answered home src tx w).regs, tallies := (u.answered home src tx w).tallies,
      out := (u.answered home src tx w).out } ∧
    s.onlyRegs l (u.answered home src tx w) :=
  (h.trans (u.changesTallies_dupRecord home.val tx w)).send sub _

@[simp] theorem State.answered_waiters : (u.answered home src tx w).tallies.waiters = u.tallies.waiters :=
  u.dupRecord_waiters ..

@[simp] theorem State.answered_words : (u.answered home src tx w).tallies.words = u.tallies.words :=
  u.dupRecord_words ..

theorem State.changesTallies.answered_out {l : List Reg} (h : s.changesTallies l u) :
    (u.answered home src tx w).out = s.out ++ [.tallyReply src.wafer (answerId tx) w] := by
  unfold State.answered
  rw [State.send_out, (u.changesTallies_dupRecord home.val tx w).out, h.out]

/-! ### One lemma per command -/

theorem exec_tallyOpWait_met (h : s.hearsNew home.val t.val src tx)
    (hmet : th.toNat ≤ (s.tally (tallyKey home.val t.val)).count) :
    exec (.tallyOpWait home t src tx th) s = .next ((s.countOp (tallyKey home.val t.val)).answered home src tx
      (s.tallyWord (tallyKey home.val t.val))) :=
  congrArg Host.Outcome.next (h.arrive_word (go := fun x => x.tallyWait _ _ _ tx) rfl
    (s.tallyWait_of_met _ tx hmet))

theorem exec_tallyOpWait_full (h : s.hearsNew home.val t.val src tx)
    (hmet : (s.tally (tallyKey home.val t.val)).count < th.toNat)
    (hroom : s.noRoom (tallyKey home.val t.val) false = true) :
    exec (.tallyOpWait home t src tx th) s = .next
      (((s.countOp (tallyKey home.val t.val)).tallyRefuse (tallyKey home.val t.val)).1.answered home src tx
        (s.tallyWord (tallyKey home.val t.val) ||| refusedBit)) :=
  congrArg Host.Outcome.next (h.arrive_word (go := fun x => x.tallyWait _ _ _ tx) rfl
    (s.tallyWait_of_full _ tx hmet hroom))

theorem exec_tallyOpWait_room (h : s.hearsNew home.val t.val src tx)
    (hmet : (s.tally (tallyKey home.val t.val)).count < th.toNat)
    (hroom : s.noRoom (tallyKey home.val t.val) false = false) :
    exec (.tallyOpWait home t src tx th) s = .next
      (((s.countOp (tallyKey home.val t.val)).addWaiter (tallyKey home.val t.val) th.toNat
        (.wait (.remote src.wafer (answerId tx))) tx).send (.tallyParked src.wafer (answerId tx))) :=
  congrArg Host.Outcome.next (h.arrive_parked (go := fun x => x.tallyWait _ _ _ tx) rfl
    (s.tallyWait_of_room _ tx hmet hroom))

theorem exec_tallyOpArm_room (h : s.hearsNew home.val t.val src tx)
    (hmet : (s.tally (tallyKey home.val t.val)).count < th.toNat)
    (hroom : s.noRoom (tallyKey home.val t.val) false = false)
    (harm : s.tallies.waiters.any (fun x => x.tally == tallyKey home.val t.val && x.kind.isArm) = false) :
    exec (.tallyOpArm home t src tx th) s = .next
      (((s.countOp (tallyKey home.val t.val)).addWaiter (tallyKey home.val t.val) th.toNat .arm tx).answered home src tx
        (s.tallyWord (tallyKey home.val t.val))) :=
  congrArg Host.Outcome.next (h.arrive_word (go := fun x => x.tallyArm _ _ tx) rfl
    (s.tallyArm_of_room tx hmet hroom harm))

theorem exec_tallyOpChain_room {skipErr : Bool} {desc : List Byte} (hlen : desc.length = 64)
    (h : s.hearsNew home.val t.val src tx)
    (hmet : (s.tally (tallyKey home.val t.val)).count < th.toNat)
    (hroom : s.noRoom (tallyKey home.val t.val) true = false) :
    exec (.tallyOpChain home t src tx th skipErr desc) s = .next
      (((s.countOp (tallyKey home.val t.val)).addWaiter (tallyKey home.val t.val) th.toNat
        (.chain desc skipErr (src.field.elim 0 id) src.parish) tx).answered home src tx
          (s.tallyWord (tallyKey home.val t.val))) :=
  (if_neg (not_not_intro hlen)).trans (congrArg Host.Outcome.next
    (h.arrive_word (go := fun x => x.tallyChain _ _ desc skipErr _ _ tx) (if_neg (not_not_intro hlen))
      (s.tallyChain_of_room desc skipErr _ _ tx hmet hroom)))

end

/-! ### The answer to a request of this wafer (R151, R159) -/

theorem State.changesThread_answerTally (s : State) (f t : Nat) (rd : XReg) (w : Word) :
    s.changesThread [.CRF_INST_COUNT] f t (s.answerTally f t rd w) :=
  (s.changesThread_modThread _).trans (State.changesThread_retireWith ..)

/-- An answered wait changes its thread, its sheaf's dependences or what is sent. -/
theorem State.answerWait_frame (s : State) (owner : WaitOwner) (w : Word) :
    s.answerWait owner w = { s with
      regs := (s.answerWait owner w).regs, crofters := (s.answerWait owner w).crofters,
      seq := (s.answerWait owner w).seq, out := (s.answerWait owner w).out } ∧
    s.onlyRegs [.CRF_INST_COUNT] (s.answerWait owner w) := by
  cases owner with
  | thread f t rd =>
    unfold State.answerWait
    dsimp only
    split
    · obtain ⟨-, hframe, hregs⟩ := s.changesThread_answerTally f.val t.val rd w
      refine ⟨?_, hregs⟩
      rw [hframe]
    · exact ⟨rfl, s.onlyRegs_refl _⟩
  | dep => exact ⟨rfl, s.onlyRegs_refl _⟩
  | remote => exact ⟨rfl, s.onlyRegs_refl _⟩

@[simp] theorem State.answerWait_tallies (s : State) (owner : WaitOwner) (w : Word) :
    (s.answerWait owner w).tallies = s.tallies := by
  rw [(s.answerWait_frame owner w).1]

theorem State.changesTallies.answerWait {l : List Reg} {s u : State} (h : s.changesTallies l u) (owner : WaitOwner)
    (w : Word) :
    u.answerWait owner w = { s with
      regs := (u.answerWait owner w).regs, crofters := (u.answerWait owner w).crofters,
      tallies := (u.answerWait owner w).tallies, seq := (u.answerWait owner w).seq,
      out := (u.answerWait owner w).out } ∧
    s.onlyRegs (.CRF_INST_COUNT :: l) (u.answerWait owner w) := by
  obtain ⟨hframe, hregs⟩ := h
  obtain ⟨kframe, kregs⟩ := u.answerWait_frame owner w
  refine ⟨kframe.trans ?_, (hregs.mono (List.subset_cons_self _ _)).trans (kregs.mono (by simp))⟩
  rw [u.answerWait_tallies owner w]
  generalize u.answerWait owner w = x
  rw [hframe]

theorem State.tallyRedo_set (s : State) {r : TallyReq} {v : Word} (hop : r.op = .set v)
    (hres : s.dupResult (r.tally / 4096) (some r.tx) = none) :
    s.tallyRedo r = (((s.tallySet r.tally v).1.dupRecord (r.tally / 4096) (some r.tx) (s.tallyWord r.tally)).answerWait
      r.owner (s.tallyWord r.tally)) := by
  have happly (issuer : FieldId) (parish : Option ParishId) :
      s.tallyApply r.tally r.op r.owner issuer parish (some r.tx) =
        ((s.tallySet r.tally v).1.dupRecord (r.tally / 4096) (some r.tx) (s.tallyWord r.tally),
          .word (s.tallyWord r.tally)) := by
    unfold State.tallyApply
    rw [hop]
    dsimp only
    rw [State.dedup_of_noResult hres]
    rfl
  unfold State.tallyRedo
  dsimp only
  rw [happly]

/-! ### Requests that wait at their source (R153, R159) -/

/-- The state without the waiting request `id`. -/
def State.withoutReq (s : State) (id : Nat) : State :=
  { s with tallies := { s.tallies with reqs := s.tallies.reqs.filter (fun q => !decide (q.id = id)) } }

theorem exec_tallyReissue_home (id : Nat) (r : TallyReq) (s : State)
    (hfind : s.tallies.reqs.find? (fun r => decide (r.id = id)) = some r)
    (hgen : s.getF RF.WFR_SEAM_GEN_GEN 0 0 % 2 = 0)
    (hwafer : r.wafer = s.ownWafer) (hin : s.inService (r.tally / 4096) = true)
    (hholds : s.fieldHolds (r.tally / 4096) = false) :
    exec (.tallyReissue id) s = .next ((s.withoutReq id).tallyRedo r) := by
  have hmode : s.fieldMode (r.tally / 4096) = 0 := eq_of_beq hin
  show execTallyReissue id s = _
  unfold execTallyReissue
  rw [hfind]
  dsimp only
  rw [if_neg (by simp [hgen, hwafer]), if_neg (by simp [hmode]), if_neg (by simp [hmode]), if_neg (by simp [hholds])]
  rfl

/-- The state after a set that was sent again: the home applies it and its owner has the word. -/
def State.setAgain (s : State) (id : Nat) (r : TallyReq) (v : Word) : State :=
  (((s.withoutReq id).tallySet r.tally v).1.dupRecord (r.tally / 4096) (some r.tx) (s.tallyWord r.tally)).answerWait
    r.owner (s.tallyWord r.tally)

theorem State.setAgain_reqs (s : State) (id : Nat) (r : TallyReq) (v : Word) :
    ∀ q ∈ (s.setAgain id r v).tallies.reqs, q.id ≠ id := by
  intro q hq
  unfold State.setAgain at hq
  rw [State.answerWait_tallies, State.dupRecord_reqs, State.tallySet_reqs] at hq
  simpa using (List.mem_filter.1 hq).2

theorem State.setAgain_tally (s : State) (id : Nat) (r : TallyReq) (v : Word) (k : Nat) :
    (s.setAgain id r v).tally k = ((s.withoutReq id).tallySet r.tally v).1.tally k := by
  apply State.tally_of_words
  unfold State.setAgain
  rw [State.answerWait_tallies, State.dupRecord_words]

theorem State.setAgain_frame (s : State) (id : Nat) (r : TallyReq) (v : Word) :
    s.setAgain id r v = { s with
      regs := (s.setAgain id r v).regs, crofters := (s.setAgain id r v).crofters,
      tallies := (s.setAgain id r v).tallies, seq := (s.setAgain id r v).seq, out := (s.setAgain id r v).out } ∧
    s.onlyRegs (.CRF_INST_COUNT :: tallyRegs) (s.setAgain id r v) := by
  have hwithout : s.changesTallies tallyRegs (s.withoutReq id) := ⟨rfl, s.onlyRegs_refl _⟩
  exact ((hwithout.trans (State.changesTallies_tallySet _ r.tally v)).trans
    (State.changesTallies_dupRecord _ (r.tally / 4096) (some r.tx) (s.tallyWord r.tally))).answerWait _ _

/-- Settles O5: every command does what its lemma above says. -/
theorem tallyWaitersParkAndReturn : Obligations.TallyWaitersParkAndReturn := by
  unfold Obligations.TallyWaitersParkAndReturn
  refine ⟨?wait, ?arm, ?chain, ?parked, ?reissue⟩
  case wait =>
    rintro home t src tx th s ⟨hrun, hadm, hres, hpark⟩
    have hnew : s.hearsNew home.val t.val src tx := ⟨hrun, hadm, hres, hpark⟩
    have hcount := s.changesTallies_countOp (tallyKey home.val t.val)
    rcases le_or_gt th.toNat (s.tally (tallyKey home.val t.val)).count with hmet | hmet
    · exact ⟨_, exec_tallyOpWait_met hnew hmet,
        ⟨fun _ => ⟨State.answered_waiters, hcount.answered_out⟩, fun h => absurd hmet h.not_ge,
          fun h => absurd hmet h.not_ge, State.tally_of_words State.answered_words⟩,
        hcount.answered (by decide)⟩
    cases hroom : s.noRoom (tallyKey home.val t.val) false with
    | true =>
      have hrefuse := hcount.trans (State.changesTallies_tallyRefuse _ (tallyKey home.val t.val))
      exact ⟨_, exec_tallyOpWait_full hnew hmet hroom,
        ⟨fun h => absurd h hmet.not_ge, fun _ _ => ⟨State.answered_waiters, hrefuse.answered_out⟩,
          fun _ h => absurd h (by decide), State.tally_of_words State.answered_words⟩,
        hrefuse.answered (by decide)⟩
    | false =>
      have hadd := hcount.trans (State.changesTallies_addWaiter _ (tallyKey home.val t.val) th.toNat
        (.wait (.remote src.wafer (answerId tx))) tx)
      exact ⟨_, exec_tallyOpWait_room hnew hmet hroom,
        ⟨fun h => absurd h hmet.not_ge, fun _ h => absurd h (by decide), fun _ _ => ⟨rfl, rfl⟩,
          State.tally_of_words rfl⟩,
        hadd.send (by decide) _⟩
  case arm =>
    rintro home t src tx th s ⟨hrun, hadm, hres, hpark, hmet, hroom, harm⟩
    have hadd := (s.changesTallies_countOp (tallyKey home.val t.val)).trans
      (State.changesTallies_addWaiter _ (tallyKey home.val t.val) th.toNat .arm tx)
    exact ⟨_, exec_tallyOpArm_room ⟨hrun, hadm, hres, hpark⟩ hmet hroom harm,
      ⟨State.answered_waiters, hadd.answered_out, State.tally_of_words State.answered_words⟩,
      hadd.answered (by decide)⟩
  case chain =>
    rintro home t src tx th skipErr desc s ⟨hlen, hrun, hadm, hres, hpark, hmet, hroom⟩
    have hadd := (s.changesTallies_countOp (tallyKey home.val t.val)).trans
      (State.changesTallies_addWaiter _ (tallyKey home.val t.val) th.toNat
        (.chain desc skipErr (src.field.elim 0 id) src.parish) tx)
    exact ⟨_, exec_tallyOpChain_room hlen ⟨hrun, hadm, hres, hpark⟩ hmet hroom,
      ⟨State.answered_waiters, hadd.answered_out, State.tally_of_words State.answered_words⟩,
      hadd.answered (by decide)⟩
  case parked => exact fun id s => ⟨_, rfl, ⟨rfl, fun _ => rfl⟩, rfl⟩
  case reissue =>
    rintro id r v s ⟨hfind, hgen, hwafer, hin, hholds, hop, hres⟩
    have hexec : exec (.tallyReissue id) s = .next (s.setAgain id r v) :=
      (exec_tallyReissue_home id r s hfind hgen hwafer hin hholds).trans
        (congrArg Host.Outcome.next ((s.withoutReq id).tallyRedo_set hop hres))
    obtain ⟨hframe, hregs⟩ := s.setAgain_frame id r v
    refine ⟨_, hexec, ⟨s.setAgain_reqs id r v, ?_, fun k hk => ?_⟩, hframe, hregs.mono (by decide)⟩
    · rw [State.setAgain_tally, State.tally_tallySet_same]
    · rw [State.setAgain_tally, State.tally_tallySet_other _ v hk]
      rfl

end Sys2Proof.Machine

/-! The enable of a signal ring (O6): a ring that fails its check leaves an error time, which the register list of O6
leaves out. -/

namespace Sys2Proof.Machine

/-- Field 1's ring, whose BASE at reset is address 0, lies in field 0: RING_CONFIG is the tally page's first error
(R155, R739). -/
theorem tlySigEnable_loads_errTime : loadsErrTime (.tlySigEnable 1 0#4 0#12) readyAt1ns .TLY 1 :=
  ⟨_, rfl, by decide⟩

/-- Refutes O6: the registers that TLY_SIG_ENABLE may touch leave out HDR_ERR_TIME, which the capture of RING_CONFIG
loads (R155, R739). -/
theorem not_satisfiedWaitersServed : ¬ Obligations.SatisfiedWaitersServed := by
  unfold Obligations.SatisfiedWaitersServed
  rintro ⟨-, -, -, henable, -⟩
  obtain ⟨s', hexec, -, -, hregs⟩ := henable 1 0#4 0#12 readyAt1ns (by decide)
  exact not_onlyRegs_of_loadsErrTime tlySigEnable_loads_errTime (by decide) hexec hregs

end Sys2Proof.Machine

/-! The receipt of a SEND's burst (O12): an overflow of the receive tally leaves an error time, which the register list of
O12 leaves out. -/

namespace Sys2Proof.Machine

/-- A formed loose muster of parish 0, which owns field 0: its receive window starts at field 0's SRAM, and its receive
tally is tally 5 of field 0, which stands at the largest count (R148, R189). -/
def receivesLoose : State :=
  ((((((fullTally readyAt1ns).setF RF.WFR_MUSm_CTL_STATE 0 0 2).setF RF.WFR_MUSm_CTL_KIND 0 0 1).setF
    RF.WFR_MUSm_RX_RX_BASE 0 0 (2 ^ 30)).setF RF.WFR_MUSm_RXT_INDEX 0 0 5).setF
    RF.WFR_PAR_FIELDS_LO_FIELDS 0 0 1).setFlag RF.WFR_PAR_CTL_ENABLE 0 0 true

/-- The last burst of a SEND is written and adds 1 to the receive tally, whose overflow is the tally page's first error
(R148, R189, R739). -/
theorem sendReceive_loads_errTime :
    loadsErrTime (.sendReceive 0 0#7 1 7#64 0#57 [0x5A#8] true) receivesLoose .TLY 0 :=
  ⟨_, rfl, by decide⟩

/-- Refutes O12: the registers that SEND_RECEIVE may touch leave out HDR_ERR_TIME, which the capture of the receive
tally's overflow loads (R148, R189, R739). -/
theorem not_sheavesRunToTheirReceipts : ¬ Obligations.SheavesRunToTheirReceipts := by
  unfold Obligations.SheavesRunToTheirReceipts
  rintro ⟨-, -, -, -, -, -, hreceive, -⟩
  obtain ⟨s', hexec, -, -, hregs⟩ := hreceive 0 0#7 1 7#64 0#57 [0x5A#8] true
    (receivesLoose.bulkWrite (receivesLoose.parishSource 0) (2 ^ 42) [0x5A#8]).1 receivesLoose
    ⟨by decide, by decide, by decide, by decide⟩
  exact not_onlyRegs_of_loadsErrTime sendReceive_loads_errTime (by decide) hexec hregs

end Sys2Proof.Machine

/-! What the end of a parish's work may change (O11, O13, O31): one lemma per function of the model that ends sheaves,
tasks and threads, in the order of the model's files. -/

namespace Sys2Proof.Machine

/-- From `s` to `t` only those components change that the end of a parish's work reaches. -/
def State.parishWork (s t : State) : Prop :=
  t = { s with
    serial := t.serial, regs := t.regs, mem := t.mem, commons := t.commons, crofters := t.crofters,
    tallies := t.tallies, engines := t.engines, seq := t.seq, resets := t.resets, host := t.host, out := t.out }

section
variable {s t u : State}

theorem State.parishWork.refl (s : State) : s.parishWork s := rfl

theorem State.parishWork.ite {c : Prop} [Decidable c] (ht : s.parishWork t) (hu : s.parishWork u) :
    s.parishWork (if c then t else u) := by
  split <;> assumption

theorem State.parishWork.foldl {α : Type} {l : List α} {g : State → α → State} (h : s.parishWork t)
    (hg : ∀ u a, s.parishWork u → s.parishWork (g u a)) : s.parishWork (l.foldl g t) := by
  induction l generalizing t with
  | nil => exact h
  | cons a r ih => exact ih (hg t a h)

theorem State.parishWork.of_fst {α : Type} {p : State × α} {a : α} (h : s.parishWork p.1) (e : p = (t, a)) :
    s.parishWork t := by
  subst e; exact h

/-- What changes other components of these alone keeps the rest. -/
theorem State.parishWork.frame {serial : Nat} {regs : List (RKey × Word)} {mem : Memory} {commons : Commons}
    {crofters : Crofters} {tallies : Tallies} {engines : NMap Engine} {seq : Sequencer} {resets : Resets}
    {host : HostPort} {out : List OutMsg} (h : s.parishWork t) :
    s.parishWork ⟨t.now, serial, t.pending, regs, mem, commons, crofters, tallies, engines, t.sieves, t.cairns, t.looms,
      seq, t.boot, resets, t.verne, t.fabric, t.hbm, host, t.reeve, t.power, t.assay, t.bist, t.hearth, t.pins, t.irq,
      t.timeOffset, out⟩ := by
  unfold State.parishWork at h ⊢
  rw [h]

/-! ### Registers, messages and memory -/

theorem State.parishWork.raise {f : RF} {i : Nat} (h : s.parishWork t) : s.parishWork (t.raise f i) := by
  rw [t.raise_frame f i]
  exact h.frame

theorem State.parishWork.capture {v m : RF} {i : Nat} {fill : State → State} (h : s.parishWork t)
    (hf : s.parishWork (fill t)) : s.parishWork (t.capture v m i fill) := by
  have hset : s.parishWork ((fill t).setFlag v i 0 true) := hf.frame
  unfold State.capture
  dsimp only
  refine State.parishWork.ite h.frame ?_
  split
  · exact State.parishWork.ite hset.frame hset
  · exact hset

theorem State.parishWork.memWrite {f r o : Nat} {data : List Byte} {bad : Bool} (h : s.parishWork t) :
    s.parishWork (t.memWrite f r o data bad) :=
  State.parishWork.ite h.frame h.frame

theorem State.parishWork.noteAccess {target : Option Nat} {st : AccStatus} {fresh isWrite : Bool} {addr : Nat}
    {src : Source} (h : s.parishWork t) : s.parishWork (t.noteAccess target st fresh isWrite addr src) := by
  have hcap {f : Nat} {side : Bool} : s.parishWork (t.captureAccess f st fresh isWrite side addr src) := by
    unfold State.captureAccess
    exact h.capture h.frame
  unfold State.noteAccess
  split
  · exact h
  · extract_lets place s1
    clear_value place
    have h1 : s.parishWork s1 := by
      unfold s1
      split
      · exact hcap
      · exact h
    clear_value s1
    split
    · exact h1.frame
    · exact h1.frame
    · exact h1

/-! ### Accesses -/

theorem State.parishWork.perform {f region off : Nat} {kind : AccessKind} (h : s.parishWork t) :
    s.parishWork (t.perform f region off kind).1 := by
  unfold State.perform
  dsimp only
  split
  · split
    · exact h
    · exact h.frame.ite h
  · exact h.memWrite
  · split
    · exact h
    · exact h.memWrite

theorem State.parishWork.arrive {r : Request} {f region off : Nat} (h : s.parishWork t) :
    s.parishWork (t.arrive r f region off).1 := by
  unfold State.arrive
  dsimp only
  split
  · exact h.frame
  · split
    · exact h.frame
    · split
      · exact h.frame
      · exact h.perform.noteAccess

theorem State.parishWork.deliver {dev : DeviceAccess} {r : Request} (h : s.parishWork t)
    (hdev : ∀ src f region off kind, s.parishWork (dev t src f region off kind).1) :
    s.parishWork (State.deliver dev t r).1 := by
  unfold State.deliver
  dsimp only
  split
  · exact h.noteAccess
  · split
    · exact h.frame
    · exact h.frame
  · exact h.frame
  · split
    · exact (hdev _ _ _ _ _).noteAccess
    · exact h.arrive

theorem State.parishWork.postWrite {src : Source} {addr : Nat} {data : List Byte} (h : s.parishWork t) :
    s.parishWork (t.postWrite src addr data).1 := by
  have hissued : s.parishWork { t with commons := { t.commons with nextReq := t.commons.nextReq + 1 } } := h.frame
  exact hissued.deliver (dev := noDevice) fun _ _ _ _ _ => hissued

/-! ### Tallies -/

theorem State.parishWork.tallyAdd {k : Nat} {operand : Word} {err : Bool} (h : s.parishWork t) :
    s.parishWork (t.tallyAdd k operand err).1 := by
  have herr {x : Tally} {cause : Nat} :
      s.parishWork (((t.countOp k).setTally k x).tallyError (k / 4096) (k % 4096) cause) :=
    State.parishWork.capture h.frame h.frame
  unfold State.tallyAdd
  extract_lets
  exact State.parishWork.frame (herr.ite (herr.ite h.frame))

theorem State.parishWork.dedup {home : Nat} {tx : Option TxId} {op : State → State × Word} (h : s.parishWork t)
    (hop : s.parishWork (op t).1) : s.parishWork (t.dedup home tx op).1 := by
  unfold State.dedup
  split
  · exact h.frame
  · cases tx with
    | none => exact hop
    | some x => exact hop.frame

theorem State.parishWork.tallyBump {src : Source} {addr : Nat} {err : Bool} {tx : Option TxId} (h : s.parishWork t) :
    s.parishWork (t.tallyBump src addr err tx).1 := by
  unfold State.tallyBump
  split
  · exact h.noteAccess
  · exact h.frame
  · exact h.frame
  · split
    · exact h.dedup h.tallyAdd
    · exact h

/-! ### The end of tasks -/

theorem State.parishWork.finishDesc {src : Source} {desc : List Byte} {tag status cls unit cycles detail : Nat}
    (h : s.parishWork t) : s.parishWork (t.finishDesc src desc tag status cls unit cycles detail).1 := by
  unfold State.finishDesc
  extract_lets s1
  have h1 : s.parishWork s1 := h.postWrite.ite h
  clear_value s1
  split
  · split
    next s2 st e =>
      have h2 : s.parishWork s2 := h1.tallyBump.of_fst e
      split
      · split
        · exact h2.postWrite
        · exact h2
      · exact h2
  · exact h1

theorem State.parishWork.addWrapOpt {f : Option RF} {i : Nat} (h : s.parishWork t) :
    s.parishWork (t.addWrapOpt f i) := by
  cases f with
  | none => exact h
  | some g => exact h.frame

theorem State.parishWork.countTask {f u tag status : Nat} {bad : Bool} (h : s.parishWork t) :
    s.parishWork (t.countTask f u tag status bad) := by
  have hcap : s.parishWork (((t.addWrapOpt (taskPage f u).done (taskPage f u).inst).addWrapOpt (taskPage f u).nonOk
      (taskPage f u).inst).capture (taskPage f u).valid (taskPage f u).more (taskPage f u).inst
      (fun t => (t.setF (taskPage f u).status (taskPage f u).inst 0 status).setF (taskPage f u).tag
        (taskPage f u).inst 0 tag)) :=
    h.addWrapOpt.addWrapOpt.capture h.addWrapOpt.addWrapOpt.frame
  unfold State.countTask
  refine State.parishWork.ite ?_ h.addWrapOpt
  dsimp only
  split
  · exact hcap.raise
  · exact hcap

theorem State.parishWork.finishTask {f u : Nat} {x : EngTask} {status detail cycles : Nat} (h : s.parishWork t) :
    s.parishWork (t.finishTask f u x status detail cycles) :=
  h.finishDesc.countTask

theorem State.parishWork.undefOutputs {src : Source} {outs : List (Nat × Nat)} (h : s.parishWork t) :
    s.parishWork (t.undefOutputs src outs) := by
  refine h.foldl fun _ _ h1 => h1.foldl fun _ _ h2 => ?_
  split
  · split
    · exact h2.frame
    · exact h2
  · exact h2

theorem State.parishWork.finishAll {f u status detail : Nat} {l : List EngTask} (h : s.parishWork t) :
    s.parishWork (t.finishAll f u status detail l) := by
  induction l generalizing t with
  | nil => exact h
  | cons x r ih => exact ih (h.undefOutputs.ite h).finishTask

theorem State.parishWork.cancelTasks {code : Nat} {p : EngTask → Bool} (h : s.parishWork t) :
    s.parishWork (t.cancelTasks code p) :=
  h.foldl fun _ _ h1 => State.parishWork.finishAll h1.frame

/-! ### The end of sheaves -/

theorem State.parishWork.cutThread {f n : Nat} {fail : Option SheafFail} {counted : Bool} (h : s.parishWork t) :
    s.parishWork (t.cutThread f n fail counted) := by
  unfold State.cutThread
  rw [State.freeHw_frame, State.threadEnded_frame]
  exact h.frame

theorem State.parishWork.endSheafThreads {serial : Nat} (h : s.parishWork t) :
    s.parishWork (t.endSheafThreads serial) :=
  (h.foldl fun _ _ h1 => h1.cutThread).frame

theorem State.parishWork.failSheaf {serial status sub detail : Nat} (h : s.parishWork t) :
    s.parishWork (t.failSheaf serial status sub detail) :=
  h.frame

theorem State.parishWork.endPhase {serial : Nat} (h : s.parishWork t) : s.parishWork (t.endPhase serial) :=
  h.frame

theorem State.parishWork.endSheaf {serial : Nat} {fail : SheafFail} (h : s.parishWork t) :
    s.parishWork (t.endSheaf serial fail) :=
  h.failSheaf.endSheafThreads.cancelTasks.endPhase

theorem State.parishWork.parishCancel {p : Nat} (h : s.parishWork t) : s.parishWork (t.parishCancel p) :=
  h.ite (h.foldl fun _ _ h1 => h1.endSheaf).cancelTasks.frame

/-! ### Musters -/

theorem State.parishWork.tellMembers {m op : Nat} {slots : List Nat} (h : s.parishWork t) :
    s.parishWork (t.tellMembers m op slots) := by
  unfold State.tellMembers
  split
  · exact h
  · exact h.foldl fun _ _ h1 => h1.ite (h1.frame.ite h1.frame)

theorem State.parishWork.abortEntry {m wafer rack status : Nat} {p : Sheaf → Bool} (h : s.parishWork t) :
    s.parishWork (t.abortEntry m wafer rack status p) := by
  unfold State.abortEntry
  dsimp only
  split
  · exact h.frame
  · exact State.parishWork.foldl h.frame fun _ _ h1 => h1.endSheaf

theorem State.parishWork.abortSend {m status : Nat} (h : s.parishWork t) : s.parishWork (t.abortSend m status) := by
  have htold {slot n : Nat} : s.parishWork ((t.tellMembers m 0x10 [slot]).modMuster m
      (fun e => { e with sentWaves := n + 1 })) := h.tellMembers.frame
  exact h.ite htold.abortEntry.raise

end

end Sys2Proof.Machine

/-! H0, its functions' resets, configuration and MSI-X (O31): what a reset of a function clears while nothing runs, then
one lemma per command. -/

namespace Sys2Proof.Machine

/-! ### The link of H0 (R520, R523) -/

section
variable {s : State}

/-- With H0 down no message is sent (R523). -/
theorem State.sendMsix_of_down (h : s.flag RF.HST_PORT_H0_UP 0 0 = false) (fn : FnId) (e : Nat) :
    s.sendMsix fn e = s := by
  unfold State.sendMsix
  rw [h]
  rfl

theorem State.sendFixed_of_down (h : s.flag RF.HST_PORT_H0_UP 0 0 = false) (r : Reg) : s.sendFixed r = s := by
  unfold State.sendFixed
  split
  · rw [State.sendMsix_of_down h, ite_self]
  · rfl

theorem State.raise_of_down {f : RF} (hf : f.reg ≠ .HST_PORT_H0) (h : s.flag RF.HST_PORT_H0_UP 0 0 = false) (i : Nat) :
    s.raise f i = s.setFlag f i 0 true := by
  have hdown : (s.setFlag f i 0 true).flag RF.HST_PORT_H0_UP 0 0 = false := by
    rw [s.flag_setFlag_reg i 0 0 0 true hf.symm, h]
  unfold State.raise
  dsimp only
  rw [State.sendFixed_of_down hdown, ite_self]

theorem State.h0Up_of_same {up : Bool} (h : s.flag RF.HST_PORT_H0_UP 0 0 = up) : s.h0Up up = s :=
  if_pos h

/-- H0 going down: UP clears, H0_LINK is set and DOWNS counts. -/
def State.h0Fell (s : State) : State :=
  ((s.setFlag RF.HST_PORT_H0_UP 0 0 false).setFlag RF.HST_PORT_EVENT_H0_LINK 0 0 true).addSat RF.HST_PORT_H0_DOWNS 0 0 1

theorem State.h0Up_false_of_up (h : s.flag RF.HST_PORT_H0_UP 0 0 = true) : s.h0Up false = s.h0Fell := by
  have hdown : (s.setFlag RF.HST_PORT_H0_UP 0 0 false).flag RF.HST_PORT_H0_UP 0 0 = false :=
    s.flag_setFlag_same _ 0 0 false (by decide) rfl
  unfold State.h0Up
  rw [h, if_neg (by decide), State.raise_of_down (by decide) hdown]
  rfl

theorem State.flag_up_h0Fell (s : State) : s.h0Fell.flag RF.HST_PORT_H0_UP 0 0 = false := by
  unfold State.h0Fell State.addSat State.flag State.setFlag
  simp (disch := decide) only [State.getF_setF_disjoint, State.getF_setF_reg, State.getF_setF_same]
  rfl

theorem State.downs_h0Fell (s : State) : s.h0Fell.getF RF.HST_PORT_H0_DOWNS 0 0 =
    min (s.getF RF.HST_PORT_H0_DOWNS 0 0 + 1) (2 ^ RF.HST_PORT_H0_DOWNS.w - 1) := by
  have hsame : ((s.setFlag RF.HST_PORT_H0_UP 0 0 false).setFlag RF.HST_PORT_EVENT_H0_LINK 0 0 true).getF
      RF.HST_PORT_H0_DOWNS 0 0 = s.getF RF.HST_PORT_H0_DOWNS 0 0 := by
    unfold State.setFlag
    simp (disch := decide) only [State.getF_setF_disjoint, State.getF_setF_reg]
  have hlt : s.getF RF.HST_PORT_H0_DOWNS 0 0 < 2 ^ 16 := s.getF_lt ..
  unfold State.h0Fell
  rw [State.getF_addSat_same _ _ _ _ _ (by decide), hsame]
  show satAdd 16 _ 1 % 2 ^ 16 = min _ (2 ^ 16 - 1)
  unfold satAdd
  split <;> omega

/-- After H0 went down, or while it was down. -/
theorem State.h0Up_false (s : State) : (s.h0Up false).flag RF.HST_PORT_H0_UP 0 0 = false ∧
    (s.flag RF.HST_PORT_H0_UP 0 0 = true → (s.h0Up false).getF RF.HST_PORT_H0_DOWNS 0 0 =
      min (s.getF RF.HST_PORT_H0_DOWNS 0 0 + 1) (2 ^ RF.HST_PORT_H0_DOWNS.w - 1)) ∧
    s.h0Up false = { s with regs := (s.h0Up false).regs } := by
  cases hup : s.flag RF.HST_PORT_H0_UP 0 0 with
  | false =>
    rw [State.h0Up_of_same hup]
    exact ⟨hup, fun h => absurd h (by decide), rfl⟩
  | true =>
    rw [State.h0Up_false_of_up hup]
    exact ⟨s.flag_up_h0Fell, fun _ => s.downs_h0Fell, rfl⟩

end

/-! ### The reset of a function while nothing runs (R172, R499) -/

/-- No sheaf is in the sequencer and no unit has a task. -/
structure State.nothingRuns (s : State) : Prop where
  sheaves : s.seq.sheaves = []
  units : s.busyUnits = []

/-- Is a register reset with the virtual function of parish `p`: its rings, SRO windows and header, and its function
page? -/
def flrResets (p : Nat) (k : RKey) : Bool :=
  (ringReg k.reg && decide (k.inst.val = p)) || onPage .WFR_SRO p k ||
    (k.reg.info.page.isNone && decide (k.inst.val = hdrInst .WFR_PARISH p)) || onPage .HST_FN (p + 1) k

theorem State.rd_fnReset (s : State) (fn : Nat) (r : Reg) (i n : Nat) :
    (s.fnReset fn).rd r i n = if onPage .HST_FN fn (rkey r i n) then (rkey r i n).reset else s.rd r i n :=
  State.rd_resetRegs ..

/-- The registers of a parish's pages at their reset values, WFR_PAR_CTL too. -/
def State.pagesCleared (s : State) (p : Nat) : State :=
  (s.resetRegs (fun k => (ringReg k.reg && decide (k.inst.val = p)) || onPage .WFR_SRO p k ||
    (k.reg.info.page.isNone && decide (k.inst.val = hdrInst .WFR_PARISH p)))).wr .WFR_PAR_CTL p 0
      (RKey.reset (rkey .WFR_PAR_CTL p 0))

theorem State.regs_parishPages (s : State) (p : Nat) : (s.parishPages p).regs =
    ((s.pagesCleared p).setF RF.WFR_PAR_CTL_ENABLE p 0 (s.getF RF.WFR_PAR_CTL_ENABLE p 0)).regs := rfl

theorem State.rd_of_regs {s t : State} (h : t.regs = s.regs) (r : Reg) (i n : Nat) : t.rd r i n = s.rd r i n :=
  congrArg (mapGet RKey.reset (rkey r i n)) h

theorem State.rd_parishPages (s : State) (p : Nat) {r : Reg} (h : r ≠ .WFR_PAR_CTL) (i n : Nat) :
    (s.parishPages p).rd r i n =
      if (ringReg r && decide ((rkey r i n).inst.val = p)) || onPage .WFR_SRO p (rkey r i n) ||
        (r.info.page.isNone && decide ((rkey r i n).inst.val = hdrInst .WFR_PARISH p))
      then (rkey r i n).reset else s.rd r i n := by
  rw [State.rd_of_regs (s.regs_parishPages p), State.rd_setF_reg _ p 0 i n _ h, State.pagesCleared,
    State.rd_wr_reg _ p 0 i n h, State.rd_resetRegs]
  rfl

theorem State.enable_parishPages (s : State) (p : Nat) :
    (s.parishPages p).getF RF.WFR_PAR_CTL_ENABLE p 0 = s.getF RF.WFR_PAR_CTL_ENABLE p 0 := by
  have hset := (s.pagesCleared p).getF_setF_same RF.WFR_PAR_CTL_ENABLE p 0 (s.getF RF.WFR_PAR_CTL_ENABLE p 0)
    (by decide)
  rw [Nat.mod_eq_of_lt (s.getF_lt RF.WFR_PAR_CTL_ENABLE p 0)] at hset
  rw [← hset]
  unfold State.getF
  rw [State.rd_of_regs (s.regs_parishPages p)]
  rfl

/-- A reset of a function's own registers leaves the rest, but for the state of the host port. -/
theorem State.fnReset_frame (s : State) (fn : Nat) :
    s.fnReset fn = { s with regs := (s.fnReset fn).regs, host := (s.fnReset fn).host } := rfl

theorem State.ready_fnReset (s : State) (fn : Nat) : (s.fnReset fn).host.ready = s.host.ready := rfl

theorem State.parishPages_frame (s : State) (p : Nat) :
    s.parishPages p = { s with regs := (s.parishPages p).regs, commons := (s.parishPages p).commons } := rfl

section
variable {s t : State}

theorem State.cancelTasks_of_idle (h : s.busyUnits = []) (code : Nat) (p : EngTask → Bool) :
    s.cancelTasks code p = s := by
  unfold State.cancelTasks
  rw [h]
  rfl

/-- The sequencer without what it keeps of parish `p`. -/
def State.parishForgotten (s : State) (p : Nat) : State :=
  { s with seq := { s.seq with
      sheaves := s.seq.sheaves.filter (fun x => !decide (x.parish = p))
      doorbells := s.seq.doorbells.filter (fun d => d.1 != p)
      disabling := s.seq.disabling.filter (fun k => !decide (k / 64 = p)) } }

/-- The state without what the sequencer and the host port keep of parish `p`, and with its pages reset. -/
def State.parishReset (s : State) (p : Nat) : State :=
  ((s.parishForgotten p).parishPages p).modHost (fun x => { x with
    doorbells := x.doorbells.forget (p * 64) (p * 64 + 64) })

theorem State.mem_parishReset (s : State) (p : Nat) : (s.parishReset p).mem = s.mem := by
  rw [State.parishReset, State.modHost_mem, State.parishPages_frame]
  rfl

theorem State.seq_parishReset (s : State) (p : Nat) : (s.parishReset p).seq = (s.parishForgotten p).seq := by
  rw [State.parishReset, State.modHost_seq, State.parishPages_frame]

theorem State.engines_parishReset (s : State) (p : Nat) : (s.parishReset p).engines = s.engines := by
  rw [State.parishReset, State.modHost_engines, State.parishPages_frame]
  rfl

theorem State.ready_parishReset (s : State) (p : Nat) : (s.parishReset p).host.ready = s.host.ready := rfl

theorem State.rd_parishReset (s : State) (p : Nat) (r : Reg) (i n : Nat) :
    (s.parishReset p).rd r i n = ((s.parishForgotten p).parishPages p).rd r i n := rfl

/-- The state once the sheaves and tasks of parish `p` have ended CANCELLED. -/
def State.parishEnded (s : State) (p : Nat) : State :=
  ((s.seq.sheaves.filter (fun x => decide (x.parish = p))).foldl
    (fun (t : State) x => t.endSheaf x.serial failCancelled) s).cancelTasks 0xFA (fun t => match t.parish with
      | some q => decide (q.val = p)
      | none => false)

/-- The musters of the sheaves of parish `p`. -/
def State.parishMusters (s : State) (p : Nat) : List Nat :=
  ((s.seq.sheaves.filter (fun x => decide (x.parish = p))).filterMap
    (fun x => if x.handle = 0 then none else s.musterOf p x.handle)).dedup

theorem State.vfFlr_eq (s : State) (p : Nat) : s.vfFlr p = (s.parishMusters p).foldl
    (fun (t : State) m => t.abortSend m 0x0B) (((s.parishEnded p).parishReset p).fnReset (p + 1)) := rfl

theorem State.nothingRuns.parishEnded (h : s.nothingRuns) (p : Nat) : s.parishEnded p = s := by
  unfold State.parishEnded
  rw [h.sheaves]
  exact State.cancelTasks_of_idle h.units ..

theorem State.nothingRuns.vfFlr (h : s.nothingRuns) (p : Nat) : s.vfFlr p = (s.parishReset p).fnReset (p + 1) := by
  rw [State.vfFlr_eq, h.parishEnded, State.parishMusters, h.sheaves]
  rfl

theorem State.nothingRuns.rd_vfFlr (h : s.nothingRuns) (p : Nat) {r : Reg} (hr : r ≠ .WFR_PAR_CTL) (i n : Nat) :
    (s.vfFlr p).rd r i n = if flrResets p (rkey r i n) then (rkey r i n).reset else s.rd r i n := by
  rw [h.vfFlr, State.rd_fnReset, State.rd_parishReset, State.rd_parishPages _ _ hr]
  unfold flrResets
  by_cases hfn : onPage .HST_FN (p + 1) (rkey r i n) = true
  · rw [if_pos hfn, if_pos (by rw [hfn, Bool.or_true])]
  · rw [if_neg hfn, Bool.eq_false_iff.2 hfn, Bool.or_false]
    rfl

theorem State.nothingRuns.enable_vfFlr (h : s.nothingRuns) (p : Nat) :
    (s.vfFlr p).flag RF.WFR_PAR_CTL_ENABLE p 0 = s.flag RF.WFR_PAR_CTL_ENABLE p 0 := by
  have hpage : onPage .HST_FN (p + 1) (rkey .WFR_PAR_CTL p 0) = false := rfl
  have hrd : (s.vfFlr p).getF RF.WFR_PAR_CTL_ENABLE p 0 =
      ((s.parishForgotten p).parishPages p).getF RF.WFR_PAR_CTL_ENABLE p 0 := by
    unfold State.getF
    rw [h.vfFlr, State.rd_fnReset, hpage, State.rd_parishReset]
    rfl
  exact congrArg (· == 1) (hrd.trans ((s.parishForgotten p).enable_parishPages p))

/-- From `s` to `t` the virtual functions of the parishes `l` are reset with nothing running. -/
structure State.vfsReset (l : List Nat) (s t : State) : Prop where
  idle : t.nothingRuns
  mem : t.mem = s.mem
  ready : t.host.ready = s.host.ready
  rd : ∀ (r : Reg) (i n : Nat), r ≠ .WFR_PAR_CTL →
    t.rd r i n = if l.any (fun p => flrResets p (rkey r i n)) then (rkey r i n).reset else s.rd r i n

theorem State.nothingRuns.vfsReset_vfFlr (h : s.nothingRuns) (p : Nat) : State.vfsReset [p] s (s.vfFlr p) where
  idle := by
    rw [h.vfFlr, State.fnReset_frame]
    refine ⟨?_, ?_⟩
    · rw [State.seq_parishReset]
      exact congrArg (List.filter _) h.sheaves
    · unfold State.busyUnits
      rw [State.engines_parishReset]
      exact h.units
  mem := by rw [h.vfFlr, State.fnReset_frame, State.mem_parishReset]
  ready := by rw [h.vfFlr, State.ready_fnReset, State.ready_parishReset]
  rd r i n hr := by rw [h.rd_vfFlr p hr, List.any_cons, List.any_nil, Bool.or_false]

theorem State.vfsReset.trans {l m : List Nat} {u : State} (h : State.vfsReset l s t) (k : State.vfsReset m t u) :
    State.vfsReset (l ++ m) s u where
  idle := k.idle
  mem := k.mem.trans h.mem
  ready := k.ready.trans h.ready
  rd r i n hr := by
    rw [k.rd r i n hr, h.rd r i n hr, List.any_append]
    cases m.any (fun p => flrResets p (rkey r i n)) <;> simp

theorem State.nothingRuns.vfsReset_foldl (h : s.nothingRuns) (l : List Nat) :
    State.vfsReset l s (l.foldl (fun t p => t.vfFlr p) s) := by
  induction l generalizing s with
  | nil => exact ⟨h, rfl, rfl, fun _ _ _ _ => rfl⟩
  | cons p r ih => exact (h.vfsReset_vfFlr p).trans (ih (h.vfsReset_vfFlr p).idle)

/-- The virtual functions of all parishes reset. -/
def State.allVfsReset (s : State) : State := (List.range 32).foldl (fun (t : State) p => t.vfFlr p) s

theorem State.nothingRuns.allVfsReset (h : s.nothingRuns) : State.vfsReset (List.range 32) s s.allVfsReset :=
  h.vfsReset_foldl _

theorem State.pfFlr_eq (s : State) :
    s.pfFlr = (s.allVfsReset.modHost (fun x => { x with vfEnable := false })).fnReset 0 := rfl

/-- The physical function's reset: its virtual functions are off, and the registers of every function page take their
reset values. -/
theorem State.nothingRuns.rd_pfFlr (h : s.nothingRuns) {r : Reg} (hr : r ≠ .WFR_PAR_CTL) (i n : Nat) :
    s.pfFlr.rd r i n = if onPage .HST_FN 0 (rkey r i n) || (List.range 32).any (fun p => flrResets p (rkey r i n))
      then (rkey r i n).reset else s.rd r i n := by
  rw [State.pfFlr_eq, State.rd_fnReset, State.modHost_rd, h.allVfsReset.rd r i n hr]
  cases onPage .HST_FN 0 (rkey r i n) <;> simp

theorem State.nothingRuns.rd_pfFlr_function (h : s.nothingRuns) {r : Reg} (hr : r.info.page = some .HST_FN) {i : Nat}
    (hi : i < 33) (n : Nat) : s.pfFlr.rd r i n = (rkey r i n).reset := by
  have hinst : (rkey r i n).inst.val = i := Nat.mod_eq_of_lt (by omega)
  have hpage : onPage .HST_FN i (rkey r i n) = true := by
    unfold onPage
    rw [show (rkey r i n).reg.info.page = some .HST_FN from hr, hinst]
    simp
  rw [h.rd_pfFlr (by rintro rfl; exact absurd hr (by decide)), if_pos]
  cases i with
  | zero => rw [hpage, Bool.true_or]
  | succ p =>
    refine Bool.or_eq_true_iff.2 (.inr (List.any_eq_true.2 ⟨p, List.mem_range.2 (by omega), ?_⟩))
    unfold flrResets
    rw [hpage, Bool.or_true]

theorem State.nothingRuns.rd_pfFlr_port (h : s.nothingRuns) : s.pfFlr.rd .HST_PORT_H0 0 0 = s.rd .HST_PORT_H0 0 0 := by
  rw [h.rd_pfFlr (by decide), if_neg (by decide)]

theorem State.nothingRuns.mem_pfFlr (h : s.nothingRuns) : s.pfFlr.mem = s.mem := by
  have hvfs := h.allVfsReset
  rw [State.pfFlr_eq]
  generalize s.allVfsReset = u at hvfs ⊢
  exact hvfs.mem

theorem State.nothingRuns.ready_pfFlr (h : s.nothingRuns) : s.pfFlr.host.ready = s.host.ready := by
  have hvfs := h.allVfsReset
  rw [State.pfFlr_eq]
  generalize s.allVfsReset = u at hvfs ⊢
  exact hvfs.ready

theorem State.vfEnable_pfFlr (s : State) : s.pfFlr.host.vfEnable = false := by
  rw [State.pfFlr_eq]
  generalize s.allVfsReset = u
  rfl

end

/-! ### What the resets of functions may change -/

section
variable {s t : State}

theorem State.parishWork.parishForgotten {p : Nat} (h : s.parishWork t) : s.parishWork (t.parishForgotten p) :=
  h.frame

theorem State.parishWork.parishPages {p : Nat} (h : s.parishWork t) : s.parishWork (t.parishPages p) := by
  rw [State.parishPages_frame]
  exact h.frame

theorem State.parishWork.fnReset {fn : Nat} (h : s.parishWork t) : s.parishWork (t.fnReset fn) :=
  h.frame

theorem State.parishWork.modHost {g : HostPort → HostPort} (h : s.parishWork t) : s.parishWork (t.modHost g) :=
  h.frame

theorem State.parishWork.parishReset {p : Nat} (h : s.parishWork t) : s.parishWork (t.parishReset p) :=
  h.parishForgotten.parishPages.modHost

theorem State.parishWork.parishEnded {p : Nat} (h : s.parishWork t) : s.parishWork (t.parishEnded p) :=
  (h.foldl fun _ _ h1 => h1.endSheaf).cancelTasks

theorem State.parishWork.vfFlr {p : Nat} (h : s.parishWork t) : s.parishWork (t.vfFlr p) :=
  h.parishEnded.parishReset.fnReset.foldl fun _ _ h1 => h1.abortSend

theorem State.parishWork.allVfsReset (h : s.parishWork t) : s.parishWork t.allVfsReset :=
  h.foldl fun _ _ h1 => h1.vfFlr

theorem State.parishWork.pfFlr (h : s.parishWork t) : s.parishWork t.pfFlr :=
  h.allVfsReset.modHost.fnReset

theorem State.parishWork.h0Down (h : s.parishWork t) : s.parishWork (t.h0Up false) := by
  rw [t.h0Up_false.2.2]
  exact h.frame

theorem State.parishWork.h0Reset (h : s.parishWork t) : s.parishWork t.h0Reset :=
  h.pfFlr.modHost.h0Down

/-- H0 after its reset with nothing running: not ready, down, and memory as it stood. -/
theorem State.nothingRuns.h0Reset (h : s.nothingRuns) :
    (s.h0Reset.host.ready = false ∧ s.h0Reset.host.flr = [] ∧ s.h0Reset.host.held = [] ∧
      s.h0Reset.host.vfEnable = false) ∧
    s.h0Reset.flag RF.HST_PORT_H0_UP 0 0 = false ∧
    (s.flag RF.HST_PORT_H0_UP 0 0 = true → s.h0Reset.getF RF.HST_PORT_H0_DOWNS 0 0 =
      min (s.getF RF.HST_PORT_H0_DOWNS 0 0 + 1) (2 ^ RF.HST_PORT_H0_DOWNS.w - 1)) ∧ s.h0Reset.mem = s.mem := by
  have hport := h.rd_pfFlr_port
  have hmem := h.mem_pfFlr
  have hoff := s.vfEnable_pfFlr
  unfold State.h0Reset
  generalize s.pfFlr = u at hport hmem hoff ⊢
  obtain ⟨hup, hdowns, hframe⟩ := (u.modHost (fun x => { x with ready := false, flr := [], held := [] })).h0Up_false
  refine ⟨?_, hup, fun hwas => ?_, ?_⟩
  · rw [hframe]
    exact ⟨rfl, rfl, rfl, hoff⟩
  · unfold State.flag at hwas hdowns
    unfold State.getF at hwas hdowns ⊢
    rw [State.modHost_rd, hport] at hdowns
    exact hdowns hwas
  · rw [hframe]
    exact hmem

end

/-! ### H0 becoming ready (R723, R725) -/

section
variable {s t : State}

/-- What an interrupt message may change: the drop count and its event, the pending bits and what is sent. -/
structure State.messageOnly (l : List Reg) (s t : State) : Prop where
  eq : t = { s with regs := t.regs, host := t.host, out := t.out }
  ready : t.host.ready = s.host.ready
  regs : s.onlyRegs l t

theorem State.messageOnly.trans {l : List Reg} {u : State} (h : State.messageOnly l s t) (k : State.messageOnly l t u) :
    State.messageOnly l s u where
  eq := by
    rw [k.eq, h.eq]
  ready := k.ready.trans h.ready
  regs := h.regs.trans k.regs

theorem State.messageOnly_refl (l : List Reg) (s : State) : State.messageOnly l s s := ⟨rfl, rfl, s.onlyRegs_refl l⟩

theorem State.messageOnly_setF {l : List Reg} (s : State) {f : RF} (i n v : Nat) (h : f.reg ∈ l) :
    State.messageOnly l s (s.setF f i n v) :=
  ⟨rfl, rfl, s.onlyRegs_setF i n v h⟩

theorem State.messageOnly_setFlag {l : List Reg} (s : State) {f : RF} (i n : Nat) (b : Bool) (h : f.reg ∈ l) :
    State.messageOnly l s (s.setFlag f i n b) :=
  s.messageOnly_setF i n _ h

theorem State.messageOnly_msixNow (l : List Reg) (s : State) (fn : FnId) (e : Nat) :
    State.messageOnly l s (s.msixNow fn e) := by
  unfold State.msixNow
  dsimp only
  split
  · exact ⟨rfl, rfl, s.onlyRegs_refl l⟩
  · exact ⟨rfl, rfl, s.onlyRegs_refl l⟩

/-- The registers that a dropped message changes (R510). -/
def dropRegs : List Reg := [.HST_PORT_MSIX_DROP, .HST_PORT_EVENT]

theorem State.messageOnly_msixDrop (s : State) : State.messageOnly dropRegs s s.msixDrop := by
  unfold State.msixDrop
  extract_lets s1 was s2
  have h2 : State.messageOnly dropRegs s s2 :=
    (s.messageOnly_setF 0 0 _ (by decide)).trans (s1.messageOnly_setFlag 0 0 true (by decide))
  clear_value s2
  split
  · exact h2
  · exact h2.trans (s2.messageOnly_msixNow ..)

theorem State.messageOnly_sendMsix (s : State) (fn : FnId) (e : Nat) :
    State.messageOnly dropRegs s (s.sendMsix fn e) := by
  unfold State.sendMsix
  split
  · exact s.messageOnly_refl ..
  · split
    · exact s.messageOnly_msixDrop
    · exact s.messageOnly_msixNow ..

theorem State.messageOnly_sendFixed (s : State) (r : Reg) : State.messageOnly dropRegs s (s.sendFixed r) := by
  unfold State.sendFixed
  split
  · split
    · exact s.messageOnly_sendMsix ..
    · exact s.messageOnly_refl ..
  · exact s.messageOnly_refl ..

theorem State.messageOnly.mono {l m : List Reg} (h : State.messageOnly l s t) (sub : l ⊆ m) :
    State.messageOnly m s t :=
  ⟨h.eq, h.ready, h.regs.mono sub⟩

theorem State.messageOnly_raise (s : State) (f : RF) (i : Nat) :
    State.messageOnly (f.reg :: dropRegs) s (s.raise f i) := by
  have hset : State.messageOnly (f.reg :: dropRegs) s (s.setFlag f i 0 true) :=
    s.messageOnly_setFlag i 0 true (List.mem_cons_self ..)
  unfold State.raise
  dsimp only
  split
  · exact hset
  · exact hset.trans ((State.messageOnly_sendFixed _ _).mono (List.subset_cons_self ..))

/-- H0 up: only UP changes of HST_PORT_H0. -/
theorem State.h0Up_true (s : State) : (s.h0Up true).flag RF.HST_PORT_H0_UP 0 0 = true ∧
    (∀ x : RF, x.reg = .HST_PORT_H0 → x.lo + x.w ≤ 8 → (s.h0Up true).getF x 0 0 = s.getF x 0 0) ∧
    (s.h0Up true).host.ready = s.host.ready ∧
    s.h0Up true = { s with
      regs := (s.h0Up true).regs, host := (s.h0Up true).host, out := (s.h0Up true).out } := by
  cases hup : s.flag RF.HST_PORT_H0_UP 0 0 with
  | true =>
    rw [State.h0Up_of_same hup]
    exact ⟨hup, fun _ _ _ => rfl, rfl, rfl⟩
  | false =>
    have hraise := (s.setFlag RF.HST_PORT_H0_UP 0 0 true).messageOnly_raise RF.HST_PORT_EVENT_H0_LINK 0
    have hset := s.flag_setFlag_same RF.HST_PORT_H0_UP 0 0 true (by decide) rfl
    have hother (x : RF) (hx : x.reg = .HST_PORT_H0) (hlo : x.lo + x.w ≤ 8) :
        (s.setFlag RF.HST_PORT_H0_UP 0 0 true).getF x 0 0 = s.getF x 0 0 :=
      s.getF_setF_disjoint (f := RF.HST_PORT_H0_UP) 0 0 _ hx (by omega) (.inl hlo)
    have hrd := hraise.regs .HST_PORT_H0 0 0 (by decide)
    have hgo : s.h0Up true = (s.setFlag RF.HST_PORT_H0_UP 0 0 true).raise RF.HST_PORT_EVENT_H0_LINK 0 := by
      unfold State.h0Up
      rw [hup]
      rfl
    have heq := hraise.eq
    have hready := hraise.ready
    rw [hgo]
    generalize (s.setFlag RF.HST_PORT_H0_UP 0 0 true).raise RF.HST_PORT_EVENT_H0_LINK 0 = u at hrd heq hready ⊢
    refine ⟨?_, fun x hx hlo => ?_, hready, heq⟩
    · refine Eq.trans ?_ hset
      unfold State.flag State.getF
      rw [hrd]
    · refine Eq.trans ?_ (hother x hx hlo)
      unfold State.getF
      rw [hx, hrd]

/-- The width, speed and mode of H0's link as it trained. -/
def State.h0Trained (s : State) (width : Fin 4) (speed : Fin 6) : State :=
  ((s.setF RF.HST_PORT_H0_WIDTH 0 0 (2 ^ width.val)).setF RF.HST_PORT_H0_SPEED 0 0 (speed.val + 1)).setFlag
    RF.HST_PORT_H0_FLIT 0 0 (decide (speed.val = 5))

theorem State.width_h0Trained (s : State) (width : Fin 4) (speed : Fin 6) :
    (s.h0Trained width speed).getF RF.HST_PORT_H0_WIDTH 0 0 = 2 ^ width.val := by
  unfold State.h0Trained State.setFlag
  simp (disch := decide) only [State.getF_setF_disjoint, State.getF_setF_same]
  revert width
  decide

theorem State.speed_h0Trained (s : State) (width : Fin 4) (speed : Fin 6) :
    (s.h0Trained width speed).getF RF.HST_PORT_H0_SPEED 0 0 = speed.val + 1 := by
  unfold State.h0Trained State.setFlag
  simp (disch := decide) only [State.getF_setF_disjoint, State.getF_setF_same]
  exact Nat.mod_eq_of_lt (show speed.val + 1 < 8 by omega)

theorem State.flit_h0Trained (s : State) (width : Fin 4) (speed : Fin 6) :
    (s.h0Trained width speed).flag RF.HST_PORT_H0_FLIT 0 0 = decide (speed.val = 5) :=
  State.flag_setFlag_same _ _ 0 0 _ (by decide) rfl

/-- H0 ready with its link's width and speed, and the boot status record's time (R725). -/
def State.h0Serves (s : State) (width : Fin 4) (speed : Fin 6) : State :=
  let (ms, t) := ((s.modHost (fun h => { h with ready := true })).h0Trained width speed).msSince s.boot.t0
  if t.getF (bootF 16 16) 0 3 = 0 then t.setF (bootF 16 16) 0 3 (min 0xFFFF ms) else t

theorem exec_h0Ready {width : Fin 4} {speed : Fin 6} (hstart : s.h0MayStart = true) (hready : s.host.ready = false) :
    exec (.h0Ready width speed) s = .next ((s.h0Serves width speed).h0Up true) :=
  if_neg (by simp [hstart, hready])

theorem State.h0Serves_frame (s : State) (width : Fin 4) (speed : Fin 6) : s.h0Serves width speed = { s with
    serial := s.serial + 1, regs := (s.h0Serves width speed).regs, host := { s.host with ready := true } } := by
  unfold State.h0Serves
  dsimp only
  split <;> rfl

theorem State.getF_h0Serves (s : State) (width : Fin 4) (speed : Fin 6) {x : RF} (h : x.reg = .HST_PORT_H0) :
    (s.h0Serves width speed).getF x 0 0 = (s.h0Trained width speed).getF x 0 0 := by
  unfold State.h0Serves
  dsimp only
  split
  · exact State.getF_setF_reg _ 0 3 0 0 _ (by rw [h]; decide)
  · rfl

/-! ### Pending messages (R510) -/

/-- The pending messages of the entries `p` selects that are masked no more. -/
def State.msixFreed (s : State) (p : Nat → Bool) : List Nat :=
  s.host.msixPending.filter (fun k => p k && s.host.msixOpen.contains k && !s.host.msixFnMask.contains (k / 2048))

theorem State.foldl_send_msixMsg (s : State) (l : List Nat) :
    l.foldl (fun (t : State) k => t.send (t.msixMsg k)) s = { s with out := s.out ++ l.map s.msixMsg } := by
  induction l generalizing s with
  | nil => simp
  | cons k r ih =>
    rw [List.foldl_cons, ih]
    simp only [State.send, List.map_cons, List.append_assoc, List.singleton_append]
    rfl

theorem State.msixFlush_eq (s : State) (p : Nat → Bool) : s.msixFlush p = { s with
    host := { s.host with msixPending := s.host.msixPending.filter (fun k => !(s.msixFreed p).contains k) }
    out := s.out ++ (s.msixFreed p).map s.msixMsg } :=
  State.foldl_send_msixMsg ..

theorem State.msixFreed_of_none (h : s.host.msixPending = []) (p : Nat → Bool) : s.msixFreed p = [] := by
  unfold State.msixFreed
  rw [h]
  rfl

theorem State.msixFlush_of_none (h : s.host.msixPending = []) (p : Nat → Bool) : s.msixFlush p = s := by
  rw [State.msixFlush_eq, s.msixFreed_of_none h, h]
  simp only [List.filter_nil, List.map_nil, List.append_nil]
  rw [← h]

/-! ### Configuration (R496, R502) -/

/-- Only the state of the host port differs. -/
def State.hostOnly (s t : State) : Prop := t = { s with host := t.host }

theorem State.hostOnly.ite {c : Prop} [Decidable c] {u : State} (ht : s.hostOnly t) (hu : s.hostOnly u) :
    s.hostOnly (if c then t else u) := by
  split <;> assumption

theorem State.hostOnly_refl (s : State) : s.hostOnly s := rfl

theorem State.hostOnly_modHost (s : State) (g : HostPort → HostPort) : s.hostOnly (s.modHost g) := rfl

theorem State.cfgWrite_msixMask (s : State) (fn v : Nat) : s.cfgWrite fn .msixMask v =
    (s.modHost (fun h => { h with
      msixFnMask := if v % 2 = 1 then setInsert fn h.msixFnMask else h.msixFnMask.filter (· != fn) })).msixFlush
      (fun k => decide (k / 2048 = fn)) := rfl

/-- A write of a register other than the function mask sends nothing. -/
theorem State.hostOnly_cfgWrite (s : State) (fn : Nat) {r : CfgReg} (hr : r ≠ .msixMask) (v : Nat) :
    s.hostOnly (s.cfgWrite fn r v) := by
  cases r with
  | msixMask => exact absurd rfl hr
  | classCode | totalVfs | firstVfOffset | vfStride | other => exact s.hostOnly_refl
  | memEnable | ats => rfl
  | vfEnable | numVfs | vfMemEnable | powerState => exact (s.hostOnly_modHost _).ite s.hostOnly_refl
  | bar2Size vf => exact s.hostOnly_refl.ite (s.hostOnly_modHost _)

theorem State.cfgWrite_frame (s : State) (fn : Nat) (r : CfgReg) (v : Nat) :
    s.cfgWrite fn r v = { s with host := (s.cfgWrite fn r v).host, out := (s.cfgWrite fn r v).out } := by
  by_cases hr : r = .msixMask
  · rw [hr, State.cfgWrite_msixMask, State.msixFlush_eq]
    rfl
  · rw [s.hostOnly_cfgWrite fn hr v]

/-- With no message pending, a write of the function mask sends none. -/
theorem State.cfgWrite_msixMask_of_none (h : s.host.msixPending = []) (fn v : Nat) :
    s.cfgWrite fn .msixMask v = s.modHost (fun h => { h with
      msixFnMask := if v % 2 = 1 then setInsert fn h.msixFnMask else h.msixFnMask.filter (· != fn) }) := by
  rw [State.cfgWrite_msixMask]
  refine State.msixFlush_of_none ?_ _
  exact h

theorem State.out_cfgWrite (h : s.host.msixPending = []) (fn : Nat) (r : CfgReg) (v : Nat) :
    (s.cfgWrite fn r v).out = s.out := by
  by_cases hr : r = .msixMask
  · rw [hr, State.cfgWrite_msixMask_of_none h]
    rfl
  · rw [s.hostOnly_cfgWrite fn hr v]

/-- A list as a set of numbers with one of them put in or taken out. -/
theorem contains_setTo (c : Prop) [Decidable c] (k : Nat) (l : List Nat) :
    (if c then setInsert k l else l.filter (· != k)).contains k = decide c := by
  split
  · next hc => rw [decide_eq_true hc, List.contains_iff_mem, mem_setInsert]; exact .inl rfl
  · next hc => rw [decide_eq_false hc]; simp

theorem State.vfEnable_cfgWrite (s : State) (fn v : Nat) : (s.cfgWrite fn .vfEnable v).host.vfEnable =
    if fn = 0 then decide (v % 2 = 1) else s.host.vfEnable := by
  unfold State.cfgWrite
  by_cases hfn : fn = 0 <;> simp [hfn]

theorem State.numVfs_cfgWrite (s : State) (fn v : Nat) : (s.cfgWrite fn .numVfs v).host.numVfs =
    if fn = 0 ∧ s.host.vfEnable = false ∧ v ≤ 32 then v else s.host.numVfs := by
  unfold State.cfgWrite
  simp only [Bool.and_eq_true, decide_eq_true_eq, Bool.not_eq_true', and_assoc]
  split <;> rfl

theorem State.memEnable_cfgWrite (s : State) (fn v : Nat) :
    (s.cfgWrite fn .memEnable v).host.config.look 0 (fn * 4) = v % 2 :=
  NMap.look_put_same ..

theorem State.ats_cfgWrite (s : State) (fn v : Nat) :
    (s.cfgWrite fn .ats v).host.ats.contains fn = decide (v % 2 = 1) :=
  contains_setTo ..

theorem State.msixMask_cfgWrite (h : s.host.msixPending = []) (fn v : Nat) :
    (s.cfgWrite fn .msixMask v).host.msixFnMask.contains fn = decide (v % 2 = 1) := by
  rw [State.cfgWrite_msixMask_of_none h]
  exact contains_setTo ..

/-! ### One lemma per command -/

theorem exec_perstAssert (hot : Bool) (h : s.nothingRuns) : ∃ s', exec (.perstAssert hot) s = .next s' ∧
    (s'.boot.perst = (s.boot.perst || !hot) ∧ s'.host.ready = false ∧ s'.host.flr = [] ∧ s'.host.held = [] ∧
      s'.host.vfEnable = false ∧ s'.flag RF.HST_PORT_H0_UP 0 0 = false ∧ s'.mem = s.mem) ∧
    s' = { s with
      serial := s'.serial, regs := s'.regs, mem := s'.mem, commons := s'.commons, crofters := s'.crofters,
      tallies := s'.tallies, engines := s'.engines, seq := s'.seq, boot := s'.boot, resets := s'.resets,
      host := s'.host, out := s'.out } := by
  obtain ⟨⟨hready, hflr, hheld, hvf⟩, hup, -, hmem⟩ := h.h0Reset
  have hwork := (State.parishWork.refl s).h0Reset
  show ∃ s', Host.Outcome.next (if hot then s.h0Reset else
    { s.h0Reset with boot := { s.h0Reset.boot with perst := true } }) = .next s' ∧ _
  generalize s.h0Reset = t at *
  have hboot : t.boot = s.boot := by rw [hwork]
  cases hot with
  | true =>
    refine ⟨t, rfl, ⟨?_, hready, hflr, hheld, hvf, hup, hmem⟩, hwork.trans (by rw [hboot])⟩
    rw [hboot, Bool.not_true, Bool.or_false]
  | false =>
    refine ⟨{ t with boot := { t.boot with perst := true } }, rfl, ⟨?_, hready, hflr, hheld, hvf, hup, hmem⟩, ?_⟩
    · exact (Bool.or_true _).symm
    · rw [hwork]

theorem exec_h0LinkDown (h : s.nothingRuns) : ∃ s', exec .h0LinkDown s = .next s' ∧
    (s'.host.ready = false ∧ s'.host.flr = [] ∧ s'.host.held = [] ∧ s'.host.vfEnable = false ∧
      s'.flag RF.HST_PORT_H0_UP 0 0 = false ∧ (s.flag RF.HST_PORT_H0_UP 0 0 = true →
        s'.getF RF.HST_PORT_H0_DOWNS 0 0 = min (s.getF RF.HST_PORT_H0_DOWNS 0 0 + 1)
          (2 ^ RF.HST_PORT_H0_DOWNS.w - 1)) ∧ s'.mem = s.mem ∧ s'.boot = s.boot) ∧ s.parishWork s' := by
  obtain ⟨⟨hready, hflr, hheld, hvf⟩, hup, hdowns, hmem⟩ := h.h0Reset
  have hwork := (State.parishWork.refl s).h0Reset
  refine ⟨s.h0Reset, rfl, ⟨hready, hflr, hheld, hvf, hup, hdowns, hmem, ?_⟩, hwork⟩
  rw [hwork]

theorem exec_vfFlr {p : ParishId} (hready : s.host.ready = true) (hon : s.fnOn (p.val + 1) = true) :
    exec (.vfFlr p) s =
      .next ((s.vfFlr p.val).modHost (fun h => { h with flr := setInsert (p.val + 1) h.flr })) :=
  if_neg (by simp [hready, hon])

theorem mem_setInsertRange {lo m n : Nat} {l : List Nat} :
    n ∈ setInsertRange lo m l ↔ (lo ≤ n ∧ n < lo + m) ∨ n ∈ l := by
  induction m generalizing l with
  | zero => simp [setInsertRange]
  | succ m ih =>
    unfold setInsertRange
    rw [ih, mem_setInsert]
    constructor
    · rintro (⟨h1, h2⟩ | rfl | h)
      · exact .inl ⟨h1, by omega⟩
      · exact .inl ⟨by omega, by omega⟩
      · exact .inr h
    · rintro (⟨h1, h2⟩ | h)
      · rcases Nat.lt_or_ge n (lo + m) with hlt | hge
        · exact .inl ⟨h1, hlt⟩
        · exact .inr (.inl (by omega))
      · exact .inr (.inr h)

/-- Functions 0 to `n - 1` are in a function-level reset. -/
def State.flrsStarted (s : State) (n : Nat) : State :=
  s.modHost (fun h => { h with flr := setInsertRange 0 n h.flr })

theorem State.flr_flrsStarted (s : State) {m n : Nat} (h : m < n) : (s.flrsStarted n).host.flr.contains m = true :=
  List.contains_iff_mem.2 (mem_setInsertRange.2 (.inl ⟨Nat.zero_le m, by omega⟩))

theorem State.flrsStarted_frame (s : State) (n : Nat) :
    s.flrsStarted n = { s with host := { s.host with flr := (s.flrsStarted n).host.flr } } := rfl

theorem exec_pfFlr (h : s.nothingRuns) (hready : s.host.ready = true) : ∃ s', exec .pfFlr s = .next s' ∧
    ((∀ n < 33, s'.host.flr.contains n = true) ∧ s'.host.vfEnable = false ∧ s'.host.ready = true ∧ s'.mem = s.mem ∧
      (∀ (r : Reg) (i n : Nat), r.info.page = some .HST_FN → i < 33 → n < 4096 →
        s'.rd r i n = RKey.reset (rkey r i n))) ∧ s.parishWork s' := by
  have hoff := s.vfEnable_pfFlr
  have hrdy := h.ready_pfFlr
  have hmem := h.mem_pfFlr
  have hrd (r : Reg) (i n : Nat) (hr : r.info.page = some .HST_FN) (hi : i < 33) (_ : n < 4096) :=
    h.rd_pfFlr_function hr hi n
  have hwork := (State.parishWork.refl s).pfFlr
  have hexec : exec .pfFlr s = .next (s.pfFlr.flrsStarted 33) := if_neg (by simp [hready])
  refine ⟨_, hexec, ?_⟩
  generalize s.pfFlr = t at hoff hrdy hmem hrd hwork ⊢
  have hflr {m : Nat} := t.flr_flrsStarted (m := m) (n := 33)
  have hframe := t.flrsStarted_frame 33
  generalize t.flrsStarted 33 = u at hflr hframe ⊢
  refine ⟨⟨fun m hm => hflr hm, ?_, ?_, ?_, fun r i n hr hi hn => ?_⟩, ?_⟩
  · rw [hframe]; exact hoff
  · rw [hframe]; exact hrdy.trans hready
  · rw [hframe]; exact hmem
  · rw [hframe]; exact hrd r i n hr hi hn
  · rw [hframe]; exact hwork.frame

theorem exec_h0ConfigRequest_write {fn : FnId} {reg : CfgReg} {v : BitVec 32} (hready : s.host.ready = true)
    (hon : s.fnOn fn.val = true) : exec (.h0ConfigRequest fn reg (some v)) s =
      .next ((s.cfgWrite fn.val reg v.toNat).send (.cfgReply 0 0#64)) := by
  show execH0ConfigRequest fn reg (some v) s = _
  unfold execH0ConfigRequest
  rw [hready, hon]
  rfl

theorem exec_h0ConfigRequest_read {fn : FnId} {reg : CfgReg} (hready : s.host.ready = true)
    (hon : s.fnOn fn.val = true) : exec (.h0ConfigRequest fn reg none) s =
      .next (({ s with serial := s.serial + 1 } : State).send (.cfgReply 0 (s.cfgRead fn.val reg))) := by
  show execH0ConfigRequest fn reg none s = _
  unfold execH0ConfigRequest
  rw [hready, hon]
  rfl

theorem exec_h0ConfigRequest_absent {fn : FnId} {reg : CfgReg} {write : Option (BitVec 32)}
    (hready : s.host.ready = true) (hon : s.fnOn fn.val = false) :
    exec (.h0ConfigRequest fn reg write) s = .next (s.send (.cfgReply 1 0#64)) := by
  show execH0ConfigRequest fn reg write s = _
  unfold execH0ConfigRequest
  rw [hready, hon]
  rfl

theorem exec_h0ConfigRequest_crs {fn : FnId} {reg : CfgReg} {write : Option (BitVec 32)}
    (hready : s.host.ready = false) :
    exec (.h0ConfigRequest fn reg write) s = .next (s.send (.cfgReply 2 0#64)) := by
  show execH0ConfigRequest fn reg write s = _
  unfold execH0ConfigRequest
  rw [hready]
  rfl

theorem exec_msixUnmask_mask {fn : FnId} {entry : Fin 64} (hready : s.host.ready = true) (hon : s.fnOn fn.val = true)
    (hentry : entry.val < msixEntries fn.val) : exec (.msixUnmask fn entry true) s =
      .next (s.modHost (fun h => { h with
        msixOpen := h.msixOpen.filter (· != fn.val * 2048 + entry.val) })) :=
  if_neg (by simp [hready, hon, hentry])

theorem exec_msixUnmask_unmask {fn : FnId} {entry : Fin 64} (hready : s.host.ready = true)
    (hon : s.fnOn fn.val = true) (hentry : entry.val < msixEntries fn.val) : exec (.msixUnmask fn entry false) s =
      .next ((s.modHost (fun h => { h with msixOpen := setInsert (fn.val * 2048 + entry.val) h.msixOpen })).msixFlush
        (· == fn.val * 2048 + entry.val)) :=
  if_neg (by simp [hready, hon, hentry])

/-- The pending message of an entry that is unmasked. -/
theorem State.msixFreed_unmasked {fn : Nat} {entry : Fin 64}
    (hpend : s.host.msixPending.filter (fun k => k == fn * 2048 + entry.val) = [fn * 2048 + entry.val])
    (hmask : s.host.msixFnMask.contains fn = false) :
    (s.modHost (fun h => { h with msixOpen := setInsert (fn * 2048 + entry.val) h.msixOpen })).msixFreed
      (· == fn * 2048 + entry.val) = [fn * 2048 + entry.val] := by
  have hdiv : (fn * 2048 + entry.val) / 2048 = fn := by omega
  have hopen : (setInsert (fn * 2048 + entry.val) s.host.msixOpen).contains (fn * 2048 + entry.val) = true := by
    rw [List.contains_iff_mem, mem_setInsert]
    exact .inl rfl
  rw [← hpend]
  unfold State.msixFreed
  refine List.filter_congr fun k _ => ?_
  by_cases hk : k = fn * 2048 + entry.val
  · rw [hk, hdiv]
    show (_ == _ && (setInsert _ s.host.msixOpen).contains _ && !s.host.msixFnMask.contains fn) = _
    rw [hopen, hmask, beq_self_eq_true]
    rfl
  · show (k == _ && _ && _) = (k == _)
    rw [beq_false_of_ne hk]
    rfl

end

/-- Settles O31: every command does what its lemmas above say. That the configuration space and the MSI-X entries stand
so at reset is log 127 (PRESUMED), NumVFs over resets log 128 and the registers of a function-level reset log 137
(DEDUCED). -/
theorem hostResetsAndConfiguration : Obligations.HostResetsAndConfiguration := by
  unfold Obligations.HostResetsAndConfiguration
  refine ⟨?deassert, ?perst, ?linkDown, ?vf, ?pf, ?complete, ?ready, ?request, ?write, ?ats, ?mask, ?unmask⟩
  case deassert => exact fun s => ⟨_, rfl, ⟨rfl, rfl⟩, rfl⟩
  case perst => exact fun hot s ⟨hsheaves, hunits⟩ => exec_perstAssert hot ⟨hsheaves, hunits⟩
  case linkDown => exact fun s ⟨hsheaves, hunits⟩ => exec_h0LinkDown ⟨hsheaves, hunits⟩
  case vf =>
    rintro p s ⟨hready, hon, hsheaves, hunits⟩
    have h : s.nothingRuns := ⟨hsheaves, hunits⟩
    have hreset := h.vfsReset_vfFlr p.val
    refine ⟨_, exec_vfFlr hready hon, ⟨?_, h.enable_vfFlr p.val, fun k hk => ?_, hreset.mem⟩,
      (State.parishWork.refl s).vfFlr.modHost⟩
    · exact List.contains_iff_mem.2 (mem_setInsert.2 (.inl rfl))
    · rw [State.modHost_rd, h.rd_vfFlr p.val hk, rkey_val]
      rfl
  case pf => exact fun s ⟨hready, hsheaves, hunits⟩ => exec_pfFlr ⟨hsheaves, hunits⟩ hready
  case complete => exact fun fn s => ⟨_, rfl, ⟨rfl, rfl, rfl⟩, rfl⟩
  case ready =>
    rintro width speed s ⟨hstart, hready⟩
    obtain ⟨hup, hother, hrdy, hframe⟩ := (s.h0Serves width speed).h0Up_true
    have hserves := s.h0Serves_frame width speed
    have hfield {x : RF} (hx : x.reg = .HST_PORT_H0) (hlo : x.lo + x.w ≤ 8) :
        ((s.h0Serves width speed).h0Up true).getF x 0 0 = (s.h0Trained width speed).getF x 0 0 :=
      (hother x hx hlo).trans (s.getF_h0Serves width speed hx)
    refine ⟨_, exec_h0Ready hstart hready, ⟨?_, ?_, ?_, ?_, hup⟩, ?_⟩
    · rw [hrdy, hserves]
    · exact (hfield rfl (by decide)).trans (s.width_h0Trained width speed)
    · exact (hfield rfl (by decide)).trans (s.speed_h0Trained width speed)
    · exact (congrArg (· == 1) (hfield rfl (by decide))).trans (s.flit_h0Trained width speed)
    · generalize (s.h0Serves width speed).h0Up true = u at hframe ⊢
      rw [hframe, hserves]
  case request =>
    intro fn reg write s
    cases hready : s.host.ready with
    | false => exact ⟨_, exec_h0ConfigRequest_crs hready, ⟨fun _ => ⟨rfl, rfl⟩, by simp, by simp⟩, rfl⟩
    | true =>
      cases hon : s.fnOn fn.val with
      | false => exact ⟨_, exec_h0ConfigRequest_absent hready hon, ⟨by simp, fun _ _ => ⟨rfl, rfl⟩, by simp⟩, rfl⟩
      | true =>
        cases write with
        | none => exact ⟨_, exec_h0ConfigRequest_read hready hon, ⟨by simp, by simp, fun _ _ _ => ⟨rfl, rfl⟩⟩, rfl⟩
        | some v =>
          refine ⟨_, exec_h0ConfigRequest_write hready hon, ⟨by simp, by simp, by simp⟩, ?_⟩
          rw [State.cfgWrite_frame]
          rfl
  case write =>
    rintro fn reg write v s ⟨hready, hon, rfl, hnone⟩
    refine ⟨_, exec_h0ConfigRequest_write hready hon, ⟨?_, ?_, ?_, ?_, ?_, ?_, ?_⟩, ?_⟩
    · rw [State.send_out, State.out_cfgWrite hnone]
    · rintro rfl; exact s.vfEnable_cfgWrite ..
    · rintro rfl; exact s.numVfs_cfgWrite ..
    · rintro rfl; exact s.memEnable_cfgWrite ..
    · rintro rfl; exact s.ats_cfgWrite ..
    · rintro rfl; exact State.msixMask_cfgWrite hnone ..
    · rintro rfl; rfl
    · rw [State.cfgWrite_frame]
      rfl
  case ats =>
    rintro fn s ⟨hready, hon, hats⟩
    exact ⟨_, if_pos (by rw [hready, hon, hats]; rfl), rfl, rfl⟩
  case mask =>
    rintro fn entry mask s ⟨hready, hon, hentry⟩
    cases mask with
    | true => exact ⟨_, exec_msixUnmask_mask hready hon hentry, ⟨by simp, fun _ => ⟨rfl, rfl⟩⟩, rfl⟩
    | false =>
      refine ⟨_, exec_msixUnmask_unmask hready hon hentry, ?_⟩
      rw [State.msixFlush_eq]
      refine ⟨⟨?_, by simp⟩, rfl⟩
      exact List.contains_iff_mem.2 (mem_setInsert.2 (.inl rfl))
  case unmask =>
    rintro fn entry mask s ⟨hready, hon, hentry, rfl, hpend, hmask⟩
    refine ⟨_, exec_msixUnmask_unmask hready hon hentry, ?_⟩
    rw [State.msixFlush_eq, State.msixFreed_unmasked hpend hmask]
    refine ⟨⟨rfl, ?_⟩, rfl⟩
    exact List.filter_congr fun k _ => by simp [bne, beq_eq_decide]

end Sys2Proof.Machine

/-! O11: parishes and rings. First what giving a field its owner and the end of a parish's rings change, then one
lemma per command, in the order of the statement. -/

namespace Sys2Proof.Machine

section
variable {s t : State}

/-! ### Reading a register that a step leaves -/

theorem State.onlyRegs.getF {l : List Reg} {x : RF} (h : s.onlyRegs l t) (hx : x.reg ∉ l) (i n : Nat) :
    t.getF x i n = s.getF x i n := by
  unfold State.getF
  rw [h x.reg i n hx]

theorem State.onlyRegs.flag {l : List Reg} {x : RF} (h : s.onlyRegs l t) (hx : x.reg ∉ l) (i n : Nat) :
    t.flag x i n = s.flag x i n :=
  congrArg (· == 1) (h.getF hx i n)

/-! ### Fields take their owner (R170, R587) -/

theorem State.setOwner_frame (s : State) (f p : Nat) (o : Option (Nat × Nat)) :
    s.setOwner f p o = { s with
      regs := (s.setOwner f p o).regs
      reeve := { s.reeve with owners := s.reeve.owners.put none f o } } := by
  cases o <;> rfl

theorem State.onlyRegs_setOwner (s : State) (f p : Nat) (o : Option (Nat × Nat)) :
    s.onlyRegs [.RVE_FLDf_OWNER] (s.setOwner f p o) := by
  have three (s1 : State) (a e : Nat) (b : Bool) : s1.onlyRegs [.RVE_FLDf_OWNER]
      (((s1.setF RF.RVE_FLDf_OWNER_PARISH 0 f a).setFlag RF.RVE_FLDf_OWNER_OWNED 0 f b).setF
        RF.RVE_FLDf_OWNER_KEY_EPOCH 0 f e) :=
    ((s1.onlyRegs_setF _ _ _ (by decide)).trans (State.onlyRegs_setFlag _ _ _ _ (by decide))).trans
      (State.onlyRegs_setF _ _ _ _ (by decide))
  cases o with
  | none => exact three { s with reeve := { s.reeve with owners := s.reeve.owners.put none f none } } _ _ _
  | some x => exact three { s with reeve := { s.reeve with owners := s.reeve.owners.put none f (some x) } } _ _ _

/-- What `takeEffect` does to one field of the parish's set. -/
def State.takeField (p : Nat) (s : State) (f : Nat) : State :=
  if s.inService f then (s.setOwner f p (s.binding p)).modBell f (fun _ => quietBell) else s

/-- From `s` to `t` in-service fields may have taken the binding of parish `p` as their owner. -/
structure State.fieldsTaken (p : Nat) (s t : State) : Prop where
  frame : t = { s with regs := t.regs, crofters := t.crofters, reeve := t.reeve }
  regs : s.onlyRegs [.RVE_FLDf_OWNER] t
  kept : ∀ f, s.owner f = s.binding p → t.owner f = s.binding p

theorem State.fieldsTaken.binding_eq {p : Nat} (h : State.fieldsTaken p s t) : t.binding p = s.binding p := by
  unfold State.binding
  rw [h.regs.flag (by decide), h.regs.getF (by decide), h.regs.getF (by decide)]

theorem State.fieldsTaken.inService_eq {p : Nat} (h : State.fieldsTaken p s t) (f : Nat) :
    t.inService f = s.inService f := by
  unfold State.inService State.fieldMode
  rw [h.regs.getF (by decide)]

theorem State.fieldsTaken.refl (p : Nat) (s : State) : State.fieldsTaken p s s where
  frame := rfl
  regs := s.onlyRegs_refl _
  kept _ h := h

theorem State.fieldsTaken.trans {p : Nat} {u : State} (h : State.fieldsTaken p s t) (k : State.fieldsTaken p t u) :
    State.fieldsTaken p s u where
  frame := by rw [k.frame, h.frame]
  regs := h.regs.trans k.regs
  kept f hf := (k.kept f ((h.kept f hf).trans h.binding_eq.symm)).trans h.binding_eq

theorem State.fieldsTaken.frame_of_regs {p : Nat} {u : State} (h : State.fieldsTaken p t u)
    (ht : t = { s with regs := t.regs }) :
    u = { s with regs := u.regs, crofters := u.crofters, reeve := u.reeve } := by
  rw [h.frame, ht]

theorem State.owner_takeField (p f : Nat) (h : s.inService f = true) : (s.takeField p f).owner f = s.binding p := by
  unfold State.takeField State.owner
  rw [if_pos h, State.setOwner_frame]
  exact NMap.look_put_same ..

theorem State.fieldsTaken_takeField (p f : Nat) : State.fieldsTaken p s (s.takeField p f) := by
  by_cases hin : s.inService f = true
  · have heq : s.takeField p f = (s.setOwner f p (s.binding p)).modBell f (fun _ => quietBell) := if_pos hin
    refine ⟨?_, ?_, fun g hg => ?_⟩
    · rw [heq, State.setOwner_frame]
      rfl
    · rw [heq]
      exact s.onlyRegs_setOwner f p (s.binding p)
    · by_cases hgf : g = f
      · subst hgf
        exact s.owner_takeField p g hin
      · rw [heq, State.setOwner_frame]
        exact (NMap.look_put_other _ none hgf _).trans hg
  · rw [show s.takeField p f = s from if_neg hin]
    exact .refl p s

theorem State.fieldsTaken_foldl (p : Nat) (l : List Nat) : State.fieldsTaken p s (l.foldl (State.takeField p) s) ∧
    ∀ f ∈ l, s.inService f = true → (l.foldl (State.takeField p) s).owner f = s.binding p := by
  induction l generalizing s with
  | nil => exact ⟨.refl p s, fun f hf => absurd hf List.not_mem_nil⟩
  | cons a r ih =>
    have hstep : State.fieldsTaken p s (s.takeField p a) := s.fieldsTaken_takeField p a
    obtain ⟨hrest, howned⟩ := ih (s := s.takeField p a)
    refine ⟨hstep.trans hrest, fun f hf hin => ?_⟩
    rw [List.foldl_cons, ← hstep.binding_eq]
    rcases List.mem_cons.mp hf with rfl | hf
    · exact hrest.kept f ((s.owner_takeField p f hin).trans hstep.binding_eq.symm)
    · exact howned f hf (by rw [hstep.inService_eq, hin])

theorem State.fieldsTaken_takeEffect (s : State) (p : Nat) : State.fieldsTaken p s (s.takeEffect p) :=
  (State.fieldsTaken_foldl p (maskList (s.parishMask p) 80)).1

theorem State.owner_takeEffect (p : Nat) {f : Nat} (hf : f < 80) (hset : (s.parishMask p).testBit f = true)
    (hin : s.inService f = true) : (s.takeEffect p).owner f = s.binding p :=
  (State.fieldsTaken_foldl p (maskList (s.parishMask p) 80)).2 f
    (List.mem_filter.mpr ⟨List.mem_range.mpr hf, hset⟩) hin

/-! ### The field set and ENABLE -/

theorem State.parishFieldsWrite_taken {p : Nat} {hi : Bool} {v : Word} (hoff : s.parishOn p = false)
    (hfree : s.setConflict p (if hi then bits v 0 16 * 2 ^ 64 else v.toNat) = false) :
    s.parishFieldsWrite p hi v = if hi then s.setF RF.WFR_PAR_FIELDS_HI_FIELDS p 0 (bits v 0 16)
      else s.setF RF.WFR_PAR_FIELDS_LO_FIELDS p 0 v.toNat := by
  unfold State.parishFieldsWrite
  rw [hoff]
  dsimp only
  rw [hfree]
  rfl

theorem State.parishFieldsWrite_conflict {p : Nat} {hi : Bool} {v : Word} (hoff : s.parishOn p = false)
    (hmet : s.setConflict p (if hi then bits v 0 16 * 2 ^ 64 else v.toNat) = true) :
    s.parishFieldsWrite p hi v = s.setFlag RF.WFR_PAR_CTL_SET_ERR p 0 true := by
  unfold State.parishFieldsWrite
  rw [hoff]
  dsimp only
  rw [hmet]
  rfl

theorem State.onlyRegs.parishMask_eq {l : List Reg} (h : s.onlyRegs l t) (hlo : Reg.WFR_PAR_FIELDS_LO ∉ l)
    (hhi : Reg.WFR_PAR_FIELDS_HI ∉ l) (p : Nat) : t.parishMask p = s.parishMask p := by
  unfold State.parishMask
  rw [h.getF hlo, h.getF hhi]

theorem exec_parishFieldsWrite_taken (p : ParishId) (hi : Bool) (v : Word) (hoff : s.parishOn p.val = false)
    (hfree : s.setConflict p.val (if hi then bits v 0 16 * 2 ^ 64 else v.toNat) = false) :
    ∃ s', exec (.parishFieldsWrite p hi v) s = .next s' ∧
      ((hi = true → s'.getF RF.WFR_PAR_FIELDS_HI_FIELDS p.val 0 = bits v 0 16) ∧
        (hi = false → s'.getF RF.WFR_PAR_FIELDS_LO_FIELDS p.val 0 = v.toNat)) ∧
      s' = { s with regs := s'.regs } ∧
      s.onlyRegs [.WFR_PAR_CTL, .WFR_PAR_FIELDS_HI, .WFR_PAR_FIELDS_LO] s' := by
  refine ⟨_, congrArg Host.Outcome.next (State.parishFieldsWrite_taken hoff hfree), ?_⟩
  cases hi with
  | true =>
    refine ⟨⟨fun _ => ?_, nofun⟩, rfl, State.onlyRegs_setF _ _ _ _ (by decide)⟩
    exact (State.getF_setF_same s _ _ _ _ (by decide)).trans (Nat.mod_eq_of_lt (bits_lt v 0 16))
  | false =>
    refine ⟨⟨nofun, fun _ => ?_⟩, rfl, State.onlyRegs_setF _ _ _ _ (by decide)⟩
    exact (State.getF_setF_same s _ _ _ _ (by decide)).trans (Nat.mod_eq_of_lt v.isLt)

theorem exec_parishFieldsWrite_conflict (p : ParishId) (hi : Bool) (v : Word) (hoff : s.parishOn p.val = false)
    (hmet : s.setConflict p.val (if hi then bits v 0 16 * 2 ^ 64 else v.toNat) = true) :
    ∃ s', exec (.parishFieldsWrite p hi v) s = .next s' ∧
      (s'.flag RF.WFR_PAR_CTL_SET_ERR p.val 0 = true ∧ s'.parishMask p.val = s.parishMask p.val) ∧
      s' = { s with regs := s'.regs } ∧
      s.onlyRegs [.WFR_PAR_CTL, .WFR_PAR_FIELDS_HI, .WFR_PAR_FIELDS_LO] s' := by
  have hregs : s.onlyRegs [.WFR_PAR_CTL] (s.setFlag RF.WFR_PAR_CTL_SET_ERR p.val 0 true) :=
    s.onlyRegs_setFlag _ _ _ (by decide)
  refine ⟨_, congrArg Host.Outcome.next (State.parishFieldsWrite_conflict hoff hmet), ⟨?_, ?_⟩, rfl,
    hregs.mono (by decide)⟩
  · exact State.flag_setFlag_same s _ _ _ _ (by decide) rfl
  · exact hregs.parishMask_eq (by decide) (by decide) _

theorem State.parishEnable_free {p : Nat} (hoff : s.parishOn p = false)
    (hin : s.flag RF.RVE_LIFECYCLE_OUT_OF_SERVICE 0 0 = false) (hfree : s.setConflict p (s.parishMask p) = false) :
    s.parishEnable p = if (s.setFlag RF.WFR_PAR_CTL_ENABLE p 0 true).verified p then
      (s.setFlag RF.WFR_PAR_CTL_ENABLE p 0 true).takeEffect p else s.setFlag RF.WFR_PAR_CTL_ENABLE p 0 true := by
  unfold State.parishEnable
  rw [hoff, hin, hfree]
  rfl

/-- The state in which ENABLE is stored, or that in which it has taken effect as well. -/
theorem State.enabled_or_takes {p : Nat} (hregs : s.onlyRegs [.WFR_PAR_CTL] t) (hframe : t = { s with regs := t.regs })
    (hon : t.flag RF.WFR_PAR_CTL_ENABLE p 0 = true) {s' : State}
    (hs' : s' = if t.verified p then t.takeEffect p else t) :
    (s'.flag RF.WFR_PAR_CTL_ENABLE p 0 = true ∧ (t.verified p = true →
      ∀ f : Nat, f < 80 → (s.parishMask p).testBit f = true → s.inService f = true → s'.owner f = s.binding p)) ∧
      s' = { s with regs := s'.regs, crofters := s'.crofters, reeve := s'.reeve } ∧
      s.onlyRegs [.RVE_FLDf_OWNER, .WFR_PAR_CTL] s' := by
  by_cases hv : t.verified p = true
  · rw [if_pos hv] at hs'
    subst hs'
    have htake := t.fieldsTaken_takeEffect p
    refine ⟨⟨(htake.regs.flag (by decide) _ _).trans hon, fun _ f hf hset hserves => ?_⟩, htake.frame_of_regs hframe,
      (hregs.mono (by decide)).trans (htake.regs.mono (by decide))⟩
    · have hbind : t.binding p = s.binding p := by
        unfold State.binding
        rw [hregs.flag (by decide), hregs.getF (by decide), hregs.getF (by decide)]
      have hmask : t.parishMask p = s.parishMask p := hregs.parishMask_eq (by decide) (by decide) _
      have hmode : t.inService f = s.inService f := by
        unfold State.inService State.fieldMode
        rw [hregs.getF (by decide)]
      rw [t.owner_takeEffect p hf (hmask ▸ hset) (hmode ▸ hserves), hbind]
  · rw [if_neg hv] at hs'
    subst hs'
    exact ⟨⟨hon, fun h => absurd h hv⟩, by rw [hframe], hregs.mono (by decide)⟩

theorem exec_parishEnable (p : ParishId) (hoff : s.parishOn p.val = false)
    (hin : s.flag RF.RVE_LIFECYCLE_OUT_OF_SERVICE 0 0 = false)
    (hfree : s.setConflict p.val (s.parishMask p.val) = false) :
    ∃ s', exec (.parishEnable p) s = .next s' ∧
      (s'.flag RF.WFR_PAR_CTL_ENABLE p.val 0 = true ∧
        ((s.setFlag RF.WFR_PAR_CTL_ENABLE p.val 0 true).verified p.val = true →
          ∀ f : Nat, f < 80 → (s.parishMask p.val).testBit f = true → s.inService f = true →
            s'.owner f = s.binding p.val)) ∧
      s' = { s with regs := s'.regs, crofters := s'.crofters, reeve := s'.reeve } ∧
      s.onlyRegs [.RVE_FLDf_OWNER, .WFR_PAR_CTL] s' :=
  ⟨s.parishEnable p.val, rfl, State.enabled_or_takes (s.onlyRegs_setFlag _ _ _ (by decide)) rfl
    (State.flag_setFlag_same s _ _ _ _ (by decide) rfl) (State.parishEnable_free hoff hin hfree)⟩

theorem exec_parishUnblock (p : ParishId) (heff : s.parishEffective p.val = true) :
    ∃ s', exec (.parishUnblock p) s = .next s' ∧
      (∀ f : Nat, f < 80 → (s.parishMask p.val).testBit f = true → s.inService f = true →
        s'.owner f = s.binding p.val) ∧
      s' = { s with regs := s'.regs, crofters := s'.crofters, reeve := s'.reeve } ∧
      s.onlyRegs [.RVE_FLDf_OWNER] s' :=
  ⟨s.takeEffect p.val, if_pos heff, fun _ hf hset hin => s.owner_takeEffect p.val hf hset hin,
    (s.fieldsTaken_takeEffect p.val).frame, (s.fieldsTaken_takeEffect p.val).regs⟩

/-! ### Cancel and disable (R171) -/

/-- The state in which a cancel of parish `p` has ended its work, before BUSY is set. -/
def State.parishEnding (s : State) (p : Nat) : State :=
  ((s.seq.sheaves.filter (fun x => decide (x.parish = p))).foldl
    (fun (t : State) x => t.endSheaf x.serial failCancelled) s).cancelTasks 0xFA (fun t => match t.parish with
      | some q => decide (q.val = p)
      | none => false)

theorem State.parishCancel_eq (p : Nat) (h : s.flag RF.WFR_PAR_CANCEL_BUSY p 0 = false) :
    s.parishCancel p = { s.parishEnding p with
      seq := { (s.parishEnding p).seq with cancelling := setInsert p (s.parishEnding p).seq.cancelling }
      }.setFlag RF.WFR_PAR_CANCEL_BUSY p 0 true := by
  unfold State.parishCancel
  rw [h]
  rfl

theorem State.busy_parishCancel (s : State) (p : Nat) : (s.parishCancel p).flag RF.WFR_PAR_CANCEL_BUSY p 0 = true := by
  by_cases h : s.flag RF.WFR_PAR_CANCEL_BUSY p 0 = true
  · rw [State.parishCancel, if_pos h]
    exact h
  · rw [State.parishCancel_eq p (Bool.eq_false_of_not_eq_true h)]
    exact State.flag_setFlag_same _ _ _ _ _ (by decide) rfl

theorem State.mem_cancelling_parishCancel (p : Nat) (h : s.flag RF.WFR_PAR_CANCEL_BUSY p 0 = false) :
    p ∈ (s.parishCancel p).seq.cancelling := by
  rw [State.parishCancel_eq p h]
  exact mem_setInsert.mpr (.inl rfl)

theorem exec_parishCancel (p : ParishId) (h : s.flag RF.WFR_PAR_CANCEL_BUSY p.val 0 = false) :
    ∃ s', exec (.parishCancel p) s = .next s' ∧
      (s'.flag RF.WFR_PAR_CANCEL_BUSY p.val 0 = true ∧ p.val ∈ s'.seq.cancelling) ∧ s.parishWork s' :=
  ⟨s.parishCancel p.val, rfl, ⟨s.busy_parishCancel p.val, State.mem_cancelling_parishCancel p.val h⟩,
    (State.parishWork.refl s).parishCancel⟩

theorem State.parishWork.setFlag {x : RF} {i n : Nat} {b : Bool} (h : s.parishWork t) :
    s.parishWork (t.setFlag x i n b) := h.frame

theorem exec_parishDisable (p : ParishId) (h : s.flag RF.WFR_PAR_CTL_ENABLE p.val 0 = true) :
    ∃ s', exec (.parishDisable p) s = .next s' ∧
      (s'.flag RF.WFR_PAR_CTL_ENABLE p.val 0 = false ∧ s'.flag RF.WFR_PAR_CANCEL_BUSY p.val 0 = true) ∧
      s.parishWork s' := by
  refine ⟨(s.parishCancel p.val).setFlag RF.WFR_PAR_CTL_ENABLE p.val 0 false,
    congrArg Host.Outcome.next (if_pos h), ⟨?_, ?_⟩, (State.parishWork.refl s).parishCancel.setFlag⟩
  · exact State.flag_setFlag_same _ _ _ _ _ (by decide) rfl
  · rw [State.flag_setFlag_reg _ _ _ _ _ _ (by decide)]
    exact s.busy_parishCancel p.val

/-! ### The end of a cancel -/

/-- Disabling the rings of a list clears their ENABLE, leaves what is clear already, and touches no other register. -/
theorem State.setFlag_enable_foldl (p : Nat) {l : List Nat} (hl : ∀ r ∈ l, r < 64) :
    let u := l.foldl (fun (t : State) r => t.setFlag RF.WFR_RINGr_CTL_ENABLE p r false) s
    u = { s with regs := u.regs } ∧ s.onlyRegs [.WFR_RINGr_CTL] u ∧
      ∀ r < 64, (r ∈ l ∨ s.flag RF.WFR_RINGr_CTL_ENABLE p r = false) → u.flag RF.WFR_RINGr_CTL_ENABLE p r = false := by
  induction l generalizing s with
  | nil => exact ⟨rfl, s.onlyRegs_refl _, fun r _ h => h.resolve_left List.not_mem_nil⟩
  | cons a l ih =>
    obtain ⟨hframe, hregs, hoff⟩ :=
      ih (s := s.setFlag RF.WFR_RINGr_CTL_ENABLE p a false) fun r hr => hl r (List.mem_cons_of_mem a hr)
    refine ⟨hframe.trans rfl, (s.onlyRegs_setFlag _ _ _ (by decide)).trans hregs, fun r hr h => hoff r hr ?_⟩
    by_cases hra : r = a
    · subst hra
      exact .inr (State.flag_setFlag_same s _ _ _ _ (by decide) rfl)
    · refine h.imp (fun hmem => (List.mem_cons.mp hmem).resolve_left hra) fun hs => ?_
      have hkey : rkey .WFR_RINGr_CTL p r ≠ rkey .WFR_RINGr_CTL p a :=
        rkey_ne_of_idx (by omega) (by have := hl a List.mem_cons_self; omega) hra
      unfold State.flag State.getF State.setFlag State.setF at *
      rw [State.rd_wr_other s hkey]
      exact hs

theorem exec_parishCancelDone_eq (p : ParishId) (hbusy : s.flag RF.WFR_PAR_CANCEL_BUSY p.val 0 = true)
    (hnone : s.seq.sheaves.any (fun x => decide (x.parish = p.val)) = false) :
    exec (.parishCancelDone p) s = .next (({ s with
      seq := { s.seq with cancelling := s.seq.cancelling.filter (· != p.val) } }.setFlag RF.WFR_PAR_CANCEL_BUSY
        p.val 0 false).ringsOff p.val) :=
  if_neg (by rw [hbusy, hnone]; decide)

theorem exec_parishCancelDone (p : ParishId) (hbusy : s.flag RF.WFR_PAR_CANCEL_BUSY p.val 0 = true)
    (hnone : s.seq.sheaves.any (fun x => decide (x.parish = p.val)) = false) :
    ∃ s', exec (.parishCancelDone p) s = .next s' ∧
      (s'.flag RF.WFR_PAR_CANCEL_BUSY p.val 0 = false ∧ p.val ∉ s'.seq.cancelling ∧
        (∀ r : Nat, r < 64 → s'.flag RF.WFR_RINGr_CTL_ENABLE p.val r = false)) ∧
      s' = { s with regs := s'.regs, seq := s'.seq } ∧ s.onlyRegs [.WFR_PAR_CANCEL, .WFR_RINGr_CTL] s' := by
  refine ⟨_, exec_parishCancelDone_eq p hbusy hnone, ?_⟩
  obtain ⟨s1, hs1⟩ : ∃ s1, s1 = { s with
    seq := { s.seq with cancelling := s.seq.cancelling.filter (· != p.val) } } := ⟨_, rfl⟩
  rw [← hs1]
  have hregs1 : s.onlyRegs [.WFR_PAR_CANCEL] (s1.setFlag RF.WFR_PAR_CANCEL_BUSY p.val 0 false) := by
    rw [hs1]
    exact State.onlyRegs_setFlag { s with
      seq := { s.seq with cancelling := s.seq.cancelling.filter (· != p.val) } } _ _ _ (by decide)
  have hfree : (s1.setFlag RF.WFR_PAR_CANCEL_BUSY p.val 0 false).flag RF.WFR_PAR_CANCEL_BUSY p.val 0 = false :=
    State.flag_setFlag_same _ _ _ _ _ (by decide) rfl
  have hframe1 : s1.setFlag RF.WFR_PAR_CANCEL_BUSY p.val 0 false = { s with
      regs := (s1.setFlag RF.WFR_PAR_CANCEL_BUSY p.val 0 false).regs
      seq := { s.seq with cancelling := s.seq.cancelling.filter (· != p.val) } } := by
    rw [hs1]
    rfl
  generalize s1.setFlag RF.WFR_PAR_CANCEL_BUSY p.val 0 false = t at *
  obtain ⟨hframe, hregs, hoff⟩ := State.setFlag_enable_foldl (s := t) p.val (l := List.range 64)
    fun r hr => List.mem_range.mp hr
  change (t.ringsOff p.val) = { t with regs := (t.ringsOff p.val).regs } at hframe
  change t.onlyRegs [.WFR_RINGr_CTL] (t.ringsOff p.val) at hregs
  change ∀ r < 64, _ → (t.ringsOff p.val).flag RF.WFR_RINGr_CTL_ENABLE p.val r = false at hoff
  generalize t.ringsOff p.val = u at *
  refine ⟨⟨(hregs.flag (by decide) _ _).trans hfree, ?_, fun r hr => hoff r hr (.inl (List.mem_range.mpr hr))⟩, ?_,
    (hregs1.mono (by decide)).trans (hregs.mono (by decide))⟩
  · rw [hframe, hframe1]
    simp
  · rw [hframe, hframe1]

/-! ### Rings (R174, R176, R190, R197) -/

theorem State.doorbell_eq {p r v : Nat} (hflr : s.host.flr.contains (p + 1) = false) (hready : s.boot.stage = .ready)
    (hrun : s.stopped 4 = false) (hon : s.halted = false) :
    s.doorbell p r v = if s.ringEntries p r ≤ v then
      (s.setF RF.WFR_RINGr_SQ_PTR_SQ_TAIL p r v).setFlag RF.WFR_RINGr_STAT_ERR p r true
      else s.setF RF.WFR_RINGr_SQ_PTR_SQ_TAIL p r v := by
  unfold State.doorbell
  rw [hflr, hready, hrun, hon]
  rfl

/-- What a doorbell does that is neither held nor ignored. -/
theorem State.doorbell_taken {p r : Nat} {v : BitVec 16} (hflr : t.host.flr.contains (p + 1) = false)
    (hready : t.boot.stage = .ready) (hrun : t.stopped 4 = false) (hon : t.halted = false) :
    ((t.doorbell p r v.toNat).getF RF.WFR_RINGr_SQ_PTR_SQ_TAIL p r = v.toNat ∧
      (t.ringEntries p r ≤ v.toNat → (t.doorbell p r v.toNat).flag RF.WFR_RINGr_STAT_ERR p r = true) ∧
      (v.toNat < t.ringEntries p r → (t.doorbell p r v.toNat).rd .WFR_RINGr_STAT p r = t.rd .WFR_RINGr_STAT p r)) ∧
      t.doorbell p r v.toNat = { t with regs := (t.doorbell p r v.toNat).regs } ∧
      t.onlyRegs [.WFR_RINGr_SQ_PTR, .WFR_RINGr_STAT] (t.doorbell p r v.toNat) := by
  have htail : (t.setF RF.WFR_RINGr_SQ_PTR_SQ_TAIL p r v.toNat).getF RF.WFR_RINGr_SQ_PTR_SQ_TAIL p r = v.toNat :=
    (State.getF_setF_same t _ _ _ _ (by decide)).trans (Nat.mod_eq_of_lt v.isLt)
  have hregs : t.onlyRegs [.WFR_RINGr_SQ_PTR] (t.setF RF.WFR_RINGr_SQ_PTR_SQ_TAIL p r v.toNat) :=
    t.onlyRegs_setF _ _ _ (by decide)
  rw [State.doorbell_eq hflr hready hrun hon]
  by_cases hv : t.ringEntries p r ≤ v.toNat
  · rw [if_pos hv]
    refine ⟨⟨?_, fun _ => ?_, fun h => absurd hv (by omega)⟩, rfl,
      (hregs.mono (by decide)).trans (State.onlyRegs_setFlag _ _ _ _ (by decide))⟩
    · exact (State.getF_setF_reg _ _ _ _ _ _ (by decide)).trans htail
    · exact State.flag_setFlag_same _ _ _ _ _ (by decide) rfl
  · rw [if_neg hv]
    exact ⟨⟨htail, fun h => absurd h hv, fun _ => hregs _ _ _ (by decide)⟩, rfl, hregs.mono (by decide)⟩

theorem exec_ringDoorbell (p : ParishId) (r : RingId) (v : BitVec 16) (hheld : s.h0Frozen = false)
    (hflr : s.host.flr.contains (p.val + 1) = false) (hready : s.boot.stage = .ready) (hrun : s.stopped 4 = false)
    (hon : s.halted = false) :
    ∃ s', exec (.ringDoorbell p r v) s = .next s' ∧
      (s'.getF RF.WFR_RINGr_SQ_PTR_SQ_TAIL p.val r.val = v.toNat ∧
        (s.ringEntries p.val r.val ≤ v.toNat → s'.flag RF.WFR_RINGr_STAT_ERR p.val r.val = true) ∧
        (v.toNat < s.ringEntries p.val r.val → s'.rd .WFR_RINGr_STAT p.val r.val = s.rd .WFR_RINGr_STAT p.val r.val)) ∧
      s' = { s with regs := s'.regs, seq := s'.seq, host := s'.host } ∧
      s.onlyRegs [.WFR_RINGr_SQ_PTR, .WFR_RINGr_STAT] s' := by
  obtain ⟨hpost, hframe, hregs⟩ := State.doorbell_taken (p := p.val) (r := r.val) (v := v)
    (t := { s with host := { s.host with doorbells := s.host.doorbells.put 0 (p.val * 64 + r.val) v.toNat } })
    hflr hready hrun hon
  refine ⟨_, congrArg Host.Outcome.next (if_neg (by rw [Bool.not_eq_true]; exact hheld)), hpost, ?_, hregs⟩
  rw [hframe]

/-- The fields of the word a write of a ring's CTL stores. -/
theorem State.ringCtlWrite_fields (s : State) (p r : Nat) (v : Word) :
    (s.ringCtlWrite p r v).getF RF.WFR_RINGr_CTL_ENABLE p r = bits v 0 1 ∧
      (s.ringCtlWrite p r v).getF RF.WFR_RINGr_CTL_LOC p r = bits v 1 1 ∧
      (s.ringCtlWrite p r v).getF RF.WFR_RINGr_CTL_SIZE p r =
        (if bits v 2 4 ≤ 12 then bits v 2 4 else s.getF RF.WFR_RINGr_CTL_SIZE p r) ∧
      (s.ringCtlWrite p r v).getF RF.WFR_RINGr_CTL_WEIGHT p r = max 1 (bits v 6 4) ∧
      (s.ringCtlWrite p r v).getF RF.WFR_RINGr_CTL_IRQ p r = bits v 10 1 ∧
      (s.ringCtlWrite p r v).getF RF.WFR_RINGr_CTL_VECTOR p r = bits v 16 11 := by
  have hloc : bits v 1 1 % 2 ^ 1 = bits v 1 1 := Nat.mod_eq_of_lt (bits_lt ..)
  have hsize : bits v 2 4 % 2 ^ 4 = bits v 2 4 := Nat.mod_eq_of_lt (bits_lt ..)
  have hweight : max 1 (bits v 6 4) % 2 ^ 4 = max 1 (bits v 6 4) :=
    Nat.mod_eq_of_lt (Nat.max_lt.mpr ⟨by decide, bits_lt ..⟩)
  have hirq : bits v 10 1 % 2 ^ 1 = bits v 10 1 := Nat.mod_eq_of_lt (bits_lt ..)
  have hvector : bits v 16 11 % 2 ^ 11 = bits v 16 11 := Nat.mod_eq_of_lt (bits_lt ..)
  have henable : bits v 0 1 % 2 ^ 1 = bits v 0 1 := Nat.mod_eq_of_lt (bits_lt ..)
  unfold State.getF State.ringCtlWrite
  change bits (State.rd _ .WFR_RINGr_CTL p r) 0 1 = _ ∧ bits (State.rd _ .WFR_RINGr_CTL p r) 1 1 = _ ∧
    bits (State.rd _ .WFR_RINGr_CTL p r) 2 4 = (if _ then _ else bits (State.rd _ .WFR_RINGr_CTL p r) 2 4) ∧
    bits (State.rd _ .WFR_RINGr_CTL p r) 6 4 = _ ∧ bits (State.rd _ .WFR_RINGr_CTL p r) 10 1 = _ ∧
    bits (State.rd _ .WFR_RINGr_CTL p r) 16 11 = _
  dsimp only
  split <;>
    simp (disch := decide) only [State.rd_wr_same, bits_putBits_same, bits_putBits_other, hloc, hsize, hweight, hirq,
      hvector, henable, and_self]

theorem exec_ringEnable_eq (p : ParishId) (r : RingId) (v : Word)
    (hoff : s.flag RF.WFR_RINGr_CTL_ENABLE p.val r.val = false) (hv : bit v 0 = true) :
    exec (.ringEnable p r v) s = .next (s.ringCtlWrite p.val r.val v) :=
  if_neg (by rw [hoff, hv]; decide)

theorem exec_ringEnable (p : ParishId) (r : RingId) (v : Word)
    (hoff : s.flag RF.WFR_RINGr_CTL_ENABLE p.val r.val = false) (hv : bit v 0 = true) :
    ∃ s', exec (.ringEnable p r v) s = .next s' ∧
      (s'.flag RF.WFR_RINGr_CTL_ENABLE p.val r.val = true ∧ s'.getF RF.WFR_RINGr_CTL_LOC p.val r.val = bits v 1 1 ∧
        s'.getF RF.WFR_RINGr_CTL_SIZE p.val r.val =
          (if bits v 2 4 ≤ 12 then bits v 2 4 else s.getF RF.WFR_RINGr_CTL_SIZE p.val r.val) ∧
        s'.getF RF.WFR_RINGr_CTL_WEIGHT p.val r.val = max 1 (bits v 6 4) ∧
        s'.getF RF.WFR_RINGr_CTL_IRQ p.val r.val = bits v 10 1 ∧
        s'.getF RF.WFR_RINGr_CTL_VECTOR p.val r.val = bits v 16 11) ∧
      s' = { s with regs := s'.regs } ∧ s.onlyRegs [.WFR_RINGr_CTL] s' := by
  obtain ⟨henable, hrest⟩ := s.ringCtlWrite_fields p.val r.val v
  refine ⟨_, exec_ringEnable_eq p r v hoff hv, ⟨?_, hrest⟩, rfl, State.onlyRegs_wr _ _ _ _ (by decide)⟩
  unfold State.flag
  rw [henable, bits_one_beq_one, hv]

theorem exec_ringDisable (p : ParishId) (r : RingId) (h : s.flag RF.WFR_RINGr_CTL_ENABLE p.val r.val = true) :
    ∃ s', exec (.ringDisable p r) s = .next s' ∧ s'.flag RF.WFR_RINGr_CTL_ENABLE p.val r.val = false ∧
      s.parishWork s' := by
  refine ⟨_, congrArg Host.Outcome.next (if_neg (by rw [h]; decide)), ?_, ?_⟩
  · exact State.flag_setFlag_same _ _ _ _ _ (by decide) rfl
  · exact ((State.parishWork.refl s).foldl fun _ _ h1 => h1.endSheaf).setFlag

theorem exec_ringRqHeadWrite (p : ParishId) (r : RingId) (v : BitVec 16) :
    ∃ s', exec (.ringRqHeadWrite p r v) s = .next s' ∧ s'.getF RF.WFR_RINGr_RQ_PTR_RQ_HEAD p.val r.val = v.toNat ∧
      s' = { s with regs := s'.regs } ∧ s.onlyRegs [.WFR_RINGr_RQ_PTR] s' :=
  ⟨_, rfl, (State.getF_setF_same s _ _ _ _ (by decide)).trans (Nat.mod_eq_of_lt v.isLt), rfl,
    s.onlyRegs_setF _ _ _ (by decide)⟩

end

/-- Settles O11, command by command. That an ENABLE stays stored while BLOCKED and takes effect once every field is
verified is log 54 (DEDUCED), that a parish keeps its fields until its cancel has ended log 55 (DEDUCED), the return
of receipt slots log 57 (DEDUCED) and what a read of a doorbell returns log 60 (DEDUCED): those are the model's. -/
theorem parishesAndRings : Obligations.ParishesAndRings :=
  ⟨fun p hi v _ ⟨hoff, hfree⟩ => exec_parishFieldsWrite_taken p hi v hoff hfree,
    fun p hi v _ ⟨hoff, hmet⟩ => exec_parishFieldsWrite_conflict p hi v hoff hmet,
    fun p _ ⟨hoff, hin, hfree⟩ => exec_parishEnable p hoff hin hfree,
    fun p _ heff => exec_parishUnblock p heff,
    fun p _ h => exec_parishCancel p h,
    fun p _ h => exec_parishDisable p h,
    fun p _ ⟨hbusy, hnone⟩ => exec_parishCancelDone p hbusy hnone,
    fun p r v _ ⟨hheld, hflr, hready, hrun, hon⟩ => exec_ringDoorbell p r v hheld hflr hready hrun hon,
    fun p r v _ ⟨hoff, hv⟩ => exec_ringEnable p r v hoff hv,
    fun p r _ h => exec_ringDisable p r h,
    fun p r v _ => exec_ringRqHeadWrite p r v⟩

end Sys2Proof.Machine

/-! O13: musters. First what a read may change and what an entry is after each operation on it, then one lemma per
command, in the order of the statement. -/

namespace Sys2Proof.Machine

section
variable {s t u : State}

/-! ### What a read of a unit may change (R85, R92) -/

/-- The registers that a read of memory may change: the access error capture and the counts of its field's page. -/
def readRegs : List Reg :=
  [.FLD_CMN_DENIED, .FLD_CMN_ERR_ADDR, .FLD_CMN_ERR_SOURCE, .FLD_CMN_ERR_STATUS, .FLD_CMN_FRESH_READS, .HDR_ERR_TIME]

/-- From `s` to `t` only those components change that a read reaches. -/
structure State.readMade (s t : State) : Prop where
  frame : t = { s with serial := t.serial, regs := t.regs, out := t.out }
  regs : s.onlyRegs readRegs t

theorem State.readMade.refl (s : State) : s.readMade s := ⟨rfl, s.onlyRegs_refl _⟩

theorem State.readMade.trans (h : s.readMade t) (k : t.readMade u) : s.readMade u where
  frame := by rw [k.frame, h.frame]
  regs := h.regs.trans k.regs

theorem State.readMade_wr (s : State) {r : Reg} (i n : Nat) (v : Word) (h : r ∈ readRegs) : s.readMade (s.wr r i n v) :=
  ⟨rfl, s.onlyRegs_wr i n v h⟩

theorem State.readMade_setFlag (s : State) {f : RF} (i n : Nat) (b : Bool) (h : f.reg ∈ readRegs) :
    s.readMade (s.setFlag f i n b) :=
  s.readMade_wr i n _ h

theorem State.readMade_addSat (s : State) {f : RF} (i n k : Nat) (h : f.reg ∈ readRegs) :
    s.readMade (s.addSat f i n k) :=
  s.readMade_wr i n _ h

theorem State.readMade_addWrap (s : State) {f : RF} (i n k : Nat) (h : f.reg ∈ readRegs) :
    s.readMade (s.addWrap f i n k) :=
  s.readMade_wr i n _ h

theorem State.readMade_capture (s : State) {v m : RF} {i : Nat} {fill : State → State} (hfill : s.readMade (fill s))
    (hv : v.reg ∈ readRegs) (hm : m.reg ∈ readRegs) : s.readMade (s.capture v m i fill) := by
  have hset : s.readMade ((fill s).setFlag v i 0 true) := hfill.trans (State.readMade_setFlag _ _ _ _ hv)
  unfold State.capture
  dsimp only
  split
  · exact s.readMade_setFlag _ _ _ hm
  · split
    · split
      · exact hset.trans (State.readMade_wr _ _ _ _ (by decide))
      · exact hset
    · exact hset

theorem State.readMade_captureAccess (s : State) (f : Nat) (st : AccStatus) (fresh isWrite side : Bool) (addr : Nat)
    (src : Source) : s.readMade (s.captureAccess f st fresh isWrite side addr src) := by
  unfold State.captureAccess
  refine s.readMade_capture ?_ (by decide) (by decide)
  exact ((s.readMade_wr _ _ _ (by decide)).trans (State.readMade_wr _ _ _ _ (by decide))).trans
    (State.readMade_wr _ _ _ _ (by decide))

theorem State.readMade_noteAccess (s : State) (target : Option Nat) (st : AccStatus) (fresh isWrite : Bool) (addr : Nat)
    (src : Source) : s.readMade (s.noteAccess target st fresh isWrite addr src) := by
  unfold State.noteAccess
  split
  · exact .refl s
  · extract_lets place s1
    clear_value place
    have h1 : s.readMade s1 := by
      unfold s1
      split
      · exact s.readMade_captureAccess ..
      · exact .refl s
    clear_value s1
    split
    · exact h1.trans (s1.readMade_addSat _ _ _ (by decide))
    · exact h1.trans (s1.readMade_addSat _ _ _ (by decide))
    · exact h1

theorem State.readMade_perform_read (s : State) (f region off n : Nat) :
    s.readMade (s.perform f region off (.read n)).1 := by
  unfold State.perform
  dsimp only
  split
  · exact .refl s
  · dsimp only
    split
    · exact s.readMade_addWrap _ _ _ (by decide)
    · exact .refl s

theorem State.readMade_engRead (s : State) (src : Source) (addr n : Nat) : s.readMade (s.engRead src addr n).1 := by
  unfold State.engRead
  split
  · exact s.readMade_noteAccess ..
  · exact ⟨rfl, fun _ _ _ _ => rfl⟩
  · exact .refl s
  · split
    · exact ⟨rfl, fun _ _ _ _ => rfl⟩
    · exact (s.readMade_perform_read _ _ _ _).trans (State.readMade_noteAccess ..)

theorem State.readMade_bulkReadL (s : State) (src : Source) (l : List (Nat × Nat)) :
    s.readMade (s.bulkReadL src l).1 := by
  induction l generalizing s with
  | nil => exact .refl s
  | cons b r ih =>
    have hread : s.readMade (s.engRead src b.1 b.2).1 := s.readMade_engRead src b.1 b.2
    unfold State.bulkReadL
    dsimp only
    split
    · exact hread.trans (ih _)
    · exact hread

/-! ### The table of entries -/

theorem find?_filter_other (l : List (Nat × Muster)) (m : Nat) :
    (l.filter (fun x => x.1 != m)).find? (fun x => x.1 == m) = none := by
  rw [List.find?_eq_none]
  intro x hx
  simpa using (List.mem_filter.mp hx).2

theorem State.muster_modMuster (s : State) (m : Nat) (g : Muster → Muster) :
    (s.modMuster m g).muster m = (s.muster m).map g := by
  have hkey : (fun e : Nat × Muster => e.1 == m) ∘ (fun e => if e.1 = m then (e.1, g e.2) else e) =
      fun e => e.1 == m := by
    funext e
    by_cases he : e.1 = m <;> simp [he]
  unfold State.muster State.modMuster
  dsimp only
  rw [List.find?_map, hkey]
  cases hfind : s.seq.musters.find? (fun e => e.1 == m) with
  | none => rfl
  | some e =>
    have he : e.1 = m := by simpa using List.find?_some hfind
    simp [he]

theorem State.muster_wr (s : State) (r : Reg) (i n : Nat) (v : Word) (m : Nat) : (s.wr r i n v).muster m = s.muster m :=
  rfl

theorem State.muster_setF (s : State) (x : RF) (i n v m : Nat) : (s.setF x i n v).muster m = s.muster m := rfl

theorem State.musterState_setState (s : State) (m v : Nat) :
    (s.setF RF.WFR_MUSm_CTL_STATE 0 m v).musterState m = v % 8 :=
  State.getF_setF_same s _ _ _ _ (by decide)

/-- Without a sheaf, a refusal sets STATE and notes who disagrees. -/
theorem State.musterRefuse_eq (h : s.seq.sheaves = []) (m : Nat) (l : List Nat) :
    s.musterRefuse m l =
      (s.setF RF.WFR_MUSm_CTL_STATE 0 m 3).modMuster m (fun e => { e with disagree := l }) := by
  unfold State.musterRefuse State.musterSheaves
  rw [h]
  dsimp only
  split <;> rfl

/-- The entry with this wave as its first, unless it has one. -/
def Muster.firstWave (e : Muster) (w : Nat × Nat × Nat) : Muster :=
  { e with wave := match e.wave with
      | some v => some v
      | none => some w }

/-- Without a sheaf, an abort sets STATE and notes its wave where it is the first. -/
theorem State.abortEntry_eq (h : s.seq.sheaves = []) (m wafer rack status : Nat) (p : Sheaf → Bool) :
    s.abortEntry m wafer rack status p =
      (s.setF RF.WFR_MUSm_CTL_STATE 0 m 4).modMuster m (·.firstWave (wafer, rack, status)) := by
  unfold State.abortEntry State.musterSheaves
  rw [h]
  dsimp only
  split <;> rfl

/-- What `tellMembers` does for one member of an entry of kind `kind`. -/
def tellMember (kind self op : Nat) (slots : List Nat) (t : State) (x : MusterMember × Nat) : State :=
  if x.2 = self then t
  else if kind = 0 then t.send (.fabric x.1.wafer op slots)
  else t.send (.loose x.1.rack x.1.wafer op slots)

theorem State.tellMembers_eq {m : Nat} {e : Muster} (h : s.muster m = some e) (op : Nat) (slots : List Nat) :
    s.tellMembers m op slots =
      e.members.zipIdx.foldl (tellMember (s.getF RF.WFR_MUSm_CTL_KIND 0 m) e.self op slots) s := by
  unfold State.tellMembers
  rw [h]
  rfl

/-- One message for each member but the wafer itself, and nothing else. -/
theorem foldl_tellMember (kind self op : Nat) (slots : List Nat) (l : List (MusterMember × Nat)) (t : State) :
    l.foldl (tellMember kind self op slots) t = { t with out := (l.foldl (tellMember kind self op slots) t).out } ∧
      (l.foldl (tellMember kind self op slots) t).out.length =
        t.out.length + (l.filter (fun x => decide (x.2 ≠ self))).length := by
  induction l generalizing t with
  | nil => exact ⟨rfl, rfl⟩
  | cons x r ih =>
    obtain ⟨hframe, hlen⟩ := ih (tellMember kind self op slots t x)
    have hstep : tellMember kind self op slots t x = { t with out := (tellMember kind self op slots t x).out } ∧
        (tellMember kind self op slots t x).out.length = t.out.length + if x.2 = self then 0 else 1 := by
      unfold tellMember
      split
      · exact ⟨rfl, rfl⟩
      · split <;> exact ⟨rfl, List.length_append⟩
    obtain ⟨hframe1, hlen1⟩ := hstep
    rw [List.foldl_cons]
    generalize tellMember kind self op slots t x = t1 at *
    generalize r.foldl (tellMember kind self op slots) t1 = t2 at *
    refine ⟨by rw [hframe, hframe1], ?_⟩
    rw [hlen, hlen1]
    by_cases hx : x.2 = self
    · simp [hx]
    · simp [hx]
      omega

theorem State.tellMembers_frame (s : State) (m op : Nat) (slots : List Nat) :
    s.tellMembers m op slots = { s with out := (s.tellMembers m op slots).out } := by
  cases h : s.muster m with
  | none =>
    have heq : s.tellMembers m op slots = s := by
      unfold State.tellMembers
      rw [h]
    rw [heq]
  | some e =>
    rw [State.tellMembers_eq h]
    exact (foldl_tellMember ..).1

theorem State.sendOffers_eq {m : Nat} {e : Muster} (h : s.muster m = some e) :
    s.sendOffers m = s.tellMembers m 0x14 [s.offerSlot m e] := by
  unfold State.sendOffers
  rw [h]

theorem State.musterTry_eq {m : Nat} {e : Muster} (he : s.muster m = some e) (hforming : s.musterState m = 1) :
    s.musterTry m =
      if e.offers.any (fun o => decide (o.2 ≠ e.digest) || decide (e.digest = 0)) then
        s.musterRefuse m e.disagreeing
      else if decide (e.digest ≠ 0) && decide (e.offers.length + 1 = e.members.length) then
        s.setF RF.WFR_MUSm_CTL_STATE 0 m 2
      else s := by
  unfold State.musterTry
  rw [he, hforming]
  rfl

/-! ### GO (R186, R198) -/

/-- A field inside the one replaced reads as it does in the word the replacement came from. -/
theorem bits_putBits_inside (u v : Word) (lo w lo' w' : Nat) (hw : lo + w ≤ 64) (hlo : lo ≤ lo')
    (hw' : lo' + w' ≤ lo + w) : bits (putBits u lo w (bits v lo w)) lo' w' = bits v lo' w' := by
  apply Nat.eq_of_testBit_eq
  intro i
  rw [testBit_bits, testBit_bits]
  by_cases hi : i < w'
  · have hat : lo + (lo' + i - lo) = lo' + i := by omega
    have hin : lo' + i - lo < w := by omega
    rw [getLsbD_putBits _ _ _ _ _ (by omega), if_pos ⟨by omega, by omega⟩, testBit_bits, hat]
    simp [hin]
  · simp [hi]

/-- The word a GO stores in WFR_MUSm_CTL: its written fields, STATE FORMING and the wafer's epoch. -/
def goWord (v : Word) (epoch : Nat) : Word :=
  putBits (putBits (putBits (putBits 0#64 0 23 (bits v 0 23)) 23 3 1) 26 12 (bits v 26 12)) 48 16 epoch

theorem bits_goWord_handle (v : Word) (epoch : Nat) : bits (goWord v epoch) 0 16 = bits v 0 16 := by
  unfold goWord
  rw [bits_putBits_other _ _ _ _ _ _ (by decide) (by decide), bits_putBits_other _ _ _ _ _ _ (by decide) (by decide),
    bits_putBits_other _ _ _ _ _ _ (by decide) (by decide)]
  exact bits_putBits_inside _ _ _ _ _ _ (by decide) (by decide) (by decide)

theorem bits_goWord_parish (v : Word) (epoch : Nat) : bits (goWord v epoch) 17 5 = bits v 17 5 := by
  unfold goWord
  rw [bits_putBits_other _ _ _ _ _ _ (by decide) (by decide), bits_putBits_other _ _ _ _ _ _ (by decide) (by decide),
    bits_putBits_other _ _ _ _ _ _ (by decide) (by decide)]
  exact bits_putBits_inside _ _ _ _ _ _ (by decide) (by decide) (by decide)

theorem bits_goWord_state (v : Word) (epoch : Nat) : bits (goWord v epoch) 23 3 = 1 := by
  unfold goWord
  rw [bits_putBits_other _ _ _ _ _ _ (by decide) (by decide), bits_putBits_other _ _ _ _ _ _ (by decide) (by decide),
    bits_putBits_same _ _ _ _ (by decide)]
  rfl

/-- The entry a GO creates, beside its registers. -/
def State.enterMuster (s : State) (m : Nat) (e : Muster) : State :=
  { s with
    serial := s.serial + 1
    seq := { s.seq with musters := s.seq.musters.filter (fun x => x.1 != m) ++ [(m, e)] } }

theorem State.muster_enterMuster (s : State) (m : Nat) (e : Muster) : (s.enterMuster m e).muster m = some e := by
  unfold State.muster State.enterMuster
  dsimp only
  rw [List.find?_append, find?_filter_other]
  simp

/-- A GO that is taken reads the member list and enters the entry; a bad list refuses it at once, and otherwise the
offers go out unless the wafer is frozen. -/
theorem State.musterGo_taken {m : Nat} {v : Word} (hfree : s.musterState m = 0) (hhandle : bits v 0 16 ≠ 0)
    (hgo : bit v 22 = true) (hunused : (List.range 64).any (fun k => decide (k ≠ m) && decide (s.musterState k ≠ 0) &&
      decide (s.getF RF.WFR_MUSm_CTL_HANDLE 0 k = bits v 0 16)) = false) :
    ∃ s2 e bad, (s.wr .WFR_MUSm_CTL 0 m (goWord v (s.getF RF.FAB_NUM_EPOCH 0 0))).readMade s2 ∧
      s.musterGo m v = if bad = true then (s2.enterMuster m e).musterRefuse m (List.range (bits v 26 12 + 1))
        else if (s2.enterMuster m e).stopped 4 then s2.enterMuster m e
        else ((s2.enterMuster m e).sendOffers m).musterTry m := by
  unfold State.musterGo
  dsimp only
  rw [hunused, if_neg (by simp [hfree, hhandle, hgo])]
  exact ⟨_, _, _, State.readMade_bulkReadL _ _ _, rfl⟩

/-- From `s` to `t` entry `m` has been entered with this handle and parish, and at most its forming was tried. -/
structure State.entered (m handle parish : Nat) (s t : State) : Prop where
  work : s.parishWork t
  entry : (t.muster m).isSome = true
  handle : t.getF RF.WFR_MUSm_CTL_HANDLE 0 m = handle
  parish : t.getF RF.WFR_MUSm_CTL_PARISH 0 m = parish
  state : 1 ≤ t.musterState m ∧ t.musterState m ≤ 3
  sheaves : t.seq.sheaves = []

theorem State.entered.setState {m handle parish v : Nat} (h : State.entered m handle parish s t)
    (hv : 1 ≤ v ∧ v ≤ 3) : State.entered m handle parish s (t.setF RF.WFR_MUSm_CTL_STATE 0 m v) where
  work := h.work.frame
  entry := h.entry
  handle := by
    rw [State.getF_setF_disjoint t 0 m v (by rfl) (by decide) (by decide)]
    exact h.handle
  parish := by
    rw [State.getF_setF_disjoint t 0 m v (by rfl) (by decide) (by decide)]
    exact h.parish
  state := by
    rw [State.musterState_setState]
    omega
  sheaves := h.sheaves

theorem State.entered.modMuster {m handle parish : Nat} {g : Muster → Muster} (h : State.entered m handle parish s t) :
    State.entered m handle parish s (t.modMuster m g) where
  work := h.work.frame
  entry := by
    rw [State.muster_modMuster, Option.isSome_map]
    exact h.entry
  handle := h.handle
  parish := h.parish
  state := h.state
  sheaves := h.sheaves

theorem State.entered.refuse {m handle parish : Nat} (h : State.entered m handle parish s t) (l : List Nat) :
    State.entered m handle parish s (t.musterRefuse m l) := by
  rw [State.musterRefuse_eq h.sheaves]
  exact (h.setState (by decide)).modMuster

theorem State.entered.out {m handle parish : Nat} (h : State.entered m handle parish s t) (l : List OutMsg) :
    State.entered m handle parish s { t with out := l } :=
  ⟨h.work.frame, h.entry, h.handle, h.parish, h.state, h.sheaves⟩

theorem State.entered.sendOffers {m handle parish : Nat} (h : State.entered m handle parish s t) :
    State.entered m handle parish s (t.sendOffers m) := by
  obtain ⟨e, he⟩ := Option.isSome_iff_exists.mp h.entry
  rw [State.sendOffers_eq he, State.tellMembers_frame]
  exact h.out _

theorem State.entered.musterTry {m handle parish : Nat} (h : State.entered m handle parish s t) :
    State.entered m handle parish s (t.musterTry m) := by
  obtain ⟨e, he⟩ := Option.isSome_iff_exists.mp h.entry
  by_cases hforming : t.musterState m = 1
  · rw [State.musterTry_eq he hforming]
    split
    · exact h.refuse _
    · split
      · exact h.setState (by decide)
      · exact h
  · have hsame : t.musterTry m = t := by
      unfold State.musterTry
      rw [he]
      exact if_pos hforming
    rw [hsame]
    exact h

theorem State.parishWork.wr {r : Reg} {i n : Nat} {w : Word} (h : s.parishWork t) : s.parishWork (t.wr r i n w) :=
  h.frame

theorem State.parishWork.read (h : s.parishWork t) (hread : t.readMade u) : s.parishWork u := by
  rw [hread.frame]
  exact h.frame

theorem State.parishWork.enterMuster {m : Nat} {e : Muster} (h : s.parishWork t) : s.parishWork (t.enterMuster m e) :=
  h.frame

theorem State.readMade.seq_eq (h : s.readMade t) : t.seq = s.seq := by
  rw [h.frame]

theorem State.entered_of_read {m epoch : Nat} {v : Word} {e : Muster} (hnone : s.seq.sheaves = [])
    (h : (s.wr .WFR_MUSm_CTL 0 m (goWord v epoch)).readMade t) :
    State.entered m (bits v 0 16) (bits v 17 5) s (t.enterMuster m e) := by
  have hctl : t.rd .WFR_MUSm_CTL 0 m = goWord v epoch :=
    (h.regs _ _ _ (by decide)).trans (State.rd_wr_same ..)
  have hstate : (t.enterMuster m e).musterState m = 1 :=
    (congrArg (bits · 23 3) hctl).trans (bits_goWord_state ..)
  refine ⟨((State.parishWork.refl s).wr.read h).enterMuster, ?_, ?_, ?_, by omega, ?_⟩
  · rw [State.muster_enterMuster]
    rfl
  · exact (congrArg (bits · 0 16) hctl).trans (bits_goWord_handle ..)
  · exact (congrArg (bits · 17 5) hctl).trans (bits_goWord_parish ..)
  · exact (congrArg Sequencer.sheaves h.seq_eq).trans hnone

theorem exec_musterGo (m : MusterId) (v : Word) (hfree : s.musterState m.val = 0) (hhandle : bits v 0 16 ≠ 0)
    (hgo : bit v 22 = true) (hnone : s.seq.sheaves = [])
    (hunused : (List.range 64).any (fun k => decide (k ≠ m.val) && decide (s.musterState k ≠ 0) &&
      decide (s.getF RF.WFR_MUSm_CTL_HANDLE 0 k = bits v 0 16)) = false) :
    ∃ s', exec (.musterGo m v) s = .next s' ∧ State.entered m.val (bits v 0 16) (bits v 17 5) s s' := by
  obtain ⟨s2, e, bad, hread, heq⟩ := State.musterGo_taken hfree hhandle hgo hunused
  have hentered := State.entered_of_read (e := e) hnone hread
  refine ⟨_, congrArg Host.Outcome.next heq, ?_⟩
  split
  · exact hentered.refuse _
  · split
    · exact hentered
    · exact hentered.sendOffers.musterTry

/-! ### Clearing GO (R187) -/

/-- The end of a free: the entry leaves the table, STATE and GO read 0. -/
def State.leaveMuster (s : State) (m : Nat) : State :=
  (State.setF { s with seq := { s.seq with musters := s.seq.musters.filter (fun x => x.1 != m) } }
    RF.WFR_MUSm_CTL_STATE 0 m 0).setFlag RF.WFR_MUSm_CTL_GO 0 m false

theorem State.muster_leaveMuster (s : State) (m : Nat) : (s.leaveMuster m).muster m = none :=
  congrArg (Option.map Prod.snd) (find?_filter_other s.seq.musters m)

theorem State.musterState_leaveMuster (s : State) (m : Nat) : (s.leaveMuster m).musterState m = 0 := by
  unfold State.leaveMuster State.musterState State.setFlag
  rw [State.getF_setF_disjoint _ _ _ _ (by rfl) (by decide) (by decide), State.getF_setF_same _ _ _ _ _ (by decide)]
  exact Nat.zero_mod _

theorem State.parishWork.leaveMuster {m : Nat} (h : s.parishWork t) : s.parishWork (t.leaveMuster m) := h.frame

/-- Before the entry leaves, one that was FORMED sends an abort wave. -/
def State.musterWave (s : State) (m : Nat) : State :=
  if s.musterState m = 2 then { s.abortSend m (Config.freeNat s.serial 0 % 256) with serial := s.serial + 1 } else s

theorem State.parishWork.serial {n : Nat} (h : s.parishWork t) : s.parishWork { t with serial := n } := h.frame

theorem State.parishWork_musterWave (s : State) (m : Nat) : s.parishWork (s.musterWave m) :=
  (State.parishWork.refl s).abortSend.serial.ite (.refl s)

theorem State.musterFree_eq {m : Nat} (h : s.musterState m ≠ 0) : s.musterFree m = (s.musterWave m).leaveMuster m :=
  if_neg h

theorem exec_musterFree (m : MusterId) (h : s.musterState m.val ≠ 0) :
    ∃ s', exec (.musterFree m) s = .next s' ∧
      (s'.musterState m.val = 0 ∧ s'.flag RF.WFR_MUSm_CTL_GO 0 m.val = false ∧ s'.muster m.val = none) ∧
      s.parishWork s' :=
  ⟨_, congrArg Host.Outcome.next (State.musterFree_eq h), ⟨State.musterState_leaveMuster ..,
    State.flag_setFlag_same _ _ _ _ _ (by decide) rfl, State.muster_leaveMuster ..⟩,
    (s.parishWork_musterWave m.val).leaveMuster⟩

/-! ### Offers (R483) -/

theorem State.parishWork.modMuster {m : Nat} {g : Muster → Muster} (h : s.parishWork t) :
    s.parishWork (t.modMuster m g) := h.frame

theorem State.parishWork.setF {x : RF} {i n v : Nat} (h : s.parishWork t) : s.parishWork (t.setF x i n v) := h.frame

/-- The entry with the offer of the member of this index, which replaces an earlier one of that member. -/
def Muster.withOffer (e : Muster) (index digest : Nat) : Muster :=
  { e with offers := e.offers.filter (fun o => o.1 != index) ++ [(index, digest)] }

/-- An offer that agrees makes no member disagree; the last one forms the entry. -/
theorem State.musterTry_agreed {m : Nat} {e : Muster} (he : s.muster m = some e) (hforming : s.musterState m = 1)
    (hdigest : e.digest ≠ 0) (hall : ∀ o ∈ e.offers, o.2 = e.digest) :
    s.musterTry m = if e.offers.length + 1 = e.members.length then s.setF RF.WFR_MUSm_CTL_STATE 0 m 2 else s := by
  have hany : e.offers.any (fun o => decide (o.2 ≠ e.digest) || decide (e.digest = 0)) = false := by
    rw [List.any_eq_false]
    intro o ho
    simp [hall o ho, hdigest]
  rw [State.musterTry_eq he hforming, hany]
  simp [hdigest]

theorem exec_musterOfferReceive_eq {rack : BitVec 7} {wafer : WaferId} {epoch handle : BitVec 16} {index : BitVec 11}
    {digest : Word} {m : Nat} {e : Muster} {k : MusterMember}
    (hfind : (List.range 64).find? (fun m => decide (s.musterState m = 1) &&
      decide (s.getF RF.WFR_MUSm_CTL_HANDLE 0 m = handle.toNat)) = some m)
    (he : s.muster m = some e) (hk : e.members[index.toNat]? = some k) (hwafer : k.wafer = wafer.val)
    (hrack : k.rack = rack.toNat) (hother : index.toNat ≠ e.self)
    (hepoch : s.flag RF.FAB_EPOCHn_VALID 0 wafer.val = false) :
    exec (.musterOfferReceive rack wafer epoch handle index digest) s =
      .next ((s.modMuster m (·.withOffer index.toNat digest.toNat)).musterTry m) := by
  show execMusterOfferReceive rack wafer epoch handle index digest s = _
  unfold execMusterOfferReceive
  rw [hfind]
  dsimp only
  rw [he]
  dsimp only
  rw [hk]
  dsimp only
  rw [hepoch, if_neg (by simp [hwafer, hrack, hother])]
  rfl

theorem exec_musterOfferReceive {rack : BitVec 7} {wafer : WaferId} {epoch handle : BitVec 16} {index : BitVec 11}
    {digest : Word} {m : Nat} {e : Muster} {k : MusterMember}
    (hfind : (List.range 64).find? (fun m => decide (s.musterState m = 1) &&
      decide (s.getF RF.WFR_MUSm_CTL_HANDLE 0 m = handle.toNat)) = some m)
    (he : s.muster m = some e) (hk : e.members[index.toNat]? = some k) (hwafer : k.wafer = wafer.val)
    (hrack : k.rack = rack.toNat) (hother : index.toNat ≠ e.self)
    (hepoch : s.flag RF.FAB_EPOCHn_VALID 0 wafer.val = false) (hdigest : digest.toNat = e.digest) (hnz : e.digest ≠ 0)
    (hall : e.offers.all (fun o => o.2 == e.digest) = true) :
    ∃ s', exec (.musterOfferReceive rack wafer epoch handle index digest) s = .next s' ∧
      ((s'.muster m).map (·.offers) =
          some (e.offers.filter (fun o => o.1 != index.toNat) ++ [(index.toNat, digest.toNat)]) ∧
        s'.musterState m =
          if (e.offers.filter (fun o => o.1 != index.toNat)).length + 2 = e.members.length then 2 else 1) ∧
      s.parishWork s' := by
  have hforming : s.musterState m = 1 := (by simpa using List.find?_some hfind : _ ∧ _).1
  have hentry : (s.modMuster m (·.withOffer index.toNat digest.toNat)).muster m =
      some (e.withOffer index.toNat digest.toNat) := by
    rw [State.muster_modMuster, he]
    rfl
  have hagree : ∀ o ∈ (e.withOffer index.toNat digest.toNat).offers, o.2 = e.digest := by
    intro o ho
    rcases List.mem_append.mp ho with ho | ho
    · simpa using List.all_eq_true.mp hall o (List.mem_filter.mp ho).1
    · rw [List.mem_singleton.mp ho]
      exact hdigest
  have hlen : (e.withOffer index.toNat digest.toNat).offers.length =
      (e.offers.filter (fun o => o.1 != index.toNat)).length + 1 := List.length_append
  have hwork : s.parishWork (s.modMuster m (·.withOffer index.toNat digest.toNat)) :=
    (State.parishWork.refl s).modMuster
  have hstate : (s.modMuster m (·.withOffer index.toNat digest.toNat)).musterState m = 1 := hforming
  refine ⟨_, exec_musterOfferReceive_eq hfind he hk hwafer hrack hother hepoch, ?_⟩
  generalize s.modMuster m (·.withOffer index.toNat digest.toNat) = t at *
  rw [State.musterTry_agreed hentry hstate hnz hagree, hlen]
  by_cases hlast : (e.offers.filter (fun o => o.1 != index.toNat)).length + 2 = e.members.length
  · rw [if_pos hlast, if_pos (show _ = (e.withOffer index.toNat digest.toNat).members.length from hlast)]
    exact ⟨⟨congrArg (Option.map Muster.offers) hentry, State.musterState_setState t m 2⟩, hwork.setF⟩
  · rw [if_neg hlast, if_neg (show ¬ _ = (e.withOffer index.toNat digest.toNat).members.length from hlast)]
    exact ⟨⟨congrArg (Option.map Muster.offers) hentry, hstate⟩, hwork⟩

theorem exec_musterOfferRepeat (m : MusterId) (e : Muster) (hforming : s.musterState m.val = 1)
    (hrun : s.stopped 4 = false) (he : s.muster m.val = some e) :
    ∃ s', exec (.musterOfferRepeat m) s = .next s' ∧
      s'.out.length = s.out.length + (e.members.zipIdx.filter (fun x => decide (x.2 ≠ e.self))).length ∧
      s' = { s with out := s'.out } := by
  have hsent : s.sendOffers m.val = e.members.zipIdx.foldl
      (tellMember (s.getF RF.WFR_MUSm_CTL_KIND 0 m.val) e.self 0x14 [s.offerSlot m.val e]) s := by
    rw [State.sendOffers_eq he, State.tellMembers_eq he]
  obtain ⟨hframe, hlen⟩ := foldl_tellMember (s.getF RF.WFR_MUSm_CTL_KIND 0 m.val) e.self 0x14
    [s.offerSlot m.val e] e.members.zipIdx s
  rw [← hsent] at hframe hlen
  exact ⟨s.sendOffers m.val, if_pos ⟨hforming, by simp [hrun]⟩, hlen, hframe⟩

theorem exec_musterFormTimeout (m : MusterId) (e : Muster) (hforming : s.musterState m.val = 1)
    (he : s.muster m.val = some e) (hnone : s.seq.sheaves = []) :
    ∃ s', exec (.musterFormTimeout m) s = .next s' ∧
      (s'.musterState m.val = 3 ∧ (s'.muster m.val).map (·.disagree) = some e.disagreeing) ∧ s.parishWork s' := by
  have heq : exec (.musterFormTimeout m) s = .next (s.musterRefuse m.val e.disagreeing) := by
    show execMusterFormTimeout m s = _
    unfold execMusterFormTimeout
    rw [he]
    exact if_pos hforming
  rw [State.musterRefuse_eq hnone] at heq
  refine ⟨_, heq, ⟨?_, ?_⟩, (State.parishWork.refl s).setF.modMuster⟩
  · exact State.musterState_setState s m.val 3
  · rw [State.muster_modMuster, State.muster_setF, he]
    rfl

/-! ### Abort waves (R628, R635) -/

theorem State.flag_raise_abortReceived (s : State) :
    (s.raise RF.WFR_RCV_EVENT_ABORT_RECEIVED 0).flag RF.WFR_RCV_EVENT_ABORT_RECEIVED 0 0 = true := by
  have hset : (s.setFlag RF.WFR_RCV_EVENT_ABORT_RECEIVED 0 0 true).flag RF.WFR_RCV_EVENT_ABORT_RECEIVED 0 0 = true :=
    State.flag_setFlag_same s _ _ _ _ (by decide) rfl
  unfold State.raise
  dsimp only
  split
  · exact hset
  · exact ((State.messageOnly_sendFixed _ _).regs.flag (by decide) _ _).trans hset

/-- The waves an entry remembers after a new one: the last 8. -/
def Muster.withWave (e : Muster) (l : List (Nat × Nat)) : Muster := { e with waves := l.drop (l.length - 8) }

theorem Muster.mem_withWave (e : Muster) (l : List (Nat × Nat)) (key : Nat × Nat) :
    key ∈ (e.withWave (l ++ [key])).waves := by
  have hle : (l ++ [key]).length - 8 ≤ l.length := by simp
  unfold Muster.withWave
  rw [List.drop_append_of_le_length hle]
  exact List.mem_append_right _ (List.mem_singleton.mpr rfl)

/-- A new wave, before it moves the entry: it is forwarded, remembered and raises its event. -/
def State.noteWave (s : State) (m slot : Nat) (l : List (Nat × Nat)) : State :=
  ((s.tellMembers m 0x10 [slot]).modMuster m (·.withWave l)).raise RF.WFR_RCV_EVENT_ABORT_RECEIVED 0

theorem State.muster_of_seq (h : t.seq = s.seq) (m : Nat) : t.muster m = s.muster m := by
  unfold State.muster
  rw [h]

theorem State.seq_noteWave (s : State) (m slot : Nat) (l : List (Nat × Nat)) :
    (s.noteWave m slot l).seq = (s.modMuster m (·.withWave l)).seq := by
  unfold State.noteWave
  rw [(State.messageOnly_raise _ _ _).eq, State.tellMembers_frame]
  rfl

theorem State.parishWork_noteWave (s : State) (m slot : Nat) (l : List (Nat × Nat)) :
    s.parishWork (s.noteWave m slot l) :=
  (State.parishWork.refl s).tellMembers.modMuster.raise

theorem exec_abortReceive_eq {handle epoch : BitVec 16} {wafer : WaferId} {rack : BitVec 7} {status : BitVec 8}
    {wave : BitVec 32} {m : Nat} {e : Muster}
    (hfind : (List.range 64).find? (fun m => decide (s.musterState m ≠ 0) &&
      decide (s.getF RF.WFR_MUSm_CTL_HANDLE 0 m = handle.toNat)) = some m)
    (he : s.muster m = some e) (hnew : e.waves.contains (wafer.val + 16 * rack.toNat, wave.toNat) = false)
    (hstate : s.musterState m = 1 ∨ s.musterState m = 2) :
    exec (.abortReceive handle wafer rack status epoch wave) s = .next
      (((s.noteWave m (abortSlot handle.toNat wafer.val rack.toNat status.toNat epoch.toNat wave.toNat)
        (e.waves ++ [(wafer.val + 16 * rack.toNat, wave.toNat)])).abortEntry m wafer.val rack.toNat status.toNat
          (fun _ => true)).wr .WFR_RCV_ABORT 0 0 (BitVec.ofNat 64 (handle.toNat + wafer.val * 2 ^ 16 +
            rack.toNat * 2 ^ 20 + status.toNat * 2 ^ 27 + 2 ^ 35))) := by
  show execAbortReceive handle wafer rack status epoch wave s = _
  unfold execAbortReceive
  rw [hfind]
  dsimp only
  rw [he]
  dsimp only
  rw [hnew, if_pos hstate]
  rfl

theorem exec_abortReceive {handle epoch : BitVec 16} {wafer : WaferId} {rack : BitVec 7} {status : BitVec 8}
    {wave : BitVec 32} {m : Nat} {e : Muster}
    (hfind : (List.range 64).find? (fun m => decide (s.musterState m ≠ 0) &&
      decide (s.getF RF.WFR_MUSm_CTL_HANDLE 0 m = handle.toNat)) = some m)
    (he : s.muster m = some e) (hnew : e.waves.contains (wafer.val + 16 * rack.toNat, wave.toNat) = false)
    (hstate : s.musterState m = 1 ∨ s.musterState m = 2) (hnone : s.seq.sheaves = []) :
    ∃ s', exec (.abortReceive handle wafer rack status epoch wave) s = .next s' ∧
      (s'.musterState m = 4 ∧
        (s'.muster m).any (fun x => x.waves.contains (wafer.val + 16 * rack.toNat, wave.toNat)) = true ∧
        s'.flag RF.WFR_RCV_EVENT_ABORT_RECEIVED 0 0 = true ∧
        s'.rd .WFR_RCV_ABORT 0 0 = BitVec.ofNat 64 (handle.toNat + wafer.val * 2 ^ 16 + rack.toNat * 2 ^ 20 +
          status.toNat * 2 ^ 27 + 2 ^ 35)) ∧
      s.parishWork s' := by
  obtain ⟨l, hl⟩ : ∃ l, l = e.waves ++ [(wafer.val + 16 * rack.toNat, wave.toNat)] := ⟨_, rfl⟩
  obtain ⟨slot, hslot⟩ : ∃ n, n = abortSlot handle.toNat wafer.val rack.toNat status.toNat epoch.toNat wave.toNat :=
    ⟨_, rfl⟩
  have heq := exec_abortReceive_eq (status := status) (epoch := epoch) hfind he hnew hstate
  rw [← hl, ← hslot] at heq
  have hflag : (s.noteWave m slot l).flag RF.WFR_RCV_EVENT_ABORT_RECEIVED 0 0 = true :=
    State.flag_raise_abortReceived _
  have hseq := s.seq_noteWave m slot l
  have hentry : (s.noteWave m slot l).muster m = some (e.withWave l) := by
    rw [State.muster_of_seq hseq, State.muster_modMuster, he]
    rfl
  have hempty : (s.noteWave m slot l).seq.sheaves = [] := (congrArg Sequencer.sheaves hseq).trans hnone
  have hwork := s.parishWork_noteWave m slot l
  have hmem : (wafer.val + 16 * rack.toNat, wave.toNat) ∈ (e.withWave l).waves := hl ▸ e.mem_withWave e.waves _
  generalize s.noteWave m slot l = t at *
  rw [State.abortEntry_eq hempty] at heq
  refine ⟨_, heq, ⟨?_, ?_, ?_, State.rd_wr_same ..⟩, hwork.setF.modMuster.wr⟩
  · unfold State.musterState State.getF
    rw [State.rd_wr_reg _ _ _ _ _ (by decide)]
    exact State.musterState_setState t m 4
  · rw [State.muster_wr, State.muster_modMuster, State.muster_setF, hentry]
    exact List.contains_iff_mem.mpr hmem
  · unfold State.flag State.getF at hflag ⊢
    rw [State.rd_wr_reg _ _ _ _ _ (by decide), State.modMuster_rd, State.rd_setF_reg _ _ _ _ _ _ (by decide)]
    exact hflag

end

/-- Settles O13, command by command. The digest match, the refusal at the timeout and the GO that is ignored are log 61
(DEDUCED), the waves remembered and forwarded log 62 (DEDUCED): those are the model's. -/
theorem mustersFormAndAbort : Obligations.MustersFormAndAbort := by
  refine ⟨fun m v s ⟨hfree, hhandle, hgo, hnone, hunused⟩ => ?_, fun m _ h => exec_musterFree m h,
    fun _ _ _ _ _ _ _ _ _ _ ⟨hfind, he, hk, hwafer, hrack, hother, hepoch, hdigest, hnz, hall⟩ =>
      exec_musterOfferReceive hfind he hk hwafer hrack hother hepoch hdigest hnz hall,
    fun m e _ ⟨hforming, hrun, he⟩ => exec_musterOfferRepeat m e hforming hrun he,
    fun m e _ ⟨hforming, he, hnone⟩ => exec_musterFormTimeout m e hforming he hnone,
    fun _ _ _ _ _ _ _ _ _ ⟨hfind, he, hnew, hstate, hnone⟩ => exec_abortReceive hfind he hnew hstate hnone⟩
  obtain ⟨s', hexec, hentered⟩ := exec_musterGo m v hfree hhandle hgo hnone hunused
  exact ⟨s', hexec, ⟨hentered.entry, hentered.handle, hentered.parish, hentered.state⟩, hentered.work⟩

end Sys2Proof.Machine

/-! The instructions of the sieves (O16, O17, O18): what a tile register holds after a write, what the issue of an
instruction changes, one lemma for every element-wise instruction, and a load that fails. -/

namespace Sys2Proof.Machine

/-! ### Tile registers (R260) -/

theorem look_putTileAux_other (l : List Nat) (m : NMap Nat) {k j : Nat} (h : j < k ∨ k + l.length ≤ j) :
    (putTileAux m k l).look 0 j = m.look 0 j := by
  induction l generalizing m k with
  | nil => rfl
  | cons w r ih =>
    rw [List.length_cons] at h
    exact (ih (m.put 0 k w) (by omega)).trans (m.look_put_other 0 (by omega) w)

theorem look_putTileAux_same (l : List Nat) (m : NMap Nat) (k i : Nat) (h : i < l.length) :
    (putTileAux m k l).look 0 (k + i) = l[i] := by
  induction l generalizing m k i with
  | nil => exact absurd h (Nat.not_lt_zero i)
  | cons w r ih =>
    cases i with
    | zero => exact (look_putTileAux_other r (m.put 0 k w) (.inl k.lt_succ_self)).trans (m.look_put_same 0 k w)
    | succ i =>
      have := ih (m.put 0 k w) (k + 1) i (Nat.lt_of_succ_lt_succ h)
      rwa [Nat.add_assoc, Nat.add_comm 1 i] at this

theorem Sieve.tile_setTile_same (x : Sieve) (t : Nat) {words : List Nat} (h : words.length = 512) :
    (x.setTile t words).tile t = words := by
  refine List.ext_getElem (by simp [Sieve.tile, h]) fun i _ hi => ?_
  simp only [Sieve.tile, List.getElem_map, List.getElem_range]
  exact look_putTileAux_same words x.tiles (t * 512) i hi

theorem Sieve.tile_setTile_other (x : Sieve) {t u : Nat} (hu : u ≠ t) {words : List Nat} (h : words.length = 512) :
    (x.setTile t words).tile u = x.tile u := by
  refine List.map_congr_left fun i hi => look_putTileAux_other words x.tiles ?_
  have hi : i < 512 := List.mem_range.mp hi
  omega

theorem length_pairWords {n : Nat} {l : List Nat} (h : l.length = 2 * n) : (pairWords l).length = n := by
  induction n generalizing l with
  | zero => rw [List.length_eq_zero_iff.mp h]; rfl
  | succ n ih =>
    obtain ⟨a, b, r, rfl⟩ : ∃ a b r, l = a :: b :: r := by
      match l, h with
      | a :: b :: r, _ => exact ⟨a, b, r, rfl⟩
    have hr : r.length = 2 * n := by simp only [List.length_cons] at h; omega
    exact congrArg (· + 1) (ih hr)

theorem length_tileWords {wide : Bool} {l : List Nat} (h : l.length = lanesOf wide) :
    (tileWords wide l).length = 512 := by
  cases wide with
  | true => exact h
  | false => exact length_pairWords h

/-! ### Contexts -/

theorem Sieve.ctx_setCtx {x : Sieve} {slot : Nat} {c d : SieveCtx} (h : x.ctx slot = some c) (hd : d.slot = c.slot) :
    (x.setCtx d).ctx slot = some d := by
  have hslot (e : SieveCtx) : ((if e.slot = d.slot then d else e).slot == slot) = (e.slot == slot) := by
    split
    · next he => rw [he]
    · rfl
  unfold Sieve.ctx Sieve.setCtx at *
  rw [List.find?_map, show (fun e : SieveCtx => e.slot == slot) ∘ _ = fun e => e.slot == slot from funext hslot, h]
  exact congrArg some (if_pos hd.symm)

theorem SieveCtx.advanced_slot (c : SieveCtx) : c.advanced.slot = c.slot := by
  unfold SieveCtx.advanced
  split <;> rfl

@[simp] theorem State.sieve_modSieve (s : State) (f n : Nat) (g : Sieve → Sieve) :
    (s.modSieve f n g).sieve f n = g (s.sieve f n) :=
  NMap.look_put_same _ _ _ _

/-! ### The issue of an instruction (R266, R267) -/

section
variable {s : State} {f n slot op occ : Nat} {c : SieveCtx} {t : EngTask} {w : Nat}

/-- After the issue of an instruction of context `c`: its occupancy is counted and the context is past it. -/
def State.issued (s : State) (f n : Nat) (c : SieveCtx) (occ : Nat) : State :=
  (s.addWrap RF.SIV_ISSUE_CYCLES_COUNT (f * 2 + n) 0 occ).modSieve f n (·.setCtx c.advanced)

theorem State.sNext_eq (h : (s.sieve f n).ctx slot = some c) :
    s.sNext f n slot = s.modSieve f n (·.setCtx c.advanced) := by
  unfold State.sNext
  rw [h]
  rfl

theorem State.sIssue_eq (h : s.sieveIssues f n slot op c t w = true)
    (hocc : (opShape w).map OpShape.occ = some occ) (run : SieveCtx → EngTask → Nat → State → State) :
    s.sIssue f n slot op run = run c t w (s.issued f n c occ) := by
  simp only [State.sieveIssues, Bool.and_eq_true, decide_eq_true_eq, Bool.not_eq_true'] at h
  obtain ⟨⟨⟨⟨⟨hctx, htask⟩, rfl⟩, hop⟩, hruns⟩, htiles⟩ := h
  obtain ⟨sh, hsh, rfl⟩ := Option.map_eq_some_iff.mp hocc
  have hnext : (s.addWrap RF.SIV_ISSUE_CYCLES_COUNT (f * 2 + n) 0 sh.occ).sNext f n slot = s.issued f n c sh.occ :=
    State.sNext_eq hctx
  unfold State.sIssue
  simp [hctx, htask, hop, hruns, htiles, hsh, hnext]

theorem State.ctx_of_sieveIssues (h : s.sieveIssues f n slot op c t w = true) : (s.sieve f n).ctx slot = some c := by
  simp only [State.sieveIssues, Bool.and_eq_true, decide_eq_true_eq] at h
  obtain ⟨⟨⟨⟨⟨hctx, -⟩, -⟩, -⟩, -⟩, -⟩ := h
  exact hctx

theorem State.iOp_of_sieveIssues (h : s.sieveIssues f n slot op c t w = true) : iOp w = op := by
  simp only [State.sieveIssues, Bool.and_eq_true, decide_eq_true_eq] at h
  obtain ⟨⟨⟨-, hop⟩, -⟩, -⟩ := h
  exact hop

theorem State.sieve_issued (s : State) (f n : Nat) (c : SieveCtx) (occ : Nat) :
    (s.issued f n c occ).sieve f n = (s.sieve f n).setCtx c.advanced :=
  State.sieve_modSieve _ f n _

theorem State.sElems_issued (s : State) (f n : Nat) (c : SieveCtx) (occ : Nat) (wide : Bool) (r : Nat) :
    (s.issued f n c occ).sElems f n c wide r = s.sElems f n c wide r := by
  unfold State.sElems
  rw [State.sieve_issued]
  rfl

theorem State.getF_issued (s : State) (f n : Nat) (c : SieveCtx) (occ : Nat) :
    (s.issued f n c occ).getF RF.SIV_ISSUE_CYCLES_COUNT (f * 2 + n) 0 =
      wrapAdd RF.SIV_ISSUE_CYCLES_COUNT.w (s.getF RF.SIV_ISSUE_CYCLES_COUNT (f * 2 + n) 0) occ :=
  State.getF_addWrap_same s _ _ _ _ (by decide)

theorem State.onlyRegs_issued (s : State) (f n : Nat) (c : SieveCtx) (occ : Nat) :
    s.onlyRegs [.SIV_ISSUE_CYCLES] (s.issued f n c occ) :=
  s.onlyRegs_addWrap _ _ _ (by decide)

/-! ### The write of a destination tile (R269) -/

/-- The registers that counting saturations may change. -/
def satRegs : List Reg := [.SIV_SAT, .SIV_EVENT, .HST_PORT_MSIX_DROP, .HST_PORT_EVENT]

theorem State.messageOnly.sieve_eq {l : List Reg} {u : State} (h : State.messageOnly l s u) (f n : Nat) :
    u.sieve f n = s.sieve f n := by
  rw [h.eq]
  rfl

theorem State.messageOnly_sCountSat (s : State) (f n k : Nat) : State.messageOnly satRegs s (s.sCountSat f n k) := by
  unfold State.sCountSat
  split
  · exact s.messageOnly_refl _
  · exact (s.messageOnly_setF _ _ _ (by decide)).trans ((State.messageOnly_raise _ _ _).mono (by decide))

/-- An instruction of context `c` wrote its destination tile: what O16, O17 and O18 say of it. -/
def State.wroteTile (s : State) (f n slot : Nat) (c : SieveCtx) (w occ : Nat) (wide : Bool) (codes : List Nat)
    (s' : State) : Prop :=
  (s.sieveWrote f n slot c w occ wide codes s' = true ∧ s.onlyTile f n (c.base + iDt w) s') ∧
    s' = { s with serial := s'.serial, regs := s'.regs, sieves := s'.sieves, host := s'.host, out := s'.out } ∧
    s.onlyRegs [.HST_PORT_EVENT, .HST_PORT_MSIX_DROP, .SIV_EVENT, .SIV_ISSUE_CYCLES, .SIV_SAT] s'

theorem State.messageOnly_sWrite (s : State) (f n : Nat) (c : SieveCtx) (wide : Bool) (dt : Nat) (l : List SRes) :
    State.messageOnly satRegs (s.modSieve f n (·.setTile (c.base + dt) (tileWords wide (l.map (·.code)))))
      (s.sWrite f n c wide dt l) :=
  State.messageOnly_sCountSat _ f n _

theorem State.sieve_sWrite (s : State) (f n : Nat) (c : SieveCtx) (wide : Bool) (dt : Nat) (l : List SRes) :
    (s.sWrite f n c wide dt l).sieve f n =
      (s.sieve f n).setTile (c.base + dt) (tileWords wide (l.map (·.code))) := by
  rw [(s.messageOnly_sWrite f n c wide dt l).sieve_eq, State.sieve_modSieve]

/-- Results written after the issue of an instruction that drew a free choice. -/
theorem State.wroteTile_sWrite (hctx : (s.sieve f n).ctx slot = some c) {wide : Bool} {l : List SRes}
    (hl : l.length = lanesOf wide) :
    s.wroteTile f n slot c w occ wide (l.map (·.code)) ((s.issued f n c occ).fresh.2.sWrite f n c wide (iDt w) l) := by
  have hwords : (tileWords wide (l.map (·.code))).length = 512 := length_tileWords (by rw [List.length_map, hl])
  have hmessage := (s.issued f n c occ).fresh.2.messageOnly_sWrite f n c wide (iDt w) l
  have hsieve := ((s.issued f n c occ).fresh.2.sieve_sWrite f n c wide (iDt w) l).trans
    (congrArg (Sieve.setTile · _ _) (s.sieve_issued f n c occ))
  refine ⟨⟨?_, fun u hu => ?_⟩, ?_, ?_⟩
  · simp only [State.sieveWrote, Bool.and_eq_true, decide_eq_true_eq]
    refine ⟨⟨?_, ?_⟩, ?_⟩
    · rw [hsieve, Sieve.tile_setTile_same _ _ hwords]
    · rw [hsieve]
      exact Sieve.ctx_setCtx hctx c.advanced_slot
    · exact (hmessage.regs.getF (by decide) _ _).trans (s.getF_issued f n c occ)
  · rw [hsieve, Sieve.tile_setTile_other _ hu hwords]
    rfl
  · rw [hmessage.eq]
    rfl
  · exact ((s.onlyRegs_issued f n c occ).mono (by decide)).trans (hmessage.regs.mono (by decide))

/-! ### Element-wise instructions (R266, R269, R270) -/

/-- The opcodes of the element-wise instructions. -/
def elementwiseOps : List Nat :=
  [0x08, 0x09, 0x0A, 0x0B, 0x0C, 0x0D, 0x0E, 0x0F, 0x10, 0x11, 0x12, 0x18, 0x19, 0x1A, 0x1B, 0x20, 0x21, 0x22, 0x23,
    0x24, 0x25]

/-- Their occupancy: 4 for RCP, DIV and SQRT (R266). -/
def elementwiseOcc (op : Nat) : Nat := if 0x10 ≤ op ∧ op ≤ 0x12 then 4 else 1

theorem opShape_occ_elementwise (hop : iOp w ∈ elementwiseOps) :
    (opShape w).map OpShape.occ = some (elementwiseOcc (iOp w)) := by
  unfold opShape
  generalize iOp w = op at hop ⊢
  simp only [elementwiseOps, List.mem_cons, List.not_mem_nil, or_false] at hop
  rcases hop with rfl | rfl | rfl | rfl | rfl | rfl | rfl | rfl | rfl | rfl | rfl | rfl | rfl | rfl | rfl | rfl | rfl |
    rfl | rfl | rfl | rfl <;> rfl

/-- The results of an element-wise instruction, lane by lane. -/
def State.laneResults (s : State) (f n : Nat) (c : SieveCtx) (w k : Nat)
    (g : Nat → Nat → Nat → Nat → Nat → Nat → SRes) : List SRes :=
  let wide := cfWide (iCf w)
  let a := s.sElems f n c wide (iSa w)
  let b := broadcast wide w (s.sElems f n c wide (iSb w))
  let d := s.sElems f n c wide (iSc w)
  (List.range (lanesOf wide)).map (fun i => g w k i (a.getD i 0) (b.getD i 0) (d.getD i 0))

theorem State.length_laneResults (s : State) (f n : Nat) (c : SieveCtx) (w k : Nat)
    (g : Nat → Nat → Nat → Nat → Nat → Nat → SRes) :
    (s.laneResults f n c w k g).length = lanesOf (cfWide (iCf w)) := by
  simp only [State.laneResults, List.length_map, List.length_range]

theorem State.map_code_laneResults (s : State) (f n : Nat) (c : SieveCtx) (w : Nat)
    (g : Nat → Nat → Nat → Nat → Nat → Nat → SRes) :
    (s.laneResults f n c w s.serial g).map (·.code) = s.laneCodes f n c w g :=
  List.map_map

theorem State.sMap_eq {g : Nat → Nat → Nat → Nat → Nat → Nat → SRes}
    (h : s.sieveIssues f n slot op c t w = true) (hocc : (opShape w).map OpShape.occ = some occ) :
    s.sMap f n slot op g = (s.issued f n c occ).fresh.2.sWrite f n c (cfWide (iCf w)) (iDt w)
      (s.laneResults f n c w s.serial g) := by
  unfold State.laneResults
  simp only [← s.sElems_issued f n c occ]
  exact State.sIssue_eq h hocc _

theorem exec_elementwise {i : Instr} {g : Nat → Nat → Nat → Nat → Nat → Nat → SRes}
    (h : s.sieveIssues f n slot op c t w = true) (hexec : exec i s = .next (s.sMap f n slot op g))
    (hop : op ∈ elementwiseOps ∧ elementwiseOcc op = occ) :
    ∃ s', exec i s = .next s' ∧ s.wroteTile f n slot c w occ (cfWide (iCf w)) (s.laneCodes f n c w g) s' := by
  obtain ⟨hmem, rfl⟩ := hop
  have hw : iOp w = op := State.iOp_of_sieveIssues h
  subst hw
  refine ⟨_, hexec, ?_⟩
  rw [State.sMap_eq h (opShape_occ_elementwise hmem), ← State.map_code_laneResults]
  exact State.wroteTile_sWrite (State.ctx_of_sieveIssues h) (State.length_laneResults ..)

end

/-- Settles O16: each of its instructions is element-wise. -/
theorem sieveArithmeticWritesItsTile : Obligations.SieveArithmeticWritesItsTile := by
  refine ⟨?_, ?_, ?_, ?_, ?_, ?_, ?_, ?_, ?_, ?_, ?_⟩ <;>
    exact fun f n slot c t w s h => exec_elementwise h rfl (by decide)

/-- Settles O17: each of its instructions is element-wise. -/
theorem sieveLogicWritesItsTile : Obligations.SieveLogicWritesItsTile := by
  refine ⟨?_, ?_, ?_, ?_, ?_, ?_, ?_, ?_, ?_, ?_⟩ <;>
    exact fun f n slot c t w s h => exec_elementwise h rfl (by decide)

/-! ### A load that no access reaches (R264, R268) -/

/-- The instruction SIV_LD of tile 0 from stream 0, in FP32. -/
def ldWord : Nat := 1

/-- Context 0 at a program of that one instruction; its stream of one FP32 element lies in field 80 (R263, R264). -/
def loadingCtx : SieveCtx :=
  { slot := 0, task := 5, base := 8, count := 8
    params := [1#8, 1#8] ++ leBytes 62 0 ++ nowhere ++ leBytes 24 0 ++ leBytes 8 ldWord
    iter := 0, pc := 0, loads := [] }

/-- A RUN of one iteration in a window of 8 tile registers from register 8. -/
def runTask : EngTask := plainTask (leBytes 64 (0x100 + 8 * 2 ^ 232 + 8 * 2 ^ 238))

/-- Sieve 0 of field 0 runs the task in that context. -/
def sieveLoading : State :=
  (readyAt1ns.modEngine 0 (unitSieve 0) (fun e => { e with running := [runTask] })).modSieve 0 0
    (fun x => { x with ctxs := [loadingCtx] })

/-- Reading the stream's row fails (R92, R739). -/
theorem sivLd_loads_errTime : loadsErrTime (.sivLd 0 0 0) sieveLoading .FLD_COMMONS 0 :=
  ⟨_, rfl, by decide +kernel⟩

/-- Refutes O18: the registers that SIV_LD may touch leave out HDR_ERR_TIME, which the capture of a failed access
loads (R92, R739). -/
theorem not_sieveMovesAndReductions : ¬ Obligations.SieveMovesAndReductions := by
  unfold Obligations.SieveMovesAndReductions
  rintro ⟨-, -, hld, -⟩
  obtain ⟨s', hexec, -, -, hregs⟩ := hld 0 0 0 loadingCtx runTask ldWord sieveLoading (by decide +kernel)
  exact not_onlyRegs_of_loadsErrTime sivLd_loads_errTime (by decide) hexec hregs

end Sys2Proof.Machine

/-! An OPEN whose open block no access reaches (O19): the capture of the failed read loads HDR_ERR_TIME (R92, R739),
which the register list of OPEN leaves out. -/

namespace Sys2Proof.Machine

/-- An OPEN whose open block lies in field 80 (R299, R300). -/
def openTask : EngTask := plainTask (leBytes 20 0x100 ++ nowhere ++ leBytes 36 0)

/-- The OPEN waits at the cairn of field 0. The cairn has an empty pool, BF16 pages and the 32 table blocks that the
sequence records take, which is a valid configuration, and is enabled (R294). -/
def openWaits : State :=
  (((withQueued unitCairn openTask).setF RF.CRN_PT_BLOCKS_BLOCKS 0 0 32).setF RF.CRN_GEOM_FORMAT 0 0 1).crnEnable 0

/-- Reading the open block fails (R92, R301). -/
theorem crnOpen_loads_errTime : loadsErrTime (.crnOpen 0) openWaits .FLD_COMMONS 0 :=
  ⟨_, rfl, by decide⟩

/-- Refutes O19: the registers that CRN_OPEN may touch leave out HDR_ERR_TIME, which the capture of a failed read of
the open block loads (R92, R739). -/
theorem not_cairnTasksStart : ¬ Obligations.CairnTasksStart := by
  unfold Obligations.CairnTasksStart
  rintro ⟨-, -, -, hopen, -⟩
  obtain ⟨s', hexec, -, -, hregs⟩ := hopen 0 openTask [] openWaits (by decide)
  exact not_onlyRegs_of_loadsErrTime crnOpen_loads_errTime (by decide) hexec hregs

end Sys2Proof.Machine

/-! Field power states and P-states (O33): what a field command, the end of its transition, a P-state command and
the two ends of a P-state transition do to the registers and to the record of power. -/

namespace Sys2Proof.Machine

section
variable {s t u : State}

/-! ### One field over the instances of its register, and event bits -/

theorem rkey_ne_of_inst {r : Reg} {i j n m : Nat} (hi : i < 65536) (hj : j < 65536) (h : i ≠ j) :
    rkey r i n ≠ rkey r j m := by
  intro e
  have hinst : i % 65536 = j % 65536 := congrArg (fun k => k.inst.val) e
  exact h (by rwa [Nat.mod_eq_of_lt hi, Nat.mod_eq_of_lt hj] at hinst)

/-- A field written in the first instances of its register reads there as it was written. -/
theorem State.getF_foldl_setF (s : State) (x : RF) (v : Nat) (hx : x.lo + x.w ≤ 64) {n f : Nat} (hn : n ≤ 65536)
    (hf : f < n) :
    ((List.range n).foldl (fun (t : State) g => t.setF x g 0 v) s).getF x f 0 = v % 2 ^ x.w := by
  induction n with
  | zero => omega
  | succ n ih =>
    rw [List.range_succ, List.foldl_append, List.foldl_cons, List.foldl_nil]
    by_cases hfn : f = n
    · rw [hfn, State.getF_setF_same _ x n 0 v hx]
    · rw [State.getF, State.setF, State.rd_wr_other _ (rkey_ne_of_inst (by omega) (by omega) hfn)]
      exact ih (by omega) (by omega)

theorem State.getF_setF_fits (s : State) {x : RF} (i n : Nat) {v : Nat} (hv : v < 2 ^ x.w) (hx : x.lo + x.w ≤ 64) :
    (s.setF x i n v).getF x i n = v := by
  rw [s.getF_setF_same x i n v hx, Nat.mod_eq_of_lt hv]

theorem State.flag_raise_same (s : State) {x : RF} (i : Nat) (hx : x.reg ∉ dropRegs) (hlo : x.lo + x.w ≤ 64)
    (hw : x.w = 1) : (s.raise x i).flag x i 0 = true := by
  have hset : (s.setFlag x i 0 true).flag x i 0 = true := s.flag_setFlag_same x i 0 true hlo hw
  unfold State.raise
  dsimp only
  split
  · exact hset
  · exact ((State.messageOnly_sendFixed _ _).regs.flag hx i 0).trans hset

/-! ### What power commands may change -/

/-- A state that differs from another in registers of a list, in the record of power, and in what an interrupt
message changes. -/
structure State.powerOnly (l : List Reg) (s t : State) : Prop where
  eq : t = { s with regs := t.regs, host := t.host, power := t.power, out := t.out }
  regs : s.onlyRegs l t

theorem State.powerOnly.trans {l : List Reg} (h : State.powerOnly l s t) (k : State.powerOnly l t u) :
    State.powerOnly l s u where
  eq := by rw [k.eq, h.eq]
  regs := h.regs.trans k.regs

theorem State.powerOnly.mono {l m : List Reg} (h : State.powerOnly l s t) (sub : l ⊆ m) : State.powerOnly m s t :=
  ⟨h.eq, h.regs.mono sub⟩

theorem State.powerOnly_setF {l : List Reg} (s : State) {x : RF} (i n v : Nat) (h : x.reg ∈ l) :
    State.powerOnly l s (s.setF x i n v) :=
  ⟨rfl, s.onlyRegs_setF i n v h⟩

theorem State.powerOnly_modPower (l : List Reg) (s : State) (g : Power → Power) :
    State.powerOnly l s (s.modPower g) :=
  ⟨rfl, s.onlyRegs_refl l⟩

theorem State.messageOnly.powerOnly {l : List Reg} (h : State.messageOnly l s t) : State.powerOnly l s t where
  eq := by rw [h.eq]
  regs := h.regs

theorem State.messageOnly.power {l : List Reg} (h : State.messageOnly l s t) : t.power = s.power := by
  rw [h.eq]

theorem State.powerOnly.mem {l : List Reg} (h : State.powerOnly l s t) : t.mem = s.mem := by
  rw [h.eq]

theorem State.powerOnly.commons {l : List Reg} (h : State.powerOnly l s t) : t.commons = s.commons := by
  rw [h.eq]

/-! ### The state of a field and of its stack (R402, R529) -/

theorem State.messageOnly_stackFollow (s : State) (f : Nat) : State.messageOnly [.HBM_ID] s (s.stackFollow f) := by
  unfold State.stackFollow
  dsimp only
  split
  · exact s.messageOnly_setF _ _ _ (List.mem_singleton_self _)
  · exact s.messageOnly_refl _

theorem State.messageOnly_setFieldPower (s : State) (f st : Nat) :
    State.messageOnly [.PWR_FLD_STAT, .HBM_ID] s (s.setFieldPower f st) :=
  (s.messageOnly_setF f 0 st (by decide)).trans ((State.messageOnly_stackFollow _ f).mono (by decide))

theorem State.fieldPower_setFieldPower (s : State) (f : Nat) {st : Nat} (h : st < 4) :
    (s.setFieldPower f st).fieldPower f = st :=
  ((State.messageOnly_stackFollow _ f).regs.getF (by decide) f 0).trans (s.getF_setF_fits f 0 h (by decide))

/-- A field's new state leaves the other bits of its status. -/
theorem State.flag_setFieldPower (s : State) (f st : Nat) {x : RF} (hx : x.reg = .PWR_FLD_STAT) (hlo : 2 ≤ x.lo)
    (hw : x.lo + x.w ≤ 64) : (s.setFieldPower f st).flag x f 0 = s.flag x f 0 := by
  have hset : (s.setF RF.PWR_FLD_STAT_STATE f 0 st).getF x f 0 = s.getF x f 0 :=
    s.getF_setF_disjoint (f := RF.PWR_FLD_STAT_STATE) f 0 st hx hw (.inr hlo)
  have hstack := (s.setF RF.PWR_FLD_STAT_STATE f 0 st).messageOnly_stackFollow f
  exact congrArg (· == 1) ((hstack.regs.getF (by rw [hx]; decide) f 0).trans hset)

/-! ### Field commands (R529) -/

/-- The registers that a field command may change. -/
def fieldCommandRegs : List Reg :=
  [.HBM_ID, .HST_PORT_EVENT, .HST_PORT_MSIX_DROP, .PWR_EVENT, .PWR_FLD_CTL, .PWR_FLD_STAT]

/-- The command that R529 permits is taken: TARGET, BUSY, and the state the field goes to. -/
def State.fieldStarted (s : State) (f target : Nat) : State :=
  ((s.setF RF.PWR_FLD_CTL_TARGET f 0 target).setFlag RF.PWR_FLD_STAT_BUSY f 0 true).modPower (fun p => { p with
    fldTarget := p.fldTarget.put 0 f (target + 1) })

theorem State.not_fieldCommand (s : State) (f target : Nat) :
    (decide (s.boot.stage ≠ .ready) || !s.inService f || decide (s.modState ≠ 0) ||
      s.flag RF.PWR_FLD_STAT_BUSY f 0 || s.halted || !s.fieldMay f target) = !s.fieldCommand f target := by
  simp [State.fieldCommand]

theorem State.fieldTarget_of_command {f target : Nat} (h : s.fieldCommand f target = true) :
    s.fieldTarget f target = if s.fieldPower f < target then (s.fieldStarted f target).setFieldPower f target
      else s.fieldStarted f target := by
  unfold State.fieldTarget
  rw [s.not_fieldCommand, h]
  rfl

theorem State.fieldTarget_of_refused {f target : Nat} (h : s.fieldCommand f target = false) :
    s.fieldTarget f target = (s.setF RF.PWR_FLD_CTL_TARGET f 0 target).fldErr f := by
  unfold State.fieldTarget
  rw [s.not_fieldCommand, h]
  rfl

theorem State.powerOnly_fieldStarted (s : State) (f target : Nat) :
    State.powerOnly fieldCommandRegs s (s.fieldStarted f target) :=
  ((s.powerOnly_setF f 0 target (by decide)).trans (State.powerOnly_setF _ f 0 _ (by decide))).trans
    (State.powerOnly_modPower _ _ _)

theorem State.target_fieldStarted (s : State) (f : Nat) {target : Nat} (h : target < 4) :
    (s.fieldStarted f target).getF RF.PWR_FLD_CTL_TARGET f 0 = target := by
  rw [State.fieldStarted, State.modPower_getF, State.setFlag, State.getF_setF_reg _ _ _ _ _ _ (by decide)]
  exact s.getF_setF_fits f 0 h (by decide)

theorem State.busy_fieldStarted (s : State) (f target : Nat) :
    (s.fieldStarted f target).flag RF.PWR_FLD_STAT_BUSY f 0 = true := by
  rw [State.fieldStarted, State.modPower_flag]
  exact State.flag_setFlag_same _ RF.PWR_FLD_STAT_BUSY f 0 true (by decide) rfl

theorem State.fieldPower_fieldStarted (s : State) (f target : Nat) :
    (s.fieldStarted f target).fieldPower f = s.fieldPower f := by
  rw [State.fieldStarted, State.fieldPower, State.modPower_getF, State.setFlag,
    State.getF_setF_disjoint _ f 0 _ (by decide) (by decide) (by decide)]
  exact s.getF_setF_reg f 0 f 0 _ (by decide)

theorem State.look_fieldStarted (s : State) (f target : Nat) :
    (s.fieldStarted f target).power.fldTarget.look 0 f = target + 1 := by
  rw [State.fieldStarted, State.modPower_power, NMap.look_put_same]

theorem State.messageOnly_fldErr (s : State) (f : Nat) :
    State.messageOnly (.PWR_FLD_STAT :: .PWR_EVENT :: dropRegs) s (s.fldErr f) :=
  (s.messageOnly_setFlag f 0 true (by decide)).trans ((State.messageOnly_raise _ _ _).mono (by decide))

theorem State.flags_fldErr (s : State) (f : Nat) : (s.fldErr f).flag RF.PWR_FLD_STAT_CMD_ERR f 0 = true ∧
    (s.fldErr f).flag RF.PWR_EVENT_MODE_DONE 0 0 = true :=
  ⟨((State.messageOnly_raise _ _ _).regs.flag (by decide) f 0).trans
      (s.flag_setFlag_same RF.PWR_FLD_STAT_CMD_ERR f 0 true (by decide) rfl),
    State.flag_raise_same _ 0 (by decide) (by decide) rfl⟩

theorem State.fieldPower_fldErr (s : State) (f : Nat) : (s.fldErr f).fieldPower f = s.fieldPower f :=
  ((State.messageOnly_raise _ _ _).regs.getF (by decide) f 0).trans
    (s.getF_setF_disjoint (f := RF.PWR_FLD_STAT_CMD_ERR) f 0 _ rfl (by decide) (by decide))

/-- What a field command leaves: TARGET in every case; BUSY, the state the field goes to and a deeper state where R529
permits it; CMD_ERR and MODE_DONE otherwise. -/
def State.fieldCommanded (f target : Nat) (s t : State) : Prop :=
  (t.getF RF.PWR_FLD_CTL_TARGET f 0 = target ∧
    (s.fieldCommand f target = true → t.flag RF.PWR_FLD_STAT_BUSY f 0 = true ∧
      t.power.fldTarget.look 0 f = target + 1 ∧ t.fieldPower f = max (s.fieldPower f) target) ∧
    (s.fieldCommand f target = false → t.flag RF.PWR_FLD_STAT_CMD_ERR f 0 = true ∧
      t.flag RF.PWR_EVENT_MODE_DONE 0 0 = true ∧ t.fieldPower f = s.fieldPower f ∧ t.power = s.power)) ∧
  t = { s with regs := t.regs, host := t.host, power := t.power, out := t.out } ∧
  s.onlyRegs fieldCommandRegs t

theorem State.fieldCommanded_of_command {f target : Nat} (htarget : target < 4)
    (h : s.fieldCommand f target = true) : State.fieldCommanded f target s (s.fieldTarget f target) := by
  have hstarted := s.powerOnly_fieldStarted f target
  have hctl := s.target_fieldStarted f htarget
  have hbusy := s.busy_fieldStarted f target
  have hlook := s.look_fieldStarted f target
  rw [s.fieldTarget_of_command h]
  unfold State.fieldCommanded
  split
  next hdeeper =>
    have hset := (s.fieldStarted f target).messageOnly_setFieldPower f target
    have honly := hstarted.trans (hset.powerOnly.mono (by decide))
    refine ⟨⟨(hset.regs.getF (by decide) f 0).trans hctl, fun _ => ⟨?_, ?_, ?_⟩, by simp [h]⟩,
      honly.eq, honly.regs⟩
    · rw [State.flag_setFieldPower _ f target rfl (by decide) (by decide), hbusy]
    · rw [hset.power, hlook]
    · rw [State.fieldPower_setFieldPower _ f htarget, max_eq_right hdeeper.le]
  next hshallower =>
    refine ⟨⟨hctl, fun _ => ⟨hbusy, hlook, ?_⟩, by simp [h]⟩, hstarted.eq, hstarted.regs⟩
    rw [s.fieldPower_fieldStarted, max_eq_left (Nat.le_of_not_lt hshallower)]

theorem State.fieldCommanded_of_refused {f target : Nat} (htarget : target < 4)
    (h : s.fieldCommand f target = false) : State.fieldCommanded f target s (s.fieldTarget f target) := by
  rw [s.fieldTarget_of_refused h]
  have hctl := s.getF_setF_fits (x := RF.PWR_FLD_CTL_TARGET) f 0 htarget (by decide)
  have hpower : (s.setF RF.PWR_FLD_CTL_TARGET f 0 target).fieldPower f = s.fieldPower f :=
    s.getF_setF_reg f 0 f 0 _ (by decide)
  have herr := (s.setF RF.PWR_FLD_CTL_TARGET f 0 target).messageOnly_fldErr f
  have honly : State.powerOnly fieldCommandRegs s ((s.setF RF.PWR_FLD_CTL_TARGET f 0 target).fldErr f) :=
    (s.powerOnly_setF f 0 target (by decide)).trans (herr.powerOnly.mono (by decide))
  obtain ⟨hcmdErr, hdone⟩ := (s.setF RF.PWR_FLD_CTL_TARGET f 0 target).flags_fldErr f
  exact ⟨⟨(herr.regs.getF (by decide) f 0).trans hctl, by simp [h],
    fun _ => ⟨hcmdErr, hdone, (State.fieldPower_fldErr _ f).trans hpower, herr.power⟩⟩, honly.eq, honly.regs⟩

theorem State.fieldCommanded_fieldTarget (s : State) (f : Nat) {target : Nat} (htarget : target < 4) :
    State.fieldCommanded f target s (s.fieldTarget f target) := by
  cases h : s.fieldCommand f target with
  | true => exact State.fieldCommanded_of_command htarget h
  | false => exact State.fieldCommanded_of_refused htarget h

/-! ### The end of a field transition (R529) -/

/-- BUSY and the state a field goes to are cleared. -/
def State.fieldArrived (s : State) (f : Nat) : State :=
  (s.setFlag RF.PWR_FLD_STAT_BUSY f 0 false).modPower (fun p => { p with fldTarget := p.fldTarget.put 0 f 0 })

theorem State.powerOnly_fieldArrived (s : State) (f : Nat) :
    State.powerOnly fieldCommandRegs s (s.fieldArrived f) :=
  (s.powerOnly_setF f 0 _ (by decide)).trans (State.powerOnly_modPower _ _ _)

theorem State.busy_fieldArrived (s : State) (f : Nat) :
    (s.fieldArrived f).flag RF.PWR_FLD_STAT_BUSY f 0 = false := by
  rw [State.fieldArrived, State.modPower_flag]
  exact s.flag_setFlag_same RF.PWR_FLD_STAT_BUSY f 0 false (by decide) rfl

theorem State.look_fieldArrived (s : State) (f : Nat) : (s.fieldArrived f).power.fldTarget.look 0 f = 0 := by
  rw [State.fieldArrived, State.modPower_power, NMap.look_put_same]

/-- A transition that does not wake the field from F-off changes its state and raises MODE_DONE. -/
theorem State.fieldDone_of_awake {f n : Nat} (hgoes : s.power.fldTarget.look 0 f = n + 1)
    (hawake : ¬ (s.fieldPower f = 3 ∧ n < 3)) :
    s.fieldDone f = ((s.fieldArrived f).setFieldPower f n).raise RF.PWR_EVENT_MODE_DONE 0 := by
  unfold State.fieldDone
  rw [hgoes]
  dsimp only
  rw [if_neg hawake]
  rfl

theorem exec_fldTransitionDone {f : FieldId} {n : Nat} (hgoes : s.power.fldTarget.look 0 f.val = n + 1) (hn : n < 4)
    (hstopped : s.stopped f.val = false) (hhalted : s.halted = false) (hreqs : s.commons.reqs = [])
    (hoff : s.fieldPower f.val = 3 → n = 3) : ∃ s', exec (.fldTransitionDone f) s = .next s' ∧
      (s'.flag RF.PWR_FLD_STAT_BUSY f.val 0 = false ∧ s'.fieldPower f.val = n ∧
        s'.power.fldTarget.look 0 f.val = 0 ∧ s'.flag RF.PWR_EVENT_MODE_DONE 0 0 = true ∧ s'.mem = s.mem) := by
  have hdone := s.fieldDone_of_awake hgoes (by omega)
  have hset := (s.fieldArrived f.val).messageOnly_setFieldPower f.val n
  have hraise := ((s.fieldArrived f.val).setFieldPower f.val n).messageOnly_raise RF.PWR_EVENT_MODE_DONE 0
  have honly := ((s.powerOnly_fieldArrived f.val).trans (hset.powerOnly.mono (by decide))).trans
    (hraise.powerOnly.mono (by decide))
  rw [← hdone] at hraise honly
  have hexec : exec (.fldTransitionDone f) s = .next (s.fieldDone f.val) := by
    show execFldTransitionDone f s = _
    rw [execFldTransitionDone, if_neg (by simp [hgoes, hstopped, hhalted]), State.releaseAll,
      State.releaseHeld_of_none _ _ _ (by rw [honly.commons, hreqs])]
  refine ⟨_, hexec, ?_, ?_, ?_, ?_, honly.mem⟩
  · rw [hraise.regs.flag (by decide), State.flag_setFieldPower _ _ n rfl (by decide) (by decide),
      s.busy_fieldArrived]
  · exact (hraise.regs.getF (by decide) f.val 0).trans (State.fieldPower_setFieldPower _ _ hn)
  · rw [hraise.power, hset.power, s.look_fieldArrived]
  · rw [hdone]
    exact State.flag_raise_same _ 0 (by decide) (by decide) rfl

/-! ### Nominals and the fields of PWR_PSTATE (R521, R532) -/

theorem railOf_lt (p : Nat) : railOf p < 2 ^ 12 := by
  unfold railOf
  split <;> decide

theorem State.foldl_setF_only (s : State) (x : RF) (v : Nat) (l : List Nat) :
    l.foldl (fun (t : State) g => t.setF x g 0 v) s =
        { s with regs := (l.foldl (fun (t : State) g => t.setF x g 0 v) s).regs } ∧
      s.onlyRegs [x.reg] (l.foldl (fun (t : State) g => t.setF x g 0 v) s) := by
  induction l generalizing s with
  | nil => exact ⟨rfl, s.onlyRegs_refl _⟩
  | cons g r ih =>
    obtain ⟨heq, hregs⟩ := ih (s.setF x g 0 v)
    refine ⟨?_, (s.onlyRegs_setF g 0 v (List.mem_singleton_self _)).trans hregs⟩
    rw [List.foldl_cons, heq]
    rfl

theorem State.setNominal_frame (s : State) (p : Nat) : s.setNominal p = { s with regs := (s.setNominal p).regs } :=
  (s.foldl_setF_only RF.PWR_FLD_VOLT_NOMINAL (railOf p) (List.range 80)).1

theorem State.onlyRegs_setNominal (s : State) (p : Nat) : s.onlyRegs [.PWR_FLD_VOLT] (s.setNominal p) :=
  (s.foldl_setF_only RF.PWR_FLD_VOLT_NOMINAL (railOf p) (List.range 80)).2

theorem State.nominal_setNominal (s : State) (p : Nat) {f : Nat} (hf : f < 80) :
    (s.setNominal p).getF RF.PWR_FLD_VOLT_NOMINAL f 0 = railOf p := by
  rw [State.setNominal, State.getF_foldl_setF s _ _ (by decide) (by decide) hf]
  exact Nat.mod_eq_of_lt (railOf_lt p)

@[simp] theorem State.power_setNominal (s : State) (p : Nat) : (s.setNominal p).power = s.power := by
  rw [s.setNominal_frame p]

@[simp] theorem State.pTarget_setNominal (s : State) (p : Nat) : (s.setNominal p).pTarget = s.pTarget :=
  (s.onlyRegs_setNominal p).getF (by decide) 0 0

@[simp] theorem State.pCurrent_setNominal (s : State) (p : Nat) : (s.setNominal p).pCurrent = s.pCurrent :=
  (s.onlyRegs_setNominal p).getF (by decide) 0 0

@[simp] theorem State.pBusy_setNominal (s : State) (p : Nat) : (s.setNominal p).pBusy = s.pBusy :=
  (s.onlyRegs_setNominal p).flag (by decide) 0 0

@[simp] theorem State.pTarget_modPower (s : State) (g : Power → Power) : (s.modPower g).pTarget = s.pTarget := rfl
@[simp] theorem State.pCurrent_modPower (s : State) (g : Power → Power) : (s.modPower g).pCurrent = s.pCurrent := rfl
@[simp] theorem State.pBusy_modPower (s : State) (g : Power → Power) : (s.modPower g).pBusy = s.pBusy := rfl

theorem State.pTarget_setTarget (s : State) {v : Nat} (h : v ≤ 5) :
    (s.setF RF.PWR_PSTATE_TARGET 0 0 v).pTarget = v :=
  s.getF_setF_fits (x := RF.PWR_PSTATE_TARGET) 0 0 (by omega : v < 8) (by decide)

theorem State.pCurrent_setTarget (s : State) (v : Nat) :
    (s.setF RF.PWR_PSTATE_TARGET 0 0 v).pCurrent = s.pCurrent :=
  s.getF_setF_disjoint (f := RF.PWR_PSTATE_TARGET) 0 0 v rfl (by decide) (by decide)

theorem State.pBusy_setTarget (s : State) (v : Nat) : (s.setF RF.PWR_PSTATE_TARGET 0 0 v).pBusy = s.pBusy :=
  congrArg (· == 1) (s.getF_setF_disjoint (f := RF.PWR_PSTATE_TARGET) 0 0 v rfl (by decide) (by decide))

theorem State.pTarget_setCurrent (s : State) (v : Nat) :
    (s.setF RF.PWR_PSTATE_CURRENT 0 0 v).pTarget = s.pTarget :=
  s.getF_setF_disjoint (f := RF.PWR_PSTATE_CURRENT) 0 0 v rfl (by decide) (by decide)

theorem State.pCurrent_setCurrent (s : State) {v : Nat} (h : v < 8) :
    (s.setF RF.PWR_PSTATE_CURRENT 0 0 v).pCurrent = v :=
  s.getF_setF_fits (x := RF.PWR_PSTATE_CURRENT) 0 0 h (by decide)

theorem State.pBusy_setCurrent (s : State) (v : Nat) : (s.setF RF.PWR_PSTATE_CURRENT 0 0 v).pBusy = s.pBusy :=
  congrArg (· == 1) (s.getF_setF_disjoint (f := RF.PWR_PSTATE_CURRENT) 0 0 v rfl (by decide) (by decide))

theorem State.pTarget_setBusy (s : State) (b : Bool) : (s.setFlag RF.PWR_PSTATE_BUSY 0 0 b).pTarget = s.pTarget :=
  s.getF_setF_disjoint (f := RF.PWR_PSTATE_BUSY) 0 0 _ rfl (by decide) (by decide)

theorem State.pCurrent_setBusy (s : State) (b : Bool) :
    (s.setFlag RF.PWR_PSTATE_BUSY 0 0 b).pCurrent = s.pCurrent :=
  s.getF_setF_disjoint (f := RF.PWR_PSTATE_BUSY) 0 0 _ rfl (by decide) (by decide)

theorem State.pBusy_setBusy (s : State) (b : Bool) : (s.setFlag RF.PWR_PSTATE_BUSY 0 0 b).pBusy = b :=
  s.flag_setFlag_same RF.PWR_PSTATE_BUSY 0 0 b (by decide) rfl

/-! ### P-state commands (R532, R533, R545) -/

/-- A P-state transition begins: neither the clocks have switched nor the rails settled. -/
def State.pStarted (s : State) : State :=
  (s.setFlag RF.PWR_PSTATE_BUSY 0 0 true).modPower (fun p => { p with
    switched := false, settled := false, recorded := false })

theorem State.pStart_of_same (h : s.pTarget = s.pCurrent) : s.pStart = s := if_pos h

theorem State.pStart_of_ne (h : s.pTarget ≠ s.pCurrent) :
    s.pStart = if s.pTarget < s.pCurrent then s.pStarted.setNominal s.pTarget else s.pStarted :=
  if_neg h

theorem State.pCurrent_pStart (s : State) : s.pStart.pCurrent = s.pCurrent := by
  by_cases h : s.pTarget = s.pCurrent
  · rw [s.pStart_of_same h]
  · have hstarted : s.pStarted.pCurrent = s.pCurrent := s.pCurrent_setBusy true
    rw [s.pStart_of_ne h]
    split
    · rw [State.pCurrent_setNominal, hstarted]
    · exact hstarted

theorem State.pBusy_pStart (hidle : s.pBusy = false) : s.pStart.pBusy = decide (s.pTarget ≠ s.pCurrent) := by
  by_cases h : s.pTarget = s.pCurrent
  · rw [s.pStart_of_same h, hidle, decide_eq_false (not_not_intro h)]
  · have hstarted : s.pStarted.pBusy = true := s.pBusy_setBusy true
    rw [s.pStart_of_ne h, decide_eq_true h]
    split
    · rw [State.pBusy_setNominal, hstarted]
    · exact hstarted

/-- Upward the rails are raised first. -/
theorem State.nominal_pStart (h : s.pTarget < s.pCurrent) {f : Nat} (hf : f < 80) :
    s.pStart.getF RF.PWR_FLD_VOLT_NOMINAL f 0 = railOf s.pTarget := by
  rw [s.pStart_of_ne h.ne, if_pos h]
  exact State.nominal_setNominal _ _ hf

/-- What a P-state command does once TARGET is written: it leaves TARGET, and touches nominals, PWR_PSTATE and the
record of power. -/
structure State.targetKept (s t : State) : Prop where
  eq : t = { s with regs := t.regs, power := t.power }
  regs : s.onlyRegs [.PWR_FLD_VOLT, .PWR_PSTATE] t
  target : t.pTarget = s.pTarget

theorem State.targetKept.trans (h : s.targetKept t) (k : t.targetKept u) : s.targetKept u where
  eq := by rw [k.eq, h.eq]
  regs := h.regs.trans k.regs
  target := k.target.trans h.target

theorem State.targetKept_refl (s : State) : s.targetKept s := ⟨rfl, s.onlyRegs_refl _, rfl⟩

theorem State.targetKept_modPower (s : State) (g : Power → Power) : s.targetKept (s.modPower g) :=
  ⟨rfl, s.onlyRegs_refl _, rfl⟩

theorem State.targetKept_setNominal (s : State) (p : Nat) : s.targetKept (s.setNominal p) where
  eq := by rw [s.setNominal_frame p]
  regs := (s.onlyRegs_setNominal p).mono (by decide)
  target := s.pTarget_setNominal p

theorem State.targetKept_setCurrent (s : State) (v : Nat) : s.targetKept (s.setF RF.PWR_PSTATE_CURRENT 0 0 v) :=
  ⟨rfl, s.onlyRegs_setF 0 0 v (by decide), s.pTarget_setCurrent v⟩

theorem State.targetKept_pStarted (s : State) : s.targetKept s.pStarted :=
  ⟨rfl, s.onlyRegs_setFlag (f := RF.PWR_PSTATE_BUSY) 0 0 true (by decide), s.pTarget_setBusy true⟩

theorem State.targetKept_pStart (s : State) : s.targetKept s.pStart := by
  by_cases h : s.pTarget = s.pCurrent
  · rw [s.pStart_of_same h]
    exact s.targetKept_refl
  · rw [s.pStart_of_ne h]
    split
    · exact s.targetKept_pStarted.trans (State.targetKept_setNominal _ _)
    · exact s.targetKept_pStarted

theorem State.pstateWrite_of_reserved {v : Nat} (h : 5 < v) : s.pstateWrite v = s := if_pos h

theorem State.pstateWrite_of_off {v : Nat} (h : s.boot.stage = .off) : s.pstateWrite v = s := by
  unfold State.pstateWrite
  rw [if_pos h, ite_self]

theorem State.targetKept_pstateWrite {v : Nat} (hv : v ≤ 5) (hoff : s.boot.stage ≠ .off) :
    (s.setF RF.PWR_PSTATE_TARGET 0 0 v).targetKept (s.pstateWrite v) := by
  unfold State.pstateWrite
  rw [if_neg (by omega), if_neg hoff]
  split
  · exact State.targetKept_modPower _ _
  · split
    · exact (State.targetKept_setCurrent _ v).trans (State.targetKept_modPower _ _)
    · split
      · split
        · exact State.targetKept_refl _
        · dsimp only
          split
          · exact (State.targetKept_modPower _ _).trans (State.targetKept_setNominal _ _)
          · exact (State.targetKept_modPower _ _).trans (State.targetKept_setNominal _ _)
      · exact State.targetKept_pStart _

/-- In service, between no two module states and with no transition in progress, a P-state command starts one. -/
theorem State.pstateWrite_in_service {v : Nat} (hv : v ≤ 5) (hready : s.boot.stage = .ready) (hmod : s.modState ≤ 1)
    (hidle : s.pBusy = false) : s.pstateWrite v = (s.setF RF.PWR_PSTATE_TARGET 0 0 v).pStart := by
  have hbusy : s.modBusy = false := decide_eq_false (by omega)
  simp [State.pstateWrite, hready, hidle, hbusy, show ¬ 5 < v by omega, show ¬ s.modState = 2 by omega]

theorem State.pstateWrite_in_transition {v : Nat} (hv : v ≤ 5) (hready : s.boot.stage = .ready)
    (hmod : 3 ≤ s.modState) : s.pstateWrite v =
      (s.setF RF.PWR_PSTATE_TARGET 0 0 v).modPower (fun p => { p with recorded := true }) := by
  have hbusy : s.modBusy = true := decide_eq_true hmod
  simp [State.pstateWrite, hready, hbusy, show ¬ 5 < v by omega]

theorem State.pstateWrite_in_standby {v : Nat} (hv : v ≤ 5) (hready : s.boot.stage = .ready)
    (hmod : s.modState = 2) : s.pstateWrite v =
      ((s.setF RF.PWR_PSTATE_TARGET 0 0 v).setF RF.PWR_PSTATE_CURRENT 0 0 v).modPower (fun p => { p with
        recorded := true }) := by
  have hbusy : s.modBusy = false := decide_eq_false (by omega)
  simp [State.pstateWrite, hready, hbusy, hmod, show ¬ 5 < v by omega]

theorem State.pstateWrite_frame (s : State) (v : Nat) :
    s.pstateWrite v = { s with regs := (s.pstateWrite v).regs, power := (s.pstateWrite v).power } ∧
      s.onlyRegs [.PWR_FLD_VOLT, .PWR_PSTATE] (s.pstateWrite v) := by
  by_cases hv : 5 < v
  · rw [s.pstateWrite_of_reserved hv]
    exact ⟨rfl, s.onlyRegs_refl _⟩
  by_cases hoff : s.boot.stage = .off
  · rw [s.pstateWrite_of_off hoff]
    exact ⟨rfl, s.onlyRegs_refl _⟩
  have hkept := s.targetKept_pstateWrite (Nat.le_of_not_lt hv) hoff
  exact ⟨hkept.eq, (s.onlyRegs_setF 0 0 v (by decide)).trans hkept.regs⟩

theorem State.pstateWrite_starts {v : Nat} (hv : v ≤ 5) (hready : s.boot.stage = .ready) (hmod : s.modState ≤ 1)
    (hidle : s.pBusy = false) : (s.pstateWrite v).pBusy = decide (v ≠ s.pCurrent) ∧
      (s.pstateWrite v).pCurrent = s.pCurrent ∧
      (v < s.pCurrent → ∀ f < 80, (s.pstateWrite v).getF RF.PWR_FLD_VOLT_NOMINAL f 0 = railOf v) := by
  have htarget := s.pTarget_setTarget hv
  have hcurrent := s.pCurrent_setTarget v
  rw [s.pstateWrite_in_service hv hready hmod hidle]
  refine ⟨?_, ?_, fun hup f hf => ?_⟩
  · rw [State.pBusy_pStart (by rw [s.pBusy_setTarget, hidle]), htarget, hcurrent]
  · rw [State.pCurrent_pStart, hcurrent]
  · rw [State.nominal_pStart (by rw [htarget, hcurrent]; exact hup) hf, htarget]

theorem exec_pstateWrite (v : BitVec 3) (s : State) : ∃ s', exec (.pstateWrite v) s = .next s' ∧
    ((5 < v.toNat → s' = s) ∧ (v.toNat ≤ 5 → s.boot.stage ≠ .off → s'.pTarget = v.toNat) ∧
      (v.toNat ≤ 5 → s.boot.stage = .ready → s.modState ≤ 1 → s.pBusy = false →
        s'.pBusy = decide (v.toNat ≠ s.pCurrent) ∧ s'.pCurrent = s.pCurrent ∧
        (v.toNat < s.pCurrent → ∀ f < 80, s'.getF RF.PWR_FLD_VOLT_NOMINAL f 0 = railOf v.toNat)) ∧
      (v.toNat ≤ 5 → s.boot.stage = .ready → 3 ≤ s.modState → s'.power.recorded = true) ∧
      (v.toNat ≤ 5 → s.boot.stage = .ready → s.modState = 2 → s'.pCurrent = v.toNat)) ∧
    s' = { s with regs := s'.regs, power := s'.power } ∧
    s.onlyRegs [.PWR_FLD_VOLT, .PWR_PSTATE] s' := by
  refine ⟨s.pstateWrite v.toNat, rfl, ⟨s.pstateWrite_of_reserved, fun hv hoff => ?_, s.pstateWrite_starts,
    fun hv hready hmod => ?_, fun hv hready hmod => ?_⟩, s.pstateWrite_frame v.toNat⟩
  · exact (s.targetKept_pstateWrite hv hoff).target.trans (s.pTarget_setTarget hv)
  · rw [s.pstateWrite_in_transition hv hready hmod]
    rfl
  · rw [s.pstateWrite_in_standby hv hready hmod]
    exact State.pCurrent_setCurrent _ v.isLt

/-! ### The ends of a P-state transition (R532, R533) -/

/-- With no module command waiting, a transition whose clocks have switched to TARGET ends once its rails have
settled: BUSY clears, and nothing else changes. -/
theorem State.pSettle_of_reached (hbusy : s.pBusy = true) (hwait : s.power.waiting = [])
    (hreached : s.power.switched = true → s.pTarget = s.pCurrent) :
    s.pSettle.pBusy = !(s.power.switched && s.power.settled) ∧ s.pSettle.pCurrent = s.pCurrent ∧
      s.pSettle.power = s.power ∧ s.onlyRegs [.PWR_PSTATE] s.pSettle := by
  cases hdone : s.power.switched && s.power.settled with
  | false =>
    have hsame : s.pSettle = s := if_pos (by simp [hbusy, ← Bool.not_and, hdone])
    rw [hsame]
    exact ⟨hbusy, rfl, rfl, s.onlyRegs_refl _⟩
  | true =>
    obtain ⟨hswitched, hsettled⟩ := Bool.and_eq_true_iff.mp hdone
    have hends : s.pSettle = (s.setFlag RF.PWR_PSTATE_BUSY 0 0 false).modPower (fun p => { p with waiting := [] }) := by
      simp [State.pSettle, hbusy, hswitched, hsettled, hwait, s.pTarget_setBusy, s.pCurrent_setBusy,
        hreached hswitched]
    rw [hends]
    refine ⟨s.pBusy_setBusy false, s.pCurrent_setBusy false, ?_, s.onlyRegs_setFlag 0 0 false (by decide)⟩
    rw [State.modPower_power, State.setFlag_power, ← hwait]

/-- The clocks switch: CURRENT is the target, and every nominal follows. -/
def State.clocksSwitched (s : State) : State :=
  ((s.setF RF.PWR_PSTATE_CURRENT 0 0 s.pTarget).setNominal s.pTarget).modPower (fun p => { p with switched := true })

theorem State.power_clocksSwitched (s : State) : s.clocksSwitched.power = { s.power with switched := true } := by
  rw [State.clocksSwitched, State.modPower_power, State.power_setNominal, State.setF_power]

theorem State.pTarget_clocksSwitched (s : State) : s.clocksSwitched.pTarget = s.pTarget := by
  rw [State.clocksSwitched, State.pTarget_modPower, State.pTarget_setNominal, s.pTarget_setCurrent]

theorem State.pCurrent_clocksSwitched (s : State) : s.clocksSwitched.pCurrent = s.pTarget := by
  rw [State.clocksSwitched, State.pCurrent_modPower, State.pCurrent_setNominal, s.pCurrent_setCurrent (s.getF_lt ..)]

theorem State.pBusy_clocksSwitched (s : State) : s.clocksSwitched.pBusy = s.pBusy := by
  rw [State.clocksSwitched, State.pBusy_modPower, State.pBusy_setNominal, s.pBusy_setCurrent]

theorem State.nominal_clocksSwitched (s : State) {f : Nat} (hf : f < 80) :
    s.clocksSwitched.getF RF.PWR_FLD_VOLT_NOMINAL f 0 = railOf s.pTarget := by
  rw [State.clocksSwitched, State.modPower_getF, State.nominal_setNominal _ _ hf]

theorem exec_pstateClockSwitch (hbusy : s.pBusy = true) (hswitched : s.power.switched = false)
    (hfrozen : s.frozen = false) (hhalted : s.halted = false) (hwait : s.power.waiting = []) :
    ∃ s', exec .pstateClockSwitch s = .next s' ∧
      (s'.pCurrent = s.pTarget ∧ s'.power.switched = true ∧ s'.flag RF.PWR_EVENT_PSTATE_DONE 0 0 = true ∧
        s'.pBusy = !s.power.settled ∧ (∀ f < 80, s'.getF RF.PWR_FLD_VOLT_NOMINAL f 0 = railOf s.pTarget)) := by
  have hexec : exec .pstateClockSwitch s = .next (s.clocksSwitched.raise RF.PWR_EVENT_PSTATE_DONE 0).pSettle :=
    if_neg (by simp [hbusy, hswitched, hfrozen, hhalted])
  have hmsg := s.clocksSwitched.messageOnly_raise RF.PWR_EVENT_PSTATE_DONE 0
  have hevent : (s.clocksSwitched.raise RF.PWR_EVENT_PSTATE_DONE 0).flag RF.PWR_EVENT_PSTATE_DONE 0 0 = true :=
    State.flag_raise_same _ 0 (by decide) (by decide) rfl
  generalize s.clocksSwitched.raise RF.PWR_EVENT_PSTATE_DONE 0 = t at hexec hmsg hevent
  have hpower : t.power = { s.power with switched := true } := hmsg.power.trans s.power_clocksSwitched
  have htarget : t.pTarget = s.pTarget := (hmsg.regs.getF (by decide) 0 0).trans s.pTarget_clocksSwitched
  have hcurrent : t.pCurrent = s.pTarget := (hmsg.regs.getF (by decide) 0 0).trans s.pCurrent_clocksSwitched
  have hstill : t.pBusy = true :=
    (hmsg.regs.flag (by decide) 0 0).trans (s.pBusy_clocksSwitched.trans hbusy)
  obtain ⟨hends, hcurrentKept, hpowerKept, hregs⟩ := t.pSettle_of_reached hstill (by rw [hpower, hwait])
    (fun _ => htarget.trans hcurrent.symm)
  refine ⟨_, hexec, hcurrentKept.trans hcurrent, ?_, ?_, ?_, fun f hf => ?_⟩
  · rw [hpowerKept, hpower]
  · rw [hregs.flag (by decide), hevent]
  · rw [hends, hpower, Bool.true_and]
  · rw [hregs.getF (by decide), hmsg.regs.getF (by decide), s.nominal_clocksSwitched hf]

theorem exec_pstateRailSettled (hbusy : s.pBusy = true)
    (hramp : s.power.switched = true ∨ s.pTarget < s.pCurrent) (hwait : s.power.waiting = [])
    (hreached : s.power.switched = true → s.pTarget = s.pCurrent) :
    ∃ s', exec .pstateRailSettled s = .next s' ∧
      (s'.power.settled = true ∧ s'.pBusy = !s.power.switched ∧ s'.pCurrent = s.pCurrent) := by
  have hgo : ¬ (!s.pBusy || (!s.power.switched && decide (s.pCurrent ≤ s.pTarget))) = true := by
    rcases hramp with hswitched | hup
    · simp [hbusy, hswitched]
    · simp [hbusy, Nat.not_le.mpr hup]
  obtain ⟨hends, hcurrent, hpower, -⟩ :=
    (s.modPower (fun p => { p with settled := true })).pSettle_of_reached hbusy hwait hreached
  refine ⟨_, if_neg hgo, ?_, ?_, hcurrent⟩
  · rw [hpower]
    rfl
  · rw [hends]
    exact congrArg _ (Bool.and_true _)

end

/-- Settles O33: the four field commands are one command with a target, and each end of a transition has a lemma of
its own. -/
theorem fieldAndPerformanceStates : Obligations.FieldAndPerformanceStates := by
  refine ⟨fun f s => ⟨_, rfl, s.fieldCommanded_fieldTarget f.val (by decide)⟩,
    fun f s => ⟨_, rfl, s.fieldCommanded_fieldTarget f.val (by decide)⟩,
    fun f s => ⟨_, rfl, s.fieldCommanded_fieldTarget f.val (by decide)⟩,
    fun f s => ⟨_, rfl, s.fieldCommanded_fieldTarget f.val (by decide)⟩, ?_, exec_pstateWrite, ?_, ?_⟩
  · rintro f n s ⟨hgoes, hn, hstopped, hhalted, hreqs, hoff⟩
    exact exec_fldTransitionDone hgoes hn hstopped hhalted hreqs hoff
  · rintro s ⟨hbusy, hswitched, hfrozen, hhalted, hwait⟩
    exact exec_pstateClockSwitch hbusy hswitched hfrozen hhalted hwait
  · rintro s ⟨hbusy, hramp, hwait, hreached⟩
    exact exec_pstateRailSettled hbusy hramp hwait hreached

end Sys2Proof.Machine

/-! Links against their statements (O22, O23, O24): the last live member of a port keeps its target, and a rebuild of the
routes between wafers loads HDR_ERR_TIME when it completes a request in error. -/

namespace Sys2Proof.Machine

/-! ### The last live member of a port (O22) -/

/-- Link 0 is UP with target UP (1), the last live member of port 0 (R427, R447). -/
def lastLiveMember : State :=
  (readyAt1ns.setF RF.VRN_PORTp_CTL_MEMBERS 0 0 1).setF RF.VRN_LNK_STATE_STATE 0 0 lsUp

/-- The last live member ignores a target QUIET, its TARGET included (R447). -/
theorem linkTargetQuiet_keeps_target : ∃ t, exec (.linkTargetQuiet 0) lastLiveMember = .next t ∧ t.linkTarget 0 = 1 :=
  ⟨_, rfl, by decide⟩

/-- Refutes O22: the statement has TARGET read QUIET (2) after the command, on the last live member too, which keeps the
target it had (R447). -/
theorem not_linksTrainAndGoDown : ¬ Obligations.LinksTrainAndGoDown := by
  unfold Obligations.LinksTrainAndGoDown
  rintro ⟨-, -, -, hquiet, -⟩
  obtain ⟨t, ht, htarget⟩ := linkTargetQuiet_keeps_target
  obtain ⟨s', hexec, ⟨htwo, -⟩, -⟩ := hquiet 0 lastLiveMember (by decide)
  obtain rfl : t = s' := Host.Outcome.next.inj (ht.symm.trans hexec)
  exact absurd (htarget.symm.trans htwo) (by decide)

/-! ### A route that a rebuild finds lost (O23, O24) -/

/-- A read of 8 bytes of wafer 1 by field 0, outstanding since 1 ns (R473). -/
def routedRead : Request := ⟨0, 0, ⟨0, some 0, none, false, 0#7⟩, directAddr 1 0 0 0, .read 8, .none, 1, false, none⟩

/-- Link 0 is in TEST and port 0 carries nothing, yet the spread entry of the read still maps to port 0 (R471). -/
def deadRoute : State :=
  ({ readyAt1ns with commons := { readyAt1ns.commons with reqs := [routedRead] } }.setEntry 1
    (entryOf routedRead.addr) (some 0)).enterState 0 lsTest

/-- The rebuild finds no port for the read, which completes with ROUTE_LOSS, the first error of field 0 (R92, R474,
R739). -/
theorem rebuildFabric_deadRoute_loads_errTime :
    deadRoute.rebuildFabric.rd .HDR_ERR_TIME (hdrInst .FLD_COMMONS 0) 0 ≠
      deadRoute.rd .HDR_ERR_TIME (hdrInst .FLD_COMMONS 0) 0 := by
  decide +kernel

/-- Link 0 is HELD and has sent TEST_REQ (R450). -/
def testRequested : State :=
  (deadRoute.setF RF.VRN_LNK_STATE_STATE 0 0 lsHeld).modLink 0 (fun x => { x with ctrl := some (ctrlTestReq, 0) })

/-- The answer to TEST_REQ leads into TEST; a link that was not UP leaves no port (R450). -/
theorem exec_testAckReceive {k : LinkId} {s : State} (h : (s.link k.val).ctrl.map (·.1) = some ctrlTestReq)
    (hup : s.linkState k.val ≠ lsUp) : exec (.testAckReceive k) s = .next (((s.enterState k.val lsTest).unhold
      k.val).modLink k.val (fun x => { x with ctrl := none, held := [], resend := [] })).rebuildFabric := by
  have htest : exec (.testAckReceive k) s = .next (s.enterTest k.val) := if_pos h
  rw [htest, State.enterTest, if_neg hup]

/-- A port whose mask stays takes ENABLE, and the wafer's spread entries are rebuilt (R438, R473). -/
theorem exec_portCtlWrite_same {p : PortId} {mask : BitVec 56} {s : State} (enable : Bool)
    (h : mask.toNat = s.portMask p.val) : exec (.portCtlWrite p mask enable) s =
      .next (s.setFlag RF.VRN_PORTp_CTL_ENABLE 0 p.val enable).rebuildFabric :=
  congrArg Host.Outcome.next (if_pos h)

/-- The answer takes the link into TEST and rebuilds the routes (R450, R473). -/
theorem testAckReceive_loads_errTime : loadsErrTime (.testAckReceive 0) testRequested .FLD_COMMONS 0 := by
  refine ⟨_, exec_testAckReceive (by decide) (by decide), ?_⟩
  have hsame : ((testRequested.enterState 0 lsTest).unhold 0).modLink 0
      (fun x => { x with ctrl := none, held := [], resend := [] }) = deadRoute := by decide +kernel
  have hbefore : testRequested.rd .HDR_ERR_TIME (hdrInst .FLD_COMMONS 0) 0 =
      deadRoute.rd .HDR_ERR_TIME (hdrInst .FLD_COMMONS 0) 0 := by decide
  rw [show (0 : LinkId).val = 0 from rfl, hsame, hbefore]
  exact rebuildFabric_deadRoute_loads_errTime

/-- A write of the mask that port 0 has rebuilds the routes (R438, R473). -/
theorem portCtlWrite_loads_errTime : loadsErrTime (.portCtlWrite 0 0 false) deadRoute .FLD_COMMONS 0 := by
  have hsame : deadRoute.setFlag RF.VRN_PORTp_CTL_ENABLE 0 0 false = deadRoute := by decide
  refine ⟨_, exec_portCtlWrite_same false (by decide), ?_⟩
  rw [show (0 : PortId).val = 0 from rfl, hsame]
  exact rebuildFabric_deadRoute_loads_errTime

/-- Refutes O23: the registers that TEST_ACK_RECEIVE may touch leave out HDR_ERR_TIME, which the capture of a lost route
loads (R92, R474, R739). -/
theorem not_linkFlowAndStates : ¬ Obligations.LinkFlowAndStates := by
  unfold Obligations.LinkFlowAndStates
  rintro ⟨-, -, -, -, -, -, -, -, -, -, -, -, -, htest⟩
  obtain ⟨s', hexec, -, -, hregs⟩ := htest 0 testRequested (by decide)
  exact not_onlyRegs_of_loadsErrTime testAckReceive_loads_errTime (by decide) hexec hregs

/-- Refutes O24: the registers that PORT_CTL_WRITE may touch leave out HDR_ERR_TIME, which the capture of a lost route
loads (R92, R474, R739). -/
theorem not_linkSettingsAndPatterns : ¬ Obligations.LinkSettingsAndPatterns := by
  unfold Obligations.LinkSettingsAndPatterns
  rintro ⟨-, -, -, -, -, -, -, hport, -⟩
  obtain ⟨s', hexec, -, -, hregs⟩ := hport 0 0 false deadRoute (by decide)
  exact not_onlyRegs_of_loadsErrTime portCtlWrite_loads_errTime (by decide) hexec hregs

end Sys2Proof.Machine

/-! DATA flits and fabric time (O26): what the reception of a flit and a correction of the time change, then one lemma
per command. -/

namespace Sys2Proof.Machine

/-! ### Counters and links -/

theorem State.getF_addSat_min (s : State) (x : RF) (i n k : Nat) (hx : x.lo + x.w ≤ 64) :
    (s.addSat x i n k).getF x i n = min (s.getF x i n + k) (2 ^ x.w - 1) := by
  have hpos : 0 < 2 ^ x.w := Nat.two_pow_pos x.w
  rw [s.getF_addSat_same x i n k hx, satAdd]
  split
  · rw [Nat.mod_eq_of_lt ‹_›]
    omega
  · rw [Nat.mod_eq_of_lt (by omega)]
    omega

@[simp] theorem State.addSat_link (s : State) (x : RF) (i n v k : Nat) : (s.addSat x i n v).link k = s.link k := rfl

theorem State.link_modLink_same (s : State) (k : Nat) (g : Link → Link) : (s.modLink k g).link k = g (s.link k) :=
  s.link_setLink_same k _

theorem State.link_sendAck (s : State) (k : Nat) (nak : Bool) :
    (s.sendAck k nak).link k = { s.link k with unacked := 0 } :=
  State.link_modLink_same ..

@[simp] theorem State.sendAck_getF (s : State) (k : Nat) (nak : Bool) (x : RF) (i n : Nat) :
    (s.sendAck k nak).getF x i n = s.getF x i n := rfl

/-- One NAK for each expected number; the expected number stays (R434). -/
theorem State.link_sendNak (s : State) (k : Nat) :
    ((s.sendNak k).link k).expected = (s.link k).expected ∧ ((s.sendNak k).link k).naked = true := by
  unfold State.sendNak
  split
  · next h => exact ⟨rfl, h⟩
  · rw [State.addSat_link, State.link_modLink_same, s.link_sendAck]
    exact ⟨rfl, rfl⟩

/-- A NAK counts beside the flits whose CRC failed (R434). -/
theorem State.getF_sendNak_failed (s : State) (k : Nat) :
    (s.sendNak k).getF RF.VRN_LNK_CRC_FAILED k 0 = s.getF RF.VRN_LNK_CRC_FAILED k 0 := by
  unfold State.sendNak
  split
  · rfl
  · rw [State.addSat, State.getF_setF_disjoint (f := RF.VRN_LNK_CRC_NAKS) (g := RF.VRN_LNK_CRC_FAILED) _ k 0 _ rfl
      (by decide) (by decide), State.modLink_getF, State.sendAck_getF]

/-! ### The reception of a DATA flit (R432, R434) -/

/-- A flit in sequence advances the expected number and waits to be acknowledged (R434, R435). -/
def State.sequenced (s : State) (k : Nat) : State :=
  s.modLink k (fun y => { y with
    expected := (y.expected + 1) % 65536
    naked := false
    unacked := y.unacked + 1
    ackFrom := if y.unacked = 0 then s.now else y.ackFrom })

@[simp] theorem State.sequenced_regs (s : State) (k : Nat) : (s.sequenced k).regs = s.regs := rfl

@[simp] theorem State.freeBuffer_regs (s : State) (k cls : Nat) : (s.freeBuffer k cls).regs = s.regs := rfl

theorem State.link_sequenced (s : State) (k : Nat) : (s.sequenced k).link k = { s.link k with
    expected := ((s.link k).expected + 1) % 65536
    naked := false
    unacked := (s.link k).unacked + 1
    ackFrom := if (s.link k).unacked = 0 then s.now else (s.link k).ackFrom } :=
  State.link_modLink_same ..

theorem State.link_freeBuffer (s : State) (k cls : Nat) : (s.freeBuffer k cls).link k =
    { s.link k with freed := (s.link k).freed.put 0 cls (((s.link k).freed.look 0 cls + 1) % 4096) } :=
  State.link_modLink_same ..

/-- Messages of a flit that end at this wafer. -/
def State.delivered (s : State) (k : Nat) (h : FlitHead) (msgs : List (List Byte)) : State :=
  { s with verne := { s.verne with
    inbox := s.verne.inbox ++ msgs.map (fun m => ⟨k, h.cls, h.srcWafer, h.srcRack, m⟩) } }

@[simp] theorem State.delivered_regs (s : State) (k : Nat) (h : FlitHead) (msgs : List (List Byte)) :
    (s.delivered k h msgs).regs = s.regs := rfl

theorem State.link_delivered (s : State) (k : Nat) (h : FlitHead) (msgs : List (List Byte)) (j : Nat) :
    (s.delivered k h msgs).link j = s.link j := rfl

/-- A link that is not of class O delivers each message for this wafer (R426, R432). -/
theorem State.foldl_takeMsg {k : Nat} {h : FlitHead} (msgs : List (List Byte)) {s : State}
    (hclass : s.linkClass k ≠ 3) (hme : s.forMe h = true) :
    msgs.foldl (fun (t : State) m => t.takeMsg k h m) s = s.delivered k h msgs := by
  induction msgs generalizing s with
  | nil => simp [State.delivered]
  | cons m msgs ih =>
    have htake : s.takeMsg k h m = s.delivered k h [m] := by simp [State.takeMsg, State.delivered, hclass, hme]
    rw [List.foldl_cons, htake, ih (s := s.delivered k h [m]) hclass hme]
    simp [State.delivered]

/-- A flit of another rack is not checked for membership (R453, R476). -/
theorem State.memberFilter_of_rack {s : State} {h : FlitHead} (hrack : h.srcRack ≠ s.getF RF.FAB_NUM_RACK 0 0)
    (l : List (List Byte)) : s.memberFilter h l = (s, l) := by
  simp [State.memberFilter, hrack]

theorem State.deliverFlit_of_rack {s : State} {k : Nat} {h : FlitHead} {body : List Byte} {msgs : List (List Byte)}
    (hparse : parseBody 15 body = (msgs, false)) (hrack : h.srcRack ≠ s.getF RF.FAB_NUM_RACK 0 0)
    (hfrozen : s.frozen = false) (hclass : s.linkClass k ≠ 3) (hme : s.forMe h = true) :
    s.deliverFlit k h body = (s.delivered k h msgs).freeBuffer k h.cls := by
  simp [State.deliverFlit, hparse, State.memberFilter_of_rack hrack, hfrozen, State.foldl_takeMsg msgs hclass hme]

theorem exec_dataFlitReceive_badCrc {k : LinkId} {raw : List Byte} {s : State} (hlen : raw.length = 256)
    (hcarries : carries (s.linkState k.val) = true) (hcrc : flitCrcOk raw = false) :
    exec (.dataFlitReceive k raw) s = .next ((s.addSat RF.VRN_LNK_CRC_FAILED k.val 0 1).sendNak k.val) := by
  show execDataFlitReceive k raw s = _
  simp [execDataFlitReceive, hlen, hcarries, hcrc]

section
variable {k : LinkId} {raw : List Byte} {s : State} (hlen : raw.length = 256)
  (hcarries : carries (s.linkState k.val) = true) (hcrc : flitCrcOk raw = true) (hkind : (flitHead raw).kind = 0)
  (hack : (flitHead raw).ackValid = false)
include hlen hcarries hcrc hkind hack

theorem exec_dataFlitReceive_inSequence (hseq : (flitHead raw).seq = (s.link k.val).expected) :
    exec (.dataFlitReceive k raw) s =
      .next ((s.sequenced k.val).deliverFlit k.val (flitHead raw) (raw.drop 16)) := by
  show execDataFlitReceive k raw s = _
  simp [execDataFlitReceive, State.sequenced, hlen, hcarries, hcrc, hkind, hack, hseq]

/-- A flit up to 1,024 numbers back has been delivered before (R434). -/
theorem exec_dataFlitReceive_duplicate (hseq : (flitHead raw).seq ≠ (s.link k.val).expected)
    (hback : 1 ≤ ((s.link k.val).expected + 65536 - (flitHead raw).seq) % 65536)
    (hlimit : ((s.link k.val).expected + 65536 - (flitHead raw).seq) % 65536 ≤ 1024) :
    exec (.dataFlitReceive k raw) s = .next ((s.addSat RF.VRN_LNK_DUP_COUNT k.val 0 1).sendAck k.val false) := by
  show execDataFlitReceive k raw s = _
  simp [execDataFlitReceive, hlen, hcarries, hcrc, hkind, hack, hseq, hback, hlimit]

end

/-! ### Fabric time (R479, R480) -/

theorem State.setTimeState_same {s : State} {v : Nat} (h : s.timeState = v) : s.setTimeState v = s := if_pos h

theorem State.messageOnly_setTimeState (s : State) (v : Nat) :
    State.messageOnly [.FAB_TIME_CTL, .FAB_EVENT, .HST_PORT_MSIX_DROP, .HST_PORT_EVENT] s (s.setTimeState v) := by
  unfold State.setTimeState
  split
  · exact s.messageOnly_refl _
  · exact (s.messageOnly_setF 0 0 v (by decide)).trans ((State.messageOnly_raise ..).mono (by decide))

theorem State.timeState_setTimeState (s : State) (v : Nat) :
    (s.setTimeState v).timeState = v % 2 ^ RF.FAB_TIME_CTL_TSTATE.w := by
  by_cases h : s.timeState = v
  · rw [State.setTimeState_same h, ← h]
    exact (Nat.mod_eq_of_lt (s.getF_lt ..)).symm
  · rw [State.setTimeState, if_neg h]
    exact ((State.messageOnly_raise ..).regs.getF (by decide) 0 0).trans (s.getF_setF_same _ 0 0 v (by decide))

/-- A change of the time state is an event (R480). -/
theorem State.flag_setTimeState {s : State} {v : Nat} (h : s.timeState ≠ v) :
    (s.setTimeState v).flag RF.FAB_EVENT_TIME_STATE 0 0 = true := by
  rw [State.setTimeState, if_neg h]
  exact State.flag_raise_same _ 0 (by decide) (by decide) rfl

/-- A correction touches the offset of the time and what is left to slew (R480). -/
theorem State.correct_frame (s : State) (off : Int) :
    ∃ o d, s.correct off = { s with timeOffset := o, fabric := { s.fabric with slew := d } } := by
  unfold State.correct
  split
  · exact ⟨_, _, rfl⟩
  · exact ⟨_, _, rfl⟩

/-- Without STEP_EN the time is slewed (R480). -/
theorem State.correct_of_noStep {s : State} (h : s.flag RF.FAB_TIME_CTL_STEP_EN 0 0 = false) (off : Int) :
    s.correct off = { s with fabric := { s.fabric with slew := off } } := by
  simp [State.correct, h]

theorem tcode_lt (w : Nat) (i : Int) : tcode w i < 2 ^ w := by
  have hpos : (0 : Int) < ((2 ^ w : Nat) : Int) := Int.natCast_pos.mpr (Nat.two_pow_pos w)
  exact (Int.toNat_lt (Int.emod_nonneg i hpos.ne')).mpr (Int.emod_lt_of_pos i hpos)

/-- Messages sent for each entry of a list change nothing else. -/
theorem State.foldl_out {α : Type} (l : List α) {g : State → α → State}
    (hg : ∀ t a, g t a = { t with out := (g t a).out }) (s : State) :
    l.foldl g s = { s with out := (l.foldl g s).out } := by
  induction l generalizing s with
  | nil => rfl
  | cons a l ih =>
    rw [List.foldl_cons, ih (g s a), hg s a]

/-! ### The commands of fabric time (R479–R481) -/

/-- SYNC on the lowest link of a port (R479). -/
def syncPort (t : State) (p : Nat) : State :=
  match t.liveLinks p with
  | k :: _ => if t.portOn p && !t.portHeld p then
      t.send (.link (Fin.ofNat 72 k) 0x11 [t.fabricTime, t.getF RF.VRN_LNK_RTT_RTT k 0 / 2,
        t.ownWafer, t.fabric.syncSeq]) else t
  | [] => t

theorem syncPort_frame (t : State) (p : Nat) : syncPort t p = { t with out := (syncPort t p).out } := by
  unfold syncPort
  split
  · split <;> rfl
  · rfl

theorem exec_timeSyncSend {s : State} (hjoined : s.fabState = fsJoined)
    (hmaster : s.flag RF.FAB_TIME_CTL_IS_MASTER 0 0 = true) (hdue : 100000 ≤ s.now - s.fabric.syncSent) :
    exec .timeSyncSend s = .next { s with
      fabric := { s.fabric with syncSeq := (s.fabric.syncSeq + 1) % 65536, syncSent := s.now }
      out := ((List.range 48).foldl syncPort s).out } := by
  have hsend : exec .timeSyncSend s = .next { (List.range 48).foldl syncPort s with
      fabric := { ((List.range 48).foldl syncPort s).fabric with
        syncSeq := (((List.range 48).foldl syncPort s).fabric.syncSeq + 1) % 65536
        syncSent := ((List.range 48).foldl syncPort s).now } } := if_pos ⟨hjoined, hmaster, hdue⟩
  rw [hsend, State.foldl_out _ syncPort_frame]

/-- The state once a SYNC has given the offset `off`, before the time is corrected (R480). -/
def State.synced (s : State) (off : Int) : State :=
  { s.setF RF.FAB_TIME_OFFSET_OFFSET 0 0 (tcode 32 (clampInt 32 off)) with
    fabric := { s.fabric with good := (timeNext s.timeState s.fabric.good off).2, lastSync := s.now } }

theorem exec_timeSyncReceive {k : LinkId} {tTx : Word} {corr : BitVec 32} {master : WaferId} {p : Nat} {off : Int}
    {s : State} (hjoined : s.fabState = fsJoined) (hmaster : s.flag RF.FAB_TIME_CTL_IS_MASTER 0 0 = false)
    (hfrom : master.val = s.getF RF.FAB_TIME_CTL_MASTER 0 0) (hport : s.portOfLink k.val = some p)
    (hlowest : (s.portsTo (s.getF RF.FAB_TIME_CTL_MASTER 0 0)).head? = some p)
    (hoff : off = (tTx.toNat : Int) + corr.toNat + (s.getF RF.VRN_LNK_RTT_RTT k.val 0 / 2 : Nat) - s.fabricTime) :
    exec (.timeSyncReceive k tTx corr master) s =
      .next (((s.synced off).correct off).setTimeState (timeNext s.timeState s.fabric.good off).1) := by
  subst hoff
  exact if_pos ⟨hjoined, ne_true_of_eq_false hmaster, hfrom, hport.trans hlowest.symm, by rw [hport]; rfl⟩

/-- A SYNC sets the offset, corrects the time and leads to the time state `v` (R479, R480). -/
theorem State.synced_correct_setTimeState {s s' : State} {off : Int} {v : Nat}
    (h : ((s.synced off).correct off).setTimeState v = s') :
    (s'.getF RF.FAB_TIME_OFFSET_OFFSET 0 0 = tcode 32 (clampInt 32 off) ∧ s'.fabric.lastSync = s.now ∧
      s'.fabric.good = (timeNext s.timeState s.fabric.good off).2 ∧
      s'.timeState = v % 2 ^ RF.FAB_TIME_CTL_TSTATE.w) ∧
    s' = { s with
      regs := s'.regs, fabric := s'.fabric, host := s'.host, timeOffset := s'.timeOffset, out := s'.out } ∧
    s.onlyRegs [.FAB_EVENT, .FAB_TIME_CTL, .FAB_TIME_OFFSET, .HST_PORT_EVENT, .HST_PORT_MSIX_DROP] s' := by
  obtain ⟨o, d, hcorrect⟩ := (s.synced off).correct_frame off
  rw [hcorrect] at h
  subst h
  have hstate := State.messageOnly_setTimeState
    { s.synced off with timeOffset := o, fabric := { (s.synced off).fabric with slew := d } } v
  refine ⟨⟨?_, ?_, ?_, State.timeState_setTimeState _ v⟩, ?_, ?_⟩
  · exact (hstate.regs.getF (by decide) 0 0).trans (s.getF_setF_fits 0 0 (tcode_lt ..) (by decide))
  · rw [hstate.eq]
    rfl
  · rw [hstate.eq]
    rfl
  · rw [hstate.eq]
    rfl
  · exact State.onlyRegs.trans (s.onlyRegs_setF 0 0 _ (by decide)) (hstate.regs.mono (by decide))

theorem exec_syncMissing {s : State} (hlocked : s.timeState = tsLocked)
    (hmaster : s.flag RF.FAB_TIME_CTL_IS_MASTER 0 0 = false) (hmissing : 300000 ≤ s.now - s.fabric.lastSync) :
    exec .syncMissing s =
      .next ({ s with fabric := { s.fabric with holdover := s.now, good := 0 } }.setTimeState tsHoldover) :=
  if_pos ⟨hlocked, ne_true_of_eq_false hmaster, hmissing⟩

theorem exec_holdoverExpire {s : State} (hholdover : s.timeState = tsHoldover)
    (hexpired : 10000000 ≤ s.now - s.fabric.holdover) :
    exec .holdoverExpire s = .next (s.setTimeState tsAcquiring) :=
  if_pos ⟨hholdover, hexpired⟩

/-- With no time to load and no step allowed, an edge of the pulse judges the lock and slews the time (R481). -/
theorem exec_ppsEdge {s : State} (hen : s.flag RF.FAB_TIME_CTL_PPS_EN 0 0 = true)
    (hmaster : s.flag RF.FAB_TIME_CTL_IS_MASTER 0 0 = true) (hset : s.fabric.timeSet = false)
    (hstep : s.flag RF.FAB_TIME_CTL_STEP_EN 0 0 = false) {good : Nat}
    (hgood : good = if s.secondError.natAbs ≤ 1000 then s.fabric.ppsGood + 1 else 0) :
    exec .ppsEdge s = .next { s.setFlag RF.FAB_TIME_CTL_PPS_LOCK 0 0 (decide (3 ≤ good)) with
      fabric := { s.fabric with ppsGood := min good 3, slew := s.secondError } } := by
  have hedge : exec .ppsEdge s = .next (({ s with fabric := { s.fabric with ppsGood := min good 3 } }.setFlag
      RF.FAB_TIME_CTL_PPS_LOCK 0 0 (decide (3 ≤ good))).correct s.secondError) := by
    show execPpsEdge s = _
    simp [execPpsEdge, hen, hmaster, hset, hgood]
  rw [hedge, State.correct_of_noStep]
  · rfl
  · exact (State.flag_setFlag_disjoint (f := RF.FAB_TIME_CTL_PPS_LOCK) (g := RF.FAB_TIME_CTL_STEP_EN) _ 0 0 _ rfl
      (by decide) (by decide)).trans hstep

/-- Settles O26: the three ways a DATA flit is taken, then the commands of fabric time, each by its own lemma. -/
theorem flitsAndFabricTime : Obligations.FlitsAndFabricTime := by
  refine ⟨?crc, ?duplicate, ?inSequence, ?send, ?receive, ?missing, ?expire, ?pps⟩
  case crc =>
    rintro k raw s ⟨hlen, hcarries, hcrc⟩
    obtain ⟨hexpected, hnaked⟩ := (s.addSat RF.VRN_LNK_CRC_FAILED k.val 0 1).link_sendNak k.val
    exact ⟨_, exec_dataFlitReceive_badCrc hlen hcarries hcrc,
      (State.getF_sendNak_failed ..).trans (s.getF_addSat_min _ k.val 0 1 (by decide)), hexpected, hnaked⟩
  case duplicate =>
    rintro k raw h s ⟨hlen, hcarries, hcrc, rfl, hkind, hack, hseq, hback, hlimit⟩
    refine ⟨_, exec_dataFlitReceive_duplicate hlen hcarries hcrc hkind hack hseq hback hlimit,
      s.getF_addSat_min _ k.val 0 1 (by decide), ?_, ?_, rfl⟩
    · rw [State.link_sendAck]
      rfl
    · exact List.length_append
  case inSequence =>
    rintro k raw h msgs s ⟨hlen, hcarries, hcrc, rfl, hkind, hack, hseq, hrack, hfrozen, hme, hclass, hparse⟩
    have hdeliver := State.deliverFlit_of_rack (s := s.sequenced k.val) hparse hrack hfrozen hclass hme
    refine ⟨_, exec_dataFlitReceive_inSequence hlen hcarries hcrc hkind hack hseq, ?_⟩
    rw [hdeliver, State.link_freeBuffer, State.link_delivered, State.link_sequenced]
    exact ⟨rfl, rfl, rfl, NMap.look_put_same .., rfl, by simp⟩
  case send =>
    rintro s ⟨hjoined, hmaster, hdue⟩
    exact ⟨_, exec_timeSyncSend hjoined hmaster hdue, rfl, rfl⟩
  case receive =>
    rintro k tTx corr master p off s ⟨hjoined, hmaster, hfrom, hport, hlowest, hoff⟩
    exact ⟨_, exec_timeSyncReceive hjoined hmaster hfrom hport hlowest hoff, State.synced_correct_setTimeState rfl⟩
  case missing =>
    rintro s ⟨hlocked, hmaster, hmissing⟩
    have hstate := State.messageOnly_setTimeState
      { s with fabric := { s.fabric with holdover := s.now, good := 0 } } tsHoldover
    refine ⟨_, exec_syncMissing hlocked hmaster hmissing, ⟨State.timeState_setTimeState _ _, ?_,
      State.flag_setTimeState (ne_of_eq_of_ne hlocked (by decide))⟩, ?_, hstate.regs.mono (by decide)⟩
    · rw [hstate.eq]
    · rw [hstate.eq]
  case expire =>
    rintro s ⟨hholdover, hexpired⟩
    have hstate := s.messageOnly_setTimeState tsAcquiring
    exact ⟨_, exec_holdoverExpire hholdover hexpired, ⟨State.timeState_setTimeState _ _,
      State.flag_setTimeState (ne_of_eq_of_ne hholdover (by decide))⟩, hstate.eq, hstate.regs.mono (by decide)⟩
  case pps =>
    rintro good s ⟨hen, hmaster, hset, hstep, hgood⟩
    exact ⟨_, exec_ppsEdge hen hmaster hset hstep hgood,
      ⟨s.flag_setFlag_same _ 0 0 _ (by decide) rfl, rfl, rfl⟩, rfl, s.onlyRegs_setFlag 0 0 _ (by decide)⟩

end Sys2Proof.Machine

/-! Membership and the manager's messages against their statement (O25): a REACH vector rebuilds the routes between
wafers, and the capture of a lost route loads HDR_ERR_TIME. -/

namespace Sys2Proof.Machine

/-- A REACH vector is recorded for the port of its link, and the spread entries are rebuilt (R471, R473). -/
theorem exec_reachReceive {k : LinkId} {p : Nat} {s : State} (vector : BitVec 16)
    (hport : s.portOfLink k.val = some p) : exec (.reachReceive k vector) s =
      .next (s.setF RF.FAB_REACHp_REACH 0 p vector.toNat).rebuildFabric := by
  show execReachReceive k vector s = _
  rw [execReachReceive, hport]

/-- Port 0 has link 0, which is UP, and reaches wafer 1, where field 0 has a read outstanding (R438, R471). -/
def onlyRoute : State :=
  (((({ readyAt1ns with commons := { readyAt1ns.commons with reqs := [routedRead] } }.setEntry 1
    (entryOf routedRead.addr) (some 0)).setF RF.VRN_PORTp_CTL_MEMBERS 0 0 1).setFlag RF.VRN_PORTp_CTL_ENABLE 0 0
    true).setF RF.VRN_LNK_STATE_STATE 0 0 lsUp).setF RF.FAB_REACHp_REACH 0 0 2

/-- A vector without wafer 1 leaves the read no port: it completes with ROUTE_LOSS, the first error of field 0 (R92,
R474, R739). -/
theorem reachReceive_loads_errTime : loadsErrTime (.reachReceive 0 0) onlyRoute .FLD_COMMONS 0 :=
  ⟨_, exec_reachReceive 0 (p := 0) (by decide), by decide +kernel⟩

/-- Refutes O25: the registers that REACH_RECEIVE may touch leave out HDR_ERR_TIME, which the capture of a lost route
loads (R92, R474, R739). -/
theorem not_membershipAndManager : ¬ Obligations.MembershipAndManager := by
  unfold Obligations.MembershipAndManager
  rintro ⟨-, -, hreach, -⟩
  obtain ⟨s', hexec, -, -, hregs⟩ := hreach 0 0 0 onlyRoute (by decide)
  exact not_onlyRegs_of_loadsErrTime reachReceive_loads_errTime (by decide) hexec hregs

end Sys2Proof.Machine

/-! Time on an empty queue (O50): with nothing waiting a tick is one nanosecond, and a slew in progress moves fabric
time on each 10,000th. -/

namespace Sys2Proof.Machine

/-- Without a scrub there is nothing to drop, to show or to finish (R590, R600). -/
theorem State.settleScrubs_of_none (dev : DeviceAccess) (s : State) (h : s.reeve.scrubs = []) :
    s.settleScrubs dev = s := by
  have hsame : s.modReeve (fun r => { r with scrubs := r.scrubs.map (fun (x : Scrub) => { x with
      fields := x.fields.filter (fun y => s.inService y.field) }) }) = s := by
    rw [State.modReeve, h, List.map_nil, ← h]
  simp [State.settleScrubs, State.showScrubs, h, hsame]

/-- With no scrub and no request outstanding a tick is the passing of time alone. -/
theorem tick_of_quiet {s : State} (hreqs : s.commons.reqs = []) (hscrubs : s.reeve.scrubs = []) :
    tick s = .next s.advance := by
  rw [tick, State.settleScrubs_of_none device s.advance hscrubs, State.releaseHeld_of_none device s.advance _ hreqs]

theorem step_of_quiet {s : State} (hpending : s.pending = []) (hreqs : s.commons.reqs = [])
    (hscrubs : s.reeve.scrubs = []) : step s = .next s.advance := by
  rw [step, hpending]
  exact tick_of_quiet hreqs hscrubs

/-! ### The slew of fabric time (R480) -/

/-- Between the multiples of 10,000 ns the slew waits. -/
theorem State.advance_between {s : State} (h : (s.now + 1) % 10000 ≠ 0) : s.advance = { s with now := s.now + 1 } := by
  simp [State.advance, h]

theorem State.advance_forward {s : State} (h : (s.now + 1) % 10000 = 0) (hslew : 0 < s.fabric.slew) :
    s.advance = { s with
      now := s.now + 1
      timeOffset := s.timeOffset + 1
      fabric := { s.fabric with slew := s.fabric.slew - 1 } } := by
  simp [State.advance, h, hslew]

theorem State.advance_back {s : State} (h : (s.now + 1) % 10000 = 0) (hslew : s.fabric.slew < 0) :
    s.advance = { s with
      now := s.now + 1
      timeOffset := s.timeOffset - 1
      fabric := { s.fabric with slew := s.fabric.slew + 1 } } := by
  simp [State.advance, h, hslew, not_lt.mpr hslew.le, sub_eq_add_neg]

/-- Settles O50: a step with nothing waiting is `State.advance`, taken by the sign of the slew. That time passes on an
empty queue, and that the 100 ppm of R480 are 1 ns each 10,000 ns, is log 2 (DESIGN CHOICE); that time counts in ns is
log 9 (DESIGN CHOICE). -/
theorem anEmptyQueueLetsTimePass : Obligations.AnEmptyQueueLetsTimePass := by
  intro s hpending hreqs hscrubs
  refine ⟨s.advance, step_of_quiet hpending hreqs hscrubs, rfl, ?between, ?forward, ?back, rfl⟩
  case between =>
    intro hbetween
    rw [State.advance_between hbetween]
    exact ⟨rfl, rfl⟩
  case forward =>
    intro hbeat hslew
    rw [State.advance_forward hbeat hslew]
    exact ⟨rfl, rfl⟩
  case back =>
    intro hbeat hslew
    rw [State.advance_back hbeat hslew]
    exact ⟨rfl, rfl⟩

end Sys2Proof.Machine

/-! BAR accesses and DMA (O32): a BAR read that its deadline ends leaves an error time, which the register list of O32
leaves out. -/

namespace Sys2Proof.Machine

/-- A read of 8 bytes at offset 64 through BAR2 of the physical function, received at 0 ns, whose one line no commons
answer has filled in (R503). -/
def unansweredRead : BarRead := ⟨4, 0, 64, 8, [(4, none)], false, 0⟩

/-- The read is still open 3 ms after it came. -/
def readOverdue : State :=
  { readyAt1ns with now := 3000000, host := { readyAt1ns.host with reads := [unansweredRead] } }

/-- TIMEOUT is the first error of the function's page (R504, R739). -/
theorem barReadDeadline_loads_errTime : loadsErrTime (.barReadDeadline 4) readOverdue .HST_FN 0 :=
  ⟨_, rfl, by decide⟩

/-- Refutes O32: the registers that BAR_READ_DEADLINE may touch leave out HDR_ERR_TIME, which the capture of the
TIMEOUT loads (R504, R739). -/
theorem not_hostAccessesAndDma : ¬ Obligations.HostAccessesAndDma := by
  unfold Obligations.HostAccessesAndDma
  rintro ⟨-, -, -, hdeadline, -⟩
  obtain ⟨s', hexec, -, -, hregs⟩ := hdeadline 4 unansweredRead readOverdue (by decide)
  exact not_onlyRegs_of_loadsErrTime barReadDeadline_loads_errTime (by decide) hexec hregs

end Sys2Proof.Machine

/-! The queue's front (O49), the state after reset (O53), a second freeze trigger (O54), the GPIO page's interrupt
sources (O55), a busy I2C controller (O56) and the tail of the event ring (O57). -/

namespace Sys2Proof.Machine

/-- Settles O49: `step` and `exec` agree on the command in front by definition. -/
theorem stepRunsTheFrontCommand : Obligations.StepRunsTheFrontCommand := ⟨fun _ _ _ => rfl, fun _ _ _ => rfl⟩

/-! ### The state after reset (R710, R743) -/

/-- The lifecycle fuses are the one register that the state after reset lists. -/
theorem State.rd_reset_of_ne {k : RKey} (hk : k ≠ ⟨.RVE_LIFECYCLE, 0, 0⟩) :
    State.reset.rd k.reg k.inst.val k.idx.val = k.reset := by
  rw [State.rd, rkey_val]
  exact if_neg (Ne.symm hk)

/-- Settles O53. That the lifecycle fuses read DEPLOYED is log 11 (DESIGN CHOICE). -/
theorem resetIsCold : Obligations.ResetIsCold :=
  ⟨⟨State.mem_wf_reset, State.regs_wf_reset⟩, rfl, rfl, rfl, rfl, rfl, rfl, rfl, rfl, fun _ => State.rd_reset_of_ne⟩

/-! ### A second freeze trigger (R658) -/

section
variable {s : State}

theorem State.freezeTrigger_of_standing {q : FreezeReq} (hready : s.boot.stage = .ready)
    (hstate : s.getF RF.ASY_FRZ_STAT_STATE 0 0 = 1 ∨ s.getF RF.ASY_FRZ_STAT_STATE 0 0 = 2) :
    s.freezeTrigger q = (s.setFlag RF.ASY_FRZ_STAT_MORE 0 0 true).freezeIgnored := by
  rcases hstate with h | h <;> simp [State.freezeTrigger, State.beforeClocks, hready, h]

theorem State.secondTrigger_ignored (s : State) :
    s.secondTrigger (s.setFlag RF.ASY_FRZ_STAT_MORE 0 0 true).freezeIgnored := by
  have hcount : (s.setFlag RF.ASY_FRZ_STAT_MORE 0 0 true).onlyRegs [.ASY_FRZ_IGNORED]
      (s.setFlag RF.ASY_FRZ_STAT_MORE 0 0 true).freezeIgnored := State.onlyRegs_setF _ 0 0 _ (by decide)
  have hkept {x : RF} (hreg : x.reg = .ASY_FRZ_STAT) (hw : x.lo + x.w ≤ 64)
      (hmore : x.lo + x.w ≤ RF.ASY_FRZ_STAT_MORE.lo ∨ RF.ASY_FRZ_STAT_MORE.lo + 1 ≤ x.lo) :
      (s.setFlag RF.ASY_FRZ_STAT_MORE 0 0 true).freezeIgnored.getF x 0 0 = s.getF x 0 0 :=
    (hcount.getF (by rw [hreg]; decide) 0 0).trans (s.getF_setF_disjoint 0 0 _ hreg hw hmore)
  refine ⟨?_, ?_, hkept rfl (by decide) (by decide), hkept rfl (by decide) (by decide), ?_,
    hkept rfl (by decide) (by decide), hkept rfl (by decide) (by decide), ?_, rfl⟩
  · rw [hcount.flag (by decide), s.flag_setFlag_same RF.ASY_FRZ_STAT_MORE 0 0 true (by decide) rfl]
  · rw [State.freezeIgnored, State.getF_addSat_min _ _ _ _ _ (by decide), State.setFlag,
      s.getF_setF_reg _ _ _ _ _ (by decide)]
  · exact congrArg (· == 1) (hkept (x := RF.ASY_FRZ_STAT_VIA_TAP) rfl (by decide) (by decide))
  · exact (s.onlyRegs_setFlag (f := RF.ASY_FRZ_STAT_MORE) 0 0 true (by decide)).trans (hcount.mono (by decide))

theorem State.secondTrigger_freezeTrigger {q : FreezeReq} (hready : s.boot.stage = .ready)
    (hstate : s.getF RF.ASY_FRZ_STAT_STATE 0 0 = 1 ∨ s.getF RF.ASY_FRZ_STAT_STATE 0 0 = 2) :
    s.secondTrigger (s.freezeTrigger q) := by
  rw [State.freezeTrigger_of_standing hready hstate]
  exact s.secondTrigger_ignored

end

/-- Settles O54: each trigger is `State.freezeTrigger` once its own conditions hold. -/
theorem secondFreezeTriggerOnlyCounts : Obligations.SecondFreezeTriggerOnlyCounts := by
  intro s hready hstate
  refine ⟨⟨_, rfl, State.secondTrigger_freezeTrigger hready hstate⟩, fun hsaving hpin htest => ?pin,
    fun w id epoch hok => ?message, fun hopen => ?tap⟩
  case pin =>
    have htest' : (decide (s.getF RF.BIS_STAT_STATE 0 0 = 2) && decide (s.getF RF.BIS_STAT_TEST 0 0 = 2)) = false :=
      htest
    refine ⟨_, ?_, State.secondTrigger_freezeTrigger (q := ⟨1, false, 0, 0⟩) hready hstate⟩
    show execFreezePin s = _
    rw [execFreezePin, hsaving, hpin, htest', hready]
    rfl
  case message =>
    exact ⟨_, if_pos hok, State.secondTrigger_freezeTrigger hready hstate⟩
  case tap =>
    refine ⟨_, ?_, State.secondTrigger_freezeTrigger (s := s.tapMode 0) (q := ⟨2, true, 0, 0⟩) hready hstate⟩
    show execTapFreeze true s = _
    rw [execTapFreeze, State.tapGate, if_pos hopen]
    rfl

/-! ### The GPIO page's interrupt sources (R778) -/

theorem State.view_irqStat_gpio (s : State) (k : Nat) :
    s.view k .HDR_IRQ_STAT (hdrInst .GPIO 0) 0 =
      w64 (2 * b2n (decide (s.rd .GPIO_IRQ_STAT 0 0 ≠ 0#64)) + 4 * b2n (s.pageWriteErr .GPIO 0)) := by
  have hstat : s.irqStat .GPIO 0 =
      2 * b2n (decide (s.rd .GPIO_IRQ_STAT 0 0 ≠ 0#64)) + 4 * b2n (s.pageWriteErr .GPIO 0) :=
    congrArg (· + _) (Nat.zero_add _)
  rw [← hstat]
  rfl

/-- Settles O55: EVENT and ERR are bits of `State.view_irqStat_gpio`, and a write of GPIO_STAT changes none of the
registers that the page's status and line read. -/
theorem gpioPageEventAndCapture : Obligations.GpioPageEventAndCapture := by
  intro s k
  refine ⟨?event, fun lock cmd => ?line, rfl, ?err⟩
  case event =>
    rw [s.view_irqStat_gpio k]
    cases decide (s.rd .GPIO_IRQ_STAT 0 0 ≠ 0#64) <;> cases s.pageWriteErr .GPIO 0 <;> decide
  case err =>
    rw [s.view_irqStat_gpio k]
    cases decide (s.rd .GPIO_IRQ_STAT 0 0 ≠ 0#64) <;> cases s.pageWriteErr .GPIO 0 <;> decide
  case line =>
    intro t
    have hregs : s.onlyRegs [.GPIO_STAT] t :=
      (s.onlyRegs_setFlag (f := RF.GPIO_STAT_LOCK_ERR) 0 0 lock (by decide)).trans
        (State.onlyRegs_setFlag _ (f := RF.GPIO_STAT_CMD_ERR) 0 0 cmd (by decide))
    have hframe : t = { s with regs := t.regs } := rfl
    clear_value t
    have hevent := hregs .GPIO_IRQ_STAT 0 0 (by decide)
    have herr : t.pageWriteErr .GPIO 0 = s.pageWriteErr .GPIO 0 := hregs.flag (by decide) _ 0
    have hen := hregs .HDR_IRQ_EN (hdrInst .GPIO 0) 0 (by decide)
    have hmask (j : Nat) : t.getF RF.WFR_IRQ_PMASKk_MASK 0 j = s.getF RF.WFR_IRQ_PMASKk_MASK 0 j :=
      hregs.getF (by decide) 0 j
    have hup : t.pageUp .GPIO = s.pageUp .GPIO := by rw [hframe]; rfl
    refine ⟨by rw [t.view_irqStat_gpio, s.view_irqStat_gpio, hevent, herr], ?_⟩
    show (!t.slotMasked _ && t.pageLine .GPIO 0) = (!s.slotMasked _ && s.pageLine .GPIO 0)
    simp only [State.slotMasked, State.pageLine, State.pageErr, State.pageEvent, hmask, hup, herr, hen,
      show (Page.info .GPIO).errReg = none from rfl, show (Page.info .GPIO).eventReg = some .GPIO_IRQ_STAT from rfl,
      hevent]

/-! ### I2C transfers (R708) -/

theorem State.i2cGo_of_busy {s : State} {n : Nat} (h : s.flag RF.GPIO_I2Cn_BUSY 0 n = true) (addr : Nat) (read : Bool)
    (len : Nat) : s.i2cGo n addr read len = s.gpioErr := if_pos h

theorem State.flag_gpioErr (s : State) : s.gpioErr.flag RF.GPIO_STAT_CMD_ERR 0 0 = true :=
  s.flag_setFlag_same RF.GPIO_STAT_CMD_ERR 0 0 true (by decide) rfl

theorem State.onlyRegs_gpioErr (s : State) : s.onlyRegs [.GPIO_STAT] s.gpioErr :=
  s.onlyRegs_setFlag (f := RF.GPIO_STAT_CMD_ERR) 0 0 true (by decide)

/-- A refused transfer ends: BUSY clears and NACK is set. -/
def State.i2cRefused (s : State) (n : Nat) : State :=
  (s.setFlag RF.GPIO_I2Cn_BUSY 0 n false).setFlag RF.GPIO_I2Cn_NACK 0 n true

theorem exec_i2cDone_of_nack {s : State} {n : Fin 2} (h : s.flag RF.GPIO_I2Cn_BUSY 0 n.val = true) (data : Word) :
    exec (.i2cDone n true data) s = .next (s.i2cRefused n.val) :=
  if_neg (by rw [h]; decide)

theorem State.busy_i2cRefused (s : State) (n : Nat) : (s.i2cRefused n).flag RF.GPIO_I2Cn_BUSY 0 n = false := by
  rw [State.i2cRefused, State.flag_setFlag_disjoint (f := RF.GPIO_I2Cn_NACK) (g := RF.GPIO_I2Cn_BUSY) _ 0 n true rfl
    (by decide) (by decide)]
  exact s.flag_setFlag_same RF.GPIO_I2Cn_BUSY 0 n false (by decide) rfl

theorem State.nack_i2cRefused (s : State) (n : Nat) : (s.i2cRefused n).flag RF.GPIO_I2Cn_NACK 0 n = true :=
  State.flag_setFlag_same _ RF.GPIO_I2Cn_NACK 0 n true (by decide) rfl

theorem State.onlyRegs_i2cRefused (s : State) (n : Nat) : s.onlyRegs [.GPIO_I2Cn] (s.i2cRefused n) :=
  (s.onlyRegs_setFlag (f := RF.GPIO_I2Cn_BUSY) 0 n false (by decide)).trans
    (State.onlyRegs_setFlag _ (f := RF.GPIO_I2Cn_NACK) 0 n true (by decide))

/-- Settles O56: a start while BUSY is `State.gpioErr`, a refused end `State.i2cRefused`. -/
theorem busyI2cAndNack : Obligations.BusyI2cAndNack := by
  intro n s hbusy
  refine ⟨fun hserve addr read len => ⟨s.gpioErr, ?_, s.flag_gpioErr, s.onlyRegs_gpioErr, rfl⟩, fun data =>
    ⟨_, exec_i2cDone_of_nack hbusy data, s.nack_i2cRefused n.val, s.busy_i2cRefused n.val,
      s.onlyRegs_i2cRefused n.val, rfl⟩⟩
  show execI2cGo n addr read len s = _
  rw [execI2cGo, if_pos hserve, State.i2cGo_of_busy hbusy]

/-! ### The tail of the event ring (R764, R782) -/

theorem leNat_leBytes (n v : Nat) : leNat (leBytes n v) = v % 256 ^ n := by
  induction n generalizing v with
  | zero => rw [pow_zero, Nat.mod_one]; rfl
  | succ n ih =>
    rw [leBytes, leNat, ih, BitVec.toNat_ofNat, pow_succ' 256, Nat.mod_mul]

theorem exec_evtTailWrite {s : State} {v : Nat} (hready : s.boot.stage = .ready) (hv : v < 32) :
    exec (.registerWrite (.wctl (.wafer 2) 0x080#12) (.write (leBytes 8 v))) s =
      .next (s.evtTailWrite (w64 v)).dropLines := by
  have hup : s.pageUp .WFR_FIELDS = true := by
    show decide (stageRank s.boot.stage = 9) = true
    rw [hready]
    rfl
  have hword : leNat (leBytes 8 v) = v := by rw [leNat_leBytes, Nat.mod_eq_of_lt (by omega)]
  have hplace : s.innerAccess .wctl (.wafer 2) 0x080 (.write (leBytes 8 v)) =
      s.pageWrite .wctl .WFR_FIELDS 0 0x080 (leBytes 8 v) :=
    if_pos ⟨.inr rfl, congrArg (0x080 % ·) (show (leBytes 8 v).length = 8 from rfl)⟩
  have hwrite : s.pageWrite .wctl .WFR_FIELDS 0 0x080 (leBytes 8 v) =
      (s.evtTailWrite (w64 (leNat (leBytes 8 v)))).dropLines := by
    rw [State.pageWrite, hup]
    rfl
  rw [hword] at hwrite
  exact congrArg Host.Outcome.next (hplace.trans hwrite)

/-- Settles O57: the write is `State.evtTailWrite`, which chooses between the value and HEAD. -/
theorem eventTailBeyondHead : Obligations.EventTailBeyondHead := by
  intro s v hready hv
  have hbits : bits (w64 v) 0 5 = v := by
    simp only [bits, nbits, w64, BitVec.toNat_ofNat]
    omega
  refine ⟨_, exec_evtTailWrite hready hv, ?_, ?_, s.onlyRegs_setF (f := RF.WFR_FLD_EVT_TAIL_TAIL) 0 0 _ (by decide), rfl⟩
  · have hhead := s.getF_lt RF.WFR_FLD_EVT_HEAD_HEAD 0 0
    refine Eq.trans (State.getF_setF_fits s (x := RF.WFR_FLD_EVT_TAIL_TAIL) 0 0 ?_ (by decide)) ?_
    · rw [hbits]
      split
      · exact hv
      · exact hhead
    · rw [hbits]
  · exact s.getF_setF_reg (f := RF.WFR_FLD_EVT_TAIL_TAIL) 0 0 0 0 _ (by decide)

end Sys2Proof.Machine

/-! MCTP and PLDM requests (O46): what a good packet gets, and one answer per request. -/

namespace Sys2Proof.Machine

section
variable {s : State}

/-! ### Packets (R700) -/

theorem State.mctp_good (hserve : s.pinsServe = true) {g : State → State × List Nat} {t : State} {l : List Nat}
    (hg : g s = (t, l)) : s.mctp true g = t.send (.smbus (l.map (fun x => BitVec.ofNat 8 x))) := by
  rw [State.mctp, hserve, hg]
  rfl

theorem State.mctp_bad (hserve : s.pinsServe = true) (g : State → State × List Nat) :
    s.mctp false g = s.addSat RF.HRT_SMB_STAT_PEC 0 0 1 := by
  rw [State.mctp, hserve]
  rfl

section
variable {c : Instr} {g : State → State × List Nat} {l : List Nat}

/-- A request answered from the state as it stands. -/
theorem State.mctp_answers (hserve : s.pinsServe = true) (hc : exec c s = .next (s.mctp true g)) (hg : g s = (s, l)) :
    ∃ s', exec c s = .next s' ∧ s'.out = s.out ++ [.smbus (l.map (fun x => BitVec.ofNat 8 x))] ∧
      s' = { s with regs := s'.regs, out := s'.out } ∧ s.onlyRegs [.HRT_SMB_STAT] s' := by
  rw [hc, State.mctp_good hserve hg]
  exact ⟨_, rfl, rfl, rfl, s.onlyRegs_refl _⟩

/-- A request whose answer takes a serial number for values the spec leaves open. -/
theorem State.mctp_answers_fresh (hserve : s.pinsServe = true) (hc : exec c s = .next (s.mctp true g))
    (hg : g s = (s.fresh.2, l)) :
    ∃ s', exec c s = .next s' ∧ s'.out = s.out ++ [.smbus (l.map (fun x => BitVec.ofNat 8 x))] ∧
      s' = { s with serial := s'.serial, regs := s'.regs, out := s'.out } ∧ s.onlyRegs [.HRT_SMB_STAT] s' := by
  rw [hc, State.mctp_good hserve hg]
  exact ⟨_, rfl, rfl, rfl, s.onlyRegs_refl _⟩

/-- An answer that the spec leaves to PLDM. -/
theorem State.mctp_pldmFree (hserve : s.pinsServe = true)
    (hc : exec c s = .next (s.mctp true (fun t => t.pldmFree))) :
    ∃ s', exec c s = .next s' ∧ (∃ l, s'.out = s.out ++ [.smbus (0#8 :: l)]) ∧
      s' = { s with serial := s'.serial, regs := s'.regs, out := s'.out } ∧ s.onlyRegs [.HRT_SMB_STAT] s' := by
  obtain ⟨s', hexec, hout, hframe⟩ := State.mctp_answers_fresh hserve hc rfl
  exact ⟨s', hexec, ⟨_, hout⟩, hframe⟩

end

/-- Bytes taken as numbers stand as bytes in the answer. -/
theorem map_ofNat_toNat_of {α : Type} (f : α → Byte) (l : List α) :
    (l.map (fun a => (f a).toNat)).map (fun x => BitVec.ofNat 8 x) = l.map f := by
  rw [List.map_map]
  exact List.map_congr_left fun a _ => (BitVec.ofNat_toNat 8 (f a)).trans (BitVec.setWidth_eq _)

theorem map_ofNat_toNat (l : List Byte) : (l.map (·.toNat)).map (fun x => BitVec.ofNat 8 x) = l :=
  (map_ofNat_toNat_of id l).trans l.map_id

/-! ### Endpoint id (R701) -/

theorem exec_mctpSetEndpointId_taken (hserve : s.pinsServe = true) {eid : BitVec 8} (h0 : eid ≠ 0#8)
    (h1 : eid ≠ 0xFF#8) : ∃ s', exec (.mctpSetEndpointId true eid) s = .next s' ∧
      (s'.getF RF.HRT_SMB_STAT_EID 0 0 = eid.toNat ∧ s.mctpAnswered [0x00, eid.toNat] s' = true) ∧
      s' = { s with regs := s'.regs, out := s'.out } ∧ s.onlyRegs [.HRT_SMB_STAT] s' := by
  refine ⟨_, congrArg Host.Outcome.next (State.mctp_good hserve (if_neg (by simp [h0, h1]))), ⟨?_, ?_⟩, rfl,
    s.onlyRegs_setF (f := RF.HRT_SMB_STAT_EID) 0 0 _ (by decide)⟩
  · exact s.getF_setF_fits (x := RF.HRT_SMB_STAT_EID) 0 0 eid.isLt (by decide)
  · exact decide_eq_true rfl

theorem exec_mctpSetEndpointId_refused (hserve : s.pinsServe = true) {eid : BitVec 8}
    (h : eid = 0#8 ∨ eid = 0xFF#8) : ∃ s', exec (.mctpSetEndpointId true eid) s = .next s' ∧
      (s'.getF RF.HRT_SMB_STAT_EID 0 0 = s.getF RF.HRT_SMB_STAT_EID 0 0 ∧ s'.getF RF.HRT_SMB_STAT_MALFORMED 0 0 =
        min (s.getF RF.HRT_SMB_STAT_MALFORMED 0 0 + 1) (2 ^ RF.HRT_SMB_STAT_MALFORMED.w - 1)) ∧
      s' = { s with regs := s'.regs, out := s'.out } ∧ s.onlyRegs [.HRT_SMB_STAT] s' :=
  ⟨_, congrArg Host.Outcome.next (State.mctp_good hserve (if_pos h)),
    ⟨s.getF_setF_disjoint (f := RF.HRT_SMB_STAT_MALFORMED) 0 0 _ rfl (by decide) (by decide),
      s.getF_addSat_min RF.HRT_SMB_STAT_MALFORMED 0 0 1 (by decide)⟩,
    rfl, s.onlyRegs_setF (f := RF.HRT_SMB_STAT_MALFORMED) 0 0 _ (by decide)⟩

theorem exec_mctpGetEndpointId_dropped (hserve : s.pinsServe = true) :
    ∃ s', exec (.mctpGetEndpointId false) s = .next s' ∧
      (s'.out = s.out ∧ s'.getF RF.HRT_SMB_STAT_PEC 0 0 =
        min (s.getF RF.HRT_SMB_STAT_PEC 0 0 + 1) (2 ^ RF.HRT_SMB_STAT_PEC.w - 1)) ∧
      s' = { s with regs := s'.regs, out := s'.out } ∧ s.onlyRegs [.HRT_SMB_STAT] s' :=
  ⟨_, congrArg Host.Outcome.next (State.mctp_bad hserve _),
    ⟨rfl, s.getF_addSat_min RF.HRT_SMB_STAT_PEC 0 0 1 (by decide)⟩, rfl,
    s.onlyRegs_setF (f := RF.HRT_SMB_STAT_PEC) 0 0 _ (by decide)⟩

/-- The UUID ends with the unit identity; its first 8 bytes are free. -/
theorem exec_mctpGetEndpointUuid (hserve : s.pinsServe = true) :
    ∃ s', exec (.mctpGetEndpointUuid true) s = .next s' ∧
      (∃ l, l.length = 8 ∧ s'.out = s.out ++ [.smbus (0#8 :: l ++ leBytes 8 Config.unitIdentity.toNat)]) ∧
      s' = { s with serial := s'.serial, regs := s'.regs, out := s'.out } ∧ s.onlyRegs [.HRT_SMB_STAT] s' := by
  obtain ⟨s', hexec, hout, hframe⟩ := State.mctp_answers_fresh hserve (c := .mctpGetEndpointUuid true) rfl rfl
  refine ⟨s', hexec, ⟨(List.range 8).map (Config.freeByte s.serial), by simp, ?_⟩, hframe⟩
  rwa [List.map_append, List.map_cons, map_ofNat_toNat, map_ofNat_toNat_of] at hout

/-! ### PLDM (R702) -/

theorem exec_pldmSetTid (hserve : s.pinsServe = true) (tid : BitVec 8) :
    ∃ s', exec (.pldmSetTid true tid) s = .next s' ∧
      (s'.pins = { s.pins with tid := tid.toNat } ∧ s.mctpAnswered [0x00] s' = true) ∧
      s' = { s with regs := s'.regs, pins := s'.pins, out := s'.out } ∧ s.onlyRegs [.HRT_SMB_STAT] s' :=
  ⟨_, congrArg Host.Outcome.next (State.mctp_good hserve rfl), ⟨rfl, decide_eq_true rfl⟩, rfl, s.onlyRegs_refl _⟩

theorem exec_pldmGetVersion (hserve : s.pinsServe = true) (type_ : BitVec 8) :
    ∃ s', exec (.pldmGetVersion true type_) s = .next s' ∧
      ((pldmType type_.toNat = true → ∃ l, l.length = 4 ∧ s'.out = s.out ++ [.smbus (0#8 :: l)]) ∧
        (pldmType type_.toNat = false → s.mctpAnswered [0x83] s' = true)) ∧
      s' = { s with serial := s'.serial, regs := s'.regs, out := s'.out } ∧ s.onlyRegs [.HRT_SMB_STAT] s' := by
  cases htype : pldmType type_.toNat with
  | true =>
    obtain ⟨s', hexec, hout, hframe⟩ := State.mctp_answers_fresh hserve (c := .pldmGetVersion true type_) rfl (if_pos htype)
    refine ⟨s', hexec, ⟨fun _ => ⟨(List.range 4).map (Config.freeByte s.serial), by simp, hout.trans ?_⟩, by simp⟩,
      hframe⟩
    simp
  | false =>
    obtain ⟨s', hexec, hout, hframe⟩ := State.mctp_answers_fresh hserve (c := .pldmGetVersion true type_) rfl (if_neg (by simp [htype]))
    exact ⟨s', hexec, ⟨by simp, fun _ => decide_eq_true hout⟩, hframe⟩

theorem exec_pldmGetCommands (hserve : s.pinsServe = true) (type_ : BitVec 8) :
    ∃ s', exec (.pldmGetCommands true type_) s = .next s' ∧
      ((pldmType type_.toNat = true →
          s'.out = s.out ++ [.smbus (0#8 :: leBytes 32 (listMask (pldmCommands type_.toNat)))]) ∧
        (pldmType type_.toNat = false → s.mctpAnswered [0x83] s' = true)) ∧
      s' = { s with regs := s'.regs, out := s'.out } ∧ s.onlyRegs [.HRT_SMB_STAT] s' := by
  cases htype : pldmType type_.toNat with
  | true =>
    obtain ⟨s', hexec, hout, hframe⟩ := State.mctp_answers hserve (c := .pldmGetCommands true type_) rfl (if_pos htype)
    rw [List.map_cons, map_ofNat_toNat] at hout
    exact ⟨s', hexec, ⟨fun _ => hout, by simp⟩, hframe⟩
  | false =>
    obtain ⟨s', hexec, hout, hframe⟩ := State.mctp_answers hserve (c := .pldmGetCommands true type_) rfl (if_neg (by simp [htype]))
    exact ⟨s', hexec, ⟨by simp, fun _ => decide_eq_true hout⟩, hframe⟩

/-- No group is valid before the first roll (R691). -/
theorem State.sensorAnswer_of_empty (h : s.pins.mirror = []) (g v : Nat) :
    s.sensorAnswer (some (g, v)) = [0x00, 0x02] := by
  simp [State.sensorAnswer, State.groupValid, h]

theorem State.sensorAnswer_of_valid {g : Nat} (h : s.groupValid g = true) (v : Nat) :
    s.sensorAnswer (some (g, v)) = 0x00 :: (leBytes 8 v).map (·.toNat) :=
  if_pos h

theorem State.sensor_isSome {n : Nat} (h1 : 1 ≤ n) (h8 : n ≤ 8) : ∃ g v, s.sensor n = some (g, v) := by
  interval_cases n <;> exact ⟨_, _, rfl⟩

theorem State.stateSensor_isSome {n : Nat} (h1 : 20 ≤ n) (h8 : n ≤ 25) : ∃ g v, s.stateSensor n = some (g, v) := by
  interval_cases n <;> exact ⟨_, _, rfl⟩

theorem State.sensor_none {n : Nat} (h : n = 0 ∨ 9 ≤ n) : s.sensor n = none := by
  unfold State.sensor
  split <;> grind

end

/-- Settles O46: each request answers a list of bytes, by one of the lemmas on what a good packet gets. The numeric
codes are log 181 (PRESUMED). -/
theorem mctpAndPldmAnswers : Obligations.MctpAndPldmAnswers := by
  unfold Obligations.MctpAndPldmAnswers
  refine ⟨?setEid, ?badEid, ?getEid, ?badPec, ?uuid, ?version, ?types, ?vendor, ?tid, ?setTid, ?pldmVersion,
    ?pldmTypes, ?commands, ?repo, ?pdr, ?power, ?noSensor, ?badSensor, ?timeSensor, ?noState, ?metadata, ?table⟩
  case setEid =>
    rintro _ eid s ⟨hserve, rfl, h0, h1⟩
    exact exec_mctpSetEndpointId_taken hserve h0 h1
  case badEid =>
    rintro _ eid s ⟨hserve, rfl, h⟩
    exact exec_mctpSetEndpointId_refused hserve h
  case getEid =>
    rintro _ s ⟨hserve, rfl⟩
    simpa only [State.mctpAnswered, decide_eq_true_eq] using
      State.mctp_answers hserve (c := .mctpGetEndpointId true) rfl rfl
  case badPec =>
    rintro _ s ⟨hserve, rfl⟩
    exact exec_mctpGetEndpointId_dropped hserve
  case uuid =>
    rintro _ s ⟨hserve, rfl⟩
    exact exec_mctpGetEndpointUuid hserve
  case version =>
    rintro _ s ⟨hserve, rfl⟩
    simpa only [State.mctpAnswered, decide_eq_true_eq] using
      State.mctp_answers hserve (c := .mctpGetVersionSupport true) rfl rfl
  case types =>
    rintro _ s ⟨hserve, rfl⟩
    simpa only [State.mctpAnswered, decide_eq_true_eq] using
      State.mctp_answers hserve (c := .mctpGetMsgTypeSupport true) rfl rfl
  case vendor =>
    rintro _ s ⟨hserve, rfl⟩
    simpa only [State.mctpAnswered, decide_eq_true_eq] using
      State.mctp_answers hserve (c := .mctpGetVendorSupport true) rfl rfl
  case tid =>
    rintro _ s ⟨hserve, rfl⟩
    simpa only [State.mctpAnswered, decide_eq_true_eq] using
      State.mctp_answers hserve (c := .pldmGetTid true) rfl rfl
  case setTid =>
    rintro _ tid s ⟨hserve, rfl⟩
    exact exec_pldmSetTid hserve tid
  case pldmVersion =>
    rintro _ type_ s ⟨hserve, rfl⟩
    exact exec_pldmGetVersion hserve type_
  case pldmTypes =>
    rintro _ s ⟨hserve, rfl⟩
    simpa only [State.mctpAnswered, decide_eq_true_eq] using
      State.mctp_answers hserve (c := .pldmGetTypes true) rfl rfl
  case commands =>
    rintro _ type_ s ⟨hserve, rfl⟩
    exact exec_pldmGetCommands hserve type_
  case repo =>
    rintro _ s ⟨hserve, rfl⟩
    exact State.mctp_pldmFree hserve rfl
  case pdr =>
    rintro _ record s ⟨hserve, rfl⟩
    exact State.mctp_pldmFree hserve rfl
  case power =>
    rintro _ _ s ⟨hserve, rfl, rfl, hvalid⟩
    have h := State.mctp_answers hserve (c := .pldmGetSensorReading true 2#16) rfl
      (congrArg (Prod.mk s) (State.sensorAnswer_of_valid hvalid (s.mirrorWord 0x085)))
    rwa [List.map_cons, map_ofNat_toNat] at h
  case noSensor =>
    rintro _ id s ⟨hserve, rfl, h1, h8, hempty⟩
    obtain ⟨g, v, hsensor⟩ := s.sensor_isSome h1 h8
    simpa only [State.mctpAnswered, decide_eq_true_eq] using
      State.mctp_answers hserve (c := .pldmGetSensorReading true id) rfl
        (congrArg (Prod.mk s) ((congrArg s.sensorAnswer hsensor).trans (State.sensorAnswer_of_empty hempty g v)))
  case badSensor =>
    rintro _ id s ⟨hserve, rfl, h⟩
    have hnone : s.sensor id.toNat = none := State.sensor_none (h.imp_left fun e => by rw [e]; rfl)
    simpa only [State.mctpAnswered, decide_eq_true_eq] using
      State.mctp_answers hserve (c := .pldmGetSensorReading true id) rfl
        (l := [0x80]) (congrArg (Prod.mk s) (congrArg s.sensorAnswer hnone))
  case timeSensor =>
    rintro _ _ s ⟨hserve, rfl, rfl, hvalid⟩
    have h := State.mctp_answers hserve (c := .pldmGetStateSensors true 23#16) rfl
      (congrArg (Prod.mk s) (State.sensorAnswer_of_valid hvalid (s.mirrorWord 0x0A2 % 8)))
    rwa [List.map_cons, map_ofNat_toNat] at h
  case noState =>
    rintro _ id s ⟨hserve, rfl, h1, h8, hempty⟩
    obtain ⟨g, v, hsensor⟩ := s.stateSensor_isSome h1 h8
    simpa only [State.mctpAnswered, decide_eq_true_eq] using
      State.mctp_answers hserve (c := .pldmGetStateSensors true id) rfl
        (congrArg (Prod.mk s) ((congrArg s.sensorAnswer hsensor).trans (State.sensorAnswer_of_empty hempty g v)))
  case metadata =>
    rintro _ s ⟨hserve, rfl⟩
    exact State.mctp_pldmFree hserve rfl
  case table =>
    rintro _ s ⟨hserve, rfl⟩
    obtain ⟨s', hexec, hout, hframe⟩ := State.mctp_answers hserve (c := .pldmGetFruTable true) rfl rfl
    rw [List.map_append, List.map_append, List.map_cons, map_ofNat_toNat, map_ofNat_toNat] at hout
    refine ⟨s', hexec, hout.trans ?_, hframe⟩
    simp

end Sys2Proof.Machine

/-! The crier bus, its mailbox and the mirror (O43). -/

namespace Sys2Proof.Machine

section
variable {s : State}

/-! ### Reads (R687, R688) -/

/-- The word a crier read gives: word 0 of a group comes from the mirror, another word from the latch of its group. -/
def State.crierWord (s : State) (w : Nat) : Nat :=
  if w % 4 = 0 then s.mirrorWord w
  else match s.pins.latch with
    | some (g, l) => if g = w / 4 then l.getD (w % 4) 0 else s.mirrorWord w
    | none => s.mirrorWord w

/-- What a read leaves in the latch. -/
def State.crierLatch (s : State) (w : Nat) : Option (Nat × List Nat) :=
  if w % 4 = 0 then some (w / 4, (List.range 4).map (fun i => s.mirrorWord (4 * (w / 4) + i))) else s.pins.latch

theorem State.crierRead_eq (s : State) (w : Nat) : s.crierRead w =
    ((s.addWrap RF.CRI_READS_COUNT 0 0 1).modPins (fun p => { p with latch := s.crierLatch w })).send
      (.crier (if s.flag RF.CRI_CTL_BUS_EN 0 0 then some (s.crierWord w) else none)) := by
  have hgroup : 4 * (w / 4) + w % 4 = w := Nat.div_add_mod w 4
  by_cases hw : w % 4 = 0
  · have hlow : 4 * (w / 4) = w := by omega
    simp [State.crierRead, State.crierLatch, State.crierWord, hw, hlow, State.modPins]
  · simp only [State.crierRead, State.crierLatch, State.crierWord, hw, if_false]
    rfl

theorem State.onlyRegs_crierRead (s : State) (w : Nat) : s.onlyRegs [.CRI_READS] (s.crierRead w) := by
  rw [s.crierRead_eq w]
  exact s.onlyRegs_addWrap (f := RF.CRI_READS_COUNT) 0 0 1 (by decide)

theorem State.count_crierRead (s : State) (w : Nat) :
    (s.crierRead w).getF RF.CRI_READS_COUNT 0 0 = wrapAdd 48 (s.getF RF.CRI_READS_COUNT 0 0) 1 := by
  rw [s.crierRead_eq w]
  exact s.getF_addWrap_same RF.CRI_READS_COUNT 0 0 1 (by decide)

theorem exec_crierRead (hserve : s.pinsServe = true) (addr : BitVec 12) :
    exec (.crierRead addr) s = .next (s.crierRead addr.toNat) := congrArg Host.Outcome.next (if_pos hserve)

theorem exec_crierRead_unserved (hserve : s.pinsServe = false) (addr : BitVec 12) :
    exec (.crierRead addr) s = .next (s.send (.crier none)) := congrArg Host.Outcome.next (if_neg (by simp [hserve]))

/-! ### Writes (R689, R775) -/

theorem exec_crierWrite (hserve : s.pinsServe = true) (addr : BitVec 12) (data : BitVec 16) :
    exec (.crierWrite addr data false) s = .next (s.crierWrite addr.toNat data.toNat) :=
  if_neg (by simp [hserve])

theorem exec_crierWrite_badCycle (hserve : s.pinsServe = true) (addr : BitVec 12) (data : BitVec 16) :
    exec (.crierWrite addr data true) s =
      .next ((s.crierRead addr.toNat).addSat RF.CRI_STAT_BAD_CYCLE 0 0 1) :=
  if_neg (by simp [hserve])

theorem State.crierWrite_window {w : Nat} (hen : s.flag RF.CRI_CTL_MBX_EN 0 0 = true) (hlo : 0xF00 ≤ w) (hhi : w < 0xF07)
    (data : Nat) : s.crierWrite w data = s.modPins (fun p => { p with window := p.window.put 0 (w - 0xF00) data }) := by
  rw [State.crierWrite, if_neg (by simp [hen]; omega), if_neg (by omega)]

theorem State.crierWrite_post (hen : s.flag RF.CRI_CTL_MBX_EN 0 0 = true) (data : Nat) :
    s.crierWrite 0xF07 data = s.mailboxPost data := by
  rw [State.crierWrite, if_neg (by simp [hen]), if_pos rfl]

theorem State.crierWrite_bad {w : Nat} (h : w < 0xF00 ∨ 0xF07 < w ∨ s.flag RF.CRI_CTL_MBX_EN 0 0 = false) (data : Nat) :
    s.crierWrite w data = s.addSat RF.CRI_STAT_BAD_WRITE 0 0 1 := if_pos h

theorem exec_crierMailboxPost (hserve : s.pinsServe = true) (hen : s.flag RF.CRI_CTL_MBX_EN 0 0 = true)
    (data : BitVec 16) : exec (.crierMailboxPost data) s = .next (s.mailboxPost data.toNat) :=
  congrArg Host.Outcome.next ((if_pos hserve).trans (State.crierWrite_post hen _))

/-! ### The mailbox queue (R693) -/

theorem State.sbFlush_of_empty (h : s.pins.queue = []) (n : Nat) : s.sbFlush n = s := by
  cases n with
  | zero => rfl
  | succ n => rw [State.sbFlush, h]

theorem State.sbFlush_of_standing {w : List Nat} {r : List (List Nat)} (hq : s.pins.queue = w :: r)
    (h : sbWellFormed w = true ∨ s.sbRuns = false) (n : Nat) : s.sbFlush n = s := by
  cases n with
  | zero => rfl
  | succ n =>
    rw [State.sbFlush, hq]
    exact if_pos (by rcases h with h | h <;> simp [h])

theorem State.sbFlush_of_malformed {w : List Nat} {r : List (List Nat)} (hq : s.pins.queue = w :: r)
    (h : sbWellFormed w = false) (hruns : s.sbRuns = true) (n : Nat) :
    s.sbFlush (n + 1) = ((s.modPins (fun p => { p with queue := r })).sbResult w sbMalformed).sbFlush n := by
  rw [State.sbFlush, hq]
  exact if_neg (by simp [h, hruns])

/-- The words of the mailbox window once word 7 is written. -/
def State.postedWords (s : State) (data : Nat) : List Nat :=
  (List.range 8).map (fun i => (s.pins.window.put 0 7 data).look 0 i)

/-- The command posted in an empty queue, before the hearth looks at it. -/
def State.queuedCommand (s : State) (data : Nat) : State :=
  s.modPins (fun p => { p with window := p.window.put 0 7 data, queue := [s.postedWords data] })

theorem State.mailboxPost_of_empty (h : s.pins.queue = []) (data : Nat) :
    s.mailboxPost data = (s.queuedCommand data).sbFlush 8 := by
  simp [State.mailboxPost, State.modPins, h, State.queuedCommand, State.postedWords]

theorem State.mailboxPost_of_full (h : 8 ≤ s.pins.queue.length) (data : Nat) : s.mailboxPost data =
    (s.modPins (fun p => { p with window := p.window.put 0 7 data })).addSat RF.CRI_STAT_DROPPED 0 0 1 := if_pos h

theorem State.mailboxPost_standing (hq : s.pins.queue = []) {data : Nat}
    (h : sbWellFormed (s.postedWords data) = true ∨ s.sbRuns = false) : s.mailboxPost data = s.queuedCommand data := by
  rw [State.mailboxPost_of_empty hq]
  exact State.sbFlush_of_standing (s := s.queuedCommand data) rfl h 8

theorem State.mailboxPost_malformed (hq : s.pins.queue = []) {data : Nat}
    (h : sbWellFormed (s.postedWords data) = false) (hruns : s.sbRuns = true) : s.mailboxPost data =
      ((s.queuedCommand data).modPins (fun p => { p with queue := [] })).sbResult (s.postedWords data) sbMalformed := by
  rw [State.mailboxPost_of_empty hq, State.sbFlush_of_malformed (s := s.queuedCommand data) rfl h hruns]
  exact State.sbFlush_of_empty (s := ((s.queuedCommand data).modPins _).sbResult _ _) rfl 7

/-! ### The mirror (R690, R691) -/

theorem State.postGroup_of_down {g : Nat} (h : s.ownerUp g = false) : s.postGroup g = s := by
  simp only [State.postGroup, h]
  split <;> rfl

theorem State.postGroup_of_up {g : Nat} {l : List Nat} (h : s.ownerUp g = true) (hl : s.groupNow s.serial g = some l) :
    s.postGroup g = s.fresh.2.modPins (fun p => { p with posted := p.posted.put [] g l }) := by
  have hnow : s.fresh.2.groupNow s.fresh.1 g = some l := hl
  simp only [State.postGroup, h, hnow, if_true]

/-- Only groups of a list are posted, and a serial number may be taken. -/
def State.postsOnly (s : State) (gs : List Nat) (t : State) : Prop :=
  ∃ (k : Nat) (m : NMap (List Nat)), t = { s with serial := k, pins := { s.pins with posted := m } } ∧
    ∀ g, g ∉ gs → m.look [] g = s.pins.posted.look [] g

theorem State.postsOnly.trans {gs : List Nat} {t u : State} (h : s.postsOnly gs t) (h' : t.postsOnly gs u) :
    s.postsOnly gs u := by
  obtain ⟨_, _, rfl, hlook⟩ := h
  obtain ⟨k, m, rfl, hlook'⟩ := h'
  exact ⟨k, m, rfl, fun g hg => (hlook' g hg).trans (hlook g hg)⟩

/-- A group is posted under its own number, or not at all. -/
theorem State.postsOnly_postGroup (s : State) {g : Nat} {gs : List Nat} (hg : g ∈ gs) :
    s.postsOnly gs (s.postGroup g) := by
  cases hup : s.ownerUp g with
  | false =>
    rw [State.postGroup_of_down hup]
    exact ⟨s.serial, s.pins.posted, rfl, fun _ _ => rfl⟩
  | true =>
    cases hnow : s.groupNow s.serial g with
    | none =>
      have hnone : s.fresh.2.groupNow s.fresh.1 g = none := hnow
      have heq : s.postGroup g = s := by simp only [State.postGroup, hnone]
      rw [heq]
      exact ⟨s.serial, s.pins.posted, rfl, fun _ _ => rfl⟩
    | some l =>
      rw [State.postGroup_of_up hup hnow]
      exact ⟨_, _, rfl, fun h hh => NMap.look_put_other _ _ (ne_of_mem_of_not_mem hg hh).symm l⟩

/-- The validity bitmap is put over groups 16 to 31. -/
theorem NMap.look_foldl_put {V : Type} [DecidableEq V] (v : Nat → V) (d : V) (l : List Nat) (m : NMap V) (g : Nat) :
    (l.foldl (fun (m : NMap V) k => m.put d k (v k)) m).look d g = if g ∈ l then v g else m.look d g := by
  induction l generalizing m with
  | nil => rfl
  | cons k l ih =>
    rw [List.foldl_cons, ih]
    by_cases hg : g ∈ l
    · simp [hg]
    · by_cases hk : g = k
      · subst hk
        simp [hg]
      · rw [if_neg hg, if_neg (by simp [hg, hk]), NMap.look_put_other m d hk]

/-- The hearth's own groups, posted at a roll. -/
def State.ownPosted (s : State) : State :=
  (((s.addWrap RF.CRI_ROLL_SEQ 0 0 1).postGroup 0).postGroup 2).postGroup 3

theorem State.postsOnly_ownPosted (s : State) :
    (s.addWrap RF.CRI_ROLL_SEQ 0 0 1).postsOnly [0, 2, 3] s.ownPosted :=
  ((State.postsOnly_postGroup _ (by decide)).trans (State.postsOnly_postGroup _ (by decide))).trans
    (State.postsOnly_postGroup _ (by decide))

/-- The groups that a roll shows as valid: the posted ones and the bitmap's own. -/
def validGroups (posted : NMap (List Nat)) : List Nat :=
  List.map (fun e => e.1) posted ++ (List.range 16).map (· + 16)

theorem length_validGroups (posted : NMap (List Nat)) : (validGroups posted).length = posted.length + 16 := by
  rw [validGroups, List.length_append, List.length_map, List.length_map, List.length_range]

/-- The mirror after a roll: every posted group, with the bitmap of the valid ones in groups 16 to 31. -/
def rolledMirror (posted : NMap (List Nat)) : NMap (List Nat) :=
  ((List.range 16).map (· + 16)).foldl (fun (m : NMap (List Nat)) g => m.put [] g (validWords (validGroups posted) g))
    posted

theorem look_rolledMirror (posted : NMap (List Nat)) (g : Nat) : (rolledMirror posted).look [] g =
    if 16 ≤ g ∧ g < 32 then validWords (validGroups posted) g else posted.look [] g := by
  have hmem : g ∈ (List.range 16).map (· + 16) ↔ 16 ≤ g ∧ g < 32 := by
    simp only [List.mem_map, List.mem_range]
    exact ⟨by omega, fun h => ⟨g - 16, by omega⟩⟩
  rw [rolledMirror, NMap.look_foldl_put]
  simp only [hmem]

theorem exec_mirrorRoll (h : s.hearthUp = true) : exec .mirrorRoll s =
    .next ((s.ownPosted.modPins (fun p => { p with mirror := rolledMirror s.ownPosted.pins.posted })).setF
      RF.CRI_ROLL_VALID 0 0 (validGroups s.ownPosted.pins.posted).length) :=
  if_neg (by simp [h])

theorem State.seq_setRollValid (s : State) (v : Nat) :
    (s.setF RF.CRI_ROLL_VALID 0 0 v).getF RF.CRI_ROLL_SEQ 0 0 = s.getF RF.CRI_ROLL_SEQ 0 0 :=
  s.getF_setF_disjoint (f := RF.CRI_ROLL_VALID) (g := RF.CRI_ROLL_SEQ) 0 0 v rfl (by decide) (by decide)

end

/-- Settles O43: one lemma per cycle of the bus says which function of the model serves it. Log 177 (DEDUCED) orders
the hearth's work on its own groups. -/
theorem crierBusAndMirror : Obligations.CrierBusAndMirror := by
  unfold Obligations.CrierBusAndMirror
  refine ⟨?read, ?unserved, ?window, ?badWrite, ?badCycle, ?post, ?malformed, ?full, ?group, ?down, ?roll⟩
  case read =>
    rintro addr _ s ⟨hserve, rfl⟩
    refine ⟨_, exec_crierRead hserve addr, ⟨?_, s.count_crierRead addr.toNat, ?_, ?_, ?_⟩, ?_, s.onlyRegs_crierRead _⟩
    all_goals rw [s.crierRead_eq addr.toNat]; rfl
  case unserved =>
    intro addr s hserve
    exact ⟨_, exec_crierRead_unserved hserve addr, ⟨rfl, rfl, rfl⟩, rfl, s.onlyRegs_refl _⟩
  case window =>
    rintro addr data _ s ⟨hserve, rfl, hen, hlo, hhi⟩
    refine ⟨_, exec_crierWrite hserve addr data, ?_⟩
    rw [State.crierWrite_window hen hlo hhi]
    exact ⟨⟨rfl, rfl, rfl⟩, rfl, s.onlyRegs_refl _⟩
  case badWrite =>
    rintro addr data _ s ⟨hserve, rfl, hbad⟩
    refine ⟨_, exec_crierWrite hserve addr data, ?_⟩
    rw [State.crierWrite_bad hbad]
    exact ⟨⟨s.getF_addSat_min RF.CRI_STAT_BAD_WRITE 0 0 1 (by decide), rfl, rfl⟩, rfl,
      s.onlyRegs_setF (f := RF.CRI_STAT_BAD_WRITE) 0 0 _ (by decide)⟩
  case badCycle =>
    rintro addr data _ s ⟨hserve, rfl⟩
    have hread := s.onlyRegs_crierRead addr.toNat
    have hcount : (s.crierRead addr.toNat).onlyRegs [.CRI_STAT]
        ((s.crierRead addr.toNat).addSat RF.CRI_STAT_BAD_CYCLE 0 0 1) :=
      State.onlyRegs_setF _ (f := RF.CRI_STAT_BAD_CYCLE) 0 0 _ (by decide)
    refine ⟨_, exec_crierWrite_badCycle hserve addr data, ⟨?_, ?_, ?_, ?_⟩, ?_,
      (hread.mono (by decide)).trans (hcount.mono (by decide))⟩
    · rw [State.getF_addSat_min _ RF.CRI_STAT_BAD_CYCLE 0 0 1 (by decide), hread.getF (by decide) 0 0]
      rfl
    · exact (hcount.getF (by decide) 0 0).trans (s.count_crierRead addr.toNat)
    all_goals rw [s.crierRead_eq addr.toNat]; rfl
  case post =>
    rintro data _ s ⟨hserve, hen, hq, rfl, h⟩
    refine ⟨_, exec_crierMailboxPost hserve hen data, ?_⟩
    rw [State.mailboxPost_standing hq h]
    exact ⟨⟨rfl, rfl⟩, rfl, s.onlyRegs_refl _⟩
  case malformed =>
    rintro data _ s ⟨hserve, hen, hq, rfl, h, hruns⟩
    refine ⟨_, exec_crierMailboxPost hserve hen data, ?_⟩
    rw [State.mailboxPost_malformed hq h hruns]
    exact ⟨⟨rfl, rfl, rfl, rfl⟩, rfl, s.onlyRegs_refl _⟩
  case full =>
    rintro data s ⟨hserve, hen, hq⟩
    refine ⟨_, exec_crierMailboxPost hserve hen data, ?_⟩
    rw [State.mailboxPost_of_full hq]
    exact ⟨⟨rfl, State.getF_addSat_min _ RF.CRI_STAT_DROPPED 0 0 1 (by decide)⟩, rfl,
      s.onlyRegs_setF (f := RF.CRI_STAT_DROPPED) 0 0 _ (by decide)⟩
  case group =>
    rintro g l s ⟨hup, howner, hnow⟩
    refine ⟨_, congrArg Host.Outcome.next ((if_pos hup).trans (State.postGroup_of_up howner hnow)), ⟨rfl, rfl⟩, rfl⟩
  case down =>
    intro g s h
    refine ⟨s, congrArg Host.Outcome.next ?_, ⟨rfl, rfl⟩, rfl⟩
    rcases h with h | h
    · exact if_neg (by simp [h])
    · rw [State.postGroup_of_down h, ite_self]
  case roll =>
    intro s hup
    obtain ⟨k, m, hown, hlook⟩ := s.postsOnly_ownPosted
    have hmirror := look_rolledMirror m
    have hvalid := length_validGroups m
    refine ⟨_, exec_mirrorRoll hup, ?_⟩
    rw [hown]
    generalize rolledMirror m = mirror at hmirror ⊢
    generalize (validGroups m).length = valid at hvalid ⊢
    have hseq : s.onlyRegs [.CRI_ROLL] (s.addWrap RF.CRI_ROLL_SEQ 0 0 1) :=
      s.onlyRegs_addWrap (f := RF.CRI_ROLL_SEQ) 0 0 1 (by decide)
    refine ⟨⟨?_, ?_, fun g hg => ?_, fun g hlo hhi => ?_, fun g h0 h2 h3 => hlook g (by simp [h0, h2, h3])⟩, rfl,
      hseq.trans (State.onlyRegs_setF _ (f := RF.CRI_ROLL_VALID) 0 0 _ (by decide))⟩
    · exact (State.seq_setRollValid _ _).trans (s.getF_addWrap_same RF.CRI_ROLL_SEQ 0 0 1 (by decide))
    · exact (State.getF_setF_same _ RF.CRI_ROLL_VALID 0 0 _ (by decide)).trans
        (congrArg (· % 2 ^ 10) hvalid)
    · exact (hmirror g).trans (if_neg (by omega))
    · exact (hmirror g).trans (if_pos ⟨hlo, hhi⟩)

end Sys2Proof.Machine

/-! GPIO pins, locks, I2C, tachometers and PPS_OUT (O45). -/

namespace Sys2Proof.Machine

section
variable {s t : State}

/-! ### A synchronised level (R697, R698) -/

/-- What a level on a pad changes: the pads, what the page shows of them, and the module's output. -/
structure State.padsOnly (s t : State) : Prop where
  regs : s.onlyRegs [.GPIO_IRQ_STAT] t
  frame : t = { s with regs := t.regs, pins := { s.pins with pads := t.pins.pads }, out := t.out }

theorem State.padsOnly_refl (s : State) : s.padsOnly s := ⟨s.onlyRegs_refl _, rfl⟩

theorem State.padsOnly.trans {u : State} (h : s.padsOnly t) (h' : t.padsOnly u) : s.padsOnly u where
  regs := h.regs.trans h'.regs
  frame := by
    rw [h'.frame, h.frame]

theorem State.padsOnly_send (s : State) (m : OutMsg) : s.padsOnly (s.send m) := ⟨s.onlyRegs_refl _, rfl⟩

theorem State.padsOnly.driven (h : s.padsOnly t) (n : Nat) : t.driven n = s.driven n := by
  simp only [State.driven, h.regs.getF (x := RF.GPIO_OUT_OUT) (by decide),
    h.regs.getF (x := RF.GPIO_FUNC_FUNC) (by decide), h.regs.getF (x := RF.GPIO_DIR_DIR) (by decide),
    h.regs.getF (x := RF.GPIO_OD_OD) (by decide)]

theorem State.padsOnly.modState (h : s.padsOnly t) : t.modState = s.modState :=
  h.regs.getF (x := RF.PWR_MOD_STAT_STATE) (by decide) 0 0

/-- The pads with the level of pin `n`. -/
def padLevel (pads n : Nat) (level : Bool) : Nat :=
  if pads.testBit n = level then pads else if level then pads ||| 2 ^ n else pads &&& (2 ^ 32 - 1 - 2 ^ n)

theorem testBit_padLevel {pads n m : Nat} (hn : n < 32) (hm : m < 32) (level : Bool) :
    (padLevel pads n level).testBit m = if m = n then level else pads.testBit m := by
  have hmask : 2 ^ 32 - 1 - 2 ^ n = 2 ^ 32 - (2 ^ n + 1) := by omega
  unfold padLevel
  by_cases hwas : pads.testBit n = level
  · rw [if_pos hwas]
    split
    · next h => rw [h, hwas]
    · rfl
  · rw [if_neg hwas]
    cases level with
    | true =>
      rw [if_pos rfl, Nat.testBit_or, Nat.testBit_two_pow]
      by_cases h : m = n
      · simp [h]
      · simp [h, Ne.symm h]
    | false =>
      rw [if_neg (by decide), Nat.testBit_and, hmask, Nat.testBit_two_pow_sub_succ (Nat.pow_lt_pow_right (by decide) hn),
        Nat.testBit_two_pow]
      by_cases h : m = n
      · simp [h]
      · simp [h, Ne.symm h, hm]

/-- Does the level of a pin set its interrupt bit (R698)? -/
abbrev State.padDetects (s : State) (n : Nat) (level : Bool) : Prop :=
  (s.pins.pads.testBit n ≠ level ∧ s.edgeQualifies n level = true) ∨ (s.irqMode n = 4 ∧ level = true) ∨
    (s.irqMode n = 5 ∧ level = false)

theorem State.edgeQualifies_eq (s : State) (n : Nat) (rising : Bool) : s.edgeQualifies n rising =
    if rising then s.irqMode n == 1 || s.irqMode n == 3 || s.irqMode n == 4
    else s.irqMode n == 2 || s.irqMode n == 3 || s.irqMode n == 5 := rfl

theorem State.padSet_condition (s : State) (n : Nat) (level : Bool) :
    ((decide (s.pins.pads.testBit n ≠ level) && ((level && decide (s.irqMode n = 1 ∨ s.irqMode n = 3)) ||
      (!level && decide (s.irqMode n = 2 ∨ s.irqMode n = 3)))) || (decide (s.irqMode n = 4) && level) ||
        (decide (s.irqMode n = 5) && !level)) = true ↔ s.padDetects n level := by
  rw [State.padDetects, State.edgeQualifies_eq]
  cases level <;> simp <;> tauto

theorem State.padSet_eq (s : State) (n : Nat) (level : Bool) : s.padSet n level =
    if s.padDetects n level then (s.modPins (fun p => { p with pads := padLevel p.pads n level })).setIrq n
    else s.modPins (fun p => { p with pads := padLevel p.pads n level }) := by
  have hpads : (if s.pins.pads.testBit n = level then s else s.modPins (fun p => { p with
      pads := if level then p.pads ||| 2 ^ n else p.pads &&& (2 ^ 32 - 1 - 2 ^ n) })) =
      s.modPins (fun p => { p with pads := padLevel p.pads n level }) := by
    by_cases h : s.pins.pads.testBit n = level
    · simp only [padLevel, State.modPins, if_pos h]
    · simp only [padLevel, State.modPins, if_neg h]
  rw [← hpads]
  exact ite_congr (propext (s.padSet_condition n level)) (fun _ => rfl) (fun _ => rfl)

theorem State.onlyRegs_setIrq (s : State) (n : Nat) : s.onlyRegs [.GPIO_IRQ_STAT] (s.setIrq n) :=
  s.onlyRegs_setF (f := RF.GPIO_IRQ_STAT_STAT) 0 0 _ (by decide)

theorem State.getF_setIrq (s : State) {n : Nat} (hn : n < 32) : (s.setIrq n).getF RF.GPIO_IRQ_STAT_STAT 0 0 =
    s.getF RF.GPIO_IRQ_STAT_STAT 0 0 ||| 2 ^ n :=
  s.getF_setF_fits (x := RF.GPIO_IRQ_STAT_STAT) 0 0
    (Nat.or_lt_two_pow (s.getF_lt RF.GPIO_IRQ_STAT_STAT 0 0) (Nat.pow_lt_pow_right (by decide) hn)) (by decide)

theorem State.padsOnly_padSet (s : State) (n : Nat) (level : Bool) : s.padsOnly (s.padSet n level) := by
  rw [s.padSet_eq n level]
  split
  · exact ⟨s.onlyRegs_setF (f := RF.GPIO_IRQ_STAT_STAT) 0 0 _ (by decide), rfl⟩
  · exact ⟨s.onlyRegs_refl _, rfl⟩

theorem State.padSet_frame (s : State) (n : Nat) (level : Bool) : s.padSet n level =
    { s with regs := (s.padSet n level).regs, pins := (s.padSet n level).pins } := by
  rw [s.padSet_eq n level]
  split <;> rfl

theorem State.pads_padSet (s : State) (n : Nat) (level : Bool) :
    (s.padSet n level).pins.pads = padLevel s.pins.pads n level := by
  rw [s.padSet_eq n level]
  split <;> rfl

theorem State.irqStat_padSet (s : State) {n : Nat} (hn : n < 32) (level : Bool) :
    (s.padSet n level).getF RF.GPIO_IRQ_STAT_STAT 0 0 = if s.padDetects n level then
      s.getF RF.GPIO_IRQ_STAT_STAT 0 0 ||| 2 ^ n else s.getF RF.GPIO_IRQ_STAT_STAT 0 0 := by
  rw [s.padSet_eq n level]
  split
  · exact State.getF_setIrq _ hn
  · rfl

/-! ### The pads follow the outputs (R697) -/

/-- The pad of one output follows it, while no wake edge is looked for. -/
def State.drivePad (t : State) (n : Nat) : State :=
  match t.driven n with
  | none => t
  | some v => if t.pins.pads.testBit n = v then t else (t.padSet n v).send (.pin n v)

theorem State.padsOnly_drivePad (t : State) (n : Nat) : t.padsOnly (t.drivePad n) := by
  unfold State.drivePad
  split
  · exact t.padsOnly_refl
  · split
    · exact t.padsOnly_refl
    · exact (t.padsOnly_padSet n _).trans (State.padsOnly_send _ _)

theorem State.pads_drivePad (t : State) {n m : Nat} (hn : n < 32) (hm : m < 32) :
    (t.drivePad n).pins.pads.testBit m =
      if m = n then (t.driven n).getD (t.pins.pads.testBit n) else t.pins.pads.testBit m := by
  unfold State.drivePad
  cases hd : t.driven n with
  | none =>
    dsimp only [Option.getD_none]
    split
    · next h => rw [h]
    · rfl
  | some v =>
    dsimp only [Option.getD_some]
    split
    · next h =>
      split
      · next hmn => rw [hmn, h]
      · rfl
    · show (t.padSet n v).pins.pads.testBit m = _
      rw [t.pads_padSet n v, testBit_padLevel hn hm]

/-- The pads of the outputs below `n` have followed. -/
def State.drivenBelow (s : State) (n : Nat) : State := (List.range n).foldl State.drivePad s

theorem State.drivenBelow_succ (s : State) (n : Nat) : s.drivenBelow (n + 1) = (s.drivenBelow n).drivePad n := by
  rw [State.drivenBelow, List.range_succ, List.foldl_append]
  rfl

theorem State.padsOnly_drivenBelow (s : State) (n : Nat) : s.padsOnly (s.drivenBelow n) := by
  induction n with
  | zero => exact s.padsOnly_refl
  | succ n ih =>
    rw [s.drivenBelow_succ n]
    exact ih.trans (State.padsOnly_drivePad _ n)

theorem State.pads_drivenBelow (s : State) {n m : Nat} (hn : n ≤ 32) (hm : m < 32) :
    (s.drivenBelow n).pins.pads.testBit m =
      if m < n then (s.driven m).getD (s.pins.pads.testBit m) else s.pins.pads.testBit m := by
  induction n with
  | zero => rfl
  | succ n ih =>
    have ih := ih (by omega)
    rw [s.drivenBelow_succ n, State.pads_drivePad _ (by omega) hm, (s.padsOnly_drivenBelow n).driven n]
    by_cases h : m = n
    · subst h
      rw [if_pos rfl, if_pos (Nat.lt_succ_self m), ih, if_neg (lt_irrefl m)]
    · rw [if_neg h, ih]
      exact if_congr (by omega) rfl rfl

theorem State.drivePads_eq (h : s.modState ≠ 2) : s.drivePads = s.drivenBelow 32 := by
  have hstep (n : Nat) (t : State) (ht : s.padsOnly t) : (match t.driven n with
      | none => t
      | some v =>
        if t.pins.pads.testBit n = v then t
        else
          let t1 := (t.padSet n v).send (.pin n v)
          if n < 8 ∧ t.modState = 2 ∧ (t.getF RF.PWR_WAKE_ARM_MASK 0 0).testBit n ∧ t.edgeQualifies n v then
            (t1.raise RF.PWR_EVENT_WAKE 0).modCommand (t.getF RF.PWR_WAKE_ARM_TARGET 0 0) 3
          else t1) = t.drivePad n := by
    unfold State.drivePad
    split
    · rfl
    · exact if_congr Iff.rfl rfl (if_neg (by rw [ht.modState]; simp [h]))
  have hall (l : List Nat) (t : State) (ht : s.padsOnly t) : l.foldl (fun (t : State) n => match t.driven n with
      | none => t
      | some v =>
        if t.pins.pads.testBit n = v then t
        else
          let t1 := (t.padSet n v).send (.pin n v)
          if n < 8 ∧ t.modState = 2 ∧ (t.getF RF.PWR_WAKE_ARM_MASK 0 0).testBit n ∧ t.edgeQualifies n v then
            (t1.raise RF.PWR_EVENT_WAKE 0).modCommand (t.getF RF.PWR_WAKE_ARM_TARGET 0 0) 3
          else t1) t = l.foldl State.drivePad t := by
    induction l generalizing t with
    | nil => rfl
    | cons n l ih =>
      rw [List.foldl_cons, List.foldl_cons, hstep n t ht]
      exact ih _ (ht.trans (t.padsOnly_drivePad n))
  exact hall _ s s.padsOnly_refl

theorem State.padsOnly_drivePads (h : s.modState ≠ 2) : s.padsOnly s.drivePads := by
  rw [State.drivePads_eq h]
  exact s.padsOnly_drivenBelow 32

theorem State.pads_drivePads_of_some (h : s.modState ≠ 2) {i : Nat} (hi : i < 32) {b : Bool}
    (hd : s.drivePads.driven i = some b) : s.drivePads.pins.pads.testBit i = b := by
  rw [(State.padsOnly_drivePads h).driven i] at hd
  rw [State.drivePads_eq h, s.pads_drivenBelow (le_refl 32) hi, if_pos hi, hd]
  rfl

theorem State.pads_drivePads_of_none (h : s.modState ≠ 2) {i : Nat} (hi : i < 32) (hd : s.drivePads.driven i = none) :
    s.drivePads.pins.pads.testBit i = s.pins.pads.testBit i := by
  rw [(State.padsOnly_drivePads h).driven i] at hd
  rw [State.drivePads_eq h, s.pads_drivenBelow (le_refl 32) hi, if_pos hi, hd]
  rfl

/-- GPIO_OUT takes a whole value, and the pads follow (R696). -/
theorem State.gpioOut_effect (h : s.modState ≠ 2) (v : Nat) :
    (s.gpioOut v).getF RF.GPIO_OUT_OUT 0 0 = v % 2 ^ 32 ∧
      (∀ i < 32, ∀ b, (s.gpioOut v).driven i = some b → (s.gpioOut v).pins.pads.testBit i = b) ∧
      (∀ i < 32, (s.gpioOut v).driven i = none → (s.gpioOut v).pins.pads.testBit i = s.pins.pads.testBit i) := by
  have hset : (s.setF RF.GPIO_OUT_OUT 0 0 (v % 2 ^ 32)).modState ≠ 2 := by
    rw [State.modState, s.getF_setF_reg (f := RF.GPIO_OUT_OUT) 0 0 0 0 _ (by decide)]
    exact h
  exact ⟨((State.padsOnly_drivePads hset).regs.getF (x := RF.GPIO_OUT_OUT) (by decide) 0 0).trans
      (s.getF_setF_fits (x := RF.GPIO_OUT_OUT) 0 0 (Nat.mod_lt _ (Nat.two_pow_pos 32)) (by decide)),
    fun _ hi _ hb => State.pads_drivePads_of_some hset hi hb, fun _ hi hb => State.pads_drivePads_of_none hset hi hb⟩

theorem exec_gpioOutSet (hserve : s.pinsServe = true) (m : BitVec 32) :
    exec (.gpioOutSet m) s = .next (s.gpioOut (s.getF RF.GPIO_OUT_OUT 0 0 ||| m.toNat)) :=
  congrArg Host.Outcome.next (if_pos hserve)

theorem exec_gpioOutClr (hserve : s.pinsServe = true) (m : BitVec 32) :
    exec (.gpioOutClr m) s = .next (s.gpioOut (s.getF RF.GPIO_OUT_OUT 0 0 &&& (2 ^ 32 - 1 - m.toNat % 2 ^ 32))) :=
  congrArg Host.Outcome.next (if_pos hserve)

/-! ### Locks (R699) -/

theorem State.lockSet_armed {src : Nat} (h : s.pins.lockArm.look 0 src = 2) (mask : Nat) : s.lockSet src mask =
    (s.setF RF.GPIO_LOCKED_LOCKED 0 0 (s.getF RF.GPIO_LOCKED_LOCKED 0 0 ||| mask % 2 ^ 32)).modPins (fun p =>
      { p with lockArm := p.lockArm.put 0 src 0 }) := if_pos h

theorem State.getF_lockSet_armed {src : Nat} (h : s.pins.lockArm.look 0 src = 2) (mask : BitVec 32) :
    (s.lockSet src mask.toNat).getF RF.GPIO_LOCKED_LOCKED 0 0 = s.getF RF.GPIO_LOCKED_LOCKED 0 0 ||| mask.toNat := by
  rw [State.lockSet_armed h, Nat.mod_eq_of_lt mask.isLt]
  exact s.getF_setF_fits (x := RF.GPIO_LOCKED_LOCKED) 0 0
    (Nat.or_lt_two_pow (s.getF_lt RF.GPIO_LOCKED_LOCKED 0 0) mask.isLt) (by decide)

theorem State.lockSet_unarmed {src : Nat} (h : s.pins.lockArm.look 0 src ≠ 2) (mask : Nat) :
    s.lockSet src mask = s.setFlag RF.GPIO_STAT_LOCK_ERR 0 0 true := if_neg h

/-! ### I2C (R708) -/

theorem exec_i2cGo_busy {n : Fin 2} (hserve : s.pinsServe = true) (h : s.flag RF.GPIO_I2Cn_BUSY 0 n.val = true)
    (addr : BitVec 7) (read : Bool) (len : BitVec 3) : exec (.i2cGo n addr read len) s = .next s.gpioErr := by
  show execI2cGo n addr read len s = _
  rw [execI2cGo, if_pos hserve, State.i2cGo_of_busy h]

/-- GPIO_I2Cn as a started transfer leaves it. -/
def State.i2cStarted (s : State) (n addr : Nat) (read : Bool) (len : Nat) : State :=
  ((s.setF RF.GPIO_I2Cn_ADDRESS 0 n addr).setFlag RF.GPIO_I2Cn_READ 0 n read).setF RF.GPIO_I2Cn_LENGTH 0 n len
    |>.setFlag RF.GPIO_I2Cn_BUSY 0 n true

theorem exec_i2cGo_free {n : Fin 2} (hserve : s.pinsServe = true) (h : s.flag RF.GPIO_I2Cn_BUSY 0 n.val = false)
    (addr : BitVec 7) (read : Bool) (len : BitVec 3) : exec (.i2cGo n addr read len) s =
      .next ((s.i2cStarted n.val addr.toNat read len.toNat).send (.i2c n.val (addr.toNat * 2 + b2n read)
        (if read then [] else (leBytes 8 (s.rd .GPIO_I2Cn_DATA 0 n.val).toNat).take (len.toNat + 1)))) :=
  congrArg Host.Outcome.next ((if_pos hserve).trans (if_neg (by simp [h])))

theorem State.onlyRegs_i2cStarted (s : State) (n addr : Nat) (read : Bool) (len : Nat) :
    s.onlyRegs [.GPIO_I2Cn] (s.i2cStarted n addr read len) :=
  (((s.onlyRegs_setF (f := RF.GPIO_I2Cn_ADDRESS) 0 n addr (by decide)).trans
    (State.onlyRegs_setFlag _ (f := RF.GPIO_I2Cn_READ) 0 n read (by decide))).trans
    (State.onlyRegs_setF _ (f := RF.GPIO_I2Cn_LENGTH) 0 n len (by decide))).trans
    (State.onlyRegs_setFlag _ (f := RF.GPIO_I2Cn_BUSY) 0 n true (by decide))

theorem State.fields_i2cStarted (s : State) (n : Nat) {addr len : Nat} (haddr : addr < 128) (read : Bool) (hlen : len < 8) :
    (s.i2cStarted n addr read len).flag RF.GPIO_I2Cn_BUSY 0 n = true ∧
      (s.i2cStarted n addr read len).getF RF.GPIO_I2Cn_ADDRESS 0 n = addr ∧
      (s.i2cStarted n addr read len).flag RF.GPIO_I2Cn_READ 0 n = read ∧
      (s.i2cStarted n addr read len).getF RF.GPIO_I2Cn_LENGTH 0 n = len := by
  refine ⟨State.flag_setFlag_same _ RF.GPIO_I2Cn_BUSY 0 n true (by decide) rfl, ?_, ?_, ?_⟩
  · rw [State.i2cStarted, State.setFlag, State.setFlag,
      State.getF_setF_disjoint _ (f := RF.GPIO_I2Cn_BUSY) (g := RF.GPIO_I2Cn_ADDRESS) 0 n _ rfl (by decide) (by decide),
      State.getF_setF_disjoint _ (f := RF.GPIO_I2Cn_LENGTH) (g := RF.GPIO_I2Cn_ADDRESS) 0 n _ rfl (by decide) (by decide),
      State.getF_setF_disjoint _ (f := RF.GPIO_I2Cn_READ) (g := RF.GPIO_I2Cn_ADDRESS) 0 n _ rfl (by decide) (by decide)]
    exact s.getF_setF_fits (x := RF.GPIO_I2Cn_ADDRESS) 0 n haddr (by decide)
  · rw [State.i2cStarted, State.flag_setFlag_disjoint (f := RF.GPIO_I2Cn_BUSY) (g := RF.GPIO_I2Cn_READ) _ 0 n true rfl
      (by decide) (by decide), State.flag,
      State.getF_setF_disjoint _ (f := RF.GPIO_I2Cn_LENGTH) (g := RF.GPIO_I2Cn_READ) 0 n _ rfl (by decide) (by decide)]
    exact State.flag_setFlag_same _ RF.GPIO_I2Cn_READ 0 n read (by decide) rfl
  · rw [State.i2cStarted, State.setFlag,
      State.getF_setF_disjoint _ (f := RF.GPIO_I2Cn_BUSY) (g := RF.GPIO_I2Cn_LENGTH) 0 n _ rfl (by decide) (by decide)]
    exact State.getF_setF_fits _ (x := RF.GPIO_I2Cn_LENGTH) 0 n hlen (by decide)

/-- The bytes read stand in GPIO_I2Cn_DATA, as many as the transfer's length says. -/
def State.i2cData (s : State) (n : Nat) (data : Word) : Word :=
  putBits (s.rd .GPIO_I2Cn_DATA 0 n) 0 (8 * (s.getF RF.GPIO_I2Cn_LENGTH 0 n + 1))
    (data.toNat % 2 ^ (8 * (s.getF RF.GPIO_I2Cn_LENGTH 0 n + 1)))

theorem State.bits_i2cData (s : State) (n : Nat) (data : Word) :
    bits (s.i2cData n data) 0 (8 * (s.getF RF.GPIO_I2Cn_LENGTH 0 n + 1)) =
      data.toNat % 2 ^ (8 * (s.getF RF.GPIO_I2Cn_LENGTH 0 n + 1)) := by
  have hlen : s.getF RF.GPIO_I2Cn_LENGTH 0 n < 8 := s.getF_lt RF.GPIO_I2Cn_LENGTH 0 n
  rw [State.i2cData, bits_putBits_same _ _ _ _ (by omega), Nat.mod_mod]

theorem exec_i2cDone_read {n : Fin 2} (hbusy : s.flag RF.GPIO_I2Cn_BUSY 0 n.val = true)
    (hread : s.flag RF.GPIO_I2Cn_READ 0 n.val = true) (data : Word) : exec (.i2cDone n false data) s =
      .next ((s.setFlag RF.GPIO_I2Cn_BUSY 0 n.val false).wr .GPIO_I2Cn_DATA 0 n.val (s.i2cData n.val data)) :=
  (if_neg (by simp [hbusy])).trans ((if_neg (by decide)).trans (if_pos hread))

theorem exec_i2cDone_written {n : Fin 2} (hbusy : s.flag RF.GPIO_I2Cn_BUSY 0 n.val = true)
    (hread : s.flag RF.GPIO_I2Cn_READ 0 n.val = false) (data : Word) :
    exec (.i2cDone n false data) s = .next (s.setFlag RF.GPIO_I2Cn_BUSY 0 n.val false) :=
  (if_neg (by simp [hbusy])).trans ((if_neg (by decide)).trans (if_neg (by simp [hread])))

end

/-- Settles O45: `State.padSet_eq` and `State.gpioOut_effect` say what a level and an output do; the locks and I2C
follow their functions' branches. An open-drain output that is released drives nothing (log 182, DESIGN CHOICE). -/
theorem gpioPinsAndControllers : Obligations.GpioPinsAndControllers := by
  unfold Obligations.GpioPinsAndControllers
  refine ⟨?detect, ?outSet, ?outClr, ?lockKey, ?lockArmed, ?lockUnarmed, ?go, ?busy, ?done, ?tach, ?pps⟩
  case detect =>
    intro n level s hserve
    refine ⟨s.padSet n.val level, congrArg Host.Outcome.next (if_pos hserve), ⟨?_, fun m hm hmn => ?_, ?_⟩, ?_,
      (s.padsOnly_padSet n.val level).regs⟩
    · rw [s.pads_padSet, testBit_padLevel n.isLt n.isLt, if_pos rfl]
    · rw [s.pads_padSet, testBit_padLevel n.isLt hm, if_neg hmn]
    · exact s.irqStat_padSet n.isLt level
    · exact s.padSet_frame n.val level
  case outSet =>
    rintro m s ⟨hserve, hmod⟩
    obtain ⟨hout, hdriven, hkept⟩ := State.gpioOut_effect hmod (s.getF RF.GPIO_OUT_OUT 0 0 ||| m.toNat)
    refine ⟨_, exec_gpioOutSet hserve m, ?_, hdriven, hkept⟩
    rw [hout, Nat.mod_eq_of_lt (Nat.or_lt_two_pow (s.getF_lt RF.GPIO_OUT_OUT 0 0) m.isLt)]
  case outClr =>
    rintro m s ⟨hserve, hmod⟩
    obtain ⟨hout, hdriven, hkept⟩ := State.gpioOut_effect hmod
      (s.getF RF.GPIO_OUT_OUT 0 0 &&& (2 ^ 32 - 1 - m.toNat % 2 ^ 32))
    refine ⟨_, exec_gpioOutClr hserve m, ?_, hdriven, hkept⟩
    rw [hout, Nat.mod_eq_of_lt m.isLt, Nat.mod_eq_of_lt (Nat.and_lt_two_pow _ (by omega))]
  case lockKey =>
    intro src key s hup
    have hkey (k : BitVec 16) : key.toNat = k.toNat ↔ key = k := BitVec.toNat_inj
    refine ⟨_, congrArg Host.Outcome.next (if_pos hup), ⟨⟨_, rfl⟩, ?_⟩, rfl⟩
    refine (NMap.look_put_same _ _ _ _).trans ?_
    simp only [← hkey]
    rfl
  case lockArmed =>
    rintro src mask s ⟨hup, harm⟩
    refine ⟨_, congrArg Host.Outcome.next (if_pos hup), ⟨State.getF_lockSet_armed harm mask, ?_⟩, ?_, ?_⟩
    all_goals rw [State.lockSet_armed harm]
    · exact NMap.look_put_same s.pins.lockArm 0 (lockSource src) 0
    · rfl
    · exact s.onlyRegs_setF (f := RF.GPIO_LOCKED_LOCKED) 0 0 _ (by decide)
  case lockUnarmed =>
    rintro src mask s ⟨hup, harm⟩
    refine ⟨_, congrArg Host.Outcome.next (if_pos hup), ?_⟩
    rw [State.lockSet_unarmed harm]
    exact ⟨⟨s.flag_setFlag_same RF.GPIO_STAT_LOCK_ERR 0 0 true (by decide) rfl,
      s.getF_setF_reg (f := RF.GPIO_STAT_LOCK_ERR) 0 0 0 0 _ (by decide), rfl⟩, rfl,
      s.onlyRegs_setFlag (f := RF.GPIO_STAT_LOCK_ERR) 0 0 true (by decide)⟩
  case go =>
    rintro n addr read len s ⟨hserve, hbusy⟩
    obtain ⟨hbusy', haddr, hread, hlen⟩ := s.fields_i2cStarted n.val addr.isLt read len.isLt
    have hregs := s.onlyRegs_i2cStarted n.val addr.toNat read len.toNat
    have hframe : s.i2cStarted n.val addr.toNat read len.toNat =
      { s with regs := (s.i2cStarted n.val addr.toNat read len.toNat).regs } := rfl
    refine ⟨_, exec_i2cGo_free hserve hbusy addr read len, ?_⟩
    generalize s.i2cStarted n.val addr.toNat read len.toNat = t at *
    refine ⟨⟨hbusy', haddr, hread, hlen, ?_⟩, ?_, hregs.mono (by decide)⟩ <;> rw [hframe] <;> rfl
  case busy =>
    rintro n addr read len s ⟨hserve, hbusy⟩
    exact ⟨_, exec_i2cGo_busy hserve hbusy addr read len,
      ⟨s.flag_gpioErr, rfl, s.onlyRegs_gpioErr.getF (by decide) 0 n.val⟩, rfl, s.onlyRegs_gpioErr.mono (by decide)⟩
  case done =>
    intro n nack data s hbusy
    cases nack with
    | true =>
      refine ⟨_, exec_i2cDone_of_nack hbusy data, ⟨s.busy_i2cRefused n.val, fun _ => ⟨s.nack_i2cRefused n.val, ?_⟩,
        by simp⟩, rfl, (s.onlyRegs_i2cRefused n.val).mono (by decide)⟩
      exact s.onlyRegs_i2cRefused n.val .GPIO_I2Cn_DATA 0 n.val (by decide)
    | false =>
      have hend : s.onlyRegs [.GPIO_I2Cn, .GPIO_I2Cn_DATA] (s.setFlag RF.GPIO_I2Cn_BUSY 0 n.val false) :=
        s.onlyRegs_setFlag (f := RF.GPIO_I2Cn_BUSY) 0 n.val false (by decide)
      have hclear := s.flag_setFlag_same RF.GPIO_I2Cn_BUSY 0 n.val false (by decide) rfl
      cases hread : s.flag RF.GPIO_I2Cn_READ 0 n.val with
      | true =>
        have hdata := State.onlyRegs_wr (l := [.GPIO_I2Cn_DATA]) (r := .GPIO_I2Cn_DATA) (s.setFlag RF.GPIO_I2Cn_BUSY 0 n.val false) 0 n.val
          (s.i2cData n.val data) (by decide)
        refine ⟨_, exec_i2cDone_read hbusy hread data, ⟨(hdata.flag (by decide) 0 n.val).trans hclear, by simp,
          fun _ _ => ?_⟩, rfl, hend.trans (hdata.mono (by decide))⟩
        rw [State.rd_wr_same]
        exact s.bits_i2cData n.val data
      | false => exact ⟨_, exec_i2cDone_written hbusy hread data, ⟨hclear, by simp, by simp⟩, rfl, hend⟩
  case tach =>
    rintro k rpm s ⟨hserve, hfunc⟩
    exact ⟨_, congrArg Host.Outcome.next (if_pos (by simp [hserve, hfunc])),
      s.getF_setF_fits (x := RF.GPIO_TACHk_RPM) 0 k.val rpm.isLt (by decide), rfl,
      s.onlyRegs_setF (f := RF.GPIO_TACHk_RPM) 0 k.val _ (by decide)⟩
  case pps =>
    intro s
    by_cases h : s.pins.ppsOut = (s.ppsRuns && decide (s.fabricTime % 1000000000 < 1000000))
    · exact ⟨s, if_pos h, ⟨h, by rw [if_pos rfl, List.append_nil]⟩, rfl⟩
    · exact ⟨_, if_neg h, ⟨rfl, congrArg (s.out ++ ·) (if_neg h).symm⟩, rfl⟩

end Sys2Proof.Machine

/-! Interrupt lines, first-error captures (O47) and register accesses (O48). -/

namespace Sys2Proof.Machine

section
variable {s : State}

/-! ### Lines and the wafer's message (R750, R751) -/

/-- The state with its interrupt aggregation replaced. -/
def State.withIrq (s : State) (q : Irq) : State := { s with irq := q }

theorem State.withIrq_ite (c : Prop) [Decidable c] (s t : State) (q : Irq) :
    (if c then s else t).withIrq q = if c then s.withIrq q else t.withIrq q :=
  apply_ite (State.withIrq · q) c s t

theorem State.msixNow_withIrq (s : State) (q : Irq) (fn : FnId) (e : Nat) :
    (s.withIrq q).msixNow fn e = (s.msixNow fn e).withIrq q := by
  unfold State.msixNow
  dsimp only
  rw [State.withIrq_ite]
  rfl

theorem State.msixDrop_withIrq (s : State) (q : Irq) : (s.withIrq q).msixDrop = s.msixDrop.withIrq q := by
  unfold State.msixDrop
  dsimp only
  rw [State.withIrq_ite, ← State.msixNow_withIrq]
  rfl

/-- The lines seen high play no part in what a message does. -/
theorem State.sendMsix_withIrq (s : State) (q : Irq) (fn : FnId) (e : Nat) :
    (s.withIrq q).sendMsix fn e = (s.sendMsix fn e).withIrq q := by
  unfold State.sendMsix
  rw [State.withIrq_ite, State.withIrq_ite, ← State.msixNow_withIrq, ← State.msixDrop_withIrq]
  rfl

/-- Registers that an interrupt message of the wafer may change. -/
def irqRegs : List Reg := [.HST_PORT_EVENT, .HST_PORT_MSIX_DROP, .WFR_IRQ_SENT]

theorem State.onlyRegs_irqSend (s : State) : s.onlyRegs irqRegs s.irqSend :=
  ((s.messageOnly_sendMsix 0 0).regs.mono (by decide)).trans
    (State.onlyRegs_addWrap _ (f := RF.WFR_IRQ_SENT_SENT) 0 0 1 (by decide))

theorem State.irqSend_frame (s : State) :
    s.irqSend = { s with regs := s.irqSend.regs, host := s.irqSend.host, irq := s.irqSend.irq, out := s.irqSend.out } := by
  have h := (s.messageOnly_sendMsix 0 0).eq
  unfold State.irqSend
  generalize s.sendMsix 0 0 = t at h
  rw [h]
  rfl

theorem State.irq_irqSend (s : State) : s.irqSend.irq = { s.irq with pending := false, holdoff := some s.now } := rfl

theorem State.irqWasSent_irqSend (s : State) : s.irqWasSent s.irqSend = true := by
  have hsent : s.irqSend.getF RF.WFR_IRQ_SENT_SENT 0 0 =
      wrapAdd RF.WFR_IRQ_SENT_SENT.w (s.getF RF.WFR_IRQ_SENT_SENT 0 0) 1 :=
    ((s.sendMsix 0 0).getF_addWrap_same RF.WFR_IRQ_SENT_SENT 0 0 1 (by decide)).trans
      (congrArg (wrapAdd _ · 1) ((s.messageOnly_sendMsix 0 0).regs.getF (by decide) 0 0))
  have hout : s.irqSend.out = (s.sendMsix 0 0).out := rfl
  simp [State.irqWasSent, hsent, hout, s.irq_irqSend]

/-- A message sent from a state whose seen lines have changed. -/
theorem State.irqSend_withIrq (s : State) (q : Irq) :
    (s.withIrq q).irqSend = s.irqSend.withIrq { q with pending := false, holdoff := some s.now } := by
  unfold State.irqSend
  rw [s.sendMsix_withIrq q 0 0]
  rfl

/-- The lines seen once the rise of `key` is remembered. -/
def State.risenLines (s : State) (key : Nat) : List Nat := setInsert key (s.irq.lines.filter s.lineHigh)

theorem State.lineRise_of_seen {p : Page} {i : Nat} (h : s.lineHigh (hdrInst p i) = false) :
    s.lineRise p i = s.dropLines := by
  have hlow : s.dropLines.lineHigh (hdrInst p i) = false := h
  unfold State.lineRise
  dsimp only
  rw [if_pos (by simp [hlow])]

/-- A rise seen for the first time, on a page with no function of its own. -/
theorem State.lineRise_of_new {p : Page} {i : Nat} (h : s.lineHigh (hdrInst p i) = true)
    (hnew : s.irq.lines.contains (hdrInst p i) = false) (hfrozen : s.h0Frozen = false) (hfn : s.lineFn p i = none) :
    s.lineRise p i =
      if s.irqHeld then (s.addWrap RF.WFR_IRQ_SENT_COALESCED 0 0 1).withIrq
        { s.irq with lines := s.risenLines (hdrInst p i), pending := true }
      else (s.withIrq { s.irq with lines := s.risenLines (hdrInst p i) }).irqSend := by
  have hhigh : s.dropLines.lineHigh (hdrInst p i) = true := h
  have hfrozen' : s.dropLines.h0Frozen = false := hfrozen
  have hfn' : s.dropLines.lineFn p i = none := hfn
  have hseen : s.dropLines.irq.lines.contains (hdrInst p i) = false := by
    simp only [List.contains_eq_mem, decide_eq_false_iff_not] at hnew ⊢
    exact fun hmem => hnew (List.mem_of_mem_filter hmem)
  unfold State.lineRise
  dsimp only
  rw [if_neg (by rw [hhigh, hseen, hfrozen']; exact Bool.false_ne_true), hfn']
  rfl

theorem exec_irqLineRise {place : RegPlace} {p : Page} {i : Nat} (h : placePage place = some (p, i)) :
    exec (.irqLineRise place) s = .next (s.lineRise p i) := by
  show execIrqLineRise place s = _
  rw [execIrqLineRise, h]

/-! ### First-error captures (R739) -/

/-- A page's first-error register is one of its own. -/
theorem page_of_errReg {p : Page} {r : Reg} (h : p.info.errReg = some r) : r.info.page = some p := by
  have hall : ∀ p ∈ Page.all, ∀ r ∈ p.info.errReg, r.info.page = some p := by decide +kernel
  exact hall p (by cases p <;> decide) r h

/-- Each capture register is listed once, VALID and MORE lie within it, and it is none of the registers that are
cleared with it. -/
theorem captureRegs_spec {r : Reg} {b : Nat} (h : (r, b) ∈ captureRegs) :
    captureRegs.find? (fun c => decide (c.1 = r)) = some (r, b) ∧ b + 1 < 64 ∧ r ≠ .HDR_ERR_TIME ∧
      r ≠ .FLD_CMN_ERR_ADDR ∧ r ≠ .FLD_CMN_ERR_SOURCE ∧ r ≠ .HBM_ERR_ADDR := by
  have hall : ∀ c ∈ captureRegs, captureRegs.find? (fun d => decide (d.1 = c.1)) = some c ∧ c.2 + 1 < 64 ∧
      c.1 ≠ .HDR_ERR_TIME ∧ c.1 ≠ .FLD_CMN_ERR_ADDR ∧ c.1 ≠ .FLD_CMN_ERR_SOURCE ∧ c.1 ≠ .HBM_ERR_ADDR := by decide
  exact hall (r, b) h

theorem bit_w64_two_pow {b i : Nat} (hb : b < 64) : bit (w64 (2 ^ b)) i = decide (i = b) := by
  rw [bit, w64, BitVec.getLsbD_ofNat, Nat.testBit_two_pow]
  by_cases h : i = b
  · simp [h, hb]
  · simp [h, Ne.symm h]

theorem State.rd_clearRest (s : State) (r q : Reg) (i j n : Nat) (h1 : q ≠ .FLD_CMN_ERR_ADDR)
    (h2 : q ≠ .FLD_CMN_ERR_SOURCE) (h3 : q ≠ .HBM_ERR_ADDR) : (s.clearRest r i).rd q j n = s.rd q j n := by
  unfold State.clearRest
  split
  · rw [State.rd_wr_reg _ _ _ _ _ h2, State.rd_wr_reg _ _ _ _ _ h1]
  · exact State.rd_wr_reg _ _ _ _ _ h3 _
  · rfl

theorem State.clearRest_frame (s : State) (r : Reg) (i : Nat) :
    s.clearRest r i = { s with regs := (s.clearRest r i).regs } := by
  unfold State.clearRest
  split <;> rfl

theorem State.clearErrTime_eq {p : Page} {r : Reg} (h : p.info.errReg = some r) (s : State) (i : Nat) :
    s.clearErrTime r i = s.wr .HDR_ERR_TIME (hdrInst p i) 0 0#64 := by
  unfold State.clearErrTime
  rw [page_of_errReg h]
  exact if_pos h

/-- A 1 to VALID of a page's capture: the capture, what belongs to it and its error time are cleared. -/
def State.captureCleared (s : State) (p : Page) (r : Reg) (i : Nat) : State :=
  ((s.wr r i 0 0#64).clearRest r i).wr .HDR_ERR_TIME (hdrInst p i) 0 0#64

theorem State.captureCleared_frame (s : State) (p : Page) (r : Reg) (i : Nat) :
    s.captureCleared p r i = { s with regs := (s.captureCleared p r i).regs } := by
  have hframe := (s.wr r i 0 0#64).clearRest_frame r i
  unfold State.captureCleared
  generalize (s.wr r i 0 0#64).clearRest r i = t at hframe
  rw [hframe]
  rfl

theorem State.errTime_captureCleared (s : State) (p : Page) (r : Reg) (i : Nat) :
    (s.captureCleared p r i).rd .HDR_ERR_TIME (hdrInst p i) 0 = 0#64 := State.rd_wr_same _ _ _ _ _

theorem State.rd_captureCleared {r : Reg} {b : Nat} (hmem : (r, b) ∈ captureRegs) (s : State) (p : Page) (i : Nat) :
    (s.captureCleared p r i).rd r i 0 = 0#64 := by
  obtain ⟨-, -, htime, haddr, hsource, hhbm⟩ := captureRegs_spec hmem
  rw [State.captureCleared, State.rd_wr_reg _ _ _ _ _ htime, State.rd_clearRest _ _ _ _ _ _ haddr hsource hhbm,
    State.rd_wr_same]

@[simp] theorem State.rd_dropLines (s : State) (r : Reg) (i n : Nat) : s.dropLines.rd r i n = s.rd r i n := rfl

theorem State.captureWrite_valid {p : Page} {r : Reg} {b : Nat} (herr : p.info.errReg = some r)
    (hmem : (r, b) ∈ captureRegs) (hr : r ≠ .HST_FN_WIN_ERR) (s : State) (i : Nat) :
    s.captureWrite r b i (w64 (2 ^ b)) = s.captureCleared p r i := by
  obtain ⟨-, hb, -⟩ := captureRegs_spec hmem
  unfold State.captureWrite
  dsimp only
  rw [if_pos (by rw [bit_w64_two_pow (by omega)]; exact decide_eq_true rfl), captureKeep, if_neg hr,
    State.clearErrTime_eq herr]
  rfl

theorem State.captureWrite_more {r : Reg} {b : Nat} (hmem : (r, b) ∈ captureRegs) (hr : r ≠ .HST_FN_WIN_ERR)
    (s : State) (i : Nat) :
    s.captureWrite r b i (w64 (2 ^ (b + 1))) = s.wr r i 0 (putBits (s.rd r i 0) (b + 1) 1 0) := by
  obtain ⟨-, hb, -⟩ := captureRegs_spec hmem
  unfold State.captureWrite
  dsimp only
  rw [if_neg (by rw [bit_w64_two_pow hb]; simp), if_neg hr,
    if_pos (by rw [bit_w64_two_pow hb]; exact decide_eq_true rfl)]

theorem exec_errCaptureClear {place : RegPlace} {p : Page} {i b : Nat} {r : Reg} (hplace : placePage place = some (p, i))
    (hup : s.pageUp p = true) (herr : p.info.errReg = some r) (hmem : (r, b) ∈ captureRegs) (more : Bool) :
    exec (.errCaptureClear place false more) s =
      .next (s.captureWrite r b i (w64 (2 ^ (if more then b + 1 else b)))).dropLines := by
  obtain ⟨hfind, -⟩ := captureRegs_spec hmem
  show execErrCaptureClear place false more s = _
  unfold execErrCaptureClear
  rw [hplace]
  dsimp only
  rw [if_neg (by simp [hup]), if_neg (by decide), herr]
  dsimp only
  rw [hfind]

theorem exec_errCaptureClear_writeErr {place : RegPlace} {p : Page} {i : Nat} (hplace : placePage place = some (p, i))
    (hup : s.pageUp p = true) : exec (.errCaptureClear place true false) s =
      .next (s.wr .HDR_WRITE_ERR (hdrInst p i) 0 0#64).dropLines := by
  show execErrCaptureClear place true false s = _
  unfold execErrCaptureClear
  rw [hplace]
  dsimp only
  rw [if_neg (by simp [hup]), if_pos rfl, State.writeErrClear, State.captureWrite,
    if_pos (by rw [if_neg (by decide), bit_w64_two_pow (by decide)]; rfl)]
  rfl

theorem bit_putBits_same (v : Word) {i : Nat} (hi : i < 64) : bit (putBits v i 1 0) i = false := by
  rw [bit, getLsbD_putBits v i 1 0 i hi, if_pos (by omega), Nat.zero_testBit]

theorem bit_putBits_below (v : Word) {i : Nat} (hi : i + 1 < 64) : bit (putBits v (i + 1) 1 0) i = bit v i := by
  rw [bit, getLsbD_putBits v (i + 1) 1 0 i (by omega), if_neg (by omega)]
  rfl

end

/-- Settles O47: lines go by `State.lineRise_of_new` and `State.irqWasSent_irqSend`, captures by the two cases of
`State.captureWrite`. Logs 190 and 191 (DEDUCED). -/
theorem interruptsAndCaptures : Obligations.InterruptsAndCaptures := by
  unfold Obligations.InterruptsAndCaptures
  refine ⟨?rise, ?low, ?expire, ?rearm, ?quiet, ?capture, ?writeErr⟩
  case rise =>
    rintro place p i s ⟨hplace, hhigh, hnew, hfrozen, hfn⟩
    refine ⟨_, exec_irqLineRise hplace, ?_⟩
    rw [State.lineRise_of_new hhigh hnew hfrozen hfn]
    have hseen : (s.risenLines (hdrInst p i)).contains (hdrInst p i) = true := contains_setInsert_self _ _
    cases hheld : s.irqHeld with
    | true =>
      exact ⟨⟨hseen, fun _ => ⟨rfl, rfl, s.getF_addWrap_same RF.WFR_IRQ_SENT_COALESCED 0 0 1 (by decide)⟩, by simp⟩,
        rfl, s.onlyRegs_addWrap (f := RF.WFR_IRQ_SENT_COALESCED) 0 0 1 (by decide)⟩
    | false =>
      rw [if_neg (by decide), State.irqSend_withIrq]
      refine ⟨⟨hseen, by simp, fun _ => s.irqWasSent_irqSend⟩, ?_, s.onlyRegs_irqSend⟩
      have hframe := s.irqSend_frame
      generalize s.irqSend = t at hframe
      rw [hframe]
      rfl
  case low =>
    rintro place p i s ⟨hplace, hlow⟩
    refine ⟨_, exec_irqLineRise hplace, ?_⟩
    rw [State.lineRise_of_seen hlow]
    refine ⟨⟨?_, rfl, rfl⟩, rfl, s.onlyRegs_refl _⟩
    simp [State.dropLines, hlow]
  case expire =>
    intro s
    by_cases h : (s.irq.pending && s.waferLine) = true
    · refine ⟨s.irqSend, if_pos h, ⟨fun _ _ => s.irqWasSent_irqSend, fun hno => ?_⟩, s.irqSend_frame, s.onlyRegs_irqSend⟩
      rcases hno with hno | hno <;> simp [hno] at h
    · refine ⟨_, if_neg h, ⟨fun hp hl => ?_, fun _ => ⟨rfl, rfl, rfl⟩⟩, rfl, s.onlyRegs_refl _⟩
      simp [hp, hl] at h
  case rearm =>
    intro s hline
    exact ⟨s.irqSend, congrArg Host.Outcome.next (if_pos hline), ⟨s.irqWasSent_irqSend, rfl⟩, s.irqSend_frame,
      s.onlyRegs_irqSend⟩
  case quiet =>
    intro s hline
    exact ⟨s, congrArg Host.Outcome.next (if_neg (by simp [hline])), rfl, rfl, s.onlyRegs_refl _⟩
  case capture =>
    rintro place _ more p i r b s ⟨hplace, hup, rfl, herr, hmem, hr⟩
    refine ⟨_, exec_errCaptureClear hplace hup herr hmem more, ?_⟩
    simp only [State.rd_dropLines]
    cases more with
    | false =>
      rw [if_neg (by decide), State.captureWrite_valid herr hmem hr]
      refine ⟨⟨fun _ => ⟨State.rd_captureCleared hmem s p i, s.errTime_captureCleared p r i⟩, by simp⟩, ?_⟩
      rw [s.captureCleared_frame p r i]
      rfl
    | true =>
      obtain ⟨-, hb, -⟩ := captureRegs_spec hmem
      rw [if_pos rfl, State.captureWrite_more hmem hr, State.rd_wr_same]
      exact ⟨⟨by simp, fun _ => ⟨bit_putBits_same _ hb, bit_putBits_below _ hb⟩⟩, rfl⟩
  case writeErr =>
    rintro place _ _ p i s ⟨hplace, hup, rfl, rfl⟩
    exact ⟨_, exec_errCaptureClear_writeErr hplace hup, (State.rd_dropLines _ _ _ _).trans (State.rd_wr_same _ _ _ _ _),
      rfl⟩

end Sys2Proof.Machine

/-! Register writes by the marks of their fields, ignored writes, reads and doorbells (O48). -/

namespace Sys2Proof.Machine

section
variable {s : State}

/-! ### The marks of fields (R736) -/

/-- The fields of a register lie within it and do not meet. -/
def fieldsApart : List FieldInfo → Bool
  | [] => true
  | x :: l => decide (x.lo + x.w ≤ 64) &&
      l.all (fun y => decide (x.lo + x.w ≤ y.lo) || decide (y.lo + y.w ≤ x.lo)) && fieldsApart l

theorem fieldsApart_of_regAt {p : Page} {i off : Nat} {r : Reg} {j k : Nat} (h : regAt p i off = some (r, j, k)) :
    fieldsApart r.info.fields = true := by
  have hall : ∀ p ∈ Page.all, ∀ r ∈ headerRegs ++ p.regs, fieldsApart r.info.fields = true := by decide +kernel
  refine hall p (by cases p <;> decide) r (List.mem_append.mpr ?_)
  unfold regAt at h
  split at h
  · obtain ⟨q, hq, heq⟩ := Option.map_eq_some_iff.mp h
    obtain ⟨rfl, -⟩ := Prod.mk.inj heq
    exact .inl (List.mem_of_find?_eq_some hq)
  · split at h
    · next q hq =>
      obtain ⟨n, -, heq⟩ := Option.map_eq_some_iff.mp h
      obtain ⟨rfl, -⟩ := Prod.mk.inj heq
      exact .inr (List.mem_of_find?_eq_some hq)
    · exact absurd h (by simp)

/-- What a field holds after a write, by its mark. -/
def fieldValue (x : FieldInfo) (old v : Word) : Nat :=
  match x.acc with
  | .rw => bits v x.lo x.w
  | .rw1c => if bits v x.lo x.w = 0 then bits old x.lo x.w else 0
  | .rw1cBits => bits (old &&& ~~~v) x.lo x.w
  | _ => bits old x.lo x.w

theorem fieldAfter_iff (x : FieldInfo) (old v new : Word) :
    fieldAfter x old v new = true ↔ bits new x.lo x.w = fieldValue x old v := by
  unfold fieldAfter fieldValue
  cases x.acc <;> exact decide_eq_true_iff

theorem bits_andNot_congr {w u : Word} {lo n : Nat} (h : bits w lo n = bits u lo n) (v : Word) :
    bits (w &&& ~~~v) lo n = bits (u &&& ~~~v) lo n := by
  apply Nat.eq_of_testBit_eq
  intro i
  have hi := congrArg (fun m => m.testBit i) h
  simp only [testBit_bits] at hi ⊢
  rw [BitVec.getLsbD_and, BitVec.getLsbD_and, ← Bool.and_assoc, ← Bool.and_assoc, hi]

theorem fieldValue_congr {x : FieldInfo} {w u : Word} (h : bits w x.lo x.w = bits u x.lo x.w) (v : Word) :
    fieldValue x w v = fieldValue x u v := by
  unfold fieldValue
  rw [h, bits_andNot_congr h v]

/-- One field's part of a write replaces that field alone. -/
theorem writeField_eq (v w : Word) (x : FieldInfo) : ∃ n, writeField v w x = putBits w x.lo x.w n := by
  unfold writeField
  split
  · exact ⟨_, rfl⟩
  · split
    · exact ⟨_, (putBits_bits w x.lo x.w).symm⟩
    · exact ⟨_, rfl⟩
  · exact ⟨_, rfl⟩
  · exact ⟨_, (putBits_bits w x.lo x.w).symm⟩

theorem bits_writeField_same (v w : Word) {x : FieldInfo} (hx : x.lo + x.w ≤ 64) :
    bits (writeField v w x) x.lo x.w = fieldValue x w v := by
  have hfits (u : Word) : bits u x.lo x.w % 2 ^ x.w = bits u x.lo x.w := Nat.mod_eq_of_lt (bits_lt u x.lo x.w)
  unfold writeField fieldValue
  cases x.acc with
  | rw => exact (bits_putBits_same _ _ _ _ hx).trans (hfits v)
  | rw1c =>
    dsimp only
    split
    · rfl
    · exact bits_putBits_same _ _ _ _ hx
  | rw1cBits => exact (bits_putBits_same _ _ _ _ hx).trans (hfits _)
  | ro | w1 | wo => rfl

theorem bits_writeField_other (v w : Word) {x y : FieldInfo} (hx : x.lo + x.w ≤ 64)
    (h : x.lo + x.w ≤ y.lo ∨ y.lo + y.w ≤ x.lo) : bits (writeField v w y) x.lo x.w = bits w x.lo x.w := by
  obtain ⟨n, hn⟩ := writeField_eq v w y
  rw [hn]
  exact bits_putBits_other _ _ _ _ _ _ hx h

theorem bits_writeFields_other (v : Word) {x : FieldInfo} (hx : x.lo + x.w ≤ 64) {l : List FieldInfo}
    (h : ∀ y ∈ l, x.lo + x.w ≤ y.lo ∨ y.lo + y.w ≤ x.lo) (w : Word) :
    bits (l.foldl (writeField v) w) x.lo x.w = bits w x.lo x.w := by
  induction l generalizing w with
  | nil => rfl
  | cons y l ih =>
    obtain ⟨hy, hl⟩ := List.forall_mem_cons.mp h
    exact (ih hl _).trans (bits_writeField_other v w hx hy)

theorem fits_of_fieldsApart {l : List FieldInfo} (h : fieldsApart l = true) {x : FieldInfo} (hx : x ∈ l) :
    x.lo + x.w ≤ 64 := by
  induction l with
  | nil => exact absurd hx (List.not_mem_nil)
  | cons y l ih =>
    simp only [fieldsApart, Bool.and_eq_true, decide_eq_true_eq] at h
    obtain ⟨⟨hfits, -⟩, hrest⟩ := h
    rcases List.mem_cons.mp hx with rfl | hmem
    · exact hfits
    · exact ih hrest hmem

theorem bits_writeFields_same (v : Word) {l : List FieldInfo} (h : fieldsApart l = true) {x : FieldInfo} (hx : x ∈ l)
    (w : Word) : bits (l.foldl (writeField v) w) x.lo x.w = fieldValue x w v := by
  induction l generalizing w with
  | nil => exact absurd hx (List.not_mem_nil)
  | cons y l ih =>
    simp only [fieldsApart, Bool.and_eq_true, decide_eq_true_eq, List.all_eq_true, Bool.or_eq_true] at h
    obtain ⟨⟨hfits, hapart⟩, hrest⟩ := h
    rw [List.foldl_cons]
    rcases List.mem_cons.mp hx with rfl | hmem
    · exact (bits_writeFields_other v hfits hapart _).trans (bits_writeField_same v w hfits)
    · have hxfits := fits_of_fieldsApart hrest hmem
      rw [ih hrest hmem]
      exact fieldValue_congr (bits_writeField_other v w hxfits (hapart x hmem).symm) v

theorem State.fieldAfter_writeFields {r : Reg} (h : fieldsApart r.info.fields = true) (s : State) (j k : Nat) (v : Word) :
    r.info.fields.all (fun x => fieldAfter x (s.rd r j k) v ((s.writeFields r j k v).rd r j k)) = true := by
  rw [List.all_eq_true]
  intro x hx
  rw [fieldAfter_iff, State.writeFields, State.rd_wr_same]
  exact bits_writeFields_same v h hx _

/-- A register without an effect of its own takes the write by its marks. -/
theorem State.regEffect_of_plain {r : Reg} {j k : Nat} {v : Word} (h : s.plainWrite r j k v = true) :
    s.regEffect r j k v = (s.writeFields r j k v, 0) := by
  simp only [State.plainWrite, Bool.and_eq_true, decide_eq_true_eq, Option.isNone_iff_eq_none] at h
  obtain ⟨⟨⟨⟨⟨⟨⟨⟨hirq, herr⟩, hmbx⟩, hgpio⟩, hcapture⟩, hfield⟩, hparish⟩, hport⟩, hwafer⟩ := h
  have hfind : captureRegs.find? (fun c => decide (c.1 = r)) = none := by
    rw [List.find?_eq_none]
    intro c hc
    have := List.all_eq_true.mp hcapture c hc
    simpa using this
  unfold State.regEffect
  split
  · exact absurd rfl hirq
  · exact absurd rfl herr
  · exact absurd rfl hmbx
  · rw [if_neg hgpio, hfind, hfield, hparish, hport, hwafer]
    rfl

/-! ### Accesses by the inner paths (R736, R740) -/

theorem State.innerAccess_write {place : RegPlace} {p : Page} {i off : Nat} {data : List Byte}
    (hplace : placePage place = some (p, i)) (hlen : data.length = 8) (hoff : off % 8 = 0) (w : Writer) :
    s.innerAccess w place off (.write data) = s.pageWrite w p i off data := by
  unfold State.innerAccess
  rw [hplace]
  exact if_pos ⟨.inr hlen, by rw [hlen, hoff]⟩

theorem aligned_of_mod {off : Nat} (h : off % 8 = 0) : off / 8 * 8 = off := by omega

theorem State.writeWord_of_eight {r : Reg} {j k off : Nat} {data : List Byte} (hlen : data.length = 8) :
    s.writeWord r j k off data = w64 (leNat data) := if_neg (by omega)

theorem State.pageWrite_plain {p : Page} {i off j k : Nat} {r : Reg} {data : List Byte} (hup : s.pageUp p = true)
    (hat : regAt p i (off / 8 * 8) = some (r, j, k)) (hlen : data.length = 8)
    (hplain : s.plainWrite r j k (w64 (leNat data)) = true)
    (hro : r.info.fields.all (fun x => decide (x.acc = .ro)) = false) :
    s.pageWrite .wctl p i off data = (s.writeFields r j k (w64 (leNat data))).dropLines := by
  have hwriter : s.regWriter .wctl p i r = true := rfl
  unfold State.pageWrite
  rw [hup, hat]
  dsimp only
  rw [if_neg (by decide), if_neg (by rw [hwriter]; decide), if_neg (by rw [hro]; decide),
    State.writeWord_of_eight hlen, State.regEffect_of_plain hplain]
  rfl

theorem State.pageWrite_denied {w : Writer} {p : Page} {i off j k : Nat} {r : Reg} {data : List Byte}
    (hup : s.pageUp p = true) (hat : regAt p i (off / 8 * 8) = some (r, j, k)) (hno : s.regWriter w p i r = false) :
    s.pageWrite w p i off data = s.writeErr p i off 3 := by
  unfold State.pageWrite
  rw [hup, hat]
  dsimp only
  rw [if_neg (by decide), if_pos (by rw [hno]; rfl)]

theorem State.pageWrite_noRegister {p : Page} {i off : Nat} {data : List Byte}
    (hup : s.pageUp p = true) (hat : regAt p i (off / 8 * 8) = none) :
    s.pageWrite .wctl p i off data = s.writeErr p i off 1 := by
  unfold State.pageWrite
  rw [hup, hat]
  rfl

theorem State.pageWrite_readOnly {p : Page} {i off j k : Nat} {r : Reg} {data : List Byte}
    (hup : s.pageUp p = true) (hat : regAt p i (off / 8 * 8) = some (r, j, k))
    (hro : r.info.fields.all (fun x => decide (x.acc = .ro)) = true) :
    s.pageWrite .wctl p i off data = s.writeErr p i off 2 := by
  unfold State.pageWrite
  rw [hup, hat]
  exact if_pos hro

theorem State.innerAccess_down {place : RegPlace} {p : Page} {i off : Nat} {data : List Byte} {w : Writer}
    (hplace : placePage place = some (p, i)) (hup : s.pageUp p = false) :
    s.innerAccess w place off (.write data) = s := by
  have hpage : s.pageWrite w p i off data = s := if_pos (by rw [hup]; decide)
  unfold State.innerAccess
  rw [hplace]
  dsimp only
  rw [hpage, ite_self]

/-! ### Ignored writes (R734, R736) -/

theorem State.onlyRegs_writeErr (s : State) (p : Page) (i off cause : Nat) :
    s.onlyRegs [.HDR_WRITE_ERR] (s.writeErr p i off cause) := by
  unfold State.writeErr
  dsimp only
  split
  · exact s.onlyRegs_setFlag (f := RF.HDR_WRITE_ERR_MORE) _ 0 true (by decide)
  · exact ((s.onlyRegs_setF (f := RF.HDR_WRITE_ERR_OFFSET) _ 0 off (by decide)).trans
      (State.onlyRegs_setF _ (f := RF.HDR_WRITE_ERR_CAUSE) _ 0 cause (by decide))).trans
      (State.onlyRegs_setFlag _ (f := RF.HDR_WRITE_ERR_VALID) _ 0 true (by decide))

theorem State.rd_writeErr (s : State) (p : Page) (i off cause : Nat) {q : Reg} (hq : q ≠ .HDR_WRITE_ERR) (a b : Nat) :
    (s.writeErr p i off cause).rd q a b = s.rd q a b :=
  s.onlyRegs_writeErr p i off cause q a b (by simpa using hq)

/-- The first ignored write is captured with its offset and cause, a later one sets MORE. -/
theorem State.writeIgnored_writeErr (s : State) (p : Page) (i : Nat) {off cause : Nat} (hoff : off < 4096)
    (hcause : cause < 4) : s.writeIgnored p i off cause (s.writeErr p i off cause) = true := by
  unfold State.writeIgnored State.writeErr
  dsimp only
  by_cases hvalid : s.flag RF.HDR_WRITE_ERR_VALID (hdrInst p i) 0 = true
  · rw [if_pos hvalid, if_pos hvalid, State.flag_setFlag_disjoint (f := RF.HDR_WRITE_ERR_MORE) (g := RF.HDR_WRITE_ERR_VALID)
      _ _ _ _ rfl (by decide) (by decide), hvalid, State.flag_setFlag_same _ RF.HDR_WRITE_ERR_MORE _ _ _ (by decide) rfl]
    rfl
  · rw [if_neg hvalid, if_neg hvalid, State.flag_setFlag_same _ RF.HDR_WRITE_ERR_VALID _ _ _ (by decide) rfl]
    have hkept (t : State) {x : RF} (hreg : x.reg = .HDR_WRITE_ERR) (hw : x.lo + x.w ≤ 64)
        (h : x.lo + x.w ≤ RF.HDR_WRITE_ERR_VALID.lo) : (t.setFlag RF.HDR_WRITE_ERR_VALID (hdrInst p i) 0 true).getF x
          (hdrInst p i) 0 = t.getF x (hdrInst p i) 0 := t.getF_setF_disjoint _ _ _ hreg hw (.inl h)
    rw [hkept _ rfl (by decide) (by decide), hkept _ rfl (by decide) (by decide),
      State.getF_setF_fits _ (x := RF.HDR_WRITE_ERR_CAUSE) _ _ hcause (by decide),
      State.getF_setF_disjoint _ (f := RF.HDR_WRITE_ERR_CAUSE) (g := RF.HDR_WRITE_ERR_OFFSET) _ _ _ rfl (by decide)
        (by decide), State.getF_setF_fits _ (x := RF.HDR_WRITE_ERR_OFFSET) _ _ hoff (by decide)]
    simp

/-! ### A read, and a doorbell -/

theorem State.readPage_rcvCtl {p : Page} {i off j k n : Nat} (hup : s.pageUp p = true) (hoff : off % 8 = 0)
    (hat : regAt p i off = some (.WFR_RCV_CTL, j, k)) :
    s.readPage p i off n = (s.fresh.2, (leBytes 8 (s.rd .WFR_RCV_CTL j k).toNat).take n) := by
  have hword : s.readWord p i off true = (s.fresh.2, s.rd .WFR_RCV_CTL j k) := by
    unfold State.readWord
    rw [hup, hat]
    rfl
  unfold State.readPage
  rw [aligned_of_mod hoff, hoff, show decide (0 = 0) = true from rfl, hword]
  rfl

theorem bar4Of_doorbell (p : ParishId) (r : RingId) : bar4Of 0 (4096 * (64 * p.val + r.val)) = .ring p r := by
  have hp := p.isLt
  have hr := r.isLt
  have hslot : 4096 * (64 * p.val + r.val) / 4096 = 64 * p.val + r.val := by omega
  have hparish : (64 * p.val + r.val) / 64 = p.val := by omega
  have hring : (64 * p.val + r.val) % 64 = r.val := by omega
  unfold bar4Of
  simp only [↓reduceIte, hslot, hparish, hring]
  rw [if_neg (by omega), if_neg (by omega), if_neg (by omega), if_neg (by omega), if_pos ⟨trivial, by omega⟩]
  simp [Fin.ofNat, Nat.mod_eq_of_lt hp, Nat.mod_eq_of_lt hr]

theorem State.bar4Access_doorbell {p : ParishId} {r : RingId} {off : Nat} {data : List Byte} (hlen : data.length = 4)
    (hoff : bar4Of 0 off = .ring p r) : s.bar4Access 0 off (.write data) = s.ringDoorbell p r (leNat data % 65536) := by
  unfold State.bar4Access
  rw [show bar4Of (0 : FnId).val off = .ring p r from hoff]
  dsimp only
  rw [if_neg (by omega)]

end

/-- Settles O48: a write of a page is one of the branches of `State.pageWrite`. Causes 3 before 1 and 2 are log 189
(DEDUCED), reads on this row log 8 (DESIGN CHOICE). -/
theorem registerAccesses : Obligations.RegisterAccesses := by
  unfold Obligations.RegisterAccesses
  refine ⟨?plain, ?denied, ?noRegister, ?readOnly, ?down, ?read, ?doorbell⟩
  case plain =>
    rintro _ _ place offset data p i r j k s ⟨rfl, rfl, hlen, hoff, hplace, hup, hat, hplain, hro⟩
    refine ⟨_, congrArg Host.Outcome.next ((State.innerAccess_write hplace hlen hoff .wctl).trans
      (State.pageWrite_plain hup (by rw [aligned_of_mod hoff]; exact hat) hlen hplain hro)), ?_, rfl,
      fun q a b hq => State.rd_wr_reg _ _ _ _ _ hq _, rfl, rfl⟩
    exact State.fieldAfter_writeFields (fieldsApart_of_regAt hat) s j k _
  case denied =>
    rintro _ _ place offset data p i r j k s ⟨rfl, rfl, hlen, hoff, hplace, hup, hat, hno⟩
    exact ⟨_, congrArg Host.Outcome.next ((State.innerAccess_write hplace hlen hoff .reeve).trans
      (State.pageWrite_denied hup (by rw [aligned_of_mod hoff]; exact hat) hno)),
      s.writeIgnored_writeErr p i offset.isLt (by decide), fun q a b hq => s.rd_writeErr p i _ _ hq a b⟩
  case noRegister =>
    rintro _ _ place offset data p i s ⟨rfl, rfl, hlen, hoff, hplace, hup, hat⟩
    exact ⟨_, congrArg Host.Outcome.next ((State.innerAccess_write hplace hlen hoff .wctl).trans
      (State.pageWrite_noRegister hup (by rw [aligned_of_mod hoff]; exact hat))),
      s.writeIgnored_writeErr p i offset.isLt (by decide), fun q a b hq => s.rd_writeErr p i _ _ hq a b⟩
  case readOnly =>
    rintro _ _ place offset data p i r j k s ⟨rfl, rfl, hlen, hoff, hplace, hup, hat, hro⟩
    exact ⟨_, congrArg Host.Outcome.next ((State.innerAccess_write hplace hlen hoff .wctl).trans
      (State.pageWrite_readOnly hup (by rw [aligned_of_mod hoff]; exact hat) hro)),
      s.writeIgnored_writeErr p i offset.isLt (by decide), fun q a b hq => s.rd_writeErr p i _ _ hq a b⟩
  case down =>
    rintro _ _ place offset data p i s ⟨rfl, rfl, hplace, hup⟩
    exact ⟨s, congrArg Host.Outcome.next (State.innerAccess_down hplace hup), rfl⟩
  case read =>
    rintro _ _ place offset n p i _ j k s ⟨rfl, rfl, -, hoff, hplace, hup, hat, rfl⟩
    refine ⟨s.fresh.2.send (.regRead (w64 (leNat ((leBytes 8 (s.rd .WFR_RCV_CTL j k).toNat).take n)))),
      congrArg Host.Outcome.next ?_, rfl, rfl, rfl⟩
    unfold State.innerAccess
    rw [hplace]
    dsimp only
    rw [State.readPage_rcvCtl hup hoff hat]
  case doorbell =>
    rintro _ _ p r data s ⟨rfl, rfl, hlen, hready, hon⟩
    have hoff : (BitVec.ofNat 24 (4096 * (64 * p.val + r.val))).toNat = 4096 * (64 * p.val + r.val) := by
      have hp := p.isLt
      have hr := r.isLt
      rw [BitVec.toNat_ofNat]
      omega
    refine ⟨_, ?_, rfl⟩
    refine (if_pos (by rw [hready, show s.fnOn (0 : FnId).val = true from hon]; rfl)).trans (congrArg Host.Outcome.next ?_)
    exact State.bar4Access_doorbell hlen (by rw [hoff]; exact bar4Of_doorbell p r)

end Sys2Proof.Machine

/-! The Reeve's mailbox: what taking and answering a command changes (R576, R772), and the commands of O38. -/

namespace Sys2Proof.Machine

section
variable {s t u : State} {src : MbxSource} {l : List Reg}

/-! ### A command is taken -/

/-- The state in which a taken command runs: the mailbox of the physical function is BUSY and holds none that waits. -/
def State.mbxTaken (s : State) (src : MbxSource) : State :=
  if src = .pf then (s.setFlag RF.RVE_MBX_STAT_BUSY 0 0 true).modReeve (fun r => { r with posted := none }) else s

theorem State.onlyRegs_mbxTaken (s : State) (src : MbxSource) : s.onlyRegs [.RVE_MBX_STAT] (s.mbxTaken src) := by
  unfold State.mbxTaken
  split
  · exact s.onlyRegs_setFlag (f := RF.RVE_MBX_STAT_BUSY) 0 0 true (by decide)
  · exact s.onlyRegs_refl _

theorem State.mbxServes_mbxTaken (s : State) (src : MbxSource) (code : Nat) :
    (s.mbxTaken src).mbxServes code = s.mbxServes code := by
  have h := s.onlyRegs_mbxTaken src
  unfold State.mbxServes State.lifecycle
  rw [h.getF (x := RF.RVE_LIFECYCLE_STATE) (by decide), h.flag (x := RF.RVE_LIFECYCLE_RECOVERY_MODE) (by decide)]

theorem State.mailbox_of_takes {code : Nat} {allowed : List MbxSource} (h : s.mbxTakes src code allowed = true)
    (run : State → State) : s.mailbox src code allowed run = run (s.mbxTaken src) := by
  have hserve := s.mbxServes_mbxTaken src code
  simp only [State.mbxTakes, Bool.and_eq_true, decide_eq_true_eq, Bool.or_eq_true, Bool.not_eq_true'] at h
  obtain ⟨⟨⟨⟨hon, hstage⟩, hallowed⟩, hserves⟩, hfree⟩ := h
  rw [hserves] at hserve
  have hwait : (s.beforeReeve && decide (code ≠ 0x01)) = false := by
    rcases hstage with h1 | h1
    · rw [h1]
      simp
    · rw [h1, Bool.false_and]
  unfold State.mailbox
  dsimp only
  rw [if_neg hon]
  by_cases hpf : src = .pf
  · subst hpf
    have hbusy : (s.flag RF.RVE_MBX_STAT_BUSY 0 0 && decide (s.reeve.posted ≠ some code)) = false := by
      rcases hfree with (h1 | h1) | h1
      · exact absurd rfl h1
      · rw [h1, Bool.false_and]
      · rw [h1]
        simp
    have htaken : s.mbxTaken .pf =
      (s.setFlag RF.RVE_MBX_STAT_BUSY 0 0 true).modReeve (fun r => { r with posted := none }) := if_pos rfl
    rw [htaken] at hserve ⊢
    rw [if_pos rfl, hbusy, if_neg (by decide), hwait, if_neg (by decide), hallowed, if_neg (by decide), hserve]
    rfl
  · have htaken : s.mbxTaken src = s := if_neg hpf
    rw [if_neg hpf, hwait, if_neg (by decide), hallowed, if_neg (by decide), if_neg (by rw [hserves]; decide), htaken]

/-! ### A command runs and is answered -/

/-- What a command has changed when it is answered: registers of `l`, the Reeve's records, what is sent; its mailbox
has counted nothing and holds no command that waits. -/
structure State.mbxRun (s : State) (src : MbxSource) (l : List Reg) (u : State) : Prop where
  eq : u = { s with regs := u.regs, host := u.host, reeve := u.reeve, out := u.out }
  regs : s.onlyRegs (.RVE_MBX_STAT :: l) u
  count : u.getF RF.RVE_MBX_STAT_COMPLETED 0 0 = s.getF RF.RVE_MBX_STAT_COMPLETED 0 0
  posted : src = .pf → u.reeve.posted = none

theorem State.mbxRun_mbxTaken (s : State) (src : MbxSource) (l : List Reg) : s.mbxRun src l (s.mbxTaken src) := by
  unfold State.mbxTaken
  split
  · exact ⟨rfl, s.onlyRegs_setFlag (f := RF.RVE_MBX_STAT_BUSY) 0 0 true (List.mem_cons_self ..),
      s.getF_setF_disjoint (f := RF.RVE_MBX_STAT_BUSY) (g := RF.RVE_MBX_STAT_COMPLETED) 0 0 _ rfl (by decide) (by decide),
      fun _ => rfl⟩
  · next h => exact ⟨rfl, s.onlyRegs_refl _, rfl, fun e => absurd e h⟩

theorem State.mbxRun.setF (h : s.mbxRun src l u) {x : RF} (hx : x.reg ∈ l) (hne : x.reg ≠ .RVE_MBX_STAT) (i n v : Nat) :
    s.mbxRun src l (u.setF x i n v) where
  eq := by
    rw [h.eq]
    rfl
  regs := h.regs.trans (u.onlyRegs_setF i n v (List.mem_cons_of_mem _ hx))
  count := (u.getF_setF_reg i n 0 0 v hne.symm).trans h.count
  posted := h.posted

theorem State.mbxRun.setFlag (h : s.mbxRun src l u) {x : RF} (hx : x.reg ∈ l) (hne : x.reg ≠ .RVE_MBX_STAT) (i n : Nat)
    (b : Bool) : s.mbxRun src l (u.setFlag x i n b) := h.setF hx hne i n _

theorem State.mbxRun.modReeve (h : s.mbxRun src l u) {g : Reeve → Reeve} (hg : (g u.reeve).posted = u.reeve.posted) :
    s.mbxRun src l (u.modReeve g) where
  eq := by
    rw [h.eq]
    rfl
  regs := h.regs
  count := h.count
  posted hpf := hg.trans (h.posted hpf)

theorem State.mbxRun.ite {c : Prop} [Decidable c] (ht : s.mbxRun src l t) (hu : s.mbxRun src l u) :
    s.mbxRun src l (if c then t else u) := by
  split
  · exact ht
  · exact hu

theorem State.mbxRun.rd_eq (h : s.mbxRun src l u) {r : Reg} (hr : r ∉ Reg.RVE_MBX_STAT :: l) (i n : Nat) :
    u.rd r i n = s.rd r i n := h.regs r i n hr

/-- Registers that an answer may change. -/
def mbxRegs : List Reg := [.HST_PORT_EVENT, .HST_PORT_MSIX_DROP, .RVE_MBX_EVENT, .RVE_MBX_STAT]

/-- What an answer may change. -/
structure State.mbxOnly (l : List Reg) (s t : State) : Prop where
  eq : t = { s with regs := t.regs, host := t.host, reeve := t.reeve, out := t.out }
  regs : s.onlyRegs l t

/-- RVE_MBX_STAT with a result. -/
def State.mbxStat (u : State) (result len : Nat) : State :=
  ((u.setF RF.RVE_MBX_STAT_RESULT 0 0 result).setF RF.RVE_MBX_STAT_RESP_LENGTH 0 0 len).setFlag
      RF.RVE_MBX_STAT_BUSY 0 0 false |>.addWrap RF.RVE_MBX_STAT_COMPLETED 0 0 1

/-- The answer in the mailbox registers, before DONE is raised. -/
def State.mbxResult (u : State) (result : Nat) (data : List Byte) : State :=
  (u.mbxStat result data.length).modReeve (fun r => { r with response := data })

theorem State.mbxResult_eq (u : State) (result : Nat) (data : List Byte) :
    ∃ regs reeve, u.mbxResult result data = { u with regs := regs, reeve := reeve } := ⟨_, _, rfl⟩

theorem State.mbxPost_pf (u : State) (result : Nat) (data : List Byte) :
    u.mbxPost .pf result data = (u.mbxResult result data).raise RF.RVE_MBX_EVENT_DONE 0 := if_pos rfl

theorem State.mbxPost_other (h : src ≠ .pf) (u : State) (result : Nat) (data : List Byte) :
    u.mbxPost src result data = u.send (.mailbox src result data) := if_neg h

theorem State.onlyRegs_mbxStat (u : State) (result len : Nat) : u.onlyRegs [.RVE_MBX_STAT] (u.mbxStat result len) :=
  (((u.onlyRegs_setF (f := RF.RVE_MBX_STAT_RESULT) 0 0 result (by decide)).trans
    (State.onlyRegs_setF _ (f := RF.RVE_MBX_STAT_RESP_LENGTH) 0 0 len (by decide))).trans
    (State.onlyRegs_setFlag _ (f := RF.RVE_MBX_STAT_BUSY) 0 0 false (by decide))).trans
    (State.onlyRegs_addWrap _ (f := RF.RVE_MBX_STAT_COMPLETED) 0 0 1 (by decide))

theorem State.getF_mbxStat (u : State) {result : Nat} (hres : result < 256) (len : Nat) :
    (u.mbxStat result len).getF RF.RVE_MBX_STAT_RESULT 0 0 = result ∧
      (u.mbxStat result len).getF RF.RVE_MBX_STAT_BUSY 0 0 = 0 ∧
      (u.mbxStat result len).getF RF.RVE_MBX_STAT_COMPLETED 0 0 =
        wrapAdd RF.RVE_MBX_STAT_COMPLETED.w (u.getF RF.RVE_MBX_STAT_COMPLETED 0 0) 1 := by
  unfold State.mbxStat State.addWrap State.setFlag
  refine ⟨?_, ?_, ?_⟩
  · rw [State.getF_setF_disjoint _ (f := RF.RVE_MBX_STAT_COMPLETED) (g := RF.RVE_MBX_STAT_RESULT) 0 0 _ rfl (by decide)
        (by decide),
      State.getF_setF_disjoint _ (f := RF.RVE_MBX_STAT_BUSY) (g := RF.RVE_MBX_STAT_RESULT) 0 0 _ rfl (by decide)
        (by decide),
      State.getF_setF_disjoint _ (f := RF.RVE_MBX_STAT_RESP_LENGTH) (g := RF.RVE_MBX_STAT_RESULT) 0 0 _ rfl (by decide)
        (by decide)]
    exact u.getF_setF_fits (x := RF.RVE_MBX_STAT_RESULT) 0 0 hres (by decide)
  · rw [State.getF_setF_disjoint _ (f := RF.RVE_MBX_STAT_COMPLETED) (g := RF.RVE_MBX_STAT_BUSY) 0 0 _ rfl (by decide)
        (by decide), State.getF_setF_same _ RF.RVE_MBX_STAT_BUSY 0 0 _ (by decide)]
    rfl
  · rw [State.getF_setF_same _ RF.RVE_MBX_STAT_COMPLETED 0 0 _ (by decide),
      State.getF_setF_disjoint _ (f := RF.RVE_MBX_STAT_BUSY) (g := RF.RVE_MBX_STAT_COMPLETED) 0 0 _ rfl (by decide)
        (by decide),
      State.getF_setF_disjoint _ (f := RF.RVE_MBX_STAT_RESP_LENGTH) (g := RF.RVE_MBX_STAT_COMPLETED) 0 0 _ rfl
        (by decide) (by decide),
      State.getF_setF_disjoint _ (f := RF.RVE_MBX_STAT_RESULT) (g := RF.RVE_MBX_STAT_COMPLETED) 0 0 _ rfl (by decide)
        (by decide)]
    exact Nat.mod_eq_of_lt (Nat.mod_lt _ (Nat.two_pow_pos _))

theorem State.onlyRegs.modReeve (h : s.onlyRegs l t) (g : Reeve → Reeve) : s.onlyRegs l (t.modReeve g) := h

theorem State.onlyRegs_mbxResult (u : State) (result : Nat) (data : List Byte) :
    u.onlyRegs [.RVE_MBX_STAT] (u.mbxResult result data) := (u.onlyRegs_mbxStat result data.length).modReeve _

theorem State.fields_mbxResult (u : State) {result : Nat} (hres : result < 256) (data : List Byte) :
    (u.mbxResult result data).getF RF.RVE_MBX_STAT_RESULT 0 0 = result ∧
      (u.mbxResult result data).flag RF.RVE_MBX_STAT_BUSY 0 0 = false ∧
      (u.mbxResult result data).getF RF.RVE_MBX_STAT_COMPLETED 0 0 =
        wrapAdd RF.RVE_MBX_STAT_COMPLETED.w (u.getF RF.RVE_MBX_STAT_COMPLETED 0 0) 1 := by
  obtain ⟨hresult, hbusy, hcount⟩ := u.getF_mbxStat hres data.length
  rw [State.mbxResult, State.modReeve_getF, State.modReeve_flag, State.modReeve_getF, State.flag, hbusy]
  exact ⟨hresult, rfl, hcount⟩

theorem State.reeve_raise (t : State) (x : RF) (i : Nat) : (t.raise x i).reeve = t.reeve := by
  rw [(t.messageOnly_raise x i).eq]

/-- An answer leaves the Reeve's records but for the response. -/
theorem State.reeve_mbxPost (u : State) (src : MbxSource) (result : Nat) (data : List Byte) :
    ∃ d, (u.mbxPost src result data).reeve = { u.reeve with response := d } := by
  by_cases h : src = .pf
  · subst h
    rw [u.mbxPost_pf, State.reeve_raise]
    exact ⟨data, rfl⟩
  · rw [State.mbxPost_other h]
    exact ⟨u.reeve.response, rfl⟩

theorem State.onlyRegs_mbxPost (u : State) (src : MbxSource) (result : Nat) (data : List Byte) :
    u.onlyRegs mbxRegs (u.mbxPost src result data) := by
  by_cases h : src = .pf
  · subst h
    rw [u.mbxPost_pf]
    exact ((u.onlyRegs_mbxResult result data).mono (by decide)).trans
      (((u.mbxResult result data).messageOnly_raise RF.RVE_MBX_EVENT_DONE 0).regs.mono (by decide))
  · rw [State.mbxPost_other h]
    exact u.onlyRegs_refl _

theorem State.mbxPost_eq (u : State) (src : MbxSource) (result : Nat) (data : List Byte) :
    u.mbxPost src result data = { u with
      regs := (u.mbxPost src result data).regs, host := (u.mbxPost src result data).host
      reeve := (u.mbxPost src result data).reeve, out := (u.mbxPost src result data).out } := by
  by_cases h : src = .pf
  · subst h
    have hresult := u.mbxResult_eq result data
    rw [u.mbxPost_pf]
    generalize u.mbxResult result data = v at hresult ⊢
    obtain ⟨regs, reeve, rfl⟩ := hresult
    rw [(State.messageOnly_raise _ RF.RVE_MBX_EVENT_DONE 0).eq]
  · rw [State.mbxPost_other h]
    rfl

theorem State.mbxRun.post (h : s.mbxRun src l u) (result : Nat) (data : List Byte) :
    State.mbxOnly (mbxRegs ++ l) s (u.mbxPost src result data) where
  eq := by
    have hpost := u.mbxPost_eq src result data
    generalize u.mbxPost src result data = t at hpost
    rw [hpost, h.eq]
  regs := (h.regs.mono (List.cons_subset.mpr ⟨by simp [mbxRegs], List.subset_append_right _ _⟩)).trans
    ((u.onlyRegs_mbxPost src result data).mono (List.subset_append_left _ _))

theorem State.mbxAnswered_mbxPost (hcount : u.getF RF.RVE_MBX_STAT_COMPLETED 0 0 = s.getF RF.RVE_MBX_STAT_COMPLETED 0 0)
    (hposted : src = .pf → u.reeve.posted = none) {result : Nat} (hres : result < 256) (data : List Byte) :
    s.mbxAnswered src result (u.mbxPost src result data) = true := by
  unfold State.mbxAnswered
  by_cases hpf : src = .pf
  · subst hpf
    obtain ⟨hresult, hbusy, hmbx⟩ := u.fields_mbxResult hres data
    have hraise := ((u.mbxResult result data).messageOnly_raise RF.RVE_MBX_EVENT_DONE 0).regs
    have hdone : ((u.mbxResult result data).raise RF.RVE_MBX_EVENT_DONE 0).flag RF.RVE_MBX_EVENT_DONE 0 0 = true :=
      State.flag_raise_same _ 0 (by decide) (by decide) rfl
    rw [if_pos rfl, u.mbxPost_pf, hraise.getF (x := RF.RVE_MBX_STAT_RESULT) (by decide), hresult,
      hraise.flag (x := RF.RVE_MBX_STAT_BUSY) (by decide), hbusy, hraise.getF (x := RF.RVE_MBX_STAT_COMPLETED)
        (by decide), hmbx, hdone, hcount, State.reeve_raise,
      show (u.mbxResult result data).reeve.posted = none from hposted rfl]
    simp
  · rw [if_neg hpf, State.mbxPost_other hpf]
    simp [State.send]

theorem State.mbxRun.answered (h : s.mbxRun src l u) {result : Nat} (hres : result < 256) (data : List Byte) :
    s.mbxAnswered src result (u.mbxPost src result data) = true :=
  State.mbxAnswered_mbxPost h.count h.posted hres data

/-! ### Nonces (R577) -/

theorem State.checkSigned_snd (t : State) (src : MbxSource) (x : Signed) : (t.checkSigned src x).2 =
    t.modReeve (fun r => { r with nonces := r.nonces.filter (fun n => !decide (n.1 = src ∧ n.2.1 = x.nonce)) }) := by
  unfold State.checkSigned
  dsimp only
  split
  · rfl
  · split <;> rfl

theorem State.checkSigned_fst (t : State) (src : MbxSource) (x : Signed) : (t.checkSigned src x).1 =
    if !t.reeve.nonces.any (fun n => decide (n.1 = src ∧ n.2.1 = x.nonce) && decide (t.now - n.2.2 < nonceLife)) then
      mbxNonce
    else if decide (x.unit ≠ Config.unitIdentity) || !x.ok then mbxSignature else mbxOk := by
  unfold State.checkSigned
  dsimp only
  split
  · rfl
  · split <;> rfl

theorem State.checkSigned_mbxTaken (s : State) (src : MbxSource) (x : Signed) :
    ((s.mbxTaken src).checkSigned src x).1 = (s.checkSigned src x).1 := by
  rw [State.checkSigned_fst, State.checkSigned_fst]
  unfold State.mbxTaken
  split <;> rfl

theorem State.checkSigned_lt (s : State) (src : MbxSource) (x : Signed) : (s.checkSigned src x).1 < 256 := by
  rw [State.checkSigned_fst]
  split
  · exact (by decide : mbxNonce < 256)
  · split
    · exact (by decide : mbxSignature < 256)
    · exact (by decide : mbxOk < 256)

/-- The state in which a signed command decides: its nonce is used up. -/
def State.signedTaken (s : State) (src : MbxSource) (x : Signed) : State :=
  (s.mbxTaken src).modReeve (fun r => { r with
    nonces := r.nonces.filter (fun n => !decide (n.1 = src ∧ n.2.1 = x.nonce)) })

theorem State.checkSigned_of_taken (s : State) (src : MbxSource) (x : Signed) :
    (s.mbxTaken src).checkSigned src x = ((s.checkSigned src x).1, s.signedTaken src x) :=
  Prod.ext (s.checkSigned_mbxTaken src x) (State.checkSigned_snd _ src x)

theorem State.mbxRun_signedTaken (s : State) (src : MbxSource) (x : Signed) (l : List Reg) :
    s.mbxRun src l (s.signedTaken src x) := (s.mbxRun_mbxTaken src l).modReeve rfl

theorem State.reeve_mbxTaken (s : State) (src : MbxSource) :
    (s.mbxTaken src).reeve = { s.reeve with posted := (s.mbxTaken src).reeve.posted } := by
  unfold State.mbxTaken
  split <;> rfl

theorem State.reeve_signedTaken (s : State) (src : MbxSource) (x : Signed) : (s.signedTaken src x).reeve =
    { s.reeve with posted := (s.signedTaken src x).reeve.posted, nonces := s.noncesLeft src x } := by
  unfold State.signedTaken State.mbxTaken
  split <;> rfl

theorem State.onlyRegs_signedTaken (s : State) (src : MbxSource) (x : Signed) :
    s.onlyRegs [.RVE_MBX_STAT] (s.signedTaken src x) := s.onlyRegs_mbxTaken src

end

end Sys2Proof.Machine

/-! The commands of the Reeve's mailbox (O38): what each has changed when its answer is posted. -/

namespace Sys2Proof.Machine

section
variable {s t u : State} {src : MbxSource} {l : List Reg}

/-! ### Free values and the answer -/

theorem State.mbxRun_fresh (s : State) (src : MbxSource) (l : List Reg) :
    State.mbxRun s.fresh.2 src l (s.mbxTaken src).fresh.2 := by
  have h : (s.mbxTaken src).fresh.2 = s.fresh.2.mbxTaken src := by
    unfold State.mbxTaken
    split <;> rfl
  rw [h]
  exact s.fresh.2.mbxRun_mbxTaken src l

theorem State.mbxTaken_flag {x : RF} (hx : x.reg ≠ .RVE_MBX_STAT) (i n : Nat) :
    (s.mbxTaken src).flag x i n = s.flag x i n :=
  (s.onlyRegs_mbxTaken src).flag (by simpa using hx) i n

theorem State.mbxTaken_getF {x : RF} (hx : x.reg ≠ .RVE_MBX_STAT) (i n : Nat) :
    (s.mbxTaken src).getF x i n = s.getF x i n :=
  (s.onlyRegs_mbxTaken src).getF (by simpa using hx) i n

theorem State.signedTaken_flag {sg : Signed} {x : RF} (hx : x.reg ≠ .RVE_MBX_STAT) (i n : Nat) :
    (s.signedTaken src sg).flag x i n = s.flag x i n :=
  (s.onlyRegs_signedTaken src sg).flag (by simpa using hx) i n

theorem State.signedTaken_getF {sg : Signed} {x : RF} (hx : x.reg ≠ .RVE_MBX_STAT) (i n : Nat) :
    (s.signedTaken src sg).getF x i n = s.getF x i n :=
  (s.onlyRegs_signedTaken src sg).getF (by simpa using hx) i n

theorem State.signedTaken_lifecycle (sg : Signed) : (s.signedTaken src sg).lifecycle = s.lifecycle :=
  State.signedTaken_getF (by decide) 0 0

theorem State.signedTaken_bistBusy (sg : Signed) : (s.signedTaken src sg).bistBusy = s.bistBusy := by
  unfold State.bistBusy
  rw [State.signedTaken_getF (by decide)]

theorem State.mbxPost_flag {x : RF} (hx : x.reg ∉ mbxRegs) (r : Nat) (d : List Byte) (i n : Nat) :
    (u.mbxPost src r d).flag x i n = u.flag x i n := (u.onlyRegs_mbxPost src r d).flag hx i n

theorem State.mbxPost_getF {x : RF} (hx : x.reg ∉ mbxRegs) (r : Nat) (d : List Byte) (i n : Nat) :
    (u.mbxPost src r d).getF x i n = u.getF x i n := (u.onlyRegs_mbxPost src r d).getF hx i n

/-- Every record of the Reeve but the response stays over an answer. -/
theorem State.mbxPost_reeve {α : Type} (g : Reeve → α) (hg : ∀ r d, g { r with response := d } = g r) (r : Nat)
    (d : List Byte) : g (u.mbxPost src r d).reeve = g u.reeve := by
  obtain ⟨e, he⟩ := u.reeve_mbxPost src r d
  rw [he, hg]

/-! ### Assay grants (R593) -/

/-- May the parish grant the Assay its memory? -/
def State.grantable (s : State) (p : Nat) : Bool :=
  s.flag RF.RVE_PARp_BIND_TENANT_KEY 0 p && s.flag RF.RVE_PARp_BIND_BOUND 0 p && decide (s.lifecycle = lcDeployed)

theorem State.assayGrant_run (p : ParishId) (sg : Signed) (h : s.mbxTakes src 0x12 [.pf] = true) :
    ∃ u, exec (.assayGrant src p sg) s =
        .next (u.mbxPost src (if s.grantable p.val = true then (s.checkSigned src sg).1 else mbxState) []) ∧
      s.mbxRun src [.RVE_PARp_BIND] u ∧ u.reeve.nonces = s.noncesLeft src sg ∧
      u.flag RF.RVE_PARp_BIND_ASSAY_GRANTED 0 p.val = (s.flag RF.RVE_PARp_BIND_ASSAY_GRANTED 0 p.val ||
        (s.grantable p.val && decide ((s.checkSigned src sg).1 = mbxOk))) := by
  have hrun := s.mbxRun_signedTaken src sg [.RVE_PARp_BIND]
  have hn : (s.signedTaken src sg).reeve.nonces = s.noncesLeft src sg := by rw [s.reeve_signedTaken]
  have hg : (s.signedTaken src sg).flag RF.RVE_PARp_BIND_ASSAY_GRANTED 0 p.val =
    s.flag RF.RVE_PARp_BIND_ASSAY_GRANTED 0 p.val := State.signedTaken_flag (by decide) 0 p.val
  have hmay : (!(s.signedTaken src sg).flag RF.RVE_PARp_BIND_TENANT_KEY 0 p.val ||
      !(s.signedTaken src sg).flag RF.RVE_PARp_BIND_BOUND 0 p.val ||
        decide ((s.signedTaken src sg).lifecycle ≠ lcDeployed)) = !s.grantable p.val := by
    rw [State.signedTaken_flag (by decide), State.signedTaken_flag (by decide), State.signedTaken_lifecycle,
      State.grantable]
    simp
  show ∃ u, Host.Outcome.next (s.mailbox src 0x12 [.pf] _) = _ ∧ _
  rw [State.mailbox_of_takes h, State.checkSigned_of_taken]
  dsimp only
  rw [hmay]
  cases s.grantable p.val with
  | false => exact ⟨_, rfl, hrun, hn, by simpa using hg⟩
  | true =>
    by_cases hr : (s.checkSigned src sg).1 = mbxOk
    · refine ⟨(s.signedTaken src sg).setFlag RF.RVE_PARp_BIND_ASSAY_GRANTED 0 p.val true, ?_,
        hrun.setFlag (by decide) (by decide) 0 p.val true, hn, ?_⟩
      · simp [hr, State.mbxEnd]
      · simp [hr, State.flag_setFlag_same _ RF.RVE_PARp_BIND_ASSAY_GRANTED 0 p.val true (by decide) rfl]
    · exact ⟨s.signedTaken src sg, by simp [hr, State.mbxEnd], hrun, hn, by simp [hr, hg]⟩

/-! ### Firmware (R578–R580) -/

/-- The result of an FW_STAGE (R580). -/
def State.stageResult (s : State) (src : MbxSource) (cls : Fin 5) (version : BitVec 5) (imageOk : Bool)
    (sg : Signed) : Nat :=
  if s.lifecycle = lcBlank then mbxState else if (s.checkSigned src sg).1 ≠ mbxOk then (s.checkSigned src sg).1
  else if imageOk = false then mbxSignature
  else if version.toNat < s.reeve.fuses.getD cls.val 0 then mbxRollback else mbxOk

theorem State.stageResult_lt (s : State) (src : MbxSource) (cls : Fin 5) (version : BitVec 5) (imageOk : Bool)
    (sg : Signed) : s.stageResult src cls version imageOk sg < 256 := by
  have hsign := s.checkSigned_lt src sg
  unfold State.stageResult
  repeat' split
  · exact (by decide : mbxState < 256)
  · exact hsign
  · exact (by decide : mbxSignature < 256)
  · exact (by decide : mbxRollback < 256)
  · exact (by decide : mbxOk < 256)

/-- The slots with an image staged in the one that is not booted. -/
def State.stagedSlots (s : State) (cls : Fin 5) (version : BitVec 5) : List (List Nat) :=
  s.reeve.slots.set s.idleSlot ((s.reeve.slots.getD s.idleSlot []).set cls.val version.toNat)

/-- What an FW_STAGE with result `r` has changed when it is answered: an image that is accepted is staged. -/
structure State.stageRun (s : State) (src : MbxSource) (cls : Fin 5) (version : BitVec 5) (sg : Signed) (r : Nat)
    (u : State) : Prop where
  run : s.mbxRun src [.RVE_IMAGES] u
  nonces : u.reeve.nonces = s.noncesLeft src sg
  staged : r = mbxOk → u.flag RF.RVE_IMAGES_STAGED 0 0 = true ∧ u.reeve.slots = s.stagedSlots cls version
  kept : r ≠ mbxOk → u.reeve.slots = s.reeve.slots

theorem State.stageRun_refused (s : State) (src : MbxSource) (cls : Fin 5) (version : BitVec 5) (sg : Signed) {r : Nat}
    (hr : r ≠ mbxOk) : s.stageRun src cls version sg r (s.signedTaken src sg) where
  run := s.mbxRun_signedTaken src sg _
  nonces := by rw [s.reeve_signedTaken]
  staged h := absurd h hr
  kept _ := by rw [s.reeve_signedTaken]

theorem State.fwStage_run (cls : Fin 5) (version : BitVec 5) (imageOk : Bool) (sg : Signed)
    (h : s.mbxTakes src 0x20 [.pf, .smbus] = true) :
    ∃ u, exec (.fwStage src cls version imageOk sg) s =
        .next (u.mbxPost src (s.stageResult src cls version imageOk sg) []) ∧
      s.stageRun src cls version sg (s.stageResult src cls version imageOk sg) u := by
  have hreeve := s.reeve_signedTaken src sg
  have hn : (s.signedTaken src sg).reeve.nonces = s.noncesLeft src sg := by rw [hreeve]
  have hslots : (s.signedTaken src sg).reeve.slots = s.reeve.slots := by rw [hreeve]
  have hfuses : (s.signedTaken src sg).reeve.fuses = s.reeve.fuses := by rw [hreeve]
  have hidle : (s.signedTaken src sg).idleSlot = s.idleSlot := by
    unfold State.idleSlot
    rw [State.signedTaken_getF (by decide)]
  show ∃ u, Host.Outcome.next (s.mailbox src 0x20 [.pf, .smbus] _) = _ ∧ _
  rw [State.mailbox_of_takes h, State.checkSigned_of_taken]
  dsimp only
  rw [State.signedTaken_lifecycle, hfuses, hidle, State.stageResult]
  split
  next => exact ⟨_, rfl, s.stageRun_refused src cls version sg (by decide)⟩
  next =>
  split
  next hr => exact ⟨_, rfl, s.stageRun_refused src cls version sg hr⟩
  next =>
  cases imageOk with
  | false =>
    rw [if_pos (show (!false) = true from rfl), if_pos (show false = false from rfl)]
    exact ⟨_, rfl, s.stageRun_refused src cls version sg (by decide)⟩
  | true =>
    rw [if_neg (show ¬(!true) = true by decide), if_neg (show ¬true = false by decide)]
    split
    next => exact ⟨_, rfl, s.stageRun_refused src cls version sg (by decide)⟩
    next =>
      refine ⟨_, rfl, ((s.mbxRun_signedTaken src sg _).modReeve rfl).setFlag (by decide) (by decide) 0 0 true, hn,
        fun _ => ⟨?_, ?_⟩, fun h => absurd rfl h⟩
      · exact State.flag_setFlag_same _ RF.RVE_IMAGES_STAGED 0 0 true (by decide) rfl
      · show ((s.signedTaken src sg).reeve.slots.set _ _) = _
        rw [State.stagedSlots, ← hslots]

/-- The fuse counters once the images that have booted are confirmed (R580). -/
def State.confirmedFuses (s : State) : List Nat :=
  (List.range 5).map (fun c => max (s.reeve.fuses.getD c 0)
    ((s.reeve.slots.getD (s.getF RF.RVE_IMAGES_BOOTED 0 0) []).getD c 0))

theorem State.fwActivate_confirms (h : s.mbxTakes src 0x21 [.pf, .smbus] = true)
    (hc : s.flag RF.RVE_IMAGES_CONFIRM 0 0 = true) :
    ∃ u, exec (.fwActivate src) s = .next (u.mbxPost src mbxOk []) ∧ s.mbxRun src [.RVE_IMAGES] u ∧
      u.flag RF.RVE_IMAGES_CONFIRM 0 0 = false ∧ u.reeve.fuses = s.confirmedFuses := by
  have hreeve := s.reeve_mbxTaken src
  have hslots : (s.mbxTaken src).reeve.slots = s.reeve.slots := by rw [hreeve]
  have hfuses : (s.mbxTaken src).reeve.fuses = s.reeve.fuses := by rw [hreeve]
  have hrun := s.mbxRun_mbxTaken src [.RVE_IMAGES]
  show ∃ u, Host.Outcome.next (s.mailbox src 0x21 [.pf, .smbus] _) = _ ∧ _
  rw [State.mailbox_of_takes h]
  dsimp only
  rw [State.mbxTaken_flag (by decide), if_pos hc, hslots, State.mbxTaken_getF (by decide)]
  refine ⟨_, rfl, (hrun.modReeve rfl).setFlag (by decide) (by decide) 0 0 false,
    State.flag_setFlag_same _ RF.RVE_IMAGES_CONFIRM 0 0 false (by decide) rfl, ?_⟩
  rw [State.confirmedFuses, ← hfuses]
  rfl

/-- Without images to confirm, FW_ACTIVATE selects the staged slot, or there is none. -/
theorem State.fwActivate_selects (h : s.mbxTakes src 0x21 [.pf, .smbus] = true)
    (hc : s.flag RF.RVE_IMAGES_CONFIRM 0 0 = false) :
    ∃ u, exec (.fwActivate src) s =
        .next (u.mbxPost src (if s.flag RF.RVE_IMAGES_STAGED 0 0 = true then mbxOk else mbxState) []) ∧
      s.mbxRun src [.RVE_IMAGES] u ∧ u.reeve.fuses = s.reeve.fuses ∧
      u.reeve.activated = (s.flag RF.RVE_IMAGES_STAGED 0 0 || s.reeve.activated) := by
  have hreeve := s.reeve_mbxTaken src
  have hfuses : (s.mbxTaken src).reeve.fuses = s.reeve.fuses := by rw [hreeve]
  have hact : (s.mbxTaken src).reeve.activated = s.reeve.activated := by rw [hreeve]
  have hrun := s.mbxRun_mbxTaken src [.RVE_IMAGES]
  show ∃ u, Host.Outcome.next (s.mailbox src 0x21 [.pf, .smbus] _) = _ ∧ _
  rw [State.mailbox_of_takes h]
  dsimp only
  rw [State.mbxTaken_flag (by decide), hc, if_neg (by decide), State.mbxTaken_flag (by decide)]
  cases s.flag RF.RVE_IMAGES_STAGED 0 0 with
  | true => exact ⟨_, rfl, hrun.modReeve rfl, hfuses, rfl⟩
  | false => exact ⟨_, rfl, hrun, hfuses, hact⟩

/-! ### Debug unlock and return to service (R585, R586) -/

/-- The result of a DEBUG_UNLOCK (R585). -/
def State.unlockResult (s : State) (src : MbxSource) (sg : Signed) : Nat :=
  if s.bistBusy || decide (s.lifecycle = lcBlank) then mbxState else
  if s.lifecycle ≠ lcDeployed then mbxOk else
  if (List.range 32).any (fun p => s.flag RF.RVE_PARp_BIND_BOUND 0 p) then mbxState else (s.checkSigned src sg).1

theorem State.debugUnlock_run (sg : Signed) (h : s.mbxTakes src 0x31 [.pf, .tap] = true) :
    ∃ u, exec (.debugUnlock src sg) s = .next (u.mbxPost src (s.unlockResult src sg) []) ∧
      s.unlockResult src sg < 256 ∧ s.mbxRun src [.RVE_LIFECYCLE] u ∧ u.reeve.nonces = s.noncesLeft src sg ∧
      u.flag RF.RVE_LIFECYCLE_DEBUG_UNLOCKED 0 0 = (s.flag RF.RVE_LIFECYCLE_DEBUG_UNLOCKED 0 0 ||
        (decide (s.unlockResult src sg = mbxOk) && decide (s.lifecycle = lcDeployed))) := by
  have hrun := s.mbxRun_signedTaken src sg [.RVE_LIFECYCLE]
  have hn : (s.signedTaken src sg).reeve.nonces = s.noncesLeft src sg := by rw [s.reeve_signedTaken]
  have hf : (s.signedTaken src sg).flag RF.RVE_LIFECYCLE_DEBUG_UNLOCKED 0 0 =
    s.flag RF.RVE_LIFECYCLE_DEBUG_UNLOCKED 0 0 := State.signedTaken_flag (by decide) 0 0
  have hbound : (List.range 32).any (fun p => (s.signedTaken src sg).flag RF.RVE_PARp_BIND_BOUND 0 p) =
      (List.range 32).any (fun p => s.flag RF.RVE_PARp_BIND_BOUND 0 p) := by
    simp only [State.signedTaken_flag (x := RF.RVE_PARp_BIND_BOUND) (by decide)]
  show ∃ u, Host.Outcome.next (s.mailbox src 0x31 [.pf, .tap] _) = _ ∧ _
  rw [State.mailbox_of_takes h, State.checkSigned_of_taken]
  dsimp only
  rw [State.signedTaken_lifecycle, State.signedTaken_bistBusy, hbound, State.unlockResult]
  split
  next => exact ⟨_, rfl, by decide, hrun, hn, by simpa [mbxState, mbxOk] using hf⟩
  next =>
  split
  next hd => exact ⟨_, rfl, by decide, hrun, hn, by simpa [hd] using hf⟩
  next =>
  split
  next => exact ⟨_, rfl, by decide, hrun, hn, by simpa [mbxState, mbxOk] using hf⟩
  next hd _ =>
  rw [ne_eq, not_not] at hd
  by_cases hr : (s.checkSigned src sg).1 = mbxOk
  · refine ⟨(s.signedTaken src sg).setFlag RF.RVE_LIFECYCLE_DEBUG_UNLOCKED 0 0 true, ?_, s.checkSigned_lt src sg,
      hrun.setFlag (by decide) (by decide) 0 0 true, hn, ?_⟩
    · simp [hr, State.mbxEnd]
    · simp [hr, hd, State.flag_setFlag_same _ RF.RVE_LIFECYCLE_DEBUG_UNLOCKED 0 0 true (by decide) rfl]
  · exact ⟨s.signedTaken src sg, by simp [hr, State.mbxEnd], s.checkSigned_lt src sg, hrun, hn, by simp [hr, hf]⟩

theorem State.returnToService_run (sg : Signed) (h : s.mbxTakes src 0x32 [.pf, .smbus] = true) :
    ∃ u, exec (.returnToService src sg) s = .next (u.mbxPost src (s.checkSigned src sg).1 []) ∧
      s.mbxRun src [] u ∧ u.reeve.nonces = s.noncesLeft src sg ∧
      u.reeve.returnPending = (s.reeve.returnPending || decide ((s.checkSigned src sg).1 = mbxOk)) := by
  have hrun := s.mbxRun_signedTaken src sg []
  have hreeve := s.reeve_signedTaken src sg
  have hn : (s.signedTaken src sg).reeve.nonces = s.noncesLeft src sg := by rw [hreeve]
  have hp : (s.signedTaken src sg).reeve.returnPending = s.reeve.returnPending := by rw [hreeve]
  show ∃ u, Host.Outcome.next (s.mailbox src 0x32 [.pf, .smbus] _) = _ ∧ _
  rw [State.mailbox_of_takes h, State.checkSigned_of_taken]
  dsimp only
  by_cases hr : (s.checkSigned src sg).1 = mbxOk
  · exact ⟨(s.signedTaken src sg).modReeve (fun v => { v with returnPending := true }), by simp [hr, State.mbxEnd],
      hrun.modReeve rfl, hn, by simp [hr, State.modReeve]⟩
  · exact ⟨s.signedTaken src sg, by simp [hr, State.mbxEnd], hrun, hn, by simp [hr, hp]⟩

end

end Sys2Proof.Machine

/-! Binding, release and the lifecycle (R583, R588–R590), and O38. -/

namespace Sys2Proof.Machine

section
variable {s t u : State} {src : MbxSource} {l : List Reg}

/-! ### The fields a scrub holds -/

theorem State.onlyRegs_showScrubs (t : State) (l : List Nat) : t.onlyRegs [.RVE_FLDf_OWNER] (t.showScrubs l) := by
  induction l generalizing t with
  | nil => exact t.onlyRegs_refl _
  | cons f l ih => exact (t.onlyRegs_setFlag (f := RF.RVE_FLDf_OWNER_SCRUBBING) 0 f _ (by decide)).trans (ih _)

theorem State.showScrubs_eq (t : State) (l : List Nat) : ∃ regs, t.showScrubs l = { t with regs := regs } := by
  induction l generalizing t with
  | nil => exact ⟨_, rfl⟩
  | cons f l ih =>
    obtain ⟨regs, h⟩ := ih (t.setFlag RF.RVE_FLDf_OWNER_SCRUBBING 0 f (t.inSomeScrub f))
    exact ⟨regs, h⟩

theorem State.inSomeScrub_showScrubs (t : State) (l : List Nat) (f : Nat) :
    (t.showScrubs l).inSomeScrub f = t.inSomeScrub f := by
  obtain ⟨regs, h⟩ := t.showScrubs_eq l
  rw [h]
  rfl

/-- SCRUBBING of the fields shown says whether some scrub holds them. -/
theorem State.scrubbing_showScrubs (t : State) {l : List Nat} (hl : ∀ g ∈ l, g < 80) {f : Nat} (hf : f ∈ l) :
    (t.showScrubs l).scrubbing f = t.inSomeScrub f := by
  induction l using List.reverseRecOn with
  | nil => simp at hf
  | append_singleton l g ih =>
    have hstep : t.showScrubs (l ++ [g]) =
        (t.showScrubs l).setFlag RF.RVE_FLDf_OWNER_SCRUBBING 0 g ((t.showScrubs l).inSomeScrub g) := by
      simp [State.showScrubs]
    rw [hstep, State.scrubbing]
    by_cases hfg : f = g
    · rw [hfg, State.flag_setFlag_same _ RF.RVE_FLDf_OWNER_SCRUBBING 0 g _ (by decide) rfl, State.inSomeScrub_showScrubs]
    · have hmem : f ∈ l := by simpa [hfg] using hf
      have hlt := hl f hf
      have hgt := hl g (by simp)
      rw [State.flag, State.getF, State.setFlag, State.setF,
        State.rd_wr_other _ (rkey_ne_of_idx (by omega) (by omega) hfg)]
      exact ih (fun k hk => hl k (by simp [hk])) hmem

/-- The Reeve's records and RVE_SCRUB when a scrub has been entered. -/
def State.scrubEntered (t : State) (x : Scrub) : State :=
  let s1 := (t.setFlag RF.RVE_PARp_BIND_ASSAY_GRANTED 0 x.parish false).modReeve (fun r => { r with
    scrubs := r.scrubs ++ [x] })
  s1.setF RF.RVE_SCRUB_IN_PROGRESS 0 0 (s1.getF RF.RVE_SCRUB_IN_PROGRESS 0 0 ||| 2 ^ x.parish)

/-- What the start of a scrub with fields to clear does (R590 steps 1 and 2, R593). -/
structure State.scrubBegun (x : Scrub) (t u : State) : Prop where
  eq : u = { t with regs := u.regs, reeve := u.reeve, host := u.host }
  regs : t.onlyRegs [.RVE_PARp_BIND, .RVE_SCRUB, .RVE_FLDf_OWNER] u
  scrubs : u.reeve.scrubs = t.reeve.scrubs ++ [x]
  progress : (u.getF RF.RVE_SCRUB_IN_PROGRESS 0 0).testBit x.parish = true
  held : ∀ y ∈ x.fields, u.scrubbing y.field = true
  drain : u.host.drain.contains (x.parish + 1) = true
  grant : u.flag RF.RVE_PARp_BIND_ASSAY_GRANTED 0 x.parish = false

theorem State.scrubBegun_scrubStart (dev : DeviceAccess) (t : State) {x : Scrub} (hne : x.fields ≠ [])
    (hp : x.parish < 32) (hf : ∀ y ∈ x.fields, y.field < 80) : State.scrubBegun x t (t.scrubStart dev x) := by
  have hstart : t.scrubStart dev x = ((t.scrubEntered x).showScrubs (x.fields.map (·.field))).modHost
      (fun h => { h with drain := setInsert (x.parish + 1) h.drain }) := by
    unfold State.scrubStart State.scrubEntered
    dsimp only
    rw [List.isEmpty_iff.not.mpr hne |> Bool.eq_false_iff.mpr]
    rfl
  have hshow := (t.scrubEntered x).onlyRegs_showScrubs (x.fields.map (·.field))
  have hentered : t.onlyRegs [.RVE_PARp_BIND, .RVE_SCRUB] (t.scrubEntered x) :=
    (t.onlyRegs_setFlag (f := RF.RVE_PARp_BIND_ASSAY_GRANTED) 0 x.parish false (by decide)).trans
      (State.onlyRegs_setF _ (f := RF.RVE_SCRUB_IN_PROGRESS) 0 0 _ (by decide))
  obtain ⟨regs, hregs⟩ := (t.scrubEntered x).showScrubs_eq (x.fields.map (·.field))
  rw [hstart]
  refine ⟨?_, ?_, ?_, ?_, ?_, contains_setInsert_self _ _, ?_⟩
  · rw [hregs]
    rfl
  · exact (hentered.mono (by decide)).trans (hshow.mono (by decide))
  · show ((t.scrubEntered x).showScrubs (x.fields.map (·.field))).reeve.scrubs = _
    rw [hregs]
    rfl
  · rw [State.modHost_getF, hshow.getF (x := RF.RVE_SCRUB_IN_PROGRESS) (by decide), State.scrubEntered,
      State.getF_setF_same _ RF.RVE_SCRUB_IN_PROGRESS 0 0 _ (by decide), Nat.testBit_mod_two_pow, Nat.testBit_or,
      Nat.testBit_two_pow_self]
    simpa [RF.RVE_SCRUB_IN_PROGRESS] using hp
  · intro y hy
    have hin : (t.scrubEntered x).inSomeScrub y.field = true := by
      unfold State.inSomeScrub
      rw [List.any_eq_true]
      exact ⟨x, List.mem_append_right _ (List.mem_singleton_self x), List.any_eq_true.mpr ⟨y, hy, decide_eq_true rfl⟩⟩
    have hall : ∀ g ∈ x.fields.map (·.field), g < 80 := by
      intro g hg
      obtain ⟨z, hz, rfl⟩ := List.mem_map.mp hg
      exact hf z hz
    exact ((t.scrubEntered x).scrubbing_showScrubs hall (List.mem_map_of_mem hy)).trans hin
  · rw [State.modHost_flag, hshow.flag (x := RF.RVE_PARp_BIND_ASSAY_GRANTED) (by decide), State.scrubEntered, State.flag, State.getF_setF_reg _ (f := RF.RVE_SCRUB_IN_PROGRESS) (g := RF.RVE_PARp_BIND_ASSAY_GRANTED) 0 0 0
      x.parish _ (by decide), State.modReeve_getF]
    exact t.flag_setFlag_same RF.RVE_PARp_BIND_ASSAY_GRANTED 0 x.parish false (by decide) rfl

/-! ### What binding and release look at, while the mailbox is busy -/

theorem State.pf_of_takes {code : Nat} (h : s.mbxTakes src code [.pf] = true) : src = .pf := by
  simp only [State.mbxTakes, Bool.and_eq_true] at h
  simpa using h.1.1.2

theorem State.mbxTaken_bindRefusal (p : Nat) : (s.mbxTaken src).bindRefusal p = s.bindRefusal p := by
  unfold State.bindRefusal State.lifecycle
  rw [State.mbxTaken_getF (by decide), State.mbxTaken_flag (by decide), State.mbxTaken_flag (by decide),
    State.mbxTaken_getF (by decide), State.mbxTaken_getF (by decide), State.mbxTaken_flag (by decide)]

theorem State.mbxTaken_binding (p : Nat) : (s.mbxTaken src).binding p = s.binding p := by
  simp (disch := decide) only [State.binding, State.mbxTaken_flag, State.mbxTaken_getF]

theorem State.mbxTaken_owner (f : Nat) : (s.mbxTaken src).owner f = s.owner f := by
  unfold State.owner
  rw [s.reeve_mbxTaken]

theorem State.mbxTaken_entropyReady : (s.mbxTaken src).entropyReady = s.entropyReady := by
  simp (disch := decide) only [State.entropyReady, State.mbxTaken_getF]

theorem State.mbxTaken_inService : (s.mbxTaken src).inService = s.inService := by
  funext f
  simp (disch := decide) only [State.inService, State.fieldMode, State.mbxTaken_getF]

theorem State.mbxTaken_parishFields (p : Nat) : (s.mbxTaken src).parishFields p = s.parishFields p := by
  simp (disch := decide) only [State.parishFields, State.parishMask, State.mbxTaken_inService, State.mbxTaken_getF]

theorem State.mbxTaken_slotEntry : (s.mbxTaken src).slotEntry = s.slotEntry := by
  funext k
  unfold State.slotEntry
  rw [s.onlyRegs_mbxTaken src .WFR_SPREAD_SLOTk 0 (k / 4) (by decide)]

theorem State.mbxTaken_slotted (f : Nat) : (s.mbxTaken src).slotted f = s.slotted f := by
  unfold State.slotted State.spreadSlots
  rw [State.mbxTaken_slotEntry, State.mbxTaken_getF (by decide)]

theorem State.mbxTaken_spreadArea : (s.mbxTaken src).spreadArea = s.spreadArea := by
  unfold State.spreadArea State.spreadBase State.spreadSize
  rw [State.mbxTaken_getF (by decide), State.mbxTaken_getF (by decide)]

theorem State.mbxTaken_scrubField (p f : Nat) (c : Bool) : (s.mbxTaken src).scrubField p f c = s.scrubField p f c := by
  unfold State.scrubField State.scrubRanges
  rw [State.mbxTaken_slotted, State.mbxTaken_spreadArea, State.mbxTaken_getF (by decide)]

theorem State.mbxTaken_flag_busy : (s.mbxTaken .pf).flag RF.RVE_MBX_STAT_BUSY 0 0 = true := by
  rw [State.mbxTaken, if_pos rfl, State.modReeve_flag]
  exact s.flag_setFlag_same RF.RVE_MBX_STAT_BUSY 0 0 true (by decide) rfl

theorem State.lt_of_mem_parishFields {p f : Nat} (h : f ∈ s.parishFields p) : f < 80 := by
  unfold State.parishFields maskList at h
  simp only [List.mem_filter, List.mem_range] at h
  exact h.1.1

/-! ### Binding and release (R588, R589) -/

/-- Registers a binding or a release may change before its scrub ends. -/
def bindRegs : List Reg :=
  [.HST_PORT_EVENT, .HST_PORT_MSIX_DROP, .RVE_FLDf_OWNER, .RVE_MBX_EVENT, .RVE_MBX_STAT, .RVE_PARp_BIND, .RVE_SCRUB]

/-- What a scrub for fields `l` has changed when it starts, from the state in which its command came. -/
theorem State.scrubBegun.mbxOnly {x : Scrub} (h : State.scrubBegun x (s.mbxTaken .pf) u) :
    State.mbxOnly bindRegs s u where
  eq := by
    have htaken := (s.mbxRun_mbxTaken .pf []).eq
    have heq := h.eq
    generalize s.mbxTaken .pf = t at htaken heq
    rw [heq, htaken]
  regs := ((s.onlyRegs_mbxTaken .pf).mono (by decide)).trans (h.regs.mono (by decide))

theorem State.scrubBegun.scrubs_taken {x : Scrub} (h : State.scrubBegun x (s.mbxTaken .pf) u) :
    u.reeve.scrubs = s.reeve.scrubs ++ [x] := by
  rw [h.scrubs, s.reeve_mbxTaken]

theorem State.scrubBegun.busy {x : Scrub} (h : State.scrubBegun x (s.mbxTaken .pf) u) :
    u.flag RF.RVE_MBX_STAT_BUSY 0 0 = true :=
  (h.regs.flag (x := RF.RVE_MBX_STAT_BUSY) (by decide) 0 0).trans State.mbxTaken_flag_busy

/-- The scrub of a binding that changes the parish's binding (R588). -/
def State.bindScrub (s : State) (p : ParishId) (tag : Word) (epoch : BitVec 32) (physical : Bool)
    (digest : Option (List Byte)) (l : List Nat) : Scrub :=
  ⟨p.val, false, true, tag.toNat, epoch.toNat, physical, digest, l.map (fun f => s.scrubField p.val f true)⟩

/-- The scrub of a release (R589). -/
def State.releaseScrub (s : State) (p : ParishId) (physical : Bool) (l : List Nat) : Scrub :=
  ⟨p.val, true, false, 0, 0, physical, none, l.map (fun f => s.scrubField p.val f true)⟩

theorem State.tenantBind_begins {p : ParishId} {tag : Word} {epoch : BitVec 32} {digest : Option (List Byte)}
    {l : List Nat} (physical : Bool) (htakes : s.mbxTakes src 0x10 [.pf] = true)
    (hdigest : digest = none ∨ digest.map (·.length) = some 48) (hmay : s.bindRefusal p.val = mbxOk)
    (hlocked : s.flag RF.RVE_LIFECYCLE_DEBUG_UNLOCKED 0 0 = false) (hready : s.entropyReady = true)
    (hnew : s.binding p.val ≠ some (tag.toNat, epoch.toNat))
    (hepoch : s.flag RF.RVE_PARp_BIND_BOUND 0 p.val = true →
      epochNewer (s.getF RF.RVE_PARp_BIND_KEY_EPOCH 0 p.val) epoch.toNat = true)
    (hspread : s.getF RF.WFR_SPREAD_CTL_OWNER 0 0 ≠ p.val)
    (hl : l = (s.parishFields p.val).filter (fun f => decide (s.owner f ≠ none))) (hne : l ≠ []) :
    ∃ u, exec (.tenantBind src p tag epoch physical digest) s = .next u ∧
      State.scrubBegun (s.bindScrub p tag epoch physical digest l) (s.mbxTaken .pf) u := by
  obtain rfl := State.pf_of_takes htakes
  have hold : (!decide (s.binding p.val = some (tag.toNat, epoch.toNat)) && s.flag RF.RVE_PARp_BIND_BOUND 0 p.val &&
      !epochNewer (s.getF RF.RVE_PARp_BIND_KEY_EPOCH 0 p.val) epoch.toNat) = false := by
    cases hb : s.flag RF.RVE_PARp_BIND_BOUND 0 p.val with
    | false => simp
    | true => simp [hepoch hb]
  have hrun : (s.mbxTaken .pf).tenantBind noDevice p.val tag.toNat epoch.toNat physical digest =
      (s.mbxTaken .pf).scrubStart noDevice (s.bindScrub p tag epoch physical digest l) := by
    unfold State.tenantBind
    dsimp only
    refine (if_neg ?_).trans ?_
    · cases digest with
      | none => exact Bool.false_ne_true
      | some d => simpa using hdigest
    rw [State.mbxTaken_bindRefusal, if_neg (not_not.mpr hmay),
      State.mbxTaken_flag (by decide), hlocked, if_neg (by decide), State.mbxTaken_entropyReady, hready,
      if_neg (by decide), State.mbxTaken_binding, State.mbxTaken_flag (by decide), State.mbxTaken_getF (by decide),
      hold, if_neg (by decide), State.mbxTaken_getF (by decide), State.mbxTaken_parishFields]
    simp only [hnew, hspread, State.mbxTaken_owner, State.mbxTaken_scrubField, State.bindScrub, hl, decide_false,
      Bool.not_false, Bool.and_false, Bool.false_eq_true, if_false, List.map_nil, List.append_nil]
  refine ⟨_, (congrArg Host.Outcome.next (State.mailbox_of_takes htakes _)).trans (congrArg Host.Outcome.next hrun),
    (s.mbxTaken .pf).scrubBegun_scrubStart noDevice ?_ p.isLt ?_⟩
  · simpa [State.bindScrub] using hne
  · intro y hy
    obtain ⟨f, hf, rfl⟩ := List.mem_map.mp hy
    exact State.lt_of_mem_parishFields (List.mem_of_mem_filter (hl ▸ hf))

theorem State.tenantBind_refused {p : ParishId} (tag : Word) (epoch : BitVec 32) {digest : Option (List Byte)}
    (physical : Bool) (htakes : s.mbxTakes src 0x10 [.pf] = true)
    (hdigest : digest = none ∨ digest.map (·.length) = some 48) (hrefused : s.bindRefusal p.val ≠ mbxOk) :
    exec (.tenantBind src p tag epoch physical digest) s =
      .next ((s.mbxTaken src).mbxPost src (s.bindRefusal p.val) []) := by
  obtain rfl := State.pf_of_takes htakes
  refine (congrArg Host.Outcome.next (State.mailbox_of_takes htakes _)).trans (congrArg Host.Outcome.next ?_)
  unfold State.tenantBind
  dsimp only
  refine (if_neg ?_).trans ?_
  · cases digest with
    | none => exact Bool.false_ne_true
    | some d => simpa using hdigest
  rw [State.mbxTaken_bindRefusal, if_pos hrefused, State.mbxEnd]

theorem State.tenantRelease_begins {p : ParishId} {l : List Nat} (physical : Bool)
    (htakes : s.mbxTakes src 0x11 [.pf] = true) (hmay : s.bindRefusal p.val = mbxOk)
    (hl : l = (s.parishFields p.val).filter
      (fun f => decide (s.owner f ≠ none) && decide (s.owner f = s.binding p.val))) (hne : l ≠ []) :
    ∃ u, exec (.tenantRelease src p physical) s = .next u ∧
      State.scrubBegun (s.releaseScrub p physical l) (s.mbxTaken .pf) u := by
  obtain rfl := State.pf_of_takes htakes
  have hrun : (s.mbxTaken .pf).tenantRelease noDevice p.val physical =
      (s.mbxTaken .pf).scrubStart noDevice (s.releaseScrub p physical l) := by
    unfold State.tenantRelease
    dsimp only
    rw [State.mbxTaken_bindRefusal, if_neg (not_not.mpr hmay), State.mbxTaken_parishFields]
    simp only [State.mbxTaken_owner, State.mbxTaken_binding, State.mbxTaken_scrubField, State.releaseScrub, hl]
  refine ⟨_, (congrArg Host.Outcome.next (State.mailbox_of_takes htakes _)).trans (congrArg Host.Outcome.next hrun),
    (s.mbxTaken .pf).scrubBegun_scrubStart noDevice ?_ p.isLt ?_⟩
  · simpa [State.releaseScrub] using hne
  · intro y hy
    obtain ⟨f, hf, rfl⟩ := List.mem_map.mp hy
    exact State.lt_of_mem_parishFields (List.mem_of_mem_filter (hl ▸ hf))

theorem State.tenantRelease_refused {p : ParishId} (physical : Bool) (htakes : s.mbxTakes src 0x11 [.pf] = true)
    (hrefused : s.bindRefusal p.val ≠ mbxOk) :
    exec (.tenantRelease src p physical) s = .next ((s.mbxTaken src).mbxPost src (s.bindRefusal p.val) []) := by
  obtain rfl := State.pf_of_takes htakes
  refine (congrArg Host.Outcome.next (State.mailbox_of_takes htakes _)).trans ?_
  unfold State.tenantRelease
  dsimp only
  rw [State.mbxTaken_bindRefusal, if_pos hrefused, State.mbxEnd]

theorem State.bindRefusal_lt (s : State) (p : Nat) : s.bindRefusal p < 256 := by
  unfold State.bindRefusal
  repeat' split
  · exact (by decide : mbxBusy < 256)
  · exact (by decide : mbxState < 256)
  · exact (by decide : mbxSpread < 256)
  · exact (by decide : mbxOk < 256)

/-! ### The lifecycle (R583, R680) -/

/-- A LIFECYCLE command whose target is well formed, once its nonce is used up (R583, R680). -/
theorem State.lifecycle_run {target : Fin 6} {ownerKey : List Byte} (who : Signer) (sg : Signed)
    (h : s.mbxTakes src 0x30 [.pf, .smbus, .tap] = true) (hkey : target.val = lcProvisioned → ownerKey.length = 48) :
    exec (.lifecycle src target who ownerKey sg) s = .next (
      if s.bistBusy || !(transition s.lifecycle target.val who).1 || (decide (s.lifecycle = lcReturn) &&
          decide (target.val = lcProvisioned) && decide (s.getF RF.RVE_LIFECYCLE_REFURB 0 0 = 3)) then
        (s.signedTaken src sg).mbxPost src mbxState []
      else if (s.checkSigned src sg).1 ≠ mbxOk then (s.signedTaken src sg).mbxPost src (s.checkSigned src sg).1 []
      else if !(transition s.lifecycle target.val who).2 then (s.signedTaken src sg).mbxPost src mbxSignature []
      else ((s.signedTaken src sg).lifecycleEnter s.lifecycle target.val ownerKey).mbxPost src mbxOk []) := by
  have hformed : ¬(target.val = lcProvisioned ∧ ownerKey.length ≠ 48) := fun e => e.2 (hkey e.1)
  refine (congrArg Host.Outcome.next (State.mailbox_of_takes h _)).trans (congrArg Host.Outcome.next ?_)
  rw [State.checkSigned_of_taken]
  dsimp only
  rw [if_neg hformed, State.signedTaken_lifecycle, State.signedTaken_bistBusy, State.signedTaken_getF (by decide)]
  rfl

theorem State.lifecycle_accepted {target : Fin 6} {ownerKey : List Byte} {who : Signer} {sg : Signed}
    (h : s.mbxTakes src 0x30 [.pf, .smbus, .tap] = true) (hkey : target.val = lcProvisioned → ownerKey.length = 48)
    (hbist : s.bistBusy = false) (hmay : transition s.lifecycle target.val who = (true, true))
    (hrefurb : target.val = lcProvisioned → s.lifecycle = lcReturn → s.getF RF.RVE_LIFECYCLE_REFURB 0 0 ≠ 3)
    (hok : (s.checkSigned src sg).1 = mbxOk) :
    exec (.lifecycle src target who ownerKey sg) s =
      .next (((s.signedTaken src sg).lifecycleEnter s.lifecycle target.val ownerKey).mbxPost src mbxOk []) := by
  have hworn : (decide (s.lifecycle = lcReturn) && decide (target.val = lcProvisioned) &&
      decide (s.getF RF.RVE_LIFECYCLE_REFURB 0 0 = 3)) = false := by
    by_cases h1 : s.lifecycle = lcReturn <;> by_cases h2 : target.val = lcProvisioned <;> simp [h1, h2]
    exact hrefurb h2 h1
  rw [State.lifecycle_run who sg h hkey, hbist, hmay, hworn, if_neg (by decide), if_neg (not_not.mpr hok),
    if_neg (by decide)]

theorem State.lifecycle_unknown {target : Fin 6} {ownerKey : List Byte} {who : Signer} (sg : Signed)
    (h : s.mbxTakes src 0x30 [.pf, .smbus, .tap] = true) (hkey : target.val = lcProvisioned → ownerKey.length = 48)
    (hno : (transition s.lifecycle target.val who).1 = false) :
    exec (.lifecycle src target who ownerKey sg) s = .next ((s.signedTaken src sg).mbxPost src mbxState []) := by
  rw [State.lifecycle_run who sg h hkey, hno, if_pos (by simp)]

/-- What entering MANUFACTURE, PROVISIONED or DEPLOYED does (R583). -/
structure State.lifecycleMoved (s : State) (src : MbxSource) (sg : Signed) (dst : Nat) (ownerKey : List Byte)
    (u : State) : Prop where
  run : s.mbxRun src [.RVE_LIFECYCLE] u
  state : u.lifecycle = dst
  nonces : u.reeve.nonces = s.noncesLeft src sg
  key : dst = lcProvisioned → u.reeve.ownerKey = ownerKey
  refurb : dst = lcProvisioned → s.lifecycle = lcReturn → u.getF RF.RVE_LIFECYCLE_REFURB 0 0 =
    (s.getF RF.RVE_LIFECYCLE_REFURB 0 0 + 1) % 2 ^ RF.RVE_LIFECYCLE_REFURB.w

theorem State.lifecycleMoved_lifecycleEnter (s : State) (src : MbxSource) (sg : Signed) {dst : Nat}
    (ownerKey : List Byte) (hdst : dst = lcManufacture ∨ dst = lcProvisioned ∨ dst = lcDeployed) :
    s.lifecycleMoved src sg dst ownerKey ((s.signedTaken src sg).lifecycleEnter s.lifecycle dst ownerKey) := by
  have hlt : dst < 2 ^ RF.RVE_LIFECYCLE_STATE.w := by rcases hdst with rfl | rfl | rfl <;> decide
  have hstate : ((s.signedTaken src sg).setF RF.RVE_LIFECYCLE_STATE 0 0 dst).lifecycle = dst :=
    State.getF_setF_fits _ 0 0 hlt (by decide)
  have hrun := (s.mbxRun_signedTaken src sg [.RVE_LIFECYCLE]).setF (x := RF.RVE_LIFECYCLE_STATE) (by decide) (by decide)
    0 0 dst
  have hn : (s.signedTaken src sg).reeve.nonces = s.noncesLeft src sg := by rw [s.reeve_signedTaken]
  have hcount : ((s.signedTaken src sg).setF RF.RVE_LIFECYCLE_STATE 0 0 dst).getF RF.RVE_LIFECYCLE_REFURB 0 0 =
      s.getF RF.RVE_LIFECYCLE_REFURB 0 0 := by
    rw [State.getF_setF_disjoint _ (f := RF.RVE_LIFECYCLE_STATE) (g := RF.RVE_LIFECYCLE_REFURB) 0 0 dst rfl (by decide)
      (by decide), State.signedTaken_getF (by decide)]
  unfold State.lifecycleEnter
  dsimp only
  by_cases hp : dst = lcProvisioned
  · rw [if_pos hp, hcount]
    split
    · refine ⟨(hrun.setF (by decide) (by decide) 0 0 _).modReeve rfl, ?_, hn, fun _ => rfl, fun _ _ => ?_⟩
      · exact (State.getF_setF_disjoint _ (f := RF.RVE_LIFECYCLE_REFURB) (g := RF.RVE_LIFECYCLE_STATE) 0 0 _ rfl
          (by decide) (by decide)).trans hstate
      · rw [State.modReeve_getF, State.getF_setF_same _ RF.RVE_LIFECYCLE_REFURB 0 0 _ (by decide)]
    next hfrom => exact ⟨hrun.modReeve rfl, hstate, hn, fun _ => rfl, fun _ h => absurd h hfrom⟩
  · have hret : dst ≠ lcReturn := by rcases hdst with rfl | rfl | rfl <;> decide
    have hscr : dst ≠ lcScrapped := by rcases hdst with rfl | rfl | rfl <;> decide
    rw [if_neg hp, if_neg hret, if_neg hscr]
    exact ⟨hrun, hstate, hn, fun h => absurd h hp, fun h => absurd h hp⟩

/-- The bindings of the first parishes and their tags are gone (R594). -/
def State.unbound (t : State) (n : Nat) : State :=
  (List.range n).foldl (fun (t : State) p =>
    ((t.parishDisable p).wr .RVE_PARp_TAG 0 p 0#64).wr .RVE_PARp_BIND 0 p 0#64) t

theorem State.unbound_succ (t : State) (n : Nat) : t.unbound (n + 1) =
    (((t.unbound n).parishDisable n).wr .RVE_PARp_TAG 0 n 0#64).wr .RVE_PARp_BIND 0 n 0#64 := by
  rw [State.unbound, List.range_succ, List.foldl_append]
  rfl

/-- What `unbound` does where no parish is enabled. -/
structure State.keysGone (n : Nat) (s t : State) : Prop where
  eq : ∃ regs, t = { s with regs := regs }
  regs : s.onlyRegs [.RVE_PARp_TAG, .RVE_PARp_BIND] t
  zero : ∀ p < n, t.rd .RVE_PARp_BIND 0 p = 0#64 ∧ t.rd .RVE_PARp_TAG 0 p = 0#64

theorem State.keysGone_unbound {n : Nat} (hn : n ≤ 32)
    (hoff : ∀ p, p < 32 → s.flag RF.WFR_PAR_CTL_ENABLE p 0 = false) : State.keysGone n s (s.unbound n) := by
  induction n with
  | zero => exact ⟨⟨_, rfl⟩, s.onlyRegs_refl _, fun p hp => absurd hp (by omega)⟩
  | succ n ih =>
    obtain ⟨⟨regs, heq⟩, hregs, hzero⟩ := ih (by omega)
    rw [State.unbound_succ]
    generalize s.unbound n = t at heq hregs hzero
    have hdis : t.parishDisable n = t := by
      unfold State.parishDisable
      rw [hregs.flag (x := RF.WFR_PAR_CTL_ENABLE) (by decide), hoff n (by omega), if_neg (by decide)]
    rw [hdis]
    refine ⟨⟨_, by rw [heq]; rfl⟩, hregs.trans ((t.onlyRegs_wr 0 n _ (by decide)).trans
      (State.onlyRegs_wr _ 0 n _ (by decide))), fun p hp => ?_⟩
    by_cases hpn : p = n
    · rw [hpn, State.rd_wr_same, State.rd_wr_reg _ _ _ _ _ (by decide), State.rd_wr_same]
      exact ⟨rfl, rfl⟩
    · rw [State.rd_wr_other _ (rkey_ne_of_idx (by omega) (by omega) hpn),
        State.rd_wr_reg _ _ _ _ _ (by decide), State.rd_wr_reg _ _ _ _ _ (by decide),
        State.rd_wr_other _ (rkey_ne_of_idx (by omega) (by omega) hpn)]
      exact hzero p (by omega)

/-- Every key destroyed, and the owner's with them (R583, R594). -/
def State.keyless (t : State) : State := t.destroyKeys.modReeve (fun r => { r with ownerKey := [] })

theorem State.granRefresh_eq (t : State) : ∃ b, t.granRefresh = t.setFlag RF.HBM_GRAN_CTL_READY 0 0 b := ⟨_, rfl⟩

theorem State.destroyKeys_eq (t : State) : t.destroyKeys =
    ((t.unbound 32).modReeve (fun r => { r with tenantKeys := [], nonces := [] })).granRefresh := rfl

theorem State.onlyRegs_keyless (t : State) : (t.unbound 32).onlyRegs [.HBM_GRAN_CTL] t.keyless := by
  rw [State.keyless, State.destroyKeys_eq]
  obtain ⟨b, hb⟩ := ((t.unbound 32).modReeve (fun r => { r with tenantKeys := [], nonces := [] })).granRefresh_eq
  rw [hb]
  exact ((((t.unbound 32).onlyRegs_refl _).modReeve _).trans
    (State.onlyRegs_setFlag _ (f := RF.HBM_GRAN_CTL_READY) 0 0 b (by decide))).modReeve _

theorem State.reeve_keyless (t : State) :
    t.keyless.reeve = { (t.unbound 32).reeve with ownerKey := [], tenantKeys := [], nonces := [] } := by
  rw [State.keyless, State.destroyKeys_eq]
  obtain ⟨b, hb⟩ := ((t.unbound 32).modReeve (fun r => { r with tenantKeys := [], nonces := [] })).granRefresh_eq
  rw [hb]
  rfl

/-- The first fields show OFF (R529). -/
def State.fieldsOff (t : State) (n : Nat) : State :=
  (List.range n).foldl (fun (t : State) f => t.setF RF.PWR_FLD_STAT_STATE f 0 3) t

theorem State.fieldsOff_succ (t : State) (n : Nat) :
    t.fieldsOff (n + 1) = (t.fieldsOff n).setF RF.PWR_FLD_STAT_STATE n 0 3 := by
  rw [State.fieldsOff, List.range_succ, List.foldl_append]
  rfl

theorem State.reeve_fieldsOff (t : State) (n : Nat) : (t.fieldsOff n).reeve = t.reeve := by
  induction n with
  | zero => rfl
  | succ n ih =>
    rw [State.fieldsOff_succ]
    exact ih

theorem State.onlyRegs_fieldsOff (t : State) (n : Nat) : t.onlyRegs [.PWR_FLD_STAT] (t.fieldsOff n) := by
  induction n with
  | zero => exact t.onlyRegs_refl _
  | succ n ih =>
    rw [State.fieldsOff_succ]
    exact ih.trans (State.onlyRegs_setF _ n 0 3 (by decide))

/-- What entering SCRAPPED does (R583, R594), from the state in which its command decides. -/
structure State.scrapped (s u : State) : Prop where
  regs : s.onlyRegs [.RVE_LIFECYCLE, .RVE_PARp_TAG, .RVE_PARp_BIND, .HBM_GRAN_CTL, .PWR_FLD_STAT] u
  state : u.lifecycle = lcScrapped
  stage : u.boot.stage = .halted
  reeve : u.reeve = { s.reeve with ownerKey := [], tenantKeys := [], nonces := [] }
  zero : ∀ p < 32, u.rd .RVE_PARp_BIND 0 p = 0#64 ∧ u.rd .RVE_PARp_TAG 0 p = 0#64
  power : ∀ f < 80, u.fieldPower f = 3

/-- A state whose boot has halted. -/
def State.bootHalted (t : State) : State := { t with boot := { t.boot with stage := .halted } }

theorem State.lifecycleEnter_scrapped (t : State) (now : Nat) (ownerKey : List Byte) :
    t.lifecycleEnter now lcScrapped ownerKey =
      ((t.setF RF.RVE_LIFECYCLE_STATE 0 0 lcScrapped).keyless.fieldsOff 80).bootHalted := by
  unfold State.lifecycleEnter
  dsimp only
  rw [if_neg (by decide), if_neg (by decide), if_pos rfl]
  rfl

theorem State.scrapped_bootHalted
    (hregs : s.onlyRegs [.RVE_LIFECYCLE, .RVE_PARp_TAG, .RVE_PARp_BIND, .HBM_GRAN_CTL, .PWR_FLD_STAT] u)
    (hstate : u.lifecycle = lcScrapped) (hreeve : u.reeve = { s.reeve with ownerKey := [], tenantKeys := [], nonces := [] })
    (hzero : ∀ p < 32, u.rd .RVE_PARp_BIND 0 p = 0#64 ∧ u.rd .RVE_PARp_TAG 0 p = 0#64)
    (hpower : ∀ f < 80, u.fieldPower f = 3) : s.scrapped u.bootHalted :=
  ⟨hregs, hstate, rfl, hreeve, hzero, hpower⟩

theorem State.scrapped_lifecycleEnter (t : State) (now : Nat) (ownerKey : List Byte)
    (hoff : ∀ p, p < 32 → t.flag RF.WFR_PAR_CTL_ENABLE p 0 = false) :
    t.scrapped (t.lifecycleEnter now lcScrapped ownerKey) := by
  have hset := t.onlyRegs_setF (f := RF.RVE_LIFECYCLE_STATE) (l := [.RVE_LIFECYCLE]) 0 0 lcScrapped (by decide)
  have hstate : (t.setF RF.RVE_LIFECYCLE_STATE 0 0 lcScrapped).lifecycle = lcScrapped :=
    State.getF_setF_fits _ 0 0 (by decide) (by decide)
  have hreeve : (t.setF RF.RVE_LIFECYCLE_STATE 0 0 lcScrapped).reeve = t.reeve := rfl
  have hoffSet : ∀ p, p < 32 →
      (t.setF RF.RVE_LIFECYCLE_STATE 0 0 lcScrapped).flag RF.WFR_PAR_CTL_ENABLE p 0 = false :=
    fun p hp => (hset.flag (x := RF.WFR_PAR_CTL_ENABLE) (by decide) p 0).trans (hoff p hp)
  rw [State.lifecycleEnter_scrapped]
  generalize t.setF RF.RVE_LIFECYCLE_STATE 0 0 lcScrapped = u at hset hstate hreeve hoffSet
  obtain ⟨⟨regs, heq⟩, hkeys, hzero⟩ := State.keysGone_unbound (Nat.le_refl 32) hoffSet
  have hkeyless := u.onlyRegs_keyless
  have hkeylessReeve := u.reeve_keyless
  have hpower := fun f (hf : f < 80) =>
    u.keyless.getF_foldl_setF RF.PWR_FLD_STAT_STATE 3 (by decide) (n := 80) (by decide) hf
  have hoffReeve := u.keyless.reeve_fieldsOff 80
  have hall : (u.unbound 32).onlyRegs [.HBM_GRAN_CTL, .PWR_FLD_STAT] (u.keyless.fieldsOff 80) :=
    (hkeyless.mono (by decide)).trans ((u.keyless.onlyRegs_fieldsOff 80).mono (by decide))
  rw [← State.fieldsOff] at hpower
  have hregs : t.onlyRegs [.RVE_LIFECYCLE, .RVE_PARp_TAG, .RVE_PARp_BIND, .HBM_GRAN_CTL, .PWR_FLD_STAT]
      (u.keyless.fieldsOff 80) :=
    ((hset.mono (by decide)).trans (hkeys.mono (by decide))).trans (hall.mono (by decide))
  refine State.scrapped_bootHalted hregs ?_ ?_ ?_ hpower
  · exact ((hall.getF (x := RF.RVE_LIFECYCLE_STATE) (by decide) 0 0).trans
      (hkeys.getF (x := RF.RVE_LIFECYCLE_STATE) (by decide) 0 0)).trans hstate
  · rw [hoffReeve, hkeylessReeve, heq, ← hreeve]
  · intro p hp
    obtain ⟨hbind, htag⟩ := hzero p hp
    exact ⟨(hall .RVE_PARp_BIND 0 p (by decide)).trans hbind, (hall .RVE_PARp_TAG 0 p (by decide)).trans htag⟩

theorem transition_scrapped {now : Nat} (h : now ≠ lcScrapped) (who : Signer) :
    transition now lcScrapped who = (true, true) := by
  unfold transition
  rw [if_neg (by simp [lcScrapped, lcManufacture]), if_neg (by simp [lcScrapped, lcProvisioned]), if_neg (by simp [lcScrapped, lcDeployed]),
    if_neg (by simp [lcScrapped, lcReturn]), if_neg (by simp [lcScrapped, lcProvisioned]), if_pos ⟨h, rfl⟩]

/-! ### Frames of answered commands -/

theorem State.mbxOnly.serialFrame (h : State.mbxOnly l s t) : t = { s with
    serial := t.serial, regs := t.regs, host := t.host, reeve := t.reeve, out := t.out } := by
  rw [h.eq]

theorem State.mbxOnly.freshFrame (h : State.mbxOnly l s.fresh.2 t) : t = { s with
    serial := t.serial, regs := t.regs, host := t.host, reeve := t.reeve, out := t.out } := by
  rw [h.eq]
  rfl

theorem State.mbxOnly.bindFrame (h : State.mbxOnly l s t) : t = { s with
    serial := t.serial, regs := t.regs, mem := t.mem, commons := t.commons, crofters := t.crofters, verne := t.verne, host := t.host
    reeve := t.reeve, out := t.out } := by
  rw [h.eq]

theorem State.mbxOnly_raise (s : State) {x : RF} (h : x.reg ∈ mbxRegs) : State.mbxOnly mbxRegs s (s.raise x 0) where
  eq := by
    have heq := (s.messageOnly_raise x 0).eq
    generalize s.raise x 0 = t at heq
    rw [heq]
  regs := (s.messageOnly_raise x 0).regs.mono (List.cons_subset.mpr ⟨h, by decide⟩)

/-! ### Status and nonces (R576, R577) -/

/-- The nonce that a GET_NONCE issues from the free value `k`. -/
def nonceBytes (k : Nat) : List Byte := (List.range 16).map (Config.freeByte k)

/-- The state when a nonce has been issued. -/
def State.nonceIssued (t : State) (src : MbxSource) : State :=
  t.drbgRequest.fresh.2.modReeve (fun r => { r with
    nonces := r.nonces ++ [(src, BitVec.ofNat 128 (leNat (nonceBytes t.drbgRequest.fresh.1)), t.now)] })

theorem State.mbxTaken_now : (s.mbxTaken src).now = s.now := by
  rw [(s.mbxRun_mbxTaken src []).eq]

theorem State.reeveGetStatus_run (h : s.mbxTakes src 0x01 [.pf, .smbus, .tap] = true) :
    ∃ u d, exec (.reeveGetStatus src) s = .next (u.mbxPost src mbxOk d) ∧ State.mbxRun s.fresh.2 src [] u :=
  ⟨_, _, congrArg Host.Outcome.next (State.mailbox_of_takes h _), s.mbxRun_fresh src []⟩

theorem State.reeveGetNonce_ready (h : s.mbxTakes src 0x02 [.pf, .smbus, .tap] = true)
    (hready : s.entropyReady = true) :
    ∃ u d n, exec (.reeveGetNonce src) s = .next (u.mbxPost src mbxOk d) ∧ State.mbxRun s.fresh.2 src [] u ∧
      u.reeve.nonces = s.reeve.nonces ++ [(src, n, s.now)] := by
  refine ⟨(s.mbxTaken src).nonceIssued src, nonceBytes (s.mbxTaken src).drbgRequest.fresh.1,
    BitVec.ofNat 128 (leNat (nonceBytes (s.mbxTaken src).drbgRequest.fresh.1)), ?_,
    ((s.mbxRun_fresh src []).modReeve (g := fun r => { r with requests := r.requests + 1 }) rfl).modReeve rfl, ?_⟩
  · refine (congrArg Host.Outcome.next (State.mailbox_of_takes h _)).trans (congrArg Host.Outcome.next ?_)
    dsimp only
    rw [State.mbxTaken_entropyReady, hready, if_neg (by decide)]
    rfl
  · show (s.mbxTaken src).reeve.nonces ++ [(src, _, (s.mbxTaken src).now)] = _
    rw [s.reeve_mbxTaken, State.mbxTaken_now]

theorem State.reeveGetNonce_pending (h : s.mbxTakes src 0x02 [.pf, .smbus, .tap] = true)
    (hready : s.entropyReady = false) :
    exec (.reeveGetNonce src) s = .next ((s.mbxTaken src).mbxPost src mbxEntropy []) := by
  refine (congrArg Host.Outcome.next (State.mailbox_of_takes h _)).trans (congrArg Host.Outcome.next ?_)
  dsimp only
  rw [State.mbxTaken_entropyReady, hready, if_pos (by decide), State.mbxEnd]

theorem State.reeveGetNonce_rejected (hon : s.boot.stage ≠ .off) (hbusy : s.flag RF.RVE_MBX_STAT_BUSY 0 0 = true)
    (hother : s.reeve.posted ≠ some 0x02) :
    exec (.reeveGetNonce .pf) s = .next (s.raise RF.RVE_MBX_EVENT_REJECTED 0) := by
  refine congrArg Host.Outcome.next ?_
  unfold State.mailbox
  dsimp only
  rw [if_neg hon, if_pos rfl, hbusy, if_pos (by simpa using hother)]

theorem State.tenantBind_denied (p : ParishId) (tag : Word) (epoch : BitVec 32) (physical : Bool)
    (digest : Option (List Byte)) (hpf : src ≠ .pf) (hon : s.boot.stage ≠ .off) (hup : s.beforeReeve = false) :
    exec (.tenantBind src p tag epoch physical digest) s = .next (s.send (.mailbox src mbxDenied [])) := by
  refine congrArg Host.Outcome.next ?_
  unfold State.mailbox
  dsimp only
  rw [if_neg hon, if_neg hpf, hup, if_neg (by decide), if_pos (by simpa using hpf), State.mbxEnd,
    State.mbxPost_other hpf]

end

/-- Settles O38: what each command of the mailbox has changed when it is answered. Mailbox corners are the model's by
log 149, the order of nonce and signature checks log 150, binding and scrubs log 154, staged images log 156, lifecycle
entries log 157 and the order of refusals log 213 (DEDUCED). -/
theorem reeveCommandsAnswer : Obligations.ReeveCommandsAnswer := by
  unfold Obligations.ReeveCommandsAnswer
  refine ⟨?getStatus, ?getNonce, ?rejected, ?bind, ?bindRefused, ?denied, ?release, ?releaseRefused, ?grant, ?revoke,
    ?stage, ?activate, ?lifecycle, ?scrap, ?unknown, ?unlock, ?returnToService⟩
  case getStatus =>
    intro src s h
    obtain ⟨u, d, hexec, hrun⟩ := State.reeveGetStatus_run h
    have honly := hrun.post mbxOk d
    exact ⟨_, hexec, hrun.answered (by decide) d, honly.freshFrame, honly.regs.mono (by decide)⟩
  case getNonce =>
    intro src s h
    cases hready : s.entropyReady with
    | true =>
      obtain ⟨u, d, n, hexec, hrun, hn⟩ := State.reeveGetNonce_ready h hready
      have honly := hrun.post mbxOk d
      refine ⟨_, hexec, ⟨fun _ => ⟨hrun.answered (by decide) d, n, ?_⟩, fun e => absurd e (by decide)⟩,
        honly.freshFrame, honly.regs.mono (by decide)⟩
      rw [State.mbxPost_reeve (fun r => r.nonces) (fun _ _ => rfl), hn]
    | false =>
      have hrun := s.mbxRun_mbxTaken src []
      have honly := hrun.post mbxEntropy []
      refine ⟨_, State.reeveGetNonce_pending h hready, ⟨fun e => absurd e (by decide),
        fun _ => ⟨hrun.answered (by decide) [], ?_⟩⟩, honly.serialFrame, honly.regs.mono (by decide)⟩
      rw [State.mbxPost_reeve (fun r => r.nonces) (fun _ _ => rfl), s.reeve_mbxTaken]
  case rejected =>
    rintro src s ⟨rfl, hon, hbusy, hother⟩
    have honly := State.mbxOnly_raise s (x := RF.RVE_MBX_EVENT_REJECTED) (by decide)
    exact ⟨_, State.reeveGetNonce_rejected hon hbusy hother, ⟨State.flag_raise_same s 0 (by decide) (by decide) rfl,
      s.reeve_raise _ _⟩, honly.serialFrame, honly.regs⟩
  case bind =>
    rintro src p tag epoch physical digest l s ⟨htakes, hdigest, hmay, hlocked, hready, hnew, hepoch, hspread, hl, hne⟩
    obtain ⟨u, hexec, h⟩ := State.tenantBind_begins physical htakes hdigest hmay hlocked hready hnew hepoch hspread hl hne
    refine ⟨u, hexec, ⟨h.scrubs_taken, h.progress, fun f hf => ?_, h.drain, h.grant, h.busy⟩,
      h.mbxOnly.bindFrame, h.mbxOnly.regs.mono (by decide)⟩
    exact h.held (s.scrubField p.val f true) (List.mem_map_of_mem hf)
  case bindRefused =>
    rintro src p tag epoch physical digest s ⟨htakes, hdigest, hrefused⟩
    have hrun := s.mbxRun_mbxTaken src []
    have honly := hrun.post (s.bindRefusal p.val) []
    refine ⟨_, State.tenantBind_refused tag epoch physical htakes hdigest hrefused,
      ⟨hrun.answered (s.bindRefusal_lt p.val) [], ?_⟩, honly.bindFrame, honly.regs.mono (by decide)⟩
    rw [State.mbxPost_reeve (fun r => r.scrubs) (fun _ _ => rfl), s.reeve_mbxTaken]
  case denied =>
    rintro src p tag epoch physical digest s ⟨hpf, hon, hup⟩
    refine ⟨_, State.tenantBind_denied p tag epoch physical digest hpf hon hup, ⟨?_, rfl, rfl⟩, rfl, s.onlyRegs_refl _⟩
    simp [State.mbxAnswered, hpf, State.send]
  case release =>
    rintro src p physical l s ⟨htakes, hmay, hl, hne⟩
    obtain ⟨u, hexec, h⟩ := State.tenantRelease_begins physical htakes hmay hl hne
    refine ⟨u, hexec, ⟨h.scrubs_taken, h.progress, fun f hf => ?_, h.drain⟩, h.mbxOnly.bindFrame,
      h.mbxOnly.regs.mono (by decide)⟩
    exact h.held (s.scrubField p.val f true) (List.mem_map_of_mem hf)
  case releaseRefused =>
    rintro src p physical s ⟨htakes, hrefused⟩
    have hrun := s.mbxRun_mbxTaken src []
    have honly := hrun.post (s.bindRefusal p.val) []
    refine ⟨_, State.tenantRelease_refused physical htakes hrefused,
      ⟨hrun.answered (s.bindRefusal_lt p.val) [], ?_⟩, honly.bindFrame, honly.regs.mono (by decide)⟩
    rw [State.mbxPost_reeve (fun r => r.scrubs) (fun _ _ => rfl), s.reeve_mbxTaken]
  case grant =>
    rintro src p sg ok s ⟨htakes, rfl⟩
    obtain ⟨u, hexec, hrun, hn, hgrant⟩ := State.assayGrant_run p sg htakes
    have hlt : (if s.grantable p.val = true then (s.checkSigned src sg).1 else mbxState) < 256 := by
      split
      · exact s.checkSigned_lt src sg
      · exact (by decide : mbxState < 256)
    have honly := hrun.post (if s.grantable p.val = true then (s.checkSigned src sg).1 else mbxState) []
    have hanswer := hrun.answered hlt []
    refine ⟨_, hexec, ⟨?_, fun hno => ?_, fun hok => ?_, ?_⟩, honly.eq, honly.regs.mono (by decide)⟩
    · rw [State.mbxPost_reeve (fun r => r.nonces) (fun _ _ => rfl), hn]
    · rwa [show s.grantable p.val = false from hno] at hanswer ⊢
    · rwa [show s.grantable p.val = true from hok] at hanswer ⊢
    · rw [State.mbxPost_flag (by decide), hgrant]
      rfl
  case revoke =>
    intro src p s h
    have hrun := (s.mbxRun_mbxTaken src [.RVE_PARp_BIND]).setFlag (x := RF.RVE_PARp_BIND_ASSAY_GRANTED) (by decide)
      (by decide) 0 p.val false
    have honly := hrun.post mbxOk []
    refine ⟨_, congrArg Host.Outcome.next (State.mailbox_of_takes h _), ⟨?_, hrun.answered (by decide) []⟩, honly.eq,
      honly.regs.mono (by decide)⟩
    rw [State.mbxEnd, State.mbxPost_flag (by decide),
      State.flag_setFlag_same _ RF.RVE_PARp_BIND_ASSAY_GRANTED 0 p.val false (by decide) rfl]
  case stage =>
    rintro src cls version imageOk sg r s ⟨htakes, hr⟩
    obtain ⟨u, hexec, hstage⟩ := State.fwStage_run cls version imageOk sg htakes
    rw [show s.stageResult src cls version imageOk sg = r from hr.symm] at hexec hstage
    have hlt : r < 256 := hr ▸ s.stageResult_lt src cls version imageOk sg
    have honly := hstage.run.post r []
    refine ⟨_, hexec, ⟨hstage.run.answered hlt [], ?_, fun e => ⟨?_, ?_⟩, fun e => ?_⟩, honly.eq,
      honly.regs.mono (by decide)⟩
    · rw [State.mbxPost_reeve (fun r => r.nonces) (fun _ _ => rfl), hstage.nonces]
    · rw [State.mbxPost_flag (by decide), (hstage.staged e).1]
    · rw [State.mbxPost_reeve (fun r => r.slots) (fun _ _ => rfl), (hstage.staged e).2, State.stagedSlots]
    · rw [State.mbxPost_reeve (fun r => r.slots) (fun _ _ => rfl), hstage.kept e]
  case activate =>
    intro src s h
    cases hc : s.flag RF.RVE_IMAGES_CONFIRM 0 0 with
    | true =>
      obtain ⟨u, hexec, hrun, hclear, hfuses⟩ := State.fwActivate_confirms h hc
      have honly := hrun.post mbxOk []
      refine ⟨_, hexec, ⟨fun _ => ⟨?_, hrun.answered (by decide) [], ?_⟩, fun e => absurd e (by decide),
        fun e => absurd e (by decide)⟩, honly.eq, honly.regs.mono (by decide)⟩
      · rw [State.mbxPost_flag (by decide), hclear]
      · rw [State.mbxPost_reeve (fun r => r.fuses) (fun _ _ => rfl), hfuses, State.confirmedFuses]
    | false =>
      obtain ⟨u, hexec, hrun, hfuses, hact⟩ := State.fwActivate_selects h hc
      have honly := hrun.post (if s.flag RF.RVE_IMAGES_STAGED 0 0 = true then mbxOk else mbxState) []
      refine ⟨_, hexec, ⟨fun e => absurd e (by decide), fun _ hs => ?_, fun _ hs => ?_⟩, honly.eq,
        honly.regs.mono (by decide)⟩
      · rw [State.mbxPost_reeve (fun r => r.activated) (fun _ _ => rfl),
          State.mbxPost_reeve (fun r => r.fuses) (fun _ _ => rfl), hact, hfuses, hs]
        exact ⟨rfl, rfl, hrun.answered (by decide) []⟩
      · rw [State.mbxPost_reeve (fun r => r.activated) (fun _ _ => rfl), hact, hs]
        exact ⟨hrun.answered (by decide) [], rfl⟩
  case lifecycle =>
    rintro src target who ownerKey sg s ⟨htakes, htarget, hkey, hbist, hmay, hrefurb, hok⟩
    have hmoved := s.lifecycleMoved_lifecycleEnter src sg ownerKey htarget
    refine ⟨_, State.lifecycle_accepted htakes hkey hbist hmay (fun _ => hrefurb) hok,
      ?_, hmoved.run.answered (by decide) [], ?_, fun hp => ?_, fun hp hret => ?_⟩
    · exact (State.mbxPost_getF (x := RF.RVE_LIFECYCLE_STATE) (by decide) _ _ 0 0).trans hmoved.state
    · rw [State.mbxPost_reeve (fun r => r.nonces) (fun _ _ => rfl), hmoved.nonces]
    · rw [State.mbxPost_reeve (fun r => r.ownerKey) (fun _ _ => rfl), hmoved.key hp]
    · rw [State.mbxPost_getF (by decide), hmoved.refurb hp hret]
  case scrap =>
    rintro src target who ownerKey sg s ⟨htakes, htarget, hbist, hlive, hok, hoff⟩
    have hexec := State.lifecycle_accepted (target := target) (ownerKey := ownerKey) (who := who) htakes
      (fun e => absurd (htarget.symm.trans e) (by decide)) hbist (htarget ▸ transition_scrapped hlive who)
      (fun e => absurd (htarget.symm.trans e) (by decide)) hok
    have hsigned := s.mbxRun_signedTaken src sg []
    have hscrap := (s.signedTaken src sg).scrapped_lifecycleEnter s.lifecycle ownerKey
      (fun p hp => (State.signedTaken_flag (by decide) p 0).trans (hoff p hp))
    rw [htarget] at hexec
    generalize (s.signedTaken src sg).lifecycleEnter s.lifecycle lcScrapped ownerKey = u at hexec hscrap
    have hpost := u.onlyRegs_mbxPost src mbxOk []
    have hstage : (u.mbxPost src mbxOk []).boot = u.boot := by rw [u.mbxPost_eq]
    refine ⟨_, hexec, ?_, ?_, ?_, ?_, ?_, fun p hp => ?_, fun f hf => ?_, ?_⟩
    · exact (hpost.getF (x := RF.RVE_LIFECYCLE_STATE) (by decide) 0 0).trans hscrap.state
    · rw [hstage, hscrap.stage]
    · rw [State.mbxPost_reeve (fun r => r.ownerKey) (fun _ _ => rfl), hscrap.reeve]
    · rw [State.mbxPost_reeve (fun r => r.tenantKeys) (fun _ _ => rfl), hscrap.reeve]
    · rw [State.mbxPost_reeve (fun r => r.nonces) (fun _ _ => rfl), hscrap.reeve]
    · rw [hpost .RVE_PARp_BIND 0 p (by decide), hpost .RVE_PARp_TAG 0 p (by decide)]
      exact hscrap.zero p hp
    · exact (hpost.getF (x := RF.PWR_FLD_STAT_STATE) (by decide) f 0).trans (hscrap.power f hf)
    · refine State.mbxAnswered_mbxPost ?_ ?_ (by decide) []
      · exact (hscrap.regs.getF (x := RF.RVE_MBX_STAT_COMPLETED) (by decide) 0 0).trans hsigned.count
      · intro hpf
        rw [hscrap.reeve]
        exact hsigned.posted hpf
  case unknown =>
    rintro src target who ownerKey sg s ⟨htakes, hkey, hno⟩
    refine ⟨_, State.lifecycle_unknown sg htakes hkey hno, (s.mbxRun_signedTaken src sg []).answered (by decide) [], ?_⟩
    exact (State.mbxPost_getF (x := RF.RVE_LIFECYCLE_STATE) (by decide) _ _ 0 0).trans (State.signedTaken_lifecycle sg)
  case unlock =>
    rintro src sg r s ⟨htakes, hr⟩
    obtain ⟨u, hexec, hlt, hrun, hn, hflag⟩ := State.debugUnlock_run sg htakes
    rw [show s.unlockResult src sg = r from hr.symm] at hexec hlt hflag
    have honly := hrun.post r []
    refine ⟨_, hexec, ⟨hrun.answered hlt [], ?_, ?_⟩, honly.eq, honly.regs.mono (by decide)⟩
    · rw [State.mbxPost_reeve (fun r => r.nonces) (fun _ _ => rfl), hn]
    · rw [State.mbxPost_flag (by decide), hflag]
  case returnToService =>
    intro src sg s h
    obtain ⟨u, hexec, hrun, hn, hpending⟩ := State.returnToService_run sg h
    have honly := hrun.post (s.checkSigned src sg).1 []
    refine ⟨_, hexec, ⟨hrun.answered (s.checkSigned_lt src sg) [], ?_, ?_⟩, honly.eq, honly.regs.mono (by decide)⟩
    · rw [State.mbxPost_reeve (fun r => r.nonces) (fun _ _ => rfl), hn]
    · rw [State.mbxPost_reeve (fun r => r.returnPending) (fun _ _ => rfl), hpending]

end Sys2Proof.Machine

/-! SPDM, entropy and the watchdog of the Reeve (R581, R582, R595–R597, R601). -/

namespace Sys2Proof.Machine

section
variable {s t u : State} {src : MbxSource} {l : List Reg}

/-! ### Messages follow what was sent -/

/-- What a state has sent begins with what another has sent. -/
def State.sentMore (s t : State) : Prop := ∃ m, t.out = s.out ++ m

theorem State.sentMore.trans (h : s.sentMore t) (k : t.sentMore u) : s.sentMore u := by
  obtain ⟨m, hm⟩ := h
  obtain ⟨n, hn⟩ := k
  exact ⟨m ++ n, by rw [hn, hm, List.append_assoc]⟩

theorem State.sentMore_of_out (h : t.out = s.out) : s.sentMore t := ⟨[], by rw [h, List.append_nil]⟩

theorem State.sentMore_msixNow (s : State) (fn : FnId) (e : Nat) : s.sentMore (s.msixNow fn e) := by
  unfold State.msixNow
  dsimp only
  split
  · exact State.sentMore_of_out rfl
  · exact ⟨_, rfl⟩

theorem State.sentMore_msixDrop (s : State) : s.sentMore s.msixDrop := by
  unfold State.msixDrop
  dsimp only
  split
  · exact State.sentMore_of_out rfl
  · exact (State.sentMore_of_out rfl).trans (State.sentMore_msixNow _ 0 5)

theorem State.sentMore_sendMsix (s : State) (fn : FnId) (e : Nat) : s.sentMore (s.sendMsix fn e) := by
  unfold State.sendMsix
  split
  · exact State.sentMore_of_out rfl
  · split
    · exact s.sentMore_msixDrop
    · exact s.sentMore_msixNow fn e

theorem State.sentMore_sendFixed (s : State) (r : Reg) : s.sentMore (s.sendFixed r) := by
  unfold State.sendFixed
  split
  · split
    · exact s.sentMore_sendMsix 0 _
    · exact State.sentMore_of_out rfl
  · exact State.sentMore_of_out rfl

theorem State.sentMore_raise (s : State) (x : RF) (i : Nat) : s.sentMore (s.raise x i) := by
  unfold State.raise
  dsimp only
  split
  · exact State.sentMore_of_out rfl
  · exact (State.sentMore_of_out rfl).trans (State.sentMore_sendFixed _ x.reg)

theorem State.sentMore_mbxPost (u : State) (src : MbxSource) (r : Nat) (d : List Byte) :
    u.sentMore (u.mbxPost src r d) := by
  by_cases hpf : src = .pf
  · rw [hpf, State.mbxPost_pf]
    exact (State.sentMore_of_out rfl).trans (State.sentMore_raise _ RF.RVE_MBX_EVENT_DONE 0)
  · rw [State.mbxPost_other hpf]
    exact ⟨_, rfl⟩

/-! ### SPDM (R581, R582) -/

theorem State.mbxRun.send (h : s.mbxRun src l u) (m : OutMsg) : s.mbxRun src l (u.send m) where
  eq := by
    rw [h.eq]
    rfl
  regs := h.regs
  count := h.count
  posted := h.posted

/-- What an SPDM request has changed when it is answered with a response code and its fields. -/
structure State.spdmDone (s : State) (src : MbxSource) (kind : Nat) (fields : List Nat) (t : State) : Prop where
  answered : s.spdmAnswered src kind fields t = true
  only : State.mbxOnly mbxRegs s.fresh.2 t

theorem State.mbxTaken_out : (s.mbxTaken src).out = s.out := by
  unfold State.mbxTaken
  split <;> rfl

theorem State.spdmDone_spdmAnswer (s : State) (src : MbxSource) (kind : Nat) (fields : List Nat) :
    s.spdmDone src kind fields ((s.mbxTaken src).spdmAnswer src kind fields) := by
  have hanswer : (s.mbxTaken src).spdmAnswer src kind fields =
      ((s.mbxTaken src).fresh.2.send (.spdm src kind fields)).mbxPost src mbxOk
        (if src = .pf then (s.mbxTaken src).freeData.1 else []) := rfl
  have hrun := (s.mbxRun_fresh src []).send (.spdm src kind fields)
  have hout : ((s.mbxTaken src).fresh.2.send (.spdm src kind fields)).out = s.out ++ [.spdm src kind fields] :=
    congrArg (fun m : List OutMsg => m ++ [.spdm src kind fields]) (State.mbxTaken_out (s := s) (src := src))
  rw [hanswer]
  generalize (if src = .pf then (s.mbxTaken src).freeData.1 else []) = d
  generalize (s.mbxTaken src).fresh.2.send (.spdm src kind fields) = u at hrun hout
  refine ⟨?_, hrun.post mbxOk d⟩
  obtain ⟨m, hm⟩ := u.sentMore_mbxPost src mbxOk d
  have hans : s.mbxAnswered src mbxOk (u.mbxPost src mbxOk d) = true := hrun.answered (by decide) d
  rw [State.spdmAnswered, hans, hm, hout, List.append_assoc, List.drop_left]
  simp

theorem State.mbxTaken_certSlots : (s.mbxTaken src).certSlots = s.certSlots := by
  unfold State.certSlots
  rw [s.reeve_mbxTaken]

theorem State.mbxTaken_lifecycle : (s.mbxTaken src).lifecycle = s.lifecycle := State.mbxTaken_getF (by decide) 0 0

theorem State.mbxTaken_measurement7 : (s.mbxTaken src).measurement7 = s.measurement7 := by
  unfold State.measurement7
  rw [State.mbxTaken_lifecycle, State.mbxTaken_getF (by decide)]

theorem State.mbxTaken_measured (index : Nat) : (s.mbxTaken src).measured index = s.measured index := by
  unfold State.measured
  rw [State.mbxTaken_lifecycle]

theorem State.spdm_of_takes (h : s.mbxTakes src 0x40 [.pf, .smbus] = true) (kind : Nat) (fields : State → List Nat) :
    s.spdmDone src kind (fields (s.mbxTaken src)) (s.spdm src kind fields) := by
  have hrun : s.spdm src kind fields = (s.mbxTaken src).spdmAnswer src kind (fields (s.mbxTaken src)) :=
    State.mailbox_of_takes h _
  rw [hrun]
  exact s.spdmDone_spdmAnswer src kind _

/-- An SPDM request about a slot is answered with `kind` where the slot holds a chain, and with an error otherwise. -/
theorem State.spdmSlot_of_takes (h : s.mbxTakes src 0x40 [.pf, .smbus] = true) (slot : Fin 8) (kind : Nat)
    (fields : List Nat) :
    ∃ t, s.mailbox src 0x40 [.pf, .smbus] (fun t =>
        if t.certSlots.testBit slot.val then t.spdmAnswer src kind fields else t.spdmAnswer src 0x7F [0x01]) = t ∧
      (s.certSlots.testBit slot.val = true → s.spdmAnswered src kind fields t = true) ∧
      (s.certSlots.testBit slot.val = false → s.spdmAnswered src 0x7F [0x01] t = true) ∧
      State.mbxOnly mbxRegs s.fresh.2 t := by
  refine ⟨_, State.mailbox_of_takes h _, ?_⟩
  rw [State.mbxTaken_certSlots]
  cases hslot : s.certSlots.testBit slot.val with
  | true =>
    have hdone := s.spdmDone_spdmAnswer src kind fields
    exact ⟨fun _ => hdone.answered, fun e => absurd e (by decide), hdone.only⟩
  | false =>
    have hdone := s.spdmDone_spdmAnswer src 0x7F [0x01]
    exact ⟨fun e => absurd e (by decide), fun _ => hdone.answered, hdone.only⟩

/-! ### The next output of the DRBG (R596, R597, R604) -/

/-- What the next DRBG output changes. -/
structure State.rngOnly (s t : State) : Prop where
  eq : t = { s with serial := t.serial, regs := t.regs, reeve := t.reeve }
  regs : s.onlyRegs [.RVE_RNG_DATA] t
  reeve : ∃ k, t.reeve = { s.reeve with requests := k }

theorem State.rngOnly_fresh (s : State) : s.rngOnly s.fresh.2 := ⟨rfl, s.onlyRegs_refl _, _, rfl⟩

theorem State.rngOnly.drbgRequest (h : s.rngOnly t) : s.rngOnly t.drbgRequest where
  eq := by
    rw [h.eq]
    rfl
  regs := h.regs
  reeve := by
    obtain ⟨k, hk⟩ := h.reeve
    exact ⟨t.reeve.requests + 1, by rw [State.drbgRequest, State.modReeve, hk]⟩

theorem State.rngOnly.wr (h : s.rngOnly t) (v : Word) : s.rngOnly (t.wr .RVE_RNG_DATA 0 0 v) where
  eq := by
    rw [h.eq]
    rfl
  regs := h.regs.trans (t.onlyRegs_wr 0 0 v (by decide))
  reeve := h.reeve

theorem State.rngOnly.setFlag (h : s.rngOnly t) {x : RF} (hx : x.reg = .RVE_RNG_DATA) (b : Bool) :
    s.rngOnly (t.setFlag x 0 0 b) where
  eq := by
    rw [h.eq]
    rfl
  regs := h.regs.trans (t.onlyRegs_setFlag 0 0 b (by simp [hx]))
  reeve := h.reeve

theorem State.rngOnly_rngNext (s : State) : s.rngOnly s.rngNext := by
  unfold State.rngNext
  dsimp only
  split
  · exact (s.rngOnly_fresh.drbgRequest.wr _).setFlag rfl _
  · exact ((s.rngOnly_fresh.wr _).setFlag rfl _).setFlag rfl _

theorem State.entropyReady_fresh (s : State) : s.fresh.2.entropyReady = s.entropyReady := rfl

/-- Without entropy RVE_RNG_DATA reads no valid output, and says whether entropy is pending. -/
theorem State.flags_rngNext_of_pending (h : s.entropyReady = false) :
    s.rngNext.flag RF.RVE_RNG_DATA_VALID 0 0 = false ∧
      s.rngNext.flag RF.RVE_RNG_DATA_ENTROPY_PENDING 0 0 = decide (s.getF RF.RVE_RNG_STAT_STATE 0 0 = 0) := by
  have hnext : s.rngNext = ((s.fresh.2.wr .RVE_RNG_DATA 0 0 0#64).setFlag RF.RVE_RNG_DATA_ENTROPY_PENDING 0 0
      (decide (s.fresh.2.getF RF.RVE_RNG_STAT_STATE 0 0 = 0))).setFlag RF.RVE_RNG_DATA_FAULT 0 0
      (decide (2 ≤ s.fresh.2.getF RF.RVE_RNG_STAT_STATE 0 0)) := by
    unfold State.rngNext
    dsimp only
    rw [State.entropyReady_fresh, h, Bool.false_and, if_neg (by decide)]
  rw [hnext, State.flag_setFlag_disjoint _ (f := RF.RVE_RNG_DATA_FAULT) (g := RF.RVE_RNG_DATA_VALID) 0 0 _ rfl
      (by decide) (by decide),
    State.flag_setFlag_disjoint _ (f := RF.RVE_RNG_DATA_FAULT) (g := RF.RVE_RNG_DATA_ENTROPY_PENDING) 0 0 _ rfl
      (by decide) (by decide),
    State.flag_setFlag_disjoint _ (f := RF.RVE_RNG_DATA_ENTROPY_PENDING) (g := RF.RVE_RNG_DATA_VALID) 0 0 _ rfl
      (by decide) (by decide),
    State.flag_setFlag_same _ RF.RVE_RNG_DATA_ENTROPY_PENDING 0 0 _ (by decide) rfl]
  refine ⟨?_, rfl⟩
  rw [State.flag, State.getF, State.rd_wr_same]
  rfl

/-! ### Start-up of entropy (R595–R597, R711, R724) -/

/-- The keys of the bound parishes below `n` that had none are derived. -/
def State.keysLoaded (t : State) (n : Nat) : State :=
  (List.range n).foldl (fun (t : State) p =>
    if t.flag RF.RVE_PARp_BIND_BOUND 0 p && !t.flag RF.RVE_PARp_BIND_KEY_LOADED 0 p then t.deriveKey p else t) t

/-- What loading keys does. -/
structure State.keysLoadedOnly (n : Nat) (s t : State) : Prop where
  eq : t = { s with regs := t.regs, reeve := t.reeve }
  regs : s.onlyRegs [.RVE_PARp_BIND] t
  now : s.reeve.seededAt = s.now → t.reeve.seededAt = s.now
  bound : ∀ p < 32, t.flag RF.RVE_PARp_BIND_BOUND 0 p = s.flag RF.RVE_PARp_BIND_BOUND 0 p
  loaded : ∀ p < 32, t.flag RF.RVE_PARp_BIND_KEY_LOADED 0 p =
    (s.flag RF.RVE_PARp_BIND_KEY_LOADED 0 p || (decide (p < n) && s.flag RF.RVE_PARp_BIND_BOUND 0 p))

theorem State.keysLoaded_succ (t : State) (n : Nat) : t.keysLoaded (n + 1) =
    if (t.keysLoaded n).flag RF.RVE_PARp_BIND_BOUND 0 n && !(t.keysLoaded n).flag RF.RVE_PARp_BIND_KEY_LOADED 0 n then
      (t.keysLoaded n).deriveKey n else t.keysLoaded n := by
  rw [State.keysLoaded, List.range_succ, List.foldl_append]
  rfl

theorem State.getF_setF_idx (t : State) (x y : RF) {i n m : Nat} (hn : n < 4096) (hm : m < 4096) (h : m ≠ n)
    (hreg : y.reg = x.reg) (v : Nat) : (t.setF x i n v).getF y i m = t.getF y i m := by
  rw [State.getF, State.setF, hreg, State.rd_wr_other _ (rkey_ne_of_idx hm hn h), State.getF, hreg]

theorem State.flag_setF_idx (t : State) (x y : RF) {i n m : Nat} (hn : n < 4096) (hm : m < 4096) (h : m ≠ n)
    (hreg : y.reg = x.reg) (v : Nat) : (t.setF x i n v).flag y i m = t.flag y i m :=
  congrArg (· == 1) (t.getF_setF_idx x y hn hm h hreg v)

theorem State.keysLoadedOnly_keysLoaded (s : State) {n : Nat} (hn : n ≤ 32) :
    State.keysLoadedOnly n s (s.keysLoaded n) := by
  induction n with
  | zero => exact ⟨rfl, s.onlyRegs_refl _, id, fun _ _ => rfl, fun p _ => by simp [State.keysLoaded]⟩
  | succ n ih =>
    have h := ih (by omega)
    rw [State.keysLoaded_succ]
    generalize s.keysLoaded n = t at h
    have hbn := h.bound n (by omega)
    have hln := h.loaded n (by omega)
    rw [decide_eq_false (Nat.lt_irrefl n), Bool.false_and, Bool.or_false] at hln
    rw [hbn, hln]
    have hsplit : ∀ p, p < 32 → p ≠ n → decide (p < n + 1) = decide (p < n) := by
      intro p _ hp
      exact decide_eq_decide.mpr (by omega)
    split
    next hneed =>
      rw [Bool.and_eq_true, Bool.not_eq_true'] at hneed
      obtain ⟨hb, -⟩ := hneed
      refine ⟨by rw [h.eq]; rfl,
        h.regs.trans (State.onlyRegs_setFlag _ (f := RF.RVE_PARp_BIND_KEY_LOADED) 0 n true (by decide)),
        fun _ => by rw [h.eq]; rfl, fun p hp => ?_, fun p hp => ?_⟩
      · by_cases hpn : p = n
        · rw [hpn, State.deriveKey, State.flag_setFlag_disjoint _ (f := RF.RVE_PARp_BIND_KEY_LOADED)
            (g := RF.RVE_PARp_BIND_BOUND) 0 n true rfl (by decide) (by decide)]
          exact hbn
        · rw [State.deriveKey, State.setFlag, State.flag_setF_idx _ RF.RVE_PARp_BIND_KEY_LOADED
            RF.RVE_PARp_BIND_BOUND (by omega) (by omega) hpn rfl]
          exact h.bound p hp
      · by_cases hpn : p = n
        · rw [hpn, State.deriveKey, State.flag_setFlag_same _ RF.RVE_PARp_BIND_KEY_LOADED 0 n true (by decide) rfl, hb]
          simp
        · rw [State.deriveKey, State.setFlag, State.flag_setF_idx _ RF.RVE_PARp_BIND_KEY_LOADED
            RF.RVE_PARp_BIND_KEY_LOADED (by omega) (by omega) hpn rfl, hsplit p hp hpn]
          exact h.loaded p hp
    next hneed =>
      refine ⟨h.eq, h.regs, h.now, h.bound, fun p hp => ?_⟩
      rw [h.loaded p hp]
      by_cases hpn : p = n
      · subst hpn
        cases hl : s.flag RF.RVE_PARp_BIND_KEY_LOADED 0 p with
        | true => simp
        | false =>
          have hb : s.flag RF.RVE_PARp_BIND_BOUND 0 p = false := by simpa [hl] using hneed
          simp [hb]
      · rw [hsplit p hp hpn]

/-- The state when the start-up test has passed, before keys are loaded. -/
def State.entropySeeded (s : State) : State :=
  let s1 := ((s.setF RF.RVE_RNG_STAT_STATE 0 0 1).drbgSeed).rngNext
  if s.getF RF.RVE_RNG_STAT_STATE 0 0 = 0 then
    (s1.setFlag (bootF 10 1) 0 0 false).setF (bootF 0 16) 0 3 (min 0xFFFE ((s.now - s.reeve.startedAt) / 1000000))
  else s1

theorem execEntropyStartupDone_seeds (hon : s.boot.stage ≠ .off) (hup : s.boot.stage ≠ .hearth)
    (hst : s.getF RF.RVE_RNG_STAT_STATE 0 0 = 0 ∨ s.getF RF.RVE_RNG_STAT_STATE 0 0 = 2) :
    exec .entropyStartupDone s = .next (s.entropySeeded.keysLoaded 32).granRefresh := by
  show execEntropyStartupDone s = _
  unfold execEntropyStartupDone
  dsimp only
  rw [if_neg]
  · rfl
  · rintro (h | h | ⟨h0, h2⟩)
    · exact hon h
    · exact hup h
    · exact hst.elim h0 h2

/-- What the seeding does. -/
structure State.seeded (s t : State) : Prop where
  eq : t = { s with serial := t.serial, regs := t.regs, reeve := t.reeve }
  regs : s.onlyRegs [.RVE_RNG_STAT, .RVE_RNG_DATA, .WFR_BOOT_STATUS] t
  ready : t.getF RF.RVE_RNG_STAT_STATE 0 0 = 1
  at_ : t.reeve.seededAt = s.now
  done : s.getF RF.RVE_RNG_STAT_STATE 0 0 = 0 → t.flag (bootF 10 1) 0 0 = false

theorem State.seeded_entropySeeded (s : State) : s.seeded s.entropySeeded := by
  have hset := s.onlyRegs_setF (f := RF.RVE_RNG_STAT_STATE) (l := [.RVE_RNG_STAT]) 0 0 1 (by decide)
  have hstate : (s.setF RF.RVE_RNG_STAT_STATE 0 0 1).getF RF.RVE_RNG_STAT_STATE 0 0 = 1 :=
    s.getF_setF_fits 0 0 (by decide) (by decide)
  have hseed : ((s.setF RF.RVE_RNG_STAT_STATE 0 0 1).drbgSeed).reeve.seededAt = s.now := rfl
  have heq : (s.setF RF.RVE_RNG_STAT_STATE 0 0 1).drbgSeed = { s with
    regs := (s.setF RF.RVE_RNG_STAT_STATE 0 0 1).drbgSeed.regs
    reeve := (s.setF RF.RVE_RNG_STAT_STATE 0 0 1).drbgSeed.reeve } := rfl
  have hregs : s.onlyRegs [.RVE_RNG_STAT] ((s.setF RF.RVE_RNG_STAT_STATE 0 0 1).drbgSeed) := hset.modReeve _
  have hrdy : ((s.setF RF.RVE_RNG_STAT_STATE 0 0 1).drbgSeed).getF RF.RVE_RNG_STAT_STATE 0 0 = 1 := hstate
  unfold State.entropySeeded
  dsimp only
  generalize (s.setF RF.RVE_RNG_STAT_STATE 0 0 1).drbgSeed = v at hseed heq hregs hrdy
  have hnext := v.rngOnly_rngNext
  generalize v.rngNext = w at hnext
  obtain ⟨k, hk⟩ := hnext.reeve
  have hwregs : s.onlyRegs [.RVE_RNG_STAT, .RVE_RNG_DATA, .WFR_BOOT_STATUS] w :=
    (hregs.mono (by decide)).trans (hnext.regs.mono (by decide))
  have hweq : w = { s with serial := w.serial, regs := w.regs, reeve := w.reeve } := by rw [hnext.eq, heq]
  have hwready : w.getF RF.RVE_RNG_STAT_STATE 0 0 = 1 :=
    (hnext.regs.getF (x := RF.RVE_RNG_STAT_STATE) (by decide) 0 0).trans hrdy
  have hwat : w.reeve.seededAt = s.now := by rw [hk]; exact hseed
  split
  next =>
    refine ⟨by rw [hweq]; rfl, (hwregs.trans (w.onlyRegs_setFlag (f := bootF 10 1) 0 0 false (by decide))).trans
      (State.onlyRegs_setF _ (f := bootF 0 16) 0 3 _ (by decide)), ?_, hwat, fun _ => ?_⟩
    · rw [State.getF_setF_reg _ (f := bootF 0 16) (g := RF.RVE_RNG_STAT_STATE) 0 3 0 0 _ (by decide)]
      exact (State.getF_setF_reg w (f := bootF 10 1) (g := RF.RVE_RNG_STAT_STATE) 0 0 0 0 _ (by decide)).trans hwready
    · rw [State.flag_setF_idx _ (bootF 0 16) (bootF 10 1) (by decide) (by decide) (by decide) rfl]
      exact w.flag_setFlag_same (bootF 10 1) 0 0 false (by decide) rfl
  next h => exact ⟨hweq, hwregs, hwready, hwat, fun e => absurd e h⟩

/-! ### A failed health test (R597) -/

/-- RVE_RNG_STAT after a failed health test. -/
def State.healthFailed (s : State) : State :=
  let s1 := s.addSat RF.RVE_RNG_STAT_FAILURES 0 0 1
  match s.getF RF.RVE_RNG_STAT_STATE 0 0 with
  | 0 => s1
  | 1 => (s1.setF RF.RVE_RNG_STAT_STATE 0 0 2).setF RF.RVE_RNG_STAT_RERUNS 0 0 1
  | 2 => if s1.getF RF.RVE_RNG_STAT_RERUNS 0 0 = 3 then s1.setF RF.RVE_RNG_STAT_STATE 0 0 3
         else s1.setF RF.RVE_RNG_STAT_RERUNS 0 0 (s1.getF RF.RVE_RNG_STAT_RERUNS 0 0 + 1)
  | _ => s1

theorem execEntropyHealthFail_on (hon : s.boot.stage ≠ .off) (hup : s.boot.stage ≠ .hearth) :
    exec .entropyHealthFail s = .next s.healthFailed.rngNext.granRefresh := by
  show execEntropyHealthFail s = _
  unfold execEntropyHealthFail
  dsimp only
  rw [if_neg (not_or.mpr ⟨hon, hup⟩)]
  rfl

/-- What a failed health test does to RVE_RNG_STAT. -/
structure State.healthOnly (s t : State) : Prop where
  eq : t = { s with regs := t.regs }
  regs : s.onlyRegs [.RVE_RNG_STAT] t
  failures : t.getF RF.RVE_RNG_STAT_FAILURES 0 0 =
    min (s.getF RF.RVE_RNG_STAT_FAILURES 0 0 + 1) (2 ^ RF.RVE_RNG_STAT_FAILURES.w - 1)

theorem State.healthOnly.setF (h : s.healthOnly t) {x : RF} (hx : x.reg = .RVE_RNG_STAT) (hlo : x.lo + x.w ≤ 16)
    (v : Nat) : s.healthOnly (t.setF x 0 0 v) where
  eq := by
    rw [h.eq]
    rfl
  regs := h.regs.trans (t.onlyRegs_setF 0 0 v (by simp [hx]))
  failures := (t.getF_setF_disjoint (f := x) (g := RF.RVE_RNG_STAT_FAILURES) 0 0 v hx.symm (by decide)
    (.inr hlo)).trans h.failures

/-- A failed health test, once it is counted. -/
def State.healthCounted (s : State) : State := s.addSat RF.RVE_RNG_STAT_FAILURES 0 0 1

theorem State.healthOnly_healthCounted (s : State) : s.healthOnly s.healthCounted :=
  ⟨rfl, s.onlyRegs_setF (f := RF.RVE_RNG_STAT_FAILURES) 0 0 _ (by decide),
    s.getF_addSat_min RF.RVE_RNG_STAT_FAILURES 0 0 1 (by decide)⟩

theorem State.getF_healthCounted (s : State) {x : RF} (hx : x.reg = .RVE_RNG_STAT) (hlo : x.lo + x.w ≤ 16) :
    s.healthCounted.getF x 0 0 = s.getF x 0 0 :=
  s.getF_setF_disjoint (f := RF.RVE_RNG_STAT_FAILURES) (g := x) 0 0 _ hx (by omega) (.inl hlo)

theorem State.healthOnly_healthFailed (s : State) : s.healthOnly s.healthFailed := by
  have h := s.healthOnly_healthCounted
  unfold State.healthFailed
  dsimp only
  split
  · exact h
  · exact (h.setF (x := RF.RVE_RNG_STAT_STATE) rfl (by decide) 2).setF (x := RF.RVE_RNG_STAT_RERUNS) rfl (by decide) 1
  · split
    · exact h.setF (x := RF.RVE_RNG_STAT_STATE) rfl (by decide) 3
    · exact h.setF (x := RF.RVE_RNG_STAT_RERUNS) rfl (by decide) _
  · exact h

theorem State.healthFailed_startup (h : s.getF RF.RVE_RNG_STAT_STATE 0 0 = 0) :
    s.healthFailed.getF RF.RVE_RNG_STAT_STATE 0 0 = 0 := by
  unfold State.healthFailed
  rw [h]
  exact (s.getF_healthCounted (x := RF.RVE_RNG_STAT_STATE) rfl (by decide)).trans h

theorem State.healthFailed_running (h : s.getF RF.RVE_RNG_STAT_STATE 0 0 = 1) :
    s.healthFailed.getF RF.RVE_RNG_STAT_STATE 0 0 = 2 ∧ s.healthFailed.getF RF.RVE_RNG_STAT_RERUNS 0 0 = 1 := by
  unfold State.healthFailed
  rw [h]
  refine ⟨?_, State.getF_setF_fits _ (x := RF.RVE_RNG_STAT_RERUNS) 0 0 (by decide) (by decide)⟩
  exact (State.getF_setF_disjoint _ (f := RF.RVE_RNG_STAT_RERUNS) (g := RF.RVE_RNG_STAT_STATE) 0 0 1 rfl (by decide)
    (by decide)).trans (State.getF_setF_fits _ 0 0 (by decide) (by decide))

theorem State.healthFailed_rerun (h : s.getF RF.RVE_RNG_STAT_STATE 0 0 = 2)
    (hn : s.getF RF.RVE_RNG_STAT_RERUNS 0 0 < 3) :
    s.healthFailed.getF RF.RVE_RNG_STAT_STATE 0 0 = 2 ∧
      s.healthFailed.getF RF.RVE_RNG_STAT_RERUNS 0 0 = s.getF RF.RVE_RNG_STAT_RERUNS 0 0 + 1 := by
  have hreruns := s.getF_healthCounted (x := RF.RVE_RNG_STAT_RERUNS) rfl (by decide)
  have hfit : s.getF RF.RVE_RNG_STAT_RERUNS 0 0 + 1 < 2 ^ RF.RVE_RNG_STAT_RERUNS.w :=
    Nat.lt_of_lt_of_le (Nat.succ_lt_succ hn) (by decide)
  have hfailed : s.healthFailed = s.healthCounted.setF RF.RVE_RNG_STAT_RERUNS 0 0
      (s.getF RF.RVE_RNG_STAT_RERUNS 0 0 + 1) := by
    rw [← hreruns]
    unfold State.healthFailed
    rw [h]
    exact if_neg (hreruns ▸ hn.ne)
  rw [hfailed]
  refine ⟨?_, State.getF_setF_fits _ 0 0 hfit (by decide)⟩
  exact ((State.getF_setF_disjoint _ (f := RF.RVE_RNG_STAT_RERUNS) (g := RF.RVE_RNG_STAT_STATE) 0 0 _ rfl (by decide)
    (by decide)).trans (s.getF_healthCounted rfl (by decide))).trans h

theorem State.healthFailed_last (h : s.getF RF.RVE_RNG_STAT_STATE 0 0 = 2)
    (hn : s.getF RF.RVE_RNG_STAT_RERUNS 0 0 = 3) : s.healthFailed.getF RF.RVE_RNG_STAT_STATE 0 0 = 3 := by
  have hfailed : s.healthFailed = s.healthCounted.setF RF.RVE_RNG_STAT_STATE 0 0 3 := by
    unfold State.healthFailed
    rw [h]
    exact if_pos ((s.getF_healthCounted (x := RF.RVE_RNG_STAT_RERUNS) rfl (by decide)).trans hn)
  rw [hfailed]
  exact State.getF_setF_fits _ 0 0 (by decide) (by decide)

end

end Sys2Proof.Machine

/-! The field clear of a scrub and the end of an HBM scrub (R408, R590, R591), and O39. -/

namespace Sys2Proof.Machine

section
variable {s t u : State} {f : Nat}

/-! ### Units cleared -/

/-- A state that differs from another in registers of the field's sieves and cairns, and in what sieves, cairns and
tallies hold. -/
structure State.unitsOnly (s t : State) : Prop where
  eq : t = { s with regs := t.regs, sieves := t.sieves, cairns := t.cairns, tallies := t.tallies }
  regs : s.onlyRegs [.SIV_TABLE_STATE, .CRN_CTL] t

theorem State.unitsOnly.trans (h : s.unitsOnly t) (k : t.unitsOnly u) : s.unitsOnly u where
  eq := by rw [k.eq, h.eq]
  regs := h.regs.trans k.regs

theorem State.unitsOnly_refl (s : State) : s.unitsOnly s := ⟨rfl, s.onlyRegs_refl _⟩

theorem State.unitsOnly_clearSieve (s : State) (f n : Nat) : s.unitsOnly (s.clearSieve f n) :=
  ⟨rfl, s.onlyRegs_wr (r := .SIV_TABLE_STATE) (f * 2 + n) 0 0#64 (by decide)⟩

theorem State.unitsOnly_modCairn (s : State) (f : Nat) (g : Cairn → Cairn) : s.unitsOnly (s.modCairn f g) :=
  ⟨rfl, s.onlyRegs_refl _⟩

theorem State.unitsOnly_dropWaiters (s : State) (p : Waiter → Bool) : s.unitsOnly (s.dropWaiters p) :=
  ⟨rfl, s.onlyRegs_refl _⟩

theorem State.unitsOnly_startScan (s : State) (whole : Bool) (which : Nat) : s.unitsOnly (s.startScan whole which) := by
  unfold State.startScan
  generalize List.range 80 = fields
  induction fields generalizing s with
  | nil => exact s.unitsOnly_refl
  | cons g fields ih =>
    rw [List.foldl_cons]
    refine State.unitsOnly.trans ?_ (ih _)
    split
    · exact ⟨rfl, s.onlyRegs_setFlag (f := RF.CRN_CTL_SCAN_BUSY) g 0 true (by decide)⟩
    · exact s.unitsOnly_refl

/-- A disabled cairn, or one whose sequences are all closed and whose pool has no slots, has only a damage scan to
start. -/
theorem State.unitsOnly_cairnClear (hopen : s.openRecs f = []) (hslots : s.getF RF.CRN_POOL_SLOTS_SLOTS f 0 = 0) :
    s.unitsOnly (s.cairnClear f) := by
  unfold State.cairnClear
  dsimp only
  rw [hopen, List.foldl_nil, hslots, List.range_zero, List.filter_nil, List.foldl_nil]
  exact (s.unitsOnly_modCairn f _).trans (State.unitsOnly_startScan _ false _)

theorem State.unitsOnly.openRecs (h : s.unitsOnly t) (hctl : t.flag RF.CRN_CTL_ENABLE f 0 = s.flag RF.CRN_CTL_ENABLE f 0) :
    t.openRecs f = s.openRecs f := by
  have hmem : t.mem = s.mem := by rw [h.eq]
  have hoff (o : Nat) : t.ptOff f o = s.ptOff f o := by
    unfold State.ptOff
    rw [h.regs.getF (by decide)]
  have hrec (r : Nat) : t.seqRec f r = s.seqRec f r := by
    unfold State.seqRec State.ptRead State.memRead
    rw [hoff, hmem]
  unfold State.openRecs
  simp only [hctl, hrec]

/-- What a field clear ends in sieves, cairn and tallies of a field where nothing waits. -/
theorem State.unitsOnly_cleared (hopen : s.openRecs f = []) (hslots : s.getF RF.CRN_POOL_SLOTS_SLOTS f 0 = 0)
    (p : Waiter → Bool) :
    s.unitsOnly (((((s.dropWaiters p).clearSieve f 0).clearSieve f 1).modCairn f (fun _ => idleCairn)).cairnClear f) := by
  have hsieves := ((s.unitsOnly_dropWaiters p).trans (State.unitsOnly_clearSieve _ f 0)).trans
    (State.unitsOnly_clearSieve _ f 1)
  have hctl : (((s.dropWaiters p).clearSieve f 0).clearSieve f 1).flag RF.CRN_CTL_ENABLE f 0 =
      s.flag RF.CRN_CTL_ENABLE f 0 :=
    (((s.dropWaiters p).clearSieve f 0).onlyRegs_wr (l := [.SIV_TABLE_STATE]) (r := .SIV_TABLE_STATE) (f * 2 + 1) 0
      0#64 (by decide)).flag (x := RF.CRN_CTL_ENABLE) (by decide) f 0 |>.trans
        (((s.dropWaiters p).onlyRegs_wr (l := [.SIV_TABLE_STATE]) (r := .SIV_TABLE_STATE) (f * 2 + 0) 0 0#64
          (by decide)).flag (x := RF.CRN_CTL_ENABLE) (by decide) f 0)
  generalize ((s.dropWaiters p).clearSieve f 0).clearSieve f 1 = v at hsieves hctl
  have hcairn : s.unitsOnly (v.modCairn f fun _ => idleCairn) := hsieves.trans (v.unitsOnly_modCairn f _)
  have hopenV : (v.modCairn f fun _ => idleCairn).openRecs f = [] :=
    (hcairn.openRecs (by rw [State.modCairn_flag]; exact hctl)).trans hopen
  have hslotsV : (v.modCairn f fun _ => idleCairn).getF RF.CRN_POOL_SLOTS_SLOTS f 0 = 0 :=
    (hcairn.regs.getF (x := RF.CRN_POOL_SLOTS_SLOTS) (by decide) f 0).trans hslots
  exact hcairn.trans (State.unitsOnly_cairnClear hopenV hslotsV)

/-! ### A field wiped -/

/-- What is left of a state when storage of a field but HBM is zero (R591). -/
def State.storeWiped (s : State) (f : Nat) : State :=
  { s with
    mem := s.mem.zeroRange (cellKey f 1 0) (2 ^ 42)
    engines := s.engines.map (fun (e : Nat × Engine) => if e.1 / 32 = f then
      (e.1, { e.2 with queue := [], running := [], suspects := [], nextTag := 0, replaying := false }) else e)
    looms := s.looms.forget f (f + 1)
    tallies := { s.tallies with
      words := s.tallies.words.forget (f * 4096) (f * 4096 + 4096)
      heldAdds := s.tallies.heldAdds.filter (fun x => !decide (x.1 / 4096 = f))
      dup := s.tallies.dup.forget (f * 80) (f * 80 + 80)
      peaks := s.tallies.peaks.forget f (f + 1) }
    crofters := { s.crofters with
      threads := s.crofters.threads.filter (fun e => e.1 / 128 != f || decide (e.2.st = ThreadSt.fenced))
      launches := s.crofters.launches.filter (fun l => l.field != f)
      issues := s.crofters.issues.filter (fun i => i.field != f)
      bells := s.crofters.bells.forget f (f + 1) } }

/-- Registers a field clear may change. -/
def wipeRegs : List Reg := [.SIV_TABLE_STATE, .CRN_CTL, .CRF_FAULT_HEAD, .CRF_FAULTk, .SCR_TAG]

/-- What a field clear leaves of a state. -/
structure State.wiped (f : Nat) (s t : State) : Prop where
  regs : s.onlyRegs wipeRegs t
  mem : t.mem = s.mem.zeroRange (cellKey f 1 0) (2 ^ 42)
  reeve : t.reeve = s.reeve
  thread : ∀ n < 128, (t.thread f n).st = .free ∨ (t.thread f n).st = .fenced

theorem mapGet_filter_or {K V : Type} [DecidableEq K] (d : K → V) (k : K) (p : K × V → Bool) (m : List (K × V)) :
    mapGet d k (m.filter p) = d k ∨ p (k, mapGet d k (m.filter p)) = true := by
  induction m with
  | nil => exact .inl rfl
  | cons e r ih =>
    obtain ⟨j, v⟩ := e
    cases hp : p (j, v) with
    | false => rwa [List.filter_cons_of_neg (by simpa using hp)]
    | true =>
      rw [List.filter_cons_of_pos hp]
      by_cases hj : j = k
      · subst hj
        exact .inr (by simpa [mapGet] using hp)
      · simpa [mapGet, hj] using ih

theorem State.thread_storeWiped (s : State) (f : Nat) {n : Nat} (hn : n < 128) :
    ((s.storeWiped f).thread f n).st = .free ∨ ((s.storeWiped f).thread f n).st = .fenced := by
  have hkey : threadKey f n / 128 = f := by
    unfold threadKey
    omega
  rcases mapGet_filter_or (fun _ => freeThread) (threadKey f n)
    (fun e => e.1 / 128 != f || decide (e.2.st = ThreadSt.fenced)) s.crofters.threads with h | h
  · exact .inl (congrArg Thread.st h)
  · right
    dsimp only at h
    rw [hkey, bne_self_eq_false, Bool.false_or] at h
    exact of_decide_eq_true h

theorem State.onlyRegs_resetRegs {l : List Reg} (t : State) {p : RKey → Bool} (h : ∀ k, p k = true → k.reg ∈ l) :
    t.onlyRegs l (t.resetRegs p) := by
  intro r i n hr
  rw [State.rd_resetRegs, if_neg]
  exact fun hp => hr (h _ hp)

theorem State.wiped_fieldWipe (hwait : s.entries = []) (hfill : s.commons.fills = []) (hopen : s.openRecs f = [])
    (hslots : s.getF RF.CRN_POOL_SLOTS_SLOTS f 0 = 0) : State.wiped f s (s.fieldWipe f) := by
  have hunits := State.unitsOnly_cleared hopen hslots (fun w => decide (w.tally / 4096 = f))
  have hend : ((s.dropWaiters fun w => decide (w.tally / 4096 = f)).endFills f
      (s.dropWaiters fun w => decide (w.tally / 4096 = f)).commons.fills.length) =
      s.dropWaiters fun w => decide (w.tally / 4096 = f) := by
    rw [show (s.dropWaiters fun w => decide (w.tally / 4096 = f)).commons.fills = [] from hfill]
    rfl
  unfold State.fieldWipe
  dsimp only
  rw [hwait, List.filter_nil, List.foldl_nil, hend]
  generalize ((((s.dropWaiters _).clearSieve f 0).clearSieve f 1).modCairn f _).cairnClear f = v at hunits ⊢
  have hmem : v.mem = s.mem := by rw [hunits.eq]
  have hreeve : v.reeve = s.reeve := by rw [hunits.eq]
  refine ⟨?_, ?_, ?_, fun n hn => v.thread_storeWiped f hn⟩
  · refine (hunits.regs.mono (by decide)).trans (State.onlyRegs_resetRegs (v.storeWiped f) fun k hk => ?_)
    simp only [Bool.and_eq_true, Bool.or_eq_true, decide_eq_true_eq] at hk
    rcases hk.2 with (h | h) | h <;> rw [h] <;> decide
  · exact congrArg (fun m : Memory => m.zeroRange (cellKey f 1 0) (2 ^ 42)) hmem
  · exact hreeve

/-! ### SRAM under a scrub of HBM -/

/-- A byte of SRAM that is zeroed reads zero, also while granules of the field's HBM are scrubbed. -/
theorem Memory.read_scrub_zeroRange (m : Memory) (f g n : Nat) (zeros : Bool) {o : Nat} (ho : o < 2 ^ 42) :
    ((m.zeroRange (cellKey f 1 0) (2 ^ 42)).scrub f g n zeros).read f 1 o = 0#8 := by
  have hin : cellKey f 1 0 ≤ cellKey f 1 o ∧ cellKey f 1 o < cellKey f 1 0 + 2 ^ 42 := by
    unfold cellKey
    omega
  have hcell : NMap.look (m.zeroRange (cellKey f 1 0) (2 ^ 42)).cells 0#8 (cellKey f 1 o) = 0#8 := by
    rw [Memory.zeroRange, NMap.look_forget, if_pos hin]
  have hundef : (m.zeroRange (cellKey f 1 0) (2 ^ 42)).undef.look 0 (cellKey f 1 o) = 0 := by
    rw [Memory.zeroRange, NMap.look_forget, if_pos hin]
  generalize m.zeroRange (cellKey f 1 0) (2 ^ 42) = w at hcell hundef
  have hafter : (w.scrub f g n zeros).undef.look 0 (cellKey f 1 o) = 0 ∧
      NMap.look (w.scrub f g n zeros).cells 0#8 (cellKey f 1 o) = 0#8 := by
    cases zeros with
    | false => exact ⟨hundef, hcell⟩
    | true =>
      have hforget {V : Type} (a : NMap V) (d : V) (lo hi : Nat) (h : a.look d (cellKey f 1 o) = d) :
          (a.forget lo hi).look d (cellKey f 1 o) = d := by
        rw [NMap.look_forget, h, ite_self]
      exact ⟨hforget w.undef 0 _ _ hundef, hforget w.cells 0#8 _ _ hcell⟩
  unfold Memory.read Memory.fresh Memory.byte
  rw [hafter.1, hafter.2]
  rfl

/-! ### The scrub of HBM starts -/

/-- What GO of a scrub does where the stack can be scrubbed (R408). -/
structure State.scrubStarted (f : Nat) (zeros : Bool) (s t : State) : Prop where
  regs : s.onlyRegs [.HBM_SCRUB_CTL] t
  busy : t.flag RF.HBM_SCRUB_CTL_BUSY f 0 = true
  mem : ∃ g n, t.mem = s.mem.scrub f g n zeros
  reeve : t.reeve = s.reeve
  crofters : t.crofters = s.crofters

theorem State.scrubStarted_scrubGo (zeros : Bool) (hidle : s.flag RF.HBM_SCRUB_CTL_BUSY f 0 = false)
    (hlive : s.hbmState f ≠ hbmLost)
    (hrange : s.getF RF.HBM_SCRUB_START_START f 0 + s.getF RF.HBM_SCRUB_COUNT_GRANULES f 0 ≤ 524288) :
    State.scrubStarted f zeros s (s.scrubGo f zeros) := by
  have hmode := s.onlyRegs_setF (f := RF.HBM_SCRUB_CTL_MODE) (l := [.HBM_SCRUB_CTL]) f 0 (b2n zeros) (by decide)
  have hlive' : (s.setF RF.HBM_SCRUB_CTL_MODE f 0 (b2n zeros)).hbmState f ≠ hbmLost := by
    rw [State.hbmState, hmode.getF (x := RF.HBM_ID_STATE) (by decide)]
    exact hlive
  unfold State.scrubGo
  dsimp only
  rw [hidle, if_neg (by decide), if_neg (not_or.mpr ⟨hlive', by omega⟩)]
  exact ⟨hmode.trans (State.onlyRegs_setFlag _ (f := RF.HBM_SCRUB_CTL_BUSY) f 0 true (by decide)),
    State.flag_setFlag_same _ RF.HBM_SCRUB_CTL_BUSY f 0 true (by decide) rfl, ⟨_, _, rfl⟩, rfl, rfl⟩

/-! ### The field clear ends -/

/-- The HBM scrub of a range is set up (R590 step 4). -/
def State.rangeSet (s : State) (x : Scrub) (y : ScrubField) (g n : Nat) : State :=
  ((s.setF RF.HBM_SCRUB_START_START y.field 0 g).setF RF.HBM_SCRUB_COUNT_GRANULES y.field 0 n).setScrubField x.parish
    { y with phase := .scrubbing, gen := s.getF RF.HBM_SCRUB_CTL_DONE_GEN y.field 0 }

theorem State.scrubRange_of_left {x : Scrub} {y : ScrubField} {g n : Nat} {rest : List (Nat × Nat)}
    (h : y.left = (g, n) :: rest) :
    s.scrubRange x y = (s.rangeSet x y g n).scrubGo y.field (x.physical || y.second) := by
  unfold State.scrubRange
  split
  next hnil => rw [hnil] at h; cases h
  next hcons =>
    rw [h] at hcons
    cases hcons
    rfl

theorem State.scrubOf_rangeSet {x : Scrub} {y : ScrubField} (g n : Nat) (hscrubs : s.reeve.scrubs = [x])
    (hfields : x.fields = [y]) :
    ((s.rangeSet x y g n).scrubOf y.field).map (fun z => z.2.phase) = some .scrubbing := by
  have hset : (s.rangeSet x y g n).reeve.scrubs = s.reeve.scrubs.map (fun (z : Scrub) =>
      if z.parish = x.parish then
        { z with fields := z.fields.map (fun w => if w.field = y.field then { y with
            phase := .scrubbing, gen := s.getF RF.HBM_SCRUB_CTL_DONE_GEN y.field 0 } else w) }
      else z) := rfl
  simp [State.scrubOf, hset, hscrubs, hfields]

/-- The scrub of HBM works on the range of a field. -/
structure State.rangeStarted (y : ScrubField) (g n : Nat) (s t : State) : Prop where
  start : t.getF RF.HBM_SCRUB_START_START y.field 0 = g
  count : t.getF RF.HBM_SCRUB_COUNT_GRANULES y.field 0 = n
  busy : t.flag RF.HBM_SCRUB_CTL_BUSY y.field 0 = true
  phase : (t.scrubOf y.field).map (fun z => z.2.phase) = some .scrubbing
  mem : ∃ k m zeros, t.mem = s.mem.scrub y.field k m zeros
  crofters : t.crofters = s.crofters

theorem State.rangeStarted_scrubRange {x : Scrub} {y : ScrubField} {g n : Nat} {rest : List (Nat × Nat)}
    (hscrubs : s.reeve.scrubs = [x]) (hfields : x.fields = [y]) (hleft : y.left = (g, n) :: rest)
    (hg : g < 2 ^ RF.HBM_SCRUB_START_START.w) (hn : n < 2 ^ RF.HBM_SCRUB_COUNT_GRANULES.w) (hrange : g + n ≤ 524288)
    (hidle : s.flag RF.HBM_SCRUB_CTL_BUSY y.field 0 = false) (hlive : s.hbmState y.field ≠ hbmLost) :
    State.rangeStarted y g n s (s.scrubRange x y) := by
  have hset : s.onlyRegs [.HBM_SCRUB_START, .HBM_SCRUB_COUNT] (s.rangeSet x y g n) :=
    ((s.onlyRegs_setF (f := RF.HBM_SCRUB_START_START) y.field 0 g (by decide)).trans
      (State.onlyRegs_setF _ (f := RF.HBM_SCRUB_COUNT_GRANULES) y.field 0 n (by decide))).modReeve _
  have hstart : (s.rangeSet x y g n).getF RF.HBM_SCRUB_START_START y.field 0 = g := by
    rw [State.rangeSet, State.setScrubField, State.modReeve_getF,
      State.getF_setF_reg _ (f := RF.HBM_SCRUB_COUNT_GRANULES) (g := RF.HBM_SCRUB_START_START) y.field 0 y.field 0 n
        (by decide), s.getF_setF_fits y.field 0 hg (by decide)]
  have hcount : (s.rangeSet x y g n).getF RF.HBM_SCRUB_COUNT_GRANULES y.field 0 = n := by
    rw [State.rangeSet, State.setScrubField, State.modReeve_getF, State.getF_setF_fits _ y.field 0 hn (by decide)]
  have hof := s.scrubOf_rangeSet g n hscrubs hfields
  have hmem : (s.rangeSet x y g n).mem = s.mem := rfl
  have hcrofters : (s.rangeSet x y g n).crofters = s.crofters := rfl
  rw [State.scrubRange_of_left hleft]
  generalize s.rangeSet x y g n = v at hset hstart hcount hof hmem hcrofters ⊢
  have hgo := State.scrubStarted_scrubGo (s := v) (f := y.field) (x.physical || y.second)
    ((hset.flag (x := RF.HBM_SCRUB_CTL_BUSY) (by decide) y.field 0).trans hidle)
    (fun e => hlive ((hset.getF (x := RF.HBM_ID_STATE) (by decide) y.field 0).symm.trans e))
    (by rw [hstart, hcount]; exact hrange)
  obtain ⟨k, m, hscrub⟩ := hgo.mem
  refine ⟨?_, ?_, hgo.busy, ?_, ⟨k, m, _, by rw [hscrub, hmem]⟩, by rw [hgo.crofters, hcrofters]⟩
  · rw [hgo.regs.getF (by decide), hstart]
  · rw [hgo.regs.getF (by decide), hcount]
  · unfold State.scrubOf at hof ⊢
    rw [hgo.reeve]
    exact hof

/-- A scrub whose one field is in service and not done has nothing to settle. -/
theorem State.settleScrubs_of_clearing (dev : DeviceAccess) {x : Scrub} {y : ScrubField}
    (hscrubs : s.reeve.scrubs = [x]) (hfields : x.fields = [y]) (hin : s.inService y.field = true)
    (hphase : y.phase = .clearing) : s.settleScrubs dev = s := by
  have hkeep : x.fields.filter (fun y => s.inService y.field) = x.fields := by simp [hfields, hin]
  have hsame : s.modReeve (fun r => { r with scrubs := r.scrubs.map (fun (x : Scrub) => { x with
      fields := x.fields.filter (fun y => s.inService y.field) }) }) = s := by
    rw [State.modReeve, hscrubs, List.map_singleton, hkeep, ← hscrubs]
  have hgone : (s.reeve.scrubs.flatMap (fun x => x.fields)).filter (fun y => !s.inService y.field) = [] := by
    simp [hscrubs, hfields, hin]
  unfold State.settleScrubs
  dsimp only
  rw [hgone, hsame]
  simp [State.showScrubs, hscrubs, hfields, hphase]

theorem State.fieldClearDone_of_clearing (dev : DeviceAccess) {x : Scrub} {y : ScrubField}
    (hscrubs : s.reeve.scrubs = [x]) (hfields : x.fields = [y]) (hin : s.inService y.field = true)
    (hphase : y.phase = .clearing) (hclear : y.clear = true) (hfrozen : s.frozen = false)
    (hready : s.boot.stage = .ready) (hreset : s.inReset y.field = false) (htags : s.host.tags = []) :
    s.fieldClearDone dev y.field true = (s.fieldWipe y.field).scrubRange x y := by
  have hof : s.scrubOf y.field = some (x, y) := by simp [State.scrubOf, hscrubs, hfields]
  unfold State.fieldClearDone
  rw [State.settleScrubs_of_clearing dev hscrubs hfields hin hphase]
  dsimp only
  rw [hof]
  dsimp only
  rw [hphase, hfrozen, hready, hreset, htags, hclear]
  rfl

/-! ### An HBM scrub ends -/

/-- The last granules of a scrub are done (R408). -/
def State.scrubbed (s : State) (f : Nat) : State :=
  { s with
    mem := s.mem.scrub f (s.getF RF.HBM_SCRUB_START_START f 0 + s.hbm.scrubNext.look 0 f)
      (s.getF RF.HBM_SCRUB_COUNT_GRANULES f 0 - s.hbm.scrubNext.look 0 f)
      (decide (s.getF RF.HBM_SCRUB_CTL_MODE f 0 = 1))
    hbm := { s.hbm with scrubNext := s.hbm.scrubNext.put 0 f 0 } }

theorem State.scrubEnd_of_busy (hbusy : s.flag RF.HBM_SCRUB_CTL_BUSY f 0 = true) (hfrozen : s.frozen = false)
    (hall : s.scrubbable f (s.getF RF.HBM_SCRUB_START_START f 0 + s.hbm.scrubNext.look 0 f)
      (s.getF RF.HBM_SCRUB_COUNT_GRANULES f 0 - s.hbm.scrubNext.look 0 f) =
      s.getF RF.HBM_SCRUB_COUNT_GRANULES f 0 - s.hbm.scrubNext.look 0 f) :
    s.scrubEnd f = ((s.scrubbed f).setFlag RF.HBM_SCRUB_CTL_BUSY f 0 false).addWrap RF.HBM_SCRUB_CTL_DONE_GEN f 0 1 := by
  unfold State.scrubEnd
  dsimp only
  rw [hbusy, hfrozen, hall, if_neg (by simp)]
  rfl

theorem State.scrubDone_of_none (dev : DeviceAccess) (verified : Bool) (h : (s.scrubEnd f).reeve.scrubs = []) :
    s.scrubDone dev f verified = s.scrubEnd f := by
  have hof : (s.scrubEnd f).scrubOf f = none := by simp [State.scrubOf, h]
  unfold State.scrubDone
  rw [State.settleScrubs_of_none dev _ h]
  dsimp only
  rw [hof]

theorem State.fields_scrubEnded (t : State) (f : Nat) :
    ((t.setFlag RF.HBM_SCRUB_CTL_BUSY f 0 false).addWrap RF.HBM_SCRUB_CTL_DONE_GEN f 0 1).flag
        RF.HBM_SCRUB_CTL_BUSY f 0 = false ∧
      ((t.setFlag RF.HBM_SCRUB_CTL_BUSY f 0 false).addWrap RF.HBM_SCRUB_CTL_DONE_GEN f 0 1).getF
        RF.HBM_SCRUB_CTL_DONE_GEN f 0 =
          wrapAdd RF.HBM_SCRUB_CTL_DONE_GEN.w (t.getF RF.HBM_SCRUB_CTL_DONE_GEN f 0) 1 := by
  have hgen : (t.setFlag RF.HBM_SCRUB_CTL_BUSY f 0 false).getF RF.HBM_SCRUB_CTL_DONE_GEN f 0 =
      t.getF RF.HBM_SCRUB_CTL_DONE_GEN f 0 :=
    t.getF_setF_disjoint (f := RF.HBM_SCRUB_CTL_BUSY) (g := RF.HBM_SCRUB_CTL_DONE_GEN) f 0 _ rfl (by decide) (by decide)
  have hbusy : (t.setFlag RF.HBM_SCRUB_CTL_BUSY f 0 false).flag RF.HBM_SCRUB_CTL_BUSY f 0 = false :=
    t.flag_setFlag_same RF.HBM_SCRUB_CTL_BUSY f 0 false (by decide) rfl
  refine ⟨?_, ?_⟩
  · exact (congrArg (· == 1) (State.getF_setF_disjoint _ (f := RF.HBM_SCRUB_CTL_DONE_GEN) (g := RF.HBM_SCRUB_CTL_BUSY) f
      0 _ rfl (by decide) (by decide))).trans hbusy
  · rw [State.getF_addWrap_same _ RF.HBM_SCRUB_CTL_DONE_GEN f 0 1 (by decide), hgen]

end

/-- Settles O39: the answer to each SPDM request, the registers of entropy, and the clear of a field from its equation.
The response codes and algorithm bits of SPDM are log 151 (PRESUMED from DMTF), free response data and the moments of
DRBG requests log 152 and 153 (DESIGN CHOICE), and what survives a watchdog restart is log 155 (DEDUCED). -/
theorem attestationEntropyAndClear : Obligations.AttestationEntropyAndClear := by
  unfold Obligations.AttestationEntropyAndClear
  refine ⟨?version, ?capabilities, ?algorithms, ?digests, ?certificate, ?challenge, ?measurements, ?startup, ?health,
    ?reseed, ?read, ?expire, ?watchdog, ?clear, ?scrubDone⟩
  case version =>
    intro src s h
    have hdone := State.spdm_of_takes h 0x04 (fun _ => [0x12])
    exact ⟨_, rfl, hdone.answered, hdone.only.freshFrame, hdone.only.regs⟩
  case capabilities =>
    intro src s h
    have hdone := State.spdm_of_takes h 0x61 (fun _ => [0x16])
    exact ⟨_, rfl, hdone.answered, hdone.only.freshFrame, hdone.only.regs⟩
  case algorithms =>
    intro src asym hash s h
    have hdone := State.spdm_of_takes h 0x63 (fun _ => [asym.toNat &&& 0x80, hash.toNat &&& 0x02])
    exact ⟨_, rfl, hdone.answered, hdone.only.freshFrame, hdone.only.regs⟩
  case digests =>
    intro src s h
    have hdone := State.spdm_of_takes h 0x01 (fun t => [t.certSlots])
    rw [State.mbxTaken_certSlots] at hdone
    exact ⟨_, rfl, hdone.answered, hdone.only.freshFrame, hdone.only.regs⟩
  case certificate =>
    intro src slot offset length s h
    obtain ⟨t, ht, hchain, hnone, honly⟩ := State.spdmSlot_of_takes h slot 0x02 [slot.val, offset.toNat, length.toNat]
    exact ⟨t, congrArg Host.Outcome.next ht, ⟨hchain, hnone⟩, honly.freshFrame, honly.regs⟩
  case challenge =>
    intro src slot nonce s h
    obtain ⟨t, ht, hchain, hnone, honly⟩ := State.spdmSlot_of_takes h slot 0x03 [slot.val, nonce.toNat]
    exact ⟨t, congrArg Host.Outcome.next ht, ⟨hchain, hnone⟩, honly.freshFrame, honly.regs⟩
  case measurements =>
    intro src index nonce s h
    have hdone := State.spdm_of_takes h 0x60 (fun t => nonce.toNat :: t.measurement7 :: t.measured index.toNat)
    rw [State.mbxTaken_measurement7, State.mbxTaken_measured] at hdone
    exact ⟨_, rfl, hdone.answered, hdone.only.freshFrame, hdone.only.regs⟩
  case startup =>
    rintro st s ⟨hon, hup, rfl, hst⟩
    have hseed := s.seeded_entropySeeded
    have hexec := execEntropyStartupDone_seeds hon hup hst
    generalize s.entropySeeded = t at hseed hexec
    have hkeys := t.keysLoadedOnly_keysLoaded (Nat.le_refl 32)
    generalize t.keysLoaded 32 = u at hkeys hexec
    obtain ⟨b, hb⟩ := u.granRefresh_eq
    have hgran := u.onlyRegs_setFlag (f := RF.HBM_GRAN_CTL_READY) (l := [.HBM_GRAN_CTL]) 0 0 b (by decide)
    have hnow : t.now = s.now := by rw [hseed.eq]
    rw [hb] at hexec
    refine ⟨_, hexec, ⟨?_, ?_, fun h0 => ?_, fun p hp hbound => ?_, fun p hp hbound => ?_⟩, ?_⟩
    · exact decide_eq_true (((hgran.getF (x := RF.RVE_RNG_STAT_STATE) (by decide) 0 0).trans
        (hkeys.regs.getF (by decide) 0 0)).trans hseed.ready)
    · exact (hkeys.now (hseed.at_.trans hnow.symm)).trans hnow
    · exact ((hgran.flag (x := bootF 10 1) (by decide) 0 0).trans (hkeys.regs.flag (by decide) 0 0)).trans
        (hseed.done h0)
    · rw [hgran.flag (by decide), hkeys.loaded p hp, decide_eq_true hp,
        hseed.regs.flag (x := RF.RVE_PARp_BIND_BOUND) (by decide), hbound]
      simp
    · rw [hgran.flag (by decide), hkeys.loaded p hp, hseed.regs.flag (x := RF.RVE_PARp_BIND_BOUND) (by decide), hbound,
        hseed.regs.flag (x := RF.RVE_PARp_BIND_KEY_LOADED) (by decide)]
      simp
    · rw [hkeys.eq, hseed.eq]
      rfl
  case health =>
    rintro st n s ⟨hon, hup, rfl, rfl⟩
    have hexec := execEntropyHealthFail_on hon hup
    have hfail := s.healthOnly_healthFailed
    have hnext := s.healthFailed.rngOnly_rngNext
    obtain ⟨b, hb⟩ := s.healthFailed.rngNext.granRefresh_eq
    rw [hb] at hexec
    have hgran := s.healthFailed.rngNext.onlyRegs_setFlag (f := RF.HBM_GRAN_CTL_READY) (l := [.HBM_GRAN_CTL]) 0 0 b
      (by decide)
    have hafter : s.healthFailed.onlyRegs [.HBM_GRAN_CTL, .RVE_RNG_DATA]
        (s.healthFailed.rngNext.setFlag RF.HBM_GRAN_CTL_READY 0 0 b) :=
      (hnext.regs.mono (by decide)).trans (hgran.mono (by decide))
    have hstat (x : RF) (hx : x.reg = .RVE_RNG_STAT) :
        (s.healthFailed.rngNext.setFlag RF.HBM_GRAN_CTL_READY 0 0 b).getF x 0 0 = s.healthFailed.getF x 0 0 :=
      hafter.getF (by rw [hx]; decide) 0 0
    refine ⟨_, hexec, ⟨?_, fun h0 => ?_, fun h1 => ?_, fun h2 hn => ?_, fun h2 hn => ?_⟩, ?_,
      (hfail.regs.mono (by decide)).trans (hafter.mono (by decide))⟩
    · rw [hstat _ rfl, hfail.failures]
    · rw [hstat _ rfl, State.healthFailed_startup h0]
    · rw [hstat _ rfl, hstat _ rfl]
      exact State.healthFailed_running h1
    · rw [hstat _ rfl, hstat _ rfl]
      exact State.healthFailed_rerun h2 hn
    · rw [hstat _ rfl, State.healthFailed_last h2 hn]
    · have heq := hnext.eq
      have hfailEq := hfail.eq
      generalize s.healthFailed.rngNext = w at heq
      rw [heq, hfailEq]
      rfl
  case reseed =>
    rintro s ⟨hready, hdue⟩
    refine ⟨s.drbgSeed, ?_, ⟨rfl, rfl⟩, rfl⟩
    show execDrbgReseed s = _
    unfold execDrbgReseed
    rw [hready, if_pos (by simpa using hdue)]
  case read =>
    intro s
    have hnext := s.rngOnly_rngNext
    have hout : s.rngNext.out = s.out := by rw [hnext.eq]
    refine ⟨s.rngNext.send (.regRead (s.rd .RVE_RNG_DATA 0 0)), rfl, ⟨?_, fun h => ?_⟩, ?_, hnext.regs⟩
    · exact congrArg (fun m : List OutMsg => m ++ [.regRead (s.rd .RVE_RNG_DATA 0 0)]) hout
    · exact State.flags_rngNext_of_pending h
    · have heq := hnext.eq
      generalize s.rngNext = t at heq
      rw [heq]
      rfl
  case expire =>
    intro s
    exact ⟨_, rfl, rfl, rfl⟩
  case watchdog =>
    rintro s ⟨hon, hup⟩
    refine ⟨_, if_neg (not_or.mpr ⟨hon, hup⟩), ⟨rfl, List.length_map .., fun x hx y hy => ?_⟩, rfl⟩
    obtain ⟨x0, -, rfl⟩ := List.mem_map.mp hx
    obtain ⟨y0, -, rfl⟩ := List.mem_map.mp hy
    exact ⟨rfl, rfl, rfl⟩
  case clear =>
    rintro f zeroOk x y g n rest s ⟨hscrubs, hfields, hf, hphase, hclear, hin, hfrozen, hready, hreset, htags, rfl, hleft,
      hwait, hfill, hopen, hslots, hidle, hlive, hrange, hg, hn⟩
    rw [← hf] at hin hreset hopen hslots hidle hlive ⊢
    have hwipe := State.wiped_fieldWipe hwait hfill hopen hslots
    have hexec : exec (.fieldClearDone f true) s = .next ((s.fieldWipe y.field).scrubRange x y) := by
      show Host.Outcome.next (s.fieldClearDone device f.val true) = _
      rw [← hf, State.fieldClearDone_of_clearing device hscrubs hfields hin hphase hclear hfrozen hready hreset htags]
    generalize s.fieldWipe y.field = w at hwipe hexec
    have hgo := State.rangeStarted_scrubRange (hwipe.reeve ▸ hscrubs) hfields hleft hg hn hrange
      ((hwipe.regs.flag (x := RF.HBM_SCRUB_CTL_BUSY) (by decide) y.field 0).trans hidle)
      (fun e => hlive ((hwipe.regs.getF (x := RF.HBM_ID_STATE) (by decide) y.field 0).symm.trans e))
    obtain ⟨k, m, zeros, hmem⟩ := hgo.mem
    refine ⟨_, hexec, hgo.start, hgo.count, hgo.busy, hgo.phase, fun o ho => ?_, fun t ht => ?_⟩
    · unfold State.memRead
      rw [hmem, hwipe.mem, Memory.readN, Memory.readN, Memory.read_scrub_zeroRange _ _ _ _ _ ho]
    · unfold State.thread
      rw [hgo.crofters]
      exact hwipe.thread t ht
  case scrubDone =>
    rintro f verified s ⟨hbusy, hfrozen, hscrubs, hall⟩
    have hend := State.scrubEnd_of_busy hbusy hfrozen hall
    have hnone : (s.scrubEnd f.val).reeve.scrubs = [] := by
      rw [hend]
      exact hscrubs
    obtain ⟨hclear, hgen⟩ := (s.scrubbed f.val).fields_scrubEnded f.val
    refine ⟨s.scrubEnd f.val, congrArg Host.Outcome.next (State.scrubDone_of_none device verified hnone), ?_⟩
    rw [hend]
    exact ⟨hclear, NMap.look_put_same s.hbm.scrubNext 0 f.val 0, hgen, rfl, rfl⟩

end Sys2Proof.Machine

/-! The interconnect self-test (R661–R679): GO, ABORT, set-up and the order of the tests. -/

namespace Sys2Proof.Machine

section
variable {s t u : State}

/-! ### GO and ABORT (R663, R679) -/

/-- The control word of a GO reads its operands. -/
theorem nbits_goWord (suite : BitVec 4) (a b c : Bool) :
    nbits (suite.toNat + 16 + b2n a * 64 + b2n b * 128 + b2n c * 256) 0 4 = suite.toNat ∧
      nbits (suite.toNat + 16 + b2n a * 64 + b2n b * 128 + b2n c * 256) 4 1 = 1 ∧
      nbits (suite.toNat + 16 + b2n a * 64 + b2n b * 128 + b2n c * 256) 5 1 = 0 ∧
      nbits (suite.toNat + 16 + b2n a * 64 + b2n b * 128 + b2n c * 256) 6 1 = b2n a ∧
      nbits (suite.toNat + 16 + b2n a * 64 + b2n b * 128 + b2n c * 256) 7 1 = b2n b ∧
      nbits (suite.toNat + 16 + b2n a * 64 + b2n b * 128 + b2n c * 256) 8 1 = b2n c := by
  have hsuite := suite.isLt
  have hle (x : Bool) : b2n x ≤ 1 := by cases x <;> decide
  have ha := hle a
  have hb := hle b
  have hc := hle c
  unfold nbits
  omega

/-- BIS_CTL with the operands of a GO. -/
def State.bistSelected (s : State) (suite : BitVec 4) (h0Loop fixture extLoop : Bool) : State :=
  (((s.setF RF.BIS_CTL_SUITE 0 0 suite.toNat).setFlag RF.BIS_CTL_H0_LOOP 0 0 h0Loop).setFlag RF.BIS_CTL_FIXTURE 0 0
    fixture).setFlag RF.BIS_CTL_EXT_LOOP 0 0 extLoop

theorem State.onlyRegs_bistSelected (s : State) (suite : BitVec 4) (a b c : Bool) :
    s.onlyRegs [.BIS_CTL] (s.bistSelected suite a b c) :=
  (((s.onlyRegs_setF (f := RF.BIS_CTL_SUITE) 0 0 _ (by decide)).trans
    (State.onlyRegs_setFlag _ (f := RF.BIS_CTL_H0_LOOP) 0 0 _ (by decide))).trans
    (State.onlyRegs_setFlag _ (f := RF.BIS_CTL_FIXTURE) 0 0 _ (by decide))).trans
    (State.onlyRegs_setFlag _ (f := RF.BIS_CTL_EXT_LOOP) 0 0 _ (by decide))

theorem State.bistSelected_eq (s : State) (suite : BitVec 4) (a b c : Bool) :
    s.bistSelected suite a b c = { s with regs := (s.bistSelected suite a b c).regs } := rfl

theorem State.fields_bistSelected (s : State) (suite : BitVec 4) (a b c : Bool) :
    (s.bistSelected suite a b c).getF RF.BIS_CTL_SUITE 0 0 = suite.toNat ∧
      (s.bistSelected suite a b c).flag RF.BIS_CTL_H0_LOOP 0 0 = a ∧
      (s.bistSelected suite a b c).flag RF.BIS_CTL_FIXTURE 0 0 = b ∧
      (s.bistSelected suite a b c).flag RF.BIS_CTL_EXT_LOOP 0 0 = c := by
  unfold State.bistSelected
  refine ⟨?_, ?_, ?_, State.flag_setFlag_same _ RF.BIS_CTL_EXT_LOOP 0 0 c (by decide) rfl⟩
  · unfold State.setFlag
    rw [State.getF_setF_disjoint _ (f := RF.BIS_CTL_EXT_LOOP) (g := RF.BIS_CTL_SUITE) 0 0 _ rfl (by decide) (by decide),
      State.getF_setF_disjoint _ (f := RF.BIS_CTL_FIXTURE) (g := RF.BIS_CTL_SUITE) 0 0 _ rfl (by decide) (by decide),
      State.getF_setF_disjoint _ (f := RF.BIS_CTL_H0_LOOP) (g := RF.BIS_CTL_SUITE) 0 0 _ rfl (by decide) (by decide)]
    exact s.getF_setF_fits 0 0 suite.isLt (by decide)
  · rw [State.flag_setFlag_disjoint _ (f := RF.BIS_CTL_EXT_LOOP) (g := RF.BIS_CTL_H0_LOOP) 0 0 c rfl (by decide)
        (by decide),
      State.flag_setFlag_disjoint _ (f := RF.BIS_CTL_FIXTURE) (g := RF.BIS_CTL_H0_LOOP) 0 0 b rfl (by decide)
        (by decide)]
    exact State.flag_setFlag_same _ RF.BIS_CTL_H0_LOOP 0 0 a (by decide) rfl
  · rw [State.flag_setFlag_disjoint _ (f := RF.BIS_CTL_EXT_LOOP) (g := RF.BIS_CTL_FIXTURE) 0 0 c rfl (by decide)
      (by decide)]
    exact State.flag_setFlag_same _ RF.BIS_CTL_FIXTURE 0 0 b (by decide) rfl

/-- The conditions of a GO do not look at BIS_CTL. -/
theorem State.bistMay_of_ctl (heq : t = { s with regs := t.regs }) (hregs : s.onlyRegs [.BIS_CTL] t) :
    t.bistMay = s.bistMay := by
  have hboot : t.boot = s.boot := by rw [heq]
  have hpower : t.power = s.power := by rw [heq]
  have hseq : t.seq = s.seq := by rw [heq]
  have hresets : t.resets = s.resets := by rw [heq]
  have hidle : t.fieldIdle = s.fieldIdle := by
    rw [heq]
    rfl
  have hin : t.inService = s.inService := by
    funext f
    unfold State.inService State.fieldMode
    rw [hregs.getF (by decide)]
  unfold State.bistMay State.modState State.halted
  rw [hboot, hpower, hseq, hresets, hidle, hin, hregs.getF (by decide), hregs.getF (by decide), hregs.flag (by decide)]

theorem State.bistBusy_of_ctl (hregs : s.onlyRegs [.BIS_CTL] t) : t.bistBusy = s.bistBusy := by
  unfold State.bistBusy
  rw [hregs.getF (by decide)]

theorem State.bistWrite_go (s : State) (origin : Fin 3) (suite : BitVec 4) (a b c : Bool) (hopen : s.bistOpen = true) :
    exec (.bistGo origin suite a b c) s =
      .next ((if s.bistBusy then s else s.bistSelected suite a b c).bistGo origin.val) := by
  obtain ⟨hsuite, hgo, habort, hloop, hfix, hext⟩ := nbits_goWord suite a b c
  refine congrArg Host.Outcome.next ?_
  unfold State.bistWrite
  dsimp only
  rw [hopen, hsuite, hgo, habort, hloop, hfix, hext, if_neg (by decide), if_pos rfl, if_neg (by decide)]
  rfl

theorem State.bistGo_refused (s : State) (origin : Fin 3) (suite : BitVec 4) (a b c : Bool)
    (hopen : s.bistOpen = true) (hno : s.bistBusy = true ∨ s.bistMay = false) :
    ∃ t, exec (.bistGo origin suite a b c) s = .next (t.setFlag RF.BIS_STAT_CMD_ERR 0 0 true) ∧
      t = { s with regs := t.regs } ∧ s.onlyRegs [.BIS_CTL] t := by
  rw [s.bistWrite_go origin suite a b c hopen]
  cases hbusy : s.bistBusy with
  | true =>
    refine ⟨s, ?_, rfl, s.onlyRegs_refl _⟩
    rw [if_pos rfl, State.bistGo, hbusy, if_pos (by simp)]
  | false =>
    have hmay : s.bistMay = false := hno.resolve_left (by simp [hbusy])
    have hctl := s.onlyRegs_bistSelected suite a b c
    refine ⟨s.bistSelected suite a b c, ?_, s.bistSelected_eq suite a b c, hctl⟩
    rw [if_neg (by decide), State.bistGo, State.bistMay_of_ctl (s.bistSelected_eq suite a b c) hctl, hmay,
      if_pos (by simp)]

/-- The state in which a suite is in SETUP. -/
def State.suiteBegun (s : State) (origin : Nat) : State :=
  { ((((s.resetRegs (fun k => bistResults k.reg)).setF RF.BIS_STAT_STATE 0 0 1).setF RF.BIS_STAT_TEST 0 0 0).setF
      RF.BIS_STAT_ORIGIN 0 0 origin).setF RF.BIS_STAT_ELAPSED_MS 0 0 0 with bist := ⟨s.now, s.now⟩ }

theorem State.bistGo_accepted (s : State) (origin : Fin 3) (suite : BitVec 4) (a b c : Bool)
    (hopen : s.bistOpen = true) (hbusy : s.bistBusy = false) (hmay : s.bistMay = true) :
    exec (.bistGo origin suite a b c) s = .next ((s.bistSelected suite a b c).suiteBegun origin.val) := by
  have hctl := s.onlyRegs_bistSelected suite a b c
  rw [s.bistWrite_go origin suite a b c hopen, hbusy, if_neg (by decide), State.bistGo, State.bistBusy_of_ctl hctl,
    State.bistMay_of_ctl (s.bistSelected_eq suite a b c) hctl, hbusy, hmay, if_neg (by decide)]
  rfl

/-- BIS_STAT as a GO writes it. -/
def State.statBegun (s : State) (origin : Nat) : State :=
  (((s.setF RF.BIS_STAT_STATE 0 0 1).setF RF.BIS_STAT_TEST 0 0 0).setF RF.BIS_STAT_ORIGIN 0 0 origin).setF
    RF.BIS_STAT_ELAPSED_MS 0 0 0

theorem State.suiteBegun_eq (s : State) (origin : Nat) : s.suiteBegun origin =
    { (s.resetRegs (fun k => bistResults k.reg)).statBegun origin with bist := ⟨s.now, s.now⟩ } := rfl

theorem State.onlyRegs_statBegun (s : State) (origin : Nat) : s.onlyRegs [.BIS_STAT] (s.statBegun origin) :=
  (((s.onlyRegs_setF (f := RF.BIS_STAT_STATE) 0 0 _ (by decide)).trans
    (State.onlyRegs_setF _ (f := RF.BIS_STAT_TEST) 0 0 _ (by decide))).trans
    (State.onlyRegs_setF _ (f := RF.BIS_STAT_ORIGIN) 0 0 _ (by decide))).trans
    (State.onlyRegs_setF _ (f := RF.BIS_STAT_ELAPSED_MS) 0 0 _ (by decide))

theorem State.fields_statBegun (s : State) {origin : Nat} (ho : origin < 4) :
    (s.statBegun origin).getF RF.BIS_STAT_STATE 0 0 = 1 ∧ (s.statBegun origin).getF RF.BIS_STAT_TEST 0 0 = 0 ∧
      (s.statBegun origin).getF RF.BIS_STAT_ORIGIN 0 0 = origin ∧
      (s.statBegun origin).getF RF.BIS_STAT_ELAPSED_MS 0 0 = 0 := by
  have helapsed (x : RF) (hx : x.reg = .BIS_STAT) (hlo : x.lo + x.w ≤ 16) :
      (s.statBegun origin).getF x 0 0 = (((s.setF RF.BIS_STAT_STATE 0 0 1).setF RF.BIS_STAT_TEST 0 0 0).setF
        RF.BIS_STAT_ORIGIN 0 0 origin).getF x 0 0 :=
    State.getF_setF_disjoint _ (f := RF.BIS_STAT_ELAPSED_MS) (g := x) 0 0 _ hx (by omega) (.inl hlo)
  refine ⟨?_, ?_, ?_, State.getF_setF_fits _ (x := RF.BIS_STAT_ELAPSED_MS) 0 0 (by decide) (by decide)⟩
  · rw [helapsed _ rfl (by decide),
      State.getF_setF_disjoint _ (f := RF.BIS_STAT_ORIGIN) (g := RF.BIS_STAT_STATE) 0 0 _ rfl (by decide) (by decide),
      State.getF_setF_disjoint _ (f := RF.BIS_STAT_TEST) (g := RF.BIS_STAT_STATE) 0 0 _ rfl (by decide) (by decide)]
    exact s.getF_setF_fits 0 0 (by decide) (by decide)
  · rw [helapsed _ rfl (by decide),
      State.getF_setF_disjoint _ (f := RF.BIS_STAT_ORIGIN) (g := RF.BIS_STAT_TEST) 0 0 _ rfl (by decide) (by decide)]
    exact State.getF_setF_fits _ 0 0 (by decide) (by decide)
  · rw [helapsed _ rfl (by decide)]
    exact State.getF_setF_fits _ 0 0 ho (by decide)

theorem State.rd_results_cleared (s : State) (origin : Nat) (k : RKey) (hk : bistResults k.reg = true) :
    ((s.resetRegs (fun k => bistResults k.reg)).statBegun origin).rd k.reg k.inst.val k.idx.val = k.reset := by
  rw [State.onlyRegs_statBegun _ origin k.reg k.inst.val k.idx.val, State.rd_resetRegs, rkey_val, if_pos hk]
  intro hmem
  rw [List.mem_singleton.mp hmem] at hk
  exact absurd hk (by decide)

/-! ### The next test (R664, R673) -/

/-- Tests from `a` up to `b` show SKIPPED. -/
def State.testsSkipped (s : State) (a b : Nat) : State :=
  ((List.range 4).filter (fun i => decide (a ≤ i) && decide (i < b))).foldl
    (fun (x : State) i => x.setF RF.BIS_RESULTt_CODE 0 i 5) s

/-- What skipping tests does. -/
structure State.skipped (a b : Nat) (s t : State) : Prop where
  eq : t = { s with regs := t.regs }
  regs : s.onlyRegs [.BIS_RESULTt] t
  code : ∀ i < 4, a ≤ i → i < b → t.getF RF.BIS_RESULTt_CODE 0 i = 5
  other : ∀ i < 4, ¬(a ≤ i ∧ i < b) → t.rd .BIS_RESULTt 0 i = s.rd .BIS_RESULTt 0 i

theorem State.skipped_foldl (s : State) {l : List Nat} (hl : ∀ i ∈ l, i < 4) :
    (l.foldl (fun (x : State) i => x.setF RF.BIS_RESULTt_CODE 0 i 5) s) =
        { s with regs := (l.foldl (fun (x : State) i => x.setF RF.BIS_RESULTt_CODE 0 i 5) s).regs } ∧
      s.onlyRegs [.BIS_RESULTt] (l.foldl (fun (x : State) i => x.setF RF.BIS_RESULTt_CODE 0 i 5) s) ∧
      (∀ i ∈ l, (l.foldl (fun (x : State) i => x.setF RF.BIS_RESULTt_CODE 0 i 5) s).getF RF.BIS_RESULTt_CODE 0 i = 5) ∧
      (∀ i < 4, i ∉ l → (l.foldl (fun (x : State) i => x.setF RF.BIS_RESULTt_CODE 0 i 5) s).rd .BIS_RESULTt 0 i =
        s.rd .BIS_RESULTt 0 i) := by
  induction l using List.reverseRecOn with
  | nil => exact ⟨rfl, s.onlyRegs_refl _, fun i hi => absurd hi List.not_mem_nil, fun _ _ _ => rfl⟩
  | append_singleton l g ih =>
    obtain ⟨heq, hregs, hcode, hother⟩ := ih fun i hi => hl i (List.mem_append_left _ hi)
    have hg := hl g (by simp)
    rw [List.foldl_append, List.foldl_cons, List.foldl_nil]
    generalize l.foldl _ s = t at heq hregs hcode hother ⊢
    refine ⟨by rw [heq]; rfl, hregs.trans (t.onlyRegs_setF 0 g 5 (by decide)), fun i hi => ?_, fun i hi4 hi => ?_⟩
    · by_cases hig : i = g
      · rw [hig, State.getF_setF_fits _ 0 g (by decide) (by decide)]
      · have hmem : i ∈ l := by simpa [hig] using hi
        have hi4 := hl i hi
        rw [State.getF_setF_idx t RF.BIS_RESULTt_CODE RF.BIS_RESULTt_CODE (by omega) (by omega) hig rfl]
        exact hcode i hmem
    · have hne : i ≠ g := fun e => hi (by simp [e])
      have hmem : i ∉ l := fun e => hi (by simp [e])
      rw [State.setF, State.rd_wr_other _ (rkey_ne_of_idx (by omega) (by omega) hne)]
      exact hother i hi4 hmem

theorem State.skipped_testsSkipped (s : State) (a b : Nat) : State.skipped a b s (s.testsSkipped a b) := by
  have hmem (i : Nat) : i ∈ (List.range 4).filter (fun i => decide (a ≤ i) && decide (i < b)) ↔
      i < 4 ∧ a ≤ i ∧ i < b := by
    simp
  obtain ⟨heq, hregs, hcode, hother⟩ := s.skipped_foldl
    (l := (List.range 4).filter (fun i => decide (a ≤ i) && decide (i < b))) fun i hi => ((hmem i).mp hi).1
  exact ⟨heq, hregs, fun i hi ha hb => hcode i ((hmem i).mpr ⟨hi, ha, hb⟩),
    fun i hi hno => hother i hi fun h => hno ((hmem i).mp h).2⟩

/-- The first selected test from number `a` on. -/
def State.nextTest (s : State) (a : Nat) : Option Nat :=
  ((List.range 4).filter (fun i => decide (a ≤ i) && (s.getF RF.BIS_CTL_SUITE 0 0).testBit i)).head?

theorem State.testFrom_of_none {a : Nat} (h : s.nextTest a = none) :
    s.testFrom a = (s.testsSkipped a 4).setF RF.BIS_STAT_STATE 0 0 3 := by
  unfold State.testFrom
  dsimp only
  unfold State.nextTest at h
  rw [h]
  rfl

/-- A test other than LOOP runs (R664). -/
def State.testRuns (s : State) (i : Nat) : State :=
  { (s.setF RF.BIS_STAT_STATE 0 0 2).setF RF.BIS_STAT_TEST 0 0 i with bist := { s.bist with testBegan := s.now } }

theorem State.testFrom_of_some {a i : Nat} (h : s.nextTest a = some i) (hi : i < 3) :
    s.testFrom a = (s.testsSkipped a i).testRuns i := by
  unfold State.testFrom
  dsimp only
  unfold State.nextTest at h
  rw [h]
  dsimp only
  rw [State.testStart, if_neg (by unfold testLoop; omega)]
  rfl

theorem State.onlyRegs_testRuns (s : State) (i : Nat) : s.onlyRegs [.BIS_STAT] (s.testRuns i) :=
  (s.onlyRegs_setF (f := RF.BIS_STAT_STATE) 0 0 2 (by decide)).trans
    (State.onlyRegs_setF _ (f := RF.BIS_STAT_TEST) 0 0 i (by decide))

theorem State.fields_testRuns (s : State) {i : Nat} (hi : i < 8) :
    (s.testRuns i).getF RF.BIS_STAT_STATE 0 0 = 2 ∧ (s.testRuns i).getF RF.BIS_STAT_TEST 0 0 = i := by
  refine ⟨?_, State.getF_setF_fits (s.setF RF.BIS_STAT_STATE 0 0 2) 0 0 hi (by decide)⟩
  exact ((s.setF RF.BIS_STAT_STATE 0 0 2).getF_setF_disjoint (f := RF.BIS_STAT_TEST) (g := RF.BIS_STAT_STATE) 0 0 i rfl
    (by decide) (by decide)).trans (s.getF_setF_fits 0 0 (by decide) (by decide))

end

end Sys2Proof.Machine

/-! The set-up, the results and the restore of the interconnect self-test (R664–R676), and O42. -/

namespace Sys2Proof.Machine

section
variable {s t u : State}

/-! ### Set-up done (R664) -/

/-- The stacks of the first fields are in self-refresh where they were up or in power-down. -/
def State.stacksRest (s : State) (n : Nat) : State :=
  (List.range n).foldl (fun (t : State) f =>
    if t.hbmState f = hbmUp ∨ t.hbmState f = hbmPowerdown then t.setF RF.HBM_ID_STATE f 0 hbmSelfRefresh else t) s

theorem State.stacksRest_succ (s : State) (n : Nat) : s.stacksRest (n + 1) =
    if (s.stacksRest n).hbmState n = hbmUp ∨ (s.stacksRest n).hbmState n = hbmPowerdown then
      (s.stacksRest n).setF RF.HBM_ID_STATE n 0 hbmSelfRefresh else s.stacksRest n := by
  rw [State.stacksRest, List.range_succ, List.foldl_append]
  rfl

/-- What stacks in self-refresh change. -/
structure State.rested (n : Nat) (s t : State) : Prop where
  eq : t = { s with regs := t.regs }
  regs : s.onlyRegs [.HBM_ID] t
  state : ∀ f < 80, t.hbmState f = if f < n ∧ (s.hbmState f = hbmUp ∨ s.hbmState f = hbmPowerdown) then hbmSelfRefresh
    else s.hbmState f

theorem State.rested_stacksRest (s : State) {n : Nat} (hn : n ≤ 80) : State.rested n s (s.stacksRest n) := by
  induction n with
  | zero => exact ⟨rfl, s.onlyRegs_refl _, fun f _ => (if_neg fun h => absurd h.1 (Nat.not_lt_zero f)).symm⟩
  | succ n ih =>
    obtain ⟨heq, hregs, hstate⟩ := ih (by omega)
    rw [State.stacksRest_succ]
    generalize s.stacksRest n = t at heq hregs hstate
    have hthis : t.hbmState n = s.hbmState n := by
      rw [hstate n (by omega), if_neg fun h => absurd h.1 (Nat.lt_irrefl n)]
    have hstep (f : Nat) (hf : f ≠ n) : (f < n + 1 ∧ (s.hbmState f = hbmUp ∨ s.hbmState f = hbmPowerdown)) ↔
        (f < n ∧ (s.hbmState f = hbmUp ∨ s.hbmState f = hbmPowerdown)) := and_congr_left' (by omega)
    rw [hthis]
    split
    next hrest =>
      refine ⟨by rw [heq]; rfl, hregs.trans (t.onlyRegs_setF n 0 _ (by decide)), fun f hf => ?_⟩
      by_cases hfn : f = n
      · rw [hfn, State.hbmState, State.getF_setF_fits _ n 0 (by decide) (by decide), if_pos ⟨Nat.lt_succ_self n, hrest⟩]
      · have hother : (t.setF RF.HBM_ID_STATE n 0 hbmSelfRefresh).hbmState f = t.hbmState f := by
          rw [State.hbmState, State.getF, State.setF, State.rd_wr_other _ (rkey_ne_of_inst (by omega) (by omega) hfn),
            State.hbmState, State.getF]
        rw [hother, hstate f hf, if_congr (hstep f hfn) rfl rfl]
    next hrest =>
      refine ⟨heq, hregs, fun f hf => ?_⟩
      by_cases hfn : f = n
      · rw [hfn, hthis, if_neg fun h => hrest h.2]
      · rw [hstate f hf, if_congr (hstep f hfn) rfl rfl]

theorem execBistSetupDone_setup (h : s.getF RF.BIS_STAT_STATE 0 0 = 1) :
    exec .bistSetupDone s = .next ((s.stacksRest 80).bistElapsed.testFrom 0) := by
  show execBistSetupDone s = _
  unfold execBistSetupDone
  rw [h, if_neg (by decide)]
  rfl

/-- The stacks rest and the time of the suite is shown. -/
structure State.setUp (s t : State) : Prop where
  eq : t = { s with regs := t.regs }
  regs : s.onlyRegs [.HBM_ID, .BIS_STAT] t
  state : ∀ f < 80, t.hbmState f =
    if s.hbmState f = hbmUp ∨ s.hbmState f = hbmPowerdown then hbmSelfRefresh else s.hbmState f

theorem State.onlyRegs_bistElapsed (s : State) : s.onlyRegs [.BIS_STAT] s.bistElapsed :=
  s.onlyRegs_setF (f := RF.BIS_STAT_ELAPSED_MS) 0 0 _ (by decide)

theorem State.setUp_elapsed (s : State) : s.setUp (s.stacksRest 80).bistElapsed := by
  obtain ⟨heq, hregs, hstate⟩ := s.rested_stacksRest (Nat.le_refl 80)
  have helapsed := (s.stacksRest 80).onlyRegs_bistElapsed
  have heq2 : (s.stacksRest 80).bistElapsed = { s.stacksRest 80 with regs := (s.stacksRest 80).bistElapsed.regs } := rfl
  generalize (s.stacksRest 80).bistElapsed = u at helapsed heq2
  generalize s.stacksRest 80 = t at heq hregs hstate helapsed heq2
  refine ⟨by rw [heq2, heq], (hregs.mono (by decide)).trans (helapsed.mono (by decide)), fun f hf => ?_⟩
  have hid : u.hbmState f = t.hbmState f := helapsed.getF (x := RF.HBM_ID_STATE) (by decide) f 0
  rw [hid, hstate f hf]
  simp only [hf, true_and]

theorem State.nextTest_of_suite {a : Nat} (h : t.getF RF.BIS_CTL_SUITE 0 0 = s.getF RF.BIS_CTL_SUITE 0 0) :
    t.nextTest a = s.nextTest a := by
  unfold State.nextTest
  rw [h]

/-- No test from `a` on is selected where the suite has no bit from `a` on. -/
theorem State.nextTest_of_none {a : Nat} (h : s.getF RF.BIS_CTL_SUITE 0 0 / 2 ^ a = 0) : s.nextTest a = none := by
  unfold State.nextTest
  rw [List.head?_eq_none_iff, List.filter_eq_nil_iff]
  intro i _ hsel
  simp only [Bool.and_eq_true, decide_eq_true_eq] at hsel
  obtain ⟨ha, hbit⟩ := hsel
  have hlt : s.getF RF.BIS_CTL_SUITE 0 0 < 2 ^ a := (Nat.div_eq_zero_iff_lt (Nat.two_pow_pos a)).mp h
  rw [Nat.testBit_lt_two_pow (Nat.lt_of_lt_of_le hlt (Nat.pow_le_pow_right (by decide) ha))] at hbit
  exact absurd hbit (by decide)

/-! ### A test ends (R666–R674) -/

/-- Registers that the outcome of a test may change. -/
def outcomeRegs : List Reg :=
  [.BIS_SEAM_FAILk, .BIS_SEAM_REPk, .BIS_BUMP_FAIL_LO, .BIS_BUMP_FAIL_HI, .BIS_PIN_FAIL, .BIS_LOOP_FAIL_LO,
    .BIS_LOOP_FAIL_HI]

/-- A state that differs from another in the registers of an outcome. -/
structure State.outcomeOnly (l : List Reg) (s t : State) : Prop where
  eq : t = { s with regs := t.regs }
  regs : s.onlyRegs l t

theorem State.outcomeOnly_refl (l : List Reg) (s : State) : State.outcomeOnly l s s := ⟨rfl, s.onlyRegs_refl _⟩

theorem State.outcomeOnly.trans {l : List Reg} (h : State.outcomeOnly l s t) (k : State.outcomeOnly l t u) :
    State.outcomeOnly l s u where
  eq := by rw [k.eq, h.eq]
  regs := h.regs.trans k.regs

theorem State.outcomeOnly.mono {l m : List Reg} (h : State.outcomeOnly l s t) (sub : l ⊆ m) : State.outcomeOnly m s t :=
  ⟨h.eq, h.regs.mono sub⟩

theorem State.outcomeOnly_wr {l : List Reg} (s : State) {r : Reg} (n : Nat) (v : Word) (h : r ∈ l) :
    State.outcomeOnly l s (s.wr r 0 n v) := ⟨rfl, s.onlyRegs_wr 0 n v h⟩

theorem State.outcomeOnly_setF {l : List Reg} (s : State) {x : RF} (n v : Nat) (h : x.reg ∈ l) :
    State.outcomeOnly l s (s.setF x 0 n v) := ⟨rfl, s.onlyRegs_setF 0 n v h⟩

/-- The result, count of faults and duration of a test. -/
def State.resultSet (s : State) (t code faults us : Nat) : State :=
  ((s.setF RF.BIS_RESULTt_CODE 0 t code).setF RF.BIS_RESULTt_FAULTS 0 t faults).setF RF.BIS_RESULTt_DURATION_US 0 t us

theorem State.outcomeOnly_resultSet (s : State) (t code faults us : Nat) :
    State.outcomeOnly [.BIS_RESULTt] s (s.resultSet t code faults us) :=
  ((s.outcomeOnly_setF t code (by decide)).trans (State.outcomeOnly_setF _ t faults (by decide))).trans
    (State.outcomeOnly_setF _ t us (by decide))

theorem State.fields_resultSet (s : State) (t : Nat) {code faults : Nat} (us : Nat) (hc : code < 8)
    (hf : faults < 65536) :
    (s.resultSet t code faults us).getF RF.BIS_RESULTt_CODE 0 t = code ∧
      (s.resultSet t code faults us).getF RF.BIS_RESULTt_FAULTS 0 t = faults ∧
      (s.resultSet t code faults us).getF RF.BIS_RESULTt_DURATION_US 0 t = us % 2 ^ 32 := by
  unfold State.resultSet
  refine ⟨?_, ?_, State.getF_setF_same _ RF.BIS_RESULTt_DURATION_US 0 t us (by decide)⟩
  · rw [State.getF_setF_disjoint _ (f := RF.BIS_RESULTt_DURATION_US) (g := RF.BIS_RESULTt_CODE) 0 t _ rfl (by decide)
        (by decide),
      State.getF_setF_disjoint _ (f := RF.BIS_RESULTt_FAULTS) (g := RF.BIS_RESULTt_CODE) 0 t _ rfl (by decide)
        (by decide)]
    exact s.getF_setF_fits 0 t hc (by decide)
  · rw [State.getF_setF_disjoint _ (f := RF.BIS_RESULTt_DURATION_US) (g := RF.BIS_RESULTt_FAULTS) 0 t _ rfl (by decide)
      (by decide)]
    exact State.getF_setF_fits _ 0 t hf (by decide)

/-- The running test `t` ends with an outcome that is known. -/
theorem execBistTestDone_of_outcome {faults : List BistFault} {logged : List LoggedFault} {t code : Nat}
    (hrun : s.getF RF.BIS_STAT_STATE 0 0 = 2) (ht : s.getF RF.BIS_STAT_TEST 0 0 = t)
    (hout : s.testOutcome t faults = (code, logged, u)) :
    exec (.bistTestDone faults) s = .next (((logged.foldl (fun (x : State) f => x.logFault t f) u).resultSet t code
      (min 65535 logged.length) ((s.now - s.bist.testBegan) / 1000)).bistElapsed.testFrom (t + 1)) := by
  show execBistTestDone faults s = _
  unfold execBistTestDone
  dsimp only
  rw [hrun, ht, hout, if_neg (by decide)]
  rfl

/-- A test has ended and nothing but its registers and those of the suite has changed. -/
structure State.ended (l : List Reg) (t code faults : Nat) (s u : State) : Prop where
  only : State.outcomeOnly (.BIS_RESULTt :: .BIS_STAT :: l) s u
  code : u.getF RF.BIS_RESULTt_CODE 0 t = code
  faults : u.getF RF.BIS_RESULTt_FAULTS 0 t = faults
  time : u.getF RF.BIS_RESULTt_DURATION_US 0 t = (s.now - s.bist.testBegan) / 1000 % 2 ^ 32

theorem State.ended_elapsed {l : List Reg} (h : State.outcomeOnly l s u) (t : Nat) {code faults : Nat} (hc : code < 8)
    (hf : faults < 65536) : State.ended l t code faults s
      (u.resultSet t code faults ((s.now - s.bist.testBegan) / 1000)).bistElapsed := by
  obtain ⟨hcode, hfaults, htime⟩ := u.fields_resultSet t ((s.now - s.bist.testBegan) / 1000) hc hf
  have honly := u.outcomeOnly_resultSet t code faults ((s.now - s.bist.testBegan) / 1000)
  generalize u.resultSet t code faults ((s.now - s.bist.testBegan) / 1000) = v at *
  have helapsed : State.outcomeOnly [.BIS_STAT] v v.bistElapsed := ⟨rfl, v.onlyRegs_bistElapsed⟩
  refine ⟨(h.mono (by intro r hr; simp [hr])).trans ((honly.mono (by simp)).trans (helapsed.mono (by simp))), ?_, ?_, ?_⟩
  · rw [helapsed.regs.getF (by decide), hcode]
  · rw [helapsed.regs.getF (by decide), hfaults]
  · rw [helapsed.regs.getF (by decide), htime]

/-- What follows the end of a test leaves its result. -/
theorem State.ended.testEnded {l : List Reg} {i code faults : Nat} (h : State.ended l i code faults s u)
    (hsame : t.rd .BIS_RESULTt 0 i = u.rd .BIS_RESULTt 0 i) : s.testEnded i code faults t = true := by
  have hget (x : RF) (hx : x.reg = .BIS_RESULTt) : t.getF x 0 i = u.getF x 0 i := by
    unfold State.getF
    rw [hx, hsame]
  unfold State.testEnded
  rw [hget _ rfl, hget _ rfl, hget _ rfl, h.code, h.faults, h.time]
  simp

/-- The last test selected ends: the restore is to come. -/
theorem State.ended.restoring {l : List Reg} {i code faults : Nat} (h : State.ended l i code faults s u) (hi : i < 4)
    (hctl : Reg.BIS_CTL ∉ l) (hlast : s.getF RF.BIS_CTL_SUITE 0 0 / 2 ^ (i + 1) = 0) :
    s.testEnded i code faults (u.testFrom (i + 1)) = true ∧ (u.testFrom (i + 1)).getF RF.BIS_STAT_STATE 0 0 = 3 ∧
      (∀ j < 4, i < j → (u.testFrom (i + 1)).getF RF.BIS_RESULTt_CODE 0 j = 5) ∧
      State.outcomeOnly (.BIS_RESULTt :: .BIS_STAT :: l) s (u.testFrom (i + 1)) := by
  have hsuite : u.getF RF.BIS_CTL_SUITE 0 0 = s.getF RF.BIS_CTL_SUITE 0 0 := h.only.regs.getF (by simpa using hctl) 0 0
  rw [State.testFrom_of_none ((State.nextTest_of_suite hsuite).trans (State.nextTest_of_none hlast))]
  have hskip := u.skipped_testsSkipped (i + 1) 4
  generalize u.testsSkipped (i + 1) 4 = v at hskip
  have hset : v.onlyRegs [.BIS_STAT] (v.setF RF.BIS_STAT_STATE 0 0 3) := v.onlyRegs_setF 0 0 3 (by decide)
  have hlater : State.outcomeOnly (.BIS_RESULTt :: .BIS_STAT :: l) u (v.setF RF.BIS_STAT_STATE 0 0 3) :=
    ⟨by rw [hskip.eq]; rfl, (hskip.regs.mono (by simp)).trans (hset.mono (by simp))⟩
  refine ⟨h.testEnded ?_, v.getF_setF_fits 0 0 (by decide) (by decide), fun j hj hij => ?_, h.only.trans hlater⟩
  · exact (hset .BIS_RESULTt 0 i (by decide)).trans (hskip.other i hi (by omega))
  · rw [hset.getF (by decide)]
    exact hskip.code j hj hij hj

/-- Another test follows the one that ends. -/
theorem State.ended.continues {l : List Reg} {i j code faults : Nat} (h : State.ended l i code faults s u) (hi : i < 4)
    (hctl : Reg.BIS_CTL ∉ l) (hnext : s.nextTest (i + 1) = some j) (hj : j < 3) :
    s.testEnded i code faults (u.testFrom (i + 1)) = true ∧ (u.testFrom (i + 1)).getF RF.BIS_STAT_STATE 0 0 = 2 ∧
      (u.testFrom (i + 1)).getF RF.BIS_STAT_TEST 0 0 = j ∧ (u.testFrom (i + 1)).bist.testBegan = s.now ∧
      u.testFrom (i + 1) = { s with regs := (u.testFrom (i + 1)).regs, bist := (u.testFrom (i + 1)).bist } ∧
      u.onlyRegs [.BIS_RESULTt, .BIS_STAT] (u.testFrom (i + 1)) := by
  have hsuite : u.getF RF.BIS_CTL_SUITE 0 0 = s.getF RF.BIS_CTL_SUITE 0 0 := h.only.regs.getF (by simpa using hctl) 0 0
  rw [State.testFrom_of_some ((State.nextTest_of_suite hsuite).trans hnext) hj]
  have hskip := u.skipped_testsSkipped (i + 1) j
  generalize u.testsSkipped (i + 1) j = v at hskip
  have hruns := v.onlyRegs_testRuns j
  obtain ⟨hstate, htest⟩ := v.fields_testRuns (i := j) (by omega)
  refine ⟨h.testEnded ?_, hstate, htest, ?_, ?_, (hskip.regs.mono (by decide)).trans (hruns.mono (by decide))⟩
  · exact (hruns .BIS_RESULTt 0 i (by decide)).trans (hskip.other i hi (by omega))
  · show v.now = s.now
    rw [hskip.eq, h.only.eq]
  · show ({ v with regs := (v.testRuns j).regs, bist := (v.testRuns j).bist } : State) = _
    rw [hskip.eq, h.only.eq]

/-! ### Outcomes of the tests -/

/-- A mask written to the three words of a register. -/
def State.maskPut (s : State) (r : Reg) (m : Nat) : State :=
  (List.range 3).foldl (fun (y : State) k => y.wr r 0 k (BitVec.ofNat 64 (m / 2 ^ (64 * k)))) s

theorem State.outcomeOnly_maskPut {l : List Reg} (s : State) {r : Reg} (m : Nat) (h : r ∈ l) :
    State.outcomeOnly l s (s.maskPut r m) := by
  unfold State.maskPut
  generalize List.range 3 = words
  induction words generalizing s with
  | nil => exact State.outcomeOnly_refl l s
  | cons k words ih => exact (s.outcomeOnly_wr k _ h).trans (ih _)

theorem seamResult_nil : seamResult [] true = 1 := rfl

/-- One fault of a wire is within the spares of its seam. -/
theorem seamResult_one (x : BistFault) (h : x.special = false) : seamResult [x] true = 2 := by
  have hwires (p : BistFault → Bool) : ((([x].filter p).map (fun x => x.wire.toNat)).dedup).length ≤ 15 := by
    have hdedup := (List.dedup_sublist (([x].filter p).map (fun x => x.wire.toNat))).length_le
    have hfilter := List.length_filter_le p [x]
    rw [List.length_map] at hdedup
    exact Nat.le_trans hdedup (Nat.le_trans hfilter (by simp))
  unfold seamResult
  dsimp only
  rw [if_neg (by decide), if_neg (by simp), if_neg (by simp [h]), if_pos ⟨hwires _, hwires _⟩]

/-- The faults that a SEAM test counts at a seam. -/
def faultsAt (faults : List BistFault) (i : Nat) : List BistFault :=
  faults.filter (fun x => decide (x.place.val = i) && decide (x.kind.val ≠ 6))

/-- The outcome of SEAM where every seam is reached: no seam fails when each result is 1 or 2. -/
theorem State.testOutcome_seam {faults : List BistFault} (hreach : ∀ i < 160, s.seamReached i = true)
    (hres : ∀ i < 160, seamResult (faultsAt faults i) true ≠ 3) :
    ∃ u, s.testOutcome testSeam faults =
        (if !((List.range 160).filter (fun i => decide (seamResult (faultsAt faults i) (s.seamReached i) = 2))).isEmpty
          then 2 else 1,
        (faults.filter (fun x => decide (x.place.val < 160) && decide (x.kind.val ≠ 6) &&
          s.seamReached x.place.val)).map (fun x => plainFault x
            (decide (seamResult (faultsAt faults x.place.val) (s.seamReached x.place.val) = 2))), u) ∧
      State.outcomeOnly outcomeRegs s u := by
  have hfails : (List.range 160).filter (fun i => decide (seamResult (faultsAt faults i) (s.seamReached i) = 3)) = [] := by
    rw [List.filter_eq_nil_iff]
    intro i hi
    have hi := List.mem_range.mp hi
    rw [hreach i hi, decide_eq_true_eq]
    exact hres i hi
  have hholes : (List.range 160).filter (fun i => !s.seamReached i) = [] := by
    rw [List.filter_eq_nil_iff]
    intro i hi
    simp [hreach i (List.mem_range.mp hi)]
  refine ⟨(s.maskPut .BIS_SEAM_FAILk (listMask [])).maskPut .BIS_SEAM_REPk (listMask ((List.range 160).filter (fun i =>
    decide (seamResult (faultsAt faults i) (s.seamReached i) = 2)))), ?_,
    (s.outcomeOnly_maskPut _ (by decide)).trans (State.outcomeOnly_maskPut _ _ (by decide))⟩
  unfold State.testOutcome
  dsimp only
  rw [if_pos rfl]
  show (if !((List.range 160).filter (fun i =>
      decide (seamResult (faultsAt faults i) (s.seamReached i) = 3))).isEmpty then 3 else _,
    _ ++ ((List.range 160).filter (fun i => !s.seamReached i)).map _,
    (s.maskPut .BIS_SEAM_FAILk (listMask ((List.range 160).filter (fun i =>
      decide (seamResult (faultsAt faults i) (s.seamReached i) = 3))))).maskPut .BIS_SEAM_REPk _) = _
  rw [hfails, hholes, List.map_nil, List.append_nil]
  rfl

/-- The places below `n` where a fault was detected. -/
def faultPlaces (faults : List BistFault) (n : Nat) : List Nat :=
  (List.range n).filter (fun i => faults.any (fun x => decide (x.place.val = i)))

theorem faultPlaces_nil (n : Nat) : faultPlaces [] n = [] := by simp [faultPlaces]

theorem State.testOutcome_of_bump (s : State) (faults : List BistFault) : s.testOutcome testBump faults =
    (if (faultPlaces faults 80).isEmpty then 1 else 3, (faults.filter (fun x => decide (x.place.val < 80))).map
      (fun x => plainFault x false),
      (s.wr .BIS_BUMP_FAIL_LO 0 0 (BitVec.ofNat 64 (listMask (faultPlaces faults 80)))).setF RF.BIS_BUMP_FAIL_HI_BITS 0 0
        (listMask (faultPlaces faults 80) / 2 ^ 64)) := by
  unfold State.testOutcome
  dsimp only
  rw [if_neg (by decide), if_pos (show testBump = testBump from rfl)]
  rfl

theorem State.testOutcome_of_pin (s : State) (faults : List BistFault) : s.testOutcome testPin faults =
    (if (faultPlaces faults 442).isEmpty then 1 else 3, faults.map (fun x => plainFault x false),
      (s.setF RF.BIS_PIN_FAIL_COUNT 0 0 (faultPlaces faults 442).length).setF RF.BIS_PIN_FAIL_FIRST 0 0
        ((faultPlaces faults 442).headD 0)) := by
  unfold State.testOutcome
  dsimp only
  rw [if_neg (by decide), if_neg (by decide), if_pos (show testPin = testPin from rfl)]
  rfl

theorem State.testOutcome_of_loop (s : State) (faults : List BistFault) : s.testOutcome testLoop faults =
    (if ((faultPlaces faults 72).filter (fun k => s.underLoop k)).isEmpty then 1 else 3,
      (faults.filter (fun x => decide (x.place.val < 72) && s.underLoop x.place.val)).map (fun x => plainFault x false),
      (s.wr .BIS_LOOP_FAIL_LO 0 0 (BitVec.ofNat 64 (listMask ((faultPlaces faults 72).filter
        (fun k => s.underLoop k))))).setF RF.BIS_LOOP_FAIL_HI_BITS 0 0
        (listMask ((faultPlaces faults 72).filter (fun k => s.underLoop k)) / 2 ^ 64)) := by
  unfold State.testOutcome
  dsimp only
  rw [if_neg (by decide), if_neg (by decide), if_neg (by decide)]
  rfl

/-- A test without faults passes and logs nothing (R667–R672). -/
theorem State.testOutcome_nil {t : Nat} (ht : t < 4) (hreach : t = 0 → ∀ i < 160, s.seamReached i = true) :
    ∃ u, s.testOutcome t [] = (1, [], u) ∧ State.outcomeOnly outcomeRegs s u := by
  match t, ht with
  | 0, _ =>
    obtain ⟨u, hu, honly⟩ := State.testOutcome_seam (faults := []) (hreach rfl) fun i _ =>
      show seamResult [] true ≠ 3 by decide
    have hreps : (List.range 160).filter (fun i => decide (seamResult (faultsAt [] i) (s.seamReached i) = 2)) = [] := by
      rw [List.filter_eq_nil_iff]
      intro i hi
      rw [hreach rfl i (List.mem_range.mp hi)]
      show ¬decide (seamResult [] true = 2) = true
      decide
    rw [hreps] at hu
    exact ⟨u, hu, honly⟩
  | 1, _ =>
    have h := s.testOutcome_of_bump []
    rw [faultPlaces_nil] at h
    exact ⟨_, h, (s.outcomeOnly_wr 0 _ (by decide)).trans (State.outcomeOnly_setF _ 0 _ (by decide))⟩
  | 2, _ =>
    have h := s.testOutcome_of_pin []
    rw [faultPlaces_nil] at h
    exact ⟨_, h, (s.outcomeOnly_setF 0 _ (by decide)).trans (State.outcomeOnly_setF _ 0 _ (by decide))⟩
  | 3, _ =>
    have h := s.testOutcome_of_loop []
    rw [faultPlaces_nil] at h
    exact ⟨_, h, (s.outcomeOnly_wr 0 _ (by decide)).trans (State.outcomeOnly_setF _ 0 _ (by decide))⟩

theorem filter_place_eq {p n : Nat} (h : p < n) : (List.range n).filter (fun i => decide (p = i)) = [p] := by
  have hbeq : (List.range n).filter (fun i => decide (p = i)) = (List.range n).filter (· == p) := by
    simp only [beq_eq_decide, eq_comm]
  rw [hbeq, List.filter_beq, List.count_eq_one_of_mem List.nodup_range (List.mem_range.mpr h)]
  rfl

/-- One failing stack of BUMP fails the test (R668). -/
theorem State.testOutcome_bump (x : BistFault) (h : x.place.val < 64) :
    s.testOutcome testBump [x] = (3, [plainFault x false],
      (s.wr .BIS_BUMP_FAIL_LO 0 0 (BitVec.ofNat 64 (2 ^ x.place.val))).setF RF.BIS_BUMP_FAIL_HI_BITS 0 0 0) := by
  have hplaces : faultPlaces [x] 80 = [x.place.val] := by
    simpa [faultPlaces] using filter_place_eq (p := x.place.val) (n := 80) (by omega)
  have hmask : listMask [x.place.val] = 2 ^ x.place.val := Nat.zero_or _
  have hhigh : 2 ^ x.place.val / 2 ^ 64 = 0 := Nat.div_eq_of_lt (Nat.pow_lt_pow_right (by decide) h)
  have hlogged : [x].filter (fun y => decide (y.place.val < 80)) = [x] := by
    simp only [List.filter_cons, List.filter_nil]
    rw [if_pos (decide_eq_true (by omega))]
  rw [State.testOutcome_of_bump, hplaces, hlogged, hmask, hhigh]
  rfl

/-- One wire of one seam repairs it, and the test passes (R667). -/
theorem State.testOutcome_repaired (x : BistFault) (hplace : x.place.val < 160) (hkind : x.kind.val ≠ 6)
    (hplain : x.special = false) (hreach : ∀ i < 160, s.seamReached i = true) :
    ∃ u f, s.testOutcome testSeam [x] = (2, [f], u) ∧ State.outcomeOnly outcomeRegs s u := by
  have hat (i : Nat) : faultsAt [x] i = if x.place.val = i then [x] else [] := by
    unfold faultsAt
    by_cases hi : x.place.val = i <;> simp [hi, hkind]
  obtain ⟨u, hu, honly⟩ := State.testOutcome_seam (faults := [x]) hreach fun i _ => by
    rw [hat]
    split
    · rw [seamResult_one x hplain]
      decide
    · decide
  have hreps : ((List.range 160).filter (fun i =>
      decide (seamResult (faultsAt [x] i) (s.seamReached i) = 2))).isEmpty = false := by
    rw [List.isEmpty_eq_false_iff_exists_mem]
    refine ⟨x.place.val, List.mem_filter.mpr ⟨List.mem_range.mpr hplace, ?_⟩⟩
    rw [hreach _ hplace, hat, if_pos rfl, seamResult_one x hplain]
    rfl
  have hlogged : [x].filter (fun y => decide (y.place.val < 160) && decide (y.kind.val ≠ 6) &&
      s.seamReached y.place.val) = [x] := by
    simp [hplace, hkind, hreach _ hplace]
  rw [hreps, hlogged] at hu
  exact ⟨u, _, hu, honly⟩

theorem State.outcomeOnly_logFault (s : State) (t : Nat) (f : LoggedFault) :
    State.outcomeOnly [.BIS_LOG_HEAD, .BIS_LOGk] s (s.logFault t f) := by
  have hcount : State.outcomeOnly [.BIS_LOG_HEAD, .BIS_LOGk] s (s.addSat RF.BIS_LOG_HEAD_FAULTS 0 0 1) :=
    s.outcomeOnly_setF 0 _ (by decide)
  unfold State.logFault
  dsimp only
  split
  · exact hcount.trans (State.outcomeOnly_setF _ 0 _ (by decide))
  · exact ((hcount.trans (State.outcomeOnly_wr _ _ _ (by decide))).trans (State.outcomeOnly_wr _ _ _ (by decide))).trans
      (State.outcomeOnly_setF _ 0 _ (by decide))

/-! ### The restore (R665) -/

theorem State.host_endRunning {f g c : Nat} {k : Nat} (h : (s.engine f g).running = []) :
    (s.endRunning f g k c).host = s.host := by
  unfold State.endRunning
  rw [h]
  rfl

theorem State.host_cancelQueue {f g c : Nat} (h : (s.engine f g).queue = []) :
    (s.cancelQueue f g c).host = s.host := by
  unfold State.cancelQueue
  rw [h]
  rfl

theorem State.host_abortWaiters {g : Nat} (h : s.entries = []) : (s.abortWaiters g).host = s.host := by
  unfold State.abortWaiters
  dsimp only
  rw [h]
  rfl

theorem State.host_dropLaunches {g : Nat} {fail : SheafFail} (h : s.crofters.launches = []) :
    (s.dropLaunches g fail).host = s.host := by
  unfold State.dropLaunches
  rw [h]
  rfl

theorem State.host_unitCleared {f g : Nat} (h : s.clearsIdle f t) (hidle : s.idleUnits f) (hg : g ∈ fieldUnits) :
    (t.unitCleared f g).host = t.host := by
  have hjob : (t.cairn f).job = none := by
    unfold State.cairn
    rw [h.cairns]
    exact hidle.job
  have hback : (if g = unitCairn then t.cairnRollback f else t) = t := by
    rw [State.cairnRollback_of_none t hjob]
    split <;> rfl
  have hnone : (t.engine f g).running = [] := by rw [h.engine, hidle.running g hg]
  have hrun := t.clearsIdle_endRunning (f := f) (g := f) (u := g) (st := stCancelled) (c := 0xFE) hnone
  unfold State.unitCleared
  rw [hback]
  dsimp only
  rw [h.engine f g, hidle.suspects g hg]
  exact (State.host_cancelQueue (by rw [hrun.engine, h.engine]; exact hidle.queue g hg)).trans
    (State.host_endRunning hnone)

theorem State.host_fieldUnits {f : Nat} {l : List Nat} (h : s.clearsIdle f t) (hidle : s.idleUnits f)
    (hl : l ⊆ fieldUnits) : (l.foldl (State.unitCleared f) t).host = t.host := by
  induction l generalizing t with
  | nil => rfl
  | cons u r ih =>
    have hu := hl (List.mem_cons_self ..)
    exact (ih (State.clearsIdle_unitCleared h hidle hu) fun v hv => hl (List.mem_cons_of_mem _ hv)).trans
      (State.host_unitCleared h hidle hu)

theorem State.fieldClear_wiped_of_quiet {f : Nat} (hf : f < 80) (h : s.quietField f = true) :
    ∃ v : State, v.host = s.host ∧ s.fieldClear f = (v.fieldWiped f).fieldRegs f := by
  obtain ⟨hlive, hlaunch, hent, hfill, hidle⟩ := (s.quietField_iff f).1 h
  have h0 : s.clearsIdle f s.fresh.2 := s.clearsIdle_fresh
  unfold State.fieldClear
  dsimp -zeta only
  extract_lets fail s1 s2 s3 s4 s5
  have hs1 : s1 = s.fresh.2 := by
    show (s.liveThreads f).foldl _ s.fresh.2 = s.fresh.2
    rw [hlive]
    rfl
  have hlaunch1 : s1.crofters.launches = [] := by rw [hs1, h0.crofters, hlaunch]
  have h2 : s.clearsIdle f s2 := (hs1 ▸ h0 : s.clearsIdle f s1).trans (s1.clearsIdle_dropLaunches hlaunch1)
  have h3 : s.clearsIdle f s3 := State.clearsIdle_fieldUnits h2 hidle (List.Subset.refl _)
  have hent3 : s3.entries = [] := by
    unfold State.entries
    rw [h3.tallies]
    exact hent
  have hs4 : s4 = s3.abortWaiters f := by
    show (s3.abortWaiters f).endFills f s3.commons.fills.length = _
    rw [h3.commons, hfill]
    rfl
  have h4 : s.clearsIdle f s4 := hs4 ▸ h3.trans (s3.clearsIdle_abortWaiters hent3)
  have hsieves := (h4.trans (s4.clearsIdle_clearSieve hf (by decide : 0 < 2))).trans
    ((s4.clearSieve f 0).clearsIdle_clearSieve hf (by decide : 1 < 2))
  have hs5 : s5 = (s4.clearSieve f 0).clearSieve f 1 :=
    State.cairnRollback_of_none _ (by rw [hsieves.cairn]; exact hidle.job)
  have h3host : s3.host = s2.host := State.host_fieldUnits h2 hidle (List.Subset.refl _)
  have h2host : s2.host = s1.host := State.host_dropLaunches hlaunch1
  refine ⟨s5, ?_, rfl⟩
  clear_value s5 s4 s3 s2 s1
  have h5host : s5.host = s4.host := by
    rw [hs5]
    rfl
  rw [h5host, hs4, State.host_abortWaiters hent3, h3host, h2host, hs1]
  rfl

/-- The clear of a quiet field answers no host. -/
theorem State.host_fieldClear_of_quiet {f : Nat} (hf : f < 80) (h : s.quietField f = true) :
    (s.fieldClear f).host = s.host := by
  obtain ⟨v, hv, hclear⟩ := State.fieldClear_wiped_of_quiet hf h
  rw [hclear]
  exact hv

/-- Nothing waits for the restore: no request, held access, reset, doorbell or held addition. -/
structure State.nothingHeld (s : State) : Prop where
  reqs : s.commons.reqs = []
  held : s.host.held = []
  waiting : s.resets.waiting = []
  doorbells : s.seq.doorbells = []
  adds : s.tallies.heldAdds = []

/-- What the reset of a field and its end leave, for the restore of other fields. -/
structure State.fieldRestored (s t : State) : Prop where
  stat : t.getF RF.BIS_STAT_STATE 0 0 = s.getF RF.BIS_STAT_STATE 0 0
  held : s.nothingHeld → t.nothingHeld
  quiet : s.nothingHeld → ∀ g, s.quietField g = true → t.quietField g = true

theorem State.fieldRestored.trans (h : s.fieldRestored t) (k : t.fieldRestored u) : s.fieldRestored u where
  stat := k.stat.trans h.stat
  held e := k.held (h.held e)
  quiet e g hg := k.quiet (h.held e) g (h.quiet e g hg)

theorem State.fieldRestored_fieldReset {f : Nat} (hf : f < 80) (hquiet : s.quietField f = true) :
    s.fieldRestored (s.fieldReset f) := by
  by_cases hin : s.inService f = true
  · have hclear : (s.holdField f).fieldCleared f ((s.holdField f).fieldClear f) := State.fieldCleared_fieldClear hf hquiet
    have hhost : ((s.holdField f).fieldClear f).host = s.host := State.host_fieldClear_of_quiet hf hquiet
    have hheld : s.nothingHeld → ((s.holdField f).fieldClear f).nothingHeld := by
      rintro ⟨hreqs, hheld, hwait, hbells, hadds⟩
      have hseq := hclear.seq
      obtain ⟨v, hidle, hv⟩ := State.fieldClear_of_quiet (s := s.holdField f) hf hquiet
      rw [hv] at hhost hseq ⊢
      refine ⟨?_, by rw [hhost, hheld], ?_, by rw [hseq]; exact hbells, ?_⟩
      · show v.commons.reqs = _
        rw [hidle.commons]
        exact hreqs
      · show v.resets.waiting = _
        rw [hidle.resets]
        exact hwait
      · show v.tallies.heldAdds = _
        rw [hidle.tallies]
        exact hadds
    rw [s.fieldReset_of_inService hin]
    refine ⟨?_, hheld, fun _ => hclear.quiet⟩
    unfold State.getF
    rw [State.rd_rkey _ RF.BIS_STAT_STATE.reg 0 0, hclear.rd, if_pos (fieldResetKeeps_of_page (q := .BIS) rfl (by decide)),
      ← State.rd_rkey]
    rfl
  · have hsame : s.fieldReset f = s := if_pos (by simpa [State.inService] using hin)
    rw [hsame]
    exact ⟨rfl, id, fun _ _ => id⟩

theorem State.fills_fieldResetEnd (s : State) (f : Nat) (h : s.tallies.heldAdds = []) :
    (s.fieldResetEnd f).commons.fills = s.commons.fills := by
  have hspare (v : State) : (v.enableSpare f).commons.fills = v.commons.fills := by
    unfold State.enableSpare
    dsimp only
    split <;> rfl
  have hnumber (v : State) : (v.renumberQuerns f).commons.fills = v.commons.fills := by
    have hfold (x : RF) (i : Nat → Nat) (n : Nat → Nat) (l : List Nat) (w : State) :
        (l.foldl (fun (t : State) q => t.setF x (i q) 0 (n q)) w).commons = w.commons := by
      induction l generalizing w with
      | nil => rfl
      | cons q l ih => exact ih _
    unfold State.renumberQuerns
    dsimp only
    rw [hfold, hfold]
  unfold State.fieldResetEnd
  dsimp only
  rw [h]
  exact (hnumber _).trans (hspare _)

theorem State.fieldRestored_fieldResetEnd (s : State) (f : Nat) (h : s.nothingHeld) :
    s.fieldRestored (s.fieldResetEnd f) := by
  obtain ⟨hreqs, hheld, hwait, hbells, hadds⟩ := h
  have hnum := s.renumbered_fieldResetEnd f hadds
  have hfills := s.fills_fieldResetEnd f hadds
  generalize s.fieldResetEnd f = t at hnum hfills
  have htallies : t.tallies = s.tallies := by
    rw [hnum.eq]
    rfl
  refine ⟨(hnum.regs.getF (x := RF.BIS_STAT_STATE) (by decide) 0 0).trans rfl, fun _ => ⟨?_, ?_, ?_, ?_, ?_⟩,
    fun _ g hg => ?_⟩
  · rw [hnum.reqs]
    exact hreqs
  · rw [hnum.eq]
    exact hheld
  · rw [hnum.eq]
    exact hwait
  · rw [hnum.eq]
    exact hbells
  · rw [htallies, hadds]
  have hcrofters : t.crofters = s.crofters := by
    rw [hnum.eq]
    rfl
  have hcairns : t.cairns = s.cairns := by
    rw [hnum.eq]
    rfl
  have hengines : t.engines = s.engines := by
    rw [hnum.eq]
    rfl
  rw [← hg]
  unfold State.quietField State.liveThreads State.thread State.entries State.cairn State.engine
  rw [hcrofters, hcairns, hengines, htallies, hfills]

theorem State.fieldRestored_foldl {l : List Nat} (hheld : s.nothingHeld)
    (h : ∀ g ∈ l, g < 80 ∧ s.quietField g = true) :
    s.fieldRestored (l.foldl (fun (t : State) f => (t.fieldReset f).fieldResetEnd f) s) := by
  induction l generalizing s with
  | nil => exact ⟨rfl, id, fun _ _ => id⟩
  | cons f r ih =>
    obtain ⟨hf, hquiet⟩ := h f (List.mem_cons_self ..)
    have hreset := State.fieldRestored_fieldReset hf hquiet
    have hend := hreset.trans (State.fieldRestored_fieldResetEnd _ f (hreset.held hheld))
    exact hend.trans (ih (hend.held hheld) fun g hg =>
      ⟨(h g (List.mem_cons_of_mem _ hg)).1, hend.quiet hheld g (h g (List.mem_cons_of_mem _ hg)).2⟩)

/-- Steps that change registers, none of them BIS_STAT. -/
structure State.statKept (s t : State) : Prop where
  stat : t.getF RF.BIS_STAT_STATE 0 0 = s.getF RF.BIS_STAT_STATE 0 0
  held : s.nothingHeld → t.nothingHeld

theorem State.statKept_foldl {A : Type} {step : State → A → State} (h : ∀ t a, State.statKept t (step t a)) (l : List A)
    (s : State) : State.statKept s (l.foldl step s) := by
  induction l generalizing s with
  | nil => exact ⟨rfl, id⟩
  | cons a r ih => exact ⟨(ih _).stat.trans (h s a).stat, fun e => (ih _).held ((h s a).held e)⟩

theorem State.stackFollow_eq (s : State) (f : Nat) : s.stackFollow f = { s with regs := (s.stackFollow f).regs } := by
  unfold State.stackFollow
  dsimp only
  split <;> rfl

theorem State.statKept_stacksFollow (s : State) : s.statKept s.stacksFollow :=
  State.statKept_foldl (fun t f =>
    ⟨(t.messageOnly_stackFollow f).regs.getF (x := RF.BIS_STAT_STATE) (by decide) 0 0,
      fun ⟨hreqs, hheld, hwait, hbells, hadds⟩ => by
        rw [t.stackFollow_eq f]
        exact ⟨hreqs, hheld, hwait, hbells, hadds⟩⟩) _ s

theorem State.statKept_linkDetect (s : State) (k : Nat) :
    s.statKept (if s.linkTarget k = 0 then s else s.fromDown k) := by
  have henter : s.statKept (s.enterState k lsDetect) :=
    ⟨s.getF_setF_reg (f := RF.VRN_LNK_STATE_STATE) (g := RF.BIS_STAT_STATE) k 0 0 0 _ (by decide),
      fun ⟨hreqs, hheld, hwait, hbells, hadds⟩ => ⟨hreqs, hheld, hwait, hbells, hadds⟩⟩
  unfold State.fromDown
  split
  · exact ⟨rfl, id⟩
  · split
    · exact henter
    · exact ⟨rfl, id⟩

theorem State.statKept_bistRestore (hstate : s.getF RF.BIS_STAT_STATE 0 0 = 3)
    (hthawed : s.getF RF.ASY_FRZ_STAT_STATE 0 0 = 0) (hhalt : s.halted = false) (hheld : s.nothingHeld)
    (hquiet : ∀ g < 80, s.inService g = true → s.quietField g = true) :
    (s.bistRestore []).getF RF.BIS_STAT_STATE 0 0 = 4 ∧ (s.bistRestore []).nothingHeld := by
  have hfrozen : s.frozen = false := by simp [State.frozen, hthawed]
  have hdone : (s.bistElapsed.setF RF.BIS_STAT_STATE 0 0 4).getF RF.BIS_STAT_STATE 0 0 = 4 :=
    State.getF_setF_fits _ 0 0 (by decide) (by decide)
  have hheld4 : (s.bistElapsed.setF RF.BIS_STAT_STATE 0 0 4).nothingHeld := by
    obtain ⟨hreqs, hheld, hwait, hbells, hadds⟩ := hheld
    exact ⟨hreqs, hheld, hwait, hbells, hadds⟩
  have hfields := State.fieldRestored_foldl (s := s.bistElapsed.setF RF.BIS_STAT_STATE 0 0 4)
    (l := (List.range 80).filter s.inService) hheld4 fun g hg => by
      obtain ⟨hlt, hin⟩ := List.mem_filter.mp hg
      exact ⟨List.mem_range.mp hlt, hquiet g (List.mem_range.mp hlt) hin⟩
  unfold State.bistRestore
  rw [if_neg (by simp [hstate, hfrozen, hthawed, hhalt])]
  dsimp only
  rw [List.filter_nil, List.foldl_nil]
  generalize s.bistElapsed.setF RF.BIS_STAT_STATE 0 0 4 = v at *
  generalize ((List.range 80).filter s.inService).foldl _ v = w at *
  have hlinks := State.statKept_foldl State.statKept_linkDetect (List.range 72) w.stacksFollow
  exact ⟨hlinks.stat.trans (w.statKept_stacksFollow.stat.trans (hfields.stat.trans hdone)),
    hlinks.held (w.statKept_stacksFollow.held (hfields.held hheld4))⟩

/-- Where nothing is held, the release at the end of a restore leaves the registers. -/
theorem State.regs_released (h : s.nothingHeld) :
    (s.applyHelds.releaseDoorbells.startWaiting.releaseAll).regs = s.regs := by
  obtain ⟨hreqs, hheld, hwait, hbells, -⟩ := h
  have happly : s.applyHelds = s.modHost (fun h => { h with held := [] }) := by
    unfold State.applyHelds
    rw [hheld]
    rfl
  have hbell : s.applyHelds.releaseDoorbells =
      { s.applyHelds with seq := { s.applyHelds.seq with doorbells := [] } } := by
    have hnone : s.applyHelds.seq.doorbells = [] := by rw [happly]; exact hbells
    unfold State.releaseDoorbells
    rw [hnone]
    rfl
  have hstart : s.applyHelds.releaseDoorbells.startWaiting =
      { s.applyHelds.releaseDoorbells with resets := { s.applyHelds.releaseDoorbells.resets with waiting := [] } } := by
    have hnone : s.applyHelds.releaseDoorbells.resets.waiting = [] := by
      rw [hbell, happly]
      exact hwait
    unfold State.startWaiting
    rw [hnone]
    rfl
  rw [State.releaseAll, State.releaseHeld_of_none _ _ _ (by rw [hstart, hbell, happly]; exact hreqs), hstart, hbell,
    happly]
  rfl

/-! ### The end of a suite's tests, by its outcomes -/

/-- The registers and the time of a test that ends by an abort (R664). -/
def State.testAborted (s : State) (t : Nat) : State :=
  ((s.setF RF.BIS_RESULTt_CODE 0 t 4).setF RF.BIS_RESULTt_DURATION_US 0 t ((s.now - s.bist.testBegan) / 1000)).setF
    RF.BIS_STAT_STATE 0 0 3

theorem State.fields_testAborted (s : State) (t : Nat) :
    (s.testAborted t).getF RF.BIS_STAT_STATE 0 0 = 3 ∧ (s.testAborted t).getF RF.BIS_RESULTt_CODE 0 t = 4 ∧
      (s.testAborted t).getF RF.BIS_RESULTt_DURATION_US 0 t = (s.now - s.bist.testBegan) / 1000 % 2 ^ 32 := by
  unfold State.testAborted
  refine ⟨State.getF_setF_fits _ 0 0 (by decide) (by decide), ?_, ?_⟩
  · rw [State.getF_setF_reg _ (f := RF.BIS_STAT_STATE) (g := RF.BIS_RESULTt_CODE) _ _ _ _ _ (by decide),
      State.getF_setF_disjoint _ (f := RF.BIS_RESULTt_DURATION_US) (g := RF.BIS_RESULTt_CODE) 0 t _ rfl (by decide)
        (by decide)]
    exact s.getF_setF_fits 0 t (by decide) (by decide)
  · rw [State.getF_setF_reg _ (f := RF.BIS_STAT_STATE) (g := RF.BIS_RESULTt_DURATION_US) _ _ _ _ _ (by decide)]
    exact State.getF_setF_same _ RF.BIS_RESULTt_DURATION_US 0 t _ (by decide)

theorem State.outcomeOnly_testAborted (s : State) (t : Nat) :
    State.outcomeOnly [.BIS_RESULTt, .BIS_STAT] s (s.testAborted t) :=
  ((s.outcomeOnly_setF t 4 (by decide)).trans (State.outcomeOnly_setF _ t _ (by decide))).trans
    (State.outcomeOnly_setF _ 0 3 (by decide))

theorem execBistAbort_running (hopen : s.bistOpen = true) (hstate : s.getF RF.BIS_STAT_STATE 0 0 = 2) :
    exec .bistAbort s = .next ((s.testAborted (s.getF RF.BIS_STAT_TEST 0 0)).bistElapsed) := by
  refine congrArg Host.Outcome.next ?_
  have hstop : s.bistStop = s.testAborted (s.getF RF.BIS_STAT_TEST 0 0) := by
    unfold State.bistStop
    dsimp only
    rw [hstate, if_neg (by decide), if_pos rfl]
    rfl
  rw [hopen, if_pos rfl, State.bistAbort, hstop]

end

/-- Settles O42: GO by its two outcomes, the end of the set-up and of a test through the next test selected, and the
restore of quiet fields. The moment of ABORT and the outcome from the faults detected are the model's by log 175
(DESIGN CHOICE). -/
theorem selfTestSuites : Obligations.SelfTestSuites := by
  unfold Obligations.SelfTestSuites
  refine ⟨?go, ?refused, ?closed, ?abort, ?setup, ?empty, ?clean, ?bump, ?repaired, ?restore, ?waits⟩
  case go =>
    rintro origin suite a b c s ⟨hopen, hbusy, hmay⟩
    have heq := s.bistSelected_eq suite a b c
    obtain ⟨hsuite, hloop, hfix, hext⟩ := s.fields_bistSelected suite a b c
    have hexec := s.bistGo_accepted origin suite a b c hopen hbusy hmay
    rw [State.suiteBegun_eq] at hexec
    generalize s.bistSelected suite a b c = v at *
    have hstat := (v.resetRegs (fun k => bistResults k.reg)).onlyRegs_statBegun origin.val
    have hctl : ((v.resetRegs (fun k => bistResults k.reg)).statBegun origin.val).rd .BIS_CTL 0 0 = v.rd .BIS_CTL 0 0 := by
      rw [hstat .BIS_CTL 0 0 (by decide), State.rd_resetRegs, if_neg (by decide)]
    have hresults := v.rd_results_cleared origin.val
    obtain ⟨hstate, htest, horigin, helapsed⟩ :=
      (v.resetRegs (fun k => bistResults k.reg)).fields_statBegun (origin := origin.val) (by omega)
    have hstatEq : (v.resetRegs (fun k => bistResults k.reg)).statBegun origin.val =
      { v with regs := ((v.resetRegs (fun k => bistResults k.reg)).statBegun origin.val).regs } := rfl
    have hget (x : RF) (hx : x.reg = .BIS_CTL) :
        ((v.resetRegs (fun k => bistResults k.reg)).statBegun origin.val).getF x 0 0 = v.getF x 0 0 := by
      unfold State.getF
      rw [hx, hctl]
    have hnow : v.now = s.now := by rw [heq]
    generalize (v.resetRegs (fun k => bistResults k.reg)).statBegun origin.val = w at *
    refine ⟨_, hexec, ⟨hstate, htest, horigin, helapsed, (hget _ rfl).trans hsuite,
      (congrArg (· == 1) (hget _ rfl)).trans hloop, (congrArg (· == 1) (hget _ rfl)).trans hfix,
      (congrArg (· == 1) (hget _ rfl)).trans hext, by rw [← hnow], hresults⟩, ?_⟩
    rw [hstatEq, heq]
  case refused =>
    rintro origin suite a b c s ⟨hopen, hno⟩
    obtain ⟨t, hexec, heq, hregs⟩ := s.bistGo_refused origin suite a b c hopen hno
    refine ⟨_, hexec, ⟨t.flag_setFlag_same RF.BIS_STAT_CMD_ERR 0 0 true (by decide) rfl, ?_, ?_⟩, ?_⟩
    · exact (t.getF_setF_disjoint (f := RF.BIS_STAT_CMD_ERR) (g := RF.BIS_STAT_STATE) 0 0 _ rfl (by decide)
        (by decide)).trans (hregs.getF (by decide) 0 0)
    · show t.bist = s.bist
      rw [heq]
    · rw [heq]
      rfl
  case closed =>
    intro origin suite a b c s hclosed
    refine ⟨s, congrArg Host.Outcome.next ?_, rfl, rfl⟩
    unfold State.bistWrite
    rw [hclosed]
    rfl
  case abort =>
    rintro t s ⟨hopen, hstate, rfl⟩
    obtain ⟨hst, hcode, htime⟩ := s.fields_testAborted (s.getF RF.BIS_STAT_TEST 0 0)
    have honly := s.outcomeOnly_testAborted (s.getF RF.BIS_STAT_TEST 0 0)
    have hexec := execBistAbort_running hopen hstate
    generalize s.testAborted (s.getF RF.BIS_STAT_TEST 0 0) = u at *
    have helapsed := u.onlyRegs_bistElapsed
    refine ⟨_, hexec, ⟨?_, (helapsed.getF (by decide) _ _).trans hcode, (helapsed.getF (by decide) _ _).trans htime⟩,
      ?_, honly.regs.trans (helapsed.mono (by decide))⟩
    · exact (u.getF_setF_disjoint (f := RF.BIS_STAT_ELAPSED_MS) (g := RF.BIS_STAT_STATE) 0 0 _ rfl (by decide)
        (by decide)).trans hst
    · rw [State.bistElapsed, honly.eq]
      rfl
  case setup =>
    rintro t s ⟨hstate, ht, hfirst⟩
    have hup := s.setUp_elapsed
    have hexec := execBistSetupDone_setup hstate
    generalize (s.stacksRest 80).bistElapsed = u at *
    have hnext : u.nextTest 0 = some t := by
      unfold State.nextTest
      rw [hup.regs.getF (x := RF.BIS_CTL_SUITE) (by decide)]
      simpa using hfirst
    rw [State.testFrom_of_some hnext ht] at hexec
    have hskip := u.skipped_testsSkipped 0 t
    generalize u.testsSkipped 0 t = v at hskip hexec
    have hruns := v.onlyRegs_testRuns t
    obtain ⟨hst, htest⟩ := v.fields_testRuns (i := t) (by omega)
    have hstack (f : Nat) : (v.testRuns t).hbmState f = u.hbmState f :=
      (hruns.getF (x := RF.HBM_ID_STATE) (by decide) f 0).trans (hskip.regs.getF (x := RF.HBM_ID_STATE) (by decide) f 0)
    have hregs : s.onlyRegs [.HBM_ID, .BIS_STAT, .BIS_RESULTt] (v.testRuns t) :=
      (hup.regs.mono (by decide)).trans ((hskip.regs.mono (by decide)).trans (hruns.mono (by decide)))
    have hruneq : v.testRuns t = { v with regs := (v.testRuns t).regs, bist := { v.bist with testBegan := v.now } } := rfl
    generalize v.testRuns t = w at *
    refine ⟨_, hexec, ⟨hst, htest, ?_, fun i hi => ?_, fun f hf => ?_, ?_⟩, ?_, hregs.mono (by decide)⟩
    · rw [hruneq, hskip.eq, hup.eq]
    · rw [hruns.getF (by decide)]
      exact hskip.code i (by omega) (Nat.zero_le i) hi
    · rw [hstack]
      exact hup.state f hf
    · rw [hruneq, hskip.eq, hup.eq]
    · rw [hruneq, hskip.eq, hup.eq]
  case empty =>
    rintro s ⟨hstate, hsuite⟩
    have hup := s.setUp_elapsed
    have hexec := execBistSetupDone_setup hstate
    generalize (s.stacksRest 80).bistElapsed = u at *
    have hnext : u.nextTest 0 = none := State.nextTest_of_none (by
      rw [hup.regs.getF (x := RF.BIS_CTL_SUITE) (by decide), hsuite]
      rfl)
    rw [State.testFrom_of_none hnext] at hexec
    have hskip := u.skipped_testsSkipped 0 4
    generalize u.testsSkipped 0 4 = v at hskip hexec
    have hset : v.onlyRegs [.BIS_STAT] (v.setF RF.BIS_STAT_STATE 0 0 3) := v.onlyRegs_setF 0 0 3 (by decide)
    refine ⟨_, hexec, ⟨v.getF_setF_fits 0 0 (by decide) (by decide), fun i hi => ?_, ?_⟩, ?_, ?_⟩
    · rw [hset.getF (by decide)]
      exact hskip.code i hi (Nat.zero_le i) hi
    · show v.verne = _
      rw [hskip.eq, hup.eq]
    · rw [hskip.eq, hup.eq]
      rfl
    · exact (hup.regs.mono (by decide)).trans ((hskip.regs.mono (by decide)).trans (hset.mono (by decide)))
  case clean =>
    rintro faults t s ⟨hstate, htest, ht, rfl, hreach, hlast⟩
    obtain ⟨u, hout, honly⟩ := State.testOutcome_nil ht hreach
    have hended := State.ended_elapsed honly t (code := 1) (faults := 0) (by decide) (by decide)
    obtain ⟨hend, hst, hskip, hall⟩ := hended.restoring ht (by decide) hlast
    have hexec := execBistTestDone_of_outcome hstate htest hout
    rw [List.foldl_nil, List.length_nil, Nat.min_zero] at hexec
    refine ⟨_, hexec, ⟨hend, hst, hskip, hall.regs .BIS_LOG_HEAD 0 0 (by decide), ?_⟩, ?_⟩
    · rw [hall.eq]
    · rw [hall.eq]
  case bump =>
    rintro faults x s ⟨hstate, htest, rfl, hplace, hsuite⟩
    have hexec := execBistTestDone_of_outcome hstate htest (s.testOutcome_bump x hplace)
    have hlow := (s.wr .BIS_BUMP_FAIL_LO 0 0 (BitVec.ofNat 64 (2 ^ x.place.val))).onlyRegs_setF
      (f := RF.BIS_BUMP_FAIL_HI_BITS) (l := [.BIS_BUMP_FAIL_HI]) 0 0 0 (by decide)
    have hlo := (hlow .BIS_BUMP_FAIL_LO 0 0 (by decide)).trans
      (s.rd_wr_same .BIS_BUMP_FAIL_LO 0 0 (BitVec.ofNat 64 (2 ^ x.place.val)))
    have hhi := (s.wr .BIS_BUMP_FAIL_LO 0 0 (BitVec.ofNat 64 (2 ^ x.place.val))).getF_setF_fits
      (x := RF.BIS_BUMP_FAIL_HI_BITS) (v := 0) 0 0 (by decide) (by decide)
    have honly : State.outcomeOnly [.BIS_BUMP_FAIL_LO, .BIS_BUMP_FAIL_HI, .BIS_LOG_HEAD, .BIS_LOGk] s
        ((s.wr .BIS_BUMP_FAIL_LO 0 0 (BitVec.ofNat 64 (2 ^ x.place.val))).setF RF.BIS_BUMP_FAIL_HI_BITS 0 0 0) :=
      (s.outcomeOnly_wr 0 _ (by decide)).trans (State.outcomeOnly_setF _ 0 0 (by decide))
    generalize (s.wr .BIS_BUMP_FAIL_LO 0 0 (BitVec.ofNat 64 (2 ^ x.place.val))).setF RF.BIS_BUMP_FAIL_HI_BITS 0 0 0 = u
      at *
    have hlog := u.outcomeOnly_logFault 1 (plainFault x false)
    rw [List.foldl_cons, List.foldl_nil, List.length_singleton] at hexec
    generalize u.logFault 1 (plainFault x false) = v at *
    have hended := State.ended_elapsed (honly.trans (hlog.mono (by decide))) 1 (code := 3) (faults := 1) (by decide)
      (by decide)
    have hresult := v.outcomeOnly_resultSet 1 3 1 ((s.now - s.bist.testBegan) / 1000)
    have hnext : s.nextTest 2 = some 2 := by
      unfold State.nextTest
      rw [hsuite]
      rfl
    rw [show min 65535 1 = 1 from rfl] at hexec
    generalize v.resultSet 1 3 1 ((s.now - s.bist.testBegan) / 1000) = w at *
    have helapsed := w.onlyRegs_bistElapsed
    generalize w.bistElapsed = y at *
    obtain ⟨hend, hst, hrun, hbegan, heq, hrest⟩ := hended.continues (by decide) (by decide) hnext (by decide)
    have hkept (r : Reg) (hr : r ∉ [Reg.BIS_LOG_HEAD, .BIS_LOGk, .BIS_RESULTt, .BIS_STAT]) :
        (y.testFrom 2).rd r 0 0 = u.rd r 0 0 := by
      simp only [List.mem_cons, not_or] at hr
      rw [hrest r 0 0 (by simp [hr]), helapsed r 0 0 (by simp [hr]), hresult.regs r 0 0 (by simp [hr]),
        hlog.regs r 0 0 (by simp [hr])]
    refine ⟨_, hexec, ⟨hend, (hkept _ (by decide)).trans hlo, ?_, hst, hrun, hbegan⟩, by rw [heq]⟩
    exact (congrArg (fun v => bits v _ _) (hkept .BIS_BUMP_FAIL_HI (by decide))).trans hhi
  case repaired =>
    rintro faults x s ⟨hstate, htest, rfl, hplace, hkind, hplain, hreach, hsuite⟩
    obtain ⟨u, f, hout, honly⟩ := State.testOutcome_repaired x hplace hkind hplain hreach
    have hexec := execBistTestDone_of_outcome hstate htest hout
    rw [List.foldl_cons, List.foldl_nil, List.length_singleton, show min 65535 1 = 1 from rfl] at hexec
    have hlogged : State.outcomeOnly (.BIS_LOG_HEAD :: .BIS_LOGk :: outcomeRegs) s (u.logFault 0 f) :=
      (honly.mono (by decide)).trans ((u.outcomeOnly_logFault 0 f).mono (by decide))
    have hended := State.ended_elapsed hlogged 0 (code := 2) (faults := 1) (by decide) (by decide)
    obtain ⟨hend, hst, -, hall⟩ := hended.restoring (by decide) (by decide) (by rw [hsuite]; rfl)
    exact ⟨_, hexec, ⟨hend, hst⟩, by rw [hall.eq]⟩
  case restore =>
    rintro failing s ⟨hstate, hthawed, hhalt, rfl, hquiet, hreqs, hheld, hwait, -, hbells, hadds⟩
    obtain ⟨hdone, hkept⟩ := State.statKept_bistRestore hstate hthawed hhalt ⟨hreqs, hheld, hwait, hbells, hadds⟩ hquiet
    have hexec : exec (.bistRestoreDone []) s = .next (if s.bistBusy && !(s.bistRestore []).bistBusy then
        (s.bistRestore []).applyHelds.releaseDoorbells.startWaiting.releaseAll else s.bistRestore []) := rfl
    have hbusy : s.bistBusy = true := by simp [State.bistBusy, hstate]
    have hidle : (s.bistRestore []).bistBusy = false := by simp [State.bistBusy, hdone]
    rw [hbusy, hidle, if_pos (show (true && !false) = true from rfl)] at hexec
    generalize s.bistRestore [] = u at *
    have hrel : (u.applyHelds.releaseDoorbells.startWaiting.releaseAll).getF RF.BIS_STAT_STATE 0 0 = 4 := by
      rw [← hdone]
      exact congrArg (fun r => bits (mapGet RKey.reset (rkey .BIS_STAT 0 0) r) _ _) (State.regs_released hkept)
    refine ⟨_, hexec, hrel, ?_⟩
    unfold State.bistBusy
    rw [hrel]
    rfl
  case waits =>
    rintro failing s hno
    have hsame : s.bistRestore (failing.map (·.val)) = s := if_pos (by tauto)
    have hexec : exec (.bistRestoreDone failing) s = .next (if s.bistBusy && !(s.bistRestore (failing.map (·.val))).bistBusy
        then (s.bistRestore (failing.map (·.val))).applyHelds.releaseDoorbells.startWaiting.releaseAll
        else s.bistRestore (failing.map (·.val))) := rfl
    rw [hsame, Bool.and_not_self] at hexec
    exact ⟨s, hexec, rfl⟩

end Sys2Proof.Machine

/-! The estimator, calibration, droop and the thermal halt (R534–R544), and O35. -/

namespace Sys2Proof.Machine

section
variable {s t u : State}

/-! ### Accounts and charges (R541, R552) -/

/-- What a charge changes: accounts, and the energy of a sheaf; the total grows by `e`. -/
structure State.charged (e : Nat) (s t : State) : Prop where
  eq : t = { s with seq := t.seq, power := { s.power with accounts := t.power.accounts } }
  total : t.power.accounts.look 0 acTotal = s.power.accounts.look 0 acTotal + e

theorem State.charged.trans {d e : Nat} (h : State.charged d s t) (k : State.charged e t u) :
    State.charged (d + e) s u where
  eq := by rw [k.eq, h.eq]
  total := by rw [k.total, h.total, Nat.add_assoc]

theorem State.charged_addAccount (s : State) {a : Nat} (e : Nat) (h : a ≠ acTotal) :
    State.charged 0 s (s.addAccount a e) :=
  ⟨rfl, NMap.look_put_other s.power.accounts 0 (Ne.symm h) _⟩

theorem State.charged_addTotal (s : State) (e : Nat) : State.charged e s (s.addAccount acTotal e) :=
  ⟨rfl, NMap.look_put_same s.power.accounts 0 acTotal _⟩

theorem State.charged_modSheaf (s : State) (n : Nat) (g : Sheaf → Sheaf) : State.charged 0 s (s.modSheaf n g) := ⟨rfl, rfl⟩

theorem State.charged_charge (s : State) {c : Charge} (h : c.account ≠ acTotal) :
    State.charged c.energy s (s.charge c) := by
  have hsum : State.charged c.energy s ((s.addAccount c.account c.energy).addAccount acTotal c.energy) := by
    have htwo := (s.charged_addAccount c.energy h).trans (State.charged_addTotal _ c.energy)
    rwa [Nat.zero_add] at htwo
  have hfield (v : State) :
      State.charged 0 v (if c.field < 80 then v.addAccount (acField c.field) c.energy else v) := by
    split
    · exact v.charged_addAccount _ (by unfold acField acTotal; omega)
    · exact ⟨rfl, rfl⟩
  unfold State.charge
  dsimp only
  cases c.sheaf with
  | some n => exact (hsum.trans (hfield _)).trans (State.charged_modSheaf _ n _)
  | none => exact hsum.trans (hfield _)

theorem State.charged_foldl {l : List Charge} (h : ∀ c ∈ l, c.account ≠ acTotal) (s : State) :
    State.charged (l.map (·.energy)).sum s (l.foldl (fun (t : State) c => t.charge c) s) := by
  induction l generalizing s with
  | nil => exact ⟨rfl, rfl⟩
  | cons c r ih =>
    rw [List.foldl_cons, List.map_cons, List.sum_cons]
    exact (s.charged_charge (h c (List.mem_cons_self ..))).trans
      (ih (fun d hd => h d (List.mem_cons_of_mem _ hd)) _)

theorem acOverhead_ne : acOverhead ≠ acTotal := by decide

theorem acParish_ne (p : Nat) : acParish p ≠ acTotal := by
  unfold acParish acTotal
  omega

theorem State.account_dynCharge (s : State) (k i : Nat) (a : Activity) : (s.dynCharge k i a).account ≠ acTotal := by
  unfold State.dynCharge
  dsimp only
  split
  · exact (by decide : acRecovery ≠ acTotal)
  · split
    · split
      · exact acParish_ne _
      · split
        · exact acParish_ne _
        · exact acOverhead_ne
    · exact acOverhead_ne

theorem State.account_staticCharges (s : State) (k f : Nat) {dyn : List Charge}
    (h : ∀ c ∈ dyn, c.account ≠ acTotal) {c : Charge} (hc : c ∈ s.staticCharges k f dyn) : c.account ≠ acTotal := by
  unfold State.staticCharges at hc
  dsimp only at hc
  split at hc
  · exact absurd hc List.not_mem_nil
  · split at hc
    · rw [List.mem_singleton.mp hc]
      exact acOverhead_ne
    · split at hc
      · obtain ⟨x, hx, rfl⟩ := List.mem_map.mp hc
        have hmem := List.mem_zipIdx' hx
        exact h x.1 (List.mem_filter.mp (hmem.2 ▸ List.getElem_mem _)).1
      · split at hc
        · rw [List.mem_singleton.mp hc]
          exact acParish_ne _
        · rw [List.mem_singleton.mp hc]
          exact acOverhead_ne

/-- No charge of an interval is made to the total itself, which grows by each. -/
theorem State.account_intervalCharges (s : State) (acts : List Activity) {c : Charge} (hc : c ∈ s.intervalCharges acts) :
    c.account ≠ acTotal := by
  unfold State.intervalCharges at hc
  extract_lets live dyn at hc
  have hdyn (d : Charge) (hd : d ∈ dyn) : d.account ≠ acTotal := by
    obtain ⟨x, -, rfl⟩ := List.mem_map.mp hd
    exact s.account_dynCharge s.serial x.2 x.1
  rw [List.mem_append, List.mem_append, List.mem_flatMap] at hc
  obtain (hd | ⟨f, -, hf⟩) | ho := hc
  · exact hdyn c hd
  · split at hf
    · exact s.account_staticCharges _ f hdyn hf
    · exact absurd hf List.not_mem_nil
  · rw [List.mem_singleton.mp ho]
    exact acOverhead_ne

/-! ### What the estimator shows -/

/-- Steps of the estimator: registers of a list, messages, and the record of power but for accounts and droops. -/
structure State.estOnly (l : List Reg) (s t : State) : Prop where
  eq : t = { s with regs := t.regs, host := t.host, power := t.power, out := t.out }
  accounts : t.power.accounts = s.power.accounts
  stretched : t.power.stretched = s.power.stretched
  regs : s.onlyRegs l t

theorem State.estOnly_refl (l : List Reg) (s : State) : State.estOnly l s s := ⟨rfl, rfl, rfl, s.onlyRegs_refl l⟩

theorem State.estOnly.trans {l : List Reg} (h : State.estOnly l s t) (k : State.estOnly l t u) : State.estOnly l s u where
  eq := by rw [k.eq, h.eq]
  accounts := k.accounts.trans h.accounts
  stretched := k.stretched.trans h.stretched
  regs := h.regs.trans k.regs

theorem State.estOnly.mono {l m : List Reg} (h : State.estOnly l s t) (sub : l ⊆ m) : State.estOnly m s t :=
  ⟨h.eq, h.accounts, h.stretched, h.regs.mono sub⟩

theorem State.estOnly_setF {l : List Reg} (s : State) {x : RF} (i n v : Nat) (h : x.reg ∈ l) :
    State.estOnly l s (s.setF x i n v) := ⟨rfl, rfl, rfl, s.onlyRegs_setF i n v h⟩

theorem State.estOnly_wr {l : List Reg} (s : State) {r : Reg} (i n : Nat) (v : Word) (h : r ∈ l) :
    State.estOnly l s (s.wr r i n v) := ⟨rfl, rfl, rfl, s.onlyRegs_wr i n v h⟩

theorem State.estOnly_estLog (l : List Reg) (s : State) (log : List Nat) :
    State.estOnly l s (s.modPower fun p => { p with estLog := log }) := ⟨rfl, rfl, rfl, s.onlyRegs_refl l⟩

theorem State.messageOnly.estOnly {l : List Reg} (h : State.messageOnly l s t) : State.estOnly l s t where
  eq := by rw [h.eq]
  accounts := by rw [h.eq]
  stretched := by rw [h.eq]
  regs := h.regs

theorem State.estOnly_foldl {l : List Reg} {A : Type} {step : State → A → State}
    (h : ∀ t a, State.estOnly l t (step t a)) (as : List A) (s : State) : State.estOnly l s (as.foldl step s) := by
  induction as generalizing s with
  | nil => exact s.estOnly_refl l
  | cons a r ih => exact (h s a).trans (ih _)

/-- Registers that show accounts. -/
def accountRegs : List Reg :=
  [.PWR_ENERGY_RECOVERY, .PWR_ENERGY_OVERHEAD, .PWR_ENERGY_TOTAL, .PWR_PARn_ENERGY, .PWR_FLD_ENERGY]

theorem State.estOnly_showAccounts (s : State) : State.estOnly accountRegs s s.showAccounts ∧
    s.showAccounts.rd .PWR_ENERGY_TOTAL 0 0 = BitVec.ofNat 64 (s.power.accounts.look 0 acTotal / 100000) := by
  unfold State.showAccounts
  extract_lets uj s1 s2
  have h0 : State.estOnly accountRegs s s1 :=
    ((s.estOnly_wr 0 0 _ (by decide)).trans (State.estOnly_wr _ 0 0 _ (by decide))).trans
      (State.estOnly_wr _ 0 0 _ (by decide))
  have h1 : s1.rd .PWR_ENERGY_TOTAL 0 0 = uj acTotal := State.rd_wr_same ..
  have h2 : State.estOnly [.PWR_PARn_ENERGY] s1 s2 :=
    State.estOnly_foldl (fun t p => t.estOnly_wr 0 p _ (by decide)) _ _
  have h3 : State.estOnly [.PWR_FLD_ENERGY] s2
      ((List.range 80).foldl (fun (t : State) f => t.wr .PWR_FLD_ENERGY f 0 (uj (acField f))) s2) :=
    State.estOnly_foldl (fun t f => t.estOnly_wr f 0 _ (by decide)) _ _
  refine ⟨h0.trans ((h2.mono (by decide)).trans (h3.mono (by decide))), ?_⟩
  rw [h3.regs _ 0 0 (by decide), h2.regs _ 0 0 (by decide), h1]

/-- The registers of a rise of PWR_EVENT. -/
def powerEventRegs : List Reg := [.PWR_EVENT, .HST_PORT_MSIX_DROP, .HST_PORT_EVENT]

theorem State.estOnly_noteUnmet (s : State) (key : Nat) (bad : Bool) :
    State.estOnly powerEventRegs s (s.noteUnmet key bad) := by
  unfold State.noteUnmet
  extract_lets n s1
  have h1 : State.estOnly powerEventRegs s s1 := ⟨rfl, rfl, rfl, s.onlyRegs_refl _⟩
  split
  · exact h1.trans (s1.messageOnly_raise RF.PWR_EVENT_CAP_UNMET 0).estOnly
  · exact h1

theorem State.estOnly_parishGate (s : State) (p e : Nat) :
    State.estOnly (.PWR_PARn_CAP :: powerEventRegs) s (s.parishGate p e) :=
  (s.estOnly_setF 0 p _ (by decide)).trans ((State.estOnly_noteUnmet _ _ _).mono (by decide))

theorem State.estOnly_fieldGates (s : State) : State.estOnly [.PWR_FLD_STAT] s s.fieldGates :=
  State.estOnly_foldl (fun t f => t.estOnly_setF f 0 _ (by decide)) _ s

theorem State.estOnly_waferGate (s : State) (e : Nat) :
    State.estOnly (.PWR_GATE :: powerEventRegs) s (s.waferGate e) :=
  (s.estOnly_setF 0 0 _ (by decide)).trans ((State.estOnly_noteUnmet _ _ _).mono (by decide))

/-- The wafer gate after an interval of energy `e` (R536). -/
def State.gateAfter (s : State) (e : Nat) : Nat :=
  nextGate (s.getF RF.PWR_GATE_GATE 0 0)
    (s.flag RF.PWR_CAP_CTL_ENABLE 0 0 && decide (s.getF RF.PWR_CAP_WAFER_CAP 0 0 * 200000 < e))
    (!s.flag RF.PWR_CAP_CTL_ENABLE 0 0 || s.capBelow e (s.getF RF.PWR_CAP_WAFER_CAP 0 0))
    (!s.power.stretched.isEmpty)

theorem State.gate_waferGate (s : State) (e : Nat) :
    (s.waferGate e).getF RF.PWR_GATE_GATE 0 0 = s.gateAfter e % 2 ^ RF.PWR_GATE_GATE.w := by
  unfold State.waferGate
  extract_lets d on w above d1
  rw [(State.estOnly_noteUnmet _ _ _).regs.getF (x := RF.PWR_GATE_GATE) (by decide)]
  exact s.getF_setF_same RF.PWR_GATE_GATE 0 0 _ (by decide)

theorem State.gateAfter_estLog (s : State) (log : List Nat) (e : Nat) :
    (s.modPower fun p => { p with estLog := log }).gateAfter e = s.gateAfter e := rfl

theorem State.gateAfter_of_shown {l : List Reg} (h : s.onlyRegs l t) (hs : t.power.stretched = s.power.stretched)
    (hgate : Reg.PWR_GATE ∉ l) (hctl : Reg.PWR_CAP_CTL ∉ l) (hcap : Reg.PWR_CAP_WAFER ∉ l) (e : Nat) :
    t.gateAfter e = s.gateAfter e := by
  unfold State.gateAfter State.capBelow
  rw [h.getF (x := RF.PWR_GATE_GATE) hgate, h.getF (x := RF.PWR_CAP_WAFER_CAP) hcap,
    h.flag (x := RF.PWR_CAP_CTL_ENABLE) hctl, h.getF (x := RF.PWR_CAP_CTL_HYST) hctl, hs]

/-! ### The end of an interval (R534, R536) -/

/-- The fields in service of `s` show their estimates. -/
def State.fieldEstimates (s : State) (k : Nat) (all : List Charge) (t : State) : State :=
  (List.range 80).foldl (fun (t : State) f =>
    if s.inService f then
      (t.setF RF.PWR_FLD_EST_LAST f 0 (min 4095 (roundOpen k (4 * f + 3)
        ((all.filter (fun c => decide (c.field = f))).map (·.energy)).sum 200000))).setF RF.PWR_FLD_EST_STATIC f 0
          (s.getF RF.PWR_FLD_GAIN_STATIC f 0)
    else t) t

theorem State.estOnly_fieldEstimates (s t : State) (k : Nat) (all : List Charge) :
    State.estOnly [.PWR_FLD_EST] t (s.fieldEstimates k all t) :=
  State.estOnly_foldl (fun t f => by
    split
    · exact (t.estOnly_setF f 0 _ (by decide)).trans (State.estOnly_setF _ f 0 _ (by decide))
    · exact t.estOnly_refl _) _ _

/-- The wafer shows its estimate `w` and the mean of its last estimates. -/
def State.waferEstimate (t : State) (w mean : Nat) : State :=
  (t.setF RF.PWR_EST_LAST 0 0 w).setF RF.PWR_EST_MEAN 0 0 mean

theorem State.estOnly_waferEstimate (t : State) (w mean : Nat) : State.estOnly [.PWR_EST] t (t.waferEstimate w mean) :=
  (t.estOnly_setF 0 0 w (by decide)).trans (State.estOnly_setF _ 0 0 mean (by decide))

theorem State.last_waferEstimate (t : State) {w : Nat} (mean : Nat) (hw : w < 65536) :
    (t.waferEstimate w mean).getF RF.PWR_EST_LAST 0 0 = w :=
  ((t.setF RF.PWR_EST_LAST 0 0 w).getF_setF_disjoint (f := RF.PWR_EST_MEAN) (g := RF.PWR_EST_LAST) 0 0 mean rfl
    (by decide) (by decide)).trans (t.getF_setF_fits 0 0 hw (by decide))

/-- The gates after an interval with the charges `all`. -/
def State.gatesSet (t : State) (all : List Charge) (log : List Nat) : State :=
  ((List.range 32).foldl (fun (t : State) p =>
      t.parishGate p ((all.filter (fun c => decide (c.account = acParish p))).map (·.energy)).sum)
    ((t.modPower (fun p => { p with estLog := log })).waferGate (all.map (·.energy)).sum)).fieldGates

/-- Registers of the gates. -/
def gateRegs : List Reg := [.PWR_GATE, .PWR_PARn_CAP, .PWR_FLD_STAT]

theorem State.estOnly_gatesSet (t : State) (all : List Charge) (log : List Nat) :
    State.estOnly (powerEventRegs ++ gateRegs) t (t.gatesSet all log) ∧
      (t.gatesSet all log).getF RF.PWR_GATE_GATE 0 0 = t.gateAfter (all.map (·.energy)).sum % 2 ^ RF.PWR_GATE_GATE.w := by
  unfold State.gatesSet
  have hlog := t.estOnly_estLog [] log
  have hlater := t.gateAfter_estLog log (all.map (·.energy)).sum
  generalize t.modPower (fun p => { p with estLog := log }) = v at *
  have hwafer := v.estOnly_waferGate (all.map (·.energy)).sum
  have hgate := v.gate_waferGate (all.map (·.energy)).sum
  generalize v.waferGate (all.map (·.energy)).sum = w at *
  have hparish : State.estOnly (.PWR_PARn_CAP :: powerEventRegs) w ((List.range 32).foldl (fun (t : State) p =>
      t.parishGate p ((all.filter (fun c => decide (c.account = acParish p))).map (·.energy)).sum) w) :=
    State.estOnly_foldl (fun t p => t.estOnly_parishGate p _) _ _
  generalize (List.range 32).foldl _ w = x at *
  have hfields := x.estOnly_fieldGates
  refine ⟨(hlog.mono (by decide)).trans ((hwafer.mono (by decide)).trans ((hparish.mono (by decide)).trans
    (hfields.mono (by decide)))), ?_⟩
  rw [hfields.regs.getF (by decide), hparish.regs.getF (by decide), hgate, hlater]

/-- Droops that have ended are no longer held. -/
def State.droopsKept (t : State) : State :=
  t.modPower (fun p => { p with stretched := p.stretched.filter (fun f => t.flag RF.PWR_FLD_STAT_STRETCHING f 0) })

theorem State.rd_droopsKept (t : State) (r : Reg) (i n : Nat) : t.droopsKept.rd r i n = t.rd r i n := t.modPower_rd ..

theorem State.getF_droopsKept (t : State) (x : RF) (i n : Nat) : t.droopsKept.getF x i n = t.getF x i n :=
  t.modPower_getF ..

theorem State.accounts_droopsKept (t : State) : t.droopsKept.power.accounts = t.power.accounts := rfl

/-- What the end of an interval may change. -/
structure State.intervalFrame (s t : State) : Prop where
  eq : t = { s with
    serial := t.serial, regs := t.regs, seq := t.seq, host := t.host, power := t.power, out := t.out }

theorem State.intervalFrame_droopsKept (h : s.intervalFrame t) : s.intervalFrame t.droopsKept := by
  refine ⟨?_⟩
  show ({ t with power := t.droopsKept.power } : State) = { s with
    serial := t.serial, regs := t.regs, seq := t.seq, host := t.host, power := t.droopsKept.power, out := t.out }
  generalize t.droopsKept.power = p
  rw [h.eq]

theorem State.estOnly.intervalFrame {l : List Reg} (h : s.intervalFrame t) (k : State.estOnly l t u) :
    s.intervalFrame u :=
  ⟨by rw [k.eq, h.eq]⟩

theorem State.charged.intervalFrame {e : Nat} (h : State.charged e s.fresh.2 t) : s.intervalFrame t :=
  ⟨by
    rw [h.eq]
    rfl⟩

/-- The estimates kept, of the last 50000 intervals. -/
def State.estimatesKept (s : State) (w : Nat) : List Nat :=
  (s.power.estLog ++ [w]).drop (s.power.estLog.length + 1 - 50000)

theorem execEstimatorInterval_eq (acts : List Activity) (hfrz : s.frozen = false) (hready : s.boot.stage = .ready)
    (hasleep : s.power.asleep = false) : ∃ w mean, w = min 65535 (roundOpen s.serial 0
        ((s.intervalCharges acts).map (·.energy)).sum 200000) ∧
      exec (.estimatorInterval acts) s = .next ((((s.fieldEstimates s.serial (s.intervalCharges acts)
        ((s.intervalCharges acts).foldl (fun (t : State) c => t.charge c) s.fresh.2).showAccounts).waferEstimate w
          mean).gatesSet (s.intervalCharges acts) (s.estimatesKept w)).droopsKept) := by
  have hgo : (s.frozen || decide (s.boot.stage ≠ .ready) || s.power.asleep) = false := by
    rw [hfrz, hready, hasleep]
    rfl
  have hexec : exec (.estimatorInterval acts) s = execEstimatorInterval acts s := rfl
  unfold execEstimatorInterval at hexec
  rw [hgo, if_neg (by decide)] at hexec
  exact ⟨_, _, rfl, hexec⟩

theorem execEstimatorInterval_shown (acts : List Activity) {e : Nat} (hfrz : s.frozen = false)
    (hready : s.boot.stage = .ready) (hasleep : s.power.asleep = false)
    (he : e = ((s.intervalCharges acts).map (·.energy)).sum) : ∃ s', exec (.estimatorInterval acts) s = .next s' ∧
      (s'.getF RF.PWR_EST_LAST 0 0 = min 65535 (roundOpen s.serial 0 e 200000) ∧
        s'.power.accounts.look 0 acTotal = s.power.accounts.look 0 acTotal + e ∧
        s'.rd .PWR_ENERGY_TOTAL 0 0 = BitVec.ofNat 64 (s'.power.accounts.look 0 acTotal / 100000) ∧
        s'.getF RF.PWR_GATE_GATE 0 0 = s.gateAfter e % 2 ^ RF.PWR_GATE_GATE.w) ∧
      s' = { s with
          serial := s'.serial, regs := s'.regs, seq := s'.seq, host := s'.host, power := s'.power,
          out := s'.out } ∧
      s.onlyRegs (accountRegs ++ powerEventRegs ++ [.PWR_FLD_EST, .PWR_EST, .PWR_GATE, .PWR_PARn_CAP, .PWR_FLD_STAT])
        s' := by
  obtain ⟨w, mean, hw, hexec⟩ := execEstimatorInterval_eq acts hfrz hready hasleep
  have hcharged : State.charged e s.fresh.2 ((s.intervalCharges acts).foldl (fun (t : State) c => t.charge c)
      s.fresh.2) :=
    he ▸ State.charged_foldl (fun c hc => s.account_intervalCharges acts hc) _
  rw [← he] at hw
  generalize s.intervalCharges acts = all at *
  generalize all.foldl (fun (t : State) c => t.charge c) s.fresh.2 = s0 at *
  obtain ⟨hshow, hshown⟩ := s0.estOnly_showAccounts
  generalize s0.showAccounts = s1 at *
  have hfields := s.estOnly_fieldEstimates s1 s.serial all
  generalize s.fieldEstimates s.serial all s1 = s2 at *
  have hwafer := s2.estOnly_waferEstimate w mean
  have hlast := s2.last_waferEstimate mean (w := w) (by omega)
  generalize s2.waferEstimate w mean = s3 at *
  obtain ⟨hgates, hgate⟩ := s3.estOnly_gatesSet all (s.estimatesKept w)
  generalize s3.gatesSet all (s.estimatesKept w) = s4 at *
  have hest : State.estOnly [.PWR_FLD_EST, .PWR_EST] s1 s3 := (hfields.mono (by decide)).trans (hwafer.mono (by decide))
  have hfrom : s.onlyRegs (accountRegs ++ [.PWR_FLD_EST, .PWR_EST]) s3 := by
    have hbase : s.onlyRegs [] s0 := by
      rw [hcharged.eq]
      exact s.onlyRegs_refl _
    exact (hbase.mono (by decide)).trans ((hshow.regs.mono (by decide)).trans (hest.regs.mono (by decide)))
  have hstretched : s3.power.stretched = s.power.stretched := by
    rw [hest.stretched, hshow.stretched, hcharged.eq]
    rfl
  have haccounts : s4.power.accounts = s0.power.accounts := by
    rw [hgates.accounts, hest.accounts, hshow.accounts]
  refine ⟨_, hexec, ⟨?_, ?_, ?_, ?_⟩, ?_, ?_⟩
  · rw [s4.getF_droopsKept, hgates.regs.getF (by decide), hlast, hw]
  · rw [s4.accounts_droopsKept, haccounts, hcharged.total]
    rfl
  · rw [s4.rd_droopsKept, s4.accounts_droopsKept, hgates.regs _ 0 0 (by decide), hest.regs _ 0 0 (by decide), hshown, haccounts]
  · rw [s4.getF_droopsKept, hgate, ← he, State.gateAfter_of_shown hfrom hstretched (by decide) (by decide) (by decide)]
  · exact (State.intervalFrame_droopsKept
      (hgates.intervalFrame (hest.intervalFrame (hshow.intervalFrame hcharged.intervalFrame)))).eq
  · intro r i n hr
    rw [s4.rd_droopsKept]
    exact (hfrom.mono (by decide)).trans (hgates.regs.mono (by decide)) r i n hr

/-! ### Calibration and droop (R535, R539) -/

theorem State.estOnly_raise (s : State) {x : RF} (i : Nat) (h : x.reg = .PWR_EVENT) :
    State.estOnly powerEventRegs s (s.raise x i) := by
  have hraise := (s.messageOnly_raise x i).estOnly
  rw [h] at hraise
  exact hraise

/-- A fit of gains and static terms over the fields from a number of its own (R535). -/
theorem State.estOnly_fitted {step : State → Nat → State} (h : ∀ t f, step t f = t ∨
      (∃ g e, step t f = (t.setF RF.PWR_FLD_GAIN_GAIN f 0 g).setF RF.PWR_FLD_GAIN_STATIC f 0 e) ∨
      step t f = t.raise RF.PWR_EVENT_CAL_FAULT 0) (s : State) :
    State.estOnly (.PWR_FLD_GAIN :: powerEventRegs) s ((List.range 80).foldl step s) :=
  State.estOnly_foldl (fun t f => by
    obtain hsame | ⟨g, e, hfit⟩ | hfault := h t f
    · rw [hsame]
      exact t.estOnly_refl _
    · rw [hfit]
      exact (t.estOnly_setF f 0 g (by decide)).trans (State.estOnly_setF _ f 0 e (by decide))
    · rw [hfault]
      exact (t.estOnly_raise 0 rfl).mono (by decide)) _ s

/-- The state of a calibration that counts (R535). -/
def State.calibrated (s : State) (watts : Nat) : State :=
  ((s.setFlag RF.PWR_CAL_CALIBRATED 0 0 true).setF RF.PWR_CAL_MEASURED 0 0 watts).addWrap RF.PWR_CAL_COUNT 0 0 1

theorem State.fields_calibrated (s : State) {watts : Nat} (hw : watts < 65536) :
    (s.calibrated watts).flag RF.PWR_CAL_CALIBRATED 0 0 = true ∧
      (s.calibrated watts).getF RF.PWR_CAL_MEASURED 0 0 = watts ∧
      (s.calibrated watts).getF RF.PWR_CAL_COUNT 0 0 = wrapAdd RF.PWR_CAL_COUNT.w (s.getF RF.PWR_CAL_COUNT 0 0) 1 := by
  unfold State.calibrated
  refine ⟨?_, ?_, ?_⟩
  · have h1 := ((s.setFlag RF.PWR_CAL_CALIBRATED 0 0 true).setF RF.PWR_CAL_MEASURED 0 0 watts).getF_setF_disjoint
      (f := RF.PWR_CAL_COUNT) (g := RF.PWR_CAL_CALIBRATED) 0 0 (wrapAdd RF.PWR_CAL_COUNT.w
        (((s.setFlag RF.PWR_CAL_CALIBRATED 0 0 true).setF RF.PWR_CAL_MEASURED 0 0 watts).getF RF.PWR_CAL_COUNT 0 0) 1)
      rfl (by decide) (by decide)
    have h2 := (s.setFlag RF.PWR_CAL_CALIBRATED 0 0 true).getF_setF_disjoint (f := RF.PWR_CAL_MEASURED)
      (g := RF.PWR_CAL_CALIBRATED) 0 0 watts rfl (by decide) (by decide)
    exact (congrArg (· == 1) (h1.trans h2)).trans
      (s.flag_setFlag_same RF.PWR_CAL_CALIBRATED 0 0 true (by decide) rfl)
  · exact (State.getF_setF_disjoint _ (f := RF.PWR_CAL_COUNT) (g := RF.PWR_CAL_MEASURED) 0 0 _ rfl (by decide)
      (by decide)).trans (State.getF_setF_fits _ 0 0 hw (by decide))
  · rw [State.getF_addWrap_same _ _ _ _ _ (by decide),
      State.getF_setF_disjoint _ (f := RF.PWR_CAL_MEASURED) (g := RF.PWR_CAL_COUNT) 0 0 _ rfl (by decide) (by decide)]
    exact congrArg (wrapAdd RF.PWR_CAL_COUNT.w · 1) (s.getF_setF_disjoint (f := RF.PWR_CAL_CALIBRATED)
      (g := RF.PWR_CAL_COUNT) 0 0 _ rfl (by decide) (by decide))

theorem State.estOnly_calibrated (s : State) (watts : Nat) : State.estOnly [.PWR_CAL] s (s.calibrated watts) :=
  ((s.estOnly_setF (x := RF.PWR_CAL_CALIBRATED) 0 0 _ (by decide)).trans
    (State.estOnly_setF _ (x := RF.PWR_CAL_MEASURED) 0 0 watts (by decide))).trans
    (State.estOnly_setF _ (x := RF.PWR_CAL_COUNT) 0 0 _ (by decide))

theorem execCalibrationPeriod_counted (watts : BitVec 16) (hready : s.boot.stage = .ready)
    (hasleep : s.power.asleep = false) (hclean : (s.power.calDirty || s.frozen || s.halted) = false) :
    ∃ t, exec (.calibrationPeriod watts) s = .next (t.calibrated watts.toNat) ∧
      State.estOnly (.PWR_FLD_GAIN :: powerEventRegs) s.fresh.2 t := by
  have hexec : exec (.calibrationPeriod watts) s = execCalibrationPeriod watts s := rfl
  unfold execCalibrationPeriod at hexec
  rw [if_neg (by simp [hready, hasleep]), hclean, if_neg (by decide)] at hexec
  exact ⟨_, hexec, State.estOnly_fitted (fun t f => by
    dsimp only
    split
    · exact .inl rfl
    · split
      · exact .inr (.inl ⟨_, _, rfl⟩)
      · exact .inr (.inr rfl)) _⟩

/-! ### Thermal halt (R543, R544) -/

theorem State.regs_bistStop (s : State) :
    s.bistStop = { s with regs := s.bistStop.regs } ∧ s.onlyRegs [.BIS_STAT, .BIS_RESULTt] s.bistStop := by
  unfold State.bistStop
  extract_lets st t
  split
  · exact ⟨rfl, s.onlyRegs_setF 0 0 3 (by decide)⟩
  · split
    · exact ⟨rfl, ((s.onlyRegs_setF (f := RF.BIS_RESULTt_CODE) 0 t 4 (by decide)).trans
        (State.onlyRegs_setF _ (f := RF.BIS_RESULTt_DURATION_US) 0 t _ (by decide))).trans
        (State.onlyRegs_setF _ (f := RF.BIS_STAT_STATE) 0 0 3 (by decide))⟩
    · exact ⟨rfl, s.onlyRegs_refl _⟩

/-- The sensor of a trip is recorded. -/
def State.tripped (s : State) (field kind : Nat) : State :=
  ((s.setFlag RF.PWR_THERM_CTL_TRIPPED 0 0 true).setF RF.PWR_THERM_CTL_SENSOR_FIELD 0 0 field).setF
    RF.PWR_THERM_CTL_SENSOR_KIND 0 0 kind

theorem State.fields_tripped (s : State) {field kind : Nat} (hf : field < 128) (hk : kind < 4) :
    (s.tripped field kind).flag RF.PWR_THERM_CTL_TRIPPED 0 0 = true ∧
      (s.tripped field kind).getF RF.PWR_THERM_CTL_SENSOR_FIELD 0 0 = field ∧
      (s.tripped field kind).getF RF.PWR_THERM_CTL_SENSOR_KIND 0 0 = kind := by
  unfold State.tripped
  refine ⟨?_, ?_, State.getF_setF_fits _ 0 0 hk (by decide)⟩
  · have h1 := ((s.setFlag RF.PWR_THERM_CTL_TRIPPED 0 0 true).setF RF.PWR_THERM_CTL_SENSOR_FIELD 0 0
      field).getF_setF_disjoint (f := RF.PWR_THERM_CTL_SENSOR_KIND) (g := RF.PWR_THERM_CTL_TRIPPED) 0 0 kind rfl
      (by decide) (by decide)
    have h2 := (s.setFlag RF.PWR_THERM_CTL_TRIPPED 0 0 true).getF_setF_disjoint (f := RF.PWR_THERM_CTL_SENSOR_FIELD)
      (g := RF.PWR_THERM_CTL_TRIPPED) 0 0 field rfl (by decide) (by decide)
    exact (congrArg (· == 1) (h1.trans h2)).trans
      (s.flag_setFlag_same RF.PWR_THERM_CTL_TRIPPED 0 0 true (by decide) rfl)
  · exact (State.getF_setF_disjoint _ (f := RF.PWR_THERM_CTL_SENSOR_KIND) (g := RF.PWR_THERM_CTL_SENSOR_FIELD) 0 0 _ rfl
      (by decide) (by decide)).trans (State.getF_setF_fits _ 0 0 hf (by decide))

theorem State.onlyRegs_tripped (s : State) (field kind : Nat) : s.onlyRegs [.PWR_THERM_CTL] (s.tripped field kind) :=
  ((s.onlyRegs_setF (f := RF.PWR_THERM_CTL_TRIPPED) 0 0 _ (by decide)).trans
    (State.onlyRegs_setF _ (f := RF.PWR_THERM_CTL_SENSOR_FIELD) 0 0 _ (by decide))).trans
    (State.onlyRegs_setF _ (f := RF.PWR_THERM_CTL_SENSOR_KIND) 0 0 _ (by decide))

/-- The wafer halts at a time. -/
def State.haltAt (s : State) (now : Nat) : State :=
  (s.setFlag RF.PWR_MOD_STAT_HALTED 0 0 true).modPower (fun p => { p with haltedAt := now, calDirty := true })

theorem execThermalTrip_halts (kind : Fin 3) (field : BitVec 7) (hhalt : s.halted = false)
    (hready : s.boot.stage = .ready) : exec (.thermalTrip kind field) s =
      .next ((((s.tripped field.toNat kind.val).haltAt s.now).bistStop).raise RF.PWR_EVENT_THERM_TRIP 0) := by
  show execThermalTrip kind field s = _
  unfold execThermalTrip
  rw [if_neg (by simp [hhalt, hready])]
  dsimp only
  rw [if_neg (by simp [hready])]
  rfl

theorem execThermalTrip_booting (kind : Fin 3) (field : BitVec 7) (hhalt : s.halted = false)
    (hstage : s.boot.stage = .hbm) : exec (.thermalTrip kind field) s =
      .next ((s.tripped field.toNat kind.val).waferFault 3) := by
  show execThermalTrip kind field s = _
  unfold execThermalTrip
  rw [if_neg (by simp [hhalt, hstage])]
  dsimp only
  rw [if_pos (by simp [hstage])]
  rfl

/-- The record of a wafer fault during bring-up (R728). -/
def State.faultShown (s : State) (cause : Nat) : State :=
  ((s.setF (bootF 0 4) 0 0 15).setFlag (bootF 5 1) 0 0 true).setF (bootF 6 4) 0 0 cause

theorem State.fields_faultShown (s : State) {cause : Nat} (hc : cause < 16) :
    (s.faultShown cause).getF (bootF 0 4) 0 0 = 15 ∧ (s.faultShown cause).flag (bootF 5 1) 0 0 = true ∧
      (s.faultShown cause).getF (bootF 6 4) 0 0 = cause := by
  unfold State.faultShown
  refine ⟨?_, ?_, State.getF_setF_fits _ 0 0 hc (by decide)⟩
  · exact ((State.getF_setF_disjoint _ (f := bootF 6 4) (g := bootF 0 4) 0 0 cause rfl (by decide) (by decide)).trans
      (State.getF_setF_disjoint _ (f := bootF 5 1) (g := bootF 0 4) 0 0 _ rfl (by decide) (by decide))).trans
      (s.getF_setF_fits 0 0 (by decide) (by decide))
  · exact (congrArg (· == 1) (State.getF_setF_disjoint _ (f := bootF 6 4) (g := bootF 5 1) 0 0 cause rfl (by decide)
      (by decide))).trans (State.flag_setFlag_same _ (bootF 5 1) 0 0 true (by decide) rfl)

theorem State.onlyRegs_faultShown (s : State) (cause : Nat) : s.onlyRegs [.WFR_BOOT_STATUS] (s.faultShown cause) :=
  ((s.onlyRegs_setF (f := bootF 0 4) 0 0 15 (by decide)).trans
    (State.onlyRegs_setF _ (f := bootF 5 1) 0 0 _ (by decide))).trans
    (State.onlyRegs_setF _ (f := bootF 6 4) 0 0 cause (by decide))

theorem State.waferFault_booting (s : State) (cause : Nat) (h : s.boot.stage = .hbm) :
    s.waferFault cause = s.bootHalted.faultShown cause := by
  unfold State.waferFault
  rw [if_neg (by simp [h])]
  rfl

/-- What the end of a halt shows. -/
theorem State.endHalt_of_halted (h : s.halted = true) (hbells : s.seq.doorbells = []) (hwait : s.resets.waiting = []) :
    ∃ t, s.endHalt = t ∧ t.regs = ((s.setFlag RF.PWR_MOD_STAT_HALTED 0 0 false).setFlag RF.PWR_THERM_CTL_TRIPPED 0 0
      false).regs := by
  refine ⟨_, rfl, ?_⟩
  unfold State.endHalt
  rw [h, if_neg (by decide)]
  extract_lets s1 s2
  have hs2 : s2.regs = s1.regs := rfl
  have hb : s2.seq.doorbells = [] := hbells
  have hw : s2.resets.waiting = [] := hwait
  clear_value s2
  split
  · exact hs2
  · rw [State.startWaiting, State.releaseDoorbells, hb, List.foldl_nil]
    dsimp only
    rw [hw]
    exact hs2

end

/-- Settles O35: the charges of an interval by their accounts, none of them the total; the fit of a calibration is free.
PWR_ENERGY_TOTAL as the account's integer part is log 140, and its rounding log 23 (both DESIGN CHOICE). -/
theorem energyDroopAndHeat : Obligations.EnergyDroopAndHeat := by
  unfold Obligations.EnergyDroopAndHeat
  refine ⟨?interval, ?calibration, ?droop, ?release, ?window, ?warn, ?trip, ?tripBoot, ?resume⟩
  case interval =>
    rintro acts e s ⟨hfrz, hready, hasleep, he⟩
    obtain ⟨s', hexec, hshown, hframe, hregs⟩ := execEstimatorInterval_shown acts hfrz hready hasleep he
    exact ⟨s', hexec, hshown, hframe, hregs.mono (by decide)⟩
  case calibration =>
    intro watts s
    by_cases hrun : s.boot.stage = .ready ∧ s.power.asleep = false
    · obtain ⟨hready, hasleep⟩ := hrun
      cases hdirty : (s.power.calDirty || s.frozen || s.halted) with
      | true =>
        have hexec : exec (.calibrationPeriod watts) s = .next (s.modPower (fun p => { p with calDirty := false })) := by
          show execCalibrationPeriod watts s = _
          unfold execCalibrationPeriod
          rw [if_neg (by simp [hready, hasleep]), hdirty, if_pos rfl]
        exact ⟨_, hexec, ⟨fun _ _ _ => ⟨rfl, rfl⟩, fun _ _ h => absurd h (by decide)⟩, rfl, s.onlyRegs_refl _⟩
      | false =>
        obtain ⟨t, hexec, hfit⟩ := execCalibrationPeriod_counted watts hready hasleep hdirty
        have hcal := t.estOnly_calibrated watts.toNat
        obtain ⟨hflag, hmeasured, hcount⟩ := t.fields_calibrated watts.isLt
        have hsame : s.onlyRegs [] s.fresh.2 := s.onlyRegs_refl _
        have hcountf : t.getF RF.PWR_CAL_COUNT 0 0 = s.getF RF.PWR_CAL_COUNT 0 0 :=
          (hfit.regs.getF (x := RF.PWR_CAL_COUNT) (by decide) 0 0).trans rfl
        generalize t.calibrated watts.toNat = u at *
        refine ⟨u, hexec, ⟨fun _ _ h => absurd h (by decide), fun _ _ _ => ⟨hflag, hmeasured, by rw [hcount, hcountf]⟩⟩, ?_,
          (hsame.mono (by decide)).trans ((hfit.regs.mono (by decide)).trans (hcal.regs.mono (by decide)))⟩
        rw [hcal.eq, hfit.eq]
        rfl
    · have hexec : exec (.calibrationPeriod watts) s = .next s := by
        show execCalibrationPeriod watts s = _
        unfold execCalibrationPeriod
        rw [if_pos (by cases hp : s.power.asleep <;> simp_all)]
      exact ⟨s, hexec, ⟨fun h1 h2 => absurd ⟨h1, h2⟩ hrun, fun h1 h2 => absurd ⟨h1, h2⟩ hrun⟩, rfl, s.onlyRegs_refl _⟩
  case droop =>
    rintro f s ⟨hin, hflag⟩
    have hexec : exec (.droopDetect f) s = .next (((s.setFlag RF.PWR_FLD_STAT_STRETCHING f.val 0 true).addSat
        RF.PWR_FLD_DROOP_COUNT f.val 0 1).modPower (fun p => { p with stretched := setInsert f.val p.stretched })) := by
      show execDroopDetect f s = _
      unfold execDroopDetect
      rw [hin, hflag]
      rfl
    refine ⟨_, hexec, ⟨?_, contains_setInsert_self .., ?_⟩, rfl,
      (s.onlyRegs_setFlag (f := RF.PWR_FLD_STAT_STRETCHING) f.val 0 true (by decide)).trans
        (State.onlyRegs_setF _ (f := RF.PWR_FLD_DROOP_COUNT) f.val 0 _ (by decide))⟩
    · exact (congrArg (· == 1) ((s.setFlag RF.PWR_FLD_STAT_STRETCHING f.val 0 true).getF_setF_reg
        (f := RF.PWR_FLD_DROOP_COUNT) (g := RF.PWR_FLD_STAT_STRETCHING) f.val 0 f.val 0 _ (by decide))).trans
        (s.flag_setFlag_same RF.PWR_FLD_STAT_STRETCHING f.val 0 true (by decide) rfl)
    · refine (State.getF_addSat_min _ RF.PWR_FLD_DROOP_COUNT f.val 0 1 (by decide)).trans ?_
      rw [(s.onlyRegs_setFlag (l := [.PWR_FLD_STAT]) (f := RF.PWR_FLD_STAT_STRETCHING) f.val 0 true (by decide)).getF
        (by decide)]
  case release =>
    intro f cycles s hflag
    have hexec : exec (.droopRelease f cycles) s = .next ((s.setFlag RF.PWR_FLD_STAT_STRETCHING f.val 0 false).addWrap
        RF.PWR_FLD_STRETCH_COUNT f.val 0 cycles) := by
      show execDroopRelease f cycles s = _
      unfold execDroopRelease
      rw [hflag]
      rfl
    refine ⟨_, hexec, ⟨?_, ?_⟩, rfl,
      (s.onlyRegs_setFlag (f := RF.PWR_FLD_STAT_STRETCHING) f.val 0 false (by decide)).trans
        (State.onlyRegs_addWrap _ (f := RF.PWR_FLD_STRETCH_COUNT) f.val 0 cycles (by decide))⟩
    · exact (congrArg (· == 1) ((s.setFlag RF.PWR_FLD_STAT_STRETCHING f.val 0 false).getF_setF_reg
        (f := RF.PWR_FLD_STRETCH_COUNT) (g := RF.PWR_FLD_STAT_STRETCHING) f.val 0 f.val 0 _ (by decide))).trans
        (s.flag_setFlag_same RF.PWR_FLD_STAT_STRETCHING f.val 0 false (by decide) rfl)
    · rw [State.getF_addWrap_same _ _ _ _ _ (by decide),
        (s.onlyRegs_setFlag (l := [.PWR_FLD_STAT]) (f := RF.PWR_FLD_STAT_STRETCHING) f.val 0 false (by decide)).getF
          (by decide)]
  case window =>
    intro f cycles s
    by_cases hmany : s.getF RF.PWR_FLD_DROOP_THRESH_THRESH f.val 0 < cycles
    · have hraise := s.messageOnly_raise RF.PWR_EVENT_DROOP 0
      refine ⟨_, if_pos hmany, ⟨fun _ => s.flag_raise_same 0 (by decide) (by decide) rfl,
        fun h => absurd hmany (Nat.not_lt.mpr h)⟩, ?_, hraise.regs.mono (by decide)⟩
      exact hraise.eq
    · exact ⟨s, if_neg hmany, ⟨fun h => absurd h hmany, fun _ => rfl⟩, rfl, s.onlyRegs_refl _⟩
  case warn =>
    intro f celsius s
    by_cases hwarm : s.getF RF.PWR_THERM_CTL_WARN 0 0 ≤ celsius.toNat ∧ s.boot.stage ≠ .off
    · have hraise := s.messageOnly_raise RF.PWR_EVENT_THERM_WARN 0
      refine ⟨_, if_pos hwarm, ⟨fun _ _ => s.flag_raise_same 0 (by decide) (by decide) rfl, fun h => ?_⟩, hraise.eq,
        hraise.regs.mono (by decide)⟩
      obtain hlow | hoff := h
      · exact absurd hwarm.1 (Nat.not_le.mpr hlow)
      · exact absurd hoff hwarm.2
    · exact ⟨s, if_neg hwarm, ⟨fun h1 h2 => absurd ⟨h1, h2⟩ hwarm, fun _ => rfl⟩, rfl, s.onlyRegs_refl _⟩
  case trip =>
    rintro kind field s ⟨hhalt, hready⟩
    have hexec := execThermalTrip_halts kind field hhalt hready
    obtain ⟨htrip, hfield, hkind⟩ := s.fields_tripped (field := field.toNat) (kind := kind.val) field.isLt (by omega)
    have heq : s.tripped field.toNat kind.val = { s with regs := (s.tripped field.toNat kind.val).regs } := rfl
    generalize s.tripped field.toNat kind.val = t at *
    have hflag : (t.haltAt s.now).flag RF.PWR_MOD_STAT_HALTED 0 0 = true :=
      t.flag_setFlag_same RF.PWR_MOD_STAT_HALTED 0 0 true (by decide) rfl
    have hhalted : t.onlyRegs [.PWR_MOD_STAT] (t.haltAt s.now) :=
      t.onlyRegs_setFlag (f := RF.PWR_MOD_STAT_HALTED) 0 0 true (by decide)
    have hheq : t.haltAt s.now = { t with
        regs := (t.haltAt s.now).regs
        power := { t.power with haltedAt := s.now, calDirty := true } } := rfl
    generalize t.haltAt s.now = u at *
    obtain ⟨hseq, hstop⟩ := u.regs_bistStop
    generalize u.bistStop = v at *
    have hraise := v.messageOnly_raise RF.PWR_EVENT_THERM_TRIP 0
    have hevent := v.flag_raise_same (x := RF.PWR_EVENT_THERM_TRIP) 0 (by decide) (by decide) rfl
    generalize v.raise RF.PWR_EVENT_THERM_TRIP 0 = w at *
    have hlater : t.onlyRegs [.PWR_MOD_STAT, .BIS_STAT, .BIS_RESULTt, .PWR_EVENT, .HST_PORT_MSIX_DROP, .HST_PORT_EVENT]
        w := (hhalted.mono (by decide)).trans ((hstop.mono (by decide)).trans (hraise.regs.mono (by decide)))
    refine ⟨w, hexec, ⟨?_, (hlater.flag (by decide) 0 0).trans htrip, (hlater.getF (by decide) 0 0).trans hfield,
      (hlater.getF (by decide) 0 0).trans hkind, hevent, ?_⟩, ?_⟩
    · exact ((hraise.regs.flag (x := RF.PWR_MOD_STAT_HALTED) (by decide) 0 0).trans
        (hstop.flag (x := RF.PWR_MOD_STAT_HALTED) (by decide) 0 0)).trans hflag
    · rw [hraise.eq, hseq, hheq]
    · rw [hraise.eq, hseq, hheq, heq]
  case tripBoot =>
    rintro kind field s ⟨hhalt, hstage⟩
    have hexec := execThermalTrip_booting kind field hhalt hstage
    obtain ⟨htrip, -, -⟩ := s.fields_tripped (field := field.toNat) (kind := kind.val) field.isLt (by omega)
    have heq : s.tripped field.toNat kind.val = { s with regs := (s.tripped field.toNat kind.val).regs } := rfl
    generalize s.tripped field.toNat kind.val = t at *
    rw [t.waferFault_booting 3 (by rw [heq]; exact hstage)] at hexec
    obtain ⟨hstate, hfault, hcause⟩ := t.bootHalted.fields_faultShown (cause := 3) (by decide)
    have honly := t.bootHalted.onlyRegs_faultShown 3
    have hfeq : t.bootHalted.faultShown 3 = { t.bootHalted with regs := (t.bootHalted.faultShown 3).regs } := rfl
    generalize t.bootHalted.faultShown 3 = u at *
    refine ⟨u, hexec, ⟨?_, hstate, hfault, hcause, (honly.flag (by decide) 0 0).trans htrip⟩, ?_⟩
    · rw [hfeq]
      rfl
    · rw [hfeq, heq]
      rfl
  case resume =>
    rintro cool s ⟨hhalt, hbells, hwait⟩
    cases cool with
    | true =>
      have hexec : exec (.thermResume true) s = .next s.endHalt := by
        refine congrArg Host.Outcome.next ?_
        unfold State.thermResume
        rw [hhalt]
        rfl
      obtain ⟨t, ht, hregs⟩ := State.endHalt_of_halted hhalt hbells hwait
      rw [ht] at hexec
      have hget (x : RF) : t.flag x 0 0 = ((s.setFlag RF.PWR_MOD_STAT_HALTED 0 0 false).setFlag
          RF.PWR_THERM_CTL_TRIPPED 0 0 false).flag x 0 0 :=
        congrArg (fun r => bits (mapGet RKey.reset (rkey x.reg 0 0) r) x.lo x.w == 1) hregs
      refine ⟨t, hexec, fun _ => ⟨(hget RF.PWR_MOD_STAT_HALTED).trans ?_, (hget RF.PWR_THERM_CTL_TRIPPED).trans ?_⟩,
        fun h => absurd h (by decide)⟩
      · exact (State.flag_setFlag_reg _ 0 0 0 0 false (by decide)).trans
          (s.flag_setFlag_same RF.PWR_MOD_STAT_HALTED 0 0 false (by decide) rfl)
      · exact State.flag_setFlag_same _ RF.PWR_THERM_CTL_TRIPPED 0 0 false (by decide) rfl
    | false =>
      have hexec : exec (.thermResume false) s =
          .next ((s.setFlag RF.PWR_MOD_STAT_CMD_ERR 0 0 true).raise RF.PWR_EVENT_MODE_DONE 0) := by
        refine congrArg Host.Outcome.next ?_
        unfold State.thermResume
        rw [hhalt]
        rfl
      have hraise := (s.setFlag RF.PWR_MOD_STAT_CMD_ERR 0 0 true).messageOnly_raise RF.PWR_EVENT_MODE_DONE 0
      refine ⟨_, hexec, fun h => absurd h (by decide), fun _ => ⟨?_, ?_, ?_⟩⟩
      · exact (hraise.regs.flag (x := RF.PWR_MOD_STAT_HALTED) (by decide) 0 0).trans
          ((s.flag_setFlag_disjoint (f := RF.PWR_MOD_STAT_CMD_ERR) (g := RF.PWR_MOD_STAT_HALTED) 0 0 true rfl (by decide)
            (by decide)).trans hhalt)
      · exact (hraise.regs.flag (x := RF.PWR_MOD_STAT_CMD_ERR) (by decide) 0 0).trans
          (s.flag_setFlag_same RF.PWR_MOD_STAT_CMD_ERR 0 0 true (by decide) rfl)
      · exact State.flag_raise_same _ 0 (by decide) (by decide) rfl

end Sys2Proof.Machine

/-! Module power commands, drains, wake and the end of a transition (R522–R529, R545), and O34. -/

namespace Sys2Proof.Machine

section
variable {s t u : State}

/-! ### A module command taken or refused (R522, R523) -/

/-- The path of a module command is recorded. -/
def State.sourced (s : State) (src : Nat) : State := s.setF RF.PWR_MOD_STAT_SOURCE 0 0 src

/-- A transition starts: the state shown, the target, and its start. -/
def State.moduleGoes (s : State) (st target now : Nat) : State :=
  (s.setF RF.PWR_MOD_STAT_STATE 0 0 st).modPower (fun p => { p with
    target := some target, since := now, calDirty := true })

theorem State.modGoes_iff {st target : Nat} : s.modGoes t st target = true ↔
    t.modState = st ∧ t.power.target = some target ∧ t.power.since = s.now := by
  simp only [State.modGoes, Bool.and_eq_true, decide_eq_true_eq, and_assoc]

theorem State.modRefused_iff : s.modRefused t = true ↔ t.flag RF.PWR_MOD_STAT_CMD_ERR 0 0 = true ∧
    t.flag RF.PWR_EVENT_MODE_DONE 0 0 = true ∧ t.modState = s.modState ∧ t.power = s.power := by
  simp only [State.modRefused, Bool.and_eq_true, decide_eq_true_eq, and_assoc]

theorem State.modState_moduleGoes (s : State) {st : Nat} (target now : Nat) (h : st < 8) :
    (s.moduleGoes st target now).modState = st :=
  (State.modPower_getF ..).trans (s.getF_setF_fits 0 0 h (by decide))

theorem State.source_moduleGoes (s : State) (st target now : Nat) :
    (s.moduleGoes st target now).getF RF.PWR_MOD_STAT_SOURCE 0 0 = s.getF RF.PWR_MOD_STAT_SOURCE 0 0 :=
  (State.modPower_getF ..).trans (s.getF_setF_disjoint (f := RF.PWR_MOD_STAT_STATE) (g := RF.PWR_MOD_STAT_SOURCE) 0 0 st
    rfl (by decide) (by decide))

theorem State.powerOnly_moduleGoes (s : State) (st target now : Nat) :
    State.powerOnly [.PWR_MOD_STAT] s (s.moduleGoes st target now) :=
  (s.powerOnly_setF 0 0 st (by decide)).trans (State.powerOnly_modPower _ _ _)

theorem State.modState_sourced (s : State) (src : Nat) : (s.sourced src).modState = s.modState :=
  s.getF_setF_disjoint (f := RF.PWR_MOD_STAT_SOURCE) (g := RF.PWR_MOD_STAT_STATE) 0 0 src rfl (by decide) (by decide)

theorem State.source_sourced (s : State) {src : Nat} (h : src < 4) :
    (s.sourced src).getF RF.PWR_MOD_STAT_SOURCE 0 0 = src :=
  s.getF_setF_fits 0 0 h (by decide)

theorem State.powerOnly_sourced (s : State) (src : Nat) : State.powerOnly [.PWR_MOD_STAT] s (s.sourced src) :=
  s.powerOnly_setF 0 0 src (by decide)

/-- The registers of a refused module command. -/
def pwrErrRegs : List Reg := .PWR_MOD_STAT :: .PWR_EVENT :: dropRegs

theorem State.messageOnly_pwrErr (s : State) : State.messageOnly pwrErrRegs s s.pwrErr :=
  (s.messageOnly_setFlag 0 0 true (by decide)).trans ((State.messageOnly_raise _ _ _).mono (by decide))

theorem State.flags_pwrErr (s : State) : s.pwrErr.flag RF.PWR_MOD_STAT_CMD_ERR 0 0 = true ∧
    s.pwrErr.flag RF.PWR_EVENT_MODE_DONE 0 0 = true :=
  ⟨((State.messageOnly_raise _ _ _).regs.flag (by decide) 0 0).trans
      (s.flag_setFlag_same RF.PWR_MOD_STAT_CMD_ERR 0 0 true (by decide) rfl),
    State.flag_raise_same _ 0 (by decide) (by decide) rfl⟩

theorem State.getF_pwrErr (s : State) {x : RF} (hx : x.reg = .PWR_MOD_STAT) (hw : x.lo + x.w ≤ 64)
    (hd : x.lo + x.w ≤ 4 ∨ 5 ≤ x.lo) : s.pwrErr.getF x 0 0 = s.getF x 0 0 :=
  ((State.messageOnly_raise _ _ _).regs.getF (by rw [hx]; decide) 0 0).trans
    (s.getF_setF_disjoint (f := RF.PWR_MOD_STAT_CMD_ERR) 0 0 _ hx hw hd)

theorem State.modRefused_pwrErr (h : t.modState = s.modState) (hp : t.power = s.power) :
    s.modRefused t.pwrErr = true := by
  obtain ⟨herr, hdone⟩ := t.flags_pwrErr
  exact State.modRefused_iff.mpr ⟨herr, hdone, (t.getF_pwrErr rfl (by decide) (by decide)).trans h,
    t.messageOnly_pwrErr.power.trans hp⟩

theorem State.modReady_iff : s.modReady = true ↔ s.boot.stage = .ready ∧ s.halted = false ∧ s.pBusy = false := by
  simp only [State.modReady, Bool.and_eq_true, decide_eq_true_eq, Bool.not_eq_true', and_assoc]

/-! ### The commands by state and target (R522–R526) -/

/-- The transitions that the module may start, standby apart (R522). -/
def modulePath (m target : Nat) : Option Nat :=
  match m, target with
  | 0, 1 => some 3
  | 1, 0 => some 4
  | 2, 0 => some 4
  | 2, 1 => some 4
  | _, _ => none

theorem State.modCommandNow_refused {target src : Nat} (h : s.boot.stage ≠ .ready ∨ s.halted = true) :
    s.modCommandNow target src = (s.sourced src).pwrErr :=
  if_pos h

theorem State.modCommandNow_none {target src : Nat} (h : modulePath s.modState target = none)
    (h2 : ¬ (s.modState = 1 ∧ target = 2)) : s.modCommandNow target src = (s.sourced src).pwrErr := by
  unfold State.modCommandNow
  dsimp only
  split
  · rfl
  · generalize s.modState = m at *
    match m, target with
    | 0, 1 => exact absurd h (by decide)
    | 1, 0 => exact absurd h (by decide)
    | 2, 0 => exact absurd h (by decide)
    | 2, 1 => exact absurd h (by decide)
    | 1, 2 => exact absurd ⟨rfl, rfl⟩ h2
    | 0, 0 => rfl
    | 0, k + 2 => rfl
    | 1, 1 => rfl
    | 1, k + 3 => rfl
    | 2, k + 2 => rfl
    | m + 3, k => rfl

theorem State.not_refused (h : s.modReady = true) : ¬ (s.boot.stage ≠ .ready ∨ s.halted = true) := by
  obtain ⟨hstage, hhalt, -⟩ := State.modReady_iff.mp h
  simp [hstage, hhalt]

/-- A return to a higher state starts at once. -/
theorem State.modCommandNow_up {target src : Nat} (hgo : ¬ (s.boot.stage ≠ .ready ∨ s.halted = true))
    (h : modulePath s.modState target = some 4) :
    s.modCommandNow target src = (s.sourced src).moduleGoes 4 target s.now := by
  unfold State.modCommandNow
  dsimp only
  rw [if_neg hgo]
  generalize s.modState = m at *
  match m, target with
  | 1, 0 => rfl
  | 2, 0 => rfl
  | 2, 1 => rfl
  | 0, 1 => exact absurd h (by decide)
  | 0, 0 => exact absurd h (by decide)
  | 0, k + 2 => exact absurd h (by simp [modulePath])
  | 1, k + 1 => exact absurd h (by simp [modulePath])
  | 2, k + 2 => exact absurd h (by simp [modulePath])
  | m + 3, k => exact absurd h (by simp [modulePath])

theorem State.modCommandNow_drowsy {src : Nat} (hgo : ¬ (s.boot.stage ≠ .ready ∨ s.halted = true))
    (h : s.modState = 0) : s.modCommandNow 1 src = (s.sourced src).saveFields.moduleGoes 3 1 s.now := by
  unfold State.modCommandNow
  dsimp only
  rw [if_neg hgo, h]
  rfl

theorem State.modCommandNow_standby {src : Nat} (hgo : ¬ (s.boot.stage ≠ .ready ∨ s.halted = true))
    (h : s.modState = 1) : s.modCommandNow 2 src =
      if s.seq.sheaves.isEmpty then ((s.sourced src).moduleGoes 3 2 s.now).sleepNow else (s.sourced src).pwrErr := by
  unfold State.modCommandNow
  dsimp only
  rw [if_neg hgo, h]
  rfl

/-! ### TARGET, and commands that wait (R545) -/

/-- TARGET is written. -/
def State.targeted (s : State) (target : Nat) : State := s.setF RF.PWR_MOD_CTL_TARGET 0 0 target

theorem State.powerOnly_targeted (s : State) (target : Nat) : State.powerOnly [.PWR_MOD_CTL] s (s.targeted target) :=
  s.powerOnly_setF 0 0 target (by decide)

theorem State.modState_targeted (s : State) (target : Nat) : (s.targeted target).modState = s.modState :=
  (s.powerOnly_targeted target).regs.getF (x := RF.PWR_MOD_STAT_STATE) (by decide) 0 0

theorem State.refused_targeted (s : State) (target : Nat) :
    ((s.targeted target).boot.stage ≠ .ready ∨ (s.targeted target).halted = true) ↔
      (s.boot.stage ≠ .ready ∨ s.halted = true) := by
  have hhalt : (s.targeted target).halted = s.halted :=
    (s.powerOnly_targeted target).regs.flag (x := RF.PWR_MOD_STAT_HALTED) (by decide) 0 0
  rw [hhalt]
  exact Iff.rfl

theorem State.modCommand_busy (h : s.pBusy = true) (target src : Nat) : s.modCommand target src =
    (s.targeted target).modPower (fun p => { p with waiting := p.waiting ++ [(target, src)] }) := by
  unfold State.modCommand
  rw [h]
  rfl

theorem State.modCommand_now (h : s.pBusy = false) (target src : Nat) :
    s.modCommand target src = (s.targeted target).modCommandNow target src := by
  unfold State.modCommand
  rw [h]
  rfl

/-- What every module command leaves: TARGET, and its source where it does not wait. -/
structure State.commanded (s : State) (target src : Nat) (t : State) : Prop where
  written : t.getF RF.PWR_MOD_CTL_TARGET 0 0 = target
  waits : s.pBusy = true → t.power.waiting = s.power.waiting ++ [(target, src)] ∧ t.modState = s.modState
  source : s.pBusy = false → t.getF RF.PWR_MOD_STAT_SOURCE 0 0 = src

theorem State.commanded_busy (h : s.pBusy = true) {target : Nat} (ht : target < 4) (src : Nat) :
    s.commanded target src (s.modCommand target src) := by
  rw [State.modCommand_busy h]
  refine ⟨(State.modPower_getF ..).trans (s.getF_setF_fits 0 0 ht (by decide)), fun _ => ⟨rfl, ?_⟩,
    fun h0 => absurd (h.symm.trans h0) (by decide)⟩
  exact (State.modPower_getF ..).trans (s.modState_targeted target)

theorem State.commanded_refused (h : s.pBusy = false) {target src : Nat} (ht : target < 4) (hsrc : src < 4)
    (hno : (s.targeted target).modCommandNow target src = ((s.targeted target).sourced src).pwrErr) :
    s.commanded target src (s.modCommand target src) ∧ s.modRefused (s.modCommand target src) = true := by
  have hsrcd := (s.targeted target).powerOnly_sourced src
  have hsource := (s.targeted target).source_sourced hsrc
  have hstate := ((s.targeted target).modState_sourced src).trans (s.modState_targeted target)
  have hpower : ((s.targeted target).sourced src).power = s.power := rfl
  have htarget : (s.targeted target).getF RF.PWR_MOD_CTL_TARGET 0 0 = target := s.getF_setF_fits 0 0 ht (by decide)
  rw [State.modCommand_now h, hno]
  generalize s.targeted target = v at *
  generalize v.sourced src = w at *
  refine ⟨⟨?_, fun h1 => absurd (h.symm.trans h1) (by decide), fun _ =>
    (w.getF_pwrErr rfl (by decide) (by decide)).trans hsource⟩, State.modRefused_pwrErr hstate hpower⟩
  exact (w.messageOnly_pwrErr.regs.getF (by decide) 0 0).trans ((hsrcd.regs.getF (by decide) 0 0).trans htarget)

theorem State.commanded_goes (h : s.pBusy = false) {target src st : Nat} (ht : target < 4) (hsrc : src < 4)
    (hst : st < 8) (hu : State.powerOnly [] ((s.targeted target).sourced src) u)
    (hgo : (s.targeted target).modCommandNow target src = u.moduleGoes st target s.now) :
    s.commanded target src (s.modCommand target src) ∧ s.modGoes (s.modCommand target src) st target = true := by
  have hsrcd := (s.targeted target).powerOnly_sourced src
  have hsource := (s.targeted target).source_sourced hsrc
  have htarget : (s.targeted target).getF RF.PWR_MOD_CTL_TARGET 0 0 = target := s.getF_setF_fits 0 0 ht (by decide)
  rw [State.modCommand_now h, hgo]
  refine ⟨⟨?_, fun h1 => absurd (h.symm.trans h1) (by decide), fun _ => ?_⟩,
    State.modGoes_iff.mpr ⟨u.modState_moduleGoes target s.now hst, rfl, rfl⟩⟩
  · exact ((u.powerOnly_moduleGoes st target s.now).regs.getF (by decide) 0 0).trans
      ((hu.regs.getF (by decide) 0 0).trans ((hsrcd.regs.getF (by decide) 0 0).trans htarget))
  · exact (u.source_moduleGoes st target s.now).trans ((hu.regs.getF (by decide) 0 0).trans hsource)

theorem State.commanded_up {target src : Nat} (hready : s.modReady = true) (ht : target < 4) (hsrc : src < 4)
    (h : modulePath s.modState target = some 4) :
    s.commanded target src (s.modCommand target src) ∧ s.modGoes (s.modCommand target src) 4 target = true :=
  State.commanded_goes (State.modReady_iff.mp hready).2.2 ht hsrc (by decide)
    ⟨rfl, ((s.targeted target).sourced src).onlyRegs_refl []⟩
    (State.modCommandNow_up (fun hno => State.not_refused hready ((s.refused_targeted target).mp hno))
      (by rw [s.modState_targeted]; exact h))

theorem State.look_saveFields (s : State) {f : Nat} (hf : f < 80) :
    s.saveFields.power.fldBefore.look 0 f = s.fieldPower f :=
  (NMap.look_foldl_put (fun f => s.fieldPower f) 0 (List.range 80) [] f).trans (if_pos (List.mem_range.mpr hf))

theorem State.commanded_drowsy {src : Nat} (hready : s.modReady = true) (hsrc : src < 4) (h : s.modState = 0) :
    s.commanded 1 src (s.modCommand 1 src) ∧ s.modGoes (s.modCommand 1 src) 3 1 = true ∧
      ∀ f < 80, (s.modCommand 1 src).power.fldBefore.look 0 f = s.fieldPower f := by
  have hidle := (State.modReady_iff.mp hready).2.2
  have hgo := State.modCommandNow_drowsy (s := s.targeted 1) (src := src)
    (fun hno => State.not_refused hready ((s.refused_targeted 1).mp hno)) (by rw [s.modState_targeted]; exact h)
  obtain ⟨hcmd, hgoes⟩ := State.commanded_goes (u := ((s.targeted 1).sourced src).saveFields) hidle (by decide) hsrc
    (by decide) ⟨rfl, ((s.targeted 1).sourced src).onlyRegs_refl []⟩ hgo
  refine ⟨hcmd, hgoes, fun f hf => ?_⟩
  have hsaved := ((s.targeted 1).sourced src).look_saveFields hf
  have hpower : ((s.targeted 1).sourced src).fieldPower f = s.fieldPower f :=
    (((s.targeted 1).powerOnly_sourced src).regs.getF (x := RF.PWR_FLD_STAT_STATE) (by decide) f 0).trans
      ((s.powerOnly_targeted 1).regs.getF (x := RF.PWR_FLD_STAT_STATE) (by decide) f 0)
  rw [State.modCommand_now hidle, hgo]
  exact hsaved.trans hpower

/-- A command that the state or the table refuses. -/
theorem State.commanded_no {target src : Nat} (h : s.pBusy = false) (ht : target < 4) (hsrc : src < 4)
    (hno : s.modReady = false ∨ (modulePath s.modState target = none ∧ ¬ (s.modState = 1 ∧ target = 2))) :
    s.commanded target src (s.modCommand target src) ∧ s.modRefused (s.modCommand target src) = true := by
  refine State.commanded_refused h ht hsrc ?_
  by_cases hrefused : s.boot.stage ≠ .ready ∨ s.halted = true
  · exact State.modCommandNow_refused ((s.refused_targeted target).mpr hrefused)
  · obtain hready | ⟨hpath, hstandby⟩ := hno
    · have hyes : s.modReady = true := State.modReady_iff.mpr (by
        obtain ⟨hstage, hhalt⟩ := not_or.mp hrefused
        exact ⟨not_not.mp hstage, Bool.not_eq_true _ ▸ hhalt, h⟩)
      exact absurd (hready.symm.trans hyes) (by decide)
    · exact State.modCommandNow_none (by rw [s.modState_targeted]; exact hpath)
        (by rw [s.modState_targeted]; exact hstandby)

end

end Sys2Proof.Machine

/-! The end of module transitions, M-standby, drains and wake (R523–R529), and O34. -/

namespace Sys2Proof.Machine

section
variable {s t u : State}

/-! ### Field states set one after another (R529) -/

/-- The registers of a field's state and its stack's. -/
def fieldStateRegs : List Reg := [.PWR_FLD_STAT, .HBM_ID]

/-- The fields below `n` have taken the states `v`. -/
structure State.fieldsSet (n : Nat) (v : Nat → Nat) (s t : State) : Prop where
  only : State.messageOnly fieldStateRegs s t
  set : ∀ f < 80, t.fieldPower f = if f < n then v f else s.fieldPower f

theorem State.fieldsSet_range {step : State → Nat → State} {v : Nat → Nat}
    (hstep : ∀ t f, State.messageOnly fieldStateRegs s t → f < 80 → t.fieldPower f = s.fieldPower f →
      State.messageOnly fieldStateRegs t (step t f) ∧ (step t f).fieldPower f = v f ∧
        ∀ g < 80, g ≠ f → (step t f).fieldPower g = t.fieldPower g) {n : Nat} (hn : n ≤ 80) :
    State.fieldsSet n v s ((List.range n).foldl step s) := by
  induction n with
  | zero => exact ⟨s.messageOnly_refl _, fun f _ => (if_neg (Nat.not_lt_zero f)).symm⟩
  | succ n ih =>
    obtain ⟨honly, hset⟩ := ih (by omega)
    rw [List.range_succ, List.foldl_append, List.foldl_cons, List.foldl_nil]
    generalize (List.range n).foldl step s = t at *
    obtain ⟨hnext, hsame, hother⟩ := hstep t n honly (by omega) (by rw [hset n (by omega), if_neg (Nat.lt_irrefl n)])
    refine ⟨honly.trans hnext, fun f hf => ?_⟩
    by_cases hfn : f = n
    · rw [hfn, hsame, if_pos (Nat.lt_succ_self n)]
    · rw [hother f hf hfn, hset f hf]
      exact if_congr (by omega) rfl rfl

theorem State.fieldPower_setF_other (s : State) {f g : Nat} (v : Nat) (hf : f < 80) (hg : g < 80) (h : g ≠ f) :
    (s.setF RF.PWR_FLD_STAT_STATE f 0 v).fieldPower g = s.fieldPower g := by
  unfold State.fieldPower State.getF State.setF
  rw [State.rd_wr_other _ (rkey_ne_of_inst (by omega) (by omega) h)]

theorem State.fieldPower_setFieldPower_other (s : State) {f g : Nat} (v : Nat) (hf : f < 80) (hg : g < 80) (h : g ≠ f) :
    (s.setFieldPower f v).fieldPower g = s.fieldPower g :=
  ((State.messageOnly_stackFollow _ f).regs.getF (x := RF.PWR_FLD_STAT_STATE) (by decide) g 0).trans
    (s.fieldPower_setF_other v hf hg h)

theorem State.fieldPower_setFieldPower_mod (s : State) (f v : Nat) :
    (s.setFieldPower f v).fieldPower f = v % 4 :=
  ((State.messageOnly_stackFollow _ f).regs.getF (x := RF.PWR_FLD_STAT_STATE) (by decide) f 0).trans
    (s.getF_setF_same RF.PWR_FLD_STAT_STATE f 0 v (by decide))

theorem State.onlyRegs.inService {l : List Reg} (h : s.onlyRegs l t) (hl : Reg.WFR_FLDf_STATUS ∉ l)
    (f : Nat) : t.inService f = s.inService f :=
  congrArg (· == 0) (h.getF (x := RF.WFR_FLDf_STATUS_STATE) hl 0 f)

theorem State.fieldsSet_restoreFields (s : State) : State.fieldsSet 80 (fun f => if s.inService f then
    s.power.fldBefore.look 0 f % 4 else s.fieldPower f) s s.restoreFields := by
  refine State.fieldsSet_range (fun t f honly hf hpower => ?_) (Nat.le_refl 80)
  rw [honly.regs.inService (by decide)]
  split
  · exact ⟨t.messageOnly_setFieldPower f _, t.fieldPower_setFieldPower_mod f _,
      fun g hg hne => t.fieldPower_setFieldPower_other _ hf hg hne⟩
  · exact ⟨t.messageOnly_refl _, hpower, fun _ _ _ => rfl⟩

theorem State.fieldsSet_drowsyFields (s : State) : State.fieldsSet 80 (fun f => if s.inService f = true ∧
    s.fieldPower f = 0 then 1 else s.fieldPower f) s s.drowsyFields := by
  refine State.fieldsSet_range (fun t f honly hf hpower => ?_) (Nat.le_refl 80)
  rw [honly.regs.inService (by decide), hpower]
  split
  · exact ⟨t.messageOnly_setFieldPower f _, t.fieldPower_setFieldPower_mod f _,
      fun g hg hne => t.fieldPower_setFieldPower_other _ hf hg hne⟩
  · exact ⟨t.messageOnly_refl _, hpower, fun _ _ _ => rfl⟩

theorem State.messageOnly_foldl {l : List Reg} {A : Type} {step : State → A → State}
    (h : ∀ t a, State.messageOnly l t (step t a)) (as : List A) (s : State) :
    State.messageOnly l s (as.foldl step s) := by
  induction as generalizing s with
  | nil => exact s.messageOnly_refl l
  | cons a r ih => exact (h s a).trans (ih _)

theorem State.messageOnly_stacksFollow (s : State) : State.messageOnly [.HBM_ID] s s.stacksFollow :=
  State.messageOnly_foldl (fun t f => t.messageOnly_stackFollow f) _ s

/-! ### A transition completes (R523) -/

/-- The state reached is shown, and the transition is over. -/
def State.arrived (s : State) (target : Nat) : State :=
  (s.setF RF.PWR_MOD_STAT_STATE 0 0 target).modPower (fun p => { p with
    target := none, asleep := decide (target = 2), calDirty := true })

/-- The fields take the states that the target calls for. -/
def State.fieldsFollow (s : State) (target : Nat) : State :=
  if target = 0 then s.restoreFields else if target = 1 then s.restoreFields.drowsyFields else s

theorem State.modArrive_eq {target : Nat} (hawake : s.power.asleep = false ∨ target = 2) (hrec : s.power.recorded = false) :
    s.modArrive target = (((s.arrived target).fieldsFollow target).stacksFollow).raise RF.PWR_EVENT_MODE_DONE 0 := by
  have hwake : (s.power.asleep && decide (target ≠ 2)) = false := by
    obtain h | h := hawake <;> simp [h]
  have honly : State.messageOnly fieldStateRegs (s.arrived target) ((s.arrived target).fieldsFollow target) := by
    unfold State.fieldsFollow
    split
    · exact (State.fieldsSet_restoreFields _).only
    · split
      · exact (State.fieldsSet_restoreFields _).only.trans (State.fieldsSet_drowsyFields _).only
      · exact State.messageOnly_refl _ _
  have hpower : ((((s.arrived target).fieldsFollow target).stacksFollow).raise RF.PWR_EVENT_MODE_DONE 0).power.recorded =
      false := by
    rw [(State.messageOnly_raise _ _ _).power, (State.messageOnly_stacksFollow _).power, honly.power]
    exact hrec
  unfold State.modArrive
  rw [hwake]
  show (if (((((s.arrived target).fieldsFollow target).stacksFollow).raise RF.PWR_EVENT_MODE_DONE 0).power.recorded &&
    decide (target ≠ 2)) = true then _ else (((s.arrived target).fieldsFollow target).stacksFollow).raise
      RF.PWR_EVENT_MODE_DONE 0) = _
  rw [hpower]
  rfl

/-- What the end of a transition shows. -/
structure State.transitioned (target : Nat) (s t : State) : Prop where
  state : t.modState = target
  power : t.power = { s.power with target := none, asleep := decide (target = 2), calDirty := true }
  done : t.flag RF.PWR_EVENT_MODE_DONE 0 0 = true
  active : target = 0 → ∀ f < 80, s.inService f = true → t.fieldPower f = s.power.fldBefore.look 0 f % 4
  drowsy : target = 1 → ∀ f < 80, s.inService f = true → t.fieldPower f = max 1 (s.power.fldBefore.look 0 f % 4)
  reqs : t.commons.reqs = s.commons.reqs

theorem State.powerOnly_arrived (s : State) (target : Nat) : State.powerOnly [.PWR_MOD_STAT] s (s.arrived target) :=
  (s.powerOnly_setF 0 0 target (by decide)).trans (State.powerOnly_modPower _ _ _)

theorem State.messageOnly_fieldsFollow (s : State) (target : Nat) :
    State.messageOnly fieldStateRegs s (s.fieldsFollow target) := by
  unfold State.fieldsFollow
  split
  · exact s.fieldsSet_restoreFields.only
  · split
    · exact s.fieldsSet_restoreFields.only.trans (State.fieldsSet_drowsyFields _).only
    · exact s.messageOnly_refl _

theorem State.fieldPower_restored {f : Nat} (hf : f < 80) (hin : s.inService f = true) :
    (s.fieldsFollow 0).fieldPower f = s.power.fldBefore.look 0 f % 4 := by
  have hset := s.fieldsSet_restoreFields.set f hf
  rw [if_pos hf, if_pos hin] at hset
  exact hset

theorem State.fieldPower_drowsy {f : Nat} (hf : f < 80) (hin : s.inService f = true) :
    (s.fieldsFollow 1).fieldPower f = max 1 (s.power.fldBefore.look 0 f % 4) := by
  have hrestored : s.restoreFields.fieldPower f = s.power.fldBefore.look 0 f % 4 := State.fieldPower_restored hf hin
  have hserve : s.restoreFields.inService f = true := (s.fieldsSet_restoreFields.only.regs.inService (by decide) f).trans hin
  have hset := s.restoreFields.fieldsSet_drowsyFields.set f hf
  rw [if_pos hf, hrestored] at hset
  refine hset.trans ?_
  by_cases hon : s.power.fldBefore.look 0 f % 4 = 0
  · rw [if_pos ⟨hserve, hon⟩, hon]
    rfl
  · rw [if_neg fun h => hon h.2, max_eq_right (Nat.one_le_iff_ne_zero.mpr hon)]

theorem State.transitioned_modArrive {target : Nat} (ht : target < 8) (hawake : s.power.asleep = false ∨ target = 2)
    (hrec : s.power.recorded = false) : State.transitioned target s (s.modArrive target) := by
  rw [State.modArrive_eq hawake hrec]
  have harrived := s.powerOnly_arrived target
  have hstate : (s.arrived target).modState = target :=
    (State.modPower_getF ..).trans (s.getF_setF_fits 0 0 ht (by decide))
  have hpower : (s.arrived target).power =
    { s.power with target := none, asleep := decide (target = 2), calDirty := true } := rfl
  generalize s.arrived target = u at *
  have hfollow := u.messageOnly_fieldsFollow target
  have hlater : State.messageOnly (fieldStateRegs ++ .PWR_EVENT :: dropRegs) u
      ((u.fieldsFollow target).stacksFollow.raise RF.PWR_EVENT_MODE_DONE 0) :=
    (hfollow.mono (by decide)).trans (((State.messageOnly_stacksFollow _).mono (by decide)).trans
      ((State.messageOnly_raise _ _ _).mono (by decide)))
  have hfields (f : Nat) : ((u.fieldsFollow target).stacksFollow.raise RF.PWR_EVENT_MODE_DONE 0).fieldPower f =
      (u.fieldsFollow target).fieldPower f :=
    ((State.messageOnly_raise _ _ _).regs.getF (x := RF.PWR_FLD_STAT_STATE) (by decide) f 0).trans
      ((State.messageOnly_stacksFollow _).regs.getF (x := RF.PWR_FLD_STAT_STATE) (by decide) f 0)
  have hserve (f : Nat) (hin : s.inService f = true) : u.inService f = true :=
    (harrived.regs.inService (by decide) f).trans hin
  have hbefore : u.power.fldBefore = s.power.fldBefore := by rw [hpower]
  refine ⟨(hlater.regs.getF (x := RF.PWR_MOD_STAT_STATE) (by decide) 0 0).trans hstate, hlater.power.trans hpower,
    State.flag_raise_same _ 0 (by decide) (by decide) rfl, ?_, ?_, ?_⟩
  · rintro rfl f hf hin
    rw [hfields, State.fieldPower_restored hf (hserve f hin), hbefore]
  · rintro rfl f hf hin
    rw [hfields, State.fieldPower_drowsy hf (hserve f hin), hbefore]
  · rw [hlater.eq]
    exact harrived.commons ▸ rfl

/-! ### Entry into M-standby (R526) -/

theorem foldl_of_fixed {A B : Type} {step : B → A → B} {b : B} {l : List A} (h : ∀ a ∈ l, step b a = b) :
    l.foldl step b = b := by
  induction l with
  | nil => rfl
  | cons a r ih =>
    rw [List.foldl_cons, h a (List.mem_cons_self ..)]
    exact ih fun c hc => h c (List.mem_cons_of_mem _ hc)

/-- The fields in service are off. -/
def State.fieldsSleep (s : State) : State :=
  (List.range 80).foldl (fun (t : State) f =>
    if t.inService f then t.setF RF.PWR_FLD_STAT_STATE f 0 3 else t) (s.modPower (fun p => { p with asleep := true }))

theorem State.fieldsSet_fieldsSleep (s : State) : State.fieldsSet 80 (fun f => if s.inService f then 3 else s.fieldPower f)
    (s.modPower (fun p => { p with asleep := true })) s.fieldsSleep := by
  refine State.fieldsSet_range (fun t f honly hf hpower => ?_) (Nat.le_refl 80)
  have hserve : t.inService f = s.inService f :=
    (honly.regs.inService (by decide) f).trans (congrArg (· == 0) (State.modPower_getF ..))
  rw [hserve]
  split
  · exact ⟨t.messageOnly_setF f 0 3 (by decide), t.getF_setF_fits f 0 (by decide) (by decide),
      fun g hg hne => t.fieldPower_setF_other 3 hf hg hne⟩
  · exact ⟨t.messageOnly_refl _, hpower.trans (State.modPower_getF ..), fun _ _ _ => rfl⟩

/-- States of links and the record of the Verne. -/
structure State.linksOnly (s t : State) : Prop where
  eq : t = { s with regs := t.regs, verne := t.verne }
  regs : s.onlyRegs [.VRN_LNK_STATE] t

theorem State.linksOnly_enterState (s : State) (k st : Nat) : s.linksOnly (s.enterState k st) :=
  ⟨rfl, s.onlyRegs_setF k 0 st (by decide)⟩

theorem State.linksOnly_foldl {A : Type} {step : State → A → State} (h : ∀ t a, State.linksOnly t (step t a)) (as : List A)
    (s : State) : State.linksOnly s (as.foldl step s) := by
  induction as generalizing s with
  | nil => exact ⟨rfl, s.onlyRegs_refl _⟩
  | cons a r ih =>
    have hrest := ih (step s a)
    exact ⟨by rw [List.foldl_cons, hrest.eq, (h s a).eq], (h s a).regs.trans hrest.regs⟩

/-- A register on a page of no parish and no function keeps its value at a reset of H0's functions. -/
theorem flrResets_of_page {r : Reg} {q : Page} (hq : r.info.page = some q) (hring : ringReg r = false)
    (hsro : q ≠ .WFR_SRO) (hfn : q ≠ .HST_FN) (p i n : Nat) : flrResets p (rkey r i n) = false := by
  have honpage {w : Page} (h : q ≠ w) (j : Nat) : onPage w j (rkey r i n) = false := by
    unfold onPage
    rw [show (rkey r i n).reg.info.page = some q from hq]
    simp [h]
  unfold flrResets
  rw [show ringReg (rkey r i n).reg = false from hring, honpage hsro, honpage hfn,
    show (rkey r i n).reg.info.page = some q from hq]
  rfl

theorem State.rd_h0Down (s : State) {r : Reg} (h1 : r ≠ .HST_PORT_H0) (h2 : r ≠ .HST_PORT_EVENT) (i n : Nat) :
    (s.h0Up false).rd r i n = s.rd r i n := by
  cases hup : s.flag RF.HST_PORT_H0_UP 0 0 with
  | false => rw [State.h0Up_of_same hup]
  | true =>
    rw [State.h0Up_false_of_up hup, State.h0Fell, State.addSat, State.rd_setF_reg _ _ _ _ _ _ h1, State.setFlag,
      State.rd_setF_reg _ _ _ _ _ _ h2, State.setFlag, State.rd_setF_reg _ _ _ _ _ _ h1]

theorem State.nothingRuns.rd_h0Reset (h : s.nothingRuns) {r : Reg} {q : Page} (hq : r.info.page = some q)
    (hring : ringReg r = false) (hsro : q ≠ .WFR_SRO) (hfn : q ≠ .HST_FN) (hctl : r ≠ .WFR_PAR_CTL)
    (hport : q ≠ .HST_PORT) (i n : Nat) : s.h0Reset.rd r i n = s.rd r i n := by
  have hrd := h.rd_pfFlr hctl i n
  have hnone : (onPage .HST_FN 0 (rkey r i n) || (List.range 32).any (fun p => flrResets p (rkey r i n))) = false := by
    rw [Bool.or_eq_false_iff]
    refine ⟨?_, List.any_eq_false.mpr fun p _ => by rw [flrResets_of_page hq hring hsro hfn]; decide⟩
    unfold onPage
    rw [show (rkey r i n).reg.info.page = some q from hq]
    simp [hfn]
  rw [hnone, if_neg (by decide)] at hrd
  have hne {w : Reg} (hw : w.info.page = some .HST_PORT) : r ≠ w := by
    rintro rfl
    exact hport (Option.some.inj (hq.symm.trans hw))
  unfold State.h0Reset
  rw [State.rd_h0Down _ (hne rfl) (hne rfl), State.modHost_rd, hrd]

theorem State.power_h0Reset (s : State) : s.h0Reset.power = s.power := by
  have hwork : s.parishWork s.h0Reset := (State.parishWork.refl s).h0Reset
  exact (congrArg State.power hwork).trans rfl

/-- Links at rest. -/
def State.linksRest (s : State) : Prop := ∀ k, k < 56 → s.linkState k = lsDown ∨ s.linkState k = lsPcie

theorem State.linksRest.foldl_linkDown (h : s.linksRest) :
    (List.range 56).foldl (fun (t : State) k => t.linkDown k 9) s = s :=
  foldl_of_fixed fun k hk => if_pos (h k (List.mem_range.mp hk))

/-- What entry into M-standby leaves. -/
structure State.sleeps (s t : State) : Prop where
  power : t.power = { s.power with asleep := true }
  ready : t.host.ready = false
  state : t.modState = s.modState
  fields : ∀ f < 80, s.inService f = true → t.fieldPower f = 3
  mem : t.mem = s.mem

theorem State.sleeps_sleepNow (hidle : s.nothingRuns) (hlinks : s.linksRest)
    (hs0 : s.flag RF.HBM_GRAN_CTL_LINK_UP 0 0 = false) : s.sleeps s.sleepNow := by
  have hfields := s.fieldsSet_fieldsSleep
  have hsleep : s.sleepNow = (((List.range 16).foldl (fun (t : State) i => t.enterState (56 + i) lsDown)
      ((List.range 56).foldl (fun (t : State) k => t.linkDown k 9) s.fieldsSleep)).h0Reset.s0Down).stacksFollow := rfl
  generalize s.fieldsSleep = u at *
  have hu : s.onlyRegs fieldStateRegs u := fun r i n hr => (hfields.only.regs r i n hr).trans (State.modPower_rd ..)
  have hrest : u.linksRest := fun k hk => by
    rw [State.linkState, hu.getF (x := RF.VRN_LNK_STATE_STATE) (by decide)]
    exact hlinks k hk
  rw [hrest.foldl_linkDown] at hsleep
  have hpcie : u.linksOnly ((List.range 16).foldl (fun (t : State) i => t.enterState (56 + i) lsDown) u) :=
    State.linksOnly_foldl (fun t i => t.linksOnly_enterState (56 + i) lsDown) _ u
  generalize (List.range 16).foldl (fun (t : State) i => t.enterState (56 + i) lsDown) u = v at *
  have hv : v.nothingRuns := by
    have hseq : v.seq = s.seq := by rw [hpcie.eq, hfields.only.eq, State.modPower_seq]
    have hengines : v.engines = s.engines := by rw [hpcie.eq, hfields.only.eq, State.modPower_engines]
    refine ⟨by rw [hseq]; exact hidle.sheaves, ?_⟩
    unfold State.busyUnits
    rw [hengines]
    exact hidle.units
  have hregs : s.onlyRegs (.VRN_LNK_STATE :: fieldStateRegs) v := (hu.mono (by decide)).trans (hpcie.regs.mono (by decide))
  have hmod := hv.rd_h0Reset (r := .PWR_MOD_STAT) rfl rfl (by decide) (by decide) (by decide) (by decide) 0 0
  have hgran := hv.rd_h0Reset (r := .HBM_GRAN_CTL) rfl rfl (by decide) (by decide) (by decide) (by decide) 0 0
  have hstat (f : Nat) := hv.rd_h0Reset (r := .PWR_FLD_STAT) rfl rfl (by decide) (by decide) (by decide) (by decide) f 0
  have hpower := State.power_h0Reset v
  obtain ⟨⟨hready, -⟩, -, -, hmem⟩ := hv.h0Reset
  generalize v.h0Reset = w at *
  have hdown : w.s0Down = w := by
    have hlink : w.flag RF.HBM_GRAN_CTL_LINK_UP 0 0 = false :=
      (congrArg (fun d => bits d RF.HBM_GRAN_CTL_LINK_UP.lo RF.HBM_GRAN_CTL_LINK_UP.w == 1) hgran).trans
        ((hregs.flag (x := RF.HBM_GRAN_CTL_LINK_UP) (by decide) 0 0).trans hs0)
    exact if_neg (by simp [hlink])
  rw [hdown] at hsleep
  have hstacks := w.messageOnly_stacksFollow
  rw [hsleep]
  generalize w.stacksFollow = x at *
  refine ⟨?_, hstacks.ready.trans hready, ?_, fun f hf hin => ?_, ?_⟩
  · rw [hstacks.power, hpower, hpcie.eq, hfields.only.power, State.modPower_power]
  · refine (hstacks.regs.getF (x := RF.PWR_MOD_STAT_STATE) (by decide) 0 0).trans ?_
    refine (congrArg (fun d => bits d RF.PWR_MOD_STAT_STATE.lo RF.PWR_MOD_STAT_STATE.w) hmod).trans ?_
    exact hregs.getF (x := RF.PWR_MOD_STAT_STATE) (by decide) 0 0
  · have hset := hfields.set f hf
    rw [if_pos hf, if_pos hin] at hset
    refine (hstacks.regs.getF (x := RF.PWR_FLD_STAT_STATE) (by decide) f 0).trans ?_
    refine (congrArg (fun d => bits d RF.PWR_FLD_STAT_STATE.lo RF.PWR_FLD_STAT_STATE.w) (hstat f)).trans ?_
    exact (hpcie.regs.getF (x := RF.PWR_FLD_STAT_STATE) (by decide) f 0).trans hset
  · rw [hstacks.eq]
    show w.mem = s.mem
    rw [hmem, hpcie.eq]
    show u.mem = s.mem
    rw [hfields.only.eq, State.modPower_mem]

theorem execModTargetStandby_sleeps {src : Fin 3} (hready : s.modReady = true) (hstate : s.modState = 1)
    (hsheaves : s.seq.sheaves = []) (hunits : s.busyUnits = []) (hlinks : s.linksRest)
    (hs0 : s.flag RF.HBM_GRAN_CTL_LINK_UP 0 0 = false) :
    ∃ s', exec (.modTargetStandby src) s = .next s' ∧
      (s.modGoes s' 3 2 = true ∧ s'.power.asleep = true ∧ s'.host.ready = false ∧
        (∀ f < 80, s.inService f = true → s'.fieldPower f = 3) ∧ s'.mem = s.mem) := by
  have hnow := State.modCommandNow_standby (s := s.targeted 2) (src := src.val)
    (fun hno => State.not_refused hready ((s.refused_targeted 2).mp hno)) (by rw [s.modState_targeted]; exact hstate)
  have hempty : (s.targeted 2).seq.sheaves.isEmpty = true := List.isEmpty_iff.mpr hsheaves
  rw [hempty, if_pos rfl] at hnow
  have hexec : exec (.modTargetStandby src) s = .next (s.modCommand 2 src.val) := rfl
  rw [State.modCommand_now (State.modReady_iff.mp hready).2.2, hnow] at hexec
  have honly := ((s.powerOnly_targeted 2).mono (m := [.PWR_MOD_CTL, .PWR_MOD_STAT]) (by decide)).trans
    (((s.targeted 2).powerOnly_sourced src.val).mono (by decide))
  have hgoes := ((s.targeted 2).sourced src.val).powerOnly_moduleGoes 3 2 s.now
  have hgo : s.modGoes (((s.targeted 2).sourced src.val).moduleGoes 3 2 s.now) 3 2 = true :=
    State.modGoes_iff.mpr ⟨State.modState_moduleGoes _ 2 s.now (by decide), rfl, rfl⟩
  change exec (.modTargetStandby src) s =
    .next (((s.targeted 2).sourced src.val).moduleGoes 3 2 s.now).sleepNow at hexec
  generalize (s.targeted 2).sourced src.val = u at *
  generalize u.moduleGoes 3 2 s.now = v at *
  have hall : State.powerOnly [.PWR_MOD_CTL, .PWR_MOD_STAT] s v := honly.trans (hgoes.mono (by decide))
  have hidle : v.nothingRuns := by
    refine ⟨by rw [hall.eq]; exact hsheaves, ?_⟩
    unfold State.busyUnits
    rw [hall.eq]
    exact hunits
  have hsleep := State.sleeps_sleepNow hidle (fun k hk => by
    rw [State.linkState, hall.regs.getF (x := RF.VRN_LNK_STATE_STATE) (by decide)]
    exact hlinks k hk) ((hall.regs.flag (by decide) 0 0).trans hs0)
  generalize v.sleepNow = w at *
  obtain ⟨hstate3, htarget, hsince⟩ := State.modGoes_iff.mp hgo
  refine ⟨w, hexec, State.modGoes_iff.mpr ⟨hsleep.state.trans hstate3, ?_, ?_⟩, ?_, hsleep.ready, fun f hf hin => ?_, ?_⟩
  · rw [hsleep.power]
    exact htarget
  · rw [hsleep.power]
    exact hsince
  · rw [hsleep.power]
  · exact hsleep.fields f hf ((hall.regs.inService (by decide) f).trans hin)
  · rw [hsleep.mem, hall.mem]

theorem State.commanded_standby_refused {src : Nat} (h : s.pBusy = false) (hsrc : src < 4)
    (hno : s.modReady = false ∨ s.modState ≠ 1 ∨ s.seq.sheaves ≠ []) :
    s.modRefused (s.modCommand 2 src) = true := by
  by_cases hone : s.modReady = true ∧ s.modState = 1
  · obtain ⟨hready, hstate⟩ := hone
    have hsheaves : s.seq.sheaves ≠ [] := by
      obtain h1 | h2 | h3 := hno
      · exact absurd (h1.symm.trans hready) (by decide)
      · exact absurd hstate h2
      · exact h3
    refine (State.commanded_refused h (by decide) hsrc ?_).2
    have hnow := State.modCommandNow_standby (s := s.targeted 2) (src := src)
      (fun hno => State.not_refused hready ((s.refused_targeted 2).mp hno)) (by rw [s.modState_targeted]; exact hstate)
    have hempty : (s.targeted 2).seq.sheaves.isEmpty = false := by
      rw [Bool.eq_false_iff]
      exact fun he => hsheaves (List.isEmpty_iff.mp he)
    rw [hnow, hempty]
    rfl
  · refine (State.commanded_no h (by decide) hsrc ?_).2
    cases hready : s.modReady with
    | false => exact .inl rfl
    | true =>
      have hstate : s.modState ≠ 1 := fun hm => hone ⟨hready, hm⟩
      refine .inr ⟨?_, fun hm => hstate hm.1⟩
      generalize s.modState = m at *
      match m with
      | 0 => rfl
      | 1 => exact absurd rfl hstate
      | 2 => rfl
      | m + 3 => rfl

/-! ### A qualifying edge (R527) -/

theorem execWakeEdge_wakes {n : Fin 8} {rising : Bool} (hstate : s.modState = 2)
    (hmask : (s.getF RF.PWR_WAKE_ARM_MASK 0 0).testBit n.val = true) (hedge : s.edgeQualifies n.val rising = true)
    (hready : s.modReady = true) (ht : s.getF RF.PWR_WAKE_ARM_TARGET 0 0 ≤ 1) :
    ∃ s', exec (.wakeEdge n rising) s = .next s' ∧
      (s'.flag RF.PWR_EVENT_WAKE 0 0 = true ∧ s.modGoes s' 4 (s.getF RF.PWR_WAKE_ARM_TARGET 0 0) = true ∧
        s'.getF RF.PWR_MOD_STAT_SOURCE 0 0 = 3) := by
  have hexec : exec (.wakeEdge n rising) s =
      .next ((s.raise RF.PWR_EVENT_WAKE 0).modCommand (s.getF RF.PWR_WAKE_ARM_TARGET 0 0) 3) :=
    if_pos ⟨hstate, hmask, hedge⟩
  have hraise := s.messageOnly_raise RF.PWR_EVENT_WAKE 0
  have hwake := s.flag_raise_same (x := RF.PWR_EVENT_WAKE) 0 (by decide) (by decide) rfl
  generalize s.raise RF.PWR_EVENT_WAKE 0 = u at *
  have hustate : u.modState = 2 := (hraise.regs.getF (x := RF.PWR_MOD_STAT_STATE) (by decide) 0 0).trans hstate
  obtain ⟨hstage, hhalt, hbusy⟩ := State.modReady_iff.mp hready
  have hubusy : u.pBusy = false := (hraise.regs.flag (x := RF.PWR_PSTATE_BUSY) (by decide) 0 0).trans hbusy
  have huready : u.modReady = true := State.modReady_iff.mpr ⟨by rw [hraise.eq]; exact hstage,
    (hraise.regs.flag (x := RF.PWR_MOD_STAT_HALTED) (by decide) 0 0).trans hhalt, hubusy⟩
  have hpath : modulePath u.modState (s.getF RF.PWR_WAKE_ARM_TARGET 0 0) = some 4 := by
    rw [hustate]
    obtain h0 | h1 : s.getF RF.PWR_WAKE_ARM_TARGET 0 0 = 0 ∨ s.getF RF.PWR_WAKE_ARM_TARGET 0 0 = 1 := by omega
    · rw [h0]
      rfl
    · rw [h1]
      rfl
  generalize s.getF RF.PWR_WAKE_ARM_TARGET 0 0 = k at *
  obtain ⟨hcmd, hgoes⟩ := State.commanded_up (src := 3) huready (by omega) (by decide) hpath
  have hevent : (u.modCommand k 3).flag RF.PWR_EVENT_WAKE 0 0 = true := by
    rw [State.modCommand_now hubusy, State.modCommandNow_up (fun hno => State.not_refused huready
      ((u.refused_targeted k).mp hno)) (by rw [u.modState_targeted]; exact hpath)]
    exact ((State.powerOnly_moduleGoes _ 4 k _).regs.flag (by decide) 0 0).trans
      (((State.powerOnly_sourced _ 3).regs.flag (by decide) 0 0).trans
        (((u.powerOnly_targeted k).regs.flag (by decide) 0 0).trans hwake))
  refine ⟨_, hexec, hevent, ?_, hcmd.source hubusy⟩
  obtain ⟨h1, h2, h3⟩ := State.modGoes_iff.mp hgoes
  exact State.modGoes_iff.mpr ⟨h1, h2, h3.trans (by rw [hraise.eq])⟩

end

/-- Settles O34: the refused pairs, MODE_DONE at a refusal and the moments states show are the model's by log 138, and
OFF's acceptance by log 148 (both DEDUCED). -/
theorem moduleStatesAndWake : Obligations.ModuleStatesAndWake := by
  unfold Obligations.ModuleStatesAndWake
  refine ⟨?active, ?drowsy, ?standby, ?noStandby, ?off, ?drained, ?expired, ?done, ?wake⟩
  case active =>
    intro src s
    have hpath (h : s.modState = 1 ∨ s.modState = 2) : modulePath s.modState 0 = some 4 := by
      rcases h with h | h <;> rw [h] <;> rfl
    have hnone (h1 : s.modState ≠ 1) (h2 : s.modState ≠ 2) : modulePath s.modState 0 = none := by
      generalize s.modState = m at *
      match m with
      | 0 => rfl
      | 1 => exact absurd rfl h1
      | 2 => exact absurd rfl h2
      | m + 3 => rfl
    have hcmd : s.commanded 0 src.val (s.modCommand 0 src.val) := by
      cases hbusy : s.pBusy with
      | true => exact State.commanded_busy hbusy (by decide) src.val
      | false =>
        by_cases hup : s.modReady = true ∧ (s.modState = 1 ∨ s.modState = 2)
        · exact (State.commanded_up hup.1 (by decide) (by omega) (hpath hup.2)).1
        · refine (State.commanded_no hbusy (by decide) (by omega) ?_).1
          cases hready : s.modReady with
          | false => exact .inl rfl
          | true =>
            have hno := not_or.mp fun h => hup ⟨hready, h⟩
            exact .inr ⟨hnone hno.1 hno.2, by simp⟩
    refine ⟨_, rfl, hcmd.written, hcmd.waits, hcmd.source, fun hready hstate =>
      (State.commanded_up hready (by decide) (by omega) (hpath hstate)).2, fun hbusy hno => ?_⟩
    exact (State.commanded_no hbusy (by decide) (by omega) (hno.imp id fun h => ⟨hnone h.1 h.2, by simp⟩)).2
  case drowsy =>
    intro src s
    have hnone (h1 : s.modState ≠ 0) (h2 : s.modState ≠ 2) : modulePath s.modState 1 = none := by
      generalize s.modState = m at *
      match m with
      | 0 => exact absurd rfl h1
      | 1 => rfl
      | 2 => exact absurd rfl h2
      | m + 3 => rfl
    have hpath (h : s.modState = 2) : modulePath s.modState 1 = some 4 := by rw [h]; rfl
    have hcmd : s.commanded 1 src.val (s.modCommand 1 src.val) := by
      cases hbusy : s.pBusy with
      | true => exact State.commanded_busy hbusy (by decide) src.val
      | false =>
        by_cases hgo : s.modReady = true ∧ (s.modState = 0 ∨ s.modState = 2)
        · obtain ⟨hready, hstate | hstate⟩ := hgo
          · exact (State.commanded_drowsy hready (by omega) hstate).1
          · exact (State.commanded_up hready (by decide) (by omega) (hpath hstate)).1
        · refine (State.commanded_no hbusy (by decide) (by omega) ?_).1
          cases hready : s.modReady with
          | false => exact .inl rfl
          | true =>
            have hno := not_or.mp fun h => hgo ⟨hready, h⟩
            exact .inr ⟨hnone hno.1 hno.2, by simp⟩
    refine ⟨_, rfl, hcmd.written, hcmd.waits, hcmd.source, fun hready hstate =>
      (State.commanded_drowsy hready (by omega) hstate).2, fun hready hstate =>
      (State.commanded_up hready (by decide) (by omega) (hpath hstate)).2, fun hbusy hno => ?_⟩
    exact (State.commanded_no hbusy (by decide) (by omega) (hno.imp id fun h => ⟨hnone h.1 h.2, by simp⟩)).2
  case standby =>
    rintro src s ⟨hready, hstate, hsheaves, hunits, hlinks, hs0⟩
    exact execModTargetStandby_sleeps hready hstate hsheaves hunits hlinks hs0
  case noStandby =>
    rintro src s ⟨hbusy, hno⟩
    exact ⟨_, rfl, State.commanded_standby_refused hbusy (by omega) hno⟩
  case off =>
    rintro src s ⟨hbusy, hstage, hno⟩
    have hexec : exec (.modTargetOff src) s = .next ((s.targeted 3).modOffNow src.val) := by
      refine congrArg Host.Outcome.next ?_
      unfold State.modAny
      rw [if_neg (by decide), if_neg hstage, hbusy]
      rfl
    have hstate := s.modState_targeted 3
    have hsrcd := (s.targeted 3).modState_sourced src.val
    have hnow : (s.targeted 3).modOffNow src.val = ((s.targeted 3).sourced src.val).pwrErr := by
      unfold State.modOffNow
      exact (if_neg hstage).trans (if_pos (by rw [hstate]; exact hno))
    rw [hnow] at hexec
    exact ⟨_, hexec, State.modRefused_pwrErr (hsrcd.trans hstate) rfl⟩
  case drained =>
    rintro s ⟨htarget, hstate, hidle, hasleep, hrec⟩
    have hexec : exec .drowsyDrainDone s = .next (s.modArrive 1) := if_pos ⟨htarget, hstate, hidle⟩
    have harrive := State.transitioned_modArrive (target := 1) (by decide) (.inl hasleep) hrec
    generalize s.modArrive 1 = u at *
    refine ⟨u, hexec, harrive.state, ?_, harrive.done, fun f hf hin hlook => ?_⟩
    · rw [harrive.power]
    · rw [harrive.drowsy rfl f hf hin, Nat.mod_eq_of_lt hlook]
  case expired =>
    rintro s ⟨htarget, hstate, hbusy, hlate⟩
    have hexec : exec .drainMsExpire s = .next (((s.setF RF.PWR_MOD_STAT_STATE 0 0 0).modPower (fun p =>
        { p with target := none })).pwrErr) := if_pos ⟨htarget, hstate, hlate, by simp [hbusy]⟩
    have hpower : ((s.setF RF.PWR_MOD_STAT_STATE 0 0 0).modPower (fun p => { p with target := none })).power.target =
        none := rfl
    have hzero : ((s.setF RF.PWR_MOD_STAT_STATE 0 0 0).modPower (fun p => { p with target := none })).modState = 0 :=
      (State.modPower_getF ..).trans (s.getF_setF_fits 0 0 (by decide) (by decide))
    have honly := (s.powerOnly_setF (l := pwrErrRegs) (x := RF.PWR_MOD_STAT_STATE) 0 0 0 (by decide)).trans
      (State.powerOnly_modPower _ _ (fun p => { p with target := none }))
    generalize (s.setF RF.PWR_MOD_STAT_STATE 0 0 0).modPower (fun p => { p with target := none }) = u at *
    obtain ⟨herr, hdone⟩ := u.flags_pwrErr
    have hall := honly.trans u.messageOnly_pwrErr.powerOnly
    refine ⟨_, hexec, ⟨(u.getF_pwrErr rfl (by decide) (by decide)).trans hzero, ?_, herr, hdone⟩, hall.eq,
      hall.regs.mono (by decide)⟩
    rw [u.messageOnly_pwrErr.power, hpower]
  case done =>
    rintro t s ⟨htarget, ht, hfrz, hhalt, hdrain, hawake, hrec, hreqs⟩
    have harrive := State.transitioned_modArrive (target := t) (by omega) hawake hrec
    have hexec : exec .modTransitionDone s = .next (s.modArrive t).releaseAll := by
      show execModTransitionDone s = _
      unfold execModTransitionDone
      rw [htarget]
      have hgo : (s.frozen || s.halted || (decide (t = 1) && decide (s.modState = 3))) = false := by
        rw [hfrz, hhalt]
        by_cases h1 : t = 1
        · simp [h1, hdrain h1]
        · simp [h1]
      dsimp only
      rw [hgo]
      rfl
    generalize s.modArrive t = u at *
    rw [State.releaseAll, State.releaseHeld_of_none _ _ _ (harrive.reqs.trans hreqs)] at hexec
    refine ⟨u, hexec, harrive.state, ?_, ?_, harrive.done, fun h0 f hf hin hlook => ?_⟩
    · rw [harrive.power]
    · rw [harrive.power]
    · rw [harrive.active h0 f hf hin, Nat.mod_eq_of_lt hlook]
  case wake =>
    rintro n rising t s ⟨hstate, hmask, hedge, hready, rfl, ht⟩
    exact execWakeEdge_wakes hstate hmask hedge hready ht

end Sys2Proof.Machine

/-! Sideband commands of the crier mailbox and SMBus (R693, R694, R701), and O44. -/

namespace Sys2Proof.Machine

section
variable {s t u v : State}

/-! ### The words of a command (R694) -/

theorem sbData_sbWords (op : Nat) (tag arg0 arg1 : BitVec 16) (data : Word) :
    sbData (sbWords op tag arg0 arg1 data) = data.toNat := by
  have hlt : data.toNat < 2 ^ 64 := data.isLt
  show data.toNat / 2 ^ (16 * 0) % 65536 + data.toNat / 2 ^ (16 * 1) % 65536 * 2 ^ 16 +
    data.toNat / 2 ^ (16 * 2) % 65536 * 2 ^ 32 + data.toNat / 2 ^ (16 * 3) % 65536 * 2 ^ 48 = data.toNat
  omega

theorem sbWellFormed_field {tag arg0 arg1 : BitVec 16} {data : Word}
    (h : sbWellFormed (sbWords 0x03 tag arg0 arg1 data) = true) : arg0.toNat < 80 ∧ arg1.toNat < 4 := by
  have hrow : (decide ((0x03 : Nat) < 256) && (decide (arg0.toNat < 80) && decide (arg1.toNat < 4) &&
    decide (sbData (sbWords 0x03 tag arg0 arg1 data) = 0))) = true := h
  simp only [Bool.and_eq_true, decide_eq_true_eq] at hrow
  obtain ⟨-, ⟨h0, h1⟩, -⟩ := hrow
  exact ⟨h0, h1⟩

theorem sbWellFormed_cap {tag arg0 arg1 : BitVec 16} {data : Word}
    (h : sbWellFormed (sbWords 0x04 tag arg0 arg1 data) = true) : arg0.toNat < 64 := by
  have hrow : (decide ((0x04 : Nat) < 256) && (decide (arg0.toNat < 64) && decide (arg1.toNat = 0) &&
    decide (sbData (sbWords 0x04 tag arg0 arg1 data) < 32768))) = true := h
  simp only [Bool.and_eq_true, decide_eq_true_eq] at hrow
  exact hrow.2.1.1

theorem sbWellFormed_arm {tag arg0 arg1 : BitVec 16} {data : Word}
    (h : sbWellFormed (sbWords 0x06 tag arg0 arg1 data) = true) : arg0.toNat < 512 := by
  have hrow : (decide ((0x06 : Nat) < 256) && (decide (arg0.toNat < 512) && decide (arg1.toNat = 0) &&
    decide (sbData (sbWords 0x06 tag arg0 arg1 data) = 0))) = true := h
  simp only [Bool.and_eq_true, decide_eq_true_eq] at hrow
  exact hrow.2.1.1

/-! ### One command runs (R693, R701) -/

/-- The number of a sideband source in the registers. -/
def sbCode (src : Sideband) : Nat := if src = .crier then 1 else 2

theorem sbCode_lt (src : Sideband) : sbCode src < 4 := by cases src <;> decide

/-- The command is taken: the crier's queue, where it stood alone, is empty. -/
def State.sbTaken (s : State) (src : Sideband) : State :=
  match src with
  | .crier => s.modPins (fun p => { p with queue := [] })
  | .smbus => s

theorem State.sbTaken_eq (s : State) (src : Sideband) :
    s.sbTaken src = { s with pins := { s.pins with queue := (s.sbTaken src).pins.queue } } := by
  cases src <;> rfl

/-- A sideband command that ran to the state `t` has ended with its result. -/
structure State.sbFinished (s : State) (src : Sideband) (op tag res : Nat) (t u : State) : Prop where
  ended : s.sbEnded src op tag res u = true
  regs : u.regs = t.regs
  power : u.power = t.power
  pads : u.pins.pads = t.pins.pads
  lockArm : u.pins.lockArm = t.pins.lockArm

theorem State.sbNext_runs {src : Sideband} {w : List Nat} (h : s.sbNext src w = true) :
    s.sbRuns = true ∧ sbWellFormed w = true ∧ (src = .crier → s.pins.queue = [w]) := by
  simp only [State.sbNext, Bool.and_eq_true, Bool.or_eq_true, decide_eq_true_eq] at h
  obtain ⟨⟨hruns, hform⟩, hsrc⟩ := h
  refine ⟨hruns, hform, ?_⟩
  rintro rfl
  exact hsrc.resolve_left (by decide)

theorem State.sbFinished_crier {w : List Nat} (res : Nat) (hexec : t.pins.executed = s.pins.executed)
    (hq : t.pins.queue = []) :
    (t.sbResult w res).sbFlush 8 = t.sbResult w res ∧
      s.sbFinished .crier (w.getD 0 0 % 256) (w.getD 1 0) res t (t.sbResult w res) := by
  refine ⟨State.sbFlush_of_empty (s := t.sbResult w res) hq 8, ?_, rfl, rfl, rfl, rfl⟩
  have hcount : (t.sbResult w res).pins.executed = (s.pins.executed + 1) % 65536 := by
    rw [← hexec]
    rfl
  unfold State.sbEnded
  rw [hcount]
  simp [State.sbResult, State.modPins]

theorem State.sbFinished_smbus {w : List Nat} (res : Nat) (hexec : t.pins.executed = s.pins.executed) :
    s.sbFinished .smbus (w.getD 0 0 % 256) (w.getD 1 0) res t ((t.sbResult w res).send (.sideband res)) := by
  refine ⟨?_, rfl, rfl, rfl, rfl⟩
  have hcount : ((t.sbResult w res).send (.sideband res)).pins.executed = (s.pins.executed + 1) % 65536 := by
    rw [← hexec]
    rfl
  unfold State.sbEnded
  rw [hcount]
  simp [State.sbResult, State.modPins, State.send]

/-- A command that is next runs, and ends with its result. -/
theorem State.sbRun_next {src : Sideband} {w : List Nat} {cool : Bool} {res : Nat} (h : s.sbNext src w = true)
    (hrun : (s.sbTaken src).sbExec (sbCode src) w cool = (t, res))
    (hpins : t.pins.queue = (s.sbTaken src).pins.queue ∧ t.pins.executed = (s.sbTaken src).pins.executed) :
    ∃ u, s.sbRun src w cool = u ∧ s.sbFinished src (w.getD 0 0 % 256) (w.getD 1 0) res t u := by
  obtain ⟨hruns, hform, hqueue⟩ := State.sbNext_runs h
  obtain ⟨hq, hexec⟩ := hpins
  have hsame : t.pins.executed = s.pins.executed := by
    rw [hexec, s.sbTaken_eq]
  cases src with
  | crier =>
    obtain ⟨hflush, hdone⟩ := State.sbFinished_crier (s := s) (w := w) res hsame hq
    refine ⟨t.sbResult w res, ?_, hdone⟩
    have hgo : s.sbRun .crier w cool = (((s.sbTaken .crier).sbExec 1 w cool).1.sbResult w
        ((s.sbTaken .crier).sbExec 1 w cool).2).sbFlush 8 := by
      unfold State.sbRun
      rw [hruns, hqueue rfl]
      exact if_pos rfl
    rw [hgo, show (s.sbTaken .crier).sbExec 1 w cool = (t, res) from hrun]
    exact hflush
  | smbus =>
    refine ⟨_, ?_, State.sbFinished_smbus (s := s) (w := w) res hsame⟩
    have hgo : s.sbRun .smbus w cool = ((s.sbExec 2 w cool).1.sbResult w (s.sbExec 2 w cool).2).send
        (.sideband (s.sbExec 2 w cool).2) := by
      unfold State.sbRun
      rw [hruns]
      exact if_pos hform
    rw [hgo, show s.sbExec 2 w cool = (t, res) from hrun]

theorem State.sbFinished.getF {src : Sideband} {op tag res : Nat} (h : s.sbFinished src op tag res t u) (x : RF)
    (i n : Nat) : u.getF x i n = t.getF x i n := by
  unfold State.getF
  rw [State.rd_of_regs h.regs]

theorem State.sbFinished.flag {src : Sideband} {op tag res : Nat} (h : s.sbFinished src op tag res t u) (x : RF)
    (i n : Nat) : u.flag x i n = t.flag x i n :=
  congrArg (· == 1) (h.getF x i n)

/-! ### CMD_ERR as the result (R693) -/

/-- A result of the power page leaves what the command did, with CMD_ERR kept or set. -/
structure State.modErrKept (t x : State) : Prop where
  eq : x = { t with regs := x.regs }
  regs : t.onlyRegs [.PWR_MOD_STAT] x
  stat : ∀ y : RF, y.reg = .PWR_MOD_STAT → y.lo + y.w ≤ 64 → y.lo + y.w ≤ 4 ∨ 5 ≤ y.lo → x.getF y 0 0 = t.getF y 0 0
  err : t.flag RF.PWR_MOD_STAT_CMD_ERR 0 0 = true → x.flag RF.PWR_MOD_STAT_CMD_ERR 0 0 = true

/-- CMD_ERR is clear while a command runs. -/
def State.errClear (s : State) : State := s.setFlag RF.PWR_MOD_STAT_CMD_ERR 0 0 false

theorem State.modErrKept_setFlag (t : State) (b : Bool) :
    t.modErrKept (if b then t.setFlag RF.PWR_MOD_STAT_CMD_ERR 0 0 true else t) := by
  cases b with
  | true =>
    exact ⟨rfl, t.onlyRegs_setFlag 0 0 true (by decide), fun y hy hw hd =>
      t.getF_setF_disjoint (f := RF.PWR_MOD_STAT_CMD_ERR) 0 0 _ hy hw hd,
      fun _ => t.flag_setFlag_same RF.PWR_MOD_STAT_CMD_ERR 0 0 true (by decide) rfl⟩
  | false => exact ⟨rfl, t.onlyRegs_refl _, fun _ _ _ _ => rfl, id⟩

theorem State.withModErr_result {g : State → State} {e : Bool}
    (h : (g s.errClear).flag RF.PWR_MOD_STAT_CMD_ERR 0 0 = e) :
    ∃ x, s.withModErr g = (x, if e then 2 else 0) ∧ (g s.errClear).modErrKept x := by
  refine ⟨_, ?_, State.modErrKept_setFlag _ (s.flag RF.PWR_MOD_STAT_CMD_ERR 0 0)⟩
  rw [← h]
  rfl

theorem State.errClear_only (s : State) : s.errClear = { s with regs := s.errClear.regs } ∧
    s.onlyRegs [.PWR_MOD_STAT] s.errClear ∧
    ∀ y : RF, y.reg = .PWR_MOD_STAT → y.lo + y.w ≤ 64 → y.lo + y.w ≤ 4 ∨ 5 ≤ y.lo →
      s.errClear.getF y 0 0 = s.getF y 0 0 :=
  ⟨rfl, s.onlyRegs_setFlag 0 0 false (by decide), fun _ hy hw hd =>
    s.getF_setF_disjoint (f := RF.PWR_MOD_STAT_CMD_ERR) 0 0 _ hy hw hd⟩

theorem State.cmdErr_errClear (s : State) : s.errClear.flag RF.PWR_MOD_STAT_CMD_ERR 0 0 = false :=
  s.flag_setFlag_same RF.PWR_MOD_STAT_CMD_ERR 0 0 false (by decide) rfl

theorem State.modErrKept.pins (h : t.modErrKept u) : u.pins = t.pins := by rw [h.eq]

theorem State.modErrKept.power (h : t.modErrKept u) : u.power = t.power := by rw [h.eq]

/-! ### Module commands from a sideband (R694) -/

/-- DRAIN_MS is written. -/
def State.drainSet (s : State) (ms : Nat) : State := s.setF RF.PWR_MOD_CTL_DRAIN_MS 0 0 ms

theorem State.powerOnly_drainSet (s : State) (ms : Nat) : State.powerOnly [.PWR_MOD_CTL] s (s.drainSet ms) :=
  s.powerOnly_setF 0 0 ms (by decide)

theorem State.drain_drainSet (s : State) {ms : Nat} (h : ms < 256) :
    (s.drainSet ms).getF RF.PWR_MOD_CTL_DRAIN_MS 0 0 = ms :=
  s.getF_setF_fits 0 0 h (by decide)

theorem State.sbExec_module (s : State) (c : Nat) (tag arg0 arg1 : BitVec 16) (data : Word) (cool : Bool) :
    s.sbExec c (sbWords 0x01 tag arg0 arg1 data) cool =
      s.withModErr (fun t => (t.drainSet (max 1 (arg0.toNat / 256))).modAny (arg0.toNat % 4) c) := rfl

/-- A DROWSY command accepted leaves CMD_ERR and DRAIN_MS as they were. -/
theorem State.modCommand_drowsy_eq {src : Nat} (hready : s.modReady = true) (h : s.modState = 0) :
    s.modCommand 1 src = (((s.targeted 1).sourced src).saveFields).moduleGoes 3 1 s.now := by
  rw [State.modCommand_now (State.modReady_iff.mp hready).2.2]
  exact State.modCommandNow_drowsy (fun hno => State.not_refused hready ((s.refused_targeted 1).mp hno))
    (by rw [s.modState_targeted]; exact h)

theorem State.cmdErr_moduleGoes (s : State) (st target now : Nat) :
    (s.moduleGoes st target now).flag RF.PWR_MOD_STAT_CMD_ERR 0 0 = s.flag RF.PWR_MOD_STAT_CMD_ERR 0 0 :=
  (State.modPower_flag ..).trans (congrArg (· == 1) (s.getF_setF_disjoint (f := RF.PWR_MOD_STAT_STATE)
    (g := RF.PWR_MOD_STAT_CMD_ERR) 0 0 st rfl (by decide) (by decide)))

theorem State.cmdErr_sourced (s : State) (src : Nat) :
    (s.sourced src).flag RF.PWR_MOD_STAT_CMD_ERR 0 0 = s.flag RF.PWR_MOD_STAT_CMD_ERR 0 0 :=
  congrArg (· == 1) (s.getF_setF_disjoint (f := RF.PWR_MOD_STAT_SOURCE) (g := RF.PWR_MOD_STAT_CMD_ERR) 0 0 src rfl
    (by decide) (by decide))

theorem State.kept_modCommand_drowsy {src : Nat} (hready : s.modReady = true) (h : s.modState = 0) :
    (s.modCommand 1 src).flag RF.PWR_MOD_STAT_CMD_ERR 0 0 = s.flag RF.PWR_MOD_STAT_CMD_ERR 0 0 ∧
      (s.modCommand 1 src).getF RF.PWR_MOD_CTL_DRAIN_MS 0 0 = s.getF RF.PWR_MOD_CTL_DRAIN_MS 0 0 ∧
      (s.modCommand 1 src).pins = s.pins := by
  rw [State.modCommand_drowsy_eq hready h]
  have hgoes := (((s.targeted 1).sourced src).saveFields).powerOnly_moduleGoes 3 1 s.now
  have hsave : State.powerOnly [] ((s.targeted 1).sourced src) ((s.targeted 1).sourced src).saveFields :=
    ⟨rfl, State.onlyRegs_refl _ _⟩
  have hsrcd := (s.targeted 1).powerOnly_sourced src
  have htarget := s.powerOnly_targeted 1
  refine ⟨?_, ?_, ?_⟩
  · refine (State.cmdErr_moduleGoes _ 3 1 s.now).trans ?_
    exact (hsave.regs.flag (by decide) 0 0).trans ((State.cmdErr_sourced _ src).trans (htarget.regs.flag (by decide) 0 0))
  · rw [hgoes.regs.getF (by decide), hsave.regs.getF (by decide), hsrcd.regs.getF (by decide)]
    exact s.getF_setF_disjoint (f := RF.PWR_MOD_CTL_TARGET) (g := RF.PWR_MOD_CTL_DRAIN_MS) 0 0 1 rfl (by decide)
      (by decide)
  · rw [hgoes.eq, hsave.eq, hsrcd.eq, htarget.eq]

theorem State.modReady_errClear (s : State) : s.errClear.modReady = s.modReady := by
  obtain ⟨heq, hregs, hstat⟩ := s.errClear_only
  have hhalt : s.errClear.halted = s.halted := congrArg (· == 1) (hstat RF.PWR_MOD_STAT_HALTED rfl (by decide) (by decide))
  have hbusy : s.errClear.pBusy = s.pBusy := hregs.flag (x := RF.PWR_PSTATE_BUSY) (by decide) 0 0
  have hboot : s.errClear.boot = s.boot := by rw [heq]
  unfold State.modReady
  rw [hhalt, hbusy, hboot]

theorem State.modState_errClear (s : State) : s.errClear.modState = s.modState :=
  s.errClear_only.2.2 RF.PWR_MOD_STAT_STATE rfl (by decide) (by decide)

theorem State.powerOnly.modReady {l : List Reg} (h : State.powerOnly l s t) (hstat : Reg.PWR_MOD_STAT ∉ l)
    (hpst : Reg.PWR_PSTATE ∉ l) : t.modReady = s.modReady := by
  have hhalt : t.halted = s.halted := h.regs.flag (x := RF.PWR_MOD_STAT_HALTED) hstat 0 0
  have hbusy : t.pBusy = s.pBusy := h.regs.flag (x := RF.PWR_PSTATE_BUSY) hpst 0 0
  have hboot : t.boot = s.boot := by rw [h.eq]
  unfold State.modReady
  rw [hhalt, hbusy, hboot]

theorem State.sbExec_drowsy {c : Nat} {tag arg0 arg1 : BitVec 16} {data : Word} (cool : Bool) (hc : c < 4)
    (hready : s.modReady = true) (hstate : s.modState = 0) (harg : arg0.toNat % 4 = 1) :
    ∃ t, s.sbExec c (sbWords 0x01 tag arg0 arg1 data) cool = (t, 0) ∧ t.pins = s.pins ∧ s.modGoes t 3 1 = true ∧
      t.getF RF.PWR_MOD_CTL_DRAIN_MS 0 0 = max 1 (arg0.toNat / 256) ∧ t.getF RF.PWR_MOD_STAT_SOURCE 0 0 = c := by
  have hms : max 1 (arg0.toNat / 256) < 256 := by omega
  have hclear := s.errClear_only.1
  have hcmdErr := s.cmdErr_errClear
  have hready1 := s.modReady_errClear.trans hready
  have hstate1 := s.modState_errClear.trans hstate
  rw [s.sbExec_module, harg]
  have hrun := s.withModErr_result (g := fun t => (t.drainSet (max 1 (arg0.toNat / 256))).modAny 1 c) rfl
  generalize s.errClear = u at *
  have hdrain := u.powerOnly_drainSet (max 1 (arg0.toNat / 256))
  have hms1 := u.drain_drainSet hms
  change ∃ x, _ = (x, if ((u.drainSet (max 1 (arg0.toNat / 256))).modCommand 1 c).flag RF.PWR_MOD_STAT_CMD_ERR 0 0
    then 2 else 0) ∧ ((u.drainSet (max 1 (arg0.toNat / 256))).modCommand 1 c).modErrKept x at hrun
  generalize u.drainSet (max 1 (arg0.toNat / 256)) = v at *
  have hready2 : v.modReady = true := (hdrain.modReady (by decide) (by decide)).trans hready1
  have hstate2 : v.modState = 0 := (hdrain.regs.getF (x := RF.PWR_MOD_STAT_STATE) (by decide) 0 0).trans hstate1
  obtain ⟨herr, hkeep, hpins⟩ := State.kept_modCommand_drowsy (src := c) hready2 hstate2
  obtain ⟨hcmd, hgoes, -⟩ := State.commanded_drowsy hready2 hc hstate2
  have hsource := hcmd.source (State.modReady_iff.mp hready2).2.2
  generalize v.modCommand 1 c = w at *
  obtain ⟨x, hx, hkept⟩ := hrun
  rw [herr, hdrain.regs.flag (by decide), hcmdErr, if_neg (by decide)] at hx
  obtain ⟨hs1, hs2, hs3⟩ := State.modGoes_iff.mp hgoes
  have hnow : v.now = s.now := by rw [hdrain.eq, hclear]
  refine ⟨x, hx, ?_, State.modGoes_iff.mpr ⟨?_, ?_, ?_⟩, ?_, ?_⟩
  · rw [hkept.pins, hpins, hdrain.eq, hclear]
  · exact (hkept.stat RF.PWR_MOD_STAT_STATE rfl (by decide) (by decide)).trans hs1
  · rw [hkept.power, hs2]
  · rw [hkept.power, hs3, hnow]
  · rw [hkept.regs.getF (by decide), hkeep, hms1]
  · rw [hkept.stat RF.PWR_MOD_STAT_SOURCE rfl (by decide) (by decide), hsource]

theorem State.modCommand_refused_eq {target src : Nat} (h : s.pBusy = false) (hno : s.modReady = false) :
    s.modCommand target src = ((s.targeted target).sourced src).pwrErr := by
  have hrefused : s.boot.stage ≠ .ready ∨ s.halted = true := by
    by_contra hgo
    obtain ⟨hstage, hhalt⟩ := not_or.mp hgo
    exact absurd (hno.symm.trans (State.modReady_iff.mpr ⟨not_not.mp hstage, Bool.not_eq_true _ ▸ hhalt, h⟩)) (by decide)
  rw [State.modCommand_now h, State.modCommandNow_refused ((s.refused_targeted target).mpr hrefused)]

theorem State.sbExec_module_refused {c : Nat} {tag arg0 arg1 : BitVec 16} {data : Word} (cool : Bool)
    (hidle : s.pBusy = false) (hno : s.modReady = false) (harg : arg0.toNat % 4 = 1) :
    ∃ t, s.sbExec c (sbWords 0x01 tag arg0 arg1 data) cool = (t, 2) ∧ t.pins = s.pins ∧ t.modState = s.modState ∧
      t.flag RF.PWR_MOD_STAT_CMD_ERR 0 0 = true := by
  obtain ⟨hclear, hcregs, -⟩ := s.errClear_only
  have hno1 := s.modReady_errClear.trans hno
  have hstate1 := s.modState_errClear
  have hidle1 : s.errClear.pBusy = false := (hcregs.flag (x := RF.PWR_PSTATE_BUSY) (by decide) 0 0).trans hidle
  rw [s.sbExec_module, harg]
  have hrun := s.withModErr_result (g := fun t => (t.drainSet (max 1 (arg0.toNat / 256))).modAny 1 c) rfl
  generalize s.errClear = u at *
  have hdrain := u.powerOnly_drainSet (max 1 (arg0.toNat / 256))
  change ∃ x, _ = (x, if ((u.drainSet (max 1 (arg0.toNat / 256))).modCommand 1 c).flag RF.PWR_MOD_STAT_CMD_ERR 0 0
    then 2 else 0) ∧ ((u.drainSet (max 1 (arg0.toNat / 256))).modCommand 1 c).modErrKept x at hrun
  generalize u.drainSet (max 1 (arg0.toNat / 256)) = v at *
  rw [State.modCommand_refused_eq ((hdrain.regs.flag (x := RF.PWR_PSTATE_BUSY) (by decide) 0 0).trans hidle1)
    ((hdrain.modReady (by decide) (by decide)).trans hno1)] at hrun
  have hstate2 : ((v.targeted 1).sourced c).modState = s.modState :=
    ((v.targeted 1).modState_sourced c).trans ((v.modState_targeted 1).trans
      ((hdrain.regs.getF (x := RF.PWR_MOD_STAT_STATE) (by decide) 0 0).trans hstate1))
  have hpins : ((v.targeted 1).sourced c).pins = s.pins := by
    rw [((v.targeted 1).powerOnly_sourced c).eq, (v.powerOnly_targeted 1).eq, hdrain.eq, hclear]
  generalize (v.targeted 1).sourced c = w at *
  obtain ⟨herr, -⟩ := w.flags_pwrErr
  have hmsg := w.messageOnly_pwrErr
  have hstate3 := (w.getF_pwrErr (x := RF.PWR_MOD_STAT_STATE) rfl (by decide) (by decide)).trans hstate2
  generalize w.pwrErr = y at *
  obtain ⟨x, hx, hkept⟩ := hrun
  rw [herr, if_pos rfl] at hx
  refine ⟨x, hx, ?_, (hkept.stat RF.PWR_MOD_STAT_STATE rfl (by decide) (by decide)).trans hstate3, hkept.err herr⟩
  rw [hkept.pins, hmsg.eq, hpins]

/-! ### P-states, fields, caps and wake arming (R694, R705) -/

theorem State.sbExec_pstate {c : Nat} {tag arg0 arg1 : BitVec 16} {data : Word} (cool : Bool)
    (hready : s.boot.stage = .ready) (harg : arg0.toNat ≤ 5) :
    ∃ t, s.sbExec c (sbWords 0x02 tag arg0 arg1 data) cool = (t, 0) ∧ t.pins = s.pins ∧ t.pTarget = arg0.toNat := by
  have hexec : s.sbExec c (sbWords 0x02 tag arg0 arg1 data) cool =
      if 5 < arg0.toNat then (s, 2) else ((s.sourced c).pstateWrite arg0.toNat, 0) := rfl
  rw [if_neg (by omega)] at hexec
  have hsrcd := s.powerOnly_sourced c
  have hstage : (s.sourced c).boot.stage ≠ .off := by
    show s.boot.stage ≠ .off
    rw [hready]
    decide
  generalize s.sourced c = u at *
  have htarget := (u.targetKept_pstateWrite harg hstage).target.trans (u.pTarget_setTarget harg)
  obtain ⟨hframe, -⟩ := u.pstateWrite_frame arg0.toNat
  refine ⟨_, hexec, ?_, htarget⟩
  rw [hframe, hsrcd.eq]

/-- A field's CMD_ERR is clear while its command runs. -/
def State.fldErrClear (s : State) (c f : Nat) : State := (s.sourced c).setFlag RF.PWR_FLD_STAT_CMD_ERR f 0 false

/-- The field command's result: CMD_ERR stands if it stood. -/
theorem State.sbExec_field (s : State) (c : Nat) (tag arg0 arg1 : BitVec 16) (data : Word) (cool : Bool) :
    s.sbExec c (sbWords 0x03 tag arg0 arg1 data) cool =
      (if s.flag RF.PWR_FLD_STAT_CMD_ERR arg0.toNat 0 then ((s.fldErrClear c arg0.toNat).fieldTarget arg0.toNat
          arg1.toNat).setFlag RF.PWR_FLD_STAT_CMD_ERR arg0.toNat 0 true
        else (s.fldErrClear c arg0.toNat).fieldTarget arg0.toNat arg1.toNat,
       if ((s.fldErrClear c arg0.toNat).fieldTarget arg0.toNat arg1.toNat).flag RF.PWR_FLD_STAT_CMD_ERR arg0.toNat 0
        then 2 else 0) := rfl

theorem State.fieldCommand_fldErrClear (s : State) (c f g : Nat) :
    (s.fldErrClear c f).fieldCommand f g = s.fieldCommand f g := by
  have hsrcd := s.powerOnly_sourced c
  have hm := s.modState_sourced c
  have hhalt : (s.sourced c).halted = s.halted := congrArg (· == 1)
    (s.getF_setF_disjoint (f := RF.PWR_MOD_STAT_SOURCE) (g := RF.PWR_MOD_STAT_HALTED) 0 0 c rfl (by decide) (by decide))
  unfold State.fldErrClear
  generalize s.sourced c = u at *
  have hset : u.onlyRegs [.PWR_FLD_STAT] (u.setFlag RF.PWR_FLD_STAT_CMD_ERR f 0 false) :=
    u.onlyRegs_setFlag f 0 false (by decide)
  have hin : (u.setFlag RF.PWR_FLD_STAT_CMD_ERR f 0 false).inService f = s.inService f :=
    (hset.inService (by decide) f).trans (hsrcd.regs.inService (by decide) f)
  have hmod : (u.setFlag RF.PWR_FLD_STAT_CMD_ERR f 0 false).modState = s.modState :=
    (hset.getF (x := RF.PWR_MOD_STAT_STATE) (by decide) 0 0).trans hm
  have hhalted : (u.setFlag RF.PWR_FLD_STAT_CMD_ERR f 0 false).halted = s.halted :=
    (hset.flag (x := RF.PWR_MOD_STAT_HALTED) (by decide) 0 0).trans hhalt
  have hbusy : (u.setFlag RF.PWR_FLD_STAT_CMD_ERR f 0 false).flag RF.PWR_FLD_STAT_BUSY f 0 =
      s.flag RF.PWR_FLD_STAT_BUSY f 0 :=
    (u.flag_setFlag_disjoint (f := RF.PWR_FLD_STAT_CMD_ERR) (g := RF.PWR_FLD_STAT_BUSY) f 0 false rfl (by decide)
      (by decide)).trans (hsrcd.regs.flag (by decide) f 0)
  have hpower : (u.setFlag RF.PWR_FLD_STAT_CMD_ERR f 0 false).fieldPower f = s.fieldPower f :=
    (u.getF_setF_disjoint (f := RF.PWR_FLD_STAT_CMD_ERR) (g := RF.PWR_FLD_STAT_STATE) f 0 _ rfl (by decide)
      (by decide)).trans (hsrcd.regs.getF (by decide) f 0)
  have hidle : (u.setFlag RF.PWR_FLD_STAT_CMD_ERR f 0 false).fieldIdle f = s.fieldIdle f := by
    show u.fieldIdle f = s.fieldIdle f
    rw [hsrcd.eq]
    rfl
  have hboot : (u.setFlag RF.PWR_FLD_STAT_CMD_ERR f 0 false).boot = s.boot := by
    show u.boot = s.boot
    rw [hsrcd.eq]
  unfold State.fieldCommand State.fieldMay
  rw [hin, hmod, hhalted, hbusy, hpower, hidle, hboot]

theorem State.pins_fldErrClear (s : State) (c f : Nat) :
    (s.fldErrClear c f).pins = s.pins ∧ (s.fldErrClear c f).power = s.power ∧
      (s.fldErrClear c f).flag RF.PWR_FLD_STAT_CMD_ERR f 0 = false :=
  ⟨rfl, rfl, State.flag_setFlag_same _ RF.PWR_FLD_STAT_CMD_ERR f 0 false (by decide) rfl⟩

/-- A field command that is permitted leaves CMD_ERR. -/
theorem State.cmdErr_fieldTarget {f g : Nat} (h : s.fieldCommand f g = true) :
    (s.fieldTarget f g).flag RF.PWR_FLD_STAT_CMD_ERR f 0 = s.flag RF.PWR_FLD_STAT_CMD_ERR f 0 := by
  have hstarted : (s.fieldStarted f g).flag RF.PWR_FLD_STAT_CMD_ERR f 0 = s.flag RF.PWR_FLD_STAT_CMD_ERR f 0 := by
    rw [State.fieldStarted, State.modPower_flag, State.flag_setFlag_disjoint _ (f := RF.PWR_FLD_STAT_BUSY)
      (g := RF.PWR_FLD_STAT_CMD_ERR) f 0 true rfl (by decide) (by decide)]
    exact (s.onlyRegs_setF (l := [.PWR_FLD_CTL]) (f := RF.PWR_FLD_CTL_TARGET) f 0 g (by decide)).flag (by decide) f 0
  rw [State.fieldTarget_of_command h]
  split
  · rw [State.flag_setFieldPower _ f g rfl (by decide) (by decide), hstarted]
  · exact hstarted

theorem State.sbExec_field_command {c : Nat} {tag arg0 arg1 : BitVec 16} {data : Word} (cool : Bool)
    (harg1 : arg1.toNat < 4) (hcmd : s.fieldCommand arg0.toNat arg1.toNat = true) :
    ∃ t, s.sbExec c (sbWords 0x03 tag arg0 arg1 data) cool = (t, 0) ∧ t.pins = s.pins ∧
      t.flag RF.PWR_FLD_STAT_BUSY arg0.toNat 0 = true ∧ t.power.fldTarget.look 0 arg0.toNat = arg1.toNat + 1 ∧
      t.getF RF.PWR_FLD_CTL_TARGET arg0.toNat 0 = arg1.toNat := by
  rw [s.sbExec_field]
  generalize arg0.toNat = f at *
  generalize arg1.toNat = g at *
  have hcmd1 : (s.fldErrClear c f).fieldCommand f g = true := (s.fieldCommand_fldErrClear c f g).trans hcmd
  obtain ⟨hpins, -, hclear⟩ := s.pins_fldErrClear c f
  generalize s.fldErrClear c f = u at *
  obtain ⟨⟨htarget, hdone, -⟩, heq, -⟩ := State.fieldCommanded_fieldTarget u f (target := g) harg1
  obtain ⟨hbusy, hlook, -⟩ := hdone hcmd1
  have herr := (State.cmdErr_fieldTarget hcmd1).trans hclear
  generalize u.fieldTarget f g = w at *
  have hwpins : w.pins = s.pins := by rw [heq, hpins]
  rw [herr, if_neg (by decide : ¬ false = true)]
  split
  · refine ⟨_, rfl, hwpins, ?_, hlook, ?_⟩
    · rw [State.flag_setFlag_disjoint _ (f := RF.PWR_FLD_STAT_CMD_ERR) (g := RF.PWR_FLD_STAT_BUSY) f 0 true rfl
        (by decide) (by decide), hbusy]
    · rw [(w.onlyRegs_setFlag (l := [.PWR_FLD_STAT]) (f := RF.PWR_FLD_STAT_CMD_ERR) f 0 true (by decide)).getF
        (by decide), htarget]
  · exact ⟨w, rfl, hwpins, hbusy, hlook, htarget⟩

theorem State.sbExec_field_refused {c : Nat} {tag arg0 arg1 : BitVec 16} {data : Word} (cool : Bool)
    (harg1 : arg1.toNat < 4) (hcmd : s.fieldCommand arg0.toNat arg1.toNat = false) :
    ∃ t, s.sbExec c (sbWords 0x03 tag arg0 arg1 data) cool = (t, 2) ∧ t.pins = s.pins ∧
      t.flag RF.PWR_FLD_STAT_CMD_ERR arg0.toNat 0 = true ∧ t.power = s.power := by
  rw [s.sbExec_field]
  generalize arg0.toNat = f at *
  generalize arg1.toNat = g at *
  have hcmd1 : (s.fldErrClear c f).fieldCommand f g = false := (s.fieldCommand_fldErrClear c f g).trans hcmd
  obtain ⟨hpins, hpower, -⟩ := s.pins_fldErrClear c f
  generalize s.fldErrClear c f = u at *
  obtain ⟨⟨-, -, hdone⟩, heq, -⟩ := State.fieldCommanded_fieldTarget u f (target := g) harg1
  obtain ⟨herr, -, -, hwpower⟩ := hdone hcmd1
  generalize u.fieldTarget f g = w at *
  have hwpins : w.pins = s.pins := by rw [heq, hpins]
  rw [herr, if_pos rfl]
  split
  · exact ⟨_, rfl, hwpins, State.flag_setFlag_same _ RF.PWR_FLD_STAT_CMD_ERR f 0 true (by decide) rfl,
      hwpower.trans hpower⟩
  · exact ⟨w, rfl, hwpins, herr, hwpower.trans hpower⟩

/-- With ENABLE written to 0 the gates open. -/
def State.gatesOpen (s : State) : State :=
  (List.range 32).foldl (fun (t : State) p => t.setF RF.PWR_PARn_CAP_GATE 0 p 0) (s.setF RF.PWR_GATE_GATE 0 0 0)

theorem State.estOnly_gatesOpen (s : State) : State.estOnly [.PWR_GATE, .PWR_PARn_CAP] s s.gatesOpen :=
  (s.estOnly_setF 0 0 0 (by decide)).trans (State.estOnly_foldl (fun t p => t.estOnly_setF 0 p 0 (by decide)) _ _)

/-- The control of the cap (R694): ENABLE, and HYST where it is in range. -/
theorem State.capCtl_eq (s : State) (n : Nat) : s.capCtl n =
    if 1 ≤ n / 2 % 32 ∧ n / 2 % 32 ≤ 20 then
      (if n % 2 = 0 then (s.setF RF.PWR_CAP_CTL_ENABLE 0 0 (n % 2)).gatesOpen
        else s.setF RF.PWR_CAP_CTL_ENABLE 0 0 (n % 2)).setF RF.PWR_CAP_CTL_HYST 0 0 (n / 2 % 32)
    else if n % 2 = 0 then (s.setF RF.PWR_CAP_CTL_ENABLE 0 0 (n % 2)).gatesOpen
      else s.setF RF.PWR_CAP_CTL_ENABLE 0 0 (n % 2) := rfl

theorem State.capCtl_set (s : State) {n : Nat} (h1 : 1 ≤ n / 2) (h2 : n / 2 ≤ 20) :
    State.estOnly [.PWR_CAP_CTL, .PWR_GATE, .PWR_PARn_CAP] s (s.capCtl n) ∧
      (s.capCtl n).getF RF.PWR_CAP_CTL_ENABLE 0 0 = n % 2 ∧ (s.capCtl n).getF RF.PWR_CAP_CTL_HYST 0 0 = n / 2 := by
  have hhyst : n / 2 % 32 = n / 2 := Nat.mod_eq_of_lt (by omega)
  rw [s.capCtl_eq, hhyst, if_pos ⟨h1, h2⟩]
  have henable := s.getF_setF_fits (x := RF.PWR_CAP_CTL_ENABLE) 0 0 (v := n % 2) (by
    show n % 2 < 2
    omega) (by decide)
  have hset : State.estOnly [.PWR_CAP_CTL] s (s.setF RF.PWR_CAP_CTL_ENABLE 0 0 (n % 2)) :=
    s.estOnly_setF 0 0 _ (by decide)
  generalize s.setF RF.PWR_CAP_CTL_ENABLE 0 0 (n % 2) = u at *
  have hgates : State.estOnly [.PWR_GATE, .PWR_PARn_CAP] u (if n % 2 = 0 then u.gatesOpen else u) := by
    split
    · exact u.estOnly_gatesOpen
    · exact u.estOnly_refl _
  generalize (if n % 2 = 0 then u.gatesOpen else u) = w at *
  refine ⟨(hset.mono (by decide)).trans ((hgates.mono (by decide)).trans (w.estOnly_setF 0 0 _ (by decide))), ?_,
    w.getF_setF_fits 0 0 (Nat.lt_of_le_of_lt h2 (by decide)) (by decide)⟩
  rw [State.getF_setF_disjoint _ (f := RF.PWR_CAP_CTL_HYST) (g := RF.PWR_CAP_CTL_ENABLE) 0 0 _ rfl (by decide)
    (by decide), hgates.regs.getF (by decide), henable]

theorem State.modErrKept.estOnly (h : t.modErrKept u) : State.estOnly [.PWR_MOD_STAT] t u :=
  ⟨by rw [h.eq], by rw [h.power], by rw [h.power], h.regs⟩

theorem State.estOnly.pins {l : List Reg} (h : State.estOnly l s t) : t.pins = s.pins := by rw [h.eq]

theorem State.estOnly_errClear (s : State) : State.estOnly [.PWR_MOD_STAT] s s.errClear :=
  s.estOnly_setF 0 0 _ (by decide)

theorem State.sbExec_capWafer (s : State) (c : Nat) (tag arg0 arg1 : BitVec 16) (data : Word) (cool : Bool) :
    s.sbExec c (sbWords 0x04 tag arg0 arg1 data) cool =
      ((s.withModErr (fun t => t.capWafer data.toNat)).1.capCtl arg0.toNat,
        if 1 ≤ arg0.toNat / 2 ∧ arg0.toNat / 2 ≤ 20 then (s.withModErr (fun t => t.capWafer data.toNat)).2 else 2) := by
  rw [← sbData_sbWords 0x04 tag arg0 arg1 data]
  rfl

theorem State.sbExec_cap_set {c : Nat} {tag arg0 arg1 : BitVec 16} {data : Word} (cool : Bool)
    (hlo : 6000 ≤ data.toNat) (hhi : data.toNat ≤ 26000) (h1 : 1 ≤ arg0.toNat / 2) (h2 : arg0.toNat / 2 ≤ 20) :
    ∃ t, s.sbExec c (sbWords 0x04 tag arg0 arg1 data) cool = (t, 0) ∧ t.pins = s.pins ∧
      t.getF RF.PWR_CAP_WAFER_CAP 0 0 = data.toNat ∧ t.getF RF.PWR_CAP_CTL_ENABLE 0 0 = arg0.toNat % 2 ∧
      t.getF RF.PWR_CAP_CTL_HYST 0 0 = arg0.toNat / 2 := by
  have hclear := s.estOnly_errClear
  have hcap : s.errClear.capWafer data.toNat = s.errClear.setF RF.PWR_CAP_WAFER_CAP 0 0 data.toNat := if_pos ⟨hlo, hhi⟩
  have herr := (s.errClear.onlyRegs_setF (l := [.PWR_CAP_WAFER]) (f := RF.PWR_CAP_WAFER_CAP) 0 0 data.toNat
    (by decide)).flag (x := RF.PWR_MOD_STAT_CMD_ERR) (by decide) 0 0
  rw [s.cmdErr_errClear, ← hcap] at herr
  have hvalue : (s.errClear.capWafer data.toNat).getF RF.PWR_CAP_WAFER_CAP 0 0 = data.toNat := by
    rw [hcap]
    exact State.getF_setF_fits _ 0 0 (Nat.lt_of_le_of_lt hhi (by decide)) (by decide)
  have hset : State.estOnly [.PWR_CAP_WAFER] s.errClear (s.errClear.capWafer data.toNat) := by
    rw [hcap]
    exact State.estOnly_setF _ 0 0 _ (by decide)
  obtain ⟨x, hx, hkept⟩ := State.withModErr_result (g := fun t => t.capWafer data.toNat) herr
  rw [if_neg (by decide : ¬ false = true)] at hx
  obtain ⟨hctl, henable, hhyst⟩ := x.capCtl_set h1 h2
  rw [s.sbExec_capWafer, hx, if_pos ⟨h1, h2⟩]
  generalize s.errClear.capWafer data.toNat = w at *
  generalize s.errClear = u at *
  refine ⟨_, rfl, ?_, ?_, henable, hhyst⟩
  · exact (hctl.pins.trans hkept.pins).trans (hset.pins.trans hclear.pins)
  · rw [hctl.regs.getF (by decide), hkept.regs.getF (by decide), hvalue]

/-- A value outside the range is refused with CMD_ERR, which is the result (R694). -/
theorem State.withModErr_refused {g : State → State} (h : g s.errClear = s.errClear.pwrErr) :
    ∃ x, s.withModErr g = (x, 2) ∧ x.pins = s.pins ∧ x.flag RF.PWR_MOD_STAT_CMD_ERR 0 0 = true ∧
      s.onlyRegs pwrErrRegs x := by
  have hclear := s.estOnly_errClear
  obtain ⟨x, hx, hkept⟩ := s.withModErr_result (g := g) rfl
  rw [h] at hx hkept
  generalize s.errClear = u at *
  obtain ⟨herr, -⟩ := u.flags_pwrErr
  have hmsg := u.messageOnly_pwrErr
  rw [herr, if_pos rfl] at hx
  generalize u.pwrErr = w at *
  exact ⟨x, hx, hkept.pins.trans (hmsg.estOnly.pins.trans hclear.pins), hkept.err herr,
    (hclear.regs.mono (by decide)).trans (hmsg.regs.trans (hkept.regs.mono (by decide)))⟩

theorem State.sbExec_cap_refused {c : Nat} {tag arg0 arg1 : BitVec 16} {data : Word} (cool : Bool)
    (hout : data.toNat < 6000 ∨ 26000 < data.toNat) (h1 : 1 ≤ arg0.toNat / 2) (h2 : arg0.toNat / 2 ≤ 20) :
    ∃ t, s.sbExec c (sbWords 0x04 tag arg0 arg1 data) cool = (t, 2) ∧ t.pins = s.pins ∧
      t.getF RF.PWR_CAP_WAFER_CAP 0 0 = s.getF RF.PWR_CAP_WAFER_CAP 0 0 ∧
      t.flag RF.PWR_MOD_STAT_CMD_ERR 0 0 = true := by
  obtain ⟨x, hx, hpins, herr, hregs⟩ := s.withModErr_refused (g := fun t => t.capWafer data.toNat)
    (if_neg (by omega))
  obtain ⟨hctl, -, -⟩ := x.capCtl_set h1 h2
  rw [s.sbExec_capWafer, hx, if_pos ⟨h1, h2⟩]
  refine ⟨_, rfl, hctl.pins.trans hpins, ?_, ?_⟩
  · rw [hctl.regs.getF (by decide), hregs.getF (by decide)]
  · rw [hctl.regs.flag (by decide), herr]

theorem State.sbExec_capParish (s : State) (c : Nat) (tag arg0 arg1 : BitVec 16) (data : Word) (cool : Bool) :
    s.sbExec c (sbWords 0x05 tag arg0 arg1 data) cool =
      s.withModErr (fun t => t.capParish arg0.toNat data.toNat) := by
  rw [← sbData_sbWords 0x05 tag arg0 arg1 data]
  rfl

theorem State.sbExec_parish_set {c : Nat} {tag arg0 arg1 : BitVec 16} {data : Word} (cool : Bool)
    (hin : data.toNat = 0 ∨ (100 ≤ data.toNat ∧ data.toNat ≤ 26000)) :
    ∃ t, s.sbExec c (sbWords 0x05 tag arg0 arg1 data) cool = (t, 0) ∧ t.pins = s.pins ∧
      t.getF RF.PWR_PARn_CAP_CAP 0 arg0.toNat = data.toNat := by
  have hclear := s.estOnly_errClear
  have hcap : s.errClear.capParish arg0.toNat data.toNat =
    s.errClear.setF RF.PWR_PARn_CAP_CAP 0 arg0.toNat data.toNat := if_pos hin
  have herr := (s.errClear.onlyRegs_setF (l := [.PWR_PARn_CAP]) (f := RF.PWR_PARn_CAP_CAP) 0 arg0.toNat data.toNat
    (by decide)).flag (x := RF.PWR_MOD_STAT_CMD_ERR) (by decide) 0 0
  rw [s.cmdErr_errClear, ← hcap] at herr
  have hvalue : (s.errClear.capParish arg0.toNat data.toNat).getF RF.PWR_PARn_CAP_CAP 0 arg0.toNat = data.toNat := by
    rw [hcap]
    exact State.getF_setF_fits _ 0 _ (by
      show data.toNat < 32768
      omega) (by decide)
  have hset : State.estOnly [.PWR_PARn_CAP] s.errClear (s.errClear.capParish arg0.toNat data.toNat) := by
    rw [hcap]
    exact State.estOnly_setF _ 0 _ _ (by decide)
  obtain ⟨x, hx, hkept⟩ := State.withModErr_result (g := fun t => t.capParish arg0.toNat data.toNat) herr
  rw [s.sbExec_capParish]
  generalize s.errClear.capParish arg0.toNat data.toNat = w at *
  generalize s.errClear = u at *
  refine ⟨x, hx, hkept.pins.trans (hset.pins.trans hclear.pins), ?_⟩
  rw [hkept.regs.getF (by decide), hvalue]

theorem State.sbExec_parish_refused {c : Nat} {tag arg0 arg1 : BitVec 16} {data : Word} (cool : Bool)
    (hout : 0 < data.toNat ∧ data.toNat < 100 ∨ 26000 < data.toNat) :
    ∃ t, s.sbExec c (sbWords 0x05 tag arg0 arg1 data) cool = (t, 2) ∧ t.pins = s.pins ∧
      t.getF RF.PWR_PARn_CAP_CAP 0 arg0.toNat = s.getF RF.PWR_PARn_CAP_CAP 0 arg0.toNat ∧
      t.flag RF.PWR_MOD_STAT_CMD_ERR 0 0 = true := by
  obtain ⟨x, hx, hpins, herr, hregs⟩ := s.withModErr_refused (g := fun t => t.capParish arg0.toNat data.toNat)
    (if_neg (by omega))
  rw [s.sbExec_capParish]
  exact ⟨x, hx, hpins, hregs.getF (by decide) 0 _, herr⟩

theorem State.sbExec_arm {c : Nat} {tag arg0 arg1 : BitVec 16} {data : Word} (cool : Bool) (harg : arg0.toNat < 512) :
    ∃ t, s.sbExec c (sbWords 0x06 tag arg0 arg1 data) cool = (t, 0) ∧ t.pins = s.pins ∧
      t.getF RF.PWR_WAKE_ARM_MASK 0 0 = arg0.toNat % 256 ∧ t.getF RF.PWR_WAKE_ARM_TARGET 0 0 = arg0.toNat / 256 := by
  have hexec : s.sbExec c (sbWords 0x06 tag arg0 arg1 data) cool =
    ((s.setF RF.PWR_WAKE_ARM_MASK 0 0 (arg0.toNat % 256)).setF RF.PWR_WAKE_ARM_TARGET 0 0 (arg0.toNat / 256), 0) := rfl
  refine ⟨_, hexec, rfl, ?_, State.getF_setF_fits _ 0 0 (by
    show arg0.toNat / 256 < 2
    omega) (by decide)⟩
  rw [State.getF_setF_disjoint _ (f := RF.PWR_WAKE_ARM_TARGET) (g := RF.PWR_WAKE_ARM_MASK) 0 0 _ rfl (by decide)
    (by decide)]
  exact s.getF_setF_fits 0 0 (Nat.mod_lt _ (by decide)) (by decide)

/-! ### Thermal resume (R544) -/

theorem State.pins_endHalt (h : s.halted = true) (hbells : s.seq.doorbells = []) (hwait : s.resets.waiting = []) :
    s.endHalt.pins = s.pins := by
  unfold State.endHalt
  rw [h, if_neg (by decide)]
  extract_lets s1 s2
  have hs2 : s2.pins = s.pins := rfl
  have hb : s2.seq.doorbells = [] := hbells
  have hw : s2.resets.waiting = [] := hwait
  clear_value s2
  split
  · exact hs2
  · rw [State.startWaiting, State.releaseDoorbells, hb, List.foldl_nil]
    dsimp only
    rw [hw]
    exact hs2

theorem State.sbExec_resume_cool {c : Nat} {tag arg0 arg1 : BitVec 16} {data : Word} (hhalt : s.halted = true)
    (hbells : s.seq.doorbells = []) (hwait : s.resets.waiting = []) :
    ∃ t, s.sbExec c (sbWords 0x07 tag arg0 arg1 data) true = (t, 0) ∧ t.pins = s.pins ∧ t.halted = false ∧
      t.flag RF.PWR_THERM_CTL_TRIPPED 0 0 = false := by
  have hclear := s.estOnly_errClear
  have herr := s.cmdErr_errClear
  have hhalt1 : s.errClear.halted = true :=
    (congrArg (· == 1) (s.errClear_only.2.2 RF.PWR_MOD_STAT_HALTED rfl (by decide) (by decide))).trans hhalt
  have hrun := s.withModErr_result (g := fun t => t.thermResume true) rfl
  have hexec : s.sbExec c (sbWords 0x07 tag arg0 arg1 data) true = s.withModErr (fun t => t.thermResume true) := rfl
  rw [hexec]
  generalize s.errClear = u at *
  have hb : u.seq.doorbells = [] := by rw [hclear.eq]; exact hbells
  have hw : u.resets.waiting = [] := by rw [hclear.eq]; exact hwait
  have hresume : u.thermResume true = u.endHalt := by
    unfold State.thermResume
    rw [hhalt1]
    rfl
  rw [hresume] at hrun
  have hpins := State.pins_endHalt hhalt1 hb hw
  obtain ⟨w, hw2, hregs⟩ := State.endHalt_of_halted hhalt1 hb hw
  rw [hw2] at hrun hpins
  have hget (y : RF) : w.flag y 0 0 = ((u.setFlag RF.PWR_MOD_STAT_HALTED 0 0 false).setFlag RF.PWR_THERM_CTL_TRIPPED 0 0
      false).flag y 0 0 :=
    congrArg (fun r => bits (mapGet RKey.reset (rkey y.reg 0 0) r) y.lo y.w == 1) hregs
  have hstat : (u.setFlag RF.PWR_MOD_STAT_HALTED 0 0 false).onlyRegs [.PWR_THERM_CTL]
      ((u.setFlag RF.PWR_MOD_STAT_HALTED 0 0 false).setFlag RF.PWR_THERM_CTL_TRIPPED 0 0 false) :=
    State.onlyRegs_setFlag _ 0 0 false (by decide)
  have hwhalt : w.flag RF.PWR_MOD_STAT_HALTED 0 0 = false := by
    rw [hget, hstat.flag (by decide)]
    exact u.flag_setFlag_same RF.PWR_MOD_STAT_HALTED 0 0 false (by decide) rfl
  have hwerr : w.flag RF.PWR_MOD_STAT_CMD_ERR 0 0 = false := by
    rw [hget, hstat.flag (by decide), u.flag_setFlag_disjoint (f := RF.PWR_MOD_STAT_HALTED) (g := RF.PWR_MOD_STAT_CMD_ERR)
      0 0 false rfl (by decide) (by decide), herr]
  have hwtrip : w.flag RF.PWR_THERM_CTL_TRIPPED 0 0 = false := by
    rw [hget]
    exact State.flag_setFlag_same _ RF.PWR_THERM_CTL_TRIPPED 0 0 false (by decide) rfl
  obtain ⟨x, hx, hkept⟩ := hrun
  rw [hwerr, if_neg (by decide)] at hx
  refine ⟨x, hx, hkept.pins.trans (hpins.trans hclear.pins), ?_, (hkept.regs.flag (by decide) 0 0).trans hwtrip⟩
  exact (congrArg (· == 1) (hkept.stat RF.PWR_MOD_STAT_HALTED rfl (by decide) (by decide))).trans hwhalt

theorem State.sbExec_resume_hot {c : Nat} {tag arg0 arg1 : BitVec 16} {data : Word} (hhalt : s.halted = true) :
    ∃ t, s.sbExec c (sbWords 0x07 tag arg0 arg1 data) false = (t, 2) ∧ t.pins = s.pins ∧ t.halted = true ∧
      t.flag RF.PWR_MOD_STAT_CMD_ERR 0 0 = true := by
  have hclear := s.estOnly_errClear
  have hhalt1 : s.errClear.halted = true :=
    (congrArg (· == 1) (s.errClear_only.2.2 RF.PWR_MOD_STAT_HALTED rfl (by decide) (by decide))).trans hhalt
  have hrun := s.withModErr_result (g := fun t => t.thermResume false) rfl
  have hexec : s.sbExec c (sbWords 0x07 tag arg0 arg1 data) false = s.withModErr (fun t => t.thermResume false) := rfl
  rw [hexec]
  generalize s.errClear = u at *
  have hresume : u.thermResume false = u.pwrErr := by
    unfold State.thermResume
    rw [hhalt1]
    rfl
  rw [hresume] at hrun
  obtain ⟨herr, -⟩ := u.flags_pwrErr
  have hwhalt : u.pwrErr.halted = true :=
    (congrArg (· == 1) (u.getF_pwrErr (x := RF.PWR_MOD_STAT_HALTED) rfl (by decide) (by decide))).trans hhalt1
  have hmsg := u.messageOnly_pwrErr
  generalize u.pwrErr = w at *
  obtain ⟨x, hx, hkept⟩ := hrun
  rw [herr, if_pos rfl] at hx
  refine ⟨x, hx, hkept.pins.trans (hmsg.estOnly.pins.trans hclear.pins), ?_, hkept.err herr⟩
  exact (congrArg (· == 1) (hkept.stat RF.PWR_MOD_STAT_HALTED rfl (by decide) (by decide))).trans hwhalt

/-! ### GPIO writes by selector (R777) -/

theorem State.sbExec_gpio (s : State) (c : Nat) (tag arg0 arg1 : BitVec 16) (data : Word) (cool : Bool) :
    s.sbExec c (sbWords 0x10 tag arg0 arg1 data) cool = s.gpioWrite c arg0.toNat data := by
  have hdata : BitVec.ofNat 64 (sbData (sbWords 0x10 tag arg0 arg1 data)) = data := by
    rw [sbData_sbWords, BitVec.ofNat_toNat, BitVec.setWidth_eq]
  have hexec : s.sbExec c (sbWords 0x10 tag arg0 arg1 data) cool =
    s.gpioWrite c arg0.toNat (BitVec.ofNat 64 (sbData (sbWords 0x10 tag arg0 arg1 data))) := rfl
  rw [hexec, hdata]

theorem State.gpioWrite_out (s : State) (c : Nat) (data : Word) : s.gpioWrite c 5 data = (s.gpioOut data.toNat, 0) := rfl

theorem State.gpioWrite_pwm (s : State) (c : Nat) {data : Word} {k : Nat} (hk : k < 4) (h : data.toNat % 512 ≤ 256) :
    s.gpioWrite c (13 + k) data = (s.setF RF.GPIO_PWMk_DUTY 0 k (data.toNat % 512), 0) := by
  match k, hk with
  | 0, _ => exact if_pos h
  | 1, _ => exact if_pos h
  | 2, _ => exact if_pos h
  | 3, _ => exact if_pos h

theorem State.gpioWrite_key (s : State) (c : Nat) (data : Word) :
    s.gpioWrite c 11 data = (s.lockKey c (data.toNat % 65536), 0) := rfl

theorem State.gpioWrite_readOnly (s : State) (c : Nat) (data : Word) {n : Nat} (hlo : 21 ≤ n) (hhi : n ≤ 26) :
    s.gpioWrite c n data = (s.writeErr .GPIO 0 (0x40 + 8 * n) 2, 2) := by
  obtain rfl | rfl | rfl | rfl | rfl | rfl : n = 21 ∨ n = 22 ∨ n = 23 ∨ n = 24 ∨ n = 25 ∨ n = 26 := by omega
  all_goals rfl

/-! ### What the taken command leaves -/

theorem State.getF_sbTaken (s : State) (src : Sideband) (x : RF) (i n : Nat) : (s.sbTaken src).getF x i n = s.getF x i n := by
  cases src <;> rfl

theorem State.rd_sbTaken (s : State) (src : Sideband) (r : Reg) (i n : Nat) : (s.sbTaken src).rd r i n = s.rd r i n := by
  cases src <;> rfl

theorem State.power_sbTaken (s : State) (src : Sideband) : (s.sbTaken src).power = s.power := by cases src <;> rfl

theorem State.regs_sbTaken (s : State) (src : Sideband) : (s.sbTaken src).regs = s.regs := by cases src <;> rfl

theorem State.modReady_sbTaken (s : State) (src : Sideband) : (s.sbTaken src).modReady = s.modReady := by
  cases src <;> rfl

theorem State.fieldCommand_sbTaken (s : State) (src : Sideband) (f g : Nat) :
    (s.sbTaken src).fieldCommand f g = s.fieldCommand f g := by
  cases src <;> rfl

theorem State.lockArm_sbTaken (s : State) (src : Sideband) : (s.sbTaken src).pins.lockArm = s.pins.lockArm := by
  cases src <;> rfl

/-- A command that runs to a state with the pins as they were ends with its result. -/
theorem State.sbRun_of_pins {src : Sideband} {w : List Nat} {cool : Bool} {res : Nat} (h : s.sbNext src w = true)
    (hrun : (s.sbTaken src).sbExec (sbCode src) w cool = (t, res)) (hpins : t.pins = (s.sbTaken src).pins) :
    ∃ u, s.sbRun src w cool = u ∧ s.sbFinished src (w.getD 0 0 % 256) (w.getD 1 0) res t u :=
  State.sbRun_next h hrun ⟨by rw [hpins], by rw [hpins]⟩

end

/-- Settles O44: one lemma for the run of a command, and one for each row of the table of R694. Reserved bits and the
queue's head are the model's by log 176, SMBus results in group 3 by log 177, a read-only selector with CMD_ERR and a
cause-2 record by log 178, and DRAIN_MS 0 stored as 1 by log 179 (all DEDUCED). -/
theorem sidebandCommandsExecute : Obligations.SidebandCommandsExecute := by
  unfold Obligations.SidebandCommandsExecute
  refine ⟨?drowsy, ?refused, ?malformed, ?pstate, ?noPstate, ?field, ?noField, ?cap, ?noCap, ?parish, ?noParish, ?arm,
    ?resume, ?out, ?pwm, ?key, ?readOnly⟩
  case drowsy =>
    rintro src tag arg0 arg1 data x s ⟨rfl, hnext, hready, hstate, harg⟩
    obtain ⟨t, hrun, hpins, hgoes, hdrain, hsource⟩ := State.sbExec_drowsy (s := s.sbTaken src) (tag := tag) (arg1 := arg1)
      (data := data) false (sbCode_lt src) ((s.modReady_sbTaken src).trans hready)
      ((s.getF_sbTaken src _ 0 0).trans hstate) harg
    obtain ⟨u, hu, hdone⟩ := State.sbRun_of_pins hnext hrun hpins
    obtain ⟨h1, h2, h3⟩ := State.modGoes_iff.mp hgoes
    have hnow : (s.sbTaken src).now = s.now := by rw [s.sbTaken_eq]
    refine ⟨u, congrArg Host.Outcome.next hu, State.modGoes_iff.mpr ⟨(hdone.getF _ 0 0).trans h1, ?_, ?_⟩,
      (hdone.getF _ 0 0).trans hdrain, (hdone.getF _ 0 0).trans hsource, hdone.ended⟩
    · rw [hdone.power, h2]
    · rw [hdone.power, h3, hnow]
  case refused =>
    rintro src tag arg0 arg1 data x s ⟨rfl, hnext, hidle, hno, harg⟩
    obtain ⟨t, hrun, hpins, hstate, herr⟩ := State.sbExec_module_refused (s := s.sbTaken src) (c := sbCode src)
      (tag := tag) (arg1 := arg1) (data := data) false ((congrArg (· == 1) (s.getF_sbTaken src _ 0 0)).trans hidle)
      ((s.modReady_sbTaken src).trans hno) harg
    obtain ⟨u, hu, hdone⟩ := State.sbRun_of_pins hnext hrun hpins
    exact ⟨u, congrArg Host.Outcome.next hu, ((hdone.getF _ 0 0).trans hstate).trans (s.getF_sbTaken src _ 0 0),
      (hdone.flag _ 0 0).trans herr, hdone.ended⟩
  case malformed =>
    rintro src tag arg0 arg1 data s ⟨rfl, hruns, hform⟩
    have hdone := State.sbFinished_smbus (s := s) (t := s) (w := sbWords 0x01 tag arg0 arg1 data) 1 rfl
    have hgo : s.sbRun .smbus (sbWords 0x01 tag arg0 arg1 data) false =
        (s.sbResult (sbWords 0x01 tag arg0 arg1 data) 1).send (.sideband 1) := by
      unfold State.sbRun
      rw [hruns]
      exact if_neg (Bool.eq_false_iff.mp hform)
    exact ⟨_, congrArg Host.Outcome.next hgo, hdone.ended, hdone.regs, hdone.power⟩
  case pstate =>
    rintro src tag arg0 arg1 data x s ⟨rfl, hnext, hready, harg⟩
    obtain ⟨t, hrun, hpins, htarget⟩ := State.sbExec_pstate (s := s.sbTaken src) (c := sbCode src) (tag := tag)
      (arg1 := arg1) (data := data) false (by rw [s.sbTaken_eq]; exact hready) harg
    obtain ⟨u, hu, hdone⟩ := State.sbRun_of_pins hnext hrun hpins
    exact ⟨u, congrArg Host.Outcome.next hu, (hdone.getF _ 0 0).trans htarget, hdone.ended⟩
  case noPstate =>
    rintro src tag arg0 arg1 data x s ⟨rfl, hnext, harg⟩
    have hrun : (s.sbTaken src).sbExec (sbCode src) (sbWords 0x02 tag arg0 arg1 data) false = (s.sbTaken src, 2) :=
      if_pos harg
    obtain ⟨u, hu, hdone⟩ := State.sbRun_of_pins hnext hrun rfl
    exact ⟨u, congrArg Host.Outcome.next hu, hdone.power.trans (s.power_sbTaken src),
      hdone.regs.trans (s.regs_sbTaken src), hdone.ended⟩
  case field =>
    rintro src tag arg0 arg1 data x s ⟨rfl, hnext, hcmd⟩
    obtain ⟨-, harg1⟩ := sbWellFormed_field (State.sbNext_runs hnext).2.1
    obtain ⟨t, hrun, hpins, hbusy, hlook, htarget⟩ := State.sbExec_field_command (s := s.sbTaken src) (c := sbCode src)
      (tag := tag) (data := data) false harg1 ((s.fieldCommand_sbTaken src _ _).trans hcmd)
    obtain ⟨u, hu, hdone⟩ := State.sbRun_of_pins hnext hrun hpins
    refine ⟨u, congrArg Host.Outcome.next hu, (hdone.flag _ _ 0).trans hbusy, ?_, (hdone.getF _ _ 0).trans htarget,
      hdone.ended⟩
    rw [hdone.power, hlook]
  case noField =>
    rintro src tag arg0 arg1 data x s ⟨rfl, hnext, hcmd⟩
    obtain ⟨-, harg1⟩ := sbWellFormed_field (State.sbNext_runs hnext).2.1
    obtain ⟨t, hrun, hpins, herr, hpower⟩ := State.sbExec_field_refused (s := s.sbTaken src) (c := sbCode src)
      (tag := tag) (data := data) false harg1 ((s.fieldCommand_sbTaken src _ _).trans hcmd)
    obtain ⟨u, hu, hdone⟩ := State.sbRun_of_pins hnext hrun hpins
    exact ⟨u, congrArg Host.Outcome.next hu, (hdone.flag _ _ 0).trans herr,
      (hdone.power.trans hpower).trans (s.power_sbTaken src), hdone.ended⟩
  case cap =>
    rintro src tag arg0 arg1 data x s ⟨rfl, hnext, hlo, hhi, h1, h2⟩
    obtain ⟨t, hrun, hpins, hcap, henable, hhyst⟩ := State.sbExec_cap_set (s := s.sbTaken src) (c := sbCode src)
      (tag := tag) (arg1 := arg1) false hlo hhi h1 h2
    obtain ⟨u, hu, hdone⟩ := State.sbRun_of_pins hnext hrun hpins
    exact ⟨u, congrArg Host.Outcome.next hu, (hdone.getF _ 0 0).trans hcap, (hdone.getF _ 0 0).trans henable,
      (hdone.getF _ 0 0).trans hhyst, hdone.ended⟩
  case noCap =>
    rintro src tag arg0 arg1 data x s ⟨rfl, hnext, hout, h1, h2⟩
    obtain ⟨t, hrun, hpins, hcap, herr⟩ := State.sbExec_cap_refused (s := s.sbTaken src) (c := sbCode src)
      (tag := tag) (arg1 := arg1) false hout h1 h2
    obtain ⟨u, hu, hdone⟩ := State.sbRun_of_pins hnext hrun hpins
    exact ⟨u, congrArg Host.Outcome.next hu, ((hdone.getF _ 0 0).trans hcap).trans (s.getF_sbTaken src _ 0 0),
      (hdone.flag _ 0 0).trans herr, hdone.ended⟩
  case parish =>
    rintro src tag arg0 arg1 data x s ⟨rfl, hnext, hin⟩
    obtain ⟨t, hrun, hpins, hcap⟩ := State.sbExec_parish_set (s := s.sbTaken src) (c := sbCode src) (tag := tag)
      (arg0 := arg0) (arg1 := arg1) false hin
    obtain ⟨u, hu, hdone⟩ := State.sbRun_of_pins hnext hrun hpins
    exact ⟨u, congrArg Host.Outcome.next hu, (hdone.getF _ 0 _).trans hcap, hdone.ended⟩
  case noParish =>
    rintro src tag arg0 arg1 data x s ⟨rfl, hnext, hout⟩
    obtain ⟨t, hrun, hpins, hcap, herr⟩ := State.sbExec_parish_refused (s := s.sbTaken src) (c := sbCode src)
      (tag := tag) (arg0 := arg0) (arg1 := arg1) false hout
    obtain ⟨u, hu, hdone⟩ := State.sbRun_of_pins hnext hrun hpins
    exact ⟨u, congrArg Host.Outcome.next hu, ((hdone.getF _ 0 _).trans hcap).trans (s.getF_sbTaken src _ 0 _),
      (hdone.flag _ 0 0).trans herr, hdone.ended⟩
  case arm =>
    rintro src tag arg0 arg1 data x s ⟨rfl, hnext⟩
    obtain ⟨t, hrun, hpins, hmask, htarget⟩ := State.sbExec_arm (s := s.sbTaken src) (c := sbCode src) (tag := tag)
      (arg1 := arg1) (data := data) false (sbWellFormed_arm (State.sbNext_runs hnext).2.1)
    obtain ⟨u, hu, hdone⟩ := State.sbRun_of_pins hnext hrun hpins
    exact ⟨u, congrArg Host.Outcome.next hu, (hdone.getF _ 0 0).trans hmask, (hdone.getF _ 0 0).trans htarget,
      hdone.ended⟩
  case resume =>
    rintro src tag arg0 arg1 data cool x s ⟨rfl, hnext, hhalt, hbells, hwait⟩
    have hhalt1 : (s.sbTaken src).halted = true := (congrArg (· == 1) (s.getF_sbTaken src _ 0 0)).trans hhalt
    cases cool with
    | true =>
      obtain ⟨t, hrun, hpins, hend, htrip⟩ := State.sbExec_resume_cool (s := s.sbTaken src) (c := sbCode src) (tag := tag)
        (arg0 := arg0) (arg1 := arg1) (data := data) hhalt1 (by rw [s.sbTaken_eq]; exact hbells)
        (by rw [s.sbTaken_eq]; exact hwait)
      obtain ⟨u, hu, hdone⟩ := State.sbRun_of_pins hnext hrun hpins
      exact ⟨u, congrArg Host.Outcome.next hu, fun _ => ⟨(hdone.flag _ 0 0).trans hend, (hdone.flag _ 0 0).trans htrip,
        hdone.ended⟩, fun h => absurd h (by decide)⟩
    | false =>
      obtain ⟨t, hrun, hpins, hstays, herr⟩ := State.sbExec_resume_hot (s := s.sbTaken src) (c := sbCode src) (tag := tag)
        (arg0 := arg0) (arg1 := arg1) (data := data) hhalt1
      obtain ⟨u, hu, hdone⟩ := State.sbRun_of_pins hnext hrun hpins
      exact ⟨u, congrArg Host.Outcome.next hu, fun h => absurd h (by decide), fun _ =>
        ⟨(hdone.flag _ 0 0).trans hstays, (hdone.flag _ 0 0).trans herr, hdone.ended⟩⟩
  case out =>
    rintro src tag arg0 arg1 data x s ⟨rfl, hnext, harg, hstate⟩
    have hrun := (s.sbTaken src).sbExec_gpio (sbCode src) tag arg0 arg1 data false
    rw [harg, State.gpioWrite_out] at hrun
    have hstate1 : (s.sbTaken src).modState ≠ 2 := by
      rw [State.modState, s.getF_sbTaken]
      exact hstate
    obtain ⟨hout, hpads, -⟩ := State.gpioOut_effect hstate1 data.toNat
    have honly : ((s.sbTaken src).setF RF.GPIO_OUT_OUT 0 0 (data.toNat % 2 ^ 32)).padsOnly
        ((s.sbTaken src).gpioOut data.toNat) := State.padsOnly_drivePads (by
      rw [State.modState, State.getF_setF_reg _ (f := RF.GPIO_OUT_OUT) 0 0 0 0 _ (by decide)]
      exact hstate1)
    generalize (s.sbTaken src).gpioOut data.toNat = t at *
    obtain ⟨u, hu, hdone⟩ := State.sbRun_next hnext hrun ⟨by rw [honly.frame]; rfl, by rw [honly.frame]; rfl⟩
    refine ⟨u, congrArg Host.Outcome.next hu, (hdone.getF _ 0 0).trans hout, hdone.ended, fun i hi b hb => ?_⟩
    rw [hdone.pads]
    refine hpads i hi b (Eq.trans ?_ hb)
    simp only [State.driven, hdone.getF]
  case pwm =>
    rintro src tag arg0 arg1 data x k s ⟨rfl, hnext, harg, hk, hduty⟩
    have hrun := (s.sbTaken src).sbExec_gpio (sbCode src) tag arg0 arg1 data false
    rw [harg, State.gpioWrite_pwm _ _ hk hduty] at hrun
    obtain ⟨u, hu, hdone⟩ := State.sbRun_of_pins hnext hrun rfl
    exact ⟨u, congrArg Host.Outcome.next hu, (hdone.getF _ 0 k).trans (State.getF_setF_fits _ 0 k
      (Nat.lt_of_le_of_lt hduty (by decide)) (by decide)), hdone.ended⟩
  case key =>
    rintro src tag arg0 arg1 data x s ⟨rfl, hnext, harg, hkey, harm⟩
    have hrun := (s.sbTaken src).sbExec_gpio (sbCode src) tag arg0 arg1 data false
    rw [harg, State.gpioWrite_key, hkey] at hrun
    have hlook : (s.sbTaken src).pins.lockArm.look 0 (sbCode src) = 0 := by
      rw [s.lockArm_sbTaken]
      exact harm
    have harmed : ((s.sbTaken src).lockKey (sbCode src) 0x5A5A).pins.lockArm.look 0 (sbCode src) = 1 := by
      unfold State.lockKey
      rw [hlook]
      exact NMap.look_put_same (s.sbTaken src).pins.lockArm 0 (sbCode src) 1
    obtain ⟨u, hu, hdone⟩ := State.sbRun_next hnext hrun ⟨rfl, rfl⟩
    refine ⟨u, congrArg Host.Outcome.next hu, ?_, hdone.ended, hdone.regs.trans (s.regs_sbTaken src)⟩
    rw [hdone.lockArm]
    exact harmed
  case readOnly =>
    rintro src tag arg0 arg1 data x s ⟨rfl, hnext, hlo, hhi⟩
    have hrun := (s.sbTaken src).sbExec_gpio (sbCode src) tag arg0 arg1 data false
    rw [State.gpioWrite_readOnly _ _ _ hlo hhi] at hrun
    have hignored := (s.sbTaken src).writeIgnored_writeErr .GPIO 0 (off := 0x40 + 8 * arg0.toNat) (cause := 2) (by omega)
      (by decide)
    have hrd (q : Reg) (a b : Nat) (hq : q ≠ .HDR_WRITE_ERR) :=
      (s.sbTaken src).rd_writeErr .GPIO 0 (0x40 + 8 * arg0.toNat) 2 hq a b
    have hpins : ((s.sbTaken src).writeErr .GPIO 0 (0x40 + 8 * arg0.toNat) 2).pins = (s.sbTaken src).pins := by
      unfold State.writeErr
      dsimp only
      split <;> rfl
    generalize (s.sbTaken src).writeErr .GPIO 0 (0x40 + 8 * arg0.toNat) 2 = t at *
    obtain ⟨u, hu, hdone⟩ := State.sbRun_of_pins hnext hrun hpins
    refine ⟨u, congrArg Host.Outcome.next hu, ?_, fun q a b hq => ?_, hdone.ended⟩
    · rw [← hignored]
      simp only [State.writeIgnored, State.flag, hdone.getF, s.getF_sbTaken]
    · rw [State.rd_of_regs hdone.regs, hrd q a b hq, s.rd_sbTaken]

end Sys2Proof.Machine

/-! Freezes begin and end (O40): the injection of a trigger, what each state of a standing freeze does with the next
one, the wavefront, and the thaw. -/

namespace Sys2Proof.Machine

section
variable {s t u : State}

/-! ### Messages to the members (R641, R642) -/

theorem State.foldl_send {A : Type} (m : A → OutMsg) (l : List A) (s : State) :
    l.foldl (fun (t : State) a => t.send (m a)) s = { s with out := s.out ++ l.map m } := by
  induction l generalizing s with
  | nil => simp
  | cons a r ih =>
    rw [List.foldl_cons, ih]
    simp only [State.send, List.map_cons, List.append_assoc, List.singleton_append]

/-- What a broadcast sends to the other members. -/
def State.castOut (s : State) (cast : Bool) (kind id : Nat) : List OutMsg :=
  if cast then s.otherMembers.map (fun w => OutMsg.fabric w 0x13 [s.freezeSlot kind id]) else []

theorem State.freezeSend_eq (s : State) (cast : Bool) (kind id : Nat) :
    (if cast then s.freezeSend kind id else s) = { s with out := s.out ++ s.castOut cast kind id } := by
  unfold State.castOut
  cases cast with
  | false => exact congrArg (fun o => { s with out := o }) (List.append_nil _).symm
  | true => exact State.foldl_send _ _ s

/-- The members and the slot are read in the fabric's registers alone. -/
theorem State.onlyRegs.castOut {l : List Reg} (h : s.onlyRegs l t) (hnum : Reg.FAB_NUM ∉ l) (hmem : Reg.FAB_MEMBERS ∉ l)
    (cast : Bool) (kind id : Nat) : t.castOut cast kind id = s.castOut cast kind id := by
  have hown : t.ownWafer = s.ownWafer := by
    unfold State.ownWafer
    rw [h.flag (x := RF.FAB_NUM_ASSIGNED) hnum, h.getF (x := RF.FAB_NUM_NUM) hnum]
  unfold State.castOut State.otherMembers State.freezeSlot
  rw [hown, h.getF (x := RF.FAB_MEMBERS_JOINED) hmem, h.getF (x := RF.FAB_NUM_EPOCH) hnum]

theorem State.ownWafer_lt (s : State) : s.ownWafer < 16 := by
  unfold State.ownWafer
  split
  · exact s.getF_lt RF.FAB_NUM_NUM 0 0
  · decide

/-! ### The injection (R643, R645, R648) -/

/-- The status register of a new freeze. -/
def State.statNamed (u : State) (source : Nat) (tap : Bool) (id origin : Nat) : State :=
  u.setF RF.ASY_FRZ_STAT_STATE 0 0 1 |>.setF RF.ASY_FRZ_STAT_SOURCE 0 0 source
    |>.setFlag RF.ASY_FRZ_STAT_VIA_TAP 0 0 tap |>.setF RF.ASY_FRZ_STAT_FREEZE_ID 0 0 id
    |>.setF RF.ASY_FRZ_STAT_ORIGIN 0 0 origin

/-- The time of a new freeze and its holes. -/
def State.holesNamed (u : State) (ftime : Word) (holes : Nat) : State :=
  u.wr .ASY_FRZ_FTIME 0 0 ftime |>.wr .ASY_FRZ_UNREACHED_LO 0 0 (BitVec.ofNat 64 holes)
    |>.setF RF.ASY_FRZ_UNREACHED_HI_FIELDS 0 0 (holes / 2 ^ 64)

theorem State.statNamed_frame (u : State) (source : Nat) (tap : Bool) (id origin : Nat) :
    u.statNamed source tap id origin = { u with regs := (u.statNamed source tap id origin).regs } := rfl

theorem State.holesNamed_frame (u : State) (ftime : Word) (holes : Nat) :
    u.holesNamed ftime holes = { u with regs := (u.holesNamed ftime holes).regs } := rfl

theorem State.onlyRegs_statNamed (u : State) (source : Nat) (tap : Bool) (id origin : Nat) :
    u.onlyRegs [.ASY_FRZ_STAT] (u.statNamed source tap id origin) := by
  unfold State.statNamed
  refine State.onlyRegs.trans ?_ (State.onlyRegs_setF _ 0 0 _ (by decide))
  refine State.onlyRegs.trans ?_ (State.onlyRegs_setF _ 0 0 _ (by decide))
  refine State.onlyRegs.trans ?_ (State.onlyRegs_setFlag _ 0 0 _ (by decide))
  exact (u.onlyRegs_setF 0 0 _ (by decide)).trans (State.onlyRegs_setF _ 0 0 _ (by decide))

theorem State.onlyRegs_holesNamed (u : State) (ftime : Word) (holes : Nat) :
    u.onlyRegs [.ASY_FRZ_FTIME, .ASY_FRZ_UNREACHED_LO, .ASY_FRZ_UNREACHED_HI] (u.holesNamed ftime holes) :=
  ((u.onlyRegs_wr 0 0 _ (by decide)).trans (State.onlyRegs_wr _ 0 0 _ (by decide))).trans
    (State.onlyRegs_setF _ 0 0 _ (by decide))

theorem State.fields_statNamed (u : State) {source : Nat} (tap : Bool) {id origin : Nat} (hsource : source < 4)
    (hid : id < 65536) (horigin : origin < 16) :
    (u.statNamed source tap id origin).getF RF.ASY_FRZ_STAT_STATE 0 0 = 1 ∧
      (u.statNamed source tap id origin).getF RF.ASY_FRZ_STAT_SOURCE 0 0 = source ∧
      (u.statNamed source tap id origin).flag RF.ASY_FRZ_STAT_VIA_TAP 0 0 = tap ∧
      (u.statNamed source tap id origin).getF RF.ASY_FRZ_STAT_FREEZE_ID 0 0 = id ∧
      (u.statNamed source tap id origin).getF RF.ASY_FRZ_STAT_ORIGIN 0 0 = origin := by
  have hid' : (u.statNamed source tap id origin).getF RF.ASY_FRZ_STAT_FREEZE_ID 0 0 = id := by
    unfold State.statNamed
    rw [State.getF_setF_disjoint _ 0 0 _ (by rfl) (by decide) (by decide)]
    exact State.getF_setF_fits _ 0 0 hid (by decide)
  refine ⟨?_, ?_, ?_, hid', State.getF_setF_fits _ 0 0 horigin (by decide)⟩ <;>
    simp (disch := decide) only [State.statNamed, State.setFlag, State.flag, State.getF_setF_disjoint]
  · exact State.getF_setF_fits _ 0 0 (by decide) (by decide)
  · exact State.getF_setF_fits _ 0 0 hsource (by decide)
  · exact State.flag_setFlag_same _ RF.ASY_FRZ_STAT_VIA_TAP 0 0 tap (by decide) rfl

theorem State.rd_holesNamed (u : State) (ftime : Word) (holes : Nat) :
    (u.holesNamed ftime holes).rd .ASY_FRZ_FTIME 0 0 = ftime ∧
      (u.holesNamed ftime holes).rd .ASY_FRZ_UNREACHED_LO 0 0 = BitVec.ofNat 64 holes := by
  unfold State.holesNamed
  refine ⟨?_, ?_⟩
  · rw [State.rd_setF_reg _ 0 0 0 0 _ (by decide), State.rd_wr_reg _ 0 0 0 0 (by decide), State.rd_wr_same]
  · rw [State.rd_setF_reg _ 0 0 0 0 _ (by decide), State.rd_wr_same]

/-- Every field runs when a freeze begins. -/
def State.fieldsRunning (u : State) : State := (List.range 80).foldl (fun (t : State) f => t.wr .ASY_FLD_STAT f 0 0#64) u

theorem State.foldl_wr_only (u : State) (r : Reg) (v : Word) (l : List Nat) :
    l.foldl (fun (t : State) f => t.wr r f 0 v) u =
        { u with regs := (l.foldl (fun (t : State) f => t.wr r f 0 v) u).regs } ∧
      u.onlyRegs [r] (l.foldl (fun (t : State) f => t.wr r f 0 v) u) := by
  induction l generalizing u with
  | nil => exact ⟨rfl, u.onlyRegs_refl _⟩
  | cons f l ih =>
    obtain ⟨heq, hregs⟩ := ih (u.wr r f 0 v)
    refine ⟨?_, (u.onlyRegs_wr f 0 v (List.mem_singleton_self r)).trans hregs⟩
    rw [List.foldl_cons, heq]
    rfl

theorem State.rd_foldl_wr (u : State) (r : Reg) (v : Word) {n f : Nat} (hn : n ≤ 65536) (hf : f < n) :
    ((List.range n).foldl (fun (t : State) g => t.wr r g 0 v) u).rd r f 0 = v := by
  induction n with
  | zero => omega
  | succ n ih =>
    rw [List.range_succ, List.foldl_append, List.foldl_cons, List.foldl_nil]
    by_cases hfn : f = n
    · rw [hfn, State.rd_wr_same]
    · rw [State.rd_wr_other _ (rkey_ne_of_inst (by omega) (by omega) hfn)]
      exact ih (by omega) (by omega)

/-! ### What a trigger makes of the wafer -/

/-- Does the trigger come from this wafer (R641)? -/
def FreezeReq.isLocal (q : FreezeReq) : Bool := decide (q.source ≠ 3)

/-- The id of a freeze: a fresh one where the trigger is local (R640, R641; log 168). -/
def State.freezeId (s : State) (q : FreezeReq) : Nat := if q.isLocal then s.assay.nextId % 65536 else q.id

/-- The wafer a freeze comes from. -/
def State.freezeOrigin (s : State) (q : FreezeReq) : Nat := if q.isLocal then s.ownWafer else q.wafer

/-- Is the freeze sent to the other members (R642)? -/
def State.freezeCast (s : State) (q : FreezeReq) : Bool := q.isLocal && s.flag RF.ASY_FRZ_CTL_BROADCAST 0 0

/-- The Assay as a freeze begins. -/
def State.assayBegun (s : State) (q : FreezeReq) (a : Assay) : Assay :=
  { a with
    arrived := []
    thawHeld := false
    bcast := s.freezeCast q
    nextId := if q.isLocal then (s.freezeId q + 1) % 65536 else a.nextId }

/-- The registers a freeze writes as it begins. -/
def freezeRegs : List Reg := [.ASY_FLD_STAT, .ASY_FRZ_FTIME, .ASY_FRZ_IGNORED, .ASY_FRZ_STAT, .ASY_FRZ_UNREACHED_HI,
  .ASY_FRZ_UNREACHED_LO, .BIS_RESULTt, .BIS_STAT]

/-- The wafer as a freeze begins: what it shows, and the members it told. -/
structure State.freezeStarted (s : State) (q : FreezeReq) (t : State) : Prop where
  eq : t = { s with
    regs := t.regs
    assay := s.assayBegun q s.assay
    out := s.out ++ s.castOut (s.freezeCast q) 1 (s.freezeId q) }
  regs : s.onlyRegs freezeRegs t
  begun : s.freezeBegun q.source q.tap (s.freezeId q) (s.freezeOrigin q) t = true

/-- The state before the members are told. -/
def State.freezeSet (s : State) (q : FreezeReq) : State :=
  (((s.bistStop.statNamed q.source q.tap (s.freezeId q) (s.freezeOrigin q)).holesNamed (BitVec.ofNat 64 s.fabricTime)
    s.holes).fieldsRunning).modAssay (s.assayBegun q)

theorem State.freezeInject_eq (s : State) (q : FreezeReq) : s.freezeInject q =
    (if s.freezeCast q then (s.freezeSet q).freezeSend 1 (s.freezeId q) else s.freezeSet q) := by
  unfold State.freezeInject
  unfold State.freezeSet State.assayBegun State.freezeCast State.freezeId State.freezeOrigin FreezeReq.isLocal
    State.fieldsRunning State.holesNamed State.statNamed
  dsimp only

/-- The registers of a freeze that begins. -/
structure State.freezeShown (s : State) (source : Nat) (tap : Bool) (id origin : Nat) (t : State) : Prop where
  eq : t = { s with regs := t.regs }
  regs : s.onlyRegs freezeRegs t
  state : t.getF RF.ASY_FRZ_STAT_STATE 0 0 = 1
  source : t.getF RF.ASY_FRZ_STAT_SOURCE 0 0 = source
  tap : t.flag RF.ASY_FRZ_STAT_VIA_TAP 0 0 = tap
  id : t.getF RF.ASY_FRZ_STAT_FREEZE_ID 0 0 = id
  origin : t.getF RF.ASY_FRZ_STAT_ORIGIN 0 0 = origin
  ftime : t.rd .ASY_FRZ_FTIME 0 0 = BitVec.ofNat 64 s.fabricTime
  holes : t.rd .ASY_FRZ_UNREACHED_LO 0 0 = BitVec.ofNat 64 s.holes
  fields : ∀ f < 80, t.rd .ASY_FLD_STAT f 0 = 0#64

theorem State.freezeShown_written (s : State) {source : Nat} (tap : Bool) {id origin : Nat} (hsource : source < 4)
    (hid : id < 65536) (horigin : origin < 16) : s.freezeShown source tap id origin
      (((s.bistStop.statNamed source tap id origin).holesNamed (BitVec.ofNat 64 s.fabricTime) s.holes).fieldsRunning) := by
  obtain ⟨hseq, hstop⟩ := s.regs_bistStop
  generalize s.bistStop = t at *
  have hneq := t.statNamed_frame source tap id origin
  have hnamed := t.onlyRegs_statNamed source tap id origin
  obtain ⟨hstate, hsrc, htap, hfid, horig⟩ := t.fields_statNamed tap hsource hid horigin
  generalize t.statNamed source tap id origin = u at *
  have hheq := u.holesNamed_frame (BitVec.ofNat 64 s.fabricTime) s.holes
  have hholed := u.onlyRegs_holesNamed (BitVec.ofNat 64 s.fabricTime) s.holes
  obtain ⟨hftime, hholes⟩ := u.rd_holesNamed (BitVec.ofNat 64 s.fabricTime) s.holes
  generalize u.holesNamed (BitVec.ofNat 64 s.fabricTime) s.holes = v at *
  obtain ⟨hreq, hrun⟩ : v.fieldsRunning = { v with regs := v.fieldsRunning.regs } ∧
    v.onlyRegs [.ASY_FLD_STAT] v.fieldsRunning := v.foldl_wr_only .ASY_FLD_STAT 0#64 (List.range 80)
  have hfields (f : Nat) (hf : f < 80) : v.fieldsRunning.rd .ASY_FLD_STAT f 0 = 0#64 :=
    v.rd_foldl_wr .ASY_FLD_STAT 0#64 (by omega) hf
  generalize v.fieldsRunning = w at *
  have hlast : u.onlyRegs [.ASY_FRZ_FTIME, .ASY_FRZ_UNREACHED_LO, .ASY_FRZ_UNREACHED_HI, .ASY_FLD_STAT] w :=
    (hholed.mono (by decide)).trans (hrun.mono (by decide))
  exact {
    eq := by rw [hreq, hheq, hneq, hseq]
    regs := (hstop.mono (by decide)).trans ((hnamed.mono (by decide)).trans (hlast.mono (by decide)))
    state := (hlast.getF (by decide) 0 0).trans hstate
    source := (hlast.getF (by decide) 0 0).trans hsrc
    tap := (hlast.flag (by decide) 0 0).trans htap
    id := (hlast.getF (by decide) 0 0).trans hfid
    origin := (hlast.getF (by decide) 0 0).trans horig
    ftime := (hrun _ 0 0 (by decide)).trans hftime
    holes := (hrun _ 0 0 (by decide)).trans hholes
    fields := hfields }

/-- The Assay's own part of a freeze that begins. -/
theorem State.freezeStarted_of {q : FreezeReq}
    (h : s.freezeShown q.source q.tap (s.freezeId q) (s.freezeOrigin q) t) :
    s.freezeStarted q { t.modAssay (s.assayBegun q) with
      out := (t.modAssay (s.assayBegun q)).out ++
        (t.modAssay (s.assayBegun q)).castOut (s.freezeCast q) 1 (s.freezeId q) } := by
  have hcast : (t.modAssay (s.assayBegun q)).castOut (s.freezeCast q) 1 (s.freezeId q) =
      s.castOut (s.freezeCast q) 1 (s.freezeId q) :=
    State.onlyRegs.castOut (t := t.modAssay (s.assayBegun q)) h.regs (by decide) (by decide) _ 1 _
  rw [hcast]
  refine ⟨?_, h.regs, ?_⟩
  · rw [h.eq]
    rfl
  · simp only [State.freezeBegun, Bool.and_eq_true, decide_eq_true_eq, List.all_eq_true, List.mem_range]
    exact ⟨⟨⟨⟨⟨⟨⟨⟨⟨h.state, h.source⟩, h.tap⟩, h.id⟩, h.origin⟩, rfl⟩, rfl⟩, h.ftime⟩, h.holes⟩, h.fields⟩

theorem State.freezeStarted_freezeInject {q : FreezeReq} (hsource : q.source < 4) (hid : q.id < 65536)
    (hwafer : q.wafer < 16) : s.freezeStarted q (s.freezeInject q) := by
  have hid' : s.freezeId q < 65536 := by
    unfold State.freezeId
    split <;> omega
  have horigin : s.freezeOrigin q < 16 := by
    have := s.ownWafer_lt
    unfold State.freezeOrigin
    split <;> omega
  rw [s.freezeInject_eq q, State.freezeSend_eq, State.freezeSet]
  exact State.freezeStarted_of (s.freezeShown_written q.tap hsource hid' horigin)

/-! ### What a trigger does in each state (R642, R654, R658, R722) -/

theorem State.freezeTrigger_of_running {q : FreezeReq} (hready : s.boot.stage = .ready)
    (hstate : s.getF RF.ASY_FRZ_STAT_STATE 0 0 = 0) : s.freezeTrigger q = s.freezeInject q := by
  simp [State.freezeTrigger, State.beforeClocks, hready, hstate]

theorem State.freezeTrigger_of_before {q : FreezeReq}
    (hstage : s.boot.stage = .hearth ∨ s.boot.stage = .reeve ∨ s.boot.stage = .clock) :
    s.freezeTrigger q = s.freezeIgnored := by
  rcases hstage with h | h | h <;> simp [State.freezeTrigger, State.beforeClocks, h]

theorem State.freezeTrigger_of_thawing {q : FreezeReq} (hready : s.boot.stage = .ready)
    (hstate : s.getF RF.ASY_FRZ_STAT_STATE 0 0 = 3) (hnone : s.assay.freezeHeld = none) :
    s.freezeTrigger q = s.modAssay (fun a => { a with freezeHeld := some q }) := by
  simp [State.freezeTrigger, State.beforeClocks, hready, hstate, hnone]

theorem State.onlyRegs_freezeIgnored (s : State) : s.onlyRegs [.ASY_FRZ_IGNORED] s.freezeIgnored :=
  s.onlyRegs_setF 0 0 _ (by decide)

theorem State.freezeIgnored_frame (s : State) : s.freezeIgnored = { s with regs := s.freezeIgnored.regs } := rfl

theorem State.freezeCounted_freezeIgnored (s : State) : s.freezeCounted false s.freezeIgnored = true := by
  have hcount : s.freezeIgnored.getF RF.ASY_FRZ_IGNORED_COUNT 0 0 =
      min (s.getF RF.ASY_FRZ_IGNORED_COUNT 0 0 + 1) (2 ^ 32 - 1) := s.getF_addSat_min _ 0 0 1 (by decide)
  have hstate := s.onlyRegs_freezeIgnored.getF (x := RF.ASY_FRZ_STAT_STATE) (by decide) 0 0
  simp only [State.freezeCounted, hcount, hstate, decide_true, Bool.and_true, Bool.true_and, Bool.not_false,
    Bool.true_or]
  exact (Bool.and_eq_true _ _).mpr ⟨decide_eq_true rfl, decide_eq_true rfl⟩

theorem State.freezeCounted_second (h : s.secondTrigger t) (hassay : t.assay = s.assay) (hout : t.out = s.out) :
    s.freezeCounted true t = true := by
  obtain ⟨hmore, hcount, hstate, -⟩ := h
  simp only [State.freezeCounted, hmore, hcount, hstate, hassay, hout]
  simp

end

end Sys2Proof.Machine

/-! Freezes begin and end (O40), continued: the pin, the register and the messages, the wavefront, the end of a freeze
and the thaw. -/

namespace Sys2Proof.Machine

section
variable {s t u : State}

/-! ### The pin (R639) -/

theorem exec_freezePin_of_saving (h : s.saving = true) : exec .freezePin s = .next (s.noteFreeze 1) := if_pos h

theorem exec_freezePin_of_cut (hsave : s.saving = false)
    (hcut : s.boot.stage = .off ∨ s.flag RF.ASY_FRZ_CTL_PIN_EN 0 0 = false ∨ s.pinTest = true) :
    exec .freezePin s = .next s := by
  have hcond : (decide (s.boot.stage = .off) || !s.flag RF.ASY_FRZ_CTL_PIN_EN 0 0 || s.pinTest) = true := by
    rcases hcut with h | h | h <;> simp [h]
  show execFreezePin s = _
  rw [execFreezePin, hsave]
  exact if_pos hcond

theorem exec_freezePin_of_enabled (hsave : s.saving = false) (hon : s.boot.stage ≠ .off)
    (hen : s.flag RF.ASY_FRZ_CTL_PIN_EN 0 0 = true) (htest : s.pinTest = false) :
    exec .freezePin s = .next (s.freezeTrigger ⟨1, false, 0, 0⟩) := by
  have hcond : (decide (s.boot.stage = .off) || !s.flag RF.ASY_FRZ_CTL_PIN_EN 0 0 || s.pinTest) = false := by
    simp [hon, hen, htest]
  show execFreezePin s = _
  rw [execFreezePin, hsave]
  exact if_neg (ne_true_of_eq_false hcond)

/-! ### Messages of the members (R641, R642) -/

theorem exec_freezeMessage_of_ok {w : WaferId} {id epoch : BitVec 16} (h : s.freezeMsgOk w.val epoch.toNat = true) :
    exec (.freezeMessageReceive w id epoch) s = .next (s.freezeTrigger ⟨3, false, id.toNat, w.val⟩) := if_pos h

theorem exec_freezeMessage_of_bad {w : WaferId} {id epoch : BitVec 16} (h : s.freezeMsgOk w.val epoch.toNat = false)
    (hon : s.boot.stage ≠ .off) : exec (.freezeMessageReceive w id epoch) s = .next s.freezeIgnored :=
  (if_neg (ne_true_of_eq_false h)).trans (if_neg hon)

theorem exec_thawMessage_of_ok {w : WaferId} {id epoch : BitVec 16} (hon : s.boot.stage ≠ .off)
    (h : s.freezeMsgOk w.val epoch.toNat = true) (hstate : s.getF RF.ASY_FRZ_STAT_STATE 0 0 ≠ 0)
    (hid : s.getF RF.ASY_FRZ_STAT_FREEZE_ID 0 0 = id.toNat) :
    exec (.thawMessageReceive w id epoch) s = .next s.thaw :=
  (if_neg hon).trans (if_pos (by simp [h, hstate, hid]))

theorem exec_thawMessage_of_bad {w : WaferId} {id epoch : BitVec 16} (hon : s.boot.stage ≠ .off)
    (h : s.freezeMsgOk w.val epoch.toNat = false ∨ s.getF RF.ASY_FRZ_STAT_STATE 0 0 = 0 ∨
      s.getF RF.ASY_FRZ_STAT_FREEZE_ID 0 0 ≠ id.toNat) :
    exec (.thawMessageReceive w id epoch) s = .next s.freezeIgnored := by
  refine (if_neg hon).trans (if_neg ?_)
  rcases h with h | h | h <;> simp [h]

/-! ### The wavefront (R643–R645, R648) -/

theorem exec_freezeArrive_of_none {f : FieldId} (h : s.getF RF.ASY_FRZ_STAT_STATE 0 0 ≠ 1 ∨ s.fieldMode f.val = 2 ∨
    s.freezeReaches f.val = false) : exec (.freezeArrive f) s = .next s := by
  refine if_pos ?_
  rcases h with h | h | h
  · exact .inl h
  · exact .inr (.inl h)
  · exact .inr (.inr (.inr h))

/-- The freeze reaches a field: its stamp is recorded (R648). -/
def State.waveReached (s : State) (f : Nat) : State :=
  (s.fresh.2.modAssay (fun a => { a with arrived := setInsert f a.arrived })).wr .ASY_FLD_ARRIVE f 0
    (BitVec.ofNat 64 (s.fieldStamp s.serial))

theorem State.waveReached_frame (s : State) (f : Nat) : s.waveReached f = { s with
    serial := s.serial + 1
    regs := (s.waveReached f).regs
    assay := { s.assay with arrived := setInsert f s.assay.arrived } } := rfl

theorem State.onlyRegs_waveReached (s : State) (f : Nat) : s.onlyRegs [.ASY_FLD_ARRIVE] (s.waveReached f) :=
  State.onlyRegs_wr (s.fresh.2.modAssay _) f 0 _ (by decide)

theorem State.rd_waveReached (s : State) (f : Nat) :
    (s.waveReached f).rd .ASY_FLD_ARRIVE f 0 = BitVec.ofNat 64 (s.fieldStamp s.serial) := State.rd_wr_same _ _ f 0 _

theorem exec_freezeArrive_of_reached {f : FieldId} (hstate : s.getF RF.ASY_FRZ_STAT_STATE 0 0 = 1)
    (hmode : s.fieldMode f.val ≠ 2) (hnew : s.assay.arrived.contains f.val = false)
    (hreach : s.freezeReaches f.val = true) : exec (.freezeArrive f) s =
      if (s.waveReached f.val).inReset f.val then
        .next ((s.waveReached f.val).setFlag RF.ASY_FLD_STAT_DEFERRED f.val 0 true)
      else .next ((s.waveReached f.val).fieldStop f.val) :=
  if_neg (by
    rintro (h | h | h | h)
    · exact h hstate
    · exact hmode h
    · exact ne_true_of_eq_false hnew h
    · exact Bool.false_ne_true (h.symm.trans hreach))

/-- A field stops: its flags and its stamps. -/
structure State.fieldHalted (s : State) (f : Nat) (t : State) : Prop where
  eq : t = { s with serial := t.serial, regs := t.regs }
  regs : s.onlyRegs [.ASY_FLD_CROF, .ASY_FLD_MILL, .ASY_FLD_STAT, .ASY_FLD_STOP] t
  stopped : t.stopped f = true
  pass : t.flag RF.ASY_FLD_STAT_PASS_THROUGH f 0 = decide (s.fieldMode f = 1)
  stop : t.rd .ASY_FLD_STOP f 0 = BitVec.ofNat 64 (s.fieldStamp s.serial)
  others : ∀ g, g ≠ f → t.stopped g = s.stopped g ∨ 1024 ≤ g

/-- The flags of a field that stops. -/
def State.statStopped (u : State) (f : Nat) (pass : Bool) : State :=
  (u.setFlag RF.ASY_FLD_STAT_STOPPED f 0 true).setFlag RF.ASY_FLD_STAT_PASS_THROUGH f 0 pass

/-- The stamps of a field that stops. -/
def State.stampsStopped (u : State) (f : Nat) (stop mill crof : Word) : State :=
  ((u.wr .ASY_FLD_STOP f 0 stop).wr .ASY_FLD_MILL f 0 mill).wr .ASY_FLD_CROF f 0 crof

/-- A flag of one field's status register leaves the other fields' registers. -/
theorem State.stopped_setFlag_other (u : State) {x : RF} (hx : x.reg = .ASY_FLD_STAT) {f g : Nat} (hf : f < 1024)
    (hg : g < 1024) (h : g ≠ f) (b : Bool) : (u.setFlag x f 0 b).stopped g = u.stopped g := by
  unfold State.stopped State.flag State.getF State.setFlag State.setF
  rw [hx, State.rd_wr_other _ (rkey_ne_of_inst (by omega) (by omega) h)]

theorem State.onlyRegs_statStopped (u : State) (f : Nat) (pass : Bool) :
    u.onlyRegs [.ASY_FLD_STAT] (u.statStopped f pass) :=
  (u.onlyRegs_setFlag f 0 true (by decide)).trans (State.onlyRegs_setFlag _ f 0 pass (by decide))

theorem State.flags_statStopped (u : State) (f : Nat) (pass : Bool) : (u.statStopped f pass).stopped f = true ∧
    (u.statStopped f pass).flag RF.ASY_FLD_STAT_PASS_THROUGH f 0 = pass :=
  ⟨(State.flag_setFlag_disjoint _ (f := RF.ASY_FLD_STAT_PASS_THROUGH) (g := RF.ASY_FLD_STAT_STOPPED) f 0 pass rfl
      (by decide) (by decide)).trans (u.flag_setFlag_same RF.ASY_FLD_STAT_STOPPED f 0 true (by decide) rfl),
    State.flag_setFlag_same _ RF.ASY_FLD_STAT_PASS_THROUGH f 0 pass (by decide) rfl⟩

theorem State.stopped_statStopped_other (u : State) {f g : Nat} (hf : f < 1024) (hg : g < 1024) (h : g ≠ f)
    (pass : Bool) : (u.statStopped f pass).stopped g = u.stopped g :=
  (State.stopped_setFlag_other _ rfl hf hg h pass).trans (u.stopped_setFlag_other rfl hf hg h true)

theorem State.onlyRegs_stampsStopped (u : State) (f : Nat) (stop mill crof : Word) :
    u.onlyRegs [.ASY_FLD_STOP, .ASY_FLD_MILL, .ASY_FLD_CROF] (u.stampsStopped f stop mill crof) :=
  ((u.onlyRegs_wr f 0 stop (by decide)).trans (State.onlyRegs_wr _ f 0 mill (by decide))).trans
    (State.onlyRegs_wr _ f 0 crof (by decide))

theorem State.rd_stampsStopped (u : State) (f : Nat) (stop mill crof : Word) :
    (u.stampsStopped f stop mill crof).rd .ASY_FLD_STOP f 0 = stop := by
  unfold State.stampsStopped
  rw [State.rd_wr_reg _ f 0 f 0 (by decide), State.rd_wr_reg _ f 0 f 0 (by decide), State.rd_wr_same]

theorem State.fieldHalted_fieldStop (s : State) {f : Nat} (hf : f < 1024) : s.fieldHalted f (s.fieldStop f) := by
  have heq : s.fieldStop f = ((s.fresh.2.fresh.2).statStopped f (decide (s.fieldMode f = 1))).stampsStopped f
      (BitVec.ofNat 64 (s.fieldStamp s.serial)) (Config.freeWord s.serial 0) (Config.freeWord (s.serial + 1) 0) := rfl
  have hfresh : s.fresh.2.fresh.2 = { s with serial := s.serial + 2 } := rfl
  have hfreshOnly : s.onlyRegs [] s.fresh.2.fresh.2 := fun _ _ _ _ => rfl
  rw [heq]
  generalize s.fresh.2.fresh.2 = b at *
  have hframe : b.statStopped f (decide (s.fieldMode f = 1)) =
    { b with regs := (b.statStopped f (decide (s.fieldMode f = 1))).regs } := rfl
  have hstat := b.onlyRegs_statStopped f (decide (s.fieldMode f = 1))
  obtain ⟨hstop, hpass⟩ := b.flags_statStopped f (decide (s.fieldMode f = 1))
  have hother {g : Nat} (hg : g ≠ f) (hlt : g < 1024) := b.stopped_statStopped_other hf hlt hg (decide (s.fieldMode f = 1))
  generalize b.statStopped f (decide (s.fieldMode f = 1)) = t at *
  have hstamps := t.onlyRegs_stampsStopped f (BitVec.ofNat 64 (s.fieldStamp s.serial)) (Config.freeWord s.serial 0)
    (Config.freeWord (s.serial + 1) 0)
  exact {
    eq := by
      rw [show t.stampsStopped f _ _ _ = { t with regs := (t.stampsStopped f _ _ _).regs } from rfl, hframe, hfresh]
    regs := (hfreshOnly.mono (by decide)).trans ((hstat.mono (by decide)).trans (hstamps.mono (by decide)))
    stopped := (hstamps.flag (by decide) f 0).trans hstop
    pass := (hstamps.flag (by decide) f 0).trans hpass
    stop := t.rd_stampsStopped f _ _ _
    others := fun g hg => by
      by_cases hlt : g < 1024
      · exact .inl ((hstamps.flag (by decide) g 0).trans ((hother hg hlt).trans (hfreshOnly.flag (by decide) g 0)))
      · exact .inr (by omega) }

/-! ### The end of a freeze and the thaw (R644, R653, R654) -/

theorem State.thaw_of_frozen (h : s.getF RF.ASY_FRZ_STAT_STATE 0 0 = 2) : s.thaw = s.thawStart := by
  simp [State.thaw, h]

theorem State.thaw_of_freezing (h : s.getF RF.ASY_FRZ_STAT_STATE 0 0 = 1) :
    s.thaw = s.modAssay (fun a => { a with thawHeld := true }) := by
  simp [State.thaw, h]

/-- A thaw starts: the members of a broadcast freeze are told. -/
structure State.thawStarted (s t : State) : Prop where
  eq : t = { s with
    regs := t.regs
    assay := { s.assay with thawHeld := false }
    out := s.out ++ s.castOut s.assay.bcast 2 (s.getF RF.ASY_FRZ_STAT_FREEZE_ID 0 0) }
  regs : s.onlyRegs [.ASY_FRZ_STAT] t
  state : t.getF RF.ASY_FRZ_STAT_STATE 0 0 = 3

/-- The state of a thaw before the members are told. -/
def State.thawSet (s : State) : State :=
  (s.setF RF.ASY_FRZ_STAT_STATE 0 0 3).modAssay (fun a => { a with thawHeld := false })

theorem State.thawStarted_thawStart (s : State) : s.thawStarted s.thawStart := by
  have heq : s.thawStart = if s.assay.bcast then s.thawSet.freezeSend 2 (s.getF RF.ASY_FRZ_STAT_FREEZE_ID 0 0)
    else s.thawSet := rfl
  have hframe : s.thawSet = { s with regs := s.thawSet.regs, assay := { s.assay with thawHeld := false } } := rfl
  have hregs : s.onlyRegs [.ASY_FRZ_STAT] s.thawSet := s.onlyRegs_setF 0 0 3 (by decide)
  have hstate : s.thawSet.getF RF.ASY_FRZ_STAT_STATE 0 0 = 3 := s.getF_setF_fits 0 0 (by decide) (by decide)
  rw [heq, State.freezeSend_eq, hregs.castOut (by decide) (by decide)]
  generalize s.thawSet = t at *
  exact ⟨by rw [hframe], hregs, hstate⟩

/-- Every reachable field has stopped: the wafer is FROZEN (R644). -/
def State.frozenNow (s : State) : State :=
  (s.setF RF.ASY_FRZ_STAT_STATE 0 0 2).modPower (fun p => { p with frozenAt := s.now, calDirty := true })

theorem exec_freezeComplete_of_all (hstate : s.getF RF.ASY_FRZ_STAT_STATE 0 0 = 1)
    (hall : ∀ f < 80, s.fieldMode f = 2 ∨ s.stopped f = true) : exec .freezeComplete s =
      .next (if s.frozenNow.assay.thawHeld then s.frozenNow.thawStart else s.frozenNow) := by
  refine if_pos ⟨hstate, List.all_eq_true.mpr fun f hf => ?_⟩
  rcases hall f (List.mem_range.mp hf) with h | h <;> simp [h]

theorem exec_freezeComplete_of_one {f : Nat} (hf : f < 80) (hmode : s.fieldMode f ≠ 2) (hrun : s.stopped f = false) :
    exec .freezeComplete s = .next s := by
  refine if_neg fun h => ?_
  have hone := List.all_eq_true.mp h.2 f (List.mem_range.mpr hf)
  simp [hmode, hrun] at hone

/-- A field resumes while another is still stopped: only its own flag clears (R653). -/
theorem exec_fieldResume_of_more {f : FieldId} {g : Nat} (hstate : s.getF RF.ASY_FRZ_STAT_STATE 0 0 = 3)
    (hstop : s.stopped f.val = true) (hg : g < 80) (hother : (s.setFlag RF.ASY_FLD_STAT_STOPPED f.val 0 false).stopped
      g = true) (hreqs : s.commons.reqs = []) :
    exec (.fieldResume f) s = .next (s.setFlag RF.ASY_FLD_STAT_STOPPED f.val 0 false) := by
  have hrelease : (s.setFlag RF.ASY_FLD_STAT_STOPPED f.val 0 false).releaseAll =
    s.setFlag RF.ASY_FLD_STAT_STOPPED f.val 0 false := State.releaseHeld_of_none _ _ _ hreqs
  have hany : (List.range 80).any (fun h => (s.setFlag RF.ASY_FLD_STAT_STOPPED f.val 0 false).stopped h) = true :=
    List.any_eq_true.mpr ⟨g, List.mem_range.mpr hg, hother⟩
  show execFieldResume f s = _
  unfold execFieldResume
  rw [if_neg (by simp [hstate, hstop])]
  dsimp only
  rw [hrelease]
  exact if_pos hany

/-! ### The frames of the statement -/

theorem State.freezeStarted.frame {q : FreezeReq} (h : s.freezeStarted q t) :
    t = { s with regs := t.regs, assay := t.assay, out := t.out } := by
  rw [h.eq]

theorem State.freezeStarted.assay {q : FreezeReq} (h : s.freezeStarted q t) : t.assay = s.assayBegun q s.assay := by
  rw [h.eq]

theorem State.freezeStarted.out {q : FreezeReq} (h : s.freezeStarted q t) :
    t.out = s.out ++ s.castOut (s.freezeCast q) 1 (s.freezeId q) := by
  rw [h.eq]

theorem State.thawStarted.frame (h : s.thawStarted t) :
    t = { s with regs := t.regs, assay := t.assay, out := t.out } := by
  rw [h.eq]

theorem State.thawStarted.released (h : s.thawStarted t) : t.assay.thawHeld = false := by
  rw [h.eq]

theorem State.freezeSecond (s : State) (q : FreezeReq) (hready : s.boot.stage = .ready)
    (hstate : s.getF RF.ASY_FRZ_STAT_STATE 0 0 = 1 ∨ s.getF RF.ASY_FRZ_STAT_STATE 0 0 = 2) :
    s.freezeCounted true (s.freezeTrigger q) = true ∧ s.onlyRegs [.ASY_FRZ_STAT, .ASY_FRZ_IGNORED] (s.freezeTrigger q) ∧
      s.freezeTrigger q = { s with regs := (s.freezeTrigger q).regs } := by
  have h := State.secondTrigger_freezeTrigger (q := q) hready hstate
  generalize s.freezeTrigger q = t at *
  have hframe : t = { s with regs := t.regs } := h.2.2.2.2.2.2.2.2
  exact ⟨State.freezeCounted_second h (by rw [hframe]) (by rw [hframe]), h.2.2.2.2.2.2.2.1, hframe⟩

theorem State.fieldStamp_waveReached (s : State) (f k : Nat) : (s.waveReached f).fieldStamp k = s.fieldStamp k := rfl

end

/-- Settles O40. That a local freeze takes a fresh id and that a trigger without effect is counted is log 168
(DEDUCED), that a field in a reset stops after it and that a wafer is THAWING until its last field resumes log 169
(DEDUCED), the stamps log 170 (DESIGN CHOICE), and the resumption log 171 (DEDUCED): the model's choices. -/
theorem freezesBeginAndEnd : Obligations.FreezesBeginAndEnd := by
  refine ⟨?pinBegin, ?pinCut, ?pinSave, ?regBegin, ?regSecond, ?regBefore, ?regThawing, ?msgBegin, ?msgBad, ?arriveStop,
    ?arriveDefer, ?arriveNone, ?completeAll, ?completeOne, ?thawFrozen, ?thawFreezing, ?thawMsg, ?thawMsgBad, ?resume⟩
  case pinBegin =>
    rintro s ⟨hsave, hready, hen, htest, hstate⟩
    refine ⟨_, exec_freezePin_of_enabled hsave (by rw [hready]; decide) hen htest, ?_⟩
    rw [State.freezeTrigger_of_running hready hstate]
    have h := s.freezeStarted_freezeInject (q := ⟨1, false, 0, 0⟩) (by decide) (by decide) (by decide)
    generalize s.freezeInject ⟨1, false, 0, 0⟩ = t at *
    refine ⟨⟨h.begun, congrArg Assay.nextId h.assay⟩, ?_, h.regs⟩
    rw [h.eq]
  case pinCut =>
    rintro s ⟨hsave, hcut⟩
    exact ⟨s, exec_freezePin_of_cut hsave hcut, rfl, rfl, s.onlyRegs_refl _⟩
  case pinSave =>
    rintro x v s ⟨hsave, rfl⟩
    refine ⟨_, exec_freezePin_of_saving (by rw [State.saving, hsave]; rfl), ⟨?_, rfl, rfl⟩, rfl, fun _ _ _ _ => rfl⟩
    show s.hearth.save.map _ = _
    rw [hsave]
    rfl
  case regBegin =>
    rintro s ⟨hready, hstate⟩
    refine ⟨_, rfl, ?_⟩
    rw [State.freezeTrigger_of_running hready hstate]
    have h := s.freezeStarted_freezeInject (q := ⟨2, false, 0, 0⟩) (by decide) (by decide) (by decide)
    generalize s.freezeInject ⟨2, false, 0, 0⟩ = t at *
    exact ⟨⟨h.begun, h.out, congrArg Assay.bcast h.assay⟩, h.frame, h.regs⟩
  case regSecond =>
    rintro s ⟨hready, hstate⟩
    obtain ⟨hcount, hregs, hframe⟩ := s.freezeSecond ⟨2, false, 0, 0⟩ hready hstate
    refine ⟨_, rfl, hcount, ?_, hregs.mono (by decide)⟩
    rw [hframe]
  case regBefore =>
    intro s hstage
    refine ⟨_, rfl, ?_⟩
    rw [State.freezeTrigger_of_before hstage]
    exact ⟨s.freezeCounted_freezeIgnored, s.freezeIgnored_frame, s.onlyRegs_freezeIgnored.mono (by decide)⟩
  case regThawing =>
    rintro s ⟨hready, hstate, hnone⟩
    refine ⟨_, rfl, ?_⟩
    rw [State.freezeTrigger_of_thawing hready hstate hnone]
    exact ⟨⟨rfl, rfl⟩, rfl, fun _ _ _ _ => rfl⟩
  case msgBegin =>
    rintro wafer id epoch s ⟨hok, hready, hstate⟩
    refine ⟨_, exec_freezeMessage_of_ok hok, ?_⟩
    rw [State.freezeTrigger_of_running hready hstate]
    have h := s.freezeStarted_freezeInject (q := ⟨3, false, id.toNat, wafer.val⟩) (Nat.lt_succ_self 3) id.isLt wafer.isLt
    generalize s.freezeInject ⟨3, false, id.toNat, wafer.val⟩ = t at *
    exact ⟨⟨h.begun, h.out.trans (List.append_nil _), (congrArg Assay.nextId h.assay).trans rfl⟩, h.frame, h.regs⟩
  case msgBad =>
    rintro wafer id epoch s ⟨hbad, hon⟩
    exact ⟨_, exec_freezeMessage_of_bad hbad hon, s.freezeCounted_freezeIgnored, s.freezeIgnored_frame,
      s.onlyRegs_freezeIgnored.mono (by decide)⟩
  case arriveStop =>
    rintro f s ⟨hstate, hmode, hnew, hreach, hreset⟩
    refine ⟨_, (exec_freezeArrive_of_reached hstate hmode hnew hreach).trans
      (if_neg (ne_true_of_eq_false hreset)), ?_⟩
    have harrive := s.onlyRegs_waveReached f.val
    have hstamp := s.rd_waveReached f.val
    have hframe := s.waveReached_frame f.val
    have hlate (k : Nat) := s.fieldStamp_waveReached f.val k
    generalize s.waveReached f.val = t at *
    have h := t.fieldHalted_fieldStop (f := f.val) (by omega)
    generalize t.fieldStop f.val = u at *
    have hpass : t.fieldMode f.val = s.fieldMode f.val := harrive.getF (by decide) 0 f.val
    have hfields (g : Nat) : t.stopped g = s.stopped g := harrive.flag (by decide) g 0
    refine ⟨⟨?_, h.stopped, ?_, ⟨s.serial, t.serial, (h.regs _ _ _ (by decide)).trans hstamp, ?_⟩, fun g hg => ?_⟩, ?_,
      (harrive.mono (by decide)).trans (h.regs.mono (by decide))⟩
    · rw [h.eq, hframe]
    · rw [h.pass, hpass]
    · rw [h.stop, hlate]
    · exact (h.others g hg).imp_left (fun e => e.trans (hfields g))
    · rw [h.eq, hframe]
  case arriveDefer =>
    rintro f s ⟨hstate, hmode, hnew, hreach, hreset⟩
    refine ⟨_, (exec_freezeArrive_of_reached hstate hmode hnew hreach).trans (if_pos hreset), ?_⟩
    have harrive := s.onlyRegs_waveReached f.val
    have hframe := s.waveReached_frame f.val
    generalize s.waveReached f.val = t at *
    refine ⟨⟨congrArg (·.assay.arrived) hframe, t.flag_setFlag_same RF.ASY_FLD_STAT_DEFERRED f.val 0 true (by decide) rfl,
      ?_⟩, ?_, (harrive.mono (by decide)).trans (t.onlyRegs_setFlag f.val 0 true (by decide))⟩
    · exact (t.flag_setFlag_disjoint (f := RF.ASY_FLD_STAT_DEFERRED) (g := RF.ASY_FLD_STAT_STOPPED) f.val 0 true rfl
        (by decide) (by decide)).trans (harrive.flag (by decide) f.val 0)
    · rw [show t.setFlag RF.ASY_FLD_STAT_DEFERRED f.val 0 true =
        { t with regs := (t.setFlag RF.ASY_FLD_STAT_DEFERRED f.val 0 true).regs } from rfl, hframe]
  case arriveNone =>
    intro f s hnone
    exact ⟨s, exec_freezeArrive_of_none hnone, rfl, rfl, s.onlyRegs_refl _⟩
  case completeAll =>
    rintro s ⟨hstate, hall⟩
    refine ⟨_, exec_freezeComplete_of_all hstate hall, ?_⟩
    have hframe : s.frozenNow = { s with regs := s.frozenNow.regs, power := s.frozenNow.power } := rfl
    have hat : s.frozenNow.power.frozenAt = s.now := rfl
    have hregs : s.onlyRegs [.ASY_FRZ_STAT] s.frozenNow := s.onlyRegs_setF 0 0 2 (by decide)
    have hfrozen : s.frozenNow.getF RF.ASY_FRZ_STAT_STATE 0 0 = 2 := s.getF_setF_fits 0 0 (by decide) (by decide)
    have hheld : s.frozenNow.assay = s.assay := rfl
    generalize s.frozenNow = t at *
    rw [← hheld]
    by_cases hthaw : t.assay.thawHeld = true
    · rw [if_pos hthaw, if_pos hthaw]
      have h := t.thawStarted_thawStart
      generalize t.thawStart = u at *
      refine ⟨⟨h.state, ?_, h.released⟩, ?_, hregs.trans h.regs⟩
      · rw [h.eq, hat]
      · rw [h.frame, hframe]
    · rw [if_neg hthaw, if_neg hthaw]
      exact ⟨⟨hfrozen, hat, eq_false_of_ne_true hthaw⟩, by rw [hframe], hregs⟩
  case completeOne =>
    rintro f s ⟨hf, hmode, hrun⟩
    exact ⟨s, exec_freezeComplete_of_one hf hmode hrun, rfl, rfl, s.onlyRegs_refl _⟩
  case thawFrozen =>
    intro s hstate
    refine ⟨_, rfl, ?_⟩
    rw [State.thaw_of_frozen hstate]
    have h := s.thawStarted_thawStart
    generalize s.thawStart = t at *
    refine ⟨⟨h.state, h.released, ?_⟩, h.frame, h.regs⟩
    rw [h.eq]
    rfl
  case thawFreezing =>
    intro s hstate
    refine ⟨_, rfl, ?_⟩
    rw [State.thaw_of_freezing hstate]
    exact ⟨⟨rfl, rfl, rfl⟩, rfl, fun _ _ _ _ => rfl⟩
  case thawMsg =>
    rintro wafer id epoch s ⟨hon, hok, hstate, hid⟩
    refine ⟨_, exec_thawMessage_of_ok hon hok (by rw [hstate]; decide) hid, ?_⟩
    rw [State.thaw_of_frozen hstate]
    have h := s.thawStarted_thawStart
    generalize s.thawStart = t at *
    exact ⟨⟨h.state, h.released⟩, h.frame, h.regs.mono (by decide)⟩
  case thawMsgBad =>
    rintro wafer id epoch s ⟨hon, hbad⟩
    exact ⟨_, exec_thawMessage_of_bad hon hbad, s.freezeCounted_freezeIgnored, s.freezeIgnored_frame,
      s.onlyRegs_freezeIgnored.mono (by decide)⟩
  case resume =>
    rintro f g s ⟨hstate, hstop, hg, hne, hgstop, hreqs⟩
    have hother := s.stopped_setFlag_other (x := RF.ASY_FLD_STAT_STOPPED) rfl (f := f.val) (g := g) (by omega) (by omega)
      hne false
    refine ⟨_, exec_fieldResume_of_more hstate hstop hg (hother.trans hgstop) hreqs,
      s.flag_setFlag_same RF.ASY_FLD_STAT_STOPPED f.val 0 false (by decide) rfl, hother.trans hgstop, ?_, rfl, rfl⟩
    exact (s.getF_setF_reg f.val 0 0 0 _ (by decide)).trans hstate

end Sys2Proof.Machine

/-! The Assay window, the TAP and boundary scan (O41). -/

namespace Sys2Proof.Machine

section
variable {s t u : State}

/-! ### The window (R651, R652) -/

/-- ASY_WIN_CTL of a read that starts. -/
def State.windowBusy (s : State) (field chain kind : Nat) : State :=
  s.setF RF.ASY_WIN_CTL_FIELD 0 0 field |>.setF RF.ASY_WIN_CTL_CHAIN 0 0 chain
    |>.setF RF.ASY_WIN_CTL_KIND 0 0 kind |>.setFlag RF.ASY_WIN_CTL_BUSY 0 0 true

theorem State.onlyRegs_windowBusy (s : State) (field chain kind : Nat) :
    s.onlyRegs [.ASY_WIN_CTL] (s.windowBusy field chain kind) :=
  (((s.onlyRegs_setF (f := RF.ASY_WIN_CTL_FIELD) 0 0 _ (by decide)).trans
    (State.onlyRegs_setF _ (f := RF.ASY_WIN_CTL_CHAIN) 0 0 _ (by decide))).trans
    (State.onlyRegs_setF _ (f := RF.ASY_WIN_CTL_KIND) 0 0 _ (by decide))).trans
    (State.onlyRegs_setFlag _ (f := RF.ASY_WIN_CTL_BUSY) 0 0 _ (by decide))

theorem State.fields_windowBusy (s : State) {field chain kind : Nat} (hf : field < 128) (hc : chain < 128)
    (hk : kind < 4) : (s.windowBusy field chain kind).flag RF.ASY_WIN_CTL_BUSY 0 0 = true ∧
      (s.windowBusy field chain kind).getF RF.ASY_WIN_CTL_FIELD 0 0 = field ∧
      (s.windowBusy field chain kind).getF RF.ASY_WIN_CTL_CHAIN 0 0 = chain ∧
      (s.windowBusy field chain kind).getF RF.ASY_WIN_CTL_KIND 0 0 = kind := by
  unfold State.windowBusy
  refine ⟨State.flag_setFlag_same _ RF.ASY_WIN_CTL_BUSY 0 0 true (by decide) rfl, ?_, ?_, ?_⟩ <;>
    simp (disch := decide) only [State.setFlag, State.getF_setF_disjoint]
  · exact State.getF_setF_fits _ 0 0 hf (by decide)
  · exact State.getF_setF_fits _ 0 0 hc (by decide)
  · exact State.getF_setF_fits _ 0 0 hk (by decide)

/-- The read a GO starts: its selection, and the gate in force. -/
def State.windowRead (s : State) (field chain kind : Nat) : AssayRead :=
  ⟨field, chain, kind, s.getF RF.ASY_WIN_ADDR_ADDR 0 0, min 2048 (s.getF RF.ASY_WIN_LEN_LEN 0 0 + 1),
    s.readDenied field kind (s.getF RF.ASY_WIN_ADDR_ADDR 0 0)⟩

theorem State.windowGo_of_idle (h : s.flag RF.ASY_WIN_CTL_BUSY 0 0 = false) (field chain kind : Nat) :
    s.windowGo field chain kind =
      (s.windowBusy field chain kind).modAssay (fun a => { a with reading := some (s.windowRead field chain kind) }) :=
  if_neg (ne_true_of_eq_false h)

/-- A deployed unit denies the data of an owned field that has no grant (R584, R652). -/
theorem State.readDenied_data {field : Nat} (addr : Nat) (hlife : s.lifecycle = lcDeployed) (howner : s.owner field ≠ none)
    (hdebug : s.flag RF.RVE_LIFECYCLE_DEBUG_UNLOCKED 0 0 = false)
    (hgrant : s.flag RF.RVE_PARp_BIND_ASSAY_GRANTED 0 (s.getF RF.RVE_FLDf_OWNER_PARISH 0 field) = false) :
    s.readDenied field 2 addr = true := by
  unfold State.readDenied
  rw [hlife]
  simp [lcManufacture, lcProvisioned, lcReturn, lcDeployed, howner, hdebug, hgrant]

/-- The words of ASY_WIN_DATA that a read fills. -/
def State.dataFilled (s : State) (d : List Byte) (len : Nat) : State :=
  (List.range 256).foldl (fun (t : State) i =>
    if 8 * i < len then t.wr .ASY_WIN_DATA 0 i (BitVec.ofNat 64 (leNat ((d.drop (8 * i)).take 8))) else t)
    { s with serial := s.serial + 2 }

/-- Words of a register that a fold writes where `p` selects them. -/
theorem State.foldl_wr_where (r : Reg) (p : Nat → Prop) [DecidablePred p] (v : Nat → Word) {n : Nat} (hn : n ≤ 4096)
    (s : State) :
    let t := (List.range n).foldl (fun (t : State) i => if p i then t.wr r 0 i (v i) else t) s
    t = { s with regs := t.regs } ∧ s.onlyRegs [r] t ∧ ∀ i < n, p i → t.rd r 0 i = v i := by
  induction n with
  | zero => exact ⟨rfl, s.onlyRegs_refl _, fun i hi => absurd hi (Nat.not_lt_zero i)⟩
  | succ n ih =>
    obtain ⟨heq, hregs, hword⟩ := ih (by omega)
    intro t
    have hstep : t = if p n then ((List.range n).foldl (fun (t : State) i =>
        if p i then t.wr r 0 i (v i) else t) s).wr r 0 n (v n)
        else (List.range n).foldl (fun (t : State) i => if p i then t.wr r 0 i (v i) else t) s := by
      simp only [t, List.range_succ, List.foldl_append, List.foldl_cons, List.foldl_nil]
    clear_value t
    subst hstep
    generalize (List.range n).foldl (fun (t : State) i => if p i then t.wr r 0 i (v i) else t) s = u at *
    by_cases hp : p n
    · simp only [if_pos hp]
      refine ⟨?_, hregs.trans (u.onlyRegs_wr 0 n (v n) (List.mem_singleton_self r)), fun i hi hpi => ?_⟩
      · rw [show u.wr r 0 n (v n) = { u with regs := (u.wr r 0 n (v n)).regs } from rfl, heq]
      · by_cases hin : i = n
        · rw [hin, State.rd_wr_same]
        · rw [State.rd_wr_other _ (rkey_ne_of_idx (by omega) (by omega) hin)]
          exact hword i (by omega) hpi
    · simp only [if_neg hp]
      exact ⟨heq, hregs, fun i hi hpi => hword i (by
        have : i ≠ n := fun e => hp (e ▸ hpi)
        omega) hpi⟩

theorem State.dataFilled_shown (s : State) (d : List Byte) (len : Nat) :
    s.dataFilled d len = { s with serial := (s.dataFilled d len).serial, regs := (s.dataFilled d len).regs } ∧
      s.onlyRegs [.ASY_WIN_DATA] (s.dataFilled d len) ∧
      ∀ i < 256, 8 * i < len → (s.dataFilled d len).rd .ASY_WIN_DATA 0 i =
        BitVec.ofNat 64 (leNat ((d.drop (8 * i)).take 8)) := by
  obtain ⟨heq, hregs, hword⟩ := State.foldl_wr_where .ASY_WIN_DATA (fun i => 8 * i < len)
    (fun i => BitVec.ofNat 64 (leNat ((d.drop (8 * i)).take 8))) (n := 256) (by omega) { s with serial := s.serial + 2 }
  have hfill : (List.range 256).foldl (fun (t : State) i => if 8 * i < len then t.wr .ASY_WIN_DATA 0 i
    (BitVec.ofNat 64 (leNat ((d.drop (8 * i)).take 8))) else t) { s with serial := s.serial + 2 } =
    s.dataFilled d len := rfl
  rw [hfill] at heq hregs hword
  generalize s.dataFilled d len = t at *
  exact ⟨by rw [heq], hregs, hword⟩

/-- A window read is over: DENIED shows where it was, and BUSY clears. -/
def State.windowOver (u : State) (denied : Bool) : State :=
  ((if denied then u.setFlag RF.ASY_WIN_CTL_DENIED 0 0 true else u).setFlag RF.ASY_WIN_CTL_BUSY 0 0 false).modAssay
    (fun a => { a with reading := none })

theorem exec_windowReadDone {x : AssayRead} (h : s.assay.reading = some x) :
    exec .windowReadDone s = .next ((s.dataFilled (s.assayData x) x.len).windowOver x.denied) := by
  show execWindowReadDone s = _
  unfold execWindowReadDone
  rw [h]
  rfl

structure State.windowEnded (u : State) (denied : Bool) (t : State) : Prop where
  eq : t = { u with regs := t.regs, assay := { u.assay with reading := none } }
  regs : u.onlyRegs [.ASY_WIN_CTL] t
  busy : t.flag RF.ASY_WIN_CTL_BUSY 0 0 = false
  denied : t.flag RF.ASY_WIN_CTL_DENIED 0 0 = (denied || u.flag RF.ASY_WIN_CTL_DENIED 0 0)

theorem State.windowEnded_windowOver (u : State) (denied : Bool) : u.windowEnded denied (u.windowOver denied) := by
  have hkept (v : State) : (v.setFlag RF.ASY_WIN_CTL_BUSY 0 0 false).flag RF.ASY_WIN_CTL_DENIED 0 0 =
      v.flag RF.ASY_WIN_CTL_DENIED 0 0 :=
    v.flag_setFlag_disjoint (f := RF.ASY_WIN_CTL_BUSY) 0 0 false rfl (by decide) (by decide)
  have hset : (u.setFlag RF.ASY_WIN_CTL_DENIED 0 0 true).flag RF.ASY_WIN_CTL_DENIED 0 0 = true :=
    u.flag_setFlag_same _ 0 0 true (by decide) rfl
  cases denied with
  | false =>
    exact ⟨rfl, u.onlyRegs_setFlag 0 0 false (by decide),
      u.flag_setFlag_same RF.ASY_WIN_CTL_BUSY 0 0 false (by decide) rfl, hkept u⟩
  | true =>
    exact ⟨rfl, (u.onlyRegs_setFlag (f := RF.ASY_WIN_CTL_DENIED) 0 0 true (by decide)).trans
        (State.onlyRegs_setFlag _ (f := RF.ASY_WIN_CTL_BUSY) 0 0 false (by decide)),
      State.flag_setFlag_same _ RF.ASY_WIN_CTL_BUSY 0 0 false (by decide) rfl,
      (hkept (u.setFlag RF.ASY_WIN_CTL_DENIED 0 0 true)).trans hset⟩

theorem leNat_replicate_zero (n : Nat) : leNat (List.replicate n 0#8) = 0 := by
  induction n with
  | zero => rfl
  | succ n ih => simp [List.replicate_succ, leNat, ih]

/-- A frozen wafer's memory of a place in HBM (R649). -/
theorem State.assayMemory_hbm {addr f off : Nat} (n : Nat) (hstate : s.getF RF.ASY_FRZ_STAT_STATE 0 0 = 2)
    (hplace : Direct.of addr = ⟨s.ownWafer, f, 1, off⟩) : s.assayMemory addr n = s.memRead f 1 off n := by
  unfold State.assayMemory
  simp [hplace, hstate]

/-! ### The gates of the TAP (R650, R652, R669) -/

theorem State.tapGate_open {ok : Bool} (h : ok = true) (data : List Nat) (g : State → State) :
    s.tapGate ok data g = g s := if_pos h

theorem State.tapGate_shut {ok : Bool} (h : ok = false) (data : List Nat) (g : State → State) :
    s.tapGate ok data g = (s.tapMode 0).tapBypass data := if_neg (ne_true_of_eq_false h)

theorem State.tapAnswered_of (mode : Nat) (l : List Nat) (hmode : t.assay.mode = mode)
    (hout : t.out = s.out ++ [.tap l]) : s.tapAnswered mode l t = true :=
  (Bool.and_eq_true _ _).mpr ⟨decide_eq_true hmode, decide_eq_true hout⟩

/-- BYPASS answers with its data a bit later. -/
theorem State.tapAnswered_bypass (s : State) (mode : Nat) (data : List Nat) :
    s.tapAnswered mode (0 :: data.dropLast) ((s.tapMode mode).tapBypass data) = true :=
  State.tapAnswered_of mode _ rfl rfl

/-- A scan instruction that loads the boundary register: the mode it leaves, what it captured and what it loaded. -/
theorem State.tapDrive_answers (s : State) (mode load captured : Nat) :
    (s.tapScan = true → s.tapAnswered mode (bitsOf 442 captured) (s.tapDrive mode load captured) = true ∧
        (s.tapDrive mode load captured).assay.cells = load) ∧
      (s.tapScan = false → s.tapAnswered 0 (0 :: (bitsOf 442 load).dropLast) (s.tapDrive mode load captured) = true ∧
        (s.tapDrive mode load captured).assay.cells = s.assay.cells) ∧
      s.tapDrive mode load captured = { s with
        assay := (s.tapDrive mode load captured).assay
        out := (s.tapDrive mode load captured).out } := by
  unfold State.tapDrive
  cases hscan : s.tapScan with
  | true => exact ⟨fun _ => ⟨State.tapAnswered_of mode _ rfl rfl, rfl⟩, fun h => Bool.noConfusion h, rfl⟩
  | false => exact ⟨fun h => Bool.noConfusion h, fun _ => ⟨s.tapAnswered_bypass 0 _, rfl⟩, rfl⟩

/-- A scan instruction that shifts BYPASS while the pins hold or float. -/
theorem State.tapHeld_answers (s : State) (mode : Nat) (data : List Nat) :
    let t := s.tapGate s.tapScan data (fun t => (t.tapMode mode).tapBypass data)
    s.tapAnswered (if s.tapScan then mode else 0) (0 :: data.dropLast) t = true ∧ t.assay.cells = s.assay.cells ∧
      t = { s with assay := t.assay, out := t.out } := by
  cases hscan : s.tapScan with
  | true => exact ⟨s.tapAnswered_bypass mode data, rfl, rfl⟩
  | false => exact ⟨s.tapAnswered_bypass 0 data, rfl, rfl⟩

/-! ### The chain and the memory through the TAP (R650, R652) -/

/-- A read through the TAP that the gate denies: zeros, and DENIED. -/
def State.tapDenied (s : State) : State := s.setFlag RF.ASY_WIN_CTL_DENIED 0 0 true

theorem exec_tapChain (hopen : s.tapOpen = true) (hnone : s.assay.reading = none) : exec .tapChain s =
    .next (if s.readDenied (nbits s.assay.sel 0 7) (min 2 (nbits s.assay.sel 14 2)) 0 then
      ((s.tapMode 0).freeBits.2.tapDenied).send (.tap ((s.tapMode 0).freeBits.1.map (fun _ => 0)))
    else (s.tapMode 0).freeBits.2.send (.tap (s.tapMode 0).freeBits.1)) := by
  show execTapChain s = _
  unfold execTapChain
  rw [State.tapGate_open hopen, hnone]
  rfl

theorem exec_tapChain_of_held (hopen : s.tapOpen = true) (hheld : s.assay.reading ≠ none) :
    exec .tapChain s = .next s := by
  have h : s.assay.reading.isSome = true := Option.isSome_iff_ne_none.mpr hheld
  show execTapChain s = _
  unfold execTapChain
  rw [State.tapGate_open hopen]
  exact congrArg Host.Outcome.next (if_pos h)

theorem exec_tapMem (addr : BitVec 64) (hopen : s.tapOpen = true) (hnone : s.assay.reading = none) :
    exec (.tapMem addr) s =
      .next (if s.readDenied 0 3 addr.toNat then ((s.tapMode 0).tapDenied).send (.tap (bitsOf 32 0))
        else ({ s.tapMode 0 with serial := s.serial + 2 }).send
          (.tap (bitsOf 32 (leNat ((s.tapMode 0).assayMemory addr.toNat 4))))) := by
  show execTapMem addr s = _
  unfold execTapMem
  rw [State.tapGate_open hopen, hnone]
  rfl

/-! ### The self-test through the TAP (R669) -/

theorem nbits_eq_b2n (n : Nat) {i : Nat} (hi : i < 16) : nbits (n % 65536) i 1 = b2n (n.testBit i) := by
  have hbit : (n % 2 ^ 16).testBit i = n.testBit i := by rw [Nat.testBit_mod_two_pow, decide_eq_true hi, Bool.true_and]
  have hmod : n % 65536 / 2 ^ i % 2 = ((n % 2 ^ 16).testBit i).toNat := (Nat.toNat_testBit _ _).symm
  unfold nbits
  rw [Nat.pow_one, hmod, hbit]
  cases n.testBit i <;> rfl

theorem State.bistWrite_selects (v : BitVec 32) (hopen : s.bistOpen = true) (hbusy : s.bistBusy = false)
    (hgo : v.getLsbD 4 = false) (habort : v.getLsbD 5 = false) : s.bistWrite 1 (v.toNat % 65536) =
      s.bistSelected (BitVec.ofNat 4 (v.toNat % 16)) (v.getLsbD 6) (v.getLsbD 7) (v.getLsbD 8) := by
  have hbit {i : Nat} (hi : i < 16) : nbits (v.toNat % 65536) i 1 = b2n (v.getLsbD i) := nbits_eq_b2n _ hi
  have hsuite : nbits (v.toNat % 65536) 0 4 = (BitVec.ofNat 4 (v.toNat % 16)).toNat := by
    rw [BitVec.toNat_ofNat]
    unfold nbits
    omega
  unfold State.bistWrite
  simp only [hopen, hbusy, hbit (i := 4) (by omega), hbit (i := 5) (by omega), hbit (i := 6) (by omega),
    hbit (i := 7) (by omega), hbit (i := 8) (by omega), hgo, habort, hsuite]
  rfl

/-! ### FREEZE and THAW through the TAP (R650) -/

theorem exec_tapFreeze (hopen : s.tapOpen = true) :
    exec (.tapFreeze true) s = .next ((s.tapMode 0).freezeTrigger ⟨2, true, 0, 0⟩) :=
  congrArg Host.Outcome.next (State.tapGate_open hopen _ _)

theorem exec_tapFreeze_of_shut (hshut : s.tapOpen = false) (update : Bool) :
    exec (.tapFreeze update) s = .next ((s.tapMode 0).tapBypass [b2n update]) :=
  congrArg Host.Outcome.next (State.tapGate_shut hshut _ _)

theorem exec_tapThaw (hopen : s.tapOpen = true) : exec (.tapThaw true) s = .next (s.tapMode 0).thaw :=
  congrArg Host.Outcome.next (State.tapGate_open hopen _ _)

theorem exec_tapThaw_of_shut (hshut : s.tapOpen = false) (update : Bool) :
    exec (.tapThaw update) s = .next ((s.tapMode 0).tapBypass [b2n update]) :=
  congrArg Host.Outcome.next (State.tapGate_shut hshut _ _)

end

/-- Settles O41. That a GO while BUSY is ignored and that MEM and CHAIN wait for the window is log 173 (DEDUCED), what
a chain or another place of memory holds, and its zeros with DENIED, log 172 (DESIGN CHOICE), and what drives the pins
log 174 (DESIGN CHOICE): the model's choices. -/
theorem windowAndTapReadOut : Obligations.WindowAndTapReadOut := by
  refine ⟨?go, ?goDenied, ?goBusy, ?readDenied, ?readMemory, ?reset, ?bypass, ?idcode, ?sample, ?freeze, ?freezeShut,
    ?thaw, ?thawShut, ?sel, ?chainDenied, ?chain, ?chainHeld, ?memDenied, ?mem, ?stat, ?mbx, ?extest, ?clamp, ?highz,
    ?pulse, ?train, ?bisctl, ?bisctlShut⟩
  case go =>
    intro field chain kind s hidle
    refine ⟨_, congrArg Host.Outcome.next (State.windowGo_of_idle hidle _ _ _), ?_⟩
    obtain ⟨hbusy, hfield, hchain, hkind⟩ := s.fields_windowBusy field.isLt chain.isLt kind.isLt
    have hregs := s.onlyRegs_windowBusy field.toNat chain.toNat kind.val
    have hframe : s.windowBusy field.toNat chain.toNat kind.val =
      { s with regs := (s.windowBusy field.toNat chain.toNat kind.val).regs } := rfl
    generalize s.windowBusy field.toNat chain.toNat kind.val = t at *
    refine ⟨⟨hbusy, hfield, hchain, hkind, ?_⟩, ?_, hregs⟩
    · rw [hframe]
      rfl
    · rw [hframe]
      rfl
  case goDenied =>
    rintro field chain kind s ⟨hidle, hlife, hkind, howner, hdebug, hgrant⟩
    refine ⟨_, congrArg Host.Outcome.next (State.windowGo_of_idle hidle _ _ _), ?_⟩
    have hdenied : s.readDenied field.toNat kind.val (s.getF RF.ASY_WIN_ADDR_ADDR 0 0) = true := by
      rw [hkind]
      exact State.readDenied_data _ hlife howner hdebug hgrant
    have hregs := s.onlyRegs_windowBusy field.toNat chain.toNat kind.val
    have hframe : s.windowBusy field.toNat chain.toNat kind.val =
      { s with regs := (s.windowBusy field.toNat chain.toNat kind.val).regs } := rfl
    generalize s.windowBusy field.toNat chain.toNat kind.val = t at *
    refine ⟨congrArg some hdenied, ?_, hregs⟩
    rw [hframe]
    rfl
  case goBusy =>
    intro field chain kind s hbusy
    exact ⟨s, congrArg Host.Outcome.next (if_pos hbusy), rfl, rfl, s.onlyRegs_refl _⟩
  case readDenied =>
    rintro x s ⟨hread, hdenied⟩
    refine ⟨_, exec_windowReadDone hread, ?_⟩
    have hdata : s.assayData x = List.replicate x.len 0#8 := if_pos hdenied
    rw [hdata, hdenied]
    obtain ⟨hfeq, hfregs, hword⟩ := s.dataFilled_shown (List.replicate x.len 0#8) x.len
    generalize s.dataFilled (List.replicate x.len 0#8) x.len = t at *
    have h := t.windowEnded_windowOver true
    generalize t.windowOver true = u at *
    refine ⟨⟨h.denied, h.busy, congrArg (·.assay.reading) h.eq, fun i hi hlt => ?_⟩, ?_,
      (hfregs.mono (by decide)).trans (h.regs.mono (by decide))⟩
    · rw [h.regs _ _ _ (by decide), hword i hi hlt, List.drop_replicate, List.take_replicate, leNat_replicate_zero]
    · rw [h.eq, hfeq]
  case readMemory =>
    rintro x f off s ⟨hread, hdenied, hkind, hstate, hplace⟩
    refine ⟨_, exec_windowReadDone hread, ?_⟩
    have hdata : s.assayData x = s.memRead f 1 off x.len := by
      unfold State.assayData
      rw [if_neg (ne_true_of_eq_false hdenied), if_pos hkind]
      exact State.assayMemory_hbm x.len hstate hplace
    rw [hdata, hdenied]
    obtain ⟨hfeq, hfregs, hword⟩ := s.dataFilled_shown (s.memRead f 1 off x.len) x.len
    generalize s.dataFilled (s.memRead f 1 off x.len) x.len = t at *
    have h := t.windowEnded_windowOver false
    generalize t.windowOver false = u at *
    refine ⟨⟨h.denied.trans (hfregs.flag (by decide) 0 0), h.busy, congrArg (·.assay.reading) h.eq, fun i hi hlt => ?_⟩,
      ?_, (hfregs.mono (by decide)).trans (h.regs.mono (by decide))⟩
    · rw [h.regs _ _ _ (by decide), hword i hi hlt]
    · rw [h.eq, hfeq]
  case reset => exact fun s => ⟨_, rfl, rfl, rfl⟩
  case bypass => exact fun data s => ⟨_, rfl, s.tapAnswered_bypass 0 _, rfl⟩
  case idcode => exact fun s => ⟨_, rfl, State.tapAnswered_of 0 _ rfl rfl, rfl⟩
  case sample =>
    intro load captured s
    cases hopen : s.tapOpen with
    | true =>
      exact ⟨_, congrArg Host.Outcome.next (State.tapGate_open hopen _ _),
        ⟨fun _ => ⟨State.tapAnswered_of 0 _ rfl rfl, rfl⟩, fun h => Bool.noConfusion h⟩, rfl⟩
    | false =>
      exact ⟨_, congrArg Host.Outcome.next (State.tapGate_shut hopen _ _),
        ⟨fun h => Bool.noConfusion h, fun _ => ⟨s.tapAnswered_bypass 0 _, rfl⟩⟩, rfl⟩
  case freeze =>
    rintro update s ⟨hopen, rfl, hready, hstate⟩
    refine ⟨_, exec_tapFreeze hopen, ?_⟩
    rw [State.freezeTrigger_of_running (s := s.tapMode 0) hready hstate]
    have h := (s.tapMode 0).freezeStarted_freezeInject (q := ⟨2, true, 0, 0⟩) (by decide) (by decide) (by decide)
    generalize (s.tapMode 0).freezeInject ⟨2, true, 0, 0⟩ = t at *
    refine ⟨⟨h.begun, congrArg Assay.mode h.assay⟩, ?_, h.regs⟩
    rw [h.frame]
    rfl
  case freezeShut =>
    intro update s hshut
    exact ⟨_, exec_tapFreeze_of_shut hshut update, ⟨s.tapAnswered_bypass 0 [b2n update], rfl⟩, rfl,
      fun _ _ _ _ => rfl⟩
  case thaw =>
    rintro update s ⟨hopen, rfl, hstate⟩
    refine ⟨_, exec_tapThaw hopen, ?_⟩
    rw [State.thaw_of_frozen (s := s.tapMode 0) hstate]
    have h := (s.tapMode 0).thawStarted_thawStart
    generalize (s.tapMode 0).thawStart = t at *
    refine ⟨⟨h.state, congrArg (·.assay.mode) h.eq⟩, ?_, h.regs⟩
    rw [h.frame]
    rfl
  case thawShut =>
    intro update s hshut
    exact ⟨_, exec_tapThaw_of_shut hshut update, ⟨s.tapAnswered_bypass 0 [b2n update], rfl⟩, rfl, fun _ _ _ _ => rfl⟩
  case sel =>
    intro v s
    cases hopen : s.tapOpen with
    | true =>
      exact ⟨_, congrArg Host.Outcome.next (State.tapGate_open hopen _ _),
        ⟨fun _ => ⟨rfl, rfl⟩, fun h => Bool.noConfusion h⟩, rfl⟩
    | false =>
      exact ⟨_, congrArg Host.Outcome.next (State.tapGate_shut hopen _ _),
        ⟨fun h => Bool.noConfusion h, fun _ => ⟨rfl, s.tapAnswered_bypass 0 _⟩⟩, rfl⟩
  case chainDenied =>
    rintro s ⟨hopen, hnone, hdenied⟩
    refine ⟨_, (exec_tapChain hopen hnone).trans (congrArg Host.Outcome.next (if_pos hdenied)), ⟨?_, rfl, ?_⟩, rfl, ?_⟩
    · exact (s.tapMode 0).freeBits.2.flag_setFlag_same RF.ASY_WIN_CTL_DENIED 0 0 true (by decide) rfl
    · exact ⟨(s.tapMode 0).freeBits.1.length, by rw [← List.map_const']; rfl⟩
    · exact (s.tapMode 0).freeBits.2.onlyRegs_setFlag (f := RF.ASY_WIN_CTL_DENIED) 0 0 true (by decide)
  case chain =>
    rintro s ⟨hopen, hnone, hok⟩
    exact ⟨_, (exec_tapChain hopen hnone).trans (congrArg Host.Outcome.next (if_neg (ne_true_of_eq_false hok))),
      ⟨rfl, rfl, _, rfl⟩, rfl, fun _ _ _ _ => rfl⟩
  case chainHeld =>
    rintro s ⟨hopen, hheld⟩
    exact ⟨s, exec_tapChain_of_held hopen hheld, rfl, rfl, s.onlyRegs_refl _⟩
  case memDenied =>
    rintro addr s ⟨hopen, hnone, hdenied⟩
    refine ⟨_, (exec_tapMem addr hopen hnone).trans (congrArg Host.Outcome.next (if_pos hdenied)),
      ⟨?_, State.tapAnswered_of 0 _ rfl rfl⟩, rfl, ?_⟩
    · exact (s.tapMode 0).flag_setFlag_same RF.ASY_WIN_CTL_DENIED 0 0 true (by decide) rfl
    · exact (s.tapMode 0).onlyRegs_setFlag (f := RF.ASY_WIN_CTL_DENIED) 0 0 true (by decide)
  case mem =>
    rintro addr f off s ⟨hopen, hnone, hok, hstate, hplace⟩
    refine ⟨_, (exec_tapMem addr hopen hnone).trans (congrArg Host.Outcome.next (if_neg (ne_true_of_eq_false hok))), ?_⟩
    rw [State.assayMemory_hbm (s := s.tapMode 0) 4 hstate hplace]
    exact ⟨⟨State.tapAnswered_of 0 _ rfl rfl, rfl⟩, rfl, fun _ _ _ _ => rfl⟩
  case stat =>
    intro s hopen
    exact ⟨_, congrArg Host.Outcome.next (State.tapGate_open hopen _ _), State.tapAnswered_of 0 _ rfl rfl, rfl⟩
  case mbx => exact fun s => ⟨_, rfl, ⟨rfl, _, rfl⟩, rfl⟩
  case extest =>
    intro load captured s
    obtain ⟨hscan, hshut, hframe⟩ := s.tapDrive_answers 1 load.toNat captured.toNat
    exact ⟨_, rfl, ⟨hscan, hshut⟩, hframe⟩
  case clamp =>
    intro data s
    obtain ⟨hanswer, hcells, hframe⟩ := s.tapHeld_answers 2 (data.map b2n)
    exact ⟨_, rfl, ⟨hanswer, hcells⟩, hframe⟩
  case highz =>
    intro data s
    obtain ⟨hanswer, hcells, hframe⟩ := s.tapHeld_answers 3 (data.map b2n)
    exact ⟨_, rfl, ⟨hanswer, hcells⟩, hframe⟩
  case pulse =>
    intro load captured s
    obtain ⟨hscan, hshut, hframe⟩ := s.tapDrive_answers 4 load.toNat captured.toNat
    exact ⟨_, rfl, ⟨hscan, hshut⟩, hframe⟩
  case train =>
    intro load captured s
    obtain ⟨hscan, hshut, hframe⟩ := s.tapDrive_answers 5 load.toNat captured.toNat
    exact ⟨_, rfl, ⟨hscan, hshut⟩, hframe⟩
  case bisctl =>
    rintro v s ⟨hscan, hbusy, hgo, habort⟩
    refine ⟨_, congrArg Host.Outcome.next (State.tapGate_open hscan _ _), ?_⟩
    rw [State.bistWrite_selects (s := s.tapMode 0) v hscan hbusy hgo habort]
    obtain ⟨hsuite, hloop, hfixture, hext⟩ := (s.tapMode 0).fields_bistSelected (BitVec.ofNat 4 (v.toNat % 16))
      (v.getLsbD 6) (v.getLsbD 7) (v.getLsbD 8)
    have hframe := (s.tapMode 0).bistSelected_eq (BitVec.ofNat 4 (v.toNat % 16)) (v.getLsbD 6) (v.getLsbD 7)
      (v.getLsbD 8)
    generalize (s.tapMode 0).bistSelected (BitVec.ofNat 4 (v.toNat % 16)) (v.getLsbD 6) (v.getLsbD 7) (v.getLsbD 8) = t
      at *
    refine ⟨⟨State.tapAnswered_of 0 _ (congrArg (·.assay.mode) hframe) ?_, ?_, hloop, hfixture, hext⟩, ?_⟩
    · rw [hframe]
      rfl
    · exact hsuite.trans (by rw [BitVec.toNat_ofNat]; omega)
    · rw [hframe]
      rfl
  case bisctlShut =>
    intro v s hshut
    exact ⟨_, congrArg Host.Outcome.next (State.tapGate_shut hshut _ _), ⟨s.tapAnswered_bypass 0 _, rfl⟩, rfl⟩

end Sys2Proof.Machine

/-! The hangs and recoveries of O30: the failure of a cairn closes its open sequences, which memory shows. -/

namespace Sys2Proof.Machine

/-- A wafer in service whose cairn of field 3 holds one open sequence: record 0 of its page table, in HBM at offset 0,
has its STATE word's open bit set (R297). -/
def openCairn : State :=
  (({ State.reset with boot := { State.reset.boot with stage := .ready } }).setFlag RF.CRN_CTL_ENABLE 3 0 true).memWrite
    3 0 0 [1#8] false

theorem openCairn_mayFail : openCairn.inService 3 = true ∧ engineUnit 3 .cairn 0 = some unitCairn ∧
    openCairn.fenced 3 unitCairn = false ∧ openCairn.frozen = false ∧ openCairn.resets.recoveries = [] ∧
    (openCairn.engine 3 unitCairn).running = [] ∧ (openCairn.engine 3 unitCairn).suspects = [] ∧
    (openCairn.engine 3 unitCairn).queue = [] ∧ (openCairn.cairn 3).job = none := by
  decide +kernel

theorem memRead_openCairn : openCairn.memRead 3 0 0 1 = [1#8] := by decide +kernel

/-- What the byte of the record's STATE word is once the cairn has failed. -/
def stateByteAfter : Host.Outcome State Fault Refusal → List Byte
  | .next t => t.memRead 3 0 0 1
  | _ => []

/-- The fence of the cairn closes the record, with its generation counted up (R321). -/
theorem memRead_fenced : stateByteAfter (exec (.unitFault 3 (.engine .cairn 0)) openCairn) = [8#8] := by
  decide +kernel

/-- Refutes O30. The clause of a failing engine says that memory keeps its bytes; but the failing engine may be a cairn
with an open sequence, whose record the fence closes in the page table in HBM (R321, R616): `openCairn`. -/
theorem not_hangsAndRecovery : ¬ Obligations.HangsAndRecovery := by
  unfold Obligations.HangsAndRecovery
  rintro ⟨-, -, -, -, -, -, -, -, -, hfault, -⟩
  obtain ⟨hservice, hunit, hfenced, hfrozen, hrecoveries, hrunning, hsuspects, hqueue, hjob⟩ := openCairn_mayFail
  obtain ⟨t, hexec, -, -, -, hmem⟩ := hfault 3 (.engine .cairn 0) .cairn 0 unitCairn openCairn
    ⟨rfl, hservice, hunit, hfenced, hfrozen, hrecoveries, hrunning, hsuspects, hqueue, hjob⟩
  have hafter : t.memRead 3 0 0 1 = [8#8] := by
    rw [← memRead_fenced, hexec]
    rfl
  have hkept : t.memRead 3 0 0 1 = openCairn.memRead 3 0 0 1 := by
    unfold State.memRead
    rw [hmem]
  rw [hafter, memRead_openCairn] at hkept
  exact absurd hkept (by decide)

end Sys2Proof.Machine

/-! What the retirement of a field leaves of bring-up (O1): every step of it keeps `State.boot`. -/

namespace Sys2Proof.Machine

/-- From `s` to `t` bring-up stands where it stood. -/
def State.bootKept (s t : State) : Prop := t.boot = s.boot

section
variable {s t u : State}

/-! ### The relation -/

theorem State.bootKept.refl (s : State) : s.bootKept s := rfl

theorem State.bootKept.trans (h : s.bootKept t) (k : t.bootKept u) : s.bootKept u := Eq.trans k h

theorem State.bootKept.ite {c : Prop} [Decidable c] (ht : s.bootKept t) (hu : s.bootKept u) :
    s.bootKept (if c then t else u) := by
  split <;> assumption

theorem State.bootKept.foldl {A : Type} {l : List A} {g : State → A → State} (h : s.bootKept t)
    (hg : ∀ u a, s.bootKept u → s.bootKept (g u a)) : s.bootKept (l.foldl g t) := by
  induction l generalizing t with
  | nil => exact h
  | cons a r ih => exact ih (hg t a h)

/-- What the end of a parish's work changes is no part of bring-up. -/
theorem State.bootKept.work (h : s.bootKept t) (w : t.parishWork u) : s.bootKept u := by
  unfold State.parishWork at w
  exact h.trans (by rw [State.bootKept, w])

/-- What changes the other components that a retirement reaches keeps bring-up. -/
theorem State.bootKept.frame {serial : Nat} {regs : List (RKey × Word)} {mem : Memory} {commons : Commons}
    {crofters : Crofters} {tallies : Tallies} {engines : NMap Engine} {sieves : NMap Sieve} {cairns : Cairns}
    {looms : NMap Loom} {seq : Sequencer} {resets : Resets} {verne : Verne} {host : HostPort} {out : List OutMsg}
    (h : s.bootKept t) :
    s.bootKept ⟨t.now, serial, t.pending, regs, mem, commons, crofters, tallies, engines, sieves, cairns, looms, seq,
      t.boot, resets, verne, t.fabric, t.hbm, host, t.reeve, t.power, t.assay, t.bist, t.hearth, t.pins, t.irq,
      t.timeOffset, out⟩ := h

theorem State.bootKept.wr {r : Reg} {i n : Nat} {v : Word} (h : s.bootKept t) : s.bootKept (t.wr r i n v) := h.frame

theorem State.bootKept.setF {x : RF} {i n v : Nat} (h : s.bootKept t) : s.bootKept (t.setF x i n v) := h.frame

theorem State.bootKept.addSat {x : RF} {i n v : Nat} (h : s.bootKept t) : s.bootKept (t.addSat x i n v) := h.frame

/-! ### Threads (R78, R132, R133) -/

theorem State.bootKept.faultLog {f t' cause : Nat} {tval : Word} (h : s.bootKept t) :
    s.bootKept (t.faultLog f t' cause tval) := by
  unfold State.faultLog
  extract_lets x k s1 par w0 w3
  have h1 : s.bootKept s1 := State.bootKept.ite h.frame h
  clear_value w0 w3 s1
  exact h1.wr.wr.wr.wr.setF.addSat

theorem State.bootKept.trap {f t' cause : Nat} {tval : Word} (h : s.bootKept t) :
    s.bootKept (t.trap f t' cause tval) := by
  have hlog : s.bootKept (if (t.thread f t').priv = .u ∧ cause ≠ 8 ∧ cause ≠ 3 then t.faultLog f t' cause tval else t) :=
    State.bootKept.ite h.faultLog h
  exact hlog.frame

theorem State.bootKept.accessTrap {f t' cause : Nat} {st : AccStatus} {addr : Word} (h : s.bootKept t) :
    s.bootKept (t.accessTrap f t' cause st addr) :=
  State.bootKept.trap (t := t.modThread f t' _) h

theorem State.bootKept.retireWith {f t' n : Nat} {g : Thread → Thread} (h : s.bootKept t) :
    s.bootKept (t.retireWith f t' n g) := h

theorem State.bootKept.loadDone {f t' n addr : Nat} {dst : LoadDst} {lr : Bool} {size : Nat} {r : Reply}
    (h : s.bootKept t) : s.bootKept (t.loadDone f t' n addr dst lr size r) := by
  have h0 : s.bootKept (t.modThread f t' (fun x => { x with st := .ready })) := h
  unfold State.loadDone
  dsimp only
  split
  · exact h0.retireWith
  · exact State.bootKept.ite h0.retireWith h0.accessTrap

theorem State.bootKept.amoDone {f t' : Nat} {rd : XReg} {wide : Bool} {addr : Nat} {r : Reply} (h : s.bootKept t) :
    s.bootKept (t.amoDone f t' rd wide addr r) := by
  have h0 : s.bootKept (t.modThread f t' (fun x => { x with st := .ready })) := h
  unfold State.amoDone
  dsimp only
  split
  · exact h0.retireWith
  · exact h0.accessTrap

theorem State.bootKept.scDone {f t' addr : Nat} {rd : XReg} {r : Reply} (h : s.bootKept t) :
    s.bootKept (t.scDone f t' addr rd r) := by
  have h0 : s.bootKept (t.modThread f t' (fun x => { x with st := .ready })) := h
  unfold State.scDone
  dsimp only
  split
  · exact h0.retireWith
  · exact h0.accessTrap

theorem State.bootKept.fenceWake {f t' : Nat} (h : s.bootKept t) : s.bootKept (t.fenceWake f t') := by
  have h0 : s.bootKept (t.modThread f t' (fun y => { y with st := .ready, fencing := false })) := h
  unfold State.fenceWake
  refine State.bootKept.ite ?_ h
  dsimp only
  split
  · exact State.bootKept.accessTrap (t := (t.modThread f t' _).modThread f t' _) h0
  · exact h0.retireWith

/-! ### Answers (R81, R90, R503) -/

theorem State.bootKept.winErr {fn code : Nat} {isWrite : Bool} {off : Nat} (h : s.bootKept t) :
    s.bootKept (t.winErr fn code isWrite off) := by
  have hcap : s.bootKept (t.capture RF.HST_FN_WIN_ERR_VALID RF.HST_FN_WIN_ERR_MORE fn fun t =>
      t.setF RF.HST_FN_WIN_ERR_CODE fn 0 code |>.setFlag RF.HST_FN_WIN_ERR_WRITE fn 0 isWrite
        |>.setF RF.HST_FN_WIN_ERR_OFFSET fn 0 off) :=
    h.work ((State.parishWork.refl t).capture (State.parishWork.refl t).frame)
  unfold State.winErr
  dsimp only
  rw [State.sendMsix_frame]
  exact hcap

theorem State.bootKept.barFlush (h : s.bootKept t) : s.bootKept t.barFlush :=
  State.bootKept.foldl (t := { t with host := _ }) h fun _ _ h1 => h1

theorem State.bootKept.barAnswer {fn : Nat} {isWrite : Bool} {off id : Nat} {rep : Reply} (h : s.bootKept t) :
    s.bootKept (t.barAnswer fn isWrite off id rep) := by
  unfold State.barAnswer
  extract_lets s1
  have h1 : s.bootKept s1 := by
    unfold s1
    split
    · exact h
    · exact h.winErr
  clear_value s1
  exact State.bootKept.ite h1 (State.bootKept.barFlush (t := { s1 with host := _ }) h1)

theorem State.bootKept.finishAccess {r : Request} {n : Nat} {rep : Reply} (h : s.bootKept t) :
    s.bootKept (t.finishAccess r n rep) := by
  unfold State.finishAccess
  split
  · exact h.loadDone
  · dsimp only
    split
    · exact h.fenceWake
    · exact State.bootKept.fenceWake (t := t.modThread _ _ _) h
  · exact h.amoDone
  · exact h.scDone
  · exact h.barAnswer
  · dsimp only
    split
    · exact h
    · exact h
  · exact h
  · exact h
  · exact h

theorem State.bootKept.answer {r : Request} {rep : Reply} (h : s.bootKept t) : s.bootKept (t.answer r rep) := by
  unfold State.answer
  refine State.bootKept.ite h ?_
  dsimp only
  split
  · exact h
  · exact State.bootKept.finishAccess (t := { (t.dropReq r.id).pushReq _ with commons := _ }) h

theorem State.bootKept.failReq {target : Option Nat} {r : Request} {st : AccStatus} (h : s.bootKept t) :
    s.bootKept (t.failReq target r st) :=
  State.bootKept.answer (h.work (State.parishWork.refl t).noteAccess)

theorem State.bootKept.failReqs {target : Option Nat} {st : AccStatus} {p : Request → Bool} (h : s.bootKept t) :
    s.bootKept (t.failReqs target st p) :=
  h.foldl fun _ _ h1 => h1.failReq

theorem State.bootKept.failFills {f : Nat} {st : AccStatus} (h : s.bootKept t) : s.bootKept (t.failFills f st) :=
  State.bootKept.foldl (t := { t with commons := _ }) h fun _ _ h1 => h1.failReq

/-! ### The body of a field (R48, R93, R137, R319) -/

theorem State.bootKept.loseThreads {f : Nat} (h : s.bootKept t) : s.bootKept (t.loseThreads f) := by
  have hcut : s.bootKept ((t.liveThreads f).foldl
      (fun (x : State) i => x.cutThread f i (some ⟨0x0A, 0, f⟩) true) t) :=
    h.foldl fun x _ h1 => h1.work (State.parishWork.refl x).cutThread
  exact State.bootKept.foldl hcut.frame fun _ _ h1 => State.bootKept.ite h1.frame h1

theorem State.bootKept.failSheafOpt {n : Option Nat} {status sub detail : Nat} (h : s.bootKept t) :
    s.bootKept (t.failSheafOpt n status sub detail) := by
  cases n with
  | none => exact h
  | some n => exact h

theorem State.bootKept.loseTask {f n : Nat} {keep : Bool} {status detail : Nat} {x : EngTask} (h : s.bootKept t) :
    s.bootKept (t.loseTask f n keep status detail x) := by
  unfold State.loseTask
  extract_lets s1 s2
  have h1 : s.bootKept s1 := h.failSheafOpt.ite h
  clear_value s1
  have h2 : s.bootKept s2 := h1.work (State.parishWork.refl s1).undefOutputs
  clear_value s2
  exact State.bootKept.ite h2 h2

theorem State.bootKept.loseTasks {f : Nat} {keep : Bool} (h : s.bootKept t) : s.bootKept (t.loseTasks f keep) := by
  unfold State.loseTasks
  exact State.bootKept.frame (State.bootKept.foldl h fun v n hv =>
    State.bootKept.foldl (State.bootKept.foldl (State.bootKept.frame (hv.foldl fun _ _ h1 => h1.loseTask))
    fun _ _ h1 => h1.loseTask) fun _ _ h1 => h1.failSheafOpt)

theorem State.bootKept.loseTallies {f : Nat} {st : AccStatus} (h : s.bootKept t) : s.bootKept (t.loseTallies f st) := by
  refine State.bootKept.foldl h.frame fun v w hv => ?_
  split
  · unfold State.tallyFail
    split
    · exact State.bootKept.ite (State.bootKept.accessTrap (t := v.modThread _ _ _) hv) hv
    · exact hv
    · exact hv
  · exact hv

theorem State.bootKept.startScan {whole : Bool} {which : Nat} (h : s.bootKept t) : s.bootKept (t.startScan whole which) :=
  h.foldl fun _ _ h1 => State.bootKept.ite h1.frame h1

theorem State.bootKept.loseEngines {f : Nat} (h : s.bootKept t) : s.bootKept (t.loseEngines f) :=
  State.bootKept.startScan h.frame

/-- A field whose stack is lost is isolated without ending its fills (R93). -/
theorem State.bootKept.isolateBody_stackLost {f : Nat} {hole : Bool} (h : s.bootKept t) :
    s.bootKept (t.isolateBody f hole true) :=
  h.failFills.failReqs.loseThreads.loseTasks.loseTallies.loseEngines.frame

theorem State.bootKept.spreadLoss {f : Nat} (h : s.bootKept t) : s.bootKept (t.spreadLoss f) := by
  have hgen : s.bootKept (if t.getF RF.WFR_SPREAD_GEN_GEN 0 0 % 2 = 0 then t.addWrap RF.WFR_SPREAD_GEN_GEN 0 0 1 else t) :=
    State.bootKept.ite h.frame h
  exact State.bootKept.ite hgen.frame h

theorem State.bootKept.routesDirty (h : s.bootKept t) : s.bootKept t.routesDirty := by
  have hgen : s.bootKept (if t.getF RF.WFR_SEAM_GEN_GEN 0 0 % 2 = 0 then t.addWrap RF.WFR_SEAM_GEN_GEN 0 0 1 else t) :=
    State.bootKept.ite h.frame h
  exact hgen.frame

/-! ### The loss of a stack at its training (R405, R716) -/

/-- A retirement during bring-up, of a field whose stack is lost. -/
theorem State.bootKept.retireNow_stackLost {f loss : Nat} (h : s.bootKept t) :
    s.bootKept (t.retireNow f causeHbm loss false true) := by
  unfold State.retireNow
  extract_lets was before par slot s1
  have h1 : s.bootKept s1 := h.frame
  clear_value s1
  split
  extract_lets post s2 commons s3 s4
  have h2 : s.bootKept s2 := h1.setF
  clear_value commons s2
  have h3 : s.bootKept s3 := State.bootKept.ite h2.isolateBody_stackLost h2.frame
  clear_value s3
  exact h3.spreadLoss.routesDirty

theorem State.bootKept.stackLoss {f cause pc lane : Nat} (h : s.bootKept t) :
    s.bootKept (t.stackLoss f cause pc lane true) := by
  unfold State.stackLoss
  extract_lets s1 s2
  have h1 : s.bootKept s1 := h.frame
  clear_value s1
  have h2 : s.bootKept s2 := State.bootKept.ite h1.frame h1
  clear_value s2
  exact State.bootKept.ite h2.frame (State.bootKept.ite h2 (State.bootKept.ite h2.frame h2.retireNow_stackLost))

end

end Sys2Proof.Machine

/-! Bring-up (O1): the end of a stage, and the commands of stages 0 to 4. -/

namespace Sys2Proof.Machine

/-- A state that differs from another in registers of a list only. -/
structure State.regsOnly (l : List Reg) (s t : State) : Prop where
  eq : t = { s with regs := t.regs }
  regs : s.onlyRegs l t

section
variable {s t u : State} {l : List Reg}

theorem State.regsOnly.refl (l : List Reg) (s : State) : State.regsOnly l s s := ⟨rfl, s.onlyRegs_refl l⟩

theorem State.regsOnly.trans (h : State.regsOnly l s t) (k : State.regsOnly l t u) : State.regsOnly l s u :=
  ⟨by rw [k.eq, h.eq], h.regs.trans k.regs⟩

theorem State.regsOnly.wr (h : State.regsOnly l s t) {r : Reg} (hr : r ∈ l) (i n : Nat) (v : Word) :
    State.regsOnly l s (t.wr r i n v) :=
  h.trans ⟨rfl, t.onlyRegs_wr i n v hr⟩

theorem State.regsOnly.setF (h : State.regsOnly l s t) {x : RF} (hx : x.reg ∈ l) (i n v : Nat) :
    State.regsOnly l s (t.setF x i n v) :=
  h.wr hx i n _

theorem State.regsOnly.setFlag (h : State.regsOnly l s t) {x : RF} (hx : x.reg ∈ l) (i n : Nat) (b : Bool) :
    State.regsOnly l s (t.setFlag x i n b) :=
  h.setF hx i n _

theorem State.regsOnly.ite {c : Prop} [Decidable c] (ht : State.regsOnly l s t) (hu : State.regsOnly l s u) :
    State.regsOnly l s (if c then t else u) := by
  split <;> assumption

theorem State.regsOnly.foldl {A : Type} {as : List A} {step : State → A → State} (h : State.regsOnly l s t)
    (hstep : ∀ v a, State.regsOnly l s v → State.regsOnly l s (step v a)) : State.regsOnly l s (as.foldl step t) := by
  induction as generalizing t with
  | nil => exact h
  | cons a r ih => exact ih (hstep t a h)

/-! ### A stage begins (R710, R725) -/

/-- The next stage has begun. -/
structure State.stageEntered (st : BootStage) (s t : State) : Prop where
  eq : t = { s with
    serial := t.serial
    regs := t.regs
    boot := { s.boot with stage := st, stageStart := s.now } }
  regs : s.onlyRegs [.WFR_BOOT_STATUS] t

theorem State.stageEntered_stageBegin (s : State) (st : BootStage) : State.stageEntered st s (s.stageBegin st) :=
  ⟨rfl, (s.onlyRegs_setF (f := bootF 0 4) 0 0 _ (List.mem_singleton_self _)).trans
    (State.onlyRegs_setF _ (f := bootF 32 32) 0 0 _ (List.mem_singleton_self _))⟩

/-- The duration of the present stage is recorded. -/
def State.durationNoted (s : State) : State :=
  s.fresh.2.setF (bootF (16 * (stageCode s.boot.stage % 4)) 16) 0 (1 + stageCode s.boot.stage / 4)
    (min 0xFFFF (roundOpen s.serial 0 (s.now - s.boot.stageStart) 1000000))

theorem State.stageEntered_nextStage (s : State) (st : BootStage) : State.stageEntered st s (s.nextStage st) := by
  have heq : s.nextStage st = s.durationNoted.stageBegin st := rfl
  have hnoted : s.onlyRegs [.WFR_BOOT_STATUS] s.durationNoted :=
    State.onlyRegs_setF s.fresh.2 0 _ _ (List.mem_singleton_self _)
  have hframe : s.durationNoted = { s with serial := s.serial + 1, regs := s.durationNoted.regs } := rfl
  rw [heq]
  generalize s.durationNoted = t at *
  have h := t.stageEntered_stageBegin st
  exact ⟨by rw [h.eq, hframe], hnoted.trans h.regs⟩

theorem State.stageEntered.stage {st : BootStage} (h : State.stageEntered st s t) : t.boot.stage = st := by rw [h.eq]

/-! ### Stage 0 (R559, R710, R713) -/

/-- The hearth stage starts at t0. -/
def State.hearthStarted (s : State) : State :=
  (s.modBoot (fun b => { b with
    stage := .hearth, t0 := s.now, stageStart := s.now, cold := false, hearthAlive := false
    planeCharged := false })).modHearth (fun h => { h with restart := none, qualified := false, started := s.now })

/-- What a power-up shows. -/
def State.powerShown (s : State) : State :=
  ((s.addWrap RF.HRT_SYS_STATE_POWER_UPS 0 0 1).setFlag (bootF 10 1) 0 0 true).setF (bootF 0 16) 0 3 0xFFFF

theorem State.regsOnly_powerShown (s : State) : State.regsOnly [.HRT_SYS_STATE, .WFR_BOOT_STATUS] s s.powerShown :=
  (((State.regsOnly.refl _ s).setF (x := RF.HRT_SYS_STATE_POWER_UPS) (by decide) 0 0 _).setFlag (x := bootF 10 1)
    (by decide) 0 0 _).setF (x := bootF 0 16) (by decide) 0 3 _

theorem exec_powerUp_of_off (hoff : s.boot.stage = .off) (hsave : s.saving = false) (hrestart : s.hearth.restart = none) :
    exec .powerUp s = .next s.hearthStarted.powerShown := by
  show execPowerUp s = _
  unfold execPowerUp
  rw [if_neg (by simp [hoff, hsave, hrestart])]
  rfl

theorem exec_hearthAlive (strap : BitVec 3) (hstage : s.boot.stage = .hearth) (hdead : s.boot.hearthAlive = false) :
    exec (.hearthAlive strap) s = .next ((s.modBoot (fun b => { b with hearthAlive := true })).setF
      RF.GPIO_STAT_SMB_ADDR 0 0 (0x58 + strap.toNat)) :=
  if_neg (by simp [hstage, hdead])

theorem exec_planeCharged (hstage : s.boot.stage = .hearth) (halive : s.boot.hearthAlive = true) :
    exec .planeCharged s = .next (s.modBoot (fun b => { b with planeCharged := true })) :=
  if_neg (by simp [hstage, halive])

/-- The hold-up estimate is shown. -/
def State.holdupShown (s : State) (cap : Nat) (low : Bool) : State :=
  ((s.setF RF.HRT_HOLDUP_CAPACITANCE 0 0 cap).setFlag RF.HRT_HOLDUP_HOLDUP_LOW 0 0 low).setFlag
    RF.HRT_HOLDUP_CHECKED 0 0 true |>.setFlag (bootF 11 1) 0 0 low

theorem State.regsOnly_holdupShown (s : State) (cap : Nat) (low : Bool) :
    State.regsOnly [.HRT_HOLDUP, .WFR_BOOT_STATUS] s (s.holdupShown cap low) :=
  ((((State.regsOnly.refl _ s).setF (x := RF.HRT_HOLDUP_CAPACITANCE) (by decide) 0 0 _).setFlag
    (x := RF.HRT_HOLDUP_HOLDUP_LOW) (by decide) 0 0 _).setFlag (x := RF.HRT_HOLDUP_CHECKED) (by decide) 0 0 _).setFlag
    (x := bootF 11 1) (by decide) 0 0 _

theorem State.fields_holdupShown (s : State) {cap : Nat} (hcap : cap < 65536) (low : Bool) :
    (s.holdupShown cap low).getF RF.HRT_HOLDUP_CAPACITANCE 0 0 = cap ∧
      (s.holdupShown cap low).flag RF.HRT_HOLDUP_HOLDUP_LOW 0 0 = low := by
  unfold State.holdupShown
  refine ⟨?_, ?_⟩ <;>
    simp (disch := decide) only [State.flag, State.setFlag, State.getF_setF_reg, State.getF_setF_disjoint]
  · exact State.getF_setF_fits _ 0 0 hcap (by decide)
  · exact State.flag_setFlag_same _ RF.HRT_HOLDUP_HOLDUP_LOW 0 0 low (by decide) rfl

theorem exec_holdupCheckDone (cap : BitVec 16) (hstage : s.boot.stage = .hearth) (hcharged : s.boot.planeCharged = true) :
    exec (.holdupCheckDone cap) s = .next (((s.holdupShown cap.toNat (decide (cap.toNat < 680))).nextStage .reeve).modReeve
      (fun r => { r with startedAt := s.now })) :=
  if_neg (by simp [hstage, hcharged])

/-! ### Stage 1 (R578, R714) -/

/-- A slot boots on a power-up: nothing waits to be confirmed. -/
structure State.slotBooted (s t : State) : Prop where
  eq : t = { s with regs := t.regs, reeve := t.reeve }
  regs : s.onlyRegs [.RVE_IMAGES] t
  booted : t.getF RF.RVE_IMAGES_BOOTED 0 0 = 0

/-- The registers of a slot that boots. -/
def State.imageShown (s : State) (slot versions : Nat) : State :=
  (s.setF RF.RVE_IMAGES_BOOTED 0 0 slot).setF RF.RVE_IMAGES_VERSIONS 0 0 versions

theorem State.slotBooted_imageShown (s : State) (versions : Nat) (g : Reeve → Reeve) :
    s.slotBooted ((s.imageShown 0 versions).modReeve g) := by
  refine ⟨rfl, (s.onlyRegs_setF (f := RF.RVE_IMAGES_BOOTED) 0 0 0 (by decide)).trans
    (State.onlyRegs_setF _ (f := RF.RVE_IMAGES_VERSIONS) 0 0 _ (by decide)), ?_⟩
  exact (State.getF_setF_disjoint _ (f := RF.RVE_IMAGES_VERSIONS) (g := RF.RVE_IMAGES_BOOTED) 0 0 _ rfl (by decide)
    (by decide)).trans (s.getF_setF_fits 0 0 (by decide) (by decide))

theorem State.slotBooted_bootSlot (hcold : s.boot.cold = false) : s.slotBooted (s.bootSlot 0) := by
  unfold State.bootSlot
  rw [hcold]
  exact s.slotBooted_imageShown _ _

/-- What stage 1 loads. -/
structure State.stageLoaded (s t : State) : Prop where
  eq : t = { s with serial := t.serial, regs := t.regs, hearth := t.hearth }
  regs : s.onlyRegs [.HRT_SYS_ID, .VRN_PORTp_CTL, .FAB_NUM, .HRT_LEDGER_LAST, .WFR_BOOT_STATUS] t

theorem State.regsOnly_defaultPorts (s : State) : State.regsOnly [.VRN_PORTp_CTL] s s.defaultPorts := by
  have hone {v : State} (h : State.regsOnly [.VRN_PORTp_CTL] s v) (p mask : Nat) : State.regsOnly [.VRN_PORTp_CTL] s
      ((v.setF RF.VRN_PORTp_CTL_MEMBERS 0 p mask).setFlag RF.VRN_PORTp_CTL_ENABLE 0 p true) :=
    (h.setF (x := RF.VRN_PORTp_CTL_MEMBERS) (by decide) 0 p _).setFlag (x := RF.VRN_PORTp_CTL_ENABLE) (by decide) 0 p _
  exact hone (hone (State.regsOnly.foldl (State.regsOnly.refl _ s) fun _ p h => hone h p _) 48 _) 49 _

theorem State.regsOnly_ledgerScan (s : State) (crcOk : Bool) :
    State.regsOnly [.HRT_LEDGER_LAST, .WFR_BOOT_STATUS] s (s.ledgerScan crcOk) := by
  have hrefl := State.regsOnly.refl [.HRT_LEDGER_LAST, .WFR_BOOT_STATUS] s
  unfold State.ledgerScan
  extract_lets s1
  have h1 : State.regsOnly [.HRT_LEDGER_LAST, .WFR_BOOT_STATUS] s s1 := by
    unfold s1
    split
    · exact hrefl.wr (by decide) 0 0 _
    · exact (((hrefl.setF (x := RF.HRT_LEDGER_LAST_SLOT) (by decide) 0 0 _).setF (x := RF.HRT_LEDGER_LAST_STATUS)
        (by decide) 0 0 _).setF (x := RF.HRT_LEDGER_LAST_CAUSE) (by decide) 0 0 _).setF (x := RF.HRT_LEDGER_LAST_SEQ)
        (by decide) 0 0 _
  clear_value s1
  exact h1.setF (x := bootF 32 16) (by decide) 0 3 _

/-- The port membership is loaded once (R459). -/
def State.portsIn (s : State) : State :=
  if s.hearth.portsLoaded then s else s.defaultPorts.modHearth (fun h => { h with portsLoaded := true })

/-- The port membership is in, and it is so noted. -/
structure State.portsShown (s t : State) : Prop where
  eq : t = { s with regs := t.regs, hearth := t.hearth }
  regs : s.onlyRegs [.VRN_PORTp_CTL] t
  loaded : t.hearth.portsLoaded = true

theorem State.regsOnly.portsShown (h : State.regsOnly [.VRN_PORTp_CTL] s t) :
    s.portsShown (t.modHearth (fun x => { x with portsLoaded := true })) :=
  ⟨by rw [h.eq]; rfl, h.regs, rfl⟩

theorem State.portsShown_portsIn (s : State) : s.portsShown s.portsIn := by
  unfold State.portsIn
  by_cases hin : s.hearth.portsLoaded = true
  · rw [if_pos hin]
    exact ⟨rfl, s.onlyRegs_refl _, hin⟩
  · rw [if_neg hin]
    exact s.regsOnly_defaultPorts.portsShown

/-- The identity of the firmware is shown at a power-up. -/
def State.systemShown (s : State) (k : Nat) : State :=
  if s.boot.cold then s
  else s.setF RF.HRT_SYS_ID_FW_VERSION 0 0 (Config.freeNat k 0) |>.setF RF.HRT_SYS_ID_BUILD 0 0 (Config.freeWord k 0).toNat

theorem State.regsOnly_systemShown (s : State) (k : Nat) : State.regsOnly [.HRT_SYS_ID] s (s.systemShown k) :=
  State.regsOnly.ite (State.regsOnly.refl _ s) (((State.regsOnly.refl _ s).setF (x := RF.HRT_SYS_ID_FW_VERSION)
    (by decide) 0 0 _).setF (x := RF.HRT_SYS_ID_BUILD) (by decide) 0 0 _)

theorem State.stageLoaded_reeveLoads (s : State) (crcOk : Bool) :
    s.stageLoaded (s.reeveLoads crcOk) ∧ (s.reeveLoads crcOk).hearth.portsLoaded = true := by
  have heq : s.reeveLoads crcOk =
      (((s.fresh.2.systemShown s.serial).portsIn).addWrap RF.FAB_NUM_EPOCH 0 0 1).ledgerScan crcOk := rfl
  have hfresh : s.fresh.2 = { s with serial := s.serial + 1 } := rfl
  have hfreshOnly : s.onlyRegs [] s.fresh.2 := fun _ _ _ _ => rfl
  rw [heq]
  generalize s.fresh.2 = b at *
  have hsystem := b.regsOnly_systemShown s.serial
  generalize b.systemShown s.serial = t at *
  obtain ⟨hpeq, hpregs, hports⟩ := t.portsShown_portsIn
  generalize t.portsIn = u at *
  have hepoch : State.regsOnly [.FAB_NUM] u (u.addWrap RF.FAB_NUM_EPOCH 0 0 1) :=
    ⟨rfl, u.onlyRegs_addWrap 0 0 1 (by decide)⟩
  generalize u.addWrap RF.FAB_NUM_EPOCH 0 0 1 = v at *
  have hledger := v.regsOnly_ledgerScan crcOk
  generalize v.ledgerScan crcOk = w at *
  refine ⟨⟨?_, ?_⟩, ?_⟩
  · rw [hledger.eq, hepoch.eq, hpeq, hsystem.eq, hfresh]
  · exact (hfreshOnly.mono (by decide)).trans ((hsystem.regs.mono (by decide)).trans ((hpregs.mono (by decide)).trans
      ((hepoch.regs.mono (by decide)).trans (hledger.regs.mono (by decide)))))
  · rw [hledger.eq, hepoch.eq]
    exact hports

theorem State.linksOnly_linksStart (s : State) : s.linksOnly s.linksStart := by
  have hpcie := State.linksOnly_foldl (fun t i => t.linksOnly_enterState (56 + i) lsPcie) (List.range 16) s
  have hstart (t : State) (k : Nat) : t.linksOnly (if t.linkTarget k = 0 then t else t.fromDown k) := by
    unfold State.fromDown
    split
    · exact ⟨rfl, t.onlyRegs_refl _⟩
    · split
      · exact t.linksOnly_enterState k lsDetect
      · exact ⟨rfl, t.onlyRegs_refl _⟩
  have hrest := State.linksOnly_foldl hstart (List.range 56)
    ((List.range 16).foldl (fun (t : State) i => t.enterState (56 + i) lsPcie) s)
  exact ⟨by
    have heq : s.linksStart = (List.range 56).foldl (fun (t : State) k => if t.linkTarget k = 0 then t else t.fromDown k)
      ((List.range 16).foldl (fun (t : State) i => t.enterState (56 + i) lsPcie) s) := rfl
    rw [heq, hrest.eq, hpcie.eq], hpcie.regs.trans hrest.regs⟩

theorem exec_reeveBootDone {badA : Option (Fin 5)} (badB : Option (Fin 5)) (crcOk : Bool) (hstage : s.boot.stage = .reeve)
    (hcold : s.boot.cold = false) (hslot : s.reeve.selected = 0) (hgood : s.slotFails 0 badA = none)
    (hlife : ((s.bootSlot 0).reeveLoads crcOk).lifecycle = lcDeployed) :
    exec (.reeveBootDone badA badB crcOk) s =
      .next ((((s.bootSlot 0).reeveLoads crcOk).nextStage .clock).linksStart) := by
  show execReeveBootDone badA badB crcOk s = _
  unfold execReeveBootDone
  rw [if_neg (by rw [hstage]; decide)]
  simp only [hcold, hslot, hgood, Bool.false_and, if_true, Bool.false_eq_true, if_false]
  rw [if_neg (by rw [hlife]; decide)]

end

end Sys2Proof.Machine

/-! Bring-up (O1), continued: the commands of stages 2 to 8. -/

namespace Sys2Proof.Machine

section
variable {s t u : State} {l : List Reg}

/-! ### Stage 3: the stacks of a row (R716) -/

/-- One stack of the row that trains. -/
def State.stackTrained (failed : List StackFail) (spares : List (FieldId × BitVec 24)) (t : State) (f : Nat) : State :=
  if t.fieldMode f = 2 then t
  else match failed.find? (fun x => decide (x.field.val = f)) with
    | some x => t.stackLoss f (if x.retrain then 5 else 1) x.pc.toNat x.lane.toNat true
    | none =>
      let t1 := (t.setF RF.HBM_ID_STATE f 0 hbmUp).setFlag RF.HBM_TRAIN_PASS f 0 true
      match spares.find? (fun x => decide (x.1.val = f)) with
      | some x => t1.setF RF.HBM_TRAIN_SPARES f 0 x.2.toNat
      | none => t1

theorem State.bootKept.stackTrained {failed : List StackFail} {spares : List (FieldId × BitVec 24)} {f : Nat}
    (h : s.bootKept t) : s.bootKept (State.stackTrained failed spares t f) := by
  unfold State.stackTrained
  refine State.bootKept.ite h ?_
  split
  · exact h.stackLoss
  · have h1 : s.bootKept ((t.setF RF.HBM_ID_STATE f 0 hbmUp).setFlag RF.HBM_TRAIN_PASS f 0 true) := h.frame
    dsimp only
    split
    · exact h1.setF
    · exact h1

/-- The stacks of the row that trains. -/
def State.rowTrained (s : State) (failed : List StackFail) (spares : List (FieldId × BitVec 24)) : State :=
  (List.range 10).foldl (fun t c => State.stackTrained failed spares t (10 * s.boot.groupsDone + c)) s

theorem State.bootKept_rowTrained (s : State) (failed : List StackFail) (spares : List (FieldId × BitVec 24)) :
    s.bootKept (s.rowTrained failed spares) :=
  (State.bootKept.refl s).foldl fun _ _ h => h.stackTrained

theorem exec_hbmGroupTrained (failed : List StackFail) (spares : List (FieldId × BitVec 24))
    (hstage : s.boot.stage = .hbm) (hfrozen : s.frozen = false) :
    exec (.hbmGroupTrained failed spares) s =
      .next (if s.boot.groupsDone = 7 then ((s.rowTrained failed spares).modBoot (fun b => { b with
        groupsDone := s.boot.groupsDone + 1 })).nextStage .seams
      else (s.rowTrained failed spares).modBoot (fun b => { b with groupsDone := s.boot.groupsDone + 1 })) :=
  if_neg (by simp [hstage, hfrozen])

/-! ### Stage 4: the seams (R717) -/

theorem State.regsOnly_seamsOpen (s : State) : State.regsOnly [.FLD_SEAMn_STATE] s s.seamsOpen := by
  refine State.regsOnly.foldl (State.regsOnly.refl _ s) fun t f ht => State.regsOnly.foldl ht fun x n hx => ?_
  split
  · exact State.regsOnly.ite hx (hx.setF (x := RF.FLD_SEAMn_STATE_STATE) (by decide) f n 0)
  · exact hx

theorem State.regsOnly.seamDown (h : State.regsOnly [.FLD_SEAMn_STATE] s t) (f n : Nat) :
    State.regsOnly [.FLD_SEAMn_STATE] s (t.seamDown f n) := by
  unfold State.seamDown
  split
  · exact (h.setF (x := RF.FLD_SEAMn_STATE_STATE) (by decide) f n 1).setF (x := RF.FLD_SEAMn_STATE_STATE) (by decide) _ _ 1
  · exact h

/-- The seams with their spare wires and the ones that trained DOWN. -/
def State.seamsShown (s : State) (failed : List (FieldId × Fin 4)) (spares : List (FieldId × Fin 4 × BitVec 4)) : State :=
  failed.foldl (fun (t : State) x => t.seamDown x.1.val x.2.val) (spares.foldl (fun (t : State) x =>
    if (neighbour x.1.val x.2.1.val).isSome then
      t.setF RF.FLD_SEAMn_STATE_SPARES_USED x.1.val x.2.1.val x.2.2.toNat
    else t) s.seamsOpen)

theorem State.regsOnly_seamsShown (s : State) (failed : List (FieldId × Fin 4)) (spares : List (FieldId × Fin 4 × BitVec 4)) :
    State.regsOnly [.FLD_SEAMn_STATE] s (s.seamsShown failed spares) :=
  State.regsOnly.foldl (State.regsOnly.foldl s.regsOnly_seamsOpen fun _ _ h =>
    State.regsOnly.ite (h.setF (x := RF.FLD_SEAMn_STATE_SPARES_USED) (by decide) _ _ _) h) fun _ _ h => h.seamDown _ _

theorem exec_seamsTrained (failed : List (FieldId × Fin 4)) (spares : List (FieldId × Fin 4 × BitVec 4))
    (hstage : s.boot.stage = .seams) (hfrozen : s.frozen = false) :
    exec (.seamsTrained failed spares) s = .next ((s.seamsShown failed spares).nextStage .selfcheck) :=
  if_neg (by simp [hstage, hfrozen])

/-! ### Stages 2 and 5 (R715, R718) -/

/-- The state at the end of the clock stage, before stage 3 begins. -/
def State.clocked (s : State) (unclocked : List FieldId) : State :=
  ((unclocked.foldl (fun (t : State) f => t.retireField f.val causeUnclocked 0 true true) s.fresh.2).clockTree).modAssay
    (fun a => { a with stampBase := Config.freeNat s.serial 0 })

theorem exec_clockStageDone {unclocked : List FieldId} (hstage : s.boot.stage = .clock)
    (hroot : unclocked.any (fun f => f.val == 4) = false) : exec (.clockStageDone unclocked) s =
      .next ((((s.clocked unclocked).setFlag RF.HRT_SHADOW_STAT_VALID 0 0 true).modBoot (fun b => { b with
        groupsDone := 0 })).nextStage .hbm) :=
  (if_neg (not_not_intro hstage)).trans (if_neg (ne_true_of_eq_false hroot))

/-- The state once every field is checked and the routes are built. -/
def State.checked (s : State) (fails : List SelfFail) : State :=
  ((List.range 80).foldl (fun (t : State) f =>
    t.selfcheckField ((fails.find? (fun x => decide (x.field.val = f))).getD (passes f))) s).routeRebuild.bootFields

theorem exec_selfcheckDone {fails : List SelfFail} (hstage : s.boot.stage = .selfcheck) (hfrozen : s.frozen = false)
    (hroot : fails.any (fun x => decide (x.field.val = 4) && x.spine) = false) :
    exec (.selfcheckDone fails) s = if (s.checked fails).fieldsInService = 0 then .next ((s.checked fails).stageBegin .halted)
      else .next ((s.checked fails).nextStage .images) :=
  (if_neg (by simp [hstage, hfrozen])).trans (if_neg (ne_true_of_eq_false hroot))

theorem State.onlyRegs.fieldsInService (h : s.onlyRegs l t) (hl : Reg.WFR_FLDf_STATUS ∉ l) :
    t.fieldsInService = s.fieldsInService := by
  unfold State.fieldsInService
  have hin : t.inService = s.inService := funext fun f => h.inService hl f
  rw [hin]

/-! ### Stage 6: the images (R719) -/

/-- A field's monitor runs its image. -/
def State.imageIn (v : Nat) (t : State) (f : Nat) : State :=
  if t.inService f then (t.setFlag RF.CRF_MON_STATUS_READY f 0 true).setF RF.CRF_MON_STATUS_VERSION f 0 v else t

theorem State.regsOnly_imageIn (v : Nat) (t : State) (f : Nat) : State.regsOnly [.CRF_MON_STATUS] t (State.imageIn v t f) :=
  State.regsOnly.ite (((State.regsOnly.refl _ t).setFlag (x := RF.CRF_MON_STATUS_READY) (by decide) f 0 true).setF
    (x := RF.CRF_MON_STATUS_VERSION) (by decide) f 0 v) (State.regsOnly.refl _ t)

theorem State.ready_imageIn_same (v : Nat) {f : Nat} (h : t.inService f = true) :
    (State.imageIn v t f).flag RF.CRF_MON_STATUS_READY f 0 = true := by
  unfold State.imageIn
  rw [if_pos h, State.flag, State.getF_setF_disjoint _ (f := RF.CRF_MON_STATUS_VERSION) (g := RF.CRF_MON_STATUS_READY) f 0
    v rfl (by decide) (by decide)]
  exact t.flag_setFlag_same RF.CRF_MON_STATUS_READY f 0 true (by decide) rfl

theorem State.ready_imageIn_other (v : Nat) {f g : Nat} (hf : f < 65536) (hg : g < 65536) (h : f ≠ g) :
    (State.imageIn v t g).flag RF.CRF_MON_STATUS_READY f 0 = t.flag RF.CRF_MON_STATUS_READY f 0 := by
  unfold State.imageIn
  split
  · unfold State.flag State.getF State.setFlag State.setF
    rw [State.rd_wr_other _ (rkey_ne_of_inst hf hg h), State.rd_wr_other _ (rkey_ne_of_inst hf hg h)]
  · rfl

theorem State.imagesIn_shown (v : Nat) {n : Nat} (hn : n ≤ 80) (s : State) :
    State.regsOnly [.CRF_MON_STATUS] s ((List.range n).foldl (State.imageIn v) s) ∧
      ∀ f < n, s.inService f = true →
        ((List.range n).foldl (State.imageIn v) s).flag RF.CRF_MON_STATUS_READY f 0 = true := by
  induction n with
  | zero => exact ⟨State.regsOnly.refl _ s, fun f hf => absurd hf (Nat.not_lt_zero f)⟩
  | succ n ih =>
    obtain ⟨honly, hready⟩ := ih (by omega)
    rw [List.range_succ, List.foldl_append, List.foldl_cons, List.foldl_nil]
    generalize (List.range n).foldl (State.imageIn v) s = t at *
    refine ⟨honly.trans (State.regsOnly_imageIn v t n), fun f hf hin => ?_⟩
    by_cases hfn : f = n
    · subst hfn
      exact State.ready_imageIn_same v ((honly.regs.inService (by decide) f).trans hin)
    · rw [State.ready_imageIn_other v (by omega) (by omega) hfn]
      exact hready f (by omega) hin

/-- The rack's stage is to begin: no membership yet (R720). -/
def State.fabricOpen (u : State) (at_ : Nat) : State :=
  { u.setF RF.FAB_STATE_STATE 0 0 fsWait with fabric := { u.fabric with
    linkUpAt := if u.fabric.linkUpAt = 0 then 0 else at_ } }

theorem State.imagesLoaded_eq (s : State) : s.imagesLoaded =
    (((List.range 80).foldl (State.imageIn (Config.freeNat s.serial 0)) s.fresh.2).fabricOpen (s.now + 1)).nextStage
      .fabric := rfl

theorem exec_imagesLoaded (hstage : s.boot.stage = .images) (hfrozen : s.frozen = false)
    (hreqs : s.imagesLoaded.commons.reqs = []) : exec .imagesLoaded s = .next s.imagesLoaded :=
  (if_neg (by simp [hstage, hfrozen])).trans
    (congrArg Host.Outcome.next (State.releaseHeld_of_none device s.imagesLoaded _ hreqs))

/-! ### Stage 7 (R720) -/

theorem exec_fabricStageTimeout (hstage : s.boot.stage = .fabric) (hfrozen : s.frozen = false)
    (hjoined : s.fabState ≠ fsJoined) (hsolo : s.fabState ≠ fsSolo) :
    exec .fabricStageTimeout s = .next (s.setFlag (bootF 15 1) 0 0 true) :=
  if_neg (by simp [hstage, hfrozen, hjoined, hsolo])

theorem exec_bootReady (hstage : s.boot.stage = .fabric) (hfrozen : s.frozen = false) (hhalt : s.halted = false)
    (hfab : s.fabState = fsJoined ∨ s.fabState = fsSolo) : exec .bootReady s = .next s.readyNow :=
  if_pos ⟨hstage, by rw [hfrozen]; rfl, by rw [hhalt]; rfl, hfab.imp_right .inl⟩

/-! ### READY (R533, R587, R721) -/

/-- From `s` to `t` only those components change that the last step of bring-up reaches beside the stage. -/
def State.readyWork (s t : State) : Prop :=
  t = { s with
    serial := t.serial, regs := t.regs, mem := t.mem, crofters := t.crofters, seq := t.seq, host := t.host
    reeve := t.reeve, power := t.power, out := t.out }

theorem State.readyWork.refl (s : State) : s.readyWork s := rfl

theorem State.readyWork.ite {c : Prop} [Decidable c] (ht : s.readyWork t) (hu : s.readyWork u) :
    s.readyWork (if c then t else u) := by
  split <;> assumption

theorem State.readyWork.foldl {A : Type} {as : List A} {g : State → A → State} (h : s.readyWork t)
    (hg : ∀ u a, s.readyWork u → s.readyWork (g u a)) : s.readyWork (as.foldl g t) := by
  induction as generalizing t with
  | nil => exact h
  | cons a r ih => exact ih (hg t a h)

theorem State.readyWork.frame {serial : Nat} {regs : List (RKey × Word)} {mem : Memory} {crofters : Crofters}
    {seq : Sequencer} {host : HostPort} {reeve : Reeve} {power : Power} {out : List OutMsg} (h : s.readyWork t) :
    s.readyWork ⟨t.now, serial, t.pending, regs, mem, t.commons, crofters, t.tallies, t.engines, t.sieves, t.cairns,
      t.looms, seq, t.boot, t.resets, t.verne, t.fabric, t.hbm, host, reeve, power, t.assay, t.bist, t.hearth, t.pins,
      t.irq, t.timeOffset, out⟩ := by
  unfold State.readyWork at h ⊢
  rw [h]

theorem State.readyWork.ptWrite {f o : Nat} {b : List Byte} (h : s.readyWork t) : s.readyWork (t.ptWrite f o b) :=
  State.readyWork.ite h.frame h.frame

theorem State.readyWork.setPageEntry {f r n page : Nat} {e : PageEntry} (h : s.readyWork t) :
    s.readyWork (t.setPageEntry f r n page e) := by
  unfold State.setPageEntry
  split
  · exact h
  · exact h.ptWrite

theorem State.readyWork.markLost {f : Nat} {bad : PageEntry → Bool} (h : s.readyWork t) : s.readyWork (t.markLost f bad) := by
  refine State.readyWork.foldl h fun v r hv => State.readyWork.ite hv ?_
  exact State.readyWork.ptWrite (State.readyWork.foldl hv fun _ _ h1 => h1.setPageEntry)

theorem State.readyWork.loseSpilled (h : s.readyWork t) : s.readyWork t.loseSpilled :=
  h.foldl fun _ _ h1 => h1.markLost

theorem State.readyWork.wr {r : Reg} {i n : Nat} {v : Word} (h : s.readyWork t) : s.readyWork (t.wr r i n v) := h.frame

theorem State.readyWork.setF {x : RF} {i n v : Nat} (h : s.readyWork t) : s.readyWork (t.setF x i n v) := h.wr

/-- The spread slots of a formation over a list of fields (R65). -/
def State.slotsFormed (s : State) (fields : List Nat) : State :=
  (List.range 80).foldl (fun (t : State) k => t.setSlotEntry k (match fields[k]? with
    | some f => f + 2 ^ 15
    | none => 0)) s

theorem State.readyWork.slotsFormed {fields : List Nat} (h : s.readyWork t) : s.readyWork (t.slotsFormed fields) :=
  h.foldl fun _ _ hv => hv.wr

theorem State.defaultSpread_eq (s : State) : s.defaultSpread =
    (((s.slotsFormed ((List.range 80).filter s.inService)).setF RF.WFR_SPREAD_SLOTS_S 0 0
      ((List.range 80).filter s.inService).length).wr .WFR_SPREAD_BASE 0 0 0#64).wr .WFR_SPREAD_SIZE 0 0 0#64 := by
  unfold State.defaultSpread State.slotsFormed
  rfl

theorem State.readyWork.defaultSpread (h : s.readyWork t) : s.readyWork t.defaultSpread := by
  rw [State.defaultSpread_eq]
  exact h.slotsFormed.setF.wr.wr

theorem State.readyWork.raise {x : RF} {i : Nat} (h : s.readyWork t) : s.readyWork (t.raise x i) := by
  rw [t.raise_frame x i]
  exact h.frame

theorem State.readyWork.pStart (h : s.readyWork t) : s.readyWork t.pStart := by
  by_cases hsame : t.pTarget = t.pCurrent
  · rw [State.pStart_of_same hsame]
    exact h
  · have hstarted : s.readyWork t.pStarted := h.frame
    rw [State.pStart_of_ne hsame, State.setNominal_frame]
    exact hstarted.frame.ite hstarted

theorem State.readyWork.takeEffect {p : Nat} (h : s.readyWork t) : s.readyWork (t.takeEffect p) := by
  refine h.foldl fun v f hv => State.readyWork.ite ?_ hv
  rw [State.setOwner_frame]
  exact hv.frame

theorem State.readyWork.releaseDoorbells (h : s.readyWork t) : s.readyWork t.releaseDoorbells := by
  refine State.readyWork.foldl h.frame fun v d hv => State.readyWork.ite hv (State.readyWork.ite hv.frame ?_)
  have hset : s.readyWork (v.setF RF.WFR_RINGr_SQ_PTR_SQ_TAIL d.1 d.2.1 d.2.2) := hv.frame
  exact State.readyWork.ite hset.frame hset

/-- The spread is formed and READY shows, before the stage is entered. -/
def State.spreadFormed (s : State) : State :=
  (if s.boot.cold then s.loseSpilled else s).defaultSpread.setFlag (bootF 4 1) 0 0 true

theorem State.readyWork_spreadFormed (s : State) : s.readyWork s.spreadFormed := by
  have hfresh : s.readyWork (if s.boot.cold then s.loseSpilled else s) :=
    State.readyWork.ite (State.readyWork.refl s).loseSpilled (State.readyWork.refl s)
  exact hfresh.defaultSpread.frame

/-- What follows the stage: the module is M-active, a recorded command is taken, parishes and doorbells go on. -/
def State.serviceBegun (t : State) : State :=
  let t1 := (t.setF RF.PWR_MOD_STAT_STATE 0 0 0).raise RF.PWR_EVENT_MODE_DONE 0
  let t2 := if t1.power.recorded then (t1.modPower (fun p => { p with recorded := false })).pStart else t1
  ((List.range 32).foldl (fun (v : State) p => if v.parishEffective p then v.takeEffect p else v) t2).releaseDoorbells

theorem State.readyWork_serviceBegun (t : State) : t.readyWork t.serviceBegun := by
  unfold State.serviceBegun
  extract_lets t1 t2
  have h1 : t.readyWork t1 := State.readyWork.raise (State.readyWork.refl t).frame
  clear_value t1
  have h2 : t.readyWork t2 := State.readyWork.ite (State.readyWork.pStart h1.frame) h1
  clear_value t2
  exact State.readyWork.releaseDoorbells (h2.foldl fun _ _ h3 => State.readyWork.ite h3.takeEffect h3)

theorem State.readyNow_eq (s : State) : s.readyNow = (s.spreadFormed.nextStage .ready).serviceBegun := rfl

end

end Sys2Proof.Machine

/-! The stages of bring-up follow one another (O1). -/

namespace Sys2Proof.Machine

section
variable {s t : State}

/-- The hold-up check is over, and the Reeve starts. -/
structure State.holdupDone (cap : Nat) (low : Bool) (s t : State) : Prop where
  stage : t.boot.stage = .reeve
  shown : t.getF RF.HRT_HOLDUP_CAPACITANCE 0 0 = cap
  low : t.flag RF.HRT_HOLDUP_HOLDUP_LOW 0 0 = low
  reeve : t.reeve = { s.reeve with startedAt := s.now }
  frame : t = { s with serial := t.serial, regs := t.regs, boot := t.boot, reeve := t.reeve }

theorem State.holdupDone_of {l : List Reg} {u : State} {cap : Nat} {low : Bool} (hshown : State.regsOnly l s t)
    (hcap : t.getF RF.HRT_HOLDUP_CAPACITANCE 0 0 = cap) (hlow : t.flag RF.HRT_HOLDUP_HOLDUP_LOW 0 0 = low)
    (h : State.stageEntered .reeve t u) :
    State.holdupDone cap low s (u.modReeve (fun r => { r with startedAt := s.now })) where
  stage := h.stage
  shown := (h.regs.getF (x := RF.HRT_HOLDUP_CAPACITANCE) (by decide) 0 0).trans hcap
  low := (h.regs.flag (x := RF.HRT_HOLDUP_HOLDUP_LOW) (by decide) 0 0).trans hlow
  reeve := by
    rw [h.eq, hshown.eq]
    rfl
  frame := by
    rw [h.eq, hshown.eq]
    rfl

/-- The images' stage is over: what changed, and the fields whose monitor runs. -/
structure State.imagesDone (s t : State) : Prop where
  stage : t.boot.stage = .fabric
  reqs : t.commons.reqs = s.commons.reqs
  waiting : t.fabState = fsWait
  ready : ∀ f < 80, s.inService f = true → t.flag RF.CRF_MON_STATUS_READY f 0 = true

theorem State.imagesDone_imagesLoaded (s : State) : s.imagesDone s.imagesLoaded := by
  rw [State.imagesLoaded_eq]
  obtain ⟨honly, hready⟩ := State.imagesIn_shown (Config.freeNat s.serial 0) (Nat.le_refl 80) s.fresh.2
  generalize (List.range 80).foldl (State.imageIn (Config.freeNat s.serial 0)) s.fresh.2 = t at *
  have hopen : t.onlyRegs [.FAB_STATE] (t.fabricOpen (s.now + 1)) :=
    t.onlyRegs_setF (f := RF.FAB_STATE_STATE) 0 0 fsWait (by decide)
  have hwait : (t.fabricOpen (s.now + 1)).fabState = fsWait :=
    t.getF_setF_fits (x := RF.FAB_STATE_STATE) 0 0 (v := fsWait) (by decide) (by decide)
  have hreqs : (t.fabricOpen (s.now + 1)).commons.reqs = t.commons.reqs := rfl
  generalize t.fabricOpen (s.now + 1) = u at *
  have h := u.stageEntered_nextStage .fabric
  generalize u.nextStage .fabric = v at *
  exact {
    stage := h.stage
    reqs := by
      rw [h.eq, hreqs, honly.eq]
      rfl
    waiting := (h.regs.getF (x := RF.FAB_STATE_STATE) (by decide) 0 0).trans hwait
    ready := fun f hf hin => (h.regs.flag (by decide) f 0).trans
      ((hopen.flag (by decide) f 0).trans (hready f hf hin)) }

theorem State.stage_readyNow (s : State) : s.readyNow.boot.stage = .ready ∧ s.readyNow = { s with
    serial := s.readyNow.serial, regs := s.readyNow.regs, mem := s.readyNow.mem, crofters := s.readyNow.crofters
    seq := s.readyNow.seq, boot := s.readyNow.boot, host := s.readyNow.host, reeve := s.readyNow.reeve
    power := s.readyNow.power, out := s.readyNow.out } := by
  rw [State.readyNow_eq]
  have hformed : s.spreadFormed = _ := s.readyWork_spreadFormed
  generalize s.spreadFormed = t at *
  have hstage := t.stageEntered_nextStage .ready
  generalize t.nextStage .ready = u at *
  have hbegun : u.serviceBegun = _ := u.readyWork_serviceBegun
  generalize u.serviceBegun = v at *
  refine ⟨?_, ?_⟩
  · rw [hbegun]
    exact hstage.stage
  · rw [hbegun, hstage.eq, hformed]

end

/-- Settles O1. That the shadow of the ledger is valid from the end of the clock stage is log 197 (DEDUCED), the clock
tree and the seams it is built over log 185 (DEDUCED): the model's choices. -/
theorem bringupStagesAdvance : Obligations.BringupStagesAdvance := by
  refine ⟨?power, ?alive, ?charged, ?holdup, ?reeve, ?clock, ?hbm, ?seams, ?selfcheck, ?images, ?timeout, ?ready⟩
  case power =>
    rintro s ⟨hoff, hsave, hrestart⟩
    refine ⟨_, exec_powerUp_of_off hoff hsave hrestart, ?_⟩
    have h := s.hearthStarted.regsOnly_powerShown
    generalize s.hearthStarted.powerShown = t at *
    refine ⟨⟨?_, ?_, ?_⟩, ?_⟩
    · rw [h.eq]
      rfl
    · rw [h.eq]
      rfl
    · rw [h.eq]
      rfl
    · rw [h.eq]
      rfl
  case alive =>
    rintro strap s ⟨hstage, hdead⟩
    have hfits : 0x58 + strap.toNat < 2 ^ RF.GPIO_STAT_SMB_ADDR.w := by
      have := strap.isLt
      show _ < 2 ^ 7
      omega
    exact ⟨_, exec_hearthAlive strap hstage hdead, ⟨rfl, State.getF_setF_fits _ 0 0 hfits (by decide)⟩, rfl,
      State.onlyRegs_setF (s.modBoot _) 0 0 _ (by decide)⟩
  case charged =>
    rintro s ⟨hstage, halive⟩
    exact ⟨_, exec_planeCharged hstage halive, rfl, rfl⟩
  case holdup =>
    rintro cap s ⟨hstage, hcharged⟩
    obtain ⟨hshow, hlow⟩ := s.fields_holdupShown (cap := cap.toNat) cap.isLt (decide (cap.toNat < 680))
    have hshown := s.regsOnly_holdupShown cap.toNat (decide (cap.toNat < 680))
    have h := State.holdupDone_of hshown hshow hlow (State.stageEntered_nextStage _ .reeve)
    exact ⟨_, exec_holdupCheckDone cap hstage hcharged, ⟨h.stage, h.shown, h.low, h.reeve⟩, h.frame⟩
  case reeve =>
    rintro badA badB crcOk s ⟨hstage, hcold, hlife, hslot, hgood⟩
    have hboot := State.slotBooted_bootSlot hcold
    obtain ⟨hload, hports⟩ := (s.bootSlot 0).stageLoaded_reeveLoads crcOk
    have hlife' : ((s.bootSlot 0).reeveLoads crcOk).lifecycle = lcDeployed :=
      (hload.regs.getF (by decide) 0 0).trans ((hboot.regs.getF (by decide) 0 0).trans hlife)
    refine ⟨_, exec_reeveBootDone badB crcOk hstage hcold hslot hgood hlife', ?_⟩
    generalize (s.bootSlot 0).reeveLoads crcOk = u at *
    generalize s.bootSlot 0 = t at *
    have henter := u.stageEntered_nextStage .clock
    generalize u.nextStage .clock = v at *
    have hlinks := v.linksOnly_linksStart
    generalize v.linksStart = w at *
    refine ⟨⟨?_, ?_, ?_⟩, ?_⟩
    · rw [hlinks.eq]
      exact henter.stage
    · exact (hlinks.regs.getF (by decide) 0 0).trans ((henter.regs.getF (by decide) 0 0).trans
        ((hload.regs.getF (by decide) 0 0).trans hboot.booted))
    · rw [hlinks.eq, henter.eq]
      exact hports
    · rw [hlinks.eq, henter.eq, hload.eq, hboot.eq]
  case clock =>
    rintro unclocked s ⟨hstage, hroot⟩
    refine ⟨_, exec_clockStageDone hstage hroot, ?_⟩
    generalize s.clocked unclocked = t
    have hvalid : ((t.setFlag RF.HRT_SHADOW_STAT_VALID 0 0 true).modBoot (fun b => { b with groupsDone := 0 })).flag
        RF.HRT_SHADOW_STAT_VALID 0 0 = true := t.flag_setFlag_same _ 0 0 true (by decide) rfl
    generalize (t.setFlag RF.HRT_SHADOW_STAT_VALID 0 0 true).modBoot (fun b => { b with groupsDone := 0 }) = u at *
    have h := u.stageEntered_nextStage .hbm
    exact ⟨h.stage, (h.regs.flag (by decide) 0 0).trans hvalid⟩
  case hbm =>
    rintro failed spares s ⟨hstage, hfrozen⟩
    refine ⟨_, exec_hbmGroupTrained failed spares hstage hfrozen, ?_⟩
    have hkept : (s.rowTrained failed spares).boot = s.boot := s.bootKept_rowTrained failed spares
    have hboot : ((s.rowTrained failed spares).modBoot (fun b => { b with
        groupsDone := s.boot.groupsDone + 1 })).boot = { s.boot with groupsDone := s.boot.groupsDone + 1 } := by
      rw [← hkept]
      rfl
    generalize (s.rowTrained failed spares).modBoot (fun b => { b with groupsDone := s.boot.groupsDone + 1 }) = t at *
    by_cases hlast : s.boot.groupsDone = 7
    · have h := t.stageEntered_nextStage .seams
      rw [if_pos hlast, if_pos hlast]
      refine ⟨?_, h.stage⟩
      rw [h.eq]
      exact congrArg Boot.groupsDone hboot
    · rw [if_neg hlast, if_neg hlast, hboot]
      exact ⟨rfl, hstage⟩
  case seams =>
    rintro failed spares s ⟨hstage, hfrozen⟩
    refine ⟨_, exec_seamsTrained failed spares hstage hfrozen, ?_⟩
    have hshown := s.regsOnly_seamsShown failed spares
    generalize s.seamsShown failed spares = t at *
    have h := t.stageEntered_nextStage .selfcheck
    refine ⟨h.stage, ?_⟩
    rw [h.eq, hshown.eq]
  case selfcheck =>
    rintro fails s ⟨hstage, hfrozen, hroot⟩
    rw [exec_selfcheckDone hstage hfrozen hroot]
    generalize s.checked fails = t
    by_cases hnone : t.fieldsInService = 0
    · have h := t.stageEntered_stageBegin .halted
      refine ⟨_, if_pos hnone, h.stage.trans (if_pos ?_).symm⟩
      exact (h.regs.fieldsInService (by decide)).trans hnone
    · have h := t.stageEntered_nextStage .images
      refine ⟨_, if_neg hnone, h.stage.trans (if_neg fun e => hnone ?_).symm⟩
      exact (h.regs.fieldsInService (by decide)).symm.trans e
  case images =>
    rintro s ⟨hstage, hfrozen, hreqs⟩
    have h := s.imagesDone_imagesLoaded
    exact ⟨_, exec_imagesLoaded hstage hfrozen (h.reqs.trans hreqs), h.stage, h.waiting, h.ready⟩
  case timeout =>
    rintro s ⟨hstage, hfrozen, hjoined, hsolo⟩
    exact ⟨_, exec_fabricStageTimeout hstage hfrozen hjoined hsolo,
      s.flag_setFlag_same (bootF 15 1) 0 0 true (by decide) rfl, rfl⟩
  case ready =>
    rintro s ⟨hstage, hfrozen, hhalt, hfab⟩
    obtain ⟨hready, hframe⟩ := s.stage_readyNow
    exact ⟨_, exec_bootReady hstage hfrozen hhalt hfab, hready, hframe⟩

end Sys2Proof.Machine
